-- ==== Sys2Proof/Word.lean ====
section
/-!
DEFINITION. The native word, its tag, and the tagged word (R52 to R62).
-/
namespace Sys2Proof

/-- The 48-bit native word (R59). -/
abbrev Word := BitVec 48

/-- The 2-bit tag (R52). -/
abbrev Tag := BitVec 2

/-- A tagged word: 48 data bits and a 2-bit tag (R52). -/
structure TWord where
  data : Word
  tag : Tag
deriving DecidableEq, Repr

/-- Tag 0b00: data. -/
def tagData : Tag := 0#2
/-- Tag 0b01: data, end of packet. -/
def tagEnd : Tag := 1#2
/-- Tag 0b10: not valid. -/
def tagInvalid : Tag := 2#2
/-- Tag 0b11: retracted. -/
def tagRetracted : Tag := 3#2

/-- The word hardware produces when there is none: data 0, tag 0b10 (R53). -/
def noWord : TWord := ⟨0#48, tagInvalid⟩

/-- A data word with tag 0b00. -/
def dataWord (w : Nat) : TWord := ⟨BitVec.ofNat 48 w, tagData⟩

/-- Bits `hi` down to `lo` of a number, as a number. -/
def bits (w hi lo : Nat) : Nat := w / 2 ^ lo % 2 ^ (hi + 1 - lo)

/-- Bit `k` of a number. -/
def bit (w k : Nat) : Bool := w / 2 ^ k % 2 == 1

/-- 1 for true, 0 for false. -/
def b2n (b : Bool) : Nat := if b then 1 else 0

end Sys2Proof
end

