-- ==== Sys2Proof/Syntax.lean ====
section
/-!
DEFINITION. The commands of the block: one constructor of `Instr` per row of the opcode table, and the types of their
operands.
-/
namespace Sys2Proof

/-- The operations of a request transaction (Table 8-8). -/
inductive TxnOp where
  | read | write | narrowWrite | add | swap
deriving DecidableEq, Repr

/-- What the loader takes from the flash's SFDP basic parameter table (R360): whether its addresses have 4 bytes, and which of the
read modes 1S-1S-4S, 1S-4S-4S and 8S-8S-8S it lists; 1S-1S-1S always works. -/
structure Sfdp where
  addr4 : Bool
  m114 : Bool
  m144 : Bool
  m888 : Bool
deriving DecidableEq, Repr

/-- The virtual channels (Table 9-4). -/
inductive VC where
  | responses | posted | requests | streams
deriving DecidableEq, Repr

/-- Of which a soft repair entry comes (R315, R814): a packet with its tag, or the firmware's own, with the entry. -/
inductive RepairFrom where
  | packet (tag : Nat)
  | firmware (entry : Nat)
deriving DecidableEq, Repr

/-- A word written to a control register whose EN claims lanes, with the role link (0 to 2) that claims its own in the same owner
cycle, if one does (R642). -/
structure OwnerWrite where
  word : TWord
  role : Option Nat
deriving DecidableEq, Repr

/-- What comes beside a HELLO cell: whether its sender is PRIMARY (R935), and the 64b/66b blocks that the lanes of the link have
received, a list for each lane, where the sender of the command shows them (R666, R670). -/
structure HelloRx where
  primary : Bool
  lanes : List (List (Nat × Nat))
deriving DecidableEq, Repr

/-- A request transaction of the package transport (R432, R433). `sub` names the part of the master that issued it:
the outbound port of an island, the context of an engine. `len` is 1 to 64; `laneW` is 24, 12 or 6 in a NARROW_WRITE. -/
structure Txn where
  op : TxnOp
  srcDie : Nat
  master : Nat
  rtag : Nat
  addr : Nat
  len : Nat
  laneW : Nat
  lane : Nat
  words : List TWord
  vc : VC
  sub : Nat
deriving DecidableEq, Repr

/-- A response transaction: STATUS 0 performed, 1 unmapped, 2 refused, 3 aborted (Table 8-8). -/
structure Resp where
  atomic : Bool
  srcDie : Nat
  master : Nat
  rtag : Nat
  status : Nat
  words : List TWord
deriving DecidableEq, Repr

/-- An access offered at a block-memory port (R237). `consec` is true where this edge follows directly the edge of the
port's previous access (R307); `mid` where it falls after the first edge of the other port's last access and before t_COLL
after the edge that follows it (R323). -/
structure PortReq where
  we : Bool
  addr : Nat
  wdata : Word
  wtag : Tag
  consec : Bool
  mid : Bool
deriving DecidableEq, Repr

/-- The turn of a queued write-back: an address of the memory that it belongs to, and in a block memory port A's access at the same
edge, which port is first where the two collide, and whether the edge is a steal cycle (R302, R244, R245). -/
structure WbTurn where
  pa : Nat
  qa : Option PortReq
  bFirst : Bool
  steal : Bool
deriving DecidableEq, Repr

/-- A hardware action on a register field in the owner cycle of a software access (Table 2-11). -/
inductive HwAct where
  | set (hi lo : Nat)
  | clear (hi lo : Nat)
  | update (hi lo v : Nat)
  | count (hi lo n : Nat)
deriving DecidableEq, Repr

/-- What the steps of a bundle's training find (Table 8-12): per side of the bundle (first and second die of Table 8-2,
as receivers), the wires that fail the lane test, and of the clocks 0 IXCLK good, 1 only IXCLK_SP good, 2 none good. -/
structure TrainResult where
  badA : List Nat
  badB : List Nat
  clkA : Nat
  clkB : Nat
deriving DecidableEq, Repr

/-- A datagram received at MAC[0] (R783): addresses, VLAN tag, UDP port of the sender, whether it is an IPv4 datagram without
options and not a fragment, and its UDP payload. -/
structure Datagram where
  dstMac : Nat
  srcMac : Nat
  vlan : Nat
  srcIp : Nat
  dstIp : Nat
  srcPort : Nat
  dstPort : Nat
  plain : Bool
  payload : List Nat
deriving DecidableEq, Repr

/-- A command of the package: one constructor per row of the opcode table, in its order. The operands that recur: `d` a die;
`i` an island, a coder instance; `p` a port, a pin, a preamble; `c` a channel, a core, a DRAM channel, a cluster; `l` a Saette
link; `n` a lane, a unit, a count; `cell` a Saette cell; `w` the word and tag of a register write; `hwClear`, `acts` what
hardware does to the register in the same cycle; `tr`, `tag` a Caben transport and packet tag; `t` a transaction as it arrives;
other operands give what comes from outside the package, or what the spec leaves to a measurement (log 6). -/
inductive Instr where
  /-- POWER_ON_RESET (R1037): A supply falling below its POR threshold, or POR_N held low for at least 1 µs, asserts the
  power-on reset of the device. -/
  | powerOnReset (cause rail : Nat)
  /-- POWER_ON_RESET_RELEASE (R1038): Once every supply has stayed in range for 2 ms with POR_N high, the power-on reset is
  released and the time base starts. -/
  | powerOnResetRelease (role boot devnum banks : Nat) (cool : Bool)
  /-- BOOT_ROM_START (R1047): When hardware start ends, the boot ROM reads SFDP and the directory and tries the update and
  then the golden firmware slot. -/
  | bootRomStart (sfdp : Option Sfdp)
  /-- FIRMWARE_START (R1051): Phase 4: the firmware resolves the journal, reads NV settings, writes DEVNUM_HIGH, applies
  soft repair and sends the first voltage request, then starts image load, DRAM and links. -/
  | firmwareStart (vmode : Option Nat)
  /-- START_UP_RELEASE (R1052): After the image loads, islands are released, cores run, and the firmware sets OUT_EN and
  LINE_READY in one register cycle. -/
  | startUpRelease
  /-- DEVICE_RESET (R1039): A device reset clears OUT_EN, completes a page program, puts DRAM in self refresh, gates clocks
  and resets the blocks of Table 19-3. -/
  | deviceReset
  /-- SYS_RESET_N_LOW (R1037): SYS_RESET_N held low for at least 1 µs requests a device reset. -/
  | sysResetNLow
  /-- DEV_RESET_WRITE (R1074): A write of 1 to DEV_RESET starts a device reset. -/
  | devResetWrite (w : TWord) (acts : List HwAct)
  /-- DEVICE_RESET_RELEASE (R1040): On release, islands are reset or the image reloaded, and start-up resumes from the boot
  ROM. -/
  | deviceResetRelease
  /-- FW_RESTART (R1074): A write of 1 to FW_RESTART starts a Maltster restart. -/
  | fwRestart (w : TWord) (acts : List HwAct)
  /-- MALTSTER_RESTART (R1041): The Maltster restarts from the boot ROM while island logic, cores, streams, links, DRAM and
  line outputs run on. -/
  | maltsterRestart
  /-- WATCHDOG_KICK (R1076): A write of 1 to KICK restarts the Maltster watchdog. -/
  | watchdogKick (w : TWord)
  /-- WATCHDOG_EXPIRY (R1048): A watchdog expiry raises maltster-watchdog and performs a Maltster restart, skipping or
  marking broken slots on repeats. -/
  | watchdogExpiry
  /-- SUPPLY_OUT_OF_RANGE (R1033): A supply leaving its range above its POR threshold clears its SUP_STAT bit and raises
  supply-out-of-range. -/
  | supplyOutOfRange (rail : Nat)
  /-- VOUT_COMMAND (R1056): A voltage request is sent to the regulator at CORE_ADDR, at once for a rise or after 1 ms of
  holding for a fall. -/
  | voutCommand (ack pec : Bool)
  /-- READ_VOUT (R1057): Every 200 µs while unsettled the device reads READ_VOUT and sets SETTLED once within 10 mV. -/
  | readVout (raw : Nat) (good : Bool)
  /-- VOLTAGE_SETTLE_TIMEOUT (R1071): A request not settled within 1 ms raises pmbus-error and is retried, with requests
  disabled after three failures. -/
  | voltageSettleTimeout
  /-- PMBUS_TELEMETRY_POLL (R1054): Every 100 ms READ_IOUT and READ_TEMPERATURE_1 are read into PMB_STAT. -/
  | pmbusTelemetryPoll (iout temp : Nat) (good : Bool)
  /-- PM_ALERT (R1071): A fall of PM_ALERT_N reads STATUS_WORD into PMB_STAT and raises pmbus-error. -/
  | pmAlert (status : Nat) (good : Bool)
  /-- THERMAL_SENSOR_READ (R1059): Every 100 µs each die's sensors are read and the die's thermal level is updated. -/
  | thermalSensorRead (d : Nat) (ts : List Int)
  /-- ORDERLY_SHUTDOWN (R1061): At 115 °C the device clears OUT_EN, completes a page program, parks DRAM and gates clocks,
  lanes and bundles. -/
  | orderlyShutdown
  /-- THERMAL_TRIP (R1063): At 120 °C an analog comparator asserts power-on reset of every die, drives THERM_N low and sets
  the trip latch. -/
  | thermalTrip
  /-- AUTO_RESTART (R1062): With AUTO_RESTART = 1, once every die has stayed below 95 °C for 1 s, a device reset with reload
  is performed. -/
  | autoRestart
  /-- HEAD_LINK_LOSS (R42): A head end that loses its followed head-cable link keeps firing accepted schedules for LINK_HOLD
  ms. -/
  | headLinkLoss
  /-- LINK_HOLD_EXPIRY (R42): At the end of LINK_HOLD the head end clears OUT_EN and drives line outputs to their safe-state
  levels. -/
  | linkHoldExpiry
  /-- HEAD_LINK_SWITCH (R25): A head end with two links switches to the link whose peer reports itself active. -/
  | headLinkSwitch (complete : Bool)
  /-- MARK_SCHEDULE_WORD (R41): A mark-schedule word reaching a head end is accepted only from the followed link and only
  after a switch completes. -/
  | markScheduleWord (l cell : Nat)
  /-- ROLE_LINK_RETRY (R45): Once a second a closed role link retries its open after a role mismatch or lane-claim refusal.
  -/
  | roleLinkRetry (l : Nat)
  /-- OUT_EN_WRITE (R39): A software write of OUT_EN is stored but cleared at once while a condition of Table 1-1 is unmet.
  -/
  | outEnWrite (w : TWord) (hwClear : Bool)
  /-- REGISTER_WRITE (R76): A write to a register with no behaviour of its own stores its writable fields under the access
  codes. -/
  | registerWrite (d loc : Nat) (w : TWord) (narrow : Bool) (acts : List HwAct)
  /-- ISL_CLK_CTL_WRITE (R146): A write of TARGET, FLOOR or VCAP is clamped, stored, redirects the running code and may
  lower VREQ. -/
  | islClkCtlWrite (d i : Nat) (w : TWord) (acts : List HwAct)
  /-- RUNNING_CODE_STEP (R109): Every 16 island cycles the running code moves one code towards its target. -/
  | runningCodeStep (d i : Nat)
  /-- SLACK_CRITICAL (R113): A CRITICAL slack cycle sets the stretch to its limit. -/
  | slackCritical (d i : Nat)
  /-- SLACK_LOW (R113): A LOW slack cycle raises the stretch by one, up to its limit. -/
  | slackLow (d i : Nat)
  /-- STRETCH_DECAY (R113): After 256 AMPLE cycles the stretch falls by one. -/
  | stretchDecay (d i : Nat)
  /-- BREACH_RETURN_START (R120): After 65,536 consecutive AMPLE cycles a breach begins its return towards TARGET. -/
  | breachReturnStart (d i : Nat)
  /-- VREQ_RISE (R114): After 4,096 consecutive stretched cycles VREQ rises one step below VCAP. -/
  | vreqRise (d i : Nat)
  /-- VREQ_FALL (R114): After 65,536 consecutive AMPLE unstretched cycles VREQ falls one step. -/
  | vreqFall (d i : Nat)
  /-- MEMORY_ISLAND_CRITICAL (R140): A CRITICAL cycle of the memory island sets CRIT_STICKY and raises memory-island-slack.
  -/
  | memoryIslandCritical (d : Nat)
  /-- ISLAND_OSCILLATOR_CHECK (R161): Every 1 µs the island oscillator is measured and a deviation above 3% raises island-
  oscillator. -/
  | islandOscillatorCheck (d i khz : Nat)
  /-- CHANNEL_WORD_SEND (R126): A word offered with room moves into a handshake channel and REQ toggles. -/
  | channelWordSend (d i p : Nat) (stop : Bool) (w : Option TWord)
  /-- CHANNEL_WORD_ARRIVE (R131): 1.2 ns after sending, the word is written into the receiver FIFO and presented from the
  second receiver edge. -/
  | channelWordArrive (d i p : Nat) (stop : Bool)
  /-- CHANNEL_WORD_TAKE (R126): The receiver takes the head word and toggles ACK. -/
  | channelWordTake (d i p : Nat) (stop : Bool)
  /-- CHANNEL_ACK_ARRIVE (R132): A returned ACK frees an entry at the sender. -/
  | channelAckArrive (d i p : Nat) (stop : Bool)
  /-- CHANNEL_STALL (R160): A word held without room for 2^(STALL_EXP+10) sender cycles raises channel-stall once. -/
  | channelStall (d i p : Nat)
  /-- EVENT_RAISE (R134): Events raised in a sender cycle are added to the Gray-coded event count. -/
  | eventRaise (d i p n : Nat)
  /-- EVENT_LAP (R137): 32,768 events arriving while the receiving logic clock is stopped set LAP and raise event-lap. -/
  | eventLap (d i p : Nat)
  /-- FAB_ISL_RST_WRITE (R233): A write of 1 to RST_i requests a reset of island i unless one is already under way or the
  island is under reconfiguration. -/
  | fabIslRstWrite (d : Nat) (w : TWord)
  /-- ISLAND_RESET (R157): An island reset empties inbound FIFOs, discards partial transactions, resets flip-flops and opens
  a reaction shadow. -/
  | islandReset (d i : Nat)
  /-- ISLAND_RESET_END (R233): After 4 oscillator cycles the island reset ends and hardware clears RST_i. -/
  | islandResetEnd (d i : Nat) (again : Bool)
  /-- ASYNC_RESET_ASSERT (R179): AR reaching 1 drives a cluster's flip-flops to INIT within 0.5 ns. -/
  | asyncResetAssert (d i c : Nat)
  /-- ASYNC_RESET_RELEASE (R179): The release of AR takes effect at the second logic-clock edge. -/
  | asyncResetRelease (d i c : Nat)
  /-- RUN_SET_AFTER_LOAD (R221): After a load, hardware sets RUN once the running code is at or below LIMIT_CODE. -/
  | runSetAfterLoad (d i : Nat)
  /-- BM_PORT_ACCESS (R238): A block-memory port with EN = 1 performs a read or a read-first write at its edge. -/
  | bmPortAccess (d i m : Nat) (qa qb : Option PortReq)
  /-- WINDOW_ACCESS (R244): A window access is performed on port B with aspect 48. -/
  | windowAccess (d i m : Nat) (qa : Option PortReq) (bFirst mid : Bool)
  /-- WINDOW_STEAL (R245): After WIN_STEAL edges without a free port B edge, a window access takes port B in a steal cycle.
  -/
  | windowSteal (d i m : Nat) (qa : Option PortReq) (mid : Bool)
  /-- WINDOW_READ_REPEAT (R267): A window read that received BUSY is repeated, and abandoned after the sixteenth repeat. -/
  | windowReadRepeat (d i m : Nat) (qa : Option PortReq) (bFirst mid steal : Bool)
  /-- BANK_ACCESS (R250): A scratchpad bank serves its highest-class waiting request in a cycle. -/
  | bankAccess (d b cycles : Nat)
  /-- BANK_STARVATION (R277): A request unserved 2^(STARVE_EXP+6) bank cycles after presentation raises scratchpad-bank-
  starvation. -/
  | bankStarvation (d b : Nat) (wb : Bool) (n : Nat)
  /-- WRITE_BACK (R302): A queued corrected word is written back unless a later write cancelled it. -/
  | writeBack (d : Nat) (x : WbTurn)
  /-- PATROL_READ (R309): Every 2^(PATROL_EXP+4) bank cycles a scratchpad bank issues a patrol read of its next word. -/
  | patrolRead (d b : Nat)
  /-- FLIP_MASK_ARM (R317): ARM = 1 makes the next master write to the selected target store an altered encoded word. -/
  | flipMaskArm (d : Nat) (w : TWord) (hwClear : Bool)
  /-- READ (R493): A READ transaction is accepted at its endpoint after response space is reserved. -/
  | read (t : Txn)
  /-- WRITE (R493): A WRITE transaction is performed at its endpoint. -/
  | write (t : Txn)
  /-- NARROW_WRITE (R306): A NARROW_WRITE reads, merges its lane and tag and writes the whole word. -/
  | narrowWrite (t : Txn)
  /-- ADD (R254): An atomic ADD adds its operand to the stored word or refuses by tag. -/
  | add (t : Txn)
  /-- SWAP (R254): An atomic SWAP stores its operand and returns the old word. -/
  | swap (t : Txn)
  /-- READ_RESP (R498): A read response reaches its master, which matches it by RTAG and frees the tag. -/
  | readResp (r : Resp)
  /-- ATOMIC_RESP (R498): An atomic response returns the old word to its master. -/
  | atomicResp (r : Resp)
  /-- STREAM_CREDIT_RETURN (R492): A landing buffer returns end-to-end credits as it empties into its endpoint. -/
  | streamCreditReturn
  /-- REQUEST_TIMEOUT (R513): A request without response for 2^TO_EXP µs is answered aborted and its tag quarantined. -/
  | requestTimeout (d m tag : Nat)
  /-- CONFIG_LOAD_START (R377): A write of START in CFG_LOAD_CTL starts a load from SOURCE. -/
  | configLoadStart (w : TWord)
  /-- IMAGE_CHECK_PASS (R372): After header, signature, digest and order checks pass, a non-power-on load begins changing
  islands. -/
  | imageCheckPass
  /-- FRAME_RECORD (R355): A frame record is checked by CRC, header and GCM tag and written to its target. -/
  | frameRecord
  /-- SPARGE_FRAME_SCRUB (R384): After SPG_GAP idle cycles a Sparge unit reads, corrects and CRC-checks its next frame. -/
  | spargeFrameScrub (d : Nat)
  /-- FRAME_REWRITE (R386): A multi-bit upset frame is rewritten in place from its flash slot. -/
  | frameRewrite
  /-- FLASH_PAGE_PROGRAM (R365): A page program is bracketed by INTENT and DONE journal records. -/
  | flashPageProgram
  /-- FLASH_PROGRAM_COMPLETE (R365): When a page program completes its DONE record is programmed. -/
  | flashProgramComplete
  /-- FLASH_SECTOR_ERASE (R370): A sector erase is performed unless it would exceed the endurance limit, and advances the
  erase count. -/
  | flashSectorErase
  /-- FLASH_ERASE_COMPLETE (R399): When an erase completes it is recorded, and a slot reaching its limit is retired. -/
  | flashEraseComplete
  /-- CONTROL_FLIT (R430): An accepted control flit applies ACK_SEQ, credits, INIT sizes and a NAK. -/
  | controlFlit (d p : Nat) (good : Bool) (ack : Nat) (nak ini : Bool) (cred size : List Nat)
  /-- SEQUENCED_FLIT (R435): A sequenced flit with good CRC and expected SEQ is accepted; otherwise it is discarded or opens
  an error event. -/
  | sequencedFlit (d p sent got par : Nat)
  /-- NAK_RESEND (R436): If the expected flit is not accepted 256 port cycles after a NAK, the NAK is sent again. -/
  | nakResend (d p : Nat)
  /-- BUNDLE_TRAINING (R448): A bundle trains through capability exchange, rate move, lane test, deskew, MAP and READY. -/
  | bundleTraining (d p : Nat) (r : TrainResult)
  /-- TRAINING_RETRY (R467): A bundle that failed training at reset retries once a second. -/
  | trainingRetry (d p : Nat)
  /-- SIDEBAND_CAP (R446): A received capability word negotiates rate and fast retraining or raises capability mismatch. -/
  | sidebandCap (d p w crc : Nat)
  /-- SIDEBAND_MAP (R452): A received MAP sets the lane map of the direction. -/
  | sidebandMap (d p body crc : Nat)
  /-- SIDEBAND_READY (R448): A received READY makes the bundle active or ends a swap hold, and resends as after a NAK. -/
  | sidebandReady (d p crc : Nat)
  /-- SIDEBAND_SWAP (R453): A received SWAP makes the sender stop the direction and drive the spare with test patterns. -/
  | sidebandSwap (d p wire spare crc : Nat)
  /-- SIDEBAND_RETRAIN (R451): A received RETRAIN retrains the bundle, keeping sequence, acknowledgement and credits. -/
  | sidebandRetrain (d p crc : Nat)
  /-- SIDEBAND_RETIRE (R457): A received RETIRE folds the retired bundle's held transactions onto surviving bundles. -/
  | sidebandRetire (d p seq : Nat) (delivered : Bool) (k crc : Nat)
  /-- IXG_RETRAIN_WRITE (R469): A write of RETRAIN retrains the bundle, returning a retired bundle to service on success. -/
  | ixgRetrainWrite (d p : Nat) (w : TWord) (hwClear : Bool)
  /-- IXG_RETIRE_WRITE (R463): A write of RETIRE retires the bundle at once. -/
  | ixgRetireWrite (d p : Nat) (w : TWord) (hwClear : Bool)
  /-- DRAM_EN_WRITE (R554): A write of EN = 1 trains and opens the channel, refused while any timing field is zero. -/
  | dramEnWrite (c : Nat) (w : TWord) (acts : List HwAct)
  /-- DRAM_TRAINING_COMPLETE (R585): A training ends by opening the channel, repeating a failed step, or retiring the
  channel. -/
  | dramTrainingComplete (c : Nat) (good : Bool)
  /-- DRAM_RETRAIN_WRITE (R592): A write of RETRAIN starts read and write centring. -/
  | dramRetrainWrite (c : Nat) (w : TWord) (acts : List HwAct)
  /-- SR_REQ_WRITE (R583): SR_REQ = 1 requests self refresh after accepted transactions complete; 0 requests exit. -/
  | srReqWrite (c : Nat) (w : TWord) (acts : List HwAct)
  /-- SELF_REFRESH_ENTRY (R583): Once every accepted transaction completes the channel enters self refresh. -/
  | selfRefreshEntry (c : Nat)
  /-- DRAM_ACCEPT (R528): A channel accepts a transaction when queues, write buffer and response space allow, performing it
  for ordering. -/
  | dramAccept (c n : Nat)
  /-- DRAM_READ_COMPLETE (R531): A channel read response leaves for the I/O hub as soon as it is complete, corrected and
  decrypted. -/
  | dramReadComplete (c n : Nat)
  /-- DRAM_REFRESH (R542): Each refresh interval a rank owes a REF command, issued at once or postponed up to POSTPONE. -/
  | dramRefresh (c rank : Nat)
  /-- VICTIM_REFRESH (R548): A scheduled victim refresh activates and precharges the neighbours of a row. -/
  | victimRefresh (c rank : Nat)
  /-- DISTURB_TABLE_CLEAR (R551): After 8,192 refresh commands to a rank its counted tables are cleared. -/
  | disturbTableClear (c rank : Nat)
  /-- DRAM_PROMOTION (R533): A transaction accepted for 2^(AGE_EXP+4) controller cycles is promoted ahead of every class. -/
  | dramPromotion (c n : Nat)
  /-- DRAM_PATROL_READ (R541): Every 2^(SCRUB_EXP+4) controller cycles the channel patrols one burst. -/
  | dramPatrolRead (c : Nat)
  /-- BACKGROUND_FILL (R561): The filler fills unfilled units in ascending order in idle cycles. -/
  | backgroundFill (c : Nat)
  /-- ZQ_SHORT_CALIBRATION (R556): Every 2^ZQ_EXP ms a ZQ short calibration is performed. -/
  | zqShortCalibration (c : Nat)
  /-- PERIODIC_CENTRING (R556): On temperature drift or every 2^PERIOD_EXP s, read and write centring hold the bus for up to
  2 µs. -/
  | periodicCentring (c : Nat) (good : Bool)
  /-- DRAM_TEMPERATURE_READ (R544): Every 1,024 refresh intervals the MPR temperature range is read and the hot state
  updated. -/
  | dramTemperatureRead (c range : Nat)
  /-- DRAM_CA_PARITY_ALERT (R585): ALERT_N reports a parity error; banks are precharged and commands reissued. -/
  | dramCaParityAlert (c : Nat)
  /-- DRAM_KEY_LOAD (R575): LOAD copies the staged key pair into a key slot, refused if an enabled region names it. -/
  | dramKeyLoad (c k : Nat) (w : TWord)
  /-- DRAM_FILL_START (R576): START clears fill-map bits of units FIRST to LAST once earlier transactions to them are
  performed. -/
  | dramFillStart (c : Nat) (again : Bool)
  /-- LANE_PSTATE_REQUEST (R621): A request for a lane power state begins entry or exit. -/
  | lanePstateRequest (n req : Nat)
  /-- LANE_P0_REACHED (R620): A lane completes its exit and reads P0 with CDR lock. -/
  | laneP0Reached (n rx : Nat)
  /-- COEFFICIENT_INCREMENT (R614): A clause 72 increment request moves a tap by one code or answers maximum. -/
  | coefficientIncrement (n k : Nat)
  /-- COEFFICIENT_DECREMENT (R614): A clause 72 decrement request moves a tap by one code or answers minimum. -/
  | coefficientDecrement (n k : Nat)
  /-- PRESET (R613): A preset request sets PRE 0, MAIN 63 and POST 0. -/
  | preset (n : Nat)
  /-- INITIALISE (R613): An initialise request loads INIT_PRE, INIT_MAIN and INIT_POST. -/
  | initialise (n : Nat)
  /-- LANE_TRAINING_TIMEOUT (R648): Expiry of max_wait_timer raises lane-train-failed. -/
  | laneTrainingTimeout (n : Nat)
  /-- LANE_TRAINING_RESTART (R648): One second after a failure, clause 72 training restarts. -/
  | laneTrainingRestart (n : Nat)
  /-- LANE_LOS (R648): No signal for 1 µs in P0 clears SIGNAL and raises lane-los. -/
  | laneLos (n : Nat)
  /-- LANE_CDR_UNLOCK (R648): A CDR loss of lock relocks at once and raises lane-cdr-unlock. -/
  | laneCdrUnlock (n : Nat)
  /-- LANE_PLL_UNLOCK (R648): A PLL loss of lock relocks, retiring the lane after three failures within 1 s. -/
  | lanePllUnlock (n : Nat) (relocked : Bool)
  /-- LANE_REFCLK_LOST (R648): An absent REFCLK is treated as a PLL loss on every lane using it. -/
  | laneRefclkLost (r : Nat)
  /-- LANE_ADAPT_LIMIT (R648): A DFE tap at its limit for 1 ms raises lane-adapt-limit. -/
  | laneAdaptLimit (n k : Nat) (top : Bool)
  /-- INJ_SINGLE (R626): A write of 1 inverts one generator or line bit. -/
  | injSingle (n : Nat) (w : TWord)
  /-- INJ_BURST (R626): A write of 1 inverts BURST_LEN + 1 consecutive bits. -/
  | injBurst (n : Nat) (w : TWord)
  /-- REVIVE (R649): A write of 1 retries the PLL of a retired lane once. -/
  | revive (n : Nat) (w : TWord) (locked : Bool)
  /-- MAC_ENABLE (R621): A write of EN claims the MAC's lane and brings it to P0, or releases it to P2. -/
  | macEnable (m : Nat) (w : OwnerWrite) (hwClear : Bool)
  /-- MAC_MODE_WRITE (R660): A write of MODE loads the fused latency calibration into MAC_LAT. -/
  | macModeWrite (m : Nat) (w : TWord) (hwClear : Bool)
  /-- MAC_TX_WINDOW_WRITE (R633): Words written to the transmit window are appended to the transmit buffer or dropped if
  full. -/
  | macTxWindowWrite (t : Txn)
  /-- MAC_TX_FRAME (R634): A whole frame in the transmit buffer is sent, timestamped or corrected, or discarded if
  malformed. -/
  | macTxFrame (m t : Nat)
  /-- MAC_RX_FRAME (R635): A received frame is checked and enters the receive buffer with its status words, or is discarded.
  -/
  | macRxFrame (m : Nat) (bs : List Nat) (fcs : Bool) (t : Nat)
  /-- MAC_RX_WINDOW_READ (R633): A read of the receive window takes the next word, or returns tag 0b10 when empty. -/
  | macRxWindowRead (t : Txn)
  /-- PAUSE_FRAME (R630): A received PAUSE frame stops transmission for the requested time. -/
  | pauseFrame (m : Nat) (bs : List Nat) (t : Nat)
  /-- PAUSE_EXPIRY (R630): When the pause time ends, transmission resumes. -/
  | pauseExpiry (m : Nat)
  /-- MAC_TS_TIME_READ (R639): A read of MAC_TS_TIME returns and removes the head timestamp entry. -/
  | macTsTimeRead (m : Nat) (t : Txn)
  /-- SAETTE_LINK_ENABLE (R673): EN = 1 on a link claims its lanes and starts bring-up. -/
  | saetteLinkEnable (l : Nat) (w : OwnerWrite)
  /-- LINK_BRINGUP_RETRY (R712): A lost link with EN = 1 retries bring-up once a second. -/
  | linkBringupRetry (l : Nat)
  /-- HELLO (R673): A received HELLO cell counts towards bring-up, and the link comes up once R24 holds. -/
  | hello (l cell : Nat) (rx : HelloRx)
  /-- LINK_CTL (R676): A plain LINK_CTL cell updates acknowledgement and, on NAK, causes the transmitter to resend. -/
  | linkCtl (l cell : Nat)
  /-- RETRAIN (R711): A RETRAIN LINK_CTL cell agrees the narrower lane group of a retraining. -/
  | retrain (l cell peerGood : Nat)
  /-- SL_RETRAIN_WRITE (R717): A write of RETRAIN retrains the link at full width. -/
  | slRetrainWrite (l : Nat) (w : TWord)
  /-- SAETTE_LANE_LOST (R711): A lane without block lock for 1 µs makes the link retrain at a narrower width. -/
  | saetteLaneLost (l i : Nat)
  /-- SAETTE_LINK_LOST (R712): A link with no good lane or repeated replay limit is lost, closing its transmit halves. -/
  | saetteLinkLost (l : Nat)
  /-- SLOT_TRANSMIT (R669): Each slot the transmitter places one cell per lane from channels holding words and credits. -/
  | slotTransmit (l : Nat)
  /-- DATA_CELL (R675): A received DATA cell is accepted in order and its words stored in the receive buffer. -/
  | dataCell (l cell : Nat)
  /-- GCM_END (R698): A received GCM_END carries the frame counter and tag for the frame check. -/
  | gcmEnd (l cell : Nat)
  /-- FRAME_CHECK (R698): Within 24 stream cycles a frame's check completes, releasing, retracting or discarding its words.
  -/
  | frameCheck (c : Nat)
  /-- OPEN (R686): A received OPEN is answered OPEN_ACK or OPEN_REFUSE, opening the receive half. -/
  | openCell (l cell : Nat)
  /-- OPEN_ACK (R686): A received OPEN_ACK opens the transmit half with credits and counters set. -/
  | openAck (l cell : Nat)
  /-- OPEN_REFUSE (R706): A received OPEN_REFUSE returns the half to closed with its cause. -/
  | openRefuse (l cell : Nat)
  /-- CLOSE (R687): A received CLOSE is answered once every held word is read or flushed. -/
  | closeCell (l cell : Nat)
  /-- CLOSE_ACK (R687): A received CLOSE_ACK closes both halves. -/
  | closeAck (l cell : Nat)
  /-- CREDIT (R689): A received CREDIT returns credits to the transmit counter, retraining on overrun. -/
  | credit (l cell : Nat)
  /-- KEY_SWITCH (R695): A received KEY_SWITCH moves the receive half to its next slot and salt. -/
  | keySwitch (l cell : Nat)
  /-- FLUSH (R704): A received FLUSH discards the partial frame at the receive half. -/
  | flush (l cell : Nat)
  /-- TX_OPEN (R686): A write of TX_OPEN on an enabled closed half sends OPEN. -/
  | txOpen (c : Nat) (w : TWord)
  /-- TX_CLOSE (R687): A write of TX_CLOSE sends CLOSE after the frame in progress. -/
  | txClose (c : Nat) (w : TWord)
  /-- CLOSE_CUT_TIMEOUT (R687): A frame not ended 65,536 stream cycles after TX_CLOSE is cut. -/
  | closeCutTimeout (c : Nat)
  /-- CHANNEL_FLUSH (R704): A write of FLUSH discards queued and held words of both halves. -/
  | channelFlush (c : Nat) (w : TWord)
  /-- KEY_SWITCH_WRITE (R696): A write of KEY_SWITCH switches the transmit half's key at the next frame boundary, unless the
  next slot is not VALID. -/
  | keySwitchWrite (c : Nat) (w : TWord)
  /-- CHANNEL_ENABLE_WRITE (R681): A write of TX_EN or RX_EN is refused when its buffer overlaps another or overruns memory.
  -/
  | channelEnableWrite (c : Nat) (w : TWord)
  /-- SAETTE_KEY_LOAD (R693): LOAD copies the staged key into a Saette key slot unless an open half uses it. -/
  | saetteKeyLoad (k : Nat) (w : TWord)
  /-- SC_TX_WINDOW_WRITE (R682): Words written to a channel transmit window are appended, dropped if full, or refused by
  tag. -/
  | scTxWindowWrite (t : Txn)
  /-- SC_RX_WINDOW_READ (R683): A read of a receive window takes readable words or returns tag 0b10. -/
  | scRxWindowRead (t : Txn)
  /-- CREDIT_RETURN_TIMER (R688): 256 stream cycles after the first owed credit, a CREDIT message is sent. -/
  | creditReturnTimer (c : Nat)
  /-- TB_STEP (R729): A nonzero write to TB_STEP adds its value to TB_TIME at the next tick. -/
  | tbStep (w : TWord)
  /-- TB_SLEW (R730): A write to TB_SLEW replaces the remaining slew. -/
  | tbSlew (w : TWord)
  /-- SLEW_DIV_WRITE (R730): A write of SLEW_DIV restarts the slew count under the new divisor. -/
  | slewDivWrite (w : TWord)
  /-- SLEW_APPLY (R730): Every SLEW_DIV ticks one extra or withheld ns of slew is applied. -/
  | slewApply
  /-- TIME_BASE_WRAP (R726): TB_TIME wraps to 0, TB_EPOCH advances and WRAP is set. -/
  | timeBaseWrap
  /-- TIME_REPLICA_CHECK (R731): Every 1,024 ns each die replica is checked and corrected. -/
  | timeReplicaCheck (f off : Nat)
  /-- TIME_BASE_HOLDOVER (R768): Loss of REFCLK[0] puts the time base in holdover. -/
  | timeBaseHoldover
  /-- HOLDOVER_EXIT (R769): REFCLK[0] returning ends holdover at a tick without a step. -/
  | holdoverExit
  /-- ENCODER_EDGE (R741): An accepted encoder edge counts and records edge time and gap. -/
  | encoderEdge (n : Nat) (ab : Bool × Bool) (z : Bool)
  /-- ENCODER_INDEX (R742): An accepted rising Z latches the index position, may clear the count and may send a record. -/
  | encoderIndex (n : Nat) (ab : Bool × Bool) (z : Bool)
  /-- PRODUCT_DETECT_EDGE (R745): An accepted PD edge is timestamped, queued as a record and starts a holdoff. -/
  | productDetectEdge (n : Nat) (level : Bool) (t : Nat)
  /-- PD_HOLDOFF_EXPIRY (R747): At the end of HOLDOFF the input timestamps edges again. -/
  | pdHoldoffExpiry (n : Nat)
  /-- GPIO_INPUT_EDGE (R755): An accepted GPIO edge sends an input record to its ring. -/
  | gpioInputEdge (p : Nat) (level : Bool) (t : Nat)
  /-- EVENT_RECORD_ISSUE (R736): A queued event record is issued as one 4-word WRITE to its ring slot. -/
  | eventRecordIssue (r : Nat)
  /-- EVENT_RING_ENABLE (R764): EN = 1 starts a ring with SEQ 0; EN = 0 stops new events while queued records drain. -/
  | eventRingEnable (r : Nat) (w : TWord)
  /-- CONVERTER_ENABLE (R750): A write of EN = 1 is refused on bad timing or bank voltage, otherwise starts ticks. -/
  | converterEnable (n : Nat) (w : TWord)
  /-- CONVERTER_TICK (R749): At tick S_k a tile starts a conversion, drives the DAC or begins a turnaround period. -/
  | converterTick (n : Nat)
  /-- DAC_PHASE_END (R749): At S_k + DAC_NS the turnaround releases the ball to settle. -/
  | dacPhaseEnd (n : Nat)
  /-- CONVERSION_START (R749): Conversion j of a turnaround starts at its scheduled time. -/
  | conversionStart (n : Nat)
  /-- CONVERSION_COMPLETE (R751): A finished conversion yields a sample lane and fills or writes a sample word. -/
  | conversionComplete (n code : Nat) (ovr : Bool)
  /-- CONVERTER_WORD_ISSUE (R752): A queued sample word is written to the sample ring. -/
  | converterWordIssue (n : Nat)
  /-- GPIO_SCHEDULED_CHANGE (R755): An armed scheduled output takes SCHED_VAL at its time and disarms. -/
  | gpioScheduledChange (p : Nat)
  /-- PPS_CHANGE (R755): A PPS output changes at the second boundary and after PPS_WIDTH. -/
  | ppsChange (p : Nat)
  /-- GPIO_SET_WRITE (R772): A 1 written to a GPIO_SET bit sets the pin's output bit. -/
  | gpioSetWrite (q : Nat) (w : TWord)
  /-- GPIO_CLR_WRITE (R772): A 1 written to a GPIO_CLR bit clears the pin's output bit. -/
  | gpioClrWrite (q : Nat) (w : TWord)
  /-- SEND (R781): A SPI SEND transfer delivers one packet, discarded if the port had no room or framing fails. -/
  | send (bs : List Nat)
  /-- FETCH (R782): A SPI FETCH clocks out the oldest reply, removed only after its last CRC byte. -/
  | fetch (n : Nat)
  /-- SPI_STATUS (R780): A SPI STATUS transfer returns the port status byte repeatedly. -/
  | spiStatus (n : Nat)
  /-- ARP_REQUEST (R783): An ARP request for CABEN_IP is answered with MAC[0]'s station address. -/
  | arpRequest (srcMac srcIp ip : Nat)
  /-- UDP_DATAGRAM (R786): A Caben UDP datagram is checked for framing, GCM tag and counter, and accepted or discarded. -/
  | udpDatagram (d : Datagram)
  /-- CABEN_SAETTE_FRAME (R790): A checked frame on channel 0 carries one Caben packet. -/
  | cabenSaetteFrame
  /-- ECHO (R796): ECHO returns its parameter bytes. -/
  | echo (tr tag : Nat)
  /-- IDENTIFY (R798): IDENTIFY returns part, grade, device number, role, load and fuse state. -/
  | identify (tr tag : Nat)
  /-- REPEAT_REPLY (R823): REPEAT_REPLY returns a kept reply for a tag. -/
  | repeatReply (tr tag : Nat)
  /-- ABORT (R818): ABORT cancels an outstanding tag where Table 14-12 allows. -/
  | abort (tr tag : Nat)
  /-- CABEN_READ (R799): READ reads COUNT words in transactions split at 64-word boundaries. -/
  | cabenRead (tr tag : Nat)
  /-- CABEN_WRITE (R801): WRITE writes COUNT words and reads back the last word of each block. -/
  | cabenWrite (tr tag : Nat)
  /-- CABEN_ATOMIC_ADD (R802): ATOMIC with OP 0 performs an ADD and returns the old word. -/
  | cabenAtomicAdd (tr tag : Nat)
  /-- CABEN_ATOMIC_SWAP (R802): ATOMIC with OP 1 performs a SWAP and returns the old word. -/
  | cabenAtomicSwap (tr tag : Nat)
  /-- STREAM_READ (R803): STREAM_READ takes words from a channel's receive window. -/
  | streamRead (tr tag : Nat)
  /-- STREAM_WRITE (R805): STREAM_WRITE writes as many words as the transmit buffer has room for. -/
  | streamWrite (tr tag : Nat)
  /-- LOAD (R806): LOAD starts a configuration load and replies when it ends. -/
  | load (tr tag : Nat)
  /-- STREAM_IMAGE (R807): STREAM_IMAGE delivers an in-order chunk of an image for a host-source load. -/
  | streamImage (tr tag : Nat)
  /-- STORE (R809): STORE checks its conditions and then erases and programs a flash slot. -/
  | store (tr tag : Nat)
  /-- GOLDEN_UNLOCK (R810): GOLDEN_UNLOCK sets GOLDEN_OPEN on a correct constant and device number. -/
  | goldenUnlock (tr tag : Nat)
  /-- FW_START (R811): FW_START, under the boot state machine, checks and hands over to a firmware image. -/
  | fwStart (tr tag : Nat)
  /-- NV_READ (R812): NV_READ returns bytes of the valid NV record of a type. -/
  | nvRead (tr tag : Nat)
  /-- NV_WRITE (R813): NV_WRITE writes a new generation of settings or host data. -/
  | nvWrite (tr tag : Nat)
  /-- REPAIR_ADD (R814): REPAIR_ADD adds a soft repair entry to the table. -/
  | repairAdd (tr : Nat) (x : RepairFrom)
  /-- FUSE_BLOW (R815): FUSE_BLOW blows and senses a named fuse after its checks. -/
  | fuseBlow (tr tag : Nat) (good : Bool)
  /-- RESET_ISLAND (R816): RESET of KIND 0 resets island DIE.ISLAND. -/
  | resetIsland (tr tag : Nat)
  /-- RESET_MALTSTER (R816): RESET of KIND 1 queues its reply and then restarts the Maltster firmware. -/
  | resetMaltster (tr tag : Nat)
  /-- RESET_DEVICE (R816): RESET of KIND 2 queues its reply and then resets the device. -/
  | resetDevice (tr tag : Nat)
  /-- FAULT_READ (R817): FAULT_READ returns up to COUNT fault records and may remove them. -/
  | faultRead (tr tag : Nat)
  /-- CABEN_TIMEOUT (R822): A packet still running when its limit class expires is answered TIMEOUT. -/
  | cabenTimeout (tr tag : Nat)
  /-- CABEN_CTL_WRITE (R787): A stored write of UDP security settings resets both counters and UDP_EXHAUSTED. -/
  | cabenCtlWrite (k : Nat) (w : TWord)
  /-- SEQ_NOP (R855): NOP does nothing for one cycle. -/
  | seqNop (d c : Nat)
  /-- SEQ_ADD (R855): ADD sets RD to RA + RB with flags. -/
  | seqAdd (d c : Nat)
  /-- SEQ_SUB (R855): SUB sets RD to RA − RB with flags. -/
  | seqSub (d c : Nat)
  /-- SEQ_AND (R855): AND sets RD to RA AND RB. -/
  | seqAnd (d c : Nat)
  /-- SEQ_OR (R855): OR sets RD to RA OR RB. -/
  | seqOr (d c : Nat)
  /-- SEQ_XOR (R855): XOR sets RD to RA XOR RB. -/
  | seqXor (d c : Nat)
  /-- SEQ_SHL (R855): SHL shifts RA left by RB[5:0]. -/
  | seqShl (d c : Nat)
  /-- SEQ_SHR (R855): SHR shifts RA right logically by RB[5:0]. -/
  | seqShr (d c : Nat)
  /-- SEQ_SAR (R855): SAR shifts RA right arithmetically by RB[5:0]. -/
  | seqSar (d c : Nat)
  /-- SEQ_MULU (R855): MULU multiplies the low 24 bits unsigned in two cycles. -/
  | seqMulu (d c : Nat)
  /-- SEQ_MULS (R855): MULS multiplies the low 24 bits signed in two cycles. -/
  | seqMuls (d c : Nat)
  /-- SEQ_CMP (R855): CMP sets flags from RA − RB. -/
  | seqCmp (d c : Nat)
  /-- SEQ_ADDI (R855): ADDI adds a sign-extended immediate. -/
  | seqAddi (d c : Nat)
  /-- SEQ_CMPI (R855): CMPI sets flags from RA minus a sign-extended immediate. -/
  | seqCmpi (d c : Nat)
  /-- SEQ_ANDI (R855): ANDI ANDs with a zero-extended immediate. -/
  | seqAndi (d c : Nat)
  /-- SEQ_ORI (R855): ORI ORs with a zero-extended immediate. -/
  | seqOri (d c : Nat)
  /-- SEQ_XORI (R855): XORI XORs with a zero-extended immediate. -/
  | seqXori (d c : Nat)
  /-- SEQ_SHLI (R855): SHLI shifts left by an immediate. -/
  | seqShli (d c : Nat)
  /-- SEQ_SHRI (R855): SHRI shifts right logically by an immediate. -/
  | seqShri (d c : Nat)
  /-- SEQ_SARI (R855): SARI shifts right arithmetically by an immediate. -/
  | seqSari (d c : Nat)
  /-- SEQ_LDI (R855): LDI loads a sign-extended 14-bit immediate. -/
  | seqLdi (d c : Nat)
  /-- SEQ_LIH (R855): LIH shifts RD left 14 bits and ORs in an immediate. -/
  | seqLih (d c : Nat)
  /-- SEQ_LDL (R847): LDL loads a data-memory word and its tag into RD and T. -/
  | seqLdl (d c : Nat)
  /-- SEQ_STL (R847): STL stores RS with a tag to a data-memory word. -/
  | seqStl (d c : Nat)
  /-- SEQ_LDG (R851): LDG issues a global read and stalls until its response is written to RD. -/
  | seqLdg (d c : Nat)
  /-- SEQ_STG (R850): STG places a global store in the store queue, waiting if full. -/
  | seqStg (d c : Nat)
  /-- STORE_QUEUE_ISSUE (R850): The oldest store-queue entry leaves as a global write in program order. -/
  | storeQueueIssue (d c : Nat)
  /-- SEQ_AADD (R855): AADD issues an atomic ADD and stalls for the old word. -/
  | seqAadd (d c : Nat)
  /-- SEQ_ASWP (R855): ASWP issues an atomic SWAP and stalls for the old word. -/
  | seqAswp (d c : Nat)
  /-- SEQ_STLN (R855): STLN narrow-writes a lane of RB into a data-memory word. -/
  | seqStln (d c : Nat)
  /-- SEQ_SYNC (R850): SYNC waits until the store queue is empty. -/
  | seqSync (d c : Nat)
  /-- SEQ_MBR (R855): MBR reads a mailbox word into RD. -/
  | seqMbr (d c : Nat)
  /-- SEQ_MBW (R882): MBW writes RD to a mailbox word. -/
  | seqMbw (d c : Nat)
  /-- SEQ_RSR (R857): RSR reads a special register into RD. -/
  | seqRsr (d c : Nat)
  /-- SEQ_WSR (R857): WSR writes a special register as Table 15-5 allows, arming TCMP or TIMER. -/
  | seqWsr (d c : Nat)
  /-- SEQ_B (R856): B branches relative when its condition holds. -/
  | seqB (d c : Nat)
  /-- SEQ_CALL (R855): CALL saves PC + 1 in g15 and jumps. -/
  | seqCall (d c : Nat)
  /-- SEQ_JR (R855): JR jumps to RA[12:0]. -/
  | seqJr (d c : Nat)
  /-- SEQ_RET (R855): RET jumps to g15[12:0]. -/
  | seqRet (d c : Nat)
  /-- SEQ_RETI (R855): RETI restores PC from EPC and STATUS from ESTAT. -/
  | seqReti (d c : Nat)
  /-- SEQ_WAIT (R863): WAIT sleeps until an enabled interrupt is pending. -/
  | seqWait (d c : Nat)
  /-- SEQ_HALT (R855): HALT halts the core with HALT_CAUSE 5. -/
  | seqHalt (d c : Nat)
  /-- SEQ_BRK (R855): BRK halts the core with HALT_CAUSE 4. -/
  | seqBrk (d c : Nat)
  /-- INTERRUPT_ENTRY (R861): At a boundary with IE set and an enabled pending vector, the core enters the lowest such
  vector. -/
  | interruptEntry (d c : Nat)
  /-- SEQ_TIMER (R858): Every TIMER core cycles vector 2 becomes pending. -/
  | seqTimer (d c : Nat)
  /-- SEQ_TCMP (R858): When TIME reaches an armed TCMP, vector 3 becomes pending. -/
  | seqTcmp (d c : Nat)
  /-- SEQ_DOORBELL_WRITE (R859): A write to SEQ_DOORBELL_v stores the word and sets IRQ_PEND bit v. -/
  | seqDoorbellWrite (d c v : Nat) (w : TWord)
  /-- SEQ_HALT_REQUEST (R864): Writing RUN = 0 halts the core at its next instruction boundary. -/
  | seqHaltRequest (d c : Nat) (w : TWord) (hwHalt : Bool)
  /-- SEQ_RESUME (R864): Writing RUN = 1 resumes a halted core at SEQ_PC. -/
  | seqResume (d c : Nat) (w : TWord) (hwHalt : Bool)
  /-- SEQ_STEP (R865): Writing STEP = 1 executes one instruction on a halted core. -/
  | seqStep (d c : Nat) (w : TWord) (hwHalt : Bool)
  /-- SEQ_CTL_RESET (R891): Writing RESET resets the core as at the start of a full load. -/
  | seqCtlReset (d c : Nat) (w : TWord) (hwHalt : Bool)
  /-- SEQ_MEM_DATA_READ (R868): A read of SEQ_MEM_DATA on a halted core reads the addressed memory word and advances ADDR.
  -/
  | seqMemDataRead (d c : Nat)
  /-- SEQ_MEM_DATA_WRITE (R868): A write of SEQ_MEM_DATA on a halted core stores the word with TAG and advances ADDR. -/
  | seqMemDataWrite (d c : Nat) (w : TWord)
  /-- TAP_RESET (R869): TRST_N or five TMS-high clocks reset the TAP controller to IDCODE. -/
  | tapReset
  /-- IDCODE (R870): IDCODE selects the 32-bit identification register. -/
  | idcode
  /-- SAMPLE_PRELOAD (R870): SAMPLE/PRELOAD selects the boundary register without taking the balls. -/
  | samplePreload (sample preload : Nat)
  /-- EXTEST (R872): EXTEST drives covered outputs from the boundary register and raises debug-boundary-test. -/
  | extest (v : Nat)
  /-- CLAMP (R872): CLAMP holds outputs from the boundary register with bypass selected. -/
  | clamp
  /-- HIGHZ (R872): HIGHZ puts covered outputs at high impedance. -/
  | highz
  /-- BYPASS (R870): BYPASS selects the 1-bit bypass register. -/
  | bypass
  /-- DBG_ACCESS (R873): DBG_ACCESS selects the 100-bit global access register. -/
  | dbgAccess
  /-- DBG_ACCESS_READ (R873): An Update-DR with OP READ starts a global read as master 2. -/
  | dbgAccessRead (addr : Nat)
  /-- DBG_ACCESS_WRITE (R873): An Update-DR with OP WRITE starts a global write as master 2. -/
  | dbgAccessWrite (addr : Nat) (w : TWord)
  /-- DBG_ACCESS_CAPTURE (R874): Capture-DR loads the result and state of the last operation and clears the overrun note. -/
  | dbgAccessCapture
  /-- MALT_CHALLENGE (R875): MALT_CHALLENGE draws a nonce and captures it with the unique identifier. -/
  | maltChallenge
  /-- MALT_RESPONSE (R875): A shifted-in response is verified, enabling MALT_DBG or counting a failure. -/
  | maltResponse (sig : Nat)
  /-- MALT_DBG (R875): MALT_DBG gives Maltster debug access once unlocked. -/
  | maltDbg
  /-- DESCRIPTOR_FETCH (R901): A running context with CONS behind PROD fetches its next descriptor with a 4-word READ. -/
  | descriptorFetch (d e x : Nat)
  /-- ENGINE_TURN (R907): An engine gives its turn to a ready context of the next party, issuing one transaction. -/
  | engineTurn (d e : Nat)
  /-- CLAIM (R910): A READ of a claim window asks a landing buffer for credits and is granted when words are set aside. -/
  | claim (d b : Nat)
  /-- RELEASE (R911): A write of n to a claim window hands back unspent credits. -/
  | release (d : Nat) (t : Txn)
  /-- WINDOW_REREAD (R905): 64 engine cycles after an empty read, the context reads the window again. -/
  | windowReread (d e x : Nat)
  /-- INSTANCE_RESET (R917): A write of RESET raises the epoch, stops the instance's contexts, flushes its channels and
  resets its islands. -/
  | instanceReset (i : Nat) (w : TWord)
  /-- INSTANCE_RESET_COMPLETE (R917): Once every read issued before step 1 is answered, BUSY clears and instance-reset is
  raised. -/
  | instanceResetComplete (i : Nat)
  /-- INST_MEMBERSHIP_WRITE (R898): A write of INST_ISL or INST_CH placing a member in a second instance is not stored and
  sets ERR. -/
  | instMembershipWrite (k i : Nat) (w : TWord)
  /-- GATEWAY_ACCEPT (R940): The gateway accepts a remote transaction once tag, response space and next-hop slot are held.
  -/
  | gatewayAccept
  /-- GW_REQ (R941): A received GW_REQ is forwarded or issued as master 8, or discarded on a route loop. -/
  | gwReq (l cell : Nat)
  /-- GW_RESP (R941): A received GW_RESP is forwarded towards SRC_DEV or delivered to the requester. -/
  | gwResp (l cell : Nat)
  /-- GW_CREDIT (R939): A received GW_CREDIT returns slots to a pool. -/
  | gwCredit (l cell : Nat)
  /-- TIME_SYNC_EXCHANGE (R949): Every 2^SYNC_EXP ms a follower sends TIME_REQ. -/
  | timeSyncExchange
  /-- TIME_REQ (R949): A received TIME_REQ is answered with TIME_RESP carrying T2 and T3. -/
  | timeReq (l cell : Nat)
  /-- TIME_RESP (R950): A received TIME_RESP updates JD_TIME_OFS, JD_TIME_DLY and LOCKED. -/
  | timeResp (l cell : Nat)
  /-- JOIN_TIMEOUT (R955): A member without racking link JOIN_S s after load becomes active alone. -/
  | joinTimeout
  /-- RACKING_CUT (R958): At each multiple of EPOCH × 100 µs the active device cuts, advancing the epoch and signalling
  RACK_CUT. -/
  | rackingCut
  /-- RACKING_COPY_START (R960): SNAP_US after a cut, the racking engine starts copying declared regions. -/
  | rackingCopyStart
  /-- RACK_DATA (R963): A received RACK_DATA cell is written into the receiving half and added to the CRC. -/
  | rackData (l cell : Nat)
  /-- RACK_COMMIT (R964): A received commit marker is checked and triggers read-backs of the last words. -/
  | rackCommit (l cell : Nat)
  /-- RACKING_COMMIT_COMPLETE (R964): With counts, CRC and read-backs matching, the standby toggles COMMIT_HALF and sends
  RACK_ACK. -/
  | rackingCommitComplete
  /-- RACK_ACK (R977): A received RACK_ACK ends the epoch and carries out a pending yield on GOOD = 1. -/
  | rackAck (l cell : Nat)
  /-- HEARTBEAT_SEND (R966): Every 100 µs the active device sends HEARTBEAT. -/
  | heartbeatSend
  /-- HEARTBEAT (R967): A received HEARTBEAT resets the miss count or, with YIELD, decides takeover. -/
  | heartbeat (l cell : Nat)
  /-- HEARTBEAT_MISS (R967): Each 100 µs without a heartbeat counts a miss; the third decides takeover. -/
  | heartbeatMiss
  /-- HANDOVER_IN_LOW (R967): HANDOVER_IN low for 1 µs with PIN_EN decides takeover. -/
  | handoverInLow
  /-- HANDOVER_IN_RISE (R976): An active device seeing HANDOVER_IN rise or a peer reporting active yields within 2 µs. -/
  | handoverInRise
  /-- YIELD_WRITE (R977): A write of YIELD takes effect at the next commit acknowledged good. -/
  | yieldWrite (w : TWord) (hwClear : Bool)
  /-- FAULT_EVENT (R989): A detector's event reaches the fault manager and waits for classification. -/
  | faultEvent (k : Nat)
  /-- FAULT_CLASSIFY (R994): The fault manager classifies one waiting event, moving severity, writing records and taking
  reactions. -/
  | faultClassify
  /-- FAULT_WINDOW_CLOSE (R995): A promotion window closes T after its opening. -/
  | faultWindowClose (n : Nat)
  /-- QUIET_PERIOD_EXPIRY (R997): After QUIET_MS without an event, a source leaves the fault state and counts a recovery. -/
  | quietPeriodExpiry (n : Nat)
  /-- SHADOW_END (R1012): When a reaction shadow ends, a summary record is written for each shadowed source. -/
  | shadowEnd (d i : Nat)
  /-- FORCE (R1000): A write of FORCE raises one event of the source with FORCED set. -/
  | force (n : Nat) (w : TWord) (busy : Bool)
  /-- CLEAR (R998): A write of CLEAR makes a source clear without counting a recovery. -/
  | clear (n : Nat) (w : TWord) (busy : Bool)
  /-- POP (R1016): A write of POP removes the oldest fault record. -/
  | pop (w : TWord)
  /-- TIME_CLOCK_TICK (R727): At each 1 GHz time-clock tick TB_TIME advances by 1, plus one on a carry of the TB_ADJ rate
  accumulator or minus one on a borrow. -/
  | timeClockTick
  /-- SEQ_ILLEGAL_INSTRUCTION (R854): A fetched instruction with an unlisted OP, a nonzero zero field, COND 14 or 15, or a
  bad special-register index raises exception 0 or a double fault. -/
  | seqIllegalInstruction (d c : Nat)
  /-- SEQ_FETCH_INVALID (R846): A fetched instruction word whose tag is not 0b00 raises exception 1, or a double fault when
  H = 1. -/
  | seqFetchInvalid (d c : Nat)
  /-- PRBS_CHECKER_LOCK (R625): The PRBS checker locks once 64 consecutive received bits match the pattern and starts
  counting errors and bits. -/
  | prbsCheckerLock (n : Nat) (seed bs : List Bool)
  /-- PRBS_LOCK_LOST (R625): A 64-bit block with more than 8 errors ends the checker's lock, sets LOCK_LOST and makes the
  checker seed itself again. -/
  | prbsLockLost (n : Nat) (before bs : List Bool)
  /-- RECEIVER_READY (R615): Once CTLE and every DFE tap have stayed within one code for 4,096 training frames the lane
  declares receiver ready, and training completes when both receivers are ready. -/
  | receiverReady (n : Nat) (peer : Bool) (rx : Nat)
  /-- MAC_BLOCK_LOCK (R629): The MAC gains or loses clause 49 block lock or completes auto-negotiation, which sets or clears
  BLOCK_LOCK, AN_DONE and LINK_UP. -/
  | macBlockLock (m : Nat) (lock an : Bool) (speed : Nat)
  /-- LANE_SIGNAL_PRESENT (R654): A signal returns at a lane receiver and SIGNAL becomes 1 again. -/
  | laneSignalPresent (n : Nat)
  /-- SUPPLY_WITHIN_RANGE (R1033): A supply that was out of range above its POR threshold returns within its range and its
  SUP_STAT bit is set again. -/
  | supplyWithinRange (rail : Nat)
  /-- CHANNEL_0_OPEN_RETRY (R789): Once a second the firmware retries opening Saette channel 0 until the key slots named in
  its SC_KEY are VALID. -/
  | channel0OpenRetry
deriving DecidableEq, Repr

end Sys2Proof
end

