-- ==== Sys2Proof/Decode.lean ====
section
/-!
DEFINITION. The command that a word spells by the bits of the opcode table. The table gives no row any bits, so no word
spells a command (log 7).
-/
namespace Sys2Proof

/-- The command that `nbits` bits of `w` spell: none, as no row of the table gives bits. -/
def decodeTableWord (_nbits _w : Nat) : Option Instr := none

end Sys2Proof
end

