-- ==== Sys2Proof/Machine/Crossbar.lean ====
section
/-!
DEFINITION. The sources and sinks of an island's crossbar, and what an island's configuration frames say of its logic: the
connections, the truth tables, the modes of cells, clusters and slices (R176 to R189, R200, Table 4-2, R732).
-/
namespace Sys2Proof.Machine

/-- A crossbar source (Table 4-2, R732). `b` is a bit of a word or number; cells are numbered 0 to 4,095, clusters 0 to 255. -/
inductive Src where
  /-- A constant. -/
  | const (v : Bool)
  /-- The look-up-table output of a cell; in carry mode its sum. -/
  | lut (k : Nat)
  /-- The flip-flop output of a cell. -/
  | ff (k : Nat)
  /-- The output of macrocell `m` of a product-term cluster. -/
  | macrocell (c m : Nat)
  | sliceP (k b : Nat)
  | sliceOvf (k : Nat)
  /-- Read data [47:0], then tag [49:48], of port `p` (0 A, 1 B) of a block memory. -/
  | bmRead (m p b : Nat)
  | bmBusy (m p : Nat)
  /-- CH_IN_DATA: data [47:0], tag [49:48]. -/
  | chIn (p b : Nat)
  | chInValid (p : Nat)
  | chOutReady (p : Nat)
  | evtCount (p b : Nat)
  /-- DIO_IN of DIO cell `k` (0 to 3) of an edge island. -/
  | dioIn (k : Nat)
  | timeIn (b : Nat)
deriving DecidableEq, Repr

/-- A crossbar sink (Table 4-2). CE and SR of macrocell `m` of cluster `c` are those of cell 16c + m. -/
inductive Sink where
  | lutIn (k n : Nat)
  | ce (k : Nat)
  | sr (k : Nat)
  | ar (c : Nat)
  /-- The carry input of a chain's first bit (R182). -/
  | carryIn (k : Nat)
  /-- Array input `n` (0 to 35) of a product-term cluster. -/
  | array (c n : Nat)
  | sliceA (k b : Nat)
  | sliceB (k b : Nat)
  | sliceD (k b : Nat)
  | sliceC (k b : Nat)
  | sliceOp (k b : Nat)
  | sliceCe (k : Nat)
  | sliceSr (k : Nat)
  | bmAddr (m p b : Nat)
  | bmWrite (m p b : Nat)
  | bmEn (m p : Nat)
  | bmWe (m p : Nat)
  | chOut (p b : Nat)
  | chOutValid (p : Nat)
  | chInTake (p : Nat)
  | event (p n : Nat)
  | dioOut (k : Nat)
  | dioOe (k : Nat)
deriving DecidableEq, Repr

/-- What the configuration frames of an island say of its logic. `conn` gives the source of each sink, so a sink has at most one
source and a source any number of sinks (R187, R188). -/
structure Fabric where
  conn : Sink → Option Src
  /-- The 16-bit truth table of a cell; in carry mode of its propagate term (R176, R182). -/
  table : Nat → Nat
  /-- The truth table of the generate term of a cell in carry mode. -/
  generate : Nat → Nat
  /-- Whether a cell is in carry mode. -/
  carry : Nat → Bool
  /-- Whether a carry chain enters at a cell (R181). -/
  chainStart : Nat → Bool
  /-- Whether a cluster is in product-term mode (R184). -/
  product : Nat → Bool
  /-- Product term `t` (0 to 63) of a cluster: the inputs, and the complements of inputs, that it takes, as masks over 36 bits. -/
  term : Nat → Nat → Nat × Nat
  /-- The product terms of its cluster that a macrocell takes, as a mask over 64 bits (R185). -/
  terms : Nat → Nat → Nat
  /-- The product term of its cluster that a macrocell's XOR takes, none for a constant. -/
  xorTerm : Nat → Nat → Option Nat
  xorConst : Nat → Nat → Bool
  /-- Whether a macrocell presents its XOR output in place of its flip-flop. -/
  bypass : Nat → Nat → Bool
  /-- SIGNED and SAT of a slice (R200). -/
  signed : Nat → Bool
  sat : Nat → Bool
deriving Inhabited

/-- The configuration before any image is loaded: tables 0 and no connections (R227). -/
def Fabric.blank : Fabric where
  conn := fun _ => none
  table := fun _ => 0
  generate := fun _ => 0
  carry := fun _ => false
  chainStart := fun _ => false
  product := fun _ => false
  term := fun _ _ => (0, 0)
  terms := fun _ _ => 0
  xorTerm := fun _ _ => none
  xorConst := fun _ _ => false
  bypass := fun _ _ => false
  signed := fun _ => false
  sat := fun _ => false

end Sys2Proof.Machine
end

