-- ==== Sys2Proof/Config.lean ====
section
/-!
DEFINITION. What the spec leaves open or leaves to another standard, as uninterpreted constants. Nothing in Lean can
evaluate them: a statement that mentions one holds whatever it is.
-/
namespace Sys2Proof.Config

/-- The value of a result that the spec calls undefined, or for which it states none; `n` is the state's free-value
counter (`State.freeCtr`), so that each use is a fresh one (log 2). -/
opaque freeValue (n : Nat) : BitVec 48

/-- A choice that the spec leaves to the device (an arbiter, an oscillator phase); `n` is the free-value counter (log 2). -/
opaque freeChoice (n : Nat) : Bool

/-- The nonce drawn at the `n`-th draw (R875, log 2). -/
opaque nonce (n : Nat) : Nat

/-- The INIT bits of an island's 4,096 flip-flops, as its configuration frames give them (R177, R341: the payload's
layout is not in the manual; log 4). -/
opaque ffInit (frames : List Nat) : Nat

/-- The INIT bits of an island's four DIO cells: output registers in bits [3:0], output-enable registers in bits [7:4]
(R217, log 4). -/
opaque dioInit (frames : List Nat) : Nat

/-- The aspect of port `p` (0 A, 1 B) of block memory `m`, as the configuration frames give it: 0 to 3 for 48, 24, 12 and 6 (R236,
log 4). -/
opaque bmAspect (frames : List Nat) (m p : Nat) : Fin 4

/-- The connections, truth tables and modes of an island's logic, as its configuration frames give them (R176 to R189, R200,
log 4). -/
opaque fabric (frames : List Nat) : Machine.Fabric

/-- Where the scrambler of lane `i` of Saette link `l` starts (R666, log 183). -/
opaque scramblerSeed (l i : Nat) : Nat

/-- The response space, in flits, of endpoint `e` of die `d`, where it is more than a longest response takes (R493, log 179). -/
opaque respRoom (d e : Nat) : Nat

/-- What a covered output ball drives under EXTEST or CLAMP, none where it is high-impedance, by part and boundary register:
the cell order is in a BSDL file that the manual does not hold. Balls 0 to 191 are DIO, 192 to 287 GPIO (R871, R872, log 97). -/
opaque bsdlDrive (part boundary ball : Nat) : Option Bool

end Sys2Proof.Config
end

