-- ==== Sys2Proof/Machine/Map.lean ====
section
/-!
DEFINITION. Sparse maps keyed by numbers, as lists of (key, value) pairs with strictly rising keys. They hold the
memories, the register file and the units of the package. A key that is not listed reads as the default its caller
names; storing the default removes the entry, so equal maps are equal data.
-/
namespace Sys2Proof.Machine

/-- A sparse map: (key, value) pairs, keys strictly rising. -/
abbrev SMap (V : Type) := List (Nat × V)

/-- The value at key `k`, or `d` where the key is not listed. -/
def mget {V : Type} (m : SMap V) (k : Nat) (d : V) : V :=
  match m with
  | [] => d
  | (a, v) :: t => if a = k then v else mget t k d

/-- The map without key `k`. -/
def mdel {V : Type} (m : SMap V) (k : Nat) : SMap V :=
  match m with
  | [] => []
  | (a, v) :: t => if a = k then mdel t k else (a, v) :: mdel t k

/-- The map with `v` listed at key `k`, keys kept rising. -/
def mins {V : Type} (m : SMap V) (k : Nat) (v : V) : SMap V :=
  match m with
  | [] => [(k, v)]
  | (a, w) :: t => if k < a then (k, v) :: (a, w) :: t else if k = a then (k, v) :: t else (a, w) :: mins t k v

/-- The map with value `v` at key `k`, where an unlisted `k` reads as `d`: the default is not listed. -/
def mset {V : Type} [DecidableEq V] (m : SMap V) (k : Nat) (v d : V) : SMap V :=
  if v = d then mdel m k else mins m k v

/-- Keys strictly rising from above `lo`. -/
def mrising {V : Type} (lo : Option Nat) (m : SMap V) : Bool :=
  match m with
  | [] => true
  | (a, _) :: t => (match lo with | none => true | some l => decide (l < a)) && mrising (some a) t

/-- The canonical form: keys strictly rising and no entry equal to what its unlisted key reads as. -/
def mwf {V : Type} [DecidableEq V] (d : Nat → V) (m : SMap V) : Bool :=
  mrising none m && m.all fun p => decide (p.2 ≠ d p.1)

/-- The key of a unit with two indices. -/
def key2 (a b : Nat) : Nat := Nat.pair a b

/-- The key of a unit with three indices. -/
def key3 (a b c : Nat) : Nat := Nat.pair (Nat.pair a b) c

/-- The key of a unit with four indices. -/
def key4 (a b c d : Nat) : Nat := Nat.pair (Nat.pair a b) (Nat.pair c d)

end Sys2Proof.Machine
end

