-- ==== Sys2Proof/Machine/FaultTable.lean ====
section
/-!
DEFINITION. The fault sources of Table 18-2 (R992), with their unit kinds (R991), base severities, promotion counts,
windows and default reactions.
-/
namespace Sys2Proof.Machine

/-- The fault sources, in the order of Table 18-2: source number `k` is constructor `k - 1` (R992, R993). -/
inductive FaultSrc where
  | dualActive
  | roleMismatch
  | headLinkDegraded
  | registerWriteRefused
  | islandFloorBreach
  | islandSlackExhausted
  | eventLap
  | memoryIslandSlack
  | channelStall
  | islandOscillator
  | windowReadAbandoned
  | blockMemoryWriteCollision
  | scratchpadBankStarvation
  | bmCorrectable
  | spCorrectable
  | seqCorrectable
  | iospCorrectable
  | sbufCorrectable
  | dram0Correctable
  | dram1Correctable
  | bmUncorrectable
  | spUncorrectable
  | seqUncorrectable
  | iospUncorrectable
  | sbufUncorrectable
  | dram0Uncorrectable
  | dram1Uncorrectable
  | repairSparesExhausted
  | repairTableInvalid
  | configEssentialUpset
  | configMultiBitUpset
  | configFrameUnrecoverable
  | configNoImage
  | configLoadFailed
  | configMapInvalid
  | nvPageIncomplete
  | nvWriteRefused
  | nvSlotRetired
  | ixgalCrcError
  | ixgalLaneSwapped
  | ixgalReplayLimit
  | ixgalProtocolError
  | ixgalTrainFailed
  | ixgalCapabilityMismatch
  | ixgalBundleRetired
  | ixgalLinkLost
  | transportTimeout
  | transportUnreachable
  | transportWriteDropped
  | transportUnmapped
  | dramCaParity
  | dramTrainFailed
  | dramChannelRetired
  | dramOverTemperature
  | dramActivateThrottled
  | dramKeyRefused
  | laneLos
  | laneCdrUnlock
  | lanePllUnlock
  | laneRefclkLost
  | laneAdaptLimit
  | laneTrainFailed
  | laneClaimRefused
  | macRxOverflow
  | ptpTsOverflow
  | saetteCrcError
  | saetteReplayLimit
  | saetteLinkDegraded
  | saetteLinkLost
  | saetteOpenRefused
  | saetteLateAlarm
  | saetteAuthFailed
  | saetteCounterExhausted
  | saetteTxOverflow
  | saetteFrameCut
  | saetteProtocolError
  | timeBaseHoldover
  | timeBaseWrap
  | timeReplicaError
  | encoderQuadratureError
  | lineEventLost
  | converterOverrun
  | converterOverRange
  | cabenFramingError
  | cabenTagReuse
  | cabenUdpAuthFailed
  | cabenUdpReplay
  | cabenUdpCounterExhausted
  | cabenTimeout
  | fuseProgramFailed
  | seqIllegalInstruction
  | seqFetchInvalid
  | seqDoubleFault
  | seqDoorbellOverrun
  | debugUnlockFailed
  | debugBoundaryTest
  | streamContextError
  | instanceReset
  | jdDevnumConflict
  | jdUnreachable
  | jdRouteLoop
  | timeSyncLost
  | rackingCommitFailed
  | rackingEpochOverrun
  | rackingLinkLost
  | dupTakeover
  | dupDualActive
  | dupNoCommit
  | thermalWarning
  | thermalThrottle
  | thermalShutdown
  | thermalTrip
  | supplyOutOfRange
  | pmbusError
  | maltsterWatchdog
  | faultLogOverflow
deriving DecidableEq, Repr

/-- The source's number in Table 18-2. -/
def FaultSrc.num (s : FaultSrc) : Nat := s.ctorIdx + 1

/-- The unit kinds of Table 18-1 (R991). -/
inductive UnitKind where
  | dev | die | island | core | memGroup | ixgPort | lane | mac | dram | slink | chan | ctx | inst | lineIo
deriving DecidableEq, Repr

/-- A row of Table 18-2. Severities are coded as in Table 18-5: 0 notice, 1 transient, 2 severe, 3 permanent.
Reactions carry the bits of Table 18-3: 1 log, 2 interrupt, 4 retry, 8 island reset, 16 channel retire, 32 safe state,
64 device reset. -/
structure FaultSpec where
  kind : UnitKind
  base : Nat
  n : Nat
  texp : Nat
  reactBase : Nat
  reactSev : Nat

/-- Table 18-2 (R992). A dash for N or T is 0 (R1031). -/
@[noinline] def FaultSrc.spec : FaultSrc → FaultSpec
  | .dualActive => ⟨.dev, 2, 0, 0, 3, 3⟩
  | .roleMismatch => ⟨.slink, 1, 16, 23, 5, 3⟩
  | .headLinkDegraded => ⟨.slink, 0, 0, 0, 1, 3⟩
  | .registerWriteRefused => ⟨.die, 0, 0, 0, 1, 3⟩
  | .islandFloorBreach => ⟨.island, 2, 0, 0, 3, 3⟩
  | .islandSlackExhausted => ⟨.island, 2, 0, 0, 11, 11⟩
  | .eventLap => ⟨.island, 1, 4, 20, 1, 11⟩
  | .memoryIslandSlack => ⟨.die, 2, 0, 0, 3, 3⟩
  | .channelStall => ⟨.island, 1, 4, 20, 1, 11⟩
  | .islandOscillator => ⟨.island, 2, 0, 0, 11, 11⟩
  | .windowReadAbandoned => ⟨.island, 1, 16, 20, 1, 3⟩
  | .blockMemoryWriteCollision => ⟨.island, 0, 0, 0, 1, 3⟩
  | .scratchpadBankStarvation => ⟨.die, 0, 0, 0, 1, 3⟩
  | .bmCorrectable => ⟨.memGroup, 0, 0, 0, 1, 3⟩
  | .spCorrectable => ⟨.memGroup, 0, 0, 0, 1, 3⟩
  | .seqCorrectable => ⟨.memGroup, 0, 0, 0, 1, 3⟩
  | .iospCorrectable => ⟨.memGroup, 0, 0, 0, 1, 3⟩
  | .sbufCorrectable => ⟨.memGroup, 0, 0, 0, 1, 3⟩
  | .dram0Correctable => ⟨.memGroup, 0, 0, 0, 1, 3⟩
  | .dram1Correctable => ⟨.memGroup, 0, 0, 0, 1, 3⟩
  | .bmUncorrectable => ⟨.memGroup, 1, 4, 23, 1, 3⟩
  | .spUncorrectable => ⟨.memGroup, 1, 4, 23, 1, 3⟩
  | .seqUncorrectable => ⟨.memGroup, 1, 4, 23, 1, 3⟩
  | .iospUncorrectable => ⟨.memGroup, 1, 4, 23, 1, 3⟩
  | .sbufUncorrectable => ⟨.memGroup, 1, 4, 23, 1, 3⟩
  | .dram0Uncorrectable => ⟨.memGroup, 1, 4, 23, 1, 3⟩
  | .dram1Uncorrectable => ⟨.memGroup, 1, 4, 23, 1, 3⟩
  | .repairSparesExhausted => ⟨.memGroup, 3, 0, 0, 3, 3⟩
  | .repairTableInvalid => ⟨.dev, 2, 0, 0, 3, 3⟩
  | .configEssentialUpset => ⟨.island, 1, 4, 26, 1, 3⟩
  | .configMultiBitUpset => ⟨.island, 1, 2, 26, 1, 11⟩
  | .configFrameUnrecoverable => ⟨.island, 2, 0, 0, 3, 3⟩
  | .configNoImage => ⟨.dev, 2, 0, 0, 35, 35⟩
  | .configLoadFailed => ⟨.dev, 1, 3, 26, 1, 3⟩
  | .configMapInvalid => ⟨.dev, 0, 0, 0, 1, 3⟩
  | .nvPageIncomplete => ⟨.dev, 0, 0, 0, 1, 3⟩
  | .nvWriteRefused => ⟨.dev, 0, 0, 0, 1, 3⟩
  | .nvSlotRetired => ⟨.dev, 3, 0, 0, 3, 3⟩
  | .ixgalCrcError => ⟨.ixgPort, 1, 64, 20, 5, 3⟩
  | .ixgalLaneSwapped => ⟨.ixgPort, 0, 0, 0, 1, 3⟩
  | .ixgalReplayLimit => ⟨.ixgPort, 1, 4, 20, 5, 19⟩
  | .ixgalProtocolError => ⟨.ixgPort, 1, 4, 20, 5, 3⟩
  | .ixgalTrainFailed => ⟨.ixgPort, 1, 8, 26, 5, 3⟩
  | .ixgalCapabilityMismatch => ⟨.ixgPort, 2, 0, 0, 3, 3⟩
  | .ixgalBundleRetired => ⟨.ixgPort, 3, 0, 0, 3, 3⟩
  | .ixgalLinkLost => ⟨.ixgPort, 3, 0, 0, 3, 3⟩
  | .transportTimeout => ⟨.die, 1, 16, 20, 1, 3⟩
  | .transportUnreachable => ⟨.die, 2, 0, 0, 3, 3⟩
  | .transportWriteDropped => ⟨.die, 0, 0, 0, 1, 3⟩
  | .transportUnmapped => ⟨.die, 0, 0, 0, 1, 3⟩
  | .dramCaParity => ⟨.dram, 1, 16, 20, 5, 3⟩
  | .dramTrainFailed => ⟨.dram, 1, 3, 26, 5, 3⟩
  | .dramChannelRetired => ⟨.dram, 3, 0, 0, 3, 3⟩
  | .dramOverTemperature => ⟨.dram, 2, 0, 0, 3, 3⟩
  | .dramActivateThrottled => ⟨.dram, 0, 0, 0, 1, 3⟩
  | .dramKeyRefused => ⟨.dram, 0, 0, 0, 1, 3⟩
  | .laneLos => ⟨.lane, 1, 8, 20, 5, 19⟩
  | .laneCdrUnlock => ⟨.lane, 1, 16, 20, 5, 19⟩
  | .lanePllUnlock => ⟨.lane, 1, 3, 20, 5, 3⟩
  | .laneRefclkLost => ⟨.dev, 2, 0, 0, 3, 3⟩
  | .laneAdaptLimit => ⟨.lane, 0, 0, 0, 1, 3⟩
  | .laneTrainFailed => ⟨.lane, 1, 4, 26, 5, 3⟩
  | .laneClaimRefused => ⟨.lane, 0, 0, 0, 1, 3⟩
  | .macRxOverflow => ⟨.mac, 1, 64, 20, 1, 3⟩
  | .ptpTsOverflow => ⟨.mac, 1, 16, 20, 1, 3⟩
  | .saetteCrcError => ⟨.slink, 1, 64, 20, 5, 3⟩
  | .saetteReplayLimit => ⟨.slink, 1, 4, 20, 5, 3⟩
  | .saetteLinkDegraded => ⟨.slink, 1, 2, 23, 5, 3⟩
  | .saetteLinkLost => ⟨.slink, 2, 0, 0, 3, 3⟩
  | .saetteOpenRefused => ⟨.chan, 0, 0, 0, 1, 3⟩
  | .saetteLateAlarm => ⟨.chan, 1, 4, 20, 1, 3⟩
  | .saetteAuthFailed => ⟨.chan, 1, 4, 20, 1, 3⟩
  | .saetteCounterExhausted => ⟨.chan, 3, 0, 0, 3, 3⟩
  | .saetteTxOverflow => ⟨.chan, 0, 0, 0, 1, 3⟩
  | .saetteFrameCut => ⟨.chan, 0, 0, 0, 1, 3⟩
  | .saetteProtocolError => ⟨.slink, 1, 16, 20, 1, 3⟩
  | .timeBaseHoldover => ⟨.dev, 2, 0, 0, 3, 3⟩
  | .timeBaseWrap => ⟨.dev, 0, 0, 0, 1, 3⟩
  | .timeReplicaError => ⟨.die, 1, 4, 23, 1, 3⟩
  | .encoderQuadratureError => ⟨.lineIo, 1, 64, 20, 1, 3⟩
  | .lineEventLost => ⟨.lineIo, 1, 16, 20, 1, 3⟩
  | .converterOverrun => ⟨.lineIo, 1, 16, 20, 1, 3⟩
  | .converterOverRange => ⟨.lineIo, 0, 0, 0, 1, 3⟩
  | .cabenFramingError => ⟨.dev, 1, 64, 20, 1, 3⟩
  | .cabenTagReuse => ⟨.dev, 0, 0, 0, 1, 3⟩
  | .cabenUdpAuthFailed => ⟨.dev, 1, 16, 20, 1, 3⟩
  | .cabenUdpReplay => ⟨.dev, 1, 16, 20, 1, 3⟩
  | .cabenUdpCounterExhausted => ⟨.dev, 3, 0, 0, 3, 3⟩
  | .cabenTimeout => ⟨.dev, 0, 0, 0, 1, 3⟩
  | .fuseProgramFailed => ⟨.dev, 3, 0, 0, 3, 3⟩
  | .seqIllegalInstruction => ⟨.core, 1, 4, 20, 1, 11⟩
  | .seqFetchInvalid => ⟨.core, 1, 4, 20, 1, 11⟩
  | .seqDoubleFault => ⟨.core, 2, 0, 0, 3, 3⟩
  | .seqDoorbellOverrun => ⟨.core, 0, 0, 0, 1, 3⟩
  | .debugUnlockFailed => ⟨.dev, 0, 0, 0, 1, 3⟩
  | .debugBoundaryTest => ⟨.dev, 0, 0, 0, 1, 3⟩
  | .streamContextError => ⟨.ctx, 1, 4, 20, 5, 3⟩
  | .instanceReset => ⟨.inst, 0, 0, 0, 1, 3⟩
  | .jdDevnumConflict => ⟨.slink, 2, 0, 0, 3, 3⟩
  | .jdUnreachable => ⟨.dev, 1, 16, 20, 1, 3⟩
  | .jdRouteLoop => ⟨.dev, 2, 0, 0, 3, 3⟩
  | .timeSyncLost => ⟨.dev, 1, 3, 26, 1, 3⟩
  | .rackingCommitFailed => ⟨.dev, 1, 3, 12, 1, 3⟩
  | .rackingEpochOverrun => ⟨.dev, 0, 0, 0, 1, 3⟩
  | .rackingLinkLost => ⟨.slink, 2, 0, 0, 3, 3⟩
  | .dupTakeover => ⟨.dev, 0, 0, 0, 1, 3⟩
  | .dupDualActive => ⟨.dev, 2, 0, 0, 3, 3⟩
  | .dupNoCommit => ⟨.dev, 2, 0, 0, 3, 3⟩
  | .thermalWarning => ⟨.die, 0, 0, 0, 1, 3⟩
  | .thermalThrottle => ⟨.die, 1, 4, 26, 1, 3⟩
  | .thermalShutdown => ⟨.die, 2, 0, 0, 35, 35⟩
  | .thermalTrip => ⟨.die, 2, 0, 0, 3, 3⟩
  | .supplyOutOfRange => ⟨.dev, 2, 0, 0, 35, 35⟩
  | .pmbusError => ⟨.dev, 1, 4, 23, 5, 3⟩
  | .maltsterWatchdog => ⟨.dev, 2, 0, 0, 3, 3⟩
  | .faultLogOverflow => ⟨.dev, 0, 0, 0, 1, 3⟩

/-- The row of source number `n` (1 to 116). -/
@[noinline] def faultSpec (n : Nat) : FaultSpec := (FaultSrc.ofNat (n - 1)).spec

end Sys2Proof.Machine
end

