-- ==== Sys2Proof/Machine/RegNames.lean ====
section
/-!
DEFINITION. The names of the registers, in the order of the spec's chapters, and the named fields of each
(R8 to R12, and the register tables of every chapter).
-/
namespace Sys2Proof.Machine

/-- The registers of the package, one constructor per register name of the spec; a name that the spec indexes
(by island, port, channel, source ...) is one constructor and `Reg` carries the indices. -/
inductive RegName where
  | DEV_ROLE
  | DEV_ROLE_CTL
  | REG_ERR
  | REG_ERR_CNT
  | DEV_NUM
  | ISL_CLK_CTL
  | ISL_CLK_STAT
  | ISL_STRETCH_CNT
  | ISL_BREACH_CNT
  | ISL_CH_STAT
  | ISL_CH_CTL
  | ISL_CH_DROP
  | ISL_EVT_LAP
  | MISL_STAT
  | DIO_LEVEL
  | DIO_DRIVE
  | DIO_SAFE_LO
  | DIO_SAFE_HI
  | FAB_ISL_LIMIT
  | FAB_ISL_RST
  | BM_WW_CNT
  | BM_RW_CNT
  | BM_COLL_LAST
  | BM_WIN_CTL
  | BM_PORTB_MODE
  | BM_STEAL_CNT
  | BM_WIN_ABANDON_CNT
  | SP_CTL
  | SP_STARVE_CNT
  | SP_STARVE_LAST
  | SP_ATOM_REFUSE_CNT
  | SP_SAMPLE_CNT
  | SP_BANK_USE
  | PROT_CE_CNT
  | PROT_UE_CNT
  | PROT_WB_SKIP_CNT
  | PROT_ERR_LAST
  | PROT_CTL
  | PROT_FLIP_DATA
  | PROT_FLIP_CTL
  | REPAIR_STAT
  | CFG_LOAD_CTL
  | CFG_LOAD_STAT
  | CFG_BOOT_STAT
  | CFG_SRC_ADDR
  | CFG_NV_STAT
  | CFG_ENDURANCE
  | CFG_ERASE_CNT
  | SPG_CTL
  | SPG_NONESS_CNT
  | SPG_ESS_CNT
  | SPG_MULTI_CNT
  | SPG_SKIP_CNT
  | SPG_PASS_CNT
  | SPG_LAST
  | SPG_POS
  | IXG_CTL
  | IXG_STAT
  | IXG_CAP_LOCAL
  | IXG_CAP_PEER
  | IXG_LANE_MAP
  | IXG_CRC_CNT
  | IXG_REPLAY_CNT
  | IXG_SWAP_CNT
  | IXG_LOC_LAST
  | IXG_TEST_BAD_LO
  | IXG_TEST_BAD_HI
  | TRN_CTL
  | TRN_ERR_LAST
  | TRN_ERR_ADDR
  | TRN_DROP_CNT
  | TRN_TIMEOUT_CNT
  | TRN_LATE_CNT
  | TRN_UNMAPPED_CNT
  | DRAM_CTL
  | DRAM_STAT
  | DRAM_GEOM
  | DRAM_TIM_0
  | DRAM_TIM_1
  | DRAM_TIM_2
  | DRAM_SCHED
  | DRAM_CLASS_MAP
  | DRAM_REF_CTL
  | DRAM_TEMP
  | DRAM_RD_CTL
  | DRAM_TRAIN_CTL
  | DRAM_SCRUB
  | DRAM_FILL
  | DRAM_VICTIM_CNT
  | DRAM_THROTTLE_CNT
  | DRAM_ALERT_CNT
  | DRAM_RETRAIN_CNT
  | DRAM_PROMO_CNT
  | DRAM_DEMAND_FILL_CNT
  | DRAM_REGION
  | DRAM_KEY
  | DRAM_KEY_CTL
  | LANE_CTL
  | LANE_STAT
  | LANE_TX
  | LANE_RX
  | LANE_PRBS_CTL
  | LANE_PRBS_ERR_CNT
  | LANE_PRBS_BIT_CNT
  | LANE_LOS_CNT
  | LANE_RELOCK_CNT
  | MAC_CTL
  | MAC_STAT
  | MAC_LAT
  | MAC_TS_ID
  | MAC_TS_TIME
  | MAC_RX_FRAME_CNT
  | MAC_TX_FRAME_CNT
  | MAC_FCS_ERR_CNT
  | MAC_RX_DROP_CNT
  | MAC_STATION
  | MAC_TX_DROP_CNT
  | SL_CTL
  | SL_STAT
  | SL_PEER
  | SL_CRC_CNT
  | SL_REPLAY_CNT
  | SL_RETRAIN_CNT
  | SK_KEY
  | SK_CTL
  | SC_CTL
  | SC_BUF
  | SC_KEY
  | SC_TX_SALT
  | SC_TX_NEXT_SALT
  | SC_RX_SALT
  | SC_RX_NEXT_SALT
  | SC_STAT
  | SC_NOTICE
  | SC_NOTICE_ADDR
  | SC_TX_CTR_LO
  | SC_TX_CTR_HI
  | SC_RX_CTR_LO
  | SC_RX_CTR_HI
  | SC_ALARM_LAST
  | SC_ALARM_FRAME
  | SC_TX_FRAME_CNT
  | SC_RX_FRAME_CNT
  | SC_FAIL_CNT
  | SC_TX_DROP_CNT
  | SC_CUT_CNT
  | TB_TIME
  | TB_EPOCH
  | TB_CTL
  | TB_ADJ
  | TB_STEP
  | TB_SLEW
  | TB_SLEW_LEFT
  | TB_STAT
  | TB_REPLICA_CNT
  | ENC_CTL
  | ENC_POS
  | ENC_INDEX_POS
  | ENC_EDGE_TIME
  | ENC_GAP
  | ENC_CMP
  | ENC_CMP_STEP
  | ENC_STAT
  | ENC_ERR_CNT
  | PD_CTL
  | PD_LAST
  | PD_CNT
  | PD_HOLD_CNT
  | LEV_DEST
  | LEV_CTL
  | LEV_SEQ
  | LEV_LOST_CNT
  | CT_CTL
  | CT_START
  | CT_PERIOD
  | CT_PHASE
  | CT_DAC_VAL
  | CT_RING_BASE
  | CT_RING_CTL
  | CT_WSEQ
  | CT_LAST
  | CT_LOST_CNT
  | CT_OVR_CNT
  | CT_SAFE
  | GPIO_IN
  | GPIO_OUT
  | GPIO_OE
  | GPIO_SET
  | GPIO_CLR
  | GPIO_SAFE
  | GPIO_CFG
  | GPIO_SCHED_TIME
  | CABEN_CTL
  | CABEN_STAT
  | CABEN_IP
  | CABEN_UDP_TX_SALT
  | CABEN_UDP_RX_SALT
  | CABEN_UDP_TX_CTR_LO
  | CABEN_UDP_TX_CTR_HI
  | CABEN_UDP_RX_CTR_LO
  | CABEN_UDP_RX_CTR_HI
  | CABEN_FRAME_ERR_CNT
  | CABEN_TAG_REUSE_CNT
  | CABEN_BUSY_CNT
  | CABEN_AUTH_CNT
  | CABEN_REPLAY_CNT
  | CABEN_TIMEOUT_CNT
  | SEQ_CTL
  | SEQ_STAT
  | SEQ_PC
  | SEQ_MEM_ADDR
  | SEQ_MEM_DATA
  | SEQ_G
  | SEQ_SR
  | SEQ_BP_CTL
  | SEQ_BP_ADDR
  | SEQ_DOORBELL
  | SEQ_DB_OVR
  | SEQ_WAIT_CNT
  | SEQ_MBOX
  | CTX_CTL
  | CTX_DESC_BASE
  | CTX_PROD
  | CTX_STAT
  | CTX_WORDS_CNT
  | CTX_RETRACT_CNT
  | CTX_DROP_CNT
  | ENG_EPOCH
  | INST_CTL
  | INST_STAT
  | INST_ISL_LO
  | INST_ISL_HI
  | INST_CH_LO
  | INST_CH_HI
  | INST_RESET_CNT
  | INST_RESET_NS
  | JD_ROUTE
  | JD_CTL
  | JD_TIME_CTL
  | JD_TIME_OFS
  | JD_TIME_DLY
  | JD_TIME_STAT
  | JD_FWD_CNT
  | JD_UNREACH_CNT
  | JD_HOP_DROP_CNT
  | JD_CH_FWD
  | DUP_CTL
  | DUP_STAT
  | DUP_EPOCH_NUM
  | DUP_CUT_TIME
  | DUP_NOTICE_ADDR
  | DUP_TAKEOVER_TIME
  | DUP_EPOCH_CNT
  | DUP_OVERRUN_CNT
  | DUP_CRC_FAIL_CNT
  | DUP_HB_MISS_CNT
  | DUP_TAKEOVER_CNT
  | DUP_YIELD_CNT
  | DUP_REG_CTL
  | DUP_REG_SRC
  | DUP_REG_DST_A
  | DUP_REG_DST_B
  | FM_CTL
  | FM_STAT
  | FM_NOTICE_ADDR
  | FM_LOG_CTL
  | FM_LOG_WIN
  | FM_LOG_LOST_CNT
  | FM_SHADOW_CNT
  | FM_SRC_CTL
  | FM_SRC_STAT
  | FM_SRC_CNT
  | FM_SRC_RECOV
  | RST_CTL
  | RST_STAT
  | RST_CNT
  | WDOG_CTL
  | PMB_CTL
  | PMB_STAT
  | PMB_ERR_CNT
  | THERM_CTL
  | THERM_DIE
  | SUP_STAT
  | DIO_BANK_STAT
deriving DecidableEq, Repr

/-- One field of a register: the register's name and the field's high and low bit (R8). -/
structure Fld where
  reg : RegName
  hi : Nat
  lo : Nat
deriving DecidableEq, Repr

/-- The number of bits of a field. -/
def Fld.width (f : Fld) : Nat := f.hi + 1 - f.lo

end Sys2Proof.Machine

namespace Sys2Proof.Machine.F
open Sys2Proof.Machine

/-! DEV_ROLE (R50). -/
def DEV_ROLE_PART_CODE : Fld := ⟨.DEV_ROLE, 23, 16⟩
def DEV_ROLE_GRADE_CODE : Fld := ⟨.DEV_ROLE, 15, 12⟩
def DEV_ROLE_DEVNUM_STRAP : Fld := ⟨.DEV_ROLE, 11, 8⟩
def DEV_ROLE_BOOT : Fld := ⟨.DEV_ROLE, 6, 4⟩
def DEV_ROLE_ROLE : Fld := ⟨.DEV_ROLE, 1, 0⟩
/-! DEV_ROLE_CTL (R51). -/
def DEV_ROLE_CTL_LINK_HOLD : Fld := ⟨.DEV_ROLE_CTL, 15, 8⟩
def DEV_ROLE_CTL_HEAD_WIDTH : Fld := ⟨.DEV_ROLE_CTL, 5, 4⟩
def DEV_ROLE_CTL_HEAD_LINK_B_EN : Fld := ⟨.DEV_ROLE_CTL, 3, 3⟩
def DEV_ROLE_CTL_HEAD_LINK_EN : Fld := ⟨.DEV_ROLE_CTL, 2, 2⟩
def DEV_ROLE_CTL_OUT_EN : Fld := ⟨.DEV_ROLE_CTL, 1, 1⟩
def DEV_ROLE_CTL_ACTIVE : Fld := ⟨.DEV_ROLE_CTL, 0, 0⟩
/-! REG_ERR (R103). -/
def REG_ERR_VALID : Fld := ⟨.REG_ERR, 47, 47⟩
def REG_ERR_CAUSE : Fld := ⟨.REG_ERR, 46, 45⟩
def REG_ERR_IS_WRITE : Fld := ⟨.REG_ERR, 36, 36⟩
def REG_ERR_ADDR : Fld := ⟨.REG_ERR, 35, 0⟩
/-! REG_ERR_CNT (R104). -/
def REG_ERR_CNT_OVF : Fld := ⟨.REG_ERR_CNT, 47, 47⟩
def REG_ERR_CNT_COUNT : Fld := ⟨.REG_ERR_CNT, 15, 0⟩
/-! DEV_NUM (R105). -/
def DEV_NUM_DEVNUM_HIGH : Fld := ⟨.DEV_NUM, 13, 9⟩
def DEV_NUM_DEVNUM : Fld := ⟨.DEV_NUM, 8, 0⟩
/-! ISL_CLK_CTL (R166). -/
def ISL_CLK_CTL_RUN : Fld := ⟨.ISL_CLK_CTL, 26, 26⟩
def ISL_CLK_CTL_VCAP : Fld := ⟨.ISL_CLK_CTL, 25, 20⟩
def ISL_CLK_CTL_FLOOR : Fld := ⟨.ISL_CLK_CTL, 15, 8⟩
def ISL_CLK_CTL_TARGET : Fld := ⟨.ISL_CLK_CTL, 7, 0⟩
/-! ISL_CLK_STAT (R167). -/
def ISL_CLK_STAT_BREACH_STICKY : Fld := ⟨.ISL_CLK_STAT, 47, 47⟩
def ISL_CLK_STAT_BREACH_ACTIVE : Fld := ⟨.ISL_CLK_STAT, 46, 46⟩
def ISL_CLK_STAT_SLACK : Fld := ⟨.ISL_CLK_STAT, 45, 44⟩
def ISL_CLK_STAT_VREQ : Fld := ⟨.ISL_CLK_STAT, 31, 26⟩
def ISL_CLK_STAT_STRETCH : Fld := ⟨.ISL_CLK_STAT, 20, 16⟩
def ISL_CLK_STAT_FLOOR_EFF : Fld := ⟨.ISL_CLK_STAT, 15, 8⟩
def ISL_CLK_STAT_FREQ_RUN : Fld := ⟨.ISL_CLK_STAT, 7, 0⟩
/-! ISL_STRETCH_CNT (R168). -/
def ISL_STRETCH_CNT_OVF : Fld := ⟨.ISL_STRETCH_CNT, 47, 47⟩
def ISL_STRETCH_CNT_COUNT : Fld := ⟨.ISL_STRETCH_CNT, 39, 0⟩
/-! ISL_BREACH_CNT (R169). -/
def ISL_BREACH_CNT_OVF : Fld := ⟨.ISL_BREACH_CNT, 47, 47⟩
def ISL_BREACH_CNT_COUNT : Fld := ⟨.ISL_BREACH_CNT, 15, 0⟩
/-! ISL_CH_STAT (R170). -/
def ISL_CH_STAT_OUT_FULL : Fld := ⟨.ISL_CH_STAT, 47, 40⟩
def ISL_CH_STAT_IN_LEVEL : Fld := ⟨.ISL_CH_STAT, 31, 0⟩
/-! ISL_CH_CTL (R171). -/
def ISL_CH_CTL_STALL_EXP : Fld := ⟨.ISL_CH_CTL, 11, 8⟩
def ISL_CH_CTL_STALL_EN : Fld := ⟨.ISL_CH_CTL, 7, 0⟩
/-! ISL_CH_DROP (R172). -/
def ISL_CH_DROP_OVF : Fld := ⟨.ISL_CH_DROP, 47, 47⟩
def ISL_CH_DROP_COUNT : Fld := ⟨.ISL_CH_DROP, 15, 0⟩
/-! ISL_EVT_LAP (R173). -/
def ISL_EVT_LAP_LAP : Fld := ⟨.ISL_EVT_LAP, 7, 0⟩
/-! MISL_STAT (R174). -/
def MISL_STAT_CRIT_STICKY : Fld := ⟨.MISL_STAT, 47, 47⟩
def MISL_STAT_SLACK : Fld := ⟨.MISL_STAT, 1, 0⟩
/-! DIO_LEVEL (R230). -/
def DIO_LEVEL_LEVEL : Fld := ⟨.DIO_LEVEL, 47, 0⟩
/-! DIO_DRIVE (R231). -/
def DIO_DRIVE_DRIVE : Fld := ⟨.DIO_DRIVE, 47, 0⟩
/-! DIO_SAFE_LO (R234). -/
def DIO_SAFE_LO_CODES : Fld := ⟨.DIO_SAFE_LO, 47, 0⟩
/-! DIO_SAFE_HI (R234). -/
def DIO_SAFE_HI_CODES : Fld := ⟨.DIO_SAFE_HI, 47, 0⟩
/-! FAB_ISL_LIMIT (R232). -/
def FAB_ISL_LIMIT_PERIOD_PS : Fld := ⟨.FAB_ISL_LIMIT, 31, 16⟩
def FAB_ISL_LIMIT_LIMIT_CODE : Fld := ⟨.FAB_ISL_LIMIT, 7, 0⟩
/-! FAB_ISL_RST (R233). -/
def FAB_ISL_RST_RST : Fld := ⟨.FAB_ISL_RST, 15, 0⟩
/-! BM_WW_CNT (R283). -/
def BM_WW_CNT_OVF : Fld := ⟨.BM_WW_CNT, 47, 47⟩
def BM_WW_CNT_COUNT : Fld := ⟨.BM_WW_CNT, 15, 0⟩
/-! BM_RW_CNT (R283). -/
def BM_RW_CNT_OVF : Fld := ⟨.BM_RW_CNT, 47, 47⟩
def BM_RW_CNT_COUNT : Fld := ⟨.BM_RW_CNT, 15, 0⟩
/-! BM_COLL_LAST (R284). -/
def BM_COLL_LAST_VALID : Fld := ⟨.BM_COLL_LAST, 47, 47⟩
def BM_COLL_LAST_KIND : Fld := ⟨.BM_COLL_LAST, 46, 45⟩
def BM_COLL_LAST_WINDOW : Fld := ⟨.BM_COLL_LAST, 44, 44⟩
def BM_COLL_LAST_BM : Fld := ⟨.BM_COLL_LAST, 14, 10⟩
def BM_COLL_LAST_WORD : Fld := ⟨.BM_COLL_LAST, 9, 0⟩
/-! BM_WIN_CTL (R285). -/
def BM_WIN_CTL_WIN_STEAL : Fld := ⟨.BM_WIN_CTL, 7, 0⟩
/-! BM_PORTB_MODE (R286). -/
def BM_PORTB_MODE_WINDOW : Fld := ⟨.BM_PORTB_MODE, 23, 0⟩
/-! BM_STEAL_CNT (R287). -/
def BM_STEAL_CNT_OVF : Fld := ⟨.BM_STEAL_CNT, 47, 47⟩
def BM_STEAL_CNT_COUNT : Fld := ⟨.BM_STEAL_CNT, 31, 0⟩
/-! BM_WIN_ABANDON_CNT (R287). -/
def BM_WIN_ABANDON_CNT_OVF : Fld := ⟨.BM_WIN_ABANDON_CNT, 47, 47⟩
def BM_WIN_ABANDON_CNT_COUNT : Fld := ⟨.BM_WIN_ABANDON_CNT, 31, 0⟩
/-! SP_CTL (R289). -/
def SP_CTL_STARVE_EN : Fld := ⟨.SP_CTL, 4, 4⟩
def SP_CTL_STARVE_EXP : Fld := ⟨.SP_CTL, 3, 0⟩
/-! SP_STARVE_CNT (R290). -/
def SP_STARVE_CNT_OVF : Fld := ⟨.SP_STARVE_CNT, 47, 47⟩
def SP_STARVE_CNT_COUNT : Fld := ⟨.SP_STARVE_CNT, 15, 0⟩
/-! SP_STARVE_LAST (R291). -/
def SP_STARVE_LAST_VALID : Fld := ⟨.SP_STARVE_LAST, 47, 47⟩
def SP_STARVE_LAST_CLASS : Fld := ⟨.SP_STARVE_LAST, 9, 8⟩
def SP_STARVE_LAST_BANK : Fld := ⟨.SP_STARVE_LAST, 3, 0⟩
/-! SP_ATOM_REFUSE_CNT (R290). -/
def SP_ATOM_REFUSE_CNT_OVF : Fld := ⟨.SP_ATOM_REFUSE_CNT, 47, 47⟩
def SP_ATOM_REFUSE_CNT_COUNT : Fld := ⟨.SP_ATOM_REFUSE_CNT, 15, 0⟩
/-! SP_SAMPLE_CNT (R292). -/
def SP_SAMPLE_CNT_OVF : Fld := ⟨.SP_SAMPLE_CNT, 47, 47⟩
def SP_SAMPLE_CNT_COUNT : Fld := ⟨.SP_SAMPLE_CNT, 39, 0⟩
/-! SP_BANK_USE (R292). -/
def SP_BANK_USE_OVF : Fld := ⟨.SP_BANK_USE, 47, 47⟩
def SP_BANK_USE_COUNT : Fld := ⟨.SP_BANK_USE, 39, 0⟩
/-! PROT_CE_CNT (R335). -/
def PROT_CE_CNT_OVF : Fld := ⟨.PROT_CE_CNT, 47, 47⟩
def PROT_CE_CNT_COUNT : Fld := ⟨.PROT_CE_CNT, 31, 0⟩
/-! PROT_UE_CNT (R335). -/
def PROT_UE_CNT_OVF : Fld := ⟨.PROT_UE_CNT, 47, 47⟩
def PROT_UE_CNT_COUNT : Fld := ⟨.PROT_UE_CNT, 31, 0⟩
/-! PROT_WB_SKIP_CNT (R335). -/
def PROT_WB_SKIP_CNT_OVF : Fld := ⟨.PROT_WB_SKIP_CNT, 47, 47⟩
def PROT_WB_SKIP_CNT_COUNT : Fld := ⟨.PROT_WB_SKIP_CNT, 15, 0⟩
/-! PROT_ERR_LAST (R336). -/
def PROT_ERR_LAST_VALID : Fld := ⟨.PROT_ERR_LAST, 47, 47⟩
def PROT_ERR_LAST_UNCORR : Fld := ⟨.PROT_ERR_LAST, 46, 46⟩
def PROT_ERR_LAST_SOURCE : Fld := ⟨.PROT_ERR_LAST, 45, 44⟩
def PROT_ERR_LAST_SYNDROME : Fld := ⟨.PROT_ERR_LAST, 43, 36⟩
def PROT_ERR_LAST_PADDR : Fld := ⟨.PROT_ERR_LAST, 35, 0⟩
/-! PROT_CTL (R337). -/
def PROT_CTL_PATROL_EN : Fld := ⟨.PROT_CTL, 4, 4⟩
def PROT_CTL_PATROL_EXP : Fld := ⟨.PROT_CTL, 3, 0⟩
/-! PROT_FLIP_DATA (R338). -/
def PROT_FLIP_DATA_MASK_DATA : Fld := ⟨.PROT_FLIP_DATA, 47, 0⟩
/-! PROT_FLIP_CTL (R338). -/
def PROT_FLIP_CTL_ARM : Fld := ⟨.PROT_FLIP_CTL, 47, 47⟩
def PROT_FLIP_CTL_TARGET : Fld := ⟨.PROT_FLIP_CTL, 46, 44⟩
def PROT_FLIP_CTL_ADDR_FLIP : Fld := ⟨.PROT_FLIP_CTL, 43, 36⟩
def PROT_FLIP_CTL_MASK_CHECK : Fld := ⟨.PROT_FLIP_CTL, 35, 28⟩
def PROT_FLIP_CTL_MASK_TAG : Fld := ⟨.PROT_FLIP_CTL, 27, 26⟩
def PROT_FLIP_CTL_SEL_EN : Fld := ⟨.PROT_FLIP_CTL, 25, 25⟩
def PROT_FLIP_CTL_SEL : Fld := ⟨.PROT_FLIP_CTL, 24, 16⟩
/-! REPAIR_STAT (R339). -/
def REPAIR_STAT_SOFT_USED : Fld := ⟨.REPAIR_STAT, 47, 39⟩
def REPAIR_STAT_SOFT_APPLIED : Fld := ⟨.REPAIR_STAT, 38, 30⟩
def REPAIR_STAT_SOFT_REFUSED : Fld := ⟨.REPAIR_STAT, 29, 21⟩
def REPAIR_STAT_FUSE_APPLIED : Fld := ⟨.REPAIR_STAT, 20, 8⟩
def REPAIR_STAT_DONE : Fld := ⟨.REPAIR_STAT, 0, 0⟩
/-! CFG_LOAD_CTL (R408). -/
def CFG_LOAD_CTL_START : Fld := ⟨.CFG_LOAD_CTL, 3, 3⟩
def CFG_LOAD_CTL_SOURCE : Fld := ⟨.CFG_LOAD_CTL, 2, 0⟩
/-! CFG_LOAD_STAT (R409). -/
def CFG_LOAD_STAT_DONE : Fld := ⟨.CFG_LOAD_STAT, 47, 47⟩
def CFG_LOAD_STAT_FAILED : Fld := ⟨.CFG_LOAD_STAT, 46, 46⟩
def CFG_LOAD_STAT_BUSY : Fld := ⟨.CFG_LOAD_STAT, 45, 45⟩
def CFG_LOAD_STAT_CAUSE : Fld := ⟨.CFG_LOAD_STAT, 39, 36⟩
def CFG_LOAD_STAT_FRAME_SEQ : Fld := ⟨.CFG_LOAD_STAT, 31, 12⟩
def CFG_LOAD_STAT_SOURCE : Fld := ⟨.CFG_LOAD_STAT, 2, 0⟩
/-! CFG_BOOT_STAT (R410). -/
def CFG_BOOT_STAT_FELL_BACK : Fld := ⟨.CFG_BOOT_STAT, 7, 7⟩
def CFG_BOOT_STAT_LOADED : Fld := ⟨.CFG_BOOT_STAT, 6, 4⟩
def CFG_BOOT_STAT_PREF : Fld := ⟨.CFG_BOOT_STAT, 2, 1⟩
def CFG_BOOT_STAT_SECURE : Fld := ⟨.CFG_BOOT_STAT, 0, 0⟩
/-! CFG_SRC_ADDR (R411). -/
def CFG_SRC_ADDR_ADDR : Fld := ⟨.CFG_SRC_ADDR, 47, 0⟩
/-! CFG_NV_STAT (R412). -/
def CFG_NV_STAT_GOLDEN_OPEN : Fld := ⟨.CFG_NV_STAT, 47, 47⟩
def CFG_NV_STAT_NV_BUSY : Fld := ⟨.CFG_NV_STAT, 46, 46⟩
def CFG_NV_STAT_SHUTDOWN_DEFER : Fld := ⟨.CFG_NV_STAT, 45, 45⟩
def CFG_NV_STAT_RETIRED : Fld := ⟨.CFG_NV_STAT, 44, 40⟩
/-! CFG_ENDURANCE (R413). -/
def CFG_ENDURANCE_LIMIT : Fld := ⟨.CFG_ENDURANCE, 19, 0⟩
/-! CFG_ERASE_CNT (R413). -/
def CFG_ERASE_CNT_COUNT : Fld := ⟨.CFG_ERASE_CNT, 19, 0⟩
/-! SPG_CTL (R414). -/
def SPG_CTL_SPG_GAP : Fld := ⟨.SPG_CTL, 19, 4⟩
def SPG_CTL_RELOAD_EN : Fld := ⟨.SPG_CTL, 3, 3⟩
def SPG_CTL_EN : Fld := ⟨.SPG_CTL, 0, 0⟩
/-! SPG_NONESS_CNT (R415). -/
def SPG_NONESS_CNT_OVF : Fld := ⟨.SPG_NONESS_CNT, 47, 47⟩
def SPG_NONESS_CNT_COUNT : Fld := ⟨.SPG_NONESS_CNT, 31, 0⟩
/-! SPG_ESS_CNT (R415). -/
def SPG_ESS_CNT_OVF : Fld := ⟨.SPG_ESS_CNT, 47, 47⟩
def SPG_ESS_CNT_COUNT : Fld := ⟨.SPG_ESS_CNT, 31, 0⟩
/-! SPG_MULTI_CNT (R415). -/
def SPG_MULTI_CNT_OVF : Fld := ⟨.SPG_MULTI_CNT, 47, 47⟩
def SPG_MULTI_CNT_COUNT : Fld := ⟨.SPG_MULTI_CNT, 31, 0⟩
/-! SPG_SKIP_CNT (R415). -/
def SPG_SKIP_CNT_OVF : Fld := ⟨.SPG_SKIP_CNT, 47, 47⟩
def SPG_SKIP_CNT_COUNT : Fld := ⟨.SPG_SKIP_CNT, 31, 0⟩
/-! SPG_PASS_CNT (R415). -/
def SPG_PASS_CNT_OVF : Fld := ⟨.SPG_PASS_CNT, 47, 47⟩
def SPG_PASS_CNT_COUNT : Fld := ⟨.SPG_PASS_CNT, 31, 0⟩
/-! SPG_LAST (R416). -/
def SPG_LAST_VALID : Fld := ⟨.SPG_LAST, 47, 47⟩
def SPG_LAST_KIND : Fld := ⟨.SPG_LAST, 46, 45⟩
def SPG_LAST_ISLAND : Fld := ⟨.SPG_LAST, 24, 21⟩
def SPG_LAST_FRAME : Fld := ⟨.SPG_LAST, 20, 14⟩
def SPG_LAST_WORD : Fld := ⟨.SPG_LAST, 13, 6⟩
def SPG_LAST_BIT : Fld := ⟨.SPG_LAST, 5, 0⟩
/-! SPG_POS (R417). -/
def SPG_POS_PASS_US : Fld := ⟨.SPG_POS, 47, 32⟩
def SPG_POS_ISLAND : Fld := ⟨.SPG_POS, 14, 11⟩
def SPG_POS_FRAME : Fld := ⟨.SPG_POS, 10, 4⟩
/-! IXG_CTL (R472). -/
def IXG_CTL_RETIRE : Fld := ⟨.IXG_CTL, 17, 17⟩
def IXG_CTL_RETRAIN : Fld := ⟨.IXG_CTL, 16, 16⟩
def IXG_CTL_REPLAY_LIMIT : Fld := ⟨.IXG_CTL, 15, 12⟩
def IXG_CTL_LOC_EXP : Fld := ⟨.IXG_CTL, 11, 8⟩
def IXG_CTL_LOC_THRESH : Fld := ⟨.IXG_CTL, 7, 4⟩
def IXG_CTL_RATE_CAP : Fld := ⟨.IXG_CTL, 3, 2⟩
def IXG_CTL_EN : Fld := ⟨.IXG_CTL, 0, 0⟩
/-! IXG_STAT (R473). -/
def IXG_STAT_STATE : Fld := ⟨.IXG_STAT, 47, 45⟩
def IXG_STAT_RATE : Fld := ⟨.IXG_STAT, 44, 43⟩
def IXG_STAT_SPARES_LEFT : Fld := ⟨.IXG_STAT, 42, 40⟩
def IXG_STAT_CLK_SPARE : Fld := ⟨.IXG_STAT, 39, 39⟩
def IXG_STAT_FAST : Fld := ⟨.IXG_STAT, 38, 38⟩
def IXG_STAT_NEXT_SEQ : Fld := ⟨.IXG_STAT, 31, 24⟩
def IXG_STAT_PEER_ACK : Fld := ⟨.IXG_STAT, 23, 16⟩
def IXG_STAT_HELD : Fld := ⟨.IXG_STAT, 14, 8⟩
/-! IXG_CAP_LOCAL (R471). -/
def IXG_CAP_LOCAL_CAP : Fld := ⟨.IXG_CAP_LOCAL, 47, 0⟩
/-! IXG_CAP_PEER (R471). -/
def IXG_CAP_PEER_CAP : Fld := ⟨.IXG_CAP_PEER, 47, 0⟩
/-! IXG_LANE_MAP (R474). -/
def IXG_LANE_MAP_MAP : Fld := ⟨.IXG_LANE_MAP, 35, 0⟩
/-! IXG_CRC_CNT (R471). -/
def IXG_CRC_CNT_OVF : Fld := ⟨.IXG_CRC_CNT, 47, 47⟩
def IXG_CRC_CNT_COUNT : Fld := ⟨.IXG_CRC_CNT, 31, 0⟩
/-! IXG_REPLAY_CNT (R471). -/
def IXG_REPLAY_CNT_OVF : Fld := ⟨.IXG_REPLAY_CNT, 47, 47⟩
def IXG_REPLAY_CNT_COUNT : Fld := ⟨.IXG_REPLAY_CNT, 31, 0⟩
/-! IXG_SWAP_CNT (R471). -/
def IXG_SWAP_CNT_OVF : Fld := ⟨.IXG_SWAP_CNT, 47, 47⟩
def IXG_SWAP_CNT_COUNT : Fld := ⟨.IXG_SWAP_CNT, 15, 0⟩
/-! IXG_LOC_LAST (R475). -/
def IXG_LOC_LAST_VALID : Fld := ⟨.IXG_LOC_LAST, 47, 47⟩
def IXG_LOC_LAST_UNLOC : Fld := ⟨.IXG_LOC_LAST, 46, 46⟩
def IXG_LOC_LAST_WIRE : Fld := ⟨.IXG_LOC_LAST, 45, 39⟩
def IXG_LOC_LAST_SEQ : Fld := ⟨.IXG_LOC_LAST, 31, 24⟩
/-! IXG_TEST_BAD_LO (R471). -/
def IXG_TEST_BAD_LO_BAD : Fld := ⟨.IXG_TEST_BAD_LO, 47, 0⟩
/-! IXG_TEST_BAD_HI (R471). -/
def IXG_TEST_BAD_HI_BAD : Fld := ⟨.IXG_TEST_BAD_HI, 23, 0⟩
/-! TRN_CTL (R520). -/
def TRN_CTL_TO_EN : Fld := ⟨.TRN_CTL, 4, 4⟩
def TRN_CTL_TO_EXP : Fld := ⟨.TRN_CTL, 3, 0⟩
/-! TRN_ERR_LAST (R521). -/
def TRN_ERR_LAST_VALID : Fld := ⟨.TRN_ERR_LAST, 47, 47⟩
def TRN_ERR_LAST_CAUSE : Fld := ⟨.TRN_ERR_LAST, 46, 44⟩
def TRN_ERR_LAST_IS_WRITE : Fld := ⟨.TRN_ERR_LAST, 43, 43⟩
def TRN_ERR_LAST_SRC_DIE : Fld := ⟨.TRN_ERR_LAST, 42, 40⟩
def TRN_ERR_LAST_SRC_MASTER : Fld := ⟨.TRN_ERR_LAST, 39, 31⟩
def TRN_ERR_LAST_VC : Fld := ⟨.TRN_ERR_LAST, 30, 29⟩
def TRN_ERR_LAST_RTAG : Fld := ⟨.TRN_ERR_LAST, 28, 23⟩
/-! TRN_ERR_ADDR (R519). -/
def TRN_ERR_ADDR_ADDR : Fld := ⟨.TRN_ERR_ADDR, 47, 0⟩
/-! TRN_DROP_CNT (R519). -/
def TRN_DROP_CNT_OVF : Fld := ⟨.TRN_DROP_CNT, 47, 47⟩
def TRN_DROP_CNT_COUNT : Fld := ⟨.TRN_DROP_CNT, 31, 0⟩
/-! TRN_TIMEOUT_CNT (R519). -/
def TRN_TIMEOUT_CNT_OVF : Fld := ⟨.TRN_TIMEOUT_CNT, 47, 47⟩
def TRN_TIMEOUT_CNT_COUNT : Fld := ⟨.TRN_TIMEOUT_CNT, 31, 0⟩
/-! TRN_LATE_CNT (R519). -/
def TRN_LATE_CNT_OVF : Fld := ⟨.TRN_LATE_CNT, 47, 47⟩
def TRN_LATE_CNT_COUNT : Fld := ⟨.TRN_LATE_CNT, 31, 0⟩
/-! TRN_UNMAPPED_CNT (R519). -/
def TRN_UNMAPPED_CNT_OVF : Fld := ⟨.TRN_UNMAPPED_CNT, 47, 47⟩
def TRN_UNMAPPED_CNT_COUNT : Fld := ⟨.TRN_UNMAPPED_CNT, 31, 0⟩
/-! DRAM_CTL (R592). -/
def DRAM_CTL_SR_REQ : Fld := ⟨.DRAM_CTL, 8, 8⟩
def DRAM_CTL_RETRAIN : Fld := ⟨.DRAM_CTL, 7, 7⟩
def DRAM_CTL_RATE : Fld := ⟨.DRAM_CTL, 6, 4⟩
def DRAM_CTL_EN : Fld := ⟨.DRAM_CTL, 0, 0⟩
/-! DRAM_STAT (R593). -/
def DRAM_STAT_STATE : Fld := ⟨.DRAM_STAT, 47, 45⟩
def DRAM_STAT_FILL_DONE : Fld := ⟨.DRAM_STAT, 44, 44⟩
def DRAM_STAT_REF_EFF : Fld := ⟨.DRAM_STAT, 43, 42⟩
def DRAM_STAT_HOT : Fld := ⟨.DRAM_STAT, 41, 41⟩
def DRAM_STAT_OUTSTANDING : Fld := ⟨.DRAM_STAT, 40, 32⟩
def DRAM_STAT_FILL_UNIT : Fld := ⟨.DRAM_STAT, 19, 0⟩
/-! DRAM_GEOM (R594). -/
def DRAM_GEOM_RANKS : Fld := ⟨.DRAM_GEOM, 11, 10⟩
def DRAM_GEOM_WIDTH : Fld := ⟨.DRAM_GEOM, 9, 8⟩
def DRAM_GEOM_DENSITY : Fld := ⟨.DRAM_GEOM, 7, 6⟩
def DRAM_GEOM_MIRROR : Fld := ⟨.DRAM_GEOM, 5, 5⟩
/-! DRAM_TIM_0 (R595). -/
def DRAM_TIM_0_tRAS : Fld := ⟨.DRAM_TIM_0, 47, 40⟩
def DRAM_TIM_0_tRP : Fld := ⟨.DRAM_TIM_0, 39, 34⟩
def DRAM_TIM_0_tRCD : Fld := ⟨.DRAM_TIM_0, 33, 28⟩
def DRAM_TIM_0_CWL : Fld := ⟨.DRAM_TIM_0, 27, 22⟩
def DRAM_TIM_0_CL : Fld := ⟨.DRAM_TIM_0, 21, 16⟩
/-! DRAM_TIM_1 (R595). -/
def DRAM_TIM_1_tFAW : Fld := ⟨.DRAM_TIM_1, 47, 42⟩
def DRAM_TIM_1_tRRD_S : Fld := ⟨.DRAM_TIM_1, 41, 37⟩
def DRAM_TIM_1_tRRD_L : Fld := ⟨.DRAM_TIM_1, 36, 32⟩
def DRAM_TIM_1_tCCD_L : Fld := ⟨.DRAM_TIM_1, 31, 27⟩
def DRAM_TIM_1_tWR : Fld := ⟨.DRAM_TIM_1, 26, 21⟩
def DRAM_TIM_1_tWTR_S : Fld := ⟨.DRAM_TIM_1, 20, 16⟩
def DRAM_TIM_1_tWTR_L : Fld := ⟨.DRAM_TIM_1, 15, 11⟩
def DRAM_TIM_1_tRTP : Fld := ⟨.DRAM_TIM_1, 10, 6⟩
/-! DRAM_TIM_2 (R595). -/
def DRAM_TIM_2_tRFC : Fld := ⟨.DRAM_TIM_2, 47, 38⟩
def DRAM_TIM_2_tREFI : Fld := ⟨.DRAM_TIM_2, 37, 22⟩
/-! DRAM_SCHED (R596). -/
def DRAM_SCHED_AGE_EXP : Fld := ⟨.DRAM_SCHED, 15, 12⟩
def DRAM_SCHED_HIT_CAP : Fld := ⟨.DRAM_SCHED, 11, 8⟩
def DRAM_SCHED_MODE : Fld := ⟨.DRAM_SCHED, 0, 0⟩
/-! DRAM_CLASS_MAP (R591). -/
def DRAM_CLASS_MAP_CLASSES : Fld := ⟨.DRAM_CLASS_MAP, 15, 0⟩
/-! DRAM_REF_CTL (R597). -/
def DRAM_REF_CTL_POSTPONE : Fld := ⟨.DRAM_REF_CTL, 15, 12⟩
def DRAM_REF_CTL_REF_MULT : Fld := ⟨.DRAM_REF_CTL, 9, 8⟩
/-! DRAM_TEMP (R598). -/
def DRAM_TEMP_TEMP_SRC : Fld := ⟨.DRAM_TEMP, 47, 46⟩
def DRAM_TEMP_TEMP_IN : Fld := ⟨.DRAM_TEMP, 39, 32⟩
def DRAM_TEMP_TEMP_NOW : Fld := ⟨.DRAM_TEMP, 23, 16⟩
def DRAM_TEMP_RANGE : Fld := ⟨.DRAM_TEMP, 1, 0⟩
/-! DRAM_RD_CTL (R599). -/
def DRAM_RD_CTL_THRESH : Fld := ⟨.DRAM_RD_CTL, 47, 32⟩
def DRAM_RD_CTL_RADIUS : Fld := ⟨.DRAM_RD_CTL, 9, 8⟩
def DRAM_RD_CTL_DEFENCE : Fld := ⟨.DRAM_RD_CTL, 4, 4⟩
def DRAM_RD_CTL_K : Fld := ⟨.DRAM_RD_CTL, 3, 0⟩
/-! DRAM_TRAIN_CTL (R600). -/
def DRAM_TRAIN_CTL_DRIFT : Fld := ⟨.DRAM_TRAIN_CTL, 15, 8⟩
def DRAM_TRAIN_CTL_ZQ_EXP : Fld := ⟨.DRAM_TRAIN_CTL, 7, 4⟩
def DRAM_TRAIN_CTL_PERIOD_EXP : Fld := ⟨.DRAM_TRAIN_CTL, 3, 0⟩
/-! DRAM_SCRUB (R591). -/
def DRAM_SCRUB_SCRUB_EN : Fld := ⟨.DRAM_SCRUB, 4, 4⟩
def DRAM_SCRUB_SCRUB_EXP : Fld := ⟨.DRAM_SCRUB, 3, 0⟩
/-! DRAM_FILL (R601). -/
def DRAM_FILL_START : Fld := ⟨.DRAM_FILL, 47, 47⟩
def DRAM_FILL_LAST : Fld := ⟨.DRAM_FILL, 39, 20⟩
def DRAM_FILL_FIRST : Fld := ⟨.DRAM_FILL, 19, 0⟩
/-! DRAM_VICTIM_CNT (R591). -/
def DRAM_VICTIM_CNT_OVF : Fld := ⟨.DRAM_VICTIM_CNT, 47, 47⟩
def DRAM_VICTIM_CNT_COUNT : Fld := ⟨.DRAM_VICTIM_CNT, 31, 0⟩
/-! DRAM_THROTTLE_CNT (R591). -/
def DRAM_THROTTLE_CNT_OVF : Fld := ⟨.DRAM_THROTTLE_CNT, 47, 47⟩
def DRAM_THROTTLE_CNT_COUNT : Fld := ⟨.DRAM_THROTTLE_CNT, 31, 0⟩
/-! DRAM_ALERT_CNT (R591). -/
def DRAM_ALERT_CNT_OVF : Fld := ⟨.DRAM_ALERT_CNT, 47, 47⟩
def DRAM_ALERT_CNT_COUNT : Fld := ⟨.DRAM_ALERT_CNT, 31, 0⟩
/-! DRAM_RETRAIN_CNT (R591). -/
def DRAM_RETRAIN_CNT_OVF : Fld := ⟨.DRAM_RETRAIN_CNT, 47, 47⟩
def DRAM_RETRAIN_CNT_COUNT : Fld := ⟨.DRAM_RETRAIN_CNT, 31, 0⟩
/-! DRAM_PROMO_CNT (R591). -/
def DRAM_PROMO_CNT_OVF : Fld := ⟨.DRAM_PROMO_CNT, 47, 47⟩
def DRAM_PROMO_CNT_COUNT : Fld := ⟨.DRAM_PROMO_CNT, 31, 0⟩
/-! DRAM_DEMAND_FILL_CNT (R591). -/
def DRAM_DEMAND_FILL_CNT_OVF : Fld := ⟨.DRAM_DEMAND_FILL_CNT, 47, 47⟩
def DRAM_DEMAND_FILL_CNT_COUNT : Fld := ⟨.DRAM_DEMAND_FILL_CNT, 31, 0⟩
/-! DRAM_REGION (R602). -/
def DRAM_REGION_EN : Fld := ⟨.DRAM_REGION, 47, 47⟩
def DRAM_REGION_KEY : Fld := ⟨.DRAM_REGION, 46, 44⟩
def DRAM_REGION_LIMIT : Fld := ⟨.DRAM_REGION, 39, 20⟩
def DRAM_REGION_BASE : Fld := ⟨.DRAM_REGION, 19, 0⟩
/-! DRAM_KEY (R591). -/
def DRAM_KEY_W : Fld := ⟨.DRAM_KEY, 47, 0⟩
/-! DRAM_KEY_CTL (R591). -/
def DRAM_KEY_CTL_REFUSED : Fld := ⟨.DRAM_KEY_CTL, 2, 2⟩
def DRAM_KEY_CTL_LOAD : Fld := ⟨.DRAM_KEY_CTL, 1, 1⟩
def DRAM_KEY_CTL_VALID : Fld := ⟨.DRAM_KEY_CTL, 0, 0⟩
/-! LANE_CTL (R653). -/
def LANE_CTL_REVIVE : Fld := ⟨.LANE_CTL, 11, 11⟩
def LANE_CTL_LOOP : Fld := ⟨.LANE_CTL, 10, 9⟩
def LANE_CTL_ADAPT_EN : Fld := ⟨.LANE_CTL, 8, 8⟩
def LANE_CTL_TRAIN_EN : Fld := ⟨.LANE_CTL, 7, 7⟩
def LANE_CTL_PSTATE_REQ : Fld := ⟨.LANE_CTL, 5, 4⟩
def LANE_CTL_REF_SEL : Fld := ⟨.LANE_CTL, 3, 3⟩
def LANE_CTL_RATE : Fld := ⟨.LANE_CTL, 2, 0⟩
/-! LANE_STAT (R654). -/
def LANE_STAT_PSTATE : Fld := ⟨.LANE_STAT, 47, 45⟩
def LANE_STAT_OWNER : Fld := ⟨.LANE_STAT, 44, 42⟩
def LANE_STAT_OWNER_INDEX : Fld := ⟨.LANE_STAT, 41, 38⟩
def LANE_STAT_PLL_LOCK : Fld := ⟨.LANE_STAT, 37, 37⟩
def LANE_STAT_CDR_LOCK : Fld := ⟨.LANE_STAT, 36, 36⟩
def LANE_STAT_SIGNAL : Fld := ⟨.LANE_STAT, 35, 35⟩
def LANE_STAT_TRAIN_STATE : Fld := ⟨.LANE_STAT, 34, 32⟩
def LANE_STAT_RETIRED : Fld := ⟨.LANE_STAT, 31, 31⟩
def LANE_STAT_LOS_STICKY : Fld := ⟨.LANE_STAT, 30, 30⟩
/-! LANE_TX (R655). -/
def LANE_TX_INIT_POST : Fld := ⟨.LANE_TX, 47, 42⟩
def LANE_TX_INIT_MAIN : Fld := ⟨.LANE_TX, 41, 36⟩
def LANE_TX_INIT_PRE : Fld := ⟨.LANE_TX, 35, 30⟩
def LANE_TX_POST : Fld := ⟨.LANE_TX, 17, 12⟩
def LANE_TX_MAIN : Fld := ⟨.LANE_TX, 11, 6⟩
def LANE_TX_PRE : Fld := ⟨.LANE_TX, 5, 0⟩
/-! LANE_RX (R656). -/
def LANE_RX_CTLE : Fld := ⟨.LANE_RX, 47, 44⟩
def LANE_RX_DFE_5 : Fld := ⟨.LANE_RX, 29, 24⟩
def LANE_RX_DFE_4 : Fld := ⟨.LANE_RX, 23, 18⟩
def LANE_RX_DFE_3 : Fld := ⟨.LANE_RX, 17, 12⟩
def LANE_RX_DFE_2 : Fld := ⟨.LANE_RX, 11, 6⟩
def LANE_RX_DFE_1 : Fld := ⟨.LANE_RX, 5, 0⟩
/-! LANE_PRBS_CTL (R657). -/
def LANE_PRBS_CTL_INJ_SINGLE : Fld := ⟨.LANE_PRBS_CTL, 47, 47⟩
def LANE_PRBS_CTL_INJ_BURST : Fld := ⟨.LANE_PRBS_CTL, 46, 46⟩
def LANE_PRBS_CTL_INJ_LIVE : Fld := ⟨.LANE_PRBS_CTL, 45, 45⟩
def LANE_PRBS_CTL_BURST_LEN : Fld := ⟨.LANE_PRBS_CTL, 44, 39⟩
def LANE_PRBS_CTL_LOCK_LOST : Fld := ⟨.LANE_PRBS_CTL, 9, 9⟩
def LANE_PRBS_CTL_LOCK : Fld := ⟨.LANE_PRBS_CTL, 8, 8⟩
def LANE_PRBS_CTL_GEN_EN : Fld := ⟨.LANE_PRBS_CTL, 7, 7⟩
def LANE_PRBS_CTL_GEN_PAT : Fld := ⟨.LANE_PRBS_CTL, 6, 5⟩
def LANE_PRBS_CTL_CHK_EN : Fld := ⟨.LANE_PRBS_CTL, 4, 4⟩
def LANE_PRBS_CTL_CHK_PAT : Fld := ⟨.LANE_PRBS_CTL, 3, 2⟩
def LANE_PRBS_CTL_GEN_INV : Fld := ⟨.LANE_PRBS_CTL, 1, 1⟩
def LANE_PRBS_CTL_CHK_INV : Fld := ⟨.LANE_PRBS_CTL, 0, 0⟩
/-! LANE_PRBS_ERR_CNT (R652). -/
def LANE_PRBS_ERR_CNT_OVF : Fld := ⟨.LANE_PRBS_ERR_CNT, 47, 47⟩
def LANE_PRBS_ERR_CNT_COUNT : Fld := ⟨.LANE_PRBS_ERR_CNT, 31, 0⟩
/-! LANE_PRBS_BIT_CNT (R652). -/
def LANE_PRBS_BIT_CNT_OVF : Fld := ⟨.LANE_PRBS_BIT_CNT, 47, 47⟩
def LANE_PRBS_BIT_CNT_COUNT : Fld := ⟨.LANE_PRBS_BIT_CNT, 39, 0⟩
/-! LANE_LOS_CNT (R652). -/
def LANE_LOS_CNT_OVF : Fld := ⟨.LANE_LOS_CNT, 47, 47⟩
def LANE_LOS_CNT_COUNT : Fld := ⟨.LANE_LOS_CNT, 15, 0⟩
/-! LANE_RELOCK_CNT (R652). -/
def LANE_RELOCK_CNT_OVF : Fld := ⟨.LANE_RELOCK_CNT, 47, 47⟩
def LANE_RELOCK_CNT_COUNT : Fld := ⟨.LANE_RELOCK_CNT, 15, 0⟩
/-! MAC_CTL (R658). -/
def MAC_CTL_MAX_FRAME : Fld := ⟨.MAC_CTL, 33, 20⟩
def MAC_CTL_ONE_STEP : Fld := ⟨.MAC_CTL, 19, 19⟩
def MAC_CTL_PAUSE_EN : Fld := ⟨.MAC_CTL, 18, 18⟩
def MAC_CTL_AN_EN : Fld := ⟨.MAC_CTL, 17, 17⟩
def MAC_CTL_LANE : Fld := ⟨.MAC_CTL, 15, 12⟩
def MAC_CTL_MODE : Fld := ⟨.MAC_CTL, 11, 10⟩
def MAC_CTL_EN : Fld := ⟨.MAC_CTL, 0, 0⟩
/-! MAC_STAT (R659). -/
def MAC_STAT_LINK_UP : Fld := ⟨.MAC_STAT, 47, 47⟩
def MAC_STAT_SPEED : Fld := ⟨.MAC_STAT, 46, 45⟩
def MAC_STAT_AN_DONE : Fld := ⟨.MAC_STAT, 44, 44⟩
def MAC_STAT_BLOCK_LOCK : Fld := ⟨.MAC_STAT, 43, 43⟩
def MAC_STAT_PAUSED : Fld := ⟨.MAC_STAT, 42, 42⟩
def MAC_STAT_TS_DROP : Fld := ⟨.MAC_STAT, 41, 41⟩
def MAC_STAT_TS_LEVEL : Fld := ⟨.MAC_STAT, 40, 36⟩
/-! MAC_LAT (R660). -/
def MAC_LAT_EGRESS_PS : Fld := ⟨.MAC_LAT, 31, 16⟩
def MAC_LAT_INGRESS_PS : Fld := ⟨.MAC_LAT, 15, 0⟩
/-! MAC_TS_ID (R661). -/
def MAC_TS_ID_VALID : Fld := ⟨.MAC_TS_ID, 47, 47⟩
def MAC_TS_ID_EPOCH : Fld := ⟨.MAC_TS_ID, 46, 39⟩
def MAC_TS_ID_MSG_TYPE : Fld := ⟨.MAC_TS_ID, 35, 32⟩
def MAC_TS_ID_SEQ_ID : Fld := ⟨.MAC_TS_ID, 31, 16⟩
/-! MAC_TS_TIME (R661). -/
def MAC_TS_TIME_TIME : Fld := ⟨.MAC_TS_TIME, 47, 0⟩
/-! MAC_RX_FRAME_CNT (R652). -/
def MAC_RX_FRAME_CNT_OVF : Fld := ⟨.MAC_RX_FRAME_CNT, 47, 47⟩
def MAC_RX_FRAME_CNT_COUNT : Fld := ⟨.MAC_RX_FRAME_CNT, 39, 0⟩
/-! MAC_TX_FRAME_CNT (R652). -/
def MAC_TX_FRAME_CNT_OVF : Fld := ⟨.MAC_TX_FRAME_CNT, 47, 47⟩
def MAC_TX_FRAME_CNT_COUNT : Fld := ⟨.MAC_TX_FRAME_CNT, 39, 0⟩
/-! MAC_FCS_ERR_CNT (R652). -/
def MAC_FCS_ERR_CNT_OVF : Fld := ⟨.MAC_FCS_ERR_CNT, 47, 47⟩
def MAC_FCS_ERR_CNT_COUNT : Fld := ⟨.MAC_FCS_ERR_CNT, 31, 0⟩
/-! MAC_RX_DROP_CNT (R652). -/
def MAC_RX_DROP_CNT_OVF : Fld := ⟨.MAC_RX_DROP_CNT, 47, 47⟩
def MAC_RX_DROP_CNT_COUNT : Fld := ⟨.MAC_RX_DROP_CNT, 31, 0⟩
/-! MAC_STATION (R662). -/
def MAC_STATION_ADDR : Fld := ⟨.MAC_STATION, 47, 0⟩
/-! MAC_TX_DROP_CNT (R652). -/
def MAC_TX_DROP_CNT_OVF : Fld := ⟨.MAC_TX_DROP_CNT, 47, 47⟩
def MAC_TX_DROP_CNT_COUNT : Fld := ⟨.MAC_TX_DROP_CNT, 31, 0⟩
/-! SL_CTL (R717). -/
def SL_CTL_RETRAIN : Fld := ⟨.SL_CTL, 15, 15⟩
def SL_CTL_REPLAY_LIMIT : Fld := ⟨.SL_CTL, 14, 12⟩
def SL_CTL_LANE_BASE : Fld := ⟨.SL_CTL, 11, 8⟩
def SL_CTL_WIDTH : Fld := ⟨.SL_CTL, 7, 6⟩
def SL_CTL_RATE : Fld := ⟨.SL_CTL, 5, 4⟩
def SL_CTL_EN : Fld := ⟨.SL_CTL, 0, 0⟩
/-! SL_STAT (R718). -/
def SL_STAT_STATE : Fld := ⟨.SL_STAT, 47, 45⟩
def SL_STAT_WIDTH_NOW : Fld := ⟨.SL_STAT, 44, 43⟩
def SL_STAT_LANES : Fld := ⟨.SL_STAT, 42, 35⟩
def SL_STAT_NEXT_SEQ : Fld := ⟨.SL_STAT, 34, 23⟩
def SL_STAT_PEER_ACK : Fld := ⟨.SL_STAT, 22, 11⟩
def SL_STAT_HELD : Fld := ⟨.SL_STAT, 10, 0⟩
/-! SL_PEER (R719). -/
def SL_PEER_VALID : Fld := ⟨.SL_PEER, 47, 47⟩
def SL_PEER_ACTIVE : Fld := ⟨.SL_PEER, 46, 46⟩
def SL_PEER_ROLE : Fld := ⟨.SL_PEER, 45, 44⟩
def SL_PEER_DEVNUM : Fld := ⟨.SL_PEER, 43, 35⟩
def SL_PEER_PART_CODE : Fld := ⟨.SL_PEER, 34, 27⟩
/-! SL_CRC_CNT (R716). -/
def SL_CRC_CNT_OVF : Fld := ⟨.SL_CRC_CNT, 47, 47⟩
def SL_CRC_CNT_COUNT : Fld := ⟨.SL_CRC_CNT, 31, 0⟩
/-! SL_REPLAY_CNT (R716). -/
def SL_REPLAY_CNT_OVF : Fld := ⟨.SL_REPLAY_CNT, 47, 47⟩
def SL_REPLAY_CNT_COUNT : Fld := ⟨.SL_REPLAY_CNT, 31, 0⟩
/-! SL_RETRAIN_CNT (R716). -/
def SL_RETRAIN_CNT_OVF : Fld := ⟨.SL_RETRAIN_CNT, 47, 47⟩
def SL_RETRAIN_CNT_COUNT : Fld := ⟨.SL_RETRAIN_CNT, 31, 0⟩
/-! SK_KEY (R716). -/
def SK_KEY_W : Fld := ⟨.SK_KEY, 47, 0⟩
/-! SK_CTL (R716). -/
def SK_CTL_REFUSED : Fld := ⟨.SK_CTL, 2, 2⟩
def SK_CTL_LOAD : Fld := ⟨.SK_CTL, 1, 1⟩
def SK_CTL_VALID : Fld := ⟨.SK_CTL, 0, 0⟩
/-! SC_CTL (R720). -/
def SC_CTL_TX_OPEN : Fld := ⟨.SC_CTL, 47, 47⟩
def SC_CTL_TX_CLOSE : Fld := ⟨.SC_CTL, 46, 46⟩
def SC_CTL_FLUSH : Fld := ⟨.SC_CTL, 45, 45⟩
def SC_CTL_KEY_SWITCH : Fld := ⟨.SC_CTL, 44, 44⟩
def SC_CTL_MAX_FRAME : Fld := ⟨.SC_CTL, 34, 18⟩
def SC_CTL_LINK : Fld := ⟨.SC_CTL, 17, 15⟩
def SC_CTL_SPEC : Fld := ⟨.SC_CTL, 14, 14⟩
def SC_CTL_SECURE : Fld := ⟨.SC_CTL, 13, 13⟩
def SC_CTL_TX_EN : Fld := ⟨.SC_CTL, 1, 1⟩
def SC_CTL_RX_EN : Fld := ⟨.SC_CTL, 0, 0⟩
/-! SC_BUF (R721). -/
def SC_BUF_TX_BASE : Fld := ⟨.SC_BUF, 47, 38⟩
def SC_BUF_TX_SIZE : Fld := ⟨.SC_BUF, 37, 28⟩
def SC_BUF_RX_BASE : Fld := ⟨.SC_BUF, 27, 18⟩
def SC_BUF_RX_SIZE : Fld := ⟨.SC_BUF, 17, 8⟩
/-! SC_KEY (R722). -/
def SC_KEY_TX_SLOT : Fld := ⟨.SC_KEY, 47, 43⟩
def SC_KEY_TX_NEXT_SLOT : Fld := ⟨.SC_KEY, 42, 38⟩
def SC_KEY_RX_SLOT : Fld := ⟨.SC_KEY, 37, 33⟩
def SC_KEY_RX_NEXT_SLOT : Fld := ⟨.SC_KEY, 32, 28⟩
/-! SC_TX_SALT (R716). -/
def SC_TX_SALT_SALT : Fld := ⟨.SC_TX_SALT, 31, 0⟩
/-! SC_TX_NEXT_SALT (R716). -/
def SC_TX_NEXT_SALT_SALT : Fld := ⟨.SC_TX_NEXT_SALT, 31, 0⟩
/-! SC_RX_SALT (R716). -/
def SC_RX_SALT_SALT : Fld := ⟨.SC_RX_SALT, 31, 0⟩
/-! SC_RX_NEXT_SALT (R716). -/
def SC_RX_NEXT_SALT_SALT : Fld := ⟨.SC_RX_NEXT_SALT, 31, 0⟩
/-! SC_STAT (R723). -/
def SC_STAT_TX_STATE : Fld := ⟨.SC_STAT, 47, 45⟩
def SC_STAT_RX_STATE : Fld := ⟨.SC_STAT, 44, 43⟩
def SC_STAT_REFUSE_CAUSE : Fld := ⟨.SC_STAT, 42, 39⟩
def SC_STAT_BUF_ERR : Fld := ⟨.SC_STAT, 38, 38⟩
def SC_STAT_TX_CREDIT : Fld := ⟨.SC_STAT, 37, 19⟩
def SC_STAT_RX_LEVEL : Fld := ⟨.SC_STAT, 18, 0⟩
/-! SC_NOTICE (R724). -/
def SC_NOTICE_MODE : Fld := ⟨.SC_NOTICE, 47, 46⟩
def SC_NOTICE_ALARM_NOTICE : Fld := ⟨.SC_NOTICE, 45, 45⟩
def SC_NOTICE_LEVEL : Fld := ⟨.SC_NOTICE, 18, 0⟩
/-! SC_NOTICE_ADDR (R716). -/
def SC_NOTICE_ADDR_ADDR : Fld := ⟨.SC_NOTICE_ADDR, 47, 0⟩
/-! SC_TX_CTR_LO (R716). -/
def SC_TX_CTR_LO_CTR : Fld := ⟨.SC_TX_CTR_LO, 47, 0⟩
/-! SC_TX_CTR_HI (R716). -/
def SC_TX_CTR_HI_CTR : Fld := ⟨.SC_TX_CTR_HI, 15, 0⟩
/-! SC_RX_CTR_LO (R716). -/
def SC_RX_CTR_LO_CTR : Fld := ⟨.SC_RX_CTR_LO, 47, 0⟩
/-! SC_RX_CTR_HI (R716). -/
def SC_RX_CTR_HI_CTR : Fld := ⟨.SC_RX_CTR_HI, 15, 0⟩
/-! SC_ALARM_LAST (R725). -/
def SC_ALARM_LAST_VALID : Fld := ⟨.SC_ALARM_LAST, 47, 47⟩
def SC_ALARM_LAST_SPEC : Fld := ⟨.SC_ALARM_LAST, 46, 46⟩
def SC_ALARM_LAST_CAUSE : Fld := ⟨.SC_ALARM_LAST, 45, 44⟩
def SC_ALARM_LAST_DELIVERED : Fld := ⟨.SC_ALARM_LAST, 43, 27⟩
def SC_ALARM_LAST_RETRACTED : Fld := ⟨.SC_ALARM_LAST, 26, 10⟩
/-! SC_ALARM_FRAME (R716). -/
def SC_ALARM_FRAME_CTR : Fld := ⟨.SC_ALARM_FRAME, 47, 0⟩
/-! SC_TX_FRAME_CNT (R716). -/
def SC_TX_FRAME_CNT_OVF : Fld := ⟨.SC_TX_FRAME_CNT, 47, 47⟩
def SC_TX_FRAME_CNT_COUNT : Fld := ⟨.SC_TX_FRAME_CNT, 39, 0⟩
/-! SC_RX_FRAME_CNT (R716). -/
def SC_RX_FRAME_CNT_OVF : Fld := ⟨.SC_RX_FRAME_CNT, 47, 47⟩
def SC_RX_FRAME_CNT_COUNT : Fld := ⟨.SC_RX_FRAME_CNT, 39, 0⟩
/-! SC_FAIL_CNT (R716). -/
def SC_FAIL_CNT_OVF : Fld := ⟨.SC_FAIL_CNT, 47, 47⟩
def SC_FAIL_CNT_COUNT : Fld := ⟨.SC_FAIL_CNT, 31, 0⟩
/-! SC_TX_DROP_CNT (R716). -/
def SC_TX_DROP_CNT_OVF : Fld := ⟨.SC_TX_DROP_CNT, 47, 47⟩
def SC_TX_DROP_CNT_COUNT : Fld := ⟨.SC_TX_DROP_CNT, 31, 0⟩
/-! SC_CUT_CNT (R716). -/
def SC_CUT_CNT_OVF : Fld := ⟨.SC_CUT_CNT, 47, 47⟩
def SC_CUT_CNT_COUNT : Fld := ⟨.SC_CUT_CNT, 31, 0⟩
/-! TB_TIME (R772). -/
def TB_TIME_TIME : Fld := ⟨.TB_TIME, 47, 0⟩
/-! TB_EPOCH (R772). -/
def TB_EPOCH_EPOCH : Fld := ⟨.TB_EPOCH, 23, 0⟩
/-! TB_CTL (R773). -/
def TB_CTL_PPS_WIDTH : Fld := ⟨.TB_CTL, 31, 16⟩
def TB_CTL_SLEW_DIV : Fld := ⟨.TB_CTL, 15, 0⟩
/-! TB_ADJ (R772). -/
def TB_ADJ_ADJ : Fld := ⟨.TB_ADJ, 31, 0⟩
/-! TB_STEP (R772). -/
def TB_STEP_STEP : Fld := ⟨.TB_STEP, 47, 0⟩
/-! TB_SLEW (R772). -/
def TB_SLEW_SLEW : Fld := ⟨.TB_SLEW, 47, 0⟩
/-! TB_SLEW_LEFT (R772). -/
def TB_SLEW_LEFT_LEFT : Fld := ⟨.TB_SLEW_LEFT, 47, 0⟩
/-! TB_STAT (R773). -/
def TB_STAT_WRAP : Fld := ⟨.TB_STAT, 47, 47⟩
def TB_STAT_STEPPED : Fld := ⟨.TB_STAT, 46, 46⟩
def TB_STAT_HOLDOVER : Fld := ⟨.TB_STAT, 45, 45⟩
def TB_STAT_REPLICA_ERR : Fld := ⟨.TB_STAT, 44, 44⟩
def TB_STAT_REPLICA_OK : Fld := ⟨.TB_STAT, 43, 40⟩
/-! TB_REPLICA_CNT (R772). -/
def TB_REPLICA_CNT_OVF : Fld := ⟨.TB_REPLICA_CNT, 47, 47⟩
def TB_REPLICA_CNT_COUNT : Fld := ⟨.TB_REPLICA_CNT, 31, 0⟩
/-! ENC_CTL (R774). -/
def ENC_CTL_CMP_ARM : Fld := ⟨.ENC_CTL, 12, 12⟩
def ENC_CTL_RING : Fld := ⟨.ENC_CTL, 11, 10⟩
def ENC_CTL_Z_REC : Fld := ⟨.ENC_CTL, 9, 9⟩
def ENC_CTL_Z_CLEAR : Fld := ⟨.ENC_CTL, 8, 8⟩
def ENC_CTL_FILT : Fld := ⟨.ENC_CTL, 7, 4⟩
def ENC_CTL_INVERT : Fld := ⟨.ENC_CTL, 3, 3⟩
def ENC_CTL_MODE : Fld := ⟨.ENC_CTL, 2, 0⟩
/-! ENC_POS (R772). -/
def ENC_POS_POS : Fld := ⟨.ENC_POS, 47, 0⟩
/-! ENC_INDEX_POS (R772). -/
def ENC_INDEX_POS_POS : Fld := ⟨.ENC_INDEX_POS, 47, 0⟩
/-! ENC_EDGE_TIME (R772). -/
def ENC_EDGE_TIME_TIME : Fld := ⟨.ENC_EDGE_TIME, 47, 0⟩
/-! ENC_GAP (R772). -/
def ENC_GAP_GAP : Fld := ⟨.ENC_GAP, 31, 0⟩
/-! ENC_CMP (R772). -/
def ENC_CMP_CMP : Fld := ⟨.ENC_CMP, 47, 0⟩
/-! ENC_CMP_STEP (R772). -/
def ENC_CMP_STEP_STEP : Fld := ⟨.ENC_CMP_STEP, 47, 0⟩
/-! ENC_STAT (R774). -/
def ENC_STAT_WRAP_UP : Fld := ⟨.ENC_STAT, 47, 47⟩
def ENC_STAT_WRAP_DN : Fld := ⟨.ENC_STAT, 46, 46⟩
def ENC_STAT_DIR : Fld := ⟨.ENC_STAT, 45, 45⟩
def ENC_STAT_Z_SEEN : Fld := ⟨.ENC_STAT, 44, 44⟩
/-! ENC_ERR_CNT (R772). -/
def ENC_ERR_CNT_OVF : Fld := ⟨.ENC_ERR_CNT, 47, 47⟩
def ENC_ERR_CNT_COUNT : Fld := ⟨.ENC_ERR_CNT, 15, 0⟩
/-! PD_CTL (R775). -/
def PD_CTL_HOLDOFF : Fld := ⟨.PD_CTL, 31, 16⟩
def PD_CTL_RING : Fld := ⟨.PD_CTL, 9, 8⟩
def PD_CTL_ENC : Fld := ⟨.PD_CTL, 7, 6⟩
def PD_CTL_FILT : Fld := ⟨.PD_CTL, 5, 2⟩
def PD_CTL_EDGE : Fld := ⟨.PD_CTL, 1, 0⟩
/-! PD_LAST (R772). -/
def PD_LAST_TIME : Fld := ⟨.PD_LAST, 47, 0⟩
/-! PD_CNT (R772). -/
def PD_CNT_OVF : Fld := ⟨.PD_CNT, 47, 47⟩
def PD_CNT_COUNT : Fld := ⟨.PD_CNT, 31, 0⟩
/-! PD_HOLD_CNT (R772). -/
def PD_HOLD_CNT_OVF : Fld := ⟨.PD_HOLD_CNT, 47, 47⟩
def PD_HOLD_CNT_COUNT : Fld := ⟨.PD_HOLD_CNT, 31, 0⟩
/-! LEV_DEST (R772). -/
def LEV_DEST_ADDR : Fld := ⟨.LEV_DEST, 47, 0⟩
/-! LEV_CTL (R776). -/
def LEV_CTL_EN : Fld := ⟨.LEV_CTL, 47, 47⟩
def LEV_CTL_EVT_GPIO_HI : Fld := ⟨.LEV_CTL, 46, 46⟩
def LEV_CTL_BUSY : Fld := ⟨.LEV_CTL, 45, 45⟩
def LEV_CTL_EXP : Fld := ⟨.LEV_CTL, 3, 0⟩
/-! LEV_SEQ (R772). -/
def LEV_SEQ_SEQ : Fld := ⟨.LEV_SEQ, 15, 0⟩
/-! LEV_LOST_CNT (R772). -/
def LEV_LOST_CNT_OVF : Fld := ⟨.LEV_LOST_CNT, 47, 47⟩
def LEV_LOST_CNT_COUNT : Fld := ⟨.LEV_LOST_CNT, 31, 0⟩
/-! CT_CTL (R777). -/
def CT_CTL_EN : Fld := ⟨.CT_CTL, 47, 47⟩
def CT_CTL_CFG_ERR : Fld := ⟨.CT_CTL, 46, 46⟩
def CT_CTL_MODE : Fld := ⟨.CT_CTL, 1, 0⟩
/-! CT_START (R772). -/
def CT_START_TIME : Fld := ⟨.CT_START, 47, 0⟩
/-! CT_PERIOD (R772). -/
def CT_PERIOD_NS : Fld := ⟨.CT_PERIOD, 23, 0⟩
/-! CT_PHASE (R777). -/
def CT_PHASE_ADC_COUNT : Fld := ⟨.CT_PHASE, 39, 32⟩
def CT_PHASE_SAMPLE_NS : Fld := ⟨.CT_PHASE, 31, 16⟩
def CT_PHASE_DAC_NS : Fld := ⟨.CT_PHASE, 15, 0⟩
/-! CT_DAC_VAL (R772). -/
def CT_DAC_VAL_VAL : Fld := ⟨.CT_DAC_VAL, 13, 0⟩
/-! CT_RING_BASE (R772). -/
def CT_RING_BASE_ADDR : Fld := ⟨.CT_RING_BASE, 47, 0⟩
/-! CT_RING_CTL (R772). -/
def CT_RING_CTL_EXP : Fld := ⟨.CT_RING_CTL, 3, 0⟩
/-! CT_WSEQ (R772). -/
def CT_WSEQ_SEQ : Fld := ⟨.CT_WSEQ, 47, 0⟩
/-! CT_LAST (R772). -/
def CT_LAST_LANE : Fld := ⟨.CT_LAST, 15, 0⟩
/-! CT_LOST_CNT (R772). -/
def CT_LOST_CNT_OVF : Fld := ⟨.CT_LOST_CNT, 47, 47⟩
def CT_LOST_CNT_COUNT : Fld := ⟨.CT_LOST_CNT, 31, 0⟩
/-! CT_OVR_CNT (R772). -/
def CT_OVR_CNT_OVF : Fld := ⟨.CT_OVR_CNT, 47, 47⟩
def CT_OVR_CNT_COUNT : Fld := ⟨.CT_OVR_CNT, 31, 0⟩
/-! CT_SAFE (R772). -/
def CT_SAFE_CODE : Fld := ⟨.CT_SAFE, 17, 16⟩
def CT_SAFE_VAL : Fld := ⟨.CT_SAFE, 13, 0⟩
/-! GPIO_IN (R772). -/
def GPIO_IN_IN : Fld := ⟨.GPIO_IN, 47, 0⟩
/-! GPIO_OUT (R772). -/
def GPIO_OUT_OUT : Fld := ⟨.GPIO_OUT, 47, 0⟩
/-! GPIO_OE (R772). -/
def GPIO_OE_OE : Fld := ⟨.GPIO_OE, 47, 0⟩
/-! GPIO_SET (R772). -/
def GPIO_SET_SET : Fld := ⟨.GPIO_SET, 47, 0⟩
/-! GPIO_CLR (R772). -/
def GPIO_CLR_CLR : Fld := ⟨.GPIO_CLR, 47, 0⟩
/-! GPIO_SAFE (R772). -/
def GPIO_SAFE_CODES : Fld := ⟨.GPIO_SAFE, 47, 0⟩
/-! GPIO_CFG (R775). -/
def GPIO_CFG_SCHED_ARM : Fld := ⟨.GPIO_CFG, 47, 47⟩
def GPIO_CFG_SCHED_VAL : Fld := ⟨.GPIO_CFG, 46, 46⟩
def GPIO_CFG_FUNC : Fld := ⟨.GPIO_CFG, 12, 11⟩
def GPIO_CFG_OPEN_DRAIN : Fld := ⟨.GPIO_CFG, 10, 10⟩
def GPIO_CFG_RING : Fld := ⟨.GPIO_CFG, 9, 8⟩
def GPIO_CFG_ENC : Fld := ⟨.GPIO_CFG, 7, 6⟩
def GPIO_CFG_FILT : Fld := ⟨.GPIO_CFG, 5, 2⟩
def GPIO_CFG_EDGE : Fld := ⟨.GPIO_CFG, 1, 0⟩
/-! GPIO_SCHED_TIME (R772). -/
def GPIO_SCHED_TIME_TIME : Fld := ⟨.GPIO_SCHED_TIME, 47, 0⟩
/-! CABEN_CTL (R840). -/
def CABEN_CTL_UDP_PORT : Fld := ⟨.CABEN_CTL, 47, 32⟩
def CABEN_CTL_UDP_KEY_SLOT : Fld := ⟨.CABEN_CTL, 12, 8⟩
def CABEN_CTL_UDP_SECURE : Fld := ⟨.CABEN_CTL, 4, 4⟩
def CABEN_CTL_SAETTE_EN : Fld := ⟨.CABEN_CTL, 2, 2⟩
def CABEN_CTL_UDP_EN : Fld := ⟨.CABEN_CTL, 1, 1⟩
def CABEN_CTL_SPI_EN : Fld := ⟨.CABEN_CTL, 0, 0⟩
/-! CABEN_STAT (R841). -/
def CABEN_STAT_BOOT_SM : Fld := ⟨.CABEN_STAT, 47, 47⟩
def CABEN_STAT_UDP_EXHAUSTED : Fld := ⟨.CABEN_STAT, 46, 46⟩
def CABEN_STAT_OUT_SAETTE : Fld := ⟨.CABEN_STAT, 14, 10⟩
def CABEN_STAT_OUT_UDP : Fld := ⟨.CABEN_STAT, 9, 5⟩
def CABEN_STAT_OUT_SPI : Fld := ⟨.CABEN_STAT, 4, 0⟩
/-! CABEN_IP (R839). -/
def CABEN_IP_ADDR : Fld := ⟨.CABEN_IP, 31, 0⟩
/-! CABEN_UDP_TX_SALT (R839). -/
def CABEN_UDP_TX_SALT_SALT : Fld := ⟨.CABEN_UDP_TX_SALT, 31, 0⟩
/-! CABEN_UDP_RX_SALT (R839). -/
def CABEN_UDP_RX_SALT_SALT : Fld := ⟨.CABEN_UDP_RX_SALT, 31, 0⟩
/-! CABEN_UDP_TX_CTR_LO (R839). -/
def CABEN_UDP_TX_CTR_LO_CTR : Fld := ⟨.CABEN_UDP_TX_CTR_LO, 47, 0⟩
/-! CABEN_UDP_TX_CTR_HI (R839). -/
def CABEN_UDP_TX_CTR_HI_CTR : Fld := ⟨.CABEN_UDP_TX_CTR_HI, 15, 0⟩
/-! CABEN_UDP_RX_CTR_LO (R839). -/
def CABEN_UDP_RX_CTR_LO_CTR : Fld := ⟨.CABEN_UDP_RX_CTR_LO, 47, 0⟩
/-! CABEN_UDP_RX_CTR_HI (R839). -/
def CABEN_UDP_RX_CTR_HI_CTR : Fld := ⟨.CABEN_UDP_RX_CTR_HI, 15, 0⟩
/-! CABEN_FRAME_ERR_CNT (R839). -/
def CABEN_FRAME_ERR_CNT_OVF : Fld := ⟨.CABEN_FRAME_ERR_CNT, 47, 47⟩
def CABEN_FRAME_ERR_CNT_COUNT : Fld := ⟨.CABEN_FRAME_ERR_CNT, 31, 0⟩
/-! CABEN_TAG_REUSE_CNT (R839). -/
def CABEN_TAG_REUSE_CNT_OVF : Fld := ⟨.CABEN_TAG_REUSE_CNT, 47, 47⟩
def CABEN_TAG_REUSE_CNT_COUNT : Fld := ⟨.CABEN_TAG_REUSE_CNT, 31, 0⟩
/-! CABEN_BUSY_CNT (R839). -/
def CABEN_BUSY_CNT_OVF : Fld := ⟨.CABEN_BUSY_CNT, 47, 47⟩
def CABEN_BUSY_CNT_COUNT : Fld := ⟨.CABEN_BUSY_CNT, 31, 0⟩
/-! CABEN_AUTH_CNT (R839). -/
def CABEN_AUTH_CNT_OVF : Fld := ⟨.CABEN_AUTH_CNT, 47, 47⟩
def CABEN_AUTH_CNT_COUNT : Fld := ⟨.CABEN_AUTH_CNT, 31, 0⟩
/-! CABEN_REPLAY_CNT (R839). -/
def CABEN_REPLAY_CNT_OVF : Fld := ⟨.CABEN_REPLAY_CNT, 47, 47⟩
def CABEN_REPLAY_CNT_COUNT : Fld := ⟨.CABEN_REPLAY_CNT, 31, 0⟩
/-! CABEN_TIMEOUT_CNT (R839). -/
def CABEN_TIMEOUT_CNT_OVF : Fld := ⟨.CABEN_TIMEOUT_CNT, 47, 47⟩
def CABEN_TIMEOUT_CNT_COUNT : Fld := ⟨.CABEN_TIMEOUT_CNT, 31, 0⟩
/-! SEQ_CTL (R893). -/
def SEQ_CTL_RESET : Fld := ⟨.SEQ_CTL, 47, 47⟩
def SEQ_CTL_STEP : Fld := ⟨.SEQ_CTL, 46, 46⟩
def SEQ_CTL_RUN : Fld := ⟨.SEQ_CTL, 45, 45⟩
def SEQ_CTL_STEP_IRQ : Fld := ⟨.SEQ_CTL, 44, 44⟩
def SEQ_CTL_FREQ : Fld := ⟨.SEQ_CTL, 7, 0⟩
/-! SEQ_STAT (R894). -/
def SEQ_STAT_STATE : Fld := ⟨.SEQ_STAT, 47, 46⟩
def SEQ_STAT_HALT_CAUSE : Fld := ⟨.SEQ_STAT, 45, 42⟩
def SEQ_STAT_BP : Fld := ⟨.SEQ_STAT, 41, 39⟩
def SEQ_STAT_GERR : Fld := ⟨.SEQ_STAT, 38, 38⟩
def SEQ_STAT_PC : Fld := ⟨.SEQ_STAT, 12, 0⟩
/-! SEQ_PC (R892). -/
def SEQ_PC_PC : Fld := ⟨.SEQ_PC, 12, 0⟩
/-! SEQ_MEM_ADDR (R895). -/
def SEQ_MEM_ADDR_IMEM : Fld := ⟨.SEQ_MEM_ADDR, 47, 47⟩
def SEQ_MEM_ADDR_TAG : Fld := ⟨.SEQ_MEM_ADDR, 46, 45⟩
def SEQ_MEM_ADDR_UE : Fld := ⟨.SEQ_MEM_ADDR, 44, 44⟩
def SEQ_MEM_ADDR_ADDR : Fld := ⟨.SEQ_MEM_ADDR, 12, 0⟩
/-! SEQ_MEM_DATA (R892). -/
def SEQ_MEM_DATA_DATA : Fld := ⟨.SEQ_MEM_DATA, 47, 0⟩
/-! SEQ_G (R892). -/
def SEQ_G_G : Fld := ⟨.SEQ_G, 47, 0⟩
/-! SEQ_SR (R892). -/
def SEQ_SR_SR : Fld := ⟨.SEQ_SR, 47, 0⟩
/-! SEQ_BP_CTL (R896). -/
def SEQ_BP_CTL_EN : Fld := ⟨.SEQ_BP_CTL, 47, 47⟩
def SEQ_BP_CTL_KIND : Fld := ⟨.SEQ_BP_CTL, 46, 45⟩
def SEQ_BP_CTL_ADDR : Fld := ⟨.SEQ_BP_CTL, 12, 0⟩
/-! SEQ_BP_ADDR (R892). -/
def SEQ_BP_ADDR_ADDR : Fld := ⟨.SEQ_BP_ADDR, 47, 0⟩
/-! SEQ_DOORBELL (R892). -/
def SEQ_DOORBELL_WORD : Fld := ⟨.SEQ_DOORBELL, 47, 0⟩
/-! SEQ_DB_OVR (R892). -/
def SEQ_DB_OVR_OVR : Fld := ⟨.SEQ_DB_OVR, 31, 4⟩
/-! SEQ_WAIT_CNT (R892). -/
def SEQ_WAIT_CNT_OVF : Fld := ⟨.SEQ_WAIT_CNT, 47, 47⟩
def SEQ_WAIT_CNT_COUNT : Fld := ⟨.SEQ_WAIT_CNT, 39, 0⟩
/-! SEQ_MBOX (R892). -/
def SEQ_MBOX_WORD : Fld := ⟨.SEQ_MBOX, 47, 0⟩
/-! CTX_CTL (R933). -/
def CTX_CTL_RUN : Fld := ⟨.CTX_CTL, 47, 47⟩
def CTX_CTL_IN_INST : Fld := ⟨.CTX_CTL, 46, 46⟩
def CTX_CTL_INST : Fld := ⟨.CTX_CTL, 45, 42⟩
def CTX_CTL_DESC_EXP : Fld := ⟨.CTX_CTL, 3, 0⟩
/-! CTX_DESC_BASE (R933). -/
def CTX_DESC_BASE_ADDR : Fld := ⟨.CTX_DESC_BASE, 47, 0⟩
/-! CTX_PROD (R933). -/
def CTX_PROD_PROD : Fld := ⟨.CTX_PROD, 15, 0⟩
/-! CTX_STAT (R933). -/
def CTX_STAT_STATE : Fld := ⟨.CTX_STAT, 47, 46⟩
def CTX_STAT_CAUSE : Fld := ⟨.CTX_STAT, 44, 41⟩
def CTX_STAT_CONS : Fld := ⟨.CTX_STAT, 15, 0⟩
/-! CTX_WORDS_CNT (R933). -/
def CTX_WORDS_CNT_OVF : Fld := ⟨.CTX_WORDS_CNT, 47, 47⟩
def CTX_WORDS_CNT_COUNT : Fld := ⟨.CTX_WORDS_CNT, 39, 0⟩
/-! CTX_RETRACT_CNT (R933). -/
def CTX_RETRACT_CNT_OVF : Fld := ⟨.CTX_RETRACT_CNT, 47, 47⟩
def CTX_RETRACT_CNT_COUNT : Fld := ⟨.CTX_RETRACT_CNT, 31, 0⟩
/-! CTX_DROP_CNT (R933). -/
def CTX_DROP_CNT_OVF : Fld := ⟨.CTX_DROP_CNT, 47, 47⟩
def CTX_DROP_CNT_COUNT : Fld := ⟨.CTX_DROP_CNT, 31, 0⟩
/-! ENG_EPOCH (R933). -/
def ENG_EPOCH_EPOCH : Fld := ⟨.ENG_EPOCH, 7, 0⟩
/-! INST_CTL (R934). -/
def INST_CTL_RESET : Fld := ⟨.INST_CTL, 47, 47⟩
def INST_CTL_WEIGHT : Fld := ⟨.INST_CTL, 3, 0⟩
/-! INST_STAT (R934). -/
def INST_STAT_BUSY : Fld := ⟨.INST_STAT, 47, 47⟩
def INST_STAT_ERR : Fld := ⟨.INST_STAT, 46, 46⟩
def INST_STAT_EPOCH : Fld := ⟨.INST_STAT, 7, 0⟩
/-! INST_ISL_LO (R934). -/
def INST_ISL_LO_MEMBERS : Fld := ⟨.INST_ISL_LO, 47, 0⟩
/-! INST_ISL_HI (R934). -/
def INST_ISL_HI_MEMBERS : Fld := ⟨.INST_ISL_HI, 15, 0⟩
/-! INST_CH_LO (R934). -/
def INST_CH_LO_MEMBERS : Fld := ⟨.INST_CH_LO, 47, 0⟩
/-! INST_CH_HI (R934). -/
def INST_CH_HI_MEMBERS : Fld := ⟨.INST_CH_HI, 15, 0⟩
/-! INST_RESET_CNT (R934). -/
def INST_RESET_CNT_OVF : Fld := ⟨.INST_RESET_CNT, 47, 47⟩
def INST_RESET_CNT_COUNT : Fld := ⟨.INST_RESET_CNT, 15, 0⟩
/-! INST_RESET_NS (R934). -/
def INST_RESET_NS_NS : Fld := ⟨.INST_RESET_NS, 31, 0⟩
/-! JD_ROUTE (R986). -/
def JD_ROUTE_ROUTES : Fld := ⟨.JD_ROUTE, 47, 0⟩
/-! JD_CTL (R986). -/
def JD_CTL_GW_EN : Fld := ⟨.JD_CTL, 47, 47⟩
def JD_CTL_DATELINE : Fld := ⟨.JD_CTL, 7, 0⟩
/-! JD_TIME_CTL (R986). -/
def JD_TIME_CTL_FOLLOW : Fld := ⟨.JD_TIME_CTL, 47, 47⟩
def JD_TIME_CTL_LINK : Fld := ⟨.JD_TIME_CTL, 46, 44⟩
def JD_TIME_CTL_SYNC_EXP : Fld := ⟨.JD_TIME_CTL, 3, 0⟩
/-! JD_TIME_OFS (R986). -/
def JD_TIME_OFS_NS : Fld := ⟨.JD_TIME_OFS, 47, 0⟩
/-! JD_TIME_DLY (R986). -/
def JD_TIME_DLY_NS : Fld := ⟨.JD_TIME_DLY, 47, 0⟩
/-! JD_TIME_STAT (R986). -/
def JD_TIME_STAT_LOCKED : Fld := ⟨.JD_TIME_STAT, 47, 47⟩
def JD_TIME_STAT_LOST_STICKY : Fld := ⟨.JD_TIME_STAT, 46, 46⟩
/-! JD_FWD_CNT (R986). -/
def JD_FWD_CNT_OVF : Fld := ⟨.JD_FWD_CNT, 47, 47⟩
def JD_FWD_CNT_COUNT : Fld := ⟨.JD_FWD_CNT, 31, 0⟩
/-! JD_UNREACH_CNT (R986). -/
def JD_UNREACH_CNT_OVF : Fld := ⟨.JD_UNREACH_CNT, 47, 47⟩
def JD_UNREACH_CNT_COUNT : Fld := ⟨.JD_UNREACH_CNT, 31, 0⟩
/-! JD_HOP_DROP_CNT (R986). -/
def JD_HOP_DROP_CNT_OVF : Fld := ⟨.JD_HOP_DROP_CNT, 47, 47⟩
def JD_HOP_DROP_CNT_COUNT : Fld := ⟨.JD_HOP_DROP_CNT, 31, 0⟩
/-! JD_CH_FWD (R986). -/
def JD_CH_FWD_EN : Fld := ⟨.JD_CH_FWD, 47, 47⟩
def JD_CH_FWD_IN_LINK : Fld := ⟨.JD_CH_FWD, 46, 44⟩
def JD_CH_FWD_OUT_LINK : Fld := ⟨.JD_CH_FWD, 43, 41⟩
def JD_CH_FWD_BASE : Fld := ⟨.JD_CH_FWD, 27, 18⟩
def JD_CH_FWD_SIZE : Fld := ⟨.JD_CH_FWD, 17, 8⟩
/-! DUP_CTL (R987). -/
def DUP_CTL_YIELD : Fld := ⟨.DUP_CTL, 47, 47⟩
def DUP_CTL_PRIMARY : Fld := ⟨.DUP_CTL, 46, 46⟩
def DUP_CTL_HB_TAKEOVER : Fld := ⟨.DUP_CTL, 45, 45⟩
def DUP_CTL_PIN_EN : Fld := ⟨.DUP_CTL, 44, 44⟩
def DUP_CTL_AUTO_OUT : Fld := ⟨.DUP_CTL, 43, 43⟩
def DUP_CTL_CUT_NOTICE : Fld := ⟨.DUP_CTL, 42, 42⟩
def DUP_CTL_JOIN_S : Fld := ⟨.DUP_CTL, 31, 24⟩
def DUP_CTL_SNAP_US : Fld := ⟨.DUP_CTL, 23, 16⟩
def DUP_CTL_EPOCH : Fld := ⟨.DUP_CTL, 3, 0⟩
/-! DUP_STAT (R988). -/
def DUP_STAT_STATE : Fld := ⟨.DUP_STAT, 47, 45⟩
def DUP_STAT_PEER_ALIVE : Fld := ⟨.DUP_STAT, 44, 44⟩
def DUP_STAT_HO_IN : Fld := ⟨.DUP_STAT, 43, 43⟩
def DUP_STAT_COMMIT_HALF : Fld := ⟨.DUP_STAT, 42, 42⟩
def DUP_STAT_COPYING : Fld := ⟨.DUP_STAT, 41, 41⟩
def DUP_STAT_HB_MISSED : Fld := ⟨.DUP_STAT, 40, 39⟩
/-! DUP_EPOCH_NUM (R986). -/
def DUP_EPOCH_NUM_NUM : Fld := ⟨.DUP_EPOCH_NUM, 31, 0⟩
/-! DUP_CUT_TIME (R986). -/
def DUP_CUT_TIME_TIME : Fld := ⟨.DUP_CUT_TIME, 47, 0⟩
/-! DUP_NOTICE_ADDR (R986). -/
def DUP_NOTICE_ADDR_ADDR : Fld := ⟨.DUP_NOTICE_ADDR, 47, 0⟩
/-! DUP_TAKEOVER_TIME (R986). -/
def DUP_TAKEOVER_TIME_TIME : Fld := ⟨.DUP_TAKEOVER_TIME, 47, 0⟩
/-! DUP_EPOCH_CNT (R986). -/
def DUP_EPOCH_CNT_OVF : Fld := ⟨.DUP_EPOCH_CNT, 47, 47⟩
def DUP_EPOCH_CNT_COUNT : Fld := ⟨.DUP_EPOCH_CNT, 31, 0⟩
/-! DUP_OVERRUN_CNT (R986). -/
def DUP_OVERRUN_CNT_OVF : Fld := ⟨.DUP_OVERRUN_CNT, 47, 47⟩
def DUP_OVERRUN_CNT_COUNT : Fld := ⟨.DUP_OVERRUN_CNT, 31, 0⟩
/-! DUP_CRC_FAIL_CNT (R986). -/
def DUP_CRC_FAIL_CNT_OVF : Fld := ⟨.DUP_CRC_FAIL_CNT, 47, 47⟩
def DUP_CRC_FAIL_CNT_COUNT : Fld := ⟨.DUP_CRC_FAIL_CNT, 31, 0⟩
/-! DUP_HB_MISS_CNT (R986). -/
def DUP_HB_MISS_CNT_OVF : Fld := ⟨.DUP_HB_MISS_CNT, 47, 47⟩
def DUP_HB_MISS_CNT_COUNT : Fld := ⟨.DUP_HB_MISS_CNT, 31, 0⟩
/-! DUP_TAKEOVER_CNT (R986). -/
def DUP_TAKEOVER_CNT_OVF : Fld := ⟨.DUP_TAKEOVER_CNT, 47, 47⟩
def DUP_TAKEOVER_CNT_COUNT : Fld := ⟨.DUP_TAKEOVER_CNT, 31, 0⟩
/-! DUP_YIELD_CNT (R986). -/
def DUP_YIELD_CNT_OVF : Fld := ⟨.DUP_YIELD_CNT, 47, 47⟩
def DUP_YIELD_CNT_COUNT : Fld := ⟨.DUP_YIELD_CNT, 31, 0⟩
/-! DUP_REG_CTL (R986). -/
def DUP_REG_CTL_EN : Fld := ⟨.DUP_REG_CTL, 47, 47⟩
def DUP_REG_CTL_KIND : Fld := ⟨.DUP_REG_CTL, 46, 45⟩
def DUP_REG_CTL_LENGTH : Fld := ⟨.DUP_REG_CTL, 23, 0⟩
/-! DUP_REG_SRC (R986). -/
def DUP_REG_SRC_ADDR : Fld := ⟨.DUP_REG_SRC, 47, 0⟩
/-! DUP_REG_DST_A (R986). -/
def DUP_REG_DST_A_ADDR : Fld := ⟨.DUP_REG_DST_A, 47, 0⟩
/-! DUP_REG_DST_B (R986). -/
def DUP_REG_DST_B_ADDR : Fld := ⟨.DUP_REG_DST_B, 47, 0⟩
/-! FM_CTL (R1030). -/
def FM_CTL_INT_EN : Fld := ⟨.FM_CTL, 47, 47⟩
def FM_CTL_SHADOW_EXP : Fld := ⟨.FM_CTL, 3, 0⟩
/-! FM_STAT (R1030). -/
def FM_STAT_FAULT_N : Fld := ⟨.FM_STAT, 47, 47⟩
def FM_STAT_IN_FAULT : Fld := ⟨.FM_STAT, 46, 39⟩
def FM_STAT_SEVERE : Fld := ⟨.FM_STAT, 38, 31⟩
def FM_STAT_PERMANENT : Fld := ⟨.FM_STAT, 30, 23⟩
def FM_STAT_SHADOWS : Fld := ⟨.FM_STAT, 22, 16⟩
def FM_STAT_LOG_LEVEL : Fld := ⟨.FM_STAT, 8, 0⟩
/-! FM_NOTICE_ADDR (R1030). -/
def FM_NOTICE_ADDR_ADDR : Fld := ⟨.FM_NOTICE_ADDR, 47, 0⟩
/-! FM_LOG_CTL (R1030). -/
def FM_LOG_CTL_POP : Fld := ⟨.FM_LOG_CTL, 47, 47⟩
/-! FM_LOG_WIN (R1030). -/
def FM_LOG_WIN_W : Fld := ⟨.FM_LOG_WIN, 47, 0⟩
/-! FM_LOG_LOST_CNT (R1030). -/
def FM_LOG_LOST_CNT_OVF : Fld := ⟨.FM_LOG_LOST_CNT, 47, 47⟩
def FM_LOG_LOST_CNT_COUNT : Fld := ⟨.FM_LOG_LOST_CNT, 15, 0⟩
/-! FM_SHADOW_CNT (R1030). -/
def FM_SHADOW_CNT_OVF : Fld := ⟨.FM_SHADOW_CNT, 47, 47⟩
def FM_SHADOW_CNT_COUNT : Fld := ⟨.FM_SHADOW_CNT, 31, 0⟩
/-! FM_SRC_CTL (R1031). -/
def FM_SRC_CTL_FORCE : Fld := ⟨.FM_SRC_CTL, 47, 47⟩
def FM_SRC_CTL_CLEAR : Fld := ⟨.FM_SRC_CTL, 46, 46⟩
def FM_SRC_CTL_EN : Fld := ⟨.FM_SRC_CTL, 45, 45⟩
def FM_SRC_CTL_TEXP : Fld := ⟨.FM_SRC_CTL, 44, 40⟩
def FM_SRC_CTL_N : Fld := ⟨.FM_SRC_CTL, 39, 32⟩
def FM_SRC_CTL_REACT_SEV : Fld := ⟨.FM_SRC_CTL, 30, 24⟩
def FM_SRC_CTL_REACT_BASE : Fld := ⟨.FM_SRC_CTL, 22, 16⟩
def FM_SRC_CTL_QUIET_MS : Fld := ⟨.FM_SRC_CTL, 15, 0⟩
/-! FM_SRC_STAT (R1032). -/
def FM_SRC_STAT_IN_FAULT : Fld := ⟨.FM_SRC_STAT, 47, 47⟩
def FM_SRC_STAT_SEV : Fld := ⟨.FM_SRC_STAT, 46, 45⟩
def FM_SRC_STAT_WIN_OPEN : Fld := ⟨.FM_SRC_STAT, 44, 44⟩
def FM_SRC_STAT_WIN_COUNT : Fld := ⟨.FM_SRC_STAT, 43, 36⟩
def FM_SRC_STAT_WAITING : Fld := ⟨.FM_SRC_STAT, 35, 20⟩
/-! FM_SRC_CNT (R1030). -/
def FM_SRC_CNT_OVF : Fld := ⟨.FM_SRC_CNT, 47, 47⟩
def FM_SRC_CNT_COUNT : Fld := ⟨.FM_SRC_CNT, 31, 0⟩
/-! FM_SRC_RECOV (R1030). -/
def FM_SRC_RECOV_OVF : Fld := ⟨.FM_SRC_RECOV, 47, 47⟩
def FM_SRC_RECOV_FORCE_DIE : Fld := ⟨.FM_SRC_RECOV, 34, 32⟩
def FM_SRC_RECOV_FORCE_UNIT : Fld := ⟨.FM_SRC_RECOV, 31, 16⟩
def FM_SRC_RECOV_COUNT : Fld := ⟨.FM_SRC_RECOV, 15, 0⟩
/-! RST_CTL (R1074). -/
def RST_CTL_DEV_RESET : Fld := ⟨.RST_CTL, 47, 47⟩
def RST_CTL_FW_RESTART : Fld := ⟨.RST_CTL, 46, 46⟩
def RST_CTL_DEV_RELOAD : Fld := ⟨.RST_CTL, 45, 45⟩
def RST_CTL_AUTO_RESTART : Fld := ⟨.RST_CTL, 44, 44⟩
/-! RST_STAT (R1075). -/
def RST_STAT_STATE : Fld := ⟨.RST_STAT, 47, 45⟩
def RST_STAT_LINE_READY : Fld := ⟨.RST_STAT, 44, 44⟩
def RST_STAT_LAST_CAUSE : Fld := ⟨.RST_STAT, 43, 40⟩
def RST_STAT_FW_SLOT : Fld := ⟨.RST_STAT, 39, 38⟩
def RST_STAT_FW_BROKEN : Fld := ⟨.RST_STAT, 37, 37⟩
def RST_STAT_TRIP_SEEN : Fld := ⟨.RST_STAT, 36, 36⟩
def RST_STAT_START_US : Fld := ⟨.RST_STAT, 31, 0⟩
/-! RST_CNT (R1073). -/
def RST_CNT_OVF : Fld := ⟨.RST_CNT, 47, 47⟩
def RST_CNT_COUNT : Fld := ⟨.RST_CNT, 15, 0⟩
/-! WDOG_CTL (R1076). -/
def WDOG_CTL_KICK : Fld := ⟨.WDOG_CTL, 47, 47⟩
def WDOG_CTL_EN : Fld := ⟨.WDOG_CTL, 46, 46⟩
def WDOG_CTL_TIMEOUT_MS : Fld := ⟨.WDOG_CTL, 15, 0⟩
/-! PMB_CTL (R1077). -/
def PMB_CTL_EN : Fld := ⟨.PMB_CTL, 47, 47⟩
def PMB_CTL_PEC_EN : Fld := ⟨.PMB_CTL, 46, 46⟩
def PMB_CTL_CORE_ADDR : Fld := ⟨.PMB_CTL, 14, 8⟩
def PMB_CTL_GUARD : Fld := ⟨.PMB_CTL, 4, 0⟩
/-! PMB_STAT (R1077). -/
def PMB_STAT_SETTLED : Fld := ⟨.PMB_STAT, 47, 47⟩
def PMB_STAT_REQ_MV : Fld := ⟨.PMB_STAT, 31, 16⟩
def PMB_STAT_VOUT_MV : Fld := ⟨.PMB_STAT, 15, 0⟩
/-! PMB_ERR_CNT (R1073). -/
def PMB_ERR_CNT_OVF : Fld := ⟨.PMB_ERR_CNT, 47, 47⟩
def PMB_ERR_CNT_COUNT : Fld := ⟨.PMB_ERR_CNT, 15, 0⟩
/-! THERM_CTL (R1073). -/
def THERM_CTL_THR_CODE : Fld := ⟨.THERM_CTL, 7, 0⟩
/-! THERM_DIE (R1073). -/
def THERM_DIE_TEMP : Fld := ⟨.THERM_DIE, 47, 40⟩
def THERM_DIE_LEVEL : Fld := ⟨.THERM_DIE, 39, 38⟩
def THERM_DIE_ABSENT : Fld := ⟨.THERM_DIE, 37, 37⟩
/-! SUP_STAT (R1073). -/
def SUP_STAT_RAILS : Fld := ⟨.SUP_STAT, 47, 0⟩
/-! DIO_BANK_STAT (R1111). -/
def DIO_BANK_STAT_NOMINAL : Fld := ⟨.DIO_BANK_STAT, 15, 0⟩

end Sys2Proof.Machine.F
end

