-- ==== Sys2Proof/Machine/RegMap.lean ====
section
/-!
DEFINITION. The register map: where each register lies (R77, R78 and each chapter's own register section), and the
access code and reset value of each of its fields (R8, R99, R100).
-/
namespace Sys2Proof.Machine

/-- The access codes of Table 0-5. `cntE` is a class E counter field (R81, R82): RW+H with saturation. -/
inductive Access where
  | rw | ro | w1c | w1s | rc | wo | cntE
deriving DecidableEq, Repr

/-- A placement of a register name: on the fabric dies or on the I/O die, from `base`, `ni` times at stride `si` and
within each `nj` times at stride `sj`; the first index starts at `ilo`, and where `jm` is not 0 only second indices
with `j % 16 < jm` exist. -/
structure Place where
  fab : Bool
  base : Nat
  ni : Nat
  si : Nat
  nj : Nat
  sj : Nat
  ilo : Nat := 0
  jm : Nat := 0

/-- A field with its access code and its reset value. -/
structure FieldDesc where
  fld : Fld
  acc : Access
  reset : Nat
deriving DecidableEq, Repr

/-- What the spec's register tables say of a register name. -/
structure RegDesc where
  places : List Place
  fields : List FieldDesc

/-! The register tables of the spec, one definition per register name. -/
namespace Reg

def DEV_ROLE : RegDesc := ⟨[⟨false, 0x0F000100, 1, 0, 1, 0, 0, 0⟩],
  [⟨F.DEV_ROLE_PART_CODE, .ro, 0x28⟩, ⟨F.DEV_ROLE_GRADE_CODE, .ro, 0xA⟩, ⟨F.DEV_ROLE_DEVNUM_STRAP, .ro, 0⟩, ⟨F.DEV_ROLE_BOOT, .ro, 0⟩, ⟨F.DEV_ROLE_ROLE, .ro, 0⟩]⟩
def DEV_ROLE_CTL : RegDesc := ⟨[⟨false, 0x0F000101, 1, 0, 1, 0, 0, 0⟩],
  [⟨F.DEV_ROLE_CTL_LINK_HOLD, .rw, 0x0A⟩, ⟨F.DEV_ROLE_CTL_HEAD_WIDTH, .rw, 2⟩, ⟨F.DEV_ROLE_CTL_HEAD_LINK_B_EN, .rw, 0⟩, ⟨F.DEV_ROLE_CTL_HEAD_LINK_EN, .rw, 0⟩, ⟨F.DEV_ROLE_CTL_OUT_EN, .rw, 0⟩, ⟨F.DEV_ROLE_CTL_ACTIVE, .ro, 0⟩]⟩
def REG_ERR : RegDesc := ⟨[⟨true, 0x0F000010, 1, 0, 1, 0, 0, 0⟩, ⟨false, 0x0F000010, 1, 0, 1, 0, 0, 0⟩],
  [⟨F.REG_ERR_VALID, .w1c, 0⟩, ⟨F.REG_ERR_CAUSE, .ro, 0⟩, ⟨F.REG_ERR_IS_WRITE, .ro, 0⟩, ⟨F.REG_ERR_ADDR, .ro, 0⟩]⟩
def REG_ERR_CNT : RegDesc := ⟨[⟨true, 0x0F000011, 1, 0, 1, 0, 0, 0⟩, ⟨false, 0x0F000011, 1, 0, 1, 0, 0, 0⟩],
  [⟨F.REG_ERR_CNT_OVF, .w1c, 0⟩, ⟨F.REG_ERR_CNT_COUNT, .cntE, 0⟩]⟩
def DEV_NUM : RegDesc := ⟨[⟨false, 0x0F000102, 1, 0, 1, 0, 0, 0⟩],
  [⟨F.DEV_NUM_DEVNUM_HIGH, .rw, 0⟩, ⟨F.DEV_NUM_DEVNUM, .ro, 0⟩]⟩
def ISL_CLK_CTL : RegDesc := ⟨[⟨true, 0x0F010000, 16, 0x100, 1, 0, 0, 0⟩],
  [⟨F.ISL_CLK_CTL_RUN, .rw, 0⟩, ⟨F.ISL_CLK_CTL_VCAP, .rw, 16⟩, ⟨F.ISL_CLK_CTL_FLOOR, .rw, 0⟩, ⟨F.ISL_CLK_CTL_TARGET, .rw, 40⟩]⟩
def ISL_CLK_STAT : RegDesc := ⟨[⟨true, 0x0F010001, 16, 0x100, 1, 0, 0, 0⟩],
  [⟨F.ISL_CLK_STAT_BREACH_STICKY, .w1c, 0⟩, ⟨F.ISL_CLK_STAT_BREACH_ACTIVE, .ro, 0⟩, ⟨F.ISL_CLK_STAT_SLACK, .ro, 0⟩, ⟨F.ISL_CLK_STAT_VREQ, .ro, 16⟩, ⟨F.ISL_CLK_STAT_STRETCH, .ro, 0⟩, ⟨F.ISL_CLK_STAT_FLOOR_EFF, .ro, 0⟩, ⟨F.ISL_CLK_STAT_FREQ_RUN, .ro, 40⟩]⟩
def ISL_STRETCH_CNT : RegDesc := ⟨[⟨true, 0x0F010002, 16, 0x100, 1, 0, 0, 0⟩],
  [⟨F.ISL_STRETCH_CNT_OVF, .w1c, 0⟩, ⟨F.ISL_STRETCH_CNT_COUNT, .cntE, 0⟩]⟩
def ISL_BREACH_CNT : RegDesc := ⟨[⟨true, 0x0F010003, 16, 0x100, 1, 0, 0, 0⟩],
  [⟨F.ISL_BREACH_CNT_OVF, .w1c, 0⟩, ⟨F.ISL_BREACH_CNT_COUNT, .cntE, 0⟩]⟩
def ISL_CH_STAT : RegDesc := ⟨[⟨true, 0x0F010004, 16, 0x100, 1, 0, 0, 0⟩],
  [⟨F.ISL_CH_STAT_OUT_FULL, .ro, 0⟩, ⟨F.ISL_CH_STAT_IN_LEVEL, .ro, 0⟩]⟩
def ISL_CH_CTL : RegDesc := ⟨[⟨true, 0x0F010005, 16, 0x100, 1, 0, 0, 0⟩],
  [⟨F.ISL_CH_CTL_STALL_EXP, .rw, 6⟩, ⟨F.ISL_CH_CTL_STALL_EN, .rw, 0⟩]⟩
def ISL_CH_DROP : RegDesc := ⟨[⟨true, 0x0F010006, 16, 0x100, 1, 0, 0, 0⟩],
  [⟨F.ISL_CH_DROP_OVF, .w1c, 0⟩, ⟨F.ISL_CH_DROP_COUNT, .cntE, 0⟩]⟩
def ISL_EVT_LAP : RegDesc := ⟨[⟨true, 0x0F010007, 16, 0x100, 1, 0, 0, 0⟩],
  [⟨F.ISL_EVT_LAP_LAP, .w1c, 0⟩]⟩
def MISL_STAT : RegDesc := ⟨[⟨true, 0x0F000020, 1, 0, 1, 0, 0, 0⟩],
  [⟨F.MISL_STAT_CRIT_STICKY, .w1c, 0⟩, ⟨F.MISL_STAT_SLACK, .ro, 0⟩]⟩
def DIO_LEVEL : RegDesc := ⟨[⟨true, 0x0F000030, 1, 0, 1, 0, 0, 0⟩],
  [⟨F.DIO_LEVEL_LEVEL, .ro, 0⟩]⟩
def DIO_DRIVE : RegDesc := ⟨[⟨true, 0x0F000031, 1, 0, 1, 0, 0, 0⟩],
  [⟨F.DIO_DRIVE_DRIVE, .ro, 0⟩]⟩
def DIO_SAFE_LO : RegDesc := ⟨[⟨true, 0x0F000032, 1, 0, 1, 0, 0, 0⟩],
  [⟨F.DIO_SAFE_LO_CODES, .ro, 0⟩]⟩
def DIO_SAFE_HI : RegDesc := ⟨[⟨true, 0x0F000033, 1, 0, 1, 0, 0, 0⟩],
  [⟨F.DIO_SAFE_HI_CODES, .ro, 0⟩]⟩
def FAB_ISL_LIMIT : RegDesc := ⟨[⟨true, 0x0F000040, 16, 1, 1, 0, 0, 0⟩],
  [⟨F.FAB_ISL_LIMIT_PERIOD_PS, .ro, 0⟩, ⟨F.FAB_ISL_LIMIT_LIMIT_CODE, .ro, 160⟩]⟩
def FAB_ISL_RST : RegDesc := ⟨[⟨true, 0x0F000050, 1, 0, 1, 0, 0, 0⟩],
  [⟨F.FAB_ISL_RST_RST, .w1s, 0⟩]⟩
def BM_WW_CNT : RegDesc := ⟨[⟨true, 0x0F010008, 16, 0x100, 24, 1, 0, 0⟩],
  [⟨F.BM_WW_CNT_OVF, .w1c, 0⟩, ⟨F.BM_WW_CNT_COUNT, .cntE, 0⟩]⟩
def BM_RW_CNT : RegDesc := ⟨[⟨true, 0x0F010020, 16, 0x100, 24, 1, 0, 0⟩],
  [⟨F.BM_RW_CNT_OVF, .w1c, 0⟩, ⟨F.BM_RW_CNT_COUNT, .cntE, 0⟩]⟩
def BM_COLL_LAST : RegDesc := ⟨[⟨true, 0x0F010038, 16, 0x100, 1, 0, 0, 0⟩],
  [⟨F.BM_COLL_LAST_VALID, .w1c, 0⟩, ⟨F.BM_COLL_LAST_KIND, .ro, 0⟩, ⟨F.BM_COLL_LAST_WINDOW, .ro, 0⟩, ⟨F.BM_COLL_LAST_BM, .ro, 0⟩, ⟨F.BM_COLL_LAST_WORD, .ro, 0⟩]⟩
def BM_WIN_CTL : RegDesc := ⟨[⟨true, 0x0F010039, 16, 0x100, 1, 0, 0, 0⟩],
  [⟨F.BM_WIN_CTL_WIN_STEAL, .rw, 16⟩]⟩
def BM_PORTB_MODE : RegDesc := ⟨[⟨true, 0x0F01003A, 16, 0x100, 1, 0, 0, 0⟩],
  [⟨F.BM_PORTB_MODE_WINDOW, .ro, 0xFFFFFF⟩]⟩
def BM_STEAL_CNT : RegDesc := ⟨[⟨true, 0x0F01003B, 16, 0x100, 1, 0, 0, 0⟩],
  [⟨F.BM_STEAL_CNT_OVF, .w1c, 0⟩, ⟨F.BM_STEAL_CNT_COUNT, .cntE, 0⟩]⟩
def BM_WIN_ABANDON_CNT : RegDesc := ⟨[⟨true, 0x0F01003C, 16, 0x100, 1, 0, 0, 0⟩],
  [⟨F.BM_WIN_ABANDON_CNT_OVF, .w1c, 0⟩, ⟨F.BM_WIN_ABANDON_CNT_COUNT, .cntE, 0⟩]⟩
def SP_CTL : RegDesc := ⟨[⟨true, 0x0F030000, 1, 0, 1, 0, 0, 0⟩, ⟨false, 0x0F000200, 1, 0, 1, 0, 0, 0⟩],
  [⟨F.SP_CTL_STARVE_EN, .rw, 1⟩, ⟨F.SP_CTL_STARVE_EXP, .rw, 4⟩]⟩
def SP_STARVE_CNT : RegDesc := ⟨[⟨true, 0x0F030001, 1, 0, 1, 0, 0, 0⟩, ⟨false, 0x0F000201, 1, 0, 1, 0, 0, 0⟩],
  [⟨F.SP_STARVE_CNT_OVF, .w1c, 0⟩, ⟨F.SP_STARVE_CNT_COUNT, .cntE, 0⟩]⟩
def SP_STARVE_LAST : RegDesc := ⟨[⟨true, 0x0F030002, 1, 0, 1, 0, 0, 0⟩, ⟨false, 0x0F000202, 1, 0, 1, 0, 0, 0⟩],
  [⟨F.SP_STARVE_LAST_VALID, .w1c, 0⟩, ⟨F.SP_STARVE_LAST_CLASS, .ro, 0⟩, ⟨F.SP_STARVE_LAST_BANK, .ro, 0⟩]⟩
def SP_ATOM_REFUSE_CNT : RegDesc := ⟨[⟨true, 0x0F030003, 1, 0, 1, 0, 0, 0⟩, ⟨false, 0x0F000203, 1, 0, 1, 0, 0, 0⟩],
  [⟨F.SP_ATOM_REFUSE_CNT_OVF, .w1c, 0⟩, ⟨F.SP_ATOM_REFUSE_CNT_COUNT, .cntE, 0⟩]⟩
def SP_SAMPLE_CNT : RegDesc := ⟨[⟨true, 0x0F030004, 1, 0, 1, 0, 0, 0⟩, ⟨false, 0x0F000204, 1, 0, 1, 0, 0, 0⟩],
  [⟨F.SP_SAMPLE_CNT_OVF, .w1c, 0⟩, ⟨F.SP_SAMPLE_CNT_COUNT, .cntE, 0⟩]⟩
def SP_BANK_USE : RegDesc := ⟨[⟨true, 0x0F030010, 16, 1, 1, 0, 0, 0⟩, ⟨false, 0x0F000210, 4, 1, 1, 0, 0, 0⟩],
  [⟨F.SP_BANK_USE_OVF, .w1c, 0⟩, ⟨F.SP_BANK_USE_COUNT, .cntE, 0⟩]⟩
def PROT_CE_CNT : RegDesc := ⟨[⟨true, 0x0F000080, 3, 8, 1, 0, 0, 0⟩, ⟨false, 0x0F000300, 4, 8, 1, 0, 0, 0⟩],
  [⟨F.PROT_CE_CNT_OVF, .w1c, 0⟩, ⟨F.PROT_CE_CNT_COUNT, .cntE, 0⟩]⟩
def PROT_UE_CNT : RegDesc := ⟨[⟨true, 0x0F000081, 3, 8, 1, 0, 0, 0⟩, ⟨false, 0x0F000301, 4, 8, 1, 0, 0, 0⟩],
  [⟨F.PROT_UE_CNT_OVF, .w1c, 0⟩, ⟨F.PROT_UE_CNT_COUNT, .cntE, 0⟩]⟩
def PROT_WB_SKIP_CNT : RegDesc := ⟨[⟨true, 0x0F000082, 3, 8, 1, 0, 0, 0⟩, ⟨false, 0x0F000302, 4, 8, 1, 0, 0, 0⟩],
  [⟨F.PROT_WB_SKIP_CNT_OVF, .w1c, 0⟩, ⟨F.PROT_WB_SKIP_CNT_COUNT, .cntE, 0⟩]⟩
def PROT_ERR_LAST : RegDesc := ⟨[⟨true, 0x0F000083, 3, 8, 1, 0, 0, 0⟩, ⟨false, 0x0F000303, 4, 8, 1, 0, 0, 0⟩],
  [⟨F.PROT_ERR_LAST_VALID, .w1c, 0⟩, ⟨F.PROT_ERR_LAST_UNCORR, .ro, 0⟩, ⟨F.PROT_ERR_LAST_SOURCE, .ro, 0⟩, ⟨F.PROT_ERR_LAST_SYNDROME, .ro, 0⟩, ⟨F.PROT_ERR_LAST_PADDR, .ro, 0⟩]⟩
def PROT_CTL : RegDesc := ⟨[⟨true, 0x0F000084, 3, 8, 1, 0, 0, 0⟩, ⟨false, 0x0F000304, 4, 8, 1, 0, 0, 0⟩],
  [⟨F.PROT_CTL_PATROL_EN, .rw, 1⟩, ⟨F.PROT_CTL_PATROL_EXP, .rw, 4⟩]⟩
def PROT_FLIP_DATA : RegDesc := ⟨[⟨true, 0x0F0000A0, 1, 0, 1, 0, 0, 0⟩, ⟨false, 0x0F000320, 1, 0, 1, 0, 0, 0⟩],
  [⟨F.PROT_FLIP_DATA_MASK_DATA, .rw, 0⟩]⟩
def PROT_FLIP_CTL : RegDesc := ⟨[⟨true, 0x0F0000A1, 1, 0, 1, 0, 0, 0⟩, ⟨false, 0x0F000321, 1, 0, 1, 0, 0, 0⟩],
  [⟨F.PROT_FLIP_CTL_ARM, .w1s, 0⟩, ⟨F.PROT_FLIP_CTL_TARGET, .rw, 0⟩, ⟨F.PROT_FLIP_CTL_ADDR_FLIP, .rw, 0⟩, ⟨F.PROT_FLIP_CTL_MASK_CHECK, .rw, 0⟩, ⟨F.PROT_FLIP_CTL_MASK_TAG, .rw, 0⟩, ⟨F.PROT_FLIP_CTL_SEL_EN, .rw, 0⟩, ⟨F.PROT_FLIP_CTL_SEL, .rw, 0⟩]⟩
def REPAIR_STAT : RegDesc := ⟨[⟨false, 0x0F000328, 1, 0, 1, 0, 0, 0⟩],
  [⟨F.REPAIR_STAT_SOFT_USED, .ro, 0⟩, ⟨F.REPAIR_STAT_SOFT_APPLIED, .ro, 0⟩, ⟨F.REPAIR_STAT_SOFT_REFUSED, .ro, 0⟩, ⟨F.REPAIR_STAT_FUSE_APPLIED, .ro, 0⟩, ⟨F.REPAIR_STAT_DONE, .ro, 0⟩]⟩
def CFG_LOAD_CTL : RegDesc := ⟨[⟨false, 0x0F070000, 1, 0, 1, 0, 0, 0⟩],
  [⟨F.CFG_LOAD_CTL_START, .w1s, 0⟩, ⟨F.CFG_LOAD_CTL_SOURCE, .rw, 1⟩]⟩
def CFG_LOAD_STAT : RegDesc := ⟨[⟨false, 0x0F070001, 1, 0, 1, 0, 0, 0⟩],
  [⟨F.CFG_LOAD_STAT_DONE, .w1c, 0⟩, ⟨F.CFG_LOAD_STAT_FAILED, .w1c, 0⟩, ⟨F.CFG_LOAD_STAT_BUSY, .ro, 0⟩, ⟨F.CFG_LOAD_STAT_CAUSE, .ro, 0⟩, ⟨F.CFG_LOAD_STAT_FRAME_SEQ, .ro, 0⟩, ⟨F.CFG_LOAD_STAT_SOURCE, .ro, 0⟩]⟩
def CFG_BOOT_STAT : RegDesc := ⟨[⟨false, 0x0F070002, 1, 0, 1, 0, 0, 0⟩],
  [⟨F.CFG_BOOT_STAT_FELL_BACK, .ro, 0⟩, ⟨F.CFG_BOOT_STAT_LOADED, .ro, 7⟩, ⟨F.CFG_BOOT_STAT_PREF, .ro, 1⟩, ⟨F.CFG_BOOT_STAT_SECURE, .ro, 0⟩]⟩
def CFG_SRC_ADDR : RegDesc := ⟨[⟨false, 0x0F070003, 1, 0, 1, 0, 0, 0⟩],
  [⟨F.CFG_SRC_ADDR_ADDR, .rw, 0⟩]⟩
def CFG_NV_STAT : RegDesc := ⟨[⟨false, 0x0F070004, 1, 0, 1, 0, 0, 0⟩],
  [⟨F.CFG_NV_STAT_GOLDEN_OPEN, .ro, 0⟩, ⟨F.CFG_NV_STAT_NV_BUSY, .ro, 0⟩, ⟨F.CFG_NV_STAT_SHUTDOWN_DEFER, .ro, 0⟩, ⟨F.CFG_NV_STAT_RETIRED, .ro, 0⟩]⟩
def CFG_ENDURANCE : RegDesc := ⟨[⟨false, 0x0F070005, 1, 0, 1, 0, 0, 0⟩],
  [⟨F.CFG_ENDURANCE_LIMIT, .ro, 100000⟩]⟩
def CFG_ERASE_CNT : RegDesc := ⟨[⟨false, 0x0F070010, 5, 1, 1, 0, 0, 0⟩],
  [⟨F.CFG_ERASE_CNT_COUNT, .ro, 0⟩]⟩
def SPG_CTL : RegDesc := ⟨[⟨false, 0x0F070020, 1, 0, 1, 0, 0, 0⟩],
  [⟨F.SPG_CTL_SPG_GAP, .rw, 0x1F40⟩, ⟨F.SPG_CTL_RELOAD_EN, .rw, 1⟩, ⟨F.SPG_CTL_EN, .rw, 1⟩]⟩
def SPG_NONESS_CNT : RegDesc := ⟨[⟨true, 0x0F0000C0, 1, 0, 1, 0, 0, 0⟩],
  [⟨F.SPG_NONESS_CNT_OVF, .w1c, 0⟩, ⟨F.SPG_NONESS_CNT_COUNT, .cntE, 0⟩]⟩
def SPG_ESS_CNT : RegDesc := ⟨[⟨true, 0x0F0000C1, 1, 0, 1, 0, 0, 0⟩],
  [⟨F.SPG_ESS_CNT_OVF, .w1c, 0⟩, ⟨F.SPG_ESS_CNT_COUNT, .cntE, 0⟩]⟩
def SPG_MULTI_CNT : RegDesc := ⟨[⟨true, 0x0F0000C2, 1, 0, 1, 0, 0, 0⟩],
  [⟨F.SPG_MULTI_CNT_OVF, .w1c, 0⟩, ⟨F.SPG_MULTI_CNT_COUNT, .cntE, 0⟩]⟩
def SPG_SKIP_CNT : RegDesc := ⟨[⟨true, 0x0F0000C3, 1, 0, 1, 0, 0, 0⟩],
  [⟨F.SPG_SKIP_CNT_OVF, .w1c, 0⟩, ⟨F.SPG_SKIP_CNT_COUNT, .cntE, 0⟩]⟩
def SPG_PASS_CNT : RegDesc := ⟨[⟨true, 0x0F0000C4, 1, 0, 1, 0, 0, 0⟩],
  [⟨F.SPG_PASS_CNT_OVF, .w1c, 0⟩, ⟨F.SPG_PASS_CNT_COUNT, .cntE, 0⟩]⟩
def SPG_LAST : RegDesc := ⟨[⟨true, 0x0F0000C5, 1, 0, 1, 0, 0, 0⟩],
  [⟨F.SPG_LAST_VALID, .w1c, 0⟩, ⟨F.SPG_LAST_KIND, .ro, 0⟩, ⟨F.SPG_LAST_ISLAND, .ro, 0⟩, ⟨F.SPG_LAST_FRAME, .ro, 0⟩, ⟨F.SPG_LAST_WORD, .ro, 0⟩, ⟨F.SPG_LAST_BIT, .ro, 0⟩]⟩
def SPG_POS : RegDesc := ⟨[⟨true, 0x0F0000C6, 1, 0, 1, 0, 0, 0⟩],
  [⟨F.SPG_POS_PASS_US, .ro, 0⟩, ⟨F.SPG_POS_ISLAND, .ro, 0⟩, ⟨F.SPG_POS_FRAME, .ro, 0⟩]⟩
def IXG_CTL : RegDesc := ⟨[⟨true, 0x0F030400, 8, 0x20, 1, 0, 0, 0⟩, ⟨false, 0x0F090000, 18, 0x20, 1, 0, 0, 0⟩],
  [⟨F.IXG_CTL_RETIRE, .w1s, 0⟩, ⟨F.IXG_CTL_RETRAIN, .w1s, 0⟩, ⟨F.IXG_CTL_REPLAY_LIMIT, .rw, 8⟩, ⟨F.IXG_CTL_LOC_EXP, .rw, 0xA⟩, ⟨F.IXG_CTL_LOC_THRESH, .rw, 4⟩, ⟨F.IXG_CTL_RATE_CAP, .rw, 3⟩, ⟨F.IXG_CTL_EN, .rw, 1⟩]⟩
def IXG_STAT : RegDesc := ⟨[⟨true, 0x0F030401, 8, 0x20, 1, 0, 0, 0⟩, ⟨false, 0x0F090001, 18, 0x20, 1, 0, 0, 0⟩],
  [⟨F.IXG_STAT_STATE, .ro, 1⟩, ⟨F.IXG_STAT_RATE, .ro, 0⟩, ⟨F.IXG_STAT_SPARES_LEFT, .ro, 0⟩, ⟨F.IXG_STAT_CLK_SPARE, .ro, 0⟩, ⟨F.IXG_STAT_FAST, .ro, 0⟩, ⟨F.IXG_STAT_NEXT_SEQ, .ro, 0⟩, ⟨F.IXG_STAT_PEER_ACK, .ro, 0⟩, ⟨F.IXG_STAT_HELD, .ro, 0⟩]⟩
def IXG_CAP_LOCAL : RegDesc := ⟨[⟨true, 0x0F030402, 8, 0x20, 1, 0, 0, 0⟩, ⟨false, 0x0F090002, 18, 0x20, 1, 0, 0, 0⟩],
  [⟨F.IXG_CAP_LOCAL_CAP, .ro, 0⟩]⟩
def IXG_CAP_PEER : RegDesc := ⟨[⟨true, 0x0F030403, 8, 0x20, 1, 0, 0, 0⟩, ⟨false, 0x0F090003, 18, 0x20, 1, 0, 0, 0⟩],
  [⟨F.IXG_CAP_PEER_CAP, .ro, 0⟩]⟩
def IXG_LANE_MAP : RegDesc := ⟨[⟨true, 0x0F030404, 8, 0x20, 1, 0, 0, 0⟩, ⟨false, 0x0F090004, 18, 0x20, 1, 0, 0, 0⟩],
  [⟨F.IXG_LANE_MAP_MAP, .ro, 0x3F9FCFE7F⟩]⟩
def IXG_CRC_CNT : RegDesc := ⟨[⟨true, 0x0F030405, 8, 0x20, 1, 0, 0, 0⟩, ⟨false, 0x0F090005, 18, 0x20, 1, 0, 0, 0⟩],
  [⟨F.IXG_CRC_CNT_OVF, .w1c, 0⟩, ⟨F.IXG_CRC_CNT_COUNT, .cntE, 0⟩]⟩
def IXG_REPLAY_CNT : RegDesc := ⟨[⟨true, 0x0F030406, 8, 0x20, 1, 0, 0, 0⟩, ⟨false, 0x0F090006, 18, 0x20, 1, 0, 0, 0⟩],
  [⟨F.IXG_REPLAY_CNT_OVF, .w1c, 0⟩, ⟨F.IXG_REPLAY_CNT_COUNT, .cntE, 0⟩]⟩
def IXG_SWAP_CNT : RegDesc := ⟨[⟨true, 0x0F030407, 8, 0x20, 1, 0, 0, 0⟩, ⟨false, 0x0F090007, 18, 0x20, 1, 0, 0, 0⟩],
  [⟨F.IXG_SWAP_CNT_OVF, .w1c, 0⟩, ⟨F.IXG_SWAP_CNT_COUNT, .cntE, 0⟩]⟩
def IXG_LOC_LAST : RegDesc := ⟨[⟨true, 0x0F030408, 8, 0x20, 1, 0, 0, 0⟩, ⟨false, 0x0F090008, 18, 0x20, 1, 0, 0, 0⟩],
  [⟨F.IXG_LOC_LAST_VALID, .w1c, 0⟩, ⟨F.IXG_LOC_LAST_UNLOC, .ro, 0⟩, ⟨F.IXG_LOC_LAST_WIRE, .ro, 0⟩, ⟨F.IXG_LOC_LAST_SEQ, .ro, 0⟩]⟩
def IXG_TEST_BAD_LO : RegDesc := ⟨[⟨true, 0x0F030409, 8, 0x20, 1, 0, 0, 0⟩, ⟨false, 0x0F090009, 18, 0x20, 1, 0, 0, 0⟩],
  [⟨F.IXG_TEST_BAD_LO_BAD, .ro, 0⟩]⟩
def IXG_TEST_BAD_HI : RegDesc := ⟨[⟨true, 0x0F03040A, 8, 0x20, 1, 0, 0, 0⟩, ⟨false, 0x0F09000A, 18, 0x20, 1, 0, 0, 0⟩],
  [⟨F.IXG_TEST_BAD_HI_BAD, .ro, 0⟩]⟩
def TRN_CTL : RegDesc := ⟨[⟨true, 0x0F030300, 1, 0, 1, 0, 0, 0⟩, ⟨false, 0x0F000400, 1, 0, 1, 0, 0, 0⟩],
  [⟨F.TRN_CTL_TO_EN, .rw, 1⟩, ⟨F.TRN_CTL_TO_EXP, .rw, 0xA⟩]⟩
def TRN_ERR_LAST : RegDesc := ⟨[⟨true, 0x0F030301, 1, 0, 1, 0, 0, 0⟩, ⟨false, 0x0F000401, 1, 0, 1, 0, 0, 0⟩],
  [⟨F.TRN_ERR_LAST_VALID, .w1c, 0⟩, ⟨F.TRN_ERR_LAST_CAUSE, .ro, 0⟩, ⟨F.TRN_ERR_LAST_IS_WRITE, .ro, 0⟩, ⟨F.TRN_ERR_LAST_SRC_DIE, .ro, 0⟩, ⟨F.TRN_ERR_LAST_SRC_MASTER, .ro, 0⟩, ⟨F.TRN_ERR_LAST_VC, .ro, 0⟩, ⟨F.TRN_ERR_LAST_RTAG, .ro, 0⟩]⟩
def TRN_ERR_ADDR : RegDesc := ⟨[⟨true, 0x0F030302, 1, 0, 1, 0, 0, 0⟩, ⟨false, 0x0F000402, 1, 0, 1, 0, 0, 0⟩],
  [⟨F.TRN_ERR_ADDR_ADDR, .ro, 0⟩]⟩
def TRN_DROP_CNT : RegDesc := ⟨[⟨true, 0x0F030303, 1, 0, 1, 0, 0, 0⟩, ⟨false, 0x0F000403, 1, 0, 1, 0, 0, 0⟩],
  [⟨F.TRN_DROP_CNT_OVF, .w1c, 0⟩, ⟨F.TRN_DROP_CNT_COUNT, .cntE, 0⟩]⟩
def TRN_TIMEOUT_CNT : RegDesc := ⟨[⟨true, 0x0F030304, 1, 0, 1, 0, 0, 0⟩, ⟨false, 0x0F000404, 1, 0, 1, 0, 0, 0⟩],
  [⟨F.TRN_TIMEOUT_CNT_OVF, .w1c, 0⟩, ⟨F.TRN_TIMEOUT_CNT_COUNT, .cntE, 0⟩]⟩
def TRN_LATE_CNT : RegDesc := ⟨[⟨true, 0x0F030305, 1, 0, 1, 0, 0, 0⟩, ⟨false, 0x0F000405, 1, 0, 1, 0, 0, 0⟩],
  [⟨F.TRN_LATE_CNT_OVF, .w1c, 0⟩, ⟨F.TRN_LATE_CNT_COUNT, .cntE, 0⟩]⟩
def TRN_UNMAPPED_CNT : RegDesc := ⟨[⟨true, 0x0F030306, 1, 0, 1, 0, 0, 0⟩, ⟨false, 0x0F000406, 1, 0, 1, 0, 0, 0⟩],
  [⟨F.TRN_UNMAPPED_CNT_OVF, .w1c, 0⟩, ⟨F.TRN_UNMAPPED_CNT_COUNT, .cntE, 0⟩]⟩
def DRAM_CTL : RegDesc := ⟨[⟨false, 0x0F050000, 2, 0x10000, 1, 0, 0, 0⟩],
  [⟨F.DRAM_CTL_SR_REQ, .rw, 0⟩, ⟨F.DRAM_CTL_RETRAIN, .w1s, 0⟩, ⟨F.DRAM_CTL_RATE, .rw, 0⟩, ⟨F.DRAM_CTL_EN, .rw, 0⟩]⟩
def DRAM_STAT : RegDesc := ⟨[⟨false, 0x0F050001, 2, 0x10000, 1, 0, 0, 0⟩],
  [⟨F.DRAM_STAT_STATE, .ro, 0⟩, ⟨F.DRAM_STAT_FILL_DONE, .ro, 0⟩, ⟨F.DRAM_STAT_REF_EFF, .ro, 0⟩, ⟨F.DRAM_STAT_HOT, .ro, 0⟩, ⟨F.DRAM_STAT_OUTSTANDING, .ro, 0⟩, ⟨F.DRAM_STAT_FILL_UNIT, .ro, 0⟩]⟩
def DRAM_GEOM : RegDesc := ⟨[⟨false, 0x0F050002, 2, 0x10000, 1, 0, 0, 0⟩],
  [⟨F.DRAM_GEOM_RANKS, .rw, 0⟩, ⟨F.DRAM_GEOM_WIDTH, .rw, 0⟩, ⟨F.DRAM_GEOM_DENSITY, .rw, 0⟩, ⟨F.DRAM_GEOM_MIRROR, .rw, 0⟩]⟩
def DRAM_TIM_0 : RegDesc := ⟨[⟨false, 0x0F050003, 2, 0x10000, 1, 0, 0, 0⟩],
  [⟨F.DRAM_TIM_0_tRAS, .rw, 0⟩, ⟨F.DRAM_TIM_0_tRP, .rw, 0⟩, ⟨F.DRAM_TIM_0_tRCD, .rw, 0⟩, ⟨F.DRAM_TIM_0_CWL, .rw, 0⟩, ⟨F.DRAM_TIM_0_CL, .rw, 0⟩]⟩
def DRAM_TIM_1 : RegDesc := ⟨[⟨false, 0x0F050004, 2, 0x10000, 1, 0, 0, 0⟩],
  [⟨F.DRAM_TIM_1_tFAW, .rw, 0⟩, ⟨F.DRAM_TIM_1_tRRD_S, .rw, 0⟩, ⟨F.DRAM_TIM_1_tRRD_L, .rw, 0⟩, ⟨F.DRAM_TIM_1_tCCD_L, .rw, 0⟩, ⟨F.DRAM_TIM_1_tWR, .rw, 0⟩, ⟨F.DRAM_TIM_1_tWTR_S, .rw, 0⟩, ⟨F.DRAM_TIM_1_tWTR_L, .rw, 0⟩, ⟨F.DRAM_TIM_1_tRTP, .rw, 0⟩]⟩
def DRAM_TIM_2 : RegDesc := ⟨[⟨false, 0x0F050005, 2, 0x10000, 1, 0, 0, 0⟩],
  [⟨F.DRAM_TIM_2_tRFC, .rw, 0⟩, ⟨F.DRAM_TIM_2_tREFI, .rw, 0⟩]⟩
def DRAM_SCHED : RegDesc := ⟨[⟨false, 0x0F050006, 2, 0x10000, 1, 0, 0, 0⟩],
  [⟨F.DRAM_SCHED_AGE_EXP, .rw, 8⟩, ⟨F.DRAM_SCHED_HIT_CAP, .rw, 4⟩, ⟨F.DRAM_SCHED_MODE, .rw, 0⟩]⟩
def DRAM_CLASS_MAP : RegDesc := ⟨[⟨false, 0x0F050007, 2, 0x10000, 1, 0, 0, 0⟩],
  [⟨F.DRAM_CLASS_MAP_CLASSES, .rw, 0x325B⟩]⟩
def DRAM_REF_CTL : RegDesc := ⟨[⟨false, 0x0F050008, 2, 0x10000, 1, 0, 0, 0⟩],
  [⟨F.DRAM_REF_CTL_POSTPONE, .rw, 8⟩, ⟨F.DRAM_REF_CTL_REF_MULT, .rw, 0⟩]⟩
def DRAM_TEMP : RegDesc := ⟨[⟨false, 0x0F050009, 2, 0x10000, 1, 0, 0, 0⟩],
  [⟨F.DRAM_TEMP_TEMP_SRC, .rw, 2⟩, ⟨F.DRAM_TEMP_TEMP_IN, .rw, 0⟩, ⟨F.DRAM_TEMP_TEMP_NOW, .ro, 0⟩, ⟨F.DRAM_TEMP_RANGE, .ro, 0⟩]⟩
def DRAM_RD_CTL : RegDesc := ⟨[⟨false, 0x0F05000A, 2, 0x10000, 1, 0, 0, 0⟩],
  [⟨F.DRAM_RD_CTL_THRESH, .rw, 0x0800⟩, ⟨F.DRAM_RD_CTL_RADIUS, .rw, 0⟩, ⟨F.DRAM_RD_CTL_DEFENCE, .rw, 1⟩, ⟨F.DRAM_RD_CTL_K, .rw, 8⟩]⟩
def DRAM_TRAIN_CTL : RegDesc := ⟨[⟨false, 0x0F05000B, 2, 0x10000, 1, 0, 0, 0⟩],
  [⟨F.DRAM_TRAIN_CTL_DRIFT, .rw, 10⟩, ⟨F.DRAM_TRAIN_CTL_ZQ_EXP, .rw, 7⟩, ⟨F.DRAM_TRAIN_CTL_PERIOD_EXP, .rw, 4⟩]⟩
def DRAM_SCRUB : RegDesc := ⟨[⟨false, 0x0F05000C, 2, 0x10000, 1, 0, 0, 0⟩],
  [⟨F.DRAM_SCRUB_SCRUB_EN, .rw, 1⟩, ⟨F.DRAM_SCRUB_SCRUB_EXP, .rw, 4⟩]⟩
def DRAM_FILL : RegDesc := ⟨[⟨false, 0x0F05000D, 2, 0x10000, 1, 0, 0, 0⟩],
  [⟨F.DRAM_FILL_START, .w1s, 0⟩, ⟨F.DRAM_FILL_LAST, .rw, 0⟩, ⟨F.DRAM_FILL_FIRST, .rw, 0⟩]⟩
def DRAM_VICTIM_CNT : RegDesc := ⟨[⟨false, 0x0F050010, 2, 0x10000, 1, 0, 0, 0⟩],
  [⟨F.DRAM_VICTIM_CNT_OVF, .w1c, 0⟩, ⟨F.DRAM_VICTIM_CNT_COUNT, .cntE, 0⟩]⟩
def DRAM_THROTTLE_CNT : RegDesc := ⟨[⟨false, 0x0F050011, 2, 0x10000, 1, 0, 0, 0⟩],
  [⟨F.DRAM_THROTTLE_CNT_OVF, .w1c, 0⟩, ⟨F.DRAM_THROTTLE_CNT_COUNT, .cntE, 0⟩]⟩
def DRAM_ALERT_CNT : RegDesc := ⟨[⟨false, 0x0F050012, 2, 0x10000, 1, 0, 0, 0⟩],
  [⟨F.DRAM_ALERT_CNT_OVF, .w1c, 0⟩, ⟨F.DRAM_ALERT_CNT_COUNT, .cntE, 0⟩]⟩
def DRAM_RETRAIN_CNT : RegDesc := ⟨[⟨false, 0x0F050013, 2, 0x10000, 1, 0, 0, 0⟩],
  [⟨F.DRAM_RETRAIN_CNT_OVF, .w1c, 0⟩, ⟨F.DRAM_RETRAIN_CNT_COUNT, .cntE, 0⟩]⟩
def DRAM_PROMO_CNT : RegDesc := ⟨[⟨false, 0x0F050014, 2, 0x10000, 1, 0, 0, 0⟩],
  [⟨F.DRAM_PROMO_CNT_OVF, .w1c, 0⟩, ⟨F.DRAM_PROMO_CNT_COUNT, .cntE, 0⟩]⟩
def DRAM_DEMAND_FILL_CNT : RegDesc := ⟨[⟨false, 0x0F050015, 2, 0x10000, 1, 0, 0, 0⟩],
  [⟨F.DRAM_DEMAND_FILL_CNT_OVF, .w1c, 0⟩, ⟨F.DRAM_DEMAND_FILL_CNT_COUNT, .cntE, 0⟩]⟩
def DRAM_REGION : RegDesc := ⟨[⟨false, 0x0F050020, 2, 0x10000, 16, 1, 0, 0⟩],
  [⟨F.DRAM_REGION_EN, .rw, 0⟩, ⟨F.DRAM_REGION_KEY, .rw, 0⟩, ⟨F.DRAM_REGION_LIMIT, .rw, 0⟩, ⟨F.DRAM_REGION_BASE, .rw, 0⟩]⟩
def DRAM_KEY : RegDesc := ⟨[⟨false, 0x0F050040, 2, 0x10000, 128, 1, 0, 11⟩],
  [⟨F.DRAM_KEY_W, .wo, 0⟩]⟩
def DRAM_KEY_CTL : RegDesc := ⟨[⟨false, 0x0F05004B, 2, 0x10000, 8, 0x10, 0, 0⟩],
  [⟨F.DRAM_KEY_CTL_REFUSED, .w1c, 0⟩, ⟨F.DRAM_KEY_CTL_LOAD, .w1s, 0⟩, ⟨F.DRAM_KEY_CTL_VALID, .ro, 0⟩]⟩
def LANE_CTL : RegDesc := ⟨[⟨false, 0x0F030000, 16, 0x20, 1, 0, 0, 0⟩],
  [⟨F.LANE_CTL_REVIVE, .w1s, 0⟩, ⟨F.LANE_CTL_LOOP, .rw, 0⟩, ⟨F.LANE_CTL_ADAPT_EN, .rw, 1⟩, ⟨F.LANE_CTL_TRAIN_EN, .rw, 0⟩, ⟨F.LANE_CTL_PSTATE_REQ, .rw, 2⟩, ⟨F.LANE_CTL_REF_SEL, .rw, 0⟩, ⟨F.LANE_CTL_RATE, .rw, 0⟩]⟩
def LANE_STAT : RegDesc := ⟨[⟨false, 0x0F030001, 16, 0x20, 1, 0, 0, 0⟩],
  [⟨F.LANE_STAT_PSTATE, .ro, 2⟩, ⟨F.LANE_STAT_OWNER, .ro, 0⟩, ⟨F.LANE_STAT_OWNER_INDEX, .ro, 0⟩, ⟨F.LANE_STAT_PLL_LOCK, .ro, 0⟩, ⟨F.LANE_STAT_CDR_LOCK, .ro, 0⟩, ⟨F.LANE_STAT_SIGNAL, .ro, 0⟩, ⟨F.LANE_STAT_TRAIN_STATE, .ro, 0⟩, ⟨F.LANE_STAT_RETIRED, .ro, 0⟩, ⟨F.LANE_STAT_LOS_STICKY, .w1c, 0⟩]⟩
def LANE_TX : RegDesc := ⟨[⟨false, 0x0F030002, 16, 0x20, 1, 0, 0, 0⟩],
  [⟨F.LANE_TX_INIT_POST, .rw, 12⟩, ⟨F.LANE_TX_INIT_MAIN, .rw, 47⟩, ⟨F.LANE_TX_INIT_PRE, .rw, 4⟩, ⟨F.LANE_TX_POST, .rw, 8⟩, ⟨F.LANE_TX_MAIN, .rw, 55⟩, ⟨F.LANE_TX_PRE, .rw, 0⟩]⟩
def LANE_RX : RegDesc := ⟨[⟨false, 0x0F030003, 16, 0x20, 1, 0, 0, 0⟩],
  [⟨F.LANE_RX_CTLE, .rw, 8⟩, ⟨F.LANE_RX_DFE_5, .rw, 0⟩, ⟨F.LANE_RX_DFE_4, .rw, 0⟩, ⟨F.LANE_RX_DFE_3, .rw, 0⟩, ⟨F.LANE_RX_DFE_2, .rw, 0⟩, ⟨F.LANE_RX_DFE_1, .rw, 0⟩]⟩
def LANE_PRBS_CTL : RegDesc := ⟨[⟨false, 0x0F030004, 16, 0x20, 1, 0, 0, 0⟩],
  [⟨F.LANE_PRBS_CTL_INJ_SINGLE, .w1s, 0⟩, ⟨F.LANE_PRBS_CTL_INJ_BURST, .w1s, 0⟩, ⟨F.LANE_PRBS_CTL_INJ_LIVE, .rw, 0⟩, ⟨F.LANE_PRBS_CTL_BURST_LEN, .rw, 0⟩, ⟨F.LANE_PRBS_CTL_LOCK_LOST, .w1c, 0⟩, ⟨F.LANE_PRBS_CTL_LOCK, .ro, 0⟩, ⟨F.LANE_PRBS_CTL_GEN_EN, .rw, 0⟩, ⟨F.LANE_PRBS_CTL_GEN_PAT, .rw, 3⟩, ⟨F.LANE_PRBS_CTL_CHK_EN, .rw, 0⟩, ⟨F.LANE_PRBS_CTL_CHK_PAT, .rw, 3⟩, ⟨F.LANE_PRBS_CTL_GEN_INV, .rw, 0⟩, ⟨F.LANE_PRBS_CTL_CHK_INV, .rw, 0⟩]⟩
def LANE_PRBS_ERR_CNT : RegDesc := ⟨[⟨false, 0x0F030005, 16, 0x20, 1, 0, 0, 0⟩],
  [⟨F.LANE_PRBS_ERR_CNT_OVF, .w1c, 0⟩, ⟨F.LANE_PRBS_ERR_CNT_COUNT, .cntE, 0⟩]⟩
def LANE_PRBS_BIT_CNT : RegDesc := ⟨[⟨false, 0x0F030006, 16, 0x20, 1, 0, 0, 0⟩],
  [⟨F.LANE_PRBS_BIT_CNT_OVF, .w1c, 0⟩, ⟨F.LANE_PRBS_BIT_CNT_COUNT, .cntE, 0⟩]⟩
def LANE_LOS_CNT : RegDesc := ⟨[⟨false, 0x0F030007, 16, 0x20, 1, 0, 0, 0⟩],
  [⟨F.LANE_LOS_CNT_OVF, .w1c, 0⟩, ⟨F.LANE_LOS_CNT_COUNT, .cntE, 0⟩]⟩
def LANE_RELOCK_CNT : RegDesc := ⟨[⟨false, 0x0F030008, 16, 0x20, 1, 0, 0, 0⟩],
  [⟨F.LANE_RELOCK_CNT_OVF, .w1c, 0⟩, ⟨F.LANE_RELOCK_CNT_COUNT, .cntE, 0⟩]⟩
def MAC_CTL (i : Nat) : RegDesc := ⟨[⟨false, 0x0F030800, 4, 0x40, 1, 0, 0, 0⟩],
  [⟨F.MAC_CTL_MAX_FRAME, .rw, 1518⟩, ⟨F.MAC_CTL_ONE_STEP, .rw, 0⟩, ⟨F.MAC_CTL_PAUSE_EN, .rw, 1⟩, ⟨F.MAC_CTL_AN_EN, .rw, 1⟩, ⟨F.MAC_CTL_LANE, .rw, i⟩, ⟨F.MAC_CTL_MODE, .rw, 0⟩, ⟨F.MAC_CTL_EN, .rw, 0⟩]⟩
def MAC_STAT : RegDesc := ⟨[⟨false, 0x0F030801, 4, 0x40, 1, 0, 0, 0⟩],
  [⟨F.MAC_STAT_LINK_UP, .ro, 0⟩, ⟨F.MAC_STAT_SPEED, .ro, 0⟩, ⟨F.MAC_STAT_AN_DONE, .ro, 0⟩, ⟨F.MAC_STAT_BLOCK_LOCK, .ro, 0⟩, ⟨F.MAC_STAT_PAUSED, .ro, 0⟩, ⟨F.MAC_STAT_TS_DROP, .w1c, 0⟩, ⟨F.MAC_STAT_TS_LEVEL, .ro, 0⟩]⟩
def MAC_LAT : RegDesc := ⟨[⟨false, 0x0F030802, 4, 0x40, 1, 0, 0, 0⟩],
  [⟨F.MAC_LAT_EGRESS_PS, .rw, 0⟩, ⟨F.MAC_LAT_INGRESS_PS, .rw, 0⟩]⟩
def MAC_TS_ID : RegDesc := ⟨[⟨false, 0x0F030803, 4, 0x40, 1, 0, 0, 0⟩],
  [⟨F.MAC_TS_ID_VALID, .ro, 0⟩, ⟨F.MAC_TS_ID_EPOCH, .ro, 0⟩, ⟨F.MAC_TS_ID_MSG_TYPE, .ro, 0⟩, ⟨F.MAC_TS_ID_SEQ_ID, .ro, 0⟩]⟩
def MAC_TS_TIME : RegDesc := ⟨[⟨false, 0x0F030804, 4, 0x40, 1, 0, 0, 0⟩],
  [⟨F.MAC_TS_TIME_TIME, .rc, 0⟩]⟩
def MAC_RX_FRAME_CNT : RegDesc := ⟨[⟨false, 0x0F030805, 4, 0x40, 1, 0, 0, 0⟩],
  [⟨F.MAC_RX_FRAME_CNT_OVF, .w1c, 0⟩, ⟨F.MAC_RX_FRAME_CNT_COUNT, .cntE, 0⟩]⟩
def MAC_TX_FRAME_CNT : RegDesc := ⟨[⟨false, 0x0F030806, 4, 0x40, 1, 0, 0, 0⟩],
  [⟨F.MAC_TX_FRAME_CNT_OVF, .w1c, 0⟩, ⟨F.MAC_TX_FRAME_CNT_COUNT, .cntE, 0⟩]⟩
def MAC_FCS_ERR_CNT : RegDesc := ⟨[⟨false, 0x0F030807, 4, 0x40, 1, 0, 0, 0⟩],
  [⟨F.MAC_FCS_ERR_CNT_OVF, .w1c, 0⟩, ⟨F.MAC_FCS_ERR_CNT_COUNT, .cntE, 0⟩]⟩
def MAC_RX_DROP_CNT : RegDesc := ⟨[⟨false, 0x0F030808, 4, 0x40, 1, 0, 0, 0⟩],
  [⟨F.MAC_RX_DROP_CNT_OVF, .w1c, 0⟩, ⟨F.MAC_RX_DROP_CNT_COUNT, .cntE, 0⟩]⟩
def MAC_STATION : RegDesc := ⟨[⟨false, 0x0F030809, 4, 0x40, 1, 0, 0, 0⟩],
  [⟨F.MAC_STATION_ADDR, .rw, 0⟩]⟩
def MAC_TX_DROP_CNT : RegDesc := ⟨[⟨false, 0x0F03080A, 4, 0x40, 1, 0, 0, 0⟩],
  [⟨F.MAC_TX_DROP_CNT_OVF, .w1c, 0⟩, ⟨F.MAC_TX_DROP_CNT_COUNT, .cntE, 0⟩]⟩
def SL_CTL : RegDesc := ⟨[⟨false, 0x0F040000, 8, 0x20, 1, 0, 0, 0⟩],
  [⟨F.SL_CTL_RETRAIN, .w1s, 0⟩, ⟨F.SL_CTL_REPLAY_LIMIT, .rw, 4⟩, ⟨F.SL_CTL_LANE_BASE, .rw, 0⟩, ⟨F.SL_CTL_WIDTH, .rw, 0⟩, ⟨F.SL_CTL_RATE, .rw, 1⟩, ⟨F.SL_CTL_EN, .rw, 0⟩]⟩
def SL_STAT : RegDesc := ⟨[⟨false, 0x0F040001, 8, 0x20, 1, 0, 0, 0⟩],
  [⟨F.SL_STAT_STATE, .ro, 0⟩, ⟨F.SL_STAT_WIDTH_NOW, .ro, 0⟩, ⟨F.SL_STAT_LANES, .ro, 0⟩, ⟨F.SL_STAT_NEXT_SEQ, .ro, 0⟩, ⟨F.SL_STAT_PEER_ACK, .ro, 0⟩, ⟨F.SL_STAT_HELD, .ro, 0⟩]⟩
def SL_PEER : RegDesc := ⟨[⟨false, 0x0F040002, 8, 0x20, 1, 0, 0, 0⟩],
  [⟨F.SL_PEER_VALID, .ro, 0⟩, ⟨F.SL_PEER_ACTIVE, .ro, 0⟩, ⟨F.SL_PEER_ROLE, .ro, 0⟩, ⟨F.SL_PEER_DEVNUM, .ro, 0⟩, ⟨F.SL_PEER_PART_CODE, .ro, 0⟩]⟩
def SL_CRC_CNT : RegDesc := ⟨[⟨false, 0x0F040003, 8, 0x20, 1, 0, 0, 0⟩],
  [⟨F.SL_CRC_CNT_OVF, .w1c, 0⟩, ⟨F.SL_CRC_CNT_COUNT, .cntE, 0⟩]⟩
def SL_REPLAY_CNT : RegDesc := ⟨[⟨false, 0x0F040004, 8, 0x20, 1, 0, 0, 0⟩],
  [⟨F.SL_REPLAY_CNT_OVF, .w1c, 0⟩, ⟨F.SL_REPLAY_CNT_COUNT, .cntE, 0⟩]⟩
def SL_RETRAIN_CNT : RegDesc := ⟨[⟨false, 0x0F040005, 8, 0x20, 1, 0, 0, 0⟩],
  [⟨F.SL_RETRAIN_CNT_OVF, .w1c, 0⟩, ⟨F.SL_RETRAIN_CNT_COUNT, .cntE, 0⟩]⟩
def SK_KEY : RegDesc := ⟨[⟨false, 0x0F040200, 32, 8, 6, 1, 0, 0⟩],
  [⟨F.SK_KEY_W, .wo, 0⟩]⟩
def SK_CTL : RegDesc := ⟨[⟨false, 0x0F040206, 32, 8, 1, 0, 0, 0⟩],
  [⟨F.SK_CTL_REFUSED, .w1c, 0⟩, ⟨F.SK_CTL_LOAD, .w1s, 0⟩, ⟨F.SK_CTL_VALID, .ro, 0⟩]⟩
def SC_CTL : RegDesc := ⟨[⟨false, 0x0F041000, 64, 0x20, 1, 0, 0, 0⟩],
  [⟨F.SC_CTL_TX_OPEN, .w1s, 0⟩, ⟨F.SC_CTL_TX_CLOSE, .w1s, 0⟩, ⟨F.SC_CTL_FLUSH, .w1s, 0⟩, ⟨F.SC_CTL_KEY_SWITCH, .w1s, 0⟩, ⟨F.SC_CTL_MAX_FRAME, .rw, 4096⟩, ⟨F.SC_CTL_LINK, .rw, 0⟩, ⟨F.SC_CTL_SPEC, .rw, 0⟩, ⟨F.SC_CTL_SECURE, .rw, 1⟩, ⟨F.SC_CTL_TX_EN, .rw, 0⟩, ⟨F.SC_CTL_RX_EN, .rw, 0⟩]⟩
def SC_BUF : RegDesc := ⟨[⟨false, 0x0F041001, 64, 0x20, 1, 0, 0, 0⟩],
  [⟨F.SC_BUF_TX_BASE, .rw, 0⟩, ⟨F.SC_BUF_TX_SIZE, .rw, 0⟩, ⟨F.SC_BUF_RX_BASE, .rw, 0⟩, ⟨F.SC_BUF_RX_SIZE, .rw, 0⟩]⟩
def SC_KEY : RegDesc := ⟨[⟨false, 0x0F041002, 64, 0x20, 1, 0, 0, 0⟩],
  [⟨F.SC_KEY_TX_SLOT, .rw, 0⟩, ⟨F.SC_KEY_TX_NEXT_SLOT, .rw, 0⟩, ⟨F.SC_KEY_RX_SLOT, .rw, 0⟩, ⟨F.SC_KEY_RX_NEXT_SLOT, .rw, 0⟩]⟩
def SC_TX_SALT : RegDesc := ⟨[⟨false, 0x0F041003, 64, 0x20, 1, 0, 0, 0⟩],
  [⟨F.SC_TX_SALT_SALT, .rw, 0⟩]⟩
def SC_TX_NEXT_SALT : RegDesc := ⟨[⟨false, 0x0F041004, 64, 0x20, 1, 0, 0, 0⟩],
  [⟨F.SC_TX_NEXT_SALT_SALT, .rw, 0⟩]⟩
def SC_RX_SALT : RegDesc := ⟨[⟨false, 0x0F041005, 64, 0x20, 1, 0, 0, 0⟩],
  [⟨F.SC_RX_SALT_SALT, .rw, 0⟩]⟩
def SC_RX_NEXT_SALT : RegDesc := ⟨[⟨false, 0x0F041006, 64, 0x20, 1, 0, 0, 0⟩],
  [⟨F.SC_RX_NEXT_SALT_SALT, .rw, 0⟩]⟩
def SC_STAT : RegDesc := ⟨[⟨false, 0x0F041007, 64, 0x20, 1, 0, 0, 0⟩],
  [⟨F.SC_STAT_TX_STATE, .ro, 0⟩, ⟨F.SC_STAT_RX_STATE, .ro, 0⟩, ⟨F.SC_STAT_REFUSE_CAUSE, .ro, 0⟩, ⟨F.SC_STAT_BUF_ERR, .w1c, 0⟩, ⟨F.SC_STAT_TX_CREDIT, .ro, 0⟩, ⟨F.SC_STAT_RX_LEVEL, .ro, 0⟩]⟩
def SC_NOTICE : RegDesc := ⟨[⟨false, 0x0F041008, 64, 0x20, 1, 0, 0, 0⟩],
  [⟨F.SC_NOTICE_MODE, .rw, 0⟩, ⟨F.SC_NOTICE_ALARM_NOTICE, .rw, 0⟩, ⟨F.SC_NOTICE_LEVEL, .rw, 1⟩]⟩
def SC_NOTICE_ADDR : RegDesc := ⟨[⟨false, 0x0F041009, 64, 0x20, 1, 0, 0, 0⟩],
  [⟨F.SC_NOTICE_ADDR_ADDR, .rw, 0⟩]⟩
def SC_TX_CTR_LO : RegDesc := ⟨[⟨false, 0x0F04100A, 64, 0x20, 1, 0, 0, 0⟩],
  [⟨F.SC_TX_CTR_LO_CTR, .ro, 0⟩]⟩
def SC_TX_CTR_HI : RegDesc := ⟨[⟨false, 0x0F04100B, 64, 0x20, 1, 0, 0, 0⟩],
  [⟨F.SC_TX_CTR_HI_CTR, .ro, 0⟩]⟩
def SC_RX_CTR_LO : RegDesc := ⟨[⟨false, 0x0F04100C, 64, 0x20, 1, 0, 0, 0⟩],
  [⟨F.SC_RX_CTR_LO_CTR, .ro, 0⟩]⟩
def SC_RX_CTR_HI : RegDesc := ⟨[⟨false, 0x0F04100D, 64, 0x20, 1, 0, 0, 0⟩],
  [⟨F.SC_RX_CTR_HI_CTR, .ro, 0⟩]⟩
def SC_ALARM_LAST : RegDesc := ⟨[⟨false, 0x0F04100E, 64, 0x20, 1, 0, 0, 0⟩],
  [⟨F.SC_ALARM_LAST_VALID, .w1c, 0⟩, ⟨F.SC_ALARM_LAST_SPEC, .ro, 0⟩, ⟨F.SC_ALARM_LAST_CAUSE, .ro, 0⟩, ⟨F.SC_ALARM_LAST_DELIVERED, .ro, 0⟩, ⟨F.SC_ALARM_LAST_RETRACTED, .ro, 0⟩]⟩
def SC_ALARM_FRAME : RegDesc := ⟨[⟨false, 0x0F04100F, 64, 0x20, 1, 0, 0, 0⟩],
  [⟨F.SC_ALARM_FRAME_CTR, .ro, 0⟩]⟩
def SC_TX_FRAME_CNT : RegDesc := ⟨[⟨false, 0x0F041010, 64, 0x20, 1, 0, 0, 0⟩],
  [⟨F.SC_TX_FRAME_CNT_OVF, .w1c, 0⟩, ⟨F.SC_TX_FRAME_CNT_COUNT, .cntE, 0⟩]⟩
def SC_RX_FRAME_CNT : RegDesc := ⟨[⟨false, 0x0F041011, 64, 0x20, 1, 0, 0, 0⟩],
  [⟨F.SC_RX_FRAME_CNT_OVF, .w1c, 0⟩, ⟨F.SC_RX_FRAME_CNT_COUNT, .cntE, 0⟩]⟩
def SC_FAIL_CNT : RegDesc := ⟨[⟨false, 0x0F041012, 64, 0x20, 1, 0, 0, 0⟩],
  [⟨F.SC_FAIL_CNT_OVF, .w1c, 0⟩, ⟨F.SC_FAIL_CNT_COUNT, .cntE, 0⟩]⟩
def SC_TX_DROP_CNT : RegDesc := ⟨[⟨false, 0x0F041013, 64, 0x20, 1, 0, 0, 0⟩],
  [⟨F.SC_TX_DROP_CNT_OVF, .w1c, 0⟩, ⟨F.SC_TX_DROP_CNT_COUNT, .cntE, 0⟩]⟩
def SC_CUT_CNT : RegDesc := ⟨[⟨false, 0x0F041014, 64, 0x20, 1, 0, 0, 0⟩],
  [⟨F.SC_CUT_CNT_OVF, .w1c, 0⟩, ⟨F.SC_CUT_CNT_COUNT, .cntE, 0⟩]⟩
def TB_TIME : RegDesc := ⟨[⟨false, 0x0F020000, 1, 0, 1, 0, 0, 0⟩],
  [⟨F.TB_TIME_TIME, .ro, 0⟩]⟩
def TB_EPOCH : RegDesc := ⟨[⟨false, 0x0F020001, 1, 0, 1, 0, 0, 0⟩],
  [⟨F.TB_EPOCH_EPOCH, .ro, 0⟩]⟩
def TB_CTL : RegDesc := ⟨[⟨false, 0x0F020002, 1, 0, 1, 0, 0, 0⟩],
  [⟨F.TB_CTL_PPS_WIDTH, .rw, 1000⟩, ⟨F.TB_CTL_SLEW_DIV, .rw, 1000⟩]⟩
def TB_ADJ : RegDesc := ⟨[⟨false, 0x0F020003, 1, 0, 1, 0, 0, 0⟩],
  [⟨F.TB_ADJ_ADJ, .rw, 0⟩]⟩
def TB_STEP : RegDesc := ⟨[⟨false, 0x0F020004, 1, 0, 1, 0, 0, 0⟩],
  [⟨F.TB_STEP_STEP, .wo, 0⟩]⟩
def TB_SLEW : RegDesc := ⟨[⟨false, 0x0F020005, 1, 0, 1, 0, 0, 0⟩],
  [⟨F.TB_SLEW_SLEW, .wo, 0⟩]⟩
def TB_SLEW_LEFT : RegDesc := ⟨[⟨false, 0x0F020006, 1, 0, 1, 0, 0, 0⟩],
  [⟨F.TB_SLEW_LEFT_LEFT, .ro, 0⟩]⟩
def TB_STAT : RegDesc := ⟨[⟨false, 0x0F020007, 1, 0, 1, 0, 0, 0⟩],
  [⟨F.TB_STAT_WRAP, .w1c, 0⟩, ⟨F.TB_STAT_STEPPED, .w1c, 0⟩, ⟨F.TB_STAT_HOLDOVER, .ro, 0⟩, ⟨F.TB_STAT_REPLICA_ERR, .w1c, 0⟩, ⟨F.TB_STAT_REPLICA_OK, .ro, 0xF⟩]⟩
def TB_REPLICA_CNT : RegDesc := ⟨[⟨false, 0x0F020008, 1, 0, 1, 0, 0, 0⟩],
  [⟨F.TB_REPLICA_CNT_OVF, .w1c, 0⟩, ⟨F.TB_REPLICA_CNT_COUNT, .cntE, 0⟩]⟩
def ENC_CTL : RegDesc := ⟨[⟨false, 0x0F020100, 4, 0x10, 1, 0, 0, 0⟩],
  [⟨F.ENC_CTL_CMP_ARM, .w1s, 0⟩, ⟨F.ENC_CTL_RING, .rw, 0⟩, ⟨F.ENC_CTL_Z_REC, .rw, 0⟩, ⟨F.ENC_CTL_Z_CLEAR, .rw, 0⟩, ⟨F.ENC_CTL_FILT, .rw, 2⟩, ⟨F.ENC_CTL_INVERT, .rw, 0⟩, ⟨F.ENC_CTL_MODE, .rw, 0⟩]⟩
def ENC_POS : RegDesc := ⟨[⟨false, 0x0F020101, 4, 0x10, 1, 0, 0, 0⟩],
  [⟨F.ENC_POS_POS, .rw, 0⟩]⟩
def ENC_INDEX_POS : RegDesc := ⟨[⟨false, 0x0F020102, 4, 0x10, 1, 0, 0, 0⟩],
  [⟨F.ENC_INDEX_POS_POS, .ro, 0⟩]⟩
def ENC_EDGE_TIME : RegDesc := ⟨[⟨false, 0x0F020103, 4, 0x10, 1, 0, 0, 0⟩],
  [⟨F.ENC_EDGE_TIME_TIME, .ro, 0⟩]⟩
def ENC_GAP : RegDesc := ⟨[⟨false, 0x0F020104, 4, 0x10, 1, 0, 0, 0⟩],
  [⟨F.ENC_GAP_GAP, .ro, 0⟩]⟩
def ENC_CMP : RegDesc := ⟨[⟨false, 0x0F020105, 4, 0x10, 1, 0, 0, 0⟩],
  [⟨F.ENC_CMP_CMP, .rw, 0⟩]⟩
def ENC_CMP_STEP : RegDesc := ⟨[⟨false, 0x0F020106, 4, 0x10, 1, 0, 0, 0⟩],
  [⟨F.ENC_CMP_STEP_STEP, .rw, 0⟩]⟩
def ENC_STAT : RegDesc := ⟨[⟨false, 0x0F020107, 4, 0x10, 1, 0, 0, 0⟩],
  [⟨F.ENC_STAT_WRAP_UP, .w1c, 0⟩, ⟨F.ENC_STAT_WRAP_DN, .w1c, 0⟩, ⟨F.ENC_STAT_DIR, .ro, 0⟩, ⟨F.ENC_STAT_Z_SEEN, .w1c, 0⟩]⟩
def ENC_ERR_CNT : RegDesc := ⟨[⟨false, 0x0F020108, 4, 0x10, 1, 0, 0, 0⟩],
  [⟨F.ENC_ERR_CNT_OVF, .w1c, 0⟩, ⟨F.ENC_ERR_CNT_COUNT, .cntE, 0⟩]⟩
def PD_CTL : RegDesc := ⟨[⟨false, 0x0F020200, 16, 8, 1, 0, 0, 0⟩],
  [⟨F.PD_CTL_HOLDOFF, .rw, 0⟩, ⟨F.PD_CTL_RING, .rw, 0⟩, ⟨F.PD_CTL_ENC, .rw, 0⟩, ⟨F.PD_CTL_FILT, .rw, 2⟩, ⟨F.PD_CTL_EDGE, .rw, 0⟩]⟩
def PD_LAST : RegDesc := ⟨[⟨false, 0x0F020201, 16, 8, 1, 0, 0, 0⟩],
  [⟨F.PD_LAST_TIME, .ro, 0⟩]⟩
def PD_CNT : RegDesc := ⟨[⟨false, 0x0F020202, 16, 8, 1, 0, 0, 0⟩],
  [⟨F.PD_CNT_OVF, .w1c, 0⟩, ⟨F.PD_CNT_COUNT, .cntE, 0⟩]⟩
def PD_HOLD_CNT : RegDesc := ⟨[⟨false, 0x0F020203, 16, 8, 1, 0, 0, 0⟩],
  [⟨F.PD_HOLD_CNT_OVF, .w1c, 0⟩, ⟨F.PD_HOLD_CNT_COUNT, .cntE, 0⟩]⟩
def LEV_DEST : RegDesc := ⟨[⟨false, 0x0F020300, 4, 8, 1, 0, 0, 0⟩],
  [⟨F.LEV_DEST_ADDR, .rw, 0⟩]⟩
def LEV_CTL : RegDesc := ⟨[⟨false, 0x0F020301, 4, 8, 1, 0, 0, 0⟩],
  [⟨F.LEV_CTL_EN, .rw, 0⟩, ⟨F.LEV_CTL_EVT_GPIO_HI, .rw, 0⟩, ⟨F.LEV_CTL_BUSY, .ro, 0⟩, ⟨F.LEV_CTL_EXP, .rw, 2⟩]⟩
def LEV_SEQ : RegDesc := ⟨[⟨false, 0x0F020302, 4, 8, 1, 0, 0, 0⟩],
  [⟨F.LEV_SEQ_SEQ, .ro, 0⟩]⟩
def LEV_LOST_CNT : RegDesc := ⟨[⟨false, 0x0F020303, 4, 8, 1, 0, 0, 0⟩],
  [⟨F.LEV_LOST_CNT_OVF, .w1c, 0⟩, ⟨F.LEV_LOST_CNT_COUNT, .cntE, 0⟩]⟩
def CT_CTL : RegDesc := ⟨[⟨false, 0x0F020400, 8, 0x10, 1, 0, 0, 0⟩],
  [⟨F.CT_CTL_EN, .rw, 0⟩, ⟨F.CT_CTL_CFG_ERR, .w1c, 0⟩, ⟨F.CT_CTL_MODE, .rw, 0⟩]⟩
def CT_START : RegDesc := ⟨[⟨false, 0x0F020401, 8, 0x10, 1, 0, 0, 0⟩],
  [⟨F.CT_START_TIME, .rw, 0⟩]⟩
def CT_PERIOD : RegDesc := ⟨[⟨false, 0x0F020402, 8, 0x10, 1, 0, 0, 0⟩],
  [⟨F.CT_PERIOD_NS, .rw, 0⟩]⟩
def CT_PHASE : RegDesc := ⟨[⟨false, 0x0F020403, 8, 0x10, 1, 0, 0, 0⟩],
  [⟨F.CT_PHASE_ADC_COUNT, .rw, 1⟩, ⟨F.CT_PHASE_SAMPLE_NS, .rw, 0⟩, ⟨F.CT_PHASE_DAC_NS, .rw, 0⟩]⟩
def CT_DAC_VAL : RegDesc := ⟨[⟨false, 0x0F020404, 8, 0x10, 1, 0, 0, 0⟩],
  [⟨F.CT_DAC_VAL_VAL, .rw, 0⟩]⟩
def CT_RING_BASE : RegDesc := ⟨[⟨false, 0x0F020405, 8, 0x10, 1, 0, 0, 0⟩],
  [⟨F.CT_RING_BASE_ADDR, .rw, 0⟩]⟩
def CT_RING_CTL : RegDesc := ⟨[⟨false, 0x0F020406, 8, 0x10, 1, 0, 0, 0⟩],
  [⟨F.CT_RING_CTL_EXP, .rw, 4⟩]⟩
def CT_WSEQ : RegDesc := ⟨[⟨false, 0x0F020407, 8, 0x10, 1, 0, 0, 0⟩],
  [⟨F.CT_WSEQ_SEQ, .ro, 0⟩]⟩
def CT_LAST : RegDesc := ⟨[⟨false, 0x0F020408, 8, 0x10, 1, 0, 0, 0⟩],
  [⟨F.CT_LAST_LANE, .ro, 0⟩]⟩
def CT_LOST_CNT : RegDesc := ⟨[⟨false, 0x0F020409, 8, 0x10, 1, 0, 0, 0⟩],
  [⟨F.CT_LOST_CNT_OVF, .w1c, 0⟩, ⟨F.CT_LOST_CNT_COUNT, .cntE, 0⟩]⟩
def CT_OVR_CNT : RegDesc := ⟨[⟨false, 0x0F02040A, 8, 0x10, 1, 0, 0, 0⟩],
  [⟨F.CT_OVR_CNT_OVF, .w1c, 0⟩, ⟨F.CT_OVR_CNT_COUNT, .cntE, 0⟩]⟩
def CT_SAFE : RegDesc := ⟨[⟨false, 0x0F02040B, 8, 0x10, 1, 0, 0, 0⟩],
  [⟨F.CT_SAFE_CODE, .rw, 0⟩, ⟨F.CT_SAFE_VAL, .rw, 0⟩]⟩
def GPIO_IN : RegDesc := ⟨[⟨false, 0x0F020500, 2, 1, 1, 0, 0, 0⟩],
  [⟨F.GPIO_IN_IN, .ro, 0⟩]⟩
def GPIO_OUT : RegDesc := ⟨[⟨false, 0x0F020502, 2, 1, 1, 0, 0, 0⟩],
  [⟨F.GPIO_OUT_OUT, .rw, 0⟩]⟩
def GPIO_OE : RegDesc := ⟨[⟨false, 0x0F020504, 2, 1, 1, 0, 0, 0⟩],
  [⟨F.GPIO_OE_OE, .rw, 0⟩]⟩
def GPIO_SET : RegDesc := ⟨[⟨false, 0x0F020506, 2, 1, 1, 0, 0, 0⟩],
  [⟨F.GPIO_SET_SET, .wo, 0⟩]⟩
def GPIO_CLR : RegDesc := ⟨[⟨false, 0x0F020508, 2, 1, 1, 0, 0, 0⟩],
  [⟨F.GPIO_CLR_CLR, .wo, 0⟩]⟩
def GPIO_SAFE : RegDesc := ⟨[⟨false, 0x0F02050A, 4, 1, 1, 0, 0, 0⟩],
  [⟨F.GPIO_SAFE_CODES, .rw, 0⟩]⟩
def GPIO_CFG : RegDesc := ⟨[⟨false, 0x0F020600, 96, 1, 1, 0, 0, 0⟩],
  [⟨F.GPIO_CFG_SCHED_ARM, .w1s, 0⟩, ⟨F.GPIO_CFG_SCHED_VAL, .rw, 0⟩, ⟨F.GPIO_CFG_FUNC, .rw, 0⟩, ⟨F.GPIO_CFG_OPEN_DRAIN, .rw, 0⟩, ⟨F.GPIO_CFG_RING, .rw, 0⟩, ⟨F.GPIO_CFG_ENC, .rw, 0⟩, ⟨F.GPIO_CFG_FILT, .rw, 2⟩, ⟨F.GPIO_CFG_EDGE, .rw, 0⟩]⟩
def GPIO_SCHED_TIME : RegDesc := ⟨[⟨false, 0x0F020700, 96, 1, 1, 0, 0, 0⟩],
  [⟨F.GPIO_SCHED_TIME_TIME, .rw, 0⟩]⟩
def CABEN_CTL : RegDesc := ⟨[⟨false, 0x0F000500, 1, 0, 1, 0, 0, 0⟩],
  [⟨F.CABEN_CTL_UDP_PORT, .rw, 0xCB00⟩, ⟨F.CABEN_CTL_UDP_KEY_SLOT, .rw, 0⟩, ⟨F.CABEN_CTL_UDP_SECURE, .rw, 1⟩, ⟨F.CABEN_CTL_SAETTE_EN, .rw, 1⟩, ⟨F.CABEN_CTL_UDP_EN, .rw, 0⟩, ⟨F.CABEN_CTL_SPI_EN, .ro, 1⟩]⟩
def CABEN_STAT : RegDesc := ⟨[⟨false, 0x0F000501, 1, 0, 1, 0, 0, 0⟩],
  [⟨F.CABEN_STAT_BOOT_SM, .ro, 1⟩, ⟨F.CABEN_STAT_UDP_EXHAUSTED, .ro, 0⟩, ⟨F.CABEN_STAT_OUT_SAETTE, .ro, 0⟩, ⟨F.CABEN_STAT_OUT_UDP, .ro, 0⟩, ⟨F.CABEN_STAT_OUT_SPI, .ro, 0⟩]⟩
def CABEN_IP : RegDesc := ⟨[⟨false, 0x0F000502, 1, 0, 1, 0, 0, 0⟩],
  [⟨F.CABEN_IP_ADDR, .rw, 0⟩]⟩
def CABEN_UDP_TX_SALT : RegDesc := ⟨[⟨false, 0x0F000503, 1, 0, 1, 0, 0, 0⟩],
  [⟨F.CABEN_UDP_TX_SALT_SALT, .rw, 0⟩]⟩
def CABEN_UDP_RX_SALT : RegDesc := ⟨[⟨false, 0x0F000504, 1, 0, 1, 0, 0, 0⟩],
  [⟨F.CABEN_UDP_RX_SALT_SALT, .rw, 0⟩]⟩
def CABEN_UDP_TX_CTR_LO : RegDesc := ⟨[⟨false, 0x0F000505, 1, 0, 1, 0, 0, 0⟩],
  [⟨F.CABEN_UDP_TX_CTR_LO_CTR, .ro, 0⟩]⟩
def CABEN_UDP_TX_CTR_HI : RegDesc := ⟨[⟨false, 0x0F000506, 1, 0, 1, 0, 0, 0⟩],
  [⟨F.CABEN_UDP_TX_CTR_HI_CTR, .ro, 0⟩]⟩
def CABEN_UDP_RX_CTR_LO : RegDesc := ⟨[⟨false, 0x0F000507, 1, 0, 1, 0, 0, 0⟩],
  [⟨F.CABEN_UDP_RX_CTR_LO_CTR, .ro, 0⟩]⟩
def CABEN_UDP_RX_CTR_HI : RegDesc := ⟨[⟨false, 0x0F000508, 1, 0, 1, 0, 0, 0⟩],
  [⟨F.CABEN_UDP_RX_CTR_HI_CTR, .ro, 0⟩]⟩
def CABEN_FRAME_ERR_CNT : RegDesc := ⟨[⟨false, 0x0F000510, 1, 0, 1, 0, 0, 0⟩],
  [⟨F.CABEN_FRAME_ERR_CNT_OVF, .w1c, 0⟩, ⟨F.CABEN_FRAME_ERR_CNT_COUNT, .cntE, 0⟩]⟩
def CABEN_TAG_REUSE_CNT : RegDesc := ⟨[⟨false, 0x0F000511, 1, 0, 1, 0, 0, 0⟩],
  [⟨F.CABEN_TAG_REUSE_CNT_OVF, .w1c, 0⟩, ⟨F.CABEN_TAG_REUSE_CNT_COUNT, .cntE, 0⟩]⟩
def CABEN_BUSY_CNT : RegDesc := ⟨[⟨false, 0x0F000512, 1, 0, 1, 0, 0, 0⟩],
  [⟨F.CABEN_BUSY_CNT_OVF, .w1c, 0⟩, ⟨F.CABEN_BUSY_CNT_COUNT, .cntE, 0⟩]⟩
def CABEN_AUTH_CNT : RegDesc := ⟨[⟨false, 0x0F000513, 1, 0, 1, 0, 0, 0⟩],
  [⟨F.CABEN_AUTH_CNT_OVF, .w1c, 0⟩, ⟨F.CABEN_AUTH_CNT_COUNT, .cntE, 0⟩]⟩
def CABEN_REPLAY_CNT : RegDesc := ⟨[⟨false, 0x0F000514, 1, 0, 1, 0, 0, 0⟩],
  [⟨F.CABEN_REPLAY_CNT_OVF, .w1c, 0⟩, ⟨F.CABEN_REPLAY_CNT_COUNT, .cntE, 0⟩]⟩
def CABEN_TIMEOUT_CNT : RegDesc := ⟨[⟨false, 0x0F000515, 1, 0, 1, 0, 0, 0⟩],
  [⟨F.CABEN_TIMEOUT_CNT_OVF, .w1c, 0⟩, ⟨F.CABEN_TIMEOUT_CNT_COUNT, .cntE, 0⟩]⟩
def SEQ_CTL : RegDesc := ⟨[⟨true, 0x0F020000, 4, 0x400, 1, 0, 0, 0⟩],
  [⟨F.SEQ_CTL_RESET, .w1s, 0⟩, ⟨F.SEQ_CTL_STEP, .w1s, 0⟩, ⟨F.SEQ_CTL_RUN, .rw, 0⟩, ⟨F.SEQ_CTL_STEP_IRQ, .rw, 0⟩, ⟨F.SEQ_CTL_FREQ, .rw, 120⟩]⟩
def SEQ_STAT : RegDesc := ⟨[⟨true, 0x0F020001, 4, 0x400, 1, 0, 0, 0⟩],
  [⟨F.SEQ_STAT_STATE, .ro, 0⟩, ⟨F.SEQ_STAT_HALT_CAUSE, .ro, 0⟩, ⟨F.SEQ_STAT_BP, .ro, 0⟩, ⟨F.SEQ_STAT_GERR, .w1c, 0⟩, ⟨F.SEQ_STAT_PC, .ro, 0x100⟩]⟩
def SEQ_PC : RegDesc := ⟨[⟨true, 0x0F020002, 4, 0x400, 1, 0, 0, 0⟩],
  [⟨F.SEQ_PC_PC, .rw, 0x100⟩]⟩
def SEQ_MEM_ADDR : RegDesc := ⟨[⟨true, 0x0F020003, 4, 0x400, 1, 0, 0, 0⟩],
  [⟨F.SEQ_MEM_ADDR_IMEM, .rw, 0⟩, ⟨F.SEQ_MEM_ADDR_TAG, .rw, 0⟩, ⟨F.SEQ_MEM_ADDR_UE, .ro, 0⟩, ⟨F.SEQ_MEM_ADDR_ADDR, .rw, 0⟩]⟩
def SEQ_MEM_DATA : RegDesc := ⟨[⟨true, 0x0F020004, 4, 0x400, 1, 0, 0, 0⟩],
  [⟨F.SEQ_MEM_DATA_DATA, .rw, 0⟩]⟩
def SEQ_G : RegDesc := ⟨[⟨true, 0x0F020010, 4, 0x400, 16, 1, 0, 0⟩],
  [⟨F.SEQ_G_G, .rw, 0⟩]⟩
def SEQ_SR : RegDesc := ⟨[⟨true, 0x0F020020, 4, 0x400, 11, 1, 0, 0⟩],
  [⟨F.SEQ_SR_SR, .rw, 0⟩]⟩
def SEQ_BP_CTL : RegDesc := ⟨[⟨true, 0x0F020030, 4, 0x400, 8, 2, 0, 0⟩],
  [⟨F.SEQ_BP_CTL_EN, .rw, 0⟩, ⟨F.SEQ_BP_CTL_KIND, .rw, 0⟩, ⟨F.SEQ_BP_CTL_ADDR, .rw, 0⟩]⟩
def SEQ_BP_ADDR : RegDesc := ⟨[⟨true, 0x0F020031, 4, 0x400, 8, 2, 0, 0⟩],
  [⟨F.SEQ_BP_ADDR_ADDR, .rw, 0⟩]⟩
def SEQ_DOORBELL : RegDesc := ⟨[⟨true, 0x0F020040, 4, 0x400, 32, 1, 0, 0⟩],
  [⟨F.SEQ_DOORBELL_WORD, .rw, 0⟩]⟩
def SEQ_DB_OVR : RegDesc := ⟨[⟨true, 0x0F020060, 4, 0x400, 1, 0, 0, 0⟩],
  [⟨F.SEQ_DB_OVR_OVR, .w1c, 0⟩]⟩
def SEQ_WAIT_CNT : RegDesc := ⟨[⟨true, 0x0F020061, 4, 0x400, 1, 0, 0, 0⟩],
  [⟨F.SEQ_WAIT_CNT_OVF, .w1c, 0⟩, ⟨F.SEQ_WAIT_CNT_COUNT, .cntE, 0⟩]⟩
def SEQ_MBOX : RegDesc := ⟨[⟨true, 0x0F020100, 4, 0x400, 64, 1, 0, 0⟩],
  [⟨F.SEQ_MBOX_WORD, .rw, 0⟩]⟩
def CTX_CTL : RegDesc := ⟨[⟨true, 0x0F031000, 8, 0x100, 16, 0x10, 0, 0⟩, ⟨false, 0x0F080000, 4, 0x100, 16, 0x10, 0, 0⟩],
  [⟨F.CTX_CTL_RUN, .rw, 0⟩, ⟨F.CTX_CTL_IN_INST, .rw, 0⟩, ⟨F.CTX_CTL_INST, .rw, 0⟩, ⟨F.CTX_CTL_DESC_EXP, .rw, 0⟩]⟩
def CTX_DESC_BASE : RegDesc := ⟨[⟨true, 0x0F031001, 8, 0x100, 16, 0x10, 0, 0⟩, ⟨false, 0x0F080001, 4, 0x100, 16, 0x10, 0, 0⟩],
  [⟨F.CTX_DESC_BASE_ADDR, .rw, 0⟩]⟩
def CTX_PROD : RegDesc := ⟨[⟨true, 0x0F031002, 8, 0x100, 16, 0x10, 0, 0⟩, ⟨false, 0x0F080002, 4, 0x100, 16, 0x10, 0, 0⟩],
  [⟨F.CTX_PROD_PROD, .rw, 0⟩]⟩
def CTX_STAT : RegDesc := ⟨[⟨true, 0x0F031003, 8, 0x100, 16, 0x10, 0, 0⟩, ⟨false, 0x0F080003, 4, 0x100, 16, 0x10, 0, 0⟩],
  [⟨F.CTX_STAT_STATE, .ro, 0⟩, ⟨F.CTX_STAT_CAUSE, .ro, 0⟩, ⟨F.CTX_STAT_CONS, .ro, 0⟩]⟩
def CTX_WORDS_CNT : RegDesc := ⟨[⟨true, 0x0F031004, 8, 0x100, 16, 0x10, 0, 0⟩, ⟨false, 0x0F080004, 4, 0x100, 16, 0x10, 0, 0⟩],
  [⟨F.CTX_WORDS_CNT_OVF, .w1c, 0⟩, ⟨F.CTX_WORDS_CNT_COUNT, .cntE, 0⟩]⟩
def CTX_RETRACT_CNT : RegDesc := ⟨[⟨true, 0x0F031005, 8, 0x100, 16, 0x10, 0, 0⟩, ⟨false, 0x0F080005, 4, 0x100, 16, 0x10, 0, 0⟩],
  [⟨F.CTX_RETRACT_CNT_OVF, .w1c, 0⟩, ⟨F.CTX_RETRACT_CNT_COUNT, .cntE, 0⟩]⟩
def CTX_DROP_CNT : RegDesc := ⟨[⟨true, 0x0F031006, 8, 0x100, 16, 0x10, 0, 0⟩, ⟨false, 0x0F080006, 4, 0x100, 16, 0x10, 0, 0⟩],
  [⟨F.CTX_DROP_CNT_OVF, .w1c, 0⟩, ⟨F.CTX_DROP_CNT_COUNT, .cntE, 0⟩]⟩
def ENG_EPOCH : RegDesc := ⟨[⟨true, 0x0F031C00, 16, 1, 1, 0, 0, 0⟩, ⟨false, 0x0F080C00, 16, 1, 1, 0, 0, 0⟩],
  [⟨F.ENG_EPOCH_EPOCH, .ro, 0⟩]⟩
def INST_CTL : RegDesc := ⟨[⟨false, 0x0F081000, 16, 0x10, 1, 0, 0, 0⟩],
  [⟨F.INST_CTL_RESET, .w1s, 0⟩, ⟨F.INST_CTL_WEIGHT, .rw, 1⟩]⟩
def INST_STAT : RegDesc := ⟨[⟨false, 0x0F081001, 16, 0x10, 1, 0, 0, 0⟩],
  [⟨F.INST_STAT_BUSY, .ro, 0⟩, ⟨F.INST_STAT_ERR, .w1c, 0⟩, ⟨F.INST_STAT_EPOCH, .ro, 0⟩]⟩
def INST_ISL_LO : RegDesc := ⟨[⟨false, 0x0F081002, 16, 0x10, 1, 0, 0, 0⟩],
  [⟨F.INST_ISL_LO_MEMBERS, .rw, 0⟩]⟩
def INST_ISL_HI : RegDesc := ⟨[⟨false, 0x0F081003, 16, 0x10, 1, 0, 0, 0⟩],
  [⟨F.INST_ISL_HI_MEMBERS, .rw, 0⟩]⟩
def INST_CH_LO : RegDesc := ⟨[⟨false, 0x0F081004, 16, 0x10, 1, 0, 0, 0⟩],
  [⟨F.INST_CH_LO_MEMBERS, .rw, 0⟩]⟩
def INST_CH_HI : RegDesc := ⟨[⟨false, 0x0F081005, 16, 0x10, 1, 0, 0, 0⟩],
  [⟨F.INST_CH_HI_MEMBERS, .rw, 0⟩]⟩
def INST_RESET_CNT : RegDesc := ⟨[⟨false, 0x0F081006, 16, 0x10, 1, 0, 0, 0⟩],
  [⟨F.INST_RESET_CNT_OVF, .w1c, 0⟩, ⟨F.INST_RESET_CNT_COUNT, .cntE, 0⟩]⟩
def INST_RESET_NS : RegDesc := ⟨[⟨false, 0x0F081007, 16, 0x10, 1, 0, 0, 0⟩],
  [⟨F.INST_RESET_NS_NS, .ro, 0⟩]⟩
def JD_ROUTE : RegDesc := ⟨[⟨false, 0x0F040400, 43, 1, 1, 0, 0, 0⟩],
  [⟨F.JD_ROUTE_ROUTES, .rw, 0xFFFFFFFFFFFF⟩]⟩
/-- JD_ROUTE_42, whose entries end at device 511: [47:32] is reserved (R10, R986). -/
def JD_ROUTE_42 : RegDesc := ⟨JD_ROUTE.places, [⟨⟨.JD_ROUTE, 31, 0⟩, .rw, 0xFFFFFFFF⟩]⟩
def JD_CTL : RegDesc := ⟨[⟨false, 0x0F040440, 1, 0, 1, 0, 0, 0⟩],
  [⟨F.JD_CTL_GW_EN, .rw, 1⟩, ⟨F.JD_CTL_DATELINE, .rw, 0⟩]⟩
def JD_TIME_CTL : RegDesc := ⟨[⟨false, 0x0F040441, 1, 0, 1, 0, 0, 0⟩],
  [⟨F.JD_TIME_CTL_FOLLOW, .rw, 0⟩, ⟨F.JD_TIME_CTL_LINK, .rw, 0⟩, ⟨F.JD_TIME_CTL_SYNC_EXP, .rw, 4⟩]⟩
def JD_TIME_OFS : RegDesc := ⟨[⟨false, 0x0F040442, 1, 0, 1, 0, 0, 0⟩],
  [⟨F.JD_TIME_OFS_NS, .ro, 0⟩]⟩
def JD_TIME_DLY : RegDesc := ⟨[⟨false, 0x0F040443, 1, 0, 1, 0, 0, 0⟩],
  [⟨F.JD_TIME_DLY_NS, .ro, 0⟩]⟩
def JD_TIME_STAT : RegDesc := ⟨[⟨false, 0x0F040444, 1, 0, 1, 0, 0, 0⟩],
  [⟨F.JD_TIME_STAT_LOCKED, .ro, 0⟩, ⟨F.JD_TIME_STAT_LOST_STICKY, .w1c, 0⟩]⟩
def JD_FWD_CNT : RegDesc := ⟨[⟨false, 0x0F040448, 1, 0, 1, 0, 0, 0⟩],
  [⟨F.JD_FWD_CNT_OVF, .w1c, 0⟩, ⟨F.JD_FWD_CNT_COUNT, .cntE, 0⟩]⟩
def JD_UNREACH_CNT : RegDesc := ⟨[⟨false, 0x0F040449, 1, 0, 1, 0, 0, 0⟩],
  [⟨F.JD_UNREACH_CNT_OVF, .w1c, 0⟩, ⟨F.JD_UNREACH_CNT_COUNT, .cntE, 0⟩]⟩
def JD_HOP_DROP_CNT : RegDesc := ⟨[⟨false, 0x0F04044A, 1, 0, 1, 0, 0, 0⟩],
  [⟨F.JD_HOP_DROP_CNT_OVF, .w1c, 0⟩, ⟨F.JD_HOP_DROP_CNT_COUNT, .cntE, 0⟩]⟩
def JD_CH_FWD : RegDesc := ⟨[⟨false, 0x0F040500, 64, 1, 1, 0, 0, 0⟩],
  [⟨F.JD_CH_FWD_EN, .rw, 0⟩, ⟨F.JD_CH_FWD_IN_LINK, .rw, 0⟩, ⟨F.JD_CH_FWD_OUT_LINK, .rw, 0⟩, ⟨F.JD_CH_FWD_BASE, .rw, 0⟩, ⟨F.JD_CH_FWD_SIZE, .rw, 0⟩]⟩
def DUP_CTL : RegDesc := ⟨[⟨false, 0x0F0A0000, 1, 0, 1, 0, 0, 0⟩],
  [⟨F.DUP_CTL_YIELD, .w1s, 0⟩, ⟨F.DUP_CTL_PRIMARY, .rw, 0⟩, ⟨F.DUP_CTL_HB_TAKEOVER, .rw, 1⟩, ⟨F.DUP_CTL_PIN_EN, .rw, 0⟩, ⟨F.DUP_CTL_AUTO_OUT, .rw, 1⟩, ⟨F.DUP_CTL_CUT_NOTICE, .rw, 0⟩, ⟨F.DUP_CTL_JOIN_S, .rw, 10⟩, ⟨F.DUP_CTL_SNAP_US, .rw, 10⟩, ⟨F.DUP_CTL_EPOCH, .rw, 10⟩]⟩
def DUP_STAT : RegDesc := ⟨[⟨false, 0x0F0A0001, 1, 0, 1, 0, 0, 0⟩],
  [⟨F.DUP_STAT_STATE, .ro, 0⟩, ⟨F.DUP_STAT_PEER_ALIVE, .ro, 0⟩, ⟨F.DUP_STAT_HO_IN, .ro, 0⟩, ⟨F.DUP_STAT_COMMIT_HALF, .ro, 0⟩, ⟨F.DUP_STAT_COPYING, .ro, 0⟩, ⟨F.DUP_STAT_HB_MISSED, .ro, 0⟩]⟩
def DUP_EPOCH_NUM : RegDesc := ⟨[⟨false, 0x0F0A0002, 1, 0, 1, 0, 0, 0⟩],
  [⟨F.DUP_EPOCH_NUM_NUM, .ro, 0⟩]⟩
def DUP_CUT_TIME : RegDesc := ⟨[⟨false, 0x0F0A0003, 1, 0, 1, 0, 0, 0⟩],
  [⟨F.DUP_CUT_TIME_TIME, .ro, 0⟩]⟩
def DUP_NOTICE_ADDR : RegDesc := ⟨[⟨false, 0x0F0A0004, 1, 0, 1, 0, 0, 0⟩],
  [⟨F.DUP_NOTICE_ADDR_ADDR, .rw, 0⟩]⟩
def DUP_TAKEOVER_TIME : RegDesc := ⟨[⟨false, 0x0F0A0005, 1, 0, 1, 0, 0, 0⟩],
  [⟨F.DUP_TAKEOVER_TIME_TIME, .ro, 0⟩]⟩
def DUP_EPOCH_CNT : RegDesc := ⟨[⟨false, 0x0F0A0008, 1, 0, 1, 0, 0, 0⟩],
  [⟨F.DUP_EPOCH_CNT_OVF, .w1c, 0⟩, ⟨F.DUP_EPOCH_CNT_COUNT, .cntE, 0⟩]⟩
def DUP_OVERRUN_CNT : RegDesc := ⟨[⟨false, 0x0F0A0009, 1, 0, 1, 0, 0, 0⟩],
  [⟨F.DUP_OVERRUN_CNT_OVF, .w1c, 0⟩, ⟨F.DUP_OVERRUN_CNT_COUNT, .cntE, 0⟩]⟩
def DUP_CRC_FAIL_CNT : RegDesc := ⟨[⟨false, 0x0F0A000A, 1, 0, 1, 0, 0, 0⟩],
  [⟨F.DUP_CRC_FAIL_CNT_OVF, .w1c, 0⟩, ⟨F.DUP_CRC_FAIL_CNT_COUNT, .cntE, 0⟩]⟩
def DUP_HB_MISS_CNT : RegDesc := ⟨[⟨false, 0x0F0A000B, 1, 0, 1, 0, 0, 0⟩],
  [⟨F.DUP_HB_MISS_CNT_OVF, .w1c, 0⟩, ⟨F.DUP_HB_MISS_CNT_COUNT, .cntE, 0⟩]⟩
def DUP_TAKEOVER_CNT : RegDesc := ⟨[⟨false, 0x0F0A000C, 1, 0, 1, 0, 0, 0⟩],
  [⟨F.DUP_TAKEOVER_CNT_OVF, .w1c, 0⟩, ⟨F.DUP_TAKEOVER_CNT_COUNT, .cntE, 0⟩]⟩
def DUP_YIELD_CNT : RegDesc := ⟨[⟨false, 0x0F0A000D, 1, 0, 1, 0, 0, 0⟩],
  [⟨F.DUP_YIELD_CNT_OVF, .w1c, 0⟩, ⟨F.DUP_YIELD_CNT_COUNT, .cntE, 0⟩]⟩
def DUP_REG_CTL : RegDesc := ⟨[⟨false, 0x0F0A0020, 32, 4, 1, 0, 0, 0⟩],
  [⟨F.DUP_REG_CTL_EN, .rw, 0⟩, ⟨F.DUP_REG_CTL_KIND, .rw, 0⟩, ⟨F.DUP_REG_CTL_LENGTH, .rw, 0⟩]⟩
def DUP_REG_SRC : RegDesc := ⟨[⟨false, 0x0F0A0021, 32, 4, 1, 0, 0, 0⟩],
  [⟨F.DUP_REG_SRC_ADDR, .rw, 0⟩]⟩
def DUP_REG_DST_A : RegDesc := ⟨[⟨false, 0x0F0A0022, 32, 4, 1, 0, 0, 0⟩],
  [⟨F.DUP_REG_DST_A_ADDR, .rw, 0⟩]⟩
def DUP_REG_DST_B : RegDesc := ⟨[⟨false, 0x0F0A0023, 32, 4, 1, 0, 0, 0⟩],
  [⟨F.DUP_REG_DST_B_ADDR, .rw, 0⟩]⟩
def FM_CTL : RegDesc := ⟨[⟨false, 0x0F010000, 1, 0, 1, 0, 0, 0⟩],
  [⟨F.FM_CTL_INT_EN, .rw, 1⟩, ⟨F.FM_CTL_SHADOW_EXP, .rw, 7⟩]⟩
def FM_STAT : RegDesc := ⟨[⟨false, 0x0F010001, 1, 0, 1, 0, 0, 0⟩],
  [⟨F.FM_STAT_FAULT_N, .ro, 0⟩, ⟨F.FM_STAT_IN_FAULT, .ro, 0⟩, ⟨F.FM_STAT_SEVERE, .ro, 0⟩, ⟨F.FM_STAT_PERMANENT, .ro, 0⟩, ⟨F.FM_STAT_SHADOWS, .ro, 0⟩, ⟨F.FM_STAT_LOG_LEVEL, .ro, 0⟩]⟩
def FM_NOTICE_ADDR : RegDesc := ⟨[⟨false, 0x0F010002, 1, 0, 1, 0, 0, 0⟩],
  [⟨F.FM_NOTICE_ADDR_ADDR, .rw, 0⟩]⟩
def FM_LOG_CTL : RegDesc := ⟨[⟨false, 0x0F010003, 1, 0, 1, 0, 0, 0⟩],
  [⟨F.FM_LOG_CTL_POP, .w1s, 0⟩]⟩
def FM_LOG_WIN : RegDesc := ⟨[⟨false, 0x0F010004, 4, 1, 1, 0, 0, 0⟩],
  [⟨F.FM_LOG_WIN_W, .ro, 0⟩]⟩
def FM_LOG_LOST_CNT : RegDesc := ⟨[⟨false, 0x0F010008, 1, 0, 1, 0, 0, 0⟩],
  [⟨F.FM_LOG_LOST_CNT_OVF, .w1c, 0⟩, ⟨F.FM_LOG_LOST_CNT_COUNT, .cntE, 0⟩]⟩
def FM_SHADOW_CNT : RegDesc := ⟨[⟨false, 0x0F010009, 1, 0, 1, 0, 0, 0⟩],
  [⟨F.FM_SHADOW_CNT_OVF, .w1c, 0⟩, ⟨F.FM_SHADOW_CNT_COUNT, .cntE, 0⟩]⟩
def FM_SRC_CTL (i : Nat) : RegDesc := ⟨[⟨false, 0x0F010100, 117, 4, 1, 0, 1, 0⟩],
  [⟨F.FM_SRC_CTL_FORCE, .w1s, 0⟩, ⟨F.FM_SRC_CTL_CLEAR, .w1s, 0⟩, ⟨F.FM_SRC_CTL_EN, .rw, 1⟩, ⟨F.FM_SRC_CTL_TEXP, .rw, (faultSpec i).texp⟩, ⟨F.FM_SRC_CTL_N, .rw, (faultSpec i).n⟩, ⟨F.FM_SRC_CTL_REACT_SEV, .rw, (faultSpec i).reactSev⟩, ⟨F.FM_SRC_CTL_REACT_BASE, .rw, (faultSpec i).reactBase⟩, ⟨F.FM_SRC_CTL_QUIET_MS, .rw, 1000⟩]⟩
def FM_SRC_STAT (i : Nat) : RegDesc := ⟨[⟨false, 0x0F010101, 117, 4, 1, 0, 1, 0⟩],
  [⟨F.FM_SRC_STAT_IN_FAULT, .ro, 0⟩, ⟨F.FM_SRC_STAT_SEV, .ro, (faultSpec i).base⟩, ⟨F.FM_SRC_STAT_WIN_OPEN, .ro, 0⟩, ⟨F.FM_SRC_STAT_WIN_COUNT, .ro, 0⟩, ⟨F.FM_SRC_STAT_WAITING, .ro, 0⟩]⟩
def FM_SRC_CNT : RegDesc := ⟨[⟨false, 0x0F010102, 117, 4, 1, 0, 1, 0⟩],
  [⟨F.FM_SRC_CNT_OVF, .w1c, 0⟩, ⟨F.FM_SRC_CNT_COUNT, .cntE, 0⟩]⟩
def FM_SRC_RECOV : RegDesc := ⟨[⟨false, 0x0F010103, 117, 4, 1, 0, 1, 0⟩],
  [⟨F.FM_SRC_RECOV_OVF, .w1c, 0⟩, ⟨F.FM_SRC_RECOV_FORCE_DIE, .rw, 0⟩, ⟨F.FM_SRC_RECOV_FORCE_UNIT, .rw, 0⟩, ⟨F.FM_SRC_RECOV_COUNT, .cntE, 0⟩]⟩
def RST_CTL : RegDesc := ⟨[⟨false, 0x0F000600, 1, 0, 1, 0, 0, 0⟩],
  [⟨F.RST_CTL_DEV_RESET, .w1s, 0⟩, ⟨F.RST_CTL_FW_RESTART, .w1s, 0⟩, ⟨F.RST_CTL_DEV_RELOAD, .rw, 0⟩, ⟨F.RST_CTL_AUTO_RESTART, .rw, 0⟩]⟩
def RST_STAT : RegDesc := ⟨[⟨false, 0x0F000601, 1, 0, 1, 0, 0, 0⟩],
  [⟨F.RST_STAT_STATE, .ro, 0⟩, ⟨F.RST_STAT_LINE_READY, .rw, 0⟩, ⟨F.RST_STAT_LAST_CAUSE, .ro, 0⟩, ⟨F.RST_STAT_FW_SLOT, .ro, 0⟩, ⟨F.RST_STAT_FW_BROKEN, .ro, 0⟩, ⟨F.RST_STAT_TRIP_SEEN, .w1c, 0⟩, ⟨F.RST_STAT_START_US, .ro, 0⟩]⟩
def RST_CNT : RegDesc := ⟨[⟨false, 0x0F000602, 1, 0, 1, 0, 0, 0⟩],
  [⟨F.RST_CNT_OVF, .w1c, 0⟩, ⟨F.RST_CNT_COUNT, .cntE, 0⟩]⟩
def WDOG_CTL : RegDesc := ⟨[⟨false, 0x0F000603, 1, 0, 1, 0, 0, 0⟩],
  [⟨F.WDOG_CTL_KICK, .wo, 0⟩, ⟨F.WDOG_CTL_EN, .rw, 1⟩, ⟨F.WDOG_CTL_TIMEOUT_MS, .rw, 100⟩]⟩
def PMB_CTL : RegDesc := ⟨[⟨false, 0x0F000604, 1, 0, 1, 0, 0, 0⟩],
  [⟨F.PMB_CTL_EN, .rw, 1⟩, ⟨F.PMB_CTL_PEC_EN, .rw, 1⟩, ⟨F.PMB_CTL_CORE_ADDR, .rw, 0x40⟩, ⟨F.PMB_CTL_GUARD, .rw, 2⟩]⟩
def PMB_STAT : RegDesc := ⟨[⟨false, 0x0F000605, 1, 0, 1, 0, 0, 0⟩],
  [⟨F.PMB_STAT_SETTLED, .ro, 0⟩, ⟨F.PMB_STAT_REQ_MV, .ro, 0⟩, ⟨F.PMB_STAT_VOUT_MV, .ro, 0⟩]⟩
def PMB_ERR_CNT : RegDesc := ⟨[⟨false, 0x0F000606, 1, 0, 1, 0, 0, 0⟩],
  [⟨F.PMB_ERR_CNT_OVF, .w1c, 0⟩, ⟨F.PMB_ERR_CNT_COUNT, .cntE, 0⟩]⟩
def THERM_CTL : RegDesc := ⟨[⟨false, 0x0F000607, 1, 0, 1, 0, 0, 0⟩],
  [⟨F.THERM_CTL_THR_CODE, .rw, 80⟩]⟩
def THERM_DIE : RegDesc := ⟨[⟨false, 0x0F000608, 5, 1, 1, 0, 0, 0⟩],
  [⟨F.THERM_DIE_TEMP, .ro, 0⟩, ⟨F.THERM_DIE_LEVEL, .ro, 0⟩, ⟨F.THERM_DIE_ABSENT, .ro, 0⟩]⟩
def SUP_STAT : RegDesc := ⟨[⟨false, 0x0F000610, 1, 0, 1, 0, 0, 0⟩],
  [⟨F.SUP_STAT_RAILS, .ro, 0xFF3F⟩]⟩
def DIO_BANK_STAT : RegDesc := ⟨[⟨false, 0x0F000611, 1, 0, 1, 0, 0, 0⟩],
  [⟨F.DIO_BANK_STAT_NOMINAL, .ro, 0xFFFF⟩]⟩

end Reg

/-- The table of each register name; `i` is the first index, on which some reset values depend (R658, R1031, R1032). -/
def regDesc (n : RegName) (i : Nat) : RegDesc :=
  match n with
  | .DEV_ROLE => Reg.DEV_ROLE
  | .DEV_ROLE_CTL => Reg.DEV_ROLE_CTL
  | .REG_ERR => Reg.REG_ERR
  | .REG_ERR_CNT => Reg.REG_ERR_CNT
  | .DEV_NUM => Reg.DEV_NUM
  | .ISL_CLK_CTL => Reg.ISL_CLK_CTL
  | .ISL_CLK_STAT => Reg.ISL_CLK_STAT
  | .ISL_STRETCH_CNT => Reg.ISL_STRETCH_CNT
  | .ISL_BREACH_CNT => Reg.ISL_BREACH_CNT
  | .ISL_CH_STAT => Reg.ISL_CH_STAT
  | .ISL_CH_CTL => Reg.ISL_CH_CTL
  | .ISL_CH_DROP => Reg.ISL_CH_DROP
  | .ISL_EVT_LAP => Reg.ISL_EVT_LAP
  | .MISL_STAT => Reg.MISL_STAT
  | .DIO_LEVEL => Reg.DIO_LEVEL
  | .DIO_DRIVE => Reg.DIO_DRIVE
  | .DIO_SAFE_LO => Reg.DIO_SAFE_LO
  | .DIO_SAFE_HI => Reg.DIO_SAFE_HI
  | .FAB_ISL_LIMIT => Reg.FAB_ISL_LIMIT
  | .FAB_ISL_RST => Reg.FAB_ISL_RST
  | .BM_WW_CNT => Reg.BM_WW_CNT
  | .BM_RW_CNT => Reg.BM_RW_CNT
  | .BM_COLL_LAST => Reg.BM_COLL_LAST
  | .BM_WIN_CTL => Reg.BM_WIN_CTL
  | .BM_PORTB_MODE => Reg.BM_PORTB_MODE
  | .BM_STEAL_CNT => Reg.BM_STEAL_CNT
  | .BM_WIN_ABANDON_CNT => Reg.BM_WIN_ABANDON_CNT
  | .SP_CTL => Reg.SP_CTL
  | .SP_STARVE_CNT => Reg.SP_STARVE_CNT
  | .SP_STARVE_LAST => Reg.SP_STARVE_LAST
  | .SP_ATOM_REFUSE_CNT => Reg.SP_ATOM_REFUSE_CNT
  | .SP_SAMPLE_CNT => Reg.SP_SAMPLE_CNT
  | .SP_BANK_USE => Reg.SP_BANK_USE
  | .PROT_CE_CNT => Reg.PROT_CE_CNT
  | .PROT_UE_CNT => Reg.PROT_UE_CNT
  | .PROT_WB_SKIP_CNT => Reg.PROT_WB_SKIP_CNT
  | .PROT_ERR_LAST => Reg.PROT_ERR_LAST
  | .PROT_CTL => Reg.PROT_CTL
  | .PROT_FLIP_DATA => Reg.PROT_FLIP_DATA
  | .PROT_FLIP_CTL => Reg.PROT_FLIP_CTL
  | .REPAIR_STAT => Reg.REPAIR_STAT
  | .CFG_LOAD_CTL => Reg.CFG_LOAD_CTL
  | .CFG_LOAD_STAT => Reg.CFG_LOAD_STAT
  | .CFG_BOOT_STAT => Reg.CFG_BOOT_STAT
  | .CFG_SRC_ADDR => Reg.CFG_SRC_ADDR
  | .CFG_NV_STAT => Reg.CFG_NV_STAT
  | .CFG_ENDURANCE => Reg.CFG_ENDURANCE
  | .CFG_ERASE_CNT => Reg.CFG_ERASE_CNT
  | .SPG_CTL => Reg.SPG_CTL
  | .SPG_NONESS_CNT => Reg.SPG_NONESS_CNT
  | .SPG_ESS_CNT => Reg.SPG_ESS_CNT
  | .SPG_MULTI_CNT => Reg.SPG_MULTI_CNT
  | .SPG_SKIP_CNT => Reg.SPG_SKIP_CNT
  | .SPG_PASS_CNT => Reg.SPG_PASS_CNT
  | .SPG_LAST => Reg.SPG_LAST
  | .SPG_POS => Reg.SPG_POS
  | .IXG_CTL => Reg.IXG_CTL
  | .IXG_STAT => Reg.IXG_STAT
  | .IXG_CAP_LOCAL => Reg.IXG_CAP_LOCAL
  | .IXG_CAP_PEER => Reg.IXG_CAP_PEER
  | .IXG_LANE_MAP => Reg.IXG_LANE_MAP
  | .IXG_CRC_CNT => Reg.IXG_CRC_CNT
  | .IXG_REPLAY_CNT => Reg.IXG_REPLAY_CNT
  | .IXG_SWAP_CNT => Reg.IXG_SWAP_CNT
  | .IXG_LOC_LAST => Reg.IXG_LOC_LAST
  | .IXG_TEST_BAD_LO => Reg.IXG_TEST_BAD_LO
  | .IXG_TEST_BAD_HI => Reg.IXG_TEST_BAD_HI
  | .TRN_CTL => Reg.TRN_CTL
  | .TRN_ERR_LAST => Reg.TRN_ERR_LAST
  | .TRN_ERR_ADDR => Reg.TRN_ERR_ADDR
  | .TRN_DROP_CNT => Reg.TRN_DROP_CNT
  | .TRN_TIMEOUT_CNT => Reg.TRN_TIMEOUT_CNT
  | .TRN_LATE_CNT => Reg.TRN_LATE_CNT
  | .TRN_UNMAPPED_CNT => Reg.TRN_UNMAPPED_CNT
  | .DRAM_CTL => Reg.DRAM_CTL
  | .DRAM_STAT => Reg.DRAM_STAT
  | .DRAM_GEOM => Reg.DRAM_GEOM
  | .DRAM_TIM_0 => Reg.DRAM_TIM_0
  | .DRAM_TIM_1 => Reg.DRAM_TIM_1
  | .DRAM_TIM_2 => Reg.DRAM_TIM_2
  | .DRAM_SCHED => Reg.DRAM_SCHED
  | .DRAM_CLASS_MAP => Reg.DRAM_CLASS_MAP
  | .DRAM_REF_CTL => Reg.DRAM_REF_CTL
  | .DRAM_TEMP => Reg.DRAM_TEMP
  | .DRAM_RD_CTL => Reg.DRAM_RD_CTL
  | .DRAM_TRAIN_CTL => Reg.DRAM_TRAIN_CTL
  | .DRAM_SCRUB => Reg.DRAM_SCRUB
  | .DRAM_FILL => Reg.DRAM_FILL
  | .DRAM_VICTIM_CNT => Reg.DRAM_VICTIM_CNT
  | .DRAM_THROTTLE_CNT => Reg.DRAM_THROTTLE_CNT
  | .DRAM_ALERT_CNT => Reg.DRAM_ALERT_CNT
  | .DRAM_RETRAIN_CNT => Reg.DRAM_RETRAIN_CNT
  | .DRAM_PROMO_CNT => Reg.DRAM_PROMO_CNT
  | .DRAM_DEMAND_FILL_CNT => Reg.DRAM_DEMAND_FILL_CNT
  | .DRAM_REGION => Reg.DRAM_REGION
  | .DRAM_KEY => Reg.DRAM_KEY
  | .DRAM_KEY_CTL => Reg.DRAM_KEY_CTL
  | .LANE_CTL => Reg.LANE_CTL
  | .LANE_STAT => Reg.LANE_STAT
  | .LANE_TX => Reg.LANE_TX
  | .LANE_RX => Reg.LANE_RX
  | .LANE_PRBS_CTL => Reg.LANE_PRBS_CTL
  | .LANE_PRBS_ERR_CNT => Reg.LANE_PRBS_ERR_CNT
  | .LANE_PRBS_BIT_CNT => Reg.LANE_PRBS_BIT_CNT
  | .LANE_LOS_CNT => Reg.LANE_LOS_CNT
  | .LANE_RELOCK_CNT => Reg.LANE_RELOCK_CNT
  | .MAC_CTL => Reg.MAC_CTL i
  | .MAC_STAT => Reg.MAC_STAT
  | .MAC_LAT => Reg.MAC_LAT
  | .MAC_TS_ID => Reg.MAC_TS_ID
  | .MAC_TS_TIME => Reg.MAC_TS_TIME
  | .MAC_RX_FRAME_CNT => Reg.MAC_RX_FRAME_CNT
  | .MAC_TX_FRAME_CNT => Reg.MAC_TX_FRAME_CNT
  | .MAC_FCS_ERR_CNT => Reg.MAC_FCS_ERR_CNT
  | .MAC_RX_DROP_CNT => Reg.MAC_RX_DROP_CNT
  | .MAC_STATION => Reg.MAC_STATION
  | .MAC_TX_DROP_CNT => Reg.MAC_TX_DROP_CNT
  | .SL_CTL => Reg.SL_CTL
  | .SL_STAT => Reg.SL_STAT
  | .SL_PEER => Reg.SL_PEER
  | .SL_CRC_CNT => Reg.SL_CRC_CNT
  | .SL_REPLAY_CNT => Reg.SL_REPLAY_CNT
  | .SL_RETRAIN_CNT => Reg.SL_RETRAIN_CNT
  | .SK_KEY => Reg.SK_KEY
  | .SK_CTL => Reg.SK_CTL
  | .SC_CTL => Reg.SC_CTL
  | .SC_BUF => Reg.SC_BUF
  | .SC_KEY => Reg.SC_KEY
  | .SC_TX_SALT => Reg.SC_TX_SALT
  | .SC_TX_NEXT_SALT => Reg.SC_TX_NEXT_SALT
  | .SC_RX_SALT => Reg.SC_RX_SALT
  | .SC_RX_NEXT_SALT => Reg.SC_RX_NEXT_SALT
  | .SC_STAT => Reg.SC_STAT
  | .SC_NOTICE => Reg.SC_NOTICE
  | .SC_NOTICE_ADDR => Reg.SC_NOTICE_ADDR
  | .SC_TX_CTR_LO => Reg.SC_TX_CTR_LO
  | .SC_TX_CTR_HI => Reg.SC_TX_CTR_HI
  | .SC_RX_CTR_LO => Reg.SC_RX_CTR_LO
  | .SC_RX_CTR_HI => Reg.SC_RX_CTR_HI
  | .SC_ALARM_LAST => Reg.SC_ALARM_LAST
  | .SC_ALARM_FRAME => Reg.SC_ALARM_FRAME
  | .SC_TX_FRAME_CNT => Reg.SC_TX_FRAME_CNT
  | .SC_RX_FRAME_CNT => Reg.SC_RX_FRAME_CNT
  | .SC_FAIL_CNT => Reg.SC_FAIL_CNT
  | .SC_TX_DROP_CNT => Reg.SC_TX_DROP_CNT
  | .SC_CUT_CNT => Reg.SC_CUT_CNT
  | .TB_TIME => Reg.TB_TIME
  | .TB_EPOCH => Reg.TB_EPOCH
  | .TB_CTL => Reg.TB_CTL
  | .TB_ADJ => Reg.TB_ADJ
  | .TB_STEP => Reg.TB_STEP
  | .TB_SLEW => Reg.TB_SLEW
  | .TB_SLEW_LEFT => Reg.TB_SLEW_LEFT
  | .TB_STAT => Reg.TB_STAT
  | .TB_REPLICA_CNT => Reg.TB_REPLICA_CNT
  | .ENC_CTL => Reg.ENC_CTL
  | .ENC_POS => Reg.ENC_POS
  | .ENC_INDEX_POS => Reg.ENC_INDEX_POS
  | .ENC_EDGE_TIME => Reg.ENC_EDGE_TIME
  | .ENC_GAP => Reg.ENC_GAP
  | .ENC_CMP => Reg.ENC_CMP
  | .ENC_CMP_STEP => Reg.ENC_CMP_STEP
  | .ENC_STAT => Reg.ENC_STAT
  | .ENC_ERR_CNT => Reg.ENC_ERR_CNT
  | .PD_CTL => Reg.PD_CTL
  | .PD_LAST => Reg.PD_LAST
  | .PD_CNT => Reg.PD_CNT
  | .PD_HOLD_CNT => Reg.PD_HOLD_CNT
  | .LEV_DEST => Reg.LEV_DEST
  | .LEV_CTL => Reg.LEV_CTL
  | .LEV_SEQ => Reg.LEV_SEQ
  | .LEV_LOST_CNT => Reg.LEV_LOST_CNT
  | .CT_CTL => Reg.CT_CTL
  | .CT_START => Reg.CT_START
  | .CT_PERIOD => Reg.CT_PERIOD
  | .CT_PHASE => Reg.CT_PHASE
  | .CT_DAC_VAL => Reg.CT_DAC_VAL
  | .CT_RING_BASE => Reg.CT_RING_BASE
  | .CT_RING_CTL => Reg.CT_RING_CTL
  | .CT_WSEQ => Reg.CT_WSEQ
  | .CT_LAST => Reg.CT_LAST
  | .CT_LOST_CNT => Reg.CT_LOST_CNT
  | .CT_OVR_CNT => Reg.CT_OVR_CNT
  | .CT_SAFE => Reg.CT_SAFE
  | .GPIO_IN => Reg.GPIO_IN
  | .GPIO_OUT => Reg.GPIO_OUT
  | .GPIO_OE => Reg.GPIO_OE
  | .GPIO_SET => Reg.GPIO_SET
  | .GPIO_CLR => Reg.GPIO_CLR
  | .GPIO_SAFE => Reg.GPIO_SAFE
  | .GPIO_CFG => Reg.GPIO_CFG
  | .GPIO_SCHED_TIME => Reg.GPIO_SCHED_TIME
  | .CABEN_CTL => Reg.CABEN_CTL
  | .CABEN_STAT => Reg.CABEN_STAT
  | .CABEN_IP => Reg.CABEN_IP
  | .CABEN_UDP_TX_SALT => Reg.CABEN_UDP_TX_SALT
  | .CABEN_UDP_RX_SALT => Reg.CABEN_UDP_RX_SALT
  | .CABEN_UDP_TX_CTR_LO => Reg.CABEN_UDP_TX_CTR_LO
  | .CABEN_UDP_TX_CTR_HI => Reg.CABEN_UDP_TX_CTR_HI
  | .CABEN_UDP_RX_CTR_LO => Reg.CABEN_UDP_RX_CTR_LO
  | .CABEN_UDP_RX_CTR_HI => Reg.CABEN_UDP_RX_CTR_HI
  | .CABEN_FRAME_ERR_CNT => Reg.CABEN_FRAME_ERR_CNT
  | .CABEN_TAG_REUSE_CNT => Reg.CABEN_TAG_REUSE_CNT
  | .CABEN_BUSY_CNT => Reg.CABEN_BUSY_CNT
  | .CABEN_AUTH_CNT => Reg.CABEN_AUTH_CNT
  | .CABEN_REPLAY_CNT => Reg.CABEN_REPLAY_CNT
  | .CABEN_TIMEOUT_CNT => Reg.CABEN_TIMEOUT_CNT
  | .SEQ_CTL => Reg.SEQ_CTL
  | .SEQ_STAT => Reg.SEQ_STAT
  | .SEQ_PC => Reg.SEQ_PC
  | .SEQ_MEM_ADDR => Reg.SEQ_MEM_ADDR
  | .SEQ_MEM_DATA => Reg.SEQ_MEM_DATA
  | .SEQ_G => Reg.SEQ_G
  | .SEQ_SR => Reg.SEQ_SR
  | .SEQ_BP_CTL => Reg.SEQ_BP_CTL
  | .SEQ_BP_ADDR => Reg.SEQ_BP_ADDR
  | .SEQ_DOORBELL => Reg.SEQ_DOORBELL
  | .SEQ_DB_OVR => Reg.SEQ_DB_OVR
  | .SEQ_WAIT_CNT => Reg.SEQ_WAIT_CNT
  | .SEQ_MBOX => Reg.SEQ_MBOX
  | .CTX_CTL => Reg.CTX_CTL
  | .CTX_DESC_BASE => Reg.CTX_DESC_BASE
  | .CTX_PROD => Reg.CTX_PROD
  | .CTX_STAT => Reg.CTX_STAT
  | .CTX_WORDS_CNT => Reg.CTX_WORDS_CNT
  | .CTX_RETRACT_CNT => Reg.CTX_RETRACT_CNT
  | .CTX_DROP_CNT => Reg.CTX_DROP_CNT
  | .ENG_EPOCH => Reg.ENG_EPOCH
  | .INST_CTL => Reg.INST_CTL
  | .INST_STAT => Reg.INST_STAT
  | .INST_ISL_LO => Reg.INST_ISL_LO
  | .INST_ISL_HI => Reg.INST_ISL_HI
  | .INST_CH_LO => Reg.INST_CH_LO
  | .INST_CH_HI => Reg.INST_CH_HI
  | .INST_RESET_CNT => Reg.INST_RESET_CNT
  | .INST_RESET_NS => Reg.INST_RESET_NS
  | .JD_ROUTE => if i = 42 then Reg.JD_ROUTE_42 else Reg.JD_ROUTE
  | .JD_CTL => Reg.JD_CTL
  | .JD_TIME_CTL => Reg.JD_TIME_CTL
  | .JD_TIME_OFS => Reg.JD_TIME_OFS
  | .JD_TIME_DLY => Reg.JD_TIME_DLY
  | .JD_TIME_STAT => Reg.JD_TIME_STAT
  | .JD_FWD_CNT => Reg.JD_FWD_CNT
  | .JD_UNREACH_CNT => Reg.JD_UNREACH_CNT
  | .JD_HOP_DROP_CNT => Reg.JD_HOP_DROP_CNT
  | .JD_CH_FWD => Reg.JD_CH_FWD
  | .DUP_CTL => Reg.DUP_CTL
  | .DUP_STAT => Reg.DUP_STAT
  | .DUP_EPOCH_NUM => Reg.DUP_EPOCH_NUM
  | .DUP_CUT_TIME => Reg.DUP_CUT_TIME
  | .DUP_NOTICE_ADDR => Reg.DUP_NOTICE_ADDR
  | .DUP_TAKEOVER_TIME => Reg.DUP_TAKEOVER_TIME
  | .DUP_EPOCH_CNT => Reg.DUP_EPOCH_CNT
  | .DUP_OVERRUN_CNT => Reg.DUP_OVERRUN_CNT
  | .DUP_CRC_FAIL_CNT => Reg.DUP_CRC_FAIL_CNT
  | .DUP_HB_MISS_CNT => Reg.DUP_HB_MISS_CNT
  | .DUP_TAKEOVER_CNT => Reg.DUP_TAKEOVER_CNT
  | .DUP_YIELD_CNT => Reg.DUP_YIELD_CNT
  | .DUP_REG_CTL => Reg.DUP_REG_CTL
  | .DUP_REG_SRC => Reg.DUP_REG_SRC
  | .DUP_REG_DST_A => Reg.DUP_REG_DST_A
  | .DUP_REG_DST_B => Reg.DUP_REG_DST_B
  | .FM_CTL => Reg.FM_CTL
  | .FM_STAT => Reg.FM_STAT
  | .FM_NOTICE_ADDR => Reg.FM_NOTICE_ADDR
  | .FM_LOG_CTL => Reg.FM_LOG_CTL
  | .FM_LOG_WIN => Reg.FM_LOG_WIN
  | .FM_LOG_LOST_CNT => Reg.FM_LOG_LOST_CNT
  | .FM_SHADOW_CNT => Reg.FM_SHADOW_CNT
  | .FM_SRC_CTL => Reg.FM_SRC_CTL i
  | .FM_SRC_STAT => Reg.FM_SRC_STAT i
  | .FM_SRC_CNT => Reg.FM_SRC_CNT
  | .FM_SRC_RECOV => Reg.FM_SRC_RECOV
  | .RST_CTL => Reg.RST_CTL
  | .RST_STAT => Reg.RST_STAT
  | .RST_CNT => Reg.RST_CNT
  | .WDOG_CTL => Reg.WDOG_CTL
  | .PMB_CTL => Reg.PMB_CTL
  | .PMB_STAT => Reg.PMB_STAT
  | .PMB_ERR_CNT => Reg.PMB_ERR_CNT
  | .THERM_CTL => Reg.THERM_CTL
  | .THERM_DIE => Reg.THERM_DIE
  | .SUP_STAT => Reg.SUP_STAT
  | .DIO_BANK_STAT => Reg.DIO_BANK_STAT

/-- Every register name, in the order of the register map. -/
def allRegs : List RegName :=
  (List.range 284).map RegName.ofNat

end Sys2Proof.Machine
end

