-- ==== Sys2Proof/Machine/State.lean ====
section
/-!
DEFINITION. The state of the package: every register, FIFO, buffer, counter, mode and pin the spec gives it, the queue
of waiting commands, and the state right after power-on reset.
-/
namespace Sys2Proof.Machine

/-- A stored word: data and tag, and the 8 check bits (R63, R294). -/
structure Cell where
  word : TWord
  check : Nat
deriving DecidableEq, Repr

/-- An event on its way to, or waiting in, the fault manager (R989, R990). `req` is the requester of a transport event,
`near` the islands whose windows a stopped transfer touched, `chan` the channel of a transmit overflow (Table 18-4). -/
structure FaultEv where
  src : FaultSrc
  die : Nat
  unit : Nat
  detail : Nat
  forced : Bool
  time : Nat
  epoch : Nat
  req : Option (Nat × Nat)
  near : List (Nat × Nat)
  promote : Bool
deriving DecidableEq, Repr

/-- What the fault manager keeps of a source beside its registers: the values N and TEXP of the open window and the package
time of its opening (R995, R1020), the reactions in force, the unit and time of its last event that was not shadowed (R997,
R1014), and the events to be merged into its next record (R990). -/
structure FmSrc where
  winN : Nat
  winTexp : Nat
  winAt : Nat
  react : Nat
  lastDie : Nat
  lastUnit : Nat
  lastAt : Nat
  merged : Nat
deriving DecidableEq, Repr

/-- A reaction shadow (R1010): its island, its root source number, whether the island's reset or load has ended, the package
time at which the shadow ends once it has, and per shadowed source the number of events and the first of them. -/
structure Shadow where
  die : Nat
  island : Nat
  root : Nat
  ended : Bool
  stop : Nat
  sums : List (Nat × Nat × FaultEv)
deriving DecidableEq, Repr

/-- A fault record, four words (Table 18-5). -/
structure FaultRec where
  w0 : Nat
  w1 : Nat
  w2 : Nat
  w3 : Nat
deriving DecidableEq, Repr

/-- A handshake channel (R122 to R133): the sender's count of occupied entries, words launched and not yet written,
the receiver's FIFO, acknowledge toggles on their way back, the word held without room, and whether channel-stall has
been raised for it. -/
structure Chan where
  occ : Nat
  flight : List TWord
  fifo : List TWord
  acks : Nat
  offer : Option TWord
  stalled : Bool
  reqT : Bool
  ackT : Bool
deriving DecidableEq, Repr

/-- An event crossing: the sender's 16-bit count, which it presents in Gray code, the receiver's front-end count since its logic
clock last ran, the Gray code that the receiver sampled last, and the count EVT_IN_COUNT that it presents to its logic (R134, R135,
R137). -/
structure Evt where
  count : Nat
  front : Nat
  sampled : Nat
  shown : Nat
deriving DecidableEq, Repr

/-- The registers of an arithmetic slice (R200, R203): captured inputs, stage register, P and OVF. -/
structure Slice where
  a : Nat
  b : Nat
  d : Nat
  c : Nat
  op : Nat
  stage : Nat
  stageOp : Nat
  p : Nat
  ovf : Bool
deriving DecidableEq, Repr

/-- What an island holds beside its registers and its configuration frames: its flip-flops (bit k for cell k, and for macrocell
k mod 16 of a product-term cluster k / 16), the clusters whose AR is 1, its 16 slices by number, the AMPLE cycles since the stretch
last changed (R113), and whether it is under reset, held for reconfiguration, waiting to have RUN set, returning from a breach, and
whether its DIO balls stay at their safe-state levels after a reconfiguration until RUN is 1 (R220). -/
structure Isl where
  ff : Nat
  ar : Nat
  slices : SMap Slice
  ample : Nat
  underReset : Bool
  held : Bool
  runWanted : Bool
  returning : Bool
  dioHold : Bool
deriving DecidableEq, Repr

/-- The registers of a DIO cell and the level at its ball (R210); `driven` is the level it last drove from its output
register, if it has (R1006). -/
structure Dio where
  inReg : Bool
  res : Bool
  out : Bool
  oe : Bool
  ball : Bool
  driven : Option Bool
deriving DecidableEq, Repr

/-- The output registers of a block-memory port (R237). -/
structure PortOut where
  data : Word
  tag : Tag
  busy : Bool
deriving DecidableEq, Repr

/-- A window access waiting at a block memory, or a check write-back waiting there (R244, R302). -/
structure WinReq where
  txn : Txn
  done : Nat
  acc : List TWord
  repeats : Nat
deriving DecidableEq, Repr

/-- A block memory: its ports' outputs, of a port whose last access was a narrow write the word and the cell as it was before,
whether that of port B is a window access's, and its window accesses. -/
structure Bm where
  a : PortOut
  b : PortOut
  pendA : Option (Nat × Cell)
  pendB : Option (Nat × Cell)
  winB : Bool
  win : List WinReq
deriving DecidableEq, Repr

/-- A request waiting at a scratchpad bank (R251): its class and its requester within the class, the words already
performed, and whether scratchpad-bank-starvation has been raised for it. -/
structure BankReq where
  txn : Txn
  cls : Nat
  who : Nat
  done : Nat
  acc : List TWord
  starved : Bool
  patrol : Bool
deriving DecidableEq, Repr

/-- A scratchpad bank: waiting requests in order of arrival, the last served requesters of classes 1 and 4, whether it is
in the second cycle of an atomic or a narrow write, and its patrol pointer (R249 to R256, R309). -/
structure Bank where
  reqs : List BankReq
  rot1 : Nat
  rot4 : Nat
  second : Bool
  patrol : Nat
deriving DecidableEq, Repr

/-- A queued check write-back: the protected address and the corrected word (R302). -/
structure WbEnt where
  pa : Nat
  word : TWord
  starved : Bool
deriving DecidableEq, Repr

/-- An outstanding request: the tag held by a master (R481), its transaction, whether its response is to be discarded
(R511) and whether the tag is quarantined (R513). -/
structure Outst where
  txn : Txn
  discard : Bool
  quarantined : Bool
deriving DecidableEq, Repr

/-- What travels in the transport: a request transaction or a response. -/
inductive Freight where
  | req (t : Txn)
  | resp (r : Resp)
deriving DecidableEq, Repr

/-- A link of the transport (R476, R477): from ring stop `k` of die `d` to the next in a direction (0 rising, 1 falling), from a
ring stop into its island or, at stop 0, into the memory switch, an Ixgal port towards its peer, and from a memory switch or the
I/O hub to endpoint or master `e`. -/
inductive Link where
  | ring (d k dir : Nat)
  | eject (d k : Nat)
  | port (d p : Nat)
  | sink (d e : Nat)
deriving DecidableEq, Repr

/-- One link of a way, with the class of the buffer behind it (in a ring stop 0 outbound low, 1 outbound high, 2 inbound low,
3 inbound high, R490): flits that have crossed it, and the slot in which the first did. -/
structure NetHop where
  link : Link
  cls : Nat
  got : Nat
  since : Nat
deriving DecidableEq, Repr

/-- A transaction or response under way: the input at which it waits for its first link, its way, none until its element has taken
it, and the slot in which its last flit arrived. The flits before a link are those that have crossed the link before and not this
one. -/
structure Pkt where
  load : Freight
  inp : Nat
  way : Option (List NetHop)
  at_ : Nat
deriving DecidableEq, Repr

/-- The transport (chapter 9): what is under way, oldest first, the slots so far, and per link and virtual channel the input next in
rotation and the slots for which the channel has been passed over (R495). -/
structure Net where
  pkts : List Pkt
  slots : Nat
  rot : SMap Nat
  passed : SMap Nat
deriving DecidableEq, Repr

/-- An Ixgal port beside its registers (chapter 8). Send side: whether INIT has been received, the SEQ after the last
acknowledged one, held flits (as sent) in order, flits folded onto it and waiting to be sent, per-VC credits, ceilings
and last CRED. Receive side: next expected SEQ, the first failed flit of an open error event, NAKs for the expected SEQ,
flits of a partly received transaction, per-VC flits freed, located wires and unlocated events with their times.
Bundle: good identical CAPs received, last CAP, training in progress from reset or not, fast, READY sent and received,
a swap under way (wire, spare), a retraining waiting for its end, and the lane map the send side follows. Fuses: failing
wires, and whether IXCLK_SP is the chosen clock (R452). Then whether the open error event has reached REPLAY_LIMIT (R444),
wires located in a hold, with their SEQ (R462), and spares that failed in use (R455). Last, sequenced flits accepted since the last
control flit (R437), sequenced flits sent since the last control flit (R424), and control flits sent since training from reset, up
to 4 (R431); and how many held flits, the last ones, are still to be sent again (R439). -/
structure IxPort where
  initSeen : Bool
  ackNext : Nat
  replay : List Nat
  folded : List Nat
  cred : List Nat
  ceil : List Nat
  lastCred : List Nat
  rxNext : Nat
  err : Option Nat
  naks : Nat
  rxPart : List Nat
  freed : List Nat
  locs : List (Nat × Nat)
  unlocs : List Nat
  capCount : Nat
  capLast : Nat
  capDone : Bool
  fromReset : Bool
  trained : Bool
  ready : Bool
  swap : Option (Nat × Nat)
  retrainAfter : Bool
  txMap : Nat
  fuse : List Nat
  fuseClk : Bool
  limited : Bool
  later : List (Nat × Nat)
  dead : List Nat
  unacked : Nat
  run : Nat
  inits : Nat
  redo : Nat
deriving DecidableEq, Repr

/-- A transaction accepted by a DRAM channel (R528, R529): for a read, the words it reads as they stood when it was
accepted (none in an unfilled unit, R559), from the first word of its first data unit on, each data unit with the key in
force (R574); whether it is promoted (R533); and its bursts still in their banks' queues, each with the times it has been passed
over for an entry whose row is open (R532); and which of the words were written under another region or key (R572). -/
structure DramAcc where
  txn : Txn
  first : Nat
  cells : List (Option Cell)
  keys : List (Option Nat)
  promoted : Bool
  todo : List (Nat × Nat)
  odd : List Bool
deriving DecidableEq, Repr

/-- A DRAM channel beside its registers (chapter 10): transactions waiting at the I/O hub, accepted transactions, the
fill map (bit u for fill unit u), the open row of each bank (row + 1), the victim queue of each rank and the rows held for
room in it (bank, row), the counted tables (bank and entry to row and count), refreshes owed and refresh commands since
the last table clear per rank, the keys of the key slots, the patrol's next burst, the times of recent parity alerts, the
failed trainings and the centrings failed running, whether the temperature is above 95 °C, whether the contents were
kept in self refresh through a reset (R590), the bank group of the last column command (R532), and the
region setting under which each channel word was last written, 0 for none (R572). -/
structure Dram where
  hub : List Txn
  acc : List DramAcc
  filled : Nat
  rows : SMap Nat
  victims : SMap (List (Nat × Nat))
  held : SMap (List (Nat × Nat))
  tables : SMap (Nat × Nat)
  owed : SMap Nat
  refs : SMap Nat
  keys : SMap Nat
  patrol : Nat
  alerts : List Nat
  trainFails : Nat
  centreFails : Nat
  overTemp : Bool
  kept : Bool
  group : Nat
  under : SMap Nat
deriving DecidableEq, Repr

/-- A lane beside its registers (chapter 11): a power-state request waiting for the end of an exit (R622), times of failed
PLL relocks, the clause 72 status answered for c(0), c(-1) and c(+1) (0 not updated, 1 updated, 2 minimum, 3 maximum),
whether this end and the peer have declared receiver ready, PRBS bits compared since the last full 256, and how many bits
of the transmitted stream have been inverted by injection; then the shift register of the generator and how many of its next bits are
to be inverted, the shift register of the checker, how many bits have matched running (in lock: bits of the block of 64 so far) and
errors in that block (R623 to R626), the bits last put on the line, none for electrical idle (R627), the levels sent for those of
them that have both neighbours, in 63rds of full swing (R610), and whether clause 72 training is due once the lane is in P0 (R612). -/
structure Lane where
  want : Option Nat
  relocks : List Nat
  stat0 : Nat
  statM : Nat
  statP : Nat
  rxReady : Bool
  peerReady : Bool
  prbsRem : Nat
  injected : Nat
  gen : Nat
  inject : Nat
  chk : Nat
  run : Nat
  errs : Nat
  line : Option (List Bool)
  level : List Int
  toTrain : Bool
deriving DecidableEq, Repr

/-- An entry of a MAC's timestamp FIFO (R639). -/
structure TsEntry where
  time : Nat
  msgType : Nat
  seqId : Nat
  epoch : Nat
deriving DecidableEq, Repr

/-- A MAC beside its registers (chapter 11): transmit and receive buffers, timestamp FIFO, and the bytes of the frame last
sent (without FCS). -/
structure Mac where
  txBuf : List TWord
  rxBuf : List TWord
  ts : List TsEntry
  sent : List Nat
deriving DecidableEq, Repr

/-- A Saette link beside its registers (chapter 12): good HELLO cells received, the lanes of its set that are good here and
at the peer, the cells of the replay buffer in order and how many of them have been sent since the last NAK, the next
expected SEQ, cells accepted and not acknowledged, a NAK to be sent, NAKs for the expected SEQ and whether their limit has
been reached once, SYSTEM cell bodies waiting, the channel last served, the full width asked for by a retraining, and the
cells of the last slot; and the WIDTH code with which it was opened (R37). -/
structure Sl where
  hello : Nat
  good : Nat
  peerGood : Nat
  replay : List Nat
  sent : Nat
  rxNext : Nat
  unacked : Nat
  nakDue : Bool
  naks : Nat
  limited : Bool
  system : List Nat
  rot : Nat
  slot : List Nat
  width : Nat
deriving DecidableEq, Repr

/-- The transmit coding of a Saette link (R666, R669): the scrambler of each lane position, data blocks on each lane since the last
alignment marker, and the blocks (sync header, scrambled payload) of the last slot on each lane. -/
structure Pcs where
  scr : SMap Nat
  since : Nat
  sent : List (List (Nat × Nat))
deriving DecidableEq, Repr

/-- The coding of a link that has sent nothing. -/
def Pcs.init : Pcs := ⟨[], 0, []⟩

/-- A frame being received (R679, R698): a serial number, its frame counter, key slot contents and salt in force (no key
where the slot is not VALID), the words as received, how many words it has in all and how many were taken by a reader, whether its last word has been accepted, the
counter and tag of its GCM_END, and whether a FLUSH has voided it (R704). -/
structure RxFrame where
  id : Nat
  ctr : Nat
  key : Option Nat
  salt : Nat
  words : List TWord
  taken : Nat
  ended : Bool
  gcm : Option (Nat × Nat)
  void : Bool
deriving DecidableEq, Repr

/-- A logical channel beside its registers (chapter 12). Transmit half: first used word and number of words of the
transmit buffer, whether the next word sent is to end its frame (R687), wire words of the frame being sent, frame counter, GCM_END body
to be sent, channel messages waiting, and the credit ceiling. Receive half: the buffer's words in order (word of the
region, frame), how many of them are readable, the next word of the region to use, the frames not yet finished, the next
frame's serial number, the frame counter, and credits owed. -/
structure Sc where
  txHead : Nat
  txLen : Nat
  cut : Bool
  txWire : List TWord
  txCtr : Nat
  gcmDue : Option Nat
  msgs : List Nat
  ceil : Nat
  rx : List (Nat × Nat)
  ready : Nat
  rxPut : Nat
  frames : List RxFrame
  frameNo : Nat
  rxCtr : Nat
  owed : Nat
deriving DecidableEq, Repr

/-- A forwarded item: words of a DATA cell (the words' places in the forwarding buffer, FIRST), or a whole sequenced cell
body of another kind. -/
inductive FwdItem where
  | word (slot : Nat) (first : Bool)
  | cell (kind body : Nat)
deriving DecidableEq, Repr

/-- A forwarding stage (R946 to R948): items in order, the next word of its buffer, credits held towards the downstream
link and their ceiling, and credits owed upstream. -/
structure Fwd where
  items : List FwdItem
  put : Nat
  credit : Nat
  ceil : Nat
  owed : Nat
deriving DecidableEq, Repr

/-- A remote request or write under way at the gateway (R938 to R941): its GW_TAG, its transaction, and the link it was
sent on. -/
structure GwOrig where
  tag : Nat
  txn : Txn
  link : Nat
deriving DecidableEq, Repr

/-- A transaction of another device issued here as master 8 (R941): the read tag it holds, its GW_TAG, source device, and
the transaction as it came. -/
structure GwServe where
  rtag : Nat
  gwTag : Nat
  srcDev : Nat
  txn : Txn
deriving DecidableEq, Repr

/-- A transaction in GW cells (Table 17-1): whether it is a response, its header fields, the link it came in on (8 for one of
this gateway's own), and its words: command word, global address, data. -/
structure GwItem where
  resp : Bool
  gwTag : Nat
  dst : Nat
  src : Nat
  hops : Nat
  cls : Nat
  link : Nat
  words : List TWord
deriving DecidableEq, Repr

/-- The Saette gateway (R936 to R945): transactions waiting to be accepted, requests outstanding, transactions served,
transactions received and not yet passed on, in order, slots held at the next hop of each link (key pool + 8 * link,
unlisted 16), and per link and pool a partly received transaction. -/
structure Gw where
  waiting : List Txn
  orig : List GwOrig
  serve : List GwServe
  queue : List GwItem
  slots : SMap Nat
  part : SMap (List TWord)
deriving DecidableEq, Repr

/-- A region as latched at a cut (R960, R978): its number, KIND, words to copy from an address, destinations, and the words
of KIND 2 and 3, captured at the cut. -/
structure RackReg where
  num : Nat
  kind : Nat
  len : Nat
  src : Nat
  dstA : Nat
  dstB : Nat
  words : List TWord
deriving DecidableEq, Repr

/-- The duplex pair and time across devices, beside their registers (chapter 17): the level of HANDOVER_OUT, the package
time at which the image loaded, the number of the last cut, the time (TB_EPOCH and TB_TIME) of the last cut taken or skipped
and of the last one taken, EPOCH and SNAP_US in force, the
regions latched at it; of the copy: its phase (0 idle, 1 cut, 2 copying), regions still to copy with the next offset, its
outstanding read, CRC state and words sent; of the receiving half: CRC state, words, the last word written in each region,
the commit marker (epoch, T_CUT, CRC, words), outstanding read-backs and whether one has failed; whether an epoch has been
committed, commits failed in a row, package times of the last heartbeat sent and received or missed; TIME_REQ outstanding per
link (SEQ, T1), the next SEQ, the time of the last exchange, and exchanges within 20 ns in a row. -/
structure Dup where
  hoOut : Bool
  loadAt : Option Nat
  epoch : Nat
  lastCut : Nat
  tCut : Nat
  per : Nat
  snap : Nat
  regions : List RackReg
  phase : Nat
  todo : List RackReg
  off : Nat
  rtag : Option Nat
  txCrc : Nat
  txWords : Nat
  rxCrc : Nat
  rxWords : Nat
  rxLast : SMap (Nat × TWord)
  mark : Option (Nat × Nat × Nat × Nat)
  backs : List (Nat × TWord)
  backBad : Bool
  committed : Bool
  fails : Nat
  hbSent : Nat
  hbSeen : Nat
  syncs : SMap (Nat × Nat)
  syncSeq : Nat
  syncAt : Nat
  inLock : Nat
deriving DecidableEq, Repr

/-- The fault manager beside its registers (chapter 18): waiting events of each source in order, the source served last,
what it keeps of each source, the fault log, oldest record first, the sequence number of the next record, and the Saette
links that a reaction has closed until the next reset (Table 18-1). -/
structure Fm where
  waiting : SMap (List FaultEv)
  rot : Nat
  srcs : SMap FmSrc
  log : List FaultRec
  seq : Nat
  shut : List Nat
deriving DecidableEq, Repr

/-- An outstanding read of an engine context: tag, kind (0 descriptor fetch, 1 source read, 2 claim, 3 read-back), epoch
copy at issue, first word's position in the descriptor, and length (R916). -/
structure CtxRead where
  tag : Nat
  kind : Nat
  epoch : Nat
  pos : Nat
  len : Nat
deriving DecidableEq, Repr

/-- An engine context beside its registers (chapter 16): the descriptor in progress, words asked for and words written, the
number of words it ends at if STOP_EOP has met its end, staged words (position, word, channel and frame it came from), outstanding
reads, unspent credits, read-backs still to issue, and when a read of the window was empty, which holds the next one. -/
structure Ctx where
  desc : List TWord
  asked : Nat
  moved : Nat
  total : Option Nat
  staged : List (Nat × TWord × Option (Nat × Nat))
  reads : List CtxRead
  grant : Nat
  backs : List Nat
  finishing : Bool
  empty : Option Nat
deriving DecidableEq, Repr

/-- The turns of an engine (R907): the party last served and the turns it has left, and the context last served of each party. -/
structure Engine where
  party : Nat
  left : Nat
  last : SMap Nat
deriving DecidableEq, Repr

/-- A landing buffer (R492, R910): claims waiting in order of arrival, and words set aside or held. -/
structure Landing where
  claims : List Txn
  used : Nat
deriving DecidableEq, Repr

/-- The package time base beside its registers (R727 to R730): the 40-bit rate accumulator, a step waiting for the next
tick (signed), the remaining slew (signed), ticks towards its next ns, a withheld ns that is due, and the sources whose
next record is the first after a step (R734). -/
structure TimeBase where
  acc : Nat
  step : Int
  slew : Int
  count : Nat
  due : Bool
  marks : List Nat
deriving DecidableEq, Repr

/-- The input filter of a pin (R739): the accepted level, for how many consecutive samples the pin has held the other one, and the
package time at which that change crossed the input threshold at the ball (R746), the position and gap of each encoder at that time
(R734), and whether the time base has stepped since (R758). -/
structure PinFilter where
  level : Bool
  run : Nat
  cross : Nat
  seen : List (Nat × Nat)
  old : Bool
deriving DecidableEq, Repr

/-- A queued event record (Table 13-1), with its SEQ. -/
structure EvRec where
  w0 : Nat
  w1 : Nat
  w2 : Nat
  w3 : Nat
  seq : Nat
deriving DecidableEq, Repr

/-- An event ring: queued records, and records dropped since the last one queued (R736, R737). -/
structure Ring where
  queue : List EvRec
  lost : Nat
deriving DecidableEq, Repr

/-- A converter tile: queued words with their sequence numbers, lanes of the word being filled, the phase of its period
(0 idle, 1 DAC, 2 released), conversions begun in the period, whether one is under way, the code that its DAC took at the
last tick since EN was set, and the code it last drove at its ball (R749 to R753, R766, R1006). -/
structure Tile where
  queue : List (Nat × TWord)
  lanes : List Nat
  phase : Nat
  begun : Nat
  busy : Bool
  code : Option Nat
  drove : Option Nat
deriving DecidableEq, Repr

/-- Line I/O beside its registers (chapter 13): the time base, the encoders that have counted an edge, the input filters (PD 0 to
15, GPIO 16 to 111, then A, B and Z of each encoder), product-detect inputs in holdoff, event rings, tiles, and for each GPIO register pair the pins that have driven from their output register and the levels they last drove
(R1006). -/
structure LineIo where
  tb : TimeBase
  counted : List Nat
  pins : SMap PinFilter
  hold : List Nat
  rings : SMap Ring
  tiles : SMap Tile
  gpioDrove : SMap Nat
  gpioLevel : SMap Nat
deriving DecidableEq, Repr

/-- The image security and debug fuses (Table 7-5, Table 14-11); 256-bit values as numbers, octet 0 highest. -/
structure Fuses where
  secureEn : Bool
  imageKey : Nat
  keyHash0 : Nat
  keyHash1 : Nat
  revoke0 : Bool
  debugClose : Bool
deriving DecidableEq, Repr

/-- What an image header says (Table 7-1). `mask` has bit 16 * (die - 1) + island. -/
structure ImgHdr where
  partialImg : Bool
  plain : Bool
  version : Nat
  count : Nat
  nonce : List Nat
  mask : Nat
  ebmLen : Nat
  len : Nat
  digest : Nat
deriving DecidableEq, Repr

/-- Where the records of an image have got to (R349): which island of its mask, what it expects next (0 its control
frame, 1 to 80 a configuration frame, 81 more), and whether the records after all islands have begun. -/
structure RecPos where
  cur : Nat
  phase : Nat
  tail : Bool
deriving DecidableEq, Repr

/-- A configuration load (R372 to R378): SOURCE (3 a host stream), the latched address, whether it is the load at
power-on, whether islands may be changed, its header, the next record and where the records have got to, bytes of a host
stream, slots still to be tried at power-on (R373), NV jobs ahead of it (R393), islands it has written to, and the cores
and islands' control words seen. -/
structure Load where
  src : Nat
  addr : Nat
  powerOn : Bool
  begun : Bool
  hdr : ImgHdr
  next : Nat
  pos : RecPos
  bytes : List Nat
  slots : List Nat
  after : Nat
  cores : List Nat
deriving DecidableEq, Repr

/-- A flash operation: erasing a 4 KiB sector, or programming a page, given as it is to read afterwards (R365). -/
inductive FlashOp where
  | erase (addr : Nat)
  | program (addr : Nat) (page : List Nat)
deriving DecidableEq, Repr

/-- NV work: flash operations left, the Caben packet (transport, tag) that awaits its end, whether that packet may be
answered (not once it has timed out), and whether a load requested earlier goes first (R393). -/
structure NvJob where
  ops : List FlashOp
  begun : Bool
  owner : Option (Nat × Nat)
  behind : Bool
deriving DecidableEq, Repr

/-- The read mode of the flash (R360). -/
inductive FlashMode where
  | s111 | s114 | s144 | s888
deriving DecidableEq, Repr

/-- A Sparge unit: the package time at which its pass began. -/
structure Spg where
  began : Nat
deriving DecidableEq, Repr

/-- Configuration and flash (chapter 7): configuration memory by configuration address, the map memory (bits per frame,
key die, island, frame), the source each island was last loaded from (key die, island), control words of islands being
loaded, the load in progress, islands waiting for the release of start-up, flash bytes (unlisted 0xFF), slots of the
directory (indices of Table 7-7, 5 golden firmware, 6 update firmware), whether an image is loaded, whether the flash was
found, its address width and read mode, and whether the directory is valid, the next journal record, the next NV page, erase counts, NV jobs and the operation in progress, frames to be
rewritten, Sparge units, fuses in force and as blown, the fused firmware key hash, the version of the loaded image, the
cores it loaded, fuse-map entries and soft repair entries in force. -/
structure Cfg where
  cmem : SMap Cell
  emap : SMap Nat
  origin : SMap Nat
  ctl : SMap (Nat × Nat)
  load : Option Load
  release : List (Nat × Nat)
  flash : SMap Nat
  slots : SMap (Nat × Nat)
  loaded : Bool
  found : Bool
  addr4 : Bool
  readMode : FlashMode
  dirOk : Bool
  jput : Nat
  nvPut : Nat
  erases : SMap Nat
  jobs : List NvJob
  active : Option FlashOp
  rewrites : List (Nat × Nat × Nat)
  spg : SMap Spg
  fuses : Fuses
  blown : Fuses
  fwKeyHash : Nat
  version : Nat
  cores : List Nat
  fuseMap : List Nat
  soft : List Nat
deriving DecidableEq, Repr

/-- Where a UDP reply goes (R783). -/
structure UdpPeer where
  mac : Nat
  vlan : Nat
  ip : Nat
  port : Nat
deriving DecidableEq, Repr

/-- An outstanding Caben packet (R819): transport (0 host SPI, 1 UDP, 2 Saette), tag, OPCODE, PARAMS, the UDP peer,
whether it has started, was cancelled, or is to get no reply; the package time of its acceptance; words issued or taken, read tags under way (tag, first word,
length), words got, and the first nonzero STATUS of its transactions. -/
structure CabPkt where
  tr : Nat
  tag : Nat
  op : Nat
  params : List Nat
  peer : Option UdpPeer
  started : Bool
  cancelled : Bool
  mute : Bool
  since : Nat
  next : Nat
  reads : List (Nat × Nat × Nat)
  got : List (Nat × TWord)
  status : Nat
deriving DecidableEq, Repr

/-- Caben beside its registers (chapter 14): outstanding packets in order of arrival, the host SPI reply queue, kept
replies of each transport (tag, packet), the FRAME_ERR bit, the MISO bytes of the last transfer, UDP and ARP replies sent,
replies to be sent on Saette channel 0, the UDP counters, and whether Caben is ready to receive. -/
structure Cab where
  pkts : List CabPkt
  replies : List (List Nat)
  kept : SMap (List (Nat × List Nat))
  frameErr : Bool
  miso : List Nat
  udpOut : List (UdpPeer × List Nat)
  arpOut : List (Nat × Nat × Nat × Nat)
  saOut : List (List Nat)
  txCtr : Nat
  rxCtr : Nat
  ready : Bool
deriving DecidableEq, Repr

/-- What a core waits for (R850, R851): nothing; the response of a read tag, for a register; room in the store queue for a
word; an empty store queue. -/
inductive CoreWait where
  | idle
  | resp (rtag rd : Nat)
  | room (addr : Nat) (w : TWord)
  | sync
deriving DecidableEq, Repr

/-- A sequencer core beside its registers (chapter 15): its store queue in program order, what it waits for, the package time
since which it has not executed, whether TCMP is armed, whether a halt takes effect at the next boundary and a fault reaction
caused it, a step under way,
whether its next instruction follows a step or a resume, the breakpoint matched by the instruction under way, and a reset
waiting for its accesses (with RUN to return to). -/
structure Core where
  sq : List (Nat × TWord)
  wait : CoreWait
  since : Nat
  armed : Bool
  haltReq : Bool
  haltFault : Bool
  stepping : Bool
  fresh : Bool
  bp : Option Nat
  resetReq : Option Bool
  timerAt : Nat
deriving DecidableEq, Repr

/-- The debug port (R869 to R876): its instruction, boundary register, DBG_ACCESS operation (captured DATA, TAG, STATUS, busy
read tag, overrun, whether its result is to be discarded), nonce and draws, failed responses, and whether MALT_DBG is
enabled; the part's fused unique identifier and the public key of the unlock token. -/
structure Debug where
  ir : Nat
  dr : Nat
  boundary : Nat
  data : Nat
  tag : Nat
  status : Nat
  busy : Option Nat
  drop : Bool
  overrun : Bool
  nonce : Nat
  draws : Nat
  fails : Nat
  unlocked : Bool
  uid : Nat
  key : Nat
deriving DecidableEq, Repr

/-- A coder instance beside its registers (R917): reads issued before its reset that are still to be answered (die, master,
tag), the package time of RESET, and whether RESET has been written again meanwhile (R924). -/
structure Inst where
  wait : List (Nat × Nat × Nat)
  began : Nat
  again : Bool
deriving DecidableEq, Repr

/-- Reset, power and thermal, beside their registers (chapter 19). Power-on reset asserted; the start-up phase that has ended
(Table 19-5: 2 hardware start, 3 boot ROM, 4 firmware start, 5 islands released, 6 line-ready; 8 and 9 in place of 2 and 3 when
the Maltster restarts in a device whose start-up had gone beyond phase 3); requests for a device reset (LAST_CAUSE) and for a
Maltster restart; a device reset in progress and whether it loads the image again; the package time of the last release; the
last kick of the watchdog, its expiries on the slot that runs, the update slot skipped, maltster-watchdog still to be raised;
the trip latch, an orderly shutdown, the time since which every die has stayed below 95 °C; of the voltage request the data
word last sent in VOUT_COMMAND, when it was sent, retries made, VOUT_MODE, and telemetry (READ_IOUT, READ_TEMPERATURE_1,
STATUS_WORD); the part and grade codes and the integration number fused, the version of the firmware that runs; the Caben reply
(transport, packet) that a reset waits for, since when (R816); the voltage that the islands want, since when (R1056); the commands
that the device last wrote to the PMBus (code, data), oldest first, at most 8 (R1054). -/
structure Rst where
  por : Bool
  phase : Nat
  devReq : Option Nat
  fwReq : Bool
  inReset : Bool
  reload : Bool
  since : Nat
  kickAt : Nat
  expiries : List Nat
  skip : Bool
  late : Bool
  trip : Bool
  shutdown : Bool
  coolAt : Option Nat
  vword : Nat
  sentAt : Nat
  tries : Nat
  vmode : Nat
  iout : Nat
  temp1 : Nat
  statusWord : Nat
  partCode : Nat
  gradeCode : Nat
  integ : Nat
  fwVersion : Nat
  hold : Option (Nat × List Nat × Nat)
  want : Nat × Nat
  bus : List (Nat × Nat)
deriving DecidableEq, Repr

/-- The faults that stop the machine: none. Every error the spec describes is answered, recorded and raised as an event
of the fault manager, after which the package goes on (safe: no command of this model ends in a fault). -/
inductive Fault where
deriving DecidableEq, Repr

/-- The reasons a command is refused. -/
inductive Refusal where
  /-- The command has no meaning in this model; raised only by an arm of `exec` (safe: the model stops). -/
  | notModelled (mnemonic : String)
deriving DecidableEq, Repr

/-- The state of the package. `regs` holds every register of RegMap, at its reset value where it is not listed; `freeCtr` is
the model's own counter of free values; `mem` holds the words of the protected memories; `wb` the write-back queues; `latch`
the halves of two-word values latched by a read (R85), by register key; `faultLine` events on their way to the fault manager.
Then, by chapter: islands, channels, event crossings and DIO cells; block memories and banks; the transport (transactions in
flight, outstanding requests, responses in flight, and per ring stop the words of a partly received transaction, the
transactions waiting to be issued and the response words to go out), the Maltster's mailbox, lost die pairs; reaction shadows;
Ixgal ports and end-to-end credits in flight; DRAM channels; lanes, MACs and their fused latencies; Saette links, their transmit coding, channels,
forwarding stages, keys, the gateway; the head-cable link (0 none, 1 A, 2 B) that a head end follows and the one it is
switching to, and the package time at which it lost the link it follows (R42); engine contexts, engines, landing buffers and
claims being answered; line I/O and the origin of words read from receive windows; configuration, Caben, sequencer cores, the
debug port, coder instances, duplex racking, the fault manager, and resets and power. `pending` is the queue of commands
waiting, first in, first out. -/
structure State where
  regs : SMap Word
  freeCtr : Nat
  mem : SMap Cell
  wb : SMap (List WbEnt)
  latch : SMap Word
  faultLine : List FaultEv
  isl : SMap Isl
  chans : SMap Chan
  evts : SMap Evt
  dio : SMap Dio
  bms : SMap Bm
  banks : SMap Bank
  inFlight : List Txn
  outst : List Outst
  resps : List Resp
  stopPart : SMap (List TWord)
  stopWait : SMap (List (Txn × Bool))
  stopOut : SMap (List TWord)
  mailbox : List Resp
  lostPairs : List (Nat × Nat)
  net : Net
  shadows : List Shadow
  ix : SMap IxPort
  credits : List (Txn × Nat)
  drams : SMap Dram
  lanes : SMap Lane
  macs : SMap Mac
  macLatFuse : SMap Nat
  links : SMap Sl
  pcs : SMap Pcs
  scs : SMap Sc
  fwds : SMap Fwd
  sks : SMap Nat
  gw : Gw
  follow : Nat
  switchTo : Nat
  headLost : Option Nat
  ctxs : SMap Ctx
  engines : SMap Engine
  lands : SMap Landing
  landing : List (Txn × List (Option (Nat × Nat)))
  lio : LineIo
  rxProv : List ((Nat × Nat × Nat) × List (Option (Nat × Nat)))
  cfg : Cfg
  cab : Cab
  cores : SMap Core
  dbg : Debug
  insts : SMap Inst
  dup : Dup
  fm : Fm
  rst : Rst
  pending : List Instr
deriving DecidableEq, Repr

/-! ## Reset -/

/-- An empty transport (R517). -/
def Net.init : Net := ⟨[], 0, [], []⟩

/-- An idle gateway. -/
def Gw.init : Gw := ⟨[], [], [], [], [], []⟩

/-- Racking right after reset (R985). -/
def Dup.init : Dup :=
  ⟨false, none, 0, 0, 0, 0, 0, [], 0, [], 0, none, 0xFFFFFFFF, 0, 0xFFFFFFFF, 0, [], none, [], false, false, 0, 0, 0, [], 0, 0, 0⟩

/-- The fault manager right after power-on reset (R1028). -/
def Fm.init : Fm := ⟨[], 0, [], [], 0, []⟩

/-- The time base as it starts (R770). -/
def TimeBase.init : TimeBase := ⟨0, 0, 0, 0, false, []⟩

/-- Line I/O right after reset (R771). -/
def LineIo.init : LineIo := ⟨TimeBase.init, [], [], [], [], [], [], []⟩

/-- A part with no fuse of Table 7-5 blown. -/
def Fuses.none : Fuses := ⟨false, 0, 0, 0, false, false⟩

/-- Configuration right after power-on reset (R405): memories cleared, flash not yet discovered. -/
def Cfg.init : Cfg :=
  ⟨[], [], [], [], .none, [], [], [], false, false, false, .s111, false, 0, 0, [], [], .none, [], [], Fuses.none, Fuses.none, 0, 0, [], [], []⟩

/-- Caben right after reset (R837). -/
def Cab.init : Cab := ⟨[], [], [], false, [], [], [], [], 0, 0, false⟩

/-- The debug port after a TAP reset: IDCODE is selected (R870). -/
def Debug.init : Debug := ⟨0x01, 0, 0, 0, 0, 0, .none, false, false, 0, 0, 0, false, 0, 0⟩

/-- Resets and power once the power-on reset is released and hardware start has ended, on an AQZ-40-10 (log 5). -/
def Rst.init : Rst :=
  ⟨false, 2, .none, false, false, true, 0, 0, [], false, false, false, false, .none, 0, 0, 0, 0, 0, 0, 0, 0x28, 0xA, 0, 0, .none, (0, 0), []⟩

/-- The package right after power-on reset: the reset is released, hardware start has ended, and the boot ROM is about to run
(R1038, R1051). Straps read 0, as when left open (R1044); every bank is at 3.3 V; the part is an AQZ-40-10 whose flash and
fuses are blank (log 5). -/
def State.reset : State where
  regs := []
  freeCtr := 0
  mem := []
  wb := []
  latch := []
  faultLine := []
  isl := []
  chans := []
  evts := []
  dio := []
  bms := []
  banks := []
  inFlight := []
  outst := []
  resps := []
  stopPart := []
  stopWait := []
  stopOut := []
  mailbox := []
  lostPairs := []
  net := Net.init
  shadows := []
  ix := []
  credits := []
  drams := []
  lanes := []
  macs := []
  macLatFuse := []
  links := []
  pcs := []
  scs := []
  fwds := []
  sks := []
  gw := Gw.init
  follow := 0
  switchTo := 0
  headLost := .none
  ctxs := []
  engines := []
  lands := []
  landing := []
  lio := LineIo.init
  rxProv := []
  cfg := Cfg.init
  cab := Cab.init
  cores := []
  dbg := Debug.init
  insts := []
  dup := Dup.init
  fm := Fm.init
  rst := Rst.init
  pending := []

/-- What a command answers. -/
abbrev Out := Host.Outcome State Fault Refusal

end Sys2Proof.Machine
end

