-- ==== Sys2Proof/Machine/Ops.lean ====
section
/-!
DEFINITION. The shared operations: registers and their fields, counters, free values, fault events, protected memory,
and the issue of transactions.
-/
namespace Sys2Proof.Machine

/-- The bits of a list of Booleans, the first lowest. -/
def bitsOf (l : List Bool) : Nat := match l with | [] => 0 | b :: t => b2n b + 2 * bitsOf t

/-! ## Registers -/

/-- A register: its name, the die and its two indices. -/
structure Reg where
  name : RegName
  die : Nat
  i : Nat
  j : Nat
deriving DecidableEq, Repr

/-- The register file's key of a register. -/
def Reg.key (r : Reg) : Nat := key4 r.name.ctorIdx r.die r.i r.j

/-- The reset value of a register: its fields' reset values in place (R99). -/
def resetWord (n : RegName) (i : Nat) : Word :=
  (regDesc n i).fields.foldl (fun w f => w ||| BitVec.ofNat 48 (f.reset * 2 ^ f.fld.lo)) 0#48

/-- The word a register holds. -/
def State.reg (s : State) (r : Reg) : Word := mget s.regs r.key (resetWord r.name r.i)

/-- The state with a register holding `w`. -/
def State.setReg (s : State) (r : Reg) (w : Word) : State :=
  { s with regs := mset s.regs r.key w (resetWord r.name r.i) }

/-- A field's value in a word. -/
def Fld.get (f : Fld) (w : Word) : Nat := bits w.toNat f.hi f.lo

/-- A word with a field replaced by the low bits of `v`. -/
def Fld.put (f : Fld) (w : Word) (v : Nat) : Word :=
  BitVec.ofNat 48 (w.toNat / 2 ^ (f.hi + 1) * 2 ^ (f.hi + 1) + v % 2 ^ f.width * 2 ^ f.lo + w.toNat % 2 ^ f.lo)

/-- The value of a field of the register with indices `die i j`. -/
def State.rf (s : State) (f : Fld) (die : Nat) (i : Nat := 0) (j : Nat := 0) : Nat := f.get (s.reg ⟨f.reg, die, i, j⟩)

/-- The state with that field replaced. -/
def State.wf (s : State) (f : Fld) (v : Nat) (die : Nat) (i : Nat := 0) (j : Nat := 0) : State :=
  s.setReg ⟨f.reg, die, i, j⟩ (f.put (s.reg ⟨f.reg, die, i, j⟩) v)

/-- A one-bit field as a Boolean. -/
def State.rb (s : State) (f : Fld) (die : Nat) (i : Nat := 0) (j : Nat := 0) : Bool := s.rf f die i j == 1

/-- The whole register as a number. -/
def State.rw (s : State) (n : RegName) (die : Nat) (i : Nat := 0) (j : Nat := 0) : Nat := (s.reg ⟨n, die, i, j⟩).toNat

/-- The whole register replaced. -/
def State.ww (s : State) (n : RegName) (v : Nat) (die : Nat) (i : Nat := 0) (j : Nat := 0) : State :=
  s.setReg ⟨n, die, i, j⟩ (BitVec.ofNat 48 v)

/-- A class E count `v + n` in a field of width `w`: the stored count and whether OVF is set (R82, R93). -/
def satAdd (w v n : Nat) : Nat × Bool := if v + n < 2 ^ w then (v + n, false) else (2 ^ w - 1, true)

/-- A class E counter advanced by `n`; OVF is bit 47 of the same register (R82). -/
def State.incE (s : State) (f : Fld) (die : Nat) (i : Nat := 0) (j : Nat := 0) (n : Nat := 1) : State :=
  let r := satAdd f.width (s.rf f die i j) n
  let s := s.wf f r.1 die i j
  if r.2 then s.wf ⟨f.reg, 47, 47⟩ 1 die i j else s

/-! ## Writes under the access codes -/

/-- One field of a register after a software write of `w` (Table 0-5). -/
def writeField (fd : FieldDesc) (old : Word) (w : Nat) : Nat :=
  let o := fd.fld.get old
  let v := bits w fd.fld.hi fd.fld.lo
  match fd.acc with
  | .rw => v
  | .cntE => v
  | .w1c => o - (o &&& v)
  | .w1s => o ||| v
  | _ => o

/-- The bits a hardware action acts on. -/
def HwAct.range : HwAct → Nat × Nat
  | .set h l => (h, l) | .clear h l => (h, l) | .update h l _ => (h, l) | .count h l _ => (h, l)

/-- The bits of a field, counted from its lowest, that lie in bits `h` to `l` of the register. -/
def Fld.within (f : Fld) (h l : Nat) : Nat :=
  let hi := min h f.hi
  let lo := max l f.lo
  if lo ≤ hi then (2 ^ (hi + 1) - 2 ^ lo) / 2 ^ f.lo else 0

/-- A field's value `v` after a hardware action of the owner cycle in which software wrote `w` (R91, Table 2-11). The action
may cover a part of the field only: one bit of a vector of flags is then set or cleared, and the others are as written. A count
covers a whole field. -/
def writeFieldHw (fd : FieldDesc) (w v : Nat) (a : HwAct) : Nat :=
  let m := fd.fld.within (HwAct.range a).1 (HwAct.range a).2
  match a with
  | .set .. => v ||| m
  | .clear .. => if fd.acc = .w1s then (v - (v &&& m)) ||| (bits w fd.fld.hi fd.fld.lo &&& m) else v - (v &&& m)
  | .update _ l x => (v - (v &&& m)) ||| (x * 2 ^ l / 2 ^ fd.fld.lo &&& m)
  | .count h l n =>
    if (h, l) = (fd.fld.hi, fd.fld.lo) then
      (if fd.acc = .cntE then (satAdd fd.fld.width v n).1 else (v + n) % 2 ^ fd.fld.width)
    else v

/-- Whether a same-cycle count overflows its class E field (R93). -/
def hwOverflow (fd : FieldDesc) (v : Nat) (a : HwAct) : Bool :=
  match a with
  | .count h l n => fd.acc = .cntE && (h, l) == (fd.fld.hi, fd.fld.lo) && (satAdd fd.fld.width v n).2
  | _ => false

/-- A register's word after a software write, field by field, each followed by the hardware actions of the same cycle that
meet it (R76, R91). -/
def storeFields (fds : List FieldDesc) (acts : List HwAct) (old : Word) (w : Nat) : Word :=
  fds.foldl (fun x fd =>
    let v := writeField fd old w
    let x := fd.fld.put x (acts.foldl (writeFieldHw fd w) v)
    if acts.any (hwOverflow fd v) then x ||| BitVec.ofNat 48 (2 ^ 47) else x) old

/-- The word that a write stores in the RW fields of a register when hardware sets, clears or updates some of their bits in the
same cycle: those bits take the hardware's value (R91, Table 2-11). -/
def effWord (fds : List FieldDesc) (acts : List HwAct) (w : Nat) : Nat :=
  fds.foldl (fun (x : Nat) fd =>
    if fd.acc = .rw then
      (acts.foldl (fun v a => match a with | .count .. => v | _ => writeFieldHw fd w v a) (bits x fd.fld.hi fd.fld.lo) * 2 ^ fd.fld.lo)
        + (x - bits x fd.fld.hi fd.fld.lo * 2 ^ fd.fld.lo)
    else x) w

/-- Whether the hardware clears the bit `k` of a register in the owner cycle of the write (Table 2-11). -/
def clears (acts : List HwAct) (k : Nat) : Bool := acts.any fun a => match a with | .clear h l => l ≤ k && k ≤ h | _ => false

/-- The bits of W1S fields that hardware clears in the owner cycle of a write that does not write them 1 are cleared
(R92, Table 2-11). -/
def State.w1sCleared (s : State) (r : Reg) (acts : List HwAct) (w : Nat) : State :=
  (regDesc r.name r.i).fields.foldl (fun (s : State) fd =>
    if fd.acc = .w1s then
      let m := acts.foldl (fun m a => match a with | .clear h l => m ||| fd.fld.within h l | _ => m) 0
      let v := fd.fld.get (s.reg r)
      let gone := v &&& (m - (m &&& bits w fd.fld.hi fd.fld.lo))
      if gone = 0 then s else s.setReg r (fd.fld.put (s.reg r) (v - gone))
    else s) s

/-- A software write to a register with no behaviour of its own (R76, R91). -/
def State.plainWrite (s : State) (r : Reg) (w : Nat) (acts : List HwAct := []) : State :=
  s.setReg r (storeFields (regDesc r.name r.i).fields acts (s.reg r) w)

/-! ## Free values -/

/-- A fresh free value, for a result that the spec leaves open. -/
def State.free (s : State) : Nat × State :=
  ((Config.freeValue s.freeCtr).toNat, { s with freeCtr := s.freeCtr + 1 })

/-- A fresh free tagged word. -/
def State.freeWord (s : State) : TWord × State :=
  let a := s.free
  let b := a.2.free
  (⟨BitVec.ofNat 48 a.1, BitVec.ofNat 2 b.1⟩, b.2)

/-- A fresh free choice, for an outcome that the spec leaves to the device. -/
def State.choice (s : State) : Bool × State := (Config.freeChoice s.freeCtr, { s with freeCtr := s.freeCtr + 1 })

/-! ## Fault events -/

/-- A detector's event, with nothing but its unit and its recording register (R989). -/
def faultEv (src : FaultSrc) (die unit detail : Nat) : FaultEv :=
  ⟨src, die, unit, detail, false, 0, 0, none, [], false⟩

/-- A detector raises an event: it travels to the fault manager (R989). -/
def State.raiseEv (s : State) (e : FaultEv) : State := { s with faultLine := s.faultLine ++ [e] }

/-- A detector raises an event of `src` for a unit, with its recording register's value. -/
def State.raise (s : State) (src : FaultSrc) (die unit : Nat) (detail : Nat := 0) : State :=
  s.raiseEv (faultEv src die unit detail)

/-- A register access that is refused or unmapped is recorded in REG_ERR while VALID is 0 and counted after; a refused
one raises register-write-refused (R95 to R98, R103). CAUSE 0 tag 0b10, 1 tag 0b11, 2 narrow, 3 unmapped. -/
def State.regRefuse (s : State) (die cause : Nat) (isWrite : Bool) (loc : Nat) : State :=
  let s := if s.rb F.REG_ERR_VALID die then s.incE F.REG_ERR_CNT_COUNT die
    else s.ww .REG_ERR (2 ^ 47 + cause * 2 ^ 45 + b2n isWrite * 2 ^ 36 + loc) die
  if cause = 3 then s else s.raise .registerWriteRefused die 0 (s.rw .REG_ERR die)

/-! ## Device -/

/-- The device's own number (R65). -/
def State.devNum (s : State) : Nat := s.rf F.DEV_NUM_DEVNUM_HIGH 0 * 16 + s.rf F.DEV_ROLE_DEVNUM_STRAP 0

/-- PART_CODE (Table 0-3). -/
def State.part (s : State) : Nat := s.rf F.DEV_ROLE_PART_CODE 0

/-- Whether the part is an AQZ-20. -/
def State.is20 (s : State) : Bool := s.part == 0x14

/-- Whether the part is an AQZ-40X. -/
def State.is40X (s : State) : Bool := s.part == 0x29

/-- Whether the part has the die (R1, R16). -/
def State.hasDie (s : State) (d : Nat) : Bool :=
  d ≤ 2 || (d ≤ 4 && !s.is20) || (d == 5 && s.is40X)

/-- The fabric dies of the part. -/
def State.fabDies (s : State) : List Nat := if s.is20 then [1, 2] else [1, 2, 3, 4]

/-- The grade limit code (Table 3-1). -/
def State.gradeLimit (s : State) : Nat := if s.rf F.DEV_ROLE_GRADE_CODE 0 == 0xA then 160 else 120

/-- Package time, TB_TIME (R726). -/
def State.now (s : State) : Nat := s.rw .TB_TIME 0

/-- Whether every island and core clock is gated: in a reset of the device or an orderly shutdown (R1039, R1061). -/
def State.gated (s : State) : Bool := s.rst.por || s.rst.inReset || s.rst.shutdown

/-- The device number of a global address (R64). -/
def addrDev (a : Nat) : Nat := bits a 47 39
/-- The die index of a global address (R64). -/
def addrDie (a : Nat) : Nat := bits a 38 36
/-- The local word address of a global address (R64). -/
def addrLocal (a : Nat) : Nat := bits a 35 0

/-- The global address of a local address of this device (R64). -/
def State.glob (s : State) (die loc : Nat) : Nat := s.devNum * 2 ^ 39 + die * 2 ^ 36 + loc

/-! ## The check code -/

/-- Columns of data bits 0 to 47 and tag bits 0 and 1: the values of weight 3, ascending (Table 6-2). -/
def wordCols : List Nat :=
  [0x07, 0x0B, 0x0D, 0x0E, 0x13, 0x15, 0x16, 0x19, 0x1A, 0x1C, 0x23, 0x25, 0x26, 0x29, 0x2A, 0x2C, 0x31, 0x32, 0x34, 0x38,
   0x43, 0x45, 0x46, 0x49, 0x4A, 0x4C, 0x51, 0x52, 0x54, 0x58, 0x61, 0x62, 0x64, 0x68, 0x70, 0x83, 0x85, 0x86, 0x89, 0x8A,
   0x8C, 0x91, 0x92, 0x94, 0x98, 0xA1, 0xA2, 0xA4, 0xA8, 0xB0]

/-- The number of 1 bits of an 8-bit value. -/
def popcount8 (v : Nat) : Nat :=
  v % 2 + v / 2 % 2 + v / 4 % 2 + v / 8 % 2 + v / 16 % 2 + v / 32 % 2 + v / 64 % 2 + v / 128 % 2

/-- Columns of protected address bits 0 to 35 (Table 6-2). -/
def addrCols : List Nat :=
  (List.range 36).map fun a => (0x40 ||| a) + 128 * (popcount8 (0x40 ||| a) % 2)

/-- The XOR of the columns whose bit of `w` is 1, lowest first. -/
def xorCols (cols : List Nat) (w : Nat) : Nat :=
  match cols with
  | [] => 0
  | c :: cs => (if w % 2 = 1 then c else 0) ^^^ xorCols cs (w / 2)

/-- The check bits of a word at a protected address (R295). -/
def checkOf (w : TWord) (pa : Nat) : Nat :=
  xorCols wordCols (w.data.toNat + w.tag.toNat * 2 ^ 48) ^^^ xorCols addrCols pa

/-- What a read decodes (Table 6-3). -/
inductive Dec where
  | good (w : TWord)
  | corrected (w : TWord) (syn : Nat)
  | uncorrectable (syn : Nat)
deriving DecidableEq, Repr

/-- The position of a value in a list, if it is there. -/
def indexOf? (l : List Nat) (v : Nat) : Option Nat :=
  match l with
  | [] => none
  | a :: t => if a = v then some 0 else (indexOf? t v).map (· + 1)

/-- A word with one of its 50 data and tag bits inverted. -/
def flipBit (w : TWord) (k : Nat) : TWord :=
  let x := (w.data.toNat + w.tag.toNat * 2 ^ 48) ^^^ 2 ^ k
  ⟨BitVec.ofNat 48 x, BitVec.ofNat 2 (x / 2 ^ 48)⟩

/-- The decoding of a stored cell read for protected address `pa` (R296, Table 6-3). -/
def decodeCell (c : Cell) (pa : Nat) : Dec :=
  let syn := (c.check ^^^ checkOf c.word pa) % 256
  if syn = 0 then .good c.word
  else if popcount8 syn % 2 = 0 then .uncorrectable syn
  else match indexOf? wordCols syn with
    | some k => .corrected (flipBit c.word k) syn
    | none => if popcount8 syn = 1 then .corrected c.word syn else .uncorrectable syn

/-! ## Protected memories -/

/-- The arrays of Table 6-1. -/
inductive Arr where
  | bm (isl m : Nat)
  | sp (bank : Nat)
  | imem (core : Nat)
  | dmem (core : Nat)
  | iosp (bank : Nat)
  | sbuf (k : Nat)
  | dram (ch : Nat)
deriving DecidableEq, Repr

/-- The array that holds a protected address of a die (Table 6-1). -/
def arrOf (die pa : Nat) : Arr :=
  if die = 0 then
    if pa < 0x20000 then .iosp (pa / 0x8000)
    else if pa < 0x100000000 then .sbuf ((pa - 0x0E000000) / 0x8000)
    else .dram (pa / 0x100000000 - 1)
  else if pa < 0x80000 then .sp (pa / 0x8000)
  else if pa < 0x0E000000 then .bm ((pa - 0x01000000) / 0x8000) ((pa - 0x01000000) % 0x8000 / 0x400)
  else if (pa - 0x0E000000) % 0x4000 < 0x2000 then .imem ((pa - 0x0E000000) / 0x4000)
  else .dmem ((pa - 0x0E000000) / 0x4000)

/-- The index of an array's protection group among its die's groups (Table 6-9). -/
def Arr.group : Arr → Nat
  | .bm .. => 0 | .sp _ => 1 | .imem _ => 2 | .dmem _ => 2 | .iosp _ => 0 | .sbuf _ => 1 | .dram c => 2 + c

/-- The number of an array within its group: SEL of Table 6-12, and the UNIT of its fault events (Table 18-1). Table 6-12 gives SEL
no meaning for a macro of the stream buffer or a DRAM channel: there the macro's number and 0 are taken (DESIGN CHOICE, log 33). -/
def Arr.unit : Arr → Nat
  | .bm i m => i * 24 + m | .sp b => b | .imem c => c | .dmem c => c | .iosp b => b | .sbuf m => m | .dram _ => 0

/-- TARGET of PROT_FLIP_CTL that selects the array (Table 6-12). -/
def Arr.target : Arr → Nat
  | .bm .. => 0 | .sp _ => 1 | .imem _ => 2 | .dmem _ => 3 | .iosp _ => 4 | .sbuf _ => 5 | .dram c => 6 + c

/-- Entries of an array's write-back queue (R305; a DRAM channel has 8, R529). -/
def Arr.wbCap : Arr → Nat
  | .bm .. => 1 | .sp _ => 4 | .iosp _ => 4 | .imem _ => 2 | .dmem _ => 2 | .sbuf _ => 2 | .dram _ => 8

/-- The key of an array's write-back queue: the macros of the stream buffer memory, which is one memory (R680, Table 6-1), share
one. -/
def Arr.key (a : Arr) (die : Nat) : Nat := key3 die a.target (match a with | .sbuf _ => 0 | _ => a.unit)

/-- The group's memory-correctable source (Table 18-2). -/
def Arr.ceSrc : Arr → FaultSrc
  | .bm .. => .bmCorrectable | .sp _ => .spCorrectable | .imem _ => .seqCorrectable | .dmem _ => .seqCorrectable
  | .iosp _ => .iospCorrectable | .sbuf _ => .sbufCorrectable
  | .dram c => if c = 0 then .dram0Correctable else .dram1Correctable

/-- The group's memory-uncorrectable source (Table 18-2). -/
def Arr.ueSrc : Arr → FaultSrc
  | .bm .. => .bmUncorrectable | .sp _ => .spUncorrectable | .imem _ => .seqUncorrectable | .dmem _ => .seqUncorrectable
  | .iosp _ => .iospUncorrectable | .sbuf _ => .sbufUncorrectable
  | .dram c => if c = 0 then .dram0Uncorrectable else .dram1Uncorrectable

/-- The key of a word in the package's memory. -/
def memKey (die pa : Nat) : Nat := die * 2 ^ 36 + pa

/-- What a word reads as that nothing has written: data 0, tag 0b10 and good check bits (R101). -/
def initCell (pa : Nat) : Cell := ⟨noWord, checkOf noWord pa⟩

/-- The stored cell of a word. -/
def State.cell (s : State) (die pa : Nat) : Cell := mget s.mem (memKey die pa) (initCell pa)

/-- The state with a stored cell replaced. -/
def State.setCell (s : State) (die pa : Nat) (c : Cell) : State :=
  { s with mem := mset s.mem (memKey die pa) c (initCell pa) }

/-- A word stored with fresh check bits (R295). -/
def State.putWord (s : State) (die pa : Nat) (w : TWord) : State := s.setCell die pa ⟨w, checkOf w pa⟩

/-- The queued write-backs of an array. -/
def State.wbq (s : State) (die : Nat) (a : Arr) : List WbEnt := mget s.wb (a.key die) []

/-- The state with an array's write-back queue replaced. -/
def State.setWbq (s : State) (die : Nat) (a : Arr) (q : List WbEnt) : State :=
  { s with wb := mset s.wb (a.key die) q [] }

/-- SOURCE of PROT_ERR_LAST (Table 6-10). -/
inductive ReadSrc where
  | read | merge | patrol | atomic
deriving DecidableEq, Repr

/-- A detection: counted, recorded while VALID is 0, and raised (R328, R335, R336). -/
def State.detect (s : State) (die pa : Nat) (src : ReadSrc) (unc : Bool) (syn : Nat) : State :=
  let a := arrOf die pa
  let g := a.group
  let s := s.incE (if unc then F.PROT_UE_CNT_COUNT else F.PROT_CE_CNT_COUNT) die g
  let s := if s.rb F.PROT_ERR_LAST_VALID die g then s else
    s.ww .PROT_ERR_LAST (2 ^ 47 + b2n unc * 2 ^ 46 + src.ctorIdx * 2 ^ 44 + syn * 2 ^ 36 + pa) die g
  s.raise (if unc then a.ueSrc else a.ceSrc) die a.unit (s.rw .PROT_ERR_LAST die g)

/-- A corrected word joins its array's write-back queue, or is skipped (R302, R305, R322). A read that finds its own word in a full
queue meets both cases of R305: it is taken as finding its word, so nothing is counted as skipped (DESIGN CHOICE, log 170). -/
def State.queueWb (s : State) (die pa : Nat) (w : TWord) : State :=
  let a := arrOf die pa
  let q := s.wbq die a
  if q.any (fun e => e.pa == pa) then s
  else if q.length < a.wbCap then s.setWbq die a (q ++ [⟨pa, w, false⟩])
  else s.incE F.PROT_WB_SKIP_CNT_COUNT die a.group

/-- A read of a protected word: the decoded word, whether it was uncorrectable, and the state after its detection;
`wb` asks for a write-back of a corrected word (R296, R302, R304, R240). -/
def State.readWord (s : State) (die pa : Nat) (src : ReadSrc) (wb : Bool) : TWord × Bool × State :=
  match decodeCell (s.cell die pa) pa with
  | .good w => (w, false, s)
  | .corrected w syn =>
    let s := s.detect die pa src false syn
    (w, false, if wb then s.queueWb die pa w else s)
  | .uncorrectable syn => (noWord, true, s.detect die pa src true syn)

/-- Whether the flip mask of a die is armed for an array (R317, Table 6-12). -/
def State.flipArmed (s : State) (die : Nat) (a : Arr) : Bool :=
  s.rb F.PROT_FLIP_CTL_ARM die && s.rf F.PROT_FLIP_CTL_TARGET die == a.target
    && (!s.rb F.PROT_FLIP_CTL_SEL_EN die || s.rf F.PROT_FLIP_CTL_SEL die == a.unit)

/-- A write by a master or by user logic: the flip mask applies if armed, and a queued write-back of the word is
cancelled (R295, R303, R317). -/
def State.storeWord (s : State) (die pa : Nat) (w : TWord) : State :=
  let a := arrOf die pa
  let q := s.wbq die a
  let s := if q.any (fun e => e.pa == pa) then s.setWbq die a (q.filter fun e => e.pa != pa) else s
  if s.flipArmed die a then
    let chk := checkOf w (pa ^^^ s.rf F.PROT_FLIP_CTL_ADDR_FLIP die) ^^^ s.rf F.PROT_FLIP_CTL_MASK_CHECK die
    let w' : TWord := ⟨w.data ^^^ s.reg ⟨.PROT_FLIP_DATA, die, 0, 0⟩, w.tag ^^^ BitVec.ofNat 2 (s.rf F.PROT_FLIP_CTL_MASK_TAG die)⟩
    (s.setCell die pa ⟨w', chk⟩).wf F.PROT_FLIP_CTL_ARM 0 die
  else s.putWord die pa w

/-- A lane of a word (R60). -/
def laneGet (w : Word) (lw lane : Nat) : Nat := w.toNat / 2 ^ (lw * lane) % 2 ^ lw

/-- A word with a lane replaced (R60). -/
def lanePut (w : Word) (lw lane v : Nat) : Word :=
  BitVec.ofNat 48 (w.toNat / 2 ^ (lw * lane + lw) * 2 ^ (lw * lane + lw) + v % 2 ^ lw * 2 ^ (lw * lane) + w.toNat % 2 ^ (lw * lane))

/-- The word a narrow write stores: its lane, and its tag unless the stored tag is 0b11 (R58). -/
def mergeLane (old : TWord) (lw lane : Nat) (new : TWord) : TWord :=
  ⟨lanePut old.data lw lane new.data.toNat, if old.tag = tagRetracted then tagRetracted else new.tag⟩

/-- A narrow write of a protected word: read, merge, write; not performed where the read is uncorrectable (R306, R308). -/
def State.narrowWord (s : State) (die pa lw lane : Nat) (w : TWord) : State :=
  let r := s.readWord die pa .merge false
  if r.2.1 then r.2.2 else r.2.2.storeWord die pa (mergeLane r.1 lw lane w)

/-- An atomic ADD on a stored word: the word after, or none where it is refused (Table 5-4). -/
def addWord (old opd : TWord) : Option TWord :=
  if opd.tag = tagInvalid || opd.tag = tagRetracted || old.tag = tagRetracted then none
  else if old.tag = tagInvalid then some ⟨opd.data, tagData⟩
  else some ⟨old.data + opd.data, tagData⟩

/-- An atomic at a scratchpad bank: the response word and the state (R254, R255, R325). -/
def State.atomicWord (s : State) (die pa : Nat) (swap : Bool) (opd : TWord) : TWord × State :=
  let r := s.readWord die pa .atomic false
  let s := r.2.2
  if swap then (r.1, s.storeWord die pa opd)
  else match (if r.2.1 then none else addWord r.1 opd) with
    | some w => (r.1, s.storeWord die pa w)
    | none => (r.1, s.incE F.SP_ATOM_REFUSE_CNT_COUNT die)

/-! ## Transactions -/

/-- Whether a master holds a read tag (R481). -/
def State.tagHeld (s : State) (die m tag : Nat) : Bool :=
  s.outst.any fun o => o.txn.srcDie == die && o.txn.master == m && o.txn.rtag == tag

/-- The lowest free read tag of a master, if it has one (R481). -/
def State.freeTag (s : State) (die m : Nat) : Option Nat := (List.range 64).find? fun t => !s.tagHeld die m t

/-- What is handed to the transport waits for the element of its source (R476). -/
def Net.enter (x : Net) (l : Freight) : Net := { x with pkts := x.pkts ++ [⟨l, 0, none, 0⟩] }

/-- A transaction handed to the transport. -/
def State.inject (s : State) (t : Txn) : State := { s with inFlight := s.inFlight ++ [t], net := s.net.enter (.req t) }

/-- Whether the last flit of a transaction or response has arrived. -/
def Pkt.arrived (p : Pkt) (n : Nat) : Bool :=
  match p.way with
  | none => false
  | some w => w.all fun h => decide (n ≤ h.got)

/-- How many words follow the command word and the address of a transaction on an island's port (Table 8-9, R478). -/
def dataWords (op : TxnOp) (len : Nat) : Nat :=
  match op with
  | .read => 0 | .write => len | .narrowWrite => 1 | .add => 1 | .swap => 1

/-- The flits that a transaction or response takes (Table 8-9). -/
def Freight.flits (l : Freight) : Nat :=
  match l with
  | .req t => match t.op with | .read => 1 | .write => 1 + (t.len + 1) / 2 | _ => 2
  | .resp r => if r.atomic then 1 else (r.words.length + 2) / 2

/-- Whether a transaction or response has not yet reached the end of its way. -/
def Net.underWay (x : Net) (l : Freight) : Bool :=
  let ps := x.pkts.filter fun p => p.load == l
  ps != [] && !(ps.any fun p => p.arrived l.flits)

/-- A transaction or response that has arrived leaves the transport. -/
def Net.leave (x : Net) (l : Freight) : Net := { x with pkts := x.pkts.eraseP fun p => p.load == l && p.arrived l.flits }

/-- A posted write handed to the transport (R481, R487). -/
def State.post (s : State) (die m addr : Nat) (words : List TWord) : State :=
  s.inject ⟨.write, die, m, 0, addr, words.length, 48, 0, words, .posted, 0⟩

/-- A request handed to the transport under a free tag; none where the master has no free tag (R481). -/
def State.request (s : State) (op : TxnOp) (die m sub addr len : Nat) (words : List TWord) : Option (Nat × State) :=
  (s.freeTag die m).map fun tag =>
    let t : Txn := ⟨op, die, m, tag, addr, len, 48, 0, words, .requests, sub⟩
    (tag, { s.inject t with outst := s.outst ++ [⟨t, false, false⟩] })

/-- A response leaves its endpoint (R493, R498). -/
def State.respond (s : State) (t : Txn) (status : Nat) (words : List TWord) : State :=
  let r : Resp := ⟨t.op == .add || t.op == .swap, t.srcDie, t.master, t.rtag, status, words⟩
  { s with resps := s.resps ++ [r], net := s.net.enter (.resp r) }

/-- Whether a transaction is a request (READ, ADD or SWAP). -/
def isReq (t : Txn) : Bool := match t.op with | .read => true | .add => true | .swap => true | _ => false

/-- Time in ns since a package time. -/
def State.ago (s : State) (t : Nat) : Nat := (s.now + 2 ^ 48 - t) % 2 ^ 48

end Sys2Proof.Machine
end

