-- ==== Sys2Proof/Machine/Reject.lean ====
section
/-!
DEFINITION. Transactions that are not performed: their outcomes, counts and records (R500 to R502, R514, R515, R521).
-/
namespace Sys2Proof.Machine

/-- The number of a virtual channel (Table 8-6). -/
def vcNum (v : VC) : Nat := match v with | .responses => 0 | .posted => 1 | .requests => 2 | .streams => 3

/-- CAUSE of TRN_ERR_LAST (Table 9-12). -/
inductive TrnCause where
  | unmapped | absentDie | refused | boundary | timeout | pairLost | late | gateway
deriving DecidableEq, Repr

/-- A transport event is recorded on the die `h` that handles it while VALID is 0 (R521, Table 9-12). -/
def State.trnRecord (s : State) (h : Nat) (t : Txn) (c : TrnCause) : State :=
  if s.rb F.TRN_ERR_LAST_VALID h then s
  else
    let w := 2 ^ 47 + c.ctorIdx * 2 ^ 44 + b2n (!isReq t) * 2 ^ 43 + t.srcDie % 8 * 2 ^ 40 + t.master % 512 * 2 ^ 31
      + vcNum t.vc * 2 ^ 29 + t.rtag % 64 * 2 ^ 23
    (s.ww .TRN_ERR_LAST w h).ww .TRN_ERR_ADDR t.addr h

/-- A transport fault event of die `h` for a requester (R521, Table 18-4). -/
def State.trnRaise (s : State) (h : Nat) (t : Txn) (src : FaultSrc) : State :=
  s.raiseEv { faultEv src h 0 (s.rw .TRN_ERR_LAST h) with req := some (t.srcDie, t.master) }

/-- End-to-end stream credits of a write are on their way back to the engine context that issued it (R492, R501). -/
def State.creditBack (s : State) (t : Txn) (n : Nat) : State :=
  if t.vc = .streams then { s with credits := s.credits ++ [(t, n)] } else s

/-- A dropped write is counted, recorded and raised on die `h` (R501, R515, R521). -/
def State.dropCount (s : State) (h : Nat) (t : Txn) (c : TrnCause) : State :=
  ((s.trnRecord h t c).incE F.TRN_DROP_CNT_COUNT h).trnRaise h t .transportWriteDropped

/-- A posted or stream write dropped on die `h` (R500, R501, R515). -/
def State.dropWrite (s : State) (h : Nat) (t : Txn) (c : TrnCause) : State := (s.dropCount h t c).creditBack t t.words.length

/-- A write to a window of which words tagged 0b10 or 0b11 were refused counts as one dropped write (R75, R501). -/
def State.refusedWords (s : State) (h : Nat) (t : Txn) : State :=
  if t.words.any fun w => 2 ≤ w.tag.toNat then s.dropCount h t .refused else s

/-- The words of a response without data (R500, R502). -/
def noWords (n : Nat) : List TWord := List.replicate n noWord

/-- A request answered unmapped or refused on die `h` (R500, R515, Table 9-10). -/
def State.answerBad (s : State) (h : Nat) (t : Txn) (status : Nat) (c : TrnCause) : State :=
  let s := (s.trnRecord h t c).incE F.TRN_UNMAPPED_CNT_COUNT h
  (s.trnRaise h t .transportUnmapped).respond t status (noWords t.len)

/-- A transaction that cannot be performed, with the STATUS 1 unmapped or 2 refused that Table 9-7 gives a request. -/
def State.reject (s : State) (h : Nat) (t : Txn) (status : Nat) (c : TrnCause) : State :=
  if isReq t then s.answerBad h t status c else s.dropWrite h t c

/-- A transaction to or across a lost die pair: a request is answered aborted, a write is dropped (R514, Table 9-7). -/
def State.abortTxn (s : State) (h : Nat) (t : Txn) (c : TrnCause) : State :=
  if isReq t then (s.trnRecord h t c).respond t 3 (noWords t.len) else s.dropWrite h t c

/-! ## Order -/

/-- The endpoint of an address, for the orders of Table 9-6: the device and die, and its bank, block memory, register block,
channel or window (R496). -/
def endpointOf (a : Nat) : Nat × Nat :=
  let l := addrLocal a
  (a / 2 ^ 36,
    if l < 0x80000 then l / 0x8000
    else if l < 0x0F000000 then 0x1000 + l / 0x400
    else if 0x0F010000 ≤ l && l < 0x0F020000 && addrDie a != 0 then 0x100 + (l - 0x0F010000) / 0x100
    else if 0x0F020000 ≤ l && l < 0x0F021000 && addrDie a != 0 then 0x200 + (l - 0x0F020000) / 0x400
    else if l < 0x100000000 then 0x300 + (l - 0x0F000000) / 0x10000
    else 0x400 + l / 0x100000000)

/-- Whether an earlier transaction of a master must be performed before a later one at the same endpoint (Table 9-6); a request of an
engine also goes behind the stream writes of all its contexts to the endpoint's landing buffer (R912). -/
def goesBefore (u t : Txn) : Bool :=
  u.srcDie == t.srcDie && u.master == t.master && endpointOf u.addr == endpointOf t.addr
    && (match u.vc, t.vc with
      | .posted, .posted => true
      | .posted, .requests => true
      | .requests, .requests => true
      | .streams, .streams => u.sub == t.sub
      | .streams, .requests => true
      | _, _ => false)

/-! ## Arrival -/

/-- Whether a transaction's address lies in die `d` of this device (R64). -/
def State.atDie (s : State) (d : Nat) (t : Txn) : Bool := addrDev t.addr == s.devNum && addrDie t.addr == d

/-- A transaction arrives at its endpoint: it leaves the transport once its last flit is there, or, offered from outside the model's
own masters, takes its read tag, which must be free (R481). -/
def State.arrive (s : State) (t : Txn) : Option State :=
  if s.inFlight.contains t then
    (if s.net.underWay (.req t) then none else some { s with inFlight := s.inFlight.erase t, net := s.net.leave (.req t) })
  else if !isReq t then some s
  else if s.tagHeld t.srcDie t.master t.rtag then none
  else some { s with outst := s.outst ++ [⟨t, false, false⟩] }

/-- The bytes of `n` frame bytes packed in words, byte 0 lowest (R61). -/
def bytesOf (ws : List TWord) (n : Nat) : List Nat :=
  (List.range n).map fun k => (ws.getD (k / 6) noWord).data.toNat / 2 ^ (8 * (k % 6)) % 256

/-- A number from bytes, byte 0 lowest. -/
def leNat (bs : List Nat) : Nat := match bs with | [] => 0 | b :: t => b % 256 + 256 * leNat t

/-- `n` bytes of a number, least significant first (R61). -/
def leBytes (n v : Nat) : List Nat := (List.range n).map fun k => v / 256 ^ k % 256

/-- `n` bytes of a number, most significant first. -/
def beBytes (n v : Nat) : List Nat := (leBytes n v).reverse

/-- A number from bytes, byte 0 highest. -/
def beNat (bs : List Nat) : Nat := bs.foldl (fun n b => 256 * n + b % 256) 0

/-- Bytes packed into words with tag 0b00, byte 0 lowest, a last partial word filled with zeros (R61, R62). -/
def packBytes (bs : List Nat) : List TWord :=
  (List.range ((bs.length + 5) / 6)).map fun k => dataWord (leNat ((bs.drop (6 * k)).take 6))

/-- The words of a list with the last tagged 0b01. -/
def endTag (ws : List TWord) : List TWord :=
  match ws with
  | [] => []
  | [w] => [⟨w.data, tagEnd⟩]
  | w :: t => w :: endTag t

end Sys2Proof.Machine
end

