-- ==== Sys2Proof/Machine/Crypto.lean ====
section
/-!
DEFINITION. The standards that the spec names: SHA-256 (FIPS 180-4), AES-256 (FIPS 197) in Galois/Counter Mode (NIST SP 800-38D) and in
XTS mode with ciphertext stealing (NIST SP 800-38E), and ECDSA over P-256 (FIPS 186-5) (R343, R566, R692, R785, R875).
Octet strings are lists of numbers below 256, in the order of the standards.
-/
namespace Sys2Proof.Machine

/-! ## SHA-256 -/

/-- A 32-bit word rotated right. -/
def rotr (n x : Nat) : Nat := x / 2 ^ n + x % 2 ^ n * 2 ^ (32 - n)

/-- The round constants of SHA-256. -/
def shaK : List Nat :=
  [0x428A2F98, 0x71374491, 0xB5C0FBCF, 0xE9B5DBA5, 0x3956C25B, 0x59F111F1, 0x923F82A4, 0xAB1C5ED5] ++
  [0xD807AA98, 0x12835B01, 0x243185BE, 0x550C7DC3, 0x72BE5D74, 0x80DEB1FE, 0x9BDC06A7, 0xC19BF174] ++
  [0xE49B69C1, 0xEFBE4786, 0x0FC19DC6, 0x240CA1CC, 0x2DE92C6F, 0x4A7484AA, 0x5CB0A9DC, 0x76F988DA] ++
  [0x983E5152, 0xA831C66D, 0xB00327C8, 0xBF597FC7, 0xC6E00BF3, 0xD5A79147, 0x06CA6351, 0x14292967] ++
  [0x27B70A85, 0x2E1B2138, 0x4D2C6DFC, 0x53380D13, 0x650A7354, 0x766A0ABB, 0x81C2C92E, 0x92722C85] ++
  [0xA2BFE8A1, 0xA81A664B, 0xC24B8B70, 0xC76C51A3, 0xD192E819, 0xD6990624, 0xF40E3585, 0x106AA070] ++
  [0x19A4C116, 0x1E376C08, 0x2748774C, 0x34B0BCB5, 0x391C0CB3, 0x4ED8AA4A, 0x5B9CCA4F, 0x682E6FF3] ++
  [0x748F82EE, 0x78A5636F, 0x84C87814, 0x8CC70208, 0x90BEFFFA, 0xA4506CEB, 0xBEF9A3F7, 0xC67178F2]

/-- The initial hash value of SHA-256. -/
def shaInit : List Nat := [0x6A09E667, 0xBB67AE85, 0x3C6EF372, 0xA54FF53A, 0x510E527F, 0x9B05688C, 0x1F83D9AB, 0x5BE0CD19]

/-- The message schedule after its words `ws`, the latest first, with `n` more words. -/
def shaSchedule (n : Nat) (ws : List Nat) : List Nat :=
  match n with
  | 0 => ws
  | k + 1 =>
    let a := ws.getD 1 0
    let b := ws.getD 14 0
    let s0 := rotr 7 b ^^^ rotr 18 b ^^^ (b / 2 ^ 3)
    let s1 := rotr 17 a ^^^ rotr 19 a ^^^ (a / 2 ^ 10)
    shaSchedule k (((s1 + ws.getD 6 0 + s0 + ws.getD 15 0) % 2 ^ 32) :: ws)

/-- One round on the working variables a to h. -/
def shaRound (v : List Nat) (kw : Nat × Nat) : List Nat :=
  match v with
  | [a, b, c, d, e, f, g, h] =>
    let s1 := rotr 6 e ^^^ rotr 11 e ^^^ rotr 25 e
    let ch := (e &&& f) ^^^ ((2 ^ 32 - 1 - e) &&& g)
    let t1 := h + s1 + ch + kw.1 + kw.2
    let s0 := rotr 2 a ^^^ rotr 13 a ^^^ rotr 22 a
    let maj := (a &&& b) ^^^ (a &&& c) ^^^ (b &&& c)
    [(t1 + s0 + maj) % 2 ^ 32, a, b, c, (d + t1) % 2 ^ 32, e, f, g]
  | _ => v

/-- The hash value after a block of 64 octets. -/
def shaBlock (h : List Nat) (block : List Nat) : List Nat :=
  let ws := (List.range 16).map fun k => beNat ((block.drop (4 * k)).take 4)
  let v := (shaK.zip (shaSchedule 48 ws.reverse).reverse).foldl shaRound h
  h.zipWith (fun a b => (a + b) % 2 ^ 32) v

/-- The first `n` blocks of 64 octets of a string. -/
def blocks64 (n : Nat) (m : List Nat) : List (List Nat) :=
  match n with
  | 0 => []
  | k + 1 => m.take 64 :: blocks64 k (m.drop 64)

/-- A message padded to a multiple of 64 octets. -/
def shaPad (m : List Nat) : List Nat :=
  m ++ 0x80 :: List.replicate ((119 - m.length % 64) % 64) 0 ++ beBytes 8 (8 * m.length)

/-- SHA-256 of a string, its first octet highest (R343). -/
def sha256 (m : List Nat) : Nat :=
  let p := shaPad m
  ((blocks64 (p.length / 64) p).foldl shaBlock shaInit).foldl (fun n w => n * 2 ^ 32 + w) 0

/-! ## AES-256 -/

/-- Sixteen entries of the S-box, the first lowest. -/
def sboxRow (r : Nat) : Nat :=
  match r with
  | 0 => 0x76ABD7FE2B670130C56F6BF27B777C63
  | 1 => 0xC072A49CAFA2D4ADF04759FA7DC982CA
  | 2 => 0x1531D871F1E5A534CCF73F362693FDB7
  | 3 => 0x75B227EBE28012079A059618C323C704
  | 4 => 0x842FE329B3D63B52A05A6E1B1A2C8309
  | 5 => 0xCF584C4A39BECB6A5BB1FC20ED00D153
  | 6 => 0xA89F3C507F02F94585334D43FBAAEFD0
  | 7 => 0xD2F3FF1021DAB6BCF5389D928F40A351
  | 8 => 0x73195D643D7EA7C41744975FEC130CCD
  | 9 => 0xDB0B5EDE14B8EE4688902A22DC4F8160
  | 10 => 0x79E4959162ACD3C25C2406490A3A32E0
  | 11 => 0x08AE7A65EAF4566CA94ED58D6D37C8E7
  | 12 => 0x8A8BBD4B1F74DDE8C6B4A61C2E2578BA
  | 13 => 0x9E1DC186B95735610EF6034866B53E70
  | 14 => 0xDF2855CEE9871E9B948ED9691198F8E1
  | _ => 0x16BB54B00F2D99416842E6BF0D89A18C

/-- Sixteen entries of the inverse S-box, the first lowest. -/
def invSboxRow (r : Nat) : Nat :=
  match r with
  | 0 => 0xFBD7F3819EA340BF38A53630D56A0952
  | 1 => 0xCBE9DEC444438E3487FF2F9B8239E37C
  | 2 => 0x4EC3FA420B954CEE3D23C2A632947B54
  | 3 => 0x25D18B6D49A25B76B224D92866A12E08
  | 4 => 0x92B6655DCC5CA4D41698688664F6F872
  | 5 => 0x849D8DA75746155EDAB9EDFD5048706C
  | 6 => 0x0645B3B80558E4F70AD3BC8C00ABD890
  | 7 => 0x6B8A130103BDAFC1020F3FCA8F1E2CD0
  | 8 => 0x73E6B4F0CECFF297EADC674F4111913A
  | 9 => 0x6EDF751CE837F9E28535ADE72274AC96
  | 10 => 0x1BBE18AA0E62B76F89C5291D711AF147
  | 11 => 0xF45ACD78FEC0DB9A2079D2C64B3E56FC
  | 12 => 0x5FEC8027591012B131C7078833A8DD1F
  | 13 => 0xEF9CC9939F7AE52D0D4AB519A97F5160
  | 14 => 0x619953833CBBEBC8B0F52AAE4D3BE0A0
  | _ => 0x7D0C2155631469E126D677BA7E042B17

/-- The S-box. -/
def sbox (x : Nat) : Nat := sboxRow (x / 16) / 2 ^ (8 * (x % 16)) % 256

/-- The inverse S-box. -/
def invSbox (x : Nat) : Nat := invSboxRow (x / 16) / 2 ^ (8 * (x % 16)) % 256

/-- Multiplication by x in GF(2^8). -/
def xtime (a : Nat) : Nat := if 128 ≤ a then (2 * a) ^^^ 0x11B else 2 * a

/-- A product in GF(2^8) of an octet with a factor below 16. -/
def gfMul (k a : Nat) : Nat :=
  let b := xtime a
  let c := xtime b
  let d := xtime c
  (if bit k 0 then a else 0) ^^^ (if bit k 1 then b else 0) ^^^ (if bit k 2 then c else 0) ^^^ (if bit k 3 then d else 0)

/-- The exclusive or of two octet strings. -/
def xorBytes (a b : List Nat) : List Nat := a.zipWith (· ^^^ ·) b

/-- `n` more 4-octet words of the key expansion after `ws`, the latest first; `k` words stand already (FIPS 197, Nk = 8). -/
def aesExpand (n k : Nat) (ws : List (List Nat)) : List (List Nat) :=
  match n with
  | 0 => ws
  | m + 1 =>
    let t := ws.getD 0 []
    let u :=
      if k % 8 = 0 then xorBytes ((t.drop 1 ++ t.take 1).map sbox) [2 ^ (k / 8 - 1), 0, 0, 0]
      else if k % 8 = 4 then t.map sbox
      else t
    aesExpand m (k + 1) (xorBytes (ws.getD 7 []) u :: ws)

/-- The 15 round keys of a 32-octet key. -/
def aesKeys (key : List Nat) : List (List Nat) :=
  let w := (aesExpand 52 8 ((List.range 8).map fun k => (key.drop (4 * k)).take 4).reverse).reverse
  (List.range 15).map fun r => ((w.drop (4 * r)).take 4).flatten

/-- ShiftRows, by `d` columns per row: 1 to encrypt, 3 to decrypt. -/
def shiftRows (d : Nat) (b : List Nat) : List Nat := (List.range 16).map fun j => b.getD ((j / 4 + d * (j % 4)) % 4 * 4 + j % 4) 0

/-- MixColumns with the factors of a row: [2, 3, 1, 1] to encrypt, [14, 11, 13, 9] to decrypt. -/
def mixColumns (f b : List Nat) : List Nat :=
  (List.range 16).map fun j =>
    (List.range 4).foldl (fun x i => x ^^^ gfMul (f.getD ((i + 4 - j % 4) % 4) 0) (b.getD (j / 4 * 4 + i) 0)) 0

/-- A block encrypted under round keys. -/
def aesEnc (ks : List (List Nat)) (b : List Nat) : List Nat :=
  let b := ((ks.drop 1).take 13).foldl (fun b k => xorBytes (mixColumns [2, 3, 1, 1] (shiftRows 1 (b.map sbox))) k) (xorBytes b (ks.getD 0 []))
  xorBytes (shiftRows 1 (b.map sbox)) (ks.getD 14 [])

/-- A block decrypted under round keys. -/
def aesDec (ks : List (List Nat)) (b : List Nat) : List Nat :=
  let b := ((ks.drop 1).take 13).reverse.foldl (fun b k => mixColumns [14, 11, 13, 9] (xorBytes ((shiftRows 3 b).map invSbox) k))
    (xorBytes b (ks.getD 14 []))
  xorBytes ((shiftRows 3 b).map invSbox) (ks.getD 0 [])

/-! ## Galois/Counter Mode -/

/-- A product in GF(2^128) in the bit order of GCM, where bit 127 is the coefficient of 1: `n` bits of `x` are still to come, the
highest first, and `v` is the other factor moved on. -/
def ghashMul (n x v z : Nat) : Nat :=
  match n with
  | 0 => z
  | k + 1 => ghashMul k x (if v % 2 = 1 then (v / 2) ^^^ (0xE1 * 2 ^ 120) else v / 2) (if bit x k then z ^^^ v else z)

/-- The first `n` blocks of 16 octets of a string as numbers, the last filled up with zeros. -/
def blocks16 (n : Nat) (m : List Nat) : List Nat :=
  match n with
  | 0 => []
  | k + 1 => beNat (m.take 16 ++ List.replicate (16 - m.length) 0) :: blocks16 k (m.drop 16)

/-- The counter block `k` of an IV of 96 bits: 1 is the first. -/
def gcmBlock (iv k : Nat) : List Nat := beBytes 16 (iv % 2 ^ 96 * 2 ^ 32 + k % 2 ^ 32)

/-- The tag over additional data and cipher text, as a number of 128 bits (R343, R692, R785). -/
def gcmTag (key : List Nat) (iv : Nat) (aad ct : List Nat) : Nat :=
  let ks := aesKeys key
  let h := beNat (aesEnc ks (List.replicate 16 0))
  let bs := blocks16 ((aad.length + 15) / 16) aad ++ blocks16 ((ct.length + 15) / 16) ct ++ [8 * aad.length * 2 ^ 64 + 8 * ct.length]
  bs.foldl (fun y b => ghashMul 128 (y ^^^ b) h 0) 0 ^^^ beNat (aesEnc ks (gcmBlock iv 1))

/-- Octets `a` to `a + n - 1` of the key stream under an IV. -/
def gcmStream (key : List Nat) (iv a n : Nat) : List Nat :=
  let ks := aesKeys key
  let s := (List.range ((a + n + 15) / 16 - a / 16)).flatMap fun k => aesEnc ks (gcmBlock iv (a / 16 + k + 2))
  (s.drop (a % 16)).take n

/-- Octets encrypted or decrypted from the start of the key stream on. -/
def gcmBytes (key : List Nat) (iv : Nat) (bs : List Nat) : List Nat := xorBytes bs (gcmStream key iv 0 bs.length)

/-! ## XTS -/

/-- A tweak multiplied by x in GF(2^128), in the bit order of XTS. -/
def xtsTwice (t : Nat) : Nat := if 2 ^ 127 ≤ t then (2 * t) % 2 ^ 128 ^^^ 0x87 else 2 * t

/-- The tweak of block `j` of a data unit. -/
def xtsMask (j t : Nat) : List Nat :=
  match j with
  | 0 => leBytes 16 t
  | k + 1 => xtsMask k (xtsTwice t)

/-- A block under its mask, by an encryption or a decryption `f`. -/
def xtsBlock (f : List Nat → List Nat) (m b : List Nat) : List Nat := xorBytes (f (xorBytes b m)) m

/-- A data unit of 50 octets encrypted: three blocks and a rest of two octets with ciphertext stealing (R566). -/
def xtsEnc (key1 key2 : List Nat) (tweak : Nat) (p : List Nat) : List Nat :=
  let ks := aesKeys key1
  let t := leNat (aesEnc (aesKeys key2) (leBytes 16 tweak))
  let c := xtsBlock (aesEnc ks) (xtsMask 2 t) ((p.drop 32).take 16)
  xtsBlock (aesEnc ks) (xtsMask 0 t) (p.take 16) ++ xtsBlock (aesEnc ks) (xtsMask 1 t) ((p.drop 16).take 16)
    ++ xtsBlock (aesEnc ks) (xtsMask 3 t) (p.drop 48 ++ c.drop 2) ++ c.take 2

/-- A data unit of 50 octets decrypted (R566). -/
def xtsDec (key1 key2 : List Nat) (tweak : Nat) (c : List Nat) : List Nat :=
  let ks := aesKeys key1
  let t := leNat (aesEnc (aesKeys key2) (leBytes 16 tweak))
  let p := xtsBlock (aesDec ks) (xtsMask 3 t) ((c.drop 32).take 16)
  xtsBlock (aesDec ks) (xtsMask 0 t) (c.take 16) ++ xtsBlock (aesDec ks) (xtsMask 1 t) ((c.drop 16).take 16)
    ++ xtsBlock (aesDec ks) (xtsMask 2 t) (c.drop 48 ++ p.drop 2) ++ p.take 2

/-! ## ECDSA over P-256 -/

/-- The prime of P-256. -/
def p256P : Nat := 0xFFFFFFFF00000001000000000000000000000000FFFFFFFFFFFFFFFFFFFFFFFF
/-- The order of its base point. -/
def p256N : Nat := 0xFFFFFFFF00000000FFFFFFFFFFFFFFFFBCE6FAADA7179E84F3B9CAC2FC632551
/-- The coefficient b. -/
def p256B : Nat := 0x5AC635D8AA3A93E7B3EBBD55769886BC651D06B0CC53B0F63BCE3C3E27D2604B
/-- The base point. -/
def p256G : Nat × Nat :=
  (0x6B17D1F2E12C4247F8BCE6E563A440F277037D812DEB33A0F4A13945D898C296,
   0x4FE342E2FE1A7F9B8EE7EB4A7C0F9E162BCE33576B315ECECBB6406837BF51F5)

/-- A power modulo `m`, by `n` bits of the exponent, the highest first. -/
def powMod (m a e n : Nat) : Nat :=
  match n with
  | 0 => 1 % m
  | k + 1 => let r := powMod m a (e / 2) k; if e % 2 = 1 then r * r % m * a % m else r * r % m

/-- The inverse modulo a prime of 256 bits. -/
def invMod (m a : Nat) : Nat := powMod m (a % m) (m - 2) 256

/-- A difference modulo the prime. -/
def subP (a b : Nat) : Nat := (a + p256P - b % p256P) % p256P

/-- A point in Jacobian coordinates; z = 0 is the point at infinity. -/
structure EcPoint where
  x : Nat
  y : Nat
  z : Nat
deriving DecidableEq, Repr

/-- Twice a point, with a = -3. -/
def EcPoint.double (p : EcPoint) : EcPoint :=
  let d := p.z * p.z % p256P
  let g := p.y * p.y % p256P
  let b := p.x * g % p256P
  let a := 3 * (subP p.x d * (p.x + d)) % p256P
  let x := subP (a * a) (8 * b)
  ⟨x, subP (a * subP (4 * b) x) (8 * (g * g)), 2 * p.y * p.z % p256P⟩

/-- The sum of two points. -/
def EcPoint.add (p q : EcPoint) : EcPoint :=
  if p.z = 0 then q
  else if q.z = 0 then p
  else
    let a := p.z * p.z % p256P
    let b := q.z * q.z % p256P
    let u1 := p.x * b % p256P
    let u2 := q.x * a % p256P
    let s1 := p.y * q.z * b % p256P
    let s2 := q.y * p.z * a % p256P
    if u1 = u2 then (if s1 = s2 then p.double else ⟨1, 1, 0⟩)
    else
      let h := subP u2 u1
      let r := subP s2 s1
      let h2 := h * h % p256P
      let h3 := h * h2 % p256P
      let v := u1 * h2 % p256P
      let x := subP (r * r) (h3 + 2 * v)
      ⟨x, subP (r * subP v x) (s1 * h3), h * p.z % p256P * q.z % p256P⟩

/-- A multiple of a point, by `n` bits of the factor. -/
def EcPoint.mul (p : EcPoint) (e n : Nat) : EcPoint :=
  match n with
  | 0 => ⟨1, 1, 0⟩
  | k + 1 => let r := (p.mul (e / 2) k).double; if e % 2 = 1 then r.add p else r

/-- Whether coordinates are those of a point of the curve. -/
def onCurve (x y : Nat) : Bool :=
  decide (x < p256P) && decide (y < p256P) && y * y % p256P == (subP (x * x * x) (3 * x) + p256B) % p256P

/-- Whether `sig` (r, then s) is a good ECDSA signature of a digest under a public key (X, then Y), each of the four a number of 256
bits (R343, R348, R875, R1046). -/
def sigGood (key digest sig : Nat) : Bool :=
  let qx := key / 2 ^ 256
  let qy := key % 2 ^ 256
  let r := sig / 2 ^ 256
  let t := sig % 2 ^ 256
  if !onCurve qx qy || r = 0 || p256N ≤ r || t = 0 || p256N ≤ t then false
  else
    let w := invMod p256N t
    let g : EcPoint := ⟨p256G.1, p256G.2, 1⟩
    let q : EcPoint := ⟨qx, qy, 1⟩
    let x := (g.mul (digest * w % p256N) 256).add (q.mul (r * w % p256N) 256)
    if x.z = 0 then false
    else
      let i := invMod p256P x.z
      x.x * (i * i % p256P) % p256P % p256N == r

end Sys2Proof.Machine
end

