-- ==== Sys2Proof/Machine/Islands.lean ====
section
/-!
DEFINITION. Clock islands, the adaptive loop, handshake channels, event crossings and island resets (chapter 3, and
R175 to R234 of chapter 4).
-/
namespace Sys2Proof.Machine

/-- An island before anything has been loaded (R162, R227). -/
def Isl.init : Isl := ⟨0, 0, [], 0, false, false, false, false, false⟩

/-- An island's state. -/
def State.island (s : State) (d i : Nat) : Isl := mget s.isl (key2 d i) Isl.init

/-- The state with an island replaced. -/
def State.setIsland (s : State) (d i : Nat) (x : Isl) : State := { s with isl := mset s.isl (key2 d i) x Isl.init }

/-! ## Configuration memory -/

/-- The configuration address of a word of a frame (R340). -/
def cfgAddr (d i f w : Nat) : Nat := 0x800000000 + d * 0x80000 + i * 0x8000 + f * 0x100 + w

/-- CRC-32C of 768 zero bytes: the trailer of a cleared frame (R341, R405). -/
def zeroTrailer : Nat := 0x3A3B3D06

/-- What a word of a cleared frame holds: zero, or the trailer that goes with it, with good check bits (R405). -/
def cfgInit (a : Nat) : Cell :=
  let w : TWord := dataWord (if a % 0x100 = 128 then zeroTrailer else 0)
  ⟨w, checkOf w a⟩

/-- A word of configuration memory. -/
def State.cfgCell (s : State) (a : Nat) : Cell := mget s.cfg.cmem a (cfgInit a)

/-- The payload words of an island's frames. -/
def State.islandFrames (s : State) (d i : Nat) : List Nat :=
  (List.range 80).flatMap fun f => (List.range 128).map fun k => (s.cfgCell (cfgAddr d i f k)).word.data.toNat

/-- Whether any word of an island's configuration memory differs from a cleared one. -/
def State.configured (s : State) (d i : Nat) : Bool := s.cfg.cmem.any fun e => e.1 / 0x8000 == cfgAddr d i 0 0 / 0x8000

/-- The INIT bits of an island's flip-flops, as its configuration memory stands, with any upset (R177, R224); 0 while it is
cleared (R227). -/
def State.ffInit (s : State) (d i : Nat) : Nat :=
  if s.configured d i then Config.ffInit (s.islandFrames d i) % 2 ^ 4096 else 0

/-- The INIT bits of an island's DIO cells, in the same way (R217, R224, R227). -/
def State.dioInit (s : State) (d i : Nat) : Nat := if s.configured d i then Config.dioInit (s.islandFrames d i) % 256 else 0

/-- The aspect (48, 24, 12 or 6) of port `p` (0 A, 1 B) of a block memory (R236); 48 before any load. -/
def State.aspect (s : State) (d i m p : Nat) : Nat :=
  if s.configured d i then [48, 24, 12, 6].getD (Config.bmAspect (s.islandFrames d i) m p).val 48 else 48

/-- The connections, tables and modes of an island's logic, as its configuration memory stands, with any upset (R189, R224, R387). -/
def State.fabric (s : State) (d i : Nat) : Fabric :=
  if s.configured d i then Config.fabric (s.islandFrames d i) else Fabric.blank

/-! ## The adaptive loop -/

/-- The frequency of a running code in MHz (R106). -/
def codeMhz (c : Nat) : Nat := 200 + 5 * c

/-- The highest code whose frequency is at or below `64 f / (64 + st)`, the frequency of a cycle at code `c` stretched by
`st`; never below 0 (R116, R117). -/
def floorOf (c st : Nat) : Nat := (64 * codeMhz c / (64 + st) - 200) / 5

/-- The stretch limit outside a breach (R112). -/
def sMaxPlain (run floor : Nat) : Nat :=
  if codeMhz run < codeMhz floor then 0 else min 16 (64 * codeMhz run / codeMhz floor - 64)

/-- The stretch limit in force: in a breach never less than the current stretch (R112). -/
def State.sMax (s : State) (d i : Nat) : Nat :=
  let m := sMaxPlain (s.rf F.ISL_CLK_STAT_FREQ_RUN d i) (s.rf F.ISL_CLK_STAT_FLOOR_EFF d i)
  if s.rb F.ISL_CLK_STAT_BREACH_ACTIVE d i then max m (s.rf F.ISL_CLK_STAT_STRETCH d i) else m

/-- The effective target of an island: the lowest of TARGET, LIMIT_CODE, and while its die throttles THR_CODE (R109, R1060,
R1068). -/
def State.effTarget (s : State) (d i : Nat) : Nat :=
  let t := min (s.rf F.ISL_CLK_CTL_TARGET d i) (s.rf F.FAB_ISL_LIMIT_LIMIT_CODE d i)
  if s.rf F.THERM_DIE_LEVEL 0 d ≥ 2 then min t (s.rf F.THERM_CTL_THR_CODE 0) else t

/-- The floor in force outside a breach: the lower of FLOOR and the effective target (R108, R1060). -/
def State.plainFloor (s : State) (d i : Nat) : Nat := min (s.rf F.ISL_CLK_CTL_FLOOR d i) (s.effTarget d i)

/-- The stretch is never above its limit (R111): it follows a limit that has fallen. -/
def State.clampStretch (s : State) (d i : Nat) : State :=
  if s.sMax d i < s.rf F.ISL_CLK_STAT_STRETCH d i then s.wf F.ISL_CLK_STAT_STRETCH (s.sMax d i) d i else s

/-- The floor in force follows FLOOR and TARGET, except in a breach (R108, R146). -/
def State.refloor (s : State) (d i : Nat) : State :=
  if s.rb F.ISL_CLK_STAT_BREACH_ACTIVE d i then s
  else (s.wf F.ISL_CLK_STAT_FLOOR_EFF (s.plainFloor d i) d i).clampStretch d i

/-- The floor in force of every island of a die follows its effective target (R1060). -/
def State.refloorDie (s : State) (d : Nat) : State := (List.range 16).foldl (fun (s : State) i => s.refloor d i) s

/-- The AMPLE cycles of an island since its stretch last changed replaced (R113). -/
def State.setAmple (s : State) (d i n : Nat) : State := s.setIsland d i { s.island d i with ample := n }

/-- Cycles spent with a nonzero stretch are counted (R168). -/
def State.countStretch (s : State) (d i n : Nat) : State :=
  if s.rf F.ISL_CLK_STAT_STRETCH d i = 0 then s else s.incE F.ISL_STRETCH_CNT_COUNT d i 0 n

/-- A breach step (R116 to R118): with `sMax` below 16 the stretch rises and the floor in force falls to the stretched
frequency; with it at 16 the running code falls by one. The first step raises island-floor-breach; a step of the return
halts it (R120). -/
def State.breachStep (s : State) (d i : Nat) : State :=
  let first := !s.rb F.ISL_CLK_STAT_BREACH_ACTIVE d i
  let st := s.rf F.ISL_CLK_STAT_STRETCH d i
  let run := s.rf F.ISL_CLK_STAT_FREQ_RUN d i
  let s := if s.sMax d i < 16 then
      (s.wf F.ISL_CLK_STAT_STRETCH (st + 1) d i).wf F.ISL_CLK_STAT_FLOOR_EFF (floorOf run (st + 1)) d i
    else ((s.wf F.ISL_CLK_STAT_FREQ_RUN (run - 1) d i).wf F.ISL_CLK_STAT_STRETCH 16 d i).wf
      F.ISL_CLK_STAT_FLOOR_EFF (floorOf (run - 1) 16) d i
  let s := (s.wf F.ISL_CLK_STAT_BREACH_ACTIVE 1 d i).wf F.ISL_CLK_STAT_BREACH_STICKY 1 d i
  let s := (s.incE F.ISL_BREACH_CNT_COUNT d i).setIsland d i { s.island d i with returning := false }
  if first then s.raise .islandFloorBreach d i else s

/-- A CRITICAL cycle: the stretch goes to its limit; a cycle that finds it there is a breach cycle, and at running code 0
with stretch 16 raises island-slack-exhausted (R113, R116, R119). -/
def State.slackCritical (s : State) (d i : Nat) : State :=
  let s := ((s.countStretch d i 1).wf F.ISL_CLK_STAT_SLACK 2 d i).setAmple d i 0
  let st := s.rf F.ISL_CLK_STAT_STRETCH d i
  if st = 16 ∧ s.rf F.ISL_CLK_STAT_FREQ_RUN d i = 0 then s.raise .islandSlackExhausted d i
  else if st ≠ s.sMax d i then s.wf F.ISL_CLK_STAT_STRETCH (s.sMax d i) d i
  else s.breachStep d i

/-- A LOW cycle: the stretch rises by one up to its limit (R113). -/
def State.slackLow (s : State) (d i : Nat) : State :=
  let s := ((s.countStretch d i 1).wf F.ISL_CLK_STAT_SLACK 1 d i).setAmple d i 0
  s.wf F.ISL_CLK_STAT_STRETCH (min (s.rf F.ISL_CLK_STAT_STRETCH d i + 1) (s.sMax d i)) d i

/-- 256 AMPLE cycles have passed with a nonzero stretch, those not counted so far among them: it falls by one, and the count
restarts (R113, R168). -/
def State.stretchDecay (s : State) (d i : Nat) : State :=
  let s := ((s.countStretch d i (256 - (s.island d i).ample)).wf F.ISL_CLK_STAT_SLACK 0 d i).setAmple d i 0
  s.wf F.ISL_CLK_STAT_STRETCH (s.rf F.ISL_CLK_STAT_STRETCH d i - 1) d i

/-- One AMPLE cycle: the class is shown, a stretched cycle is counted, and the 256th running lowers the stretch (R113, R167,
R168). -/
def State.slackAmple (s : State) (d i : Nat) : State :=
  let n := (s.island d i).ample
  if s.rf F.ISL_CLK_STAT_STRETCH d i = 0 then (s.wf F.ISL_CLK_STAT_SLACK 0 d i).setAmple d i 0
  else if 255 ≤ n then s.stretchDecay d i
  else ((s.countStretch d i 1).wf F.ISL_CLK_STAT_SLACK 0 d i).setAmple d i (n + 1)

/-- A breach ends once the running code has returned to its target, the effective one of R1060 (DEDUCED, log 166): the floor in
force returns to its value of R108 (R120). -/
def State.breachEnd (s : State) (d i : Nat) : State :=
  if s.rb F.ISL_CLK_STAT_BREACH_ACTIVE d i && (s.island d i).returning
      && s.rf F.ISL_CLK_STAT_FREQ_RUN d i == s.effTarget d i then
    let s := (s.wf F.ISL_CLK_STAT_BREACH_ACTIVE 0 d i).setIsland d i { s.island d i with returning := false }
    s.refloor d i
  else s

/-- One step of the running code towards its target; during a breach that is not returning it only falls (R109, R146, R147). -/
def State.codeStep (s : State) (d i : Nat) : State :=
  let run := s.rf F.ISL_CLK_STAT_FREQ_RUN d i
  let tgt := s.effTarget d i
  let s := if tgt < run then s.wf F.ISL_CLK_STAT_FREQ_RUN (run - 1) d i
    else if run < tgt ∧ (!s.rb F.ISL_CLK_STAT_BREACH_ACTIVE d i || (s.island d i).returning) then
      s.wf F.ISL_CLK_STAT_FREQ_RUN (run + 1) d i
    else s
  (s.breachEnd d i).clampStretch d i

/-- The limit that a write of TARGET or FLOOR is clamped to (R107, R199). -/
def State.codeLimit (s : State) (d i : Nat) : Nat := min s.gradeLimit (s.rf F.FAB_ISL_LIMIT_LIMIT_CODE d i)

/-- Whether the oscillators of the fabric dies run: from the release of the power-on reset on (R110). -/
def State.oscRuns (s : State) : Bool := !s.rst.por

/-- An event crossing's key: the one that leaves island `i` at port `p`; ports 8 and 9 enter it from the racking block. -/
def State.evt (s : State) (d i p : Nat) : Evt := mget s.evts (key3 d i p) ⟨0, 0, 0, 0⟩

/-- The state with an event crossing replaced. -/
def State.setEvt (s : State) (d i p : Nat) (e : Evt) : State := { s with evts := mset s.evts (key3 d i p) e ⟨0, 0, 0, 0⟩ }

/-- The island's neighbour at port 0 to 3: north, east, south, west (Table 3-3, R123). -/
def neighbour (i p : Nat) : Option Nat :=
  match p with
  | 0 => if 4 ≤ i then some (i - 4) else none
  | 1 => if i % 4 < 3 then some (i + 1) else none
  | 2 => if i < 12 then some (i + 4) else none
  | 3 => if 0 < i % 4 then some (i - 1) else none
  | _ => none

/-- The port of the neighbour that faces port `p`. -/
def facing (p : Nat) : Nat := (p + 2) % 4

/-- Where the event crossing that enters island `i` at port `p` leaves: its sender and port. A ring stop raises no events. -/
def evtSource (i p : Nat) : Option (Nat × Nat) :=
  if p < 4 then (neighbour i p).map fun n => (n, facing p) else if 8 ≤ p && p < 10 then some (i, p) else none

/-- The front ends of an island's inbound event crossings restart at 0: its logic clock has an edge (R137). -/
def State.evtRestart (s : State) (d i : Nat) : State :=
  (List.range 10).foldl (fun (s : State) p =>
    match evtSource i p with
    | some (n, q) => s.setEvt d n q { s.evt d n q with front := 0 }
    | none => s) s

/-- Whether the logic clock of an island runs: RUN is 1, and it is neither under reset nor gated. An island held for
reconfiguration has none, whatever RUN holds (DESIGN CHOICE, log 167). -/
def State.running (s : State) (d i : Nat) : Bool :=
  s.rb F.ISL_CLK_CTL_RUN d i && !(s.island d i).underReset && !(s.island d i).held && !s.gated

/-- RUN replaced: once it is 1 the DIO balls of a reconfigured island are driven again, and its logic clock has edges (R137,
R220). -/
def State.setRun (s : State) (d i : Nat) (run : Bool) : State :=
  let s := s.wf F.ISL_CLK_CTL_RUN (b2n run) d i
  let s := if run then s.setIsland d i { s.island d i with dioHold := false } else s
  if s.running d i then s.evtRestart d i else s

/-- The requested core voltage in mV (R1055). -/
def State.wantMv (s : State) : Nat :=
  let v := s.fabDies.foldl (fun m d => (List.range 16).foldl (fun m i => max m (s.rf F.ISL_CLK_STAT_VREQ d i)) m) 0
  min 880 (720 + 5 * (v + s.rf F.PMB_CTL_GUARD 0))

/-- The voltage wanted has changed: its time of holding begins (R1056). -/
def State.noteWant (s : State) : State :=
  if s.wantMv = s.rst.want.1 then s else { s with rst := { s.rst with want := (s.wantMv, s.now) } }

/-- VREQ of an island replaced (R114, R1056). -/
def State.setVreq (s : State) (d i v : Nat) : State := (s.wf F.ISL_CLK_STAT_VREQ v d i).noteWant

/-- A write of ISL_CLK_CTL: TARGET and FLOOR clamped, VCAP clamped to 32 with VREQ lowered to it, RUN stored (R107, R114, R144,
R199). A write of RUN = 1 to an island held for reconfiguration is stored like any other: no rule keeps it out; its clock waits
for the end of the hold (log 167). -/
def State.writeClkCtl (s : State) (d i : Nat) (w : Nat) : State :=
  let lim := s.codeLimit d i
  let cap := min 32 (bits w 25 20)
  let s := s.wf F.ISL_CLK_CTL_TARGET (min lim (bits w 7 0)) d i
  let s := s.wf F.ISL_CLK_CTL_FLOOR (min lim (bits w 15 8)) d i
  let s := s.wf F.ISL_CLK_CTL_VCAP cap d i
  let s := s.setRun d i (bit w 26)
  let s := if cap < s.rf F.ISL_CLK_STAT_VREQ d i then s.setVreq d i cap else s
  s.refloor d i

/-- ISL_CLK_CTL_WRITE (R146, R149): a write carrying tag 0b10 or 0b11 is refused (R75); what hardware does to RUN in the same
owner cycle wins (R91). In the power-on reset the block has no clock (R110, R163). -/
def execIslClkCtlWrite (d i : Nat) (w : TWord) (acts : List HwAct) (s : State) : Out :=
  if !s.oscRuns then .next s
  else if w.tag.toNat < 2 then .next (s.writeClkCtl d i (effWord (regDesc .ISL_CLK_CTL i).fields acts w.data.toNat))
  else .next (s.regRefuse d (w.tag.toNat - 2) true (0x0F010000 + i * 0x100))

/-- RUNNING_CODE_STEP (R109). -/
def execRunningCodeStep (d i : Nat) (s : State) : Out := .next (if s.oscRuns then s.codeStep d i else s)

/-- SLACK_CRITICAL (R113, R116, R119). -/
def execSlackCritical (d i : Nat) (s : State) : Out := .next (if s.oscRuns then s.slackCritical d i else s)

/-- SLACK_LOW (R113). -/
def execSlackLow (d i : Nat) (s : State) : Out := .next (if s.oscRuns then s.slackLow d i else s)

/-- STRETCH_DECAY (R113). -/
def execStretchDecay (d i : Nat) (s : State) : Out :=
  .next (if !s.oscRuns || s.rf F.ISL_CLK_STAT_STRETCH d i = 0 then s else s.stretchDecay d i)

/-- BREACH_RETURN_START (R120): the running code returns towards TARGET; at TARGET already, the breach ends. -/
def execBreachReturnStart (d i : Nat) (s : State) : Out :=
  .next (if s.oscRuns && s.rb F.ISL_CLK_STAT_BREACH_ACTIVE d i then
      ((s.wf F.ISL_CLK_STAT_SLACK 0 d i).setIsland d i { s.island d i with returning := true }).breachEnd d i
    else s)

/-- VREQ_RISE (R114): after 4,096 consecutive cycles with a nonzero stretch, below VCAP. -/
def execVreqRise (d i : Nat) (s : State) : Out :=
  .next (if s.oscRuns && s.rf F.ISL_CLK_STAT_STRETCH d i ≠ 0 && s.rf F.ISL_CLK_STAT_VREQ d i < s.rf F.ISL_CLK_CTL_VCAP d i then
      s.setVreq d i (s.rf F.ISL_CLK_STAT_VREQ d i + 1) else s)

/-- VREQ_FALL (R114): after 65,536 consecutive AMPLE cycles with no stretch, above 0. -/
def execVreqFall (d i : Nat) (s : State) : Out :=
  .next (if s.oscRuns && s.rf F.ISL_CLK_STAT_STRETCH d i = 0 && 0 < s.rf F.ISL_CLK_STAT_VREQ d i then
      (s.setVreq d i (s.rf F.ISL_CLK_STAT_VREQ d i - 1)).wf F.ISL_CLK_STAT_SLACK 0 d i else s)

/-- MEMORY_ISLAND_CRITICAL (R140). -/
def execMemoryIslandCritical (d : Nat) (s : State) : Out :=
  .next (if s.oscRuns then ((s.wf F.MISL_STAT_SLACK 2 d).wf F.MISL_STAT_CRIT_STICKY 1 d).raise .memoryIslandSlack d 0 else s)

/-- ISLAND_OSCILLATOR_CHECK (R161): `khz` is the frequency measured over 1 µs; the fault is raised when it deviates by
more than 3% from the frequency of the running code and stretch. -/
def execIslandOscillatorCheck (d i khz : Nat) (s : State) : Out :=
  let want := 64000 * codeMhz (s.rf F.ISL_CLK_STAT_FREQ_RUN d i)
  let got := khz * (64 + s.rf F.ISL_CLK_STAT_STRETCH d i)
  .next (if s.oscRuns && 3 * want < 100 * (max want got - min want got) then s.raise .islandOscillator d i else s)

/-! ## Channels -/

/-- A channel with nothing in it (R164). -/
def Chan.init : Chan := ⟨0, [], [], 0, none, false, false, false⟩

/-- The key of the channel that leaves island `i` at port `p`, or (`stop`) that leaves its ring stop towards it. -/
def chanKey (d i p : Nat) (stop : Bool) : Nat := key4 d i p (b2n stop)

/-- The key of the channel that enters island `i` at port `p`, if there is one (Table 3-3). -/
def inKey (d i p : Nat) : Option Nat :=
  if p < 4 then (neighbour i p).map fun n => chanKey d n (facing p) false else some (chanKey d i p true)

/-- A channel. -/
def State.chan (s : State) (k : Nat) : Chan := mget s.chans k Chan.init

/-- The state with a channel replaced. -/
def State.setChan (s : State) (k : Nat) (c : Chan) : State := { s with chans := mset s.chans k c Chan.init }

/-- Whether a channel port exists for its sender: a port 0 to 3 needs a neighbour (R123). -/
def portExists (i p : Nat) : Bool := if p < 4 then (neighbour i p).isSome else p < 8

/-- CH_OUT_READY: the sender's count shows room (R129). -/
def Chan.outReady (c : Chan) : Bool := decide (c.occ < 4)

/-- CH_IN_VALID: the FIFO holds a word (Table 3-4). -/
def Chan.inValid (c : Chan) : Bool := !c.fifo.isEmpty

/-- CH_IN_DATA: the word at the head of the FIFO; data 0 with tag 0b10 while CH_IN_VALID is 0 (R127, R53). -/
def Chan.inData (c : Chan) : TWord := c.fifo.headD noWord

/-- A word is offered to a channel: with CH_OUT_READY it moves in and REQ toggles, otherwise it is held (R126, R129). Another word
than the one held is a word of its own for the stall detector (R160). -/
def Chan.send (c : Chan) (w : TWord) : Chan :=
  if c.outReady then { c with occ := c.occ + 1, flight := c.flight ++ [w], offer := none, stalled := false, reqT := !c.reqT }
  else { c with offer := some w, stalled := c.stalled && c.offer == some w }

/-- CH_OUT_VALID falls: nothing is offered, and the stall detector is armed again (R160). -/
def Chan.withdraw (c : Chan) : Chan := { c with offer := none, stalled := false }

/-- CHANNEL_WORD_SEND (R126, R160): the island's logic offers `w` on outbound port `p`, or (none) lets CH_OUT_VALID fall; from a
ring stop (`stop`) the next word waiting there for the island is offered instead. A stopped island offers nothing (R156), and
port 7 is not for user logic (R124). -/
def execChannelWordSend (d i p : Nat) (stop : Bool) (w : Option TWord) (s : State) : Out :=
  let k := chanKey d i p stop
  .next (if !portExists i p then s
    else if stop then
      match mget s.stopOut (key3 d i p) [] with
      | [] => s
      | x :: rest => if (s.chan k).outReady then
          { s.setChan k ((s.chan k).send x) with stopOut := mset s.stopOut (key3 d i p) rest [] } else s
    else if s.running d i && p < 7 then
      s.setChan k (match w with | some w => (s.chan k).send w | none => (s.chan k).withdraw)
    else s)

/-- CHANNEL_WORD_ARRIVE (R131, R156): the oldest word in flight is written into the receiver's FIFO. -/
def execChannelWordArrive (d i p : Nat) (stop : Bool) (s : State) : Out :=
  let k := chanKey d i p stop
  let c := s.chan k
  .next (match c.flight with
    | [] => s
    | w :: rest => s.setChan k { c with flight := rest, fifo := c.fifo ++ [w] })

/-- A channel whose receiver takes the head word: ACK toggles back (R126). -/
def Chan.take (c : Chan) : Chan := { c with fifo := c.fifo.drop 1, acks := c.acks + 1, ackT := !c.ackT }

/-- The OP of a command word that island logic may send (Table 8-8), with the response virtual channel's OPs excluded. -/
def opOf (n : Nat) : Option TxnOp :=
  match n with
  | 0 => some .read | 1 => some .write | 2 => some .narrowWrite | 3 => some .add | 4 => some .swap | _ => none

/-- LENGTH as a number of words: 0 means 64 (Table 8-8). -/
def lengthOf (n : Nat) : Nat := if n = 0 then 64 else n

/-- The words a transaction covers: one for a NARROW_WRITE, an ADD and a SWAP (Table 8-9). -/
def txnLen (op : TxnOp) (len : Nat) : Nat := match op with | .read => len | .write => len | _ => 1

/-- The transaction that words from an island's outbound port spell, if they are whole: the command word, the address,
then its data words (R432, R433, R478). -/
def parseTxn (d i p : Nat) (ws : List TWord) : Option (Txn × List TWord) :=
  match ws with
  | c :: a :: rest =>
    match opOf (bits c.data.toNat 47 44) with
    | none => none
    | some op =>
      let cw := c.data.toNat
      let n := dataWords op (lengthOf (bits cw 25 20))
      if rest.length < n then none
      else
        let lw := match bits cw 19 18 with | 1 => 24 | 2 => 12 | 3 => 6 | _ => 48
        let vc := match op with | .write => VC.posted | .narrowWrite => VC.posted | _ => VC.requests
        some (⟨op, d, i, bits cw 31 26, a.data.toNat, txnLen op (lengthOf (bits cw 25 20)), lw, bits cw 17 15, rest.take n, vc, p⟩,
          rest.drop n)
  | _ => none

/-- Words of responses reserved for an island in its response store (R482). -/
def State.storeUsed (s : State) (d i : Nat) : Nat :=
  (s.outst.filter fun o => o.txn.srcDie == d && o.txn.master == i && !o.discard).foldl (fun n o => n + o.txn.len) 0
    + ((List.range 7).foldl (fun n p => n + (mget s.stopOut (key3 d i p) []).length) 0)

/-- The ring stop of an island issues the transactions waiting in it, oldest first, while each has its read tag and its
response space (R481, R482, R1115). -/
def State.stopIssue (s : State) (d i : Nat) : State :=
  let go := fun (s : State) (e : Txn × Bool) =>
    let q := mget s.stopWait (key2 d i) []
    if q.head? ≠ some e then s
    else if isReq e.1 && (s.tagHeld d i e.1.rtag || (!e.2 && 256 < s.storeUsed d i + e.1.len)) then s
    else { s.inject e.1 with
      outst := if isReq e.1 then s.outst ++ [⟨e.1, e.2, false⟩] else s.outst
      stopWait := mset s.stopWait (key2 d i) (q.drop 1) [] }
  (mget s.stopWait (key2 d i) []).foldl go s

/-- The ring stop takes words of an island's outbound port: each whole transaction joins those waiting to be issued. A command
word with an OP that no request has begins no transaction and is dropped. -/
def State.stopTake (s : State) (d i p : Nat) (w : TWord) : State :=
  let part := mget s.stopPart (key3 d i p) [] ++ [w]
  match parseTxn d i p part with
  | some (t, rest) =>
    { s with
      stopPart := mset s.stopPart (key3 d i p) rest []
      stopWait := mset s.stopWait (key2 d i) (mget s.stopWait (key2 d i) [] ++ [(t, false)]) [] }.stopIssue d i
  | none =>
    if (opOf (bits (part.headD noWord).data.toNat 47 44)).isNone then s else { s with stopPart := mset s.stopPart (key3 d i p) part [] }

/-- CHANNEL_WORD_TAKE (R126, R127): the receiver of the channel that leaves island `i` at port `p` (or its ring stop)
takes the head word. A receiving island takes only while its logic clock runs (R155); a ring stop assembles the
transactions it takes (R478). -/
def execChannelWordTake (d i p : Nat) (stop : Bool) (s : State) : Out :=
  let k := chanKey d i p stop
  let c := s.chan k
  .next (match c.fifo with
    | [] => s
    | w :: _ =>
      let runs := if stop then s.running d i
        else if p < 4 then (match neighbour i p with | some n => s.running d n | none => false) else true
      if !runs then s
      else
        let s := s.setChan k c.take
        if stop || p < 4 || p = 7 then s else s.stopTake d i p w)

/-- CHANNEL_ACK_ARRIVE (R132, R152): a returned ACK frees an entry at the sender. -/
def execChannelAckArrive (d i p : Nat) (stop : Bool) (s : State) : Out :=
  let k := chanKey d i p stop
  let c := s.chan k
  .next (if c.acks = 0 then s else s.setChan k { c with acks := c.acks - 1, occ := c.occ - 1 })

/-- CHANNEL_STALL (R160): a word held without room for the stall limit raises channel-stall once. -/
def execChannelStall (d i p : Nat) (s : State) : Out :=
  let k := chanKey d i p false
  let c := s.chan k
  .next (if bit (s.rf F.ISL_CH_CTL_STALL_EN d i) p && c.offer.isSome && !c.outReady && !c.stalled && s.running d i then
      (s.setChan k { c with stalled := true }).raise .channelStall d i else s)

/-! ## Event crossings -/

/-- The Gray code of a 16-bit count (R134): successive counts, 65,535 and 0 among them, differ in one bit. -/
def grayOf (n : Nat) : Nat := (n ^^^ n / 2) % 65536

/-- The count of a 16-bit Gray code (R135). -/
def ofGray (g : Nat) : Nat :=
  let a := g ^^^ g / 2
  let b := a ^^^ a / 4
  let c := b ^^^ b / 16
  (c ^^^ c / 256) % 65536

/-- One increment of an event count: one bit of the Gray code changes (R136). -/
def Evt.bump (e : Evt) : Evt := { e with count := (e.count + 1) % 65536, front := e.front + 1 }

/-- `n` increments one after the other (R136). -/
def Evt.bumps (e : Evt) (n : Nat) : Evt := (List.range n).foldl (fun e _ => e.bump) e

/-- The receiver's edge (R135): the Gray code that it sampled at the edge before is presented as a count, and the code that the
sender presents is sampled. -/
def Evt.sample (e : Evt) : Evt := { e with sampled := grayOf e.count, shown := ofGray e.sampled }

/-- Whether the receiving logic of the crossing that leaves island `i` at port `p` runs. -/
def State.evtRuns (s : State) (d i p : Nat) : Bool :=
  match neighbour i p with | some n => s.running d n | none => true

/-- EVENT_RAISE (R134, R136): `n` events of a sender cycle, at most 7, are added to the count as a burst of single steps; the
receiver's front end counts those since its logic clock last ran (R137). Port 7 is not for user logic (R124). -/
def execEventRaise (d i p n : Nat) (s : State) : Out :=
  let e := s.evt d i p
  .next (if portExists i p && p < 7 && n ≤ 7 && s.running d i then
      s.setEvt d i p (({ e with front := if s.evtRuns d i p then 0 else e.front } : Evt).bumps n) else s)

/-- EVENT_LAP (R137): the front end of inbound port `p` of island `i` has counted 32,768 events: LAP is set, event-lap is
raised, and it goes on from the remainder. -/
def execEventLap (d i p : Nat) (s : State) : Out :=
  .next (match neighbour i p with
    | none => s
    | some n =>
      let e := s.evt d n (facing p)
      if 32768 ≤ e.front then
        let lap := s.rf F.ISL_EVT_LAP_LAP d i
        let s := s.setEvt d n (facing p) { e with front := e.front - 32768 }
        (s.wf F.ISL_EVT_LAP_LAP (lap ||| 2 ^ p) d i).raise .eventLap d i
      else s)

/-! ## Direct I/O -/

/-- The islands that hold DIO cells, in the order of Table 4-7. -/
def dioIslands : List Nat := [0, 1, 2, 3, 4, 7, 8, 11, 12, 13, 14, 15]

/-- The island of DIO cell `k` of a die (Table 4-7). -/
def dioIsland (k : Nat) : Nat := dioIslands.getD (k / 4) 0

/-- A DIO cell before any load (R227). -/
def Dio.init : Dio := ⟨false, false, false, false, false, none⟩

/-- DIO cell `k` of die `d`. -/
def State.dioCell (s : State) (d k : Nat) : Dio := mget s.dio (key2 d k) Dio.init

/-- The state with a DIO cell replaced. -/
def State.setDio (s : State) (d k : Nat) (x : Dio) : State := { s with dio := mset s.dio (key2 d k) x Dio.init }

/-- What a covered ball drives while EXTEST, CLAMP or HIGHZ is in force, which comes before OUT_EN and the device logic; none
where no such instruction is in force (R872, R1104). -/
def State.scanDrive (s : State) (ball : Nat) : Option (Option Bool) :=
  match s.dbg.ir with
  | 0x03 => some (Config.bsdlDrive s.part s.dbg.boundary ball)
  | 0x04 => some (Config.bsdlDrive s.part s.dbg.boundary ball)
  | 0x05 => some none
  | _ => none

/-- Whether a DIO ball is driven from its output register (R211, R220, R231); not while a scan instruction drives it. -/
def State.dioDriven (s : State) (d k : Nat) : Bool :=
  (s.scanDrive (48 * (d - 1) + k)).isNone && s.rb F.DEV_ROLE_CTL_OUT_EN 0 && !(s.island d (dioIsland k)).held && !(s.island d (dioIsland k)).dioHold && (s.dioCell d k).oe

/-- The DIO cells of an island that are driven note the level that they drive (R1006). -/
def State.noteDio (s : State) (d i : Nat) : State :=
  (List.range 48).foldl (fun (s : State) k =>
    if dioIsland k = i && s.dioDriven d k then
      let c := s.dioCell d k
      s.setDio d k { c with driven := some c.out }
    else s) s

/-- The DIO registers of an island take INIT (R217, R228); a cell that was driven keeps the level it last drove (R1006). -/
def State.dioInitAll (s : State) (d i : Nat) : State :=
  let ini := s.dioInit d i
  (List.range 48).foldl (fun s k =>
    if dioIsland k = i then
      let c := s.dioCell d k
      s.setDio d k { c with out := bit ini (k % 4), oe := bit ini (4 + k % 4) }
    else s) s

/-! ## Logic -/

/-- The carry out of a cell in carry mode (R182). -/
def carryOut (p g cin : Bool) : Bool := if p then cin else g

/-- The sum output of a cell in carry mode (R182). -/
def carrySum (p cin : Bool) : Bool := p != cin

/-- The flip-flop's value after an edge (Table 4-1). -/
def ffNext (reset ar sr ce ini d q : Bool) : Bool :=
  if reset || ar || sr then ini else if ce then d else q

/-- The XOR output of a macrocell (R184): the OR of the product terms it takes, XORed with one chosen term or a constant. A
product term is the AND of inputs (`t.1`) and of complements of inputs (`t.2`), as masks over the 36 inputs. -/
def macrocell (inputs : Nat) (terms : List (Nat × Nat)) (invert : Bool) : Bool :=
  (terms.any fun t => inputs &&& t.1 == t.1 && inputs &&& t.2 == 0) != invert

/-- What an arithmetic slice is given at an edge of the logic clock (R200); `pcin` is P of the slice below, 0 for slice 0
(R205). -/
structure SliceIn where
  a : Nat
  b : Nat
  d : Nat
  c : Nat
  op : Nat
  ce : Bool
  sr : Bool
  pcin : Nat
deriving DecidableEq, Repr

/-- A value of `n` bits under the signedness of SIGNED (R201). -/
def sliceInt (signed : Bool) (n v : Nat) : Int :=
  if signed && 2 ^ (n - 1) ≤ v % 2 ^ n then (v % 2 ^ n : Nat) - 2 ^ n else (v % 2 ^ n : Nat)

/-- What the stage register captures (R202, R203): the product or the pre-added product, {A, B} for OP 0b111, and above its
48 bits the C captured with it. -/
def sliceStage (signed : Bool) (x : Slice) : Nat :=
  let pre := match x.op with
    | 1 => (x.a + x.d) % 2 ^ 24
    | 2 => (x.a + (2 ^ 24 - x.d % 2 ^ 24)) % 2 ^ 24
    | _ => x.a % 2 ^ 24
  let v := if x.op = 7 then x.a % 2 ^ 24 * 2 ^ 24 + x.b % 2 ^ 24
    else (sliceInt signed 24 pre * sliceInt signed 24 x.b % 2 ^ 48).toNat
  v + x.c % 2 ^ 48 * 2 ^ 48

/-- The exact result of the operation at the stage register (Table 4-5). -/
def sliceResult (signed : Bool) (x : Slice) (pcin : Nat) : Int :=
  let m := sliceInt signed 48 x.stage
  let v := sliceInt signed 48
  match x.stageOp with
  | 3 => v x.p + m
  | 4 => v x.p - m
  | 5 => v (x.stage / 2 ^ 48) + m
  | 6 => v pcin + m
  | 7 => v (x.stage / 2 ^ 48) + m
  | _ => m

/-- A result in P and OVF: wrapped, or with SAT the nearest representable value (R204). -/
def sliceFit (signed sat : Bool) (r : Int) : Nat × Bool :=
  let lo : Int := if signed then -(2 ^ 47) else 0
  let hi : Int := if signed then 2 ^ 47 - 1 else 2 ^ 48 - 1
  let ovf := decide (r < lo ∨ hi < r)
  (((if ovf && sat then (if r < lo then lo else hi) else r) % 2 ^ 48).toNat, ovf)

/-- An arithmetic slice after an edge of the logic clock (R203 to R206): SR clears every register, CE = 0 holds them all. -/
def sliceEdge (signed sat : Bool) (x : Slice) (q : SliceIn) : Slice :=
  if q.sr then ⟨0, 0, 0, 0, 0, 0, 0, 0, false⟩
  else if !q.ce then x
  else
    let r := sliceFit signed sat (sliceResult signed x q.pcin)
    ⟨q.a % 2 ^ 24, q.b % 2 ^ 24, q.d % 2 ^ 24, q.c % 2 ^ 48, q.op % 8, sliceStage signed x, x.op, r.1, r.2⟩

/-- The registers of a DIO cell after an edge of the logic clock (R210, R213, R218): the input register captures the ball and
the resolution register the input register, whatever OUT_EN is. -/
def dioEdge (x : Dio) (ball dioOut dioOe : Bool) : Dio :=
  { x with inReg := ball, res := x.inReg, out := dioOut, oe := dioOe, ball := ball }

/-- Bits 16c to 16c + 15 of a flip-flop vector replaced by those of another. -/
def putCluster (x y c : Nat) : Nat :=
  x / 2 ^ (16 * c + 16) * 2 ^ (16 * c + 16) + y / 2 ^ (16 * c) % 65536 * 2 ^ (16 * c) + x % 2 ^ (16 * c)

/-- ASYNC_RESET_ASSERT (R179): AR of a cluster reaches 1, and its flip-flops take INIT without a clock edge. -/
def execAsyncResetAssert (d i c : Nat) (s : State) : Out :=
  let x := s.island d i
  .next (s.setIsland d i { x with ar := x.ar ||| 2 ^ c, ff := putCluster x.ff (s.ffInit d i) c })

/-- ASYNC_RESET_RELEASE (R179): the release of AR takes effect at the second logic-clock edge; a stopped logic clock has
no edge. -/
def execAsyncResetRelease (d i c : Nat) (s : State) : Out :=
  let x := s.island d i
  .next (if s.running d i && bit x.ar c then s.setIsland d i { x with ar := x.ar - 2 ^ c } else s)

/-! ## Island reset -/

/-- A block memory before any access. -/
def Bm.init : Bm := ⟨⟨0#48, tagInvalid, false⟩, ⟨0#48, tagInvalid, false⟩, none, none, false, []⟩

/-- Block memory `m` of an island. -/
def State.bm (s : State) (d i m : Nat) : Bm := mget s.bms (key3 d i m) Bm.init

/-- The state with a block memory replaced. -/
def State.setBm (s : State) (d i m : Nat) (b : Bm) : State := { s with bms := mset s.bms (key3 d i m) b Bm.init }

/-- A shadow over an island opens, or an open one is extended with the newer root (R1010, R1022). -/
def State.openShadow (s : State) (d i root : Nat) : State :=
  if s.shadows.any (fun x => x.die == d && x.island == i) then
    { s with shadows := s.shadows.map fun x => if x.die = d ∧ x.island = i then { x with root := root, ended := false } else x }
  else { s with shadows := s.shadows ++ [⟨d, i, root, false, 0, []⟩] }

/-- The reset or load of a shadowed island ends: the shadow ends 2^SHADOW_EXP µs later, or at the end it had already if that
is later (R1010, R1022). -/
def State.shadowEnded (s : State) (d i : Nat) : State :=
  let stop := (s.now + 2 ^ s.rf F.FM_CTL_SHADOW_EXP 0 * 1000) % 2 ^ 48
  { s with shadows := s.shadows.map fun x =>
      if x.die = d ∧ x.island = i then
        let keep := x.stop ≠ 0 ∧ (x.stop + 2 ^ 48 - stop) % 2 ^ 48 < 2 ^ 47
        { x with ended := true, stop := if keep then x.stop else stop }
      else x }

/-- The FIFO of inbound port `p` is emptied: its words are counted in ISL_CH_DROP and their entries freed (R157). -/
def State.flushIn (s : State) (d i p : Nat) : State :=
  match inKey d i p with
  | none => s
  | some k =>
    let c := s.chan k
    let n := c.fifo.length
    let s := s.setChan k { c with fifo := [], acks := c.acks + n, ackT := c.ackT != (n % 2 == 1) }
    if n = 0 then s else s.incE F.ISL_CH_DROP_COUNT d i 0 n

/-- The whole transactions of a word list, and the words left over. A command word with an OP that no request has is dropped alone,
as the ring stop drops it when it takes it. -/
def splitTxns (d i p : Nat) (fuel : Nat) (ws : List TWord) : List Txn × List TWord :=
  match fuel with
  | 0 => ([], ws)
  | f + 1 =>
    match ws with
    | [] => ([], [])
    | c :: tail =>
      if (opOf (bits c.data.toNat 47 44)).isNone then splitTxns d i p f tail
      else match parseTxn d i p ws with
        | none => ([], ws)
        | some (t, rest) => let r := splitTxns d i p f rest; (t :: r.1, r.2)

/-- The ring stop's side of an island reset at outbound port `p`: transactions whose every word had been written into its FIFO go
on and their responses are discarded; one of which only some words had is discarded whole and its words counted, those still on
the wires among them (R1115, R511, log 27). -/
def State.flushStop (s : State) (d i p : Nat) : State :=
  let k := chanKey d i p false
  let c := s.chan k
  let part := mget s.stopPart (key3 d i p) []
  let r := splitTxns d i p (part.length + c.fifo.length) (part ++ c.fifo)
  let n := c.fifo.length + c.flight.length
  let lost := r.2.length + c.flight.length
  let s := s.setChan k { c with
    fifo := [], flight := [], offer := none, stalled := false, acks := c.acks + n, ackT := c.ackT != (n % 2 == 1) }
  let s : State := { s with
    stopPart := mset s.stopPart (key3 d i p) [] []
    stopOut := mset s.stopOut (key3 d i p) [] []
    stopWait := mset s.stopWait (key2 d i) (mget s.stopWait (key2 d i) [] ++ r.1.map fun t => (t, true)) [] }
  if lost = 0 then s else s.incE F.ISL_CH_DROP_COUNT d i 0 lost

/-- The outbound event counts of an island go to 0, and each neighbour's front end counts the jump (R158). -/
def State.resetEvt (s : State) (d i p : Nat) : State :=
  let e := s.evt d i p
  s.setEvt d i p { e with count := 0, front := (if s.evtRuns d i p then 0 else e.front) + (65536 - e.count) % 65536 }

/-- An offer on an outbound port ends with the logic that made it (R1115). -/
def State.dropOffer (s : State) (d i p : Nat) : State :=
  let k := chanKey d i p false
  s.setChan k (s.chan k).withdraw

/-- The effects of an island reset on its channels, event crossings and requests (R157, R158, R159, R511, R1115). -/
def State.resetChannels (s : State) (d i : Nat) : State :=
  let s : State := (List.range 7).foldl (fun s p => s.flushIn d i p) s
  let s : State := (List.range 4).foldl (fun s p => s.dropOffer d i p) s
  let s : State := (List.range 8).foldl (fun s p => s.resetEvt d i p) s
  let s : State := { s with stopWait := mset s.stopWait (key2 d i) ((mget s.stopWait (key2 d i) []).map fun e => (e.1, true)) [] }
  let s : State := [4, 5, 6].foldl (fun s p => s.flushStop d i p) s
  let s : State := { s with outst := s.outst.map fun o => if o.txn.srcDie = d ∧ o.txn.master = i then { o with discard := true } else o }
  s.stopIssue d i

/-- The registers of an island as an island reset and a load leave them: flip-flops and DIO registers at INIT, slice registers 0
(R217, R228, R229). -/
def State.initRegs (s : State) (d i : Nat) : State :=
  (s.setIsland d i { s.island d i with ff := s.ffInit d i, slices := [] }).dioInitAll d i

/-- The effects of an island reset on the island, its channels, its block-memory ports and its requests (R157, R158,
R217, R229, R281, R511, R1115). A cluster whose AR is 1 keeps it: AR is a level that the crossbar drives, and no rule has an
island reset change it (DESIGN CHOICE, log 168). -/
def State.resetIsland (s : State) (d i : Nat) : State :=
  let s := (s.setIsland d i { s.island d i with underReset := true }).initRegs d i
  let s : State := (List.range 24).foldl (fun s m => s.setBm d i m { Bm.init with win := (s.bm d i m).win }) s
  s.resetChannels d i

/-- An island reset begins, with its reaction shadow and root (R157, R1010). -/
def State.beginReset (s : State) (d i root : Nat) : State := (s.resetIsland d i).openShadow d i root

/-- FAB_ISL_RST_WRITE (R233): each 1 requests a reset of its island, unless one is under way or the island is held for
reconfiguration (R391). -/
def State.writeIslRst (s : State) (d w : Nat) : State :=
  (List.range 16).foldl (fun s i =>
    if bit w i && !(s.island d i).held then
      s.wf F.FAB_ISL_RST_RST (s.rf F.FAB_ISL_RST_RST d ||| 2 ^ i) d else s) s

/-- FAB_ISL_RST_WRITE (R233, R75). -/
def execFabIslRstWrite (d : Nat) (w : TWord) (s : State) : Out :=
  if w.tag.toNat < 2 then .next (s.writeIslRst d w.data.toNat)
  else .next (s.regRefuse d (w.tag.toNat - 2) true 0x0F000050)

/-- ISLAND_RESET (R157, R233): the requested reset begins at the island's next oscillator edge. -/
def execIslandReset (d i : Nat) (s : State) : Out :=
  .next (if s.oscRuns && bit (s.rf F.FAB_ISL_RST_RST d) i && !(s.island d i).underReset then s.beginReset d i 0 else s)

/-- ISLAND_RESET_END (R233): after 4 oscillator cycles the reset ends and hardware clears RST_i; a software write of 1 in
that cycle (`again`) leaves it set and starts a new reset (R92). -/
def execIslandResetEnd (d i : Nat) (again : Bool) (s : State) : Out :=
  .next (if s.oscRuns && (s.island d i).underReset then
      let s := (s.setIsland d i { s.island d i with underReset := false }).shadowEnded d i
      let s := if s.running d i then s.evtRestart d i else s
      let r := s.rf F.FAB_ISL_RST_RST d
      if again then s.wf F.FAB_ISL_RST_RST (r ||| 2 ^ i) d
      else if bit r i then s.wf F.FAB_ISL_RST_RST (r - 2 ^ i) d else s
    else s)

/-- RUN_SET_AFTER_LOAD (R149, R221): RUN is set once the running code is at or below LIMIT_CODE. -/
def execRunSetAfterLoad (d i : Nat) (s : State) : Out :=
  .next (if (s.island d i).runWanted && s.rf F.ISL_CLK_STAT_FREQ_RUN d i ≤ s.rf F.FAB_ISL_LIMIT_LIMIT_CODE d i then
      (s.setIsland d i { s.island d i with runWanted := false }).setRun d i true else s)

end Sys2Proof.Machine
end

