-- ==== Sys2Proof/Machine/Memory.lean ====
section
/-!
DEFINITION. Block memories, scratchpad banks, write-backs, patrol reads and the flip mask (chapters 5 and 6).
-/
namespace Sys2Proof.Machine

/-! ## Block-memory ports -/

/-- The protected address of word `w` of block memory `m` of island `i` (Table 6-1). -/
def bmAddr (i m w : Nat) : Nat := 0x01000000 + i * 0x8000 + m * 0x400 + w

/-- Whether port B of a block memory is in WINDOW mode (R242, R286). -/
def State.windowMode (s : State) (d i m : Nat) : Bool := bit (s.rf F.BM_PORTB_MODE_WINDOW d i) m

/-- The word a port address selects (Table 5-1). -/
def portWord (asp addr : Nat) : Nat := addr / (48 / asp) % 1024

/-- The lane a port address selects (Table 5-1). -/
def portLane (asp addr : Nat) : Nat := addr % (48 / asp)

/-- The state with the output registers of port `p`, and its narrow write, replaced. -/
def State.setPort (s : State) (d i m p : Nat) (o : PortOut) (pend : Option (Nat × Cell)) : State :=
  let b := s.bm d i m
  s.setBm d i m (if p = 0 then { b with a := o, pendA := pend } else { b with b := o, pendB := pend, winB := false })

/-- A port presents BUSY, with RDATA and RTAG undefined (R246, R266, R307). -/
def State.portBusy (s : State) (d i m p : Nat) : State :=
  let r := s.freeWord
  r.2.setPort d i m p ⟨r.1.data, r.1.tag, true⟩ none

/-- Whether an access at a port is a narrow write (R241). -/
def State.portNarrow (s : State) (d i m p : Nat) (q : PortReq) : Bool := q.we && s.aspect d i m p != 48

/-- Whether port B's narrow write is that of a window access (R244). -/
def State.winPend (s : State) (d i m : Nat) : Bool := (s.bm d i m).pendB.isSome && (s.bm d i m).winB

/-- An access at a port that is at the second edge of its narrow write is not performed (R307). Where that write is a window
access's, user logic's edge has been stolen (R244, R246). -/
def State.portRefuse (s : State) (d i m p : Nat) : State :=
  let stolen := p = 1 && s.winPend d i m
  let s := s.portBusy d i m p
  if stolen then s.incE F.BM_STEAL_CNT_COUNT d i else s

/-- An access at a port that no other access disturbs: a read, or a read-first write; a narrow write merges its lane
(R238 to R241, R306, R308). A write, a narrow one too, presents the whole word as it was (R240; R239 speaks of reads). -/
def State.portPerform (s : State) (d i m p : Nat) (q : PortReq) : State :=
  let asp := s.aspect d i m p
  let pa := bmAddr i m (portWord asp q.addr)
  let lane := portLane asp q.addr
  let narrow := q.we && asp != 48
  let old := s.cell d pa
  let r := s.readWord d pa (if narrow then .merge else .read) (!q.we)
  let out : PortOut := ⟨if q.we then r.1.data else BitVec.ofNat 48 (laneGet r.1.data asp lane), r.1.tag, false⟩
  let s := r.2.2
  let s := if !q.we then s
    else if !narrow then s.storeWord d pa ⟨q.wdata, q.wtag⟩
    else if r.2.1 then s
    else s.storeWord d pa (mergeLane r.1 asp lane ⟨q.wdata, q.wtag⟩)
  s.setPort d i m p out (if narrow then some (portWord asp q.addr, old) else none)

/-- The write of an access whose port presents BUSY (Table 5-7, read then write): the old word is decoded as for any write (R240). -/
def State.portStore (s : State) (d i m p : Nat) (q : PortReq) : State :=
  let asp := s.aspect d i m p
  let pa := bmAddr i m (portWord asp q.addr)
  if asp = 48 then (s.readWord d pa .read false).2.2.storeWord d pa ⟨q.wdata, q.wtag⟩
  else s.narrowWord d pa asp (portLane asp q.addr) ⟨q.wdata, q.wtag⟩

/-- The narrow write that was the last access of port `p`: its word, and the cell as it was before. -/
def State.portPend (s : State) (d i m p : Nat) : Option (Nat × Cell) :=
  if p = 0 then (s.bm d i m).pendA else (s.bm d i m).pendB

/-- Whether an access at port `p` falls on the second edge of the port's own narrow write (R307). -/
def State.portTaken (s : State) (d i m p : Nat) (q : PortReq) : Bool := (s.portPend d i m p).isSome && q.consec

/-- An access at a port at one of its edges: at the edge after a narrow write it is not performed (R307). -/
def State.portAccess (s : State) (d i m p : Nat) (q : PortReq) : State :=
  if s.portTaken d i m p q then s.portRefuse d i m p else s.portPerform d i m p q

/-- A collision is counted, and recorded while VALID is 0 (R265, R276, R284). KIND 0 read then write, 1 write then
read, 2 write against write. -/
def State.collide (s : State) (d i m kind word : Nat) (window : Bool) : State :=
  let s := s.incE (if kind = 2 then F.BM_WW_CNT_COUNT else F.BM_RW_CNT_COUNT) d i m
  let s := if s.rb F.BM_COLL_LAST_VALID d i then s else
    s.ww .BM_COLL_LAST (2 ^ 47 + kind * 2 ^ 45 + b2n window * 2 ^ 44 + m * 2 ^ 10 + word) d i
  if kind = 2 then s.raise .blockMemoryWriteCollision d i (s.rw .BM_COLL_LAST d i) else s

/-- An access of port `p` that falls within the narrow write of the other port: on the same word they collide, the narrow write
being the earlier; a narrow write of port B leaves the word to port A's write (R323, Table 5-7). WINDOW is recorded where port B
served a window access (R284). -/
def State.portMid (s : State) (d i m p : Nat) (q : PortReq) : State :=
  let window := p = 0 && s.winPend d i m
  match s.portPend d i m (1 - p) with
  | none => s.portAccess d i m p q
  | some (w, c) =>
    if !q.mid || portWord (s.aspect d i m p) q.addr ≠ w then s.portAccess d i m p q
    else if !q.we then (s.portBusy d i m p).collide d i m 1 w window
    else if p = 0 then (((s.setCell d (bmAddr i m w) c).portAccess d i m 0 q).portBusy d i m 1).collide d i m 2 w window
    else (s.portBusy d i m 1).collide d i m 2 w window

/-- Which of two accesses that collide counts as the earlier: of one narrow write and another access the narrow write, otherwise
the one whose edge is the earlier (R263, R323). -/
def narrowFirst (narrowA narrowB aFirst : Bool) : Bool := if narrowA != narrowB then narrowA else aFirst

/-- Both ports access a block memory less than t_COLL apart, on one clock, where port A's edge is the earlier. On one word, with
at least one write, they collide as in Table 5-7 (R262 to R266, R323). -/
def State.portPair (s : State) (d i m : Nat) (qa qb : PortReq) : State :=
  let wa := portWord (s.aspect d i m 0) qa.addr
  let wb := portWord (s.aspect d i m 1) qb.addr
  let aFirst := narrowFirst (s.portNarrow d i m 0 qa) (s.portNarrow d i m 1 qb) true
  if s.portTaken d i m 0 qa then (s.portMid d i m 1 qb).portRefuse d i m 0
  else if s.portTaken d i m 1 qb then
    let stolen := s.winPend d i m
    let s := (s.portMid d i m 0 qa).portBusy d i m 1
    if stolen then s.incE F.BM_STEAL_CNT_COUNT d i else s
  else if wa ≠ wb || (!qa.we && !qb.we) then
    (s.portAccess d i m 0 qa).portAccess d i m 1 qb
  else if qa.we && qb.we then
    ((s.portAccess d i m 0 qa).portBusy d i m 1).collide d i m 2 wa false
  else
    let p1 := if aFirst then 0 else 1
    let q1 := if aFirst then qa else qb
    let q2 := if aFirst then qb else qa
    let s := s.portAccess d i m p1 q1
    let s := if q2.we then s.portStore d i m (1 - p1) q2 else s
    (s.portBusy d i m (1 - p1)).collide d i m (if q1.we then 1 else 0) wa false

/-- BM_PORT_ACCESS (R238, R263): the accesses that user logic offers at ports A and B at one edge of the island's logic
clock. In WINDOW mode port B takes no user access (R243); the ports share one clock, so port A is the earlier. -/
def execBmPortAccess (d i m : Nat) (qa qb : Option PortReq) (s : State) : Out :=
  .next (if !s.running d i then s
    else
      let qb := if s.windowMode d i m then none else qb
      match qa, qb with
      | none, none => s
      | some a, none => s.portMid d i m 0 a
      | none, some b => s.portMid d i m 1 b
      | some a, some b => s.portPair d i m a b)

/-! ## Window accesses -/

/-- The window accesses of a block memory replaced. -/
def State.setWin (s : State) (d i m : Nat) (w : List WinReq) : State := s.setBm d i m { s.bm d i m with win := w }

/-- The first window access of a block memory has performed one word, with `w` read: it goes on, or ends with its response.
The words of a stream write return their credits (R492). -/
def State.winDone (s : State) (d i m : Nat) (r : WinReq) (rest : List WinReq) (w : TWord) : State :=
  let acc := if r.txn.op = .read then r.acc ++ [w] else r.acc
  let s := s.creditBack r.txn 1
  let s := s.setWin d i m (if r.done + 1 < r.txn.len then { r with done := r.done + 1, acc := acc, repeats := 0 } :: rest else rest)
  if r.done + 1 < r.txn.len || r.txn.op ≠ .read then s else s.respond r.txn 0 acc

/-- Port B of a block memory is left with the narrow write of a window access, or none (R307, R323). -/
def State.setPendB (s : State) (d i m : Nat) (p : Option (Nat × Cell)) : State :=
  s.setBm d i m { s.bm d i m with pendB := p, winB := p.isSome }

/-- One word of a window access on port B with aspect 48, undisturbed (R240, R244, R306). -/
def State.winWord (s : State) (d i m : Nat) (t : Txn) (k : Nat) : TWord × State :=
  let pa := addrLocal t.addr + k
  match t.op with
  | .read => let r := s.readWord d pa .read true; (r.1, r.2.2.setPendB d i m none)
  | .narrowWrite =>
    (noWord, (s.narrowWord d pa t.laneW t.lane (t.words.getD k noWord)).setPendB d i m (some (pa % 0x400, s.cell d pa)))
  | _ => (noWord, ((s.readWord d pa .read false).2.2.storeWord d pa (t.words.getD k noWord)).setPendB d i m none)

/-- A window read that received BUSY: it is to be repeated, or after the sixteenth repeat answered without data (R267, R275). -/
def State.winBusy (s : State) (d i m : Nat) (r : WinReq) (rest : List WinReq) : State :=
  if r.repeats < 16 then s.setWin d i m ({ r with repeats := r.repeats + 1 } :: rest)
  else
    let s := (s.incE F.BM_WIN_ABANDON_CNT_COUNT d i).raise .windowReadAbandoned d i
    s.winDone d i m r rest noWord

/-- A window access that falls within a narrow write of port A on its word: a read receives BUSY, a write is dropped (R323). -/
def State.winMid (s : State) (d i m : Nat) (r : WinReq) (rest : List WinReq) (w : Nat) : State :=
  if r.txn.op = .read then (s.collide d i m 1 w true).winBusy d i m r rest
  else (s.collide d i m 2 w true).winDone d i m r rest noWord

/-- The first window access of a block memory at port B, with the access `qa` of port A that falls less than t_COLL from
it, if any; `bFirst` tells that port B's edge is the earlier, and a narrow write comes before another access (Table 5-7, R268,
R323). -/
def State.winAccess (s : State) (d i m : Nat) (r : WinReq) (rest : List WinReq) (qa : Option PortReq) (bFirst : Bool) : State :=
  let w := addrLocal r.txn.addr % 0x400 + r.done
  let bWrites := decide (r.txn.op ≠ .read)
  let narrowB := decide (r.txn.op = .narrowWrite)
  match qa with
  | none => let x := s.winWord d i m r.txn r.done; x.2.winDone d i m r rest x.1
  | some a =>
    if s.portTaken d i m 0 a || portWord (s.aspect d i m 0) a.addr ≠ w || (!a.we && !bWrites) then
      let s := s.portAccess d i m 0 a
      let x := s.winWord d i m r.txn r.done
      x.2.winDone d i m r rest x.1
    else if a.we && bWrites then
      ((s.portAccess d i m 0 a).collide d i m 2 w true).winDone d i m r rest noWord
    else if !narrowFirst (s.portNarrow d i m 0 a) narrowB (!bFirst) then
      let x := s.winWord d i m r.txn r.done
      let s := if a.we then x.2.portStore d i m 0 a else x.2
      ((s.portBusy d i m 0).collide d i m (b2n bWrites) w true).winDone d i m r rest x.1
    else
      let s := s.portAccess d i m 0 a
      if bWrites then
        let x := s.winWord d i m r.txn r.done
        (x.2.collide d i m 0 w true).winDone d i m r rest x.1
      else (s.collide d i m 1 w true).winBusy d i m r rest

/-- Which edge of a window access and a port A access is the earlier: on one clock port A's, on two clocks the one that
arrives first (R263, R268). -/
def State.bEarlier (s : State) (d i m : Nat) (bFirst : Bool) : Bool := s.windowMode d i m && bFirst

/-- A window access at an edge of port B: within a narrow write of port A on its word (`mid`) it collides with that one, port A
being at its second edge (R307, R323). -/
def State.winEdge (s : State) (d i m : Nat) (r : WinReq) (rest : List WinReq) (qa : Option PortReq) (bFirst mid : Bool) : State :=
  let w := addrLocal r.txn.addr % 0x400 + r.done
  match s.portPend d i m 0 with
  | some (x, _) =>
    if mid && x == w then
      let s := s.winMid d i m r rest w
      match qa with | some a => s.portAccess d i m 0 a | none => s
    else s.winAccess d i m r rest qa bFirst
  | none => s.winAccess d i m r rest qa bFirst

/-- WINDOW_ACCESS (R244, R245, R247): the first waiting window access takes a free edge of port B. It waits while the
island is held for reconfiguration (R274). -/
def execWindowAccess (d i m : Nat) (qa : Option PortReq) (bFirst mid : Bool) (s : State) : Out :=
  .next (if (s.island d i).held then s
    else match (s.bm d i m).win with
      | [] => s
      | r :: rest => if r.repeats = 0 then s.winEdge d i m r rest (if s.running d i then qa else none) (s.bEarlier d i m bFirst) mid else s)

/-- A steal cycle displaces user logic's access: port B presents BUSY to it, and the cycle is counted (R246). -/
def State.stealBusy (s : State) (d i m : Nat) : State :=
  let p := s.portPend d i m 1
  ((s.portBusy d i m 1).setPendB d i m p).incE F.BM_STEAL_CNT_COUNT d i

/-- WINDOW_STEAL (R245, R246, R268): after WIN_STEAL edges the window access takes port B; user logic's access there is
not performed and port B presents BUSY. The second edge of a narrow write is stolen where user logic presents an access at it
(R244), which `portRefuse` counts. A read that repeats steals in its own way (R267). -/
def execWindowSteal (d i m : Nat) (qa : Option PortReq) (mid : Bool) (s : State) : Out :=
  .next (if (s.island d i).held || s.windowMode d i m || !s.running d i then s
    else match (s.bm d i m).win with
      | [] => s
      | r :: rest => if r.repeats = 0 then (s.winEdge d i m r rest qa false mid).stealBusy d i m else s)

/-- WINDOW_READ_REPEAT (R267, R275): a window read that received BUSY is performed again; the sixteenth repeat that
receives BUSY is the last. `steal` is true where it takes a steal cycle in FABRIC mode. -/
def execWindowReadRepeat (d i m : Nat) (qa : Option PortReq) (bFirst mid steal : Bool) (s : State) : Out :=
  .next (match (s.bm d i m).win with
    | [] => s
    | r :: rest =>
      if r.repeats = 0 || (s.island d i).held then s
      else
        let s := s.winEdge d i m r rest (if s.running d i then qa else none) (s.bEarlier d i m bFirst) mid
        if steal && !s.windowMode d i m && s.running d i then s.stealBusy d i m else s)

/-! ## Scratchpad banks -/

/-- A bank with nothing waiting (R282). -/
def Bank.init : Bank := ⟨[], 0, 0, false, 0⟩

/-- A scratchpad bank of a die. -/
def State.bank (s : State) (d b : Nat) : Bank := mget s.banks (key2 d b) Bank.init

/-- The state with a bank replaced. -/
def State.setBank (s : State) (d b : Nat) (x : Bank) : State := { s with banks := mset s.banks (key2 d b) x Bank.init }

/-- The array of a bank of a die. -/
def bankArr (d b : Nat) : Arr := if d = 0 then .iosp b else .sp b

/-- The class of a request at a bank of die `d`, and its requester within the class (Table 5-3, R258). -/
def bankClass (d : Nat) (t : Txn) : Nat × Nat :=
  if t.vc = .streams then
    if t.srcDie = d && d = 0 && 4 ≤ t.master && t.master < 8 then (4, t.master - 4)
    else if t.srcDie = d && 20 ≤ t.master && t.master < 28 then (4, t.master - 20) else (4, 8)
  else if t.srcDie = d then
    if d = 0 then (if t.master = 0 then (1, 0) else if 4 ≤ t.master ∧ t.master < 8 then (4, t.master - 4) else (3, 0))
    else if 16 ≤ t.master ∧ t.master < 20 then (1, t.master - 16)
    else if 20 ≤ t.master ∧ t.master < 28 then (4, t.master - 20) else (3, 0)
  else (3, 0)

/-- A transaction is presented at a bank. -/
def State.bankPresent (s : State) (d b : Nat) (t : Txn) : State :=
  let c := bankClass d t
  let x := s.bank d b
  s.setBank d b { x with reqs := x.reqs ++ [⟨t, c.1, c.2, 0, [], false, false⟩] }

/-- The position of the request of a class that a rotation starting at `rot` serves next, `n` requesters in all. -/
def rotPick (reqs : List BankReq) (cls rot n : Nat) : Option Nat :=
  (List.range n).findSome? fun k =>
    let w := (rot + k) % n
    let j := reqs.findIdx fun r => r.cls == cls && r.who == w
    if j < reqs.length then some j else none

/-- The request a bank serves next: class 1 in rotation, a write-back (none), class 3 in order of arrival, class 4 in
rotation (R251 to R253). The answer `some (some j)` is request `j`, `some none` the oldest write-back. -/
def Bank.pick (x : Bank) (wb : Bool) : Option (Option Nat) :=
  match rotPick x.reqs 1 x.rot1 4 with
  | some j => some (some j)
  | none =>
    if wb then some none
    else
      let j := x.reqs.findIdx fun r => r.cls == 3
      if j < x.reqs.length then some (some j) else (rotPick x.reqs 4 x.rot4 10).map some

/-- The oldest write-back of an array is written to it (R302, R318). -/
def State.wbHead (s : State) (d : Nat) (a : Arr) : State :=
  match s.wbq d a with
  | [] => s
  | e :: rest => (s.putWord d e.pa e.word).setWbq d a rest

/-- One word of a request at a bank: the word read, whether it takes a second cycle, and the state (R250, R254, R306). -/
def State.bankWord (s : State) (d : Nat) (r : BankReq) : TWord × Bool × State :=
  let pa := addrLocal r.txn.addr + r.done
  match r.txn.op with
  | .read => let x := s.readWord d pa (if r.patrol then .patrol else .read) true; (x.1, false, x.2.2)
  | .write => (noWord, false, s.storeWord d pa (r.txn.words.getD r.done noWord))
  | .narrowWrite => (noWord, true, s.narrowWord d pa r.txn.laneW r.txn.lane (r.txn.words.getD r.done noWord))
  | .add => let x := s.atomicWord d pa false (r.txn.words.getD 0 noWord); (x.1, true, x.2)
  | .swap => let x := s.atomicWord d pa true (r.txn.words.getD 0 noWord); (x.1, true, x.2)

/-- A bank serves request `j`: one word of it, and its response once every word is done (R250, R251); the words of a stream
write return their credits as they leave the landing buffer (R492). -/
def State.bankServe (s : State) (d b j : Nat) (r : BankReq) : State :=
  let x := s.bank d b
  let y := s.bankWord d r
  let acc := if isReq r.txn then r.acc ++ [y.1] else r.acc
  let fin := decide (r.txn.len ≤ r.done + 1)
  let reqs := if fin then x.reqs.eraseIdx j else x.reqs.set j { r with done := r.done + 1, acc := acc }
  let s := (y.2.2.creditBack r.txn 1).setBank d b { x with
    reqs := reqs, second := y.2.1
    rot1 := if r.cls = 1 then (r.who + 1) % 4 else x.rot1
    rot4 := if r.cls = 4 then (r.who + 1) % 10 else x.rot4 }
  if fin && isReq r.txn && !r.patrol then s.respond r.txn 0 acc else s

/-- One cycle of a bank: the second cycle of an atomic or a narrow write completes, otherwise the chosen request is
served; a cycle in use is counted (R249 to R256, R292). -/
def State.bankCycle (s : State) (d b : Nat) : State :=
  let x := s.bank d b
  if x.second then (s.setBank d b { x with second := false }).incE F.SP_BANK_USE_COUNT d b
  else match x.pick (!(s.wbq d (bankArr d b)).isEmpty) with
    | none => s
    | some none => (s.wbHead d (bankArr d b)).incE F.SP_BANK_USE_COUNT d b
    | some (some j) =>
      match x.reqs[j]? with
      | none => s
      | some r => (s.bankServe d b j r).incE F.SP_BANK_USE_COUNT d b

/-- BANK_ACCESS (R250): one cycle of a bank; `cycles` is the number of bank cycles of the die since the last one that was
counted in SP_SAMPLE_CNT (R292). -/
def execBankAccess (d b cycles : Nat) (s : State) : Out :=
  .next ((s.incE F.SP_SAMPLE_CNT_COUNT d 0 0 cycles).bankCycle d b)

/-- A request has been starved: counted, recorded while VALID is 0, and raised (R277, R291). -/
def State.starve (s : State) (d b cls : Nat) : State :=
  let s := s.incE F.SP_STARVE_CNT_COUNT d
  let s := if s.rb F.SP_STARVE_LAST_VALID d then s else s.ww .SP_STARVE_LAST (2 ^ 47 + (cls - 1) * 2 ^ 8 + b) d
  s.raise .scratchpadBankStarvation d b (s.rw .SP_STARVE_LAST d)

/-- BANK_STARVATION (R277): waiting request `n` of a bank, or (`wb`) its queued write-back `n`, has waited
2^(STARVE_EXP+6) cycles. Class 1 and patrol reads are not covered; each request is counted once. -/
def execBankStarvation (d b : Nat) (wb : Bool) (n : Nat) (s : State) : Out :=
  let x := s.bank d b
  .next (if !s.rb F.SP_CTL_STARVE_EN d then s
    else if wb then
      let q := s.wbq d (bankArr d b)
      match q[n]? with
      | some e => if e.starved then s else (s.setWbq d (bankArr d b) (q.set n { e with starved := true })).starve d b 2
      | none => s
    else match x.reqs[n]? with
      | some r => if r.starved || r.patrol || r.cls = 1 then s
        else (s.setBank d b { x with reqs := x.reqs.set n { r with starved := true } }).starve d b r.cls
      | none => s)

/-- A write-back at port B of a block memory, with the access `qa` of port A that falls less than t_COLL from it, if any: like a
window write (R302, R244, Table 5-7). A write of port A to the word cancels it (R303), in FABRIC mode without a collision (R324). -/
def State.wbPort (s : State) (d i m : Nat) (qa : Option PortReq) (bFirst : Bool) : State :=
  let a := Arr.bm i m
  match s.wbq d a, qa with
  | [], _ => s
  | _, none => s.wbHead d a
  | e :: _, some q =>
    let w := e.pa % 0x400
    if s.portTaken d i m 0 q || portWord (s.aspect d i m 0) q.addr ≠ w then (s.portAccess d i m 0 q).wbHead d a
    else if q.we then
      let s := s.portAccess d i m 0 q
      if s.windowMode d i m then s.collide d i m 2 w true else s
    else if s.bEarlier d i m bFirst then ((s.wbHead d a).portBusy d i m 0).collide d i m 1 w true
    else ((s.portAccess d i m 0 q).wbHead d a).collide d i m 0 w true

/-- PATROL_READ (R309): a bank presents a patrol read of its next word as a class 4 request. -/
def execPatrolRead (d b : Nat) (s : State) : Out :=
  let x := s.bank d b
  .next (if s.rb F.PROT_CTL_PATROL_EN d (if d = 0 then 0 else 1) then
      let t : Txn := ⟨.read, d, 0, 0, b * 0x8000 + x.patrol, 1, 48, 0, [], .requests, 0⟩
      s.setBank d b { x with reqs := x.reqs ++ [⟨t, 4, 9, 0, [], false, true⟩], patrol := (x.patrol + 1) % 0x8000 }
    else s)

/-- FLIP_MASK_ARM (R317): a write of PROT_FLIP_CTL stores its fields; ARM = 1 arms the mask, also in a cycle in which
hardware clears it (`hwClear`, Table 2-11). -/
def execFlipMaskArm (d : Nat) (w : TWord) (hwClear : Bool) (s : State) : Out :=
  if w.tag.toNat < 2 then
    .next (s.plainWrite ⟨.PROT_FLIP_CTL, d, 0, 0⟩ w.data.toNat (if hwClear then [.clear 47 47] else []))
  else .next (s.regRefuse d (w.tag.toNat - 2) true (if d = 0 then 0x0F000321 else 0x0F0000A1))

end Sys2Proof.Machine
end

