-- ==== Sys2Proof/Machine/Dram.lean ====
section
/-!
DEFINITION. The DRAM channels (chapter 10): acceptance, the address map, disturbance defences, refresh, fill, encryption,
training and retirement.
-/
namespace Sys2Proof.Machine

/-- A channel at power-on (R588). -/
def Dram.init : Dram := ⟨[], [], 0, [], [], [], [], [], [], [], 0, [], 0, 0, false, false, 0, []⟩

/-- A channel. -/
def State.dram (s : State) (c : Nat) : Dram := mget s.drams c Dram.init

/-- The state with a channel replaced. -/
def State.setDram (s : State) (c : Nat) (x : Dram) : State := { s with drams := mset s.drams c x Dram.init }

/-! ## Geometry -/

/-- STATE of a channel (Table 10-13); channel 1 of an AQZ-20 is absent (R587). -/
def State.dramState (s : State) (c : Nat) : Nat := if c = 1 && s.is20 then 6 else s.rf F.DRAM_STAT_STATE 0 c

/-- Words of one rank, as a power of two (Table 10-2). -/
def State.rankBits (s : State) (c : Nat) : Nat :=
  (if s.rf F.DRAM_GEOM_WIDTH 0 c = 0 then 29 else 28) + s.rf F.DRAM_GEOM_DENSITY 0 c

/-- Words of the fitted capacity of a channel (R524, Table 10-2). -/
def State.dramWords (s : State) (c : Nat) : Nat := 2 ^ (s.rankBits c + s.rf F.DRAM_GEOM_RANKS 0 c)

/-- The local word address of channel word 0 (R525). -/
def dramBase (c : Nat) : Nat := 0x100000000 * (c + 1)

/-- Where a channel word lies: its rank, its bank with the bank group (bank * 8 + group), and its row (Table 10-3). -/
structure DramLoc where
  rank : Nat
  bank : Nat
  row : Nat
deriving DecidableEq, Repr

/-- The place of channel word `w` (R525). -/
def State.dramLoc (s : State) (c w : Nat) : DramLoc :=
  let rb := s.rankBits c
  if s.rf F.DRAM_GEOM_WIDTH 0 c = 0 then ⟨w / 2 ^ rb, bits w 13 12 * 8 + bits w 4 3, bits w (rb - 1) 14⟩
  else ⟨w / 2 ^ rb, bits w 12 11 * 8 + bits w 3 3, bits w (rb - 1) 13⟩

/-- The key of a bank of a rank. -/
def bankKey (l : DramLoc) : Nat := l.rank * 64 + l.bank

/-- The bursts that `n` words from channel word `w` touch: the first word of each. -/
def burstsOf (w n : Nat) : List Nat := (List.range ((w + n + 7) / 8 - w / 8)).map fun k => (w / 8 + k) * 8

/-- The bursts of an accepted transaction. -/
def accBursts (c : Nat) (t : Txn) : List Nat := burstsOf (addrLocal t.addr - dramBase c) t.len

/-- Bursts queued at the bank of channel word `w` (R532). -/
def State.bankQueued (s : State) (c w : Nat) : Nat :=
  let k := bankKey (s.dramLoc c w)
  (s.dram c).acc.foldl (fun n a => n + (a.todo.filter fun b => bankKey (s.dramLoc c b.1) == k).length) 0

/-- Words that the write buffer holds (R528). -/
def State.wbufWords (s : State) (c : Nat) : Nat := (s.dram c).acc.foldl (fun n a => n + a.txn.words.length) 0

/-! ## Regions and encryption -/

/-- The key slot that governs a fill unit: of the enabled regions that cover it the lowest-numbered (R563, R564). -/
def State.dramKeySlot (s : State) (c u : Nat) : Option Nat :=
  ((List.range 16).find? fun j => s.rb F.DRAM_REGION_EN 0 c j && s.rf F.DRAM_REGION_BASE 0 c j ≤ u
    && u ≤ s.rf F.DRAM_REGION_LIMIT 0 c j).map fun j => s.rf F.DRAM_REGION_KEY 0 c j

/-- The key in force for channel word `w`, if it is encrypted (R563); an unloaded slot holds 0 (R588). -/
def State.dramKey (s : State) (c w : Nat) : Option Nat :=
  (s.dramKeySlot c (w / 4096)).map fun k => mget (s.dram c).keys k 0

/-- The region setting in force for channel word `w`: 0 outside every region, else its key slot and the key in it (R563, R572). -/
def State.dramSetting (s : State) (c w : Nat) : Nat :=
  match s.dramKeySlot c (w / 4096) with
  | none => 0
  | some k => 1 + k + 8 * mget (s.dram c).keys k 0

/-- `n` channel words from `w` on are written under a setting (R572). -/
def State.setUnder (s : State) (c w n v : Nat) : State :=
  let x := s.dram c
  let new := if v = 0 then [] else (List.range n).map fun i => (w + i, v)
  s.setDram c { x with under := (x.under.filter fun e => decide (e.1 < w)) ++ new ++ x.under.filter fun e => decide (w + n ≤ e.1) }

/-- Whether channel word `w` was last written under another setting than the one in force (R572). -/
def State.oddWord (s : State) (c w : Nat) : Bool := mget (s.dram c).under w 0 != s.dramSetting c w

/-- `n` words of undefined data and tag (R572). -/
def State.freeWords (s : State) (n : Nat) : List TWord × State :=
  match n with
  | 0 => ([], s)
  | k + 1 => let r := s.freeWords k; let y := r.2.freeWord; (r.1 ++ [y.1], y.2)

/-- The tweak of a data unit (R566). -/
def xtsTweak (c w : Nat) : Nat := c * 2 ^ 40 + w / 8

/-- The 400 bits of a data unit of 8 words (R566). -/
def packUnit (ws : List TWord) : Nat :=
  match ws with
  | [] => 0
  | w :: t => w.data.toNat + w.tag.toNat * 2 ^ 48 + 2 ^ 50 * packUnit t

/-- The first `n` words of a data unit (R566). -/
def unpackUnit (n x : Nat) : List TWord :=
  match n with
  | 0 => []
  | k + 1 => ⟨BitVec.ofNat 48 x, BitVec.ofNat 2 (x / 2 ^ 48)⟩ :: unpackUnit k (x / 2 ^ 50)

/-- A data unit encrypted under a key (R566). -/
def encUnit (key c w : Nat) (ws : List TWord) : List TWord :=
  unpackUnit 8 (leNat (xtsEnc (leBytes 32 key) (leBytes 32 (key / 2 ^ 256)) (xtsTweak c w) (leBytes 50 (packUnit ws))))

/-- A data unit decrypted under a key (R567). -/
def decUnit (key c w : Nat) (ws : List TWord) : List TWord :=
  unpackUnit 8 (leNat (xtsDec (leBytes 32 key) (leBytes 32 (key / 2 ^ 256)) (xtsTweak c w) (leBytes 50 (packUnit ws))))

/-! ## Fill -/

/-- Whether a fill unit has been filled (R557). -/
def State.unitFilled (s : State) (c u : Nat) : Bool := bit (s.dram c).filled u

/-- The words of a fill unit written with data 0, tag 0b10 and good check bits, under the region in force (R557, R571). -/
def State.fillWords (s : State) (c u : Nat) : State :=
  let lo := dramBase c + u * 4096
  let a : Arr := .dram c
  let s := s.setWbq 0 a ((s.wbq 0 a).filter fun e => e.pa < lo || lo + 4096 ≤ e.pa)
  let s : State := { s with mem := s.mem.filter fun e => e.1 < memKey 0 lo || memKey 0 (lo + 4096) ≤ e.1 }
  let s := s.setUnder c (u * 4096) 4096 (s.dramSetting c (u * 4096))
  match s.dramKey c (u * 4096) with
  | none => s
  | some key => (List.range 512).foldl (fun s g =>
      let w := u * 4096 + g * 8
      let ws := encUnit key c w (noWords 8)
      (List.range 8).foldl (fun s i => s.putWord 0 (dramBase c + w + i) (ws.getD i noWord)) s) s

/-- The lowest fill unit from `u` on, below `u + n`, whose bit in `m` is `v`. -/
def nextUnit (m : Nat) (v : Bool) (n u : Nat) : Option Nat :=
  match n with
  | 0 => none
  | k + 1 => if bit m u == v then some u else nextUnit m v k (u + 1)

/-! ## Row-disturbance defences -/

/-- A victim refresh of a row is scheduled: it joins its rank's queue of 8, or with the queue full holds the activates of
its bank until there is room (R548, R553). -/
def State.victimRefresh (s : State) (c : Nat) (l : DramLoc) : State :=
  let x := s.dram c
  let q := mget x.victims l.rank []
  if q.length < 8 then s.setDram c { x with victims := mset x.victims l.rank (q ++ [(l.bank, l.row)]) [] }
  else
    let h := mget x.held l.rank []
    let s := s.setDram c { x with held := mset x.held l.rank (h ++ [(l.bank, l.row)]) [] }
    (s.incE F.DRAM_THROTTLE_CNT_COUNT 0 c).raise .dramActivateThrottled 0 c

/-- The key of entry `e` of a bank's counted table. -/
def tableKey (l : DramLoc) (e : Nat) : Nat := bankKey l * 32 + e

/-- The entry that an activate takes in a bank's counted table and its new count (R550): the row's own entry, else a free
one with count 1, else that with the lowest count, the lowest-numbered on a tie. -/
def Dram.tableEnter (x : Dram) (l : DramLoc) : Nat × Nat :=
  let es := (List.range 32).map fun e => (e, mget x.tables (tableKey l e) (0, 0))
  match es.find? fun e => e.2.2 ≠ 0 && e.2.1 = l.row with
  | some e => (e.1, e.2.2 + 1)
  | none =>
    match es.find? fun e => e.2.2 = 0 with
    | some e => (e.1, 1)
    | none =>
      let m := es.foldl (fun b e => if e.2.2 < b.2.2 then e else b) (es.getD 0 (0, (0, 0)))
      (m.1, m.2.2 + 1)

/-- An activate of a row: it opens the row and is entered under the defence of the channel (R549, R550). -/
def State.activate (s : State) (c : Nat) (l : DramLoc) : State :=
  let x := s.dram c
  let s := s.setDram c { x with rows := mset x.rows (bankKey l) (l.row + 1) 0 }
  if s.rb F.DRAM_RD_CTL_DEFENCE 0 c then
    let x := s.dram c
    let e := x.tableEnter l
    if s.rf F.DRAM_RD_CTL_THRESH 0 c ≤ e.2 then
      (s.setDram c { x with tables := mset x.tables (tableKey l e.1) (0, 0) (0, 0) }).victimRefresh c l
    else s.setDram c { x with tables := mset x.tables (tableKey l e.1) (l.row, e.2) (0, 0) }
  else
    let r := s.free
    if r.1 % 2 ^ s.rf F.DRAM_RD_CTL_K 0 c = 0 then r.2.victimRefresh c l else r.2

/-- Whether the row of a place is open. -/
def Dram.rowOpen (x : Dram) (l : DramLoc) : Bool := mget x.rows (bankKey l) 0 == l.row + 1

/-- Whether a bank's activates are held (R553). -/
def Dram.bankHeld (x : Dram) (l : DramLoc) : Bool := (mget x.held l.rank []).any fun h => h.1 == l.bank

/-- A burst that is no transaction's reaches its row: a closed row is activated first. -/
def State.touch (s : State) (c w : Nat) : State := if (s.dram c).rowOpen (s.dramLoc c w) then s else s.activate c (s.dramLoc c w)

/-- Whether the activate that a burst needs is held (R553). -/
def State.touchHeld (s : State) (c w : Nat) : Bool := !(s.dram c).rowOpen (s.dramLoc c w) && (s.dram c).bankHeld (s.dramLoc c w)

/-- One word in each bank that the 512 write bursts of a fill unit go to (Table 10-3). -/
def State.fillBanks (s : State) (c u : Nat) : List Nat :=
  (if s.rf F.DRAM_GEOM_WIDTH 0 c = 0 then [0, 8, 16, 24] else [0, 8, 2048, 2056]).map fun k => u * 4096 + k

/-- A fill unit is filled by 512 write bursts and its bit set; FILL_DONE follows when the fitted capacity is filled (R557, R560, R561). -/
def State.fillUnit (s : State) (c u : Nat) : State :=
  let s := ((s.fillBanks c u).foldl (fun (s : State) w => s.touch c w) s).fillWords c u
  let x := s.dram c
  let f := x.filled ||| 2 ^ u
  let cap := s.dramWords c / 4096
  (s.setDram c { x with filled := f }).wf F.DRAM_STAT_FILL_DONE (b2n (f % 2 ^ cap == 2 ^ cap - 1)) 0 c

/-! ## Scheduling -/

/-- The group of a requester (R534, Table 10-5). -/
def requesterGroup (die m : Nat) : Nat :=
  if die = 5 then 7
  else if die = 0 then (if 4 ≤ m && m < 8 then 3 else if m = 8 then 5 else if m = 9 then 6 else 4)
  else if m < 16 then 1 else if m < 20 then 0 else 2

/-- The service class that DRAM_CLASS_MAP gives a transaction's requester (R533). -/
def State.dramClass (s : State) (c : Nat) (t : Txn) : Nat :=
  let g := requesterGroup t.srcDie t.master
  bits (s.rf F.DRAM_CLASS_MAP_CLASSES 0 c) (2 * g + 1) (2 * g)

/-- Whether a burst of an earlier accepted transaction of the same aligned 64-word block is still to be issued (R530). -/
def Dram.blockBusy (x : Dram) (n : Nat) (t : Txn) : Bool := (x.acc.take n).any fun a => a.txn.addr / 64 == t.addr / 64 && a.todo != []

/-- A burst that may issue: the number of its transaction among those accepted, its first word, its place, whether its row is open, the
times it has been passed over, and its rank in class mode (a promoted transaction above every class). -/
structure DramEntry where
  n : Nat
  w : Nat
  loc : DramLoc
  isOpen : Bool
  passed : Nat
  rank : Nat
deriving DecidableEq, Repr

/-- The bursts that may issue, oldest first: in order within a block (R530), and none whose activate is held (R553). The timings of
DRAM_TIM_0 to DRAM_TIM_2 hold none back (DESIGN CHOICE, log 181). -/
def State.dramReady (s : State) (c : Nat) : List DramEntry :=
  let x := s.dram c
  x.acc.zipIdx.flatMap fun a =>
    if x.blockBusy a.2 a.1.txn then []
    else (a.1.todo.map fun b =>
      let l := s.dramLoc c b.1
      ({ n := a.2, w := b.1, loc := l, isOpen := x.rowOpen l, passed := b.2,
         rank := if a.1.promoted then 4 else s.dramClass c a.1.txn } : DramEntry)).filter fun e => e.isOpen || !x.bankHeld e.loc

/-- The next entry of one bank's queue in bank rotation: the oldest that has been passed over HIT_CAP times, else the oldest whose row
is open, else the oldest (Table 10-4). -/
def bankPick (cap : Nat) (es : List DramEntry) : Option DramEntry :=
  match es.find? fun e => cap ≤ e.passed with
  | some e => some e
  | none => match es.find? fun e => e.isOpen with
    | some e => some e
    | none => es.head?

/-- The burst that issues next (R532, R533, Table 10-4). Of the banks of the first bank group that can issue, the one with the oldest
entry issues (DESIGN CHOICE, log 181). -/
def State.dramPick (s : State) (c : Nat) : Option DramEntry :=
  let es := s.dramReady c
  if s.rb F.DRAM_SCHED_MODE 0 c then
    es.foldl (fun b e => match b with | none => some e | some x => if x.rank < e.rank then some e else b) none
  else
    match (List.range 4).find? fun k => es.any fun e => e.loc.bank % 8 == ((s.dram c).group + 1 + k) % 4 with
    | none => none
    | some k =>
      match es.find? fun e => e.loc.bank % 8 == ((s.dram c).group + 1 + k) % 4 with
      | none => none
      | some f => bankPick (s.rf F.DRAM_SCHED_HIT_CAP 0 c) (es.filter fun e => bankKey e.loc == bankKey f.loc)

/-- A burst issues: a closed row is activated first, and in bank rotation the older entries of its bank are passed over where its row
was open (R532, R549, R550). The read and the write burst of a merge issue back to back (R537). -/
def State.dramIssue (s : State) (c : Nat) (e : DramEntry) : State :=
  let s := if e.isOpen then s else s.activate c e.loc
  let x := s.dram c
  let older := fun (n : Nat) (b : Nat × Nat) => e.isOpen && !s.rb F.DRAM_SCHED_MODE 0 c && bankKey (s.dramLoc c b.1) == bankKey e.loc && (n < e.n || (n == e.n && b.1 < e.w))
  let acc := x.acc.zipIdx.map fun a =>
    { a.1 with todo := (a.1.todo.filter fun b => !(a.2 == e.n && b.1 == e.w)).map fun b => if older a.2 b then (b.1, b.2 + 1) else b }
  s.setDram c { x with acc := acc, group := e.loc.bank % 8 }

/-- `n` REF commands of a rank: its banks are precharged and the commands counted (R542, R551). -/
def State.refIssue (s : State) (c rank n : Nat) : State :=
  let x := s.dram c
  s.setDram c { x with
    rows := x.rows.filter fun e => e.1 / 64 ≠ rank
    refs := mset x.refs rank (mget x.refs rank 0 + n) 0
    owed := mset x.owed rank (mget x.owed rank 0 - n) 0 }

/-- The oldest victim refresh of a rank is performed: the open row of its bank is closed, and the oldest victim refresh held for
room joins the queue (R548, R552, R553, R579). -/
def State.victimDone (s : State) (c rank : Nat) : State :=
  let x := s.dram c
  match mget x.victims rank [] with
  | [] => s
  | v :: rest =>
    let h := mget x.held rank []
    (s.setDram c { x with
      rows := mset x.rows (rank * 64 + v.1) 0 0
      victims := mset x.victims rank (rest ++ h.take 1) []
      held := mset x.held rank (h.drop 1) [] }).incE F.DRAM_VICTIM_CNT_COUNT 0 c

/-- The rank whose victim refresh goes ahead of the transactions in this cycle (R535, R578). Whether the timings of DRAM_TIM_0 to
DRAM_TIM_2 let a waiting one go is free (log 181). -/
def State.victimReady (s : State) (c : Nat) : Option Nat × State :=
  match [0, 1].find? fun r => mget (s.dram c).victims r [] != [] with
  | none => (none, s)
  | some r => let y := s.choice; (if y.1 then some r else none, y.2)

/-- Whether bursts of accepted transactions wait in the bank queues (R543). -/
def Dram.waiting (x : Dram) : Bool := x.acc.any fun a => a.todo != []

/-- A controller cycle of an open channel (R535, Table 10-6): a victim refresh that is ready, else a burst of a transaction, else, in a
gap, an owed refresh. -/
def State.dramCycle (s : State) (c : Nat) : State :=
  if s.dramState c ≠ 2 then s
  else
    let r := s.victimReady c
    match r.1 with
    | some rank => r.2.victimDone c rank
    | none => match r.2.dramPick c with
      | some e => r.2.dramIssue c e
      | none => if (s.dram c).waiting then r.2
        else match [0, 1].find? fun k => decide (0 < mget (s.dram c).owed k 0) with
          | none => r.2
          | some k => r.2.refIssue c k 1

/-- Controller cycles pass until the bursts of accepted transaction `n` have issued, at most `fuel` of them. -/
def State.dramRun (s : State) (c n fuel : Nat) : State :=
  match fuel with
  | 0 => s
  | k + 1 =>
    if (((s.dram c).acc[n]?).map fun a => a.todo).getD [] = [] || s.dramState c ≠ 2 then s
    else if (s.dramPick c).isNone && (s.dram c).victims.isEmpty then s
    else (s.dramCycle c).dramRun c n k

/-! ## Acceptance -/

/-- Whether an earlier transaction of the same master waits at the hub before entry `n` (R496). -/
def orderedAt (hub : List Txn) (n : Nat) (t : Txn) : Bool :=
  !((hub.take n).any fun u => goesBefore u t)

/-- Whether a transaction's fill units lie in those that a started DRAM_FILL is to clear (R576). -/
def State.fillWaits (s : State) (c w n : Nat) : Bool :=
  s.rb F.DRAM_FILL_START 0 c && s.rf F.DRAM_FILL_FIRST 0 c ≤ (w + n - 1) / 4096 && w / 4096 ≤ s.rf F.DRAM_FILL_LAST 0 c

/-- The fill units that `n` words from channel word `w` touch. -/
def unitsOf (w n : Nat) : List Nat := (List.range ((w + n - 1) / 4096 - w / 4096 + 1)).map fun k => w / 4096 + k

/-- Whether a write reads burst `g` to merge into it: a narrow write, or in an encrypted region one that covers part of it (R537, R569,
Table 10-7). -/
def State.mergesBurst (s : State) (c : Nat) (t : Txn) (g : Nat) : Bool :=
  let w := addrLocal t.addr - dramBase c
  t.op == .narrowWrite || ((s.dramKey c g).isSome && !(decide (w ≤ g) && decide (g + 8 ≤ w + t.len)))

/-- The burst entries that a transaction needs in the bank queues: a read none in an unfilled unit, a merge a read and a write burst
(R528, R537, R559). -/
def State.needBursts (s : State) (c : Nat) (t : Txn) : List Nat :=
  if isReq t then (accBursts c t).filter fun g => s.unitFilled c (g / 4096)
  else (accBursts c t).flatMap fun g => if s.mergesBurst c t g then [g, g] else [g]

/-- Whether an open channel has room for a transaction: fewer than 256 accepted, write buffer and bank queues with room, no self
refresh requested (R528, R576, R583). -/
def State.dramRoom (s : State) (c : Nat) (t : Txn) : Bool :=
  let x := s.dram c
  let bs := s.needBursts c t
  s.dramState c == 2 && !s.rb F.DRAM_CTL_SR_REQ 0 c && decide (x.acc.length < 256)
    && decide (s.wbufWords c + t.words.length ≤ 2048)
    && (isReq t || (unitsOf (addrLocal t.addr - dramBase c) t.len).all fun u =>
        s.unitFilled c u || !((s.fillBanks c u).any fun w => s.touchHeld c w))
    && bs.all (fun b =>
        let l := s.dramLoc c b
        decide (s.bankQueued c b + (bs.filter fun b' => bankKey (s.dramLoc c b') == bankKey l).length ≤ 16))
    && !s.fillWaits c (addrLocal t.addr - dramBase c) t.len

/-- A data unit read for a merge: the decrypted words, undefined ones where it was written under another setting (R572), and whether any of its slots is uncorrectable (R538, R567 to R569). -/
def State.readUnit (s : State) (c w : Nat) (key : Nat) : List TWord × Bool × State :=
  let r := (List.range 8).foldl (fun (r : List TWord × Bool × State) i =>
    let y := r.2.2.readWord 0 (dramBase c + w / 8 * 8 + i) .merge false
    (r.1 ++ [y.1], r.2.1 || y.2.1, y.2.2)) ([], false, s)
  if (List.range 8).any fun i => s.oddWord c (w / 8 * 8 + i) then
    let y := r.2.2.freeWords 8
    (y.1, r.2.1, y.2)
  else (decUnit key c w r.1, r.2)

/-- A data unit written encrypted for a write whose first word in it is word `k` of the unit. The flip mask acts on the stored bits
(R571), and an armed one on those of that word: of a narrow write on the merged word (R318), of a full-word write, for which the spec
names no slot, on the first (DESIGN CHOICE, log 175). -/
def State.writeUnit (s : State) (c w key k : Nat) (ws : List TWord) : State :=
  let cs := encUnit key c w ws
  (k :: (List.range 8).filter fun i => i ≠ k).foldl (fun s i => s.storeWord 0 (dramBase c + w / 8 * 8 + i) (cs.getD i noWord))
    (s.setUnder c (w / 8 * 8) 8 (s.dramSetting c w))

/-- The part of a full-word write that lies in the data unit of channel word `g`, merged over `old` (R569). -/
def mergeUnit (old : List TWord) (g w : Nat) (ws : List TWord) : List TWord :=
  (List.range 8).map fun i => if w ≤ g + i ∧ g + i < w + ws.length then ws.getD (g + i - w) noWord else old.getD i noWord

/-- A write performed at acceptance (R529, R536 to R538, R569): in a plain region word by word, in an encrypted region by
data units, a unit whose read for the merge is uncorrectable being left. -/
def State.dramWrite (s : State) (c : Nat) (t : Txn) : State :=
  let w := addrLocal t.addr - dramBase c
  match s.dramKey c w with
  | none =>
    if t.op = .narrowWrite then
      if s.oddWord c w then
        let y := s.readWord 0 (addrLocal t.addr) .merge false
        if y.2.1 then y.2.2
        else
          let r := y.2.2.freeWord
          (r.2.setUnder c w 1 0).storeWord 0 (addrLocal t.addr) (mergeLane r.1 t.laneW t.lane (t.words.getD 0 noWord))
      else s.narrowWord 0 (addrLocal t.addr) t.laneW t.lane (t.words.getD 0 noWord)
    else (s.setUnder c w t.words.length 0 |> fun s => (List.range t.words.length).foldl (fun s k => s.storeWord 0 (addrLocal t.addr + k) (t.words.getD k noWord)) s)
  | some key =>
    (accBursts c t).foldl (fun s g =>
      if t.op ≠ .narrowWrite && w ≤ g && g + 8 ≤ w + t.words.length then
        s.writeUnit c g key 0 (mergeUnit [] g w t.words)
      else
        let r := s.readUnit c g key
        if r.2.1 then r.2.2
        else
          let new := if t.op = .narrowWrite then
              r.1.set (w - g) (mergeLane (r.1.getD (w - g) noWord) t.laneW t.lane (t.words.getD 0 noWord))
            else mergeUnit r.1 g w t.words
          r.2.2.writeUnit c g key (w - g) new) s

/-- Unfilled units that a write touches are filled first (R560). -/
def State.demandFill (s : State) (c w n : Nat) : State :=
  (unitsOf w n).foldl (fun s u =>
    if s.unitFilled c u then s else (s.fillUnit c u).incE F.DRAM_DEMAND_FILL_CNT_COUNT 0 c) s

/-- What a read at acceptance sees of its data units, and the bursts it needs: none in an unfilled unit (R529, R559, R574). -/
def State.dramSnap (s : State) (c : Nat) (t : Txn) : DramAcc :=
  let w := addrLocal t.addr - dramBase c
  let gs := accBursts c t
  let first := w / 8 * 8
  ⟨t, first,
    (List.range (gs.length * 8)).map fun i =>
      if s.unitFilled c ((first + i) / 4096) then some (s.cell 0 (dramBase c + first + i)) else none,
    gs.map fun g => s.dramKey c g, false, (s.needBursts c t).map fun g => (g, 0),
    (List.range (gs.length * 8)).map fun i => s.oddWord c (first + i)⟩

/-- A transaction is accepted and, for ordering, performed (R528, R529). -/
def State.dramAccept (s : State) (c : Nat) (t : Txn) : State :=
  let w := addrLocal t.addr - dramBase c
  if isReq t then
    s.setDram c { s.dram c with acc := (s.dram c).acc ++ [s.dramSnap c t] }
  else
    let s := (s.demandFill c w t.len).dramWrite c t
    let s := s.setDram c { s.dram c with acc := (s.dram c).acc ++ [⟨t, w, [], [], false, (s.needBursts c t).map fun g => (g, 0), []⟩] }
    s.creditBack t t.words.length

/-- DRAM_ACCEPT (R528 to R530, R536 to R538, R559, R560, R574): the transaction `n` waiting at the
I/O hub for the channel is accepted if the channel has room and no earlier one of its master must go before it. -/
def execDramAccept (c n : Nat) (s : State) : Out :=
  let x := s.dram c
  .next (match x.hub[n]? with
    | none => s
    | some t => if orderedAt x.hub n t && s.dramRoom c t then (s.setDram c { x with hub := x.hub.eraseIdx n }).dramAccept c t else s)

/-! ## Completion -/

/-- One cell of a read decoded: the word, whether it is uncorrectable, and the state after its detection; a corrected
word that still stands in the array is queued for write-back (R540, R567, R581). -/
def State.dramDecode (s : State) (c w : Nat) (cell : Cell) (src : ReadSrc) : TWord × Bool × State :=
  let pa := dramBase c + w
  match decodeCell cell pa with
  | .good x => (x, false, s)
  | .corrected x syn =>
    let s := s.detect 0 pa src false syn
    (x, false, if s.cell 0 pa = cell then s.queueWb 0 pa x else s)
  | .uncorrectable syn => (noWord, true, s.detect 0 pa src true syn)

/-- One data unit of a read: in an unfilled unit data 0 with tag 0b10; in an encrypted region the unit as a whole, lost
where any slot is uncorrectable; else the words `lo` to `hi - 1` of it (R559, R567, R568); undefined where it was written under
another setting (R572). -/
def State.dramUnit (s : State) (c g lo hi : Nat) (cells : List (Option Cell)) (key : Option Nat) (odd : List Bool) (src : ReadSrc) :
    List TWord × State :=
  let step := fun (r : List TWord × Bool × State) (i : Nat) =>
    match cells.getD i none with
    | none => (r.1 ++ [noWord], r.2.1, r.2.2)
    | some cell =>
      if key.isNone && (g + i < lo || hi ≤ g + i) then (r.1 ++ [noWord], r.2.1, r.2.2)
      else
        let y := r.2.2.dramDecode c (g + i) cell src
        if key.isNone && odd.getD i false && !y.2.1 then
          let f := y.2.2.freeWord
          (r.1 ++ [f.1], r.2.1, f.2)
        else (r.1 ++ [y.1], r.2.1 || y.2.1, y.2.2)
  let r := (List.range 8).foldl step ([], false, s)
  match key with
  | none => (r.1, r.2.2)
  | some k => if cells.any Option.isNone || r.2.1 then (noWords 8, r.2.2)
    else if odd.any id then r.2.2.freeWords 8
    else (decUnit k c g r.1, r.2.2)

/-- The words that an accepted read returns (R531, R540). -/
def State.dramReadWords (s : State) (c : Nat) (a : DramAcc) (src : ReadSrc) : List TWord × State :=
  let w := addrLocal a.txn.addr - dramBase c
  let r := (List.range a.keys.length).foldl (fun (r : List TWord × State) k =>
    let y := r.2.dramUnit c (a.first + 8 * k) w (w + a.txn.len) ((a.cells.drop (8 * k)).take 8) (a.keys.getD k none) ((a.odd.drop (8 * k)).take 8) src
    (r.1 ++ y.1, y.2)) ([], s)
  ((r.1.drop (w - a.first)).take a.txn.len, r.2)

/-- DRAM_READ_COMPLETE (R530 to R533, R539, R540, R549, R550, R567, R568): the accepted transaction `n` has all its bursts done, those
that the scheduler puts before them with them. A read's response leaves for the I/O hub; a write only gives up its places in the
channel (its bursts have no row of their own). Where its bursts cannot issue, it waits. -/
def execDramReadComplete (c n : Nat) (s : State) : Out :=
  let s := s.dramRun c n 4096
  let x := s.dram c
  .next (match x.acc[n]? with
    | none => s
    | some a =>
      if a.todo ≠ [] then s else
      let s := s.setDram c { x with acc := x.acc.eraseIdx n }
      if isReq a.txn then
        let r := s.dramReadWords c a .read
        r.2.respond a.txn 0 r.1
      else s)

/-- DRAM_PROMOTION (R533): in class mode, accepted transaction `n` has been accepted for 2^(AGE_EXP + 4) controller cycles. -/
def execDramPromotion (c n : Nat) (s : State) : Out :=
  let x := s.dram c
  .next (match x.acc[n]? with
    | none => s
    | some a =>
      if s.rb F.DRAM_SCHED_MODE 0 c && !a.promoted then
        (s.setDram c { x with acc := x.acc.set n { a with promoted := true } }).incE F.DRAM_PROMO_CNT_COUNT 0 c
      else s)

/-! ## Refresh -/

/-- The code of the effective multiplier (R542, R546, R580, R585). -/
def State.refEff (s : State) (c : Nat) : Nat :=
  let m := s.rf F.DRAM_REF_CTL_REF_MULT 0 c
  if (s.dram c).overTemp then 2 else if s.rb F.DRAM_STAT_HOT 0 c then min 2 (m + 1) else m

/-- DRAM_REFRESH (R542, R543, R578): a refresh interval of the rank has passed. One more refresh is owed; while
transactions wait it is postponed up to POSTPONE owed, at the limit one is issued, and in a gap all are. A change of the
hot state takes effect (R546). -/
def execDramRefresh (c rank : Nat) (s : State) : Out :=
  let x := s.dram c
  let n := mget x.owed rank 0 + 1
  .next (if s.dramState c ≠ 2 && s.dramState c ≠ 4 || s.rf F.DRAM_GEOM_RANKS 0 c < rank then s
    else
      let s := s.wf F.DRAM_STAT_REF_EFF (s.refEff c) 0 c
      let t := s.setDram c { x with owed := mset x.owed rank n 0 }
      if !x.waiting then t.refIssue c rank n
      else if n < s.rf F.DRAM_REF_CTL_POSTPONE 0 c then t
      else t.refIssue c rank 1)

/-- VICTIM_REFRESH (R548, R552, R553, R579): the oldest victim refresh of a rank is performed. -/
def execVictimRefresh (c rank : Nat) (s : State) : Out := .next (s.victimDone c rank)

/-- DISTURB_TABLE_CLEAR (R551): 8,192 refresh commands have gone to the rank since its tables were last cleared. -/
def execDisturbTableClear (c rank : Nat) (s : State) : Out :=
  let x := s.dram c
  .next (if 8192 ≤ mget x.refs rank 0 then
      s.setDram c { x with
        tables := x.tables.filter fun e => e.1 / 2048 ≠ rank
        refs := mset x.refs rank (mget x.refs rank 0 - 8192) 0 }
    else s)

/-- DRAM_PATROL_READ (R541, R581): one burst is read by the patrol, which skips unfilled units and wraps. -/
def execDramPatrolRead (c : Nat) (s : State) : Out :=
  let x := s.dram c
  let cap := s.dramWords c / 4096
  .next (if s.dramState c ≠ 2 || !s.rb F.DRAM_SCRUB_SCRUB_EN 0 c || x.filled % 2 ^ cap = 0 then s
    else
      let u := x.patrol / 512 % cap
      let start := if bit x.filled u then x.patrol % (cap * 512)
        else match nextUnit x.filled true (cap - u) u with
          | some v => v * 512
          | none => (nextUnit x.filled true u 0).getD 0 * 512
      let w := start * 8
      let s := s.setDram c { x with patrol := (start + 1) % (cap * 512) }
      let s := if s.touchHeld c w then s else s.touch c w
      (s.dramUnit c w w (w + 8) ((List.range 8).map fun i => some (s.cell 0 (dramBase c + w + i))) none [] .patrol).2)

/-- BACKGROUND_FILL (R561, R571, R577): the filler fills its next unfilled unit. -/
def execBackgroundFill (c : Nat) (s : State) : Out :=
  let cap := s.dramWords c / 4096
  let u := s.rf F.DRAM_STAT_FILL_UNIT 0 c
  .next (if s.dramState c ≠ 2 then s
    else match nextUnit (s.dram c).filled false (cap - u) u with
      | none => s
      | some v => if (s.fillBanks c v).any fun w => s.touchHeld c w then s else (s.fillUnit c v).wf F.DRAM_STAT_FILL_UNIT (v + 1) 0 c)

/-- ZQ_SHORT_CALIBRATION (R556): it changes nothing that software can see. -/
def execZqShortCalibration (c : Nat) (s : State) : Out := .next (s.setDram c (s.dram c))

/-! ## Training, retirement and self refresh -/

/-- A channel is retired (R586): EN is cleared, accepted reads are answered aborted, accepted writes are dropped and
counted (their stream credits went back as they were accepted), and what waits at the hub is answered unmapped. -/
def State.dramRetire (s : State) (c : Nat) : State :=
  let x := s.dram c
  let s := s.setDram c { x with acc := [], hub := [] }
  let s := (s.wf F.DRAM_CTL_EN 0 0 c).wf F.DRAM_STAT_STATE 5 0 c
  let s := s.wf F.DRAM_CTL_RETRAIN 0 0 c
  let s := x.acc.foldl (fun (s : State) a =>
    if isReq a.txn then s.respond a.txn 3 (noWords a.txn.len) else s.dropCount 0 a.txn .unmapped) s
  let s := x.hub.foldl (fun s t => s.reject 0 t 1 .unmapped) s
  s.raise .dramChannelRetired 0 c

/-- A training from reset starts (R554, R590). -/
def State.dramTrain (s : State) (c : Nat) : State :=
  (s.setDram c { s.dram c with trainFails := 0, centreFails := 0, rows := [], owed := [] }).wf F.DRAM_STAT_STATE 1 0 c

/-- Whether every timing field is nonzero (R589). -/
def State.timingsSet (s : State) (c : Nat) : Bool :=
  [F.DRAM_TIM_0_tRAS, F.DRAM_TIM_0_tRP, F.DRAM_TIM_0_tRCD, F.DRAM_TIM_0_CWL, F.DRAM_TIM_0_CL, F.DRAM_TIM_1_tFAW,
    F.DRAM_TIM_1_tRRD_S, F.DRAM_TIM_1_tRRD_L, F.DRAM_TIM_1_tCCD_L, F.DRAM_TIM_1_tWR, F.DRAM_TIM_1_tWTR_S,
    F.DRAM_TIM_1_tWTR_L, F.DRAM_TIM_1_tRTP, F.DRAM_TIM_2_tRFC, F.DRAM_TIM_2_tREFI].all fun f => s.rf f 0 c != 0

/-- A write of DRAM_CTL: RATE only while the channel is off or retired, with 7 stored as 6; EN = 1 only with every timing
set, and it starts a training; RETRAIN starts a centring of an open channel; SR_REQ = 0 ends self refresh (R554, R582,
R583, R589, R592). `hwClear` is a clearing of RETRAIN by hardware in the same cycle; a clearing of EN is in `w` (R91). -/
def State.writeDramCtl (s : State) (c w : Nat) (hwClear : Bool) : State :=
  let st := s.dramState c
  let s := if st = 0 || st = 5 then s.wf F.DRAM_CTL_RATE (min 6 (bits w 6 4)) 0 c else s
  let s := s.wf F.DRAM_CTL_SR_REQ (bits w 8 8) 0 c
  let s := if st = 3 && !bit w 8 then s.wf F.DRAM_STAT_STATE 2 0 c else s
  let s := if bit w 7 && (st = 2 || hwClear && st = 4) then (s.wf F.DRAM_CTL_RETRAIN 1 0 c).wf F.DRAM_STAT_STATE 4 0 c else s
  if bit w 0 then
    if s.rb F.DRAM_CTL_EN 0 c || !s.timingsSet c || st = 6 then s else (s.wf F.DRAM_CTL_EN 1 0 c).dramTrain c
  else if st = 5 || st = 6 then s.wf F.DRAM_CTL_EN 0 0 c
  else (s.wf F.DRAM_CTL_EN 0 0 c).wf F.DRAM_STAT_STATE 0 0 c

/-- A tagged write of DRAM_CTL with what hardware does to the register in its cycle (R75, R91). -/
def dramCtlOut (c : Nat) (w : TWord) (acts : List HwAct) (s : State) : State :=
  if w.tag.toNat < 2 then
    (s.writeDramCtl c (effWord (regDesc .DRAM_CTL c).fields acts w.data.toNat) (clears acts 7)).w1sCleared ⟨.DRAM_CTL, 0, c, 0⟩ acts
      w.data.toNat
  else s.regRefuse 0 (w.tag.toNat - 2) true (0x0F050000 + c * 0x10000)

/-- DRAM_EN_WRITE (R554, R589). -/
def execDramEnWrite (c : Nat) (w : TWord) (acts : List HwAct) (s : State) : Out := .next (dramCtlOut c w acts s)

/-- DRAM_RETRAIN_WRITE (R583, R592). -/
def execDramRetrainWrite (c : Nat) (w : TWord) (acts : List HwAct) (s : State) : Out := .next (dramCtlOut c w acts s)

/-- SR_REQ_WRITE (R583). -/
def execSrReqWrite (c : Nat) (w : TWord) (acts : List HwAct) (s : State) : Out := .next (dramCtlOut c w acts s)

/-- SELF_REFRESH_ENTRY (R583): every accepted transaction has completed. -/
def execSelfRefreshEntry (c : Nat) (s : State) : Out :=
  .next (if s.dramState c = 2 && s.rb F.DRAM_CTL_SR_REQ 0 c && (s.dram c).acc.isEmpty then
      (s.setDram c { s.dram c with rows := [] }).wf F.DRAM_STAT_STATE 3 0 c
    else s)

/-- DRAM_TRAINING_COMPLETE (R585, Table 10-10): the training ends well, or a step of it has failed; the third failure
retires the channel. -/
def execDramTrainingComplete (c : Nat) (good : Bool) (s : State) : Out :=
  let x := s.dram c
  .next (if s.dramState c ≠ 1 then s
    else if good then (s.setDram c { x with trainFails := 0, kept := false }).wf F.DRAM_STAT_STATE 2 0 c
    else
      let s := (s.setDram c { x with trainFails := x.trainFails + 1 }).raise .dramTrainFailed 0 c
      if 3 ≤ x.trainFails + 1 then s.dramRetire c else s)

/-- PERIODIC_CENTRING (R556, R583, R585): a centring, periodic or asked for by RETRAIN, holds the bus and is counted; the
second that fails running retires the channel. -/
def execPeriodicCentring (c : Nat) (good : Bool) (s : State) : Out :=
  let x := s.dram c
  .next (if s.dramState c ≠ 2 && s.dramState c ≠ 4 then s
    else
      let s := ((s.incE F.DRAM_RETRAIN_CNT_COUNT 0 c).wf F.DRAM_CTL_RETRAIN 0 0 c).wf F.DRAM_STAT_STATE 2 0 c
      if good then s.setDram c { x with centreFails := 0 }
      else
        let s := (s.setDram c { x with centreFails := x.centreFails + 1 }).raise .dramTrainFailed 0 c
        if 2 ≤ x.centreFails + 1 then s.dramRetire c else s)

/-- DRAM_CA_PARITY_ALERT (R585): every bank is precharged and the alert counted; the fourth within 1 ms starts a centring. -/
def execDramCaParityAlert (c : Nat) (s : State) : Out :=
  let x := s.dram c
  let recent := (x.alerts.filter fun t => s.now < t + 1000000) ++ [s.now]
  let s := s.setDram c { x with rows := [], alerts := if 4 ≤ recent.length then [] else recent }
  let s := (s.incE F.DRAM_ALERT_CNT_COUNT 0 c).raise .dramCaParity 0 c
  .next (if 4 ≤ recent.length && s.dramState c == 2 then s.wf F.DRAM_STAT_STATE 4 0 c else s)

/-! ## Temperature -/

/-- Degrees as a signed number from an 8-bit two's complement value (R598). -/
def deg8 (v : Nat) : Int := if v % 256 < 128 then (v % 256 : Nat) else (v % 256 : Nat) - (256 : Int)

/-- A channel's temperature under sources 0b01 and 0b10 (R544, R545, R585): hot above 85 °C until below 80 °C, over above
95 °C. -/
def State.dramTemp (s : State) (c : Nat) (t : Int) : State :=
  let x := s.dram c
  let s := s.wf F.DRAM_TEMP_TEMP_NOW (t % 256).toNat 0 c
  let s := if 85 < t then s.wf F.DRAM_STAT_HOT 1 0 c else if t < 80 then s.wf F.DRAM_STAT_HOT 0 0 c else s
  let tooHot := decide (95 < t)
  let s := s.setDram c { x with overTemp := tooHot }
  if tooHot && !x.overTemp then (s.wf F.DRAM_STAT_REF_EFF 2 0 c).raise .dramOverTemperature 0 c else s

/-- The temperature of a die in °C. -/
def State.dieTemp (s : State) (d : Nat) : Int := deg8 (s.rf F.THERM_DIE_TEMP 0 d)

/-- The I/O-die junction temperature reaches the channels whose TEMP_SRC is 0b10 (R544). -/
def State.dramJunction (s : State) : State :=
  [0, 1].foldl (fun (s : State) c => if s.rf F.DRAM_TEMP_TEMP_SRC 0 c = 2 then s.dramTemp c (s.dieTemp 0) else s) s

/-- DRAM_TEMPERATURE_READ (R544, R545): the range read from multi-purpose register page 2 of rank 0. -/
def execDramTemperatureRead (c range : Nat) (s : State) : Out :=
  .next (if s.rf F.DRAM_TEMP_TEMP_SRC 0 c = 0 then
      ((s.setDram c { s.dram c with overTemp := false }).wf F.DRAM_TEMP_RANGE range 0 c).wf F.DRAM_STAT_HOT (b2n (range % 4 == 2 || range % 4 != 1 && s.rb F.DRAM_STAT_HOT 0 c)) 0 c
    else s)

/-! ## Keys and fill writes -/

/-- The staged key pair of a key slot (R565, R591). -/
def State.stagedKey (s : State) (c k : Nat) : Nat :=
  (List.range 11).foldl (fun n w => n + s.rf F.DRAM_KEY_W 0 c (16 * k + w) * 2 ^ (48 * w)) 0 % 2 ^ 512

/-- LOAD of a key slot: refused where an enabled region names the slot or both keys are equal (R565, R575). -/
def State.keyLoad (s : State) (c k : Nat) : State :=
  let key := s.stagedKey c k
  let x := s.dram c
  let named := (List.range 16).any fun j => s.rb F.DRAM_REGION_EN 0 c j && s.rf F.DRAM_REGION_KEY 0 c j == k
  let s : State := (List.range 11).foldl (fun s w => s.wf F.DRAM_KEY_W 0 0 c (16 * k + w)) s
  if named || key % 2 ^ 256 == key / 2 ^ 256 then
    (s.wf F.DRAM_KEY_CTL_REFUSED 1 0 c k).raise .dramKeyRefused 0 c
  else (s.setDram c { x with keys := mset x.keys k key 0 }).wf F.DRAM_KEY_CTL_VALID 1 0 c k

/-- A write of DRAM_KEY_CTL: LOAD acts and is cleared by hardware (R575, R591). -/
def State.writeKeyCtl (s : State) (c k w : Nat) : State :=
  let s := s.plainWrite ⟨.DRAM_KEY_CTL, 0, c, k⟩ w [.clear 1 1]
  (if bit w 1 then s.keyLoad c k else s).wf F.DRAM_KEY_CTL_LOAD 0 0 c k

/-- DRAM_KEY_LOAD (R565, R575). -/
def execDramKeyLoad (c k : Nat) (w : TWord) (s : State) : Out :=
  .next (if w.tag.toNat < 2 then s.writeKeyCtl c k w.data.toNat
    else s.regRefuse 0 (w.tag.toNat - 2) true (0x0F05004B + c * 0x10000 + k * 0x10))

/-- DRAM_FILL_START (R562, R576): START takes effect: the fill-map bits of units FIRST to LAST are cleared, the filler
goes back to the first of them, and hardware clears START unless software sets it again in that cycle (`again`). -/
def execDramFillStart (c : Nat) (again : Bool) (s : State) : Out :=
  let x := s.dram c
  let lo := s.rf F.DRAM_FILL_FIRST 0 c
  let hi := s.rf F.DRAM_FILL_LAST 0 c
  .next (if !s.rb F.DRAM_FILL_START 0 c then s
    else
      let s := if again then s else s.wf F.DRAM_FILL_START 0 0 c
      if hi < lo then s
      else
        let top := x.filled / 2 ^ (hi + 1) * 2 ^ (hi + 1)
        let s := s.setDram c { x with filled := top + x.filled % 2 ^ lo }
        let s := s.setWbq 0 (.dram c) ((s.wbq 0 (.dram c)).filter fun e => e.pa < dramBase c + lo * 4096 || dramBase c + (hi + 1) * 4096 ≤ e.pa)
        let s := s.wf F.DRAM_STAT_FILL_UNIT (min lo (s.rf F.DRAM_STAT_FILL_UNIT 0 c)) 0 c
        if lo < s.dramWords c / 4096 then s.wf F.DRAM_STAT_FILL_DONE 0 0 c else s)

/-! ## Register writes with rules of their own -/

/-- A write of DRAM_GEOM or of a timing register: stored only while the channel is off or retired (R582, R594, R595). -/
def State.writeDramGeom (s : State) (c w : Nat) : State :=
  if s.dramState c = 0 || s.dramState c = 5 then
    ((s.wf F.DRAM_GEOM_RANKS (min 1 (bits w 11 10)) 0 c).wf F.DRAM_GEOM_WIDTH (min 1 (bits w 9 8)) 0 c
      |>.wf F.DRAM_GEOM_DENSITY (min 2 (bits w 7 6)) 0 c).wf F.DRAM_GEOM_MIRROR (bits w 5 5) 0 c
  else s

/-- A write of DRAM_TIM_0 to DRAM_TIM_2 (R582). -/
def State.writeDramTim (s : State) (n : RegName) (c w : Nat) (acts : List HwAct) : State :=
  if s.dramState c = 0 || s.dramState c = 5 then s.plainWrite ⟨n, 0, c, 0⟩ w acts else s

/-- A write of DRAM_REF_CTL; REF_MULT acts at once under the hot state in force (R542, R580, R597). -/
def State.writeRefCtl (s : State) (c w : Nat) : State :=
  let s := (s.wf F.DRAM_REF_CTL_POSTPONE (min 8 (bits w 15 12)) 0 c).wf F.DRAM_REF_CTL_REF_MULT (min 2 (bits w 9 8)) 0 c
  s.wf F.DRAM_STAT_REF_EFF (s.refEff c) 0 c

/-- A write of DRAM_TEMP: with source 0b01 TEMP_IN, with 0b10 the I/O-die junction temperature is the one in force (R544, R598). -/
def State.writeDramTemp (s : State) (c w : Nat) : State :=
  let src := min 2 (bits w 47 46)
  let s := (s.wf F.DRAM_TEMP_TEMP_SRC src 0 c).wf F.DRAM_TEMP_TEMP_IN (bits w 39 32) 0 c
  if src = 1 then s.dramTemp c (deg8 (bits w 39 32)) else if src = 2 then s.dramTemp c (s.dieTemp 0) else s

/-- A write of DRAM_RD_CTL (R599). -/
def State.writeRdCtl (s : State) (c w : Nat) : State :=
  ((s.wf F.DRAM_RD_CTL_THRESH (max 1 (bits w 47 32)) 0 c).wf F.DRAM_RD_CTL_RADIUS (min 1 (bits w 9 8)) 0 c
    |>.wf F.DRAM_RD_CTL_DEFENCE (bits w 4 4) 0 c).wf F.DRAM_RD_CTL_K (max 6 (min 14 (bits w 3 0))) 0 c

/-- A write of DRAM_TRAIN_CTL (R600). -/
def State.writeTrainCtl (s : State) (c w : Nat) : State :=
  ((s.wf F.DRAM_TRAIN_CTL_DRIFT (max 1 (bits w 15 8)) 0 c).wf F.DRAM_TRAIN_CTL_ZQ_EXP (bits w 7 4) 0 c).wf
    F.DRAM_TRAIN_CTL_PERIOD_EXP (bits w 3 0) 0 c

/-- WRITE_BACK (R302, R303): the oldest write-back queued for the array that holds `x.pa` is written. At a scratchpad bank it
is a class 2 request, so it waits for class 1 and for a second cycle; in an island's block memory it takes port B like a window
access, at a free edge or (`x.steal`) in a steal cycle, with port A's access `x.qa` beside it (R245, R246), and waits while the
island is held; at a DRAM channel it takes a write burst (R540). -/
def execWriteBack (d : Nat) (x : WbTurn) (s : State) : Out :=
  let a := arrOf d x.pa
  .next (match a with
    | .sp b => if (s.bank d b).second || (rotPick (s.bank d b).reqs 1 (s.bank d b).rot1 4).isSome then s
      else if (s.wbq d a).isEmpty then s else (s.wbHead d a).incE F.SP_BANK_USE_COUNT d b
    | .iosp b => if (s.bank d b).second || (rotPick (s.bank d b).reqs 1 (s.bank d b).rot1 4).isSome then s
      else if (s.wbq d a).isEmpty then s else (s.wbHead d a).incE F.SP_BANK_USE_COUNT d b
    | .bm i m =>
      if (s.island d i).held || (s.wbq d a).isEmpty then s
      else
        let s := s.wbPort d i m (if s.running d i then x.qa else none) x.bFirst
        if x.steal && !s.windowMode d i m && s.running d i then s.stealBusy d i m else s
    | .dram c =>
      match s.wbq d a with
      | [] => s
      | e :: _ => if s.dramState c ≠ 2 || s.touchHeld c (e.pa - dramBase c) then s else (s.touch c (e.pa - dramBase c)).wbHead d a
    | _ => s.wbHead d a)

/-- Every accepted transaction of a channel completes (R590, R1039, R1061). -/
def State.dramFinish (s : State) (c : Nat) : State :=
  let x := s.dram c
  let s := x.acc.foldl (fun (s : State) a =>
    if isReq a.txn then
      let r := s.dramReadWords c a .read
      r.2.respond a.txn 0 r.1
    else s) s
  s.setDram c { s.dram c with acc := [] }

/-- The effect of a reset other than power-on on a channel (R590): every accepted transaction completes, the channel
enters self refresh with its contents and fill map kept, and key slots are cleared. -/
def State.dramReset (s : State) (c : Nat) : State :=
  let s := s.dramFinish c
  let x := s.dram c
  s.setDram c { Dram.init with filled := x.filled, under := x.under, kept := x.kept || s.rb F.DRAM_CTL_EN 0 c }

/-- An orderly shutdown parks an open channel in self refresh (R1061). -/
def State.dramPark (s : State) (c : Nat) : State :=
  if s.dramState c ≠ 2 then s
  else
    let s := s.dramFinish c
    (s.setDram c { s.dram c with rows := [] }).wf F.DRAM_STAT_STATE 3 0 c

end Sys2Proof.Machine
end

