-- ==== Sys2Proof/Machine/Coding.lean ====
section
/-!
DEFINITION. The 64b/66b coding of a Saette lane: sync headers, scrambler, block lock, alignment markers and deskew (R666, R669, R670).
-/
namespace Sys2Proof.Machine

/-- A 66-bit block: its sync header (1 for 0b01, data; 2 for 0b10, control) and its 64-bit payload, bit 0 first on the line. -/
abbrev Block : Type := Nat × Nat

/-- The 58 bits before the next one in the scrambled stream (the latest in bit 0), with a bit added. -/
def scrShift (st : Nat) (b : Bool) : Nat := (2 * st + b2n b) % 2 ^ 58

/-- The low `n` bits of `w` scrambled by x^58 + x^39 + 1 from the bits before them: the bits, and those before the next (R666). -/
def scramble (n st w : Nat) : Nat × Nat :=
  match n with
  | 0 => (0, st)
  | k + 1 =>
    let b := bit w 0 ^^ bit st 38 ^^ bit st 57
    let r := scramble k (scrShift st b) (w / 2)
    (b2n b + 2 * r.1, r.2)

/-- The low `n` bits of `w` descrambled. -/
def descramble (n st w : Nat) : Nat × Nat :=
  match n with
  | 0 => (0, st)
  | k + 1 =>
    let b := bit w 0
    let r := descramble k (scrShift st b) (w / 2)
    (b2n (b ^^ bit st 38 ^^ bit st 57) + 2 * r.1, r.2)

/-- The payload of the alignment marker of lane position `i` in a link of WIDTH code `w` (R666). -/
def markerOf (i w : Nat) : Nat := 0x4B + i % 256 * 2 ^ 8 + w % 256 * 2 ^ 16 + 0xA5A5A5A5A5 * 2 ^ 24

/-- The four data blocks of a cell (R668). -/
def cellBlocks (cell : Nat) : List Block := (List.range 4).map fun k => (1, cell / 2 ^ (64 * k) % 2 ^ 64)

/-- Blocks scrambled one after another; sync headers are not. -/
def scrambleBlocks (st : Nat) (bs : List Block) : List Block × Nat :=
  match bs with
  | [] => ([], st)
  | b :: t =>
    let r := scramble 64 st b.2
    let q := scrambleBlocks r.2 t
    ((b.1, r.1) :: q.1, q.2)

/-- Blocks descrambled one after another. -/
def descrambleBlocks (st : Nat) (bs : List Block) : List Block :=
  match bs with
  | [] => []
  | b :: t =>
    let r := descramble 64 st b.2
    (b.1, r.1) :: descrambleBlocks r.2 t

/-- How many blocks pass until block lock: 64 running with a valid sync header (IEEE 802.3 clause 49); `run` have been valid. -/
def lockAfter (run : Nat) (bs : List Block) : Option Nat :=
  match bs with
  | [] => none
  | b :: t =>
    let run := if b.1 = 1 ∨ b.1 = 2 then run + 1 else 0
    if 64 ≤ run then some 1 else (lockAfter run t).map (· + 1)

/-- What a lane's receiver has after block lock: the blocks from its alignment marker on, and how many came before the marker. -/
def laneAligned (i w : Nat) (bs : List Block) : Option (Nat × List Block) :=
  match lockAfter 0 bs with
  | none => none
  | some n =>
    let ds := descrambleBlocks 0 bs
    match (ds.drop n).findIdx? fun b => b == (2, markerOf i w) with
    | none => none
    | some k => some (n + k, ds.drop (n + k + 1))

/-- The cells of a lane's data blocks. -/
def cellsOf (bs : List Block) : List Nat :=
  match bs with
  | a :: b :: c :: d :: t => (a.2 + b.2 * 2 ^ 64 + c.2 * 2 ^ 128 + d.2 * 2 ^ 192) :: cellsOf t
  | _ => []

/-- The cells that the lanes of a link bring, in link order, once every lane has block lock and its marker, with at most 64 blocks of
skew between lanes (R669, R670). -/
def deskew (w : Nat) (lanes : List (List Block)) : Option (List Nat) :=
  let al := lanes.zipIdx.map fun x => laneAligned x.2 w x.1
  if al.any Option.isNone then none
  else
    let al := al.filterMap id
    let at_ := al.map Prod.fst
    if at_.any fun a => at_.any fun b => decide (a + 64 < b) then none
    else
      let cells := al.map fun x => cellsOf x.2
      let n := (cells.map List.length).foldl min ((cells.headD []).length)
      some ((List.range n).flatMap fun k => cells.map fun c => c.getD k 0)

/-- The next `k` bits on a line inverted: of each block the two bits of its sync header first (R626). -/
def flipBlocks (k : Nat) (bs : List Block) : List Block :=
  match bs with
  | [] => []
  | b :: t => let m := 2 ^ min k 66 - 1; (b.1 ^^^ (m % 4), b.2 ^^^ (m / 4)) :: flipBlocks (k - 66) t

/-- The transmit coding of a link. -/
def State.pcsOf (s : State) (l : Nat) : Pcs := mget s.pcs l Pcs.init

/-- The blocks of a slot on every lane: after 16,384 data blocks an alignment marker first, then the four blocks of the lane's cell, all
scrambled (R666, R669). The scrambler's start is free (log 183). -/
def State.putOnLine (s : State) (l w : Nat) (cells : List Nat) : State :=
  let p := s.pcsOf l
  let due := decide (16384 ≤ p.since)
  let rs := cells.zipIdx.map fun c =>
    scrambleBlocks (mget p.scr c.2 (Config.scramblerSeed l c.2 % 2 ^ 58)) ((if due then [(2, markerOf c.2 w)] else []) ++ cellBlocks c.1)
  let scr := rs.zipIdx.foldl (fun m r => mins m r.2 r.1.2) p.scr
  { s with pcs := mset s.pcs l ⟨scr, (if due then 0 else p.since) + 4, rs.map Prod.fst⟩ Pcs.init }

end Sys2Proof.Machine
end

