-- ==== Sys2Proof/Machine/Ixgal.lean ====
section
/-!
DEFINITION. The Ixgal die link: flits, replay, credits, lane location, swaps, training, retirement and folding (chapter 8).
-/
namespace Sys2Proof.Machine

/-- A port before any training. -/
def IxPort.init : IxPort :=
  ⟨false, 0, [], [], [0, 0, 0, 0], [0, 0, 0, 0], [0, 0, 0, 0], 0, none, 0, [], [0, 0, 0, 0], [], [], 0, 0, false, true,
   false, false, none, false, 0x3F9FCFE7F, [], false, false, [], [], 0, 0, 0, 0⟩

/-- A port of a die. -/
def State.ixp (s : State) (d p : Nat) : IxPort := mget s.ix (key2 d p) IxPort.init

/-- The state with a port replaced. -/
def State.setIxp (s : State) (d p : Nat) (x : IxPort) : State := { s with ix := mset s.ix (key2 d p) x IxPort.init }

/-- The fabric die after `f` in the ring of fabric dies (R419). -/
def State.nextDie (s : State) (f : Nat) : Nat := if f = (if s.is20 then 2 else 4) then 1 else f + 1

/-- The fabric die before `f`. -/
def State.prevDie (s : State) (f : Nat) : Nat := if f = 1 then (if s.is20 then 2 else 4) else f - 1

/-- The other end of a port, or none where the port is absent (Table 8-2). -/
def State.ixPeer (s : State) (d p : Nat) : Option (Nat × Nat) :=
  if d = 0 then
    if p < 16 then (if s.hasDie (p / 4 + 1) then some (p / 4 + 1, p % 4) else none)
    else if p < 18 && s.is40X then some (5, p - 16) else none
  else if d = 5 then (if s.is40X && p < 2 then some (0, 16 + p) else none)
  else if !s.hasDie d then none
  else if p < 4 then some (0, 4 * (d - 1) + p)
  else if p < 6 then (if s.is20 && d == 2 then none else some (s.nextDie d, p + 2))
  else if p < 8 then (if s.is20 && d == 1 then none else some (s.prevDie d, p - 2))
  else none

/-- The bundle index of a port within its die pair, and the ports of the pair at the same die (R419). -/
def bundleIndex (d p : Nat) : Nat :=
  if d = 0 then (if p < 16 then p % 4 else p - 16) else if d = 5 then p else if p < 4 then p else p % 2

/-- The ports of die `a` towards die `b`, in bundle order (Table 8-2). -/
def State.pairPorts (s : State) (a b : Nat) : List Nat :=
  (List.range 18).filter fun p => match s.ixPeer a p with | some (d, _) => d == b | none => false

/-! ## Check sum and flit fields -/

/-- One bit of the CRC-16 of R427. -/
def crc16Bit (c b : Nat) : Nat := (c * 2 % 65536) ^^^ (if (c / 0x8000 + b) % 2 = 1 then 0x1021 else 0)

/-- The CRC-16 over the low `n` bits of `w`, from the highest down, onto `c` (R427). -/
def crc16From (w n c : Nat) : Nat :=
  match n with
  | 0 => c
  | k + 1 => crc16From w k (crc16Bit c (w / 2 ^ k % 2))

/-- CRC-16 with initial value 0xFFFF (R427). -/
def crc16 (w n : Nat) : Nat := crc16From w n 0xFFFF

/-- Whether a flit's CRC is good (R426). -/
def flitGood (f : Nat) : Bool := crc16 (f % 2 ^ 112) 112 == f / 2 ^ 112

/-- SEQ of a flit (Table 8-5). -/
def flitSeq (f : Nat) : Nat := bits f 111 104
/-- FORMAT of a flit (Table 8-6). -/
def flitFmt (f : Nat) : Nat := bits f 1 0
/-- VC of a flit (Table 8-6). -/
def flitVc (f : Nat) : Nat := bits f 7 6
/-- The command word of a first flit (R432). -/
def flitCmd (f : Nat) : Nat := bits f 55 8

/-- How many flits a transaction takes (Table 8-9), or none for a reserved OP. -/
def flitCount (cmd : Nat) : Option Nat :=
  let n := lengthOf (bits cmd 25 20)
  match bits cmd 47 44 with
  | 0 => some 1 | 1 => some (1 + (n + 1) / 2) | 2 => some 2 | 3 => some 2 | 4 => some 2
  | 8 => some ((n + 2) / 2) | 9 => some 1 | _ => none

/-- Whether an OP may travel on a VC (Table 9-4). -/
def opOnVc (op vc : Nat) : Bool :=
  match vc with
  | 0 => op == 8 || op == 9
  | 1 => op == 1 || op == 2
  | 2 => op == 0 || op == 3 || op == 4
  | _ => op == 1

/-! ## Retirement and retraining -/

/-- The surviving bundles of the pair that joins port `p` of die `d`: its ports at die `d` with EN = 1 that are not retired. -/
def State.survivors (s : State) (d p : Nat) : List Nat :=
  match s.ixPeer d p with
  | none => []
  | some (e, _) => (s.pairPorts d e).filter fun q => q != p && s.rf F.IXG_STAT_STATE d q != 4 && s.rb F.IXG_CTL_EN d q

/-- The die pair `a`, `b`, lower die first. -/
def pairOf (a b : Nat) : Nat × Nat := if a ≤ b then (a, b) else (b, a)

/-- Whether a transaction between dies `a` and `b` crosses the pair `x`: next neighbours directly, others through the I/O hub (Table 9-3). -/
def State.crosses (s : State) (a b : Nat) (x : Nat × Nat) : Bool :=
  if a = b then false
  else if a = 0 || b = 0 || (s.pairPorts a b != []) then pairOf a b == x
  else pairOf a 0 == x || pairOf 0 b == x

/-- The last bundle of a pair has retired: held flits are discarded, every outstanding request across the pair is
answered aborted and frees its tag, and the link is lost (R458, R514). -/
def State.losePair (s : State) (d p e q : Nat) : State :=
  let x := pairOf d e
  let s := s.setIxp d p { s.ixp d p with replay := [], folded := [], redo := 0 }
  let s := s.setIxp e q { s.ixp e q with replay := [], folded := [], redo := 0 }
  let hit : Outst → Bool := fun o => s.crosses o.txn.srcDie (addrDie o.txn.addr) x && addrDev o.txn.addr == s.devNum && !o.quarantined
  let lost := s.outst.filter hit
  let s : State := { s with
    lostPairs := s.lostPairs ++ [x]
    inFlight := s.inFlight.filter fun t => !(s.crosses t.srcDie (addrDie t.addr) x)
    resps := (s.resps.filter fun r => !(lost.any fun o => o.txn.srcDie == r.srcDie && o.txn.master == r.master && o.txn.rtag == r.rtag)) ++ lost.map fun o =>
      ⟨o.txn.op == .add || o.txn.op == .swap, o.txn.srcDie, o.txn.master, o.txn.rtag, 3, List.replicate o.txn.len noWord⟩ }
  (s.raise .ixgalLinkLost d p).raise .transportUnreachable (min d e) 0

/-- A bundle retires: EN cleared, STATE retired, partly received transactions discarded; with no survivor the pair is lost
(R456 to R458). Its held transactions fold when RETIRE is received (R457). A retired bundle stays as it is. -/
def State.retire (s : State) (d p : Nat) : State :=
  match s.ixPeer d p with
  | none => s
  | some (e, q) =>
    if s.rf F.IXG_STAT_STATE d p = 4 then (if (s.ixp d p).replay = [] then s.wf F.IXG_CTL_RETIRE 0 d p else s)
    else
    let one := fun (s : State) (d p : Nat) =>
      let s := ((s.wf F.IXG_CTL_EN 0 d p).wf F.IXG_CTL_RETRAIN 0 d p).wf F.IXG_STAT_STATE 4 d p
      s.setIxp d p { s.ixp d p with rxPart := [], swap := none, retrainAfter := false, err := none }
    let s := one (one s d p) e q
    let s := s.raise .ixgalBundleRetired d p (s.rw .IXG_LOC_LAST d p)
    if s.survivors d p = [] then
      ((s.losePair d p e q).wf F.IXG_CTL_RETIRE 0 d p).wf F.IXG_CTL_RETIRE 0 e q
    else s

/-- A retraining of a bundle starts: it holds the bundle and keeps sequence numbers, acknowledgements and credits; during
a swap it waits for the swap's end (R451, R463); fast retraining omits the capability words (R450). A retired bundle trains
from reset (R469). -/
def State.retrain (s : State) (d p : Nat) : State :=
  match s.ixPeer d p with
  | none => s
  | some (e, q) =>
    if (s.ixp d p).swap.isSome || (s.ixp e q).swap.isSome then s.setIxp d p { s.ixp d p with retrainAfter := true }
    else
      let was := s.rf F.IXG_STAT_STATE d p
      let reset := !(was == 2 || was == 3)
      let one := fun (s : State) (d p : Nat) =>
        let x := s.ixp d p
        (s.setIxp d p { x with
          fromReset := reset, trained := false, ready := false, capCount := 0
          capDone := !reset && s.rb F.IXG_STAT_FAST d p, naks := 0 }).wf
          F.IXG_STAT_STATE (if reset then 1 else 3) d p
      one (one s d p) e q

/-- A protocol error: ixgal-protocol-error and a retraining (R467, R516). -/
def State.ixProtocol (s : State) (d p : Nat) : State := (s.raise .ixgalProtocolError d p (s.rw .IXG_LOC_LAST d p)).retrain d p

/-! ## Lane maps -/

/-- Field of spare `k` in a lane map (R474). -/
def mapField (m k : Nat) : Nat := bits m (9 * k + 8) (9 * k)

/-- A lane map with the field of spare `k` replaced. -/
def mapPut (m k v : Nat) : Nat := m / 2 ^ (9 * k + 9) * 2 ^ (9 * k + 9) + v % 512 * 2 ^ (9 * k) + m % 2 ^ (9 * k)

/-- The lowest-numbered unused good spare of a lane map. -/
def freeSpare (m : Nat) : Option Nat := (List.range 4).find? fun k => mapField m k == 0x7F

/-- The number of unused good spares of a lane map. -/
def sparesLeft (m : Nat) : Nat := ((List.range 4).filter fun k => mapField m k == 0x7F).length

/-- A lane map with a wire replaced by a spare, for a source (1 fuse, 2 lane test, 3 swap); none where no spare is left (R452). -/
def mapAdd (m wire src : Nat) : Option Nat := (freeSpare m).map fun k => mapPut m k (src * 128 + wire)

/-- The lane map of a direction (R452): bad spares (failed, fused or failed in use) first, then fused wires, then wires that
failed the lane test, then wires located while the line ran, each group in ascending order; none where the spares do not
suffice. -/
def buildMap (fuse bad located : List Nat) : Option Nat :=
  let m0 := (List.range 4).foldl (fun m k => if bad.contains (66 + k) || fuse.contains (66 + k) then mapPut m k 0x7E else m) 0x3F9FCFE7F
  let add := fun (m : Option Nat) (g : Nat → Bool) (src : Nat) =>
    ((List.range 66).filter g).foldl (fun m w => m.bind fun x => mapAdd x w src) m
  let m1 := add (some m0) fuse.contains 1
  let m2 := add m1 (fun w => bad.contains w && !fuse.contains w) 2
  add m2 (fun w => located.contains w && !bad.contains w && !fuse.contains w) 3

/-- The wires of a lane map that swaps replaced. -/
def swapped (m : Nat) : List Nat := ((List.range 4).filter fun k => mapField m k / 128 == 3).map fun k => mapField m k % 128

/-- The lane map that a training gives port `p`, with the wires `bad` failing its lane test: a training from reset starts from
the fuses, a retraining keeps the wires located while the line ran (R452, R455, R468, R470). -/
def State.trainedMap (s : State) (d p : Nat) (bad : List Nat) : Option Nat :=
  let x := s.ixp d p
  buildMap x.fuse (bad ++ x.dead) (if x.fromReset then [] else swapped (s.rf F.IXG_LANE_MAP_MAP d p))

/-- The wire that carries IXD[n] under a lane map: the spare that replaces it, or itself (R441). -/
def carrier (m n : Nat) : Nat :=
  match (List.range 4).find? fun k => mapField m k % 128 == n && mapField m k / 128 != 0 with
  | some k => 66 + k
  | none => n

/-! ## Location and swaps -/

/-- A swap of a wire of the direction that port `p` receives: the lowest good spare, or retirement where none is left. The
direction carries flits until the sender has received SWAP (R443, R453, R455, R456). -/
def State.startSwap (s : State) (d p wire : Nat) : State :=
  match freeSpare (s.rf F.IXG_LANE_MAP_MAP d p) with
  | none => s.retire d p
  | some k => s.setIxp d p { s.ixp d p with swap := some (wire, k) }

/-- An error event is recorded while VALID is 0 (R475). -/
def State.ixRecord (s : State) (d p : Nat) (unloc : Bool) (wire seq : Nat) : State :=
  if s.rb F.IXG_LOC_LAST_VALID d p then s
  else s.ww .IXG_LOC_LAST (2 ^ 47 + b2n unloc * 2 ^ 46 + wire * 2 ^ 39 + seq * 2 ^ 24) d p

/-- A located wire is counted: with LOC_THRESH locations within 2^LOC_EXP µs its swap starts and its count restarts (R443).
In a swap or a training of the direction it is kept until the hold ends (R462). -/
def State.countLoc (s : State) (d p wire seq : Nat) : State :=
  let x := s.ixp d p
  if x.swap.isSome || s.rf F.IXG_STAT_STATE d p ≠ 2 then s.setIxp d p { x with later := x.later ++ [(wire, seq)] }
  else
    let win := 2 ^ s.rf F.IXG_CTL_LOC_EXP d p * 1000
    let locs := (wire, s.now) :: x.locs.filter fun e => s.now - e.2 ≤ win
    let n := (locs.filter fun e => e.1 == wire).length
    if s.rf F.IXG_CTL_LOC_THRESH d p ≤ n then
      (s.setIxp d p { x with locs := locs.filter fun e => e.1 != wire }).startSwap d p wire
    else s.setIxp d p { x with locs := locs }

/-- A wire is located (R443, R475). -/
def State.locate (s : State) (d p wire seq : Nat) : State := (s.ixRecord d p false wire seq).countLoc d p wire seq

/-- A sideband message that fails its CRC locates the wire that carries IXCTL (R442). -/
def State.badSideband (s : State) (d p : Nat) : State :=
  s.locate d p (carrier (s.rf F.IXG_LANE_MAP_MAP d p) 65) (s.ixp d p).rxNext

/-- Whether a sideband message of a TYPE and BODY arrives with its CRC (R447). -/
def sbGood (ty body crc : Nat) : Bool := crc == crc16 (ty * 2 ^ 48 + body) 56

/-- The end of a hold: the wires located in it are counted (R462). -/
def State.countLater (s : State) (d p : Nat) : State :=
  let x := s.ixp d p
  x.later.foldl (fun s e => s.countLoc d p e.1 e.2) (s.setIxp d p { x with later := [] })

/-- An unlocated error event: LOC_THRESH of them within 2^LOC_EXP µs start a retraining, but not a second one where the event
has been the REPLAY_LIMIT-th NAK for its SEQ (R444). -/
def State.unlocated (s : State) (d p seq : Nat) : State :=
  let s := s.ixRecord d p true 0 seq
  let x := s.ixp d p
  let win := 2 ^ s.rf F.IXG_CTL_LOC_EXP d p * 1000
  let us := s.now :: x.unlocs.filter fun t => s.now - t ≤ win
  if s.rf F.IXG_CTL_LOC_THRESH d p ≤ us.length then
    if x.limited then s.setIxp d p { x with unlocs := [] }
    else ((s.setIxp d p { x with unlocs := [] }).raise .ixgalReplayLimit d p (s.rw .IXG_LOC_LAST d p)).retrain d p
  else s.setIxp d p { x with unlocs := us }

/-- The wires of the bits in which two copies of a flit differ (R441). -/
def diffWires (m a b : Nat) : List Nat :=
  (((List.range 128).filter fun k => bit (a ^^^ b) k).map fun k => carrier m (k % 64)).dedup

/-- WIRE_LOCATE: the failed and the accepted copy of a flit locate one wire, or leave the event unlocated (R441). -/
def State.wireLocate (s : State) (d p failed good : Nat) : State :=
  match diffWires (s.rf F.IXG_LANE_MAP_MAP d p) failed good with
  | [w] => s.locate d p w (flitSeq good)
  | _ => s.unlocated d p (flitSeq good)

/-! ## Flits -/

/-- A NAK is sent for the expected SEQ; REPLAY_LIMIT of them start a retraining (R436, R461, R467). -/
def State.sendNak (s : State) (d p : Nat) : State :=
  let x := s.ixp d p
  if s.rf F.IXG_CTL_REPLAY_LIMIT d p ≤ x.naks + 1 then
    ((s.setIxp d p { x with naks := 0, limited := x.err.isSome }).raise .ixgalReplayLimit d p (s.rw .IXG_LOC_LAST d p)).retrain d p
  else s.setIxp d p { x with naks := x.naks + 1 }

/-- The words of a transaction's flits after the command word, pad words included (Table 8-5, Table 8-9). -/
def flitWords (fs : List Nat) : List TWord :=
  (fs.flatMap fun f => [(⟨BitVec.ofNat 48 (bits f 55 8), BitVec.ofNat 2 (bits f 3 2)⟩ : TWord),
    ⟨BitVec.ofNat 48 (bits f 103 56), BitVec.ofNat 2 (bits f 5 4)⟩]).drop 1

/-- A whole transaction from a guest die enters the package transport (R72, R440). -/
def State.guestDeliver (s : State) (fs : List Nat) : State :=
  match fs with
  | [] => s
  | f :: _ =>
    let cmd := flitCmd f
    let ws := flitWords fs
    let die := bits cmd 43 41
    let m := bits cmd 40 32
    let n := lengthOf (bits cmd 25 20)
    match opOf (bits cmd 47 44) with
    | some op =>
      let lw := match bits cmd 19 18 with | 1 => 24 | 2 => 12 | 3 => 6 | _ => 48
      let vc := match flitVc f with | 1 => VC.posted | 2 => VC.requests | 3 => VC.streams | _ => VC.responses
      let t : Txn := ⟨op, die, m, bits cmd 31 26, (ws.headD noWord).data.toNat, txnLen op n, lw, bits cmd 17 15, (ws.drop 1).take (dataWords op n), vc, 0⟩
      { s.inject t with outst := if isReq t then s.outst ++ [⟨t, false, false⟩] else s.outst }
    | none =>
      let r : Resp := ⟨bits cmd 47 44 == 9, die, m, bits cmd 31 26, bits cmd 14 12, ws.take n⟩
      { s with resps := s.resps ++ [r], net := s.net.enter (.resp r) }

/-- An accepted flit joins its transaction, which is delivered with its last flit and frees its receive buffer (R440,
R431). A flit that breaks the protocol is an error (R467). -/
def State.flitAccept (s : State) (d p f : Nat) : State :=
  let x := s.ixp d p
  let parts := if flitFmt f = 1 then [f] else x.rxPart ++ [f]
  let bad := flitFmt f == 2 || (flitFmt f == 0 && x.rxPart.isEmpty) || (flitFmt f == 1 && !x.rxPart.isEmpty)
    || !opOnVc (bits (flitCmd (parts.headD 0)) 47 44) (flitVc f)
  match flitCount (flitCmd (parts.headD 0)) with
  | none => s.ixProtocol d p
  | some n =>
    if bad then s.ixProtocol d p
    else if parts.length < n then s.setIxp d p { x with rxPart := parts }
    else
      let v := flitVc f
      let s := s.setIxp d p { x with rxPart := [], freed := x.freed.set v ((x.freed.getD v 0 + n) % 256) }
      if (match s.ixPeer d p with | some (5, _) => true | _ => false) then s.guestDeliver parts else s

/-- Whether the last transaction of a replay buffer still lacks flits (R434). -/
def txOpen (replay : List Nat) : Bool :=
  match (replay.splitBy fun _ g => flitFmt g != 1).getLast? with
  | none => false
  | some t => match flitCount (flitCmd (t.headD 0)) with | some n => decide (t.length < n) | none => false

/-- Whether a sender may launch `f` as its next flit: a continuation of the open transaction, or the first flit of a
transaction for which the replay buffer has room (R431, R434, R438). -/
def IxPort.mayLaunch (x : IxPort) (f : Nat) : Bool :=
  flitGood f && x.initSeen && decide (0 < x.cred.getD (flitVc f) 0) &&
    (if txOpen x.replay then flitFmt f == 0 && flitVc f == flitVc (x.replay.getLast?.getD 0)
     else flitFmt f == 1 && opOnVc (bits (flitCmd f) 47 44) (flitVc f) &&
       (match flitCount (flitCmd f) with | some n => decide (x.replay.length + n ≤ 64) | none => false))

/-- The folded flits after `f` is launched: a folded transaction is sent again before any new one of its VC, with a new SEQ;
`none` where `f` would go ahead of it (R457). -/
def foldedAfter (folded : List Nat) (f : Nat) : Option (List Nat) :=
  match folded.find? fun g => flitVc g == flitVc f with
  | none => some folded
  | some g => if g % 2 ^ 104 = f % 2 ^ 104 then some (folded.erase g)
    else if flitFmt f = 0 ∧ flitFmt g = 1 then some folded else none

/-- Whether a port sends flits: its bundle is active, or holds for a swap of the opposite direction only (R453). -/
def State.ixSends (s : State) (d p : Nat) : Bool :=
  s.rf F.IXG_STAT_STATE d p == 2 || (s.rf F.IXG_STAT_STATE d p == 3 && (s.ixp d p).swap.isSome)

/-- The sender's side of a sequenced flit: a new flit takes the next SEQ, a place in the replay buffer and a credit of its
VC; after a NAK the held flits go first, in order (R431, R435, R438, R439). `none` where the sender cannot have sent it. -/
def State.flitLaunch (s : State) (d p f : Nat) : Option State :=
  if d = 5 then some s
  else
    let x := s.ixp d p
    let next := s.rf F.IXG_STAT_NEXT_SEQ d p
    let v := flitVc f
    if !s.ixSends d p then none
    else if 0 < x.redo then
      if x.replay[x.replay.length - x.redo]? = some f then some (s.setIxp d p { x with redo := x.redo - 1, run := x.run + 1 }) else none
    else if flitSeq f = next ∧ x.mayLaunch f then
      match foldedAfter x.folded f with
      | none => none
      | some fo =>
        let s := s.setIxp d p { x with replay := x.replay ++ [f], folded := fo, cred := x.cred.set v (x.cred.getD v 0 - 1), run := x.run + 1 }
        some ((s.wf F.IXG_STAT_NEXT_SEQ (next + 1) d p).wf F.IXG_STAT_HELD (x.replay.length + 1) d p)
    else none

/-- The receiver's side of a sequenced flit; `again` is true where it is sent in a replay (R435, R441, R461). -/
def State.flitReceive (s : State) (d p f : Nat) (parity again : Bool) : State :=
  let x := s.ixp d p
  if !flitGood f then
    let s := (s.incE F.IXG_CRC_CNT_COUNT d p).raise .ixgalCrcError d p (s.rw .IXG_LOC_LAST d p)
    if x.err.isNone then (s.setIxp d p { x with err := some f, naks := 0, limited := false }).sendNak d p
    else if again then s.sendNak d p else s
  else if flitSeq f ≠ x.rxNext then s
  else
    let s := s.setIxp d p { x with rxNext := (x.rxNext + 1) % 256, err := none, naks := 0, unacked := x.unacked + 1 }
    let s := match x.err with
      | none => s
      | some e => let s := s.wireLocate d p e f; s.setIxp d p { s.ixp d p with limited := false }
    let s := if parity then s.locate d p (carrier (s.rf F.IXG_LANE_MAP_MAP d p) 64) (flitSeq f) else s
    s.flitAccept d p f

/-- A sender's held flits after acknowledgements up to before `upto`: a flit leaves once the last flit of its transaction
has been acknowledged too (R438). -/
def dropAcked (replay : List Nat) (ackNext n : Nat) : List Nat :=
  let acked := fun f => (flitSeq f + 256 - ackNext) % 256 < n
  let whole := replay.splitBy fun _ g => flitFmt g != 1
  whole.flatMap fun t => if t.all acked && (match flitCount (flitCmd (t.headD 0)) with | some k => decide (k ≤ t.length) | none => true) then [] else t

/-- How many of the held flits have a SEQ at or after `ackNext` (R439). -/
def unackedFlits (held : List Nat) (ackNext : Nat) : Nat :=
  (held.filter fun f => decide ((flitSeq f + 256 - ackNext) % 256 < 128)).length

/-- A port with every flit not yet acknowledged to be sent again (R439). -/
def IxPort.resend (x : IxPort) : IxPort := { x with redo := unackedFlits x.replay x.ackNext }

/-- The receive buffers that a Quowin die advertises, by virtual channel (R488, Table 9-5). -/
def ixBuffers : List Nat := [128, 96, 64, 96]

/-- Credits of a VC after a cumulative CRED: a return beyond the ceiling is discarded (R86, R431). -/
def credReturn (cred ceil last now : Nat) : Nat × Bool :=
  let n := (now + 256 - last) % 256
  if cred + n ≤ ceil then (cred + n, true) else (cred, false)

/-- A control flit with a good CRC arrives at port `p` (R430, R436, R439): it applies ACK_SEQ, INIT sizes and credits, and a NAK has
every held flit after ACK_SEQ sent again; a NAK for what is acknowledged already is ignored. -/
def State.controlArrive (s : State) (d p ack : Nat) (nak ini : Bool) (cred size : List Nat) : State :=
  let x := s.ixp d p
  let sentN := (s.rf F.IXG_STAT_NEXT_SEQ d p + 256 - x.ackNext) % 256
  let n := (ack + 1 + 256 - x.ackNext) % 256
  if sentN < n then
    if nak && decide (128 < n) then s else s.ixProtocol d p
  else
    let held := dropAcked x.replay x.ackNext n
    let x := if ini && !x.initSeen then { x with initSeen := true, ceil := size, cred := size, lastCred := [0, 0, 0, 0] } else x
    let rs := (List.range 4).map fun v => credReturn (x.cred.getD v 0) (x.ceil.getD v 0) (x.lastCred.getD v 0) (cred.getD v 0)
    let s := s.setIxp d p { x with ackNext := (ack + 1) % 256, replay := held, redo := if nak then unackedFlits held ((ack + 1) % 256) else min x.redo held.length, cred := rs.map (·.1), lastCred := cred }
    let s := ((s.wf F.IXG_STAT_PEER_ACK ack d p).wf F.IXG_STAT_HELD held.length d p)
    let s := if nak then s.incE F.IXG_REPLAY_CNT_COUNT d p else s
    if rs.all (·.2) then s else s.ixProtocol d p

/-- What a control flit of port `p` settles for its sender: what it has accepted is acknowledged, and the count towards the next one
starts again (R424, R431, R437). -/
def IxPort.controlSent (x : IxPort) : IxPort := { x with unacked := 0, run := 0, inits := min 4 (x.inits + 1) }

/-- Port `p` sends a control flit with what it has accepted and freed, and its buffer sizes in the first four after training from reset
(R430, R431, R488). What a guest die does with it is its own. -/
def State.sendControl (s : State) (d p : Nat) : State :=
  match s.ixPeer d p with
  | none => s
  | some (e, q) =>
    let x := s.ixp d p
    let s := s.setIxp d p x.controlSent
    if e = 5 || s.rf F.IXG_STAT_STATE e q ≠ 2 then s
    else s.controlArrive e q ((x.rxNext + 255) % 256) false (x.inits < 4) x.freed (if x.inits < 4 then ixBuffers else [0, 0, 0, 0])

/-- The control flits that a port owes: one in every 128 flits it sends, and one for every 16 sequenced flits accepted (R424, R437). -/
def State.owedControl (s : State) (d p : Nat) : State :=
  if 127 ≤ (s.ixp d p).run || 16 ≤ (s.ixp d p).unacked then s.sendControl d p else s

/-- What IXPAR carries in beat `k` of a flit: it makes the number of 1s even (R422). -/
def flitPar (f k : Nat) : Bool := (List.range 64).foldl (fun b n => b != bit f (64 * k + n)) false

/-- SEQUENCED_FLIT (R422, R435): flit `sent` arrives at port `p` of die `d` as `got`, IXPAR as bits 0 and 1 of `par` in its beats. A
parity mismatch in a beat of a flit with a good CRC locates IXPAR (R442). -/
def execSequencedFlit (d p sent got par : Nat) (s : State) : Out :=
  .next (match s.ixPeer d p with
    | none => s
    | some (e, q) =>
      if s.rf F.IXG_STAT_STATE d p ≠ 2 then s
      else match s.flitLaunch e q sent with
        | none => s
        | some t => ((t.flitReceive d p got (bit par 0 != flitPar got 0 || bit par 1 != flitPar got 1) (e == 5 || decide (0 < (s.ixp e q).redo))).owedControl d p).owedControl e q)

/-- CONTROL_FLIT: a control flit of the peer arrives at port `p`. One with a bad CRC (`good` false) is discarded and counted (R436). -/
def execControlFlit (d p : Nat) (good : Bool) (ack : Nat) (nak ini : Bool) (cred size : List Nat) (s : State) : Out :=
  .next (match s.ixPeer d p with
    | none => s
    | some (e, q) =>
      if s.rf F.IXG_STAT_STATE d p ≠ 2 then s
      else
        let y := s.ixp e q
        let s := s.setIxp e q { y.controlSent with unacked := if good ∧ ack = (y.rxNext + 255) % 256 then 0 else y.unacked }
        if good then s.controlArrive d p ack nak ini cred size else s.incE F.IXG_CRC_CNT_COUNT d p)

/-- A port of an active bundle with nothing else to send sends a control flit (R424). -/
def State.idleFlits (s : State) : State :=
  [0, 1, 2, 3, 4].foldl (fun (s : State) d => (List.range 18).foldl (fun (s : State) p =>
    if (s.ixPeer d p).isSome && s.rf F.IXG_STAT_STATE d p == 2 then s.sendControl d p else s) s) s

/-- NAK_RESEND (R436): the expected flit has not been accepted 256 port cycles after a NAK. -/
def execNakResend (d p : Nat) (s : State) : Out :=
  .next (if (s.ixp d p).err.isSome && s.rf F.IXG_STAT_STATE d p = 2 then s.sendNak d p else s)

/-! ## Training -/

/-- The local capability word of a port (R445): RATES up to RATE_CAP (R472). -/
def State.capLocal (s : State) (d p : Nat) : Nat :=
  match s.ixPeer d p with
  | none => 0
  | some (e, _) =>
    let io := decide (d = 0)
    2 ^ 44 + (if io then 0 else 1) * 2 ^ 40 + (if io then 1 else 2) * 2 ^ 36
      + (2 ^ (s.rf F.IXG_CTL_RATE_CAP d p + 1) - 1) * 2 ^ 32 + 2 ^ 28 + bundleIndex d p * 2 ^ 26
      + (s.pairPorts d e).length * 2 ^ 23 + (4 - (s.ixp d p).fuse.length) * 2 ^ 20 + 2 ^ 19 + (if io then 0 else 1) * 2 ^ 18 + 0x0A51

/-- The highest RATES bit set in both capability words, if any (R446). -/
def commonRate (a b : Nat) : Option Nat :=
  [3, 2, 1, 0].find? fun r => bit (bits a 35 32) r && bit (bits b 35 32) r

/-- Whether two capability words let a bundle come up (R446). -/
def capsAgree (a b : Nat) : Bool :=
  bits a 47 44 == 1 && bits b 47 44 == 1 && bit a 28 && bit b 28 && (commonRate a b).isSome && bits a 27 23 == bits b 27 23

/-- SIDEBAND_CAP (R446, R448): the third identical good capability word settles rate and fast retraining, or
ixgal-capability-mismatch leaves the bundle down; a capability word changed at a retraining retires it (R456). A message
with a bad CRC locates IXCTL (R442); outside a training the word has no effect. -/
def execSidebandCap (d p w crc : Nat) (s : State) : Out :=
  .next (match s.ixPeer d p with
    | none => s
    | some (e, q) =>
      if !sbGood 1 w crc then s.badSideband d p
      else if s.rf F.IXG_STAT_STATE d p ≠ 1 ∧ s.rf F.IXG_STAT_STATE d p ≠ 3 then s
      else
        let x := s.ixp d p
        let n := if x.capLast = w then x.capCount + 1 else 1
        let x := { x with capLast := w, capCount := n }
        if n < 3 then s.setIxp d p x
        else if !x.fromReset && (s.rf F.IXG_CAP_PEER_CAP d p != w || s.rf F.IXG_CAP_LOCAL_CAP d p != s.capLocal d p) then (s.setIxp d p x).retire d p
        else
          let mine := s.capLocal d p
          let s := (s.setIxp d p { x with capDone := capsAgree mine w }).ww .IXG_CAP_LOCAL mine d p
          let s := s.ww .IXG_CAP_PEER w d p
          if capsAgree mine w then
            (s.wf F.IXG_STAT_RATE ((commonRate mine w).getD 0) d p).wf F.IXG_STAT_FAST (b2n (bit mine 18 && bit w 18)) d p
          else
            ((s.wf F.IXG_STAT_STATE 0 d p).wf F.IXG_STAT_STATE 0 e q).raise .ixgalCapabilityMismatch d p)

/-- The receive side of one direction after a training: lane map, spares, failed wires, clock; a training from reset also
starts SEQ at 0 with empty buffers (R448, R451, R470, R473). -/
def State.trainSide (s : State) (d p m : Nat) (bad : List Nat) (clk : Nat) : State :=
  let x := s.ixp d p
  let lo := bad.foldl (fun a w => if w < 48 then a ||| 2 ^ w else a) 0
  let hi := bad.foldl (fun a w => if 48 ≤ w then a ||| 2 ^ (w - 48) else a) 0 ||| (if clk = 1 then 2 ^ 22 else 0)
  let s := (s.ww .IXG_LANE_MAP m d p).wf F.IXG_STAT_SPARES_LEFT (sparesLeft m) d p
  let s := ((s.wf F.IXG_STAT_CLK_SPARE (b2n (clk == 1 || x.fuseClk)) d p).ww .IXG_TEST_BAD_LO lo d p).ww .IXG_TEST_BAD_HI hi d p
  if x.fromReset then
    let s := s.setIxp d p { IxPort.init with fuse := x.fuse, fuseClk := x.fuseClk, dead := x.dead, capLast := x.capLast, capDone := true, trained := true }
    ((s.wf F.IXG_STAT_NEXT_SEQ 0 d p).wf F.IXG_STAT_HELD 0 d p).wf F.IXG_STAT_PEER_ACK 0 d p
  else s.setIxp d p { x with trained := true }

/-- A training fails: from reset the bundle stays down and is retried; a retraining that fails retires the bundle (R456, R467). -/
def State.trainFail (s : State) (d p e q : Nat) : State :=
  if (s.ixp d p).fromReset then
    ((((s.wf F.IXG_STAT_STATE 0 d p).wf F.IXG_STAT_STATE 0 e q).wf F.IXG_CTL_RETRAIN 0 d p).wf F.IXG_CTL_RETRAIN 0 e q).raise .ixgalTrainFailed d p
  else s.retire d p

/-- BUNDLE_TRAINING (R448): the steps of Table 8-12 end with what they found. Clocks exhausted in a direction retire the bundle
(R456); fewer than 3 good capability words or too few spares fail it; otherwise each side holds its lane map and has sent MAP and READY. -/
def execBundleTraining (d p : Nat) (r : TrainResult) (s : State) : Out :=
  .next (match s.ixPeer d p with
    | none => s
    | some (e, q) =>
      if s.rf F.IXG_STAT_STATE d p ≠ 1 ∧ s.rf F.IXG_STAT_STATE d p ≠ 3 then s
      else if (s.ixp d p).trained || (s.ixp d p).swap.isSome then s
      else if r.clkA = 2 || r.clkB = 2 then s.retire d p
      else
        let ma := s.trainedMap d p r.badA
        let mb := s.trainedMap e q r.badB
        match ma, mb with
        | some ma, some mb =>
          if !(s.ixp d p).capDone || !((s.ixp e q).capDone || e == 5) then s.trainFail d p e q
          else (s.trainSide d p ma r.badA r.clkA).trainSide e q mb r.badB r.clkB
        | _, _ => s.trainFail d p e q)

/-- SIDEBAND_READY (R448, R451, R453): in training the bundle is active once both sides have received READY; after a swap it
ends the receiver's hold. Held flits are then sent again as after a NAK. -/
def execSidebandReady (d p crc : Nat) (s : State) : Out :=
  .next (match s.ixPeer d p with
    | none => s
    | some (e, q) =>
      if !sbGood 3 0 crc then s.badSideband d p
      else
        let x := s.ixp d p
        match x.swap with
        | some _ =>
          let after := x.retrainAfter || (s.ixp e q).retrainAfter
          let s := (s.setIxp d p { x with swap := none, retrainAfter := false }).wf F.IXG_STAT_STATE 2 d p
          let s := s.setIxp e q { s.ixp e q with retrainAfter := false }.resend
          let s := if (s.ixp e q).replay.isEmpty then s else s.incE F.IXG_REPLAY_CNT_COUNT e q
          (if after then s.retrain d p else s).countLater d p
        | none =>
          if !x.trained then s
          else
            let s := s.setIxp d p { x with ready := true }
            if (s.ixp e q).ready || e == 5 then
              let one := fun (s : State) (d p : Nat) =>
                let y := s.ixp d p
                let s := if y.fromReset || y.replay.isEmpty then s else s.incE F.IXG_REPLAY_CNT_COUNT d p
                let s := s.setIxp d p { y with trained := false, ready := false, fromReset := false }.resend
                ((s.wf F.IXG_STAT_STATE 2 d p).wf F.IXG_CTL_RETRAIN 0 d p).wf F.IXG_CTL_EN 1 d p
              let s := ((one (one s d p) e q).countLater d p).countLater e q
              let s : State := { s with lostPairs := s.lostPairs.filter fun z => z != pairOf d e }
              -- a training from reset frees the quarantined tags of the requests it carried (R513)
              if x.fromReset then { s with outst := s.outst.filter fun o => !(o.quarantined && s.crosses o.txn.srcDie (addrDie o.txn.addr) (pairOf d e)) } else s
            else s)

/-- SIDEBAND_MAP (R452, R453): a received MAP sets the lane map that the sender of the direction follows; for a swap it
follows the receiver's switch, which is counted and raised (R454). -/
def execSidebandMap (d p body crc : Nat) (s : State) : Out :=
  .next (match s.ixPeer d p with
    | none => s
    | some (e, q) =>
      if !sbGood 2 body crc then s.badSideband d p
      else
        let s := s.setIxp d p { s.ixp d p with txMap := bits body 36 0 }
        match (s.ixp e q).swap with
        | none => s
        | some (w, k) =>
          let old := s.rf F.IXG_LANE_MAP_MAP e q
          let m := if 66 ≤ w && w < 70 then
              -- a spare in use that fails is never used again; its wire moves to the new spare (R455)
              mapPut (mapPut old k (3 * 128 + mapField old (w - 66) % 128)) (w - 66) 0x7E
            else mapPut old k (3 * 128 + w)
          let s := (s.ww .IXG_LANE_MAP m e q).wf F.IXG_STAT_SPARES_LEFT (sparesLeft m) e q
          let y := s.ixp e q
          let s := if 66 ≤ w && w < 70 then s.setIxp e q { y with dead := y.dead ++ [w] } else s
          (s.incE F.IXG_SWAP_CNT_COUNT e q).raise .ixgalLaneSwapped e q (s.rw .IXG_LOC_LAST e q))

/-- SIDEBAND_SWAP (R453): the sender stops the direction and drives the spare with the test patterns; the direction holds
until READY. -/
def execSidebandSwap (d p wire spare crc : Nat) (s : State) : Out :=
  .next (match s.ixPeer d p with
    | none => s
    | some (e, q) =>
      if !sbGood 4 (wire + 128 * spare) crc then s.badSideband d p
      else (s.setIxp e q { s.ixp e q with swap := some (wire, spare) }).wf F.IXG_STAT_STATE 3 e q)

/-- SIDEBAND_RETRAIN (R451): a received RETRAIN retrains the bundle. -/
def execSidebandRetrain (d p crc : Nat) (s : State) : Out :=
  .next (if (s.ixPeer d p).isNone then s
    else if !sbGood 5 0 crc then s.badSideband d p
    else s.retrain d p)

/-- SIDEBAND_RETIRE (R457, R464): RETIRE received at surviving port `p` names bundle `k` of its pair and the SEQ of the last
flit the other side delivered: the transactions held for the retired bundle after it go onto this bundle. -/
def execSidebandRetire (d p seq : Nat) (delivered : Bool) (k crc : Nat) (s : State) : Out :=
  .next (match s.ixPeer d p with
    | none => s
    | some (e, _) =>
      if !sbGood 6 (seq + 256 * b2n delivered + 512 * k) crc then s.badSideband d p
      else
        match (s.pairPorts d e).find? fun r => bundleIndex d r == k with
        | none => s
        | some r =>
          let y := s.ixp d r
          let held := if delivered then (y.replay.dropWhile fun f => flitSeq f != seq).drop (if y.replay.any (fun f => flitSeq f == seq) then 1 else 0) else y.replay
          let held := if delivered && !(y.replay.any fun f => flitSeq f == seq) then y.replay else held
          let s := s.setIxp d r { y with replay := [], folded := [], redo := 0 }
          let s := s.setIxp d p { s.ixp d p with folded := (s.ixp d p).folded ++ y.folded ++ held }
          ((s.wf F.IXG_STAT_HELD 0 d r).wf F.IXG_STAT_STATE 4 d r).wf F.IXG_CTL_RETIRE 0 d r)

/-- TRAINING_RETRY (R467): once a second a bundle that failed its training from reset trains again. -/
def execTrainingRetry (d p : Nat) (s : State) : Out :=
  .next (if (s.ixPeer d p).isSome && s.rf F.IXG_STAT_STATE d p = 0 && s.rb F.IXG_CTL_EN d p then s.retrain d p else s)

/-- A write of IXG_CTL (R461, R463, R466, R472): fields stored with their clamps, EN left at 0 where retirement clears it in
the same cycle, RETIRE at once, RETRAIN as a retraining. -/
def State.writeIxgCtl (s : State) (d p w : Nat) (hwClear : Bool) : State :=
  let old := s.rw .IXG_CTL d p
  let s := s.plainWrite ⟨.IXG_CTL, d, p, 0⟩ w (if hwClear then [.clear 0 0] else [])
  let s := if s.rf F.IXG_CTL_REPLAY_LIMIT d p = 0 then s.wf F.IXG_CTL_REPLAY_LIMIT 1 d p else s
  let s := if s.rf F.IXG_CTL_LOC_THRESH d p = 0 then s.wf F.IXG_CTL_LOC_THRESH 1 d p else s
  let s := if bit old 0 && !bit w 0 && s.rf F.IXG_STAT_STATE d p = 2 then s.wf F.IXG_STAT_STATE 0 d p else s
  if bit w 17 then s.retire d p else if bit w 16 then s.retrain d p else s

/-- The address of a port's register block (R471). -/
def ixgBase (d p : Nat) : Nat := (if d = 0 then 0x0F090000 else 0x0F030400) + p * 0x20

/-- IXG_RETRAIN_WRITE (R463, R469). -/
def execIxgRetrainWrite (d p : Nat) (w : TWord) (hwClear : Bool) (s : State) : Out :=
  .next (if w.tag.toNat < 2 then s.writeIxgCtl d p w.data.toNat hwClear
    else s.regRefuse d (w.tag.toNat - 2) true (ixgBase d p))

/-- IXG_RETIRE_WRITE (R463). -/
def execIxgRetireWrite (d p : Nat) (w : TWord) (hwClear : Bool) (s : State) : Out :=
  .next (if w.tag.toNat < 2 then s.writeIxgCtl d p w.data.toNat hwClear
    else s.regRefuse d (w.tag.toNat - 2) true (ixgBase d p))

end Sys2Proof.Machine
end

