-- ==== Sys2Proof/Machine/Lanes.lean ====
section
/-!
DEFINITION. Serial lanes and Ethernet MACs (chapter 11).
-/
namespace Sys2Proof.Machine

/-! ## Lanes -/

/-- A lane at power-on (R650). -/
def Lane.init : Lane := ⟨none, [], 0, 0, 0, false, false, 0, 0, 0, 0, 0, 0, 0, none, [], false⟩

/-- A lane beside its registers. -/
def State.lane (s : State) (n : Nat) : Lane := mget s.lanes n Lane.init

/-- The state with a lane replaced. -/
def State.setLane (s : State) (n : Nat) (x : Lane) : State := { s with lanes := mset s.lanes n x Lane.init }

/-- The number of lanes of the part (R603). -/
def State.laneCount (s : State) : Nat := if s.is20 then 8 else 16

/-- A MAC at power-on (R650). -/
def Mac.init : Mac := ⟨[], [], [], []⟩

/-- A MAC beside its registers. -/
def State.mac (s : State) (m : Nat) : Mac := mget s.macs m Mac.init

/-- The state with a MAC replaced. -/
def State.setMac (s : State) (m : Nat) (x : Mac) : State := { s with macs := mset s.macs m x Mac.init }

/-- Whether a lane is owned by a Saette link (Table 11-10). -/
def State.saetteOwned (s : State) (n : Nat) : Bool := let o := s.rf F.LANE_STAT_OWNER 0 n; 1 ≤ o && o ≤ 4

/-- A MAC that owns the lane reports LINK_UP = 0 when the lane leaves P0 (R621). -/
def State.macLinkDown (s : State) (n : Nat) : State :=
  if s.rf F.LANE_STAT_OWNER 0 n = 5 then s.wf F.MAC_STAT_LINK_UP 0 0 (s.rf F.LANE_STAT_OWNER_INDEX 0 n) else s

/-- A power-state request of a lane takes effect (R620, R622): an entry to P1 or P2, or the start of an exit to P0. A
retired lane stays in P2 (R649); a request made during an exit waits for its end. -/
def State.pstate (s : State) (n req : Nat) : State :=
  let st := s.rf F.LANE_STAT_PSTATE 0 n
  let s := s.wf F.LANE_CTL_PSTATE_REQ req 0 n
  if s.rb F.LANE_STAT_RETIRED 0 n then s
  else if st = 3 || st = 4 then s.setLane n { s.lane n with want := some req }
  else if req = 0 then (if st = 0 then s else s.wf F.LANE_STAT_PSTATE (st + 2) 0 n)
  else
    let s := (s.wf F.LANE_STAT_PSTATE req 0 n).wf F.LANE_STAT_CDR_LOCK 0 0 n
    (if req = 2 then s.wf F.LANE_STAT_PLL_LOCK 0 0 n else s).macLinkDown n

/-- A software request of a power state: not stored on a lane owned by a Saette link; 0b11 is stored as 0b10 (R621, R653). -/
def State.pstateSoft (s : State) (n req : Nat) : State :=
  if s.saetteOwned n then s else s.pstate n (min 2 req)

/-- LANE_PSTATE_REQUEST (R619 to R622). -/
def execLanePstateRequest (n req : Nat) (s : State) : Out := .next (s.pstateSoft n req)

/-- Clause 72 training starts on a lane whose owner brings the link up, with TRAIN_EN = 1 at 10.3125 Gb/s (R612). -/
def State.trainStart (s : State) (n : Nat) : State :=
  if s.rb F.LANE_CTL_TRAIN_EN 0 n && s.rf F.LANE_CTL_RATE 0 n == 2 then
    (s.wf F.LANE_STAT_TRAIN_STATE 1 0 n).setLane n { s.lane n with rxReady := false, peerReady := false, stat0 := 0, statM := 0, statP := 0 }
  else s.wf F.LANE_STAT_TRAIN_STATE 0 0 n

/-- An owner brings its link up on a lane: the lane goes to P0, and trains there where it has to (R612, R621, Table 11-15). -/
def State.bringLane (s : State) (n : Nat) : State :=
  let s := s.pstate n 0
  if s.rf F.LANE_STAT_PSTATE 0 n = 0 then s.trainStart n
  else (s.wf F.LANE_STAT_TRAIN_STATE 0 0 n).setLane n { s.lane n with toTrain := true }

/-- LANE_P0_REACHED (R612, R618, R620, R622): the exit ends with PLL and CDR locked and the receiver adapted to `rx` (the
adaptive fields of LANE_RX); a request that waited takes effect. -/
def execLaneP0Reached (n rx : Nat) (s : State) : Out :=
  let st := s.rf F.LANE_STAT_PSTATE 0 n
  .next (if st ≠ 3 && st ≠ 4 then s
    else
      let s := ((s.wf F.LANE_STAT_PSTATE 0 0 n).wf F.LANE_STAT_PLL_LOCK 1 0 n).wf F.LANE_STAT_CDR_LOCK 1 0 n
      let s := if s.rb F.LANE_CTL_ADAPT_EN 0 n then s.ww .LANE_RX (rx / 2 ^ 44 % 16 * 2 ^ 44 + rx % 2 ^ 30) 0 n else s
      let s := if (s.lane n).toTrain then (s.setLane n { s.lane n with toTrain := false }).trainStart n else s
      match (s.lane n).want with
      | none => s
      | some r => (s.setLane n { s.lane n with want := none }).pstate n r)

/-- A claim on a lane by an owner (Table 11-10), at a rate (R604, R608, R621): refused on an owned lane. -/
def State.claimLane (s : State) (n owner index rate : Nat) : Bool × State :=
  if s.rf F.LANE_STAT_OWNER 0 n ≠ 0 then (false, s)
  else
    let s := ((s.wf F.LANE_STAT_OWNER owner 0 n).wf F.LANE_STAT_OWNER_INDEX index 0 n).wf F.LANE_CTL_RATE rate 0 n
    (true, s.bringLane n)

/-- A claim is released: the lane is unowned and goes to P2 (R605, R621). -/
def State.releaseLane (s : State) (n : Nat) : State :=
  let s := s.pstate n 2
  let s := s.setLane n { s.lane n with toTrain := false }
  ((s.wf F.LANE_STAT_OWNER 0 0 n).wf F.LANE_STAT_OWNER_INDEX 0 0 n).wf F.LANE_STAT_TRAIN_STATE 0 0 n

/-- Whether clause 72 training runs on a lane (R616). -/
def State.training (s : State) (n : Nat) : Bool := s.rf F.LANE_STAT_TRAIN_STATE 0 n == 1

/-- The taps PRE, MAIN and POST meet the limits (R611, R614). -/
def tapsOk (pre main post : Int) : Bool := 0 ≤ pre && 24 ≤ main && 0 ≤ post && pre + main + post ≤ 63

/-- A clause 72 request moves coefficient `k` (0 c(0), 1 c(-1), 2 c(+1)) of a lane in training by `up`: "updated", or with
the tap unchanged "maximum" or "minimum" (R613, R614). -/
def State.coefficient (s : State) (n k : Nat) (up : Bool) : State :=
  if !s.training n then s
  else
    let d : Int := if up then 1 else -1
    let pre : Int := s.rf F.LANE_TX_PRE 0 n - (if k = 1 then d else 0)
    let main : Int := s.rf F.LANE_TX_MAIN 0 n + (if k = 0 then d else 0)
    let post : Int := s.rf F.LANE_TX_POST 0 n - (if k = 2 then d else 0)
    let ok := tapsOk pre main post
    let st := if ok then 1 else if up then 3 else 2
    let x := s.lane n
    let s := s.setLane n (if k = 0 then { x with stat0 := st } else if k = 1 then { x with statM := st } else { x with statP := st })
    if ok then ((s.wf F.LANE_TX_PRE pre.toNat 0 n).wf F.LANE_TX_MAIN main.toNat 0 n).wf F.LANE_TX_POST post.toNat 0 n else s

/-- COEFFICIENT_INCREMENT (R613, R614). -/
def execCoefficientIncrement (n k : Nat) (s : State) : Out := .next (s.coefficient n k true)

/-- COEFFICIENT_DECREMENT (R613, R614). -/
def execCoefficientDecrement (n k : Nat) (s : State) : Out := .next (s.coefficient n k false)

/-- The taps of a lane set at once. -/
def State.setTaps (s : State) (n pre main post : Nat) : State :=
  ((s.wf F.LANE_TX_PRE pre 0 n).wf F.LANE_TX_MAIN main 0 n).wf F.LANE_TX_POST post 0 n

/-- PRESET (R613). -/
def execPreset (n : Nat) (s : State) : Out := .next (if s.training n then s.setTaps n 0 63 0 else s)

/-- INITIALISE (R613). -/
def execInitialise (n : Nat) (s : State) : Out :=
  .next (if s.training n then
      s.setTaps n (s.rf F.LANE_TX_INIT_PRE 0 n) (s.rf F.LANE_TX_INIT_MAIN 0 n) (s.rf F.LANE_TX_INIT_POST 0 n)
    else s)

/-- LANE_TRAINING_TIMEOUT (R648). -/
def execLaneTrainingTimeout (n : Nat) (s : State) : Out :=
  .next (if s.training n then (s.wf F.LANE_STAT_TRAIN_STATE 3 0 n).raise .laneTrainFailed 0 n else s)

/-- LANE_TRAINING_RESTART (R648): one second after the failure, while the lane has its owner. -/
def execLaneTrainingRestart (n : Nat) (s : State) : Out :=
  .next (if s.rf F.LANE_STAT_TRAIN_STATE 0 n = 3 && s.rf F.LANE_STAT_OWNER 0 n ≠ 0 then s.trainStart n else s)

/-- RECEIVER_READY (R615, R616): the local receiver, adapted to `rx`, or the peer declares ready; with both ready the
training completes and the taps keep their trained values. -/
def execReceiverReady (n : Nat) (peer : Bool) (rx : Nat) (s : State) : Out :=
  .next (if !s.training n then s
    else
      let x := s.lane n
      let x := if peer then { x with peerReady := true } else { x with rxReady := true }
      let s := if !peer && s.rb F.LANE_CTL_ADAPT_EN 0 n then s.ww .LANE_RX (rx / 2 ^ 44 % 16 * 2 ^ 44 + rx % 2 ^ 30) 0 n else s
      let s := s.setLane n x
      if x.rxReady && x.peerReady then s.wf F.LANE_STAT_TRAIN_STATE 2 0 n else s)

/-- LANE_LOS (R648, R654). -/
def execLaneLos (n : Nat) (s : State) : Out :=
  .next (if s.rf F.LANE_STAT_PSTATE 0 n = 0 && s.rb F.LANE_STAT_SIGNAL 0 n then
      (((s.wf F.LANE_STAT_SIGNAL 0 0 n).wf F.LANE_STAT_LOS_STICKY 1 0 n).incE F.LANE_LOS_CNT_COUNT 0 n).raise .laneLos 0 n
    else s)

/-- LANE_SIGNAL_PRESENT (R654). -/
def execLaneSignalPresent (n : Nat) (s : State) : Out := .next (s.wf F.LANE_STAT_SIGNAL 1 0 n)

/-- LANE_CDR_UNLOCK (R648): relocked at once. -/
def execLaneCdrUnlock (n : Nat) (s : State) : Out :=
  .next (if s.rb F.LANE_STAT_CDR_LOCK 0 n then (s.incE F.LANE_RELOCK_CNT_COUNT 0 n).raise .laneCdrUnlock 0 n else s)

/-- A MAC loses its lane: EN is cleared by hardware (R649). -/
def State.macLose (s : State) (m : Nat) : State :=
  (((s.wf F.MAC_CTL_EN 0 0 m).wf F.MAC_STAT_LINK_UP 0 0 m).wf F.MAC_STAT_BLOCK_LOCK 0 0 m).wf F.MAC_STAT_AN_DONE 0 0 m

/-- A lane is retired: it enters P2 and its owner loses it (R649). -/
def State.retireLane (s : State) (n : Nat) : State :=
  let owner := s.rf F.LANE_STAT_OWNER 0 n
  let m := s.rf F.LANE_STAT_OWNER_INDEX 0 n
  let s := s.setLane n { s.lane n with want := none, relocks := [], toTrain := false }
  let s := ((s.wf F.LANE_STAT_PSTATE 2 0 n).wf F.LANE_CTL_PSTATE_REQ 2 0 n).wf F.LANE_STAT_CDR_LOCK 0 0 n
  let s := ((s.wf F.LANE_STAT_PLL_LOCK 0 0 n).wf F.LANE_STAT_OWNER 0 0 n).wf F.LANE_STAT_OWNER_INDEX 0 0 n
  let s := (s.wf F.LANE_STAT_TRAIN_STATE 0 0 n).wf F.LANE_STAT_RETIRED 1 0 n
  if owner = 5 then s.macLose m else s

/-- The PLL of a lane loses lock: it relocks, or after three failed relocks within 1 s the lane is retired (R648). -/
def State.pllLoss (s : State) (n : Nat) (relocked : Bool) : State :=
  if s.rf F.LANE_STAT_PSTATE 0 n = 2 then s
  else
    let s := s.raise .lanePllUnlock 0 n
    if relocked then s.wf F.LANE_STAT_PLL_LOCK 1 0 n
    else
      let fails := ((s.lane n).relocks.filter fun t => s.now < t + 1000000000) ++ [s.now]
      let s := (s.wf F.LANE_STAT_PLL_LOCK 0 0 n).setLane n { s.lane n with relocks := fails }
      if 3 ≤ fails.length then s.retireLane n else s

/-- The field of DFE tap `k`. -/
def dfeFld (k : Nat) : Fld := ⟨.LANE_RX, 6 * k - 1, 6 * k - 6⟩

/-- LANE_ADAPT_LIMIT (R617, R618, R648): DFE tap `k` has been at +31 (`top`) or -32 for 1 ms. -/
def execLaneAdaptLimit (n k : Nat) (top : Bool) (s : State) : Out :=
  let v := if top then 31 else 32
  .next (if k = 0 || 5 < k || s.rf F.LANE_STAT_PSTATE 0 n ≠ 0 then s
    else
      let s := if s.rb F.LANE_CTL_ADAPT_EN 0 n then s.wf (dfeFld k) v 0 n else s
      if s.rf (dfeFld k) 0 n = v then s.raise .laneAdaptLimit 0 n else s)

/-! ## PRBS -/

/-- Bits compared by a locked checker, and how many of them differ (R625). -/
def State.prbsCount (s : State) (n nbits errs : Nat) : State :=
  let x := s.lane n
  let t := x.prbsRem + nbits
  let s := s.setLane n { x with prbsRem := t % 256 }
  let s := if errs = 0 then s else s.incE F.LANE_PRBS_ERR_CNT_COUNT 0 n 0 errs
  if t < 256 then s else s.incE F.LANE_PRBS_BIT_CNT_COUNT 0 n 0 (t / 256)

/-- The polynomial x^n + x^m + 1 of a pattern, and whether O.150 inverts it (Table 11-3). -/
def prbsPoly (pat : Nat) : Nat × Nat × Bool :=
  match pat with
  | 0 => (7, 6, false) | 1 => (15, 14, true) | 2 => (23, 18, true) | _ => (31, 28, true)

/-- The next bit of a pattern's sequence, before any inversion, from the bits before it (the latest in bit 0). -/
def prbsNext (pat st : Nat) : Bool := bit st ((prbsPoly pat).1 - 1) != bit st ((prbsPoly pat).2.1 - 1)

/-- The bits before the next one, with a bit added. -/
def prbsShift (pat st : Nat) (b : Bool) : Nat := (2 * st + b2n b) % 2 ^ (prbsPoly pat).1

/-- `n` bits of a generator, inverted as O.150 and GEN_INV say and by pending injections (R623, R626). -/
def Lane.generate (x : Lane) (pat : Nat) (inv : Bool) (n : Nat) : List Bool × Lane :=
  match n with
  | 0 => ([], x)
  | k + 1 =>
    let b := prbsNext pat x.gen
    let r := ({ x with gen := prbsShift pat x.gen b, inject := x.inject - 1 } : Lane).generate pat inv k
    ((b ^^ (prbsPoly pat).2.2 ^^ inv ^^ decide (0 < x.inject)) :: r.1, r.2)

/-- What a checker has found in received bits: its lane, whether it is locked, bits compared, errors, and whether a lock has ended. -/
structure PrbsRun where
  lane : Lane
  locked : Bool
  nbits : Nat
  errs : Nat
  lost : Bool
deriving DecidableEq, Repr

/-- One received bit at a checker (R625). Out of lock it seeds itself from the received bits and locks once 64 running match; in lock
it runs from its own state, and a block of 64 bits with more than 8 errors ends the lock. Blocks are counted from the lock (DESIGN
CHOICE, log 182). -/
def prbsStep (pat : Nat) (inv : Bool) (r : PrbsRun) (b : Bool) : PrbsRun :=
  let x := r.lane
  let raw := b ^^ (prbsPoly pat).2.2 ^^ inv
  let p := prbsNext pat x.chk
  if r.locked then
    let e := b2n (p != raw)
    let x := { x with chk := prbsShift pat x.chk p, run := x.run + 1, errs := x.errs + e }
    let ends := 64 ≤ x.run && 8 < x.errs
    let x := if ends then { x with chk := 0, run := 0, errs := 0 } else if 64 ≤ x.run then { x with run := 0, errs := 0 } else x
    ⟨x, !ends, r.nbits + 1, r.errs + e, r.lost || ends⟩
  else
    let run := if p == raw && x.chk != 0 then x.run + 1 else 0
    ⟨{ x with chk := prbsShift pat x.chk raw, run := if 64 ≤ run then 0 else run, errs := 0 }, decide (64 ≤ run), r.nbits, r.errs, r.lost⟩

/-- 1 for a bit 1 and -1 for a bit 0. -/
def plusMinus (b : Bool) : Int := if b then 1 else -1

/-- The levels that the taps PRE, MAIN and POST give the bits of a sequence that have both neighbours in it, in 63rds of full swing (R610). -/
def tapLevels (pre main post : Int) (bs : List Bool) : List Int :=
  match bs with
  | a :: b :: c :: t => (main * plusMinus b - pre * plusMinus c - post * plusMinus a) :: tapLevels pre main post (b :: c :: t)
  | _ => []

/-- As many bits as `bs` pass at a lane with `bs` arriving at its ball: the generator's output, if it runs, goes to the line and, in
near-end loopback, to the lane's own receiver in place of `bs`, while the line is idle; in far-end loopback the line sends what is
received (R623 to R627). -/
def State.lanePass (s : State) (n : Nat) (bs : List Bool) : State :=
  let loop := s.rf F.LANE_CTL_LOOP 0 n
  let g := if s.rb F.LANE_PRBS_CTL_GEN_EN 0 n then
      let r := (s.lane n).generate (s.rf F.LANE_PRBS_CTL_GEN_PAT 0 n) (s.rb F.LANE_PRBS_CTL_GEN_INV 0 n) bs.length
      (some r.1, r.2)
    else (none, s.lane n)
  let heard := if loop = 1 then g.1.getD [] else bs
  let line := if loop = 1 then none else if loop = 2 then some bs else g.1
  let level := tapLevels (s.rf F.LANE_TX_PRE 0 n) (s.rf F.LANE_TX_MAIN 0 n) (s.rf F.LANE_TX_POST 0 n) (line.getD [])
  let x := { g.2 with line := line, level := level }
  if s.rb F.LANE_PRBS_CTL_CHK_EN 0 n then
    let r := heard.foldl (prbsStep (s.rf F.LANE_PRBS_CTL_CHK_PAT 0 n) (s.rb F.LANE_PRBS_CTL_CHK_INV 0 n))
      ⟨x, s.rb F.LANE_PRBS_CTL_LOCK 0 n, 0, 0, false⟩
    let s := ((s.setLane n r.lane).prbsCount n r.nbits r.errs).wf F.LANE_PRBS_CTL_LOCK (b2n r.locked) 0 n
    if r.lost then s.wf F.LANE_PRBS_CTL_LOCK_LOST 1 0 n else s
  else s.setLane n x

/-- PRBS_CHECKER_LOCK (R625): bits pass at a lane whose checker is not locked, `seed` first and `bs` after them. -/
def execPrbsCheckerLock (n : Nat) (seed bs : List Bool) (s : State) : Out :=
  .next (if s.rb F.LANE_PRBS_CTL_LOCK 0 n then s else s.lanePass n (seed ++ bs))

/-- PRBS_LOCK_LOST (R625): bits pass at a lane whose checker is locked, `before` first and `bs` after them. -/
def execPrbsLockLost (n : Nat) (before bs : List Bool) (s : State) : Out :=
  .next (if s.rb F.LANE_PRBS_CTL_LOCK 0 n then s.lanePass n (before ++ bs) else s)

/-- Requested injections are applied, the burst first and then the single bit, to the running generator's output, or with
INJ_LIVE to an owned lane's line data; hardware then clears the fields (R626, R644). -/
def State.laneInject (s : State) (n : Nat) : State :=
  let live := if s.rb F.LANE_PRBS_CTL_INJ_LIVE 0 n then s.rf F.LANE_STAT_OWNER 0 n ≠ 0 else s.rb F.LANE_PRBS_CTL_GEN_EN 0 n
  if live then
    let b := if s.rb F.LANE_PRBS_CTL_INJ_BURST 0 n then s.rf F.LANE_PRBS_CTL_BURST_LEN 0 n + 1 else 0
    let k := b + s.rf F.LANE_PRBS_CTL_INJ_SINGLE 0 n
    let s := s.setLane n { s.lane n with injected := (s.lane n).injected + k, inject := (s.lane n).inject + k }
    (s.wf F.LANE_PRBS_CTL_INJ_BURST 0 0 n).wf F.LANE_PRBS_CTL_INJ_SINGLE 0 0 n
  else s

/-- A write of LANE_PRBS_CTL: not stored where it enables the generator or the checker of an owned lane (R624); a checker
switched off loses its lock, and a generator switched on starts at a free place of its pattern, which the spec does not give (log 182).
`acts` are hardware actions of the same cycle (R91). -/
def State.writePrbs (s : State) (n w : Nat) (acts : List HwAct) : State :=
  if (bit w 7 || bit w 4) && s.rf F.LANE_STAT_OWNER 0 n ≠ 0 then s
  else
    let was := s.rf F.LANE_PRBS_CTL_GEN_PAT 0 n + 4 * s.rf F.LANE_PRBS_CTL_GEN_EN 0 n
    let s := s.plainWrite ⟨.LANE_PRBS_CTL, 0, n, 0⟩ w acts
    let s := if bit w 4 then s else (s.wf F.LANE_PRBS_CTL_LOCK 0 0 n).setLane n { s.lane n with chk := 0, run := 0, errs := 0 }
    let pat := s.rf F.LANE_PRBS_CTL_GEN_PAT 0 n
    let s := if s.rb F.LANE_PRBS_CTL_GEN_EN 0 n && was != pat + 4 then
        let r := s.free
        r.2.setLane n { r.2.lane n with gen := 1 + r.1 % (2 ^ (prbsPoly pat).1 - 1), inject := 0 }
      else s
    s.laneInject n

/-- A tagged write of LANE_PRBS_CTL (R75). -/
def prbsOut (n : Nat) (w : TWord) (s : State) : State :=
  if w.tag.toNat < 2 then s.writePrbs n w.data.toNat []
  else s.regRefuse 0 (w.tag.toNat - 2) true (0x0F030004 + n * 0x20)

/-- INJ_SINGLE (R626, R644). -/
def execInjSingle (n : Nat) (w : TWord) (s : State) : Out := .next (prbsOut n w s)

/-- INJ_BURST (R626, R644). -/
def execInjBurst (n : Nat) (w : TWord) (s : State) : Out := .next (prbsOut n w s)

/-! ## Lane register writes -/

/-- A write of LANE_CTL (R608, R621, R624, R627, R653): not stored where it enables a loopback on an owned lane; RATE and
REF_SEL only on a lane with no owner; REVIVE acts on a retired lane. -/
def State.writeLaneCtl (s : State) (n w : Nat) : State :=
  let owned := s.rf F.LANE_STAT_OWNER 0 n ≠ 0
  let loop := if bits w 10 9 = 3 then 0 else bits w 10 9
  if loop ≠ 0 && owned then s
  else
    let s := ((s.wf F.LANE_CTL_LOOP loop 0 n).wf F.LANE_CTL_ADAPT_EN (bits w 8 8) 0 n).wf F.LANE_CTL_TRAIN_EN (bits w 7 7) 0 n
    let s := if owned then s
      else (s.wf F.LANE_CTL_REF_SEL (bits w 3 3) 0 n).wf F.LANE_CTL_RATE (if bits w 2 0 ≤ 3 then bits w 2 0 else 0) 0 n
    let s := if bit w 11 && s.rb F.LANE_STAT_RETIRED 0 n then s.wf F.LANE_CTL_REVIVE 1 0 n else s
    if s.saetteOwned n || min 2 (bits w 5 4) = s.rf F.LANE_CTL_PSTATE_REQ 0 n then s else s.pstateSoft n (bits w 5 4)

/-- A revival ends: with its PLL locked the lane is no longer retired and has no owner (R649). -/
def State.reviveEnd (s : State) (n : Nat) (locked : Bool) : State :=
  if s.rb F.LANE_CTL_REVIVE 0 n then
    let s := s.wf F.LANE_CTL_REVIVE 0 0 n
    if locked then (s.wf F.LANE_STAT_RETIRED 0 0 n).wf F.LANE_STAT_OWNER 0 0 n else s
  else s

/-- REVIVE (R649): a write of LANE_CTL, and the end of the retry that its REVIVE bit starts. -/
def execRevive (n : Nat) (w : TWord) (locked : Bool) (s : State) : Out :=
  .next (if w.tag.toNat < 2 then (s.writeLaneCtl n w.data.toNat).reviveEnd n locked
    else s.regRefuse 0 (w.tag.toNat - 2) true (0x0F030000 + n * 0x20))

/-- A write of LANE_TX (R611, R616, R643): whole or not at all by its conditions; while training runs the taps keep their
trained values and the INIT fields are stored. -/
def State.writeLaneTx (s : State) (n w : Nat) : State :=
  let ok := fun (pre main post : Nat) => decide (24 ≤ main) && decide (pre + main + post ≤ 63)
  if !ok (bits w 5 0) (bits w 11 6) (bits w 17 12) || !ok (bits w 35 30) (bits w 41 36) (bits w 47 42) then s
  else
    let s := ((s.wf F.LANE_TX_INIT_PRE (bits w 35 30) 0 n).wf F.LANE_TX_INIT_MAIN (bits w 41 36) 0 n).wf F.LANE_TX_INIT_POST (bits w 47 42) 0 n
    if s.training n then s else s.setTaps n (bits w 5 0) (bits w 11 6) (bits w 17 12)

/-! ## MACs -/

/-- The lane that a MAC owns. -/
def State.macLane (s : State) (m : Nat) : Option Nat :=
  (List.range 16).find? fun n => s.rf F.LANE_STAT_OWNER 0 n == 5 && s.rf F.LANE_STAT_OWNER_INDEX 0 n == m

/-- A write of MAC_CTL (R608, R621, R628, R629, R647, R658, R660): a LANE the MAC cannot own is not stored; a write of MODE
loads the fused latencies; EN claims or releases the lane. `hwClear` is a retirement that clears EN in the same cycle. -/
def State.writeMacCtl (s : State) (m w : Nat) (hwClear : Bool) : State :=
  let mode := min 2 (bits w 11 10)
  let ln := bits w 15 12
  let s := (s.wf F.MAC_CTL_MAX_FRAME (max 64 (min 9600 (bits w 33 20))) 0 m).wf F.MAC_CTL_ONE_STEP (bits w 19 19) 0 m
  let s := (s.wf F.MAC_CTL_PAUSE_EN (bits w 18 18) 0 m).wf F.MAC_CTL_AN_EN (bits w 17 17) 0 m
  let s := if ln % 4 = m && ln < s.laneCount then s.wf F.MAC_CTL_LANE ln 0 m else s
  let s := (s.wf F.MAC_CTL_MODE mode 0 m).ww .MAC_LAT (mget s.macLatFuse (m * 4 + mode) 0 % 2 ^ 32) 0 m
  if bit w 0 && !hwClear then
    if s.rb F.MAC_CTL_EN 0 m then s
    else
      let n := s.rf F.MAC_CTL_LANE 0 m
      let r := s.claimLane n 5 m (if mode = 2 then 2 else 0)
      if r.1 then r.2.wf F.MAC_CTL_EN 1 0 m else r.2.raise .laneClaimRefused 0 n
  else
    let s := s.macLose m
    match s.macLane m with
    | some n => s.releaseLane n
    | none => s

/-- A tagged write of MAC_CTL (R75). -/
def macCtlOut (m : Nat) (w : TWord) (hwClear : Bool) (s : State) : State :=
  if w.tag.toNat < 2 then s.writeMacCtl m w.data.toNat hwClear
  else s.regRefuse 0 (w.tag.toNat - 2) true (0x0F030800 + m * 0x40)

/-- MAC_MODE_WRITE (R629, R660). -/
def execMacModeWrite (m : Nat) (w : TWord) (hwClear : Bool) (s : State) : Out := .next (macCtlOut m w hwClear s)

/-- Whether a MAC's lane is in P0 (R621). -/
def State.macP0 (s : State) (m : Nat) : Bool :=
  match s.macLane m with | some n => s.rf F.LANE_STAT_PSTATE 0 n == 0 | none => false

/-- MAC_BLOCK_LOCK (R629, R659): the coding layer gains or loses lock, or auto-negotiation completes with the SGMII speed
`speed`. Block lock is clause 49's; the link is up with lock, and with auto-negotiation done where it is enabled. -/
def execMacBlockLock (m : Nat) (lock an : Bool) (speed : Nat) (s : State) : Out :=
  let mode := s.rf F.MAC_CTL_MODE 0 m
  .next (if !s.rb F.MAC_CTL_EN 0 m then s
    else
      let need := mode ≠ 2 && s.rb F.MAC_CTL_AN_EN 0 m
      let s := (s.wf F.MAC_STAT_BLOCK_LOCK (b2n (lock && mode == 2)) 0 m).wf F.MAC_STAT_AN_DONE (b2n (an && mode != 2)) 0 m
      let s := s.wf F.MAC_STAT_LINK_UP (b2n (lock && (an || !need) && s.macP0 m)) 0 m
      s.wf F.MAC_STAT_SPEED (if mode = 2 then 3 else if mode = 0 then 2 else min 2 speed) 0 m)

/-- The timestamp registers show the head of the FIFO (R659, R661). -/
def State.tsView (s : State) (m : Nat) : State :=
  let q := (s.mac m).ts
  let s := s.wf F.MAC_STAT_TS_LEVEL q.length 0 m
  match q with
  | [] => (s.ww .MAC_TS_ID 0 0 m).ww .MAC_TS_TIME 0 0 m
  | e :: _ => (s.ww .MAC_TS_ID (2 ^ 47 + e.epoch % 256 * 2 ^ 39 + e.msgType % 16 * 2 ^ 32 + e.seqId % 65536 * 2 ^ 16) 0 m).ww
      .MAC_TS_TIME e.time 0 m

/-- A timestamp enters the FIFO of 16, or is discarded (R639). -/
def State.tsPush (s : State) (m : Nat) (e : TsEntry) : State :=
  let x := s.mac m
  if x.ts.length < 16 then (s.setMac m { x with ts := x.ts ++ [e] }).tsView m
  else (s.wf F.MAC_STAT_TS_DROP 1 0 m).raise .ptpTsOverflow 0 m

/-- The head of the timestamp FIFO is read and removed (R639, R645, R661). -/
def State.tsRead (s : State) (m : Nat) : Word × State :=
  let x := s.mac m
  (s.reg ⟨.MAC_TS_TIME, 0, m, 0⟩, (s.setMac m { x with ts := x.ts.drop 1 }).tsView m)

/-- A byte of a frame. -/
def byteAt (f : List Nat) (k : Nat) : Nat := f.getD k 0 % 256

/-- Two bytes of a frame, the first the higher. -/
def be16 (f : List Nat) (k : Nat) : Nat := byteAt f k * 256 + byteAt f (k + 1)

/-- Where the PTP header of a version 2 message starts, and whether it goes over IPv4 or IPv6 (Table 11-5): 0 Ethernet,
1 IPv4, 2 IPv6. -/
def ptpAt (f : List Nat) : Option (Nat × Nat) :=
  let ok := fun (o k : Nat) => if byteAt f (o + 1) % 16 = 2 then some (o, k) else none
  let et := be16 f 12
  if et = 0x88F7 then ok 14 0
  else if et = 0x0800 && byteAt f 23 == 17 && be16 f (14 + byteAt f 14 % 16 * 4 + 2) == 319 then
    ok (14 + byteAt f 14 % 16 * 4 + 8) 1
  else if et = 0x86DD && byteAt f 20 == 17 && be16 f 56 == 319 then ok 62 2
  else none

/-- Bytes of a list replaced by the big-endian bytes of `v`, `n` of them from `k`. -/
def putBe (f : List Nat) (k n v : Nat) : List Nat :=
  (List.range n).foldl (fun f i => f.set (k + i) (v / 2 ^ (8 * (n - 1 - i)) % 256)) f

/-- A one-step Sync: correctionField gains (egress - PRELOAD) * 2^16, and over UDP and IPv4 the checksum becomes 0 (R638). -/
def oneStep (f : List Nat) (preload t : Nat) : List Nat :=
  match ptpAt f with
  | some (o, k) =>
    if byteAt f o % 16 = 0 && k < 2 then
      let c := beNat ((f.drop (o + 8)).take 8)
      let d := (t + 2 ^ 48 - preload) % 2 ^ 48
      let f := putBe f (o + 8) 8 ((c + d * 65536) % 2 ^ 64)
      if k = 1 then putBe f (o - 2) 2 0 else f
    else f
  | none => f

/-- How many bytes a transmit frame of header word `h` and data words `n` must have, if it is well formed (R634). -/
def txHeaderOk (h n maxFrame : Nat) : Bool :=
  let len := bits h 13 0
  decide (14 ≤ len) && decide (len + 4 ≤ maxFrame) && decide (h / 2 ^ 18 = 0) && !bit h 14 && !bit h 15 && decide (n = (len + 5) / 6)

/-- The words that a received frame leaves in the receive buffer (R632, R635). -/
def State.rxWords (s : State) (bs : List Nat) (t : Nat) : List TWord :=
  packBytes bs ++ [dataWord t, ⟨BitVec.ofNat 48 (bs.length + s.rw .TB_EPOCH 0 % 256 * 65536), tagEnd⟩]

/-- A received frame (without its FCS) with a good or bad FCS and ingress timestamp `t` (R630, R631, R635). -/
def State.macReceive (s : State) (m : Nat) (bs : List Nat) (fcs : Bool) (t : Nat) : State :=
  let x := s.mac m
  let n := bs.length + 4
  if !fcs || n < 64 || s.rf F.MAC_CTL_MAX_FRAME 0 m < n then s.incE F.MAC_FCS_ERR_CNT_COUNT 0 m
  else
    let ws := s.rxWords bs t
    if x.rxBuf.length + ws.length ≤ 8192 then
      (s.setMac m { x with rxBuf := x.rxBuf ++ ws }).incE F.MAC_RX_FRAME_CNT_COUNT 0 m
    else (s.incE F.MAC_RX_DROP_CNT_COUNT 0 m).raise .macRxOverflow 0 m

/-- LOOP of a MAC's lane (R627). -/
def State.macLoop (s : State) (m : Nat) : Nat := match s.macLane m with | some n => s.rf F.LANE_CTL_LOOP 0 n | none => 0

/-- A frame is sent: corrected, padded to 60 bytes, timestamped where asked, on the line or in near-end loopback to the MAC's own
receiver (R627, R634, R636 to R639, R646). The message type and
sequence number of a frame that is no PTP message are not stated: free values. -/
def State.macSend (s : State) (m h : Nat) (preload : Nat) (ws : List TWord) (t : Nat) : State :=
  let f := bytesOf ws (bits h 13 0)
  let f := if bit h 17 && s.rb F.MAC_CTL_ONE_STEP 0 m then oneStep f preload t else f
  let f := f ++ List.replicate (60 - f.length) 0
  let s := (if s.macLoop m = 0 then s.setMac m { s.mac m with sent := f } else s).incE F.MAC_TX_FRAME_CNT_COUNT 0 m
  let s := if s.macLoop m = 1 then s.macReceive m f true t else s
  if bit h 16 then
    let ep := s.rw .TB_EPOCH 0
    match ptpAt f with
    | some (o, _) => s.tsPush m ⟨t, byteAt f o % 16, be16 f (o + 30), ep⟩
    | none =>
      let a := s.free
      let b := a.2.free
      b.2.tsPush m ⟨t, a.1 % 16, b.1 % 65536, ep⟩
  else s

/-- MAC_TX_FRAME (R634, R636 to R639, R646): the oldest frame whose words are all in the transmit buffer is sent, its
start-of-frame delimiter crossing the ball at package time `t` as corrected by MAC_LAT, or it is discarded if malformed.
A frame waits while the link is down or paused (R621, R630). -/
def execMacTxFrame (m t : Nat) (s : State) : Out :=
  let x := s.mac m
  let e := x.txBuf.findIdx fun w => w.tag == tagEnd
  .next (if !s.rb F.MAC_CTL_EN 0 m || x.txBuf.length ≤ e then s
    else
      let h := (x.txBuf.getD 0 noWord).data.toNat
      let hd := if bit h 17 then 2 else 1
      let rest : State := s.setMac m { x with txBuf := x.txBuf.drop (e + 1) }
      if hd ≤ e && txHeaderOk h (e + 1 - hd) (s.rf F.MAC_CTL_MAX_FRAME 0 m) then
        if s.rb F.MAC_STAT_LINK_UP 0 m && !s.rb F.MAC_STAT_PAUSED 0 m then
          rest.macSend m h (x.txBuf.getD 1 noWord).data.toNat ((x.txBuf.take (e + 1)).drop hd) t
        else s
      else rest.incE F.MAC_TX_DROP_CNT_COUNT 0 m)

/-- A frame arrives at the ball of a MAC's lane: in near-end loopback it is not heard, in far-end loopback it is also sent out again
(R627). -/
def State.macHear (s : State) (m : Nat) (bs : List Nat) (fcs : Bool) (t : Nat) : State :=
  if s.macLoop m = 1 then s
  else
    let s := s.macReceive m bs fcs t
    if s.macLoop m = 2 then s.setMac m { s.mac m with sent := bs } else s

/-- MAC_RX_FRAME (R627, R630 to R632, R635 to R637). -/
def execMacRxFrame (m : Nat) (bs : List Nat) (fcs : Bool) (t : Nat) (s : State) : Out :=
  .next (if s.rb F.MAC_CTL_EN 0 m && s.rb F.MAC_STAT_LINK_UP 0 m then s.macHear m bs fcs t else s)

/-- PAUSE_FRAME (R630, R635): a good PAUSE frame stops transmission for the time it asks for, none for 0; like every good
frame it is passed on. -/
def execPauseFrame (m : Nat) (bs : List Nat) (t : Nat) (s : State) : Out :=
  .next (if s.rb F.MAC_CTL_EN 0 m && s.rb F.MAC_STAT_LINK_UP 0 m then
      let s := s.macHear m bs true t
      if s.rb F.MAC_CTL_PAUSE_EN 0 m && s.macLoop m != 1 then s.wf F.MAC_STAT_PAUSED (b2n (be16 bs 16 != 0)) 0 m else s
    else s)

/-- PAUSE_EXPIRY (R630). -/
def execPauseExpiry (m : Nat) (s : State) : Out := .next (s.wf F.MAC_STAT_PAUSED 0 0 m)

/-! ## Windows -/

/-- The words of a write to the transmit window: words tagged 0b10 or 0b11 are refused, the others are appended, or the
write is dropped where they do not fit (R633). -/
def State.macTxWords (s : State) (m addr : Nat) (ws : List TWord) : State :=
  let s := (List.range ws.length).foldl (fun s k =>
    let w := ws.getD k noWord
    if w.tag.toNat < 2 then s else s.regRefuse 0 (w.tag.toNat - 2) true (addr + k)) s
  let good := ws.filter fun w => w.tag.toNat < 2
  let x := s.mac m
  if good = [] then s
  else if x.txBuf.length + good.length ≤ 4096 then s.setMac m { x with txBuf := x.txBuf ++ good }
  else s.incE F.MAC_TX_DROP_CNT_COUNT 0 m

/-- Words taken from the receive window (R633). -/
def State.macRxTake (s : State) (m n : Nat) : List TWord × State :=
  let x := s.mac m
  (x.rxBuf.take n ++ noWords (n - x.rxBuf.length), s.setMac m { x with rxBuf := x.rxBuf.drop n })

/-- A write of a transmit window at its endpoint: a stream write waits for room and returns its credits (R492, R633). -/
def State.macTxWindow (s : State) (t : Txn) : State :=
  let m := (addrLocal t.addr - 0x0F038000) / 0x40
  if t.vc = .streams && 4096 < (s.mac m).txBuf.length + t.words.length then s
  else
    match s.arrive t with
    | none => s
    | some s => ((s.macTxWords m (addrLocal t.addr) t.words).refusedWords 0 t).creditBack t t.words.length

/-- MAC_TX_WINDOW_WRITE (R633): a write of words to the transmit window. -/
def execMacTxWindowWrite (t : Txn) (s : State) : Out :=
  let a := addrLocal t.addr
  .next (if s.atDie 0 t && 0x0F038000 ≤ a && a + t.words.length ≤ 0x0F038100 && t.op == .write then s.macTxWindow t else s)

/-- A read of a receive window at its endpoint (R633). -/
def State.macRxWindow (s : State) (t : Txn) : State :=
  match s.arrive t with
  | none => s
  | some s =>
    let r := s.macRxTake ((addrLocal t.addr - 0x0F039000) / 0x40) t.len
    r.2.respond t 0 r.1

/-- MAC_RX_WINDOW_READ (R633). -/
def execMacRxWindowRead (t : Txn) (s : State) : Out :=
  let a := addrLocal t.addr
  .next (if s.atDie 0 t && 0x0F039000 ≤ a && a + t.len ≤ 0x0F039100 && t.op == .read then s.macRxWindow t else s)

/-- MAC_TS_TIME_READ (R639, R645, R661): a READ of MAC_TS_TIME. -/
def execMacTsTimeRead (m : Nat) (t : Txn) (s : State) : Out :=
  .next (if !s.atDie 0 t || addrLocal t.addr ≠ 0x0F030804 + m * 0x40 || t.op ≠ .read || t.len ≠ 1 || 4 ≤ m then s
    else match s.arrive t with
      | none => s
      | some s =>
        let r := s.tsRead m
        r.2.respond t 0 [⟨r.1, tagData⟩])

/-- The lane and MAC block under a reset that covers it (R651). -/
def State.resetLanes (s : State) : State := { s with lanes := [], macs := [] }

end Sys2Proof.Machine
end

