-- ==== Sys2Proof/Machine/Cells.lean ====
section
/-!
DEFINITION. Saette cells, links and their lanes, and the words in the stream buffer memory (chapter 12).
-/
namespace Sys2Proof.Machine

/-! ## Units -/

/-- A link at power-on (R714). -/
def Sl.init : Sl := ⟨0, 0, 0, [], 0, 0, 0, false, 0, false, [], 0, [], 0⟩
/-- A channel at power-on (R714). -/
def Sc.init : Sc := ⟨0, 0, false, [], 0, none, [], 0, [], 0, 0, [], 0, 0, 0⟩
/-- A forwarding stage at power-on (R984). -/
def Fwd.init : Fwd := ⟨[], 0, 0, 0, 0⟩

/-- A Saette link. -/
def State.sl (s : State) (l : Nat) : Sl := mget s.links l Sl.init
/-- The state with a link replaced. -/
def State.setSl (s : State) (l : Nat) (x : Sl) : State := { s with links := mset s.links l x Sl.init }
/-- A logical channel. -/
def State.sc (s : State) (c : Nat) : Sc := mget s.scs c Sc.init
/-- The state with a channel replaced. -/
def State.setSc (s : State) (c : Nat) (x : Sc) : State := { s with scs := mset s.scs c x Sc.init }
/-- A forwarding stage. -/
def State.fwd (s : State) (c : Nat) : Fwd := mget s.fwds c Fwd.init
/-- The state with a forwarding stage replaced. -/
def State.setFwd (s : State) (c : Nat) (x : Fwd) : State := { s with fwds := mset s.fwds c x Fwd.init }

/-! ## Cells -/

/-- The kinds of cell (Table 12-3). -/
inductive CellKind where
  | data | gcmEnd | channelCtl | system | linkCtl | reserved
deriving DecidableEq, Repr

/-- KIND of a cell (Table 12-2, Table 12-3). -/
def cellKind (c : Nat) : CellKind :=
  match bits c 227 225 with
  | 0 => .data | 1 => .gcmEnd | 2 => .channelCtl | 3 => .system | 4 => .linkCtl | _ => .reserved

/-- SEQ of a cell. -/
def cellSeq (c : Nat) : Nat := bits c 239 228
/-- CHANNEL of a cell. -/
def cellChannel (c : Nat) : Nat := bits c 224 219
/-- COUNT of a cell. -/
def cellCount (c : Nat) : Nat := bits c 218 216
/-- FIRST of a cell. -/
def cellFirst (c : Nat) : Bool := bit c 215
/-- BODY of a cell. -/
def cellBody (c : Nat) : Nat := c % 2 ^ 200
/-- Whether a cell's CRC is good (R668, R427). -/
def cellGood (c : Nat) : Bool := crc16 (c % 2 ^ 240) 240 == bits c 255 240
/-- MSG of a CHANNEL_CTL cell (Table 12-4). -/
def cellMsg (c : Nat) : Nat := bits c 199 196
/-- TYPE of a LINK_CTL cell (Table 12-3). -/
def cellType (c : Nat) : Nat := bits c 186 184

/-- A cell from its fields, with its CRC (R668). -/
def mkCell (seq kind ch count : Nat) (first : Bool) (body : Nat) : Nat :=
  let x := seq % 4096 * 2 ^ 228 + kind % 8 * 2 ^ 225 + ch % 64 * 2 ^ 219 + count % 8 * 2 ^ 216 + b2n first * 2 ^ 215 + body % 2 ^ 200
  crc16 x 240 * 2 ^ 240 + x

/-- A tagged word as 50 bits (Table 12-2). -/
def word50 (w : TWord) : Nat := w.data.toNat + w.tag.toNat * 2 ^ 48
/-- A tagged word from 50 bits. -/
def ofWord50 (x : Nat) : TWord := ⟨BitVec.ofNat 48 x, BitVec.ofNat 2 (x / 2 ^ 48)⟩
/-- The `n` words of a body. -/
def bodyWords (n body : Nat) : List TWord := (List.range n).map fun k => ofWord50 (body / 2 ^ (50 * k))
/-- A body from its words. -/
def wordsBody (ws : List TWord) : Nat :=
  match ws with
  | [] => 0
  | w :: t => word50 w + 2 ^ 50 * wordsBody t

/-! ## Links -/

/-- The part code's role links that the role brings up (Table 1-1). -/
def State.roleWants (s : State) (l : Nat) : Bool :=
  match s.rf F.DEV_ROLE_ROLE 0 with
  | 1 => l == 0
  | 2 => l == 0 || l == 1 && s.rb F.DEV_ROLE_CTL_HEAD_LINK_B_EN 0
  | 3 => l == 2 || l == 0 && s.rb F.DEV_ROLE_CTL_HEAD_LINK_EN 0
  | _ => false

/-- Whether a link is coming up, up or retraining (Table 12-11). -/
def State.slBusy (s : State) (l : Nat) : Bool :=
  let st := s.rf F.SL_STAT_STATE 0 l
  st == 1 || st == 2 || st == 3

/-- Whether a link is open: up, or up and retraining, which ends nothing (R711, log 21). -/
def State.slOpen (s : State) (l : Nat) : Bool :=
  let st := s.rf F.SL_STAT_STATE 0 l
  st == 2 || st == 3

/-- The WIDTH code with which a link would open now: a head-cable link takes HEAD_WIDTH, or while the other head-cable link is
open the width of that one, so that both run at the same width (R23 before R37: DESIGN CHOICE, log 161). -/
def State.setWidth (s : State) (l : Nat) : Nat :=
  if l ≤ 1 then (if s.slBusy (1 - l) then (s.sl (1 - l)).width else s.rf F.DEV_ROLE_CTL_HEAD_WIDTH 0)
  else if l = 2 then 1 else s.rf F.SL_CTL_WIDTH 0 l

/-- The WIDTH code of a link (Table 12-1, Table 12-10): while it is open the one with which it was opened (R37). -/
def State.linkWidth (s : State) (l : Nat) : Nat := if s.slBusy l then (s.sl l).width else s.setWidth l

/-- The first lane of a link (Table 1-2, Table 12-1). -/
def State.linkBase (s : State) (l : Nat) : Nat :=
  match l with
  | 0 => 0
  | 1 => if s.linkWidth 1 = 3 then 8 else 4
  | 2 => if s.is20 then 6 else 14
  | _ => s.rf F.SL_CTL_LANE_BASE 0 l

/-- The lanes of a link. -/
def State.linkLanes (s : State) (l : Nat) : List Nat := (List.range (2 ^ s.linkWidth l)).map fun i => s.linkBase l + i

/-- OWNER and OWNER_INDEX of a lane that a link owns (Table 11-10). -/
def linkOwner (l : Nat) : Nat × Nat := if l ≤ 2 then (l + 1, 0) else (4, l)

/-- The lane RATE code of a link RATE code (Table 11-1, Table 12-10). -/
def State.linkRate (s : State) (l : Nat) : Nat := min 2 (s.rf F.SL_CTL_RATE 0 l) + 1

/-- Whether the configuration image is loaded (log 162: a state of its own, since a device reset that keeps the image resets
CFG_BOOT_STAT.LOADED). -/
def State.imageLoaded (s : State) : Bool := s.cfg.loaded

/-- DEV_ROLE_CTL.ACTIVE: of a duplex member the active device; in other roles whether the image is loaded (Table 1-7). In a
reset it is 0 (Table 19-3). -/
def State.active (s : State) : Bool :=
  if s.rf F.DEV_ROLE_ROLE 0 = 3 then s.rb F.DEV_ROLE_CTL_ACTIVE 0 else s.imageLoaded && !s.rst.inReset && !s.rst.por

/-- Whether a link is up. -/
def State.linkUp (s : State) (l : Nat) : Bool := s.rf F.SL_STAT_STATE 0 l == 2

/-- Whether a link owns all its lanes. -/
def State.lanesOwned (s : State) (l : Nat) : Bool :=
  (s.linkLanes l).all fun n => s.rf F.LANE_STAT_OWNER 0 n == (linkOwner l).1 && s.rf F.LANE_STAT_OWNER_INDEX 0 n == (linkOwner l).2

/-- The lanes of a link released (R605). -/
def State.releaseLanes (s : State) (l : Nat) : State :=
  (List.range 16).foldl (fun s n =>
    if s.rf F.LANE_STAT_OWNER 0 n = (linkOwner l).1 && s.rf F.LANE_STAT_OWNER_INDEX 0 n = (linkOwner l).2 then s.releaseLane n else s) s

/-- Whether a link owns a lane. -/
def State.ownsLane (s : State) (l n : Nat) : Bool :=
  s.rf F.LANE_STAT_OWNER 0 n == (linkOwner l).1 && s.rf F.LANE_STAT_OWNER_INDEX 0 n == (linkOwner l).2

/-- The lanes that a link owns outside its present set, of an earlier opening at another width, are released (R20, R21). -/
def State.dropLanes (s : State) (l : Nat) : State :=
  let keep := s.linkLanes l
  (List.range 16).foldl (fun (s : State) n => if !keep.contains n && s.ownsLane l n then s.releaseLane n else s) s

/-- A link claims its lanes: all of them, or none and lane-claim-refused (R46, R604, R605, R664). -/
def State.claimLanes (s : State) (l : Nat) : Bool × State :=
  if s.lanesOwned l then (true, s.dropLanes l)
  else
    let s := s.dropLanes l
    let r := (s.linkLanes l).foldl (fun (r : Option Nat × State) n =>
      if r.2.ownsLane l n then r
      else
        let y := r.2.claimLane n (linkOwner l).1 (linkOwner l).2 (s.linkRate l)
        (if y.1 then r.1 else some (r.1.getD n), y.2)) (none, s)
    match r.1 with
    | none => (true, r.2)
    | some n => (false, (s.releaseLanes l).raise .laneClaimRefused 0 n)

/-- The HELD and NEXT_SEQ views of a link follow its replay buffer (R718). -/
def State.slView (s : State) (l : Nat) : State := s.wf F.SL_STAT_HELD (s.sl l).replay.length 0 l

/-- A bring-up starts: lanes claimed and going to P0, sequence numbers at 0, the width latched (R37, R673, R674). A link whose claim is refused
stays closed (R605), as does one that a fault reaction has closed (Table 18-1). -/
def State.bringUp (s : State) (l : Nat) : State :=
  let r := s.claimLanes l
  if s.fm.shut.contains l then s
  else if r.1 then
    let s := (s.linkLanes l).foldl State.bringLane r.2
    let w := s.setWidth l
    let s := s.setSl l { Sl.init with good := 2 ^ 2 ^ w - 1, width := w }
    let s := ((s.wf F.SL_STAT_STATE 1 0 l).wf F.SL_STAT_NEXT_SEQ 0 0 l).wf F.SL_STAT_PEER_ACK 0 0 l
    (s.wf F.SL_STAT_HELD 0 0 l).wf F.SL_CTL_RETRAIN 0 0 l
  else r.2.wf F.SL_STAT_STATE 0 0 l

/-- A retraining of an up link starts: counted; buffers and counters are kept (R711, R717). -/
def State.slRetrain (s : State) (l : Nat) : State :=
  if s.rf F.SL_STAT_STATE 0 l = 2 then
    (s.wf F.SL_STAT_STATE 3 0 l).incE F.SL_RETRAIN_CNT_COUNT 0 l
  else s

/-- saette-protocol-error of a link (R713). -/
def State.slProtocol (s : State) (l : Nat) : State := s.raise .saetteProtocolError 0 l

/-- The first cells of a replay buffer that an ACK_SEQ acknowledges (R674 to R676). -/
def ackedCells (replay : List Nat) (ack : Nat) : Nat :=
  match replay with
  | [] => 0
  | c :: _ =>
    let n := (ack + 4096 + 1 - cellSeq c) % 4096
    if n ≤ replay.length then n else 0

/-- A received LINK_CTL cell's common fields: acknowledgement, NAK with resending, and the peer's ROLE and ACTIVE (R672, R676,
R719). -/
def State.linkCtlFields (s : State) (l cell : Nat) : State :=
  let x := s.sl l
  let ack := bits cell 199 188
  let n := ackedCells x.replay ack
  let nak := bit cell 187
  let s := s.setSl l { x with replay := x.replay.drop n, sent := if nak then 0 else x.sent - n }
  let s := (if nak then s.incE F.SL_REPLAY_CNT_COUNT 0 l else s).wf F.SL_STAT_PEER_ACK ack 0 l
  let s := ((s.wf F.SL_PEER_VALID 1 0 l).wf F.SL_PEER_ACTIVE (bits cell 183 183) 0 l).wf F.SL_PEER_ROLE (bits cell 182 181) 0 l
  s.slView l

/-- The LINK_CTL cell that a link sends now: acknowledgement, NAK, role and ACTIVE; HELLO fields while it comes up (R672,
R675). -/
def State.linkCtlCell (s : State) (l : Nat) : Nat :=
  let x := s.sl l
  let up := s.rf F.SL_STAT_STATE 0 l
  let ty := if up = 1 then 1 else if up = 3 then 2 else 0
  let hello := s.part * 2 ^ 88 + s.devNum % 512 * 2 ^ 79 + l * 2 ^ 76 + s.rf F.SL_CTL_RATE 0 l * 2 ^ 74 + s.linkWidth l * 2 ^ 72
  mkCell 0 4 0 0 false ((x.rxNext + 4095) % 4096 * 2 ^ 188 + b2n x.nakDue * 2 ^ 187 + ty * 2 ^ 184
    + b2n s.active * 2 ^ 183 + s.rf F.DEV_ROLE_ROLE 0 * 2 ^ 181 + if ty = 1 then hello else 0)

/-! ## The stream buffer memory -/

/-- The protected address of word `n` of the stream buffer memory (R680, Table 6-1). -/
def sbufAddr (n : Nat) : Nat := 0x0E000000 + n

/-- First word of a channel's transmit buffer (R680, R721). -/
def State.txBase (s : State) (c : Nat) : Nat := s.rf F.SC_BUF_TX_BASE 0 c * 256
/-- Words of a channel's transmit buffer (R721). -/
def State.txSize (s : State) (c : Nat) : Nat := (s.rf F.SC_BUF_TX_SIZE 0 c + 1) * 256
/-- First word of a channel's receive buffer. -/
def State.rxBase (s : State) (c : Nat) : Nat := s.rf F.SC_BUF_RX_BASE 0 c * 256
/-- Words of a channel's receive buffer. -/
def State.rxSize (s : State) (c : Nat) : Nat := (s.rf F.SC_BUF_RX_SIZE 0 c + 1) * 256

/-- A channel message queued on a channel's transmit side (Table 12-4). -/
def State.msg (s : State) (c msg fields : Nat) : State :=
  let x := s.sc c
  s.setSc c { x with msgs := x.msgs ++ [msg * 2 ^ 196 + fields % 2 ^ 196] }

/-! ## Security -/

/-- The IV of a frame (R692): SALT, then the frame counter, both most significant octet first. -/
def gcmIv (salt ctr : Nat) : Nat := salt % 2 ^ 32 * 2 ^ 64 + ctr % 2 ^ 64

/-- The 6 data bytes of a word (R61). -/
def wordBytes (w : TWord) : List Nat := (List.range 6).map fun k => w.data.toNat / 2 ^ (8 * k) % 256

/-- Word `k` of a frame encrypted or decrypted: XOR with the key stream (R692). -/
def gcmWord (key iv k : Nat) (w : TWord) : TWord :=
  ⟨w.data ^^^ BitVec.ofNat 48 (leNat (gcmStream (leBytes 32 key) iv (6 * k) 6)), w.tag⟩

/-- The additional data of a frame (R692). -/
def gcmAad (c : Nat) (ws : List TWord) : List Nat :=
  [c, 0, 0, 0] ++ (List.range 4).map (fun j => ws.length / 2 ^ (8 * j) % 256)
    ++ (List.range ((ws.length + 3) / 4)).map fun j =>
        (List.range 4).foldl (fun n i => n + (ws.getD (4 * j + i) ⟨0#48, 0#2⟩).tag.toNat * 2 ^ (2 * i)) 0

/-- The GCM tag of a frame from its words as sent (R692). -/
def frameTag (c key salt ctr : Nat) (wire : List TWord) : Nat :=
  gcmTag (leBytes 32 key) (gcmIv salt ctr) (gcmAad c wire) (wire.flatMap wordBytes)

/-- The key in a Saette key slot, if it is VALID (R693). -/
def State.skKey (s : State) (k : Nat) : Option Nat := if s.rb F.SK_CTL_VALID 0 k then some (mget s.sks k 0) else none

end Sys2Proof.Machine
end

