-- ==== Sys2Proof/Machine/Saette.lean ====
section
/-!
DEFINITION. Saette channels: transmit and receive halves, frames, credits, notices, security and forwarding, and the
transmitter of a link (chapter 12, R946 to R948).
-/
namespace Sys2Proof.Machine

/-! ## Notices and reading -/

/-- The readable words of a receive half, as SC_STAT shows them (R723). -/
def State.rxView (s : State) (c : Nat) : State := s.wf F.SC_STAT_RX_LEVEL (s.sc c).ready 0 c

/-- A notice word is posted (R691): kind 0 level, 1 packet, 2 alarm. -/
def State.scNotice (s : State) (c kind ctr : Nat) : State :=
  let w := c * 2 ^ 42 + kind * 2 ^ 40 + (s.sc c).ready % 2 ^ 19 * 2 ^ 21 + ctr % 2 ^ 21
  s.post 0 11 (s.rw .SC_NOTICE_ADDR 0 c) [dataWord w]

/-- The readable words of a half have grown from `was`: the level notice (R690). -/
def State.levelNotice (s : State) (c was : Nat) : State :=
  let lv := s.rf F.SC_NOTICE_LEVEL 0 c
  let s := s.rxView c
  if s.rf F.SC_NOTICE_MODE 0 c = 1 && was < lv && lv ≤ (s.sc c).ready then s.scNotice c 0 (s.sc c).rxCtr else s

/-- A frame's last word has become readable: the packet notice (R690). -/
def State.packetNotice (s : State) (c ctr : Nat) : State := if s.rf F.SC_NOTICE_MODE 0 c = 2 then s.scNotice c 1 ctr else s

/-- `n` words have left a receive buffer: their credits are owed, and returned once 64 are (R688). -/
def State.owe (s : State) (c n : Nat) : State :=
  let x := s.sc c
  let o := x.owed + n
  if 64 ≤ o then (s.setSc c { x with owed := 0 }).msg c 6 o else s.setSc c { x with owed := o }

/-- A closing receive half that holds no word answers CLOSE_ACK and closes (R687). -/
def State.closeIfEmpty (s : State) (c : Nat) : State :=
  let x := s.sc c
  if s.rf F.SC_STAT_RX_STATE 0 c = 2 && x.rx.isEmpty then
    let s := if 0 < x.owed then (s.setSc c { x with owed := 0 }).msg c 6 x.owed else s
    (s.msg c 5 0).wf F.SC_STAT_RX_STATE 0 0 c
  else s

/-- The words of a frame in the frame list changed. -/
def mapFrame (fs : List RxFrame) (id : Nat) (f : RxFrame → RxFrame) : List RxFrame := fs.map fun x => if x.id = id then f x else x

/-- One readable word taken from a receive half, with the frame it came from (R683, R700). -/
def State.rxTakeOne (s : State) (c : Nat) : Option (TWord × Nat × State) :=
  let x := s.sc c
  match x.rx with
  | [] => none
  | (slot, id) :: rest =>
    if x.ready = 0 then none
    else
      let r := s.readWord 0 (sbufAddr slot) .read true
      let x := { x with rx := rest, ready := x.ready - 1, frames := mapFrame x.frames id fun f => { f with taken := f.taken + 1 } }
      some (r.1, id, (r.2.2.setSc c x).owe c 1)

/-- Up to `n` readable words taken; where there is none, data 0 with tag 0b10 (R683). Each with its frame. -/
def State.rxTake (s : State) (c n : Nat) : List (TWord × Option (Nat × Nat)) × State :=
  match n with
  | 0 => ([], s)
  | k + 1 =>
    match s.rxTakeOne c with
    | none => (List.replicate (k + 1) (noWord, none), s)
    | some (w, id, s) => let r := s.rxTake c k; ((w, some (c, id)) :: r.1, r.2)

/-- A read of a receive window at its endpoint (R683, R703): the words leave; a reading engine's words keep their frame. -/
def State.scRxWindow (s : State) (t : Txn) : State :=
  let c := (addrLocal t.addr - 0x0F049000) / 0x40
  match s.arrive t with
  | none => s
  | some s =>
    let r := s.rxTake c t.len
    let s := (r.2.rxView c).closeIfEmpty c
    let s : State := if 4 ≤ t.master && t.master < 28 then { s with rxProv := s.rxProv ++ [((t.srcDie, t.master, t.rtag), r.1.map Prod.snd)] } else s
    s.respond t 0 (r.1.map Prod.fst)

/-- SC_RX_WINDOW_READ (R683, R688, R703). -/
def execScRxWindowRead (t : Txn) (s : State) : Out :=
  let a := addrLocal t.addr
  .next (if s.atDie 0 t && 0x0F049000 ≤ a && a + t.len ≤ 0x0F04A000 && t.op == .read then s.scRxWindow t else s)

/-- CREDIT_RETURN_TIMER (R688): 256 stream cycles have passed since the first credit owed. -/
def execCreditReturnTimer (c : Nat) (s : State) : Out :=
  let x := s.sc c
  .next (if x.owed = 0 then s else (s.setSc c { x with owed := 0 }).msg c 6 x.owed)

/-! ## Failure of a frame -/

/-- A failed frame is recorded, counted, raised and, if asked, noticed (R699, R701, R725): `gone` words had left, `held` were
re-tagged or discarded. -/
def State.recordFail (s : State) (c cause gone held ctr : Nat) (spec : Bool) : State :=
  let s := if s.rb F.SC_ALARM_LAST_VALID 0 c then s
    else (s.ww .SC_ALARM_LAST (2 ^ 47 + s.rf F.SC_CTL_SPEC 0 c * 2 ^ 46 + cause * 2 ^ 44 + gone % 2 ^ 17 * 2 ^ 27 + held % 2 ^ 17 * 2 ^ 10) 0 c).ww
      .SC_ALARM_FRAME (ctr % 2 ^ 48) 0 c
  let s := s.incE F.SC_FAIL_CNT_COUNT 0 c
  let s := s.raise (if spec then .saetteLateAlarm else .saetteAuthFailed) 0 c (s.rw .SC_ALARM_LAST 0 c)
  if s.rb F.SC_NOTICE_ALARM_NOTICE 0 c then s.scNotice c 2 ctr else s

/-- A word re-tagged 0b11, its data kept (R54). -/
def retag (w : TWord) : TWord := ⟨w.data, tagRetracted⟩

/-- How many of a list of words came from a frame. -/
def countProv (p : List (Option (Nat × Nat))) (f : Nat × Nat) : Nat := (p.filter fun x => x == some f).length

/-- Words of a list whose frame is `f` re-tagged. -/
def retagProv (ws : List TWord) (p : List (Option (Nat × Nat))) (f : Nat × Nat) : List TWord :=
  (List.range ws.length).map fun k => if p.getD k none = some f then retag (ws.getD k noWord) else ws.getD k noWord

/-- Words of a frame that have left the receive buffer for an engine and have not been written yet are re-tagged: on their
way to the engine, staged in its contexts, or in a landing buffer on their way (R699, R927). The count of them. -/
def State.retractAway (s : State) (f : Nat × Nat) : Nat × State :=
  let inResp := (s.rxProv.map fun e => countProv e.2 f).foldl (· + ·) 0
  let answer := fun (r : Resp) =>
    match s.rxProv.find? fun e => e.1 = (r.srcDie, r.master, r.rtag) with
    | some e => { r with words := retagProv r.words e.2 f }
    | none => r
  let ctxs := s.ctxs.map fun e => (e.1, { e.2 with staged := e.2.staged.map fun w => if w.2.2 = some f then (w.1, retag w.2.1, w.2.2) else w })
  let inCtx := (s.ctxs.map fun e => (e.2.staged.filter fun w => w.2.2 == some f).length).foldl (· + ·) 0
  let live := s.landing.filter fun e => s.inFlight.contains e.1
  let inLand := (live.map fun e => countProv e.2 f).foldl (· + ·) 0
  let moved := live.map fun e => (({ e.1 with words := retagProv e.1.words e.2 f } : Txn), e.2)
  let txn := fun (t : Txn) => match live.find? fun e => e.1 = t with
    | some e => { t with words := retagProv t.words e.2 f }
    | none => t
  let load := fun (l : Freight) => match l with | .req t => Freight.req (txn t) | .resp r => Freight.resp (answer r)
  let net := { s.net with pkts := s.net.pkts.map fun p => { p with load := load p.load } }
  (inResp + inCtx + inLand,
    { s with resps := s.resps.map answer, ctxs := ctxs, landing := moved, inFlight := s.inFlight.map txn, net := net })

/-- A frame fails (R698, R699, R701): with SPEC = 1 its words still held are re-tagged 0b11, with SPEC = 0 they are
discarded and their credits returned. With SECURE = 0, where words are readable at once and SPEC has no effect, they are
re-tagged too. CAUSE 0 tag, 1 counter, 2 link lost. -/
def State.frameFail (s : State) (c cause : Nat) (f : RxFrame) : State :=
  let x := s.sc c
  let mine := x.rx.filter fun e => e.2 = f.id
  let spec := s.rb F.SC_CTL_SPEC 0 c || !s.rb F.SC_CTL_SECURE 0 c
  if spec then
    let s := mine.foldl (fun (s : State) e =>
      let r := s.readWord 0 (sbufAddr e.1) .read false
      r.2.2.putWord 0 (sbufAddr e.1) (retag r.1)) s
    let away := s.retractAway (c, f.id)
    let s := away.2.setSc c { s.sc c with frames := (s.sc c).frames.filter fun g => g.id ≠ f.id }
    s.recordFail c cause (f.words.length - mine.length - away.1) (mine.length + away.1) f.ctr true
  else
    let lost := ((x.rx.take x.ready).filter fun e => e.2 = f.id).length
    let s := s.setSc c { x with
      rx := x.rx.filter fun e => e.2 ≠ f.id
      ready := x.ready - lost
      frames := x.frames.filter fun g => g.id ≠ f.id }
    let s := if mine.isEmpty then s else s.owe c mine.length
    ((s.recordFail c cause (f.words.length - mine.length) mine.length f.ctr false).rxView c).closeIfEmpty c

/-- FRAME_CHECK (R690, R694, R697 to R699, R701): the check of the oldest whole frame of a channel completes. It fails where
the counter or the tag does not match, or where its key slot was not VALID (R696). -/
def execFrameCheck (c : Nat) (s : State) : Out :=
  let x := s.sc c
  .next (match x.frames with
    | [] => s
    | f :: rest =>
      if f.void || !f.ended || !s.rb F.SC_CTL_SECURE 0 c then s
      else match f.gcm with
        | none => s
        | some (ctr, tag) =>
          if ctr ≠ f.ctr then s.frameFail c 1 f
          else
            let good := match f.key with | some k => frameTag c k f.salt f.ctr f.words == tag | none => false
            if !good then s.frameFail c 0 f
            else
              let was := x.ready
              let spec := s.rb F.SC_CTL_SPEC 0 c
              let n := (x.rx.filter fun e => e.2 = f.id).length
              let s := s.setSc c { x with frames := rest, ready := if spec then x.ready else x.ready + n }
              let s := s.incE F.SC_RX_FRAME_CNT_COUNT 0 c
              if spec then s else (s.levelNotice c was).packetNotice c f.ctr)

/-! ## Loss of a link -/

/-- Remote requests outstanding on a link that is lost are answered aborted by the gateway (R945, R1116). -/
def State.gwLinkLost (s : State) (l : Nat) : State :=
  let hit := s.gw.orig.filter fun o => o.link = l
  let g := s.gw
  let s : State := { s with gw := { g with
    orig := g.orig.filter fun o => o.link ≠ l
    slots := g.slots.filter fun e => e.1 / 8 ≠ l
    part := g.part.filter fun e => e.1 / 8 ≠ l } }
  hit.foldl (fun (s : State) o =>
    let s := ((s.trnRecord 0 o.txn .gateway).incE F.JD_UNREACH_CNT_COUNT 0).raise .jdUnreachable 0 l
    s.respond o.txn 3 (noWords o.txn.len)) s

/-- The transmit half of a channel closes with a cause (R712). -/
def State.txClosed (s : State) (c cause : Nat) : State :=
  let s := ((s.wf F.SC_STAT_TX_STATE 0 0 c).wf F.SC_STAT_REFUSE_CAUSE cause 0 c).wf F.SC_CTL_TX_OPEN 0 0 c
  ((s.wf F.SC_CTL_TX_CLOSE 0 0 c).wf F.SC_CTL_KEY_SWITCH 0 0 c).setSc c { s.sc c with msgs := [], txWire := [], cut := false, gcmDue := none }

/-- What the loss or closing of a link does to its channels (R698, R712): transmit halves close with cause 0x6; receive
halves keep their readable words, and a frame whose check has not its GCM_END fails. -/
def State.channelsLost (s : State) (l : Nat) : State :=
  (List.range 64).foldl (fun s c =>
    if s.rf F.SC_CTL_LINK 0 c ≠ l then s
    else
      let s := if s.rf F.SC_STAT_TX_STATE 0 c ≠ 0 then s.txClosed c 6 else s
      if s.rf F.SC_STAT_RX_STATE 0 c = 0 then s
      else
        let s := (s.sc c).frames.foldl (fun (s : State) f =>
          if f.void || f.gcm.isSome then s else s.frameFail c 2 f) s
        (s.setSc c { s.sc c with frames := (s.sc c).frames.filter fun f => !f.void, owed := 0 }).wf F.SC_STAT_RX_STATE 0 0 c) s

/-- A link is down: its lanes go to P2, its peer's values are no longer valid, its channels and outstanding remote requests
end (R673, R712, R945). -/
def State.linkDown (s : State) (l st : Nat) : State :=
  let lanes := s.linkLanes l
  let s := ((s.wf F.SL_STAT_STATE st 0 l).wf F.SL_STAT_LANES 0 0 l).wf F.SL_PEER_VALID 0 0 l
  let s := s.wf F.SL_STAT_HELD 0 0 l
  let s := ((s.setSl l Sl.init).wf F.SL_CTL_RETRAIN 0 0 l)
  let s := lanes.foldl (fun (s : State) n => if s.ownsLane l n then s.pstate n 2 else s) s
  (s.channelsLost l).gwLinkLost l

/-- A link is lost (R712, R982). A head end with two links whose lost link it does not follow raises head-link-degraded
(R44); the racking link's loss is racking-link-lost. -/
def State.linkLost (s : State) (l : Nat) : State :=
  if s.rf F.SL_STAT_STATE 0 l ≠ 2 && s.rf F.SL_STAT_STATE 0 l ≠ 3 then s
  else
    let s := (s.linkDown l 4).raise .saetteLinkLost 0 l
    if l = 2 then (s.wf F.DUP_STAT_PEER_ALIVE 0 0).raise .rackingLinkLost 0 0
    else if s.rf F.DEV_ROLE_ROLE 0 = 2 && l ≤ 1 && s.follow ≠ 0 && s.follow ≠ l + 1 then s.raise .headLinkDegraded 0 l
    else s

/-- SAETTE_LINK_LOST (R712): the link has no good lane left. -/
def execSaetteLinkLost (l : Nat) (s : State) : Out := .next (s.linkLost l)

/-! ## Reception -/

/-- A cell with a bad CRC (R675, R712, R713): counted and raised, a NAK is due; at REPLAY_LIMIT NAKs for one SEQ the link
retrains, and the second time running it is lost. -/
def State.badCell (s : State) (l : Nat) : State :=
  let x := s.sl l
  let s := (s.incE F.SL_CRC_CNT_COUNT 0 l).raise .saetteCrcError 0 l
  if x.naks + 1 < s.rf F.SL_CTL_REPLAY_LIMIT 0 l then s.setSl l { x with nakDue := true, naks := x.naks + 1 }
  else
    let s := (s.setSl l { x with nakDue := true, naks := 0, limited := true }).raise .saetteReplayLimit 0 l
    if x.limited then s.linkLost l else s.slRetrain l

/-- A cell arrives on a link that is up: the answer tells whether it is good, sequenced and the next expected (R675). -/
def State.cellArrive (s : State) (l cell : Nat) : Bool × State :=
  if !s.linkUp l then (false, s)
  else if !cellGood cell then (false, s.badCell l)
  else
    let x := s.sl l
    if cellKind cell = .linkCtl then (true, s)
    else if cellSeq cell ≠ x.rxNext then (false, s)
    else (true, s.setSl l { x with rxNext := (x.rxNext + 1) % 4096, unacked := x.unacked + 1, naks := 0, limited := false })

/-- Whether a head end takes only Caben traffic and time-base messages from link `l`, because it follows the other or is
switching (R25, R41). -/
def State.unfollowed (s : State) (l : Nat) : Bool :=
  s.rf F.DEV_ROLE_ROLE 0 == 2 && l ≤ 1 && s.follow != 0 && (s.follow != l + 1 || s.switchTo != 0)

/-- Whether a head end takes no data of channel `c` from link `l`; Caben traffic runs on channel 0 (R25, R41). -/
def State.muted (s : State) (l c : Nat) : Bool := s.unfollowed l && c != 0

/-- Whether a DATA cell comes from the link that a head end is taking up: it is not accepted before the switch is complete
(R41). -/
def State.switchHolds (s : State) (l cell : Nat) : Bool :=
  s.switchTo == l + 1 && s.rf F.DEV_ROLE_ROLE 0 == 2 && cellKind cell == .data && cellChannel cell != 0

/-- The forwarding stage of a channel, if it is enabled (R946). -/
def State.forwards (s : State) (c : Nat) : Bool := s.rb F.JD_CH_FWD_EN 0 c

/-- Words of a forwarding buffer (R946). -/
def State.fwdSize (s : State) (c : Nat) : Nat := (s.rf F.JD_CH_FWD_SIZE 0 c + 1) * 256

/-- Words held in a forwarding stage. -/
def Fwd.level (x : Fwd) : Nat := (x.items.filter fun i => match i with | .word .. => true | .cell .. => false).length

/-- The words of a DATA cell enter a forwarding stage (R947, R948). -/
def State.fwdData (s : State) (c : Nat) (ws : List TWord) (first : Bool) : State :=
  (List.range ws.length).foldl (fun (s : State) k =>
    let x := s.fwd c
    let slot := s.rf F.JD_CH_FWD_BASE 0 c * 256 + x.put % s.fwdSize c
    let s := s.storeWord 0 (sbufAddr slot) (ws.getD k noWord)
    s.setFwd c { x with items := x.items ++ [.word slot (first && k == 0)], put := (x.put + 1) % s.fwdSize c }) s

/-- Another sequenced cell enters a forwarding stage (R948). -/
def State.fwdCell (s : State) (c kind body : Nat) : State :=
  let x := s.fwd c
  s.setFwd c { x with items := x.items ++ [.cell kind body] }

/-- The next free word of a receive buffer from `p` on. -/
def freeSlot (used : List Nat) (base size p fuel : Nat) : Nat :=
  match fuel with
  | 0 => base + p % size
  | n + 1 => if used.contains (base + p % size) then freeSlot used base size (p + 1) n else base + p % size

/-- One word stored in a receive buffer for a frame. -/
def State.rxStore (s : State) (c id : Nat) (w : TWord) : State :=
  let x := s.sc c
  let slot := freeSlot (x.rx.map Prod.fst) (s.rxBase c) (s.rxSize c) x.rxPut (s.rxSize c)
  (s.storeWord 0 (sbufAddr slot) w).setSc c { x with rx := x.rx ++ [(slot, id)], rxPut := slot - s.rxBase c + 1 }

/-- The frame in progress of a receive half, a new one if the last has ended. -/
def State.rxFrame (s : State) (c : Nat) : RxFrame × State :=
  let x := s.sc c
  match x.frames.getLast? with
  | some f =>
    if f.ended then
      let g : RxFrame := ⟨x.frameNo, x.rxCtr, s.skKey (s.rf F.SC_KEY_RX_SLOT 0 c), s.rf F.SC_RX_SALT_SALT 0 c, [], 0, false, none, false⟩
      (g, s.setSc c { x with frames := x.frames ++ [g], frameNo := x.frameNo + 1 })
    else (f, s)
  | none =>
    let g : RxFrame := ⟨x.frameNo, x.rxCtr, s.skKey (s.rf F.SC_KEY_RX_SLOT 0 c), s.rf F.SC_RX_SALT_SALT 0 c, [], 0, false, none, false⟩
    (g, s.setSc c { x with frames := [g], frameNo := x.frameNo + 1 })

/-- One word of a DATA cell is accepted (R684, R688, R694, R697): decrypted, stored, and readable at once with SPEC = 1 or
SECURE = 0. A word of a voided frame is discarded and its credit returned (R704). Without a valid key the data is undefined (R696). -/
def State.rxWord (s : State) (c : Nat) (w : TWord) : State :=
  let r := s.rxFrame c
  let f := r.1
  let s := r.2
  let secure := s.rb F.SC_CTL_SECURE 0 c
  let last := w.tag == tagEnd
  let y : TWord × State := if secure then (match f.key with
      | some k => (gcmWord k (gcmIv f.salt f.ctr) f.words.length w, s)
      | none => let r := s.freeWord; (⟨r.1.data, w.tag⟩, r.2)) else (w, s)
  let plain := y.1
  let s := y.2
  let s := if f.void then s.owe c 1 else s.rxStore c f.id plain
  let x := s.sc c
  let now := !f.void && (!secure || s.rb F.SC_CTL_SPEC 0 c)
  let done := last && !secure
  let frames := mapFrame x.frames f.id fun f => { f with words := f.words ++ [w], ended := last }
  let was := x.ready
  let s := s.setSc c { x with
    frames := if done then frames.filter fun g => g.id ≠ f.id else frames
    ready := if now then x.ready + 1 else x.ready
    rxCtr := if last then (x.rxCtr + 1) % 2 ^ 64 else x.rxCtr }
  let s := if now then s.levelNotice c was else s
  let s := if done && !f.void then s.incE F.SC_RX_FRAME_CNT_COUNT 0 c else s
  if last && now then s.packetNotice c f.ctr else s

/-- Words of a DATA cell at an open receive half; words beyond the credits given are a protocol error (R688, R713). -/
def State.rxWords4 (s : State) (l c : Nat) (ws : List TWord) : State :=
  ws.foldl (fun (s : State) w =>
    if (s.sc c).rx.length + (s.sc c).owed < s.rxSize c then s.rxWord c w else s.slProtocol l) s

/-- A DATA cell that has been accepted in order (R25, R675, R677, R697, R713, R948). -/
def State.dataCell (s : State) (l cell : Nat) : State :=
  let c := cellChannel cell
  let n := cellCount cell
  let ws := bodyWords n (cellBody cell)
  if n = 0 || 4 < n then s.slProtocol l
  else if s.forwards c && s.rf F.JD_CH_FWD_IN_LINK 0 c = l then
    if s.muted l c then s.setFwd c { s.fwd c with owed := (s.fwd c).owed + n }
    else if (s.fwd c).level + n ≤ s.fwdSize c then s.fwdData c ws (cellFirst cell) else s.slProtocol l
  else if s.rf F.SC_STAT_RX_STATE 0 c = 0 || s.rf F.SC_CTL_LINK 0 c ≠ l then s.slProtocol l
  else if s.muted l c then s.owe c n
  else s.rxWords4 l c ws

/-- A cell of kind DATA, or of a reserved kind, arrives on a link (R41, R675). -/
def State.dataArrive (s : State) (l cell : Nat) : State :=
  let r := s.cellArrive l cell
  if !cellGood cell then r.2
  else if s.switchHolds l cell then s
  else match cellKind cell with
    | .data => if r.1 then r.2.dataCell l cell else r.2
    | .reserved => if r.1 then r.2.slProtocol l else r.2
    | _ => s

/-- DATA_CELL (R675, R690, R697, R713, R948). -/
def execDataCell (l cell : Nat) (s : State) : Out := .next (s.dataArrive l cell)

/-- A GCM_END that has been accepted: counter and tag of the channel's oldest whole frame without one (R684, R698). -/
def State.gcmEnd (s : State) (l cell : Nat) : State :=
  let c := cellChannel cell
  let x := s.sc c
  let body := cellBody cell
  if s.forwards c && s.rf F.JD_CH_FWD_IN_LINK 0 c = l then (if s.muted l c then s else s.fwdCell c 1 body)
  else if s.rf F.SC_STAT_RX_STATE 0 c = 0 || s.rf F.SC_CTL_LINK 0 c ≠ l then s.slProtocol l
  else if s.muted l c then s
  else match x.frames.find? fun f => f.ended && f.gcm.isNone with
    | none => s.slProtocol l
    | some f =>
      if f.void then s.setSc c { x with frames := x.frames.filter fun g => g.id ≠ f.id }
      else s.setSc c { x with frames := mapFrame x.frames f.id fun f => { f with gcm := some (bits body 191 128, body % 2 ^ 128) } }

/-- GCM_END (R684, R698, R948). -/
def execGcmEnd (l cell : Nat) (s : State) : Out :=
  let r := s.cellArrive l cell
  .next (if !cellGood cell then r.2
    else if cellKind cell ≠ .gcmEnd then s
    else if r.1 then r.2.gcmEnd l cell else r.2)

/-! ## Opening and closing -/

/-- Whether a link of a forwarding stage is the one towards its downstream. -/
def State.fwdOut (s : State) (c l : Nat) : Bool := s.forwards c && s.rf F.JD_CH_FWD_OUT_LINK 0 c == l

/-- The cause why a receive half refuses an OPEN, 0 where it does not (Table 12-5). -/
def State.openCause (s : State) (c maxFrame : Nat) (secure : Bool) : Nat :=
  if !s.rb F.SC_CTL_RX_EN 0 c || s.rf F.SC_STAT_RX_STATE 0 c ≠ 0 then 1
  else if s.rxSize c < maxFrame then 2
  else if s.rb F.SC_CTL_SECURE 0 c ≠ secure then 3
  else if secure && !s.rb F.SK_CTL_VALID 0 (s.rf F.SC_KEY_RX_SLOT 0 c) then 4
  else 0

/-- A received OPEN (R686, R947): answered OPEN_ACK, with the receive half opened, or OPEN_REFUSE. A forwarding stage passes
it on, or refuses with cause 0x5 where its buffer is too small. -/
def State.rxOpen (s : State) (l cell : Nat) : State :=
  let c := cellChannel cell
  let body := cellBody cell
  let mf := bits body 16 0
  if s.forwards c && s.rf F.JD_CH_FWD_IN_LINK 0 c = l then
    if s.fwdSize c < mf then s.msg c 3 5 else s.fwdCell c 2 body
  else
    let cause := if s.rf F.SC_CTL_LINK 0 c ≠ l || l = 2 then 1 else s.openCause c mf (bit body 17)
    if cause ≠ 0 then s.msg c 3 cause
    else
      let x := s.sc c
      let s := s.setSc c { x with rx := [], ready := 0, frames := [], rxCtr := 0, owed := 0, rxPut := 0 }
      ((s.wf F.SC_STAT_RX_STATE 1 0 c).rxView c).msg c 2 (s.rxSize c)

/-- A channel message arrives as a cell of the link: accepted in order and with the MSG that the row names (R675). -/
def channelRow (l cell m : Nat) (s : State) (act : State → State) : State :=
  let r := s.cellArrive l cell
  if !cellGood cell then r.2
  else if cellKind cell ≠ .channelCtl || cellMsg cell ≠ m && !(m = 1 && (cellMsg cell = 0 || 8 < cellMsg cell)) then s
  else if r.1 then act r.2 else r.2

/-- OPEN (R686, R713): a reserved MSG is a protocol error. -/
def execOpen (l cell : Nat) (s : State) : Out :=
  .next (channelRow l cell 1 s fun s => if cellMsg cell = 1 then s.rxOpen l cell else s.slProtocol l)

/-- The frame in progress of a transmit half has ended (nothing of it is partly sent) and a close is asked for: CLOSE is
sent with the next frame's counter (R687); whole frames behind it stay in the buffer (log 84). -/
def State.closeNow (s : State) (c : Nat) : State :=
  let x := s.sc c
  if s.rb F.SC_CTL_TX_CLOSE 0 c && s.rf F.SC_STAT_TX_STATE 0 c = 2 && x.txWire.isEmpty && x.gcmDue.isNone then
    (s.msg c 4 x.txCtr).wf F.SC_STAT_TX_STATE 3 0 c
  else s

/-- OPEN_ACK (R686, R706, R947): an opening transmit half opens with its credits; a stored TX_CLOSE acts then. A forwarding
stage takes the downstream's credits and acknowledges upstream with its own buffer. -/
def execOpenAck (l cell : Nat) (s : State) : Out :=
  .next (channelRow l cell 2 s fun s =>
    let c := cellChannel cell
    let n := bits (cellBody cell) 18 0
    if s.fwdOut c l then (s.setFwd c { s.fwd c with credit := n, ceil := n, owed := 0 }).msg c 2 (s.fwdSize c)
    else if s.rf F.SC_CTL_LINK 0 c ≠ l || s.rf F.SC_STAT_TX_STATE 0 c ≠ 1 then s.slProtocol l
    else
      let s := ((s.wf F.SC_STAT_TX_STATE 2 0 c).wf F.SC_STAT_TX_CREDIT n 0 c).wf F.SC_CTL_TX_OPEN 0 0 c
      (s.setSc c { s.sc c with ceil := n, txCtr := 0, txWire := [], gcmDue := none }).closeNow c)

/-- A transmit half is refused: it returns to closed with the cause, and saette-open-refused is raised (R706, R713). -/
def State.openRefused (s : State) (c cause : Nat) : State :=
  (((s.wf F.SC_STAT_TX_STATE 0 0 c).wf F.SC_STAT_REFUSE_CAUSE cause 0 c).wf F.SC_CTL_TX_OPEN 0 0 c).raise .saetteOpenRefused 0 c

/-- OPEN_REFUSE (R706, R713, R947). -/
def execOpenRefuse (l cell : Nat) (s : State) : Out :=
  .next (channelRow l cell 3 s fun s =>
    let c := cellChannel cell
    let cause := bits (cellBody cell) 3 0
    if s.fwdOut c l then s.msg c 3 cause
    else if s.rf F.SC_CTL_LINK 0 c ≠ l || s.rf F.SC_STAT_TX_STATE 0 c ≠ 1 then s.slProtocol l
    else s.openRefused c cause)

/-- CLOSE (R687, R948): the receive half closes once it holds no word. -/
def execClose (l cell : Nat) (s : State) : Out :=
  .next (channelRow l cell 4 s fun s =>
    let c := cellChannel cell
    if s.forwards c && s.rf F.JD_CH_FWD_IN_LINK 0 c = l then s.fwdCell c 2 (cellBody cell)
    else if s.rf F.SC_CTL_LINK 0 c ≠ l || s.rf F.SC_STAT_RX_STATE 0 c ≠ 1 then s.slProtocol l
    else (s.wf F.SC_STAT_RX_STATE 2 0 c).closeIfEmpty c)

/-- CLOSE_ACK (R687): the transmit half closes. -/
def execCloseAck (l cell : Nat) (s : State) : Out :=
  .next (channelRow l cell 5 s fun s =>
    let c := cellChannel cell
    if s.fwdOut c l then s.msg c 5 0
    else if s.rf F.SC_CTL_LINK 0 c ≠ l || s.rf F.SC_STAT_TX_STATE 0 c ≠ 3 then s.slProtocol l
    else (s.wf F.SC_STAT_TX_STATE 0 0 c).wf F.SC_CTL_TX_CLOSE 0 0 c)

/-- CREDIT (R86, R688, R689): a return above the ceiling is discarded whole and retrains the link. R86 has the block raise its
credit-overrun fault, and neither R689 nor Table 12-7 names a source: saette-protocol-error is taken (DESIGN CHOICE, log 177). -/
def execCredit (l cell : Nat) (s : State) : Out :=
  .next (channelRow l cell 6 s fun s =>
    let c := cellChannel cell
    let n := bits (cellBody cell) 18 0
    if s.fwdOut c l then
      let x := s.fwd c
      if x.credit + n ≤ x.ceil then s.setFwd c { x with credit := x.credit + n } else (s.slProtocol l).slRetrain l
    else if s.rf F.SC_CTL_LINK 0 c ≠ l || s.rf F.SC_STAT_TX_STATE 0 c < 2 then s.slProtocol l
    else
      let v := s.rf F.SC_STAT_TX_CREDIT 0 c + n
      if v ≤ (s.sc c).ceil then s.wf F.SC_STAT_TX_CREDIT v 0 c else (s.slProtocol l).slRetrain l)

/-- KEY_SWITCH (R694 to R696, R948): the receive half takes its next slot and salt, and its counter goes to 0. -/
def execKeySwitch (l cell : Nat) (s : State) : Out :=
  .next (channelRow l cell 7 s fun s =>
    let c := cellChannel cell
    if s.forwards c && s.rf F.JD_CH_FWD_IN_LINK 0 c = l then s.fwdCell c 2 (cellBody cell)
    else if s.rf F.SC_CTL_LINK 0 c ≠ l || s.rf F.SC_STAT_RX_STATE 0 c = 0 then s.slProtocol l
    else
      let s := s.wf F.SC_KEY_RX_SLOT (s.rf F.SC_KEY_RX_NEXT_SLOT 0 c) 0 c
      let s := s.wf F.SC_RX_SALT_SALT (s.rf F.SC_RX_NEXT_SALT_SALT 0 c) 0 c
      s.setSc c { s.sc c with rxCtr := 0 })

/-- The partial frame of a receive half is discarded, without a failure; its counter is consumed (R704). -/
def State.rxDropPartial (s : State) (c : Nat) : State :=
  let x := s.sc c
  match x.frames.getLast? with
  | none => s
  | some f =>
    if f.ended then s
    else
      let n := (x.rx.filter fun e => e.2 = f.id).length
      let lost := ((x.rx.take x.ready).filter fun e => e.2 = f.id).length
      let s := s.setSc c { x with
        rx := x.rx.filter fun e => e.2 ≠ f.id
        ready := x.ready - lost
        rxCtr := (x.rxCtr + 1) % 2 ^ 64
        frames := x.frames.filter fun g => g.id ≠ f.id }
      ((if n = 0 then s else s.owe c n).rxView c).closeIfEmpty c

/-- FLUSH (R704, R948). -/
def execFlush (l cell : Nat) (s : State) : Out :=
  .next (channelRow l cell 8 s fun s =>
    let c := cellChannel cell
    if s.forwards c && s.rf F.JD_CH_FWD_IN_LINK 0 c = l then s.fwdCell c 2 (cellBody cell)
    else if s.rf F.SC_CTL_LINK 0 c ≠ l || s.rf F.SC_STAT_RX_STATE 0 c = 0 then s.slProtocol l
    else s.rxDropPartial c)

/-! ## The transmit half -/

/-- A transmit half switches its key at a frame boundary (R695): KEY_SWITCH is sent, next slot and salt become current, the
counter goes to 0, and an exhausted half is open again (R710). -/
def State.keySwitchNow (s : State) (c : Nat) : State :=
  let s := s.msg c 7 0
  let s := s.wf F.SC_KEY_TX_SLOT (s.rf F.SC_KEY_TX_NEXT_SLOT 0 c) 0 c
  let s := (s.wf F.SC_TX_SALT_SALT (s.rf F.SC_TX_NEXT_SALT_SALT 0 c) 0 c).wf F.SC_CTL_KEY_SWITCH 0 0 c
  let s := s.setSc c { s.sc c with txCtr := 0 }
  if s.rf F.SC_STAT_TX_STATE 0 c = 4 then s.wf F.SC_STAT_TX_STATE 2 0 c else s

/-- Whether a transmit half stands at a frame boundary: no frame is partly sent. -/
def Sc.boundary (x : Sc) : Bool := x.txWire.isEmpty && x.gcmDue.isNone

/-- A write of KEY_SWITCH (R695, R696): not performed where the next slot is not VALID; otherwise it acts at the next frame
boundary. It acts on an open or exhausted half. -/
def State.writeKeySwitch (s : State) (c : Nat) : State :=
  let st := s.rf F.SC_STAT_TX_STATE 0 c
  if !s.rb F.SK_CTL_VALID 0 (s.rf F.SC_KEY_TX_NEXT_SLOT 0 c) then
    (s.wf F.SC_CTL_KEY_SWITCH 0 0 c).wf F.SC_STAT_REFUSE_CAUSE 4 0 c
  else if st ≠ 2 && st ≠ 4 then s.wf F.SC_CTL_KEY_SWITCH 0 0 c
  else if (s.sc c).boundary then s.keySwitchNow c
  else s.wf F.SC_CTL_KEY_SWITCH 1 0 c

/-- A transmit half reaches a frame boundary with the next frame's counter `ctr` (R695, R705, R710): a pending key switch is
performed, else at all-ones the half is exhausted; a close asked for is sent once nothing is left to send. -/
def State.txBoundary (s : State) (c ctr : Nat) : State :=
  let s := s.setSc c { s.sc c with txCtr := ctr % 2 ^ 64 }
  if s.rb F.SC_CTL_KEY_SWITCH 0 c then (s.keySwitchNow c).closeNow c
  else if ctr = 2 ^ 64 - 1 then
    (s.wf F.SC_STAT_TX_STATE 4 0 c).raise .saetteCounterExhausted 0 c
  else s.closeNow c

/-- A tagged word enters a transmit buffer (R682). -/
def State.txPut (s : State) (c : Nat) (w : TWord) : State :=
  let x := s.sc c
  (s.storeWord 0 (sbufAddr (s.txBase c + (x.txHead + x.txLen) % s.txSize c)) w).setSc c { x with txLen := x.txLen + 1 }

/-- Whether a transmit half has room for `n` words: it is enabled or not closed, not exhausted, and its buffer has it (R682,
R710). -/
def State.txRoom (s : State) (c n : Nat) : Bool :=
  (s.rb F.SC_CTL_TX_EN 0 c || s.rf F.SC_STAT_TX_STATE 0 c != 0) && s.rf F.SC_STAT_TX_STATE 0 c != 4
    && decide ((s.sc c).txLen + n ≤ s.txSize c)

/-- The words of a write to a transmit window (R75, R682, R710): words tagged 0b10 or 0b11 are refused, the others appended in
address order. A posted write that finds no room, or an exhausted half, is dropped and counted. -/
def State.txWords (s : State) (c addr : Nat) (ws : List TWord) : State :=
  let s := (List.range ws.length).foldl (fun s k =>
    let w := ws.getD k noWord
    if w.tag.toNat < 2 then s else s.regRefuse 0 (w.tag.toNat - 2) true (addr + k)) s
  let good := ws.filter fun w => w.tag.toNat < 2
  if good = [] then s
  else if s.txRoom c good.length then good.foldl (fun (s : State) w => s.txPut c w) s
  else
    let s := s.incE F.SC_TX_DROP_CNT_COUNT 0 c
    if s.rf F.SC_STAT_TX_STATE 0 c = 4 then s else s.raise .saetteTxOverflow 0 c

/-- A write of a transmit window at its endpoint: a stream write waits in its landing buffer for room, and for an exhausted
half's key switch, and returns its credits when it is performed (R492, R682, R710). -/
def State.scTxWindow (s : State) (t : Txn) : State :=
  let c := (addrLocal t.addr - 0x0F048000) / 0x40
  if t.vc = .streams && !s.txRoom c t.words.length then s
  else
    match s.arrive t with
    | none => s
    | some s => ((s.txWords c (addrLocal t.addr) t.words).refusedWords 0 t).creditBack t t.words.length

/-- SC_TX_WINDOW_WRITE (R679, R682, R709). -/
def execScTxWindowWrite (t : Txn) (s : State) : Out :=
  let a := addrLocal t.addr
  .next (if s.atDie 0 t && 0x0F048000 ≤ a && a + t.words.length ≤ 0x0F049000 && t.op == .write then s.scTxWindow t else s)

/-- A frame of a transmit half is cut: counted and raised (R709). -/
def State.frameCut (s : State) (c : Nat) : State := (s.incE F.SC_CUT_CNT_COUNT 0 c).raise .saetteFrameCut 0 c

/-- CLOSE_CUT_TIMEOUT (R687, R709): the frame in progress has not ended 65,536 stream cycles after TX_CLOSE: its next word is sent
with tag 0b01; where none is queued, FLUSH ends it (log 84). -/
def execCloseCutTimeout (c : Nat) (s : State) : Out :=
  let x := s.sc c
  .next (if !s.rb F.SC_CTL_TX_CLOSE 0 c || s.rf F.SC_STAT_TX_STATE 0 c ≠ 2 || x.txWire.isEmpty || x.cut then s
    else if 0 < x.txLen then (s.setSc c { x with cut := true }).frameCut c
    else
      let s := ((s.setSc c { x with txWire := [] }).msg c 8 0).frameCut c
      s.txBoundary c (x.txCtr + 1))

/-- A write of TX_OPEN (R677, R686, R696, R706): on an enabled, closed half OPEN is sent; a link that is not up, the racking link (R678, log 184), a key slot
that is not VALID or an exhausted half is refused here. Words already in the transmit buffer wait for the open. -/
def State.writeTxOpen (s : State) (c : Nat) : State :=
  if s.rf F.SC_STAT_TX_STATE 0 c = 4 then (s.wf F.SC_STAT_REFUSE_CAUSE 7 0 c).raise .saetteOpenRefused 0 c
  else if s.rf F.SC_STAT_TX_STATE 0 c ≠ 0 || !s.rb F.SC_CTL_TX_EN 0 c then s
  else if !s.linkUp (s.rf F.SC_CTL_LINK 0 c) || s.rf F.SC_CTL_LINK 0 c = 2 then s.openRefused c 6
  else if s.rb F.SC_CTL_SECURE 0 c && !s.rb F.SK_CTL_VALID 0 (s.rf F.SC_KEY_TX_SLOT 0 c) then s.openRefused c 4
  else
    let s := (s.wf F.SC_CTL_TX_OPEN 1 0 c).wf F.SC_STAT_TX_STATE 1 0 c
    let s := s.setSc c { s.sc c with txWire := [], cut := false, gcmDue := none, txCtr := 0, msgs := [] }
    s.msg c 1 (s.rf F.SC_CTL_MAX_FRAME 0 c + s.rf F.SC_CTL_SECURE 0 c * 2 ^ 17 + 2 ^ 18)

/-- A write of TX_CLOSE (R687, R706): stored during an open; on an open half CLOSE is sent after the frame in progress. -/
def State.writeTxClose (s : State) (c : Nat) : State :=
  let st := s.rf F.SC_STAT_TX_STATE 0 c
  if st = 1 || st = 2 then (s.wf F.SC_CTL_TX_CLOSE 1 0 c).closeNow c else s

/-- A write of FLUSH acts on both halves (R704). -/
def State.channelFlush (s : State) (c : Nat) : State :=
  let x := s.sc c
  let partial_ := !x.txWire.isEmpty
  let s := s.setSc c { x with txHead := 0, txLen := 0, cut := false, txWire := [] }
  let s := if partial_ then (s.msg c 8 0).txBoundary c (x.txCtr + 1) else s
  let x := s.sc c
  let n := x.rx.length
  let s := s.setSc c { x with
    rx := [], ready := 0
    frames := (x.frames.filter fun f => f.gcm.isNone).map fun f => { f with void := true } }
  let s := if n = 0 || s.rf F.SC_STAT_RX_STATE 0 c = 0 then s else s.owe c n
  (((s.rxView c).closeIfEmpty c).wf F.SC_CTL_FLUSH 0 0 c).closeNow c

/-! ## Channel registers -/

/-- Whether regions of the stream buffer memory overlap. -/
def overlaps (b n b' n' : Nat) : Bool := b < b' + n' && b' < b + n

/-- Whether a half's buffer may be enabled: inside the memory, apart from the buffers of every other enabled half, and its
channel not forwarded (R681, R946). -/
def State.bufOk (s : State) (c : Nat) (tx : Bool) (otherTx otherRx : Bool) : Bool :=
  let b := if tx then s.txBase c else s.rxBase c
  let n := if tx then s.txSize c else s.rxSize c
  decide (b + n ≤ 262144) && !s.forwards c
    && (List.range 64).all fun d =>
      let t := if d = c then otherTx && !tx else s.rb F.SC_CTL_TX_EN 0 d
      let r := if d = c then otherRx && tx else s.rb F.SC_CTL_RX_EN 0 d
      !(t && overlaps b n (s.txBase d) (s.txSize d)) && !(r && overlaps b n (s.rxBase d) (s.rxSize d))

/-- Whether both halves of a channel are closed and disabled (R708). -/
def State.scIdle (s : State) (c : Nat) : Bool :=
  s.rf F.SC_STAT_TX_STATE 0 c == 0 && s.rf F.SC_STAT_RX_STATE 0 c == 0 && !s.rb F.SC_CTL_TX_EN 0 c && !s.rb F.SC_CTL_RX_EN 0 c

/-- The transmit buffer of a closed half is empty when it is enabled or disabled. -/
def State.txEmpty (s : State) (c : Nat) : State :=
  if s.rf F.SC_STAT_TX_STATE 0 c = 0 then s.setSc c { s.sc c with txHead := 0, txLen := 0, cut := false } else s

/-- A write that enables or disables one half: an enabling is not stored, with BUF_ERR set, where its buffer is not allowed
(R681). -/
def State.enableHalf (s : State) (c : Nat) (tx : Bool) (v : Bool) : State :=
  let f := if tx then F.SC_CTL_TX_EN else F.SC_CTL_RX_EN
  if s.rb f 0 c == v then s
  else if v && !s.bufOk c tx (s.rb F.SC_CTL_TX_EN 0 c) (s.rb F.SC_CTL_RX_EN 0 c) then s.wf F.SC_STAT_BUF_ERR 1 0 c
  else
    let s := s.wf f (b2n v) 0 c
    if tx then s.txEmpty c else s

/-- A write of SC_CTL (R681, R686, R687, R695, R704, R708, R720). -/
def State.writeScCtl (s : State) (c w : Nat) : State :=
  let s := if s.scIdle c then
      ((s.wf F.SC_CTL_MAX_FRAME (max 1 (min 65536 (bits w 34 18))) 0 c).wf F.SC_CTL_LINK (bits w 17 15) 0 c).wf
        F.SC_CTL_SPEC (bits w 14 14) 0 c |>.wf F.SC_CTL_SECURE (bits w 13 13) 0 c
    else s
  let s := (s.enableHalf c true (bit w 1)).enableHalf c false (bit w 0)
  let s := if bit w 47 then s.writeTxOpen c else s
  let s := if bit w 46 then s.writeTxClose c else s
  let s := if bit w 44 then s.writeKeySwitch c else s
  if bit w 45 then s.channelFlush c else s

/-- A tagged write of SC_CTL (R75). -/
def scCtlOut (c : Nat) (w : TWord) (s : State) : State :=
  if w.tag.toNat < 2 then s.writeScCtl c w.data.toNat
  else s.regRefuse 0 (w.tag.toNat - 2) true (0x0F041000 + c * 0x20)

/-- TX_OPEN (R686). -/
def execTxOpen (c : Nat) (w : TWord) (s : State) : Out := .next (scCtlOut c w s)
/-- TX_CLOSE (R687). -/
def execTxClose (c : Nat) (w : TWord) (s : State) : Out := .next (scCtlOut c w s)
/-- CHANNEL_FLUSH (R704). -/
def execChannelFlush (c : Nat) (w : TWord) (s : State) : Out := .next (scCtlOut c w s)
/-- KEY_SWITCH_WRITE (R695, R696, R705). -/
def execKeySwitchWrite (c : Nat) (w : TWord) (s : State) : Out := .next (scCtlOut c w s)
/-- CHANNEL_ENABLE_WRITE (R681). -/
def execChannelEnableWrite (c : Nat) (w : TWord) (s : State) : Out := .next (scCtlOut c w s)

/-- A write of SC_BUF: stored only while both halves are closed and disabled (R708). -/
def State.writeScBuf (s : State) (c w : Nat) (acts : List HwAct) : State :=
  if s.scIdle c then s.plainWrite ⟨.SC_BUF, 0, c, 0⟩ w acts else s

/-- A write of SC_NOTICE: MODE 0b11 is stored as 0b00 (R724). -/
def State.writeScNotice (s : State) (c w : Nat) : State :=
  ((s.wf F.SC_NOTICE_MODE (if bits w 47 46 = 3 then 0 else bits w 47 46) 0 c).wf F.SC_NOTICE_ALARM_NOTICE (bits w 45 45) 0 c).wf
    F.SC_NOTICE_LEVEL (bits w 18 0) 0 c

/-- LOAD of a Saette key slot (R693, R707, R788): refused where the slot is VALID and an open half names it as current, or
where Caben over UDP uses it. The staging words are emptied. -/
def State.skLoad (s : State) (k : Nat) : State :=
  let key := (List.range 6).foldl (fun n w => n + s.rf F.SK_KEY_W 0 k w * 2 ^ (48 * w)) 0 % 2 ^ 256
  let s : State := (List.range 6).foldl (fun s w => s.wf F.SK_KEY_W 0 0 k w) s
  let used := (List.range 64).any fun c =>
    (s.rf F.SC_STAT_TX_STATE 0 c != 0 && s.rf F.SC_KEY_TX_SLOT 0 c == k) || (s.rf F.SC_STAT_RX_STATE 0 c != 0 && s.rf F.SC_KEY_RX_SLOT 0 c == k)
  if (used && s.rb F.SK_CTL_VALID 0 k) || (s.rb F.CABEN_CTL_UDP_EN 0 && s.rf F.CABEN_CTL_UDP_KEY_SLOT 0 == k) then
    s.wf F.SK_CTL_REFUSED 1 0 k
  else ({ s with sks := mset s.sks k key 0 } : State).wf F.SK_CTL_VALID 1 0 k

/-- A write of SK_CTL. -/
def State.writeSkCtl (s : State) (k w : Nat) : State :=
  let s := s.plainWrite ⟨.SK_CTL, 0, k, 0⟩ w [.clear 1 1]
  (if bit w 1 then s.skLoad k else s).wf F.SK_CTL_LOAD 0 0 k

/-- SAETTE_KEY_LOAD (R693, R696, R707). -/
def execSaetteKeyLoad (k : Nat) (w : TWord) (s : State) : Out :=
  .next (if w.tag.toNat < 2 then s.writeSkCtl k w.data.toNat
    else s.regRefuse 0 (w.tag.toNat - 2) true (0x0F040206 + k * 8))

/-! ## The transmitter -/

/-- A sequenced cell is sent on a link: it takes the next SEQ and is kept until acknowledged (R674). -/
def State.sendSeq (s : State) (l kind ch count : Nat) (first : Bool) (body : Nat) : State :=
  let q := s.rf F.SL_STAT_NEXT_SEQ 0 l
  let cell := mkCell q kind ch count first body
  let x := s.sl l
  ((s.setSl l { x with replay := x.replay ++ [cell], sent := x.sent + 1, slot := x.slot ++ [cell] }).wf
    F.SL_STAT_NEXT_SEQ ((q + 1) % 4096) 0 l).slView l

/-- The links' side that a channel's messages leave on: its own link, or a forwarding stage's upstream link (R947). -/
def State.msgLink (s : State) (c : Nat) : Nat := if s.forwards c then s.rf F.JD_CH_FWD_IN_LINK 0 c else s.rf F.SC_CTL_LINK 0 c

/-- Up to `n` words leave a transmit buffer for one cell, ending at a word tagged 0b01 (R684): buffer words read, oldest first.
`sent` words of the frame have gone before; its word number MAX_FRAME, and the next one where the frame is to be cut, goes with tag
0b01 (R679, R687, R709). -/
def State.txPull (s : State) (c sent n : Nat) : List TWord × State :=
  match n with
  | 0 => ([], s)
  | k + 1 =>
    let x := s.sc c
    if x.txLen = 0 then ([], s)
    else
      let r := s.readWord 0 (sbufAddr (s.txBase c + x.txHead)) .read true
      let full := r.1.tag ≠ tagEnd && !x.cut && decide (s.rf F.SC_CTL_MAX_FRAME 0 c ≤ sent + 1)
      let s := r.2.2.setSc c { x with txHead := (x.txHead + 1) % s.txSize c, txLen := x.txLen - 1, cut := false }
      let s := if full then s.frameCut c else s
      if r.1.tag = tagEnd || x.cut || full then ([⟨r.1.data, tagEnd⟩], s) else let y := s.txPull c (sent + 1) k; (r.1 :: y.1, y.2)

/-- A DATA cell of a channel is sent (R684, R688, R692, R694): up to 4 words, as far as credits go, encrypted with SECURE = 1.
A cell also ends where the credits do (log 184). The cell with the frame's last word ends the frame. -/
def State.sendData (s : State) (l c : Nat) : State :=
  let x := s.sc c
  let secure := s.rb F.SC_CTL_SECURE 0 c
  let cr := s.rf F.SC_STAT_TX_CREDIT 0 c
  let r := s.txPull c x.txWire.length (min 4 cr)
  let key := mget s.sks (s.rf F.SC_KEY_TX_SLOT 0 c) 0
  let salt := s.rf F.SC_TX_SALT_SALT 0 c
  let base := x.txWire.length
  let wire := if secure then (List.range r.1.length).map fun k => gcmWord key (gcmIv salt x.txCtr) (base + k) (r.1.getD k noWord) else r.1
  let ended := r.1.any fun w => w.tag == tagEnd
  let s := r.2.wf F.SC_STAT_TX_CREDIT (cr - r.1.length) 0 c
  let s := s.sendSeq l 0 c r.1.length (base == 0) (wordsBody wire)
  let all := x.txWire ++ wire
  if ended then
    let s := s.incE F.SC_TX_FRAME_CNT_COUNT 0 c
    if secure then s.setSc c { s.sc c with txWire := [], gcmDue := some (x.txCtr % 2 ^ 64 * 2 ^ 128 + frameTag c key salt x.txCtr all) }
    else (s.setSc c { s.sc c with txWire := [] }).txBoundary c (x.txCtr + 1)
  else s.setSc c { s.sc c with txWire := all }

/-- The words at the front of a forwarding stage that one cell can carry. -/
def fwdFront (items : List FwdItem) (n : Nat) : List (Nat × Bool) :=
  match items, n with
  | .word slot f :: t, k + 1 => if f then [(slot, f)] else (slot, f) :: fwdFront t k
  | _, _ => []

/-- The first item of a forwarding stage is sent downstream: words against credits, other cells as they are (R947, R948).
The words' credits are owed upstream. -/
def State.sendFwd (s : State) (l c : Nat) : State :=
  let x := s.fwd c
  match x.items with
  | [] => s
  | .cell k body :: t => (s.setFwd c { x with items := t }).sendSeq l k c 0 false body
  | .word slot f :: t =>
    let run := (slot, f) :: fwdFront (t.takeWhile fun i => match i with | .word _ g => !g | .cell .. => false) (min 3 (x.credit - 1))
    let r := run.foldl (fun (r : List TWord × Bool × State) e =>
      if r.2.1 then r
      else
        let y := r.2.2.readWord 0 (sbufAddr e.1) .read true
        (r.1 ++ [y.1], y.1.tag == tagEnd, y.2.2)) ([], false, s)
    let n := r.1.length
    let o := x.owed + n
    let s := r.2.2.setFwd c { x with items := x.items.drop n, credit := x.credit - n, owed := if 64 ≤ o then 0 else o }
    let s := s.sendSeq l 0 c n f (wordsBody r.1)
    if 64 ≤ o then s.msg c 6 o else s

/-- Whether a channel has a DATA cell ready for link `l`: words and credits, on an open half (R685, R687). -/
def State.dataReady (s : State) (l c : Nat) : Bool :=
  let st := s.rf F.SC_STAT_TX_STATE 0 c
  s.rf F.SC_CTL_LINK 0 c == l && st == 2 && (s.sc c).gcmDue.isNone && (s.sc c).txLen != 0 && s.rf F.SC_STAT_TX_CREDIT 0 c != 0

/-- Whether a forwarding stage has a cell ready for link `l`. -/
def State.fwdReady (s : State) (l c : Nat) : Bool :=
  s.fwdOut c l && match (s.fwd c).items with
    | [] => false
    | .cell .. :: _ => true
    | .word .. :: _ => (s.fwd c).credit != 0

/-- A SYSTEM cell body as it leaves on link `l` (R949, R966): TIME_REQ notes T1, TIME_RESP takes T3, HEARTBEAT takes its
send time. -/
def State.stampBody (s : State) (l body : Nat) : Nat × State :=
  let t := s.now % 2 ^ 48
  match bits body 199 196 with
  | 4 => (body, { s with dup := { s.dup with syncs := mins s.dup.syncs l (bits body 195 188, t) } })
  | 5 => (body / 2 ^ 116 * 2 ^ 116 + t * 2 ^ 68 + body % 2 ^ 68, s)
  | 6 => (body / 2 ^ 164 * 2 ^ 164 + t * 2 ^ 116 + body % 2 ^ 116, s)
  | _ => (body, s)

/-- The next cell of an up link (R674, R684, R685): cells to be resent, then a GCM_END due, channel messages and SYSTEM cells,
then DATA in rotation; else a LINK_CTL cell with the acknowledgement. -/
def State.sendNext (s : State) (l : Nat) : State :=
  let x := s.sl l
  if x.sent < x.replay.length then s.setSl l { x with sent := x.sent + 1, slot := x.slot ++ [x.replay.getD x.sent 0] }
  else
    let idle : State := s.setSl l { x with slot := x.slot ++ [s.linkCtlCell l], nakDue := false, unacked := 0 }
    if 1024 ≤ x.replay.length then idle
    else match (List.range 64).find? fun c => s.rf F.SC_CTL_LINK 0 c == l && (s.sc c).gcmDue.isSome with
      | some c =>
        let y := s.sc c
        ((s.setSc c { y with gcmDue := none }).sendSeq l 1 c 0 false (y.gcmDue.getD 0)).txBoundary c (y.txCtr + 1)
      | none => match (List.range 64).find? fun c => s.msgLink c == l && !(s.sc c).msgs.isEmpty with
        | some c =>
          let y := s.sc c
          (s.setSc c { y with msgs := y.msgs.drop 1 }).sendSeq l 2 c 0 false (y.msgs.headD 0)
        | none => match x.system with
          | b :: rest =>
            let r := (s.setSl l { x with system := rest }).stampBody l b
            r.2.sendSeq l 3 0 0 false r.1
          | [] =>
            match (List.range 64).find? fun k => let c := (x.rot + 1 + k) % 64; s.dataReady l c || s.fwdReady l c with
            | some k =>
              let c := (x.rot + 1 + k) % 64
              let s := s.setSl l { x with rot := c }
              if s.dataReady l c then s.sendData l c else s.sendFwd l c
            | none => idle

/-- The lanes that a link uses, in the order of their positions: while it comes up all of its set (R669, R711). -/
def State.lanesInUse (s : State) (l : Nat) : List Nat :=
  let m := s.rf F.SL_STAT_LANES 0 l
  (s.linkLanes l).zipIdx.filterMap fun n => if m = 0 || bit m n.2 then some n.1 else none

/-- The injections that wait at the lanes of a link act on its line data, after the coding (R626). -/
def State.injectLine (s : State) (l : Nat) : State :=
  (s.lanesInUse l).zipIdx.foldl (fun (s : State) n =>
    let k := (s.lane n.1).inject
    if k = 0 then s
    else
      let p := s.pcsOf l
      let bs := p.sent.getD n.2 []
      let s := s.setLane n.1 { s.lane n.1 with inject := k - 66 * bs.length }
      { s with pcs := mset s.pcs l { p with sent := p.sent.set n.2 (flipBlocks k bs) } Pcs.init }) s

/-- The cells of a slot go onto the lanes of the link in link order (R669). -/
def State.slotOut (s : State) (l w : Nat) : State := (s.putOnLine l w (s.sl l).slot).injectLine l

/-- SLOT_TRANSMIT (R666, R669, R673 to R676, R684, R685, R710): one slot of a link: one cell for each lane in use; while the link
comes up or retrains, LINK_CTL cells. -/
def execSlotTransmit (l : Nat) (s : State) : Out :=
  let st := s.rf F.SL_STAT_STATE 0 l
  let s0 := s.setSl l { s.sl l with slot := [] }
  let w := 2 ^ s.rf F.SL_STAT_WIDTH_NOW 0 l
  .next (if st = 2 then ((List.range w).foldl (fun (s : State) _ => s.sendNext l) s0).slotOut l (s.rf F.SL_STAT_WIDTH_NOW 0 l)
    else if st = 1 || st = 3 then
      let cells := List.replicate (2 ^ s.linkWidth l) (s.linkCtlCell l)
      (s0.setSl l { s0.sl l with slot := cells, nakDue := false }).slotOut l (s.linkWidth l)
    else s)

/-! ## Link registers and bring-up -/

/-- Whether a general link's lanes exist and are aligned (R664). -/
def State.slLanesOk (s : State) (w base : Nat) : Bool := base % 2 ^ w == 0 && base + 2 ^ w ≤ s.laneCount

/-- The lanes of a link's set that are not retired, by position (R649, R711). -/
def State.goodLanes (s : State) (l : Nat) : Nat :=
  (s.linkLanes l).zipIdx.foldl (fun m n => if s.rb F.LANE_STAT_RETIRED 0 n.1 then m else m + 2 ^ n.2) 0

/-- A write of SL_CTL (R605, R664, R673, R712, R717). A write of RETRAIN retrains an up link at full width; on an enabled link
that is down it restarts the bring-up. -/
def State.writeSlCtl (s : State) (l w : Nat) : State :=
  if 3 ≤ l && !s.slLanesOk (bits w 7 6) (bits w 11 8) then s
  else
    let s := (s.wf F.SL_CTL_REPLAY_LIMIT (max 1 (bits w 14 12)) 0 l).wf F.SL_CTL_RATE (min 2 (bits w 5 4)) 0 l
    let was := s.rb F.SL_CTL_EN 0 l
    let s := if 3 ≤ l && (!was || !bit w 0) then
        let t := if was && !bit w 0 then (s.linkDown l 0).releaseLanes l else s
        ((t.wf F.SL_CTL_LANE_BASE (bits w 11 8) 0 l).wf F.SL_CTL_WIDTH (bits w 7 6) 0 l).wf F.SL_CTL_EN (bits w 0 0) 0 l
      else s
    let s := if 3 ≤ l && !was && bit w 0 then s.bringUp l else s
    if bit w 15 then
      let st := s.rf F.SL_STAT_STATE 0 l
      if st = 2 then (s.setSl l { s.sl l with good := s.goodLanes l, peerGood := 0 }).wf F.SL_CTL_RETRAIN 1 0 l |>.slRetrain l
      else if (st = 0 || st = 4) && s.rb F.SL_CTL_EN 0 l then s.bringUp l
      else s
    else s

/-- A tagged write of SL_CTL (R75). -/
def slCtlOut (l : Nat) (w : TWord) (s : State) : State :=
  if w.tag.toNat < 2 then s.writeSlCtl l w.data.toNat
  else s.regRefuse 0 (w.tag.toNat - 2) true (0x0F040000 + l * 0x20)

/-- A role link is brought up where its role wants it (R17, R605, Table 1-1). -/
def State.roleBringUp (s : State) (l : Nat) : State :=
  if s.roleWants l then
    let st := s.rf F.SL_STAT_STATE 0 l
    let s := s.wf F.SL_CTL_EN 1 0 l
    if st = 0 || st = 4 then s.bringUp l else s
  else s

/-- A role link that claims its lanes in the same owner cycle as another claimant is served before it (R642). -/
def State.roleFirst (s : State) (role : Option Nat) : State :=
  match role with
  | some l => if l ≤ 2 then s.roleBringUp l else s
  | none => s

/-- SAETTE_LINK_ENABLE (R604, R605, R612, R642, R664, R665, R673): a write of SL_CTL of a general link, `w.role` naming a role link that
claims its lanes in the same owner cycle, or the bring-up of a role link by its role. -/
def execSaetteLinkEnable (l : Nat) (w : OwnerWrite) (s : State) : Out :=
  let s := s.roleFirst w.role
  .next (if l ≤ 2 then s.roleBringUp l else slCtlOut l w.word s)

/-- MAC_ENABLE (R604, R605, R608, R612, R621, R642), `w.role` naming a role link that claims its lanes in the same owner cycle. -/
def execMacEnable (m : Nat) (w : OwnerWrite) (hwClear : Bool) (s : State) : Out :=
  .next (macCtlOut m w.word hwClear (s.roleFirst w.role))

/-- LINK_BRINGUP_RETRY (R605, R712): an enabled link that is lost, or whose claim was refused, tries again. -/
def execLinkBringupRetry (l : Nat) (s : State) : Out :=
  let st := s.rf F.SL_STAT_STATE 0 l
  .next (if s.rb F.SL_CTL_EN 0 l && (st = 0 || st = 4) then s.bringUp l else s)

/-- SL_RETRAIN_WRITE (R711, R717). -/
def execSlRetrainWrite (l : Nat) (w : TWord) (s : State) : Out := .next (slCtlOut l w s)

/-- Lane `i` of an up or retraining link is lost: the link retrains narrower, or with no good lane left is lost (R711, R712). -/
def State.laneLost (s : State) (l i : Nat) : State :=
  let x := s.sl l
  let st := s.rf F.SL_STAT_STATE 0 l
  if st ≠ 2 && st ≠ 3 || !bit x.good i then s
  else
    let good := x.good - 2 ^ i
    let s := s.setSl l { x with good := good, peerGood := 0 }
    if good = 0 then s.linkLost l else (s.raise .saetteLinkDegraded 0 l).slRetrain l

/-- SAETTE_LANE_LOST (R711, R712): a lane has been without block lock for 1 µs. -/
def execSaetteLaneLost (l i : Nat) (s : State) : Out := .next (s.laneLost l i)

/-- The Saette links that owned a lane in `s0` which is retired now lose it (R649, R711). -/
def State.lanesGone (s s0 : State) : State :=
  (List.range 8).foldl (fun (s : State) l => (s0.linkLanes l).zipIdx.foldl (fun (s : State) n =>
    if s0.ownsLane l n.1 && !s0.rb F.LANE_STAT_RETIRED 0 n.1 && s.rb F.LANE_STAT_RETIRED 0 n.1 then s.laneLost l n.2 else s) s) s

/-- LANE_PLL_UNLOCK (R648, R649, R711). -/
def execLanePllUnlock (n : Nat) (relocked : Bool) (s : State) : Out := .next ((s.pllLoss n relocked).lanesGone s)

/-- LANE_REFCLK_LOST (R648, R711): REFCLK[r] is absent; every lane on it takes a PLL loss that does not relock. -/
def execLaneRefclkLost (r : Nat) (s : State) : Out :=
  .next (((List.range s.laneCount).foldl (fun s n =>
    if s.rf F.LANE_CTL_REF_SEL 0 n = r && s.rf F.LANE_STAT_PSTATE 0 n ≠ 2 then (s.raise .laneRefclkLost 0 n).pllLoss n false else s) s).lanesGone s)

/-- The widest aligned group of good lanes at both ends, of width code at most `w`, the lowest such (R711). -/
def laneGroup (good : Nat) (w : Nat) : Option (Nat × Nat) :=
  (List.range (w + 1)).findSome? fun k =>
    let v := w - k
    ((List.range (2 ^ (w - v))).find? fun g => bits good (2 ^ v * g + 2 ^ v - 1) (2 ^ v * g) == 2 ^ 2 ^ v - 1).map fun g => (v, g)

/-- RETRAIN (R711, R717): a RETRAIN cell tells which lanes are good at the peer. An up link takes it as the start of a
retraining; the two ends take the widest group good at both, at most the present width, or the full width where software
asked for it. Sending resumes under R676; with no group the link is lost. -/
def execRetrain (l cell peerGood : Nat) (s : State) : Out :=
  let st := s.rf F.SL_STAT_STATE 0 l
  .next (if (st ≠ 2 && st ≠ 3) || !cellGood cell || cellKind cell ≠ .linkCtl || cellType cell ≠ 2 then s
    else
      let s := (if st = 2 then s.slRetrain l else s).linkCtlFields l cell
      let x := s.sl l
      let full := s.rb F.SL_CTL_RETRAIN 0 l || s.linkWidth l = s.rf F.SL_STAT_WIDTH_NOW 0 l
      let w := if full then s.linkWidth l else s.rf F.SL_STAT_WIDTH_NOW 0 l
      match laneGroup (x.good &&& peerGood) w with
      | none => s.linkLost l
      | some (v, g) =>
        let s := s.setSl l { x with peerGood := peerGood, sent := 0, naks := 0 }
        let s := (s.wf F.SL_STAT_WIDTH_NOW v 0 l).wf F.SL_STAT_LANES ((2 ^ 2 ^ v - 1) * 2 ^ (2 ^ v * g)) 0 l
        (s.wf F.SL_STAT_STATE 2 0 l).wf F.SL_CTL_RETRAIN 0 0 l)

end Sys2Proof.Machine
end

