-- ==== Sys2Proof/Machine/Engines.lean ====
section
/-!
DEFINITION. Stream engines, landing buffers and coder instances (chapter 16).
-/
namespace Sys2Proof.Machine

/-- A context with nothing under way (R932). -/
def Ctx.init : Ctx := ⟨[], 0, 0, none, [], [], 0, [], false, none⟩

/-- Context `x` of engine `e` of die `d`. -/
def State.ctx (s : State) (d e x : Nat) : Ctx := mget s.ctxs (key3 d e x) Ctx.init

/-- The state with a context replaced. -/
def State.setCtx (s : State) (d e x : Nat) (c : Ctx) : State := { s with ctxs := mset s.ctxs (key3 d e x) c Ctx.init }

/-- The master number of an engine (Table 9-2). -/
def engMaster (d e : Nat) : Nat := if d = 0 then 4 + e else 20 + e

/-- Engines of a die (R900). -/
def engCount (d : Nat) : Nat := if d = 0 then 4 else 8

/-- The engine of a master, if it is one. -/
def masterEng (d m : Nat) : Option Nat :=
  if d = 0 then (if 4 ≤ m ∧ m < 8 then some (m - 4) else none) else if 20 ≤ m ∧ m < 28 then some (m - 20) else none

/-- The instance of a context, if it belongs to one (R897, R899). -/
def State.ctxInst (s : State) (d e x : Nat) : Option Nat :=
  if s.rb F.CTX_CTL_IN_INST d e x then some (s.rf F.CTX_CTL_INST d e x) else none

/-- The epoch copy that a context compares with (R914, R915). -/
def State.ctxEpoch (s : State) (d e x : Nat) : Nat :=
  match s.ctxInst d e x with | some i => s.rf F.ENG_EPOCH_EPOCH d i | none => 0

/-- CONS of a context. -/
def State.cons (s : State) (d e x : Nat) : Nat := s.rf F.CTX_STAT_CONS d e x

/-! ## Descriptors -/

/-- Word `k` of a context's descriptor as a number. -/
def Ctx.w (c : Ctx) (k : Nat) : Nat := (c.desc.getD k noWord).data.toNat
/-- SRC (Table 16-1). -/
def Ctx.src (c : Ctx) : Nat := c.w 0
/-- DST. -/
def Ctx.dst (c : Ctx) : Nat := c.w 1
/-- NOTIFY. -/
def Ctx.notify (c : Ctx) : Bool := bit (c.w 2) 39
/-- STOP_EOP. -/
def Ctx.stopEop (c : Ctx) : Bool := bit (c.w 2) 38
/-- SRC_WIN. -/
def Ctx.srcWin (c : Ctx) : Bool := bit (c.w 2) 37
/-- DST_WIN. -/
def Ctx.dstWin (c : Ctx) : Bool := bit (c.w 2) 36
/-- Words to move: LENGTH, or up to the end that STOP_EOP has met. -/
def Ctx.need (c : Ctx) : Nat := c.total.getD (if c.w 2 % 2 ^ 24 = 0 then 2 ^ 24 else c.w 2 % 2 ^ 24)

/-- Words of a transaction at position `p` of the descriptor: up to the next aligned 64-word boundary of a source and of a
destination that are not windows (R903). -/
def Ctx.chunk (c : Ctx) (p : Nat) : Nat :=
  min (if c.srcWin then 64 else 64 - (c.src + p) % 64) (if c.dstWin then 64 else 64 - (c.dst + p) % 64)

/-- The address of position `p`: a window is addressed at its first word (R903). -/
def posAddr (win : Bool) (base p : Nat) : Nat := if win then base / 64 * 64 else (base + p) % 2 ^ 48

/-- Source reads under way. -/
def Ctx.reading (c : Ctx) : Bool := c.reads.any fun r => r.kind == 1

/-- Staged words from position `p` on, without a gap, at most `n`. -/
def stagedRun (st : List (Nat × TWord × Option (Nat × Nat))) (p : Nat) : Nat → List (TWord × Option (Nat × Nat))
  | 0 => []
  | n + 1 => match st.find? fun w => w.1 == p with
    | none => []
    | some w => w.2 :: stagedRun st (p + 1) n

/-- The words that the next write would carry, if it may be formed: a whole part, or all that is left. -/
def Ctx.ready (c : Ctx) : List (TWord × Option (Nat × Nat)) :=
  let lim := min (c.chunk c.moved) (c.need - c.moved)
  let run := stagedRun c.staged c.moved lim
  if run.length = lim ∨ c.srcWin then run else []

/-! ## Landing buffers -/

/-- The landing buffer of a destination of this device, as die and number (Table 16-2). -/
def State.landOf (s : State) (a : Nat) : Option (Nat × Nat) :=
  let d := addrDie a
  let l := addrLocal a
  if addrDev a ≠ s.devNum then none
  else if d = 0 then
    if l < 0x20000 then some (0, 0)
    else if 0x100000000 ≤ l ∧ l < 0x300000000 then some (0, l / 0x100000000)
    else if 0x0F038000 ≤ l ∧ l < 0x0F038100 then some (0, 4 + (l - 0x0F038000) / 0x40)
    else if 0x0F048000 ≤ l ∧ l < 0x0F049000 then some (0, 64 + (l - 0x0F048000) / 0x40)
    else none
  else if d ≤ 4 ∧ s.hasDie d then
    if l < 0x80000 then some (d, l / 0x20000)
    else if 0x01000000 ≤ l ∧ l < 0x01080000 then some (d, 4 + (l - 0x01000000) / 0x8000)
    else none
  else none

/-- The claim window of a landing buffer, as a local address (Table 16-2). -/
def claimBase (d b : Nat) : Nat := (if d = 0 then 0x0F082000 else 0x0F032000) + b * 0x40

/-- The landing buffer of an address in a claim window, if it is one (Table 16-2). -/
def claimOf (d l : Nat) : Option Nat :=
  let b := (l - claimBase d 0) / 0x40
  if l < claimBase d 0 then none
  else if d = 0 then (if b < 3 ∨ (4 ≤ b ∧ b < 8) ∨ (64 ≤ b ∧ b < 128) then some b else none)
  else if b < 20 then some b else none

/-- A landing buffer. -/
def State.land (s : State) (d b : Nat) : Landing := mget s.lands (key2 d b) ⟨[], 0⟩

/-- The state with a landing buffer replaced. -/
def State.setLand (s : State) (d b : Nat) (x : Landing) : State := { s with lands := mset s.lands (key2 d b) x ⟨[], 0⟩ }

/-- A claim arrives at its landing buffer (R910). -/
def State.claimArrive (s : State) (d b : Nat) (t : Txn) : State :=
  match s.arrive t with
  | none => s
  | some s => s.setLand d b { s.land d b with claims := (s.land d b).claims ++ [t] }

/-- CLAIM (R910): the oldest claim is granted when its words can be set aside in the 128 of the buffer. A claim of several
words of the window asks for each of them. -/
def execClaim (d b : Nat) (s : State) : Out :=
  let x := s.land d b
  .next (match x.claims with
    | [] => s
    | t :: rest =>
      let ks := (List.range t.len).map fun j => addrLocal t.addr % 64 + j + 1
      let n := ks.foldl (· + ·) 0
      if x.used + n ≤ 128 then (s.setLand d b ⟨rest, x.used + n⟩).respond t 0 (ks.map dataWord) else s)

/-- Words handed back to a landing buffer (R492, R911). A return of more than are set aside is discarded whole (R86, R516); no
row of Table 18-2 belongs to a landing buffer, and ixgal-protocol-error, which R516 names, is raised for its die (log 159). -/
def State.landBack (s : State) (d b n : Nat) : State :=
  if n ≤ (s.land d b).used then s.setLand d b { s.land d b with used := (s.land d b).used - n }
  else s.raise .ixgalProtocolError d 0

/-- One word of a release, after the state `r.2`: its tag is checked as that of any word written to register space; `r.1` says
that a word was refused (R75, R911, R1114). -/
def releaseStep (d b l : Nat) (t : Txn) (r : Bool × State) (k : Nat) : Bool × State :=
  let w := t.words.getD k noWord
  if w.tag.toNat < 2 then (r.1, r.2.landBack d b w.data.toNat)
  else (true, r.2.regRefuse d (w.tag.toNat - 2) true (l + k))

/-- A release at its landing buffer, word by word; with any word refused it counts as a dropped write (R75, R501, R911, R1114). -/
def State.releaseAt (s : State) (d b : Nat) (t : Txn) : State :=
  match s.arrive t with
  | none => s
  | some s =>
    let r := (List.range t.len).foldl (releaseStep d b (addrLocal t.addr) t) (false, s)
    if r.1 then r.2.dropWrite d t .refused else r.2.creditBack t t.len

/-- RELEASE (R911). -/
def execRelease (d : Nat) (t : Txn) (s : State) : Out :=
  .next (match claimOf d (addrLocal t.addr) with
    | some b => if s.atDie d t && t.op == .write && s.hasDie d then s.releaseAt d b t else s
    | none => s)

/-- The credits of a write on their way back reach their landing buffer's count (R492, R501). -/
def State.streamCredit (s : State) : State :=
  match s.credits with
  | [] => s
  | (t, n) :: rest =>
    let s : State := { s with credits := rest }
    match s.landOf t.addr with | some l => s.landBack l.1 l.2 n | none => s

/-! ## Stops -/

/-- A grant handed back: a posted write to the claim window (R911). -/
def State.handBack (s : State) (d e n addr : Nat) : State :=
  if n = 0 then s else s.post d (engMaster d e) addr [dataWord n]

/-- The address of a context's claim window. -/
def State.claimAddr (s : State) (c : Ctx) : Nat :=
  match s.landOf c.dst with | some l => s.glob l.1 (claimBase l.1 l.2) | none => 0

/-- Reads whose answers nobody awaits any more. -/
def orphans (rs : List CtxRead) : List CtxRead := rs.map fun r => if r.kind < 4 then { r with kind := r.kind + 4 } else r

/-- What a context had under way is discarded and its unspent grant released; responses still to come are orphans (R917,
R930). -/
def State.ctxDiscard (s : State) (d e x : Nat) : State :=
  let c := s.ctx d e x
  let s := s.handBack d e c.grant (s.claimAddr c)
  let s := s.setCtx d e x { Ctx.init with reads := orphans c.reads }
  s.wf F.CTX_CTL_RUN 0 d e x

/-- The island of a block-memory window address of this device. -/
def State.bmIsland (s : State) (a : Nat) : List (Nat × Nat) :=
  if addrDev a = s.devNum ∧ 1 ≤ addrDie a ∧ addrDie a ≤ 4 ∧ 0x01000000 ≤ addrLocal a ∧ addrLocal a < 0x01080000 then
    [(addrDie a, (addrLocal a - 0x01000000) / 0x8000)] else []

/-- A context stops with a cause (R930, Table 16-7). -/
def State.ctxStop (s : State) (d e x cause : Nat) : State :=
  let c := s.ctx d e x
  let near := if c.desc = [] then [] else s.bmIsland c.src ++ s.bmIsland c.dst
  let s := (s.ctxDiscard d e x).wf F.CTX_STAT_CAUSE cause d e x
  s.raiseEv { faultEv .streamContextError d (16 * e + x) (s.rw .CTX_STAT d e x) with near := near }

/-! ## Moving words -/

/-- The descriptor ends: CONS advances (R901). -/
def State.descDone (s : State) (d e x : Nat) : State :=
  let c := s.ctx d e x
  (s.setCtx d e x { Ctx.init with reads := c.reads }).wf F.CTX_STAT_CONS ((s.cons d e x + 1) % 65536) d e x

/-- Last words of each aligned 64-word block of a destination (R913). -/
def blockEnds (dst n : Nat) : List Nat :=
  (List.range ((dst % 64 + n + 63) / 64)).map fun k => min (dst / 64 * 64 + 64 * k + 63) (dst + n - 1) % 2 ^ 48

/-- Every word has been written: the descriptor ends, or its read-backs begin (R913). -/
def State.checkMoved (s : State) (d e x : Nat) : State :=
  let c := s.ctx d e x
  if c.desc = [] || c.finishing || c.moved < c.need || c.reading then s
  else if !c.notify then s.descDone d e x
  else s.setCtx d e x { c with finishing := true, backs := if c.dstWin then [] else blockEnds c.dst c.moved }

/-- COMPLETION_WORD (R913, Table 16-3): posted, and the descriptor ends. -/
def State.completionWord (s : State) (d e x : Nat) : State :=
  let c := s.ctx d e x
  let w := bits (c.w 2) 47 40 * 2 ^ 40 + d * 2 ^ 37 + e * 2 ^ 34 + x * 2 ^ 30 + c.moved % 2 ^ 24
  (s.post d (engMaster d e) (c.w 3) [⟨BitVec.ofNat 48 w, tagEnd⟩]).descDone d e x

/-- A read of a context issued (R901, R916); `pos` is its position, or for a claim its address. -/
def State.ctxRead (s : State) (d e x kind pos addr len : Nat) : State :=
  match s.request .read d (engMaster d e) x addr len [] with
  | none => s
  | some (tag, t) =>
    let c := t.ctx d e x
    t.setCtx d e x { c with reads := c.reads ++ [⟨tag, kind, t.ctxEpoch d e x, pos, len⟩] }

/-- A write of a context issued: on the streams channel with its grant, or posted (R909, R911). -/
def State.ctxWrite (s : State) (d e x : Nat) : State :=
  let c := s.ctx d e x
  let run := c.ready
  let ws := run.map Prod.fst
  if c.dstWin && ws.any (fun w => 2 ≤ w.tag.toNat) then s.ctxStop d e x 4
  else
    let n := ws.length
    let land := s.landOf c.dst
    let t : Txn := ⟨.write, d, engMaster d e, 0, posAddr c.dstWin c.dst c.moved, n, 48, 0, ws,
      if land.isSome then .streams else .posted, x⟩
    let s : State := { s.inject t with
      landing := if land.isSome then (s.landing.filter fun l => s.inFlight.contains l.1) ++ [(t, run.map Prod.snd)] else s.landing }
    let s := s.setCtx d e x { c with
      moved := c.moved + n, grant := 0, staged := c.staged.filter fun w => c.moved + n ≤ w.1 }
    (s.incE F.CTX_WORDS_CNT_COUNT d e x n).checkMoved d e x

/-- What a context would issue in a turn. -/
inductive CtxAct where
  | fetch | write | claim | read | back | note
deriving DecidableEq, Repr

/-- What a ready context issues next (R901, R903, R905, R908, R911, R913); none where it is not ready. -/
def State.ctxAct (s : State) (d e x : Nat) : Option CtxAct :=
  let c := s.ctx d e x
  let tag := c.reads.length < 16 && (s.freeTag d (engMaster d e)).isSome
  if !s.rb F.CTX_CTL_RUN d e x then none
  else if c.desc = [] then
    if s.cons d e x ≠ s.rf F.CTX_PROD_PROD d e x ∧ !(c.reads.any fun r => r.kind == 0) ∧ tag then some .fetch else none
  else if c.ready ≠ [] ∧ ((s.landOf c.dst).isNone ∨ c.ready.length ≤ c.grant
      ∨ (c.dstWin ∧ (c.ready.any fun w => 2 ≤ w.1.tag.toNat))) then some .write
  else if c.ready ≠ [] ∧ c.grant = 0 ∧ !(c.reads.any fun r => r.kind == 2) ∧ tag then some .claim
  else if c.finishing then
    match c.backs with
    | _ :: _ => if tag then some .back else none
    | [] => if c.reads.any (fun r => r.kind == 3) then none else some .note
  else if !tag then none
  else if c.srcWin then
    if !c.reading ∧ c.staged = [] ∧ c.empty.isNone ∧ c.moved < c.need then some .read else none
  else if c.asked < c.need then some .read
  else none

/-- A context fetches descriptor CONS (R901); a misaligned base stops it (Table 16-7). -/
def State.descFetch (s : State) (d e x : Nat) : State :=
  let base := s.rw .CTX_DESC_BASE d e x
  if base % 4 ≠ 0 then s.ctxStop d e x 5
  else s.ctxRead d e x 0 0 ((base + 4 * (s.cons d e x % 2 ^ s.rf F.CTX_CTL_DESC_EXP d e x)) % 2 ^ 48) 4

/-- One transaction of a context. -/
def State.ctxIssue (s : State) (d e x : Nat) (a : CtxAct) : State :=
  let c := s.ctx d e x
  match a with
  | .fetch => s.descFetch d e x
  | .write => s.ctxWrite d e x
  | .claim =>
    let a := s.claimAddr c + (c.ready.length - 1)
    s.ctxRead d e x 2 (s.claimAddr c) a 1
  | .read =>
    if c.srcWin then s.ctxRead d e x 1 c.moved (posAddr true c.src 0) (min (c.chunk c.moved) (c.need - c.moved))
    else
      let n := min (c.chunk c.asked) (c.need - c.asked)
      let t := s.ctxRead d e x 1 c.asked (posAddr false c.src c.asked) n
      t.setCtx d e x { t.ctx d e x with asked := c.asked + n }
  | .back => match c.backs with
    | a :: rest =>
      let t := s.ctxRead d e x 3 0 a 1
      t.setCtx d e x { t.ctx d e x with backs := rest }
    | [] => s
  | .note => s.completionWord d e x

/-- DESCRIPTOR_FETCH (R901). -/
def execDescriptorFetch (d e x : Nat) (s : State) : Out :=
  .next (if s.ctxAct d e x = some .fetch then s.descFetch d e x else s)

/-! ## Turns -/

/-- An engine. -/
def State.engine (s : State) (d e : Nat) : Engine := mget s.engines (key2 d e) ⟨16, 0, []⟩

/-- The party of a context: its instance, or 16 (R907). -/
def State.ctxParty (s : State) (d e x : Nat) : Nat := (s.ctxInst d e x).getD 16

/-- Consecutive turns of a party (R907). -/
def State.partyTurns (s : State) (p : Nat) : Nat := if p < 16 then s.rf F.INST_CTL_WEIGHT 0 p else 1

/-- The party that takes the next turn, with the turns it has left after it (R907). -/
def State.nextParty (s : State) (d e : Nat) (ready : List Nat) : Option (Nat × Nat) :=
  let g := s.engine d e
  let has := fun p => ready.any fun x => s.ctxParty d e x == p
  if 0 < g.left && has g.party then some (g.party, g.left - 1)
  else ((List.range 17).map fun k => (g.party + 1 + k) % 17).find? has |>.map fun p => (p, s.partyTurns p - 1)

/-- ENGINE_TURN (R903 to R913): the next ready context of the next party issues one transaction. -/
def execEngineTurn (d e : Nat) (s : State) : Out :=
  let ready := (List.range 16).filter fun x => (s.ctxAct d e x).isSome
  .next (if engCount d ≤ e then s
    else match s.nextParty d e ready with
    | none => s
    | some (p, left) =>
      let g := s.engine d e
      let last := mget g.last p 15
      match ((List.range 16).map fun k => (last + 1 + k) % 16).find? fun x => ready.contains x && s.ctxParty d e x == p with
      | none => s
      | some x =>
        let s : State := { s with engines := mset s.engines (key2 d e) ⟨p, left, mset g.last p x 15⟩ ⟨16, 0, []⟩ }
        match s.ctxAct d e x with
        | some a => s.ctxIssue d e x a
        | none => s)

/-- WINDOW_REREAD (R905): no sooner than 64 engine cycles, 80 ns, after an empty read. -/
def execWindowReread (d e x : Nat) (s : State) : Out :=
  .next (match (s.ctx d e x).empty with
    | some t => if 80 ≤ s.ago t then s.setCtx d e x { s.ctx d e x with empty := none } else s
    | none => s)

/-! ## Responses -/

/-- A fetched descriptor (R902, R915, R930). -/
def State.descArrive (s : State) (d e x : Nat) (ws : List TWord) : State :=
  let w2 := (ws.getD 2 noWord).data.toNat
  if ws.any (fun w => 2 ≤ w.tag.toNat) || bits w2 35 24 != 0 then s.ctxStop d e x 1
  else if (s.ctxInst d e x).isSome && bits w2 47 40 != s.ctxEpoch d e x then s.ctxStop d e x 2
  else s.setCtx d e x { Ctx.init with desc := ws, reads := (s.ctx d e x).reads }

/-- Source words arrive (R902 to R905): empty window words are not counted, retracted ones are counted, and STOP_EOP ends the
descriptor at its first word tagged 0b01. -/
def State.srcArrive (s : State) (d e x pos : Nat) (ws : List TWord) (prov : List (Option (Nat × Nat))) : State :=
  let c := s.ctx d e x
  let tagged := (List.range ws.length).map fun k => (ws.getD k noWord, prov.getD k none)
  let kept := if c.srcWin then tagged.filter fun w => w.1.tag ≠ tagInvalid else tagged
  let eop := if c.stopEop then (kept.findIdx? fun w => w.1.tag = tagEnd) else none
  let kept := match eop with | some k => kept.take (k + 1) | none => kept
  let retr := if c.srcWin then (kept.filter fun w => w.1.tag = tagRetracted).length else 0
  let total := match eop with | some k => some (min c.need (pos + k + 1)) | none => c.total
  let placed := kept.mapIdx fun k w => (pos + k, w.1, w.2)
  let staged := c.staged ++ placed
  let staged := match total with | some n => staged.filter fun w => w.1 < n | none => staged
  let s := if retr = 0 then s else s.incE F.CTX_RETRACT_CNT_COUNT d e x retr
  let s := s.setCtx d e x { c with
    total := total, staged := staged
    empty := if c.srcWin && eop.isNone && tagged.any (fun w => w.1.tag = tagInvalid) then some s.now else c.empty }
  s.checkMoved d e x

/-- A response reaches an engine (R905, R913, R915, R916, R930): one whose epoch differs from the copy in force is dropped, an
orphaned claim's grant is released. -/
def State.engineResponse (s : State) (d e rtag status : Nat) (ws : List TWord) : State :=
  let m := engMaster d e
  let prov := ((s.rxProv.find? fun p => p.1 = (d, m, rtag)).map (·.2)).getD []
  let s : State := { s with
    rxProv := s.rxProv.filter fun p => p.1 ≠ (d, m, rtag)
    insts := s.insts.map fun i => (i.1, { i.2 with wait := i.2.wait.filter fun w => w ≠ (d, m, rtag) }) }
  match (List.range 16).find? fun x => (s.ctx d e x).reads.any fun r => r.tag == rtag with
  | none => s
  | some x =>
    match (s.ctx d e x).reads.find? fun r => r.tag == rtag with
    | none => s
    | some r =>
      let s := s.setCtx d e x { s.ctx d e x with reads := (s.ctx d e x).reads.filter fun q => q.tag != rtag }
      let data := (ws.getD 0 noWord).data.toNat
      let grant := if status = 0 then data else 0
      if (s.ctxInst d e x).isSome && r.epoch != s.ctxEpoch d e x then
        let s := if r.kind % 4 = 2 then s.handBack d e grant r.pos else s
        s.incE F.CTX_DROP_CNT_COUNT d e x ws.length
      else if 4 ≤ r.kind then (if r.kind = 6 then s.handBack d e grant r.pos else s)
      else if status ≠ 0 then s.ctxStop d e x 3
      else match r.kind with
        | 0 => s.descArrive d e x ws
        | 1 => s.srcArrive d e x r.pos ws prov
        | 2 => s.setCtx d e x { s.ctx d e x with grant := grant }
        | _ =>
          let c := s.ctx d e x
          if c.finishing && c.backs.isEmpty && !(c.reads.any fun q => q.kind == 3) then s.completionWord d e x else s

/-! ## Context registers -/

/-- A write of CTX_CTL (R925, R928, R933): DESC_EXP above 12 stores 12; `hwClear` where hardware clears RUN in the same cycle. -/
def State.writeCtxCtl (s : State) (d e x w : Nat) (hwClear : Bool) : State :=
  let s := if s.rb F.CTX_CTL_RUN d e x then s
    else ((s.wf F.CTX_CTL_IN_INST (bits w 46 46) d e x).wf F.CTX_CTL_INST (bits w 45 42) d e x).wf
      F.CTX_CTL_DESC_EXP (min 12 (bits w 3 0)) d e x
  s.wf F.CTX_CTL_RUN (if hwClear then 0 else bits w 47 47) d e x

/-- A write of CTX_DESC_BASE: stored only while RUN is 0 (R928). -/
def State.writeDescBase (s : State) (d e x w : Nat) : State :=
  if s.rb F.CTX_CTL_RUN d e x then s else s.ww .CTX_DESC_BASE (w % 2 ^ 48) d e x

/-- STATE of CTX_STAT (R933): 0 stopped, 1 running, 2 waiting for PROD. -/
def State.ctxState (s : State) (d e x : Nat) : Nat :=
  let c := s.ctx d e x
  if !s.rb F.CTX_CTL_RUN d e x then 0
  else if c.desc = [] ∧ !(c.reads.any fun r => r.kind == 0) ∧ s.cons d e x = s.rf F.CTX_PROD_PROD d e x then 2
  else 1

/-! ## Instances -/

/-- An instance with no reset under way. -/
def Inst.init : Inst := ⟨[], 0, false⟩

/-- Instance `i`. -/
def State.inst (s : State) (i : Nat) : Inst := mget s.insts i Inst.init

/-- The state with an instance replaced. -/
def State.setInst (s : State) (i : Nat) (x : Inst) : State := { s with insts := mset s.insts i x Inst.init }

/-- The islands of an instance that the part has (R934). -/
def State.instIslands (s : State) (i : Nat) : List (Nat × Nat) :=
  let m := s.rw .INST_ISL_LO 0 i + s.rf F.INST_ISL_HI_MEMBERS 0 i * 2 ^ 48
  ((List.range 64).filter fun k => bit m k && s.hasDie (k / 16 + 1)).map fun k => (k / 16 + 1, k % 16)

/-- The channels of an instance (R934). -/
def State.instChannels (s : State) (i : Nat) : List Nat :=
  let m := s.rw .INST_CH_LO 0 i + s.rf F.INST_CH_HI_MEMBERS 0 i * 2 ^ 48
  (List.range 64).filter fun k => bit m k

/-- The contexts of the package, as (die, engine, context). -/
def State.allCtxs (s : State) : List (Nat × Nat × Nat) :=
  (0 :: s.fabDies).flatMap fun d => (List.range (engCount d)).flatMap fun e => (List.range 16).map fun x => (d, e, x)

/-- The contexts of an instance. -/
def State.instCtxs (s : State) (i : Nat) : List (Nat × Nat × Nat) :=
  s.allCtxs.filter fun c => s.ctxInst c.1 c.2.1 c.2.2 == some i

/-- Steps 1 to 4 of an instance reset (R917, R918, R926): epoch, contexts, channels, islands; an island held for
reconfiguration is not reset again. -/
def State.instReset (s : State) (i : Nat) : State :=
  let cs := s.instCtxs i
  let wait := cs.flatMap fun c => (s.ctx c.1 c.2.1 c.2.2).reads.map fun r => (c.1, engMaster c.1 c.2.1, r.tag)
  let ep := (s.rf F.INST_STAT_EPOCH 0 i + 1) % 256
  let s := (s.wf F.INST_STAT_EPOCH ep 0 i).wf F.INST_STAT_BUSY 1 0 i
  let s := s.setInst i ⟨wait, s.now, false⟩
  let s : State := (0 :: s.fabDies).foldl (fun s d => s.wf F.ENG_EPOCH_EPOCH ep d i) s
  let s : State := cs.foldl (fun s c => s.ctxDiscard c.1 c.2.1 c.2.2) s
  let s : State := (s.instChannels i).foldl (fun s c => s.channelFlush c) s
  (s.instIslands i).foldl (fun s e => if (s.island e.1 e.2).held then s else s.beginReset e.1 e.2 98) s

/-- A write of INST_CTL (R917, R924, R928, R934): RESET during a reset is stored and followed. -/
def State.writeInstCtl (s : State) (i w : Nat) : State :=
  let busy := s.rb F.INST_STAT_BUSY 0 i
  let s := if busy then s else s.wf F.INST_CTL_WEIGHT (max 1 (bits w 3 0)) 0 i
  if !bit w 47 then s
  else
    let s := s.wf F.INST_CTL_RESET 1 0 i
    if busy then s.setInst i { s.inst i with again := true } else s.instReset i

/-- INSTANCE_RESET (R917, R924). -/
def execInstanceReset (i : Nat) (w : TWord) (s : State) : Out :=
  .next (if w.tag.toNat < 2 then s.writeInstCtl i w.data.toNat
    else s.regRefuse 0 (w.tag.toNat - 2) true (0x0F081000 + i * 0x10))

/-- INSTANCE_RESET_COMPLETE (R917, R924, R930, R931, R934). -/
def execInstanceResetComplete (i : Nat) (s : State) : Out :=
  let x := s.inst i
  .next (if !s.rb F.INST_STAT_BUSY 0 i || !x.wait.isEmpty then s
    else
      let s := (s.wf F.INST_STAT_BUSY 0 0 i).incE F.INST_RESET_CNT_COUNT 0 i
      let s := s.ww .INST_RESET_NS ((s.now + 2 ^ 48 - x.began) % 2 ^ 48 % 2 ^ 32) 0 i
      let s := s.raise .instanceReset 0 i
      if x.again then s.instReset i else s.wf F.INST_CTL_RESET 0 0 i)

/-- A write of a membership register: stored only while BUSY is 0; one that would place a member in a second instance is not
stored and sets ERR. Channel 0 belongs to no instance (R898, R928). -/
def State.writeMembers (s : State) (n : RegName) (i w : Nat) : State :=
  let m := match n with | .INST_CH_LO => w % 2 ^ 48 / 2 * 2 | .INST_ISL_LO => w % 2 ^ 48 | _ => w % 65536
  if s.rb F.INST_STAT_BUSY 0 i then s
  else if (List.range 16).any fun j => j != i && (s.rw n 0 j &&& m) != 0 then s.wf F.INST_STAT_ERR 1 0 i
  else s.ww n m 0 i

/-- The membership registers (Table 16-9): 0 INST_ISL_LO, 1 INST_ISL_HI, 2 INST_CH_LO, 3 INST_CH_HI. -/
def memberReg (k : Nat) : RegName := match k with | 0 => .INST_ISL_LO | 1 => .INST_ISL_HI | 2 => .INST_CH_LO | _ => .INST_CH_HI

/-- INST_MEMBERSHIP_WRITE (R898, R928). -/
def execInstMembershipWrite (k i : Nat) (w : TWord) (s : State) : Out :=
  .next (if w.tag.toNat < 2 then s.writeMembers (memberReg k) i w.data.toNat
    else s.regRefuse 0 (w.tag.toNat - 2) true (0x0F081002 + min k 3 + i * 0x10))

/-- The engine blocks after a reset: contexts stopped, instances empty, every epoch raised by one (R932). -/
def State.enginesReset (s : State) : State :=
  let s : State := s.allCtxs.foldl (fun s c => [RegName.CTX_CTL, .CTX_DESC_BASE, .CTX_PROD, .CTX_STAT, .CTX_WORDS_CNT,
    .CTX_RETRACT_CNT, .CTX_DROP_CNT].foldl (fun s n => s.setReg ⟨n, c.1, c.2.1, c.2.2⟩ (resetWord n c.2.1)) s) s
  let s : State := (List.range 16).foldl (fun s i =>
    let ep := (s.rf F.INST_STAT_EPOCH 0 i + 1) % 256
    let s : State := [RegName.INST_CTL, .INST_STAT, .INST_ISL_LO, .INST_ISL_HI, .INST_CH_LO, .INST_CH_HI, .INST_RESET_CNT,
      .INST_RESET_NS].foldl (fun s n => s.setReg ⟨n, 0, i, 0⟩ (resetWord n i)) s
    let s : State := (0 :: s.fabDies).foldl (fun s d => s.wf F.ENG_EPOCH_EPOCH ep d i) s
    s.wf F.INST_STAT_EPOCH ep 0 i) s
  { s with ctxs := [], engines := [], lands := [], landing := [], insts := [], credits := [], rxProv := [] }

end Sys2Proof.Machine
end

