-- ==== Sys2Proof/Machine/LineIo.lean ====
section
/-!
DEFINITION. Line I/O: the package time base, event records and rings, encoders, product detect, converter tiles and
general-purpose I/O (chapter 13).
-/
namespace Sys2Proof.Machine

/-! ## The time base -/

/-- A 48-bit word as a signed number. -/
def signed48 (v : Nat) : Int := if v % 2 ^ 48 < 2 ^ 47 then (v % 2 ^ 48 : Nat) else (v % 2 ^ 48 : Nat) - (2 ^ 48 : Int)

/-- A 32-bit field as a signed number. -/
def signed32 (v : Nat) : Int := if v % 2 ^ 32 < 2 ^ 31 then (v % 2 ^ 32 : Nat) else (v % 2 ^ 32 : Nat) - (2 ^ 32 : Int)

/-- The time base replaced. -/
def State.setTb (s : State) (x : TimeBase) : State := { s with lio := { s.lio with tb := x } }

/-- The sources that send event records: 0 to 15 PD, 16 to 19 encoders, 20 to 115 GPIO (R734). -/
def allSources : List Nat := List.range 116

/-- The signed remainder shown in TB_SLEW_LEFT. -/
def State.slewView (s : State) : State := s.ww .TB_SLEW_LEFT (s.lio.tb.slew % 2 ^ 48).toNat 0

/-- TB_TIME moves by a signed amount; a passage of either end moves TB_EPOCH, sets WRAP and raises time-base-wrap (R726,
R729, R768). -/
def State.timeMove (s : State) (d : Int) : State :=
  let t : Int := (s.now : Int) + d
  let s' := s.ww .TB_TIME (t % 2 ^ 48).toNat 0
  if t < 0 || 2 ^ 48 ≤ t then
    let e : Int := (s.rf F.TB_EPOCH_EPOCH 0 : Int) + (if t < 0 then -1 else 1)
    ((s'.wf F.TB_EPOCH_EPOCH (e % 2 ^ 24).toNat 0).wf F.TB_STAT_WRAP 1 0).raise .timeBaseWrap 0 0
  else s'

/-- One tick of the time clock (R727 to R730): by 1, by the accumulator's carry or borrow, by a ns of slew that is due, and
by a step that waits. A withheld ns is put off in a tick that borrows. An edge that crossed before a step and is not accepted yet keeps
its time (R758). -/
def State.tick (s : State) : State :=
  let x := s.lio.tb
  let a : Int := (x.acc : Int) + signed32 (s.rf F.TB_ADJ_ADJ 0)
  let carry : Int := if 2 ^ 40 ≤ a then 1 else if a < 0 then -1 else 0
  let c := x.count + 1
  let due := x.due || (x.slew ≠ 0 && decide (s.rf F.TB_CTL_SLEW_DIV 0 ≤ c))
  let count := if x.slew ≠ 0 && decide (s.rf F.TB_CTL_SLEW_DIV 0 ≤ c) then 0 else if x.slew = 0 then 0 else c
  let sl : Int := if due then (if 0 < x.slew then 1 else if x.slew < 0 && carry ≠ -1 then -1 else 0) else 0
  let s := s.setTb { x with
    acc := (a % 2 ^ 40).toNat, step := 0, slew := x.slew - sl, count := count
    due := due && sl == 0 && x.slew != 0
    marks := if x.step = 0 then x.marks else allSources }
  let s : State := if x.step = 0 then s
    else { s with lio := { s.lio with pins := s.lio.pins.map fun e => (e.1, { e.2 with old := decide (0 < e.2.run) }) } }
  let s := s.slewView
  let s := s.timeMove (1 + carry + sl)
  if x.step = 0 then s else (s.timeMove x.step).wf F.TB_STAT_STEPPED 1 0

/-- TIME_CLOCK_TICK (R727, R728). -/
def execTimeClockTick (s : State) : Out := .next s.tick

/-- SLEW_APPLY (R727, R730): a tick in which a ns of slew is due. -/
def execSlewApply (s : State) : Out :=
  let x := s.lio.tb
  .next (if x.slew ≠ 0 && (x.due || decide (s.rf F.TB_CTL_SLEW_DIV 0 ≤ x.count + 1)) then s.tick else s)

/-- TIME_BASE_WRAP (R726, R768): a tick in which TB_TIME wraps. -/
def execTimeBaseWrap (s : State) : Out := .next (if s.tick.now < s.now then s.tick else s)

/-- A write of TB_STEP: a value other than 0 is added at the next tick (R729). -/
def State.writeTbStep (s : State) (w : Nat) : State :=
  let d := signed48 w
  if d = 0 then s else s.setTb { s.lio.tb with step := s.lio.tb.step + d }

/-- TB_STEP (R729). -/
def execTbStep (w : TWord) (s : State) : Out :=
  .next (if w.tag.toNat < 2 then s.writeTbStep w.data.toNat else s.regRefuse 0 (w.tag.toNat - 2) true 0x0F020004)

/-- A write of TB_SLEW replaces the remaining slew (R730). -/
def State.writeTbSlew (s : State) (w : Nat) : State :=
  (s.setTb { s.lio.tb with slew := signed48 w, count := 0, due := false }).slewView

/-- TB_SLEW (R730). -/
def execTbSlew (w : TWord) (s : State) : Out :=
  .next (if w.tag.toNat < 2 then s.writeTbSlew w.data.toNat else s.regRefuse 0 (w.tag.toNat - 2) true 0x0F020005)

/-- A write of TB_CTL: PPS_WIDTH and SLEW_DIV with their bounds; the count towards the next ns of slew restarts, a withheld
ns already due stays due (R730, R773). -/
def State.writeTbCtl (s : State) (w : Nat) : State :=
  let s := (s.wf F.TB_CTL_PPS_WIDTH (min 999999 (bits w 31 16)) 0).wf F.TB_CTL_SLEW_DIV (max 100 (bits w 15 0)) 0
  s.setTb { s.lio.tb with count := 0 }

/-- SLEW_DIV_WRITE (R730, R773). -/
def execSlewDivWrite (w : TWord) (s : State) : Out :=
  .next (if w.tag.toNat < 2 then s.writeTbCtl w.data.toNat else s.regRefuse 0 (w.tag.toNat - 2) true 0x0F020002)

/-- TIME_REPLICA_CHECK (R731, R768): the replica of die `f` is found `off` ns away: more than 1 ns is corrected and counted,
more than 4 ns is an error. -/
def execTimeReplicaCheck (f off : Nat) (s : State) : Out :=
  .next (if off ≤ 1 then s
    else
      let s := s.incE F.TB_REPLICA_CNT_COUNT 0
      if off ≤ 4 then s else (s.wf F.TB_STAT_REPLICA_ERR 1 0).raise .timeReplicaError f 0)

/-- TIME_BASE_HOLDOVER (R768): REFCLK[0] is lost. -/
def execTimeBaseHoldover (s : State) : Out :=
  .next (if s.rb F.TB_STAT_HOLDOVER 0 then s else (s.wf F.TB_STAT_HOLDOVER 1 0).raise .timeBaseHoldover 0 0)

/-- HOLDOVER_EXIT (R769): REFCLK[0] has returned; no step. -/
def execHoldoverExit (s : State) : Out := .next (s.wf F.TB_STAT_HOLDOVER 0 0)

/-! ## Event rings -/

/-- An event ring. -/
def State.ring (s : State) (r : Nat) : Ring := mget s.lio.rings r ⟨[], 0⟩

/-- The state with an event ring replaced, BUSY following its queue (R764). -/
def State.setRing (s : State) (r : Nat) (x : Ring) : State :=
  ({ s with lio := { s.lio with rings := mset s.lio.rings r x ⟨[], 0⟩ } } : State).wf F.LEV_CTL_BUSY (b2n !x.queue.isEmpty) 0 r

/-- TB_EPOCH at package time `t`, at or shortly before the present: one less where TB_TIME has wrapped since (Table 13-1). -/
def State.epochAt (s : State) (t : Nat) : Nat :=
  let e := s.rf F.TB_EPOCH_EPOCH 0
  if s.now < t && (s.now + 2 ^ 48 - t) % 2 ^ 48 < 2 ^ 47 then (e + 2 ^ 24 - 1) % 2 ^ 24 else e

/-- The position and gap of an encoder now (Table 13-1). -/
def State.encAt (s : State) (n : Nat) : Nat × Nat := (s.rw .ENC_POS 0 n, s.rf F.ENC_GAP_GAP 0 n)

/-- An event becomes a record of a ring (R734, R736, R737, R764, R768): nothing while the ring is off; dropped and counted
where the queue of 16 is full; else queued with the next SEQ. `src` is the source's number of `allSources`, `encField` the
contents of bits [39:38], `at_` the position and gap of words 1 and 2 at the time of the event; `old` where the event came before the
last step of the time base, whose mark it then does not carry (R758). -/
def State.record (s : State) (r kind source encField : Nat) (at_ : Nat × Nat) (src : Nat) (edge : Bool) (time : Nat) (old : Bool) :
    State :=
  let x := s.ring r
  if !s.rb F.LEV_CTL_EN 0 r then s
  else if 16 ≤ x.queue.length then
    ((s.setRing r { x with lost := min 4095 (x.lost + 1) }).incE F.LEV_LOST_CNT_COUNT 0 r).raise .lineEventLost 0 r
  else
    let q := s.rf F.LEV_SEQ_SEQ 0 r
    let w3 := kind * 2 ^ 44 + source % 16 * 2 ^ 40 + encField % 4 * 2 ^ 38 + b2n edge * 2 ^ 37
      + b2n (!old && s.lio.tb.marks.contains src) * 2 ^ 36 + s.epochAt time % 256 * 2 ^ 28 + x.lost % 4096 * 2 ^ 16 + q
    let e : EvRec := ⟨time, at_.1, at_.2, w3, q⟩
    let s := if old then s else s.setTb { s.lio.tb with marks := s.lio.tb.marks.filter fun m => m ≠ src }
    (s.setRing r ⟨x.queue ++ [e], 0⟩).wf F.LEV_SEQ_SEQ ((q + 1) % 65536) 0 r

/-- EVENT_RECORD_ISSUE (R735, R736, R764): the oldest queued record is issued as one WRITE of 4 words. -/
def execEventRecordIssue (r : Nat) (s : State) : Out :=
  let x := s.ring r
  .next (match x.queue with
    | [] => s
    | e :: rest =>
      let a := s.rw .LEV_DEST 0 r + 4 * (e.seq % 2 ^ s.rf F.LEV_CTL_EXP 0 r)
      (s.setRing r { x with queue := rest }).post 0 10 (a % 2 ^ 48)
        [dataWord e.w0, dataWord e.w1, dataWord e.w2, ⟨BitVec.ofNat 48 e.w3, tagEnd⟩])

/-- A write of LEV_CTL (R764, R776): EVT_GPIO_HI and EXP only while the ring is off and idle; EN = 1 starts it with SEQ 0 and
LOST 0. -/
def State.writeLevCtl (s : State) (r w : Nat) : State :=
  let on := s.rb F.LEV_CTL_EN 0 r
  let s := if !on && (s.ring r).queue.isEmpty then
      (s.wf F.LEV_CTL_EVT_GPIO_HI (bits w 46 46) 0 r).wf F.LEV_CTL_EXP (max 2 (min 12 (bits w 3 0))) 0 r else s
  let s := s.wf F.LEV_CTL_EN (bits w 47 47) 0 r
  if bit w 47 && !on then (s.setRing r { s.ring r with lost := 0 }).wf F.LEV_SEQ_SEQ 0 0 r else s

/-- EVENT_RING_ENABLE (R764, R776). -/
def execEventRingEnable (r : Nat) (w : TWord) (s : State) : Out :=
  .next (if w.tag.toNat < 2 then s.writeLevCtl r w.data.toNat
    else s.regRefuse 0 (w.tag.toNat - 2) true (0x0F020301 + r * 8))

/-- A write of LEV_DEST: a multiple of 4, while the ring is off and idle (R735, R764). -/
def State.writeLevDest (s : State) (r w : Nat) : State :=
  if w % 4 = 0 && !s.rb F.LEV_CTL_EN 0 r && (s.ring r).queue.isEmpty then s.ww .LEV_DEST w 0 r else s

/-! ## Encoders -/

/-- The filter of an input pin (`LineIo.pins`). Out of reset the accepted level is 0, which no rule states (DESIGN CHOICE,
log 171). -/
def State.pin (s : State) (k : Nat) : PinFilter := mget s.lio.pins k ⟨false, 0, 0, [], false⟩

/-- The state with the filter of an input pin replaced. -/
def State.setPin (s : State) (k : Nat) (x : PinFilter) : State :=
  { s with lio := { s.lio with pins := mset s.lio.pins k x ⟨false, 0, 0, [], false⟩ } }

/-- One sample of a pin that stands at `level` (R739): the change is accepted once the pin has held its new level for FILT + 1
consecutive samples. `t` is when the pin last crossed the threshold and `seen` what the encoders showed then: they are kept from the
first sample of a change. -/
def PinFilter.sample (filt : Nat) (x : PinFilter) (level : Bool) (t : Nat) (seen : List (Nat × Nat)) : PinFilter :=
  if level = x.level then { x with run := 0 }
  else
    let x := if x.run = 0 then { x with cross := t, seen := seen, old := false } else x
    if filt ≤ x.run then { x with level := level, run := 0 } else { x with run := x.run + 1 }

/-- Whether a sample accepts a change of a pin's level. -/
def PinFilter.accepts (filt : Nat) (x : PinFilter) (level : Bool) : Bool := level != x.level && decide (filt ≤ x.run)

/-- The pin of input `k` (0 A, 1 B, 2 Z) of encoder `n`. -/
def encPin (n k : Nat) : Nat := 112 + 3 * n + k

/-- A sample of the three pins of an encoder is filtered (R738, R739). -/
def State.encFilter (s : State) (n : Nat) (a b z : Bool) : State :=
  let f := s.rf F.ENC_CTL_FILT 0 n
  ((s.setPin (encPin n 0) ((s.pin (encPin n 0)).sample f a s.now [])).setPin (encPin n 1) ((s.pin (encPin n 1)).sample f b s.now [])).setPin
    (encPin n 2) ((s.pin (encPin n 2)).sample f z s.now [])

/-- The count of a sample whose accepted levels go from `a`, `b` to `a'`, `b'` (Table 13-2, R738): A ahead of B counts up. -/
def encCount (mode : Nat) (a b a' b' : Bool) : Int :=
  let rise := !a && a'
  match mode with
  | 1 => if rise then (if b' then -1 else 1) else 0
  | 2 => if a ≠ a' then (if a' = b' then -1 else 1) else 0
  | 3 => if a ≠ a' then (if a' = b' then -1 else 1) else if b ≠ b' then (if a' = b' then 1 else -1) else 0
  | 4 => if rise then (if b' then 1 else -1) else 0
  | _ => 0

/-- ENC_POS moves by one; a wrap sets WRAP_UP or WRAP_DN (R740), and the edge time, gap and direction are taken (R741). -/
def State.encMove (s : State) (n : Nat) (d : Int) : State :=
  let p : Int := (s.rw .ENC_POS 0 n : Int) + d
  let s := if 2 ^ 48 ≤ p then s.wf F.ENC_STAT_WRAP_UP 1 0 n else if p < 0 then s.wf F.ENC_STAT_WRAP_DN 1 0 n else s
  let s := (s.ww .ENC_POS (p % 2 ^ 48).toNat 0 n).wf F.ENC_STAT_DIR (b2n (0 < d)) 0 n
  let gap := (s.now + 2 ^ 48 - s.rw .ENC_EDGE_TIME 0 n) % 2 ^ 48
  let seen := s.lio.counted.contains n
  let r := if seen then (min gap (2 ^ 32 - 1), s) else s.free
  let s := (r.2.wf F.ENC_GAP_GAP r.1 0 n).ww .ENC_EDGE_TIME s.now 0 n
  if seen then s else { s with lio := { s.lio with counted := s.lio.counted ++ [n] } }

/-- An armed compare meets its position: a compare record, and ENC_CMP steps or the compare disarms (R743). The record's
EDGE is not stated for a compare: a free value. -/
def State.encCompare (s : State) (n : Nat) : State :=
  if s.rb F.ENC_CTL_CMP_ARM 0 n && s.rw .ENC_POS 0 n = s.rw .ENC_CMP 0 n then
    let r := s.choice
    let s := r.2.record (s.rf F.ENC_CTL_RING 0 n) 3 n n (r.2.encAt n) (16 + n) r.1 s.now false
    let st := signed48 (s.rw .ENC_CMP_STEP 0 n)
    if st = 0 then s.wf F.ENC_CTL_CMP_ARM 0 0 n
    else s.ww .ENC_CMP (((s.rw .ENC_CMP 0 n : Int) + st) % 2 ^ 48).toNat 0 n
  else s

/-- A sample in which the accepted levels of A and B go from `a`, `b` to `a'`, `b'` (R738, R740, R741, R743, R744). `cmp` asks for
the compare (not where a Z clear falls in the same sample, R761). -/
def State.encSample (s : State) (n : Nat) (a b a' b' cmp : Bool) : State :=
  let mode := s.rf F.ENC_CTL_MODE 0 n
  if 1 ≤ mode && mode ≤ 3 && a ≠ a' && b ≠ b' then
    (s.incE F.ENC_ERR_CNT_COUNT 0 n).raise .encoderQuadratureError 0 n
  else
    let d := encCount mode a b a' b'
    let d := if s.rb F.ENC_CTL_INVERT 0 n then -d else d
    if d = 0 then s
    else
      let s := s.encMove n d
      if cmp then s.encCompare n else s

/-- Whether a sample of encoder `n` accepts a rising edge of Z (R742). -/
def State.encIndexed (s : State) (n : Nat) (z : Bool) : Bool :=
  z && (s.pin (encPin n 2)).accepts (s.rf F.ENC_CTL_FILT 0 n) z

/-- The accepted levels of A and B move as a filtered sample leaves them: from those of `s` to those of `t`. -/
def State.encStep (s t : State) (n : Nat) (cmp : Bool) : State :=
  t.encSample n (s.pin (encPin n 0)).level (s.pin (encPin n 1)).level (t.pin (encPin n 0)).level (t.pin (encPin n 1)).level cmp

/-- ENCODER_EDGE (R738 to R741, R743, R744): a sample of the encoder's pins that accepts no rising edge of Z. -/
def execEncoderEdge (n : Nat) (ab : Bool × Bool) (z : Bool) (s : State) : Out :=
  .next (if s.encIndexed n z then s else s.encStep (s.encFilter n ab.1 ab.2 z) n true)

/-- ENCODER_INDEX (R739, R742, R760, R761): a sample of the encoder's pins that accepts a rising edge of Z. ENC_INDEX_POS takes the
position before it; a clear leaves ENC_POS at 0. -/
def execEncoderIndex (n : Nat) (ab : Bool × Bool) (z : Bool) (s : State) : Out :=
  .next (if !s.encIndexed n z then s
    else
      let clear := s.rb F.ENC_CTL_Z_CLEAR 0 n
      let t := ((s.encFilter n ab.1 ab.2 z).ww .ENC_INDEX_POS (s.rw .ENC_POS 0 n) 0 n).wf F.ENC_STAT_Z_SEEN 1 0 n
      let t := s.encStep t n !clear
      let t := if clear then t.ww .ENC_POS 0 0 n else t
      if t.rb F.ENC_CTL_Z_REC 0 n then t.record (t.rf F.ENC_CTL_RING 0 n) 2 n n (t.encAt n) (16 + n) true t.now false else t)

/-- A write of ENC_CTL: MODE 5 to 7 is stored as 0 (R738, R774). -/
def State.writeEncCtl (s : State) (n w : Nat) (acts : List HwAct) : State :=
  let w := if 5 ≤ bits w 2 0 then w / 8 * 8 else w
  s.plainWrite ⟨.ENC_CTL, 0, n, 0⟩ w acts

/-! ## Product detect and GPIO inputs -/

/-- Whether EDGE chooses an edge (Table 13-11). -/
def edgeChosen (edge : Nat) (rising : Bool) : Bool := match edge with | 1 => rising | 2 => !rising | 3 => true | _ => false

/-- An edge of PD input `n`, whose filter is then `x`, is accepted (R745 to R747). In a holdoff it is ignored and
counted; a chosen edge is timestamped, recorded and starts a holdoff. -/
def State.pdEdge (s : State) (n : Nat) (rising : Bool) (x : PinFilter) : State :=
  if s.lio.hold.contains n then s.incE F.PD_HOLD_CNT_COUNT 0 n
  else if edgeChosen (s.rf F.PD_CTL_EDGE 0 n) rising then
    let s := (s.ww .PD_LAST x.cross 0 n).incE F.PD_CNT_COUNT 0 n
    let e := s.rf F.PD_CTL_ENC 0 n
    let s := s.record (s.rf F.PD_CTL_RING 0 n) 1 n e (x.seen.getD e (s.encAt e)) n rising (x.cross % 2 ^ 48) x.old
    if s.rf F.PD_CTL_HOLDOFF 0 n = 0 then s else { s with lio := { s.lio with hold := s.lio.hold ++ [n] } }
  else s

/-- PRODUCT_DETECT_EDGE (R739, R745 to R747): a sample of PD input `n`, which stands at `level` and last crossed the ball at package
time `t`. -/
def execProductDetectEdge (n : Nat) (level : Bool) (t : Nat) (s : State) : Out :=
  let x := s.pin n
  let f := s.rf F.PD_CTL_FILT 0 n
  let y := x.sample f level t ((List.range 4).map s.encAt)
  let s := s.setPin n y
  .next (if x.accepts f level then s.pdEdge n level y else s)

/-- PD_HOLDOFF_EXPIRY (R747). -/
def execPdHoldoffExpiry (n : Nat) (s : State) : Out :=
  .next { s with lio := { s.lio with hold := s.lio.hold.filter fun m => m ≠ n } }

/-- Bit `k` of a number set to a value. -/
def putBit (x k : Nat) (v : Bool) : Nat := if bit x k = v then x else if v then x + 2 ^ k else x - 2 ^ k

/-- An edge of pin `p`, whose filter is then `x`, is accepted (R754, R755, R776); a ring takes the records of the pins that
EVT_GPIO_HI names. -/
def State.gpioEdge (s : State) (p : Nat) (rising : Bool) (x : PinFilter) : State :=
  let s := s.ww .GPIO_IN (putBit (s.rw .GPIO_IN 0 (p / 48)) (p % 48) rising) 0 (p / 48)
  let r := s.rf F.GPIO_CFG_RING 0 p
  let hi := s.rb F.LEV_CTL_EVT_GPIO_HI 0 r
  if edgeChosen (s.rf F.GPIO_CFG_EDGE 0 p) rising && hi == decide (48 ≤ p) then
    s.record r 4 (p % 48) (p % 48 / 16) (x.seen.getD (s.rf F.GPIO_CFG_ENC 0 p) (s.encAt (s.rf F.GPIO_CFG_ENC 0 p))) (20 + p) rising (x.cross % 2 ^ 48) x.old
  else s

/-- GPIO_INPUT_EDGE (R739, R754, R755, R776): a sample of pin `p`, which stands at `level` and last crossed the ball at package time
`t`. -/
def execGpioInputEdge (p : Nat) (level : Bool) (t : Nat) (s : State) : Out :=
  let x := s.pin (16 + p)
  let f := s.rf F.GPIO_CFG_FILT 0 p
  let y := x.sample f level t ((List.range 4).map s.encAt)
  .next (if 96 ≤ p then s
    else
      let s := s.setPin (16 + p) y
      if x.accepts f level then s.gpioEdge p level y else s)

/-! ## GPIO outputs -/

/-- The pins of register pair `q` that are driven from their output register are noted with their levels (R754, R1006). -/
def State.noteGpio (s : State) (q : Nat) : State :=
  if s.rb F.DEV_ROLE_CTL_OUT_EN 0 then
    let oe := s.rw .GPIO_OE 0 q
    let o := s.rw .GPIO_OUT 0 q
    let lv := mget s.lio.gpioLevel q 0
    { s with lio := { s.lio with
      gpioDrove := mset s.lio.gpioDrove q (mget s.lio.gpioDrove q 0 ||| oe) 0
      gpioLevel := mset s.lio.gpioLevel q ((lv - (lv &&& oe)) ||| (o &&& oe)) 0 } }
  else s

/-- GPIO_OUT of a register pair replaced. -/
def State.setGpioOut (s : State) (q v : Nat) : State := (s.ww .GPIO_OUT v 0 q).noteGpio q

/-- GPIO_OE of a register pair replaced: pins no longer driven keep what they last drove. -/
def State.setGpioOe (s : State) (q v : Nat) : State := (s.ww .GPIO_OE v 0 q).noteGpio q

/-- GPIO_SCHEDULED_CHANGE (R755, R765): the armed output takes SCHED_VAL once its time is reached. -/
def execGpioScheduledChange (p : Nat) (s : State) : Out :=
  .next (if p < 96 && s.rf F.GPIO_CFG_FUNC 0 p = 2 && s.rb F.GPIO_CFG_SCHED_ARM 0 p
      && (s.now + 2 ^ 48 - s.rw .GPIO_SCHED_TIME 0 p) % 2 ^ 48 < 2 ^ 47 then
      (s.wf F.GPIO_CFG_SCHED_ARM 0 0 p).setGpioOut (p / 48) (putBit (s.rw .GPIO_OUT 0 (p / 48)) (p % 48) (s.rb F.GPIO_CFG_SCHED_VAL 0 p))
    else s)

/-- PPS_CHANGE (R755): a PPS output is 1 in the first PPS_WIDTH µs of each second. -/
def execPpsChange (p : Nat) (s : State) : Out :=
  .next (if p < 96 && s.rf F.GPIO_CFG_FUNC 0 p = 1 then
      s.setGpioOut (p / 48) (putBit (s.rw .GPIO_OUT 0 (p / 48)) (p % 48) (s.now % 1000000000 < s.rf F.TB_CTL_PPS_WIDTH 0 * 1000))
    else s)

/-- GPIO_SET_WRITE (R772). -/
def execGpioSetWrite (q : Nat) (w : TWord) (s : State) : Out :=
  .next (if w.tag.toNat < 2 then s.setGpioOut q (s.rw .GPIO_OUT 0 q ||| w.data.toNat)
    else s.regRefuse 0 (w.tag.toNat - 2) true (0x0F020506 + q))

/-- GPIO_CLR_WRITE (R772). -/
def execGpioClrWrite (q : Nat) (w : TWord) (s : State) : Out :=
  .next (if w.tag.toNat < 2 then s.setGpioOut q (s.rw .GPIO_OUT 0 q - (s.rw .GPIO_OUT 0 q &&& w.data.toNat))
    else s.regRefuse 0 (w.tag.toNat - 2) true (0x0F020508 + q))

/-- A write of GPIO_CFG: FUNC 0b11 is stored as 0b00 (R755, R775). -/
def State.writeGpioCfg (s : State) (p w : Nat) (acts : List HwAct) : State :=
  let w := if bits w 12 11 = 3 then w - 3 * 2 ^ 11 else w
  s.plainWrite ⟨.GPIO_CFG, 0, p, 0⟩ w acts

/-! ## Converter tiles -/

/-- A tile. -/
def State.tile (s : State) (n : Nat) : Tile := mget s.lio.tiles n ⟨[], [], 0, 0, false, none, none⟩

/-- The state with a tile replaced. -/
def State.setTile (s : State) (n : Nat) (x : Tile) : State :=
  { s with lio := { s.lio with tiles := mset s.lio.tiles n x ⟨[], [], 0, 0, false, none, none⟩ } }

/-- Whether a tile's timing allows EN (R750, R1085). -/
def State.ctOk (s : State) (n mode : Nat) : Bool :=
  let p := s.rf F.CT_PERIOD_NS 0 n
  let dac := s.rf F.CT_PHASE_DAC_NS 0 n
  let sm := s.rf F.CT_PHASE_SAMPLE_NS 0 n
  let k := s.rf F.CT_PHASE_ADC_COUNT 0 n
  decide (100 ≤ p) && (mode != 3 || (decide (100 ≤ dac) && decide (100 ≤ sm) && decide (dac + 200 + (k - 1) * sm + 300 ≤ p)))
    && bits (s.rf F.DIO_BANK_STAT_NOMINAL 0) 13 12 == 3

/-- A write of CT_CTL (R750, R763, R777, R1085): MODE only while EN is 0; a refused EN = 1 sets CFG_ERR. -/
def State.writeCtCtl (s : State) (n w : Nat) : State :=
  let on := s.rb F.CT_CTL_EN 0 n
  let s := if bit w 46 then s.wf F.CT_CTL_CFG_ERR 0 0 n else s
  let s := if on then s else s.wf F.CT_CTL_MODE (bits w 1 0) 0 n
  if !bit w 47 then
    (s.wf F.CT_CTL_EN 0 0 n).setTile n { s.tile n with lanes := [], phase := 0, begun := 0, busy := false, code := none }
  else if on then s
  else if s.ctOk n (s.rf F.CT_CTL_MODE 0 n) then
    (s.wf F.CT_CTL_EN 1 0 n).setTile n { s.tile n with lanes := [], phase := 0, begun := 0, busy := false, code := none }
  else s.wf F.CT_CTL_CFG_ERR 1 0 n

/-- CONVERTER_ENABLE (R749, R750, R1085). -/
def execConverterEnable (n : Nat) (w : TWord) (s : State) : Out :=
  .next (if w.tag.toNat < 2 then s.writeCtCtl n w.data.toNat
    else s.regRefuse 0 (w.tag.toNat - 2) true (0x0F020400 + n * 0x10))

/-- A write of a tile's schedule or ring registers: not stored while EN is 1 (R763); EXP of CT_RING_CTL is at least 4. -/
def State.writeCtSched (s : State) (nm : RegName) (n w : Nat) (acts : List HwAct) : State :=
  if s.rb F.CT_CTL_EN 0 n then s
  else s.plainWrite ⟨nm, 0, n, 0⟩ (if nm = .CT_RING_CTL then max 4 (bits w 3 0) else w) acts

/-- Whether a tile drives its ball as a DAC: in DAC mode from the first tick on, in turnaround mode in the DAC phase of a period
(Tables 13-3, 13-4). Before its first tick the output has taken no code and the ball is high-impedance (DESIGN CHOICE, log 172). -/
def State.dacOn (s : State) (n : Nat) : Bool :=
  let x := s.tile n
  s.rb F.CT_CTL_EN 0 n && x.code.isSome
    && (s.rf F.CT_CTL_MODE 0 n == 2 || s.rf F.CT_CTL_MODE 0 n == 3 && x.phase == 1)

/-- A tile that drives its code at the ball notes it for safe-state code 0b11 (R1006). -/
def State.noteTile (s : State) (n : Nat) : State :=
  if s.rb F.DEV_ROLE_CTL_OUT_EN 0 && s.dacOn n then s.setTile n { s.tile n with drove := (s.tile n).code } else s

/-- The output of a tile takes CT_DAC_VAL at a tick; while OUT_EN is 0 it is stored only (R749, R766). -/
def State.dacDrive (s : State) (n : Nat) (x : Tile) : State :=
  (s.setTile n { x with code := some (s.rf F.CT_DAC_VAL_VAL 0 n) }).noteTile n

/-- CONVERTER_TICK (R749, R762, R766): tick S_k of a tile. -/
def execConverterTick (n : Nat) (s : State) : Out :=
  let x := s.tile n
  .next (if !s.rb F.CT_CTL_EN 0 n then s
    else match s.rf F.CT_CTL_MODE 0 n with
      | 1 => s.setTile n { x with busy := true }
      | 2 => s.dacDrive n x
      | 3 => s.dacDrive n { x with phase := 1, begun := 0, lanes := [] }
      | _ => s)

/-- DAC_PHASE_END (R749): the ball is released to settle. -/
def execDacPhaseEnd (n : Nat) (s : State) : Out :=
  let x := s.tile n
  .next (if s.rb F.CT_CTL_EN 0 n && x.phase = 1 then s.setTile n { x with phase := 2 } else s)

/-- CONVERSION_START (R749): the next conversion of a turnaround period starts. -/
def execConversionStart (n : Nat) (s : State) : Out :=
  let x := s.tile n
  .next (if s.rb F.CT_CTL_EN 0 n && s.rf F.CT_CTL_MODE 0 n = 3 && x.phase = 2 && !x.busy && x.begun < s.rf F.CT_PHASE_ADC_COUNT 0 n then
      s.setTile n { x with busy := true, begun := x.begun + 1 }
    else s)

/-- Lanes as a word, the earliest in lane 0 (R751). -/
def laneWord (ls : List Nat) : Nat := ls.getD 0 0 + ls.getD 1 0 * 2 ^ 16 + ls.getD 2 0 * 2 ^ 32

/-- A full or last word of a tile: queued, or dropped and counted; CT_WSEQ advances (R752, R753). -/
def State.tileWord (s : State) (n : Nat) (tag : Tag) : State :=
  let x := s.tile n
  let q := s.rw .CT_WSEQ 0 n
  let w : TWord := ⟨BitVec.ofNat 48 (laneWord x.lanes), tag⟩
  let s := s.ww .CT_WSEQ (q + 1) 0 n
  if x.queue.length < 16 then s.setTile n { x with lanes := [], queue := x.queue ++ [(q, w)] }
  else ((s.setTile n { x with lanes := [] }).incE F.CT_LOST_CNT_COUNT 0 n).raise .converterOverrun 0 n

/-- CONVERSION_COMPLETE (R751 to R753, R768): a conversion ends with `code`, clipped where `ovr`. -/
def execConversionComplete (n code : Nat) (ovr : Bool) (s : State) : Out :=
  let x := s.tile n
  .next (if !x.busy then s
    else
      let lane := 0x8000 + b2n ovr * 0x4000 + code % 0x4000
      let s := (s.wf F.CT_LAST_LANE lane 0 n).setTile n { x with busy := false, lanes := x.lanes ++ [lane] }
      let s := if ovr then (s.incE F.CT_OVR_CNT_COUNT 0 n).raise .converterOverRange 0 n else s
      let last := s.rf F.CT_CTL_MODE 0 n = 3 && x.begun = s.rf F.CT_PHASE_ADC_COUNT 0 n
      if last then s.tileWord n tagEnd
      else if 3 ≤ x.lanes.length + 1 then s.tileWord n tagData else s)

/-- CONVERTER_WORD_ISSUE (R752): the oldest queued word is written to the sample ring. -/
def execConverterWordIssue (n : Nat) (s : State) : Out :=
  let x := s.tile n
  .next (match x.queue with
    | [] => s
    | (q, w) :: rest =>
      (s.setTile n { x with queue := rest }).post 0 10
        ((s.rw .CT_RING_BASE 0 n + q % 2 ^ s.rf F.CT_RING_CTL_EXP 0 n) % 2 ^ 48) [w])

end Sys2Proof.Machine
end

