-- ==== Sys2Proof/Machine/CabenBase.lean ====
section
/-!
DEFINITION. CRC-32C (R343), and the replies of Caben (R791 to R793, R819, R823).
-/
namespace Sys2Proof.Machine

/-- One bit of CRC-32C, reflected (R343). -/
def crcBit (c : Nat) : Nat := if c % 2 = 1 then (c / 2) ^^^ 0x82F63B78 else c / 2

/-- One byte of CRC-32C. -/
def crcByte (c b : Nat) : Nat := (List.range 8).foldl (fun c _ => crcBit c) (c ^^^ (b % 256))

/-- CRC-32C of a byte string: reflected polynomial 0x1EDC_6F41, initial value and final XOR of all ones (R343). -/
def crc32c (bs : List Nat) : Nat := (bs.foldl crcByte 0xFFFFFFFF) ^^^ 0xFFFFFFFF

/-- The state with Caben's part replaced. -/
def State.setCab (s : State) (c : Cab) : State := { s with cab := c }

/-- The state with configuration and flash replaced. -/
def State.setCfg (s : State) (c : Cfg) : State := { s with cfg := c }

/-- Whether the boot state machine serves Caben (R825). -/
def State.bootSm (s : State) : Bool := s.rb F.CABEN_STAT_BOOT_SM 0

/-- A reply packet (R791, R792). -/
def cabPacket (op tag status detail : Nat) (data : List Nat) : List Nat :=
  let b := [0xCB, 0x01, op % 128 + 128, tag % 256] ++ leBytes 2 (2 + data.length) ++ [status, detail % 256] ++ data
  b ++ leBytes 4 (crc32c b)

/-- The key of the secure UDP transport (R785). -/
def State.udpKey (s : State) : Option Nat := s.skKey (s.rf F.CABEN_CTL_UDP_KEY_SLOT 0)

/-- A UDP reply: one packet, or its secure form (R784 to R786). At the last counter value nothing is sent and UDP_EXHAUSTED
is set (R835). -/
def State.udpSend (s : State) (peer : UdpPeer) (pkt : List Nat) : State :=
  if !s.rb F.CABEN_CTL_UDP_SECURE 0 then s.setCab { s.cab with udpOut := s.cab.udpOut ++ [(peer, pkt)] }
  else
    match s.udpKey with
    | none => s
    | some key =>
      let ctr := s.cab.txCtr
      let salt := s.rf F.CABEN_UDP_TX_SALT_SALT 0
      let head := beBytes 8 ctr
      let iv := gcmIv salt ctr
      let ct := gcmBytes (leBytes 32 key) iv pkt
      let tag := beBytes 16 (gcmTag (leBytes 32 key) iv head ct)
      let s := s.setCab { s.cab with udpOut := s.cab.udpOut ++ [(peer, head ++ ct ++ tag)], txCtr := ctr + 1 }
      if ctr + 1 = 2 ^ 64 - 1 then (s.wf F.CABEN_STAT_UDP_EXHAUSTED 1 0).raise .cabenUdpCounterExhausted 0 0 else s

/-- The oldest reply for Saette channel 0 is written to its transmit half as one frame, once it is open and has room (R678,
R790). -/
def State.saPump (s : State) : State :=
  match s.cab.saOut with
  | [] => s
  | p :: rest =>
    let ws := endTag (packBytes p)
    if s.rf F.SC_STAT_TX_STATE 0 0 = 2 && (s.sc 0).txLen + ws.length ≤ s.txSize 0 then
      (s.setCab { s.cab with saOut := rest }).txWords 0 0x0F048000 ws
    else s

/-- A reply packet leaves on its transport: host SPI queues it, the others send it (R782, R783, R790). -/
def State.cabSend (s : State) (tr : Nat) (peer : Option UdpPeer) (pkt : List Nat) : State :=
  match tr with
  | 0 => s.setCab { s.cab with replies := s.cab.replies ++ [pkt] }
  | 1 => match peer with
    | some p => if s.rb F.CABEN_CTL_UDP_EN 0 && !s.rb F.CABEN_STAT_UDP_EXHAUSTED 0 then s.udpSend p pkt else s
    | none => s
  | 2 => (s.setCab { s.cab with saOut := s.cab.saOut ++ [pkt] }).saPump
  | _ => s

/-- A reply is kept: the last 16 of each transport, the last one under the boot state machine (R823). -/
def State.cabKeep (s : State) (tr tag : Nat) (pkt : List Nat) : State :=
  let n := if s.bootSm then 1 else 16
  s.setCab { s.cab with kept := mset s.cab.kept tr (((tag, pkt) :: mget s.cab.kept tr []).take n) [] }

/-- A packet's reply is sent and kept, and BUSY replies are counted (R792, R819, R823, R839). -/
def State.cabAnswer (s : State) (tr tag op : Nat) (peer : Option UdpPeer) (status detail : Nat) (data : List Nat) : State :=
  let pkt := cabPacket op tag status detail data
  let s := (s.cabSend tr peer pkt).cabKeep tr tag pkt
  if status = 5 then s.incE F.CABEN_BUSY_CNT_COUNT 0 else s

/-- An outstanding packet ends with its reply, and its tag is free (R819); one that is to get no reply only ends (R829). -/
def State.cabFinish (s : State) (p : CabPkt) (status detail : Nat) (data : List Nat) : State :=
  let s := s.setCab { s.cab with pkts := s.cab.pkts.filter fun q => !(q.tr == p.tr && q.tag == p.tag) }
  if p.mute then s else s.cabAnswer p.tr p.tag p.op p.peer status detail data

/-- The outstanding packet of a transport's tag. -/
def State.cabPkt (s : State) (tr tag : Nat) : Option CabPkt := s.cab.pkts.find? fun p => p.tr == tr && p.tag == tag

/-- The state with an outstanding packet replaced. -/
def State.setPkt (s : State) (p : CabPkt) : State :=
  s.setCab { s.cab with pkts := s.cab.pkts.map fun q => if q.tr = p.tr ∧ q.tag = p.tag then p else q }

/-- A configuration load has ended: the LOAD packet that started it is answered (R806). -/
def State.cabLoadEnd (s : State) (cause : Nat) : State :=
  match s.cab.pkts.find? fun p => p.op == 0x18 && p.started with
  | none => s
  | some p => if cause = 0 then s.cabFinish p 0 0 [] else s.cabFinish p 0x0B cause []

/-- NV work has ended: the packet that awaits it is answered (R809, R813, R814). -/
def State.cabJobEnd (s : State) (owner : Option (Nat × Nat)) (status detail : Nat) : State :=
  match owner.bind fun o => s.cabPkt o.1 o.2 with
  | none => s
  | some p => s.cabFinish p status detail []

end Sys2Proof.Machine
end

