-- ==== Sys2Proof/Machine/Outputs.lean ====
section
/-!
DEFINITION. Line outputs and OUT_EN (R17, R18, R39, Table 1-1, R1006).
-/
namespace Sys2Proof.Machine

/-- Whether the condition of Table 1-1 for line outputs holds. -/
def State.lineOk (s : State) : Bool :=
  s.imageLoaded && match s.rf F.DEV_ROLE_ROLE 0 with
    | 2 => s.slOpen 0 || s.slOpen 1
    | 3 => s.rb F.DEV_ROLE_CTL_ACTIVE 0
    | _ => true

/-- Every line output notes the level that it drives from its output register. -/
def State.noteOutputs (s : State) : State :=
  let s := s.fabDies.foldl (fun s d => dioIslands.foldl (fun s i => s.noteDio d i) s) s
  (List.range 8).foldl (fun (s : State) n => s.noteTile n) ((s.noteGpio 0).noteGpio 1)

/-- OUT_EN replaced; what each output last drove is kept for safe-state code 0b11 (R18, R1006, R1009). -/
def State.setOutEn (s : State) (on : Bool) : State :=
  let s := if on then s else s.noteOutputs
  let s := s.wf F.DEV_ROLE_CTL_OUT_EN (b2n on) 0
  if on then s.noteOutputs else s

/-- The level that DIO cell `k` of a die drives at its ball, none where the ball is high-impedance (R211, R872, R1006, R1009). -/
def State.dioOut (s : State) (d k : Nat) : Option Bool :=
  let c := s.dioCell d k
  match s.scanDrive (48 * (d - 1) + k) with
  | some v => v
  | none =>
  if !c.oe then none
  else if s.dioDriven d k then some c.out
  else if !s.imageLoaded then none
  else match s.rw (if k < 24 then .DIO_SAFE_LO else .DIO_SAFE_HI) d / 2 ^ (2 * (k % 24)) % 4 with
    | 1 => some false
    | 2 => some true
    | 3 => c.driven
    | _ => none

/-- The level at a DIO ball: as driven by the cell, else as driven from outside (R230). -/
def State.dioBall (s : State) (d k : Nat) : Bool := (s.dioOut d k).getD (s.dioCell d k).ball

/-- The level at a GPIO ball that is an output of this device, none where it is high-impedance (R754, R872, R1006, R1009). -/
def State.gpioBall (s : State) (p : Nat) : Option Bool :=
  let q := p / 48
  let k := p % 48
  let od := s.rb F.GPIO_CFG_OPEN_DRAIN 0 p
  let drive := fun v => if od && v then none else some v
  match s.scanDrive (192 + p) with
  | some v => v
  | none =>
  if !bit (s.rw .GPIO_OE 0 q) k then none
  else if s.rb F.DEV_ROLE_CTL_OUT_EN 0 then drive (bit (s.rw .GPIO_OUT 0 q) k)
  else
    let c := s.rw .GPIO_SAFE 0 (p / 24) / 2 ^ (2 * (p % 24)) % 4
    if !s.imageLoaded then none
    else match c with
      | 1 => some false
      | 2 => drive true
      | 3 => if bit (mget s.lio.gpioDrove q 0) k then drive (bit (mget s.lio.gpioLevel q 0) k) else none
      | _ => none

/-- The code that a converter tile drives at its analogue ball, none where the ball is high-impedance (R749, R766, R1006, R1009):
while OUT_EN is 0 a tile that drives as a DAC holds its safe-state level, and its turnaround periods go on unchanged. -/
def State.tileBall (s : State) (n : Nat) : Option Nat :=
  let x := s.tile n
  if !s.dacOn n then none
  else if s.rb F.DEV_ROLE_CTL_OUT_EN 0 then x.code
  else if !s.imageLoaded then none
  else match s.rf F.CT_SAFE_CODE 0 n with
    | 1 => some 0
    | 2 => some (s.rf F.CT_SAFE_VAL 0 n)
    | 3 => x.drove
    | _ => none

end Sys2Proof.Machine
end

