-- ==== Sys2Proof/Machine/Joined.lean ====
section
/-!
DEFINITION. Devices joined over Saette: SYSTEM cells, the gateway, time across devices, and the bring-up of links
(chapter 17, R24, R672, R673).
-/
namespace Sys2Proof.Machine

/-! ## SYSTEM cells -/

/-- A SYSTEM cell body is queued on an up link (Table 17-1). -/
def State.sysPush (s : State) (l body : Nat) : State :=
  if s.linkUp l then s.setSl l { s.sl l with system := (s.sl l).system ++ [body] } else s

/-- A HEARTBEAT body is queued ahead of every other cell of SL[2] (R966). -/
def State.sysFront (s : State) (l body : Nat) : State :=
  if s.linkUp l then s.setSl l { s.sl l with system := body :: (s.sl l).system } else s

/-- A row of a SYSTEM cell: the cell is accepted in order and carries the row's SYS code, which its link may carry (R675,
R936, R938). -/
def systemRow (l cell code : Nat) (s : State) (act : Nat → State → State) : State :=
  let r := s.cellArrive l cell
  let body := cellBody cell
  let sys := bits body 199 196
  if !cellGood cell then r.2
  else if cellKind cell ≠ .system || (sys ≠ code && !(code = 1 && (sys = 0 || 9 < sys))) then s
  else if !r.1 then r.2
  else if sys ≠ code || (l = 2 && sys ≤ 3) || (l ≠ 2 && 6 ≤ sys) then r.2.slProtocol l
  else act body r.2

/-! ## Routes -/

/-- The JD_ROUTE code of a device number (R937). -/
def State.route (s : State) (dev : Nat) : Nat := bits (s.rw .JD_ROUTE 0 (dev / 12)) (4 * (dev % 12) + 3) (4 * (dev % 12))

/-- A write of JD_ROUTE: an entry is stored where its code is one of R937. -/
def State.writeRoute (s : State) (k w : Nat) : State :=
  let old := s.rw .JD_ROUTE 0 k
  let v := (List.range (if k = 42 then 8 else 12)).foldl (fun n j =>
    let c := bits w (4 * j + 3) (4 * j)
    let keep := c = 2 ∨ (8 ≤ c ∧ c ≠ 15)
    n + (if keep then bits old (4 * j + 3) (4 * j) else c) * 2 ^ (4 * j)) 0
  s.ww .JD_ROUTE v 0 k

/-- A write of JD_TIME_CTL (Table 17-7). -/
def State.writeJdTimeCtl (s : State) (w : Nat) (acts : List HwAct) : State :=
  s.plainWrite ⟨.JD_TIME_CTL, 0, 0, 0⟩ (w / 16 * 16 + min 10 (w % 16)) acts

/-- A write of JD_CH_FWD: not stored where forwarding and a half of the channel would both be enabled (R946). -/
def State.writeChFwd (s : State) (c w : Nat) (acts : List HwAct) : State :=
  if bit w 47 && (s.rb F.SC_CTL_TX_EN 0 c || s.rb F.SC_CTL_RX_EN 0 c) then s
  else
    let was := s.forwards c
    let s := s.plainWrite ⟨.JD_CH_FWD, 0, c, 0⟩ w acts
    if was && !bit w 47 then s.setFwd c Fwd.init else s

/-! ## The gateway -/

/-- The state with the gateway replaced. -/
def State.setGw (s : State) (g : Gw) : State := { s with gw := g }

/-- The command word of a transaction (Table 8-8). -/
def cmdOf (t : Txn) : Nat :=
  let lw := if t.op = .narrowWrite then (match t.laneW with | 24 => 1 | 12 => 2 | 6 => 3 | _ => 0) else 0
  t.op.ctorIdx * 2 ^ 44 + t.srcDie % 8 * 2 ^ 41 + t.master % 512 * 2 ^ 32 + (if isReq t then t.rtag % 64 else 0) * 2 ^ 26
    + t.len % 64 * 2 ^ 20 + lw * 2 ^ 18 + (if t.op = .narrowWrite then t.lane % 8 else 0) * 2 ^ 15

/-- The command word of a response to a transaction. -/
def respCmd (t : Txn) (status : Nat) : Nat :=
  (if t.op = .read then 8 else 9) * 2 ^ 44 + t.srcDie % 8 * 2 ^ 41 + t.master % 512 * 2 ^ 32 + t.rtag % 64 * 2 ^ 26
    + t.len % 64 * 2 ^ 20 + status % 8 * 2 ^ 12

/-- The words of a transaction in GW cells (R938). -/
def gwWords (t : Txn) : List TWord := dataWord (cmdOf t) :: dataWord t.addr :: t.words

/-- The words of a response in GW cells. -/
def gwRespWords (t : Txn) (status : Nat) (ws : List TWord) : List TWord := dataWord (respCmd t status) :: dataWord t.addr :: ws

/-- The transaction that a gateway item carries, as its requester issued it. -/
def GwItem.txn (x : GwItem) : Option Txn :=
  match parseTxn 0 0 0 x.words with
  | none => none
  | some (t, _) =>
    let c := (x.words.headD noWord).data.toNat
    some { t with srcDie := bits c 43 41, master := bits c 40 32 }

/-- Words three to a cell. -/
def threes (fuel : Nat) (ws : List TWord) : List (List TWord) :=
  match fuel with
  | 0 => []
  | n + 1 => if ws.isEmpty then [] else ws.take 3 :: threes n (ws.drop 3)

/-- The GW cells of an item (Table 17-1). -/
def GwItem.bodies (x : GwItem) : List Nat :=
  let cs := threes 24 x.words
  (List.range cs.length).map fun k =>
    let ws := cs.getD k []
    (if x.resp then 2 else 1) * 2 ^ 196 + x.gwTag % 256 * 2 ^ 188 + x.dst % 512 * 2 ^ 179 + x.src % 512 * 2 ^ 170 + x.hops % 32 * 2 ^ 165
      + x.cls % 2 * 2 ^ 164 + b2n (k == 0) * 2 ^ 163 + b2n (k + 1 == cs.length) * 2 ^ 162 + ws.length * 2 ^ 160 + wordsBody ws

/-- The kind of an item: 0 request, 1 posted, 2 response (Table 17-1). -/
def GwItem.kind (x : GwItem) : Nat :=
  if x.resp then 2
  else match bits (x.words.headD noWord).data.toNat 47 44 with | 1 => 1 | 2 => 1 | _ => 0

/-- Slots of a pool at the next hop of a link (R939). -/
def State.gwSlots (s : State) (l cls kind : Nat) : Nat := mget s.gw.slots (3 * cls + kind + 8 * l) 16

/-- The state with that number replaced. -/
def State.setSlots (s : State) (l cls kind n : Nat) : State :=
  s.setGw { s.gw with slots := mset s.gw.slots (3 * cls + kind + 8 * l) n 16 }

/-- The slot that a received item held is returned to the hop it came from (R939). -/
def State.gwFree (s : State) (x : GwItem) : State :=
  if x.link < 8 then s.sysPush x.link (3 * 2 ^ 196 + (3 * x.cls + x.kind) * 2 ^ 193 + 2 ^ 184) else s

/-- Whether the DATELINE bit of a link is set (R942). -/
def State.dateline (s : State) (l : Nat) : Bool := bit (s.rf F.JD_CTL_DATELINE 0) l

/-- An item leaves on a link, its class as R942 says; the slot is spent (R939). -/
def State.gwSend (s : State) (l : Nat) (x : GwItem) : State :=
  let cls := if s.dateline l then 1 else x.cls
  let s := s.setSlots l cls x.kind (s.gwSlots l cls x.kind - 1)
  ({ x with cls := cls } : GwItem).bodies.foldl (fun s b => s.sysPush l b) s

/-- Whether the next hop has a slot for an item. -/
def State.gwRoom (s : State) (l : Nat) (x : GwItem) : Bool := s.gwSlots l (if s.dateline l then 1 else x.cls) x.kind != 0

/-- Why a transaction cannot be delivered: 1 no route, 3 its link is not up (Table 17-2). -/
def State.undeliverable (s : State) (dev : Nat) : Option Nat :=
  let r := s.route dev
  if r = 15 then some 1 else if s.linkUp r then none else some 3

/-- jd-unreachable, counted (R1116, Table 17-6). -/
def State.unreachable (s : State) (dev : Nat) : State := (s.incE F.JD_UNREACH_CNT_COUNT 0).raise .jdUnreachable 0 (s.route dev)

/-- An item of another device that cannot be passed on: its request is answered by this gateway, a posted write is dropped
(R945, R1116). -/
def State.gwAnswer (s : State) (x : GwItem) (status : Nat) : State :=
  let s := s.gwFree x
  if x.resp then s
  else match x.txn with
    | none => s
    | some t =>
      if isReq t then
        let s := s.trnRecord 0 t .gateway
        let s := if status = 1 then (s.incE F.TRN_UNMAPPED_CNT_COUNT 0).trnRaise 0 t .transportUnmapped else s
        let y : GwItem := ⟨true, x.gwTag, x.dst, x.src, 0, 0, 8, gwRespWords t status (noWords t.len)⟩
        s.setGw { s.gw with queue := s.gw.queue ++ [y] }
      else s.dropWrite 0 t .gateway

/-- A response item reaches its requester (R941). -/
def State.gwDeliver (s : State) (x : GwItem) : State :=
  let s := s.gwFree x
  match s.gw.orig.find? fun o => o.tag == x.gwTag with
  | none => s
  | some o =>
    (s.setGw { s.gw with orig := s.gw.orig.filter fun o => o.tag != x.gwTag }).respond o.txn
      (bits (x.words.headD noWord).data.toNat 14 12) (x.words.drop 2)

/-- A transaction of another device is issued here as master 8; none where no read tag is free (R941). -/
def State.gwIssue (s : State) (x : GwItem) : Option State :=
  match x.txn with
  | none => some (s.gwFree x)
  | some t =>
    let u : Txn := { t with srcDie := 0, master := 8, sub := 0 }
    if isReq t then
      (s.freeTag 0 8).map fun tag =>
        let u := { u with rtag := tag }
        let s : State := { s.inject u with outst := s.outst ++ [⟨u, false, false⟩] }
        (s.setGw { s.gw with serve := s.gw.serve ++ [⟨tag, x.gwTag, x.src, t⟩] }).gwFree x
    else some ((s.inject u).gwFree x)

/-- The source of an item, whose transactions stay in order (R944). -/
def GwItem.source (x : GwItem) : Nat × Nat :=
  (x.src, if x.resp then 2 ^ 20 else bits (x.words.headD noWord).data.toNat 43 32)

/-- One item passed on, issued, delivered or answered; none where it waits (R939, R941, R942, R945). -/
def State.gwPass (s : State) (x : GwItem) : Option State :=
  let dest := if x.resp then x.src else x.dst
  if dest = s.devNum % 512 then (if x.resp then some (s.gwDeliver x) else s.gwIssue x)
  else match s.undeliverable dest with
    | some st => some ((s.unreachable dest).gwAnswer x st)
    | none =>
      let l := s.route dest
      if (x.cls = 1 && s.dateline l && x.link < 8) || (31 ≤ x.hops && x.link < 8) then
        some (((s.incE F.JD_HOP_DROP_CNT_COUNT 0).raise .jdRouteLoop 0 l).gwAnswer x 3)
      else if !s.gwRoom l x then none
      else if x.link < 8 then some (((s.incE F.JD_FWD_CNT_COUNT 0).gwSend l { x with hops := x.hops + 1 }).gwFree x)
      else some (s.gwSend l x)

/-- Every item that can move on does, in order; an item waits behind an earlier one of its source (R944). -/
def State.gwPump (s : State) : State :=
  let q := s.gw.queue
  let r := q.foldl (fun (r : List GwItem × State) x =>
    if r.1.any fun y => y.source == x.source then (r.1 ++ [x], r.2)
    else match r.2.gwPass x with
      | none => (r.1 ++ [x], r.2)
      | some s => (r.1, s)) ([], s.setGw { s.gw with queue := [] })
  r.2.setGw { r.2.gw with queue := r.1 ++ r.2.gw.queue }

/-- The lowest free GW_TAG (R940). -/
def State.freeGwTag (s : State) : Option Nat := (List.range 256).find? fun t => !s.gw.orig.any fun o => o.tag == t

/-- A waiting transaction of this device accepted by its gateway, or answered where it cannot be delivered; none where it
waits (R940, R945, R1116). -/
def State.gwTake (s : State) (t : Txn) : Option State :=
  let dev := addrDev t.addr
  let own := s.devNum % 512
  let done := fun (s : State) => s.setGw { s.gw with waiting := s.gw.waiting.erase t }
  if !s.rb F.JD_CTL_GW_EN 0 then none
  else match s.undeliverable dev with
    | some st =>
      let s := done (s.unreachable dev)
      some (if st = 1 then s.reject 0 t 1 .gateway else s.abortTxn 0 t .gateway)
    | none =>
      let l := s.route dev
      let x : GwItem := ⟨false, 0, dev, own, 0, 0, 8, gwWords t⟩
      if !s.gwRoom l x then none
      else if isReq t then
        s.freeGwTag.map fun g =>
          let s := (done s).gwSend l { x with gwTag := g }
          s.setGw { s.gw with orig := s.gw.orig ++ [⟨g, t, l⟩] }
      else some (((done s).gwSend l x).creditBack t t.words.length)

/-- GATEWAY_ACCEPT (R937, R940, R942, R944, R945): the first waiting transaction that can be accepted, behind no earlier one of
its master. -/
def execGatewayAccept (s : State) : Out :=
  let pick := (List.range s.gw.waiting.length).findSome? fun k =>
    match s.gw.waiting[k]? with
    | none => none
    | some t =>
      if (s.gw.waiting.take k).any fun u => u.srcDie == t.srcDie && u.master == t.master then none else s.gwTake t
  .next (pick.getD s)

/-- A GW cell joins its transaction, which moves on with its last cell (R938, R939, R941). A request or a write from a link that a
head end does not follow is no Caben traffic: it is discarded whole, and its slot returned (R25; the slot: DESIGN CHOICE, log 164). -/
def State.gwCell (s : State) (l body : Nat) (resp : Bool) : State :=
  let ws := bodyWords (bits body 161 160) body
  let cls := bits body 164 164
  let first := bit body 163
  let key := 8 * l + 2 * cls + b2n resp
  let have_ := if first then [] else mget s.gw.part key []
  let all := have_ ++ ws
  if bit body 162 then
    let x : GwItem := ⟨resp, bits body 195 188, bits body 187 179, bits body 178 170, bits body 169 165, cls, l, all⟩
    let s := s.setGw { s.gw with part := mset s.gw.part key [] [] }
    if !resp && s.unfollowed l then s.gwFree x else (s.setGw { s.gw with queue := s.gw.queue ++ [x] }).gwPump
  else s.setGw { s.gw with part := mset s.gw.part key all [] }

/-- GW_REQ (R938, R939, R941, R942, R944, R945, R1116). -/
def execGwReq (l cell : Nat) (s : State) : Out := .next (systemRow l cell 1 s fun b s => s.gwCell l b false)

/-- GW_RESP (R941, R942). -/
def execGwResp (l cell : Nat) (s : State) : Out := .next (systemRow l cell 2 s fun b s => s.gwCell l b true)

/-- GW_CREDIT (R939): slots return to a pool, never beyond its 16. -/
def execGwCredit (l cell : Nat) (s : State) : Out :=
  .next (systemRow l cell 3 s fun b s =>
    let pool := bits b 195 193
    if 6 ≤ pool then s.slProtocol l
    else
      let n := s.gwSlots l (pool / 3) (pool % 3) + bits b 191 184
      if 16 < n then s.slProtocol l else (s.setSlots l (pool / 3) (pool % 3) n).gwPump)

/-- A response to a transaction issued here for another device goes back as GW_RESP (R941). -/
def State.gwResponse (s : State) (rtag status : Nat) (ws : List TWord) : State :=
  match s.gw.serve.find? fun v => v.rtag == rtag with
  | none => s
  | some v =>
    let y : GwItem := ⟨true, v.gwTag, s.devNum % 512, v.srcDev, 0, 0, 8, gwRespWords v.txn status ws⟩
    (s.setGw { s.gw with serve := s.gw.serve.filter fun v => v.rtag != rtag, queue := s.gw.queue ++ [y] }).gwPump

/-! ## Time across devices -/

/-- The link whose peer the device follows for time (R949). -/
def State.timeLink (s : State) : Option Nat :=
  if s.rf F.DEV_ROLE_ROLE 0 = 2 then (if s.follow = 0 then none else some (s.follow - 1))
  else if s.rf F.DEV_ROLE_ROLE 0 = 3 && (s.rf F.DUP_STAT_STATE 0 = 3 || s.rf F.DUP_STAT_STATE 0 = 4) then some 2
  else if s.rb F.JD_TIME_CTL_FOLLOW 0 then some (s.rf F.JD_TIME_CTL_LINK 0)
  else none

/-- TIME_SYNC_EXCHANGE (R949): 2^SYNC_EXP ms after the last, the follower sends TIME_REQ. -/
def execTimeSyncExchange (s : State) : Out :=
  .next (match s.timeLink with
    | none => s
    | some l =>
      let period := 2 ^ s.rf F.JD_TIME_CTL_SYNC_EXP 0 * 1000000
      if !s.linkUp l || (s.now + 2 ^ 48 - s.dup.syncAt) % 2 ^ 48 < period then s
      else
        let q := s.dup.syncSeq
        let s : State := { s with dup := { s.dup with syncSeq := (q + 1) % 256, syncAt := s.now } }
        s.sysPush l (4 * 2 ^ 196 + q * 2 ^ 188))

/-- TIME_REQ (R949): answered with its arrival time; T3 is inserted as the answer leaves. -/
def execTimeReq (l cell : Nat) (s : State) : Out :=
  .next (systemRow l cell 4 s fun b s => s.sysPush l (5 * 2 ^ 196 + bits b 195 188 * 2 ^ 188 + s.now % 2 ^ 48 * 2 ^ 116))

/-- The signed difference of two package times. -/
def timeDiff (a b : Nat) : Int :=
  let d : Nat := (a + 2 ^ 48 - b % 2 ^ 48) % 2 ^ 48
  if d < 2 ^ 47 then (d : Int) else (d : Int) - (2 ^ 48 : Int)

/-- Half of a signed number, an odd one rounded up or down. -/
def halfOf (x : Int) (up : Bool) : Int := if up then (x + 1).fdiv 2 else x.fdiv 2

/-- TIME_RESP (R949 to R951): the exchange ends: offset, delay and lock. The rounding of a half is a free value. -/
def execTimeResp (l cell : Nat) (s : State) : Out :=
  .next (systemRow l cell 5 s fun b s =>
    match s.dup.syncs.find? fun e => e.1 == l with
    | none => s
    | some (_, q, t1) =>
      if s.timeLink ≠ some l || q ≠ bits b 195 188 then s
      else
        let a := timeDiff (bits b 163 116) t1
        let z := timeDiff s.now (bits b 115 68)
        let c := s.choice
        let d := c.2.choice
        let ofs := halfOf (a - z) c.1
        let dly := halfOf (a + z) d.1
        let s := (d.2.ww .JD_TIME_OFS (ofs % (2 ^ 48 : Int)).toNat 0).ww .JD_TIME_DLY (dly % (2 ^ 48 : Int)).toNat 0
        let s : State := { s with dup := { s.dup with
          syncs := mdel s.dup.syncs l
          inLock := if ofs.natAbs ≤ 20 then min 16 (s.dup.inLock + 1) else 0 } }
        if 100 < ofs.natAbs then
          ((s.wf F.JD_TIME_STAT_LOCKED 0 0).wf F.JD_TIME_STAT_LOST_STICKY 1 0).raise .timeSyncLost 0 l
        else if s.dup.inLock = 16 then s.wf F.JD_TIME_STAT_LOCKED 1 0 else s)

end Sys2Proof.Machine
end

