-- ==== Sys2Proof/Machine/Duplex.lean ====
section
/-!
DEFINITION. The bring-up of links by HELLO, LINK_CTL cells, and the duplex pair: election, racking epochs, heartbeats and
takeover (R24, R45, R672, R676, R935, R954 to R985).
-/
namespace Sys2Proof.Machine

/-- The state with the duplex part replaced. -/
def State.setDup (s : State) (d : Dup) : State := { s with dup := d }

/-! ## Becoming active and standby -/

/-- The device's time as R981 counts it: TB_EPOCH and TB_TIME together. -/
def State.longTime (s : State) : Nat := s.rf F.TB_EPOCH_EPOCH 0 * 2 ^ 48 + s.now % 2 ^ 48

/-- The latest multiple of `per` × 100,000 ns, counted from TB_TIME 0, that the time has reached (R958, R981). -/
def State.cutPoint (s : State) (per : Nat) : Nat :=
  let p := max 1 per * 100000
  s.rf F.TB_EPOCH_EPOCH 0 * 2 ^ 48 + s.now % 2 ^ 48 / p * p

/-- The member becomes active with STATE `st` (R954, R955, R968). -/
def State.becomeActive (s : State) (st : Nat) : State :=
  let s := (s.wf F.DUP_STAT_STATE st 0).wf F.DEV_ROLE_CTL_ACTIVE 1 0
  let per := s.rf F.DUP_CTL_EPOCH 0
  (s.wf F.DUP_STAT_COPYING 0 0).setDup { s.dup with
    hoOut := true, per := per, lastCut := s.cutPoint per, phase := 0, todo := [], rtag := none }

/-- ACTIVE is lost: OUT_EN is cleared and HANDOVER_OUT falls (R957, Table 1-7). -/
def State.loseActive (s : State) : State :=
  let s := (s.setOutEn false).wf F.DEV_ROLE_CTL_ACTIVE 0 0
  (s.wf F.DUP_STAT_COPYING 0 0).setDup { s.dup with hoOut := false, phase := 0, todo := [], rtag := none }

/-- The receiving half is discarded (R968 step 1). -/
def State.dropHalf (s : State) : State :=
  (s.wf F.DUP_STAT_COPYING 0 0).setDup { s.dup with
    rxCrc := 0xFFFFFFFF, rxWords := 0, rxLast := [], mark := none, backs := [], backBad := false }

/-- A member becomes standby, with the epoch it has committed, if any (R954). -/
def State.becomeStandby (s : State) : State :=
  (s.wf F.DUP_STAT_STATE (if s.dup.committed then 3 else 4) 0).setDup { s.dup with hbSeen := s.now }

/-- An active member yields: it becomes standby without a committed epoch (R976). -/
def State.yieldNow (s : State) : State :=
  let s := s.loseActive.dropHalf
  let s := (s.wf F.DUP_STAT_STATE 4 0).ww .DUP_EPOCH_NUM 0 0
  s.setDup { s.dup with committed := false, hbSeen := s.now }

/-- Both members report themselves active (R976). -/
def State.dualActive (s : State) : State :=
  if s.rf F.DEV_ROLE_ROLE 0 = 3 && s.rb F.DEV_ROLE_CTL_ACTIVE 0 then s.yieldNow.raise .dupDualActive 0 0 else s

/-- The election after the racking link comes up (R954): `peerPrimary` is the peer's PRIMARY. -/
def State.elect (s : State) (peerPrimary : Bool) : State :=
  let own := s.rb F.DUP_CTL_PRIMARY 0
  if s.rb F.SL_PEER_ACTIVE 0 2 then
    if s.rb F.DEV_ROLE_CTL_ACTIVE 0 then s.dualActive else s.becomeStandby
  else if s.rb F.DEV_ROLE_CTL_ACTIVE 0 then s.wf F.DUP_STAT_STATE 2 0
  else if (own && !peerPrimary) || (own == peerPrimary && decide (s.devNum % 512 < s.rf F.SL_PEER_DEVNUM 0 2)) then s.becomeActive 2
  else s.becomeStandby

/-! ## Bring-up and LINK_CTL -/

/-- Whether the roles of the two ends allow a role link to open (R24). -/
def State.rolesOk (s : State) (l : Nat) : Bool :=
  let own := s.rf F.DEV_ROLE_ROLE 0
  let peer := s.rf F.SL_PEER_ROLE 0 l
  match l with
  | 2 => own == 3 && peer == 3
  | 0 => if own = 2 then peer == 1 || peer == 3 else peer == 2
  | 1 => if own = 2 then peer == 1 || peer == 3 else peer == 2
  | _ => true

/-- A link comes up (R673): its width and lanes; the racking link's members elect, and a head end follows its only open link
(R25, R954). -/
def State.linkIsUp (s : State) (l : Nat) (peerPrimary : Bool) : State :=
  let w := s.linkWidth l
  let s := ((s.wf F.SL_STAT_STATE 2 0 l).wf F.SL_STAT_WIDTH_NOW w 0 l).wf F.SL_STAT_LANES (2 ^ 2 ^ w - 1) 0 l
  if l = 2 then (s.wf F.DUP_STAT_PEER_ALIVE 1 0).elect peerPrimary
  else if s.rf F.DEV_ROLE_ROLE 0 = 2 && l ≤ 1 && !s.slOpen (1 - l) then { s with follow := l + 1, switchTo := 0, headLost := none }
  else s

/-- HELLO (R24, R45, R665, R670, R672, R673, R935, R954): a good HELLO of a link that is coming up. Where `rx.lanes` gives the blocks that
its lanes have received, it comes out of them only with block lock and within the skew (R666, R670); with none given, and for every
other cell, cells come as the deskewed lanes give them, in link order (log 183). The third brings it up, where
its lanes are in P0, the two ends have set one rate and width, their roles go together and their numbers differ. Of ends that have
set different widths the spec says nothing (R665 speaks of rates): such a link stays coming up, and nothing is raised (DESIGN
CHOICE, log 163). -/
def execHello (l cell : Nat) (rx : HelloRx) (s : State) : Out :=
  .next (if s.rf F.SL_STAT_STATE 0 l ≠ 1 || cellKind cell ≠ .linkCtl || cellType cell ≠ 1 then s
    else if rx.lanes ≠ [] && !((deskew (s.linkWidth l) rx.lanes).getD []).contains cell then s
    else if !cellGood cell then (s.incE F.SL_CRC_CNT_COUNT 0 l).raise .saetteCrcError 0 l
    else
      let s := s.linkCtlFields l cell
      let s := (s.wf F.SL_PEER_DEVNUM (bits cell 87 79) 0 l).wf F.SL_PEER_PART_CODE (bits cell 95 88) 0 l
      let n := min 3 ((s.sl l).hello + 1)
      let s := s.setSl l { s.sl l with hello := n }
      if n < 3 || !(s.linkLanes l).all (fun k => s.rf F.LANE_STAT_PSTATE 0 k == 0) then s
      else if bits cell 75 74 ≠ s.rf F.SL_CTL_RATE 0 l || bits cell 73 72 ≠ s.linkWidth l then s
      else if !s.rolesOk l then (s.linkDown l 0).raise .roleMismatch 0 l
      else if bits cell 87 79 = s.devNum % 512 then (s.linkDown l 0).raise .jdDevnumConflict 0 l
      else s.linkIsUp l rx.primary)

/-- LINK_CTL (R672, R675, R676, R976): a plain LINK_CTL cell of a link that is up. -/
def execLinkCtl (l cell : Nat) (s : State) : Out :=
  let r := s.cellArrive l cell
  .next (if !cellGood cell then r.2
    else if cellKind cell ≠ .linkCtl || cellType cell ≠ 0 || !r.1 then s
    else
      let s := r.2.linkCtlFields l cell
      if l = 2 then
        let s := s.wf F.DUP_STAT_PEER_ALIVE 1 0
        if s.rb F.SL_PEER_ACTIVE 0 2 then s.dualActive else s
      else s)

/-! ## Cuts and the copy -/

/-- A notice word of the racking block is posted (Table 17-7). -/
def State.dupNotice (s : State) (kind epoch : Nat) : State :=
  s.post 0 9 (s.rw .DUP_NOTICE_ADDR 0) [dataWord (kind * 2 ^ 46 + epoch % 65536 * 2 ^ 30)]

/-- Every island receives an event: port 8 RACK_CUT, port 9 RACK_TAKEOVER (R959, R968). -/
def State.eventAll (s : State) (p : Nat) : State :=
  s.fabDies.foldl (fun (s : State) d => (List.range 16).foldl (fun (s : State) i =>
    let e := s.evt d i p
    s.setEvt d i p (({ e with front := if s.running d i then 0 else e.front } : Evt).bump)) s) s

/-- What a region of KIND 2 or 3 copies, captured at the cut (Table 17-3). -/
def State.captured (s : State) (kind src : Nat) : List TWord :=
  if kind = 2 then
    let c := src % 64
    [dataWord ((s.sc c).rxCtr % 2 ^ 48), dataWord ((s.sc c).txCtr % 2 ^ 48), dataWord (s.rw .SC_STAT 0 c), dataWord (s.rw .SC_KEY 0 c)]
  else
    let d := addrDie src
    let a := addrLocal src
    let off := a - if d = 0 then 0x0F080000 else 0x0F031000
    let e := off / 0x100
    let x := off % 0x100 / 0x10
    [dataWord (F.CTX_STAT_STATE.put (s.reg ⟨.CTX_STAT, d, e, x⟩) (s.ctxState d e x)).toNat, dataWord (s.rw .CTX_PROD d e x), dataWord (s.rw .CTX_DESC_BASE d e x), dataWord 0]

/-- The enabled regions as latched at a cut of epoch `e` (R960, R961, R978). -/
def State.latchRegions (s : State) (e : Nat) : List RackReg :=
  ((List.range 32).filter fun r => s.rb F.DUP_REG_CTL_EN 0 r).map fun r =>
    let kind := s.rf F.DUP_REG_CTL_KIND 0 r
    let len := s.rf F.DUP_REG_CTL_LENGTH 0 r
    let src := s.rw .DUP_REG_SRC 0 r
    ⟨r, kind, if kind ≤ 1 then len else 4, if kind = 1 then src + e % 2 * len else src,
      s.rw .DUP_REG_DST_A 0 r, s.rw .DUP_REG_DST_B 0 r, if kind ≤ 1 then [] else s.captured kind src⟩

/-- RACKING_CUT (R958, R959, R965, R978, R981): the time has reached a multiple later than the last cut. A member that is
not active takes the cut's event and notice, and latches its registers. -/
def execRackingCut (s : State) : Out :=
  let st := s.rf F.DUP_STAT_STATE 0
  let p := s.cutPoint s.dup.per
  let ahead := (p + 2 ^ 72 - s.dup.lastCut) % 2 ^ 72
  .next (if st < 2 || ahead = 0 || 2 ^ 71 ≤ ahead then s
    else
      let active := s.rb F.DEV_ROLE_CTL_ACTIVE 0
      if active && s.dup.phase ≠ 0 && s.linkUp 2 then
        ((s.setDup { s.dup with lastCut := p }).incE F.DUP_OVERRUN_CNT_COUNT 0).raise .rackingEpochOverrun 0 0
      else
        let e := (s.dup.epoch + 1) % 2 ^ 32
        let s := s.setDup { s.dup with
          epoch := e, lastCut := p, tCut := p, per := s.rf F.DUP_CTL_EPOCH 0, snap := s.rf F.DUP_CTL_SNAP_US 0
          regions := s.latchRegions e
          phase := if active && s.linkUp 2 then 1 else 0
          todo := [], rtag := none }
        let s := s.eventAll 8
        if s.rb F.DUP_CTL_CUT_NOTICE 0 then s.dupNotice 0 e else s)

/-- The bytes of a word in the racking CRC: 6 data bytes, then a tag byte (R963). -/
def rackBytes (w : TWord) : List Nat := wordBytes w ++ [w.tag.toNat]

/-- Words of a region leave in RACK_DATA cells (R961, R963). -/
def State.sendRack (s : State) (r : RackReg) (off : Nat) (ws : List TWord) : State :=
  let cs := threes 24 ws
  let s := (List.range cs.length).foldl (fun (s : State) k =>
    let c := cs.getD k []
    s.sysPush 2 (7 * 2 ^ 196 + r.num * 2 ^ 191 + (off + 3 * k) % 2 ^ 24 * 2 ^ 167 + c.length * 2 ^ 160 + wordsBody c)) s
  s.setDup { s.dup with
    txCrc := (ws.flatMap rackBytes).foldl crcByte s.dup.txCrc
    txWords := s.dup.txWords + ws.length }

/-- The copy goes on: captured words at once, other regions by reads of up to 63 words as master 9; after the last word the
commit marker (R960, R961, R964). -/
def State.rackStep (s : State) (fuel : Nat) : State :=
  match fuel with
  | 0 => s
  | n + 1 =>
    match s.dup.todo with
    | [] =>
      let m := 8 * 2 ^ 196 + s.dup.epoch * 2 ^ 164 + s.dup.tCut % 2 ^ 48 * 2 ^ 116
        + (s.dup.txCrc ^^^ 0xFFFFFFFF) * 2 ^ 84 + s.dup.txWords % 2 ^ 24 * 2 ^ 60
      ((s.sysPush 2 m).wf F.DUP_STAT_COPYING 0 0).setDup { s.dup with phase := 0 }
    | r :: rest =>
      if r.len ≤ s.dup.off then (s.setDup { s.dup with todo := rest, off := 0 }).rackStep n
      else if 2 ≤ r.kind then
        let s := s.sendRack r 0 r.words
        (s.setDup { s.dup with todo := rest, off := 0 }).rackStep n
      else
        match s.request .read 0 9 0 ((r.src + s.dup.off) % 2 ^ 48) (min 63 (r.len - s.dup.off)) [] with
        | none => s
        | some (tag, s) => s.setDup { s.dup with rtag := some tag }

/-- RACKING_COPY_START (R960): SNAP_US after the cut. -/
def execRackingCopyStart (s : State) : Out :=
  let d := s.dup
  .next (if d.phase = 1 && d.snap * 1000 ≤ (s.now + 2 ^ 48 - d.tCut % 2 ^ 48) % 2 ^ 48 then
      ((s.wf F.DUP_STAT_COPYING 1 0).setDup { d with
        phase := 2, todo := d.regions, off := 0, rtag := none, txCrc := 0xFFFFFFFF, txWords := 0 }).rackStep 34
    else if d.phase = 2 && d.rtag.isNone then s.rackStep 34
    else s)

/-- A response reaches the racking engine, master 9: words to copy, or a read-back (R961, R964). -/
def State.rackResponse (s : State) (rtag status : Nat) (ws : List TWord) : State :=
  let d := s.dup
  if d.phase = 2 && d.rtag = some rtag then
    match d.todo with
    | [] => s
    | r :: _ =>
      let s := s.sendRack r d.off ws
      (s.setDup { s.dup with rtag := none, off := d.off + ws.length }).rackStep 34
  else match d.backs.find? fun b => b.1 == rtag with
    | none => s
    | some b =>
      let ok := status = 0 && ws == [b.2]
      s.setDup { d with backs := d.backs.filter fun b => b.1 != rtag, backBad := d.backBad || !ok }

/-! ## The receiving half -/

/-- RACK_DATA (R963): the words are written into the receiving half, the destination that COMMIT_HALF does not name. -/
def execRackData (l cell : Nat) (s : State) : Out :=
  .next (systemRow l cell 7 s fun b s =>
    let st := s.rf F.DUP_STAT_STATE 0
    let r := bits b 195 191
    let ws := bodyWords (bits b 161 160) b
    if (st ≠ 3 && st ≠ 4) || ws.isEmpty then s
    else
      let dst := match s.dup.regions.find? fun x => x.num == r with
        | some x => if s.rb F.DUP_STAT_COMMIT_HALF 0 then x.dstA else x.dstB
        | none => if s.rb F.DUP_STAT_COMMIT_HALF 0 then s.rw .DUP_REG_DST_A 0 r else s.rw .DUP_REG_DST_B 0 r
      let a := (dst + bits b 190 167) % 2 ^ 48
      let d := s.dup
      let fresh := d.rxWords = 0
      let s := s.setDup { d with
        rxCrc := (ws.flatMap rackBytes).foldl crcByte (if fresh then 0xFFFFFFFF else d.rxCrc)
        rxWords := d.rxWords + ws.length
        rxLast := mins d.rxLast r (a + ws.length - 1, ws.getLastD noWord) }
      (s.wf F.DUP_STAT_COPYING 1 0).post 0 9 a ws)

/-- RACK_COMMIT (R964): the commit marker; read-backs of the last word written in each region are issued. -/
def execRackCommit (l cell : Nat) (s : State) : Out :=
  .next (systemRow l cell 8 s fun b s =>
    let st := s.rf F.DUP_STAT_STATE 0
    if st ≠ 3 && st ≠ 4 then s
    else
      let s := s.setDup { s.dup with
        mark := some (bits b 195 164, bits b 163 116, bits b 115 84, bits b 83 60), backs := [], backBad := false }
      s.dup.rxLast.foldl (fun (s : State) e =>
        match s.request .read 0 9 0 e.2.1 1 [] with
        | none => s
        | some (tag, s) => s.setDup { s.dup with backs := s.dup.backs ++ [(tag, e.2.2)] }) s)

/-- A RACK_ACK is sent (R964). -/
def State.rackAck (s : State) (epoch : Nat) (good : Bool) : State := s.sysPush 2 (9 * 2 ^ 196 + epoch * 2 ^ 164 + b2n good * 2 ^ 163)

/-- RACKING_COMMIT_COMPLETE (R964, R974, R982, R983): the read-backs are answered, or the marker does not match. The third
failure in a row is severe. -/
def execRackingCommitComplete (s : State) : Out :=
  let d := s.dup
  .next (match d.mark with
    | none => s
    | some (e, t, crc, n) =>
      let crcOwn := (if d.rxWords = 0 then 0xFFFFFFFF else d.rxCrc) ^^^ 0xFFFFFFFF
      let match_ := n = d.rxWords % 2 ^ 24 && crc = crcOwn && !d.backBad
      if match_ && !d.backs.isEmpty then s
      else if match_ then
        let half := s.rf F.DUP_STAT_COMMIT_HALF 0
        let s := ((s.wf F.DUP_STAT_COMMIT_HALF (1 - half) 0).ww .DUP_EPOCH_NUM e 0).ww .DUP_CUT_TIME t 0
        let s := (s.wf F.DUP_STAT_STATE 3 0).incE F.DUP_EPOCH_CNT_COUNT 0
        let s := (s.setDup { s.dup with committed := true, fails := 0 }).dropHalf
        s.rackAck e true
      else
        let s := (s.setDup { d with fails := d.fails + 1 }).dropHalf
        let s := s.incE F.DUP_CRC_FAIL_CNT_COUNT 0
        let s := s.raiseEv { faultEv .rackingCommitFailed 0 0 0 with promote := decide (3 ≤ s.dup.fails) }
        (s.dupNotice 2 e).rackAck e false)

/-! ## Heartbeats and takeover -/

/-- A HEARTBEAT body (Table 17-1); its send time is inserted as it leaves. -/
def State.heartbeat (s : State) (yielding : Bool) : Nat :=
  6 * 2 ^ 196 + s.dup.epoch * 2 ^ 164 + s.rf F.DEV_ROLE_CTL_ACTIVE 0 * 2 ^ 115 + b2n yielding * 2 ^ 114

/-- A pending YIELD takes effect (R977): HEARTBEAT with YIELD = 1, and the member yields. -/
def State.doYield (s : State) : State :=
  if s.rb F.DUP_CTL_YIELD 0 && s.rb F.DEV_ROLE_CTL_ACTIVE 0 then
    (((s.sysFront 2 (s.heartbeat true)).wf F.DUP_CTL_YIELD 0 0).incE F.DUP_YIELD_CNT_COUNT 0).yieldNow
  else s

/-- RACK_ACK (R964, R977): with GOOD = 1 the epoch is committed and a pending yield is carried out. -/
def execRackAck (l cell : Nat) (s : State) : Out :=
  .next (systemRow l cell 9 s fun b s =>
    if !s.rb F.DEV_ROLE_CTL_ACTIVE 0 || !bit b 163 then s
    else ((s.incE F.DUP_EPOCH_CNT_COUNT 0).setDup { s.dup with committed := true }).doYield)

/-- HEARTBEAT_SEND (R966): every 100 µs. -/
def execHeartbeatSend (s : State) : Out :=
  .next (if s.rf F.DEV_ROLE_ROLE 0 = 3 && s.rb F.DEV_ROLE_CTL_ACTIVE 0 && s.linkUp 2
      && 100000 ≤ (s.now + 2 ^ 48 - s.dup.hbSent) % 2 ^ 48 then
      (s.sysFront 2 (s.heartbeat false)).setDup { s.dup with hbSent := s.now }
    else s)

/-- TAKEOVER (R968, R972, Table 17-4): once, by a standby. -/
def State.takeover (s : State) : State :=
  let st := s.rf F.DUP_STAT_STATE 0
  if st ≠ 3 && st ≠ 4 then s
  else
    let s := s.dropHalf.becomeActive 2
    let s := if s.rb F.DUP_CTL_AUTO_OUT 0 && s.lineOk then s.setOutEn true else s
    let s := (if s.dup.committed then s else s.ww .DUP_EPOCH_NUM 0 0).eventAll 9
    let s := s.dupNotice 1 (s.rw .DUP_EPOCH_NUM 0)
    let s := ((s.ww .DUP_TAKEOVER_TIME s.now 0).incE F.DUP_TAKEOVER_CNT_COUNT 0).raise .dupTakeover 0 0
    let s := (s.wf F.DUP_STAT_HB_MISSED 0 0)
    if s.dup.committed then s else s.raise .dupNoCommit 0 0

/-- HEARTBEAT (R966, R967, R968, R976). -/
def execHeartbeat (l cell : Nat) (s : State) : Out :=
  .next (systemRow l cell 6 s fun b s =>
    let s := s.wf F.DUP_STAT_PEER_ALIVE 1 0
    if s.rb F.DEV_ROLE_CTL_ACTIVE 0 then (if bit b 115 then s.dualActive else s)
    else
      let s := (s.wf F.DUP_STAT_HB_MISSED 0 0).setDup { s.dup with epoch := bits b 195 164, hbSeen := s.now }
      if bit b 114 then s.takeover else s)

/-- HEARTBEAT_MISS (R957, R966 to R968): 100 µs without a heartbeat; the third in a row decides with HB_TAKEOVER = 1. -/
def execHeartbeatMiss (s : State) : Out :=
  let st := s.rf F.DUP_STAT_STATE 0
  .next (if (st ≠ 3 && st ≠ 4) || (s.now + 2 ^ 48 - s.dup.hbSeen) % 2 ^ 48 < 100000 then s
    else
      let n := min 3 (s.rf F.DUP_STAT_HB_MISSED 0 + 1)
      let s := (s.wf F.DUP_STAT_HB_MISSED n 0).incE F.DUP_HB_MISS_CNT_COUNT 0
      let s := s.setDup { s.dup with hbSeen := s.now, hoOut := false }
      if n = 3 && s.rb F.DUP_CTL_HB_TAKEOVER 0 then s.takeover else s)

/-- HANDOVER_IN_LOW (R967, R968, R975): the ball has been low for 1 µs. -/
def execHandoverInLow (s : State) : Out :=
  let s := s.wf F.DUP_STAT_HO_IN 0 0
  .next (if s.rb F.DUP_CTL_PIN_EN 0 then s.takeover else s)

/-- HANDOVER_IN_RISE (R976). -/
def execHandoverInRise (s : State) : Out :=
  let s := s.wf F.DUP_STAT_HO_IN 1 0
  .next (if s.rb F.DUP_CTL_PIN_EN 0 then s.dualActive else s)

/-- JOIN_TIMEOUT (R955): JOIN_S after the image loaded, without racking link. -/
def execJoinTimeout (s : State) : Out :=
  .next (match s.dup.loadAt with
    | none => s
    | some t =>
      if s.rf F.DUP_STAT_STATE 0 = 1 && !s.linkUp 2 && s.imageLoaded
          && s.rf F.DUP_CTL_JOIN_S 0 * 1000000000 ≤ (s.now + 2 ^ 48 - t) % 2 ^ 48
          && !(s.rb F.DUP_CTL_PIN_EN 0 && s.rb F.DUP_STAT_HO_IN 0) then s.becomeActive 5
      else s)

/-! ## Registers -/

/-- A write of DUP_CTL (R977, R979, R987): 0 in JOIN_S, SNAP_US and EPOCH is stored as 1, EPOCH above 10 as 10. -/
def State.writeDupCtl (s : State) (w : Nat) (hwClear : Bool) : State :=
  let up := fun v => max 1 v
  let w := w / 2 ^ 32 * 2 ^ 32 + up (bits w 31 24) * 2 ^ 24 + up (bits w 23 16) * 2 ^ 16 + min 10 (up (w % 16))
  s.plainWrite ⟨.DUP_CTL, 0, 0, 0⟩ w (if hwClear then [.clear 47 47] else [])

/-- YIELD_WRITE (R977, R979). -/
def execYieldWrite (w : TWord) (hwClear : Bool) (s : State) : Out :=
  .next (if w.tag.toNat < 2 then s.writeDupCtl w.data.toNat hwClear
    else s.regRefuse 0 (w.tag.toNat - 2) true 0x0F0A0000)

end Sys2Proof.Machine
end

