-- ==== Sys2Proof/Machine/Flags.lean ====
section
/-!
DEFINITION. The flags and the T field of a sequencer core's STATUS (R855, R857, Table 15-4).
-/
namespace Sys2Proof.Machine

/-- Sign extension of the low `w` bits of a number to 48 bits (R847, R855). -/
def sext (w v : Nat) : Word := (BitVec.ofNat w v).signExtend 48

/-- The four flags (R855). -/
structure Flags where
  z : Bool
  n : Bool
  c : Bool
  v : Bool
deriving DecidableEq, Repr

/-- The flags of a STATUS word (Table 15-5). -/
def flagsOf (st : Nat) : Flags := ⟨bit st 0, bit st 1, bit st 2, bit st 3⟩

/-- A STATUS word with its flags replaced. -/
def putFlags (st : Nat) (f : Flags) : Nat := st / 16 * 16 + b2n f.v * 8 + b2n f.c * 4 + b2n f.n * 2 + b2n f.z

/-- The T field of a STATUS word. -/
def tOf (st : Nat) : Nat := bits st 5 4

/-- A STATUS word with its T field replaced. -/
def putT (st t : Nat) : Nat := st / 64 * 64 + t % 4 * 16 + st % 16

/-- Flags of ADD: C the carry out of bit 47, V signed overflow (R855). -/
def addFlags (a b : Word) : Flags :=
  ⟨a + b == 0#48, (a + b).msb, decide (2 ^ 48 ≤ a.toNat + b.toNat), a.msb == b.msb && (a + b).msb != a.msb⟩

/-- Flags of SUB, CMP and CMPI: C is 1 when no borrow occurs, V signed overflow (R855). -/
def subFlags (a b : Word) : Flags :=
  ⟨a - b == 0#48, (a - b).msb, decide (b.toNat ≤ a.toNat), a.msb != b.msb && (a - b).msb != a.msb⟩

/-- Flags of a logic operation: C and V cleared (R855). -/
def logicFlags (r : Word) : Flags := ⟨r == 0#48, r.msb, false, false⟩

/-- Flags of a shift or a multiply: C and V left (R855, log 31). -/
def znFlags (r : Word) (f : Flags) : Flags := { f with z := r == 0#48, n := r.msb }

/-- Whether a branch condition holds; codes 14 and 15 are illegal (R856, Table 15-4). -/
def condHolds (cond : Nat) (f : Flags) (t : Nat) : Bool :=
  match cond with
  | 0 => true
  | 1 => f.z
  | 2 => !f.z
  | 3 => f.n != f.v
  | 4 => f.n == f.v
  | 5 => !f.c
  | 6 => f.c
  | 7 => !f.z && f.n == f.v
  | 8 => f.z || f.n != f.v
  | 9 => t < 2
  | 10 => t == 1
  | 11 => t == 2
  | 12 => t == 3
  | 13 => 2 ≤ t
  | _ => false

/-- SHL: a shift of 48 or more gives 0. -/
def shl (a : Word) (n : Nat) : Word := if 48 ≤ n then 0#48 else a <<< n
/-- SHR: a shift of 48 or more gives 0. -/
def shr (a : Word) (n : Nat) : Word := if 48 ≤ n then 0#48 else a >>> n
/-- SAR: a shift of 48 or more gives all sign bits. -/
def sar (a : Word) (n : Nat) : Word := a.sshiftRight (min n 48)

/-- MULU: the low 24 bits multiplied unsigned. -/
def mulu (a b : Word) : Word := BitVec.ofNat 48 (a.toNat % 2 ^ 24 * (b.toNat % 2 ^ 24))
/-- MULS: the low 24 bits multiplied as two's complement. -/
def muls (a b : Word) : Word := sext 24 (a.toNat % 2 ^ 24) * sext 24 (b.toNat % 2 ^ 24)

end Sys2Proof.Machine
end

