-- ==== Sys2Proof/Machine/Operands.lean ====
section
/-!
DEFINITION. The instruction words of the sequencer cores: formats, opcodes and their zero fields (R854 to R857).
-/
namespace Sys2Proof.Machine

/-- The instructions of a sequencer core (Table 15-3). -/
inductive SeqOp where
  | nop | add | sub | and | or | xor | shl | shr | sar | mulu | muls | cmp
  | addi | cmpi | andi | ori | xori | shli | shri | sari | ldi | lih
  | ldl | stl | ldg | stg | aadd | aswp | stln | sync | mbr | mbw | rsr | wsr
  | b | call | jr | ret | reti | wait | halt | brk
deriving DecidableEq, Repr

/-- Field RD, RS or COND of an instruction word (Table 15-2). -/
def fRd (w : Nat) : Nat := bits w 17 14
/-- Field RA. -/
def fRa (w : Nat) : Nat := bits w 13 10
/-- Field RB. -/
def fRb (w : Nat) : Nat := bits w 9 6
/-- Field FUNC. -/
def fFunc (w : Nat) : Nat := bits w 5 0
/-- Field IMM10. -/
def fImm10 (w : Nat) : Nat := bits w 9 0
/-- Field TAG of format ST. -/
def fTag (w : Nat) : Nat := bits w 9 8
/-- Field OFF8. -/
def fOff8 (w : Nat) : Nat := bits w 7 0
/-- Fields IMM14 and OFF14. -/
def f14 (w : Nat) : Nat := bits w 13 0
/-- Field TARGET. -/
def fTarget (w : Nat) : Nat := bits w 12 0

/-- The width in bits of STLN's lane, from FUNC[5:4]; 0 is illegal. -/
def stlnWidth (w : Nat) : Nat := match bits w 5 4 with | 1 => 24 | 2 => 12 | 3 => 6 | _ => 0
/-- STLN's lane, from FUNC[3:1]. -/
def stlnLane (w : Nat) : Nat := bits w 3 1

/-- An RR instruction whose FUNC is zero, with RD zero where `noRd`. -/
def rrOk (w : Nat) (noRd : Bool) : Bool := fFunc w == 0 && (!noRd || fRd w == 0)

/-- The instruction that a 24-bit word spells; none where it raises exception 0 (R854 to R857). -/
def seqDecode (w : Nat) : Option SeqOp :=
  let rr := fun o => if rrOk w false then some o else none
  let no := fun o => if bits w 17 0 = 0 then some o else none
  let sh := fun o => if bits w 9 6 = 0 then some o else none
  let mb := fun o => if fRa w = 0 ∧ bits w 9 6 = 0 then some o else none
  let sr := fun o => if fRa w = 0 ∧ bits w 9 4 = 0 ∧ bits w 3 0 < 11 then some o else none
  match bits w 23 18 with
  | 0x00 => no .nop
  | 0x01 => rr .add
  | 0x02 => rr .sub
  | 0x03 => rr .and
  | 0x04 => rr .or
  | 0x05 => rr .xor
  | 0x06 => rr .shl
  | 0x07 => rr .shr
  | 0x08 => rr .sar
  | 0x09 => rr .mulu
  | 0x0A => rr .muls
  | 0x0B => if rrOk w true then some .cmp else none
  | 0x10 => some .addi
  | 0x11 => if fRd w = 0 then some .cmpi else none
  | 0x12 => some .andi
  | 0x13 => some .ori
  | 0x14 => some .xori
  | 0x15 => sh .shli
  | 0x16 => sh .shri
  | 0x17 => sh .sari
  | 0x18 => some .ldi
  | 0x19 => some .lih
  | 0x20 => some .ldl
  | 0x21 => some .stl
  | 0x22 => some .ldg
  | 0x23 => some .stg
  | 0x24 => rr .aadd
  | 0x25 => rr .aswp
  | 0x26 => if fRd w = 0 ∧ w % 2 = 0 ∧ stlnWidth w ≠ 0 ∧ stlnLane w < 48 / stlnWidth w then some .stln else none
  | 0x27 => no .sync
  | 0x28 => mb .mbr
  | 0x29 => mb .mbw
  | 0x2A => sr .rsr
  | 0x2B => sr .wsr
  | 0x30 => if fRd w < 14 then some .b else none
  | 0x31 => if bits w 17 13 = 0 then some .call else none
  | 0x32 => if fRd w = 0 ∧ fImm10 w = 0 then some .jr else none
  | 0x33 => no .ret
  | 0x34 => no .reti
  | 0x35 => no .wait
  | 0x36 => no .halt
  | 0x37 => no .brk
  | _ => none

/-- Cycles of an instruction, without waits (Table 15-3); `taken` for a branch. -/
def SeqOp.cycles (o : SeqOp) (taken : Bool) : Nat :=
  match o with
  | .mulu => 2 | .muls => 2 | .ldl => 2 | .stln => 2 | .call => 2 | .jr => 2 | .ret => 2 | .reti => 3
  | .b => if taken then 2 else 1
  | _ => 1

end Sys2Proof.Machine
end

