-- ==== Sys2Proof/Machine/SeqCores.lean ====
section
/-!
DEFINITION. The sequencer cores: fetching, instructions, interrupts and exceptions, the store queue, halting, stepping and
breakpoints (R842 to R868, R878 to R891).
-/
namespace Sys2Proof.Machine

/-- A core with nothing under way (R889). -/
def Core.init : Core := ⟨[], .idle, 0, false, false, false, false, true, none, none, 0⟩

/-- Core `c` of die `d`. -/
def State.core (s : State) (d c : Nat) : Core := mget s.cores (key2 d c) Core.init

/-- The state with a core replaced. -/
def State.setCore (s : State) (d c : Nat) (x : Core) : State := { s with cores := mset s.cores (key2 d c) x Core.init }

/-- General register `k` of a core. -/
def State.g (s : State) (d c k : Nat) : Word := s.reg ⟨.SEQ_G, d, c, k⟩

/-- The state with a general register written. -/
def State.setG (s : State) (d c k : Nat) (w : Word) : State := s.setReg ⟨.SEQ_G, d, c, k⟩ w

/-- Special register `k` of a core as a number (Table 15-5). -/
def State.sr (s : State) (d c k : Nat) : Nat := s.rw .SEQ_SR d c k

/-- The state with a special register replaced. -/
def State.setSr (s : State) (d c k v : Nat) : State := s.ww .SEQ_SR v d c k

/-- A core's PC (R894). -/
def State.seqPc (s : State) (d c : Nat) : Nat := s.rf F.SEQ_STAT_PC d c

/-- The state with a core's PC replaced; SEQ_PC reads the same. -/
def State.setSeqPc (s : State) (d c pc : Nat) : State := (s.wf F.SEQ_STAT_PC pc d c).ww .SEQ_PC (pc % 8192) d c

/-- STATE of SEQ_STAT (R894): 0 halted, 1 running, 2 in WAIT, 3 waiting on an access. -/
def State.seqState (s : State) (d c : Nat) : Nat := s.rf F.SEQ_STAT_STATE d c

/-- The core's frequency in MHz: FREQ, limited to THR_CODE while its die throttles (R843, R1060). -/
def State.coreMhz (s : State) (d c : Nat) : Nat :=
  let f := s.rf F.SEQ_CTL_FREQ d c
  200 + 5 * (if s.rf F.THERM_DIE_LEVEL 0 d ≥ 2 then min f (s.rf F.THERM_CTL_THR_CODE 0) else f)

/-- Core cycles since the package time at which the core last stopped executing; none with its clock gated (R1039, R1061). -/
def State.coreElapsed (s : State) (d c : Nat) : Nat :=
  if s.gated then 0 else ((s.now + 2 ^ 48 - (s.core d c).since) % 2 ^ 48) * s.coreMhz d c / 1000

/-- CYCLE advances, modulo 2^48 (class T, Table 15-5). -/
def State.addCycles (s : State) (d c n : Nat) : State := s.setSr d c 4 ((s.sr d c 4 + n) % 2 ^ 48)

/-- The core halts (R864, R893, R894). -/
def State.coreHalt (s : State) (d c cause : Nat) : State :=
  let s := ((s.wf F.SEQ_STAT_STATE 0 d c).wf F.SEQ_STAT_HALT_CAUSE cause d c).wf F.SEQ_CTL_RUN 0 d c
  let s := s.wf F.SEQ_CTL_STEP 0 d c
  s.setCore d c { s.core d c with stepping := false, haltReq := false, haltFault := false, bp := none, since := s.now }

/-- A halt by a breakpoint (R866). -/
def State.bpHalt (s : State) (d c n : Nat) : State := (s.wf F.SEQ_STAT_BP n d c).coreHalt d c 3

/-- The lowest enabled breakpoint of a kind that matches an address (R866, R896). -/
def State.bpMatch (s : State) (d c kind addr : Nat) : Option Nat :=
  (List.range 8).find? fun n => s.rb F.SEQ_BP_CTL_EN d c n && s.rf F.SEQ_BP_CTL_KIND d c n == kind
    && (if kind = 3 then s.rw .SEQ_BP_ADDR d c n == addr else s.rf F.SEQ_BP_CTL_ADDR d c n == addr)

/-- An instruction boundary (R864 to R866, R878): a matched breakpoint, a written RUN = 0 or the end of a step halts. A fetch
breakpoint on the next instruction comes before the written RUN = 0. A fault reaction halts with cause 7 (R888). -/
def State.boundary (s : State) (d c : Nat) : State :=
  let x := s.core d c
  match x.bp with
  | some n => s.bpHalt d c n
  | none =>
    if x.haltFault then s.coreHalt d c 7
    else if x.haltReq then
      match s.bpMatch d c 0 (s.seqPc d c) with
      | some n => s.bpHalt d c n
      | none => s.coreHalt d c 1
    else if x.stepping then s.coreHalt d c 2
    else (s.wf F.SEQ_STAT_STATE 1 d c).setCore d c { x with fresh := false }

/-- An instruction completes: PC, cycles, and the boundary after it. -/
def State.seqDone (s : State) (d c pc cycles : Nat) : State :=
  ((s.setSeqPc d c (pc % 8192)).addCycles d c cycles).boundary d c

/-! ## Interrupts and exceptions -/

/-- The lowest vector that is pending and enabled (R860). -/
def State.pendingVec (s : State) (d c : Nat) : Option Nat :=
  (List.range 32).find? fun v => 2 ≤ v && bit (s.sr d c 9) v && bit (s.sr d c 8) v

/-- The interrupt due at a boundary: IE = 1, H = 0 and a vector pending and enabled (R860, R862). -/
def State.intDue (s : State) (d c : Nat) : Option Nat :=
  if bit (s.sr d c 0) 47 && !bit (s.sr d c 0) 46 then s.pendingVec d c else none

/-- Entry of a vector (R861): EPC, ESTAT, H, CAUSE and PC. -/
def State.seqEntry (s : State) (d c v : Nat) : State :=
  let st := s.sr d c 0
  let s := (s.setSr d c 1 (s.seqPc d c)).setSr d c 2 st
  let s := (s.setSr d c 0 (if bit st 46 then st else st + 2 ^ 46)).setSr d c 3 v
  s.seqDone d c (8 * v) 3

/-- An exception (R854, R846, R860 to R862, R888): its source is raised; with H = 1 it is a double fault and halts the core. -/
def State.seqException (s : State) (d c v : Nat) : State :=
  let s := s.raise (if v = 0 then .seqIllegalInstruction else .seqFetchInvalid) d c
  if bit (s.sr d c 0) 46 then (s.raise .seqDoubleFault d c).coreHalt d c 6 else s.seqEntry d c v

/-- An interrupt taken: its pending bit is cleared (R861). The first instruction after a resume is still to come (R866). -/
def State.seqInterrupt (s : State) (d c v : Nat) : State :=
  let p := s.sr d c 9
  let f := (s.core d c).fresh
  let s := (s.setSr d c 9 (if bit p v then p - 2 ^ v else p)).seqEntry d c v
  s.setCore d c { s.core d c with fresh := f }

/-- A vector becomes pending; a core asleep in WAIT goes on once one is pending and enabled (R859, R863). -/
def State.setPend (s : State) (d c v : Nat) : State :=
  let p := s.sr d c 9
  let s := s.setSr d c 9 (if bit p v then p else p + 2 ^ v)
  if s.seqState d c = 2 ∧ (s.pendingVec d c).isSome then
    (s.addCycles d c (s.coreElapsed d c)).wf F.SEQ_STAT_STATE 1 d c
  else s

/-! ## Memories -/

/-- The protected address of an instruction-memory word (Table 6-1). -/
def imemAddr (c a : Nat) : Nat := 0x0E000000 + c * 0x4000 + a % 8192

/-- The protected address of a data-memory word (Table 6-1, R847). -/
def dmemAddr (c a : Nat) : Nat := 0x0E000000 + c * 0x4000 + 0x2000 + a % 4096

/-- What the core finds at PC. -/
inductive Fetched where
  | invalid
  | illegal
  | instr (w : Nat) (op : SeqOp)
deriving DecidableEq, Repr

/-- What a fetched word is (R846, R854). -/
def fetchedOf (w : TWord) : Fetched :=
  if w.tag ≠ tagData then .invalid
  else if bits w.data.toNat 47 24 ≠ 0 then .illegal
  else match seqDecode w.data.toNat with
    | none => .illegal
    | some op => .instr w.data.toNat op

/-- The word at PC as it would be read (R296, R846). -/
def State.peekFetch (s : State) (d c : Nat) : Fetched :=
  let a := imemAddr c (s.seqPc d c)
  match decodeCell (s.cell d a) a with
  | .good w => fetchedOf w
  | .corrected w _ => fetchedOf w
  | .uncorrectable _ => .invalid

/-- The fetch itself, with its detection and write-back (R296, R302). -/
def State.fetch (s : State) (d c : Nat) : State := (s.readWord d (imemAddr c (s.seqPc d c)) .read true).2.2

/-! ## Special registers -/

/-- The bits of STATUS (Table 15-5). -/
def statusMask : Nat := 2 ^ 47 + 2 ^ 46 + 63

/-- RSR: a special register's value (R857); CYCLE goes on while the core does not execute. -/
def State.rsr (s : State) (d c k : Nat) : Nat :=
  match k with
  | 5 => s.now
  | 10 => s.devNum * 2 ^ 9 + d * 2 ^ 6 + c
  | 4 => (s.sr d c 4 + if s.seqState d c = 1 then 0 else s.coreElapsed d c) % 2 ^ 48
  | _ => s.sr d c k

/-- WSR: a special register written as Table 15-5 allows; a WSR of TIMER starts its count, and one of TCMP arms it (R857, R858,
R883). -/
def State.wsr (s : State) (d c k v : Nat) : State :=
  match k with
  | 0 => s.setSr d c 0 (bits v 47 47 * 2 ^ 47 + bits (s.sr d c 0) 46 46 * 2 ^ 46 + v % 64)
  | 1 => s.setSr d c 1 (v % 8192)
  | 2 => s.setSr d c 2 (v &&& statusMask)
  | 6 => (s.setSr d c 6 (v % 2 ^ 32)).setCore d c { s.core d c with timerAt := s.rsr d c 4 }
  | 7 => (s.setSr d c 7 v).setCore d c { s.core d c with armed := true }
  | 8 => s.setSr d c 8 (v % 2 ^ 32 / 4 * 4)
  | 9 => s.setSr d c 9 (s.sr d c 9 - (s.sr d c 9 &&& v))
  | _ => s

/-! ## Instructions -/

/-- The state with the T field of STATUS replaced. -/
def State.setT (s : State) (d c : Nat) (t : Tag) : State := s.setSr d c 0 (putT (s.sr d c 0) t.toNat)

/-- A result in a register with its flags, and the end of the instruction. -/
def State.alu (s : State) (d c : Nat) (op : SeqOp) (rd : Option Nat) (r : Word) (f : Flags) : State :=
  let s := match rd with | some k => s.setG d c k r | none => s
  (s.setSr d c 0 (putFlags (s.sr d c 0) f)).seqDone d c (s.seqPc d c + 1) (op.cycles false)

/-- A register loaded without flags. -/
def State.load (s : State) (d c : Nat) (op : SeqOp) (rd : Nat) (r : Word) : State :=
  (s.setG d c rd r).seqDone d c (s.seqPc d c + 1) (op.cycles false)

/-- The core stops executing until what it waits for comes (R850, R851). -/
def State.block (s : State) (d c : Nat) (w : CoreWait) : State :=
  (s.wf F.SEQ_STAT_STATE 3 d c).setCore d c { s.core d c with wait := w, since := s.now }

/-- The wait of a blocked instruction ends: its cycles are counted (R845, R892), and the instruction completes. -/
def State.unblock (s : State) (d c : Nat) : State :=
  let n := s.coreElapsed d c
  let s := s.incE F.SEQ_WAIT_CNT_COUNT d c 0 n
  let s := s.setCore d c { s.core d c with wait := .idle }
  s.seqDone d c (s.seqPc d c + 1) (n + 1)

/-- A breakpoint matched by the instruction under way (R866). -/
def State.noteBp (s : State) (d c kind addr : Nat) : State :=
  s.setCore d c { s.core d c with bp := s.bpMatch d c kind addr }

/-- A blocking global access (R849, R851, R481): without a free read tag the core waits before it. -/
def State.blocking (s : State) (d c : Nat) (op : TxnOp) (rd addr : Nat) (ws : List TWord) : State :=
  match s.request op d (16 + c) 0 addr 1 ws with
  | none => s
  | some (tag, t) => (t.noteBp d c 3 addr).block d c (.resp tag rd)

/-- STG (R849, R850): with the store queue full the core waits. -/
def State.stg (s : State) (d c addr : Nat) (w : TWord) : State :=
  let s := s.noteBp d c 3 addr
  let x := s.core d c
  if x.sq.length < 4 then (s.setCore d c { x with sq := x.sq ++ [(addr, w)] }).seqDone d c (s.seqPc d c + 1) 1
  else s.block d c (.room addr w)

/-- WAIT (R863): with a vector pending and enabled, or in a step, it ends at once; else the core sleeps. -/
def State.seqWait (s : State) (d c : Nat) : State :=
  if (s.core d c).stepping || (s.pendingVec d c).isSome then s.seqDone d c (s.seqPc d c + 1) 1
  else
    let s := (s.setSeqPc d c ((s.seqPc d c + 1) % 8192)).addCycles d c 1
    (s.wf F.SEQ_STAT_STATE 2 d c).setCore d c { s.core d c with since := s.now, fresh := false }

/-- Instruction `op`, of word `w`, executed (Table 15-3, R847 to R857). -/
def State.seqExec (s : State) (d c w : Nat) (op : SeqOp) : State :=
  let rd := fRd w
  let ra := s.g d c (fRa w)
  let rb := s.g d c (fRb w)
  let imm := sext 10 (fImm10 w)
  let zimm := BitVec.ofNat 48 (fImm10 w)
  let fl := flagsOf (s.sr d c 0)
  let pc := s.seqPc d c
  let logic := fun (r : Word) => s.alu d c op (some rd) r (logicFlags r)
  let zn := fun (r : Word) => s.alu d c op (some rd) r (znFlags r fl)
  match op with
  | .nop => s.seqDone d c (pc + 1) 1
  | .add => s.alu d c op (some rd) (ra + rb) (addFlags ra rb)
  | .sub => s.alu d c op (some rd) (ra - rb) (subFlags ra rb)
  | .and => logic (ra &&& rb)
  | .or => logic (ra ||| rb)
  | .xor => logic (ra ^^^ rb)
  | .shl => zn (shl ra (rb.toNat % 64))
  | .shr => zn (shr ra (rb.toNat % 64))
  | .sar => zn (sar ra (rb.toNat % 64))
  | .mulu => zn (mulu ra rb)
  | .muls => zn (muls ra rb)
  | .cmp => s.alu d c op none 0#48 (subFlags ra rb)
  | .addi => s.alu d c op (some rd) (ra + imm) (addFlags ra imm)
  | .cmpi => s.alu d c op none 0#48 (subFlags ra imm)
  | .andi => logic (ra &&& zimm)
  | .ori => logic (ra ||| zimm)
  | .xori => logic (ra ^^^ zimm)
  | .shli => zn (shl ra (fFunc w))
  | .shri => zn (shr ra (fFunc w))
  | .sari => zn (sar ra (fFunc w))
  | .ldi => s.load d c op rd (sext 14 (f14 w))
  | .lih => s.load d c op rd ((s.g d c rd <<< 14) ||| BitVec.ofNat 48 (f14 w))
  | .ldl =>
    let a := (ra + imm).toNat % 4096
    let r := s.readWord d (dmemAddr c a) .read true
    ((r.2.2.noteBp d c 1 a).setT d c r.1.tag).load d c op rd r.1.data
  | .stl =>
    let a := (ra + sext 8 (fOff8 w)).toNat % 4096
    ((s.noteBp d c 2 a).storeWord d (dmemAddr c a) ⟨s.g d c rd, BitVec.ofNat 2 (fTag w)⟩).seqDone d c (pc + 1) 1
  | .ldg => s.blocking d c .read rd (ra + imm).toNat []
  | .stg => s.stg d c (ra + sext 8 (fOff8 w)).toNat ⟨s.g d c rd, BitVec.ofNat 2 (fTag w)⟩
  | .aadd => s.blocking d c .add rd ra.toNat [⟨rb, tagData⟩]
  | .aswp => s.blocking d c .swap rd ra.toNat [⟨rb, tagData⟩]
  | .stln =>
    let a := ra.toNat % 4096
    ((s.noteBp d c 2 a).narrowWord d (dmemAddr c a) (stlnWidth w) (stlnLane w) ⟨rb, tagData⟩).seqDone d c (pc + 1) 2
  | .sync => if (s.core d c).sq.isEmpty then s.seqDone d c (pc + 1) 1 else s.block d c .sync
  | .mbr => s.load d c op rd (s.reg ⟨.SEQ_MBOX, d, c, fImm10 w % 64⟩)
  | .mbw => (s.setReg ⟨.SEQ_MBOX, d, c, fImm10 w % 64⟩ (s.g d c rd)).seqDone d c (pc + 1) 1
  | .rsr => s.load d c op rd (BitVec.ofNat 48 (s.rsr d c (fImm10 w)))
  | .wsr => (s.wsr d c (fImm10 w) (s.g d c rd).toNat).seqDone d c (pc + 1) 1
  | .b =>
    let t := condHolds rd fl (tOf (s.sr d c 0))
    s.seqDone d c (if t then pc + (sext 14 (f14 w)).toNat % 8192 else pc + 1) (op.cycles t)
  | .call => (s.setG d c 15 (BitVec.ofNat 48 ((pc + 1) % 8192))).seqDone d c (fTarget w) 2
  | .jr => s.seqDone d c (ra.toNat % 8192) 2
  | .ret => s.seqDone d c ((s.g d c 15).toNat % 8192) 2
  | .reti => (s.setSr d c 0 (s.sr d c 2)).seqDone d c (s.sr d c 1) 3
  | .wait => s.seqWait d c
  | .halt => ((s.setSeqPc d c ((pc + 1) % 8192)).addCycles d c 1).coreHalt d c 5
  | .brk => ((s.setSeqPc d c ((pc + 1) % 8192)).addCycles d c 1).coreHalt d c 4

/-- Whether a running core may go on at its boundary: running, no reset under way, no interrupt due (R860, R884). -/
def State.seqReady (s : State) (d c : Nat) : Bool :=
  s.seqState d c == 1 && (s.core d c).resetReq.isNone && (s.intDue d c).isNone && !s.gated

/-- The breakpoint on the instruction at PC, which a first instruction after a step or a resume does not match (R866). -/
def State.fetchBp (s : State) (d c : Nat) : Option Nat :=
  if (s.core d c).fresh then none else s.bpMatch d c 0 (s.seqPc d c)

/-- A running core comes to an instruction `op`: a fetch breakpoint halts it, else it executes. The core goes on only with the
instruction that it fetches at PC. -/
def State.seqRow (s : State) (d c : Nat) (op : SeqOp) : State :=
  match s.peekFetch d c with
  | .instr w o =>
    if o = op ∧ s.seqReady d c then
      match s.fetchBp d c with
      | some n => s.bpHalt d c n
      | none => (s.fetch d c).seqExec d c w op
    else s
  | _ => s

/-- SEQ_NOP (Table 15-3). -/
def execSeqNop (d c : Nat) (s : State) : Out := .next (s.seqRow d c .nop)
/-- SEQ_ADD (Table 15-3). -/
def execSeqAdd (d c : Nat) (s : State) : Out := .next (s.seqRow d c .add)
/-- SEQ_SUB (Table 15-3). -/
def execSeqSub (d c : Nat) (s : State) : Out := .next (s.seqRow d c .sub)
/-- SEQ_AND (Table 15-3). -/
def execSeqAnd (d c : Nat) (s : State) : Out := .next (s.seqRow d c .and)
/-- SEQ_OR (Table 15-3). -/
def execSeqOr (d c : Nat) (s : State) : Out := .next (s.seqRow d c .or)
/-- SEQ_XOR (Table 15-3). -/
def execSeqXor (d c : Nat) (s : State) : Out := .next (s.seqRow d c .xor)
/-- SEQ_SHL (Table 15-3). -/
def execSeqShl (d c : Nat) (s : State) : Out := .next (s.seqRow d c .shl)
/-- SEQ_SHR (Table 15-3). -/
def execSeqShr (d c : Nat) (s : State) : Out := .next (s.seqRow d c .shr)
/-- SEQ_SAR (Table 15-3). -/
def execSeqSar (d c : Nat) (s : State) : Out := .next (s.seqRow d c .sar)
/-- SEQ_MULU (Table 15-3). -/
def execSeqMulu (d c : Nat) (s : State) : Out := .next (s.seqRow d c .mulu)
/-- SEQ_MULS (Table 15-3). -/
def execSeqMuls (d c : Nat) (s : State) : Out := .next (s.seqRow d c .muls)
/-- SEQ_CMP (Table 15-3). -/
def execSeqCmp (d c : Nat) (s : State) : Out := .next (s.seqRow d c .cmp)
/-- SEQ_ADDI (Table 15-3). -/
def execSeqAddi (d c : Nat) (s : State) : Out := .next (s.seqRow d c .addi)
/-- SEQ_CMPI (Table 15-3). -/
def execSeqCmpi (d c : Nat) (s : State) : Out := .next (s.seqRow d c .cmpi)
/-- SEQ_ANDI (Table 15-3). -/
def execSeqAndi (d c : Nat) (s : State) : Out := .next (s.seqRow d c .andi)
/-- SEQ_ORI (Table 15-3). -/
def execSeqOri (d c : Nat) (s : State) : Out := .next (s.seqRow d c .ori)
/-- SEQ_XORI (Table 15-3). -/
def execSeqXori (d c : Nat) (s : State) : Out := .next (s.seqRow d c .xori)
/-- SEQ_SHLI (Table 15-3). -/
def execSeqShli (d c : Nat) (s : State) : Out := .next (s.seqRow d c .shli)
/-- SEQ_SHRI (Table 15-3). -/
def execSeqShri (d c : Nat) (s : State) : Out := .next (s.seqRow d c .shri)
/-- SEQ_SARI (Table 15-3). -/
def execSeqSari (d c : Nat) (s : State) : Out := .next (s.seqRow d c .sari)
/-- SEQ_LDI (Table 15-3). -/
def execSeqLdi (d c : Nat) (s : State) : Out := .next (s.seqRow d c .ldi)
/-- SEQ_LIH (Table 15-3). -/
def execSeqLih (d c : Nat) (s : State) : Out := .next (s.seqRow d c .lih)
/-- SEQ_LDL (R847). -/
def execSeqLdl (d c : Nat) (s : State) : Out := .next (s.seqRow d c .ldl)
/-- SEQ_STL (R847). -/
def execSeqStl (d c : Nat) (s : State) : Out := .next (s.seqRow d c .stl)
/-- SEQ_LDG (R849, R851). -/
def execSeqLdg (d c : Nat) (s : State) : Out := .next (s.seqRow d c .ldg)
/-- SEQ_STG (R849, R850). -/
def execSeqStg (d c : Nat) (s : State) : Out := .next (s.seqRow d c .stg)
/-- SEQ_AADD (R849, R851). -/
def execSeqAadd (d c : Nat) (s : State) : Out := .next (s.seqRow d c .aadd)
/-- SEQ_ASWP (R849, R851). -/
def execSeqAswp (d c : Nat) (s : State) : Out := .next (s.seqRow d c .aswp)
/-- SEQ_STLN (Table 15-3). -/
def execSeqStln (d c : Nat) (s : State) : Out := .next (s.seqRow d c .stln)
/-- SEQ_SYNC (R850). -/
def execSeqSync (d c : Nat) (s : State) : Out := .next (s.seqRow d c .sync)
/-- SEQ_MBR (Table 15-3). -/
def execSeqMbr (d c : Nat) (s : State) : Out := .next (s.seqRow d c .mbr)
/-- SEQ_MBW (Table 15-3, R882). -/
def execSeqMbw (d c : Nat) (s : State) : Out := .next (s.seqRow d c .mbw)
/-- SEQ_RSR (R857). -/
def execSeqRsr (d c : Nat) (s : State) : Out := .next (s.seqRow d c .rsr)
/-- SEQ_WSR (R857, R883). -/
def execSeqWsr (d c : Nat) (s : State) : Out := .next (s.seqRow d c .wsr)
/-- SEQ_B (R856). -/
def execSeqB (d c : Nat) (s : State) : Out := .next (s.seqRow d c .b)
/-- SEQ_CALL (Table 15-3). -/
def execSeqCall (d c : Nat) (s : State) : Out := .next (s.seqRow d c .call)
/-- SEQ_JR (Table 15-3). -/
def execSeqJr (d c : Nat) (s : State) : Out := .next (s.seqRow d c .jr)
/-- SEQ_RET (Table 15-3). -/
def execSeqRet (d c : Nat) (s : State) : Out := .next (s.seqRow d c .ret)
/-- SEQ_RETI (Table 15-3). -/
def execSeqReti (d c : Nat) (s : State) : Out := .next (s.seqRow d c .reti)
/-- SEQ_WAIT (R863). -/
def execSeqWait (d c : Nat) (s : State) : Out := .next (s.seqRow d c .wait)
/-- SEQ_HALT (Table 15-3). -/
def execSeqHalt (d c : Nat) (s : State) : Out := .next (s.seqRow d c .halt)
/-- SEQ_BRK (Table 15-3). -/
def execSeqBrk (d c : Nat) (s : State) : Out := .next (s.seqRow d c .brk)

/-- A running core reaches a word that it cannot execute. -/
def State.seqBad (s : State) (d c : Nat) (f : Fetched) (v : Nat) : State :=
  if s.peekFetch d c = f ∧ s.seqReady d c then
    match s.fetchBp d c with
    | some n => s.bpHalt d c n
    | none => (s.fetch d c).seqException d c v
  else s

/-- SEQ_ILLEGAL_INSTRUCTION (R846, R854, R860 to R862). -/
def execSeqIllegalInstruction (d c : Nat) (s : State) : Out := .next (s.seqBad d c .illegal 0)

/-- SEQ_FETCH_INVALID (R846, R860 to R862). -/
def execSeqFetchInvalid (d c : Nat) (s : State) : Out := .next (s.seqBad d c .invalid 1)

/-- INTERRUPT_ENTRY (R860, R861, R863): at a boundary of a running core. -/
def execInterruptEntry (d c : Nat) (s : State) : Out :=
  .next (if s.seqState d c = 1 ∧ (s.core d c).resetReq.isNone ∧ s.gated = false then
      match s.intDue d c with
      | some v => s.seqInterrupt d c v
      | none => s
    else s)

/-- SEQ_TIMER (R858): TIMER cycles have passed since the WSR or the time before. -/
def execSeqTimer (d c : Nat) (s : State) : Out :=
  let t := (s.core d c).timerAt
  .next (if s.sr d c 6 = 0 || s.gated || (s.rsr d c 4 + 2 ^ 48 - t) % 2 ^ 48 < s.sr d c 6 then s
    else (s.setCore d c { s.core d c with timerAt := (t + s.sr d c 6) % 2 ^ 48 }).setPend d c 2)

/-- SEQ_TCMP (R858, R883): once, when TIME has reached an armed TCMP. -/
def execSeqTcmp (d c : Nat) (s : State) : Out :=
  .next (if (s.core d c).armed && !s.gated && (s.now + 2 ^ 48 - s.sr d c 7) % 2 ^ 48 < 2 ^ 47 then
      (s.setCore d c { s.core d c with armed := false }).setPend d c 3 else s)

/-- A write to a doorbell register (R859, R888). -/
def State.writeDoorbell (s : State) (d c v w : Nat) : State :=
  let again := bit (s.sr d c 9) v
  let s := (s.ww .SEQ_DOORBELL (w % 2 ^ 48) d c v).setPend d c v
  if again then
    (s.wf F.SEQ_DB_OVR_OVR (s.rf F.SEQ_DB_OVR_OVR d c ||| 2 ^ (v - 4)) d c).raise .seqDoorbellOverrun d c
  else s

/-- SEQ_DOORBELL_WRITE (R859): words tagged 0b10 or 0b11 are refused (R75). -/
def execSeqDoorbellWrite (d c v : Nat) (w : TWord) (s : State) : Out :=
  .next (if v < 4 ∨ 31 < v then s
    else if w.tag.toNat < 2 then s.writeDoorbell d c v w.data.toNat
    else s.regRefuse d (w.tag.toNat - 2) true (0x0F020000 + c * 0x400 + 0x40 + v))

/-! ## Reset -/

/-- CYCLE of every core counts from now on, as after a reset (R891, Table 15-5). -/
def State.cyclesFromNow (s : State) : State :=
  s.fabDies.foldl (fun s d => (List.range 4).foldl (fun (s : State) c => s.setCore d c { s.core d c with since := s.now }) s) s

/-- A register back at its reset value. -/
def State.resetReg (s : State) (n : RegName) (d : Nat) (i : Nat := 0) (j : Nat := 0) : State :=
  s.setReg ⟨n, d, i, j⟩ (resetWord n i)

/-- The core takes the state of R889, its memories kept; RUN returns to `run` (R890, R891). -/
def State.coreClear (s : State) (d c : Nat) (run : Bool) : State :=
  let s : State := [RegName.SEQ_CTL, .SEQ_STAT, .SEQ_PC, .SEQ_MEM_ADDR, .SEQ_MEM_DATA, .SEQ_DB_OVR, .SEQ_WAIT_CNT].foldl
    (fun s n => s.resetReg n d c) s
  let s : State := (List.range 64).foldl (fun s j => s.resetReg .SEQ_MBOX d c j) s
  let s : State := (List.range 32).foldl (fun s j => s.resetReg .SEQ_DOORBELL d c j) s
  let s : State := (List.range 16).foldl (fun s j => s.resetReg .SEQ_G d c j) s
  let s : State := (List.range 11).foldl (fun s j => s.resetReg .SEQ_SR d c j) s
  let s : State := (List.range 8).foldl (fun s j => (s.resetReg .SEQ_BP_CTL d c j).resetReg .SEQ_BP_ADDR d c j) s
  let s := s.setCore d c { Core.init with since := s.now }
  if run then (s.wf F.SEQ_CTL_RUN 1 d c).wf F.SEQ_STAT_STATE 1 d c else s

/-- A core under reset takes it once its access is answered and its store queue empty (R884). -/
def State.coreResetNow (s : State) (d c : Nat) : State :=
  let x := s.core d c
  match x.resetReq, x.wait with
  | some _, .resp .. => s
  | some run, _ => if x.sq.isEmpty then s.coreClear d c run else s
  | none, _ => s

/-- A reset of a core begins: the instruction under way is abandoned (R884). -/
def State.coreReset (s : State) (d c : Nat) (run : Bool) : State :=
  let x := s.core d c
  let w := match x.wait with | .resp t r => CoreWait.resp t r | _ => .idle
  (s.setCore d c { x with resetReq := some run, wait := w }).coreResetNow d c

/-- STORE_QUEUE_ISSUE (R850, R884): the oldest entry leaves as a posted write; a core that waits for room or for an empty
queue goes on. -/
def execStoreQueueIssue (d c : Nat) (s : State) : Out :=
  let x := s.core d c
  .next (match x.sq with
    | [] => s
    | (a, w) :: rest =>
      let s := (s.post d (16 + c) a [w]).setCore d c { x with sq := rest }
      if x.resetReq.isSome then s.coreResetNow d c
      else match x.wait with
        | .room a' w' => (s.setCore d c { x with sq := rest ++ [(a', w')] }).unblock d c
        | .sync => if rest.isEmpty then s.unblock d c else s
        | _ => s)

/-- A response reaches a core (R851, R884): RD and T; one given under Table 9-7 writes data 0, T 0b10 and GERR. -/
def State.coreResponse (s : State) (d c rtag status : Nat) (ws : List TWord) : State :=
  let x := s.core d c
  match x.wait with
  | .resp t rd =>
    if t ≠ rtag then s
    else if x.resetReq.isSome then (s.setCore d c { x with wait := .idle }).coreResetNow d c
    else
      let w := if status = 0 then ws.getD 0 noWord else noWord
      let s := if status = 0 then s else s.wf F.SEQ_STAT_GERR 1 d c
      ((s.setG d c rd w.data).setT d c w.tag).unblock d c
  | _ => s

/-! ## Control -/

/-- A halted core executes one instruction, or takes an interrupt due under STEP_IRQ, and halts (R865, R866, R880). -/
def State.seqStep (s : State) (d c : Nat) : State :=
  let n := s.coreElapsed d c
  let s := ((s.addCycles d c n).wf F.SEQ_STAT_STATE 1 d c).wf F.SEQ_CTL_STEP 1 d c
  let s := s.setCore d c { s.core d c with stepping := true, fresh := true, bp := none }
  match (if s.rb F.SEQ_CTL_STEP_IRQ d c then s.intDue d c else none) with
  | some v => s.seqInterrupt d c v
  | none =>
    let f := s.peekFetch d c
    let s := s.fetch d c
    match f with
    | .instr w op => s.seqExec d c w op
    | .illegal => s.seqException d c 0
    | .invalid => s.seqException d c 1

/-- RUN = 0 written to a core that is not halted (R864, R878): at once at a boundary or in WAIT, else after its access. -/
def State.seqHaltReq (s : State) (d c : Nat) : State :=
  if s.seqState d c = 1 then
    match s.fetchBp d c with | some n => s.bpHalt d c n | none => s.coreHalt d c 1
  else if s.seqState d c = 2 then (s.addCycles d c (s.coreElapsed d c)).coreHalt d c 1
  else (s.wf F.SEQ_CTL_RUN 0 d c).setCore d c { s.core d c with haltReq := true }

/-- A fault reaction halts a core that is not halted, a core that waits for an access once the access is complete (R864, R888). -/
def State.seqFaultHalt (s : State) (d c : Nat) : State :=
  if s.seqState d c = 0 ∨ (s.core d c).resetReq.isSome then s
  else if s.seqState d c = 3 then (s.wf F.SEQ_CTL_RUN 0 d c).setCore d c { s.core d c with haltReq := true, haltFault := true }
  else if s.seqState d c = 2 then (s.addCycles d c (s.coreElapsed d c)).coreHalt d c 7
  else s.coreHalt d c 7

/-- A halted core resumes at SEQ_PC (R864, R866). -/
def State.coreStart (s : State) (d c : Nat) : State :=
  let n := s.coreElapsed d c
  let s := ((s.addCycles d c n).wf F.SEQ_CTL_RUN 1 d c).wf F.SEQ_STAT_STATE 1 d c
  s.setCore d c { s.core d c with fresh := true, bp := none }

/-- The cycles of a halted core up to now are counted at the frequency that it had. -/
def State.countHalted (s : State) (d c : Nat) : State :=
  let t := s.addCycles d c (s.coreElapsed d c)
  t.setCore d c { s.core d c with since := s.now }

/-- A write of SEQ_CTL; `hwHalt` where hardware halts the core in the same owner cycle (R864, R865, R879, R891, R893). -/
def State.writeSeqCtl (s : State) (d c w : Nat) (hwHalt : Bool) : State :=
  let halted := s.seqState d c == 0
  let s := if halted then (s.countHalted d c).wf F.SEQ_CTL_FREQ (min 120 (bits w 7 0)) d c else s
  let s := s.wf F.SEQ_CTL_STEP_IRQ (bits w 44 44) d c
  let run := bit w 45 && !hwHalt
  if bit w 47 then (s.wf F.SEQ_CTL_RESET 1 d c).coreReset d c run
  else if (s.core d c).resetReq.isSome then s
  else if halted then
    if run then s.coreStart d c
    else if bit w 46 && !bit w 45 then s.seqStep d c
    else s
  else if (s.core d c).stepping then s
  else if !bit w 45 then s.seqHaltReq d c
  else if !run || (s.core d c).haltFault then s
  else (s.wf F.SEQ_CTL_RUN 1 d c).setCore d c { s.core d c with haltReq := false }

/-- A write of SEQ_CTL as a command (R75). -/
def seqCtlOut (d c : Nat) (w : TWord) (hwHalt : Bool) (s : State) : State :=
  if w.tag.toNat < 2 then s.writeSeqCtl d c w.data.toNat hwHalt
  else s.regRefuse d (w.tag.toNat - 2) true (0x0F020000 + c * 0x400)

/-- SEQ_HALT_REQUEST (R864, R878). -/
def execSeqHaltRequest (d c : Nat) (w : TWord) (hwHalt : Bool) (s : State) : Out := .next (seqCtlOut d c w hwHalt s)
/-- SEQ_RESUME (R864, R866, R879). -/
def execSeqResume (d c : Nat) (w : TWord) (hwHalt : Bool) (s : State) : Out := .next (seqCtlOut d c w hwHalt s)
/-- SEQ_STEP (R865, R866, R879). -/
def execSeqStep (d c : Nat) (w : TWord) (hwHalt : Bool) (s : State) : Out := .next (seqCtlOut d c w hwHalt s)
/-- SEQ_CTL_RESET (R884, R891). -/
def execSeqCtlReset (d c : Nat) (w : TWord) (hwHalt : Bool) (s : State) : Out := .next (seqCtlOut d c w hwHalt s)

/-! ## Memory access through registers -/

/-- ADDR steps by one, modulo the memory's size (R868). -/
def State.memAddrStep (s : State) (d c : Nat) : State :=
  let a := s.rf F.SEQ_MEM_ADDR_ADDR d c
  s.wf F.SEQ_MEM_ADDR_ADDR (if s.rb F.SEQ_MEM_ADDR_IMEM d c then (a + 1) % 8192 else (a + 1) % 4096) d c

/-- The protected address that SEQ_MEM_ADDR selects. -/
def State.memAddr (s : State) (d c : Nat) : Nat :=
  let a := s.rf F.SEQ_MEM_ADDR_ADDR d c
  if s.rb F.SEQ_MEM_ADDR_IMEM d c then imemAddr c a else dmemAddr c a

/-- A read of SEQ_MEM_DATA: the data it returns and the state after (R868, R885). -/
def State.readMemData (s : State) (d c : Nat) : Nat × State :=
  if s.seqState d c ≠ 0 then (0, s.wf F.SEQ_MEM_ADDR_TAG 2 d c)
  else
    let r := s.readWord d (s.memAddr d c) .read true
    let s := (r.2.2.wf F.SEQ_MEM_ADDR_TAG r.1.tag.toNat d c).wf F.SEQ_MEM_ADDR_UE (b2n r.2.1) d c
    (r.1.data.toNat, (s.ww .SEQ_MEM_DATA r.1.data.toNat d c).memAddrStep d c)

/-- A write of SEQ_MEM_DATA (R867, R868, R885). -/
def State.writeMemData (s : State) (d c w : Nat) : State :=
  if s.seqState d c ≠ 0 then s
  else
    let t := BitVec.ofNat 2 (s.rf F.SEQ_MEM_ADDR_TAG d c)
    ((s.storeWord d (s.memAddr d c) ⟨BitVec.ofNat 48 w, t⟩).ww .SEQ_MEM_DATA (w % 2 ^ 48) d c).memAddrStep d c

/-- SEQ_MEM_DATA_READ (R868, R885). -/
def execSeqMemDataRead (d c : Nat) (s : State) : Out := .next (s.readMemData d c).2

/-- SEQ_MEM_DATA_WRITE (R868, R885). -/
def execSeqMemDataWrite (d c : Nat) (w : TWord) (s : State) : Out :=
  .next (if w.tag.toNat < 2 then s.writeMemData d c w.data.toNat
    else s.regRefuse d (w.tag.toNat - 2) true (0x0F020000 + c * 0x400 + 4))

/-- A write of SEQ_PC, a general register or a special-register mirror: stored only while the core is halted (R867, R892). -/
def State.writeSeqReg (s : State) (n : RegName) (d c j w : Nat) : State :=
  if s.seqState d c ≠ 0 then s
  else match n with
    | .SEQ_PC => s.setSeqPc d c (w % 8192)
    | .SEQ_SR => s.wsr d c j (w % 2 ^ 48)
    | _ => s.ww n (w % 2 ^ 48) d c j

end Sys2Proof.Machine
end

