-- ==== Sys2Proof/Machine/Faults.lean ====
section
/-!
DEFINITION. The fault manager: arrival, classification, reactions, records, shadows (chapter 18).
-/
namespace Sys2Proof.Machine

/-- The state with the fault manager replaced. -/
def State.setFm (s : State) (f : Fm) : State := { s with fm := f }

/-- A source that nothing has happened to. -/
def FmSrc.init : FmSrc := ⟨0, 0, 0, 0, 0, 0, 0, 0⟩

/-- What the manager keeps of source `n`. -/
def State.fmSrc (s : State) (n : Nat) : FmSrc := mget s.fm.srcs n FmSrc.init

/-- The state with that replaced. -/
def State.setFmSrc (s : State) (n : Nat) (x : FmSrc) : State := s.setFm { s.fm with srcs := mset s.fm.srcs n x FmSrc.init }

/-- The waiting events of source `n` (R990). -/
def State.fmWaiting (s : State) (n : Nat) : List FaultEv := mget s.fm.waiting n []

/-- The state with those replaced. -/
def State.setFmWaiting (s : State) (n : Nat) (l : List FaultEv) : State := s.setFm { s.fm with waiting := mset s.fm.waiting n l [] }

/-! ## Records -/

/-- A fault record (Table 18-5). -/
def mkRec (time n sev kind : Nat) (forced : Bool) (die unit root react detail count epoch seq : Nat) : FaultRec :=
  ⟨time % 2 ^ 48,
    n * 2 ^ 40 + sev % 4 * 2 ^ 38 + kind % 4 * 2 ^ 36 + b2n forced * 2 ^ 35 + die % 8 * 2 ^ 32 + unit % 65536 * 2 ^ 16 + root % 256 * 2 ^ 8
      + react % 128,
    detail % 2 ^ 48, min 65535 count * 2 ^ 32 + epoch % 256 * 2 ^ 24 + seq % 65536⟩

/-- SEV of a record. -/
def FaultRec.sev (r : FaultRec) : Nat := bits r.w1 39 38
/-- KIND of a record. -/
def FaultRec.kind (r : FaultRec) : Nat := bits r.w1 37 36
/-- SOURCE of a record. -/
def FaultRec.source (r : FaultRec) : Nat := bits r.w1 47 40

/-- The list without its element `k`. -/
def dropAt {A : Type} (l : List A) (k : Nat) : List A := l.take k ++ l.drop (k + 1)

/-- A record is written to the log, which drops it or displaces another when it is full (R1015). The answer is its SEQ, 0
where it was dropped. `mk` makes the record from its SEQ. -/
def State.logRec (s : State) (mk : Nat → FaultRec) : Nat × State :=
  let q := s.fm.seq
  let r := mk q
  let put := fun (s : State) (log : List FaultRec) => s.setFm { s.fm with log := log ++ [r], seq := (q + 1) % 65536 }
  let lost := fun (s : State) (x : FaultRec) =>
    let s := s.incE F.FM_LOG_LOST_CNT_COUNT 0
    if x.source = FaultSrc.faultLogOverflow.num then s else s.raise .faultLogOverflow 0 0
  if s.fm.log.length < 256 then (q, put s s.fm.log)
  else if r.kind ≠ 3 && 2 ≤ r.sev then
    match s.fm.log.findIdx? fun x => x.sev < 2 with
    | none => (0, lost s r)
    | some k =>
      let x := s.fm.log.getD k r
      (q, lost (put s (dropAt s.fm.log k)) x)
  else (0, lost s r)

/-! ## Arrival -/

/-- DIE and UNIT of an event of source `n` by its unit kind (Table 18-1). -/
def normUnit (n die unit : Nat) : Nat × Nat :=
  match (faultSpec n).kind with
  | .dev => (0, 0)
  | .die => (die, if n = 13 then unit else 0)
  | .lane => (0, unit) | .mac => (0, unit) | .dram => (0, unit) | .slink => (0, unit) | .chan => (0, unit)
  | .inst => (0, unit) | .lineIo => (0, unit)
  | _ => (die, unit)

/-- Whether an event borders a shadow (Table 18-4). -/
def State.borders (s : State) (e : FaultEv) (x : Shadow) : Bool :=
  match e.src with
  | .eventLap => e.die == x.die && (e.unit == x.island || (List.range 4).any fun p => neighbour x.island p == some e.unit)
  | .channelStall => e.die == x.die && (e.unit == x.island || (List.range 4).any fun p => neighbour x.island p == some e.unit)
  | .windowReadAbandoned => e.die == x.die && e.unit == x.island
  | .blockMemoryWriteCollision => e.die == x.die && e.unit == x.island
  | .scratchpadBankStarvation => e.die == x.die
  | .transportTimeout => e.req == some (x.die, x.island)
  | .transportUnmapped => e.req == some (x.die, x.island)
  | .streamContextError => F.CTX_STAT_CAUSE.get (BitVec.ofNat 48 e.detail) == 3 && e.near.contains (x.die, x.island)
  | .saetteTxOverflow => (List.range 16).any fun i => (s.instIslands i).contains (x.die, x.island) && (s.instChannels i).contains e.unit
  | _ => false

/-- The shadow that takes an event: of those it borders the one with the lowest die and island (R1113). -/
def State.shadowOf (s : State) (e : FaultEv) : Option Shadow :=
  (s.shadows.filter fun x => s.borders e x).foldl (fun b x => match b with
    | none => some x
    | some y => if 16 * x.die + x.island < 16 * y.die + y.island then some x else b) none

/-- An event is added to a shadow's sums (R1012). -/
def Shadow.add (x : Shadow) (n : Nat) (e : FaultEv) : Shadow :=
  if x.sums.any fun y => y.1 == n then { x with sums := x.sums.map fun y => if y.1 = n then (n, y.2.1 + 1, y.2.2) else y }
  else { x with sums := x.sums ++ [(n, 1, e)] }

/-- FORCE of a source is cleared when its forced event is taken (Table 18-8). -/
def State.forceTaken (s : State) (e : FaultEv) : State := if e.forced then s.wf F.FM_SRC_CTL_FORCE 0 0 e.src.num else s

/-- FAULT_EVENT (R989, R990, R999, R1011, R1113): event `k` of those on their way reaches the fault manager. -/
def execFaultEvent (k : Nat) (s : State) : Out :=
  .next (match s.faultLine[k]? with
    | none => s
    | some e =>
      let n := e.src.num
      let u := normUnit n e.die e.unit
      let e := { e with time := s.now, epoch := s.rf F.TB_EPOCH_EPOCH 0 % 256, die := u.1, unit := u.2 }
      let s : State := { s with faultLine := dropAt s.faultLine k }
      let s := s.incE F.FM_SRC_CNT_COUNT 0 n
      if !s.rb F.FM_SRC_CTL_EN 0 n then s.forceTaken e
      else match s.shadowOf e with
        | some x =>
          let s := (s.incE F.FM_SHADOW_CNT_COUNT 0).forceTaken e
          { s with shadows := s.shadows.map fun y => if y.die = x.die ∧ y.island = x.island then y.add n e else y }
        | none =>
          if (s.fmWaiting n).length < 65535 then s.setFmWaiting n (s.fmWaiting n ++ [e])
          else (s.setFmSrc n { s.fmSrc n with merged := (s.fmSrc n).merged + 1 }).forceTaken e)

/-! ## Reactions -/

/-- The reactions that a unit kind supports, bits of Table 18-3 (R991). -/
def UnitKind.mask (k : UnitKind) : Nat :=
  match k with
  | .island => 107 | .core => 107
  | .ixgPort => 119 | .lane => 119 | .mac => 119 | .dram => 119 | .slink => 119 | .chan => 119 | .ctx => 119
  | _ => 99

/-- Retry: a unit that its block has stopped is restarted (Table 18-1, R991). -/
def State.reactRetry (s : State) (k : UnitKind) (die unit : Nat) : State :=
  match k with
  | .ixgPort =>
    if (s.ixPeer die unit).isSome && s.rf F.IXG_STAT_STATE die unit = 0 && s.rb F.IXG_CTL_EN die unit then s.retrain die unit else s
  | .lane => if unit < s.laneCount && s.rb F.LANE_STAT_RETIRED 0 unit then s.wf F.LANE_CTL_REVIVE 1 0 unit else s
  | .mac => if unit < 4 && !s.rb F.MAC_CTL_EN 0 unit then s.writeMacCtl unit (s.rw .MAC_CTL 0 unit + 1) false else s
  | .dram => if unit < 2 && s.dramState unit = 0 && s.rb F.DRAM_CTL_EN 0 unit then s.dramTrain unit else s
  | .slink =>
    let st := s.rf F.SL_STAT_STATE 0 unit
    if unit < 8 && s.rb F.SL_CTL_EN 0 unit && (st = 0 || st = 4) then s.bringUp unit else s
  | .chan => if unit < 64 && s.rf F.SC_STAT_TX_STATE 0 unit = 0 then s.writeTxOpen unit else s
  | .ctx =>
    let e := unit / 16
    let x := unit % 16
    if s.hasDie die && e < engCount die && !s.rb F.CTX_CTL_RUN die e x && s.rf F.CTX_STAT_CAUSE die e x ≠ 0 then
      s.wf F.CTX_CTL_RUN 1 die e x else s
  | _ => s

/-- Channel retire (Table 18-1). -/
def State.reactRetire (s : State) (k : UnitKind) (die unit : Nat) : State :=
  match k with
  | .ixgPort => if (s.ixPeer die unit).isSome && s.rf F.IXG_STAT_STATE die unit ≠ 4 then (s.wf F.IXG_CTL_RETIRE 1 die unit).retire die unit else s
  | .lane => if unit < s.laneCount && !s.rb F.LANE_STAT_RETIRED 0 unit then (s.retireLane unit).lanesGone s else s
  | .mac => if unit < 4 && s.rb F.MAC_CTL_EN 0 unit then s.writeMacCtl unit (s.rw .MAC_CTL 0 unit) true else s
  | .dram => if unit < 2 && s.dramState unit ≠ 5 && s.dramState unit ≠ 6 then s.dramRetire unit else s
  | .slink =>
    if unit < 8 then
      let s := s.setFm { s.fm with shut := if s.fm.shut.contains unit then s.fm.shut else s.fm.shut ++ [unit] }
      if s.rf F.SL_STAT_STATE 0 unit = 0 then s else s.linkDown unit 0
    else s
  | .chan =>
    if unit < 64 then
      let s := s.channelFlush unit
      (s.wf F.SC_STAT_TX_STATE 0 0 unit).wf F.SC_STAT_RX_STATE 0 0 unit
    else s
  | .ctx =>
    let e := unit / 16
    if s.hasDie die && e < engCount die then s.wf F.CTX_CTL_RUN 0 die e (unit % 16) else s
  | _ => s

/-- Island reset: an island is reset with the source as the root of its shadow, unless it is held (R391); a core halts with
cause 7 (Table 18-1). -/
def State.reactReset (s : State) (k : UnitKind) (die unit root : Nat) : State :=
  match k with
  | .island => if s.fabDies.contains die && unit < 16 && !(s.island die unit).held then s.beginReset die unit root else s
  | .core => if s.fabDies.contains die && unit < 4 then s.seqFaultHalt die unit else s
  | _ => s

/-- The safe-state reaction: OUT_EN is cleared and HANDOVER_OUT falls (R957, R1003). -/
def State.safeState (s : State) : State := (s.setOutEn false).setDup { s.dup with hoOut := false }

/-- A device reset is requested; of two requests the lower cause is kept; one made during a reset joins it (R1037, R1065). -/
def State.askReset (s : State) (cause : Nat) : State :=
  if s.rst.inReset || s.rst.por then s else { s with rst := { s.rst with devReq := some (match s.rst.devReq with | none => cause | some c => min c cause) } }

/-- The reactions of an entry or a rise, and its record and notice (R1002, R1003, R1005, R1024, R1117, R1118). A record of
thermal-trip clears the trip latch (R1063). -/
def State.react (s : State) (n sev kind count : Nat) (e : FaultEv) (mask : Nat) : State :=
  let k := (faultSpec n).kind
  let eff := mask &&& k.mask
  let addr := s.rw .FM_NOTICE_ADDR 0
  let notify := bit eff 1 && s.rb F.FM_CTL_INT_EN 0 && addr ≠ 0
  let listed := if bit eff 1 && !notify then eff - 2 else eff
  let r := if bit eff 0 then s.logRec (mkRec e.time n sev kind e.forced e.die e.unit n listed e.detail count e.epoch) else (0, s)
  let r := if bit eff 0 && n = FaultSrc.thermalTrip.num then (r.1, { r.2 with rst := { r.2.rst with trip := false } }) else r
  let s := if notify then
      r.2.post 0 12 addr [dataWord (n * 2 ^ 40 + sev * 2 ^ 38 + e.die % 8 * 2 ^ 35 + e.unit % 65536 * 2 ^ 16 + r.1)]
    else r.2
  if bit eff 6 then s.askReset 4
  else
    let s := if bit eff 5 then s.safeState else s
    let s := if bit eff 2 then s.reactRetry k e.die e.unit else s
    let s := if bit eff 4 then s.reactRetire k e.die e.unit else s
    if bit eff 3 then s.reactReset k e.die e.unit n else s

/-- Classification of one event of source `n` (R994 to R996, R1002, R1020, R1021); a promotion closes the window. -/
def State.classify (s : State) (n : Nat) (e : FaultEv) : State :=
  let f := faultSpec n
  let x := s.fmSrc n
  let live := s.rb F.FM_SRC_STAT_WIN_OPEN 0 n && decide ((e.time + 2 ^ 48 - x.winAt) % 2 ^ 48 < 2 ^ x.winTexp * 1000)
  let cfgN := s.rf F.FM_SRC_CTL_N 0 n
  let windows := f.base < 2
  let opens := windows && !live && cfgN != 0
  let x := if opens then { x with winN := cfgN, winTexp := s.rf F.FM_SRC_CTL_TEXP 0 n, winAt := e.time } else x
  let count := if opens then 1 else if windows && live then s.rf F.FM_SRC_STAT_WIN_COUNT 0 n + 1 else 0
  let full := decide (0 < count) && decide (x.winN ≤ count)
  let promote := full || e.promote
  let isOpen := decide (0 < count) && !promote
  let s := (s.wf F.FM_SRC_STAT_WIN_OPEN (b2n isOpen) 0 n).wf F.FM_SRC_STAT_WIN_COUNT (if isOpen then count else 0) 0 n
  let inFault := s.rb F.FM_SRC_STAT_IN_FAULT 0 n
  let old := s.rf F.FM_SRC_STAT_SEV 0 n
  let sev := if inFault then (if promote then max old 2 else old) else if promote then max f.base 2 else f.base
  let change := !inFault || decide (old < sev)
  let mask := if change then (if sev < 2 then s.rf F.FM_SRC_CTL_REACT_BASE 0 n else s.rf F.FM_SRC_CTL_REACT_SEV 0 n) else x.react
  let merged := x.merged
  let x := { x with react := mask, lastDie := e.die, lastUnit := e.unit, lastAt := e.time, merged := if change then 0 else merged }
  let s := ((s.setFmSrc n x).wf F.FM_SRC_STAT_IN_FAULT 1 0 n).wf F.FM_SRC_STAT_SEV sev 0 n
  if change then s.react n sev (if inFault then 1 else 0) (max 1 count + merged) e mask
  else if bit (mask &&& f.kind.mask) 2 then s.reactRetry f.kind e.die e.unit
  else s

/-- FAULT_CLASSIFY (R990, R994): the next source in rotation with an event waiting is served. -/
def execFaultClassify (s : State) : Out :=
  .next (match (List.range 116).find? fun k => (s.fmWaiting ((s.fm.rot + k) % 116 + 1)) != [] with
    | none => s
    | some k =>
      let n := (s.fm.rot + k) % 116 + 1
      match s.fmWaiting n with
      | [] => s
      | e :: rest =>
        let s := (s.setFmWaiting n rest).forceTaken e
        let s := s.setFm { s.fm with rot := n }
        if s.rb F.FM_SRC_CTL_EN 0 n then s.classify n e else s)

/-- FAULT_WINDOW_CLOSE (R995). -/
def execFaultWindowClose (n : Nat) (s : State) : Out :=
  let x := s.fmSrc n
  .next (if s.rb F.FM_SRC_STAT_WIN_OPEN 0 n && 2 ^ x.winTexp * 1000 ≤ (s.now + 2 ^ 48 - x.winAt) % 2 ^ 48 then
      (s.wf F.FM_SRC_STAT_WIN_OPEN 0 0 n).wf F.FM_SRC_STAT_WIN_COUNT 0 0 n
    else s)

/-- A source becomes clear, its window closed (R997, R998). -/
def State.fmClear (s : State) (n : Nat) : State :=
  let s := (s.wf F.FM_SRC_STAT_WIN_OPEN 0 0 n).wf F.FM_SRC_STAT_WIN_COUNT 0 0 n
  (s.wf F.FM_SRC_STAT_IN_FAULT 0 0 n).wf F.FM_SRC_STAT_SEV (faultSpec n).base 0 n

/-- QUIET_PERIOD_EXPIRY (R997, R1014, R1018): not while an event of the source waits, nor at permanent. -/
def execQuietPeriodExpiry (n : Nat) (s : State) : Out :=
  let x := s.fmSrc n
  let sev := s.rf F.FM_SRC_STAT_SEV 0 n
  let quiet := s.rf F.FM_SRC_CTL_QUIET_MS 0 n * 1000000
  .next (if !s.rb F.FM_SRC_STAT_IN_FAULT 0 n || sev = 3 || s.fmWaiting n ≠ []
      || (s.now + 2 ^ 48 - x.lastAt) % 2 ^ 48 < quiet then s
    else
      let s := if bit x.react 0 then
          (s.logRec (mkRec s.now n sev 2 false x.lastDie x.lastUnit n 0 0 0 (s.rf F.TB_EPOCH_EPOCH 0))).2
        else s
      (s.fmClear n).incE F.FM_SRC_RECOV_COUNT 0 n)

/-- SHADOW_END (R1010, R1012): the shadow over an island ends, with a summary for each source shadowed in it. -/
def execShadowEnd (d i : Nat) (s : State) : Out :=
  .next (match s.shadows.find? fun x => x.die == d && x.island == i with
    | none => s
    | some x =>
      if !x.ended || 2 ^ 47 ≤ (s.now + 2 ^ 48 - x.stop) % 2 ^ 48 then s
      else
        let s : State := { s with shadows := s.shadows.filter fun y => !(y.die == d && y.island == i) }
        x.sums.foldl (fun (s : State) y =>
          if s.rb F.FM_SRC_CTL_EN 0 y.1 then
            (s.logRec (mkRec y.2.2.time y.1 (s.rf F.FM_SRC_STAT_SEV 0 y.1) 3 y.2.2.forced y.2.2.die y.2.2.unit x.root 1 y.2.2.detail
              y.2.1 y.2.2.epoch)).2
          else s) s)

/-! ## Registers -/

/-- A forced event of source `n` (R1000). -/
def State.forceEv (s : State) (n : Nat) : State :=
  let e := faultEv (FaultSrc.ofNat (n - 1)) (s.rf F.FM_SRC_RECOV_FORCE_DIE 0 n) (s.rf F.FM_SRC_RECOV_FORCE_UNIT 0 n) 0
  (s.wf F.FM_SRC_CTL_FORCE 1 0 n).raiseEv { e with forced := true }

/-- A write of FM_SRC_CTL (R998, R1000, R1019, R1020, Table 18-8); `busy` says that an event of the source is classified in
the same owner cycle, so that the source stays in fault. -/
def State.writeSrcCtl (s : State) (n w : Nat) (busy : Bool) : State :=
  let s := ((s.wf F.FM_SRC_CTL_EN (bits w 45 45) 0 n).wf F.FM_SRC_CTL_TEXP (min 26 (bits w 44 40)) 0 n).wf F.FM_SRC_CTL_N (bits w 39 32) 0 n
  let s := (s.wf F.FM_SRC_CTL_REACT_SEV (bits w 30 24) 0 n).wf F.FM_SRC_CTL_REACT_BASE (bits w 22 16) 0 n
  let s := s.wf F.FM_SRC_CTL_QUIET_MS (max 1 (min 64000 (bits w 15 0))) 0 n
  let s := if bit w 46 && !busy then s.fmClear n else s
  if bit w 47 then s.forceEv n else s

/-- A tagged write of FM_SRC_CTL (R75). -/
def srcCtlOut (n : Nat) (w : TWord) (busy : Bool) (s : State) : State :=
  if n = 0 || 116 < n then s
  else if w.tag.toNat < 2 then s.writeSrcCtl n w.data.toNat busy
  else s.regRefuse 0 (w.tag.toNat - 2) true (0x0F010100 + 4 * n)

/-- FORCE (R1000, R1019). -/
def execForce (n : Nat) (w : TWord) (busy : Bool) (s : State) : Out := .next (srcCtlOut n w busy s)

/-- CLEAR (R998, R1019). -/
def execClear (n : Nat) (w : TWord) (busy : Bool) (s : State) : Out := .next (srcCtlOut n w busy s)

/-- A write of FM_LOG_CTL (R1016). -/
def State.writeLogCtl (s : State) (w : Nat) : State :=
  if bit w 47 then s.setFm { s.fm with log := s.fm.log.drop 1 } else s

/-- POP (R1016). -/
def execPop (w : TWord) (s : State) : Out :=
  .next (if w.tag.toNat < 2 then s.writeLogCtl w.data.toNat else s.regRefuse 0 (w.tag.toNat - 2) true 0x0F010003)

/-- Whether FAULT_N is low (R1004). -/
def State.faultN (s : State) : Bool := (List.range 116).any fun k => s.rb F.FM_SRC_STAT_IN_FAULT 0 (k + 1) && decide (2 ≤ s.rf F.FM_SRC_STAT_SEV 0 (k + 1))

/-- A reset other than power-on: every source becomes clear, every shadow ends, without records (R1029). -/
def State.fmReset (s : State) : State :=
  let s : State := (List.range 116).foldl (fun s k => s.fmClear (k + 1)) s
  { s with shadows := [] }

end Sys2Proof.Machine
end

