-- ==== Sys2Proof/Machine/Flash.lean ====
section
/-!
DEFINITION. The flash: slots, the write journal, the NV store, erase counts and flash operations (R360 to R371, R393 to
R404).
-/
namespace Sys2Proof.Machine

/-- A flash byte; an erased byte reads 0xFF. -/
def State.flashByte (s : State) (a : Nat) : Nat := mget s.cfg.flash a 0xFF

/-- `n` flash bytes from address `a`. -/
def State.flashBytes (s : State) (a n : Nat) : List Nat := (List.range n).map fun k => s.flashByte (a + k)

/-- Bytes programmed from address `a`: programming only clears bits. -/
def State.flashProgram (s : State) (a : Nat) (bs : List Nat) : State :=
  s.setCfg { s.cfg with flash := (bs.foldl (fun (r : SMap Nat × Nat) b =>
    (mset r.1 r.2 (mget r.1 r.2 0xFF &&& (b % 256)) 0xFF, r.2 + 1)) (s.cfg.flash, a)).1 }

/-- A 4 KiB sector erased. -/
def State.flashErase (s : State) (a : Nat) : State :=
  let b := a / 4096
  s.setCfg { s.cfg with flash := s.cfg.flash.filter fun e => e.1 / 4096 != b }

/-- Base and size of a slot: indices of Table 7-7, 5 golden and 6 update firmware, 7 the directory and its copy (R362, R363). -/
def State.slot (s : State) (i : Nat) : Nat × Nat := if i = 7 then (0, 8192) else mget s.cfg.slots i (0, 0)

/-- The slot that a flash address lies in; 8 where it lies in none. -/
def State.slotOf (s : State) (a : Nat) : Nat :=
  ((List.range 8).find? fun i => let b := s.slot i; b.1 ≤ a && a < b.1 + b.2).getD 8

/-- The erase count of a slot (R369). -/
def State.eraseCnt (s : State) (i : Nat) : Nat := mget s.cfg.erases i 0

/-- The endurance limit (R370). -/
def State.endurance (s : State) : Nat := s.rf F.CFG_ENDURANCE_LIMIT 0

/-- Whether a slot is retired (R370). -/
def State.retired (s : State) (i : Nat) : Bool := i < 5 && bit (s.rf F.CFG_NV_STAT_RETIRED 0) i

/-- A slot's erase count set, with its copy in CFG_ERASE_CNT (R413). -/
def State.setErase (s : State) (i n : Nat) : State :=
  let s := s.setCfg { s.cfg with erases := mset s.cfg.erases i n 0 }
  if i < 5 then s.wf F.CFG_ERASE_CNT_COUNT n 0 i else s

/-- A slot whose count equals the limit becomes retired (R370, R404). -/
def State.retireFull (s : State) (i : Nat) : State :=
  if i < 5 && s.eraseCnt i == s.endurance && !s.retired i then
    let s := s.wf F.CFG_NV_STAT_RETIRED (s.rf F.CFG_NV_STAT_RETIRED 0 ||| 2 ^ i) 0
    s.raise .nvSlotRetired 0 0 (s.rw .CFG_NV_STAT 0)
  else s

/-- Whether a slot may be written only while GOLDEN_OPEN is 1 (R371, Table 14-10). -/
def needsGolden (i : Nat) : Bool := i == 0 || i == 5 || i == 7

/-- Whether GOLDEN_OPEN is 1. -/
def State.goldenOpen (s : State) : Bool := s.rb F.CFG_NV_STAT_GOLDEN_OPEN 0

/-! ## The journal -/

/-- A 16-byte journal record programmed at the next place of the circle (Table 7-8). -/
def State.journalPut (s : State) (ty slot addr crc : Nat) : State :=
  let b := [ty, slot, 0, 0] ++ leBytes 4 addr ++ leBytes 4 crc
  let s := s.flashProgram ((s.slot 3).1 + s.cfg.jput) (b ++ leBytes 4 (crc32c b))
  s.setCfg { s.cfg with jput := s.cfg.jput + 16 }

/-- The circle enters a journal sector: it is erased if it has been written, its count rises at the first sector, and one
counts record per slot opens it (R366, R369). -/
def State.journalSector (s : State) : State :=
  let a := (s.slot 3).1 + s.cfg.jput
  let s := if s.cfg.flash.any (fun e => e.1 / 4096 == a / 4096) then
      let s := s.flashErase a
      if s.cfg.jput = 0 then (s.setErase 3 (s.eraseCnt 3 + 1)).retireFull 3 else s
    else s
  (List.range 5).foldl (fun s i => s.journalPut 0x04 i (s.eraseCnt i) 0) s

/-- A journal record (R365, R366). An erase of the journal's first sector beyond the limit is not performed (R370). The
SLOT byte of a slot without an index is open. -/
def State.journal (s : State) (ty addr crc : Nat) : State :=
  let s := if (s.slot 3).2 ≤ s.cfg.jput then s.setCfg { s.cfg with jput := 0 } else s
  if s.cfg.jput = 0 && s.endurance ≤ s.eraseCnt 3 then s
  else
    let s := if s.cfg.jput % 4096 = 0 then s.journalSector else s
    let i := s.slotOf addr
    if i < 5 then s.journalPut ty i addr crc
    else let f := s.free; f.2.journalPut ty (f.1 % 256) addr crc

/-- A journal record as read: TYPE, SLOT, ADDRESS and DATA_CRC, if its own CRC is good. -/
def State.journalRec (s : State) (a : Nat) : Option (Nat × Nat × Nat × Nat) :=
  let b := s.flashBytes a 16
  if leNat (b.drop 12) = crc32c (b.take 12) then
    some (b.getD 0 0, b.getD 1 0, leNat ((b.drop 4).take 4), leNat ((b.drop 8).take 4)) else none

/-- The written blocks of `n` bytes of a slot, rising. -/
def State.blocks (s : State) (i n : Nat) : List Nat :=
  let b := s.slot i
  (s.cfg.flash.foldl (fun (r : List Nat) e =>
    let k := (e.1 - b.1) / n
    if b.1 ≤ e.1 ∧ e.1 < b.1 + b.2 ∧ r.head? ≠ some k then k :: r else r) []).reverse

/-- The good records of the journal, oldest first. -/
def State.journalRecs (s : State) : List (Nat × Nat × Nat × Nat) :=
  let ks := s.blocks 3 16
  let p := s.cfg.jput / 16
  ((ks.filter fun k => p ≤ k) ++ ks.filter fun k => k < p).filterMap fun k => s.journalRec ((s.slot 3).1 + 16 * k)

/-- ERASE_COUNT_REBUILD (R407): counts records, and later erase intents at the first sector of a slot. -/
def State.rebuildCounts (s : State) : State :=
  s.journalRecs.foldl (fun s r =>
    if r.1 = 0x04 then s.setErase r.2.1 r.2.2.1
    else if r.1 = 0x03 then
      let i := s.slotOf r.2.2.1
      if i < 5 && r.2.2.1 == (s.slot i).1 then s.setErase i (s.eraseCnt i + 1) else s
    else s) s

/-- The INTENT record that has no DONE record, if there is one: at most one operation runs at a time (R393). -/
def State.openIntent (s : State) : Option (Nat × Nat × Nat × Nat) :=
  s.journalRecs.foldl (fun o r => if r.1 = 0x01 ∨ r.1 = 0x03 then some r else if r.1 = 0x02 then none else o) none

/-- An erase begins: INTENT, and the slot's count at its first sector (R365, R369). -/
def State.eraseBegin (s : State) (a : Nat) : State :=
  let i := s.slotOf a
  let s := s.journal 0x03 a 0
  if i < 5 && a == (s.slot i).1 then s.setErase i (s.eraseCnt i + 1) else s

/-- Whether an erase at `a` would take its slot's count above the limit (R370). -/
def State.eraseOver (s : State) (a : Nat) : Bool :=
  let i := s.slotOf a
  i < 5 && a == (s.slot i).1 && s.endurance < s.eraseCnt i + 1

/-- JOURNAL_RESOLVE (R402, R403): the open intent is completed, undone or performed again. A repair that would write the
golden slot is not performed. -/
def State.journalResolve (s : State) : State :=
  match s.openIntent with
  | none => s
  | some (ty, _, a, crc) =>
    let i := s.slotOf a
    let closed := needsGolden i && !s.goldenOpen
    if ty = 0x01 then
      if crc32c (s.flashBytes (a / 256 * 256) 256) = crc then s.journal 0x02 a 0
      else if i = 4 then
        ((s.flashProgram (a / 256 * 256) [0]).journal 0x02 a 0).raise .nvPageIncomplete 0 0
      else if closed || i == 3 || i == 8 then s
      else ((s.flashProgram (s.slot i).1 [0, 0, 0, 0]).journal 0x02 a 0).raise .nvPageIncomplete 0 0
    else if closed || s.retired i || s.eraseOver a then s
    else (((s.eraseBegin a).flashErase a).journal 0x02 a 0).retireFull i

/-! ## The NV store -/

/-- A valid page of a type: GENERATION, PART and PARTS (R367). -/
def State.nvPage (s : State) (ty k : Nat) : Option (Nat × Nat × Nat) :=
  let b := s.flashBytes ((s.slot 4).1 + 256 * k) 256
  if b.getD 0 0 = ty ∧ leNat (b.drop 252) = crc32c (b.take 252) then
    some (leNat ((b.drop 4).take 4), b.getD 1 0, leNat ((b.drop 2).take 2)) else none

/-- The valid pages of a type, with their page numbers. -/
def State.nvPages (s : State) (ty : Nat) : List (Nat × Nat × Nat × Nat) :=
  (s.blocks 4 256).filterMap fun k => (s.nvPage ty k).map fun p => (k, p)

/-- Whether the NV store has a page of a type, whatever its CRC (R330). -/
def State.nvTyped (s : State) (ty : Nat) : Bool :=
  (s.blocks 4 256).any fun k => (s.flashBytes ((s.slot 4).1 + 256 * k) 1).getD 0 0 == ty

/-- The pages of a generation in order of PART, if all are there. -/
def nvWhole (ps : List (Nat × Nat × Nat × Nat)) (gen : Nat) : Option (List Nat) :=
  match ps.find? fun p => p.2.1 == gen with
  | none => none
  | some p => (List.range p.2.2.2).mapM fun j => (ps.find? fun q => q.2.1 == gen && q.2.2.1 == j).map fun q => q.1

/-- The pages of the governing record of a type: the valid record of the highest GENERATION (R367). -/
def State.nvRecord (s : State) (ty : Nat) : Option (List Nat) :=
  let ps := s.nvPages ty
  (ps.foldl (fun (r : Option (Nat × List Nat)) p =>
    match nvWhole ps p.2.1 with
    | none => r
    | some w => if (r.map (fun x => decide (x.1 < p.2.1))).getD true then some (p.2.1, w) else r) none).map (·.2)

/-- The data bytes of the governing record of a type. -/
def State.nvData (s : State) (ty : Nat) : Option (List Nat) :=
  (s.nvRecord ty).map fun ks => ks.flatMap fun k => s.flashBytes ((s.slot 4).1 + 256 * k + 8) 244

/-- The soft repair entries of the NV store: each used entry of Table 6-7, in table order; the table has 256 places (R313,
R368). -/
def State.softEntries (s : State) : List Nat :=
  match s.nvData 2 with
  | none => []
  | some b => ((List.range 256).map fun k => leNat ((b.drop (244 * (k / 40) + 6 * (k % 40))).take 6)).filter fun e => bits e 47 46 = 1 || bits e 47 46 = 2

/-- Whether a repair entry names an array present in the part, with its reserved bits zero (R814, Table 6-7). -/
def State.repairOk (s : State) (e : Nat) : Bool :=
  let k := bits e 47 46
  let ty := bits e 45 43
  let d := bits e 42 40
  let a := bits e 39 31
  (k == 1 || k == 2) && bits e 8 0 == 0
    && (if ty ≤ 3 then s.fabDies.contains d else d == 0)
    && match ty with
      | 0 => a < 384 | 1 => a < 16 | 2 => a < 4 | 3 => a < 4 | 4 => a < 4 | 5 => a < 8 | _ => false

/-- The base of an array of a repair entry, with words per row and the spare rows and columns of Table 6-6. -/
def repairArr (e : Nat) : Nat × Nat × Nat × Nat × Nat :=
  let a := bits e 39 31
  match bits e 45 43 with
  | 0 => (bmAddr (a / 24) (a % 24) 0, 128, 8, 2, 2)
  | 2 => (imemAddr a 0, 512, 16, 4, 2)
  | 3 => (dmemAddr a 0, 256, 16, 2, 2)
  | 5 => (sbufAddr (a * 32768), 1024, 32, 8, 4)
  | _ => (a * 32768, 1024, 32, 8, 4)

/-- Whether a repair entry is valid (R332): it names an array present, and a row or column of that array. An entry that names a row
or column which its array does not have is not applied and not counted (DESIGN CHOICE, log 173). -/
def State.repairValid (s : State) (e : Nat) : Bool :=
  let a := repairArr e
  s.repairOk e && (if bits e 47 46 = 1 then decide (bits e 30 20 < a.2.1) else decide (bits e 19 9 < a.2.2.1 * 58))

/-- The valid entries of the soft repair table (R332, R339). -/
def State.softValid (s : State) : List Nat := s.softEntries.filter s.repairValid

/-- SOFT_USED follows the table once the firmware has read it (R339). -/
def State.softView (s : State) : State :=
  if s.rb F.REPAIR_STAT_DONE 0 then s.wf F.REPAIR_STAT_SOFT_USED s.softValid.length 0 else s

/-- The soft repair table with an entry added, as a record of 7 parts (R368). -/
def softRecord (es : List Nat) : List Nat :=
  (List.range 7).flatMap fun k =>
    ((List.range 40).flatMap fun j => leBytes 6 (es.getD (40 * k + j) 0)) ++ [0, 0, 0, 0]

/-- Pages for a new record: free pages of the circle from the next place on, a sector without any page of a governing
record being erased for it. -/
def State.nvAlloc (s : State) (need : Nat) : List Nat × List Nat :=
  let n := (s.slot 4).2 / 256
  let used := s.blocks 4 256
  let live := ([1, 2, 3].flatMap fun ty => (s.nvRecord ty).getD []).map (· / 16)
  (List.range n).foldl (fun (r : List Nat × List Nat) k =>
    let p := (s.cfg.nvPut + k) % n
    if need ≤ r.1.length then r
    else if !used.contains p || r.2.contains (p / 16) then (r.1 ++ [p], r.2)
    else if p % 16 = 0 ∧ !live.contains (p / 16) then (r.1 ++ [p], r.2 ++ [p / 16])
    else r) ([], [])

/-- One page of a record (R367). -/
def nvPageBytes (ty gen part parts : Nat) (data : List Nat) : List Nat :=
  let d := (data.drop (244 * part)).take 244
  let b := [ty, part] ++ leBytes 2 parts ++ leBytes 4 gen ++ d ++ List.replicate (244 - d.length) 0
  b ++ leBytes 4 (crc32c b)

/-- Flash operations that write a new generation of a type, if the store has room (R367). -/
def State.nvOps (s : State) (ty : Nat) (data : List Nat) : Option (List FlashOp × Nat) :=
  let parts := (data.length + 243) / 244
  let gen := (s.nvPages ty).foldl (fun g p => max g p.2.1) 0 + 1
  let a := s.nvAlloc parts
  if a.1.length < parts then none
  else
    let b := (s.slot 4).1
    some (a.2.map (fun e => FlashOp.erase (b + 4096 * e))
        ++ a.1.mapIdx (fun j p => FlashOp.program (b + 256 * p) (nvPageBytes ty gen j parts data)),
      (a.1.getLast?.getD 0 + 1) % ((s.slot 4).2 / 256))

/-! ## NV work -/

/-- NV_BUSY follows the work waiting and in progress (R412). -/
def State.nvView (s : State) : State := s.wf F.CFG_NV_STAT_NV_BUSY (b2n (!s.cfg.jobs.isEmpty || s.cfg.active.isSome)) 0

/-- NV work joins those waiting; it goes behind a load requested earlier (R393). -/
def State.addJob (s : State) (ops : List FlashOp) (owner : Option (Nat × Nat)) : State :=
  (s.setCfg { s.cfg with jobs := s.cfg.jobs ++ [⟨ops, false, owner, s.cfg.load.isSome⟩] }).nvView

/-- The job at the head ends; a load that waited for it moves up. -/
def State.endJob (s : State) (j : NvJob) (status detail : Nat) : State :=
  let l := s.cfg.load.map fun l => { l with after := l.after - 1 }
  (((s.setCfg { s.cfg with jobs := s.cfg.jobs.drop 1, load := l }).nvView).softView).cabJobEnd j.owner status detail

/-- NV work that is not allowed ends refused (R370, R371, R404). -/
def State.refuseJob (s : State) (j : NvJob) (detail : Nat) : State := (s.endJob j 7 detail).raise .nvWriteRefused 0 0

/-- Whether an NV operation may begin: none in progress, no die at throttle or above, no shutdown (R393, R396). -/
def State.nvMayBegin (s : State) (j : NvJob) : Bool :=
  s.cfg.active.isNone && (!j.behind || s.cfg.load.isNone) && s.rf F.RST_STAT_STATE 0 != 3
    && (List.range 5).all fun d => s.rf F.THERM_DIE_LEVEL 0 d < 2

/-- Whether the operation's slot is closed or, for a job not begun, it or the journal is retired: the detail of the refusal. -/
def State.opRefused (s : State) (j : NvJob) (a : Nat) : Option Nat :=
  let i := s.slotOf a
  if needsGolden i && !s.goldenOpen then some 0x09
  else if !j.begun && (s.retired i || s.retired 3) then some 0x02
  else none

/-- The operation at the head of the work begins. -/
def State.opBegin (s : State) (j : NvJob) (op : FlashOp) : State :=
  (s.setCfg { s.cfg with active := some op, jobs := { j with begun := true } :: s.cfg.jobs.drop 1 }).nvView

/-- The operation in progress is done: its DONE record, and the end of its job if it was the last (R365). -/
def State.opDone (s : State) (a : Nat) : State :=
  let s := s.journal 0x02 a 0
  let s := s.setCfg { s.cfg with active := none }
  match s.cfg.jobs with
  | [] => s.nvView
  | j :: rest =>
    let s := s.setCfg { s.cfg with jobs := { j with ops := j.ops.drop 1 } :: rest }
    if j.ops.length ≤ 1 then s.endJob j 0 0 else s.nvView

/-- FLASH_PAGE_PROGRAM (R365, R371, R393, R396, R404). -/
def execFlashPageProgram (s : State) : Out :=
  .next (match s.cfg.jobs with
    | [] => s
    | j :: _ =>
      match j.ops with
      | .program a page :: _ =>
        if !s.nvMayBegin j then s
        else match s.opRefused j a with
          | some d => s.refuseJob j d
          | none => (s.journal 0x01 a (crc32c page)).opBegin j (.program a page)
      | _ => s)

/-- The page program in progress completes (R365, R394). -/
def State.programDone (s : State) : State :=
  match s.cfg.active with
  | some (.program a page) => ((s.flashProgram a page).wf F.CFG_NV_STAT_SHUTDOWN_DEFER 0 0).opDone a
  | _ => s

/-- FLASH_PROGRAM_COMPLETE (R365, R394). -/
def execFlashProgramComplete (s : State) : Out := .next s.programDone

/-- FLASH_SECTOR_ERASE (R365, R369 to R371, R393, R396, R404). -/
def execFlashSectorErase (s : State) : Out :=
  .next (match s.cfg.jobs with
    | [] => s
    | j :: _ =>
      match j.ops with
      | .erase a :: _ =>
        if !s.nvMayBegin j then s
        else match s.opRefused j a with
          | some d => s.refuseJob j d
          | none => if s.eraseOver a then s.refuseJob j 0x02 else (s.eraseBegin a).opBegin j (.erase a)
      | _ => s)

/-- Whether a flash operation is an erase. -/
def FlashOp.isErase (o : FlashOp) : Bool := match o with | .erase _ => true | .program .. => false

/-- FLASH_ERASE_COMPLETE (R365, R399, R404): after the last erase of its work a slot at its limit is retired. -/
def execFlashEraseComplete (s : State) : Out :=
  .next (match s.cfg.active with
    | some (.erase a) =>
      let i := s.slotOf a
      let more := (s.cfg.jobs.head?.map fun j => (j.ops.drop 1).any FlashOp.isErase).getD false
      let s := (s.flashErase a).opDone a
      if more then s else s.retireFull i
    | _ => s)

/-- An operation is cut by a loss of power or a reset: what it leaves in the flash is open, within what a flash can do
(R395, R1039). -/
def State.opCut (s : State) : State :=
  let n := s.freeCtr
  let f := fun k => (Config.freeValue (n + k)).toNat % 256
  match s.cfg.active with
  | none => s
  | some (.program a page) =>
    let s := s.flashProgram a (page.mapIdx fun k b => b ||| f k)
    { s.setCfg { s.cfg with active := none } with freeCtr := n + page.length }
  | some (.erase a) =>
    let fl := (List.range 4096).foldl (fun m k => mset m (a / 4096 * 4096 + k) (f k) 0xFF) s.cfg.flash
    { s.setCfg { s.cfg with active := none, flash := fl } with freeCtr := n + 4096 }

/-! ## The directory and the firmware slots -/

/-- The entries of a flash directory, if it is valid (R362, R363): TYPE, BASE, SIZE. An entry of a TYPE outside Table 7-7 makes it
invalid. -/
def parseDirectory (b : List Nat) : Option (List (Nat × Nat × Nat)) :=
  let n := b.getD 6 0
  let e := fun k => (b.drop (8 + 16 * k)).take 16
  let es := (List.range n).map fun k => ((e k).getD 0 0, leNat (((e k).drop 4).take 4), leNat (((e k).drop 8).take 4))
  let zero := (List.range n).all fun k => (((e k).drop 1).take 3 ++ (e k).drop 12).all (· == 0)
  let once := [3, 4, 5, 6, 7].all fun ty => (es.filter fun x => x.1 == ty).length == 1
  let sizes := es.all fun x => 1 ≤ x.1 && x.1 ≤ 7 && x.2.1 % 65536 == 0 && x.2.2 % 65536 == 0 && (x.1 != 6 || 65536 ≤ x.2.2)
    && (x.1 != 7 || 262144 ≤ x.2.2)
  if leNat (b.take 4) = 0x0D1EC7A1 ∧ leNat ((b.drop 4).take 2) = 1 ∧ 1 ≤ n ∧ n ≤ 16 ∧ b.getD 7 0 = 0 ∧ zero ∧ once ∧ sizes
      ∧ leNat ((b.drop (8 + 16 * n)).take 4) = crc32c (b.take (8 + 16 * n)) then some es else none

/-- The slot index of a directory TYPE (Table 7-7). -/
def slotOfType (ty : Nat) : Nat := if ty = 1 then 5 else if ty = 2 then 6 else ty - 3

/-- The directory is read: copy 0 if it is valid, else copy 1 (R362). -/
def State.readDirectory (s : State) : State :=
  let d := match parseDirectory (s.flashBytes 0 4096) with
    | some es => some es
    | none => parseDirectory (s.flashBytes 4096 4096)
  match d with
  | none => s.setCfg { s.cfg with dirOk := false, slots := [] }
  | some es => s.setCfg { s.cfg with
      dirOk := true
      slots := (es.filter fun x => 1 ≤ x.1 ∧ x.1 ≤ 7).foldl (fun m x => mset m (slotOfType x.1) (x.2.1, x.2.2) (0, 0)) [] }

/-- Whether bytes hold an accepted firmware image (R1045, R1046). -/
def State.fwAccepted (s : State) (b : List Nat) : Bool :=
  let h := b.take 256
  let n := leNat ((h.drop 12).take 4)
  let body := (b.drop 256).take n
  leNat (h.take 4) == 0x3A5EF1A0 && leNat ((h.drop 4).take 4) == 1 && (h.drop 176).all (· == 0) && h.length == 256
    && 4 ≤ n && n ≤ 1048576 && n % 4 == 0 && body.length == n
    && sha256 ((h.drop 48).take 64) == s.cfg.fwKeyHash
    && sigGood (beNat ((h.drop 48).take 64)) (sha256 (h.take 112)) (beNat ((h.drop 112).take 64))
    && sha256 body == beNat ((h.drop 16).take 32)

/-- The bytes of a firmware slot: its header and its body. -/
def State.fwBytes (s : State) (i : Nat) : List Nat :=
  let b := (s.slot i).1
  let n := leNat (s.flashBytes (b + 12) 4)
  s.flashBytes b (256 + min n 1048576)

/-- Whether a firmware slot holds an accepted image. -/
def State.fwSlotOk (s : State) (i : Nat) : Bool := s.cfg.dirOk && (s.slot i).2 != 0 && s.fwAccepted (s.fwBytes i)

end Sys2Proof.Machine
end

