-- ==== Sys2Proof/Machine/Loader.lean ====
section
/-!
DEFINITION. Images, the configuration loader and the Sparge engine (R340 to R359, R372 to R392, R401).
-/
namespace Sys2Proof.Machine

/-! ## Configuration memory -/

/-- The state with a word of configuration memory replaced. -/
def State.setCfgCell (s : State) (a : Nat) (c : Cell) : State :=
  s.setCfg { s.cfg with cmem := mset s.cfg.cmem a c (cfgInit a) }

/-- A frame written through the frame port, with a fresh trailer (R341, R378). -/
def State.writeFrame (s : State) (d i f : Nat) (ws : List Nat) : State :=
  let put := fun (s : State) (k v : Nat) =>
    let a := cfgAddr d i f k
    let w := dataWord v
    s.setCfgCell a ⟨w, checkOf w a⟩
  let s : State := (List.range 128).foldl (fun s k => put s k (ws.getD k 0)) s
  put s 128 (crc32c (ws.flatMap fun v => leBytes 6 v))

/-- The position of DIO cell 0 of an island among the die's cells, if it is an edge island (Table 4-7). -/
def dioBase (i : Nat) : Option Nat := (indexOf? dioIslands i).map (4 * ·)

/-- The safe-state codes of an island's DIO cells stored (R1007). -/
def State.setDioSafe (s : State) (d i codes : Nat) : State :=
  match dioBase i with
  | none => s
  | some b =>
    let n := if b < 24 then RegName.DIO_SAFE_LO else RegName.DIO_SAFE_HI
    let w := s.rw n d
    let lo := 2 * (b % 24)
    s.ww n (w / 2 ^ (lo + 8) * 2 ^ (lo + 8) + codes % 256 * 2 ^ lo + w % 2 ^ lo) d

/-- An island cleared to the state of R227, and its map bits 0 (R350, R374, R405, R1007). -/
def State.clearIsland (s : State) (d i : Nat) : State :=
  let lo := cfgAddr d i 0 0 / 0x8000
  let s := s.setCfg { s.cfg with
    cmem := s.cfg.cmem.filter fun e => e.1 / 0x8000 != lo
    emap := (List.range 80).foldl (fun m f => mset m (key3 d i f) 0 0) s.cfg.emap
    origin := mset s.cfg.origin (key2 d i) 7 7
    ctl := mset s.cfg.ctl (key2 d i) (0, 0) (0, 0) }
  let s := s.setIsland d i { s.island d i with ar := 0, runWanted := false }
  let s := (s.initRegs d i).setDioSafe d i 0
  let s := s.wf F.FAB_ISL_LIMIT_LIMIT_CODE s.gradeLimit d i
  s.wf F.ISL_CLK_CTL_RUN 0 d i

/-- The islands of the part, as (die, island). -/
def State.allIslands (s : State) : List (Nat × Nat) := s.fabDies.flatMap fun d => (List.range 16).map fun i => (d, i)

/-! ## Image bytes -/

/-- A word of DRAM, scratchpad or I/O-die scratchpad of this device read by the loader; none where it is unmapped (R401). -/
def State.readGlobal (s : State) (a : Nat) : Option TWord × State :=
  let d := addrDie a
  let l := addrLocal a
  if addrDev a ≠ s.devNum then (none, s)
  else if d = 0 ∧ 0x100000000 ≤ l then
    let c := l / 0x100000000 - 1
    if c < 2 ∧ s.dramState c = 2 ∧ l - dramBase c < s.dramWords c then
      let t : Txn := ⟨.read, 0, 3, 0, a, 1, 48, 0, [], .requests, 0⟩
      let r := s.dramReadWords c (s.dramSnap c t) .read
      (r.1.head?, r.2)
    else (none, s)
  else if (d = 0 ∧ l < 0x20000) ∨ (0 < d ∧ d < 5 ∧ s.hasDie d ∧ l < 0x80000) then
    let r := s.readWord d l .read true
    (some r.1, r.2.2)
  else (none, s)

/-- Words from a global address on, if each is mapped and tagged as data (R401 cause 0xF). -/
def State.readData (s : State) (a n : Nat) : Option (List Nat) × State :=
  (List.range n).foldl (fun (r : Option (List Nat) × State) k =>
    match r.1 with
    | none => r
    | some ws =>
      let y := r.2.readGlobal (a + k)
      match y.1 with
      | some w => (if w.tag.toNat < 2 then some (ws ++ [w.data.toNat]) else none, y.2)
      | none => (none, y.2)) (some [], s)

/-- Bytes of memory: `n` from byte `off` of the word at a global address (R61, R411). -/
def State.memBytes (s : State) (a off n : Nat) : Option (List Nat) × State :=
  let w := off / 6
  let r := s.readData (a + w) ((off + n + 5) / 6 - w)
  (r.1.map fun ws => ((ws.flatMap fun v => leBytes 6 v).drop (off - 6 * w)).take n, r.2)

/-- Bytes of a load's source: flash slot, host stream or memory. -/
def State.imgBytes (s : State) (l : Load) (off n : Nat) : Option (List Nat) × State :=
  if l.src < 3 then (some (s.flashBytes ((s.slot l.src).1 + off) n), s)
  else if l.src = 3 then (if off + n ≤ l.bytes.length then some ((l.bytes.drop off).take n) else none, s)
  else if l.src = 4 then s.memBytes l.addr off n
  else (none, s)

/-! ## The header -/

/-- An image header's fields (Table 7-1). -/
def parseHdr (h : List Nat) : ImgHdr :=
  let le := fun a n => leNat ((h.drop a).take n)
  ⟨bit (h.getD 7 0) 0, bit (h.getD 7 0) 1, le 8 4, le 12 4, (h.drop 16).take 8, le 24 8, le 36 4, le 40 4, beNat ((h.drop 48).take 32)⟩

/-- The islands of a mask, in ascending die and island order (Table 7-1, R349). -/
def maskIslands (m : Nat) : List (Nat × Nat) := ((List.range 64).filter fun k => bit m k).map fun k => (k / 16 + 1, k % 16)

/-- A header without content. -/
def ImgHdr.none : ImgHdr := ⟨false, false, 0, 0, [], 0, 0, 0, 0⟩

/-- Whether the header's layout is valid (R344, Table 7-1). -/
def hdrLayout (h : List Nat) : Bool :=
  let le := fun a n => leNat ((h.drop a).take n)
  let x := parseHdr h
  le 0 4 == 0x3A5E7710 && le 4 2 == 1 && h.getD 7 0 < 4 && 1 ≤ x.count && x.count ≤ 1048576
    && le 32 4 == 512 + 800 * x.count && (x.ebmLen == 0 || x.ebmLen == 16 + 16 * 80 * (maskIslands x.mask).length)
    && x.len == 512 + 800 * x.count + x.ebmLen && le 44 4 == 0 && (h.drop 208).all (· == 0) && h.length == 512

/-- The cause for which a header is refused, 0 if it is accepted (R352, R354, R401): part and islands, PARTIAL, PLAIN, key
hash and signature in this order. -/
def State.hdrCause (s : State) (l : Load) (h : List Nat) : Nat :=
  let x := parseHdr h
  let magic := leNat (h.take 4)
  let key := (h.drop 80).take 64
  if magic ≠ 0x3A5E7710 ∧ l.src < 3 then 3
  else if !hdrLayout h then 4
  else if !(h.getD 6 0 == s.part || (s.is40X && h.getD 6 0 == 0x28))
      || (maskIslands x.mask).any (fun e => !s.fabDies.contains e.1) then 5
  else if x.partialImg && (l.powerOn || l.src != 4) then 0xE
  else if x.plain then (if s.cfg.fuses.secureEn then 8 else 0)
  else if sha256 key ≠ (if s.cfg.fuses.revoke0 then s.cfg.fuses.keyHash1 else s.cfg.fuses.keyHash0) then 6
  else if !sigGood (beNat key) (sha256 (h.take 144)) (beNat ((h.drop 144).take 64)) then 7
  else 0

/-! ## Records -/

/-- A frame header word (Table 7-3). -/
structure FrameHdr where
  kind : Nat
  die : Nat
  isl : Nat
  unit : Nat
  index : Nat
  seq : Nat
deriving DecidableEq, Repr

/-- A frame header word's fields. -/
def parseFrame (w : Nat) : FrameHdr := ⟨bits w 47 44, bits w 43 41, bits w 40 37, bits w 36 32, bits w 31 20, bits w 19 0⟩

/-- The place of the records after one with header `f`, if it may stand there (R346, R349). -/
def recNext (isls : List (Nat × Nat)) (dies : List Nat) (p : RecPos) (f : FrameHdr) : Option RecPos :=
  let here := isls[p.cur]? == some (f.die, f.isl)
  let next := if p.phase = 0 then p.cur else p.cur + 1
  let whole := isls.isEmpty || (p.phase == 81 && p.cur + 1 == isls.length)
  match f.kind with
  | 1 => if !p.tail && here && 1 ≤ p.phase && p.phase ≤ 80 && f.index + 1 == p.phase && f.unit == 0 then
      some { p with phase := p.phase + 1 } else none
  | 2 => if !p.tail && (p.phase == 0 || p.phase == 81) && isls[next]? == some (f.die, f.isl) && f.unit == 0 && f.index == 0 then
      some ⟨next, 1, false⟩ else none
  | 3 => if f.unit < 24 then (if !p.tail && here && p.phase == 81 then some p else none)
    else if f.unit < 28 && whole && f.isl == 0 && dies.contains f.die then some { p with tail := true } else none
  | 4 => if f.unit < 4 && whole && f.isl == 0 && dies.contains f.die then some { p with tail := true } else none
  | _ => none

/-- Whether the records are complete at a place (R349). -/
def recEnd (isls : List (Nat × Nat)) (p : RecPos) : Bool := isls.isEmpty || (p.phase == 81 && p.cur + 1 == isls.length)

/-- Whether a partial image may not hold a record (R382). -/
def partialBars (isls : List (Nat × Nat)) (f : FrameHdr) : Bool :=
  f.kind == 4 || (f.kind == 3 && 24 ≤ f.unit) || !isls.contains (f.die, f.isl)

/-- The GCM IV of a frame (R353). -/
def frameIv (x : ImgHdr) (seq : Nat) : Nat := beNat (x.nonce ++ beBytes 4 seq)

/-- A record's payload in clear, if its GCM check passes; a plain image's as it stands (R353, R354). -/
def State.recPayload (s : State) (x : ImgHdr) (r : List Nat) (seq : Nat) : Option (List Nat) :=
  let ct := (r.drop 6).take 768
  if x.plain then some ct
  else if gcmTag (beBytes 32 s.cfg.fuses.imageKey) (frameIv x seq) (r.take 6) ct = beNat ((r.drop 774).take 16) then
    some (gcmBytes (beBytes 32 s.cfg.fuses.imageKey) (frameIv x seq) ct)
  else none

/-- The six-byte words of a payload (R61). -/
def payloadWords (bs : List Nat) : List Nat := (List.range 128).map fun k => leNat ((bs.drop (6 * k)).take 6)

/-- An island control frame (Table 7-4, R198, R378): limit and period, TARGET and FLOOR clamped, DIO codes; word 1 is kept
for the release. -/
def State.controlFrame (s : State) (d i : Nat) (ws : List Nat) : State :=
  let w0 := ws.getD 0 0
  let lim := bits w0 7 0
  let s := (s.wf F.FAB_ISL_LIMIT_PERIOD_PS (bits w0 31 16) d i).wf F.FAB_ISL_LIMIT_LIMIT_CODE lim d i
  let s := s.wf F.ISL_CLK_CTL_TARGET (min lim (s.rf F.ISL_CLK_CTL_TARGET d i)) d i
  let s := (s.wf F.ISL_CLK_CTL_FLOOR (min lim (s.rf F.ISL_CLK_CTL_FLOOR d i)) d i).refloor d i
  let s := s.setDioSafe d i (bits (ws.getD 2 0) 7 0)
  s.setCfg { s.cfg with ctl := mset s.cfg.ctl (key2 d i) (1, ws.getD 1 0) (0, 0) }

/-- Whether a control frame's zero fields are zero (R347). -/
def controlOk (i : Nat) (ws : List Nat) : Bool :=
  bits (ws.getD 0 0) 47 32 == 0 && bits (ws.getD 0 0) 15 8 == 0 && bits (ws.getD 1 0) 47 25 == 0
    && bits (ws.getD 2 0) 47 8 == 0 && ((dioBase i).isSome || ws.getD 2 0 == 0) && (ws.drop 3).all (· == 0)

/-- The base and size of the memory that a tagged-memory frame writes (Table 7-3). -/
def taggedTarget (f : FrameHdr) : Nat × Nat :=
  if f.unit < 24 then (bmAddr f.isl f.unit 0, 1024) else (0x0E000000 + (f.unit - 24) * 0x4000 + 0x2000, 4096)

/-- A record's payload written to its target (R348, R378). -/
def State.writeRecord (s : State) (f : FrameHdr) (ws : List Nat) : State :=
  match f.kind with
  | 1 => s.writeFrame f.die f.isl f.index ws
  | 2 => s.controlFrame f.die f.isl ws
  | 3 =>
    let t := taggedTarget f
    (List.range 96).foldl (fun s j =>
      let k := f.index * 96 + j
      if k < t.2 then
        let tag := ws.getD (96 + j / 24) 0 / 2 ^ (2 * (j % 24)) % 4
        s.storeWord f.die (t.1 + k) ⟨BitVec.ofNat 48 (ws.getD j 0), BitVec.ofNat 2 tag⟩
      else s) s
  | _ => (List.range 128).foldl (fun s j =>
      let k := f.index * 128 + j
      if k < 8192 then s.storeWord f.die (0x0E000000 + f.unit * 0x4000 + k) (dataWord (ws.getD j 0)) else s) s

/-- Whether the octets of a record that must be zero are zero (Table 7-2). -/
def recZeros (x : ImgHdr) (r : List Nat) : Bool :=
  ((r.drop 790).take 6).all (· == 0) && (!x.plain || ((r.drop 774).take 16).all (· == 0))

/-- What a record fails for: 0 nothing, else its cause, with its header and clear payload (R355, R382, R401). -/
def State.recCause (s : State) (l : Load) (r : List Nat) : Nat × FrameHdr × List Nat :=
  let f := parseFrame (leNat (r.take 6))
  let isls := maskIslands l.hdr.mask
  let bad := fun c => (c, f, ([] : List Nat))
  if crc32c (r.take 796) ≠ leNat ((r.drop 796).take 4) then bad 9
  else if l.hdr.partialImg && partialBars isls f then bad 0xE
  else if f.seq ≠ l.next ∨ (recNext isls s.fabDies l.pos f).isNone ∨ !recZeros l.hdr r then bad 0xB
  else match s.recPayload l.hdr r f.seq with
    | none => bad 0xA
    | some bs =>
      let ws := payloadWords bs
      if f.kind = 2 ∧ !controlOk f.isl ws then bad 0xB
      else if f.kind = 3 ∧ !(ws.drop 100).all (· == 0) then bad 0xB
      else (0, f, ws)

/-! ## Ends of a load -/

/-- A load's failure recorded and raised (R401); a streamed image is source 3, as where it succeeds. -/
def State.loadFailed (s : State) (src cause seq : Nat) : State :=
  let s := ((s.wf F.CFG_LOAD_STAT_FAILED 1 0).wf F.CFG_LOAD_STAT_CAUSE cause 0).wf F.CFG_LOAD_STAT_FRAME_SEQ seq 0
  let s := ((s.wf F.CFG_LOAD_STAT_SOURCE (if src = 8 then 3 else src) 0).wf F.CFG_LOAD_STAT_BUSY 0 0).wf F.CFG_LOAD_CTL_START 0 0
  s.raise .configLoadFailed 0 0 (s.rw .CFG_LOAD_STAT 0)

/-- The islands that a load holds: those of a partial image, or all (R376, R378). -/
def State.heldBy (s : State) (x : ImgHdr) : List (Nat × Nat) := if x.partialImg then maskIslands x.mask else s.allIslands

/-- Step 1 of Table 7-9: RUN cleared, the channels as on an island reset, the island held (R149, R159, R378, R1010). Its registers
keep their values until step 6, and its DIO balls go to their safe-state levels; in a load while the device runs (`live`) until
RUN is 1 again (R220, R376). -/
def State.holdIsland (s : State) (d i : Nat) (live : Bool) : State :=
  let s := (((s.noteDio d i).wf F.ISL_CLK_CTL_RUN 0 d i).resetChannels d i).openShadow d i 0
  s.setIsland d i { s.island d i with held := true, runWanted := false, dioHold := live }

/-- Since its load the DIO cells of an island have not driven (R1006). -/
def State.dioForget (s : State) (d i : Nat) : State :=
  (List.range 48).foldl (fun (s : State) k =>
    if dioIsland k = i then s.setDio d k { s.dioCell d k with driven := none } else s) s

/-- Step 6 of Table 7-9: flip-flops and DIO registers take INIT, slices 0, the port B modes take effect, and RUN is to be
set if START_RUN is 1 (R221, R228, R378). An island without a control frame only ends its hold. R274 ties a new port B mode to the
setting of RUN, and step 6 of R378 lists it beside RUN, which R221 may put off and START_RUN = 0 leaves out: the mode takes effect
at step 6 in each case, when window accesses go on too (DESIGN CHOICE, log 169). No AR of the new logic is 1 yet. -/
def State.releaseIsland (s : State) (d i : Nat) : State :=
  let c := mget s.cfg.ctl (key2 d i) (0, 0)
  let x := s.island d i
  let s := (s.setIsland d i { x with held := false }).shadowEnded d i
  if c.1 = 0 then s
  else
    let s := (s.setIsland d i { s.island d i with ar := 0, runWanted := bit c.2 24 }).initRegs d i
    let s := (s.dioForget d i).wf F.BM_PORTB_MODE_WINDOW (bits c.2 23 0) d i
    s.setCfg { s.cfg with ctl := mset s.cfg.ctl (key2 d i) (0, 0) (0, 0) }

/-- The cores of the part, as (die, core). -/
def State.allCores (s : State) : List (Nat × Nat) := s.fabDies.flatMap fun d => (List.range 4).map fun c => (d, c)

/-- The start of a full load: every core is reset (R884, R890). -/
def State.coresReset (s : State) : State := s.allCores.foldl (fun s e => s.coreReset e.1 e.2 false) s

/-- Every island of a full load is released: RUN is set on the cores that the image loaded (R890). -/
def State.coresRun (s : State) : State := s.cfg.cores.foldl (fun s k =>
  if s.seqState (k / 4) (k % 4) = 0 then s.coreStart (k / 4) (k % 4) else s) s

/-- A load that had begun to change islands fails or is abandoned: its islands are cleared and no longer held (R374, R406). -/
def State.undoLoad (s : State) (l : Load) : State :=
  if !l.begun then s
  else (s.heldBy l.hdr).foldl (fun s e => (s.clearIsland e.1 e.2).releaseIsland e.1 e.2) s

/-- A full image clears every island that its mask does not name (R350). -/
def State.clearUnnamed (s : State) (mask : Nat) : State :=
  (s.allIslands.filter fun e => !(maskIslands mask).contains e).foldl (fun s e => s.clearIsland e.1 e.2) s

/-- BOOT_IMAGE_LOAD (R350, R373, R374): the next slot whose header is accepted begins the load at power-on; each that fails is
recorded. With none left, config-no-image is raised (R375). -/
def State.bootTry (s : State) (slots : List Nat) : State :=
  match slots with
  | [] => (s.setCfg { s.cfg with load := none }).raise .configNoImage 0 0
  | i :: rest =>
    let l : Load := ⟨i, 0, true, true, ImgHdr.none, 0, ⟨0, 0, false⟩, [], rest, 0, []⟩
    let cause := if !s.cfg.found then 1 else if !s.cfg.dirOk then 2 else s.hdrCause l (s.flashBytes (s.slot i).1 512)
    if cause ≠ 0 then
      let s := s.loadFailed i cause 0
      (if i = s.rf F.CFG_BOOT_STAT_PREF 0 then s.wf F.CFG_BOOT_STAT_FELL_BACK 1 0 else s).bootTry rest
    else
      let s := (s.wf F.CFG_LOAD_STAT_BUSY 1 0).wf F.CFG_LOAD_CTL_START 1 0
      let h := parseHdr (s.flashBytes (s.slot i).1 512)
      let s : State := (s.allIslands.foldl (fun s e => s.holdIsland e.1 e.2 false) s).coresReset
      let s := s.clearUnnamed h.mask
      s.setCfg { s.cfg with load := some { l with hdr := h } }

/-- The slots in the order in which start-up tries them (R373). -/
def State.bootSlots (s : State) : List Nat :=
  let p := s.rf F.CFG_BOOT_STAT_PREF 0
  if p = 0 then [0, 1, 2] else p :: 0 :: [3 - p]

/-- The load in progress fails (R374, R375, R401). -/
def State.failLoad (s : State) (l : Load) (cause : Nat) : State :=
  let s := ((s.setCfg { s.cfg with load := none, release := [] }).undoLoad l).loadFailed l.src cause l.next
  let s := s.cabLoadEnd cause
  if l.powerOn && l.src < 3 then
    (if l.src = s.rf F.CFG_BOOT_STAT_PREF 0 then s.wf F.CFG_BOOT_STAT_FELL_BACK 1 0 else s).bootTry l.slots
  else s

/-- The map entries of a loaded image: the essential-bit map, if it is valid; else every payload word essential (R357,
R359, R401 cause 0xD). -/
def mapEntries (x : ImgHdr) (b : List Nat) : Option (List Nat) :=
  let n := 80 * (maskIslands x.mask).length
  if leNat (b.take 4) = 0xEB5E0001 ∧ leNat ((b.drop 4).take 4) = n ∧ leNat ((b.drop 8).take 4) = 0
      ∧ leNat ((b.drop 12).take 4) = crc32c (b.drop 16) then
    some ((List.range n).map fun k => leNat ((b.drop (16 + 16 * k)).take 16)) else none

/-- Step 5 of Table 7-9: map entries of each island in the order of the image's configuration frames (R357, R359). -/
def State.installMap (s : State) (isls : List (Nat × Nat)) (es : List Nat) : State :=
  let m := (isls.zipIdx).foldl (fun m e => (List.range 80).foldl (fun m f =>
    mset m (key3 e.1.1 e.1.2 f) (es.getD (80 * e.2 + f) (2 ^ 128 - 1)) 0) m) s.cfg.emap
  s.setCfg { s.cfg with emap := m }

/-- A full image has loaded: a device that is no duplex member is active (Table 1-7), and the time is noted (R955). -/
def State.imageIn (s : State) : State :=
  let s : State := { s with dup := { s.dup with loadAt := some s.now } }
  s.setCfg { s.cfg with loaded := true }

/-- A load completes: map, origin of its islands, release (at power-on with start-up's phase 6), LOADED and DONE (R359,
R378, R401, R410). -/
def State.loadDone (s : State) (l : Load) : State :=
  let x := l.hdr
  let isls := maskIslands x.mask
  let r := s.imgBytes l (x.len - x.ebmLen) x.ebmLen
  let s := r.2
  let es := if x.ebmLen = 0 then some [] else r.1.bind (mapEntries x)
  let s := s.installMap isls (es.getD [])
  let src := if l.src < 3 then l.src else 3
  let s := s.setCfg { s.cfg with
    origin := isls.foldl (fun m e => mset m (key2 e.1 e.2) src 7) s.cfg.origin
    load := none
    version := if x.partialImg then s.cfg.version else x.version
    cores := if x.partialImg then s.cfg.cores else l.cores
    release := if l.powerOn then s.heldBy x else s.cfg.release }
  let s : State := if l.powerOn then s else (s.heldBy x).foldl (fun s e => s.releaseIsland e.1 e.2) s
  let s := if l.powerOn || x.partialImg then s else s.coresRun
  let s := if l.powerOn then s.wf F.CFG_BOOT_STAT_LOADED src 0 else if x.partialImg || (l.src == 4 && s.rf F.CFG_BOOT_STAT_LOADED 0 != 7) then s
    else s.wf F.CFG_BOOT_STAT_LOADED src 0
  let s := ((s.wf F.CFG_LOAD_STAT_DONE 1 0).wf F.CFG_LOAD_STAT_BUSY 0 0).wf F.CFG_LOAD_CTL_START 0 0
  let s := (s.wf F.CFG_LOAD_STAT_SOURCE l.src 0).wf F.CFG_LOAD_STAT_CAUSE (if es.isNone then 0xD else 0) 0
  let s := if es.isNone then s.raise .configMapInvalid 0 0 (s.rw .CFG_LOAD_STAT 0) else s
  (if x.partialImg then s else s.imageIn).cabLoadEnd 0

/-- Whether BODY_DIGEST matches the image's body (R352, R354). -/
def State.digestOk (s : State) (l : Load) : Bool × State :=
  let r := s.imgBytes l 512 (l.hdr.len - 512)
  ((r.1.map fun b => sha256 b == l.hdr.digest).getD false, r.2)

/-- One frame record: checked and written; after the last, the digest of a load at power-on and the end of the load
(R355, R372, R374, R376, R381, R398). -/
def State.frameRecord (s : State) (l : Load) : State :=
  if !l.begun then s
  else
    let r := s.imgBytes l (512 + 800 * l.next) 800
    let s := r.2
    match r.1 with
    | none => if l.src = 3 then s else s.failLoad l (if l.src < 3 then 1 else 0xF)
    | some b =>
      let c := s.recCause l b
      if c.1 ≠ 0 then s.failLoad l c.1
      else
        let f := c.2.1
        let isls := maskIslands l.hdr.mask
        let s := s.writeRecord f c.2.2
        let cores := if f.kind = 4 ∧ !l.cores.contains (f.die * 4 + f.unit) then l.cores ++ [f.die * 4 + f.unit] else l.cores
        let l := { l with next := l.next + 1, pos := (recNext isls s.fabDies l.pos f).getD l.pos, cores := cores }
        let s := s.setCfg { s.cfg with load := some l }
        if l.next < l.hdr.count then s
        else if !recEnd isls l.pos then s.failLoad { l with next := l.next - 1 } 0xB
        else if l.src = 3 then s
        else if !l.powerOn then s.loadDone l
        else
          let g := s.digestOk l
          if g.1 then g.2.loadDone l else g.2.failLoad l 0xC

/-- FRAME_RECORD (R355). -/
def execFrameRecord (s : State) : Out :=
  .next (match s.cfg.load with | none => s | some l => s.frameRecord l)

/-! ## Loads while the device runs -/

/-- A write of START (R377, R392, R408): a load begins with SOURCE and CFG_SRC_ADDR latched; during a load it starts
nothing. -/
def State.startLoad (s : State) : State :=
  if s.cfg.load.isSome then s
  else
    let src := s.rf F.CFG_LOAD_CTL_SOURCE 0
    let code := if src = 3 then 8 else src
    let l : Load := ⟨code, s.rw .CFG_SRC_ADDR 0, false, false, ImgHdr.none, 0, ⟨0, 0, false⟩, [], [], s.cfg.jobs.length, []⟩
    let s := ((s.wf F.CFG_LOAD_CTL_START 1 0).wf F.CFG_LOAD_STAT_BUSY 1 0).wf F.CFG_LOAD_STAT_SOURCE src 0
    s.setCfg { s.cfg with load := some l }

/-- A write of CFG_LOAD_CTL (R377, R392, R408). -/
def State.writeLoadCtl (s : State) (w : Nat) : State :=
  let s := s.wf F.CFG_LOAD_CTL_SOURCE (bits w 2 0) 0
  if bit w 3 then s.startLoad else s

/-- CONFIG_LOAD_START (R377). -/
def execConfigLoadStart (w : TWord) (s : State) : Out :=
  if w.tag.toNat < 2 then .next (s.writeLoadCtl w.data.toNat)
  else .next (s.regRefuse 0 (w.tag.toNat - 2) true 0x0F070000)

/-- The record headers of an image checked in order (R349, R372, R382): the place reached, or the cause and record that fail. -/
def State.orderCheck (s : State) (l : Load) (n : Nat) : (RecPos × Option (Nat × Nat)) × State :=
  let isls := maskIslands l.hdr.mask
  (List.range n).foldl (fun (r : (RecPos × Option (Nat × Nat)) × State) k =>
    if r.1.2.isSome then r
    else
      let y := r.2.imgBytes l (512 + 800 * k) 6
      match y.1 with
      | none => ((r.1.1, some (0xF, k)), y.2)
      | some b =>
        let f := parseFrame (leNat b)
        if l.hdr.partialImg && partialBars isls f then ((r.1.1, some (0xE, k)), y.2)
        else match (if f.seq = k then recNext isls s.fabDies r.1.1 f else none) with
          | some p => ((p, none), y.2)
          | none => ((r.1.1, some (0xB, k)), y.2)) ((⟨0, 0, false⟩, none), s)

/-- The checks that precede any change of an island (R372, R382): the cause 0 with the header, or the cause and record. -/
def State.imageCheck (s : State) (l : Load) : (Nat × Nat × ImgHdr) × State :=
  let bad := fun (s : State) (c k : Nat) => ((c, k, ImgHdr.none), s)
  if 4 < l.src then bad s 0xF 0
  else if l.src < 3 && !s.cfg.found then bad s 1 0
  else if l.src < 3 && !s.cfg.dirOk then bad s 2 0
  else
    let r := s.imgBytes l 0 512
    match r.1 with
    | none => bad r.2 0xF 0
    | some h =>
      let c := r.2.hdrCause l h
      if c ≠ 0 then bad r.2 c 0
      else
        let l := { l with hdr := parseHdr h }
        let b := r.2.imgBytes l 512 (l.hdr.len - 512)
        match b.1 with
        | none => bad b.2 0xF 0
        | some body =>
          if sha256 body ≠ l.hdr.digest then bad b.2 0xC 0
          else
            let o := b.2.orderCheck l l.hdr.count
            match o.1.2 with
            | some e => bad o.2 e.1 e.2
            | none => if recEnd (maskIslands l.hdr.mask) o.1.1 then ((0, 0, l.hdr), o.2) else bad o.2 0xB (l.hdr.count - 1)

/-- IMAGE_CHECK_PASS (R350, R372, R376, R378, R382, R401): the checks of a load other than that at power-on; when they
pass, its islands are held together, and a full image clears those that it does not name. -/
def execImageCheckPass (s : State) : Out :=
  .next (match s.cfg.load with
    | none => s
    | some l =>
      if l.powerOn || l.begun || l.after != 0 then s
      else
        let r := s.imageCheck l
        let s := r.2
        if r.1.1 ≠ 0 then s.failLoad { l with next := r.1.2.1 } r.1.1
        else
          let l := { l with hdr := r.1.2.2, begun := true }
          let s : State := (s.heldBy l.hdr).foldl (fun s e => s.holdIsland e.1 e.2 true) s
          let s : State := if l.hdr.partialImg then s
            else s.coresReset.clearUnnamed l.hdr.mask
          s.setCfg { s.cfg with load := some l })

/-! ## The Sparge engine -/

/-- The class of a word's decoding: none good, else its corrected cell and the BIT of SPG_LAST; a syndrome of a tag bit, which
is not stored, is uncorrectable (R340, R384, R416). -/
inductive Upset where
  | good
  | corrected (w : Word) (bitNo : Nat)
  | multi
deriving DecidableEq, Repr

/-- A configuration word decoded (R384). -/
def upsetOf (c : Cell) (a : Nat) : Upset :=
  match decodeCell c a with
  | .good _ => .good
  | .corrected w syn =>
    match indexOf? wordCols syn with
    | some k => if k < 48 then .corrected w.data k else .multi
    | none => .corrected w.data (48 + syn.log2)
  | .uncorrectable _ => .multi

/-- An upset recorded in SPG_LAST while VALID is 0 (R416). -/
def State.spgRecord (s : State) (d kind i f w b : Nat) : State :=
  if s.rb F.SPG_LAST_VALID d then s
  else s.ww .SPG_LAST (2 ^ 47 + kind * 2 ^ 45 + i * 2 ^ 21 + f * 2 ^ 14 + w * 2 ^ 6 + b) d

/-- A single-bit upset: corrected in place, classified by the map bit (R358, R384, R385). -/
def State.spgSingle (s : State) (d i f k : Nat) (w : Word) (b : Nat) : State :=
  let a := cfgAddr d i f k
  let t : TWord := ⟨w, tagData⟩
  let s := s.setCfgCell a ⟨t, checkOf t a⟩
  let ess := k < 128 && bit (mget s.cfg.emap (key3 d i f) 0) k
  if ess then
    let s := (s.incE F.SPG_ESS_CNT_COUNT d).spgRecord d 1 i f k b
    s.raise .configEssentialUpset d i (s.rw .SPG_LAST d)
  else (s.incE F.SPG_NONESS_CNT_COUNT d).spgRecord d 0 i f k b

/-- Whether the frame of an island can be rewritten: it was last loaded from a flash slot that still holds its image (R386). -/
def State.canRewrite (s : State) (d i : Nat) : Bool :=
  let o := mget s.cfg.origin (key2 d i) 7
  o < 3 && s.cfg.dirOk && leNat (s.flashBytes (s.slot o).1 4) == 0x3A5E7710

/-- A multi-bit upset of a frame (R385, R386): counted, recorded and raised, and the frame is to be rewritten if it can be. -/
def State.spgMulti (s : State) (d i f k : Nat) : State :=
  let re := s.rb F.SPG_CTL_RELOAD_EN 0
  let can := re && s.canRewrite d i
  let s := (s.incE F.SPG_MULTI_CNT_COUNT d).spgRecord d (if can then 2 else 3) i f k 63
  let s := s.raise .configMultiBitUpset d i (s.rw .SPG_LAST d)
  if can then s.setCfg { s.cfg with rewrites := s.cfg.rewrites ++ [(d, i, f)] }
  else if re then s.raise .configFrameUnrecoverable d i (s.rw .SPG_LAST d) else s

/-- The unit's next frame, or the end of its pass (R383, R415, R417). -/
def State.spgNext (s : State) (d i f : Nat) : State :=
  if f < 79 then (s.wf F.SPG_POS_FRAME (f + 1) d).wf F.SPG_POS_ISLAND i d
  else if i < 15 then (s.wf F.SPG_POS_FRAME 0 d).wf F.SPG_POS_ISLAND (i + 1) d
  else
    let b := (mget s.cfg.spg d ⟨0⟩).began
    let s := (s.incE F.SPG_PASS_CNT_COUNT d).wf F.SPG_POS_PASS_US ((s.now - b) / 1000) d
    let s := (s.wf F.SPG_POS_FRAME 0 d).wf F.SPG_POS_ISLAND 0 d
    s.setCfg { s.cfg with spg := mset s.cfg.spg d ⟨s.now⟩ ⟨0⟩ }

/-- A frame scrubbed (R384, R385, R387). The WORD recorded for a CRC mismatch without an uncorrectable word is open. -/
def State.spgFrame (s : State) (d i f : Nat) : State :=
  let r := (List.range 129).foldl (fun (r : Option Nat × State) k =>
    match upsetOf (r.2.cfgCell (cfgAddr d i f k)) (cfgAddr d i f k) with
    | .good => r
    | .corrected w b => (r.1, r.2.spgSingle d i f k w b)
    | .multi => (if r.1.isSome then r.1 else some k, r.2)) (none, s)
  let s := r.2
  match r.1 with
  | some k => s.spgMulti d i f k
  | none =>
    let bs := (List.range 128).flatMap fun k => leBytes 6 (s.cfgCell (cfgAddr d i f k)).word.data.toNat
    if (s.cfgCell (cfgAddr d i f 128)).word.data.toNat % 2 ^ 32 = crc32c bs then s
    else let w := s.free; w.2.spgMulti d i f (w.1 % 129)

/-- SPARGE_FRAME_SCRUB (R383 to R388, R390): an island held for reconfiguration is skipped. -/
def execSpargeFrameScrub (d : Nat) (s : State) : Out :=
  let i := s.rf F.SPG_POS_ISLAND d
  let f := s.rf F.SPG_POS_FRAME d
  .next (if !s.rb F.SPG_CTL_EN 0 || !s.fabDies.contains d then s
    else if (s.island d i).held then (s.incE F.SPG_SKIP_CNT_COUNT d 0 0 80).spgNext d i 79
    else (s.spgFrame d i f).spgNext d i f)

/-- The record of a frame in the image of a slot (R349): its place among the records of the islands is found by its header. -/
def State.findRecord (s : State) (l : Load) (d i f : Nat) : Option (List Nat) :=
  (List.range l.hdr.count).findSome? fun k =>
    let h := parseFrame (leNat (s.flashBytes ((s.slot l.src).1 + 512 + 800 * k) 6))
    if h.kind = 1 ∧ h.die = d ∧ h.isl = i ∧ h.unit = 0 ∧ h.index = f ∧ h.seq = k then
      some (s.flashBytes ((s.slot l.src).1 + 512 + 800 * k) 800) else none

/-- FRAME_REWRITE (R355, R386, R393): the frame at the head of the queue is read again from the slot its island was loaded from,
checked and written in place; a slot or record that is no longer valid raises config-frame-unrecoverable, and its upset is no
longer recorded as rewritten (R416). -/
def execFrameRewrite (s : State) : Out :=
  .next (match s.cfg.rewrites with
    | [] => s
    | (d, i, f) :: rest =>
      if s.cfg.active.isSome then s
      else
        let s := s.setCfg { s.cfg with rewrites := rest }
        let o := mget s.cfg.origin (key2 d i) 7
        let l : Load := ⟨o, 0, false, false, ImgHdr.none, 0, ⟨0, 0, false⟩, [], [], 0, []⟩
        let h := s.flashBytes (s.slot o).1 512
        let l := { l with hdr := parseHdr h }
        let ok := if s.canRewrite d i && s.hdrCause l h == 0 then (s.findRecord l d i f).bind fun r =>
            if crc32c (r.take 796) = leNat ((r.drop 796).take 4) && recZeros l.hdr r then
              s.recPayload l.hdr r (parseFrame (leNat (r.take 6))).seq else none
          else none
        match ok with
        | some bs => s.writeFrame d i f (payloadWords bs)
        | none =>
          let s := if s.rb F.SPG_LAST_VALID d && s.rf F.SPG_LAST_KIND d = 2 && s.rf F.SPG_LAST_ISLAND d = i && s.rf F.SPG_LAST_FRAME d = f then s.wf F.SPG_LAST_KIND 3 d else s
          s.raise .configFrameUnrecoverable d i (s.rw .SPG_LAST d))

end Sys2Proof.Machine
end

