-- ==== Sys2Proof/Machine/Caben.lean ====
section
/-!
DEFINITION. Caben: its transports, packets, opcodes, tags and limits (chapter 14).
-/
namespace Sys2Proof.Machine

/-! ## Packets -/

/-- The largest LENGTH of a transport (Table 14-1). -/
def cabLimit (tr : Nat) : Nat := if tr = 1 then 1438 else 4096

/-- The largest word count of a READ or STREAM_READ (R797). -/
def cabWords (tr : Nat) : Nat := if tr = 1 then 205 else 584

/-- Limit class in ns, and whether the boot state machine serves the opcode (Table 14-8). -/
def opInfo (op : Nat) : Option (Nat × Bool) :=
  let sC := 10000000
  let mC := 2000000000
  let lC := 120000000000
  match op with
  | 0x00 => some (sC, true) | 0x01 => some (sC, true) | 0x02 => some (sC, true) | 0x03 => some (sC, true)
  | 0x08 => some (sC, true) | 0x09 => some (sC, true) | 0x0A => some (sC, false)
  | 0x10 => some (sC, false) | 0x11 => some (sC, false)
  | 0x18 => some (lC, true) | 0x19 => some (mC, true) | 0x1A => some (lC, true) | 0x1B => some (sC, true) | 0x1C => some (mC, true)
  | 0x20 => some (mC, false) | 0x21 => some (mC, false) | 0x22 => some (mC, false) | 0x23 => some (mC, false)
  | 0x28 => some (sC, true) | 0x29 => some (sC, false)
  | _ => none

/-- Bytes of PARAMS as a number, least significant first (R61). -/
def parNat (ps : List Nat) (off n : Nat) : Nat := leNat ((ps.drop off).take n)

/-- Tagged word `k` of the words from byte `off` on (R795). -/
def parWord (ps : List Nat) (off k : Nat) : TWord := ⟨BitVec.ofNat 48 (parNat ps (off + 7 * k) 6), BitVec.ofNat 2 (ps.getD (off + 7 * k + 6) 0)⟩

/-- The first of `n` tagged words whose tag byte is above `top`: the offset of that byte. -/
def badTag (ps : List Nat) (off n top : Nat) : Option Nat :=
  ((List.range n).find? fun k => top < ps.getD (off + 7 * k + 6) 0).map fun k => off + 7 * k + 6

/-- Words as reply data (R795). -/
def wordData (ws : List TWord) : List Nat := ws.flatMap fun w => wordBytes w ++ [w.tag.toNat]

/-- Whether a range touches a Saette transmit or receive window (R799). -/
def touchesWindow (a n : Nat) : Bool := addrDie a == 0 && 0 < n && addrLocal a < 0x0F04A000 && 0x0F048000 < addrLocal a + n

/-- BAD_PARAM with the offset of the bad field, at most 255 (Table 14-6). -/
def badParam (off : Nat) : Nat × Nat := (4, min 255 off)

/-- The checks of LENGTH and fields that need no state: status and detail, 0 where they pass (R794, R795, R797, R799, R803, R805 to
R817). -/
def opCheck (tr op : Nat) (ps : List Nat) : Nat × Nat :=
  let n := ps.length
  let b := fun k => ps.getD k 0
  let ok : Nat × Nat := (0, 0)
  let range := fun (a c : Nat) => if 2 ^ 36 < addrLocal a + c then badParam 0 else if touchesWindow a c then (7, 0x0B) else ok
  match op with
  | 0x00 => if cabLimit tr < n + 2 then (3, 0) else ok
  | 0x01 => if n = 0 then ok else (3, 0)
  | 0x02 => if n = 1 then ok else (3, 0)
  | 0x03 => if n = 1 then ok else (3, 0)
  | 0x08 =>
    if n ≠ 8 then (3, 0)
    else if cabWords tr < parNat ps 6 2 then badParam 6
    else range (parNat ps 0 6) (parNat ps 6 2)
  | 0x09 =>
    if n < 8 || n ≠ 8 + 7 * parNat ps 6 2 then (3, 0)
    else match badTag ps 8 (parNat ps 6 2) 3 with
      | some o => badParam o
      | none => range (parNat ps 0 6) (parNat ps 6 2)
  | 0x0A => if n ≠ 15 then (3, 0) else if 1 < b 0 then badParam 0 else if b 1 ≠ 0 then badParam 1 else if 3 < b 14 then badParam 14 else ok
  | 0x10 =>
    if n ≠ 4 then (3, 0) else if b 0 = 0 || 63 < b 0 then badParam 0 else if 3 < b 1 then badParam 1
    else if cabWords tr < parNat ps 2 2 then badParam 2 else ok
  | 0x11 =>
    if n < 4 || n ≠ 4 + 7 * parNat ps 2 2 then (3, 0) else if 63 < b 0 then badParam 0 else if b 1 ≠ 0 then badParam 1
    else match badTag ps 4 (parNat ps 2 2) 1 with | some o => badParam o | none => ok
  | 0x18 => if n ≠ 8 then (3, 0) else if 4 < b 0 || b 0 = 3 then badParam 0 else if b 1 ≠ 0 then badParam 1 else ok
  | 0x19 => if n < 4 then (3, 0) else ok
  | 0x1A => if n ≠ 12 then (3, 0) else if 5 < b 0 then badParam 0 else if b 1 ≠ 0 then badParam 1 else ok
  | 0x1B => if n ≠ 6 then (3, 0) else if parNat ps 0 4 ≠ 0x474F4C44 then badParam 0 else ok
  | 0x1C => if n ≠ 12 then (3, 0) else if 2 < b 0 then badParam 0 else if b 1 ≠ 0 then badParam 1 else ok
  | 0x20 => if n ≠ 4 then (3, 0) else if b 0 = 0 || 3 < b 0 then badParam 0 else if b 1 ≠ 0 then badParam 1 else ok
  | 0x21 =>
    if n < 2 then (3, 0) else if b 0 ≠ 1 && b 0 ≠ 3 then badParam 0 else if b 1 ≠ 0 then badParam 1
    else if b 0 = 1 then (if n = 7 then ok else (3, 0))
    else if 244 ≤ n - 2 && n - 2 ≤ 3904 && (n - 2) % 244 = 0 then ok else (3, 0)
  | 0x22 => if n ≠ 6 then (3, 0) else ok
  | 0x23 =>
    if n = 0 then (3, 0) else if b 0 = 0 || 6 < b 0 then badParam 0
    else if 2 ≤ b 0 && b 0 ≤ 4 then (if n = 33 then ok else (3, 0))
    else if n ≠ 2 then (3, 0) else if b 1 ≠ 1 then badParam 1 else ok
  | 0x28 => if n ≠ 3 then (3, 0) else if 2 < b 0 then badParam 0 else ok
  | _ => if n ≠ 2 then (3, 0) else if b 0 = 0 || 16 < b 0 then badParam 0 else if 1 < b 1 then badParam 1 else ok

/-- The packets of a transport that are outstanding. -/
def State.cabOut (s : State) (tr : Nat) : List CabPkt := s.cab.pkts.filter fun p => p.tr == tr

/-- CABEN_FRAMING_ERROR (R791): the bytes are no packet: counted and raised. -/
def State.cabFrameErr (s : State) (tr : Nat) : State :=
  let s := if tr = 0 then s.setCab { s.cab with frameErr := true } else s
  (s.incE F.CABEN_FRAME_ERR_CNT_COUNT 0).raise .cabenFramingError 0 0

/-- Whether bytes hold a packet of a transport (R791). -/
def isPacket (tr : Nat) (b : List Nat) : Bool :=
  let n := leNat ((b.drop 4).take 2)
  10 ≤ b.length && b.getD 0 0 == 0xCB && b.getD 2 0 < 128 && n ≤ cabLimit tr && 10 + n ≤ b.length
    && leNat ((b.drop (6 + n)).take 4) == crc32c (b.take (6 + n))

/-- A byte sequence received on a transport (R791 to R796, R799, R811, R819, R825): discarded, answered at once, or an outstanding
packet that has not started. -/
def State.cabReceive (s : State) (tr : Nat) (peer : Option UdpPeer) (b : List Nat) : State :=
  if !isPacket tr b then s.cabFrameErr tr
  else
    let op := b.getD 2 0
    let tag := b.getD 3 0
    let ps := (b.drop 6).take (leNat ((b.drop 4).take 2))
    let outs := s.cabOut tr
    let answer := fun (st dt : Nat) => s.cabAnswer tr tag op peer st dt []
    if outs.any fun p => p.tag == tag then
      let s := if tr = 0 then s.setCab { s.cab with frameErr := true } else s
      (s.incE F.CABEN_TAG_REUSE_CNT_COUNT 0).raise .cabenTagReuse 0 0
    else if (if s.bootSm then 1 else 16) ≤ outs.length || (op = 0x19 && s.cab.pkts.any fun p => p.op == 0x19) then answer 5 0
    else if b.getD 1 0 ≠ 1 then answer 2 0
    else match opInfo op with
      | none => answer 1 0
      | some (_, boot) =>
        if (s.bootSm && !boot) || (!s.bootSm && op = 0x1C) then answer 6 0
        else
          let c := opCheck tr op ps
          if c.1 ≠ 0 then answer c.1 c.2
          else
            let p : CabPkt := ⟨tr, tag, op, ps, peer, false, false, false, s.now, 0, [], [], 0⟩
            s.setCab { s.cab with pkts := s.cab.pkts ++ [p] }

/-! ## Host SPI -/

/-- Whether the port can take one packet (R781, Table 14-3). -/
def State.spiRoom (s : State) : Bool := s.cab.ready && ((s.cabOut 0).filter fun p => !p.started).length < 2

/-- The port status byte (Table 14-3). -/
def State.spiByte (s : State) : Nat :=
  b2n s.bootSm * 128 + b2n s.spiRoom * 64 + b2n (!s.cab.replies.isEmpty) * 32 + b2n s.cab.frameErr * 16

/-- A transfer of host SPI: its MISO bytes; sending the status byte clears FRAME_ERR (R780). -/
def State.spiMiso (s : State) (miso : List Nat) : State := s.setCab { s.cab with frameErr := false, miso := miso }

/-- SEND (R780, R781, R791): the bytes after the transfer command. -/
def execSend (bs : List Nat) (s : State) : Out :=
  let t := s.spiMiso (s.spiByte :: List.replicate bs.length 0)
  .next (if s.spiRoom then t.cabReceive 0 none bs else t.cabFrameErr 0)

/-- FETCH (R780, R782): `n` bytes are clocked after the transfer command. -/
def execFetch (n : Nat) (s : State) : Out :=
  let r := s.cab.replies.headD []
  let t := s.spiMiso (s.spiByte :: (0 :: r ++ List.replicate n 0).take n)
  .next (if !r.isEmpty && 1 + r.length ≤ n then t.setCab { t.cab with replies := t.cab.replies.drop 1 } else t)

/-- SPI_STATUS (R780). -/
def execSpiStatus (n : Nat) (s : State) : Out := .next (s.spiMiso (List.replicate (n + 1) s.spiByte))

/-! ## UDP -/

/-- Whether Caben is served over UDP (R783, R825). -/
def State.udpServed (s : State) : Bool := s.rb F.CABEN_CTL_UDP_EN 0 && !s.bootSm && s.rb F.MAC_STAT_LINK_UP 0 0 && s.cab.ready

/-- ARP_REQUEST (R783). -/
def execArpRequest (srcMac srcIp ip : Nat) (s : State) : Out :=
  .next (if s.udpServed && ip = s.rf F.CABEN_IP_ADDR 0 then
      s.setCab { s.cab with arpOut := s.cab.arpOut ++ [(srcMac, srcIp, s.rf F.MAC_STATION_ADDR 0 0, ip)] }
    else s)

/-- A secure datagram (R784 to R786, Table 14-14): its packet, once tag and counter are good. -/
def State.udpSecure (s : State) (peer : UdpPeer) (b : List Nat) : State :=
  let n := b.length
  let head := b.take 8
  let ctr := beNat head
  let ct := (b.drop 8).take (n - 24)
  let iv := gcmIv (s.rf F.CABEN_UDP_RX_SALT_SALT 0) ctr
  match (if 34 ≤ n then s.udpKey else none) with
  | none => (s.incE F.CABEN_AUTH_CNT_COUNT 0).raise .cabenUdpAuthFailed 0 0
  | some key =>
    if gcmTag (leBytes 32 key) iv head ct ≠ beNat (b.drop (n - 16)) then (s.incE F.CABEN_AUTH_CNT_COUNT 0).raise .cabenUdpAuthFailed 0 0
    else if ctr ≤ s.cab.rxCtr then (s.incE F.CABEN_REPLAY_CNT_COUNT 0).raise .cabenUdpReplay 0 0
    else
      let pkt := gcmBytes (leBytes 32 key) iv ct
      let s := s.setCab { s.cab with rxCtr := ctr }
      if leNat ((pkt.drop 4).take 2) + 10 ≠ pkt.length then s.cabFrameErr 1 else s.cabReceive 1 (some peer) pkt

/-- UDP_DATAGRAM (R783, R784, R786, R835). -/
def execUdpDatagram (d : Datagram) (s : State) : Out :=
  let peer : UdpPeer := ⟨d.srcMac, d.vlan, d.srcIp, d.srcPort⟩
  .next (if !s.udpServed || !d.plain || (d.dstMac ≠ s.rf F.MAC_STATION_ADDR 0 0 && d.dstMac ≠ 2 ^ 48 - 1)
      || d.dstIp ≠ s.rf F.CABEN_IP_ADDR 0 || d.dstPort ≠ s.rf F.CABEN_CTL_UDP_PORT 0 || 1472 < d.payload.length
      || s.rb F.CABEN_STAT_UDP_EXHAUSTED 0 then s
    else if s.rb F.CABEN_CTL_UDP_SECURE 0 || s.cfg.fuses.secureEn then s.udpSecure peer d.payload
    else s.cabReceive 1 (some peer) d.payload)

/-! ## Saette channel 0 -/

/-- The readable words of channel 0 up to a frame's end, if one whole frame is readable. -/
def State.takeFrame (s : State) (fuel : Nat) (ws : List TWord) : Option (List TWord × State) :=
  match fuel with
  | 0 => none
  | n + 1 =>
    match s.rxTakeOne 0 with
    | none => none
    | some (w, _, s) => if w.tag = tagEnd then some (ws ++ [w], s) else s.takeFrame n (ws ++ [w])

/-- CABEN_SAETTE_FRAME (R790): the next whole frame of channel 0 is taken. Replies that waited for room go out first. -/
def execCabenSaetteFrame (s : State) : Out :=
  let s := s.saPump
  .next (if s.bootSm || !s.cab.ready || !s.rb F.CABEN_CTL_SAETTE_EN 0 then s
    else match s.takeFrame (s.sc 0).ready [] with
      | none => s
      | some (ws, t) => ((t.rxView 0).closeIfEmpty 0).cabReceive 2 none (bytesOf ws (6 * ws.length)))

/-- CHANNEL_0_OPEN_RETRY (R789): channel 0 takes its settings, and opens once its key slots allow it. -/
def State.openCh0 (s : State) : State :=
  if s.bootSm || !s.rb F.CABEN_CTL_SAETTE_EN 0 || s.rf F.SC_STAT_TX_STATE 0 0 ≠ 0 || s.forwards 0 then s
  else
    let sec := b2n s.cfg.fuses.secureEn
    let s := if s.scIdle 0 then
        ((((s.wf F.SC_CTL_MAX_FRAME 1024 0).wf F.SC_CTL_SPEC 0 0).wf F.SC_CTL_SECURE sec 0).wf F.SC_BUF_RX_SIZE 3 0)
      else s
    let keys := s.rb F.SK_CTL_VALID 0 (s.rf F.SC_KEY_TX_SLOT 0) && s.rb F.SK_CTL_VALID 0 (s.rf F.SC_KEY_RX_SLOT 0)
    if sec = 1 && !keys then s
    else
      let s := (s.enableHalf 0 true true).enableHalf 0 false true
      if s.linkUp (s.rf F.SC_CTL_LINK 0) then s.writeTxOpen 0 else s

/-- CHANNEL_0_OPEN_RETRY (R789). -/
def execChannel0OpenRetry (s : State) : Out := .next s.openCh0

/-! ## Starting packets -/

/-- The packet of a row that has not started: outstanding, with the row's opcode. -/
def State.cabNew (s : State) (tr tag op : Nat) : Option CabPkt :=
  match s.cabPkt tr tag with
  | some p => if p.op = op && !p.started then some p else none
  | none => none

/-- A packet of a row that is answered as soon as it starts (R821). -/
def cabRow (op tr tag : Nat) (s : State) (act : CabPkt → State → State) : State :=
  match s.cabNew tr tag op with
  | some p => act p s
  | none => s

/-- ECHO (R796). -/
def execEcho (tr tag : Nat) (s : State) : Out := .next (cabRow 0x00 tr tag s fun p s => s.cabFinish p 0 0 p.params)

/-- The version of the running firmware (Table 14-9). -/
def State.fwVer (s : State) : Nat := if s.bootSm then 0 else s.rst.fwVersion

/-- The IDENTIFY reply data (R798, Table 14-9). -/
def State.identify (s : State) : List Nat :=
  let f := s.cfg.blown
  [s.part, s.rf F.DEV_ROLE_GRADE_CODE 0 % 16 + 128 * b2n s.bootSm] ++ leBytes 2 s.devNum
    ++ [s.rf F.DEV_ROLE_ROLE 0 + 4 * s.rf F.DEV_ROLE_BOOT 0 + 32 * b2n s.active + 64 * s.rf F.DEV_ROLE_CTL_OUT_EN 0,
      s.rf F.CFG_BOOT_STAT_LOADED 0 + 8 * s.rf F.CFG_BOOT_STAT_FELL_BACK 0 + 16 * b2n s.cfg.fuses.secureEn]
    ++ leBytes 2 (if s.is40X then s.rst.integ else 0) ++ leBytes 4 s.fwVer ++ leBytes 4 (if s.imageLoaded then s.cfg.version else 0)
    ++ [1, b2n f.secureEn + 2 * b2n (f.imageKey != 0) + 4 * b2n (f.keyHash0 != 0) + 8 * b2n (f.keyHash1 != 0) + 16 * b2n f.revoke0
      + 32 * b2n f.debugClose] ++ List.replicate 6 0

/-- IDENTIFY (R798). -/
def execIdentify (tr tag : Nat) (s : State) : Out := .next (cabRow 0x01 tr tag s fun p s => s.cabFinish p 0 0 s.identify)

/-- REPEAT_REPLY (R823): a kept packet that does not fit a reply is answered FAILED 2. -/
def execRepeatReply (tr tag : Nat) (s : State) : Out :=
  .next (cabRow 0x02 tr tag s fun p s =>
    match (mget s.cab.kept tr []).find? fun k => k.1 == p.params.getD 0 0 with
    | none => s.cabFinish p 0x0B 1 []
    | some k => if cabLimit tr < k.2.length + 2 then s.cabFinish p 0x0B 2 [] else s.cabFinish p 0 0 k.2)

/-- Whether an opcode is performed in order on its transport (R820). -/
def serialOp (op : Nat) : Bool := op == 0x08 || op == 0x09 || op == 0x0A || op == 0x10 || op == 0x11

/-- The words that a READ has got, in order, as far as they are complete. -/
def gotPrefix (got : List (Nat × TWord)) (k fuel : Nat) : List TWord :=
  match fuel with
  | 0 => []
  | n + 1 => match got.find? fun g => g.1 == k with | some g => g.2 :: gotPrefix got (k + 1) n | none => []

/-- The reply data of a READ, STREAM_READ or ATOMIC with the words it has. -/
def CabPkt.data (p : CabPkt) : List Nat :=
  if p.op = 0x09 || p.op = 0x11 then [] else wordData (gotPrefix p.got 0 p.got.length)

/-- The reply data of a cancelled packet: the words taken, or for a WRITE that has started the number of words written, in 2
bytes as for STREAM_WRITE (Table 14-8, Table 14-12, log 108). -/
def CabPkt.cancelData (p : CabPkt) : List Nat :=
  if p.op = 0x09 then (if p.started then [p.next % 256, p.next / 256 % 256] else []) else p.data

/-- Whether a packet can still be cancelled: not started, or started in a way that Table 14-12 lets stop. -/
def State.cabCancels (s : State) (p : CabPkt) : Bool :=
  if !p.started then true
  else if serialOp p.op then true
  else if p.op = 0x18 then (match s.cfg.load with | some l => !l.begun | none => false)
  else if p.op = 0x1A || p.op = 0x21 || p.op = 0x22 then
    s.cfg.jobs.any fun j => j.owner == some (p.tr, p.tag) && !j.begun
  else false

/-- The operation behind a cancelled packet is given up (Table 14-12). -/
def State.cabDrop (s : State) (p : CabPkt) : State :=
  if !p.started then s
  else if p.op = 0x18 then
    ((s.setCfg { s.cfg with load := none }).wf F.CFG_LOAD_STAT_BUSY 0 0).wf F.CFG_LOAD_CTL_START 0 0
  else if p.op = 0x1A || p.op = 0x21 || p.op = 0x22 then
    (s.setCfg { s.cfg with jobs := s.cfg.jobs.filter fun j => j.owner != some (p.tr, p.tag) || j.begun }).nvView
  else s

/-- A packet is cancelled by ABORT: at once, or once its issued transactions have completed (Table 14-12). -/
def State.cabCancel (s : State) (p : CabPkt) : State :=
  if p.started && serialOp p.op && !p.reads.isEmpty then s.setPkt { p with cancelled := true }
  else (s.cabDrop p).cabFinish p 0x0A 0 p.cancelData

/-- ABORT (R818, R827). -/
def execAbort (tr tag : Nat) (s : State) : Out :=
  .next (cabRow 0x03 tr tag s fun p s =>
    let u := p.params.getD 0 0
    match s.cabPkt tr u with
    | none =>
      if (mget s.cab.kept tr []).any fun k => k.1 == u then s.cabFinish p 0 1 [] else s.cabFinish p 4 0 []
    | some q =>
      if u ≠ tag && s.cabCancels q then (s.cabCancel q).cabFinish p 0 0 [] else s.cabFinish p 0 1 [])

/-! ## Memory and stream opcodes -/

/-- The next transactions of a READ or WRITE: blocks split at 64-word boundaries, a WRITE's with a read-back of the last word
of each (R799, R801). -/
def State.cabIssue (s : State) (fuel : Nat) (tr tag : Nat) : State :=
  match fuel with
  | 0 => s
  | n + 1 =>
    match s.cabPkt tr tag with
    | none => s
    | some p =>
      let a := parNat p.params 0 6 + p.next
      let c := parNat p.params 6 2
      let k := min (64 - a % 64) (c - p.next)
      if p.cancelled || c ≤ p.next then s
      else if p.op = 0x08 then
        match s.request .read 0 1 0 a k [] with
        | none => s
        | some (g, s) => (s.setPkt { p with next := p.next + k, reads := p.reads ++ [(g, p.next, k)] }).cabIssue n tr tag
      else
        let ws := (List.range k).map fun j => parWord p.params 8 (p.next + j)
        if (s.freeTag 0 1).isNone then s
        else
          match (s.post 0 1 a ws).request .read 0 1 0 (a + k - 1) 1 [] with
          | none => s
          | some (g, s) => (s.setPkt { p with next := p.next + k, reads := p.reads ++ [(g, p.next + k - 1, 1)] }).cabIssue n tr tag

/-- A READ or WRITE with every transaction answered ends (R800, R801). -/
def State.cabMemEnd (s : State) (tr tag : Nat) : State :=
  match s.cabPkt tr tag with
  | none => s
  | some p =>
    if !p.reads.isEmpty then s
    else if p.cancelled then s.cabFinish p 0x0A 0 p.cancelData
    else if p.next < parNat p.params 6 2 then s
    else if p.status ≠ 0 then s.cabFinish p 8 p.status p.data
    else s.cabFinish p 0 0 p.data

/-- Whether an earlier packet of the transport is still to be performed (R820). -/
def State.cabBehind (s : State) (p : CabPkt) : Bool :=
  ((s.cabOut p.tr).takeWhile fun q => q.tag != p.tag).any fun q => serialOp q.op

/-- A READ or WRITE starts in its turn, or goes on issuing. -/
def State.cabMem (s : State) (op tr tag : Nat) : State :=
  match s.cabPkt tr tag with
  | none => s
  | some p =>
    if p.op ≠ op || (!p.started && s.cabBehind p) then s
    else (((s.setPkt { p with started := true }).cabIssue 600 tr tag).cabMemEnd tr tag)

/-- CABEN_READ (R799, R800, R820). -/
def execCabenRead (tr tag : Nat) (s : State) : Out := .next (s.cabMem 0x08 tr tag)

/-- CABEN_WRITE (R799, R801, R820). -/
def execCabenWrite (tr tag : Nat) (s : State) : Out := .next (s.cabMem 0x09 tr tag)

/-- An ATOMIC starts in its turn (R802, R820). -/
def State.cabAtomic (s : State) (k tr tag : Nat) : State :=
  match s.cabNew tr tag 0x0A with
  | none => s
  | some p =>
    if p.params.getD 0 0 ≠ k || s.cabBehind p then s
    else match s.request (if k = 0 then .add else .swap) 0 1 0 (parNat p.params 2 6) 1 [parWord p.params 8 0] with
      | none => s
      | some (g, s) => s.setPkt { p with started := true, next := 1, reads := [(g, 0, 1)] }

/-- CABEN_ATOMIC_ADD (R802). -/
def execCabenAtomicAdd (tr tag : Nat) (s : State) : Out := .next (s.cabAtomic 0 tr tag)

/-- CABEN_ATOMIC_SWAP (R802). -/
def execCabenAtomicSwap (tr tag : Nat) (s : State) : Out := .next (s.cabAtomic 1 tr tag)

/-- The next word of a STREAM_READ is asked for, or it ends (R803). -/
def State.cabStreamNext (s : State) (tr tag : Nat) : State :=
  match s.cabPkt tr tag with
  | none => s
  | some p =>
    if !p.reads.isEmpty then s
    else if p.cancelled then s.cabFinish p 0x0A 0 p.data
    else if parNat p.params 2 2 ≤ p.next then
      (if p.status ≠ 0 then s.cabFinish p 8 p.status p.data else s.cabFinish p 0 0 p.data)
    else match s.request .read 0 1 0 (s.glob 0 (0x0F049000 + p.params.getD 0 0 * 0x40)) 1 [] with
      | none => s
      | some (g, s) => s.setPkt { p with next := p.next + 1, reads := [(g, p.next, 1)] }

/-- STREAM_READ (R803, R804, R820). -/
def execStreamRead (tr tag : Nat) (s : State) : Out :=
  .next (match s.cabPkt tr tag with
    | none => s
    | some p =>
      if p.op ≠ 0x10 then s
      else if p.started then s.cabStreamNext tr tag
      else if s.cabBehind p then s
      else if !s.rb F.SC_CTL_RX_EN 0 (p.params.getD 0 0) then s.cabFinish p 7 1 []
      else (s.setPkt { p with started := true }).cabStreamNext tr tag)

/-- STREAM_WRITE (R805, R820): as many words as the transmit buffer has room for are written. -/
def execStreamWrite (tr tag : Nat) (s : State) : Out :=
  .next (match s.cabNew tr tag 0x11 with
    | none => s
    | some p =>
      let c := p.params.getD 0 0
      if s.cabBehind p then s
      else if s.rf F.SC_STAT_TX_STATE 0 c ≠ 2 then s.cabFinish p 7 1 []
      else
        let n := min (parNat p.params 2 2) (s.txSize c - (s.sc c).txLen)
        let ws := (List.range n).map fun k => parWord p.params 4 k
        (s.txWords c (0x0F048000 + c * 0x40) ws).cabFinish p 0 0 (leBytes 2 n))

/-- A response reaches Caben, master 1 (R799 to R803). -/
def State.cabResponse (s : State) (rtag status : Nat) (ws : List TWord) : State :=
  match s.cab.pkts.find? fun p => p.reads.any fun r => r.1 == rtag with
  | none => s
  | some p =>
    let base := ((p.reads.find? fun r => r.1 == rtag).map fun r => r.2.1).getD 0
    let q := { p with
      reads := p.reads.filter fun r => r.1 != rtag
      got := p.got ++ (List.range ws.length).map fun k => (base + k, ws.getD k noWord)
      status := if p.status = 0 then status else p.status }
    match p.op with
    | 0x0A =>
      let old := ws.headD noWord
      let opd := parWord p.params 8 0
      let refused := p.params.getD 0 0 = 0 && (addWord old opd).isNone
      let s := s.setPkt q
      if q.cancelled then s.cabFinish q 0x0A 0 q.data
      else if status ≠ 0 then s.cabFinish q 8 status q.data
      else s.cabFinish q 0 (b2n refused) q.data
    | 0x10 =>
      let w := ws.headD noWord
      let fl := p.params.getD 1 0
      if bit fl 0 && w.tag = tagInvalid && status = 0 then
        let e := { p with reads := [] }
        if p.cancelled then s.cabFinish e 0x0A 0 e.data else s.cabFinish e (if p.status = 0 then 0 else 8) p.status e.data
      else if bit fl 1 && w.tag = tagEnd && !p.cancelled then
        s.cabFinish q (if q.status = 0 then 0 else 8) q.status q.data
      else (s.setPkt q).cabStreamNext p.tr p.tag
    | _ =>
      (((s.setPkt q).cabIssue 600 p.tr p.tag).cabMemEnd p.tr p.tag)

/-! ## Configuration and flash -/

/-- LOAD (R806, R831): waits for a load in progress; the reply follows the end of its own (R806). -/
def execLoad (tr tag : Nat) (s : State) : Out :=
  .next (cabRow 0x18 tr tag s fun p s =>
    if s.cfg.load.isSome then s
    else
      let src := p.params.getD 0 0
      let s := s.setPkt { p with started := true }
      let s := if src = 4 then s.ww .CFG_SRC_ADDR (parNat p.params 2 6) 0 else s
      s.writeLoadCtl (src + 8))

/-- Records of a host stream that are complete are checked and written (R807). -/
def State.streamRecords (s : State) (fuel : Nat) : State :=
  match fuel with
  | 0 => s
  | n + 1 =>
    match s.cfg.load with
    | none => s
    | some l =>
      if l.src = 3 && l.next < l.hdr.count && 512 + 800 * (l.next + 1) ≤ l.bytes.length then (s.frameRecord l).streamRecords n else s

/-- A host-source load begins from cleared islands (R374, R807). -/
def State.streamBegin (s : State) : State :=
  let s : State := match s.cfg.load with | some l => if l.src = 3 then s.undoLoad l else s | none => s
  let s : State := (s.allIslands.foldl (fun s e => (s.holdIsland e.1 e.2 true).clearIsland e.1 e.2) s).coresReset
  let s := (s.wf F.CFG_LOAD_STAT_BUSY 1 0).wf F.CFG_LOAD_CTL_START 1 0
  s.setCfg { s.cfg with load := some ⟨3, 0, true, true, ImgHdr.none, 0, ⟨0, 0, false⟩, [], [], 0, []⟩ }

/-- The bytes of a chunk join the stream: the header is checked once it is whole, then the records, and at the end the digest
(R372, R374, R807). -/
def State.streamChunk (s : State) (bs : List Nat) : State :=
  match s.cfg.load with
  | none => s
  | some l =>
    let l' := { l with bytes := l.bytes ++ bs }
    let whole := 512 ≤ l'.bytes.length
    let cause := if l.bytes.length < 512 && whole then s.hdrCause l' (l'.bytes.take 512) else 0
    if cause ≠ 0 then s.failLoad l' cause
    else
      let l' := if l.bytes.length < 512 && whole then { l' with hdr := parseHdr (l'.bytes.take 512) } else l'
      let s := (s.setCfg { s.cfg with load := some l' }).streamRecords (bs.length / 800 + 2)
      match s.cfg.load with
      | none => s
      | some l =>
        if !whole || l.bytes.length < l.hdr.len then s
        else if l.hdr.len < l.bytes.length then s.failLoad l 0xB
        else
          let g := s.digestOk l
          if g.1 then g.2.loadDone l else g.2.failLoad l 0xC

/-- STREAM_IMAGE (R374, R807). -/
def execStreamImage (tr tag : Nat) (s : State) : Out :=
  .next (cabRow 0x19 tr tag s fun p s =>
    let off := parNat p.params 0 4
    let bs := p.params.drop 4
    let boot := s.rf F.DEV_ROLE_BOOT 0
    let have_ := match s.cfg.load with | some l => if l.src = 3 then l.bytes.length else 0 | none => 0
    let other := match s.cfg.load with | some l => l.src != 3 | none => false
    if !(4 ≤ boot && boot ≤ 6) || s.imageLoaded then s.cabFinish p 7 1 []
    else if other then s
    else if off ≠ 0 && off ≠ have_ then s.cabFinish p 4 0 []
    else
      let t := ((if off = 0 then s.streamBegin else s)).streamChunk bs
      if t.cfg.load.isSome || t.imageLoaded then t.cabFinish p 0 0 []
      else t.cabFinish p 0x0B (t.rf F.CFG_LOAD_STAT_CAUSE 0) [])

/-- The flash slot of a STORE SLOT (Table 14-10): indices as in `State.slot`. -/
def storeSlot (k : Nat) : Nat := match k with | 3 => 6 | 4 => 5 | 5 => 7 | n => n

/-- Flash operations that erase `size` bytes from `base` and program `bs` there (R364). -/
def storeOps (base size : Nat) (bs : List Nat) : List FlashOp :=
  (List.range (size / 4096)).map (fun k => FlashOp.erase (base + 4096 * k))
    ++ (List.range ((bs.length + 255) / 256)).map fun k => FlashOp.program (base + 256 * k) ((bs.drop (256 * k)).take 256)

/-- The checks of a STORE (R809): status and detail, 0 where they pass, with the bytes. -/
def State.storeCheck (s : State) (slot addr n : Nat) : (Nat × Nat × List Nat) × State :=
  let i := storeSlot slot
  let size := if slot = 5 then 4096 else (s.slot i).2
  if needsGolden i && !s.goldenOpen then ((7, 9, []), s)
  else if s.retired i || s.retired 3 then ((7, 2, []), s)
  else if size < n then ((7, 0x0A, []), s)
  else
    let c : (Nat × Nat) × State :=
      if slot ≤ 2 then
        let c := s.imageCheck ⟨4, addr, false, false, ImgHdr.none, 0, ⟨0, 0, false⟩, [], [], 0, []⟩
        (if c.1.1 ≠ 0 then (0x0B, c.1.1) else (0, 0), c.2)
      else ((0, 0), s)
    if c.1.1 ≠ 0 then ((c.1.1, c.1.2, []), c.2)
    else
      let r := c.2.memBytes addr 0 n
      match r.1 with
      | none => ((0x0B, 0xF, []), r.2)
      | some b =>
        let ok := if slot ≤ 2 then true
          else if slot ≤ 4 then r.2.fwAccepted b
          else (parseDirectory (b ++ List.replicate (4096 - b.length) 0xFF)).isSome
        (if ok then (0, 0, b) else (0x0B, 4, []), r.2)

/-- STORE (R808, R809, R831): waits for flash work and for a host stream; the slot is then erased and programmed. -/
def execStore (tr tag : Nat) (s : State) : Out :=
  .next (cabRow 0x1A tr tag s fun p s =>
    if !s.cfg.jobs.isEmpty || s.cfg.active.isSome || (match s.cfg.load with | some l => l.src == 3 | none => false) then s
    else
      let k := p.params.getD 0 0
      let r := s.storeCheck k (parNat p.params 2 6) (parNat p.params 8 4)
      if r.1.1 ≠ 0 then
        (if r.1.1 = 7 then r.2.raise .nvWriteRefused 0 0 else r.2).cabFinish p r.1.1 r.1.2.1 []
      else
        let i := storeSlot k
        let ops := if k = 5 then storeOps 4096 4096 r.1.2.2 ++ storeOps 0 4096 r.1.2.2
          else storeOps (r.2.slot i).1 (r.2.slot i).2 r.1.2.2
        (r.2.setPkt { p with started := true }).addJob ops (some (tr, tag)))

/-- GOLDEN_UNLOCK (R810, R832). -/
def execGoldenUnlock (tr tag : Nat) (s : State) : Out :=
  .next (cabRow 0x1B tr tag s fun p s =>
    if parNat p.params 4 2 ≠ s.devNum % 512 then s.cabFinish p 4 4 []
    else if s.cfg.fuses.secureEn && tr ≠ 0 then s.cabFinish p 7 3 []
    else (s.wf F.CFG_NV_STAT_GOLDEN_OPEN 1 0).cabFinish p 0 0 [])

/-- The firmware runs (R811, R836, R1047): slot code 1 golden, 2 update, 3 memory. It raises maltster-watchdog if the boot state
machine had served (Table 19-9). -/
def State.fwRuns (s : State) (slot version : Nat) : State :=
  let s := ((s.wf F.CABEN_STAT_BOOT_SM 0 0).wf F.RST_STAT_FW_SLOT slot 0).setCab { s.cab with ready := true }
  let s := if s.rst.late then s.raise .maltsterWatchdog 0 0 (s.rw .RST_STAT 0) else s
  { s with rst := { s.rst with
      fwVersion := version, phase := if s.rst.phase = 8 then 9 else 3, late := false, kickAt := s.now } }

/-- FW_START (R811, R1046, R1049). -/
def execFwStart (tr tag : Nat) (s : State) : Out :=
  .next (cabRow 0x1C tr tag s fun p s =>
    let src := p.params.getD 0 0
    let r : Option (List Nat) × State :=
      if src < 2 then (some (s.fwBytes (5 + src)), s) else s.memBytes (parNat p.params 2 6) 0 (parNat p.params 8 4)
    let empty := src < 2 && (!s.cfg.dirOk || (s.slot (5 + src)).2 = 0 || leNat ((s.flashBytes (s.slot (5 + src)).1 4)) = 0xFFFFFFFF)
    match r.1 with
    | none => r.2.cabFinish p 0x0B 3 []
    | some b =>
      if empty then r.2.cabFinish p 0x0B 1 []
      else if !r.2.fwAccepted b then r.2.cabFinish p 0x0B 2 []
      else ((r.2.cabFinish p 0 0 []).fwRuns (src + 1) (leNat ((b.drop 8).take 4))))

/-! ## NV, repair and fuses -/

/-- The bytes that NV_READ returns of a type (R812). -/
def State.nvBytes (s : State) (ty : Nat) : Option (List Nat) :=
  match ty with
  | 1 => (s.nvData 1).map fun b => b.take 5
  | 2 => (s.nvData 2).map fun _ => s.softEntries.flatMap fun e => leBytes 6 e
  | _ => s.nvData 3

/-- NV_READ (R812). -/
def execNvRead (tr tag : Nat) (s : State) : Out :=
  .next (cabRow 0x20 tr tag s fun p s =>
    match s.nvBytes (p.params.getD 0 0) with
    | none => s.cabFinish p 0x0B 1 []
    | some b => s.cabFinish p 0 0 ((b.drop (parNat p.params 2 2)).take (cabLimit tr - 2)))

/-- A new generation of a record is to be written (R367, R813); with no room in the store the packet is refused. -/
def State.nvStart (s : State) (p : CabPkt) (ty : Nat) (data : List Nat) : State :=
  if s.retired 4 || s.retired 3 then (s.cabFinish p 7 2 []).raise .nvWriteRefused 0 0
  else match s.nvOps ty data with
    | none => s.cabFinish p 7 2 []
    | some (ops, put) =>
      let s := (s.setPkt { p with started := true }).addJob ops (some (p.tr, p.tag))
      s.setCfg { s.cfg with nvPut := put }

/-- NV_WRITE (R368, R813). -/
def execNvWrite (tr tag : Nat) (s : State) : Out :=
  .next (cabRow 0x21 tr tag s fun p s =>
    if !s.cfg.jobs.isEmpty || s.cfg.active.isSome then s
    else
      let b := p.params.drop 2
      let limit := leNat ((b.drop 2).take 3)
      if p.params.getD 0 0 = 1 then
        if 31 < b.getD 0 0 then s.cabFinish p 4 2 []
        else if 2 < b.getD 1 0 then s.cabFinish p 4 3 []
        else if limit = 0 || 1048575 < limit then s.cabFinish p 4 4 []
        else if (List.range 5).any fun i => limit < s.eraseCnt i then s.cabFinish p 7 4 []
        else s.nvStart p 1 b
      else s.nvStart p 3 b)

/-- The memory group of the array of a repair entry, and the protected address recorded there (R315, R336). -/
def State.repairGroup (s : State) (e : Nat) : Nat × Nat :=
  let g := match bits e 45 43 with | 0 => 0 | 1 => 1 | 2 => 2 | 3 => 2 | 4 => 0 | _ => 1
  (g, s.rf F.PROT_ERR_LAST_PADDR (bits e 42 40) g)

/-- Whether the group of an entry's array has recorded an error in the row, or at the word position, that the entry replaces. -/
def State.repairSeen (s : State) (e : Nat) : Bool :=
  let a := repairArr e
  let g := s.repairGroup e
  let w := g.2 - a.1
  s.rb F.PROT_ERR_LAST_VALID (bits e 42 40) g.1 && decide (a.1 ≤ g.2) && decide (w < a.2.1 * a.2.2.1)
    && (if bits e 47 46 = 1 then w / a.2.2.1 == bits e 30 20 else w % a.2.2.1 == bits e 19 9 / 58)

/-- The firmware adds the soft entry of a row or column whose errors persist after a full-word rewrite (R315); it is one in which
an error stands recorded. That the errors persist is what the sender says (log 174). -/
def State.fwRepair (s : State) (e : Nat) : State :=
  let es := s.softEntries
  if s.rst.phase < 4 || 7 < s.rst.phase || s.bootSm || !s.cfg.jobs.isEmpty || s.cfg.active.isSome || !s.repairValid e || !s.repairSeen e
      || es.contains e || 256 ≤ es.length then s
  else if s.retired 4 || s.retired 3 then s.raise .nvWriteRefused 0 0
  else match s.nvOps 2 (softRecord (es ++ [e])) with
    | none => s
    | some (ops, put) =>
      let s := s.addJob ops none
      s.setCfg { s.cfg with nvPut := put }

/-- REPAIR_ADD (R313, R315, R316, R814): an entry from a host's packet, or one that the firmware adds of its own. -/
def execRepairAdd (tr : Nat) (x : RepairFrom) (s : State) : Out :=
  .next (match x with
  | .firmware e => s.fwRepair e
  | .packet tag => cabRow 0x22 tr tag s fun p s =>
    if !s.cfg.jobs.isEmpty || s.cfg.active.isSome then s
    else
      let e := parNat p.params 0 6
      let es := s.softEntries
      if !s.repairOk e then s.cabFinish p 4 0 []
      else if es.contains e then s.cabFinish p 0 1 []
      else if 256 ≤ es.length then s.cabFinish p 7 5 []
      else s.nvStart p 2 (softRecord (es ++ [e])))

/-- A 256-bit free value. -/
def State.free256 (s : State) : Nat × State :=
  (List.range 6).foldl (fun (r : Nat × State) k => let f := r.2.free; ((r.1 + f.1 * 2 ^ (48 * k)) % 2 ^ 256, f.2)) (0, s)

/-- Whether a fuse has a bit blown (Table 14-11). -/
def Fuses.blownBit (f : Fuses) (k : Nat) : Bool :=
  match k with
  | 1 => f.secureEn | 2 => f.imageKey != 0 | 3 => f.keyHash0 != 0 | 4 => f.keyHash1 != 0 | 5 => f.revoke0 | _ => f.debugClose

/-- A fuse with a value blown in. -/
def Fuses.blow (f : Fuses) (k v : Nat) : Fuses :=
  match k with
  | 1 => { f with secureEn := v % 2 == 1 } | 2 => { f with imageKey := v } | 3 => { f with keyHash0 := v }
  | 4 => { f with keyHash1 := v } | 5 => { f with revoke0 := v % 2 == 1 } | _ => { f with debugClose := v % 2 == 1 }

/-- The dies with sensors (R1059). -/
def State.senseDies (s : State) : List Nat := 0 :: s.fabDies

/-- FUSE_BLOW (R815, Table 14-11): `good` says that the device senses the value it has blown. What a mismatching fuse holds is
open. -/
def execFuseBlow (tr tag : Nat) (good : Bool) (s : State) : Out :=
  .next (cabRow 0x23 tr tag s fun p s =>
    let k := p.params.getD 0 0
    let v := if 2 ≤ k && k ≤ 4 then beNat (p.params.drop 1) else 1
    let f := s.cfg.blown
    if tr ≠ 0 then s.cabFinish p 7 3 []
    else if f.blownBit k then s.cabFinish p 7 6 []
    else if (k = 1 && !(f.blownBit 2 && f.blownBit 3)) || (k = 5 && !f.blownBit 4) then s.cabFinish p 7 7 []
    else if s.senseDies.any fun d => s.dieTemp d < 0 || 85 < s.dieTemp d then s.cabFinish p 7 8 []
    else if good then (s.setCfg { s.cfg with blown := f.blow k v }).cabFinish p 0 0 []
    else
      let r := s.free256
      ((r.2.setCfg { r.2.cfg with blown := f.blow k r.1 }).raise .fuseProgramFailed 0 0).cabFinish p 0x0B 1 [])

/-! ## Control -/

/-- RESET_ISLAND (R391, R816): the island is reset, and the reply follows the end of its reset. -/
def execResetIsland (tr tag : Nat) (s : State) : Out :=
  .next (match s.cabPkt tr tag with
    | none => s
    | some p =>
      let d := p.params.getD 1 0
      let i := p.params.getD 2 0
      if p.op ≠ 0x28 || p.params.getD 0 0 ≠ 0 then s
      else if p.started then (if (s.island d i).underReset then s else s.cabFinish p 0 0 [])
      else if !s.fabDies.contains d then s.cabFinish p 4 1 []
      else if 15 < i then s.cabFinish p 4 2 []
      else if (s.island d i).held then s.cabFinish p 0 0 []
      else (s.setPkt { p with started := true }).beginReset d i 0)

/-- A RESET of KIND 1 or 2: its reply is queued first, and the reset waits for it (R816). -/
def State.cabReset (s : State) (p : CabPkt) : State :=
  let s := s.cabFinish p 0 0 []
  { s with rst := { s.rst with hold := some (p.tr, cabPacket p.op p.tag 0 0 [], s.now) } }

/-- RESET_MALTSTER (R816). -/
def execResetMaltster (tr tag : Nat) (s : State) : Out :=
  .next (cabRow 0x28 tr tag s fun p s =>
    if p.params.getD 0 0 ≠ 1 then s
    else
      let s := s.cabReset p
      { s with rst := { s.rst with fwReq := true, skip := false, expiries := [] } })

/-- RESET_DEVICE (R816, R1037). -/
def execResetDevice (tr tag : Nat) (s : State) : Out :=
  .next (cabRow 0x28 tr tag s fun p s =>
    if p.params.getD 0 0 ≠ 2 then s else (s.cabReset p).askReset 3)

/-- FAULT_READ (R817, R1013, R1016). -/
def execFaultRead (tr tag : Nat) (s : State) : Out :=
  .next (cabRow 0x29 tr tag s fun p s =>
    let rs := s.fm.log.take (p.params.getD 0 0)
    let data := rs.flatMap fun r => wordData [dataWord r.w0, dataWord r.w1, dataWord r.w2, ⟨BitVec.ofNat 48 r.w3, tagEnd⟩]
    let s := if bit (p.params.getD 1 0) 0 then s.setFm { s.fm with log := s.fm.log.drop rs.length } else s
    let left := if bit (p.params.getD 1 0) 0 then s.fm.log.length else s.fm.log.length - rs.length
    s.cabFinish p 0 (min 255 left) data)

/-- CABEN_TIMEOUT (R822): the limit class of a packet has expired since its acceptance. -/
def execCabenTimeout (tr tag : Nat) (s : State) : Out :=
  .next (match s.cabPkt tr tag with
    | none => s
    | some p =>
      if (s.now + 2 ^ 48 - p.since) % 2 ^ 48 < ((opInfo p.op).map fun i => i.1).getD 0 then s
      else
        let stop := s.cabCancels p
        let s := if stop then s.cabDrop p else s
        ((s.cabFinish p 9 (b2n !stop) []).incE F.CABEN_TIMEOUT_CNT_COUNT 0).raise .cabenTimeout 0 0)

/-! ## Registers -/

/-- Both UDP counters go to 0 and UDP_EXHAUSTED is cleared (R787). -/
def State.udpClear (s : State) : State := (s.setCab { s.cab with txCtr := 0, rxCtr := 0 }).wf F.CABEN_STAT_UDP_EXHAUSTED 0 0

/-- UDP_EN is cleared: outstanding UDP packets run on without reply, their tags free at once (R829). -/
def State.udpOff (s : State) : State :=
  let n := (s.cab.pkts.filter fun p => p.tr == 3).length
  let keep := s.cab.pkts.filter fun p => p.tr != 1 || !(p.started && !serialOp p.op)
  s.setCab { s.cab with pkts := keep.mapIdx fun k p =>
    if p.tr = 1 then { p with tr := 3, tag := p.tag + 256 * (n + k + 1), mute := true, peer := none } else p }

/-- A write of CABEN_CTL (k = 0), the transmit salt (3) or the receive salt (4) (R787, R788, R829, R840). -/
def State.writeCaben (s : State) (k w : Nat) : State :=
  let en := s.rb F.CABEN_CTL_UDP_EN 0
  if k = 3 || k = 4 then
    if en then s
    else if k = 3 then (s.wf F.CABEN_UDP_TX_SALT_SALT (bits w 31 0) 0).udpClear else (s.wf F.CABEN_UDP_RX_SALT_SALT (bits w 31 0) 0).udpClear
  else
    let s := (s.wf F.CABEN_CTL_UDP_PORT (bits w 47 32) 0).wf F.CABEN_CTL_SAETTE_EN (bits w 2 2) 0
    let s := if en then s
      else
        let sec := if s.cfg.fuses.secureEn then 1 else bits w 4 4
        ((s.wf F.CABEN_CTL_UDP_KEY_SLOT (bits w 12 8) 0).wf F.CABEN_CTL_UDP_SECURE sec 0).udpClear
    let s := s.wf F.CABEN_CTL_UDP_EN (bits w 1 1) 0
    if en && !bit w 1 then s.udpOff else s

/-- CABEN_CTL_WRITE (R787, R788). -/
def execCabenCtlWrite (k : Nat) (w : TWord) (s : State) : Out :=
  .next (if k ≠ 0 && k ≠ 3 && k ≠ 4 then s
    else if w.tag.toNat < 2 then s.writeCaben k w.data.toNat
    else s.regRefuse 0 (w.tag.toNat - 2) true (0x0F000500 + k))

end Sys2Proof.Machine
end

