-- ==== Sys2Proof/Machine/Debug.lean ====
section
/-!
DEFINITION. The debug port (R869 to R876, R886).
-/
namespace Sys2Proof.Machine

/-- The state with the debug port replaced. -/
def State.setDbg (s : State) (x : Debug) : State := { s with dbg := x }

/-- The identification word (Table 15-8). -/
def State.idcode (s : State) : Nat := s.rf F.DEV_ROLE_GRADE_CODE 0 * 2 ^ 28 + 0xA7 * 2 ^ 20 + s.part * 2 ^ 12 + 0x2B1 * 2 + 1

/-- Cells of the boundary register (R871). -/
def State.boundaryLen (s : State) : Nat := if s.is20 then 1124 else 1788

/-- An instruction selected; with the DEBUG_CLOSE fuse in force every code but IDCODE acts as BYPASS (R870, R876). -/
def State.tapSelect (s : State) (code : Nat) : State :=
  s.setDbg { s.dbg with ir := if s.cfg.fuses.debugClose && code != 0x01 then 0xFF else code }

/-- TAP_RESET (R869, R870, R886): IDCODE is selected; an operation under way completes with its result discarded. -/
def execTapReset (s : State) : Out :=
  .next (s.setDbg { s.dbg with ir := 0x01, dr := s.idcode, drop := s.dbg.busy.isSome })

/-- IDCODE (R870, Table 15-8). -/
def execIdcode (s : State) : Out := .next ((s.tapSelect 0x01).setDbg { (s.tapSelect 0x01).dbg with dr := s.idcode })

/-- SAMPLE_PRELOAD (R870, R871): the boundary register captures `sample` and is loaded with `preload`; the balls are not
taken. -/
def execSamplePreload (sample preload : Nat) (s : State) : Out :=
  let s := s.tapSelect 0x02
  let m := 2 ^ s.boundaryLen
  .next (if s.dbg.ir = 0x02 then s.setDbg { s.dbg with dr := sample % m, boundary := preload % m } else s)

/-- An instruction that takes the covered balls is selected: debug-boundary-test (R872). -/
def State.tapTake (s : State) (code : Nat) : State :=
  let s := s.tapSelect code
  if s.dbg.ir = code then s.raise .debugBoundaryTest 0 0 else s

/-- EXTEST (R871, R872): the boundary register takes `v` and drives the covered outputs. -/
def execExtest (v : Nat) (s : State) : Out :=
  let s := s.tapTake 0x03
  .next (if s.dbg.ir = 0x03 then s.setDbg { s.dbg with boundary := v % 2 ^ s.boundaryLen } else s)

/-- CLAMP (R872). -/
def execClamp (s : State) : Out := .next (s.tapTake 0x04)

/-- HIGHZ (R872). -/
def execHighz (s : State) : Out := .next (s.tapTake 0x05)

/-- BYPASS (R870). -/
def execBypass (s : State) : Out := .next (s.tapSelect 0xFF)

/-- DBG_ACCESS (R873). -/
def execDbgAccess (s : State) : Out := .next (s.tapSelect 0x20)

/-- DBG_ACCESS_READ (R873, R874): an operation in progress makes it an overrun. -/
def execDbgAccessRead (addr : Nat) (s : State) : Out :=
  .next (if s.dbg.ir ≠ 0x20 then s
    else if s.dbg.busy.isSome then s.setDbg { s.dbg with overrun := true }
    else match s.request .read 0 2 0 (addr % 2 ^ 48) 1 [] with
      | some (tag, t) => t.setDbg { t.dbg with busy := some tag, drop := false }
      | none => s.setDbg { s.dbg with overrun := true })

/-- DBG_ACCESS_WRITE (R873, R874): done once its transaction has been issued. -/
def execDbgAccessWrite (addr : Nat) (w : TWord) (s : State) : Out :=
  .next (if s.dbg.ir ≠ 0x20 then s
    else if s.dbg.busy.isSome then s.setDbg { s.dbg with overrun := true }
    else (s.post 0 2 (addr % 2 ^ 48) [w]).setDbg { (s.post 0 2 (addr % 2 ^ 48) [w]).dbg with status := 0 })

/-- STATE of the access register (Table 15-9). -/
def Debug.state (x : Debug) : Nat := if x.overrun then 3 else if x.busy.isSome then 1 else if x.status ≠ 0 then 2 else 0

/-- DBG_ACCESS_CAPTURE (R873, R874, Table 15-9). -/
def execDbgAccessCapture (s : State) : Out :=
  let x := s.dbg
  .next (if x.ir ≠ 0x20 then s
    else s.setDbg { x with dr := x.data * 2 ^ 52 + x.status * 2 ^ 4 + x.tag * 2 ^ 2 + x.state, overrun := false })

/-- A read response reaches the debug port (R874, R886). -/
def State.debugResponse (s : State) (rtag status : Nat) (ws : List TWord) : State :=
  let x := s.dbg
  if x.busy ≠ some rtag then s
  else if x.drop then s.setDbg { x with busy := none, drop := false }
  else
    let w := ws.getD 0 noWord
    s.setDbg { x with busy := none, data := w.data.toNat, tag := w.tag.toNat, status := status }

/-- A new nonce from the hardware random bit source (R875). -/
def Debug.draw (x : Debug) : Debug := { x with nonce := Config.nonce x.draws % 2 ^ 64, draws := x.draws + 1 }

/-- The challenge: nonce and unique identifier (R875). -/
def Debug.challenge (x : Debug) : Nat := x.nonce * 2 ^ 64 + x.uid % 2 ^ 64

/-- MALT_CHALLENGE (R875). -/
def execMaltChallenge (s : State) : Out :=
  let s := s.tapSelect 0x30
  .next (if s.dbg.ir = 0x30 then
      let x := s.dbg.draw
      s.setDbg { x with dr := x.challenge }
    else s)

/-- MALT_RESPONSE (R875): the unlock token `sig` is checked against the challenge; after 3 failures it is refused. -/
def execMaltResponse (sig : Nat) (s : State) : Out :=
  let s := s.tapSelect 0x31
  let x := s.dbg
  .next (if x.ir ≠ 0x31 then s
    else if 3 ≤ x.fails then s.setDbg x.draw
    else if sigGood x.key (sha256 (beBytes 16 x.challenge)) (sig % 2 ^ 512) then
      s.setDbg { x.draw with unlocked := true }
    else (s.setDbg { x.draw with fails := x.fails + 1 }).raise .debugUnlockFailed 0 0)

/-- MALT_DBG (R875): once unlocked it is selected, and what its unpublished data register captures is open; else the code
acts as BYPASS. -/
def execMaltDbg (s : State) : Out :=
  .next (if s.dbg.unlocked then
      let s := s.tapSelect 0x32
      if s.dbg.ir = 0x32 then let f := s.free; f.2.setDbg { f.2.dbg with dr := f.1 } else s
    else s.tapSelect 0xFF)

end Sys2Proof.Machine
end

