-- ==== Sys2Proof/Machine/Power.lean ====
section
/-!
DEFINITION. Power, resets, start-up, core voltage and thermal levels (chapter 19).
-/
namespace Sys2Proof.Machine

/-- The state with resets and power replaced. -/
def State.setRst (s : State) (r : Rst) : State := { s with rst := r }

/-- THERM_N is driven low during an orderly shutdown and while the trip latch is set (R1061, R1063). -/
def State.thermN (s : State) : Bool := !(s.rst.shutdown || s.rst.trip)

/-! ## Power-on reset -/

/-- The die ports after a reset: as new, with their fuse maps (R468). -/
def State.ixFresh (s : State) : SMap IxPort := s.ix.foldl (fun m e => mset m e.1 { IxPort.init with fuse := e.2.fuse, fuseClk := e.2.fuseClk } IxPort.init) []

/-- The power-on reset: every block as new; flash, fuses and the trip latch keep (R1037, R1042, Table 19-3, R395). -/
def State.powerOn (s : State) : State :=
  let s := s.opCut
  let r := s.rst
  let t : State := { State.reset with
    pending := s.pending, freeCtr := s.freeCtr, macLatFuse := s.macLatFuse, ix := s.ixFresh
    cfg := { Cfg.init with
      flash := s.cfg.flash, blown := s.cfg.blown, fwKeyHash := s.cfg.fwKeyHash, fuseMap := s.cfg.fuseMap
      jput := s.cfg.jput, nvPut := s.cfg.nvPut }
    dbg := { Debug.init with uid := s.dbg.uid, key := s.dbg.key, draws := s.dbg.draws }
    rst := { Rst.init with
      por := true, trip := r.trip, partCode := r.partCode, gradeCode := r.gradeCode, integ := r.integ } }
  (t.wf F.DEV_ROLE_PART_CODE r.partCode 0).wf F.DEV_ROLE_GRADE_CODE r.gradeCode 0

/-- A bit of SUP_STAT. -/
def State.setRail (s : State) (n : Nat) (on : Bool) : State :=
  let v := s.rw .SUP_STAT 0
  if 48 ≤ n || bit v n = on then s else s.ww .SUP_STAT (if on then v + 2 ^ n else v - 2 ^ n) 0

/-- POWER_ON_RESET (R1033, R1037, R1065): cause 0, supply `rail` (a bit number of SUP_STAT) falls below its POR threshold;
cause 1, POR_N is low. -/
def execPowerOnReset (cause rail : Nat) (s : State) : Out :=
  let s := (s.powerOn).wf F.RST_STAT_LAST_CAUSE (min 1 cause) 0
  .next (if cause = 0 then s.setRail rail false else s)

/-- The banks that the part has (R1084). -/
def State.hasBank (s : State) (b : Nat) : Bool := !(s.is20 && (b == 2 || b == 3))

/-- The latency registers of the MACs as fused for MODE 0 (R660). -/
def State.macLatReset (s : State) : State :=
  (List.range 4).foldl (fun s m => (s.ww .MAC_LAT (mget s.macLatFuse (m * 4) 0 % 2 ^ 32) 0 m).ww .MAC_STATION
    (mget s.macLatFuse (16 + m) 0 % 2 ^ 48) 0 m) s

/-- A duplex member starts in the joining state (R985). -/
def State.joining (s : State) : State := if s.rf F.DEV_ROLE_ROLE 0 = 3 then s.wf F.DUP_STAT_STATE 1 0 else s

/-- POWER_ON_RESET_RELEASE (R47, R101, R331, R468, R770, R1027, R1038, R1051, R1063, R1084, R1106): the straps, the nominal
that each bank detects (DIO_BANK_STAT, 0 out of every range), and whether every die is below 100 °C. Memories, replicas and die
ports are at their reset values. -/
def execPowerOnResetRelease (role boot devnum banks : Nat) (cool : Bool) (s : State) : Out :=
  let code := fun b => banks / 4 ^ b % 4
  .next (if !s.rst.por || (s.rst.trip && !cool) || (List.range 8).any (fun b => s.hasBank b && code b == 0) then s
    else
      let nom := (List.range 8).foldl (fun n b => n + (if s.hasBank b then code b else 0) * 4 ^ b) 0
      let rails := 0x3F + (List.range 8).foldl (fun n b => n + b2n (s.hasBank b) * 2 ^ (8 + b)) 0
      let s := ((s.wf F.DEV_ROLE_ROLE role 0).wf F.DEV_ROLE_BOOT boot 0).wf F.DEV_ROLE_DEVNUM_STRAP devnum 0
      let s := (s.wf F.DIO_BANK_STAT_NOMINAL nom 0).ww .SUP_STAT rails 0
      let s := s.wf F.TB_STAT_REPLICA_OK (if s.is20 then 3 else 15) 0
      let s := (s.wf F.REPAIR_STAT_FUSE_APPLIED s.cfg.fuseMap.length 0).macLatReset
      let s : State := if s.gradeLimit = 160 then s else s.fabDies.foldl (fun s d => (List.range 16).foldl (fun (s : State) i =>
        s.wf F.FAB_ISL_LIMIT_LIMIT_CODE s.gradeLimit d i) s) s
      let s := s.setCfg { s.cfg with fuses := s.cfg.blown }
      let s := (s.setRst { s.rst with por := false, phase := 2, reload := true, since := s.now }).joining
      if s.rst.trip then (s.wf F.RST_STAT_TRIP_SEEN 1 0).raise .thermalTrip 0 0 else s)

/-- SUPPLY_OUT_OF_RANGE (R1033, R1071, R1107): supply `rail` leaves its range above its POR threshold. -/
def execSupplyOutOfRange (rail : Nat) (s : State) : Out :=
  .next ((s.setRail rail false).raise .supplyOutOfRange 0 0)

/-- SUPPLY_WITHIN_RANGE (R1033, Table 19-10): a supply returns within its range. -/
def execSupplyWithinRange (rail : Nat) (s : State) : Out := .next (s.setRail rail true)

/-! ## Device reset -/

/-- Roles and island register blocks, which a device reset keeps (Table 19-3). MISL_STAT, a die control register of the memory
island that no row of Table 19-3 names, is kept with the island register blocks (DESIGN CHOICE, log 165). -/
def keptIslands : List RegName :=
  [.DEV_ROLE, .DEV_ROLE_CTL, .DEV_NUM, .ISL_CLK_CTL, .ISL_CLK_STAT, .ISL_STRETCH_CNT, .ISL_BREACH_CNT, .ISL_CH_STAT, .ISL_CH_CTL,
   .ISL_CH_DROP, .ISL_EVT_LAP, .MISL_STAT, .DIO_LEVEL, .DIO_DRIVE, .DIO_SAFE_LO, .DIO_SAFE_HI, .FAB_ISL_LIMIT, .BM_WW_CNT, .BM_RW_CNT,
   .BM_COLL_LAST, .BM_WIN_CTL, .BM_PORTB_MODE, .BM_STEAL_CNT, .BM_WIN_ABANDON_CNT, .REPAIR_STAT]

/-- The time base, which a device reset keeps, and the engine blocks, which take their own reset (R770, R932). -/
def keptTime : List RegName :=
  [.TB_TIME, .TB_EPOCH, .TB_ADJ, .TB_SLEW_LEFT, .CTX_CTL, .CTX_DESC_BASE, .CTX_PROD, .CTX_STAT, .CTX_WORDS_CNT, .CTX_RETRACT_CNT,
   .CTX_DROP_CNT, .ENG_EPOCH, .INST_CTL, .INST_STAT, .INST_ISL_LO, .INST_ISL_HI, .INST_CH_LO, .INST_CH_HI, .INST_RESET_CNT, .INST_RESET_NS]

/-- The fault manager, resets and power, which a device reset keeps (Table 19-3). -/
def keptPower : List RegName :=
  [.FM_CTL, .FM_STAT, .FM_NOTICE_ADDR, .FM_LOG_CTL, .FM_LOG_WIN, .FM_LOG_LOST_CNT, .FM_SHADOW_CNT, .FM_SRC_CTL, .FM_SRC_STAT, .FM_SRC_CNT,
   .FM_SRC_RECOV, .RST_CTL, .RST_STAT, .RST_CNT, .WDOG_CTL, .PMB_CTL, .PMB_STAT, .PMB_ERR_CNT, .THERM_CTL, .THERM_DIE, .SUP_STAT,
   .DIO_BANK_STAT]

/-- The registers that a device reset keeps (Table 19-3). -/
def keptRegs : List RegName := keptIslands ++ keptTime ++ keptPower

/-- The number of the register name in a key of the register file. -/
def keyName (k : Nat) : Nat := (Nat.unpair (Nat.unpair k).1).1

/-- The registers after a device reset: those kept, SLEW_DIV, and the status of the time base (R406, R770, Table 19-3). -/
def State.keepRegs (s : State) : State :=
  let t : State := { s with regs := s.regs.filter fun e => (keptRegs.map RegName.ctorIdx).contains (keyName e.1) }
  let t := t.wf F.TB_CTL_SLEW_DIV (s.rf F.TB_CTL_SLEW_DIV 0) 0
  (t.wf F.TB_STAT_HOLDOVER (s.rf F.TB_STAT_HOLDOVER 0) 0).wf F.TB_STAT_REPLICA_OK (s.rf F.TB_STAT_REPLICA_OK 0) 0

/-- The blocks that a device reset resets take their reset values (R517, R651, R715, R771, R837, R891, R985, Table 19-3). -/
def State.blocksReset (s : State) (reload : Bool) : State :=
  let s := s.keepRegs
  let t : State := { s with
    latch := [], bms := [], banks := [], inFlight := [], outst := [], resps := [], net := Net.init, stopPart := [], stopWait := [], stopOut := []
    mailbox := [], lostPairs := [], ix := s.ixFresh, credits := [], lanes := [], macs := [], links := [], pcs := [], scs := [], fwds := []
    sks := [], gw := Gw.init, follow := 0, switchTo := 0, headLost := none
    lio := { LineIo.init with tb := s.lio.tb }, rxProv := [], cab := Cab.init, cores := [], dup := Dup.init
    cfg := { s.cfg with
      load := none, loaded := s.cfg.loaded && !reload, release := if reload then [] else s.cfg.release, slots := [], found := false, dirOk := false, jobs := [], active := none, rewrites := [], spg := [] } }
  t.cyclesFromNow.macLatReset.joining

/-- The steps of a device reset (R1039, R1042, R1065, R957). -/
def State.deviceReset (s : State) (cause : Nat) : State :=
  let reload := s.rb F.RST_CTL_DEV_RELOAD 0 || s.cfg.load.isSome || cause == 6
  let s := s.safeState.wf F.DEV_ROLE_CTL_ACTIVE 0 0
  let s := s.programDone.opCut
  let s := match s.cfg.load with | some l => s.undoLoad l | none => s
  let s := ((s.dramReset 0).dramReset 1).enginesReset
  let s := (s.blocksReset reload).fmReset
  let s := s.setFm { s.fm with shut := [] }
  let s := ((s.wf F.RST_STAT_STATE 2 0).wf F.RST_STAT_LINE_READY 0 0).wf F.RST_STAT_LAST_CAUSE cause 0
  let s := ((s.wf F.RST_STAT_FW_BROKEN 0 0).wf F.RST_CTL_DEV_RESET 0 0).wf F.RST_CTL_FW_RESTART 0 0
  (s.incE F.RST_CNT_COUNT 0).setRst { s.rst with
    devReq := none, fwReq := false, inReset := true, reload := reload, phase := 2, shutdown := false, hold := none, skip := false
    expiries := [], coolAt := none }

/-- Whether the reply that a Caben RESET of KIND 1 or 2 waits for has gone: fetched or 100 ms old on host SPI, 1 ms old on the
other transports (R816). -/
def State.holdOver (s : State) : Bool :=
  match s.rst.hold with
  | none => true
  | some (tr, pkt, t) => if tr = 0 then !s.cab.replies.contains pkt || 100000000 ≤ s.ago t else 1000000 ≤ s.ago t

/-- DEVICE_RESET (R1039, R1062, R1066): a requested device reset begins, in a shutdown once every die is below 100 °C. -/
def execDeviceReset (s : State) : Out :=
  .next (match s.rst.devReq with
    | none => s
    | some c =>
      if s.rst.por || s.rst.inReset || (c == 3 && !s.holdOver) || (s.rst.shutdown && s.senseDies.any fun d => 100 ≤ s.dieTemp d)
      then s else s.deviceReset c)

/-- SYS_RESET_N_LOW (R1037). -/
def execSysResetNLow (s : State) : Out := .next (s.askReset 2)

/-- A write of RST_CTL (R1037, R1041, R1067, R1074): DEV_RESET and FW_RESTART read 1 until the reset is performed. -/
def State.writeRstCtl (s : State) (w : Nat) (acts : List HwAct) : State :=
  let s := s.plainWrite ⟨.RST_CTL, 0, 0, 0⟩ w acts
  let s := if bit w 47 then s.askReset 5 else s
  if bit w 46 && !s.rst.inReset then s.setRst { s.rst with fwReq := true, skip := false, expiries := [] } else s

/-- A tagged write of a register of this chapter (R75). -/
def rstOut (off : Nat) (w : TWord) (s : State) (act : Nat → State) : State :=
  if w.tag.toNat < 2 then act w.data.toNat else s.regRefuse 0 (w.tag.toNat - 2) true (0x0F000600 + off)

/-- DEV_RESET_WRITE (R1037, R1074). -/
def execDevResetWrite (w : TWord) (acts : List HwAct) (s : State) : Out := .next (rstOut 0 w s fun v => s.writeRstCtl v acts)

/-- FW_RESTART (R1041, R1074). -/
def execFwRestart (w : TWord) (acts : List HwAct) (s : State) : Out := .next (rstOut 0 w s fun v => s.writeRstCtl v acts)

/-- DEVICE_RESET_RELEASE (R1040, R1066): every island receives an island reset, and without a reload the cores of the loaded
image run; a shutdown reached meanwhile holds the device. -/
def execDeviceResetRelease (s : State) : Out :=
  .next (if !s.rst.inReset || s.rst.shutdown then s
    else
      let s := (s.setRst { s.rst with inReset := false, since := s.now }).cyclesFromNow
      let s : State := s.allIslands.foldl (fun s e =>
        let t := s.resetIsland e.1 e.2
        t.setIsland e.1 e.2 { t.island e.1 e.2 with underReset := false }) s
      let s := s.setDup { s.dup with loadAt := if s.imageLoaded then some s.now else none }
      let s := s.wf F.RST_STAT_STATE 0 0
      if s.rst.reload then s else s.coresRun)

/-! ## The boot ROM and the firmware -/

/-- The read mode that BOOT[2:0] selects among those that the flash lists (R360, R361, Table 7-6). Where the mode of the straps is
not listed, and for the firmware where no image is read from flash, the widest listed one that is not wider, or 1S-1S-1S, is taken
(DESIGN CHOICE, log 176). -/
def flashMode (f : Sfdp) (boot : Nat) : FlashMode :=
  if (boot = 2 || boot = 3) && f.m888 then .s888
  else if boot = 0 || 4 ≤ boot then .s111
  else if f.m144 then .s144
  else if f.m114 then .s114
  else .s111

/-- BOOT_ROM_START (R360, R361, R1046, R1047, R1049, R1050, R836): `sfdp` is what the flash's SFDP table says, none where no flash
answers. A boot state machine that serves goes on (R1049). -/
def execBootRomStart (sfdp : Option Sfdp) (s : State) : Out :=
  .next (if s.rst.por || s.rst.inReset || s.rst.shutdown || (s.rst.phase ≠ 2 && s.rst.phase ≠ 8)
        || (s.bootSm && s.cab.ready) then s
    else
      let found := sfdp.isSome
      let f := sfdp.getD ⟨false, false, false, false⟩
      let s := s.setCfg { s.cfg with found := found, addr4 := f.addr4, readMode := flashMode f (s.rf F.DEV_ROLE_BOOT 0) }
      let s := if found then s.readDirectory else s.setCfg { s.cfg with dirOk := false, slots := [] }
      let broken := s.rb F.RST_STAT_FW_BROKEN 0
      let ver := fun i => leNat ((s.flashBytes ((s.slot i).1 + 8) 4))
      if found && !broken && !s.rst.skip && s.fwSlotOk 6 then s.fwRuns 2 (ver 6)
      else if found && !broken && s.fwSlotOk 5 then s.fwRuns 1 (ver 5)
      else
        let s := ((s.wf F.RST_STAT_FW_SLOT 0 0).wf F.CABEN_STAT_BOOT_SM 1 0).setCab { s.cab with ready := true }
        s.setRst { s.rst with late := true })

/-- Bit `b` of a stored cell: data, tag, then check bits. -/
def cellBit (c : Cell) (b : Nat) : Bool :=
  if b < 48 then bit c.word.data.toNat b else if b < 50 then bit c.word.tag.toNat (b - 48) else bit c.check (b - 50)

/-- A cell with bit `b` taken from another. -/
def copyBit (c i : Cell) (b : Nat) : Cell :=
  if cellBit c b = cellBit i b then c
  else if b < 50 then ⟨flipBit c.word b, c.check⟩ else ⟨c.word, c.check ^^^ 2 ^ (b - 50)⟩

/-- A soft repair entry is applied: the row or column switched in is initialised (R314, R332). -/
def State.applyRepair (s : State) (e : Nat) : State :=
  let d := bits e 42 40
  let (base, rows, per, _, _) := repairArr e
  if bits e 47 46 = 1 then
    (List.range per).foldl (fun s k => let a := base + bits e 30 20 * per + k; s.setCell d a (initCell a)) s
  else
    let col := bits e 19 9
    (List.range rows).foldl (fun s r =>
      let a := base + r * per + col / 58
      s.setCell d a (copyBit (s.cell d a) (initCell a) (col % 58))) s

/-- Soft repair at start-up (R329, R330, R332): the valid entries in table order; one that finds no free spare of its kind in its
array is refused. A table of which pages are there but no whole generation with good CRCs fails its check. -/
def State.softRepair (s : State) : State :=
  let bad := s.nvTyped 2 && (s.nvData 2).isNone
  let s := s.setCfg { s.cfg with soft := [] }
  let s := if bad then s.raise .repairTableInvalid 0 0 else s
  let same := fun (a b : Nat) => bits a 47 31 == bits b 47 31
  let s := s.softValid.foldl (fun (s : State) e =>
    let arr := repairArr e
    let have_ := if bits e 47 46 = 1 then arr.2.2.2.1 else arr.2.2.2.2
    let used := ((s.cfg.fuseMap ++ s.cfg.soft).filter (same e)).length
    if used < have_ then
      let s := s.applyRepair e
      (s.setCfg { s.cfg with soft := s.cfg.soft ++ [e] }).wf F.REPAIR_STAT_SOFT_APPLIED (s.rf F.REPAIR_STAT_SOFT_APPLIED 0 + 1) 0
    else
      (s.wf F.REPAIR_STAT_SOFT_REFUSED (s.rf F.REPAIR_STAT_SOFT_REFUSED 0 + 1) 0).raiseEv
        { faultEv .repairSparesExhausted (bits e 42 40) (bits e 39 31) 0 with promote := true }) s
  (s.wf F.REPAIR_STAT_DONE 1 0).softView

/-! ## Fabric core voltage -/

/-- `num / den` rounded to the nearest number, a half up. -/
def nearest (num den : Nat) : Nat := (2 * num + den) / (2 * den)

/-- A voltage in mV in linear mode under VOUT_MODE: V × 2^-N, rounded (R1055). -/
def linearOf (mode mv : Nat) : Nat :=
  let x := mode % 32
  if x < 16 then nearest mv (1000 * 2 ^ x) else nearest (mv * 2 ^ (32 - x)) 1000

/-- A voltage in linear mode in mV, rounded. -/
def mvOf (mode raw : Nat) : Nat :=
  let x := mode % 32
  if x < 16 then raw * 2 ^ x * 1000 else nearest (raw * 1000) (2 ^ (32 - x))

/-- Whether a READ_VOUT lies within 10 mV of a request (R1057). -/
def near10 (mode raw mv : Nat) : Bool :=
  let x := mode % 32
  let n := if x < 16 then 1 else 2 ^ (32 - x)
  let v := raw * 1000 * (if x < 16 then 2 ^ x else 1)
  decide (v ≤ (mv + 10) * n) && decide (mv * n ≤ v + 10 * n)

/-- A command is written to the PMBus (R1054). -/
def State.busWrite (s : State) (code data : Nat) : State :=
  let b := s.rst.bus ++ [(code, data)]
  s.setRst { s.rst with bus := b.drop (b.length - 8) }

/-- pmbus-error, counted; the device then writes CLEAR_FAULTS (R1054, R1071). -/
def State.pmbError (s : State) : State := ((s.incE F.PMB_ERR_CNT_COUNT 0).raise .pmbusError 0 0).busWrite 0x03 0

/-- A failure on the PMBus: counted and raised; after three retries requests are disabled (R1058, R1071). -/
def State.pmbFail (s : State) : State :=
  let s := s.pmbError
  if s.rst.tries < 3 then s.setRst { s.rst with tries := s.rst.tries + 1 }
  else (s.wf F.PMB_CTL_EN 0 0).setRst { s.rst with tries := 0 }

/-- VOUT_COMMAND is sent to the regulator (R1054, R1055, R1057). -/
def State.sendVout (s : State) (mv : Nat) : State :=
  let s := (s.wf F.PMB_STAT_REQ_MV mv 0).wf F.PMB_STAT_SETTLED 0 0
  let v := linearOf s.rst.vmode mv % 65536
  (s.setRst { s.rst with vword := v, sentAt := s.now }).busWrite 0x21 v

/-- Whether the firmware serves the PMBus. -/
def State.fwServes (s : State) : Bool := !s.rst.por && !s.rst.inReset && !s.bootSm && (4 ≤ s.rst.phase && s.rst.phase ≤ 6)

/-- VOUT_COMMAND (R1055, R1056, R1058): a rise of the request is sent at once, a fall once the lower value has held for 1 ms;
`ack` says that the regulator acknowledges, `pec` that it finds the packet error code good, which is sent while PEC_EN is 1. -/
def execVoutCommand (ack pec : Bool) (s : State) : Out :=
  let mv := s.wantMv
  let cur := s.rf F.PMB_STAT_REQ_MV 0
  .next (if !s.fwServes || !s.rb F.PMB_CTL_EN 0 then s
    else if cur < mv || (mv < cur && s.rst.want.1 = mv && 1000000 ≤ s.ago s.rst.want.2) then
      let s := (s.setRst { s.rst with tries := 0 }).sendVout mv
      if ack && (pec || !s.rb F.PMB_CTL_PEC_EN 0) then s else s.pmbFail
    else s)

/-- READ_VOUT (R1054, R1057): the raw word read. -/
def execReadVout (raw : Nat) (good : Bool) (s : State) : Out :=
  .next (if !s.fwServes || s.rb F.PMB_STAT_SETTLED 0 then s
    else if !good then s.pmbFail
    else
      let s := s.wf F.PMB_STAT_VOUT_MV (mvOf s.rst.vmode raw) 0
      if near10 s.rst.vmode raw (s.rf F.PMB_STAT_REQ_MV 0) then (s.wf F.PMB_STAT_SETTLED 1 0).setRst { s.rst with tries := 0 } else s)

/-- VOLTAGE_SETTLE_TIMEOUT (R1058, R1071): 1 ms after it was sent, a request that has not settled is sent again, three times. -/
def execVoltageSettleTimeout (s : State) : Out :=
  .next (if !s.fwServes || !s.rb F.PMB_CTL_EN 0 || s.rb F.PMB_STAT_SETTLED 0 || s.ago s.rst.sentAt < 1000000 then s
    else
      let s := s.pmbFail
      if s.rb F.PMB_CTL_EN 0 then s.sendVout (s.rf F.PMB_STAT_REQ_MV 0) else s)

/-- PMBUS_TELEMETRY_POLL (R1054). -/
def execPmbusTelemetryPoll (iout temp : Nat) (good : Bool) (s : State) : Out :=
  .next (if !s.fwServes then s else if good then s.setRst { s.rst with iout := iout % 65536, temp1 := temp % 65536 } else s.pmbFail)

/-- PM_ALERT (R1054, R1071): STATUS_WORD is read and pmbus-error raised. -/
def execPmAlert (status : Nat) (good : Bool) (s : State) : Out :=
  .next (if !s.fwServes then s
    else if good then (s.setRst { s.rst with statusWord := status % 65536 }).pmbError
    else s.pmbFail)

/-- A write of PMB_CTL (R1058, R1077): EN written 1 after it was disabled enables requests again. -/
def State.writePmbCtl (s : State) (w : Nat) (acts : List HwAct) : State :=
  let was := s.rb F.PMB_CTL_EN 0
  let s := (s.plainWrite ⟨.PMB_CTL, 0, 0, 0⟩ w acts).noteWant
  if !was && s.rb F.PMB_CTL_EN 0 && s.fwServes then (s.setRst { s.rst with tries := 0 }).sendVout s.wantMv else s

/-! ## Start-up -/

/-- The settings of the NV store (R102, R368): DEVNUM_HIGH, the preferred slot, the endurance limit. -/
def State.nvSettings (s : State) : State :=
  match s.nvData 1 with
  | none => s
  | some b =>
    let s := (s.wf F.DEV_NUM_DEVNUM_HIGH (b.getD 0 0) 0).wf F.CFG_BOOT_STAT_PREF (b.getD 1 0) 0
    s.ww .CFG_ENDURANCE (leNat ((b.drop 2).take 3)) 0

/-- VOUT_MODE as read in phase 4, and the first request (R1054, R1071): a mode other than linear, or none read, fails as often
as it is tried. -/
def State.firstVolt (s : State) (vmode : Option Nat) : State :=
  if !s.rb F.PMB_CTL_EN 0 then s
  else match vmode with
    | some m =>
      if m / 32 % 8 = 0 then ((s.setRst { s.rst with vmode := m % 256, tries := 0 }).busWrite 0x01 0x80).sendVout s.wantMv
      else s.pmbFail.pmbFail.pmbFail.pmbFail
    | none => s.pmbFail.pmbFail.pmbFail.pmbFail

/-- Role links are opened from DEV_ROLE_CTL (R17, R49, R1043, Table 19-5). -/
def State.openRoleLinks (s : State) : State := ((s.roleBringUp 0).roleBringUp 1).roleBringUp 2

/-- FIRMWARE_START (R402, R407, R373, R1043, R1051): phase 4, with VOUT_MODE as read (none without an answer). After a Maltster
restart the journal is resolved and role links are reopened. -/
def execFirmwareStart (vmode : Option Nat) (s : State) : Out :=
  .next (if s.rst.por || s.rst.inReset || s.rst.shutdown || s.bootSm then s
    else if s.rst.phase = 9 then
      let s := ((s.setCfg { s.cfg with erases := [] }).rebuildCounts).journalResolve
      let s := s.openRoleLinks.openCh0
      s.setRst { s.rst with phase := if s.rb F.RST_STAT_LINE_READY 0 then 6 else if s.rf F.RST_STAT_STATE 0 = 1 then 5 else 4 }
    else if s.rst.phase ≠ 3 then s
    else
      let s := ((s.setCfg { s.cfg with erases := [] }).rebuildCounts).journalResolve.nvSettings
      let s := if s.rb F.REPAIR_STAT_DONE 0 then s else s.softRepair
      let s := s.setRst { s.rst with phase := 4 }
      let s := s.firstVolt vmode
      let s := if s.rst.reload && s.rf F.DEV_ROLE_BOOT 0 < 4 then s.bootTry s.bootSlots else s
      s.openRoleLinks.openCh0)

/-- START_UP_RELEASE (R378, R890, R1051, R1052): once the image has loaded its islands are released and its cores run; once
the conditions of Table 1-1 are met OUT_EN and LINE_READY are set together. -/
def execStartUpRelease (s : State) : Out :=
  .next (if s.gated || (s.rst.phase ≠ 4 && s.rst.phase ≠ 5) || !s.imageLoaded || s.cfg.load.isSome then s
    else
      let rel := s.cfg.release
      let s := rel.foldl (fun s e => s.releaseIsland e.1 e.2) s
      let s := if rel.isEmpty then s else (s.setCfg { s.cfg with release := [] }).coresRun
      let s := (s.wf F.RST_STAT_STATE 1 0).setRst { s.rst with phase := 5 }
      if s.lineOk then
        let s := (s.setOutEn true).wf F.RST_STAT_LINE_READY 1 0
        (s.wf F.RST_STAT_START_US (s.ago s.rst.since / 1000) 0).setRst { s.rst with phase := 6 }
      else s)

/-! ## The Maltster restart and its watchdog -/

/-- A flash operation that the firmware began ends in the flash, without its DONE record; NV work waiting is lost (R1067). -/
def State.jobsLost (s : State) : State :=
  let s := match s.cfg.active with
    | some (.program a page) => s.flashProgram a page
    | some (.erase a) => s.flashErase a
    | none => s
  let s := (s.setCfg { s.cfg with active := none, jobs := [] }).wf F.CFG_NV_STAT_SHUTDOWN_DEFER 0 0
  s.nvView.wf F.CFG_NV_STAT_GOLDEN_OPEN 0 0

/-- The Maltster stops and starts again from the boot ROM; only it, the Caben state of R837 and WDOG_CTL are covered (R1029,
R1041, R1042, R1076). A boot state machine that serves goes on (R1049). -/
def State.maltRestart (s : State) : State :=
  let s := s.jobsLost
  let c := s.cab
  let s : State := { s.setCab { Cab.init with txCtr := c.txCtr, rxCtr := c.rxCtr, ready := s.bootSm && c.ready } with
    mailbox := []
    outst := s.outst.map fun o => if o.txn.srcDie = 0 ∧ o.txn.master ≤ 1 then { o with discard := true } else o }
  let s := ((s.setReg ⟨.WDOG_CTL, 0, 0, 0⟩ (resetWord .WDOG_CTL 0)).wf F.RST_STAT_LAST_CAUSE 7 0).wf F.RST_CTL_FW_RESTART 0 0
  s.fmReset.setRst { s.rst with fwReq := false, hold := none, phase := if s.rst.phase < 4 then 2 else 8 }

/-- MALTSTER_RESTART (R1041, R1067, R816): a requested restart begins; a device reset absorbs it. -/
def execMaltsterRestart (s : State) : Out :=
  .next (if !s.rst.fwReq || s.rst.por || s.rst.inReset || s.rst.devReq.isSome || !s.holdOver then s else s.maltRestart)

/-- A write of WDOG_CTL (R1048, R1076): KICK restarts the watchdog; so does EN written 1 after 0, since a kick is owed only while EN
is 1 (DEDUCED, log 185). -/
def State.writeWdog (s : State) (w : Nat) : State :=
  let was := s.rb F.WDOG_CTL_EN 0
  let s := (s.wf F.WDOG_CTL_EN (bits w 46 46) 0).wf F.WDOG_CTL_TIMEOUT_MS (min 1000 (max 10 (bits w 15 0))) 0
  if bit w 47 || (bit w 46 && !was) then s.setRst { s.rst with kickAt := s.now } else s

/-- WATCHDOG_KICK (R1048, R1076). -/
def execWatchdogKick (w : TWord) (s : State) : Out := .next (rstOut 3 w s s.writeWdog)

/-- WATCHDOG_EXPIRY (R1048, R1071, R1072): TIMEOUT_MS after the last kick. The third expiry within 10 s makes the boot ROM skip
the update slot; three more on the golden slot mark the firmware broken. -/
def execWatchdogExpiry (s : State) : Out :=
  .next (if s.gated || s.bootSm || s.rst.phase = 2 || s.rst.phase = 8 || !s.rb F.WDOG_CTL_EN 0
      || s.ago s.rst.kickAt < s.rf F.WDOG_CTL_TIMEOUT_MS 0 * 1000000 then s
    else
      let xs := (s.rst.expiries.filter fun t => s.ago t ≤ 10000000000) ++ [s.now]
      let third := decide (3 ≤ xs.length)
      let s := if third && s.rst.skip then s.wf F.RST_STAT_FW_BROKEN 1 0 else s
      let s := s.setRst { s.rst with skip := s.rst.skip || third, expiries := if third then [] else xs }
      let s := s.maltRestart
      s.raise .maltsterWatchdog 0 0 (s.rw .RST_STAT 0))

/-! ## Thermal levels -/

/-- The level of a die at `t` °C that was at level `old`; a level is left 3 °C below its threshold (R1059, Table 19-7). -/
def thermLevel (old : Nat) (t : Int) : Nat :=
  let at_ := fun (n : Nat) (thr : Int) => decide (thr ≤ t) || (decide (n ≤ old) && decide (thr - 3 < t))
  if at_ 3 115 then 3 else if at_ 2 105 then 2 else if at_ 1 100 then 1 else 0

/-- THERMAL_SENSOR_READ (R544, R1059, R1060, R1062): the readings of a die's sensors in °C. -/
def execThermalSensorRead (d : Nat) (ts : List Int) (s : State) : Out :=
  .next (match ts with
    | [] => s
    | t0 :: rest =>
      if !s.senseDies.contains d then s
      else
        let t := rest.foldl max t0
        let old := s.rf F.THERM_DIE_LEVEL 0 d
        let new := thermLevel old t
        let s := (s.wf F.THERM_DIE_TEMP (t % 256).toNat 0 d).wf F.THERM_DIE_LEVEL new 0 d
        let s := if s.fabDies.contains d then s.refloorDie d else s
        let s := if d = 0 then s.dramJunction else s
        let s := if old < 1 && 1 ≤ new then s.raise .thermalWarning d 0 else s
        let s := if old < 2 && 2 ≤ new then s.raise .thermalThrottle d 0 else s
        let s := if old < 3 && 3 ≤ new then s.raise .thermalShutdown d 0 else s
        let cool := s.senseDies.all fun d => decide (s.dieTemp d < 95)
        s.setRst { s.rst with coolAt := if cool then some (s.rst.coolAt.getD s.now) else none })

/-- A write of THERM_CTL (Table 19-8): THR_CODE is clamped to the grade limit code; the floors in force follow it (R1060). -/
def State.writeThermCtl (s : State) (w : Nat) : State :=
  s.fabDies.foldl State.refloorDie (s.wf F.THERM_CTL_THR_CODE (min s.gradeLimit (bits w 7 0)) 0)

/-- ORDERLY_SHUTDOWN (R1061, R1066): a die has reached 115 °C; in a device reset, whose steps are complete, the shutdown then
holds the device. -/
def execOrderlyShutdown (s : State) : Out :=
  .next (if s.rst.por || s.rst.shutdown || !(s.senseDies.any fun d => s.rf F.THERM_DIE_LEVEL 0 d == 3) then s
    else
      let s := s.safeState.programDone
      let s := (s.dramPark 0).dramPark 1
      let s := (List.range s.laneCount).foldl (fun (s : State) n => s.pstate n 2) s
      let s : State := (0 :: s.fabDies).foldl (fun s d => (List.range 18).foldl (fun (s : State) p =>
        if (s.ixPeer d p).isSome && s.rf F.IXG_STAT_STATE d p ≠ 4 then
          (s.setIxp d p { s.ixp d p with trained := false, ready := false }).wf F.IXG_STAT_STATE 0 d p
        else s) s) s
      let s := (s.wf F.RST_STAT_STATE 3 0).wf F.RST_STAT_LINE_READY 0 0
      s.setRst { s.rst with shutdown := true, inReset := false })

/-- THERMAL_TRIP (R1063, R1070, R1105): power-on reset at once, with the trip latch set. -/
def execThermalTrip (s : State) : Out :=
  .next ((s.setRst { s.rst with trip := true }).powerOn.wf F.RST_STAT_LAST_CAUSE 0 0)

/-- AUTO_RESTART (R1062): a device reset with reload once every die has stayed below 95 °C for 1 s in a shutdown. -/
def execAutoRestart (s : State) : Out :=
  .next (match s.rst.coolAt with
    | none => s
    | some t => if s.rb F.RST_CTL_AUTO_RESTART 0 && s.rst.shutdown && 1000000000 ≤ s.ago t then s.askReset 6 else s)

/-! ## Balls of the I/O die (Table 20-13) -/

/-- The level of HANDOVER_OUT: pulled down in the power-on reset, then high while the device is active and healthy (R957, R1110). -/
def State.handoverOut (s : State) : Bool := !s.rst.por && s.dup.hoOut

/-- Whether HSPI_IRQ_N is driven low: a reply is queued; released in the power-on reset (R1110). -/
def State.hspiIrqLow (s : State) : Bool := !s.rst.por && !s.cab.replies.isEmpty

/-- The level of FSPI_RESET_N: low in the power-on reset and for 100 µs from its release, before the SFDP table is read (R1110). -/
def State.fspiResetN (s : State) : Bool :=
  !s.rst.por && (decide (2 < s.rst.phase) || s.cfg.found || s.rst.inReset || decide (100000 ≤ s.now) || s.rf F.TB_EPOCH_EPOCH 0 != 0)

/-- Whether FAULT_N is driven low: by R1004, released in the power-on reset (R1110). -/
def State.faultNLow (s : State) : Bool := !s.rst.por && s.faultN

end Sys2Proof.Machine
end

