-- ==== Sys2Proof/Machine/Roles.lean ====
section
/-!
DEFINITION. Coder roles: head-cable links, their loss and switch, mark schedules and OUT_EN (chapter 1).
-/
namespace Sys2Proof.Machine

/-- Whether the device is a head end. -/
def State.headEnd (s : State) : Bool := s.rf F.DEV_ROLE_ROLE 0 == 2

/-- Whether a head end follows a link that is open; one that retrains is not lost (R711). -/
def State.followsUp (s : State) : Bool := s.follow != 0 && s.slOpen (s.follow - 1)

/-- The hold ends: OUT_EN is cleared and line outputs go to their safe-state levels (R42). -/
def State.holdEnd (s : State) : State := { s.setOutEn false with headLost := none }

/-- HEAD_LINK_LOSS (R42, R43): the link that a head end follows is lost; its outputs go on for LINK_HOLD ms, none at 0. -/
def execHeadLinkLoss (s : State) : Out :=
  .next (if !s.headEnd || s.follow = 0 || s.followsUp || s.headLost.isSome then s
    else if s.rf F.DEV_ROLE_CTL_LINK_HOLD 0 = 0 then { s.setOutEn false with headLost := some s.now }
    else { s with headLost := some s.now })

/-- LINK_HOLD_EXPIRY (R42): a link that has come back, or a switch, has ended the hold. -/
def execLinkHoldExpiry (s : State) : Out :=
  .next (match s.headLost with
    | none => s
    | some t =>
      if s.followsUp then { s with headLost := none }
      else if s.rf F.DEV_ROLE_CTL_LINK_HOLD 0 * 1000000 ≤ s.ago t then s.holdEnd
      else s)

/-- Whether the peer of link `l` reports itself active; of a link that retrains its last report stands. -/
def State.peerActive (s : State) (l : Nat) : Bool := s.slOpen l && s.rb F.SL_PEER_ACTIVE 0 l

/-- HEAD_LINK_SWITCH (R25, R40, R41): a head end takes up the link whose peer reports itself active; `complete` ends the switch
begun. With both peers active it goes on with its link, link A if it has none, and raises dual-active. -/
def execHeadLinkSwitch (complete : Bool) (s : State) : Out :=
  let a := s.peerActive 0
  let b := s.peerActive 1
  .next (if !s.headEnd then s
    else if complete then
      if s.switchTo = 0 then s else { s with follow := s.switchTo, switchTo := 0, headLost := none }
    else if a && b then
      (if s.follow = 0 then { s with follow := 1, switchTo := 0 } else { s with switchTo := 0 }).raise .dualActive 0 0
    else if a && s.follow ≠ 1 then { s with switchTo := 1 }
    else if b && s.follow ≠ 2 then { s with switchTo := 2 }
    else s)

/-- MARK_SCHEDULE_WORD (R25, R40, R41): a DATA cell of a head-cable link reaches a head end. -/
def execMarkScheduleWord (l cell : Nat) (s : State) : Out :=
  .next (if s.headEnd && l ≤ 1 && cellKind cell == .data then s.dataArrive l cell else s)

/-- ROLE_LINK_RETRY (R45, R46): a closed role link tries to open again. -/
def execRoleLinkRetry (l : Nat) (s : State) : Out := .next (if l ≤ 2 then s.roleBringUp l else s)

/-- A role link follows its bit of DEV_ROLE_CTL: it is opened once the firmware runs, or closed (Table 1-7). -/
def State.roleLink (s : State) (l : Nat) (was : Bool) : State :=
  let now := s.roleWants l
  if now && !was && 4 ≤ s.rst.phase then s.roleBringUp l
  else if was && !now then ((s.linkDown l 0).releaseLanes l).wf F.SL_CTL_EN 0 0 l
  else s

/-- A write of DEV_ROLE_CTL (R37, R38, R39, R51, R1069): links open and close as it says, and OUT_EN is then set only while the
conditions of Table 1-1 are met and no reset or shutdown clears it. -/
def State.writeRoleCtl (s : State) (w : Nat) (hwClear : Bool) : State :=
  let wa := s.roleWants 0
  let wb := s.roleWants 1
  let hw := bits w 5 4
  let s := s.wf F.DEV_ROLE_CTL_LINK_HOLD (bits w 15 8) 0
  let s := if s.is20 && hw == 3 then s else s.wf F.DEV_ROLE_CTL_HEAD_WIDTH hw 0
  let s := (s.wf F.DEV_ROLE_CTL_HEAD_LINK_B_EN (bits w 3 3) 0).wf F.DEV_ROLE_CTL_HEAD_LINK_EN (bits w 2 2) 0
  let s := (s.roleLink 0 wa).roleLink 1 wb
  let on := bit w 1 && !hwClear && s.lineOk && !s.gated
  if on = s.rb F.DEV_ROLE_CTL_OUT_EN 0 then s else s.setOutEn on

/-- OUT_EN_WRITE (R38, R39, R51, R75). -/
def execOutEnWrite (w : TWord) (hwClear : Bool) (s : State) : Out :=
  .next (if w.tag.toNat < 2 then s.writeRoleCtl w.data.toNat hwClear
    else s.regRefuse 0 (w.tag.toNat - 2) true 0x0F000101)

end Sys2Proof.Machine
end

