-- ==== Sys2Proof/Machine/Registers.lean ====
section
/-!
DEFINITION. Register space: which register lies at an address, what a read of it returns, and what a write to it does
(R72 to R99, R1112, R1114, and the register sections of every chapter).
-/
namespace Sys2Proof.Machine

/-! ## The register at an address -/

/-- The indices of local address `loc` in a placement, if it lies there. -/
def Place.find (p : Place) (loc : Nat) : Option (Nat × Nat) :=
  if loc < p.base then none
  else
    let off := loc - p.base
    let k := if p.ni ≤ 1 then 0 else off / p.si
    let rest := off - k * p.si
    let j := if p.nj ≤ 1 then 0 else rest / p.sj
    if k < p.ni && j < max 1 p.nj && rest - j * p.sj == 0 && p.ilo ≤ k && (p.jm == 0 || j % 16 < p.jm) then some (k, j) else none

/-- The register of a name at a local address of a die, if one of its placements holds it. -/
def RegName.find (n : RegName) (fab : Bool) (loc : Nat) : Option (Nat × Nat) :=
  (regDesc n 0).places.findSome? fun p => if p.fab == fab then p.find loc else none

/-- The register names of a list that hold a local address. -/
def findReg (fab : Bool) (loc : Nat) (ns : List RegName) : Option (RegName × Nat × Nat) :=
  match ns with
  | [] => none
  | n :: t => match n.find fab loc with | some x => some (n, x.1, x.2) | none => findReg fab loc t

/-- Whether a register of the map exists in the part: the lanes of an AQZ-20 end at 7 (R603). -/
def State.regHere (s : State) (n : RegName) (i : Nat) : Bool :=
  match n with
  | .LANE_CTL => i < s.laneCount | .LANE_STAT => i < s.laneCount | .LANE_TX => i < s.laneCount | .LANE_RX => i < s.laneCount
  | .LANE_PRBS_CTL => i < s.laneCount | .LANE_PRBS_ERR_CNT => i < s.laneCount | .LANE_PRBS_BIT_CNT => i < s.laneCount
  | .LANE_LOS_CNT => i < s.laneCount | .LANE_RELOCK_CNT => i < s.laneCount
  | _ => true

/-- The register at local address `loc` of die `d`, if there is one. -/
def State.regAt (s : State) (d loc : Nat) : Option Reg :=
  if 5 ≤ d || !s.hasDie d then none
  else match findReg (d != 0) loc allRegs with
    | some (n, i, j) => if s.regHere n i then some ⟨n, d, i, j⟩ else none
    | none => none

/-- Whether a local address lies in the register windows of a die (Table 2-5, Table 2-6). -/
def inRegSpace (d loc : Nat) : Bool := 0x0F000000 ≤ loc && loc < (if d = 0 then 0x0F0B0000 else 0x0F040000)

/-! ## Reading -/

/-- A word with a field replaced, as a number. -/
def Fld.over (f : Fld) (v w : Nat) : Nat := (f.put (BitVec.ofNat 48 w) v).toNat

/-- IN_LEVEL of ISL_CH_STAT: 4 bits per inbound port (R170). -/
def State.inLevels (s : State) (d i : Nat) : Nat :=
  (List.range 8).foldl (fun n p => n + (match inKey d i p with | some k => (s.chan k).fifo.length | none => 0) * 2 ^ (4 * p)) 0

/-- OUT_FULL of ISL_CH_STAT (R170). -/
def State.outFull (s : State) (d i : Nat) : Nat :=
  bitsOf ((List.range 8).map fun p => portExists i p && (s.chan (chanKey d i p false)).occ == 4)

/-- How many sources of the fault manager satisfy a condition. -/
def countSources (p : Nat → Bool) : Nat := ((List.range 116).filter fun k => p (k + 1)).length

/-- FM_STAT (Table 18-7). -/
def State.fmStat (s : State) : Nat :=
  let at_ := fun (v n : Nat) => s.rb F.FM_SRC_STAT_IN_FAULT 0 n && s.rf F.FM_SRC_STAT_SEV 0 n == v
  b2n s.faultN * 2 ^ 47 + countSources (fun n => s.rb F.FM_SRC_STAT_IN_FAULT 0 n) * 2 ^ 39 + countSources (at_ 2) * 2 ^ 31
    + countSources (at_ 3) * 2 ^ 23 + s.shadows.length * 2 ^ 16 + s.fm.log.length

/-- Word `k` of the oldest fault record, 0 while the log is empty (R1016). -/
def State.logWord (s : State) (k : Nat) : Nat :=
  match s.fm.log with
  | [] => 0
  | r :: _ => match k with | 0 => r.w0 | 1 => r.w1 | 2 => r.w2 | _ => r.w3

/-- What a register shows where a field of it is the state of something else: levels, counts, states and counters that the
block shows as they stand, hard-wired and write-only fields. -/
def State.regShow (s : State) (r : Reg) : Nat :=
  let w := (s.reg r).toNat
  let d := r.die
  let i := r.i
  let j := r.j
  match r.name with
  | .DEV_NUM => F.DEV_NUM_DEVNUM.over s.devNum w
  | .DEV_ROLE_CTL => F.DEV_ROLE_CTL_ACTIVE.over (b2n s.active) w
  | .ISL_CH_STAT => s.outFull d i * 2 ^ 40 + s.inLevels d i
  | .DIO_LEVEL => bitsOf ((List.range 48).map fun k => s.dioBall d k)
  | .DIO_DRIVE => bitsOf ((List.range 48).map fun k => s.dioDriven d k)
  | .PROT_CTL => if i = (if d = 0 then 0 else 1) then w else 0
  | .CFG_BOOT_STAT => F.CFG_BOOT_STAT_SECURE.over (b2n s.cfg.fuses.secureEn) w
  | .IXG_STAT => if (s.ixPeer d i).isNone then 5 * 2 ^ 45 else w
  | .DRAM_STAT => F.DRAM_STAT_OUTSTANDING.over (s.dram i).acc.length (F.DRAM_STAT_STATE.over (s.dramState i) w)
  | .DRAM_KEY => 0
  | .SK_KEY => 0
  | .SL_CTL => if i < 3 then F.SL_CTL_WIDTH.over (s.linkWidth i) (F.SL_CTL_LANE_BASE.over (s.linkBase i) w) else w
  | .SC_TX_CTR_LO => (s.sc i).txCtr % 2 ^ 48
  | .SC_TX_CTR_HI => (s.sc i).txCtr / 2 ^ 48 % 2 ^ 16
  | .SC_RX_CTR_LO => (s.sc i).rxCtr % 2 ^ 48
  | .SC_RX_CTR_HI => (s.sc i).rxCtr / 2 ^ 48 % 2 ^ 16
  | .TB_STEP => 0
  | .TB_SLEW => 0
  | .GPIO_SET => 0
  | .GPIO_CLR => 0
  | .LEV_CTL => F.LEV_CTL_BUSY.over (b2n !(s.ring i).queue.isEmpty) w
  | .CABEN_CTL => if s.cfg.fuses.secureEn then F.CABEN_CTL_UDP_SECURE.over 1 w else w
  | .CABEN_STAT => F.CABEN_STAT_OUT_SAETTE.over (s.cabOut 2).length (F.CABEN_STAT_OUT_UDP.over (s.cabOut 1).length (F.CABEN_STAT_OUT_SPI.over (s.cabOut 0).length w))
  | .CABEN_UDP_TX_CTR_LO => s.cab.txCtr % 2 ^ 48
  | .CABEN_UDP_TX_CTR_HI => s.cab.txCtr / 2 ^ 48 % 2 ^ 16
  | .CABEN_UDP_RX_CTR_LO => s.cab.rxCtr % 2 ^ 48
  | .CABEN_UDP_RX_CTR_HI => s.cab.rxCtr / 2 ^ 48 % 2 ^ 16
  | .SEQ_SR => s.rsr d i j
  | .CTX_STAT => F.CTX_STAT_STATE.over (s.ctxState d i j) w
  | .FM_STAT => s.fmStat
  | .FM_LOG_WIN => s.logWord i
  | .FM_SRC_STAT => F.FM_SRC_STAT_WAITING.over (min 65535 (mget s.fm.waiting i []).length) w
  | .WDOG_CTL => F.WDOG_CTL_KICK.over 0 w
  | .THERM_DIE => F.THERM_DIE_ABSENT.over (b2n !s.hasDie i) w
  | _ => w

/-- The companion register that a read of a counter latches (R85). -/
def companion (n : RegName) : Option RegName :=
  match n with
  | .TB_TIME => some .TB_EPOCH
  | .SC_TX_CTR_LO => some .SC_TX_CTR_HI
  | .SC_RX_CTR_LO => some .SC_RX_CTR_HI
  | .CABEN_UDP_TX_CTR_LO => some .CABEN_UDP_TX_CTR_HI
  | .CABEN_UDP_RX_CTR_LO => some .CABEN_UDP_RX_CTR_HI
  | _ => none

/-- The key of a value latched for a master in a companion register (R85). -/
def latchKey (r : Reg) (die m : Nat) : Nat := Nat.pair r.key (Nat.pair die m)

/-- A read of a register by master `m` of die `die` (R74, R85, R645, R868): the word and the state after. -/
def State.regRead (s : State) (r : Reg) (die m : Nat) : TWord × State :=
  match r.name with
  | .MAC_TS_TIME => let x := s.tsRead r.i; (⟨x.1, tagData⟩, x.2)
  | .SEQ_MEM_DATA => let x := s.readMemData r.die r.i; (dataWord x.1, x.2)
  | _ =>
    let k := latchKey r die m
    match s.latch.find? fun e => e.1 == k with
    | some e => (⟨e.2, tagData⟩, { s with latch := mdel s.latch k })
    | none =>
      let w := dataWord (s.regShow r)
      match companion r.name with
      | none => (w, s)
      | some n =>
        let c : Reg := { r with name := n }
        (w, { s with latch := mins s.latch (latchKey c die m) (BitVec.ofNat 48 (s.regShow c)) })

/-! ## Writing -/

/-- A write with a lowest value for one field. -/
def State.writeMin (s : State) (r : Reg) (f : Fld) (lo w : Nat) (acts : List HwAct) : State :=
  s.plainWrite r (f.over (max lo (f.get (BitVec.ofNat 48 w))) w) acts

/-- Whether a Saette link or the racking link is open (R90). -/
def State.anyLinkOpen (s : State) : Bool :=
  (List.range 8).any fun l => let st := s.rf F.SL_STAT_STATE 0 l; st == 2 || st == 3

/-- The signed count of a same-cycle action on a class T counter: counts of 2^47 or more are downward (R91). -/
def actCount (acts : List HwAct) : Int :=
  match acts with
  | .count _ _ n :: _ => signed48 n
  | _ => 0

/-- A write of ENC_POS, a class T counter: a same-cycle count goes on from the written value, and a wrap is recorded
(R91, R93, R740). -/
def State.writePos (s : State) (n w : Nat) (acts : List HwAct) : State :=
  let p : Int := (w % 2 ^ 48 : Nat) + actCount acts
  let s := s.ww .ENC_POS (p % 2 ^ 48).toNat 0 n
  if 2 ^ 48 ≤ p then s.wf F.ENC_STAT_WRAP_UP 1 0 n else if p < 0 then s.wf F.ENC_STAT_WRAP_DN 1 0 n else s

/-- A word of a key slot under its write: 48 bits, with a shorter last word (R565, R693). -/
def keyWord (last bitsLast j w : Nat) : Nat := if j = last then w % 2 ^ bitsLast else w % 2 ^ 48

/-- A write of a register by its rules; a register with no behaviour of its own stores its writable fields under the access
codes (R76, R91). `w` is the data written, with what hardware does to RW fields in the same cycle already in it, and `acts` what
hardware does to the register in that cycle. -/
def State.regPut (s : State) (r : Reg) (w : Nat) (acts : List HwAct) : State :=
  let d := r.die
  let i := r.i
  let j := r.j
  match r.name with
  | .DEV_ROLE_CTL => s.writeRoleCtl w (clears acts 1)
  | .DEV_NUM => if s.anyLinkOpen then s else s.plainWrite r w acts
  | .ISL_CLK_CTL => s.writeClkCtl d i w
  | .FAB_ISL_RST => s.writeIslRst d w
  | .BM_WIN_CTL => s.writeMin r F.BM_WIN_CTL_WIN_STEAL 1 w acts
  | .PROT_CTL => if i = (if d = 0 then 0 else 1) then s.plainWrite r w acts else s
  | .CFG_LOAD_CTL => s.writeLoadCtl w
  | .IXG_CTL => s.writeIxgCtl d i w (clears acts 0)
  | .TRN_CTL => s.writeMin r F.TRN_CTL_TO_EXP 8 w acts
  | .DRAM_CTL => s.writeDramCtl i w (clears acts 7)
  | .DRAM_GEOM => s.writeDramGeom i w
  | .DRAM_TIM_0 => s.writeDramTim .DRAM_TIM_0 i w acts
  | .DRAM_TIM_1 => s.writeDramTim .DRAM_TIM_1 i w acts
  | .DRAM_TIM_2 => s.writeDramTim .DRAM_TIM_2 i w acts
  | .DRAM_REF_CTL => s.writeRefCtl i w
  | .DRAM_TEMP => s.writeDramTemp i w
  | .DRAM_RD_CTL => s.writeRdCtl i w
  | .DRAM_TRAIN_CTL => s.writeTrainCtl i w
  | .DRAM_KEY => s.ww .DRAM_KEY (keyWord 10 32 (j % 16) w) 0 i j
  | .DRAM_KEY_CTL => s.writeKeyCtl i j w
  | .LANE_CTL => s.writeLaneCtl i w
  | .LANE_TX => s.writeLaneTx i w
  | .LANE_PRBS_CTL => s.writePrbs i w acts
  | .MAC_CTL => s.writeMacCtl i w (clears acts 0)
  | .SL_CTL => s.writeSlCtl i w
  | .SK_KEY => s.ww .SK_KEY (keyWord 5 16 j w) 0 i j
  | .SK_CTL => s.writeSkCtl i w
  | .SC_CTL => s.writeScCtl i w
  | .SC_BUF => s.writeScBuf i w acts
  | .SC_NOTICE => s.writeScNotice i w
  | .TB_CTL => s.writeTbCtl w
  | .TB_STEP => s.writeTbStep w
  | .TB_SLEW => s.writeTbSlew w
  | .ENC_CTL => s.writeEncCtl i w acts
  | .ENC_POS => s.writePos i w acts
  | .LEV_CTL => s.writeLevCtl i w
  | .LEV_DEST => s.writeLevDest i w
  | .CT_CTL => s.writeCtCtl i w
  | .CT_START => s.writeCtSched .CT_START i w acts
  | .CT_PERIOD => s.writeCtSched .CT_PERIOD i w acts
  | .CT_PHASE => s.writeCtSched .CT_PHASE i w acts
  | .CT_RING_BASE => s.writeCtSched .CT_RING_BASE i w acts
  | .CT_RING_CTL => s.writeCtSched .CT_RING_CTL i w acts
  | .GPIO_OUT => s.setGpioOut i (storeFields (regDesc .GPIO_OUT i).fields acts (s.reg r) w).toNat
  | .GPIO_OE => s.setGpioOe i (w % 2 ^ 48)
  | .GPIO_SET => s.setGpioOut i (s.rw .GPIO_OUT 0 i ||| w % 2 ^ 48)
  | .GPIO_CLR => s.setGpioOut i (s.rw .GPIO_OUT 0 i - (s.rw .GPIO_OUT 0 i &&& w))
  | .GPIO_CFG => s.writeGpioCfg i w acts
  | .CABEN_CTL => s.writeCaben 0 w
  | .CABEN_UDP_TX_SALT => s.writeCaben 3 w
  | .CABEN_UDP_RX_SALT => s.writeCaben 4 w
  | .SEQ_CTL => s.writeSeqCtl d i w (clears acts 45)
  | .SEQ_PC => s.writeSeqReg .SEQ_PC d i 0 w
  | .SEQ_G => s.writeSeqReg .SEQ_G d i j w
  | .SEQ_SR => s.writeSeqReg .SEQ_SR d i j w
  | .SEQ_DOORBELL => if j < 4 then s else s.writeDoorbell d i j w
  | .SEQ_MEM_DATA => s.writeMemData d i w
  | .CTX_CTL => s.writeCtxCtl d i j w (clears acts 47)
  | .CTX_DESC_BASE => s.writeDescBase d i j w
  | .INST_CTL => s.writeInstCtl i w
  | .INST_ISL_LO => s.writeMembers .INST_ISL_LO i w
  | .INST_ISL_HI => s.writeMembers .INST_ISL_HI i w
  | .INST_CH_LO => s.writeMembers .INST_CH_LO i w
  | .INST_CH_HI => s.writeMembers .INST_CH_HI i w
  | .JD_ROUTE => s.writeRoute i w
  | .JD_TIME_CTL => s.writeJdTimeCtl w acts
  | .JD_CH_FWD => s.writeChFwd i w acts
  | .DUP_CTL => s.writeDupCtl w (clears acts 47)
  | .FM_LOG_CTL => s.writeLogCtl w
  | .FM_SRC_CTL => s.writeSrcCtl i w (clears acts 46)
  | .RST_CTL => s.writeRstCtl w acts
  | .WDOG_CTL => s.writeWdog w
  | .PMB_CTL => s.writePmbCtl w acts
  | .THERM_CTL => s.writeThermCtl w
  | _ => s.plainWrite r w acts

/-- A write of a register: RW fields that hardware sets, clears or updates in the same owner cycle take the hardware's value,
W1S fields that it clears stay 1 only where 1 is written (R91, R92, R94, Table 2-11). -/
def State.regWrite (s : State) (r : Reg) (w : Nat) (acts : List HwAct) : State :=
  (s.regPut r (effWord (regDesc r.name r.i).fields acts w) acts).w1sCleared r acts w

/-- The cause for which a write is refused: 0 tag 0b10, 1 tag 0b11, 2 narrower than a word (R75, R95, R96). Of a narrow write
that carries tag 0b10 or 0b11 as well, the narrowness is recorded: the spec names no order (DESIGN CHOICE, log 160). -/
def writeCause (w : TWord) (narrow : Bool) : Option Nat :=
  if narrow then some 2 else if w.tag.toNat < 2 then none else some (w.tag.toNat - 2)

/-- Whether a local address lies in a window of register space that writes enter: a claim window, or a transmit window of a
MAC or of a channel (R633, R682, R911). -/
def inTxWindow (d loc : Nat) : Bool :=
  (claimOf d loc).isSome || (d == 0 && (0x0F038000 ≤ loc && loc < 0x0F038100 || 0x0F048000 ≤ loc && loc < 0x0F049000))

/-- Whether a local address lies in a window of register space that reads enter: a receive window of a MAC or of a channel (R633,
R683). -/
def inRxWindow (d loc : Nat) : Bool :=
  d == 0 && (0x0F039000 ≤ loc && loc < 0x0F039100 || 0x0F049000 ≤ loc && loc < 0x0F04A000)

/-- One word written at a register address of a die: the refusal cause, if it is not performed, and the state (R75, R76,
R95 to R98). A word narrower than a word written to a window is refused as at a register (R96). -/
def State.regStore (s : State) (d loc : Nat) (w : TWord) (narrow : Bool) (acts : List HwAct) : Option Nat × State :=
  match s.regAt d loc with
  | none =>
    let c := if narrow && inTxWindow d loc then 2 else 3
    (some c, s.regRefuse d c true loc)
  | some r =>
    match writeCause w narrow with
    | some c => (some c, s.regRefuse d c true loc)
    | none => (none, s.regWrite r w.data.toNat acts)

/-- One word read at a register address of a die by a master: whether it was unmapped, the word, and the state (R74, R97). -/
def State.regLoad (s : State) (d loc die m : Nat) : Bool × TWord × State :=
  match s.regAt d loc with
  | none => (true, noWord, s.regRefuse d 3 false loc)
  | some r => (false, s.regRead r die m)

/-- Whether the owner of a register block has no clock: in a reset every block, and with clocks gated those of islands and
cores (R79, R1039, R1061). -/
def State.blockStopped (s : State) (d loc : Nat) : Bool :=
  s.rst.por || s.rst.inReset || (d != 0 && s.gated && 0x0F010000 ≤ loc && loc < 0x0F030000)

/-- REGISTER_WRITE (R75, R76, R91 to R98): a word written at a register address of a die, a whole word or a narrower one. -/
def execRegisterWrite (d loc : Nat) (w : TWord) (narrow : Bool) (acts : List HwAct) (s : State) : Out :=
  .next (if 5 ≤ d || !s.hasDie d || !inRegSpace d loc || inTxWindow d loc || s.blockStopped d loc then s else (s.regStore d loc w narrow acts).2)

end Sys2Proof.Machine
end

