-- ==== Sys2Proof/Machine/Net.lean ====
section
/-!
DEFINITION. The transport between masters and endpoints: ways, virtual channels, buffers and credits, and the slots of its links
(R476 to R479, R484 to R495, R504, R506, R507, R518).
-/
namespace Sys2Proof.Machine

/-! ## Ways -/

/-- The die whose element acts for the requester (R521): a guest die's transactions are handled at the I/O hub. -/
def homeDie (t : Txn) : Nat := if t.srcDie = 5 then 0 else t.srcDie

/-- The die a transaction goes to: for another device the I/O die, where the gateway is (R66). -/
def State.destDie (s : State) (t : Txn) : Nat := if addrDev t.addr = s.devNum then addrDie t.addr else 0

/-- The hops of a transaction from one die to another, each from its sending die (Table 9-3). -/
def State.hopsOf (s : State) (a b : Nat) : List (Nat × Nat) :=
  if a = b then []
  else if a = 0 || b = 0 || s.pairPorts a b != [] then [(a, b)]
  else [(a, 0), (0, b)]

/-- The die pairs on the way from one die to another (Table 9-3). -/
def State.pairsOf (s : State) (a b : Nat) : List (Nat × Nat) := (s.hopsOf a b).map fun h => pairOf h.1 h.2

/-- Whether a die pair has an active bundle (R518). -/
def State.pairActive (s : State) (x : Nat × Nat) : Bool := (s.pairPorts x.1 x.2).any fun p => s.rf F.IXG_STAT_STATE x.1 p == 2

/-- The port of die `x.1` that carries a master's transactions to die `x.2`: its bundle by number, or, where that one is
retired, the one that its fold went to (R457, R484, R486). -/
def State.bundleFor (s : State) (x : Nat × Nat) (m : Nat) : Nat :=
  let ps := s.pairPorts x.1 x.2
  let p := ps.getD (m % ps.length) 0
  if s.rf F.IXG_STAT_STATE x.1 p = 4 then (ps.find? fun q => s.rf F.IXG_STAT_STATE x.1 q != 4).getD p else p

/-- A place where ways begin and end: ring stop `k` of a fabric die (stop i + 1 is that of island i), and the memory switch of a
fabric die, the I/O hub (die 0) or the guest die (5) (Table 9-1). -/
inductive Seat where
  | stop (d k : Nat)
  | switch (d : Nat)
deriving DecidableEq, Repr

/-- Where a master stands (R480). -/
def masterPlace (d m : Nat) : Seat := if 1 ≤ d && d ≤ 4 && m < 16 then .stop d (m + 1) else .switch d

/-- Where an address lies: windows and registers of an island at its ring stop, an address of another device at the I/O hub. -/
def State.endPlace (s : State) (a : Nat) : Seat :=
  let d := addrDie a
  let l := addrLocal a
  if addrDev a ≠ s.devNum then .switch 0
  else if d = 0 || d = 5 then .switch d
  else if 0x01000000 ≤ l && l < 0x01080000 then .stop d ((l - 0x01000000) / 0x8000 + 1)
  else if 0x0F010000 ≤ l && l < 0x0F011000 then .stop d ((l - 0x0F010000) / 0x100 + 1)
  else .switch d

/-- The links from ring stop `a` to ring stop `b` of a die, in the direction with fewer hops, with the buffers behind them: low until
the transaction passes stop 0, high after (R477, R490). A transaction that begins at stop 0 has not passed it (DESIGN CHOICE,
log 178). -/
def ringWay (d a b inb : Nat) : List (Link × Nat) :=
  let up := (b + 17 - a) % 17
  if up ≤ 8 then (List.range up).map fun j => (.ring d ((a + j) % 17) 0, 2 * inb + b2n (0 < a && 17 ≤ a + j))
  else (List.range (17 - up)).map fun j => (.ring d ((a + 17 - j) % 17) 1, 2 * inb + b2n (0 < a && a ≤ j))

/-- The way from one place to another, for master `m`'s bundles; at a switch or the hub it ends in endpoint or master `e`
(Table 9-3). -/
def State.wayFrom (s : State) (p q : Seat) (m e : Nat) : List (Link × Nat) :=
  let ports := fun a b => (s.hopsOf a b).map fun h => (Link.port h.1 (s.bundleFor h m), 0)
  let last := fun b => if b = 5 then [] else [(Link.sink b e, 0)]
  match p, q with
  | .stop d k, .stop b j =>
    if d = b then ringWay d k j 0 ++ [(.eject d j, 0)]
    else ringWay d k 0 0 ++ [(.eject d 0, 0)] ++ ports d b ++ ringWay b 0 j 1 ++ [(.eject b j, 0)]
  | .stop d k, .switch b => ringWay d k 0 0 ++ [(.eject d 0, 0)] ++ ports d b ++ last b
  | .switch d, .stop b j => ports d b ++ ringWay b 0 j 1 ++ [(.eject b j, 0)]
  | .switch d, .switch b => ports d b ++ last b

/-- Whether the source's own element answers or drops a transaction (R483, Table 9-7). -/
def State.atSource (s : State) (t : Txn) : Bool :=
  decide (64 < t.addr % 64 + t.len) || !s.hasDie (s.destDie t) || (s.pairsOf t.srcDie (s.destDie t)).any fun x => s.lostPairs.contains x

/-- Where a guest die's traffic comes from: the I/O hub, which its bundles join. -/
def Seat.home (p : Seat) : Seat := if p = .switch 5 then .switch 0 else p

/-- The number of an address's endpoint on its die, and of the gateway at the I/O hub. -/
def State.sinkOf (s : State) (a : Nat) : Nat := if addrDev a = s.devNum then (endpointOf a).2 else 0x20000

/-- The input at which something waits for its first link, and its way. What the source's own element handles has no way, nor has
the response to it. -/
def State.wayOf (s : State) (l : Freight) : Nat × List (Link × Nat) :=
  match l with
  | .req t =>
    (key3 0 (homeDie t) t.master,
      if s.atSource t then [] else s.wayFrom (masterPlace (homeDie t) t.master) (s.endPlace t.addr) t.master (s.sinkOf t.addr))
  | .resp r =>
    match s.outst.find? fun o => o.txn.srcDie == r.srcDie && o.txn.master == r.master && o.txn.rtag == r.rtag with
    | none => (0, [])
    | some o =>
      (key3 1 (s.destDie o.txn) (s.sinkOf o.txn.addr),
        if s.atSource o.txn then [] else s.wayFrom (s.endPlace o.txn.addr).home (masterPlace r.srcDie r.master) r.master (0x10000 + r.master))

/-! ## What may move -/

/-- The number of a link. -/
def Link.num : Link → Nat
  | .ring d k dir => key4 0 d k dir | .eject d k => key4 1 d k 0 | .port d p => key4 2 d p 0 | .sink d e => key4 3 d e 0

/-- The virtual channel (R487). -/
def Freight.vc : Freight → Nat
  | .req t => vcNum t.vc | .resp _ => 0

/-- The hops of a packet, none before its element has taken it. -/
def Pkt.hops (p : Pkt) : List NetHop := p.way.getD []

/-- Flits that have crossed hop `j`; all of them lie before the first. -/
def Pkt.gotAt (p : Pkt) (j : Nat) : Nat :=
  match p.hops[j]? with | some h => h.got | none => 0

/-- Flits ready before hop `j`: those that have crossed the hop before, and behind an Ixgal port only a whole transaction (R440). -/
def Pkt.ready (p : Pkt) (j : Nat) : Nat :=
  match j with
  | 0 => p.load.flits
  | k + 1 =>
    match p.hops[k]? with
    | some ⟨.port _ _, _, g, _⟩ => if g = p.load.flits then g else 0
    | some h => h.got
    | none => 0

/-- The flits of packets of a virtual channel in the buffer behind a link (R490). -/
def Net.inBuffer (x : Net) (l : Link) (cls v : Nat) : Nat :=
  (x.pkts.map fun p => if p.load.vc ≠ v then 0 else
    ((List.range p.hops.length).map fun j =>
      match p.hops[j]? with
      | some h => if h.link = l ∧ h.cls = cls then h.got - p.gotAt (j + 1) else 0
      | none => 0).sum).sum

/-- The credits of a virtual channel that a port has spent and not had back: those of every flit of each transaction it has begun, but
for flits that have left the receive buffer (R489). -/
def Net.spent (x : Net) (l : Link) (v : Nat) : Nat :=
  (x.pkts.map fun p => if p.load.vc ≠ v then 0 else
    ((List.range p.hops.length).map fun j =>
      match p.hops[j]? with
      | some h => if h.link = l ∧ 0 < h.got then p.load.flits - (if j + 1 = p.hops.length then h.got else p.gotAt (j + 1)) else 0
      | none => 0).sum).sum

/-- The receive buffer behind a port: a guest die's as it has advertised it (R488). -/
def State.portRoom (s : State) (d p v : Nat) : Nat :=
  if (s.ixPeer d p).any (fun e => e.1 == 5) then (s.ixp d p).ceil.getD v 0 else ixBuffers.getD v 0

/-- Whether a port has 256 requests sent and not yet answered (R494, R510). -/
def State.portFull (s : State) (h : Nat × Nat) (m : Nat) : Bool :=
  let p := s.bundleFor h m
  decide (256 ≤ (s.outst.filter fun o =>
    (s.hopsOf o.txn.srcDie (s.destDie o.txn)).contains h && s.bundleFor h o.txn.master == p
      && (!s.inFlight.contains o.txn || s.net.pkts.any fun q => q.load == .req o.txn && q.hops.any fun x => x.link == .port h.1 p && decide (0 < x.got))).length)

/-- The flits of the response to a request (Table 8-9). -/
def answerFlits (t : Txn) : Nat := if t.op = .read then (t.len + 2) / 2 else 1

/-- The response space of an endpoint that is reserved: for every request it has accepted, the flits of the response that have not
left it (R493). -/
def State.reserved (s : State) (dev e : Nat) : Nat :=
  ((s.outst.filter fun o =>
      s.destDie o.txn == dev && s.sinkOf o.txn.addr == e
        && !(s.net.pkts.any fun q => q.load == .req o.txn && (match q.way with | none => true | some w => decide ((w.getLast?.map NetHop.got).getD 1 = 0)))).map
    fun o => answerFlits o.txn - ((s.net.pkts.find? fun q => match q.load with
      | .resp r => r.srcDie == o.txn.srcDie && r.master == o.txn.master && r.rtag == o.txn.rtag
      | .req _ => false).map fun q => q.gotAt 0).getD 0).sum

/-- Whether an endpoint accepts a request: it reserves response space for it. Every endpoint has room for a longest response; what
room it has beyond that is open (R493, log 179). -/
def State.reserves (s : State) (t : Txn) : Bool :=
  let n := s.reserved (s.destDie t) (s.sinkOf t.addr) + answerFlits t
  decide (n ≤ 33) || decide (n ≤ Config.respRoom (s.destDie t) (s.sinkOf t.addr))

/-- Whether a flit of packet `p` may cross its hop `j`: it is ready, first in its input (R491), no other transaction of its virtual
channel has begun to cross the link, and the next element has room for it: a buffer of 2 flits in a ring stop (R490), and in the
memory switch behind stop 0 (DESIGN CHOICE, log 180), credits for the whole transaction at a port that sends (R489, R494), and at
an endpoint response space for a request (R493). Nothing sets out across a die pair without an active bundle (R518). -/
def State.ableAt (s : State) (i : Nat) (p : Pkt) (j : Nat) (h : NetHop) : Bool :=
  let n := p.load.flits
  let v := p.load.vc
  let x := s.net
  decide (h.got < p.ready j)
    && !((x.pkts.zipIdx.any fun q => q.2 != i && q.1.load.vc == v && q.1.hops.any fun g => g.link == h.link && decide (0 < g.got) && decide (g.got < q.1.load.flits)))
    && (match j with
      | 0 => !((x.pkts.take i).any fun q => q.inp == p.inp && q.load.vc == v && q.way.isSome && decide (0 < q.hops.length) && decide (q.gotAt 0 < q.load.flits))
        && (0 < h.got || (match p.load with
          | .req t => (s.pairsOf (homeDie t) (s.destDie t)).all s.pairActive
          | .resp _ => true))
      | k + 1 => match p.hops[k]? with
        | none => false
        | some b => !((x.pkts.zipIdx.any fun q => q.2 != i && q.1.load.vc == v && ((List.range q.1.hops.length).any fun m =>
            match q.1.hops[m]? with
            | some g => g.link == b.link && g.cls == b.cls && decide (0 < g.got) && decide (g.since < b.since) && decide (q.1.gotAt (m + 1) < q.1.load.flits)
            | none => false))))
    && (match h.link with
      | .ring _ _ _ => decide (x.inBuffer h.link h.cls v < 2)
      | .port d q => 0 < h.got || (s.ixSends d q && decide (n + x.spent h.link v ≤ s.portRoom d q v)
          && (match p.load, s.ixPeer d q with
            | .req t, some (e, _) => !(isReq t && h.since = 0 && s.portFull (d, e) t.master)
            | _, _ => true))
      | .eject _ 0 => decide (x.inBuffer h.link h.cls v < 2)
      | _ => 0 < h.got || (match p.load with | .req t => !isReq t || s.reserves t | .resp _ => true))

/-! ## Slots -/

/-- The input from which packet `p` comes to its hop `j`. -/
def Pkt.input (p : Pkt) (j : Nat) : Nat :=
  match j with
  | 0 => key2 0 p.inp
  | k + 1 => match p.hops[k]? with | some b => key2 1 (key2 b.link.num b.cls) | none => 0

/-- What could cross a link in a slot: packet, hop, virtual channel, input. -/
def State.candidates (s : State) (l : Link) : List (Nat × Nat × Nat × Nat) :=
  s.net.pkts.zipIdx.flatMap fun q =>
    (q.1.hops.zipIdx.filter fun h => h.1.link == l && s.ableAt q.2 q.1 h.2 h.1).map fun h => (q.2, h.2, q.1.load.vc, q.1.input h.2)

/-- The entry of a list with the smallest input. -/
def lowestInput (cs : List (Nat × Nat × Nat × Nat)) : Option (Nat × Nat × Nat × Nat) :=
  cs.foldl (fun b c => match b with | none => some c | some x => if c.2.2.2 < x.2.2.2 then some c else b) none

/-- What a link carries in a slot: the first virtual channel in the order responses, posted writes, requests, streams that has a flit
able to move, before it one that has been passed over for 64 slots; within it the next input in rotation (R495). -/
def State.granted (s : State) (l : Link) : Option (Nat × Nat × Nat × Nat) :=
  let cs := s.candidates l
  let can := (List.range 4).filter fun v => cs.any fun c => c.2.2.1 == v
  let owed := can.filter fun v => decide (64 ≤ mget s.net.passed (key2 l.num v) 0)
  match (owed ++ can).head? with
  | none => none
  | some v =>
    let cs := cs.filter fun c => c.2.2.1 == v
    match lowestInput (cs.filter fun c => decide (mget s.net.rot (key2 l.num v) 0 ≤ c.2.2.2)) with
    | some c => some c
    | none => lowestInput cs

/-- The links that something under way has still to cross. -/
def Net.links (x : Net) : List Link :=
  (x.pkts.flatMap fun p => (p.hops.filter fun h => decide (h.got < p.load.flits)).map NetHop.link).dedup

/-- Packet `p` after a flit has crossed hop `j` in slot `now`. -/
def Pkt.cross (p : Pkt) (j now : Nat) : Pkt :=
  match p.hops[j]? with
  | none => p
  | some h =>
    let h' : NetHop := { h with got := h.got + 1, since := if h.got = 0 then now else h.since }
    { p with way := some (p.hops.set j h'), at_ := if j + 1 = p.hops.length ∧ h.got + 1 = p.load.flits then now else p.at_ }

/-- A link's slot, decided in the state `s` at its start: the flit granted crosses, the rotation moves on behind a whole transaction,
and each virtual channel passed over is counted (R495). -/
def State.linkSlot (s : State) (x : Net) (l : Link) : Net :=
  match s.granted l with
  | none => x
  | some c =>
    let p := x.pkts.getD c.1 ⟨.resp ⟨false, 0, 0, 0, 0, []⟩, 0, none, 0⟩
    let whole := p.gotAt c.2.1 + 1 == p.load.flits
    let missed := ((s.candidates l).map fun y => y.2.2.1).dedup.filter fun v => v != c.2.2.1
    { x with
      pkts := x.pkts.set c.1 (p.cross c.2.1 x.slots)
      rot := if whole then mset x.rot (key2 l.num c.2.2.1) (c.2.2.2 + 1) 0 else x.rot
      passed := missed.foldl (fun m v => mset m (key2 l.num v) (mget s.net.passed (key2 l.num v) 0 + 1) 0) x.passed }

/-- A packet taken by its element, which fixes its way (R497), and moved to the bundle that a retired one's fold went to (R486): what
had not wholly crossed is sent again (R457), however many requests that bundle has outstanding (R510). -/
def State.setOut (s : State) (p : Pkt) : Pkt :=
  match p.way with
  | none =>
    let w := s.wayOf p.load
    { p with inp := w.1, way := some (w.2.map fun x => ⟨x.1, x.2, 0, 0⟩), at_ := s.net.slots }
  | some w =>
    let m := match p.load with | .req t => t.master | .resp r => r.master
    { p with way := some (w.map fun h => match h.link with
      | .port d q =>
        if h.got < p.load.flits then
          (match s.ixPeer d q with
            | some (e, _) => let q' := s.bundleFor (d, e) m; if q' = q then h else { h with link := .port d q', got := 0 }
            | none => h)
        else h
      | _ => h) }

/-- One slot of every link of the transport: what has been withdrawn is gone, and each link carries at most one flit (R476, R495).
All links move in the same slot (DESIGN CHOICE, log 180). -/
def State.netSlot (s : State) : State :=
  if s.net.pkts = [] || s.rst.por || s.rst.inReset then s
  else
    let live := s.net.pkts.filter fun p => match p.load with | .req t => s.inFlight.contains t | .resp r => s.resps.contains r
    let s : State := { s with net := { s.net with pkts := live.map s.setOut, slots := s.net.slots + 1 } }
    { s with net := s.net.links.foldl s.linkSlot { s.net with passed := [] } }

/-- Slots pass until a transaction or response has arrived, or nothing under way can move; at most `fuel` of them. -/
def State.netUntil (s : State) (l : Freight) (fuel : Nat) : State :=
  match fuel with
  | 0 => s
  | k + 1 =>
    if s.net.underWay l then
      let t := s.netSlot
      if t.net.pkts = s.net.pkts then s else t.netUntil l k
    else s

/-- Whether a transaction has come to its endpoint before another, from another master, that is there too (R499). -/
def State.later (s : State) (t : Txn) : Bool :=
  match s.net.pkts.find? fun p => p.load == .req t with
  | none => false
  | some p => s.net.pkts.any fun q => match q.load with
    | .req u => (u.srcDie != t.srcDie || u.master != t.master) && s.destDie u == s.destDie t && s.sinkOf u.addr == s.sinkOf t.addr
        && q.arrived q.load.flits && decide (q.at_ < p.at_)
    | .resp _ => false

end Sys2Proof.Machine
end

