-- ==== Sys2Proof/Machine/Transport.lean ====
section
/-!
DEFINITION. Package transport: transactions at their endpoints, responses at their masters, credits and timeouts
(chapter 9).
-/
namespace Sys2Proof.Machine

/-! ## The way of a transaction -/

/-- Whether a transaction is formed as Table 8-8 and Table 8-9 say, and comes from a die of the part. -/
def State.txnOk (s : State) (t : Txn) : Bool :=
  1 ≤ t.len && t.len ≤ 64 && t.len == txnLen t.op t.len && t.words.length == dataWords t.op t.len && s.hasDie t.srcDie && t.rtag < 64
    && t.master < 512 && t.addr < 2 ^ 48
    && (match t.op with
      | .read => t.vc == .requests | .write => t.vc == .posted || t.vc == .streams | .narrowWrite => t.vc == .posted
      | .add => t.vc == .requests | .swap => t.vc == .requests)

/-- Whether a request that is offered at its endpoint, and not under way in the transport, waits for room at an Ixgal port on its way
(R494). -/
def State.offeredFull (s : State) (t : Txn) : Bool :=
  isReq t && !(s.net.pkts.any fun p => p.load == .req t) && (s.hopsOf t.srcDie (s.destDie t)).any fun h => s.portFull h t.master

/-- Whether a transaction waits at its endpoint: for an earlier one of its master to it, in the transport or in the store queue of its
core, or for one of another master that came before it (R496, R499, R507, R850). -/
def State.txnHeld (s : State) (t : Txn) : Bool :=
  (s.inFlight.takeWhile (fun u => u != t)).any (fun u => goesBefore u t)
    || (t.srcDie != 0 && 16 ≤ t.master && t.master < 20
      && (s.core t.srcDie (t.master - 16)).sq.any fun e => endpointOf e.1 == endpointOf t.addr)
    || s.later t

/-! ## Endpoints -/

/-- One word of a WRITE or NARROW_WRITE to register space after the state `r.2`; `r.1` is the first refusal cause (R1114). -/
def regWriteStep (d l : Nat) (t : Txn) (r : Option Nat × State) (k : Nat) : Option Nat × State :=
  let x := r.2.regStore d (l + k) (t.words.getD k noWord) (t.op == .narrowWrite) []
  (r.1 <|> x.1, x.2)

/-- A write to register space, word by word (R95 to R97, R1114): with any word not performed it is counted as dropped. -/
def State.regWriteTxn (s : State) (d : Nat) (t : Txn) : State :=
  let r := (List.range t.len).foldl (regWriteStep d (addrLocal t.addr) t) (none, s)
  match r.1 with
  | none => r.2.creditBack t t.len
  | some c => r.2.dropWrite d t (if c = 3 then .unmapped else .refused)

/-- One word of a READ of register space: whether any was unmapped, the words so far, the state (R1114). -/
def regReadStep (d l : Nat) (t : Txn) (r : Bool × List TWord × State) (k : Nat) : Bool × List TWord × State :=
  let x := r.2.2.regLoad d (l + k) t.srcDie t.master
  (r.1 || x.1, r.2.1 ++ [x.2.1], x.2.2)

/-- A READ of register space, word by word: good words keep their data, and STATUS is that of the first failing word
(R74, R97, R1114). -/
def State.regReadTxn (s : State) (d : Nat) (t : Txn) : State :=
  let r := (List.range t.len).foldl (regReadStep d (addrLocal t.addr) t) (false, [], s)
  if r.1 then
    let s := (r.2.2.trnRecord d t .unmapped).incE F.TRN_UNMAPPED_CNT_COUNT d
    (s.trnRaise d t .transportUnmapped).respond t 1 r.2.1
  else r.2.2.respond t 0 r.2.1

/-- A transaction taken out of the transport, then `f` (R481). -/
def State.take (s : State) (t : Txn) (f : State → State) : State :=
  match s.arrive t with
  | none => s
  | some s => f s

/-- A transaction at the register space of die `d`: claim and stream windows, or registers (R74, R257, R633, R682, R683,
R910, R911). It waits while the owner of the block has no clock (R79). An atomic is not performed there; at an unmapped address
it is recorded as an access that does not write (R97, R257, log 160). -/
def State.regTxn (s : State) (d : Nat) (t : Txn) : State :=
  let l := addrLocal t.addr
  if t.op = .add || t.op = .swap then
    s.take t fun s => (if (s.regAt d l).isSome || inTxWindow d l || inRxWindow d l then s else s.regRefuse d 3 false l).reject d t 1 .unmapped
  else if s.blockStopped d l then s
  else match claimOf d l with
    | some b =>
      if t.op = .read then s.claimArrive d b t
      else if t.op = .write then s.releaseAt d b t
      else s.take t fun s => s.regWriteTxn d t
    | none =>
      if d = 0 && t.op = .write && 0x0F038000 ≤ l && l < 0x0F038100 then s.macTxWindow t
      else if d = 0 && t.op = .read && 0x0F039000 ≤ l && l < 0x0F039100 then s.macRxWindow t
      else if d = 0 && t.op = .write && 0x0F048000 ≤ l && l < 0x0F049000 then s.scTxWindow t
      else if d = 0 && t.op = .read && 0x0F049000 ≤ l && l < 0x0F04A000 then s.scRxWindow t
      else if t.op = .read then s.take t fun s => s.regReadTxn d t
      else s.take t fun s => s.regWriteTxn d t

/-- A transaction at a DRAM channel (R257, R587): it waits at the I/O hub, or is answered unmapped where the channel is
retired, absent or too small. -/
def State.dramTxn (s : State) (t : Txn) : State :=
  let l := addrLocal t.addr
  let c := l / 0x100000000 - 1
  if t.op = .add || t.op = .swap || s.dramState c = 5 || s.dramState c = 6 || s.dramWords c < l % 0x100000000 + t.len then
    s.take t fun s => s.reject 0 t 1 .unmapped
  else s.take t fun s => s.setDram c { s.dram c with hub := (s.dram c).hub ++ [t] }

/-- A transaction at a block-memory window: it joins the accesses waiting there (R244, R257, R278). -/
def State.winTxn (s : State) (d : Nat) (t : Txn) : State :=
  let off := addrLocal t.addr - 0x01000000
  let i := off / 0x8000
  let w := off % 0x8000
  if t.op = .add || t.op = .swap || 0x6000 ≤ w then s.take t fun s => s.reject d t 1 .unmapped
  else s.take t fun s => s.setWin d i (w / 0x400) ((s.bm d i (w / 0x400)).win ++ [⟨t, 0, [], 0⟩])

/-- A transaction at its endpoint on die `d` of this device (R67 to R73). -/
def State.endpoint (s : State) (d : Nat) (t : Txn) : State :=
  let l := addrLocal t.addr
  if d = 5 then s.take t id
  else if l < (if d = 0 then 0x20000 else 0x80000) then s.take t fun s => s.bankPresent d (l / 0x8000) t
  else if d != 0 && 0x01000000 ≤ l && l < 0x01080000 then s.winTxn d t
  else if inRegSpace d l then s.regTxn d t
  else if d = 0 && 0x100000000 ≤ l && l < 0x300000000 then s.dramTxn t
  else s.take t fun s => s.reject d t 1 .unmapped

/-- A transaction performed: refused at its source, answered for a die that cannot be reached, handed to the gateway, or
brought to its endpoint, once the slots have passed that its way takes; it waits while it cannot move (R483, R493, R494, R496, R500,
R514, R518). -/
def State.txnMove (s : State) (t : Txn) : State :=
  let s := s.netUntil (.req t) 4096
  let h := homeDie t
  let d := s.destDie t
  let way := s.pairsOf t.srcDie d
  if s.rst.por || s.rst.inReset || !s.txnOk t then s
  else if 64 < t.addr % 64 + t.len then s.take t fun s => s.reject h t 2 .boundary
  else if !s.hasDie d then s.take t fun s => s.reject h t 1 .absentDie
  else if way.any fun x => s.lostPairs.contains x then s.take t fun s => s.abortTxn h t .pairLost
  else if s.net.underWay (.req t) || !(way.all s.pairActive) || s.txnHeld t || s.offeredFull t then s
  else if addrDev t.addr ≠ s.devNum then
    s.take t fun s => s.setGw { s.gw with waiting := s.gw.waiting ++ [t] }
  else s.endpoint d t

/-- READ (R493, R496, R500, R1114). -/
def execRead (t : Txn) (s : State) : Out := .next (if t.op = .read then s.txnMove t else s)

/-- WRITE (R493, R500, R501). -/
def execWrite (t : Txn) (s : State) : Out := .next (if t.op = .write then s.txnMove t else s)

/-- NARROW_WRITE (R306, R493, R501). -/
def execNarrowWrite (t : Txn) (s : State) : Out := .next (if t.op = .narrowWrite then s.txnMove t else s)

/-- ADD (R254, R257, R493). -/
def execAdd (t : Txn) (s : State) : Out := .next (if t.op = .add then s.txnMove t else s)

/-- SWAP (R254, R257, R493). -/
def execSwap (t : Txn) (s : State) : Out := .next (if t.op = .swap then s.txnMove t else s)

/-! ## Responses -/

/-- Whether an outstanding request is the one that a response answers (R498). -/
def Outst.matches (o : Outst) (die m tag : Nat) : Bool := o.txn.srcDie == die && o.txn.master == m && o.txn.rtag == tag

/-- The command word of a response as it leaves (Table 8-8). -/
def respWord (r : Resp) : TWord :=
  dataWord ((if r.atomic then 9 else 8) * 2 ^ 44 + r.srcDie % 8 * 2 ^ 41 + r.master % 512 * 2 ^ 32 + r.rtag % 64 * 2 ^ 26
    + r.words.length % 64 * 2 ^ 20 + r.status % 8 * 2 ^ 12)

/-- A response in an island's response store, to leave on the inbound port of the request's outbound port: its command word and
its words (R479). -/
def State.islandResponse (s : State) (d i p : Nat) (r : Resp) : State :=
  { s with stopOut := mset s.stopOut (key3 d i p) (mget s.stopOut (key3 d i p) [] ++ respWord r :: r.words) [] }

/-- A response delivered to its master (Table 9-2). What a guest die does with it is its own. -/
def State.deliver (s : State) (o : Outst) (r : Resp) : State :=
  let m := r.master
  if r.srcDie = 0 then
    match m with
    | 0 => { s with mailbox := s.mailbox ++ [r] }
    | 1 => s.cabResponse r.rtag r.status r.words
    | 2 => s.debugResponse r.rtag r.status r.words
    | 8 => s.gwResponse r.rtag r.status r.words
    | 9 => s.rackResponse r.rtag r.status r.words
    | _ => if 4 ≤ m && m < 8 then s.engineResponse 0 (m - 4) r.rtag r.status r.words else s
  else if 5 ≤ r.srcDie then s
  else if m < 16 then (s.islandResponse r.srcDie m o.txn.sub r).stopIssue r.srcDie m
  else if m < 20 then s.coreResponse r.srcDie (m - 16) r.rtag r.status r.words
  else if m < 28 then s.engineResponse r.srcDie (m - 20) r.rtag r.status r.words
  else s

/-- A late response of a quarantined tag: discarded, counted and recorded, and the tag is free (R513, R521). -/
def State.lateResponse (s : State) (o : Outst) : State :=
  let s : State := { s with rxProv := s.rxProv.filter fun p => p.1 ≠ (o.txn.srcDie, o.txn.master, o.txn.rtag) }
  if 5 ≤ o.txn.srcDie then s
  else (s.trnRecord o.txn.srcDie o.txn .late).incE F.TRN_LATE_CNT_COUNT o.txn.srcDie

/-- A response reaches its master, which matches it by its tag and frees the tag (R481, R498, R511, R513). -/
def State.response (s : State) (r : Resp) : State :=
  let s := s.netUntil (.resp r) 4096
  if s.rst.por || s.rst.inReset || !s.resps.contains r || s.net.underWay (.resp r) then s
  else
    let s : State := { s with resps := s.resps.erase r, net := s.net.leave (.resp r) }
    match s.outst.find? fun o => o.matches r.srcDie r.master r.rtag with
    | none => s
    | some o =>
      let s : State := { s with outst := s.outst.erase o }
      if o.quarantined then s.lateResponse o
      else if o.discard then s.stopIssue r.srcDie r.master
      else s.deliver o r

/-- READ_RESP (R498). -/
def execReadResp (r : Resp) (s : State) : Out := .next (if r.atomic then s else s.response r)

/-- ATOMIC_RESP (R498). -/
def execAtomicResp (r : Resp) (s : State) : Out := .next (if r.atomic then s.response r else s)

/-- STREAM_CREDIT_RETURN (R492): the oldest credits on their way back. -/
def execStreamCreditReturn (s : State) : Out := .next s.streamCredit

/-! ## Timeouts -/

/-- Whether a request waits where it does not time out: for a die pair without an active bundle (R518), or at the I/O hub for
a channel that is off, training or in self refresh (R587). -/
def State.untimed (s : State) (t : Txn) : Bool :=
  (s.inFlight.contains t && !((s.pairsOf t.srcDie (s.destDie t)).all s.pairActive))
    || [0, 1].any fun c => (s.dram c).hub.contains t && (s.dramState c == 0 || s.dramState c == 1 || s.dramState c == 3)

/-- REQUEST_TIMEOUT (R509, R513, R518, R521, R587): a request of master `m` of die `d` has had no response for
2^TO_EXP µs: it is answered aborted, and its tag is quarantined. -/
def execRequestTimeout (d m tag : Nat) (s : State) : Out :=
  .next (if 5 ≤ d || !s.rb F.TRN_CTL_TO_EN d || s.rst.por || s.rst.inReset then s
    else match s.outst.find? fun o => o.matches d m tag with
      | none => s
      | some o =>
        if o.quarantined || s.untimed o.txn then s
        else
          let s : State := { s with outst := s.outst.map fun x => if x = o then { x with quarantined := true } else x }
          let s := (s.trnRecord d o.txn .timeout).incE F.TRN_TIMEOUT_CNT_COUNT d
          let s := s.trnRaise d o.txn .transportTimeout
          if o.discard then s
          else s.deliver o ⟨o.txn.op == .add || o.txn.op == .swap, d, m, tag, 3, noWords o.txn.len⟩)

end Sys2Proof.Machine
end

