-- ==== Sys2Proof/Machine/Dispatch.lean ====
section
/-!
DEFINITION. The effect of a command: one arm per constructor of Instr, each a direct call of its meaning.
-/
namespace Sys2Proof.Machine

/-- The effect of a command on everything but the queue (R1 to R1118; each meaning cites its own). -/
def exec (i : Instr) (s : State) : Host.Outcome State Fault Refusal :=
  match i with
  | .powerOnReset cause rail => Sys2Proof.Machine.execPowerOnReset cause rail s
  | .powerOnResetRelease role boot devnum banks cool => Sys2Proof.Machine.execPowerOnResetRelease role boot devnum banks cool s
  | .bootRomStart sfdp => Sys2Proof.Machine.execBootRomStart sfdp s
  | .firmwareStart vmode => Sys2Proof.Machine.execFirmwareStart vmode s
  | .startUpRelease => Sys2Proof.Machine.execStartUpRelease s
  | .deviceReset => Sys2Proof.Machine.execDeviceReset s
  | .sysResetNLow => Sys2Proof.Machine.execSysResetNLow s
  | .devResetWrite w acts => Sys2Proof.Machine.execDevResetWrite w acts s
  | .deviceResetRelease => Sys2Proof.Machine.execDeviceResetRelease s
  | .fwRestart w acts => Sys2Proof.Machine.execFwRestart w acts s
  | .maltsterRestart => Sys2Proof.Machine.execMaltsterRestart s
  | .watchdogKick w => Sys2Proof.Machine.execWatchdogKick w s
  | .watchdogExpiry => Sys2Proof.Machine.execWatchdogExpiry s
  | .supplyOutOfRange rail => Sys2Proof.Machine.execSupplyOutOfRange rail s
  | .voutCommand ack pec => Sys2Proof.Machine.execVoutCommand ack pec s
  | .readVout raw good => Sys2Proof.Machine.execReadVout raw good s
  | .voltageSettleTimeout => Sys2Proof.Machine.execVoltageSettleTimeout s
  | .pmbusTelemetryPoll iout temp good => Sys2Proof.Machine.execPmbusTelemetryPoll iout temp good s
  | .pmAlert status good => Sys2Proof.Machine.execPmAlert status good s
  | .thermalSensorRead d ts => Sys2Proof.Machine.execThermalSensorRead d ts s
  | .orderlyShutdown => Sys2Proof.Machine.execOrderlyShutdown s
  | .thermalTrip => Sys2Proof.Machine.execThermalTrip s
  | .autoRestart => Sys2Proof.Machine.execAutoRestart s
  | .headLinkLoss => Sys2Proof.Machine.execHeadLinkLoss s
  | .linkHoldExpiry => Sys2Proof.Machine.execLinkHoldExpiry s
  | .headLinkSwitch complete => Sys2Proof.Machine.execHeadLinkSwitch complete s
  | .markScheduleWord l cell => Sys2Proof.Machine.execMarkScheduleWord l cell s
  | .roleLinkRetry l => Sys2Proof.Machine.execRoleLinkRetry l s
  | .outEnWrite w hwClear => Sys2Proof.Machine.execOutEnWrite w hwClear s
  | .registerWrite d loc w narrow acts => Sys2Proof.Machine.execRegisterWrite d loc w narrow acts s
  | .islClkCtlWrite d k w acts => Sys2Proof.Machine.execIslClkCtlWrite d k w acts s
  | .runningCodeStep d k => Sys2Proof.Machine.execRunningCodeStep d k s
  | .slackCritical d k => Sys2Proof.Machine.execSlackCritical d k s
  | .slackLow d k => Sys2Proof.Machine.execSlackLow d k s
  | .stretchDecay d k => Sys2Proof.Machine.execStretchDecay d k s
  | .breachReturnStart d k => Sys2Proof.Machine.execBreachReturnStart d k s
  | .vreqRise d k => Sys2Proof.Machine.execVreqRise d k s
  | .vreqFall d k => Sys2Proof.Machine.execVreqFall d k s
  | .memoryIslandCritical d => Sys2Proof.Machine.execMemoryIslandCritical d s
  | .islandOscillatorCheck d k khz => Sys2Proof.Machine.execIslandOscillatorCheck d k khz s
  | .channelWordSend d k p stop w => Sys2Proof.Machine.execChannelWordSend d k p stop w s
  | .channelWordArrive d k p stop => Sys2Proof.Machine.execChannelWordArrive d k p stop s
  | .channelWordTake d k p stop => Sys2Proof.Machine.execChannelWordTake d k p stop s
  | .channelAckArrive d k p stop => Sys2Proof.Machine.execChannelAckArrive d k p stop s
  | .channelStall d k p => Sys2Proof.Machine.execChannelStall d k p s
  | .eventRaise d k p n => Sys2Proof.Machine.execEventRaise d k p n s
  | .eventLap d k p => Sys2Proof.Machine.execEventLap d k p s
  | .fabIslRstWrite d w => Sys2Proof.Machine.execFabIslRstWrite d w s
  | .islandReset d k => Sys2Proof.Machine.execIslandReset d k s
  | .islandResetEnd d k again => Sys2Proof.Machine.execIslandResetEnd d k again s
  | .asyncResetAssert d k c => Sys2Proof.Machine.execAsyncResetAssert d k c s
  | .asyncResetRelease d k c => Sys2Proof.Machine.execAsyncResetRelease d k c s
  | .runSetAfterLoad d k => Sys2Proof.Machine.execRunSetAfterLoad d k s
  | .bmPortAccess d k m qa qb => Sys2Proof.Machine.execBmPortAccess d k m qa qb s
  | .windowAccess d k m qa bFirst mid => Sys2Proof.Machine.execWindowAccess d k m qa bFirst mid s
  | .windowSteal d k m qa mid => Sys2Proof.Machine.execWindowSteal d k m qa mid s
  | .windowReadRepeat d k m qa bFirst mid steal => Sys2Proof.Machine.execWindowReadRepeat d k m qa bFirst mid steal s
  | .bankAccess d b cycles => Sys2Proof.Machine.execBankAccess d b cycles s
  | .bankStarvation d b wb n => Sys2Proof.Machine.execBankStarvation d b wb n s
  | .writeBack d x => Sys2Proof.Machine.execWriteBack d x s
  | .patrolRead d b => Sys2Proof.Machine.execPatrolRead d b s
  | .flipMaskArm d w hwClear => Sys2Proof.Machine.execFlipMaskArm d w hwClear s
  | .read t => Sys2Proof.Machine.execRead t s
  | .write t => Sys2Proof.Machine.execWrite t s
  | .narrowWrite t => Sys2Proof.Machine.execNarrowWrite t s
  | .add t => Sys2Proof.Machine.execAdd t s
  | .swap t => Sys2Proof.Machine.execSwap t s
  | .readResp r => Sys2Proof.Machine.execReadResp r s
  | .atomicResp r => Sys2Proof.Machine.execAtomicResp r s
  | .streamCreditReturn => Sys2Proof.Machine.execStreamCreditReturn s
  | .requestTimeout d m tag => Sys2Proof.Machine.execRequestTimeout d m tag s
  | .configLoadStart w => Sys2Proof.Machine.execConfigLoadStart w s
  | .imageCheckPass => Sys2Proof.Machine.execImageCheckPass s
  | .frameRecord => Sys2Proof.Machine.execFrameRecord s
  | .spargeFrameScrub d => Sys2Proof.Machine.execSpargeFrameScrub d s
  | .frameRewrite => Sys2Proof.Machine.execFrameRewrite s
  | .flashPageProgram => Sys2Proof.Machine.execFlashPageProgram s
  | .flashProgramComplete => Sys2Proof.Machine.execFlashProgramComplete s
  | .flashSectorErase => Sys2Proof.Machine.execFlashSectorErase s
  | .flashEraseComplete => Sys2Proof.Machine.execFlashEraseComplete s
  | .controlFlit d p good ack nak ini cred size => Sys2Proof.Machine.execControlFlit d p good ack nak ini cred size s
  | .sequencedFlit d p sent got par => Sys2Proof.Machine.execSequencedFlit d p sent got par s
  | .nakResend d p => Sys2Proof.Machine.execNakResend d p s
  | .bundleTraining d p r => Sys2Proof.Machine.execBundleTraining d p r s
  | .trainingRetry d p => Sys2Proof.Machine.execTrainingRetry d p s
  | .sidebandCap d p w crc => Sys2Proof.Machine.execSidebandCap d p w crc s
  | .sidebandMap d p body crc => Sys2Proof.Machine.execSidebandMap d p body crc s
  | .sidebandReady d p crc => Sys2Proof.Machine.execSidebandReady d p crc s
  | .sidebandSwap d p wire spare crc => Sys2Proof.Machine.execSidebandSwap d p wire spare crc s
  | .sidebandRetrain d p crc => Sys2Proof.Machine.execSidebandRetrain d p crc s
  | .sidebandRetire d p seq delivered k crc => Sys2Proof.Machine.execSidebandRetire d p seq delivered k crc s
  | .ixgRetrainWrite d p w hwClear => Sys2Proof.Machine.execIxgRetrainWrite d p w hwClear s
  | .ixgRetireWrite d p w hwClear => Sys2Proof.Machine.execIxgRetireWrite d p w hwClear s
  | .dramEnWrite c w acts => Sys2Proof.Machine.execDramEnWrite c w acts s
  | .dramTrainingComplete c good => Sys2Proof.Machine.execDramTrainingComplete c good s
  | .dramRetrainWrite c w acts => Sys2Proof.Machine.execDramRetrainWrite c w acts s
  | .srReqWrite c w acts => Sys2Proof.Machine.execSrReqWrite c w acts s
  | .selfRefreshEntry c => Sys2Proof.Machine.execSelfRefreshEntry c s
  | .dramAccept c n => Sys2Proof.Machine.execDramAccept c n s
  | .dramReadComplete c n => Sys2Proof.Machine.execDramReadComplete c n s
  | .dramRefresh c rank => Sys2Proof.Machine.execDramRefresh c rank s
  | .victimRefresh c rank => Sys2Proof.Machine.execVictimRefresh c rank s
  | .disturbTableClear c rank => Sys2Proof.Machine.execDisturbTableClear c rank s
  | .dramPromotion c n => Sys2Proof.Machine.execDramPromotion c n s
  | .dramPatrolRead c => Sys2Proof.Machine.execDramPatrolRead c s
  | .backgroundFill c => Sys2Proof.Machine.execBackgroundFill c s
  | .zqShortCalibration c => Sys2Proof.Machine.execZqShortCalibration c s
  | .periodicCentring c good => Sys2Proof.Machine.execPeriodicCentring c good s
  | .dramTemperatureRead c range => Sys2Proof.Machine.execDramTemperatureRead c range s
  | .dramCaParityAlert c => Sys2Proof.Machine.execDramCaParityAlert c s
  | .dramKeyLoad c k w => Sys2Proof.Machine.execDramKeyLoad c k w s
  | .dramFillStart c again => Sys2Proof.Machine.execDramFillStart c again s
  | .lanePstateRequest n req => Sys2Proof.Machine.execLanePstateRequest n req s
  | .laneP0Reached n rx => Sys2Proof.Machine.execLaneP0Reached n rx s
  | .coefficientIncrement n k => Sys2Proof.Machine.execCoefficientIncrement n k s
  | .coefficientDecrement n k => Sys2Proof.Machine.execCoefficientDecrement n k s
  | .preset n => Sys2Proof.Machine.execPreset n s
  | .initialise n => Sys2Proof.Machine.execInitialise n s
  | .laneTrainingTimeout n => Sys2Proof.Machine.execLaneTrainingTimeout n s
  | .laneTrainingRestart n => Sys2Proof.Machine.execLaneTrainingRestart n s
  | .laneLos n => Sys2Proof.Machine.execLaneLos n s
  | .laneCdrUnlock n => Sys2Proof.Machine.execLaneCdrUnlock n s
  | .lanePllUnlock n relocked => Sys2Proof.Machine.execLanePllUnlock n relocked s
  | .laneRefclkLost r => Sys2Proof.Machine.execLaneRefclkLost r s
  | .laneAdaptLimit n k top => Sys2Proof.Machine.execLaneAdaptLimit n k top s
  | .injSingle n w => Sys2Proof.Machine.execInjSingle n w s
  | .injBurst n w => Sys2Proof.Machine.execInjBurst n w s
  | .revive n w locked => Sys2Proof.Machine.execRevive n w locked s
  | .macEnable m w hwClear => Sys2Proof.Machine.execMacEnable m w hwClear s
  | .macModeWrite m w hwClear => Sys2Proof.Machine.execMacModeWrite m w hwClear s
  | .macTxWindowWrite t => Sys2Proof.Machine.execMacTxWindowWrite t s
  | .macTxFrame m t => Sys2Proof.Machine.execMacTxFrame m t s
  | .macRxFrame m bs fcs t => Sys2Proof.Machine.execMacRxFrame m bs fcs t s
  | .macRxWindowRead t => Sys2Proof.Machine.execMacRxWindowRead t s
  | .pauseFrame m bs t => Sys2Proof.Machine.execPauseFrame m bs t s
  | .pauseExpiry m => Sys2Proof.Machine.execPauseExpiry m s
  | .macTsTimeRead m t => Sys2Proof.Machine.execMacTsTimeRead m t s
  | .saetteLinkEnable l w => Sys2Proof.Machine.execSaetteLinkEnable l w s
  | .linkBringupRetry l => Sys2Proof.Machine.execLinkBringupRetry l s
  | .hello l cell rx => Sys2Proof.Machine.execHello l cell rx s
  | .linkCtl l cell => Sys2Proof.Machine.execLinkCtl l cell s
  | .retrain l cell peerGood => Sys2Proof.Machine.execRetrain l cell peerGood s
  | .slRetrainWrite l w => Sys2Proof.Machine.execSlRetrainWrite l w s
  | .saetteLaneLost l k => Sys2Proof.Machine.execSaetteLaneLost l k s
  | .saetteLinkLost l => Sys2Proof.Machine.execSaetteLinkLost l s
  | .slotTransmit l => Sys2Proof.Machine.execSlotTransmit l s
  | .dataCell l cell => Sys2Proof.Machine.execDataCell l cell s
  | .gcmEnd l cell => Sys2Proof.Machine.execGcmEnd l cell s
  | .frameCheck c => Sys2Proof.Machine.execFrameCheck c s
  | .openCell l cell => Sys2Proof.Machine.execOpen l cell s
  | .openAck l cell => Sys2Proof.Machine.execOpenAck l cell s
  | .openRefuse l cell => Sys2Proof.Machine.execOpenRefuse l cell s
  | .closeCell l cell => Sys2Proof.Machine.execClose l cell s
  | .closeAck l cell => Sys2Proof.Machine.execCloseAck l cell s
  | .credit l cell => Sys2Proof.Machine.execCredit l cell s
  | .keySwitch l cell => Sys2Proof.Machine.execKeySwitch l cell s
  | .flush l cell => Sys2Proof.Machine.execFlush l cell s
  | .txOpen c w => Sys2Proof.Machine.execTxOpen c w s
  | .txClose c w => Sys2Proof.Machine.execTxClose c w s
  | .closeCutTimeout c => Sys2Proof.Machine.execCloseCutTimeout c s
  | .channelFlush c w => Sys2Proof.Machine.execChannelFlush c w s
  | .keySwitchWrite c w => Sys2Proof.Machine.execKeySwitchWrite c w s
  | .channelEnableWrite c w => Sys2Proof.Machine.execChannelEnableWrite c w s
  | .saetteKeyLoad k w => Sys2Proof.Machine.execSaetteKeyLoad k w s
  | .scTxWindowWrite t => Sys2Proof.Machine.execScTxWindowWrite t s
  | .scRxWindowRead t => Sys2Proof.Machine.execScRxWindowRead t s
  | .creditReturnTimer c => Sys2Proof.Machine.execCreditReturnTimer c s
  | .tbStep w => Sys2Proof.Machine.execTbStep w s
  | .tbSlew w => Sys2Proof.Machine.execTbSlew w s
  | .slewDivWrite w => Sys2Proof.Machine.execSlewDivWrite w s
  | .slewApply => Sys2Proof.Machine.execSlewApply s
  | .timeBaseWrap => Sys2Proof.Machine.execTimeBaseWrap s
  | .timeReplicaCheck f off => Sys2Proof.Machine.execTimeReplicaCheck f off s
  | .timeBaseHoldover => Sys2Proof.Machine.execTimeBaseHoldover s
  | .holdoverExit => Sys2Proof.Machine.execHoldoverExit s
  | .encoderEdge n ab z => Sys2Proof.Machine.execEncoderEdge n ab z s
  | .encoderIndex n ab z => Sys2Proof.Machine.execEncoderIndex n ab z s
  | .productDetectEdge n level t => Sys2Proof.Machine.execProductDetectEdge n level t s
  | .pdHoldoffExpiry n => Sys2Proof.Machine.execPdHoldoffExpiry n s
  | .gpioInputEdge p level t => Sys2Proof.Machine.execGpioInputEdge p level t s
  | .eventRecordIssue r => Sys2Proof.Machine.execEventRecordIssue r s
  | .eventRingEnable r w => Sys2Proof.Machine.execEventRingEnable r w s
  | .converterEnable n w => Sys2Proof.Machine.execConverterEnable n w s
  | .converterTick n => Sys2Proof.Machine.execConverterTick n s
  | .dacPhaseEnd n => Sys2Proof.Machine.execDacPhaseEnd n s
  | .conversionStart n => Sys2Proof.Machine.execConversionStart n s
  | .conversionComplete n code ovr => Sys2Proof.Machine.execConversionComplete n code ovr s
  | .converterWordIssue n => Sys2Proof.Machine.execConverterWordIssue n s
  | .gpioScheduledChange p => Sys2Proof.Machine.execGpioScheduledChange p s
  | .ppsChange p => Sys2Proof.Machine.execPpsChange p s
  | .gpioSetWrite q w => Sys2Proof.Machine.execGpioSetWrite q w s
  | .gpioClrWrite q w => Sys2Proof.Machine.execGpioClrWrite q w s
  | .send bs => Sys2Proof.Machine.execSend bs s
  | .fetch n => Sys2Proof.Machine.execFetch n s
  | .spiStatus n => Sys2Proof.Machine.execSpiStatus n s
  | .arpRequest srcMac srcIp ip => Sys2Proof.Machine.execArpRequest srcMac srcIp ip s
  | .udpDatagram d => Sys2Proof.Machine.execUdpDatagram d s
  | .cabenSaetteFrame => Sys2Proof.Machine.execCabenSaetteFrame s
  | .echo tr tag => Sys2Proof.Machine.execEcho tr tag s
  | .identify tr tag => Sys2Proof.Machine.execIdentify tr tag s
  | .repeatReply tr tag => Sys2Proof.Machine.execRepeatReply tr tag s
  | .abort tr tag => Sys2Proof.Machine.execAbort tr tag s
  | .cabenRead tr tag => Sys2Proof.Machine.execCabenRead tr tag s
  | .cabenWrite tr tag => Sys2Proof.Machine.execCabenWrite tr tag s
  | .cabenAtomicAdd tr tag => Sys2Proof.Machine.execCabenAtomicAdd tr tag s
  | .cabenAtomicSwap tr tag => Sys2Proof.Machine.execCabenAtomicSwap tr tag s
  | .streamRead tr tag => Sys2Proof.Machine.execStreamRead tr tag s
  | .streamWrite tr tag => Sys2Proof.Machine.execStreamWrite tr tag s
  | .load tr tag => Sys2Proof.Machine.execLoad tr tag s
  | .streamImage tr tag => Sys2Proof.Machine.execStreamImage tr tag s
  | .store tr tag => Sys2Proof.Machine.execStore tr tag s
  | .goldenUnlock tr tag => Sys2Proof.Machine.execGoldenUnlock tr tag s
  | .fwStart tr tag => Sys2Proof.Machine.execFwStart tr tag s
  | .nvRead tr tag => Sys2Proof.Machine.execNvRead tr tag s
  | .nvWrite tr tag => Sys2Proof.Machine.execNvWrite tr tag s
  | .repairAdd tr x => Sys2Proof.Machine.execRepairAdd tr x s
  | .fuseBlow tr tag good => Sys2Proof.Machine.execFuseBlow tr tag good s
  | .resetIsland tr tag => Sys2Proof.Machine.execResetIsland tr tag s
  | .resetMaltster tr tag => Sys2Proof.Machine.execResetMaltster tr tag s
  | .resetDevice tr tag => Sys2Proof.Machine.execResetDevice tr tag s
  | .faultRead tr tag => Sys2Proof.Machine.execFaultRead tr tag s
  | .cabenTimeout tr tag => Sys2Proof.Machine.execCabenTimeout tr tag s
  | .cabenCtlWrite k w => Sys2Proof.Machine.execCabenCtlWrite k w s
  | .seqNop d c => Sys2Proof.Machine.execSeqNop d c s
  | .seqAdd d c => Sys2Proof.Machine.execSeqAdd d c s
  | .seqSub d c => Sys2Proof.Machine.execSeqSub d c s
  | .seqAnd d c => Sys2Proof.Machine.execSeqAnd d c s
  | .seqOr d c => Sys2Proof.Machine.execSeqOr d c s
  | .seqXor d c => Sys2Proof.Machine.execSeqXor d c s
  | .seqShl d c => Sys2Proof.Machine.execSeqShl d c s
  | .seqShr d c => Sys2Proof.Machine.execSeqShr d c s
  | .seqSar d c => Sys2Proof.Machine.execSeqSar d c s
  | .seqMulu d c => Sys2Proof.Machine.execSeqMulu d c s
  | .seqMuls d c => Sys2Proof.Machine.execSeqMuls d c s
  | .seqCmp d c => Sys2Proof.Machine.execSeqCmp d c s
  | .seqAddi d c => Sys2Proof.Machine.execSeqAddi d c s
  | .seqCmpi d c => Sys2Proof.Machine.execSeqCmpi d c s
  | .seqAndi d c => Sys2Proof.Machine.execSeqAndi d c s
  | .seqOri d c => Sys2Proof.Machine.execSeqOri d c s
  | .seqXori d c => Sys2Proof.Machine.execSeqXori d c s
  | .seqShli d c => Sys2Proof.Machine.execSeqShli d c s
  | .seqShri d c => Sys2Proof.Machine.execSeqShri d c s
  | .seqSari d c => Sys2Proof.Machine.execSeqSari d c s
  | .seqLdi d c => Sys2Proof.Machine.execSeqLdi d c s
  | .seqLih d c => Sys2Proof.Machine.execSeqLih d c s
  | .seqLdl d c => Sys2Proof.Machine.execSeqLdl d c s
  | .seqStl d c => Sys2Proof.Machine.execSeqStl d c s
  | .seqLdg d c => Sys2Proof.Machine.execSeqLdg d c s
  | .seqStg d c => Sys2Proof.Machine.execSeqStg d c s
  | .storeQueueIssue d c => Sys2Proof.Machine.execStoreQueueIssue d c s
  | .seqAadd d c => Sys2Proof.Machine.execSeqAadd d c s
  | .seqAswp d c => Sys2Proof.Machine.execSeqAswp d c s
  | .seqStln d c => Sys2Proof.Machine.execSeqStln d c s
  | .seqSync d c => Sys2Proof.Machine.execSeqSync d c s
  | .seqMbr d c => Sys2Proof.Machine.execSeqMbr d c s
  | .seqMbw d c => Sys2Proof.Machine.execSeqMbw d c s
  | .seqRsr d c => Sys2Proof.Machine.execSeqRsr d c s
  | .seqWsr d c => Sys2Proof.Machine.execSeqWsr d c s
  | .seqB d c => Sys2Proof.Machine.execSeqB d c s
  | .seqCall d c => Sys2Proof.Machine.execSeqCall d c s
  | .seqJr d c => Sys2Proof.Machine.execSeqJr d c s
  | .seqRet d c => Sys2Proof.Machine.execSeqRet d c s
  | .seqReti d c => Sys2Proof.Machine.execSeqReti d c s
  | .seqWait d c => Sys2Proof.Machine.execSeqWait d c s
  | .seqHalt d c => Sys2Proof.Machine.execSeqHalt d c s
  | .seqBrk d c => Sys2Proof.Machine.execSeqBrk d c s
  | .interruptEntry d c => Sys2Proof.Machine.execInterruptEntry d c s
  | .seqTimer d c => Sys2Proof.Machine.execSeqTimer d c s
  | .seqTcmp d c => Sys2Proof.Machine.execSeqTcmp d c s
  | .seqDoorbellWrite d c v w => Sys2Proof.Machine.execSeqDoorbellWrite d c v w s
  | .seqHaltRequest d c w hwHalt => Sys2Proof.Machine.execSeqHaltRequest d c w hwHalt s
  | .seqResume d c w hwHalt => Sys2Proof.Machine.execSeqResume d c w hwHalt s
  | .seqStep d c w hwHalt => Sys2Proof.Machine.execSeqStep d c w hwHalt s
  | .seqCtlReset d c w hwHalt => Sys2Proof.Machine.execSeqCtlReset d c w hwHalt s
  | .seqMemDataRead d c => Sys2Proof.Machine.execSeqMemDataRead d c s
  | .seqMemDataWrite d c w => Sys2Proof.Machine.execSeqMemDataWrite d c w s
  | .tapReset => Sys2Proof.Machine.execTapReset s
  | .idcode => Sys2Proof.Machine.execIdcode s
  | .samplePreload sample preload => Sys2Proof.Machine.execSamplePreload sample preload s
  | .extest v => Sys2Proof.Machine.execExtest v s
  | .clamp => Sys2Proof.Machine.execClamp s
  | .highz => Sys2Proof.Machine.execHighz s
  | .bypass => Sys2Proof.Machine.execBypass s
  | .dbgAccess => Sys2Proof.Machine.execDbgAccess s
  | .dbgAccessRead addr => Sys2Proof.Machine.execDbgAccessRead addr s
  | .dbgAccessWrite addr w => Sys2Proof.Machine.execDbgAccessWrite addr w s
  | .dbgAccessCapture => Sys2Proof.Machine.execDbgAccessCapture s
  | .maltChallenge => Sys2Proof.Machine.execMaltChallenge s
  | .maltResponse sig => Sys2Proof.Machine.execMaltResponse sig s
  | .maltDbg => Sys2Proof.Machine.execMaltDbg s
  | .descriptorFetch d e x => Sys2Proof.Machine.execDescriptorFetch d e x s
  | .engineTurn d e => Sys2Proof.Machine.execEngineTurn d e s
  | .claim d b => Sys2Proof.Machine.execClaim d b s
  | .release d t => Sys2Proof.Machine.execRelease d t s
  | .windowReread d e x => Sys2Proof.Machine.execWindowReread d e x s
  | .instanceReset k w => Sys2Proof.Machine.execInstanceReset k w s
  | .instanceResetComplete k => Sys2Proof.Machine.execInstanceResetComplete k s
  | .instMembershipWrite k k2 w => Sys2Proof.Machine.execInstMembershipWrite k k2 w s
  | .gatewayAccept => Sys2Proof.Machine.execGatewayAccept s
  | .gwReq l cell => Sys2Proof.Machine.execGwReq l cell s
  | .gwResp l cell => Sys2Proof.Machine.execGwResp l cell s
  | .gwCredit l cell => Sys2Proof.Machine.execGwCredit l cell s
  | .timeSyncExchange => Sys2Proof.Machine.execTimeSyncExchange s
  | .timeReq l cell => Sys2Proof.Machine.execTimeReq l cell s
  | .timeResp l cell => Sys2Proof.Machine.execTimeResp l cell s
  | .joinTimeout => Sys2Proof.Machine.execJoinTimeout s
  | .rackingCut => Sys2Proof.Machine.execRackingCut s
  | .rackingCopyStart => Sys2Proof.Machine.execRackingCopyStart s
  | .rackData l cell => Sys2Proof.Machine.execRackData l cell s
  | .rackCommit l cell => Sys2Proof.Machine.execRackCommit l cell s
  | .rackingCommitComplete => Sys2Proof.Machine.execRackingCommitComplete s
  | .rackAck l cell => Sys2Proof.Machine.execRackAck l cell s
  | .heartbeatSend => Sys2Proof.Machine.execHeartbeatSend s
  | .heartbeat l cell => Sys2Proof.Machine.execHeartbeat l cell s
  | .heartbeatMiss => Sys2Proof.Machine.execHeartbeatMiss s
  | .handoverInLow => Sys2Proof.Machine.execHandoverInLow s
  | .handoverInRise => Sys2Proof.Machine.execHandoverInRise s
  | .yieldWrite w hwClear => Sys2Proof.Machine.execYieldWrite w hwClear s
  | .faultEvent k => Sys2Proof.Machine.execFaultEvent k s
  | .faultClassify => Sys2Proof.Machine.execFaultClassify s
  | .faultWindowClose n => Sys2Proof.Machine.execFaultWindowClose n s
  | .quietPeriodExpiry n => Sys2Proof.Machine.execQuietPeriodExpiry n s
  | .shadowEnd d k => Sys2Proof.Machine.execShadowEnd d k s
  | .force n w busy => Sys2Proof.Machine.execForce n w busy s
  | .clear n w busy => Sys2Proof.Machine.execClear n w busy s
  | .pop w => Sys2Proof.Machine.execPop w s
  | .timeClockTick => Sys2Proof.Machine.execTimeClockTick s
  | .seqIllegalInstruction d c => Sys2Proof.Machine.execSeqIllegalInstruction d c s
  | .seqFetchInvalid d c => Sys2Proof.Machine.execSeqFetchInvalid d c s
  | .prbsCheckerLock n seed bs => Sys2Proof.Machine.execPrbsCheckerLock n seed bs s
  | .prbsLockLost n before bs => Sys2Proof.Machine.execPrbsLockLost n before bs s
  | .receiverReady n peer rx => Sys2Proof.Machine.execReceiverReady n peer rx s
  | .macBlockLock m lock an speed => Sys2Proof.Machine.execMacBlockLock m lock an speed s
  | .laneSignalPresent n => Sys2Proof.Machine.execLaneSignalPresent n s
  | .supplyWithinRange rail => Sys2Proof.Machine.execSupplyWithinRange rail s
  | .channel0OpenRetry => Sys2Proof.Machine.execChannel0OpenRetry s

end Sys2Proof.Machine
end

