-- ==== Sys2Proof/Machine/Fabric.lean ====
section
/-!
DEFINITION. Island logic: the crossbar, look-up tables, carry chains, product terms, flip-flops, arithmetic slices and DIO
registers at an edge of an island's logic clock, and the tick, one cycle of every oscillator of the fabric (R29, R30, R113,
R127, R135, R137, R175 to R189, R200 to R220, R224, R732).
-/
namespace Sys2Proof.Machine

/-! ## Combinational values -/

/-- A value between the registers of an island: a crossbar source, the carry into a cell, the XOR output of a macrocell. -/
inductive Node where
  | src (x : Src)
  | carry (k : Nat)
  | xor (c m : Nat)
deriving DecidableEq, Repr

/-- The cell that a cell's carry comes from: the one below it in its cluster, or the last of the cluster at the position below in
its column (cluster c lies in column c mod 16 at position c div 16). None where a chain enters at the cell, at the foot of the
column, and above a cluster in product-term mode or a cell that is not in carry mode (R181, R186). -/
def chainBelow (f : Fabric) (k : Nat) : Option Nat :=
  let j := if k % 16 ≠ 0 then k - 1 else k - 241
  if f.chainStart k || (k % 16 == 0 && k < 256) || f.product (j / 16) || !f.carry j then none else some j

/-- The value of a node, from the outputs of the island's registers and endpoints (`leaf`). A sink without a connection reads 0.
`fuel` bounds the path; no design has a combinational loop (R193), so a bound above the number of nodes is never reached. -/
def nodeVal (f : Fabric) (leaf : Src → Bool) (fuel : Nat) (n : Node) : Bool :=
  match fuel with
  | 0 => false
  | g + 1 =>
    let sink := fun x => match f.conn x with | some y => nodeVal f leaf g (.src y) | none => false
    let ins := fun k => bitsOf ((List.range 4).map fun j => sink (.lutIn k j))
    match n with
    | .src (.lut k) =>
      if f.product (k / 16) then false
      else if f.carry k then carrySum (bit (f.table k) (ins k)) (nodeVal f leaf g (.carry k))
      else bit (f.table k) (ins k)
    | .src (.macrocell c m) => if f.bypass c m then nodeVal f leaf g (.xor c m) else leaf (.ff (16 * c + m))
    | .src x => leaf x
    | .carry k =>
      match chainBelow f k with
      | none => sink (.carryIn k)
      | some j => carryOut (bit (f.table j) (ins j)) (bit (f.generate j) (ins j)) (nodeVal f leaf g (.carry j))
    | .xor c m =>
      if !f.product c then false
      else
        let inputs := bitsOf ((List.range 36).map fun j => sink (.array c j))
        let taken := ((List.range 64).filter fun t => bit (f.terms c m) t).map (f.term c)
        macrocell inputs taken (match f.xorTerm c m with | some t => macrocell inputs [f.term c (t % 64)] false | none => f.xorConst c m)

/-- More nodes than a path of an island has: 4,096 cells, each with a carry, and a source. -/
def combFuel : Nat := 8193

/-! ## The registers and endpoints that logic reads -/

/-- A slice of an island. -/
def Isl.slice (x : Isl) (k : Nat) : Slice := mget x.slices k ⟨0, 0, 0, 0, 0, 0, 0, 0, false⟩

/-- The outputs of an island's registers and endpoints (Table 4-2, R127, R129, R135, R210, R243, R732). -/
def State.leaf (s : State) (d i : Nat) (x : Src) : Bool :=
  match x with
  | .const v => v
  | .lut _ => false
  | .macrocell _ _ => false
  | .ff k => bit (s.island d i).ff k
  | .sliceP k b => bit ((s.island d i).slice k).p b
  | .sliceOvf k => ((s.island d i).slice k).ovf
  | .bmRead m p b =>
    let o := if p = 0 then (s.bm d i m).a else (s.bm d i m).b
    !(p = 1 && s.windowMode d i m) && bit (o.data.toNat + o.tag.toNat * 2 ^ 48) b
  | .bmBusy m p => !(p = 1 && s.windowMode d i m) && (if p = 0 then (s.bm d i m).a else (s.bm d i m).b).busy
  | .chIn p b =>
    let w := match inKey d i p with | some k => (s.chan k).inData | none => noWord
    p < 7 && bit (w.data.toNat + w.tag.toNat * 2 ^ 48) b
  | .chInValid p => p < 7 && (match inKey d i p with | some k => (s.chan k).inValid | none => false)
  | .chOutReady p => p < 7 && portExists i p && (s.chan (chanKey d i p false)).outReady
  | .evtCount p b => match evtSource i p with | some (n, q) => bit (s.evt d n q).shown b | none => false
  | .dioIn k => match dioBase i with | some b => k < 4 && (s.dioCell d (b + k)).res | none => false
  | .timeIn b => bit s.now b

/-- What a sink of an island's crossbar is driven to (R187, R188). -/
def State.sinkVal (s : State) (d i : Nat) (x : Sink) : Bool :=
  let f := s.fabric d i
  match f.conn x with
  | some y => nodeVal f (s.leaf d i) combFuel (.src y)
  | none => false

/-- The D input of a flip-flop: its cell's look-up table or sum, or its macrocell's XOR output (R176, R182, R184). -/
def State.ffD (s : State) (d i k : Nat) : Bool :=
  let f := s.fabric d i
  nodeVal f (s.leaf d i) combFuel (if f.product (k / 16) then .xor (k / 16) (k % 16) else .src (.lut k))

/-! ## An edge of the logic clock -/

/-- The flip-flops of an island after an edge of its logic clock (Table 4-1). -/
def State.ffsNext (s : State) (d i : Nat) : Nat :=
  let x := s.island d i
  let ini := s.ffInit d i
  bitsOf ((List.range 4096).map fun k =>
    ffNext false (bit x.ar (k / 16)) (s.sinkVal d i (.sr k)) (s.sinkVal d i (.ce k)) (bit ini k) (s.ffD d i k) (bit x.ff k))

/-- The `n` bits that sinks are driven to. -/
def State.sinkBits (s : State) (d i n : Nat) (x : Nat → Sink) : Nat := bitsOf ((List.range n).map fun b => s.sinkVal d i (x b))

/-- What slice `k` of an island is given at an edge: PCIN is the P register of the slice below, zero for slice 0 (R200, R205). -/
def State.sliceIn (s : State) (d i k : Nat) : SliceIn where
  a := s.sinkBits d i 24 (.sliceA k)
  b := s.sinkBits d i 24 (.sliceB k)
  d := s.sinkBits d i 24 (.sliceD k)
  c := s.sinkBits d i 48 (.sliceC k)
  op := s.sinkBits d i 3 (.sliceOp k)
  ce := s.sinkVal d i (.sliceCe k)
  sr := s.sinkVal d i (.sliceSr k)
  pcin := if k = 0 then 0 else ((s.island d i).slice (k - 1)).p

/-- The 16 slices of an island after an edge of its logic clock (R200 to R206). -/
def State.slicesNext (s : State) (d i : Nat) : SMap Slice :=
  let f := s.fabric d i
  (List.range 16).foldl (fun m k =>
    mset m k (sliceEdge (f.signed k) (f.sat k) ((s.island d i).slice k) (s.sliceIn d i k)) ⟨0, 0, 0, 0, 0, 0, 0, 0, false⟩) []

/-- The DIO cell `k` (0 to 47) of a die after an edge of the logic clock of its island (R210, R213). -/
def State.dioNext (s : State) (d k : Nat) : Dio :=
  let i := dioIsland k
  dioEdge (s.dioCell d k) (s.dioBall d k) (s.sinkVal d i (.dioOut (k % 4))) (s.sinkVal d i (.dioOe (k % 4)))

/-- An edge of an island's logic clock: flip-flops, slices and DIO registers capture together what was driven before the edge
(R178, R180, R203, R210); front ends of its event crossings restart (R137). Its channel sends, takes and events, its accesses to
block memories and its AR lines are commands of their own (log 11). -/
def State.logicEdge (s : State) (d i : Nat) : State :=
  let ff := s.ffsNext d i
  let sl := s.slicesNext d i
  let dios := (List.range 48).map fun k => s.dioNext d k
  let s := s.setIsland d i { s.island d i with ff := ff, slices := sl }
  let s := (List.range 48).foldl (fun (s : State) k => if dioIsland k = i then s.setDio d k (dios.getD k Dio.init) else s) s
  (s.noteDio d i).evtRestart d i

/-- The event crossings that enter an island sample at an edge of its oscillator, whether or not its logic clock runs (R135). -/
def State.evtSample (s : State) (d i : Nat) : State :=
  (List.range 10).foldl (fun (s : State) p =>
    match evtSource i p with
    | some (n, q) => s.setEvt d n q (s.evt d n q).sample
    | none => s) s

/-- A cycle of an island's oscillator in which slack is AMPLE, and an edge of its logic clock where that runs (R110, R113, R135). -/
def State.islandCycle (s : State) (d i : Nat) : State :=
  let s := (s.slackAmple d i).evtSample d i
  if s.running d i then s.logicEdge d i else s

/-! ## The tick -/

/-- What lies at the balls of a die that the device does not drive: free levels (R230). A cycle of its memory island, in which slack
is AMPLE (R174). -/
def State.dieCycle (s : State) (d : Nat) : State :=
  let r := s.free
  let s := (List.range 48).foldl (fun (s : State) k => s.setDio d k { s.dioCell d k with ball := bit r.1 k }) r.2
  s.wf F.MISL_STAT_SLACK 0 d

/-- One tick: a cycle of the memory island and of every island of each fabric die, with no command in it, a control flit of each
active bundle with nothing else to send (R424), a cycle of each open DRAM channel, and a slot of every link of the transport. In the power-on reset no oscillator runs
(R110). The ratio of the islands' frequencies is not shown (DESIGN CHOICE, log 8). -/
def State.fabricTick (s : State) : State :=
  let s := if s.oscRuns then
      s.fabDies.foldl (fun (s : State) d => (List.range 16).foldl (fun (s : State) i => s.islandCycle d i) (s.dieCycle d)) s
    else s
  if s.rst.por || s.rst.inReset then s else (([0, 1].foldl State.dramCycle s).idleFlits).netSlot

end Sys2Proof.Machine
end

