-- ==== Sys2Proof/Safety.lean ====
section
/-!
DEFINITION. What counts as a well-kept state and a safe run, in the terms that statements use.
-/
namespace Sys2Proof.Machine

/-- The canonical form of the package's memory: keys strictly rising, and no entry that reads as an unlisted word does (R101). -/
def Memory.wf (m : SMap Cell) : Bool := mwf (fun k => initCell (k % 2 ^ 36)) m

/-- The canonical form of the register file: keys strictly rising. -/
def Regs.wf (m : SMap Word) : Bool := mrising none m

/-- Every register outside `rs` holds in `t` what it holds in `s`. -/
def RegsKept (s t : State) (rs : List Reg) : Prop := ∀ q : Reg, q ∉ rs → t.reg q = s.reg q

/-- Nothing differs between two states but the registers `rs`. -/
def OnlyRegs (s t : State) (rs : List Reg) : Prop := t = { s with regs := t.regs } ∧ RegsKept s t rs

/-- Nothing differs but the registers `rs` and the events on their way to the fault manager. -/
def OnlyRegsEv (s t : State) (rs : List Reg) : Prop :=
  t = { s with regs := t.regs, faultLine := t.faultLine } ∧ RegsKept s t rs

/-- A response has left for its master: it waits in the transport behind everything that is under way there. -/
def Responded (s t : State) (r : Resp) : Prop := t.resps = s.resps ++ [r] ∧ t.net = s.net.enter (.resp r)

/-- A transaction has been handed to the transport, behind everything that is under way there. -/
def Injected (s t : State) (x : Txn) : Prop := t.inFlight = s.inFlight ++ [x] ∧ t.net = s.net.enter (.req x)

/-- Every stored word of the package reads the same in both states. -/
def MemKept (s t : State) : Prop := ∀ d pa : Nat, t.cell d pa = s.cell d pa

/-- A register that has one instance on die 0. -/
def reg0 (n : RegName) : Reg := ⟨n, 0, 0, 0⟩

/-- Core `c` of die `d` runs, with no interrupt due, no reset, halt, step or breakpoint, and finds at PC the good word `w` of a
sequencer instruction `op` (R846, R854). -/
def State.seqAt (s : State) (d c w : Nat) (op : SeqOp) : Bool :=
  s.seqReady d c && (s.fetchBp d c).isNone && (s.core d c).bp.isNone && !(s.core d c).haltReq && !(s.core d c).haltFault && !(s.core d c).stepping
    && decide (w < 2 ^ 24) && seqDecode w == some op
    && decodeCell (s.cell d (imemAddr c (s.seqPc d c))) (imemAddr c (s.seqPc d c)) == .good (dataWord w)

/-- A core has gone on to instruction word `pc` after `n` cycles (R845). -/
def SeqWent (s t : State) (d c pc n : Nat) : Prop :=
  t.seqPc d c = pc % 8192 ∧ t.sr d c 4 = (s.sr d c 4 + n) % 2 ^ 48 ∧ t.seqState d c = 1

/-- The registers of a core that every completed instruction may change: PC and its mirror, and CYCLE. -/
def seqRegs (d c : Nat) : List Reg := [⟨.SEQ_STAT, d, c, 0⟩, ⟨.SEQ_PC, d, c, 0⟩, ⟨.SEQ_SR, d, c, 4⟩]

/-- An arithmetic instruction has completed: RD holds the result, STATUS its flags, and nothing else has changed but PC
and CYCLE (R855, Table 15-3). -/
def SeqAlu (s t : State) (d c rd : Nat) (r : Word) (f : Flags) (n : Nat) : Prop :=
  t.g d c rd = r ∧ flagsOf (t.sr d c 0) = f ∧ t.sr d c 0 / 16 = s.sr d c 0 / 16 ∧ SeqWent s t d c (s.seqPc d c + 1) n ∧
    t = { s with regs := t.regs, cores := t.cores } ∧ RegsKept s t (⟨.SEQ_G, d, c, rd⟩ :: ⟨.SEQ_SR, d, c, 0⟩ :: seqRegs d c)

/-- A comparison has completed: only the flags, PC and CYCLE have changed. -/
def SeqCmp (s t : State) (d c : Nat) (f : Flags) : Prop :=
  flagsOf (t.sr d c 0) = f ∧ t.sr d c 0 / 16 = s.sr d c 0 / 16 ∧ SeqWent s t d c (s.seqPc d c + 1) 1 ∧
    t = { s with regs := t.regs, cores := t.cores } ∧ RegsKept s t (⟨.SEQ_SR, d, c, 0⟩ :: seqRegs d c)

/-- Whether `x` is a good cell of a link that is up, and the one it expects next (R675). -/
def State.cellDue (s : State) (l x : Nat) : Bool := s.linkUp l && cellGood x && cellSeq x == (s.sl l).rxNext

/-- Nothing differs but link `l`, which has taken its next cell, channel `c`, and the registers `rs` (R675, R677). -/
def TookCell (s t : State) (l c : Nat) (rs : List Reg) : Prop :=
  (t.sl l).rxNext = ((s.sl l).rxNext + 1) % 4096 ∧ (∀ k, k ≠ l → t.sl k = s.sl k) ∧ (∀ k, k ≠ c → t.sc k = s.sc k) ∧
    t = { s with regs := t.regs, links := t.links, scs := t.scs } ∧ RegsKept s t rs

/-- Whether a step goes on: neither a fault nor a refusal. -/
def goesOn (o : Out) : Bool := match o with | .next _ => true | _ => false

end Sys2Proof.Machine
end

