-- ==== Sys2Proof/WellFormed.lean ====
section
/-!
DEFINITION. Which commands are well formed: operands within the ranges that the spec gives the things they name. A command
outside them names nothing of the package.
-/
namespace Sys2Proof

/-- A die that Quowin makes: the I/O die or a fabric die (R16). -/
def isDie (d : Nat) : Bool := d < 5
/-- A fabric die. -/
def isFab (d : Nat) : Bool := 1 ≤ d && d < 5
/-- An island of a fabric die (R1). -/
def isIsland (i : Nat) : Bool := i < 16
/-- A block memory of an island (R68). -/
def isBlock (m : Nat) : Bool := m < 24
/-- A scratchpad bank of a die (R67, R258). -/
def isBank (d b : Nat) : Bool := b < (if d = 0 then 4 else 16)
/-- A port of a die (Table 8-2). -/
def isPort (d p : Nat) : Bool := d < 6 && p < (if d = 0 then 18 else if d = 5 then 2 else 8)
/-- A flit with its CRC (Table 8-5). -/
def isFlit (f : Nat) : Bool := f < 2 ^ 128
/-- A DRAM channel. -/
def isChan (c : Nat) : Bool := c < 2
/-- A lane (R603). -/
def isLane (n : Nat) : Bool := n < 16
/-- A MAC (R658). -/
def isMac (m : Nat) : Bool := m < 4
/-- A 48-bit time or address. -/
def isTime (t : Nat) : Bool := t < 2 ^ 48
/-- A Saette link (R717). -/
def isLink (l : Nat) : Bool := l < 8
/-- A Saette cell with its CRC (Table 12-2). -/
def isCell (cell : Nat) : Bool := cell < 2 ^ 256
/-- A logical channel (R720). -/
def isStream (c : Nat) : Bool := c < 64
/-- A sequencer core of a fabric die. -/
def isCore (c : Nat) : Bool := c < 4
/-- A stream engine of a die. -/
def isEngine (d e : Nat) : Bool := e < (if d = 0 then 4 else 8)
/-- A context of an engine. -/
def isCtx (x : Nat) : Bool := x < 16
/-- A landing buffer of a die (Table 16-2). -/
def isLand (d b : Nat) : Bool := if d = 0 then b < 3 || 4 ≤ b && b < 8 || 64 ≤ b && b < 128 else b < 20
/-- A coder instance. -/
def isInst (i : Nat) : Bool := i < 16
/-- A source of the fault manager (Table 18-2). -/
def isSource (n : Nat) : Bool := 1 ≤ n && n ≤ 116
/-- Bytes. -/
def isBytes (bs : List Nat) : Bool := bs.all fun b => b < 256
/-- A transaction within the fields of Table 8-8. -/
def isTxn (t : Txn) : Bool :=
  1 ≤ t.len && t.len ≤ 64 && t.srcDie < 6 && t.master < 512 && t.rtag < 64 && t.addr < 2 ^ 48
/-- A response within the fields of Table 8-8. -/
def isResp (r : Resp) : Bool := r.srcDie < 6 && r.master < 512 && r.rtag < 64 && r.status < 4

/-- The SIZE of a control flit: with INIT the buffers of Table 9-5 of a Quowin die, or at least the minimums of a guest die, otherwise
zero (R430, R488). -/
def sizesOk (guest good ini : Bool) (size : List Nat) : Bool :=
  size.length == 4 && size.all (· < 4096)
    && (!good || (if !ini then size == [0, 0, 0, 0]
      else if guest then (size.zip [33, 33, 2, 33]).all fun x => x.2 ≤ x.1
      else size == [128, 96, 64, 96]))

/-- A well-formed command. -/
def Instr.wf (i : Instr) : Bool :=
  match i with
  | .powerOnReset cause rail => cause < 2 && rail < 48
  | .powerOnResetRelease role boot devnum banks _ => role < 4 && boot < 8 && devnum < 16 && banks < 2 ^ 16
  | .bootRomStart _ => true
  | .firmwareStart _ => true
  | .startUpRelease => true
  | .deviceReset => true
  | .sysResetNLow => true
  | .devResetWrite _ _ => true
  | .deviceResetRelease => true
  | .fwRestart _ _ => true
  | .maltsterRestart => true
  | .watchdogKick _ => true
  | .watchdogExpiry => true
  | .supplyOutOfRange rail => rail < 48
  | .voutCommand _ _ => true
  | .readVout raw _ => raw < 2 ^ 16
  | .voltageSettleTimeout => true
  | .pmbusTelemetryPoll iout temp _ => iout < 2 ^ 16 && temp < 2 ^ 16
  | .pmAlert status _ => status < 2 ^ 16
  | .thermalSensorRead d _ => isDie d
  | .orderlyShutdown => true
  | .thermalTrip => true
  | .autoRestart => true
  | .headLinkLoss => true
  | .linkHoldExpiry => true
  | .headLinkSwitch _ => true
  | .markScheduleWord l cell => isLink l && isCell cell
  | .roleLinkRetry l => isLink l
  | .outEnWrite _ _ => true
  | .registerWrite d loc _ _ _ => isDie d && loc < 2 ^ 36
  | .islClkCtlWrite d i _ _ => isFab d && isIsland i
  | .runningCodeStep d i => isFab d && isIsland i
  | .slackCritical d i => isFab d && isIsland i
  | .slackLow d i => isFab d && isIsland i
  | .stretchDecay d i => isFab d && isIsland i
  | .breachReturnStart d i => isFab d && isIsland i
  | .vreqRise d i => isFab d && isIsland i
  | .vreqFall d i => isFab d && isIsland i
  | .memoryIslandCritical d => isFab d
  | .islandOscillatorCheck d i _ => isFab d && isIsland i
  | .channelWordSend d i p _ _ => isFab d && isIsland i && p < 8
  | .channelWordArrive d i p _ => isFab d && isIsland i && p < 8
  | .channelWordTake d i p _ => isFab d && isIsland i && p < 8
  | .channelAckArrive d i p _ => isFab d && isIsland i && p < 8
  | .channelStall d i p => isFab d && isIsland i && p < 8
  | .eventRaise d i p n => isFab d && isIsland i && p < 8 && n < 8
  | .eventLap d i p => isFab d && isIsland i && p < 8
  | .fabIslRstWrite d _ => isFab d
  | .islandReset d i => isFab d && isIsland i
  | .islandResetEnd d i _ => isFab d && isIsland i
  | .asyncResetAssert d i c => isFab d && isIsland i && c < 256
  | .asyncResetRelease d i c => isFab d && isIsland i && c < 256
  | .runSetAfterLoad d i => isFab d && isIsland i
  | .bmPortAccess d i m _ _ => isFab d && isIsland i && isBlock m
  | .windowAccess d i m _ _ _ => isFab d && isIsland i && isBlock m
  | .windowSteal d i m _ _ => isFab d && isIsland i && isBlock m
  | .windowReadRepeat d i m _ _ _ _ => isFab d && isIsland i && isBlock m
  | .bankAccess d b _ => isDie d && isBank d b
  | .bankStarvation d b _ _ => isDie d && isBank d b
  | .writeBack d x => isDie d && x.pa < 2 ^ 36
  | .patrolRead d b => isDie d && isBank d b
  | .flipMaskArm d _ _ => isDie d
  | .read t => isTxn t
  | .write t => isTxn t
  | .narrowWrite t => isTxn t
  | .add t => isTxn t
  | .swap t => isTxn t
  | .readResp r => isResp r
  | .atomicResp r => isResp r
  | .streamCreditReturn => true
  | .requestTimeout d m tag => isDie d && m < 512 && tag < 64
  | .configLoadStart _ => true
  | .imageCheckPass => true
  | .frameRecord => true
  | .spargeFrameScrub d => isFab d
  | .frameRewrite => true
  | .flashPageProgram => true
  | .flashProgramComplete => true
  | .flashSectorErase => true
  | .flashEraseComplete => true
  | .controlFlit d p good ack _ ini cred size => isPort d p && ack < 256 && cred.length == 4 && cred.all (· < 256) && sizesOk (d == 0 && 16 ≤ p) good ini size
  | .sequencedFlit d p sent got par => isPort d p && isFlit sent && isFlit got && par < 4
  | .nakResend d p => isPort d p
  | .bundleTraining d p _ => isPort d p
  | .trainingRetry d p => isPort d p
  | .sidebandCap d p w crc => isPort d p && w < 2 ^ 48 && crc < 65536
  | .sidebandMap d p body crc => isPort d p && body < 2 ^ 38 && crc < 65536
  | .sidebandReady d p crc => isPort d p && crc < 65536
  | .sidebandSwap d p wire spare crc => isPort d p && wire < 128 && spare < 4 && crc < 65536
  | .sidebandRetrain d p crc => isPort d p && crc < 65536
  | .sidebandRetire d p seq _ k crc => isPort d p && seq < 256 && k < 4 && crc < 65536
  | .ixgRetrainWrite d p _ _ => isPort d p
  | .ixgRetireWrite d p _ _ => isPort d p
  | .dramEnWrite c _ _ => isChan c
  | .dramTrainingComplete c _ => isChan c
  | .dramRetrainWrite c _ _ => isChan c
  | .srReqWrite c _ _ => isChan c
  | .selfRefreshEntry c => isChan c
  | .dramAccept c n => isChan c && n < 4096
  | .dramReadComplete c n => isChan c && n < 4096
  | .dramRefresh c rank => isChan c && rank < 2
  | .victimRefresh c rank => isChan c && rank < 2
  | .disturbTableClear c rank => isChan c && rank < 2
  | .dramPromotion c n => isChan c && n < 4096
  | .dramPatrolRead c => isChan c
  | .backgroundFill c => isChan c
  | .zqShortCalibration c => isChan c
  | .periodicCentring c _ => isChan c
  | .dramTemperatureRead c range => isChan c && range < 4
  | .dramCaParityAlert c => isChan c
  | .dramKeyLoad c k _ => isChan c && k < 8
  | .dramFillStart c _ => isChan c
  | .lanePstateRequest n req => isLane n && req < 4
  | .laneP0Reached n rx => isLane n && rx < 2 ^ 48
  | .coefficientIncrement n k => isLane n && k < 8
  | .coefficientDecrement n k => isLane n && k < 8
  | .preset n => isLane n
  | .initialise n => isLane n
  | .laneTrainingTimeout n => isLane n
  | .laneTrainingRestart n => isLane n
  | .laneLos n => isLane n
  | .laneCdrUnlock n => isLane n
  | .lanePllUnlock n _ => isLane n
  | .laneRefclkLost r => r < 2
  | .laneAdaptLimit n k _ => isLane n && k < 8
  | .injSingle n _ => isLane n
  | .injBurst n _ => isLane n
  | .revive n _ _ => isLane n
  | .macEnable m w _ => isMac m && w.role.all (· < 3)
  | .macModeWrite m _ _ => isMac m
  | .macTxWindowWrite t => isTxn t
  | .macTxFrame m t => isMac m && isTime t
  | .macRxFrame m bs _ t => isMac m && isBytes bs && isTime t
  | .macRxWindowRead t => isTxn t
  | .pauseFrame m bs t => isMac m && isBytes bs && isTime t
  | .pauseExpiry m => isMac m
  | .macTsTimeRead m t => isMac m && isTxn t
  | .saetteLinkEnable l w => isLink l && w.role.all (· < 3)
  | .linkBringupRetry l => isLink l
  | .hello l cell _ => isLink l && isCell cell
  | .linkCtl l cell => isLink l && isCell cell
  | .retrain l cell peerGood => isLink l && isCell cell && peerGood < 256
  | .slRetrainWrite l _ => isLink l
  | .saetteLaneLost l i => isLink l && i < 8
  | .saetteLinkLost l => isLink l
  | .slotTransmit l => isLink l
  | .dataCell l cell => isLink l && isCell cell
  | .gcmEnd l cell => isLink l && isCell cell
  | .frameCheck c => isStream c
  | .openCell l cell => isLink l && isCell cell
  | .openAck l cell => isLink l && isCell cell
  | .openRefuse l cell => isLink l && isCell cell
  | .closeCell l cell => isLink l && isCell cell
  | .closeAck l cell => isLink l && isCell cell
  | .credit l cell => isLink l && isCell cell
  | .keySwitch l cell => isLink l && isCell cell
  | .flush l cell => isLink l && isCell cell
  | .txOpen c _ => isStream c
  | .txClose c _ => isStream c
  | .closeCutTimeout c => isStream c
  | .channelFlush c _ => isStream c
  | .keySwitchWrite c _ => isStream c
  | .channelEnableWrite c _ => isStream c
  | .saetteKeyLoad k _ => k < 32
  | .scTxWindowWrite t => isTxn t
  | .scRxWindowRead t => isTxn t
  | .creditReturnTimer c => isStream c
  | .tbStep _ => true
  | .tbSlew _ => true
  | .slewDivWrite _ => true
  | .slewApply => true
  | .timeBaseWrap => true
  | .timeReplicaCheck f _ => isFab f
  | .timeBaseHoldover => true
  | .holdoverExit => true
  | .encoderEdge n _ _ => n < 4
  | .encoderIndex n _ _ => n < 4
  | .productDetectEdge n _ t => n < 16 && isTime t
  | .pdHoldoffExpiry n => n < 16
  | .gpioInputEdge p _ t => p < 96 && isTime t
  | .eventRecordIssue r => r < 4
  | .eventRingEnable r _ => r < 4
  | .converterEnable n _ => n < 16
  | .converterTick n => n < 16
  | .dacPhaseEnd n => n < 16
  | .conversionStart n => n < 16
  | .conversionComplete n code _ => n < 16 && code < 2 ^ 14
  | .converterWordIssue n => n < 16
  | .gpioScheduledChange p => p < 96
  | .ppsChange p => p < 96
  | .gpioSetWrite q _ => q < 2
  | .gpioClrWrite q _ => q < 2
  | .send bs => isBytes bs
  | .fetch _ => true
  | .spiStatus _ => true
  | .arpRequest srcMac srcIp ip => isTime srcMac && srcIp < 2 ^ 32 && ip < 2 ^ 32
  | .udpDatagram _ => true
  | .cabenSaetteFrame => true
  | .echo tr tag => tr < 3 && tag < 256
  | .identify tr tag => tr < 3 && tag < 256
  | .repeatReply tr tag => tr < 3 && tag < 256
  | .abort tr tag => tr < 3 && tag < 256
  | .cabenRead tr tag => tr < 3 && tag < 256
  | .cabenWrite tr tag => tr < 3 && tag < 256
  | .cabenAtomicAdd tr tag => tr < 3 && tag < 256
  | .cabenAtomicSwap tr tag => tr < 3 && tag < 256
  | .streamRead tr tag => tr < 3 && tag < 256
  | .streamWrite tr tag => tr < 3 && tag < 256
  | .load tr tag => tr < 3 && tag < 256
  | .streamImage tr tag => tr < 3 && tag < 256
  | .store tr tag => tr < 3 && tag < 256
  | .goldenUnlock tr tag => tr < 3 && tag < 256
  | .fwStart tr tag => tr < 3 && tag < 256
  | .nvRead tr tag => tr < 3 && tag < 256
  | .nvWrite tr tag => tr < 3 && tag < 256
  | .repairAdd tr x => tr < 3 && (match x with | .packet tag => decide (tag < 256) | .firmware e => decide (e < 2 ^ 48))
  | .fuseBlow tr tag _ => tr < 3 && tag < 256
  | .resetIsland tr tag => tr < 3 && tag < 256
  | .resetMaltster tr tag => tr < 3 && tag < 256
  | .resetDevice tr tag => tr < 3 && tag < 256
  | .faultRead tr tag => tr < 3 && tag < 256
  | .cabenTimeout tr tag => tr < 3 && tag < 256
  | .cabenCtlWrite k _ => k < 9
  | .seqNop d c => isFab d && isCore c
  | .seqAdd d c => isFab d && isCore c
  | .seqSub d c => isFab d && isCore c
  | .seqAnd d c => isFab d && isCore c
  | .seqOr d c => isFab d && isCore c
  | .seqXor d c => isFab d && isCore c
  | .seqShl d c => isFab d && isCore c
  | .seqShr d c => isFab d && isCore c
  | .seqSar d c => isFab d && isCore c
  | .seqMulu d c => isFab d && isCore c
  | .seqMuls d c => isFab d && isCore c
  | .seqCmp d c => isFab d && isCore c
  | .seqAddi d c => isFab d && isCore c
  | .seqCmpi d c => isFab d && isCore c
  | .seqAndi d c => isFab d && isCore c
  | .seqOri d c => isFab d && isCore c
  | .seqXori d c => isFab d && isCore c
  | .seqShli d c => isFab d && isCore c
  | .seqShri d c => isFab d && isCore c
  | .seqSari d c => isFab d && isCore c
  | .seqLdi d c => isFab d && isCore c
  | .seqLih d c => isFab d && isCore c
  | .seqLdl d c => isFab d && isCore c
  | .seqStl d c => isFab d && isCore c
  | .seqLdg d c => isFab d && isCore c
  | .seqStg d c => isFab d && isCore c
  | .storeQueueIssue d c => isFab d && isCore c
  | .seqAadd d c => isFab d && isCore c
  | .seqAswp d c => isFab d && isCore c
  | .seqStln d c => isFab d && isCore c
  | .seqSync d c => isFab d && isCore c
  | .seqMbr d c => isFab d && isCore c
  | .seqMbw d c => isFab d && isCore c
  | .seqRsr d c => isFab d && isCore c
  | .seqWsr d c => isFab d && isCore c
  | .seqB d c => isFab d && isCore c
  | .seqCall d c => isFab d && isCore c
  | .seqJr d c => isFab d && isCore c
  | .seqRet d c => isFab d && isCore c
  | .seqReti d c => isFab d && isCore c
  | .seqWait d c => isFab d && isCore c
  | .seqHalt d c => isFab d && isCore c
  | .seqBrk d c => isFab d && isCore c
  | .interruptEntry d c => isFab d && isCore c
  | .seqTimer d c => isFab d && isCore c
  | .seqTcmp d c => isFab d && isCore c
  | .seqDoorbellWrite d c v _ => isFab d && isCore c && 4 ≤ v && v < 32
  | .seqHaltRequest d c _ _ => isFab d && isCore c
  | .seqResume d c _ _ => isFab d && isCore c
  | .seqStep d c _ _ => isFab d && isCore c
  | .seqCtlReset d c _ _ => isFab d && isCore c
  | .seqMemDataRead d c => isFab d && isCore c
  | .seqMemDataWrite d c _ => isFab d && isCore c
  | .tapReset => true
  | .idcode => true
  | .samplePreload sample preload => sample < 2 ^ 1788 && preload < 2 ^ 1788
  | .extest v => v < 2 ^ 1788
  | .clamp => true
  | .highz => true
  | .bypass => true
  | .dbgAccess => true
  | .dbgAccessRead addr => isTime addr
  | .dbgAccessWrite addr _ => isTime addr
  | .dbgAccessCapture => true
  | .maltChallenge => true
  | .maltResponse sig => sig < 2 ^ 512
  | .maltDbg => true
  | .descriptorFetch d e x => isDie d && isEngine d e && isCtx x
  | .engineTurn d e => isDie d && isEngine d e
  | .claim d b => isDie d && isLand d b
  | .release d t => isDie d && isTxn t
  | .windowReread d e x => isDie d && isEngine d e && isCtx x
  | .instanceReset i _ => isInst i
  | .instanceResetComplete i => isInst i
  | .instMembershipWrite k i _ => k < 4 && isInst i
  | .gatewayAccept => true
  | .gwReq l cell => isLink l && isCell cell
  | .gwResp l cell => isLink l && isCell cell
  | .gwCredit l cell => isLink l && isCell cell
  | .timeSyncExchange => true
  | .timeReq l cell => isLink l && isCell cell
  | .timeResp l cell => isLink l && isCell cell
  | .joinTimeout => true
  | .rackingCut => true
  | .rackingCopyStart => true
  | .rackData l cell => isLink l && isCell cell
  | .rackCommit l cell => isLink l && isCell cell
  | .rackingCommitComplete => true
  | .rackAck l cell => isLink l && isCell cell
  | .heartbeatSend => true
  | .heartbeat l cell => isLink l && isCell cell
  | .heartbeatMiss => true
  | .handoverInLow => true
  | .handoverInRise => true
  | .yieldWrite _ _ => true
  | .faultEvent _ => true
  | .faultClassify => true
  | .faultWindowClose n => isSource n
  | .quietPeriodExpiry n => isSource n
  | .shadowEnd d i => isFab d && isIsland i
  | .force n _ _ => isSource n
  | .clear n _ _ => isSource n
  | .pop _ => true
  | .timeClockTick => true
  | .seqIllegalInstruction d c => isFab d && isCore c
  | .seqFetchInvalid d c => isFab d && isCore c
  | .prbsCheckerLock n _ _ => isLane n
  | .prbsLockLost n _ _ => isLane n
  | .receiverReady n _ rx => isLane n && rx < 2 ^ 48
  | .macBlockLock m _ _ speed => isMac m && speed < 4
  | .laneSignalPresent n => isLane n
  | .supplyWithinRange rail => rail < 48
  | .channel0OpenRetry => true

end Sys2Proof
end

