-- ==== Sys2Proof/Certificates/Slice0/Obligations.lean ====
section
/-!
DEFINITION. The statements for the provers.
-/
open Sys2Proof Sys2Proof.Machine

/-- Requests for a reset, for a Maltster restart, and a kick of the watchdog are recorded (R1037, R1062, R1074, R1076). -/
def Obligations.ResetRequestsAreRecorded : Prop :=
  (∀ s : State, s.rst.inReset = false → s.rst.por = false →
    exec .sysResetNLow s = .next { s with rst := { s.rst with devReq := some (min (s.rst.devReq.getD 2) 2) } } :) ∧
  (∀ (s : State) (t0 : Nat), s.rst.inReset = false → s.rst.por = false → s.rst.coolAt = some t0 → s.rst.shutdown = true →
    s.rb F.RST_CTL_AUTO_RESTART 0 = true → 1000000000 ≤ s.ago t0 →
    exec .autoRestart s = .next { s with rst := { s.rst with devReq := some (min (s.rst.devReq.getD 6) 6) } } :) ∧
  (∀ (s : State) (w : TWord), s.rst.inReset = false → s.rst.por = false → w.tag.toNat < 2 →
    bit w.data.toNat 47 = true → bit w.data.toNat 46 = false →
    ∃ t, exec (.devResetWrite w []) s = .next t ∧ t.rst = { s.rst with devReq := some (min (s.rst.devReq.getD 5) 5) } ∧
      t.rf F.RST_CTL_DEV_RESET 0 = 1 ∧ t.rf F.RST_CTL_FW_RESTART 0 = s.rf F.RST_CTL_FW_RESTART 0 ∧
      t.rf F.RST_CTL_DEV_RELOAD 0 = bits w.data.toNat 45 45 ∧ t.rf F.RST_CTL_AUTO_RESTART 0 = bits w.data.toNat 44 44 ∧
      t = { s with regs := t.regs, rst := t.rst } ∧ RegsKept s t [reg0 .RST_CTL] :) ∧
  (∀ (s : State) (w : TWord), s.rst.inReset = false → w.tag.toNat < 2 → bit w.data.toNat 47 = false → bit w.data.toNat 46 = true →
    ∃ t, exec (.fwRestart w []) s = .next t ∧ t.rst = { s.rst with fwReq := true, skip := false, expiries := [] } ∧
      t.rf F.RST_CTL_FW_RESTART 0 = 1 ∧ t.rf F.RST_CTL_DEV_RESET 0 = s.rf F.RST_CTL_DEV_RESET 0 ∧
      t = { s with regs := t.regs, rst := t.rst } ∧ RegsKept s t [reg0 .RST_CTL] :) ∧
  (∀ (s : State) (w : TWord), w.tag.toNat < 2 → bit w.data.toNat 47 = true →
    ∃ t, exec (.watchdogKick w) s = .next t ∧ t.rst = { s.rst with kickAt := s.now } ∧
      t.rf F.WDOG_CTL_EN 0 = bits w.data.toNat 46 46 ∧ t.rf F.WDOG_CTL_TIMEOUT_MS 0 = min 1000 (max 10 (bits w.data.toNat 15 0)) ∧
      t = { s with regs := t.regs, rst := t.rst } ∧ RegsKept s t [reg0 .WDOG_CTL] :)

/-- Each request for a reset, by ball, register or automatic restart, completes and is followed by the reset it names, and a
kick holds the watchdog off (R1037, R1039, R1041, R1048, R1062, R1067, R1074, R1076). -/
def Obligations.ResetRequestsAreCarriedOut : Prop :=
  (∀ (s : State), s.rst.inReset = false → s.rst.por = false →
    ∃ t, exec .sysResetNLow s = .next t ∧ t = { s with rst := { s.rst with devReq := some (min (s.rst.devReq.getD 2) 2) } } ∧
      (s.rst.devReq = none → s.rst.shutdown = false →
        ∃ u, exec .deviceReset t = .next u ∧ u.rst.inReset = true ∧ u.rst.devReq = none ∧ u.rf F.RST_STAT_STATE 0 = 2 ∧
          u.rf F.RST_STAT_LAST_CAUSE 0 = 2 ∧ u.inFlight = [] ∧ u.outst = []) :) ∧
  (∀ (s : State) (w : TWord) (acts : List HwAct), s.rst.inReset = false → s.rst.por = false → w.tag.toNat < 2 → bit w.data.toNat 47 = true → bit w.data.toNat 46 = false →
    ∃ t, exec (.devResetWrite w acts) s = .next t ∧ t.rst = { s.rst with devReq := some (min (s.rst.devReq.getD 5) 5) } ∧
      t = { s with regs := t.regs, rst := t.rst } ∧ RegsKept s t [reg0 .RST_CTL] ∧
      (s.rst.devReq = none → s.rst.shutdown = false →
        ∃ u, exec .deviceReset t = .next u ∧ u.rst.inReset = true ∧ u.rst.devReq = none ∧ u.rf F.RST_STAT_STATE 0 = 2 ∧
          u.rf F.RST_STAT_LAST_CAUSE 0 = 5 ∧ u.rf F.RST_CTL_DEV_RESET 0 = 0 ∧ u.inFlight = [] ∧ u.outst = []) :) ∧
  (∀ (s : State) (w : TWord) (acts : List HwAct), s.rst.inReset = false → w.tag.toNat < 2 → bit w.data.toNat 47 = false → bit w.data.toNat 46 = true →
    ∃ t, exec (.fwRestart w acts) s = .next t ∧ t.rst = { s.rst with fwReq := true, skip := false, expiries := [] } ∧
      t = { s with regs := t.regs, rst := t.rst } ∧ RegsKept s t [reg0 .RST_CTL] ∧
      (s.rst.por = false → s.rst.devReq = none → s.holdOver = true →
        ∃ u, exec .maltsterRestart t = .next u ∧ u.rst.fwReq = false ∧ u.rst.phase = (if s.rst.phase < 4 then 2 else 8) ∧
          u.rf F.RST_STAT_LAST_CAUSE 0 = 7 ∧ u.rf F.RST_CTL_FW_RESTART 0 = 0 ∧ u.mem = s.mem ∧ u.inFlight = s.inFlight ∧ u.isl = s.isl) :) ∧
  (∀ (s : State) (w : TWord), w.tag.toNat < 2 → bit w.data.toNat 47 = true →
    ∃ t, exec (.watchdogKick w) s = .next t ∧ t.rst = { s.rst with kickAt := s.now } ∧
      t.rf F.WDOG_CTL_EN 0 = bits w.data.toNat 46 46 ∧ t.rf F.WDOG_CTL_TIMEOUT_MS 0 = min 1000 (max 10 (bits w.data.toNat 15 0)) ∧
      t = { s with regs := t.regs, rst := t.rst } ∧ RegsKept s t [reg0 .WDOG_CTL] ∧ exec .watchdogExpiry t = .next t :) ∧
  (∀ (s : State) (t0 : Nat), s.rst.inReset = false → s.rst.por = false → s.rst.coolAt = some t0 → s.rst.shutdown = true →
    s.rb F.RST_CTL_AUTO_RESTART 0 = true → 1000000000 ≤ s.ago t0 →
    ∃ t, exec .autoRestart s = .next t ∧ t = { s with rst := { s.rst with devReq := some (min (s.rst.devReq.getD 6) 6) } } ∧
      (s.rst.devReq = none → (∀ d, d ∈ s.senseDies → s.dieTemp d < 100) →
        ∃ u, exec .deviceReset t = .next u ∧ u.rst.inReset = true ∧ u.rst.reload = true ∧ u.rst.shutdown = false ∧
          u.rf F.RST_STAT_STATE 0 = 2 ∧ u.rf F.RST_STAT_LAST_CAUSE 0 = 6) :) ∧
  (∀ (s : State) (w : TWord) (acts : List HwAct), 2 ≤ w.tag.toNat → s.rf F.REG_ERR_VALID 0 = 0 →
    ∃ t u, exec (.devResetWrite w acts) s = .next t ∧ exec (.watchdogKick w) s = .next u ∧ exec (.fwRestart w acts) s = .next t ∧
      t.rf F.REG_ERR_CAUSE 0 = w.tag.toNat - 2 ∧ t.rf F.REG_ERR_ADDR 0 = 0x0F000600 ∧ OnlyRegsEv s t [reg0 .REG_ERR] ∧
      u.rf F.REG_ERR_CAUSE 0 = w.tag.toNat - 2 ∧ u.rf F.REG_ERR_ADDR 0 = 0x0F000603 ∧ OnlyRegsEv s u [reg0 .REG_ERR] :)

/-- The power-on reset, the thermal trip, the device reset and the Maltster restart take effect and are released (R1037,
R1038, R1042, R1063, R1039, R1040, R1041, R1065, R1067). -/
def Obligations.ResetsAreTakenAndReleased : Prop :=
  (∀ (s : State) (cause rail : Nat), cause ≤ 1 → rail < 48 →
    ∃ t, exec (.powerOnReset cause rail) s = .next t ∧ t.rst.por = true ∧ t.rst.trip = s.rst.trip ∧
      t.rf F.RST_STAT_LAST_CAUSE 0 = cause ∧ (cause = 0 → bit (t.rw .SUP_STAT 0) rail = false) ∧
      t.mem = [] ∧ t.inFlight = [] ∧ t.outst = [] ∧ t.faultLine = [] ∧ t.isl = [] ∧ t.cfg.cmem = [] ∧
      t.cfg.blown = s.cfg.blown ∧ (s.cfg.active = none → t.cfg.flash = s.cfg.flash) ∧ t.pending = s.pending :) ∧
  (∀ s : State, ∃ t, exec .thermalTrip s = .next t ∧ t.rst.por = true ∧ t.rst.trip = true ∧ t.rf F.RST_STAT_LAST_CAUSE 0 = 0 ∧
      t.mem = [] ∧ t.inFlight = [] ∧ t.outst = [] ∧ t.cfg.blown = s.cfg.blown ∧ t.pending = s.pending :) ∧
  (∀ (s : State) (role boot devnum banks : Nat) (cool : Bool), s.rst.por = true → (s.rst.trip = true → cool = true) →
    (∀ b, b < 8 → s.hasBank b = true → banks / 4 ^ b % 4 ≠ 0) →
    ∃ t, exec (.powerOnResetRelease role boot devnum banks cool) s = .next t ∧ t.rst.por = false ∧ t.rst.phase = 2 ∧
      t.rf F.DEV_ROLE_ROLE 0 = role % 4 ∧ t.rf F.DEV_ROLE_BOOT 0 = boot % 8 ∧ t.rf F.DEV_ROLE_DEVNUM_STRAP 0 = devnum % 16 ∧
      t.cfg.fuses = s.cfg.blown ∧ (s.rst.trip = false → t.faultLine = s.faultLine) ∧
      (s.rst.trip = true → t.rf F.RST_STAT_TRIP_SEEN 0 = 1 ∧ t.faultLine = s.faultLine ++ [faultEv .thermalTrip 0 0 0]) ∧
      t = { s with regs := t.regs, faultLine := t.faultLine, cfg := { s.cfg with fuses := s.cfg.blown }, rst := t.rst } :) ∧
  (∀ (s : State) (role boot devnum banks : Nat), s.rst.trip = true →
    exec (.powerOnResetRelease role boot devnum banks false) s = .next s :) ∧
  (∀ (s : State) (c : Nat), s.rst.devReq = some c → c < 16 → s.rst.por = false → s.rst.inReset = false → s.rst.shutdown = false →
    (c = 3 → s.holdOver = true) →
    ∃ t, exec .deviceReset s = .next t ∧ t.rst.inReset = true ∧ t.rst.devReq = none ∧ t.rst.fwReq = false ∧ t.rst.phase = 2 ∧
      t.rf F.RST_STAT_STATE 0 = 2 ∧ t.rf F.RST_STAT_LAST_CAUSE 0 = c ∧ t.rf F.RST_STAT_LINE_READY 0 = 0 ∧
      t.rf F.RST_CTL_DEV_RESET 0 = 0 ∧ t.rf F.RST_CTL_FW_RESTART 0 = 0 ∧
      t.inFlight = [] ∧ t.outst = [] ∧ t.resps = [] ∧ t.cab = Cab.init ∧ t.cfg.load = none ∧ (∀ d c, t.core d c = { Core.init with since := (t.core d c).since }) ∧
      (∀ d c, d ∈ s.fabDies → c < 4 → t.rsr d c 4 = 0) :) ∧
  (∀ s : State, s.rst.inReset = true → s.rst.shutdown = false → s.rst.reload = true →
    ∃ t, exec .deviceResetRelease s = .next t ∧ t.rst = { s.rst with inReset := false, since := s.now } ∧ t.rf F.RST_STAT_STATE 0 = 0 :) ∧
  (∀ s : State, s.rst.fwReq = true → s.rst.por = false → s.rst.inReset = false → s.rst.devReq = none → s.holdOver = true →
    ∃ t, exec .maltsterRestart s = .next t ∧ t.rst.fwReq = false ∧ t.rst.phase = (if s.rst.phase < 4 then 2 else 8) ∧
      t.rf F.RST_STAT_LAST_CAUSE 0 = 7 ∧ t.rf F.RST_CTL_FW_RESTART 0 = 0 ∧ t.mem = s.mem ∧ t.inFlight = s.inFlight ∧ t.drams = s.drams ∧
      t.isl = s.isl ∧ t.cores = s.cores :)

/-- Start-up goes from the boot ROM to the firmware and to line-ready, and a watchdog expiry restarts the Maltster (R1046,
R1047, R1048, R1051, R1052, R1072). -/
def Obligations.StartUpGoesThroughItsPhases : Prop :=
  (∀ (s : State) (sfdp : Option Sfdp), s.rst.por = false → s.rst.inReset = false → s.rst.shutdown = false → s.rst.phase = 2 → s.cab.ready = false →
    ∃ t, exec (.bootRomStart sfdp) s = .next t ∧ t.cfg.found = sfdp.isSome ∧ t.cab.ready = true ∧
      (∀ f, sfdp = some f → t.cfg.addr4 = f.addr4 ∧ t.cfg.readMode = flashMode f (s.rf F.DEV_ROLE_BOOT 0)) ∧
      (sfdp = none → t.rf F.RST_STAT_FW_SLOT 0 = 0 ∧ t.rf F.CABEN_STAT_BOOT_SM 0 = 1 ∧ t.rst.phase = 2) ∧
      (t.rf F.CABEN_STAT_BOOT_SM 0 = 0 → t.rst.phase = 3 ∧ t.rst.kickAt = s.now ∧
        (t.rf F.RST_STAT_FW_SLOT 0 = 1 ∨ t.rf F.RST_STAT_FW_SLOT 0 = 2)) :) ∧
  (∀ (s : State) (vmode : Option Nat), s.rst.por = false → s.rst.inReset = false → s.rst.shutdown = false → s.bootSm = false →
    s.rst.phase = 3 → s.rst.reload = false → ∃ t, exec (.firmwareStart vmode) s = .next t ∧ t.rst.phase = 4 :) ∧
  (∀ s : State, s.gated = false → s.rst.phase = 4 → s.imageLoaded = true → s.cfg.load = none → s.cfg.release = [] → s.lineOk = true →
    ∃ t, exec .startUpRelease s = .next t ∧ t.rf F.DEV_ROLE_CTL_OUT_EN 0 = 1 ∧ t.rf F.RST_STAT_LINE_READY 0 = 1 ∧
      t.rf F.RST_STAT_STATE 0 = 1 ∧ t.rst = { s.rst with phase := 6 } ∧ RegsKept s t [reg0 .DEV_ROLE_CTL, reg0 .RST_STAT] :) ∧
  (∀ s : State, s.gated = false → s.bootSm = false → s.rst.phase ≠ 2 → s.rst.phase ≠ 8 → s.rb F.WDOG_CTL_EN 0 = true →
    s.rf F.WDOG_CTL_TIMEOUT_MS 0 * 1000000 ≤ s.ago s.rst.kickAt →
    ∃ t, exec .watchdogExpiry s = .next t ∧ t.rf F.RST_STAT_LAST_CAUSE 0 = 7 ∧
      t.faultLine = s.faultLine ++ [faultEv .maltsterWatchdog 0 0 (t.rw .RST_STAT 0)] ∧
      t.rst.phase = (if s.rst.phase < 4 then 2 else 8) ∧ t.mem = s.mem :)

/-- Supplies set and clear their bits, the core voltage is asked for on PMBus, and a sensor reading sets its level and raises
its events (R1033, R1054, R1055, R1056, R1057, R1058, R1071, R1059, R1060, R1061). -/
def Obligations.SuppliesCoreVoltageAndTemperature : Prop :=
  (∀ (s : State) (rail : Nat), rail < 48 →
    ∃ t, exec (.supplyOutOfRange rail) s = .next t ∧ bit (t.rw .SUP_STAT 0) rail = false ∧
      (∀ k, k < 48 → k ≠ rail → bit (t.rw .SUP_STAT 0) k = bit (s.rw .SUP_STAT 0) k) ∧
      t.faultLine = s.faultLine ++ [faultEv .supplyOutOfRange 0 0 0] ∧ OnlyRegsEv s t [reg0 .SUP_STAT] :) ∧
  (∀ (s : State) (rail : Nat), rail < 48 →
    ∃ t, exec (.supplyWithinRange rail) s = .next t ∧ bit (t.rw .SUP_STAT 0) rail = true ∧
      (∀ k, k < 48 → k ≠ rail → bit (t.rw .SUP_STAT 0) k = bit (s.rw .SUP_STAT 0) k) ∧ OnlyRegs s t [reg0 .SUP_STAT] :) ∧
  (∀ (s : State) (pec : Bool), s.fwServes = true → s.rb F.PMB_CTL_EN 0 = true → (pec = true ∨ s.rb F.PMB_CTL_PEC_EN 0 = false) →
    (s.rf F.PMB_STAT_REQ_MV 0 < s.wantMv ∨
      s.wantMv < s.rf F.PMB_STAT_REQ_MV 0 ∧ s.rst.want.1 = s.wantMv ∧ 1000000 ≤ s.ago s.rst.want.2) →
    ∃ t, exec (.voutCommand true pec) s = .next t ∧ t.rf F.PMB_STAT_REQ_MV 0 = s.wantMv ∧ t.rf F.PMB_STAT_SETTLED 0 = 0 ∧
      t.rst = { s.rst with tries := 0, vword := linearOf s.rst.vmode s.wantMv % 65536, sentAt := s.now, bus := t.rst.bus } ∧
      t.rst.bus.getLast? = some (0x21, linearOf s.rst.vmode s.wantMv % 65536) ∧
      t = { s with regs := t.regs, rst := t.rst } ∧ RegsKept s t [reg0 .PMB_STAT] :) ∧
  (∀ (s : State) (raw : Nat), s.fwServes = true → s.rb F.PMB_STAT_SETTLED 0 = false →
    ∃ t, exec (.readVout raw true) s = .next t ∧ t.rf F.PMB_STAT_VOUT_MV 0 = mvOf s.rst.vmode raw % 65536 ∧
      t.rb F.PMB_STAT_SETTLED 0 = near10 s.rst.vmode raw (s.rf F.PMB_STAT_REQ_MV 0) ∧
      t.rf F.PMB_STAT_REQ_MV 0 = s.rf F.PMB_STAT_REQ_MV 0 ∧
      t = { s with regs := t.regs, rst := t.rst } ∧ RegsKept s t [reg0 .PMB_STAT] :) ∧
  (∀ s : State, s.fwServes = true → s.rb F.PMB_CTL_EN 0 = true → s.rb F.PMB_STAT_SETTLED 0 = false →
    1000000 ≤ s.ago s.rst.sentAt → s.rst.tries < 3 →
    ∃ t, exec .voltageSettleTimeout s = .next t ∧ t.rst.tries = s.rst.tries + 1 ∧ t.rst.sentAt = s.now ∧
      t.rst.vword = linearOf s.rst.vmode (s.rf F.PMB_STAT_REQ_MV 0) % 65536 ∧
      t.rf F.PMB_STAT_REQ_MV 0 = s.rf F.PMB_STAT_REQ_MV 0 ∧ t.faultLine = s.faultLine ++ [faultEv .pmbusError 0 0 0] ∧
      t = { s with regs := t.regs, rst := t.rst, faultLine := t.faultLine } ∧ RegsKept s t [reg0 .PMB_STAT, reg0 .PMB_ERR_CNT] :) ∧
  (∀ (s : State) (iout temp : Nat), s.fwServes = true →
    exec (.pmbusTelemetryPoll iout temp true) s = .next { s with rst := { s.rst with iout := iout % 65536, temp1 := temp % 65536 } } :) ∧
  (∀ (s : State) (status : Nat), s.fwServes = true →
    ∃ t, exec (.pmAlert status true) s = .next t ∧ t.rst = { s.rst with statusWord := status % 65536, bus := t.rst.bus } ∧
      t.rst.bus.getLast? = some (0x03, 0) ∧
      t.faultLine = s.faultLine ++ [faultEv .pmbusError 0 0 0] ∧
      t = { s with regs := t.regs, rst := t.rst, faultLine := t.faultLine } ∧ RegsKept s t [reg0 .PMB_ERR_CNT] :) ∧
  (∀ (s : State) (d : Nat) (t0 : Int) (ts : List Int), s.senseDies.contains d = true →
    ∃ t, exec (.thermalSensorRead d (t0 :: ts)) s = .next t ∧ t.rf F.THERM_DIE_TEMP 0 d = (ts.foldl max t0 % 256).toNat ∧
      t.rf F.THERM_DIE_LEVEL 0 d = thermLevel (s.rf F.THERM_DIE_LEVEL 0 d) (ts.foldl max t0) ∧
      t.faultLine = s.faultLine
        ++ (if s.rf F.THERM_DIE_LEVEL 0 d < 1 ∧ 1 ≤ t.rf F.THERM_DIE_LEVEL 0 d then [faultEv .thermalWarning d 0 0] else [])
        ++ (if s.rf F.THERM_DIE_LEVEL 0 d < 2 ∧ 2 ≤ t.rf F.THERM_DIE_LEVEL 0 d then [faultEv .thermalThrottle d 0 0] else [])
        ++ (if s.rf F.THERM_DIE_LEVEL 0 d < 3 ∧ 3 ≤ t.rf F.THERM_DIE_LEVEL 0 d then [faultEv .thermalShutdown d 0 0] else []) ∧
      t = { s with regs := t.regs, faultLine := t.faultLine, rst := t.rst } ∧ RegsKept s t [⟨.THERM_DIE, 0, d, 0⟩] :) ∧
  (∀ (s : State) (d : Nat), s.rst.por = false → s.rst.shutdown = false → d ∈ s.senseDies → s.rf F.THERM_DIE_LEVEL 0 d = 3 →
    ∃ t, exec .orderlyShutdown s = .next t ∧ t.rst.shutdown = true ∧ t.thermN = false ∧ t.rf F.RST_STAT_STATE 0 = 3 ∧
      t.rf F.RST_STAT_LINE_READY 0 = 0 :)

/-- A head end holds its outputs when its link is lost, clears them when the hold ends, follows the active peer, and stores
OUT_EN only as Table 1-1 lets it (R25, R38, R39, R40, R42, R1069). -/
def Obligations.HeadEndsFollowTheActiveDevice : Prop :=
  (∀ s : State, s.headEnd = true → s.follow ≠ 0 → s.followsUp = false → s.headLost = none → s.rf F.DEV_ROLE_CTL_LINK_HOLD 0 ≠ 0 →
    exec .headLinkLoss s = .next { s with headLost := some s.now } :) ∧
  (∀ (s : State) (t0 : Nat), s.headLost = some t0 → s.followsUp = false → s.rf F.DEV_ROLE_CTL_LINK_HOLD 0 * 1000000 ≤ s.ago t0 →
    ∃ t, exec .linkHoldExpiry s = .next t ∧ t.rf F.DEV_ROLE_CTL_OUT_EN 0 = 0 ∧ t.headLost = none ∧
      t = { s with regs := t.regs, dio := t.dio, lio := t.lio, headLost := none } ∧ RegsKept s t [reg0 .DEV_ROLE_CTL] :) ∧
  (∀ s : State, s.headEnd = true → s.peerActive 0 = false → s.peerActive 1 = true → s.follow ≠ 2 →
    exec (.headLinkSwitch false) s = .next { s with switchTo := 2 } :) ∧
  (∀ s : State, s.headEnd = true → s.peerActive 0 = true → s.peerActive 1 = false → s.follow ≠ 1 →
    exec (.headLinkSwitch false) s = .next { s with switchTo := 1 } :) ∧
  (∀ s : State, s.headEnd = true → s.peerActive 0 = true → s.peerActive 1 = true →
    ∃ t, exec (.headLinkSwitch false) s = .next t ∧ t.follow = (if s.follow = 0 then 1 else s.follow) ∧ t.switchTo = 0 ∧
      t.faultLine = s.faultLine ++ [faultEv .dualActive 0 0 0] :) ∧
  (∀ s : State, s.headEnd = true → s.switchTo ≠ 0 →
    exec (.headLinkSwitch true) s = .next { s with follow := s.switchTo, switchTo := 0, headLost := none } :) ∧
  (∀ (s : State) (w : TWord) (hwClear : Bool), w.tag.toNat < 2 → bits w.data.toNat 3 3 = s.rf F.DEV_ROLE_CTL_HEAD_LINK_B_EN 0 →
    bits w.data.toNat 2 2 = s.rf F.DEV_ROLE_CTL_HEAD_LINK_EN 0 →
    ∃ t, exec (.outEnWrite w hwClear) s = .next t ∧
      t.rb F.DEV_ROLE_CTL_OUT_EN 0 = (bit w.data.toNat 1 && !hwClear && s.lineOk && !s.gated) ∧
      t.rf F.DEV_ROLE_CTL_LINK_HOLD 0 = bits w.data.toNat 15 8 ∧ t.rf F.DEV_ROLE_CTL_ACTIVE 0 = s.rf F.DEV_ROLE_CTL_ACTIVE 0 ∧
      t = { s with regs := t.regs, dio := t.dio, lio := t.lio } ∧ RegsKept s t [reg0 .DEV_ROLE_CTL] :)

/-- The adaptive loop: slack moves the stretch, a breach lowers the floor in force, and codes and voltage requests move by one
step (R109, R112, R113, R114, R116, R117, R120, R146, R161). -/
def Obligations.AdaptiveLoopStretches : Prop :=
  (∀ (s : State) (d i : Nat), s.oscRuns = true →
    ∃ t, exec (.slackLow d i) s = .next t ∧ t.rf F.ISL_CLK_STAT_SLACK d i = 1 ∧
      t.rf F.ISL_CLK_STAT_STRETCH d i = min (s.rf F.ISL_CLK_STAT_STRETCH d i + 1) (s.sMax d i) ∧
      t.rf F.ISL_CLK_STAT_FREQ_RUN d i = s.rf F.ISL_CLK_STAT_FREQ_RUN d i ∧
      t = { s with regs := t.regs, isl := (s.setIsland d i { s.island d i with ample := 0 }).isl } ∧
      RegsKept s t [⟨.ISL_CLK_STAT, d, i, 0⟩, ⟨.ISL_STRETCH_CNT, d, i, 0⟩] :) ∧
  (∀ (s : State) (d i : Nat), s.oscRuns = true → s.rf F.ISL_CLK_STAT_STRETCH d i ≠ s.sMax d i →
    ¬ (s.rf F.ISL_CLK_STAT_STRETCH d i = 16 ∧ s.rf F.ISL_CLK_STAT_FREQ_RUN d i = 0) →
    ∃ t, exec (.slackCritical d i) s = .next t ∧ t.rf F.ISL_CLK_STAT_SLACK d i = 2 ∧
      t.rf F.ISL_CLK_STAT_STRETCH d i = s.sMax d i ∧ t.rf F.ISL_CLK_STAT_FREQ_RUN d i = s.rf F.ISL_CLK_STAT_FREQ_RUN d i ∧
      t = { s with regs := t.regs, isl := (s.setIsland d i { s.island d i with ample := 0 }).isl } ∧
      RegsKept s t [⟨.ISL_CLK_STAT, d, i, 0⟩, ⟨.ISL_STRETCH_CNT, d, i, 0⟩] :) ∧
  (∀ (s : State) (d i : Nat), s.oscRuns = true → s.rf F.ISL_CLK_STAT_STRETCH d i = s.sMax d i → s.sMax d i < 16 →
    s.rf F.ISL_CLK_STAT_BREACH_ACTIVE d i = 0 →
    ∃ t, exec (.slackCritical d i) s = .next t ∧ t.rf F.ISL_CLK_STAT_STRETCH d i = s.sMax d i + 1 ∧
      t.rf F.ISL_CLK_STAT_FLOOR_EFF d i = floorOf (s.rf F.ISL_CLK_STAT_FREQ_RUN d i) (s.sMax d i + 1) ∧
      t.rf F.ISL_CLK_STAT_BREACH_ACTIVE d i = 1 ∧ t.rf F.ISL_CLK_STAT_BREACH_STICKY d i = 1 ∧
      t.faultLine = s.faultLine ++ [faultEv .islandFloorBreach d i 0] ∧
      t = { s with regs := t.regs, isl := t.isl, faultLine := t.faultLine } ∧
      RegsKept s t [⟨.ISL_CLK_STAT, d, i, 0⟩, ⟨.ISL_STRETCH_CNT, d, i, 0⟩, ⟨.ISL_BREACH_CNT, d, i, 0⟩] :) ∧
  (∀ (s : State) (d i : Nat), s.oscRuns = true → s.rf F.ISL_CLK_STAT_STRETCH d i ≠ 0 →
    ∃ t, exec (.stretchDecay d i) s = .next t ∧
      t.rf F.ISL_CLK_STAT_STRETCH d i = s.rf F.ISL_CLK_STAT_STRETCH d i - 1 ∧ t.rf F.ISL_CLK_STAT_SLACK d i = 0 ∧
      t = { s with regs := t.regs, isl := (s.setIsland d i { s.island d i with ample := 0 }).isl } ∧
      RegsKept s t [⟨.ISL_CLK_STAT, d, i, 0⟩, ⟨.ISL_STRETCH_CNT, d, i, 0⟩] :) ∧
  (∀ (s : State) (d i : Nat), s.oscRuns = true → s.rf F.ISL_CLK_STAT_BREACH_ACTIVE d i = 0 →
    ∃ t, exec (.runningCodeStep d i) s = .next t ∧
      t.rf F.ISL_CLK_STAT_FREQ_RUN d i = (if s.effTarget d i < s.rf F.ISL_CLK_STAT_FREQ_RUN d i then s.rf F.ISL_CLK_STAT_FREQ_RUN d i - 1
        else if s.rf F.ISL_CLK_STAT_FREQ_RUN d i < s.effTarget d i then s.rf F.ISL_CLK_STAT_FREQ_RUN d i + 1 else s.effTarget d i) ∧
      OnlyRegs s t [⟨.ISL_CLK_STAT, d, i, 0⟩] :) ∧
  (∀ (s : State) (d i : Nat), s.oscRuns = true → s.rf F.ISL_CLK_STAT_BREACH_ACTIVE d i = 1 →
    s.rf F.ISL_CLK_STAT_FREQ_RUN d i ≠ s.effTarget d i →
    ∃ t, exec (.breachReturnStart d i) s = .next t ∧ (t.island d i).returning = true ∧
      t.rf F.ISL_CLK_STAT_BREACH_ACTIVE d i = 1 ∧ t = { s with regs := t.regs, isl := t.isl } ∧
      RegsKept s t [⟨.ISL_CLK_STAT, d, i, 0⟩] :) ∧
  (∀ (s : State) (d i : Nat), s.oscRuns = true → s.rf F.ISL_CLK_STAT_STRETCH d i ≠ 0 →
    s.rf F.ISL_CLK_STAT_VREQ d i < s.rf F.ISL_CLK_CTL_VCAP d i →
    ∃ t, exec (.vreqRise d i) s = .next t ∧ t.rf F.ISL_CLK_STAT_VREQ d i = s.rf F.ISL_CLK_STAT_VREQ d i + 1 ∧
      t.rst.want.1 = t.wantMv ∧ t = { s with regs := t.regs, rst := { s.rst with want := t.rst.want } } ∧ RegsKept s t [⟨.ISL_CLK_STAT, d, i, 0⟩] :) ∧
  (∀ (s : State) (d i : Nat), s.oscRuns = true → s.rf F.ISL_CLK_STAT_STRETCH d i = 0 → s.rf F.ISL_CLK_STAT_VREQ d i ≠ 0 →
    ∃ t, exec (.vreqFall d i) s = .next t ∧ t.rf F.ISL_CLK_STAT_VREQ d i = s.rf F.ISL_CLK_STAT_VREQ d i - 1 ∧
      t.rst.want.1 = t.wantMv ∧ t = { s with regs := t.regs, rst := { s.rst with want := t.rst.want } } ∧ RegsKept s t [⟨.ISL_CLK_STAT, d, i, 0⟩] :) ∧
  (∀ (s : State) (d i khz : Nat), s.oscRuns = true → s.rf F.ISL_CLK_STAT_STRETCH d i = 0 → 103000 * codeMhz (s.rf F.ISL_CLK_STAT_FREQ_RUN d i) < 100 * khz →
    exec (.islandOscillatorCheck d i khz) s = .next { s with faultLine := s.faultLine ++ [faultEv .islandOscillator d i 0] } :) ∧
  (∀ (s : State) (d i khz : Nat), s.rf F.ISL_CLK_STAT_STRETCH d i = 0 → 100 * khz ≤ 103000 * codeMhz (s.rf F.ISL_CLK_STAT_FREQ_RUN d i) →
    97000 * codeMhz (s.rf F.ISL_CLK_STAT_FREQ_RUN d i) ≤ 100 * khz → exec (.islandOscillatorCheck d i khz) s = .next s :)

/-- A CRITICAL cycle with nothing left to lower raises island-slack-exhausted, and one of the memory island sets CRIT_STICKY
and raises memory-island-slack (R119, R140). -/
def Obligations.SlackFaultsAreRaised : Prop :=
  (∀ (s : State) (d i : Nat), s.oscRuns = true → s.rf F.ISL_CLK_STAT_FREQ_RUN d i = 0 → s.rf F.ISL_CLK_STAT_STRETCH d i = 16 →
    ∃ t, exec (.slackCritical d i) s = .next t ∧ t.faultLine = s.faultLine ++ [faultEv .islandSlackExhausted d i 0] ∧
      t.rf F.ISL_CLK_STAT_FREQ_RUN d i = 0 ∧ t.rf F.ISL_CLK_STAT_STRETCH d i = 16 ∧
      t.rf F.ISL_CLK_STAT_FLOOR_EFF d i = s.rf F.ISL_CLK_STAT_FLOOR_EFF d i ∧
      t = { s with regs := t.regs, isl := (s.setIsland d i { s.island d i with ample := 0 }).isl, faultLine := t.faultLine } ∧
      RegsKept s t [⟨.ISL_CLK_STAT, d, i, 0⟩, ⟨.ISL_STRETCH_CNT, d, i, 0⟩] :) ∧
  (∀ (s : State) (d : Nat), s.oscRuns = true →
    ∃ t, exec (.memoryIslandCritical d) s = .next t ∧ t.rf F.MISL_STAT_CRIT_STICKY d = 1 ∧ t.rf F.MISL_STAT_SLACK d = 2 ∧
      t.faultLine = s.faultLine ++ [faultEv .memoryIslandSlack d 0 0] ∧ OnlyRegsEv s t [⟨.MISL_STAT, d, 0, 0⟩] :)

/-- Handshake channels carry words in order, and events are counted across their crossing (R126, R129, R131, R132, R160, R134,
R137). -/
def Obligations.ChannelsAndEventsCross : Prop :=
  (∀ (s : State) (d i p : Nat) (w : TWord), portExists i p = true → p < 7 → s.running d i = true →
    (s.chan (chanKey d i p false)).occ < 4 → ∃ t, exec (.channelWordSend d i p false (some w)) s = .next t ∧
      (t.chan (chanKey d i p false)).occ = (s.chan (chanKey d i p false)).occ + 1 ∧
      (t.chan (chanKey d i p false)).flight = (s.chan (chanKey d i p false)).flight ++ [w] ∧
      (t.chan (chanKey d i p false)).reqT = !(s.chan (chanKey d i p false)).reqT ∧
      (t.chan (chanKey d i p false)).fifo = (s.chan (chanKey d i p false)).fifo ∧ t = { s with chans := t.chans } ∧
      (∀ k, k ≠ chanKey d i p false → t.chan k = s.chan k) :) ∧
  (∀ (s : State) (d i p : Nat) (w : TWord), portExists i p = true → p < 7 → s.running d i = true →
    4 ≤ (s.chan (chanKey d i p false)).occ →
    ∃ t, exec (.channelWordSend d i p false (some w)) s = .next t ∧ (t.chan (chanKey d i p false)).offer = some w ∧
      (t.chan (chanKey d i p false)).stalled =
        ((s.chan (chanKey d i p false)).stalled && (s.chan (chanKey d i p false)).offer == some w) ∧
      (t.chan (chanKey d i p false)).flight = (s.chan (chanKey d i p false)).flight ∧ t = { s with chans := t.chans } ∧
      (∀ k, k ≠ chanKey d i p false → t.chan k = s.chan k) :) ∧
  (∀ (s : State) (d i p : Nat), portExists i p = true → p < 7 → s.running d i = true →
    exec (.channelWordSend d i p false none) s =
      .next (s.setChan (chanKey d i p false) { s.chan (chanKey d i p false) with offer := none, stalled := false }) :) ∧
  (∀ (s : State) (d i p : Nat), (s.chan (chanKey d i p true)).fifo = [] →
    (s.chan (chanKey d i p true)).inData = ⟨0#48, tagInvalid⟩ ∧ exec (.channelWordTake d i p true) s = .next s :) ∧
  (∀ (s : State) (d i p : Nat) (stop : Bool) (w : TWord) (ws : List TWord), (s.chan (chanKey d i p stop)).flight = w :: ws →
    ∃ t, exec (.channelWordArrive d i p stop) s = .next t ∧ (t.chan (chanKey d i p stop)).flight = ws ∧
      (t.chan (chanKey d i p stop)).fifo = (s.chan (chanKey d i p stop)).fifo ++ [w] ∧
      (t.chan (chanKey d i p stop)).occ = (s.chan (chanKey d i p stop)).occ ∧ t = { s with chans := t.chans } ∧
      (∀ k, k ≠ chanKey d i p stop → t.chan k = s.chan k) :) ∧
  (∀ (s : State) (d i p : Nat) (w : TWord) (ws : List TWord), (s.chan (chanKey d i p true)).fifo = w :: ws → s.running d i = true →
    ∃ t, exec (.channelWordTake d i p true) s = .next t ∧ (t.chan (chanKey d i p true)).fifo = ws ∧
      (t.chan (chanKey d i p true)).acks = (s.chan (chanKey d i p true)).acks + 1 ∧
      (t.chan (chanKey d i p true)).ackT = !(s.chan (chanKey d i p true)).ackT ∧ t = { s with chans := t.chans } ∧
      (∀ k, k ≠ chanKey d i p true → t.chan k = s.chan k) :) ∧
  (∀ (s : State) (d i p : Nat) (stop : Bool), (s.chan (chanKey d i p stop)).acks ≠ 0 →
    ∃ t, exec (.channelAckArrive d i p stop) s = .next t ∧
      (t.chan (chanKey d i p stop)).acks = (s.chan (chanKey d i p stop)).acks - 1 ∧
      (t.chan (chanKey d i p stop)).occ = (s.chan (chanKey d i p stop)).occ - 1 ∧ t = { s with chans := t.chans } ∧
      (∀ k, k ≠ chanKey d i p stop → t.chan k = s.chan k) :) ∧
  (∀ (s : State) (d i p : Nat) (w : TWord), bit (s.rf F.ISL_CH_CTL_STALL_EN d i) p = true → s.running d i = true →
    (s.chan (chanKey d i p false)).offer = some w → (s.chan (chanKey d i p false)).stalled = false →
    4 ≤ (s.chan (chanKey d i p false)).occ →
    ∃ t, exec (.channelStall d i p) s = .next t ∧ t.faultLine = s.faultLine ++ [faultEv .channelStall d i 0] ∧
      (t.chan (chanKey d i p false)).stalled = true ∧ t = { s with chans := t.chans, faultLine := t.faultLine } ∧
      exec (.channelStall d i p) t = .next t :) ∧
  (∀ (s : State) (d i p n : Nat), portExists i p = true → p < 7 → n ≤ 7 → s.running d i = true →
    ∃ t, exec (.eventRaise d i p n) s = .next t ∧ (t.evt d i p).count = ((s.evt d i p).count + n) % 65536 ∧
      (t.evt d i p).front = (if s.evtRuns d i p then 0 else (s.evt d i p).front) + n ∧ (t.evt d i p).shown = (s.evt d i p).shown ∧ t = { s with evts := t.evts } :) ∧
  (∀ (s : State) (d i p n : Nat), neighbour i p = some n → 32768 ≤ (s.evt d n (facing p)).front →
    ∃ t, exec (.eventLap d i p) s = .next t ∧ t.rf F.ISL_EVT_LAP_LAP d i = s.rf F.ISL_EVT_LAP_LAP d i ||| 2 ^ p ∧
      t.faultLine = s.faultLine ++ [faultEv .eventLap d i 0] ∧
      (t.evt d n (facing p)).front = (s.evt d n (facing p)).front - 32768 ∧
      t = { s with regs := t.regs, evts := t.evts, faultLine := t.faultLine } ∧ RegsKept s t [⟨.ISL_EVT_LAP, d, i, 0⟩] :) ∧
  (∀ e : Evt, e.count < 65536 → (e.sample.sample).shown = e.count ∧ e.sample.shown = ofGray e.sampled ∧
    ofGray (grayOf e.count) = e.count :) ∧
  (∀ e : Evt, e.count < 65536 → ∃ k, k < 16 ∧ grayOf e.bump.count = grayOf e.count ^^^ 2 ^ k :)

/-- An island's clock register, its asynchronous resets, its reset and its start, and what its registers capture at an edge of
its logic clock (R107, R114, R146, R157, R178, R179, R199, R205, R210, R213, R221, R233). -/
def Obligations.IslandsAreResetAndStarted : Prop :=
  (∀ (s : State) (d i : Nat) (w : TWord), s.oscRuns = true → w.tag.toNat < 2 →
    ∃ t, exec (.islClkCtlWrite d i w []) s = .next t ∧
      t.rf F.ISL_CLK_CTL_TARGET d i = min (s.codeLimit d i) (bits w.data.toNat 7 0) ∧
      t.rf F.ISL_CLK_CTL_FLOOR d i = min (s.codeLimit d i) (bits w.data.toNat 15 8) ∧
      t.rf F.ISL_CLK_CTL_VCAP d i = min 32 (bits w.data.toNat 25 20) ∧ t.rf F.ISL_CLK_CTL_RUN d i = bits w.data.toNat 26 26 ∧
      t.rf F.ISL_CLK_STAT_VREQ d i = min (s.rf F.ISL_CLK_STAT_VREQ d i) (min 32 (bits w.data.toNat 25 20)) ∧
      t.island d i = { s.island d i with dioHold := (t.island d i).dioHold } ∧
      t = { s with regs := t.regs, isl := t.isl, evts := t.evts, rst := { s.rst with want := t.rst.want } } ∧
      RegsKept s t [⟨.ISL_CLK_CTL, d, i, 0⟩, ⟨.ISL_CLK_STAT, d, i, 0⟩] :) ∧
  (∀ (s : State) (d i c : Nat),
    ∃ t, exec (.asyncResetAssert d i c) s = .next t ∧ (t.island d i).ff = putCluster (s.island d i).ff (s.ffInit d i) c ∧
      (t.island d i).ar = (s.island d i).ar ||| 2 ^ c ∧ t = { s with isl := t.isl } :) ∧
  (∀ (s : State) (d i c : Nat), s.running d i = true → bit (s.island d i).ar c = true →
    ∃ t, exec (.asyncResetRelease d i c) s = .next t ∧ bit (t.island d i).ar c = false ∧ (t.island d i).ff = (s.island d i).ff ∧
      t = { s with isl := t.isl } :) ∧
  (∀ (s : State) (d : Nat) (w : TWord), w.tag.toNat < 2 → (∀ i, i < 16 → (s.island d i).held = false) →
    ∃ t, exec (.fabIslRstWrite d w) s = .next t ∧
      (∀ i, i < 16 → bit (t.rf F.FAB_ISL_RST_RST d) i = (bit (s.rf F.FAB_ISL_RST_RST d) i || bit w.data.toNat i)) ∧
      OnlyRegs s t [⟨.FAB_ISL_RST, d, 0, 0⟩] :) ∧
  (∀ (s : State) (d i : Nat), s.oscRuns = true → bit (s.rf F.FAB_ISL_RST_RST d) i = true → (s.island d i).underReset = false →
    ∃ t, exec (.islandReset d i) s = .next t ∧ (t.island d i).underReset = true ∧ (t.island d i).ff = s.ffInit d i ∧
      (t.island d i).ar = (s.island d i).ar ∧ (t.island d i).slices = [] ∧ t.mem = s.mem ∧ t.shadows.any (fun x => x.die == d && x.island == i) = true :) ∧
  (∀ (s : State) (d i : Nat), s.oscRuns = true → i < 16 → (s.island d i).underReset = true →
    ∃ t, exec (.islandResetEnd d i false) s = .next t ∧ (t.island d i).underReset = false ∧ bit (t.rf F.FAB_ISL_RST_RST d) i = false ∧
      t = { s with regs := t.regs, isl := t.isl, evts := t.evts, shadows := t.shadows } ∧ RegsKept s t [⟨.FAB_ISL_RST, d, 0, 0⟩] :) ∧
  (∀ (s : State) (d i : Nat), (s.island d i).runWanted = true → s.rf F.ISL_CLK_STAT_FREQ_RUN d i ≤ s.rf F.FAB_ISL_LIMIT_LIMIT_CODE d i →
    ∃ t, exec (.runSetAfterLoad d i) s = .next t ∧ t.rf F.ISL_CLK_CTL_RUN d i = 1 ∧ (t.island d i).runWanted = false ∧
      t = { s with regs := t.regs, isl := t.isl, evts := t.evts } ∧ RegsKept s t [⟨.ISL_CLK_CTL, d, i, 0⟩] :) ∧
  (∀ (s : State) (d i k : Nat), k < 4096 →
    bit ((s.logicEdge d i).island d i).ff k =
      (if bit (s.island d i).ar (k / 16) = true ∨ s.sinkVal d i (.sr k) = true then bit (s.ffInit d i) k
        else if s.sinkVal d i (.ce k) = true then s.ffD d i k else bit (s.island d i).ff k) :) ∧
  (∀ (s : State) (d i k : Nat), k < 16 →
    ((s.logicEdge d i).island d i).slice k = sliceEdge ((s.fabric d i).signed k) ((s.fabric d i).sat k) ((s.island d i).slice k) (s.sliceIn d i k) ∧
      (s.sliceIn d i k).pcin = (if k = 0 then 0 else ((s.island d i).slice (k - 1)).p) :) ∧
  (∀ (s : State) (d i k : Nat), k < 48 → dioIsland k = i →
    ((s.logicEdge d i).dioCell d k).inReg = s.dioBall d k ∧ ((s.logicEdge d i).dioCell d k).res = (s.dioCell d k).inReg ∧
      ((s.logicEdge d i).dioCell d k).out = s.sinkVal d i (.dioOut (k % 4)) ∧ ((s.logicEdge d i).dioCell d k).oe = s.sinkVal d i (.dioOe (k % 4)) :) ∧
  (∀ (s : State) (d i : Nat), s.running d i = false →
    ((s.islandCycle d i).island d i).ff = (s.island d i).ff ∧ ((s.islandCycle d i).island d i).slices = (s.island d i).slices ∧
      (s.islandCycle d i).dio = s.dio :)

/-- An access at a block-memory port reads, or writes and presents the old word; two writes of one word collide (R238, R239,
R240, R265, R266, R307). -/
def Obligations.BlockMemoryPortsReadFirst : Prop :=
  (∀ (s : State) (d i m : Nat) (q : PortReq) (w0 : TWord), s.running d i = true → q.we = false →
    s.portTaken d i m 0 q = false → q.mid = false →
    decodeCell (s.cell d (bmAddr i m (portWord (s.aspect d i m 0) q.addr))) (bmAddr i m (portWord (s.aspect d i m 0) q.addr)) = .good w0 →
    ∃ t, exec (.bmPortAccess d i m (some q) none) s = .next t ∧
      (t.bm d i m).a = ⟨BitVec.ofNat 48 (laneGet w0.data (s.aspect d i m 0) (portLane (s.aspect d i m 0) q.addr)), w0.tag, false⟩ ∧
      (t.bm d i m).b = (s.bm d i m).b ∧ t = { s with bms := t.bms } :) ∧
  (∀ (s : State) (d i m : Nat) (q : PortReq) (w0 : TWord), s.running d i = true → q.we = true → s.aspect d i m 0 = 48 →
    s.portTaken d i m 0 q = false → q.mid = false → s.flipArmed d (arrOf d (bmAddr i m (q.addr % 1024))) = false →
    decodeCell (s.cell d (bmAddr i m (q.addr % 1024))) (bmAddr i m (q.addr % 1024)) = .good w0 →
    ∃ t, exec (.bmPortAccess d i m (some q) none) s = .next t ∧ (t.bm d i m).a = ⟨w0.data, w0.tag, false⟩ ∧
      t.cell d (bmAddr i m (q.addr % 1024)) = ⟨⟨q.wdata, q.wtag⟩, checkOf ⟨q.wdata, q.wtag⟩ (bmAddr i m (q.addr % 1024))⟩ ∧
      (∀ d' pa, memKey d' pa ≠ memKey d (bmAddr i m (q.addr % 1024)) → t.cell d' pa = s.cell d' pa) ∧
      t = { s with mem := t.mem, bms := t.bms, wb := t.wb } :) ∧
  (∀ (s : State) (d i m : Nat) (qa qb : PortReq) (w0 : TWord), m < 24 → s.running d i = true → s.windowMode d i m = false →
    qa.we = true → qb.we = true → s.aspect d i m 0 = 48 → s.aspect d i m 1 = 48 → qa.addr % 1024 = qb.addr % 1024 →
    s.portTaken d i m 0 qa = false → s.portTaken d i m 1 qb = false → s.flipArmed d (arrOf d (bmAddr i m (qa.addr % 1024))) = false →
    decodeCell (s.cell d (bmAddr i m (qa.addr % 1024))) (bmAddr i m (qa.addr % 1024)) = .good w0 →
    ∃ t, exec (.bmPortAccess d i m (some qa) (some qb)) s = .next t ∧ (t.bm d i m).b.busy = true ∧
      t.cell d (bmAddr i m (qa.addr % 1024)) = ⟨⟨qa.wdata, qa.wtag⟩, checkOf ⟨qa.wdata, qa.wtag⟩ (bmAddr i m (qa.addr % 1024))⟩ ∧
      (∀ d' pa, memKey d' pa ≠ memKey d (bmAddr i m (qa.addr % 1024)) → t.cell d' pa = s.cell d' pa) ∧
      t.faultLine = s.faultLine ++ [faultEv .blockMemoryWriteCollision d i (t.rw .BM_COLL_LAST d i)] ∧
      (s.rf F.BM_COLL_LAST_VALID d i = 0 → t.rw .BM_COLL_LAST d i = 2 ^ 47 + 2 * 2 ^ 45 + m * 2 ^ 10 + qa.addr % 1024) ∧
      RegsKept s t [⟨.BM_WW_CNT, d, i, m⟩, ⟨.BM_COLL_LAST, d, i, 0⟩] :)

/-- A window read is performed on port B and answered, in a steal cycle too, and a repeated read that finds no collision ends
(R244, R245, R246, R267). -/
def Obligations.WindowAccessesAreServed : Prop :=
  (∀ (s : State) (d i m : Nat) (r : WinReq) (rest : List WinReq) (w : TWord), (s.island d i).held = false → (s.bm d i m).win = r :: rest →
    r.repeats = 0 → r.txn.op = .read → r.done + 1 = r.txn.len →
    decodeCell (s.cell d (addrLocal r.txn.addr + r.done)) (addrLocal r.txn.addr + r.done) = .good w →
    ∃ t, exec (.windowAccess d i m none false false) s = .next t ∧
      Responded s t ⟨false, r.txn.srcDie, r.txn.master, r.txn.rtag, 0, r.acc ++ [w]⟩ ∧ (t.bm d i m).win = rest ∧
      t = { s with bms := t.bms, resps := t.resps, net := t.net, credits := t.credits } :) ∧
  (∀ (s : State) (d i m : Nat) (r : WinReq) (rest : List WinReq) (w : TWord), (s.island d i).held = false → s.windowMode d i m = false →
    s.running d i = true → (s.bm d i m).win = r :: rest → r.repeats = 0 → r.txn.op = .read → r.done + 1 = r.txn.len →
    decodeCell (s.cell d (addrLocal r.txn.addr + r.done)) (addrLocal r.txn.addr + r.done) = .good w →
    ∃ t, exec (.windowSteal d i m none false) s = .next t ∧
      Responded s t ⟨false, r.txn.srcDie, r.txn.master, r.txn.rtag, 0, r.acc ++ [w]⟩ ∧ (t.bm d i m).win = rest ∧
      (t.bm d i m).b.busy = true ∧
      (s.rf F.BM_STEAL_CNT_COUNT d i < 65535 → t.rf F.BM_STEAL_CNT_COUNT d i = s.rf F.BM_STEAL_CNT_COUNT d i + 1) ∧
      t.mem = s.mem ∧ RegsKept s t [⟨.BM_STEAL_CNT, d, i, 0⟩] :) ∧
  (∀ (s : State) (d i m : Nat) (r : WinReq) (rest : List WinReq) (w : TWord), (s.island d i).held = false → (s.bm d i m).win = r :: rest →
    r.repeats ≠ 0 → r.txn.op = .read → r.done + 1 = r.txn.len →
    decodeCell (s.cell d (addrLocal r.txn.addr + r.done)) (addrLocal r.txn.addr + r.done) = .good w →
    ∃ t, exec (.windowReadRepeat d i m none false false false) s = .next t ∧
      Responded s t ⟨false, r.txn.srcDie, r.txn.master, r.txn.rtag, 0, r.acc ++ [w]⟩ ∧ (t.bm d i m).win = rest ∧
      t = { s with bms := t.bms, resps := t.resps, net := t.net, credits := t.credits } :)

/-- A scratchpad bank serves the waiting request of the lowest class number (R251, R253). -/
def Obligations.BanksServeTheLowestClassFirst : Prop :=
  ∀ (x : Bank) (wb : Bool), (∀ r ∈ x.reqs, (r.cls = 1 ∧ r.who < 4) ∨ r.cls = 3 ∨ (r.cls = 4 ∧ r.who < 10)) →
    (∀ j r, x.pick wb = some (some j) → x.reqs[j]? = some r → r.cls = 3 → wb = false ∧ ∀ u ∈ x.reqs, u.cls ≠ 1) ∧
    (∀ j r, x.pick wb = some (some j) → x.reqs[j]? = some r → r.cls = 4 → wb = false ∧ ∀ u ∈ x.reqs, u.cls = 4) ∧
    (x.pick wb = some none → ∀ u ∈ x.reqs, u.cls ≠ 1) ∧
    (x.pick wb = none → wb = false ∧ x.reqs = []) ∧
    (∀ j, x.pick wb = some (some j) → j < x.reqs.length)

/-- A bank performs the request it chooses; write-backs, patrol reads, starvation and the flip mask (R250, R254, R277, R295,
R302, R309, R317). -/
def Obligations.BanksPerformReadsWritesAndAtomics : Prop :=
  (∀ (s : State) (d b j n : Nat) (r : BankReq) (w : TWord), (s.bank d b).second = false →
    (s.bank d b).pick (!(s.wbq d (bankArr d b)).isEmpty) = some (some j) → (s.bank d b).reqs[j]? = some r →
    r.txn.op = .read → r.patrol = false → r.txn.len = r.done + 1 →
    decodeCell (s.cell d (addrLocal r.txn.addr + r.done)) (addrLocal r.txn.addr + r.done) = .good w →
    ∃ t, exec (.bankAccess d b n) s = .next t ∧ Responded s t ⟨false, r.txn.srcDie, r.txn.master, r.txn.rtag, 0, r.acc ++ [w]⟩ ∧
      (t.bank d b).reqs = (s.bank d b).reqs.eraseIdx j ∧
      t = { s with regs := t.regs, banks := t.banks, resps := t.resps, net := t.net, credits := t.credits } ∧
      RegsKept s t [⟨.SP_SAMPLE_CNT, d, 0, 0⟩, ⟨.SP_BANK_USE, d, b, 0⟩] :) ∧
  (∀ (s : State) (d b j n : Nat) (r : BankReq), (s.bank d b).second = false →
    (s.bank d b).pick (!(s.wbq d (bankArr d b)).isEmpty) = some (some j) → (s.bank d b).reqs[j]? = some r →
    r.txn.op = .write → r.txn.len = r.done + 1 → s.flipArmed d (arrOf d (addrLocal r.txn.addr + r.done)) = false →
    ∃ t, exec (.bankAccess d b n) s = .next t ∧
      t.cell d (addrLocal r.txn.addr + r.done) = ⟨r.txn.words.getD r.done noWord,
        checkOf (r.txn.words.getD r.done noWord) (addrLocal r.txn.addr + r.done)⟩ ∧
      (∀ d' pa, memKey d' pa ≠ memKey d (addrLocal r.txn.addr + r.done) → t.cell d' pa = s.cell d' pa) ∧
      (t.bank d b).reqs = (s.bank d b).reqs.eraseIdx j ∧ t.resps = s.resps ∧
      RegsKept s t [⟨.SP_SAMPLE_CNT, d, 0, 0⟩, ⟨.SP_BANK_USE, d, b, 0⟩] :) ∧
  (∀ (s : State) (d b j n : Nat) (r : BankReq) (old opd : TWord), (s.bank d b).second = false →
    (s.bank d b).pick (!(s.wbq d (bankArr d b)).isEmpty) = some (some j) → (s.bank d b).reqs[j]? = some r →
    r.txn.op = .add → r.patrol = false → r.txn.len = 1 → r.done = 0 → r.txn.words = [opd] → opd.tag.toNat < 2 → old.tag.toNat < 2 →
    s.flipArmed d (arrOf d (addrLocal r.txn.addr)) = false →
    decodeCell (s.cell d (addrLocal r.txn.addr)) (addrLocal r.txn.addr) = .good old →
    ∃ t, exec (.bankAccess d b n) s = .next t ∧ Responded s t ⟨true, r.txn.srcDie, r.txn.master, r.txn.rtag, 0, r.acc ++ [old]⟩ ∧
      (t.cell d (addrLocal r.txn.addr)).word = ⟨old.data + opd.data, tagData⟩ ∧ (t.bank d b).second = true ∧
      (∀ d' pa, memKey d' pa ≠ memKey d (addrLocal r.txn.addr) → t.cell d' pa = s.cell d' pa) :) ∧
  (∀ (s : State) (d b k : Nat) (r : BankReq), s.rb F.SP_CTL_STARVE_EN d = true → (s.bank d b).reqs[k]? = some r → r.starved = false →
    r.patrol = false → r.cls = 3 ∨ r.cls = 4 →
    ∃ t, exec (.bankStarvation d b false k) s = .next t ∧ (t.bank d b).reqs = (s.bank d b).reqs.set k { r with starved := true } ∧
      t.faultLine = s.faultLine ++ [faultEv .scratchpadBankStarvation d b (t.rw .SP_STARVE_LAST d)] ∧
      (s.rf F.SP_STARVE_LAST_VALID d = 0 → b < 16 → t.rf F.SP_STARVE_LAST_VALID d = 1 ∧ t.rf F.SP_STARVE_LAST_BANK d = b ∧
        t.rf F.SP_STARVE_LAST_CLASS d = r.cls - 1) ∧
      t = { s with regs := t.regs, banks := t.banks, faultLine := t.faultLine } ∧
      RegsKept s t [⟨.SP_STARVE_CNT, d, 0, 0⟩, ⟨.SP_STARVE_LAST, d, 0, 0⟩] :) ∧
  (∀ (s : State) (d pa i m : Nat) (e : WbEnt) (q : List WbEnt), arrOf d pa = .bm i m → (s.island d i).held = false →
    s.wbq d (.bm i m) = e :: q →
    ∃ t, exec (.writeBack d ⟨pa, none, false, false⟩) s = .next t ∧ t.cell d e.pa = ⟨e.word, checkOf e.word e.pa⟩ ∧ t.wbq d (.bm i m) = q ∧
      (∀ d' pa', memKey d' pa' ≠ memKey d e.pa → t.cell d' pa' = s.cell d' pa') ∧ t = { s with mem := t.mem, wb := t.wb } :) ∧
  (∀ (s : State) (d b : Nat), s.rb F.PROT_CTL_PATROL_EN d (if d = 0 then 0 else 1) = true →
    ∃ t, exec (.patrolRead d b) s = .next t ∧ (t.bank d b).patrol = ((s.bank d b).patrol + 1) % 0x8000 ∧
      (∃ r, (t.bank d b).reqs = (s.bank d b).reqs ++ [r] ∧ r.cls = 4 ∧ r.patrol = true ∧ r.txn.op = .read ∧
        r.txn.addr = b * 0x8000 + (s.bank d b).patrol ∧ r.txn.len = 1) ∧ t = { s with banks := t.banks } :) ∧
  (∀ (s : State) (d : Nat) (w : TWord) (hwClear : Bool), w.tag.toNat < 2 → bit w.data.toNat 47 = true →
    ∃ t, exec (.flipMaskArm d w hwClear) s = .next t ∧ t.rf F.PROT_FLIP_CTL_ARM d = 1 ∧
      t.rf F.PROT_FLIP_CTL_TARGET d = bits w.data.toNat 46 44 ∧ t.rf F.PROT_FLIP_CTL_MASK_CHECK d = bits w.data.toNat 35 28 ∧
      OnlyRegs s t [⟨.PROT_FLIP_CTL, d, 0, 0⟩] :)

/-- A refused ADD adds one to SP_ATOM_REFUSE_CNT and stores nothing (R255). -/
def Obligations.RefusedAddsAreCounted : Prop :=
  ∀ (s : State) (d pa : Nat) (old opd : TWord), decodeCell (s.cell d pa) pa = .good old → addWord old opd = none →
    (s.atomicWord d pa false opd).1 = old ∧ MemKept s (s.atomicWord d pa false opd).2 ∧
    (s.rf F.SP_ATOM_REFUSE_CNT_COUNT d < 65535 →
      (s.atomicWord d pa false opd).2.rf F.SP_ATOM_REFUSE_CNT_COUNT d = s.rf F.SP_ATOM_REFUSE_CNT_COUNT d + 1) ∧
    (s.rf F.SP_ATOM_REFUSE_CNT_COUNT d = 65535 →
      (s.atomicWord d pa false opd).2.rf F.SP_ATOM_REFUSE_CNT_COUNT d = 65535 ∧
      (s.atomicWord d pa false opd).2.rf F.SP_ATOM_REFUSE_CNT_OVF d = 1) ∧
    OnlyRegs s (s.atomicWord d pa false opd).2 [⟨.SP_ATOM_REFUSE_CNT, d, 0, 0⟩]

/-- What is stored at a protected word is what the next read of it returns, and a single inverted bit of it is corrected
(R295, R296, R303). -/
def Obligations.StoredWordsReadBack : Prop :=
  (∀ (s : State) (d pa : Nat) (w : TWord), s.flipArmed d (arrOf d pa) = false →
    decodeCell ((s.storeWord d pa w).cell d pa) pa = .good w ∧
    (∀ d' pa', memKey d' pa' ≠ memKey d pa → (s.storeWord d pa w).cell d' pa' = s.cell d' pa') ∧
    (∀ e ∈ (s.storeWord d pa w).wbq d (arrOf d pa), e.pa ≠ pa) :) ∧
  (∀ (w : TWord) (pa k : Nat), k < 50 → ∃ syn, decodeCell ⟨flipBit w k, checkOf w pa⟩ pa = .corrected w syn :)

/-- A register write stores its writable fields, clears what it writes 1 to, and leaves read-only fields; a class E counter
holds at its greatest value and sets OVF (R75, R76, R82, R91). -/
def Obligations.RegisterFieldsFollowTheirAccessCodes : Prop :=
  (∀ (s : State) (d loc : Nat) (w : TWord) (r : Reg) (fd : FieldDesc), s.hasDie d = true → d < 5 → inRegSpace d loc = true →
    inTxWindow d loc = false → s.blockStopped d loc = false → s.regAt d loc = some r → w.tag.toNat < 2 →
    r.name ∈ [.ISL_CH_CTL, .ISL_EVT_LAP, .MISL_STAT, .REG_ERR, .REG_ERR_CNT, .BM_COLL_LAST, .BM_PORTB_MODE, .SP_CTL, .SP_STARVE_LAST,
      .PROT_ERR_LAST, .PROT_FLIP_DATA, .PROT_FLIP_CTL, .TRN_ERR_LAST, .TRN_DROP_CNT, .SPG_CTL, .ENC_STAT, .FM_CTL, .FM_NOTICE_ADDR] →
    fd ∈ (regDesc r.name r.i).fields →
    ∃ t, exec (.registerWrite d loc w false []) s = .next t ∧ fd.fld.get (t.reg r) = writeField fd (s.reg r) w.data.toNat ∧
      (fd.acc = .ro → fd.fld.get (t.reg r) = fd.fld.get (s.reg r)) ∧ OnlyRegs s t [r] :) ∧
  (∀ (s t : State) (f : Fld) (d i j n : Nat), f.lo = 0 → f.hi < 47 → t = s.incE f d i j n →
    t.rf f d i j = min (2 ^ (f.hi + 1) - 1) (s.rf f d i j + n) ∧
      t.rf ⟨f.reg, 47, 47⟩ d i j = (if 2 ^ (f.hi + 1) ≤ s.rf f d i j + n then 1 else s.rf ⟨f.reg, 47, 47⟩ d i j) ∧ OnlyRegs s t [⟨f.reg, d, i, j⟩] :)

/-- A refused register write leaves every field unchanged, is recorded in REG_ERR while VALID is 0 and counted after, and
raises register-write-refused (R95, R98). -/
def Obligations.RefusedRegisterWritesChangeNothing : Prop :=
  (∀ (s : State) (d loc c : Nat) (w : TWord) (narrow : Bool) (r : Reg), s.hasDie d = true → d < 5 → inRegSpace d loc = true →
    inTxWindow d loc = false → s.blockStopped d loc = false → s.regAt d loc = some r → writeCause w narrow = some c → loc < 2 ^ 36 →
    ∃ t, exec (.registerWrite d loc w narrow []) s = .next t ∧
      (s.rf F.REG_ERR_VALID d = 0 → t.rf F.REG_ERR_VALID d = 1 ∧ t.rf F.REG_ERR_CAUSE d = c ∧ t.rf F.REG_ERR_IS_WRITE d = 1 ∧
        t.rf F.REG_ERR_ADDR d = loc ∧ OnlyRegsEv s t [⟨.REG_ERR, d, 0, 0⟩]) ∧
      (s.rf F.REG_ERR_VALID d = 1 → OnlyRegsEv s t [⟨.REG_ERR_CNT, d, 0, 0⟩] ∧
        (s.rf F.REG_ERR_CNT_COUNT d < 65535 → t.rf F.REG_ERR_CNT_COUNT d = s.rf F.REG_ERR_CNT_COUNT d + 1)) ∧
      t.faultLine = s.faultLine ++ [faultEv .registerWriteRefused d 0 (t.rw .REG_ERR d)] :) ∧
  (∀ (s : State) (d i : Nat) (w : TWord), s.oscRuns = true → 2 ≤ w.tag.toNat → i < 16 → s.rf F.REG_ERR_VALID d = 0 →
    ∃ t, exec (.islClkCtlWrite d i w []) s = .next t ∧ t.rf F.REG_ERR_CAUSE d = w.tag.toNat - 2 ∧
      t.rf F.REG_ERR_ADDR d = 0x0F010000 + i * 0x100 ∧
      t.faultLine = s.faultLine ++ [faultEv .registerWriteRefused d 0 (t.rw .REG_ERR d)] ∧ OnlyRegsEv s t [⟨.REG_ERR, d, 0, 0⟩] :)

/-- A write to an unmapped address within a register window is recorded in REG_ERR with cause 0b11, and a transaction there
receives the unmapped outcome (R97). -/
def Obligations.UnmappedRegisterAccessesAreRecorded : Prop :=
  (∀ (s : State) (d loc : Nat) (w : TWord) (narrow : Bool), s.hasDie d = true → d < 5 → inRegSpace d loc = true → inTxWindow d loc = false →
    s.blockStopped d loc = false → s.regAt d loc = none → s.rf F.REG_ERR_VALID d = 0 → loc < 2 ^ 36 →
    ∃ t, exec (.registerWrite d loc w narrow []) s = .next t ∧ t.rf F.REG_ERR_VALID d = 1 ∧ t.rf F.REG_ERR_CAUSE d = 3 ∧
      t.rf F.REG_ERR_IS_WRITE d = 1 ∧ t.rf F.REG_ERR_ADDR d = loc ∧ OnlyRegs s t [⟨.REG_ERR, d, 0, 0⟩] :) ∧
  (∀ (s : State) (d : Nat) (t : Txn), s.regAt d (addrLocal t.addr) = none → t.len = 1 → t.op = .read →
    (s.regReadTxn d t).resps = s.resps ++ [⟨false, t.srcDie, t.master, t.rtag, 1, [noWord]⟩] :)

/-- A READ, WRITE, NARROW_WRITE, ADD or SWAP to a scratchpad of its own die leaves the transport and is presented at its bank
(R251, R258, R493, R496). -/
def Obligations.TransactionsReachTheirBank : Prop :=
  (∀ (s : State) (x : Txn), s.rst.por = false → s.rst.inReset = false → s.net.pkts = [] → s.txnOk x = true → x.op = .read → s.hasDie x.srcDie = true →
    x.addr % 64 + x.len ≤ 64 → addrDev x.addr = s.devNum → addrDie x.addr = x.srcDie → x.srcDie < 5 → s.txnHeld x = false →
    addrLocal x.addr < (if x.srcDie = 0 then 0x20000 else 0x80000) → x ∈ s.inFlight →
    ∃ t, exec (.read x) s = .next t ∧ t.inFlight = s.inFlight.erase x ∧
      (t.bank x.srcDie (addrLocal x.addr / 0x8000)).reqs = (s.bank x.srcDie (addrLocal x.addr / 0x8000)).reqs
        ++ [⟨x, (bankClass x.srcDie x).1, (bankClass x.srcDie x).2, 0, [], false, false⟩] ∧
      t = { s with inFlight := t.inFlight, banks := t.banks } :) ∧
  (∀ (s : State) (x : Txn), s.rst.por = false → s.rst.inReset = false → s.net.pkts = [] → s.txnOk x = true → x.op = .write → s.hasDie x.srcDie = true →
    x.addr % 64 + x.len ≤ 64 → addrDev x.addr = s.devNum → addrDie x.addr = x.srcDie → x.srcDie < 5 → s.txnHeld x = false →
    addrLocal x.addr < (if x.srcDie = 0 then 0x20000 else 0x80000) → x ∈ s.inFlight →
    ∃ t, exec (.write x) s = .next t ∧ t.inFlight = s.inFlight.erase x ∧
      (t.bank x.srcDie (addrLocal x.addr / 0x8000)).reqs = (s.bank x.srcDie (addrLocal x.addr / 0x8000)).reqs
        ++ [⟨x, (bankClass x.srcDie x).1, (bankClass x.srcDie x).2, 0, [], false, false⟩] ∧
      t = { s with inFlight := t.inFlight, banks := t.banks } :) ∧
  (∀ (s : State) (x : Txn), s.rst.por = false → s.rst.inReset = false → s.net.pkts = [] → s.txnOk x = true → x.op = .narrowWrite → s.hasDie x.srcDie = true →
    x.addr % 64 + x.len ≤ 64 → addrDev x.addr = s.devNum → addrDie x.addr = x.srcDie → x.srcDie < 5 → s.txnHeld x = false →
    addrLocal x.addr < (if x.srcDie = 0 then 0x20000 else 0x80000) → x ∈ s.inFlight →
    ∃ t, exec (.narrowWrite x) s = .next t ∧ t.inFlight = s.inFlight.erase x ∧
      (t.bank x.srcDie (addrLocal x.addr / 0x8000)).reqs = (s.bank x.srcDie (addrLocal x.addr / 0x8000)).reqs
        ++ [⟨x, (bankClass x.srcDie x).1, (bankClass x.srcDie x).2, 0, [], false, false⟩] ∧
      t = { s with inFlight := t.inFlight, banks := t.banks } :) ∧
  (∀ (s : State) (x : Txn), s.rst.por = false → s.rst.inReset = false → s.net.pkts = [] → s.txnOk x = true → x.op = .add → s.hasDie x.srcDie = true →
    x.addr % 64 + x.len ≤ 64 → addrDev x.addr = s.devNum → addrDie x.addr = x.srcDie → x.srcDie < 5 → s.txnHeld x = false →
    addrLocal x.addr < (if x.srcDie = 0 then 0x20000 else 0x80000) → x ∈ s.inFlight →
    ∃ t, exec (.add x) s = .next t ∧ t.inFlight = s.inFlight.erase x ∧
      (t.bank x.srcDie (addrLocal x.addr / 0x8000)).reqs = (s.bank x.srcDie (addrLocal x.addr / 0x8000)).reqs
        ++ [⟨x, (bankClass x.srcDie x).1, (bankClass x.srcDie x).2, 0, [], false, false⟩] ∧
      t = { s with inFlight := t.inFlight, banks := t.banks } :) ∧
  (∀ (s : State) (x : Txn), s.rst.por = false → s.rst.inReset = false → s.net.pkts = [] → s.txnOk x = true → x.op = .swap → s.hasDie x.srcDie = true →
    x.addr % 64 + x.len ≤ 64 → addrDev x.addr = s.devNum → addrDie x.addr = x.srcDie → x.srcDie < 5 → s.txnHeld x = false →
    addrLocal x.addr < (if x.srcDie = 0 then 0x20000 else 0x80000) → x ∈ s.inFlight →
    ∃ t, exec (.swap x) s = .next t ∧ t.inFlight = s.inFlight.erase x ∧
      (t.bank x.srcDie (addrLocal x.addr / 0x8000)).reqs = (s.bank x.srcDie (addrLocal x.addr / 0x8000)).reqs
        ++ [⟨x, (bankClass x.srcDie x).1, (bankClass x.srcDie x).2, 0, [], false, false⟩] ∧
      t = { s with inFlight := t.inFlight, banks := t.banks } :)

/-- A transaction across a 64-word boundary is refused: a request is answered STATUS 2 without data, a write is dropped and
counted (R500, R501, R502, R515, R521). -/
def Obligations.UnperformedTransactionsGetTheirOutcome : Prop :=
  (∀ (s : State) (x : Txn), s.rst.por = false → s.rst.inReset = false → s.net.pkts = [] → s.txnOk x = true → x.op = .read → x ∈ s.inFlight →
    64 < x.addr % 64 + x.len → x.srcDie < 5 →
    ∃ t, exec (.read x) s = .next t ∧ Responded s t ⟨false, x.srcDie, x.master, x.rtag, 2, List.replicate x.len noWord⟩ ∧
      t.inFlight = s.inFlight.erase x ∧ t.mem = s.mem ∧
      (s.rf F.TRN_UNMAPPED_CNT_COUNT x.srcDie < 65535 →
        t.rf F.TRN_UNMAPPED_CNT_COUNT x.srcDie = s.rf F.TRN_UNMAPPED_CNT_COUNT x.srcDie + 1) ∧
      (s.rf F.TRN_ERR_LAST_VALID x.srcDie = 0 → t.rf F.TRN_ERR_LAST_VALID x.srcDie = 1 ∧ t.rf F.TRN_ERR_LAST_CAUSE x.srcDie = 3 ∧
        t.rw .TRN_ERR_ADDR x.srcDie = x.addr) ∧
      (∃ e, t.faultLine = s.faultLine ++ [e] ∧ e.src = .transportUnmapped ∧ e.die = x.srcDie ∧ e.req = some (x.srcDie, x.master)) :) ∧
  (∀ (s : State) (x : Txn), s.rst.por = false → s.rst.inReset = false → s.net.pkts = [] → s.txnOk x = true → x.op = .write →
    64 < x.addr % 64 + x.len → x.srcDie < 5 →
    ∃ t, exec (.write x) s = .next t ∧ t.mem = s.mem ∧ t.resps = s.resps ∧
      (s.rf F.TRN_DROP_CNT_COUNT x.srcDie < 65535 → t.rf F.TRN_DROP_CNT_COUNT x.srcDie = s.rf F.TRN_DROP_CNT_COUNT x.srcDie + 1) ∧
      (x.vc = .streams → t.credits = s.credits ++ [(x, x.len)]) ∧
      (∃ e, t.faultLine = s.faultLine ++ [e] ∧ e.src = .transportWriteDropped ∧ e.die = x.srcDie) :)

/-- A response is matched by its tag, frees the tag and reaches its master; a request without response is answered aborted and
its tag quarantined (R481, R498, R509, R513). -/
def Obligations.ResponsesFreeTheirTags : Prop :=
  (∀ (s : State) (r : Resp) (o : Outst), s.rst.por = false → s.rst.inReset = false → r.atomic = false → r ∈ s.resps → r.srcDie = 0 →
    r.master = 0 → (s.outst.find? fun o => o.matches r.srcDie r.master r.rtag) = some o → o.quarantined = false → o.discard = false →
    exec (.readResp r) s = .next { s with resps := s.resps.erase r, outst := s.outst.erase o, mailbox := s.mailbox ++ [r] } :) ∧
  (∀ (s : State) (r : Resp) (o : Outst), s.rst.por = false → s.rst.inReset = false → r.atomic = true → r ∈ s.resps → r.srcDie = 0 →
    r.master = 0 → (s.outst.find? fun o => o.matches r.srcDie r.master r.rtag) = some o → o.quarantined = false → o.discard = false →
    exec (.atomicResp r) s = .next { s with resps := s.resps.erase r, outst := s.outst.erase o, mailbox := s.mailbox ++ [r] } :) ∧
  (∀ (s : State) (r : Resp) (o : Outst), s.rst.por = false → s.rst.inReset = false → r.atomic = false → r ∈ s.resps → r.srcDie < 5 →
    (s.outst.find? fun o => o.matches r.srcDie r.master r.rtag) = some o → o.quarantined = true →
    ∃ t, exec (.readResp r) s = .next t ∧ t.outst = s.outst.erase o ∧ t.mailbox = s.mailbox ∧
      (s.rf F.TRN_LATE_CNT_COUNT r.srcDie < 65535 → t.rf F.TRN_LATE_CNT_COUNT r.srcDie = s.rf F.TRN_LATE_CNT_COUNT r.srcDie + 1) :) ∧
  (∀ (s : State) (tag : Nat) (o : Outst), s.rst.por = false → s.rst.inReset = false → s.rb F.TRN_CTL_TO_EN 0 = true →
    (s.outst.find? fun o => o.matches 0 0 tag) = some o → o.quarantined = false → o.discard = false → s.untimed o.txn = false →
    o.txn.op = .read →
    ∃ t, exec (.requestTimeout 0 0 tag) s = .next t ∧ t.mailbox = s.mailbox ++ [⟨false, 0, 0, tag, 3, List.replicate o.txn.len noWord⟩] ∧
      { o with quarantined := true } ∈ t.outst ∧
      (s.rf F.TRN_TIMEOUT_CNT_COUNT 0 < 65535 → t.rf F.TRN_TIMEOUT_CNT_COUNT 0 = s.rf F.TRN_TIMEOUT_CNT_COUNT 0 + 1) ∧
      (∃ e, t.faultLine = s.faultLine ++ [e] ∧ e.src = .transportTimeout) :)

/-- A core's arithmetic instructions write RD and the flags as Table 15-3 says, and change nothing else but PC and CYCLE
(R844, R845, R846, R854, R855). -/
def Obligations.CoresComputeAsTheTableSays : Prop :=
  (∀ (s : State) (d c w : Nat), s.seqAt d c w .nop = true →
    ∃ t, exec (.seqNop d c) s = .next t ∧ SeqWent s t d c (s.seqPc d c + 1) 1 ∧
      t = { s with regs := t.regs, cores := t.cores } ∧ RegsKept s t (seqRegs d c) :) ∧
  (∀ (s : State) (d c w : Nat), s.seqAt d c w .add = true →
    ∃ t, exec (.seqAdd d c) s = .next t ∧ SeqAlu s t d c (fRd w) (s.g d c (fRa w) + s.g d c (fRb w))
      (addFlags (s.g d c (fRa w)) (s.g d c (fRb w))) 1 :) ∧
  (∀ (s : State) (d c w : Nat), s.seqAt d c w .sub = true →
    ∃ t, exec (.seqSub d c) s = .next t ∧ SeqAlu s t d c (fRd w) (s.g d c (fRa w) - s.g d c (fRb w))
      (subFlags (s.g d c (fRa w)) (s.g d c (fRb w))) 1 :) ∧
  (∀ (s : State) (d c w : Nat), s.seqAt d c w .and = true →
    ∃ t, exec (.seqAnd d c) s = .next t ∧ SeqAlu s t d c (fRd w) (s.g d c (fRa w) &&& s.g d c (fRb w))
      (logicFlags (s.g d c (fRa w) &&& s.g d c (fRb w))) 1 :) ∧
  (∀ (s : State) (d c w : Nat), s.seqAt d c w .or = true →
    ∃ t, exec (.seqOr d c) s = .next t ∧ SeqAlu s t d c (fRd w) (s.g d c (fRa w) ||| s.g d c (fRb w))
      (logicFlags (s.g d c (fRa w) ||| s.g d c (fRb w))) 1 :) ∧
  (∀ (s : State) (d c w : Nat), s.seqAt d c w .xor = true →
    ∃ t, exec (.seqXor d c) s = .next t ∧ SeqAlu s t d c (fRd w) (s.g d c (fRa w) ^^^ s.g d c (fRb w))
      (logicFlags (s.g d c (fRa w) ^^^ s.g d c (fRb w))) 1 :) ∧
  (∀ (s : State) (d c w : Nat), s.seqAt d c w .shl = true →
    ∃ t, exec (.seqShl d c) s = .next t ∧ SeqAlu s t d c (fRd w) (shl (s.g d c (fRa w)) ((s.g d c (fRb w)).toNat % 64))
      (znFlags (shl (s.g d c (fRa w)) ((s.g d c (fRb w)).toNat % 64)) (flagsOf (s.sr d c 0))) 1 :) ∧
  (∀ (s : State) (d c w : Nat), s.seqAt d c w .shr = true →
    ∃ t, exec (.seqShr d c) s = .next t ∧ SeqAlu s t d c (fRd w) (shr (s.g d c (fRa w)) ((s.g d c (fRb w)).toNat % 64))
      (znFlags (shr (s.g d c (fRa w)) ((s.g d c (fRb w)).toNat % 64)) (flagsOf (s.sr d c 0))) 1 :) ∧
  (∀ (s : State) (d c w : Nat), s.seqAt d c w .sar = true →
    ∃ t, exec (.seqSar d c) s = .next t ∧ SeqAlu s t d c (fRd w) (sar (s.g d c (fRa w)) ((s.g d c (fRb w)).toNat % 64))
      (znFlags (sar (s.g d c (fRa w)) ((s.g d c (fRb w)).toNat % 64)) (flagsOf (s.sr d c 0))) 1 :) ∧
  (∀ (s : State) (d c w : Nat), s.seqAt d c w .mulu = true →
    ∃ t, exec (.seqMulu d c) s = .next t ∧ SeqAlu s t d c (fRd w) (mulu (s.g d c (fRa w)) (s.g d c (fRb w)))
      (znFlags (mulu (s.g d c (fRa w)) (s.g d c (fRb w))) (flagsOf (s.sr d c 0))) 2 :) ∧
  (∀ (s : State) (d c w : Nat), s.seqAt d c w .muls = true →
    ∃ t, exec (.seqMuls d c) s = .next t ∧ SeqAlu s t d c (fRd w) (muls (s.g d c (fRa w)) (s.g d c (fRb w)))
      (znFlags (muls (s.g d c (fRa w)) (s.g d c (fRb w))) (flagsOf (s.sr d c 0))) 2 :) ∧
  (∀ (s : State) (d c w : Nat), s.seqAt d c w .cmp = true →
    ∃ t, exec (.seqCmp d c) s = .next t ∧ SeqCmp s t d c (subFlags (s.g d c (fRa w)) (s.g d c (fRb w))) :) ∧
  (∀ (s : State) (d c w : Nat), s.seqAt d c w .addi = true →
    ∃ t, exec (.seqAddi d c) s = .next t ∧ SeqAlu s t d c (fRd w) (s.g d c (fRa w) + sext 10 (fImm10 w))
      (addFlags (s.g d c (fRa w)) (sext 10 (fImm10 w))) 1 :) ∧
  (∀ (s : State) (d c w : Nat), s.seqAt d c w .cmpi = true →
    ∃ t, exec (.seqCmpi d c) s = .next t ∧ SeqCmp s t d c (subFlags (s.g d c (fRa w)) (sext 10 (fImm10 w))) :) ∧
  (∀ (s : State) (d c w : Nat), s.seqAt d c w .andi = true →
    ∃ t, exec (.seqAndi d c) s = .next t ∧ SeqAlu s t d c (fRd w) (s.g d c (fRa w) &&& BitVec.ofNat 48 (fImm10 w))
      (logicFlags (s.g d c (fRa w) &&& BitVec.ofNat 48 (fImm10 w))) 1 :) ∧
  (∀ (s : State) (d c w : Nat), s.seqAt d c w .ori = true →
    ∃ t, exec (.seqOri d c) s = .next t ∧ SeqAlu s t d c (fRd w) (s.g d c (fRa w) ||| BitVec.ofNat 48 (fImm10 w))
      (logicFlags (s.g d c (fRa w) ||| BitVec.ofNat 48 (fImm10 w))) 1 :) ∧
  (∀ (s : State) (d c w : Nat), s.seqAt d c w .xori = true →
    ∃ t, exec (.seqXori d c) s = .next t ∧ SeqAlu s t d c (fRd w) (s.g d c (fRa w) ^^^ BitVec.ofNat 48 (fImm10 w))
      (logicFlags (s.g d c (fRa w) ^^^ BitVec.ofNat 48 (fImm10 w))) 1 :) ∧
  (∀ (s : State) (d c w : Nat), s.seqAt d c w .shli = true →
    ∃ t, exec (.seqShli d c) s = .next t ∧ SeqAlu s t d c (fRd w) (shl (s.g d c (fRa w)) (w % 64))
      (znFlags (shl (s.g d c (fRa w)) (w % 64)) (flagsOf (s.sr d c 0))) 1 :) ∧
  (∀ (s : State) (d c w : Nat), s.seqAt d c w .shri = true →
    ∃ t, exec (.seqShri d c) s = .next t ∧ SeqAlu s t d c (fRd w) (shr (s.g d c (fRa w)) (w % 64))
      (znFlags (shr (s.g d c (fRa w)) (w % 64)) (flagsOf (s.sr d c 0))) 1 :) ∧
  (∀ (s : State) (d c w : Nat), s.seqAt d c w .sari = true →
    ∃ t, exec (.seqSari d c) s = .next t ∧ SeqAlu s t d c (fRd w) (sar (s.g d c (fRa w)) (w % 64))
      (znFlags (sar (s.g d c (fRa w)) (w % 64)) (flagsOf (s.sr d c 0))) 1 :) ∧
  (∀ (s : State) (d c w : Nat), s.seqAt d c w .ldi = true →
    ∃ t, exec (.seqLdi d c) s = .next t ∧ t.g d c (fRd w) = sext 14 (f14 w) ∧
      SeqWent s t d c (s.seqPc d c + 1) 1 ∧ t = { s with regs := t.regs, cores := t.cores } ∧
      RegsKept s t (⟨.SEQ_G, d, c, fRd w⟩ :: seqRegs d c) :) ∧
  (∀ (s : State) (d c w : Nat), s.seqAt d c w .lih = true →
    ∃ t, exec (.seqLih d c) s = .next t ∧ t.g d c (fRd w) = (s.g d c (fRd w) <<< 14) ||| BitVec.ofNat 48 (f14 w) ∧
      SeqWent s t d c (s.seqPc d c + 1) 1 ∧ t = { s with regs := t.regs, cores := t.cores } ∧
      RegsKept s t (⟨.SEQ_G, d, c, fRd w⟩ :: seqRegs d c) :)

/-- A core's loads and stores, global accesses, mailbox and special-register instructions (R481, R847, R849, R850, R851, R855,
R857, R882). -/
def Obligations.CoresLoadAndStore : Prop :=
  (∀ (s : State) (d c w : Nat) (v : TWord), s.seqAt d c w .ldl = true →
    decodeCell (s.cell d (dmemAddr c ((s.g d c (fRa w) + sext 10 (fImm10 w)).toNat % 4096)))
      (dmemAddr c ((s.g d c (fRa w) + sext 10 (fImm10 w)).toNat % 4096)) = .good v →
    s.bpMatch d c 1 ((s.g d c (fRa w) + sext 10 (fImm10 w)).toNat % 4096) = none →
    ∃ t, exec (.seqLdl d c) s = .next t ∧ t.g d c (fRd w) = v.data ∧ tOf (t.sr d c 0) = v.tag.toNat ∧
      flagsOf (t.sr d c 0) = flagsOf (s.sr d c 0) ∧ SeqWent s t d c (s.seqPc d c + 1) 2 ∧ t = { s with regs := t.regs, cores := t.cores } ∧
      RegsKept s t (⟨.SEQ_G, d, c, fRd w⟩ :: ⟨.SEQ_SR, d, c, 0⟩ :: seqRegs d c) :) ∧
  (∀ (s : State) (d c w a : Nat), s.seqAt d c w .stl = true → a = (s.g d c (fRa w) + sext 8 (fOff8 w)).toNat % 4096 →
    s.bpMatch d c 2 a = none → s.flipArmed d (arrOf d (dmemAddr c a)) = false →
    ∃ t, exec (.seqStl d c) s = .next t ∧ (t.cell d (dmemAddr c a)).word = ⟨s.g d c (fRd w), BitVec.ofNat 2 (fTag w)⟩ ∧
      (∀ d' pa, memKey d' pa ≠ memKey d (dmemAddr c a) → t.cell d' pa = s.cell d' pa) ∧ SeqWent s t d c (s.seqPc d c + 1) 1 ∧
      RegsKept s t (seqRegs d c) :) ∧
  (∀ (s : State) (d c w a : Nat) (v : TWord), s.seqAt d c w .stln = true → a = (s.g d c (fRa w)).toNat % 4096 →
    decodeCell (s.cell d (dmemAddr c a)) (dmemAddr c a) = .good v → s.bpMatch d c 2 a = none →
    s.flipArmed d (arrOf d (dmemAddr c a)) = false →
    ∃ t, exec (.seqStln d c) s = .next t ∧
      (t.cell d (dmemAddr c a)).word = mergeLane v (stlnWidth w) (stlnLane w) ⟨s.g d c (fRb w), tagData⟩ ∧
      (∀ d' pa, memKey d' pa ≠ memKey d (dmemAddr c a) → t.cell d' pa = s.cell d' pa) ∧ SeqWent s t d c (s.seqPc d c + 1) 2 ∧
      RegsKept s t (seqRegs d c) :) ∧
  (∀ (s : State) (d c w k : Nat), s.seqAt d c w .ldg = true → s.freeTag d (16 + c) = some k →
    ∃ t, exec (.seqLdg d c) s = .next t ∧ Injected s t ⟨.read, d, 16 + c, k, (s.g d c (fRa w) + sext 10 (fImm10 w)).toNat, 1, 48, 0,
        [], .requests, 0⟩ ∧ t.tagHeld d (16 + c) k = true ∧ t.seqState d c = 3 ∧
      (t.core d c).wait = .resp k (fRd w) ∧ t.seqPc d c = s.seqPc d c ∧ t.mem = s.mem ∧ RegsKept s t [⟨.SEQ_STAT, d, c, 0⟩] :) ∧
  (∀ (s : State) (d c w k : Nat), s.seqAt d c w .aadd = true → s.freeTag d (16 + c) = some k →
    ∃ t, exec (.seqAadd d c) s = .next t ∧ Injected s t ⟨.add, d, 16 + c, k, (s.g d c (fRa w)).toNat, 1, 48, 0,
        [⟨s.g d c (fRb w), tagData⟩], .requests, 0⟩ ∧ t.tagHeld d (16 + c) k = true ∧ t.seqState d c = 3 ∧
      (t.core d c).wait = .resp k (fRd w) ∧ t.seqPc d c = s.seqPc d c ∧ t.mem = s.mem ∧ RegsKept s t [⟨.SEQ_STAT, d, c, 0⟩] :) ∧
  (∀ (s : State) (d c w k : Nat), s.seqAt d c w .aswp = true → s.freeTag d (16 + c) = some k →
    ∃ t, exec (.seqAswp d c) s = .next t ∧ Injected s t ⟨.swap, d, 16 + c, k, (s.g d c (fRa w)).toNat, 1, 48, 0,
        [⟨s.g d c (fRb w), tagData⟩], .requests, 0⟩ ∧ t.tagHeld d (16 + c) k = true ∧ t.seqState d c = 3 ∧
      (t.core d c).wait = .resp k (fRd w) ∧ t.seqPc d c = s.seqPc d c ∧ t.mem = s.mem ∧ RegsKept s t [⟨.SEQ_STAT, d, c, 0⟩] :) ∧
  (∀ (s : State) (d c w : Nat), s.seqAt d c w .stg = true → (s.core d c).sq.length < 4 →
    s.bpMatch d c 3 (s.g d c (fRa w) + sext 8 (fOff8 w)).toNat = none →
    ∃ t, exec (.seqStg d c) s = .next t ∧ (t.core d c).sq = (s.core d c).sq
        ++ [((s.g d c (fRa w) + sext 8 (fOff8 w)).toNat, ⟨s.g d c (fRd w), BitVec.ofNat 2 (fTag w)⟩)] ∧
      SeqWent s t d c (s.seqPc d c + 1) 1 ∧ t = { s with regs := t.regs, cores := t.cores } ∧ RegsKept s t (seqRegs d c) :) ∧
  (∀ (s : State) (d c a : Nat) (w : TWord) (q : List (Nat × TWord)), (s.core d c).sq = (a, w) :: q → (s.core d c).wait = .idle →
    (s.core d c).resetReq = none →
    ∃ t, exec (.storeQueueIssue d c) s = .next t ∧ Injected s t ⟨.write, d, 16 + c, 0, a, 1, 48, 0, [w], .posted, 0⟩ ∧
      (t.core d c).sq = q ∧ t = { s with inFlight := t.inFlight, net := t.net, cores := t.cores } :) ∧
  (∀ (s : State) (d c w : Nat), s.seqAt d c w .sync = true → (s.core d c).sq = [] →
    ∃ t, exec (.seqSync d c) s = .next t ∧ SeqWent s t d c (s.seqPc d c + 1) 1 ∧
      t = { s with regs := t.regs, cores := t.cores } ∧ RegsKept s t (seqRegs d c) :) ∧
  (∀ (s : State) (d c w : Nat), s.seqAt d c w .mbr = true →
    ∃ t, exec (.seqMbr d c) s = .next t ∧ t.g d c (fRd w) = s.reg ⟨.SEQ_MBOX, d, c, w % 64⟩ ∧ SeqWent s t d c (s.seqPc d c + 1) 1 ∧
      t = { s with regs := t.regs, cores := t.cores } ∧ RegsKept s t (⟨.SEQ_G, d, c, fRd w⟩ :: seqRegs d c) :) ∧
  (∀ (s : State) (d c w : Nat), s.seqAt d c w .mbw = true →
    ∃ t, exec (.seqMbw d c) s = .next t ∧ t.reg ⟨.SEQ_MBOX, d, c, w % 64⟩ = s.g d c (fRd w) ∧ SeqWent s t d c (s.seqPc d c + 1) 1 ∧
      t = { s with regs := t.regs, cores := t.cores } ∧ RegsKept s t (⟨.SEQ_MBOX, d, c, w % 64⟩ :: seqRegs d c) :) ∧
  (∀ (s : State) (d c w : Nat), s.seqAt d c w .rsr = true →
    ∃ t, exec (.seqRsr d c) s = .next t ∧ t.g d c (fRd w) = BitVec.ofNat 48 (s.rsr d c (w % 16)) ∧
      SeqWent s t d c (s.seqPc d c + 1) 1 ∧ t = { s with regs := t.regs, cores := t.cores } ∧
      RegsKept s t (⟨.SEQ_G, d, c, fRd w⟩ :: seqRegs d c) :) ∧
  (∀ (s : State) (d c w : Nat), s.seqAt d c w .wsr = true → w % 16 = 1 →
    ∃ t, exec (.seqWsr d c) s = .next t ∧ t.sr d c 1 = (s.g d c (fRd w)).toNat % 8192 ∧ SeqWent s t d c (s.seqPc d c + 1) 1 ∧
      t = { s with regs := t.regs, cores := t.cores } ∧ RegsKept s t (⟨.SEQ_SR, d, c, 1⟩ :: seqRegs d c) :) ∧
  (∀ (s : State) (d c w : Nat), s.seqAt d c w .wsr = true → w % 16 = 3 ∨ w % 16 = 4 ∨ w % 16 = 5 ∨ w % 16 = 10 →
    ∃ t, exec (.seqWsr d c) s = .next t ∧ SeqWent s t d c (s.seqPc d c + 1) 1 ∧
      t = { s with regs := t.regs, cores := t.cores } ∧ RegsKept s t (seqRegs d c) :)

/-- A core's branches, calls, returns, WAIT and halts (R845, R855, R856, R863). -/
def Obligations.CoresBranchAndHalt : Prop :=
  (∀ (s : State) (d c w : Nat), s.seqAt d c w .b = true →
    ∃ t, exec (.seqB d c) s = .next t ∧
      SeqWent s t d c (if condHolds (fRd w) (flagsOf (s.sr d c 0)) (tOf (s.sr d c 0)) then s.seqPc d c + (sext 14 (f14 w)).toNat else s.seqPc d c + 1)
        (if condHolds (fRd w) (flagsOf (s.sr d c 0)) (tOf (s.sr d c 0)) then 2 else 1) ∧
      t = { s with regs := t.regs, cores := t.cores } ∧ RegsKept s t (seqRegs d c) :) ∧
  (∀ (s : State) (d c w : Nat), s.seqAt d c w .call = true →
    ∃ t, exec (.seqCall d c) s = .next t ∧ (t.g d c 15).toNat = (s.seqPc d c + 1) % 8192 ∧ SeqWent s t d c (w % 8192) 2 ∧
      t = { s with regs := t.regs, cores := t.cores } ∧ RegsKept s t (⟨.SEQ_G, d, c, 15⟩ :: seqRegs d c) :) ∧
  (∀ (s : State) (d c w : Nat), s.seqAt d c w .jr = true →
    ∃ t, exec (.seqJr d c) s = .next t ∧ SeqWent s t d c (s.g d c (fRa w)).toNat 2 ∧
      t = { s with regs := t.regs, cores := t.cores } ∧ RegsKept s t (seqRegs d c) :) ∧
  (∀ (s : State) (d c w : Nat), s.seqAt d c w .ret = true →
    ∃ t, exec (.seqRet d c) s = .next t ∧ SeqWent s t d c (s.g d c 15).toNat 2 ∧
      t = { s with regs := t.regs, cores := t.cores } ∧ RegsKept s t (seqRegs d c) :) ∧
  (∀ (s : State) (d c w : Nat), s.seqAt d c w .reti = true →
    ∃ t, exec (.seqReti d c) s = .next t ∧ t.sr d c 0 = s.sr d c 2 ∧ SeqWent s t d c (s.sr d c 1) 3 ∧
      t = { s with regs := t.regs, cores := t.cores } ∧ RegsKept s t (⟨.SEQ_SR, d, c, 0⟩ :: seqRegs d c) :) ∧
  (∀ (s : State) (d c w : Nat), s.seqAt d c w .wait = true → s.pendingVec d c = none →
    ∃ t, exec (.seqWait d c) s = .next t ∧ t.seqState d c = 2 ∧ t.seqPc d c = (s.seqPc d c + 1) % 8192 ∧
      t = { s with regs := t.regs, cores := t.cores } ∧ RegsKept s t (seqRegs d c) :) ∧
  (∀ (s : State) (d c w : Nat), s.seqAt d c w .halt = true →
    ∃ t, exec (.seqHalt d c) s = .next t ∧ t.seqState d c = 0 ∧ t.rf F.SEQ_STAT_HALT_CAUSE d c = 5 ∧ t.rf F.SEQ_CTL_RUN d c = 0 ∧
      t.seqPc d c = (s.seqPc d c + 1) % 8192 ∧ t = { s with regs := t.regs, cores := t.cores } ∧
      RegsKept s t (⟨.SEQ_CTL, d, c, 0⟩ :: seqRegs d c) :) ∧
  (∀ (s : State) (d c w : Nat), s.seqAt d c w .brk = true →
    ∃ t, exec (.seqBrk d c) s = .next t ∧ t.seqState d c = 0 ∧ t.rf F.SEQ_STAT_HALT_CAUSE d c = 4 ∧ t.rf F.SEQ_CTL_RUN d c = 0 ∧
      t.seqPc d c = (s.seqPc d c + 1) % 8192 ∧ t = { s with regs := t.regs, cores := t.cores } ∧
      RegsKept s t (⟨.SEQ_CTL, d, c, 0⟩ :: seqRegs d c) :)

/-- Entry of an interrupt or an exception saves PC and STATUS, sets H and CAUSE and goes to 8 x v; timers and doorbells make
vectors pending (R846, R854, R858, R859, R860, R861, R883, R888). -/
def Obligations.CoresTakeInterruptsAndExceptions : Prop :=
  (∀ (s : State) (d c v : Nat), s.seqState d c = 1 → (s.core d c).resetReq = none → s.gated = false → (s.core d c).bp = none → (s.core d c).haltReq = false → (s.core d c).haltFault = false →
    (s.core d c).stepping = false → bit (s.sr d c 0) 47 = true → bit (s.sr d c 0) 46 = false → s.pendingVec d c = some v →
    ∃ t, exec (.interruptEntry d c) s = .next t ∧ t.sr d c 1 = s.seqPc d c ∧ t.sr d c 2 = s.sr d c 0 ∧ t.sr d c 0 = s.sr d c 0 + 2 ^ 46 ∧
      t.sr d c 3 = v ∧ bit (t.sr d c 9) v = false ∧ SeqWent s t d c (8 * v) 3 ∧ t = { s with regs := t.regs, cores := t.cores } ∧
      RegsKept s t ([0, 1, 2, 3, 9].map (fun k => (⟨.SEQ_SR, d, c, k⟩ : Reg)) ++ seqRegs d c) :) ∧
  (∀ (s : State) (d c : Nat) (w : TWord), s.seqReady d c = true → s.fetchBp d c = none → (s.core d c).bp = none →
    (s.core d c).haltReq = false → (s.core d c).haltFault = false → (s.core d c).stepping = false → bit (s.sr d c 0) 46 = false →
    decodeCell (s.cell d (imemAddr c (s.seqPc d c))) (imemAddr c (s.seqPc d c)) = .good w → w.tag = tagData →
    (w.data.toNat / 2 ^ 24 ≠ 0 ∨ seqDecode w.data.toNat = none) →
    ∃ t, exec (.seqIllegalInstruction d c) s = .next t ∧ t.sr d c 1 = s.seqPc d c ∧ t.sr d c 2 = s.sr d c 0 ∧
      t.sr d c 0 = s.sr d c 0 + 2 ^ 46 ∧ t.sr d c 3 = 0 ∧ SeqWent s t d c 0 3 ∧
      t.faultLine = s.faultLine ++ [faultEv .seqIllegalInstruction d c 0] ∧
      t = { s with regs := t.regs, cores := t.cores, faultLine := t.faultLine } ∧
      RegsKept s t ([0, 1, 2, 3].map (fun k => (⟨.SEQ_SR, d, c, k⟩ : Reg)) ++ seqRegs d c) :) ∧
  (∀ (s : State) (d c : Nat) (w : TWord), s.seqReady d c = true → s.fetchBp d c = none → (s.core d c).bp = none →
    (s.core d c).haltReq = false → (s.core d c).haltFault = false → (s.core d c).stepping = false → bit (s.sr d c 0) 46 = false →
    decodeCell (s.cell d (imemAddr c (s.seqPc d c))) (imemAddr c (s.seqPc d c)) = .good w → w.tag ≠ tagData →
    ∃ t, exec (.seqFetchInvalid d c) s = .next t ∧ t.sr d c 1 = s.seqPc d c ∧ t.sr d c 2 = s.sr d c 0 ∧
      t.sr d c 0 = s.sr d c 0 + 2 ^ 46 ∧ t.sr d c 3 = 1 ∧ SeqWent s t d c 8 3 ∧
      t.faultLine = s.faultLine ++ [faultEv .seqFetchInvalid d c 0] ∧
      t = { s with regs := t.regs, cores := t.cores, faultLine := t.faultLine } ∧
      RegsKept s t ([0, 1, 2, 3].map (fun k => (⟨.SEQ_SR, d, c, k⟩ : Reg)) ++ seqRegs d c) :) ∧
  (∀ (s : State) (d c x : Nat), s.sr d c 6 ≠ 0 → s.gated = false → s.seqState d c = 1 → x = (s.core d c).timerAt →
    s.sr d c 6 ≤ (s.rsr d c 4 + 2 ^ 48 - x) % 2 ^ 48 →
    ∃ t, exec (.seqTimer d c) s = .next t ∧ bit (t.sr d c 9) 2 = true ∧ (t.core d c).timerAt = (x + s.sr d c 6) % 2 ^ 48 ∧
      t = { s with regs := t.regs, cores := t.cores } ∧ RegsKept s t [⟨.SEQ_SR, d, c, 9⟩] :) ∧
  (∀ (s : State) (d c : Nat), (s.core d c).armed = true → s.gated = false → (s.now + 2 ^ 48 - s.sr d c 7) % 2 ^ 48 < 2 ^ 47 → s.seqState d c = 1 →
    ∃ t, exec (.seqTcmp d c) s = .next t ∧ bit (t.sr d c 9) 3 = true ∧ (t.core d c).armed = false ∧
      t = { s with regs := t.regs, cores := t.cores } ∧ RegsKept s t [⟨.SEQ_SR, d, c, 9⟩] :) ∧
  (∀ (s : State) (d c v : Nat) (w : TWord), 4 ≤ v → v < 32 → w.tag.toNat < 2 → bit (s.sr d c 9) v = false → s.seqState d c = 1 →
    ∃ t, exec (.seqDoorbellWrite d c v w) s = .next t ∧ t.reg ⟨.SEQ_DOORBELL, d, c, v⟩ = w.data ∧ bit (t.sr d c 9) v = true ∧
      OnlyRegs s t [⟨.SEQ_DOORBELL, d, c, v⟩, ⟨.SEQ_SR, d, c, 9⟩] :)

/-- While H = 1 no interrupt is taken, and an exception halts the core with HALT_CAUSE 6 (R862). -/
def Obligations.DoubleFaultsHaltTheCore : Prop :=
  (∀ (s : State) (d c : Nat), bit (s.sr d c 0) 46 = true → exec (.interruptEntry d c) s = .next s :) ∧
  (∀ (s : State) (d c : Nat) (w : TWord), s.seqReady d c = true → s.fetchBp d c = none → bit (s.sr d c 0) 46 = true →
    decodeCell (s.cell d (imemAddr c (s.seqPc d c))) (imemAddr c (s.seqPc d c)) = .good w → w.tag = tagData →
    (w.data.toNat / 2 ^ 24 ≠ 0 ∨ seqDecode w.data.toNat = none) →
    ∃ t, exec (.seqIllegalInstruction d c) s = .next t ∧ t.seqState d c = 0 ∧ t.rf F.SEQ_STAT_HALT_CAUSE d c = 6 ∧
      t.faultLine = s.faultLine ++ [faultEv .seqIllegalInstruction d c 0, faultEv .seqDoubleFault d c 0] ∧ t.seqPc d c = s.seqPc d c ∧
      t = { s with regs := t.regs, cores := t.cores, faultLine := t.faultLine } ∧
      RegsKept s t [⟨.SEQ_STAT, d, c, 0⟩, ⟨.SEQ_CTL, d, c, 0⟩] :) ∧
  (∀ (s : State) (d c : Nat) (w : TWord), s.seqReady d c = true → s.fetchBp d c = none → bit (s.sr d c 0) 46 = true →
    decodeCell (s.cell d (imemAddr c (s.seqPc d c))) (imemAddr c (s.seqPc d c)) = .good w → w.tag ≠ tagData →
    ∃ t, exec (.seqFetchInvalid d c) s = .next t ∧ t.seqState d c = 0 ∧ t.rf F.SEQ_STAT_HALT_CAUSE d c = 6 ∧
      t.faultLine = s.faultLine ++ [faultEv .seqFetchInvalid d c 0, faultEv .seqDoubleFault d c 0] ∧ t.seqPc d c = s.seqPc d c ∧
      t = { s with regs := t.regs, cores := t.cores, faultLine := t.faultLine } ∧
      RegsKept s t [⟨.SEQ_STAT, d, c, 0⟩, ⟨.SEQ_CTL, d, c, 0⟩] :)

/-- Writes of SEQ_CTL halt, resume, step and reset a core, and SEQ_MEM_DATA reads and writes the memories of a halted core
(R864, R865, R868, R884, R891, R893). -/
def Obligations.CoresAreHaltedSteppedAndReset : Prop :=
  (∀ (s : State) (d c : Nat) (w : TWord), w.tag.toNat < 2 → bit w.data.toNat 47 = false → bit w.data.toNat 45 = false →
    s.seqState d c = 1 → (s.core d c).resetReq = none → (s.core d c).stepping = false → s.fetchBp d c = none →
    ∃ t, exec (.seqHaltRequest d c w false) s = .next t ∧ t.seqState d c = 0 ∧ t.rf F.SEQ_STAT_HALT_CAUSE d c = 1 ∧
      t.rf F.SEQ_CTL_RUN d c = 0 ∧ t.seqPc d c = s.seqPc d c ∧ t = { s with regs := t.regs, cores := t.cores } ∧
      RegsKept s t [⟨.SEQ_STAT, d, c, 0⟩, ⟨.SEQ_CTL, d, c, 0⟩] :) ∧
  (∀ (s : State) (d c : Nat) (w : TWord), w.tag.toNat < 2 → bit w.data.toNat 47 = false → bit w.data.toNat 45 = true →
    s.seqState d c = 0 → (s.core d c).resetReq = none →
    ∃ t, exec (.seqResume d c w false) s = .next t ∧ t.seqState d c = 1 ∧ t.rf F.SEQ_CTL_RUN d c = 1 ∧
      t.rf F.SEQ_CTL_FREQ d c = min 120 (w.data.toNat % 256) ∧ t.seqPc d c = s.seqPc d c ∧
      t = { s with regs := t.regs, cores := t.cores } ∧ RegsKept s t [⟨.SEQ_STAT, d, c, 0⟩, ⟨.SEQ_CTL, d, c, 0⟩, ⟨.SEQ_SR, d, c, 4⟩] :) ∧
  (∀ (s : State) (d c iw : Nat) (w : TWord), w.tag.toNat < 2 → bit w.data.toNat 47 = false → bit w.data.toNat 46 = true →
    bit w.data.toNat 45 = false → bit w.data.toNat 44 = false → s.seqState d c = 0 → (s.core d c).resetReq = none →
    (s.core d c).haltReq = false → (s.core d c).haltFault = false → iw < 2 ^ 24 → seqDecode iw = some .add →
    decodeCell (s.cell d (imemAddr c (s.seqPc d c))) (imemAddr c (s.seqPc d c)) = .good (dataWord iw) →
    ∃ t, exec (.seqStep d c w false) s = .next t ∧ t.seqState d c = 0 ∧ t.rf F.SEQ_STAT_HALT_CAUSE d c = 2 ∧
      t.seqPc d c = (s.seqPc d c + 1) % 8192 ∧ t.g d c (fRd iw) = s.g d c (fRa iw) + s.g d c (fRb iw) :) ∧
  (∀ (s : State) (d c : Nat) (w : TWord), w.tag.toNat < 2 → bit w.data.toNat 47 = true → (s.core d c).sq = [] → (s.core d c).wait = .idle →
    c < 4 →
    ∃ t, exec (.seqCtlReset d c w false) s = .next t ∧ t.rf F.SEQ_CTL_RUN d c = bits w.data.toNat 45 45 ∧
      t.seqState d c = bits w.data.toNat 45 45 ∧ t.seqPc d c = 0x100 ∧ (∀ k, k < 16 → t.g d c k = 0) ∧ t.mem = s.mem :) ∧
  (∀ (s : State) (d c : Nat) (v : TWord), s.seqState d c = 0 → decodeCell (s.cell d (s.memAddr d c)) (s.memAddr d c) = .good v →
    ∃ t, exec (.seqMemDataRead d c) s = .next t ∧ t.reg ⟨.SEQ_MEM_DATA, d, c, 0⟩ = v.data ∧ t.rf F.SEQ_MEM_ADDR_TAG d c = v.tag.toNat ∧
      t.rf F.SEQ_MEM_ADDR_UE d c = 0 ∧ t.rf F.SEQ_MEM_ADDR_ADDR d c
        = (s.rf F.SEQ_MEM_ADDR_ADDR d c + 1) % (if s.rb F.SEQ_MEM_ADDR_IMEM d c then 8192 else 4096) ∧
      OnlyRegs s t [⟨.SEQ_MEM_DATA, d, c, 0⟩, ⟨.SEQ_MEM_ADDR, d, c, 0⟩] :) ∧
  (∀ (s : State) (d c : Nat) (w : TWord), w.tag.toNat < 2 → s.seqState d c = 0 → s.flipArmed d (arrOf d (s.memAddr d c)) = false →
    ∃ t, exec (.seqMemDataWrite d c w) s = .next t ∧
      (t.cell d (s.memAddr d c)).word = ⟨w.data, BitVec.ofNat 2 (s.rf F.SEQ_MEM_ADDR_TAG d c)⟩ ∧
      (∀ d' pa, memKey d' pa ≠ memKey d (s.memAddr d c) → t.cell d' pa = s.cell d' pa) ∧
      RegsKept s t [⟨.SEQ_MEM_DATA, d, c, 0⟩, ⟨.SEQ_MEM_ADDR, d, c, 0⟩] :)

/-- A flit with a good CRC and the expected SEQ is accepted, a bad CRC is counted and asked for again, a control flit applies
its ACK and credits (R426, R430, R431, R435, R436, R438, R439). -/
def Obligations.FlitsAreAcceptedInSequence : Prop :=
  (∀ (s : State) (d p e q f : Nat), s.ixPeer d p = some (e, q) → e ≠ d → d < 5 → e < 5 → s.rf F.IXG_STAT_STATE d p = 2 →
    s.rf F.IXG_STAT_STATE e q = 2 → (s.ixp e q).replay = [] → (s.ixp e q).folded = [] → flitSeq f = s.rf F.IXG_STAT_NEXT_SEQ e q → (s.ixp e q).initSeen = true →
    (s.ixp e q).redo = 0 → (s.ixp e q).run < 126 → (s.ixp e q).unacked < 16 → (s.ixp d p).run < 127 → (s.ixp d p).unacked < 15 →
    0 < (s.ixp e q).cred.getD (flitVc f) 0 → flitGood f = true → flitSeq f = (s.ixp d p).rxNext → (s.ixp d p).err = none →
    (s.ixp d p).rxPart = [] → flitFmt f = 1 → flitCount (flitCmd f) = some 1 → opOnVc (bits (flitCmd f) 47 44) (flitVc f) = true →
    ∃ t, exec (.sequencedFlit d p f f (b2n (flitPar f 0) + 2 * b2n (flitPar f 1))) s = .next t ∧
      (t.ixp d p).rxNext = ((s.ixp d p).rxNext + 1) % 256 ∧ (t.ixp d p).unacked = (s.ixp d p).unacked + 1 ∧
      (t.ixp d p).rxPart = [] ∧ (t.ixp e q).replay = [f] ∧ (t.ixp e q).run = (s.ixp e q).run + 1 ∧ t.rf F.IXG_STAT_NEXT_SEQ e q = (s.rf F.IXG_STAT_NEXT_SEQ e q + 1) % 256 ∧
      t.rf F.IXG_STAT_HELD e q = 1 ∧ t = { s with regs := t.regs, ix := t.ix } ∧ RegsKept s t [⟨.IXG_STAT, e, q, 0⟩] :) ∧
  (∀ (s : State) (d p e q f g : Nat), s.ixPeer d p = some (e, q) → e ≠ d → e < 5 → s.rf F.IXG_STAT_STATE d p = 2 →
    s.rf F.IXG_STAT_STATE e q = 2 → 0 < (s.ixp e q).redo → (s.ixp e q).replay[(s.ixp e q).replay.length - (s.ixp e q).redo]? = some f →
    flitGood g = false → (s.ixp d p).err = none → 1 < s.rf F.IXG_CTL_REPLAY_LIMIT d p →
    (s.ixp e q).run < 126 → (s.ixp e q).unacked < 16 → (s.ixp d p).run < 127 → (s.ixp d p).unacked < 16 →
    ∃ t, exec (.sequencedFlit d p f g 0) s = .next t ∧ (t.ixp d p).rxNext = (s.ixp d p).rxNext ∧ (t.ixp d p).err = some g ∧
      (t.ixp d p).naks = 1 ∧ t.ixp e q = { s.ixp e q with redo := (s.ixp e q).redo - 1, run := (s.ixp e q).run + 1 } ∧
      t.faultLine = s.faultLine ++ [faultEv .ixgalCrcError d p (s.rw .IXG_LOC_LAST d p)] ∧
      (s.rf F.IXG_CRC_CNT_COUNT d p < 2 ^ F.IXG_CRC_CNT_COUNT.width - 1 → t.rf F.IXG_CRC_CNT_COUNT d p = s.rf F.IXG_CRC_CNT_COUNT d p + 1) ∧
      t = { s with regs := t.regs, ix := t.ix, faultLine := t.faultLine } ∧ RegsKept s t [⟨.IXG_CRC_CNT, d, p, 0⟩] :) ∧
  (∀ (s : State) (d p f : Nat), (s.ixp d p).err = some f → s.rf F.IXG_STAT_STATE d p = 2 →
    (s.ixp d p).naks + 1 < s.rf F.IXG_CTL_REPLAY_LIMIT d p →
    exec (.nakResend d p) s = .next (s.setIxp d p { s.ixp d p with naks := (s.ixp d p).naks + 1 }) :) ∧
  (∀ (s : State) (d p e q ack a b c r : Nat), s.ixPeer d p = some (e, q) → e ≠ d → s.rf F.IXG_STAT_STATE d p = 2 → (s.ixp d p).initSeen = false →
    (ack + 1 + 256 - (s.ixp d p).ackNext) % 256 ≤ (s.rf F.IXG_STAT_NEXT_SEQ d p + 256 - (s.ixp d p).ackNext) % 256 →
    ∃ t, exec (.controlFlit d p true ack false true [0, 0, 0, 0] [a, b, c, r]) s = .next t ∧ (t.ixp d p).initSeen = true ∧
      (t.ixp e q).run = 0 ∧ (t.ixp e q).inits = min 4 ((s.ixp e q).inits + 1) ∧
      (t.ixp d p).cred = [a, b, c, r] ∧ (t.ixp d p).ceil = [a, b, c, r] ∧ (t.ixp d p).ackNext = (ack + 1) % 256 ∧
      (t.ixp d p).replay = dropAcked (s.ixp d p).replay (s.ixp d p).ackNext ((ack + 1 + 256 - (s.ixp d p).ackNext) % 256) ∧
      t.rf F.IXG_STAT_PEER_ACK d p = ack % 256 ∧ t = { s with regs := t.regs, ix := t.ix } ∧ RegsKept s t [⟨.IXG_STAT, d, p, 0⟩] :) ∧
  (∀ (s : State) (d p e q f : Nat), s.ixPeer d p = some (e, q) → e ≠ d → d < 5 → e < 5 → s.rf F.IXG_STAT_STATE d p = 2 →
    s.rf F.IXG_STAT_STATE e q = 2 → (s.ixp e q).replay = [] → (s.ixp e q).folded = [] → flitSeq f = s.rf F.IXG_STAT_NEXT_SEQ e q →
    (s.ixp e q).initSeen = true → (s.ixp e q).ackNext = s.rf F.IXG_STAT_NEXT_SEQ e q → (s.ixp e q).redo = 0 → (s.ixp e q).run < 126 →
    (s.ixp e q).unacked < 16 → (s.ixp d p).unacked = 15 → 0 < (s.ixp e q).cred.getD (flitVc f) 0 → flitGood f = true →
    flitSeq f = (s.ixp d p).rxNext → (s.ixp d p).err = none → (s.ixp d p).rxPart = [] → flitFmt f = 1 → flitCount (flitCmd f) = some 1 →
    opOnVc (bits (flitCmd f) 47 44) (flitVc f) = true →
    ∃ t, exec (.sequencedFlit d p f f (b2n (flitPar f 0) + 2 * b2n (flitPar f 1))) s = .next t ∧ (t.ixp d p).unacked = 0 ∧
      (t.ixp d p).run = 0 ∧ t.rf F.IXG_STAT_PEER_ACK e q = flitSeq f ∧ (t.ixp e q).ackNext = (flitSeq f + 1) % 256 ∧ (t.ixp e q).replay = [] :) ∧
  (∀ (s : State) (d p ack : Nat) (nak ini : Bool) (cred size : List Nat), (s.ixPeer d p).isSome = true → s.rf F.IXG_STAT_STATE d p = 2 →
    s.rf F.IXG_CRC_CNT_COUNT d p < 2 ^ F.IXG_CRC_CNT_COUNT.width - 1 →
    ∃ t, exec (.controlFlit d p false ack nak ini cred size) s = .next t ∧ t.rf F.IXG_CRC_CNT_COUNT d p = s.rf F.IXG_CRC_CNT_COUNT d p + 1 ∧
      t = { s with regs := t.regs, ix := t.ix } ∧ RegsKept s t [⟨.IXG_CRC_CNT, d, p, 0⟩] :)

/-- A bundle settles its rate, trains, becomes active, retrains keeping its sequence, follows swaps, and retires (R446, R448,
R451, R453, R456, R457, R463, R467, R469). -/
def Obligations.BundlesTrainSwapAndRetire : Prop :=
  (∀ (s : State) (d p e q w crc : Nat), s.ixPeer d p = some (e, q) → s.rf F.IXG_STAT_STATE d p = 1 → (s.ixp d p).capLast = w → 2 ≤ (s.ixp d p).capCount →
    (s.ixp d p).fromReset = true → capsAgree (s.capLocal d p) w = true →
    sbGood 1 w crc = true →
    ∃ t, exec (.sidebandCap d p w crc) s = .next t ∧ (t.ixp d p).capDone = true ∧ t.rw .IXG_CAP_PEER d p = w % 2 ^ 48 ∧
      t.rf F.IXG_STAT_RATE d p = (commonRate (s.capLocal d p) w).getD 0 ∧ t.rf F.IXG_STAT_STATE d p = s.rf F.IXG_STAT_STATE d p ∧
      t = { s with regs := t.regs, ix := t.ix } ∧
      RegsKept s t [⟨.IXG_CAP_LOCAL, d, p, 0⟩, ⟨.IXG_CAP_PEER, d, p, 0⟩, ⟨.IXG_STAT, d, p, 0⟩] :) ∧
  (∀ (s : State) (d p e q ma mb : Nat) (r : TrainResult), s.ixPeer d p = some (e, q) → e ≠ d → s.rf F.IXG_STAT_STATE d p = 1 →
    (s.ixp d p).trained = false → (s.ixp d p).swap = none → (s.ixp d p).capDone = true → (s.ixp e q).capDone = true →
    s.trainedMap d p r.badA = some ma → s.trainedMap e q r.badB = some mb → r.clkA ≠ 2 → r.clkB ≠ 2 →
    ∃ t, exec (.bundleTraining d p r) s = .next t ∧ (t.ixp d p).trained = true ∧ (t.ixp e q).trained = true ∧
      t.rw .IXG_LANE_MAP d p = ma % 2 ^ 48 ∧ t.rw .IXG_LANE_MAP e q = mb % 2 ^ 48 ∧
      t.rf F.IXG_STAT_SPARES_LEFT d p = sparesLeft ma % 8 ∧ t = { s with regs := t.regs, ix := t.ix } :) ∧
  (∀ (s : State) (d p e q crc : Nat), s.ixPeer d p = some (e, q) → e ≠ d → (s.ixp d p).swap = none → (s.ixp d p).trained = true →
    sbGood 3 0 crc = true →
    (s.ixp e q).ready = true → (s.ixp d p).fromReset = false → (s.ixp d p).later = [] → (s.ixp e q).later = [] →
    ∃ t, exec (.sidebandReady d p crc) s = .next t ∧ t.rf F.IXG_STAT_STATE d p = 2 ∧ t.rf F.IXG_STAT_STATE e q = 2 ∧
      t.rf F.IXG_CTL_EN d p = 1 ∧ (t.ixp d p).rxNext = (s.ixp d p).rxNext ∧ (t.ixp d p).replay = (s.ixp d p).replay ∧
      pairOf d e ∉ t.lostPairs ∧ t = { s with regs := t.regs, ix := t.ix, lostPairs := t.lostPairs } :) ∧
  (∀ (s : State) (d p e q body crc : Nat), s.ixPeer d p = some (e, q) → e ≠ d → (s.ixp e q).swap = none → sbGood 2 body crc = true →
    exec (.sidebandMap d p body crc) s = .next (s.setIxp d p { s.ixp d p with txMap := bits body 36 0 }) :) ∧
  (∀ (s : State) (d p e q wire spare crc : Nat), s.ixPeer d p = some (e, q) → sbGood 4 (wire + 128 * spare) crc = true →
    ∃ t, exec (.sidebandSwap d p wire spare crc) s = .next t ∧ (t.ixp e q).swap = some (wire, spare) ∧ t.rf F.IXG_STAT_STATE e q = 3 ∧
      t = { s with regs := t.regs, ix := t.ix } ∧ RegsKept s t [⟨.IXG_STAT, e, q, 0⟩] :) ∧
  (∀ (s : State) (d p e q crc : Nat), s.ixPeer d p = some (e, q) → e ≠ d → (s.ixp d p).swap = none → (s.ixp e q).swap = none →
    s.rf F.IXG_STAT_STATE d p = 2 → sbGood 5 0 crc = true →
    ∃ t, exec (.sidebandRetrain d p crc) s = .next t ∧ t.rf F.IXG_STAT_STATE d p = 3 ∧ t.rf F.IXG_STAT_STATE e q = 3 ∧
      (t.ixp d p).rxNext = (s.ixp d p).rxNext ∧ (t.ixp d p).replay = (s.ixp d p).replay ∧ (t.ixp d p).cred = (s.ixp d p).cred ∧
      t = { s with regs := t.regs, ix := t.ix } ∧ RegsKept s t [⟨.IXG_STAT, d, p, 0⟩, ⟨.IXG_STAT, e, q, 0⟩] :) ∧
  (∀ (s : State) (d p e q k r seq crc : Nat), s.ixPeer d p = some (e, q) → ((s.pairPorts d e).find? fun x => bundleIndex d x == k) = some r →
    r ≠ p → sbGood 6 (seq + 512 * k) crc = true →
    ∃ t, exec (.sidebandRetire d p seq false k crc) s = .next t ∧ (t.ixp d r).replay = [] ∧ t.rf F.IXG_STAT_STATE d r = 4 ∧
      (t.ixp d p).folded = (s.ixp d p).folded ++ (s.ixp d r).folded ++ (s.ixp d r).replay ∧
      t = { s with regs := t.regs, ix := t.ix } ∧ RegsKept s t [⟨.IXG_STAT, d, r, 0⟩, ⟨.IXG_CTL, d, r, 0⟩] :) ∧
  (∀ (s : State) (d p e q : Nat), s.ixPeer d p = some (e, q) → e ≠ d → (s.ixp d p).swap = none → (s.ixp e q).swap = none →
    s.rf F.IXG_STAT_STATE d p = 0 → s.rf F.IXG_CTL_EN d p = 1 →
    ∃ t, exec (.trainingRetry d p) s = .next t ∧ t.rf F.IXG_STAT_STATE d p = 1 ∧ t.rf F.IXG_STAT_STATE e q = 1 ∧
      (t.ixp d p).fromReset = true ∧ t = { s with regs := t.regs, ix := t.ix } ∧
      RegsKept s t [⟨.IXG_STAT, d, p, 0⟩, ⟨.IXG_STAT, e, q, 0⟩] :) ∧
  (∀ (s : State) (d p e q : Nat) (w : TWord), s.ixPeer d p = some (e, q) → e ≠ d → (s.ixp d p).swap = none → (s.ixp e q).swap = none →
    w.tag.toNat < 2 → bit w.data.toNat 17 = false → bit w.data.toNat 16 = true → bit w.data.toNat 0 = true → s.rf F.IXG_STAT_STATE d p = 2 →
    ∃ t, exec (.ixgRetrainWrite d p w false) s = .next t ∧ t.rf F.IXG_STAT_STATE d p = 3 ∧ t.rf F.IXG_STAT_STATE e q = 3 ∧
      t.rf F.IXG_CTL_RETRAIN d p = 1 ∧ t.rf F.IXG_CTL_EN d p = 1 ∧ t = { s with regs := t.regs, ix := t.ix } ∧
      RegsKept s t [⟨.IXG_CTL, d, p, 0⟩, ⟨.IXG_STAT, d, p, 0⟩, ⟨.IXG_STAT, e, q, 0⟩] :) ∧
  (∀ (s : State) (d p e q : Nat) (w : TWord), s.ixPeer d p = some (e, q) → e ≠ d → w.tag.toNat < 2 → bit w.data.toNat 17 = true →
    s.survivors d p ≠ [] → s.rf F.IXG_STAT_STATE d p ≠ 4 →
    ∃ t, exec (.ixgRetireWrite d p w false) s = .next t ∧ t.rf F.IXG_STAT_STATE d p = 4 ∧ t.rf F.IXG_STAT_STATE e q = 4 ∧
      t.rf F.IXG_CTL_EN d p = 0 ∧ t.rf F.IXG_CTL_EN e q = 0 ∧ (t.ixp d p).replay = (s.ixp d p).replay ∧
      t.faultLine = s.faultLine ++ [faultEv .ixgalBundleRetired d p (s.rw .IXG_LOC_LAST d p)] ∧
      t = { s with regs := t.regs, ix := t.ix, faultLine := t.faultLine } ∧
      RegsKept s t [⟨.IXG_CTL, d, p, 0⟩, ⟨.IXG_CTL, e, q, 0⟩, ⟨.IXG_STAT, d, p, 0⟩, ⟨.IXG_STAT, e, q, 0⟩] :)

/-- A DRAM channel performs a transaction when it accepts it, and a read later returns what it held then (R528, R529, R530,
R531, R533, R541, R557, R559, R560). -/
def Obligations.DramPerformsAtAcceptance : Prop :=
  (∀ (s : State) (c n : Nat) (x : Txn), (s.dram c).hub[n]? = some x → orderedAt (s.dram c).hub n x = true → s.dramRoom c x = true →
    isReq x = true →
    ∃ t, exec (.dramAccept c n) s = .next t ∧ (t.dram c).hub = (s.dram c).hub.eraseIdx n ∧
      (t.dram c).acc = (s.dram c).acc ++ [s.dramSnap c x] ∧ (t.dram c).filled = (s.dram c).filled ∧
      t = { s with regs := t.regs, drams := t.drams, freeCtr := t.freeCtr, faultLine := t.faultLine } ∧
      (∀ k, k ≠ c → t.dram k = s.dram k) ∧ RegsKept s t [⟨.DRAM_THROTTLE_CNT, 0, c, 0⟩] :) ∧
  (∀ (s : State) (c n : Nat) (x : Txn), (s.dram c).hub[n]? = some x → orderedAt (s.dram c).hub n x = true → s.dramRoom c x = true →
    x.op = .write → x.words.length = x.len → s.rb F.PROT_FLIP_CTL_ARM 0 = false → s.dramKey c (addrLocal x.addr - dramBase c) = none →
    (∀ u, (addrLocal x.addr - dramBase c) / 4096 ≤ u → u ≤ (addrLocal x.addr - dramBase c + x.len) / 4096 → s.unitFilled c u = true) →
    ∃ t, exec (.dramAccept c n) s = .next t ∧ (t.dram c).hub = (s.dram c).hub.eraseIdx n ∧
      (t.dram c).acc = (s.dram c).acc ++ [⟨x, addrLocal x.addr - dramBase c, [], [], false, (accBursts c x).map fun g => (g, 0), []⟩] ∧
      (∀ k, k < x.len → t.cell 0 (addrLocal x.addr + k) =
        ⟨x.words.getD k noWord, checkOf (x.words.getD k noWord) (addrLocal x.addr + k)⟩) ∧
      (∀ d q, (memKey d q < addrLocal x.addr ∨ addrLocal x.addr + x.len ≤ memKey d q) → t.cell d q = s.cell d q) ∧
      (x.vc ≠ .streams → t.credits = s.credits) ∧
      t = { s with regs := t.regs, mem := t.mem, wb := t.wb, drams := t.drams, freeCtr := t.freeCtr, faultLine := t.faultLine, credits := t.credits } ∧
      RegsKept s t [⟨.DRAM_THROTTLE_CNT, 0, c, 0⟩] :) ∧
  (∀ (s : State) (c n w : Nat) (x : Txn) (v : TWord), (s.dram c).hub[n]? = some x → orderedAt (s.dram c).hub n x = true →
    s.dramRoom c x = true → x.op = .write → x.words = [v] → x.len = 1 → s.rb F.PROT_FLIP_CTL_ARM 0 = false →
    addrLocal x.addr = dramBase c + w → s.unitFilled c (w / 4096) = false → s.dramKey c w = none →
    s.dramKey c (w / 4096 * 4096) = none → s.rf F.DRAM_DEMAND_FILL_CNT_COUNT 0 c < 2 ^ 32 - 1 →
    ∃ t, exec (.dramAccept c n) s = .next t ∧ t.unitFilled c (w / 4096) = true ∧ t.cell 0 (dramBase c + w) = ⟨v, checkOf v (dramBase c + w)⟩ ∧
      (∀ k, k < 4096 → w / 4096 * 4096 + k ≠ w →
        t.cell 0 (dramBase c + w / 4096 * 4096 + k) = initCell (dramBase c + w / 4096 * 4096 + k)) ∧
      (∀ d q, (memKey d q < dramBase c + w / 4096 * 4096 ∨ dramBase c + w / 4096 * 4096 + 4096 ≤ memKey d q) → t.cell d q = s.cell d q) ∧
      t.rf F.DRAM_DEMAND_FILL_CNT_COUNT 0 c = s.rf F.DRAM_DEMAND_FILL_CNT_COUNT 0 c + 1 ∧
      RegsKept s t [⟨.DRAM_THROTTLE_CNT, 0, c, 0⟩, ⟨.DRAM_DEMAND_FILL_CNT, 0, c, 0⟩, ⟨.DRAM_STAT, 0, c, 0⟩] :) ∧
  (∀ (s : State) (c n w : Nat) (a : DramAcc) (v : TWord), (s.dram c).acc[n]? = some a → a.todo = [] →
    isReq a.txn = true → a.txn.len = 1 → addrLocal a.txn.addr = dramBase c + w → a.first = w / 8 * 8 → a.keys = [none] →
    a.odd.getD (w - w / 8 * 8) false = false → a.cells.getD (w - w / 8 * 8) none = some ⟨v, checkOf v (dramBase c + w)⟩ →
    ∃ t, exec (.dramReadComplete c n) s = .next t ∧ (t.dram c).acc = (s.dram c).acc.eraseIdx n ∧
      Responded s t ⟨a.txn.op == .add || a.txn.op == .swap, a.txn.srcDie, a.txn.master, a.txn.rtag, 0, [v]⟩ ∧
      (∀ k, k ≠ c → t.dram k = s.dram k) ∧ t = { s with drams := t.drams, resps := t.resps, net := t.net } :) ∧
  (∀ (s : State) (c n w : Nat) (a : DramAcc), (s.dram c).acc[n]? = some a → a.todo = [] →
    isReq a.txn = true → a.txn.len = 1 → addrLocal a.txn.addr = dramBase c + w → a.first = w / 8 * 8 → a.keys = [none] →
    a.cells.getD (w - w / 8 * 8) none = none →
    ∃ t, exec (.dramReadComplete c n) s = .next t ∧ (t.dram c).acc = (s.dram c).acc.eraseIdx n ∧
      Responded s t ⟨a.txn.op == .add || a.txn.op == .swap, a.txn.srcDie, a.txn.master, a.txn.rtag, 0, [noWord]⟩ ∧
      t = { s with drams := t.drams, resps := t.resps, net := t.net } :) ∧
  (∀ (s : State) (c n : Nat) (a : DramAcc), (s.dram c).acc[n]? = some a → a.todo = [] → isReq a.txn = false →
    exec (.dramReadComplete c n) s = .next (s.setDram c { s.dram c with acc := (s.dram c).acc.eraseIdx n }) :) ∧
  (∀ (s : State) (c n : Nat) (a : DramAcc), (s.dram c).acc[n]? = some a → s.rf F.DRAM_SCHED_MODE 0 c = 1 → a.promoted = false →
    s.rf F.DRAM_PROMO_CNT_COUNT 0 c < 2 ^ 32 - 1 →
    ∃ t, exec (.dramPromotion c n) s = .next t ∧ (t.dram c).acc = (s.dram c).acc.set n { a with promoted := true } ∧
      t.rf F.DRAM_PROMO_CNT_COUNT 0 c = s.rf F.DRAM_PROMO_CNT_COUNT 0 c + 1 ∧ t = { s with regs := t.regs, drams := t.drams } ∧
      RegsKept s t [⟨.DRAM_PROMO_CNT, 0, c, 0⟩] :) ∧
  (∀ (s : State) (c : Nat), s.dramState c = 2 → s.rf F.DRAM_SCRUB_SCRUB_EN 0 c = 1 → (s.dram c).patrol / 512 < s.dramWords c / 4096 →
    s.unitFilled c ((s.dram c).patrol / 512) = true → (s.dram c).rowOpen (s.dramLoc c ((s.dram c).patrol * 8)) = true →
    (∀ i, i < 8 → decodeCell (s.cell 0 (dramBase c + (s.dram c).patrol * 8 + i)) (dramBase c + (s.dram c).patrol * 8 + i) =
      .good (s.cell 0 (dramBase c + (s.dram c).patrol * 8 + i)).word) →
    exec (.dramPatrolRead c) s =
      .next (s.setDram c { s.dram c with patrol := ((s.dram c).patrol + 1) % (s.dramWords c / 4096 * 512) }) :) ∧
  (∀ (s : State) (c b k : Nat) (a : DramAcc), (s.dram c).acc = [a] → a.todo = [(b, k)] → isReq a.txn = false → s.dramState c = 2 →
    (s.dram c).victims = [] → (s.dram c).rowOpen (s.dramLoc c b) = true → (s.dramLoc c b).bank % 8 < 4 →
    exec (.dramReadComplete c 0) s = .next (s.setDram c { s.dram c with acc := [], group := (s.dramLoc c b).bank % 8 }) :) ∧
  (∀ (s : State) (c : Nat) (e f : DramEntry), s.dramPick c = some e → s.rf F.DRAM_SCHED_MODE 0 c = 1 → f ∈ s.dramReady c → f.rank ≤ e.rank :) ∧
  (∀ (s : State) (c : Nat) (e f : DramEntry), s.dramPick c = some e → s.rf F.DRAM_SCHED_MODE 0 c = 0 → f ∈ s.dramReady c →
    bankKey f.loc = bankKey e.loc → s.rf F.DRAM_SCHED_HIT_CAP 0 c ≤ f.passed → s.rf F.DRAM_SCHED_HIT_CAP 0 c ≤ e.passed :)

/-- A channel starts training on EN, opens, recentres, sleeps in self refresh, and retires on repeated failure (R554, R582,
R583, R585, R586, R589, R592). -/
def Obligations.DramTrainsAndRetires : Prop :=
  (∀ (s : State) (c : Nat) (w : TWord), (s.dramState c = 0 ∨ s.dramState c = 5) → s.rf F.DRAM_CTL_EN 0 c = 0 → s.timingsSet c = true →
    w.tag.toNat < 2 → bit w.data.toNat 0 = true →
    ∃ t, exec (.dramEnWrite c w []) s = .next t ∧ t.rf F.DRAM_STAT_STATE 0 c = 1 ∧ t.rf F.DRAM_CTL_EN 0 c = 1 ∧
      t.rf F.DRAM_CTL_RATE 0 c = min 6 (bits w.data.toNat 6 4) ∧ t = { s with regs := t.regs, drams := t.drams } ∧
      RegsKept s t [⟨.DRAM_CTL, 0, c, 0⟩, ⟨.DRAM_STAT, 0, c, 0⟩] :) ∧
  (∀ (s : State) (c : Nat) (w : TWord), (s.dramState c = 0 ∨ s.dramState c = 5) → s.rf F.DRAM_CTL_EN 0 c = 0 → s.timingsSet c = false →
    w.tag.toNat < 2 → bit w.data.toNat 0 = true →
    ∃ t, exec (.dramEnWrite c w []) s = .next t ∧ t.rf F.DRAM_CTL_EN 0 c = 0 ∧ t.rf F.DRAM_STAT_STATE 0 c = s.rf F.DRAM_STAT_STATE 0 c ∧
      OnlyRegs s t [⟨.DRAM_CTL, 0, c, 0⟩] :) ∧
  (∀ (s : State) (c : Nat) (good : Bool), s.dramState c = 1 → good = true →
    ∃ t, exec (.dramTrainingComplete c good) s = .next t ∧ t.rf F.DRAM_STAT_STATE 0 c = 2 ∧ (t.dram c).trainFails = 0 ∧
      t = { s with regs := t.regs, drams := t.drams } ∧ RegsKept s t [⟨.DRAM_STAT, 0, c, 0⟩] :) ∧
  (∀ (s : State) (c : Nat), s.dramState c = 1 → (s.dram c).trainFails < 2 →
    exec (.dramTrainingComplete c false) s =
      .next ((s.setDram c { s.dram c with trainFails := (s.dram c).trainFails + 1 }).raise .dramTrainFailed 0 c) :) ∧
  (∀ (s : State) (c : Nat), s.dramState c = 1 → 2 ≤ (s.dram c).trainFails → (s.dram c).acc = [] → (s.dram c).hub = [] →
    ∃ t, exec (.dramTrainingComplete c false) s = .next t ∧ t.rf F.DRAM_STAT_STATE 0 c = 5 ∧ t.rf F.DRAM_CTL_EN 0 c = 0 ∧
      t.faultLine = s.faultLine ++ [faultEv .dramTrainFailed 0 c 0, faultEv .dramChannelRetired 0 c 0] ∧
      t = { s with regs := t.regs, drams := t.drams, faultLine := t.faultLine } ∧
      RegsKept s t [⟨.DRAM_CTL, 0, c, 0⟩, ⟨.DRAM_STAT, 0, c, 0⟩] :) ∧
  (∀ (s : State) (c : Nat) (w : TWord), s.dramState c = 2 → s.rf F.DRAM_CTL_EN 0 c = 1 → w.tag.toNat < 2 → bit w.data.toNat 0 = true →
    bit w.data.toNat 7 = true →
    ∃ t, exec (.dramRetrainWrite c w []) s = .next t ∧ t.rf F.DRAM_STAT_STATE 0 c = 4 ∧ t.rf F.DRAM_CTL_RETRAIN 0 c = 1 ∧
      t.rf F.DRAM_CTL_EN 0 c = 1 ∧ t.rf F.DRAM_CTL_RATE 0 c = s.rf F.DRAM_CTL_RATE 0 c ∧
      OnlyRegs s t [⟨.DRAM_CTL, 0, c, 0⟩, ⟨.DRAM_STAT, 0, c, 0⟩] :) ∧
  (∀ (s : State) (c : Nat) (w : TWord), (s.dramState c = 2 ∨ s.dramState c = 3) → s.rf F.DRAM_CTL_EN 0 c = 1 → w.tag.toNat < 2 →
    bit w.data.toNat 0 = true → bit w.data.toNat 7 = false →
    ∃ t, exec (.srReqWrite c w []) s = .next t ∧ t.rf F.DRAM_CTL_SR_REQ 0 c = bits w.data.toNat 8 8 ∧
      t.rf F.DRAM_STAT_STATE 0 c = (if bit w.data.toNat 8 then s.dramState c else 2) ∧ t.rf F.DRAM_CTL_EN 0 c = 1 ∧
      OnlyRegs s t [⟨.DRAM_CTL, 0, c, 0⟩, ⟨.DRAM_STAT, 0, c, 0⟩] :) ∧
  (∀ (s : State) (c : Nat), s.dramState c = 2 → s.rf F.DRAM_CTL_SR_REQ 0 c = 1 → (s.dram c).acc = [] →
    ∃ t, exec (.selfRefreshEntry c) s = .next t ∧ t.rf F.DRAM_STAT_STATE 0 c = 3 ∧ (t.dram c).rows = [] ∧
      (t.dram c).filled = (s.dram c).filled ∧ t = { s with regs := t.regs, drams := t.drams } ∧ RegsKept s t [⟨.DRAM_STAT, 0, c, 0⟩] :) ∧
  (∀ (s : State) (c : Nat), s.dramState c = 2 → (s.dram c).acc ≠ [] → exec (.selfRefreshEntry c) s = .next s :) ∧
  (∀ (s : State) (c : Nat), (s.dramState c = 2 ∨ s.dramState c = 4) → s.rf F.DRAM_RETRAIN_CNT_COUNT 0 c < 2 ^ 32 - 1 →
    ∃ t, exec (.periodicCentring c true) s = .next t ∧ t.rf F.DRAM_STAT_STATE 0 c = 2 ∧ t.rf F.DRAM_CTL_RETRAIN 0 c = 0 ∧
      t.rf F.DRAM_RETRAIN_CNT_COUNT 0 c = s.rf F.DRAM_RETRAIN_CNT_COUNT 0 c + 1 ∧ (t.dram c).centreFails = 0 ∧
      t = { s with regs := t.regs, drams := t.drams } ∧
      RegsKept s t [⟨.DRAM_CTL, 0, c, 0⟩, ⟨.DRAM_STAT, 0, c, 0⟩, ⟨.DRAM_RETRAIN_CNT, 0, c, 0⟩] :) ∧
  (∀ (s : State) (c : Nat), (s.dramState c = 2 ∨ s.dramState c = 4) → (s.dram c).acc = [] → (s.dram c).hub = [] →
    ∃ t, exec (.periodicCentring c false) s = .next t ∧
      t.rf F.DRAM_STAT_STATE 0 c = (if (s.dram c).centreFails = 0 then 2 else 5) ∧
      t.faultLine = s.faultLine ++ faultEv .dramTrainFailed 0 c 0 ::
        (if (s.dram c).centreFails = 0 then [] else [faultEv .dramChannelRetired 0 c 0]) ∧
      t = { s with regs := t.regs, drams := t.drams, faultLine := t.faultLine } ∧
      RegsKept s t [⟨.DRAM_CTL, 0, c, 0⟩, ⟨.DRAM_STAT, 0, c, 0⟩, ⟨.DRAM_RETRAIN_CNT, 0, c, 0⟩] :) ∧
  (∀ (s : State) (c : Nat), s.dramState c = 2 → s.rf F.DRAM_ALERT_CNT_COUNT 0 c < 2 ^ 32 - 1 →
    ∃ t, exec (.dramCaParityAlert c) s = .next t ∧ t.rf F.DRAM_ALERT_CNT_COUNT 0 c = s.rf F.DRAM_ALERT_CNT_COUNT 0 c + 1 ∧
      t.faultLine = s.faultLine ++ [faultEv .dramCaParity 0 c 0] ∧ (t.dram c).rows = [] ∧
      t.rf F.DRAM_STAT_STATE 0 c = (if 3 ≤ ((s.dram c).alerts.filter fun x => s.now < x + 1000000).length then 4 else 2) ∧
      t = { s with regs := t.regs, drams := t.drams, faultLine := t.faultLine } ∧
      RegsKept s t [⟨.DRAM_STAT, 0, c, 0⟩, ⟨.DRAM_ALERT_CNT, 0, c, 0⟩] :)

/-- Refreshes are issued in a gap and postponed while transactions wait, victim refreshes and the counted tables go on, and
the temperature sets the hot state (R542, R543, R544, R545, R548, R551, R552, R553, R556). -/
def Obligations.DramRefreshesAndGuardsRows : Prop :=
  (∀ (s : State) (c r : Nat), (s.dramState c = 2 ∨ s.dramState c = 4) → r ≤ s.rf F.DRAM_GEOM_RANKS 0 c → (s.dram c).waiting = false →
    ∃ t, exec (.dramRefresh c r) s = .next t ∧ mget (t.dram c).owed r 0 = 0 ∧
      mget (t.dram c).refs r 0 = mget (s.dram c).refs r 0 + mget (s.dram c).owed r 0 + 1 ∧ t.rf F.DRAM_STAT_REF_EFF 0 c = s.refEff c ∧
      t = { s with regs := t.regs, drams := t.drams } ∧ RegsKept s t [⟨.DRAM_STAT, 0, c, 0⟩] :) ∧
  (∀ (s : State) (c r : Nat), (s.dramState c = 2 ∨ s.dramState c = 4) → r ≤ s.rf F.DRAM_GEOM_RANKS 0 c → (s.dram c).waiting = true →
    ∃ t, exec (.dramRefresh c r) s = .next t ∧
      (if mget (s.dram c).owed r 0 + 1 < s.rf F.DRAM_REF_CTL_POSTPONE 0 c then
        mget (t.dram c).owed r 0 = mget (s.dram c).owed r 0 + 1 ∧ mget (t.dram c).refs r 0 = mget (s.dram c).refs r 0
      else mget (t.dram c).owed r 0 = mget (s.dram c).owed r 0 ∧ mget (t.dram c).refs r 0 = mget (s.dram c).refs r 0 + 1) ∧
      (t.dram c).acc = (s.dram c).acc ∧ t = { s with regs := t.regs, drams := t.drams } ∧ RegsKept s t [⟨.DRAM_STAT, 0, c, 0⟩] :) ∧
  (∀ (s : State) (c r b row : Nat) (rest : List (Nat × Nat)), mget (s.dram c).victims r [] = (b, row) :: rest →
    s.rf F.DRAM_VICTIM_CNT_COUNT 0 c < 2 ^ 32 - 1 →
    ∃ t, exec (.victimRefresh c r) s = .next t ∧ mget (t.dram c).victims r [] = rest ++ (mget (s.dram c).held r []).take 1 ∧
      mget (t.dram c).held r [] = (mget (s.dram c).held r []).drop 1 ∧ mget (t.dram c).rows (r * 64 + b) 0 = 0 ∧
      t.rf F.DRAM_VICTIM_CNT_COUNT 0 c = s.rf F.DRAM_VICTIM_CNT_COUNT 0 c + 1 ∧ t = { s with regs := t.regs, drams := t.drams } ∧
      RegsKept s t [⟨.DRAM_VICTIM_CNT, 0, c, 0⟩] :) ∧
  (∀ (s : State) (c r : Nat), 8192 ≤ mget (s.dram c).refs r 0 →
    ∃ t, exec (.disturbTableClear c r) s = .next t ∧ (∀ k, k / 2048 = r → mget (t.dram c).tables k (0, 0) = (0, 0)) ∧
      (∀ k, k / 2048 ≠ r → mget (t.dram c).tables k (0, 0) = mget (s.dram c).tables k (0, 0)) ∧
      mget (t.dram c).refs r 0 = mget (s.dram c).refs r 0 - 8192 ∧ t = { s with drams := t.drams } :) ∧
  (∀ (s : State) (c : Nat),
    ∃ t, exec (.zqShortCalibration c) s = .next t ∧ t = { s with drams := t.drams } ∧ (∀ k, t.dram k = s.dram k) :) ∧
  (∀ (s : State) (c g : Nat), s.rf F.DRAM_TEMP_TEMP_SRC 0 c = 0 →
    ∃ t, exec (.dramTemperatureRead c g) s = .next t ∧ t.rf F.DRAM_TEMP_RANGE 0 c = g % 4 ∧
      t.rf F.DRAM_STAT_HOT 0 c = (if g % 4 = 2 then 1 else if g % 4 = 1 then 0 else s.rf F.DRAM_STAT_HOT 0 c) ∧
      t = { s with regs := t.regs, drams := t.drams } ∧ RegsKept s t [⟨.DRAM_TEMP, 0, c, 0⟩, ⟨.DRAM_STAT, 0, c, 0⟩] :) ∧
  (∀ (s : State) (c g : Nat), s.rf F.DRAM_TEMP_TEMP_SRC 0 c ≠ 0 → exec (.dramTemperatureRead c g) s = .next s :)

/-- The filler fills the next unfilled unit, START clears fill-map bits, and LOAD takes a key pair or refuses it (R557, R561,
R562, R565, R571, R575, R576). -/
def Obligations.DramFillsAndHoldsKeys : Prop :=
  (∀ (s : State) (c v : Nat), s.dramState c = 2 → v < 2 ^ 20 - 1 →
    nextUnit (s.dram c).filled false (s.dramWords c / 4096 - s.rf F.DRAM_STAT_FILL_UNIT 0 c) (s.rf F.DRAM_STAT_FILL_UNIT 0 c) = some v →
    s.dramKey c (v * 4096) = none →
    ∃ t, exec (.backgroundFill c) s = .next t ∧ t.unitFilled c v = true ∧ t.rf F.DRAM_STAT_FILL_UNIT 0 c = v + 1 ∧
      (∀ k, k < 4096 → t.cell 0 (dramBase c + v * 4096 + k) = initCell (dramBase c + v * 4096 + k)) ∧
      (∀ d q, (memKey d q < dramBase c + v * 4096 ∨ dramBase c + v * 4096 + 4096 ≤ memKey d q) → t.cell d q = s.cell d q) ∧
      (∀ u, u ≠ v → t.unitFilled c u = s.unitFilled c u) ∧
      t = { s with regs := t.regs, mem := t.mem, wb := t.wb, drams := t.drams } ∧ RegsKept s t [⟨.DRAM_STAT, 0, c, 0⟩] :) ∧
  (∀ (s : State) (c : Nat), s.rf F.DRAM_FILL_START 0 c = 1 → s.rf F.DRAM_FILL_FIRST 0 c ≤ s.rf F.DRAM_FILL_LAST 0 c →
    ∃ t, exec (.dramFillStart c false) s = .next t ∧ t.rf F.DRAM_FILL_START 0 c = 0 ∧
      (∀ u, t.unitFilled c u =
        (s.unitFilled c u && (decide (u < s.rf F.DRAM_FILL_FIRST 0 c) || decide (s.rf F.DRAM_FILL_LAST 0 c < u)))) ∧
      t = { s with regs := t.regs, wb := t.wb, drams := t.drams } ∧
      RegsKept s t [⟨.DRAM_FILL, 0, c, 0⟩, ⟨.DRAM_STAT, 0, c, 0⟩] :) ∧
  (∀ (s : State) (c k : Nat) (w : TWord), w.tag.toNat < 2 → bit w.data.toNat 1 = true →
    (∀ j, j < 16 → s.rf F.DRAM_REGION_EN 0 c j = 1 → s.rf F.DRAM_REGION_KEY 0 c j ≠ k) → s.stagedKey c k % 2 ^ 256 ≠ s.stagedKey c k / 2 ^ 256 →
    ∃ t, exec (.dramKeyLoad c k w) s = .next t ∧ mget (t.dram c).keys k 0 = s.stagedKey c k ∧ t.rf F.DRAM_KEY_CTL_VALID 0 c k = 1 ∧
      t.rf F.DRAM_KEY_CTL_LOAD 0 c k = 0 ∧ t.stagedKey c k = 0 ∧ (∀ j, j ≠ k → mget (t.dram c).keys j 0 = mget (s.dram c).keys j 0) ∧
      t = { s with regs := t.regs, drams := t.drams } ∧
      RegsKept s t (⟨.DRAM_KEY_CTL, 0, c, k⟩ :: (List.range 11).map fun i => ⟨.DRAM_KEY, 0, c, 16 * k + i⟩) :) ∧
  (∀ (s : State) (c k : Nat) (w : TWord), w.tag.toNat < 2 → bit w.data.toNat 1 = true →
    s.stagedKey c k % 2 ^ 256 = s.stagedKey c k / 2 ^ 256 →
    ∃ t, exec (.dramKeyLoad c k w) s = .next t ∧ t.rf F.DRAM_KEY_CTL_REFUSED 0 c k = 1 ∧ t.stagedKey c k = 0 ∧ t.drams = s.drams ∧
      t.faultLine = s.faultLine ++ [faultEv .dramKeyRefused 0 c 0] ∧
      OnlyRegsEv s t (⟨.DRAM_KEY_CTL, 0, c, k⟩ :: (List.range 11).map fun i => ⟨.DRAM_KEY, 0, c, 16 * k + i⟩) :) ∧
  (∀ (s : State) (c k j : Nat) (w : TWord), w.tag.toNat < 2 → bit w.data.toNat 1 = true → j < 16 → s.rf F.DRAM_REGION_EN 0 c j = 1 →
    s.rf F.DRAM_REGION_KEY 0 c j = k →
    ∃ t, exec (.dramKeyLoad c k w) s = .next t ∧ t.rf F.DRAM_KEY_CTL_REFUSED 0 c k = 1 ∧ t.drams = s.drams ∧
      t.faultLine = s.faultLine ++ [faultEv .dramKeyRefused 0 c 0] :)

/-- A lane enters and leaves its power states, and clause 72 training moves its taps within their limits (R612, R613, R614,
R615, R616, R618, R620, R621, R622, R648). -/
def Obligations.LanesChangePowerAndTrain : Prop :=
  (∀ (s : State) (n r : Nat), s.rf F.LANE_STAT_PSTATE 0 n ≤ 2 → s.rf F.LANE_STAT_RETIRED 0 n = 0 → s.saetteOwned n = false → r ≠ 0 →
    ∃ t, exec (.lanePstateRequest n r) s = .next t ∧ t.rf F.LANE_STAT_PSTATE 0 n = min 2 r ∧ t.rf F.LANE_CTL_PSTATE_REQ 0 n = min 2 r ∧
      t.rf F.LANE_STAT_CDR_LOCK 0 n = 0 ∧ t.rf F.LANE_STAT_PLL_LOCK 0 n = (if r = 1 then s.rf F.LANE_STAT_PLL_LOCK 0 n else 0) ∧
      (s.rf F.LANE_STAT_OWNER 0 n = 5 → t.rf F.MAC_STAT_LINK_UP 0 (s.rf F.LANE_STAT_OWNER_INDEX 0 n) = 0) ∧
      OnlyRegs s t [⟨.LANE_CTL, 0, n, 0⟩, ⟨.LANE_STAT, 0, n, 0⟩, ⟨.MAC_STAT, 0, s.rf F.LANE_STAT_OWNER_INDEX 0 n, 0⟩] :) ∧
  (∀ (s : State) (n : Nat), (s.rf F.LANE_STAT_PSTATE 0 n = 1 ∨ s.rf F.LANE_STAT_PSTATE 0 n = 2) → s.rf F.LANE_STAT_RETIRED 0 n = 0 →
    s.saetteOwned n = false →
    ∃ t, exec (.lanePstateRequest n 0) s = .next t ∧ t.rf F.LANE_STAT_PSTATE 0 n = s.rf F.LANE_STAT_PSTATE 0 n + 2 ∧
      OnlyRegs s t [⟨.LANE_CTL, 0, n, 0⟩, ⟨.LANE_STAT, 0, n, 0⟩] :) ∧
  (∀ (s : State) (n r : Nat), s.saetteOwned n = true → exec (.lanePstateRequest n r) s = .next s :) ∧
  (∀ (s : State) (n rx : Nat), (s.rf F.LANE_STAT_PSTATE 0 n = 3 ∨ s.rf F.LANE_STAT_PSTATE 0 n = 4) → (s.lane n).want = none → (s.lane n).toTrain = false →
    ∃ t, exec (.laneP0Reached n rx) s = .next t ∧ t.rf F.LANE_STAT_PSTATE 0 n = 0 ∧ t.rf F.LANE_STAT_PLL_LOCK 0 n = 1 ∧
      t.rf F.LANE_STAT_CDR_LOCK 0 n = 1 ∧
      (if s.rf F.LANE_CTL_ADAPT_EN 0 n = 1 then t.rf F.LANE_RX_CTLE 0 n = bits rx 47 44 ∧ t.rf F.LANE_RX_DFE_1 0 n = bits rx 5 0 ∧
        t.rf F.LANE_RX_DFE_5 0 n = bits rx 29 24 else t.reg ⟨.LANE_RX, 0, n, 0⟩ = s.reg ⟨.LANE_RX, 0, n, 0⟩) ∧
      OnlyRegs s t [⟨.LANE_STAT, 0, n, 0⟩, ⟨.LANE_RX, 0, n, 0⟩] :) ∧
  (∀ (s : State) (n k : Nat), s.rf F.LANE_STAT_TRAIN_STATE 0 n = 1 → k < 3 →
    ∃ t, exec (.coefficientIncrement n k) s = .next t ∧
      (if tapsOk (s.rf F.LANE_TX_PRE 0 n - b2n (k == 1)) (s.rf F.LANE_TX_MAIN 0 n + b2n (k == 0)) (s.rf F.LANE_TX_POST 0 n - b2n (k == 2)) then
        t.rf F.LANE_TX_PRE 0 n = s.rf F.LANE_TX_PRE 0 n - b2n (k == 1) ∧ t.rf F.LANE_TX_MAIN 0 n = s.rf F.LANE_TX_MAIN 0 n + b2n (k == 0) ∧
          t.rf F.LANE_TX_POST 0 n = s.rf F.LANE_TX_POST 0 n - b2n (k == 2) ∧
          (if k = 0 then (t.lane n).stat0 else if k = 1 then (t.lane n).statM else (t.lane n).statP) = 1
      else t.reg ⟨.LANE_TX, 0, n, 0⟩ = s.reg ⟨.LANE_TX, 0, n, 0⟩ ∧
          (if k = 0 then (t.lane n).stat0 else if k = 1 then (t.lane n).statM else (t.lane n).statP) = 3) ∧
      t = { s with regs := t.regs, lanes := t.lanes } ∧ RegsKept s t [⟨.LANE_TX, 0, n, 0⟩] :) ∧
  (∀ (s : State) (n k : Nat), s.rf F.LANE_STAT_TRAIN_STATE 0 n = 1 → k < 3 →
    ∃ t, exec (.coefficientDecrement n k) s = .next t ∧
      (if tapsOk (s.rf F.LANE_TX_PRE 0 n + b2n (k == 1)) (s.rf F.LANE_TX_MAIN 0 n - b2n (k == 0)) (s.rf F.LANE_TX_POST 0 n + b2n (k == 2)) then
        t.rf F.LANE_TX_PRE 0 n = s.rf F.LANE_TX_PRE 0 n + b2n (k == 1) ∧ t.rf F.LANE_TX_MAIN 0 n = s.rf F.LANE_TX_MAIN 0 n - b2n (k == 0) ∧
          t.rf F.LANE_TX_POST 0 n = s.rf F.LANE_TX_POST 0 n + b2n (k == 2) ∧
          (if k = 0 then (t.lane n).stat0 else if k = 1 then (t.lane n).statM else (t.lane n).statP) = 1
      else t.reg ⟨.LANE_TX, 0, n, 0⟩ = s.reg ⟨.LANE_TX, 0, n, 0⟩ ∧
          (if k = 0 then (t.lane n).stat0 else if k = 1 then (t.lane n).statM else (t.lane n).statP) = 2) ∧
      t = { s with regs := t.regs, lanes := t.lanes } ∧ RegsKept s t [⟨.LANE_TX, 0, n, 0⟩] :) ∧
  (∀ (s : State) (n : Nat), s.rf F.LANE_STAT_TRAIN_STATE 0 n = 1 →
    ∃ t, exec (.preset n) s = .next t ∧ t.rf F.LANE_TX_PRE 0 n = 0 ∧ t.rf F.LANE_TX_MAIN 0 n = 63 ∧ t.rf F.LANE_TX_POST 0 n = 0 ∧
      OnlyRegs s t [⟨.LANE_TX, 0, n, 0⟩] :) ∧
  (∀ (s : State) (n : Nat), s.rf F.LANE_STAT_TRAIN_STATE 0 n = 1 →
    ∃ t, exec (.initialise n) s = .next t ∧ t.rf F.LANE_TX_PRE 0 n = s.rf F.LANE_TX_INIT_PRE 0 n ∧
      t.rf F.LANE_TX_MAIN 0 n = s.rf F.LANE_TX_INIT_MAIN 0 n ∧ t.rf F.LANE_TX_POST 0 n = s.rf F.LANE_TX_INIT_POST 0 n ∧
      OnlyRegs s t [⟨.LANE_TX, 0, n, 0⟩] :) ∧
  (∀ (s : State) (n : Nat), s.rf F.LANE_STAT_TRAIN_STATE 0 n = 1 →
    ∃ t, exec (.laneTrainingTimeout n) s = .next t ∧ t.rf F.LANE_STAT_TRAIN_STATE 0 n = 3 ∧
      t.faultLine = s.faultLine ++ [faultEv .laneTrainFailed 0 n 0] ∧ OnlyRegsEv s t [⟨.LANE_STAT, 0, n, 0⟩] :) ∧
  (∀ (s : State) (n : Nat), s.rf F.LANE_STAT_TRAIN_STATE 0 n = 3 → s.rf F.LANE_STAT_OWNER 0 n ≠ 0 → s.rf F.LANE_CTL_TRAIN_EN 0 n = 1 →
    s.rf F.LANE_CTL_RATE 0 n = 2 →
    ∃ t, exec (.laneTrainingRestart n) s = .next t ∧ t.rf F.LANE_STAT_TRAIN_STATE 0 n = 1 ∧ (t.lane n).rxReady = false ∧
      (t.lane n).peerReady = false ∧ t = { s with regs := t.regs, lanes := t.lanes } ∧ RegsKept s t [⟨.LANE_STAT, 0, n, 0⟩] :) ∧
  (∀ (s : State) (n rx : Nat) (p : Bool), s.rf F.LANE_STAT_TRAIN_STATE 0 n = 1 → (if p then (s.lane n).rxReady else (s.lane n).peerReady) = true →
    ∃ t, exec (.receiverReady n p rx) s = .next t ∧ t.rf F.LANE_STAT_TRAIN_STATE 0 n = 2 ∧ (t.lane n).rxReady = true ∧ (t.lane n).peerReady = true ∧
      t = { s with regs := t.regs, lanes := t.lanes } ∧ RegsKept s t [⟨.LANE_STAT, 0, n, 0⟩, ⟨.LANE_RX, 0, n, 0⟩] :) ∧
  (∀ (s : State) (n rx : Nat), (s.rf F.LANE_STAT_PSTATE 0 n = 3 ∨ s.rf F.LANE_STAT_PSTATE 0 n = 4) → (s.lane n).want = none → (s.lane n).toTrain = true →
    s.rf F.LANE_CTL_TRAIN_EN 0 n = 1 → s.rf F.LANE_CTL_RATE 0 n = 2 →
    ∃ t, exec (.laneP0Reached n rx) s = .next t ∧ t.rf F.LANE_STAT_PSTATE 0 n = 0 ∧ t.rf F.LANE_STAT_TRAIN_STATE 0 n = 1 ∧ (t.lane n).toTrain = false ∧
      (t.lane n).rxReady = false ∧ (t.lane n).peerReady = false ∧ t = { s with regs := t.regs, lanes := t.lanes } ∧
      RegsKept s t [⟨.LANE_STAT, 0, n, 0⟩, ⟨.LANE_RX, 0, n, 0⟩] :)

/-- A lane's losses are latched, counted and raised, a third failed relock retires it, REVIVE brings it back, and the PRBS
checker and error injection count (R617, R618, R624, R625, R626, R644, R648, R649). -/
def Obligations.LanesReportLossesAndErrors : Prop :=
  (∀ (s : State) (n : Nat), s.rf F.LANE_STAT_PSTATE 0 n = 0 → s.rf F.LANE_STAT_SIGNAL 0 n = 1 → s.rf F.LANE_LOS_CNT_COUNT 0 n < 2 ^ 16 - 1 →
    ∃ t, exec (.laneLos n) s = .next t ∧ t.rf F.LANE_STAT_SIGNAL 0 n = 0 ∧ t.rf F.LANE_STAT_LOS_STICKY 0 n = 1 ∧
      t.rf F.LANE_LOS_CNT_COUNT 0 n = s.rf F.LANE_LOS_CNT_COUNT 0 n + 1 ∧ t.faultLine = s.faultLine ++ [faultEv .laneLos 0 n 0] ∧
      OnlyRegsEv s t [⟨.LANE_STAT, 0, n, 0⟩, ⟨.LANE_LOS_CNT, 0, n, 0⟩] :) ∧
  (∀ (s : State) (n : Nat), ∃ t, exec (.laneSignalPresent n) s = .next t ∧ t.rf F.LANE_STAT_SIGNAL 0 n = 1 ∧
      t.rf F.LANE_STAT_LOS_STICKY 0 n = s.rf F.LANE_STAT_LOS_STICKY 0 n ∧ OnlyRegs s t [⟨.LANE_STAT, 0, n, 0⟩] :) ∧
  (∀ (s : State) (n : Nat), s.rf F.LANE_STAT_CDR_LOCK 0 n = 1 → s.rf F.LANE_RELOCK_CNT_COUNT 0 n < 2 ^ 16 - 1 →
    ∃ t, exec (.laneCdrUnlock n) s = .next t ∧ t.rf F.LANE_RELOCK_CNT_COUNT 0 n = s.rf F.LANE_RELOCK_CNT_COUNT 0 n + 1 ∧
      t.faultLine = s.faultLine ++ [faultEv .laneCdrUnlock 0 n 0] ∧ OnlyRegsEv s t [⟨.LANE_RELOCK_CNT, 0, n, 0⟩] :) ∧
  (∀ (s : State) (n : Nat), s.rf F.LANE_STAT_PSTATE 0 n ≠ 2 →
    ∃ t, exec (.lanePllUnlock n true) s = .next t ∧ t.rf F.LANE_STAT_PLL_LOCK 0 n = 1 ∧
      t.faultLine = s.faultLine ++ [faultEv .lanePllUnlock 0 n 0] ∧ OnlyRegsEv s t [⟨.LANE_STAT, 0, n, 0⟩] :) ∧
  (∀ (s : State) (n : Nat), s.rf F.LANE_STAT_PSTATE 0 n ≠ 2 → 2 ≤ ((s.lane n).relocks.filter fun x => s.now < x + 1000000000).length →
    s.rf F.LANE_STAT_OWNER 0 n = 5 →
    ∃ t, exec (.lanePllUnlock n false) s = .next t ∧ t.rf F.LANE_STAT_RETIRED 0 n = 1 ∧ t.rf F.LANE_STAT_PSTATE 0 n = 2 ∧
      t.rf F.LANE_STAT_OWNER 0 n = 0 ∧ t.rf F.LANE_STAT_PLL_LOCK 0 n = 0 ∧ t.rf F.MAC_CTL_EN 0 (s.rf F.LANE_STAT_OWNER_INDEX 0 n) = 0 ∧
      t.rf F.MAC_STAT_LINK_UP 0 (s.rf F.LANE_STAT_OWNER_INDEX 0 n) = 0 ∧ t.faultLine = s.faultLine ++ [faultEv .lanePllUnlock 0 n 0] ∧
      t = { s with regs := t.regs, lanes := t.lanes, faultLine := t.faultLine } ∧
      RegsKept s t [⟨.LANE_CTL, 0, n, 0⟩, ⟨.LANE_STAT, 0, n, 0⟩, ⟨.MAC_CTL, 0, s.rf F.LANE_STAT_OWNER_INDEX 0 n, 0⟩,
        ⟨.MAC_STAT, 0, s.rf F.LANE_STAT_OWNER_INDEX 0 n, 0⟩] :) ∧
  (∀ (s : State) (r : Nat),
    ∃ t, exec (.laneRefclkLost r) s = .next t ∧
      (∀ n, n < s.laneCount → s.rf F.LANE_CTL_REF_SEL 0 n = r → s.rf F.LANE_STAT_PSTATE 0 n ≠ 2 →
        t.rf F.LANE_STAT_PLL_LOCK 0 n = 0 ∧ faultEv .laneRefclkLost 0 n 0 ∈ t.faultLine) ∧
      (∀ n, s.rf F.LANE_CTL_REF_SEL 0 n ≠ r → t.reg ⟨.LANE_STAT, 0, n, 0⟩ = s.reg ⟨.LANE_STAT, 0, n, 0⟩ ∧ t.lane n = s.lane n) ∧
      t = { s with regs := t.regs, lanes := t.lanes, faultLine := t.faultLine } :) ∧
  (∀ (s : State) (n k : Nat) (b : Bool), 1 ≤ k → k ≤ 5 → s.rf F.LANE_STAT_PSTATE 0 n = 0 → s.rf F.LANE_CTL_ADAPT_EN 0 n = 1 →
    ∃ t, exec (.laneAdaptLimit n k b) s = .next t ∧ t.rf ⟨.LANE_RX, 6 * k - 1, 6 * k - 6⟩ 0 n = (if b then 31 else 32) ∧
      t.faultLine = s.faultLine ++ [faultEv .laneAdaptLimit 0 n 0] ∧ OnlyRegsEv s t [⟨.LANE_RX, 0, n, 0⟩] :) ∧
  (∀ (s : State) (n : Nat) (seed bs : List Bool) (r : PrbsRun), s.rf F.LANE_PRBS_CTL_CHK_EN 0 n = 1 → s.rf F.LANE_PRBS_CTL_LOCK 0 n = 0 →
    s.rf F.LANE_PRBS_CTL_GEN_EN 0 n = 0 → s.rf F.LANE_CTL_LOOP 0 n = 0 →
    r = (seed ++ bs).foldl (prbsStep (s.rf F.LANE_PRBS_CTL_CHK_PAT 0 n) (s.rb F.LANE_PRBS_CTL_CHK_INV 0 n))
      ⟨{ s.lane n with line := none, level := [] }, false, 0, 0, false⟩ →
    s.rf F.LANE_PRBS_ERR_CNT_COUNT 0 n + r.errs < 2 ^ 32 → s.rf F.LANE_PRBS_BIT_CNT_COUNT 0 n + ((s.lane n).prbsRem + r.nbits) / 256 < 2 ^ 40 →
    ∃ t, exec (.prbsCheckerLock n seed bs) s = .next t ∧ t.rf F.LANE_PRBS_CTL_LOCK 0 n = b2n r.locked ∧
      t.rf F.LANE_PRBS_ERR_CNT_COUNT 0 n = s.rf F.LANE_PRBS_ERR_CNT_COUNT 0 n + r.errs ∧
      t.rf F.LANE_PRBS_BIT_CNT_COUNT 0 n = s.rf F.LANE_PRBS_BIT_CNT_COUNT 0 n + ((s.lane n).prbsRem + r.nbits) / 256 ∧
      t.rf F.LANE_PRBS_CTL_LOCK_LOST 0 n = (if r.lost then 1 else s.rf F.LANE_PRBS_CTL_LOCK_LOST 0 n) ∧
      t = { s with regs := t.regs, lanes := t.lanes } ∧
      RegsKept s t [⟨.LANE_PRBS_CTL, 0, n, 0⟩, ⟨.LANE_PRBS_ERR_CNT, 0, n, 0⟩, ⟨.LANE_PRBS_BIT_CNT, 0, n, 0⟩] :) ∧
  (∀ (s : State) (n : Nat) (before bs : List Bool) (r : PrbsRun), s.rf F.LANE_PRBS_CTL_CHK_EN 0 n = 1 → s.rf F.LANE_PRBS_CTL_LOCK 0 n = 1 →
    s.rf F.LANE_PRBS_CTL_GEN_EN 0 n = 0 → s.rf F.LANE_CTL_LOOP 0 n = 0 → (s.lane n).run = 0 → (s.lane n).errs = 0 → (before ++ bs).length = 64 →
    r = (before ++ bs).foldl (prbsStep (s.rf F.LANE_PRBS_CTL_CHK_PAT 0 n) (s.rb F.LANE_PRBS_CTL_CHK_INV 0 n))
      ⟨{ s.lane n with line := none, level := [] }, true, 0, 0, false⟩ → 8 < r.errs →
    s.rf F.LANE_PRBS_ERR_CNT_COUNT 0 n + r.errs < 2 ^ 32 →
    ∃ t, exec (.prbsLockLost n before bs) s = .next t ∧ t.rf F.LANE_PRBS_CTL_LOCK 0 n = 0 ∧ t.rf F.LANE_PRBS_CTL_LOCK_LOST 0 n = 1 ∧
      t.rf F.LANE_PRBS_ERR_CNT_COUNT 0 n = s.rf F.LANE_PRBS_ERR_CNT_COUNT 0 n + r.errs ∧ t = { s with regs := t.regs, lanes := t.lanes } ∧
      RegsKept s t [⟨.LANE_PRBS_CTL, 0, n, 0⟩, ⟨.LANE_PRBS_ERR_CNT, 0, n, 0⟩, ⟨.LANE_PRBS_BIT_CNT, 0, n, 0⟩] :) ∧
  (∀ (x : Lane) (pat : Nat) (inv : Bool), x.chk ≠ 0 → x.chk < 2 ^ (prbsPoly pat).1 → x.run = 0 →
    ((({ x with gen := x.chk, inject := 0 } : Lane).generate pat inv 64).1.foldl (prbsStep pat inv) ⟨x, false, 0, 0, false⟩).locked = true :) ∧
  (∀ (s : State) (n : Nat) (w : TWord), s.rf F.LANE_STAT_OWNER 0 n = 0 → w.tag.toNat < 2 → bits w.data.toNat 47 45 = 4 → bit w.data.toNat 7 = true →
    s.rf F.LANE_PRBS_CTL_INJ_BURST 0 n = 0 →
    ∃ t, exec (.injSingle n w) s = .next t ∧ (t.lane n).injected = (s.lane n).injected + 1 ∧ t.rf F.LANE_PRBS_CTL_INJ_SINGLE 0 n = 0 ∧
      t.rf F.LANE_PRBS_CTL_GEN_EN 0 n = 1 ∧ t = { s with regs := t.regs, lanes := t.lanes, freeCtr := t.freeCtr } ∧ RegsKept s t [⟨.LANE_PRBS_CTL, 0, n, 0⟩] :) ∧
  (∀ (s : State) (n : Nat) (w : TWord), s.rf F.LANE_STAT_OWNER 0 n ≠ 0 → w.tag.toNat < 2 → bits w.data.toNat 47 45 = 3 → bit w.data.toNat 7 = false →
    bit w.data.toNat 4 = false → s.rf F.LANE_PRBS_CTL_INJ_SINGLE 0 n = 0 →
    ∃ t, exec (.injBurst n w) s = .next t ∧ (t.lane n).injected = (s.lane n).injected + bits w.data.toNat 44 39 + 1 ∧
      t.rf F.LANE_PRBS_CTL_INJ_BURST 0 n = 0 ∧ t = { s with regs := t.regs, lanes := t.lanes } ∧ RegsKept s t [⟨.LANE_PRBS_CTL, 0, n, 0⟩] :) ∧
  (∀ (s : State) (n : Nat) (w : TWord) (b : Bool), s.rf F.LANE_STAT_RETIRED 0 n = 1 → s.rf F.LANE_STAT_OWNER 0 n = 0 → w.tag.toNat < 2 →
    bit w.data.toNat 11 = true →
    ∃ t, exec (.revive n w b) s = .next t ∧ t.rf F.LANE_STAT_RETIRED 0 n = (if b then 0 else 1) ∧ t.rf F.LANE_STAT_OWNER 0 n = 0 ∧
      t.rf F.LANE_CTL_REVIVE 0 n = 0 ∧ t.rf F.LANE_STAT_PSTATE 0 n = s.rf F.LANE_STAT_PSTATE 0 n ∧
      OnlyRegs s t [⟨.LANE_CTL, 0, n, 0⟩, ⟨.LANE_STAT, 0, n, 0⟩] :)

/-- A MAC claims its lane, sends the frames of its transmit buffer, keeps good received frames with their timestamp, pauses,
and gives up its timestamps in order (R604, R608, R629, R630, R631, R633, R634, R635, R639, R645, R660). -/
def Obligations.MacsSendAndReceiveFrames : Prop :=
  (∀ (s : State) (m n : Nat) (w : TWord), w.tag.toNat < 2 → bit w.data.toNat 0 = true → s.rf F.MAC_CTL_EN 0 m = 0 → bits w.data.toNat 15 12 = n →
    n % 4 = m → n < s.laneCount → s.rf F.LANE_STAT_OWNER 0 n = 0 →
    ∃ t, exec (.macEnable m ⟨w, none⟩ false) s = .next t ∧ t.rf F.MAC_CTL_EN 0 m = 1 ∧ t.rf F.LANE_STAT_OWNER 0 n = 5 ∧
      t.rf F.LANE_STAT_OWNER_INDEX 0 n = m ∧ t.rf F.LANE_CTL_RATE 0 n = (if 2 ≤ bits w.data.toNat 11 10 then 2 else 0) ∧
      t.rf F.MAC_CTL_LANE 0 m = n ∧ t = { s with regs := t.regs, lanes := t.lanes } ∧
      RegsKept s t [⟨.MAC_CTL, 0, m, 0⟩, ⟨.MAC_LAT, 0, m, 0⟩, ⟨.LANE_CTL, 0, n, 0⟩, ⟨.LANE_STAT, 0, n, 0⟩] :) ∧
  (∀ (s : State) (m n : Nat) (w : TWord), w.tag.toNat < 2 → bit w.data.toNat 0 = true → s.rf F.MAC_CTL_EN 0 m = 0 → bits w.data.toNat 15 12 = n →
    n % 4 = m → n < s.laneCount → s.rf F.LANE_STAT_OWNER 0 n ≠ 0 →
    ∃ t, exec (.macEnable m ⟨w, none⟩ false) s = .next t ∧ t.rf F.MAC_CTL_EN 0 m = 0 ∧ t.faultLine = s.faultLine ++ [faultEv .laneClaimRefused 0 n 0] ∧
      OnlyRegsEv s t [⟨.MAC_CTL, 0, m, 0⟩, ⟨.MAC_LAT, 0, m, 0⟩] :) ∧
  (∀ (s : State) (m : Nat) (w : TWord), w.tag.toNat < 2 → bit w.data.toNat 0 = true → s.rf F.MAC_CTL_EN 0 m = 1 →
    ∃ t, exec (.macModeWrite m w false) s = .next t ∧ t.rf F.MAC_CTL_MODE 0 m = min 2 (bits w.data.toNat 11 10) ∧
      t.rf F.MAC_CTL_MAX_FRAME 0 m = max 64 (min 9600 (bits w.data.toNat 33 20)) ∧ t.rf F.MAC_CTL_EN 0 m = 1 ∧
      t.rw .MAC_LAT 0 m = mget s.macLatFuse (m * 4 + min 2 (bits w.data.toNat 11 10)) 0 % 2 ^ 32 ∧
      OnlyRegs s t [⟨.MAC_CTL, 0, m, 0⟩, ⟨.MAC_LAT, 0, m, 0⟩] :) ∧
  (∀ (s : State) (m sp : Nat) (l : Bool), s.rf F.MAC_CTL_EN 0 m = 1 → s.rf F.MAC_CTL_MODE 0 m = 2 → s.macP0 m = true →
    ∃ t, exec (.macBlockLock m l false sp) s = .next t ∧ t.rf F.MAC_STAT_BLOCK_LOCK 0 m = b2n l ∧ t.rf F.MAC_STAT_LINK_UP 0 m = b2n l ∧
      t.rf F.MAC_STAT_SPEED 0 m = 3 ∧ OnlyRegs s t [⟨.MAC_STAT, 0, m, 0⟩] :) ∧
  (∀ (s : State) (m : Nat) (x : Txn), s.atDie 0 x = true → x.op = .write → 0x0F038000 + m * 0x40 ≤ addrLocal x.addr → m < 4 →
    addrLocal x.addr + x.words.length ≤ 0x0F038000 + m * 0x40 + 0x40 → (x.words.all fun w => w.tag.toNat < 2) = true →
    x.words ≠ [] → (s.mac m).txBuf.length + x.words.length ≤ 4096 →
    ∃ t, exec (.macTxWindowWrite x) s = .next t ∧ (t.mac m).txBuf = (s.mac m).txBuf ++ x.words ∧ (t.mac m).rxBuf = (s.mac m).rxBuf ∧
      t.inFlight = s.inFlight.erase x ∧ (if x.vc = .streams then t.credits = s.credits ++ [(x, x.words.length)] else t.credits = s.credits) ∧
      t = { s with macs := t.macs, inFlight := t.inFlight, credits := t.credits } :) ∧
  (∀ (s : State) (m a : Nat) (h : TWord) (ws rest : List TWord), s.rf F.MAC_CTL_EN 0 m = 1 → s.rf F.MAC_STAT_LINK_UP 0 m = 1 →
    s.rf F.MAC_STAT_PAUSED 0 m = 0 → (s.mac m).txBuf = h :: ws ++ rest → ((h :: ws ++ rest).findIdx fun w => w.tag == tagEnd) = ws.length →
    ws ≠ [] → txHeaderOk h.data.toNat ws.length (s.rf F.MAC_CTL_MAX_FRAME 0 m) = true → bits h.data.toNat 17 16 = 0 →
    s.rf F.MAC_TX_FRAME_CNT_COUNT 0 m < 2 ^ 40 - 1 →
    s.macLoop m = 0 →
    ∃ t, exec (.macTxFrame m a) s = .next t ∧ (t.mac m).txBuf = rest ∧
      (t.mac m).sent = bytesOf ws (bits h.data.toNat 13 0) ++ List.replicate (60 - bits h.data.toNat 13 0) 0 ∧
      t.rf F.MAC_TX_FRAME_CNT_COUNT 0 m = s.rf F.MAC_TX_FRAME_CNT_COUNT 0 m + 1 ∧ t = { s with regs := t.regs, macs := t.macs } ∧
      RegsKept s t [⟨.MAC_TX_FRAME_CNT, 0, m, 0⟩] :) ∧
  (∀ (s : State) (m a : Nat) (h : TWord) (ws rest : List TWord), s.rf F.MAC_CTL_EN 0 m = 1 →
    (s.mac m).txBuf = h :: ws ++ rest → ((h :: ws ++ rest).findIdx fun w => w.tag == tagEnd) = ws.length →
    ws ≠ [] → bit h.data.toNat 17 = false → txHeaderOk h.data.toNat ws.length (s.rf F.MAC_CTL_MAX_FRAME 0 m) = false →
    s.rf F.MAC_TX_DROP_CNT_COUNT 0 m < 2 ^ 32 - 1 →
    ∃ t, exec (.macTxFrame m a) s = .next t ∧ (t.mac m).txBuf = rest ∧ (t.mac m).sent = (s.mac m).sent ∧
      t.rf F.MAC_TX_DROP_CNT_COUNT 0 m = s.rf F.MAC_TX_DROP_CNT_COUNT 0 m + 1 ∧ t = { s with regs := t.regs, macs := t.macs } ∧
      RegsKept s t [⟨.MAC_TX_DROP_CNT, 0, m, 0⟩] :) ∧
  (∀ (s : State) (m a : Nat) (bs : List Nat), s.rf F.MAC_CTL_EN 0 m = 1 → s.rf F.MAC_STAT_LINK_UP 0 m = 1 → 60 ≤ bs.length →
    bs.length + 4 ≤ s.rf F.MAC_CTL_MAX_FRAME 0 m → (s.mac m).rxBuf.length + (s.rxWords bs a).length ≤ 8192 →
    s.rf F.MAC_RX_FRAME_CNT_COUNT 0 m < 2 ^ 40 - 1 →
    s.macLoop m = 0 →
    ∃ t, exec (.macRxFrame m bs true a) s = .next t ∧ (t.mac m).rxBuf = (s.mac m).rxBuf ++ s.rxWords bs a ∧
      t.rf F.MAC_RX_FRAME_CNT_COUNT 0 m = s.rf F.MAC_RX_FRAME_CNT_COUNT 0 m + 1 ∧ t = { s with regs := t.regs, macs := t.macs } ∧
      RegsKept s t [⟨.MAC_RX_FRAME_CNT, 0, m, 0⟩] :) ∧
  (∀ (s : State) (m a : Nat) (bs : List Nat), s.rf F.MAC_CTL_EN 0 m = 1 → s.rf F.MAC_STAT_LINK_UP 0 m = 1 →
    s.rf F.MAC_FCS_ERR_CNT_COUNT 0 m < 2 ^ 32 - 1 →
    s.macLoop m = 0 →
    ∃ t, exec (.macRxFrame m bs false a) s = .next t ∧ t.rf F.MAC_FCS_ERR_CNT_COUNT 0 m = s.rf F.MAC_FCS_ERR_CNT_COUNT 0 m + 1 ∧
      OnlyRegs s t [⟨.MAC_FCS_ERR_CNT, 0, m, 0⟩] :) ∧
  (∀ (s : State) (m a : Nat) (bs : List Nat), s.rf F.MAC_CTL_EN 0 m = 1 → s.rf F.MAC_STAT_LINK_UP 0 m = 1 → 60 ≤ bs.length →
    bs.length + 4 ≤ s.rf F.MAC_CTL_MAX_FRAME 0 m → 8192 < (s.mac m).rxBuf.length + (s.rxWords bs a).length →
    s.macLoop m = 0 →
    ∃ t, exec (.macRxFrame m bs true a) s = .next t ∧ t.faultLine = s.faultLine ++ [faultEv .macRxOverflow 0 m 0] ∧
      OnlyRegsEv s t [⟨.MAC_RX_DROP_CNT, 0, m, 0⟩] :) ∧
  (∀ (s s1 : State) (m : Nat) (x : Txn), s.atDie 0 x = true → x.op = .read → 0x0F039000 + m * 0x40 ≤ addrLocal x.addr → m < 4 → 0 < x.len →
    addrLocal x.addr + x.len ≤ 0x0F039000 + m * 0x40 + 0x40 → s.arrive x = some s1 →
    ∃ t, exec (.macRxWindowRead x) s = .next t ∧ (t.mac m).rxBuf = (s.mac m).rxBuf.drop x.len ∧
      Responded s t ⟨false, x.srcDie, x.master, x.rtag, 0,
        (s.mac m).rxBuf.take x.len ++ List.replicate (x.len - (s.mac m).rxBuf.length) noWord⟩ ∧
      t = { s1 with macs := t.macs, resps := t.resps, net := t.net } :) ∧
  (∀ (s : State) (m a : Nat) (bs : List Nat), s.rf F.MAC_CTL_EN 0 m = 1 → s.rf F.MAC_STAT_LINK_UP 0 m = 1 → s.rf F.MAC_CTL_PAUSE_EN 0 m = 1 →
    60 ≤ bs.length → bs.length + 4 ≤ s.rf F.MAC_CTL_MAX_FRAME 0 m → (s.mac m).rxBuf.length + (s.rxWords bs a).length ≤ 8192 →
    s.macLoop m = 0 →
    ∃ t, exec (.pauseFrame m bs a) s = .next t ∧ t.rf F.MAC_STAT_PAUSED 0 m = (if be16 bs 16 = 0 then 0 else 1) ∧
      (t.mac m).rxBuf = (s.mac m).rxBuf ++ s.rxWords bs a ∧ t = { s with regs := t.regs, macs := t.macs } ∧
      RegsKept s t [⟨.MAC_STAT, 0, m, 0⟩, ⟨.MAC_RX_FRAME_CNT, 0, m, 0⟩] :) ∧
  (∀ (s : State) (m a : Nat) (bs : List Nat) (g : Bool), s.rf F.MAC_CTL_EN 0 m = 1 → s.rf F.MAC_STAT_LINK_UP 0 m = 1 → s.macLoop m = 1 →
    exec (.macRxFrame m bs g a) s = .next s :) ∧
  (∀ (s : State) (m : Nat), ∃ t, exec (.pauseExpiry m) s = .next t ∧ t.rf F.MAC_STAT_PAUSED 0 m = 0 ∧
    t.rf F.MAC_STAT_LINK_UP 0 m = s.rf F.MAC_STAT_LINK_UP 0 m ∧ OnlyRegs s t [⟨.MAC_STAT, 0, m, 0⟩] :) ∧
  (∀ (s s1 : State) (m : Nat) (x : Txn) (e f : TsEntry) (rest : List TsEntry), s.atDie 0 x = true → x.op = .read → x.len = 1 → m < 4 →
    addrLocal x.addr = 0x0F030804 + m * 0x40 → s.arrive x = some s1 → (s.mac m).ts = e :: f :: rest → f.time < 2 ^ 48 → rest.length < 15 →
    ∃ t, exec (.macTsTimeRead m x) s = .next t ∧ (t.mac m).ts = f :: rest ∧ t.rw .MAC_TS_TIME 0 m = f.time ∧
      t.rf F.MAC_TS_ID_VALID 0 m = 1 ∧ t.rf F.MAC_TS_ID_SEQ_ID 0 m = f.seqId % 65536 ∧ t.rf F.MAC_STAT_TS_LEVEL 0 m = rest.length + 1 ∧
      Responded s t ⟨false, x.srcDie, x.master, x.rtag, 0, [⟨s.reg ⟨.MAC_TS_TIME, 0, m, 0⟩, tagData⟩]⟩ ∧
      t = { s1 with regs := t.regs, macs := t.macs, resps := t.resps, net := t.net } ∧
      RegsKept s t [⟨.MAC_STAT, 0, m, 0⟩, ⟨.MAC_TS_ID, 0, m, 0⟩, ⟨.MAC_TS_TIME, 0, m, 0⟩] :)

/-- A Saette link claims its lanes, comes up on the third HELLO, retrains at a narrower width keeping what it holds, and is
lost with its channels (R24, R604, R605, R664, R672, R673, R674, R676, R711, R712, R717). -/
def Obligations.SaetteLinksComeUpRetrainAndFail : Prop :=
  (∀ (s : State) (l b : Nat) (w : TWord), 3 ≤ l → l < 8 → w.tag.toNat < 2 → bit w.data.toNat 0 = true → bit w.data.toNat 15 = false →
    s.slLanesOk (bits w.data.toNat 7 6) (bits w.data.toNat 11 8) = true → s.rf F.SL_CTL_EN 0 l = 0 → (s.rf F.SL_STAT_STATE 0 l = 0 ∨ s.rf F.SL_STAT_STATE 0 l = 4) → s.fm.shut = [] →
    bits w.data.toNat 11 8 = b → (∀ i, i < 16 → s.rf F.LANE_STAT_OWNER 0 i = 0) →
    ∃ t, exec (.saetteLinkEnable l ⟨w, none⟩) s = .next t ∧ t.rf F.SL_CTL_EN 0 l = 1 ∧ t.rf F.SL_STAT_STATE 0 l = 1 ∧ t.rf F.SL_STAT_NEXT_SEQ 0 l = 0 ∧
      (∀ i, i < 16 → t.rf F.LANE_STAT_OWNER 0 i = (if b ≤ i ∧ i < b + 2 ^ bits w.data.toNat 7 6 then 4 else 0)) ∧
      (∀ i, b ≤ i → i < b + 2 ^ bits w.data.toNat 7 6 → t.rf F.LANE_STAT_OWNER_INDEX 0 i = l) ∧
      t = { s with regs := t.regs, lanes := t.lanes, links := t.links } ∧
      RegsKept s t (⟨.SL_CTL, 0, l, 0⟩ :: ⟨.SL_STAT, 0, l, 0⟩ :: (List.range 16).flatMap fun i => [⟨.LANE_CTL, 0, i, 0⟩, ⟨.LANE_STAT, 0, i, 0⟩]) :) ∧
  (∀ (s : State) (l : Nat) (w : TWord), l ≤ 2 → s.roleWants l = true → (s.rf F.SL_STAT_STATE 0 l = 0 ∨ s.rf F.SL_STAT_STATE 0 l = 4) →
    s.fm.shut = [] → (∀ i, i < 16 → s.rf F.LANE_STAT_OWNER 0 i = 0) →
    ∃ t, exec (.roleLinkRetry l) s = .next t ∧ exec (.saetteLinkEnable l ⟨w, none⟩) s = .next t ∧ t.rf F.SL_CTL_EN 0 l = 1 ∧ t.rf F.SL_STAT_STATE 0 l = 1 ∧
      t.rf F.SL_STAT_NEXT_SEQ 0 l = 0 ∧ (∀ i, i ∈ s.linkLanes l → t.rf F.LANE_STAT_OWNER 0 i = l + 1) ∧
      t = { s with regs := t.regs, lanes := t.lanes, links := t.links } :) ∧
  (∀ (s : State) (l : Nat), (s.rf F.SL_STAT_STATE 0 l = 0 ∨ s.rf F.SL_STAT_STATE 0 l = 4) → s.rf F.SL_CTL_EN 0 l = 1 →
    s.fm.shut.contains l = false → s.lanesOwned l = true →
    ∃ t, exec (.linkBringupRetry l) s = .next t ∧ t.rf F.SL_STAT_STATE 0 l = 1 ∧ t.rf F.SL_STAT_NEXT_SEQ 0 l = 0 ∧ (t.sl l).replay = [] ∧
      t.lanesOwned l = true ∧ t = { s with regs := t.regs, lanes := t.lanes, links := t.links } :) ∧
  (∀ (s : State) (l x : Nat) (p : Bool), s.rf F.SL_STAT_STATE 0 l = 1 → cellGood x = true → cellKind x = .linkCtl → cellType x = 1 →
    2 ≤ (s.sl l).hello → ((s.linkLanes l).all fun k => s.rf F.LANE_STAT_PSTATE 0 k == 0) = true → bits x 75 74 = s.rf F.SL_CTL_RATE 0 l →
    bits x 73 72 = s.linkWidth l → l ≠ 2 → s.rf F.DEV_ROLE_ROLE 0 ≠ 2 → (l ≤ 1 → bits x 182 181 = 2) → bits x 87 79 ≠ s.devNum % 512 →
    ∃ t, exec (.hello l x ⟨p, []⟩) s = .next t ∧ t.rf F.SL_STAT_STATE 0 l = 2 ∧ t.rf F.SL_STAT_WIDTH_NOW 0 l = s.linkWidth l ∧
      t.rf F.SL_STAT_LANES 0 l = 2 ^ 2 ^ s.linkWidth l - 1 ∧ t.rf F.SL_PEER_VALID 0 l = 1 ∧ t.rf F.SL_PEER_DEVNUM 0 l = bits x 87 79 ∧
      t.rf F.SL_PEER_PART_CODE 0 l = bits x 95 88 ∧ t.rf F.SL_PEER_ROLE 0 l = bits x 182 181 ∧ t = { s with regs := t.regs, links := t.links } ∧
      RegsKept s t [⟨.SL_STAT, 0, l, 0⟩, ⟨.SL_PEER, 0, l, 0⟩, ⟨.SL_REPLAY_CNT, 0, l, 0⟩] :) ∧
  (∀ (s : State) (l x : Nat) (p : Bool), s.rf F.SL_STAT_STATE 0 l = 1 → cellGood x = true → cellKind x = .linkCtl → cellType x = 1 →
    2 ≤ (s.sl l).hello → ((s.linkLanes l).all fun k => s.rf F.LANE_STAT_PSTATE 0 k == 0) = true → bits x 75 74 = s.rf F.SL_CTL_RATE 0 l →
    bits x 73 72 = s.linkWidth l → l ≤ 1 → s.rf F.DEV_ROLE_ROLE 0 ≠ 2 → bits x 182 181 ≠ 2 →
    ∃ t, exec (.hello l x ⟨p, []⟩) s = .next t ∧ t.rf F.SL_STAT_STATE 0 l = 0 ∧ t.rf F.SL_PEER_VALID 0 l = 0 ∧ faultEv .roleMismatch 0 l 0 ∈ t.faultLine :) ∧
  (∀ (s : State) (l x : Nat), s.rf F.SL_STAT_STATE 0 l = 2 → cellGood x = true → cellKind x = .linkCtl → cellType x = 0 → l ≠ 2 →
    ∃ t, exec (.linkCtl l x) s = .next t ∧ (t.sl l).replay = (s.sl l).replay.drop (ackedCells (s.sl l).replay (bits x 199 188)) ∧
      (t.sl l).sent = (if bit x 187 then 0 else (s.sl l).sent - ackedCells (s.sl l).replay (bits x 199 188)) ∧
      t.rf F.SL_STAT_PEER_ACK 0 l = bits x 199 188 ∧ t.rf F.SL_STAT_STATE 0 l = 2 ∧ t.rf F.SL_PEER_ACTIVE 0 l = bits x 183 183 ∧
      t.rf F.SL_PEER_ROLE 0 l = bits x 182 181 ∧ t = { s with regs := t.regs, links := t.links } ∧
      RegsKept s t [⟨.SL_STAT, 0, l, 0⟩, ⟨.SL_PEER, 0, l, 0⟩, ⟨.SL_REPLAY_CNT, 0, l, 0⟩] :) ∧
  (∀ (s : State) (l i : Nat), s.rf F.SL_STAT_STATE 0 l = 2 → bit (s.sl l).good i = true → (s.sl l).good ≠ 2 ^ i →
    ∃ t, exec (.saetteLaneLost l i) s = .next t ∧ t.rf F.SL_STAT_STATE 0 l = 3 ∧ (t.sl l).good = (s.sl l).good - 2 ^ i ∧
      (t.sl l).replay = (s.sl l).replay ∧ (t.sl l).rxNext = (s.sl l).rxNext ∧ t.faultLine = s.faultLine ++ [faultEv .saetteLinkDegraded 0 l 0] ∧
      t = { s with regs := t.regs, links := t.links, faultLine := t.faultLine } ∧ RegsKept s t [⟨.SL_STAT, 0, l, 0⟩, ⟨.SL_RETRAIN_CNT, 0, l, 0⟩] :) ∧
  (∀ (s : State) (l : Nat) (w : TWord), w.tag.toNat < 2 → bit w.data.toNat 15 = true → s.rf F.SL_STAT_STATE 0 l = 2 →
    (3 ≤ l → s.slLanesOk (bits w.data.toNat 7 6) (bits w.data.toNat 11 8) = true ∧ s.rf F.SL_CTL_EN 0 l = 1 ∧ bit w.data.toNat 0 = true) →
    ∃ t, exec (.slRetrainWrite l w) s = .next t ∧ t.rf F.SL_STAT_STATE 0 l = 3 ∧ t.rf F.SL_CTL_RETRAIN 0 l = 1 ∧
      t.rf F.SL_CTL_EN 0 l = s.rf F.SL_CTL_EN 0 l ∧ (t.sl l).replay = (s.sl l).replay ∧ (t.sl l).rxNext = (s.sl l).rxNext ∧
      t = { s with regs := t.regs, links := t.links } ∧
      RegsKept s t [⟨.SL_CTL, 0, l, 0⟩, ⟨.SL_STAT, 0, l, 0⟩, ⟨.SL_RETRAIN_CNT, 0, l, 0⟩] :) ∧
  (∀ (s : State) (l x pg v g : Nat), (s.rf F.SL_STAT_STATE 0 l = 2 ∨ s.rf F.SL_STAT_STATE 0 l = 3) → cellGood x = true → cellKind x = .linkCtl →
    cellType x = 2 → laneGroup ((s.sl l).good &&& pg)
      (if s.rf F.SL_CTL_RETRAIN 0 l = 1 ∨ s.linkWidth l = s.rf F.SL_STAT_WIDTH_NOW 0 l then s.linkWidth l else s.rf F.SL_STAT_WIDTH_NOW 0 l) =
      some (v, g) →
    ∃ t, exec (.retrain l x pg) s = .next t ∧ t.rf F.SL_STAT_STATE 0 l = 2 ∧ t.rf F.SL_STAT_WIDTH_NOW 0 l = v % 4 ∧
      t.rf F.SL_STAT_LANES 0 l = (2 ^ 2 ^ v - 1) * 2 ^ (2 ^ v * g) % 256 ∧ t.rf F.SL_CTL_RETRAIN 0 l = 0 ∧
      (t.sl l).replay = (s.sl l).replay.drop (ackedCells (s.sl l).replay (bits x 199 188)) ∧ (t.sl l).sent = 0 ∧
      (t.sl l).rxNext = (s.sl l).rxNext ∧ t = { s with regs := t.regs, links := t.links } :) ∧
  (∀ (s : State) (l : Nat), (s.rf F.SL_STAT_STATE 0 l = 2 ∨ s.rf F.SL_STAT_STATE 0 l = 3) →
    ∃ t, exec (.saetteLinkLost l) s = .next t ∧ t.rf F.SL_STAT_STATE 0 l = 4 ∧ t.rf F.SL_PEER_VALID 0 l = 0 ∧ t.sl l = Sl.init ∧
      (∀ c, c < 64 → s.rf F.SC_CTL_LINK 0 c = l → t.rf F.SC_STAT_TX_STATE 0 c = 0 ∧ t.rf F.SC_STAT_RX_STATE 0 c = 0) ∧
      (∀ c, s.rf F.SC_CTL_LINK 0 c ≠ l → t.sc c = s.sc c) ∧ faultEv .saetteLinkLost 0 l 0 ∈ t.faultLine ∧
      t =
        { s with regs := t.regs, mem := t.mem, faultLine := t.faultLine, links := t.links, lanes := t.lanes, scs := t.scs, gw := t.gw, resps := t.resps, ctxs := t.ctxs, landing := t.landing, inFlight := t.inFlight, net := t.net } :) ∧
  (∀ (s : State) (l : Nat), s.rf F.SL_STAT_STATE 0 l = 2 → s.rf F.SL_STAT_WIDTH_NOW 0 l = 0 → (s.sl l).sent < (s.sl l).replay.length →
    (∀ n, n < 16 → (s.lane n).inject = 0) →
    ∃ t, exec (.slotTransmit l) s = .next t ∧ t.sl l = { s.sl l with slot := [(s.sl l).replay.getD (s.sl l).sent 0], sent := (s.sl l).sent + 1 } ∧
      (∃ st, (t.pcsOf l).sent = [(scrambleBlocks st ((if 16384 ≤ (s.pcsOf l).since then [(2, markerOf 0 0)] else []) ++
        cellBlocks ((s.sl l).replay.getD (s.sl l).sent 0))).1]) ∧
      (t.pcsOf l).since = (if 16384 ≤ (s.pcsOf l).since then 4 else (s.pcsOf l).since + 4) ∧
      (∀ k, k ≠ l → t.sl k = s.sl k ∧ t.pcsOf k = s.pcsOf k) ∧ t = { s with links := t.links, pcs := t.pcs } :) ∧
  (∀ (s : State) (l : Nat), (s.rf F.SL_STAT_STATE 0 l = 1 ∨ s.rf F.SL_STAT_STATE 0 l = 3) →
    ∃ t, exec (.slotTransmit l) s = .next t ∧
      t.sl l = { s.sl l with slot := List.replicate (2 ^ s.linkWidth l) (s.linkCtlCell l), nakDue := false } ∧
      (∀ k, k ≠ l → t.sl k = s.sl k ∧ t.pcsOf k = s.pcsOf k) ∧ t = { s with links := t.links, pcs := t.pcs, lanes := t.lanes } :) ∧
  (∀ (n st w : Nat), descramble n st (scramble n st w).1 = (w % 2 ^ n, (scramble n st w).2) :) ∧
  (∀ (s : State) (l x : Nat) (p : Bool) (lanes : List (List Block)), lanes ≠ [] → deskew (s.linkWidth l) lanes = none →
    exec (.hello l x ⟨p, lanes⟩) s = .next s :) ∧
  (∀ (s : State) (l b r : Nat) (w : TWord), 3 ≤ l → l < 8 → r ≤ 2 → w.tag.toNat < 2 → bit w.data.toNat 0 = true → bit w.data.toNat 15 = false →
    s.slLanesOk (bits w.data.toNat 7 6) (bits w.data.toNat 11 8) = true → s.rf F.SL_CTL_EN 0 l = 0 →
    (s.rf F.SL_STAT_STATE 0 l = 0 ∨ s.rf F.SL_STAT_STATE 0 l = 4) → (s.rf F.SL_STAT_STATE 0 r = 0 ∨ s.rf F.SL_STAT_STATE 0 r = 4) →
    s.fm.shut = [] → s.roleWants r = true → (∀ i, i < 16 → s.rf F.LANE_STAT_OWNER 0 i = 0) → b ∈ s.linkLanes r → bits w.data.toNat 11 8 = b →
    ∃ t, exec (.saetteLinkEnable l ⟨w, some r⟩) s = .next t ∧ t.rf F.SL_STAT_STATE 0 r = 1 ∧ t.rf F.SL_STAT_STATE 0 l = 0 ∧
      (∀ i, i ∈ s.linkLanes r → t.rf F.LANE_STAT_OWNER 0 i = r + 1) ∧ faultEv .laneClaimRefused 0 b 0 ∈ t.faultLine :)

/-- A Saette channel's halves are enabled, opened, flushed, switched and closed by registers and by channel messages (R681,
R686, R687, R695, R696, R704, R706, R709, R713). -/
def Obligations.SaetteChannelsOpenAndClose : Prop :=
  (∀ (s : State) (c : Nat) (w : TWord), w.tag.toNat < 2 → bits w.data.toNat 47 44 = 0 → bits w.data.toNat 1 0 = 2 → s.scIdle c = true →
    s.bufOk c true false false = true →
    ∃ t, exec (.channelEnableWrite c w) s = .next t ∧ t.rf F.SC_CTL_TX_EN 0 c = 1 ∧ t.rf F.SC_CTL_RX_EN 0 c = 0 ∧
      t.rf F.SC_CTL_MAX_FRAME 0 c = max 1 (min 65536 (bits w.data.toNat 34 18)) ∧ t.rf F.SC_CTL_LINK 0 c = bits w.data.toNat 17 15 ∧
      t.rf F.SC_CTL_SPEC 0 c = bits w.data.toNat 14 14 ∧ t.rf F.SC_CTL_SECURE 0 c = bits w.data.toNat 13 13 ∧ (t.sc c).txLen = 0 ∧
      (∀ k, k ≠ c → t.sc k = s.sc k) ∧ t = { s with regs := t.regs, scs := t.scs } ∧ RegsKept s t [⟨.SC_CTL, 0, c, 0⟩] :) ∧
  (∀ (s : State) (c : Nat) (w : TWord), w.tag.toNat < 2 → bits w.data.toNat 47 44 = 0 → bits w.data.toNat 1 0 = 2 → s.scIdle c = true →
    s.bufOk c true false false = false →
    ∃ t, exec (.channelEnableWrite c w) s = .next t ∧ t.rf F.SC_CTL_TX_EN 0 c = 0 ∧ t.rf F.SC_STAT_BUF_ERR 0 c = 1 ∧
      OnlyRegs s t [⟨.SC_CTL, 0, c, 0⟩, ⟨.SC_STAT, 0, c, 0⟩] :) ∧
  (∀ (s : State) (c : Nat) (w : TWord), w.tag.toNat < 2 → bits w.data.toNat 47 44 = 8 → bit w.data.toNat 1 = true →
    b2n (bit w.data.toNat 0) = s.rf F.SC_CTL_RX_EN 0 c → s.rf F.SC_CTL_TX_EN 0 c = 1 → s.rf F.SC_STAT_TX_STATE 0 c = 0 →
    s.linkUp (s.rf F.SC_CTL_LINK 0 c) = true → s.rf F.SC_CTL_LINK 0 c ≠ 2 →
    (s.rf F.SC_CTL_SECURE 0 c = 1 → s.rf F.SK_CTL_VALID 0 (s.rf F.SC_KEY_TX_SLOT 0 c) = 1) →
    ∃ t, exec (.txOpen c w) s = .next t ∧ t.rf F.SC_STAT_TX_STATE 0 c = 1 ∧ t.rf F.SC_CTL_TX_OPEN 0 c = 1 ∧ (t.sc c).txLen = (s.sc c).txLen ∧
      (t.sc c).msgs = [2 ^ 196 + (s.rf F.SC_CTL_MAX_FRAME 0 c + s.rf F.SC_CTL_SECURE 0 c * 2 ^ 17 + 2 ^ 18)] ∧ (t.sc c).rx = (s.sc c).rx ∧
      (∀ k, k ≠ c → t.sc k = s.sc k) ∧ t = { s with regs := t.regs, scs := t.scs } ∧ RegsKept s t [⟨.SC_CTL, 0, c, 0⟩, ⟨.SC_STAT, 0, c, 0⟩] :) ∧
  (∀ (s : State) (c : Nat) (w : TWord), w.tag.toNat < 2 → bits w.data.toNat 47 44 = 8 → bit w.data.toNat 1 = true →
    b2n (bit w.data.toNat 0) = s.rf F.SC_CTL_RX_EN 0 c → s.rf F.SC_CTL_TX_EN 0 c = 1 → s.rf F.SC_STAT_TX_STATE 0 c = 0 →
    s.linkUp (s.rf F.SC_CTL_LINK 0 c) = false →
    ∃ t, exec (.txOpen c w) s = .next t ∧ t.rf F.SC_STAT_TX_STATE 0 c = 0 ∧ t.rf F.SC_STAT_REFUSE_CAUSE 0 c = 6 ∧
      t.faultLine = s.faultLine ++ [faultEv .saetteOpenRefused 0 c 0] ∧ OnlyRegsEv s t [⟨.SC_CTL, 0, c, 0⟩, ⟨.SC_STAT, 0, c, 0⟩] :) ∧
  (∀ (s : State) (c : Nat) (w : TWord), w.tag.toNat < 2 → bits w.data.toNat 47 44 = 4 → bit w.data.toNat 1 = true →
    b2n (bit w.data.toNat 0) = s.rf F.SC_CTL_RX_EN 0 c → s.rf F.SC_CTL_TX_EN 0 c = 1 → s.rf F.SC_STAT_TX_STATE 0 c = 2 →
    ∃ t, exec (.txClose c w) s = .next t ∧ t.rf F.SC_CTL_TX_CLOSE 0 c = 1 ∧
      (if (s.sc c).txWire = [] ∧ (s.sc c).gcmDue = none then
        t.rf F.SC_STAT_TX_STATE 0 c = 3 ∧ (t.sc c).msgs = (s.sc c).msgs ++ [4 * 2 ^ 196 + (s.sc c).txCtr % 2 ^ 196]
      else t.rf F.SC_STAT_TX_STATE 0 c = 2 ∧ t.sc c = s.sc c) ∧
      t = { s with regs := t.regs, scs := t.scs } ∧ RegsKept s t [⟨.SC_CTL, 0, c, 0⟩, ⟨.SC_STAT, 0, c, 0⟩] :) ∧
  (∀ (s : State) (l x c : Nat), s.cellDue l x = true → cellKind x = .channelCtl → cellMsg x = 1 → cellChannel x = c → s.forwards c = false →
    s.rf F.SC_CTL_LINK 0 c = l → l ≠ 2 → s.openCause c (bits (cellBody x) 16 0) (bit (cellBody x) 17) = 0 →
    ∃ t, exec (.openCell l x) s = .next t ∧ t.rf F.SC_STAT_RX_STATE 0 c = 1 ∧ t.rf F.SC_STAT_RX_LEVEL 0 c = 0 ∧ (t.sc c).rx = [] ∧
      (t.sc c).msgs = (s.sc c).msgs ++ [2 * 2 ^ 196 + s.rxSize c] ∧ (t.sc c).rxCtr = 0 ∧ TookCell s t l c [⟨.SC_STAT, 0, c, 0⟩] :) ∧
  (∀ (s : State) (l x c : Nat), s.cellDue l x = true → cellKind x = .channelCtl → cellMsg x = 1 → cellChannel x = c → s.forwards c = false →
    s.rf F.SC_CTL_LINK 0 c = l → l ≠ 2 → s.openCause c (bits (cellBody x) 16 0) (bit (cellBody x) 17) ≠ 0 →
    ∃ t, exec (.openCell l x) s = .next t ∧
      t.sc c = { s.sc c with msgs := (s.sc c).msgs ++ [3 * 2 ^ 196 + s.openCause c (bits (cellBody x) 16 0) (bit (cellBody x) 17)] } ∧
      TookCell s t l c [] :) ∧
  (∀ (s : State) (l x c : Nat), s.cellDue l x = true → cellKind x = .channelCtl → cellMsg x = 2 → cellChannel x = c → s.fwdOut c l = false →
    s.rf F.SC_CTL_LINK 0 c = l → s.rf F.SC_STAT_TX_STATE 0 c = 1 → s.rf F.SC_CTL_TX_CLOSE 0 c = 0 →
    ∃ t, exec (.openAck l x) s = .next t ∧ t.rf F.SC_STAT_TX_STATE 0 c = 2 ∧ t.rf F.SC_STAT_TX_CREDIT 0 c = bits (cellBody x) 18 0 ∧
      t.rf F.SC_CTL_TX_OPEN 0 c = 0 ∧ (t.sc c).ceil = bits (cellBody x) 18 0 ∧ (t.sc c).txCtr = 0 ∧
      TookCell s t l c [⟨.SC_CTL, 0, c, 0⟩, ⟨.SC_STAT, 0, c, 0⟩] :) ∧
  (∀ (s : State) (l x c : Nat), s.cellDue l x = true → cellKind x = .channelCtl → cellMsg x = 3 → cellChannel x = c → s.fwdOut c l = false →
    s.rf F.SC_CTL_LINK 0 c = l → s.rf F.SC_STAT_TX_STATE 0 c = 1 →
    ∃ t, exec (.openRefuse l x) s = .next t ∧ t.rf F.SC_STAT_TX_STATE 0 c = 0 ∧ t.rf F.SC_STAT_REFUSE_CAUSE 0 c = bits (cellBody x) 3 0 ∧
      t.faultLine = s.faultLine ++ [faultEv .saetteOpenRefused 0 c 0] ∧ (t.sl l).rxNext = ((s.sl l).rxNext + 1) % 4096 ∧
      t = { s with regs := t.regs, links := t.links, faultLine := t.faultLine } ∧ RegsKept s t [⟨.SC_CTL, 0, c, 0⟩, ⟨.SC_STAT, 0, c, 0⟩] :) ∧
  (∀ (s : State) (l x c : Nat), s.cellDue l x = true → cellKind x = .channelCtl → cellMsg x = 4 → cellChannel x = c → s.forwards c = false →
    s.rf F.SC_CTL_LINK 0 c = l → s.rf F.SC_STAT_RX_STATE 0 c = 1 → (s.sc c).owed = 0 →
    ∃ t, exec (.closeCell l x) s = .next t ∧
      (if (s.sc c).rx = [] then t.rf F.SC_STAT_RX_STATE 0 c = 0 ∧ t.sc c = { s.sc c with msgs := (s.sc c).msgs ++ [5 * 2 ^ 196] }
      else t.rf F.SC_STAT_RX_STATE 0 c = 2 ∧ t.sc c = s.sc c) ∧ TookCell s t l c [⟨.SC_STAT, 0, c, 0⟩] :) ∧
  (∀ (s : State) (l x c : Nat), s.cellDue l x = true → cellKind x = .channelCtl → cellMsg x = 5 → cellChannel x = c → s.fwdOut c l = false →
    s.rf F.SC_CTL_LINK 0 c = l → s.rf F.SC_STAT_TX_STATE 0 c = 3 →
    ∃ t, exec (.closeAck l x) s = .next t ∧ t.rf F.SC_STAT_TX_STATE 0 c = 0 ∧ t.rf F.SC_CTL_TX_CLOSE 0 c = 0 ∧ t.sc c = s.sc c ∧
      TookCell s t l c [⟨.SC_CTL, 0, c, 0⟩, ⟨.SC_STAT, 0, c, 0⟩] :) ∧
  (∀ (s : State) (l x c : Nat) (f : RxFrame), s.cellDue l x = true → cellKind x = .channelCtl → cellMsg x = 8 → cellChannel x = c →
    s.forwards c = false → s.rf F.SC_CTL_LINK 0 c = l → s.rf F.SC_STAT_RX_STATE 0 c = 1 → (s.sc c).frames.getLast? = some f → f.ended = false →
    ∃ t, exec (.flush l x) s = .next t ∧ (t.sc c).rx = ((s.sc c).rx.filter fun e => e.2 ≠ f.id) ∧
      (t.sc c).frames = ((s.sc c).frames.filter fun g => g.id ≠ f.id) ∧ (t.sc c).rxCtr = ((s.sc c).rxCtr + 1) % 2 ^ 64 ∧
      t.rf F.SC_STAT_RX_STATE 0 c = 1 ∧ TookCell s t l c [⟨.SC_STAT, 0, c, 0⟩] :) ∧
  (∀ (s : State) (c : Nat) (w : TWord), w.tag.toNat < 2 → bits w.data.toNat 47 44 = 2 → bit w.data.toNat 1 = true →
    b2n (bit w.data.toNat 0) = s.rf F.SC_CTL_RX_EN 0 c → s.rf F.SC_CTL_TX_EN 0 c = 1 → (s.sc c).txWire = [] →
    ∃ t, exec (.channelFlush c w) s = .next t ∧ (t.sc c).txLen = 0 ∧ (t.sc c).cut = false ∧ (t.sc c).rx = [] ∧ (t.sc c).ready = 0 ∧
      ((t.sc c).frames.all fun f => f.void) = true ∧ t.rf F.SC_CTL_FLUSH 0 c = 0 ∧ t.rf F.SC_STAT_RX_LEVEL 0 c = 0 ∧
      (∀ k, k ≠ c → t.sc k = s.sc k) ∧ t = { s with regs := t.regs, scs := t.scs } ∧ RegsKept s t [⟨.SC_CTL, 0, c, 0⟩, ⟨.SC_STAT, 0, c, 0⟩] :) ∧
  (∀ (s : State) (c : Nat) (w : TWord), w.tag.toNat < 2 → bits w.data.toNat 47 44 = 1 → bit w.data.toNat 1 = true →
    b2n (bit w.data.toNat 0) = s.rf F.SC_CTL_RX_EN 0 c → s.rf F.SC_CTL_TX_EN 0 c = 1 →
    (s.rf F.SC_STAT_TX_STATE 0 c = 2 ∨ s.rf F.SC_STAT_TX_STATE 0 c = 4) → s.rf F.SK_CTL_VALID 0 (s.rf F.SC_KEY_TX_NEXT_SLOT 0 c) = 1 →
    (s.sc c).boundary = true →
    ∃ t, exec (.keySwitchWrite c w) s = .next t ∧ t.rf F.SC_KEY_TX_SLOT 0 c = s.rf F.SC_KEY_TX_NEXT_SLOT 0 c ∧
      t.rf F.SC_TX_SALT_SALT 0 c = s.rf F.SC_TX_NEXT_SALT_SALT 0 c ∧ t.rf F.SC_STAT_TX_STATE 0 c = 2 ∧ t.rf F.SC_CTL_KEY_SWITCH 0 c = 0 ∧
      t.sc c = { s.sc c with txCtr := 0, msgs := (s.sc c).msgs ++ [7 * 2 ^ 196] } ∧ t = { s with regs := t.regs, scs := t.scs } ∧
      RegsKept s t [⟨.SC_CTL, 0, c, 0⟩, ⟨.SC_STAT, 0, c, 0⟩, ⟨.SC_KEY, 0, c, 0⟩, ⟨.SC_TX_SALT, 0, c, 0⟩] :) ∧
  (∀ (s : State) (c : Nat), s.rf F.SC_CTL_TX_CLOSE 0 c = 1 → s.rf F.SC_STAT_TX_STATE 0 c = 2 → (s.sc c).txWire ≠ [] → (s.sc c).cut = false →
    0 < (s.sc c).txLen → s.rf F.SC_CUT_CNT_COUNT 0 c < 2 ^ 32 - 1 →
    ∃ t, exec (.closeCutTimeout c) s = .next t ∧ t.sc c = { s.sc c with cut := true } ∧ (∀ k, k ≠ c → t.sc k = s.sc k) ∧
      t.rf F.SC_CUT_CNT_COUNT 0 c = s.rf F.SC_CUT_CNT_COUNT 0 c + 1 ∧ t.faultLine = s.faultLine ++ [faultEv .saetteFrameCut 0 c 0] ∧
      t = { s with regs := t.regs, scs := t.scs, faultLine := t.faultLine } ∧ RegsKept s t [⟨.SC_CUT_CNT, 0, c, 0⟩] :) ∧
  (∀ (s : State) (c : Nat), s.rf F.SC_CTL_TX_CLOSE 0 c = 1 → s.rf F.SC_STAT_TX_STATE 0 c = 2 → (s.sc c).txWire ≠ [] → (s.sc c).cut = false →
    (s.sc c).txLen = 0 → (s.sc c).gcmDue = none → s.rf F.SC_CTL_KEY_SWITCH 0 c = 0 → (s.sc c).txCtr < 2 ^ 64 - 2 → s.rf F.SC_CUT_CNT_COUNT 0 c < 2 ^ 32 - 1 →
    ∃ t, exec (.closeCutTimeout c) s = .next t ∧ t.rf F.SC_STAT_TX_STATE 0 c = 3 ∧
      t.sc c = { s.sc c with txWire := [], txCtr := (s.sc c).txCtr + 1, msgs := (s.sc c).msgs ++ [8 * 2 ^ 196, 4 * 2 ^ 196 + ((s.sc c).txCtr + 1)] } ∧
      t.rf F.SC_CUT_CNT_COUNT 0 c = s.rf F.SC_CUT_CNT_COUNT 0 c + 1 ∧ t.faultLine = s.faultLine ++ [faultEv .saetteFrameCut 0 c 0] ∧
      t = { s with regs := t.regs, scs := t.scs, faultLine := t.faultLine } ∧ RegsKept s t [⟨.SC_CUT_CNT, 0, c, 0⟩, ⟨.SC_STAT, 0, c, 0⟩] :) ∧
  (∀ (s : State), s.bootSm = false → s.rf F.CABEN_CTL_SAETTE_EN 0 = 1 → s.rf F.SC_STAT_TX_STATE 0 0 = 0 → s.forwards 0 = false →
    s.cfg.fuses.secureEn = false → s.rf F.SC_CTL_TX_EN 0 0 = 1 → s.rf F.SC_CTL_RX_EN 0 0 = 1 → s.rf F.SC_CTL_SECURE 0 0 = 0 →
    s.linkUp (s.rf F.SC_CTL_LINK 0 0) = true → s.rf F.SC_CTL_LINK 0 0 ≠ 2 →
    ∃ t, exec .channel0OpenRetry s = .next t ∧ t.rf F.SC_STAT_TX_STATE 0 0 = 1 ∧ (t.sc 0).msgs = [2 ^ 196 + (s.rf F.SC_CTL_MAX_FRAME 0 0 + 2 ^ 18)] ∧
      t = { s with regs := t.regs, scs := t.scs } ∧ RegsKept s t [⟨.SC_CTL, 0, 0, 0⟩, ⟨.SC_STAT, 0, 0, 0⟩] :)

/-- Words written to a transmit window are sent against credits, received words are stored and read in order with their
credits returned, and frames are checked (R41, R675, R679, R682, R683, R684, R688, R693, R694, R697, R698, R709). -/
def Obligations.SaetteCarriesWordsAndChecksFrames : Prop :=
  (∀ (s : State) (c pa : Nat) (x : Txn) (v : TWord), s.atDie 0 x = true → x.op = .write → x.words = [v] → c < 64 →
    0x0F048000 + c * 0x40 ≤ addrLocal x.addr → addrLocal x.addr < 0x0F048000 + c * 0x40 + 0x40 → v.tag.toNat < 2 →
    s.txRoom c 1 = true → s.rb F.PROT_FLIP_CTL_ARM 0 = false →
    pa = sbufAddr (s.txBase c + ((s.sc c).txHead + (s.sc c).txLen) % s.txSize c) →
    ∃ t, exec (.scTxWindowWrite x) s = .next t ∧ t.cell 0 pa = ⟨v, checkOf v pa⟩ ∧ (t.sc c).txLen = (s.sc c).txLen + 1 ∧
      (t.sc c).rx = (s.sc c).rx ∧ t.inFlight = s.inFlight.erase x ∧
      (∀ d q, memKey d q ≠ memKey 0 pa → t.cell d q = s.cell d q) ∧ (∀ k, k ≠ c → t.sc k = s.sc k) ∧
      t = { s with mem := t.mem, wb := t.wb, scs := t.scs, inFlight := t.inFlight, credits := t.credits } :) ∧
  (∀ (s : State) (l c : Nat) (v : TWord), s.rf F.SL_STAT_STATE 0 l = 2 → s.rf F.SL_STAT_WIDTH_NOW 0 l = 0 → (s.sl l).replay = [] →
    (s.sl l).sent = 0 → (s.sl l).system = [] → c < 64 → (∀ k, k < 64 → (s.sc k).gcmDue = none ∧ (s.sc k).msgs = [] ∧ s.forwards k = false) →
    (∀ k, k < 64 → s.dataReady l k = decide (k = c)) → s.rf F.SC_CTL_SECURE 0 c = 0 → (s.sc c).txLen = 1 → v.tag = tagData →
    s.rf F.SC_CTL_MAX_FRAME 0 c ≤ (s.sc c).txWire.length + 1 → s.rf F.SC_CUT_CNT_COUNT 0 c < 2 ^ 32 - 1 → (s.sc c).cut = false →
    decodeCell (s.cell 0 (sbufAddr (s.txBase c + (s.sc c).txHead))) (sbufAddr (s.txBase c + (s.sc c).txHead)) = .good v →
    ∃ t, exec (.slotTransmit l) s = .next t ∧
      (t.sl l).slot = [mkCell (s.rf F.SL_STAT_NEXT_SEQ 0 l) 0 c 1 ((s.sc c).txWire == []) (word50 ⟨v.data, tagEnd⟩)] ∧ (t.sc c).txWire = [] ∧
      (t.sc c).txLen = 0 ∧ t.rf F.SC_CUT_CNT_COUNT 0 c = s.rf F.SC_CUT_CNT_COUNT 0 c + 1 ∧ faultEv .saetteFrameCut 0 c 0 ∈ t.faultLine ∧ t.mem = s.mem :) ∧
  (∀ (s : State) (l c : Nat) (v : TWord), s.rf F.SL_STAT_STATE 0 l = 2 → s.rf F.SL_STAT_WIDTH_NOW 0 l = 0 → (s.sl l).replay = [] →
    (s.sl l).sent = 0 → (s.sl l).system = [] → c < 64 → (∀ k, k < 64 → (s.sc k).gcmDue = none ∧ (s.sc k).msgs = [] ∧ s.forwards k = false) →
    (∀ k, k < 64 → s.dataReady l k = decide (k = c)) → s.rf F.SC_CTL_SECURE 0 c = 0 → (s.sc c).txLen = 1 → (s.sc c).txWire = [] →
    (v.tag = tagEnd ∨ 1 < s.rf F.SC_CTL_MAX_FRAME 0 c) → (s.sc c).cut = false →
    decodeCell (s.cell 0 (sbufAddr (s.txBase c + (s.sc c).txHead))) (sbufAddr (s.txBase c + (s.sc c).txHead)) = .good v →
    ∃ t, exec (.slotTransmit l) s = .next t ∧ (t.sl l).slot = [mkCell (s.rf F.SL_STAT_NEXT_SEQ 0 l) 0 c 1 true (word50 v)] ∧
      (t.sl l).replay = (t.sl l).slot ∧ t.rf F.SL_STAT_NEXT_SEQ 0 l = (s.rf F.SL_STAT_NEXT_SEQ 0 l + 1) % 4096 ∧
      t.rf F.SC_STAT_TX_CREDIT 0 c = s.rf F.SC_STAT_TX_CREDIT 0 c - 1 ∧ (t.sc c).txLen = 0 ∧
      (t.sc c).txWire = (if v.tag = tagEnd then [] else [v]) ∧ t.mem = s.mem :) ∧
  (∀ (s : State) (l x c pa : Nat), s.cellDue l x = true → cellKind x = .data → cellChannel x = c → cellCount x = 1 → s.switchHolds l x = false →
    s.muted l c = false → s.forwards c = false → s.rf F.SC_CTL_LINK 0 c = l → s.rf F.SC_STAT_RX_STATE 0 c ≠ 0 → s.rf F.SC_CTL_SECURE 0 c = 0 →
    s.rf F.SC_NOTICE_MODE 0 c = 0 → (s.sc c).frames = [] → (s.sc c).rx.length + (s.sc c).owed < s.rxSize c → s.rb F.PROT_FLIP_CTL_ARM 0 = false →
    (s.sc c).ready < 2 ^ 19 - 1 →
    pa = sbufAddr (freeSlot ((s.sc c).rx.map Prod.fst) (s.rxBase c) (s.rxSize c) (s.sc c).rxPut (s.rxSize c)) →
    ∃ t, exec (.dataCell l x) s = .next t ∧ (s.headEnd = true → l ≤ 1 → exec (.markScheduleWord l x) s = .next t) ∧
      t.cell 0 pa = ⟨ofWord50 (cellBody x), checkOf (ofWord50 (cellBody x)) pa⟩ ∧ (t.sc c).ready = (s.sc c).ready + 1 ∧
      (t.sc c).rx = (s.sc c).rx ++ [(pa - 0x0E000000, (s.sc c).frameNo)] ∧ t.rf F.SC_STAT_RX_LEVEL 0 c = (s.sc c).ready + 1 ∧
      ((ofWord50 (cellBody x)).tag = tagEnd → (t.sc c).frames = [] ∧ (t.sc c).rxCtr = ((s.sc c).rxCtr + 1) % 2 ^ 64) ∧
      (t.sl l).rxNext = ((s.sl l).rxNext + 1) % 4096 ∧ (∀ d q, memKey d q ≠ memKey 0 pa → t.cell d q = s.cell d q) ∧
      t = { s with regs := t.regs, mem := t.mem, wb := t.wb, links := t.links, scs := t.scs } ∧
      RegsKept s t [⟨.SC_STAT, 0, c, 0⟩, ⟨.SC_RX_FRAME_CNT, 0, c, 0⟩] :) ∧
  (∀ (s s1 : State) (c slot id : Nat) (x : Txn) (v : TWord) (rest : List (Nat × Nat)), s.atDie 0 x = true → x.op = .read → x.len = 1 → c < 64 →
    0x0F049000 + c * 0x40 ≤ addrLocal x.addr → addrLocal x.addr < 0x0F049000 + c * 0x40 + 0x40 → s.arrive x = some s1 →
    (s.sc c).rx = (slot, id) :: rest → 0 < (s.sc c).ready → (s.sc c).owed < 63 → s.rf F.SC_STAT_RX_STATE 0 c = 1 →
    decodeCell (s.cell 0 (sbufAddr slot)) (sbufAddr slot) = .good v → ¬ (4 ≤ x.master ∧ x.master < 28) →
    ∃ t, exec (.scRxWindowRead x) s = .next t ∧ Responded s t ⟨false, x.srcDie, x.master, x.rtag, 0, [v]⟩ ∧ (t.sc c).rx = rest ∧
      (t.sc c).ready = (s.sc c).ready - 1 ∧ (t.sc c).owed = (s.sc c).owed + 1 ∧ (t.sc c).msgs = (s.sc c).msgs ∧
      t = { s1 with regs := t.regs, scs := t.scs, resps := t.resps, net := t.net } ∧ RegsKept s t [⟨.SC_STAT, 0, c, 0⟩] :) ∧
  (∀ (s s1 : State) (c : Nat) (x : Txn), s.atDie 0 x = true → x.op = .read → x.len = 1 → c < 64 →
    0x0F049000 + c * 0x40 ≤ addrLocal x.addr → addrLocal x.addr < 0x0F049000 + c * 0x40 + 0x40 → s.arrive x = some s1 → (s.sc c).ready = 0 →
    s.rf F.SC_STAT_RX_STATE 0 c = 1 →
    ∃ t, exec (.scRxWindowRead x) s = .next t ∧ Responded s t ⟨false, x.srcDie, x.master, x.rtag, 0, [noWord]⟩ ∧ t.scs = s.scs :) ∧
  (∀ (s : State) (c : Nat), (s.sc c).owed ≠ 0 → (s.sc c).owed < 2 ^ 196 →
    ∃ t, exec (.creditReturnTimer c) s = .next t ∧
      t.sc c = { s.sc c with owed := 0, msgs := (s.sc c).msgs ++ [6 * 2 ^ 196 + (s.sc c).owed] } ∧ (∀ k, k ≠ c → t.sc k = s.sc k) ∧
      t = { s with scs := t.scs } :) ∧
  (∀ (s : State) (l x c : Nat), s.cellDue l x = true → cellKind x = .channelCtl → cellMsg x = 6 → cellChannel x = c → s.fwdOut c l = false →
    s.rf F.SC_CTL_LINK 0 c = l → 2 ≤ s.rf F.SC_STAT_TX_STATE 0 c →
    ∃ t, exec (.credit l x) s = .next t ∧ t.sc c = s.sc c ∧ (t.sl l).rxNext = ((s.sl l).rxNext + 1) % 4096 ∧
      (if s.rf F.SC_STAT_TX_CREDIT 0 c + bits (cellBody x) 18 0 ≤ (s.sc c).ceil ∧ s.rf F.SC_STAT_TX_CREDIT 0 c + bits (cellBody x) 18 0 < 2 ^ 19 then
        t.rf F.SC_STAT_TX_CREDIT 0 c = s.rf F.SC_STAT_TX_CREDIT 0 c + bits (cellBody x) 18 0 ∧ t.faultLine = s.faultLine
      else (s.sc c).ceil < s.rf F.SC_STAT_TX_CREDIT 0 c + bits (cellBody x) 18 0 →
        t.rf F.SC_STAT_TX_CREDIT 0 c = s.rf F.SC_STAT_TX_CREDIT 0 c ∧ t.faultLine = s.faultLine ++ [faultEv .saetteProtocolError 0 l 0] ∧
        t.rf F.SL_STAT_STATE 0 l = 3) ∧
      t = { s with regs := t.regs, links := t.links, faultLine := t.faultLine } ∧
      RegsKept s t [⟨.SC_STAT, 0, c, 0⟩, ⟨.SL_STAT, 0, l, 0⟩, ⟨.SL_RETRAIN_CNT, 0, l, 0⟩] :) ∧
  (∀ (s : State) (l x c : Nat) (f : RxFrame) (rest : List RxFrame), s.cellDue l x = true → cellKind x = .gcmEnd → cellChannel x = c →
    s.muted l c = false → s.forwards c = false → s.rf F.SC_CTL_LINK 0 c = l → s.rf F.SC_STAT_RX_STATE 0 c ≠ 0 → (s.sc c).frames = f :: rest →
    f.ended = true → f.gcm = none → f.void = false → (rest.all fun g => g.id != f.id) = true →
    ∃ t, exec (.gcmEnd l x) s = .next t ∧
      (t.sc c).frames = { f with gcm := some (bits (cellBody x) 191 128, cellBody x % 2 ^ 128) } :: rest ∧ TookCell s t l c [] :) ∧
  (∀ (s : State) (c tag k : Nat) (f : RxFrame) (rest : List RxFrame), s.rf F.SC_CTL_SECURE 0 c = 1 → s.rf F.SC_CTL_SPEC 0 c = 0 →
    s.rf F.SC_NOTICE_MODE 0 c = 0 → s.rf F.SC_NOTICE_ALARM_NOTICE 0 c = 0 → (s.sc c).frames = f :: rest → f.ended = true → f.void = false →
    f.gcm = some (f.ctr, tag) → f.key = some k →
    ∃ t, exec (.frameCheck c) s = .next t ∧
      (if frameTag c k f.salt f.ctr f.words = tag then
        (t.sc c).frames = rest ∧ (t.sc c).ready = (s.sc c).ready + ((s.sc c).rx.filter fun e => e.2 = f.id).length ∧
          (t.sc c).rx = (s.sc c).rx ∧ t.faultLine = s.faultLine
      else (t.sc c).rx = ((s.sc c).rx.filter fun e => e.2 ≠ f.id) ∧ (t.sc c).frames = ((s.sc c).frames.filter fun g => g.id ≠ f.id) ∧
          t.rf F.SC_ALARM_LAST_VALID 0 c = 1 ∧ t.faultLine = s.faultLine ++ [faultEv .saetteAuthFailed 0 c (t.rw .SC_ALARM_LAST 0 c)]) ∧
      t = { s with regs := t.regs, scs := t.scs, faultLine := t.faultLine } ∧
      RegsKept s t [⟨.SC_STAT, 0, c, 0⟩, ⟨.SC_RX_FRAME_CNT, 0, c, 0⟩, ⟨.SC_FAIL_CNT, 0, c, 0⟩, ⟨.SC_ALARM_LAST, 0, c, 0⟩, ⟨.SC_ALARM_FRAME, 0, c, 0⟩] :) ∧
  (∀ (s : State) (l x c : Nat), s.cellDue l x = true → cellKind x = .channelCtl → cellMsg x = 7 → cellChannel x = c → s.forwards c = false →
    s.rf F.SC_CTL_LINK 0 c = l → s.rf F.SC_STAT_RX_STATE 0 c ≠ 0 →
    ∃ t, exec (.keySwitch l x) s = .next t ∧ t.rf F.SC_KEY_RX_SLOT 0 c = s.rf F.SC_KEY_RX_NEXT_SLOT 0 c ∧
      t.rf F.SC_RX_SALT_SALT 0 c = s.rf F.SC_RX_NEXT_SALT_SALT 0 c ∧ t.sc c = { s.sc c with rxCtr := 0 } ∧
      TookCell s t l c [⟨.SC_KEY, 0, c, 0⟩, ⟨.SC_RX_SALT, 0, c, 0⟩] :) ∧
  (∀ (s : State) (k : Nat) (w : TWord), w.tag.toNat < 2 → bit w.data.toNat 1 = true → s.rf F.SK_CTL_VALID 0 k = 0 → s.rf F.CABEN_CTL_UDP_EN 0 = 0 →
    ∃ t, exec (.saetteKeyLoad k w) s = .next t ∧ t.rf F.SK_CTL_VALID 0 k = 1 ∧ t.rf F.SK_CTL_LOAD 0 k = 0 ∧
      mget t.sks k 0 = ((List.range 6).foldl (fun n i => n + s.rf F.SK_KEY_W 0 k i * 2 ^ (48 * i)) 0) % 2 ^ 256 ∧
      (∀ i, i < 6 → t.rf F.SK_KEY_W 0 k i = 0) ∧ (∀ j, j ≠ k → mget t.sks j 0 = mget s.sks j 0) ∧
      t = { s with regs := t.regs, sks := t.sks } ∧ RegsKept s t (⟨.SK_CTL, 0, k, 0⟩ :: (List.range 6).map fun i => ⟨.SK_KEY, 0, k, i⟩) :) ∧
  (∀ (s : State) (l x c : Nat), s.cellDue l x = true → cellKind x = .data → cellChannel x = c → 1 ≤ cellCount x → cellCount x ≤ 4 →
    s.switchHolds l x = false → s.muted l c = true → s.forwards c = false → s.rf F.SC_CTL_LINK 0 c = l → s.rf F.SC_STAT_RX_STATE 0 c ≠ 0 →
    (s.sc c).owed + cellCount x < 64 →
    ∃ t, exec (.dataCell l x) s = .next t ∧ t.sc c = { s.sc c with owed := (s.sc c).owed + cellCount x } ∧ TookCell s t l c [] :)

/-- Each tick moves TB_TIME by 1 and the carry of TB_ADJ, a waiting step and a due ns of slew are added, and a wrap moves
TB_EPOCH (R726, R727, R728, R729, R730, R731, R768, R769, R773). -/
def Obligations.TheTimeBaseKeepsTime : Prop :=
  (∀ (s : State), s.lio.tb.step = 0 → s.lio.tb.slew = 0 → s.lio.tb.due = false → s.rf F.TB_ADJ_ADJ 0 < 2 ^ 31 → s.lio.tb.acc < 2 ^ 40 → s.now + 2 < 2 ^ 48 →
    ∃ t, exec .timeClockTick s = .next t ∧
      t.now = s.now + 1 + (if 2 ^ 40 ≤ s.lio.tb.acc + s.rf F.TB_ADJ_ADJ 0 then 1 else 0) ∧
      t.lio.tb.acc = (s.lio.tb.acc + s.rf F.TB_ADJ_ADJ 0) % 2 ^ 40 ∧ t.lio.tb.marks = s.lio.tb.marks ∧ t = { s with regs := t.regs, lio := t.lio } ∧
      RegsKept s t [⟨.TB_TIME, 0, 0, 0⟩, ⟨.TB_SLEW_LEFT, 0, 0, 0⟩] :) ∧
  (∀ (s : State) (d : Nat), s.lio.tb.step = (d : Int) → 0 < d → s.lio.tb.slew = 0 → s.lio.tb.due = false → s.rf F.TB_ADJ_ADJ 0 = 0 →
    s.lio.tb.acc < 2 ^ 40 → s.now + 1 + d < 2 ^ 48 →
    ∃ t, exec .timeClockTick s = .next t ∧ t.now = s.now + 1 + d ∧ t.rf F.TB_STAT_STEPPED 0 = 1 ∧ t.lio.tb.step = 0 ∧
      t.lio.tb.marks = allSources ∧ t = { s with regs := t.regs, lio := t.lio } ∧
      RegsKept s t [⟨.TB_TIME, 0, 0, 0⟩, ⟨.TB_SLEW_LEFT, 0, 0, 0⟩, ⟨.TB_STAT, 0, 0, 0⟩] :) ∧
  (∀ (s : State) (w : TWord), w.tag.toNat < 2 → w.data ≠ 0 →
    ∃ t, exec (.tbStep w) s = .next t ∧ t.lio.tb.step = s.lio.tb.step + w.data.toInt ∧ t.now = s.now ∧ t = { s with lio := t.lio } :) ∧
  (∀ (s : State) (w : TWord), w.tag.toNat < 2 → w.data = 0 → exec (.tbStep w) s = .next s :) ∧
  (∀ (s : State) (w : TWord), w.tag.toNat < 2 →
    ∃ t, exec (.tbSlew w) s = .next t ∧ t.lio.tb.slew = w.data.toInt ∧ t.lio.tb.count = 0 ∧ t.lio.tb.due = false ∧
      t.reg ⟨.TB_SLEW_LEFT, 0, 0, 0⟩ = w.data ∧ t = { s with regs := t.regs, lio := t.lio } ∧ RegsKept s t [⟨.TB_SLEW_LEFT, 0, 0, 0⟩] :) ∧
  (∀ (s : State) (w : TWord), w.tag.toNat < 2 →
    ∃ t, exec (.slewDivWrite w) s = .next t ∧ t.rf F.TB_CTL_SLEW_DIV 0 = max 100 (bits w.data.toNat 15 0) ∧
      t.rf F.TB_CTL_PPS_WIDTH 0 = bits w.data.toNat 31 16 ∧ t.lio.tb.count = 0 ∧ t.lio.tb.slew = s.lio.tb.slew ∧
      t = { s with regs := t.regs, lio := t.lio } ∧ RegsKept s t [⟨.TB_CTL, 0, 0, 0⟩] :) ∧
  (∀ (s : State), 0 < s.lio.tb.slew → s.rf F.TB_CTL_SLEW_DIV 0 ≤ s.lio.tb.count + 1 → s.lio.tb.step = 0 → s.rf F.TB_ADJ_ADJ 0 = 0 →
    s.lio.tb.acc < 2 ^ 40 → s.now + 2 < 2 ^ 48 →
    ∃ t, exec .slewApply s = .next t ∧ t.now = s.now + 2 ∧ t.lio.tb.slew = s.lio.tb.slew - 1 ∧ t.lio.tb.count = 0 ∧
      t = { s with regs := t.regs, lio := t.lio } ∧ RegsKept s t [⟨.TB_TIME, 0, 0, 0⟩, ⟨.TB_SLEW_LEFT, 0, 0, 0⟩] :) ∧
  (∀ (s : State), s.lio.tb.step = 0 → s.lio.tb.slew = 0 → s.lio.tb.due = false → s.rf F.TB_ADJ_ADJ 0 = 0 → s.lio.tb.acc < 2 ^ 40 →
    s.now = 2 ^ 48 - 1 →
    ∃ t, exec .timeBaseWrap s = .next t ∧ t.now = 0 ∧ t.rf F.TB_EPOCH_EPOCH 0 = (s.rf F.TB_EPOCH_EPOCH 0 + 1) % 2 ^ 24 ∧
      t.rf F.TB_STAT_WRAP 0 = 1 ∧ t.faultLine = s.faultLine ++ [faultEv .timeBaseWrap 0 0 0] ∧
      t = { s with regs := t.regs, lio := t.lio, faultLine := t.faultLine } ∧
      RegsKept s t [⟨.TB_TIME, 0, 0, 0⟩, ⟨.TB_EPOCH, 0, 0, 0⟩, ⟨.TB_SLEW_LEFT, 0, 0, 0⟩, ⟨.TB_STAT, 0, 0, 0⟩] :) ∧
  (∀ (s : State) (f off : Nat), s.rf F.TB_REPLICA_CNT_COUNT 0 < 2 ^ 32 - 1 →
    ∃ t, exec (.timeReplicaCheck f off) s = .next t ∧
      t.rf F.TB_REPLICA_CNT_COUNT 0 = s.rf F.TB_REPLICA_CNT_COUNT 0 + (if 1 < off then 1 else 0) ∧
      t.rf F.TB_STAT_REPLICA_ERR 0 = (if 4 < off then 1 else s.rf F.TB_STAT_REPLICA_ERR 0) ∧
      t.faultLine = s.faultLine ++ (if 4 < off then [faultEv .timeReplicaError f 0 0] else []) ∧
      OnlyRegsEv s t [⟨.TB_REPLICA_CNT, 0, 0, 0⟩, ⟨.TB_STAT, 0, 0, 0⟩] :) ∧
  (∀ (s : State), s.rf F.TB_STAT_HOLDOVER 0 = 0 →
    ∃ t, exec .timeBaseHoldover s = .next t ∧ t.rf F.TB_STAT_HOLDOVER 0 = 1 ∧ t.now = s.now ∧
      t.faultLine = s.faultLine ++ [faultEv .timeBaseHoldover 0 0 0] ∧ OnlyRegsEv s t [⟨.TB_STAT, 0, 0, 0⟩] :) ∧
  (∀ (s : State), ∃ t, exec .holdoverExit s = .next t ∧ t.rf F.TB_STAT_HOLDOVER 0 = 0 ∧ t.now = s.now ∧ OnlyRegs s t [⟨.TB_STAT, 0, 0, 0⟩] :)

/-- Encoder counts, indexes and compares, product-detect and GPIO edges update their registers and queue event records, which
are issued in order (R734, R735, R736, R738, R740, R741, R742, R743, R745, R747, R754, R764). -/
def Obligations.LineEventsAreCountedAndRecorded : Prop :=
  (∀ (s : State) (n : Nat) (a b z a' b' : Bool), a' = ((s.pin (encPin n 0)).sample (s.rf F.ENC_CTL_FILT 0 n) a s.now []).level →
    b' = ((s.pin (encPin n 1)).sample (s.rf F.ENC_CTL_FILT 0 n) b s.now []).level → s.encIndexed n z = false →
    s.rf F.ENC_CTL_INVERT 0 n = 0 → s.rf F.ENC_CTL_CMP_ARM 0 n = 0 → s.lio.counted.contains n = true →
    (s.rf F.ENC_CTL_MODE 0 n = 4 ∨ (s.pin (encPin n 0)).level = a' ∨ (s.pin (encPin n 1)).level = b') → encCount (s.rf F.ENC_CTL_MODE 0 n) (s.pin (encPin n 0)).level (s.pin (encPin n 1)).level a' b' = 1 →
    s.rw .ENC_POS 0 n + 1 < 2 ^ 48 → s.rw .ENC_EDGE_TIME 0 n ≤ s.now →
    ∃ t, exec (.encoderEdge n (a, b) z) s = .next t ∧ t.rw .ENC_POS 0 n = s.rw .ENC_POS 0 n + 1 ∧ t.rf F.ENC_STAT_DIR 0 n = 1 ∧
      t.rw .ENC_EDGE_TIME 0 n = s.now ∧ t.rf F.ENC_GAP_GAP 0 n = min (s.now - s.rw .ENC_EDGE_TIME 0 n) (2 ^ 32 - 1) ∧
      (t.pin (encPin n 0)).level = a' ∧ (t.pin (encPin n 1)).level = b' ∧ t = { s with regs := t.regs, lio := t.lio } ∧
      RegsKept s t [⟨.ENC_POS, 0, n, 0⟩, ⟨.ENC_STAT, 0, n, 0⟩, ⟨.ENC_GAP, 0, n, 0⟩, ⟨.ENC_EDGE_TIME, 0, n, 0⟩] :) ∧
  (∀ (s : State) (n : Nat) (a b z a' b' : Bool), a' = ((s.pin (encPin n 0)).sample (s.rf F.ENC_CTL_FILT 0 n) a s.now []).level →
    b' = ((s.pin (encPin n 1)).sample (s.rf F.ENC_CTL_FILT 0 n) b s.now []).level → s.encIndexed n z = false →
    1 ≤ s.rf F.ENC_CTL_MODE 0 n → s.rf F.ENC_CTL_MODE 0 n ≤ 3 → (s.pin (encPin n 0)).level ≠ a' → (s.pin (encPin n 1)).level ≠ b' → s.rf F.ENC_ERR_CNT_COUNT 0 n < 2 ^ 16 - 1 →
    ∃ t, exec (.encoderEdge n (a, b) z) s = .next t ∧ t.rw .ENC_POS 0 n = s.rw .ENC_POS 0 n ∧
      t.rf F.ENC_ERR_CNT_COUNT 0 n = s.rf F.ENC_ERR_CNT_COUNT 0 n + 1 ∧ t.faultLine = s.faultLine ++ [faultEv .encoderQuadratureError 0 n 0] ∧
      t = { s with regs := t.regs, lio := t.lio, faultLine := t.faultLine } ∧ RegsKept s t [⟨.ENC_ERR_CNT, 0, n, 0⟩] :) ∧
  (∀ (s : State) (n r : Nat) (a b z a' b' : Bool), a' = ((s.pin (encPin n 0)).sample (s.rf F.ENC_CTL_FILT 0 n) a s.now []).level →
    b' = ((s.pin (encPin n 1)).sample (s.rf F.ENC_CTL_FILT 0 n) b s.now []).level → s.encIndexed n z = false →
    s.rf F.ENC_CTL_INVERT 0 n = 0 → s.rf F.ENC_CTL_CMP_ARM 0 n = 1 → s.rf F.ENC_CTL_RING 0 n = r →
    (s.rf F.ENC_CTL_MODE 0 n = 4 ∨ (s.pin (encPin n 0)).level = a' ∨ (s.pin (encPin n 1)).level = b') → encCount (s.rf F.ENC_CTL_MODE 0 n) (s.pin (encPin n 0)).level (s.pin (encPin n 1)).level a' b' = 1 →
    s.rw .ENC_POS 0 n + 1 < 2 ^ 48 → s.rw .ENC_CMP 0 n = s.rw .ENC_POS 0 n + 1 → s.rw .ENC_CMP_STEP 0 n = 0 → s.rf F.LEV_CTL_EN 0 r = 1 →
    (s.ring r).queue.length < 16 →
    ∃ t, exec (.encoderEdge n (a, b) z) s = .next t ∧ t.rw .ENC_POS 0 n = s.rw .ENC_CMP 0 n ∧ t.rf F.ENC_CTL_CMP_ARM 0 n = 0 ∧
      (∃ e, (t.ring r).queue = (s.ring r).queue ++ [e] ∧ e.w0 = s.now ∧ e.w1 = s.rw .ENC_CMP 0 n ∧ e.seq = s.rf F.LEV_SEQ_SEQ 0 r) ∧
      t.rf F.LEV_SEQ_SEQ 0 r = (s.rf F.LEV_SEQ_SEQ 0 r + 1) % 65536 ∧ t.rf F.LEV_CTL_BUSY 0 r = 1 :) ∧
  (∀ (s : State) (n r : Nat), s.rf F.ENC_CTL_RING 0 n = r → s.rf F.ENC_CTL_Z_REC 0 n = 1 → s.rf F.LEV_CTL_EN 0 r = 1 →
    (s.ring r).queue.length < 16 → s.encIndexed n true = true →
    ∃ t, exec (.encoderIndex n ((s.pin (encPin n 0)).level, (s.pin (encPin n 1)).level) true) s = .next t ∧ t.rw .ENC_INDEX_POS 0 n = s.rw .ENC_POS 0 n ∧
      t.rf F.ENC_STAT_Z_SEEN 0 n = 1 ∧ t.rw .ENC_POS 0 n = (if s.rf F.ENC_CTL_Z_CLEAR 0 n = 1 then 0 else s.rw .ENC_POS 0 n) ∧
      (t.pin (encPin n 2)).level = true ∧
      (∃ e, (t.ring r).queue = (s.ring r).queue ++ [e] ∧ e.w0 = s.now ∧ e.w1 = t.rw .ENC_POS 0 n ∧ bits e.w3 47 44 = 2) ∧
      t = { s with regs := t.regs, lio := t.lio } ∧
      RegsKept s t [⟨.ENC_POS, 0, n, 0⟩, ⟨.ENC_INDEX_POS, 0, n, 0⟩, ⟨.ENC_STAT, 0, n, 0⟩, ⟨.LEV_SEQ, 0, r, 0⟩, ⟨.LEV_CTL, 0, r, 0⟩] :) ∧
  (∀ (s : State) (n r a : Nat) (up : Bool) (x : PinFilter), (s.pin n).accepts (s.rf F.PD_CTL_FILT 0 n) up = true →
    x = (s.pin n).sample (s.rf F.PD_CTL_FILT 0 n) up a ((List.range 4).map s.encAt) → x.cross < 2 ^ 48 →
    s.lio.hold.contains n = false → edgeChosen (s.rf F.PD_CTL_EDGE 0 n) up = true →
    s.rf F.PD_CTL_RING 0 n = r → s.rf F.LEV_CTL_EN 0 r = 1 → (s.ring r).queue.length < 16 → s.rf F.PD_CNT_COUNT 0 n < 2 ^ 32 - 1 → n < 16 →
    ∃ t, exec (.productDetectEdge n up a) s = .next t ∧ t.rw .PD_LAST 0 n = x.cross ∧ t.rf F.PD_CNT_COUNT 0 n = s.rf F.PD_CNT_COUNT 0 n + 1 ∧
      t.lio.hold = s.lio.hold ++ (if s.rf F.PD_CTL_HOLDOFF 0 n = 0 then [] else [n]) ∧ t.pin n = x ∧
      (∃ e, (t.ring r).queue = (s.ring r).queue ++ [e] ∧ e.w0 = x.cross ∧
        e.w1 = (x.seen.getD (s.rf F.PD_CTL_ENC 0 n) (s.encAt (s.rf F.PD_CTL_ENC 0 n))).1 ∧ bits e.w3 43 40 = n ∧ bit e.w3 37 = up) ∧
      t = { s with regs := t.regs, lio := t.lio } ∧
      RegsKept s t [⟨.PD_LAST, 0, n, 0⟩, ⟨.PD_CNT, 0, n, 0⟩, ⟨.LEV_SEQ, 0, r, 0⟩, ⟨.LEV_CTL, 0, r, 0⟩] :) ∧
  (∀ (s : State) (n a : Nat) (up : Bool), (s.pin n).accepts (s.rf F.PD_CTL_FILT 0 n) up = true → s.lio.hold.contains n = true →
    s.rf F.PD_HOLD_CNT_COUNT 0 n < 2 ^ 32 - 1 →
    ∃ t, exec (.productDetectEdge n up a) s = .next t ∧ t.rf F.PD_HOLD_CNT_COUNT 0 n = s.rf F.PD_HOLD_CNT_COUNT 0 n + 1 ∧
      t.lio.hold = s.lio.hold ∧ t.lio.rings = s.lio.rings ∧ t = { s with regs := t.regs, lio := t.lio } ∧ RegsKept s t [⟨.PD_HOLD_CNT, 0, n, 0⟩] :) ∧
  (∀ (s : State) (n : Nat), ∃ t, exec (.pdHoldoffExpiry n) s = .next t ∧ t.lio.hold.contains n = false ∧
      (∀ k, k ≠ n → t.lio.hold.contains k = s.lio.hold.contains k) ∧ t = { s with lio := t.lio } :) ∧
  (∀ (s : State) (p r a : Nat) (up : Bool) (x : PinFilter), p < 96 → (s.pin (16 + p)).accepts (s.rf F.GPIO_CFG_FILT 0 p) up = true →
    x = (s.pin (16 + p)).sample (s.rf F.GPIO_CFG_FILT 0 p) up a ((List.range 4).map s.encAt) → x.cross < 2 ^ 48 →
    edgeChosen (s.rf F.GPIO_CFG_EDGE 0 p) up = true → s.rf F.GPIO_CFG_RING 0 p = r →
    s.rf F.LEV_CTL_EVT_GPIO_HI 0 r = (if 48 ≤ p then 1 else 0) → s.rf F.LEV_CTL_EN 0 r = 1 → (s.ring r).queue.length < 16 →
    ∃ t, exec (.gpioInputEdge p up a) s = .next t ∧ bit (t.rw .GPIO_IN 0 (p / 48)) (p % 48) = up ∧ t.pin (16 + p) = x ∧
      (∀ k, k ≠ p % 48 → bit (t.rw .GPIO_IN 0 (p / 48)) k = bit (s.rw .GPIO_IN 0 (p / 48)) k) ∧
      (∃ e, (t.ring r).queue = (s.ring r).queue ++ [e] ∧ e.w0 = x.cross ∧ bits e.w3 47 44 = 4) ∧ t = { s with regs := t.regs, lio := t.lio } ∧
      RegsKept s t [⟨.GPIO_IN, 0, p / 48, 0⟩, ⟨.LEV_SEQ, 0, r, 0⟩, ⟨.LEV_CTL, 0, r, 0⟩] :) ∧
  (∀ (x : PinFilter) (filt k t : Nat) (level : Bool) (seen : List (Nat × Nat)), level ≠ x.level → x.run = 0 → k ≤ filt + 1 →
    ((List.range k).foldl (fun (y : PinFilter) _ => y.sample filt level t seen) x).level = (if k = filt + 1 then level else x.level) :) ∧
  (∀ (s : State) (r : Nat) (e : EvRec) (rest : List EvRec), (s.ring r).queue = e :: rest →
    ∃ t, exec (.eventRecordIssue r) s = .next t ∧ (t.ring r).queue = rest ∧ t.rf F.LEV_CTL_BUSY 0 r = b2n !rest.isEmpty ∧
      Injected s t ⟨.write, 0, 10, 0, (s.rw .LEV_DEST 0 r + 4 * (e.seq % 2 ^ s.rf F.LEV_CTL_EXP 0 r)) % 2 ^ 48, 4, 48, 0,
        [dataWord e.w0, dataWord e.w1, dataWord e.w2, ⟨BitVec.ofNat 48 e.w3, tagEnd⟩], .posted, 0⟩ ∧
      t = { s with regs := t.regs, lio := t.lio, inFlight := t.inFlight, net := t.net } ∧ RegsKept s t [⟨.LEV_CTL, 0, r, 0⟩] :) ∧
  (∀ (s : State) (r : Nat) (w : TWord), w.tag.toNat < 2 → bit w.data.toNat 47 = true → s.rf F.LEV_CTL_EN 0 r = 0 → (s.ring r).queue = [] →
    ∃ t, exec (.eventRingEnable r w) s = .next t ∧ t.rf F.LEV_CTL_EN 0 r = 1 ∧ t.rf F.LEV_SEQ_SEQ 0 r = 0 ∧ (t.ring r).lost = 0 ∧
      t.rf F.LEV_CTL_EXP 0 r = max 2 (min 12 (bits w.data.toNat 3 0)) ∧ t = { s with regs := t.regs, lio := t.lio } ∧
      RegsKept s t [⟨.LEV_CTL, 0, r, 0⟩, ⟨.LEV_SEQ, 0, r, 0⟩] :)

/-- GPIO outputs take set, clear, scheduled and PPS changes, and a converter tile runs its period and queues its words (R749,
R750, R751, R752, R753, R755, R763, R766, R772). -/
def Obligations.OutputsAndConvertersFollowTheirRegisters : Prop :=
  (∀ (s : State) (q : Nat) (w : TWord), w.tag.toNat < 2 →
    ∃ t, exec (.gpioSetWrite q w) s = .next t ∧ (∀ k, bit (t.rw .GPIO_OUT 0 q) k = (bit (s.rw .GPIO_OUT 0 q) k || bit w.data.toNat k)) ∧
      t = { s with regs := t.regs, lio := t.lio } ∧ RegsKept s t [⟨.GPIO_OUT, 0, q, 0⟩] :) ∧
  (∀ (s : State) (q : Nat) (w : TWord), w.tag.toNat < 2 →
    ∃ t, exec (.gpioClrWrite q w) s = .next t ∧ (∀ k, bit (t.rw .GPIO_OUT 0 q) k = (bit (s.rw .GPIO_OUT 0 q) k && !bit w.data.toNat k)) ∧
      t = { s with regs := t.regs, lio := t.lio } ∧ RegsKept s t [⟨.GPIO_OUT, 0, q, 0⟩] :) ∧
  (∀ (s : State) (p : Nat), p < 96 → s.rf F.GPIO_CFG_FUNC 0 p = 2 → s.rf F.GPIO_CFG_SCHED_ARM 0 p = 1 → s.rw .GPIO_SCHED_TIME 0 p ≤ s.now →
    s.now - s.rw .GPIO_SCHED_TIME 0 p < 2 ^ 47 →
    ∃ t, exec (.gpioScheduledChange p) s = .next t ∧ t.rf F.GPIO_CFG_SCHED_ARM 0 p = 0 ∧
      bit (t.rw .GPIO_OUT 0 (p / 48)) (p % 48) = (s.rf F.GPIO_CFG_SCHED_VAL 0 p == 1) ∧
      (∀ k, k ≠ p % 48 → bit (t.rw .GPIO_OUT 0 (p / 48)) k = bit (s.rw .GPIO_OUT 0 (p / 48)) k) ∧
      t = { s with regs := t.regs, lio := t.lio } ∧ RegsKept s t [⟨.GPIO_CFG, 0, p, 0⟩, ⟨.GPIO_OUT, 0, p / 48, 0⟩] :) ∧
  (∀ (s : State) (p : Nat), p < 96 → s.rf F.GPIO_CFG_FUNC 0 p = 1 →
    ∃ t, exec (.ppsChange p) s = .next t ∧
      bit (t.rw .GPIO_OUT 0 (p / 48)) (p % 48) = decide (s.now % 1000000000 < s.rf F.TB_CTL_PPS_WIDTH 0 * 1000) ∧
      (∀ k, k ≠ p % 48 → bit (t.rw .GPIO_OUT 0 (p / 48)) k = bit (s.rw .GPIO_OUT 0 (p / 48)) k) ∧
      t = { s with regs := t.regs, lio := t.lio } ∧ RegsKept s t [⟨.GPIO_OUT, 0, p / 48, 0⟩] :) ∧
  (∀ (s : State) (n : Nat) (w : TWord), w.tag.toNat < 2 → bit w.data.toNat 47 = true → s.rf F.CT_CTL_EN 0 n = 0 →
    ∃ t, exec (.converterEnable n w) s = .next t ∧ t.rf F.CT_CTL_MODE 0 n = bits w.data.toNat 1 0 ∧
      (if s.ctOk n (bits w.data.toNat 1 0) then t.rf F.CT_CTL_EN 0 n = 1 ∧ (t.tile n).phase = 0 ∧ (t.tile n).lanes = []
      else t.rf F.CT_CTL_EN 0 n = 0 ∧ t.rf F.CT_CTL_CFG_ERR 0 n = 1 ∧ t.lio = s.lio) ∧
      t = { s with regs := t.regs, lio := t.lio } ∧ RegsKept s t [⟨.CT_CTL, 0, n, 0⟩] :) ∧
  (∀ (s : State) (n : Nat), s.rf F.CT_CTL_EN 0 n = 1 → s.rf F.CT_CTL_MODE 0 n = 1 →
    exec (.converterTick n) s = .next (s.setTile n { s.tile n with busy := true }) :) ∧
  (∀ (s : State) (n : Nat), s.rf F.CT_CTL_EN 0 n = 1 → s.rf F.CT_CTL_MODE 0 n = 3 →
    exec (.converterTick n) s = .next (s.setTile n { s.tile n with
      phase := 1, begun := 0, lanes := [], code := some (s.rf F.CT_DAC_VAL_VAL 0 n),
      drove := if s.rf F.DEV_ROLE_CTL_OUT_EN 0 = 1 then some (s.rf F.CT_DAC_VAL_VAL 0 n) else (s.tile n).drove }) :) ∧
  (∀ (s : State) (n : Nat), s.rf F.CT_CTL_EN 0 n = 1 → (s.tile n).phase = 1 →
    exec (.dacPhaseEnd n) s = .next (s.setTile n { s.tile n with phase := 2 }) :) ∧
  (∀ (s : State) (n : Nat), s.rf F.CT_CTL_EN 0 n = 1 → s.rf F.CT_CTL_MODE 0 n = 3 → (s.tile n).phase = 2 → (s.tile n).busy = false →
    (s.tile n).begun < s.rf F.CT_PHASE_ADC_COUNT 0 n →
    exec (.conversionStart n) s = .next (s.setTile n { s.tile n with busy := true, begun := (s.tile n).begun + 1 }) :) ∧
  (∀ (s : State) (n k : Nat), (s.tile n).busy = true → (s.tile n).lanes.length = 2 → (s.tile n).queue.length < 16 →
    ¬ (s.rf F.CT_CTL_MODE 0 n = 3 ∧ (s.tile n).begun = s.rf F.CT_PHASE_ADC_COUNT 0 n) → s.rw .CT_WSEQ 0 n + 1 < 2 ^ 48 →
    ∃ t, exec (.conversionComplete n k false) s = .next t ∧ (t.tile n).lanes = [] ∧ (t.tile n).busy = false ∧
      (t.tile n).queue = (s.tile n).queue ++ [(s.rw .CT_WSEQ 0 n, dataWord (laneWord ((s.tile n).lanes ++ [0x8000 + k % 0x4000])))] ∧
      t.rw .CT_WSEQ 0 n = s.rw .CT_WSEQ 0 n + 1 ∧ t.rf F.CT_LAST_LANE 0 n = 0x8000 + k % 0x4000 ∧
      t = { s with regs := t.regs, lio := t.lio } ∧ RegsKept s t [⟨.CT_LAST, 0, n, 0⟩, ⟨.CT_WSEQ, 0, n, 0⟩] :) ∧
  (∀ (s : State) (n k : Nat), (s.tile n).busy = true → (s.tile n).queue.length < 16 → s.rf F.CT_CTL_MODE 0 n = 3 →
    (s.tile n).begun = s.rf F.CT_PHASE_ADC_COUNT 0 n → s.rw .CT_WSEQ 0 n + 1 < 2 ^ 48 →
    ∃ t, exec (.conversionComplete n k true) s = .next t ∧ (t.tile n).lanes = [] ∧
      (t.tile n).queue = (s.tile n).queue ++
        [(s.rw .CT_WSEQ 0 n, ⟨BitVec.ofNat 48 (laneWord ((s.tile n).lanes ++ [0xC000 + k % 0x4000])), tagEnd⟩)] ∧
      t.faultLine = s.faultLine ++ [faultEv .converterOverRange 0 n 0] ∧
      RegsKept s t [⟨.CT_LAST, 0, n, 0⟩, ⟨.CT_WSEQ, 0, n, 0⟩, ⟨.CT_OVR_CNT, 0, n, 0⟩] :) ∧
  (∀ (s : State) (n q : Nat) (w : TWord) (rest : List (Nat × TWord)), (s.tile n).queue = (q, w) :: rest →
    ∃ t, exec (.converterWordIssue n) s = .next t ∧ (t.tile n).queue = rest ∧
      Injected s t ⟨.write, 0, 10, 0, (s.rw .CT_RING_BASE 0 n + q % 2 ^ s.rf F.CT_RING_CTL_EXP 0 n) % 2 ^ 48, 1, 48, 0,
        [w], .posted, 0⟩ ∧ t = { s with lio := t.lio, inFlight := t.inFlight, net := t.net } :) ∧
  (∀ (s : State) (n : Nat) (w : TWord), n < 8 → s.dacOn n = true → s.rf F.DEV_ROLE_CTL_OUT_EN 0 = 1 → s.imageLoaded = true → w.tag.toNat < 2 →
    bit w.data.toNat 1 = false → bits w.data.toNat 3 3 = s.rf F.DEV_ROLE_CTL_HEAD_LINK_B_EN 0 → bits w.data.toNat 2 2 = s.rf F.DEV_ROLE_CTL_HEAD_LINK_EN 0 →
    ∃ t, exec (.outEnWrite w false) s = .next t ∧ t.rf F.DEV_ROLE_CTL_OUT_EN 0 = 0 ∧
      t.tileBall n = (if s.rf F.CT_SAFE_CODE 0 n = 1 then some 0 else if s.rf F.CT_SAFE_CODE 0 n = 2 then some (s.rf F.CT_SAFE_VAL 0 n)
        else if s.rf F.CT_SAFE_CODE 0 n = 3 then (s.tile n).code else none) :)

/-- A configuration load starts once, changes islands only after its checks, writes each good record and fails on a bad one,
and the Sparge unit scrubs frames (R340, R341, R348, R355, R358, R372, R376, R377, R378, R384, R385, R386). -/
def Obligations.ConfigurationLoadsAndIsScrubbed : Prop :=
  (∀ (s : State) (w : TWord), w.tag.toNat < 2 → bit w.data.toNat 3 = true → s.cfg.load = none →
    ∃ t, exec (.configLoadStart w) s = .next t ∧ t.rf F.CFG_LOAD_CTL_START 0 = 1 ∧ t.rf F.CFG_LOAD_CTL_SOURCE 0 = bits w.data.toNat 2 0 ∧
      t.rf F.CFG_LOAD_STAT_BUSY 0 = 1 ∧ t.cfg = { s.cfg with load := some ⟨if bits w.data.toNat 2 0 = 3 then 8 else bits w.data.toNat 2 0,
        s.rw .CFG_SRC_ADDR 0, false, false, ImgHdr.none, 0, ⟨0, 0, false⟩, [], [], s.cfg.jobs.length, []⟩ } ∧
      t = { s with regs := t.regs, cfg := t.cfg } ∧ RegsKept s t [⟨.CFG_LOAD_CTL, 0, 0, 0⟩, ⟨.CFG_LOAD_STAT, 0, 0, 0⟩] :) ∧
  (∀ (s : State) (w : TWord), w.tag.toNat < 2 → s.cfg.load.isSome = true →
    ∃ t, exec (.configLoadStart w) s = .next t ∧ t.cfg = s.cfg ∧ OnlyRegs s t [⟨.CFG_LOAD_CTL, 0, 0, 0⟩] :) ∧
  (∀ (s : State) (l : Load), s.cfg.load = some l → l.powerOn = false → l.begun = false → l.after = 0 →
    ∃ t, exec .imageCheckPass s = .next t ∧
      (if (s.imageCheck l).1.1 = 0 then
        t.cfg.load = some { l with hdr := (s.imageCheck l).1.2.2, begun := true } ∧
          ∀ e, e ∈ s.heldBy (s.imageCheck l).1.2.2 → (t.island e.1 e.2).held = true ∧ t.rf F.ISL_CLK_CTL_RUN e.1 e.2 = 0
      else t.cfg.load = none ∧ t.rf F.CFG_LOAD_STAT_FAILED 0 = 1 ∧ t.rf F.CFG_LOAD_STAT_CAUSE 0 = (s.imageCheck l).1.1 ∧ t.isl = s.isl) :) ∧
  (∀ (s : State) (l : Load) (b : List Nat), s.cfg.load = some l → l.begun = true → l.powerOn = false → l.src = 3 → l.next < 2 ^ 20 → 512 + 800 * l.next + 800 ≤ l.bytes.length →
    b = (l.bytes.drop (512 + 800 * l.next)).take 800 →
    ∃ t, exec .frameRecord s = .next t ∧
      ((s.recCause l b).1 ≠ 0 → t.cfg.load = none ∧ t.rf F.CFG_LOAD_STAT_FAILED 0 = 1 ∧
        t.rf F.CFG_LOAD_STAT_CAUSE 0 = (s.recCause l b).1 ∧ t.rf F.CFG_LOAD_STAT_FRAME_SEQ 0 = l.next) ∧
      (∀ f ws, s.recCause l b = (0, f, ws) → f.kind = 1 → l.next + 1 < l.hdr.count →
        (∀ k, k < 128 → (t.cfgCell (cfgAddr f.die f.isl f.index k)).word = dataWord (ws.getD k 0)) ∧
        (t.cfgCell (cfgAddr f.die f.isl f.index 128)).word = dataWord (crc32c (((List.range 128).map fun k => ws.getD k 0).flatMap fun v => leBytes 6 v)) ∧
        (∀ a, (a < cfgAddr f.die f.isl f.index 0 ∨ cfgAddr f.die f.isl f.index 128 < a) → t.cfgCell a = s.cfgCell a) ∧
        (t.cfg.load.map fun x => x.next) = some (l.next + 1) ∧ t = { s with cfg := t.cfg }) :) ∧
  (∀ (s : State) (d i f : Nat), s.rf F.SPG_CTL_EN 0 = 1 → s.fabDies.contains d = true → s.rf F.SPG_POS_ISLAND d = i → s.rf F.SPG_POS_FRAME d = f → f < 79 →
    (s.island d i).held = false →
    ∃ t, exec (.spargeFrameScrub d) s = .next t ∧ t.rf F.SPG_POS_FRAME d = f + 1 ∧ t.rf F.SPG_POS_ISLAND d = i ∧
      (∀ a, (a < cfgAddr d i f 0 ∨ cfgAddr d i f 128 < a) → t.cfgCell a = s.cfgCell a) ∧
      ((∀ k, k < 129 → upsetOf (s.cfgCell (cfgAddr d i f k)) (cfgAddr d i f k) = .good) →
        (s.cfgCell (cfgAddr d i f 128)).word.data.toNat % 2 ^ 32 =
          crc32c ((List.range 128).flatMap fun k => leBytes 6 (s.cfgCell (cfgAddr d i f k)).word.data.toNat) →
        OnlyRegs s t [⟨.SPG_POS, d, 0, 0⟩]) :) ∧
  (∀ (s : State) (d i f : Nat), s.rf F.SPG_CTL_EN 0 = 1 → s.fabDies.contains d = true → s.rf F.SPG_POS_ISLAND d = i →
    s.rf F.SPG_POS_FRAME d = f → f < 79 → (s.island d i).held = false →
    s.rf F.SPG_ESS_CNT_COUNT d < 2 ^ 32 - 1 → s.rf F.SPG_NONESS_CNT_COUNT d < 2 ^ 32 - 1 → s.rf F.SPG_LAST_VALID d = 0 →
    ∃ t, exec (.spargeFrameScrub d) s = .next t ∧
      (∀ n b w, n < 128 → b < 64 → (∀ k, k < 129 → k ≠ n → upsetOf (s.cfgCell (cfgAddr d i f k)) (cfgAddr d i f k) = .good) →
        upsetOf (s.cfgCell (cfgAddr d i f n)) (cfgAddr d i f n) = .corrected w b →
        (s.cfgCell (cfgAddr d i f 128)).word.data.toNat % 2 ^ 32 =
          crc32c ((List.range 128).flatMap fun k => leBytes 6 (if k = n then w.toNat else (s.cfgCell (cfgAddr d i f k)).word.data.toNat)) →
        t.cfgCell (cfgAddr d i f n) = ⟨⟨w, tagData⟩, checkOf ⟨w, tagData⟩ (cfgAddr d i f n)⟩ ∧
        (∀ a, a ≠ cfgAddr d i f n → t.cfgCell a = s.cfgCell a) ∧
        (if bit (mget s.cfg.emap (key3 d i f) 0) n then t.rf F.SPG_ESS_CNT_COUNT d = s.rf F.SPG_ESS_CNT_COUNT d + 1 ∧
            t.faultLine = s.faultLine ++ [faultEv .configEssentialUpset d i (t.rw .SPG_LAST d)]
          else t.rf F.SPG_NONESS_CNT_COUNT d = s.rf F.SPG_NONESS_CNT_COUNT d + 1 ∧ t.faultLine = s.faultLine) ∧
        t.rf F.SPG_LAST_VALID d = 1 ∧ t.rf F.SPG_LAST_WORD d = n ∧ t.rf F.SPG_LAST_BIT d = b ∧ t.rf F.SPG_POS_FRAME d = f + 1 ∧
        t = { s with regs := t.regs, cfg := t.cfg, faultLine := t.faultLine } ∧
        RegsKept s t [⟨.SPG_POS, d, 0, 0⟩, ⟨.SPG_LAST, d, 0, 0⟩, ⟨.SPG_ESS_CNT, d, 0, 0⟩, ⟨.SPG_NONESS_CNT, d, 0, 0⟩]) :) ∧
  (∀ (s : State) (d i f o : Nat) (h : List Nat) (rest : List (Nat × Nat × Nat)), s.cfg.rewrites = (d, i, f) :: rest → s.cfg.active = none →
    s.canRewrite d i = true → o = mget s.cfg.origin (key2 d i) 7 → h = s.flashBytes (s.slot o).1 512 →
    ∃ t, exec .frameRewrite s = .next t ∧ t.cfg.rewrites = rest ∧
      (∀ a, (a < cfgAddr d i f 0 ∨ cfgAddr d i f 128 < a) → t.cfgCell a = s.cfgCell a) ∧
      (∀ r bs, s.hdrCause ⟨o, 0, false, false, ImgHdr.none, 0, ⟨0, 0, false⟩, [], [], 0, []⟩ h = 0 →
        s.findRecord ⟨o, 0, false, false, parseHdr h, 0, ⟨0, 0, false⟩, [], [], 0, []⟩ d i f = some r →
        crc32c (r.take 796) = leNat ((r.drop 796).take 4) → recZeros (parseHdr h) r = true → s.recPayload (parseHdr h) r (parseFrame (leNat (r.take 6))).seq = some bs →
        (∀ k, k < 128 → (t.cfgCell (cfgAddr d i f k)).word = dataWord ((payloadWords bs).getD k 0)) ∧ t = { s with cfg := t.cfg }) :) ∧
  (∀ (s : State) (d i f : Nat) (rest : List (Nat × Nat × Nat)), s.cfg.rewrites = (d, i, f) :: rest → s.cfg.active = none → s.canRewrite d i = false →
    ∃ t, exec .frameRewrite s = .next t ∧ t.cfg = { s.cfg with rewrites := rest } ∧
      t.faultLine = s.faultLine ++ [faultEv .configFrameUnrecoverable d i (s.rw .SPG_LAST d)] ∧
      t = { s with cfg := t.cfg, faultLine := t.faultLine } :)

/-- Each debug port instruction is selected and has its effect, and every one but IDCODE acts as BYPASS once DEBUG_CLOSE is
blown (R869, R870, R871, R872, R873, R874, R875, R876, R886). -/
def Obligations.TheDebugPortSelectsAndAccesses : Prop :=
  (∀ (s : State), ∃ t, exec .tapReset s = .next t ∧ t = { s with dbg := { s.dbg with ir := 0x01, dr := s.idcode, drop := s.dbg.busy.isSome } } :) ∧
  (∀ (s : State), ∃ t, exec .idcode s = .next t ∧ t.dbg.ir = 0x01 ∧ t.dbg.dr % 2 = 1 ∧ t.dbg.dr / 2 % 2 ^ 11 = 0x2B1 ∧
    t.dbg.dr / 2 ^ 12 = s.rf F.DEV_ROLE_GRADE_CODE 0 * 2 ^ 16 + 0xA7 * 2 ^ 8 + s.part ∧ t = { s with dbg := { s.dbg with ir := 1, dr := t.dbg.dr } } :) ∧
  (∀ (s : State) (a b : Nat), s.cfg.fuses.debugClose = false →
    ∃ t, exec (.samplePreload a b) s = .next t ∧ t = { s with dbg := { s.dbg with ir := 0x02, dr := a % 2 ^ (if s.is20 then 1124 else 1788), boundary := b % 2 ^ (if s.is20 then 1124 else 1788) } } :) ∧
  (∀ (s : State) (v : Nat), s.cfg.fuses.debugClose = false →
    ∃ t, exec (.extest v) s = .next t ∧ t.dbg = { s.dbg with ir := 0x03, boundary := v % 2 ^ (if s.is20 then 1124 else 1788) } ∧
      t.faultLine = s.faultLine ++ [faultEv .debugBoundaryTest 0 0 0] ∧ t = { s with dbg := t.dbg, faultLine := t.faultLine } :) ∧
  (∀ (s : State), s.cfg.fuses.debugClose = false →
    ∃ t, exec .clamp s = .next t ∧ t = { s with dbg := { s.dbg with ir := 0x04 }, faultLine := s.faultLine ++ [faultEv .debugBoundaryTest 0 0 0] } :) ∧
  (∀ (s : State), s.cfg.fuses.debugClose = false →
    ∃ t, exec .highz s = .next t ∧ t = { s with dbg := { s.dbg with ir := 0x05 }, faultLine := s.faultLine ++ [faultEv .debugBoundaryTest 0 0 0] } :) ∧
  (∀ (s : State), ∃ t, exec .bypass s = .next t ∧ t = { s with dbg := { s.dbg with ir := 0xFF } } :) ∧
  (∀ (s : State), s.cfg.fuses.debugClose = false → ∃ t, exec .dbgAccess s = .next t ∧ t = { s with dbg := { s.dbg with ir := 0x20 } } :) ∧
  (∀ (s : State) (a tag : Nat), s.dbg.ir = 0x20 → s.dbg.busy = none → tag < 64 → s.tagHeld 0 2 tag = false → (∀ k, k < tag → s.tagHeld 0 2 k = true) →
    ∃ t x, exec (.dbgAccessRead a) s = .next t ∧ x = (⟨.read, 0, 2, tag, a % 2 ^ 48, 1, 48, 0, [], .requests, 0⟩ : Txn) ∧
      t = { s with dbg := { s.dbg with busy := some tag, drop := false }, inFlight := s.inFlight ++ [x], net := s.net.enter (.req x), outst := s.outst ++ [⟨x, false, false⟩] } :) ∧
  (∀ (s : State) (a : Nat) (w : TWord), s.dbg.ir = 0x20 → s.dbg.busy = none →
    ∃ t, exec (.dbgAccessWrite a w) s = .next t ∧
      t = { s with dbg := { s.dbg with status := 0 }, inFlight := s.inFlight ++ [⟨.write, 0, 2, 0, a % 2 ^ 48, 1, 48, 0, [w], .posted, 0⟩], net := s.net.enter (.req ⟨.write, 0, 2, 0, a % 2 ^ 48, 1, 48, 0, [w], .posted, 0⟩) } :) ∧
  (∀ (s : State) (a : Nat) (w : TWord), s.dbg.ir = 0x20 → s.dbg.busy.isSome = true →
    ∃ t, exec (.dbgAccessWrite a w) s = .next t ∧ exec (.dbgAccessRead a) s = .next t ∧ t = { s with dbg := { s.dbg with overrun := true } } :) ∧
  (∀ (s : State), s.dbg.ir = 0x20 → s.dbg.status < 2 ^ 48 → s.dbg.tag < 4 →
    ∃ t, exec .dbgAccessCapture s = .next t ∧
      (t.dbg.dr % 4 = if s.dbg.overrun = true then 3 else if s.dbg.busy.isSome = true then 1 else if s.dbg.status = 0 then 0 else 2) ∧
      t.dbg.dr / 4 % 4 = s.dbg.tag ∧ t.dbg.dr / 16 % 2 ^ 48 = s.dbg.status ∧ t.dbg.dr / 2 ^ 52 = s.dbg.data ∧
      t = { s with dbg := { s.dbg with dr := t.dbg.dr, overrun := false } } :) ∧
  (∀ (s : State), s.cfg.fuses.debugClose = false →
    ∃ t n, exec .maltChallenge s = .next t ∧ n = Config.nonce s.dbg.draws % 2 ^ 64 ∧
      t = { s with dbg := { s.dbg with ir := 0x30, dr := n * 2 ^ 64 + s.dbg.uid % 2 ^ 64, nonce := n, draws := s.dbg.draws + 1 } } :) ∧
  (∀ (s : State) (g : Nat), s.cfg.fuses.debugClose = false → s.dbg.fails < 3 →
    ∃ t x, exec (.maltResponse g) s = .next t ∧ x = { s.dbg with ir := 0x31, nonce := Config.nonce s.dbg.draws % 2 ^ 64, draws := s.dbg.draws + 1 } ∧
      (if Machine.sigGood s.dbg.key (Machine.sha256 (beBytes 16 (s.dbg.nonce * 2 ^ 64 + s.dbg.uid % 2 ^ 64))) (g % 2 ^ 512) = true then
        t = { s with dbg := { x with unlocked := true } }
      else t = { s with dbg := { x with fails := s.dbg.fails + 1 }, faultLine := s.faultLine ++ [faultEv .debugUnlockFailed 0 0 0] }) :) ∧
  (∀ (s : State) (g : Nat), s.cfg.fuses.debugClose = false → 3 ≤ s.dbg.fails →
    ∃ t, exec (.maltResponse g) s = .next t ∧ t.dbg.unlocked = s.dbg.unlocked ∧ t.dbg.fails = s.dbg.fails ∧ t.dbg.ir = 0x31 ∧ t = { s with dbg := t.dbg } :) ∧
  (∀ (s : State), s.dbg.unlocked = false → ∃ t, exec .maltDbg s = .next t ∧ t = { s with dbg := { s.dbg with ir := 0xFF } } :) ∧
  (∀ (s : State), s.dbg.unlocked = true → s.cfg.fuses.debugClose = false →
    ∃ t, exec .maltDbg s = .next t ∧ t.dbg = { s.dbg with ir := 0x32, dr := t.dbg.dr } ∧ t = { s with dbg := t.dbg, freeCtr := t.freeCtr } :) ∧
  (∀ (s : State) (a b g : Nat), s.cfg.fuses.debugClose = true →
    ∃ t, t = { s with dbg := { s.dbg with ir := 0xFF } } ∧ exec (.samplePreload a b) s = .next t ∧ exec (.extest a) s = .next t ∧ exec .clamp s = .next t ∧
      exec .highz s = .next t ∧ exec .bypass s = .next t ∧ exec .dbgAccess s = .next t ∧ exec .maltChallenge s = .next t ∧
      exec (.maltResponse g) s = .next t ∧ exec .maltDbg s = .next t :)

/-- Stream engines fetch descriptors, move words in turns, claim and release landing buffer space, and post completion words
(R492, R501, R901, R903, R905, R907, R908, R909, R910, R911, R913, R930). -/
def Obligations.EnginesFetchMoveClaimAndComplete : Prop :=
  (∀ (s : State) (d e x tag : Nat), s.rf F.CTX_CTL_RUN d e x = 1 → s.ctx d e x = Ctx.init → s.rf F.CTX_STAT_CONS d e x ≠ s.rf F.CTX_PROD_PROD d e x →
    s.freeTag d (engMaster d e) = some tag → s.rw .CTX_DESC_BASE d e x % 4 = 0 →
    ∃ t q, exec (.descriptorFetch d e x) s = .next t ∧
      q = (⟨.read, d, engMaster d e, tag, (s.rw .CTX_DESC_BASE d e x + 4 * (s.rf F.CTX_STAT_CONS d e x % 2 ^ s.rf F.CTX_CTL_DESC_EXP d e x)) % 2 ^ 48, 4, 48, 0, [], .requests, x⟩ : Txn) ∧
      Injected s t q ∧ t.outst = s.outst ++ [⟨q, false, false⟩] ∧ t.ctx d e x = { Ctx.init with reads := [⟨tag, 0, s.ctxEpoch d e x, 0, 4⟩] } ∧
      (∀ k, k ≠ key3 d e x → mget t.ctxs k Ctx.init = mget s.ctxs k Ctx.init) ∧ t = { s with inFlight := t.inFlight, net := t.net, outst := t.outst, ctxs := t.ctxs } :) ∧
  (∀ (s : State) (d e x tag : Nat), s.rf F.CTX_CTL_RUN d e x = 1 → s.ctx d e x = Ctx.init → s.rf F.CTX_STAT_CONS d e x ≠ s.rf F.CTX_PROD_PROD d e x →
    s.freeTag d (engMaster d e) = some tag → s.rw .CTX_DESC_BASE d e x % 4 ≠ 0 →
    ∃ t, exec (.descriptorFetch d e x) s = .next t ∧ t.rf F.CTX_CTL_RUN d e x = 0 ∧ t.rf F.CTX_STAT_CAUSE d e x = 5 ∧
      t.faultLine = s.faultLine ++ [faultEv .streamContextError d (16 * e + x) (t.rw .CTX_STAT d e x)] ∧
      (∀ k, mget t.ctxs k Ctx.init = mget s.ctxs k Ctx.init) ∧
      t = { s with regs := t.regs, faultLine := t.faultLine, ctxs := t.ctxs } ∧ RegsKept s t [⟨.CTX_CTL, d, e, x⟩, ⟨.CTX_STAT, d, e, x⟩] :) ∧
  (∀ (s : State) (d e : Nat), (∀ x, x < 16 → s.ctxAct d e x = none) → ∃ t, exec (.engineTurn d e) s = .next t ∧ t = s :) ∧
  (∀ (s : State) (d e x n tag : Nat) (c : Ctx), e < engCount d → x < 16 → (∀ y, y < 16 → y ≠ x → s.rf F.CTX_CTL_RUN d e y = 0) → s.rf F.CTX_CTL_RUN d e x = 1 →
    c = s.ctx d e x → c.desc ≠ [] → c.ready = [] → c.srcWin = false → c.finishing = false → c.asked < c.need → c.reads = [] →
    s.freeTag d (engMaster d e) = some tag → n = min (c.chunk c.asked) (c.need - c.asked) →
    ∃ t q, exec (.engineTurn d e) s = .next t ∧ q = (⟨.read, d, engMaster d e, tag, (c.src + c.asked) % 2 ^ 48, n, 48, 0, [], .requests, x⟩ : Txn) ∧
      Injected s t q ∧ t.outst = s.outst ++ [⟨q, false, false⟩] ∧
      t.ctx d e x = { c with asked := c.asked + n, reads := [⟨tag, 1, s.ctxEpoch d e x, c.asked, n⟩] } ∧
      (∀ k, k ≠ key3 d e x → mget t.ctxs k Ctx.init = mget s.ctxs k Ctx.init) ∧ t = { s with inFlight := t.inFlight, net := t.net, outst := t.outst, ctxs := t.ctxs, engines := t.engines } :) ∧
  (∀ (s : State) (d e x n : Nat) (c : Ctx) (ws : List TWord), e < engCount d → x < 16 → (∀ y, y < 16 → y ≠ x → s.rf F.CTX_CTL_RUN d e y = 0) →
    s.rf F.CTX_CTL_RUN d e x = 1 → c = s.ctx d e x → c.desc ≠ [] → ws = c.ready.map Prod.fst → ws ≠ [] → n = ws.length →
    (c.dstWin = true → ∀ w, w ∈ ws → w.tag.toNat < 2) → ((s.landOf c.dst).isNone = true ∨ n ≤ c.grant) → c.moved + n < c.need →
    s.rf F.CTX_WORDS_CNT_COUNT d e x + n < 2 ^ 40 →
    ∃ t, exec (.engineTurn d e) s = .next t ∧
      Injected s t ⟨.write, d, engMaster d e, 0, posAddr c.dstWin c.dst c.moved, n, 48, 0, ws, if (s.landOf c.dst).isSome = true then .streams else .posted, x⟩ ∧
      t.ctx d e x = { c with moved := c.moved + n, grant := 0, staged := c.staged.filter fun w => c.moved + n ≤ w.1 } ∧
      t.rf F.CTX_WORDS_CNT_COUNT d e x = s.rf F.CTX_WORDS_CNT_COUNT d e x + n ∧
      (∀ k, k ≠ key3 d e x → mget t.ctxs k Ctx.init = mget s.ctxs k Ctx.init) ∧ RegsKept s t [⟨.CTX_WORDS_CNT, d, e, x⟩] ∧
      t = { s with regs := t.regs, inFlight := t.inFlight, net := t.net, ctxs := t.ctxs, engines := t.engines, landing := t.landing } :) ∧
  (∀ (s : State) (d e x a tag : Nat) (l : Nat × Nat) (c : Ctx), e < engCount d → x < 16 → (∀ y, y < 16 → y ≠ x → s.rf F.CTX_CTL_RUN d e y = 0) →
    s.rf F.CTX_CTL_RUN d e x = 1 → c = s.ctx d e x → c.desc ≠ [] → c.ready ≠ [] → c.grant = 0 → c.reads = [] → c.dstWin = false → s.landOf c.dst = some l →
    s.freeTag d (engMaster d e) = some tag → a = s.glob l.1 (claimBase l.1 l.2) →
    ∃ t, exec (.engineTurn d e) s = .next t ∧ Injected s t ⟨.read, d, engMaster d e, tag, a + (c.ready.length - 1), 1, 48, 0, [], .requests, x⟩ ∧
      t.ctx d e x = { c with reads := [⟨tag, 2, s.ctxEpoch d e x, a, 1⟩] } ∧
      t = { s with inFlight := t.inFlight, net := t.net, outst := t.outst, ctxs := t.ctxs, engines := t.engines } :) ∧
  (∀ (s : State) (d e x : Nat) (c : Ctx), e < engCount d → x < 16 → d < 8 → (∀ y, y < 16 → y ≠ x → s.rf F.CTX_CTL_RUN d e y = 0) → s.rf F.CTX_CTL_RUN d e x = 1 →
    c = s.ctx d e x → c.desc ≠ [] → c.ready = [] → c.finishing = true → c.backs = [] → c.reads = [] →
    ∃ t w, exec (.engineTurn d e) s = .next t ∧ w.tag = tagEnd ∧
      w.data.toNat = c.w 2 / 2 ^ 40 % 2 ^ 8 * 2 ^ 40 + d * 2 ^ 37 + e * 2 ^ 34 + x * 2 ^ 30 + c.moved % 2 ^ 24 ∧
      Injected s t ⟨.write, d, engMaster d e, 0, c.w 3, 1, 48, 0, [w], .posted, 0⟩ ∧ t.ctx d e x = Ctx.init ∧
      t.rf F.CTX_STAT_CONS d e x = (s.rf F.CTX_STAT_CONS d e x + 1) % 65536 ∧ RegsKept s t [⟨.CTX_STAT, d, e, x⟩] ∧
      t = { s with regs := t.regs, inFlight := t.inFlight, net := t.net, ctxs := t.ctxs, engines := t.engines } :) ∧
  (∀ (s : State) (d b n : Nat) (q : Txn) (rest : List Txn), (s.land d b).claims = q :: rest → q.len = 1 → q.op = .read → n = addrLocal q.addr % 64 + 1 →
    ∃ t, exec (.claim d b) s = .next t ∧
      (if (s.land d b).used + n ≤ 128 then t.land d b = ⟨rest, (s.land d b).used + n⟩ ∧ (∀ k, k ≠ key2 d b → mget t.lands k ⟨[], 0⟩ = mget s.lands k ⟨[], 0⟩) ∧
          t = { s with lands := t.lands, resps := s.resps ++ [⟨false, q.srcDie, q.master, q.rtag, 0, [dataWord n]⟩], net := s.net.enter (.resp ⟨false, q.srcDie, q.master, q.rtag, 0, [dataWord n]⟩) }
        else t = s) :) ∧
  (∀ (s : State) (d b n : Nat) (q : Txn) (v : TWord), s.hasDie d = true → s.atDie d q = true → q.op = .write → q.words = [v] → claimOf d (addrLocal q.addr) = some b → v.data.toNat = n →
    v.tag.toNat < 2 → q.len = 1 → q.vc ≠ .streams →
    ∃ t, exec (.release d q) s = .next t ∧ t.inFlight = s.inFlight.erase q ∧
      (if n ≤ (s.land d b).used then t.land d b = ⟨(s.land d b).claims, (s.land d b).used - n⟩ ∧ t.faultLine = s.faultLine
        else t.lands = s.lands ∧ t.faultLine = s.faultLine ++ [faultEv .ixgalProtocolError d 0 0]) ∧
      (∀ k, k ≠ key2 d b → mget t.lands k ⟨[], 0⟩ = mget s.lands k ⟨[], 0⟩) ∧
      t = { s with lands := t.lands, inFlight := t.inFlight, faultLine := t.faultLine } :) ∧
  (∀ (s : State) (q : Txn) (n d b : Nat) (rest : List (Txn × Nat)), s.credits = (q, n) :: rest → s.landOf q.addr = some (d, b) → n ≤ (s.land d b).used →
    ∃ t, exec .streamCreditReturn s = .next t ∧ t.land d b = ⟨(s.land d b).claims, (s.land d b).used - n⟩ ∧ t.credits = rest ∧
      (∀ k, k ≠ key2 d b → mget t.lands k ⟨[], 0⟩ = mget s.lands k ⟨[], 0⟩) ∧ t = { s with lands := t.lands, credits := t.credits } :) ∧
  (∀ (s : State) (d e x t0 : Nat), (s.ctx d e x).empty = some t0 → 80 ≤ s.ago t0 →
    ∃ t, exec (.windowReread d e x) s = .next t ∧ t.ctx d e x = { s.ctx d e x with empty := none } ∧
    (∀ k, k ≠ key3 d e x → mget t.ctxs k Ctx.init = mget s.ctxs k Ctx.init) ∧ t = { s with ctxs := t.ctxs } :)

/-- An instance reset raises the epoch, stops contexts, flushes channels and completes when its reads are answered;
memberships never overlap (R898, R917, R918, R924, R928, R930, R931, R932, R934). -/
def Obligations.InstancesResetAndKeepTheirMembers : Prop :=
  (∀ (s : State) (i : Nat) (w : TWord), w.tag.toNat < 2 → bit w.data.toNat 47 = true → s.rf F.INST_STAT_BUSY 0 i = 0 →
    ∃ t, exec (.instanceReset i w) s = .next t ∧ t.rf F.INST_STAT_BUSY 0 i = 1 ∧ t.rf F.INST_CTL_RESET 0 i = 1 ∧
      t.rf F.INST_CTL_WEIGHT 0 i = max 1 (w.data.toNat % 16) ∧ t.rf F.INST_STAT_EPOCH 0 i = (s.rf F.INST_STAT_EPOCH 0 i + 1) % 256 ∧
      (∀ d, (d = 0 ∨ d ∈ s.fabDies) → t.rf F.ENG_EPOCH_EPOCH d i = (s.rf F.INST_STAT_EPOCH 0 i + 1) % 256) ∧
      (∀ c, c ∈ s.instCtxs i → t.rf F.CTX_CTL_RUN c.1 c.2.1 c.2.2 = 0) ∧
      (∀ c, c ∈ s.instChannels i → (t.sc c).txLen = 0 ∧ (t.sc c).rx = []) :) ∧
  (∀ (s : State) (i : Nat) (w : TWord), w.tag.toNat < 2 → bit w.data.toNat 47 = true → s.rf F.INST_STAT_BUSY 0 i = 0 → s.instCtxs i = [] →
    s.instChannels i = [] → s.instIslands i = [] →
    ∃ t, exec (.instanceReset i w) s = .next t ∧ t.inst i = ⟨[], s.now, false⟩ ∧ t = { s with regs := t.regs, insts := t.insts } ∧
      RegsKept s t (⟨.INST_CTL, 0, i, 0⟩ :: ⟨.INST_STAT, 0, i, 0⟩ :: (0 :: s.fabDies).map fun d => ⟨.ENG_EPOCH, d, i, 0⟩) :) ∧
  (∀ (s : State) (i : Nat) (w : TWord), w.tag.toNat < 2 → bit w.data.toNat 47 = false → s.rf F.INST_STAT_BUSY 0 i = 0 →
    ∃ t, exec (.instanceReset i w) s = .next t ∧ t.rf F.INST_CTL_WEIGHT 0 i = max 1 (w.data.toNat % 16) ∧ t.rf F.INST_CTL_RESET 0 i = s.rf F.INST_CTL_RESET 0 i ∧
      OnlyRegs s t [⟨.INST_CTL, 0, i, 0⟩] :) ∧
  (∀ (s : State) (i : Nat) (w : TWord), w.tag.toNat < 2 → bit w.data.toNat 47 = true → s.rf F.INST_STAT_BUSY 0 i = 1 →
    ∃ t, exec (.instanceReset i w) s = .next t ∧ t.rf F.INST_CTL_RESET 0 i = 1 ∧ t.rf F.INST_CTL_WEIGHT 0 i = s.rf F.INST_CTL_WEIGHT 0 i ∧
      t.inst i = { s.inst i with again := true } ∧ t = { s with regs := t.regs, insts := t.insts } ∧ RegsKept s t [⟨.INST_CTL, 0, i, 0⟩] :) ∧
  (∀ (s : State) (i : Nat), s.rf F.INST_STAT_BUSY 0 i = 1 → (s.inst i).wait = [] → (s.inst i).again = false → (s.inst i).began ≤ s.now → s.now < 2 ^ 32 →
    s.rf F.INST_RESET_CNT_COUNT 0 i < 2 ^ 16 - 1 →
    ∃ t, exec (.instanceResetComplete i) s = .next t ∧ t.rf F.INST_STAT_BUSY 0 i = 0 ∧ t.rf F.INST_CTL_RESET 0 i = 0 ∧
      t.rf F.INST_RESET_CNT_COUNT 0 i = s.rf F.INST_RESET_CNT_COUNT 0 i + 1 ∧ t.rw .INST_RESET_NS 0 i = s.now - (s.inst i).began ∧
      t.faultLine = s.faultLine ++ [faultEv .instanceReset 0 i 0] ∧
      OnlyRegsEv s t [⟨.INST_STAT, 0, i, 0⟩, ⟨.INST_CTL, 0, i, 0⟩, ⟨.INST_RESET_CNT, 0, i, 0⟩, ⟨.INST_RESET_NS, 0, i, 0⟩] :) ∧
  (∀ (s : State) (i : Nat), (s.inst i).wait ≠ [] → ∃ t, exec (.instanceResetComplete i) s = .next t ∧ t = s :) ∧
  (∀ (s : State) (k i m : Nat) (n : RegName) (w : TWord), w.tag.toNat < 2 → k < 4 → s.rf F.INST_STAT_BUSY 0 i = 0 → n = memberReg k →
    m = (if k = 2 then w.data.toNat / 2 * 2 else if k = 0 then w.data.toNat else w.data.toNat % 65536) →
    (∀ j, j < 16 → j ≠ i → s.rw n 0 j &&& m = 0) →
    ∃ t, exec (.instMembershipWrite k i w) s = .next t ∧ t.rw n 0 i = m ∧ OnlyRegs s t [⟨n, 0, i, 0⟩] :) ∧
  (∀ (s : State) (k i m j : Nat) (n : RegName) (w : TWord), w.tag.toNat < 2 → k < 4 → s.rf F.INST_STAT_BUSY 0 i = 0 → n = memberReg k →
    m = (if k = 2 then w.data.toNat / 2 * 2 else if k = 0 then w.data.toNat else w.data.toNat % 65536) →
    j < 16 → j ≠ i → s.rw n 0 j &&& m ≠ 0 →
    ∃ t, exec (.instMembershipWrite k i w) s = .next t ∧ t.rf F.INST_STAT_ERR 0 i = 1 ∧ OnlyRegs s t [⟨.INST_STAT, 0, i, 0⟩] :)

/-- An event reaching the fault manager is counted, and is dropped, added to a shadow or queued in its source's order (R989,
R990, R999, R1011, R1012, R1113). -/
def Obligations.EventsAreCountedShadowedAndQueued : Prop :=
  (∀ (s : State) (k : Nat), s.faultLine.length ≤ k → ∃ t, exec (.faultEvent k) s = .next t ∧ t = s :) ∧
  (∀ (s : State) (k n : Nat) (e : FaultEv), s.faultLine[k]? = some e → e.forced = false → n = e.src.num → s.rf F.FM_SRC_CTL_EN 0 n = 0 →
    s.rf F.FM_SRC_CNT_COUNT 0 n < 2 ^ 32 - 1 →
    ∃ t, exec (.faultEvent k) s = .next t ∧ t.faultLine = s.faultLine.eraseIdx k ∧ t.rf F.FM_SRC_CNT_COUNT 0 n = s.rf F.FM_SRC_CNT_COUNT 0 n + 1 ∧
      OnlyRegsEv s t [⟨.FM_SRC_CNT, 0, n, 0⟩] :) ∧
  (∀ (s : State) (k n : Nat) (e g : FaultEv), s.faultLine[k]? = some e → e.forced = false → n = e.src.num → s.rf F.FM_SRC_CTL_EN 0 n = 1 →
    s.rf F.FM_SRC_CNT_COUNT 0 n < 2 ^ 32 - 1 → s.shadows = [] → (s.fmWaiting n).length < 65535 →
    g = { e with time := s.now, epoch := s.rf F.TB_EPOCH_EPOCH 0 % 256, die := (normUnit n e.die e.unit).1, unit := (normUnit n e.die e.unit).2 } →
    ∃ t, exec (.faultEvent k) s = .next t ∧ t.faultLine = s.faultLine.eraseIdx k ∧ t.rf F.FM_SRC_CNT_COUNT 0 n = s.rf F.FM_SRC_CNT_COUNT 0 n + 1 ∧
      t.fmWaiting n = s.fmWaiting n ++ [g] ∧ (∀ m, m ≠ n → t.fmWaiting m = s.fmWaiting m) ∧
      t = { s with regs := t.regs, faultLine := t.faultLine, fm := { s.fm with waiting := t.fm.waiting } } ∧ RegsKept s t [⟨.FM_SRC_CNT, 0, n, 0⟩] :) ∧
  (∀ (s : State) (k n : Nat) (e g : FaultEv) (x : Shadow), s.faultLine[k]? = some e → e.forced = false → n = e.src.num → s.rf F.FM_SRC_CTL_EN 0 n = 1 →
    s.rf F.FM_SRC_CNT_COUNT 0 n < 2 ^ 32 - 1 → s.rf F.FM_SHADOW_CNT_COUNT 0 < 2 ^ 32 - 1 →
    g = { e with time := s.now, epoch := s.rf F.TB_EPOCH_EPOCH 0 % 256, die := (normUnit n e.die e.unit).1, unit := (normUnit n e.die e.unit).2 } →
    s.shadows = [x] → s.borders g x = true → x.sums = [] →
    ∃ t, exec (.faultEvent k) s = .next t ∧ t.faultLine = s.faultLine.eraseIdx k ∧ t.rf F.FM_SRC_CNT_COUNT 0 n = s.rf F.FM_SRC_CNT_COUNT 0 n + 1 ∧
      t.rf F.FM_SHADOW_CNT_COUNT 0 = s.rf F.FM_SHADOW_CNT_COUNT 0 + 1 ∧ t.shadows = [{ x with sums := [(n, 1, g)] }] ∧
      t = { s with regs := t.regs, faultLine := t.faultLine, shadows := t.shadows } ∧ RegsKept s t [⟨.FM_SRC_CNT, 0, n, 0⟩, ⟨.FM_SHADOW_CNT, 0, 0, 0⟩] :) ∧
  (∀ (s : State) (k n : Nat) (e : FaultEv), s.faultLine[k]? = some e → e.forced = false → n = e.src.num → s.rf F.FM_SRC_CTL_EN 0 n = 1 → s.shadows = [] →
    ∃ t, exec (.faultEvent k) s = .next t ∧ (65535 ≤ (s.fmWaiting n).length →
      t.fm.waiting = s.fm.waiting ∧ t.fmSrc n = { s.fmSrc n with merged := (s.fmSrc n).merged + 1 } ∧ RegsKept s t [⟨.FM_SRC_CNT, 0, n, 0⟩]) :)

/-- Waiting events are classified in rotation, windows count and promote, and sources clear (R994, R995, R996, R997, R998,
R1000, R1002, R1010, R1012, R1016, R1018, R1020). -/
def Obligations.EventsAreClassifiedAndSourcesClear : Prop :=
  (∀ (s : State), (∀ k, k < 116 → s.fmWaiting (k + 1) = []) → ∃ t, exec .faultClassify s = .next t ∧ t = s :) ∧
  (∀ (s : State) (k n b : Nat) (e : FaultEv) (rest : List FaultEv), k < 116 → n = (s.fm.rot + k) % 116 + 1 → (∀ j, j < k → s.fmWaiting ((s.fm.rot + j) % 116 + 1) = []) →
    s.fmWaiting n = e :: rest → e.forced = false → e.promote = false → b = (faultSpec n).base → 2 ≤ b → b < 4 → s.rf F.FM_SRC_CTL_EN 0 n = 1 → s.rf F.FM_SRC_STAT_IN_FAULT 0 n = 0 →
    s.rf F.FM_SRC_CTL_REACT_SEV 0 n = 1 → s.fm.log.length < 256 → (s.fmSrc n).merged = 0 →
    ∃ t r, exec .faultClassify s = .next t ∧ t.fmWaiting n = rest ∧ (∀ m, m ≠ n → t.fmWaiting m = s.fmWaiting m) ∧ t.fm.rot = n ∧
      t.rf F.FM_SRC_STAT_IN_FAULT 0 n = 1 ∧ t.rf F.FM_SRC_STAT_SEV 0 n = b ∧ t.fm.log = s.fm.log ++ [r] ∧ t.fm.seq = (s.fm.seq + 1) % 65536 ∧
      r = (⟨e.time % 2 ^ 48, n * 2 ^ 40 + b * 2 ^ 38 + e.die % 8 * 2 ^ 32 + e.unit % 65536 * 2 ^ 16 + n * 2 ^ 8 + 1, e.detail % 2 ^ 48, 2 ^ 32 + e.epoch % 256 * 2 ^ 24 + s.fm.seq % 65536⟩ : FaultRec) ∧
      t.faultLine = s.faultLine ∧ t = { s with regs := t.regs, fm := t.fm, rst := t.rst } ∧ RegsKept s t [⟨.FM_SRC_STAT, 0, n, 0⟩] :) ∧
  (∀ (s : State) (n : Nat) (e : FaultEv), n = s.fm.rot % 116 + 1 → s.fmWaiting n = [e] → e.forced = false → e.promote = false →
    (faultSpec n).base < 2 → s.rf F.FM_SRC_CTL_EN 0 n = 1 → s.rf F.FM_SRC_STAT_IN_FAULT 0 n = 0 → s.rf F.FM_SRC_STAT_WIN_OPEN 0 n = 0 → 2 ≤ s.rf F.FM_SRC_CTL_N 0 n →
    s.rf F.FM_SRC_CTL_REACT_BASE 0 n = 1 → s.fm.log.length < 256 →
    ∃ t, exec .faultClassify s = .next t ∧ t.rf F.FM_SRC_STAT_IN_FAULT 0 n = 1 ∧ t.rf F.FM_SRC_STAT_SEV 0 n = (faultSpec n).base ∧
      t.rf F.FM_SRC_STAT_WIN_OPEN 0 n = 1 ∧ t.rf F.FM_SRC_STAT_WIN_COUNT 0 n = 1 ∧ (t.fmSrc n).winAt = e.time ∧ (t.fmSrc n).winN = s.rf F.FM_SRC_CTL_N 0 n ∧
      t.fm.log.length = s.fm.log.length + 1 ∧ RegsKept s t [⟨.FM_SRC_STAT, 0, n, 0⟩] :) ∧
  (∀ (s : State) (n c : Nat) (e : FaultEv), n = s.fm.rot % 116 + 1 → s.fmWaiting n = [e] → e.forced = false → e.promote = false →
    (faultSpec n).base < 2 → s.rf F.FM_SRC_CTL_EN 0 n = 1 → s.rf F.FM_SRC_STAT_IN_FAULT 0 n = 1 → s.rf F.FM_SRC_STAT_SEV 0 n = (faultSpec n).base →
    s.rf F.FM_SRC_STAT_WIN_OPEN 0 n = 1 → c = s.rf F.FM_SRC_STAT_WIN_COUNT 0 n + 1 → (s.fmSrc n).winN = c → (s.fmSrc n).winAt ≤ e.time →
    e.time < 2 ^ 48 → e.time - (s.fmSrc n).winAt < 2 ^ (s.fmSrc n).winTexp * 1000 → s.rf F.FM_SRC_CTL_REACT_SEV 0 n = 1 → s.fm.log.length < 256 →
    ∃ t r, exec .faultClassify s = .next t ∧ t.rf F.FM_SRC_STAT_SEV 0 n = 2 ∧ t.rf F.FM_SRC_STAT_WIN_OPEN 0 n = 0 ∧ t.rf F.FM_SRC_STAT_WIN_COUNT 0 n = 0 ∧
      t.fm.log = s.fm.log ++ [r] ∧ r.w1 / 2 ^ 36 % 4 = 1 ∧ r.w1 / 2 ^ 38 % 4 = 2 ∧ r.w1 / 2 ^ 40 = n ∧ r.w3 / 2 ^ 32 = min 65535 (c + (s.fmSrc n).merged) ∧
      RegsKept s t [⟨.FM_SRC_STAT, 0, n, 0⟩] :) ∧
  (∀ (s : State) (n : Nat), s.rf F.FM_SRC_STAT_WIN_OPEN 0 n = 1 → (s.fmSrc n).winAt ≤ s.now → s.now - (s.fmSrc n).winAt < 2 ^ 48 →
    2 ^ (s.fmSrc n).winTexp * 1000 ≤ s.now - (s.fmSrc n).winAt →
    ∃ t, exec (.faultWindowClose n) s = .next t ∧ t.rf F.FM_SRC_STAT_WIN_OPEN 0 n = 0 ∧ t.rf F.FM_SRC_STAT_WIN_COUNT 0 n = 0 ∧
      t.rf F.FM_SRC_STAT_SEV 0 n = s.rf F.FM_SRC_STAT_SEV 0 n ∧ OnlyRegs s t [⟨.FM_SRC_STAT, 0, n, 0⟩] :) ∧
  (∀ (s : State) (n : Nat), s.rf F.FM_SRC_STAT_IN_FAULT 0 n = 1 → s.rf F.FM_SRC_STAT_SEV 0 n ≠ 3 → s.fmWaiting n = [] → (s.fmSrc n).lastAt ≤ s.now →
    s.now - (s.fmSrc n).lastAt < 2 ^ 48 → s.rf F.FM_SRC_CTL_QUIET_MS 0 n * 1000000 ≤ s.now - (s.fmSrc n).lastAt → bit (s.fmSrc n).react 0 = true →
    s.fm.log.length < 256 → s.rf F.FM_SRC_RECOV_COUNT 0 n < 2 ^ 16 - 1 →
    ∃ t r, exec (.quietPeriodExpiry n) s = .next t ∧ t.rf F.FM_SRC_STAT_IN_FAULT 0 n = 0 ∧ t.rf F.FM_SRC_STAT_SEV 0 n = (faultSpec n).base % 4 ∧
      t.rf F.FM_SRC_STAT_WIN_OPEN 0 n = 0 ∧ t.rf F.FM_SRC_RECOV_COUNT 0 n = s.rf F.FM_SRC_RECOV_COUNT 0 n + 1 ∧ t.fm.log = s.fm.log ++ [r] ∧
      r.w1 / 2 ^ 36 % 4 = 2 ∧ r.w0 = s.now % 2 ^ 48 ∧ t = { s with regs := t.regs, fm := t.fm } ∧ RegsKept s t [⟨.FM_SRC_STAT, 0, n, 0⟩, ⟨.FM_SRC_RECOV, 0, n, 0⟩] :) ∧
  (∀ (s : State) (n : Nat), (s.rf F.FM_SRC_STAT_SEV 0 n = 3 ∨ s.fmWaiting n ≠ []) → ∃ t, exec (.quietPeriodExpiry n) s = .next t ∧ t = s :) ∧
  (∀ (s : State) (x : Shadow) (n c : Nat) (e : FaultEv), s.shadows = [x] → x.ended = true → x.stop ≤ s.now → s.now - x.stop < 2 ^ 47 → x.sums = [(n, c, e)] →
    s.rf F.FM_SRC_CTL_EN 0 n = 1 → s.fm.log.length < 256 → x.root < 256 →
    ∃ t r, exec (.shadowEnd x.die x.island) s = .next t ∧ t.shadows = [] ∧ t.fm.log = s.fm.log ++ [r] ∧ r.w1 / 2 ^ 36 % 4 = 3 ∧ r.w1 / 2 ^ 40 = n ∧
      r.w1 / 2 ^ 8 % 256 = x.root ∧ r.w3 / 2 ^ 32 = min 65535 c ∧ r.w0 = e.time % 2 ^ 48 ∧ t = { s with shadows := [], fm := t.fm } :) ∧
  (∀ (s : State) (n : Nat) (w : TWord), 1 ≤ n → n ≤ 116 → w.tag.toNat < 2 → bit w.data.toNat 46 = true → bit w.data.toNat 47 = false →
    ∃ t, exec (.clear n w false) s = .next t ∧ t.rf F.FM_SRC_STAT_IN_FAULT 0 n = 0 ∧ t.rf F.FM_SRC_STAT_SEV 0 n = (faultSpec n).base % 4 ∧
      t.rf F.FM_SRC_STAT_WIN_OPEN 0 n = 0 ∧ t.rf F.FM_SRC_CTL_EN 0 n = w.data.toNat / 2 ^ 45 % 2 ∧ t.rf F.FM_SRC_CTL_N 0 n = w.data.toNat / 2 ^ 32 % 256 ∧
      t.rf F.FM_SRC_CTL_TEXP 0 n = min 26 (w.data.toNat / 2 ^ 40 % 32) ∧ t.rf F.FM_SRC_CTL_QUIET_MS 0 n = max 1 (min 64000 (w.data.toNat % 65536)) ∧
      OnlyRegs s t [⟨.FM_SRC_CTL, 0, n, 0⟩, ⟨.FM_SRC_STAT, 0, n, 0⟩] :) ∧
  (∀ (s : State) (n : Nat) (w : TWord) (y : Bool), 1 ≤ n → n ≤ 116 → w.tag.toNat < 2 → bit w.data.toNat 46 = false → bit w.data.toNat 47 = true →
    ∃ t, exec (.force n w y) s = .next t ∧ t.rf F.FM_SRC_CTL_FORCE 0 n = 1 ∧
      t.faultLine = s.faultLine ++ [{ faultEv (FaultSrc.ofNat (n - 1)) (s.rf F.FM_SRC_RECOV_FORCE_DIE 0 n) (s.rf F.FM_SRC_RECOV_FORCE_UNIT 0 n) 0 with forced := true }] ∧
      OnlyRegsEv s t [⟨.FM_SRC_CTL, 0, n, 0⟩] :) ∧
  (∀ (s : State) (w : TWord), w.tag.toNat < 2 →
    ∃ t, exec (.pop w) s = .next t ∧ t.fm.log = (if bit w.data.toNat 47 = true then s.fm.log.tail else s.fm.log) ∧ t = { s with fm := { s.fm with log := t.fm.log } } :)

/-- The gateway accepts a waiting transaction for another device, issues one that arrives for this device, delivers its
response and keeps slots (R937, R938, R939, R940, R941, R942, R944, R945, R1116). -/
def Obligations.TheGatewayCarriesTransactions : Prop :=
  (∀ (s : State) (l g : Nat) (q : Txn) (rest : List Txn), s.gw.waiting = [q] → s.rf F.JD_CTL_GW_EN 0 = 1 → s.route (addrDev q.addr) = l → l ≠ 15 → s.rf F.SL_STAT_STATE 0 l = 2 →
    (s.rf F.JD_CTL_DATELINE 0).testBit l = false → s.gwSlots l 0 0 ≠ 0 → q.op = .read → g < 256 → (∀ o, o ∈ s.gw.orig → o.tag ≠ g) → (∀ k, k < g → ∃ o, o ∈ s.gw.orig ∧ o.tag = k) → rest = [] →
    ∃ t, exec .gatewayAccept s = .next t ∧ t.gw.waiting = rest ∧ t.gw.orig = s.gw.orig ++ [⟨g, q, l⟩] ∧ t.gwSlots l 0 0 = s.gwSlots l 0 0 - 1 ∧
      (t.sl l).system = (s.sl l).system ++ (⟨false, g, addrDev q.addr, s.devNum % 512, 0, 0, 8, gwWords q⟩ : GwItem).bodies ∧
      t.gw.queue = s.gw.queue ∧ t.gw.serve = s.gw.serve ∧ t.gw.part = s.gw.part ∧ (∀ k, k ≠ l → t.sl k = s.sl k) ∧ t = { s with gw := t.gw, links := t.links } :) ∧
  (∀ (s : State) (l : Nat) (q : Txn), s.gw.waiting = [q] → s.rf F.JD_CTL_GW_EN 0 = 1 → s.route (addrDev q.addr) = l → l ≠ 15 → s.rf F.SL_STAT_STATE 0 l = 2 →
    (s.rf F.JD_CTL_DATELINE 0).testBit l = false → s.gwSlots l 0 1 ≠ 0 → (q.op = .write ∨ q.op = .narrowWrite) → q.vc = .posted →
    ∃ t, exec .gatewayAccept s = .next t ∧ t.gw.waiting = [] ∧ t.gw.orig = s.gw.orig ∧ t.gwSlots l 0 1 = s.gwSlots l 0 1 - 1 ∧
      (t.sl l).system = (s.sl l).system ++ (⟨false, 0, addrDev q.addr, s.devNum % 512, 0, 0, 8, gwWords q⟩ : GwItem).bodies ∧
      t = { s with gw := t.gw, links := t.links } :) ∧
  (∀ (s : State), s.rf F.JD_CTL_GW_EN 0 = 0 → ∃ t, exec .gatewayAccept s = .next t ∧ t = s :) ∧
  (∀ (s : State) (q : Txn), s.gw.waiting = [q] → s.rf F.JD_CTL_GW_EN 0 = 1 → s.route (addrDev q.addr) = 15 → s.rf F.JD_UNREACH_CNT_COUNT 0 < 2 ^ 32 - 1 →
    ∃ t, exec .gatewayAccept s = .next t ∧ t.gw.waiting = [] ∧ t.rf F.JD_UNREACH_CNT_COUNT 0 = s.rf F.JD_UNREACH_CNT_COUNT 0 + 1 ∧
      faultEv .jdUnreachable 0 15 0 ∈ t.faultLine ∧ t.links = s.links :) ∧
  (∀ (s : State) (l cell b tag : Nat) (ws : List TWord) (x : GwItem) (q : Txn), s.cellDue l cell = true → cellKind cell = .system → l < 8 → l ≠ 2 → b = cellBody cell →
    b / 2 ^ 196 % 16 = 1 → b / 2 ^ 163 % 2 = 1 → b / 2 ^ 162 % 2 = 1 → ws = bodyWords (b / 2 ^ 160 % 4) b →
    x = ⟨false, b / 2 ^ 188 % 256, b / 2 ^ 179 % 512, b / 2 ^ 170 % 512, b / 2 ^ 165 % 32, b / 2 ^ 164 % 2, l, ws⟩ → x.dst = s.devNum % 512 → s.gw.queue = [] →
    x.txn = some q → q.op = .read → s.freeTag 0 8 = some tag →
    ∃ t u, exec (.gwReq l cell) s = .next t ∧ u = { q with srcDie := 0, master := 8, sub := 0, rtag := tag } ∧ Injected s t u ∧
      t.outst = s.outst ++ [⟨u, false, false⟩] ∧ t.gw.serve = s.gw.serve ++ [⟨tag, x.gwTag, x.src, q⟩] ∧ t.gw.queue = [] ∧ t.gw.orig = s.gw.orig ∧
      (t.sl l).system = (s.sl l).system ++ [3 * 2 ^ 196 + 3 * x.cls * 2 ^ 193 + 2 ^ 184] ∧ (t.sl l).rxNext = ((s.sl l).rxNext + 1) % 4096 ∧
      (∀ k, k ≠ l → t.sl k = s.sl k) ∧ t = { s with inFlight := t.inFlight, net := t.net, outst := t.outst, gw := t.gw, links := t.links } :) ∧
  (∀ (s : State) (l cell b : Nat) (ws : List TWord) (x : GwItem) (o : GwOrig), s.cellDue l cell = true → cellKind cell = .system → l < 8 → l ≠ 2 → b = cellBody cell →
    b / 2 ^ 196 % 16 = 2 → b / 2 ^ 163 % 2 = 1 → b / 2 ^ 162 % 2 = 1 → ws = bodyWords (b / 2 ^ 160 % 4) b →
    x = ⟨true, b / 2 ^ 188 % 256, b / 2 ^ 179 % 512, b / 2 ^ 170 % 512, b / 2 ^ 165 % 32, b / 2 ^ 164 % 2, l, ws⟩ → x.src = s.devNum % 512 → s.gw.queue = [] →
    s.gw.orig = [o] → o.tag = x.gwTag →
    ∃ t, exec (.gwResp l cell) s = .next t ∧ t.gw.orig = [] ∧ t.gw.queue = [] ∧
      Responded s t ⟨o.txn.op == .add || o.txn.op == .swap, o.txn.srcDie, o.txn.master, o.txn.rtag, (ws.headD noWord).data.toNat / 2 ^ 12 % 8, ws.drop 2⟩ ∧
      (t.sl l).rxNext = ((s.sl l).rxNext + 1) % 4096 ∧ (∀ k, k ≠ l → t.sl k = s.sl k) ∧ t = { s with resps := t.resps, net := t.net, gw := t.gw, links := t.links } :) ∧
  (∀ (s : State) (l cell b p n : Nat), s.cellDue l cell = true → cellKind cell = .system → l < 8 → l ≠ 2 → b = cellBody cell → b / 2 ^ 196 % 16 = 3 →
    p = b / 2 ^ 193 % 8 → p < 6 → n = s.gwSlots l (p / 3) (p % 3) + b / 2 ^ 184 % 256 → s.gw.queue = [] →
    ∃ t, exec (.gwCredit l cell) s = .next t ∧ (t.sl l).rxNext = ((s.sl l).rxNext + 1) % 4096 ∧ (∀ k, k ≠ l → t.sl k = s.sl k) ∧
      (if n ≤ 16 then t.gwSlots l (p / 3) (p % 3) = n ∧ t = { s with gw := { s.gw with slots := t.gw.slots }, links := t.links }
        else t = { s with links := t.links, faultLine := s.faultLine ++ [faultEv .saetteProtocolError 0 l 0] }) :)

/-- The follower asks for the time after its period, a request is answered with its arrival time, and a response gives the
offset, the delay and the lock (R949, R950, R951). -/
def Obligations.TimeIsExchangedBetweenDevices : Prop :=
  (∀ (s : State) (l : Nat), s.timeLink = some l → s.rf F.SL_STAT_STATE 0 l = 2 → s.dup.syncAt ≤ s.now → s.now < 2 ^ 48 →
    2 ^ s.rf F.JD_TIME_CTL_SYNC_EXP 0 * 1000000 ≤ s.now - s.dup.syncAt →
    ∃ t, exec .timeSyncExchange s = .next t ∧ (t.sl l).system = (s.sl l).system ++ [4 * 2 ^ 196 + s.dup.syncSeq * 2 ^ 188] ∧
      t.dup = { s.dup with syncSeq := (s.dup.syncSeq + 1) % 256, syncAt := s.now } ∧ (∀ k, k ≠ l → t.sl k = s.sl k) ∧ t = { s with dup := t.dup, links := t.links } :) ∧
  (∀ (s : State), s.dup.syncAt ≤ s.now → s.now - s.dup.syncAt < 1000000 → ∃ t, exec .timeSyncExchange s = .next t ∧ t = s :) ∧
  (∀ (s : State) (l cell b : Nat), s.cellDue l cell = true → cellKind cell = .system → b = cellBody cell → b / 2 ^ 196 % 16 = 4 →
    ∃ t, exec (.timeReq l cell) s = .next t ∧ (t.sl l).system = (s.sl l).system ++ [5 * 2 ^ 196 + b / 2 ^ 188 % 256 * 2 ^ 188 + s.now % 2 ^ 48 * 2 ^ 116] ∧
      (t.sl l).rxNext = ((s.sl l).rxNext + 1) % 4096 ∧ (∀ k, k ≠ l → t.sl k = s.sl k) ∧ t = { s with links := t.links } :) ∧
  (∀ (s : State) (l cell b q t1 t2 t3 : Nat) (a z : Int), s.cellDue l cell = true → cellKind cell = .system → b = cellBody cell → b / 2 ^ 196 % 16 = 5 →
    s.dup.syncs = [(l, (q, t1))] → s.timeLink = some l → q = b / 2 ^ 188 % 256 → t2 = b / 2 ^ 116 % 2 ^ 48 → t3 = b / 2 ^ 68 % 2 ^ 48 → a = (t2 : Int) - (t1 : Int) → z = (s.now : Int) - (t3 : Int) →
    t1 < 2 ^ 47 → t2 < 2 ^ 47 → t3 < 2 ^ 47 → s.now < 2 ^ 47 → (a - z) % 2 = 0 → 0 ≤ a - z → a - z ≤ 40 → 0 ≤ a + z →
    ∃ t, exec (.timeResp l cell) s = .next t ∧ (t.rw .JD_TIME_OFS 0 : Int) * 2 = a - z ∧ (t.rw .JD_TIME_DLY 0 : Int) * 2 = a + z ∧ t.dup.syncs = [] ∧
      t.dup.inLock = min 16 (s.dup.inLock + 1) ∧ (15 ≤ s.dup.inLock → t.rf F.JD_TIME_STAT_LOCKED 0 = 1) ∧ t.faultLine = s.faultLine ∧
      (∀ k, k ≠ l → t.sl k = s.sl k) ∧ t = { s with regs := t.regs, dup := t.dup, links := t.links, freeCtr := t.freeCtr } ∧
      RegsKept s t [⟨.JD_TIME_OFS, 0, 0, 0⟩, ⟨.JD_TIME_DLY, 0, 0, 0⟩, ⟨.JD_TIME_STAT, 0, 0, 0⟩] :)

/-- Cuts start racking epochs, the copy sends the regions and a marker, the standby stores, checks and acknowledges, and the
active member commits (R958, R959, R960, R961, R963, R964, R965, R974, R977, R982, R983). -/
def Obligations.EpochsAreCutCopiedAndCommitted : Prop :=
  (∀ (s : State) (p : Nat), s.rf F.DUP_STAT_STATE 0 = 2 → s.rf F.DEV_ROLE_CTL_ACTIVE 0 = 1 → s.rf F.SL_STAT_STATE 0 2 = 2 → s.dup.phase = 0 → p = s.cutPoint s.dup.per →
    s.dup.lastCut < p → p < 2 ^ 71 → s.rf F.DUP_CTL_CUT_NOTICE 0 = 0 →
    ∃ t, exec .rackingCut s = .next t ∧ t.dup = { s.dup with epoch := (s.dup.epoch + 1) % 2 ^ 32, lastCut := p, tCut := p, per := s.rf F.DUP_CTL_EPOCH 0, snap := s.rf F.DUP_CTL_SNAP_US 0, regions := s.latchRegions ((s.dup.epoch + 1) % 2 ^ 32), phase := 1, todo := [], rtag := none } ∧
      (∀ d i, d ∈ s.fabDies → i < 16 → (t.evt d i 8).count = ((s.evt d i 8).count + 1) % 65536) ∧ t.inFlight = s.inFlight ∧ t = { s with dup := t.dup, evts := t.evts } :) ∧
  (∀ (s : State) (p : Nat), 2 ≤ s.rf F.DUP_STAT_STATE 0 → s.rf F.DEV_ROLE_CTL_ACTIVE 0 = 1 → s.rf F.SL_STAT_STATE 0 2 = 2 → s.dup.phase ≠ 0 → p = s.cutPoint s.dup.per →
    s.dup.lastCut < p → p < 2 ^ 71 → s.rf F.DUP_OVERRUN_CNT_COUNT 0 < 2 ^ 32 - 1 →
    ∃ t, exec .rackingCut s = .next t ∧ t.rf F.DUP_OVERRUN_CNT_COUNT 0 = s.rf F.DUP_OVERRUN_CNT_COUNT 0 + 1 ∧
      t.faultLine = s.faultLine ++ [faultEv .rackingEpochOverrun 0 0 0] ∧ t.dup = { s.dup with lastCut := p } ∧
      t = { s with regs := t.regs, faultLine := t.faultLine, dup := t.dup } ∧ RegsKept s t [⟨.DUP_OVERRUN_CNT, 0, 0, 0⟩] :) ∧
  (∀ (s : State), s.dup.lastCut = s.cutPoint s.dup.per → s.dup.lastCut < 2 ^ 72 → ∃ t, exec .rackingCut s = .next t ∧ t = s :) ∧
  (∀ (s : State), s.dup.phase = 1 → s.dup.tCut ≤ s.now → s.now < 2 ^ 48 → s.dup.snap * 1000 ≤ s.now - s.dup.tCut → s.dup.regions = [] → s.rf F.SL_STAT_STATE 0 2 = 2 →
    ∃ t m, exec .rackingCopyStart s = .next t ∧ m = 8 * 2 ^ 196 + s.dup.epoch * 2 ^ 164 + s.dup.tCut * 2 ^ 116 ∧ (t.sl 2).system = (s.sl 2).system ++ [m] ∧
      t.dup.phase = 0 ∧ t.rf F.DUP_STAT_COPYING 0 = 0 ∧ (∀ k, k ≠ 2 → t.sl k = s.sl k) ∧
      t = { s with regs := t.regs, dup := t.dup, links := t.links } ∧ RegsKept s t [⟨.DUP_STAT, 0, 0, 0⟩] :) ∧
  (∀ (s : State), s.dup.phase = 0 → ∃ t, exec .rackingCopyStart s = .next t ∧ t = s :) ∧
  (∀ (s : State) (cell b r a : Nat) (ws : List TWord), s.cellDue 2 cell = true → cellKind cell = .system → b = cellBody cell → b / 2 ^ 196 % 16 = 7 →
    r = b / 2 ^ 191 % 32 → ws = bodyWords (b / 2 ^ 160 % 4) b → ws ≠ [] → (s.rf F.DUP_STAT_STATE 0 = 3 ∨ s.rf F.DUP_STAT_STATE 0 = 4) → s.dup.regions = [] →
    a = ((if s.rf F.DUP_STAT_COMMIT_HALF 0 = 1 then s.rw .DUP_REG_DST_A 0 r else s.rw .DUP_REG_DST_B 0 r) + b / 2 ^ 167 % 2 ^ 24) % 2 ^ 48 →
    ∃ t, exec (.rackData 2 cell) s = .next t ∧ Injected s t ⟨.write, 0, 9, 0, a, ws.length, 48, 0, ws, .posted, 0⟩ ∧
      t.dup.rxWords = s.dup.rxWords + ws.length ∧ t.rf F.DUP_STAT_COPYING 0 = 1 ∧ t.rf F.DUP_STAT_COMMIT_HALF 0 = s.rf F.DUP_STAT_COMMIT_HALF 0 ∧
      (t.sl 2).rxNext = ((s.sl 2).rxNext + 1) % 4096 ∧ t = { s with regs := t.regs, dup := t.dup, links := t.links, inFlight := t.inFlight, net := t.net } ∧
      RegsKept s t [⟨.DUP_STAT, 0, 0, 0⟩] :) ∧
  (∀ (s : State) (cell b : Nat), s.cellDue 2 cell = true → cellKind cell = .system → b = cellBody cell → b / 2 ^ 196 % 16 = 8 →
    (s.rf F.DUP_STAT_STATE 0 = 3 ∨ s.rf F.DUP_STAT_STATE 0 = 4) → s.dup.rxLast = [] →
    ∃ t, exec (.rackCommit 2 cell) s = .next t ∧ t.dup = { s.dup with mark := some (b / 2 ^ 164 % 2 ^ 32, b / 2 ^ 116 % 2 ^ 48, b / 2 ^ 84 % 2 ^ 32, b / 2 ^ 60 % 2 ^ 24), backs := [], backBad := false } ∧
      (t.sl 2).rxNext = ((s.sl 2).rxNext + 1) % 4096 ∧ t = { s with dup := t.dup, links := t.links } :) ∧
  (∀ (s : State) (e c n : Nat), s.dup.mark = some (e, c, s.dup.rxCrc ^^^ 0xFFFFFFFF, n) → s.dup.rxWords = n → n < 2 ^ 24 → n ≠ 0 → s.dup.backs = [] → s.dup.backBad = false →
    e < 2 ^ 32 → c < 2 ^ 48 → s.rf F.SL_STAT_STATE 0 2 = 2 → s.rf F.DUP_EPOCH_CNT_COUNT 0 < 2 ^ 32 - 1 →
    ∃ t, exec .rackingCommitComplete s = .next t ∧ t.rf F.DUP_STAT_COMMIT_HALF 0 = 1 - s.rf F.DUP_STAT_COMMIT_HALF 0 ∧ t.rw .DUP_EPOCH_NUM 0 = e ∧ t.rw .DUP_CUT_TIME 0 = c ∧
      t.rf F.DUP_STAT_STATE 0 = 3 ∧ t.rf F.DUP_EPOCH_CNT_COUNT 0 = s.rf F.DUP_EPOCH_CNT_COUNT 0 + 1 ∧ t.dup.committed = true ∧ t.dup.fails = 0 ∧ t.dup.mark = none ∧
      (t.sl 2).system = (s.sl 2).system ++ [9 * 2 ^ 196 + e * 2 ^ 164 + 2 ^ 163] ∧ t = { s with regs := t.regs, dup := t.dup, links := t.links } ∧
      RegsKept s t [⟨.DUP_STAT, 0, 0, 0⟩, ⟨.DUP_EPOCH_NUM, 0, 0, 0⟩, ⟨.DUP_CUT_TIME, 0, 0, 0⟩, ⟨.DUP_EPOCH_CNT, 0, 0, 0⟩] :) ∧
  (∀ (s : State) (e c x n : Nat), s.dup.mark = some (e, c, x, n) → (n ≠ s.dup.rxWords % 2 ^ 24 ∨ s.dup.backBad = true) → s.rf F.SL_STAT_STATE 0 2 = 2 →
    s.rf F.DUP_CRC_FAIL_CNT_COUNT 0 < 2 ^ 32 - 1 →
    ∃ t, exec .rackingCommitComplete s = .next t ∧ t.dup.fails = s.dup.fails + 1 ∧ t.dup.mark = none ∧ t.rf F.DUP_CRC_FAIL_CNT_COUNT 0 = s.rf F.DUP_CRC_FAIL_CNT_COUNT 0 + 1 ∧
      t.faultLine = s.faultLine ++ [{ faultEv .rackingCommitFailed 0 0 0 with promote := decide (2 ≤ s.dup.fails) }] ∧
      t.rf F.DUP_STAT_COMMIT_HALF 0 = s.rf F.DUP_STAT_COMMIT_HALF 0 ∧ (t.sl 2).system = (s.sl 2).system ++ [9 * 2 ^ 196 + e * 2 ^ 164] ∧
      Injected s t ⟨.write, 0, 9, 0, s.rw .DUP_NOTICE_ADDR 0, 1, 48, 0, [dataWord (2 ^ 47 + e % 65536 * 2 ^ 30)], .posted, 0⟩ ∧
      t = { s with regs := t.regs, dup := t.dup, links := t.links, faultLine := t.faultLine, inFlight := t.inFlight, net := t.net } ∧
      RegsKept s t [⟨.DUP_STAT, 0, 0, 0⟩, ⟨.DUP_CRC_FAIL_CNT, 0, 0, 0⟩] :) ∧
  (∀ (s : State) (cell b : Nat), s.cellDue 2 cell = true → cellKind cell = .system → b = cellBody cell → b / 2 ^ 196 % 16 = 9 → b / 2 ^ 163 % 2 = 1 →
    s.rf F.DEV_ROLE_CTL_ACTIVE 0 = 1 → s.rf F.DUP_CTL_YIELD 0 = 0 → s.rf F.DUP_EPOCH_CNT_COUNT 0 < 2 ^ 32 - 1 →
    ∃ t, exec (.rackAck 2 cell) s = .next t ∧ t.rf F.DUP_EPOCH_CNT_COUNT 0 = s.rf F.DUP_EPOCH_CNT_COUNT 0 + 1 ∧ t.dup = { s.dup with committed := true } ∧
      (t.sl 2).rxNext = ((s.sl 2).rxNext + 1) % 4096 ∧ t = { s with regs := t.regs, dup := t.dup, links := t.links } ∧ RegsKept s t [⟨.DUP_EPOCH_CNT, 0, 0, 0⟩] :) ∧
  (∀ (s : State) (cell b : Nat), s.cellDue 2 cell = true → cellKind cell = .system → b = cellBody cell → b / 2 ^ 196 % 16 = 9 → b / 2 ^ 163 % 2 = 1 →
    s.rf F.DEV_ROLE_CTL_ACTIVE 0 = 1 → s.rf F.DUP_CTL_YIELD 0 = 1 → s.rf F.DUP_YIELD_CNT_COUNT 0 < 2 ^ 32 - 1 →
    ∃ t, exec (.rackAck 2 cell) s = .next t ∧ t.rf F.DEV_ROLE_CTL_ACTIVE 0 = 0 ∧ t.rf F.DUP_CTL_YIELD 0 = 0 ∧ t.rf F.DUP_STAT_STATE 0 = 4 ∧
      t.rf F.DUP_YIELD_CNT_COUNT 0 = s.rf F.DUP_YIELD_CNT_COUNT 0 + 1 ∧ t.dup.hoOut = false ∧ t.dup.committed = false ∧
      (t.sl 2).system = (6 * 2 ^ 196 + s.dup.epoch * 2 ^ 164 + 2 ^ 115 + 2 ^ 114) :: (s.sl 2).system :)

/-- Heartbeats are sent and watched, and a standby takes over on the third miss, on HANDOVER_IN low or on a yield (R955, R957,
R966, R967, R968, R975, R976, R977, R979). -/
def Obligations.TheStandbyWatchesAndTakesOver : Prop :=
  (∀ (s : State), s.rf F.DEV_ROLE_ROLE 0 = 3 → s.rf F.DEV_ROLE_CTL_ACTIVE 0 = 1 → s.rf F.SL_STAT_STATE 0 2 = 2 → s.dup.hbSent ≤ s.now → s.now < 2 ^ 48 → 100000 ≤ s.now - s.dup.hbSent →
    ∃ t, exec .heartbeatSend s = .next t ∧ (t.sl 2).system = (6 * 2 ^ 196 + s.dup.epoch * 2 ^ 164 + 2 ^ 115) :: (s.sl 2).system ∧ t.dup = { s.dup with hbSent := s.now } ∧
      (∀ k, k ≠ 2 → t.sl k = s.sl k) ∧ t = { s with dup := t.dup, links := t.links } :) ∧
  (∀ (s : State), s.dup.hbSent ≤ s.now → s.now - s.dup.hbSent < 100000 → ∃ t, exec .heartbeatSend s = .next t ∧ t = s :) ∧
  (∀ (s : State) (cell b : Nat), s.cellDue 2 cell = true → cellKind cell = .system → b = cellBody cell → b / 2 ^ 196 % 16 = 6 → b / 2 ^ 114 % 2 = 0 → s.rf F.DEV_ROLE_CTL_ACTIVE 0 = 0 →
    ∃ t, exec (.heartbeat 2 cell) s = .next t ∧ t.rf F.DUP_STAT_HB_MISSED 0 = 0 ∧ t.rf F.DUP_STAT_PEER_ALIVE 0 = 1 ∧ t.rf F.DUP_STAT_STATE 0 = s.rf F.DUP_STAT_STATE 0 ∧
      t.dup = { s.dup with epoch := b / 2 ^ 164 % 2 ^ 32, hbSeen := s.now } ∧ t = { s with regs := t.regs, dup := t.dup, links := t.links } ∧ RegsKept s t [⟨.DUP_STAT, 0, 0, 0⟩] :) ∧
  (∀ (s : State) (cell b : Nat), s.cellDue 2 cell = true → cellKind cell = .system → b = cellBody cell → b / 2 ^ 196 % 16 = 6 → b / 2 ^ 114 % 2 = 1 → s.rf F.DEV_ROLE_CTL_ACTIVE 0 = 0 →
    (s.rf F.DUP_STAT_STATE 0 = 3 ∨ s.rf F.DUP_STAT_STATE 0 = 4) →
    ∃ t, exec (.heartbeat 2 cell) s = .next t ∧ t.rf F.DEV_ROLE_CTL_ACTIVE 0 = 1 ∧ t.rf F.DUP_STAT_STATE 0 = 2 ∧ faultEv .dupTakeover 0 0 0 ∈ t.faultLine ∧ t.dup.hoOut = true :) ∧
  (∀ (s : State), (s.rf F.DUP_STAT_STATE 0 = 3 ∨ s.rf F.DUP_STAT_STATE 0 = 4) → s.dup.hbSeen ≤ s.now → s.now < 2 ^ 48 → 100000 ≤ s.now - s.dup.hbSeen →
    s.rf F.DUP_STAT_HB_MISSED 0 < 2 → s.rf F.DUP_HB_MISS_CNT_COUNT 0 < 2 ^ 32 - 1 →
    ∃ t, exec .heartbeatMiss s = .next t ∧ t.rf F.DUP_STAT_HB_MISSED 0 = s.rf F.DUP_STAT_HB_MISSED 0 + 1 ∧ t.rf F.DUP_HB_MISS_CNT_COUNT 0 = s.rf F.DUP_HB_MISS_CNT_COUNT 0 + 1 ∧
      t.dup = { s.dup with hbSeen := s.now, hoOut := false } ∧ t = { s with regs := t.regs, dup := t.dup } ∧ RegsKept s t [⟨.DUP_STAT, 0, 0, 0⟩, ⟨.DUP_HB_MISS_CNT, 0, 0, 0⟩] :) ∧
  (∀ (s : State), (s.rf F.DUP_STAT_STATE 0 = 3 ∨ s.rf F.DUP_STAT_STATE 0 = 4) → s.dup.hbSeen ≤ s.now → s.now < 2 ^ 48 → 100000 ≤ s.now - s.dup.hbSeen →
    2 ≤ s.rf F.DUP_STAT_HB_MISSED 0 → s.rf F.DUP_CTL_HB_TAKEOVER 0 = 1 → s.rf F.DUP_TAKEOVER_CNT_COUNT 0 < 2 ^ 32 - 1 →
    ∃ t, exec .heartbeatMiss s = .next t ∧ t.rf F.DEV_ROLE_CTL_ACTIVE 0 = 1 ∧ t.rf F.DUP_STAT_STATE 0 = 2 ∧ t.rf F.DUP_STAT_HB_MISSED 0 = 0 ∧
      t.rw .DUP_TAKEOVER_TIME 0 = s.now ∧ t.rf F.DUP_TAKEOVER_CNT_COUNT 0 = s.rf F.DUP_TAKEOVER_CNT_COUNT 0 + 1 ∧ t.dup.hoOut = true ∧ t.dup.committed = s.dup.committed ∧
      faultEv .dupTakeover 0 0 0 ∈ t.faultLine ∧ (s.dup.committed = false → t.rw .DUP_EPOCH_NUM 0 = 0 ∧ faultEv .dupNoCommit 0 0 0 ∈ t.faultLine) ∧
      (∀ d i, d ∈ s.fabDies → i < 16 → (t.evt d i 9).count = ((s.evt d i 9).count + 1) % 65536) :) ∧
  (∀ (s : State), (s.rf F.DUP_STAT_STATE 0 = 3 ∨ s.rf F.DUP_STAT_STATE 0 = 4) → s.rf F.DUP_CTL_PIN_EN 0 = 1 →
    ∃ t, exec .handoverInLow s = .next t ∧ t.rf F.DUP_STAT_HO_IN 0 = 0 ∧ t.rf F.DEV_ROLE_CTL_ACTIVE 0 = 1 ∧ t.rf F.DUP_STAT_STATE 0 = 2 ∧ faultEv .dupTakeover 0 0 0 ∈ t.faultLine :) ∧
  (∀ (s : State), s.rf F.DUP_CTL_PIN_EN 0 = 0 →
    ∃ t u, exec .handoverInLow s = .next t ∧ exec .handoverInRise s = .next u ∧ t.rf F.DUP_STAT_HO_IN 0 = 0 ∧ u.rf F.DUP_STAT_HO_IN 0 = 1 ∧
      OnlyRegs s t [⟨.DUP_STAT, 0, 0, 0⟩] ∧ OnlyRegs s u [⟨.DUP_STAT, 0, 0, 0⟩] :) ∧
  (∀ (s : State), s.rf F.DUP_CTL_PIN_EN 0 = 1 → s.rf F.DEV_ROLE_ROLE 0 = 3 → s.rf F.DEV_ROLE_CTL_ACTIVE 0 = 1 →
    ∃ t, exec .handoverInRise s = .next t ∧ t.rf F.DUP_STAT_HO_IN 0 = 1 ∧ t.rf F.DEV_ROLE_CTL_ACTIVE 0 = 0 ∧ t.rf F.DUP_STAT_STATE 0 = 4 ∧ t.dup.hoOut = false ∧
      faultEv .dupDualActive 0 0 0 ∈ t.faultLine :) ∧
  (∀ (s : State) (j : Nat), s.dup.loadAt = some j → s.rf F.DUP_STAT_STATE 0 = 1 → s.rf F.SL_STAT_STATE 0 2 ≠ 2 → s.imageLoaded = true → j ≤ s.now → s.now < 2 ^ 48 →
    s.rf F.DUP_CTL_JOIN_S 0 * 1000000000 ≤ s.now - j → s.rf F.DUP_CTL_PIN_EN 0 = 0 →
    ∃ t, exec .joinTimeout s = .next t ∧ t.rf F.DUP_STAT_STATE 0 = 5 ∧ t.rf F.DEV_ROLE_CTL_ACTIVE 0 = 1 ∧ t.dup.hoOut = true ∧
      t = { s with regs := t.regs, dup := t.dup } ∧ RegsKept s t [⟨.DUP_STAT, 0, 0, 0⟩, ⟨.DEV_ROLE_CTL, 0, 0, 0⟩] :) ∧
  (∀ (s : State) (w : TWord), w.tag.toNat < 2 →
    ∃ t, exec (.yieldWrite w false) s = .next t ∧ t.rf F.DUP_CTL_JOIN_S 0 = max 1 (w.data.toNat / 2 ^ 24 % 256) ∧ t.rf F.DUP_CTL_SNAP_US 0 = max 1 (w.data.toNat / 2 ^ 16 % 256) ∧
      t.rf F.DUP_CTL_EPOCH 0 = min 10 (max 1 (w.data.toNat % 16)) ∧ t.rf F.DUP_CTL_YIELD 0 = max (s.rf F.DUP_CTL_YIELD 0) (w.data.toNat / 2 ^ 47 % 2) ∧
      OnlyRegs s t [⟨.DUP_CTL, 0, 0, 0⟩] :)

/-- Caben takes packets from its transports, refuses bytes that are none, answers on the transport a packet came on, and keeps
replies (R780, R782, R783, R784, R788, R790, R791, R792, R796, R819, R822, R823). -/
def Obligations.CabenTakesPacketsAndReplies : Prop :=
  (∀ (s : State) (bs ps : List Nat) (op tag : Nat), s.spiRoom = true → isPacket 0 bs = true → op = bs.getD 2 0 → tag = bs.getD 3 0 → ps = (bs.drop 6).take (leNat ((bs.drop 4).take 2)) →
    (∀ p, p ∈ s.cab.pkts → p.tr ≠ 0) → bs.getD 1 0 = 1 → s.bootSm = false → (opInfo op).isSome = true → op ≠ 0x1C → op ≠ 0x19 → opCheck 0 op ps = (0, 0) →
    ∃ t, exec (.send bs) s = .next t ∧ t.cab = { s.cab with frameErr := false, miso := s.spiByte :: List.replicate bs.length 0, pkts := s.cab.pkts ++ [⟨0, tag, op, ps, none, false, false, false, s.now, 0, [], [], 0⟩] } ∧
      t = { s with cab := t.cab } :) ∧
  (∀ (s : State) (bs : List Nat), (s.spiRoom = false ∨ isPacket 0 bs = false) → s.rf F.CABEN_FRAME_ERR_CNT_COUNT 0 < 2 ^ 32 - 1 →
    ∃ t, exec (.send bs) s = .next t ∧ t.cab = { s.cab with frameErr := true, miso := s.spiByte :: List.replicate bs.length 0 } ∧
      t.rf F.CABEN_FRAME_ERR_CNT_COUNT 0 = s.rf F.CABEN_FRAME_ERR_CNT_COUNT 0 + 1 ∧ t.faultLine = s.faultLine ++ [faultEv .cabenFramingError 0 0 0] ∧
      t = { s with regs := t.regs, cab := t.cab, faultLine := t.faultLine } ∧ RegsKept s t [⟨.CABEN_FRAME_ERR_CNT, 0, 0, 0⟩] :) ∧
  (∀ (s : State) (bs : List Nat), s.spiRoom = true → isPacket 0 bs = true → (∀ p, p ∈ s.cab.pkts → p.tr ≠ 0 ∧ p.op ≠ 0x19) → bs.getD 1 0 ≠ 1 →
    ∃ t, exec (.send bs) s = .next t ∧ t.cab.replies = s.cab.replies ++ [cabPacket (bs.getD 2 0) (bs.getD 3 0) 2 0 []] ∧ t.cab.pkts = s.cab.pkts ∧ t = { s with cab := t.cab } :) ∧
  (∀ (s : State) (n : Nat) (r : List Nat) (rest : List (List Nat)), s.cab.replies = r :: rest → r ≠ [] → r.length < n →
    ∃ t, exec (.fetch n) s = .next t ∧ t.cab = { s.cab with frameErr := false, miso := s.spiByte :: 0 :: (r ++ List.replicate (n - 1 - r.length) 0), replies := rest } ∧ t = { s with cab := t.cab } :) ∧
  (∀ (s : State) (n : Nat), n ≤ (s.cab.replies.headD []).length →
    ∃ t, exec (.fetch n) s = .next t ∧ t.cab = { s.cab with frameErr := false, miso := s.spiByte :: (0 :: s.cab.replies.headD []).take n } ∧ t = { s with cab := t.cab } :) ∧
  (∀ (s : State) (n : Nat), ∃ t, exec (.spiStatus n) s = .next t ∧ t.cab = { s.cab with frameErr := false, miso := List.replicate (n + 1) s.spiByte } ∧ t = { s with cab := t.cab } :) ∧
  (∀ (s : State) (m p i : Nat), ∃ t, exec (.arpRequest m p i) s = .next t ∧
    t.cab = { s.cab with arpOut := s.cab.arpOut ++ (if s.udpServed = true ∧ i = s.rf F.CABEN_IP_ADDR 0 then [(m, p, s.rf F.MAC_STATION_ADDR 0 0, i)] else []) } ∧ t = { s with cab := t.cab } :) ∧
  (∀ (s : State) (d : Datagram), (s.udpServed = false ∨ d.plain = false ∨ d.dstIp ≠ s.rf F.CABEN_IP_ADDR 0 ∨ d.dstPort ≠ s.rf F.CABEN_CTL_UDP_PORT 0 ∨ 1472 < d.payload.length) →
    ∃ t, exec (.udpDatagram d) s = .next t ∧ t = s :) ∧
  (∀ (s : State) (d : Datagram) (ps : List Nat) (op tag : Nat), s.udpServed = true → d.plain = true → d.dstMac = s.rf F.MAC_STATION_ADDR 0 0 → d.dstIp = s.rf F.CABEN_IP_ADDR 0 →
    d.dstPort = s.rf F.CABEN_CTL_UDP_PORT 0 → d.payload.length ≤ 1472 → s.rf F.CABEN_STAT_UDP_EXHAUSTED 0 = 0 → s.rf F.CABEN_CTL_UDP_SECURE 0 = 0 → s.cfg.fuses.secureEn = false →
    isPacket 1 d.payload = true → op = d.payload.getD 2 0 → tag = d.payload.getD 3 0 → ps = (d.payload.drop 6).take (leNat ((d.payload.drop 4).take 2)) →
    (∀ p, p ∈ s.cab.pkts → p.tr ≠ 1) → d.payload.getD 1 0 = 1 → (opInfo op).isSome = true → op ≠ 0x1C → op ≠ 0x19 → opCheck 1 op ps = (0, 0) →
    ∃ t, exec (.udpDatagram d) s = .next t ∧ t = { s with cab := { s.cab with pkts := s.cab.pkts ++ [⟨1, tag, op, ps, some ⟨d.srcMac, d.vlan, d.srcIp, d.srcPort⟩, false, false, false, s.now, 0, [], [], 0⟩] } } :) ∧
  (∀ (s : State), s.cab.saOut = [] → s.rf F.CABEN_CTL_SAETTE_EN 0 = 0 → ∃ t, exec .cabenSaetteFrame s = .next t ∧ t = s :) ∧
  (∀ (s u : State) (ws : List TWord) (b ps : List Nat) (op tag : Nat), s.cab.saOut = [] → s.rf F.CABEN_CTL_SAETTE_EN 0 = 1 → s.bootSm = false → s.cab.ready = true →
    s.takeFrame (s.sc 0).ready [] = some (ws, u) → b = bytesOf ws (6 * ws.length) → isPacket 2 b = true → op = b.getD 2 0 → tag = b.getD 3 0 → ps = (b.drop 6).take (leNat ((b.drop 4).take 2)) →
    (∀ p, p ∈ s.cab.pkts → p.tr ≠ 2) → b.getD 1 0 = 1 → (opInfo op).isSome = true → op ≠ 0x1C → op ≠ 0x19 → opCheck 2 op ps = (0, 0) →
    ∃ t, exec .cabenSaetteFrame s = .next t ∧ t.cab = { s.cab with pkts := s.cab.pkts ++ [⟨2, tag, op, ps, none, false, false, false, s.now, 0, [], [], 0⟩] } ∧ t.mem = u.mem :) ∧
  (∀ (s : State) (tag : Nat) (p : CabPkt), s.cabNew 0 tag 0x00 = some p → p.mute = false → s.bootSm = false →
    ∃ t r, exec (.echo 0 tag) s = .next t ∧ r = cabPacket 0 tag 0 0 p.params ∧
      t.cab = { s.cab with pkts := s.cab.pkts.filter (fun q => !(q.tr == 0 && q.tag == tag)), replies := s.cab.replies ++ [r], kept := mset s.cab.kept 0 (((tag, r) :: mget s.cab.kept 0 []).take 16) [] } ∧
      t = { s with cab := t.cab } :) ∧
  (∀ (s : State) (tag : Nat) (p : CabPkt) (a : UdpPeer), s.cabNew 1 tag 0x00 = some p → p.mute = false → p.peer = some a → s.rf F.CABEN_CTL_UDP_EN 0 = 1 →
    s.rf F.CABEN_STAT_UDP_EXHAUSTED 0 = 0 → s.rf F.CABEN_CTL_UDP_SECURE 0 = 0 →
    ∃ t, exec (.echo 1 tag) s = .next t ∧ t.cab.udpOut = s.cab.udpOut ++ [(a, cabPacket 0 tag 0 0 p.params)] ∧
      t.cab.pkts = s.cab.pkts.filter (fun q => !(q.tr == 1 && q.tag == tag)) ∧ t = { s with cab := t.cab } :) ∧
  (∀ (s : State) (tag : Nat) (p : CabPkt), s.cabNew 2 tag 0x00 = some p → p.mute = false → s.rf F.SC_STAT_TX_STATE 0 0 ≠ 2 →
    ∃ t, exec (.echo 2 tag) s = .next t ∧ t.cab.saOut = s.cab.saOut ++ [cabPacket 0 tag 0 0 p.params] ∧
      t.cab.pkts = s.cab.pkts.filter (fun q => !(q.tr == 2 && q.tag == tag)) ∧ t = { s with cab := t.cab } :) ∧
  (∀ (s : State) (tr tag : Nat), s.cabPkt tr tag = none → ∃ t, exec (.echo tr tag) s = .next t ∧ t = s :) ∧
  (∀ (s : State) (tr tag : Nat) (p : CabPkt), s.cabNew tr tag 0x01 = some p →
    ∃ t, exec (.identify tr tag) s = .next t ∧ s.identify.length = 24 ∧ s.identify.getD 0 0 = s.part ∧ t = s.cabFinish p 0 0 s.identify :) ∧
  (∀ (s : State) (tr tag : Nat) (p : CabPkt), s.cabNew tr tag 0x02 = some p →
    ∃ t, exec (.repeatReply tr tag) s = .next t ∧
      (∀ k, (mget s.cab.kept tr []).find? (fun k => k.1 == p.params.getD 0 0) = some k → k.2.length + 2 ≤ cabLimit tr → t = s.cabFinish p 0 0 k.2) ∧
      ((mget s.cab.kept tr []).find? (fun k => k.1 == p.params.getD 0 0) = none → t = s.cabFinish p 0x0B 1 []) :) ∧
  (∀ (s : State) (tr tag u : Nat) (p q : CabPkt), s.cabNew tr tag 0x03 = some p → u = p.params.getD 0 0 → u ≠ tag → s.cabPkt tr u = some q → q.started = false →
    ∃ t, exec (.abort tr tag) s = .next t ∧ t = (s.cabFinish q 0x0A 0 q.data).cabFinish p 0 0 [] :) ∧
  (∀ (s : State) (tr tag : Nat) (p : CabPkt), s.cabNew tr tag 0x03 = some p → s.cabPkt tr (p.params.getD 0 0) = none →
    ∃ t, exec (.abort tr tag) s = .next t ∧ ((mget s.cab.kept tr []).any (fun k => k.1 == p.params.getD 0 0) = true → t = s.cabFinish p 0 1 []) ∧
      ((mget s.cab.kept tr []).any (fun k => k.1 == p.params.getD 0 0) = false → t = s.cabFinish p 4 0 []) :) ∧
  (∀ (s : State) (tr tag lim : Nat) (b : Bool) (p : CabPkt), s.cabPkt tr tag = some p → p.started = false → opInfo p.op = some (lim, b) → p.since ≤ s.now → s.now - p.since < 2 ^ 48 →
    lim ≤ s.now - p.since → p.mute = true → s.rf F.CABEN_TIMEOUT_CNT_COUNT 0 < 2 ^ 32 - 1 →
    ∃ t, exec (.cabenTimeout tr tag) s = .next t ∧ t.cab = { s.cab with pkts := s.cab.pkts.filter fun q => !(q.tr == p.tr && q.tag == p.tag) } ∧
      t.rf F.CABEN_TIMEOUT_CNT_COUNT 0 = s.rf F.CABEN_TIMEOUT_CNT_COUNT 0 + 1 ∧ t.faultLine = s.faultLine ++ [faultEv .cabenTimeout 0 0 0] ∧
      t = { s with regs := t.regs, cab := t.cab, faultLine := t.faultLine } ∧ RegsKept s t [⟨.CABEN_TIMEOUT_CNT, 0, 0, 0⟩] :) ∧
  (∀ (s : State) (tr tag : Nat) (p : CabPkt), s.cabPkt tr tag = some p → p.started = false →
    ∃ t, exec (.cabenTimeout tr tag) s = .next t ∧ (∀ lim b, opInfo p.op = some (lim, b) → p.since ≤ s.now → s.now < 2 ^ 48 → lim ≤ s.now - p.since →
        t = ((s.cabFinish p 9 0 []).incE F.CABEN_TIMEOUT_CNT_COUNT 0).raise .cabenTimeout 0 0) ∧
      (∀ lim b, opInfo p.op = some (lim, b) → p.since ≤ s.now → s.now - p.since < lim → t = s) :) ∧
  (∀ (s : State) (w : TWord), w.tag.toNat < 2 → s.rf F.CABEN_CTL_UDP_EN 0 = 0 → s.cfg.fuses.secureEn = false →
    ∃ t, exec (.cabenCtlWrite 0 w) s = .next t ∧ t.rf F.CABEN_CTL_UDP_PORT 0 = w.data.toNat / 2 ^ 32 % 65536 ∧ t.rf F.CABEN_CTL_UDP_EN 0 = w.data.toNat / 2 % 2 ∧
      t.rf F.CABEN_CTL_SAETTE_EN 0 = w.data.toNat / 4 % 2 ∧ t.rf F.CABEN_CTL_UDP_SECURE 0 = w.data.toNat / 16 % 2 ∧ t.rf F.CABEN_CTL_UDP_KEY_SLOT 0 = w.data.toNat / 256 % 32 ∧
      t.cab = { s.cab with txCtr := 0, rxCtr := 0 } ∧ t = { s with regs := t.regs, cab := t.cab } ∧ RegsKept s t [⟨.CABEN_CTL, 0, 0, 0⟩, ⟨.CABEN_STAT, 0, 0, 0⟩] :) ∧
  (∀ (s : State) (k : Nat) (w : TWord), w.tag.toNat < 2 → (k = 3 ∨ k = 4) → s.rf F.CABEN_CTL_UDP_EN 0 = 1 → ∃ t, exec (.cabenCtlWrite k w) s = .next t ∧ t = s :)

/-- Caben's memory, stream, load, unlock, start and reset packets are performed in order and answered as Table 14-8 says
(R797, R799, R800, R801, R802, R803, R805, R806, R807, R810, R816, R820). -/
def Obligations.CabenAccessesMemoryStreamsAndResets : Prop :=
  (∀ (s : State) (tr tag a c g : Nat) (p : CabPkt) (rest : List CabPkt), s.cab.pkts = p :: rest → p.tr = tr → p.tag = tag → p.op = 0x08 → p.started = false → p.next = 0 → p.reads = [] → p.cancelled = false →
    a = parNat p.params 0 6 → c = parNat p.params 6 2 → 1 ≤ c → a % 64 + c ≤ 64 → (∀ q, q ∈ rest → ¬(q.tr = tr ∧ q.tag = tag)) → s.freeTag 0 1 = some g →
    ∃ t x, exec (.cabenRead tr tag) s = .next t ∧ x = (⟨.read, 0, 1, g, a, c, 48, 0, [], .requests, 0⟩ : Txn) ∧ Injected s t x ∧ t.outst = s.outst ++ [⟨x, false, false⟩] ∧
      t.cab = { s.cab with pkts := { p with started := true, next := c, reads := [(g, 0, c)] } :: rest } ∧ t = { s with inFlight := t.inFlight, net := t.net, outst := t.outst, cab := t.cab } :) ∧
  (∀ (s : State) (tr tag a c g : Nat) (p : CabPkt) (rest : List CabPkt), s.cab.pkts = p :: rest → p.tr = tr → p.tag = tag → p.op = 0x09 → p.started = false → p.next = 0 → p.reads = [] → p.cancelled = false →
    a = parNat p.params 0 6 → c = parNat p.params 6 2 → 1 ≤ c → a % 64 + c ≤ 64 → (∀ q, q ∈ rest → ¬(q.tr = tr ∧ q.tag = tag)) → s.freeTag 0 1 = some g →
    ∃ t x y, exec (.cabenWrite tr tag) s = .next t ∧ x = (⟨.write, 0, 1, 0, a, c, 48, 0, (List.range c).map (fun k => parWord p.params 8 k), .posted, 0⟩ : Txn) ∧
      y = (⟨.read, 0, 1, g, a + (c - 1), 1, 48, 0, [], .requests, 0⟩ : Txn) ∧ t.inFlight = s.inFlight ++ [x, y] ∧ t.net = (s.net.enter (.req x)).enter (.req y) ∧ t.outst = s.outst ++ [⟨y, false, false⟩] ∧
      t.cab = { s.cab with pkts := { p with started := true, next := c, reads := [(g, c - 1, 1)] } :: rest } ∧ t = { s with inFlight := t.inFlight, net := t.net, outst := t.outst, cab := t.cab } :) ∧
  (∀ (s : State) (tr tag : Nat) (p q : CabPkt), s.cab.pkts = [q, p] → p.tr = tr → q.tr = tr → p.tag = tag → q.tag ≠ tag → p.started = false → serialOp q.op = true → serialOp p.op = true →
    ∃ t, t = s ∧ exec (.cabenRead tr tag) s = .next t ∧ exec (.cabenWrite tr tag) s = .next t ∧ exec (.cabenAtomicAdd tr tag) s = .next t ∧
      exec (.cabenAtomicSwap tr tag) s = .next t ∧ exec (.streamRead tr tag) s = .next t ∧ exec (.streamWrite tr tag) s = .next t :) ∧
  (∀ (s : State) (tr tag : Nat) (p : CabPkt), s.cabPkt tr tag = some p → p.op = 0x08 → p.started = true → p.reads = [] → p.cancelled = false → parNat p.params 6 2 ≤ p.next →
    ∃ t, exec (.cabenRead tr tag) s = .next t ∧ t = s.cabFinish p (if p.status = 0 then 0 else 8) p.status (wordData (gotPrefix p.got 0 p.got.length)) :) ∧
  (∀ (s : State) (k tr tag g : Nat) (p : CabPkt) (rest : List CabPkt), s.cab.pkts = p :: rest → p.tr = tr → p.tag = tag → p.op = 0x0A → p.started = false → p.params.getD 0 0 = k →
    (∀ q, q ∈ rest → ¬(q.tr = tr ∧ q.tag = tag)) → s.freeTag 0 1 = some g →
    ∃ t x u, x = (⟨if k = 0 then .add else .swap, 0, 1, g, parNat p.params 2 6, 1, 48, 0, [parWord p.params 8 0], .requests, 0⟩ : Txn) ∧
      t = { s with inFlight := s.inFlight ++ [x], net := s.net.enter (.req x), outst := s.outst ++ [⟨x, false, false⟩], cab := { s.cab with pkts := u :: rest } } ∧
      u = { p with started := true, next := 1, reads := [(g, 0, 1)] } ∧
      (k = 0 → exec (.cabenAtomicAdd tr tag) s = .next t) ∧ (k = 1 → exec (.cabenAtomicSwap tr tag) s = .next t) :) ∧
  (∀ (s : State) (tr tag g : Nat) (p : CabPkt) (rest : List CabPkt), s.cab.pkts = p :: rest → p.tr = tr → p.tag = tag → p.op = 0x10 → p.started = false → p.next = 0 → p.reads = [] →
    p.cancelled = false → 1 ≤ parNat p.params 2 2 → s.rf F.SC_CTL_RX_EN 0 (p.params.getD 0 0) = 1 → (∀ q, q ∈ rest → ¬(q.tr = tr ∧ q.tag = tag)) → s.freeTag 0 1 = some g →
    ∃ t x, exec (.streamRead tr tag) s = .next t ∧ x = (⟨.read, 0, 1, g, s.glob 0 (0x0F049000 + p.params.getD 0 0 * 0x40), 1, 48, 0, [], .requests, 0⟩ : Txn) ∧
      t = { s with inFlight := s.inFlight ++ [x], net := s.net.enter (.req x), outst := s.outst ++ [⟨x, false, false⟩], cab := { s.cab with pkts := { p with started := true, next := 1, reads := [(g, 0, 1)] } :: rest } } :) ∧
  (∀ (s : State) (tr tag : Nat) (p : CabPkt), s.cab.pkts = [p] → p.tr = tr → p.tag = tag → p.started = false →
    ∃ t u, exec (.streamRead tr tag) s = .next t ∧ exec (.streamWrite tr tag) s = .next u ∧
      (p.op = 0x10 → s.rf F.SC_CTL_RX_EN 0 (p.params.getD 0 0) = 0 → t = s.cabFinish p 7 1 []) ∧
      (p.op = 0x11 → s.rf F.SC_STAT_TX_STATE 0 (p.params.getD 0 0) ≠ 2 → u = s.cabFinish p 7 1 []) :) ∧
  (∀ (s : State) (tr tag c n : Nat) (p : CabPkt), s.cab.pkts = [p] → p.tr = tr → p.tag = tag → p.op = 0x11 → p.started = false → c = p.params.getD 0 0 → s.rf F.SC_STAT_TX_STATE 0 c = 2 →
    n = min (parNat p.params 2 2) (s.txSize c - (s.sc c).txLen) →
    ∃ t, exec (.streamWrite tr tag) s = .next t ∧
      t = (s.txWords c (0x0F048000 + c * 0x40) ((List.range n).map fun k => parWord p.params 4 k)).cabFinish p 0 0 [n % 256, n / 256 % 256] :) ∧
  (∀ (s : State) (tr tag b : Nat) (p : CabPkt) (rest : List CabPkt), s.cab.pkts = p :: rest → p.tr = tr → p.tag = tag → p.op = 0x18 → p.started = false → s.cfg.load = none → b = p.params.getD 0 0 → b < 3 →
    (∀ q, q ∈ rest → ¬(q.tr = tr ∧ q.tag = tag)) →
    ∃ t l, exec (.load tr tag) s = .next t ∧ t.cab = { s.cab with pkts := { p with started := true } :: rest } ∧ t.cfg.load = some l ∧ l.src = b ∧ l.begun = false ∧
      t.rf F.CFG_LOAD_STAT_BUSY 0 = 1 ∧ t.rf F.CFG_LOAD_CTL_SOURCE 0 = b ∧ RegsKept s t [⟨.CFG_LOAD_CTL, 0, 0, 0⟩, ⟨.CFG_LOAD_STAT, 0, 0, 0⟩] :) ∧
  (∀ (s : State) (tr tag : Nat) (p : CabPkt), s.cabNew tr tag 0x19 = some p → (s.rf F.DEV_ROLE_BOOT 0 < 4 ∨ 6 < s.rf F.DEV_ROLE_BOOT 0 ∨ s.imageLoaded = true) →
    ∃ t, exec (.streamImage tr tag) s = .next t ∧ t = s.cabFinish p 7 1 [] :) ∧
  (∀ (s : State) (tr tag : Nat) (p : CabPkt) (l : Load), s.cabNew tr tag 0x19 = some p → 4 ≤ s.rf F.DEV_ROLE_BOOT 0 → s.rf F.DEV_ROLE_BOOT 0 ≤ 6 → s.imageLoaded = false →
    s.cfg.load = some l → l.src = 3 → l.hdr.count = 0 → parNat p.params 0 4 = l.bytes.length → 0 < l.bytes.length → l.bytes.length + (p.params.drop 4).length < 512 →
    ∃ t, exec (.streamImage tr tag) s = .next t ∧ t = (s.setCfg { s.cfg with load := some { l with bytes := l.bytes ++ p.params.drop 4 } }).cabFinish p 0 0 [] :) ∧
  (∀ (s : State) (tr tag : Nat) (p : CabPkt), s.cabNew tr tag 0x1B = some p →
    ∃ t, exec (.goldenUnlock tr tag) s = .next t ∧
      (if parNat p.params 4 2 ≠ s.devNum % 512 then t = s.cabFinish p 4 4 []
        else if s.cfg.fuses.secureEn = true ∧ tr ≠ 0 then t = s.cabFinish p 7 3 []
        else t = (s.wf F.CFG_NV_STAT_GOLDEN_OPEN 1 0).cabFinish p 0 0 []) :) ∧
  (∀ (s : State) (tr tag k : Nat) (p : CabPkt), s.cabNew tr tag 0x1C = some p → p.params.getD 0 0 = k → k < 2 → p.mute = false → tr = 0 →
    ∃ t, exec (.fwStart tr tag) s = .next t ∧
      ((s.cfg.dirOk = false ∨ (s.slot (5 + k)).2 = 0 ∨ leNat (s.flashBytes (s.slot (5 + k)).1 4) = 0xFFFFFFFF) → t = s.cabFinish p 0x0B 1 []) ∧
      (s.cfg.dirOk = true → (s.slot (5 + k)).2 ≠ 0 → leNat (s.flashBytes (s.slot (5 + k)).1 4) ≠ 0xFFFFFFFF →
        if s.fwAccepted (s.fwBytes (5 + k)) = true then t.rf F.CABEN_STAT_BOOT_SM 0 = 0 ∧ t.rf F.RST_STAT_FW_SLOT 0 = k + 1 ∧ t.cab.ready = true ∧
            t.rst.fwVersion = leNat (((s.fwBytes (5 + k)).drop 8).take 4) ∧ t.cab.replies = s.cab.replies ++ [cabPacket p.op p.tag 0 0 []]
        else t = s.cabFinish p 0x0B 2 []) :) ∧
  (∀ (s : State) (tr tag d i : Nat) (p : CabPkt), s.cabPkt tr tag = some p → p.op = 0x28 → p.params.getD 0 0 = 0 → d = p.params.getD 1 0 → i = p.params.getD 2 0 →
    ∃ t, exec (.resetIsland tr tag) s = .next t ∧
      (p.started = true → (s.island d i).underReset = true → t = s) ∧ (p.started = true → (s.island d i).underReset = false → t = s.cabFinish p 0 0 []) ∧
      (p.started = false → d ∉ s.fabDies → t = s.cabFinish p 4 1 []) ∧
      (p.started = false → d ∈ s.fabDies → 16 ≤ i → t = s.cabFinish p 4 2 []) ∧
      (p.started = false → d ∈ s.fabDies → i < 16 → (s.island d i).held = false → t = (s.setPkt { p with started := true }).beginReset d i 0) :) ∧
  (∀ (s : State) (tr tag : Nat) (p : CabPkt), s.cabNew tr tag 0x28 = some p → p.params.getD 0 0 = 1 →
    ∃ t u, exec (.resetMaltster tr tag) s = .next t ∧ u = s.cabFinish p 0 0 [] ∧
      t = { u with rst := { u.rst with hold := some (p.tr, cabPacket p.op p.tag 0 0 [], u.now), fwReq := true, skip := false, expiries := [] } } :) ∧
  (∀ (s : State) (tr tag : Nat) (p : CabPkt), s.cabNew tr tag 0x28 = some p → p.params.getD 0 0 = 2 → s.rst.inReset = false → s.rst.por = false → s.rst.devReq = none →
    ∃ t u, exec (.resetDevice tr tag) s = .next t ∧ u = s.cabFinish p 0 0 [] ∧
      t = { u with rst := { u.rst with hold := some (p.tr, cabPacket p.op p.tag 0 0 [], u.now), devReq := some 3 } } :) ∧
  (∀ (s : State) (tr tag n : Nat) (p : CabPkt), s.cabNew tr tag 0x29 = some p → n = min (p.params.getD 0 0) s.fm.log.length →
    ∃ t d, exec (.faultRead tr tag) s = .next t ∧ d = (s.fm.log.take n).flatMap (fun r => wordData [dataWord r.w0, dataWord r.w1, dataWord r.w2, ⟨BitVec.ofNat 48 r.w3, tagEnd⟩]) ∧
      (p.params.getD 1 0 % 2 = 0 → t = s.cabFinish p 0 (min 255 (s.fm.log.length - n)) d) ∧
      (p.params.getD 1 0 % 2 = 1 → t = (s.setFm { s.fm with log := s.fm.log.drop n }).cabFinish p 0 (min 255 (s.fm.log.length - n)) d) :)

/-- Flash programs and erases run behind their journal records within the endurance and golden rules, and the packets that ask
for them are checked (R364, R365, R368, R369, R370, R371, R393, R399, R404, R809, R812, R815). -/
def Obligations.FlashAndFusesChangeAsAllowed : Prop :=
  (∀ (s : State) (j : NvJob) (a i J : Nat) (pg b : List Nat) (rest : List FlashOp), s.cfg.jobs = [j] → j.ops = .program a pg :: rest → s.nvMayBegin j = true → s.opRefused j a = none →
    s.cfg.jput % 4096 ≠ 0 → s.cfg.jput + 16 ≤ (s.slot 3).2 → i = s.slotOf a → i < 5 → J = (s.slot 3).1 + s.cfg.jput → b = [1, i, 0, 0] ++ leBytes 4 a ++ leBytes 4 (crc32c pg) →
    ∃ t, exec .flashPageProgram s = .next t ∧ t.cfg.active = some (.program a pg) ∧ t.cfg.jobs = [{ j with begun := true }] ∧ t.rf F.CFG_NV_STAT_NV_BUSY 0 = 1 ∧
      (∀ k, k < 16 → t.flashByte (J + k) = s.flashByte (J + k) &&& ((b ++ leBytes 4 (crc32c b)).getD k 0 % 256)) ∧ (∀ k, (k < J ∨ J + 16 ≤ k) → t.flashByte k = s.flashByte k) ∧
      t.cfg.jput = s.cfg.jput + 16 ∧ t = { s with regs := t.regs, cfg := t.cfg } ∧ RegsKept s t [⟨.CFG_NV_STAT, 0, 0, 0⟩] :) ∧
  (∀ (s : State) (j : NvJob) (a d : Nat) (pg : List Nat) (rest : List FlashOp), s.cfg.jobs = [j] → (j.ops = .program a pg :: rest ∨ j.ops = .erase a :: rest) → s.nvMayBegin j = true → s.opRefused j a = some d →
    j.owner = none → s.cfg.load = none →
    ∃ t, (j.ops = .program a pg :: rest → exec .flashPageProgram s = .next t) ∧ (j.ops = .erase a :: rest → exec .flashSectorErase s = .next t) ∧ t.cfg = { s.cfg with jobs := [] } ∧
      t.rf F.CFG_NV_STAT_NV_BUSY 0 = 0 ∧ t.faultLine = s.faultLine ++ [faultEv .nvWriteRefused 0 0 0] ∧ (t.rf F.REPAIR_STAT_DONE 0 = 1 → t.rf F.REPAIR_STAT_SOFT_USED 0 = t.softValid.length) ∧
      OnlyRegsEv { s with cfg := t.cfg } t [⟨.CFG_NV_STAT, 0, 0, 0⟩, ⟨.REPAIR_STAT, 0, 0, 0⟩] :) ∧
  (∀ (s : State) (j : NvJob) (a J : Nat) (pg : List Nat), s.cfg.active = some (.program a pg) → s.cfg.jobs = [j] → j.ops.length ≤ 1 → j.owner = none → s.cfg.load = none →
    s.cfg.jput % 4096 ≠ 0 → s.cfg.jput + 16 ≤ (s.slot 3).2 → s.slotOf a < 5 → J = (s.slot 3).1 + s.cfg.jput → (a + pg.length ≤ J ∨ J + 16 ≤ a) →
    ∃ t, exec .flashProgramComplete s = .next t ∧ t.cfg.active = none ∧ t.cfg.jobs = [] ∧ t.rf F.CFG_NV_STAT_NV_BUSY 0 = 0 ∧ t.rf F.CFG_NV_STAT_SHUTDOWN_DEFER 0 = 0 ∧
      (∀ k, k < pg.length → t.flashByte (a + k) = s.flashByte (a + k) &&& (pg.getD k 0 % 256)) ∧ t.flashByte J = s.flashByte J &&& 2 ∧
      (∀ k, (k < a ∨ a + pg.length ≤ k) → (k < J ∨ J + 16 ≤ k) → t.flashByte k = s.flashByte k) ∧ (t.rf F.REPAIR_STAT_DONE 0 = 1 → t.rf F.REPAIR_STAT_SOFT_USED 0 = t.softValid.length) ∧
      t = { s with regs := t.regs, cfg := t.cfg } ∧ RegsKept s t [⟨.CFG_NV_STAT, 0, 0, 0⟩, ⟨.REPAIR_STAT, 0, 0, 0⟩] :) ∧
  (∀ (s : State) (j : NvJob) (a i J : Nat) (rest : List FlashOp), s.cfg.jobs = [j] → j.ops = .erase a :: rest → s.nvMayBegin j = true → s.opRefused j a = none → s.eraseOver a = false →
    s.cfg.jput % 4096 ≠ 0 → s.cfg.jput + 16 ≤ (s.slot 3).2 → i = s.slotOf a → i < 5 → J = (s.slot 3).1 + s.cfg.jput →
    ∃ t, exec .flashSectorErase s = .next t ∧ t.cfg.active = some (.erase a) ∧ t.cfg.jobs = [{ j with begun := true }] ∧ t.rf F.CFG_NV_STAT_NV_BUSY 0 = 1 ∧
      t.flashByte J = s.flashByte J &&& 3 ∧ (∀ k, (k < J ∨ J + 16 ≤ k) → t.flashByte k = s.flashByte k) ∧
      t.eraseCnt i = s.eraseCnt i + (if a = (s.slot i).1 then 1 else 0) ∧ (∀ k, k ≠ i → t.eraseCnt k = s.eraseCnt k) ∧
      t = { s with regs := t.regs, cfg := t.cfg } ∧ RegsKept s t [⟨.CFG_NV_STAT, 0, 0, 0⟩, ⟨.CFG_ERASE_CNT, 0, i, 0⟩] :) ∧
  (∀ (s : State) (j : NvJob) (a J : Nat), s.cfg.active = some (.erase a) → s.cfg.jobs = [j] → j.ops.length ≤ 1 → j.owner = none → s.cfg.load = none →
    s.cfg.jput % 4096 ≠ 0 → s.cfg.jput + 16 ≤ (s.slot 3).2 → s.slotOf a < 5 → J = (s.slot 3).1 + s.cfg.jput → (J + 15 < a / 4096 * 4096 ∨ a / 4096 * 4096 + 4096 ≤ J) → s.eraseCnt (s.slotOf a) ≠ s.endurance →
    ∃ t, exec .flashEraseComplete s = .next t ∧ t.cfg.active = none ∧ t.cfg.jobs = [] ∧ t.rf F.CFG_NV_STAT_NV_BUSY 0 = 0 ∧
      (∀ k, k / 4096 = a / 4096 → t.flashByte k = 0xFF) ∧ t.flashByte J = s.flashByte J &&& 2 ∧
      (∀ k, k / 4096 ≠ a / 4096 → (k < J ∨ J + 16 ≤ k) → t.flashByte k = s.flashByte k) ∧ (t.rf F.REPAIR_STAT_DONE 0 = 1 → t.rf F.REPAIR_STAT_SOFT_USED 0 = t.softValid.length) ∧
      t = { s with regs := t.regs, cfg := t.cfg } ∧ RegsKept s t [⟨.CFG_NV_STAT, 0, 0, 0⟩, ⟨.REPAIR_STAT, 0, 0, 0⟩] :) ∧
  (∀ (s : State) (tr tag k : Nat) (p : CabPkt), s.cabNew tr tag 0x1A = some p → s.cfg.jobs = [] → s.cfg.active = none → s.cfg.load = none → k = p.params.getD 0 0 → k < 6 → p.mute = false → tr = 0 →
    ∃ t, exec (.store tr tag) s = .next t ∧
      (needsGolden (storeSlot k) = true → s.goldenOpen = false → t = (s.raise .nvWriteRefused 0 0).cabFinish p 7 9 []) ∧
      (∀ b, (s.storeCheck k (parNat p.params 2 6) (parNat p.params 8 4)).1 = (0, 0, b) →
        t.cfg.jobs = [⟨if k = 5 then storeOps 4096 4096 b ++ storeOps 0 4096 b else storeOps (s.slot (storeSlot k)).1 (s.slot (storeSlot k)).2 b, false, some (tr, tag), false⟩] ∧ t.rf F.CFG_NV_STAT_NV_BUSY 0 = 1 ∧ t.cfg.active = none ∧ t.cab.replies = s.cab.replies) :) ∧
  (∀ (s : State) (tr tag : Nat) (p : CabPkt), s.cabNew tr tag 0x20 = some p →
    ∃ t, exec (.nvRead tr tag) s = .next t ∧ (s.nvBytes (p.params.getD 0 0) = none → t = s.cabFinish p 0x0B 1 []) ∧
      (∀ b, s.nvBytes (p.params.getD 0 0) = some b → t = s.cabFinish p 0 0 ((b.drop (parNat p.params 2 2)).take (cabLimit tr - 2))) :) ∧
  (∀ (s : State) (tr tag : Nat) (p : CabPkt), s.cabNew tr tag 0x21 = some p → s.cfg.jobs = [] → s.cfg.active = none → p.params.getD 0 0 = 1 →
    ∃ t, exec (.nvWrite tr tag) s = .next t ∧ (31 < p.params.getD 2 0 → t = s.cabFinish p 4 2 []) ∧
      (p.params.getD 2 0 ≤ 31 → p.params.getD 3 0 ≤ 2 → 0 < parNat p.params 4 3 → parNat p.params 4 3 ≤ 1048575 → (∀ i, i < 5 → s.eraseCnt i ≤ parNat p.params 4 3) →
        s.retired 4 = false → s.retired 3 = false → s.cfg.load = none →
        ∀ ops q, s.nvOps 1 (p.params.drop 2) = some (ops, q) → t.cfg.jobs = [⟨ops, false, some (p.tr, p.tag), false⟩] ∧ t.cfg.nvPut = q ∧ t.rf F.CFG_NV_STAT_NV_BUSY 0 = 1) :) ∧
  (∀ (s : State) (tr tag : Nat) (p : CabPkt), s.cabNew tr tag 0x22 = some p → s.cfg.jobs = [] → s.cfg.active = none →
    ∃ t, exec (.repairAdd tr (.packet tag)) s = .next t ∧ (s.repairOk (parNat p.params 0 6) = false → t = s.cabFinish p 4 0 []) ∧
      (s.repairOk (parNat p.params 0 6) = true → parNat p.params 0 6 ∈ s.softEntries → t = s.cabFinish p 0 1 []) ∧
      (s.repairOk (parNat p.params 0 6) = true → parNat p.params 0 6 ∉ s.softEntries → s.softEntries.length < 256 → s.retired 4 = false → s.retired 3 = false → s.cfg.load = none →
        ∀ ops q, s.nvOps 2 (softRecord (s.softEntries ++ [parNat p.params 0 6])) = some (ops, q) → t.cfg.jobs = [⟨ops, false, some (p.tr, p.tag), false⟩] ∧ t.rf F.CFG_NV_STAT_NV_BUSY 0 = 1) :) ∧
  (∀ (s : State) (tr tag k : Nat) (g : Bool) (p : CabPkt), s.cabNew tr tag 0x23 = some p → k = p.params.getD 0 0 →
    ∃ t, exec (.fuseBlow tr tag g) s = .next t ∧ (tr ≠ 0 → t = s.cabFinish p 7 3 []) ∧ (tr = 0 → s.cfg.blown.blownBit k = true → t = s.cabFinish p 7 6 []) ∧
      (tr = 0 → s.cfg.blown.blownBit k = false → ((k = 1 ∧ ¬(s.cfg.blown.blownBit 2 = true ∧ s.cfg.blown.blownBit 3 = true)) ∨ (k = 5 ∧ s.cfg.blown.blownBit 4 = false)) → t = s.cabFinish p 7 7 []) ∧
      (tr = 0 → s.cfg.blown.blownBit k = false → (k = 1 → s.cfg.blown.blownBit 2 = true ∧ s.cfg.blown.blownBit 3 = true) → (k = 5 → s.cfg.blown.blownBit 4 = true) →
        ((∃ d, d ∈ s.senseDies ∧ (s.dieTemp d < 0 ∨ 85 < s.dieTemp d)) → t = s.cabFinish p 7 8 []) ∧
        ((∀ d, d ∈ s.senseDies → 0 ≤ s.dieTemp d ∧ s.dieTemp d ≤ 85) → g = true →
          t = (s.setCfg { s.cfg with blown := s.cfg.blown.blow k (if 2 ≤ k ∧ k ≤ 4 then beNat (p.params.drop 1) else 1) }).cabFinish p 0 0 [])) :) ∧
  (∀ (s : State) (tr e : Nat), 4 ≤ s.rst.phase → s.rst.phase ≤ 7 → s.bootSm = false → s.cfg.jobs = [] → s.cfg.active = none → s.cfg.load = none →
    s.repairValid e = true → s.repairSeen e = true → e ∉ s.softEntries → s.softEntries.length < 256 → s.retired 4 = false → s.retired 3 = false →
    ∃ t, exec (.repairAdd tr (.firmware e)) s = .next t ∧
      (∀ ops q, s.nvOps 2 (softRecord (s.softEntries ++ [e])) = some (ops, q) → t.cfg = { s.cfg with jobs := [⟨ops, false, none, false⟩], nvPut := q } ∧ t.rf F.CFG_NV_STAT_NV_BUSY 0 = 1) ∧
      t = { s with regs := t.regs, cfg := t.cfg } ∧ RegsKept s t [⟨.CFG_NV_STAT, 0, 0, 0⟩] :) ∧
  (∀ (s : State) (tr e : Nat), (s.rst.phase < 4 ∨ s.repairValid e = false ∨ s.repairSeen e = false ∨ e ∈ s.softEntries ∨ s.cfg.jobs ≠ []) → exec (.repairAdd tr (.firmware e)) s = .next s :)

/-- A step performs the command at the front of the queue on the state with the rest of the queue; with none, the fabric runs
one tick (log 8) (95_what_each_step_holds.md). -/
def Obligations.AStepPerformsTheCommandAtTheFront : Prop :=
  (∀ (c : Instr) (s : State) (rest : List Instr), s.pending = c :: rest → step s = exec c { s with pending := rest } :) ∧
  (∀ (s : State), s.pending = [] → ∃ t, step s = .next t ∧ t = s.fabricTick ∧ t.pending = [] :)

/-- Every command answers a next state in every state, and none touches the queue of waiting commands
(95_what_each_step_holds.md). -/
def Obligations.EveryCommandIsPerformedAndLeavesTheQueue : Prop :=
  ∀ (c : Instr) (s : State), ∃ t, exec c s = .next t ∧ t.pending = s.pending

/-- Right after reset memory is cleared and registers hold the reset values their tables give (R101, R166, R592, R658, R717,
R720, R773, R840, R894, R934, R986, R987). -/
def Obligations.ResetLeavesRegistersAtTheirValues : Prop :=
  (∀ (d pa : Nat), State.reset.cell d pa = ⟨noWord, checkOf noWord pa⟩ ∧ decodeCell (State.reset.cell d pa) pa = .good ⟨0, tagInvalid⟩) ∧
  (∀ (d i : Nat), 1 ≤ d → d < 5 → i < 16 → State.reset.rf F.ISL_CLK_CTL_VCAP d i = 16 ∧ State.reset.rf F.ISL_CLK_CTL_TARGET d i = 40 ∧ State.reset.rf F.ISL_CLK_CTL_FLOOR d i = 0) ∧
  (∀ (d c : Nat), 1 ≤ d → d < 5 → c < 4 → State.reset.rf F.SEQ_STAT_STATE d c = 0 ∧ State.reset.rf F.SEQ_STAT_PC d c = 0x100) ∧
  (∀ (n : Nat), n < 8 → State.reset.rf F.SL_CTL_REPLAY_LIMIT 0 n = 4 ∧ State.reset.rf F.SL_CTL_RATE 0 n = 1 ∧ State.reset.rf F.SL_CTL_EN 0 n = 0) ∧
  (∀ (n : Nat), n < 64 → State.reset.rf F.SC_CTL_MAX_FRAME 0 n = 4096 ∧ State.reset.rf F.SC_CTL_SECURE 0 n = 1 ∧ State.reset.rf F.SC_CTL_TX_EN 0 n = 0) ∧
  (∀ (n : Nat), n < 4 → State.reset.rf F.MAC_CTL_MAX_FRAME 0 n = 1518 ∧ State.reset.rf F.MAC_CTL_PAUSE_EN 0 n = 1 ∧ State.reset.rf F.MAC_CTL_LANE 0 n = n) ∧
  (∀ (n : Nat), n < 16 → State.reset.rf F.INST_CTL_WEIGHT 0 n = 1 ∧ State.reset.rf F.INST_STAT_EPOCH 0 n = 0) ∧
  (∀ (n : Nat), n < 2 → State.reset.rf F.DRAM_CTL_EN 0 n = 0) ∧
  State.reset.rf F.TB_CTL_PPS_WIDTH 0 = 1000 ∧ State.reset.rf F.TB_CTL_SLEW_DIV 0 = 1000 ∧ State.reset.rf F.JD_CTL_GW_EN 0 = 1 ∧ State.reset.rf F.CABEN_CTL_UDP_PORT 0 = 0xCB00 ∧
  State.reset.rf F.CABEN_CTL_UDP_SECURE 0 = 1 ∧ State.reset.rf F.DUP_CTL_EPOCH 0 = 10 ∧ State.reset.rf F.DUP_CTL_JOIN_S 0 = 10 ∧ State.reset.rf F.DUP_CTL_HB_TAKEOVER 0 = 1 ∧
  Memory.wf State.reset.mem = true ∧ Regs.wf State.reset.regs = true ∧ State.reset.pending = []

/-- Every step keeps the memory of the package in its canonical form (R101, R295). -/
def Obligations.EveryStepKeepsMemoryInItsForm : Prop :=
  ∀ (s t : State), Memory.wf s.mem = true → step s = .next t → Memory.wf t.mem = true
end

