-- ==== Sys2Proof/Laws/Map.lean ====
section
/-!
SUPPORT. Laws of the sparse maps: reading after writing, and the canonical form that every write keeps.
-/
namespace Sys2Proof.Machine

section
variable {V : Type}

theorem mget_mins_same (m : SMap V) (k : Nat) (v d : V) : mget (mins m k v) k d = v := by
  induction m with
  | nil => simp [mins, mget]
  | cons p t ih =>
    obtain ⟨a, w⟩ := p
    by_cases h1 : k < a
    · simp [mins, mget, h1]
    · by_cases h2 : k = a
      · simp [mins, mget, h2]
      · have h3 : a ≠ k := fun h => h2 h.symm
        simp [mins, mget, h1, h2, h3, ih]

theorem mget_mins_ne (m : SMap V) (k k' : Nat) (v d : V) (h : k' ≠ k) : mget (mins m k v) k' d = mget m k' d := by
  have h' : k ≠ k' := fun e => h e.symm
  induction m with
  | nil => simp [mins, mget, h']
  | cons p t ih =>
    obtain ⟨a, w⟩ := p
    by_cases h1 : k < a
    · simp [mins, mget, h1, h']
    · by_cases h2 : k = a
      · subst h2; simp [mins, mget, h']
      · simp [mins, mget, h1, h2, ih]

theorem mget_mdel_same (m : SMap V) (k : Nat) (d : V) : mget (mdel m k) k d = d := by
  induction m with
  | nil => simp [mdel, mget]
  | cons p t ih =>
    obtain ⟨a, w⟩ := p
    by_cases h : a = k
    · simp [mdel, h, ih]
    · simp [mdel, mget, h, ih]

theorem mget_mdel_ne (m : SMap V) (k k' : Nat) (d : V) (h : k' ≠ k) : mget (mdel m k) k' d = mget m k' d := by
  induction m with
  | nil => simp [mdel, mget]
  | cons p t ih =>
    obtain ⟨a, w⟩ := p
    by_cases h2 : a = k
    · have h3 : a ≠ k' := fun e => h (e.symm.trans h2)
      have h4 : k ≠ k' := fun e => h e.symm
      simp [mdel, mget, h2, h4, ih]
    · by_cases h3 : a = k'
      · subst h3; simp [mdel, mget, h]
      · simp [mdel, mget, h2, h3, ih]

variable [DecidableEq V]

/-- A read after a write of the same key gives the value written. -/
@[simp] theorem mget_mset_same (m : SMap V) (k : Nat) (v d : V) : mget (mset m k v d) k d = v := by
  unfold mset; split
  · next h => rw [mget_mdel_same, h]
  · exact mget_mins_same m k v d

/-- A write leaves every other key alone. -/
theorem mget_mset_ne (m : SMap V) (k k' : Nat) (v d d' : V) (h : k' ≠ k) : mget (mset m k v d) k' d' = mget m k' d' := by
  unfold mset; split
  · exact mget_mdel_ne m k k' d' h
  · exact mget_mins_ne m k k' v d' h

end

/-! ## The canonical form -/

section
variable {V : Type}

theorem mrising_mono {lo lo' : Option Nat} (m : SMap V) (h : mrising lo m = true)
    (hl : ∀ l', lo' = some l' → ∃ l, lo = some l ∧ l' ≤ l) : mrising lo' m = true := by
  cases m with
  | nil => rfl
  | cons p t =>
    obtain ⟨a, w⟩ := p
    unfold mrising at h ⊢
    rw [Bool.and_eq_true] at h ⊢
    refine ⟨?_, h.2⟩
    cases lo' with
    | none => rfl
    | some l' =>
      obtain ⟨l, rfl, hle⟩ := hl l' rfl
      have := of_decide_eq_true h.1
      exact decide_eq_true (by omega)

theorem mrising_mdel (m : SMap V) (k : Nat) (lo : Option Nat) (h : mrising lo m = true) : mrising lo (mdel m k) = true := by
  induction m generalizing lo with
  | nil => exact h
  | cons p t ih =>
    obtain ⟨a, w⟩ := p
    unfold mrising at h
    rw [Bool.and_eq_true] at h
    by_cases h2 : a = k
    · simp only [mdel, h2, if_true]
      apply ih
      apply mrising_mono t h.2
      intro l' hl'
      cases lo with
      | none => cases hl'
      | some lw =>
        cases hl'
        have h1 := of_decide_eq_true h.1
        exact ⟨a, rfl, by omega⟩
    · simp only [mdel, h2, if_false]
      unfold mrising
      rw [Bool.and_eq_true]
      exact ⟨h.1, ih _ h.2⟩

theorem mrising_mins (m : SMap V) (k : Nat) (v : V) (lo : Option Nat) (h : mrising lo m = true)
    (hk : ∀ l, lo = some l → l < k) : mrising lo (mins m k v) = true := by
  induction m generalizing lo with
  | nil =>
    cases lo with
    | none => rfl
    | some l => simp [mins, mrising, hk l rfl]
  | cons p t ih =>
    obtain ⟨a, w⟩ := p
    unfold mrising at h
    rw [Bool.and_eq_true] at h
    by_cases h1 : k < a
    · simp only [mins, h1, if_true]
      unfold mrising
      rw [Bool.and_eq_true]
      refine ⟨?_, ?_⟩
      · cases lo with
        | none => rfl
        | some l => exact decide_eq_true (hk l rfl)
      unfold mrising
      rw [Bool.and_eq_true]
      exact ⟨decide_eq_true h1, h.2⟩
    · by_cases h2 : k = a
      · simp only [mins, h2, if_true, lt_irrefl, if_false]
        unfold mrising
        rw [Bool.and_eq_true]
        exact ⟨h.1, h.2⟩
      · simp only [mins, h1, h2, if_false]
        unfold mrising
        rw [Bool.and_eq_true]
        refine ⟨h.1, ih _ h.2 ?_⟩
        intro l hl
        cases hl
        omega

theorem all_mdel (m : SMap V) (k : Nat) (p : Nat × V → Bool) (h : m.all p = true) : (mdel m k).all p = true := by
  induction m with
  | nil => exact h
  | cons q t ih =>
    obtain ⟨a, w⟩ := q
    rw [List.all_cons, Bool.and_eq_true] at h
    by_cases h2 : a = k
    · simp only [mdel, h2, if_true]; exact ih h.2
    · simp only [mdel, h2, if_false, List.all_cons, Bool.and_eq_true]; exact ⟨h.1, ih h.2⟩

theorem all_mins (m : SMap V) (k : Nat) (v : V) (p : Nat × V → Bool) (h : m.all p = true) (hv : p (k, v) = true) :
    (mins m k v).all p = true := by
  induction m with
  | nil => simp [mins, hv]
  | cons q t ih =>
    obtain ⟨a, w⟩ := q
    rw [List.all_cons, Bool.and_eq_true] at h
    by_cases h1 : k < a
    · simp only [mins, h1, if_true, List.all_cons, Bool.and_eq_true]; exact ⟨hv, h⟩
    · by_cases h2 : k = a
      · simp only [mins, h2, if_true, lt_irrefl, if_false, List.all_cons, Bool.and_eq_true]
        exact ⟨h2 ▸ hv, h.2⟩
      · simp only [mins, h1, h2, if_false, List.all_cons, Bool.and_eq_true]; exact ⟨h.1, ih h.2⟩

theorem mrising_filter (m : SMap V) (p : Nat × V → Bool) (lo : Option Nat) (h : mrising lo m = true) :
    mrising lo (m.filter p) = true := by
  induction m generalizing lo with
  | nil => exact h
  | cons q t ih =>
    obtain ⟨a, w⟩ := q
    unfold mrising at h
    rw [Bool.and_eq_true] at h
    by_cases hp : p (a, w) = true
    · rw [List.filter_cons_of_pos hp]
      unfold mrising
      rw [Bool.and_eq_true]
      exact ⟨h.1, ih _ h.2⟩
    · rw [List.filter_cons_of_neg hp]
      apply ih
      apply mrising_mono t h.2
      intro l' hl'
      cases lo with
      | none => cases hl'
      | some lw =>
        cases hl'
        have h1 := of_decide_eq_true h.1
        exact ⟨a, rfl, by omega⟩

variable [DecidableEq V]

/-- A write whose default is what its key's unlisted word reads as keeps the canonical form. -/
theorem mwf_mset (f : Nat → V) (m : SMap V) (k : Nat) (v d : V) (hd : d = f k) (h : mwf f m = true) :
    mwf f (mset m k v d) = true := by
  unfold mwf at h ⊢
  rw [Bool.and_eq_true] at h ⊢
  unfold mset
  split
  · exact ⟨mrising_mdel m k none h.1, all_mdel m k _ h.2⟩
  · next hv =>
    exact ⟨mrising_mins m k v none h.1 (by simp), all_mins m k v _ h.2 (decide_eq_true (hd ▸ hv))⟩

/-- Leaving entries out keeps the canonical form. -/
theorem mwf_filter (f : Nat → V) (m : SMap V) (p : Nat × V → Bool) (h : mwf f m = true) : mwf f (m.filter p) = true := by
  unfold mwf at h ⊢
  rw [Bool.and_eq_true] at h ⊢
  refine ⟨mrising_filter m p none h.1, ?_⟩
  rw [List.all_eq_true] at h ⊢
  intro x hx
  exact h.2 x (List.mem_filter.mp hx).1

end

end Sys2Proof.Machine
end

