-- ==== Sys2Proof/Laws/State.lean ====
section
/-!
SUPPORT. One lemma per field of the state and per update: what an update of one part leaves alone, and what reading the
part back gives.
-/
namespace Sys2Proof.Machine

section
variable (s : State) (r : Reg) (w : Word)
@[simp] theorem State.setReg_freeCtr : (s.setReg r w).freeCtr = s.freeCtr  := rfl
@[simp] theorem State.setReg_mem : (s.setReg r w).mem = s.mem  := rfl
@[simp] theorem State.setReg_wb : (s.setReg r w).wb = s.wb  := rfl
@[simp] theorem State.setReg_latch : (s.setReg r w).latch = s.latch  := rfl
@[simp] theorem State.setReg_faultLine : (s.setReg r w).faultLine = s.faultLine  := rfl
@[simp] theorem State.setReg_isl : (s.setReg r w).isl = s.isl  := rfl
@[simp] theorem State.setReg_chans : (s.setReg r w).chans = s.chans  := rfl
@[simp] theorem State.setReg_evts : (s.setReg r w).evts = s.evts  := rfl
@[simp] theorem State.setReg_dio : (s.setReg r w).dio = s.dio  := rfl
@[simp] theorem State.setReg_bms : (s.setReg r w).bms = s.bms  := rfl
@[simp] theorem State.setReg_banks : (s.setReg r w).banks = s.banks  := rfl
@[simp] theorem State.setReg_inFlight : (s.setReg r w).inFlight = s.inFlight  := rfl
@[simp] theorem State.setReg_outst : (s.setReg r w).outst = s.outst  := rfl
@[simp] theorem State.setReg_resps : (s.setReg r w).resps = s.resps  := rfl
@[simp] theorem State.setReg_stopPart : (s.setReg r w).stopPart = s.stopPart  := rfl
@[simp] theorem State.setReg_stopWait : (s.setReg r w).stopWait = s.stopWait  := rfl
@[simp] theorem State.setReg_stopOut : (s.setReg r w).stopOut = s.stopOut  := rfl
@[simp] theorem State.setReg_mailbox : (s.setReg r w).mailbox = s.mailbox  := rfl
@[simp] theorem State.setReg_lostPairs : (s.setReg r w).lostPairs = s.lostPairs  := rfl
@[simp] theorem State.setReg_net : (s.setReg r w).net = s.net  := rfl
@[simp] theorem State.setReg_shadows : (s.setReg r w).shadows = s.shadows  := rfl
@[simp] theorem State.setReg_ix : (s.setReg r w).ix = s.ix  := rfl
@[simp] theorem State.setReg_credits : (s.setReg r w).credits = s.credits  := rfl
@[simp] theorem State.setReg_drams : (s.setReg r w).drams = s.drams  := rfl
@[simp] theorem State.setReg_lanes : (s.setReg r w).lanes = s.lanes  := rfl
@[simp] theorem State.setReg_macs : (s.setReg r w).macs = s.macs  := rfl
@[simp] theorem State.setReg_macLatFuse : (s.setReg r w).macLatFuse = s.macLatFuse  := rfl
@[simp] theorem State.setReg_links : (s.setReg r w).links = s.links  := rfl
@[simp] theorem State.setReg_pcs : (s.setReg r w).pcs = s.pcs  := rfl
@[simp] theorem State.setReg_scs : (s.setReg r w).scs = s.scs  := rfl
@[simp] theorem State.setReg_fwds : (s.setReg r w).fwds = s.fwds  := rfl
@[simp] theorem State.setReg_sks : (s.setReg r w).sks = s.sks  := rfl
@[simp] theorem State.setReg_gw : (s.setReg r w).gw = s.gw  := rfl
@[simp] theorem State.setReg_follow : (s.setReg r w).follow = s.follow  := rfl
@[simp] theorem State.setReg_switchTo : (s.setReg r w).switchTo = s.switchTo  := rfl
@[simp] theorem State.setReg_headLost : (s.setReg r w).headLost = s.headLost  := rfl
@[simp] theorem State.setReg_ctxs : (s.setReg r w).ctxs = s.ctxs  := rfl
@[simp] theorem State.setReg_engines : (s.setReg r w).engines = s.engines  := rfl
@[simp] theorem State.setReg_lands : (s.setReg r w).lands = s.lands  := rfl
@[simp] theorem State.setReg_landing : (s.setReg r w).landing = s.landing  := rfl
@[simp] theorem State.setReg_lio : (s.setReg r w).lio = s.lio  := rfl
@[simp] theorem State.setReg_rxProv : (s.setReg r w).rxProv = s.rxProv  := rfl
@[simp] theorem State.setReg_cfg : (s.setReg r w).cfg = s.cfg  := rfl
@[simp] theorem State.setReg_cab : (s.setReg r w).cab = s.cab  := rfl
@[simp] theorem State.setReg_cores : (s.setReg r w).cores = s.cores  := rfl
@[simp] theorem State.setReg_dbg : (s.setReg r w).dbg = s.dbg  := rfl
@[simp] theorem State.setReg_insts : (s.setReg r w).insts = s.insts  := rfl
@[simp] theorem State.setReg_dup : (s.setReg r w).dup = s.dup  := rfl
@[simp] theorem State.setReg_fm : (s.setReg r w).fm = s.fm  := rfl
@[simp] theorem State.setReg_rst : (s.setReg r w).rst = s.rst  := rfl
@[simp] theorem State.setReg_pending : (s.setReg r w).pending = s.pending  := rfl
@[simp] theorem State.setReg_cell (y z : Nat) : (s.setReg r w).cell y z = s.cell y z  := rfl
@[simp] theorem State.setReg_island (y z : Nat) : (s.setReg r w).island y z = s.island y z  := rfl
@[simp] theorem State.setReg_chan (y : Nat) : (s.setReg r w).chan y = s.chan y  := rfl
@[simp] theorem State.setReg_evt (y z u : Nat) : (s.setReg r w).evt y z u = s.evt y z u  := rfl
@[simp] theorem State.setReg_dioCell (y z : Nat) : (s.setReg r w).dioCell y z = s.dioCell y z  := rfl
@[simp] theorem State.setReg_bm (y z u : Nat) : (s.setReg r w).bm y z u = s.bm y z u  := rfl
@[simp] theorem State.setReg_bank (y z : Nat) : (s.setReg r w).bank y z = s.bank y z  := rfl
@[simp] theorem State.setReg_ixp (y z : Nat) : (s.setReg r w).ixp y z = s.ixp y z  := rfl
@[simp] theorem State.setReg_dram (y : Nat) : (s.setReg r w).dram y = s.dram y  := rfl
@[simp] theorem State.setReg_lane (y : Nat) : (s.setReg r w).lane y = s.lane y  := rfl
@[simp] theorem State.setReg_mac (y : Nat) : (s.setReg r w).mac y = s.mac y  := rfl
@[simp] theorem State.setReg_sl (y : Nat) : (s.setReg r w).sl y = s.sl y  := rfl
@[simp] theorem State.setReg_sc (y : Nat) : (s.setReg r w).sc y = s.sc y  := rfl
@[simp] theorem State.setReg_fwd (y : Nat) : (s.setReg r w).fwd y = s.fwd y  := rfl
@[simp] theorem State.setReg_ctx (y z u : Nat) : (s.setReg r w).ctx y z u = s.ctx y z u  := rfl
@[simp] theorem State.setReg_land (y z : Nat) : (s.setReg r w).land y z = s.land y z  := rfl
@[simp] theorem State.setReg_inst (y : Nat) : (s.setReg r w).inst y = s.inst y  := rfl
@[simp] theorem State.setReg_core (y z : Nat) : (s.setReg r w).core y z = s.core y z  := rfl
@[simp] theorem State.setReg_ring (y : Nat) : (s.setReg r w).ring y = s.ring y  := rfl
@[simp] theorem State.setReg_pin (y : Nat) : (s.setReg r w).pin y = s.pin y  := rfl
@[simp] theorem State.setReg_tile (y : Nat) : (s.setReg r w).tile y = s.tile y  := rfl
end

section
variable (s : State) (f : Fld) (v d i j : Nat)
@[simp] theorem State.wf_freeCtr : (s.wf f v d i j).freeCtr = s.freeCtr  := rfl
@[simp] theorem State.wf_mem : (s.wf f v d i j).mem = s.mem  := rfl
@[simp] theorem State.wf_wb : (s.wf f v d i j).wb = s.wb  := rfl
@[simp] theorem State.wf_latch : (s.wf f v d i j).latch = s.latch  := rfl
@[simp] theorem State.wf_faultLine : (s.wf f v d i j).faultLine = s.faultLine  := rfl
@[simp] theorem State.wf_isl : (s.wf f v d i j).isl = s.isl  := rfl
@[simp] theorem State.wf_chans : (s.wf f v d i j).chans = s.chans  := rfl
@[simp] theorem State.wf_evts : (s.wf f v d i j).evts = s.evts  := rfl
@[simp] theorem State.wf_dio : (s.wf f v d i j).dio = s.dio  := rfl
@[simp] theorem State.wf_bms : (s.wf f v d i j).bms = s.bms  := rfl
@[simp] theorem State.wf_banks : (s.wf f v d i j).banks = s.banks  := rfl
@[simp] theorem State.wf_inFlight : (s.wf f v d i j).inFlight = s.inFlight  := rfl
@[simp] theorem State.wf_outst : (s.wf f v d i j).outst = s.outst  := rfl
@[simp] theorem State.wf_resps : (s.wf f v d i j).resps = s.resps  := rfl
@[simp] theorem State.wf_stopPart : (s.wf f v d i j).stopPart = s.stopPart  := rfl
@[simp] theorem State.wf_stopWait : (s.wf f v d i j).stopWait = s.stopWait  := rfl
@[simp] theorem State.wf_stopOut : (s.wf f v d i j).stopOut = s.stopOut  := rfl
@[simp] theorem State.wf_mailbox : (s.wf f v d i j).mailbox = s.mailbox  := rfl
@[simp] theorem State.wf_lostPairs : (s.wf f v d i j).lostPairs = s.lostPairs  := rfl
@[simp] theorem State.wf_net : (s.wf f v d i j).net = s.net  := rfl
@[simp] theorem State.wf_shadows : (s.wf f v d i j).shadows = s.shadows  := rfl
@[simp] theorem State.wf_ix : (s.wf f v d i j).ix = s.ix  := rfl
@[simp] theorem State.wf_credits : (s.wf f v d i j).credits = s.credits  := rfl
@[simp] theorem State.wf_drams : (s.wf f v d i j).drams = s.drams  := rfl
@[simp] theorem State.wf_lanes : (s.wf f v d i j).lanes = s.lanes  := rfl
@[simp] theorem State.wf_macs : (s.wf f v d i j).macs = s.macs  := rfl
@[simp] theorem State.wf_macLatFuse : (s.wf f v d i j).macLatFuse = s.macLatFuse  := rfl
@[simp] theorem State.wf_links : (s.wf f v d i j).links = s.links  := rfl
@[simp] theorem State.wf_pcs : (s.wf f v d i j).pcs = s.pcs  := rfl
@[simp] theorem State.wf_scs : (s.wf f v d i j).scs = s.scs  := rfl
@[simp] theorem State.wf_fwds : (s.wf f v d i j).fwds = s.fwds  := rfl
@[simp] theorem State.wf_sks : (s.wf f v d i j).sks = s.sks  := rfl
@[simp] theorem State.wf_gw : (s.wf f v d i j).gw = s.gw  := rfl
@[simp] theorem State.wf_follow : (s.wf f v d i j).follow = s.follow  := rfl
@[simp] theorem State.wf_switchTo : (s.wf f v d i j).switchTo = s.switchTo  := rfl
@[simp] theorem State.wf_headLost : (s.wf f v d i j).headLost = s.headLost  := rfl
@[simp] theorem State.wf_ctxs : (s.wf f v d i j).ctxs = s.ctxs  := rfl
@[simp] theorem State.wf_engines : (s.wf f v d i j).engines = s.engines  := rfl
@[simp] theorem State.wf_lands : (s.wf f v d i j).lands = s.lands  := rfl
@[simp] theorem State.wf_landing : (s.wf f v d i j).landing = s.landing  := rfl
@[simp] theorem State.wf_lio : (s.wf f v d i j).lio = s.lio  := rfl
@[simp] theorem State.wf_rxProv : (s.wf f v d i j).rxProv = s.rxProv  := rfl
@[simp] theorem State.wf_cfg : (s.wf f v d i j).cfg = s.cfg  := rfl
@[simp] theorem State.wf_cab : (s.wf f v d i j).cab = s.cab  := rfl
@[simp] theorem State.wf_cores : (s.wf f v d i j).cores = s.cores  := rfl
@[simp] theorem State.wf_dbg : (s.wf f v d i j).dbg = s.dbg  := rfl
@[simp] theorem State.wf_insts : (s.wf f v d i j).insts = s.insts  := rfl
@[simp] theorem State.wf_dup : (s.wf f v d i j).dup = s.dup  := rfl
@[simp] theorem State.wf_fm : (s.wf f v d i j).fm = s.fm  := rfl
@[simp] theorem State.wf_rst : (s.wf f v d i j).rst = s.rst  := rfl
@[simp] theorem State.wf_pending : (s.wf f v d i j).pending = s.pending  := rfl
@[simp] theorem State.wf_cell (y z : Nat) : (s.wf f v d i j).cell y z = s.cell y z  := rfl
@[simp] theorem State.wf_island (y z : Nat) : (s.wf f v d i j).island y z = s.island y z  := rfl
@[simp] theorem State.wf_chan (y : Nat) : (s.wf f v d i j).chan y = s.chan y  := rfl
@[simp] theorem State.wf_evt (y z u : Nat) : (s.wf f v d i j).evt y z u = s.evt y z u  := rfl
@[simp] theorem State.wf_dioCell (y z : Nat) : (s.wf f v d i j).dioCell y z = s.dioCell y z  := rfl
@[simp] theorem State.wf_bm (y z u : Nat) : (s.wf f v d i j).bm y z u = s.bm y z u  := rfl
@[simp] theorem State.wf_bank (y z : Nat) : (s.wf f v d i j).bank y z = s.bank y z  := rfl
@[simp] theorem State.wf_ixp (y z : Nat) : (s.wf f v d i j).ixp y z = s.ixp y z  := rfl
@[simp] theorem State.wf_dram (y : Nat) : (s.wf f v d i j).dram y = s.dram y  := rfl
@[simp] theorem State.wf_lane (y : Nat) : (s.wf f v d i j).lane y = s.lane y  := rfl
@[simp] theorem State.wf_mac (y : Nat) : (s.wf f v d i j).mac y = s.mac y  := rfl
@[simp] theorem State.wf_sl (y : Nat) : (s.wf f v d i j).sl y = s.sl y  := rfl
@[simp] theorem State.wf_sc (y : Nat) : (s.wf f v d i j).sc y = s.sc y  := rfl
@[simp] theorem State.wf_fwd (y : Nat) : (s.wf f v d i j).fwd y = s.fwd y  := rfl
@[simp] theorem State.wf_ctx (y z u : Nat) : (s.wf f v d i j).ctx y z u = s.ctx y z u  := rfl
@[simp] theorem State.wf_land (y z : Nat) : (s.wf f v d i j).land y z = s.land y z  := rfl
@[simp] theorem State.wf_inst (y : Nat) : (s.wf f v d i j).inst y = s.inst y  := rfl
@[simp] theorem State.wf_core (y z : Nat) : (s.wf f v d i j).core y z = s.core y z  := rfl
@[simp] theorem State.wf_ring (y : Nat) : (s.wf f v d i j).ring y = s.ring y  := rfl
@[simp] theorem State.wf_pin (y : Nat) : (s.wf f v d i j).pin y = s.pin y  := rfl
@[simp] theorem State.wf_tile (y : Nat) : (s.wf f v d i j).tile y = s.tile y  := rfl
end

section
variable (s : State) (n : RegName) (v d i j : Nat)
@[simp] theorem State.ww_freeCtr : (s.ww n v d i j).freeCtr = s.freeCtr  := rfl
@[simp] theorem State.ww_mem : (s.ww n v d i j).mem = s.mem  := rfl
@[simp] theorem State.ww_wb : (s.ww n v d i j).wb = s.wb  := rfl
@[simp] theorem State.ww_latch : (s.ww n v d i j).latch = s.latch  := rfl
@[simp] theorem State.ww_faultLine : (s.ww n v d i j).faultLine = s.faultLine  := rfl
@[simp] theorem State.ww_isl : (s.ww n v d i j).isl = s.isl  := rfl
@[simp] theorem State.ww_chans : (s.ww n v d i j).chans = s.chans  := rfl
@[simp] theorem State.ww_evts : (s.ww n v d i j).evts = s.evts  := rfl
@[simp] theorem State.ww_dio : (s.ww n v d i j).dio = s.dio  := rfl
@[simp] theorem State.ww_bms : (s.ww n v d i j).bms = s.bms  := rfl
@[simp] theorem State.ww_banks : (s.ww n v d i j).banks = s.banks  := rfl
@[simp] theorem State.ww_inFlight : (s.ww n v d i j).inFlight = s.inFlight  := rfl
@[simp] theorem State.ww_outst : (s.ww n v d i j).outst = s.outst  := rfl
@[simp] theorem State.ww_resps : (s.ww n v d i j).resps = s.resps  := rfl
@[simp] theorem State.ww_stopPart : (s.ww n v d i j).stopPart = s.stopPart  := rfl
@[simp] theorem State.ww_stopWait : (s.ww n v d i j).stopWait = s.stopWait  := rfl
@[simp] theorem State.ww_stopOut : (s.ww n v d i j).stopOut = s.stopOut  := rfl
@[simp] theorem State.ww_mailbox : (s.ww n v d i j).mailbox = s.mailbox  := rfl
@[simp] theorem State.ww_lostPairs : (s.ww n v d i j).lostPairs = s.lostPairs  := rfl
@[simp] theorem State.ww_net : (s.ww n v d i j).net = s.net  := rfl
@[simp] theorem State.ww_shadows : (s.ww n v d i j).shadows = s.shadows  := rfl
@[simp] theorem State.ww_ix : (s.ww n v d i j).ix = s.ix  := rfl
@[simp] theorem State.ww_credits : (s.ww n v d i j).credits = s.credits  := rfl
@[simp] theorem State.ww_drams : (s.ww n v d i j).drams = s.drams  := rfl
@[simp] theorem State.ww_lanes : (s.ww n v d i j).lanes = s.lanes  := rfl
@[simp] theorem State.ww_macs : (s.ww n v d i j).macs = s.macs  := rfl
@[simp] theorem State.ww_macLatFuse : (s.ww n v d i j).macLatFuse = s.macLatFuse  := rfl
@[simp] theorem State.ww_links : (s.ww n v d i j).links = s.links  := rfl
@[simp] theorem State.ww_pcs : (s.ww n v d i j).pcs = s.pcs  := rfl
@[simp] theorem State.ww_scs : (s.ww n v d i j).scs = s.scs  := rfl
@[simp] theorem State.ww_fwds : (s.ww n v d i j).fwds = s.fwds  := rfl
@[simp] theorem State.ww_sks : (s.ww n v d i j).sks = s.sks  := rfl
@[simp] theorem State.ww_gw : (s.ww n v d i j).gw = s.gw  := rfl
@[simp] theorem State.ww_follow : (s.ww n v d i j).follow = s.follow  := rfl
@[simp] theorem State.ww_switchTo : (s.ww n v d i j).switchTo = s.switchTo  := rfl
@[simp] theorem State.ww_headLost : (s.ww n v d i j).headLost = s.headLost  := rfl
@[simp] theorem State.ww_ctxs : (s.ww n v d i j).ctxs = s.ctxs  := rfl
@[simp] theorem State.ww_engines : (s.ww n v d i j).engines = s.engines  := rfl
@[simp] theorem State.ww_lands : (s.ww n v d i j).lands = s.lands  := rfl
@[simp] theorem State.ww_landing : (s.ww n v d i j).landing = s.landing  := rfl
@[simp] theorem State.ww_lio : (s.ww n v d i j).lio = s.lio  := rfl
@[simp] theorem State.ww_rxProv : (s.ww n v d i j).rxProv = s.rxProv  := rfl
@[simp] theorem State.ww_cfg : (s.ww n v d i j).cfg = s.cfg  := rfl
@[simp] theorem State.ww_cab : (s.ww n v d i j).cab = s.cab  := rfl
@[simp] theorem State.ww_cores : (s.ww n v d i j).cores = s.cores  := rfl
@[simp] theorem State.ww_dbg : (s.ww n v d i j).dbg = s.dbg  := rfl
@[simp] theorem State.ww_insts : (s.ww n v d i j).insts = s.insts  := rfl
@[simp] theorem State.ww_dup : (s.ww n v d i j).dup = s.dup  := rfl
@[simp] theorem State.ww_fm : (s.ww n v d i j).fm = s.fm  := rfl
@[simp] theorem State.ww_rst : (s.ww n v d i j).rst = s.rst  := rfl
@[simp] theorem State.ww_pending : (s.ww n v d i j).pending = s.pending  := rfl
@[simp] theorem State.ww_cell (y z : Nat) : (s.ww n v d i j).cell y z = s.cell y z  := rfl
@[simp] theorem State.ww_island (y z : Nat) : (s.ww n v d i j).island y z = s.island y z  := rfl
@[simp] theorem State.ww_chan (y : Nat) : (s.ww n v d i j).chan y = s.chan y  := rfl
@[simp] theorem State.ww_evt (y z u : Nat) : (s.ww n v d i j).evt y z u = s.evt y z u  := rfl
@[simp] theorem State.ww_dioCell (y z : Nat) : (s.ww n v d i j).dioCell y z = s.dioCell y z  := rfl
@[simp] theorem State.ww_bm (y z u : Nat) : (s.ww n v d i j).bm y z u = s.bm y z u  := rfl
@[simp] theorem State.ww_bank (y z : Nat) : (s.ww n v d i j).bank y z = s.bank y z  := rfl
@[simp] theorem State.ww_ixp (y z : Nat) : (s.ww n v d i j).ixp y z = s.ixp y z  := rfl
@[simp] theorem State.ww_dram (y : Nat) : (s.ww n v d i j).dram y = s.dram y  := rfl
@[simp] theorem State.ww_lane (y : Nat) : (s.ww n v d i j).lane y = s.lane y  := rfl
@[simp] theorem State.ww_mac (y : Nat) : (s.ww n v d i j).mac y = s.mac y  := rfl
@[simp] theorem State.ww_sl (y : Nat) : (s.ww n v d i j).sl y = s.sl y  := rfl
@[simp] theorem State.ww_sc (y : Nat) : (s.ww n v d i j).sc y = s.sc y  := rfl
@[simp] theorem State.ww_fwd (y : Nat) : (s.ww n v d i j).fwd y = s.fwd y  := rfl
@[simp] theorem State.ww_ctx (y z u : Nat) : (s.ww n v d i j).ctx y z u = s.ctx y z u  := rfl
@[simp] theorem State.ww_land (y z : Nat) : (s.ww n v d i j).land y z = s.land y z  := rfl
@[simp] theorem State.ww_inst (y : Nat) : (s.ww n v d i j).inst y = s.inst y  := rfl
@[simp] theorem State.ww_core (y z : Nat) : (s.ww n v d i j).core y z = s.core y z  := rfl
@[simp] theorem State.ww_ring (y : Nat) : (s.ww n v d i j).ring y = s.ring y  := rfl
@[simp] theorem State.ww_pin (y : Nat) : (s.ww n v d i j).pin y = s.pin y  := rfl
@[simp] theorem State.ww_tile (y : Nat) : (s.ww n v d i j).tile y = s.tile y  := rfl
end

section
variable (s : State) (die pa : Nat) (c : Cell)
@[simp] theorem State.setCell_regs : (s.setCell die pa c).regs = s.regs  := rfl
@[simp] theorem State.setCell_freeCtr : (s.setCell die pa c).freeCtr = s.freeCtr  := rfl
@[simp] theorem State.setCell_wb : (s.setCell die pa c).wb = s.wb  := rfl
@[simp] theorem State.setCell_latch : (s.setCell die pa c).latch = s.latch  := rfl
@[simp] theorem State.setCell_faultLine : (s.setCell die pa c).faultLine = s.faultLine  := rfl
@[simp] theorem State.setCell_isl : (s.setCell die pa c).isl = s.isl  := rfl
@[simp] theorem State.setCell_chans : (s.setCell die pa c).chans = s.chans  := rfl
@[simp] theorem State.setCell_evts : (s.setCell die pa c).evts = s.evts  := rfl
@[simp] theorem State.setCell_dio : (s.setCell die pa c).dio = s.dio  := rfl
@[simp] theorem State.setCell_bms : (s.setCell die pa c).bms = s.bms  := rfl
@[simp] theorem State.setCell_banks : (s.setCell die pa c).banks = s.banks  := rfl
@[simp] theorem State.setCell_inFlight : (s.setCell die pa c).inFlight = s.inFlight  := rfl
@[simp] theorem State.setCell_outst : (s.setCell die pa c).outst = s.outst  := rfl
@[simp] theorem State.setCell_resps : (s.setCell die pa c).resps = s.resps  := rfl
@[simp] theorem State.setCell_stopPart : (s.setCell die pa c).stopPart = s.stopPart  := rfl
@[simp] theorem State.setCell_stopWait : (s.setCell die pa c).stopWait = s.stopWait  := rfl
@[simp] theorem State.setCell_stopOut : (s.setCell die pa c).stopOut = s.stopOut  := rfl
@[simp] theorem State.setCell_mailbox : (s.setCell die pa c).mailbox = s.mailbox  := rfl
@[simp] theorem State.setCell_lostPairs : (s.setCell die pa c).lostPairs = s.lostPairs  := rfl
@[simp] theorem State.setCell_net : (s.setCell die pa c).net = s.net  := rfl
@[simp] theorem State.setCell_shadows : (s.setCell die pa c).shadows = s.shadows  := rfl
@[simp] theorem State.setCell_ix : (s.setCell die pa c).ix = s.ix  := rfl
@[simp] theorem State.setCell_credits : (s.setCell die pa c).credits = s.credits  := rfl
@[simp] theorem State.setCell_drams : (s.setCell die pa c).drams = s.drams  := rfl
@[simp] theorem State.setCell_lanes : (s.setCell die pa c).lanes = s.lanes  := rfl
@[simp] theorem State.setCell_macs : (s.setCell die pa c).macs = s.macs  := rfl
@[simp] theorem State.setCell_macLatFuse : (s.setCell die pa c).macLatFuse = s.macLatFuse  := rfl
@[simp] theorem State.setCell_links : (s.setCell die pa c).links = s.links  := rfl
@[simp] theorem State.setCell_pcs : (s.setCell die pa c).pcs = s.pcs  := rfl
@[simp] theorem State.setCell_scs : (s.setCell die pa c).scs = s.scs  := rfl
@[simp] theorem State.setCell_fwds : (s.setCell die pa c).fwds = s.fwds  := rfl
@[simp] theorem State.setCell_sks : (s.setCell die pa c).sks = s.sks  := rfl
@[simp] theorem State.setCell_gw : (s.setCell die pa c).gw = s.gw  := rfl
@[simp] theorem State.setCell_follow : (s.setCell die pa c).follow = s.follow  := rfl
@[simp] theorem State.setCell_switchTo : (s.setCell die pa c).switchTo = s.switchTo  := rfl
@[simp] theorem State.setCell_headLost : (s.setCell die pa c).headLost = s.headLost  := rfl
@[simp] theorem State.setCell_ctxs : (s.setCell die pa c).ctxs = s.ctxs  := rfl
@[simp] theorem State.setCell_engines : (s.setCell die pa c).engines = s.engines  := rfl
@[simp] theorem State.setCell_lands : (s.setCell die pa c).lands = s.lands  := rfl
@[simp] theorem State.setCell_landing : (s.setCell die pa c).landing = s.landing  := rfl
@[simp] theorem State.setCell_lio : (s.setCell die pa c).lio = s.lio  := rfl
@[simp] theorem State.setCell_rxProv : (s.setCell die pa c).rxProv = s.rxProv  := rfl
@[simp] theorem State.setCell_cfg : (s.setCell die pa c).cfg = s.cfg  := rfl
@[simp] theorem State.setCell_cab : (s.setCell die pa c).cab = s.cab  := rfl
@[simp] theorem State.setCell_cores : (s.setCell die pa c).cores = s.cores  := rfl
@[simp] theorem State.setCell_dbg : (s.setCell die pa c).dbg = s.dbg  := rfl
@[simp] theorem State.setCell_insts : (s.setCell die pa c).insts = s.insts  := rfl
@[simp] theorem State.setCell_dup : (s.setCell die pa c).dup = s.dup  := rfl
@[simp] theorem State.setCell_fm : (s.setCell die pa c).fm = s.fm  := rfl
@[simp] theorem State.setCell_rst : (s.setCell die pa c).rst = s.rst  := rfl
@[simp] theorem State.setCell_pending : (s.setCell die pa c).pending = s.pending  := rfl
@[simp] theorem State.setCell_reg (rq : Reg) : (s.setCell die pa c).reg rq = s.reg rq  := rfl
@[simp] theorem State.setCell_rf (g : Fld) (y z u : Nat) : (s.setCell die pa c).rf g y z u = s.rf g y z u  := rfl
@[simp] theorem State.setCell_rb (g : Fld) (y z u : Nat) : (s.setCell die pa c).rb g y z u = s.rb g y z u  := rfl
@[simp] theorem State.setCell_rw (g : RegName) (y z u : Nat) : (s.setCell die pa c).rw g y z u = s.rw g y z u  := rfl
@[simp] theorem State.setCell_island (y z : Nat) : (s.setCell die pa c).island y z = s.island y z  := rfl
@[simp] theorem State.setCell_chan (y : Nat) : (s.setCell die pa c).chan y = s.chan y  := rfl
@[simp] theorem State.setCell_evt (y z u : Nat) : (s.setCell die pa c).evt y z u = s.evt y z u  := rfl
@[simp] theorem State.setCell_dioCell (y z : Nat) : (s.setCell die pa c).dioCell y z = s.dioCell y z  := rfl
@[simp] theorem State.setCell_bm (y z u : Nat) : (s.setCell die pa c).bm y z u = s.bm y z u  := rfl
@[simp] theorem State.setCell_bank (y z : Nat) : (s.setCell die pa c).bank y z = s.bank y z  := rfl
@[simp] theorem State.setCell_ixp (y z : Nat) : (s.setCell die pa c).ixp y z = s.ixp y z  := rfl
@[simp] theorem State.setCell_dram (y : Nat) : (s.setCell die pa c).dram y = s.dram y  := rfl
@[simp] theorem State.setCell_lane (y : Nat) : (s.setCell die pa c).lane y = s.lane y  := rfl
@[simp] theorem State.setCell_mac (y : Nat) : (s.setCell die pa c).mac y = s.mac y  := rfl
@[simp] theorem State.setCell_sl (y : Nat) : (s.setCell die pa c).sl y = s.sl y  := rfl
@[simp] theorem State.setCell_sc (y : Nat) : (s.setCell die pa c).sc y = s.sc y  := rfl
@[simp] theorem State.setCell_fwd (y : Nat) : (s.setCell die pa c).fwd y = s.fwd y  := rfl
@[simp] theorem State.setCell_ctx (y z u : Nat) : (s.setCell die pa c).ctx y z u = s.ctx y z u  := rfl
@[simp] theorem State.setCell_land (y z : Nat) : (s.setCell die pa c).land y z = s.land y z  := rfl
@[simp] theorem State.setCell_inst (y : Nat) : (s.setCell die pa c).inst y = s.inst y  := rfl
@[simp] theorem State.setCell_core (y z : Nat) : (s.setCell die pa c).core y z = s.core y z  := rfl
@[simp] theorem State.setCell_ring (y : Nat) : (s.setCell die pa c).ring y = s.ring y  := rfl
@[simp] theorem State.setCell_pin (y : Nat) : (s.setCell die pa c).pin y = s.pin y  := rfl
@[simp] theorem State.setCell_tile (y : Nat) : (s.setCell die pa c).tile y = s.tile y  := rfl
end

section
variable (s : State) (die pa : Nat) (w : TWord)
@[simp] theorem State.putWord_regs : (s.putWord die pa w).regs = s.regs  := rfl
@[simp] theorem State.putWord_freeCtr : (s.putWord die pa w).freeCtr = s.freeCtr  := rfl
@[simp] theorem State.putWord_wb : (s.putWord die pa w).wb = s.wb  := rfl
@[simp] theorem State.putWord_latch : (s.putWord die pa w).latch = s.latch  := rfl
@[simp] theorem State.putWord_faultLine : (s.putWord die pa w).faultLine = s.faultLine  := rfl
@[simp] theorem State.putWord_isl : (s.putWord die pa w).isl = s.isl  := rfl
@[simp] theorem State.putWord_chans : (s.putWord die pa w).chans = s.chans  := rfl
@[simp] theorem State.putWord_evts : (s.putWord die pa w).evts = s.evts  := rfl
@[simp] theorem State.putWord_dio : (s.putWord die pa w).dio = s.dio  := rfl
@[simp] theorem State.putWord_bms : (s.putWord die pa w).bms = s.bms  := rfl
@[simp] theorem State.putWord_banks : (s.putWord die pa w).banks = s.banks  := rfl
@[simp] theorem State.putWord_inFlight : (s.putWord die pa w).inFlight = s.inFlight  := rfl
@[simp] theorem State.putWord_outst : (s.putWord die pa w).outst = s.outst  := rfl
@[simp] theorem State.putWord_resps : (s.putWord die pa w).resps = s.resps  := rfl
@[simp] theorem State.putWord_stopPart : (s.putWord die pa w).stopPart = s.stopPart  := rfl
@[simp] theorem State.putWord_stopWait : (s.putWord die pa w).stopWait = s.stopWait  := rfl
@[simp] theorem State.putWord_stopOut : (s.putWord die pa w).stopOut = s.stopOut  := rfl
@[simp] theorem State.putWord_mailbox : (s.putWord die pa w).mailbox = s.mailbox  := rfl
@[simp] theorem State.putWord_lostPairs : (s.putWord die pa w).lostPairs = s.lostPairs  := rfl
@[simp] theorem State.putWord_net : (s.putWord die pa w).net = s.net  := rfl
@[simp] theorem State.putWord_shadows : (s.putWord die pa w).shadows = s.shadows  := rfl
@[simp] theorem State.putWord_ix : (s.putWord die pa w).ix = s.ix  := rfl
@[simp] theorem State.putWord_credits : (s.putWord die pa w).credits = s.credits  := rfl
@[simp] theorem State.putWord_drams : (s.putWord die pa w).drams = s.drams  := rfl
@[simp] theorem State.putWord_lanes : (s.putWord die pa w).lanes = s.lanes  := rfl
@[simp] theorem State.putWord_macs : (s.putWord die pa w).macs = s.macs  := rfl
@[simp] theorem State.putWord_macLatFuse : (s.putWord die pa w).macLatFuse = s.macLatFuse  := rfl
@[simp] theorem State.putWord_links : (s.putWord die pa w).links = s.links  := rfl
@[simp] theorem State.putWord_pcs : (s.putWord die pa w).pcs = s.pcs  := rfl
@[simp] theorem State.putWord_scs : (s.putWord die pa w).scs = s.scs  := rfl
@[simp] theorem State.putWord_fwds : (s.putWord die pa w).fwds = s.fwds  := rfl
@[simp] theorem State.putWord_sks : (s.putWord die pa w).sks = s.sks  := rfl
@[simp] theorem State.putWord_gw : (s.putWord die pa w).gw = s.gw  := rfl
@[simp] theorem State.putWord_follow : (s.putWord die pa w).follow = s.follow  := rfl
@[simp] theorem State.putWord_switchTo : (s.putWord die pa w).switchTo = s.switchTo  := rfl
@[simp] theorem State.putWord_headLost : (s.putWord die pa w).headLost = s.headLost  := rfl
@[simp] theorem State.putWord_ctxs : (s.putWord die pa w).ctxs = s.ctxs  := rfl
@[simp] theorem State.putWord_engines : (s.putWord die pa w).engines = s.engines  := rfl
@[simp] theorem State.putWord_lands : (s.putWord die pa w).lands = s.lands  := rfl
@[simp] theorem State.putWord_landing : (s.putWord die pa w).landing = s.landing  := rfl
@[simp] theorem State.putWord_lio : (s.putWord die pa w).lio = s.lio  := rfl
@[simp] theorem State.putWord_rxProv : (s.putWord die pa w).rxProv = s.rxProv  := rfl
@[simp] theorem State.putWord_cfg : (s.putWord die pa w).cfg = s.cfg  := rfl
@[simp] theorem State.putWord_cab : (s.putWord die pa w).cab = s.cab  := rfl
@[simp] theorem State.putWord_cores : (s.putWord die pa w).cores = s.cores  := rfl
@[simp] theorem State.putWord_dbg : (s.putWord die pa w).dbg = s.dbg  := rfl
@[simp] theorem State.putWord_insts : (s.putWord die pa w).insts = s.insts  := rfl
@[simp] theorem State.putWord_dup : (s.putWord die pa w).dup = s.dup  := rfl
@[simp] theorem State.putWord_fm : (s.putWord die pa w).fm = s.fm  := rfl
@[simp] theorem State.putWord_rst : (s.putWord die pa w).rst = s.rst  := rfl
@[simp] theorem State.putWord_pending : (s.putWord die pa w).pending = s.pending  := rfl
@[simp] theorem State.putWord_reg (rq : Reg) : (s.putWord die pa w).reg rq = s.reg rq  := rfl
@[simp] theorem State.putWord_rf (g : Fld) (y z u : Nat) : (s.putWord die pa w).rf g y z u = s.rf g y z u  := rfl
@[simp] theorem State.putWord_rb (g : Fld) (y z u : Nat) : (s.putWord die pa w).rb g y z u = s.rb g y z u  := rfl
@[simp] theorem State.putWord_rw (g : RegName) (y z u : Nat) : (s.putWord die pa w).rw g y z u = s.rw g y z u  := rfl
@[simp] theorem State.putWord_island (y z : Nat) : (s.putWord die pa w).island y z = s.island y z  := rfl
@[simp] theorem State.putWord_chan (y : Nat) : (s.putWord die pa w).chan y = s.chan y  := rfl
@[simp] theorem State.putWord_evt (y z u : Nat) : (s.putWord die pa w).evt y z u = s.evt y z u  := rfl
@[simp] theorem State.putWord_dioCell (y z : Nat) : (s.putWord die pa w).dioCell y z = s.dioCell y z  := rfl
@[simp] theorem State.putWord_bm (y z u : Nat) : (s.putWord die pa w).bm y z u = s.bm y z u  := rfl
@[simp] theorem State.putWord_bank (y z : Nat) : (s.putWord die pa w).bank y z = s.bank y z  := rfl
@[simp] theorem State.putWord_ixp (y z : Nat) : (s.putWord die pa w).ixp y z = s.ixp y z  := rfl
@[simp] theorem State.putWord_dram (y : Nat) : (s.putWord die pa w).dram y = s.dram y  := rfl
@[simp] theorem State.putWord_lane (y : Nat) : (s.putWord die pa w).lane y = s.lane y  := rfl
@[simp] theorem State.putWord_mac (y : Nat) : (s.putWord die pa w).mac y = s.mac y  := rfl
@[simp] theorem State.putWord_sl (y : Nat) : (s.putWord die pa w).sl y = s.sl y  := rfl
@[simp] theorem State.putWord_sc (y : Nat) : (s.putWord die pa w).sc y = s.sc y  := rfl
@[simp] theorem State.putWord_fwd (y : Nat) : (s.putWord die pa w).fwd y = s.fwd y  := rfl
@[simp] theorem State.putWord_ctx (y z u : Nat) : (s.putWord die pa w).ctx y z u = s.ctx y z u  := rfl
@[simp] theorem State.putWord_land (y z : Nat) : (s.putWord die pa w).land y z = s.land y z  := rfl
@[simp] theorem State.putWord_inst (y : Nat) : (s.putWord die pa w).inst y = s.inst y  := rfl
@[simp] theorem State.putWord_core (y z : Nat) : (s.putWord die pa w).core y z = s.core y z  := rfl
@[simp] theorem State.putWord_ring (y : Nat) : (s.putWord die pa w).ring y = s.ring y  := rfl
@[simp] theorem State.putWord_pin (y : Nat) : (s.putWord die pa w).pin y = s.pin y  := rfl
@[simp] theorem State.putWord_tile (y : Nat) : (s.putWord die pa w).tile y = s.tile y  := rfl
end

section
variable (s : State) (die : Nat) (a : Arr) (q : List WbEnt)
@[simp] theorem State.setWbq_regs : (s.setWbq die a q).regs = s.regs  := rfl
@[simp] theorem State.setWbq_freeCtr : (s.setWbq die a q).freeCtr = s.freeCtr  := rfl
@[simp] theorem State.setWbq_mem : (s.setWbq die a q).mem = s.mem  := rfl
@[simp] theorem State.setWbq_latch : (s.setWbq die a q).latch = s.latch  := rfl
@[simp] theorem State.setWbq_faultLine : (s.setWbq die a q).faultLine = s.faultLine  := rfl
@[simp] theorem State.setWbq_isl : (s.setWbq die a q).isl = s.isl  := rfl
@[simp] theorem State.setWbq_chans : (s.setWbq die a q).chans = s.chans  := rfl
@[simp] theorem State.setWbq_evts : (s.setWbq die a q).evts = s.evts  := rfl
@[simp] theorem State.setWbq_dio : (s.setWbq die a q).dio = s.dio  := rfl
@[simp] theorem State.setWbq_bms : (s.setWbq die a q).bms = s.bms  := rfl
@[simp] theorem State.setWbq_banks : (s.setWbq die a q).banks = s.banks  := rfl
@[simp] theorem State.setWbq_inFlight : (s.setWbq die a q).inFlight = s.inFlight  := rfl
@[simp] theorem State.setWbq_outst : (s.setWbq die a q).outst = s.outst  := rfl
@[simp] theorem State.setWbq_resps : (s.setWbq die a q).resps = s.resps  := rfl
@[simp] theorem State.setWbq_stopPart : (s.setWbq die a q).stopPart = s.stopPart  := rfl
@[simp] theorem State.setWbq_stopWait : (s.setWbq die a q).stopWait = s.stopWait  := rfl
@[simp] theorem State.setWbq_stopOut : (s.setWbq die a q).stopOut = s.stopOut  := rfl
@[simp] theorem State.setWbq_mailbox : (s.setWbq die a q).mailbox = s.mailbox  := rfl
@[simp] theorem State.setWbq_lostPairs : (s.setWbq die a q).lostPairs = s.lostPairs  := rfl
@[simp] theorem State.setWbq_net : (s.setWbq die a q).net = s.net  := rfl
@[simp] theorem State.setWbq_shadows : (s.setWbq die a q).shadows = s.shadows  := rfl
@[simp] theorem State.setWbq_ix : (s.setWbq die a q).ix = s.ix  := rfl
@[simp] theorem State.setWbq_credits : (s.setWbq die a q).credits = s.credits  := rfl
@[simp] theorem State.setWbq_drams : (s.setWbq die a q).drams = s.drams  := rfl
@[simp] theorem State.setWbq_lanes : (s.setWbq die a q).lanes = s.lanes  := rfl
@[simp] theorem State.setWbq_macs : (s.setWbq die a q).macs = s.macs  := rfl
@[simp] theorem State.setWbq_macLatFuse : (s.setWbq die a q).macLatFuse = s.macLatFuse  := rfl
@[simp] theorem State.setWbq_links : (s.setWbq die a q).links = s.links  := rfl
@[simp] theorem State.setWbq_pcs : (s.setWbq die a q).pcs = s.pcs  := rfl
@[simp] theorem State.setWbq_scs : (s.setWbq die a q).scs = s.scs  := rfl
@[simp] theorem State.setWbq_fwds : (s.setWbq die a q).fwds = s.fwds  := rfl
@[simp] theorem State.setWbq_sks : (s.setWbq die a q).sks = s.sks  := rfl
@[simp] theorem State.setWbq_gw : (s.setWbq die a q).gw = s.gw  := rfl
@[simp] theorem State.setWbq_follow : (s.setWbq die a q).follow = s.follow  := rfl
@[simp] theorem State.setWbq_switchTo : (s.setWbq die a q).switchTo = s.switchTo  := rfl
@[simp] theorem State.setWbq_headLost : (s.setWbq die a q).headLost = s.headLost  := rfl
@[simp] theorem State.setWbq_ctxs : (s.setWbq die a q).ctxs = s.ctxs  := rfl
@[simp] theorem State.setWbq_engines : (s.setWbq die a q).engines = s.engines  := rfl
@[simp] theorem State.setWbq_lands : (s.setWbq die a q).lands = s.lands  := rfl
@[simp] theorem State.setWbq_landing : (s.setWbq die a q).landing = s.landing  := rfl
@[simp] theorem State.setWbq_lio : (s.setWbq die a q).lio = s.lio  := rfl
@[simp] theorem State.setWbq_rxProv : (s.setWbq die a q).rxProv = s.rxProv  := rfl
@[simp] theorem State.setWbq_cfg : (s.setWbq die a q).cfg = s.cfg  := rfl
@[simp] theorem State.setWbq_cab : (s.setWbq die a q).cab = s.cab  := rfl
@[simp] theorem State.setWbq_cores : (s.setWbq die a q).cores = s.cores  := rfl
@[simp] theorem State.setWbq_dbg : (s.setWbq die a q).dbg = s.dbg  := rfl
@[simp] theorem State.setWbq_insts : (s.setWbq die a q).insts = s.insts  := rfl
@[simp] theorem State.setWbq_dup : (s.setWbq die a q).dup = s.dup  := rfl
@[simp] theorem State.setWbq_fm : (s.setWbq die a q).fm = s.fm  := rfl
@[simp] theorem State.setWbq_rst : (s.setWbq die a q).rst = s.rst  := rfl
@[simp] theorem State.setWbq_pending : (s.setWbq die a q).pending = s.pending  := rfl
@[simp] theorem State.setWbq_reg (rq : Reg) : (s.setWbq die a q).reg rq = s.reg rq  := rfl
@[simp] theorem State.setWbq_rf (g : Fld) (y z u : Nat) : (s.setWbq die a q).rf g y z u = s.rf g y z u  := rfl
@[simp] theorem State.setWbq_rb (g : Fld) (y z u : Nat) : (s.setWbq die a q).rb g y z u = s.rb g y z u  := rfl
@[simp] theorem State.setWbq_rw (g : RegName) (y z u : Nat) : (s.setWbq die a q).rw g y z u = s.rw g y z u  := rfl
@[simp] theorem State.setWbq_cell (y z : Nat) : (s.setWbq die a q).cell y z = s.cell y z  := rfl
@[simp] theorem State.setWbq_island (y z : Nat) : (s.setWbq die a q).island y z = s.island y z  := rfl
@[simp] theorem State.setWbq_chan (y : Nat) : (s.setWbq die a q).chan y = s.chan y  := rfl
@[simp] theorem State.setWbq_evt (y z u : Nat) : (s.setWbq die a q).evt y z u = s.evt y z u  := rfl
@[simp] theorem State.setWbq_dioCell (y z : Nat) : (s.setWbq die a q).dioCell y z = s.dioCell y z  := rfl
@[simp] theorem State.setWbq_bm (y z u : Nat) : (s.setWbq die a q).bm y z u = s.bm y z u  := rfl
@[simp] theorem State.setWbq_bank (y z : Nat) : (s.setWbq die a q).bank y z = s.bank y z  := rfl
@[simp] theorem State.setWbq_ixp (y z : Nat) : (s.setWbq die a q).ixp y z = s.ixp y z  := rfl
@[simp] theorem State.setWbq_dram (y : Nat) : (s.setWbq die a q).dram y = s.dram y  := rfl
@[simp] theorem State.setWbq_lane (y : Nat) : (s.setWbq die a q).lane y = s.lane y  := rfl
@[simp] theorem State.setWbq_mac (y : Nat) : (s.setWbq die a q).mac y = s.mac y  := rfl
@[simp] theorem State.setWbq_sl (y : Nat) : (s.setWbq die a q).sl y = s.sl y  := rfl
@[simp] theorem State.setWbq_sc (y : Nat) : (s.setWbq die a q).sc y = s.sc y  := rfl
@[simp] theorem State.setWbq_fwd (y : Nat) : (s.setWbq die a q).fwd y = s.fwd y  := rfl
@[simp] theorem State.setWbq_ctx (y z u : Nat) : (s.setWbq die a q).ctx y z u = s.ctx y z u  := rfl
@[simp] theorem State.setWbq_land (y z : Nat) : (s.setWbq die a q).land y z = s.land y z  := rfl
@[simp] theorem State.setWbq_inst (y : Nat) : (s.setWbq die a q).inst y = s.inst y  := rfl
@[simp] theorem State.setWbq_core (y z : Nat) : (s.setWbq die a q).core y z = s.core y z  := rfl
@[simp] theorem State.setWbq_ring (y : Nat) : (s.setWbq die a q).ring y = s.ring y  := rfl
@[simp] theorem State.setWbq_pin (y : Nat) : (s.setWbq die a q).pin y = s.pin y  := rfl
@[simp] theorem State.setWbq_tile (y : Nat) : (s.setWbq die a q).tile y = s.tile y  := rfl
end

section
variable (s : State) (e : FaultEv)
@[simp] theorem State.raiseEv_regs : (s.raiseEv e).regs = s.regs  := rfl
@[simp] theorem State.raiseEv_freeCtr : (s.raiseEv e).freeCtr = s.freeCtr  := rfl
@[simp] theorem State.raiseEv_mem : (s.raiseEv e).mem = s.mem  := rfl
@[simp] theorem State.raiseEv_wb : (s.raiseEv e).wb = s.wb  := rfl
@[simp] theorem State.raiseEv_latch : (s.raiseEv e).latch = s.latch  := rfl
@[simp] theorem State.raiseEv_isl : (s.raiseEv e).isl = s.isl  := rfl
@[simp] theorem State.raiseEv_chans : (s.raiseEv e).chans = s.chans  := rfl
@[simp] theorem State.raiseEv_evts : (s.raiseEv e).evts = s.evts  := rfl
@[simp] theorem State.raiseEv_dio : (s.raiseEv e).dio = s.dio  := rfl
@[simp] theorem State.raiseEv_bms : (s.raiseEv e).bms = s.bms  := rfl
@[simp] theorem State.raiseEv_banks : (s.raiseEv e).banks = s.banks  := rfl
@[simp] theorem State.raiseEv_inFlight : (s.raiseEv e).inFlight = s.inFlight  := rfl
@[simp] theorem State.raiseEv_outst : (s.raiseEv e).outst = s.outst  := rfl
@[simp] theorem State.raiseEv_resps : (s.raiseEv e).resps = s.resps  := rfl
@[simp] theorem State.raiseEv_stopPart : (s.raiseEv e).stopPart = s.stopPart  := rfl
@[simp] theorem State.raiseEv_stopWait : (s.raiseEv e).stopWait = s.stopWait  := rfl
@[simp] theorem State.raiseEv_stopOut : (s.raiseEv e).stopOut = s.stopOut  := rfl
@[simp] theorem State.raiseEv_mailbox : (s.raiseEv e).mailbox = s.mailbox  := rfl
@[simp] theorem State.raiseEv_lostPairs : (s.raiseEv e).lostPairs = s.lostPairs  := rfl
@[simp] theorem State.raiseEv_net : (s.raiseEv e).net = s.net  := rfl
@[simp] theorem State.raiseEv_shadows : (s.raiseEv e).shadows = s.shadows  := rfl
@[simp] theorem State.raiseEv_ix : (s.raiseEv e).ix = s.ix  := rfl
@[simp] theorem State.raiseEv_credits : (s.raiseEv e).credits = s.credits  := rfl
@[simp] theorem State.raiseEv_drams : (s.raiseEv e).drams = s.drams  := rfl
@[simp] theorem State.raiseEv_lanes : (s.raiseEv e).lanes = s.lanes  := rfl
@[simp] theorem State.raiseEv_macs : (s.raiseEv e).macs = s.macs  := rfl
@[simp] theorem State.raiseEv_macLatFuse : (s.raiseEv e).macLatFuse = s.macLatFuse  := rfl
@[simp] theorem State.raiseEv_links : (s.raiseEv e).links = s.links  := rfl
@[simp] theorem State.raiseEv_pcs : (s.raiseEv e).pcs = s.pcs  := rfl
@[simp] theorem State.raiseEv_scs : (s.raiseEv e).scs = s.scs  := rfl
@[simp] theorem State.raiseEv_fwds : (s.raiseEv e).fwds = s.fwds  := rfl
@[simp] theorem State.raiseEv_sks : (s.raiseEv e).sks = s.sks  := rfl
@[simp] theorem State.raiseEv_gw : (s.raiseEv e).gw = s.gw  := rfl
@[simp] theorem State.raiseEv_follow : (s.raiseEv e).follow = s.follow  := rfl
@[simp] theorem State.raiseEv_switchTo : (s.raiseEv e).switchTo = s.switchTo  := rfl
@[simp] theorem State.raiseEv_headLost : (s.raiseEv e).headLost = s.headLost  := rfl
@[simp] theorem State.raiseEv_ctxs : (s.raiseEv e).ctxs = s.ctxs  := rfl
@[simp] theorem State.raiseEv_engines : (s.raiseEv e).engines = s.engines  := rfl
@[simp] theorem State.raiseEv_lands : (s.raiseEv e).lands = s.lands  := rfl
@[simp] theorem State.raiseEv_landing : (s.raiseEv e).landing = s.landing  := rfl
@[simp] theorem State.raiseEv_lio : (s.raiseEv e).lio = s.lio  := rfl
@[simp] theorem State.raiseEv_rxProv : (s.raiseEv e).rxProv = s.rxProv  := rfl
@[simp] theorem State.raiseEv_cfg : (s.raiseEv e).cfg = s.cfg  := rfl
@[simp] theorem State.raiseEv_cab : (s.raiseEv e).cab = s.cab  := rfl
@[simp] theorem State.raiseEv_cores : (s.raiseEv e).cores = s.cores  := rfl
@[simp] theorem State.raiseEv_dbg : (s.raiseEv e).dbg = s.dbg  := rfl
@[simp] theorem State.raiseEv_insts : (s.raiseEv e).insts = s.insts  := rfl
@[simp] theorem State.raiseEv_dup : (s.raiseEv e).dup = s.dup  := rfl
@[simp] theorem State.raiseEv_fm : (s.raiseEv e).fm = s.fm  := rfl
@[simp] theorem State.raiseEv_rst : (s.raiseEv e).rst = s.rst  := rfl
@[simp] theorem State.raiseEv_pending : (s.raiseEv e).pending = s.pending  := rfl
@[simp] theorem State.raiseEv_reg (rq : Reg) : (s.raiseEv e).reg rq = s.reg rq  := rfl
@[simp] theorem State.raiseEv_rf (g : Fld) (y z u : Nat) : (s.raiseEv e).rf g y z u = s.rf g y z u  := rfl
@[simp] theorem State.raiseEv_rb (g : Fld) (y z u : Nat) : (s.raiseEv e).rb g y z u = s.rb g y z u  := rfl
@[simp] theorem State.raiseEv_rw (g : RegName) (y z u : Nat) : (s.raiseEv e).rw g y z u = s.rw g y z u  := rfl
@[simp] theorem State.raiseEv_cell (y z : Nat) : (s.raiseEv e).cell y z = s.cell y z  := rfl
@[simp] theorem State.raiseEv_island (y z : Nat) : (s.raiseEv e).island y z = s.island y z  := rfl
@[simp] theorem State.raiseEv_chan (y : Nat) : (s.raiseEv e).chan y = s.chan y  := rfl
@[simp] theorem State.raiseEv_evt (y z u : Nat) : (s.raiseEv e).evt y z u = s.evt y z u  := rfl
@[simp] theorem State.raiseEv_dioCell (y z : Nat) : (s.raiseEv e).dioCell y z = s.dioCell y z  := rfl
@[simp] theorem State.raiseEv_bm (y z u : Nat) : (s.raiseEv e).bm y z u = s.bm y z u  := rfl
@[simp] theorem State.raiseEv_bank (y z : Nat) : (s.raiseEv e).bank y z = s.bank y z  := rfl
@[simp] theorem State.raiseEv_ixp (y z : Nat) : (s.raiseEv e).ixp y z = s.ixp y z  := rfl
@[simp] theorem State.raiseEv_dram (y : Nat) : (s.raiseEv e).dram y = s.dram y  := rfl
@[simp] theorem State.raiseEv_lane (y : Nat) : (s.raiseEv e).lane y = s.lane y  := rfl
@[simp] theorem State.raiseEv_mac (y : Nat) : (s.raiseEv e).mac y = s.mac y  := rfl
@[simp] theorem State.raiseEv_sl (y : Nat) : (s.raiseEv e).sl y = s.sl y  := rfl
@[simp] theorem State.raiseEv_sc (y : Nat) : (s.raiseEv e).sc y = s.sc y  := rfl
@[simp] theorem State.raiseEv_fwd (y : Nat) : (s.raiseEv e).fwd y = s.fwd y  := rfl
@[simp] theorem State.raiseEv_ctx (y z u : Nat) : (s.raiseEv e).ctx y z u = s.ctx y z u  := rfl
@[simp] theorem State.raiseEv_land (y z : Nat) : (s.raiseEv e).land y z = s.land y z  := rfl
@[simp] theorem State.raiseEv_inst (y : Nat) : (s.raiseEv e).inst y = s.inst y  := rfl
@[simp] theorem State.raiseEv_core (y z : Nat) : (s.raiseEv e).core y z = s.core y z  := rfl
@[simp] theorem State.raiseEv_ring (y : Nat) : (s.raiseEv e).ring y = s.ring y  := rfl
@[simp] theorem State.raiseEv_pin (y : Nat) : (s.raiseEv e).pin y = s.pin y  := rfl
@[simp] theorem State.raiseEv_tile (y : Nat) : (s.raiseEv e).tile y = s.tile y  := rfl
end

section
variable (s : State) (src : FaultSrc) (die unit detail : Nat)
@[simp] theorem State.raise_regs : (s.raise src die unit detail).regs = s.regs  := rfl
@[simp] theorem State.raise_freeCtr : (s.raise src die unit detail).freeCtr = s.freeCtr  := rfl
@[simp] theorem State.raise_mem : (s.raise src die unit detail).mem = s.mem  := rfl
@[simp] theorem State.raise_wb : (s.raise src die unit detail).wb = s.wb  := rfl
@[simp] theorem State.raise_latch : (s.raise src die unit detail).latch = s.latch  := rfl
@[simp] theorem State.raise_isl : (s.raise src die unit detail).isl = s.isl  := rfl
@[simp] theorem State.raise_chans : (s.raise src die unit detail).chans = s.chans  := rfl
@[simp] theorem State.raise_evts : (s.raise src die unit detail).evts = s.evts  := rfl
@[simp] theorem State.raise_dio : (s.raise src die unit detail).dio = s.dio  := rfl
@[simp] theorem State.raise_bms : (s.raise src die unit detail).bms = s.bms  := rfl
@[simp] theorem State.raise_banks : (s.raise src die unit detail).banks = s.banks  := rfl
@[simp] theorem State.raise_inFlight : (s.raise src die unit detail).inFlight = s.inFlight  := rfl
@[simp] theorem State.raise_outst : (s.raise src die unit detail).outst = s.outst  := rfl
@[simp] theorem State.raise_resps : (s.raise src die unit detail).resps = s.resps  := rfl
@[simp] theorem State.raise_stopPart : (s.raise src die unit detail).stopPart = s.stopPart  := rfl
@[simp] theorem State.raise_stopWait : (s.raise src die unit detail).stopWait = s.stopWait  := rfl
@[simp] theorem State.raise_stopOut : (s.raise src die unit detail).stopOut = s.stopOut  := rfl
@[simp] theorem State.raise_mailbox : (s.raise src die unit detail).mailbox = s.mailbox  := rfl
@[simp] theorem State.raise_lostPairs : (s.raise src die unit detail).lostPairs = s.lostPairs  := rfl
@[simp] theorem State.raise_net : (s.raise src die unit detail).net = s.net  := rfl
@[simp] theorem State.raise_shadows : (s.raise src die unit detail).shadows = s.shadows  := rfl
@[simp] theorem State.raise_ix : (s.raise src die unit detail).ix = s.ix  := rfl
@[simp] theorem State.raise_credits : (s.raise src die unit detail).credits = s.credits  := rfl
@[simp] theorem State.raise_drams : (s.raise src die unit detail).drams = s.drams  := rfl
@[simp] theorem State.raise_lanes : (s.raise src die unit detail).lanes = s.lanes  := rfl
@[simp] theorem State.raise_macs : (s.raise src die unit detail).macs = s.macs  := rfl
@[simp] theorem State.raise_macLatFuse : (s.raise src die unit detail).macLatFuse = s.macLatFuse  := rfl
@[simp] theorem State.raise_links : (s.raise src die unit detail).links = s.links  := rfl
@[simp] theorem State.raise_pcs : (s.raise src die unit detail).pcs = s.pcs  := rfl
@[simp] theorem State.raise_scs : (s.raise src die unit detail).scs = s.scs  := rfl
@[simp] theorem State.raise_fwds : (s.raise src die unit detail).fwds = s.fwds  := rfl
@[simp] theorem State.raise_sks : (s.raise src die unit detail).sks = s.sks  := rfl
@[simp] theorem State.raise_gw : (s.raise src die unit detail).gw = s.gw  := rfl
@[simp] theorem State.raise_follow : (s.raise src die unit detail).follow = s.follow  := rfl
@[simp] theorem State.raise_switchTo : (s.raise src die unit detail).switchTo = s.switchTo  := rfl
@[simp] theorem State.raise_headLost : (s.raise src die unit detail).headLost = s.headLost  := rfl
@[simp] theorem State.raise_ctxs : (s.raise src die unit detail).ctxs = s.ctxs  := rfl
@[simp] theorem State.raise_engines : (s.raise src die unit detail).engines = s.engines  := rfl
@[simp] theorem State.raise_lands : (s.raise src die unit detail).lands = s.lands  := rfl
@[simp] theorem State.raise_landing : (s.raise src die unit detail).landing = s.landing  := rfl
@[simp] theorem State.raise_lio : (s.raise src die unit detail).lio = s.lio  := rfl
@[simp] theorem State.raise_rxProv : (s.raise src die unit detail).rxProv = s.rxProv  := rfl
@[simp] theorem State.raise_cfg : (s.raise src die unit detail).cfg = s.cfg  := rfl
@[simp] theorem State.raise_cab : (s.raise src die unit detail).cab = s.cab  := rfl
@[simp] theorem State.raise_cores : (s.raise src die unit detail).cores = s.cores  := rfl
@[simp] theorem State.raise_dbg : (s.raise src die unit detail).dbg = s.dbg  := rfl
@[simp] theorem State.raise_insts : (s.raise src die unit detail).insts = s.insts  := rfl
@[simp] theorem State.raise_dup : (s.raise src die unit detail).dup = s.dup  := rfl
@[simp] theorem State.raise_fm : (s.raise src die unit detail).fm = s.fm  := rfl
@[simp] theorem State.raise_rst : (s.raise src die unit detail).rst = s.rst  := rfl
@[simp] theorem State.raise_pending : (s.raise src die unit detail).pending = s.pending  := rfl
@[simp] theorem State.raise_reg (rq : Reg) : (s.raise src die unit detail).reg rq = s.reg rq  := rfl
@[simp] theorem State.raise_rf (g : Fld) (y z u : Nat) : (s.raise src die unit detail).rf g y z u = s.rf g y z u  := rfl
@[simp] theorem State.raise_rb (g : Fld) (y z u : Nat) : (s.raise src die unit detail).rb g y z u = s.rb g y z u  := rfl
@[simp] theorem State.raise_rw (g : RegName) (y z u : Nat) : (s.raise src die unit detail).rw g y z u = s.rw g y z u  := rfl
@[simp] theorem State.raise_cell (y z : Nat) : (s.raise src die unit detail).cell y z = s.cell y z  := rfl
@[simp] theorem State.raise_island (y z : Nat) : (s.raise src die unit detail).island y z = s.island y z  := rfl
@[simp] theorem State.raise_chan (y : Nat) : (s.raise src die unit detail).chan y = s.chan y  := rfl
@[simp] theorem State.raise_evt (y z u : Nat) : (s.raise src die unit detail).evt y z u = s.evt y z u  := rfl
@[simp] theorem State.raise_dioCell (y z : Nat) : (s.raise src die unit detail).dioCell y z = s.dioCell y z  := rfl
@[simp] theorem State.raise_bm (y z u : Nat) : (s.raise src die unit detail).bm y z u = s.bm y z u  := rfl
@[simp] theorem State.raise_bank (y z : Nat) : (s.raise src die unit detail).bank y z = s.bank y z  := rfl
@[simp] theorem State.raise_ixp (y z : Nat) : (s.raise src die unit detail).ixp y z = s.ixp y z  := rfl
@[simp] theorem State.raise_dram (y : Nat) : (s.raise src die unit detail).dram y = s.dram y  := rfl
@[simp] theorem State.raise_lane (y : Nat) : (s.raise src die unit detail).lane y = s.lane y  := rfl
@[simp] theorem State.raise_mac (y : Nat) : (s.raise src die unit detail).mac y = s.mac y  := rfl
@[simp] theorem State.raise_sl (y : Nat) : (s.raise src die unit detail).sl y = s.sl y  := rfl
@[simp] theorem State.raise_sc (y : Nat) : (s.raise src die unit detail).sc y = s.sc y  := rfl
@[simp] theorem State.raise_fwd (y : Nat) : (s.raise src die unit detail).fwd y = s.fwd y  := rfl
@[simp] theorem State.raise_ctx (y z u : Nat) : (s.raise src die unit detail).ctx y z u = s.ctx y z u  := rfl
@[simp] theorem State.raise_land (y z : Nat) : (s.raise src die unit detail).land y z = s.land y z  := rfl
@[simp] theorem State.raise_inst (y : Nat) : (s.raise src die unit detail).inst y = s.inst y  := rfl
@[simp] theorem State.raise_core (y z : Nat) : (s.raise src die unit detail).core y z = s.core y z  := rfl
@[simp] theorem State.raise_ring (y : Nat) : (s.raise src die unit detail).ring y = s.ring y  := rfl
@[simp] theorem State.raise_pin (y : Nat) : (s.raise src die unit detail).pin y = s.pin y  := rfl
@[simp] theorem State.raise_tile (y : Nat) : (s.raise src die unit detail).tile y = s.tile y  := rfl
end

section
variable (s : State) (die m addr : Nat) (ws : List TWord)
@[simp] theorem State.post_regs : (s.post die m addr ws).regs = s.regs  := rfl
@[simp] theorem State.post_freeCtr : (s.post die m addr ws).freeCtr = s.freeCtr  := rfl
@[simp] theorem State.post_mem : (s.post die m addr ws).mem = s.mem  := rfl
@[simp] theorem State.post_wb : (s.post die m addr ws).wb = s.wb  := rfl
@[simp] theorem State.post_latch : (s.post die m addr ws).latch = s.latch  := rfl
@[simp] theorem State.post_faultLine : (s.post die m addr ws).faultLine = s.faultLine  := rfl
@[simp] theorem State.post_isl : (s.post die m addr ws).isl = s.isl  := rfl
@[simp] theorem State.post_chans : (s.post die m addr ws).chans = s.chans  := rfl
@[simp] theorem State.post_evts : (s.post die m addr ws).evts = s.evts  := rfl
@[simp] theorem State.post_dio : (s.post die m addr ws).dio = s.dio  := rfl
@[simp] theorem State.post_bms : (s.post die m addr ws).bms = s.bms  := rfl
@[simp] theorem State.post_banks : (s.post die m addr ws).banks = s.banks  := rfl
@[simp] theorem State.post_outst : (s.post die m addr ws).outst = s.outst  := rfl
@[simp] theorem State.post_resps : (s.post die m addr ws).resps = s.resps  := rfl
@[simp] theorem State.post_stopPart : (s.post die m addr ws).stopPart = s.stopPart  := rfl
@[simp] theorem State.post_stopWait : (s.post die m addr ws).stopWait = s.stopWait  := rfl
@[simp] theorem State.post_stopOut : (s.post die m addr ws).stopOut = s.stopOut  := rfl
@[simp] theorem State.post_mailbox : (s.post die m addr ws).mailbox = s.mailbox  := rfl
@[simp] theorem State.post_lostPairs : (s.post die m addr ws).lostPairs = s.lostPairs  := rfl
@[simp] theorem State.post_shadows : (s.post die m addr ws).shadows = s.shadows  := rfl
@[simp] theorem State.post_ix : (s.post die m addr ws).ix = s.ix  := rfl
@[simp] theorem State.post_credits : (s.post die m addr ws).credits = s.credits  := rfl
@[simp] theorem State.post_drams : (s.post die m addr ws).drams = s.drams  := rfl
@[simp] theorem State.post_lanes : (s.post die m addr ws).lanes = s.lanes  := rfl
@[simp] theorem State.post_macs : (s.post die m addr ws).macs = s.macs  := rfl
@[simp] theorem State.post_macLatFuse : (s.post die m addr ws).macLatFuse = s.macLatFuse  := rfl
@[simp] theorem State.post_links : (s.post die m addr ws).links = s.links  := rfl
@[simp] theorem State.post_pcs : (s.post die m addr ws).pcs = s.pcs  := rfl
@[simp] theorem State.post_scs : (s.post die m addr ws).scs = s.scs  := rfl
@[simp] theorem State.post_fwds : (s.post die m addr ws).fwds = s.fwds  := rfl
@[simp] theorem State.post_sks : (s.post die m addr ws).sks = s.sks  := rfl
@[simp] theorem State.post_gw : (s.post die m addr ws).gw = s.gw  := rfl
@[simp] theorem State.post_follow : (s.post die m addr ws).follow = s.follow  := rfl
@[simp] theorem State.post_switchTo : (s.post die m addr ws).switchTo = s.switchTo  := rfl
@[simp] theorem State.post_headLost : (s.post die m addr ws).headLost = s.headLost  := rfl
@[simp] theorem State.post_ctxs : (s.post die m addr ws).ctxs = s.ctxs  := rfl
@[simp] theorem State.post_engines : (s.post die m addr ws).engines = s.engines  := rfl
@[simp] theorem State.post_lands : (s.post die m addr ws).lands = s.lands  := rfl
@[simp] theorem State.post_landing : (s.post die m addr ws).landing = s.landing  := rfl
@[simp] theorem State.post_lio : (s.post die m addr ws).lio = s.lio  := rfl
@[simp] theorem State.post_rxProv : (s.post die m addr ws).rxProv = s.rxProv  := rfl
@[simp] theorem State.post_cfg : (s.post die m addr ws).cfg = s.cfg  := rfl
@[simp] theorem State.post_cab : (s.post die m addr ws).cab = s.cab  := rfl
@[simp] theorem State.post_cores : (s.post die m addr ws).cores = s.cores  := rfl
@[simp] theorem State.post_dbg : (s.post die m addr ws).dbg = s.dbg  := rfl
@[simp] theorem State.post_insts : (s.post die m addr ws).insts = s.insts  := rfl
@[simp] theorem State.post_dup : (s.post die m addr ws).dup = s.dup  := rfl
@[simp] theorem State.post_fm : (s.post die m addr ws).fm = s.fm  := rfl
@[simp] theorem State.post_rst : (s.post die m addr ws).rst = s.rst  := rfl
@[simp] theorem State.post_pending : (s.post die m addr ws).pending = s.pending  := rfl
@[simp] theorem State.post_reg (rq : Reg) : (s.post die m addr ws).reg rq = s.reg rq  := rfl
@[simp] theorem State.post_rf (g : Fld) (y z u : Nat) : (s.post die m addr ws).rf g y z u = s.rf g y z u  := rfl
@[simp] theorem State.post_rb (g : Fld) (y z u : Nat) : (s.post die m addr ws).rb g y z u = s.rb g y z u  := rfl
@[simp] theorem State.post_rw (g : RegName) (y z u : Nat) : (s.post die m addr ws).rw g y z u = s.rw g y z u  := rfl
@[simp] theorem State.post_cell (y z : Nat) : (s.post die m addr ws).cell y z = s.cell y z  := rfl
@[simp] theorem State.post_island (y z : Nat) : (s.post die m addr ws).island y z = s.island y z  := rfl
@[simp] theorem State.post_chan (y : Nat) : (s.post die m addr ws).chan y = s.chan y  := rfl
@[simp] theorem State.post_evt (y z u : Nat) : (s.post die m addr ws).evt y z u = s.evt y z u  := rfl
@[simp] theorem State.post_dioCell (y z : Nat) : (s.post die m addr ws).dioCell y z = s.dioCell y z  := rfl
@[simp] theorem State.post_bm (y z u : Nat) : (s.post die m addr ws).bm y z u = s.bm y z u  := rfl
@[simp] theorem State.post_bank (y z : Nat) : (s.post die m addr ws).bank y z = s.bank y z  := rfl
@[simp] theorem State.post_ixp (y z : Nat) : (s.post die m addr ws).ixp y z = s.ixp y z  := rfl
@[simp] theorem State.post_dram (y : Nat) : (s.post die m addr ws).dram y = s.dram y  := rfl
@[simp] theorem State.post_lane (y : Nat) : (s.post die m addr ws).lane y = s.lane y  := rfl
@[simp] theorem State.post_mac (y : Nat) : (s.post die m addr ws).mac y = s.mac y  := rfl
@[simp] theorem State.post_sl (y : Nat) : (s.post die m addr ws).sl y = s.sl y  := rfl
@[simp] theorem State.post_sc (y : Nat) : (s.post die m addr ws).sc y = s.sc y  := rfl
@[simp] theorem State.post_fwd (y : Nat) : (s.post die m addr ws).fwd y = s.fwd y  := rfl
@[simp] theorem State.post_ctx (y z u : Nat) : (s.post die m addr ws).ctx y z u = s.ctx y z u  := rfl
@[simp] theorem State.post_land (y z : Nat) : (s.post die m addr ws).land y z = s.land y z  := rfl
@[simp] theorem State.post_inst (y : Nat) : (s.post die m addr ws).inst y = s.inst y  := rfl
@[simp] theorem State.post_core (y z : Nat) : (s.post die m addr ws).core y z = s.core y z  := rfl
@[simp] theorem State.post_ring (y : Nat) : (s.post die m addr ws).ring y = s.ring y  := rfl
@[simp] theorem State.post_pin (y : Nat) : (s.post die m addr ws).pin y = s.pin y  := rfl
@[simp] theorem State.post_tile (y : Nat) : (s.post die m addr ws).tile y = s.tile y  := rfl
end

section
variable (s : State) (t : Txn) (st : Nat) (ws : List TWord)
@[simp] theorem State.respond_regs : (s.respond t st ws).regs = s.regs  := rfl
@[simp] theorem State.respond_freeCtr : (s.respond t st ws).freeCtr = s.freeCtr  := rfl
@[simp] theorem State.respond_mem : (s.respond t st ws).mem = s.mem  := rfl
@[simp] theorem State.respond_wb : (s.respond t st ws).wb = s.wb  := rfl
@[simp] theorem State.respond_latch : (s.respond t st ws).latch = s.latch  := rfl
@[simp] theorem State.respond_faultLine : (s.respond t st ws).faultLine = s.faultLine  := rfl
@[simp] theorem State.respond_isl : (s.respond t st ws).isl = s.isl  := rfl
@[simp] theorem State.respond_chans : (s.respond t st ws).chans = s.chans  := rfl
@[simp] theorem State.respond_evts : (s.respond t st ws).evts = s.evts  := rfl
@[simp] theorem State.respond_dio : (s.respond t st ws).dio = s.dio  := rfl
@[simp] theorem State.respond_bms : (s.respond t st ws).bms = s.bms  := rfl
@[simp] theorem State.respond_banks : (s.respond t st ws).banks = s.banks  := rfl
@[simp] theorem State.respond_inFlight : (s.respond t st ws).inFlight = s.inFlight  := rfl
@[simp] theorem State.respond_outst : (s.respond t st ws).outst = s.outst  := rfl
@[simp] theorem State.respond_stopPart : (s.respond t st ws).stopPart = s.stopPart  := rfl
@[simp] theorem State.respond_stopWait : (s.respond t st ws).stopWait = s.stopWait  := rfl
@[simp] theorem State.respond_stopOut : (s.respond t st ws).stopOut = s.stopOut  := rfl
@[simp] theorem State.respond_mailbox : (s.respond t st ws).mailbox = s.mailbox  := rfl
@[simp] theorem State.respond_lostPairs : (s.respond t st ws).lostPairs = s.lostPairs  := rfl
@[simp] theorem State.respond_shadows : (s.respond t st ws).shadows = s.shadows  := rfl
@[simp] theorem State.respond_ix : (s.respond t st ws).ix = s.ix  := rfl
@[simp] theorem State.respond_credits : (s.respond t st ws).credits = s.credits  := rfl
@[simp] theorem State.respond_drams : (s.respond t st ws).drams = s.drams  := rfl
@[simp] theorem State.respond_lanes : (s.respond t st ws).lanes = s.lanes  := rfl
@[simp] theorem State.respond_macs : (s.respond t st ws).macs = s.macs  := rfl
@[simp] theorem State.respond_macLatFuse : (s.respond t st ws).macLatFuse = s.macLatFuse  := rfl
@[simp] theorem State.respond_links : (s.respond t st ws).links = s.links  := rfl
@[simp] theorem State.respond_pcs : (s.respond t st ws).pcs = s.pcs  := rfl
@[simp] theorem State.respond_scs : (s.respond t st ws).scs = s.scs  := rfl
@[simp] theorem State.respond_fwds : (s.respond t st ws).fwds = s.fwds  := rfl
@[simp] theorem State.respond_sks : (s.respond t st ws).sks = s.sks  := rfl
@[simp] theorem State.respond_gw : (s.respond t st ws).gw = s.gw  := rfl
@[simp] theorem State.respond_follow : (s.respond t st ws).follow = s.follow  := rfl
@[simp] theorem State.respond_switchTo : (s.respond t st ws).switchTo = s.switchTo  := rfl
@[simp] theorem State.respond_headLost : (s.respond t st ws).headLost = s.headLost  := rfl
@[simp] theorem State.respond_ctxs : (s.respond t st ws).ctxs = s.ctxs  := rfl
@[simp] theorem State.respond_engines : (s.respond t st ws).engines = s.engines  := rfl
@[simp] theorem State.respond_lands : (s.respond t st ws).lands = s.lands  := rfl
@[simp] theorem State.respond_landing : (s.respond t st ws).landing = s.landing  := rfl
@[simp] theorem State.respond_lio : (s.respond t st ws).lio = s.lio  := rfl
@[simp] theorem State.respond_rxProv : (s.respond t st ws).rxProv = s.rxProv  := rfl
@[simp] theorem State.respond_cfg : (s.respond t st ws).cfg = s.cfg  := rfl
@[simp] theorem State.respond_cab : (s.respond t st ws).cab = s.cab  := rfl
@[simp] theorem State.respond_cores : (s.respond t st ws).cores = s.cores  := rfl
@[simp] theorem State.respond_dbg : (s.respond t st ws).dbg = s.dbg  := rfl
@[simp] theorem State.respond_insts : (s.respond t st ws).insts = s.insts  := rfl
@[simp] theorem State.respond_dup : (s.respond t st ws).dup = s.dup  := rfl
@[simp] theorem State.respond_fm : (s.respond t st ws).fm = s.fm  := rfl
@[simp] theorem State.respond_rst : (s.respond t st ws).rst = s.rst  := rfl
@[simp] theorem State.respond_pending : (s.respond t st ws).pending = s.pending  := rfl
@[simp] theorem State.respond_reg (rq : Reg) : (s.respond t st ws).reg rq = s.reg rq  := rfl
@[simp] theorem State.respond_rf (g : Fld) (y z u : Nat) : (s.respond t st ws).rf g y z u = s.rf g y z u  := rfl
@[simp] theorem State.respond_rb (g : Fld) (y z u : Nat) : (s.respond t st ws).rb g y z u = s.rb g y z u  := rfl
@[simp] theorem State.respond_rw (g : RegName) (y z u : Nat) : (s.respond t st ws).rw g y z u = s.rw g y z u  := rfl
@[simp] theorem State.respond_cell (y z : Nat) : (s.respond t st ws).cell y z = s.cell y z  := rfl
@[simp] theorem State.respond_island (y z : Nat) : (s.respond t st ws).island y z = s.island y z  := rfl
@[simp] theorem State.respond_chan (y : Nat) : (s.respond t st ws).chan y = s.chan y  := rfl
@[simp] theorem State.respond_evt (y z u : Nat) : (s.respond t st ws).evt y z u = s.evt y z u  := rfl
@[simp] theorem State.respond_dioCell (y z : Nat) : (s.respond t st ws).dioCell y z = s.dioCell y z  := rfl
@[simp] theorem State.respond_bm (y z u : Nat) : (s.respond t st ws).bm y z u = s.bm y z u  := rfl
@[simp] theorem State.respond_bank (y z : Nat) : (s.respond t st ws).bank y z = s.bank y z  := rfl
@[simp] theorem State.respond_ixp (y z : Nat) : (s.respond t st ws).ixp y z = s.ixp y z  := rfl
@[simp] theorem State.respond_dram (y : Nat) : (s.respond t st ws).dram y = s.dram y  := rfl
@[simp] theorem State.respond_lane (y : Nat) : (s.respond t st ws).lane y = s.lane y  := rfl
@[simp] theorem State.respond_mac (y : Nat) : (s.respond t st ws).mac y = s.mac y  := rfl
@[simp] theorem State.respond_sl (y : Nat) : (s.respond t st ws).sl y = s.sl y  := rfl
@[simp] theorem State.respond_sc (y : Nat) : (s.respond t st ws).sc y = s.sc y  := rfl
@[simp] theorem State.respond_fwd (y : Nat) : (s.respond t st ws).fwd y = s.fwd y  := rfl
@[simp] theorem State.respond_ctx (y z u : Nat) : (s.respond t st ws).ctx y z u = s.ctx y z u  := rfl
@[simp] theorem State.respond_land (y z : Nat) : (s.respond t st ws).land y z = s.land y z  := rfl
@[simp] theorem State.respond_inst (y : Nat) : (s.respond t st ws).inst y = s.inst y  := rfl
@[simp] theorem State.respond_core (y z : Nat) : (s.respond t st ws).core y z = s.core y z  := rfl
@[simp] theorem State.respond_ring (y : Nat) : (s.respond t st ws).ring y = s.ring y  := rfl
@[simp] theorem State.respond_pin (y : Nat) : (s.respond t st ws).pin y = s.pin y  := rfl
@[simp] theorem State.respond_tile (y : Nat) : (s.respond t st ws).tile y = s.tile y  := rfl
end

section
variable (s : State) (d i : Nat) (x : Isl)
@[simp] theorem State.setIsland_regs : (s.setIsland d i x).regs = s.regs  := rfl
@[simp] theorem State.setIsland_freeCtr : (s.setIsland d i x).freeCtr = s.freeCtr  := rfl
@[simp] theorem State.setIsland_mem : (s.setIsland d i x).mem = s.mem  := rfl
@[simp] theorem State.setIsland_wb : (s.setIsland d i x).wb = s.wb  := rfl
@[simp] theorem State.setIsland_latch : (s.setIsland d i x).latch = s.latch  := rfl
@[simp] theorem State.setIsland_faultLine : (s.setIsland d i x).faultLine = s.faultLine  := rfl
@[simp] theorem State.setIsland_chans : (s.setIsland d i x).chans = s.chans  := rfl
@[simp] theorem State.setIsland_evts : (s.setIsland d i x).evts = s.evts  := rfl
@[simp] theorem State.setIsland_dio : (s.setIsland d i x).dio = s.dio  := rfl
@[simp] theorem State.setIsland_bms : (s.setIsland d i x).bms = s.bms  := rfl
@[simp] theorem State.setIsland_banks : (s.setIsland d i x).banks = s.banks  := rfl
@[simp] theorem State.setIsland_inFlight : (s.setIsland d i x).inFlight = s.inFlight  := rfl
@[simp] theorem State.setIsland_outst : (s.setIsland d i x).outst = s.outst  := rfl
@[simp] theorem State.setIsland_resps : (s.setIsland d i x).resps = s.resps  := rfl
@[simp] theorem State.setIsland_stopPart : (s.setIsland d i x).stopPart = s.stopPart  := rfl
@[simp] theorem State.setIsland_stopWait : (s.setIsland d i x).stopWait = s.stopWait  := rfl
@[simp] theorem State.setIsland_stopOut : (s.setIsland d i x).stopOut = s.stopOut  := rfl
@[simp] theorem State.setIsland_mailbox : (s.setIsland d i x).mailbox = s.mailbox  := rfl
@[simp] theorem State.setIsland_lostPairs : (s.setIsland d i x).lostPairs = s.lostPairs  := rfl
@[simp] theorem State.setIsland_net : (s.setIsland d i x).net = s.net  := rfl
@[simp] theorem State.setIsland_shadows : (s.setIsland d i x).shadows = s.shadows  := rfl
@[simp] theorem State.setIsland_ix : (s.setIsland d i x).ix = s.ix  := rfl
@[simp] theorem State.setIsland_credits : (s.setIsland d i x).credits = s.credits  := rfl
@[simp] theorem State.setIsland_drams : (s.setIsland d i x).drams = s.drams  := rfl
@[simp] theorem State.setIsland_lanes : (s.setIsland d i x).lanes = s.lanes  := rfl
@[simp] theorem State.setIsland_macs : (s.setIsland d i x).macs = s.macs  := rfl
@[simp] theorem State.setIsland_macLatFuse : (s.setIsland d i x).macLatFuse = s.macLatFuse  := rfl
@[simp] theorem State.setIsland_links : (s.setIsland d i x).links = s.links  := rfl
@[simp] theorem State.setIsland_pcs : (s.setIsland d i x).pcs = s.pcs  := rfl
@[simp] theorem State.setIsland_scs : (s.setIsland d i x).scs = s.scs  := rfl
@[simp] theorem State.setIsland_fwds : (s.setIsland d i x).fwds = s.fwds  := rfl
@[simp] theorem State.setIsland_sks : (s.setIsland d i x).sks = s.sks  := rfl
@[simp] theorem State.setIsland_gw : (s.setIsland d i x).gw = s.gw  := rfl
@[simp] theorem State.setIsland_follow : (s.setIsland d i x).follow = s.follow  := rfl
@[simp] theorem State.setIsland_switchTo : (s.setIsland d i x).switchTo = s.switchTo  := rfl
@[simp] theorem State.setIsland_headLost : (s.setIsland d i x).headLost = s.headLost  := rfl
@[simp] theorem State.setIsland_ctxs : (s.setIsland d i x).ctxs = s.ctxs  := rfl
@[simp] theorem State.setIsland_engines : (s.setIsland d i x).engines = s.engines  := rfl
@[simp] theorem State.setIsland_lands : (s.setIsland d i x).lands = s.lands  := rfl
@[simp] theorem State.setIsland_landing : (s.setIsland d i x).landing = s.landing  := rfl
@[simp] theorem State.setIsland_lio : (s.setIsland d i x).lio = s.lio  := rfl
@[simp] theorem State.setIsland_rxProv : (s.setIsland d i x).rxProv = s.rxProv  := rfl
@[simp] theorem State.setIsland_cfg : (s.setIsland d i x).cfg = s.cfg  := rfl
@[simp] theorem State.setIsland_cab : (s.setIsland d i x).cab = s.cab  := rfl
@[simp] theorem State.setIsland_cores : (s.setIsland d i x).cores = s.cores  := rfl
@[simp] theorem State.setIsland_dbg : (s.setIsland d i x).dbg = s.dbg  := rfl
@[simp] theorem State.setIsland_insts : (s.setIsland d i x).insts = s.insts  := rfl
@[simp] theorem State.setIsland_dup : (s.setIsland d i x).dup = s.dup  := rfl
@[simp] theorem State.setIsland_fm : (s.setIsland d i x).fm = s.fm  := rfl
@[simp] theorem State.setIsland_rst : (s.setIsland d i x).rst = s.rst  := rfl
@[simp] theorem State.setIsland_pending : (s.setIsland d i x).pending = s.pending  := rfl
@[simp] theorem State.setIsland_reg (rq : Reg) : (s.setIsland d i x).reg rq = s.reg rq  := rfl
@[simp] theorem State.setIsland_rf (g : Fld) (y z u : Nat) : (s.setIsland d i x).rf g y z u = s.rf g y z u  := rfl
@[simp] theorem State.setIsland_rb (g : Fld) (y z u : Nat) : (s.setIsland d i x).rb g y z u = s.rb g y z u  := rfl
@[simp] theorem State.setIsland_rw (g : RegName) (y z u : Nat) : (s.setIsland d i x).rw g y z u = s.rw g y z u  := rfl
@[simp] theorem State.setIsland_cell (y z : Nat) : (s.setIsland d i x).cell y z = s.cell y z  := rfl
@[simp] theorem State.setIsland_chan (y : Nat) : (s.setIsland d i x).chan y = s.chan y  := rfl
@[simp] theorem State.setIsland_evt (y z u : Nat) : (s.setIsland d i x).evt y z u = s.evt y z u  := rfl
@[simp] theorem State.setIsland_dioCell (y z : Nat) : (s.setIsland d i x).dioCell y z = s.dioCell y z  := rfl
@[simp] theorem State.setIsland_bm (y z u : Nat) : (s.setIsland d i x).bm y z u = s.bm y z u  := rfl
@[simp] theorem State.setIsland_bank (y z : Nat) : (s.setIsland d i x).bank y z = s.bank y z  := rfl
@[simp] theorem State.setIsland_ixp (y z : Nat) : (s.setIsland d i x).ixp y z = s.ixp y z  := rfl
@[simp] theorem State.setIsland_dram (y : Nat) : (s.setIsland d i x).dram y = s.dram y  := rfl
@[simp] theorem State.setIsland_lane (y : Nat) : (s.setIsland d i x).lane y = s.lane y  := rfl
@[simp] theorem State.setIsland_mac (y : Nat) : (s.setIsland d i x).mac y = s.mac y  := rfl
@[simp] theorem State.setIsland_sl (y : Nat) : (s.setIsland d i x).sl y = s.sl y  := rfl
@[simp] theorem State.setIsland_sc (y : Nat) : (s.setIsland d i x).sc y = s.sc y  := rfl
@[simp] theorem State.setIsland_fwd (y : Nat) : (s.setIsland d i x).fwd y = s.fwd y  := rfl
@[simp] theorem State.setIsland_ctx (y z u : Nat) : (s.setIsland d i x).ctx y z u = s.ctx y z u  := rfl
@[simp] theorem State.setIsland_land (y z : Nat) : (s.setIsland d i x).land y z = s.land y z  := rfl
@[simp] theorem State.setIsland_inst (y : Nat) : (s.setIsland d i x).inst y = s.inst y  := rfl
@[simp] theorem State.setIsland_core (y z : Nat) : (s.setIsland d i x).core y z = s.core y z  := rfl
@[simp] theorem State.setIsland_ring (y : Nat) : (s.setIsland d i x).ring y = s.ring y  := rfl
@[simp] theorem State.setIsland_pin (y : Nat) : (s.setIsland d i x).pin y = s.pin y  := rfl
@[simp] theorem State.setIsland_tile (y : Nat) : (s.setIsland d i x).tile y = s.tile y  := rfl
end

section
variable (s : State) (k : Nat) (c : Chan)
@[simp] theorem State.setChan_regs : (s.setChan k c).regs = s.regs  := rfl
@[simp] theorem State.setChan_freeCtr : (s.setChan k c).freeCtr = s.freeCtr  := rfl
@[simp] theorem State.setChan_mem : (s.setChan k c).mem = s.mem  := rfl
@[simp] theorem State.setChan_wb : (s.setChan k c).wb = s.wb  := rfl
@[simp] theorem State.setChan_latch : (s.setChan k c).latch = s.latch  := rfl
@[simp] theorem State.setChan_faultLine : (s.setChan k c).faultLine = s.faultLine  := rfl
@[simp] theorem State.setChan_isl : (s.setChan k c).isl = s.isl  := rfl
@[simp] theorem State.setChan_evts : (s.setChan k c).evts = s.evts  := rfl
@[simp] theorem State.setChan_dio : (s.setChan k c).dio = s.dio  := rfl
@[simp] theorem State.setChan_bms : (s.setChan k c).bms = s.bms  := rfl
@[simp] theorem State.setChan_banks : (s.setChan k c).banks = s.banks  := rfl
@[simp] theorem State.setChan_inFlight : (s.setChan k c).inFlight = s.inFlight  := rfl
@[simp] theorem State.setChan_outst : (s.setChan k c).outst = s.outst  := rfl
@[simp] theorem State.setChan_resps : (s.setChan k c).resps = s.resps  := rfl
@[simp] theorem State.setChan_stopPart : (s.setChan k c).stopPart = s.stopPart  := rfl
@[simp] theorem State.setChan_stopWait : (s.setChan k c).stopWait = s.stopWait  := rfl
@[simp] theorem State.setChan_stopOut : (s.setChan k c).stopOut = s.stopOut  := rfl
@[simp] theorem State.setChan_mailbox : (s.setChan k c).mailbox = s.mailbox  := rfl
@[simp] theorem State.setChan_lostPairs : (s.setChan k c).lostPairs = s.lostPairs  := rfl
@[simp] theorem State.setChan_net : (s.setChan k c).net = s.net  := rfl
@[simp] theorem State.setChan_shadows : (s.setChan k c).shadows = s.shadows  := rfl
@[simp] theorem State.setChan_ix : (s.setChan k c).ix = s.ix  := rfl
@[simp] theorem State.setChan_credits : (s.setChan k c).credits = s.credits  := rfl
@[simp] theorem State.setChan_drams : (s.setChan k c).drams = s.drams  := rfl
@[simp] theorem State.setChan_lanes : (s.setChan k c).lanes = s.lanes  := rfl
@[simp] theorem State.setChan_macs : (s.setChan k c).macs = s.macs  := rfl
@[simp] theorem State.setChan_macLatFuse : (s.setChan k c).macLatFuse = s.macLatFuse  := rfl
@[simp] theorem State.setChan_links : (s.setChan k c).links = s.links  := rfl
@[simp] theorem State.setChan_pcs : (s.setChan k c).pcs = s.pcs  := rfl
@[simp] theorem State.setChan_scs : (s.setChan k c).scs = s.scs  := rfl
@[simp] theorem State.setChan_fwds : (s.setChan k c).fwds = s.fwds  := rfl
@[simp] theorem State.setChan_sks : (s.setChan k c).sks = s.sks  := rfl
@[simp] theorem State.setChan_gw : (s.setChan k c).gw = s.gw  := rfl
@[simp] theorem State.setChan_follow : (s.setChan k c).follow = s.follow  := rfl
@[simp] theorem State.setChan_switchTo : (s.setChan k c).switchTo = s.switchTo  := rfl
@[simp] theorem State.setChan_headLost : (s.setChan k c).headLost = s.headLost  := rfl
@[simp] theorem State.setChan_ctxs : (s.setChan k c).ctxs = s.ctxs  := rfl
@[simp] theorem State.setChan_engines : (s.setChan k c).engines = s.engines  := rfl
@[simp] theorem State.setChan_lands : (s.setChan k c).lands = s.lands  := rfl
@[simp] theorem State.setChan_landing : (s.setChan k c).landing = s.landing  := rfl
@[simp] theorem State.setChan_lio : (s.setChan k c).lio = s.lio  := rfl
@[simp] theorem State.setChan_rxProv : (s.setChan k c).rxProv = s.rxProv  := rfl
@[simp] theorem State.setChan_cfg : (s.setChan k c).cfg = s.cfg  := rfl
@[simp] theorem State.setChan_cab : (s.setChan k c).cab = s.cab  := rfl
@[simp] theorem State.setChan_cores : (s.setChan k c).cores = s.cores  := rfl
@[simp] theorem State.setChan_dbg : (s.setChan k c).dbg = s.dbg  := rfl
@[simp] theorem State.setChan_insts : (s.setChan k c).insts = s.insts  := rfl
@[simp] theorem State.setChan_dup : (s.setChan k c).dup = s.dup  := rfl
@[simp] theorem State.setChan_fm : (s.setChan k c).fm = s.fm  := rfl
@[simp] theorem State.setChan_rst : (s.setChan k c).rst = s.rst  := rfl
@[simp] theorem State.setChan_pending : (s.setChan k c).pending = s.pending  := rfl
@[simp] theorem State.setChan_reg (rq : Reg) : (s.setChan k c).reg rq = s.reg rq  := rfl
@[simp] theorem State.setChan_rf (g : Fld) (y z u : Nat) : (s.setChan k c).rf g y z u = s.rf g y z u  := rfl
@[simp] theorem State.setChan_rb (g : Fld) (y z u : Nat) : (s.setChan k c).rb g y z u = s.rb g y z u  := rfl
@[simp] theorem State.setChan_rw (g : RegName) (y z u : Nat) : (s.setChan k c).rw g y z u = s.rw g y z u  := rfl
@[simp] theorem State.setChan_cell (y z : Nat) : (s.setChan k c).cell y z = s.cell y z  := rfl
@[simp] theorem State.setChan_island (y z : Nat) : (s.setChan k c).island y z = s.island y z  := rfl
@[simp] theorem State.setChan_evt (y z u : Nat) : (s.setChan k c).evt y z u = s.evt y z u  := rfl
@[simp] theorem State.setChan_dioCell (y z : Nat) : (s.setChan k c).dioCell y z = s.dioCell y z  := rfl
@[simp] theorem State.setChan_bm (y z u : Nat) : (s.setChan k c).bm y z u = s.bm y z u  := rfl
@[simp] theorem State.setChan_bank (y z : Nat) : (s.setChan k c).bank y z = s.bank y z  := rfl
@[simp] theorem State.setChan_ixp (y z : Nat) : (s.setChan k c).ixp y z = s.ixp y z  := rfl
@[simp] theorem State.setChan_dram (y : Nat) : (s.setChan k c).dram y = s.dram y  := rfl
@[simp] theorem State.setChan_lane (y : Nat) : (s.setChan k c).lane y = s.lane y  := rfl
@[simp] theorem State.setChan_mac (y : Nat) : (s.setChan k c).mac y = s.mac y  := rfl
@[simp] theorem State.setChan_sl (y : Nat) : (s.setChan k c).sl y = s.sl y  := rfl
@[simp] theorem State.setChan_sc (y : Nat) : (s.setChan k c).sc y = s.sc y  := rfl
@[simp] theorem State.setChan_fwd (y : Nat) : (s.setChan k c).fwd y = s.fwd y  := rfl
@[simp] theorem State.setChan_ctx (y z u : Nat) : (s.setChan k c).ctx y z u = s.ctx y z u  := rfl
@[simp] theorem State.setChan_land (y z : Nat) : (s.setChan k c).land y z = s.land y z  := rfl
@[simp] theorem State.setChan_inst (y : Nat) : (s.setChan k c).inst y = s.inst y  := rfl
@[simp] theorem State.setChan_core (y z : Nat) : (s.setChan k c).core y z = s.core y z  := rfl
@[simp] theorem State.setChan_ring (y : Nat) : (s.setChan k c).ring y = s.ring y  := rfl
@[simp] theorem State.setChan_pin (y : Nat) : (s.setChan k c).pin y = s.pin y  := rfl
@[simp] theorem State.setChan_tile (y : Nat) : (s.setChan k c).tile y = s.tile y  := rfl
end

section
variable (s : State) (d i p : Nat) (e : Evt)
@[simp] theorem State.setEvt_regs : (s.setEvt d i p e).regs = s.regs  := rfl
@[simp] theorem State.setEvt_freeCtr : (s.setEvt d i p e).freeCtr = s.freeCtr  := rfl
@[simp] theorem State.setEvt_mem : (s.setEvt d i p e).mem = s.mem  := rfl
@[simp] theorem State.setEvt_wb : (s.setEvt d i p e).wb = s.wb  := rfl
@[simp] theorem State.setEvt_latch : (s.setEvt d i p e).latch = s.latch  := rfl
@[simp] theorem State.setEvt_faultLine : (s.setEvt d i p e).faultLine = s.faultLine  := rfl
@[simp] theorem State.setEvt_isl : (s.setEvt d i p e).isl = s.isl  := rfl
@[simp] theorem State.setEvt_chans : (s.setEvt d i p e).chans = s.chans  := rfl
@[simp] theorem State.setEvt_dio : (s.setEvt d i p e).dio = s.dio  := rfl
@[simp] theorem State.setEvt_bms : (s.setEvt d i p e).bms = s.bms  := rfl
@[simp] theorem State.setEvt_banks : (s.setEvt d i p e).banks = s.banks  := rfl
@[simp] theorem State.setEvt_inFlight : (s.setEvt d i p e).inFlight = s.inFlight  := rfl
@[simp] theorem State.setEvt_outst : (s.setEvt d i p e).outst = s.outst  := rfl
@[simp] theorem State.setEvt_resps : (s.setEvt d i p e).resps = s.resps  := rfl
@[simp] theorem State.setEvt_stopPart : (s.setEvt d i p e).stopPart = s.stopPart  := rfl
@[simp] theorem State.setEvt_stopWait : (s.setEvt d i p e).stopWait = s.stopWait  := rfl
@[simp] theorem State.setEvt_stopOut : (s.setEvt d i p e).stopOut = s.stopOut  := rfl
@[simp] theorem State.setEvt_mailbox : (s.setEvt d i p e).mailbox = s.mailbox  := rfl
@[simp] theorem State.setEvt_lostPairs : (s.setEvt d i p e).lostPairs = s.lostPairs  := rfl
@[simp] theorem State.setEvt_net : (s.setEvt d i p e).net = s.net  := rfl
@[simp] theorem State.setEvt_shadows : (s.setEvt d i p e).shadows = s.shadows  := rfl
@[simp] theorem State.setEvt_ix : (s.setEvt d i p e).ix = s.ix  := rfl
@[simp] theorem State.setEvt_credits : (s.setEvt d i p e).credits = s.credits  := rfl
@[simp] theorem State.setEvt_drams : (s.setEvt d i p e).drams = s.drams  := rfl
@[simp] theorem State.setEvt_lanes : (s.setEvt d i p e).lanes = s.lanes  := rfl
@[simp] theorem State.setEvt_macs : (s.setEvt d i p e).macs = s.macs  := rfl
@[simp] theorem State.setEvt_macLatFuse : (s.setEvt d i p e).macLatFuse = s.macLatFuse  := rfl
@[simp] theorem State.setEvt_links : (s.setEvt d i p e).links = s.links  := rfl
@[simp] theorem State.setEvt_pcs : (s.setEvt d i p e).pcs = s.pcs  := rfl
@[simp] theorem State.setEvt_scs : (s.setEvt d i p e).scs = s.scs  := rfl
@[simp] theorem State.setEvt_fwds : (s.setEvt d i p e).fwds = s.fwds  := rfl
@[simp] theorem State.setEvt_sks : (s.setEvt d i p e).sks = s.sks  := rfl
@[simp] theorem State.setEvt_gw : (s.setEvt d i p e).gw = s.gw  := rfl
@[simp] theorem State.setEvt_follow : (s.setEvt d i p e).follow = s.follow  := rfl
@[simp] theorem State.setEvt_switchTo : (s.setEvt d i p e).switchTo = s.switchTo  := rfl
@[simp] theorem State.setEvt_headLost : (s.setEvt d i p e).headLost = s.headLost  := rfl
@[simp] theorem State.setEvt_ctxs : (s.setEvt d i p e).ctxs = s.ctxs  := rfl
@[simp] theorem State.setEvt_engines : (s.setEvt d i p e).engines = s.engines  := rfl
@[simp] theorem State.setEvt_lands : (s.setEvt d i p e).lands = s.lands  := rfl
@[simp] theorem State.setEvt_landing : (s.setEvt d i p e).landing = s.landing  := rfl
@[simp] theorem State.setEvt_lio : (s.setEvt d i p e).lio = s.lio  := rfl
@[simp] theorem State.setEvt_rxProv : (s.setEvt d i p e).rxProv = s.rxProv  := rfl
@[simp] theorem State.setEvt_cfg : (s.setEvt d i p e).cfg = s.cfg  := rfl
@[simp] theorem State.setEvt_cab : (s.setEvt d i p e).cab = s.cab  := rfl
@[simp] theorem State.setEvt_cores : (s.setEvt d i p e).cores = s.cores  := rfl
@[simp] theorem State.setEvt_dbg : (s.setEvt d i p e).dbg = s.dbg  := rfl
@[simp] theorem State.setEvt_insts : (s.setEvt d i p e).insts = s.insts  := rfl
@[simp] theorem State.setEvt_dup : (s.setEvt d i p e).dup = s.dup  := rfl
@[simp] theorem State.setEvt_fm : (s.setEvt d i p e).fm = s.fm  := rfl
@[simp] theorem State.setEvt_rst : (s.setEvt d i p e).rst = s.rst  := rfl
@[simp] theorem State.setEvt_pending : (s.setEvt d i p e).pending = s.pending  := rfl
@[simp] theorem State.setEvt_reg (rq : Reg) : (s.setEvt d i p e).reg rq = s.reg rq  := rfl
@[simp] theorem State.setEvt_rf (g : Fld) (y z u : Nat) : (s.setEvt d i p e).rf g y z u = s.rf g y z u  := rfl
@[simp] theorem State.setEvt_rb (g : Fld) (y z u : Nat) : (s.setEvt d i p e).rb g y z u = s.rb g y z u  := rfl
@[simp] theorem State.setEvt_rw (g : RegName) (y z u : Nat) : (s.setEvt d i p e).rw g y z u = s.rw g y z u  := rfl
@[simp] theorem State.setEvt_cell (y z : Nat) : (s.setEvt d i p e).cell y z = s.cell y z  := rfl
@[simp] theorem State.setEvt_island (y z : Nat) : (s.setEvt d i p e).island y z = s.island y z  := rfl
@[simp] theorem State.setEvt_chan (y : Nat) : (s.setEvt d i p e).chan y = s.chan y  := rfl
@[simp] theorem State.setEvt_dioCell (y z : Nat) : (s.setEvt d i p e).dioCell y z = s.dioCell y z  := rfl
@[simp] theorem State.setEvt_bm (y z u : Nat) : (s.setEvt d i p e).bm y z u = s.bm y z u  := rfl
@[simp] theorem State.setEvt_bank (y z : Nat) : (s.setEvt d i p e).bank y z = s.bank y z  := rfl
@[simp] theorem State.setEvt_ixp (y z : Nat) : (s.setEvt d i p e).ixp y z = s.ixp y z  := rfl
@[simp] theorem State.setEvt_dram (y : Nat) : (s.setEvt d i p e).dram y = s.dram y  := rfl
@[simp] theorem State.setEvt_lane (y : Nat) : (s.setEvt d i p e).lane y = s.lane y  := rfl
@[simp] theorem State.setEvt_mac (y : Nat) : (s.setEvt d i p e).mac y = s.mac y  := rfl
@[simp] theorem State.setEvt_sl (y : Nat) : (s.setEvt d i p e).sl y = s.sl y  := rfl
@[simp] theorem State.setEvt_sc (y : Nat) : (s.setEvt d i p e).sc y = s.sc y  := rfl
@[simp] theorem State.setEvt_fwd (y : Nat) : (s.setEvt d i p e).fwd y = s.fwd y  := rfl
@[simp] theorem State.setEvt_ctx (y z u : Nat) : (s.setEvt d i p e).ctx y z u = s.ctx y z u  := rfl
@[simp] theorem State.setEvt_land (y z : Nat) : (s.setEvt d i p e).land y z = s.land y z  := rfl
@[simp] theorem State.setEvt_inst (y : Nat) : (s.setEvt d i p e).inst y = s.inst y  := rfl
@[simp] theorem State.setEvt_core (y z : Nat) : (s.setEvt d i p e).core y z = s.core y z  := rfl
@[simp] theorem State.setEvt_ring (y : Nat) : (s.setEvt d i p e).ring y = s.ring y  := rfl
@[simp] theorem State.setEvt_pin (y : Nat) : (s.setEvt d i p e).pin y = s.pin y  := rfl
@[simp] theorem State.setEvt_tile (y : Nat) : (s.setEvt d i p e).tile y = s.tile y  := rfl
end

section
variable (s : State) (d k : Nat) (x : Dio)
@[simp] theorem State.setDio_regs : (s.setDio d k x).regs = s.regs  := rfl
@[simp] theorem State.setDio_freeCtr : (s.setDio d k x).freeCtr = s.freeCtr  := rfl
@[simp] theorem State.setDio_mem : (s.setDio d k x).mem = s.mem  := rfl
@[simp] theorem State.setDio_wb : (s.setDio d k x).wb = s.wb  := rfl
@[simp] theorem State.setDio_latch : (s.setDio d k x).latch = s.latch  := rfl
@[simp] theorem State.setDio_faultLine : (s.setDio d k x).faultLine = s.faultLine  := rfl
@[simp] theorem State.setDio_isl : (s.setDio d k x).isl = s.isl  := rfl
@[simp] theorem State.setDio_chans : (s.setDio d k x).chans = s.chans  := rfl
@[simp] theorem State.setDio_evts : (s.setDio d k x).evts = s.evts  := rfl
@[simp] theorem State.setDio_bms : (s.setDio d k x).bms = s.bms  := rfl
@[simp] theorem State.setDio_banks : (s.setDio d k x).banks = s.banks  := rfl
@[simp] theorem State.setDio_inFlight : (s.setDio d k x).inFlight = s.inFlight  := rfl
@[simp] theorem State.setDio_outst : (s.setDio d k x).outst = s.outst  := rfl
@[simp] theorem State.setDio_resps : (s.setDio d k x).resps = s.resps  := rfl
@[simp] theorem State.setDio_stopPart : (s.setDio d k x).stopPart = s.stopPart  := rfl
@[simp] theorem State.setDio_stopWait : (s.setDio d k x).stopWait = s.stopWait  := rfl
@[simp] theorem State.setDio_stopOut : (s.setDio d k x).stopOut = s.stopOut  := rfl
@[simp] theorem State.setDio_mailbox : (s.setDio d k x).mailbox = s.mailbox  := rfl
@[simp] theorem State.setDio_lostPairs : (s.setDio d k x).lostPairs = s.lostPairs  := rfl
@[simp] theorem State.setDio_net : (s.setDio d k x).net = s.net  := rfl
@[simp] theorem State.setDio_shadows : (s.setDio d k x).shadows = s.shadows  := rfl
@[simp] theorem State.setDio_ix : (s.setDio d k x).ix = s.ix  := rfl
@[simp] theorem State.setDio_credits : (s.setDio d k x).credits = s.credits  := rfl
@[simp] theorem State.setDio_drams : (s.setDio d k x).drams = s.drams  := rfl
@[simp] theorem State.setDio_lanes : (s.setDio d k x).lanes = s.lanes  := rfl
@[simp] theorem State.setDio_macs : (s.setDio d k x).macs = s.macs  := rfl
@[simp] theorem State.setDio_macLatFuse : (s.setDio d k x).macLatFuse = s.macLatFuse  := rfl
@[simp] theorem State.setDio_links : (s.setDio d k x).links = s.links  := rfl
@[simp] theorem State.setDio_pcs : (s.setDio d k x).pcs = s.pcs  := rfl
@[simp] theorem State.setDio_scs : (s.setDio d k x).scs = s.scs  := rfl
@[simp] theorem State.setDio_fwds : (s.setDio d k x).fwds = s.fwds  := rfl
@[simp] theorem State.setDio_sks : (s.setDio d k x).sks = s.sks  := rfl
@[simp] theorem State.setDio_gw : (s.setDio d k x).gw = s.gw  := rfl
@[simp] theorem State.setDio_follow : (s.setDio d k x).follow = s.follow  := rfl
@[simp] theorem State.setDio_switchTo : (s.setDio d k x).switchTo = s.switchTo  := rfl
@[simp] theorem State.setDio_headLost : (s.setDio d k x).headLost = s.headLost  := rfl
@[simp] theorem State.setDio_ctxs : (s.setDio d k x).ctxs = s.ctxs  := rfl
@[simp] theorem State.setDio_engines : (s.setDio d k x).engines = s.engines  := rfl
@[simp] theorem State.setDio_lands : (s.setDio d k x).lands = s.lands  := rfl
@[simp] theorem State.setDio_landing : (s.setDio d k x).landing = s.landing  := rfl
@[simp] theorem State.setDio_lio : (s.setDio d k x).lio = s.lio  := rfl
@[simp] theorem State.setDio_rxProv : (s.setDio d k x).rxProv = s.rxProv  := rfl
@[simp] theorem State.setDio_cfg : (s.setDio d k x).cfg = s.cfg  := rfl
@[simp] theorem State.setDio_cab : (s.setDio d k x).cab = s.cab  := rfl
@[simp] theorem State.setDio_cores : (s.setDio d k x).cores = s.cores  := rfl
@[simp] theorem State.setDio_dbg : (s.setDio d k x).dbg = s.dbg  := rfl
@[simp] theorem State.setDio_insts : (s.setDio d k x).insts = s.insts  := rfl
@[simp] theorem State.setDio_dup : (s.setDio d k x).dup = s.dup  := rfl
@[simp] theorem State.setDio_fm : (s.setDio d k x).fm = s.fm  := rfl
@[simp] theorem State.setDio_rst : (s.setDio d k x).rst = s.rst  := rfl
@[simp] theorem State.setDio_pending : (s.setDio d k x).pending = s.pending  := rfl
@[simp] theorem State.setDio_reg (rq : Reg) : (s.setDio d k x).reg rq = s.reg rq  := rfl
@[simp] theorem State.setDio_rf (g : Fld) (y z u : Nat) : (s.setDio d k x).rf g y z u = s.rf g y z u  := rfl
@[simp] theorem State.setDio_rb (g : Fld) (y z u : Nat) : (s.setDio d k x).rb g y z u = s.rb g y z u  := rfl
@[simp] theorem State.setDio_rw (g : RegName) (y z u : Nat) : (s.setDio d k x).rw g y z u = s.rw g y z u  := rfl
@[simp] theorem State.setDio_cell (y z : Nat) : (s.setDio d k x).cell y z = s.cell y z  := rfl
@[simp] theorem State.setDio_island (y z : Nat) : (s.setDio d k x).island y z = s.island y z  := rfl
@[simp] theorem State.setDio_chan (y : Nat) : (s.setDio d k x).chan y = s.chan y  := rfl
@[simp] theorem State.setDio_evt (y z u : Nat) : (s.setDio d k x).evt y z u = s.evt y z u  := rfl
@[simp] theorem State.setDio_bm (y z u : Nat) : (s.setDio d k x).bm y z u = s.bm y z u  := rfl
@[simp] theorem State.setDio_bank (y z : Nat) : (s.setDio d k x).bank y z = s.bank y z  := rfl
@[simp] theorem State.setDio_ixp (y z : Nat) : (s.setDio d k x).ixp y z = s.ixp y z  := rfl
@[simp] theorem State.setDio_dram (y : Nat) : (s.setDio d k x).dram y = s.dram y  := rfl
@[simp] theorem State.setDio_lane (y : Nat) : (s.setDio d k x).lane y = s.lane y  := rfl
@[simp] theorem State.setDio_mac (y : Nat) : (s.setDio d k x).mac y = s.mac y  := rfl
@[simp] theorem State.setDio_sl (y : Nat) : (s.setDio d k x).sl y = s.sl y  := rfl
@[simp] theorem State.setDio_sc (y : Nat) : (s.setDio d k x).sc y = s.sc y  := rfl
@[simp] theorem State.setDio_fwd (y : Nat) : (s.setDio d k x).fwd y = s.fwd y  := rfl
@[simp] theorem State.setDio_ctx (y z u : Nat) : (s.setDio d k x).ctx y z u = s.ctx y z u  := rfl
@[simp] theorem State.setDio_land (y z : Nat) : (s.setDio d k x).land y z = s.land y z  := rfl
@[simp] theorem State.setDio_inst (y : Nat) : (s.setDio d k x).inst y = s.inst y  := rfl
@[simp] theorem State.setDio_core (y z : Nat) : (s.setDio d k x).core y z = s.core y z  := rfl
@[simp] theorem State.setDio_ring (y : Nat) : (s.setDio d k x).ring y = s.ring y  := rfl
@[simp] theorem State.setDio_pin (y : Nat) : (s.setDio d k x).pin y = s.pin y  := rfl
@[simp] theorem State.setDio_tile (y : Nat) : (s.setDio d k x).tile y = s.tile y  := rfl
end

section
variable (s : State) (d i m : Nat) (b : Bm)
@[simp] theorem State.setBm_regs : (s.setBm d i m b).regs = s.regs  := rfl
@[simp] theorem State.setBm_freeCtr : (s.setBm d i m b).freeCtr = s.freeCtr  := rfl
@[simp] theorem State.setBm_mem : (s.setBm d i m b).mem = s.mem  := rfl
@[simp] theorem State.setBm_wb : (s.setBm d i m b).wb = s.wb  := rfl
@[simp] theorem State.setBm_latch : (s.setBm d i m b).latch = s.latch  := rfl
@[simp] theorem State.setBm_faultLine : (s.setBm d i m b).faultLine = s.faultLine  := rfl
@[simp] theorem State.setBm_isl : (s.setBm d i m b).isl = s.isl  := rfl
@[simp] theorem State.setBm_chans : (s.setBm d i m b).chans = s.chans  := rfl
@[simp] theorem State.setBm_evts : (s.setBm d i m b).evts = s.evts  := rfl
@[simp] theorem State.setBm_dio : (s.setBm d i m b).dio = s.dio  := rfl
@[simp] theorem State.setBm_banks : (s.setBm d i m b).banks = s.banks  := rfl
@[simp] theorem State.setBm_inFlight : (s.setBm d i m b).inFlight = s.inFlight  := rfl
@[simp] theorem State.setBm_outst : (s.setBm d i m b).outst = s.outst  := rfl
@[simp] theorem State.setBm_resps : (s.setBm d i m b).resps = s.resps  := rfl
@[simp] theorem State.setBm_stopPart : (s.setBm d i m b).stopPart = s.stopPart  := rfl
@[simp] theorem State.setBm_stopWait : (s.setBm d i m b).stopWait = s.stopWait  := rfl
@[simp] theorem State.setBm_stopOut : (s.setBm d i m b).stopOut = s.stopOut  := rfl
@[simp] theorem State.setBm_mailbox : (s.setBm d i m b).mailbox = s.mailbox  := rfl
@[simp] theorem State.setBm_lostPairs : (s.setBm d i m b).lostPairs = s.lostPairs  := rfl
@[simp] theorem State.setBm_net : (s.setBm d i m b).net = s.net  := rfl
@[simp] theorem State.setBm_shadows : (s.setBm d i m b).shadows = s.shadows  := rfl
@[simp] theorem State.setBm_ix : (s.setBm d i m b).ix = s.ix  := rfl
@[simp] theorem State.setBm_credits : (s.setBm d i m b).credits = s.credits  := rfl
@[simp] theorem State.setBm_drams : (s.setBm d i m b).drams = s.drams  := rfl
@[simp] theorem State.setBm_lanes : (s.setBm d i m b).lanes = s.lanes  := rfl
@[simp] theorem State.setBm_macs : (s.setBm d i m b).macs = s.macs  := rfl
@[simp] theorem State.setBm_macLatFuse : (s.setBm d i m b).macLatFuse = s.macLatFuse  := rfl
@[simp] theorem State.setBm_links : (s.setBm d i m b).links = s.links  := rfl
@[simp] theorem State.setBm_pcs : (s.setBm d i m b).pcs = s.pcs  := rfl
@[simp] theorem State.setBm_scs : (s.setBm d i m b).scs = s.scs  := rfl
@[simp] theorem State.setBm_fwds : (s.setBm d i m b).fwds = s.fwds  := rfl
@[simp] theorem State.setBm_sks : (s.setBm d i m b).sks = s.sks  := rfl
@[simp] theorem State.setBm_gw : (s.setBm d i m b).gw = s.gw  := rfl
@[simp] theorem State.setBm_follow : (s.setBm d i m b).follow = s.follow  := rfl
@[simp] theorem State.setBm_switchTo : (s.setBm d i m b).switchTo = s.switchTo  := rfl
@[simp] theorem State.setBm_headLost : (s.setBm d i m b).headLost = s.headLost  := rfl
@[simp] theorem State.setBm_ctxs : (s.setBm d i m b).ctxs = s.ctxs  := rfl
@[simp] theorem State.setBm_engines : (s.setBm d i m b).engines = s.engines  := rfl
@[simp] theorem State.setBm_lands : (s.setBm d i m b).lands = s.lands  := rfl
@[simp] theorem State.setBm_landing : (s.setBm d i m b).landing = s.landing  := rfl
@[simp] theorem State.setBm_lio : (s.setBm d i m b).lio = s.lio  := rfl
@[simp] theorem State.setBm_rxProv : (s.setBm d i m b).rxProv = s.rxProv  := rfl
@[simp] theorem State.setBm_cfg : (s.setBm d i m b).cfg = s.cfg  := rfl
@[simp] theorem State.setBm_cab : (s.setBm d i m b).cab = s.cab  := rfl
@[simp] theorem State.setBm_cores : (s.setBm d i m b).cores = s.cores  := rfl
@[simp] theorem State.setBm_dbg : (s.setBm d i m b).dbg = s.dbg  := rfl
@[simp] theorem State.setBm_insts : (s.setBm d i m b).insts = s.insts  := rfl
@[simp] theorem State.setBm_dup : (s.setBm d i m b).dup = s.dup  := rfl
@[simp] theorem State.setBm_fm : (s.setBm d i m b).fm = s.fm  := rfl
@[simp] theorem State.setBm_rst : (s.setBm d i m b).rst = s.rst  := rfl
@[simp] theorem State.setBm_pending : (s.setBm d i m b).pending = s.pending  := rfl
@[simp] theorem State.setBm_reg (rq : Reg) : (s.setBm d i m b).reg rq = s.reg rq  := rfl
@[simp] theorem State.setBm_rf (g : Fld) (y z u : Nat) : (s.setBm d i m b).rf g y z u = s.rf g y z u  := rfl
@[simp] theorem State.setBm_rb (g : Fld) (y z u : Nat) : (s.setBm d i m b).rb g y z u = s.rb g y z u  := rfl
@[simp] theorem State.setBm_rw (g : RegName) (y z u : Nat) : (s.setBm d i m b).rw g y z u = s.rw g y z u  := rfl
@[simp] theorem State.setBm_cell (y z : Nat) : (s.setBm d i m b).cell y z = s.cell y z  := rfl
@[simp] theorem State.setBm_island (y z : Nat) : (s.setBm d i m b).island y z = s.island y z  := rfl
@[simp] theorem State.setBm_chan (y : Nat) : (s.setBm d i m b).chan y = s.chan y  := rfl
@[simp] theorem State.setBm_evt (y z u : Nat) : (s.setBm d i m b).evt y z u = s.evt y z u  := rfl
@[simp] theorem State.setBm_dioCell (y z : Nat) : (s.setBm d i m b).dioCell y z = s.dioCell y z  := rfl
@[simp] theorem State.setBm_bank (y z : Nat) : (s.setBm d i m b).bank y z = s.bank y z  := rfl
@[simp] theorem State.setBm_ixp (y z : Nat) : (s.setBm d i m b).ixp y z = s.ixp y z  := rfl
@[simp] theorem State.setBm_dram (y : Nat) : (s.setBm d i m b).dram y = s.dram y  := rfl
@[simp] theorem State.setBm_lane (y : Nat) : (s.setBm d i m b).lane y = s.lane y  := rfl
@[simp] theorem State.setBm_mac (y : Nat) : (s.setBm d i m b).mac y = s.mac y  := rfl
@[simp] theorem State.setBm_sl (y : Nat) : (s.setBm d i m b).sl y = s.sl y  := rfl
@[simp] theorem State.setBm_sc (y : Nat) : (s.setBm d i m b).sc y = s.sc y  := rfl
@[simp] theorem State.setBm_fwd (y : Nat) : (s.setBm d i m b).fwd y = s.fwd y  := rfl
@[simp] theorem State.setBm_ctx (y z u : Nat) : (s.setBm d i m b).ctx y z u = s.ctx y z u  := rfl
@[simp] theorem State.setBm_land (y z : Nat) : (s.setBm d i m b).land y z = s.land y z  := rfl
@[simp] theorem State.setBm_inst (y : Nat) : (s.setBm d i m b).inst y = s.inst y  := rfl
@[simp] theorem State.setBm_core (y z : Nat) : (s.setBm d i m b).core y z = s.core y z  := rfl
@[simp] theorem State.setBm_ring (y : Nat) : (s.setBm d i m b).ring y = s.ring y  := rfl
@[simp] theorem State.setBm_pin (y : Nat) : (s.setBm d i m b).pin y = s.pin y  := rfl
@[simp] theorem State.setBm_tile (y : Nat) : (s.setBm d i m b).tile y = s.tile y  := rfl
end

section
variable (s : State) (d b : Nat) (x : Bank)
@[simp] theorem State.setBank_regs : (s.setBank d b x).regs = s.regs  := rfl
@[simp] theorem State.setBank_freeCtr : (s.setBank d b x).freeCtr = s.freeCtr  := rfl
@[simp] theorem State.setBank_mem : (s.setBank d b x).mem = s.mem  := rfl
@[simp] theorem State.setBank_wb : (s.setBank d b x).wb = s.wb  := rfl
@[simp] theorem State.setBank_latch : (s.setBank d b x).latch = s.latch  := rfl
@[simp] theorem State.setBank_faultLine : (s.setBank d b x).faultLine = s.faultLine  := rfl
@[simp] theorem State.setBank_isl : (s.setBank d b x).isl = s.isl  := rfl
@[simp] theorem State.setBank_chans : (s.setBank d b x).chans = s.chans  := rfl
@[simp] theorem State.setBank_evts : (s.setBank d b x).evts = s.evts  := rfl
@[simp] theorem State.setBank_dio : (s.setBank d b x).dio = s.dio  := rfl
@[simp] theorem State.setBank_bms : (s.setBank d b x).bms = s.bms  := rfl
@[simp] theorem State.setBank_inFlight : (s.setBank d b x).inFlight = s.inFlight  := rfl
@[simp] theorem State.setBank_outst : (s.setBank d b x).outst = s.outst  := rfl
@[simp] theorem State.setBank_resps : (s.setBank d b x).resps = s.resps  := rfl
@[simp] theorem State.setBank_stopPart : (s.setBank d b x).stopPart = s.stopPart  := rfl
@[simp] theorem State.setBank_stopWait : (s.setBank d b x).stopWait = s.stopWait  := rfl
@[simp] theorem State.setBank_stopOut : (s.setBank d b x).stopOut = s.stopOut  := rfl
@[simp] theorem State.setBank_mailbox : (s.setBank d b x).mailbox = s.mailbox  := rfl
@[simp] theorem State.setBank_lostPairs : (s.setBank d b x).lostPairs = s.lostPairs  := rfl
@[simp] theorem State.setBank_net : (s.setBank d b x).net = s.net  := rfl
@[simp] theorem State.setBank_shadows : (s.setBank d b x).shadows = s.shadows  := rfl
@[simp] theorem State.setBank_ix : (s.setBank d b x).ix = s.ix  := rfl
@[simp] theorem State.setBank_credits : (s.setBank d b x).credits = s.credits  := rfl
@[simp] theorem State.setBank_drams : (s.setBank d b x).drams = s.drams  := rfl
@[simp] theorem State.setBank_lanes : (s.setBank d b x).lanes = s.lanes  := rfl
@[simp] theorem State.setBank_macs : (s.setBank d b x).macs = s.macs  := rfl
@[simp] theorem State.setBank_macLatFuse : (s.setBank d b x).macLatFuse = s.macLatFuse  := rfl
@[simp] theorem State.setBank_links : (s.setBank d b x).links = s.links  := rfl
@[simp] theorem State.setBank_pcs : (s.setBank d b x).pcs = s.pcs  := rfl
@[simp] theorem State.setBank_scs : (s.setBank d b x).scs = s.scs  := rfl
@[simp] theorem State.setBank_fwds : (s.setBank d b x).fwds = s.fwds  := rfl
@[simp] theorem State.setBank_sks : (s.setBank d b x).sks = s.sks  := rfl
@[simp] theorem State.setBank_gw : (s.setBank d b x).gw = s.gw  := rfl
@[simp] theorem State.setBank_follow : (s.setBank d b x).follow = s.follow  := rfl
@[simp] theorem State.setBank_switchTo : (s.setBank d b x).switchTo = s.switchTo  := rfl
@[simp] theorem State.setBank_headLost : (s.setBank d b x).headLost = s.headLost  := rfl
@[simp] theorem State.setBank_ctxs : (s.setBank d b x).ctxs = s.ctxs  := rfl
@[simp] theorem State.setBank_engines : (s.setBank d b x).engines = s.engines  := rfl
@[simp] theorem State.setBank_lands : (s.setBank d b x).lands = s.lands  := rfl
@[simp] theorem State.setBank_landing : (s.setBank d b x).landing = s.landing  := rfl
@[simp] theorem State.setBank_lio : (s.setBank d b x).lio = s.lio  := rfl
@[simp] theorem State.setBank_rxProv : (s.setBank d b x).rxProv = s.rxProv  := rfl
@[simp] theorem State.setBank_cfg : (s.setBank d b x).cfg = s.cfg  := rfl
@[simp] theorem State.setBank_cab : (s.setBank d b x).cab = s.cab  := rfl
@[simp] theorem State.setBank_cores : (s.setBank d b x).cores = s.cores  := rfl
@[simp] theorem State.setBank_dbg : (s.setBank d b x).dbg = s.dbg  := rfl
@[simp] theorem State.setBank_insts : (s.setBank d b x).insts = s.insts  := rfl
@[simp] theorem State.setBank_dup : (s.setBank d b x).dup = s.dup  := rfl
@[simp] theorem State.setBank_fm : (s.setBank d b x).fm = s.fm  := rfl
@[simp] theorem State.setBank_rst : (s.setBank d b x).rst = s.rst  := rfl
@[simp] theorem State.setBank_pending : (s.setBank d b x).pending = s.pending  := rfl
@[simp] theorem State.setBank_reg (rq : Reg) : (s.setBank d b x).reg rq = s.reg rq  := rfl
@[simp] theorem State.setBank_rf (g : Fld) (y z u : Nat) : (s.setBank d b x).rf g y z u = s.rf g y z u  := rfl
@[simp] theorem State.setBank_rb (g : Fld) (y z u : Nat) : (s.setBank d b x).rb g y z u = s.rb g y z u  := rfl
@[simp] theorem State.setBank_rw (g : RegName) (y z u : Nat) : (s.setBank d b x).rw g y z u = s.rw g y z u  := rfl
@[simp] theorem State.setBank_cell (y z : Nat) : (s.setBank d b x).cell y z = s.cell y z  := rfl
@[simp] theorem State.setBank_island (y z : Nat) : (s.setBank d b x).island y z = s.island y z  := rfl
@[simp] theorem State.setBank_chan (y : Nat) : (s.setBank d b x).chan y = s.chan y  := rfl
@[simp] theorem State.setBank_evt (y z u : Nat) : (s.setBank d b x).evt y z u = s.evt y z u  := rfl
@[simp] theorem State.setBank_dioCell (y z : Nat) : (s.setBank d b x).dioCell y z = s.dioCell y z  := rfl
@[simp] theorem State.setBank_bm (y z u : Nat) : (s.setBank d b x).bm y z u = s.bm y z u  := rfl
@[simp] theorem State.setBank_ixp (y z : Nat) : (s.setBank d b x).ixp y z = s.ixp y z  := rfl
@[simp] theorem State.setBank_dram (y : Nat) : (s.setBank d b x).dram y = s.dram y  := rfl
@[simp] theorem State.setBank_lane (y : Nat) : (s.setBank d b x).lane y = s.lane y  := rfl
@[simp] theorem State.setBank_mac (y : Nat) : (s.setBank d b x).mac y = s.mac y  := rfl
@[simp] theorem State.setBank_sl (y : Nat) : (s.setBank d b x).sl y = s.sl y  := rfl
@[simp] theorem State.setBank_sc (y : Nat) : (s.setBank d b x).sc y = s.sc y  := rfl
@[simp] theorem State.setBank_fwd (y : Nat) : (s.setBank d b x).fwd y = s.fwd y  := rfl
@[simp] theorem State.setBank_ctx (y z u : Nat) : (s.setBank d b x).ctx y z u = s.ctx y z u  := rfl
@[simp] theorem State.setBank_land (y z : Nat) : (s.setBank d b x).land y z = s.land y z  := rfl
@[simp] theorem State.setBank_inst (y : Nat) : (s.setBank d b x).inst y = s.inst y  := rfl
@[simp] theorem State.setBank_core (y z : Nat) : (s.setBank d b x).core y z = s.core y z  := rfl
@[simp] theorem State.setBank_ring (y : Nat) : (s.setBank d b x).ring y = s.ring y  := rfl
@[simp] theorem State.setBank_pin (y : Nat) : (s.setBank d b x).pin y = s.pin y  := rfl
@[simp] theorem State.setBank_tile (y : Nat) : (s.setBank d b x).tile y = s.tile y  := rfl
end

section
variable (s : State) (d p : Nat) (x : IxPort)
@[simp] theorem State.setIxp_regs : (s.setIxp d p x).regs = s.regs  := rfl
@[simp] theorem State.setIxp_freeCtr : (s.setIxp d p x).freeCtr = s.freeCtr  := rfl
@[simp] theorem State.setIxp_mem : (s.setIxp d p x).mem = s.mem  := rfl
@[simp] theorem State.setIxp_wb : (s.setIxp d p x).wb = s.wb  := rfl
@[simp] theorem State.setIxp_latch : (s.setIxp d p x).latch = s.latch  := rfl
@[simp] theorem State.setIxp_faultLine : (s.setIxp d p x).faultLine = s.faultLine  := rfl
@[simp] theorem State.setIxp_isl : (s.setIxp d p x).isl = s.isl  := rfl
@[simp] theorem State.setIxp_chans : (s.setIxp d p x).chans = s.chans  := rfl
@[simp] theorem State.setIxp_evts : (s.setIxp d p x).evts = s.evts  := rfl
@[simp] theorem State.setIxp_dio : (s.setIxp d p x).dio = s.dio  := rfl
@[simp] theorem State.setIxp_bms : (s.setIxp d p x).bms = s.bms  := rfl
@[simp] theorem State.setIxp_banks : (s.setIxp d p x).banks = s.banks  := rfl
@[simp] theorem State.setIxp_inFlight : (s.setIxp d p x).inFlight = s.inFlight  := rfl
@[simp] theorem State.setIxp_outst : (s.setIxp d p x).outst = s.outst  := rfl
@[simp] theorem State.setIxp_resps : (s.setIxp d p x).resps = s.resps  := rfl
@[simp] theorem State.setIxp_stopPart : (s.setIxp d p x).stopPart = s.stopPart  := rfl
@[simp] theorem State.setIxp_stopWait : (s.setIxp d p x).stopWait = s.stopWait  := rfl
@[simp] theorem State.setIxp_stopOut : (s.setIxp d p x).stopOut = s.stopOut  := rfl
@[simp] theorem State.setIxp_mailbox : (s.setIxp d p x).mailbox = s.mailbox  := rfl
@[simp] theorem State.setIxp_lostPairs : (s.setIxp d p x).lostPairs = s.lostPairs  := rfl
@[simp] theorem State.setIxp_net : (s.setIxp d p x).net = s.net  := rfl
@[simp] theorem State.setIxp_shadows : (s.setIxp d p x).shadows = s.shadows  := rfl
@[simp] theorem State.setIxp_credits : (s.setIxp d p x).credits = s.credits  := rfl
@[simp] theorem State.setIxp_drams : (s.setIxp d p x).drams = s.drams  := rfl
@[simp] theorem State.setIxp_lanes : (s.setIxp d p x).lanes = s.lanes  := rfl
@[simp] theorem State.setIxp_macs : (s.setIxp d p x).macs = s.macs  := rfl
@[simp] theorem State.setIxp_macLatFuse : (s.setIxp d p x).macLatFuse = s.macLatFuse  := rfl
@[simp] theorem State.setIxp_links : (s.setIxp d p x).links = s.links  := rfl
@[simp] theorem State.setIxp_pcs : (s.setIxp d p x).pcs = s.pcs  := rfl
@[simp] theorem State.setIxp_scs : (s.setIxp d p x).scs = s.scs  := rfl
@[simp] theorem State.setIxp_fwds : (s.setIxp d p x).fwds = s.fwds  := rfl
@[simp] theorem State.setIxp_sks : (s.setIxp d p x).sks = s.sks  := rfl
@[simp] theorem State.setIxp_gw : (s.setIxp d p x).gw = s.gw  := rfl
@[simp] theorem State.setIxp_follow : (s.setIxp d p x).follow = s.follow  := rfl
@[simp] theorem State.setIxp_switchTo : (s.setIxp d p x).switchTo = s.switchTo  := rfl
@[simp] theorem State.setIxp_headLost : (s.setIxp d p x).headLost = s.headLost  := rfl
@[simp] theorem State.setIxp_ctxs : (s.setIxp d p x).ctxs = s.ctxs  := rfl
@[simp] theorem State.setIxp_engines : (s.setIxp d p x).engines = s.engines  := rfl
@[simp] theorem State.setIxp_lands : (s.setIxp d p x).lands = s.lands  := rfl
@[simp] theorem State.setIxp_landing : (s.setIxp d p x).landing = s.landing  := rfl
@[simp] theorem State.setIxp_lio : (s.setIxp d p x).lio = s.lio  := rfl
@[simp] theorem State.setIxp_rxProv : (s.setIxp d p x).rxProv = s.rxProv  := rfl
@[simp] theorem State.setIxp_cfg : (s.setIxp d p x).cfg = s.cfg  := rfl
@[simp] theorem State.setIxp_cab : (s.setIxp d p x).cab = s.cab  := rfl
@[simp] theorem State.setIxp_cores : (s.setIxp d p x).cores = s.cores  := rfl
@[simp] theorem State.setIxp_dbg : (s.setIxp d p x).dbg = s.dbg  := rfl
@[simp] theorem State.setIxp_insts : (s.setIxp d p x).insts = s.insts  := rfl
@[simp] theorem State.setIxp_dup : (s.setIxp d p x).dup = s.dup  := rfl
@[simp] theorem State.setIxp_fm : (s.setIxp d p x).fm = s.fm  := rfl
@[simp] theorem State.setIxp_rst : (s.setIxp d p x).rst = s.rst  := rfl
@[simp] theorem State.setIxp_pending : (s.setIxp d p x).pending = s.pending  := rfl
@[simp] theorem State.setIxp_reg (rq : Reg) : (s.setIxp d p x).reg rq = s.reg rq  := rfl
@[simp] theorem State.setIxp_rf (g : Fld) (y z u : Nat) : (s.setIxp d p x).rf g y z u = s.rf g y z u  := rfl
@[simp] theorem State.setIxp_rb (g : Fld) (y z u : Nat) : (s.setIxp d p x).rb g y z u = s.rb g y z u  := rfl
@[simp] theorem State.setIxp_rw (g : RegName) (y z u : Nat) : (s.setIxp d p x).rw g y z u = s.rw g y z u  := rfl
@[simp] theorem State.setIxp_cell (y z : Nat) : (s.setIxp d p x).cell y z = s.cell y z  := rfl
@[simp] theorem State.setIxp_island (y z : Nat) : (s.setIxp d p x).island y z = s.island y z  := rfl
@[simp] theorem State.setIxp_chan (y : Nat) : (s.setIxp d p x).chan y = s.chan y  := rfl
@[simp] theorem State.setIxp_evt (y z u : Nat) : (s.setIxp d p x).evt y z u = s.evt y z u  := rfl
@[simp] theorem State.setIxp_dioCell (y z : Nat) : (s.setIxp d p x).dioCell y z = s.dioCell y z  := rfl
@[simp] theorem State.setIxp_bm (y z u : Nat) : (s.setIxp d p x).bm y z u = s.bm y z u  := rfl
@[simp] theorem State.setIxp_bank (y z : Nat) : (s.setIxp d p x).bank y z = s.bank y z  := rfl
@[simp] theorem State.setIxp_dram (y : Nat) : (s.setIxp d p x).dram y = s.dram y  := rfl
@[simp] theorem State.setIxp_lane (y : Nat) : (s.setIxp d p x).lane y = s.lane y  := rfl
@[simp] theorem State.setIxp_mac (y : Nat) : (s.setIxp d p x).mac y = s.mac y  := rfl
@[simp] theorem State.setIxp_sl (y : Nat) : (s.setIxp d p x).sl y = s.sl y  := rfl
@[simp] theorem State.setIxp_sc (y : Nat) : (s.setIxp d p x).sc y = s.sc y  := rfl
@[simp] theorem State.setIxp_fwd (y : Nat) : (s.setIxp d p x).fwd y = s.fwd y  := rfl
@[simp] theorem State.setIxp_ctx (y z u : Nat) : (s.setIxp d p x).ctx y z u = s.ctx y z u  := rfl
@[simp] theorem State.setIxp_land (y z : Nat) : (s.setIxp d p x).land y z = s.land y z  := rfl
@[simp] theorem State.setIxp_inst (y : Nat) : (s.setIxp d p x).inst y = s.inst y  := rfl
@[simp] theorem State.setIxp_core (y z : Nat) : (s.setIxp d p x).core y z = s.core y z  := rfl
@[simp] theorem State.setIxp_ring (y : Nat) : (s.setIxp d p x).ring y = s.ring y  := rfl
@[simp] theorem State.setIxp_pin (y : Nat) : (s.setIxp d p x).pin y = s.pin y  := rfl
@[simp] theorem State.setIxp_tile (y : Nat) : (s.setIxp d p x).tile y = s.tile y  := rfl
end

section
variable (s : State) (c : Nat) (x : Dram)
@[simp] theorem State.setDram_regs : (s.setDram c x).regs = s.regs  := rfl
@[simp] theorem State.setDram_freeCtr : (s.setDram c x).freeCtr = s.freeCtr  := rfl
@[simp] theorem State.setDram_mem : (s.setDram c x).mem = s.mem  := rfl
@[simp] theorem State.setDram_wb : (s.setDram c x).wb = s.wb  := rfl
@[simp] theorem State.setDram_latch : (s.setDram c x).latch = s.latch  := rfl
@[simp] theorem State.setDram_faultLine : (s.setDram c x).faultLine = s.faultLine  := rfl
@[simp] theorem State.setDram_isl : (s.setDram c x).isl = s.isl  := rfl
@[simp] theorem State.setDram_chans : (s.setDram c x).chans = s.chans  := rfl
@[simp] theorem State.setDram_evts : (s.setDram c x).evts = s.evts  := rfl
@[simp] theorem State.setDram_dio : (s.setDram c x).dio = s.dio  := rfl
@[simp] theorem State.setDram_bms : (s.setDram c x).bms = s.bms  := rfl
@[simp] theorem State.setDram_banks : (s.setDram c x).banks = s.banks  := rfl
@[simp] theorem State.setDram_inFlight : (s.setDram c x).inFlight = s.inFlight  := rfl
@[simp] theorem State.setDram_outst : (s.setDram c x).outst = s.outst  := rfl
@[simp] theorem State.setDram_resps : (s.setDram c x).resps = s.resps  := rfl
@[simp] theorem State.setDram_stopPart : (s.setDram c x).stopPart = s.stopPart  := rfl
@[simp] theorem State.setDram_stopWait : (s.setDram c x).stopWait = s.stopWait  := rfl
@[simp] theorem State.setDram_stopOut : (s.setDram c x).stopOut = s.stopOut  := rfl
@[simp] theorem State.setDram_mailbox : (s.setDram c x).mailbox = s.mailbox  := rfl
@[simp] theorem State.setDram_lostPairs : (s.setDram c x).lostPairs = s.lostPairs  := rfl
@[simp] theorem State.setDram_net : (s.setDram c x).net = s.net  := rfl
@[simp] theorem State.setDram_shadows : (s.setDram c x).shadows = s.shadows  := rfl
@[simp] theorem State.setDram_ix : (s.setDram c x).ix = s.ix  := rfl
@[simp] theorem State.setDram_credits : (s.setDram c x).credits = s.credits  := rfl
@[simp] theorem State.setDram_lanes : (s.setDram c x).lanes = s.lanes  := rfl
@[simp] theorem State.setDram_macs : (s.setDram c x).macs = s.macs  := rfl
@[simp] theorem State.setDram_macLatFuse : (s.setDram c x).macLatFuse = s.macLatFuse  := rfl
@[simp] theorem State.setDram_links : (s.setDram c x).links = s.links  := rfl
@[simp] theorem State.setDram_pcs : (s.setDram c x).pcs = s.pcs  := rfl
@[simp] theorem State.setDram_scs : (s.setDram c x).scs = s.scs  := rfl
@[simp] theorem State.setDram_fwds : (s.setDram c x).fwds = s.fwds  := rfl
@[simp] theorem State.setDram_sks : (s.setDram c x).sks = s.sks  := rfl
@[simp] theorem State.setDram_gw : (s.setDram c x).gw = s.gw  := rfl
@[simp] theorem State.setDram_follow : (s.setDram c x).follow = s.follow  := rfl
@[simp] theorem State.setDram_switchTo : (s.setDram c x).switchTo = s.switchTo  := rfl
@[simp] theorem State.setDram_headLost : (s.setDram c x).headLost = s.headLost  := rfl
@[simp] theorem State.setDram_ctxs : (s.setDram c x).ctxs = s.ctxs  := rfl
@[simp] theorem State.setDram_engines : (s.setDram c x).engines = s.engines  := rfl
@[simp] theorem State.setDram_lands : (s.setDram c x).lands = s.lands  := rfl
@[simp] theorem State.setDram_landing : (s.setDram c x).landing = s.landing  := rfl
@[simp] theorem State.setDram_lio : (s.setDram c x).lio = s.lio  := rfl
@[simp] theorem State.setDram_rxProv : (s.setDram c x).rxProv = s.rxProv  := rfl
@[simp] theorem State.setDram_cfg : (s.setDram c x).cfg = s.cfg  := rfl
@[simp] theorem State.setDram_cab : (s.setDram c x).cab = s.cab  := rfl
@[simp] theorem State.setDram_cores : (s.setDram c x).cores = s.cores  := rfl
@[simp] theorem State.setDram_dbg : (s.setDram c x).dbg = s.dbg  := rfl
@[simp] theorem State.setDram_insts : (s.setDram c x).insts = s.insts  := rfl
@[simp] theorem State.setDram_dup : (s.setDram c x).dup = s.dup  := rfl
@[simp] theorem State.setDram_fm : (s.setDram c x).fm = s.fm  := rfl
@[simp] theorem State.setDram_rst : (s.setDram c x).rst = s.rst  := rfl
@[simp] theorem State.setDram_pending : (s.setDram c x).pending = s.pending  := rfl
@[simp] theorem State.setDram_reg (rq : Reg) : (s.setDram c x).reg rq = s.reg rq  := rfl
@[simp] theorem State.setDram_rf (g : Fld) (y z u : Nat) : (s.setDram c x).rf g y z u = s.rf g y z u  := rfl
@[simp] theorem State.setDram_rb (g : Fld) (y z u : Nat) : (s.setDram c x).rb g y z u = s.rb g y z u  := rfl
@[simp] theorem State.setDram_rw (g : RegName) (y z u : Nat) : (s.setDram c x).rw g y z u = s.rw g y z u  := rfl
@[simp] theorem State.setDram_cell (y z : Nat) : (s.setDram c x).cell y z = s.cell y z  := rfl
@[simp] theorem State.setDram_island (y z : Nat) : (s.setDram c x).island y z = s.island y z  := rfl
@[simp] theorem State.setDram_chan (y : Nat) : (s.setDram c x).chan y = s.chan y  := rfl
@[simp] theorem State.setDram_evt (y z u : Nat) : (s.setDram c x).evt y z u = s.evt y z u  := rfl
@[simp] theorem State.setDram_dioCell (y z : Nat) : (s.setDram c x).dioCell y z = s.dioCell y z  := rfl
@[simp] theorem State.setDram_bm (y z u : Nat) : (s.setDram c x).bm y z u = s.bm y z u  := rfl
@[simp] theorem State.setDram_bank (y z : Nat) : (s.setDram c x).bank y z = s.bank y z  := rfl
@[simp] theorem State.setDram_ixp (y z : Nat) : (s.setDram c x).ixp y z = s.ixp y z  := rfl
@[simp] theorem State.setDram_lane (y : Nat) : (s.setDram c x).lane y = s.lane y  := rfl
@[simp] theorem State.setDram_mac (y : Nat) : (s.setDram c x).mac y = s.mac y  := rfl
@[simp] theorem State.setDram_sl (y : Nat) : (s.setDram c x).sl y = s.sl y  := rfl
@[simp] theorem State.setDram_sc (y : Nat) : (s.setDram c x).sc y = s.sc y  := rfl
@[simp] theorem State.setDram_fwd (y : Nat) : (s.setDram c x).fwd y = s.fwd y  := rfl
@[simp] theorem State.setDram_ctx (y z u : Nat) : (s.setDram c x).ctx y z u = s.ctx y z u  := rfl
@[simp] theorem State.setDram_land (y z : Nat) : (s.setDram c x).land y z = s.land y z  := rfl
@[simp] theorem State.setDram_inst (y : Nat) : (s.setDram c x).inst y = s.inst y  := rfl
@[simp] theorem State.setDram_core (y z : Nat) : (s.setDram c x).core y z = s.core y z  := rfl
@[simp] theorem State.setDram_ring (y : Nat) : (s.setDram c x).ring y = s.ring y  := rfl
@[simp] theorem State.setDram_pin (y : Nat) : (s.setDram c x).pin y = s.pin y  := rfl
@[simp] theorem State.setDram_tile (y : Nat) : (s.setDram c x).tile y = s.tile y  := rfl
end

section
variable (s : State) (n : Nat) (x : Lane)
@[simp] theorem State.setLane_regs : (s.setLane n x).regs = s.regs  := rfl
@[simp] theorem State.setLane_freeCtr : (s.setLane n x).freeCtr = s.freeCtr  := rfl
@[simp] theorem State.setLane_mem : (s.setLane n x).mem = s.mem  := rfl
@[simp] theorem State.setLane_wb : (s.setLane n x).wb = s.wb  := rfl
@[simp] theorem State.setLane_latch : (s.setLane n x).latch = s.latch  := rfl
@[simp] theorem State.setLane_faultLine : (s.setLane n x).faultLine = s.faultLine  := rfl
@[simp] theorem State.setLane_isl : (s.setLane n x).isl = s.isl  := rfl
@[simp] theorem State.setLane_chans : (s.setLane n x).chans = s.chans  := rfl
@[simp] theorem State.setLane_evts : (s.setLane n x).evts = s.evts  := rfl
@[simp] theorem State.setLane_dio : (s.setLane n x).dio = s.dio  := rfl
@[simp] theorem State.setLane_bms : (s.setLane n x).bms = s.bms  := rfl
@[simp] theorem State.setLane_banks : (s.setLane n x).banks = s.banks  := rfl
@[simp] theorem State.setLane_inFlight : (s.setLane n x).inFlight = s.inFlight  := rfl
@[simp] theorem State.setLane_outst : (s.setLane n x).outst = s.outst  := rfl
@[simp] theorem State.setLane_resps : (s.setLane n x).resps = s.resps  := rfl
@[simp] theorem State.setLane_stopPart : (s.setLane n x).stopPart = s.stopPart  := rfl
@[simp] theorem State.setLane_stopWait : (s.setLane n x).stopWait = s.stopWait  := rfl
@[simp] theorem State.setLane_stopOut : (s.setLane n x).stopOut = s.stopOut  := rfl
@[simp] theorem State.setLane_mailbox : (s.setLane n x).mailbox = s.mailbox  := rfl
@[simp] theorem State.setLane_lostPairs : (s.setLane n x).lostPairs = s.lostPairs  := rfl
@[simp] theorem State.setLane_net : (s.setLane n x).net = s.net  := rfl
@[simp] theorem State.setLane_shadows : (s.setLane n x).shadows = s.shadows  := rfl
@[simp] theorem State.setLane_ix : (s.setLane n x).ix = s.ix  := rfl
@[simp] theorem State.setLane_credits : (s.setLane n x).credits = s.credits  := rfl
@[simp] theorem State.setLane_drams : (s.setLane n x).drams = s.drams  := rfl
@[simp] theorem State.setLane_macs : (s.setLane n x).macs = s.macs  := rfl
@[simp] theorem State.setLane_macLatFuse : (s.setLane n x).macLatFuse = s.macLatFuse  := rfl
@[simp] theorem State.setLane_links : (s.setLane n x).links = s.links  := rfl
@[simp] theorem State.setLane_pcs : (s.setLane n x).pcs = s.pcs  := rfl
@[simp] theorem State.setLane_scs : (s.setLane n x).scs = s.scs  := rfl
@[simp] theorem State.setLane_fwds : (s.setLane n x).fwds = s.fwds  := rfl
@[simp] theorem State.setLane_sks : (s.setLane n x).sks = s.sks  := rfl
@[simp] theorem State.setLane_gw : (s.setLane n x).gw = s.gw  := rfl
@[simp] theorem State.setLane_follow : (s.setLane n x).follow = s.follow  := rfl
@[simp] theorem State.setLane_switchTo : (s.setLane n x).switchTo = s.switchTo  := rfl
@[simp] theorem State.setLane_headLost : (s.setLane n x).headLost = s.headLost  := rfl
@[simp] theorem State.setLane_ctxs : (s.setLane n x).ctxs = s.ctxs  := rfl
@[simp] theorem State.setLane_engines : (s.setLane n x).engines = s.engines  := rfl
@[simp] theorem State.setLane_lands : (s.setLane n x).lands = s.lands  := rfl
@[simp] theorem State.setLane_landing : (s.setLane n x).landing = s.landing  := rfl
@[simp] theorem State.setLane_lio : (s.setLane n x).lio = s.lio  := rfl
@[simp] theorem State.setLane_rxProv : (s.setLane n x).rxProv = s.rxProv  := rfl
@[simp] theorem State.setLane_cfg : (s.setLane n x).cfg = s.cfg  := rfl
@[simp] theorem State.setLane_cab : (s.setLane n x).cab = s.cab  := rfl
@[simp] theorem State.setLane_cores : (s.setLane n x).cores = s.cores  := rfl
@[simp] theorem State.setLane_dbg : (s.setLane n x).dbg = s.dbg  := rfl
@[simp] theorem State.setLane_insts : (s.setLane n x).insts = s.insts  := rfl
@[simp] theorem State.setLane_dup : (s.setLane n x).dup = s.dup  := rfl
@[simp] theorem State.setLane_fm : (s.setLane n x).fm = s.fm  := rfl
@[simp] theorem State.setLane_rst : (s.setLane n x).rst = s.rst  := rfl
@[simp] theorem State.setLane_pending : (s.setLane n x).pending = s.pending  := rfl
@[simp] theorem State.setLane_reg (rq : Reg) : (s.setLane n x).reg rq = s.reg rq  := rfl
@[simp] theorem State.setLane_rf (g : Fld) (y z u : Nat) : (s.setLane n x).rf g y z u = s.rf g y z u  := rfl
@[simp] theorem State.setLane_rb (g : Fld) (y z u : Nat) : (s.setLane n x).rb g y z u = s.rb g y z u  := rfl
@[simp] theorem State.setLane_rw (g : RegName) (y z u : Nat) : (s.setLane n x).rw g y z u = s.rw g y z u  := rfl
@[simp] theorem State.setLane_cell (y z : Nat) : (s.setLane n x).cell y z = s.cell y z  := rfl
@[simp] theorem State.setLane_island (y z : Nat) : (s.setLane n x).island y z = s.island y z  := rfl
@[simp] theorem State.setLane_chan (y : Nat) : (s.setLane n x).chan y = s.chan y  := rfl
@[simp] theorem State.setLane_evt (y z u : Nat) : (s.setLane n x).evt y z u = s.evt y z u  := rfl
@[simp] theorem State.setLane_dioCell (y z : Nat) : (s.setLane n x).dioCell y z = s.dioCell y z  := rfl
@[simp] theorem State.setLane_bm (y z u : Nat) : (s.setLane n x).bm y z u = s.bm y z u  := rfl
@[simp] theorem State.setLane_bank (y z : Nat) : (s.setLane n x).bank y z = s.bank y z  := rfl
@[simp] theorem State.setLane_ixp (y z : Nat) : (s.setLane n x).ixp y z = s.ixp y z  := rfl
@[simp] theorem State.setLane_dram (y : Nat) : (s.setLane n x).dram y = s.dram y  := rfl
@[simp] theorem State.setLane_mac (y : Nat) : (s.setLane n x).mac y = s.mac y  := rfl
@[simp] theorem State.setLane_sl (y : Nat) : (s.setLane n x).sl y = s.sl y  := rfl
@[simp] theorem State.setLane_sc (y : Nat) : (s.setLane n x).sc y = s.sc y  := rfl
@[simp] theorem State.setLane_fwd (y : Nat) : (s.setLane n x).fwd y = s.fwd y  := rfl
@[simp] theorem State.setLane_ctx (y z u : Nat) : (s.setLane n x).ctx y z u = s.ctx y z u  := rfl
@[simp] theorem State.setLane_land (y z : Nat) : (s.setLane n x).land y z = s.land y z  := rfl
@[simp] theorem State.setLane_inst (y : Nat) : (s.setLane n x).inst y = s.inst y  := rfl
@[simp] theorem State.setLane_core (y z : Nat) : (s.setLane n x).core y z = s.core y z  := rfl
@[simp] theorem State.setLane_ring (y : Nat) : (s.setLane n x).ring y = s.ring y  := rfl
@[simp] theorem State.setLane_pin (y : Nat) : (s.setLane n x).pin y = s.pin y  := rfl
@[simp] theorem State.setLane_tile (y : Nat) : (s.setLane n x).tile y = s.tile y  := rfl
end

section
variable (s : State) (m : Nat) (x : Mac)
@[simp] theorem State.setMac_regs : (s.setMac m x).regs = s.regs  := rfl
@[simp] theorem State.setMac_freeCtr : (s.setMac m x).freeCtr = s.freeCtr  := rfl
@[simp] theorem State.setMac_mem : (s.setMac m x).mem = s.mem  := rfl
@[simp] theorem State.setMac_wb : (s.setMac m x).wb = s.wb  := rfl
@[simp] theorem State.setMac_latch : (s.setMac m x).latch = s.latch  := rfl
@[simp] theorem State.setMac_faultLine : (s.setMac m x).faultLine = s.faultLine  := rfl
@[simp] theorem State.setMac_isl : (s.setMac m x).isl = s.isl  := rfl
@[simp] theorem State.setMac_chans : (s.setMac m x).chans = s.chans  := rfl
@[simp] theorem State.setMac_evts : (s.setMac m x).evts = s.evts  := rfl
@[simp] theorem State.setMac_dio : (s.setMac m x).dio = s.dio  := rfl
@[simp] theorem State.setMac_bms : (s.setMac m x).bms = s.bms  := rfl
@[simp] theorem State.setMac_banks : (s.setMac m x).banks = s.banks  := rfl
@[simp] theorem State.setMac_inFlight : (s.setMac m x).inFlight = s.inFlight  := rfl
@[simp] theorem State.setMac_outst : (s.setMac m x).outst = s.outst  := rfl
@[simp] theorem State.setMac_resps : (s.setMac m x).resps = s.resps  := rfl
@[simp] theorem State.setMac_stopPart : (s.setMac m x).stopPart = s.stopPart  := rfl
@[simp] theorem State.setMac_stopWait : (s.setMac m x).stopWait = s.stopWait  := rfl
@[simp] theorem State.setMac_stopOut : (s.setMac m x).stopOut = s.stopOut  := rfl
@[simp] theorem State.setMac_mailbox : (s.setMac m x).mailbox = s.mailbox  := rfl
@[simp] theorem State.setMac_lostPairs : (s.setMac m x).lostPairs = s.lostPairs  := rfl
@[simp] theorem State.setMac_net : (s.setMac m x).net = s.net  := rfl
@[simp] theorem State.setMac_shadows : (s.setMac m x).shadows = s.shadows  := rfl
@[simp] theorem State.setMac_ix : (s.setMac m x).ix = s.ix  := rfl
@[simp] theorem State.setMac_credits : (s.setMac m x).credits = s.credits  := rfl
@[simp] theorem State.setMac_drams : (s.setMac m x).drams = s.drams  := rfl
@[simp] theorem State.setMac_lanes : (s.setMac m x).lanes = s.lanes  := rfl
@[simp] theorem State.setMac_macLatFuse : (s.setMac m x).macLatFuse = s.macLatFuse  := rfl
@[simp] theorem State.setMac_links : (s.setMac m x).links = s.links  := rfl
@[simp] theorem State.setMac_pcs : (s.setMac m x).pcs = s.pcs  := rfl
@[simp] theorem State.setMac_scs : (s.setMac m x).scs = s.scs  := rfl
@[simp] theorem State.setMac_fwds : (s.setMac m x).fwds = s.fwds  := rfl
@[simp] theorem State.setMac_sks : (s.setMac m x).sks = s.sks  := rfl
@[simp] theorem State.setMac_gw : (s.setMac m x).gw = s.gw  := rfl
@[simp] theorem State.setMac_follow : (s.setMac m x).follow = s.follow  := rfl
@[simp] theorem State.setMac_switchTo : (s.setMac m x).switchTo = s.switchTo  := rfl
@[simp] theorem State.setMac_headLost : (s.setMac m x).headLost = s.headLost  := rfl
@[simp] theorem State.setMac_ctxs : (s.setMac m x).ctxs = s.ctxs  := rfl
@[simp] theorem State.setMac_engines : (s.setMac m x).engines = s.engines  := rfl
@[simp] theorem State.setMac_lands : (s.setMac m x).lands = s.lands  := rfl
@[simp] theorem State.setMac_landing : (s.setMac m x).landing = s.landing  := rfl
@[simp] theorem State.setMac_lio : (s.setMac m x).lio = s.lio  := rfl
@[simp] theorem State.setMac_rxProv : (s.setMac m x).rxProv = s.rxProv  := rfl
@[simp] theorem State.setMac_cfg : (s.setMac m x).cfg = s.cfg  := rfl
@[simp] theorem State.setMac_cab : (s.setMac m x).cab = s.cab  := rfl
@[simp] theorem State.setMac_cores : (s.setMac m x).cores = s.cores  := rfl
@[simp] theorem State.setMac_dbg : (s.setMac m x).dbg = s.dbg  := rfl
@[simp] theorem State.setMac_insts : (s.setMac m x).insts = s.insts  := rfl
@[simp] theorem State.setMac_dup : (s.setMac m x).dup = s.dup  := rfl
@[simp] theorem State.setMac_fm : (s.setMac m x).fm = s.fm  := rfl
@[simp] theorem State.setMac_rst : (s.setMac m x).rst = s.rst  := rfl
@[simp] theorem State.setMac_pending : (s.setMac m x).pending = s.pending  := rfl
@[simp] theorem State.setMac_reg (rq : Reg) : (s.setMac m x).reg rq = s.reg rq  := rfl
@[simp] theorem State.setMac_rf (g : Fld) (y z u : Nat) : (s.setMac m x).rf g y z u = s.rf g y z u  := rfl
@[simp] theorem State.setMac_rb (g : Fld) (y z u : Nat) : (s.setMac m x).rb g y z u = s.rb g y z u  := rfl
@[simp] theorem State.setMac_rw (g : RegName) (y z u : Nat) : (s.setMac m x).rw g y z u = s.rw g y z u  := rfl
@[simp] theorem State.setMac_cell (y z : Nat) : (s.setMac m x).cell y z = s.cell y z  := rfl
@[simp] theorem State.setMac_island (y z : Nat) : (s.setMac m x).island y z = s.island y z  := rfl
@[simp] theorem State.setMac_chan (y : Nat) : (s.setMac m x).chan y = s.chan y  := rfl
@[simp] theorem State.setMac_evt (y z u : Nat) : (s.setMac m x).evt y z u = s.evt y z u  := rfl
@[simp] theorem State.setMac_dioCell (y z : Nat) : (s.setMac m x).dioCell y z = s.dioCell y z  := rfl
@[simp] theorem State.setMac_bm (y z u : Nat) : (s.setMac m x).bm y z u = s.bm y z u  := rfl
@[simp] theorem State.setMac_bank (y z : Nat) : (s.setMac m x).bank y z = s.bank y z  := rfl
@[simp] theorem State.setMac_ixp (y z : Nat) : (s.setMac m x).ixp y z = s.ixp y z  := rfl
@[simp] theorem State.setMac_dram (y : Nat) : (s.setMac m x).dram y = s.dram y  := rfl
@[simp] theorem State.setMac_lane (y : Nat) : (s.setMac m x).lane y = s.lane y  := rfl
@[simp] theorem State.setMac_sl (y : Nat) : (s.setMac m x).sl y = s.sl y  := rfl
@[simp] theorem State.setMac_sc (y : Nat) : (s.setMac m x).sc y = s.sc y  := rfl
@[simp] theorem State.setMac_fwd (y : Nat) : (s.setMac m x).fwd y = s.fwd y  := rfl
@[simp] theorem State.setMac_ctx (y z u : Nat) : (s.setMac m x).ctx y z u = s.ctx y z u  := rfl
@[simp] theorem State.setMac_land (y z : Nat) : (s.setMac m x).land y z = s.land y z  := rfl
@[simp] theorem State.setMac_inst (y : Nat) : (s.setMac m x).inst y = s.inst y  := rfl
@[simp] theorem State.setMac_core (y z : Nat) : (s.setMac m x).core y z = s.core y z  := rfl
@[simp] theorem State.setMac_ring (y : Nat) : (s.setMac m x).ring y = s.ring y  := rfl
@[simp] theorem State.setMac_pin (y : Nat) : (s.setMac m x).pin y = s.pin y  := rfl
@[simp] theorem State.setMac_tile (y : Nat) : (s.setMac m x).tile y = s.tile y  := rfl
end

section
variable (s : State) (l : Nat) (x : Sl)
@[simp] theorem State.setSl_regs : (s.setSl l x).regs = s.regs  := rfl
@[simp] theorem State.setSl_freeCtr : (s.setSl l x).freeCtr = s.freeCtr  := rfl
@[simp] theorem State.setSl_mem : (s.setSl l x).mem = s.mem  := rfl
@[simp] theorem State.setSl_wb : (s.setSl l x).wb = s.wb  := rfl
@[simp] theorem State.setSl_latch : (s.setSl l x).latch = s.latch  := rfl
@[simp] theorem State.setSl_faultLine : (s.setSl l x).faultLine = s.faultLine  := rfl
@[simp] theorem State.setSl_isl : (s.setSl l x).isl = s.isl  := rfl
@[simp] theorem State.setSl_chans : (s.setSl l x).chans = s.chans  := rfl
@[simp] theorem State.setSl_evts : (s.setSl l x).evts = s.evts  := rfl
@[simp] theorem State.setSl_dio : (s.setSl l x).dio = s.dio  := rfl
@[simp] theorem State.setSl_bms : (s.setSl l x).bms = s.bms  := rfl
@[simp] theorem State.setSl_banks : (s.setSl l x).banks = s.banks  := rfl
@[simp] theorem State.setSl_inFlight : (s.setSl l x).inFlight = s.inFlight  := rfl
@[simp] theorem State.setSl_outst : (s.setSl l x).outst = s.outst  := rfl
@[simp] theorem State.setSl_resps : (s.setSl l x).resps = s.resps  := rfl
@[simp] theorem State.setSl_stopPart : (s.setSl l x).stopPart = s.stopPart  := rfl
@[simp] theorem State.setSl_stopWait : (s.setSl l x).stopWait = s.stopWait  := rfl
@[simp] theorem State.setSl_stopOut : (s.setSl l x).stopOut = s.stopOut  := rfl
@[simp] theorem State.setSl_mailbox : (s.setSl l x).mailbox = s.mailbox  := rfl
@[simp] theorem State.setSl_lostPairs : (s.setSl l x).lostPairs = s.lostPairs  := rfl
@[simp] theorem State.setSl_net : (s.setSl l x).net = s.net  := rfl
@[simp] theorem State.setSl_shadows : (s.setSl l x).shadows = s.shadows  := rfl
@[simp] theorem State.setSl_ix : (s.setSl l x).ix = s.ix  := rfl
@[simp] theorem State.setSl_credits : (s.setSl l x).credits = s.credits  := rfl
@[simp] theorem State.setSl_drams : (s.setSl l x).drams = s.drams  := rfl
@[simp] theorem State.setSl_lanes : (s.setSl l x).lanes = s.lanes  := rfl
@[simp] theorem State.setSl_macs : (s.setSl l x).macs = s.macs  := rfl
@[simp] theorem State.setSl_macLatFuse : (s.setSl l x).macLatFuse = s.macLatFuse  := rfl
@[simp] theorem State.setSl_pcs : (s.setSl l x).pcs = s.pcs  := rfl
@[simp] theorem State.setSl_scs : (s.setSl l x).scs = s.scs  := rfl
@[simp] theorem State.setSl_fwds : (s.setSl l x).fwds = s.fwds  := rfl
@[simp] theorem State.setSl_sks : (s.setSl l x).sks = s.sks  := rfl
@[simp] theorem State.setSl_gw : (s.setSl l x).gw = s.gw  := rfl
@[simp] theorem State.setSl_follow : (s.setSl l x).follow = s.follow  := rfl
@[simp] theorem State.setSl_switchTo : (s.setSl l x).switchTo = s.switchTo  := rfl
@[simp] theorem State.setSl_headLost : (s.setSl l x).headLost = s.headLost  := rfl
@[simp] theorem State.setSl_ctxs : (s.setSl l x).ctxs = s.ctxs  := rfl
@[simp] theorem State.setSl_engines : (s.setSl l x).engines = s.engines  := rfl
@[simp] theorem State.setSl_lands : (s.setSl l x).lands = s.lands  := rfl
@[simp] theorem State.setSl_landing : (s.setSl l x).landing = s.landing  := rfl
@[simp] theorem State.setSl_lio : (s.setSl l x).lio = s.lio  := rfl
@[simp] theorem State.setSl_rxProv : (s.setSl l x).rxProv = s.rxProv  := rfl
@[simp] theorem State.setSl_cfg : (s.setSl l x).cfg = s.cfg  := rfl
@[simp] theorem State.setSl_cab : (s.setSl l x).cab = s.cab  := rfl
@[simp] theorem State.setSl_cores : (s.setSl l x).cores = s.cores  := rfl
@[simp] theorem State.setSl_dbg : (s.setSl l x).dbg = s.dbg  := rfl
@[simp] theorem State.setSl_insts : (s.setSl l x).insts = s.insts  := rfl
@[simp] theorem State.setSl_dup : (s.setSl l x).dup = s.dup  := rfl
@[simp] theorem State.setSl_fm : (s.setSl l x).fm = s.fm  := rfl
@[simp] theorem State.setSl_rst : (s.setSl l x).rst = s.rst  := rfl
@[simp] theorem State.setSl_pending : (s.setSl l x).pending = s.pending  := rfl
@[simp] theorem State.setSl_reg (rq : Reg) : (s.setSl l x).reg rq = s.reg rq  := rfl
@[simp] theorem State.setSl_rf (g : Fld) (y z u : Nat) : (s.setSl l x).rf g y z u = s.rf g y z u  := rfl
@[simp] theorem State.setSl_rb (g : Fld) (y z u : Nat) : (s.setSl l x).rb g y z u = s.rb g y z u  := rfl
@[simp] theorem State.setSl_rw (g : RegName) (y z u : Nat) : (s.setSl l x).rw g y z u = s.rw g y z u  := rfl
@[simp] theorem State.setSl_cell (y z : Nat) : (s.setSl l x).cell y z = s.cell y z  := rfl
@[simp] theorem State.setSl_island (y z : Nat) : (s.setSl l x).island y z = s.island y z  := rfl
@[simp] theorem State.setSl_chan (y : Nat) : (s.setSl l x).chan y = s.chan y  := rfl
@[simp] theorem State.setSl_evt (y z u : Nat) : (s.setSl l x).evt y z u = s.evt y z u  := rfl
@[simp] theorem State.setSl_dioCell (y z : Nat) : (s.setSl l x).dioCell y z = s.dioCell y z  := rfl
@[simp] theorem State.setSl_bm (y z u : Nat) : (s.setSl l x).bm y z u = s.bm y z u  := rfl
@[simp] theorem State.setSl_bank (y z : Nat) : (s.setSl l x).bank y z = s.bank y z  := rfl
@[simp] theorem State.setSl_ixp (y z : Nat) : (s.setSl l x).ixp y z = s.ixp y z  := rfl
@[simp] theorem State.setSl_dram (y : Nat) : (s.setSl l x).dram y = s.dram y  := rfl
@[simp] theorem State.setSl_lane (y : Nat) : (s.setSl l x).lane y = s.lane y  := rfl
@[simp] theorem State.setSl_mac (y : Nat) : (s.setSl l x).mac y = s.mac y  := rfl
@[simp] theorem State.setSl_sc (y : Nat) : (s.setSl l x).sc y = s.sc y  := rfl
@[simp] theorem State.setSl_fwd (y : Nat) : (s.setSl l x).fwd y = s.fwd y  := rfl
@[simp] theorem State.setSl_ctx (y z u : Nat) : (s.setSl l x).ctx y z u = s.ctx y z u  := rfl
@[simp] theorem State.setSl_land (y z : Nat) : (s.setSl l x).land y z = s.land y z  := rfl
@[simp] theorem State.setSl_inst (y : Nat) : (s.setSl l x).inst y = s.inst y  := rfl
@[simp] theorem State.setSl_core (y z : Nat) : (s.setSl l x).core y z = s.core y z  := rfl
@[simp] theorem State.setSl_ring (y : Nat) : (s.setSl l x).ring y = s.ring y  := rfl
@[simp] theorem State.setSl_pin (y : Nat) : (s.setSl l x).pin y = s.pin y  := rfl
@[simp] theorem State.setSl_tile (y : Nat) : (s.setSl l x).tile y = s.tile y  := rfl
end

section
variable (s : State) (c : Nat) (x : Sc)
@[simp] theorem State.setSc_regs : (s.setSc c x).regs = s.regs  := rfl
@[simp] theorem State.setSc_freeCtr : (s.setSc c x).freeCtr = s.freeCtr  := rfl
@[simp] theorem State.setSc_mem : (s.setSc c x).mem = s.mem  := rfl
@[simp] theorem State.setSc_wb : (s.setSc c x).wb = s.wb  := rfl
@[simp] theorem State.setSc_latch : (s.setSc c x).latch = s.latch  := rfl
@[simp] theorem State.setSc_faultLine : (s.setSc c x).faultLine = s.faultLine  := rfl
@[simp] theorem State.setSc_isl : (s.setSc c x).isl = s.isl  := rfl
@[simp] theorem State.setSc_chans : (s.setSc c x).chans = s.chans  := rfl
@[simp] theorem State.setSc_evts : (s.setSc c x).evts = s.evts  := rfl
@[simp] theorem State.setSc_dio : (s.setSc c x).dio = s.dio  := rfl
@[simp] theorem State.setSc_bms : (s.setSc c x).bms = s.bms  := rfl
@[simp] theorem State.setSc_banks : (s.setSc c x).banks = s.banks  := rfl
@[simp] theorem State.setSc_inFlight : (s.setSc c x).inFlight = s.inFlight  := rfl
@[simp] theorem State.setSc_outst : (s.setSc c x).outst = s.outst  := rfl
@[simp] theorem State.setSc_resps : (s.setSc c x).resps = s.resps  := rfl
@[simp] theorem State.setSc_stopPart : (s.setSc c x).stopPart = s.stopPart  := rfl
@[simp] theorem State.setSc_stopWait : (s.setSc c x).stopWait = s.stopWait  := rfl
@[simp] theorem State.setSc_stopOut : (s.setSc c x).stopOut = s.stopOut  := rfl
@[simp] theorem State.setSc_mailbox : (s.setSc c x).mailbox = s.mailbox  := rfl
@[simp] theorem State.setSc_lostPairs : (s.setSc c x).lostPairs = s.lostPairs  := rfl
@[simp] theorem State.setSc_net : (s.setSc c x).net = s.net  := rfl
@[simp] theorem State.setSc_shadows : (s.setSc c x).shadows = s.shadows  := rfl
@[simp] theorem State.setSc_ix : (s.setSc c x).ix = s.ix  := rfl
@[simp] theorem State.setSc_credits : (s.setSc c x).credits = s.credits  := rfl
@[simp] theorem State.setSc_drams : (s.setSc c x).drams = s.drams  := rfl
@[simp] theorem State.setSc_lanes : (s.setSc c x).lanes = s.lanes  := rfl
@[simp] theorem State.setSc_macs : (s.setSc c x).macs = s.macs  := rfl
@[simp] theorem State.setSc_macLatFuse : (s.setSc c x).macLatFuse = s.macLatFuse  := rfl
@[simp] theorem State.setSc_links : (s.setSc c x).links = s.links  := rfl
@[simp] theorem State.setSc_pcs : (s.setSc c x).pcs = s.pcs  := rfl
@[simp] theorem State.setSc_fwds : (s.setSc c x).fwds = s.fwds  := rfl
@[simp] theorem State.setSc_sks : (s.setSc c x).sks = s.sks  := rfl
@[simp] theorem State.setSc_gw : (s.setSc c x).gw = s.gw  := rfl
@[simp] theorem State.setSc_follow : (s.setSc c x).follow = s.follow  := rfl
@[simp] theorem State.setSc_switchTo : (s.setSc c x).switchTo = s.switchTo  := rfl
@[simp] theorem State.setSc_headLost : (s.setSc c x).headLost = s.headLost  := rfl
@[simp] theorem State.setSc_ctxs : (s.setSc c x).ctxs = s.ctxs  := rfl
@[simp] theorem State.setSc_engines : (s.setSc c x).engines = s.engines  := rfl
@[simp] theorem State.setSc_lands : (s.setSc c x).lands = s.lands  := rfl
@[simp] theorem State.setSc_landing : (s.setSc c x).landing = s.landing  := rfl
@[simp] theorem State.setSc_lio : (s.setSc c x).lio = s.lio  := rfl
@[simp] theorem State.setSc_rxProv : (s.setSc c x).rxProv = s.rxProv  := rfl
@[simp] theorem State.setSc_cfg : (s.setSc c x).cfg = s.cfg  := rfl
@[simp] theorem State.setSc_cab : (s.setSc c x).cab = s.cab  := rfl
@[simp] theorem State.setSc_cores : (s.setSc c x).cores = s.cores  := rfl
@[simp] theorem State.setSc_dbg : (s.setSc c x).dbg = s.dbg  := rfl
@[simp] theorem State.setSc_insts : (s.setSc c x).insts = s.insts  := rfl
@[simp] theorem State.setSc_dup : (s.setSc c x).dup = s.dup  := rfl
@[simp] theorem State.setSc_fm : (s.setSc c x).fm = s.fm  := rfl
@[simp] theorem State.setSc_rst : (s.setSc c x).rst = s.rst  := rfl
@[simp] theorem State.setSc_pending : (s.setSc c x).pending = s.pending  := rfl
@[simp] theorem State.setSc_reg (rq : Reg) : (s.setSc c x).reg rq = s.reg rq  := rfl
@[simp] theorem State.setSc_rf (g : Fld) (y z u : Nat) : (s.setSc c x).rf g y z u = s.rf g y z u  := rfl
@[simp] theorem State.setSc_rb (g : Fld) (y z u : Nat) : (s.setSc c x).rb g y z u = s.rb g y z u  := rfl
@[simp] theorem State.setSc_rw (g : RegName) (y z u : Nat) : (s.setSc c x).rw g y z u = s.rw g y z u  := rfl
@[simp] theorem State.setSc_cell (y z : Nat) : (s.setSc c x).cell y z = s.cell y z  := rfl
@[simp] theorem State.setSc_island (y z : Nat) : (s.setSc c x).island y z = s.island y z  := rfl
@[simp] theorem State.setSc_chan (y : Nat) : (s.setSc c x).chan y = s.chan y  := rfl
@[simp] theorem State.setSc_evt (y z u : Nat) : (s.setSc c x).evt y z u = s.evt y z u  := rfl
@[simp] theorem State.setSc_dioCell (y z : Nat) : (s.setSc c x).dioCell y z = s.dioCell y z  := rfl
@[simp] theorem State.setSc_bm (y z u : Nat) : (s.setSc c x).bm y z u = s.bm y z u  := rfl
@[simp] theorem State.setSc_bank (y z : Nat) : (s.setSc c x).bank y z = s.bank y z  := rfl
@[simp] theorem State.setSc_ixp (y z : Nat) : (s.setSc c x).ixp y z = s.ixp y z  := rfl
@[simp] theorem State.setSc_dram (y : Nat) : (s.setSc c x).dram y = s.dram y  := rfl
@[simp] theorem State.setSc_lane (y : Nat) : (s.setSc c x).lane y = s.lane y  := rfl
@[simp] theorem State.setSc_mac (y : Nat) : (s.setSc c x).mac y = s.mac y  := rfl
@[simp] theorem State.setSc_sl (y : Nat) : (s.setSc c x).sl y = s.sl y  := rfl
@[simp] theorem State.setSc_fwd (y : Nat) : (s.setSc c x).fwd y = s.fwd y  := rfl
@[simp] theorem State.setSc_ctx (y z u : Nat) : (s.setSc c x).ctx y z u = s.ctx y z u  := rfl
@[simp] theorem State.setSc_land (y z : Nat) : (s.setSc c x).land y z = s.land y z  := rfl
@[simp] theorem State.setSc_inst (y : Nat) : (s.setSc c x).inst y = s.inst y  := rfl
@[simp] theorem State.setSc_core (y z : Nat) : (s.setSc c x).core y z = s.core y z  := rfl
@[simp] theorem State.setSc_ring (y : Nat) : (s.setSc c x).ring y = s.ring y  := rfl
@[simp] theorem State.setSc_pin (y : Nat) : (s.setSc c x).pin y = s.pin y  := rfl
@[simp] theorem State.setSc_tile (y : Nat) : (s.setSc c x).tile y = s.tile y  := rfl
end

section
variable (s : State) (c : Nat) (x : Fwd)
@[simp] theorem State.setFwd_regs : (s.setFwd c x).regs = s.regs  := rfl
@[simp] theorem State.setFwd_freeCtr : (s.setFwd c x).freeCtr = s.freeCtr  := rfl
@[simp] theorem State.setFwd_mem : (s.setFwd c x).mem = s.mem  := rfl
@[simp] theorem State.setFwd_wb : (s.setFwd c x).wb = s.wb  := rfl
@[simp] theorem State.setFwd_latch : (s.setFwd c x).latch = s.latch  := rfl
@[simp] theorem State.setFwd_faultLine : (s.setFwd c x).faultLine = s.faultLine  := rfl
@[simp] theorem State.setFwd_isl : (s.setFwd c x).isl = s.isl  := rfl
@[simp] theorem State.setFwd_chans : (s.setFwd c x).chans = s.chans  := rfl
@[simp] theorem State.setFwd_evts : (s.setFwd c x).evts = s.evts  := rfl
@[simp] theorem State.setFwd_dio : (s.setFwd c x).dio = s.dio  := rfl
@[simp] theorem State.setFwd_bms : (s.setFwd c x).bms = s.bms  := rfl
@[simp] theorem State.setFwd_banks : (s.setFwd c x).banks = s.banks  := rfl
@[simp] theorem State.setFwd_inFlight : (s.setFwd c x).inFlight = s.inFlight  := rfl
@[simp] theorem State.setFwd_outst : (s.setFwd c x).outst = s.outst  := rfl
@[simp] theorem State.setFwd_resps : (s.setFwd c x).resps = s.resps  := rfl
@[simp] theorem State.setFwd_stopPart : (s.setFwd c x).stopPart = s.stopPart  := rfl
@[simp] theorem State.setFwd_stopWait : (s.setFwd c x).stopWait = s.stopWait  := rfl
@[simp] theorem State.setFwd_stopOut : (s.setFwd c x).stopOut = s.stopOut  := rfl
@[simp] theorem State.setFwd_mailbox : (s.setFwd c x).mailbox = s.mailbox  := rfl
@[simp] theorem State.setFwd_lostPairs : (s.setFwd c x).lostPairs = s.lostPairs  := rfl
@[simp] theorem State.setFwd_net : (s.setFwd c x).net = s.net  := rfl
@[simp] theorem State.setFwd_shadows : (s.setFwd c x).shadows = s.shadows  := rfl
@[simp] theorem State.setFwd_ix : (s.setFwd c x).ix = s.ix  := rfl
@[simp] theorem State.setFwd_credits : (s.setFwd c x).credits = s.credits  := rfl
@[simp] theorem State.setFwd_drams : (s.setFwd c x).drams = s.drams  := rfl
@[simp] theorem State.setFwd_lanes : (s.setFwd c x).lanes = s.lanes  := rfl
@[simp] theorem State.setFwd_macs : (s.setFwd c x).macs = s.macs  := rfl
@[simp] theorem State.setFwd_macLatFuse : (s.setFwd c x).macLatFuse = s.macLatFuse  := rfl
@[simp] theorem State.setFwd_links : (s.setFwd c x).links = s.links  := rfl
@[simp] theorem State.setFwd_pcs : (s.setFwd c x).pcs = s.pcs  := rfl
@[simp] theorem State.setFwd_scs : (s.setFwd c x).scs = s.scs  := rfl
@[simp] theorem State.setFwd_sks : (s.setFwd c x).sks = s.sks  := rfl
@[simp] theorem State.setFwd_gw : (s.setFwd c x).gw = s.gw  := rfl
@[simp] theorem State.setFwd_follow : (s.setFwd c x).follow = s.follow  := rfl
@[simp] theorem State.setFwd_switchTo : (s.setFwd c x).switchTo = s.switchTo  := rfl
@[simp] theorem State.setFwd_headLost : (s.setFwd c x).headLost = s.headLost  := rfl
@[simp] theorem State.setFwd_ctxs : (s.setFwd c x).ctxs = s.ctxs  := rfl
@[simp] theorem State.setFwd_engines : (s.setFwd c x).engines = s.engines  := rfl
@[simp] theorem State.setFwd_lands : (s.setFwd c x).lands = s.lands  := rfl
@[simp] theorem State.setFwd_landing : (s.setFwd c x).landing = s.landing  := rfl
@[simp] theorem State.setFwd_lio : (s.setFwd c x).lio = s.lio  := rfl
@[simp] theorem State.setFwd_rxProv : (s.setFwd c x).rxProv = s.rxProv  := rfl
@[simp] theorem State.setFwd_cfg : (s.setFwd c x).cfg = s.cfg  := rfl
@[simp] theorem State.setFwd_cab : (s.setFwd c x).cab = s.cab  := rfl
@[simp] theorem State.setFwd_cores : (s.setFwd c x).cores = s.cores  := rfl
@[simp] theorem State.setFwd_dbg : (s.setFwd c x).dbg = s.dbg  := rfl
@[simp] theorem State.setFwd_insts : (s.setFwd c x).insts = s.insts  := rfl
@[simp] theorem State.setFwd_dup : (s.setFwd c x).dup = s.dup  := rfl
@[simp] theorem State.setFwd_fm : (s.setFwd c x).fm = s.fm  := rfl
@[simp] theorem State.setFwd_rst : (s.setFwd c x).rst = s.rst  := rfl
@[simp] theorem State.setFwd_pending : (s.setFwd c x).pending = s.pending  := rfl
@[simp] theorem State.setFwd_reg (rq : Reg) : (s.setFwd c x).reg rq = s.reg rq  := rfl
@[simp] theorem State.setFwd_rf (g : Fld) (y z u : Nat) : (s.setFwd c x).rf g y z u = s.rf g y z u  := rfl
@[simp] theorem State.setFwd_rb (g : Fld) (y z u : Nat) : (s.setFwd c x).rb g y z u = s.rb g y z u  := rfl
@[simp] theorem State.setFwd_rw (g : RegName) (y z u : Nat) : (s.setFwd c x).rw g y z u = s.rw g y z u  := rfl
@[simp] theorem State.setFwd_cell (y z : Nat) : (s.setFwd c x).cell y z = s.cell y z  := rfl
@[simp] theorem State.setFwd_island (y z : Nat) : (s.setFwd c x).island y z = s.island y z  := rfl
@[simp] theorem State.setFwd_chan (y : Nat) : (s.setFwd c x).chan y = s.chan y  := rfl
@[simp] theorem State.setFwd_evt (y z u : Nat) : (s.setFwd c x).evt y z u = s.evt y z u  := rfl
@[simp] theorem State.setFwd_dioCell (y z : Nat) : (s.setFwd c x).dioCell y z = s.dioCell y z  := rfl
@[simp] theorem State.setFwd_bm (y z u : Nat) : (s.setFwd c x).bm y z u = s.bm y z u  := rfl
@[simp] theorem State.setFwd_bank (y z : Nat) : (s.setFwd c x).bank y z = s.bank y z  := rfl
@[simp] theorem State.setFwd_ixp (y z : Nat) : (s.setFwd c x).ixp y z = s.ixp y z  := rfl
@[simp] theorem State.setFwd_dram (y : Nat) : (s.setFwd c x).dram y = s.dram y  := rfl
@[simp] theorem State.setFwd_lane (y : Nat) : (s.setFwd c x).lane y = s.lane y  := rfl
@[simp] theorem State.setFwd_mac (y : Nat) : (s.setFwd c x).mac y = s.mac y  := rfl
@[simp] theorem State.setFwd_sl (y : Nat) : (s.setFwd c x).sl y = s.sl y  := rfl
@[simp] theorem State.setFwd_sc (y : Nat) : (s.setFwd c x).sc y = s.sc y  := rfl
@[simp] theorem State.setFwd_ctx (y z u : Nat) : (s.setFwd c x).ctx y z u = s.ctx y z u  := rfl
@[simp] theorem State.setFwd_land (y z : Nat) : (s.setFwd c x).land y z = s.land y z  := rfl
@[simp] theorem State.setFwd_inst (y : Nat) : (s.setFwd c x).inst y = s.inst y  := rfl
@[simp] theorem State.setFwd_core (y z : Nat) : (s.setFwd c x).core y z = s.core y z  := rfl
@[simp] theorem State.setFwd_ring (y : Nat) : (s.setFwd c x).ring y = s.ring y  := rfl
@[simp] theorem State.setFwd_pin (y : Nat) : (s.setFwd c x).pin y = s.pin y  := rfl
@[simp] theorem State.setFwd_tile (y : Nat) : (s.setFwd c x).tile y = s.tile y  := rfl
end

section
variable (s : State) (d e x : Nat) (c : Ctx)
@[simp] theorem State.setCtx_regs : (s.setCtx d e x c).regs = s.regs  := rfl
@[simp] theorem State.setCtx_freeCtr : (s.setCtx d e x c).freeCtr = s.freeCtr  := rfl
@[simp] theorem State.setCtx_mem : (s.setCtx d e x c).mem = s.mem  := rfl
@[simp] theorem State.setCtx_wb : (s.setCtx d e x c).wb = s.wb  := rfl
@[simp] theorem State.setCtx_latch : (s.setCtx d e x c).latch = s.latch  := rfl
@[simp] theorem State.setCtx_faultLine : (s.setCtx d e x c).faultLine = s.faultLine  := rfl
@[simp] theorem State.setCtx_isl : (s.setCtx d e x c).isl = s.isl  := rfl
@[simp] theorem State.setCtx_chans : (s.setCtx d e x c).chans = s.chans  := rfl
@[simp] theorem State.setCtx_evts : (s.setCtx d e x c).evts = s.evts  := rfl
@[simp] theorem State.setCtx_dio : (s.setCtx d e x c).dio = s.dio  := rfl
@[simp] theorem State.setCtx_bms : (s.setCtx d e x c).bms = s.bms  := rfl
@[simp] theorem State.setCtx_banks : (s.setCtx d e x c).banks = s.banks  := rfl
@[simp] theorem State.setCtx_inFlight : (s.setCtx d e x c).inFlight = s.inFlight  := rfl
@[simp] theorem State.setCtx_outst : (s.setCtx d e x c).outst = s.outst  := rfl
@[simp] theorem State.setCtx_resps : (s.setCtx d e x c).resps = s.resps  := rfl
@[simp] theorem State.setCtx_stopPart : (s.setCtx d e x c).stopPart = s.stopPart  := rfl
@[simp] theorem State.setCtx_stopWait : (s.setCtx d e x c).stopWait = s.stopWait  := rfl
@[simp] theorem State.setCtx_stopOut : (s.setCtx d e x c).stopOut = s.stopOut  := rfl
@[simp] theorem State.setCtx_mailbox : (s.setCtx d e x c).mailbox = s.mailbox  := rfl
@[simp] theorem State.setCtx_lostPairs : (s.setCtx d e x c).lostPairs = s.lostPairs  := rfl
@[simp] theorem State.setCtx_net : (s.setCtx d e x c).net = s.net  := rfl
@[simp] theorem State.setCtx_shadows : (s.setCtx d e x c).shadows = s.shadows  := rfl
@[simp] theorem State.setCtx_ix : (s.setCtx d e x c).ix = s.ix  := rfl
@[simp] theorem State.setCtx_credits : (s.setCtx d e x c).credits = s.credits  := rfl
@[simp] theorem State.setCtx_drams : (s.setCtx d e x c).drams = s.drams  := rfl
@[simp] theorem State.setCtx_lanes : (s.setCtx d e x c).lanes = s.lanes  := rfl
@[simp] theorem State.setCtx_macs : (s.setCtx d e x c).macs = s.macs  := rfl
@[simp] theorem State.setCtx_macLatFuse : (s.setCtx d e x c).macLatFuse = s.macLatFuse  := rfl
@[simp] theorem State.setCtx_links : (s.setCtx d e x c).links = s.links  := rfl
@[simp] theorem State.setCtx_pcs : (s.setCtx d e x c).pcs = s.pcs  := rfl
@[simp] theorem State.setCtx_scs : (s.setCtx d e x c).scs = s.scs  := rfl
@[simp] theorem State.setCtx_fwds : (s.setCtx d e x c).fwds = s.fwds  := rfl
@[simp] theorem State.setCtx_sks : (s.setCtx d e x c).sks = s.sks  := rfl
@[simp] theorem State.setCtx_gw : (s.setCtx d e x c).gw = s.gw  := rfl
@[simp] theorem State.setCtx_follow : (s.setCtx d e x c).follow = s.follow  := rfl
@[simp] theorem State.setCtx_switchTo : (s.setCtx d e x c).switchTo = s.switchTo  := rfl
@[simp] theorem State.setCtx_headLost : (s.setCtx d e x c).headLost = s.headLost  := rfl
@[simp] theorem State.setCtx_engines : (s.setCtx d e x c).engines = s.engines  := rfl
@[simp] theorem State.setCtx_lands : (s.setCtx d e x c).lands = s.lands  := rfl
@[simp] theorem State.setCtx_landing : (s.setCtx d e x c).landing = s.landing  := rfl
@[simp] theorem State.setCtx_lio : (s.setCtx d e x c).lio = s.lio  := rfl
@[simp] theorem State.setCtx_rxProv : (s.setCtx d e x c).rxProv = s.rxProv  := rfl
@[simp] theorem State.setCtx_cfg : (s.setCtx d e x c).cfg = s.cfg  := rfl
@[simp] theorem State.setCtx_cab : (s.setCtx d e x c).cab = s.cab  := rfl
@[simp] theorem State.setCtx_cores : (s.setCtx d e x c).cores = s.cores  := rfl
@[simp] theorem State.setCtx_dbg : (s.setCtx d e x c).dbg = s.dbg  := rfl
@[simp] theorem State.setCtx_insts : (s.setCtx d e x c).insts = s.insts  := rfl
@[simp] theorem State.setCtx_dup : (s.setCtx d e x c).dup = s.dup  := rfl
@[simp] theorem State.setCtx_fm : (s.setCtx d e x c).fm = s.fm  := rfl
@[simp] theorem State.setCtx_rst : (s.setCtx d e x c).rst = s.rst  := rfl
@[simp] theorem State.setCtx_pending : (s.setCtx d e x c).pending = s.pending  := rfl
@[simp] theorem State.setCtx_reg (rq : Reg) : (s.setCtx d e x c).reg rq = s.reg rq  := rfl
@[simp] theorem State.setCtx_rf (g : Fld) (y z u : Nat) : (s.setCtx d e x c).rf g y z u = s.rf g y z u  := rfl
@[simp] theorem State.setCtx_rb (g : Fld) (y z u : Nat) : (s.setCtx d e x c).rb g y z u = s.rb g y z u  := rfl
@[simp] theorem State.setCtx_rw (g : RegName) (y z u : Nat) : (s.setCtx d e x c).rw g y z u = s.rw g y z u  := rfl
@[simp] theorem State.setCtx_cell (y z : Nat) : (s.setCtx d e x c).cell y z = s.cell y z  := rfl
@[simp] theorem State.setCtx_island (y z : Nat) : (s.setCtx d e x c).island y z = s.island y z  := rfl
@[simp] theorem State.setCtx_chan (y : Nat) : (s.setCtx d e x c).chan y = s.chan y  := rfl
@[simp] theorem State.setCtx_evt (y z u : Nat) : (s.setCtx d e x c).evt y z u = s.evt y z u  := rfl
@[simp] theorem State.setCtx_dioCell (y z : Nat) : (s.setCtx d e x c).dioCell y z = s.dioCell y z  := rfl
@[simp] theorem State.setCtx_bm (y z u : Nat) : (s.setCtx d e x c).bm y z u = s.bm y z u  := rfl
@[simp] theorem State.setCtx_bank (y z : Nat) : (s.setCtx d e x c).bank y z = s.bank y z  := rfl
@[simp] theorem State.setCtx_ixp (y z : Nat) : (s.setCtx d e x c).ixp y z = s.ixp y z  := rfl
@[simp] theorem State.setCtx_dram (y : Nat) : (s.setCtx d e x c).dram y = s.dram y  := rfl
@[simp] theorem State.setCtx_lane (y : Nat) : (s.setCtx d e x c).lane y = s.lane y  := rfl
@[simp] theorem State.setCtx_mac (y : Nat) : (s.setCtx d e x c).mac y = s.mac y  := rfl
@[simp] theorem State.setCtx_sl (y : Nat) : (s.setCtx d e x c).sl y = s.sl y  := rfl
@[simp] theorem State.setCtx_sc (y : Nat) : (s.setCtx d e x c).sc y = s.sc y  := rfl
@[simp] theorem State.setCtx_fwd (y : Nat) : (s.setCtx d e x c).fwd y = s.fwd y  := rfl
@[simp] theorem State.setCtx_land (y z : Nat) : (s.setCtx d e x c).land y z = s.land y z  := rfl
@[simp] theorem State.setCtx_inst (y : Nat) : (s.setCtx d e x c).inst y = s.inst y  := rfl
@[simp] theorem State.setCtx_core (y z : Nat) : (s.setCtx d e x c).core y z = s.core y z  := rfl
@[simp] theorem State.setCtx_ring (y : Nat) : (s.setCtx d e x c).ring y = s.ring y  := rfl
@[simp] theorem State.setCtx_pin (y : Nat) : (s.setCtx d e x c).pin y = s.pin y  := rfl
@[simp] theorem State.setCtx_tile (y : Nat) : (s.setCtx d e x c).tile y = s.tile y  := rfl
end

section
variable (s : State) (d b : Nat) (x : Landing)
@[simp] theorem State.setLand_regs : (s.setLand d b x).regs = s.regs  := rfl
@[simp] theorem State.setLand_freeCtr : (s.setLand d b x).freeCtr = s.freeCtr  := rfl
@[simp] theorem State.setLand_mem : (s.setLand d b x).mem = s.mem  := rfl
@[simp] theorem State.setLand_wb : (s.setLand d b x).wb = s.wb  := rfl
@[simp] theorem State.setLand_latch : (s.setLand d b x).latch = s.latch  := rfl
@[simp] theorem State.setLand_faultLine : (s.setLand d b x).faultLine = s.faultLine  := rfl
@[simp] theorem State.setLand_isl : (s.setLand d b x).isl = s.isl  := rfl
@[simp] theorem State.setLand_chans : (s.setLand d b x).chans = s.chans  := rfl
@[simp] theorem State.setLand_evts : (s.setLand d b x).evts = s.evts  := rfl
@[simp] theorem State.setLand_dio : (s.setLand d b x).dio = s.dio  := rfl
@[simp] theorem State.setLand_bms : (s.setLand d b x).bms = s.bms  := rfl
@[simp] theorem State.setLand_banks : (s.setLand d b x).banks = s.banks  := rfl
@[simp] theorem State.setLand_inFlight : (s.setLand d b x).inFlight = s.inFlight  := rfl
@[simp] theorem State.setLand_outst : (s.setLand d b x).outst = s.outst  := rfl
@[simp] theorem State.setLand_resps : (s.setLand d b x).resps = s.resps  := rfl
@[simp] theorem State.setLand_stopPart : (s.setLand d b x).stopPart = s.stopPart  := rfl
@[simp] theorem State.setLand_stopWait : (s.setLand d b x).stopWait = s.stopWait  := rfl
@[simp] theorem State.setLand_stopOut : (s.setLand d b x).stopOut = s.stopOut  := rfl
@[simp] theorem State.setLand_mailbox : (s.setLand d b x).mailbox = s.mailbox  := rfl
@[simp] theorem State.setLand_lostPairs : (s.setLand d b x).lostPairs = s.lostPairs  := rfl
@[simp] theorem State.setLand_net : (s.setLand d b x).net = s.net  := rfl
@[simp] theorem State.setLand_shadows : (s.setLand d b x).shadows = s.shadows  := rfl
@[simp] theorem State.setLand_ix : (s.setLand d b x).ix = s.ix  := rfl
@[simp] theorem State.setLand_credits : (s.setLand d b x).credits = s.credits  := rfl
@[simp] theorem State.setLand_drams : (s.setLand d b x).drams = s.drams  := rfl
@[simp] theorem State.setLand_lanes : (s.setLand d b x).lanes = s.lanes  := rfl
@[simp] theorem State.setLand_macs : (s.setLand d b x).macs = s.macs  := rfl
@[simp] theorem State.setLand_macLatFuse : (s.setLand d b x).macLatFuse = s.macLatFuse  := rfl
@[simp] theorem State.setLand_links : (s.setLand d b x).links = s.links  := rfl
@[simp] theorem State.setLand_pcs : (s.setLand d b x).pcs = s.pcs  := rfl
@[simp] theorem State.setLand_scs : (s.setLand d b x).scs = s.scs  := rfl
@[simp] theorem State.setLand_fwds : (s.setLand d b x).fwds = s.fwds  := rfl
@[simp] theorem State.setLand_sks : (s.setLand d b x).sks = s.sks  := rfl
@[simp] theorem State.setLand_gw : (s.setLand d b x).gw = s.gw  := rfl
@[simp] theorem State.setLand_follow : (s.setLand d b x).follow = s.follow  := rfl
@[simp] theorem State.setLand_switchTo : (s.setLand d b x).switchTo = s.switchTo  := rfl
@[simp] theorem State.setLand_headLost : (s.setLand d b x).headLost = s.headLost  := rfl
@[simp] theorem State.setLand_ctxs : (s.setLand d b x).ctxs = s.ctxs  := rfl
@[simp] theorem State.setLand_engines : (s.setLand d b x).engines = s.engines  := rfl
@[simp] theorem State.setLand_landing : (s.setLand d b x).landing = s.landing  := rfl
@[simp] theorem State.setLand_lio : (s.setLand d b x).lio = s.lio  := rfl
@[simp] theorem State.setLand_rxProv : (s.setLand d b x).rxProv = s.rxProv  := rfl
@[simp] theorem State.setLand_cfg : (s.setLand d b x).cfg = s.cfg  := rfl
@[simp] theorem State.setLand_cab : (s.setLand d b x).cab = s.cab  := rfl
@[simp] theorem State.setLand_cores : (s.setLand d b x).cores = s.cores  := rfl
@[simp] theorem State.setLand_dbg : (s.setLand d b x).dbg = s.dbg  := rfl
@[simp] theorem State.setLand_insts : (s.setLand d b x).insts = s.insts  := rfl
@[simp] theorem State.setLand_dup : (s.setLand d b x).dup = s.dup  := rfl
@[simp] theorem State.setLand_fm : (s.setLand d b x).fm = s.fm  := rfl
@[simp] theorem State.setLand_rst : (s.setLand d b x).rst = s.rst  := rfl
@[simp] theorem State.setLand_pending : (s.setLand d b x).pending = s.pending  := rfl
@[simp] theorem State.setLand_reg (rq : Reg) : (s.setLand d b x).reg rq = s.reg rq  := rfl
@[simp] theorem State.setLand_rf (g : Fld) (y z u : Nat) : (s.setLand d b x).rf g y z u = s.rf g y z u  := rfl
@[simp] theorem State.setLand_rb (g : Fld) (y z u : Nat) : (s.setLand d b x).rb g y z u = s.rb g y z u  := rfl
@[simp] theorem State.setLand_rw (g : RegName) (y z u : Nat) : (s.setLand d b x).rw g y z u = s.rw g y z u  := rfl
@[simp] theorem State.setLand_cell (y z : Nat) : (s.setLand d b x).cell y z = s.cell y z  := rfl
@[simp] theorem State.setLand_island (y z : Nat) : (s.setLand d b x).island y z = s.island y z  := rfl
@[simp] theorem State.setLand_chan (y : Nat) : (s.setLand d b x).chan y = s.chan y  := rfl
@[simp] theorem State.setLand_evt (y z u : Nat) : (s.setLand d b x).evt y z u = s.evt y z u  := rfl
@[simp] theorem State.setLand_dioCell (y z : Nat) : (s.setLand d b x).dioCell y z = s.dioCell y z  := rfl
@[simp] theorem State.setLand_bm (y z u : Nat) : (s.setLand d b x).bm y z u = s.bm y z u  := rfl
@[simp] theorem State.setLand_bank (y z : Nat) : (s.setLand d b x).bank y z = s.bank y z  := rfl
@[simp] theorem State.setLand_ixp (y z : Nat) : (s.setLand d b x).ixp y z = s.ixp y z  := rfl
@[simp] theorem State.setLand_dram (y : Nat) : (s.setLand d b x).dram y = s.dram y  := rfl
@[simp] theorem State.setLand_lane (y : Nat) : (s.setLand d b x).lane y = s.lane y  := rfl
@[simp] theorem State.setLand_mac (y : Nat) : (s.setLand d b x).mac y = s.mac y  := rfl
@[simp] theorem State.setLand_sl (y : Nat) : (s.setLand d b x).sl y = s.sl y  := rfl
@[simp] theorem State.setLand_sc (y : Nat) : (s.setLand d b x).sc y = s.sc y  := rfl
@[simp] theorem State.setLand_fwd (y : Nat) : (s.setLand d b x).fwd y = s.fwd y  := rfl
@[simp] theorem State.setLand_ctx (y z u : Nat) : (s.setLand d b x).ctx y z u = s.ctx y z u  := rfl
@[simp] theorem State.setLand_inst (y : Nat) : (s.setLand d b x).inst y = s.inst y  := rfl
@[simp] theorem State.setLand_core (y z : Nat) : (s.setLand d b x).core y z = s.core y z  := rfl
@[simp] theorem State.setLand_ring (y : Nat) : (s.setLand d b x).ring y = s.ring y  := rfl
@[simp] theorem State.setLand_pin (y : Nat) : (s.setLand d b x).pin y = s.pin y  := rfl
@[simp] theorem State.setLand_tile (y : Nat) : (s.setLand d b x).tile y = s.tile y  := rfl
end

section
variable (s : State) (i : Nat) (x : Inst)
@[simp] theorem State.setInst_regs : (s.setInst i x).regs = s.regs  := rfl
@[simp] theorem State.setInst_freeCtr : (s.setInst i x).freeCtr = s.freeCtr  := rfl
@[simp] theorem State.setInst_mem : (s.setInst i x).mem = s.mem  := rfl
@[simp] theorem State.setInst_wb : (s.setInst i x).wb = s.wb  := rfl
@[simp] theorem State.setInst_latch : (s.setInst i x).latch = s.latch  := rfl
@[simp] theorem State.setInst_faultLine : (s.setInst i x).faultLine = s.faultLine  := rfl
@[simp] theorem State.setInst_isl : (s.setInst i x).isl = s.isl  := rfl
@[simp] theorem State.setInst_chans : (s.setInst i x).chans = s.chans  := rfl
@[simp] theorem State.setInst_evts : (s.setInst i x).evts = s.evts  := rfl
@[simp] theorem State.setInst_dio : (s.setInst i x).dio = s.dio  := rfl
@[simp] theorem State.setInst_bms : (s.setInst i x).bms = s.bms  := rfl
@[simp] theorem State.setInst_banks : (s.setInst i x).banks = s.banks  := rfl
@[simp] theorem State.setInst_inFlight : (s.setInst i x).inFlight = s.inFlight  := rfl
@[simp] theorem State.setInst_outst : (s.setInst i x).outst = s.outst  := rfl
@[simp] theorem State.setInst_resps : (s.setInst i x).resps = s.resps  := rfl
@[simp] theorem State.setInst_stopPart : (s.setInst i x).stopPart = s.stopPart  := rfl
@[simp] theorem State.setInst_stopWait : (s.setInst i x).stopWait = s.stopWait  := rfl
@[simp] theorem State.setInst_stopOut : (s.setInst i x).stopOut = s.stopOut  := rfl
@[simp] theorem State.setInst_mailbox : (s.setInst i x).mailbox = s.mailbox  := rfl
@[simp] theorem State.setInst_lostPairs : (s.setInst i x).lostPairs = s.lostPairs  := rfl
@[simp] theorem State.setInst_net : (s.setInst i x).net = s.net  := rfl
@[simp] theorem State.setInst_shadows : (s.setInst i x).shadows = s.shadows  := rfl
@[simp] theorem State.setInst_ix : (s.setInst i x).ix = s.ix  := rfl
@[simp] theorem State.setInst_credits : (s.setInst i x).credits = s.credits  := rfl
@[simp] theorem State.setInst_drams : (s.setInst i x).drams = s.drams  := rfl
@[simp] theorem State.setInst_lanes : (s.setInst i x).lanes = s.lanes  := rfl
@[simp] theorem State.setInst_macs : (s.setInst i x).macs = s.macs  := rfl
@[simp] theorem State.setInst_macLatFuse : (s.setInst i x).macLatFuse = s.macLatFuse  := rfl
@[simp] theorem State.setInst_links : (s.setInst i x).links = s.links  := rfl
@[simp] theorem State.setInst_pcs : (s.setInst i x).pcs = s.pcs  := rfl
@[simp] theorem State.setInst_scs : (s.setInst i x).scs = s.scs  := rfl
@[simp] theorem State.setInst_fwds : (s.setInst i x).fwds = s.fwds  := rfl
@[simp] theorem State.setInst_sks : (s.setInst i x).sks = s.sks  := rfl
@[simp] theorem State.setInst_gw : (s.setInst i x).gw = s.gw  := rfl
@[simp] theorem State.setInst_follow : (s.setInst i x).follow = s.follow  := rfl
@[simp] theorem State.setInst_switchTo : (s.setInst i x).switchTo = s.switchTo  := rfl
@[simp] theorem State.setInst_headLost : (s.setInst i x).headLost = s.headLost  := rfl
@[simp] theorem State.setInst_ctxs : (s.setInst i x).ctxs = s.ctxs  := rfl
@[simp] theorem State.setInst_engines : (s.setInst i x).engines = s.engines  := rfl
@[simp] theorem State.setInst_lands : (s.setInst i x).lands = s.lands  := rfl
@[simp] theorem State.setInst_landing : (s.setInst i x).landing = s.landing  := rfl
@[simp] theorem State.setInst_lio : (s.setInst i x).lio = s.lio  := rfl
@[simp] theorem State.setInst_rxProv : (s.setInst i x).rxProv = s.rxProv  := rfl
@[simp] theorem State.setInst_cfg : (s.setInst i x).cfg = s.cfg  := rfl
@[simp] theorem State.setInst_cab : (s.setInst i x).cab = s.cab  := rfl
@[simp] theorem State.setInst_cores : (s.setInst i x).cores = s.cores  := rfl
@[simp] theorem State.setInst_dbg : (s.setInst i x).dbg = s.dbg  := rfl
@[simp] theorem State.setInst_dup : (s.setInst i x).dup = s.dup  := rfl
@[simp] theorem State.setInst_fm : (s.setInst i x).fm = s.fm  := rfl
@[simp] theorem State.setInst_rst : (s.setInst i x).rst = s.rst  := rfl
@[simp] theorem State.setInst_pending : (s.setInst i x).pending = s.pending  := rfl
@[simp] theorem State.setInst_reg (rq : Reg) : (s.setInst i x).reg rq = s.reg rq  := rfl
@[simp] theorem State.setInst_rf (g : Fld) (y z u : Nat) : (s.setInst i x).rf g y z u = s.rf g y z u  := rfl
@[simp] theorem State.setInst_rb (g : Fld) (y z u : Nat) : (s.setInst i x).rb g y z u = s.rb g y z u  := rfl
@[simp] theorem State.setInst_rw (g : RegName) (y z u : Nat) : (s.setInst i x).rw g y z u = s.rw g y z u  := rfl
@[simp] theorem State.setInst_cell (y z : Nat) : (s.setInst i x).cell y z = s.cell y z  := rfl
@[simp] theorem State.setInst_island (y z : Nat) : (s.setInst i x).island y z = s.island y z  := rfl
@[simp] theorem State.setInst_chan (y : Nat) : (s.setInst i x).chan y = s.chan y  := rfl
@[simp] theorem State.setInst_evt (y z u : Nat) : (s.setInst i x).evt y z u = s.evt y z u  := rfl
@[simp] theorem State.setInst_dioCell (y z : Nat) : (s.setInst i x).dioCell y z = s.dioCell y z  := rfl
@[simp] theorem State.setInst_bm (y z u : Nat) : (s.setInst i x).bm y z u = s.bm y z u  := rfl
@[simp] theorem State.setInst_bank (y z : Nat) : (s.setInst i x).bank y z = s.bank y z  := rfl
@[simp] theorem State.setInst_ixp (y z : Nat) : (s.setInst i x).ixp y z = s.ixp y z  := rfl
@[simp] theorem State.setInst_dram (y : Nat) : (s.setInst i x).dram y = s.dram y  := rfl
@[simp] theorem State.setInst_lane (y : Nat) : (s.setInst i x).lane y = s.lane y  := rfl
@[simp] theorem State.setInst_mac (y : Nat) : (s.setInst i x).mac y = s.mac y  := rfl
@[simp] theorem State.setInst_sl (y : Nat) : (s.setInst i x).sl y = s.sl y  := rfl
@[simp] theorem State.setInst_sc (y : Nat) : (s.setInst i x).sc y = s.sc y  := rfl
@[simp] theorem State.setInst_fwd (y : Nat) : (s.setInst i x).fwd y = s.fwd y  := rfl
@[simp] theorem State.setInst_ctx (y z u : Nat) : (s.setInst i x).ctx y z u = s.ctx y z u  := rfl
@[simp] theorem State.setInst_land (y z : Nat) : (s.setInst i x).land y z = s.land y z  := rfl
@[simp] theorem State.setInst_core (y z : Nat) : (s.setInst i x).core y z = s.core y z  := rfl
@[simp] theorem State.setInst_ring (y : Nat) : (s.setInst i x).ring y = s.ring y  := rfl
@[simp] theorem State.setInst_pin (y : Nat) : (s.setInst i x).pin y = s.pin y  := rfl
@[simp] theorem State.setInst_tile (y : Nat) : (s.setInst i x).tile y = s.tile y  := rfl
end

section
variable (s : State) (d c : Nat) (x : Core)
@[simp] theorem State.setCore_regs : (s.setCore d c x).regs = s.regs  := rfl
@[simp] theorem State.setCore_freeCtr : (s.setCore d c x).freeCtr = s.freeCtr  := rfl
@[simp] theorem State.setCore_mem : (s.setCore d c x).mem = s.mem  := rfl
@[simp] theorem State.setCore_wb : (s.setCore d c x).wb = s.wb  := rfl
@[simp] theorem State.setCore_latch : (s.setCore d c x).latch = s.latch  := rfl
@[simp] theorem State.setCore_faultLine : (s.setCore d c x).faultLine = s.faultLine  := rfl
@[simp] theorem State.setCore_isl : (s.setCore d c x).isl = s.isl  := rfl
@[simp] theorem State.setCore_chans : (s.setCore d c x).chans = s.chans  := rfl
@[simp] theorem State.setCore_evts : (s.setCore d c x).evts = s.evts  := rfl
@[simp] theorem State.setCore_dio : (s.setCore d c x).dio = s.dio  := rfl
@[simp] theorem State.setCore_bms : (s.setCore d c x).bms = s.bms  := rfl
@[simp] theorem State.setCore_banks : (s.setCore d c x).banks = s.banks  := rfl
@[simp] theorem State.setCore_inFlight : (s.setCore d c x).inFlight = s.inFlight  := rfl
@[simp] theorem State.setCore_outst : (s.setCore d c x).outst = s.outst  := rfl
@[simp] theorem State.setCore_resps : (s.setCore d c x).resps = s.resps  := rfl
@[simp] theorem State.setCore_stopPart : (s.setCore d c x).stopPart = s.stopPart  := rfl
@[simp] theorem State.setCore_stopWait : (s.setCore d c x).stopWait = s.stopWait  := rfl
@[simp] theorem State.setCore_stopOut : (s.setCore d c x).stopOut = s.stopOut  := rfl
@[simp] theorem State.setCore_mailbox : (s.setCore d c x).mailbox = s.mailbox  := rfl
@[simp] theorem State.setCore_lostPairs : (s.setCore d c x).lostPairs = s.lostPairs  := rfl
@[simp] theorem State.setCore_net : (s.setCore d c x).net = s.net  := rfl
@[simp] theorem State.setCore_shadows : (s.setCore d c x).shadows = s.shadows  := rfl
@[simp] theorem State.setCore_ix : (s.setCore d c x).ix = s.ix  := rfl
@[simp] theorem State.setCore_credits : (s.setCore d c x).credits = s.credits  := rfl
@[simp] theorem State.setCore_drams : (s.setCore d c x).drams = s.drams  := rfl
@[simp] theorem State.setCore_lanes : (s.setCore d c x).lanes = s.lanes  := rfl
@[simp] theorem State.setCore_macs : (s.setCore d c x).macs = s.macs  := rfl
@[simp] theorem State.setCore_macLatFuse : (s.setCore d c x).macLatFuse = s.macLatFuse  := rfl
@[simp] theorem State.setCore_links : (s.setCore d c x).links = s.links  := rfl
@[simp] theorem State.setCore_pcs : (s.setCore d c x).pcs = s.pcs  := rfl
@[simp] theorem State.setCore_scs : (s.setCore d c x).scs = s.scs  := rfl
@[simp] theorem State.setCore_fwds : (s.setCore d c x).fwds = s.fwds  := rfl
@[simp] theorem State.setCore_sks : (s.setCore d c x).sks = s.sks  := rfl
@[simp] theorem State.setCore_gw : (s.setCore d c x).gw = s.gw  := rfl
@[simp] theorem State.setCore_follow : (s.setCore d c x).follow = s.follow  := rfl
@[simp] theorem State.setCore_switchTo : (s.setCore d c x).switchTo = s.switchTo  := rfl
@[simp] theorem State.setCore_headLost : (s.setCore d c x).headLost = s.headLost  := rfl
@[simp] theorem State.setCore_ctxs : (s.setCore d c x).ctxs = s.ctxs  := rfl
@[simp] theorem State.setCore_engines : (s.setCore d c x).engines = s.engines  := rfl
@[simp] theorem State.setCore_lands : (s.setCore d c x).lands = s.lands  := rfl
@[simp] theorem State.setCore_landing : (s.setCore d c x).landing = s.landing  := rfl
@[simp] theorem State.setCore_lio : (s.setCore d c x).lio = s.lio  := rfl
@[simp] theorem State.setCore_rxProv : (s.setCore d c x).rxProv = s.rxProv  := rfl
@[simp] theorem State.setCore_cfg : (s.setCore d c x).cfg = s.cfg  := rfl
@[simp] theorem State.setCore_cab : (s.setCore d c x).cab = s.cab  := rfl
@[simp] theorem State.setCore_dbg : (s.setCore d c x).dbg = s.dbg  := rfl
@[simp] theorem State.setCore_insts : (s.setCore d c x).insts = s.insts  := rfl
@[simp] theorem State.setCore_dup : (s.setCore d c x).dup = s.dup  := rfl
@[simp] theorem State.setCore_fm : (s.setCore d c x).fm = s.fm  := rfl
@[simp] theorem State.setCore_rst : (s.setCore d c x).rst = s.rst  := rfl
@[simp] theorem State.setCore_pending : (s.setCore d c x).pending = s.pending  := rfl
@[simp] theorem State.setCore_reg (rq : Reg) : (s.setCore d c x).reg rq = s.reg rq  := rfl
@[simp] theorem State.setCore_rf (g : Fld) (y z u : Nat) : (s.setCore d c x).rf g y z u = s.rf g y z u  := rfl
@[simp] theorem State.setCore_rb (g : Fld) (y z u : Nat) : (s.setCore d c x).rb g y z u = s.rb g y z u  := rfl
@[simp] theorem State.setCore_rw (g : RegName) (y z u : Nat) : (s.setCore d c x).rw g y z u = s.rw g y z u  := rfl
@[simp] theorem State.setCore_cell (y z : Nat) : (s.setCore d c x).cell y z = s.cell y z  := rfl
@[simp] theorem State.setCore_island (y z : Nat) : (s.setCore d c x).island y z = s.island y z  := rfl
@[simp] theorem State.setCore_chan (y : Nat) : (s.setCore d c x).chan y = s.chan y  := rfl
@[simp] theorem State.setCore_evt (y z u : Nat) : (s.setCore d c x).evt y z u = s.evt y z u  := rfl
@[simp] theorem State.setCore_dioCell (y z : Nat) : (s.setCore d c x).dioCell y z = s.dioCell y z  := rfl
@[simp] theorem State.setCore_bm (y z u : Nat) : (s.setCore d c x).bm y z u = s.bm y z u  := rfl
@[simp] theorem State.setCore_bank (y z : Nat) : (s.setCore d c x).bank y z = s.bank y z  := rfl
@[simp] theorem State.setCore_ixp (y z : Nat) : (s.setCore d c x).ixp y z = s.ixp y z  := rfl
@[simp] theorem State.setCore_dram (y : Nat) : (s.setCore d c x).dram y = s.dram y  := rfl
@[simp] theorem State.setCore_lane (y : Nat) : (s.setCore d c x).lane y = s.lane y  := rfl
@[simp] theorem State.setCore_mac (y : Nat) : (s.setCore d c x).mac y = s.mac y  := rfl
@[simp] theorem State.setCore_sl (y : Nat) : (s.setCore d c x).sl y = s.sl y  := rfl
@[simp] theorem State.setCore_sc (y : Nat) : (s.setCore d c x).sc y = s.sc y  := rfl
@[simp] theorem State.setCore_fwd (y : Nat) : (s.setCore d c x).fwd y = s.fwd y  := rfl
@[simp] theorem State.setCore_ctx (y z u : Nat) : (s.setCore d c x).ctx y z u = s.ctx y z u  := rfl
@[simp] theorem State.setCore_land (y z : Nat) : (s.setCore d c x).land y z = s.land y z  := rfl
@[simp] theorem State.setCore_inst (y : Nat) : (s.setCore d c x).inst y = s.inst y  := rfl
@[simp] theorem State.setCore_ring (y : Nat) : (s.setCore d c x).ring y = s.ring y  := rfl
@[simp] theorem State.setCore_pin (y : Nat) : (s.setCore d c x).pin y = s.pin y  := rfl
@[simp] theorem State.setCore_tile (y : Nat) : (s.setCore d c x).tile y = s.tile y  := rfl
end

section
variable (s : State) (c : Cab)
@[simp] theorem State.setCab_regs : (s.setCab c).regs = s.regs  := rfl
@[simp] theorem State.setCab_freeCtr : (s.setCab c).freeCtr = s.freeCtr  := rfl
@[simp] theorem State.setCab_mem : (s.setCab c).mem = s.mem  := rfl
@[simp] theorem State.setCab_wb : (s.setCab c).wb = s.wb  := rfl
@[simp] theorem State.setCab_latch : (s.setCab c).latch = s.latch  := rfl
@[simp] theorem State.setCab_faultLine : (s.setCab c).faultLine = s.faultLine  := rfl
@[simp] theorem State.setCab_isl : (s.setCab c).isl = s.isl  := rfl
@[simp] theorem State.setCab_chans : (s.setCab c).chans = s.chans  := rfl
@[simp] theorem State.setCab_evts : (s.setCab c).evts = s.evts  := rfl
@[simp] theorem State.setCab_dio : (s.setCab c).dio = s.dio  := rfl
@[simp] theorem State.setCab_bms : (s.setCab c).bms = s.bms  := rfl
@[simp] theorem State.setCab_banks : (s.setCab c).banks = s.banks  := rfl
@[simp] theorem State.setCab_inFlight : (s.setCab c).inFlight = s.inFlight  := rfl
@[simp] theorem State.setCab_outst : (s.setCab c).outst = s.outst  := rfl
@[simp] theorem State.setCab_resps : (s.setCab c).resps = s.resps  := rfl
@[simp] theorem State.setCab_stopPart : (s.setCab c).stopPart = s.stopPart  := rfl
@[simp] theorem State.setCab_stopWait : (s.setCab c).stopWait = s.stopWait  := rfl
@[simp] theorem State.setCab_stopOut : (s.setCab c).stopOut = s.stopOut  := rfl
@[simp] theorem State.setCab_mailbox : (s.setCab c).mailbox = s.mailbox  := rfl
@[simp] theorem State.setCab_lostPairs : (s.setCab c).lostPairs = s.lostPairs  := rfl
@[simp] theorem State.setCab_net : (s.setCab c).net = s.net  := rfl
@[simp] theorem State.setCab_shadows : (s.setCab c).shadows = s.shadows  := rfl
@[simp] theorem State.setCab_ix : (s.setCab c).ix = s.ix  := rfl
@[simp] theorem State.setCab_credits : (s.setCab c).credits = s.credits  := rfl
@[simp] theorem State.setCab_drams : (s.setCab c).drams = s.drams  := rfl
@[simp] theorem State.setCab_lanes : (s.setCab c).lanes = s.lanes  := rfl
@[simp] theorem State.setCab_macs : (s.setCab c).macs = s.macs  := rfl
@[simp] theorem State.setCab_macLatFuse : (s.setCab c).macLatFuse = s.macLatFuse  := rfl
@[simp] theorem State.setCab_links : (s.setCab c).links = s.links  := rfl
@[simp] theorem State.setCab_pcs : (s.setCab c).pcs = s.pcs  := rfl
@[simp] theorem State.setCab_scs : (s.setCab c).scs = s.scs  := rfl
@[simp] theorem State.setCab_fwds : (s.setCab c).fwds = s.fwds  := rfl
@[simp] theorem State.setCab_sks : (s.setCab c).sks = s.sks  := rfl
@[simp] theorem State.setCab_gw : (s.setCab c).gw = s.gw  := rfl
@[simp] theorem State.setCab_follow : (s.setCab c).follow = s.follow  := rfl
@[simp] theorem State.setCab_switchTo : (s.setCab c).switchTo = s.switchTo  := rfl
@[simp] theorem State.setCab_headLost : (s.setCab c).headLost = s.headLost  := rfl
@[simp] theorem State.setCab_ctxs : (s.setCab c).ctxs = s.ctxs  := rfl
@[simp] theorem State.setCab_engines : (s.setCab c).engines = s.engines  := rfl
@[simp] theorem State.setCab_lands : (s.setCab c).lands = s.lands  := rfl
@[simp] theorem State.setCab_landing : (s.setCab c).landing = s.landing  := rfl
@[simp] theorem State.setCab_lio : (s.setCab c).lio = s.lio  := rfl
@[simp] theorem State.setCab_rxProv : (s.setCab c).rxProv = s.rxProv  := rfl
@[simp] theorem State.setCab_cfg : (s.setCab c).cfg = s.cfg  := rfl
@[simp] theorem State.setCab_cores : (s.setCab c).cores = s.cores  := rfl
@[simp] theorem State.setCab_dbg : (s.setCab c).dbg = s.dbg  := rfl
@[simp] theorem State.setCab_insts : (s.setCab c).insts = s.insts  := rfl
@[simp] theorem State.setCab_dup : (s.setCab c).dup = s.dup  := rfl
@[simp] theorem State.setCab_fm : (s.setCab c).fm = s.fm  := rfl
@[simp] theorem State.setCab_rst : (s.setCab c).rst = s.rst  := rfl
@[simp] theorem State.setCab_pending : (s.setCab c).pending = s.pending  := rfl
@[simp] theorem State.setCab_reg (rq : Reg) : (s.setCab c).reg rq = s.reg rq  := rfl
@[simp] theorem State.setCab_rf (g : Fld) (y z u : Nat) : (s.setCab c).rf g y z u = s.rf g y z u  := rfl
@[simp] theorem State.setCab_rb (g : Fld) (y z u : Nat) : (s.setCab c).rb g y z u = s.rb g y z u  := rfl
@[simp] theorem State.setCab_rw (g : RegName) (y z u : Nat) : (s.setCab c).rw g y z u = s.rw g y z u  := rfl
@[simp] theorem State.setCab_cell (y z : Nat) : (s.setCab c).cell y z = s.cell y z  := rfl
@[simp] theorem State.setCab_island (y z : Nat) : (s.setCab c).island y z = s.island y z  := rfl
@[simp] theorem State.setCab_chan (y : Nat) : (s.setCab c).chan y = s.chan y  := rfl
@[simp] theorem State.setCab_evt (y z u : Nat) : (s.setCab c).evt y z u = s.evt y z u  := rfl
@[simp] theorem State.setCab_dioCell (y z : Nat) : (s.setCab c).dioCell y z = s.dioCell y z  := rfl
@[simp] theorem State.setCab_bm (y z u : Nat) : (s.setCab c).bm y z u = s.bm y z u  := rfl
@[simp] theorem State.setCab_bank (y z : Nat) : (s.setCab c).bank y z = s.bank y z  := rfl
@[simp] theorem State.setCab_ixp (y z : Nat) : (s.setCab c).ixp y z = s.ixp y z  := rfl
@[simp] theorem State.setCab_dram (y : Nat) : (s.setCab c).dram y = s.dram y  := rfl
@[simp] theorem State.setCab_lane (y : Nat) : (s.setCab c).lane y = s.lane y  := rfl
@[simp] theorem State.setCab_mac (y : Nat) : (s.setCab c).mac y = s.mac y  := rfl
@[simp] theorem State.setCab_sl (y : Nat) : (s.setCab c).sl y = s.sl y  := rfl
@[simp] theorem State.setCab_sc (y : Nat) : (s.setCab c).sc y = s.sc y  := rfl
@[simp] theorem State.setCab_fwd (y : Nat) : (s.setCab c).fwd y = s.fwd y  := rfl
@[simp] theorem State.setCab_ctx (y z u : Nat) : (s.setCab c).ctx y z u = s.ctx y z u  := rfl
@[simp] theorem State.setCab_land (y z : Nat) : (s.setCab c).land y z = s.land y z  := rfl
@[simp] theorem State.setCab_inst (y : Nat) : (s.setCab c).inst y = s.inst y  := rfl
@[simp] theorem State.setCab_core (y z : Nat) : (s.setCab c).core y z = s.core y z  := rfl
@[simp] theorem State.setCab_ring (y : Nat) : (s.setCab c).ring y = s.ring y  := rfl
@[simp] theorem State.setCab_pin (y : Nat) : (s.setCab c).pin y = s.pin y  := rfl
@[simp] theorem State.setCab_tile (y : Nat) : (s.setCab c).tile y = s.tile y  := rfl
end

section
variable (s : State) (c : Cfg)
@[simp] theorem State.setCfg_regs : (s.setCfg c).regs = s.regs  := rfl
@[simp] theorem State.setCfg_freeCtr : (s.setCfg c).freeCtr = s.freeCtr  := rfl
@[simp] theorem State.setCfg_mem : (s.setCfg c).mem = s.mem  := rfl
@[simp] theorem State.setCfg_wb : (s.setCfg c).wb = s.wb  := rfl
@[simp] theorem State.setCfg_latch : (s.setCfg c).latch = s.latch  := rfl
@[simp] theorem State.setCfg_faultLine : (s.setCfg c).faultLine = s.faultLine  := rfl
@[simp] theorem State.setCfg_isl : (s.setCfg c).isl = s.isl  := rfl
@[simp] theorem State.setCfg_chans : (s.setCfg c).chans = s.chans  := rfl
@[simp] theorem State.setCfg_evts : (s.setCfg c).evts = s.evts  := rfl
@[simp] theorem State.setCfg_dio : (s.setCfg c).dio = s.dio  := rfl
@[simp] theorem State.setCfg_bms : (s.setCfg c).bms = s.bms  := rfl
@[simp] theorem State.setCfg_banks : (s.setCfg c).banks = s.banks  := rfl
@[simp] theorem State.setCfg_inFlight : (s.setCfg c).inFlight = s.inFlight  := rfl
@[simp] theorem State.setCfg_outst : (s.setCfg c).outst = s.outst  := rfl
@[simp] theorem State.setCfg_resps : (s.setCfg c).resps = s.resps  := rfl
@[simp] theorem State.setCfg_stopPart : (s.setCfg c).stopPart = s.stopPart  := rfl
@[simp] theorem State.setCfg_stopWait : (s.setCfg c).stopWait = s.stopWait  := rfl
@[simp] theorem State.setCfg_stopOut : (s.setCfg c).stopOut = s.stopOut  := rfl
@[simp] theorem State.setCfg_mailbox : (s.setCfg c).mailbox = s.mailbox  := rfl
@[simp] theorem State.setCfg_lostPairs : (s.setCfg c).lostPairs = s.lostPairs  := rfl
@[simp] theorem State.setCfg_net : (s.setCfg c).net = s.net  := rfl
@[simp] theorem State.setCfg_shadows : (s.setCfg c).shadows = s.shadows  := rfl
@[simp] theorem State.setCfg_ix : (s.setCfg c).ix = s.ix  := rfl
@[simp] theorem State.setCfg_credits : (s.setCfg c).credits = s.credits  := rfl
@[simp] theorem State.setCfg_drams : (s.setCfg c).drams = s.drams  := rfl
@[simp] theorem State.setCfg_lanes : (s.setCfg c).lanes = s.lanes  := rfl
@[simp] theorem State.setCfg_macs : (s.setCfg c).macs = s.macs  := rfl
@[simp] theorem State.setCfg_macLatFuse : (s.setCfg c).macLatFuse = s.macLatFuse  := rfl
@[simp] theorem State.setCfg_links : (s.setCfg c).links = s.links  := rfl
@[simp] theorem State.setCfg_pcs : (s.setCfg c).pcs = s.pcs  := rfl
@[simp] theorem State.setCfg_scs : (s.setCfg c).scs = s.scs  := rfl
@[simp] theorem State.setCfg_fwds : (s.setCfg c).fwds = s.fwds  := rfl
@[simp] theorem State.setCfg_sks : (s.setCfg c).sks = s.sks  := rfl
@[simp] theorem State.setCfg_gw : (s.setCfg c).gw = s.gw  := rfl
@[simp] theorem State.setCfg_follow : (s.setCfg c).follow = s.follow  := rfl
@[simp] theorem State.setCfg_switchTo : (s.setCfg c).switchTo = s.switchTo  := rfl
@[simp] theorem State.setCfg_headLost : (s.setCfg c).headLost = s.headLost  := rfl
@[simp] theorem State.setCfg_ctxs : (s.setCfg c).ctxs = s.ctxs  := rfl
@[simp] theorem State.setCfg_engines : (s.setCfg c).engines = s.engines  := rfl
@[simp] theorem State.setCfg_lands : (s.setCfg c).lands = s.lands  := rfl
@[simp] theorem State.setCfg_landing : (s.setCfg c).landing = s.landing  := rfl
@[simp] theorem State.setCfg_lio : (s.setCfg c).lio = s.lio  := rfl
@[simp] theorem State.setCfg_rxProv : (s.setCfg c).rxProv = s.rxProv  := rfl
@[simp] theorem State.setCfg_cab : (s.setCfg c).cab = s.cab  := rfl
@[simp] theorem State.setCfg_cores : (s.setCfg c).cores = s.cores  := rfl
@[simp] theorem State.setCfg_dbg : (s.setCfg c).dbg = s.dbg  := rfl
@[simp] theorem State.setCfg_insts : (s.setCfg c).insts = s.insts  := rfl
@[simp] theorem State.setCfg_dup : (s.setCfg c).dup = s.dup  := rfl
@[simp] theorem State.setCfg_fm : (s.setCfg c).fm = s.fm  := rfl
@[simp] theorem State.setCfg_rst : (s.setCfg c).rst = s.rst  := rfl
@[simp] theorem State.setCfg_pending : (s.setCfg c).pending = s.pending  := rfl
@[simp] theorem State.setCfg_reg (rq : Reg) : (s.setCfg c).reg rq = s.reg rq  := rfl
@[simp] theorem State.setCfg_rf (g : Fld) (y z u : Nat) : (s.setCfg c).rf g y z u = s.rf g y z u  := rfl
@[simp] theorem State.setCfg_rb (g : Fld) (y z u : Nat) : (s.setCfg c).rb g y z u = s.rb g y z u  := rfl
@[simp] theorem State.setCfg_rw (g : RegName) (y z u : Nat) : (s.setCfg c).rw g y z u = s.rw g y z u  := rfl
@[simp] theorem State.setCfg_cell (y z : Nat) : (s.setCfg c).cell y z = s.cell y z  := rfl
@[simp] theorem State.setCfg_island (y z : Nat) : (s.setCfg c).island y z = s.island y z  := rfl
@[simp] theorem State.setCfg_chan (y : Nat) : (s.setCfg c).chan y = s.chan y  := rfl
@[simp] theorem State.setCfg_evt (y z u : Nat) : (s.setCfg c).evt y z u = s.evt y z u  := rfl
@[simp] theorem State.setCfg_dioCell (y z : Nat) : (s.setCfg c).dioCell y z = s.dioCell y z  := rfl
@[simp] theorem State.setCfg_bm (y z u : Nat) : (s.setCfg c).bm y z u = s.bm y z u  := rfl
@[simp] theorem State.setCfg_bank (y z : Nat) : (s.setCfg c).bank y z = s.bank y z  := rfl
@[simp] theorem State.setCfg_ixp (y z : Nat) : (s.setCfg c).ixp y z = s.ixp y z  := rfl
@[simp] theorem State.setCfg_dram (y : Nat) : (s.setCfg c).dram y = s.dram y  := rfl
@[simp] theorem State.setCfg_lane (y : Nat) : (s.setCfg c).lane y = s.lane y  := rfl
@[simp] theorem State.setCfg_mac (y : Nat) : (s.setCfg c).mac y = s.mac y  := rfl
@[simp] theorem State.setCfg_sl (y : Nat) : (s.setCfg c).sl y = s.sl y  := rfl
@[simp] theorem State.setCfg_sc (y : Nat) : (s.setCfg c).sc y = s.sc y  := rfl
@[simp] theorem State.setCfg_fwd (y : Nat) : (s.setCfg c).fwd y = s.fwd y  := rfl
@[simp] theorem State.setCfg_ctx (y z u : Nat) : (s.setCfg c).ctx y z u = s.ctx y z u  := rfl
@[simp] theorem State.setCfg_land (y z : Nat) : (s.setCfg c).land y z = s.land y z  := rfl
@[simp] theorem State.setCfg_inst (y : Nat) : (s.setCfg c).inst y = s.inst y  := rfl
@[simp] theorem State.setCfg_core (y z : Nat) : (s.setCfg c).core y z = s.core y z  := rfl
@[simp] theorem State.setCfg_ring (y : Nat) : (s.setCfg c).ring y = s.ring y  := rfl
@[simp] theorem State.setCfg_pin (y : Nat) : (s.setCfg c).pin y = s.pin y  := rfl
@[simp] theorem State.setCfg_tile (y : Nat) : (s.setCfg c).tile y = s.tile y  := rfl
end

section
variable (s : State) (x : Debug)
@[simp] theorem State.setDbg_regs : (s.setDbg x).regs = s.regs  := rfl
@[simp] theorem State.setDbg_freeCtr : (s.setDbg x).freeCtr = s.freeCtr  := rfl
@[simp] theorem State.setDbg_mem : (s.setDbg x).mem = s.mem  := rfl
@[simp] theorem State.setDbg_wb : (s.setDbg x).wb = s.wb  := rfl
@[simp] theorem State.setDbg_latch : (s.setDbg x).latch = s.latch  := rfl
@[simp] theorem State.setDbg_faultLine : (s.setDbg x).faultLine = s.faultLine  := rfl
@[simp] theorem State.setDbg_isl : (s.setDbg x).isl = s.isl  := rfl
@[simp] theorem State.setDbg_chans : (s.setDbg x).chans = s.chans  := rfl
@[simp] theorem State.setDbg_evts : (s.setDbg x).evts = s.evts  := rfl
@[simp] theorem State.setDbg_dio : (s.setDbg x).dio = s.dio  := rfl
@[simp] theorem State.setDbg_bms : (s.setDbg x).bms = s.bms  := rfl
@[simp] theorem State.setDbg_banks : (s.setDbg x).banks = s.banks  := rfl
@[simp] theorem State.setDbg_inFlight : (s.setDbg x).inFlight = s.inFlight  := rfl
@[simp] theorem State.setDbg_outst : (s.setDbg x).outst = s.outst  := rfl
@[simp] theorem State.setDbg_resps : (s.setDbg x).resps = s.resps  := rfl
@[simp] theorem State.setDbg_stopPart : (s.setDbg x).stopPart = s.stopPart  := rfl
@[simp] theorem State.setDbg_stopWait : (s.setDbg x).stopWait = s.stopWait  := rfl
@[simp] theorem State.setDbg_stopOut : (s.setDbg x).stopOut = s.stopOut  := rfl
@[simp] theorem State.setDbg_mailbox : (s.setDbg x).mailbox = s.mailbox  := rfl
@[simp] theorem State.setDbg_lostPairs : (s.setDbg x).lostPairs = s.lostPairs  := rfl
@[simp] theorem State.setDbg_net : (s.setDbg x).net = s.net  := rfl
@[simp] theorem State.setDbg_shadows : (s.setDbg x).shadows = s.shadows  := rfl
@[simp] theorem State.setDbg_ix : (s.setDbg x).ix = s.ix  := rfl
@[simp] theorem State.setDbg_credits : (s.setDbg x).credits = s.credits  := rfl
@[simp] theorem State.setDbg_drams : (s.setDbg x).drams = s.drams  := rfl
@[simp] theorem State.setDbg_lanes : (s.setDbg x).lanes = s.lanes  := rfl
@[simp] theorem State.setDbg_macs : (s.setDbg x).macs = s.macs  := rfl
@[simp] theorem State.setDbg_macLatFuse : (s.setDbg x).macLatFuse = s.macLatFuse  := rfl
@[simp] theorem State.setDbg_links : (s.setDbg x).links = s.links  := rfl
@[simp] theorem State.setDbg_pcs : (s.setDbg x).pcs = s.pcs  := rfl
@[simp] theorem State.setDbg_scs : (s.setDbg x).scs = s.scs  := rfl
@[simp] theorem State.setDbg_fwds : (s.setDbg x).fwds = s.fwds  := rfl
@[simp] theorem State.setDbg_sks : (s.setDbg x).sks = s.sks  := rfl
@[simp] theorem State.setDbg_gw : (s.setDbg x).gw = s.gw  := rfl
@[simp] theorem State.setDbg_follow : (s.setDbg x).follow = s.follow  := rfl
@[simp] theorem State.setDbg_switchTo : (s.setDbg x).switchTo = s.switchTo  := rfl
@[simp] theorem State.setDbg_headLost : (s.setDbg x).headLost = s.headLost  := rfl
@[simp] theorem State.setDbg_ctxs : (s.setDbg x).ctxs = s.ctxs  := rfl
@[simp] theorem State.setDbg_engines : (s.setDbg x).engines = s.engines  := rfl
@[simp] theorem State.setDbg_lands : (s.setDbg x).lands = s.lands  := rfl
@[simp] theorem State.setDbg_landing : (s.setDbg x).landing = s.landing  := rfl
@[simp] theorem State.setDbg_lio : (s.setDbg x).lio = s.lio  := rfl
@[simp] theorem State.setDbg_rxProv : (s.setDbg x).rxProv = s.rxProv  := rfl
@[simp] theorem State.setDbg_cfg : (s.setDbg x).cfg = s.cfg  := rfl
@[simp] theorem State.setDbg_cab : (s.setDbg x).cab = s.cab  := rfl
@[simp] theorem State.setDbg_cores : (s.setDbg x).cores = s.cores  := rfl
@[simp] theorem State.setDbg_insts : (s.setDbg x).insts = s.insts  := rfl
@[simp] theorem State.setDbg_dup : (s.setDbg x).dup = s.dup  := rfl
@[simp] theorem State.setDbg_fm : (s.setDbg x).fm = s.fm  := rfl
@[simp] theorem State.setDbg_rst : (s.setDbg x).rst = s.rst  := rfl
@[simp] theorem State.setDbg_pending : (s.setDbg x).pending = s.pending  := rfl
@[simp] theorem State.setDbg_reg (rq : Reg) : (s.setDbg x).reg rq = s.reg rq  := rfl
@[simp] theorem State.setDbg_rf (g : Fld) (y z u : Nat) : (s.setDbg x).rf g y z u = s.rf g y z u  := rfl
@[simp] theorem State.setDbg_rb (g : Fld) (y z u : Nat) : (s.setDbg x).rb g y z u = s.rb g y z u  := rfl
@[simp] theorem State.setDbg_rw (g : RegName) (y z u : Nat) : (s.setDbg x).rw g y z u = s.rw g y z u  := rfl
@[simp] theorem State.setDbg_cell (y z : Nat) : (s.setDbg x).cell y z = s.cell y z  := rfl
@[simp] theorem State.setDbg_island (y z : Nat) : (s.setDbg x).island y z = s.island y z  := rfl
@[simp] theorem State.setDbg_chan (y : Nat) : (s.setDbg x).chan y = s.chan y  := rfl
@[simp] theorem State.setDbg_evt (y z u : Nat) : (s.setDbg x).evt y z u = s.evt y z u  := rfl
@[simp] theorem State.setDbg_dioCell (y z : Nat) : (s.setDbg x).dioCell y z = s.dioCell y z  := rfl
@[simp] theorem State.setDbg_bm (y z u : Nat) : (s.setDbg x).bm y z u = s.bm y z u  := rfl
@[simp] theorem State.setDbg_bank (y z : Nat) : (s.setDbg x).bank y z = s.bank y z  := rfl
@[simp] theorem State.setDbg_ixp (y z : Nat) : (s.setDbg x).ixp y z = s.ixp y z  := rfl
@[simp] theorem State.setDbg_dram (y : Nat) : (s.setDbg x).dram y = s.dram y  := rfl
@[simp] theorem State.setDbg_lane (y : Nat) : (s.setDbg x).lane y = s.lane y  := rfl
@[simp] theorem State.setDbg_mac (y : Nat) : (s.setDbg x).mac y = s.mac y  := rfl
@[simp] theorem State.setDbg_sl (y : Nat) : (s.setDbg x).sl y = s.sl y  := rfl
@[simp] theorem State.setDbg_sc (y : Nat) : (s.setDbg x).sc y = s.sc y  := rfl
@[simp] theorem State.setDbg_fwd (y : Nat) : (s.setDbg x).fwd y = s.fwd y  := rfl
@[simp] theorem State.setDbg_ctx (y z u : Nat) : (s.setDbg x).ctx y z u = s.ctx y z u  := rfl
@[simp] theorem State.setDbg_land (y z : Nat) : (s.setDbg x).land y z = s.land y z  := rfl
@[simp] theorem State.setDbg_inst (y : Nat) : (s.setDbg x).inst y = s.inst y  := rfl
@[simp] theorem State.setDbg_core (y z : Nat) : (s.setDbg x).core y z = s.core y z  := rfl
@[simp] theorem State.setDbg_ring (y : Nat) : (s.setDbg x).ring y = s.ring y  := rfl
@[simp] theorem State.setDbg_pin (y : Nat) : (s.setDbg x).pin y = s.pin y  := rfl
@[simp] theorem State.setDbg_tile (y : Nat) : (s.setDbg x).tile y = s.tile y  := rfl
end

section
variable (s : State) (x : Dup)
@[simp] theorem State.setDup_regs : (s.setDup x).regs = s.regs  := rfl
@[simp] theorem State.setDup_freeCtr : (s.setDup x).freeCtr = s.freeCtr  := rfl
@[simp] theorem State.setDup_mem : (s.setDup x).mem = s.mem  := rfl
@[simp] theorem State.setDup_wb : (s.setDup x).wb = s.wb  := rfl
@[simp] theorem State.setDup_latch : (s.setDup x).latch = s.latch  := rfl
@[simp] theorem State.setDup_faultLine : (s.setDup x).faultLine = s.faultLine  := rfl
@[simp] theorem State.setDup_isl : (s.setDup x).isl = s.isl  := rfl
@[simp] theorem State.setDup_chans : (s.setDup x).chans = s.chans  := rfl
@[simp] theorem State.setDup_evts : (s.setDup x).evts = s.evts  := rfl
@[simp] theorem State.setDup_dio : (s.setDup x).dio = s.dio  := rfl
@[simp] theorem State.setDup_bms : (s.setDup x).bms = s.bms  := rfl
@[simp] theorem State.setDup_banks : (s.setDup x).banks = s.banks  := rfl
@[simp] theorem State.setDup_inFlight : (s.setDup x).inFlight = s.inFlight  := rfl
@[simp] theorem State.setDup_outst : (s.setDup x).outst = s.outst  := rfl
@[simp] theorem State.setDup_resps : (s.setDup x).resps = s.resps  := rfl
@[simp] theorem State.setDup_stopPart : (s.setDup x).stopPart = s.stopPart  := rfl
@[simp] theorem State.setDup_stopWait : (s.setDup x).stopWait = s.stopWait  := rfl
@[simp] theorem State.setDup_stopOut : (s.setDup x).stopOut = s.stopOut  := rfl
@[simp] theorem State.setDup_mailbox : (s.setDup x).mailbox = s.mailbox  := rfl
@[simp] theorem State.setDup_lostPairs : (s.setDup x).lostPairs = s.lostPairs  := rfl
@[simp] theorem State.setDup_net : (s.setDup x).net = s.net  := rfl
@[simp] theorem State.setDup_shadows : (s.setDup x).shadows = s.shadows  := rfl
@[simp] theorem State.setDup_ix : (s.setDup x).ix = s.ix  := rfl
@[simp] theorem State.setDup_credits : (s.setDup x).credits = s.credits  := rfl
@[simp] theorem State.setDup_drams : (s.setDup x).drams = s.drams  := rfl
@[simp] theorem State.setDup_lanes : (s.setDup x).lanes = s.lanes  := rfl
@[simp] theorem State.setDup_macs : (s.setDup x).macs = s.macs  := rfl
@[simp] theorem State.setDup_macLatFuse : (s.setDup x).macLatFuse = s.macLatFuse  := rfl
@[simp] theorem State.setDup_links : (s.setDup x).links = s.links  := rfl
@[simp] theorem State.setDup_pcs : (s.setDup x).pcs = s.pcs  := rfl
@[simp] theorem State.setDup_scs : (s.setDup x).scs = s.scs  := rfl
@[simp] theorem State.setDup_fwds : (s.setDup x).fwds = s.fwds  := rfl
@[simp] theorem State.setDup_sks : (s.setDup x).sks = s.sks  := rfl
@[simp] theorem State.setDup_gw : (s.setDup x).gw = s.gw  := rfl
@[simp] theorem State.setDup_follow : (s.setDup x).follow = s.follow  := rfl
@[simp] theorem State.setDup_switchTo : (s.setDup x).switchTo = s.switchTo  := rfl
@[simp] theorem State.setDup_headLost : (s.setDup x).headLost = s.headLost  := rfl
@[simp] theorem State.setDup_ctxs : (s.setDup x).ctxs = s.ctxs  := rfl
@[simp] theorem State.setDup_engines : (s.setDup x).engines = s.engines  := rfl
@[simp] theorem State.setDup_lands : (s.setDup x).lands = s.lands  := rfl
@[simp] theorem State.setDup_landing : (s.setDup x).landing = s.landing  := rfl
@[simp] theorem State.setDup_lio : (s.setDup x).lio = s.lio  := rfl
@[simp] theorem State.setDup_rxProv : (s.setDup x).rxProv = s.rxProv  := rfl
@[simp] theorem State.setDup_cfg : (s.setDup x).cfg = s.cfg  := rfl
@[simp] theorem State.setDup_cab : (s.setDup x).cab = s.cab  := rfl
@[simp] theorem State.setDup_cores : (s.setDup x).cores = s.cores  := rfl
@[simp] theorem State.setDup_dbg : (s.setDup x).dbg = s.dbg  := rfl
@[simp] theorem State.setDup_insts : (s.setDup x).insts = s.insts  := rfl
@[simp] theorem State.setDup_fm : (s.setDup x).fm = s.fm  := rfl
@[simp] theorem State.setDup_rst : (s.setDup x).rst = s.rst  := rfl
@[simp] theorem State.setDup_pending : (s.setDup x).pending = s.pending  := rfl
@[simp] theorem State.setDup_reg (rq : Reg) : (s.setDup x).reg rq = s.reg rq  := rfl
@[simp] theorem State.setDup_rf (g : Fld) (y z u : Nat) : (s.setDup x).rf g y z u = s.rf g y z u  := rfl
@[simp] theorem State.setDup_rb (g : Fld) (y z u : Nat) : (s.setDup x).rb g y z u = s.rb g y z u  := rfl
@[simp] theorem State.setDup_rw (g : RegName) (y z u : Nat) : (s.setDup x).rw g y z u = s.rw g y z u  := rfl
@[simp] theorem State.setDup_cell (y z : Nat) : (s.setDup x).cell y z = s.cell y z  := rfl
@[simp] theorem State.setDup_island (y z : Nat) : (s.setDup x).island y z = s.island y z  := rfl
@[simp] theorem State.setDup_chan (y : Nat) : (s.setDup x).chan y = s.chan y  := rfl
@[simp] theorem State.setDup_evt (y z u : Nat) : (s.setDup x).evt y z u = s.evt y z u  := rfl
@[simp] theorem State.setDup_dioCell (y z : Nat) : (s.setDup x).dioCell y z = s.dioCell y z  := rfl
@[simp] theorem State.setDup_bm (y z u : Nat) : (s.setDup x).bm y z u = s.bm y z u  := rfl
@[simp] theorem State.setDup_bank (y z : Nat) : (s.setDup x).bank y z = s.bank y z  := rfl
@[simp] theorem State.setDup_ixp (y z : Nat) : (s.setDup x).ixp y z = s.ixp y z  := rfl
@[simp] theorem State.setDup_dram (y : Nat) : (s.setDup x).dram y = s.dram y  := rfl
@[simp] theorem State.setDup_lane (y : Nat) : (s.setDup x).lane y = s.lane y  := rfl
@[simp] theorem State.setDup_mac (y : Nat) : (s.setDup x).mac y = s.mac y  := rfl
@[simp] theorem State.setDup_sl (y : Nat) : (s.setDup x).sl y = s.sl y  := rfl
@[simp] theorem State.setDup_sc (y : Nat) : (s.setDup x).sc y = s.sc y  := rfl
@[simp] theorem State.setDup_fwd (y : Nat) : (s.setDup x).fwd y = s.fwd y  := rfl
@[simp] theorem State.setDup_ctx (y z u : Nat) : (s.setDup x).ctx y z u = s.ctx y z u  := rfl
@[simp] theorem State.setDup_land (y z : Nat) : (s.setDup x).land y z = s.land y z  := rfl
@[simp] theorem State.setDup_inst (y : Nat) : (s.setDup x).inst y = s.inst y  := rfl
@[simp] theorem State.setDup_core (y z : Nat) : (s.setDup x).core y z = s.core y z  := rfl
@[simp] theorem State.setDup_ring (y : Nat) : (s.setDup x).ring y = s.ring y  := rfl
@[simp] theorem State.setDup_pin (y : Nat) : (s.setDup x).pin y = s.pin y  := rfl
@[simp] theorem State.setDup_tile (y : Nat) : (s.setDup x).tile y = s.tile y  := rfl
end

section
variable (s : State) (x : Fm)
@[simp] theorem State.setFm_regs : (s.setFm x).regs = s.regs  := rfl
@[simp] theorem State.setFm_freeCtr : (s.setFm x).freeCtr = s.freeCtr  := rfl
@[simp] theorem State.setFm_mem : (s.setFm x).mem = s.mem  := rfl
@[simp] theorem State.setFm_wb : (s.setFm x).wb = s.wb  := rfl
@[simp] theorem State.setFm_latch : (s.setFm x).latch = s.latch  := rfl
@[simp] theorem State.setFm_faultLine : (s.setFm x).faultLine = s.faultLine  := rfl
@[simp] theorem State.setFm_isl : (s.setFm x).isl = s.isl  := rfl
@[simp] theorem State.setFm_chans : (s.setFm x).chans = s.chans  := rfl
@[simp] theorem State.setFm_evts : (s.setFm x).evts = s.evts  := rfl
@[simp] theorem State.setFm_dio : (s.setFm x).dio = s.dio  := rfl
@[simp] theorem State.setFm_bms : (s.setFm x).bms = s.bms  := rfl
@[simp] theorem State.setFm_banks : (s.setFm x).banks = s.banks  := rfl
@[simp] theorem State.setFm_inFlight : (s.setFm x).inFlight = s.inFlight  := rfl
@[simp] theorem State.setFm_outst : (s.setFm x).outst = s.outst  := rfl
@[simp] theorem State.setFm_resps : (s.setFm x).resps = s.resps  := rfl
@[simp] theorem State.setFm_stopPart : (s.setFm x).stopPart = s.stopPart  := rfl
@[simp] theorem State.setFm_stopWait : (s.setFm x).stopWait = s.stopWait  := rfl
@[simp] theorem State.setFm_stopOut : (s.setFm x).stopOut = s.stopOut  := rfl
@[simp] theorem State.setFm_mailbox : (s.setFm x).mailbox = s.mailbox  := rfl
@[simp] theorem State.setFm_lostPairs : (s.setFm x).lostPairs = s.lostPairs  := rfl
@[simp] theorem State.setFm_net : (s.setFm x).net = s.net  := rfl
@[simp] theorem State.setFm_shadows : (s.setFm x).shadows = s.shadows  := rfl
@[simp] theorem State.setFm_ix : (s.setFm x).ix = s.ix  := rfl
@[simp] theorem State.setFm_credits : (s.setFm x).credits = s.credits  := rfl
@[simp] theorem State.setFm_drams : (s.setFm x).drams = s.drams  := rfl
@[simp] theorem State.setFm_lanes : (s.setFm x).lanes = s.lanes  := rfl
@[simp] theorem State.setFm_macs : (s.setFm x).macs = s.macs  := rfl
@[simp] theorem State.setFm_macLatFuse : (s.setFm x).macLatFuse = s.macLatFuse  := rfl
@[simp] theorem State.setFm_links : (s.setFm x).links = s.links  := rfl
@[simp] theorem State.setFm_pcs : (s.setFm x).pcs = s.pcs  := rfl
@[simp] theorem State.setFm_scs : (s.setFm x).scs = s.scs  := rfl
@[simp] theorem State.setFm_fwds : (s.setFm x).fwds = s.fwds  := rfl
@[simp] theorem State.setFm_sks : (s.setFm x).sks = s.sks  := rfl
@[simp] theorem State.setFm_gw : (s.setFm x).gw = s.gw  := rfl
@[simp] theorem State.setFm_follow : (s.setFm x).follow = s.follow  := rfl
@[simp] theorem State.setFm_switchTo : (s.setFm x).switchTo = s.switchTo  := rfl
@[simp] theorem State.setFm_headLost : (s.setFm x).headLost = s.headLost  := rfl
@[simp] theorem State.setFm_ctxs : (s.setFm x).ctxs = s.ctxs  := rfl
@[simp] theorem State.setFm_engines : (s.setFm x).engines = s.engines  := rfl
@[simp] theorem State.setFm_lands : (s.setFm x).lands = s.lands  := rfl
@[simp] theorem State.setFm_landing : (s.setFm x).landing = s.landing  := rfl
@[simp] theorem State.setFm_lio : (s.setFm x).lio = s.lio  := rfl
@[simp] theorem State.setFm_rxProv : (s.setFm x).rxProv = s.rxProv  := rfl
@[simp] theorem State.setFm_cfg : (s.setFm x).cfg = s.cfg  := rfl
@[simp] theorem State.setFm_cab : (s.setFm x).cab = s.cab  := rfl
@[simp] theorem State.setFm_cores : (s.setFm x).cores = s.cores  := rfl
@[simp] theorem State.setFm_dbg : (s.setFm x).dbg = s.dbg  := rfl
@[simp] theorem State.setFm_insts : (s.setFm x).insts = s.insts  := rfl
@[simp] theorem State.setFm_dup : (s.setFm x).dup = s.dup  := rfl
@[simp] theorem State.setFm_rst : (s.setFm x).rst = s.rst  := rfl
@[simp] theorem State.setFm_pending : (s.setFm x).pending = s.pending  := rfl
@[simp] theorem State.setFm_reg (rq : Reg) : (s.setFm x).reg rq = s.reg rq  := rfl
@[simp] theorem State.setFm_rf (g : Fld) (y z u : Nat) : (s.setFm x).rf g y z u = s.rf g y z u  := rfl
@[simp] theorem State.setFm_rb (g : Fld) (y z u : Nat) : (s.setFm x).rb g y z u = s.rb g y z u  := rfl
@[simp] theorem State.setFm_rw (g : RegName) (y z u : Nat) : (s.setFm x).rw g y z u = s.rw g y z u  := rfl
@[simp] theorem State.setFm_cell (y z : Nat) : (s.setFm x).cell y z = s.cell y z  := rfl
@[simp] theorem State.setFm_island (y z : Nat) : (s.setFm x).island y z = s.island y z  := rfl
@[simp] theorem State.setFm_chan (y : Nat) : (s.setFm x).chan y = s.chan y  := rfl
@[simp] theorem State.setFm_evt (y z u : Nat) : (s.setFm x).evt y z u = s.evt y z u  := rfl
@[simp] theorem State.setFm_dioCell (y z : Nat) : (s.setFm x).dioCell y z = s.dioCell y z  := rfl
@[simp] theorem State.setFm_bm (y z u : Nat) : (s.setFm x).bm y z u = s.bm y z u  := rfl
@[simp] theorem State.setFm_bank (y z : Nat) : (s.setFm x).bank y z = s.bank y z  := rfl
@[simp] theorem State.setFm_ixp (y z : Nat) : (s.setFm x).ixp y z = s.ixp y z  := rfl
@[simp] theorem State.setFm_dram (y : Nat) : (s.setFm x).dram y = s.dram y  := rfl
@[simp] theorem State.setFm_lane (y : Nat) : (s.setFm x).lane y = s.lane y  := rfl
@[simp] theorem State.setFm_mac (y : Nat) : (s.setFm x).mac y = s.mac y  := rfl
@[simp] theorem State.setFm_sl (y : Nat) : (s.setFm x).sl y = s.sl y  := rfl
@[simp] theorem State.setFm_sc (y : Nat) : (s.setFm x).sc y = s.sc y  := rfl
@[simp] theorem State.setFm_fwd (y : Nat) : (s.setFm x).fwd y = s.fwd y  := rfl
@[simp] theorem State.setFm_ctx (y z u : Nat) : (s.setFm x).ctx y z u = s.ctx y z u  := rfl
@[simp] theorem State.setFm_land (y z : Nat) : (s.setFm x).land y z = s.land y z  := rfl
@[simp] theorem State.setFm_inst (y : Nat) : (s.setFm x).inst y = s.inst y  := rfl
@[simp] theorem State.setFm_core (y z : Nat) : (s.setFm x).core y z = s.core y z  := rfl
@[simp] theorem State.setFm_ring (y : Nat) : (s.setFm x).ring y = s.ring y  := rfl
@[simp] theorem State.setFm_pin (y : Nat) : (s.setFm x).pin y = s.pin y  := rfl
@[simp] theorem State.setFm_tile (y : Nat) : (s.setFm x).tile y = s.tile y  := rfl
end

section
variable (s : State) (x : Gw)
@[simp] theorem State.setGw_regs : (s.setGw x).regs = s.regs  := rfl
@[simp] theorem State.setGw_freeCtr : (s.setGw x).freeCtr = s.freeCtr  := rfl
@[simp] theorem State.setGw_mem : (s.setGw x).mem = s.mem  := rfl
@[simp] theorem State.setGw_wb : (s.setGw x).wb = s.wb  := rfl
@[simp] theorem State.setGw_latch : (s.setGw x).latch = s.latch  := rfl
@[simp] theorem State.setGw_faultLine : (s.setGw x).faultLine = s.faultLine  := rfl
@[simp] theorem State.setGw_isl : (s.setGw x).isl = s.isl  := rfl
@[simp] theorem State.setGw_chans : (s.setGw x).chans = s.chans  := rfl
@[simp] theorem State.setGw_evts : (s.setGw x).evts = s.evts  := rfl
@[simp] theorem State.setGw_dio : (s.setGw x).dio = s.dio  := rfl
@[simp] theorem State.setGw_bms : (s.setGw x).bms = s.bms  := rfl
@[simp] theorem State.setGw_banks : (s.setGw x).banks = s.banks  := rfl
@[simp] theorem State.setGw_inFlight : (s.setGw x).inFlight = s.inFlight  := rfl
@[simp] theorem State.setGw_outst : (s.setGw x).outst = s.outst  := rfl
@[simp] theorem State.setGw_resps : (s.setGw x).resps = s.resps  := rfl
@[simp] theorem State.setGw_stopPart : (s.setGw x).stopPart = s.stopPart  := rfl
@[simp] theorem State.setGw_stopWait : (s.setGw x).stopWait = s.stopWait  := rfl
@[simp] theorem State.setGw_stopOut : (s.setGw x).stopOut = s.stopOut  := rfl
@[simp] theorem State.setGw_mailbox : (s.setGw x).mailbox = s.mailbox  := rfl
@[simp] theorem State.setGw_lostPairs : (s.setGw x).lostPairs = s.lostPairs  := rfl
@[simp] theorem State.setGw_net : (s.setGw x).net = s.net  := rfl
@[simp] theorem State.setGw_shadows : (s.setGw x).shadows = s.shadows  := rfl
@[simp] theorem State.setGw_ix : (s.setGw x).ix = s.ix  := rfl
@[simp] theorem State.setGw_credits : (s.setGw x).credits = s.credits  := rfl
@[simp] theorem State.setGw_drams : (s.setGw x).drams = s.drams  := rfl
@[simp] theorem State.setGw_lanes : (s.setGw x).lanes = s.lanes  := rfl
@[simp] theorem State.setGw_macs : (s.setGw x).macs = s.macs  := rfl
@[simp] theorem State.setGw_macLatFuse : (s.setGw x).macLatFuse = s.macLatFuse  := rfl
@[simp] theorem State.setGw_links : (s.setGw x).links = s.links  := rfl
@[simp] theorem State.setGw_pcs : (s.setGw x).pcs = s.pcs  := rfl
@[simp] theorem State.setGw_scs : (s.setGw x).scs = s.scs  := rfl
@[simp] theorem State.setGw_fwds : (s.setGw x).fwds = s.fwds  := rfl
@[simp] theorem State.setGw_sks : (s.setGw x).sks = s.sks  := rfl
@[simp] theorem State.setGw_follow : (s.setGw x).follow = s.follow  := rfl
@[simp] theorem State.setGw_switchTo : (s.setGw x).switchTo = s.switchTo  := rfl
@[simp] theorem State.setGw_headLost : (s.setGw x).headLost = s.headLost  := rfl
@[simp] theorem State.setGw_ctxs : (s.setGw x).ctxs = s.ctxs  := rfl
@[simp] theorem State.setGw_engines : (s.setGw x).engines = s.engines  := rfl
@[simp] theorem State.setGw_lands : (s.setGw x).lands = s.lands  := rfl
@[simp] theorem State.setGw_landing : (s.setGw x).landing = s.landing  := rfl
@[simp] theorem State.setGw_lio : (s.setGw x).lio = s.lio  := rfl
@[simp] theorem State.setGw_rxProv : (s.setGw x).rxProv = s.rxProv  := rfl
@[simp] theorem State.setGw_cfg : (s.setGw x).cfg = s.cfg  := rfl
@[simp] theorem State.setGw_cab : (s.setGw x).cab = s.cab  := rfl
@[simp] theorem State.setGw_cores : (s.setGw x).cores = s.cores  := rfl
@[simp] theorem State.setGw_dbg : (s.setGw x).dbg = s.dbg  := rfl
@[simp] theorem State.setGw_insts : (s.setGw x).insts = s.insts  := rfl
@[simp] theorem State.setGw_dup : (s.setGw x).dup = s.dup  := rfl
@[simp] theorem State.setGw_fm : (s.setGw x).fm = s.fm  := rfl
@[simp] theorem State.setGw_rst : (s.setGw x).rst = s.rst  := rfl
@[simp] theorem State.setGw_pending : (s.setGw x).pending = s.pending  := rfl
@[simp] theorem State.setGw_reg (rq : Reg) : (s.setGw x).reg rq = s.reg rq  := rfl
@[simp] theorem State.setGw_rf (g : Fld) (y z u : Nat) : (s.setGw x).rf g y z u = s.rf g y z u  := rfl
@[simp] theorem State.setGw_rb (g : Fld) (y z u : Nat) : (s.setGw x).rb g y z u = s.rb g y z u  := rfl
@[simp] theorem State.setGw_rw (g : RegName) (y z u : Nat) : (s.setGw x).rw g y z u = s.rw g y z u  := rfl
@[simp] theorem State.setGw_cell (y z : Nat) : (s.setGw x).cell y z = s.cell y z  := rfl
@[simp] theorem State.setGw_island (y z : Nat) : (s.setGw x).island y z = s.island y z  := rfl
@[simp] theorem State.setGw_chan (y : Nat) : (s.setGw x).chan y = s.chan y  := rfl
@[simp] theorem State.setGw_evt (y z u : Nat) : (s.setGw x).evt y z u = s.evt y z u  := rfl
@[simp] theorem State.setGw_dioCell (y z : Nat) : (s.setGw x).dioCell y z = s.dioCell y z  := rfl
@[simp] theorem State.setGw_bm (y z u : Nat) : (s.setGw x).bm y z u = s.bm y z u  := rfl
@[simp] theorem State.setGw_bank (y z : Nat) : (s.setGw x).bank y z = s.bank y z  := rfl
@[simp] theorem State.setGw_ixp (y z : Nat) : (s.setGw x).ixp y z = s.ixp y z  := rfl
@[simp] theorem State.setGw_dram (y : Nat) : (s.setGw x).dram y = s.dram y  := rfl
@[simp] theorem State.setGw_lane (y : Nat) : (s.setGw x).lane y = s.lane y  := rfl
@[simp] theorem State.setGw_mac (y : Nat) : (s.setGw x).mac y = s.mac y  := rfl
@[simp] theorem State.setGw_sl (y : Nat) : (s.setGw x).sl y = s.sl y  := rfl
@[simp] theorem State.setGw_sc (y : Nat) : (s.setGw x).sc y = s.sc y  := rfl
@[simp] theorem State.setGw_fwd (y : Nat) : (s.setGw x).fwd y = s.fwd y  := rfl
@[simp] theorem State.setGw_ctx (y z u : Nat) : (s.setGw x).ctx y z u = s.ctx y z u  := rfl
@[simp] theorem State.setGw_land (y z : Nat) : (s.setGw x).land y z = s.land y z  := rfl
@[simp] theorem State.setGw_inst (y : Nat) : (s.setGw x).inst y = s.inst y  := rfl
@[simp] theorem State.setGw_core (y z : Nat) : (s.setGw x).core y z = s.core y z  := rfl
@[simp] theorem State.setGw_ring (y : Nat) : (s.setGw x).ring y = s.ring y  := rfl
@[simp] theorem State.setGw_pin (y : Nat) : (s.setGw x).pin y = s.pin y  := rfl
@[simp] theorem State.setGw_tile (y : Nat) : (s.setGw x).tile y = s.tile y  := rfl
end

section
variable (s : State) (x : Rst)
@[simp] theorem State.setRst_regs : (s.setRst x).regs = s.regs  := rfl
@[simp] theorem State.setRst_freeCtr : (s.setRst x).freeCtr = s.freeCtr  := rfl
@[simp] theorem State.setRst_mem : (s.setRst x).mem = s.mem  := rfl
@[simp] theorem State.setRst_wb : (s.setRst x).wb = s.wb  := rfl
@[simp] theorem State.setRst_latch : (s.setRst x).latch = s.latch  := rfl
@[simp] theorem State.setRst_faultLine : (s.setRst x).faultLine = s.faultLine  := rfl
@[simp] theorem State.setRst_isl : (s.setRst x).isl = s.isl  := rfl
@[simp] theorem State.setRst_chans : (s.setRst x).chans = s.chans  := rfl
@[simp] theorem State.setRst_evts : (s.setRst x).evts = s.evts  := rfl
@[simp] theorem State.setRst_dio : (s.setRst x).dio = s.dio  := rfl
@[simp] theorem State.setRst_bms : (s.setRst x).bms = s.bms  := rfl
@[simp] theorem State.setRst_banks : (s.setRst x).banks = s.banks  := rfl
@[simp] theorem State.setRst_inFlight : (s.setRst x).inFlight = s.inFlight  := rfl
@[simp] theorem State.setRst_outst : (s.setRst x).outst = s.outst  := rfl
@[simp] theorem State.setRst_resps : (s.setRst x).resps = s.resps  := rfl
@[simp] theorem State.setRst_stopPart : (s.setRst x).stopPart = s.stopPart  := rfl
@[simp] theorem State.setRst_stopWait : (s.setRst x).stopWait = s.stopWait  := rfl
@[simp] theorem State.setRst_stopOut : (s.setRst x).stopOut = s.stopOut  := rfl
@[simp] theorem State.setRst_mailbox : (s.setRst x).mailbox = s.mailbox  := rfl
@[simp] theorem State.setRst_lostPairs : (s.setRst x).lostPairs = s.lostPairs  := rfl
@[simp] theorem State.setRst_net : (s.setRst x).net = s.net  := rfl
@[simp] theorem State.setRst_shadows : (s.setRst x).shadows = s.shadows  := rfl
@[simp] theorem State.setRst_ix : (s.setRst x).ix = s.ix  := rfl
@[simp] theorem State.setRst_credits : (s.setRst x).credits = s.credits  := rfl
@[simp] theorem State.setRst_drams : (s.setRst x).drams = s.drams  := rfl
@[simp] theorem State.setRst_lanes : (s.setRst x).lanes = s.lanes  := rfl
@[simp] theorem State.setRst_macs : (s.setRst x).macs = s.macs  := rfl
@[simp] theorem State.setRst_macLatFuse : (s.setRst x).macLatFuse = s.macLatFuse  := rfl
@[simp] theorem State.setRst_links : (s.setRst x).links = s.links  := rfl
@[simp] theorem State.setRst_pcs : (s.setRst x).pcs = s.pcs  := rfl
@[simp] theorem State.setRst_scs : (s.setRst x).scs = s.scs  := rfl
@[simp] theorem State.setRst_fwds : (s.setRst x).fwds = s.fwds  := rfl
@[simp] theorem State.setRst_sks : (s.setRst x).sks = s.sks  := rfl
@[simp] theorem State.setRst_gw : (s.setRst x).gw = s.gw  := rfl
@[simp] theorem State.setRst_follow : (s.setRst x).follow = s.follow  := rfl
@[simp] theorem State.setRst_switchTo : (s.setRst x).switchTo = s.switchTo  := rfl
@[simp] theorem State.setRst_headLost : (s.setRst x).headLost = s.headLost  := rfl
@[simp] theorem State.setRst_ctxs : (s.setRst x).ctxs = s.ctxs  := rfl
@[simp] theorem State.setRst_engines : (s.setRst x).engines = s.engines  := rfl
@[simp] theorem State.setRst_lands : (s.setRst x).lands = s.lands  := rfl
@[simp] theorem State.setRst_landing : (s.setRst x).landing = s.landing  := rfl
@[simp] theorem State.setRst_lio : (s.setRst x).lio = s.lio  := rfl
@[simp] theorem State.setRst_rxProv : (s.setRst x).rxProv = s.rxProv  := rfl
@[simp] theorem State.setRst_cfg : (s.setRst x).cfg = s.cfg  := rfl
@[simp] theorem State.setRst_cab : (s.setRst x).cab = s.cab  := rfl
@[simp] theorem State.setRst_cores : (s.setRst x).cores = s.cores  := rfl
@[simp] theorem State.setRst_dbg : (s.setRst x).dbg = s.dbg  := rfl
@[simp] theorem State.setRst_insts : (s.setRst x).insts = s.insts  := rfl
@[simp] theorem State.setRst_dup : (s.setRst x).dup = s.dup  := rfl
@[simp] theorem State.setRst_fm : (s.setRst x).fm = s.fm  := rfl
@[simp] theorem State.setRst_pending : (s.setRst x).pending = s.pending  := rfl
@[simp] theorem State.setRst_reg (rq : Reg) : (s.setRst x).reg rq = s.reg rq  := rfl
@[simp] theorem State.setRst_rf (g : Fld) (y z u : Nat) : (s.setRst x).rf g y z u = s.rf g y z u  := rfl
@[simp] theorem State.setRst_rb (g : Fld) (y z u : Nat) : (s.setRst x).rb g y z u = s.rb g y z u  := rfl
@[simp] theorem State.setRst_rw (g : RegName) (y z u : Nat) : (s.setRst x).rw g y z u = s.rw g y z u  := rfl
@[simp] theorem State.setRst_cell (y z : Nat) : (s.setRst x).cell y z = s.cell y z  := rfl
@[simp] theorem State.setRst_island (y z : Nat) : (s.setRst x).island y z = s.island y z  := rfl
@[simp] theorem State.setRst_chan (y : Nat) : (s.setRst x).chan y = s.chan y  := rfl
@[simp] theorem State.setRst_evt (y z u : Nat) : (s.setRst x).evt y z u = s.evt y z u  := rfl
@[simp] theorem State.setRst_dioCell (y z : Nat) : (s.setRst x).dioCell y z = s.dioCell y z  := rfl
@[simp] theorem State.setRst_bm (y z u : Nat) : (s.setRst x).bm y z u = s.bm y z u  := rfl
@[simp] theorem State.setRst_bank (y z : Nat) : (s.setRst x).bank y z = s.bank y z  := rfl
@[simp] theorem State.setRst_ixp (y z : Nat) : (s.setRst x).ixp y z = s.ixp y z  := rfl
@[simp] theorem State.setRst_dram (y : Nat) : (s.setRst x).dram y = s.dram y  := rfl
@[simp] theorem State.setRst_lane (y : Nat) : (s.setRst x).lane y = s.lane y  := rfl
@[simp] theorem State.setRst_mac (y : Nat) : (s.setRst x).mac y = s.mac y  := rfl
@[simp] theorem State.setRst_sl (y : Nat) : (s.setRst x).sl y = s.sl y  := rfl
@[simp] theorem State.setRst_sc (y : Nat) : (s.setRst x).sc y = s.sc y  := rfl
@[simp] theorem State.setRst_fwd (y : Nat) : (s.setRst x).fwd y = s.fwd y  := rfl
@[simp] theorem State.setRst_ctx (y z u : Nat) : (s.setRst x).ctx y z u = s.ctx y z u  := rfl
@[simp] theorem State.setRst_land (y z : Nat) : (s.setRst x).land y z = s.land y z  := rfl
@[simp] theorem State.setRst_inst (y : Nat) : (s.setRst x).inst y = s.inst y  := rfl
@[simp] theorem State.setRst_core (y z : Nat) : (s.setRst x).core y z = s.core y z  := rfl
@[simp] theorem State.setRst_ring (y : Nat) : (s.setRst x).ring y = s.ring y  := rfl
@[simp] theorem State.setRst_pin (y : Nat) : (s.setRst x).pin y = s.pin y  := rfl
@[simp] theorem State.setRst_tile (y : Nat) : (s.setRst x).tile y = s.tile y  := rfl
end

section
variable (s : State) (x : TimeBase)
@[simp] theorem State.setTb_regs : (s.setTb x).regs = s.regs  := rfl
@[simp] theorem State.setTb_freeCtr : (s.setTb x).freeCtr = s.freeCtr  := rfl
@[simp] theorem State.setTb_mem : (s.setTb x).mem = s.mem  := rfl
@[simp] theorem State.setTb_wb : (s.setTb x).wb = s.wb  := rfl
@[simp] theorem State.setTb_latch : (s.setTb x).latch = s.latch  := rfl
@[simp] theorem State.setTb_faultLine : (s.setTb x).faultLine = s.faultLine  := rfl
@[simp] theorem State.setTb_isl : (s.setTb x).isl = s.isl  := rfl
@[simp] theorem State.setTb_chans : (s.setTb x).chans = s.chans  := rfl
@[simp] theorem State.setTb_evts : (s.setTb x).evts = s.evts  := rfl
@[simp] theorem State.setTb_dio : (s.setTb x).dio = s.dio  := rfl
@[simp] theorem State.setTb_bms : (s.setTb x).bms = s.bms  := rfl
@[simp] theorem State.setTb_banks : (s.setTb x).banks = s.banks  := rfl
@[simp] theorem State.setTb_inFlight : (s.setTb x).inFlight = s.inFlight  := rfl
@[simp] theorem State.setTb_outst : (s.setTb x).outst = s.outst  := rfl
@[simp] theorem State.setTb_resps : (s.setTb x).resps = s.resps  := rfl
@[simp] theorem State.setTb_stopPart : (s.setTb x).stopPart = s.stopPart  := rfl
@[simp] theorem State.setTb_stopWait : (s.setTb x).stopWait = s.stopWait  := rfl
@[simp] theorem State.setTb_stopOut : (s.setTb x).stopOut = s.stopOut  := rfl
@[simp] theorem State.setTb_mailbox : (s.setTb x).mailbox = s.mailbox  := rfl
@[simp] theorem State.setTb_lostPairs : (s.setTb x).lostPairs = s.lostPairs  := rfl
@[simp] theorem State.setTb_net : (s.setTb x).net = s.net  := rfl
@[simp] theorem State.setTb_shadows : (s.setTb x).shadows = s.shadows  := rfl
@[simp] theorem State.setTb_ix : (s.setTb x).ix = s.ix  := rfl
@[simp] theorem State.setTb_credits : (s.setTb x).credits = s.credits  := rfl
@[simp] theorem State.setTb_drams : (s.setTb x).drams = s.drams  := rfl
@[simp] theorem State.setTb_lanes : (s.setTb x).lanes = s.lanes  := rfl
@[simp] theorem State.setTb_macs : (s.setTb x).macs = s.macs  := rfl
@[simp] theorem State.setTb_macLatFuse : (s.setTb x).macLatFuse = s.macLatFuse  := rfl
@[simp] theorem State.setTb_links : (s.setTb x).links = s.links  := rfl
@[simp] theorem State.setTb_pcs : (s.setTb x).pcs = s.pcs  := rfl
@[simp] theorem State.setTb_scs : (s.setTb x).scs = s.scs  := rfl
@[simp] theorem State.setTb_fwds : (s.setTb x).fwds = s.fwds  := rfl
@[simp] theorem State.setTb_sks : (s.setTb x).sks = s.sks  := rfl
@[simp] theorem State.setTb_gw : (s.setTb x).gw = s.gw  := rfl
@[simp] theorem State.setTb_follow : (s.setTb x).follow = s.follow  := rfl
@[simp] theorem State.setTb_switchTo : (s.setTb x).switchTo = s.switchTo  := rfl
@[simp] theorem State.setTb_headLost : (s.setTb x).headLost = s.headLost  := rfl
@[simp] theorem State.setTb_ctxs : (s.setTb x).ctxs = s.ctxs  := rfl
@[simp] theorem State.setTb_engines : (s.setTb x).engines = s.engines  := rfl
@[simp] theorem State.setTb_lands : (s.setTb x).lands = s.lands  := rfl
@[simp] theorem State.setTb_landing : (s.setTb x).landing = s.landing  := rfl
@[simp] theorem State.setTb_rxProv : (s.setTb x).rxProv = s.rxProv  := rfl
@[simp] theorem State.setTb_cfg : (s.setTb x).cfg = s.cfg  := rfl
@[simp] theorem State.setTb_cab : (s.setTb x).cab = s.cab  := rfl
@[simp] theorem State.setTb_cores : (s.setTb x).cores = s.cores  := rfl
@[simp] theorem State.setTb_dbg : (s.setTb x).dbg = s.dbg  := rfl
@[simp] theorem State.setTb_insts : (s.setTb x).insts = s.insts  := rfl
@[simp] theorem State.setTb_dup : (s.setTb x).dup = s.dup  := rfl
@[simp] theorem State.setTb_fm : (s.setTb x).fm = s.fm  := rfl
@[simp] theorem State.setTb_rst : (s.setTb x).rst = s.rst  := rfl
@[simp] theorem State.setTb_pending : (s.setTb x).pending = s.pending  := rfl
@[simp] theorem State.setTb_reg (rq : Reg) : (s.setTb x).reg rq = s.reg rq  := rfl
@[simp] theorem State.setTb_rf (g : Fld) (y z u : Nat) : (s.setTb x).rf g y z u = s.rf g y z u  := rfl
@[simp] theorem State.setTb_rb (g : Fld) (y z u : Nat) : (s.setTb x).rb g y z u = s.rb g y z u  := rfl
@[simp] theorem State.setTb_rw (g : RegName) (y z u : Nat) : (s.setTb x).rw g y z u = s.rw g y z u  := rfl
@[simp] theorem State.setTb_cell (y z : Nat) : (s.setTb x).cell y z = s.cell y z  := rfl
@[simp] theorem State.setTb_island (y z : Nat) : (s.setTb x).island y z = s.island y z  := rfl
@[simp] theorem State.setTb_chan (y : Nat) : (s.setTb x).chan y = s.chan y  := rfl
@[simp] theorem State.setTb_evt (y z u : Nat) : (s.setTb x).evt y z u = s.evt y z u  := rfl
@[simp] theorem State.setTb_dioCell (y z : Nat) : (s.setTb x).dioCell y z = s.dioCell y z  := rfl
@[simp] theorem State.setTb_bm (y z u : Nat) : (s.setTb x).bm y z u = s.bm y z u  := rfl
@[simp] theorem State.setTb_bank (y z : Nat) : (s.setTb x).bank y z = s.bank y z  := rfl
@[simp] theorem State.setTb_ixp (y z : Nat) : (s.setTb x).ixp y z = s.ixp y z  := rfl
@[simp] theorem State.setTb_dram (y : Nat) : (s.setTb x).dram y = s.dram y  := rfl
@[simp] theorem State.setTb_lane (y : Nat) : (s.setTb x).lane y = s.lane y  := rfl
@[simp] theorem State.setTb_mac (y : Nat) : (s.setTb x).mac y = s.mac y  := rfl
@[simp] theorem State.setTb_sl (y : Nat) : (s.setTb x).sl y = s.sl y  := rfl
@[simp] theorem State.setTb_sc (y : Nat) : (s.setTb x).sc y = s.sc y  := rfl
@[simp] theorem State.setTb_fwd (y : Nat) : (s.setTb x).fwd y = s.fwd y  := rfl
@[simp] theorem State.setTb_ctx (y z u : Nat) : (s.setTb x).ctx y z u = s.ctx y z u  := rfl
@[simp] theorem State.setTb_land (y z : Nat) : (s.setTb x).land y z = s.land y z  := rfl
@[simp] theorem State.setTb_inst (y : Nat) : (s.setTb x).inst y = s.inst y  := rfl
@[simp] theorem State.setTb_core (y z : Nat) : (s.setTb x).core y z = s.core y z  := rfl
end

section
variable (s : State) (r : Nat) (x : Ring)
@[simp] theorem State.setRing_freeCtr : (s.setRing r x).freeCtr = s.freeCtr := by
  unfold State.setRing; rw [State.wf_freeCtr]
@[simp] theorem State.setRing_mem : (s.setRing r x).mem = s.mem := by
  unfold State.setRing; rw [State.wf_mem]
@[simp] theorem State.setRing_wb : (s.setRing r x).wb = s.wb := by
  unfold State.setRing; rw [State.wf_wb]
@[simp] theorem State.setRing_latch : (s.setRing r x).latch = s.latch := by
  unfold State.setRing; rw [State.wf_latch]
@[simp] theorem State.setRing_faultLine : (s.setRing r x).faultLine = s.faultLine := by
  unfold State.setRing; rw [State.wf_faultLine]
@[simp] theorem State.setRing_isl : (s.setRing r x).isl = s.isl := by
  unfold State.setRing; rw [State.wf_isl]
@[simp] theorem State.setRing_chans : (s.setRing r x).chans = s.chans := by
  unfold State.setRing; rw [State.wf_chans]
@[simp] theorem State.setRing_evts : (s.setRing r x).evts = s.evts := by
  unfold State.setRing; rw [State.wf_evts]
@[simp] theorem State.setRing_dio : (s.setRing r x).dio = s.dio := by
  unfold State.setRing; rw [State.wf_dio]
@[simp] theorem State.setRing_bms : (s.setRing r x).bms = s.bms := by
  unfold State.setRing; rw [State.wf_bms]
@[simp] theorem State.setRing_banks : (s.setRing r x).banks = s.banks := by
  unfold State.setRing; rw [State.wf_banks]
@[simp] theorem State.setRing_inFlight : (s.setRing r x).inFlight = s.inFlight := by
  unfold State.setRing; rw [State.wf_inFlight]
@[simp] theorem State.setRing_outst : (s.setRing r x).outst = s.outst := by
  unfold State.setRing; rw [State.wf_outst]
@[simp] theorem State.setRing_resps : (s.setRing r x).resps = s.resps := by
  unfold State.setRing; rw [State.wf_resps]
@[simp] theorem State.setRing_stopPart : (s.setRing r x).stopPart = s.stopPart := by
  unfold State.setRing; rw [State.wf_stopPart]
@[simp] theorem State.setRing_stopWait : (s.setRing r x).stopWait = s.stopWait := by
  unfold State.setRing; rw [State.wf_stopWait]
@[simp] theorem State.setRing_stopOut : (s.setRing r x).stopOut = s.stopOut := by
  unfold State.setRing; rw [State.wf_stopOut]
@[simp] theorem State.setRing_mailbox : (s.setRing r x).mailbox = s.mailbox := by
  unfold State.setRing; rw [State.wf_mailbox]
@[simp] theorem State.setRing_lostPairs : (s.setRing r x).lostPairs = s.lostPairs := by
  unfold State.setRing; rw [State.wf_lostPairs]
@[simp] theorem State.setRing_net : (s.setRing r x).net = s.net := by
  unfold State.setRing; rw [State.wf_net]
@[simp] theorem State.setRing_shadows : (s.setRing r x).shadows = s.shadows := by
  unfold State.setRing; rw [State.wf_shadows]
@[simp] theorem State.setRing_ix : (s.setRing r x).ix = s.ix := by
  unfold State.setRing; rw [State.wf_ix]
@[simp] theorem State.setRing_credits : (s.setRing r x).credits = s.credits := by
  unfold State.setRing; rw [State.wf_credits]
@[simp] theorem State.setRing_drams : (s.setRing r x).drams = s.drams := by
  unfold State.setRing; rw [State.wf_drams]
@[simp] theorem State.setRing_lanes : (s.setRing r x).lanes = s.lanes := by
  unfold State.setRing; rw [State.wf_lanes]
@[simp] theorem State.setRing_macs : (s.setRing r x).macs = s.macs := by
  unfold State.setRing; rw [State.wf_macs]
@[simp] theorem State.setRing_macLatFuse : (s.setRing r x).macLatFuse = s.macLatFuse := by
  unfold State.setRing; rw [State.wf_macLatFuse]
@[simp] theorem State.setRing_links : (s.setRing r x).links = s.links := by
  unfold State.setRing; rw [State.wf_links]
@[simp] theorem State.setRing_pcs : (s.setRing r x).pcs = s.pcs := by
  unfold State.setRing; rw [State.wf_pcs]
@[simp] theorem State.setRing_scs : (s.setRing r x).scs = s.scs := by
  unfold State.setRing; rw [State.wf_scs]
@[simp] theorem State.setRing_fwds : (s.setRing r x).fwds = s.fwds := by
  unfold State.setRing; rw [State.wf_fwds]
@[simp] theorem State.setRing_sks : (s.setRing r x).sks = s.sks := by
  unfold State.setRing; rw [State.wf_sks]
@[simp] theorem State.setRing_gw : (s.setRing r x).gw = s.gw := by
  unfold State.setRing; rw [State.wf_gw]
@[simp] theorem State.setRing_follow : (s.setRing r x).follow = s.follow := by
  unfold State.setRing; rw [State.wf_follow]
@[simp] theorem State.setRing_switchTo : (s.setRing r x).switchTo = s.switchTo := by
  unfold State.setRing; rw [State.wf_switchTo]
@[simp] theorem State.setRing_headLost : (s.setRing r x).headLost = s.headLost := by
  unfold State.setRing; rw [State.wf_headLost]
@[simp] theorem State.setRing_ctxs : (s.setRing r x).ctxs = s.ctxs := by
  unfold State.setRing; rw [State.wf_ctxs]
@[simp] theorem State.setRing_engines : (s.setRing r x).engines = s.engines := by
  unfold State.setRing; rw [State.wf_engines]
@[simp] theorem State.setRing_lands : (s.setRing r x).lands = s.lands := by
  unfold State.setRing; rw [State.wf_lands]
@[simp] theorem State.setRing_landing : (s.setRing r x).landing = s.landing := by
  unfold State.setRing; rw [State.wf_landing]
@[simp] theorem State.setRing_rxProv : (s.setRing r x).rxProv = s.rxProv := by
  unfold State.setRing; rw [State.wf_rxProv]
@[simp] theorem State.setRing_cfg : (s.setRing r x).cfg = s.cfg := by
  unfold State.setRing; rw [State.wf_cfg]
@[simp] theorem State.setRing_cab : (s.setRing r x).cab = s.cab := by
  unfold State.setRing; rw [State.wf_cab]
@[simp] theorem State.setRing_cores : (s.setRing r x).cores = s.cores := by
  unfold State.setRing; rw [State.wf_cores]
@[simp] theorem State.setRing_dbg : (s.setRing r x).dbg = s.dbg := by
  unfold State.setRing; rw [State.wf_dbg]
@[simp] theorem State.setRing_insts : (s.setRing r x).insts = s.insts := by
  unfold State.setRing; rw [State.wf_insts]
@[simp] theorem State.setRing_dup : (s.setRing r x).dup = s.dup := by
  unfold State.setRing; rw [State.wf_dup]
@[simp] theorem State.setRing_fm : (s.setRing r x).fm = s.fm := by
  unfold State.setRing; rw [State.wf_fm]
@[simp] theorem State.setRing_rst : (s.setRing r x).rst = s.rst := by
  unfold State.setRing; rw [State.wf_rst]
@[simp] theorem State.setRing_pending : (s.setRing r x).pending = s.pending := by
  unfold State.setRing; rw [State.wf_pending]
end

section
variable (s : State) (k : Nat) (x : PinFilter)
@[simp] theorem State.setPin_regs : (s.setPin k x).regs = s.regs  := rfl
@[simp] theorem State.setPin_freeCtr : (s.setPin k x).freeCtr = s.freeCtr  := rfl
@[simp] theorem State.setPin_mem : (s.setPin k x).mem = s.mem  := rfl
@[simp] theorem State.setPin_wb : (s.setPin k x).wb = s.wb  := rfl
@[simp] theorem State.setPin_latch : (s.setPin k x).latch = s.latch  := rfl
@[simp] theorem State.setPin_faultLine : (s.setPin k x).faultLine = s.faultLine  := rfl
@[simp] theorem State.setPin_isl : (s.setPin k x).isl = s.isl  := rfl
@[simp] theorem State.setPin_chans : (s.setPin k x).chans = s.chans  := rfl
@[simp] theorem State.setPin_evts : (s.setPin k x).evts = s.evts  := rfl
@[simp] theorem State.setPin_dio : (s.setPin k x).dio = s.dio  := rfl
@[simp] theorem State.setPin_bms : (s.setPin k x).bms = s.bms  := rfl
@[simp] theorem State.setPin_banks : (s.setPin k x).banks = s.banks  := rfl
@[simp] theorem State.setPin_inFlight : (s.setPin k x).inFlight = s.inFlight  := rfl
@[simp] theorem State.setPin_outst : (s.setPin k x).outst = s.outst  := rfl
@[simp] theorem State.setPin_resps : (s.setPin k x).resps = s.resps  := rfl
@[simp] theorem State.setPin_stopPart : (s.setPin k x).stopPart = s.stopPart  := rfl
@[simp] theorem State.setPin_stopWait : (s.setPin k x).stopWait = s.stopWait  := rfl
@[simp] theorem State.setPin_stopOut : (s.setPin k x).stopOut = s.stopOut  := rfl
@[simp] theorem State.setPin_mailbox : (s.setPin k x).mailbox = s.mailbox  := rfl
@[simp] theorem State.setPin_lostPairs : (s.setPin k x).lostPairs = s.lostPairs  := rfl
@[simp] theorem State.setPin_net : (s.setPin k x).net = s.net  := rfl
@[simp] theorem State.setPin_shadows : (s.setPin k x).shadows = s.shadows  := rfl
@[simp] theorem State.setPin_ix : (s.setPin k x).ix = s.ix  := rfl
@[simp] theorem State.setPin_credits : (s.setPin k x).credits = s.credits  := rfl
@[simp] theorem State.setPin_drams : (s.setPin k x).drams = s.drams  := rfl
@[simp] theorem State.setPin_lanes : (s.setPin k x).lanes = s.lanes  := rfl
@[simp] theorem State.setPin_macs : (s.setPin k x).macs = s.macs  := rfl
@[simp] theorem State.setPin_macLatFuse : (s.setPin k x).macLatFuse = s.macLatFuse  := rfl
@[simp] theorem State.setPin_links : (s.setPin k x).links = s.links  := rfl
@[simp] theorem State.setPin_pcs : (s.setPin k x).pcs = s.pcs  := rfl
@[simp] theorem State.setPin_scs : (s.setPin k x).scs = s.scs  := rfl
@[simp] theorem State.setPin_fwds : (s.setPin k x).fwds = s.fwds  := rfl
@[simp] theorem State.setPin_sks : (s.setPin k x).sks = s.sks  := rfl
@[simp] theorem State.setPin_gw : (s.setPin k x).gw = s.gw  := rfl
@[simp] theorem State.setPin_follow : (s.setPin k x).follow = s.follow  := rfl
@[simp] theorem State.setPin_switchTo : (s.setPin k x).switchTo = s.switchTo  := rfl
@[simp] theorem State.setPin_headLost : (s.setPin k x).headLost = s.headLost  := rfl
@[simp] theorem State.setPin_ctxs : (s.setPin k x).ctxs = s.ctxs  := rfl
@[simp] theorem State.setPin_engines : (s.setPin k x).engines = s.engines  := rfl
@[simp] theorem State.setPin_lands : (s.setPin k x).lands = s.lands  := rfl
@[simp] theorem State.setPin_landing : (s.setPin k x).landing = s.landing  := rfl
@[simp] theorem State.setPin_rxProv : (s.setPin k x).rxProv = s.rxProv  := rfl
@[simp] theorem State.setPin_cfg : (s.setPin k x).cfg = s.cfg  := rfl
@[simp] theorem State.setPin_cab : (s.setPin k x).cab = s.cab  := rfl
@[simp] theorem State.setPin_cores : (s.setPin k x).cores = s.cores  := rfl
@[simp] theorem State.setPin_dbg : (s.setPin k x).dbg = s.dbg  := rfl
@[simp] theorem State.setPin_insts : (s.setPin k x).insts = s.insts  := rfl
@[simp] theorem State.setPin_dup : (s.setPin k x).dup = s.dup  := rfl
@[simp] theorem State.setPin_fm : (s.setPin k x).fm = s.fm  := rfl
@[simp] theorem State.setPin_rst : (s.setPin k x).rst = s.rst  := rfl
@[simp] theorem State.setPin_pending : (s.setPin k x).pending = s.pending  := rfl
@[simp] theorem State.setPin_reg (rq : Reg) : (s.setPin k x).reg rq = s.reg rq  := rfl
@[simp] theorem State.setPin_rf (g : Fld) (y z u : Nat) : (s.setPin k x).rf g y z u = s.rf g y z u  := rfl
@[simp] theorem State.setPin_rb (g : Fld) (y z u : Nat) : (s.setPin k x).rb g y z u = s.rb g y z u  := rfl
@[simp] theorem State.setPin_rw (g : RegName) (y z u : Nat) : (s.setPin k x).rw g y z u = s.rw g y z u  := rfl
@[simp] theorem State.setPin_cell (y z : Nat) : (s.setPin k x).cell y z = s.cell y z  := rfl
@[simp] theorem State.setPin_island (y z : Nat) : (s.setPin k x).island y z = s.island y z  := rfl
@[simp] theorem State.setPin_chan (y : Nat) : (s.setPin k x).chan y = s.chan y  := rfl
@[simp] theorem State.setPin_evt (y z u : Nat) : (s.setPin k x).evt y z u = s.evt y z u  := rfl
@[simp] theorem State.setPin_dioCell (y z : Nat) : (s.setPin k x).dioCell y z = s.dioCell y z  := rfl
@[simp] theorem State.setPin_bm (y z u : Nat) : (s.setPin k x).bm y z u = s.bm y z u  := rfl
@[simp] theorem State.setPin_bank (y z : Nat) : (s.setPin k x).bank y z = s.bank y z  := rfl
@[simp] theorem State.setPin_ixp (y z : Nat) : (s.setPin k x).ixp y z = s.ixp y z  := rfl
@[simp] theorem State.setPin_dram (y : Nat) : (s.setPin k x).dram y = s.dram y  := rfl
@[simp] theorem State.setPin_lane (y : Nat) : (s.setPin k x).lane y = s.lane y  := rfl
@[simp] theorem State.setPin_mac (y : Nat) : (s.setPin k x).mac y = s.mac y  := rfl
@[simp] theorem State.setPin_sl (y : Nat) : (s.setPin k x).sl y = s.sl y  := rfl
@[simp] theorem State.setPin_sc (y : Nat) : (s.setPin k x).sc y = s.sc y  := rfl
@[simp] theorem State.setPin_fwd (y : Nat) : (s.setPin k x).fwd y = s.fwd y  := rfl
@[simp] theorem State.setPin_ctx (y z u : Nat) : (s.setPin k x).ctx y z u = s.ctx y z u  := rfl
@[simp] theorem State.setPin_land (y z : Nat) : (s.setPin k x).land y z = s.land y z  := rfl
@[simp] theorem State.setPin_inst (y : Nat) : (s.setPin k x).inst y = s.inst y  := rfl
@[simp] theorem State.setPin_core (y z : Nat) : (s.setPin k x).core y z = s.core y z  := rfl
end

section
variable (s : State) (n : Nat) (x : Tile)
@[simp] theorem State.setTile_regs : (s.setTile n x).regs = s.regs  := rfl
@[simp] theorem State.setTile_freeCtr : (s.setTile n x).freeCtr = s.freeCtr  := rfl
@[simp] theorem State.setTile_mem : (s.setTile n x).mem = s.mem  := rfl
@[simp] theorem State.setTile_wb : (s.setTile n x).wb = s.wb  := rfl
@[simp] theorem State.setTile_latch : (s.setTile n x).latch = s.latch  := rfl
@[simp] theorem State.setTile_faultLine : (s.setTile n x).faultLine = s.faultLine  := rfl
@[simp] theorem State.setTile_isl : (s.setTile n x).isl = s.isl  := rfl
@[simp] theorem State.setTile_chans : (s.setTile n x).chans = s.chans  := rfl
@[simp] theorem State.setTile_evts : (s.setTile n x).evts = s.evts  := rfl
@[simp] theorem State.setTile_dio : (s.setTile n x).dio = s.dio  := rfl
@[simp] theorem State.setTile_bms : (s.setTile n x).bms = s.bms  := rfl
@[simp] theorem State.setTile_banks : (s.setTile n x).banks = s.banks  := rfl
@[simp] theorem State.setTile_inFlight : (s.setTile n x).inFlight = s.inFlight  := rfl
@[simp] theorem State.setTile_outst : (s.setTile n x).outst = s.outst  := rfl
@[simp] theorem State.setTile_resps : (s.setTile n x).resps = s.resps  := rfl
@[simp] theorem State.setTile_stopPart : (s.setTile n x).stopPart = s.stopPart  := rfl
@[simp] theorem State.setTile_stopWait : (s.setTile n x).stopWait = s.stopWait  := rfl
@[simp] theorem State.setTile_stopOut : (s.setTile n x).stopOut = s.stopOut  := rfl
@[simp] theorem State.setTile_mailbox : (s.setTile n x).mailbox = s.mailbox  := rfl
@[simp] theorem State.setTile_lostPairs : (s.setTile n x).lostPairs = s.lostPairs  := rfl
@[simp] theorem State.setTile_net : (s.setTile n x).net = s.net  := rfl
@[simp] theorem State.setTile_shadows : (s.setTile n x).shadows = s.shadows  := rfl
@[simp] theorem State.setTile_ix : (s.setTile n x).ix = s.ix  := rfl
@[simp] theorem State.setTile_credits : (s.setTile n x).credits = s.credits  := rfl
@[simp] theorem State.setTile_drams : (s.setTile n x).drams = s.drams  := rfl
@[simp] theorem State.setTile_lanes : (s.setTile n x).lanes = s.lanes  := rfl
@[simp] theorem State.setTile_macs : (s.setTile n x).macs = s.macs  := rfl
@[simp] theorem State.setTile_macLatFuse : (s.setTile n x).macLatFuse = s.macLatFuse  := rfl
@[simp] theorem State.setTile_links : (s.setTile n x).links = s.links  := rfl
@[simp] theorem State.setTile_pcs : (s.setTile n x).pcs = s.pcs  := rfl
@[simp] theorem State.setTile_scs : (s.setTile n x).scs = s.scs  := rfl
@[simp] theorem State.setTile_fwds : (s.setTile n x).fwds = s.fwds  := rfl
@[simp] theorem State.setTile_sks : (s.setTile n x).sks = s.sks  := rfl
@[simp] theorem State.setTile_gw : (s.setTile n x).gw = s.gw  := rfl
@[simp] theorem State.setTile_follow : (s.setTile n x).follow = s.follow  := rfl
@[simp] theorem State.setTile_switchTo : (s.setTile n x).switchTo = s.switchTo  := rfl
@[simp] theorem State.setTile_headLost : (s.setTile n x).headLost = s.headLost  := rfl
@[simp] theorem State.setTile_ctxs : (s.setTile n x).ctxs = s.ctxs  := rfl
@[simp] theorem State.setTile_engines : (s.setTile n x).engines = s.engines  := rfl
@[simp] theorem State.setTile_lands : (s.setTile n x).lands = s.lands  := rfl
@[simp] theorem State.setTile_landing : (s.setTile n x).landing = s.landing  := rfl
@[simp] theorem State.setTile_rxProv : (s.setTile n x).rxProv = s.rxProv  := rfl
@[simp] theorem State.setTile_cfg : (s.setTile n x).cfg = s.cfg  := rfl
@[simp] theorem State.setTile_cab : (s.setTile n x).cab = s.cab  := rfl
@[simp] theorem State.setTile_cores : (s.setTile n x).cores = s.cores  := rfl
@[simp] theorem State.setTile_dbg : (s.setTile n x).dbg = s.dbg  := rfl
@[simp] theorem State.setTile_insts : (s.setTile n x).insts = s.insts  := rfl
@[simp] theorem State.setTile_dup : (s.setTile n x).dup = s.dup  := rfl
@[simp] theorem State.setTile_fm : (s.setTile n x).fm = s.fm  := rfl
@[simp] theorem State.setTile_rst : (s.setTile n x).rst = s.rst  := rfl
@[simp] theorem State.setTile_pending : (s.setTile n x).pending = s.pending  := rfl
@[simp] theorem State.setTile_reg (rq : Reg) : (s.setTile n x).reg rq = s.reg rq  := rfl
@[simp] theorem State.setTile_rf (g : Fld) (y z u : Nat) : (s.setTile n x).rf g y z u = s.rf g y z u  := rfl
@[simp] theorem State.setTile_rb (g : Fld) (y z u : Nat) : (s.setTile n x).rb g y z u = s.rb g y z u  := rfl
@[simp] theorem State.setTile_rw (g : RegName) (y z u : Nat) : (s.setTile n x).rw g y z u = s.rw g y z u  := rfl
@[simp] theorem State.setTile_cell (y z : Nat) : (s.setTile n x).cell y z = s.cell y z  := rfl
@[simp] theorem State.setTile_island (y z : Nat) : (s.setTile n x).island y z = s.island y z  := rfl
@[simp] theorem State.setTile_chan (y : Nat) : (s.setTile n x).chan y = s.chan y  := rfl
@[simp] theorem State.setTile_evt (y z u : Nat) : (s.setTile n x).evt y z u = s.evt y z u  := rfl
@[simp] theorem State.setTile_dioCell (y z : Nat) : (s.setTile n x).dioCell y z = s.dioCell y z  := rfl
@[simp] theorem State.setTile_bm (y z u : Nat) : (s.setTile n x).bm y z u = s.bm y z u  := rfl
@[simp] theorem State.setTile_bank (y z : Nat) : (s.setTile n x).bank y z = s.bank y z  := rfl
@[simp] theorem State.setTile_ixp (y z : Nat) : (s.setTile n x).ixp y z = s.ixp y z  := rfl
@[simp] theorem State.setTile_dram (y : Nat) : (s.setTile n x).dram y = s.dram y  := rfl
@[simp] theorem State.setTile_lane (y : Nat) : (s.setTile n x).lane y = s.lane y  := rfl
@[simp] theorem State.setTile_mac (y : Nat) : (s.setTile n x).mac y = s.mac y  := rfl
@[simp] theorem State.setTile_sl (y : Nat) : (s.setTile n x).sl y = s.sl y  := rfl
@[simp] theorem State.setTile_sc (y : Nat) : (s.setTile n x).sc y = s.sc y  := rfl
@[simp] theorem State.setTile_fwd (y : Nat) : (s.setTile n x).fwd y = s.fwd y  := rfl
@[simp] theorem State.setTile_ctx (y z u : Nat) : (s.setTile n x).ctx y z u = s.ctx y z u  := rfl
@[simp] theorem State.setTile_land (y z : Nat) : (s.setTile n x).land y z = s.land y z  := rfl
@[simp] theorem State.setTile_inst (y : Nat) : (s.setTile n x).inst y = s.inst y  := rfl
@[simp] theorem State.setTile_core (y z : Nat) : (s.setTile n x).core y z = s.core y z  := rfl
end

@[simp] theorem State.island_setIsland_same (s : State) (d i : Nat) (x : Isl) : (s.setIsland d i x).island d i = x := mget_mset_same _ _ _ _
@[simp] theorem State.chan_setChan_same (s : State) (k : Nat) (c : Chan) : (s.setChan k c).chan k = c := mget_mset_same _ _ _ _
@[simp] theorem State.evt_setEvt_same (s : State) (d i p : Nat) (e : Evt) : (s.setEvt d i p e).evt d i p = e := mget_mset_same _ _ _ _
@[simp] theorem State.dioCell_setDio_same (s : State) (d k : Nat) (x : Dio) : (s.setDio d k x).dioCell d k = x := mget_mset_same _ _ _ _
@[simp] theorem State.bm_setBm_same (s : State) (d i m : Nat) (b : Bm) : (s.setBm d i m b).bm d i m = b := mget_mset_same _ _ _ _
@[simp] theorem State.bank_setBank_same (s : State) (d b : Nat) (x : Bank) : (s.setBank d b x).bank d b = x := mget_mset_same _ _ _ _
@[simp] theorem State.ixp_setIxp_same (s : State) (d p : Nat) (x : IxPort) : (s.setIxp d p x).ixp d p = x := mget_mset_same _ _ _ _
@[simp] theorem State.dram_setDram_same (s : State) (c : Nat) (x : Dram) : (s.setDram c x).dram c = x := mget_mset_same _ _ _ _
@[simp] theorem State.lane_setLane_same (s : State) (n : Nat) (x : Lane) : (s.setLane n x).lane n = x := mget_mset_same _ _ _ _
@[simp] theorem State.mac_setMac_same (s : State) (m : Nat) (x : Mac) : (s.setMac m x).mac m = x := mget_mset_same _ _ _ _
@[simp] theorem State.sl_setSl_same (s : State) (l : Nat) (x : Sl) : (s.setSl l x).sl l = x := mget_mset_same _ _ _ _
@[simp] theorem State.sc_setSc_same (s : State) (c : Nat) (x : Sc) : (s.setSc c x).sc c = x := mget_mset_same _ _ _ _
@[simp] theorem State.fwd_setFwd_same (s : State) (c : Nat) (x : Fwd) : (s.setFwd c x).fwd c = x := mget_mset_same _ _ _ _
@[simp] theorem State.ctx_setCtx_same (s : State) (d e x : Nat) (c : Ctx) : (s.setCtx d e x c).ctx d e x = c := mget_mset_same _ _ _ _
@[simp] theorem State.land_setLand_same (s : State) (d b : Nat) (x : Landing) : (s.setLand d b x).land d b = x := mget_mset_same _ _ _ _
@[simp] theorem State.inst_setInst_same (s : State) (i : Nat) (x : Inst) : (s.setInst i x).inst i = x := mget_mset_same _ _ _ _
@[simp] theorem State.core_setCore_same (s : State) (d c : Nat) (x : Core) : (s.setCore d c x).core d c = x := mget_mset_same _ _ _ _
@[simp] theorem State.ring_setRing_same (s : State) (r : Nat) (x : Ring) : (s.setRing r x).ring r = x := by
  unfold State.ring State.setRing; rw [State.wf_lio]; exact mget_mset_same _ _ _ _
@[simp] theorem State.pin_setPin_same (s : State) (k : Nat) (x : PinFilter) : (s.setPin k x).pin k = x := mget_mset_same _ _ _ _
@[simp] theorem State.tile_setTile_same (s : State) (n : Nat) (x : Tile) : (s.setTile n x).tile n = x := mget_mset_same _ _ _ _

end Sys2Proof.Machine
end

