-- ==== Sys2Proof/Laws/Regs.lean ====
section
/-!
SUPPORT. Laws of the register file: a field or a word reads back as written, and everything else is left alone.
-/
namespace Sys2Proof.Machine

/-! ## Keys -/

theorem RegName.ctorIdx_inj {a b : RegName} (h : a.ctorIdx = b.ctorIdx) : a = b := by
  rw [← RegName.ofNat_ctorIdx a, h, RegName.ofNat_ctorIdx]

/-- Different registers have different keys. -/
theorem Reg.key_inj {a b : Reg} (h : a.key = b.key) : a = b := by
  obtain ⟨n, d, i, j⟩ := a
  obtain ⟨n', d', i', j'⟩ := b
  simp only [Reg.key, key4, Nat.pair_eq_pair] at h
  obtain ⟨⟨h1, rfl⟩, rfl, rfl⟩ := h
  rw [RegName.ctorIdx_inj h1]

theorem Reg.key_ne {a b : Reg} (h : a ≠ b) : a.key ≠ b.key := fun e => h (Reg.key_inj e)

/-! ## Whole registers -/

/-- A register reads as it was written. -/
@[simp] theorem State.setReg_reg_same (s : State) (r : Reg) (w : Word) : (s.setReg r w).reg r = w := mget_mset_same _ _ _ _

/-- Writing a register leaves every other alone. -/
theorem State.setReg_reg_ne (s : State) (r q : Reg) (w : Word) (h : q ≠ r) : (s.setReg r w).reg q = s.reg q :=
  mget_mset_ne _ _ _ _ _ _ (Reg.key_ne h)

theorem State.setReg_reg (s : State) (r q : Reg) (w : Word) : (s.setReg r w).reg q = if q = r then w else s.reg q := by
  split
  · next h => subst h; exact s.setReg_reg_same q w
  · next h => exact s.setReg_reg_ne r q w h

/-! ## Fields of a word -/

/-- A field that lies in a word. -/
def Fld.ok (f : Fld) : Bool := f.lo ≤ f.hi && f.hi < 48

/-- Whether two fields share no bit of one register. -/
def Fld.apart (f g : Fld) : Bool := f.reg != g.reg || f.hi < g.lo || g.hi < f.lo

theorem low_lt {x y a b c : Nat} (e : c = a * b) (hx : x < a) (hy : y < b) : x * b + y < c := by
  rw [e]
  have h : (x + 1) * b ≤ a * b := Nat.mul_le_mul_right _ hx
  rw [Nat.add_mul, Nat.one_mul] at h
  omega

theorem put_lt (w v h l : Nat) (hw : w < 2 ^ 48) (hl : l ≤ h) (hh : h < 48) :
    w / 2 ^ (h + 1) * 2 ^ (h + 1) + v % 2 ^ (h + 1 - l) * 2 ^ l + w % 2 ^ l < 2 ^ 48 := by
  have e1 : 2 ^ (h + 1) = 2 ^ (h + 1 - l) * 2 ^ l := by rw [← pow_add]; congr 1; omega
  have e2 : (2 : Nat) ^ 48 = 2 ^ (48 - (h + 1)) * 2 ^ (h + 1) := by rw [← pow_add]; congr 1; omega
  have a1 : w / 2 ^ (h + 1) < 2 ^ (48 - (h + 1)) := by
    rw [Nat.div_lt_iff_lt_mul (by positivity)]; rw [← e2]; exact hw
  have a2 : v % 2 ^ (h + 1 - l) < 2 ^ (h + 1 - l) := Nat.mod_lt _ (by positivity)
  have a3 : w % 2 ^ l < 2 ^ l := Nat.mod_lt _ (by positivity)
  have b2 : v % 2 ^ (h + 1 - l) * 2 ^ l + w % 2 ^ l < 2 ^ (h + 1) := low_lt e1 a2 a3
  have b1 : (w / 2 ^ (h + 1) + 1) * 2 ^ (h + 1) ≤ 2 ^ 48 := by
    rw [e2]; exact Nat.mul_le_mul_right _ a1
  rw [Nat.add_mul, Nat.one_mul] at b1
  omega

theorem bits_put_same (w v h l : Nat) (hl : l ≤ h) :
    bits (w / 2 ^ (h + 1) * 2 ^ (h + 1) + v % 2 ^ (h + 1 - l) * 2 ^ l + w % 2 ^ l) h l = v % 2 ^ (h + 1 - l) := by
  have e1 : 2 ^ (h + 1) = 2 ^ (h + 1 - l) * 2 ^ l := by rw [← pow_add]; congr 1; omega
  have a3 : w % 2 ^ l < 2 ^ l := Nat.mod_lt _ (by positivity)
  unfold bits
  have : (w / 2 ^ (h + 1) * 2 ^ (h + 1) + v % 2 ^ (h + 1 - l) * 2 ^ l + w % 2 ^ l) / 2 ^ l
      = w / 2 ^ (h + 1) * 2 ^ (h + 1 - l) + v % 2 ^ (h + 1 - l) := by
    have e3 : w / 2 ^ (h + 1) * 2 ^ (h + 1) + v % 2 ^ (h + 1 - l) * 2 ^ l + w % 2 ^ l
        = w % 2 ^ l + 2 ^ l * (w / 2 ^ (h + 1) * 2 ^ (h + 1 - l) + v % 2 ^ (h + 1 - l)) := by
      rw [e1]; ring
    rw [e3, Nat.add_mul_div_left _ _ (by positivity), Nat.div_eq_of_lt a3, Nat.zero_add]
  rw [this, Nat.add_comm, Nat.add_mul_mod_self_right, Nat.mod_mod]

theorem bits_put_high (w v h l h' l' : Nat) (hl : l ≤ h) (hd : h < l') :
    bits (w / 2 ^ (h + 1) * 2 ^ (h + 1) + v % 2 ^ (h + 1 - l) * 2 ^ l + w % 2 ^ l) h' l' = bits w h' l' := by
  have e1 : 2 ^ (h + 1) = 2 ^ (h + 1 - l) * 2 ^ l := by rw [← pow_add]; congr 1; omega
  have e2 : 2 ^ l' = 2 ^ (h + 1) * 2 ^ (l' - (h + 1)) := by rw [← pow_add]; congr 1; omega
  have a2 : v % 2 ^ (h + 1 - l) < 2 ^ (h + 1 - l) := Nat.mod_lt _ (by positivity)
  have a3 : w % 2 ^ l < 2 ^ l := Nat.mod_lt _ (by positivity)
  have b2 : v % 2 ^ (h + 1 - l) * 2 ^ l + w % 2 ^ l < 2 ^ (h + 1) := low_lt e1 a2 a3
  unfold bits
  congr 1
  rw [e2, ← Nat.div_div_eq_div_mul, ← Nat.div_div_eq_div_mul]
  congr 1
  rw [Nat.add_assoc, Nat.mul_comm (w / 2 ^ (h + 1)), Nat.add_comm, Nat.add_mul_div_left _ _ (by positivity),
    Nat.div_eq_of_lt b2, Nat.zero_add]

theorem bits_put_low (w v h l h' l' : Nat) (hl : l ≤ h) (hd : h' < l) :
    bits (w / 2 ^ (h + 1) * 2 ^ (h + 1) + v % 2 ^ (h + 1 - l) * 2 ^ l + w % 2 ^ l) h' l' = bits w h' l' := by
  have e1 : 2 ^ (h + 1) = 2 ^ (h + 1 - l) * 2 ^ l := by rw [← pow_add]; congr 1; omega
  have key : ∀ x : Nat, bits x h' l' = bits (x % 2 ^ l) h' l' := by
    intro x
    unfold bits
    by_cases hc : l' ≤ h'
    · have e3 : 2 ^ l = 2 ^ l' * 2 ^ (l - l') := by rw [← pow_add]; congr 1; omega
      have e4 : (2 : Nat) ^ (h' + 1 - l') ∣ 2 ^ (l - l') := pow_dvd_pow 2 (by omega)
      rw [e3, Nat.mod_mul_right_div_self, Nat.mod_mod_of_dvd _ e4]
    · have : h' + 1 - l' = 0 := by omega
      simp [this, Nat.mod_one]
  rw [key, key w]
  congr 1
  have e3 : w / 2 ^ (h + 1) * 2 ^ (h + 1) + v % 2 ^ (h + 1 - l) * 2 ^ l + w % 2 ^ l
      = w % 2 ^ l + 2 ^ l * (w / 2 ^ (h + 1) * 2 ^ (h + 1 - l) + v % 2 ^ (h + 1 - l)) := by
    rw [e1]; ring
  rw [e3, Nat.add_mul_mod_self_left, Nat.mod_mod]

theorem Fld.put_toNat (f : Fld) (w : Word) (v : Nat) (h : f.ok = true) :
    (f.put w v).toNat = w.toNat / 2 ^ (f.hi + 1) * 2 ^ (f.hi + 1) + v % 2 ^ f.width * 2 ^ f.lo + w.toNat % 2 ^ f.lo := by
  unfold Fld.ok at h
  rw [Bool.and_eq_true] at h
  unfold Fld.put Fld.width
  rw [BitVec.toNat_ofNat, Nat.mod_eq_of_lt]
  exact put_lt _ _ _ _ w.isLt (of_decide_eq_true h.1) (of_decide_eq_true h.2)

/-- A field reads as it was written, in its width. -/
@[simp] theorem Fld.get_put (f : Fld) (w : Word) (v : Nat) (h : f.ok = true) : f.get (f.put w v) = v % 2 ^ f.width := by
  unfold Fld.get
  rw [Fld.put_toNat f w v h]
  unfold Fld.ok at h
  rw [Bool.and_eq_true] at h
  exact bits_put_same _ _ _ _ (of_decide_eq_true h.1)

/-- Writing a field leaves a field that shares no bit with it alone. -/
theorem Fld.get_put_apart (f g : Fld) (w : Word) (v : Nat) (h : f.ok = true) (hd : f.hi < g.lo ∨ g.hi < f.lo) :
    g.get (f.put w v) = g.get w := by
  unfold Fld.get
  rw [Fld.put_toNat f w v h]
  unfold Fld.ok at h
  rw [Bool.and_eq_true] at h
  rcases hd with hd | hd
  · exact bits_put_high _ _ _ _ _ _ (of_decide_eq_true h.1) hd
  · exact bits_put_low _ _ _ _ _ _ (of_decide_eq_true h.1) hd

/-! ## Fields of registers -/

/-- A field of a register reads as it was written, in its width. -/
theorem State.rf_wf_same (s : State) (f : Fld) (v d i j : Nat) (h : f.ok = true) :
    (s.wf f v d i j).rf f d i j = v % 2 ^ f.width := by
  unfold State.rf State.wf
  rw [State.setReg_reg_same, Fld.get_put f _ v h]

/-- Writing a field leaves a field of another register, or of other bits, alone. -/
theorem State.rf_wf_apart (s : State) (f g : Fld) (v d i j d' i' j' : Nat) (h : f.ok = true) (hd : f.apart g = true) :
    (s.wf f v d i j).rf g d' i' j' = s.rf g d' i' j' := by
  unfold State.rf State.wf
  by_cases e : (⟨g.reg, d', i', j'⟩ : Reg) = ⟨f.reg, d, i, j⟩
  · rw [e, State.setReg_reg_same]
    apply Fld.get_put_apart f g _ v h
    injection e with e1
    unfold Fld.apart at hd
    rw [e1] at hd
    simpa using hd
  · rw [State.setReg_reg_ne _ _ _ _ e]

/-- Writing a field of one register leaves the registers of other indices alone. -/
theorem State.rf_wf_index (s : State) (f g : Fld) (v d i j d' i' j' : Nat) (h : (d', i', j') ≠ (d, i, j)) :
    (s.wf f v d i j).rf g d' i' j' = s.rf g d' i' j' := by
  unfold State.rf State.wf
  rw [State.setReg_reg_ne]
  intro e
  injection e with _ e1 e2 e3
  exact h (by rw [e1, e2, e3])

theorem State.rb_wf_apart (s : State) (f g : Fld) (v d i j d' i' j' : Nat) (h : f.ok = true) (hd : f.apart g = true) :
    (s.wf f v d i j).rb g d' i' j' = s.rb g d' i' j' := by
  unfold State.rb
  rw [State.rf_wf_apart s f g v d i j d' i' j' h hd]

theorem State.rb_wf_same (s : State) (f : Fld) (v d i j : Nat) (h : f.ok = true) :
    (s.wf f v d i j).rb f d i j = (v % 2 ^ f.width == 1) := by
  unfold State.rb
  rw [State.rf_wf_same s f v d i j h]

/-- A whole register reads as it was written. -/
theorem State.rw_ww_same (s : State) (n : RegName) (v d i j : Nat) : (s.ww n v d i j).rw n d i j = v % 2 ^ 48 := by
  unfold State.rw State.ww
  rw [State.setReg_reg_same, BitVec.toNat_ofNat]

/-- Writing a register leaves one of another name alone. -/
theorem State.rw_ww_name (s : State) (n m : RegName) (v d i j d' i' j' : Nat) (h : n ≠ m) :
    (s.ww n v d i j).rw m d' i' j' = s.rw m d' i' j' := by
  unfold State.rw State.ww
  rw [State.setReg_reg_ne]
  intro e
  injection e with e1
  exact h e1.symm

/-- Writing a whole register leaves the fields of others alone. -/
theorem State.rf_ww_name (s : State) (n : RegName) (g : Fld) (v d i j d' i' j' : Nat) (h : n ≠ g.reg) :
    (s.ww n v d i j).rf g d' i' j' = s.rf g d' i' j' := by
  unfold State.rf State.ww
  rw [State.setReg_reg_ne]
  intro e
  injection e with e1
  exact h e1.symm

/-- Writing a field leaves the whole registers of other names alone. -/
theorem State.rw_wf_name (s : State) (f : Fld) (m : RegName) (v d i j d' i' j' : Nat) (h : f.reg ≠ m) :
    (s.wf f v d i j).rw m d' i' j' = s.rw m d' i' j' := by
  unfold State.rw State.wf
  rw [State.setReg_reg_ne]
  intro e
  injection e with e1
  exact h e1.symm

/-- What writing a field does to every register. -/
theorem State.reg_wf (s : State) (f : Fld) (v d i j : Nat) (q : Reg) :
    (s.wf f v d i j).reg q = if q = ⟨f.reg, d, i, j⟩ then f.put (s.reg q) v else s.reg q := by
  unfold State.wf
  rw [State.setReg_reg]
  split
  · next h => rw [h]
  · rfl

/-- Writing a field leaves every other register alone. -/
theorem State.reg_wf_ne (s : State) (f : Fld) (v d i j : Nat) (q : Reg) (h : q ≠ ⟨f.reg, d, i, j⟩) :
    (s.wf f v d i j).reg q = s.reg q := by rw [State.reg_wf, if_neg h]

/-- What writing a whole register does to every register. -/
theorem State.reg_ww (s : State) (n : RegName) (v d i j : Nat) (q : Reg) :
    (s.ww n v d i j).reg q = if q = ⟨n, d, i, j⟩ then BitVec.ofNat 48 v else s.reg q := State.setReg_reg ..

/-- Writing a whole register leaves every other alone. -/
theorem State.reg_ww_ne (s : State) (n : RegName) (v d i j : Nat) (q : Reg) (h : q ≠ ⟨n, d, i, j⟩) :
    (s.ww n v d i j).reg q = s.reg q := by rw [State.reg_ww, if_neg h]

/-- A field of a register just written whole. -/
theorem State.rf_ww_same (s : State) (f : Fld) (v d i j : Nat) : (s.ww f.reg v d i j).rf f d i j = bits (v % 2 ^ 48) f.hi f.lo := by
  unfold State.rf State.ww Fld.get
  rw [State.setReg_reg_same, BitVec.toNat_ofNat]

/-! ## Counters -/

/-- What a class E counter does: its count goes up by `n` to its largest value, and OVF is set if that is passed (R82). -/
theorem State.incE_spec (s : State) (f : Fld) (d i j n : Nat) :
    s.incE f d i j n = if s.rf f d i j + n < 2 ^ f.width then s.wf f (s.rf f d i j + n) d i j
      else (s.wf f (2 ^ f.width - 1) d i j).wf ⟨f.reg, 47, 47⟩ 1 d i j := by
  unfold State.incE satAdd
  split <;> rfl

/-- A counter changes nothing but the register file. -/
theorem State.incE_frame (s : State) (f : Fld) (d i j n : Nat) : ∃ m, s.incE f d i j n = { s with regs := m } := by
  rw [State.incE_spec]
  split
  · exact ⟨_, rfl⟩
  · exact ⟨_, rfl⟩

/-- A counter leaves every field of another register alone. -/
theorem State.rf_incE_name (s : State) (f g : Fld) (d i j n d' i' j' : Nat) (h : f.reg ≠ g.reg) :
    (s.incE f d i j n).rf g d' i' j' = s.rf g d' i' j' := by
  have key : ∀ (t : State) (f' : Fld) (v : Nat), f'.reg = f.reg → (t.wf f' v d i j).rf g d' i' j' = t.rf g d' i' j' := by
    intro t f' v e
    unfold State.rf State.wf
    rw [State.setReg_reg_ne]
    intro e'
    injection e' with e1
    exact h (e ▸ e1.symm)
  rw [State.incE_spec]
  split
  · exact key s f _ rfl
  · exact (key _ ⟨f.reg, 47, 47⟩ 1 rfl).trans (key s f _ rfl)

/-- A counter leaves every other register alone. -/
theorem State.reg_incE_ne (s : State) (f : Fld) (d i j n : Nat) (q : Reg) (h : q ≠ ⟨f.reg, d, i, j⟩) :
    (s.incE f d i j n).reg q = s.reg q := by
  rw [State.incE_spec]
  split
  · rw [State.reg_wf_ne _ _ _ _ _ _ _ h]
  · rw [State.reg_wf_ne _ ⟨f.reg, 47, 47⟩ _ _ _ _ _ h, State.reg_wf_ne _ _ _ _ _ _ _ h]

/-- A counter below its largest value counts (R82). -/
theorem State.rf_incE_same (s : State) (f : Fld) (d i j n : Nat) (h : f.ok = true) (hn : s.rf f d i j + n < 2 ^ f.width) :
    (s.incE f d i j n).rf f d i j = s.rf f d i j + n := by
  rw [State.incE_spec, if_pos hn, State.rf_wf_same _ _ _ _ _ _ h, Nat.mod_eq_of_lt hn]

end Sys2Proof.Machine
end

