-- ==== Sys2Proof/Laws/Memory.lean ====
section
/-!
SUPPORT. Laws of the package's memory: reading after writing, and that every memory operation keeps the canonical form.
-/
namespace Sys2Proof.Machine

/-! ## Addresses -/

/-- Only as many bits of a number count as there are columns. -/
theorem xorCols_mod (cols : List Nat) (n w : Nat) (h : cols.length ≤ n) : xorCols cols (w % 2 ^ n) = xorCols cols w := by
  induction cols generalizing n w with
  | nil => rfl
  | cons c cs ih =>
    obtain ⟨m, rfl⟩ : ∃ m, n = m + 1 := ⟨n - 1, by simp at h; omega⟩
    have h2 : w % 2 ^ (m + 1) / 2 = w / 2 % 2 ^ m := by
      rw [Nat.pow_succ, Nat.mul_comm, Nat.mod_mul_right_div_self]
    have h1 : w % 2 ^ (m + 1) % 2 = w % 2 := Nat.mod_mod_of_dvd w ⟨2 ^ m, by rw [Nat.pow_succ, Nat.mul_comm]⟩
    simp only [xorCols, h1, h2, ih m (w / 2) (by simpa using h)]

/-- What an unlisted word reads as depends on the low 36 address bits, which the key of a word keeps. -/
theorem initCell_key (d pa : Nat) : initCell (memKey d pa % 2 ^ 36) = initCell pa := by
  have h : memKey d pa % 2 ^ 36 = pa % 2 ^ 36 := by
    unfold memKey; rw [Nat.add_comm, Nat.mul_comm, Nat.add_mul_mod_self_left]
  have hl : addrCols.length ≤ 36 := by decide
  unfold initCell checkOf
  rw [h, xorCols_mod addrCols 36 pa hl]

/-! ## One word -/

/-- A stored cell reads back. -/
@[simp] theorem State.cell_setCell_same (s : State) (d pa : Nat) (c : Cell) : (s.setCell d pa c).cell d pa = c := mget_mset_same _ _ _ _

/-- A store leaves every other word alone. -/
theorem State.cell_setCell_ne (s : State) (d pa d' pa' : Nat) (c : Cell) (h : memKey d' pa' ≠ memKey d pa) :
    (s.setCell d pa c).cell d' pa' = s.cell d' pa' := mget_mset_ne _ _ _ _ _ _ h

/-- A word put is stored with the check bits of its address. -/
@[simp] theorem State.cell_putWord_same (s : State) (d pa : Nat) (w : TWord) : (s.putWord d pa w).cell d pa = ⟨w, checkOf w pa⟩ :=
  s.cell_setCell_same d pa _

theorem State.cell_putWord_ne (s : State) (d pa d' pa' : Nat) (w : TWord) (h : memKey d' pa' ≠ memKey d pa) :
    (s.putWord d pa w).cell d' pa' = s.cell d' pa' := s.cell_setCell_ne d pa d' pa' _ h

/-- A word stored with its own check bits is good (R296). -/
@[simp] theorem decodeCell_checkOf (w : TWord) (pa : Nat) : decodeCell ⟨w, checkOf w pa⟩ pa = .good w := by
  simp [decodeCell]

/-- A read of a good word returns it and changes nothing (R296). -/
theorem State.readWord_good (s : State) (d pa : Nat) (src : ReadSrc) (wb : Bool) (w : TWord)
    (h : decodeCell (s.cell d pa) pa = .good w) : s.readWord d pa src wb = (w, false, s) := by
  unfold State.readWord; rw [h]

/-- A write where no flip mask is armed stores the word and takes it off the write-back queue (R295, R303). -/
theorem State.storeWord_plain (s : State) (d pa : Nat) (w : TWord) (h : s.rb F.PROT_FLIP_CTL_ARM d = false) :
    ∃ q, s.storeWord d pa w = { s.putWord d pa w with wb := q } := by
  unfold State.storeWord
  dsimp only
  split
  · have h' : (s.setWbq d (arrOf d pa) ((s.wbq d (arrOf d pa)).filter fun e => e.pa != pa)).flipArmed d (arrOf d pa) = false := by
      unfold State.flipArmed
      have e : (s.setWbq d (arrOf d pa) ((s.wbq d (arrOf d pa)).filter fun e => e.pa != pa)).rb F.PROT_FLIP_CTL_ARM d = false := h
      rw [e]; rfl
    rw [if_neg (by rw [h']; exact Bool.false_ne_true)]
    exact ⟨_, rfl⟩
  · have h' : s.flipArmed d (arrOf d pa) = false := by unfold State.flipArmed; rw [h]; rfl
    rw [if_neg (by rw [h']; exact Bool.false_ne_true)]
    exact ⟨_, rfl⟩

/-! ## What leaves the memory alone -/

@[simp] theorem State.incE_mem (s : State) (f : Fld) (d i j n : Nat) : (s.incE f d i j n).mem = s.mem := by
  obtain ⟨m, h⟩ := s.incE_frame f d i j n
  rw [h]

@[simp] theorem State.detect_mem (s : State) (d pa : Nat) (src : ReadSrc) (unc : Bool) (syn : Nat) :
    (s.detect d pa src unc syn).mem = s.mem := by
  have key : ∀ (t : State) (c : Bool) (v : Nat), (if c then t else t.ww .PROT_ERR_LAST v d (arrOf d pa).group).mem = t.mem := by
    intro t c v; cases c <;> rfl
  exact (State.raise_mem ..).trans ((key _ _ _).trans (s.incE_mem _ _ _ _ _))

@[simp] theorem State.queueWb_mem (s : State) (d pa : Nat) (w : TWord) : (s.queueWb d pa w).mem = s.mem := by
  unfold State.queueWb
  dsimp only
  split
  · rfl
  · split <;> simp

@[simp] theorem State.readWord_mem (s : State) (d pa : Nat) (src : ReadSrc) (wb : Bool) : (s.readWord d pa src wb).2.2.mem = s.mem := by
  unfold State.readWord
  split
  · rfl
  · cases wb <;> simp
  · simp

@[simp] theorem State.free_mem (s : State) : s.free.2.mem = s.mem := rfl
@[simp] theorem State.choice_mem (s : State) : s.choice.2.mem = s.mem := rfl

/-- A fold keeps what each of its steps keeps. -/
theorem foldl_keeps {A B : Type} (P : A → Prop) (f : A → B → A) (l : List B) (a : A) (h : P a) (hf : ∀ a b, P a → P (f a b)) :
    P (l.foldl f a) := by
  induction l generalizing a with
  | nil => exact h
  | cons b t ih => exact ih (f a b) (hf a b h)

/-- A fold leaves alone what each of its steps leaves alone. -/
theorem foldl_same {A B C : Type} (g : A → C) (f : A → B → A) (l : List B) (a : A) (hf : ∀ a b, g (f a b) = g a) :
    g (l.foldl f a) = g a := by
  induction l generalizing a with
  | nil => rfl
  | cons b t ih => exact (ih (f a b)).trans (hf a b)

/-! ## The canonical form -/

/-- A store keeps the canonical form. -/
theorem State.setCell_wf (s : State) (d pa : Nat) (c : Cell) (h : Memory.wf s.mem = true) : Memory.wf (s.setCell d pa c).mem = true :=
  mwf_mset _ s.mem (memKey d pa) c (initCell pa) (initCell_key d pa).symm h

/-- A word put keeps the canonical form. -/
theorem State.putWord_wf (s : State) (d pa : Nat) (w : TWord) (h : Memory.wf s.mem = true) : Memory.wf (s.putWord d pa w).mem = true :=
  s.setCell_wf d pa _ h

/-- A write keeps the canonical form, with an armed flip mask too. -/
theorem State.storeWord_wf (s : State) (d pa : Nat) (w : TWord) (h : Memory.wf s.mem = true) : Memory.wf (s.storeWord d pa w).mem = true := by
  unfold State.storeWord
  dsimp only
  split <;> split
  · exact State.setCell_wf _ d pa _ h
  · exact State.putWord_wf _ d pa _ h
  · exact State.setCell_wf _ d pa _ h
  · exact State.putWord_wf _ d pa _ h

/-- A narrow write keeps the canonical form. -/
theorem State.narrowWord_wf (s : State) (d pa lw lane : Nat) (w : TWord) (h : Memory.wf s.mem = true) :
    Memory.wf (s.narrowWord d pa lw lane w).mem = true := by
  have h' : Memory.wf (s.readWord d pa .merge false).2.2.mem = true := by rw [State.readWord_mem]; exact h
  unfold State.narrowWord
  dsimp only
  split
  · exact h'
  · exact State.storeWord_wf _ d pa _ h'

/-- An atomic keeps the canonical form. -/
theorem State.atomicWord_wf (s : State) (d pa : Nat) (swap : Bool) (w : TWord) (h : Memory.wf s.mem = true) :
    Memory.wf (s.atomicWord d pa swap w).2.mem = true := by
  have h' : Memory.wf (s.readWord d pa .atomic false).2.2.mem = true := by rw [State.readWord_mem]; exact h
  unfold State.atomicWord
  dsimp only
  split
  · exact State.storeWord_wf _ d pa _ h'
  · split
    · exact State.storeWord_wf _ d pa _ h'
    · rw [State.incE_mem]; exact h'

/-- Leaving words out keeps the canonical form. -/
theorem Memory.wf_filter (m : SMap Cell) (p : Nat × Cell → Bool) (h : Memory.wf m = true) : Memory.wf (m.filter p) = true := mwf_filter _ m p h

end Sys2Proof.Machine
end

