-- ==== Sys2Proof/Tests/Slice0.lean ====
section
/-!
SUPPORT. Tests of the model, and for each statement states and operands that meet its hypotheses.
-/
set_option Elab.async false

namespace Sys2Proof.Tests
open Sys2Proof Sys2Proof.Machine

/-- The state right after reset. -/
def s0 : State := State.reset

/-- A state with fields of registers replaced: field, then value and indices. -/
def put (s : State) (l : List (Fld × List Nat)) : State :=
  l.foldl (fun s e => s.wf e.1 (e.2.getD 0 0) (e.2.getD 1 0) (e.2.getD 2 0) (e.2.getD 3 0)) s

/-- The state right after reset at package time `t`. -/
def at_ (t : Nat) : State := s0.ww .TB_TIME t 0

/-- A READ of one word by master `m` of die `d`, under tag 0. -/
def rdTxn (d m a : Nat) : Txn := ⟨.read, d, m, 0, a, 1, 48, 0, [], .requests, 0⟩

/-- A posted WRITE. -/
def wrTxn (d m a : Nat) (ws : List TWord) : Txn := ⟨.write, d, m, 0, a, ws.length, 48, 0, ws, .posted, 0⟩

/-- An atomic ADD. -/
def atTxn (d m a : Nat) (w : TWord) : Txn := ⟨.add, d, m, 0, a, 1, 48, 0, [w], .requests, 0⟩

/-- Core 2 of die 1 running at its reset entry with instruction word `w` there, g1 = 2^47 + 5 and g2 = 49. -/
def coreAt (w : Nat) : State :=
  (((put s0 [(F.SEQ_STAT_STATE, [1, 1, 2])]).setSeqPc 1 2 0x100).putWord 1 (imemAddr 2 0x100) (dataWord w)
    |>.setG 1 2 1 (BitVec.ofNat 48 (2 ^ 47 + 5))) |>.setG 1 2 2 49

/-- A flit that carries a READ of one word, with sequence number `q`. -/
def rdFlit (q : Nat) : Nat :=
  let body := q * 2 ^ 104 + 5 * 2 ^ 56 + 2 ^ 20 * 2 ^ 8 + 2 * 2 ^ 6 + 1
  body + crc16 body 112 * 2 ^ 112

/-- A plain record with frame header word `h` and payload `bs` of 768 bytes (Table 7-2). -/
def recOf (h : Nat) (bs : List Nat) : List Nat :=
  let b := leBytes 6 h ++ bs ++ List.replicate 22 0
  b ++ leBytes 4 (crc32c b)

/-- The header of a plain image for `part` with `count` records, island mask `m` and every byte of its digest 0 (Table 7-1). -/
def hdrOf (part flags count m : Nat) : List Nat :=
  leBytes 4 0x3A5E7710 ++ leBytes 2 1 ++ [part, flags] ++ leBytes 4 7 ++ leBytes 4 count ++ List.replicate 8 0 ++ leBytes 8 m
    ++ leBytes 4 (512 + 800 * count) ++ leBytes 4 0 ++ leBytes 4 (512 + 800 * count) ++ leBytes 4 0 ++ List.replicate 464 0

/-- Flash bytes from address `a` on, as listed entries. -/
def flashOf (a : Nat) (bs : List Nat) : SMap Nat :=
  (bs.zipIdx.map fun e => (a + e.2, e.1)).filter fun e => e.2 ≠ 0xFF

/-- A load of a host stream. -/
def loadOf (begun : Bool) (hdr : ImgHdr) (next : Nat) (pos : RecPos) (bytes : List Nat) : Load :=
  ⟨3, 0, false, begun, hdr, next, pos, bytes, [], 0, []⟩

/-- The state right after reset with another configuration part. -/
def cfg_ (f : Cfg → Cfg) : State := { s0 with cfg := f s0.cfg }

/-- The state right after reset with another debug port. -/
def dbg_ (f : Debug → Debug) : State := { s0 with dbg := f s0.dbg }

/-- The state right after reset with context 15 of engine 7 of die 1 running with the 4-word descriptor `ws` and PROD 1. -/
def ctx_ (ws : List Nat) (f : Ctx → Ctx) : State :=
  (put s0 [(F.CTX_CTL_RUN, [1, 1, 7, 15]), (F.CTX_PROD_PROD, [1, 1, 7, 15])]).setCtx 1 7 15 (f { Ctx.init with desc := ws.map dataWord })

/-- The state right after reset with source `r` served last, fields of registers replaced and events `l` of source `n` waiting. -/
def fm_ (r : Nat) (fs : List (Fld × List Nat)) (n : Nat) (l : List FaultEv) : State :=
  ((put s0 fs).setFmWaiting n l) |> fun s => s.setFm { s.fm with rot := r }

/-- An outstanding packet of transport `tr` that has not started. -/
def pkt_ (tr tag op : Nat) (ps : List Nat) : CabPkt := ⟨tr, tag, op, ps, none, false, false, false, 0, 0, [], [], 0⟩

/-- A state with the outstanding packets `l`, served by the firmware. -/
def cab_ (s : State) (l : List CabPkt) : State :=
  { s.wf F.CABEN_STAT_BOOT_SM 0 0 with cab := { s.cab with pkts := l, ready := true } }

/-- The bytes of a packet (Table 14-5). -/
def bytes_ (op tag : Nat) (ps : List Nat) : List Nat :=
  let b := [0xCB, 1, op, tag] ++ leBytes 2 ps.length ++ ps
  b ++ leBytes 4 (crc32c b)

/-- The state right after reset with another configuration part, and the packet `p` outstanding. -/
def cabCfg_ (p : CabPkt) (f : Cfg → Cfg) : State := { cab_ s0 [p] with cfg := f s0.cfg }

/-- The words of a frame that carries an IDENTIFY packet under tag 7. -/
def saWords_ : List TWord :=
  [dataWord (leNat ((bytes_ 1 7 []).take 6)), ⟨BitVec.ofNat 48 (leNat ((bytes_ 1 7 []).drop 6)), tagEnd⟩]

/-- A state in which that frame is readable on channel 0. -/
def saFrame_ : State :=
  (((cab_ (put s0 [(F.CABEN_CTL_SAETTE_EN, [1, 0])]) []).putWord 0 (sbufAddr 0) (saWords_.getD 0 noWord)).putWord 0 (sbufAddr 1)
    (saWords_.getD 1 noWord)).setSc 0 { s0.sc 0 with rx := [(0, 0), (1, 0)], ready := 2 }

/-- The state right after reset with a directory: golden slot at 0x20000, slots 1 and 2 at 0x30000 and 0x40000, the journal at
0x10000 written up to its second record, the NV store at 0x50000. -/
def nv_ (f : Cfg → Cfg) : State := cfg_ fun c => f { c with
  dirOk := true, jput := 16
  slots := [(0, (0x20000, 0x10000)), (1, (0x40000, 0x10000)), (2, (0x30000, 0x10000)), (3, (0x10000, 0x10000)), (4, (0x50000, 0x40000))] }

/-- A flash directory with five entries: slots 3 to 7 of Table 7-7. -/
def dir_ : List Nat :=
  let e := fun (ty base size : Nat) => [ty, 0, 0, 0] ++ leBytes 4 base ++ leBytes 4 size ++ [0, 0, 0, 0]
  let b := leBytes 4 0x0D1EC7A1 ++ [1, 0, 5, 0] ++ e 3 0x20000 0x10000 ++ e 4 0x40000 0x10000 ++ e 5 0x30000 0x10000 ++ e 6 0x10000 0x10000
    ++ e 7 0x50000 0x40000
  b ++ leBytes 4 (crc32c b)

/-- That directory in the scratchpad of die 1, GOLDEN_OPEN, and a STORE of it outstanding. -/
def dirState_ : State :=
  (List.range 16).foldl (fun s k => s.putWord 1 k (dataWord (leNat ((dir_.drop (6 * k)).take 6))))
    (cab_ (put s0 [(F.CFG_NV_STAT_GOLDEN_OPEN, [1, 0])]) [pkt_ 0 2 26 ([5, 0] ++ leBytes 6 (2 ^ 36) ++ leBytes 4 92)])

/-- A state whose flash holds a record of type `ty` with data `b` in the NV store (R367). -/
def stored_ (ty : Nat) (b : List Nat) (s : State) : State :=
  { s with cfg := { s.cfg with flash := match s.nvOps ty b with
      | some (ops, _) => ops.flatMap fun o => match o with
        | .program a pg => flashOf a pg
        | .erase _ => []
      | none => s.cfg.flash } }

/-! ## Ill-formed commands: one for each check -/

theorem test_wf_places : Instr.wf (.thermalSensorRead 5 []) = false ∧ Instr.wf (.runningCodeStep 0 0) = false ∧
    Instr.wf (.runningCodeStep 1 16) = false ∧ Instr.wf (.bmPortAccess 1 0 24 none none) = false ∧ Instr.wf (.bankAccess 0 4 0) = false ∧
    Instr.wf (.runningCodeStep 4 15) = true := by decide +kernel
theorem test_wf_links : Instr.wf (.sequencedFlit 6 0 0 0 0) = false ∧ Instr.wf (.sequencedFlit 0 18 0 0 0) = false ∧ Instr.wf (.sequencedFlit 1 0 (2 ^ 128) 0 0) = false ∧
    Instr.wf (.markScheduleWord 8 0) = false ∧ Instr.wf (.markScheduleWord 1 (2 ^ 256)) = false ∧ Instr.wf (.frameCheck 64) = false ∧
    Instr.wf (.markScheduleWord 7 0) = true := by decide +kernel
theorem test_wf_lanes : Instr.wf (.lanePstateRequest 16 0) = false ∧ Instr.wf (.macEnable 4 ⟨dataWord 0, none⟩ false) = false ∧
    Instr.wf (.macTxFrame 3 (2 ^ 48)) = false ∧ Instr.wf (.macRxFrame 3 [256] true 0) = false ∧ Instr.wf (.dramEnWrite 2 (dataWord 0) []) = false := by
  decide +kernel
theorem test_wf_masters : Instr.wf (.seqNop 1 4) = false ∧ Instr.wf (.descriptorFetch 0 4 0) = false ∧ Instr.wf (.descriptorFetch 1 0 16) = false ∧
    Instr.wf (.claim 0 3) = false ∧ Instr.wf (.instanceReset 16 (dataWord 0)) = false ∧ Instr.wf (.faultWindowClose 117) = false ∧
    Instr.wf (.descriptorFetch 1 7 15) = true := by decide +kernel
theorem test_wf_transactions : Instr.wf (.read { rdTxn 1 2 5 with len := 65 }) = false ∧ Instr.wf (.read { rdTxn 1 2 5 with rtag := 64 }) = false ∧
    Instr.wf (.readResp ⟨false, 1, 2, 3, 4, []⟩) = false ∧ Instr.wf (.read (rdTxn 1 2 5)) = true := by decide +kernel

/-! ## Words and values that the spec writes out -/

/-- The words of the worked example of chapter 15. -/
theorem test_seq_words : seqDecode 0xA04000 = some .mbr ∧ seqDecode 0x80B410 = some .ldl ∧ seqDecode 0x044480 = some .add ∧ seqDecode 0xD40000 = some .wait ∧ seqDecode 0x8C7000 = some .stg ∧ seqDecode 0xD00000 = some .reti ∧
    seqDecode 0xC03FFF = some .b := by decide +kernel
/-- Their fields: g1, mailbox 0; g2, 16 from g13; g1, g1, g2; always, one word back. -/
theorem test_seq_fields : fRd 0xA04000 = 1 ∧ fRd 0x80B410 = 2 ∧ fRa 0x80B410 = 13 ∧ fImm10 0x80B410 = 16 ∧ fRd 0x044480 = 1 ∧ fRa 0x044480 = 1 ∧
    fRb 0x044480 = 2 ∧ f14 0xC03FFF = 2 ^ 14 - 1 ∧ fRd 0xC03FFF = 0 := by decide +kernel
/-- The check value of CRC-32C. -/
theorem test_crc32c : crc32c [0x31, 0x32, 0x33, 0x34, 0x35, 0x36, 0x37, 0x38, 0x39] = 0xE3069283 := by decide +kernel
/-- VOUT_COMMAND for 810 mV, of the worked start-up of chapter 19. -/
theorem test_vout : linearOf 0x14 810 = 0x0CF6 := by decide +kernel
/-- SHA-256 of "abc", of FIPS 180-4 (R343). -/
theorem test_sha256_abc : sha256 [0x61, 0x62, 0x63] = 0xba7816bf8f01cfea414140de5dae2223b00361a396177a9cb410ff61f20015ad := by decide +kernel
/-- AES-256 of the example of FIPS 197 (R343). -/
theorem test_aes256_fips197 : beNat (aesEnc (aesKeys (List.range 32)) ((List.range 16).map (17 * ·))) = 0x8ea2b7ca516745bfeafc49904b496089 := by
  decide +kernel

/-! ## Witnesses: states and operands that meet the hypotheses of each statement -/

def w_ResetRequestsAreRecorded_1_s : State := s0
theorem test_w_ResetRequestsAreRecorded_1 : w_ResetRequestsAreRecorded_1_s.rst.inReset = false ∧
    w_ResetRequestsAreRecorded_1_s.rst.por = false := by decide +kernel

def w_ResetRequestsAreRecorded_2_s : State := put { at_ 2000000000 with rst := { s0.rst with shutdown := true, coolAt := some 5 } } [(F.RST_CTL_AUTO_RESTART, [1])]
theorem test_w_ResetRequestsAreRecorded_2 : w_ResetRequestsAreRecorded_2_s.rst.inReset = false ∧
    w_ResetRequestsAreRecorded_2_s.rst.por = false ∧
    w_ResetRequestsAreRecorded_2_s.rst.coolAt = some 5 ∧
    w_ResetRequestsAreRecorded_2_s.rst.shutdown = true ∧
    w_ResetRequestsAreRecorded_2_s.rb F.RST_CTL_AUTO_RESTART 0 = true ∧
    1000000000 ≤ w_ResetRequestsAreRecorded_2_s.ago 5 := by decide +kernel

def w_ResetRequestsAreRecorded_3_s : State := s0
def w_ResetRequestsAreRecorded_3_w : TWord := dataWord (2 ^ 47 + 2 ^ 45)
theorem test_w_ResetRequestsAreRecorded_3 : w_ResetRequestsAreRecorded_3_s.rst.inReset = false ∧
    w_ResetRequestsAreRecorded_3_s.rst.por = false ∧
    w_ResetRequestsAreRecorded_3_w.tag.toNat < 2 ∧
    bit w_ResetRequestsAreRecorded_3_w.data.toNat 47 = true ∧
    bit w_ResetRequestsAreRecorded_3_w.data.toNat 46 = false := by decide +kernel

def w_ResetRequestsAreRecorded_4_s : State := s0
def w_ResetRequestsAreRecorded_4_w : TWord := dataWord (2 ^ 46)
theorem test_w_ResetRequestsAreRecorded_4 : w_ResetRequestsAreRecorded_4_s.rst.inReset = false ∧
    w_ResetRequestsAreRecorded_4_w.tag.toNat < 2 ∧
    bit w_ResetRequestsAreRecorded_4_w.data.toNat 47 = false ∧
    bit w_ResetRequestsAreRecorded_4_w.data.toNat 46 = true := by decide +kernel

def w_ResetRequestsAreRecorded_5_s : State := s0
def w_ResetRequestsAreRecorded_5_w : TWord := dataWord (2 ^ 47 + 3)
theorem test_w_ResetRequestsAreRecorded_5 : w_ResetRequestsAreRecorded_5_w.tag.toNat < 2 ∧
    bit w_ResetRequestsAreRecorded_5_w.data.toNat 47 = true := by decide +kernel

def w_ResetRequestsAreCarriedOut_1_s : State := s0
theorem test_w_ResetRequestsAreCarriedOut_1 : w_ResetRequestsAreCarriedOut_1_s.rst.inReset = false ∧
    w_ResetRequestsAreCarriedOut_1_s.rst.por = false := by decide +kernel

def w_ResetRequestsAreCarriedOut_2_s : State := s0
def w_ResetRequestsAreCarriedOut_2_w : TWord := dataWord (2 ^ 47 + 2 ^ 45)
def w_ResetRequestsAreCarriedOut_2_acts : List HwAct := []
theorem test_w_ResetRequestsAreCarriedOut_2 : w_ResetRequestsAreCarriedOut_2_s.rst.inReset = false ∧
    w_ResetRequestsAreCarriedOut_2_s.rst.por = false ∧
    w_ResetRequestsAreCarriedOut_2_w.tag.toNat < 2 ∧
    bit w_ResetRequestsAreCarriedOut_2_w.data.toNat 47 = true ∧
    bit w_ResetRequestsAreCarriedOut_2_w.data.toNat 46 = false := by decide +kernel

def w_ResetRequestsAreCarriedOut_3_s : State := s0
def w_ResetRequestsAreCarriedOut_3_w : TWord := dataWord (2 ^ 46)
def w_ResetRequestsAreCarriedOut_3_acts : List HwAct := []
theorem test_w_ResetRequestsAreCarriedOut_3 : w_ResetRequestsAreCarriedOut_3_s.rst.inReset = false ∧
    w_ResetRequestsAreCarriedOut_3_w.tag.toNat < 2 ∧
    bit w_ResetRequestsAreCarriedOut_3_w.data.toNat 47 = false ∧
    bit w_ResetRequestsAreCarriedOut_3_w.data.toNat 46 = true := by decide +kernel

def w_ResetRequestsAreCarriedOut_4_s : State := s0
def w_ResetRequestsAreCarriedOut_4_w : TWord := dataWord (2 ^ 47 + 3)
theorem test_w_ResetRequestsAreCarriedOut_4 : w_ResetRequestsAreCarriedOut_4_w.tag.toNat < 2 ∧
    bit w_ResetRequestsAreCarriedOut_4_w.data.toNat 47 = true := by decide +kernel

def w_ResetRequestsAreCarriedOut_5_s : State := put { at_ 2000000000 with rst := { s0.rst with shutdown := true, coolAt := some 5 } } [(F.RST_CTL_AUTO_RESTART, [1])]
theorem test_w_ResetRequestsAreCarriedOut_5 : w_ResetRequestsAreCarriedOut_5_s.rst.inReset = false ∧
    w_ResetRequestsAreCarriedOut_5_s.rst.por = false ∧
    w_ResetRequestsAreCarriedOut_5_s.rst.coolAt = some 5 ∧
    w_ResetRequestsAreCarriedOut_5_s.rst.shutdown = true ∧
    w_ResetRequestsAreCarriedOut_5_s.rb F.RST_CTL_AUTO_RESTART 0 = true ∧
    1000000000 ≤ w_ResetRequestsAreCarriedOut_5_s.ago 5 := by decide +kernel

def w_ResetRequestsAreCarriedOut_6_s : State := s0
def w_ResetRequestsAreCarriedOut_6_w : TWord := ⟨5, 3⟩
def w_ResetRequestsAreCarriedOut_6_acts : List HwAct := []
theorem test_w_ResetRequestsAreCarriedOut_6 : 2 ≤ w_ResetRequestsAreCarriedOut_6_w.tag.toNat ∧
    w_ResetRequestsAreCarriedOut_6_s.rf F.REG_ERR_VALID 0 = 0 := by decide +kernel

def w_ResetsAreTakenAndReleased_1_s : State := s0
theorem test_w_ResetsAreTakenAndReleased_1 : 0 ≤ 1 ∧
    15 < 48 := by decide +kernel

def w_ResetsAreTakenAndReleased_1a_s : State := s0
theorem test_w_ResetsAreTakenAndReleased_1a : 1 ≤ 1 ∧
    0 < 48 := by decide +kernel

def w_ResetsAreTakenAndReleased_2_s : State := s0

def w_ResetsAreTakenAndReleased_3_s : State := { s0 with rst := { s0.rst with por := true, trip := true } }
theorem test_w_ResetsAreTakenAndReleased_3 : w_ResetsAreTakenAndReleased_3_s.rst.por = true ∧
    ((w_ResetsAreTakenAndReleased_3_s.rst.trip = true → true = true)) ∧
    ((∀ b, b < 8 → w_ResetsAreTakenAndReleased_3_s.hasBank b = true → 0xFFFF / 4 ^ b % 4 ≠ 0)) := by decide +kernel

def w_ResetsAreTakenAndReleased_4_s : State := { s0 with rst := { s0.rst with por := true, trip := true } }
theorem test_w_ResetsAreTakenAndReleased_4 : w_ResetsAreTakenAndReleased_4_s.rst.trip = true := by decide +kernel

def w_ResetsAreTakenAndReleased_5_s : State := { s0 with rst := { s0.rst with devReq := some 5 } }
theorem test_w_ResetsAreTakenAndReleased_5 : w_ResetsAreTakenAndReleased_5_s.rst.devReq = some 5 ∧
    5 < 16 ∧
    w_ResetsAreTakenAndReleased_5_s.rst.por = false ∧
    w_ResetsAreTakenAndReleased_5_s.rst.inReset = false ∧
    w_ResetsAreTakenAndReleased_5_s.rst.shutdown = false ∧
    ((5 = 3 → w_ResetsAreTakenAndReleased_5_s.holdOver = true)) := by decide +kernel

def w_ResetsAreTakenAndReleased_6_s : State := { s0 with rst := { s0.rst with inReset := true } }
theorem test_w_ResetsAreTakenAndReleased_6 : w_ResetsAreTakenAndReleased_6_s.rst.inReset = true ∧
    w_ResetsAreTakenAndReleased_6_s.rst.shutdown = false ∧
    w_ResetsAreTakenAndReleased_6_s.rst.reload = true := by decide +kernel

def w_ResetsAreTakenAndReleased_7_s : State := { s0 with rst := { s0.rst with fwReq := true, phase := 6 } }
theorem test_w_ResetsAreTakenAndReleased_7 : w_ResetsAreTakenAndReleased_7_s.rst.fwReq = true ∧
    w_ResetsAreTakenAndReleased_7_s.rst.por = false ∧
    w_ResetsAreTakenAndReleased_7_s.rst.inReset = false ∧
    w_ResetsAreTakenAndReleased_7_s.rst.devReq = none ∧
    w_ResetsAreTakenAndReleased_7_s.holdOver = true := by decide +kernel

def w_ResetsAreTakenAndReleased_3a_s : State := { s0 with rst := { s0.rst with por := true } }
theorem test_w_ResetsAreTakenAndReleased_3a : w_ResetsAreTakenAndReleased_3a_s.rst.por = true ∧
    ((w_ResetsAreTakenAndReleased_3a_s.rst.trip = true → false = true)) ∧
    ((∀ b, b < 8 → w_ResetsAreTakenAndReleased_3a_s.hasBank b = true → 0xFFFF / 4 ^ b % 4 ≠ 0)) := by decide +kernel

def w_StartUpGoesThroughItsPhases_1_s : State := s0
def w_StartUpGoesThroughItsPhases_1_sfdp : Option Sfdp := none
theorem test_w_StartUpGoesThroughItsPhases_1 : w_StartUpGoesThroughItsPhases_1_s.rst.por = false ∧
    w_StartUpGoesThroughItsPhases_1_s.rst.inReset = false ∧
    w_StartUpGoesThroughItsPhases_1_s.rst.shutdown = false ∧
    w_StartUpGoesThroughItsPhases_1_s.rst.phase = 2 ∧
    w_StartUpGoesThroughItsPhases_1_s.cab.ready = false := by decide +kernel

def w_StartUpGoesThroughItsPhases_1a_s : State := s0
def w_StartUpGoesThroughItsPhases_1a_sfdp : Option Sfdp := some ⟨true, true, true, false⟩
theorem test_w_StartUpGoesThroughItsPhases_1a : w_StartUpGoesThroughItsPhases_1a_s.rst.por = false ∧
    w_StartUpGoesThroughItsPhases_1a_s.rst.inReset = false ∧
    w_StartUpGoesThroughItsPhases_1a_s.rst.shutdown = false ∧
    w_StartUpGoesThroughItsPhases_1a_s.rst.phase = 2 ∧
    w_StartUpGoesThroughItsPhases_1a_s.cab.ready = false := by decide +kernel

def w_StartUpGoesThroughItsPhases_2_s : State := put { s0 with rst := { s0.rst with phase := 3, reload := false } } [(F.CABEN_STAT_BOOT_SM, [0])]
def w_StartUpGoesThroughItsPhases_2_vmode : Option Nat := some 0x14
theorem test_w_StartUpGoesThroughItsPhases_2 : w_StartUpGoesThroughItsPhases_2_s.rst.por = false ∧
    w_StartUpGoesThroughItsPhases_2_s.rst.inReset = false ∧
    w_StartUpGoesThroughItsPhases_2_s.rst.shutdown = false ∧
    w_StartUpGoesThroughItsPhases_2_s.bootSm = false ∧
    w_StartUpGoesThroughItsPhases_2_s.rst.phase = 3 ∧
    w_StartUpGoesThroughItsPhases_2_s.rst.reload = false := by decide +kernel

def w_StartUpGoesThroughItsPhases_3_s : State := { s0 with rst := { s0.rst with phase := 4 }, cfg := { s0.cfg with loaded := true } }
theorem test_w_StartUpGoesThroughItsPhases_3 : w_StartUpGoesThroughItsPhases_3_s.gated = false ∧
    w_StartUpGoesThroughItsPhases_3_s.rst.phase = 4 ∧
    w_StartUpGoesThroughItsPhases_3_s.imageLoaded = true ∧
    w_StartUpGoesThroughItsPhases_3_s.cfg.load = none ∧
    w_StartUpGoesThroughItsPhases_3_s.cfg.release = [] ∧
    w_StartUpGoesThroughItsPhases_3_s.lineOk = true := by decide +kernel

def w_StartUpGoesThroughItsPhases_4_s : State := put { at_ 2000000000 with rst := { s0.rst with phase := 6 } } [(F.WDOG_CTL_EN, [1]), (F.CABEN_STAT_BOOT_SM, [0])]
theorem test_w_StartUpGoesThroughItsPhases_4 : w_StartUpGoesThroughItsPhases_4_s.gated = false ∧
    w_StartUpGoesThroughItsPhases_4_s.bootSm = false ∧
    w_StartUpGoesThroughItsPhases_4_s.rst.phase ≠ 2 ∧
    w_StartUpGoesThroughItsPhases_4_s.rst.phase ≠ 8 ∧
    w_StartUpGoesThroughItsPhases_4_s.rb F.WDOG_CTL_EN 0 = true ∧
    w_StartUpGoesThroughItsPhases_4_s.rf F.WDOG_CTL_TIMEOUT_MS 0 * 1000000 ≤ w_StartUpGoesThroughItsPhases_4_s.ago w_StartUpGoesThroughItsPhases_4_s.rst.kickAt := by decide +kernel

def w_SuppliesCoreVoltageAndTemperature_1_s : State := s0
theorem test_w_SuppliesCoreVoltageAndTemperature_1 : 0 < 48 := by decide +kernel

def w_SuppliesCoreVoltageAndTemperature_1a_s : State := s0
theorem test_w_SuppliesCoreVoltageAndTemperature_1a : 47 < 48 := by decide +kernel

def w_SuppliesCoreVoltageAndTemperature_2_s : State := s0
theorem test_w_SuppliesCoreVoltageAndTemperature_2 : 6 < 48 := by decide +kernel

def w_SuppliesCoreVoltageAndTemperature_3_s : State := put { s0 with rst := { s0.rst with phase := 4 } } [(F.PMB_CTL_EN, [1]), (F.CABEN_STAT_BOOT_SM, [0])]
theorem test_w_SuppliesCoreVoltageAndTemperature_3 : w_SuppliesCoreVoltageAndTemperature_3_s.fwServes = true ∧
    w_SuppliesCoreVoltageAndTemperature_3_s.rb F.PMB_CTL_EN 0 = true ∧
    ((true = true ∨ w_SuppliesCoreVoltageAndTemperature_3_s.rb F.PMB_CTL_PEC_EN 0 = false)) ∧
    ((w_SuppliesCoreVoltageAndTemperature_3_s.rf F.PMB_STAT_REQ_MV 0 < w_SuppliesCoreVoltageAndTemperature_3_s.wantMv ∨ w_SuppliesCoreVoltageAndTemperature_3_s.wantMv < w_SuppliesCoreVoltageAndTemperature_3_s.rf F.PMB_STAT_REQ_MV 0 ∧ w_SuppliesCoreVoltageAndTemperature_3_s.rst.want.1 = w_SuppliesCoreVoltageAndTemperature_3_s.wantMv ∧ 1000000 ≤ w_SuppliesCoreVoltageAndTemperature_3_s.ago w_SuppliesCoreVoltageAndTemperature_3_s.rst.want.2)) := by decide +kernel

def w_SuppliesCoreVoltageAndTemperature_3a_s : State := put { at_ 1500000 with rst := { s0.rst with phase := 4, want := (810, 400000) } } [(F.PMB_CTL_EN, [1]), (F.PMB_CTL_PEC_EN, [0]), (F.CABEN_STAT_BOOT_SM, [0]), (F.PMB_STAT_REQ_MV, [830])]
theorem test_w_SuppliesCoreVoltageAndTemperature_3a : w_SuppliesCoreVoltageAndTemperature_3a_s.fwServes = true ∧
    w_SuppliesCoreVoltageAndTemperature_3a_s.rb F.PMB_CTL_EN 0 = true ∧
    ((false = true ∨ w_SuppliesCoreVoltageAndTemperature_3a_s.rb F.PMB_CTL_PEC_EN 0 = false)) ∧
    ((w_SuppliesCoreVoltageAndTemperature_3a_s.rf F.PMB_STAT_REQ_MV 0 < w_SuppliesCoreVoltageAndTemperature_3a_s.wantMv ∨ w_SuppliesCoreVoltageAndTemperature_3a_s.wantMv < w_SuppliesCoreVoltageAndTemperature_3a_s.rf F.PMB_STAT_REQ_MV 0 ∧ w_SuppliesCoreVoltageAndTemperature_3a_s.rst.want.1 = w_SuppliesCoreVoltageAndTemperature_3a_s.wantMv ∧ 1000000 ≤ w_SuppliesCoreVoltageAndTemperature_3a_s.ago w_SuppliesCoreVoltageAndTemperature_3a_s.rst.want.2)) := by decide +kernel

def w_SuppliesCoreVoltageAndTemperature_4_s : State := put { s0 with rst := { s0.rst with phase := 4 } } [(F.PMB_STAT_SETTLED, [0]), (F.CABEN_STAT_BOOT_SM, [0])]
theorem test_w_SuppliesCoreVoltageAndTemperature_4 : w_SuppliesCoreVoltageAndTemperature_4_s.fwServes = true ∧
    w_SuppliesCoreVoltageAndTemperature_4_s.rb F.PMB_STAT_SETTLED 0 = false := by decide +kernel

def w_SuppliesCoreVoltageAndTemperature_5_s : State := put { at_ 1000000 with rst := { s0.rst with phase := 4 } } [(F.PMB_CTL_EN, [1]), (F.PMB_STAT_SETTLED, [0]), (F.CABEN_STAT_BOOT_SM, [0])]
theorem test_w_SuppliesCoreVoltageAndTemperature_5 : w_SuppliesCoreVoltageAndTemperature_5_s.fwServes = true ∧
    w_SuppliesCoreVoltageAndTemperature_5_s.rb F.PMB_CTL_EN 0 = true ∧
    w_SuppliesCoreVoltageAndTemperature_5_s.rb F.PMB_STAT_SETTLED 0 = false ∧
    1000000 ≤ w_SuppliesCoreVoltageAndTemperature_5_s.ago w_SuppliesCoreVoltageAndTemperature_5_s.rst.sentAt ∧
    w_SuppliesCoreVoltageAndTemperature_5_s.rst.tries < 3 := by decide +kernel

def w_SuppliesCoreVoltageAndTemperature_6_s : State := put { s0 with rst := { s0.rst with phase := 6 } } [(F.CABEN_STAT_BOOT_SM, [0])]
theorem test_w_SuppliesCoreVoltageAndTemperature_6 : w_SuppliesCoreVoltageAndTemperature_6_s.fwServes = true := by decide +kernel

def w_SuppliesCoreVoltageAndTemperature_7_s : State := put { s0 with rst := { s0.rst with phase := 6 } } [(F.CABEN_STAT_BOOT_SM, [0])]
theorem test_w_SuppliesCoreVoltageAndTemperature_7 : w_SuppliesCoreVoltageAndTemperature_7_s.fwServes = true := by decide +kernel

def w_SuppliesCoreVoltageAndTemperature_8_s : State := s0
def w_SuppliesCoreVoltageAndTemperature_8_t0 : Int := -3
def w_SuppliesCoreVoltageAndTemperature_8_ts : List Int := [117, 20]
theorem test_w_SuppliesCoreVoltageAndTemperature_8 : w_SuppliesCoreVoltageAndTemperature_8_s.senseDies.contains 1 = true := by decide +kernel

def w_SuppliesCoreVoltageAndTemperature_9_s : State := put s0 [(F.THERM_DIE_LEVEL, [3, 0, 1])]
theorem test_w_SuppliesCoreVoltageAndTemperature_9 : w_SuppliesCoreVoltageAndTemperature_9_s.rst.por = false ∧
    w_SuppliesCoreVoltageAndTemperature_9_s.rst.shutdown = false ∧
    1 ∈ w_SuppliesCoreVoltageAndTemperature_9_s.senseDies ∧
    w_SuppliesCoreVoltageAndTemperature_9_s.rf F.THERM_DIE_LEVEL 0 1 = 3 := by decide +kernel

def w_HeadEndsFollowTheActiveDevice_1_s : State := put { s0 with follow := 1 } [(F.DEV_ROLE_ROLE, [2]), (F.DEV_ROLE_CTL_LINK_HOLD, [7])]
theorem test_w_HeadEndsFollowTheActiveDevice_1 : w_HeadEndsFollowTheActiveDevice_1_s.headEnd = true ∧
    w_HeadEndsFollowTheActiveDevice_1_s.follow ≠ 0 ∧
    w_HeadEndsFollowTheActiveDevice_1_s.followsUp = false ∧
    w_HeadEndsFollowTheActiveDevice_1_s.headLost = none ∧
    w_HeadEndsFollowTheActiveDevice_1_s.rf F.DEV_ROLE_CTL_LINK_HOLD 0 ≠ 0 := by decide +kernel

def w_HeadEndsFollowTheActiveDevice_2_s : State := put { at_ 7000000 with headLost := some 0 } [(F.DEV_ROLE_ROLE, [2]), (F.DEV_ROLE_CTL_LINK_HOLD, [7])]
theorem test_w_HeadEndsFollowTheActiveDevice_2 : w_HeadEndsFollowTheActiveDevice_2_s.headLost = some 0 ∧
    w_HeadEndsFollowTheActiveDevice_2_s.followsUp = false ∧
    w_HeadEndsFollowTheActiveDevice_2_s.rf F.DEV_ROLE_CTL_LINK_HOLD 0 * 1000000 ≤ w_HeadEndsFollowTheActiveDevice_2_s.ago 0 := by decide +kernel

def w_HeadEndsFollowTheActiveDevice_3_s : State := put s0 [(F.DEV_ROLE_ROLE, [2]), (F.SL_STAT_STATE, [2, 0, 1]), (F.SL_PEER_ACTIVE, [1, 0, 1])]
theorem test_w_HeadEndsFollowTheActiveDevice_3 : w_HeadEndsFollowTheActiveDevice_3_s.headEnd = true ∧
    w_HeadEndsFollowTheActiveDevice_3_s.peerActive 0 = false ∧
    w_HeadEndsFollowTheActiveDevice_3_s.peerActive 1 = true ∧
    w_HeadEndsFollowTheActiveDevice_3_s.follow ≠ 2 := by decide +kernel

def w_HeadEndsFollowTheActiveDevice_4_s : State := put s0 [(F.DEV_ROLE_ROLE, [2]), (F.SL_STAT_STATE, [2, 0, 0]), (F.SL_PEER_ACTIVE, [1, 0, 0])]
theorem test_w_HeadEndsFollowTheActiveDevice_4 : w_HeadEndsFollowTheActiveDevice_4_s.headEnd = true ∧
    w_HeadEndsFollowTheActiveDevice_4_s.peerActive 0 = true ∧
    w_HeadEndsFollowTheActiveDevice_4_s.peerActive 1 = false ∧
    w_HeadEndsFollowTheActiveDevice_4_s.follow ≠ 1 := by decide +kernel

def w_HeadEndsFollowTheActiveDevice_5_s : State := put s0 [(F.DEV_ROLE_ROLE, [2]), (F.SL_STAT_STATE, [2, 0, 0]), (F.SL_PEER_ACTIVE, [1, 0, 0]), (F.SL_STAT_STATE, [2, 0, 1]), (F.SL_PEER_ACTIVE, [1, 0, 1])]
theorem test_w_HeadEndsFollowTheActiveDevice_5 : w_HeadEndsFollowTheActiveDevice_5_s.headEnd = true ∧
    w_HeadEndsFollowTheActiveDevice_5_s.peerActive 0 = true ∧
    w_HeadEndsFollowTheActiveDevice_5_s.peerActive 1 = true := by decide +kernel

def w_HeadEndsFollowTheActiveDevice_6_s : State := put { s0 with switchTo := 2 } [(F.DEV_ROLE_ROLE, [2])]
theorem test_w_HeadEndsFollowTheActiveDevice_6 : w_HeadEndsFollowTheActiveDevice_6_s.headEnd = true ∧
    w_HeadEndsFollowTheActiveDevice_6_s.switchTo ≠ 0 := by decide +kernel

def w_HeadEndsFollowTheActiveDevice_7_s : State := put { s0 with cfg := { s0.cfg with loaded := true } } [(F.DEV_ROLE_ROLE, [0]), (F.DEV_ROLE_CTL_HEAD_LINK_EN, [0])]
def w_HeadEndsFollowTheActiveDevice_7_w : TWord := dataWord 0x302
theorem test_w_HeadEndsFollowTheActiveDevice_7 : w_HeadEndsFollowTheActiveDevice_7_w.tag.toNat < 2 ∧
    bits w_HeadEndsFollowTheActiveDevice_7_w.data.toNat 3 3 = w_HeadEndsFollowTheActiveDevice_7_s.rf F.DEV_ROLE_CTL_HEAD_LINK_B_EN 0 ∧
    bits w_HeadEndsFollowTheActiveDevice_7_w.data.toNat 2 2 = w_HeadEndsFollowTheActiveDevice_7_s.rf F.DEV_ROLE_CTL_HEAD_LINK_EN 0 := by decide +kernel

def w_AdaptiveLoopStretches_1_s : State := s0
theorem test_w_AdaptiveLoopStretches_1 : w_AdaptiveLoopStretches_1_s.oscRuns = true := by decide +kernel

def w_AdaptiveLoopStretches_2_s : State := put s0 [(F.ISL_CLK_STAT_FREQ_RUN, [100, 2, 3]), (F.ISL_CLK_STAT_FLOOR_EFF, [60, 2, 3])]
theorem test_w_AdaptiveLoopStretches_2 : w_AdaptiveLoopStretches_2_s.oscRuns = true ∧
    w_AdaptiveLoopStretches_2_s.rf F.ISL_CLK_STAT_STRETCH 2 3 ≠ w_AdaptiveLoopStretches_2_s.sMax 2 3 ∧
    ¬ (w_AdaptiveLoopStretches_2_s.rf F.ISL_CLK_STAT_STRETCH 2 3 = 16 ∧ w_AdaptiveLoopStretches_2_s.rf F.ISL_CLK_STAT_FREQ_RUN 2 3 = 0) := by decide +kernel

def w_AdaptiveLoopStretches_3_s : State := put s0 [(F.ISL_CLK_STAT_FREQ_RUN, [60, 2, 3]), (F.ISL_CLK_STAT_FLOOR_EFF, [60, 2, 3])]
theorem test_w_AdaptiveLoopStretches_3 : w_AdaptiveLoopStretches_3_s.oscRuns = true ∧
    w_AdaptiveLoopStretches_3_s.rf F.ISL_CLK_STAT_STRETCH 2 3 = w_AdaptiveLoopStretches_3_s.sMax 2 3 ∧
    w_AdaptiveLoopStretches_3_s.sMax 2 3 < 16 ∧
    w_AdaptiveLoopStretches_3_s.rf F.ISL_CLK_STAT_BREACH_ACTIVE 2 3 = 0 := by decide +kernel

def w_AdaptiveLoopStretches_4_s : State := put s0 [(F.ISL_CLK_STAT_STRETCH, [16, 1, 0])]
theorem test_w_AdaptiveLoopStretches_4 : w_AdaptiveLoopStretches_4_s.oscRuns = true ∧
    w_AdaptiveLoopStretches_4_s.rf F.ISL_CLK_STAT_STRETCH 1 0 ≠ 0 := by decide +kernel

def w_AdaptiveLoopStretches_5_s : State := put s0 [(F.ISL_CLK_STAT_FREQ_RUN, [100, 1, 0]), (F.ISL_CLK_CTL_TARGET, [90, 1, 0])]
theorem test_w_AdaptiveLoopStretches_5 : w_AdaptiveLoopStretches_5_s.oscRuns = true ∧
    w_AdaptiveLoopStretches_5_s.rf F.ISL_CLK_STAT_BREACH_ACTIVE 1 0 = 0 := by decide +kernel

def w_AdaptiveLoopStretches_6_s : State := put s0 [(F.ISL_CLK_STAT_BREACH_ACTIVE, [1, 1, 0]), (F.ISL_CLK_STAT_FREQ_RUN, [3, 1, 0]), (F.ISL_CLK_CTL_TARGET, [90, 1, 0])]
theorem test_w_AdaptiveLoopStretches_6 : w_AdaptiveLoopStretches_6_s.oscRuns = true ∧
    w_AdaptiveLoopStretches_6_s.rf F.ISL_CLK_STAT_BREACH_ACTIVE 1 0 = 1 ∧
    w_AdaptiveLoopStretches_6_s.rf F.ISL_CLK_STAT_FREQ_RUN 1 0 ≠ w_AdaptiveLoopStretches_6_s.effTarget 1 0 := by decide +kernel

def w_AdaptiveLoopStretches_7_s : State := put s0 [(F.ISL_CLK_CTL_VCAP, [32, 1, 0]), (F.ISL_CLK_STAT_VREQ, [31, 1, 0]), (F.ISL_CLK_STAT_STRETCH, [1, 1, 0])]
theorem test_w_AdaptiveLoopStretches_7 : w_AdaptiveLoopStretches_7_s.oscRuns = true ∧
    w_AdaptiveLoopStretches_7_s.rf F.ISL_CLK_STAT_STRETCH 1 0 ≠ 0 ∧
    w_AdaptiveLoopStretches_7_s.rf F.ISL_CLK_STAT_VREQ 1 0 < w_AdaptiveLoopStretches_7_s.rf F.ISL_CLK_CTL_VCAP 1 0 := by decide +kernel

def w_AdaptiveLoopStretches_8_s : State := put s0 [(F.ISL_CLK_STAT_VREQ, [1, 1, 0])]
theorem test_w_AdaptiveLoopStretches_8 : w_AdaptiveLoopStretches_8_s.oscRuns = true ∧
    w_AdaptiveLoopStretches_8_s.rf F.ISL_CLK_STAT_STRETCH 1 0 = 0 ∧
    w_AdaptiveLoopStretches_8_s.rf F.ISL_CLK_STAT_VREQ 1 0 ≠ 0 := by decide +kernel

def w_AdaptiveLoopStretches_9_s : State := s0
theorem test_w_AdaptiveLoopStretches_9 : w_AdaptiveLoopStretches_9_s.oscRuns = true ∧
    w_AdaptiveLoopStretches_9_s.rf F.ISL_CLK_STAT_STRETCH 1 0 = 0 ∧
    103000 * codeMhz (w_AdaptiveLoopStretches_9_s.rf F.ISL_CLK_STAT_FREQ_RUN 1 0) < 100 * 10000000 := by decide +kernel

def w_AdaptiveLoopStretches_10_s : State := put s0 [(F.ISL_CLK_STAT_FREQ_RUN, [160, 1, 0])]
theorem test_w_AdaptiveLoopStretches_10 : w_AdaptiveLoopStretches_10_s.rf F.ISL_CLK_STAT_STRETCH 1 0 = 0 ∧
    100 * 1000000 ≤ 103000 * codeMhz (w_AdaptiveLoopStretches_10_s.rf F.ISL_CLK_STAT_FREQ_RUN 1 0) ∧
    97000 * codeMhz (w_AdaptiveLoopStretches_10_s.rf F.ISL_CLK_STAT_FREQ_RUN 1 0) ≤ 100 * 1000000 := by decide +kernel

def w_SlackFaultsAreRaised_1_s : State := put s0 [(F.ISL_CLK_STAT_STRETCH, [16, 1, 0]), (F.ISL_CLK_STAT_FREQ_RUN, [0, 1, 0])]
theorem test_w_SlackFaultsAreRaised_1 : w_SlackFaultsAreRaised_1_s.oscRuns = true ∧
    w_SlackFaultsAreRaised_1_s.rf F.ISL_CLK_STAT_FREQ_RUN 1 0 = 0 ∧
    w_SlackFaultsAreRaised_1_s.rf F.ISL_CLK_STAT_STRETCH 1 0 = 16 := by decide +kernel

def w_SlackFaultsAreRaised_2_s : State := s0
theorem test_w_SlackFaultsAreRaised_2 : w_SlackFaultsAreRaised_2_s.oscRuns = true := by decide +kernel

def w_ChannelsAndEventsCross_1_s : State := put s0 [(F.ISL_CLK_CTL_RUN, [1, 1, 5])]
def w_ChannelsAndEventsCross_1_w : TWord := dataWord 9
theorem test_w_ChannelsAndEventsCross_1 : portExists 5 2 = true ∧
    2 < 7 ∧
    w_ChannelsAndEventsCross_1_s.running 1 5 = true ∧
    (w_ChannelsAndEventsCross_1_s.chan (chanKey 1 5 2 false)).occ < 4 := by decide +kernel

def w_ChannelsAndEventsCross_2_s : State := (put s0 [(F.ISL_CLK_CTL_RUN, [1, 1, 5])]).setChan (chanKey 1 5 2 false) { Chan.init with occ := 4 }
def w_ChannelsAndEventsCross_2_w : TWord := dataWord 9
theorem test_w_ChannelsAndEventsCross_2 : portExists 5 2 = true ∧
    2 < 7 ∧
    w_ChannelsAndEventsCross_2_s.running 1 5 = true ∧
    4 ≤ (w_ChannelsAndEventsCross_2_s.chan (chanKey 1 5 2 false)).occ := by decide +kernel

def w_ChannelsAndEventsCross_3_s : State := (put s0 [(F.ISL_CLK_CTL_RUN, [1, 1, 5])]).setChan (chanKey 1 5 2 false) { Chan.init with occ := 4, offer := some (dataWord 9) }
theorem test_w_ChannelsAndEventsCross_3 : portExists 5 2 = true ∧
    2 < 7 ∧
    w_ChannelsAndEventsCross_3_s.running 1 5 = true := by decide +kernel

def w_ChannelsAndEventsCross_4_s : State := s0
theorem test_w_ChannelsAndEventsCross_4 : (w_ChannelsAndEventsCross_4_s.chan (chanKey 1 5 4 true)).fifo = [] := by decide +kernel

def w_ChannelsAndEventsCross_5_s : State := s0.setChan (chanKey 1 5 4 true) { Chan.init with occ := 1, flight := [dataWord 9] }
def w_ChannelsAndEventsCross_5_w : TWord := dataWord 9
def w_ChannelsAndEventsCross_5_ws : List TWord := []
theorem test_w_ChannelsAndEventsCross_5 : (w_ChannelsAndEventsCross_5_s.chan (chanKey 1 5 4 true)).flight = w_ChannelsAndEventsCross_5_w :: w_ChannelsAndEventsCross_5_ws := by decide +kernel

def w_ChannelsAndEventsCross_6_s : State := (put s0 [(F.ISL_CLK_CTL_RUN, [1, 1, 5])]).setChan (chanKey 1 5 4 true) { Chan.init with occ := 1, fifo := [dataWord 9] }
def w_ChannelsAndEventsCross_6_w : TWord := dataWord 9
def w_ChannelsAndEventsCross_6_ws : List TWord := []
theorem test_w_ChannelsAndEventsCross_6 : (w_ChannelsAndEventsCross_6_s.chan (chanKey 1 5 4 true)).fifo = w_ChannelsAndEventsCross_6_w :: w_ChannelsAndEventsCross_6_ws ∧
    w_ChannelsAndEventsCross_6_s.running 1 5 = true := by decide +kernel

def w_ChannelsAndEventsCross_7_s : State := s0.setChan (chanKey 1 5 4 true) { Chan.init with occ := 4, acks := 2 }
theorem test_w_ChannelsAndEventsCross_7 : (w_ChannelsAndEventsCross_7_s.chan (chanKey 1 5 4 true)).acks ≠ 0 := by decide +kernel

def w_ChannelsAndEventsCross_8_s : State := (put s0 [(F.ISL_CLK_CTL_RUN, [1, 1, 5]), (F.ISL_CH_CTL_STALL_EN, [128, 1, 5])]).setChan (chanKey 1 5 7 false) { Chan.init with occ := 4, offer := some (dataWord 9) }
def w_ChannelsAndEventsCross_8_w : TWord := dataWord 9
theorem test_w_ChannelsAndEventsCross_8 : bit (w_ChannelsAndEventsCross_8_s.rf F.ISL_CH_CTL_STALL_EN 1 5) 7 = true ∧
    w_ChannelsAndEventsCross_8_s.running 1 5 = true ∧
    (w_ChannelsAndEventsCross_8_s.chan (chanKey 1 5 7 false)).offer = some w_ChannelsAndEventsCross_8_w ∧
    (w_ChannelsAndEventsCross_8_s.chan (chanKey 1 5 7 false)).stalled = false ∧
    4 ≤ (w_ChannelsAndEventsCross_8_s.chan (chanKey 1 5 7 false)).occ := by decide +kernel

def w_ChannelsAndEventsCross_9_s : State := put s0 [(F.ISL_CLK_CTL_RUN, [1, 1, 5])]
theorem test_w_ChannelsAndEventsCross_9 : portExists 5 1 = true ∧
    1 < 7 ∧
    7 ≤ 7 ∧
    w_ChannelsAndEventsCross_9_s.running 1 5 = true := by decide +kernel

def w_ChannelsAndEventsCross_10_s : State := (s0.setEvt 1 6 3 ⟨0, 40000, 0, 0⟩)
theorem test_w_ChannelsAndEventsCross_10 : neighbour 5 1 = some 6 ∧
    32768 ≤ (w_ChannelsAndEventsCross_10_s.evt 1 6 (facing 1)).front := by decide +kernel

def w_ChannelsAndEventsCross_11_e : Evt := ⟨65535, 0, 7, 9⟩
theorem test_w_ChannelsAndEventsCross_11 : w_ChannelsAndEventsCross_11_e.count < 65536 := by decide +kernel

def w_ChannelsAndEventsCross_12_e : Evt := ⟨65535, 0, 7, 9⟩
theorem test_w_ChannelsAndEventsCross_12 : w_ChannelsAndEventsCross_12_e.count < 65536 := by decide +kernel

def w_IslandsAreResetAndStarted_1_s : State := put s0 [(F.ISL_CLK_STAT_VREQ, [20, 1, 3])]
def w_IslandsAreResetAndStarted_1_w : TWord := dataWord (2 ^ 26 + 12 * 2 ^ 20 + 0xFF40)
theorem test_w_IslandsAreResetAndStarted_1 : w_IslandsAreResetAndStarted_1_s.oscRuns = true ∧
    w_IslandsAreResetAndStarted_1_w.tag.toNat < 2 := by decide +kernel

def w_IslandsAreResetAndStarted_2_s : State := s0.setIsland 1 3 { Isl.init with ff := 2 ^ 20 }

def w_IslandsAreResetAndStarted_3_s : State := (put s0 [(F.ISL_CLK_CTL_RUN, [1, 1, 3])]).setIsland 1 3 { Isl.init with ar := 6 }
theorem test_w_IslandsAreResetAndStarted_3 : w_IslandsAreResetAndStarted_3_s.running 1 3 = true ∧
    bit (w_IslandsAreResetAndStarted_3_s.island 1 3).ar 2 = true := by decide +kernel

def w_IslandsAreResetAndStarted_4_s : State := s0
def w_IslandsAreResetAndStarted_4_w : TWord := dataWord 0x8001
theorem test_w_IslandsAreResetAndStarted_4 : w_IslandsAreResetAndStarted_4_w.tag.toNat < 2 ∧
    ((∀ i, i < 16 → (w_IslandsAreResetAndStarted_4_s.island 2 i).held = false)) := by decide +kernel

def w_IslandsAreResetAndStarted_5_s : State := (put s0 [(F.FAB_ISL_RST_RST, [8, 1])]).setIsland 1 3 { Isl.init with ff := 9 }
theorem test_w_IslandsAreResetAndStarted_5 : w_IslandsAreResetAndStarted_5_s.oscRuns = true ∧
    bit (w_IslandsAreResetAndStarted_5_s.rf F.FAB_ISL_RST_RST 1) 3 = true ∧
    (w_IslandsAreResetAndStarted_5_s.island 1 3).underReset = false := by decide +kernel

def w_IslandsAreResetAndStarted_6_s : State := (put s0 [(F.FAB_ISL_RST_RST, [8, 1])]).setIsland 1 3 { Isl.init with underReset := true }
theorem test_w_IslandsAreResetAndStarted_6 : w_IslandsAreResetAndStarted_6_s.oscRuns = true ∧
    3 < 16 ∧
    (w_IslandsAreResetAndStarted_6_s.island 1 3).underReset = true := by decide +kernel

def w_IslandsAreResetAndStarted_7_s : State := s0.setIsland 1 3 { Isl.init with runWanted := true }
theorem test_w_IslandsAreResetAndStarted_7 : (w_IslandsAreResetAndStarted_7_s.island 1 3).runWanted = true ∧
    w_IslandsAreResetAndStarted_7_s.rf F.ISL_CLK_STAT_FREQ_RUN 1 3 ≤ w_IslandsAreResetAndStarted_7_s.rf F.FAB_ISL_LIMIT_LIMIT_CODE 1 3 := by decide +kernel

def w_IslandsAreResetAndStarted_8_s : State := (put s0 [(F.ISL_CLK_CTL_RUN, [1, 1, 3])]).setIsland 1 3 { Isl.init with ff := 2 ^ 20 }
theorem test_w_IslandsAreResetAndStarted_8 : 20 < 4096 := by decide +kernel

def w_IslandsAreResetAndStarted_9_s : State := (put s0 [(F.ISL_CLK_CTL_RUN, [1, 1, 3])])
theorem test_w_IslandsAreResetAndStarted_9 : 1 < 16 := by decide +kernel

def w_IslandsAreResetAndStarted_10_s : State := s0.setDio 1 5 ⟨true, false, false, false, true, none⟩
theorem test_w_IslandsAreResetAndStarted_10 : 5 < 48 ∧
    dioIsland 5 = 1 := by decide +kernel

def w_IslandsAreResetAndStarted_11_s : State := s0
theorem test_w_IslandsAreResetAndStarted_11 : w_IslandsAreResetAndStarted_11_s.running 1 3 = false := by decide +kernel

def w_BlockMemoryPortsReadFirst_1_s : State := put s0 [(F.ISL_CLK_CTL_RUN, [1, 1, 2])]
def w_BlockMemoryPortsReadFirst_1_q : PortReq := ⟨false, 77, 0, 0, false, false⟩
def w_BlockMemoryPortsReadFirst_1_w0 : TWord := ⟨0, 2⟩
theorem test_w_BlockMemoryPortsReadFirst_1 : w_BlockMemoryPortsReadFirst_1_s.running 1 2 = true ∧
    w_BlockMemoryPortsReadFirst_1_q.we = false ∧
    w_BlockMemoryPortsReadFirst_1_s.portTaken 1 2 3 0 w_BlockMemoryPortsReadFirst_1_q = false ∧
    w_BlockMemoryPortsReadFirst_1_q.mid = false ∧
    decodeCell (w_BlockMemoryPortsReadFirst_1_s.cell 1 (bmAddr 2 3 (portWord (w_BlockMemoryPortsReadFirst_1_s.aspect 1 2 3 0) w_BlockMemoryPortsReadFirst_1_q.addr))) (bmAddr 2 3 (portWord (w_BlockMemoryPortsReadFirst_1_s.aspect 1 2 3 0) w_BlockMemoryPortsReadFirst_1_q.addr)) = .good w_BlockMemoryPortsReadFirst_1_w0 := by decide +kernel

def w_BlockMemoryPortsReadFirst_2_s : State := put s0 [(F.ISL_CLK_CTL_RUN, [1, 1, 2])]
def w_BlockMemoryPortsReadFirst_2_q : PortReq := ⟨true, 1023, 99, 1, false, false⟩
def w_BlockMemoryPortsReadFirst_2_w0 : TWord := ⟨0, 2⟩
theorem test_w_BlockMemoryPortsReadFirst_2 : w_BlockMemoryPortsReadFirst_2_s.running 1 2 = true ∧
    w_BlockMemoryPortsReadFirst_2_q.we = true ∧
    w_BlockMemoryPortsReadFirst_2_s.aspect 1 2 23 0 = 48 ∧
    w_BlockMemoryPortsReadFirst_2_s.portTaken 1 2 23 0 w_BlockMemoryPortsReadFirst_2_q = false ∧
    w_BlockMemoryPortsReadFirst_2_q.mid = false ∧
    w_BlockMemoryPortsReadFirst_2_s.flipArmed 1 (arrOf 1 (bmAddr 2 23 (w_BlockMemoryPortsReadFirst_2_q.addr % 1024))) = false ∧
    decodeCell (w_BlockMemoryPortsReadFirst_2_s.cell 1 (bmAddr 2 23 (w_BlockMemoryPortsReadFirst_2_q.addr % 1024))) (bmAddr 2 23 (w_BlockMemoryPortsReadFirst_2_q.addr % 1024)) = .good w_BlockMemoryPortsReadFirst_2_w0 := by decide +kernel

def w_BlockMemoryPortsReadFirst_3_s : State := put s0 [(F.ISL_CLK_CTL_RUN, [1, 1, 2]), (F.BM_PORTB_MODE_WINDOW, [0, 1, 2])]
def w_BlockMemoryPortsReadFirst_3_qa : PortReq := ⟨true, 77, 5, 0, false, false⟩
def w_BlockMemoryPortsReadFirst_3_qb : PortReq := ⟨true, 77, 6, 0, false, false⟩
def w_BlockMemoryPortsReadFirst_3_w0 : TWord := ⟨0, 2⟩
theorem test_w_BlockMemoryPortsReadFirst_3 : 3 < 24 ∧
    w_BlockMemoryPortsReadFirst_3_s.running 1 2 = true ∧
    w_BlockMemoryPortsReadFirst_3_s.windowMode 1 2 3 = false ∧
    w_BlockMemoryPortsReadFirst_3_qa.we = true ∧
    w_BlockMemoryPortsReadFirst_3_qb.we = true ∧
    w_BlockMemoryPortsReadFirst_3_s.aspect 1 2 3 0 = 48 ∧
    w_BlockMemoryPortsReadFirst_3_s.aspect 1 2 3 1 = 48 ∧
    w_BlockMemoryPortsReadFirst_3_qa.addr % 1024 = w_BlockMemoryPortsReadFirst_3_qb.addr % 1024 ∧
    w_BlockMemoryPortsReadFirst_3_s.portTaken 1 2 3 0 w_BlockMemoryPortsReadFirst_3_qa = false ∧
    w_BlockMemoryPortsReadFirst_3_s.portTaken 1 2 3 1 w_BlockMemoryPortsReadFirst_3_qb = false ∧
    w_BlockMemoryPortsReadFirst_3_s.flipArmed 1 (arrOf 1 (bmAddr 2 3 (w_BlockMemoryPortsReadFirst_3_qa.addr % 1024))) = false ∧
    decodeCell (w_BlockMemoryPortsReadFirst_3_s.cell 1 (bmAddr 2 3 (w_BlockMemoryPortsReadFirst_3_qa.addr % 1024))) (bmAddr 2 3 (w_BlockMemoryPortsReadFirst_3_qa.addr % 1024)) = .good w_BlockMemoryPortsReadFirst_3_w0 := by decide +kernel

def w_WindowAccessesAreServed_1_s : State := s0.setWin 1 2 3 [⟨rdTxn 1 9 (2 ^ 36 + bmAddr 2 3 5), 0, [], 0⟩]
def w_WindowAccessesAreServed_1_r : WinReq := ⟨rdTxn 1 9 (2 ^ 36 + bmAddr 2 3 5), 0, [], 0⟩
def w_WindowAccessesAreServed_1_rest : List WinReq := []
def w_WindowAccessesAreServed_1_w : TWord := ⟨0, 2⟩
theorem test_w_WindowAccessesAreServed_1 : (w_WindowAccessesAreServed_1_s.island 1 2).held = false ∧
    (w_WindowAccessesAreServed_1_s.bm 1 2 3).win = w_WindowAccessesAreServed_1_r :: w_WindowAccessesAreServed_1_rest ∧
    w_WindowAccessesAreServed_1_r.repeats = 0 ∧
    w_WindowAccessesAreServed_1_r.txn.op = .read ∧
    w_WindowAccessesAreServed_1_r.done + 1 = w_WindowAccessesAreServed_1_r.txn.len ∧
    decodeCell (w_WindowAccessesAreServed_1_s.cell 1 (addrLocal w_WindowAccessesAreServed_1_r.txn.addr + w_WindowAccessesAreServed_1_r.done)) (addrLocal w_WindowAccessesAreServed_1_r.txn.addr + w_WindowAccessesAreServed_1_r.done) = .good w_WindowAccessesAreServed_1_w := by decide +kernel

def w_WindowAccessesAreServed_2_s : State := (put s0 [(F.ISL_CLK_CTL_RUN, [1, 1, 2]), (F.BM_PORTB_MODE_WINDOW, [0, 1, 2])]).setWin 1 2 3 [⟨rdTxn 1 9 (2 ^ 36 + bmAddr 2 3 5), 0, [], 0⟩]
def w_WindowAccessesAreServed_2_r : WinReq := ⟨rdTxn 1 9 (2 ^ 36 + bmAddr 2 3 5), 0, [], 0⟩
def w_WindowAccessesAreServed_2_rest : List WinReq := []
def w_WindowAccessesAreServed_2_w : TWord := ⟨0, 2⟩
theorem test_w_WindowAccessesAreServed_2 : (w_WindowAccessesAreServed_2_s.island 1 2).held = false ∧
    w_WindowAccessesAreServed_2_s.windowMode 1 2 3 = false ∧
    w_WindowAccessesAreServed_2_s.running 1 2 = true ∧
    (w_WindowAccessesAreServed_2_s.bm 1 2 3).win = w_WindowAccessesAreServed_2_r :: w_WindowAccessesAreServed_2_rest ∧
    w_WindowAccessesAreServed_2_r.repeats = 0 ∧
    w_WindowAccessesAreServed_2_r.txn.op = .read ∧
    w_WindowAccessesAreServed_2_r.done + 1 = w_WindowAccessesAreServed_2_r.txn.len ∧
    decodeCell (w_WindowAccessesAreServed_2_s.cell 1 (addrLocal w_WindowAccessesAreServed_2_r.txn.addr + w_WindowAccessesAreServed_2_r.done)) (addrLocal w_WindowAccessesAreServed_2_r.txn.addr + w_WindowAccessesAreServed_2_r.done) = .good w_WindowAccessesAreServed_2_w := by decide +kernel

def w_WindowAccessesAreServed_3_s : State := s0.setWin 1 2 3 [⟨rdTxn 1 9 (2 ^ 36 + bmAddr 2 3 5), 0, [], 3⟩]
def w_WindowAccessesAreServed_3_r : WinReq := ⟨rdTxn 1 9 (2 ^ 36 + bmAddr 2 3 5), 0, [], 3⟩
def w_WindowAccessesAreServed_3_rest : List WinReq := []
def w_WindowAccessesAreServed_3_w : TWord := ⟨0, 2⟩
theorem test_w_WindowAccessesAreServed_3 : (w_WindowAccessesAreServed_3_s.island 1 2).held = false ∧
    (w_WindowAccessesAreServed_3_s.bm 1 2 3).win = w_WindowAccessesAreServed_3_r :: w_WindowAccessesAreServed_3_rest ∧
    w_WindowAccessesAreServed_3_r.repeats ≠ 0 ∧
    w_WindowAccessesAreServed_3_r.txn.op = .read ∧
    w_WindowAccessesAreServed_3_r.done + 1 = w_WindowAccessesAreServed_3_r.txn.len ∧
    decodeCell (w_WindowAccessesAreServed_3_s.cell 1 (addrLocal w_WindowAccessesAreServed_3_r.txn.addr + w_WindowAccessesAreServed_3_r.done)) (addrLocal w_WindowAccessesAreServed_3_r.txn.addr + w_WindowAccessesAreServed_3_r.done) = .good w_WindowAccessesAreServed_3_w := by decide +kernel

def w_BanksServeTheLowestClassFirst_1_x : Bank := { Bank.init with reqs := [⟨rdTxn 1 9 0, 4, 9, 0, [], false, false⟩, ⟨rdTxn 1 9 0, 3, 0, 0, [], false, false⟩, ⟨rdTxn 1 16 0, 1, 3, 0, [], false, false⟩] }
theorem test_w_BanksServeTheLowestClassFirst_1 : ((∀ r ∈ w_BanksServeTheLowestClassFirst_1_x.reqs, (r.cls = 1 ∧ r.who < 4) ∨ r.cls = 3 ∨ (r.cls = 4 ∧ r.who < 10))) := by decide +kernel

def w_BanksServeTheLowestClassFirst_1a_x : Bank := Bank.init
theorem test_w_BanksServeTheLowestClassFirst_1a : ((∀ r ∈ w_BanksServeTheLowestClassFirst_1a_x.reqs, (r.cls = 1 ∧ r.who < 4) ∨ r.cls = 3 ∨ (r.cls = 4 ∧ r.who < 10))) := by decide +kernel

def w_BanksServeTheLowestClassFirst_1b_x : Bank := Bank.init
theorem test_w_BanksServeTheLowestClassFirst_1b : ((∀ r ∈ w_BanksServeTheLowestClassFirst_1b_x.reqs, (r.cls = 1 ∧ r.who < 4) ∨ r.cls = 3 ∨ (r.cls = 4 ∧ r.who < 10))) := by decide +kernel

def w_BanksServeTheLowestClassFirst_1c_x : Bank := { Bank.init with reqs := [⟨rdTxn 1 9 0, 4, 9, 0, [], false, false⟩, ⟨rdTxn 1 9 0, 3, 0, 0, [], false, false⟩] }
theorem test_w_BanksServeTheLowestClassFirst_1c : ((∀ r ∈ w_BanksServeTheLowestClassFirst_1c_x.reqs, (r.cls = 1 ∧ r.who < 4) ∨ r.cls = 3 ∨ (r.cls = 4 ∧ r.who < 10))) := by decide +kernel

def w_BanksServeTheLowestClassFirst_1d_x : Bank := { Bank.init with reqs := [⟨rdTxn 1 9 0, 4, 9, 0, [], false, false⟩] }
theorem test_w_BanksServeTheLowestClassFirst_1d : ((∀ r ∈ w_BanksServeTheLowestClassFirst_1d_x.reqs, (r.cls = 1 ∧ r.who < 4) ∨ r.cls = 3 ∨ (r.cls = 4 ∧ r.who < 10))) := by decide +kernel

def w_BanksPerformReadsWritesAndAtomics_1_s : State := s0.bankPresent 1 2 (rdTxn 1 20 (2 ^ 36 + 0x10005))
def w_BanksPerformReadsWritesAndAtomics_1_r : BankReq := ⟨rdTxn 1 20 (2 ^ 36 + 0x10005), 4, 0, 0, [], false, false⟩
def w_BanksPerformReadsWritesAndAtomics_1_w : TWord := ⟨0, 2⟩
theorem test_w_BanksPerformReadsWritesAndAtomics_1 : (w_BanksPerformReadsWritesAndAtomics_1_s.bank 1 2).second = false ∧
    (w_BanksPerformReadsWritesAndAtomics_1_s.bank 1 2).pick (!(w_BanksPerformReadsWritesAndAtomics_1_s.wbq 1 (bankArr 1 2)).isEmpty) = some (some 0) ∧
    (w_BanksPerformReadsWritesAndAtomics_1_s.bank 1 2).reqs[0]? = some w_BanksPerformReadsWritesAndAtomics_1_r ∧
    w_BanksPerformReadsWritesAndAtomics_1_r.txn.op = .read ∧
    w_BanksPerformReadsWritesAndAtomics_1_r.patrol = false ∧
    w_BanksPerformReadsWritesAndAtomics_1_r.txn.len = w_BanksPerformReadsWritesAndAtomics_1_r.done + 1 ∧
    decodeCell (w_BanksPerformReadsWritesAndAtomics_1_s.cell 1 (addrLocal w_BanksPerformReadsWritesAndAtomics_1_r.txn.addr + w_BanksPerformReadsWritesAndAtomics_1_r.done)) (addrLocal w_BanksPerformReadsWritesAndAtomics_1_r.txn.addr + w_BanksPerformReadsWritesAndAtomics_1_r.done) = .good w_BanksPerformReadsWritesAndAtomics_1_w := by decide +kernel

def w_BanksPerformReadsWritesAndAtomics_2_s : State := s0.bankPresent 1 2 (wrTxn 1 20 (2 ^ 36 + 0x10005) [dataWord 7])
def w_BanksPerformReadsWritesAndAtomics_2_r : BankReq := ⟨wrTxn 1 20 (2 ^ 36 + 0x10005) [dataWord 7], 4, 0, 0, [], false, false⟩
theorem test_w_BanksPerformReadsWritesAndAtomics_2 : (w_BanksPerformReadsWritesAndAtomics_2_s.bank 1 2).second = false ∧
    (w_BanksPerformReadsWritesAndAtomics_2_s.bank 1 2).pick (!(w_BanksPerformReadsWritesAndAtomics_2_s.wbq 1 (bankArr 1 2)).isEmpty) = some (some 0) ∧
    (w_BanksPerformReadsWritesAndAtomics_2_s.bank 1 2).reqs[0]? = some w_BanksPerformReadsWritesAndAtomics_2_r ∧
    w_BanksPerformReadsWritesAndAtomics_2_r.txn.op = .write ∧
    w_BanksPerformReadsWritesAndAtomics_2_r.txn.len = w_BanksPerformReadsWritesAndAtomics_2_r.done + 1 ∧
    w_BanksPerformReadsWritesAndAtomics_2_s.flipArmed 1 (arrOf 1 (addrLocal w_BanksPerformReadsWritesAndAtomics_2_r.txn.addr + w_BanksPerformReadsWritesAndAtomics_2_r.done)) = false := by decide +kernel

def w_BanksPerformReadsWritesAndAtomics_3_s : State := (s0.putWord 1 0x10005 (dataWord (2 ^ 48 - 1))).bankPresent 1 2 (atTxn 1 20 (2 ^ 36 + 0x10005) (dataWord 7))
def w_BanksPerformReadsWritesAndAtomics_3_r : BankReq := ⟨atTxn 1 20 (2 ^ 36 + 0x10005) (dataWord 7), 4, 0, 0, [], false, false⟩
def w_BanksPerformReadsWritesAndAtomics_3_old : TWord := dataWord (2 ^ 48 - 1)
def w_BanksPerformReadsWritesAndAtomics_3_opd : TWord := dataWord 7
theorem test_w_BanksPerformReadsWritesAndAtomics_3 : (w_BanksPerformReadsWritesAndAtomics_3_s.bank 1 2).second = false ∧
    (w_BanksPerformReadsWritesAndAtomics_3_s.bank 1 2).pick (!(w_BanksPerformReadsWritesAndAtomics_3_s.wbq 1 (bankArr 1 2)).isEmpty) = some (some 0) ∧
    (w_BanksPerformReadsWritesAndAtomics_3_s.bank 1 2).reqs[0]? = some w_BanksPerformReadsWritesAndAtomics_3_r ∧
    w_BanksPerformReadsWritesAndAtomics_3_r.txn.op = .add ∧
    w_BanksPerformReadsWritesAndAtomics_3_r.patrol = false ∧
    w_BanksPerformReadsWritesAndAtomics_3_r.txn.len = 1 ∧
    w_BanksPerformReadsWritesAndAtomics_3_r.done = 0 ∧
    w_BanksPerformReadsWritesAndAtomics_3_r.txn.words = [w_BanksPerformReadsWritesAndAtomics_3_opd] ∧
    w_BanksPerformReadsWritesAndAtomics_3_opd.tag.toNat < 2 ∧
    w_BanksPerformReadsWritesAndAtomics_3_old.tag.toNat < 2 ∧
    w_BanksPerformReadsWritesAndAtomics_3_s.flipArmed 1 (arrOf 1 (addrLocal w_BanksPerformReadsWritesAndAtomics_3_r.txn.addr)) = false ∧
    decodeCell (w_BanksPerformReadsWritesAndAtomics_3_s.cell 1 (addrLocal w_BanksPerformReadsWritesAndAtomics_3_r.txn.addr)) (addrLocal w_BanksPerformReadsWritesAndAtomics_3_r.txn.addr) = .good w_BanksPerformReadsWritesAndAtomics_3_old := by decide +kernel

def w_BanksPerformReadsWritesAndAtomics_4_s : State := (put s0 [(F.SP_CTL_STARVE_EN, [1, 1])]).bankPresent 1 15 (rdTxn 1 20 (2 ^ 36 + 0x10005))
def w_BanksPerformReadsWritesAndAtomics_4_r : BankReq := ⟨rdTxn 1 20 (2 ^ 36 + 0x10005), 4, 0, 0, [], false, false⟩
theorem test_w_BanksPerformReadsWritesAndAtomics_4 : w_BanksPerformReadsWritesAndAtomics_4_s.rb F.SP_CTL_STARVE_EN 1 = true ∧
    (w_BanksPerformReadsWritesAndAtomics_4_s.bank 1 15).reqs[0]? = some w_BanksPerformReadsWritesAndAtomics_4_r ∧
    w_BanksPerformReadsWritesAndAtomics_4_r.starved = false ∧
    w_BanksPerformReadsWritesAndAtomics_4_r.patrol = false ∧
    (w_BanksPerformReadsWritesAndAtomics_4_r.cls = 3 ∨ w_BanksPerformReadsWritesAndAtomics_4_r.cls = 4) := by decide +kernel

def w_BanksPerformReadsWritesAndAtomics_5_s : State := s0.setWbq 1 (.bm 2 3) [⟨bmAddr 2 3 9, dataWord 5, false⟩]
def w_BanksPerformReadsWritesAndAtomics_5_e : WbEnt := ⟨bmAddr 2 3 9, dataWord 5, false⟩
def w_BanksPerformReadsWritesAndAtomics_5_q : List WbEnt := []
theorem test_w_BanksPerformReadsWritesAndAtomics_5 : arrOf 1 (bmAddr 2 3 0) = .bm 2 3 ∧
    (w_BanksPerformReadsWritesAndAtomics_5_s.island 1 2).held = false ∧
    w_BanksPerformReadsWritesAndAtomics_5_s.wbq 1 (.bm 2 3) = w_BanksPerformReadsWritesAndAtomics_5_e :: w_BanksPerformReadsWritesAndAtomics_5_q := by decide +kernel

def w_BanksPerformReadsWritesAndAtomics_6_s : State := put s0 [(F.PROT_CTL_PATROL_EN, [1, 1, 1])]
theorem test_w_BanksPerformReadsWritesAndAtomics_6 : w_BanksPerformReadsWritesAndAtomics_6_s.rb F.PROT_CTL_PATROL_EN 1 (if 1 = 0 then 0 else 1) = true := by decide +kernel

def w_BanksPerformReadsWritesAndAtomics_7_s : State := s0
def w_BanksPerformReadsWritesAndAtomics_7_w : TWord := dataWord (2 ^ 47 + 3 * 2 ^ 44 + 0x1F * 2 ^ 28)
theorem test_w_BanksPerformReadsWritesAndAtomics_7 : w_BanksPerformReadsWritesAndAtomics_7_w.tag.toNat < 2 ∧
    bit w_BanksPerformReadsWritesAndAtomics_7_w.data.toNat 47 = true := by decide +kernel

def w_RefusedAddsAreCounted_1_s : State := s0
def w_RefusedAddsAreCounted_1_old : TWord := ⟨0, 2⟩
def w_RefusedAddsAreCounted_1_opd : TWord := ⟨3, 3⟩
theorem test_w_RefusedAddsAreCounted_1 : decodeCell (w_RefusedAddsAreCounted_1_s.cell 1 5) 5 = .good w_RefusedAddsAreCounted_1_old ∧
    addWord w_RefusedAddsAreCounted_1_old w_RefusedAddsAreCounted_1_opd = none := by decide +kernel

def w_RefusedAddsAreCounted_1a_s : State := put s0 [(F.SP_ATOM_REFUSE_CNT_COUNT, [65535, 1])]
def w_RefusedAddsAreCounted_1a_old : TWord := ⟨0, 2⟩
def w_RefusedAddsAreCounted_1a_opd : TWord := ⟨3, 3⟩
theorem test_w_RefusedAddsAreCounted_1a : decodeCell (w_RefusedAddsAreCounted_1a_s.cell 1 5) 5 = .good w_RefusedAddsAreCounted_1a_old ∧
    addWord w_RefusedAddsAreCounted_1a_old w_RefusedAddsAreCounted_1a_opd = none := by decide +kernel

def w_StoredWordsReadBack_1_s : State := s0
def w_StoredWordsReadBack_1_w : TWord := dataWord 7
theorem test_w_StoredWordsReadBack_1 : w_StoredWordsReadBack_1_s.flipArmed 1 (arrOf 1 5) = false := by decide +kernel

def w_StoredWordsReadBack_2_w : TWord := dataWord 7
theorem test_w_StoredWordsReadBack_2 : 49 < 50 := by decide +kernel

def w_RegisterFieldsFollowTheirAccessCodes_1_s : State := s0
def w_RegisterFieldsFollowTheirAccessCodes_1_w : TWord := dataWord 0x4FF
def w_RegisterFieldsFollowTheirAccessCodes_1_r : Reg := ⟨.ISL_CH_CTL, 1, 15, 0⟩
def w_RegisterFieldsFollowTheirAccessCodes_1_fd : FieldDesc := ⟨F.ISL_CH_CTL_STALL_EN, .rw, 0⟩
theorem test_w_RegisterFieldsFollowTheirAccessCodes_1 : w_RegisterFieldsFollowTheirAccessCodes_1_s.hasDie 1 = true ∧
    1 < 5 ∧
    inRegSpace 1 0x0F010F05 = true ∧
    inTxWindow 1 0x0F010F05 = false ∧
    w_RegisterFieldsFollowTheirAccessCodes_1_s.blockStopped 1 0x0F010F05 = false ∧
    w_RegisterFieldsFollowTheirAccessCodes_1_s.regAt 1 0x0F010F05 = some w_RegisterFieldsFollowTheirAccessCodes_1_r ∧
    w_RegisterFieldsFollowTheirAccessCodes_1_w.tag.toNat < 2 ∧
    w_RegisterFieldsFollowTheirAccessCodes_1_r.name ∈ [.ISL_CH_CTL, .ISL_EVT_LAP, .MISL_STAT, .REG_ERR, .REG_ERR_CNT, .BM_COLL_LAST, .BM_PORTB_MODE, .SP_CTL, .SP_STARVE_LAST, .PROT_ERR_LAST, .PROT_FLIP_DATA, .PROT_FLIP_CTL, .TRN_ERR_LAST, .TRN_DROP_CNT, .SPG_CTL, .ENC_STAT, .FM_CTL, .FM_NOTICE_ADDR] ∧
    w_RegisterFieldsFollowTheirAccessCodes_1_fd ∈ (regDesc w_RegisterFieldsFollowTheirAccessCodes_1_r.name w_RegisterFieldsFollowTheirAccessCodes_1_r.i).fields := by decide +kernel

def w_RegisterFieldsFollowTheirAccessCodes_2_s : State := put s0 [(F.INST_RESET_CNT_COUNT, [65535, 0, 15])]
def w_RegisterFieldsFollowTheirAccessCodes_2_t : State := w_RegisterFieldsFollowTheirAccessCodes_2_s.incE F.INST_RESET_CNT_COUNT 0 15 0 1
def w_RegisterFieldsFollowTheirAccessCodes_2_f : Fld := F.INST_RESET_CNT_COUNT
theorem test_w_RegisterFieldsFollowTheirAccessCodes_2 : w_RegisterFieldsFollowTheirAccessCodes_2_f.lo = 0 ∧
    w_RegisterFieldsFollowTheirAccessCodes_2_f.hi < 47 ∧
    w_RegisterFieldsFollowTheirAccessCodes_2_t = w_RegisterFieldsFollowTheirAccessCodes_2_s.incE w_RegisterFieldsFollowTheirAccessCodes_2_f 0 15 0 1 := by decide +kernel

def w_RegisterFieldsFollowTheirAccessCodes_2a_s : State := put s0 [(F.INST_RESET_CNT_COUNT, [65534, 0, 15])]
def w_RegisterFieldsFollowTheirAccessCodes_2a_t : State := w_RegisterFieldsFollowTheirAccessCodes_2a_s.incE F.INST_RESET_CNT_COUNT 0 15 0 1
def w_RegisterFieldsFollowTheirAccessCodes_2a_f : Fld := F.INST_RESET_CNT_COUNT
theorem test_w_RegisterFieldsFollowTheirAccessCodes_2a : w_RegisterFieldsFollowTheirAccessCodes_2a_f.lo = 0 ∧
    w_RegisterFieldsFollowTheirAccessCodes_2a_f.hi < 47 ∧
    w_RegisterFieldsFollowTheirAccessCodes_2a_t = w_RegisterFieldsFollowTheirAccessCodes_2a_s.incE w_RegisterFieldsFollowTheirAccessCodes_2a_f 0 15 0 1 := by decide +kernel

def w_RegisterFieldsFollowTheirAccessCodes_1a_s : State := put s0 [(F.SP_STARVE_LAST_CLASS, [2, 1])]
def w_RegisterFieldsFollowTheirAccessCodes_1a_w : TWord := dataWord (2 ^ 48 - 1)
def w_RegisterFieldsFollowTheirAccessCodes_1a_r : Reg := ⟨.SP_STARVE_LAST, 1, 0, 0⟩
def w_RegisterFieldsFollowTheirAccessCodes_1a_fd : FieldDesc := ⟨F.SP_STARVE_LAST_CLASS, .ro, 0⟩
theorem test_w_RegisterFieldsFollowTheirAccessCodes_1a : w_RegisterFieldsFollowTheirAccessCodes_1a_s.hasDie 1 = true ∧
    1 < 5 ∧
    inRegSpace 1 0x0F030002 = true ∧
    inTxWindow 1 0x0F030002 = false ∧
    w_RegisterFieldsFollowTheirAccessCodes_1a_s.blockStopped 1 0x0F030002 = false ∧
    w_RegisterFieldsFollowTheirAccessCodes_1a_s.regAt 1 0x0F030002 = some w_RegisterFieldsFollowTheirAccessCodes_1a_r ∧
    w_RegisterFieldsFollowTheirAccessCodes_1a_w.tag.toNat < 2 ∧
    w_RegisterFieldsFollowTheirAccessCodes_1a_r.name ∈ [.ISL_CH_CTL, .ISL_EVT_LAP, .MISL_STAT, .REG_ERR, .REG_ERR_CNT, .BM_COLL_LAST, .BM_PORTB_MODE, .SP_CTL, .SP_STARVE_LAST, .PROT_ERR_LAST, .PROT_FLIP_DATA, .PROT_FLIP_CTL, .TRN_ERR_LAST, .TRN_DROP_CNT, .SPG_CTL, .ENC_STAT, .FM_CTL, .FM_NOTICE_ADDR] ∧
    w_RegisterFieldsFollowTheirAccessCodes_1a_fd ∈ (regDesc w_RegisterFieldsFollowTheirAccessCodes_1a_r.name w_RegisterFieldsFollowTheirAccessCodes_1a_r.i).fields := by decide +kernel

def w_RegisterFieldsFollowTheirAccessCodes_1b_s : State := put s0 [(F.SP_STARVE_LAST_VALID, [1, 1])]
def w_RegisterFieldsFollowTheirAccessCodes_1b_w : TWord := dataWord (2 ^ 48 - 1)
def w_RegisterFieldsFollowTheirAccessCodes_1b_r : Reg := ⟨.SP_STARVE_LAST, 1, 0, 0⟩
def w_RegisterFieldsFollowTheirAccessCodes_1b_fd : FieldDesc := ⟨F.SP_STARVE_LAST_VALID, .w1c, 0⟩
theorem test_w_RegisterFieldsFollowTheirAccessCodes_1b : w_RegisterFieldsFollowTheirAccessCodes_1b_s.hasDie 1 = true ∧
    1 < 5 ∧
    inRegSpace 1 0x0F030002 = true ∧
    inTxWindow 1 0x0F030002 = false ∧
    w_RegisterFieldsFollowTheirAccessCodes_1b_s.blockStopped 1 0x0F030002 = false ∧
    w_RegisterFieldsFollowTheirAccessCodes_1b_s.regAt 1 0x0F030002 = some w_RegisterFieldsFollowTheirAccessCodes_1b_r ∧
    w_RegisterFieldsFollowTheirAccessCodes_1b_w.tag.toNat < 2 ∧
    w_RegisterFieldsFollowTheirAccessCodes_1b_r.name ∈ [.ISL_CH_CTL, .ISL_EVT_LAP, .MISL_STAT, .REG_ERR, .REG_ERR_CNT, .BM_COLL_LAST, .BM_PORTB_MODE, .SP_CTL, .SP_STARVE_LAST, .PROT_ERR_LAST, .PROT_FLIP_DATA, .PROT_FLIP_CTL, .TRN_ERR_LAST, .TRN_DROP_CNT, .SPG_CTL, .ENC_STAT, .FM_CTL, .FM_NOTICE_ADDR] ∧
    w_RegisterFieldsFollowTheirAccessCodes_1b_fd ∈ (regDesc w_RegisterFieldsFollowTheirAccessCodes_1b_r.name w_RegisterFieldsFollowTheirAccessCodes_1b_r.i).fields := by decide +kernel

def w_RefusedRegisterWritesChangeNothing_1_s : State := s0
def w_RefusedRegisterWritesChangeNothing_1_w : TWord := ⟨5, 3⟩
def w_RefusedRegisterWritesChangeNothing_1_r : Reg := ⟨.ISL_CH_CTL, 1, 15, 0⟩
theorem test_w_RefusedRegisterWritesChangeNothing_1 : w_RefusedRegisterWritesChangeNothing_1_s.hasDie 1 = true ∧
    1 < 5 ∧
    inRegSpace 1 0x0F010F05 = true ∧
    inTxWindow 1 0x0F010F05 = false ∧
    w_RefusedRegisterWritesChangeNothing_1_s.blockStopped 1 0x0F010F05 = false ∧
    w_RefusedRegisterWritesChangeNothing_1_s.regAt 1 0x0F010F05 = some w_RefusedRegisterWritesChangeNothing_1_r ∧
    writeCause w_RefusedRegisterWritesChangeNothing_1_w false = some 1 ∧
    0x0F010F05 < 2 ^ 36 := by decide +kernel

def w_RefusedRegisterWritesChangeNothing_1a_s : State := put s0 [(F.REG_ERR_VALID, [1, 1])]
def w_RefusedRegisterWritesChangeNothing_1a_w : TWord := ⟨5, 0⟩
def w_RefusedRegisterWritesChangeNothing_1a_r : Reg := ⟨.ISL_CH_CTL, 1, 15, 0⟩
theorem test_w_RefusedRegisterWritesChangeNothing_1a : w_RefusedRegisterWritesChangeNothing_1a_s.hasDie 1 = true ∧
    1 < 5 ∧
    inRegSpace 1 0x0F010F05 = true ∧
    inTxWindow 1 0x0F010F05 = false ∧
    w_RefusedRegisterWritesChangeNothing_1a_s.blockStopped 1 0x0F010F05 = false ∧
    w_RefusedRegisterWritesChangeNothing_1a_s.regAt 1 0x0F010F05 = some w_RefusedRegisterWritesChangeNothing_1a_r ∧
    writeCause w_RefusedRegisterWritesChangeNothing_1a_w true = some 2 ∧
    0x0F010F05 < 2 ^ 36 := by decide +kernel

def w_RefusedRegisterWritesChangeNothing_2_s : State := s0
def w_RefusedRegisterWritesChangeNothing_2_w : TWord := ⟨5, 2⟩
theorem test_w_RefusedRegisterWritesChangeNothing_2 : w_RefusedRegisterWritesChangeNothing_2_s.oscRuns = true ∧
    2 ≤ w_RefusedRegisterWritesChangeNothing_2_w.tag.toNat ∧
    15 < 16 ∧
    w_RefusedRegisterWritesChangeNothing_2_s.rf F.REG_ERR_VALID 1 = 0 := by decide +kernel

def w_UnmappedRegisterAccessesAreRecorded_1_s : State := s0
def w_UnmappedRegisterAccessesAreRecorded_1_w : TWord := dataWord 1
theorem test_w_UnmappedRegisterAccessesAreRecorded_1 : w_UnmappedRegisterAccessesAreRecorded_1_s.hasDie 1 = true ∧
    1 < 5 ∧
    inRegSpace 1 0x0F03FFFF = true ∧
    inTxWindow 1 0x0F03FFFF = false ∧
    w_UnmappedRegisterAccessesAreRecorded_1_s.blockStopped 1 0x0F03FFFF = false ∧
    w_UnmappedRegisterAccessesAreRecorded_1_s.regAt 1 0x0F03FFFF = none ∧
    w_UnmappedRegisterAccessesAreRecorded_1_s.rf F.REG_ERR_VALID 1 = 0 ∧
    0x0F03FFFF < 2 ^ 36 := by decide +kernel

def w_UnmappedRegisterAccessesAreRecorded_2_s : State := s0
def w_UnmappedRegisterAccessesAreRecorded_2_t : Txn := rdTxn 1 16 (2 ^ 36 + 0x0F03FFFF)
theorem test_w_UnmappedRegisterAccessesAreRecorded_2 : w_UnmappedRegisterAccessesAreRecorded_2_s.regAt 1 (addrLocal w_UnmappedRegisterAccessesAreRecorded_2_t.addr) = none ∧
    w_UnmappedRegisterAccessesAreRecorded_2_t.len = 1 ∧
    w_UnmappedRegisterAccessesAreRecorded_2_t.op = .read := by decide +kernel

def w_TransactionsReachTheirBank_1_s : State := { s0 with inFlight := [rdTxn 1 16 (2 ^ 36 + 0x7FFFF)] }
def w_TransactionsReachTheirBank_1_x : Txn := rdTxn 1 16 (2 ^ 36 + 0x7FFFF)
theorem test_w_TransactionsReachTheirBank_1 : w_TransactionsReachTheirBank_1_s.rst.por = false ∧
    w_TransactionsReachTheirBank_1_s.rst.inReset = false ∧
    w_TransactionsReachTheirBank_1_s.net.pkts = [] ∧
    w_TransactionsReachTheirBank_1_s.txnOk w_TransactionsReachTheirBank_1_x = true ∧
    w_TransactionsReachTheirBank_1_x.op = .read ∧
    w_TransactionsReachTheirBank_1_s.hasDie w_TransactionsReachTheirBank_1_x.srcDie = true ∧
    w_TransactionsReachTheirBank_1_x.addr % 64 + w_TransactionsReachTheirBank_1_x.len ≤ 64 ∧
    addrDev w_TransactionsReachTheirBank_1_x.addr = w_TransactionsReachTheirBank_1_s.devNum ∧
    addrDie w_TransactionsReachTheirBank_1_x.addr = w_TransactionsReachTheirBank_1_x.srcDie ∧
    w_TransactionsReachTheirBank_1_x.srcDie < 5 ∧
    w_TransactionsReachTheirBank_1_s.txnHeld w_TransactionsReachTheirBank_1_x = false ∧
    addrLocal w_TransactionsReachTheirBank_1_x.addr < (if w_TransactionsReachTheirBank_1_x.srcDie = 0 then 0x20000 else 0x80000) ∧
    w_TransactionsReachTheirBank_1_x ∈ w_TransactionsReachTheirBank_1_s.inFlight := by decide +kernel

def w_TransactionsReachTheirBank_2_s : State := { s0 with inFlight := [wrTxn 1 16 (2 ^ 36 + 5) [dataWord 3]] }
def w_TransactionsReachTheirBank_2_x : Txn := wrTxn 1 16 (2 ^ 36 + 5) [dataWord 3]
theorem test_w_TransactionsReachTheirBank_2 : w_TransactionsReachTheirBank_2_s.rst.por = false ∧
    w_TransactionsReachTheirBank_2_s.rst.inReset = false ∧
    w_TransactionsReachTheirBank_2_s.net.pkts = [] ∧
    w_TransactionsReachTheirBank_2_s.txnOk w_TransactionsReachTheirBank_2_x = true ∧
    w_TransactionsReachTheirBank_2_x.op = .write ∧
    w_TransactionsReachTheirBank_2_s.hasDie w_TransactionsReachTheirBank_2_x.srcDie = true ∧
    w_TransactionsReachTheirBank_2_x.addr % 64 + w_TransactionsReachTheirBank_2_x.len ≤ 64 ∧
    addrDev w_TransactionsReachTheirBank_2_x.addr = w_TransactionsReachTheirBank_2_s.devNum ∧
    addrDie w_TransactionsReachTheirBank_2_x.addr = w_TransactionsReachTheirBank_2_x.srcDie ∧
    w_TransactionsReachTheirBank_2_x.srcDie < 5 ∧
    w_TransactionsReachTheirBank_2_s.txnHeld w_TransactionsReachTheirBank_2_x = false ∧
    addrLocal w_TransactionsReachTheirBank_2_x.addr < (if w_TransactionsReachTheirBank_2_x.srcDie = 0 then 0x20000 else 0x80000) ∧
    w_TransactionsReachTheirBank_2_x ∈ w_TransactionsReachTheirBank_2_s.inFlight := by decide +kernel

def w_TransactionsReachTheirBank_3_s : State := { s0 with inFlight := [⟨.narrowWrite, 1, 16, 0, 2 ^ 36 + 5, 1, 24, 1, [dataWord 3], .posted, 0⟩] }
def w_TransactionsReachTheirBank_3_x : Txn := ⟨.narrowWrite, 1, 16, 0, 2 ^ 36 + 5, 1, 24, 1, [dataWord 3], .posted, 0⟩
theorem test_w_TransactionsReachTheirBank_3 : w_TransactionsReachTheirBank_3_s.rst.por = false ∧
    w_TransactionsReachTheirBank_3_s.rst.inReset = false ∧
    w_TransactionsReachTheirBank_3_s.net.pkts = [] ∧
    w_TransactionsReachTheirBank_3_s.txnOk w_TransactionsReachTheirBank_3_x = true ∧
    w_TransactionsReachTheirBank_3_x.op = .narrowWrite ∧
    w_TransactionsReachTheirBank_3_s.hasDie w_TransactionsReachTheirBank_3_x.srcDie = true ∧
    w_TransactionsReachTheirBank_3_x.addr % 64 + w_TransactionsReachTheirBank_3_x.len ≤ 64 ∧
    addrDev w_TransactionsReachTheirBank_3_x.addr = w_TransactionsReachTheirBank_3_s.devNum ∧
    addrDie w_TransactionsReachTheirBank_3_x.addr = w_TransactionsReachTheirBank_3_x.srcDie ∧
    w_TransactionsReachTheirBank_3_x.srcDie < 5 ∧
    w_TransactionsReachTheirBank_3_s.txnHeld w_TransactionsReachTheirBank_3_x = false ∧
    addrLocal w_TransactionsReachTheirBank_3_x.addr < (if w_TransactionsReachTheirBank_3_x.srcDie = 0 then 0x20000 else 0x80000) ∧
    w_TransactionsReachTheirBank_3_x ∈ w_TransactionsReachTheirBank_3_s.inFlight := by decide +kernel

def w_TransactionsReachTheirBank_4_s : State := { s0 with inFlight := [atTxn 1 16 (2 ^ 36 + 5) (dataWord 3)] }
def w_TransactionsReachTheirBank_4_x : Txn := atTxn 1 16 (2 ^ 36 + 5) (dataWord 3)
theorem test_w_TransactionsReachTheirBank_4 : w_TransactionsReachTheirBank_4_s.rst.por = false ∧
    w_TransactionsReachTheirBank_4_s.rst.inReset = false ∧
    w_TransactionsReachTheirBank_4_s.net.pkts = [] ∧
    w_TransactionsReachTheirBank_4_s.txnOk w_TransactionsReachTheirBank_4_x = true ∧
    w_TransactionsReachTheirBank_4_x.op = .add ∧
    w_TransactionsReachTheirBank_4_s.hasDie w_TransactionsReachTheirBank_4_x.srcDie = true ∧
    w_TransactionsReachTheirBank_4_x.addr % 64 + w_TransactionsReachTheirBank_4_x.len ≤ 64 ∧
    addrDev w_TransactionsReachTheirBank_4_x.addr = w_TransactionsReachTheirBank_4_s.devNum ∧
    addrDie w_TransactionsReachTheirBank_4_x.addr = w_TransactionsReachTheirBank_4_x.srcDie ∧
    w_TransactionsReachTheirBank_4_x.srcDie < 5 ∧
    w_TransactionsReachTheirBank_4_s.txnHeld w_TransactionsReachTheirBank_4_x = false ∧
    addrLocal w_TransactionsReachTheirBank_4_x.addr < (if w_TransactionsReachTheirBank_4_x.srcDie = 0 then 0x20000 else 0x80000) ∧
    w_TransactionsReachTheirBank_4_x ∈ w_TransactionsReachTheirBank_4_s.inFlight := by decide +kernel

def w_TransactionsReachTheirBank_5_s : State := { s0 with inFlight := [{ atTxn 0 0 5 (dataWord 3) with op := .swap }] }
def w_TransactionsReachTheirBank_5_x : Txn := { atTxn 0 0 5 (dataWord 3) with op := .swap }
theorem test_w_TransactionsReachTheirBank_5 : w_TransactionsReachTheirBank_5_s.rst.por = false ∧
    w_TransactionsReachTheirBank_5_s.rst.inReset = false ∧
    w_TransactionsReachTheirBank_5_s.net.pkts = [] ∧
    w_TransactionsReachTheirBank_5_s.txnOk w_TransactionsReachTheirBank_5_x = true ∧
    w_TransactionsReachTheirBank_5_x.op = .swap ∧
    w_TransactionsReachTheirBank_5_s.hasDie w_TransactionsReachTheirBank_5_x.srcDie = true ∧
    w_TransactionsReachTheirBank_5_x.addr % 64 + w_TransactionsReachTheirBank_5_x.len ≤ 64 ∧
    addrDev w_TransactionsReachTheirBank_5_x.addr = w_TransactionsReachTheirBank_5_s.devNum ∧
    addrDie w_TransactionsReachTheirBank_5_x.addr = w_TransactionsReachTheirBank_5_x.srcDie ∧
    w_TransactionsReachTheirBank_5_x.srcDie < 5 ∧
    w_TransactionsReachTheirBank_5_s.txnHeld w_TransactionsReachTheirBank_5_x = false ∧
    addrLocal w_TransactionsReachTheirBank_5_x.addr < (if w_TransactionsReachTheirBank_5_x.srcDie = 0 then 0x20000 else 0x80000) ∧
    w_TransactionsReachTheirBank_5_x ∈ w_TransactionsReachTheirBank_5_s.inFlight := by decide +kernel

def w_UnperformedTransactionsGetTheirOutcome_1_s : State := { s0 with inFlight := [{ rdTxn 1 16 (2 ^ 36 + 63) with len := 2 }] }
def w_UnperformedTransactionsGetTheirOutcome_1_x : Txn := { rdTxn 1 16 (2 ^ 36 + 63) with len := 2 }
theorem test_w_UnperformedTransactionsGetTheirOutcome_1 : w_UnperformedTransactionsGetTheirOutcome_1_s.rst.por = false ∧
    w_UnperformedTransactionsGetTheirOutcome_1_s.rst.inReset = false ∧
    w_UnperformedTransactionsGetTheirOutcome_1_s.net.pkts = [] ∧
    w_UnperformedTransactionsGetTheirOutcome_1_s.txnOk w_UnperformedTransactionsGetTheirOutcome_1_x = true ∧
    w_UnperformedTransactionsGetTheirOutcome_1_x.op = .read ∧
    w_UnperformedTransactionsGetTheirOutcome_1_x ∈ w_UnperformedTransactionsGetTheirOutcome_1_s.inFlight ∧
    64 < w_UnperformedTransactionsGetTheirOutcome_1_x.addr % 64 + w_UnperformedTransactionsGetTheirOutcome_1_x.len ∧
    w_UnperformedTransactionsGetTheirOutcome_1_x.srcDie < 5 := by decide +kernel

def w_UnperformedTransactionsGetTheirOutcome_2_s : State := s0
def w_UnperformedTransactionsGetTheirOutcome_2_x : Txn := { wrTxn 1 20 (2 ^ 36 + 63) [dataWord 1, dataWord 2] with vc := .streams }
theorem test_w_UnperformedTransactionsGetTheirOutcome_2 : w_UnperformedTransactionsGetTheirOutcome_2_s.rst.por = false ∧
    w_UnperformedTransactionsGetTheirOutcome_2_s.rst.inReset = false ∧
    w_UnperformedTransactionsGetTheirOutcome_2_s.net.pkts = [] ∧
    w_UnperformedTransactionsGetTheirOutcome_2_s.txnOk w_UnperformedTransactionsGetTheirOutcome_2_x = true ∧
    w_UnperformedTransactionsGetTheirOutcome_2_x.op = .write ∧
    64 < w_UnperformedTransactionsGetTheirOutcome_2_x.addr % 64 + w_UnperformedTransactionsGetTheirOutcome_2_x.len ∧
    w_UnperformedTransactionsGetTheirOutcome_2_x.srcDie < 5 := by decide +kernel

def w_ResponsesFreeTheirTags_1_s : State := { s0 with resps := [⟨false, 0, 0, 5, 0, [dataWord 9]⟩], outst := [⟨{ rdTxn 0 0 5 with rtag := 5 }, false, false⟩] }
def w_ResponsesFreeTheirTags_1_r : Resp := ⟨false, 0, 0, 5, 0, [dataWord 9]⟩
def w_ResponsesFreeTheirTags_1_o : Outst := ⟨{ rdTxn 0 0 5 with rtag := 5 }, false, false⟩
theorem test_w_ResponsesFreeTheirTags_1 : w_ResponsesFreeTheirTags_1_s.rst.por = false ∧
    w_ResponsesFreeTheirTags_1_s.rst.inReset = false ∧
    w_ResponsesFreeTheirTags_1_r.atomic = false ∧
    w_ResponsesFreeTheirTags_1_r ∈ w_ResponsesFreeTheirTags_1_s.resps ∧
    w_ResponsesFreeTheirTags_1_r.srcDie = 0 ∧
    w_ResponsesFreeTheirTags_1_r.master = 0 ∧
    (w_ResponsesFreeTheirTags_1_s.outst.find? fun w_ResponsesFreeTheirTags_1_o => w_ResponsesFreeTheirTags_1_o.matches w_ResponsesFreeTheirTags_1_r.srcDie w_ResponsesFreeTheirTags_1_r.master w_ResponsesFreeTheirTags_1_r.rtag) = some w_ResponsesFreeTheirTags_1_o ∧
    w_ResponsesFreeTheirTags_1_o.quarantined = false ∧
    w_ResponsesFreeTheirTags_1_o.discard = false := by decide +kernel

def w_ResponsesFreeTheirTags_2_s : State := { s0 with resps := [⟨true, 0, 0, 5, 0, [dataWord 9]⟩], outst := [⟨{ atTxn 0 0 5 (dataWord 1) with rtag := 5 }, false, false⟩] }
def w_ResponsesFreeTheirTags_2_r : Resp := ⟨true, 0, 0, 5, 0, [dataWord 9]⟩
def w_ResponsesFreeTheirTags_2_o : Outst := ⟨{ atTxn 0 0 5 (dataWord 1) with rtag := 5 }, false, false⟩
theorem test_w_ResponsesFreeTheirTags_2 : w_ResponsesFreeTheirTags_2_s.rst.por = false ∧
    w_ResponsesFreeTheirTags_2_s.rst.inReset = false ∧
    w_ResponsesFreeTheirTags_2_r.atomic = true ∧
    w_ResponsesFreeTheirTags_2_r ∈ w_ResponsesFreeTheirTags_2_s.resps ∧
    w_ResponsesFreeTheirTags_2_r.srcDie = 0 ∧
    w_ResponsesFreeTheirTags_2_r.master = 0 ∧
    (w_ResponsesFreeTheirTags_2_s.outst.find? fun w_ResponsesFreeTheirTags_2_o => w_ResponsesFreeTheirTags_2_o.matches w_ResponsesFreeTheirTags_2_r.srcDie w_ResponsesFreeTheirTags_2_r.master w_ResponsesFreeTheirTags_2_r.rtag) = some w_ResponsesFreeTheirTags_2_o ∧
    w_ResponsesFreeTheirTags_2_o.quarantined = false ∧
    w_ResponsesFreeTheirTags_2_o.discard = false := by decide +kernel

def w_ResponsesFreeTheirTags_3_s : State := { s0 with resps := [⟨false, 1, 16, 0, 0, [dataWord 9]⟩], outst := [⟨rdTxn 1 16 5, false, true⟩] }
def w_ResponsesFreeTheirTags_3_r : Resp := ⟨false, 1, 16, 0, 0, [dataWord 9]⟩
def w_ResponsesFreeTheirTags_3_o : Outst := ⟨rdTxn 1 16 5, false, true⟩
theorem test_w_ResponsesFreeTheirTags_3 : w_ResponsesFreeTheirTags_3_s.rst.por = false ∧
    w_ResponsesFreeTheirTags_3_s.rst.inReset = false ∧
    w_ResponsesFreeTheirTags_3_r.atomic = false ∧
    w_ResponsesFreeTheirTags_3_r ∈ w_ResponsesFreeTheirTags_3_s.resps ∧
    w_ResponsesFreeTheirTags_3_r.srcDie < 5 ∧
    (w_ResponsesFreeTheirTags_3_s.outst.find? fun w_ResponsesFreeTheirTags_3_o => w_ResponsesFreeTheirTags_3_o.matches w_ResponsesFreeTheirTags_3_r.srcDie w_ResponsesFreeTheirTags_3_r.master w_ResponsesFreeTheirTags_3_r.rtag) = some w_ResponsesFreeTheirTags_3_o ∧
    w_ResponsesFreeTheirTags_3_o.quarantined = true := by decide +kernel

def w_ResponsesFreeTheirTags_4_s : State := { put s0 [(F.TRN_CTL_TO_EN, [1, 0])] with outst := [⟨rdTxn 0 0 5, false, false⟩] }
def w_ResponsesFreeTheirTags_4_o : Outst := ⟨rdTxn 0 0 5, false, false⟩
theorem test_w_ResponsesFreeTheirTags_4 : w_ResponsesFreeTheirTags_4_s.rst.por = false ∧
    w_ResponsesFreeTheirTags_4_s.rst.inReset = false ∧
    w_ResponsesFreeTheirTags_4_s.rb F.TRN_CTL_TO_EN 0 = true ∧
    (w_ResponsesFreeTheirTags_4_s.outst.find? fun w_ResponsesFreeTheirTags_4_o => w_ResponsesFreeTheirTags_4_o.matches 0 0 0) = some w_ResponsesFreeTheirTags_4_o ∧
    w_ResponsesFreeTheirTags_4_o.quarantined = false ∧
    w_ResponsesFreeTheirTags_4_o.discard = false ∧
    w_ResponsesFreeTheirTags_4_s.untimed w_ResponsesFreeTheirTags_4_o.txn = false ∧
    w_ResponsesFreeTheirTags_4_o.txn.op = .read := by decide +kernel

def w_CoresComputeAsTheTableSays_1_s : State := coreAt 0x0
theorem test_w_CoresComputeAsTheTableSays_1 : w_CoresComputeAsTheTableSays_1_s.seqAt 1 2 0x0 .nop = true := by decide +kernel

def w_CoresComputeAsTheTableSays_2_s : State := coreAt 0x4c480
theorem test_w_CoresComputeAsTheTableSays_2 : w_CoresComputeAsTheTableSays_2_s.seqAt 1 2 0x4c480 .add = true := by decide +kernel

def w_CoresComputeAsTheTableSays_3_s : State := coreAt 0x8c480
theorem test_w_CoresComputeAsTheTableSays_3 : w_CoresComputeAsTheTableSays_3_s.seqAt 1 2 0x8c480 .sub = true := by decide +kernel

def w_CoresComputeAsTheTableSays_4_s : State := coreAt 0xcc480
theorem test_w_CoresComputeAsTheTableSays_4 : w_CoresComputeAsTheTableSays_4_s.seqAt 1 2 0xcc480 .and = true := by decide +kernel

def w_CoresComputeAsTheTableSays_5_s : State := coreAt 0x10c480
theorem test_w_CoresComputeAsTheTableSays_5 : w_CoresComputeAsTheTableSays_5_s.seqAt 1 2 0x10c480 .or = true := by decide +kernel

def w_CoresComputeAsTheTableSays_6_s : State := coreAt 0x14c480
theorem test_w_CoresComputeAsTheTableSays_6 : w_CoresComputeAsTheTableSays_6_s.seqAt 1 2 0x14c480 .xor = true := by decide +kernel

def w_CoresComputeAsTheTableSays_7_s : State := coreAt 0x18c480
theorem test_w_CoresComputeAsTheTableSays_7 : w_CoresComputeAsTheTableSays_7_s.seqAt 1 2 0x18c480 .shl = true := by decide +kernel

def w_CoresComputeAsTheTableSays_8_s : State := coreAt 0x1cc480
theorem test_w_CoresComputeAsTheTableSays_8 : w_CoresComputeAsTheTableSays_8_s.seqAt 1 2 0x1cc480 .shr = true := by decide +kernel

def w_CoresComputeAsTheTableSays_9_s : State := coreAt 0x20c480
theorem test_w_CoresComputeAsTheTableSays_9 : w_CoresComputeAsTheTableSays_9_s.seqAt 1 2 0x20c480 .sar = true := by decide +kernel

def w_CoresComputeAsTheTableSays_10_s : State := coreAt 0x24c480
theorem test_w_CoresComputeAsTheTableSays_10 : w_CoresComputeAsTheTableSays_10_s.seqAt 1 2 0x24c480 .mulu = true := by decide +kernel

def w_CoresComputeAsTheTableSays_11_s : State := coreAt 0x28c480
theorem test_w_CoresComputeAsTheTableSays_11 : w_CoresComputeAsTheTableSays_11_s.seqAt 1 2 0x28c480 .muls = true := by decide +kernel

def w_CoresComputeAsTheTableSays_12_s : State := coreAt 0x2c0480
theorem test_w_CoresComputeAsTheTableSays_12 : w_CoresComputeAsTheTableSays_12_s.seqAt 1 2 0x2c0480 .cmp = true := by decide +kernel

def w_CoresComputeAsTheTableSays_13_s : State := coreAt 0x40c7f0
theorem test_w_CoresComputeAsTheTableSays_13 : w_CoresComputeAsTheTableSays_13_s.seqAt 1 2 0x40c7f0 .addi = true := by decide +kernel

def w_CoresComputeAsTheTableSays_14_s : State := coreAt 0x4407ff
theorem test_w_CoresComputeAsTheTableSays_14 : w_CoresComputeAsTheTableSays_14_s.seqAt 1 2 0x4407ff .cmpi = true := by decide +kernel

def w_CoresComputeAsTheTableSays_15_s : State := coreAt 0x48c7f0
theorem test_w_CoresComputeAsTheTableSays_15 : w_CoresComputeAsTheTableSays_15_s.seqAt 1 2 0x48c7f0 .andi = true := by decide +kernel

def w_CoresComputeAsTheTableSays_16_s : State := coreAt 0x4cc7f0
theorem test_w_CoresComputeAsTheTableSays_16 : w_CoresComputeAsTheTableSays_16_s.seqAt 1 2 0x4cc7f0 .ori = true := by decide +kernel

def w_CoresComputeAsTheTableSays_17_s : State := coreAt 0x50c7f0
theorem test_w_CoresComputeAsTheTableSays_17 : w_CoresComputeAsTheTableSays_17_s.seqAt 1 2 0x50c7f0 .xori = true := by decide +kernel

def w_CoresComputeAsTheTableSays_18_s : State := coreAt 0x54c42f
theorem test_w_CoresComputeAsTheTableSays_18 : w_CoresComputeAsTheTableSays_18_s.seqAt 1 2 0x54c42f .shli = true := by decide +kernel

def w_CoresComputeAsTheTableSays_19_s : State := coreAt 0x58c42f
theorem test_w_CoresComputeAsTheTableSays_19 : w_CoresComputeAsTheTableSays_19_s.seqAt 1 2 0x58c42f .shri = true := by decide +kernel

def w_CoresComputeAsTheTableSays_20_s : State := coreAt 0x5cc42f
theorem test_w_CoresComputeAsTheTableSays_20 : w_CoresComputeAsTheTableSays_20_s.seqAt 1 2 0x5cc42f .sari = true := by decide +kernel

def w_CoresComputeAsTheTableSays_21_s : State := coreAt 0x60ffff
theorem test_w_CoresComputeAsTheTableSays_21 : w_CoresComputeAsTheTableSays_21_s.seqAt 1 2 0x60ffff .ldi = true := by decide +kernel

def w_CoresComputeAsTheTableSays_22_s : State := coreAt 0x64c155
theorem test_w_CoresComputeAsTheTableSays_22 : w_CoresComputeAsTheTableSays_22_s.seqAt 1 2 0x64c155 .lih = true := by decide +kernel

def w_CoresLoadAndStore_1_s : State := coreAt 0x80c7f0
def w_CoresLoadAndStore_1_v : TWord := ⟨0, 2⟩
theorem test_w_CoresLoadAndStore_1 : w_CoresLoadAndStore_1_s.seqAt 1 2 0x80c7f0 .ldl = true ∧
    decodeCell (w_CoresLoadAndStore_1_s.cell 1 (dmemAddr 2 ((w_CoresLoadAndStore_1_s.g 1 2 (fRa 0x80c7f0) + sext 10 (fImm10 0x80c7f0)).toNat % 4096))) (dmemAddr 2 ((w_CoresLoadAndStore_1_s.g 1 2 (fRa 0x80c7f0) + sext 10 (fImm10 0x80c7f0)).toNat % 4096)) = .good w_CoresLoadAndStore_1_v ∧
    w_CoresLoadAndStore_1_s.bpMatch 1 2 1 ((w_CoresLoadAndStore_1_s.g 1 2 (fRa 0x80c7f0) + sext 10 (fImm10 0x80c7f0)).toNat % 4096) = none := by decide +kernel

def w_CoresLoadAndStore_2_s : State := coreAt 0x84c7f0
theorem test_w_CoresLoadAndStore_2 : w_CoresLoadAndStore_2_s.seqAt 1 2 0x84c7f0 .stl = true ∧
    4085 = (w_CoresLoadAndStore_2_s.g 1 2 (fRa 0x84c7f0) + sext 8 (fOff8 0x84c7f0)).toNat % 4096 ∧
    w_CoresLoadAndStore_2_s.bpMatch 1 2 2 4085 = none ∧
    w_CoresLoadAndStore_2_s.flipArmed 1 (arrOf 1 (dmemAddr 2 4085)) = false := by decide +kernel

def w_CoresLoadAndStore_3_s : State := coreAt 0x9804a2
def w_CoresLoadAndStore_3_v : TWord := ⟨0, 2⟩
theorem test_w_CoresLoadAndStore_3 : w_CoresLoadAndStore_3_s.seqAt 1 2 0x9804a2 .stln = true ∧
    5 = (w_CoresLoadAndStore_3_s.g 1 2 (fRa 0x9804a2)).toNat % 4096 ∧
    decodeCell (w_CoresLoadAndStore_3_s.cell 1 (dmemAddr 2 5)) (dmemAddr 2 5) = .good w_CoresLoadAndStore_3_v ∧
    w_CoresLoadAndStore_3_s.bpMatch 1 2 2 5 = none ∧
    w_CoresLoadAndStore_3_s.flipArmed 1 (arrOf 1 (dmemAddr 2 5)) = false := by decide +kernel

def w_CoresLoadAndStore_4_s : State := coreAt 0x88c7f0
theorem test_w_CoresLoadAndStore_4 : w_CoresLoadAndStore_4_s.seqAt 1 2 0x88c7f0 .ldg = true ∧
    w_CoresLoadAndStore_4_s.freeTag 1 (16 + 2) = some 0 := by decide +kernel

def w_CoresLoadAndStore_5_s : State := coreAt 0x90c480
theorem test_w_CoresLoadAndStore_5 : w_CoresLoadAndStore_5_s.seqAt 1 2 0x90c480 .aadd = true ∧
    w_CoresLoadAndStore_5_s.freeTag 1 (16 + 2) = some 0 := by decide +kernel

def w_CoresLoadAndStore_6_s : State := coreAt 0x94c480
theorem test_w_CoresLoadAndStore_6 : w_CoresLoadAndStore_6_s.seqAt 1 2 0x94c480 .aswp = true ∧
    w_CoresLoadAndStore_6_s.freeTag 1 (16 + 2) = some 0 := by decide +kernel

def w_CoresLoadAndStore_7_s : State := coreAt 0x8cc7f0
theorem test_w_CoresLoadAndStore_7 : w_CoresLoadAndStore_7_s.seqAt 1 2 0x8cc7f0 .stg = true ∧
    (w_CoresLoadAndStore_7_s.core 1 2).sq.length < 4 ∧
    w_CoresLoadAndStore_7_s.bpMatch 1 2 3 (w_CoresLoadAndStore_7_s.g 1 2 (fRa 0x8cc7f0) + sext 8 (fOff8 0x8cc7f0)).toNat = none := by decide +kernel

def w_CoresLoadAndStore_8_s : State := s0.setCore 1 2 { Core.init with sq := [(7, dataWord 9)] }
def w_CoresLoadAndStore_8_w : TWord := dataWord 9
def w_CoresLoadAndStore_8_q : List (Nat × TWord) := []
theorem test_w_CoresLoadAndStore_8 : (w_CoresLoadAndStore_8_s.core 1 2).sq = (7, w_CoresLoadAndStore_8_w) :: w_CoresLoadAndStore_8_q ∧
    (w_CoresLoadAndStore_8_s.core 1 2).wait = .idle ∧
    (w_CoresLoadAndStore_8_s.core 1 2).resetReq = none := by decide +kernel

def w_CoresLoadAndStore_9_s : State := coreAt 0x9c0000
theorem test_w_CoresLoadAndStore_9 : w_CoresLoadAndStore_9_s.seqAt 1 2 0x9c0000 .sync = true ∧
    (w_CoresLoadAndStore_9_s.core 1 2).sq = [] := by decide +kernel

def w_CoresLoadAndStore_10_s : State := coreAt 0xa0c03f
theorem test_w_CoresLoadAndStore_10 : w_CoresLoadAndStore_10_s.seqAt 1 2 0xa0c03f .mbr = true := by decide +kernel

def w_CoresLoadAndStore_11_s : State := coreAt 0xa4c03f
theorem test_w_CoresLoadAndStore_11 : w_CoresLoadAndStore_11_s.seqAt 1 2 0xa4c03f .mbw = true := by decide +kernel

def w_CoresLoadAndStore_12_s : State := coreAt 0xa8c001
theorem test_w_CoresLoadAndStore_12 : w_CoresLoadAndStore_12_s.seqAt 1 2 0xa8c001 .rsr = true := by decide +kernel

def w_CoresLoadAndStore_13_s : State := coreAt 0xacc001
theorem test_w_CoresLoadAndStore_13 : w_CoresLoadAndStore_13_s.seqAt 1 2 0xacc001 .wsr = true ∧
    0xacc001 % 16 = 1 := by decide +kernel

def w_CoresLoadAndStore_14_s : State := coreAt 0xacc00a
theorem test_w_CoresLoadAndStore_14 : w_CoresLoadAndStore_14_s.seqAt 1 2 0xacc00a .wsr = true ∧
    (0xacc00a % 16 = 3 ∨ 0xacc00a % 16 = 4 ∨ 0xacc00a % 16 = 5 ∨ 0xacc00a % 16 = 10) := by decide +kernel

def w_CoresBranchAndHalt_1_s : State := coreAt 0xc03fff
theorem test_w_CoresBranchAndHalt_1 : w_CoresBranchAndHalt_1_s.seqAt 1 2 0xc03fff .b = true := by decide +kernel

def w_CoresBranchAndHalt_2_s : State := coreAt 0xc41234
theorem test_w_CoresBranchAndHalt_2 : w_CoresBranchAndHalt_2_s.seqAt 1 2 0xc41234 .call = true := by decide +kernel

def w_CoresBranchAndHalt_3_s : State := coreAt 0xc80400
theorem test_w_CoresBranchAndHalt_3 : w_CoresBranchAndHalt_3_s.seqAt 1 2 0xc80400 .jr = true := by decide +kernel

def w_CoresBranchAndHalt_4_s : State := coreAt 0xcc0000
theorem test_w_CoresBranchAndHalt_4 : w_CoresBranchAndHalt_4_s.seqAt 1 2 0xcc0000 .ret = true := by decide +kernel

def w_CoresBranchAndHalt_5_s : State := coreAt 0xd00000
theorem test_w_CoresBranchAndHalt_5 : w_CoresBranchAndHalt_5_s.seqAt 1 2 0xd00000 .reti = true := by decide +kernel

def w_CoresBranchAndHalt_6_s : State := coreAt 0xd40000
theorem test_w_CoresBranchAndHalt_6 : w_CoresBranchAndHalt_6_s.seqAt 1 2 0xd40000 .wait = true ∧
    w_CoresBranchAndHalt_6_s.pendingVec 1 2 = none := by decide +kernel

def w_CoresBranchAndHalt_7_s : State := coreAt 0xd80000
theorem test_w_CoresBranchAndHalt_7 : w_CoresBranchAndHalt_7_s.seqAt 1 2 0xd80000 .halt = true := by decide +kernel

def w_CoresBranchAndHalt_8_s : State := coreAt 0xdc0000
theorem test_w_CoresBranchAndHalt_8 : w_CoresBranchAndHalt_8_s.seqAt 1 2 0xdc0000 .brk = true := by decide +kernel

def w_CoresTakeInterruptsAndExceptions_1_s : State := ((coreAt 0).setSr 1 2 0 (2 ^ 47 + 5)).setSr 1 2 8 0xF0 |>.setSr 1 2 9 0xC0
theorem test_w_CoresTakeInterruptsAndExceptions_1 : w_CoresTakeInterruptsAndExceptions_1_s.seqState 1 2 = 1 ∧
    (w_CoresTakeInterruptsAndExceptions_1_s.core 1 2).resetReq = none ∧
    w_CoresTakeInterruptsAndExceptions_1_s.gated = false ∧
    (w_CoresTakeInterruptsAndExceptions_1_s.core 1 2).bp = none ∧
    (w_CoresTakeInterruptsAndExceptions_1_s.core 1 2).haltReq = false ∧
    (w_CoresTakeInterruptsAndExceptions_1_s.core 1 2).haltFault = false ∧
    (w_CoresTakeInterruptsAndExceptions_1_s.core 1 2).stepping = false ∧
    bit (w_CoresTakeInterruptsAndExceptions_1_s.sr 1 2 0) 47 = true ∧
    bit (w_CoresTakeInterruptsAndExceptions_1_s.sr 1 2 0) 46 = false ∧
    w_CoresTakeInterruptsAndExceptions_1_s.pendingVec 1 2 = some 6 := by decide +kernel

def w_CoresTakeInterruptsAndExceptions_2_s : State := coreAt 0xFFFFFF
def w_CoresTakeInterruptsAndExceptions_2_w : TWord := dataWord 0xFFFFFF
theorem test_w_CoresTakeInterruptsAndExceptions_2 : w_CoresTakeInterruptsAndExceptions_2_s.seqReady 1 2 = true ∧
    w_CoresTakeInterruptsAndExceptions_2_s.fetchBp 1 2 = none ∧
    (w_CoresTakeInterruptsAndExceptions_2_s.core 1 2).bp = none ∧
    (w_CoresTakeInterruptsAndExceptions_2_s.core 1 2).haltReq = false ∧
    (w_CoresTakeInterruptsAndExceptions_2_s.core 1 2).haltFault = false ∧
    (w_CoresTakeInterruptsAndExceptions_2_s.core 1 2).stepping = false ∧
    bit (w_CoresTakeInterruptsAndExceptions_2_s.sr 1 2 0) 46 = false ∧
    decodeCell (w_CoresTakeInterruptsAndExceptions_2_s.cell 1 (imemAddr 2 (w_CoresTakeInterruptsAndExceptions_2_s.seqPc 1 2))) (imemAddr 2 (w_CoresTakeInterruptsAndExceptions_2_s.seqPc 1 2)) = .good w_CoresTakeInterruptsAndExceptions_2_w ∧
    w_CoresTakeInterruptsAndExceptions_2_w.tag = tagData ∧
    ((w_CoresTakeInterruptsAndExceptions_2_w.data.toNat / 2 ^ 24 ≠ 0 ∨ seqDecode w_CoresTakeInterruptsAndExceptions_2_w.data.toNat = none)) := by decide +kernel

def w_CoresTakeInterruptsAndExceptions_3_s : State := (coreAt 0).putWord 1 (imemAddr 2 0x100) ⟨0, 1⟩
def w_CoresTakeInterruptsAndExceptions_3_w : TWord := ⟨0, 1⟩
theorem test_w_CoresTakeInterruptsAndExceptions_3 : w_CoresTakeInterruptsAndExceptions_3_s.seqReady 1 2 = true ∧
    w_CoresTakeInterruptsAndExceptions_3_s.fetchBp 1 2 = none ∧
    (w_CoresTakeInterruptsAndExceptions_3_s.core 1 2).bp = none ∧
    (w_CoresTakeInterruptsAndExceptions_3_s.core 1 2).haltReq = false ∧
    (w_CoresTakeInterruptsAndExceptions_3_s.core 1 2).haltFault = false ∧
    (w_CoresTakeInterruptsAndExceptions_3_s.core 1 2).stepping = false ∧
    bit (w_CoresTakeInterruptsAndExceptions_3_s.sr 1 2 0) 46 = false ∧
    decodeCell (w_CoresTakeInterruptsAndExceptions_3_s.cell 1 (imemAddr 2 (w_CoresTakeInterruptsAndExceptions_3_s.seqPc 1 2))) (imemAddr 2 (w_CoresTakeInterruptsAndExceptions_3_s.seqPc 1 2)) = .good w_CoresTakeInterruptsAndExceptions_3_w ∧
    w_CoresTakeInterruptsAndExceptions_3_w.tag ≠ tagData := by decide +kernel

def w_CoresTakeInterruptsAndExceptions_4_s : State := ((coreAt 0).setSr 1 2 6 100).setCore 1 2 { Core.init with timerAt := 2 ^ 48 - 200 }
theorem test_w_CoresTakeInterruptsAndExceptions_4 : w_CoresTakeInterruptsAndExceptions_4_s.sr 1 2 6 ≠ 0 ∧
    w_CoresTakeInterruptsAndExceptions_4_s.gated = false ∧
    w_CoresTakeInterruptsAndExceptions_4_s.seqState 1 2 = 1 ∧
    (2 ^ 48 - 200) = (w_CoresTakeInterruptsAndExceptions_4_s.core 1 2).timerAt ∧
    w_CoresTakeInterruptsAndExceptions_4_s.sr 1 2 6 ≤ (w_CoresTakeInterruptsAndExceptions_4_s.rsr 1 2 4 + 2 ^ 48 - (2 ^ 48 - 200)) % 2 ^ 48 := by decide +kernel

def w_CoresTakeInterruptsAndExceptions_5_s : State := (coreAt 0).setCore 1 2 { Core.init with armed := true }
theorem test_w_CoresTakeInterruptsAndExceptions_5 : (w_CoresTakeInterruptsAndExceptions_5_s.core 1 2).armed = true ∧
    w_CoresTakeInterruptsAndExceptions_5_s.gated = false ∧
    (w_CoresTakeInterruptsAndExceptions_5_s.now + 2 ^ 48 - w_CoresTakeInterruptsAndExceptions_5_s.sr 1 2 7) % 2 ^ 48 < 2 ^ 47 ∧
    w_CoresTakeInterruptsAndExceptions_5_s.seqState 1 2 = 1 := by decide +kernel

def w_CoresTakeInterruptsAndExceptions_6_s : State := coreAt 0
def w_CoresTakeInterruptsAndExceptions_6_w : TWord := dataWord 77
theorem test_w_CoresTakeInterruptsAndExceptions_6 : 4 ≤ 31 ∧
    31 < 32 ∧
    w_CoresTakeInterruptsAndExceptions_6_w.tag.toNat < 2 ∧
    bit (w_CoresTakeInterruptsAndExceptions_6_s.sr 1 2 9) 31 = false ∧
    w_CoresTakeInterruptsAndExceptions_6_s.seqState 1 2 = 1 := by decide +kernel

def w_DoubleFaultsHaltTheCore_1_s : State := (coreAt 0).setSr 1 2 0 (2 ^ 46)
theorem test_w_DoubleFaultsHaltTheCore_1 : bit (w_DoubleFaultsHaltTheCore_1_s.sr 1 2 0) 46 = true := by decide +kernel

def w_DoubleFaultsHaltTheCore_2_s : State := (coreAt 0xFFFFFF).setSr 1 2 0 (2 ^ 46)
def w_DoubleFaultsHaltTheCore_2_w : TWord := dataWord 0xFFFFFF
theorem test_w_DoubleFaultsHaltTheCore_2 : w_DoubleFaultsHaltTheCore_2_s.seqReady 1 2 = true ∧
    w_DoubleFaultsHaltTheCore_2_s.fetchBp 1 2 = none ∧
    bit (w_DoubleFaultsHaltTheCore_2_s.sr 1 2 0) 46 = true ∧
    decodeCell (w_DoubleFaultsHaltTheCore_2_s.cell 1 (imemAddr 2 (w_DoubleFaultsHaltTheCore_2_s.seqPc 1 2))) (imemAddr 2 (w_DoubleFaultsHaltTheCore_2_s.seqPc 1 2)) = .good w_DoubleFaultsHaltTheCore_2_w ∧
    w_DoubleFaultsHaltTheCore_2_w.tag = tagData ∧
    ((w_DoubleFaultsHaltTheCore_2_w.data.toNat / 2 ^ 24 ≠ 0 ∨ seqDecode w_DoubleFaultsHaltTheCore_2_w.data.toNat = none)) := by decide +kernel

def w_DoubleFaultsHaltTheCore_3_s : State := ((coreAt 0).setSr 1 2 0 (2 ^ 46)).putWord 1 (imemAddr 2 0x100) ⟨0, 3⟩
def w_DoubleFaultsHaltTheCore_3_w : TWord := ⟨0, 3⟩
theorem test_w_DoubleFaultsHaltTheCore_3 : w_DoubleFaultsHaltTheCore_3_s.seqReady 1 2 = true ∧
    w_DoubleFaultsHaltTheCore_3_s.fetchBp 1 2 = none ∧
    bit (w_DoubleFaultsHaltTheCore_3_s.sr 1 2 0) 46 = true ∧
    decodeCell (w_DoubleFaultsHaltTheCore_3_s.cell 1 (imemAddr 2 (w_DoubleFaultsHaltTheCore_3_s.seqPc 1 2))) (imemAddr 2 (w_DoubleFaultsHaltTheCore_3_s.seqPc 1 2)) = .good w_DoubleFaultsHaltTheCore_3_w ∧
    w_DoubleFaultsHaltTheCore_3_w.tag ≠ tagData := by decide +kernel

def w_CoresAreHaltedSteppedAndReset_1_s : State := coreAt 0
def w_CoresAreHaltedSteppedAndReset_1_w : TWord := dataWord 0
theorem test_w_CoresAreHaltedSteppedAndReset_1 : w_CoresAreHaltedSteppedAndReset_1_w.tag.toNat < 2 ∧
    bit w_CoresAreHaltedSteppedAndReset_1_w.data.toNat 47 = false ∧
    bit w_CoresAreHaltedSteppedAndReset_1_w.data.toNat 45 = false ∧
    w_CoresAreHaltedSteppedAndReset_1_s.seqState 1 2 = 1 ∧
    (w_CoresAreHaltedSteppedAndReset_1_s.core 1 2).resetReq = none ∧
    (w_CoresAreHaltedSteppedAndReset_1_s.core 1 2).stepping = false ∧
    w_CoresAreHaltedSteppedAndReset_1_s.fetchBp 1 2 = none := by decide +kernel

def w_CoresAreHaltedSteppedAndReset_2_s : State := s0
def w_CoresAreHaltedSteppedAndReset_2_w : TWord := dataWord (2 ^ 45 + 200)
theorem test_w_CoresAreHaltedSteppedAndReset_2 : w_CoresAreHaltedSteppedAndReset_2_w.tag.toNat < 2 ∧
    bit w_CoresAreHaltedSteppedAndReset_2_w.data.toNat 47 = false ∧
    bit w_CoresAreHaltedSteppedAndReset_2_w.data.toNat 45 = true ∧
    w_CoresAreHaltedSteppedAndReset_2_s.seqState 1 2 = 0 ∧
    (w_CoresAreHaltedSteppedAndReset_2_s.core 1 2).resetReq = none := by decide +kernel

def w_CoresAreHaltedSteppedAndReset_3_s : State := (coreAt 0x04C480).coreHalt 1 2 5
def w_CoresAreHaltedSteppedAndReset_3_w : TWord := dataWord (2 ^ 46)
theorem test_w_CoresAreHaltedSteppedAndReset_3 : w_CoresAreHaltedSteppedAndReset_3_w.tag.toNat < 2 ∧
    bit w_CoresAreHaltedSteppedAndReset_3_w.data.toNat 47 = false ∧
    bit w_CoresAreHaltedSteppedAndReset_3_w.data.toNat 46 = true ∧
    bit w_CoresAreHaltedSteppedAndReset_3_w.data.toNat 45 = false ∧
    bit w_CoresAreHaltedSteppedAndReset_3_w.data.toNat 44 = false ∧
    w_CoresAreHaltedSteppedAndReset_3_s.seqState 1 2 = 0 ∧
    (w_CoresAreHaltedSteppedAndReset_3_s.core 1 2).resetReq = none ∧
    (w_CoresAreHaltedSteppedAndReset_3_s.core 1 2).haltReq = false ∧
    (w_CoresAreHaltedSteppedAndReset_3_s.core 1 2).haltFault = false ∧
    0x04C480 < 2 ^ 24 ∧
    seqDecode 0x04C480 = some .add ∧
    decodeCell (w_CoresAreHaltedSteppedAndReset_3_s.cell 1 (imemAddr 2 (w_CoresAreHaltedSteppedAndReset_3_s.seqPc 1 2))) (imemAddr 2 (w_CoresAreHaltedSteppedAndReset_3_s.seqPc 1 2)) = .good (dataWord 0x04C480) := by decide +kernel

def w_CoresAreHaltedSteppedAndReset_4_s : State := coreAt 0
def w_CoresAreHaltedSteppedAndReset_4_w : TWord := dataWord (2 ^ 47 + 2 ^ 45)
theorem test_w_CoresAreHaltedSteppedAndReset_4 : w_CoresAreHaltedSteppedAndReset_4_w.tag.toNat < 2 ∧
    bit w_CoresAreHaltedSteppedAndReset_4_w.data.toNat 47 = true ∧
    (w_CoresAreHaltedSteppedAndReset_4_s.core 1 2).sq = [] ∧
    (w_CoresAreHaltedSteppedAndReset_4_s.core 1 2).wait = .idle ∧
    2 < 4 := by decide +kernel

def w_CoresAreHaltedSteppedAndReset_5_s : State := put (s0.putWord 1 (imemAddr 2 8191) ⟨5, 3⟩) [(F.SEQ_MEM_ADDR_IMEM, [1, 1, 2]), (F.SEQ_MEM_ADDR_ADDR, [8191, 1, 2])]
def w_CoresAreHaltedSteppedAndReset_5_v : TWord := ⟨5, 3⟩
theorem test_w_CoresAreHaltedSteppedAndReset_5 : w_CoresAreHaltedSteppedAndReset_5_s.seqState 1 2 = 0 ∧
    decodeCell (w_CoresAreHaltedSteppedAndReset_5_s.cell 1 (w_CoresAreHaltedSteppedAndReset_5_s.memAddr 1 2)) (w_CoresAreHaltedSteppedAndReset_5_s.memAddr 1 2) = .good w_CoresAreHaltedSteppedAndReset_5_v := by decide +kernel

def w_CoresAreHaltedSteppedAndReset_6_s : State := s0
def w_CoresAreHaltedSteppedAndReset_6_w : TWord := ⟨5, 1⟩
theorem test_w_CoresAreHaltedSteppedAndReset_6 : w_CoresAreHaltedSteppedAndReset_6_w.tag.toNat < 2 ∧
    w_CoresAreHaltedSteppedAndReset_6_s.seqState 1 2 = 0 ∧
    w_CoresAreHaltedSteppedAndReset_6_s.flipArmed 1 (arrOf 1 (w_CoresAreHaltedSteppedAndReset_6_s.memAddr 1 2)) = false := by decide +kernel

def w_FlitsAreAcceptedInSequence_1_s : State := (put s0 [(F.IXG_STAT_STATE, [2, 1, 0]), (F.IXG_STAT_STATE, [2, 0, 0]), (F.IXG_STAT_NEXT_SEQ, [255, 0, 0])]).setIxp 0 0 { IxPort.init with initSeen := true, cred := [1, 1, 1, 1] } |>.setIxp 1 0 { IxPort.init with rxNext := 255 }
theorem test_w_FlitsAreAcceptedInSequence_1 : w_FlitsAreAcceptedInSequence_1_s.ixPeer 1 0 = some (0, 0) ∧
    0 ≠ 1 ∧
    1 < 5 ∧
    0 < 5 ∧
    w_FlitsAreAcceptedInSequence_1_s.rf F.IXG_STAT_STATE 1 0 = 2 ∧
    w_FlitsAreAcceptedInSequence_1_s.rf F.IXG_STAT_STATE 0 0 = 2 ∧
    (w_FlitsAreAcceptedInSequence_1_s.ixp 0 0).replay = [] ∧
    (w_FlitsAreAcceptedInSequence_1_s.ixp 0 0).folded = [] ∧
    flitSeq (rdFlit 255) = w_FlitsAreAcceptedInSequence_1_s.rf F.IXG_STAT_NEXT_SEQ 0 0 ∧
    (w_FlitsAreAcceptedInSequence_1_s.ixp 0 0).initSeen = true ∧
    (w_FlitsAreAcceptedInSequence_1_s.ixp 0 0).redo = 0 ∧
    (w_FlitsAreAcceptedInSequence_1_s.ixp 0 0).run < 126 ∧
    (w_FlitsAreAcceptedInSequence_1_s.ixp 0 0).unacked < 16 ∧
    (w_FlitsAreAcceptedInSequence_1_s.ixp 1 0).run < 127 ∧
    (w_FlitsAreAcceptedInSequence_1_s.ixp 1 0).unacked < 15 ∧
    0 < (w_FlitsAreAcceptedInSequence_1_s.ixp 0 0).cred.getD (flitVc (rdFlit 255)) 0 ∧
    flitGood (rdFlit 255) = true ∧
    flitSeq (rdFlit 255) = (w_FlitsAreAcceptedInSequence_1_s.ixp 1 0).rxNext ∧
    (w_FlitsAreAcceptedInSequence_1_s.ixp 1 0).err = none ∧
    (w_FlitsAreAcceptedInSequence_1_s.ixp 1 0).rxPart = [] ∧
    flitFmt (rdFlit 255) = 1 ∧
    flitCount (flitCmd (rdFlit 255)) = some 1 ∧
    opOnVc (bits (flitCmd (rdFlit 255)) 47 44) (flitVc (rdFlit 255)) = true := by decide +kernel

def w_FlitsAreAcceptedInSequence_2_s : State := (put s0 [(F.IXG_STAT_STATE, [2, 1, 0]), (F.IXG_STAT_STATE, [2, 0, 0])]).setIxp 0 0 { IxPort.init with replay := [rdFlit 3], redo := 1 }
def w_FlitsAreAcceptedInSequence_2_g : Nat := rdFlit 3 ^^^ 2 ^ 40
theorem test_w_FlitsAreAcceptedInSequence_2 : w_FlitsAreAcceptedInSequence_2_s.ixPeer 1 0 = some (0, 0) ∧
    0 ≠ 1 ∧
    0 < 5 ∧
    w_FlitsAreAcceptedInSequence_2_s.rf F.IXG_STAT_STATE 1 0 = 2 ∧
    w_FlitsAreAcceptedInSequence_2_s.rf F.IXG_STAT_STATE 0 0 = 2 ∧
    0 < (w_FlitsAreAcceptedInSequence_2_s.ixp 0 0).redo ∧
    (w_FlitsAreAcceptedInSequence_2_s.ixp 0 0).replay[(w_FlitsAreAcceptedInSequence_2_s.ixp 0 0).replay.length - (w_FlitsAreAcceptedInSequence_2_s.ixp 0 0).redo]? = some (rdFlit 3) ∧
    flitGood w_FlitsAreAcceptedInSequence_2_g = false ∧
    (w_FlitsAreAcceptedInSequence_2_s.ixp 1 0).err = none ∧
    1 < w_FlitsAreAcceptedInSequence_2_s.rf F.IXG_CTL_REPLAY_LIMIT 1 0 ∧
    (w_FlitsAreAcceptedInSequence_2_s.ixp 0 0).run < 126 ∧
    (w_FlitsAreAcceptedInSequence_2_s.ixp 0 0).unacked < 16 ∧
    (w_FlitsAreAcceptedInSequence_2_s.ixp 1 0).run < 127 ∧
    (w_FlitsAreAcceptedInSequence_2_s.ixp 1 0).unacked < 16 := by decide +kernel

def w_FlitsAreAcceptedInSequence_3_s : State := (put s0 [(F.IXG_STAT_STATE, [2, 1, 0])]).setIxp 1 0 { IxPort.init with err := some 5, naks := 1 }
theorem test_w_FlitsAreAcceptedInSequence_3 : (w_FlitsAreAcceptedInSequence_3_s.ixp 1 0).err = some 5 ∧
    w_FlitsAreAcceptedInSequence_3_s.rf F.IXG_STAT_STATE 1 0 = 2 ∧
    (w_FlitsAreAcceptedInSequence_3_s.ixp 1 0).naks + 1 < w_FlitsAreAcceptedInSequence_3_s.rf F.IXG_CTL_REPLAY_LIMIT 1 0 := by decide +kernel

def w_FlitsAreAcceptedInSequence_4_s : State := (put s0 [(F.IXG_STAT_STATE, [2, 1, 0]), (F.IXG_STAT_NEXT_SEQ, [4, 1, 0])]).setIxp 1 0 { IxPort.init with replay := [rdFlit 3], ackNext := 3 }
theorem test_w_FlitsAreAcceptedInSequence_4 : w_FlitsAreAcceptedInSequence_4_s.ixPeer 1 0 = some (0, 0) ∧
    0 ≠ 1 ∧
    w_FlitsAreAcceptedInSequence_4_s.rf F.IXG_STAT_STATE 1 0 = 2 ∧
    (w_FlitsAreAcceptedInSequence_4_s.ixp 1 0).initSeen = false ∧
    (3 + 1 + 256 - (w_FlitsAreAcceptedInSequence_4_s.ixp 1 0).ackNext) % 256 ≤ (w_FlitsAreAcceptedInSequence_4_s.rf F.IXG_STAT_NEXT_SEQ 1 0 + 256 - (w_FlitsAreAcceptedInSequence_4_s.ixp 1 0).ackNext) % 256 := by decide +kernel

def w_FlitsAreAcceptedInSequence_5_s : State := (put s0 [(F.IXG_STAT_STATE, [2, 1, 0]), (F.IXG_STAT_STATE, [2, 0, 0]), (F.IXG_STAT_NEXT_SEQ, [255, 0, 0])]).setIxp 0 0 { IxPort.init with initSeen := true, cred := [1, 1, 1, 1], ackNext := 255 } |>.setIxp 1 0 { IxPort.init with rxNext := 255, unacked := 15 }
theorem test_w_FlitsAreAcceptedInSequence_5 : w_FlitsAreAcceptedInSequence_5_s.ixPeer 1 0 = some (0, 0) ∧
    0 ≠ 1 ∧
    1 < 5 ∧
    0 < 5 ∧
    w_FlitsAreAcceptedInSequence_5_s.rf F.IXG_STAT_STATE 1 0 = 2 ∧
    w_FlitsAreAcceptedInSequence_5_s.rf F.IXG_STAT_STATE 0 0 = 2 ∧
    (w_FlitsAreAcceptedInSequence_5_s.ixp 0 0).replay = [] ∧
    (w_FlitsAreAcceptedInSequence_5_s.ixp 0 0).folded = [] ∧
    flitSeq (rdFlit 255) = w_FlitsAreAcceptedInSequence_5_s.rf F.IXG_STAT_NEXT_SEQ 0 0 ∧
    (w_FlitsAreAcceptedInSequence_5_s.ixp 0 0).initSeen = true ∧
    (w_FlitsAreAcceptedInSequence_5_s.ixp 0 0).ackNext = w_FlitsAreAcceptedInSequence_5_s.rf F.IXG_STAT_NEXT_SEQ 0 0 ∧
    (w_FlitsAreAcceptedInSequence_5_s.ixp 0 0).redo = 0 ∧
    (w_FlitsAreAcceptedInSequence_5_s.ixp 0 0).run < 126 ∧
    (w_FlitsAreAcceptedInSequence_5_s.ixp 0 0).unacked < 16 ∧
    (w_FlitsAreAcceptedInSequence_5_s.ixp 1 0).unacked = 15 ∧
    0 < (w_FlitsAreAcceptedInSequence_5_s.ixp 0 0).cred.getD (flitVc (rdFlit 255)) 0 ∧
    flitGood (rdFlit 255) = true ∧
    flitSeq (rdFlit 255) = (w_FlitsAreAcceptedInSequence_5_s.ixp 1 0).rxNext ∧
    (w_FlitsAreAcceptedInSequence_5_s.ixp 1 0).err = none ∧
    (w_FlitsAreAcceptedInSequence_5_s.ixp 1 0).rxPart = [] ∧
    flitFmt (rdFlit 255) = 1 ∧
    flitCount (flitCmd (rdFlit 255)) = some 1 ∧
    opOnVc (bits (flitCmd (rdFlit 255)) 47 44) (flitVc (rdFlit 255)) = true := by decide +kernel

def w_FlitsAreAcceptedInSequence_6_s : State := put s0 [(F.IXG_STAT_STATE, [2, 1, 0])]
def w_FlitsAreAcceptedInSequence_6_cred : List Nat := []
def w_FlitsAreAcceptedInSequence_6_size : List Nat := []
theorem test_w_FlitsAreAcceptedInSequence_6 : (w_FlitsAreAcceptedInSequence_6_s.ixPeer 1 0).isSome = true ∧
    w_FlitsAreAcceptedInSequence_6_s.rf F.IXG_STAT_STATE 1 0 = 2 ∧
    w_FlitsAreAcceptedInSequence_6_s.rf F.IXG_CRC_CNT_COUNT 1 0 < 2 ^ F.IXG_CRC_CNT_COUNT.width - 1 := by decide +kernel

def w_BundlesTrainSwapAndRetire_1_s : State := (put s0 [(F.IXG_STAT_STATE, [1, 1, 0])]).setIxp 1 0 { IxPort.init with capLast := s0.capLocal 0 0, capCount := 2 }
def w_BundlesTrainSwapAndRetire_1_w : Nat := s0.capLocal 0 0
def w_BundlesTrainSwapAndRetire_1_crc : Nat := crc16 (2 ^ 48 + s0.capLocal 0 0) 56
theorem test_w_BundlesTrainSwapAndRetire_1 : w_BundlesTrainSwapAndRetire_1_s.ixPeer 1 0 = some (0, 0) ∧
    w_BundlesTrainSwapAndRetire_1_s.rf F.IXG_STAT_STATE 1 0 = 1 ∧
    (w_BundlesTrainSwapAndRetire_1_s.ixp 1 0).capLast = w_BundlesTrainSwapAndRetire_1_w ∧
    2 ≤ (w_BundlesTrainSwapAndRetire_1_s.ixp 1 0).capCount ∧
    (w_BundlesTrainSwapAndRetire_1_s.ixp 1 0).fromReset = true ∧
    capsAgree (w_BundlesTrainSwapAndRetire_1_s.capLocal 1 0) w_BundlesTrainSwapAndRetire_1_w = true ∧
    sbGood 1 w_BundlesTrainSwapAndRetire_1_w w_BundlesTrainSwapAndRetire_1_crc = true := by decide +kernel

def w_BundlesTrainSwapAndRetire_2_s : State := (put s0 [(F.IXG_STAT_STATE, [1, 1, 0])]).setIxp 1 0 { IxPort.init with capDone := true } |>.setIxp 0 0 { IxPort.init with capDone := true }
def w_BundlesTrainSwapAndRetire_2_ma : Nat := (buildMap [] [66, 3] []).getD 0
def w_BundlesTrainSwapAndRetire_2_r : TrainResult := ⟨[66, 3], [], 1, 0⟩
theorem test_w_BundlesTrainSwapAndRetire_2 : w_BundlesTrainSwapAndRetire_2_s.ixPeer 1 0 = some (0, 0) ∧
    0 ≠ 1 ∧
    w_BundlesTrainSwapAndRetire_2_s.rf F.IXG_STAT_STATE 1 0 = 1 ∧
    (w_BundlesTrainSwapAndRetire_2_s.ixp 1 0).trained = false ∧
    (w_BundlesTrainSwapAndRetire_2_s.ixp 1 0).swap = none ∧
    (w_BundlesTrainSwapAndRetire_2_s.ixp 1 0).capDone = true ∧
    (w_BundlesTrainSwapAndRetire_2_s.ixp 0 0).capDone = true ∧
    w_BundlesTrainSwapAndRetire_2_s.trainedMap 1 0 w_BundlesTrainSwapAndRetire_2_r.badA = some w_BundlesTrainSwapAndRetire_2_ma ∧
    w_BundlesTrainSwapAndRetire_2_s.trainedMap 0 0 w_BundlesTrainSwapAndRetire_2_r.badB = some 0x3F9FCFE7F ∧
    w_BundlesTrainSwapAndRetire_2_r.clkA ≠ 2 ∧
    w_BundlesTrainSwapAndRetire_2_r.clkB ≠ 2 := by decide +kernel

def w_BundlesTrainSwapAndRetire_3_s : State := s0.setIxp 1 0 { IxPort.init with trained := true, fromReset := false } |>.setIxp 0 0 { IxPort.init with ready := true }
def w_BundlesTrainSwapAndRetire_3_crc : Nat := crc16 (3 * 2 ^ 48) 56
theorem test_w_BundlesTrainSwapAndRetire_3 : w_BundlesTrainSwapAndRetire_3_s.ixPeer 1 0 = some (0, 0) ∧
    0 ≠ 1 ∧
    (w_BundlesTrainSwapAndRetire_3_s.ixp 1 0).swap = none ∧
    (w_BundlesTrainSwapAndRetire_3_s.ixp 1 0).trained = true ∧
    sbGood 3 0 w_BundlesTrainSwapAndRetire_3_crc = true ∧
    (w_BundlesTrainSwapAndRetire_3_s.ixp 0 0).ready = true ∧
    (w_BundlesTrainSwapAndRetire_3_s.ixp 1 0).fromReset = false ∧
    (w_BundlesTrainSwapAndRetire_3_s.ixp 1 0).later = [] ∧
    (w_BundlesTrainSwapAndRetire_3_s.ixp 0 0).later = [] := by decide +kernel

def w_BundlesTrainSwapAndRetire_4_s : State := s0
def w_BundlesTrainSwapAndRetire_4_crc : Nat := crc16 (2 * 2 ^ 48 + 2 ^ 36 + 7) 56
theorem test_w_BundlesTrainSwapAndRetire_4 : w_BundlesTrainSwapAndRetire_4_s.ixPeer 1 0 = some (0, 0) ∧
    0 ≠ 1 ∧
    (w_BundlesTrainSwapAndRetire_4_s.ixp 0 0).swap = none ∧
    sbGood 2 (2 ^ 36 + 7) w_BundlesTrainSwapAndRetire_4_crc = true := by decide +kernel

def w_BundlesTrainSwapAndRetire_5_s : State := s0
def w_BundlesTrainSwapAndRetire_5_crc : Nat := crc16 (4 * 2 ^ 48 + 135) 56
theorem test_w_BundlesTrainSwapAndRetire_5 : w_BundlesTrainSwapAndRetire_5_s.ixPeer 1 0 = some (0, 0) ∧
    sbGood 4 (7 + 128 * 1) w_BundlesTrainSwapAndRetire_5_crc = true := by decide +kernel

def w_BundlesTrainSwapAndRetire_6_s : State := put s0 [(F.IXG_STAT_STATE, [2, 1, 0])]
def w_BundlesTrainSwapAndRetire_6_crc : Nat := crc16 (5 * 2 ^ 48) 56
theorem test_w_BundlesTrainSwapAndRetire_6 : w_BundlesTrainSwapAndRetire_6_s.ixPeer 1 0 = some (0, 0) ∧
    0 ≠ 1 ∧
    (w_BundlesTrainSwapAndRetire_6_s.ixp 1 0).swap = none ∧
    (w_BundlesTrainSwapAndRetire_6_s.ixp 0 0).swap = none ∧
    w_BundlesTrainSwapAndRetire_6_s.rf F.IXG_STAT_STATE 1 0 = 2 ∧
    sbGood 5 0 w_BundlesTrainSwapAndRetire_6_crc = true := by decide +kernel

def w_BundlesTrainSwapAndRetire_7_s : State := s0.setIxp 1 2 { IxPort.init with replay := [rdFlit 0] }
def w_BundlesTrainSwapAndRetire_7_crc : Nat := crc16 (6 * 2 ^ 48 + 1024) 56
theorem test_w_BundlesTrainSwapAndRetire_7 : w_BundlesTrainSwapAndRetire_7_s.ixPeer 1 0 = some (0, 0) ∧
    ((w_BundlesTrainSwapAndRetire_7_s.pairPorts 1 0).find? fun x => bundleIndex 1 x == 2) = some 2 ∧
    2 ≠ 0 ∧
    sbGood 6 (0 + 512 * 2) w_BundlesTrainSwapAndRetire_7_crc = true := by decide +kernel

def w_BundlesTrainSwapAndRetire_8_s : State := put s0 [(F.IXG_STAT_STATE, [0, 1, 0]), (F.IXG_CTL_EN, [1, 1, 0])]
theorem test_w_BundlesTrainSwapAndRetire_8 : w_BundlesTrainSwapAndRetire_8_s.ixPeer 1 0 = some (0, 0) ∧
    0 ≠ 1 ∧
    (w_BundlesTrainSwapAndRetire_8_s.ixp 1 0).swap = none ∧
    (w_BundlesTrainSwapAndRetire_8_s.ixp 0 0).swap = none ∧
    w_BundlesTrainSwapAndRetire_8_s.rf F.IXG_STAT_STATE 1 0 = 0 ∧
    w_BundlesTrainSwapAndRetire_8_s.rf F.IXG_CTL_EN 1 0 = 1 := by decide +kernel

def w_BundlesTrainSwapAndRetire_9_s : State := put s0 [(F.IXG_STAT_STATE, [2, 1, 0])]
def w_BundlesTrainSwapAndRetire_9_w : TWord := dataWord 0x10001
theorem test_w_BundlesTrainSwapAndRetire_9 : w_BundlesTrainSwapAndRetire_9_s.ixPeer 1 0 = some (0, 0) ∧
    0 ≠ 1 ∧
    (w_BundlesTrainSwapAndRetire_9_s.ixp 1 0).swap = none ∧
    (w_BundlesTrainSwapAndRetire_9_s.ixp 0 0).swap = none ∧
    w_BundlesTrainSwapAndRetire_9_w.tag.toNat < 2 ∧
    bit w_BundlesTrainSwapAndRetire_9_w.data.toNat 17 = false ∧
    bit w_BundlesTrainSwapAndRetire_9_w.data.toNat 16 = true ∧
    bit w_BundlesTrainSwapAndRetire_9_w.data.toNat 0 = true ∧
    w_BundlesTrainSwapAndRetire_9_s.rf F.IXG_STAT_STATE 1 0 = 2 := by decide +kernel

def w_BundlesTrainSwapAndRetire_10_s : State := put s0 [(F.IXG_STAT_STATE, [2, 1, 0]), (F.IXG_CTL_EN, [1, 1, 1]), (F.IXG_STAT_STATE, [2, 1, 1])]
def w_BundlesTrainSwapAndRetire_10_w : TWord := dataWord 0x20001
theorem test_w_BundlesTrainSwapAndRetire_10 : w_BundlesTrainSwapAndRetire_10_s.ixPeer 1 0 = some (0, 0) ∧
    0 ≠ 1 ∧
    w_BundlesTrainSwapAndRetire_10_w.tag.toNat < 2 ∧
    bit w_BundlesTrainSwapAndRetire_10_w.data.toNat 17 = true ∧
    w_BundlesTrainSwapAndRetire_10_s.survivors 1 0 ≠ [] ∧
    w_BundlesTrainSwapAndRetire_10_s.rf F.IXG_STAT_STATE 1 0 ≠ 4 := by decide +kernel

def w_DramPerformsAtAcceptance_1_s : State := (put s0 [(F.DRAM_STAT_STATE, [2, 0, 0])]).setDram 0 { Dram.init with hub := [rdTxn 1 1 0x100000008], filled := 1 }
def w_DramPerformsAtAcceptance_1_x : Txn := rdTxn 1 1 0x100000008
theorem test_w_DramPerformsAtAcceptance_1 : (w_DramPerformsAtAcceptance_1_s.dram 0).hub[0]? = some w_DramPerformsAtAcceptance_1_x ∧
    orderedAt (w_DramPerformsAtAcceptance_1_s.dram 0).hub 0 w_DramPerformsAtAcceptance_1_x = true ∧
    w_DramPerformsAtAcceptance_1_s.dramRoom 0 w_DramPerformsAtAcceptance_1_x = true ∧
    isReq w_DramPerformsAtAcceptance_1_x = true := by decide +kernel

def w_DramPerformsAtAcceptance_2_s : State := (put s0 [(F.DRAM_STAT_STATE, [2, 0, 0])]).setDram 0 { Dram.init with hub := [wrTxn 1 1 0x100000FFE [dataWord 7, noWord]], filled := 3 }
def w_DramPerformsAtAcceptance_2_x : Txn := wrTxn 1 1 0x100000FFE [dataWord 7, noWord]
theorem test_w_DramPerformsAtAcceptance_2 : (w_DramPerformsAtAcceptance_2_s.dram 0).hub[0]? = some w_DramPerformsAtAcceptance_2_x ∧
    orderedAt (w_DramPerformsAtAcceptance_2_s.dram 0).hub 0 w_DramPerformsAtAcceptance_2_x = true ∧
    w_DramPerformsAtAcceptance_2_s.dramRoom 0 w_DramPerformsAtAcceptance_2_x = true ∧
    w_DramPerformsAtAcceptance_2_x.op = .write ∧
    w_DramPerformsAtAcceptance_2_x.words.length = w_DramPerformsAtAcceptance_2_x.len ∧
    w_DramPerformsAtAcceptance_2_s.rb F.PROT_FLIP_CTL_ARM 0 = false ∧
    w_DramPerformsAtAcceptance_2_s.dramKey 0 (addrLocal w_DramPerformsAtAcceptance_2_x.addr - dramBase 0) = none ∧
    ((∀ u, (addrLocal w_DramPerformsAtAcceptance_2_x.addr - dramBase 0) / 4096 ≤ u → u ≤ (addrLocal w_DramPerformsAtAcceptance_2_x.addr - dramBase 0 + w_DramPerformsAtAcceptance_2_x.len) / 4096 → w_DramPerformsAtAcceptance_2_s.unitFilled 0 u = true)) := by decide +kernel

def w_DramPerformsAtAcceptance_3_s : State := (put s0 [(F.DRAM_STAT_STATE, [2, 0, 1])]).setDram 1 { Dram.init with hub := [wrTxn 1 1 0x200001FFF [dataWord 7]] } |>.putWord 0 0x200001003 (dataWord 9)
def w_DramPerformsAtAcceptance_3_x : Txn := wrTxn 1 1 0x200001FFF [dataWord 7]
def w_DramPerformsAtAcceptance_3_v : TWord := dataWord 7
theorem test_w_DramPerformsAtAcceptance_3 : (w_DramPerformsAtAcceptance_3_s.dram 1).hub[0]? = some w_DramPerformsAtAcceptance_3_x ∧
    orderedAt (w_DramPerformsAtAcceptance_3_s.dram 1).hub 0 w_DramPerformsAtAcceptance_3_x = true ∧
    w_DramPerformsAtAcceptance_3_s.dramRoom 1 w_DramPerformsAtAcceptance_3_x = true ∧
    w_DramPerformsAtAcceptance_3_x.op = .write ∧
    w_DramPerformsAtAcceptance_3_x.words = [w_DramPerformsAtAcceptance_3_v] ∧
    w_DramPerformsAtAcceptance_3_x.len = 1 ∧
    w_DramPerformsAtAcceptance_3_s.rb F.PROT_FLIP_CTL_ARM 0 = false ∧
    addrLocal w_DramPerformsAtAcceptance_3_x.addr = dramBase 1 + 0x1FFF ∧
    w_DramPerformsAtAcceptance_3_s.unitFilled 1 (0x1FFF / 4096) = false ∧
    w_DramPerformsAtAcceptance_3_s.dramKey 1 0x1FFF = none ∧
    w_DramPerformsAtAcceptance_3_s.dramKey 1 (0x1FFF / 4096 * 4096) = none ∧
    w_DramPerformsAtAcceptance_3_s.rf F.DRAM_DEMAND_FILL_CNT_COUNT 0 1 < 2 ^ 32 - 1 := by decide +kernel

def w_DramPerformsAtAcceptance_4_s : State := s0.setDram 0 { Dram.init with acc := [⟨rdTxn 1 1 0x100000009, 8, (List.range 8).map fun i => some ⟨dataWord i, checkOf (dataWord i) (0x100000008 + i)⟩, [none], false, [], []⟩] }
def w_DramPerformsAtAcceptance_4_a : DramAcc := ⟨rdTxn 1 1 0x100000009, 8, (List.range 8).map fun i => some ⟨dataWord i, checkOf (dataWord i) (0x100000008 + i)⟩, [none], false, [], []⟩
def w_DramPerformsAtAcceptance_4_v : TWord := dataWord 1
theorem test_w_DramPerformsAtAcceptance_4 : (w_DramPerformsAtAcceptance_4_s.dram 0).acc[0]? = some w_DramPerformsAtAcceptance_4_a ∧
    w_DramPerformsAtAcceptance_4_a.todo = [] ∧
    isReq w_DramPerformsAtAcceptance_4_a.txn = true ∧
    w_DramPerformsAtAcceptance_4_a.txn.len = 1 ∧
    addrLocal w_DramPerformsAtAcceptance_4_a.txn.addr = dramBase 0 + 9 ∧
    w_DramPerformsAtAcceptance_4_a.first = 9 / 8 * 8 ∧
    w_DramPerformsAtAcceptance_4_a.keys = [none] ∧
    w_DramPerformsAtAcceptance_4_a.odd.getD (9 - 9 / 8 * 8) false = false ∧
    w_DramPerformsAtAcceptance_4_a.cells.getD (9 - 9 / 8 * 8) none = some ⟨w_DramPerformsAtAcceptance_4_v, checkOf w_DramPerformsAtAcceptance_4_v (dramBase 0 + 9)⟩ := by decide +kernel

def w_DramPerformsAtAcceptance_5_s : State := s0.setDram 0 { Dram.init with acc := [⟨rdTxn 1 1 0x100000009, 8, [none], [none], false, [], []⟩] }
def w_DramPerformsAtAcceptance_5_a : DramAcc := ⟨rdTxn 1 1 0x100000009, 8, [none], [none], false, [], []⟩
theorem test_w_DramPerformsAtAcceptance_5 : (w_DramPerformsAtAcceptance_5_s.dram 0).acc[0]? = some w_DramPerformsAtAcceptance_5_a ∧
    w_DramPerformsAtAcceptance_5_a.todo = [] ∧
    isReq w_DramPerformsAtAcceptance_5_a.txn = true ∧
    w_DramPerformsAtAcceptance_5_a.txn.len = 1 ∧
    addrLocal w_DramPerformsAtAcceptance_5_a.txn.addr = dramBase 0 + 9 ∧
    w_DramPerformsAtAcceptance_5_a.first = 9 / 8 * 8 ∧
    w_DramPerformsAtAcceptance_5_a.keys = [none] ∧
    w_DramPerformsAtAcceptance_5_a.cells.getD (9 - 9 / 8 * 8) none = none := by decide +kernel

def w_DramPerformsAtAcceptance_6_s : State := s0.setDram 0 { Dram.init with acc := [⟨wrTxn 1 1 0x100000009 [noWord], 9, [], [], false, [], []⟩] }
def w_DramPerformsAtAcceptance_6_a : DramAcc := ⟨wrTxn 1 1 0x100000009 [noWord], 9, [], [], false, [], []⟩
theorem test_w_DramPerformsAtAcceptance_6 : (w_DramPerformsAtAcceptance_6_s.dram 0).acc[0]? = some w_DramPerformsAtAcceptance_6_a ∧
    w_DramPerformsAtAcceptance_6_a.todo = [] ∧
    isReq w_DramPerformsAtAcceptance_6_a.txn = false := by decide +kernel

def w_DramPerformsAtAcceptance_7_s : State := (put s0 [(F.DRAM_SCHED_MODE, [1, 0, 0])]).setDram 0 { Dram.init with acc := [⟨wrTxn 1 1 0x100000009 [noWord], 9, [], [], false, [], []⟩] }
def w_DramPerformsAtAcceptance_7_a : DramAcc := ⟨wrTxn 1 1 0x100000009 [noWord], 9, [], [], false, [], []⟩
theorem test_w_DramPerformsAtAcceptance_7 : (w_DramPerformsAtAcceptance_7_s.dram 0).acc[0]? = some w_DramPerformsAtAcceptance_7_a ∧
    w_DramPerformsAtAcceptance_7_s.rf F.DRAM_SCHED_MODE 0 0 = 1 ∧
    w_DramPerformsAtAcceptance_7_a.promoted = false ∧
    w_DramPerformsAtAcceptance_7_s.rf F.DRAM_PROMO_CNT_COUNT 0 0 < 2 ^ 32 - 1 := by decide +kernel

def w_DramPerformsAtAcceptance_8_s : State := (put s0 [(F.DRAM_STAT_STATE, [2, 0, 0]), (F.DRAM_SCRUB_SCRUB_EN, [1, 0, 0])]).setDram 0 { Dram.init with filled := 1, rows := [(3, 1)], patrol := 511 }
theorem test_w_DramPerformsAtAcceptance_8 : w_DramPerformsAtAcceptance_8_s.dramState 0 = 2 ∧
    w_DramPerformsAtAcceptance_8_s.rf F.DRAM_SCRUB_SCRUB_EN 0 0 = 1 ∧
    (w_DramPerformsAtAcceptance_8_s.dram 0).patrol / 512 < w_DramPerformsAtAcceptance_8_s.dramWords 0 / 4096 ∧
    w_DramPerformsAtAcceptance_8_s.unitFilled 0 ((w_DramPerformsAtAcceptance_8_s.dram 0).patrol / 512) = true ∧
    (w_DramPerformsAtAcceptance_8_s.dram 0).rowOpen (w_DramPerformsAtAcceptance_8_s.dramLoc 0 ((w_DramPerformsAtAcceptance_8_s.dram 0).patrol * 8)) = true ∧
    ((∀ i, i < 8 → decodeCell (w_DramPerformsAtAcceptance_8_s.cell 0 (dramBase 0 + (w_DramPerformsAtAcceptance_8_s.dram 0).patrol * 8 + i)) (dramBase 0 + (w_DramPerformsAtAcceptance_8_s.dram 0).patrol * 8 + i) = .good (w_DramPerformsAtAcceptance_8_s.cell 0 (dramBase 0 + (w_DramPerformsAtAcceptance_8_s.dram 0).patrol * 8 + i)).word)) := by decide +kernel

def w_DramPerformsAtAcceptance_9_s : State := (put s0 [(F.DRAM_STAT_STATE, [2, 0, 0])]).setDram 0 { Dram.init with acc := [⟨wrTxn 1 1 0x100000009 [noWord], 9, [], [], false, [(8, 0)], []⟩], rows := [(1, 1)] }
def w_DramPerformsAtAcceptance_9_a : DramAcc := ⟨wrTxn 1 1 0x100000009 [noWord], 9, [], [], false, [(8, 0)], []⟩
theorem test_w_DramPerformsAtAcceptance_9 : (w_DramPerformsAtAcceptance_9_s.dram 0).acc = [w_DramPerformsAtAcceptance_9_a] ∧
    w_DramPerformsAtAcceptance_9_a.todo = [(8, 0)] ∧
    isReq w_DramPerformsAtAcceptance_9_a.txn = false ∧
    w_DramPerformsAtAcceptance_9_s.dramState 0 = 2 ∧
    (w_DramPerformsAtAcceptance_9_s.dram 0).victims = [] ∧
    (w_DramPerformsAtAcceptance_9_s.dram 0).rowOpen (w_DramPerformsAtAcceptance_9_s.dramLoc 0 8) = true ∧
    (w_DramPerformsAtAcceptance_9_s.dramLoc 0 8).bank % 8 < 4 := by decide +kernel

def w_DramPerformsAtAcceptance_10_s : State := (put s0 [(F.DRAM_STAT_STATE, [2, 0, 0]), (F.DRAM_SCHED_MODE, [1, 0, 0])]).setDram 0 { Dram.init with acc := [⟨wrTxn 1 1 0x100000009 [noWord], 9, [], [], false, [(8, 0)], []⟩, ⟨wrTxn 1 1 0x100000049 [noWord], 73, [], [], true, [(72, 0)], []⟩] }
def w_DramPerformsAtAcceptance_10_e : DramEntry := ⟨1, 72, w_DramPerformsAtAcceptance_10_s.dramLoc 0 72, false, 0, 4⟩
def w_DramPerformsAtAcceptance_10_f : DramEntry := ⟨0, 8, w_DramPerformsAtAcceptance_10_s.dramLoc 0 8, false, 0, w_DramPerformsAtAcceptance_10_s.dramClass 0 (wrTxn 1 1 0x100000009 [noWord])⟩
theorem test_w_DramPerformsAtAcceptance_10 : w_DramPerformsAtAcceptance_10_s.dramPick 0 = some w_DramPerformsAtAcceptance_10_e ∧
    w_DramPerformsAtAcceptance_10_s.rf F.DRAM_SCHED_MODE 0 0 = 1 ∧
    w_DramPerformsAtAcceptance_10_f ∈ w_DramPerformsAtAcceptance_10_s.dramReady 0 := by decide +kernel

def w_DramPerformsAtAcceptance_11_s : State := (put s0 [(F.DRAM_STAT_STATE, [2, 0, 0]), (F.DRAM_SCHED_MODE, [0, 0, 0])]).setDram 0 { Dram.init with acc := [⟨wrTxn 1 1 0x100000009 [noWord], 9, [], [], false, [(8, 15)], []⟩, ⟨wrTxn 1 1 0x100002009 [noWord], 8201, [], [], false, [(8, 0)], []⟩], rows := [(1, 1)] }
def w_DramPerformsAtAcceptance_11_e : DramEntry := ⟨0, 8, w_DramPerformsAtAcceptance_11_s.dramLoc 0 8, true, 15, w_DramPerformsAtAcceptance_11_s.dramClass 0 (wrTxn 1 1 0x100000009 [noWord])⟩
def w_DramPerformsAtAcceptance_11_f : DramEntry := ⟨0, 8, w_DramPerformsAtAcceptance_11_s.dramLoc 0 8, true, 15, w_DramPerformsAtAcceptance_11_s.dramClass 0 (wrTxn 1 1 0x100000009 [noWord])⟩
theorem test_w_DramPerformsAtAcceptance_11 : w_DramPerformsAtAcceptance_11_s.dramPick 0 = some w_DramPerformsAtAcceptance_11_e ∧
    w_DramPerformsAtAcceptance_11_s.rf F.DRAM_SCHED_MODE 0 0 = 0 ∧
    w_DramPerformsAtAcceptance_11_f ∈ w_DramPerformsAtAcceptance_11_s.dramReady 0 ∧
    bankKey w_DramPerformsAtAcceptance_11_f.loc = bankKey w_DramPerformsAtAcceptance_11_e.loc ∧
    w_DramPerformsAtAcceptance_11_s.rf F.DRAM_SCHED_HIT_CAP 0 0 ≤ w_DramPerformsAtAcceptance_11_f.passed := by decide +kernel

def w_DramTrainsAndRetires_1_s : State := ((s0.ww .DRAM_TIM_0 (2 ^ 48 - 1) 0 0).ww .DRAM_TIM_1 (2 ^ 48 - 1) 0 0).ww .DRAM_TIM_2 (2 ^ 48 - 1) 0 0
def w_DramTrainsAndRetires_1_w : TWord := dataWord 0x71
theorem test_w_DramTrainsAndRetires_1 : ((w_DramTrainsAndRetires_1_s.dramState 0 = 0 ∨ w_DramTrainsAndRetires_1_s.dramState 0 = 5)) ∧
    w_DramTrainsAndRetires_1_s.rf F.DRAM_CTL_EN 0 0 = 0 ∧
    w_DramTrainsAndRetires_1_s.timingsSet 0 = true ∧
    w_DramTrainsAndRetires_1_w.tag.toNat < 2 ∧
    bit w_DramTrainsAndRetires_1_w.data.toNat 0 = true := by decide +kernel

def w_DramTrainsAndRetires_2_s : State := s0
def w_DramTrainsAndRetires_2_w : TWord := dataWord 0x71
theorem test_w_DramTrainsAndRetires_2 : ((w_DramTrainsAndRetires_2_s.dramState 1 = 0 ∨ w_DramTrainsAndRetires_2_s.dramState 1 = 5)) ∧
    w_DramTrainsAndRetires_2_s.rf F.DRAM_CTL_EN 0 1 = 0 ∧
    w_DramTrainsAndRetires_2_s.timingsSet 1 = false ∧
    w_DramTrainsAndRetires_2_w.tag.toNat < 2 ∧
    bit w_DramTrainsAndRetires_2_w.data.toNat 0 = true := by decide +kernel

def w_DramTrainsAndRetires_3_s : State := put s0 [(F.DRAM_STAT_STATE, [1, 0, 0])]
theorem test_w_DramTrainsAndRetires_3 : w_DramTrainsAndRetires_3_s.dramState 0 = 1 ∧
    true = true := by decide +kernel

def w_DramTrainsAndRetires_4_s : State := (put s0 [(F.DRAM_STAT_STATE, [1, 0, 0])]).setDram 0 { Dram.init with trainFails := 1 }
theorem test_w_DramTrainsAndRetires_4 : w_DramTrainsAndRetires_4_s.dramState 0 = 1 ∧
    (w_DramTrainsAndRetires_4_s.dram 0).trainFails < 2 := by decide +kernel

def w_DramTrainsAndRetires_5_s : State := (put s0 [(F.DRAM_STAT_STATE, [1, 0, 0])]).setDram 0 { Dram.init with trainFails := 2 }
theorem test_w_DramTrainsAndRetires_5 : w_DramTrainsAndRetires_5_s.dramState 0 = 1 ∧
    2 ≤ (w_DramTrainsAndRetires_5_s.dram 0).trainFails ∧
    (w_DramTrainsAndRetires_5_s.dram 0).acc = [] ∧
    (w_DramTrainsAndRetires_5_s.dram 0).hub = [] := by decide +kernel

def w_DramTrainsAndRetires_6_s : State := put s0 [(F.DRAM_STAT_STATE, [2, 0, 0]), (F.DRAM_CTL_EN, [1, 0, 0])]
def w_DramTrainsAndRetires_6_w : TWord := dataWord 0x81
theorem test_w_DramTrainsAndRetires_6 : w_DramTrainsAndRetires_6_s.dramState 0 = 2 ∧
    w_DramTrainsAndRetires_6_s.rf F.DRAM_CTL_EN 0 0 = 1 ∧
    w_DramTrainsAndRetires_6_w.tag.toNat < 2 ∧
    bit w_DramTrainsAndRetires_6_w.data.toNat 0 = true ∧
    bit w_DramTrainsAndRetires_6_w.data.toNat 7 = true := by decide +kernel

def w_DramTrainsAndRetires_7_s : State := put s0 [(F.DRAM_STAT_STATE, [2, 0, 0]), (F.DRAM_CTL_EN, [1, 0, 0])]
def w_DramTrainsAndRetires_7_w : TWord := dataWord 0x101
theorem test_w_DramTrainsAndRetires_7 : ((w_DramTrainsAndRetires_7_s.dramState 0 = 2 ∨ w_DramTrainsAndRetires_7_s.dramState 0 = 3)) ∧
    w_DramTrainsAndRetires_7_s.rf F.DRAM_CTL_EN 0 0 = 1 ∧
    w_DramTrainsAndRetires_7_w.tag.toNat < 2 ∧
    bit w_DramTrainsAndRetires_7_w.data.toNat 0 = true ∧
    bit w_DramTrainsAndRetires_7_w.data.toNat 7 = false := by decide +kernel

def w_DramTrainsAndRetires_7a_s : State := put s0 [(F.DRAM_STAT_STATE, [3, 0, 0]), (F.DRAM_CTL_EN, [1, 0, 0])]
def w_DramTrainsAndRetires_7a_w : TWord := dataWord 0x001
theorem test_w_DramTrainsAndRetires_7a : ((w_DramTrainsAndRetires_7a_s.dramState 0 = 2 ∨ w_DramTrainsAndRetires_7a_s.dramState 0 = 3)) ∧
    w_DramTrainsAndRetires_7a_s.rf F.DRAM_CTL_EN 0 0 = 1 ∧
    w_DramTrainsAndRetires_7a_w.tag.toNat < 2 ∧
    bit w_DramTrainsAndRetires_7a_w.data.toNat 0 = true ∧
    bit w_DramTrainsAndRetires_7a_w.data.toNat 7 = false := by decide +kernel

def w_DramTrainsAndRetires_8_s : State := put s0 [(F.DRAM_STAT_STATE, [2, 0, 0]), (F.DRAM_CTL_SR_REQ, [1, 0, 0])]
theorem test_w_DramTrainsAndRetires_8 : w_DramTrainsAndRetires_8_s.dramState 0 = 2 ∧
    w_DramTrainsAndRetires_8_s.rf F.DRAM_CTL_SR_REQ 0 0 = 1 ∧
    (w_DramTrainsAndRetires_8_s.dram 0).acc = [] := by decide +kernel

def w_DramTrainsAndRetires_9_s : State := (put s0 [(F.DRAM_STAT_STATE, [2, 0, 0]), (F.DRAM_CTL_SR_REQ, [1, 0, 0])]).setDram 0 { Dram.init with acc := [⟨wrTxn 1 1 0x100000009 [noWord], 9, [], [], false, [], []⟩] }
theorem test_w_DramTrainsAndRetires_9 : w_DramTrainsAndRetires_9_s.dramState 0 = 2 ∧
    (w_DramTrainsAndRetires_9_s.dram 0).acc ≠ [] := by decide +kernel

def w_DramTrainsAndRetires_10_s : State := put s0 [(F.DRAM_STAT_STATE, [4, 0, 0]), (F.DRAM_CTL_RETRAIN, [1, 0, 0])]
theorem test_w_DramTrainsAndRetires_10 : ((w_DramTrainsAndRetires_10_s.dramState 0 = 2 ∨ w_DramTrainsAndRetires_10_s.dramState 0 = 4)) ∧
    w_DramTrainsAndRetires_10_s.rf F.DRAM_RETRAIN_CNT_COUNT 0 0 < 2 ^ 32 - 1 := by decide +kernel

def w_DramTrainsAndRetires_11_s : State := put s0 [(F.DRAM_STAT_STATE, [4, 0, 0]), (F.DRAM_CTL_RETRAIN, [1, 0, 0])]
theorem test_w_DramTrainsAndRetires_11 : ((w_DramTrainsAndRetires_11_s.dramState 0 = 2 ∨ w_DramTrainsAndRetires_11_s.dramState 0 = 4)) ∧
    (w_DramTrainsAndRetires_11_s.dram 0).acc = [] ∧
    (w_DramTrainsAndRetires_11_s.dram 0).hub = [] := by decide +kernel

def w_DramTrainsAndRetires_11a_s : State := (put s0 [(F.DRAM_STAT_STATE, [2, 0, 0])]).setDram 0 { Dram.init with centreFails := 1 }
theorem test_w_DramTrainsAndRetires_11a : ((w_DramTrainsAndRetires_11a_s.dramState 0 = 2 ∨ w_DramTrainsAndRetires_11a_s.dramState 0 = 4)) ∧
    (w_DramTrainsAndRetires_11a_s.dram 0).acc = [] ∧
    (w_DramTrainsAndRetires_11a_s.dram 0).hub = [] := by decide +kernel

def w_DramTrainsAndRetires_12_s : State := (put (at_ 999) [(F.DRAM_STAT_STATE, [2, 0, 0])]).setDram 0 { Dram.init with alerts := [0, 1, 2] }
theorem test_w_DramTrainsAndRetires_12 : w_DramTrainsAndRetires_12_s.dramState 0 = 2 ∧
    w_DramTrainsAndRetires_12_s.rf F.DRAM_ALERT_CNT_COUNT 0 0 < 2 ^ 32 - 1 := by decide +kernel

def w_DramRefreshesAndGuardsRows_1_s : State := (put s0 [(F.DRAM_STAT_STATE, [2, 0, 0])]).setDram 0 { Dram.init with owed := [(0, 7)], rows := [(3, 9)] }
theorem test_w_DramRefreshesAndGuardsRows_1 : ((w_DramRefreshesAndGuardsRows_1_s.dramState 0 = 2 ∨ w_DramRefreshesAndGuardsRows_1_s.dramState 0 = 4)) ∧
    0 ≤ w_DramRefreshesAndGuardsRows_1_s.rf F.DRAM_GEOM_RANKS 0 0 ∧
    (w_DramRefreshesAndGuardsRows_1_s.dram 0).waiting = false := by decide +kernel

def w_DramRefreshesAndGuardsRows_2_s : State := (put s0 [(F.DRAM_STAT_STATE, [2, 0, 0]), (F.DRAM_REF_CTL_POSTPONE, [8, 0, 0])]).setDram 0 { Dram.init with acc := [⟨wrTxn 1 1 0x100000009 [noWord], 9, [], [], false, [(8, 0)], []⟩], owed := [(0, 6)] }
theorem test_w_DramRefreshesAndGuardsRows_2 : ((w_DramRefreshesAndGuardsRows_2_s.dramState 0 = 2 ∨ w_DramRefreshesAndGuardsRows_2_s.dramState 0 = 4)) ∧
    0 ≤ w_DramRefreshesAndGuardsRows_2_s.rf F.DRAM_GEOM_RANKS 0 0 ∧
    (w_DramRefreshesAndGuardsRows_2_s.dram 0).waiting = true := by decide +kernel

def w_DramRefreshesAndGuardsRows_2a_s : State := (put s0 [(F.DRAM_STAT_STATE, [2, 0, 0]), (F.DRAM_REF_CTL_POSTPONE, [8, 0, 0])]).setDram 0 { Dram.init with acc := [⟨wrTxn 1 1 0x100000009 [noWord], 9, [], [], false, [(8, 0)], []⟩], owed := [(0, 7)] }
theorem test_w_DramRefreshesAndGuardsRows_2a : ((w_DramRefreshesAndGuardsRows_2a_s.dramState 0 = 2 ∨ w_DramRefreshesAndGuardsRows_2a_s.dramState 0 = 4)) ∧
    0 ≤ w_DramRefreshesAndGuardsRows_2a_s.rf F.DRAM_GEOM_RANKS 0 0 ∧
    (w_DramRefreshesAndGuardsRows_2a_s.dram 0).waiting = true := by decide +kernel

def w_DramRefreshesAndGuardsRows_3_s : State := s0.setDram 0 { Dram.init with victims := [(1, [(3, 4), (5, 6)])], held := [(1, [(9, 9)])], rows := [(67, 5)] }
def w_DramRefreshesAndGuardsRows_3_rest : List (Nat × Nat) := [(5, 6)]
theorem test_w_DramRefreshesAndGuardsRows_3 : mget (w_DramRefreshesAndGuardsRows_3_s.dram 0).victims 1 [] = (3, 4) :: w_DramRefreshesAndGuardsRows_3_rest ∧
    w_DramRefreshesAndGuardsRows_3_s.rf F.DRAM_VICTIM_CNT_COUNT 0 0 < 2 ^ 32 - 1 := by decide +kernel

def w_DramRefreshesAndGuardsRows_4_s : State := s0.setDram 0 { Dram.init with refs := [(0, 8192)], tables := [(5, (1, 2)), (2048, (3, 4))] }
theorem test_w_DramRefreshesAndGuardsRows_4 : 8192 ≤ mget (w_DramRefreshesAndGuardsRows_4_s.dram 0).refs 0 0 := by decide +kernel

def w_DramRefreshesAndGuardsRows_5_s : State := s0

def w_DramRefreshesAndGuardsRows_6_s : State := put s0 [(F.DRAM_TEMP_TEMP_SRC, [0, 0, 0])]
theorem test_w_DramRefreshesAndGuardsRows_6 : w_DramRefreshesAndGuardsRows_6_s.rf F.DRAM_TEMP_TEMP_SRC 0 0 = 0 := by decide +kernel

def w_DramRefreshesAndGuardsRows_6a_s : State := put s0 [(F.DRAM_TEMP_TEMP_SRC, [0, 0, 0]), (F.DRAM_STAT_HOT, [1, 0, 0])]
theorem test_w_DramRefreshesAndGuardsRows_6a : w_DramRefreshesAndGuardsRows_6a_s.rf F.DRAM_TEMP_TEMP_SRC 0 0 = 0 := by decide +kernel

def w_DramRefreshesAndGuardsRows_7_s : State := put s0 [(F.DRAM_TEMP_TEMP_SRC, [1, 0, 0])]
theorem test_w_DramRefreshesAndGuardsRows_7 : w_DramRefreshesAndGuardsRows_7_s.rf F.DRAM_TEMP_TEMP_SRC 0 0 ≠ 0 := by decide +kernel

def w_DramFillsAndHoldsKeys_1_s : State := (put s0 [(F.DRAM_STAT_STATE, [2, 0, 0])]).setDram 0 { Dram.init with filled := 3 } |>.putWord 0 0x100002001 (dataWord 4) |>.putWord 0 0x100001FFF (dataWord 4)
theorem test_w_DramFillsAndHoldsKeys_1 : w_DramFillsAndHoldsKeys_1_s.dramState 0 = 2 ∧
    2 < 2 ^ 20 - 1 ∧
    nextUnit (w_DramFillsAndHoldsKeys_1_s.dram 0).filled false (w_DramFillsAndHoldsKeys_1_s.dramWords 0 / 4096 - w_DramFillsAndHoldsKeys_1_s.rf F.DRAM_STAT_FILL_UNIT 0 0) (w_DramFillsAndHoldsKeys_1_s.rf F.DRAM_STAT_FILL_UNIT 0 0) = some 2 ∧
    w_DramFillsAndHoldsKeys_1_s.dramKey 0 (2 * 4096) = none := by decide +kernel

def w_DramFillsAndHoldsKeys_2_s : State := (put s0 [(F.DRAM_FILL_START, [1, 0, 0]), (F.DRAM_FILL_FIRST, [1, 0, 0]), (F.DRAM_FILL_LAST, [2, 0, 0])]).setDram 0 { Dram.init with filled := 15 }
theorem test_w_DramFillsAndHoldsKeys_2 : w_DramFillsAndHoldsKeys_2_s.rf F.DRAM_FILL_START 0 0 = 1 ∧
    w_DramFillsAndHoldsKeys_2_s.rf F.DRAM_FILL_FIRST 0 0 ≤ w_DramFillsAndHoldsKeys_2_s.rf F.DRAM_FILL_LAST 0 0 := by decide +kernel

def w_DramFillsAndHoldsKeys_3_s : State := put s0 [(F.DRAM_KEY_W, [5, 0, 0, 112])]
def w_DramFillsAndHoldsKeys_3_w : TWord := dataWord 2
theorem test_w_DramFillsAndHoldsKeys_3 : w_DramFillsAndHoldsKeys_3_w.tag.toNat < 2 ∧
    bit w_DramFillsAndHoldsKeys_3_w.data.toNat 1 = true ∧
    ((∀ j, j < 16 → w_DramFillsAndHoldsKeys_3_s.rf F.DRAM_REGION_EN 0 0 j = 1 → w_DramFillsAndHoldsKeys_3_s.rf F.DRAM_REGION_KEY 0 0 j ≠ 7)) ∧
    w_DramFillsAndHoldsKeys_3_s.stagedKey 0 7 % 2 ^ 256 ≠ w_DramFillsAndHoldsKeys_3_s.stagedKey 0 7 / 2 ^ 256 := by decide +kernel

def w_DramFillsAndHoldsKeys_4_s : State := s0
def w_DramFillsAndHoldsKeys_4_w : TWord := dataWord 2
theorem test_w_DramFillsAndHoldsKeys_4 : w_DramFillsAndHoldsKeys_4_w.tag.toNat < 2 ∧
    bit w_DramFillsAndHoldsKeys_4_w.data.toNat 1 = true ∧
    w_DramFillsAndHoldsKeys_4_s.stagedKey 1 0 % 2 ^ 256 = w_DramFillsAndHoldsKeys_4_s.stagedKey 1 0 / 2 ^ 256 := by decide +kernel

def w_DramFillsAndHoldsKeys_5_s : State := put s0 [(F.DRAM_KEY_W, [5, 0, 0, 48]), (F.DRAM_REGION_EN, [1, 0, 0, 15]), (F.DRAM_REGION_KEY, [3, 0, 0, 15])]
def w_DramFillsAndHoldsKeys_5_w : TWord := dataWord 2
theorem test_w_DramFillsAndHoldsKeys_5 : w_DramFillsAndHoldsKeys_5_w.tag.toNat < 2 ∧
    bit w_DramFillsAndHoldsKeys_5_w.data.toNat 1 = true ∧
    15 < 16 ∧
    w_DramFillsAndHoldsKeys_5_s.rf F.DRAM_REGION_EN 0 0 15 = 1 ∧
    w_DramFillsAndHoldsKeys_5_s.rf F.DRAM_REGION_KEY 0 0 15 = 3 := by decide +kernel

def w_LanesChangePowerAndTrain_1_s : State := put s0 [(F.LANE_STAT_OWNER, [5, 0, 7]), (F.LANE_STAT_OWNER_INDEX, [3, 0, 7]), (F.LANE_STAT_PLL_LOCK, [1, 0, 7]), (F.LANE_STAT_CDR_LOCK, [1, 0, 7]), (F.LANE_STAT_PSTATE, [0, 0, 7]), (F.MAC_STAT_LINK_UP, [1, 0, 3])]
theorem test_w_LanesChangePowerAndTrain_1 : w_LanesChangePowerAndTrain_1_s.rf F.LANE_STAT_PSTATE 0 7 ≤ 2 ∧
    w_LanesChangePowerAndTrain_1_s.rf F.LANE_STAT_RETIRED 0 7 = 0 ∧
    w_LanesChangePowerAndTrain_1_s.saetteOwned 7 = false ∧
    1 ≠ 0 := by decide +kernel

def w_LanesChangePowerAndTrain_1a_s : State := put s0 [(F.LANE_STAT_PSTATE, [1, 0, 7])]
theorem test_w_LanesChangePowerAndTrain_1a : w_LanesChangePowerAndTrain_1a_s.rf F.LANE_STAT_PSTATE 0 7 ≤ 2 ∧
    w_LanesChangePowerAndTrain_1a_s.rf F.LANE_STAT_RETIRED 0 7 = 0 ∧
    w_LanesChangePowerAndTrain_1a_s.saetteOwned 7 = false ∧
    3 ≠ 0 := by decide +kernel

def w_LanesChangePowerAndTrain_2_s : State := put s0 [(F.LANE_STAT_PSTATE, [2, 0, 15])]
theorem test_w_LanesChangePowerAndTrain_2 : ((w_LanesChangePowerAndTrain_2_s.rf F.LANE_STAT_PSTATE 0 15 = 1 ∨ w_LanesChangePowerAndTrain_2_s.rf F.LANE_STAT_PSTATE 0 15 = 2)) ∧
    w_LanesChangePowerAndTrain_2_s.rf F.LANE_STAT_RETIRED 0 15 = 0 ∧
    w_LanesChangePowerAndTrain_2_s.saetteOwned 15 = false := by decide +kernel

def w_LanesChangePowerAndTrain_3_s : State := put s0 [(F.LANE_STAT_OWNER, [4, 0, 0])]
theorem test_w_LanesChangePowerAndTrain_3 : w_LanesChangePowerAndTrain_3_s.saetteOwned 0 = true := by decide +kernel

def w_LanesChangePowerAndTrain_12_s : State := (put s0 [(F.LANE_STAT_PSTATE, [4, 0, 0]), (F.LANE_CTL_TRAIN_EN, [1, 0, 0]), (F.LANE_CTL_RATE, [2, 0, 0])]).setLane 0 { Lane.init with toTrain := true }
theorem test_w_LanesChangePowerAndTrain_12 : ((w_LanesChangePowerAndTrain_12_s.rf F.LANE_STAT_PSTATE 0 0 = 3 ∨ w_LanesChangePowerAndTrain_12_s.rf F.LANE_STAT_PSTATE 0 0 = 4)) ∧
    (w_LanesChangePowerAndTrain_12_s.lane 0).want = none ∧
    (w_LanesChangePowerAndTrain_12_s.lane 0).toTrain = true ∧
    w_LanesChangePowerAndTrain_12_s.rf F.LANE_CTL_TRAIN_EN 0 0 = 1 ∧
    w_LanesChangePowerAndTrain_12_s.rf F.LANE_CTL_RATE 0 0 = 2 := by decide +kernel

def w_LanesChangePowerAndTrain_4_s : State := put s0 [(F.LANE_STAT_PSTATE, [4, 0, 0]), (F.LANE_CTL_ADAPT_EN, [1, 0, 0])]
def w_LanesChangePowerAndTrain_4_rx : Nat := 0xA00012345678
theorem test_w_LanesChangePowerAndTrain_4 : ((w_LanesChangePowerAndTrain_4_s.rf F.LANE_STAT_PSTATE 0 0 = 3 ∨ w_LanesChangePowerAndTrain_4_s.rf F.LANE_STAT_PSTATE 0 0 = 4)) ∧
    (w_LanesChangePowerAndTrain_4_s.lane 0).want = none ∧
    (w_LanesChangePowerAndTrain_4_s.lane 0).toTrain = false := by decide +kernel

def w_LanesChangePowerAndTrain_5_s : State := put s0 [(F.LANE_STAT_TRAIN_STATE, [1, 0, 0]), (F.LANE_TX_PRE, [0, 0, 0]), (F.LANE_TX_MAIN, [62, 0, 0]), (F.LANE_TX_POST, [0, 0, 0])]
theorem test_w_LanesChangePowerAndTrain_5 : w_LanesChangePowerAndTrain_5_s.rf F.LANE_STAT_TRAIN_STATE 0 0 = 1 ∧
    0 < 3 := by decide +kernel

def w_LanesChangePowerAndTrain_5a_s : State := put s0 [(F.LANE_STAT_TRAIN_STATE, [1, 0, 0]), (F.LANE_TX_PRE, [0, 0, 0]), (F.LANE_TX_MAIN, [62, 0, 0]), (F.LANE_TX_POST, [0, 0, 0])]
theorem test_w_LanesChangePowerAndTrain_5a : w_LanesChangePowerAndTrain_5a_s.rf F.LANE_STAT_TRAIN_STATE 0 0 = 1 ∧
    1 < 3 := by decide +kernel

def w_LanesChangePowerAndTrain_6_s : State := put s0 [(F.LANE_STAT_TRAIN_STATE, [1, 0, 0]), (F.LANE_TX_PRE, [0, 0, 0]), (F.LANE_TX_MAIN, [62, 0, 0]), (F.LANE_TX_POST, [0, 0, 0])]
theorem test_w_LanesChangePowerAndTrain_6 : w_LanesChangePowerAndTrain_6_s.rf F.LANE_STAT_TRAIN_STATE 0 0 = 1 ∧
    2 < 3 := by decide +kernel

def w_LanesChangePowerAndTrain_6a_s : State := put s0 [(F.LANE_STAT_TRAIN_STATE, [1, 0, 0]), (F.LANE_TX_PRE, [0, 0, 0]), (F.LANE_TX_MAIN, [24, 0, 0]), (F.LANE_TX_POST, [0, 0, 0])]
theorem test_w_LanesChangePowerAndTrain_6a : w_LanesChangePowerAndTrain_6a_s.rf F.LANE_STAT_TRAIN_STATE 0 0 = 1 ∧
    0 < 3 := by decide +kernel

def w_LanesChangePowerAndTrain_7_s : State := put s0 [(F.LANE_STAT_TRAIN_STATE, [1, 0, 0])]
theorem test_w_LanesChangePowerAndTrain_7 : w_LanesChangePowerAndTrain_7_s.rf F.LANE_STAT_TRAIN_STATE 0 0 = 1 := by decide +kernel

def w_LanesChangePowerAndTrain_8_s : State := put s0 [(F.LANE_STAT_TRAIN_STATE, [1, 0, 0])]
theorem test_w_LanesChangePowerAndTrain_8 : w_LanesChangePowerAndTrain_8_s.rf F.LANE_STAT_TRAIN_STATE 0 0 = 1 := by decide +kernel

def w_LanesChangePowerAndTrain_9_s : State := put s0 [(F.LANE_STAT_TRAIN_STATE, [1, 0, 0])]
theorem test_w_LanesChangePowerAndTrain_9 : w_LanesChangePowerAndTrain_9_s.rf F.LANE_STAT_TRAIN_STATE 0 0 = 1 := by decide +kernel

def w_LanesChangePowerAndTrain_10_s : State := put s0 [(F.LANE_STAT_TRAIN_STATE, [3, 0, 0]), (F.LANE_STAT_OWNER, [1, 0, 0]), (F.LANE_CTL_TRAIN_EN, [1, 0, 0]), (F.LANE_CTL_RATE, [2, 0, 0])]
theorem test_w_LanesChangePowerAndTrain_10 : w_LanesChangePowerAndTrain_10_s.rf F.LANE_STAT_TRAIN_STATE 0 0 = 3 ∧
    w_LanesChangePowerAndTrain_10_s.rf F.LANE_STAT_OWNER 0 0 ≠ 0 ∧
    w_LanesChangePowerAndTrain_10_s.rf F.LANE_CTL_TRAIN_EN 0 0 = 1 ∧
    w_LanesChangePowerAndTrain_10_s.rf F.LANE_CTL_RATE 0 0 = 2 := by decide +kernel

def w_LanesChangePowerAndTrain_11_s : State := (put s0 [(F.LANE_STAT_TRAIN_STATE, [1, 0, 0])]).setLane 0 { Lane.init with peerReady := true }
theorem test_w_LanesChangePowerAndTrain_11 : w_LanesChangePowerAndTrain_11_s.rf F.LANE_STAT_TRAIN_STATE 0 0 = 1 ∧
    (if false then (w_LanesChangePowerAndTrain_11_s.lane 0).rxReady else (w_LanesChangePowerAndTrain_11_s.lane 0).peerReady) = true := by decide +kernel

def w_LanesChangePowerAndTrain_4a_s : State := put s0 [(F.LANE_STAT_PSTATE, [4, 0, 0]), (F.LANE_CTL_ADAPT_EN, [0, 0, 0])]
def w_LanesChangePowerAndTrain_4a_rx : Nat := 0xA00012345678
theorem test_w_LanesChangePowerAndTrain_4a : ((w_LanesChangePowerAndTrain_4a_s.rf F.LANE_STAT_PSTATE 0 0 = 3 ∨ w_LanesChangePowerAndTrain_4a_s.rf F.LANE_STAT_PSTATE 0 0 = 4)) ∧
    (w_LanesChangePowerAndTrain_4a_s.lane 0).want = none ∧
    (w_LanesChangePowerAndTrain_4a_s.lane 0).toTrain = false := by decide +kernel

def w_LanesReportLossesAndErrors_1_s : State := put s0 [(F.LANE_STAT_PSTATE, [0, 0, 3]), (F.LANE_STAT_SIGNAL, [1, 0, 3])]
theorem test_w_LanesReportLossesAndErrors_1 : w_LanesReportLossesAndErrors_1_s.rf F.LANE_STAT_PSTATE 0 3 = 0 ∧
    w_LanesReportLossesAndErrors_1_s.rf F.LANE_STAT_SIGNAL 0 3 = 1 ∧
    w_LanesReportLossesAndErrors_1_s.rf F.LANE_LOS_CNT_COUNT 0 3 < 2 ^ 16 - 1 := by decide +kernel

def w_LanesReportLossesAndErrors_2_s : State := s0

def w_LanesReportLossesAndErrors_3_s : State := put s0 [(F.LANE_STAT_CDR_LOCK, [1, 0, 3])]
theorem test_w_LanesReportLossesAndErrors_3 : w_LanesReportLossesAndErrors_3_s.rf F.LANE_STAT_CDR_LOCK 0 3 = 1 ∧
    w_LanesReportLossesAndErrors_3_s.rf F.LANE_RELOCK_CNT_COUNT 0 3 < 2 ^ 16 - 1 := by decide +kernel

def w_LanesReportLossesAndErrors_4_s : State := put s0 [(F.LANE_STAT_PSTATE, [0, 0, 3])]
theorem test_w_LanesReportLossesAndErrors_4 : w_LanesReportLossesAndErrors_4_s.rf F.LANE_STAT_PSTATE 0 3 ≠ 2 := by decide +kernel

def w_LanesReportLossesAndErrors_5_s : State := (put (at_ 500) [(F.LANE_STAT_PSTATE, [0, 0, 3]), (F.LANE_STAT_OWNER, [5, 0, 3]), (F.LANE_STAT_OWNER_INDEX, [3, 0, 3])]).setLane 3 { Lane.init with relocks := [0, 10] }
theorem test_w_LanesReportLossesAndErrors_5 : w_LanesReportLossesAndErrors_5_s.rf F.LANE_STAT_PSTATE 0 3 ≠ 2 ∧
    2 ≤ ((w_LanesReportLossesAndErrors_5_s.lane 3).relocks.filter fun x => w_LanesReportLossesAndErrors_5_s.now < x + 1000000000).length ∧
    w_LanesReportLossesAndErrors_5_s.rf F.LANE_STAT_OWNER 0 3 = 5 := by decide +kernel

def w_LanesReportLossesAndErrors_6_s : State := put s0 [(F.LANE_STAT_PSTATE, [0, 0, 3]), (F.LANE_CTL_REF_SEL, [1, 0, 3]), (F.LANE_STAT_PSTATE, [1, 0, 4]), (F.LANE_CTL_REF_SEL, [1, 0, 4]), (F.LANE_STAT_PLL_LOCK, [1, 0, 3]), (F.LANE_STAT_PSTATE, [0, 0, 5])]

def w_LanesReportLossesAndErrors_7_s : State := put s0 [(F.LANE_STAT_PSTATE, [0, 0, 3]), (F.LANE_CTL_ADAPT_EN, [1, 0, 3])]
theorem test_w_LanesReportLossesAndErrors_7 : 1 ≤ 5 ∧
    5 ≤ 5 ∧
    w_LanesReportLossesAndErrors_7_s.rf F.LANE_STAT_PSTATE 0 3 = 0 ∧
    w_LanesReportLossesAndErrors_7_s.rf F.LANE_CTL_ADAPT_EN 0 3 = 1 := by decide +kernel

def w_LanesReportLossesAndErrors_8_s : State := (put s0 [(F.LANE_PRBS_CTL_CHK_EN, [1, 0, 3]), (F.LANE_PRBS_CTL_CHK_PAT, [0, 0, 3])]).setLane 3 { Lane.init with chk := 5, prbsRem := 255 }
def w_LanesReportLossesAndErrors_8_seed : List Bool := (({ Lane.init with gen := 5 } : Lane).generate 0 false 80).1.take 16
def w_LanesReportLossesAndErrors_8_bs : List Bool := (({ Lane.init with gen := 5 } : Lane).generate 0 false 80).1.drop 16
def w_LanesReportLossesAndErrors_8_r : PrbsRun := ((({ Lane.init with gen := 5 } : Lane).generate 0 false 80).1.foldl (prbsStep 0 false) ⟨{ Lane.init with chk := 5, prbsRem := 255 }, false, 0, 0, false⟩)
theorem test_w_LanesReportLossesAndErrors_8 : w_LanesReportLossesAndErrors_8_s.rf F.LANE_PRBS_CTL_CHK_EN 0 3 = 1 ∧
    w_LanesReportLossesAndErrors_8_s.rf F.LANE_PRBS_CTL_LOCK 0 3 = 0 ∧
    w_LanesReportLossesAndErrors_8_s.rf F.LANE_PRBS_CTL_GEN_EN 0 3 = 0 ∧
    w_LanesReportLossesAndErrors_8_s.rf F.LANE_CTL_LOOP 0 3 = 0 ∧
    w_LanesReportLossesAndErrors_8_r = (w_LanesReportLossesAndErrors_8_seed ++ w_LanesReportLossesAndErrors_8_bs).foldl (prbsStep (w_LanesReportLossesAndErrors_8_s.rf F.LANE_PRBS_CTL_CHK_PAT 0 3) (w_LanesReportLossesAndErrors_8_s.rb F.LANE_PRBS_CTL_CHK_INV 0 3)) ⟨{ w_LanesReportLossesAndErrors_8_s.lane 3 with line := none, level := [] }, false, 0, 0, false⟩ ∧
    w_LanesReportLossesAndErrors_8_s.rf F.LANE_PRBS_ERR_CNT_COUNT 0 3 + w_LanesReportLossesAndErrors_8_r.errs < 2 ^ 32 ∧
    w_LanesReportLossesAndErrors_8_s.rf F.LANE_PRBS_BIT_CNT_COUNT 0 3 + ((w_LanesReportLossesAndErrors_8_s.lane 3).prbsRem + w_LanesReportLossesAndErrors_8_r.nbits) / 256 < 2 ^ 40 := by decide +kernel

def w_LanesReportLossesAndErrors_9_s : State := (put s0 [(F.LANE_PRBS_CTL_CHK_EN, [1, 0, 3]), (F.LANE_PRBS_CTL_CHK_PAT, [0, 0, 3]), (F.LANE_PRBS_CTL_LOCK, [1, 0, 3])]).setLane 3 { Lane.init with chk := 5 }
def w_LanesReportLossesAndErrors_9_before : List Bool := []
def w_LanesReportLossesAndErrors_9_bs : List Bool := List.replicate 64 true
def w_LanesReportLossesAndErrors_9_r : PrbsRun := ((List.replicate 64 true).foldl (prbsStep 0 false) ⟨{ Lane.init with chk := 5 }, true, 0, 0, false⟩)
theorem test_w_LanesReportLossesAndErrors_9 : w_LanesReportLossesAndErrors_9_s.rf F.LANE_PRBS_CTL_CHK_EN 0 3 = 1 ∧
    w_LanesReportLossesAndErrors_9_s.rf F.LANE_PRBS_CTL_LOCK 0 3 = 1 ∧
    w_LanesReportLossesAndErrors_9_s.rf F.LANE_PRBS_CTL_GEN_EN 0 3 = 0 ∧
    w_LanesReportLossesAndErrors_9_s.rf F.LANE_CTL_LOOP 0 3 = 0 ∧
    (w_LanesReportLossesAndErrors_9_s.lane 3).run = 0 ∧
    (w_LanesReportLossesAndErrors_9_s.lane 3).errs = 0 ∧
    (w_LanesReportLossesAndErrors_9_before ++ w_LanesReportLossesAndErrors_9_bs).length = 64 ∧
    w_LanesReportLossesAndErrors_9_r = (w_LanesReportLossesAndErrors_9_before ++ w_LanesReportLossesAndErrors_9_bs).foldl (prbsStep (w_LanesReportLossesAndErrors_9_s.rf F.LANE_PRBS_CTL_CHK_PAT 0 3) (w_LanesReportLossesAndErrors_9_s.rb F.LANE_PRBS_CTL_CHK_INV 0 3)) ⟨{ w_LanesReportLossesAndErrors_9_s.lane 3 with line := none, level := [] }, true, 0, 0, false⟩ ∧
    8 < w_LanesReportLossesAndErrors_9_r.errs ∧
    w_LanesReportLossesAndErrors_9_s.rf F.LANE_PRBS_ERR_CNT_COUNT 0 3 + w_LanesReportLossesAndErrors_9_r.errs < 2 ^ 32 := by decide +kernel

def w_LanesReportLossesAndErrors_10_x : Lane := { Lane.init with chk := 2 ^ 31 - 1 }
theorem test_w_LanesReportLossesAndErrors_10 : w_LanesReportLossesAndErrors_10_x.chk ≠ 0 ∧
    w_LanesReportLossesAndErrors_10_x.chk < 2 ^ (prbsPoly 3).1 ∧
    w_LanesReportLossesAndErrors_10_x.run = 0 := by decide +kernel

def w_LanesReportLossesAndErrors_11_s : State := put s0 [(F.LANE_STAT_OWNER, [0, 0, 3])]
def w_LanesReportLossesAndErrors_11_w : TWord := dataWord 0x800000000080
theorem test_w_LanesReportLossesAndErrors_11 : w_LanesReportLossesAndErrors_11_s.rf F.LANE_STAT_OWNER 0 3 = 0 ∧
    w_LanesReportLossesAndErrors_11_w.tag.toNat < 2 ∧
    bits w_LanesReportLossesAndErrors_11_w.data.toNat 47 45 = 4 ∧
    bit w_LanesReportLossesAndErrors_11_w.data.toNat 7 = true ∧
    w_LanesReportLossesAndErrors_11_s.rf F.LANE_PRBS_CTL_INJ_BURST 0 3 = 0 := by decide +kernel

def w_LanesReportLossesAndErrors_12_s : State := put s0 [(F.LANE_STAT_OWNER, [5, 0, 3])]
def w_LanesReportLossesAndErrors_12_w : TWord := dataWord 0x7F8000000000
theorem test_w_LanesReportLossesAndErrors_12 : w_LanesReportLossesAndErrors_12_s.rf F.LANE_STAT_OWNER 0 3 ≠ 0 ∧
    w_LanesReportLossesAndErrors_12_w.tag.toNat < 2 ∧
    bits w_LanesReportLossesAndErrors_12_w.data.toNat 47 45 = 3 ∧
    bit w_LanesReportLossesAndErrors_12_w.data.toNat 7 = false ∧
    bit w_LanesReportLossesAndErrors_12_w.data.toNat 4 = false ∧
    w_LanesReportLossesAndErrors_12_s.rf F.LANE_PRBS_CTL_INJ_SINGLE 0 3 = 0 := by decide +kernel

def w_LanesReportLossesAndErrors_13_s : State := put s0 [(F.LANE_STAT_RETIRED, [1, 0, 3])]
def w_LanesReportLossesAndErrors_13_w : TWord := dataWord 0x820
theorem test_w_LanesReportLossesAndErrors_13 : w_LanesReportLossesAndErrors_13_s.rf F.LANE_STAT_RETIRED 0 3 = 1 ∧
    w_LanesReportLossesAndErrors_13_s.rf F.LANE_STAT_OWNER 0 3 = 0 ∧
    w_LanesReportLossesAndErrors_13_w.tag.toNat < 2 ∧
    bit w_LanesReportLossesAndErrors_13_w.data.toNat 11 = true := by decide +kernel

def w_LanesReportLossesAndErrors_13a_s : State := put s0 [(F.LANE_STAT_RETIRED, [1, 0, 3])]
def w_LanesReportLossesAndErrors_13a_w : TWord := dataWord 0x800
theorem test_w_LanesReportLossesAndErrors_13a : w_LanesReportLossesAndErrors_13a_s.rf F.LANE_STAT_RETIRED 0 3 = 1 ∧
    w_LanesReportLossesAndErrors_13a_s.rf F.LANE_STAT_OWNER 0 3 = 0 ∧
    w_LanesReportLossesAndErrors_13a_w.tag.toNat < 2 ∧
    bit w_LanesReportLossesAndErrors_13a_w.data.toNat 11 = true := by decide +kernel

def w_MacsSendAndReceiveFrames_1_s : State := s0
def w_MacsSendAndReceiveFrames_1_w : TWord := dataWord 0x25F0FC01
theorem test_w_MacsSendAndReceiveFrames_1 : w_MacsSendAndReceiveFrames_1_w.tag.toNat < 2 ∧
    bit w_MacsSendAndReceiveFrames_1_w.data.toNat 0 = true ∧
    w_MacsSendAndReceiveFrames_1_s.rf F.MAC_CTL_EN 0 3 = 0 ∧
    bits w_MacsSendAndReceiveFrames_1_w.data.toNat 15 12 = 15 ∧
    15 % 4 = 3 ∧
    15 < w_MacsSendAndReceiveFrames_1_s.laneCount ∧
    w_MacsSendAndReceiveFrames_1_s.rf F.LANE_STAT_OWNER 0 15 = 0 := by decide +kernel

def w_MacsSendAndReceiveFrames_2_s : State := put s0 [(F.LANE_STAT_OWNER, [1, 0, 15])]
def w_MacsSendAndReceiveFrames_2_w : TWord := dataWord 0x25F0FC01
theorem test_w_MacsSendAndReceiveFrames_2 : w_MacsSendAndReceiveFrames_2_w.tag.toNat < 2 ∧
    bit w_MacsSendAndReceiveFrames_2_w.data.toNat 0 = true ∧
    w_MacsSendAndReceiveFrames_2_s.rf F.MAC_CTL_EN 0 3 = 0 ∧
    bits w_MacsSendAndReceiveFrames_2_w.data.toNat 15 12 = 15 ∧
    15 % 4 = 3 ∧
    15 < w_MacsSendAndReceiveFrames_2_s.laneCount ∧
    w_MacsSendAndReceiveFrames_2_s.rf F.LANE_STAT_OWNER 0 15 ≠ 0 := by decide +kernel

def w_MacsSendAndReceiveFrames_3_s : State := { put s0 [(F.MAC_CTL_EN, [1, 0, 3])] with macLatFuse := [(14, 0x1234)] }
def w_MacsSendAndReceiveFrames_3_w : TWord := dataWord 0xC01
theorem test_w_MacsSendAndReceiveFrames_3 : w_MacsSendAndReceiveFrames_3_w.tag.toNat < 2 ∧
    bit w_MacsSendAndReceiveFrames_3_w.data.toNat 0 = true ∧
    w_MacsSendAndReceiveFrames_3_s.rf F.MAC_CTL_EN 0 3 = 1 := by decide +kernel

def w_MacsSendAndReceiveFrames_4_s : State := put s0 [(F.MAC_CTL_EN, [1, 0, 3]), (F.MAC_CTL_MODE, [2, 0, 3]), (F.LANE_STAT_OWNER, [5, 0, 7]), (F.LANE_STAT_OWNER_INDEX, [3, 0, 7]), (F.LANE_STAT_PSTATE, [0, 0, 7])]
theorem test_w_MacsSendAndReceiveFrames_4 : w_MacsSendAndReceiveFrames_4_s.rf F.MAC_CTL_EN 0 3 = 1 ∧
    w_MacsSendAndReceiveFrames_4_s.rf F.MAC_CTL_MODE 0 3 = 2 ∧
    w_MacsSendAndReceiveFrames_4_s.macP0 3 = true := by decide +kernel

def w_MacsSendAndReceiveFrames_5_s : State := s0.setMac 3 { Mac.init with txBuf := [noWord] }
def w_MacsSendAndReceiveFrames_5_x : Txn := wrTxn 1 1 0x0F0380FF [dataWord 5]
theorem test_w_MacsSendAndReceiveFrames_5 : w_MacsSendAndReceiveFrames_5_s.atDie 0 w_MacsSendAndReceiveFrames_5_x = true ∧
    w_MacsSendAndReceiveFrames_5_x.op = .write ∧
    0x0F038000 + 3 * 0x40 ≤ addrLocal w_MacsSendAndReceiveFrames_5_x.addr ∧
    3 < 4 ∧
    addrLocal w_MacsSendAndReceiveFrames_5_x.addr + w_MacsSendAndReceiveFrames_5_x.words.length ≤ 0x0F038000 + 3 * 0x40 + 0x40 ∧
    (w_MacsSendAndReceiveFrames_5_x.words.all fun w => w.tag.toNat < 2) = true ∧
    w_MacsSendAndReceiveFrames_5_x.words ≠ [] ∧
    (w_MacsSendAndReceiveFrames_5_s.mac 3).txBuf.length + w_MacsSendAndReceiveFrames_5_x.words.length ≤ 4096 := by decide +kernel

def w_MacsSendAndReceiveFrames_6_s : State := (put s0 [(F.MAC_CTL_EN, [1, 0, 3]), (F.MAC_STAT_LINK_UP, [1, 0, 3]), (F.MAC_CTL_MAX_FRAME, [1518, 0, 3])]).setMac 3 { Mac.init with txBuf := [dataWord 14, dataWord 0x060504030201, dataWord 7, ⟨9, tagEnd⟩, dataWord 4] }
def w_MacsSendAndReceiveFrames_6_h : TWord := dataWord 14
def w_MacsSendAndReceiveFrames_6_ws : List TWord := [dataWord 0x060504030201, dataWord 7, ⟨9, tagEnd⟩]
def w_MacsSendAndReceiveFrames_6_rest : List TWord := [dataWord 4]
theorem test_w_MacsSendAndReceiveFrames_6 : w_MacsSendAndReceiveFrames_6_s.rf F.MAC_CTL_EN 0 3 = 1 ∧
    w_MacsSendAndReceiveFrames_6_s.rf F.MAC_STAT_LINK_UP 0 3 = 1 ∧
    w_MacsSendAndReceiveFrames_6_s.rf F.MAC_STAT_PAUSED 0 3 = 0 ∧
    (w_MacsSendAndReceiveFrames_6_s.mac 3).txBuf = w_MacsSendAndReceiveFrames_6_h :: w_MacsSendAndReceiveFrames_6_ws ++ w_MacsSendAndReceiveFrames_6_rest ∧
    ((w_MacsSendAndReceiveFrames_6_h :: w_MacsSendAndReceiveFrames_6_ws ++ w_MacsSendAndReceiveFrames_6_rest).findIdx fun w => w.tag == tagEnd) = w_MacsSendAndReceiveFrames_6_ws.length ∧
    w_MacsSendAndReceiveFrames_6_ws ≠ [] ∧
    txHeaderOk w_MacsSendAndReceiveFrames_6_h.data.toNat w_MacsSendAndReceiveFrames_6_ws.length (w_MacsSendAndReceiveFrames_6_s.rf F.MAC_CTL_MAX_FRAME 0 3) = true ∧
    bits w_MacsSendAndReceiveFrames_6_h.data.toNat 17 16 = 0 ∧
    w_MacsSendAndReceiveFrames_6_s.rf F.MAC_TX_FRAME_CNT_COUNT 0 3 < 2 ^ 40 - 1 ∧
    w_MacsSendAndReceiveFrames_6_s.macLoop 3 = 0 := by decide +kernel

def w_MacsSendAndReceiveFrames_7_s : State := (put s0 [(F.MAC_CTL_EN, [1, 0, 3]), (F.MAC_STAT_LINK_UP, [1, 0, 3]), (F.MAC_CTL_MAX_FRAME, [1518, 0, 3])]).setMac 3 { Mac.init with txBuf := [dataWord 13, dataWord 0x060504030201, dataWord 7, ⟨9, tagEnd⟩, dataWord 4] }
def w_MacsSendAndReceiveFrames_7_h : TWord := dataWord 13
def w_MacsSendAndReceiveFrames_7_ws : List TWord := [dataWord 0x060504030201, dataWord 7, ⟨9, tagEnd⟩]
def w_MacsSendAndReceiveFrames_7_rest : List TWord := [dataWord 4]
theorem test_w_MacsSendAndReceiveFrames_7 : w_MacsSendAndReceiveFrames_7_s.rf F.MAC_CTL_EN 0 3 = 1 ∧
    (w_MacsSendAndReceiveFrames_7_s.mac 3).txBuf = w_MacsSendAndReceiveFrames_7_h :: w_MacsSendAndReceiveFrames_7_ws ++ w_MacsSendAndReceiveFrames_7_rest ∧
    ((w_MacsSendAndReceiveFrames_7_h :: w_MacsSendAndReceiveFrames_7_ws ++ w_MacsSendAndReceiveFrames_7_rest).findIdx fun w => w.tag == tagEnd) = w_MacsSendAndReceiveFrames_7_ws.length ∧
    w_MacsSendAndReceiveFrames_7_ws ≠ [] ∧
    bit w_MacsSendAndReceiveFrames_7_h.data.toNat 17 = false ∧
    txHeaderOk w_MacsSendAndReceiveFrames_7_h.data.toNat w_MacsSendAndReceiveFrames_7_ws.length (w_MacsSendAndReceiveFrames_7_s.rf F.MAC_CTL_MAX_FRAME 0 3) = false ∧
    w_MacsSendAndReceiveFrames_7_s.rf F.MAC_TX_DROP_CNT_COUNT 0 3 < 2 ^ 32 - 1 := by decide +kernel

def w_MacsSendAndReceiveFrames_8_s : State := put s0 [(F.MAC_CTL_EN, [1, 0, 3]), (F.MAC_STAT_LINK_UP, [1, 0, 3]), (F.MAC_CTL_MAX_FRAME, [64, 0, 3])]
def w_MacsSendAndReceiveFrames_8_bs : List Nat := List.replicate 60 5
theorem test_w_MacsSendAndReceiveFrames_8 : w_MacsSendAndReceiveFrames_8_s.rf F.MAC_CTL_EN 0 3 = 1 ∧
    w_MacsSendAndReceiveFrames_8_s.rf F.MAC_STAT_LINK_UP 0 3 = 1 ∧
    60 ≤ w_MacsSendAndReceiveFrames_8_bs.length ∧
    w_MacsSendAndReceiveFrames_8_bs.length + 4 ≤ w_MacsSendAndReceiveFrames_8_s.rf F.MAC_CTL_MAX_FRAME 0 3 ∧
    (w_MacsSendAndReceiveFrames_8_s.mac 3).rxBuf.length + (w_MacsSendAndReceiveFrames_8_s.rxWords w_MacsSendAndReceiveFrames_8_bs 77).length ≤ 8192 ∧
    w_MacsSendAndReceiveFrames_8_s.rf F.MAC_RX_FRAME_CNT_COUNT 0 3 < 2 ^ 40 - 1 ∧
    w_MacsSendAndReceiveFrames_8_s.macLoop 3 = 0 := by decide +kernel

def w_MacsSendAndReceiveFrames_9_s : State := put s0 [(F.MAC_CTL_EN, [1, 0, 3]), (F.MAC_STAT_LINK_UP, [1, 0, 3])]
def w_MacsSendAndReceiveFrames_9_bs : List Nat := List.replicate 60 5
theorem test_w_MacsSendAndReceiveFrames_9 : w_MacsSendAndReceiveFrames_9_s.rf F.MAC_CTL_EN 0 3 = 1 ∧
    w_MacsSendAndReceiveFrames_9_s.rf F.MAC_STAT_LINK_UP 0 3 = 1 ∧
    w_MacsSendAndReceiveFrames_9_s.rf F.MAC_FCS_ERR_CNT_COUNT 0 3 < 2 ^ 32 - 1 ∧
    w_MacsSendAndReceiveFrames_9_s.macLoop 3 = 0 := by decide +kernel

def w_MacsSendAndReceiveFrames_10_s : State := (put s0 [(F.MAC_CTL_EN, [1, 0, 3]), (F.MAC_STAT_LINK_UP, [1, 0, 3]), (F.MAC_CTL_MAX_FRAME, [64, 0, 3])]).setMac 3 { Mac.init with rxBuf := List.replicate 8181 noWord }
def w_MacsSendAndReceiveFrames_10_bs : List Nat := List.replicate 60 5
theorem test_w_MacsSendAndReceiveFrames_10 : w_MacsSendAndReceiveFrames_10_s.rf F.MAC_CTL_EN 0 3 = 1 ∧
    w_MacsSendAndReceiveFrames_10_s.rf F.MAC_STAT_LINK_UP 0 3 = 1 ∧
    60 ≤ w_MacsSendAndReceiveFrames_10_bs.length ∧
    w_MacsSendAndReceiveFrames_10_bs.length + 4 ≤ w_MacsSendAndReceiveFrames_10_s.rf F.MAC_CTL_MAX_FRAME 0 3 ∧
    8192 < (w_MacsSendAndReceiveFrames_10_s.mac 3).rxBuf.length + (w_MacsSendAndReceiveFrames_10_s.rxWords w_MacsSendAndReceiveFrames_10_bs 77).length ∧
    w_MacsSendAndReceiveFrames_10_s.macLoop 3 = 0 := by decide +kernel

def w_MacsSendAndReceiveFrames_11_s : State := s0.setMac 1 { Mac.init with rxBuf := [dataWord 4] }
def w_MacsSendAndReceiveFrames_11_s1 : State := (s0.setMac 1 { Mac.init with rxBuf := [dataWord 4] }).arrive { rdTxn 1 1 0x0F039040 with len := 3 } |>.getD s0
def w_MacsSendAndReceiveFrames_11_x : Txn := { rdTxn 1 1 0x0F039040 with len := 3 }
theorem test_w_MacsSendAndReceiveFrames_11 : w_MacsSendAndReceiveFrames_11_s.atDie 0 w_MacsSendAndReceiveFrames_11_x = true ∧
    w_MacsSendAndReceiveFrames_11_x.op = .read ∧
    0x0F039000 + 1 * 0x40 ≤ addrLocal w_MacsSendAndReceiveFrames_11_x.addr ∧
    1 < 4 ∧
    0 < w_MacsSendAndReceiveFrames_11_x.len ∧
    addrLocal w_MacsSendAndReceiveFrames_11_x.addr + w_MacsSendAndReceiveFrames_11_x.len ≤ 0x0F039000 + 1 * 0x40 + 0x40 ∧
    w_MacsSendAndReceiveFrames_11_s.arrive w_MacsSendAndReceiveFrames_11_x = some w_MacsSendAndReceiveFrames_11_s1 := by decide +kernel

def w_MacsSendAndReceiveFrames_12_s : State := put s0 [(F.MAC_CTL_EN, [1, 0, 3]), (F.MAC_STAT_LINK_UP, [1, 0, 3]), (F.MAC_CTL_PAUSE_EN, [1, 0, 3]), (F.MAC_CTL_MAX_FRAME, [64, 0, 3])]
def w_MacsSendAndReceiveFrames_12_bs : List Nat := List.replicate 60 5
theorem test_w_MacsSendAndReceiveFrames_12 : w_MacsSendAndReceiveFrames_12_s.rf F.MAC_CTL_EN 0 3 = 1 ∧
    w_MacsSendAndReceiveFrames_12_s.rf F.MAC_STAT_LINK_UP 0 3 = 1 ∧
    w_MacsSendAndReceiveFrames_12_s.rf F.MAC_CTL_PAUSE_EN 0 3 = 1 ∧
    60 ≤ w_MacsSendAndReceiveFrames_12_bs.length ∧
    w_MacsSendAndReceiveFrames_12_bs.length + 4 ≤ w_MacsSendAndReceiveFrames_12_s.rf F.MAC_CTL_MAX_FRAME 0 3 ∧
    (w_MacsSendAndReceiveFrames_12_s.mac 3).rxBuf.length + (w_MacsSendAndReceiveFrames_12_s.rxWords w_MacsSendAndReceiveFrames_12_bs 77).length ≤ 8192 ∧
    w_MacsSendAndReceiveFrames_12_s.macLoop 3 = 0 := by decide +kernel

def w_MacsSendAndReceiveFrames_13_s : State := put s0 [(F.MAC_CTL_EN, [1, 0, 3]), (F.MAC_STAT_LINK_UP, [1, 0, 3]), (F.LANE_STAT_OWNER, [5, 0, 7]), (F.LANE_STAT_OWNER_INDEX, [3, 0, 7]), (F.LANE_CTL_LOOP, [1, 0, 7])]
def w_MacsSendAndReceiveFrames_13_bs : List Nat := List.replicate 60 5
theorem test_w_MacsSendAndReceiveFrames_13 : w_MacsSendAndReceiveFrames_13_s.rf F.MAC_CTL_EN 0 3 = 1 ∧
    w_MacsSendAndReceiveFrames_13_s.rf F.MAC_STAT_LINK_UP 0 3 = 1 ∧
    w_MacsSendAndReceiveFrames_13_s.macLoop 3 = 1 := by decide +kernel

def w_MacsSendAndReceiveFrames_14_s : State := put s0 [(F.MAC_STAT_PAUSED, [1, 0, 3])]

def w_MacsSendAndReceiveFrames_15_s : State := s0.setMac 3 { Mac.init with ts := [⟨5, 0, 1, 0⟩, ⟨6, 1, 2, 0⟩] }
def w_MacsSendAndReceiveFrames_15_s1 : State := (s0.setMac 3 { Mac.init with ts := [⟨5, 0, 1, 0⟩, ⟨6, 1, 2, 0⟩] }).arrive (rdTxn 1 1 0x0F0308C4) |>.getD s0
def w_MacsSendAndReceiveFrames_15_x : Txn := rdTxn 1 1 0x0F0308C4
def w_MacsSendAndReceiveFrames_15_e : TsEntry := ⟨5, 0, 1, 0⟩
def w_MacsSendAndReceiveFrames_15_f : TsEntry := ⟨6, 1, 2, 0⟩
def w_MacsSendAndReceiveFrames_15_rest : List TsEntry := []
theorem test_w_MacsSendAndReceiveFrames_15 : w_MacsSendAndReceiveFrames_15_s.atDie 0 w_MacsSendAndReceiveFrames_15_x = true ∧
    w_MacsSendAndReceiveFrames_15_x.op = .read ∧
    w_MacsSendAndReceiveFrames_15_x.len = 1 ∧
    3 < 4 ∧
    addrLocal w_MacsSendAndReceiveFrames_15_x.addr = 0x0F030804 + 3 * 0x40 ∧
    w_MacsSendAndReceiveFrames_15_s.arrive w_MacsSendAndReceiveFrames_15_x = some w_MacsSendAndReceiveFrames_15_s1 ∧
    (w_MacsSendAndReceiveFrames_15_s.mac 3).ts = w_MacsSendAndReceiveFrames_15_e :: w_MacsSendAndReceiveFrames_15_f :: w_MacsSendAndReceiveFrames_15_rest ∧
    w_MacsSendAndReceiveFrames_15_f.time < 2 ^ 48 ∧
    w_MacsSendAndReceiveFrames_15_rest.length < 15 := by decide +kernel

def w_MacsSendAndReceiveFrames_5a_s : State := s0.setMac 3 { Mac.init with txBuf := [noWord] }
def w_MacsSendAndReceiveFrames_5a_x : Txn := { wrTxn 1 1 0x0F0380FF [dataWord 5] with vc := .streams }
theorem test_w_MacsSendAndReceiveFrames_5a : w_MacsSendAndReceiveFrames_5a_s.atDie 0 w_MacsSendAndReceiveFrames_5a_x = true ∧
    w_MacsSendAndReceiveFrames_5a_x.op = .write ∧
    0x0F038000 + 3 * 0x40 ≤ addrLocal w_MacsSendAndReceiveFrames_5a_x.addr ∧
    3 < 4 ∧
    addrLocal w_MacsSendAndReceiveFrames_5a_x.addr + w_MacsSendAndReceiveFrames_5a_x.words.length ≤ 0x0F038000 + 3 * 0x40 + 0x40 ∧
    (w_MacsSendAndReceiveFrames_5a_x.words.all fun w => w.tag.toNat < 2) = true ∧
    w_MacsSendAndReceiveFrames_5a_x.words ≠ [] ∧
    (w_MacsSendAndReceiveFrames_5a_s.mac 3).txBuf.length + w_MacsSendAndReceiveFrames_5a_x.words.length ≤ 4096 := by decide +kernel

def w_SaetteLinksComeUpRetrainAndFail_1_s : State := s0
def w_SaetteLinksComeUpRetrainAndFail_1_w : TWord := dataWord 0x8C1
theorem test_w_SaetteLinksComeUpRetrainAndFail_1 : 3 ≤ 3 ∧
    3 < 8 ∧
    w_SaetteLinksComeUpRetrainAndFail_1_w.tag.toNat < 2 ∧
    bit w_SaetteLinksComeUpRetrainAndFail_1_w.data.toNat 0 = true ∧
    bit w_SaetteLinksComeUpRetrainAndFail_1_w.data.toNat 15 = false ∧
    w_SaetteLinksComeUpRetrainAndFail_1_s.slLanesOk (bits w_SaetteLinksComeUpRetrainAndFail_1_w.data.toNat 7 6) (bits w_SaetteLinksComeUpRetrainAndFail_1_w.data.toNat 11 8) = true ∧
    w_SaetteLinksComeUpRetrainAndFail_1_s.rf F.SL_CTL_EN 0 3 = 0 ∧
    ((w_SaetteLinksComeUpRetrainAndFail_1_s.rf F.SL_STAT_STATE 0 3 = 0 ∨ w_SaetteLinksComeUpRetrainAndFail_1_s.rf F.SL_STAT_STATE 0 3 = 4)) ∧
    w_SaetteLinksComeUpRetrainAndFail_1_s.fm.shut = [] ∧
    bits w_SaetteLinksComeUpRetrainAndFail_1_w.data.toNat 11 8 = 8 ∧
    ((∀ i, i < 16 → w_SaetteLinksComeUpRetrainAndFail_1_s.rf F.LANE_STAT_OWNER 0 i = 0)) := by decide +kernel

def w_SaetteLinksComeUpRetrainAndFail_2_s : State := put s0 [(F.DEV_ROLE_ROLE, [1, 0]), (F.DEV_ROLE_CTL_HEAD_WIDTH, [2, 0])]
def w_SaetteLinksComeUpRetrainAndFail_2_w : TWord := noWord
theorem test_w_SaetteLinksComeUpRetrainAndFail_2 : 0 ≤ 2 ∧
    w_SaetteLinksComeUpRetrainAndFail_2_s.roleWants 0 = true ∧
    ((w_SaetteLinksComeUpRetrainAndFail_2_s.rf F.SL_STAT_STATE 0 0 = 0 ∨ w_SaetteLinksComeUpRetrainAndFail_2_s.rf F.SL_STAT_STATE 0 0 = 4)) ∧
    w_SaetteLinksComeUpRetrainAndFail_2_s.fm.shut = [] ∧
    ((∀ i, i < 16 → w_SaetteLinksComeUpRetrainAndFail_2_s.rf F.LANE_STAT_OWNER 0 i = 0)) := by decide +kernel

def w_SaetteLinksComeUpRetrainAndFail_3_s : State := put s0 [(F.SL_CTL_EN, [1, 0, 3]), (F.SL_CTL_LANE_BASE, [5, 0, 3]), (F.SL_CTL_WIDTH, [0, 0, 3]), (F.LANE_STAT_OWNER, [4, 0, 5]), (F.LANE_STAT_OWNER_INDEX, [3, 0, 5])]
theorem test_w_SaetteLinksComeUpRetrainAndFail_3 : ((w_SaetteLinksComeUpRetrainAndFail_3_s.rf F.SL_STAT_STATE 0 3 = 0 ∨ w_SaetteLinksComeUpRetrainAndFail_3_s.rf F.SL_STAT_STATE 0 3 = 4)) ∧
    w_SaetteLinksComeUpRetrainAndFail_3_s.rf F.SL_CTL_EN 0 3 = 1 ∧
    w_SaetteLinksComeUpRetrainAndFail_3_s.fm.shut.contains 3 = false ∧
    w_SaetteLinksComeUpRetrainAndFail_3_s.lanesOwned 3 = true := by decide +kernel

def w_SaetteLinksComeUpRetrainAndFail_4_s : State := (put s0 [(F.SL_STAT_STATE, [1, 0, 3]), (F.SL_CTL_RATE, [1, 0, 3]), (F.SL_CTL_WIDTH, [1, 0, 3]), (F.LANE_STAT_PSTATE, [0, 0, 0]), (F.LANE_STAT_PSTATE, [0, 0, 1])]).setSl 3 { Sl.init with hello := 2, width := 1 }
def w_SaetteLinksComeUpRetrainAndFail_4_x : Nat := mkCell 0 4 0 0 false (4095 * 2 ^ 188 + 2 ^ 184 + 0x28 * 2 ^ 88 + 5 * 2 ^ 79 + 3 * 2 ^ 76 + 2 ^ 74 + 2 ^ 72)
theorem test_w_SaetteLinksComeUpRetrainAndFail_4 : w_SaetteLinksComeUpRetrainAndFail_4_s.rf F.SL_STAT_STATE 0 3 = 1 ∧
    cellGood w_SaetteLinksComeUpRetrainAndFail_4_x = true ∧
    cellKind w_SaetteLinksComeUpRetrainAndFail_4_x = .linkCtl ∧
    cellType w_SaetteLinksComeUpRetrainAndFail_4_x = 1 ∧
    2 ≤ (w_SaetteLinksComeUpRetrainAndFail_4_s.sl 3).hello ∧
    ((w_SaetteLinksComeUpRetrainAndFail_4_s.linkLanes 3).all fun k => w_SaetteLinksComeUpRetrainAndFail_4_s.rf F.LANE_STAT_PSTATE 0 k == 0) = true ∧
    bits w_SaetteLinksComeUpRetrainAndFail_4_x 75 74 = w_SaetteLinksComeUpRetrainAndFail_4_s.rf F.SL_CTL_RATE 0 3 ∧
    bits w_SaetteLinksComeUpRetrainAndFail_4_x 73 72 = w_SaetteLinksComeUpRetrainAndFail_4_s.linkWidth 3 ∧
    3 ≠ 2 ∧
    w_SaetteLinksComeUpRetrainAndFail_4_s.rf F.DEV_ROLE_ROLE 0 ≠ 2 ∧
    ((3 ≤ 1 → bits w_SaetteLinksComeUpRetrainAndFail_4_x 182 181 = 2)) ∧
    bits w_SaetteLinksComeUpRetrainAndFail_4_x 87 79 ≠ w_SaetteLinksComeUpRetrainAndFail_4_s.devNum % 512 := by decide +kernel

def w_SaetteLinksComeUpRetrainAndFail_5_s : State := (put s0 [(F.SL_STAT_STATE, [1, 0, 0]), (F.SL_CTL_RATE, [1, 0, 0]), (F.DEV_ROLE_CTL_HEAD_WIDTH, [0, 0]), (F.LANE_STAT_PSTATE, [0, 0, 0])]).setSl 0 { Sl.init with hello := 2 }
def w_SaetteLinksComeUpRetrainAndFail_5_x : Nat := mkCell 0 4 0 0 false (4095 * 2 ^ 188 + 2 ^ 184 + 2 ^ 181 + 0x28 * 2 ^ 88 + 5 * 2 ^ 79 + 2 ^ 74)
theorem test_w_SaetteLinksComeUpRetrainAndFail_5 : w_SaetteLinksComeUpRetrainAndFail_5_s.rf F.SL_STAT_STATE 0 0 = 1 ∧
    cellGood w_SaetteLinksComeUpRetrainAndFail_5_x = true ∧
    cellKind w_SaetteLinksComeUpRetrainAndFail_5_x = .linkCtl ∧
    cellType w_SaetteLinksComeUpRetrainAndFail_5_x = 1 ∧
    2 ≤ (w_SaetteLinksComeUpRetrainAndFail_5_s.sl 0).hello ∧
    ((w_SaetteLinksComeUpRetrainAndFail_5_s.linkLanes 0).all fun k => w_SaetteLinksComeUpRetrainAndFail_5_s.rf F.LANE_STAT_PSTATE 0 k == 0) = true ∧
    bits w_SaetteLinksComeUpRetrainAndFail_5_x 75 74 = w_SaetteLinksComeUpRetrainAndFail_5_s.rf F.SL_CTL_RATE 0 0 ∧
    bits w_SaetteLinksComeUpRetrainAndFail_5_x 73 72 = w_SaetteLinksComeUpRetrainAndFail_5_s.linkWidth 0 ∧
    0 ≤ 1 ∧
    w_SaetteLinksComeUpRetrainAndFail_5_s.rf F.DEV_ROLE_ROLE 0 ≠ 2 ∧
    bits w_SaetteLinksComeUpRetrainAndFail_5_x 182 181 ≠ 2 := by decide +kernel

def w_SaetteLinksComeUpRetrainAndFail_6_s : State := (put s0 [(F.SL_STAT_STATE, [2, 0, 3])]).setSl 3 { Sl.init with replay := [mkCell 7 0 1 1 true 5, mkCell 8 0 1 1 true 5], sent := 2 }
def w_SaetteLinksComeUpRetrainAndFail_6_x : Nat := mkCell 0 4 0 0 false (7 * 2 ^ 188 + 2 ^ 187 + 2 ^ 183 + 3 * 2 ^ 181)
theorem test_w_SaetteLinksComeUpRetrainAndFail_6 : w_SaetteLinksComeUpRetrainAndFail_6_s.rf F.SL_STAT_STATE 0 3 = 2 ∧
    cellGood w_SaetteLinksComeUpRetrainAndFail_6_x = true ∧
    cellKind w_SaetteLinksComeUpRetrainAndFail_6_x = .linkCtl ∧
    cellType w_SaetteLinksComeUpRetrainAndFail_6_x = 0 ∧
    3 ≠ 2 := by decide +kernel

def w_SaetteLinksComeUpRetrainAndFail_7_s : State := (put s0 [(F.SL_STAT_STATE, [2, 0, 3])]).setSl 3 { Sl.init with good := 15 }
theorem test_w_SaetteLinksComeUpRetrainAndFail_7 : w_SaetteLinksComeUpRetrainAndFail_7_s.rf F.SL_STAT_STATE 0 3 = 2 ∧
    bit (w_SaetteLinksComeUpRetrainAndFail_7_s.sl 3).good 3 = true ∧
    (w_SaetteLinksComeUpRetrainAndFail_7_s.sl 3).good ≠ 2 ^ 3 := by decide +kernel

def w_SaetteLinksComeUpRetrainAndFail_8_s : State := put s0 [(F.SL_STAT_STATE, [2, 0, 3]), (F.SL_CTL_EN, [1, 0, 3])]
def w_SaetteLinksComeUpRetrainAndFail_8_w : TWord := dataWord 0x8041
theorem test_w_SaetteLinksComeUpRetrainAndFail_8 : w_SaetteLinksComeUpRetrainAndFail_8_w.tag.toNat < 2 ∧
    bit w_SaetteLinksComeUpRetrainAndFail_8_w.data.toNat 15 = true ∧
    w_SaetteLinksComeUpRetrainAndFail_8_s.rf F.SL_STAT_STATE 0 3 = 2 ∧
    ((3 ≤ 3 → w_SaetteLinksComeUpRetrainAndFail_8_s.slLanesOk (bits w_SaetteLinksComeUpRetrainAndFail_8_w.data.toNat 7 6) (bits w_SaetteLinksComeUpRetrainAndFail_8_w.data.toNat 11 8) = true ∧ w_SaetteLinksComeUpRetrainAndFail_8_s.rf F.SL_CTL_EN 0 3 = 1 ∧ bit w_SaetteLinksComeUpRetrainAndFail_8_w.data.toNat 0 = true)) := by decide +kernel

def w_SaetteLinksComeUpRetrainAndFail_8a_s : State := put s0 [(F.SL_STAT_STATE, [2, 0, 1])]
def w_SaetteLinksComeUpRetrainAndFail_8a_w : TWord := dataWord 0x8041
theorem test_w_SaetteLinksComeUpRetrainAndFail_8a : w_SaetteLinksComeUpRetrainAndFail_8a_w.tag.toNat < 2 ∧
    bit w_SaetteLinksComeUpRetrainAndFail_8a_w.data.toNat 15 = true ∧
    w_SaetteLinksComeUpRetrainAndFail_8a_s.rf F.SL_STAT_STATE 0 1 = 2 ∧
    ((3 ≤ 1 → w_SaetteLinksComeUpRetrainAndFail_8a_s.slLanesOk (bits w_SaetteLinksComeUpRetrainAndFail_8a_w.data.toNat 7 6) (bits w_SaetteLinksComeUpRetrainAndFail_8a_w.data.toNat 11 8) = true ∧ w_SaetteLinksComeUpRetrainAndFail_8a_s.rf F.SL_CTL_EN 0 1 = 1 ∧ bit w_SaetteLinksComeUpRetrainAndFail_8a_w.data.toNat 0 = true)) := by decide +kernel

def w_SaetteLinksComeUpRetrainAndFail_9_s : State := (put s0 [(F.SL_STAT_STATE, [3, 0, 3]), (F.SL_CTL_WIDTH, [3, 0, 3]), (F.SL_STAT_WIDTH_NOW, [2, 0, 3])]).setSl 3 { Sl.init with good := 0xFE }
def w_SaetteLinksComeUpRetrainAndFail_9_x : Nat := mkCell 0 4 0 0 false (7 * 2 ^ 188 + 2 * 2 ^ 184)
theorem test_w_SaetteLinksComeUpRetrainAndFail_9 : ((w_SaetteLinksComeUpRetrainAndFail_9_s.rf F.SL_STAT_STATE 0 3 = 2 ∨ w_SaetteLinksComeUpRetrainAndFail_9_s.rf F.SL_STAT_STATE 0 3 = 3)) ∧
    cellGood w_SaetteLinksComeUpRetrainAndFail_9_x = true ∧
    cellKind w_SaetteLinksComeUpRetrainAndFail_9_x = .linkCtl ∧
    cellType w_SaetteLinksComeUpRetrainAndFail_9_x = 2 ∧
    (laneGroup ((w_SaetteLinksComeUpRetrainAndFail_9_s.sl 3).good &&& 0x0D) (if w_SaetteLinksComeUpRetrainAndFail_9_s.rf F.SL_CTL_RETRAIN 0 3 = 1 ∨ w_SaetteLinksComeUpRetrainAndFail_9_s.linkWidth 3 = w_SaetteLinksComeUpRetrainAndFail_9_s.rf F.SL_STAT_WIDTH_NOW 0 3 then w_SaetteLinksComeUpRetrainAndFail_9_s.linkWidth 3 else w_SaetteLinksComeUpRetrainAndFail_9_s.rf F.SL_STAT_WIDTH_NOW 0 3) = some (1, 1)) := by decide +kernel

def w_SaetteLinksComeUpRetrainAndFail_10_s : State := (put s0 [(F.SL_STAT_STATE, [2, 0, 3]), (F.SC_CTL_LINK, [3, 0, 9]), (F.SC_STAT_TX_STATE, [2, 0, 9]), (F.SC_STAT_RX_STATE, [1, 0, 9]), (F.SC_CTL_SECURE, [1, 0, 9]), (F.SC_CTL_SPEC, [1, 0, 9])]).setSc 9 { Sc.init with rx := [(4, 0)], ready := 1, frames := [⟨0, 0, none, 0, [noWord], 0, false, none, false⟩] }
theorem test_w_SaetteLinksComeUpRetrainAndFail_10 : ((w_SaetteLinksComeUpRetrainAndFail_10_s.rf F.SL_STAT_STATE 0 3 = 2 ∨ w_SaetteLinksComeUpRetrainAndFail_10_s.rf F.SL_STAT_STATE 0 3 = 3)) := by decide +kernel

def w_SaetteLinksComeUpRetrainAndFail_11_s : State := (put s0 [(F.SL_STAT_STATE, [2, 0, 3])]).setSl 3 { Sl.init with replay := [7, 8], sent := 1 }
theorem test_w_SaetteLinksComeUpRetrainAndFail_11 : w_SaetteLinksComeUpRetrainAndFail_11_s.rf F.SL_STAT_STATE 0 3 = 2 ∧
    w_SaetteLinksComeUpRetrainAndFail_11_s.rf F.SL_STAT_WIDTH_NOW 0 3 = 0 ∧
    (w_SaetteLinksComeUpRetrainAndFail_11_s.sl 3).sent < (w_SaetteLinksComeUpRetrainAndFail_11_s.sl 3).replay.length ∧
    ((∀ n, n < 16 → (w_SaetteLinksComeUpRetrainAndFail_11_s.lane n).inject = 0)) := by decide +kernel

def w_SaetteLinksComeUpRetrainAndFail_12_s : State := put s0 [(F.SL_STAT_STATE, [3, 0, 3])]
theorem test_w_SaetteLinksComeUpRetrainAndFail_12 : ((w_SaetteLinksComeUpRetrainAndFail_12_s.rf F.SL_STAT_STATE 0 3 = 1 ∨ w_SaetteLinksComeUpRetrainAndFail_12_s.rf F.SL_STAT_STATE 0 3 = 3)) := by decide +kernel


def w_SaetteLinksComeUpRetrainAndFail_14_s : State := s0
def w_SaetteLinksComeUpRetrainAndFail_14_lanes : List (List Block) := [[(1, 0)]]
theorem test_w_SaetteLinksComeUpRetrainAndFail_14 : w_SaetteLinksComeUpRetrainAndFail_14_lanes ≠ [] ∧
    deskew (w_SaetteLinksComeUpRetrainAndFail_14_s.linkWidth 3) w_SaetteLinksComeUpRetrainAndFail_14_lanes = none := by decide +kernel

def w_SaetteLinksComeUpRetrainAndFail_15_s : State := put s0 [(F.DEV_ROLE_ROLE, [1, 0]), (F.DEV_ROLE_CTL_HEAD_WIDTH, [2, 0])]
def w_SaetteLinksComeUpRetrainAndFail_15_w : TWord := dataWord 0x001
theorem test_w_SaetteLinksComeUpRetrainAndFail_15 : 3 ≤ 3 ∧
    3 < 8 ∧
    0 ≤ 2 ∧
    w_SaetteLinksComeUpRetrainAndFail_15_w.tag.toNat < 2 ∧
    bit w_SaetteLinksComeUpRetrainAndFail_15_w.data.toNat 0 = true ∧
    bit w_SaetteLinksComeUpRetrainAndFail_15_w.data.toNat 15 = false ∧
    w_SaetteLinksComeUpRetrainAndFail_15_s.slLanesOk (bits w_SaetteLinksComeUpRetrainAndFail_15_w.data.toNat 7 6) (bits w_SaetteLinksComeUpRetrainAndFail_15_w.data.toNat 11 8) = true ∧
    w_SaetteLinksComeUpRetrainAndFail_15_s.rf F.SL_CTL_EN 0 3 = 0 ∧
    ((w_SaetteLinksComeUpRetrainAndFail_15_s.rf F.SL_STAT_STATE 0 3 = 0 ∨ w_SaetteLinksComeUpRetrainAndFail_15_s.rf F.SL_STAT_STATE 0 3 = 4)) ∧
    ((w_SaetteLinksComeUpRetrainAndFail_15_s.rf F.SL_STAT_STATE 0 0 = 0 ∨ w_SaetteLinksComeUpRetrainAndFail_15_s.rf F.SL_STAT_STATE 0 0 = 4)) ∧
    w_SaetteLinksComeUpRetrainAndFail_15_s.fm.shut = [] ∧
    w_SaetteLinksComeUpRetrainAndFail_15_s.roleWants 0 = true ∧
    ((∀ i, i < 16 → w_SaetteLinksComeUpRetrainAndFail_15_s.rf F.LANE_STAT_OWNER 0 i = 0)) ∧
    0 ∈ w_SaetteLinksComeUpRetrainAndFail_15_s.linkLanes 0 ∧
    bits w_SaetteLinksComeUpRetrainAndFail_15_w.data.toNat 11 8 = 0 := by decide +kernel

def w_SaetteChannelsOpenAndClose_1_s : State := s0
def w_SaetteChannelsOpenAndClose_1_w : TWord := dataWord (70000 * 2 ^ 18 + 3 * 2 ^ 15 + 2 ^ 13 + 2)
theorem test_w_SaetteChannelsOpenAndClose_1 : w_SaetteChannelsOpenAndClose_1_w.tag.toNat < 2 ∧
    bits w_SaetteChannelsOpenAndClose_1_w.data.toNat 47 44 = 0 ∧
    bits w_SaetteChannelsOpenAndClose_1_w.data.toNat 1 0 = 2 ∧
    w_SaetteChannelsOpenAndClose_1_s.scIdle 9 = true ∧
    w_SaetteChannelsOpenAndClose_1_s.bufOk 9 true false false = true := by decide +kernel

def w_SaetteChannelsOpenAndClose_2_s : State := put s0 [(F.SC_BUF_TX_BASE, [1023, 0, 9]), (F.SC_BUF_TX_SIZE, [1, 0, 9])]
def w_SaetteChannelsOpenAndClose_2_w : TWord := dataWord 2
theorem test_w_SaetteChannelsOpenAndClose_2 : w_SaetteChannelsOpenAndClose_2_w.tag.toNat < 2 ∧
    bits w_SaetteChannelsOpenAndClose_2_w.data.toNat 47 44 = 0 ∧
    bits w_SaetteChannelsOpenAndClose_2_w.data.toNat 1 0 = 2 ∧
    w_SaetteChannelsOpenAndClose_2_s.scIdle 9 = true ∧
    w_SaetteChannelsOpenAndClose_2_s.bufOk 9 true false false = false := by decide +kernel

def w_SaetteChannelsOpenAndClose_3_s : State := put s0 [(F.SC_CTL_SECURE, [0, 0, 9]), (F.SC_CTL_TX_EN, [1, 0, 9]), (F.SC_CTL_MAX_FRAME, [65536, 0, 9]), (F.SL_STAT_STATE, [2, 0, 0])]
def w_SaetteChannelsOpenAndClose_3_w : TWord := dataWord 0x800000000002
theorem test_w_SaetteChannelsOpenAndClose_3 : w_SaetteChannelsOpenAndClose_3_w.tag.toNat < 2 ∧
    bits w_SaetteChannelsOpenAndClose_3_w.data.toNat 47 44 = 8 ∧
    bit w_SaetteChannelsOpenAndClose_3_w.data.toNat 1 = true ∧
    b2n (bit w_SaetteChannelsOpenAndClose_3_w.data.toNat 0) = w_SaetteChannelsOpenAndClose_3_s.rf F.SC_CTL_RX_EN 0 9 ∧
    w_SaetteChannelsOpenAndClose_3_s.rf F.SC_CTL_TX_EN 0 9 = 1 ∧
    w_SaetteChannelsOpenAndClose_3_s.rf F.SC_STAT_TX_STATE 0 9 = 0 ∧
    w_SaetteChannelsOpenAndClose_3_s.linkUp (w_SaetteChannelsOpenAndClose_3_s.rf F.SC_CTL_LINK 0 9) = true ∧
    w_SaetteChannelsOpenAndClose_3_s.rf F.SC_CTL_LINK 0 9 ≠ 2 ∧
    ((w_SaetteChannelsOpenAndClose_3_s.rf F.SC_CTL_SECURE 0 9 = 1 → w_SaetteChannelsOpenAndClose_3_s.rf F.SK_CTL_VALID 0 (w_SaetteChannelsOpenAndClose_3_s.rf F.SC_KEY_TX_SLOT 0 9) = 1)) := by decide +kernel

def w_SaetteChannelsOpenAndClose_4_s : State := put s0 [(F.SC_CTL_TX_EN, [1, 0, 9]), (F.SC_CTL_RX_EN, [1, 0, 9])]
def w_SaetteChannelsOpenAndClose_4_w : TWord := dataWord 0x800000000003
theorem test_w_SaetteChannelsOpenAndClose_4 : w_SaetteChannelsOpenAndClose_4_w.tag.toNat < 2 ∧
    bits w_SaetteChannelsOpenAndClose_4_w.data.toNat 47 44 = 8 ∧
    bit w_SaetteChannelsOpenAndClose_4_w.data.toNat 1 = true ∧
    b2n (bit w_SaetteChannelsOpenAndClose_4_w.data.toNat 0) = w_SaetteChannelsOpenAndClose_4_s.rf F.SC_CTL_RX_EN 0 9 ∧
    w_SaetteChannelsOpenAndClose_4_s.rf F.SC_CTL_TX_EN 0 9 = 1 ∧
    w_SaetteChannelsOpenAndClose_4_s.rf F.SC_STAT_TX_STATE 0 9 = 0 ∧
    w_SaetteChannelsOpenAndClose_4_s.linkUp (w_SaetteChannelsOpenAndClose_4_s.rf F.SC_CTL_LINK 0 9) = false := by decide +kernel

def w_SaetteChannelsOpenAndClose_5_s : State := put s0 [(F.SC_CTL_TX_EN, [1, 0, 9]), (F.SC_STAT_TX_STATE, [2, 0, 9])]
def w_SaetteChannelsOpenAndClose_5_w : TWord := dataWord 0x400000000002
theorem test_w_SaetteChannelsOpenAndClose_5 : w_SaetteChannelsOpenAndClose_5_w.tag.toNat < 2 ∧
    bits w_SaetteChannelsOpenAndClose_5_w.data.toNat 47 44 = 4 ∧
    bit w_SaetteChannelsOpenAndClose_5_w.data.toNat 1 = true ∧
    b2n (bit w_SaetteChannelsOpenAndClose_5_w.data.toNat 0) = w_SaetteChannelsOpenAndClose_5_s.rf F.SC_CTL_RX_EN 0 9 ∧
    w_SaetteChannelsOpenAndClose_5_s.rf F.SC_CTL_TX_EN 0 9 = 1 ∧
    w_SaetteChannelsOpenAndClose_5_s.rf F.SC_STAT_TX_STATE 0 9 = 2 := by decide +kernel

def w_SaetteChannelsOpenAndClose_5a_s : State := (put s0 [(F.SC_CTL_TX_EN, [1, 0, 9]), (F.SC_STAT_TX_STATE, [2, 0, 9])]).setSc 9 { Sc.init with txWire := [noWord] }
def w_SaetteChannelsOpenAndClose_5a_w : TWord := dataWord 0x400000000002
theorem test_w_SaetteChannelsOpenAndClose_5a : w_SaetteChannelsOpenAndClose_5a_w.tag.toNat < 2 ∧
    bits w_SaetteChannelsOpenAndClose_5a_w.data.toNat 47 44 = 4 ∧
    bit w_SaetteChannelsOpenAndClose_5a_w.data.toNat 1 = true ∧
    b2n (bit w_SaetteChannelsOpenAndClose_5a_w.data.toNat 0) = w_SaetteChannelsOpenAndClose_5a_s.rf F.SC_CTL_RX_EN 0 9 ∧
    w_SaetteChannelsOpenAndClose_5a_s.rf F.SC_CTL_TX_EN 0 9 = 1 ∧
    w_SaetteChannelsOpenAndClose_5a_s.rf F.SC_STAT_TX_STATE 0 9 = 2 := by decide +kernel

def w_SaetteChannelsOpenAndClose_6_s : State := put s0 [(F.SC_CTL_SECURE, [0, 0, 9]), (F.SC_CTL_RX_EN, [1, 0, 9]), (F.SL_STAT_STATE, [2, 0, 3]), (F.SC_CTL_LINK, [3, 0, 9])]
def w_SaetteChannelsOpenAndClose_6_x : Nat := mkCell 0 2 9 0 false (2 ^ 196 + 100)
theorem test_w_SaetteChannelsOpenAndClose_6 : w_SaetteChannelsOpenAndClose_6_s.cellDue 3 w_SaetteChannelsOpenAndClose_6_x = true ∧
    cellKind w_SaetteChannelsOpenAndClose_6_x = .channelCtl ∧
    cellMsg w_SaetteChannelsOpenAndClose_6_x = 1 ∧
    cellChannel w_SaetteChannelsOpenAndClose_6_x = 9 ∧
    w_SaetteChannelsOpenAndClose_6_s.forwards 9 = false ∧
    w_SaetteChannelsOpenAndClose_6_s.rf F.SC_CTL_LINK 0 9 = 3 ∧
    3 ≠ 2 ∧
    w_SaetteChannelsOpenAndClose_6_s.openCause 9 (bits (cellBody w_SaetteChannelsOpenAndClose_6_x) 16 0) (bit (cellBody w_SaetteChannelsOpenAndClose_6_x) 17) = 0 := by decide +kernel

def w_SaetteChannelsOpenAndClose_7_s : State := put s0 [(F.SC_CTL_RX_EN, [1, 0, 9]), (F.SL_STAT_STATE, [2, 0, 3]), (F.SC_CTL_LINK, [3, 0, 9])]
def w_SaetteChannelsOpenAndClose_7_x : Nat := mkCell 0 2 9 0 false (2 ^ 196 + 70000)
theorem test_w_SaetteChannelsOpenAndClose_7 : w_SaetteChannelsOpenAndClose_7_s.cellDue 3 w_SaetteChannelsOpenAndClose_7_x = true ∧
    cellKind w_SaetteChannelsOpenAndClose_7_x = .channelCtl ∧
    cellMsg w_SaetteChannelsOpenAndClose_7_x = 1 ∧
    cellChannel w_SaetteChannelsOpenAndClose_7_x = 9 ∧
    w_SaetteChannelsOpenAndClose_7_s.forwards 9 = false ∧
    w_SaetteChannelsOpenAndClose_7_s.rf F.SC_CTL_LINK 0 9 = 3 ∧
    3 ≠ 2 ∧
    w_SaetteChannelsOpenAndClose_7_s.openCause 9 (bits (cellBody w_SaetteChannelsOpenAndClose_7_x) 16 0) (bit (cellBody w_SaetteChannelsOpenAndClose_7_x) 17) ≠ 0 := by decide +kernel

def w_SaetteChannelsOpenAndClose_8_s : State := put s0 [(F.SC_STAT_TX_STATE, [1, 0, 9]), (F.SL_STAT_STATE, [2, 0, 3]), (F.SC_CTL_LINK, [3, 0, 9])]
def w_SaetteChannelsOpenAndClose_8_x : Nat := mkCell 0 2 9 0 false (2 * 2 ^ 196 + 262144)
theorem test_w_SaetteChannelsOpenAndClose_8 : w_SaetteChannelsOpenAndClose_8_s.cellDue 3 w_SaetteChannelsOpenAndClose_8_x = true ∧
    cellKind w_SaetteChannelsOpenAndClose_8_x = .channelCtl ∧
    cellMsg w_SaetteChannelsOpenAndClose_8_x = 2 ∧
    cellChannel w_SaetteChannelsOpenAndClose_8_x = 9 ∧
    w_SaetteChannelsOpenAndClose_8_s.fwdOut 9 3 = false ∧
    w_SaetteChannelsOpenAndClose_8_s.rf F.SC_CTL_LINK 0 9 = 3 ∧
    w_SaetteChannelsOpenAndClose_8_s.rf F.SC_STAT_TX_STATE 0 9 = 1 ∧
    w_SaetteChannelsOpenAndClose_8_s.rf F.SC_CTL_TX_CLOSE 0 9 = 0 := by decide +kernel

def w_SaetteChannelsOpenAndClose_9_s : State := put s0 [(F.SC_STAT_TX_STATE, [1, 0, 9]), (F.SL_STAT_STATE, [2, 0, 3]), (F.SC_CTL_LINK, [3, 0, 9])]
def w_SaetteChannelsOpenAndClose_9_x : Nat := mkCell 0 2 9 0 false (3 * 2 ^ 196 + 4)
theorem test_w_SaetteChannelsOpenAndClose_9 : w_SaetteChannelsOpenAndClose_9_s.cellDue 3 w_SaetteChannelsOpenAndClose_9_x = true ∧
    cellKind w_SaetteChannelsOpenAndClose_9_x = .channelCtl ∧
    cellMsg w_SaetteChannelsOpenAndClose_9_x = 3 ∧
    cellChannel w_SaetteChannelsOpenAndClose_9_x = 9 ∧
    w_SaetteChannelsOpenAndClose_9_s.fwdOut 9 3 = false ∧
    w_SaetteChannelsOpenAndClose_9_s.rf F.SC_CTL_LINK 0 9 = 3 ∧
    w_SaetteChannelsOpenAndClose_9_s.rf F.SC_STAT_TX_STATE 0 9 = 1 := by decide +kernel

def w_SaetteChannelsOpenAndClose_10_s : State := put s0 [(F.SC_STAT_RX_STATE, [1, 0, 9]), (F.SL_STAT_STATE, [2, 0, 3]), (F.SC_CTL_LINK, [3, 0, 9])]
def w_SaetteChannelsOpenAndClose_10_x : Nat := mkCell 0 2 9 0 false (4 * 2 ^ 196)
theorem test_w_SaetteChannelsOpenAndClose_10 : w_SaetteChannelsOpenAndClose_10_s.cellDue 3 w_SaetteChannelsOpenAndClose_10_x = true ∧
    cellKind w_SaetteChannelsOpenAndClose_10_x = .channelCtl ∧
    cellMsg w_SaetteChannelsOpenAndClose_10_x = 4 ∧
    cellChannel w_SaetteChannelsOpenAndClose_10_x = 9 ∧
    w_SaetteChannelsOpenAndClose_10_s.forwards 9 = false ∧
    w_SaetteChannelsOpenAndClose_10_s.rf F.SC_CTL_LINK 0 9 = 3 ∧
    w_SaetteChannelsOpenAndClose_10_s.rf F.SC_STAT_RX_STATE 0 9 = 1 ∧
    (w_SaetteChannelsOpenAndClose_10_s.sc 9).owed = 0 := by decide +kernel

def w_SaetteChannelsOpenAndClose_10a_s : State := (put s0 [(F.SC_STAT_RX_STATE, [1, 0, 9]), (F.SL_STAT_STATE, [2, 0, 3]), (F.SC_CTL_LINK, [3, 0, 9])]).setSc 9 { Sc.init with rx := [(0, 0)] }
def w_SaetteChannelsOpenAndClose_10a_x : Nat := mkCell 0 2 9 0 false (4 * 2 ^ 196)
theorem test_w_SaetteChannelsOpenAndClose_10a : w_SaetteChannelsOpenAndClose_10a_s.cellDue 3 w_SaetteChannelsOpenAndClose_10a_x = true ∧
    cellKind w_SaetteChannelsOpenAndClose_10a_x = .channelCtl ∧
    cellMsg w_SaetteChannelsOpenAndClose_10a_x = 4 ∧
    cellChannel w_SaetteChannelsOpenAndClose_10a_x = 9 ∧
    w_SaetteChannelsOpenAndClose_10a_s.forwards 9 = false ∧
    w_SaetteChannelsOpenAndClose_10a_s.rf F.SC_CTL_LINK 0 9 = 3 ∧
    w_SaetteChannelsOpenAndClose_10a_s.rf F.SC_STAT_RX_STATE 0 9 = 1 ∧
    (w_SaetteChannelsOpenAndClose_10a_s.sc 9).owed = 0 := by decide +kernel

def w_SaetteChannelsOpenAndClose_11_s : State := put s0 [(F.SC_STAT_TX_STATE, [3, 0, 9]), (F.SL_STAT_STATE, [2, 0, 3]), (F.SC_CTL_LINK, [3, 0, 9]), (F.SC_CTL_TX_CLOSE, [1, 0, 9])]
def w_SaetteChannelsOpenAndClose_11_x : Nat := mkCell 0 2 9 0 false (5 * 2 ^ 196)
theorem test_w_SaetteChannelsOpenAndClose_11 : w_SaetteChannelsOpenAndClose_11_s.cellDue 3 w_SaetteChannelsOpenAndClose_11_x = true ∧
    cellKind w_SaetteChannelsOpenAndClose_11_x = .channelCtl ∧
    cellMsg w_SaetteChannelsOpenAndClose_11_x = 5 ∧
    cellChannel w_SaetteChannelsOpenAndClose_11_x = 9 ∧
    w_SaetteChannelsOpenAndClose_11_s.fwdOut 9 3 = false ∧
    w_SaetteChannelsOpenAndClose_11_s.rf F.SC_CTL_LINK 0 9 = 3 ∧
    w_SaetteChannelsOpenAndClose_11_s.rf F.SC_STAT_TX_STATE 0 9 = 3 := by decide +kernel

def w_SaetteChannelsOpenAndClose_12_s : State := (put s0 [(F.SC_STAT_RX_STATE, [1, 0, 9]), (F.SL_STAT_STATE, [2, 0, 3]), (F.SC_CTL_LINK, [3, 0, 9])]).setSc 9 { Sc.init with rx := [(0, 0), (1, 1)], ready := 2, frames := [⟨1, 6, none, 0, [noWord], 0, false, none, false⟩], rxCtr := 2 ^ 64 - 1 }
def w_SaetteChannelsOpenAndClose_12_x : Nat := mkCell 0 2 9 0 false (8 * 2 ^ 196)
def w_SaetteChannelsOpenAndClose_12_f : RxFrame := ⟨1, 6, none, 0, [noWord], 0, false, none, false⟩
theorem test_w_SaetteChannelsOpenAndClose_12 : w_SaetteChannelsOpenAndClose_12_s.cellDue 3 w_SaetteChannelsOpenAndClose_12_x = true ∧
    cellKind w_SaetteChannelsOpenAndClose_12_x = .channelCtl ∧
    cellMsg w_SaetteChannelsOpenAndClose_12_x = 8 ∧
    cellChannel w_SaetteChannelsOpenAndClose_12_x = 9 ∧
    w_SaetteChannelsOpenAndClose_12_s.forwards 9 = false ∧
    w_SaetteChannelsOpenAndClose_12_s.rf F.SC_CTL_LINK 0 9 = 3 ∧
    w_SaetteChannelsOpenAndClose_12_s.rf F.SC_STAT_RX_STATE 0 9 = 1 ∧
    (w_SaetteChannelsOpenAndClose_12_s.sc 9).frames.getLast? = some w_SaetteChannelsOpenAndClose_12_f ∧
    w_SaetteChannelsOpenAndClose_12_f.ended = false := by decide +kernel

def w_SaetteChannelsOpenAndClose_13_s : State := (put s0 [(F.SC_CTL_TX_EN, [1, 0, 9]), (F.SC_STAT_RX_STATE, [2, 0, 9])]).setSc 9 { Sc.init with rx := [(0, 0), (1, 1)], ready := 2, txLen := 5, frames := [⟨1, 6, none, 0, [noWord], 0, false, none, false⟩] }
def w_SaetteChannelsOpenAndClose_13_w : TWord := dataWord 0x200000000002
theorem test_w_SaetteChannelsOpenAndClose_13 : w_SaetteChannelsOpenAndClose_13_w.tag.toNat < 2 ∧
    bits w_SaetteChannelsOpenAndClose_13_w.data.toNat 47 44 = 2 ∧
    bit w_SaetteChannelsOpenAndClose_13_w.data.toNat 1 = true ∧
    b2n (bit w_SaetteChannelsOpenAndClose_13_w.data.toNat 0) = w_SaetteChannelsOpenAndClose_13_s.rf F.SC_CTL_RX_EN 0 9 ∧
    w_SaetteChannelsOpenAndClose_13_s.rf F.SC_CTL_TX_EN 0 9 = 1 ∧
    (w_SaetteChannelsOpenAndClose_13_s.sc 9).txWire = [] := by decide +kernel

def w_SaetteChannelsOpenAndClose_14_s : State := put s0 [(F.SC_CTL_TX_EN, [1, 0, 9]), (F.SC_STAT_TX_STATE, [4, 0, 9]), (F.SC_KEY_TX_NEXT_SLOT, [31, 0, 9]), (F.SK_CTL_VALID, [1, 0, 31]), (F.SC_TX_NEXT_SALT_SALT, [7, 0, 9])]
def w_SaetteChannelsOpenAndClose_14_w : TWord := dataWord 0x100000000002
theorem test_w_SaetteChannelsOpenAndClose_14 : w_SaetteChannelsOpenAndClose_14_w.tag.toNat < 2 ∧
    bits w_SaetteChannelsOpenAndClose_14_w.data.toNat 47 44 = 1 ∧
    bit w_SaetteChannelsOpenAndClose_14_w.data.toNat 1 = true ∧
    b2n (bit w_SaetteChannelsOpenAndClose_14_w.data.toNat 0) = w_SaetteChannelsOpenAndClose_14_s.rf F.SC_CTL_RX_EN 0 9 ∧
    w_SaetteChannelsOpenAndClose_14_s.rf F.SC_CTL_TX_EN 0 9 = 1 ∧
    ((w_SaetteChannelsOpenAndClose_14_s.rf F.SC_STAT_TX_STATE 0 9 = 2 ∨ w_SaetteChannelsOpenAndClose_14_s.rf F.SC_STAT_TX_STATE 0 9 = 4)) ∧
    w_SaetteChannelsOpenAndClose_14_s.rf F.SK_CTL_VALID 0 (w_SaetteChannelsOpenAndClose_14_s.rf F.SC_KEY_TX_NEXT_SLOT 0 9) = 1 ∧
    (w_SaetteChannelsOpenAndClose_14_s.sc 9).boundary = true := by decide +kernel

def w_SaetteChannelsOpenAndClose_15_s : State := (put s0 [(F.SC_CTL_TX_CLOSE, [1, 0, 9]), (F.SC_STAT_TX_STATE, [2, 0, 9])]).setSc 9 { Sc.init with txLen := 2, txWire := [noWord] }
theorem test_w_SaetteChannelsOpenAndClose_15 : w_SaetteChannelsOpenAndClose_15_s.rf F.SC_CTL_TX_CLOSE 0 9 = 1 ∧
    w_SaetteChannelsOpenAndClose_15_s.rf F.SC_STAT_TX_STATE 0 9 = 2 ∧
    (w_SaetteChannelsOpenAndClose_15_s.sc 9).txWire ≠ [] ∧
    (w_SaetteChannelsOpenAndClose_15_s.sc 9).cut = false ∧
    0 < (w_SaetteChannelsOpenAndClose_15_s.sc 9).txLen ∧
    w_SaetteChannelsOpenAndClose_15_s.rf F.SC_CUT_CNT_COUNT 0 9 < 2 ^ 32 - 1 := by decide +kernel

def w_SaetteChannelsOpenAndClose_16_s : State := (put s0 [(F.SC_CTL_TX_CLOSE, [1, 0, 9]), (F.SC_STAT_TX_STATE, [2, 0, 9])]).setSc 9 { Sc.init with txWire := [noWord] }
theorem test_w_SaetteChannelsOpenAndClose_16 : w_SaetteChannelsOpenAndClose_16_s.rf F.SC_CTL_TX_CLOSE 0 9 = 1 ∧
    w_SaetteChannelsOpenAndClose_16_s.rf F.SC_STAT_TX_STATE 0 9 = 2 ∧
    (w_SaetteChannelsOpenAndClose_16_s.sc 9).txWire ≠ [] ∧
    (w_SaetteChannelsOpenAndClose_16_s.sc 9).cut = false ∧
    (w_SaetteChannelsOpenAndClose_16_s.sc 9).txLen = 0 ∧
    (w_SaetteChannelsOpenAndClose_16_s.sc 9).gcmDue = none ∧
    w_SaetteChannelsOpenAndClose_16_s.rf F.SC_CTL_KEY_SWITCH 0 9 = 0 ∧
    (w_SaetteChannelsOpenAndClose_16_s.sc 9).txCtr < 2 ^ 64 - 2 ∧
    w_SaetteChannelsOpenAndClose_16_s.rf F.SC_CUT_CNT_COUNT 0 9 < 2 ^ 32 - 1 := by decide +kernel

def w_SaetteChannelsOpenAndClose_17_s : State := { put s0 [(F.CABEN_STAT_BOOT_SM, [0, 0]), (F.SC_CTL_SECURE, [0, 0, 0]), (F.CABEN_CTL_SAETTE_EN, [1, 0]), (F.SC_CTL_TX_EN, [1, 0, 0]), (F.SC_CTL_RX_EN, [1, 0, 0]), (F.SL_STAT_STATE, [2, 0, 0])] with rst := { s0.rst with phase := 4 } }
theorem test_w_SaetteChannelsOpenAndClose_17 : w_SaetteChannelsOpenAndClose_17_s.bootSm = false ∧
    w_SaetteChannelsOpenAndClose_17_s.rf F.CABEN_CTL_SAETTE_EN 0 = 1 ∧
    w_SaetteChannelsOpenAndClose_17_s.rf F.SC_STAT_TX_STATE 0 0 = 0 ∧
    w_SaetteChannelsOpenAndClose_17_s.forwards 0 = false ∧
    w_SaetteChannelsOpenAndClose_17_s.cfg.fuses.secureEn = false ∧
    w_SaetteChannelsOpenAndClose_17_s.rf F.SC_CTL_TX_EN 0 0 = 1 ∧
    w_SaetteChannelsOpenAndClose_17_s.rf F.SC_CTL_RX_EN 0 0 = 1 ∧
    w_SaetteChannelsOpenAndClose_17_s.rf F.SC_CTL_SECURE 0 0 = 0 ∧
    w_SaetteChannelsOpenAndClose_17_s.linkUp (w_SaetteChannelsOpenAndClose_17_s.rf F.SC_CTL_LINK 0 0) = true ∧
    w_SaetteChannelsOpenAndClose_17_s.rf F.SC_CTL_LINK 0 0 ≠ 2 := by decide +kernel

def w_SaetteCarriesWordsAndChecksFrames_1_s : State := (put s0 [(F.SC_CTL_TX_EN, [1, 0, 63])]).setSc 63 { Sc.init with txHead := 255, txLen := 1 }
def w_SaetteCarriesWordsAndChecksFrames_1_x : Txn := wrTxn 1 1 0x0F048FFF [⟨5, tagEnd⟩]
def w_SaetteCarriesWordsAndChecksFrames_1_v : TWord := ⟨5, tagEnd⟩
theorem test_w_SaetteCarriesWordsAndChecksFrames_1 : w_SaetteCarriesWordsAndChecksFrames_1_s.atDie 0 w_SaetteCarriesWordsAndChecksFrames_1_x = true ∧
    w_SaetteCarriesWordsAndChecksFrames_1_x.op = .write ∧
    w_SaetteCarriesWordsAndChecksFrames_1_x.words = [w_SaetteCarriesWordsAndChecksFrames_1_v] ∧
    63 < 64 ∧
    0x0F048000 + 63 * 0x40 ≤ addrLocal w_SaetteCarriesWordsAndChecksFrames_1_x.addr ∧
    addrLocal w_SaetteCarriesWordsAndChecksFrames_1_x.addr < 0x0F048000 + 63 * 0x40 + 0x40 ∧
    w_SaetteCarriesWordsAndChecksFrames_1_v.tag.toNat < 2 ∧
    w_SaetteCarriesWordsAndChecksFrames_1_s.txRoom 63 1 = true ∧
    w_SaetteCarriesWordsAndChecksFrames_1_s.rb F.PROT_FLIP_CTL_ARM 0 = false ∧
    0x0E000000 = sbufAddr (w_SaetteCarriesWordsAndChecksFrames_1_s.txBase 63 + ((w_SaetteCarriesWordsAndChecksFrames_1_s.sc 63).txHead + (w_SaetteCarriesWordsAndChecksFrames_1_s.sc 63).txLen) % w_SaetteCarriesWordsAndChecksFrames_1_s.txSize 63) := by decide +kernel

def w_SaetteCarriesWordsAndChecksFrames_2_s : State := (put s0 [(F.SL_STAT_STATE, [2, 0, 0]), (F.SC_STAT_TX_STATE, [2, 0, 9]), (F.SC_STAT_TX_CREDIT, [1, 0, 9]), (F.SC_CTL_SECURE, [0, 0, 9]), (F.SC_CTL_MAX_FRAME, [2, 0, 9])]).setSc 9 { Sc.init with txLen := 1, txWire := [noWord] } |>.putWord 0 0x0E000000 (dataWord 7)
def w_SaetteCarriesWordsAndChecksFrames_2_v : TWord := dataWord 7
theorem test_w_SaetteCarriesWordsAndChecksFrames_2 : w_SaetteCarriesWordsAndChecksFrames_2_s.rf F.SL_STAT_STATE 0 0 = 2 ∧
    w_SaetteCarriesWordsAndChecksFrames_2_s.rf F.SL_STAT_WIDTH_NOW 0 0 = 0 ∧
    (w_SaetteCarriesWordsAndChecksFrames_2_s.sl 0).replay = [] ∧
    (w_SaetteCarriesWordsAndChecksFrames_2_s.sl 0).sent = 0 ∧
    (w_SaetteCarriesWordsAndChecksFrames_2_s.sl 0).system = [] ∧
    9 < 64 ∧
    ((∀ k, k < 64 → (w_SaetteCarriesWordsAndChecksFrames_2_s.sc k).gcmDue = none ∧ (w_SaetteCarriesWordsAndChecksFrames_2_s.sc k).msgs = [] ∧ w_SaetteCarriesWordsAndChecksFrames_2_s.forwards k = false)) ∧
    ((∀ k, k < 64 → w_SaetteCarriesWordsAndChecksFrames_2_s.dataReady 0 k = decide (k = 9))) ∧
    w_SaetteCarriesWordsAndChecksFrames_2_s.rf F.SC_CTL_SECURE 0 9 = 0 ∧
    (w_SaetteCarriesWordsAndChecksFrames_2_s.sc 9).txLen = 1 ∧
    w_SaetteCarriesWordsAndChecksFrames_2_v.tag = tagData ∧
    w_SaetteCarriesWordsAndChecksFrames_2_s.rf F.SC_CTL_MAX_FRAME 0 9 ≤ (w_SaetteCarriesWordsAndChecksFrames_2_s.sc 9).txWire.length + 1 ∧
    w_SaetteCarriesWordsAndChecksFrames_2_s.rf F.SC_CUT_CNT_COUNT 0 9 < 2 ^ 32 - 1 ∧
    (w_SaetteCarriesWordsAndChecksFrames_2_s.sc 9).cut = false ∧
    decodeCell (w_SaetteCarriesWordsAndChecksFrames_2_s.cell 0 (sbufAddr (w_SaetteCarriesWordsAndChecksFrames_2_s.txBase 9 + (w_SaetteCarriesWordsAndChecksFrames_2_s.sc 9).txHead))) (sbufAddr (w_SaetteCarriesWordsAndChecksFrames_2_s.txBase 9 + (w_SaetteCarriesWordsAndChecksFrames_2_s.sc 9).txHead)) = .good w_SaetteCarriesWordsAndChecksFrames_2_v := by decide +kernel

def w_SaetteCarriesWordsAndChecksFrames_3_s : State := (put s0 [(F.SL_STAT_STATE, [2, 0, 0]), (F.SC_STAT_TX_STATE, [2, 0, 9]), (F.SC_STAT_TX_CREDIT, [1, 0, 9]), (F.SC_CTL_SECURE, [0, 0, 9]), (F.SL_STAT_NEXT_SEQ, [4095, 0, 0])]).setSc 9 { Sc.init with txLen := 1 } |>.putWord 0 0x0E000000 ⟨7, tagEnd⟩
def w_SaetteCarriesWordsAndChecksFrames_3_v : TWord := ⟨7, tagEnd⟩
theorem test_w_SaetteCarriesWordsAndChecksFrames_3 : w_SaetteCarriesWordsAndChecksFrames_3_s.rf F.SL_STAT_STATE 0 0 = 2 ∧
    w_SaetteCarriesWordsAndChecksFrames_3_s.rf F.SL_STAT_WIDTH_NOW 0 0 = 0 ∧
    (w_SaetteCarriesWordsAndChecksFrames_3_s.sl 0).replay = [] ∧
    (w_SaetteCarriesWordsAndChecksFrames_3_s.sl 0).sent = 0 ∧
    (w_SaetteCarriesWordsAndChecksFrames_3_s.sl 0).system = [] ∧
    9 < 64 ∧
    ((∀ k, k < 64 → (w_SaetteCarriesWordsAndChecksFrames_3_s.sc k).gcmDue = none ∧ (w_SaetteCarriesWordsAndChecksFrames_3_s.sc k).msgs = [] ∧ w_SaetteCarriesWordsAndChecksFrames_3_s.forwards k = false)) ∧
    ((∀ k, k < 64 → w_SaetteCarriesWordsAndChecksFrames_3_s.dataReady 0 k = decide (k = 9))) ∧
    w_SaetteCarriesWordsAndChecksFrames_3_s.rf F.SC_CTL_SECURE 0 9 = 0 ∧
    (w_SaetteCarriesWordsAndChecksFrames_3_s.sc 9).txLen = 1 ∧
    (w_SaetteCarriesWordsAndChecksFrames_3_s.sc 9).txWire = [] ∧
    ((w_SaetteCarriesWordsAndChecksFrames_3_v.tag = tagEnd ∨ 1 < w_SaetteCarriesWordsAndChecksFrames_3_s.rf F.SC_CTL_MAX_FRAME 0 9)) ∧
    (w_SaetteCarriesWordsAndChecksFrames_3_s.sc 9).cut = false ∧
    decodeCell (w_SaetteCarriesWordsAndChecksFrames_3_s.cell 0 (sbufAddr (w_SaetteCarriesWordsAndChecksFrames_3_s.txBase 9 + (w_SaetteCarriesWordsAndChecksFrames_3_s.sc 9).txHead))) (sbufAddr (w_SaetteCarriesWordsAndChecksFrames_3_s.txBase 9 + (w_SaetteCarriesWordsAndChecksFrames_3_s.sc 9).txHead)) = .good w_SaetteCarriesWordsAndChecksFrames_3_v := by decide +kernel

def w_SaetteCarriesWordsAndChecksFrames_4_s : State := (put s0 [(F.DEV_ROLE_ROLE, [2, 0]), (F.SL_STAT_STATE, [2, 0, 1]), (F.SC_CTL_LINK, [1, 0, 9]), (F.SC_STAT_RX_STATE, [1, 0, 9]), (F.SC_CTL_SECURE, [0, 0, 9])]).setSc 9 { Sc.init with rx := [(3, 0)], ready := 1, rxPut := 3, frameNo := 1 }
def w_SaetteCarriesWordsAndChecksFrames_4_x : Nat := mkCell 0 0 9 1 true (2 ^ 48 + 77)
theorem test_w_SaetteCarriesWordsAndChecksFrames_4 : w_SaetteCarriesWordsAndChecksFrames_4_s.cellDue 1 w_SaetteCarriesWordsAndChecksFrames_4_x = true ∧
    cellKind w_SaetteCarriesWordsAndChecksFrames_4_x = .data ∧
    cellChannel w_SaetteCarriesWordsAndChecksFrames_4_x = 9 ∧
    cellCount w_SaetteCarriesWordsAndChecksFrames_4_x = 1 ∧
    w_SaetteCarriesWordsAndChecksFrames_4_s.switchHolds 1 w_SaetteCarriesWordsAndChecksFrames_4_x = false ∧
    w_SaetteCarriesWordsAndChecksFrames_4_s.muted 1 9 = false ∧
    w_SaetteCarriesWordsAndChecksFrames_4_s.forwards 9 = false ∧
    w_SaetteCarriesWordsAndChecksFrames_4_s.rf F.SC_CTL_LINK 0 9 = 1 ∧
    w_SaetteCarriesWordsAndChecksFrames_4_s.rf F.SC_STAT_RX_STATE 0 9 ≠ 0 ∧
    w_SaetteCarriesWordsAndChecksFrames_4_s.rf F.SC_CTL_SECURE 0 9 = 0 ∧
    w_SaetteCarriesWordsAndChecksFrames_4_s.rf F.SC_NOTICE_MODE 0 9 = 0 ∧
    (w_SaetteCarriesWordsAndChecksFrames_4_s.sc 9).frames = [] ∧
    (w_SaetteCarriesWordsAndChecksFrames_4_s.sc 9).rx.length + (w_SaetteCarriesWordsAndChecksFrames_4_s.sc 9).owed < w_SaetteCarriesWordsAndChecksFrames_4_s.rxSize 9 ∧
    w_SaetteCarriesWordsAndChecksFrames_4_s.rb F.PROT_FLIP_CTL_ARM 0 = false ∧
    (w_SaetteCarriesWordsAndChecksFrames_4_s.sc 9).ready < 2 ^ 19 - 1 ∧
    0x0E000004 = sbufAddr (freeSlot ((w_SaetteCarriesWordsAndChecksFrames_4_s.sc 9).rx.map Prod.fst) (w_SaetteCarriesWordsAndChecksFrames_4_s.rxBase 9) (w_SaetteCarriesWordsAndChecksFrames_4_s.rxSize 9) (w_SaetteCarriesWordsAndChecksFrames_4_s.sc 9).rxPut (w_SaetteCarriesWordsAndChecksFrames_4_s.rxSize 9)) := by decide +kernel

def w_SaetteCarriesWordsAndChecksFrames_5_s : State := (put s0 [(F.SC_STAT_RX_STATE, [1, 0, 9])]).setSc 9 { Sc.init with rx := [(3, 0), (4, 0)], ready := 2, owed := 62 }
def w_SaetteCarriesWordsAndChecksFrames_5_s1 : State := ((put s0 [(F.SC_STAT_RX_STATE, [1, 0, 9])]).setSc 9 { Sc.init with rx := [(3, 0), (4, 0)], ready := 2, owed := 62 }).arrive (rdTxn 1 1 0x0F049240) |>.getD s0
def w_SaetteCarriesWordsAndChecksFrames_5_x : Txn := rdTxn 1 1 0x0F049240
def w_SaetteCarriesWordsAndChecksFrames_5_v : TWord := noWord
def w_SaetteCarriesWordsAndChecksFrames_5_rest : List (Nat × Nat) := [(4, 0)]
theorem test_w_SaetteCarriesWordsAndChecksFrames_5 : w_SaetteCarriesWordsAndChecksFrames_5_s.atDie 0 w_SaetteCarriesWordsAndChecksFrames_5_x = true ∧
    w_SaetteCarriesWordsAndChecksFrames_5_x.op = .read ∧
    w_SaetteCarriesWordsAndChecksFrames_5_x.len = 1 ∧
    9 < 64 ∧
    0x0F049000 + 9 * 0x40 ≤ addrLocal w_SaetteCarriesWordsAndChecksFrames_5_x.addr ∧
    addrLocal w_SaetteCarriesWordsAndChecksFrames_5_x.addr < 0x0F049000 + 9 * 0x40 + 0x40 ∧
    w_SaetteCarriesWordsAndChecksFrames_5_s.arrive w_SaetteCarriesWordsAndChecksFrames_5_x = some w_SaetteCarriesWordsAndChecksFrames_5_s1 ∧
    (w_SaetteCarriesWordsAndChecksFrames_5_s.sc 9).rx = (3, 0) :: w_SaetteCarriesWordsAndChecksFrames_5_rest ∧
    0 < (w_SaetteCarriesWordsAndChecksFrames_5_s.sc 9).ready ∧
    (w_SaetteCarriesWordsAndChecksFrames_5_s.sc 9).owed < 63 ∧
    w_SaetteCarriesWordsAndChecksFrames_5_s.rf F.SC_STAT_RX_STATE 0 9 = 1 ∧
    decodeCell (w_SaetteCarriesWordsAndChecksFrames_5_s.cell 0 (sbufAddr 3)) (sbufAddr 3) = .good w_SaetteCarriesWordsAndChecksFrames_5_v ∧
    ¬ (4 ≤ w_SaetteCarriesWordsAndChecksFrames_5_x.master ∧ w_SaetteCarriesWordsAndChecksFrames_5_x.master < 28) := by decide +kernel

def w_SaetteCarriesWordsAndChecksFrames_6_s : State := put s0 [(F.SC_STAT_RX_STATE, [1, 0, 9])]
def w_SaetteCarriesWordsAndChecksFrames_6_s1 : State := (put s0 [(F.SC_STAT_RX_STATE, [1, 0, 9])]).arrive (rdTxn 1 1 0x0F049240) |>.getD s0
def w_SaetteCarriesWordsAndChecksFrames_6_x : Txn := rdTxn 1 1 0x0F049240
theorem test_w_SaetteCarriesWordsAndChecksFrames_6 : w_SaetteCarriesWordsAndChecksFrames_6_s.atDie 0 w_SaetteCarriesWordsAndChecksFrames_6_x = true ∧
    w_SaetteCarriesWordsAndChecksFrames_6_x.op = .read ∧
    w_SaetteCarriesWordsAndChecksFrames_6_x.len = 1 ∧
    9 < 64 ∧
    0x0F049000 + 9 * 0x40 ≤ addrLocal w_SaetteCarriesWordsAndChecksFrames_6_x.addr ∧
    addrLocal w_SaetteCarriesWordsAndChecksFrames_6_x.addr < 0x0F049000 + 9 * 0x40 + 0x40 ∧
    w_SaetteCarriesWordsAndChecksFrames_6_s.arrive w_SaetteCarriesWordsAndChecksFrames_6_x = some w_SaetteCarriesWordsAndChecksFrames_6_s1 ∧
    (w_SaetteCarriesWordsAndChecksFrames_6_s.sc 9).ready = 0 ∧
    w_SaetteCarriesWordsAndChecksFrames_6_s.rf F.SC_STAT_RX_STATE 0 9 = 1 := by decide +kernel

def w_SaetteCarriesWordsAndChecksFrames_7_s : State := s0.setSc 9 { Sc.init with owed := 63 }
theorem test_w_SaetteCarriesWordsAndChecksFrames_7 : (w_SaetteCarriesWordsAndChecksFrames_7_s.sc 9).owed ≠ 0 ∧
    (w_SaetteCarriesWordsAndChecksFrames_7_s.sc 9).owed < 2 ^ 196 := by decide +kernel

def w_SaetteCarriesWordsAndChecksFrames_8_s : State := (put s0 [(F.SL_STAT_STATE, [2, 0, 3]), (F.SC_CTL_LINK, [3, 0, 9]), (F.SC_STAT_TX_STATE, [2, 0, 9])]).setSc 9 { Sc.init with ceil := 8 }
def w_SaetteCarriesWordsAndChecksFrames_8_x : Nat := mkCell 0 2 9 0 false (6 * 2 ^ 196 + 8)
theorem test_w_SaetteCarriesWordsAndChecksFrames_8 : w_SaetteCarriesWordsAndChecksFrames_8_s.cellDue 3 w_SaetteCarriesWordsAndChecksFrames_8_x = true ∧
    cellKind w_SaetteCarriesWordsAndChecksFrames_8_x = .channelCtl ∧
    cellMsg w_SaetteCarriesWordsAndChecksFrames_8_x = 6 ∧
    cellChannel w_SaetteCarriesWordsAndChecksFrames_8_x = 9 ∧
    w_SaetteCarriesWordsAndChecksFrames_8_s.fwdOut 9 3 = false ∧
    w_SaetteCarriesWordsAndChecksFrames_8_s.rf F.SC_CTL_LINK 0 9 = 3 ∧
    2 ≤ w_SaetteCarriesWordsAndChecksFrames_8_s.rf F.SC_STAT_TX_STATE 0 9 := by decide +kernel

def w_SaetteCarriesWordsAndChecksFrames_8a_s : State := (put s0 [(F.SL_STAT_STATE, [2, 0, 3]), (F.SC_CTL_LINK, [3, 0, 9]), (F.SC_STAT_TX_STATE, [2, 0, 9])]).setSc 9 { Sc.init with ceil := 8 }
def w_SaetteCarriesWordsAndChecksFrames_8a_x : Nat := mkCell 0 2 9 0 false (6 * 2 ^ 196 + 9)
theorem test_w_SaetteCarriesWordsAndChecksFrames_8a : w_SaetteCarriesWordsAndChecksFrames_8a_s.cellDue 3 w_SaetteCarriesWordsAndChecksFrames_8a_x = true ∧
    cellKind w_SaetteCarriesWordsAndChecksFrames_8a_x = .channelCtl ∧
    cellMsg w_SaetteCarriesWordsAndChecksFrames_8a_x = 6 ∧
    cellChannel w_SaetteCarriesWordsAndChecksFrames_8a_x = 9 ∧
    w_SaetteCarriesWordsAndChecksFrames_8a_s.fwdOut 9 3 = false ∧
    w_SaetteCarriesWordsAndChecksFrames_8a_s.rf F.SC_CTL_LINK 0 9 = 3 ∧
    2 ≤ w_SaetteCarriesWordsAndChecksFrames_8a_s.rf F.SC_STAT_TX_STATE 0 9 := by decide +kernel

def w_SaetteCarriesWordsAndChecksFrames_9_s : State := (put s0 [(F.SL_STAT_STATE, [2, 0, 3]), (F.SC_CTL_LINK, [3, 0, 9]), (F.SC_STAT_RX_STATE, [1, 0, 9])]).setSc 9 { Sc.init with frames := [⟨0, 5, some 1, 2, [noWord], 0, true, none, false⟩] }
def w_SaetteCarriesWordsAndChecksFrames_9_x : Nat := mkCell 0 1 9 0 false (5 * 2 ^ 128 + 99)
def w_SaetteCarriesWordsAndChecksFrames_9_f : RxFrame := ⟨0, 5, some 1, 2, [noWord], 0, true, none, false⟩
def w_SaetteCarriesWordsAndChecksFrames_9_rest : List RxFrame := []
theorem test_w_SaetteCarriesWordsAndChecksFrames_9 : w_SaetteCarriesWordsAndChecksFrames_9_s.cellDue 3 w_SaetteCarriesWordsAndChecksFrames_9_x = true ∧
    cellKind w_SaetteCarriesWordsAndChecksFrames_9_x = .gcmEnd ∧
    cellChannel w_SaetteCarriesWordsAndChecksFrames_9_x = 9 ∧
    w_SaetteCarriesWordsAndChecksFrames_9_s.muted 3 9 = false ∧
    w_SaetteCarriesWordsAndChecksFrames_9_s.forwards 9 = false ∧
    w_SaetteCarriesWordsAndChecksFrames_9_s.rf F.SC_CTL_LINK 0 9 = 3 ∧
    w_SaetteCarriesWordsAndChecksFrames_9_s.rf F.SC_STAT_RX_STATE 0 9 ≠ 0 ∧
    (w_SaetteCarriesWordsAndChecksFrames_9_s.sc 9).frames = w_SaetteCarriesWordsAndChecksFrames_9_f :: w_SaetteCarriesWordsAndChecksFrames_9_rest ∧
    w_SaetteCarriesWordsAndChecksFrames_9_f.ended = true ∧
    w_SaetteCarriesWordsAndChecksFrames_9_f.gcm = none ∧
    w_SaetteCarriesWordsAndChecksFrames_9_f.void = false ∧
    (w_SaetteCarriesWordsAndChecksFrames_9_rest.all fun g => g.id != w_SaetteCarriesWordsAndChecksFrames_9_f.id) = true := by decide +kernel

def w_SaetteCarriesWordsAndChecksFrames_10_s : State := (put s0 [(F.SC_CTL_SECURE, [1, 0, 9]), (F.SC_CTL_SPEC, [0, 0, 9]), (F.SC_STAT_RX_STATE, [1, 0, 9])]).setSc 9 { Sc.init with rx := [(3, 0), (4, 1)], frames := [⟨0, 5, some 1, 2, [noWord], 0, true, some (5, 99), false⟩] }
def w_SaetteCarriesWordsAndChecksFrames_10_f : RxFrame := ⟨0, 5, some 1, 2, [noWord], 0, true, some (5, 99), false⟩
def w_SaetteCarriesWordsAndChecksFrames_10_rest : List RxFrame := []
theorem test_w_SaetteCarriesWordsAndChecksFrames_10 : w_SaetteCarriesWordsAndChecksFrames_10_s.rf F.SC_CTL_SECURE 0 9 = 1 ∧
    w_SaetteCarriesWordsAndChecksFrames_10_s.rf F.SC_CTL_SPEC 0 9 = 0 ∧
    w_SaetteCarriesWordsAndChecksFrames_10_s.rf F.SC_NOTICE_MODE 0 9 = 0 ∧
    w_SaetteCarriesWordsAndChecksFrames_10_s.rf F.SC_NOTICE_ALARM_NOTICE 0 9 = 0 ∧
    (w_SaetteCarriesWordsAndChecksFrames_10_s.sc 9).frames = w_SaetteCarriesWordsAndChecksFrames_10_f :: w_SaetteCarriesWordsAndChecksFrames_10_rest ∧
    w_SaetteCarriesWordsAndChecksFrames_10_f.ended = true ∧
    w_SaetteCarriesWordsAndChecksFrames_10_f.void = false ∧
    w_SaetteCarriesWordsAndChecksFrames_10_f.gcm = some (w_SaetteCarriesWordsAndChecksFrames_10_f.ctr, 99) ∧
    w_SaetteCarriesWordsAndChecksFrames_10_f.key = some 1 := by decide +kernel

def w_SaetteCarriesWordsAndChecksFrames_11_s : State := put s0 [(F.SL_STAT_STATE, [2, 0, 3]), (F.SC_CTL_LINK, [3, 0, 9]), (F.SC_STAT_RX_STATE, [1, 0, 9]), (F.SC_KEY_RX_NEXT_SLOT, [31, 0, 9]), (F.SC_RX_NEXT_SALT_SALT, [9, 0, 9])]
def w_SaetteCarriesWordsAndChecksFrames_11_x : Nat := mkCell 0 2 9 0 false (7 * 2 ^ 196)
theorem test_w_SaetteCarriesWordsAndChecksFrames_11 : w_SaetteCarriesWordsAndChecksFrames_11_s.cellDue 3 w_SaetteCarriesWordsAndChecksFrames_11_x = true ∧
    cellKind w_SaetteCarriesWordsAndChecksFrames_11_x = .channelCtl ∧
    cellMsg w_SaetteCarriesWordsAndChecksFrames_11_x = 7 ∧
    cellChannel w_SaetteCarriesWordsAndChecksFrames_11_x = 9 ∧
    w_SaetteCarriesWordsAndChecksFrames_11_s.forwards 9 = false ∧
    w_SaetteCarriesWordsAndChecksFrames_11_s.rf F.SC_CTL_LINK 0 9 = 3 ∧
    w_SaetteCarriesWordsAndChecksFrames_11_s.rf F.SC_STAT_RX_STATE 0 9 ≠ 0 := by decide +kernel

def w_SaetteCarriesWordsAndChecksFrames_12_s : State := put s0 [(F.SK_KEY_W, [7, 0, 31, 5])]
def w_SaetteCarriesWordsAndChecksFrames_12_w : TWord := dataWord 2
theorem test_w_SaetteCarriesWordsAndChecksFrames_12 : w_SaetteCarriesWordsAndChecksFrames_12_w.tag.toNat < 2 ∧
    bit w_SaetteCarriesWordsAndChecksFrames_12_w.data.toNat 1 = true ∧
    w_SaetteCarriesWordsAndChecksFrames_12_s.rf F.SK_CTL_VALID 0 31 = 0 ∧
    w_SaetteCarriesWordsAndChecksFrames_12_s.rf F.CABEN_CTL_UDP_EN 0 = 0 := by decide +kernel

def w_SaetteCarriesWordsAndChecksFrames_13_s : State := { put s0 [(F.DEV_ROLE_ROLE, [2, 0]), (F.SL_STAT_STATE, [2, 0, 1]), (F.SC_CTL_LINK, [1, 0, 9]), (F.SC_STAT_RX_STATE, [1, 0, 9])] with follow := 1 }
def w_SaetteCarriesWordsAndChecksFrames_13_x : Nat := mkCell 0 0 9 4 true (2 ^ 48 + 77)
theorem test_w_SaetteCarriesWordsAndChecksFrames_13 : w_SaetteCarriesWordsAndChecksFrames_13_s.cellDue 1 w_SaetteCarriesWordsAndChecksFrames_13_x = true ∧
    cellKind w_SaetteCarriesWordsAndChecksFrames_13_x = .data ∧
    cellChannel w_SaetteCarriesWordsAndChecksFrames_13_x = 9 ∧
    1 ≤ cellCount w_SaetteCarriesWordsAndChecksFrames_13_x ∧
    cellCount w_SaetteCarriesWordsAndChecksFrames_13_x ≤ 4 ∧
    w_SaetteCarriesWordsAndChecksFrames_13_s.switchHolds 1 w_SaetteCarriesWordsAndChecksFrames_13_x = false ∧
    w_SaetteCarriesWordsAndChecksFrames_13_s.muted 1 9 = true ∧
    w_SaetteCarriesWordsAndChecksFrames_13_s.forwards 9 = false ∧
    w_SaetteCarriesWordsAndChecksFrames_13_s.rf F.SC_CTL_LINK 0 9 = 1 ∧
    w_SaetteCarriesWordsAndChecksFrames_13_s.rf F.SC_STAT_RX_STATE 0 9 ≠ 0 ∧
    (w_SaetteCarriesWordsAndChecksFrames_13_s.sc 9).owed + cellCount w_SaetteCarriesWordsAndChecksFrames_13_x < 64 := by decide +kernel

def w_TheTimeBaseKeepsTime_1_s : State := { put (at_ 7) [(F.TB_ADJ_ADJ, [5, 0])] with lio := { s0.lio with tb := { s0.lio.tb with acc := 2 ^ 40 - 5 } } }
theorem test_w_TheTimeBaseKeepsTime_1 : w_TheTimeBaseKeepsTime_1_s.lio.tb.step = 0 ∧
    w_TheTimeBaseKeepsTime_1_s.lio.tb.slew = 0 ∧
    w_TheTimeBaseKeepsTime_1_s.lio.tb.due = false ∧
    w_TheTimeBaseKeepsTime_1_s.rf F.TB_ADJ_ADJ 0 < 2 ^ 31 ∧
    w_TheTimeBaseKeepsTime_1_s.lio.tb.acc < 2 ^ 40 ∧
    w_TheTimeBaseKeepsTime_1_s.now + 2 < 2 ^ 48 := by decide +kernel

def w_TheTimeBaseKeepsTime_2_s : State := { at_ 7 with lio := { s0.lio with tb := { s0.lio.tb with step := 1000 } } }
theorem test_w_TheTimeBaseKeepsTime_2 : w_TheTimeBaseKeepsTime_2_s.lio.tb.step = (1000 : Int) ∧
    0 < 1000 ∧
    w_TheTimeBaseKeepsTime_2_s.lio.tb.slew = 0 ∧
    w_TheTimeBaseKeepsTime_2_s.lio.tb.due = false ∧
    w_TheTimeBaseKeepsTime_2_s.rf F.TB_ADJ_ADJ 0 = 0 ∧
    w_TheTimeBaseKeepsTime_2_s.lio.tb.acc < 2 ^ 40 ∧
    w_TheTimeBaseKeepsTime_2_s.now + 1 + 1000 < 2 ^ 48 := by decide +kernel

def w_TheTimeBaseKeepsTime_3_s : State := s0
def w_TheTimeBaseKeepsTime_3_w : TWord := dataWord 0xFFFFFFFFFFFF
theorem test_w_TheTimeBaseKeepsTime_3 : w_TheTimeBaseKeepsTime_3_w.tag.toNat < 2 ∧
    w_TheTimeBaseKeepsTime_3_w.data ≠ 0 := by decide +kernel

def w_TheTimeBaseKeepsTime_4_s : State := s0
def w_TheTimeBaseKeepsTime_4_w : TWord := dataWord 0
theorem test_w_TheTimeBaseKeepsTime_4 : w_TheTimeBaseKeepsTime_4_w.tag.toNat < 2 ∧
    w_TheTimeBaseKeepsTime_4_w.data = 0 := by decide +kernel

def w_TheTimeBaseKeepsTime_5_s : State := s0
def w_TheTimeBaseKeepsTime_5_w : TWord := dataWord 0xFFFFFFFFFFFE
theorem test_w_TheTimeBaseKeepsTime_5 : w_TheTimeBaseKeepsTime_5_w.tag.toNat < 2 := by decide +kernel

def w_TheTimeBaseKeepsTime_6_s : State := s0
def w_TheTimeBaseKeepsTime_6_w : TWord := dataWord 0x50007
theorem test_w_TheTimeBaseKeepsTime_6 : w_TheTimeBaseKeepsTime_6_w.tag.toNat < 2 := by decide +kernel

def w_TheTimeBaseKeepsTime_7_s : State := { put (at_ 7) [(F.TB_CTL_SLEW_DIV, [100, 0])] with lio := { s0.lio with tb := { s0.lio.tb with slew := 3, count := 99 } } }
theorem test_w_TheTimeBaseKeepsTime_7 : 0 < w_TheTimeBaseKeepsTime_7_s.lio.tb.slew ∧
    w_TheTimeBaseKeepsTime_7_s.rf F.TB_CTL_SLEW_DIV 0 ≤ w_TheTimeBaseKeepsTime_7_s.lio.tb.count + 1 ∧
    w_TheTimeBaseKeepsTime_7_s.lio.tb.step = 0 ∧
    w_TheTimeBaseKeepsTime_7_s.rf F.TB_ADJ_ADJ 0 = 0 ∧
    w_TheTimeBaseKeepsTime_7_s.lio.tb.acc < 2 ^ 40 ∧
    w_TheTimeBaseKeepsTime_7_s.now + 2 < 2 ^ 48 := by decide +kernel

def w_TheTimeBaseKeepsTime_8_s : State := at_ (2 ^ 48 - 1)
theorem test_w_TheTimeBaseKeepsTime_8 : w_TheTimeBaseKeepsTime_8_s.lio.tb.step = 0 ∧
    w_TheTimeBaseKeepsTime_8_s.lio.tb.slew = 0 ∧
    w_TheTimeBaseKeepsTime_8_s.lio.tb.due = false ∧
    w_TheTimeBaseKeepsTime_8_s.rf F.TB_ADJ_ADJ 0 = 0 ∧
    w_TheTimeBaseKeepsTime_8_s.lio.tb.acc < 2 ^ 40 ∧
    w_TheTimeBaseKeepsTime_8_s.now = 2 ^ 48 - 1 := by decide +kernel

def w_TheTimeBaseKeepsTime_9_s : State := s0
theorem test_w_TheTimeBaseKeepsTime_9 : w_TheTimeBaseKeepsTime_9_s.rf F.TB_REPLICA_CNT_COUNT 0 < 2 ^ 32 - 1 := by decide +kernel

def w_TheTimeBaseKeepsTime_9a_s : State := s0
theorem test_w_TheTimeBaseKeepsTime_9a : w_TheTimeBaseKeepsTime_9a_s.rf F.TB_REPLICA_CNT_COUNT 0 < 2 ^ 32 - 1 := by decide +kernel

def w_TheTimeBaseKeepsTime_10_s : State := s0
theorem test_w_TheTimeBaseKeepsTime_10 : w_TheTimeBaseKeepsTime_10_s.rf F.TB_STAT_HOLDOVER 0 = 0 := by decide +kernel

def w_TheTimeBaseKeepsTime_11_s : State := put s0 [(F.TB_STAT_HOLDOVER, [1, 0])]

def w_LineEventsAreCountedAndRecorded_1_s : State := { put (at_ 50) [(F.ENC_CTL_FILT, [0, 0, 2]), (F.ENC_CTL_MODE, [3, 0, 2])] with lio := { s0.lio with counted := [2] } }
theorem test_w_LineEventsAreCountedAndRecorded_1 : true = ((w_LineEventsAreCountedAndRecorded_1_s.pin (encPin 2 0)).sample (w_LineEventsAreCountedAndRecorded_1_s.rf F.ENC_CTL_FILT 0 2) true w_LineEventsAreCountedAndRecorded_1_s.now []).level ∧
    false = ((w_LineEventsAreCountedAndRecorded_1_s.pin (encPin 2 1)).sample (w_LineEventsAreCountedAndRecorded_1_s.rf F.ENC_CTL_FILT 0 2) false w_LineEventsAreCountedAndRecorded_1_s.now []).level ∧
    w_LineEventsAreCountedAndRecorded_1_s.encIndexed 2 false = false ∧
    w_LineEventsAreCountedAndRecorded_1_s.rf F.ENC_CTL_INVERT 0 2 = 0 ∧
    w_LineEventsAreCountedAndRecorded_1_s.rf F.ENC_CTL_CMP_ARM 0 2 = 0 ∧
    w_LineEventsAreCountedAndRecorded_1_s.lio.counted.contains 2 = true ∧
    ((w_LineEventsAreCountedAndRecorded_1_s.rf F.ENC_CTL_MODE 0 2 = 4 ∨ (w_LineEventsAreCountedAndRecorded_1_s.pin (encPin 2 0)).level = true ∨ (w_LineEventsAreCountedAndRecorded_1_s.pin (encPin 2 1)).level = false)) ∧
    encCount (w_LineEventsAreCountedAndRecorded_1_s.rf F.ENC_CTL_MODE 0 2) (w_LineEventsAreCountedAndRecorded_1_s.pin (encPin 2 0)).level (w_LineEventsAreCountedAndRecorded_1_s.pin (encPin 2 1)).level true false = 1 ∧
    w_LineEventsAreCountedAndRecorded_1_s.rw .ENC_POS 0 2 + 1 < 2 ^ 48 ∧
    w_LineEventsAreCountedAndRecorded_1_s.rw .ENC_EDGE_TIME 0 2 ≤ w_LineEventsAreCountedAndRecorded_1_s.now := by decide +kernel

def w_LineEventsAreCountedAndRecorded_2_s : State := put s0 [(F.ENC_CTL_FILT, [0, 0, 2]), (F.ENC_CTL_MODE, [1, 0, 2])]
theorem test_w_LineEventsAreCountedAndRecorded_2 : true = ((w_LineEventsAreCountedAndRecorded_2_s.pin (encPin 2 0)).sample (w_LineEventsAreCountedAndRecorded_2_s.rf F.ENC_CTL_FILT 0 2) true w_LineEventsAreCountedAndRecorded_2_s.now []).level ∧
    true = ((w_LineEventsAreCountedAndRecorded_2_s.pin (encPin 2 1)).sample (w_LineEventsAreCountedAndRecorded_2_s.rf F.ENC_CTL_FILT 0 2) true w_LineEventsAreCountedAndRecorded_2_s.now []).level ∧
    w_LineEventsAreCountedAndRecorded_2_s.encIndexed 2 false = false ∧
    1 ≤ w_LineEventsAreCountedAndRecorded_2_s.rf F.ENC_CTL_MODE 0 2 ∧
    w_LineEventsAreCountedAndRecorded_2_s.rf F.ENC_CTL_MODE 0 2 ≤ 3 ∧
    (w_LineEventsAreCountedAndRecorded_2_s.pin (encPin 2 0)).level ≠ true ∧
    (w_LineEventsAreCountedAndRecorded_2_s.pin (encPin 2 1)).level ≠ true ∧
    w_LineEventsAreCountedAndRecorded_2_s.rf F.ENC_ERR_CNT_COUNT 0 2 < 2 ^ 16 - 1 := by decide +kernel

def w_LineEventsAreCountedAndRecorded_3_s : State := put (at_ 50) [(F.ENC_CTL_FILT, [0, 0, 2]), (F.ENC_CTL_MODE, [4, 0, 2]), (F.ENC_CTL_CMP_ARM, [1, 0, 2]), (F.ENC_CTL_RING, [3, 0, 2]), (F.ENC_CMP_CMP, [8, 0, 2]), (F.ENC_POS_POS, [7, 0, 2]), (F.LEV_CTL_EN, [1, 0, 3])]
theorem test_w_LineEventsAreCountedAndRecorded_3 : true = ((w_LineEventsAreCountedAndRecorded_3_s.pin (encPin 2 0)).sample (w_LineEventsAreCountedAndRecorded_3_s.rf F.ENC_CTL_FILT 0 2) true w_LineEventsAreCountedAndRecorded_3_s.now []).level ∧
    true = ((w_LineEventsAreCountedAndRecorded_3_s.pin (encPin 2 1)).sample (w_LineEventsAreCountedAndRecorded_3_s.rf F.ENC_CTL_FILT 0 2) true w_LineEventsAreCountedAndRecorded_3_s.now []).level ∧
    w_LineEventsAreCountedAndRecorded_3_s.encIndexed 2 false = false ∧
    w_LineEventsAreCountedAndRecorded_3_s.rf F.ENC_CTL_INVERT 0 2 = 0 ∧
    w_LineEventsAreCountedAndRecorded_3_s.rf F.ENC_CTL_CMP_ARM 0 2 = 1 ∧
    w_LineEventsAreCountedAndRecorded_3_s.rf F.ENC_CTL_RING 0 2 = 3 ∧
    ((w_LineEventsAreCountedAndRecorded_3_s.rf F.ENC_CTL_MODE 0 2 = 4 ∨ (w_LineEventsAreCountedAndRecorded_3_s.pin (encPin 2 0)).level = true ∨ (w_LineEventsAreCountedAndRecorded_3_s.pin (encPin 2 1)).level = true)) ∧
    encCount (w_LineEventsAreCountedAndRecorded_3_s.rf F.ENC_CTL_MODE 0 2) (w_LineEventsAreCountedAndRecorded_3_s.pin (encPin 2 0)).level (w_LineEventsAreCountedAndRecorded_3_s.pin (encPin 2 1)).level true true = 1 ∧
    w_LineEventsAreCountedAndRecorded_3_s.rw .ENC_POS 0 2 + 1 < 2 ^ 48 ∧
    w_LineEventsAreCountedAndRecorded_3_s.rw .ENC_CMP 0 2 = w_LineEventsAreCountedAndRecorded_3_s.rw .ENC_POS 0 2 + 1 ∧
    w_LineEventsAreCountedAndRecorded_3_s.rw .ENC_CMP_STEP 0 2 = 0 ∧
    w_LineEventsAreCountedAndRecorded_3_s.rf F.LEV_CTL_EN 0 3 = 1 ∧
    (w_LineEventsAreCountedAndRecorded_3_s.ring 3).queue.length < 16 := by decide +kernel

def w_LineEventsAreCountedAndRecorded_4_s : State := put (at_ 50) [(F.ENC_CTL_FILT, [0, 0, 2]), (F.ENC_CTL_Z_CLEAR, [1, 0, 2]), (F.ENC_CTL_Z_REC, [1, 0, 2]), (F.ENC_CTL_RING, [3, 0, 2]), (F.ENC_POS_POS, [7, 0, 2]), (F.LEV_CTL_EN, [1, 0, 3])]
theorem test_w_LineEventsAreCountedAndRecorded_4 : w_LineEventsAreCountedAndRecorded_4_s.rf F.ENC_CTL_RING 0 2 = 3 ∧
    w_LineEventsAreCountedAndRecorded_4_s.rf F.ENC_CTL_Z_REC 0 2 = 1 ∧
    w_LineEventsAreCountedAndRecorded_4_s.rf F.LEV_CTL_EN 0 3 = 1 ∧
    (w_LineEventsAreCountedAndRecorded_4_s.ring 3).queue.length < 16 ∧
    w_LineEventsAreCountedAndRecorded_4_s.encIndexed 2 true = true := by decide +kernel

def w_LineEventsAreCountedAndRecorded_5_s : State := put (at_ 50) [(F.PD_CTL_FILT, [0, 0, 15]), (F.PD_CTL_EDGE, [1, 0, 15]), (F.PD_CTL_RING, [3, 0, 15]), (F.PD_CTL_HOLDOFF, [9, 0, 15]), (F.LEV_CTL_EN, [1, 0, 3])]
def w_LineEventsAreCountedAndRecorded_5_x : PinFilter := (w_LineEventsAreCountedAndRecorded_5_s.pin 15).sample 0 true 49 ((List.range 4).map w_LineEventsAreCountedAndRecorded_5_s.encAt)
theorem test_w_LineEventsAreCountedAndRecorded_5 : (w_LineEventsAreCountedAndRecorded_5_s.pin 15).accepts (w_LineEventsAreCountedAndRecorded_5_s.rf F.PD_CTL_FILT 0 15) true = true ∧
    w_LineEventsAreCountedAndRecorded_5_x = (w_LineEventsAreCountedAndRecorded_5_s.pin 15).sample (w_LineEventsAreCountedAndRecorded_5_s.rf F.PD_CTL_FILT 0 15) true 49 ((List.range 4).map w_LineEventsAreCountedAndRecorded_5_s.encAt) ∧
    w_LineEventsAreCountedAndRecorded_5_x.cross < 2 ^ 48 ∧
    w_LineEventsAreCountedAndRecorded_5_s.lio.hold.contains 15 = false ∧
    edgeChosen (w_LineEventsAreCountedAndRecorded_5_s.rf F.PD_CTL_EDGE 0 15) true = true ∧
    w_LineEventsAreCountedAndRecorded_5_s.rf F.PD_CTL_RING 0 15 = 3 ∧
    w_LineEventsAreCountedAndRecorded_5_s.rf F.LEV_CTL_EN 0 3 = 1 ∧
    (w_LineEventsAreCountedAndRecorded_5_s.ring 3).queue.length < 16 ∧
    w_LineEventsAreCountedAndRecorded_5_s.rf F.PD_CNT_COUNT 0 15 < 2 ^ 32 - 1 ∧
    15 < 16 := by decide +kernel

def w_LineEventsAreCountedAndRecorded_6_s : State := { put s0 [(F.PD_CTL_FILT, [0, 0, 15])] with lio := { s0.lio with hold := [15] } }
theorem test_w_LineEventsAreCountedAndRecorded_6 : (w_LineEventsAreCountedAndRecorded_6_s.pin 15).accepts (w_LineEventsAreCountedAndRecorded_6_s.rf F.PD_CTL_FILT 0 15) true = true ∧
    w_LineEventsAreCountedAndRecorded_6_s.lio.hold.contains 15 = true ∧
    w_LineEventsAreCountedAndRecorded_6_s.rf F.PD_HOLD_CNT_COUNT 0 15 < 2 ^ 32 - 1 := by decide +kernel

def w_LineEventsAreCountedAndRecorded_7_s : State := { s0 with lio := { s0.lio with hold := [3, 15] } }

def w_LineEventsAreCountedAndRecorded_8_s : State := put (at_ 50) [(F.GPIO_CFG_FILT, [0, 0, 95]), (F.GPIO_CFG_EDGE, [3, 0, 95]), (F.GPIO_CFG_RING, [3, 0, 95]), (F.LEV_CTL_EVT_GPIO_HI, [1, 0, 3]), (F.LEV_CTL_EN, [1, 0, 3])]
def w_LineEventsAreCountedAndRecorded_8_x : PinFilter := (w_LineEventsAreCountedAndRecorded_8_s.pin 111).sample 0 true 49 ((List.range 4).map w_LineEventsAreCountedAndRecorded_8_s.encAt)
theorem test_w_LineEventsAreCountedAndRecorded_8 : 95 < 96 ∧
    (w_LineEventsAreCountedAndRecorded_8_s.pin (16 + 95)).accepts (w_LineEventsAreCountedAndRecorded_8_s.rf F.GPIO_CFG_FILT 0 95) true = true ∧
    w_LineEventsAreCountedAndRecorded_8_x = (w_LineEventsAreCountedAndRecorded_8_s.pin (16 + 95)).sample (w_LineEventsAreCountedAndRecorded_8_s.rf F.GPIO_CFG_FILT 0 95) true 49 ((List.range 4).map w_LineEventsAreCountedAndRecorded_8_s.encAt) ∧
    w_LineEventsAreCountedAndRecorded_8_x.cross < 2 ^ 48 ∧
    edgeChosen (w_LineEventsAreCountedAndRecorded_8_s.rf F.GPIO_CFG_EDGE 0 95) true = true ∧
    w_LineEventsAreCountedAndRecorded_8_s.rf F.GPIO_CFG_RING 0 95 = 3 ∧
    w_LineEventsAreCountedAndRecorded_8_s.rf F.LEV_CTL_EVT_GPIO_HI 0 3 = (if 48 ≤ 95 then 1 else 0) ∧
    w_LineEventsAreCountedAndRecorded_8_s.rf F.LEV_CTL_EN 0 3 = 1 ∧
    (w_LineEventsAreCountedAndRecorded_8_s.ring 3).queue.length < 16 := by decide +kernel

def w_LineEventsAreCountedAndRecorded_9_x : PinFilter := ⟨false, 0, 0, [], false⟩
def w_LineEventsAreCountedAndRecorded_9_seen : List (Nat × Nat) := []
theorem test_w_LineEventsAreCountedAndRecorded_9 : true ≠ w_LineEventsAreCountedAndRecorded_9_x.level ∧
    w_LineEventsAreCountedAndRecorded_9_x.run = 0 ∧
    4 ≤ 3 + 1 := by decide +kernel

def w_LineEventsAreCountedAndRecorded_9a_x : PinFilter := ⟨true, 0, 0, [], false⟩
def w_LineEventsAreCountedAndRecorded_9a_seen : List (Nat × Nat) := []
theorem test_w_LineEventsAreCountedAndRecorded_9a : false ≠ w_LineEventsAreCountedAndRecorded_9a_x.level ∧
    w_LineEventsAreCountedAndRecorded_9a_x.run = 0 ∧
    3 ≤ 3 + 1 := by decide +kernel

def w_LineEventsAreCountedAndRecorded_10_s : State := (put s0 [(F.LEV_CTL_EXP, [2, 0, 3]), (F.LEV_DEST_ADDR, [0x100, 0, 3])]).setRing 3 ⟨[⟨1, 2, 3, 4, 7⟩], 0⟩
def w_LineEventsAreCountedAndRecorded_10_e : EvRec := ⟨1, 2, 3, 4, 7⟩
def w_LineEventsAreCountedAndRecorded_10_rest : List EvRec := []
theorem test_w_LineEventsAreCountedAndRecorded_10 : (w_LineEventsAreCountedAndRecorded_10_s.ring 3).queue = w_LineEventsAreCountedAndRecorded_10_e :: w_LineEventsAreCountedAndRecorded_10_rest := by decide +kernel

def w_LineEventsAreCountedAndRecorded_11_s : State := s0
def w_LineEventsAreCountedAndRecorded_11_w : TWord := dataWord 0x80000000000F
theorem test_w_LineEventsAreCountedAndRecorded_11 : w_LineEventsAreCountedAndRecorded_11_w.tag.toNat < 2 ∧
    bit w_LineEventsAreCountedAndRecorded_11_w.data.toNat 47 = true ∧
    w_LineEventsAreCountedAndRecorded_11_s.rf F.LEV_CTL_EN 0 3 = 0 ∧
    (w_LineEventsAreCountedAndRecorded_11_s.ring 3).queue = [] := by decide +kernel

def w_OutputsAndConvertersFollowTheirRegisters_1_s : State := put s0 [(F.GPIO_OUT_OUT, [5, 0, 1]), (F.DEV_ROLE_CTL_OUT_EN, [1, 0]), (F.GPIO_OE_OE, [3, 0, 1])]
def w_OutputsAndConvertersFollowTheirRegisters_1_w : TWord := dataWord 0x800000000002
theorem test_w_OutputsAndConvertersFollowTheirRegisters_1 : w_OutputsAndConvertersFollowTheirRegisters_1_w.tag.toNat < 2 := by decide +kernel

def w_OutputsAndConvertersFollowTheirRegisters_2_s : State := put s0 [(F.GPIO_OUT_OUT, [5, 0, 1])]
def w_OutputsAndConvertersFollowTheirRegisters_2_w : TWord := dataWord 0x800000000006
theorem test_w_OutputsAndConvertersFollowTheirRegisters_2 : w_OutputsAndConvertersFollowTheirRegisters_2_w.tag.toNat < 2 := by decide +kernel

def w_OutputsAndConvertersFollowTheirRegisters_3_s : State := put (at_ 50) [(F.GPIO_CFG_FUNC, [2, 0, 95]), (F.GPIO_CFG_SCHED_ARM, [1, 0, 95]), (F.GPIO_CFG_SCHED_VAL, [1, 0, 95]), (F.GPIO_SCHED_TIME_TIME, [50, 0, 95])]
theorem test_w_OutputsAndConvertersFollowTheirRegisters_3 : 95 < 96 ∧
    w_OutputsAndConvertersFollowTheirRegisters_3_s.rf F.GPIO_CFG_FUNC 0 95 = 2 ∧
    w_OutputsAndConvertersFollowTheirRegisters_3_s.rf F.GPIO_CFG_SCHED_ARM 0 95 = 1 ∧
    w_OutputsAndConvertersFollowTheirRegisters_3_s.rw .GPIO_SCHED_TIME 0 95 ≤ w_OutputsAndConvertersFollowTheirRegisters_3_s.now ∧
    w_OutputsAndConvertersFollowTheirRegisters_3_s.now - w_OutputsAndConvertersFollowTheirRegisters_3_s.rw .GPIO_SCHED_TIME 0 95 < 2 ^ 47 := by decide +kernel

def w_OutputsAndConvertersFollowTheirRegisters_4_s : State := put (at_ 50) [(F.GPIO_CFG_FUNC, [1, 0, 95]), (F.TB_CTL_PPS_WIDTH, [1, 0])]
theorem test_w_OutputsAndConvertersFollowTheirRegisters_4 : 95 < 96 ∧
    w_OutputsAndConvertersFollowTheirRegisters_4_s.rf F.GPIO_CFG_FUNC 0 95 = 1 := by decide +kernel

def w_OutputsAndConvertersFollowTheirRegisters_5_s : State := put s0 [(F.CT_PERIOD_NS, [100, 0, 3])]
def w_OutputsAndConvertersFollowTheirRegisters_5_w : TWord := dataWord 0x800000000001
theorem test_w_OutputsAndConvertersFollowTheirRegisters_5 : w_OutputsAndConvertersFollowTheirRegisters_5_w.tag.toNat < 2 ∧
    bit w_OutputsAndConvertersFollowTheirRegisters_5_w.data.toNat 47 = true ∧
    w_OutputsAndConvertersFollowTheirRegisters_5_s.rf F.CT_CTL_EN 0 3 = 0 := by decide +kernel

def w_OutputsAndConvertersFollowTheirRegisters_5a_s : State := put s0 [(F.CT_PERIOD_NS, [99, 0, 3])]
def w_OutputsAndConvertersFollowTheirRegisters_5a_w : TWord := dataWord 0x800000000001
theorem test_w_OutputsAndConvertersFollowTheirRegisters_5a : w_OutputsAndConvertersFollowTheirRegisters_5a_w.tag.toNat < 2 ∧
    bit w_OutputsAndConvertersFollowTheirRegisters_5a_w.data.toNat 47 = true ∧
    w_OutputsAndConvertersFollowTheirRegisters_5a_s.rf F.CT_CTL_EN 0 3 = 0 := by decide +kernel

def w_OutputsAndConvertersFollowTheirRegisters_6_s : State := put s0 [(F.CT_CTL_EN, [1, 0, 3]), (F.CT_CTL_MODE, [1, 0, 3])]
theorem test_w_OutputsAndConvertersFollowTheirRegisters_6 : w_OutputsAndConvertersFollowTheirRegisters_6_s.rf F.CT_CTL_EN 0 3 = 1 ∧
    w_OutputsAndConvertersFollowTheirRegisters_6_s.rf F.CT_CTL_MODE 0 3 = 1 := by decide +kernel

def w_OutputsAndConvertersFollowTheirRegisters_7_s : State := put s0 [(F.CT_CTL_EN, [1, 0, 3]), (F.CT_CTL_MODE, [3, 0, 3]), (F.DEV_ROLE_CTL_OUT_EN, [1, 0]), (F.CT_DAC_VAL_VAL, [77, 0, 3])]
theorem test_w_OutputsAndConvertersFollowTheirRegisters_7 : w_OutputsAndConvertersFollowTheirRegisters_7_s.rf F.CT_CTL_EN 0 3 = 1 ∧
    w_OutputsAndConvertersFollowTheirRegisters_7_s.rf F.CT_CTL_MODE 0 3 = 3 := by decide +kernel

def w_OutputsAndConvertersFollowTheirRegisters_8_s : State := (put s0 [(F.CT_CTL_EN, [1, 0, 3])]).setTile 3 ⟨[], [], 1, 0, false, none, none⟩
theorem test_w_OutputsAndConvertersFollowTheirRegisters_8 : w_OutputsAndConvertersFollowTheirRegisters_8_s.rf F.CT_CTL_EN 0 3 = 1 ∧
    (w_OutputsAndConvertersFollowTheirRegisters_8_s.tile 3).phase = 1 := by decide +kernel

def w_OutputsAndConvertersFollowTheirRegisters_9_s : State := (put s0 [(F.CT_CTL_EN, [1, 0, 3]), (F.CT_CTL_MODE, [3, 0, 3]), (F.CT_PHASE_ADC_COUNT, [2, 0, 3])]).setTile 3 ⟨[], [], 2, 1, false, none, none⟩
theorem test_w_OutputsAndConvertersFollowTheirRegisters_9 : w_OutputsAndConvertersFollowTheirRegisters_9_s.rf F.CT_CTL_EN 0 3 = 1 ∧
    w_OutputsAndConvertersFollowTheirRegisters_9_s.rf F.CT_CTL_MODE 0 3 = 3 ∧
    (w_OutputsAndConvertersFollowTheirRegisters_9_s.tile 3).phase = 2 ∧
    (w_OutputsAndConvertersFollowTheirRegisters_9_s.tile 3).busy = false ∧
    (w_OutputsAndConvertersFollowTheirRegisters_9_s.tile 3).begun < w_OutputsAndConvertersFollowTheirRegisters_9_s.rf F.CT_PHASE_ADC_COUNT 0 3 := by decide +kernel

def w_OutputsAndConvertersFollowTheirRegisters_10_s : State := (put s0 [(F.CT_CTL_MODE, [1, 0, 3])]).setTile 3 ⟨[], [0x8001, 0x8002], 0, 0, true, none, none⟩
theorem test_w_OutputsAndConvertersFollowTheirRegisters_10 : (w_OutputsAndConvertersFollowTheirRegisters_10_s.tile 3).busy = true ∧
    (w_OutputsAndConvertersFollowTheirRegisters_10_s.tile 3).lanes.length = 2 ∧
    (w_OutputsAndConvertersFollowTheirRegisters_10_s.tile 3).queue.length < 16 ∧
    ¬ (w_OutputsAndConvertersFollowTheirRegisters_10_s.rf F.CT_CTL_MODE 0 3 = 3 ∧ (w_OutputsAndConvertersFollowTheirRegisters_10_s.tile 3).begun = w_OutputsAndConvertersFollowTheirRegisters_10_s.rf F.CT_PHASE_ADC_COUNT 0 3) ∧
    w_OutputsAndConvertersFollowTheirRegisters_10_s.rw .CT_WSEQ 0 3 + 1 < 2 ^ 48 := by decide +kernel

def w_OutputsAndConvertersFollowTheirRegisters_11_s : State := (put s0 [(F.CT_CTL_MODE, [3, 0, 3]), (F.CT_PHASE_ADC_COUNT, [1, 0, 3])]).setTile 3 ⟨[], [], 2, 1, true, none, none⟩
theorem test_w_OutputsAndConvertersFollowTheirRegisters_11 : (w_OutputsAndConvertersFollowTheirRegisters_11_s.tile 3).busy = true ∧
    (w_OutputsAndConvertersFollowTheirRegisters_11_s.tile 3).queue.length < 16 ∧
    w_OutputsAndConvertersFollowTheirRegisters_11_s.rf F.CT_CTL_MODE 0 3 = 3 ∧
    (w_OutputsAndConvertersFollowTheirRegisters_11_s.tile 3).begun = w_OutputsAndConvertersFollowTheirRegisters_11_s.rf F.CT_PHASE_ADC_COUNT 0 3 ∧
    w_OutputsAndConvertersFollowTheirRegisters_11_s.rw .CT_WSEQ 0 3 + 1 < 2 ^ 48 := by decide +kernel

def w_OutputsAndConvertersFollowTheirRegisters_12_s : State := (put s0 [(F.CT_RING_CTL_EXP, [4, 0, 3]), (F.CT_RING_BASE_ADDR, [0x100, 0, 3])]).setTile 3 ⟨[(17, dataWord 3)], [], 0, 0, false, none, none⟩
def w_OutputsAndConvertersFollowTheirRegisters_12_w : TWord := dataWord 3
def w_OutputsAndConvertersFollowTheirRegisters_12_rest : List (Nat × TWord) := []
theorem test_w_OutputsAndConvertersFollowTheirRegisters_12 : (w_OutputsAndConvertersFollowTheirRegisters_12_s.tile 3).queue = (17, w_OutputsAndConvertersFollowTheirRegisters_12_w) :: w_OutputsAndConvertersFollowTheirRegisters_12_rest := by decide +kernel

def w_OutputsAndConvertersFollowTheirRegisters_13_s : State := { (put s0 [(F.DEV_ROLE_CTL_HEAD_LINK_EN, [1, 0]), (F.DEV_ROLE_CTL_OUT_EN, [1, 0]), (F.CT_CTL_EN, [1, 0, 3]), (F.CT_CTL_MODE, [2, 0, 3]), (F.CT_SAFE_CODE, [3, 0, 3])]).setTile 3 ⟨[], [], 0, 0, false, some 7, none⟩ with cfg := { s0.cfg with loaded := true } }
def w_OutputsAndConvertersFollowTheirRegisters_13_w : TWord := dataWord 4
theorem test_w_OutputsAndConvertersFollowTheirRegisters_13 : 3 < 8 ∧
    w_OutputsAndConvertersFollowTheirRegisters_13_s.dacOn 3 = true ∧
    w_OutputsAndConvertersFollowTheirRegisters_13_s.rf F.DEV_ROLE_CTL_OUT_EN 0 = 1 ∧
    w_OutputsAndConvertersFollowTheirRegisters_13_s.imageLoaded = true ∧
    w_OutputsAndConvertersFollowTheirRegisters_13_w.tag.toNat < 2 ∧
    bit w_OutputsAndConvertersFollowTheirRegisters_13_w.data.toNat 1 = false ∧
    bits w_OutputsAndConvertersFollowTheirRegisters_13_w.data.toNat 3 3 = w_OutputsAndConvertersFollowTheirRegisters_13_s.rf F.DEV_ROLE_CTL_HEAD_LINK_B_EN 0 ∧
    bits w_OutputsAndConvertersFollowTheirRegisters_13_w.data.toNat 2 2 = w_OutputsAndConvertersFollowTheirRegisters_13_s.rf F.DEV_ROLE_CTL_HEAD_LINK_EN 0 := by decide +kernel

def w_ConfigurationLoadsAndIsScrubbed_1_s : State := s0
def w_ConfigurationLoadsAndIsScrubbed_1_w : TWord := dataWord 12
theorem test_w_ConfigurationLoadsAndIsScrubbed_1 : w_ConfigurationLoadsAndIsScrubbed_1_w.tag.toNat < 2 ∧
    bit w_ConfigurationLoadsAndIsScrubbed_1_w.data.toNat 3 = true ∧
    w_ConfigurationLoadsAndIsScrubbed_1_s.cfg.load = none := by decide +kernel

def w_ConfigurationLoadsAndIsScrubbed_2_s : State := cfg_ fun c => { c with load := some (loadOf false ImgHdr.none 0 ⟨0, 0, false⟩ []) }
def w_ConfigurationLoadsAndIsScrubbed_2_w : TWord := dataWord 12
theorem test_w_ConfigurationLoadsAndIsScrubbed_2 : w_ConfigurationLoadsAndIsScrubbed_2_w.tag.toNat < 2 ∧
    w_ConfigurationLoadsAndIsScrubbed_2_s.cfg.load.isSome = true := by decide +kernel

def w_ConfigurationLoadsAndIsScrubbed_3_s : State := cfg_ fun c => { c with load := some { loadOf false ImgHdr.none 0 ⟨0, 0, false⟩ [] with src := 1 } }
def w_ConfigurationLoadsAndIsScrubbed_3_l : Load := { loadOf false ImgHdr.none 0 ⟨0, 0, false⟩ [] with src := 1 }
theorem test_w_ConfigurationLoadsAndIsScrubbed_3 : w_ConfigurationLoadsAndIsScrubbed_3_s.cfg.load = some w_ConfigurationLoadsAndIsScrubbed_3_l ∧
    w_ConfigurationLoadsAndIsScrubbed_3_l.powerOn = false ∧
    w_ConfigurationLoadsAndIsScrubbed_3_l.begun = false ∧
    w_ConfigurationLoadsAndIsScrubbed_3_l.after = 0 := by decide +kernel

def w_ConfigurationLoadsAndIsScrubbed_4_s : State := cfg_ fun c => { c with load := some (loadOf true { ImgHdr.none with count := 81 } 0 ⟨0, 0, false⟩ (List.replicate 1312 7)) }
def w_ConfigurationLoadsAndIsScrubbed_4_l : Load := loadOf true { ImgHdr.none with count := 81 } 0 ⟨0, 0, false⟩ (List.replicate 1312 7)
def w_ConfigurationLoadsAndIsScrubbed_4_b : List Nat := List.replicate 800 7
theorem test_w_ConfigurationLoadsAndIsScrubbed_4 : w_ConfigurationLoadsAndIsScrubbed_4_s.cfg.load = some w_ConfigurationLoadsAndIsScrubbed_4_l ∧
    w_ConfigurationLoadsAndIsScrubbed_4_l.begun = true ∧
    w_ConfigurationLoadsAndIsScrubbed_4_l.powerOn = false ∧
    w_ConfigurationLoadsAndIsScrubbed_4_l.src = 3 ∧
    w_ConfigurationLoadsAndIsScrubbed_4_l.next < 2 ^ 20 ∧
    512 + 800 * w_ConfigurationLoadsAndIsScrubbed_4_l.next + 800 ≤ w_ConfigurationLoadsAndIsScrubbed_4_l.bytes.length ∧
    w_ConfigurationLoadsAndIsScrubbed_4_b = (w_ConfigurationLoadsAndIsScrubbed_4_l.bytes.drop (512 + 800 * w_ConfigurationLoadsAndIsScrubbed_4_l.next)).take 800 := by decide +kernel

def w_ConfigurationLoadsAndIsScrubbed_5_s : State := put s0 [(F.SPG_CTL_EN, [1, 0]), (F.SPG_POS_ISLAND, [15, 4]), (F.SPG_POS_FRAME, [78, 4])]
theorem test_w_ConfigurationLoadsAndIsScrubbed_5 : w_ConfigurationLoadsAndIsScrubbed_5_s.rf F.SPG_CTL_EN 0 = 1 ∧
    w_ConfigurationLoadsAndIsScrubbed_5_s.fabDies.contains 4 = true ∧
    w_ConfigurationLoadsAndIsScrubbed_5_s.rf F.SPG_POS_ISLAND 4 = 15 ∧
    w_ConfigurationLoadsAndIsScrubbed_5_s.rf F.SPG_POS_FRAME 4 = 78 ∧
    78 < 79 ∧
    (w_ConfigurationLoadsAndIsScrubbed_5_s.island 4 15).held = false := by decide +kernel

def w_ConfigurationLoadsAndIsScrubbed_6_s : State := put s0 [(F.SPG_CTL_EN, [1, 0]), (F.SPG_POS_ISLAND, [15, 4]), (F.SPG_POS_FRAME, [78, 4])]
theorem test_w_ConfigurationLoadsAndIsScrubbed_6 : w_ConfigurationLoadsAndIsScrubbed_6_s.rf F.SPG_CTL_EN 0 = 1 ∧
    w_ConfigurationLoadsAndIsScrubbed_6_s.fabDies.contains 4 = true ∧
    w_ConfigurationLoadsAndIsScrubbed_6_s.rf F.SPG_POS_ISLAND 4 = 15 ∧
    w_ConfigurationLoadsAndIsScrubbed_6_s.rf F.SPG_POS_FRAME 4 = 78 ∧
    78 < 79 ∧
    (w_ConfigurationLoadsAndIsScrubbed_6_s.island 4 15).held = false ∧
    w_ConfigurationLoadsAndIsScrubbed_6_s.rf F.SPG_ESS_CNT_COUNT 4 < 2 ^ 32 - 1 ∧
    w_ConfigurationLoadsAndIsScrubbed_6_s.rf F.SPG_NONESS_CNT_COUNT 4 < 2 ^ 32 - 1 ∧
    w_ConfigurationLoadsAndIsScrubbed_6_s.rf F.SPG_LAST_VALID 4 = 0 := by decide +kernel

def w_ConfigurationLoadsAndIsScrubbed_7_s : State := cfg_ fun c => { c with rewrites := [(1, 0, 5)], dirOk := true, slots := [(0, (0x10000, 0x10000))], origin := [(key2 1 0, 0)], flash := flashOf 0x10000 (hdrOf 0x28 0 0 0) }
def w_ConfigurationLoadsAndIsScrubbed_7_h : List Nat := hdrOf 0x28 0 0 0
def w_ConfigurationLoadsAndIsScrubbed_7_rest : List (Nat × Nat × Nat) := []
theorem test_w_ConfigurationLoadsAndIsScrubbed_7 : w_ConfigurationLoadsAndIsScrubbed_7_s.cfg.rewrites = (1, 0, 5) :: w_ConfigurationLoadsAndIsScrubbed_7_rest ∧
    w_ConfigurationLoadsAndIsScrubbed_7_s.cfg.active = none ∧
    w_ConfigurationLoadsAndIsScrubbed_7_s.canRewrite 1 0 = true ∧
    0 = mget w_ConfigurationLoadsAndIsScrubbed_7_s.cfg.origin (key2 1 0) 7 ∧
    w_ConfigurationLoadsAndIsScrubbed_7_h = w_ConfigurationLoadsAndIsScrubbed_7_s.flashBytes (w_ConfigurationLoadsAndIsScrubbed_7_s.slot 0).1 512 := by decide +kernel

def w_ConfigurationLoadsAndIsScrubbed_8_s : State := cfg_ fun c => { c with rewrites := [(1, 0, 5)] }
def w_ConfigurationLoadsAndIsScrubbed_8_rest : List (Nat × Nat × Nat) := []
theorem test_w_ConfigurationLoadsAndIsScrubbed_8 : w_ConfigurationLoadsAndIsScrubbed_8_s.cfg.rewrites = (1, 0, 5) :: w_ConfigurationLoadsAndIsScrubbed_8_rest ∧
    w_ConfigurationLoadsAndIsScrubbed_8_s.cfg.active = none ∧
    w_ConfigurationLoadsAndIsScrubbed_8_s.canRewrite 1 0 = false := by decide +kernel

def w_TheDebugPortSelectsAndAccesses_1_s : State := s0

def w_TheDebugPortSelectsAndAccesses_2_s : State := s0

def w_TheDebugPortSelectsAndAccesses_3_s : State := s0
theorem test_w_TheDebugPortSelectsAndAccesses_3 : w_TheDebugPortSelectsAndAccesses_3_s.cfg.fuses.debugClose = false := by decide +kernel

def w_TheDebugPortSelectsAndAccesses_4_s : State := s0
theorem test_w_TheDebugPortSelectsAndAccesses_4 : w_TheDebugPortSelectsAndAccesses_4_s.cfg.fuses.debugClose = false := by decide +kernel

def w_TheDebugPortSelectsAndAccesses_5_s : State := s0
theorem test_w_TheDebugPortSelectsAndAccesses_5 : w_TheDebugPortSelectsAndAccesses_5_s.cfg.fuses.debugClose = false := by decide +kernel

def w_TheDebugPortSelectsAndAccesses_6_s : State := s0
theorem test_w_TheDebugPortSelectsAndAccesses_6 : w_TheDebugPortSelectsAndAccesses_6_s.cfg.fuses.debugClose = false := by decide +kernel

def w_TheDebugPortSelectsAndAccesses_7_s : State := s0

def w_TheDebugPortSelectsAndAccesses_8_s : State := s0
theorem test_w_TheDebugPortSelectsAndAccesses_8 : w_TheDebugPortSelectsAndAccesses_8_s.cfg.fuses.debugClose = false := by decide +kernel

def w_TheDebugPortSelectsAndAccesses_9_s : State := dbg_ fun x => { x with ir := 0x20 }
theorem test_w_TheDebugPortSelectsAndAccesses_9 : w_TheDebugPortSelectsAndAccesses_9_s.dbg.ir = 0x20 ∧
    w_TheDebugPortSelectsAndAccesses_9_s.dbg.busy = none ∧
    0 < 64 ∧
    w_TheDebugPortSelectsAndAccesses_9_s.tagHeld 0 2 0 = false ∧
    ((∀ k, k < 0 → w_TheDebugPortSelectsAndAccesses_9_s.tagHeld 0 2 k = true)) := by decide +kernel

def w_TheDebugPortSelectsAndAccesses_10_s : State := dbg_ fun x => { x with ir := 0x20 }
def w_TheDebugPortSelectsAndAccesses_10_w : TWord := dataWord 7
theorem test_w_TheDebugPortSelectsAndAccesses_10 : w_TheDebugPortSelectsAndAccesses_10_s.dbg.ir = 0x20 ∧
    w_TheDebugPortSelectsAndAccesses_10_s.dbg.busy = none := by decide +kernel

def w_TheDebugPortSelectsAndAccesses_11_s : State := dbg_ fun x => { x with ir := 0x20, busy := some 63 }
def w_TheDebugPortSelectsAndAccesses_11_w : TWord := dataWord 7
theorem test_w_TheDebugPortSelectsAndAccesses_11 : w_TheDebugPortSelectsAndAccesses_11_s.dbg.ir = 0x20 ∧
    w_TheDebugPortSelectsAndAccesses_11_s.dbg.busy.isSome = true := by decide +kernel

def w_TheDebugPortSelectsAndAccesses_12_s : State := dbg_ fun x => { x with ir := 0x20, status := 9, tag := 3, data := 77, overrun := true }
theorem test_w_TheDebugPortSelectsAndAccesses_12 : w_TheDebugPortSelectsAndAccesses_12_s.dbg.ir = 0x20 ∧
    w_TheDebugPortSelectsAndAccesses_12_s.dbg.status < 2 ^ 48 ∧
    w_TheDebugPortSelectsAndAccesses_12_s.dbg.tag < 4 := by decide +kernel

def w_TheDebugPortSelectsAndAccesses_13_s : State := s0
theorem test_w_TheDebugPortSelectsAndAccesses_13 : w_TheDebugPortSelectsAndAccesses_13_s.cfg.fuses.debugClose = false := by decide +kernel

def w_TheDebugPortSelectsAndAccesses_14_s : State := dbg_ fun x => { x with fails := 2 }
theorem test_w_TheDebugPortSelectsAndAccesses_14 : w_TheDebugPortSelectsAndAccesses_14_s.cfg.fuses.debugClose = false ∧
    w_TheDebugPortSelectsAndAccesses_14_s.dbg.fails < 3 := by decide +kernel

def w_TheDebugPortSelectsAndAccesses_15_s : State := dbg_ fun x => { x with fails := 3 }
theorem test_w_TheDebugPortSelectsAndAccesses_15 : w_TheDebugPortSelectsAndAccesses_15_s.cfg.fuses.debugClose = false ∧
    3 ≤ w_TheDebugPortSelectsAndAccesses_15_s.dbg.fails := by decide +kernel

def w_TheDebugPortSelectsAndAccesses_16_s : State := s0
theorem test_w_TheDebugPortSelectsAndAccesses_16 : w_TheDebugPortSelectsAndAccesses_16_s.dbg.unlocked = false := by decide +kernel

def w_TheDebugPortSelectsAndAccesses_17_s : State := dbg_ fun x => { x with unlocked := true }
theorem test_w_TheDebugPortSelectsAndAccesses_17 : w_TheDebugPortSelectsAndAccesses_17_s.dbg.unlocked = true ∧
    w_TheDebugPortSelectsAndAccesses_17_s.cfg.fuses.debugClose = false := by decide +kernel

def w_TheDebugPortSelectsAndAccesses_18_s : State := { s0 with cfg := { s0.cfg with fuses := { s0.cfg.fuses with debugClose := true } } }
theorem test_w_TheDebugPortSelectsAndAccesses_18 : w_TheDebugPortSelectsAndAccesses_18_s.cfg.fuses.debugClose = true := by decide +kernel

def w_EnginesFetchMoveClaimAndComplete_1_s : State := (ctx_ [] id).ww .CTX_DESC_BASE (2 ^ 48 - 4) 1 7 15
theorem test_w_EnginesFetchMoveClaimAndComplete_1 : w_EnginesFetchMoveClaimAndComplete_1_s.rf F.CTX_CTL_RUN 1 7 15 = 1 ∧
    w_EnginesFetchMoveClaimAndComplete_1_s.ctx 1 7 15 = Ctx.init ∧
    w_EnginesFetchMoveClaimAndComplete_1_s.rf F.CTX_STAT_CONS 1 7 15 ≠ w_EnginesFetchMoveClaimAndComplete_1_s.rf F.CTX_PROD_PROD 1 7 15 ∧
    w_EnginesFetchMoveClaimAndComplete_1_s.freeTag 1 (engMaster 1 7) = some 0 ∧
    w_EnginesFetchMoveClaimAndComplete_1_s.rw .CTX_DESC_BASE 1 7 15 % 4 = 0 := by decide +kernel

def w_EnginesFetchMoveClaimAndComplete_2_s : State := (ctx_ [] id).ww .CTX_DESC_BASE (2 ^ 48 - 1) 1 7 15
theorem test_w_EnginesFetchMoveClaimAndComplete_2 : w_EnginesFetchMoveClaimAndComplete_2_s.rf F.CTX_CTL_RUN 1 7 15 = 1 ∧
    w_EnginesFetchMoveClaimAndComplete_2_s.ctx 1 7 15 = Ctx.init ∧
    w_EnginesFetchMoveClaimAndComplete_2_s.rf F.CTX_STAT_CONS 1 7 15 ≠ w_EnginesFetchMoveClaimAndComplete_2_s.rf F.CTX_PROD_PROD 1 7 15 ∧
    w_EnginesFetchMoveClaimAndComplete_2_s.freeTag 1 (engMaster 1 7) = some 0 ∧
    w_EnginesFetchMoveClaimAndComplete_2_s.rw .CTX_DESC_BASE 1 7 15 % 4 ≠ 0 := by decide +kernel

def w_EnginesFetchMoveClaimAndComplete_3_s : State := s0
theorem test_w_EnginesFetchMoveClaimAndComplete_3 : ((∀ x, x < 16 → w_EnginesFetchMoveClaimAndComplete_3_s.ctxAct 1 7 x = none)) := by decide +kernel

def w_EnginesFetchMoveClaimAndComplete_4_s : State := ctx_ [0x20003F, 0x5000F, 200, 0] id
def w_EnginesFetchMoveClaimAndComplete_4_c : Ctx := w_EnginesFetchMoveClaimAndComplete_4_s.ctx 1 7 15
theorem test_w_EnginesFetchMoveClaimAndComplete_4 : 7 < engCount 1 ∧
    15 < 16 ∧
    ((∀ y, y < 16 → y ≠ 15 → w_EnginesFetchMoveClaimAndComplete_4_s.rf F.CTX_CTL_RUN 1 7 y = 0)) ∧
    w_EnginesFetchMoveClaimAndComplete_4_s.rf F.CTX_CTL_RUN 1 7 15 = 1 ∧
    w_EnginesFetchMoveClaimAndComplete_4_c = w_EnginesFetchMoveClaimAndComplete_4_s.ctx 1 7 15 ∧
    w_EnginesFetchMoveClaimAndComplete_4_c.desc ≠ [] ∧
    w_EnginesFetchMoveClaimAndComplete_4_c.ready = [] ∧
    w_EnginesFetchMoveClaimAndComplete_4_c.srcWin = false ∧
    w_EnginesFetchMoveClaimAndComplete_4_c.finishing = false ∧
    w_EnginesFetchMoveClaimAndComplete_4_c.asked < w_EnginesFetchMoveClaimAndComplete_4_c.need ∧
    w_EnginesFetchMoveClaimAndComplete_4_c.reads = [] ∧
    w_EnginesFetchMoveClaimAndComplete_4_s.freeTag 1 (engMaster 1 7) = some 0 ∧
    1 = min (w_EnginesFetchMoveClaimAndComplete_4_c.chunk w_EnginesFetchMoveClaimAndComplete_4_c.asked) (w_EnginesFetchMoveClaimAndComplete_4_c.need - w_EnginesFetchMoveClaimAndComplete_4_c.asked) := by decide +kernel

def w_EnginesFetchMoveClaimAndComplete_5_s : State := ctx_ [0x20003F, 0x0F00003E, 200, 0] (fun c => { c with asked := 64, staged := [(0, dataWord 5, none)] })
def w_EnginesFetchMoveClaimAndComplete_5_c : Ctx := w_EnginesFetchMoveClaimAndComplete_5_s.ctx 1 7 15
def w_EnginesFetchMoveClaimAndComplete_5_ws : List TWord := [dataWord 5]
theorem test_w_EnginesFetchMoveClaimAndComplete_5 : 7 < engCount 1 ∧
    15 < 16 ∧
    ((∀ y, y < 16 → y ≠ 15 → w_EnginesFetchMoveClaimAndComplete_5_s.rf F.CTX_CTL_RUN 1 7 y = 0)) ∧
    w_EnginesFetchMoveClaimAndComplete_5_s.rf F.CTX_CTL_RUN 1 7 15 = 1 ∧
    w_EnginesFetchMoveClaimAndComplete_5_c = w_EnginesFetchMoveClaimAndComplete_5_s.ctx 1 7 15 ∧
    w_EnginesFetchMoveClaimAndComplete_5_c.desc ≠ [] ∧
    w_EnginesFetchMoveClaimAndComplete_5_ws = w_EnginesFetchMoveClaimAndComplete_5_c.ready.map Prod.fst ∧
    w_EnginesFetchMoveClaimAndComplete_5_ws ≠ [] ∧
    1 = w_EnginesFetchMoveClaimAndComplete_5_ws.length ∧
    ((w_EnginesFetchMoveClaimAndComplete_5_c.dstWin = true → ∀ w, w ∈ w_EnginesFetchMoveClaimAndComplete_5_ws → w.tag.toNat < 2)) ∧
    (((w_EnginesFetchMoveClaimAndComplete_5_s.landOf w_EnginesFetchMoveClaimAndComplete_5_c.dst).isNone = true ∨ 1 ≤ w_EnginesFetchMoveClaimAndComplete_5_c.grant)) ∧
    w_EnginesFetchMoveClaimAndComplete_5_c.moved + 1 < w_EnginesFetchMoveClaimAndComplete_5_c.need ∧
    w_EnginesFetchMoveClaimAndComplete_5_s.rf F.CTX_WORDS_CNT_COUNT 1 7 15 + 1 < 2 ^ 40 := by decide +kernel

def w_EnginesFetchMoveClaimAndComplete_5a_s : State := ctx_ [0x20003F, 0x1FFFF, 200, 0] (fun c => { c with asked := 64, grant := 1, staged := [(0, dataWord 5, none)] })
def w_EnginesFetchMoveClaimAndComplete_5a_c : Ctx := w_EnginesFetchMoveClaimAndComplete_5a_s.ctx 1 7 15
def w_EnginesFetchMoveClaimAndComplete_5a_ws : List TWord := [dataWord 5]
theorem test_w_EnginesFetchMoveClaimAndComplete_5a : 7 < engCount 1 ∧
    15 < 16 ∧
    ((∀ y, y < 16 → y ≠ 15 → w_EnginesFetchMoveClaimAndComplete_5a_s.rf F.CTX_CTL_RUN 1 7 y = 0)) ∧
    w_EnginesFetchMoveClaimAndComplete_5a_s.rf F.CTX_CTL_RUN 1 7 15 = 1 ∧
    w_EnginesFetchMoveClaimAndComplete_5a_c = w_EnginesFetchMoveClaimAndComplete_5a_s.ctx 1 7 15 ∧
    w_EnginesFetchMoveClaimAndComplete_5a_c.desc ≠ [] ∧
    w_EnginesFetchMoveClaimAndComplete_5a_ws = w_EnginesFetchMoveClaimAndComplete_5a_c.ready.map Prod.fst ∧
    w_EnginesFetchMoveClaimAndComplete_5a_ws ≠ [] ∧
    1 = w_EnginesFetchMoveClaimAndComplete_5a_ws.length ∧
    ((w_EnginesFetchMoveClaimAndComplete_5a_c.dstWin = true → ∀ w, w ∈ w_EnginesFetchMoveClaimAndComplete_5a_ws → w.tag.toNat < 2)) ∧
    (((w_EnginesFetchMoveClaimAndComplete_5a_s.landOf w_EnginesFetchMoveClaimAndComplete_5a_c.dst).isNone = true ∨ 1 ≤ w_EnginesFetchMoveClaimAndComplete_5a_c.grant)) ∧
    w_EnginesFetchMoveClaimAndComplete_5a_c.moved + 1 < w_EnginesFetchMoveClaimAndComplete_5a_c.need ∧
    w_EnginesFetchMoveClaimAndComplete_5a_s.rf F.CTX_WORDS_CNT_COUNT 1 7 15 + 1 < 2 ^ 40 := by decide +kernel

def w_EnginesFetchMoveClaimAndComplete_6_s : State := ctx_ [0x20003F, 0x1FFFF, 200, 0] (fun c => { c with asked := 64, staged := [(0, dataWord 5, none)] })
def w_EnginesFetchMoveClaimAndComplete_6_a : Nat := 0x0 + w_EnginesFetchMoveClaimAndComplete_6_s.glob 0 (claimBase 0 0)
def w_EnginesFetchMoveClaimAndComplete_6_l : Nat × Nat := (0, 0)
def w_EnginesFetchMoveClaimAndComplete_6_c : Ctx := w_EnginesFetchMoveClaimAndComplete_6_s.ctx 1 7 15
theorem test_w_EnginesFetchMoveClaimAndComplete_6 : 7 < engCount 1 ∧
    15 < 16 ∧
    ((∀ y, y < 16 → y ≠ 15 → w_EnginesFetchMoveClaimAndComplete_6_s.rf F.CTX_CTL_RUN 1 7 y = 0)) ∧
    w_EnginesFetchMoveClaimAndComplete_6_s.rf F.CTX_CTL_RUN 1 7 15 = 1 ∧
    w_EnginesFetchMoveClaimAndComplete_6_c = w_EnginesFetchMoveClaimAndComplete_6_s.ctx 1 7 15 ∧
    w_EnginesFetchMoveClaimAndComplete_6_c.desc ≠ [] ∧
    w_EnginesFetchMoveClaimAndComplete_6_c.ready ≠ [] ∧
    w_EnginesFetchMoveClaimAndComplete_6_c.grant = 0 ∧
    w_EnginesFetchMoveClaimAndComplete_6_c.reads = [] ∧
    w_EnginesFetchMoveClaimAndComplete_6_c.dstWin = false ∧
    w_EnginesFetchMoveClaimAndComplete_6_s.landOf w_EnginesFetchMoveClaimAndComplete_6_c.dst = some w_EnginesFetchMoveClaimAndComplete_6_l ∧
    w_EnginesFetchMoveClaimAndComplete_6_s.freeTag 1 (engMaster 1 7) = some 0 ∧
    w_EnginesFetchMoveClaimAndComplete_6_a = w_EnginesFetchMoveClaimAndComplete_6_s.glob w_EnginesFetchMoveClaimAndComplete_6_l.1 (claimBase w_EnginesFetchMoveClaimAndComplete_6_l.1 w_EnginesFetchMoveClaimAndComplete_6_l.2) := by decide +kernel

def w_EnginesFetchMoveClaimAndComplete_7_s : State := ctx_ [0x20003F, 0x5000F, 0x7F8000000001, 0x1234] (fun c => { c with moved := 1, asked := 1, finishing := true })
def w_EnginesFetchMoveClaimAndComplete_7_c : Ctx := w_EnginesFetchMoveClaimAndComplete_7_s.ctx 1 7 15
theorem test_w_EnginesFetchMoveClaimAndComplete_7 : 7 < engCount 1 ∧
    15 < 16 ∧
    1 < 8 ∧
    ((∀ y, y < 16 → y ≠ 15 → w_EnginesFetchMoveClaimAndComplete_7_s.rf F.CTX_CTL_RUN 1 7 y = 0)) ∧
    w_EnginesFetchMoveClaimAndComplete_7_s.rf F.CTX_CTL_RUN 1 7 15 = 1 ∧
    w_EnginesFetchMoveClaimAndComplete_7_c = w_EnginesFetchMoveClaimAndComplete_7_s.ctx 1 7 15 ∧
    w_EnginesFetchMoveClaimAndComplete_7_c.desc ≠ [] ∧
    w_EnginesFetchMoveClaimAndComplete_7_c.ready = [] ∧
    w_EnginesFetchMoveClaimAndComplete_7_c.finishing = true ∧
    w_EnginesFetchMoveClaimAndComplete_7_c.backs = [] ∧
    w_EnginesFetchMoveClaimAndComplete_7_c.reads = [] := by decide +kernel

def w_EnginesFetchMoveClaimAndComplete_8_s : State := s0.setLand 0 127 ⟨[rdTxn 1 20 (s0.glob 0 0x0F083FFF)], 64⟩
def w_EnginesFetchMoveClaimAndComplete_8_q : Txn := rdTxn 1 20 (s0.glob 0 0x0F083FFF)
def w_EnginesFetchMoveClaimAndComplete_8_rest : List Txn := []
theorem test_w_EnginesFetchMoveClaimAndComplete_8 : (w_EnginesFetchMoveClaimAndComplete_8_s.land 0 127).claims = w_EnginesFetchMoveClaimAndComplete_8_q :: w_EnginesFetchMoveClaimAndComplete_8_rest ∧
    w_EnginesFetchMoveClaimAndComplete_8_q.len = 1 ∧
    w_EnginesFetchMoveClaimAndComplete_8_q.op = .read ∧
    64 = addrLocal w_EnginesFetchMoveClaimAndComplete_8_q.addr % 64 + 1 := by decide +kernel

def w_EnginesFetchMoveClaimAndComplete_8a_s : State := s0.setLand 0 127 ⟨[rdTxn 1 20 (s0.glob 0 0x0F083FFF)], 65⟩
def w_EnginesFetchMoveClaimAndComplete_8a_q : Txn := rdTxn 1 20 (s0.glob 0 0x0F083FFF)
def w_EnginesFetchMoveClaimAndComplete_8a_rest : List Txn := []
theorem test_w_EnginesFetchMoveClaimAndComplete_8a : (w_EnginesFetchMoveClaimAndComplete_8a_s.land 0 127).claims = w_EnginesFetchMoveClaimAndComplete_8a_q :: w_EnginesFetchMoveClaimAndComplete_8a_rest ∧
    w_EnginesFetchMoveClaimAndComplete_8a_q.len = 1 ∧
    w_EnginesFetchMoveClaimAndComplete_8a_q.op = .read ∧
    64 = addrLocal w_EnginesFetchMoveClaimAndComplete_8a_q.addr % 64 + 1 := by decide +kernel

def w_EnginesFetchMoveClaimAndComplete_9_s : State := s0.setLand 1 19 ⟨[], 65⟩
def w_EnginesFetchMoveClaimAndComplete_9_q : Txn := wrTxn 1 20 (s0.glob 1 0x0F0324FF) [dataWord 64]
def w_EnginesFetchMoveClaimAndComplete_9_v : TWord := dataWord 64
theorem test_w_EnginesFetchMoveClaimAndComplete_9 : w_EnginesFetchMoveClaimAndComplete_9_s.hasDie 1 = true ∧
    w_EnginesFetchMoveClaimAndComplete_9_s.atDie 1 w_EnginesFetchMoveClaimAndComplete_9_q = true ∧
    w_EnginesFetchMoveClaimAndComplete_9_q.op = .write ∧
    w_EnginesFetchMoveClaimAndComplete_9_q.words = [w_EnginesFetchMoveClaimAndComplete_9_v] ∧
    claimOf 1 (addrLocal w_EnginesFetchMoveClaimAndComplete_9_q.addr) = some 19 ∧
    w_EnginesFetchMoveClaimAndComplete_9_v.data.toNat = 64 ∧
    w_EnginesFetchMoveClaimAndComplete_9_v.tag.toNat < 2 ∧
    w_EnginesFetchMoveClaimAndComplete_9_q.len = 1 ∧
    w_EnginesFetchMoveClaimAndComplete_9_q.vc ≠ .streams := by decide +kernel

def w_EnginesFetchMoveClaimAndComplete_9a_s : State := s0.setLand 1 19 ⟨[], 63⟩
def w_EnginesFetchMoveClaimAndComplete_9a_q : Txn := wrTxn 1 20 (s0.glob 1 0x0F0324FF) [dataWord 64]
def w_EnginesFetchMoveClaimAndComplete_9a_v : TWord := dataWord 64
theorem test_w_EnginesFetchMoveClaimAndComplete_9a : w_EnginesFetchMoveClaimAndComplete_9a_s.hasDie 1 = true ∧
    w_EnginesFetchMoveClaimAndComplete_9a_s.atDie 1 w_EnginesFetchMoveClaimAndComplete_9a_q = true ∧
    w_EnginesFetchMoveClaimAndComplete_9a_q.op = .write ∧
    w_EnginesFetchMoveClaimAndComplete_9a_q.words = [w_EnginesFetchMoveClaimAndComplete_9a_v] ∧
    claimOf 1 (addrLocal w_EnginesFetchMoveClaimAndComplete_9a_q.addr) = some 19 ∧
    w_EnginesFetchMoveClaimAndComplete_9a_v.data.toNat = 64 ∧
    w_EnginesFetchMoveClaimAndComplete_9a_v.tag.toNat < 2 ∧
    w_EnginesFetchMoveClaimAndComplete_9a_q.len = 1 ∧
    w_EnginesFetchMoveClaimAndComplete_9a_q.vc ≠ .streams := by decide +kernel

def w_EnginesFetchMoveClaimAndComplete_10_s : State := { s0.setLand 0 127 ⟨[], 65⟩ with credits := [(wrTxn 1 20 (s0.glob 0 0x0F048FFF) [dataWord 64], 1)] }
def w_EnginesFetchMoveClaimAndComplete_10_q : Txn := wrTxn 1 20 (s0.glob 0 0x0F048FFF) [dataWord 64]
def w_EnginesFetchMoveClaimAndComplete_10_rest : List (Txn × Nat) := []
theorem test_w_EnginesFetchMoveClaimAndComplete_10 : w_EnginesFetchMoveClaimAndComplete_10_s.credits = (w_EnginesFetchMoveClaimAndComplete_10_q, 1) :: w_EnginesFetchMoveClaimAndComplete_10_rest ∧
    w_EnginesFetchMoveClaimAndComplete_10_s.landOf w_EnginesFetchMoveClaimAndComplete_10_q.addr = some (0, 127) ∧
    1 ≤ (w_EnginesFetchMoveClaimAndComplete_10_s.land 0 127).used := by decide +kernel

def w_EnginesFetchMoveClaimAndComplete_11_s : State := (ctx_ [] (fun c => { c with empty := some 0 })).ww .TB_TIME 80 0
theorem test_w_EnginesFetchMoveClaimAndComplete_11 : (w_EnginesFetchMoveClaimAndComplete_11_s.ctx 1 7 15).empty = some 0 ∧
    80 ≤ w_EnginesFetchMoveClaimAndComplete_11_s.ago 0 := by decide +kernel

def w_InstancesResetAndKeepTheirMembers_1_s : State := ((put s0 [(F.INST_STAT_EPOCH, [255, 0, 15]), (F.CTX_CTL_RUN, [1, 1, 7, 15]), (F.CTX_CTL_IN_INST, [1, 1, 7, 15]), (F.CTX_CTL_INST, [15, 1, 7, 15])]).ww .INST_CH_LO 32 0 15).setSc 5 { (s0.sc 5) with txLen := 3, txHead := 1 }
def w_InstancesResetAndKeepTheirMembers_1_w : TWord := dataWord (2 ^ 47 + 3)
theorem test_w_InstancesResetAndKeepTheirMembers_1 : w_InstancesResetAndKeepTheirMembers_1_w.tag.toNat < 2 ∧
    bit w_InstancesResetAndKeepTheirMembers_1_w.data.toNat 47 = true ∧
    w_InstancesResetAndKeepTheirMembers_1_s.rf F.INST_STAT_BUSY 0 15 = 0 := by decide +kernel

def w_InstancesResetAndKeepTheirMembers_2_s : State := s0
def w_InstancesResetAndKeepTheirMembers_2_w : TWord := dataWord (2 ^ 47)
theorem test_w_InstancesResetAndKeepTheirMembers_2 : w_InstancesResetAndKeepTheirMembers_2_w.tag.toNat < 2 ∧
    bit w_InstancesResetAndKeepTheirMembers_2_w.data.toNat 47 = true ∧
    w_InstancesResetAndKeepTheirMembers_2_s.rf F.INST_STAT_BUSY 0 15 = 0 ∧
    w_InstancesResetAndKeepTheirMembers_2_s.instCtxs 15 = [] ∧
    w_InstancesResetAndKeepTheirMembers_2_s.instChannels 15 = [] ∧
    w_InstancesResetAndKeepTheirMembers_2_s.instIslands 15 = [] := by decide +kernel

def w_InstancesResetAndKeepTheirMembers_3_s : State := s0
def w_InstancesResetAndKeepTheirMembers_3_w : TWord := dataWord 0
theorem test_w_InstancesResetAndKeepTheirMembers_3 : w_InstancesResetAndKeepTheirMembers_3_w.tag.toNat < 2 ∧
    bit w_InstancesResetAndKeepTheirMembers_3_w.data.toNat 47 = false ∧
    w_InstancesResetAndKeepTheirMembers_3_s.rf F.INST_STAT_BUSY 0 15 = 0 := by decide +kernel

def w_InstancesResetAndKeepTheirMembers_4_s : State := put s0 [(F.INST_STAT_BUSY, [1, 0, 15])]
def w_InstancesResetAndKeepTheirMembers_4_w : TWord := dataWord (2 ^ 47 + 7)
theorem test_w_InstancesResetAndKeepTheirMembers_4 : w_InstancesResetAndKeepTheirMembers_4_w.tag.toNat < 2 ∧
    bit w_InstancesResetAndKeepTheirMembers_4_w.data.toNat 47 = true ∧
    w_InstancesResetAndKeepTheirMembers_4_s.rf F.INST_STAT_BUSY 0 15 = 1 := by decide +kernel

def w_InstancesResetAndKeepTheirMembers_5_s : State := put s0 [(F.INST_STAT_BUSY, [1, 0, 15]), (F.INST_CTL_RESET, [1, 0, 15])]
theorem test_w_InstancesResetAndKeepTheirMembers_5 : w_InstancesResetAndKeepTheirMembers_5_s.rf F.INST_STAT_BUSY 0 15 = 1 ∧
    (w_InstancesResetAndKeepTheirMembers_5_s.inst 15).wait = [] ∧
    (w_InstancesResetAndKeepTheirMembers_5_s.inst 15).again = false ∧
    (w_InstancesResetAndKeepTheirMembers_5_s.inst 15).began ≤ w_InstancesResetAndKeepTheirMembers_5_s.now ∧
    w_InstancesResetAndKeepTheirMembers_5_s.now < 2 ^ 32 ∧
    w_InstancesResetAndKeepTheirMembers_5_s.rf F.INST_RESET_CNT_COUNT 0 15 < 2 ^ 16 - 1 := by decide +kernel

def w_InstancesResetAndKeepTheirMembers_6_s : State := s0.setInst 15 ⟨[(0, 4, 1)], 0, false⟩
theorem test_w_InstancesResetAndKeepTheirMembers_6 : (w_InstancesResetAndKeepTheirMembers_6_s.inst 15).wait ≠ [] := by decide +kernel

def w_InstancesResetAndKeepTheirMembers_7_s : State := s0
def w_InstancesResetAndKeepTheirMembers_7_n : RegName := .INST_CH_LO
def w_InstancesResetAndKeepTheirMembers_7_w : TWord := dataWord (2 ^ 48 - 1)
theorem test_w_InstancesResetAndKeepTheirMembers_7 : w_InstancesResetAndKeepTheirMembers_7_w.tag.toNat < 2 ∧
    2 < 4 ∧
    w_InstancesResetAndKeepTheirMembers_7_s.rf F.INST_STAT_BUSY 0 15 = 0 ∧
    w_InstancesResetAndKeepTheirMembers_7_n = memberReg 2 ∧
    (2 ^ 48 - 2) = (if 2 = 2 then w_InstancesResetAndKeepTheirMembers_7_w.data.toNat / 2 * 2 else if 2 = 0 then w_InstancesResetAndKeepTheirMembers_7_w.data.toNat else w_InstancesResetAndKeepTheirMembers_7_w.data.toNat % 65536) ∧
    ((∀ j, j < 16 → j ≠ 15 → w_InstancesResetAndKeepTheirMembers_7_s.rw w_InstancesResetAndKeepTheirMembers_7_n 0 j &&& (2 ^ 48 - 2) = 0)) := by decide +kernel

def w_InstancesResetAndKeepTheirMembers_8_s : State := s0.ww .INST_ISL_HI 0x8000 0 3
def w_InstancesResetAndKeepTheirMembers_8_n : RegName := .INST_ISL_HI
def w_InstancesResetAndKeepTheirMembers_8_w : TWord := dataWord 0x18000
theorem test_w_InstancesResetAndKeepTheirMembers_8 : w_InstancesResetAndKeepTheirMembers_8_w.tag.toNat < 2 ∧
    1 < 4 ∧
    w_InstancesResetAndKeepTheirMembers_8_s.rf F.INST_STAT_BUSY 0 15 = 0 ∧
    w_InstancesResetAndKeepTheirMembers_8_n = memberReg 1 ∧
    0x8000 = (if 1 = 2 then w_InstancesResetAndKeepTheirMembers_8_w.data.toNat / 2 * 2 else if 1 = 0 then w_InstancesResetAndKeepTheirMembers_8_w.data.toNat else w_InstancesResetAndKeepTheirMembers_8_w.data.toNat % 65536) ∧
    3 < 16 ∧
    3 ≠ 15 ∧
    w_InstancesResetAndKeepTheirMembers_8_s.rw w_InstancesResetAndKeepTheirMembers_8_n 0 3 &&& 0x8000 ≠ 0 := by decide +kernel

def w_EventsAreCountedShadowedAndQueued_1_s : State := s0
theorem test_w_EventsAreCountedShadowedAndQueued_1 : w_EventsAreCountedShadowedAndQueued_1_s.faultLine.length ≤ 0 := by decide +kernel

def w_EventsAreCountedShadowedAndQueued_2_s : State := (put s0 [(F.FM_SRC_CTL_EN, [0, 0, 116])]).raise .faultLogOverflow 0 0
def w_EventsAreCountedShadowedAndQueued_2_e : FaultEv := faultEv .faultLogOverflow 0 0 0
theorem test_w_EventsAreCountedShadowedAndQueued_2 : w_EventsAreCountedShadowedAndQueued_2_s.faultLine[0]? = some w_EventsAreCountedShadowedAndQueued_2_e ∧
    w_EventsAreCountedShadowedAndQueued_2_e.forced = false ∧
    116 = w_EventsAreCountedShadowedAndQueued_2_e.src.num ∧
    w_EventsAreCountedShadowedAndQueued_2_s.rf F.FM_SRC_CTL_EN 0 116 = 0 ∧
    w_EventsAreCountedShadowedAndQueued_2_s.rf F.FM_SRC_CNT_COUNT 0 116 < 2 ^ 32 - 1 := by decide +kernel

def w_EventsAreCountedShadowedAndQueued_3_s : State := (s0.raise .dualActive 0 0).raise .faultLogOverflow 2 9
def w_EventsAreCountedShadowedAndQueued_3_e : FaultEv := faultEv .faultLogOverflow 2 9 0
def w_EventsAreCountedShadowedAndQueued_3_g : FaultEv := faultEv .faultLogOverflow 0 0 0
theorem test_w_EventsAreCountedShadowedAndQueued_3 : w_EventsAreCountedShadowedAndQueued_3_s.faultLine[1]? = some w_EventsAreCountedShadowedAndQueued_3_e ∧
    w_EventsAreCountedShadowedAndQueued_3_e.forced = false ∧
    116 = w_EventsAreCountedShadowedAndQueued_3_e.src.num ∧
    w_EventsAreCountedShadowedAndQueued_3_s.rf F.FM_SRC_CTL_EN 0 116 = 1 ∧
    w_EventsAreCountedShadowedAndQueued_3_s.rf F.FM_SRC_CNT_COUNT 0 116 < 2 ^ 32 - 1 ∧
    w_EventsAreCountedShadowedAndQueued_3_s.shadows = [] ∧
    (w_EventsAreCountedShadowedAndQueued_3_s.fmWaiting 116).length < 65535 ∧
    w_EventsAreCountedShadowedAndQueued_3_g = { w_EventsAreCountedShadowedAndQueued_3_e with time := w_EventsAreCountedShadowedAndQueued_3_s.now, epoch := w_EventsAreCountedShadowedAndQueued_3_s.rf F.TB_EPOCH_EPOCH 0 % 256, die := (normUnit 116 w_EventsAreCountedShadowedAndQueued_3_e.die w_EventsAreCountedShadowedAndQueued_3_e.unit).1, unit := (normUnit 116 w_EventsAreCountedShadowedAndQueued_3_e.die w_EventsAreCountedShadowedAndQueued_3_e.unit).2 } := by decide +kernel

def w_EventsAreCountedShadowedAndQueued_4_s : State := { s0.raise .windowReadAbandoned 1 15 with shadows := [⟨1, 15, 5, false, 0, []⟩] }
def w_EventsAreCountedShadowedAndQueued_4_e : FaultEv := faultEv .windowReadAbandoned 1 15 0
def w_EventsAreCountedShadowedAndQueued_4_g : FaultEv := faultEv .windowReadAbandoned 1 15 0
def w_EventsAreCountedShadowedAndQueued_4_x : Shadow := ⟨1, 15, 5, false, 0, []⟩
theorem test_w_EventsAreCountedShadowedAndQueued_4 : w_EventsAreCountedShadowedAndQueued_4_s.faultLine[0]? = some w_EventsAreCountedShadowedAndQueued_4_e ∧
    w_EventsAreCountedShadowedAndQueued_4_e.forced = false ∧
    11 = w_EventsAreCountedShadowedAndQueued_4_e.src.num ∧
    w_EventsAreCountedShadowedAndQueued_4_s.rf F.FM_SRC_CTL_EN 0 11 = 1 ∧
    w_EventsAreCountedShadowedAndQueued_4_s.rf F.FM_SRC_CNT_COUNT 0 11 < 2 ^ 32 - 1 ∧
    w_EventsAreCountedShadowedAndQueued_4_s.rf F.FM_SHADOW_CNT_COUNT 0 < 2 ^ 32 - 1 ∧
    w_EventsAreCountedShadowedAndQueued_4_g = { w_EventsAreCountedShadowedAndQueued_4_e with time := w_EventsAreCountedShadowedAndQueued_4_s.now, epoch := w_EventsAreCountedShadowedAndQueued_4_s.rf F.TB_EPOCH_EPOCH 0 % 256, die := (normUnit 11 w_EventsAreCountedShadowedAndQueued_4_e.die w_EventsAreCountedShadowedAndQueued_4_e.unit).1, unit := (normUnit 11 w_EventsAreCountedShadowedAndQueued_4_e.die w_EventsAreCountedShadowedAndQueued_4_e.unit).2 } ∧
    w_EventsAreCountedShadowedAndQueued_4_s.shadows = [w_EventsAreCountedShadowedAndQueued_4_x] ∧
    w_EventsAreCountedShadowedAndQueued_4_s.borders w_EventsAreCountedShadowedAndQueued_4_g w_EventsAreCountedShadowedAndQueued_4_x = true ∧
    w_EventsAreCountedShadowedAndQueued_4_x.sums = [] := by decide +kernel

def w_EventsAreCountedShadowedAndQueued_5_s : State := s0.raise .faultLogOverflow 0 0
def w_EventsAreCountedShadowedAndQueued_5_e : FaultEv := faultEv .faultLogOverflow 0 0 0
theorem test_w_EventsAreCountedShadowedAndQueued_5 : w_EventsAreCountedShadowedAndQueued_5_s.faultLine[0]? = some w_EventsAreCountedShadowedAndQueued_5_e ∧
    w_EventsAreCountedShadowedAndQueued_5_e.forced = false ∧
    116 = w_EventsAreCountedShadowedAndQueued_5_e.src.num ∧
    w_EventsAreCountedShadowedAndQueued_5_s.rf F.FM_SRC_CTL_EN 0 116 = 1 ∧
    w_EventsAreCountedShadowedAndQueued_5_s.shadows = [] := by decide +kernel

def w_EventsAreClassifiedAndSourcesClear_1_s : State := s0
theorem test_w_EventsAreClassifiedAndSourcesClear_1 : ((∀ k, k < 116 → w_EventsAreClassifiedAndSourcesClear_1_s.fmWaiting (k + 1) = [])) := by decide +kernel

def w_EventsAreClassifiedAndSourcesClear_2_s : State := fm_ 116 [(F.FM_SRC_CTL_REACT_SEV, [1, 0, 112])] 112 [faultEv .thermalTrip 0 0 7]
def w_EventsAreClassifiedAndSourcesClear_2_e : FaultEv := faultEv .thermalTrip 0 0 7
def w_EventsAreClassifiedAndSourcesClear_2_rest : List FaultEv := []
theorem test_w_EventsAreClassifiedAndSourcesClear_2 : 111 < 116 ∧
    112 = (w_EventsAreClassifiedAndSourcesClear_2_s.fm.rot + 111) % 116 + 1 ∧
    ((∀ j, j < 111 → w_EventsAreClassifiedAndSourcesClear_2_s.fmWaiting ((w_EventsAreClassifiedAndSourcesClear_2_s.fm.rot + j) % 116 + 1) = [])) ∧
    w_EventsAreClassifiedAndSourcesClear_2_s.fmWaiting 112 = w_EventsAreClassifiedAndSourcesClear_2_e :: w_EventsAreClassifiedAndSourcesClear_2_rest ∧
    w_EventsAreClassifiedAndSourcesClear_2_e.forced = false ∧
    w_EventsAreClassifiedAndSourcesClear_2_e.promote = false ∧
    2 = (faultSpec 112).base ∧
    2 ≤ 2 ∧
    2 < 4 ∧
    w_EventsAreClassifiedAndSourcesClear_2_s.rf F.FM_SRC_CTL_EN 0 112 = 1 ∧
    w_EventsAreClassifiedAndSourcesClear_2_s.rf F.FM_SRC_STAT_IN_FAULT 0 112 = 0 ∧
    w_EventsAreClassifiedAndSourcesClear_2_s.rf F.FM_SRC_CTL_REACT_SEV 0 112 = 1 ∧
    w_EventsAreClassifiedAndSourcesClear_2_s.fm.log.length < 256 ∧
    (w_EventsAreClassifiedAndSourcesClear_2_s.fmSrc 112).merged = 0 := by decide +kernel

def w_EventsAreClassifiedAndSourcesClear_3_s : State := fm_ 3 [(F.FM_SRC_CTL_N, [2, 0, 4]), (F.FM_SRC_CTL_REACT_BASE, [1, 0, 4])] 4 [faultEv .registerWriteRefused 0 0 7]
def w_EventsAreClassifiedAndSourcesClear_3_e : FaultEv := faultEv .registerWriteRefused 0 0 7
theorem test_w_EventsAreClassifiedAndSourcesClear_3 : 4 = w_EventsAreClassifiedAndSourcesClear_3_s.fm.rot % 116 + 1 ∧
    w_EventsAreClassifiedAndSourcesClear_3_s.fmWaiting 4 = [w_EventsAreClassifiedAndSourcesClear_3_e] ∧
    w_EventsAreClassifiedAndSourcesClear_3_e.forced = false ∧
    w_EventsAreClassifiedAndSourcesClear_3_e.promote = false ∧
    (faultSpec 4).base < 2 ∧
    w_EventsAreClassifiedAndSourcesClear_3_s.rf F.FM_SRC_CTL_EN 0 4 = 1 ∧
    w_EventsAreClassifiedAndSourcesClear_3_s.rf F.FM_SRC_STAT_IN_FAULT 0 4 = 0 ∧
    w_EventsAreClassifiedAndSourcesClear_3_s.rf F.FM_SRC_STAT_WIN_OPEN 0 4 = 0 ∧
    2 ≤ w_EventsAreClassifiedAndSourcesClear_3_s.rf F.FM_SRC_CTL_N 0 4 ∧
    w_EventsAreClassifiedAndSourcesClear_3_s.rf F.FM_SRC_CTL_REACT_BASE 0 4 = 1 ∧
    w_EventsAreClassifiedAndSourcesClear_3_s.fm.log.length < 256 := by decide +kernel

def w_EventsAreClassifiedAndSourcesClear_4_s : State := (fm_ 3 [(F.FM_SRC_STAT_SEV, [0, 0, 4]), (F.FM_SRC_STAT_IN_FAULT, [1, 0, 4]), (F.FM_SRC_STAT_WIN_OPEN, [1, 0, 4]), (F.FM_SRC_STAT_WIN_COUNT, [1, 0, 4]), (F.FM_SRC_CTL_REACT_SEV, [1, 0, 4])] 4 [{ faultEv .registerWriteRefused 0 0 7 with time := 999 }]).setFmSrc 4 { FmSrc.init with winN := 2, merged := 65534 }
def w_EventsAreClassifiedAndSourcesClear_4_e : FaultEv := { faultEv .registerWriteRefused 0 0 7 with time := 999 }
theorem test_w_EventsAreClassifiedAndSourcesClear_4 : 4 = w_EventsAreClassifiedAndSourcesClear_4_s.fm.rot % 116 + 1 ∧
    w_EventsAreClassifiedAndSourcesClear_4_s.fmWaiting 4 = [w_EventsAreClassifiedAndSourcesClear_4_e] ∧
    w_EventsAreClassifiedAndSourcesClear_4_e.forced = false ∧
    w_EventsAreClassifiedAndSourcesClear_4_e.promote = false ∧
    (faultSpec 4).base < 2 ∧
    w_EventsAreClassifiedAndSourcesClear_4_s.rf F.FM_SRC_CTL_EN 0 4 = 1 ∧
    w_EventsAreClassifiedAndSourcesClear_4_s.rf F.FM_SRC_STAT_IN_FAULT 0 4 = 1 ∧
    w_EventsAreClassifiedAndSourcesClear_4_s.rf F.FM_SRC_STAT_SEV 0 4 = (faultSpec 4).base ∧
    w_EventsAreClassifiedAndSourcesClear_4_s.rf F.FM_SRC_STAT_WIN_OPEN 0 4 = 1 ∧
    2 = w_EventsAreClassifiedAndSourcesClear_4_s.rf F.FM_SRC_STAT_WIN_COUNT 0 4 + 1 ∧
    (w_EventsAreClassifiedAndSourcesClear_4_s.fmSrc 4).winN = 2 ∧
    (w_EventsAreClassifiedAndSourcesClear_4_s.fmSrc 4).winAt ≤ w_EventsAreClassifiedAndSourcesClear_4_e.time ∧
    w_EventsAreClassifiedAndSourcesClear_4_e.time < 2 ^ 48 ∧
    w_EventsAreClassifiedAndSourcesClear_4_e.time - (w_EventsAreClassifiedAndSourcesClear_4_s.fmSrc 4).winAt < 2 ^ (w_EventsAreClassifiedAndSourcesClear_4_s.fmSrc 4).winTexp * 1000 ∧
    w_EventsAreClassifiedAndSourcesClear_4_s.rf F.FM_SRC_CTL_REACT_SEV 0 4 = 1 ∧
    w_EventsAreClassifiedAndSourcesClear_4_s.fm.log.length < 256 := by decide +kernel

def w_EventsAreClassifiedAndSourcesClear_5_s : State := (put (at_ 1000) [(F.FM_SRC_STAT_WIN_OPEN, [1, 0, 116]), (F.FM_SRC_STAT_WIN_COUNT, [5, 0, 116])])
theorem test_w_EventsAreClassifiedAndSourcesClear_5 : w_EventsAreClassifiedAndSourcesClear_5_s.rf F.FM_SRC_STAT_WIN_OPEN 0 116 = 1 ∧
    (w_EventsAreClassifiedAndSourcesClear_5_s.fmSrc 116).winAt ≤ w_EventsAreClassifiedAndSourcesClear_5_s.now ∧
    w_EventsAreClassifiedAndSourcesClear_5_s.now - (w_EventsAreClassifiedAndSourcesClear_5_s.fmSrc 116).winAt < 2 ^ 48 ∧
    2 ^ (w_EventsAreClassifiedAndSourcesClear_5_s.fmSrc 116).winTexp * 1000 ≤ w_EventsAreClassifiedAndSourcesClear_5_s.now - (w_EventsAreClassifiedAndSourcesClear_5_s.fmSrc 116).winAt := by decide +kernel

def w_EventsAreClassifiedAndSourcesClear_6_s : State := (put (at_ 1000000) [(F.FM_SRC_STAT_IN_FAULT, [1, 0, 116]), (F.FM_SRC_CTL_QUIET_MS, [1, 0, 116])]).setFmSrc 116 { FmSrc.init with react := 1 }
theorem test_w_EventsAreClassifiedAndSourcesClear_6 : w_EventsAreClassifiedAndSourcesClear_6_s.rf F.FM_SRC_STAT_IN_FAULT 0 116 = 1 ∧
    w_EventsAreClassifiedAndSourcesClear_6_s.rf F.FM_SRC_STAT_SEV 0 116 ≠ 3 ∧
    w_EventsAreClassifiedAndSourcesClear_6_s.fmWaiting 116 = [] ∧
    (w_EventsAreClassifiedAndSourcesClear_6_s.fmSrc 116).lastAt ≤ w_EventsAreClassifiedAndSourcesClear_6_s.now ∧
    w_EventsAreClassifiedAndSourcesClear_6_s.now - (w_EventsAreClassifiedAndSourcesClear_6_s.fmSrc 116).lastAt < 2 ^ 48 ∧
    w_EventsAreClassifiedAndSourcesClear_6_s.rf F.FM_SRC_CTL_QUIET_MS 0 116 * 1000000 ≤ w_EventsAreClassifiedAndSourcesClear_6_s.now - (w_EventsAreClassifiedAndSourcesClear_6_s.fmSrc 116).lastAt ∧
    bit (w_EventsAreClassifiedAndSourcesClear_6_s.fmSrc 116).react 0 = true ∧
    w_EventsAreClassifiedAndSourcesClear_6_s.fm.log.length < 256 ∧
    w_EventsAreClassifiedAndSourcesClear_6_s.rf F.FM_SRC_RECOV_COUNT 0 116 < 2 ^ 16 - 1 := by decide +kernel

def w_EventsAreClassifiedAndSourcesClear_7_s : State := put s0 [(F.FM_SRC_STAT_SEV, [3, 0, 116])]
theorem test_w_EventsAreClassifiedAndSourcesClear_7 : ((w_EventsAreClassifiedAndSourcesClear_7_s.rf F.FM_SRC_STAT_SEV 0 116 = 3 ∨ w_EventsAreClassifiedAndSourcesClear_7_s.fmWaiting 116 ≠ [])) := by decide +kernel

def w_EventsAreClassifiedAndSourcesClear_8_s : State := { at_ 1000 with shadows := [⟨4, 15, 5, true, 1000, [(11, 70000, faultEv .windowReadAbandoned 4 15 3)]⟩] }
def w_EventsAreClassifiedAndSourcesClear_8_x : Shadow := ⟨4, 15, 5, true, 1000, [(11, 70000, faultEv .windowReadAbandoned 4 15 3)]⟩
def w_EventsAreClassifiedAndSourcesClear_8_e : FaultEv := faultEv .windowReadAbandoned 4 15 3
theorem test_w_EventsAreClassifiedAndSourcesClear_8 : w_EventsAreClassifiedAndSourcesClear_8_s.shadows = [w_EventsAreClassifiedAndSourcesClear_8_x] ∧
    w_EventsAreClassifiedAndSourcesClear_8_x.ended = true ∧
    w_EventsAreClassifiedAndSourcesClear_8_x.stop ≤ w_EventsAreClassifiedAndSourcesClear_8_s.now ∧
    w_EventsAreClassifiedAndSourcesClear_8_s.now - w_EventsAreClassifiedAndSourcesClear_8_x.stop < 2 ^ 47 ∧
    w_EventsAreClassifiedAndSourcesClear_8_x.sums = [(11, 70000, w_EventsAreClassifiedAndSourcesClear_8_e)] ∧
    w_EventsAreClassifiedAndSourcesClear_8_s.rf F.FM_SRC_CTL_EN 0 11 = 1 ∧
    w_EventsAreClassifiedAndSourcesClear_8_s.fm.log.length < 256 ∧
    w_EventsAreClassifiedAndSourcesClear_8_x.root < 256 := by decide +kernel

def w_EventsAreClassifiedAndSourcesClear_9_s : State := put s0 [(F.FM_SRC_STAT_SEV, [3, 0, 116]), (F.FM_SRC_STAT_IN_FAULT, [1, 0, 116])]
def w_EventsAreClassifiedAndSourcesClear_9_w : TWord := dataWord (2 ^ 46 + 2 ^ 45 - 1)
theorem test_w_EventsAreClassifiedAndSourcesClear_9 : 1 ≤ 116 ∧
    116 ≤ 116 ∧
    w_EventsAreClassifiedAndSourcesClear_9_w.tag.toNat < 2 ∧
    bit w_EventsAreClassifiedAndSourcesClear_9_w.data.toNat 46 = true ∧
    bit w_EventsAreClassifiedAndSourcesClear_9_w.data.toNat 47 = false := by decide +kernel

def w_EventsAreClassifiedAndSourcesClear_10_s : State := put s0 [(F.FM_SRC_RECOV_FORCE_DIE, [4, 0, 5]), (F.FM_SRC_RECOV_FORCE_UNIT, [15, 0, 5])]
def w_EventsAreClassifiedAndSourcesClear_10_w : TWord := dataWord (2 ^ 47)
theorem test_w_EventsAreClassifiedAndSourcesClear_10 : 1 ≤ 5 ∧
    5 ≤ 116 ∧
    w_EventsAreClassifiedAndSourcesClear_10_w.tag.toNat < 2 ∧
    bit w_EventsAreClassifiedAndSourcesClear_10_w.data.toNat 46 = false ∧
    bit w_EventsAreClassifiedAndSourcesClear_10_w.data.toNat 47 = true := by decide +kernel

def w_EventsAreClassifiedAndSourcesClear_11_s : State := s0.setFm { s0.fm with log := [⟨1, 2, 3, 4⟩, ⟨5, 6, 7, 8⟩] }
def w_EventsAreClassifiedAndSourcesClear_11_w : TWord := dataWord (2 ^ 47)
theorem test_w_EventsAreClassifiedAndSourcesClear_11 : w_EventsAreClassifiedAndSourcesClear_11_w.tag.toNat < 2 := by decide +kernel

def w_TheGatewayCarriesTransactions_1_s : State := { (put s0 [(F.JD_CTL_GW_EN, [1, 0]), (F.SL_STAT_STATE, [2, 0, 7])]).ww .JD_ROUTE 7 0 42 with gw := { s0.gw with waiting := [rdTxn 1 3 (504 * 2 ^ 39)], orig := [⟨0, rdTxn 1 2 5, 7⟩] } }
def w_TheGatewayCarriesTransactions_1_q : Txn := rdTxn 1 3 (504 * 2 ^ 39)
def w_TheGatewayCarriesTransactions_1_rest : List Txn := []
theorem test_w_TheGatewayCarriesTransactions_1 : w_TheGatewayCarriesTransactions_1_s.gw.waiting = [w_TheGatewayCarriesTransactions_1_q] ∧
    w_TheGatewayCarriesTransactions_1_s.rf F.JD_CTL_GW_EN 0 = 1 ∧
    w_TheGatewayCarriesTransactions_1_s.route (addrDev w_TheGatewayCarriesTransactions_1_q.addr) = 7 ∧
    7 ≠ 15 ∧
    w_TheGatewayCarriesTransactions_1_s.rf F.SL_STAT_STATE 0 7 = 2 ∧
    (w_TheGatewayCarriesTransactions_1_s.rf F.JD_CTL_DATELINE 0).testBit 7 = false ∧
    w_TheGatewayCarriesTransactions_1_s.gwSlots 7 0 0 ≠ 0 ∧
    w_TheGatewayCarriesTransactions_1_q.op = .read ∧
    1 < 256 ∧
    ((∀ o, o ∈ w_TheGatewayCarriesTransactions_1_s.gw.orig → o.tag ≠ 1)) ∧
    ((∀ k, k < 1 → ∃ o, o ∈ w_TheGatewayCarriesTransactions_1_s.gw.orig ∧ o.tag = k)) ∧
    w_TheGatewayCarriesTransactions_1_rest = [] := by decide +kernel

def w_TheGatewayCarriesTransactions_2_s : State := { (put s0 [(F.JD_CTL_GW_EN, [1, 0]), (F.SL_STAT_STATE, [2, 0, 7])]).ww .JD_ROUTE 7 0 42 with gw := { s0.gw with waiting := [wrTxn 1 3 (504 * 2 ^ 39) [dataWord 1, dataWord 2]] } }
def w_TheGatewayCarriesTransactions_2_q : Txn := wrTxn 1 3 (504 * 2 ^ 39) [dataWord 1, dataWord 2]
theorem test_w_TheGatewayCarriesTransactions_2 : w_TheGatewayCarriesTransactions_2_s.gw.waiting = [w_TheGatewayCarriesTransactions_2_q] ∧
    w_TheGatewayCarriesTransactions_2_s.rf F.JD_CTL_GW_EN 0 = 1 ∧
    w_TheGatewayCarriesTransactions_2_s.route (addrDev w_TheGatewayCarriesTransactions_2_q.addr) = 7 ∧
    7 ≠ 15 ∧
    w_TheGatewayCarriesTransactions_2_s.rf F.SL_STAT_STATE 0 7 = 2 ∧
    (w_TheGatewayCarriesTransactions_2_s.rf F.JD_CTL_DATELINE 0).testBit 7 = false ∧
    w_TheGatewayCarriesTransactions_2_s.gwSlots 7 0 1 ≠ 0 ∧
    ((w_TheGatewayCarriesTransactions_2_q.op = .write ∨ w_TheGatewayCarriesTransactions_2_q.op = .narrowWrite)) ∧
    w_TheGatewayCarriesTransactions_2_q.vc = .posted := by decide +kernel

def w_TheGatewayCarriesTransactions_3_s : State := { put s0 [(F.JD_CTL_GW_EN, [0, 0])] with gw := { s0.gw with waiting := [rdTxn 1 3 (504 * 2 ^ 39)] } }
theorem test_w_TheGatewayCarriesTransactions_3 : w_TheGatewayCarriesTransactions_3_s.rf F.JD_CTL_GW_EN 0 = 0 := by decide +kernel

def w_TheGatewayCarriesTransactions_4_s : State := { (put s0 [(F.JD_CTL_GW_EN, [1, 0])]).ww .JD_ROUTE 0xF 0 42 with gw := { s0.gw with waiting := [rdTxn 1 3 (504 * 2 ^ 39)] } }
def w_TheGatewayCarriesTransactions_4_q : Txn := rdTxn 1 3 (504 * 2 ^ 39)
theorem test_w_TheGatewayCarriesTransactions_4 : w_TheGatewayCarriesTransactions_4_s.gw.waiting = [w_TheGatewayCarriesTransactions_4_q] ∧
    w_TheGatewayCarriesTransactions_4_s.rf F.JD_CTL_GW_EN 0 = 1 ∧
    w_TheGatewayCarriesTransactions_4_s.route (addrDev w_TheGatewayCarriesTransactions_4_q.addr) = 15 ∧
    w_TheGatewayCarriesTransactions_4_s.rf F.JD_UNREACH_CNT_COUNT 0 < 2 ^ 32 - 1 := by decide +kernel

def w_TheGatewayCarriesTransactions_5_s : State := put s0 [(F.SL_STAT_STATE, [2, 0, 7])]
def w_TheGatewayCarriesTransactions_5_cell : Nat := mkCell 0 3 0 0 false (2 ^ 196 + 255 * 2 ^ 188 + s0.devNum % 512 * 2 ^ 179 + 9 * 2 ^ 170 + 3 * 2 ^ 162 + 2 * 2 ^ 160 + wordsBody [dataWord (2 ^ 32 + 2 ^ 20), dataWord 0x100])
def w_TheGatewayCarriesTransactions_5_b : Nat := cellBody w_TheGatewayCarriesTransactions_5_cell
def w_TheGatewayCarriesTransactions_5_ws : List TWord := [dataWord (2 ^ 32 + 2 ^ 20), dataWord 0x100]
def w_TheGatewayCarriesTransactions_5_x : GwItem := ⟨false, 255, s0.devNum % 512, 9, 0, 0, 7, w_TheGatewayCarriesTransactions_5_ws⟩
def w_TheGatewayCarriesTransactions_5_q : Txn := ⟨.read, 0, 1, 0, 0x100, 1, 48, 0, [], .requests, 0⟩
theorem test_w_TheGatewayCarriesTransactions_5 : w_TheGatewayCarriesTransactions_5_s.cellDue 7 w_TheGatewayCarriesTransactions_5_cell = true ∧
    cellKind w_TheGatewayCarriesTransactions_5_cell = .system ∧
    7 < 8 ∧
    7 ≠ 2 ∧
    w_TheGatewayCarriesTransactions_5_b = cellBody w_TheGatewayCarriesTransactions_5_cell ∧
    w_TheGatewayCarriesTransactions_5_b / 2 ^ 196 % 16 = 1 ∧
    w_TheGatewayCarriesTransactions_5_b / 2 ^ 163 % 2 = 1 ∧
    w_TheGatewayCarriesTransactions_5_b / 2 ^ 162 % 2 = 1 ∧
    w_TheGatewayCarriesTransactions_5_ws = bodyWords (w_TheGatewayCarriesTransactions_5_b / 2 ^ 160 % 4) w_TheGatewayCarriesTransactions_5_b ∧
    w_TheGatewayCarriesTransactions_5_x = ⟨false, w_TheGatewayCarriesTransactions_5_b / 2 ^ 188 % 256, w_TheGatewayCarriesTransactions_5_b / 2 ^ 179 % 512, w_TheGatewayCarriesTransactions_5_b / 2 ^ 170 % 512, w_TheGatewayCarriesTransactions_5_b / 2 ^ 165 % 32, w_TheGatewayCarriesTransactions_5_b / 2 ^ 164 % 2, 7, w_TheGatewayCarriesTransactions_5_ws⟩ ∧
    w_TheGatewayCarriesTransactions_5_x.dst = w_TheGatewayCarriesTransactions_5_s.devNum % 512 ∧
    w_TheGatewayCarriesTransactions_5_s.gw.queue = [] ∧
    w_TheGatewayCarriesTransactions_5_x.txn = some w_TheGatewayCarriesTransactions_5_q ∧
    w_TheGatewayCarriesTransactions_5_q.op = .read ∧
    w_TheGatewayCarriesTransactions_5_s.freeTag 0 8 = some 0 := by decide +kernel

def w_TheGatewayCarriesTransactions_6_s : State := { put s0 [(F.SL_STAT_STATE, [2, 0, 7])] with gw := { s0.gw with orig := [⟨255, rdTxn 1 3 (504 * 2 ^ 39), 7⟩] } }
def w_TheGatewayCarriesTransactions_6_cell : Nat := mkCell 0 3 0 0 false (2 * 2 ^ 196 + 255 * 2 ^ 188 + 9 * 2 ^ 179 + s0.devNum % 512 * 2 ^ 170 + 3 * 2 ^ 162 + 3 * 2 ^ 160 + wordsBody [dataWord (8 * 2 ^ 44 + 2 ^ 20), dataWord 0x100, dataWord 77])
def w_TheGatewayCarriesTransactions_6_b : Nat := cellBody w_TheGatewayCarriesTransactions_6_cell
def w_TheGatewayCarriesTransactions_6_ws : List TWord := [dataWord (8 * 2 ^ 44 + 2 ^ 20), dataWord 0x100, dataWord 77]
def w_TheGatewayCarriesTransactions_6_x : GwItem := ⟨true, 255, 9, s0.devNum % 512, 0, 0, 7, w_TheGatewayCarriesTransactions_6_ws⟩
def w_TheGatewayCarriesTransactions_6_o : GwOrig := ⟨255, rdTxn 1 3 (504 * 2 ^ 39), 7⟩
theorem test_w_TheGatewayCarriesTransactions_6 : w_TheGatewayCarriesTransactions_6_s.cellDue 7 w_TheGatewayCarriesTransactions_6_cell = true ∧
    cellKind w_TheGatewayCarriesTransactions_6_cell = .system ∧
    7 < 8 ∧
    7 ≠ 2 ∧
    w_TheGatewayCarriesTransactions_6_b = cellBody w_TheGatewayCarriesTransactions_6_cell ∧
    w_TheGatewayCarriesTransactions_6_b / 2 ^ 196 % 16 = 2 ∧
    w_TheGatewayCarriesTransactions_6_b / 2 ^ 163 % 2 = 1 ∧
    w_TheGatewayCarriesTransactions_6_b / 2 ^ 162 % 2 = 1 ∧
    w_TheGatewayCarriesTransactions_6_ws = bodyWords (w_TheGatewayCarriesTransactions_6_b / 2 ^ 160 % 4) w_TheGatewayCarriesTransactions_6_b ∧
    w_TheGatewayCarriesTransactions_6_x = ⟨true, w_TheGatewayCarriesTransactions_6_b / 2 ^ 188 % 256, w_TheGatewayCarriesTransactions_6_b / 2 ^ 179 % 512, w_TheGatewayCarriesTransactions_6_b / 2 ^ 170 % 512, w_TheGatewayCarriesTransactions_6_b / 2 ^ 165 % 32, w_TheGatewayCarriesTransactions_6_b / 2 ^ 164 % 2, 7, w_TheGatewayCarriesTransactions_6_ws⟩ ∧
    w_TheGatewayCarriesTransactions_6_x.src = w_TheGatewayCarriesTransactions_6_s.devNum % 512 ∧
    w_TheGatewayCarriesTransactions_6_s.gw.queue = [] ∧
    w_TheGatewayCarriesTransactions_6_s.gw.orig = [w_TheGatewayCarriesTransactions_6_o] ∧
    w_TheGatewayCarriesTransactions_6_o.tag = w_TheGatewayCarriesTransactions_6_x.gwTag := by decide +kernel

def w_TheGatewayCarriesTransactions_7_s : State := { put s0 [(F.SL_STAT_STATE, [2, 0, 7])] with gw := { s0.gw with slots := [(56 + 5, 13)] } }
def w_TheGatewayCarriesTransactions_7_cell : Nat := mkCell 0 3 0 0 false (3 * 2 ^ 196 + 5 * 2 ^ 193 + 3 * 2 ^ 184)
def w_TheGatewayCarriesTransactions_7_b : Nat := cellBody w_TheGatewayCarriesTransactions_7_cell
theorem test_w_TheGatewayCarriesTransactions_7 : w_TheGatewayCarriesTransactions_7_s.cellDue 7 w_TheGatewayCarriesTransactions_7_cell = true ∧
    cellKind w_TheGatewayCarriesTransactions_7_cell = .system ∧
    7 < 8 ∧
    7 ≠ 2 ∧
    w_TheGatewayCarriesTransactions_7_b = cellBody w_TheGatewayCarriesTransactions_7_cell ∧
    w_TheGatewayCarriesTransactions_7_b / 2 ^ 196 % 16 = 3 ∧
    5 = w_TheGatewayCarriesTransactions_7_b / 2 ^ 193 % 8 ∧
    5 < 6 ∧
    16 = w_TheGatewayCarriesTransactions_7_s.gwSlots 7 (5 / 3) (5 % 3) + w_TheGatewayCarriesTransactions_7_b / 2 ^ 184 % 256 ∧
    w_TheGatewayCarriesTransactions_7_s.gw.queue = [] := by decide +kernel

def w_TheGatewayCarriesTransactions_7a_s : State := { put s0 [(F.SL_STAT_STATE, [2, 0, 7])] with gw := { s0.gw with slots := [(56 + 5, 13)] } }
def w_TheGatewayCarriesTransactions_7a_cell : Nat := mkCell 0 3 0 0 false (3 * 2 ^ 196 + 5 * 2 ^ 193 + 4 * 2 ^ 184)
def w_TheGatewayCarriesTransactions_7a_b : Nat := cellBody w_TheGatewayCarriesTransactions_7a_cell
theorem test_w_TheGatewayCarriesTransactions_7a : w_TheGatewayCarriesTransactions_7a_s.cellDue 7 w_TheGatewayCarriesTransactions_7a_cell = true ∧
    cellKind w_TheGatewayCarriesTransactions_7a_cell = .system ∧
    7 < 8 ∧
    7 ≠ 2 ∧
    w_TheGatewayCarriesTransactions_7a_b = cellBody w_TheGatewayCarriesTransactions_7a_cell ∧
    w_TheGatewayCarriesTransactions_7a_b / 2 ^ 196 % 16 = 3 ∧
    5 = w_TheGatewayCarriesTransactions_7a_b / 2 ^ 193 % 8 ∧
    5 < 6 ∧
    17 = w_TheGatewayCarriesTransactions_7a_s.gwSlots 7 (5 / 3) (5 % 3) + w_TheGatewayCarriesTransactions_7a_b / 2 ^ 184 % 256 ∧
    w_TheGatewayCarriesTransactions_7a_s.gw.queue = [] := by decide +kernel

def w_TimeIsExchangedBetweenDevices_1_s : State := { put (at_ 1000000) [(F.SL_STAT_STATE, [2, 0, 7]), (F.JD_TIME_CTL_FOLLOW, [1, 0]), (F.JD_TIME_CTL_LINK, [7, 0]), (F.JD_TIME_CTL_SYNC_EXP, [0, 0])] with dup := { s0.dup with syncSeq := 255 } }
theorem test_w_TimeIsExchangedBetweenDevices_1 : w_TimeIsExchangedBetweenDevices_1_s.timeLink = some 7 ∧
    w_TimeIsExchangedBetweenDevices_1_s.rf F.SL_STAT_STATE 0 7 = 2 ∧
    w_TimeIsExchangedBetweenDevices_1_s.dup.syncAt ≤ w_TimeIsExchangedBetweenDevices_1_s.now ∧
    w_TimeIsExchangedBetweenDevices_1_s.now < 2 ^ 48 ∧
    2 ^ w_TimeIsExchangedBetweenDevices_1_s.rf F.JD_TIME_CTL_SYNC_EXP 0 * 1000000 ≤ w_TimeIsExchangedBetweenDevices_1_s.now - w_TimeIsExchangedBetweenDevices_1_s.dup.syncAt := by decide +kernel

def w_TimeIsExchangedBetweenDevices_2_s : State := put (at_ 999999) [(F.SL_STAT_STATE, [2, 0, 7]), (F.JD_TIME_CTL_FOLLOW, [1, 0]), (F.JD_TIME_CTL_LINK, [7, 0]), (F.JD_TIME_CTL_SYNC_EXP, [0, 0])]
theorem test_w_TimeIsExchangedBetweenDevices_2 : w_TimeIsExchangedBetweenDevices_2_s.dup.syncAt ≤ w_TimeIsExchangedBetweenDevices_2_s.now ∧
    w_TimeIsExchangedBetweenDevices_2_s.now - w_TimeIsExchangedBetweenDevices_2_s.dup.syncAt < 1000000 := by decide +kernel

def w_TimeIsExchangedBetweenDevices_3_s : State := put (at_ 99) [(F.SL_STAT_STATE, [2, 0, 2])]
def w_TimeIsExchangedBetweenDevices_3_cell : Nat := mkCell 0 3 0 0 false (4 * 2 ^ 196 + 255 * 2 ^ 188)
def w_TimeIsExchangedBetweenDevices_3_b : Nat := cellBody w_TimeIsExchangedBetweenDevices_3_cell
theorem test_w_TimeIsExchangedBetweenDevices_3 : w_TimeIsExchangedBetweenDevices_3_s.cellDue 2 w_TimeIsExchangedBetweenDevices_3_cell = true ∧
    cellKind w_TimeIsExchangedBetweenDevices_3_cell = .system ∧
    w_TimeIsExchangedBetweenDevices_3_b = cellBody w_TimeIsExchangedBetweenDevices_3_cell ∧
    w_TimeIsExchangedBetweenDevices_3_b / 2 ^ 196 % 16 = 4 := by decide +kernel

def w_TimeIsExchangedBetweenDevices_4_s : State := { put (at_ 1000) [(F.SL_STAT_STATE, [2, 0, 7]), (F.JD_TIME_CTL_FOLLOW, [1, 0]), (F.JD_TIME_CTL_LINK, [7, 0])] with dup := { s0.dup with syncs := [(7, (255, 100))], inLock := 15 } }
def w_TimeIsExchangedBetweenDevices_4_cell : Nat := mkCell 0 3 0 0 false (5 * 2 ^ 196 + 255 * 2 ^ 188 + 600 * 2 ^ 116 + 540 * 2 ^ 68)
def w_TimeIsExchangedBetweenDevices_4_b : Nat := cellBody w_TimeIsExchangedBetweenDevices_4_cell
def w_TimeIsExchangedBetweenDevices_4_a : Int := 500
def w_TimeIsExchangedBetweenDevices_4_z : Int := 460
theorem test_w_TimeIsExchangedBetweenDevices_4 : w_TimeIsExchangedBetweenDevices_4_s.cellDue 7 w_TimeIsExchangedBetweenDevices_4_cell = true ∧
    cellKind w_TimeIsExchangedBetweenDevices_4_cell = .system ∧
    w_TimeIsExchangedBetweenDevices_4_b = cellBody w_TimeIsExchangedBetweenDevices_4_cell ∧
    w_TimeIsExchangedBetweenDevices_4_b / 2 ^ 196 % 16 = 5 ∧
    w_TimeIsExchangedBetweenDevices_4_s.dup.syncs = [(7, (255, 100))] ∧
    w_TimeIsExchangedBetweenDevices_4_s.timeLink = some 7 ∧
    255 = w_TimeIsExchangedBetweenDevices_4_b / 2 ^ 188 % 256 ∧
    600 = w_TimeIsExchangedBetweenDevices_4_b / 2 ^ 116 % 2 ^ 48 ∧
    540 = w_TimeIsExchangedBetweenDevices_4_b / 2 ^ 68 % 2 ^ 48 ∧
    w_TimeIsExchangedBetweenDevices_4_a = (600 : Int) - (100 : Int) ∧
    w_TimeIsExchangedBetweenDevices_4_z = (w_TimeIsExchangedBetweenDevices_4_s.now : Int) - (540 : Int) ∧
    100 < 2 ^ 47 ∧
    600 < 2 ^ 47 ∧
    540 < 2 ^ 47 ∧
    w_TimeIsExchangedBetweenDevices_4_s.now < 2 ^ 47 ∧
    (w_TimeIsExchangedBetweenDevices_4_a - w_TimeIsExchangedBetweenDevices_4_z) % 2 = 0 ∧
    0 ≤ w_TimeIsExchangedBetweenDevices_4_a - w_TimeIsExchangedBetweenDevices_4_z ∧
    w_TimeIsExchangedBetweenDevices_4_a - w_TimeIsExchangedBetweenDevices_4_z ≤ 40 ∧
    0 ≤ w_TimeIsExchangedBetweenDevices_4_a + w_TimeIsExchangedBetweenDevices_4_z := by decide +kernel

def w_EpochsAreCutCopiedAndCommitted_1_s : State := { put (at_ 250000) [(F.DUP_STAT_STATE, [2, 0]), (F.DEV_ROLE_CTL_ACTIVE, [1, 0]), (F.SL_STAT_STATE, [2, 0, 2]), (F.DUP_CTL_CUT_NOTICE, [0, 0])] with dup := { s0.dup with epoch := 2 ^ 32 - 1, per := 1, lastCut := 100000 } }
theorem test_w_EpochsAreCutCopiedAndCommitted_1 : w_EpochsAreCutCopiedAndCommitted_1_s.rf F.DUP_STAT_STATE 0 = 2 ∧
    w_EpochsAreCutCopiedAndCommitted_1_s.rf F.DEV_ROLE_CTL_ACTIVE 0 = 1 ∧
    w_EpochsAreCutCopiedAndCommitted_1_s.rf F.SL_STAT_STATE 0 2 = 2 ∧
    w_EpochsAreCutCopiedAndCommitted_1_s.dup.phase = 0 ∧
    200000 = w_EpochsAreCutCopiedAndCommitted_1_s.cutPoint w_EpochsAreCutCopiedAndCommitted_1_s.dup.per ∧
    w_EpochsAreCutCopiedAndCommitted_1_s.dup.lastCut < 200000 ∧
    200000 < 2 ^ 71 ∧
    w_EpochsAreCutCopiedAndCommitted_1_s.rf F.DUP_CTL_CUT_NOTICE 0 = 0 := by decide +kernel

def w_EpochsAreCutCopiedAndCommitted_2_s : State := { put (at_ 250000) [(F.DUP_STAT_STATE, [2, 0]), (F.DEV_ROLE_CTL_ACTIVE, [1, 0]), (F.SL_STAT_STATE, [2, 0, 2])] with dup := { s0.dup with phase := 2, per := 1, lastCut := 100000 } }
theorem test_w_EpochsAreCutCopiedAndCommitted_2 : 2 ≤ w_EpochsAreCutCopiedAndCommitted_2_s.rf F.DUP_STAT_STATE 0 ∧
    w_EpochsAreCutCopiedAndCommitted_2_s.rf F.DEV_ROLE_CTL_ACTIVE 0 = 1 ∧
    w_EpochsAreCutCopiedAndCommitted_2_s.rf F.SL_STAT_STATE 0 2 = 2 ∧
    w_EpochsAreCutCopiedAndCommitted_2_s.dup.phase ≠ 0 ∧
    200000 = w_EpochsAreCutCopiedAndCommitted_2_s.cutPoint w_EpochsAreCutCopiedAndCommitted_2_s.dup.per ∧
    w_EpochsAreCutCopiedAndCommitted_2_s.dup.lastCut < 200000 ∧
    200000 < 2 ^ 71 ∧
    w_EpochsAreCutCopiedAndCommitted_2_s.rf F.DUP_OVERRUN_CNT_COUNT 0 < 2 ^ 32 - 1 := by decide +kernel

def w_EpochsAreCutCopiedAndCommitted_3_s : State := { at_ 250000 with dup := { s0.dup with per := 1, lastCut := 200000 } }
theorem test_w_EpochsAreCutCopiedAndCommitted_3 : w_EpochsAreCutCopiedAndCommitted_3_s.dup.lastCut = w_EpochsAreCutCopiedAndCommitted_3_s.cutPoint w_EpochsAreCutCopiedAndCommitted_3_s.dup.per ∧
    w_EpochsAreCutCopiedAndCommitted_3_s.dup.lastCut < 2 ^ 72 := by decide +kernel

def w_EpochsAreCutCopiedAndCommitted_4_s : State := { put (at_ 201000) [(F.SL_STAT_STATE, [2, 0, 2])] with dup := { s0.dup with epoch := 7, phase := 1, snap := 1, tCut := 200000 } }
theorem test_w_EpochsAreCutCopiedAndCommitted_4 : w_EpochsAreCutCopiedAndCommitted_4_s.dup.phase = 1 ∧
    w_EpochsAreCutCopiedAndCommitted_4_s.dup.tCut ≤ w_EpochsAreCutCopiedAndCommitted_4_s.now ∧
    w_EpochsAreCutCopiedAndCommitted_4_s.now < 2 ^ 48 ∧
    w_EpochsAreCutCopiedAndCommitted_4_s.dup.snap * 1000 ≤ w_EpochsAreCutCopiedAndCommitted_4_s.now - w_EpochsAreCutCopiedAndCommitted_4_s.dup.tCut ∧
    w_EpochsAreCutCopiedAndCommitted_4_s.dup.regions = [] ∧
    w_EpochsAreCutCopiedAndCommitted_4_s.rf F.SL_STAT_STATE 0 2 = 2 := by decide +kernel

def w_EpochsAreCutCopiedAndCommitted_5_s : State := s0
theorem test_w_EpochsAreCutCopiedAndCommitted_5 : w_EpochsAreCutCopiedAndCommitted_5_s.dup.phase = 0 := by decide +kernel

def w_EpochsAreCutCopiedAndCommitted_6_s : State := put s0 [(F.SL_STAT_STATE, [2, 0, 2]), (F.DUP_STAT_STATE, [4, 0]), (F.DUP_REG_DST_A_ADDR, [500, 0, 31])]
def w_EpochsAreCutCopiedAndCommitted_6_cell : Nat := mkCell 0 3 0 0 false (7 * 2 ^ 196 + 31 * 2 ^ 191 + 9 * 2 ^ 167 + 3 * 2 ^ 160 + wordsBody [dataWord 1, dataWord 2, dataWord 3])
def w_EpochsAreCutCopiedAndCommitted_6_b : Nat := cellBody w_EpochsAreCutCopiedAndCommitted_6_cell
def w_EpochsAreCutCopiedAndCommitted_6_a : Nat := 9 + w_EpochsAreCutCopiedAndCommitted_6_s.rw .DUP_REG_DST_B 0 31
def w_EpochsAreCutCopiedAndCommitted_6_ws : List TWord := [dataWord 1, dataWord 2, dataWord 3]
theorem test_w_EpochsAreCutCopiedAndCommitted_6 : w_EpochsAreCutCopiedAndCommitted_6_s.cellDue 2 w_EpochsAreCutCopiedAndCommitted_6_cell = true ∧
    cellKind w_EpochsAreCutCopiedAndCommitted_6_cell = .system ∧
    w_EpochsAreCutCopiedAndCommitted_6_b = cellBody w_EpochsAreCutCopiedAndCommitted_6_cell ∧
    w_EpochsAreCutCopiedAndCommitted_6_b / 2 ^ 196 % 16 = 7 ∧
    31 = w_EpochsAreCutCopiedAndCommitted_6_b / 2 ^ 191 % 32 ∧
    w_EpochsAreCutCopiedAndCommitted_6_ws = bodyWords (w_EpochsAreCutCopiedAndCommitted_6_b / 2 ^ 160 % 4) w_EpochsAreCutCopiedAndCommitted_6_b ∧
    w_EpochsAreCutCopiedAndCommitted_6_ws ≠ [] ∧
    ((w_EpochsAreCutCopiedAndCommitted_6_s.rf F.DUP_STAT_STATE 0 = 3 ∨ w_EpochsAreCutCopiedAndCommitted_6_s.rf F.DUP_STAT_STATE 0 = 4)) ∧
    w_EpochsAreCutCopiedAndCommitted_6_s.dup.regions = [] ∧
    w_EpochsAreCutCopiedAndCommitted_6_a = ((if w_EpochsAreCutCopiedAndCommitted_6_s.rf F.DUP_STAT_COMMIT_HALF 0 = 1 then w_EpochsAreCutCopiedAndCommitted_6_s.rw .DUP_REG_DST_A 0 31 else w_EpochsAreCutCopiedAndCommitted_6_s.rw .DUP_REG_DST_B 0 31) + w_EpochsAreCutCopiedAndCommitted_6_b / 2 ^ 167 % 2 ^ 24) % 2 ^ 48 := by decide +kernel

def w_EpochsAreCutCopiedAndCommitted_7_s : State := put s0 [(F.SL_STAT_STATE, [2, 0, 2]), (F.DUP_STAT_STATE, [3, 0])]
def w_EpochsAreCutCopiedAndCommitted_7_cell : Nat := mkCell 0 3 0 0 false (8 * 2 ^ 196 + 5 * 2 ^ 164 + 77 * 2 ^ 116 + 9 * 2 ^ 84 + 3 * 2 ^ 60)
def w_EpochsAreCutCopiedAndCommitted_7_b : Nat := cellBody w_EpochsAreCutCopiedAndCommitted_7_cell
theorem test_w_EpochsAreCutCopiedAndCommitted_7 : w_EpochsAreCutCopiedAndCommitted_7_s.cellDue 2 w_EpochsAreCutCopiedAndCommitted_7_cell = true ∧
    cellKind w_EpochsAreCutCopiedAndCommitted_7_cell = .system ∧
    w_EpochsAreCutCopiedAndCommitted_7_b = cellBody w_EpochsAreCutCopiedAndCommitted_7_cell ∧
    w_EpochsAreCutCopiedAndCommitted_7_b / 2 ^ 196 % 16 = 8 ∧
    ((w_EpochsAreCutCopiedAndCommitted_7_s.rf F.DUP_STAT_STATE 0 = 3 ∨ w_EpochsAreCutCopiedAndCommitted_7_s.rf F.DUP_STAT_STATE 0 = 4)) ∧
    w_EpochsAreCutCopiedAndCommitted_7_s.dup.rxLast = [] := by decide +kernel

def w_EpochsAreCutCopiedAndCommitted_8_s : State := { put s0 [(F.SL_STAT_STATE, [2, 0, 2]), (F.DUP_STAT_STATE, [4, 0])] with dup := { s0.dup with mark := some (7, 1000, 5 ^^^ 0xFFFFFFFF, 3), rxWords := 3, rxCrc := 5, fails := 2 } }
theorem test_w_EpochsAreCutCopiedAndCommitted_8 : w_EpochsAreCutCopiedAndCommitted_8_s.dup.mark = some (7, 1000, w_EpochsAreCutCopiedAndCommitted_8_s.dup.rxCrc ^^^ 0xFFFFFFFF, 3) ∧
    w_EpochsAreCutCopiedAndCommitted_8_s.dup.rxWords = 3 ∧
    3 < 2 ^ 24 ∧
    3 ≠ 0 ∧
    w_EpochsAreCutCopiedAndCommitted_8_s.dup.backs = [] ∧
    w_EpochsAreCutCopiedAndCommitted_8_s.dup.backBad = false ∧
    7 < 2 ^ 32 ∧
    1000 < 2 ^ 48 ∧
    w_EpochsAreCutCopiedAndCommitted_8_s.rf F.SL_STAT_STATE 0 2 = 2 ∧
    w_EpochsAreCutCopiedAndCommitted_8_s.rf F.DUP_EPOCH_CNT_COUNT 0 < 2 ^ 32 - 1 := by decide +kernel

def w_EpochsAreCutCopiedAndCommitted_9_s : State := { put s0 [(F.SL_STAT_STATE, [2, 0, 2]), (F.DUP_STAT_STATE, [4, 0])] with dup := { s0.dup with mark := some (7, 1000, 5, 3), rxWords := 2 ^ 24 + 2, fails := 2 } }
theorem test_w_EpochsAreCutCopiedAndCommitted_9 : w_EpochsAreCutCopiedAndCommitted_9_s.dup.mark = some (7, 1000, 5, 3) ∧
    ((3 ≠ w_EpochsAreCutCopiedAndCommitted_9_s.dup.rxWords % 2 ^ 24 ∨ w_EpochsAreCutCopiedAndCommitted_9_s.dup.backBad = true)) ∧
    w_EpochsAreCutCopiedAndCommitted_9_s.rf F.SL_STAT_STATE 0 2 = 2 ∧
    w_EpochsAreCutCopiedAndCommitted_9_s.rf F.DUP_CRC_FAIL_CNT_COUNT 0 < 2 ^ 32 - 1 := by decide +kernel

def w_EpochsAreCutCopiedAndCommitted_10_s : State := put s0 [(F.SL_STAT_STATE, [2, 0, 2]), (F.DEV_ROLE_CTL_ACTIVE, [1, 0])]
def w_EpochsAreCutCopiedAndCommitted_10_cell : Nat := mkCell 0 3 0 0 false (9 * 2 ^ 196 + 2 ^ 163)
def w_EpochsAreCutCopiedAndCommitted_10_b : Nat := cellBody w_EpochsAreCutCopiedAndCommitted_10_cell
theorem test_w_EpochsAreCutCopiedAndCommitted_10 : w_EpochsAreCutCopiedAndCommitted_10_s.cellDue 2 w_EpochsAreCutCopiedAndCommitted_10_cell = true ∧
    cellKind w_EpochsAreCutCopiedAndCommitted_10_cell = .system ∧
    w_EpochsAreCutCopiedAndCommitted_10_b = cellBody w_EpochsAreCutCopiedAndCommitted_10_cell ∧
    w_EpochsAreCutCopiedAndCommitted_10_b / 2 ^ 196 % 16 = 9 ∧
    w_EpochsAreCutCopiedAndCommitted_10_b / 2 ^ 163 % 2 = 1 ∧
    w_EpochsAreCutCopiedAndCommitted_10_s.rf F.DEV_ROLE_CTL_ACTIVE 0 = 1 ∧
    w_EpochsAreCutCopiedAndCommitted_10_s.rf F.DUP_CTL_YIELD 0 = 0 ∧
    w_EpochsAreCutCopiedAndCommitted_10_s.rf F.DUP_EPOCH_CNT_COUNT 0 < 2 ^ 32 - 1 := by decide +kernel

def w_EpochsAreCutCopiedAndCommitted_11_s : State := put s0 [(F.SL_STAT_STATE, [2, 0, 2]), (F.DEV_ROLE_CTL_ACTIVE, [1, 0]), (F.DUP_CTL_YIELD, [1, 0])]
def w_EpochsAreCutCopiedAndCommitted_11_cell : Nat := mkCell 0 3 0 0 false (9 * 2 ^ 196 + 2 ^ 163)
def w_EpochsAreCutCopiedAndCommitted_11_b : Nat := cellBody w_EpochsAreCutCopiedAndCommitted_11_cell
theorem test_w_EpochsAreCutCopiedAndCommitted_11 : w_EpochsAreCutCopiedAndCommitted_11_s.cellDue 2 w_EpochsAreCutCopiedAndCommitted_11_cell = true ∧
    cellKind w_EpochsAreCutCopiedAndCommitted_11_cell = .system ∧
    w_EpochsAreCutCopiedAndCommitted_11_b = cellBody w_EpochsAreCutCopiedAndCommitted_11_cell ∧
    w_EpochsAreCutCopiedAndCommitted_11_b / 2 ^ 196 % 16 = 9 ∧
    w_EpochsAreCutCopiedAndCommitted_11_b / 2 ^ 163 % 2 = 1 ∧
    w_EpochsAreCutCopiedAndCommitted_11_s.rf F.DEV_ROLE_CTL_ACTIVE 0 = 1 ∧
    w_EpochsAreCutCopiedAndCommitted_11_s.rf F.DUP_CTL_YIELD 0 = 1 ∧
    w_EpochsAreCutCopiedAndCommitted_11_s.rf F.DUP_YIELD_CNT_COUNT 0 < 2 ^ 32 - 1 := by decide +kernel

def w_TheStandbyWatchesAndTakesOver_1_s : State := put (at_ 100000) [(F.SL_STAT_STATE, [2, 0, 2]), (F.DEV_ROLE_ROLE, [3, 0]), (F.DEV_ROLE_CTL_ACTIVE, [1, 0])]
theorem test_w_TheStandbyWatchesAndTakesOver_1 : w_TheStandbyWatchesAndTakesOver_1_s.rf F.DEV_ROLE_ROLE 0 = 3 ∧
    w_TheStandbyWatchesAndTakesOver_1_s.rf F.DEV_ROLE_CTL_ACTIVE 0 = 1 ∧
    w_TheStandbyWatchesAndTakesOver_1_s.rf F.SL_STAT_STATE 0 2 = 2 ∧
    w_TheStandbyWatchesAndTakesOver_1_s.dup.hbSent ≤ w_TheStandbyWatchesAndTakesOver_1_s.now ∧
    w_TheStandbyWatchesAndTakesOver_1_s.now < 2 ^ 48 ∧
    100000 ≤ w_TheStandbyWatchesAndTakesOver_1_s.now - w_TheStandbyWatchesAndTakesOver_1_s.dup.hbSent := by decide +kernel

def w_TheStandbyWatchesAndTakesOver_2_s : State := put (at_ 99999) [(F.SL_STAT_STATE, [2, 0, 2]), (F.DEV_ROLE_ROLE, [3, 0]), (F.DEV_ROLE_CTL_ACTIVE, [1, 0])]
theorem test_w_TheStandbyWatchesAndTakesOver_2 : w_TheStandbyWatchesAndTakesOver_2_s.dup.hbSent ≤ w_TheStandbyWatchesAndTakesOver_2_s.now ∧
    w_TheStandbyWatchesAndTakesOver_2_s.now - w_TheStandbyWatchesAndTakesOver_2_s.dup.hbSent < 100000 := by decide +kernel

def w_TheStandbyWatchesAndTakesOver_3_s : State := put (at_ 99) [(F.SL_STAT_STATE, [2, 0, 2]), (F.DUP_STAT_STATE, [4, 0]), (F.DUP_STAT_HB_MISSED, [2, 0])]
def w_TheStandbyWatchesAndTakesOver_3_cell : Nat := mkCell 0 3 0 0 false (6 * 2 ^ 196 + 5 * 2 ^ 164 + 2 ^ 115)
def w_TheStandbyWatchesAndTakesOver_3_b : Nat := cellBody w_TheStandbyWatchesAndTakesOver_3_cell
theorem test_w_TheStandbyWatchesAndTakesOver_3 : w_TheStandbyWatchesAndTakesOver_3_s.cellDue 2 w_TheStandbyWatchesAndTakesOver_3_cell = true ∧
    cellKind w_TheStandbyWatchesAndTakesOver_3_cell = .system ∧
    w_TheStandbyWatchesAndTakesOver_3_b = cellBody w_TheStandbyWatchesAndTakesOver_3_cell ∧
    w_TheStandbyWatchesAndTakesOver_3_b / 2 ^ 196 % 16 = 6 ∧
    w_TheStandbyWatchesAndTakesOver_3_b / 2 ^ 114 % 2 = 0 ∧
    w_TheStandbyWatchesAndTakesOver_3_s.rf F.DEV_ROLE_CTL_ACTIVE 0 = 0 := by decide +kernel

def w_TheStandbyWatchesAndTakesOver_4_s : State := put (at_ 99) [(F.SL_STAT_STATE, [2, 0, 2]), (F.DUP_STAT_STATE, [4, 0]), (F.DUP_STAT_HB_MISSED, [2, 0])]
def w_TheStandbyWatchesAndTakesOver_4_cell : Nat := mkCell 0 3 0 0 false (6 * 2 ^ 196 + 5 * 2 ^ 164 + 2 ^ 114)
def w_TheStandbyWatchesAndTakesOver_4_b : Nat := cellBody w_TheStandbyWatchesAndTakesOver_4_cell
theorem test_w_TheStandbyWatchesAndTakesOver_4 : w_TheStandbyWatchesAndTakesOver_4_s.cellDue 2 w_TheStandbyWatchesAndTakesOver_4_cell = true ∧
    cellKind w_TheStandbyWatchesAndTakesOver_4_cell = .system ∧
    w_TheStandbyWatchesAndTakesOver_4_b = cellBody w_TheStandbyWatchesAndTakesOver_4_cell ∧
    w_TheStandbyWatchesAndTakesOver_4_b / 2 ^ 196 % 16 = 6 ∧
    w_TheStandbyWatchesAndTakesOver_4_b / 2 ^ 114 % 2 = 1 ∧
    w_TheStandbyWatchesAndTakesOver_4_s.rf F.DEV_ROLE_CTL_ACTIVE 0 = 0 ∧
    ((w_TheStandbyWatchesAndTakesOver_4_s.rf F.DUP_STAT_STATE 0 = 3 ∨ w_TheStandbyWatchesAndTakesOver_4_s.rf F.DUP_STAT_STATE 0 = 4)) := by decide +kernel

def w_TheStandbyWatchesAndTakesOver_5_s : State := put (at_ 100000) [(F.DUP_STAT_STATE, [3, 0]), (F.DUP_STAT_HB_MISSED, [1, 0])]
theorem test_w_TheStandbyWatchesAndTakesOver_5 : ((w_TheStandbyWatchesAndTakesOver_5_s.rf F.DUP_STAT_STATE 0 = 3 ∨ w_TheStandbyWatchesAndTakesOver_5_s.rf F.DUP_STAT_STATE 0 = 4)) ∧
    w_TheStandbyWatchesAndTakesOver_5_s.dup.hbSeen ≤ w_TheStandbyWatchesAndTakesOver_5_s.now ∧
    w_TheStandbyWatchesAndTakesOver_5_s.now < 2 ^ 48 ∧
    100000 ≤ w_TheStandbyWatchesAndTakesOver_5_s.now - w_TheStandbyWatchesAndTakesOver_5_s.dup.hbSeen ∧
    w_TheStandbyWatchesAndTakesOver_5_s.rf F.DUP_STAT_HB_MISSED 0 < 2 ∧
    w_TheStandbyWatchesAndTakesOver_5_s.rf F.DUP_HB_MISS_CNT_COUNT 0 < 2 ^ 32 - 1 := by decide +kernel

def w_TheStandbyWatchesAndTakesOver_6_s : State := put (at_ 100000) [(F.DUP_STAT_STATE, [4, 0]), (F.DUP_STAT_HB_MISSED, [2, 0]), (F.DUP_CTL_HB_TAKEOVER, [1, 0])]
theorem test_w_TheStandbyWatchesAndTakesOver_6 : ((w_TheStandbyWatchesAndTakesOver_6_s.rf F.DUP_STAT_STATE 0 = 3 ∨ w_TheStandbyWatchesAndTakesOver_6_s.rf F.DUP_STAT_STATE 0 = 4)) ∧
    w_TheStandbyWatchesAndTakesOver_6_s.dup.hbSeen ≤ w_TheStandbyWatchesAndTakesOver_6_s.now ∧
    w_TheStandbyWatchesAndTakesOver_6_s.now < 2 ^ 48 ∧
    100000 ≤ w_TheStandbyWatchesAndTakesOver_6_s.now - w_TheStandbyWatchesAndTakesOver_6_s.dup.hbSeen ∧
    2 ≤ w_TheStandbyWatchesAndTakesOver_6_s.rf F.DUP_STAT_HB_MISSED 0 ∧
    w_TheStandbyWatchesAndTakesOver_6_s.rf F.DUP_CTL_HB_TAKEOVER 0 = 1 ∧
    w_TheStandbyWatchesAndTakesOver_6_s.rf F.DUP_TAKEOVER_CNT_COUNT 0 < 2 ^ 32 - 1 := by decide +kernel

def w_TheStandbyWatchesAndTakesOver_7_s : State := put (at_ 100000) [(F.DUP_STAT_STATE, [3, 0]), (F.DUP_CTL_PIN_EN, [1, 0])]
theorem test_w_TheStandbyWatchesAndTakesOver_7 : ((w_TheStandbyWatchesAndTakesOver_7_s.rf F.DUP_STAT_STATE 0 = 3 ∨ w_TheStandbyWatchesAndTakesOver_7_s.rf F.DUP_STAT_STATE 0 = 4)) ∧
    w_TheStandbyWatchesAndTakesOver_7_s.rf F.DUP_CTL_PIN_EN 0 = 1 := by decide +kernel

def w_TheStandbyWatchesAndTakesOver_8_s : State := put s0 [(F.DUP_CTL_PIN_EN, [0, 0])]
theorem test_w_TheStandbyWatchesAndTakesOver_8 : w_TheStandbyWatchesAndTakesOver_8_s.rf F.DUP_CTL_PIN_EN 0 = 0 := by decide +kernel

def w_TheStandbyWatchesAndTakesOver_9_s : State := put s0 [(F.DUP_CTL_PIN_EN, [1, 0]), (F.DEV_ROLE_ROLE, [3, 0]), (F.DEV_ROLE_CTL_ACTIVE, [1, 0])]
theorem test_w_TheStandbyWatchesAndTakesOver_9 : w_TheStandbyWatchesAndTakesOver_9_s.rf F.DUP_CTL_PIN_EN 0 = 1 ∧
    w_TheStandbyWatchesAndTakesOver_9_s.rf F.DEV_ROLE_ROLE 0 = 3 ∧
    w_TheStandbyWatchesAndTakesOver_9_s.rf F.DEV_ROLE_CTL_ACTIVE 0 = 1 := by decide +kernel

def w_TheStandbyWatchesAndTakesOver_10_s : State := { put (at_ 1000000000) [(F.DUP_STAT_STATE, [1, 0]), (F.DUP_CTL_JOIN_S, [1, 0]), (F.DUP_CTL_PIN_EN, [0, 0]), (F.CFG_BOOT_STAT_LOADED, [1, 0])] with dup := { s0.dup with loadAt := some 0 }, cfg := { s0.cfg with loaded := true } }
theorem test_w_TheStandbyWatchesAndTakesOver_10 : w_TheStandbyWatchesAndTakesOver_10_s.dup.loadAt = some 0 ∧
    w_TheStandbyWatchesAndTakesOver_10_s.rf F.DUP_STAT_STATE 0 = 1 ∧
    w_TheStandbyWatchesAndTakesOver_10_s.rf F.SL_STAT_STATE 0 2 ≠ 2 ∧
    w_TheStandbyWatchesAndTakesOver_10_s.imageLoaded = true ∧
    0 ≤ w_TheStandbyWatchesAndTakesOver_10_s.now ∧
    w_TheStandbyWatchesAndTakesOver_10_s.now < 2 ^ 48 ∧
    w_TheStandbyWatchesAndTakesOver_10_s.rf F.DUP_CTL_JOIN_S 0 * 1000000000 ≤ w_TheStandbyWatchesAndTakesOver_10_s.now - 0 ∧
    w_TheStandbyWatchesAndTakesOver_10_s.rf F.DUP_CTL_PIN_EN 0 = 0 := by decide +kernel

def w_TheStandbyWatchesAndTakesOver_11_s : State := s0
def w_TheStandbyWatchesAndTakesOver_11_w : TWord := dataWord (2 ^ 47 + 15)
theorem test_w_TheStandbyWatchesAndTakesOver_11 : w_TheStandbyWatchesAndTakesOver_11_w.tag.toNat < 2 := by decide +kernel

def w_CabenTakesPacketsAndReplies_1_s : State := cab_ s0 [pkt_ 2 9 8 []]
def w_CabenTakesPacketsAndReplies_1_bs : List Nat := bytes_ 0 255 [1, 2]
def w_CabenTakesPacketsAndReplies_1_ps : List Nat := [1, 2]
theorem test_w_CabenTakesPacketsAndReplies_1 : w_CabenTakesPacketsAndReplies_1_s.spiRoom = true ∧
    isPacket 0 w_CabenTakesPacketsAndReplies_1_bs = true ∧
    0 = w_CabenTakesPacketsAndReplies_1_bs.getD 2 0 ∧
    255 = w_CabenTakesPacketsAndReplies_1_bs.getD 3 0 ∧
    w_CabenTakesPacketsAndReplies_1_ps = (w_CabenTakesPacketsAndReplies_1_bs.drop 6).take (leNat ((w_CabenTakesPacketsAndReplies_1_bs.drop 4).take 2)) ∧
    ((∀ p, p ∈ w_CabenTakesPacketsAndReplies_1_s.cab.pkts → p.tr ≠ 0)) ∧
    w_CabenTakesPacketsAndReplies_1_bs.getD 1 0 = 1 ∧
    w_CabenTakesPacketsAndReplies_1_s.bootSm = false ∧
    (opInfo 0).isSome = true ∧
    0 ≠ 0x1C ∧
    0 ≠ 0x19 ∧
    opCheck 0 0 w_CabenTakesPacketsAndReplies_1_ps = (0, 0) := by decide +kernel

def w_CabenTakesPacketsAndReplies_2_s : State := cab_ s0 []
def w_CabenTakesPacketsAndReplies_2_bs : List Nat := [1, 2, 3]
theorem test_w_CabenTakesPacketsAndReplies_2 : ((w_CabenTakesPacketsAndReplies_2_s.spiRoom = false ∨ isPacket 0 w_CabenTakesPacketsAndReplies_2_bs = false)) ∧
    w_CabenTakesPacketsAndReplies_2_s.rf F.CABEN_FRAME_ERR_CNT_COUNT 0 < 2 ^ 32 - 1 := by decide +kernel

def w_CabenTakesPacketsAndReplies_2a_s : State := cab_ s0 [pkt_ 0 1 0 [], pkt_ 0 2 0 []]
def w_CabenTakesPacketsAndReplies_2a_bs : List Nat := bytes_ 0 255 [1, 2]
theorem test_w_CabenTakesPacketsAndReplies_2a : ((w_CabenTakesPacketsAndReplies_2a_s.spiRoom = false ∨ isPacket 0 w_CabenTakesPacketsAndReplies_2a_bs = false)) ∧
    w_CabenTakesPacketsAndReplies_2a_s.rf F.CABEN_FRAME_ERR_CNT_COUNT 0 < 2 ^ 32 - 1 := by decide +kernel

def w_CabenTakesPacketsAndReplies_3_s : State := cab_ s0 []
def w_CabenTakesPacketsAndReplies_3_bs : List Nat := (let b := [0xCB, 2, 0, 9, 0, 0]; b ++ leBytes 4 (crc32c b))
theorem test_w_CabenTakesPacketsAndReplies_3 : w_CabenTakesPacketsAndReplies_3_s.spiRoom = true ∧
    isPacket 0 w_CabenTakesPacketsAndReplies_3_bs = true ∧
    ((∀ p, p ∈ w_CabenTakesPacketsAndReplies_3_s.cab.pkts → p.tr ≠ 0 ∧ p.op ≠ 0x19)) ∧
    w_CabenTakesPacketsAndReplies_3_bs.getD 1 0 ≠ 1 := by decide +kernel

def w_CabenTakesPacketsAndReplies_4_s : State := { s0 with cab := { s0.cab with replies := [[7, 8, 9], [1]] } }
def w_CabenTakesPacketsAndReplies_4_r : List Nat := [7, 8, 9]
def w_CabenTakesPacketsAndReplies_4_rest : List (List Nat) := [[1]]
theorem test_w_CabenTakesPacketsAndReplies_4 : w_CabenTakesPacketsAndReplies_4_s.cab.replies = w_CabenTakesPacketsAndReplies_4_r :: w_CabenTakesPacketsAndReplies_4_rest ∧
    w_CabenTakesPacketsAndReplies_4_r ≠ [] ∧
    w_CabenTakesPacketsAndReplies_4_r.length < 4 := by decide +kernel

def w_CabenTakesPacketsAndReplies_5_s : State := { s0 with cab := { s0.cab with replies := [[7, 8, 9], [1]] } }
theorem test_w_CabenTakesPacketsAndReplies_5 : 3 ≤ (w_CabenTakesPacketsAndReplies_5_s.cab.replies.headD []).length := by decide +kernel

def w_CabenTakesPacketsAndReplies_6_s : State := { s0 with cab := { s0.cab with frameErr := true } }

def w_CabenTakesPacketsAndReplies_7_s : State := cab_ (put s0 [(F.CABEN_CTL_UDP_EN, [1, 0]), (F.MAC_STAT_LINK_UP, [1, 0, 0])]) []

def w_CabenTakesPacketsAndReplies_8_s : State := s0
def w_CabenTakesPacketsAndReplies_8_d : Datagram := ⟨5, 6, 7, 8, 9, 10, 11, true, []⟩
theorem test_w_CabenTakesPacketsAndReplies_8 : ((w_CabenTakesPacketsAndReplies_8_s.udpServed = false ∨ w_CabenTakesPacketsAndReplies_8_d.plain = false ∨ w_CabenTakesPacketsAndReplies_8_d.dstIp ≠ w_CabenTakesPacketsAndReplies_8_s.rf F.CABEN_IP_ADDR 0 ∨ w_CabenTakesPacketsAndReplies_8_d.dstPort ≠ w_CabenTakesPacketsAndReplies_8_s.rf F.CABEN_CTL_UDP_PORT 0 ∨ 1472 < w_CabenTakesPacketsAndReplies_8_d.payload.length)) := by decide +kernel

def w_CabenTakesPacketsAndReplies_9_s : State := cab_ (put s0 [(F.CABEN_CTL_UDP_EN, [1, 0]), (F.CABEN_CTL_UDP_SECURE, [0, 0]), (F.MAC_STAT_LINK_UP, [1, 0, 0]), (F.CABEN_IP_ADDR, [9, 0])]) []
def w_CabenTakesPacketsAndReplies_9_d : Datagram := ⟨w_CabenTakesPacketsAndReplies_9_s.rf F.MAC_STATION_ADDR 0 0, 6, 7, 8, 9, 10, w_CabenTakesPacketsAndReplies_9_s.rf F.CABEN_CTL_UDP_PORT 0, true, bytes_ 1 255 []⟩
def w_CabenTakesPacketsAndReplies_9_ps : List Nat := []
theorem test_w_CabenTakesPacketsAndReplies_9 : w_CabenTakesPacketsAndReplies_9_s.udpServed = true ∧
    w_CabenTakesPacketsAndReplies_9_d.plain = true ∧
    w_CabenTakesPacketsAndReplies_9_d.dstMac = w_CabenTakesPacketsAndReplies_9_s.rf F.MAC_STATION_ADDR 0 0 ∧
    w_CabenTakesPacketsAndReplies_9_d.dstIp = w_CabenTakesPacketsAndReplies_9_s.rf F.CABEN_IP_ADDR 0 ∧
    w_CabenTakesPacketsAndReplies_9_d.dstPort = w_CabenTakesPacketsAndReplies_9_s.rf F.CABEN_CTL_UDP_PORT 0 ∧
    w_CabenTakesPacketsAndReplies_9_d.payload.length ≤ 1472 ∧
    w_CabenTakesPacketsAndReplies_9_s.rf F.CABEN_STAT_UDP_EXHAUSTED 0 = 0 ∧
    w_CabenTakesPacketsAndReplies_9_s.rf F.CABEN_CTL_UDP_SECURE 0 = 0 ∧
    w_CabenTakesPacketsAndReplies_9_s.cfg.fuses.secureEn = false ∧
    isPacket 1 w_CabenTakesPacketsAndReplies_9_d.payload = true ∧
    1 = w_CabenTakesPacketsAndReplies_9_d.payload.getD 2 0 ∧
    255 = w_CabenTakesPacketsAndReplies_9_d.payload.getD 3 0 ∧
    w_CabenTakesPacketsAndReplies_9_ps = (w_CabenTakesPacketsAndReplies_9_d.payload.drop 6).take (leNat ((w_CabenTakesPacketsAndReplies_9_d.payload.drop 4).take 2)) ∧
    ((∀ p, p ∈ w_CabenTakesPacketsAndReplies_9_s.cab.pkts → p.tr ≠ 1)) ∧
    w_CabenTakesPacketsAndReplies_9_d.payload.getD 1 0 = 1 ∧
    (opInfo 1).isSome = true ∧
    1 ≠ 0x1C ∧
    1 ≠ 0x19 ∧
    opCheck 1 1 w_CabenTakesPacketsAndReplies_9_ps = (0, 0) := by decide +kernel

def w_CabenTakesPacketsAndReplies_10_s : State := put s0 [(F.CABEN_CTL_SAETTE_EN, [0, 0])]
theorem test_w_CabenTakesPacketsAndReplies_10 : w_CabenTakesPacketsAndReplies_10_s.cab.saOut = [] ∧
    w_CabenTakesPacketsAndReplies_10_s.rf F.CABEN_CTL_SAETTE_EN 0 = 0 := by decide +kernel

def w_CabenTakesPacketsAndReplies_11_s : State := saFrame_
def w_CabenTakesPacketsAndReplies_11_u : State := ((saFrame_.takeFrame 2 []).getD ([], s0)).2
def w_CabenTakesPacketsAndReplies_11_ws : List TWord := saWords_
def w_CabenTakesPacketsAndReplies_11_b : List Nat := bytes_ 1 7 [] ++ [0, 0]
def w_CabenTakesPacketsAndReplies_11_ps : List Nat := []
theorem test_w_CabenTakesPacketsAndReplies_11 : w_CabenTakesPacketsAndReplies_11_s.cab.saOut = [] ∧
    w_CabenTakesPacketsAndReplies_11_s.rf F.CABEN_CTL_SAETTE_EN 0 = 1 ∧
    w_CabenTakesPacketsAndReplies_11_s.bootSm = false ∧
    w_CabenTakesPacketsAndReplies_11_s.cab.ready = true ∧
    w_CabenTakesPacketsAndReplies_11_s.takeFrame (w_CabenTakesPacketsAndReplies_11_s.sc 0).ready [] = some (w_CabenTakesPacketsAndReplies_11_ws, w_CabenTakesPacketsAndReplies_11_u) ∧
    w_CabenTakesPacketsAndReplies_11_b = bytesOf w_CabenTakesPacketsAndReplies_11_ws (6 * w_CabenTakesPacketsAndReplies_11_ws.length) ∧
    isPacket 2 w_CabenTakesPacketsAndReplies_11_b = true ∧
    1 = w_CabenTakesPacketsAndReplies_11_b.getD 2 0 ∧
    7 = w_CabenTakesPacketsAndReplies_11_b.getD 3 0 ∧
    w_CabenTakesPacketsAndReplies_11_ps = (w_CabenTakesPacketsAndReplies_11_b.drop 6).take (leNat ((w_CabenTakesPacketsAndReplies_11_b.drop 4).take 2)) ∧
    ((∀ p, p ∈ w_CabenTakesPacketsAndReplies_11_s.cab.pkts → p.tr ≠ 2)) ∧
    w_CabenTakesPacketsAndReplies_11_b.getD 1 0 = 1 ∧
    (opInfo 1).isSome = true ∧
    1 ≠ 0x1C ∧
    1 ≠ 0x19 ∧
    opCheck 2 1 w_CabenTakesPacketsAndReplies_11_ps = (0, 0) := by decide +kernel

def w_CabenTakesPacketsAndReplies_12_s : State := cab_ s0 [pkt_ 0 255 0 [5, 6]]
def w_CabenTakesPacketsAndReplies_12_p : CabPkt := pkt_ 0 255 0 [5, 6]
theorem test_w_CabenTakesPacketsAndReplies_12 : w_CabenTakesPacketsAndReplies_12_s.cabNew 0 255 0x00 = some w_CabenTakesPacketsAndReplies_12_p ∧
    w_CabenTakesPacketsAndReplies_12_p.mute = false ∧
    w_CabenTakesPacketsAndReplies_12_s.bootSm = false := by decide +kernel

def w_CabenTakesPacketsAndReplies_13_s : State := cab_ (put s0 [(F.CABEN_CTL_UDP_EN, [1, 0]), (F.CABEN_CTL_UDP_SECURE, [0, 0])]) [{ pkt_ 1 255 0 [5, 6] with peer := some ⟨1, 2, 3, 4⟩ }]
def w_CabenTakesPacketsAndReplies_13_p : CabPkt := { pkt_ 1 255 0 [5, 6] with peer := some ⟨1, 2, 3, 4⟩ }
def w_CabenTakesPacketsAndReplies_13_a : UdpPeer := ⟨1, 2, 3, 4⟩
theorem test_w_CabenTakesPacketsAndReplies_13 : w_CabenTakesPacketsAndReplies_13_s.cabNew 1 255 0x00 = some w_CabenTakesPacketsAndReplies_13_p ∧
    w_CabenTakesPacketsAndReplies_13_p.mute = false ∧
    w_CabenTakesPacketsAndReplies_13_p.peer = some w_CabenTakesPacketsAndReplies_13_a ∧
    w_CabenTakesPacketsAndReplies_13_s.rf F.CABEN_CTL_UDP_EN 0 = 1 ∧
    w_CabenTakesPacketsAndReplies_13_s.rf F.CABEN_STAT_UDP_EXHAUSTED 0 = 0 ∧
    w_CabenTakesPacketsAndReplies_13_s.rf F.CABEN_CTL_UDP_SECURE 0 = 0 := by decide +kernel

def w_CabenTakesPacketsAndReplies_14_s : State := cab_ s0 [pkt_ 2 255 0 [5, 6]]
def w_CabenTakesPacketsAndReplies_14_p : CabPkt := pkt_ 2 255 0 [5, 6]
theorem test_w_CabenTakesPacketsAndReplies_14 : w_CabenTakesPacketsAndReplies_14_s.cabNew 2 255 0x00 = some w_CabenTakesPacketsAndReplies_14_p ∧
    w_CabenTakesPacketsAndReplies_14_p.mute = false ∧
    w_CabenTakesPacketsAndReplies_14_s.rf F.SC_STAT_TX_STATE 0 0 ≠ 2 := by decide +kernel

def w_CabenTakesPacketsAndReplies_15_s : State := s0
theorem test_w_CabenTakesPacketsAndReplies_15 : w_CabenTakesPacketsAndReplies_15_s.cabPkt 0 255 = none := by decide +kernel

def w_CabenTakesPacketsAndReplies_16_s : State := cab_ s0 [pkt_ 0 255 1 []]
def w_CabenTakesPacketsAndReplies_16_p : CabPkt := pkt_ 0 255 1 []
theorem test_w_CabenTakesPacketsAndReplies_16 : w_CabenTakesPacketsAndReplies_16_s.cabNew 0 255 0x01 = some w_CabenTakesPacketsAndReplies_16_p := by decide +kernel

def w_CabenTakesPacketsAndReplies_17_s : State := { cab_ s0 [pkt_ 0 255 2 [7]] with cab := { (cab_ s0 [pkt_ 0 255 2 [7]]).cab with kept := [(0, [(7, [1, 2, 3])])] } }
def w_CabenTakesPacketsAndReplies_17_p : CabPkt := pkt_ 0 255 2 [7]
theorem test_w_CabenTakesPacketsAndReplies_17 : w_CabenTakesPacketsAndReplies_17_s.cabNew 0 255 0x02 = some w_CabenTakesPacketsAndReplies_17_p := by decide +kernel

def w_CabenTakesPacketsAndReplies_17a_s : State := cab_ s0 [pkt_ 0 255 2 [7]]
def w_CabenTakesPacketsAndReplies_17a_p : CabPkt := pkt_ 0 255 2 [7]
theorem test_w_CabenTakesPacketsAndReplies_17a : w_CabenTakesPacketsAndReplies_17a_s.cabNew 0 255 0x02 = some w_CabenTakesPacketsAndReplies_17a_p := by decide +kernel

def w_CabenTakesPacketsAndReplies_18_s : State := cab_ s0 [pkt_ 0 7 8 [0, 0, 0, 0, 0, 0, 1, 0], pkt_ 0 255 3 [7]]
def w_CabenTakesPacketsAndReplies_18_p : CabPkt := pkt_ 0 255 3 [7]
def w_CabenTakesPacketsAndReplies_18_q : CabPkt := pkt_ 0 7 8 [0, 0, 0, 0, 0, 0, 1, 0]
theorem test_w_CabenTakesPacketsAndReplies_18 : w_CabenTakesPacketsAndReplies_18_s.cabNew 0 255 0x03 = some w_CabenTakesPacketsAndReplies_18_p ∧
    7 = w_CabenTakesPacketsAndReplies_18_p.params.getD 0 0 ∧
    7 ≠ 255 ∧
    w_CabenTakesPacketsAndReplies_18_s.cabPkt 0 7 = some w_CabenTakesPacketsAndReplies_18_q ∧
    w_CabenTakesPacketsAndReplies_18_q.started = false := by decide +kernel

def w_CabenTakesPacketsAndReplies_19_s : State := cab_ s0 [pkt_ 0 255 3 [7]]
def w_CabenTakesPacketsAndReplies_19_p : CabPkt := pkt_ 0 255 3 [7]
theorem test_w_CabenTakesPacketsAndReplies_19 : w_CabenTakesPacketsAndReplies_19_s.cabNew 0 255 0x03 = some w_CabenTakesPacketsAndReplies_19_p ∧
    w_CabenTakesPacketsAndReplies_19_s.cabPkt 0 (w_CabenTakesPacketsAndReplies_19_p.params.getD 0 0) = none := by decide +kernel

def w_CabenTakesPacketsAndReplies_20_s : State := cab_ (at_ 10000000) [{ pkt_ 3 255 0 [7] with mute := true }]
def w_CabenTakesPacketsAndReplies_20_p : CabPkt := { pkt_ 3 255 0 [7] with mute := true }
theorem test_w_CabenTakesPacketsAndReplies_20 : w_CabenTakesPacketsAndReplies_20_s.cabPkt 3 255 = some w_CabenTakesPacketsAndReplies_20_p ∧
    w_CabenTakesPacketsAndReplies_20_p.started = false ∧
    opInfo w_CabenTakesPacketsAndReplies_20_p.op = some (10000000, true) ∧
    w_CabenTakesPacketsAndReplies_20_p.since ≤ w_CabenTakesPacketsAndReplies_20_s.now ∧
    w_CabenTakesPacketsAndReplies_20_s.now - w_CabenTakesPacketsAndReplies_20_p.since < 2 ^ 48 ∧
    10000000 ≤ w_CabenTakesPacketsAndReplies_20_s.now - w_CabenTakesPacketsAndReplies_20_p.since ∧
    w_CabenTakesPacketsAndReplies_20_p.mute = true ∧
    w_CabenTakesPacketsAndReplies_20_s.rf F.CABEN_TIMEOUT_CNT_COUNT 0 < 2 ^ 32 - 1 := by decide +kernel

def w_CabenTakesPacketsAndReplies_21_s : State := cab_ (at_ 10000000) [pkt_ 0 255 0 [7]]
def w_CabenTakesPacketsAndReplies_21_p : CabPkt := pkt_ 0 255 0 [7]
theorem test_w_CabenTakesPacketsAndReplies_21 : w_CabenTakesPacketsAndReplies_21_s.cabPkt 0 255 = some w_CabenTakesPacketsAndReplies_21_p ∧
    w_CabenTakesPacketsAndReplies_21_p.started = false := by decide +kernel

def w_CabenTakesPacketsAndReplies_21a_s : State := cab_ (at_ 9999999) [pkt_ 0 255 0 [7]]
def w_CabenTakesPacketsAndReplies_21a_p : CabPkt := pkt_ 0 255 0 [7]
theorem test_w_CabenTakesPacketsAndReplies_21a : w_CabenTakesPacketsAndReplies_21a_s.cabPkt 0 255 = some w_CabenTakesPacketsAndReplies_21a_p ∧
    w_CabenTakesPacketsAndReplies_21a_p.started = false := by decide +kernel

def w_CabenTakesPacketsAndReplies_22_s : State := put s0 [(F.CABEN_CTL_UDP_EN, [0, 0])]
def w_CabenTakesPacketsAndReplies_22_w : TWord := dataWord (2 ^ 48 - 1)
theorem test_w_CabenTakesPacketsAndReplies_22 : w_CabenTakesPacketsAndReplies_22_w.tag.toNat < 2 ∧
    w_CabenTakesPacketsAndReplies_22_s.rf F.CABEN_CTL_UDP_EN 0 = 0 ∧
    w_CabenTakesPacketsAndReplies_22_s.cfg.fuses.secureEn = false := by decide +kernel

def w_CabenTakesPacketsAndReplies_23_s : State := put s0 [(F.CABEN_CTL_UDP_EN, [1, 0])]
def w_CabenTakesPacketsAndReplies_23_w : TWord := dataWord 5
theorem test_w_CabenTakesPacketsAndReplies_23 : w_CabenTakesPacketsAndReplies_23_w.tag.toNat < 2 ∧
    ((4 = 3 ∨ 4 = 4)) ∧
    w_CabenTakesPacketsAndReplies_23_s.rf F.CABEN_CTL_UDP_EN 0 = 1 := by decide +kernel

def w_CabenTakesPacketsAndReplies_19a_s : State := { cab_ s0 [pkt_ 0 255 3 [7]] with cab := { (cab_ s0 [pkt_ 0 255 3 [7]]).cab with kept := [(0, [(7, [1, 2, 3])])] } }
def w_CabenTakesPacketsAndReplies_19a_p : CabPkt := pkt_ 0 255 3 [7]
theorem test_w_CabenTakesPacketsAndReplies_19a : w_CabenTakesPacketsAndReplies_19a_s.cabNew 0 255 0x03 = some w_CabenTakesPacketsAndReplies_19a_p ∧
    w_CabenTakesPacketsAndReplies_19a_s.cabPkt 0 (w_CabenTakesPacketsAndReplies_19a_p.params.getD 0 0) = none := by decide +kernel

def w_CabenAccessesMemoryStreamsAndResets_1_s : State := cab_ s0 [pkt_ 2 255 8 [0, 0, 0, 0, 0, 0, 64, 0]]
def w_CabenAccessesMemoryStreamsAndResets_1_p : CabPkt := pkt_ 2 255 8 [0, 0, 0, 0, 0, 0, 64, 0]
def w_CabenAccessesMemoryStreamsAndResets_1_rest : List CabPkt := []
theorem test_w_CabenAccessesMemoryStreamsAndResets_1 : w_CabenAccessesMemoryStreamsAndResets_1_s.cab.pkts = w_CabenAccessesMemoryStreamsAndResets_1_p :: w_CabenAccessesMemoryStreamsAndResets_1_rest ∧
    w_CabenAccessesMemoryStreamsAndResets_1_p.tr = 2 ∧
    w_CabenAccessesMemoryStreamsAndResets_1_p.tag = 255 ∧
    w_CabenAccessesMemoryStreamsAndResets_1_p.op = 0x08 ∧
    w_CabenAccessesMemoryStreamsAndResets_1_p.started = false ∧
    w_CabenAccessesMemoryStreamsAndResets_1_p.next = 0 ∧
    w_CabenAccessesMemoryStreamsAndResets_1_p.reads = [] ∧
    w_CabenAccessesMemoryStreamsAndResets_1_p.cancelled = false ∧
    0 = parNat w_CabenAccessesMemoryStreamsAndResets_1_p.params 0 6 ∧
    64 = parNat w_CabenAccessesMemoryStreamsAndResets_1_p.params 6 2 ∧
    1 ≤ 64 ∧
    0 % 64 + 64 ≤ 64 ∧
    ((∀ q, q ∈ w_CabenAccessesMemoryStreamsAndResets_1_rest → ¬(q.tr = 2 ∧ q.tag = 255))) ∧
    w_CabenAccessesMemoryStreamsAndResets_1_s.freeTag 0 1 = some 0 := by decide +kernel

def w_CabenAccessesMemoryStreamsAndResets_2_s : State := cab_ s0 [pkt_ 1 255 9 ([63, 0, 0, 0, 0, 0, 1, 0] ++ [1, 2, 3, 4, 5, 6, 3])]
def w_CabenAccessesMemoryStreamsAndResets_2_p : CabPkt := pkt_ 1 255 9 ([63, 0, 0, 0, 0, 0, 1, 0] ++ [1, 2, 3, 4, 5, 6, 3])
def w_CabenAccessesMemoryStreamsAndResets_2_rest : List CabPkt := []
theorem test_w_CabenAccessesMemoryStreamsAndResets_2 : w_CabenAccessesMemoryStreamsAndResets_2_s.cab.pkts = w_CabenAccessesMemoryStreamsAndResets_2_p :: w_CabenAccessesMemoryStreamsAndResets_2_rest ∧
    w_CabenAccessesMemoryStreamsAndResets_2_p.tr = 1 ∧
    w_CabenAccessesMemoryStreamsAndResets_2_p.tag = 255 ∧
    w_CabenAccessesMemoryStreamsAndResets_2_p.op = 0x09 ∧
    w_CabenAccessesMemoryStreamsAndResets_2_p.started = false ∧
    w_CabenAccessesMemoryStreamsAndResets_2_p.next = 0 ∧
    w_CabenAccessesMemoryStreamsAndResets_2_p.reads = [] ∧
    w_CabenAccessesMemoryStreamsAndResets_2_p.cancelled = false ∧
    63 = parNat w_CabenAccessesMemoryStreamsAndResets_2_p.params 0 6 ∧
    1 = parNat w_CabenAccessesMemoryStreamsAndResets_2_p.params 6 2 ∧
    1 ≤ 1 ∧
    63 % 64 + 1 ≤ 64 ∧
    ((∀ q, q ∈ w_CabenAccessesMemoryStreamsAndResets_2_rest → ¬(q.tr = 1 ∧ q.tag = 255))) ∧
    w_CabenAccessesMemoryStreamsAndResets_2_s.freeTag 0 1 = some 0 := by decide +kernel

def w_CabenAccessesMemoryStreamsAndResets_3_s : State := cab_ s0 [pkt_ 0 1 17 [5], pkt_ 0 2 8 [0, 0, 0, 0, 0, 0, 64, 0]]
def w_CabenAccessesMemoryStreamsAndResets_3_p : CabPkt := pkt_ 0 2 8 [0, 0, 0, 0, 0, 0, 64, 0]
def w_CabenAccessesMemoryStreamsAndResets_3_q : CabPkt := pkt_ 0 1 17 [5]
theorem test_w_CabenAccessesMemoryStreamsAndResets_3 : w_CabenAccessesMemoryStreamsAndResets_3_s.cab.pkts = [w_CabenAccessesMemoryStreamsAndResets_3_q, w_CabenAccessesMemoryStreamsAndResets_3_p] ∧
    w_CabenAccessesMemoryStreamsAndResets_3_p.tr = 0 ∧
    w_CabenAccessesMemoryStreamsAndResets_3_q.tr = 0 ∧
    w_CabenAccessesMemoryStreamsAndResets_3_p.tag = 2 ∧
    w_CabenAccessesMemoryStreamsAndResets_3_q.tag ≠ 2 ∧
    w_CabenAccessesMemoryStreamsAndResets_3_p.started = false ∧
    serialOp w_CabenAccessesMemoryStreamsAndResets_3_q.op = true ∧
    serialOp w_CabenAccessesMemoryStreamsAndResets_3_p.op = true := by decide +kernel

def w_CabenAccessesMemoryStreamsAndResets_4_s : State := cab_ s0 [{ pkt_ 0 2 8 [0, 0, 0, 0, 0, 0, 1, 0] with started := true, next := 1, got := [(0, dataWord 7)] }]
def w_CabenAccessesMemoryStreamsAndResets_4_p : CabPkt := { pkt_ 0 2 8 [0, 0, 0, 0, 0, 0, 1, 0] with started := true, next := 1, got := [(0, dataWord 7)] }
theorem test_w_CabenAccessesMemoryStreamsAndResets_4 : w_CabenAccessesMemoryStreamsAndResets_4_s.cabPkt 0 2 = some w_CabenAccessesMemoryStreamsAndResets_4_p ∧
    w_CabenAccessesMemoryStreamsAndResets_4_p.op = 0x08 ∧
    w_CabenAccessesMemoryStreamsAndResets_4_p.started = true ∧
    w_CabenAccessesMemoryStreamsAndResets_4_p.reads = [] ∧
    w_CabenAccessesMemoryStreamsAndResets_4_p.cancelled = false ∧
    parNat w_CabenAccessesMemoryStreamsAndResets_4_p.params 6 2 ≤ w_CabenAccessesMemoryStreamsAndResets_4_p.next := by decide +kernel

def w_CabenAccessesMemoryStreamsAndResets_4a_s : State := cab_ s0 [{ pkt_ 0 2 8 [0, 0, 0, 0, 0, 0, 1, 0] with started := true, next := 1, status := 3 }]
def w_CabenAccessesMemoryStreamsAndResets_4a_p : CabPkt := { pkt_ 0 2 8 [0, 0, 0, 0, 0, 0, 1, 0] with started := true, next := 1, status := 3 }
theorem test_w_CabenAccessesMemoryStreamsAndResets_4a : w_CabenAccessesMemoryStreamsAndResets_4a_s.cabPkt 0 2 = some w_CabenAccessesMemoryStreamsAndResets_4a_p ∧
    w_CabenAccessesMemoryStreamsAndResets_4a_p.op = 0x08 ∧
    w_CabenAccessesMemoryStreamsAndResets_4a_p.started = true ∧
    w_CabenAccessesMemoryStreamsAndResets_4a_p.reads = [] ∧
    w_CabenAccessesMemoryStreamsAndResets_4a_p.cancelled = false ∧
    parNat w_CabenAccessesMemoryStreamsAndResets_4a_p.params 6 2 ≤ w_CabenAccessesMemoryStreamsAndResets_4a_p.next := by decide +kernel

def w_CabenAccessesMemoryStreamsAndResets_5_s : State := cab_ s0 [pkt_ 0 2 10 [0, 0, 5, 0, 0, 0, 0, 0, 1, 0, 0, 0, 0, 0, 0]]
def w_CabenAccessesMemoryStreamsAndResets_5_p : CabPkt := pkt_ 0 2 10 [0, 0, 5, 0, 0, 0, 0, 0, 1, 0, 0, 0, 0, 0, 0]
def w_CabenAccessesMemoryStreamsAndResets_5_rest : List CabPkt := []
theorem test_w_CabenAccessesMemoryStreamsAndResets_5 : w_CabenAccessesMemoryStreamsAndResets_5_s.cab.pkts = w_CabenAccessesMemoryStreamsAndResets_5_p :: w_CabenAccessesMemoryStreamsAndResets_5_rest ∧
    w_CabenAccessesMemoryStreamsAndResets_5_p.tr = 0 ∧
    w_CabenAccessesMemoryStreamsAndResets_5_p.tag = 2 ∧
    w_CabenAccessesMemoryStreamsAndResets_5_p.op = 0x0A ∧
    w_CabenAccessesMemoryStreamsAndResets_5_p.started = false ∧
    w_CabenAccessesMemoryStreamsAndResets_5_p.params.getD 0 0 = 0 ∧
    ((∀ q, q ∈ w_CabenAccessesMemoryStreamsAndResets_5_rest → ¬(q.tr = 0 ∧ q.tag = 2))) ∧
    w_CabenAccessesMemoryStreamsAndResets_5_s.freeTag 0 1 = some 0 := by decide +kernel

def w_CabenAccessesMemoryStreamsAndResets_5a_s : State := cab_ s0 [pkt_ 0 2 10 [1, 0, 5, 0, 0, 0, 0, 0, 1, 0, 0, 0, 0, 0, 3]]
def w_CabenAccessesMemoryStreamsAndResets_5a_p : CabPkt := pkt_ 0 2 10 [1, 0, 5, 0, 0, 0, 0, 0, 1, 0, 0, 0, 0, 0, 3]
def w_CabenAccessesMemoryStreamsAndResets_5a_rest : List CabPkt := []
theorem test_w_CabenAccessesMemoryStreamsAndResets_5a : w_CabenAccessesMemoryStreamsAndResets_5a_s.cab.pkts = w_CabenAccessesMemoryStreamsAndResets_5a_p :: w_CabenAccessesMemoryStreamsAndResets_5a_rest ∧
    w_CabenAccessesMemoryStreamsAndResets_5a_p.tr = 0 ∧
    w_CabenAccessesMemoryStreamsAndResets_5a_p.tag = 2 ∧
    w_CabenAccessesMemoryStreamsAndResets_5a_p.op = 0x0A ∧
    w_CabenAccessesMemoryStreamsAndResets_5a_p.started = false ∧
    w_CabenAccessesMemoryStreamsAndResets_5a_p.params.getD 0 0 = 1 ∧
    ((∀ q, q ∈ w_CabenAccessesMemoryStreamsAndResets_5a_rest → ¬(q.tr = 0 ∧ q.tag = 2))) ∧
    w_CabenAccessesMemoryStreamsAndResets_5a_s.freeTag 0 1 = some 0 := by decide +kernel

def w_CabenAccessesMemoryStreamsAndResets_6_s : State := cab_ (put s0 [(F.SC_CTL_RX_EN, [1, 0, 63])]) [pkt_ 0 2 16 [63, 0, 1, 0]]
def w_CabenAccessesMemoryStreamsAndResets_6_p : CabPkt := pkt_ 0 2 16 [63, 0, 1, 0]
def w_CabenAccessesMemoryStreamsAndResets_6_rest : List CabPkt := []
theorem test_w_CabenAccessesMemoryStreamsAndResets_6 : w_CabenAccessesMemoryStreamsAndResets_6_s.cab.pkts = w_CabenAccessesMemoryStreamsAndResets_6_p :: w_CabenAccessesMemoryStreamsAndResets_6_rest ∧
    w_CabenAccessesMemoryStreamsAndResets_6_p.tr = 0 ∧
    w_CabenAccessesMemoryStreamsAndResets_6_p.tag = 2 ∧
    w_CabenAccessesMemoryStreamsAndResets_6_p.op = 0x10 ∧
    w_CabenAccessesMemoryStreamsAndResets_6_p.started = false ∧
    w_CabenAccessesMemoryStreamsAndResets_6_p.next = 0 ∧
    w_CabenAccessesMemoryStreamsAndResets_6_p.reads = [] ∧
    w_CabenAccessesMemoryStreamsAndResets_6_p.cancelled = false ∧
    1 ≤ parNat w_CabenAccessesMemoryStreamsAndResets_6_p.params 2 2 ∧
    w_CabenAccessesMemoryStreamsAndResets_6_s.rf F.SC_CTL_RX_EN 0 (w_CabenAccessesMemoryStreamsAndResets_6_p.params.getD 0 0) = 1 ∧
    ((∀ q, q ∈ w_CabenAccessesMemoryStreamsAndResets_6_rest → ¬(q.tr = 0 ∧ q.tag = 2))) ∧
    w_CabenAccessesMemoryStreamsAndResets_6_s.freeTag 0 1 = some 0 := by decide +kernel

def w_CabenAccessesMemoryStreamsAndResets_7_s : State := cab_ (put s0 [(F.SC_CTL_RX_EN, [0, 0, 63])]) [pkt_ 0 2 16 [63, 0, 1, 0]]
def w_CabenAccessesMemoryStreamsAndResets_7_p : CabPkt := pkt_ 0 2 16 [63, 0, 1, 0]
theorem test_w_CabenAccessesMemoryStreamsAndResets_7 : w_CabenAccessesMemoryStreamsAndResets_7_s.cab.pkts = [w_CabenAccessesMemoryStreamsAndResets_7_p] ∧
    w_CabenAccessesMemoryStreamsAndResets_7_p.tr = 0 ∧
    w_CabenAccessesMemoryStreamsAndResets_7_p.tag = 2 ∧
    w_CabenAccessesMemoryStreamsAndResets_7_p.started = false := by decide +kernel

def w_CabenAccessesMemoryStreamsAndResets_7a_s : State := cab_ s0 [pkt_ 0 2 17 [63, 0, 0, 0]]
def w_CabenAccessesMemoryStreamsAndResets_7a_p : CabPkt := pkt_ 0 2 17 [63, 0, 0, 0]
theorem test_w_CabenAccessesMemoryStreamsAndResets_7a : w_CabenAccessesMemoryStreamsAndResets_7a_s.cab.pkts = [w_CabenAccessesMemoryStreamsAndResets_7a_p] ∧
    w_CabenAccessesMemoryStreamsAndResets_7a_p.tr = 0 ∧
    w_CabenAccessesMemoryStreamsAndResets_7a_p.tag = 2 ∧
    w_CabenAccessesMemoryStreamsAndResets_7a_p.started = false := by decide +kernel

def w_CabenAccessesMemoryStreamsAndResets_8_s : State := cab_ (put s0 [(F.SC_STAT_TX_STATE, [2, 0, 63])]) [pkt_ 0 2 17 [63, 0, 1, 0, 1, 0, 0, 0, 0, 0, 1]]
def w_CabenAccessesMemoryStreamsAndResets_8_p : CabPkt := pkt_ 0 2 17 [63, 0, 1, 0, 1, 0, 0, 0, 0, 0, 1]
theorem test_w_CabenAccessesMemoryStreamsAndResets_8 : w_CabenAccessesMemoryStreamsAndResets_8_s.cab.pkts = [w_CabenAccessesMemoryStreamsAndResets_8_p] ∧
    w_CabenAccessesMemoryStreamsAndResets_8_p.tr = 0 ∧
    w_CabenAccessesMemoryStreamsAndResets_8_p.tag = 2 ∧
    w_CabenAccessesMemoryStreamsAndResets_8_p.op = 0x11 ∧
    w_CabenAccessesMemoryStreamsAndResets_8_p.started = false ∧
    63 = w_CabenAccessesMemoryStreamsAndResets_8_p.params.getD 0 0 ∧
    w_CabenAccessesMemoryStreamsAndResets_8_s.rf F.SC_STAT_TX_STATE 0 63 = 2 ∧
    1 = min (parNat w_CabenAccessesMemoryStreamsAndResets_8_p.params 2 2) (w_CabenAccessesMemoryStreamsAndResets_8_s.txSize 63 - (w_CabenAccessesMemoryStreamsAndResets_8_s.sc 63).txLen) := by decide +kernel

def w_CabenAccessesMemoryStreamsAndResets_9_s : State := cab_ s0 [pkt_ 0 2 24 [2, 0, 0, 0, 0, 0, 0, 0]]
def w_CabenAccessesMemoryStreamsAndResets_9_p : CabPkt := pkt_ 0 2 24 [2, 0, 0, 0, 0, 0, 0, 0]
def w_CabenAccessesMemoryStreamsAndResets_9_rest : List CabPkt := []
theorem test_w_CabenAccessesMemoryStreamsAndResets_9 : w_CabenAccessesMemoryStreamsAndResets_9_s.cab.pkts = w_CabenAccessesMemoryStreamsAndResets_9_p :: w_CabenAccessesMemoryStreamsAndResets_9_rest ∧
    w_CabenAccessesMemoryStreamsAndResets_9_p.tr = 0 ∧
    w_CabenAccessesMemoryStreamsAndResets_9_p.tag = 2 ∧
    w_CabenAccessesMemoryStreamsAndResets_9_p.op = 0x18 ∧
    w_CabenAccessesMemoryStreamsAndResets_9_p.started = false ∧
    w_CabenAccessesMemoryStreamsAndResets_9_s.cfg.load = none ∧
    2 = w_CabenAccessesMemoryStreamsAndResets_9_p.params.getD 0 0 ∧
    2 < 3 ∧
    ((∀ q, q ∈ w_CabenAccessesMemoryStreamsAndResets_9_rest → ¬(q.tr = 0 ∧ q.tag = 2))) := by decide +kernel

def w_CabenAccessesMemoryStreamsAndResets_10_s : State := cab_ s0 [pkt_ 0 2 25 [0, 0, 0, 0]]
def w_CabenAccessesMemoryStreamsAndResets_10_p : CabPkt := pkt_ 0 2 25 [0, 0, 0, 0]
theorem test_w_CabenAccessesMemoryStreamsAndResets_10 : w_CabenAccessesMemoryStreamsAndResets_10_s.cabNew 0 2 0x19 = some w_CabenAccessesMemoryStreamsAndResets_10_p ∧
    ((w_CabenAccessesMemoryStreamsAndResets_10_s.rf F.DEV_ROLE_BOOT 0 < 4 ∨ 6 < w_CabenAccessesMemoryStreamsAndResets_10_s.rf F.DEV_ROLE_BOOT 0 ∨ w_CabenAccessesMemoryStreamsAndResets_10_s.imageLoaded = true)) := by decide +kernel

def w_CabenAccessesMemoryStreamsAndResets_11_s : State := cabCfg_ (pkt_ 0 2 25 [2, 0, 0, 0, 9]) (fun c => { c with load := some (loadOf true ImgHdr.none 0 ⟨0, 0, false⟩ [1, 2]) }) |> fun s => put s [(F.DEV_ROLE_BOOT, [4, 0])]
def w_CabenAccessesMemoryStreamsAndResets_11_p : CabPkt := pkt_ 0 2 25 [2, 0, 0, 0, 9]
def w_CabenAccessesMemoryStreamsAndResets_11_l : Load := loadOf true ImgHdr.none 0 ⟨0, 0, false⟩ [1, 2]
theorem test_w_CabenAccessesMemoryStreamsAndResets_11 : w_CabenAccessesMemoryStreamsAndResets_11_s.cabNew 0 2 0x19 = some w_CabenAccessesMemoryStreamsAndResets_11_p ∧
    4 ≤ w_CabenAccessesMemoryStreamsAndResets_11_s.rf F.DEV_ROLE_BOOT 0 ∧
    w_CabenAccessesMemoryStreamsAndResets_11_s.rf F.DEV_ROLE_BOOT 0 ≤ 6 ∧
    w_CabenAccessesMemoryStreamsAndResets_11_s.imageLoaded = false ∧
    w_CabenAccessesMemoryStreamsAndResets_11_s.cfg.load = some w_CabenAccessesMemoryStreamsAndResets_11_l ∧
    w_CabenAccessesMemoryStreamsAndResets_11_l.src = 3 ∧
    w_CabenAccessesMemoryStreamsAndResets_11_l.hdr.count = 0 ∧
    parNat w_CabenAccessesMemoryStreamsAndResets_11_p.params 0 4 = w_CabenAccessesMemoryStreamsAndResets_11_l.bytes.length ∧
    0 < w_CabenAccessesMemoryStreamsAndResets_11_l.bytes.length ∧
    w_CabenAccessesMemoryStreamsAndResets_11_l.bytes.length + (w_CabenAccessesMemoryStreamsAndResets_11_p.params.drop 4).length < 512 := by decide +kernel

def w_CabenAccessesMemoryStreamsAndResets_12_s : State := cab_ s0 [pkt_ 0 2 27 [0x44, 0x4C, 0x4F, 0x47, 0, 0]]
def w_CabenAccessesMemoryStreamsAndResets_12_p : CabPkt := pkt_ 0 2 27 [0x44, 0x4C, 0x4F, 0x47, 0, 0]
theorem test_w_CabenAccessesMemoryStreamsAndResets_12 : w_CabenAccessesMemoryStreamsAndResets_12_s.cabNew 0 2 0x1B = some w_CabenAccessesMemoryStreamsAndResets_12_p := by decide +kernel

def w_CabenAccessesMemoryStreamsAndResets_12a_s : State := cab_ s0 [pkt_ 0 2 27 [0x44, 0x4C, 0x4F, 0x47, 1, 1]]
def w_CabenAccessesMemoryStreamsAndResets_12a_p : CabPkt := pkt_ 0 2 27 [0x44, 0x4C, 0x4F, 0x47, 1, 1]
theorem test_w_CabenAccessesMemoryStreamsAndResets_12a : w_CabenAccessesMemoryStreamsAndResets_12a_s.cabNew 0 2 0x1B = some w_CabenAccessesMemoryStreamsAndResets_12a_p := by decide +kernel

def w_CabenAccessesMemoryStreamsAndResets_13_s : State := cab_ s0 [pkt_ 0 2 28 [1, 0]]
def w_CabenAccessesMemoryStreamsAndResets_13_p : CabPkt := pkt_ 0 2 28 [1, 0]
theorem test_w_CabenAccessesMemoryStreamsAndResets_13 : w_CabenAccessesMemoryStreamsAndResets_13_s.cabNew 0 2 0x1C = some w_CabenAccessesMemoryStreamsAndResets_13_p ∧
    w_CabenAccessesMemoryStreamsAndResets_13_p.params.getD 0 0 = 1 ∧
    1 < 2 ∧
    w_CabenAccessesMemoryStreamsAndResets_13_p.mute = false ∧
    0 = 0 := by decide +kernel

def w_CabenAccessesMemoryStreamsAndResets_14_s : State := cab_ s0 [pkt_ 0 2 40 [0, 1, 15]]
def w_CabenAccessesMemoryStreamsAndResets_14_p : CabPkt := pkt_ 0 2 40 [0, 1, 15]
theorem test_w_CabenAccessesMemoryStreamsAndResets_14 : w_CabenAccessesMemoryStreamsAndResets_14_s.cabPkt 0 2 = some w_CabenAccessesMemoryStreamsAndResets_14_p ∧
    w_CabenAccessesMemoryStreamsAndResets_14_p.op = 0x28 ∧
    w_CabenAccessesMemoryStreamsAndResets_14_p.params.getD 0 0 = 0 ∧
    1 = w_CabenAccessesMemoryStreamsAndResets_14_p.params.getD 1 0 ∧
    15 = w_CabenAccessesMemoryStreamsAndResets_14_p.params.getD 2 0 := by decide +kernel

def w_CabenAccessesMemoryStreamsAndResets_14a_s : State := cab_ s0 [pkt_ 0 2 40 [0, 5, 15]]
def w_CabenAccessesMemoryStreamsAndResets_14a_p : CabPkt := pkt_ 0 2 40 [0, 5, 15]
theorem test_w_CabenAccessesMemoryStreamsAndResets_14a : w_CabenAccessesMemoryStreamsAndResets_14a_s.cabPkt 0 2 = some w_CabenAccessesMemoryStreamsAndResets_14a_p ∧
    w_CabenAccessesMemoryStreamsAndResets_14a_p.op = 0x28 ∧
    w_CabenAccessesMemoryStreamsAndResets_14a_p.params.getD 0 0 = 0 ∧
    5 = w_CabenAccessesMemoryStreamsAndResets_14a_p.params.getD 1 0 ∧
    15 = w_CabenAccessesMemoryStreamsAndResets_14a_p.params.getD 2 0 := by decide +kernel

def w_CabenAccessesMemoryStreamsAndResets_15_s : State := cab_ s0 [pkt_ 0 2 40 [1, 0, 0]]
def w_CabenAccessesMemoryStreamsAndResets_15_p : CabPkt := pkt_ 0 2 40 [1, 0, 0]
theorem test_w_CabenAccessesMemoryStreamsAndResets_15 : w_CabenAccessesMemoryStreamsAndResets_15_s.cabNew 0 2 0x28 = some w_CabenAccessesMemoryStreamsAndResets_15_p ∧
    w_CabenAccessesMemoryStreamsAndResets_15_p.params.getD 0 0 = 1 := by decide +kernel

def w_CabenAccessesMemoryStreamsAndResets_16_s : State := cab_ s0 [pkt_ 0 2 40 [2, 0, 0]]
def w_CabenAccessesMemoryStreamsAndResets_16_p : CabPkt := pkt_ 0 2 40 [2, 0, 0]
theorem test_w_CabenAccessesMemoryStreamsAndResets_16 : w_CabenAccessesMemoryStreamsAndResets_16_s.cabNew 0 2 0x28 = some w_CabenAccessesMemoryStreamsAndResets_16_p ∧
    w_CabenAccessesMemoryStreamsAndResets_16_p.params.getD 0 0 = 2 ∧
    w_CabenAccessesMemoryStreamsAndResets_16_s.rst.inReset = false ∧
    w_CabenAccessesMemoryStreamsAndResets_16_s.rst.por = false ∧
    w_CabenAccessesMemoryStreamsAndResets_16_s.rst.devReq = none := by decide +kernel

def w_CabenAccessesMemoryStreamsAndResets_17_s : State := (cab_ s0 [pkt_ 0 2 41 [16, 1]]).setFm { s0.fm with log := [⟨1, 2, 3, 4⟩, ⟨5, 6, 7, 8⟩] }
def w_CabenAccessesMemoryStreamsAndResets_17_p : CabPkt := pkt_ 0 2 41 [16, 1]
theorem test_w_CabenAccessesMemoryStreamsAndResets_17 : w_CabenAccessesMemoryStreamsAndResets_17_s.cabNew 0 2 0x29 = some w_CabenAccessesMemoryStreamsAndResets_17_p ∧
    2 = min (w_CabenAccessesMemoryStreamsAndResets_17_p.params.getD 0 0) w_CabenAccessesMemoryStreamsAndResets_17_s.fm.log.length := by decide +kernel

def w_CabenAccessesMemoryStreamsAndResets_17a_s : State := (cab_ s0 [pkt_ 0 2 41 [1, 0]]).setFm { s0.fm with log := [⟨1, 2, 3, 4⟩, ⟨5, 6, 7, 8⟩] }
def w_CabenAccessesMemoryStreamsAndResets_17a_p : CabPkt := pkt_ 0 2 41 [1, 0]
theorem test_w_CabenAccessesMemoryStreamsAndResets_17a : w_CabenAccessesMemoryStreamsAndResets_17a_s.cabNew 0 2 0x29 = some w_CabenAccessesMemoryStreamsAndResets_17a_p ∧
    1 = min (w_CabenAccessesMemoryStreamsAndResets_17a_p.params.getD 0 0) w_CabenAccessesMemoryStreamsAndResets_17a_s.fm.log.length := by decide +kernel

def w_CabenAccessesMemoryStreamsAndResets_12b_s : State := cabCfg_ (pkt_ 1 2 27 [0x44, 0x4C, 0x4F, 0x47, 0, 0]) (fun c => { c with fuses := { c.fuses with secureEn := true } })
def w_CabenAccessesMemoryStreamsAndResets_12b_p : CabPkt := pkt_ 1 2 27 [0x44, 0x4C, 0x4F, 0x47, 0, 0]
theorem test_w_CabenAccessesMemoryStreamsAndResets_12b : w_CabenAccessesMemoryStreamsAndResets_12b_s.cabNew 1 2 0x1B = some w_CabenAccessesMemoryStreamsAndResets_12b_p := by decide +kernel

def w_CabenAccessesMemoryStreamsAndResets_13a_s : State := cabCfg_ (pkt_ 0 2 28 [1, 0]) (fun c => { c with dirOk := true, slots := [(6, (0x30000, 0x1000))], flash := [(0x30000, 7)] })
def w_CabenAccessesMemoryStreamsAndResets_13a_p : CabPkt := pkt_ 0 2 28 [1, 0]
theorem test_w_CabenAccessesMemoryStreamsAndResets_13a : w_CabenAccessesMemoryStreamsAndResets_13a_s.cabNew 0 2 0x1C = some w_CabenAccessesMemoryStreamsAndResets_13a_p ∧
    w_CabenAccessesMemoryStreamsAndResets_13a_p.params.getD 0 0 = 1 ∧
    1 < 2 ∧
    w_CabenAccessesMemoryStreamsAndResets_13a_p.mute = false ∧
    0 = 0 := by decide +kernel

def w_CabenAccessesMemoryStreamsAndResets_14b_s : State := (cab_ s0 [{ pkt_ 0 2 40 [0, 1, 15] with started := true }]).setIsland 1 15 { Isl.init with underReset := true }
def w_CabenAccessesMemoryStreamsAndResets_14b_p : CabPkt := { pkt_ 0 2 40 [0, 1, 15] with started := true }
theorem test_w_CabenAccessesMemoryStreamsAndResets_14b : w_CabenAccessesMemoryStreamsAndResets_14b_s.cabPkt 0 2 = some w_CabenAccessesMemoryStreamsAndResets_14b_p ∧
    w_CabenAccessesMemoryStreamsAndResets_14b_p.op = 0x28 ∧
    w_CabenAccessesMemoryStreamsAndResets_14b_p.params.getD 0 0 = 0 ∧
    1 = w_CabenAccessesMemoryStreamsAndResets_14b_p.params.getD 1 0 ∧
    15 = w_CabenAccessesMemoryStreamsAndResets_14b_p.params.getD 2 0 := by decide +kernel

def w_CabenAccessesMemoryStreamsAndResets_14c_s : State := cab_ s0 [{ pkt_ 0 2 40 [0, 1, 15] with started := true }]
def w_CabenAccessesMemoryStreamsAndResets_14c_p : CabPkt := { pkt_ 0 2 40 [0, 1, 15] with started := true }
theorem test_w_CabenAccessesMemoryStreamsAndResets_14c : w_CabenAccessesMemoryStreamsAndResets_14c_s.cabPkt 0 2 = some w_CabenAccessesMemoryStreamsAndResets_14c_p ∧
    w_CabenAccessesMemoryStreamsAndResets_14c_p.op = 0x28 ∧
    w_CabenAccessesMemoryStreamsAndResets_14c_p.params.getD 0 0 = 0 ∧
    1 = w_CabenAccessesMemoryStreamsAndResets_14c_p.params.getD 1 0 ∧
    15 = w_CabenAccessesMemoryStreamsAndResets_14c_p.params.getD 2 0 := by decide +kernel

def w_CabenAccessesMemoryStreamsAndResets_14d_s : State := cab_ s0 [pkt_ 0 2 40 [0, 1, 16]]
def w_CabenAccessesMemoryStreamsAndResets_14d_p : CabPkt := pkt_ 0 2 40 [0, 1, 16]
theorem test_w_CabenAccessesMemoryStreamsAndResets_14d : w_CabenAccessesMemoryStreamsAndResets_14d_s.cabPkt 0 2 = some w_CabenAccessesMemoryStreamsAndResets_14d_p ∧
    w_CabenAccessesMemoryStreamsAndResets_14d_p.op = 0x28 ∧
    w_CabenAccessesMemoryStreamsAndResets_14d_p.params.getD 0 0 = 0 ∧
    1 = w_CabenAccessesMemoryStreamsAndResets_14d_p.params.getD 1 0 ∧
    16 = w_CabenAccessesMemoryStreamsAndResets_14d_p.params.getD 2 0 := by decide +kernel

def w_FlashAndFusesChangeAsAllowed_1_s : State := nv_ (fun c => { c with jobs := [⟨[.program 0x30000 [1, 2]], false, none, false⟩] })
def w_FlashAndFusesChangeAsAllowed_1_j : NvJob := ⟨[.program 0x30000 [1, 2]], false, none, false⟩
def w_FlashAndFusesChangeAsAllowed_1_pg : List Nat := [1, 2]
def w_FlashAndFusesChangeAsAllowed_1_b : List Nat := [1, 2, 0, 0] ++ leBytes 4 0x30000 ++ leBytes 4 (crc32c [1, 2])
def w_FlashAndFusesChangeAsAllowed_1_rest : List FlashOp := []
theorem test_w_FlashAndFusesChangeAsAllowed_1 : w_FlashAndFusesChangeAsAllowed_1_s.cfg.jobs = [w_FlashAndFusesChangeAsAllowed_1_j] ∧
    w_FlashAndFusesChangeAsAllowed_1_j.ops = .program 0x30000 w_FlashAndFusesChangeAsAllowed_1_pg :: w_FlashAndFusesChangeAsAllowed_1_rest ∧
    w_FlashAndFusesChangeAsAllowed_1_s.nvMayBegin w_FlashAndFusesChangeAsAllowed_1_j = true ∧
    w_FlashAndFusesChangeAsAllowed_1_s.opRefused w_FlashAndFusesChangeAsAllowed_1_j 0x30000 = none ∧
    w_FlashAndFusesChangeAsAllowed_1_s.cfg.jput % 4096 ≠ 0 ∧
    w_FlashAndFusesChangeAsAllowed_1_s.cfg.jput + 16 ≤ (w_FlashAndFusesChangeAsAllowed_1_s.slot 3).2 ∧
    2 = w_FlashAndFusesChangeAsAllowed_1_s.slotOf 0x30000 ∧
    2 < 5 ∧
    0x10010 = (w_FlashAndFusesChangeAsAllowed_1_s.slot 3).1 + w_FlashAndFusesChangeAsAllowed_1_s.cfg.jput ∧
    w_FlashAndFusesChangeAsAllowed_1_b = [1, 2, 0, 0] ++ leBytes 4 0x30000 ++ leBytes 4 (crc32c w_FlashAndFusesChangeAsAllowed_1_pg) := by decide +kernel

def w_FlashAndFusesChangeAsAllowed_2_s : State := nv_ (fun c => { c with jobs := [⟨[.program 0x20000 [1, 2]], false, none, false⟩] })
def w_FlashAndFusesChangeAsAllowed_2_j : NvJob := ⟨[.program 0x20000 [1, 2]], false, none, false⟩
def w_FlashAndFusesChangeAsAllowed_2_pg : List Nat := [1, 2]
def w_FlashAndFusesChangeAsAllowed_2_rest : List FlashOp := []
theorem test_w_FlashAndFusesChangeAsAllowed_2 : w_FlashAndFusesChangeAsAllowed_2_s.cfg.jobs = [w_FlashAndFusesChangeAsAllowed_2_j] ∧
    ((w_FlashAndFusesChangeAsAllowed_2_j.ops = .program 0x20000 w_FlashAndFusesChangeAsAllowed_2_pg :: w_FlashAndFusesChangeAsAllowed_2_rest ∨ w_FlashAndFusesChangeAsAllowed_2_j.ops = .erase 0x20000 :: w_FlashAndFusesChangeAsAllowed_2_rest)) ∧
    w_FlashAndFusesChangeAsAllowed_2_s.nvMayBegin w_FlashAndFusesChangeAsAllowed_2_j = true ∧
    w_FlashAndFusesChangeAsAllowed_2_s.opRefused w_FlashAndFusesChangeAsAllowed_2_j 0x20000 = some 9 ∧
    w_FlashAndFusesChangeAsAllowed_2_j.owner = none ∧
    w_FlashAndFusesChangeAsAllowed_2_s.cfg.load = none := by decide +kernel

def w_FlashAndFusesChangeAsAllowed_2a_s : State := nv_ (fun c => { c with jobs := [⟨[.erase 0x20000], false, none, false⟩] })
def w_FlashAndFusesChangeAsAllowed_2a_j : NvJob := ⟨[.erase 0x20000], false, none, false⟩
def w_FlashAndFusesChangeAsAllowed_2a_pg : List Nat := []
def w_FlashAndFusesChangeAsAllowed_2a_rest : List FlashOp := []
theorem test_w_FlashAndFusesChangeAsAllowed_2a : w_FlashAndFusesChangeAsAllowed_2a_s.cfg.jobs = [w_FlashAndFusesChangeAsAllowed_2a_j] ∧
    ((w_FlashAndFusesChangeAsAllowed_2a_j.ops = .program 0x20000 w_FlashAndFusesChangeAsAllowed_2a_pg :: w_FlashAndFusesChangeAsAllowed_2a_rest ∨ w_FlashAndFusesChangeAsAllowed_2a_j.ops = .erase 0x20000 :: w_FlashAndFusesChangeAsAllowed_2a_rest)) ∧
    w_FlashAndFusesChangeAsAllowed_2a_s.nvMayBegin w_FlashAndFusesChangeAsAllowed_2a_j = true ∧
    w_FlashAndFusesChangeAsAllowed_2a_s.opRefused w_FlashAndFusesChangeAsAllowed_2a_j 0x20000 = some 9 ∧
    w_FlashAndFusesChangeAsAllowed_2a_j.owner = none ∧
    w_FlashAndFusesChangeAsAllowed_2a_s.cfg.load = none := by decide +kernel

def w_FlashAndFusesChangeAsAllowed_3_s : State := nv_ (fun c => { c with jobs := [⟨[.program 0x30000 [1, 2]], true, none, false⟩], active := some (.program 0x30000 [1, 2]) })
def w_FlashAndFusesChangeAsAllowed_3_j : NvJob := ⟨[.program 0x30000 [1, 2]], true, none, false⟩
def w_FlashAndFusesChangeAsAllowed_3_pg : List Nat := [1, 2]
theorem test_w_FlashAndFusesChangeAsAllowed_3 : w_FlashAndFusesChangeAsAllowed_3_s.cfg.active = some (.program 0x30000 w_FlashAndFusesChangeAsAllowed_3_pg) ∧
    w_FlashAndFusesChangeAsAllowed_3_s.cfg.jobs = [w_FlashAndFusesChangeAsAllowed_3_j] ∧
    w_FlashAndFusesChangeAsAllowed_3_j.ops.length ≤ 1 ∧
    w_FlashAndFusesChangeAsAllowed_3_j.owner = none ∧
    w_FlashAndFusesChangeAsAllowed_3_s.cfg.load = none ∧
    w_FlashAndFusesChangeAsAllowed_3_s.cfg.jput % 4096 ≠ 0 ∧
    w_FlashAndFusesChangeAsAllowed_3_s.cfg.jput + 16 ≤ (w_FlashAndFusesChangeAsAllowed_3_s.slot 3).2 ∧
    w_FlashAndFusesChangeAsAllowed_3_s.slotOf 0x30000 < 5 ∧
    0x10010 = (w_FlashAndFusesChangeAsAllowed_3_s.slot 3).1 + w_FlashAndFusesChangeAsAllowed_3_s.cfg.jput ∧
    ((0x30000 + w_FlashAndFusesChangeAsAllowed_3_pg.length ≤ 0x10010 ∨ 0x10010 + 16 ≤ 0x30000)) := by decide +kernel

def w_FlashAndFusesChangeAsAllowed_4_s : State := nv_ (fun c => { c with jobs := [⟨[.erase 0x30000], false, none, false⟩] })
def w_FlashAndFusesChangeAsAllowed_4_j : NvJob := ⟨[.erase 0x30000], false, none, false⟩
def w_FlashAndFusesChangeAsAllowed_4_rest : List FlashOp := []
theorem test_w_FlashAndFusesChangeAsAllowed_4 : w_FlashAndFusesChangeAsAllowed_4_s.cfg.jobs = [w_FlashAndFusesChangeAsAllowed_4_j] ∧
    w_FlashAndFusesChangeAsAllowed_4_j.ops = .erase 0x30000 :: w_FlashAndFusesChangeAsAllowed_4_rest ∧
    w_FlashAndFusesChangeAsAllowed_4_s.nvMayBegin w_FlashAndFusesChangeAsAllowed_4_j = true ∧
    w_FlashAndFusesChangeAsAllowed_4_s.opRefused w_FlashAndFusesChangeAsAllowed_4_j 0x30000 = none ∧
    w_FlashAndFusesChangeAsAllowed_4_s.eraseOver 0x30000 = false ∧
    w_FlashAndFusesChangeAsAllowed_4_s.cfg.jput % 4096 ≠ 0 ∧
    w_FlashAndFusesChangeAsAllowed_4_s.cfg.jput + 16 ≤ (w_FlashAndFusesChangeAsAllowed_4_s.slot 3).2 ∧
    2 = w_FlashAndFusesChangeAsAllowed_4_s.slotOf 0x30000 ∧
    2 < 5 ∧
    0x10010 = (w_FlashAndFusesChangeAsAllowed_4_s.slot 3).1 + w_FlashAndFusesChangeAsAllowed_4_s.cfg.jput := by decide +kernel

def w_FlashAndFusesChangeAsAllowed_5_s : State := nv_ (fun c => { c with jobs := [⟨[.erase 0x30000], true, none, false⟩], active := some (.erase 0x30000), flash := [(0x30005, 7)] })
def w_FlashAndFusesChangeAsAllowed_5_j : NvJob := ⟨[.erase 0x30000], true, none, false⟩
theorem test_w_FlashAndFusesChangeAsAllowed_5 : w_FlashAndFusesChangeAsAllowed_5_s.cfg.active = some (.erase 0x30000) ∧
    w_FlashAndFusesChangeAsAllowed_5_s.cfg.jobs = [w_FlashAndFusesChangeAsAllowed_5_j] ∧
    w_FlashAndFusesChangeAsAllowed_5_j.ops.length ≤ 1 ∧
    w_FlashAndFusesChangeAsAllowed_5_j.owner = none ∧
    w_FlashAndFusesChangeAsAllowed_5_s.cfg.load = none ∧
    w_FlashAndFusesChangeAsAllowed_5_s.cfg.jput % 4096 ≠ 0 ∧
    w_FlashAndFusesChangeAsAllowed_5_s.cfg.jput + 16 ≤ (w_FlashAndFusesChangeAsAllowed_5_s.slot 3).2 ∧
    w_FlashAndFusesChangeAsAllowed_5_s.slotOf 0x30000 < 5 ∧
    0x10010 = (w_FlashAndFusesChangeAsAllowed_5_s.slot 3).1 + w_FlashAndFusesChangeAsAllowed_5_s.cfg.jput ∧
    ((0x10010 + 15 < 0x30000 / 4096 * 4096 ∨ 0x30000 / 4096 * 4096 + 4096 ≤ 0x10010)) ∧
    w_FlashAndFusesChangeAsAllowed_5_s.eraseCnt (w_FlashAndFusesChangeAsAllowed_5_s.slotOf 0x30000) ≠ w_FlashAndFusesChangeAsAllowed_5_s.endurance := by decide +kernel

def w_FlashAndFusesChangeAsAllowed_6_s : State := cabCfg_ (pkt_ 0 2 26 [4, 0]) id
def w_FlashAndFusesChangeAsAllowed_6_p : CabPkt := pkt_ 0 2 26 [4, 0]
theorem test_w_FlashAndFusesChangeAsAllowed_6 : w_FlashAndFusesChangeAsAllowed_6_s.cabNew 0 2 0x1A = some w_FlashAndFusesChangeAsAllowed_6_p ∧
    w_FlashAndFusesChangeAsAllowed_6_s.cfg.jobs = [] ∧
    w_FlashAndFusesChangeAsAllowed_6_s.cfg.active = none ∧
    w_FlashAndFusesChangeAsAllowed_6_s.cfg.load = none ∧
    4 = w_FlashAndFusesChangeAsAllowed_6_p.params.getD 0 0 ∧
    4 < 6 ∧
    w_FlashAndFusesChangeAsAllowed_6_p.mute = false ∧
    0 = 0 := by decide +kernel

def w_FlashAndFusesChangeAsAllowed_6a_s : State := dirState_
def w_FlashAndFusesChangeAsAllowed_6a_p : CabPkt := pkt_ 0 2 26 ([5, 0] ++ leBytes 6 (2 ^ 36) ++ leBytes 4 92)
theorem test_w_FlashAndFusesChangeAsAllowed_6a : w_FlashAndFusesChangeAsAllowed_6a_s.cabNew 0 2 0x1A = some w_FlashAndFusesChangeAsAllowed_6a_p ∧
    w_FlashAndFusesChangeAsAllowed_6a_s.cfg.jobs = [] ∧
    w_FlashAndFusesChangeAsAllowed_6a_s.cfg.active = none ∧
    w_FlashAndFusesChangeAsAllowed_6a_s.cfg.load = none ∧
    5 = w_FlashAndFusesChangeAsAllowed_6a_p.params.getD 0 0 ∧
    5 < 6 ∧
    w_FlashAndFusesChangeAsAllowed_6a_p.mute = false ∧
    0 = 0 := by decide +kernel

def w_FlashAndFusesChangeAsAllowed_7_s : State := cabCfg_ (pkt_ 0 2 32 [1, 0, 0, 0]) id
def w_FlashAndFusesChangeAsAllowed_7_p : CabPkt := pkt_ 0 2 32 [1, 0, 0, 0]
theorem test_w_FlashAndFusesChangeAsAllowed_7 : w_FlashAndFusesChangeAsAllowed_7_s.cabNew 0 2 0x20 = some w_FlashAndFusesChangeAsAllowed_7_p := by decide +kernel

def w_FlashAndFusesChangeAsAllowed_8_s : State := nv_ (fun c => c) |> fun s => cab_ s [pkt_ 0 2 33 [1, 0, 31, 2, 255, 255, 15]]
def w_FlashAndFusesChangeAsAllowed_8_p : CabPkt := pkt_ 0 2 33 [1, 0, 31, 2, 255, 255, 15]
theorem test_w_FlashAndFusesChangeAsAllowed_8 : w_FlashAndFusesChangeAsAllowed_8_s.cabNew 0 2 0x21 = some w_FlashAndFusesChangeAsAllowed_8_p ∧
    w_FlashAndFusesChangeAsAllowed_8_s.cfg.jobs = [] ∧
    w_FlashAndFusesChangeAsAllowed_8_s.cfg.active = none ∧
    w_FlashAndFusesChangeAsAllowed_8_p.params.getD 0 0 = 1 := by decide +kernel

def w_FlashAndFusesChangeAsAllowed_9_s : State := nv_ (fun c => c) |> fun s => cab_ s [pkt_ 0 2 34 [0, 0, 0, 0, 0, 0x40]]
def w_FlashAndFusesChangeAsAllowed_9_p : CabPkt := pkt_ 0 2 34 [0, 0, 0, 0, 0, 0x40]
theorem test_w_FlashAndFusesChangeAsAllowed_9 : w_FlashAndFusesChangeAsAllowed_9_s.cabNew 0 2 0x22 = some w_FlashAndFusesChangeAsAllowed_9_p ∧
    w_FlashAndFusesChangeAsAllowed_9_s.cfg.jobs = [] ∧
    w_FlashAndFusesChangeAsAllowed_9_s.cfg.active = none := by decide +kernel

def w_FlashAndFusesChangeAsAllowed_9a_s : State := nv_ (fun c => c) |> fun s => cab_ s [pkt_ 0 2 34 [0, 0, 0, 0, 0, 0x41]]
def w_FlashAndFusesChangeAsAllowed_9a_p : CabPkt := pkt_ 0 2 34 [0, 0, 0, 0, 0, 0x41]
theorem test_w_FlashAndFusesChangeAsAllowed_9a : w_FlashAndFusesChangeAsAllowed_9a_s.cabNew 0 2 0x22 = some w_FlashAndFusesChangeAsAllowed_9a_p ∧
    w_FlashAndFusesChangeAsAllowed_9a_s.cfg.jobs = [] ∧
    w_FlashAndFusesChangeAsAllowed_9a_s.cfg.active = none := by decide +kernel

def w_FlashAndFusesChangeAsAllowed_10_s : State := cabCfg_ (pkt_ 0 2 35 [6, 1]) id
def w_FlashAndFusesChangeAsAllowed_10_p : CabPkt := pkt_ 0 2 35 [6, 1]
theorem test_w_FlashAndFusesChangeAsAllowed_10 : w_FlashAndFusesChangeAsAllowed_10_s.cabNew 0 2 0x23 = some w_FlashAndFusesChangeAsAllowed_10_p ∧
    6 = w_FlashAndFusesChangeAsAllowed_10_p.params.getD 0 0 := by decide +kernel

def w_FlashAndFusesChangeAsAllowed_10a_s : State := cabCfg_ (pkt_ 1 2 35 [6, 1]) id
def w_FlashAndFusesChangeAsAllowed_10a_p : CabPkt := pkt_ 1 2 35 [6, 1]
theorem test_w_FlashAndFusesChangeAsAllowed_10a : w_FlashAndFusesChangeAsAllowed_10a_s.cabNew 1 2 0x23 = some w_FlashAndFusesChangeAsAllowed_10a_p ∧
    6 = w_FlashAndFusesChangeAsAllowed_10a_p.params.getD 0 0 := by decide +kernel

def w_FlashAndFusesChangeAsAllowed_8a_s : State := nv_ (fun c => c) |> fun s => cab_ s [pkt_ 0 2 33 [1, 0, 32, 2, 255, 255, 15]]
def w_FlashAndFusesChangeAsAllowed_8a_p : CabPkt := pkt_ 0 2 33 [1, 0, 32, 2, 255, 255, 15]
theorem test_w_FlashAndFusesChangeAsAllowed_8a : w_FlashAndFusesChangeAsAllowed_8a_s.cabNew 0 2 0x21 = some w_FlashAndFusesChangeAsAllowed_8a_p ∧
    w_FlashAndFusesChangeAsAllowed_8a_s.cfg.jobs = [] ∧
    w_FlashAndFusesChangeAsAllowed_8a_s.cfg.active = none ∧
    w_FlashAndFusesChangeAsAllowed_8a_p.params.getD 0 0 = 1 := by decide +kernel

def w_FlashAndFusesChangeAsAllowed_9b_s : State := stored_ 2 (softRecord [0x410000000000]) (cab_ (nv_ fun c => c) [pkt_ 0 2 34 [0, 0, 0, 0, 0, 0x41]])
def w_FlashAndFusesChangeAsAllowed_9b_p : CabPkt := pkt_ 0 2 34 [0, 0, 0, 0, 0, 0x41]
theorem test_w_FlashAndFusesChangeAsAllowed_9b : w_FlashAndFusesChangeAsAllowed_9b_s.cabNew 0 2 0x22 = some w_FlashAndFusesChangeAsAllowed_9b_p ∧
    w_FlashAndFusesChangeAsAllowed_9b_s.cfg.jobs = [] ∧
    w_FlashAndFusesChangeAsAllowed_9b_s.cfg.active = none := by decide +kernel

def w_FlashAndFusesChangeAsAllowed_7a_s : State := stored_ 1 [31, 2, 1, 0, 0] (cab_ (nv_ fun c => c) [pkt_ 0 2 32 [1, 0, 1, 0]])
def w_FlashAndFusesChangeAsAllowed_7a_p : CabPkt := pkt_ 0 2 32 [1, 0, 1, 0]
theorem test_w_FlashAndFusesChangeAsAllowed_7a : w_FlashAndFusesChangeAsAllowed_7a_s.cabNew 0 2 0x20 = some w_FlashAndFusesChangeAsAllowed_7a_p := by decide +kernel

def w_FlashAndFusesChangeAsAllowed_10b_s : State := cabCfg_ (pkt_ 0 2 35 [6, 1]) (fun c => { c with blown := { c.blown with debugClose := true } })
def w_FlashAndFusesChangeAsAllowed_10b_p : CabPkt := pkt_ 0 2 35 [6, 1]
theorem test_w_FlashAndFusesChangeAsAllowed_10b : w_FlashAndFusesChangeAsAllowed_10b_s.cabNew 0 2 0x23 = some w_FlashAndFusesChangeAsAllowed_10b_p ∧
    6 = w_FlashAndFusesChangeAsAllowed_10b_p.params.getD 0 0 := by decide +kernel

def w_FlashAndFusesChangeAsAllowed_10c_s : State := cabCfg_ (pkt_ 0 2 35 [1, 1]) id
def w_FlashAndFusesChangeAsAllowed_10c_p : CabPkt := pkt_ 0 2 35 [1, 1]
theorem test_w_FlashAndFusesChangeAsAllowed_10c : w_FlashAndFusesChangeAsAllowed_10c_s.cabNew 0 2 0x23 = some w_FlashAndFusesChangeAsAllowed_10c_p ∧
    1 = w_FlashAndFusesChangeAsAllowed_10c_p.params.getD 0 0 := by decide +kernel

def w_FlashAndFusesChangeAsAllowed_10d_s : State := put (cabCfg_ (pkt_ 0 2 35 [5, 1]) (fun c => { c with blown := { c.blown with keyHash1 := 9 } })) [(F.THERM_DIE_TEMP, [86, 0, 1])]
def w_FlashAndFusesChangeAsAllowed_10d_p : CabPkt := pkt_ 0 2 35 [5, 1]
theorem test_w_FlashAndFusesChangeAsAllowed_10d : w_FlashAndFusesChangeAsAllowed_10d_s.cabNew 0 2 0x23 = some w_FlashAndFusesChangeAsAllowed_10d_p ∧
    5 = w_FlashAndFusesChangeAsAllowed_10d_p.params.getD 0 0 := by decide +kernel

def w_FlashAndFusesChangeAsAllowed_11_s : State := (put (nv_ id) [(F.PROT_ERR_LAST_VALID, [1, 1, 1]), (F.CABEN_STAT_BOOT_SM, [0])]) |> fun s => s.setRst { s.rst with phase := 7 }
def w_FlashAndFusesChangeAsAllowed_11_e : Nat := 2 ^ 46 + 2 ^ 43 + 2 ^ 40
theorem test_w_FlashAndFusesChangeAsAllowed_11 : 4 ≤ w_FlashAndFusesChangeAsAllowed_11_s.rst.phase ∧
    w_FlashAndFusesChangeAsAllowed_11_s.rst.phase ≤ 7 ∧
    w_FlashAndFusesChangeAsAllowed_11_s.bootSm = false ∧
    w_FlashAndFusesChangeAsAllowed_11_s.cfg.jobs = [] ∧
    w_FlashAndFusesChangeAsAllowed_11_s.cfg.active = none ∧
    w_FlashAndFusesChangeAsAllowed_11_s.cfg.load = none ∧
    w_FlashAndFusesChangeAsAllowed_11_s.repairValid w_FlashAndFusesChangeAsAllowed_11_e = true ∧
    w_FlashAndFusesChangeAsAllowed_11_s.repairSeen w_FlashAndFusesChangeAsAllowed_11_e = true ∧
    w_FlashAndFusesChangeAsAllowed_11_e ∉ w_FlashAndFusesChangeAsAllowed_11_s.softEntries ∧
    w_FlashAndFusesChangeAsAllowed_11_s.softEntries.length < 256 ∧
    w_FlashAndFusesChangeAsAllowed_11_s.retired 4 = false ∧
    w_FlashAndFusesChangeAsAllowed_11_s.retired 3 = false := by decide +kernel

def w_FlashAndFusesChangeAsAllowed_12_s : State := s0
theorem test_w_FlashAndFusesChangeAsAllowed_12 : ((w_FlashAndFusesChangeAsAllowed_12_s.rst.phase < 4 ∨ w_FlashAndFusesChangeAsAllowed_12_s.repairValid 5 = false ∨ w_FlashAndFusesChangeAsAllowed_12_s.repairSeen 5 = false ∨ 5 ∈ w_FlashAndFusesChangeAsAllowed_12_s.softEntries ∨ w_FlashAndFusesChangeAsAllowed_12_s.cfg.jobs ≠ [])) := by decide +kernel

def w_AStepPerformsTheCommandAtTheFront_1_c : Instr := .supplyOutOfRange 3
def w_AStepPerformsTheCommandAtTheFront_1_s : State := { s0 with pending := [.supplyOutOfRange 3] }
def w_AStepPerformsTheCommandAtTheFront_1_rest : List Instr := []
theorem test_w_AStepPerformsTheCommandAtTheFront_1 : w_AStepPerformsTheCommandAtTheFront_1_s.pending = w_AStepPerformsTheCommandAtTheFront_1_c :: w_AStepPerformsTheCommandAtTheFront_1_rest := by decide +kernel

def w_AStepPerformsTheCommandAtTheFront_2_s : State := s0
theorem test_w_AStepPerformsTheCommandAtTheFront_2 : w_AStepPerformsTheCommandAtTheFront_2_s.pending = [] := by decide +kernel

def w_EveryCommandIsPerformedAndLeavesTheQueue_1_c : Instr := .supplyOutOfRange 3
def w_EveryCommandIsPerformedAndLeavesTheQueue_1_s : State := s0


theorem test_w_ResetLeavesRegistersAtTheirValues_2 : 1 ≤ 4 ∧
    4 < 5 ∧
    15 < 16 := by decide +kernel

theorem test_w_ResetLeavesRegistersAtTheirValues_3 : 1 ≤ 4 ∧
    4 < 5 ∧
    3 < 4 := by decide +kernel

theorem test_w_ResetLeavesRegistersAtTheirValues_4 : 7 < 8 := by decide +kernel

theorem test_w_ResetLeavesRegistersAtTheirValues_5 : 63 < 64 := by decide +kernel

theorem test_w_ResetLeavesRegistersAtTheirValues_6 : 3 < 4 := by decide +kernel

theorem test_w_ResetLeavesRegistersAtTheirValues_7 : 15 < 16 := by decide +kernel

theorem test_w_ResetLeavesRegistersAtTheirValues_8 : 1 < 2 := by decide +kernel

def w_EveryStepKeepsMemoryInItsForm_1_s : State := { s0.putWord 1 5 (dataWord 7) with pending := [.idcode] }
def w_EveryStepKeepsMemoryInItsForm_1_t : State := (match step w_EveryStepKeepsMemoryInItsForm_1_s with | .next t => t | _ => s0)
theorem test_w_EveryStepKeepsMemoryInItsForm_1 : Memory.wf w_EveryStepKeepsMemoryInItsForm_1_s.mem = true ∧
    step w_EveryStepKeepsMemoryInItsForm_1_s = .next w_EveryStepKeepsMemoryInItsForm_1_t := ⟨by decide +kernel, rfl⟩

end Sys2Proof.Tests
end

section
/-!
SUPPORT. Coder roles and Saette links: proofs of the statements O6, O38 and O40.
-/
namespace Sys2Proof.Machine

/-! ## Registers kept -/

theorem RegsKept.refl (s : State) (rs : List Reg) : RegsKept s s rs := fun _ _ => rfl

/-- A field written in one of the registers that may change keeps the others. -/
theorem RegsKept.wf {s t : State} {rs : List Reg} (h : RegsKept s t rs) (f : Fld) (v d i j : Nat)
    (hf : (⟨f.reg, d, i, j⟩ : Reg) ∈ rs) : RegsKept s (t.wf f v d i j) rs := by
  intro q hq
  have hne : q ≠ ⟨f.reg, d, i, j⟩ := by rintro rfl; exact hq hf
  rw [State.reg_wf_ne _ _ _ _ _ _ _ hne]
  exact h q hq

theorem OnlyRegs.refl (s : State) (rs : List Reg) : OnlyRegs s s rs := ⟨rfl, .refl s rs⟩

theorem OnlyRegs.wf {s t : State} {rs : List Reg} (h : OnlyRegs s t rs) (f : Fld) (v d i j : Nat)
    (hf : (⟨f.reg, d, i, j⟩ : Reg) ∈ rs) : OnlyRegs s (t.wf f v d i j) rs := by
  obtain ⟨hregs, hkept⟩ := h
  obtain ⟨m, rfl⟩ : ∃ m, t = { s with regs := m } := ⟨_, hregs⟩
  exact ⟨rfl, hkept.wf f v d i j hf⟩

/-! ## Line outputs noting their levels -/

/-- Nothing differs but what the line outputs have noted (R1006). -/
def OnlyNoted (s t : State) : Prop := ∃ d l, t = { s with dio := d, lio := l }

theorem OnlyNoted.refl (s : State) : OnlyNoted s s := ⟨s.dio, s.lio, rfl⟩

theorem OnlyNoted.noteDio {s t : State} (h : OnlyNoted s t) (d i : Nat) : OnlyNoted s (t.noteDio d i) := by
  refine foldl_keeps (OnlyNoted s) _ _ t h fun u k hu => ?_
  obtain ⟨_, _, rfl⟩ := hu
  dsimp only
  split
  · exact ⟨_, _, rfl⟩
  · exact ⟨_, _, rfl⟩

theorem OnlyNoted.noteTile {s t : State} (h : OnlyNoted s t) (n : Nat) : OnlyNoted s (t.noteTile n) := by
  obtain ⟨_, _, rfl⟩ := h
  unfold State.noteTile
  split
  · exact ⟨_, _, rfl⟩
  · exact ⟨_, _, rfl⟩

theorem OnlyNoted.noteGpio {s t : State} (h : OnlyNoted s t) (q : Nat) : OnlyNoted s (t.noteGpio q) := by
  obtain ⟨_, _, rfl⟩ := h
  unfold State.noteGpio
  split
  · exact ⟨_, _, rfl⟩
  · exact ⟨_, _, rfl⟩

theorem State.noteOutputs_onlyNoted (s : State) : OnlyNoted s s.noteOutputs := by
  have hdio : OnlyNoted s (s.fabDies.foldl (fun s d => dioIslands.foldl (fun s i => s.noteDio d i) s) s) :=
    foldl_keeps (OnlyNoted s) _ _ s (.refl s) fun t _ ht => foldl_keeps (OnlyNoted s) _ _ t ht fun _ _ hu => hu.noteDio _ _
  exact foldl_keeps (OnlyNoted s) _ _ _ ((hdio.noteGpio 0).noteGpio 1) fun _ _ hu => hu.noteTile _

/-- OUT_EN replaced: beside the field only what the outputs noted changes (R18, R1006). -/
theorem State.setOutEn_spec (s : State) (on : Bool) : OnlyNoted (s.wf F.DEV_ROLE_CTL_OUT_EN (b2n on) 0) (s.setOutEn on) := by
  cases on with
  | true => exact State.noteOutputs_onlyNoted _
  | false =>
    obtain ⟨d, l, h⟩ := s.noteOutputs_onlyNoted
    change OnlyNoted _ (s.noteOutputs.wf F.DEV_ROLE_CTL_OUT_EN (b2n false) 0)
    rw [h]
    exact ⟨d, l, rfl⟩

/-! ## DEV_ROLE_CTL -/

theorem State.roleWants_congr {s t : State} (l : Nat) (hrole : t.rf F.DEV_ROLE_ROLE 0 = s.rf F.DEV_ROLE_ROLE 0)
    (hb : t.rf F.DEV_ROLE_CTL_HEAD_LINK_B_EN 0 = s.rf F.DEV_ROLE_CTL_HEAD_LINK_B_EN 0)
    (he : t.rf F.DEV_ROLE_CTL_HEAD_LINK_EN 0 = s.rf F.DEV_ROLE_CTL_HEAD_LINK_EN 0) : t.roleWants l = s.roleWants l := by
  unfold State.roleWants State.rb
  rw [hrole, hb, he]

theorem State.lineOk_congr {s t : State} (hcfg : t.cfg = s.cfg) (hrole : t.rf F.DEV_ROLE_ROLE 0 = s.rf F.DEV_ROLE_ROLE 0)
    (hact : t.rf F.DEV_ROLE_CTL_ACTIVE 0 = s.rf F.DEV_ROLE_CTL_ACTIVE 0)
    (hsl : ∀ l, t.rf F.SL_STAT_STATE 0 l = s.rf F.SL_STAT_STATE 0 l) : t.lineOk = s.lineOk := by
  unfold State.lineOk State.imageLoaded State.slOpen State.rb
  rw [hcfg, hrole, hact, hsl, hsl]

/-- What a write of DEV_ROLE_CTL stores before links and OUT_EN follow it (R37, R51, Table 1-7). -/
def State.roleCtlFields (s : State) (w : Nat) : State :=
  let hw := bits w 5 4
  let s := s.wf F.DEV_ROLE_CTL_LINK_HOLD (bits w 15 8) 0
  let s := if s.is20 && hw == 3 then s else s.wf F.DEV_ROLE_CTL_HEAD_WIDTH hw 0
  (s.wf F.DEV_ROLE_CTL_HEAD_LINK_B_EN (bits w 3 3) 0).wf F.DEV_ROLE_CTL_HEAD_LINK_EN (bits w 2 2) 0

section
variable (s : State) (w : Nat)

theorem State.roleCtlFields_only : OnlyRegs s (s.roleCtlFields w) [reg0 .DEV_ROLE_CTL] := by
  unfold State.roleCtlFields
  have hm : reg0 .DEV_ROLE_CTL ∈ [reg0 .DEV_ROLE_CTL] := List.mem_singleton.mpr rfl
  dsimp only
  split
  · exact (((OnlyRegs.refl s _).wf _ _ _ _ _ hm).wf _ _ _ _ _ hm).wf _ _ _ _ _ hm
  · exact ((((OnlyRegs.refl s _).wf _ _ _ _ _ hm).wf _ _ _ _ _ hm).wf _ _ _ _ _ hm).wf _ _ _ _ _ hm

theorem State.roleCtlFields_frame : ∃ m, s.roleCtlFields w = { s with regs := m } := ⟨_, (s.roleCtlFields_only w).1⟩

/-- A field that shares no bit with those stored keeps its value. -/
theorem State.rf_roleCtlFields_apart (g : Fld) (d i j : Nat) (hh : F.DEV_ROLE_CTL_LINK_HOLD.apart g = true)
    (hw : F.DEV_ROLE_CTL_HEAD_WIDTH.apart g = true) (hb : F.DEV_ROLE_CTL_HEAD_LINK_B_EN.apart g = true)
    (he : F.DEV_ROLE_CTL_HEAD_LINK_EN.apart g = true) : (s.roleCtlFields w).rf g d i j = s.rf g d i j := by
  unfold State.roleCtlFields
  dsimp only
  rw [State.rf_wf_apart _ _ _ _ _ _ _ _ _ _ rfl he, State.rf_wf_apart _ _ _ _ _ _ _ _ _ _ rfl hb]
  split
  · rw [State.rf_wf_apart _ _ _ _ _ _ _ _ _ _ rfl hh]
  · rw [State.rf_wf_apart _ _ _ _ _ _ _ _ _ _ rfl hw, State.rf_wf_apart _ _ _ _ _ _ _ _ _ _ rfl hh]

theorem State.rf_roleCtlFields_linkHold : (s.roleCtlFields w).rf F.DEV_ROLE_CTL_LINK_HOLD 0 = bits w 15 8 := by
  have hlt : bits w 15 8 % 2 ^ 8 = bits w 15 8 := Nat.mod_mod _ _
  unfold State.roleCtlFields
  dsimp only
  rw [State.rf_wf_apart _ _ _ _ _ _ _ _ _ _ rfl rfl, State.rf_wf_apart _ _ _ _ _ _ _ _ _ _ rfl rfl]
  split
  · rw [State.rf_wf_same _ _ _ _ _ _ rfl]; exact hlt
  · rw [State.rf_wf_apart _ _ _ _ _ _ _ _ _ _ rfl rfl, State.rf_wf_same _ _ _ _ _ _ rfl]; exact hlt

theorem State.rf_roleCtlFields_headLinkEn : (s.roleCtlFields w).rf F.DEV_ROLE_CTL_HEAD_LINK_EN 0 = bits w 2 2 := by
  unfold State.roleCtlFields
  rw [State.rf_wf_same _ _ _ _ _ _ rfl]
  exact Nat.mod_mod _ _

theorem State.rf_roleCtlFields_headLinkBEn : (s.roleCtlFields w).rf F.DEV_ROLE_CTL_HEAD_LINK_B_EN 0 = bits w 3 3 := by
  unfold State.roleCtlFields
  rw [State.rf_wf_apart _ _ _ _ _ _ _ _ _ _ rfl rfl, State.rf_wf_same _ _ _ _ _ _ rfl]
  exact Nat.mod_mod _ _

theorem State.rf_roleCtlFields_role : (s.roleCtlFields w).rf F.DEV_ROLE_ROLE 0 = s.rf F.DEV_ROLE_ROLE 0 :=
  s.rf_roleCtlFields_apart w _ 0 0 0 rfl rfl rfl rfl

theorem State.rf_roleCtlFields_active : (s.roleCtlFields w).rf F.DEV_ROLE_CTL_ACTIVE 0 = s.rf F.DEV_ROLE_CTL_ACTIVE 0 :=
  s.rf_roleCtlFields_apart w _ 0 0 0 rfl rfl rfl rfl

theorem State.rf_roleCtlFields_slState (l : Nat) : (s.roleCtlFields w).rf F.SL_STAT_STATE 0 l = s.rf F.SL_STAT_STATE 0 l :=
  s.rf_roleCtlFields_apart w _ 0 l 0 rfl rfl rfl rfl

/-- The condition of Table 1-1 for line outputs does not depend on what is stored. -/
theorem State.lineOk_roleCtlFields : (s.roleCtlFields w).lineOk = s.lineOk := by
  obtain ⟨m, h⟩ := s.roleCtlFields_frame w
  exact State.lineOk_congr (by rw [h]) (s.rf_roleCtlFields_role w) (s.rf_roleCtlFields_active w) (s.rf_roleCtlFields_slState w)

theorem State.gated_roleCtlFields : (s.roleCtlFields w).gated = s.gated := by
  obtain ⟨m, h⟩ := s.roleCtlFields_frame w
  rw [h]
  rfl

/-- With both link enables written as they are, the role wants the links that it wanted. -/
theorem State.roleWants_roleCtlFields (l : Nat) (hb : bits w 3 3 = s.rf F.DEV_ROLE_CTL_HEAD_LINK_B_EN 0)
    (he : bits w 2 2 = s.rf F.DEV_ROLE_CTL_HEAD_LINK_EN 0) : (s.roleCtlFields w).roleWants l = s.roleWants l :=
  State.roleWants_congr l (s.rf_roleCtlFields_role w) ((s.rf_roleCtlFields_headLinkBEn w).trans hb)
    ((s.rf_roleCtlFields_headLinkEn w).trans he)

end

/-- A role link whose bit does not change stays as it is. -/
theorem State.roleLink_same (s : State) (l : Nat) : s.roleLink l (s.roleWants l) = s := by
  unfold State.roleLink
  cases s.roleWants l <;> rfl

/-- What OUT_EN is after a write of DEV_ROLE_CTL (R38, R39, R1069). -/
def State.outEnOn (s : State) (w : Nat) (hwClear : Bool) : Bool := bit w 1 && !hwClear && s.lineOk && !s.gated

/-- A write that keeps both link enables stores its fields, and beside OUT_EN only what the outputs noted changes. -/
theorem State.writeRoleCtl_spec (s : State) (w : Nat) (hwClear : Bool) (hb : bits w 3 3 = s.rf F.DEV_ROLE_CTL_HEAD_LINK_B_EN 0)
    (he : bits w 2 2 = s.rf F.DEV_ROLE_CTL_HEAD_LINK_EN 0) :
    s.writeRoleCtl w hwClear = if s.outEnOn w hwClear = (s.roleCtlFields w).rb F.DEV_ROLE_CTL_OUT_EN 0 then s.roleCtlFields w
      else (s.roleCtlFields w).setOutEn (s.outEnOn w hwClear) := by
  have hlinks : ((s.roleCtlFields w).roleLink 0 (s.roleWants 0)).roleLink 1 (s.roleWants 1) = s.roleCtlFields w := by
    rw [← s.roleWants_roleCtlFields w 0 hb he, State.roleLink_same, ← s.roleWants_roleCtlFields w 1 hb he, State.roleLink_same]
  have hdef : s.writeRoleCtl w hwClear =
      (let t := ((s.roleCtlFields w).roleLink 0 (s.roleWants 0)).roleLink 1 (s.roleWants 1)
      let on := bit w 1 && !hwClear && t.lineOk && !t.gated
      if on = t.rb F.DEV_ROLE_CTL_OUT_EN 0 then t else t.setOutEn on) := rfl
  rw [hdef, hlinks]
  dsimp only
  rw [s.lineOk_roleCtlFields w, s.gated_roleCtlFields w]
  rfl

/-! ## Head ends -/

/-- The loss of the followed link starts the hold (R42). -/
theorem execHeadLinkLoss_holds (s : State) (hhead : s.headEnd = true) (hfollow : s.follow ≠ 0) (hdown : s.followsUp = false)
    (hnew : s.headLost = none) (hhold : s.rf F.DEV_ROLE_CTL_LINK_HOLD 0 ≠ 0) :
    execHeadLinkLoss s = .next { s with headLost := some s.now } := by
  unfold execHeadLinkLoss
  simp [hhead, hfollow, hdown, hnew, hhold]

/-- The end of the hold clears OUT_EN (R42). -/
theorem execLinkHoldExpiry_ends (s : State) (t0 : Nat) (hlost : s.headLost = some t0) (hdown : s.followsUp = false)
    (hover : s.rf F.DEV_ROLE_CTL_LINK_HOLD 0 * 1000000 ≤ s.ago t0) : execLinkHoldExpiry s = .next s.holdEnd := by
  unfold execLinkHoldExpiry
  simp [hlost, hdown, hover]

theorem State.holdEnd_spec (s : State) : s.holdEnd.rf F.DEV_ROLE_CTL_OUT_EN 0 = 0 ∧ s.holdEnd.headLost = none ∧
    s.holdEnd = { s with regs := s.holdEnd.regs, dio := s.holdEnd.dio, lio := s.holdEnd.lio, headLost := none } ∧
    RegsKept s s.holdEnd [reg0 .DEV_ROLE_CTL] := by
  obtain ⟨d, l, h⟩ := s.setOutEn_spec false
  unfold State.holdEnd
  rw [h]
  exact ⟨s.rf_wf_same F.DEV_ROLE_CTL_OUT_EN 0 0 0 0 rfl, rfl, rfl,
    (RegsKept.refl s _).wf F.DEV_ROLE_CTL_OUT_EN _ _ _ _ (List.mem_singleton.mpr rfl)⟩

/-- With one peer active a head end takes up its link, unless it follows it (R25, R40). -/
theorem execHeadLinkSwitch_takesUp (s : State) (hhead : s.headEnd = true) :
    (s.peerActive 0 = false → s.peerActive 1 = true → s.follow ≠ 2 → execHeadLinkSwitch false s = .next { s with switchTo := 2 }) ∧
    (s.peerActive 0 = true → s.peerActive 1 = false → s.follow ≠ 1 → execHeadLinkSwitch false s = .next { s with switchTo := 1 }) := by
  unfold execHeadLinkSwitch
  refine ⟨fun ha hb hf => ?_, fun ha hb hf => ?_⟩
  · simp [hhead, ha, hb, hf]
  · simp [hhead, ha, hb, hf]

/-- With both peers active a head end keeps its link, link A if it has none, and raises dual-active (R40). -/
theorem execHeadLinkSwitch_dual (s : State) (hhead : s.headEnd = true) (ha : s.peerActive 0 = true) (hb : s.peerActive 1 = true) :
    execHeadLinkSwitch false s =
      .next (({ s with follow := if s.follow = 0 then 1 else s.follow, switchTo := 0 } : State).raise .dualActive 0 0) := by
  unfold execHeadLinkSwitch
  by_cases hf : s.follow = 0
  · simp [hhead, ha, hb, hf]
  · simp [hhead, ha, hb, hf]

/-- The completed switch makes the link taken up the followed one and ends a hold (R25, R41). -/
theorem execHeadLinkSwitch_complete (s : State) (hhead : s.headEnd = true) (hto : s.switchTo ≠ 0) :
    execHeadLinkSwitch true s = .next { s with follow := s.switchTo, switchTo := 0, headLost := none } := by
  unfold execHeadLinkSwitch
  simp [hhead, hto]

/-- OUT_EN as a write leaves it, and all that changes with it (R38, R39, R1069). -/
theorem State.writeRoleCtl_outEn (s : State) (w : Nat) (hwClear : Bool) (hb : bits w 3 3 = s.rf F.DEV_ROLE_CTL_HEAD_LINK_B_EN 0)
    (he : bits w 2 2 = s.rf F.DEV_ROLE_CTL_HEAD_LINK_EN 0) :
    ∃ t, s.writeRoleCtl w hwClear = t ∧ t.rb F.DEV_ROLE_CTL_OUT_EN 0 = s.outEnOn w hwClear ∧
      (∀ g : Fld, F.DEV_ROLE_CTL_OUT_EN.apart g = true → t.rf g 0 = (s.roleCtlFields w).rf g 0) ∧
      t = { s with regs := t.regs, dio := t.dio, lio := t.lio } ∧ RegsKept s t [reg0 .DEV_ROLE_CTL] := by
  have hf := s.roleCtlFields_only w
  rw [s.writeRoleCtl_spec w hwClear hb he]
  split
  · next hon =>
    obtain ⟨hregs, hkept⟩ := hf
    exact ⟨_, rfl, hon.symm, fun _ _ => rfl, by rw [hregs], hkept⟩
  · obtain ⟨hregs, hkept⟩ := hf.wf F.DEV_ROLE_CTL_OUT_EN (b2n (s.outEnOn w hwClear)) 0 0 0 (List.mem_singleton.mpr rfl)
    have hon := State.rb_wf_same (s.roleCtlFields w) F.DEV_ROLE_CTL_OUT_EN (b2n (s.outEnOn w hwClear)) 0 0 0 rfl
    have hrest : ∀ g : Fld, F.DEV_ROLE_CTL_OUT_EN.apart g = true → _ = (s.roleCtlFields w).rf g 0 := fun g =>
      State.rf_wf_apart (s.roleCtlFields w) F.DEV_ROLE_CTL_OUT_EN g (b2n (s.outEnOn w hwClear)) 0 0 0 0 0 0 rfl
    obtain ⟨d, l, h⟩ := (s.roleCtlFields w).setOutEn_spec (s.outEnOn w hwClear)
    generalize (s.roleCtlFields w).wf F.DEV_ROLE_CTL_OUT_EN (b2n (s.outEnOn w hwClear)) 0 = u at *
    obtain ⟨m, rfl⟩ : ∃ m, u = { s with regs := m } := ⟨_, hregs⟩
    refine ⟨_, h, hon.trans ?_, hrest, rfl, hkept⟩
    cases s.outEnOn w hwClear <;> rfl

/-- Settles O6: the loss and the hold, the switch, and OUT_EN, each by the lemma on its command. -/
theorem headEndsFollowTheActiveDevice : Obligations.HeadEndsFollowTheActiveDevice := by
  unfold Obligations.HeadEndsFollowTheActiveDevice
  refine ⟨execHeadLinkLoss_holds, fun s t0 hlost hdown hover => ?_, fun s hh => (execHeadLinkSwitch_takesUp s hh).1,
    fun s hh => (execHeadLinkSwitch_takesUp s hh).2, fun s hh ha hb => ?_, execHeadLinkSwitch_complete,
    fun s w hwClear htag hb he => ?_⟩
  · exact ⟨s.holdEnd, execLinkHoldExpiry_ends s t0 hlost hdown hover, s.holdEnd_spec⟩
  · exact ⟨_, execHeadLinkSwitch_dual s hh ha hb, rfl, rfl, rfl⟩
  · obtain ⟨t, ht, hon, hrest, hframe, hkept⟩ := s.writeRoleCtl_outEn w.data.toNat hwClear hb he
    have hexec : execOutEnWrite w hwClear s = .next t := by
      unfold execOutEnWrite
      rw [if_pos htag, ht]
    exact ⟨t, hexec, hon, (hrest _ rfl).trans (s.rf_roleCtlFields_linkHold _), (hrest _ rfl).trans (s.rf_roleCtlFields_active _),
      hframe, hkept⟩

/-! ## The bring-up of a role link -/

theorem exec_roleLinkRetry_role (l : Nat) (s : State) (h : l ≤ 2) : exec (.roleLinkRetry l) s = .next (s.roleBringUp l) := by
  change Host.Outcome.next (if l ≤ 2 then s.roleBringUp l else s) = _
  rw [if_pos h]

/-- A head end whose link A is up at width code 4. Link B then takes that width (R23, log 161) and claims lanes 4 to 19. Of these
lane 16 is owned, by a MAC; every lane below 16 is free. -/
def wideHeadEnd : State :=
  ((((State.reset.wf F.DEV_ROLE_ROLE 2 0).wf F.DEV_ROLE_CTL_HEAD_LINK_B_EN 1 0).wf F.SL_STAT_STATE 2 0 0).wf
    F.LANE_STAT_OWNER 5 0 16).setSl 0 { Sl.init with width := 4 }

/-- The claim of lane 16 is refused, so link B claims no lane and stays closed (R605, log 90). -/
theorem wideHeadEnd_linkB_closed : (wideHeadEnd.roleBringUp 1).rf F.SL_STAT_STATE 0 1 = 0 := by decide +kernel

/-- Refutes O38: its clause on role links asks only lanes 0 to 15 to be free, and nothing in it bounds the width with which the other
head-cable link was opened. Link B of `wideHeadEnd` has a lane beyond them, and stays closed where the clause says that it comes up. -/
theorem not_saetteLinksComeUpRetrainAndFail : ¬ Obligations.SaetteLinksComeUpRetrainAndFail := by
  unfold Obligations.SaetteLinksComeUpRetrainAndFail
  rintro ⟨-, hrole, -⟩
  have hwants : wideHeadEnd.roleWants 1 = true := by decide +kernel
  have hclosed : wideHeadEnd.rf F.SL_STAT_STATE 0 1 = 0 ∨ wideHeadEnd.rf F.SL_STAT_STATE 0 1 = 4 := by decide +kernel
  have hfree : ∀ i, i < 16 → wideHeadEnd.rf F.LANE_STAT_OWNER 0 i = 0 := by decide +kernel
  obtain ⟨t, ht, -, -, hup, -⟩ := hrole wideHeadEnd 1 noWord (by decide) hwants hclosed rfl hfree
  rw [exec_roleLinkRetry_role 1 _ (by decide)] at ht
  obtain rfl := Host.Outcome.next.inj ht
  rw [wideHeadEnd_linkB_closed] at hup
  exact absurd hup (by decide)

/-! ## A write of a transmit window -/

/-- A write that has not arrived at its window changes nothing yet (log 62). -/
theorem exec_scTxWindowWrite_not_arrived (s : State) (x : Txn) (h : s.arrive x = none) :
    exec (.scTxWindowWrite x) s = .next s := by
  have hw : s.scTxWindow x = s := by
    unfold State.scTxWindow
    rw [h]
    exact ite_self s
  change Host.Outcome.next (if _ then s.scTxWindow x else s) = _
  rw [hw, ite_self]

/-- A posted write of one word to the transmit window of channel 9, by master 1 of die 1. -/
def windowWrite9 : Txn := ⟨.write, 1, 1, 0, 0x0F048240, 1, 48, 0, [dataWord 7], .posted, 0⟩

/-- The transmit half of channel 9 is enabled, and `windowWrite9` has just been handed to the transport. -/
def writeUnderWay : State := (State.reset.wf F.SC_CTL_TX_EN 1 0 9).inject windowWrite9

theorem writeUnderWay_not_arrived : writeUnderWay.arrive windowWrite9 = none := by decide +kernel

/-- Refutes O40: its clause on transmit windows does not ask that the write has arrived. In `writeUnderWay` it is still in the
transport, so that SC_TX_WINDOW_WRITE stores no word, where the clause says that one joins the buffer. -/
theorem not_saetteCarriesWordsAndChecksFrames : ¬ Obligations.SaetteCarriesWordsAndChecksFrames := by
  unfold Obligations.SaetteCarriesWordsAndChecksFrames
  rintro ⟨hwrite, -⟩
  have hdie : writeUnderWay.atDie 0 windowWrite9 = true := by decide +kernel
  have hroom : writeUnderWay.txRoom 9 1 = true := by decide +kernel
  have hflip : writeUnderWay.rb F.PROT_FLIP_CTL_ARM 0 = false := by decide +kernel
  obtain ⟨t, ht, -, hlen, -⟩ := hwrite writeUnderWay 9 _ windowWrite9 (dataWord 7) hdie rfl rfl (by decide) (by decide) (by decide)
    (by decide) hroom hflip rfl
  rw [exec_scTxWindowWrite_not_arrived _ _ writeUnderWay_not_arrived] at ht
  obtain rfl := Host.Outcome.next.inj ht
  exact absurd hlen (by decide +kernel)

end Sys2Proof.Machine
end

section
/-!
SUPPORT. Register space: proofs of the statements O17, O18, O19 and O59.
-/
namespace Sys2Proof.Machine

/-! ## Frames of register writes -/

theorem OnlyRegs.ww {s t : State} {rs : List Reg} (h : OnlyRegs s t rs) (n : RegName) (v d i j : Nat)
    (hf : (⟨n, d, i, j⟩ : Reg) ∈ rs) : OnlyRegs s (t.ww n v d i j) rs := by
  obtain ⟨hregs, hkept⟩ := h
  refine ⟨by rw [hregs]; rfl, fun q hq => ?_⟩
  have hne : q ≠ ⟨n, d, i, j⟩ := by rintro rfl; exact hq hf
  rw [State.reg_ww_ne _ _ _ _ _ _ _ hne]
  exact hkept q hq

theorem OnlyRegs.setReg {s t : State} {rs : List Reg} (h : OnlyRegs s t rs) (r : Reg) (w : Word) (hf : r ∈ rs) :
    OnlyRegs s (t.setReg r w) rs := by
  obtain ⟨hregs, hkept⟩ := h
  refine ⟨by rw [hregs]; rfl, fun q hq => ?_⟩
  have hne : q ≠ r := by rintro rfl; exact hq hf
  rw [State.setReg_reg_ne _ _ _ _ hne]
  exact hkept q hq

theorem OnlyRegs.incE {s t : State} {rs : List Reg} (h : OnlyRegs s t rs) (f : Fld) (d i j n : Nat)
    (hf : (⟨f.reg, d, i, j⟩ : Reg) ∈ rs) : OnlyRegs s (t.incE f d i j n) rs := by
  rw [State.incE_spec]
  split
  · exact h.wf _ _ _ _ _ hf
  · exact (h.wf _ _ _ _ _ hf).wf _ _ _ _ _ hf

/-- An event raised joins the fault line, and changes no register. -/
theorem OnlyRegs.raise {s t : State} {rs : List Reg} (h : OnlyRegs s t rs) (src : FaultSrc) (d u x : Nat) :
    OnlyRegsEv s (t.raise src d u x) rs ∧ (t.raise src d u x).faultLine = s.faultLine ++ [faultEv src d u x] := by
  obtain ⟨hregs, hkept⟩ := h
  refine ⟨⟨?_, hkept⟩, ?_⟩
  · rw [hregs]; rfl
  · rw [hregs]; rfl

theorem State.rb_of_rf_zero {s : State} {f : Fld} {d i j : Nat} (h : s.rf f d i j = 0) : s.rb f d i j = false := by
  unfold State.rb; rw [h]; rfl

theorem State.rb_of_rf_one {s : State} {f : Fld} {d i j : Nat} (h : s.rf f d i j = 1) : s.rb f d i j = true := by
  unfold State.rb; rw [h]; rfl

/-! ## The record of a refused or unmapped access -/

/-- What REG_ERR records of an access (R98). -/
def regErrWord (c : Nat) (isWrite : Bool) (loc : Nat) : Nat := 2 ^ 47 + c * 2 ^ 45 + b2n isWrite * 2 ^ 36 + loc

/-- An access recorded in REG_ERR while VALID is 0, and counted after (R98). -/
def State.recordRegErr (s : State) (d c : Nat) (isWrite : Bool) (loc : Nat) : State :=
  if s.rb F.REG_ERR_VALID d then s.incE F.REG_ERR_CNT_COUNT d else s.ww .REG_ERR (regErrWord c isWrite loc) d

theorem State.regRefuse_unmapped (s : State) (d : Nat) (isWrite : Bool) (loc : Nat) :
    s.regRefuse d 3 isWrite loc = s.recordRegErr d 3 isWrite loc := by
  unfold State.regRefuse State.recordRegErr regErrWord
  exact if_pos rfl

theorem State.regRefuse_refused (s : State) (d c : Nat) (isWrite : Bool) (loc : Nat) (hc : c ≠ 3) :
    s.regRefuse d c isWrite loc = (s.recordRegErr d c isWrite loc).raise .registerWriteRefused d 0
      ((s.recordRegErr d c isWrite loc).rw .REG_ERR d) := by
  unfold State.regRefuse State.recordRegErr regErrWord
  exact if_neg hc

/-- The first access is recorded with its cause, its direction and its address. -/
theorem State.recordRegErr_first (s : State) (d c : Nat) (loc : Nat) (hv : s.rf F.REG_ERR_VALID d = 0) (hc : c < 4)
    (hloc : loc < 2 ^ 36) :
    (s.recordRegErr d c true loc).rf F.REG_ERR_VALID d = 1 ∧ (s.recordRegErr d c true loc).rf F.REG_ERR_CAUSE d = c ∧
      (s.recordRegErr d c true loc).rf F.REG_ERR_IS_WRITE d = 1 ∧ (s.recordRegErr d c true loc).rf F.REG_ERR_ADDR d = loc ∧
      OnlyRegs s (s.recordRegErr d c true loc) [⟨.REG_ERR, d, 0, 0⟩] := by
  have hrec : s.recordRegErr d c true loc = s.ww .REG_ERR (regErrWord c true loc) d := if_neg (by rw [State.rb_of_rf_zero hv]; decide)
  have hfld : ∀ f : Fld, f.reg = .REG_ERR →
      (s.ww .REG_ERR (regErrWord c true loc) d).rf f d = bits (regErrWord c true loc % 2 ^ 48) f.hi f.lo := by
    rintro f hf
    rw [← hf]
    exact s.rf_ww_same f _ d 0 0
  rw [hrec, hfld _ rfl, hfld _ rfl, hfld _ rfl, hfld _ rfl]
  have hw : regErrWord c true loc = 2 ^ 47 + c * 2 ^ 45 + 2 ^ 36 + loc := by simp [regErrWord, b2n]
  refine ⟨?_, ?_, ?_, ?_, (OnlyRegs.refl s _).ww _ _ _ _ _ (List.mem_singleton.mpr rfl)⟩
  · rw [hw]; simp only [bits, F.REG_ERR_VALID]; omega
  · rw [hw]; simp only [bits, F.REG_ERR_CAUSE]; omega
  · rw [hw]; simp only [bits, F.REG_ERR_IS_WRITE]; omega
  · rw [hw]; simp only [bits, F.REG_ERR_ADDR]; omega

/-- A later access is counted, and not recorded. -/
theorem State.recordRegErr_later (s : State) (d c : Nat) (isWrite : Bool) (loc : Nat) (hv : s.rf F.REG_ERR_VALID d = 1) :
    OnlyRegs s (s.recordRegErr d c isWrite loc) [⟨.REG_ERR_CNT, d, 0, 0⟩] ∧
      (s.rf F.REG_ERR_CNT_COUNT d < 65535 →
        (s.recordRegErr d c isWrite loc).rf F.REG_ERR_CNT_COUNT d = s.rf F.REG_ERR_CNT_COUNT d + 1) := by
  have hrec : s.recordRegErr d c isWrite loc = s.incE F.REG_ERR_CNT_COUNT d := if_pos (State.rb_of_rf_one hv)
  rw [hrec]
  refine ⟨(OnlyRegs.refl s _).incE _ _ _ _ _ (List.mem_singleton.mpr rfl), fun hlt => ?_⟩
  exact s.rf_incE_same F.REG_ERR_CNT_COUNT d 0 0 1 rfl (show s.rf F.REG_ERR_CNT_COUNT d + 1 < 65536 by omega)

/-! ## Accesses of register space -/

/-- A write in register space, outside the windows that writes enter and with its block clocked, is performed or refused there. -/
theorem exec_registerWrite (s : State) (d loc : Nat) (w : TWord) (narrow : Bool) (acts : List HwAct) (hdie : s.hasDie d = true)
    (hd : d < 5) (hspace : inRegSpace d loc = true) (hwin : inTxWindow d loc = false) (hrun : s.blockStopped d loc = false) :
    exec (.registerWrite d loc w narrow acts) s = .next (s.regStore d loc w narrow acts).2 := by
  have hd' : ¬ 5 ≤ d := by omega
  change Host.Outcome.next (if _ then s else _) = _
  rw [if_neg (by simp [hd', hdie, hspace, hwin, hrun])]

theorem State.regStore_unmapped (s : State) (d loc : Nat) (w : TWord) (narrow : Bool) (acts : List HwAct)
    (hwin : inTxWindow d loc = false) (hnone : s.regAt d loc = none) :
    (s.regStore d loc w narrow acts).2 = s.recordRegErr d 3 true loc := by
  unfold State.regStore
  rw [hnone, hwin, Bool.and_false]
  rfl

theorem State.regStore_refused (s : State) (d loc c : Nat) (w : TWord) (narrow : Bool) (acts : List HwAct) (r : Reg)
    (hreg : s.regAt d loc = some r) (hc : writeCause w narrow = some c) :
    (s.regStore d loc w narrow acts).2 = s.regRefuse d c true loc := by
  unfold State.regStore
  rw [hreg, hc]

theorem State.regStore_performed (s : State) (d loc : Nat) (w : TWord) (acts : List HwAct) (r : Reg) (hreg : s.regAt d loc = some r)
    (htag : w.tag.toNat < 2) : (s.regStore d loc w false acts).2 = s.regWrite r w.data.toNat acts := by
  have hc : writeCause w false = none := if_pos htag
  unfold State.regStore
  rw [hreg, hc]

/-- A write is refused for one of the three causes of R95 and R96. -/
theorem writeCause_lt {w : TWord} {narrow : Bool} {c : Nat} (h : writeCause w narrow = some c) : c < 3 := by
  have htag := w.tag.isLt
  unfold writeCause at h
  split at h
  · injection h; omega
  · split at h
    · cases h
    · injection h; omega

/-- A refused write: what REG_ERR and its count hold, and the event (R95, R98). -/
theorem State.regRefuse_spec (s : State) (d c loc : Nat) (hc : c < 3) (hloc : loc < 2 ^ 36) :
    (s.rf F.REG_ERR_VALID d = 0 → (s.regRefuse d c true loc).rf F.REG_ERR_VALID d = 1 ∧ (s.regRefuse d c true loc).rf F.REG_ERR_CAUSE d = c ∧
      (s.regRefuse d c true loc).rf F.REG_ERR_IS_WRITE d = 1 ∧ (s.regRefuse d c true loc).rf F.REG_ERR_ADDR d = loc ∧
      OnlyRegsEv s (s.regRefuse d c true loc) [⟨.REG_ERR, d, 0, 0⟩]) ∧
    (s.rf F.REG_ERR_VALID d = 1 → OnlyRegsEv s (s.regRefuse d c true loc) [⟨.REG_ERR_CNT, d, 0, 0⟩] ∧
      (s.rf F.REG_ERR_CNT_COUNT d < 65535 →
        (s.regRefuse d c true loc).rf F.REG_ERR_CNT_COUNT d = s.rf F.REG_ERR_CNT_COUNT d + 1)) ∧
    (s.regRefuse d c true loc).faultLine =
      s.faultLine ++ [faultEv .registerWriteRefused d 0 ((s.regRefuse d c true loc).rw .REG_ERR d)] := by
  have hvalid : s.rf F.REG_ERR_VALID d = 0 ∨ s.rf F.REG_ERR_VALID d = 1 := by
    have : s.rf F.REG_ERR_VALID d < 2 := Nat.mod_lt _ (by decide)
    omega
  rw [s.regRefuse_refused d c true loc (by omega)]
  rcases hvalid with hv | hv
  · obtain ⟨h1, h2, h3, h4, hreg⟩ := s.recordRegErr_first d c loc hv (by omega) hloc
    obtain ⟨hframe, hline⟩ := hreg.raise .registerWriteRefused d 0 ((s.recordRegErr d c true loc).rw .REG_ERR d)
    exact ⟨fun _ => ⟨h1, h2, h3, h4, hframe⟩, fun hv' => by omega, hline⟩
  · obtain ⟨hreg, hcnt⟩ := s.recordRegErr_later d c true loc hv
    obtain ⟨hframe, hline⟩ := hreg.raise .registerWriteRefused d 0 ((s.recordRegErr d c true loc).rw .REG_ERR d)
    exact ⟨fun hv' => by omega, fun _ => ⟨hframe, hcnt⟩, hline⟩

/-- Settles O18: both commands refuse by `regRefuse`. -/
theorem refusedRegisterWritesChangeNothing : Obligations.RefusedRegisterWritesChangeNothing := by
  unfold Obligations.RefusedRegisterWritesChangeNothing
  refine ⟨fun s d loc c w narrow r hdie hd hspace hwin hrun hreg hc hloc => ?_, fun s d i w hosc htag hi hv => ?_⟩
  · refine ⟨_, exec_registerWrite s d loc w narrow [] hdie hd hspace hwin hrun, ?_⟩
    rw [s.regStore_refused d loc c w narrow [] r hreg hc]
    exact s.regRefuse_spec d c loc (writeCause_lt hc) hloc
  · have hlt := w.tag.isLt
    obtain ⟨hfirst, -, hline⟩ := s.regRefuse_spec d (w.tag.toNat - 2) (0x0F010000 + i * 0x100) (by omega) (by omega)
    obtain ⟨-, hcause, -, haddr, hframe⟩ := hfirst hv
    have hexec : exec (.islClkCtlWrite d i w []) s = .next (s.regRefuse d (w.tag.toNat - 2) true (0x0F010000 + i * 0x100)) := by
      change execIslClkCtlWrite d i w [] s = _
      unfold execIslClkCtlWrite
      rw [hosc, if_neg (by decide), if_neg (by omega)]
    exact ⟨_, hexec, hcause, haddr, hline, hframe⟩

/-! ## Reads of unmapped addresses -/

theorem State.regLoad_unmapped (s : State) (d loc die m : Nat) (hnone : s.regAt d loc = none) :
    s.regLoad d loc die m = (true, noWord, s.regRefuse d 3 false loc) := by
  unfold State.regLoad
  rw [hnone]

@[simp] theorem State.incE_resps (s : State) (f : Fld) (d i j n : Nat) : (s.incE f d i j n).resps = s.resps := by
  obtain ⟨m, h⟩ := s.incE_frame f d i j n
  rw [h]

@[simp] theorem State.recordRegErr_resps (s : State) (d c : Nat) (isWrite : Bool) (loc : Nat) :
    (s.recordRegErr d c isWrite loc).resps = s.resps := by
  unfold State.recordRegErr
  split
  · rw [State.incE_resps]
  · rw [State.ww_resps]

@[simp] theorem State.trnRaise_resps (s : State) (d : Nat) (x : Txn) (src : FaultSrc) : (s.trnRaise d x src).resps = s.resps := rfl

@[simp] theorem State.trnRecord_resps (s : State) (d : Nat) (x : Txn) (c : TrnCause) : (s.trnRecord d x c).resps = s.resps := by
  unfold State.trnRecord
  split
  · rfl
  · rw [State.ww_resps, State.ww_resps]

/-- A READ of one word where no register lies is answered STATUS 1 and an invalid word (R97, R1114). -/
theorem State.regReadTxn_unmapped (s : State) (d : Nat) (x : Txn) (hnone : s.regAt d (addrLocal x.addr) = none) (hlen : x.len = 1) :
    s.regReadTxn d x =
      (((((s.recordRegErr d 3 false (addrLocal x.addr)).trnRecord d x .unmapped).incE F.TRN_UNMAPPED_CNT_COUNT d).trnRaise d x
        .transportUnmapped).respond x 1 [noWord]) := by
  have hstep : (List.range x.len).foldl (regReadStep d (addrLocal x.addr) x) (false, [], s) =
      (true, [noWord], s.recordRegErr d 3 false (addrLocal x.addr)) := by
    have hload := s.regLoad_unmapped d (addrLocal x.addr) x.srcDie x.master hnone
    rw [hlen]
    simp [regReadStep, hload, State.regRefuse_unmapped]
  unfold State.regReadTxn
  rw [hstep]
  rfl

/-- Settles O19: an unmapped write is recorded as a refused one is, with cause 3, and an unmapped READ is answered at once. -/
theorem unmappedRegisterAccessesAreRecorded : Obligations.UnmappedRegisterAccessesAreRecorded := by
  unfold Obligations.UnmappedRegisterAccessesAreRecorded
  refine ⟨fun s d loc w narrow hdie hd hspace hwin hrun hnone hv hloc => ?_, fun s d x hnone hlen hop => ?_⟩
  · refine ⟨_, exec_registerWrite s d loc w narrow [] hdie hd hspace hwin hrun, ?_⟩
    rw [s.regStore_unmapped d loc w narrow [] hwin hnone]
    exact s.recordRegErr_first d 3 loc hv (by decide) hloc
  · rw [s.regReadTxn_unmapped d x hnone hlen]
    simp [State.respond, hop]

/-! ## A write under the access codes -/

/-- Whether the fields of a register lie in its word and share no bit (R78). -/
def fieldsApart (fds : List FieldDesc) : Prop :=
  (∀ fd ∈ fds, fd.fld.ok = true) ∧ fds.Pairwise fun a b => a.fld.hi < b.fld.lo ∨ b.fld.hi < a.fld.lo

theorem Fld.get_lt (f : Fld) (w : Word) : f.get w < 2 ^ f.width := Nat.mod_lt _ (by positivity)

/-- What a write leaves in a field fits its width. -/
theorem writeField_lt (fd : FieldDesc) (old : Word) (w : Nat) : writeField fd old w < 2 ^ fd.fld.width := by
  have hold := fd.fld.get_lt old
  have hnew : bits w fd.fld.hi fd.fld.lo < 2 ^ fd.fld.width := Nat.mod_lt _ (by positivity)
  unfold writeField
  cases fd.acc with
  | rw => exact hnew
  | cntE => exact hnew
  | w1c => exact (Nat.sub_le _ _).trans_lt hold
  | w1s => exact Nat.or_lt_two_pow hold hnew
  | ro => exact hold
  | rc => exact hold
  | wo => exact hold

/-- One field stored, with no hardware action in the cycle. -/
def storeField (old : Word) (w : Nat) (x : Word) (fd : FieldDesc) : Word := fd.fld.put x (writeField fd old w)

theorem storeFields_nil (fds : List FieldDesc) (old : Word) (w : Nat) :
    storeFields fds [] old w = fds.foldl (storeField old w) old := rfl

/-- Storing fields leaves one that shares no bit with them alone. -/
theorem get_foldl_storeField_apart (g : Fld) (fds : List FieldDesc) (old : Word) (w : Nat) (x : Word)
    (hok : ∀ fd ∈ fds, fd.fld.ok = true) (hg : ∀ fd ∈ fds, fd.fld.hi < g.lo ∨ g.hi < fd.fld.lo) :
    g.get (fds.foldl (storeField old w) x) = g.get x := by
  induction fds generalizing x with
  | nil => rfl
  | cons fd rest ih =>
    rw [List.foldl_cons, ih _ (fun e he => hok e (.tail _ he)) (fun e he => hg e (.tail _ he))]
    exact Fld.get_put_apart fd.fld g x _ (hok fd (.head _)) (hg fd (.head _))

/-- Each field of a register is stored by its access code (R76). -/
theorem get_foldl_storeField (fds : List FieldDesc) (old : Word) (w : Nat) (x : Word) (h : fieldsApart fds) (fd : FieldDesc)
    (hfd : fd ∈ fds) : fd.fld.get (fds.foldl (storeField old w) x) = writeField fd old w := by
  induction fds generalizing x with
  | nil => cases hfd
  | cons a rest ih =>
    obtain ⟨hok, hpair⟩ := h
    obtain ⟨hfirst, hrest⟩ := List.pairwise_cons.mp hpair
    rw [List.foldl_cons]
    cases hfd with
    | head =>
      rw [get_foldl_storeField_apart _ _ _ _ _ (fun e he => hok e (.tail _ he)) (fun e he => (hfirst e he).symm)]
      exact (Fld.get_put _ _ _ (hok fd (.head _))).trans (Nat.mod_eq_of_lt (writeField_lt fd old w))
    | tail _ hmem => exact ih _ ⟨fun e he => hok e (.tail _ he), hrest⟩ hmem

/-- With no hardware action in the cycle the word written counts as it is (R91). -/
theorem effWord_nil (fds : List FieldDesc) (w : Nat) : effWord fds [] w = w := by
  unfold effWord
  induction fds generalizing w with
  | nil => rfl
  | cons fd rest ih =>
    have hle : bits w fd.fld.hi fd.fld.lo * 2 ^ fd.fld.lo ≤ w :=
      (Nat.mul_le_mul_right _ (Nat.mod_le _ _)).trans (Nat.div_mul_le_self w _)
    rw [List.foldl_cons, List.foldl_nil]
    split
    · rw [Nat.add_sub_cancel' hle]; exact ih w
    · exact ih w

/-- With no hardware action in the cycle no W1S field is cleared (R92). -/
theorem State.w1sCleared_nil (s : State) (r : Reg) (w : Nat) : s.w1sCleared r [] w = s := by
  unfold State.w1sCleared
  refine foldl_keeps (· = s) _ _ s rfl fun t fd ht => ?_
  subst ht
  simp

/-- The registers of O17: they have no behaviour of their own, whatever their index. -/
def plainNames : List RegName :=
  [.ISL_CH_CTL, .ISL_EVT_LAP, .MISL_STAT, .REG_ERR, .REG_ERR_CNT, .BM_COLL_LAST, .BM_PORTB_MODE, .SP_CTL, .SP_STARVE_LAST,
    .PROT_ERR_LAST, .PROT_FLIP_DATA, .PROT_FLIP_CTL, .TRN_ERR_LAST, .TRN_DROP_CNT, .SPG_CTL, .ENC_STAT, .FM_CTL, .FM_NOTICE_ADDR]

theorem State.regPut_plain (s : State) (r : Reg) (w : Nat) (acts : List HwAct) (h : r.name ∈ plainNames) :
    s.regPut r w acts = s.plainWrite r w acts := by
  obtain ⟨n, d, i, j⟩ := r
  fin_cases h <;> rfl

theorem fieldsApart_plain (n : RegName) (i : Nat) (h : n ∈ plainNames) : fieldsApart (regDesc n i).fields := by
  have hindex : regDesc n i = regDesc n 0 := by fin_cases h <;> rfl
  rw [hindex]
  unfold fieldsApart
  clear hindex
  revert n
  decide

/-- A write of a register with no behaviour of its own stores its fields (R76, R91). -/
theorem State.regWrite_plain (s : State) (r : Reg) (w : Nat) (h : r.name ∈ plainNames) :
    s.regWrite r w [] = s.setReg r ((regDesc r.name r.i).fields.foldl (storeField (s.reg r) w) (s.reg r)) := by
  unfold State.regWrite
  rw [State.w1sCleared_nil, effWord_nil, State.regPut_plain s r w [] h, State.plainWrite, storeFields_nil]

/-! ## Class E counters -/

/-- A class E counter adds up to its greatest value, and sets OVF where it would pass that (R82). -/
theorem State.incE_saturates (s : State) (f : Fld) (d i j n : Nat) (hlo : f.lo = 0) (hhi : f.hi < 47) :
    (s.incE f d i j n).rf f d i j = min (2 ^ (f.hi + 1) - 1) (s.rf f d i j + n) ∧
      (s.incE f d i j n).rf ⟨f.reg, 47, 47⟩ d i j =
        if 2 ^ (f.hi + 1) ≤ s.rf f d i j + n then 1 else s.rf ⟨f.reg, 47, 47⟩ d i j := by
  have hok : f.ok = true := by simp [Fld.ok, hlo]; omega
  have hw : f.width = f.hi + 1 := by simp [Fld.width, hlo]
  have hpos : 0 < 2 ^ f.width := by positivity
  have hovf : f.apart ⟨f.reg, 47, 47⟩ = true := by simp [Fld.apart, hhi]
  have hcnt : (⟨f.reg, 47, 47⟩ : Fld).apart f = true := by simp [Fld.apart, hhi]
  rw [State.incE_spec, ← hw]
  split
  · next hlt =>
    rw [State.rf_wf_same _ _ _ _ _ _ hok, State.rf_wf_apart _ _ _ _ _ _ _ _ _ _ hok hovf, Nat.mod_eq_of_lt hlt, if_neg (by omega)]
    exact ⟨(Nat.min_eq_right (by omega)).symm, rfl⟩
  · next hge =>
    rw [State.rf_wf_apart _ _ _ _ _ _ _ _ _ _ rfl hcnt, State.rf_wf_same _ _ _ _ _ _ hok, State.rf_wf_same _ ⟨f.reg, 47, 47⟩ _ _ _ _ rfl,
      Nat.mod_eq_of_lt (by omega), if_pos (by omega)]
    exact ⟨(Nat.min_eq_left (by omega)).symm, rfl⟩

/-- Settles O17: each field is stored by its access code because the fields of a register share no bit, and the counter saturates. -/
theorem registerFieldsFollowTheirAccessCodes : Obligations.RegisterFieldsFollowTheirAccessCodes := by
  unfold Obligations.RegisterFieldsFollowTheirAccessCodes
  refine ⟨fun s d loc w r fd hdie hd hspace hwin hrun hreg htag hname hfd => ?_, fun s t f d i j n hlo hhi ht => ?_⟩
  · refine ⟨_, exec_registerWrite s d loc w false [] hdie hd hspace hwin hrun, ?_⟩
    rw [s.regStore_performed d loc w [] r hreg htag, s.regWrite_plain r _ hname]
    have hget : fd.fld.get ((s.setReg r ((regDesc r.name r.i).fields.foldl (storeField (s.reg r) w.data.toNat) (s.reg r))).reg r) =
        writeField fd (s.reg r) w.data.toNat := by
      rw [State.setReg_reg_same]
      exact get_foldl_storeField _ _ _ _ (fieldsApart_plain r.name r.i hname) fd hfd
    refine ⟨hget, fun hro => ?_, (OnlyRegs.refl s _).setReg r _ (List.mem_singleton.mpr rfl)⟩
    rw [hget, writeField, hro]
  · subst ht
    obtain ⟨hcount, hovf⟩ := s.incE_saturates f d i j n hlo hhi
    exact ⟨hcount, hovf, (OnlyRegs.refl s _).incE f d i j n (List.mem_singleton.mpr rfl)⟩

/-! ## The state after reset -/

/-- Where no register is written, a field reads as its table's reset value, on every die. -/
theorem State.rf_reset (f : Fld) (d i j : Nat) : State.reset.rf f d i j = f.get (resetWord f.reg i) := rfl

/-- Settles O59: an empty map of registers or words reads as the reset values do, which the register tables give. -/
theorem resetLeavesRegistersAtTheirValues : Obligations.ResetLeavesRegistersAtTheirValues := by
  unfold Obligations.ResetLeavesRegistersAtTheirValues
  simp only [State.rf_reset]
  have hclk : ∀ i, i < 16 → F.ISL_CLK_CTL_VCAP.get (resetWord .ISL_CLK_CTL i) = 16 ∧
      F.ISL_CLK_CTL_TARGET.get (resetWord .ISL_CLK_CTL i) = 40 ∧ F.ISL_CLK_CTL_FLOOR.get (resetWord .ISL_CLK_CTL i) = 0 := by decide
  have hseq : ∀ c, c < 4 → F.SEQ_STAT_STATE.get (resetWord .SEQ_STAT c) = 0 ∧ F.SEQ_STAT_PC.get (resetWord .SEQ_STAT c) = 0x100 := by
    decide
  exact ⟨fun _ pa => ⟨rfl, decodeCell_checkOf noWord pa⟩, fun _ i _ _ => hclk i, fun _ c _ _ => hseq c,
    by decide, by decide, by decide, by decide, by decide,
    rfl, rfl, rfl, rfl, rfl, rfl, rfl, rfl, rfl, rfl, rfl⟩

end Sys2Proof.Machine
end

section
/-!
SUPPORT. What every command keeps, and the proof of O60: one rule per function that changes the state, which says that it
keeps the commands that wait and the canonical form of memory. Memory is written by `State.setCell` alone, apart from
the two places that forget words (`State.fillWords` and the power-on reset); every other rule follows from the rules of the
functions called, so each proof names what its function does and to which state.
-/
namespace Sys2Proof.Machine

/-- What a command keeps of a state `s` in a later one `t`: the commands that wait, and the canonical form of memory. -/
structure Kept (s t : State) : Prop where
  pending : t.pending = s.pending
  mem : Memory.wf s.mem = true → Memory.wf t.mem = true

/-- A command goes on, to a state that keeps what every command keeps. -/
def OutKept (s : State) (o : Out) : Prop := ∃ t, o = .next t ∧ Kept s t

section
variable {s t : State}

theorem Kept.refl (s : State) : Kept s s := ⟨rfl, id⟩

theorem Kept.ite {c : Prop} {i : Decidable c} {u : State} (h : Kept s t) (g : Kept s u) : Kept s (if c then t else u) := by
  split
  · exact h
  · exact g

theorem OutKept.next (h : Kept s t) : OutKept s (.next t) := ⟨t, rfl, h⟩

theorem OutKept.ite {c : Prop} {i : Decidable c} {o p : Out} (h : OutKept s o) (g : OutKept s p) :
    OutKept s (if c then o else p) := by
  split
  · exact h
  · exact g

theorem Kept.foldl {B : Type} {f : State → B → State} {l : List B} (h : Kept s t) (hf : ∀ u b, Kept s u → Kept s (f u b)) :
    Kept s (l.foldl f t) := foldl_keeps (Kept s) f l t h hf

/--
An update of parts other than memory and the commands that wait. The fields stand one by one, for an application
to find them by unification whatever the update writes.
-/
theorem Kept.upd {a0 a1 b0 b1 b2 b3 b4 b5 b6 b7 b8 b9 b10 b11 b12 b13 b14 b15 b16 b17 b18 b19 b20 b21 b22 b23 b24 b25 b26
    b27 b28 b29 b30 b31 b32 b33 b34 b35 b36 b37 b38 b39 b40 b41 b42 b43 b44 b45 b46 b47} (h : Kept s t) :
    Kept s ⟨a0, a1, t.mem, b0, b1, b2, b3, b4, b5, b6, b7, b8, b9, b10, b11, b12, b13, b14, b15, b16, b17, b18, b19, b20,
      b21, b22, b23, b24, b25, b26, b27, b28, b29, b30, b31, b32, b33, b34, b35, b36, b37, b38, b39, b40, b41, b42, b43,
      b44, b45, b46, b47, t.pending⟩ :=
  ⟨h.pending, h.mem⟩

/-- The state of a pair. -/
theorem Kept.pair {A : Type} {a : A} (h : Kept s t) : Kept s (a, t).2 := h

/-- The state of a triple. -/
theorem Kept.triple {A B : Type} {a : A} {b : B} (h : Kept s t) : Kept s (a, b, t).2.2 := h

theorem Kept.ite_snd {A : Type} {c : Prop} {i : Decidable c} {a b : A × State} (h : Kept s a.2) (g : Kept s b.2) :
    Kept s (if c then a else b).2 := by
  split
  · exact h
  · exact g

theorem Kept.ite_snd_snd {A B : Type} {c : Prop} {i : Decidable c} {a b : A × B × State} (h : Kept s a.2.2) (g : Kept s b.2.2) :
    Kept s (if c then a else b).2.2 := by
  split
  · exact h
  · exact g

theorem Kept.foldl_snd {A B : Type} {f : A × State → B → A × State} {l : List B} {r : A × State} (h : Kept s r.2)
    (hf : ∀ r b, Kept s r.2 → Kept s (f r b).2) : Kept s (l.foldl f r).2 := foldl_keeps (fun r => Kept s r.2) f l r h hf

theorem Kept.foldl_snd_snd {A B C : Type} {f : A × B × State → C → A × B × State} {l : List C} {r : A × B × State}
    (h : Kept s r.2.2) (hf : ∀ r b, Kept s r.2.2 → Kept s (f r b).2.2) : Kept s (l.foldl f r).2.2 :=
  foldl_keeps (fun r => Kept s r.2.2) f l r h hf

/-! ## One rule per function -/

/-! ### Registers, events, words of memory and transactions -/

theorem Kept.setReg {r w} (h : Kept s t) : Kept s (t.setReg r w) := h.upd

theorem Kept.wf {f v die i j} (h : Kept s t) : Kept s (t.wf f v die i j) := h.setReg

theorem Kept.ww {n v die i j} (h : Kept s t) : Kept s (t.ww n v die i j) := h.setReg

theorem Kept.incE {f die i j n} (h : Kept s t) : Kept s (t.incE f die i j n) := .ite h.wf.wf h.wf

theorem Kept.w1sCleared {r acts w} (h : Kept s t) : Kept s (t.w1sCleared r acts w) :=
  .foldl h fun _ _ hu => .ite (.ite hu hu.setReg) hu

theorem Kept.plainWrite {r w acts} (h : Kept s t) : Kept s (t.plainWrite r w acts) := h.setReg

theorem Kept.free (h : Kept s t) : Kept s (t.free).2 := h.upd

theorem Kept.freeWord (h : Kept s t) : Kept s (t.freeWord).2 := h.free.free

theorem Kept.choice (h : Kept s t) : Kept s (t.choice).2 := h.upd

theorem Kept.raiseEv {e} (h : Kept s t) : Kept s (t.raiseEv e) := h.upd

theorem Kept.raise {src die unit detail} (h : Kept s t) : Kept s (t.raise src die unit detail) := h.raiseEv

theorem Kept.regRefuse {die cause isWrite loc} (h : Kept s t) : Kept s (t.regRefuse die cause isWrite loc) :=
  .ite (.ite h.incE h.ww) (.raise (.ite h.incE h.ww))

/-- A store keeps the canonical form: what it writes is compared with what the word reads as unwritten (R101). -/
theorem Kept.setCell {die pa c} (h : Kept s t) : Kept s (t.setCell die pa c) :=
  ⟨h.pending, fun hs => t.setCell_wf die pa c (h.mem hs)⟩

theorem Kept.putWord {die pa w} (h : Kept s t) : Kept s (t.putWord die pa w) := h.setCell

theorem Kept.setWbq {die a q} (h : Kept s t) : Kept s (t.setWbq die a q) := h.upd

theorem Kept.detect {die pa src unc syn} (h : Kept s t) : Kept s (t.detect die pa src unc syn) :=
  .raise (.ite h.incE h.incE.ww)

theorem Kept.queueWb {die pa w} (h : Kept s t) : Kept s (t.queueWb die pa w) := .ite h (.ite h.setWbq h.incE)

theorem Kept.readWord {die pa src wb} (h : Kept s t) : Kept s (t.readWord die pa src wb).2.2 := by
  unfold State.readWord
  split
  · exact h
  · exact .ite h.detect.queueWb h.detect
  · exact h.detect

theorem Kept.storeWord {die pa w} (h : Kept s t) : Kept s (t.storeWord die pa w) :=
  .ite (.wf (.setCell (.ite h.setWbq h))) (.putWord (.ite h.setWbq h))

theorem Kept.narrowWord {die pa lw lane w} (h : Kept s t) : Kept s (t.narrowWord die pa lw lane w) :=
  .ite h.readWord h.readWord.storeWord

theorem Kept.atomicWord {die pa swap opd} (h : Kept s t) : Kept s (t.atomicWord die pa swap opd).2 :=
  .ite_snd h.readWord.storeWord (by split; exacts [h.readWord.storeWord, h.readWord.incE])

theorem Kept.inject {x} (h : Kept s t) : Kept s (t.inject x) := h.upd

theorem Kept.post {die m addr words} (h : Kept s t) : Kept s (t.post die m addr words) := h.inject

theorem Kept.request {op die m sub addr len words g u} (h : Kept s t) (he : t.request op die m sub addr len words = some (g, u)) :
    Kept s u := by
  obtain ⟨_, _, hu⟩ := Option.map_eq_some_iff.mp he
  cases hu
  exact h.inject.upd

theorem Kept.respond {x status words} (h : Kept s t) : Kept s (t.respond x status words) := h.upd

/-! ### Refused and dropped transactions -/

theorem Kept.trnRecord {x x' c} (h : Kept s t) : Kept s (t.trnRecord x x' c) := .ite h h.ww.ww

theorem Kept.trnRaise {x x' src} (h : Kept s t) : Kept s (t.trnRaise x x' src) := h.raiseEv

theorem Kept.creditBack {x n} (h : Kept s t) : Kept s (t.creditBack x n) := .ite h.upd h

theorem Kept.dropCount {x x' c} (h : Kept s t) : Kept s (t.dropCount x x' c) := h.trnRecord.incE.trnRaise

theorem Kept.dropWrite {x x' c} (h : Kept s t) : Kept s (t.dropWrite x x' c) := h.dropCount.creditBack

theorem Kept.refusedWords {x x'} (h : Kept s t) : Kept s (t.refusedWords x x') := .ite h.dropCount h

theorem Kept.answerBad {x x' status c} (h : Kept s t) : Kept s (t.answerBad x x' status c) :=
  h.trnRecord.incE.trnRaise.respond

theorem Kept.reject {x x' status c} (h : Kept s t) : Kept s (t.reject x x' status c) := .ite h.answerBad h.dropWrite

theorem Kept.abortTxn {x x' c} (h : Kept s t) : Kept s (t.abortTxn x x' c) := .ite h.trnRecord.respond h.dropWrite

theorem Kept.arrive {x u} (h : Kept s t) (he : t.arrive x = some u) : Kept s u := by
  unfold State.arrive at he
  split at he
  · split at he
    · cases he
    · cases he; exact h.upd
  · split at he
    · cases he; exact h
    · split at he
      · cases he
      · cases he; exact h.upd

/-! ### Islands and their channels -/

theorem Kept.setIsland {d i x} (h : Kept s t) : Kept s (t.setIsland d i x) := h.upd

theorem Kept.clampStretch {d i} (h : Kept s t) : Kept s (t.clampStretch d i) := .ite h.wf h

theorem Kept.refloor {d i} (h : Kept s t) : Kept s (t.refloor d i) := .ite h h.wf.clampStretch

theorem Kept.refloorDie {d} (h : Kept s t) : Kept s (t.refloorDie d) := .foldl h fun _ _ hu => hu.refloor

theorem Kept.setAmple {d i n} (h : Kept s t) : Kept s (t.setAmple d i n) := h.setIsland

theorem Kept.countStretch {d i n} (h : Kept s t) : Kept s (t.countStretch d i n) := .ite h h.incE

theorem Kept.breachStep {d i} (h : Kept s t) : Kept s (t.breachStep d i) := by
  unfold State.breachStep
  extract_lets _ _ _ _ _ _ u1
  have h1 : Kept s u1 := .setIsland (.incE (.wf (.wf (.ite h.wf.wf h.wf.wf.wf))))
  exact .ite h1.raise h1

theorem Kept.slackCritical {d i} (h : Kept s t) : Kept s (t.slackCritical d i) := by
  unfold State.slackCritical
  extract_lets u1
  have h1 : Kept s u1 := h.countStretch.wf.setAmple
  exact .ite h1.raise (.ite h1.wf h1.breachStep)

theorem Kept.slackLow {d i} (h : Kept s t) : Kept s (t.slackLow d i) := h.countStretch.wf.setAmple.wf

theorem Kept.stretchDecay {d i} (h : Kept s t) : Kept s (t.stretchDecay d i) := h.countStretch.wf.setAmple.wf

theorem Kept.slackAmple {d i} (h : Kept s t) : Kept s (t.slackAmple d i) :=
  .ite h.wf.setAmple (.ite h.stretchDecay h.countStretch.wf.setAmple)

theorem Kept.breachEnd {d i} (h : Kept s t) : Kept s (t.breachEnd d i) := .ite h.wf.setIsland.refloor h

theorem Kept.codeStep {d i} (h : Kept s t) : Kept s (t.codeStep d i) := .clampStretch (.breachEnd (.ite h.wf (.ite h.wf h)))

theorem Kept.setEvt {d i p e} (h : Kept s t) : Kept s (t.setEvt d i p e) := h.upd

theorem Kept.evtRestart {d i} (h : Kept s t) : Kept s (t.evtRestart d i) :=
  .foldl h fun _ _ hu => by split; exacts [hu.setEvt, hu]

theorem Kept.setRun {d i run} (h : Kept s t) : Kept s (t.setRun d i run) :=
  .ite (.evtRestart (.ite h.wf.setIsland h.wf)) (.ite h.wf.setIsland h.wf)

theorem Kept.noteWant (h : Kept s t) : Kept s (t.noteWant) := .ite h h.upd

theorem Kept.setVreq {d i v} (h : Kept s t) : Kept s (t.setVreq d i v) := h.wf.noteWant

theorem Kept.writeClkCtl {d i w} (h : Kept s t) : Kept s (t.writeClkCtl d i w) :=
  .refloor (.ite h.wf.wf.wf.setRun.setVreq h.wf.wf.wf.setRun)

theorem Kept.setChan {k c} (h : Kept s t) : Kept s (t.setChan k c) := h.upd

theorem Kept.execChannelWordSend {d i p stop w} (h : Kept s t) : OutKept s (execChannelWordSend d i p stop w t) :=
  .next (.ite h (.ite (by split; exacts [h, .ite h.setChan.upd h]) (.ite h.setChan h)))

theorem Kept.stopIssue {d i} (h : Kept s t) : Kept s (t.stopIssue d i) :=
  .foldl h fun _ _ hu => .ite hu (.ite hu hu.inject.upd)

theorem Kept.stopTake {d i p w} (h : Kept s t) : Kept s (t.stopTake d i p w) := by
  unfold State.stopTake
  extract_lets
  split
  · exact h.upd.stopIssue
  · exact .ite h h.upd

theorem Kept.setDio {d k x} (h : Kept s t) : Kept s (t.setDio d k x) := h.upd

theorem Kept.noteDio {d i} (h : Kept s t) : Kept s (t.noteDio d i) := .foldl h fun _ _ hu => .ite hu.setDio hu

theorem Kept.dioInitAll {d i} (h : Kept s t) : Kept s (t.dioInitAll d i) := .foldl h fun _ _ hu => .ite hu.setDio hu

theorem Kept.setBm {d i m b} (h : Kept s t) : Kept s (t.setBm d i m b) := h.upd

theorem Kept.openShadow {d i root} (h : Kept s t) : Kept s (t.openShadow d i root) := .ite h.upd h.upd

theorem Kept.shadowEnded {d i} (h : Kept s t) : Kept s (t.shadowEnded d i) := h.upd

theorem Kept.flushIn {d i p} (h : Kept s t) : Kept s (t.flushIn d i p) := by
  unfold State.flushIn
  split
  · exact h
  · exact .ite h.setChan h.setChan.incE

theorem Kept.flushStop {d i p} (h : Kept s t) : Kept s (t.flushStop d i p) := .ite h.setChan.upd h.setChan.upd.incE

theorem Kept.resetEvt {d i p} (h : Kept s t) : Kept s (t.resetEvt d i p) := h.setEvt

theorem Kept.dropOffer {d i p} (h : Kept s t) : Kept s (t.dropOffer d i p) := h.setChan

theorem Kept.resetChannels {d i} (h : Kept s t) : Kept s (t.resetChannels d i) :=
  .stopIssue (.upd (.foldl (.upd (.foldl (.foldl (.foldl h fun _ _ hu => hu.flushIn) fun _ _ hu => hu.dropOffer) fun _ _
      hu => hu.resetEvt)) fun _ _ hu => hu.flushStop))

theorem Kept.initRegs {d i} (h : Kept s t) : Kept s (t.initRegs d i) := h.setIsland.dioInitAll

theorem Kept.resetIsland {d i} (h : Kept s t) : Kept s (t.resetIsland d i) := by
  unfold State.resetIsland
  exact .resetChannels (.foldl h.setIsland.initRegs fun _ _ hu => hu.setBm)

theorem Kept.beginReset {d i root} (h : Kept s t) : Kept s (t.beginReset d i root) := by
  unfold State.beginReset
  exact h.resetIsland.openShadow

theorem Kept.writeIslRst {d w} (h : Kept s t) : Kept s (t.writeIslRst d w) := .foldl h fun _ _ hu => .ite hu.wf hu

theorem Kept.execIslandResetEnd {d i again} (h : Kept s t) : OutKept s (execIslandResetEnd d i again t) := by
  unfold Machine.execIslandResetEnd
  extract_lets _ u1 u2
  have h1 : Kept s u1 := h.setIsland.shadowEnded
  have h2 : Kept s u2 := .ite h1.evtRestart h1
  exact .next (.ite (.ite h2.wf (.ite h2.wf h2)) h)

/-! ### Block memories and banks -/

theorem Kept.setPort {d i m p o pend} (h : Kept s t) : Kept s (t.setPort d i m p o pend) := h.setBm

theorem Kept.portBusy {d i m p} (h : Kept s t) : Kept s (t.portBusy d i m p) := h.freeWord.setPort

theorem Kept.portRefuse {d i m p} (h : Kept s t) : Kept s (t.portRefuse d i m p) := .ite h.portBusy.incE h.portBusy

theorem Kept.portPerform {d i m p q} (h : Kept s t) : Kept s (t.portPerform d i m p q) :=
  .setPort (.ite h.readWord (.ite h.readWord.storeWord (.ite h.readWord h.readWord.storeWord)))

theorem Kept.portStore {d i m p q} (h : Kept s t) : Kept s (t.portStore d i m p q) := .ite h.readWord.storeWord h.narrowWord

theorem Kept.portAccess {d i m p q} (h : Kept s t) : Kept s (t.portAccess d i m p q) := .ite h.portRefuse h.portPerform

theorem Kept.collide {d i m kind word window} (h : Kept s t) : Kept s (t.collide d i m kind word window) :=
  .ite (.raise (.ite h.incE h.incE.ww)) (.ite h.incE h.incE.ww)

theorem Kept.portMid {d i m p q} (h : Kept s t) : Kept s (t.portMid d i m p q) := by
  unfold State.portMid
  extract_lets
  split
  · exact h.portAccess
  · refine .ite h.portAccess ?_
    exact .ite h.portBusy.collide (.ite h.setCell.portAccess.portBusy.collide h.portBusy.collide)

theorem Kept.portPair {d i m qa qb} (h : Kept s t) : Kept s (t.portPair d i m qa qb) := by
  unfold State.portPair
  extract_lets _ _ _ _ u1
  have h1 : Kept s u1 := h.portMid.portBusy
  refine .ite h.portMid.portRefuse ?_
  refine .ite (.ite h1.incE h1) ?_
  refine .ite h.portAccess.portAccess ?_
  exact .ite h.portAccess.portBusy.collide (.collide (.portBusy (.ite h.portAccess.portStore h.portAccess)))

theorem Kept.execBmPortAccess {d i m qa qb} (h : Kept s t) : OutKept s (execBmPortAccess d i m qa qb t) := by
  unfold Machine.execBmPortAccess
  refine .next (.ite h ?_)
  dsimp only
  split
  · exact h
  · exact h.portMid
  · exact h.portMid
  · exact h.portPair

theorem Kept.setWin {d i m w} (h : Kept s t) : Kept s (t.setWin d i m w) := h.setBm

theorem Kept.winDone {d i m r rest w} (h : Kept s t) : Kept s (t.winDone d i m r rest w) :=
  .ite h.creditBack.setWin h.creditBack.setWin.respond

theorem Kept.setPendB {d i m p} (h : Kept s t) : Kept s (t.setPendB d i m p) := h.setBm

theorem Kept.winWord {d i m x k} (h : Kept s t) : Kept s (t.winWord d i m x k).2 := by
  unfold State.winWord
  extract_lets
  split
  · exact h.readWord.setPendB
  · exact h.narrowWord.setPendB
  · exact h.readWord.storeWord.setPendB

theorem Kept.winBusy {d i m r rest} (h : Kept s t) : Kept s (t.winBusy d i m r rest) := .ite h.setWin h.incE.raise.winDone

theorem Kept.winMid {d i m r rest w} (h : Kept s t) : Kept s (t.winMid d i m r rest w) :=
  .ite h.collide.winBusy h.collide.winDone

theorem Kept.winAccess {d i m r rest qa bFirst} (h : Kept s t) : Kept s (t.winAccess d i m r rest qa bFirst) := by
  unfold State.winAccess
  extract_lets
  split
  · exact h.winWord.winDone
  · extract_lets _ u1
    have h1 : Kept s u1.2 := h.portAccess.winWord
    refine .ite h1.winDone ?_
    refine .ite h.portAccess.collide.winDone ?_
    refine .ite (.winDone (.collide (.portBusy (.ite h.winWord.portStore h.winWord)))) ?_
    exact .ite h1.collide.winDone h.portAccess.collide.winBusy

theorem Kept.winEdge {d i m r rest qa bFirst mid} (h : Kept s t) : Kept s (t.winEdge d i m r rest qa bFirst mid) := by
  unfold State.winEdge
  dsimp only
  split
  · refine .ite ?_ h.winAccess
    split
    · exact h.winMid.portAccess
    · exact h.winMid
  · exact h.winAccess

theorem Kept.stealBusy {d i m} (h : Kept s t) : Kept s (t.stealBusy d i m) := h.portBusy.setPendB.incE

theorem Kept.setBank {d b x} (h : Kept s t) : Kept s (t.setBank d b x) := h.upd

theorem Kept.bankPresent {d b x} (h : Kept s t) : Kept s (t.bankPresent d b x) := h.setBank

theorem Kept.wbHead {d a} (h : Kept s t) : Kept s (t.wbHead d a) := by
  unfold State.wbHead
  split
  · exact h
  · exact h.putWord.setWbq

theorem Kept.bankWord {d r} (h : Kept s t) : Kept s (t.bankWord d r).2.2 := by
  unfold State.bankWord
  extract_lets
  split
  · exact h.readWord
  · exact h.storeWord
  · exact h.narrowWord
  · exact h.atomicWord
  · exact h.atomicWord

theorem Kept.bankServe {d b j r} (h : Kept s t) : Kept s (t.bankServe d b j r) :=
  .ite h.bankWord.creditBack.setBank.respond h.bankWord.creditBack.setBank

theorem Kept.bankCycle {d b} (h : Kept s t) : Kept s (t.bankCycle d b) := by
  unfold State.bankCycle
  refine .ite h.setBank.incE ?_
  split
  · exact h
  · exact h.wbHead.incE
  · split
    · exact h
    · exact h.bankServe.incE

theorem Kept.starve {d b cls} (h : Kept s t) : Kept s (t.starve d b cls) := .raise (.ite h.incE h.incE.ww)

theorem Kept.execBankStarvation {d b wb n} (h : Kept s t) : OutKept s (execBankStarvation d b wb n t) := by
  unfold Machine.execBankStarvation
  refine .next ?_
  refine .ite h ?_
  refine .ite ?_ ?_
  · extract_lets
    split
    · exact .ite h h.setWbq.starve
    · exact h
  · split
    · exact .ite h h.setBank.starve
    · exact h

theorem Kept.wbPort {d i m qa bFirst} (h : Kept s t) : Kept s (t.wbPort d i m qa bFirst) := by
  unfold State.wbPort
  extract_lets
  split
  · exact h
  · exact h.wbHead
  · refine .ite h.portAccess.wbHead ?_
    refine .ite (.ite h.portAccess.collide h.portAccess) ?_
    exact .ite h.wbHead.portBusy.collide h.portAccess.wbHead.collide

/-! ### DRAM -/

theorem Kept.setDram {c x} (h : Kept s t) : Kept s (t.setDram c x) := h.upd

theorem Kept.setUnder {c w n v} (h : Kept s t) : Kept s (t.setUnder c w n v) := h.setDram

theorem Kept.freeWords {n} (h : Kept s t) : Kept s (t.freeWords n).2 := by
  induction n with
  | zero => exact h
  | succ k ih => exact ih.freeWord

/-- Words forgotten keep the canonical form. -/
theorem Kept.forget {p : Nat × Cell → Bool} (h : Kept s t) : Kept s { t with mem := t.mem.filter p } :=
  ⟨h.pending, fun hs => Memory.wf_filter t.mem p (h.mem hs)⟩

theorem Kept.fillWords {c u} (h : Kept s t) : Kept s (t.fillWords c u) := by
  unfold State.fillWords
  extract_lets lo a u1 u2 u3
  have h3 : Kept s u3 := .setUnder (.forget h.setWbq)
  split
  · exact h3
  · exact .foldl h3 fun _ _ hu => .foldl hu fun _ _ hv => hv.putWord

theorem Kept.victimRefresh {c l} (h : Kept s t) : Kept s (t.victimRefresh c l) := .ite h.setDram h.setDram.incE.raise

theorem Kept.activate {c l} (h : Kept s t) : Kept s (t.activate c l) := by
  unfold State.activate
  refine .ite (.ite h.setDram.setDram.victimRefresh h.setDram.setDram) ?_
  exact .ite h.setDram.free.victimRefresh h.setDram.free

theorem Kept.touch {c w} (h : Kept s t) : Kept s (t.touch c w) := .ite h h.activate

theorem Kept.fillUnit {c u} (h : Kept s t) : Kept s (t.fillUnit c u) :=
  .wf (.setDram (.fillWords (.foldl h fun _ _ hu => hu.touch)))

theorem Kept.dramIssue {c e} (h : Kept s t) : Kept s (t.dramIssue c e) := .setDram (.ite h h.activate)

theorem Kept.refIssue {c rank n} (h : Kept s t) : Kept s (t.refIssue c rank n) := h.setDram

theorem Kept.victimDone {c rank} (h : Kept s t) : Kept s (t.victimDone c rank) := by
  unfold State.victimDone
  extract_lets
  split
  · exact h
  · exact h.setDram.incE

theorem Kept.victimReady {c} (h : Kept s t) : Kept s (t.victimReady c).2 := by
  unfold State.victimReady
  split
  · exact h
  · exact h.choice

theorem Kept.dramCycle {c} (h : Kept s t) : Kept s (t.dramCycle c) := by
  unfold State.dramCycle
  refine .ite h ?_
  extract_lets
  split
  · exact h.victimReady.victimDone
  · split
    · exact h.victimReady.dramIssue
    · exact .ite h.victimReady (by split; exacts [h.victimReady, h.victimReady.refIssue])

theorem Kept.dramRun {c n fuel} (h : Kept s t) : Kept s (t.dramRun c n fuel) := by
  induction fuel generalizing t with
  | zero => exact h
  | succ k ih => exact .ite h (.ite h (ih h.dramCycle))

theorem Kept.readUnit {c w key} (h : Kept s t) : Kept s (t.readUnit c w key).2.2 := by
  unfold State.readUnit
  extract_lets u1
  have h1 : Kept s u1.2.2 := .foldl_snd_snd h fun _ _ hu => hu.readWord
  exact .ite_snd_snd h1.freeWords h1

theorem Kept.writeUnit {c w key k ws} (h : Kept s t) : Kept s (t.writeUnit c w key k ws) :=
  .foldl h.setUnder fun _ _ hu => hu.storeWord

theorem Kept.dramWrite {c x} (h : Kept s t) : Kept s (t.dramWrite c x) := by
  unfold State.dramWrite
  extract_lets
  split
  · refine .ite (.ite (.ite h.readWord h.readWord.freeWord.setUnder.storeWord) h.narrowWord) ?_
    exact .foldl h.setUnder fun _ _ hu => hu.storeWord
  · exact .foldl h fun _ _ hu => .ite hu.writeUnit (.ite hu.readUnit hu.readUnit.writeUnit)

theorem Kept.demandFill {c w n} (h : Kept s t) : Kept s (t.demandFill c w n) :=
  .foldl h fun _ _ hu => .ite hu hu.fillUnit.incE

theorem Kept.dramAccept {c x} (h : Kept s t) : Kept s (t.dramAccept c x) :=
  .ite h.setDram h.demandFill.dramWrite.setDram.creditBack

theorem Kept.dramDecode {c w cell src} (h : Kept s t) : Kept s (t.dramDecode c w cell src).2.2 := by
  unfold State.dramDecode
  extract_lets
  split
  · exact h
  · exact .ite h.detect.queueWb h.detect
  · exact h.detect

theorem Kept.dramUnit {c g lo hi cells key odd src} (h : Kept s t) : Kept s (t.dramUnit c g lo hi cells key odd src).2 := by
  unfold State.dramUnit
  extract_lets step r
  have hstep : ∀ r i, Kept s r.2.2 → Kept s (step r i).2.2 := by
    intro r i hr
    unfold step
    split
    · exact hr
    · exact .ite_snd_snd hr (.ite_snd_snd hr.dramDecode.freeWord hr.dramDecode)
  have h1 : Kept s r.2.2 := .foldl_snd_snd h hstep
  clear_value r
  split
  · exact h1
  · exact .ite_snd h1 (.ite_snd h1.freeWords h1)

theorem Kept.dramReadWords {c a src} (h : Kept s t) : Kept s (t.dramReadWords c a src).2 :=
  .foldl_snd h fun _ _ hu => hu.dramUnit

theorem Kept.execDramReadComplete {c n} (h : Kept s t) : OutKept s (execDramReadComplete c n t) := by
  unfold Machine.execDramReadComplete
  extract_lets _ _ u1
  have h1 : Kept s u1 := h.dramRun.setDram
  exact .next (by split; exacts [h.dramRun, .ite h.dramRun (.ite h1.dramReadWords.respond h1)])

theorem Kept.execDramRefresh {c rank} (h : Kept s t) : OutKept s (execDramRefresh c rank t) :=
  .next (.ite h (.ite h.wf.setDram.refIssue (.ite h.wf.setDram h.wf.setDram.refIssue)))

theorem Kept.dramRetire {c} (h : Kept s t) : Kept s (t.dramRetire c) :=
  .raise (.foldl (.foldl h.setDram.wf.wf.wf fun _ _ hu => .ite hu.respond hu.dropCount) fun _ _ hu => hu.reject)

theorem Kept.dramTrain {c} (h : Kept s t) : Kept s (t.dramTrain c) := h.setDram.wf

theorem Kept.writeDramCtl {c w hwClear} (h : Kept s t) : Kept s (t.writeDramCtl c w hwClear) := by
  unfold State.writeDramCtl
  extract_lets _ _ u1 _ u2
  have h1 : Kept s u1 := .wf (.ite h.wf h)
  have h2 : Kept s u2 := .ite (.wf (.wf (.ite h1.wf h1))) (.ite h1.wf h1)
  exact .ite (.ite h2 h2.wf.dramTrain) (.ite h2.wf h2.wf.wf)

theorem Kept.dramCtlOut {c w acts} (h : Kept s t) : Kept s (dramCtlOut c w acts t) :=
  .ite h.writeDramCtl.w1sCleared h.regRefuse

theorem Kept.execPeriodicCentring {c good} (h : Kept s t) : OutKept s (execPeriodicCentring c good t) := by
  unfold Machine.execPeriodicCentring
  extract_lets _ _ u1
  have h1 : Kept s u1 := h.incE.wf.wf.setDram.raise
  exact .next (.ite h (.ite h.incE.wf.wf.setDram (.ite h1.dramRetire h1)))

theorem Kept.dramTemp {c x} (h : Kept s t) : Kept s (t.dramTemp c x) := by
  unfold State.dramTemp
  extract_lets _ _ _ _ u1
  have h1 : Kept s u1 := .setDram (.ite h.wf.wf (.ite h.wf.wf h.wf))
  exact .ite h1.wf.raise h1

theorem Kept.dramJunction (h : Kept s t) : Kept s (t.dramJunction) := .foldl h fun _ _ hu => .ite hu.dramTemp hu

theorem Kept.keyLoad {c k} (h : Kept s t) : Kept s (t.keyLoad c k) :=
  .ite (.raise (.wf (.foldl h fun _ _ hu => hu.wf))) (.wf (.setDram (.foldl h fun _ _ hu => hu.wf)))

theorem Kept.writeKeyCtl {c k w} (h : Kept s t) : Kept s (t.writeKeyCtl c k w) :=
  .wf (.ite h.plainWrite.keyLoad h.plainWrite)

theorem Kept.execDramFillStart {c again} (h : Kept s t) : OutKept s (execDramFillStart c again t) := by
  unfold Machine.execDramFillStart
  extract_lets _ _ _ _ _ _ _ u1
  have h1 : Kept s u1 := .wf (.setWbq (.setDram (.ite h h.wf)))
  exact .next (.ite h (.ite (.ite h h.wf) (.ite h1.wf h1)))

theorem Kept.writeDramGeom {c w} (h : Kept s t) : Kept s (t.writeDramGeom c w) := .ite h.wf.wf.wf.wf h

theorem Kept.writeDramTim {n c w acts} (h : Kept s t) : Kept s (t.writeDramTim n c w acts) := .ite h.plainWrite h

theorem Kept.writeRefCtl {c w} (h : Kept s t) : Kept s (t.writeRefCtl c w) := h.wf.wf.wf

theorem Kept.writeDramTemp {c w} (h : Kept s t) : Kept s (t.writeDramTemp c w) :=
  .ite h.wf.wf.dramTemp (.ite h.wf.wf.dramTemp h.wf.wf)

theorem Kept.writeRdCtl {c w} (h : Kept s t) : Kept s (t.writeRdCtl c w) := h.wf.wf.wf.wf

theorem Kept.writeTrainCtl {c w} (h : Kept s t) : Kept s (t.writeTrainCtl c w) := h.wf.wf.wf

theorem Kept.execWriteBack {d x} (h : Kept s t) : OutKept s (execWriteBack d x t) := by
  unfold Machine.execWriteBack
  refine .next ?_
  split
  · exact .ite h (.ite h h.wbHead.incE)
  · exact .ite h (.ite h h.wbHead.incE)
  · exact .ite h (.ite h.wbPort.stealBusy h.wbPort)
  · split
    · exact h
    · exact .ite h h.touch.wbHead
  · exact h.wbHead

theorem Kept.dramFinish {c} (h : Kept s t) : Kept s (t.dramFinish c) :=
  .setDram (.foldl h fun _ _ hu => .ite hu.dramReadWords.respond hu)

theorem Kept.dramReset {c} (h : Kept s t) : Kept s (t.dramReset c) := h.dramFinish.setDram

theorem Kept.dramPark {c} (h : Kept s t) : Kept s (t.dramPark c) := .ite h h.dramFinish.setDram.wf

/-! ### Coding -/

theorem Kept.putOnLine {l w cells} (h : Kept s t) : Kept s (t.putOnLine l w cells) := h.upd

/-! ### Ixgal bundles -/

theorem Kept.setIxp {d p x} (h : Kept s t) : Kept s (t.setIxp d p x) := h.upd

theorem Kept.losePair {d p e q} (h : Kept s t) : Kept s (t.losePair d p e q) := h.setIxp.setIxp.upd.raise.raise

theorem Kept.retire {d p} (h : Kept s t) : Kept s (t.retire d p) := by
  unfold State.retire
  split
  · exact h
  · extract_lets _ _ u1
    have h1 : Kept s u1 := h.wf.wf.wf.setIxp.wf.wf.wf.setIxp.raise
    exact .ite (.ite h.wf h) (.ite h1.losePair.wf.wf h1)

theorem Kept.retrain {d p} (h : Kept s t) : Kept s (t.retrain d p) := by
  unfold State.retrain
  split
  · exact h
  · exact .ite h.setIxp h.setIxp.wf.setIxp.wf

theorem Kept.ixProtocol {d p} (h : Kept s t) : Kept s (t.ixProtocol d p) := h.raise.retrain

theorem Kept.startSwap {d p wire} (h : Kept s t) : Kept s (t.startSwap d p wire) := by
  unfold State.startSwap
  split
  · exact h.retire
  · exact h.setIxp

theorem Kept.ixRecord {d p unloc wire seq} (h : Kept s t) : Kept s (t.ixRecord d p unloc wire seq) := .ite h h.ww

theorem Kept.countLoc {d p wire seq} (h : Kept s t) : Kept s (t.countLoc d p wire seq) :=
  .ite h.setIxp (.ite h.setIxp.startSwap h.setIxp)

theorem Kept.locate {d p wire seq} (h : Kept s t) : Kept s (t.locate d p wire seq) := h.ixRecord.countLoc

theorem Kept.badSideband {d p} (h : Kept s t) : Kept s (t.badSideband d p) := h.locate

theorem Kept.countLater {d p} (h : Kept s t) : Kept s (t.countLater d p) := .foldl h.setIxp fun _ _ hu => hu.countLoc

theorem Kept.unlocated {d p seq} (h : Kept s t) : Kept s (t.unlocated d p seq) :=
  .ite (.ite h.ixRecord.setIxp h.ixRecord.setIxp.raise.retrain) h.ixRecord.setIxp

theorem Kept.wireLocate {d p failed good} (h : Kept s t) : Kept s (t.wireLocate d p failed good) := by
  unfold State.wireLocate
  split
  · exact h.locate
  · exact h.unlocated

theorem Kept.sendNak {d p} (h : Kept s t) : Kept s (t.sendNak d p) := .ite h.setIxp.raise.retrain h.setIxp

theorem Kept.guestDeliver {fs} (h : Kept s t) : Kept s (t.guestDeliver fs) := by
  unfold State.guestDeliver
  split
  · exact h
  · extract_lets
    split
    · exact h.inject.upd
    · exact h.upd

theorem Kept.flitAccept {d p f} (h : Kept s t) : Kept s (t.flitAccept d p f) := by
  unfold State.flitAccept
  extract_lets
  split
  · exact h.ixProtocol
  · exact .ite h.ixProtocol (.ite h.setIxp (.ite h.setIxp.guestDeliver h.setIxp))

theorem Kept.flitLaunch {d p f u} (h : Kept s t) (he : t.flitLaunch d p f = some u) : Kept s u := by
  unfold State.flitLaunch at he
  split at he
  · cases he; exact h
  · dsimp only at he
    split at he
    · cases he
    · split at he
      · split at he
        · cases he; exact h.setIxp
        · cases he
      · split at he
        · split at he
          · cases he
          · cases he; exact h.setIxp.wf.wf
        · cases he

theorem Kept.flitReceive {d p f parity again} (h : Kept s t) : Kept s (t.flitReceive d p f parity again) := by
  unfold State.flitReceive
  extract_lets _ _ _ u1
  have h1 : Kept s u1 := by unfold u1; split; exacts [h.setIxp, h.setIxp.wireLocate.setIxp]
  refine .ite (.ite h.incE.raise.setIxp.sendNak (.ite h.incE.raise.sendNak h.incE.raise)) ?_
  exact .ite h (.flitAccept (.ite h1.locate h1))

theorem Kept.controlArrive {d p ack nak ini cred size} (h : Kept s t) : Kept s (t.controlArrive d p ack nak ini cred size) := by
  unfold State.controlArrive
  extract_lets _ _ _ _ _ _ _ _ u1
  have h1 : Kept s u1 := .ite h.setIxp.wf.wf.incE h.setIxp.wf.wf
  exact .ite (.ite h h.ixProtocol) (.ite h1 h1.ixProtocol)

theorem Kept.sendControl {d p} (h : Kept s t) : Kept s (t.sendControl d p) := by
  unfold State.sendControl
  split
  · exact h
  · exact .ite h.setIxp h.setIxp.controlArrive

theorem Kept.owedControl {d p} (h : Kept s t) : Kept s (t.owedControl d p) := .ite h.sendControl h

theorem Kept.execSequencedFlit {d p sent got par} (h : Kept s t) : OutKept s (execSequencedFlit d p sent got par t) := by
  unfold Machine.execSequencedFlit
  refine .next ?_
  split
  · exact h
  · refine .ite h ?_
    split
    · exact h
    · next heq => exact .owedControl (.owedControl (.flitReceive (h.flitLaunch heq)))

theorem Kept.idleFlits (h : Kept s t) : Kept s (t.idleFlits) :=
  .foldl h fun _ _ hu => .foldl hu fun _ _ hv => .ite hv.sendControl hv

theorem Kept.execSidebandCap {d p w crc} (h : Kept s t) : OutKept s (execSidebandCap d p w crc t) := by
  unfold Machine.execSidebandCap
  refine .next ?_
  split
  · exact h
  · refine .ite h.badSideband ?_
    exact .ite h (.ite h.setIxp (.ite h.setIxp.retire (.ite h.setIxp.ww.ww.wf.wf h.setIxp.ww.ww.wf.wf.raise)))

theorem Kept.trainSide {d p m bad clk} (h : Kept s t) : Kept s (t.trainSide d p m bad clk) :=
  .ite h.ww.wf.wf.ww.ww.setIxp.wf.wf.wf h.ww.wf.wf.ww.ww.setIxp

theorem Kept.trainFail {d p e q} (h : Kept s t) : Kept s (t.trainFail d p e q) := .ite h.wf.wf.wf.wf.raise h.retire

theorem Kept.execBundleTraining {d p r} (h : Kept s t) : OutKept s (execBundleTraining d p r t) := by
  unfold Machine.execBundleTraining
  refine .next ?_
  split
  · exact h
  · refine .ite h (.ite h (.ite h.retire ?_))
    dsimp only
    split
    · exact .ite h.trainFail h.trainSide.trainSide
    · exact h.trainFail

theorem Kept.execSidebandReady {d p crc} (h : Kept s t) : OutKept s (execSidebandReady d p crc t) := by
  unfold Machine.execSidebandReady
  refine .next ?_
  split
  · exact h
  · refine .ite h.badSideband ?_
    extract_lets -underBinder x
    split
    · extract_lets after u1 _ u2 u3
      have h2 : Kept s u2 := h.setIxp.wf.setIxp
      have h3 : Kept s u3 := .ite h2 h2.incE
      exact .countLater (.ite h3.retrain h3)
    · refine .ite h ?_
      extract_lets u1 one u2 u3
      have hone : ∀ v d p, Kept s v → Kept s (one v d p) := fun v d p hv => .wf (.wf (.wf (.setIxp (.ite hv hv.incE))))
      have h2 : Kept s u2 := .countLater (.countLater (hone _ _ _ (hone _ _ _ h.setIxp)))
      have h3 : Kept s u3 := h2.upd
      exact .ite (.ite h3.upd h3) h.setIxp

theorem Kept.execSidebandMap {d p body crc} (h : Kept s t) : OutKept s (execSidebandMap d p body crc t) := by
  unfold Machine.execSidebandMap
  refine .next ?_
  split
  · exact h
  · refine .ite h.badSideband ?_
    extract_lets
    split
    · exact h.setIxp
    · exact .raise (.incE (.ite h.setIxp.ww.wf.setIxp h.setIxp.ww.wf))

theorem Kept.execSidebandRetire {d p seq delivered k crc} (h : Kept s t) :
    OutKept s (execSidebandRetire d p seq delivered k crc t) :=
  .next (by split; exacts [h, .ite h.badSideband (by split; exacts [h, h.setIxp.setIxp.wf.wf.wf])])

theorem Kept.writeIxgCtl {d p w hwClear} (h : Kept s t) : Kept s (t.writeIxgCtl d p w hwClear) := by
  unfold State.writeIxgCtl
  extract_lets _ _ u1 _ u2
  have h1 : Kept s u1 := .ite h.plainWrite.wf h.plainWrite
  have h2 : Kept s u2 := .ite (.wf (.ite h1.wf h1)) (.ite h1.wf h1)
  exact .ite h2.retire (.ite h2.retrain h2)

/-! ### Lanes -/

theorem Kept.setLane {n x} (h : Kept s t) : Kept s (t.setLane n x) := h.upd

theorem Kept.setMac {m x} (h : Kept s t) : Kept s (t.setMac m x) := h.upd

theorem Kept.macLinkDown {n} (h : Kept s t) : Kept s (t.macLinkDown n) := .ite h.wf h

theorem Kept.pstate {n req} (h : Kept s t) : Kept s (t.pstate n req) :=
  .ite h.wf (.ite h.wf.setLane (.ite (.ite h.wf h.wf.wf) (.macLinkDown (.ite h.wf.wf.wf.wf h.wf.wf.wf))))

theorem Kept.pstateSoft {n req} (h : Kept s t) : Kept s (t.pstateSoft n req) := .ite h h.pstate

theorem Kept.trainStart {n} (h : Kept s t) : Kept s (t.trainStart n) := .ite h.wf.setLane h.wf

theorem Kept.bringLane {n} (h : Kept s t) : Kept s (t.bringLane n) := .ite h.pstate.trainStart h.pstate.wf.setLane

/-- `State.lane` stands abstract in this proof: the kernel would evaluate the lane that the match reads. -/
theorem Kept.execLaneP0Reached {n rx} (h : Kept s t) : OutKept s (execLaneP0Reached n rx t) := by
  unfold Machine.execLaneP0Reached
  obtain ⟨lane, hlane⟩ : ∃ f, f = State.lane := ⟨_, rfl⟩
  rw [← hlane]
  refine .next (.ite h ?_)
  extract_lets u1 u2 _ u3
  have h1 : Kept s u1 := h.wf.wf.wf
  have h2 : Kept s u2 := .ite h1.ww h1
  have h3 : Kept s u3 := .ite h2.setLane.trainStart h2
  split
  · exact h3
  · exact h3.setLane.pstate

theorem Kept.claimLane {n owner index rate} (h : Kept s t) : Kept s (t.claimLane n owner index rate).2 :=
  .ite_snd h h.wf.wf.wf.bringLane

theorem Kept.releaseLane {n} (h : Kept s t) : Kept s (t.releaseLane n) := h.pstate.setLane.wf.wf.wf

theorem Kept.coefficient {n k up} (h : Kept s t) : Kept s (t.coefficient n k up) :=
  .ite h (.ite h.setLane.wf.wf.wf h.setLane)

theorem Kept.setTaps {n pre main post} (h : Kept s t) : Kept s (t.setTaps n pre main post) := h.wf.wf.wf

theorem Kept.macLose {m} (h : Kept s t) : Kept s (t.macLose m) := h.wf.wf.wf.wf

theorem Kept.retireLane {n} (h : Kept s t) : Kept s (t.retireLane n) :=
  .ite h.setLane.wf.wf.wf.wf.wf.wf.wf.wf.macLose h.setLane.wf.wf.wf.wf.wf.wf.wf.wf

theorem Kept.pllLoss {n relocked} (h : Kept s t) : Kept s (t.pllLoss n relocked) :=
  .ite h (.ite h.raise.wf (.ite h.raise.wf.setLane.retireLane h.raise.wf.setLane))

theorem Kept.prbsCount {n nbits errs} (h : Kept s t) : Kept s (t.prbsCount n nbits errs) :=
  .ite (.ite h.setLane h.setLane.incE) (.incE (.ite h.setLane h.setLane.incE))

theorem Kept.lanePass {n bs} (h : Kept s t) : Kept s (t.lanePass n bs) :=
  .ite (.ite h.setLane.prbsCount.wf.wf h.setLane.prbsCount.wf) h.setLane

theorem Kept.laneInject {n} (h : Kept s t) : Kept s (t.laneInject n) := .ite h.setLane.wf.wf h

theorem Kept.writePrbs {n w acts} (h : Kept s t) : Kept s (t.writePrbs n w acts) := by
  unfold State.writePrbs
  extract_lets _ _ _ u1
  have h1 : Kept s u1 := .ite h.plainWrite h.plainWrite.wf.setLane
  exact .ite h (.laneInject (.ite h1.free.setLane h1))

theorem Kept.prbsOut {n w} (h : Kept s t) : Kept s (prbsOut n w t) := .ite h.writePrbs h.regRefuse

theorem Kept.writeLaneCtl {n w} (h : Kept s t) : Kept s (t.writeLaneCtl n w) := by
  unfold State.writeLaneCtl
  extract_lets _ _ _ u1
  have h1 : Kept s u1 := .ite h.wf.wf.wf h.wf.wf.wf.wf.wf
  exact .ite h (.ite (.ite h1.wf h1) (.pstateSoft (.ite h1.wf h1)))

theorem Kept.reviveEnd {n locked} (h : Kept s t) : Kept s (t.reviveEnd n locked) := .ite (.ite h.wf.wf.wf h.wf) h

theorem Kept.writeLaneTx {n w} (h : Kept s t) : Kept s (t.writeLaneTx n w) := .ite h (.ite h.wf.wf.wf h.wf.wf.wf.setTaps)

theorem Kept.writeMacCtl {m w hwClear} (h : Kept s t) : Kept s (t.writeMacCtl m w hwClear) := by
  unfold State.writeMacCtl
  extract_lets _ _ _ _ _ u1
  have h1 : Kept s u1 := .ww (.wf (.ite h.wf.wf.wf.wf.wf h.wf.wf.wf.wf))
  refine .ite (.ite h1 (.ite h1.claimLane.wf h1.claimLane.raise)) ?_
  split
  · exact h1.macLose.releaseLane
  · exact h1.macLose

theorem Kept.macCtlOut {m w hwClear} (h : Kept s t) : Kept s (macCtlOut m w hwClear t) := .ite h.writeMacCtl h.regRefuse

theorem Kept.tsView {m} (h : Kept s t) : Kept s (t.tsView m) := by
  unfold State.tsView
  dsimp only
  split
  · exact h.wf.ww.ww
  · exact h.wf.ww.ww

theorem Kept.tsPush {m e} (h : Kept s t) : Kept s (t.tsPush m e) := .ite h.setMac.tsView h.wf.raise

theorem Kept.tsRead {m} (h : Kept s t) : Kept s (t.tsRead m).2 := h.setMac.tsView

theorem Kept.macReceive {m bs fcs x} (h : Kept s t) : Kept s (t.macReceive m bs fcs x) :=
  .ite h.incE (.ite h.setMac.incE h.incE.raise)

theorem Kept.macSend {m x preload ws x'} (h : Kept s t) : Kept s (t.macSend m x preload ws x') := by
  unfold State.macSend
  extract_lets _ _ _ _ u1 u2
  have h1 : Kept s u1 := .incE (.ite h.setMac h)
  have h2 : Kept s u2 := .ite h1.macReceive h1
  exact .ite (by split; exacts [h2.tsPush, h2.free.free.tsPush]) h2

theorem Kept.macHear {m bs fcs x} (h : Kept s t) : Kept s (t.macHear m bs fcs x) :=
  .ite h (.ite h.macReceive.setMac h.macReceive)

theorem Kept.macTxWords {m addr ws} (h : Kept s t) : Kept s (t.macTxWords m addr ws) := by
  unfold State.macTxWords
  extract_lets u1
  have h1 : Kept s u1 := .foldl h fun _ _ hu => .ite hu hu.regRefuse
  exact .ite h1 (.ite h1.setMac h1.incE)

theorem Kept.macRxTake {m n} (h : Kept s t) : Kept s (t.macRxTake m n).2 := h.setMac

theorem Kept.macTxWindow {x} (h : Kept s t) : Kept s (t.macTxWindow x) := by
  unfold State.macTxWindow
  refine .ite h ?_
  split
  · exact h
  · next heq => exact .creditBack (.refusedWords (.macTxWords (h.arrive heq)))

theorem Kept.macRxWindow {x} (h : Kept s t) : Kept s (t.macRxWindow x) := by
  unfold State.macRxWindow
  split
  · exact h
  · next heq => exact .respond (.macRxTake (h.arrive heq))

theorem Kept.execMacTsTimeRead {m x} (h : Kept s t) : OutKept s (execMacTsTimeRead m x t) := by
  unfold Machine.execMacTsTimeRead
  refine .next ?_
  exact .ite h (by
    split
    · exact h
    · next heq => exact .respond (.tsRead (h.arrive heq)))

/-! ### Saette links and their lanes -/

theorem Kept.setSl {l x} (h : Kept s t) : Kept s (t.setSl l x) := h.upd

theorem Kept.setSc {c x} (h : Kept s t) : Kept s (t.setSc c x) := h.upd

theorem Kept.setFwd {c x} (h : Kept s t) : Kept s (t.setFwd c x) := h.upd

theorem Kept.releaseLanes {l} (h : Kept s t) : Kept s (t.releaseLanes l) := .foldl h fun _ _ hu => .ite hu.releaseLane hu

theorem Kept.dropLanes {l} (h : Kept s t) : Kept s (t.dropLanes l) := .foldl h fun _ _ hu => .ite hu.releaseLane hu

theorem Kept.claimLanes {l} (h : Kept s t) : Kept s (t.claimLanes l).2 := by
  unfold State.claimLanes
  refine .ite_snd h.dropLanes ?_
  extract_lets
  split
  · exact .foldl_snd h.dropLanes fun _ _ hu => .ite_snd hu hu.claimLane
  · exact h.dropLanes.releaseLanes.raise

theorem Kept.slView {l} (h : Kept s t) : Kept s (t.slView l) := h.wf

theorem Kept.bringUp {l} (h : Kept s t) : Kept s (t.bringUp l) := by
  unfold State.bringUp
  refine .ite h ?_
  refine .ite (.wf (.wf (.wf (.wf (.wf (.setSl (.foldl h.claimLanes fun _ _ hu => hu.bringLane))))))) ?_
  exact h.claimLanes.wf

theorem Kept.slRetrain {l} (h : Kept s t) : Kept s (t.slRetrain l) := .ite h.wf.incE h

theorem Kept.slProtocol {l} (h : Kept s t) : Kept s (t.slProtocol l) := h.raise

theorem Kept.linkCtlFields {l cell} (h : Kept s t) : Kept s (t.linkCtlFields l cell) :=
  .slView (.wf (.wf (.wf (.wf (.ite h.setSl.incE h.setSl)))))

theorem Kept.msg {c msg fields} (h : Kept s t) : Kept s (t.msg c msg fields) := h.setSc

/-! ### Saette cells and channels -/

theorem Kept.rxView {c} (h : Kept s t) : Kept s (t.rxView c) := h.wf

theorem Kept.scNotice {c kind ctr} (h : Kept s t) : Kept s (t.scNotice c kind ctr) := h.post

theorem Kept.levelNotice {c was} (h : Kept s t) : Kept s (t.levelNotice c was) := .ite h.rxView.scNotice h.rxView

theorem Kept.packetNotice {c ctr} (h : Kept s t) : Kept s (t.packetNotice c ctr) := .ite h.scNotice h

theorem Kept.owe {c n} (h : Kept s t) : Kept s (t.owe c n) := .ite h.setSc.msg h.setSc

theorem Kept.closeIfEmpty {c} (h : Kept s t) : Kept s (t.closeIfEmpty c) := .ite (.wf (.msg (.ite h.setSc.msg h))) h

theorem Kept.rxTakeOne {c w id u} (h : Kept s t) (he : t.rxTakeOne c = some (w, id, u)) : Kept s u := by
  unfold State.rxTakeOne at he
  dsimp only at he
  split at he
  · cases he
  · split at he
    · cases he
    · cases he; exact h.readWord.setSc.owe

theorem Kept.rxTake {c n} (h : Kept s t) : Kept s (t.rxTake c n).2 := by
  induction n generalizing t with
  | zero => exact h
  | succ k ih =>
    unfold State.rxTake
    split
    · exact h
    · next heq => exact ih (h.rxTakeOne heq)

theorem Kept.scRxWindow {x} (h : Kept s t) : Kept s (t.scRxWindow x) := by
  unfold State.scRxWindow
  extract_lets
  split
  · exact h
  · next heq =>
      extract_lets _ u1
      have h1 : Kept s u1 := .closeIfEmpty (.rxView (.rxTake (h.arrive heq)))
      exact .respond (.ite h1.upd h1)

theorem Kept.recordFail {c cause gone held ctr spec} (h : Kept s t) : Kept s (t.recordFail c cause gone held ctr spec) :=
  .ite (.scNotice (.raise (.incE (.ite h h.ww.ww)))) (.raise (.incE (.ite h h.ww.ww)))

theorem Kept.retractAway {f} (h : Kept s t) : Kept s (t.retractAway f).2 := h.upd

theorem Kept.frameFail {c cause f} (h : Kept s t) : Kept s (t.frameFail c cause f) := by
  unfold State.frameFail
  refine .ite (.recordFail (.setSc (.retractAway (.foldl h fun _ _ hu => hu.readWord.putWord)))) ?_
  exact .closeIfEmpty (.rxView (.recordFail (.ite h.setSc h.setSc.owe)))

theorem Kept.execFrameCheck {c} (h : Kept s t) : OutKept s (execFrameCheck c t) := by
  unfold Machine.execFrameCheck
  refine .next ?_
  split
  · exact h
  · refine .ite h ?_
    split
    · exact h
    · exact .ite h.frameFail (.ite h.frameFail (.ite h.setSc.incE h.setSc.incE.levelNotice.packetNotice))

theorem Kept.gwLinkLost {l} (h : Kept s t) : Kept s (t.gwLinkLost l) :=
  .foldl h.upd fun _ _ hu => hu.trnRecord.incE.raise.respond

theorem Kept.txClosed {c cause} (h : Kept s t) : Kept s (t.txClosed c cause) := h.wf.wf.wf.wf.wf.setSc

theorem Kept.channelsLost {l} (h : Kept s t) : Kept s (t.channelsLost l) :=
  .foldl h fun _ _ hu => .ite hu (.ite (.ite hu.txClosed hu) (.wf (.setSc (.foldl (.ite hu.txClosed hu) fun _ _ hv => .ite
      hv hv.frameFail))))

theorem Kept.linkDown {l st} (h : Kept s t) : Kept s (t.linkDown l st) :=
  .gwLinkLost (.channelsLost (.foldl h.wf.wf.wf.wf.setSl.wf fun _ _ hu => .ite hu.pstate hu))

theorem Kept.linkLost {l} (h : Kept s t) : Kept s (t.linkLost l) :=
  .ite h (.ite h.linkDown.raise.wf.raise (.ite h.linkDown.raise.raise h.linkDown.raise))

theorem Kept.badCell {l} (h : Kept s t) : Kept s (t.badCell l) :=
  .ite h.incE.raise.setSl (.ite h.incE.raise.setSl.raise.linkLost h.incE.raise.setSl.raise.slRetrain)

theorem Kept.cellArrive {l cell} (h : Kept s t) : Kept s (t.cellArrive l cell).2 :=
  .ite_snd h (.ite_snd h.badCell (.ite_snd h (.ite_snd h h.setSl)))

theorem Kept.fwdData {c ws first} (h : Kept s t) : Kept s (t.fwdData c ws first) :=
  .foldl h fun _ _ hu => hu.storeWord.setFwd

theorem Kept.fwdCell {c kind body} (h : Kept s t) : Kept s (t.fwdCell c kind body) := h.setFwd

theorem Kept.rxStore {c id w} (h : Kept s t) : Kept s (t.rxStore c id w) := h.storeWord.setSc

theorem Kept.rxFrame {c} (h : Kept s t) : Kept s (t.rxFrame c).2 := by
  unfold State.rxFrame
  extract_lets
  split
  · exact .ite_snd h.setSc h
  · exact h.setSc

theorem Kept.rxWord {c w} (h : Kept s t) : Kept s (t.rxWord c w) := by
  unfold State.rxWord
  extract_lets _ _ _ _ _ _ _ _ u1 _ _ _ _ _ _ u2 u3 u4
  have h1 : Kept s u1 := .ite_snd (by split; exacts [h.rxFrame, h.rxFrame.freeWord]) h.rxFrame
  have h2 : Kept s u2 := .setSc (.ite h1.owe h1.rxStore)
  have h3 : Kept s u3 := .ite h2.levelNotice h2
  have h4 : Kept s u4 := .ite h3.incE h3
  exact .ite h4.packetNotice h4

theorem Kept.rxWords4 {l c ws} (h : Kept s t) : Kept s (t.rxWords4 l c ws) :=
  .foldl h fun _ _ hu => .ite hu.rxWord hu.slProtocol

theorem Kept.dataCell {l cell} (h : Kept s t) : Kept s (t.dataCell l cell) := by
  unfold State.dataCell
  refine .ite h.slProtocol ?_
  exact .ite (.ite h.setFwd (.ite h.fwdData h.slProtocol)) (.ite h.slProtocol (.ite h.owe h.rxWords4))

theorem Kept.dataArrive {l cell} (h : Kept s t) : Kept s (t.dataArrive l cell) := by
  unfold State.dataArrive
  refine .ite h.cellArrive ?_
  refine .ite h ?_
  split
  · exact .ite h.cellArrive.dataCell h.cellArrive
  · exact .ite h.cellArrive.slProtocol h.cellArrive
  · exact h

theorem Kept.gcmEnd {l cell} (h : Kept s t) : Kept s (t.gcmEnd l cell) := by
  unfold State.gcmEnd
  refine .ite (.ite h h.fwdCell) ?_
  exact .ite h.slProtocol (.ite h (by split; exacts [h.slProtocol, .ite h.setSc h.setSc]))

theorem Kept.rxOpen {l cell} (h : Kept s t) : Kept s (t.rxOpen l cell) :=
  .ite (.ite h.msg h.fwdCell) (.ite h.msg h.setSc.wf.rxView.msg)

theorem Kept.channelRow {l cell m act} (h : Kept s t) (hact : ∀ u, Kept s u → Kept s (act u)) :
    Kept s (channelRow l cell m t act) :=
  .ite h.cellArrive (.ite h (.ite (hact _ h.cellArrive) h.cellArrive))

theorem Kept.closeNow {c} (h : Kept s t) : Kept s (t.closeNow c) := .ite h.msg.wf h

theorem Kept.execOpenAck {l cell} (h : Kept s t) : OutKept s (execOpenAck l cell t) :=
  .next (h.channelRow fun _ hu => .ite hu.setFwd.msg (.ite hu.slProtocol hu.wf.wf.wf.setSc.closeNow))

theorem Kept.openRefused {c cause} (h : Kept s t) : Kept s (t.openRefused c cause) := h.wf.wf.wf.raise

theorem Kept.execClose {l cell} (h : Kept s t) : OutKept s (execClose l cell t) :=
  .next (h.channelRow fun _ hu => .ite hu.fwdCell (.ite hu.slProtocol hu.wf.closeIfEmpty))

theorem Kept.execCredit {l cell} (h : Kept s t) : OutKept s (execCredit l cell t) := by
  unfold Machine.execCredit
  refine .next ?_
  exact h.channelRow fun _ hu => .ite (.ite hu.setFwd hu.slProtocol.slRetrain) (.ite hu.slProtocol (.ite hu.wf
      hu.slProtocol.slRetrain))

theorem Kept.rxDropPartial {c} (h : Kept s t) : Kept s (t.rxDropPartial c) := by
  unfold State.rxDropPartial
  extract_lets
  split
  · exact h
  · exact .ite h (.closeIfEmpty (.rxView (.ite h.setSc h.setSc.owe)))

theorem Kept.execFlush {l cell} (h : Kept s t) : OutKept s (execFlush l cell t) :=
  .next (h.channelRow fun _ hu => .ite hu.fwdCell (.ite hu.slProtocol hu.rxDropPartial))

theorem Kept.keySwitchNow {c} (h : Kept s t) : Kept s (t.keySwitchNow c) := .ite h.msg.wf.wf.wf.setSc.wf h.msg.wf.wf.wf.setSc

theorem Kept.writeKeySwitch {c} (h : Kept s t) : Kept s (t.writeKeySwitch c) :=
  .ite h.wf.wf (.ite h.wf (.ite h.keySwitchNow h.wf))

theorem Kept.txBoundary {c ctr} (h : Kept s t) : Kept s (t.txBoundary c ctr) :=
  .ite h.setSc.keySwitchNow.closeNow (.ite h.setSc.wf.raise h.setSc.closeNow)

theorem Kept.txPut {c w} (h : Kept s t) : Kept s (t.txPut c w) := h.storeWord.setSc

theorem Kept.txWords {c addr ws} (h : Kept s t) : Kept s (t.txWords c addr ws) := by
  unfold State.txWords
  extract_lets u1
  have h1 : Kept s u1 := .foldl h fun _ _ hu => .ite hu hu.regRefuse
  exact .ite h1 (.ite (.foldl h1 fun _ _ hu => hu.txPut) (.ite h1.incE h1.incE.raise))

theorem Kept.scTxWindow {x} (h : Kept s t) : Kept s (t.scTxWindow x) := by
  unfold State.scTxWindow
  refine .ite h ?_
  split
  · exact h
  · next heq => exact .creditBack (.refusedWords (.txWords (h.arrive heq)))

theorem Kept.frameCut {c} (h : Kept s t) : Kept s (t.frameCut c) := h.incE.raise

theorem Kept.writeTxOpen {c} (h : Kept s t) : Kept s (t.writeTxOpen c) :=
  .ite h.wf.raise (.ite h (.ite h.openRefused (.ite h.openRefused h.wf.wf.setSc.msg)))

theorem Kept.writeTxClose {c} (h : Kept s t) : Kept s (t.writeTxClose c) := .ite h.wf.closeNow h

theorem Kept.channelFlush {c} (h : Kept s t) : Kept s (t.channelFlush c) := by
  unfold State.channelFlush
  extract_lets _ _ _ _ _ _ u1
  have h1 : Kept s u1 := .setSc (.ite h.setSc.msg.txBoundary h.setSc)
  exact .closeNow (.wf (.closeIfEmpty (.rxView (.ite h1 h1.owe))))

theorem Kept.txEmpty {c} (h : Kept s t) : Kept s (t.txEmpty c) := .ite h.setSc h

theorem Kept.enableHalf {c tx v} (h : Kept s t) : Kept s (t.enableHalf c tx v) := .ite h (.ite h.wf (.ite h.wf.txEmpty h.wf))

theorem Kept.writeScCtl {c w} (h : Kept s t) : Kept s (t.writeScCtl c w) := by
  unfold State.writeScCtl
  extract_lets _ u1 u2 u3 u4
  have h1 : Kept s u1 := .enableHalf (.enableHalf (.ite h.wf.wf.wf.wf h))
  have h2 : Kept s u2 := .ite h1.writeTxOpen h1
  have h3 : Kept s u3 := .ite h2.writeTxClose h2
  have h4 : Kept s u4 := .ite h3.writeKeySwitch h3
  exact .ite h4.channelFlush h4

theorem Kept.scCtlOut {c w} (h : Kept s t) : Kept s (scCtlOut c w t) := .ite h.writeScCtl h.regRefuse

theorem Kept.writeScBuf {c w acts} (h : Kept s t) : Kept s (t.writeScBuf c w acts) := .ite h.plainWrite h

theorem Kept.writeScNotice {c w} (h : Kept s t) : Kept s (t.writeScNotice c w) := h.wf.wf.wf

theorem Kept.skLoad {k} (h : Kept s t) : Kept s (t.skLoad k) :=
  .ite (.wf (.foldl h fun _ _ hu => hu.wf)) (.wf (.upd (.foldl h fun _ _ hu => hu.wf)))

theorem Kept.writeSkCtl {k w} (h : Kept s t) : Kept s (t.writeSkCtl k w) := .wf (.ite h.plainWrite.skLoad h.plainWrite)

theorem Kept.sendSeq {l kind ch count first body} (h : Kept s t) : Kept s (t.sendSeq l kind ch count first body) :=
  h.setSl.wf.slView

theorem Kept.txPull {c sent n} (h : Kept s t) : Kept s (t.txPull c sent n).2 := by
  induction n generalizing t sent with
  | zero => exact h
  | succ k ih =>
    have h1 : ∀ {slot x}, Kept s ((t.readWord 0 slot .read true).2.2.setSc c x) := h.readWord.setSc
    exact .ite_snd h (.ite_snd (.ite h1.frameCut h1) (ih (.ite h1.frameCut h1)))

theorem Kept.sendData {l c} (h : Kept s t) : Kept s (t.sendData l c) := by
  unfold State.sendData
  extract_lets _ _ _ _ _ _ _ _ _ _ u1
  have h1 : Kept s u1 := h.txPull.wf.sendSeq
  exact .ite (.ite h1.incE.setSc h1.incE.setSc.txBoundary) h1.setSc

theorem Kept.sendFwd {l c} (h : Kept s t) : Kept s (t.sendFwd l c) := by
  unfold State.sendFwd
  extract_lets
  split
  · exact h
  · exact h.setFwd.sendSeq
  · extract_lets _ _ _ _ _ u1
    have h1 : Kept s u1 := .sendSeq (.setFwd (.foldl_snd_snd h fun _ _ hu => .ite_snd_snd hu hu.readWord))
    exact .ite h1.msg h1

theorem Kept.stampBody {l body} (h : Kept s t) : Kept s (t.stampBody l body).2 := by
  unfold State.stampBody
  extract_lets
  split
  · exact h.upd
  · exact h
  · exact h
  · exact h

theorem Kept.sendNext {l} (h : Kept s t) : Kept s (t.sendNext l) := by
  unfold State.sendNext
  refine .ite h.setSl ?_
  refine .ite h.setSl ?_
  split
  · exact h.setSc.sendSeq.txBoundary
  · split
    · exact h.setSc.sendSeq
    · split
      · exact h.setSl.stampBody.sendSeq
      · split
        · exact .ite h.setSl.sendData h.setSl.sendFwd
        · exact h.setSl

theorem Kept.injectLine {l} (h : Kept s t) : Kept s (t.injectLine l) := .foldl h fun _ _ hu => .ite hu hu.setLane.upd

theorem Kept.slotOut {l w} (h : Kept s t) : Kept s (t.slotOut l w) := h.putOnLine.injectLine

theorem Kept.execSlotTransmit {l} (h : Kept s t) : OutKept s (execSlotTransmit l t) :=
  .next (.ite (.slotOut (.foldl h.setSl fun _ _ hu => hu.sendNext)) (.ite h.setSl.setSl.slotOut h))

theorem Kept.writeSlCtl {l w} (h : Kept s t) : Kept s (t.writeSlCtl l w) := by
  unfold State.writeSlCtl
  extract_lets _ _ _ u1 u2
  have h1 : Kept s u1 := .ite (.wf (.wf (.wf (.ite h.wf.wf.linkDown.releaseLanes h.wf.wf)))) h.wf.wf
  have h2 : Kept s u2 := .ite h1.bringUp h1
  exact .ite h (.ite (.ite h2.setSl.wf.slRetrain (.ite h2.bringUp h2)) h2)

theorem Kept.slCtlOut {l w} (h : Kept s t) : Kept s (slCtlOut l w t) := .ite h.writeSlCtl h.regRefuse

theorem Kept.roleBringUp {l} (h : Kept s t) : Kept s (t.roleBringUp l) := .ite (.ite h.wf.bringUp h.wf) h

theorem Kept.roleFirst {role} (h : Kept s t) : Kept s (t.roleFirst role) := by
  unfold State.roleFirst
  split
  · exact .ite h.roleBringUp h
  · exact h

theorem Kept.laneLost {l i} (h : Kept s t) : Kept s (t.laneLost l i) :=
  .ite h (.ite h.setSl.linkLost h.setSl.raise.slRetrain)

theorem Kept.lanesGone {s0} (h : Kept s t) : Kept s (t.lanesGone s0) :=
  .foldl h fun _ _ hu => .foldl hu fun _ _ hv => .ite hv.laneLost hv

theorem Kept.execRetrain {l cell peerGood} (h : Kept s t) : OutKept s (execRetrain l cell peerGood t) := by
  refine .next (.ite h ?_)
  extract_lets -underBinder u1 x full w
  have h1 : Kept s u1 := .linkCtlFields (.ite h.slRetrain h)
  split
  · exact h1.linkLost
  · exact h1.setSl.wf.wf.wf.wf

/-! ### Engines -/

theorem Kept.setCtx {d e x c} (h : Kept s t) : Kept s (t.setCtx d e x c) := h.upd

theorem Kept.setLand {d b x} (h : Kept s t) : Kept s (t.setLand d b x) := h.upd

theorem Kept.claimArrive {d b x} (h : Kept s t) : Kept s (t.claimArrive d b x) := by
  unfold State.claimArrive
  split
  · exact h
  · next heq => exact .setLand (h.arrive heq)

theorem Kept.landBack {d b n} (h : Kept s t) : Kept s (t.landBack d b n) := .ite h.setLand h.raise

theorem Kept.releaseStep {d b l x r k} (h : Kept s r.2) : Kept s (releaseStep d b l x r k).2 :=
  .ite_snd h.landBack h.regRefuse

theorem Kept.releaseAt {d b x} (h : Kept s t) : Kept s (t.releaseAt d b x) := by
  unfold State.releaseAt
  split
  · exact h
  · next heq =>
      extract_lets u1
      have h1 : Kept s u1.2 := .foldl_snd (h.arrive heq) fun _ _ hu => hu.releaseStep
      exact .ite h1.dropWrite h1.creditBack

theorem Kept.streamCredit (h : Kept s t) : Kept s (t.streamCredit) := by
  unfold State.streamCredit
  split
  · exact h
  · extract_lets
    split
    · exact h.upd.landBack
    · exact h.upd

theorem Kept.handBack {d e n addr} (h : Kept s t) : Kept s (t.handBack d e n addr) := .ite h h.post

theorem Kept.ctxDiscard {d e x} (h : Kept s t) : Kept s (t.ctxDiscard d e x) := h.handBack.setCtx.wf

theorem Kept.ctxStop {d e x cause} (h : Kept s t) : Kept s (t.ctxStop d e x cause) := h.ctxDiscard.wf.raiseEv

theorem Kept.descDone {d e x} (h : Kept s t) : Kept s (t.descDone d e x) := h.setCtx.wf

theorem Kept.checkMoved {d e x} (h : Kept s t) : Kept s (t.checkMoved d e x) := .ite h (.ite h.descDone h.setCtx)

theorem Kept.completionWord {d e x} (h : Kept s t) : Kept s (t.completionWord d e x) := h.post.descDone

theorem Kept.ctxRead {d e x kind pos addr len} (h : Kept s t) : Kept s (t.ctxRead d e x kind pos addr len) := by
  unfold State.ctxRead
  split
  · exact h
  · next heq => exact .setCtx (h.request heq)

theorem Kept.ctxWrite {d e x} (h : Kept s t) : Kept s (t.ctxWrite d e x) :=
  .ite h.ctxStop h.inject.upd.setCtx.incE.checkMoved

theorem Kept.descFetch {d e x} (h : Kept s t) : Kept s (t.descFetch d e x) := .ite h.ctxStop h.ctxRead

theorem Kept.ctxIssue {d e x a} (h : Kept s t) : Kept s (t.ctxIssue d e x a) := by
  unfold State.ctxIssue
  extract_lets
  split
  · exact h.descFetch
  · exact h.ctxWrite
  · exact h.ctxRead
  · exact .ite h.ctxRead h.ctxRead.setCtx
  · split
    · exact h.ctxRead.setCtx
    · exact h
  · exact h.completionWord

theorem Kept.execEngineTurn {d e} (h : Kept s t) : OutKept s (execEngineTurn d e t) := by
  unfold Machine.execEngineTurn
  refine .next ?_
  refine .ite h ?_
  split
  · exact h
  · extract_lets
    split
    · exact h
    · extract_lets
      split
      · exact h.upd.ctxIssue
      · exact h.upd

theorem Kept.descArrive {d e x ws} (h : Kept s t) : Kept s (t.descArrive d e x ws) :=
  .ite h.ctxStop (.ite h.ctxStop h.setCtx)

theorem Kept.srcArrive {d e x pos ws prov} (h : Kept s t) : Kept s (t.srcArrive d e x pos ws prov) :=
  .checkMoved (.setCtx (.ite h h.incE))

theorem Kept.engineResponse {d e rtag status ws} (h : Kept s t) : Kept s (t.engineResponse d e rtag status ws) := by
  unfold State.engineResponse
  extract_lets
  split
  · exact h.upd
  · split
    · exact h.upd
    · refine .ite (.incE (.ite h.upd.setCtx.handBack h.upd.setCtx)) ?_
      refine .ite (.ite h.upd.setCtx.handBack h.upd.setCtx) ?_
      refine .ite h.upd.setCtx.ctxStop ?_
      split
      · exact h.upd.setCtx.descArrive
      · exact h.upd.setCtx.srcArrive
      · exact h.upd.setCtx.setCtx
      · exact .ite h.upd.setCtx.completionWord h.upd.setCtx

theorem Kept.writeCtxCtl {d e x w hwClear} (h : Kept s t) : Kept s (t.writeCtxCtl d e x w hwClear) := .wf (.ite h h.wf.wf.wf)

theorem Kept.writeDescBase {d e x w} (h : Kept s t) : Kept s (t.writeDescBase d e x w) := .ite h h.ww

theorem Kept.setInst {i x} (h : Kept s t) : Kept s (t.setInst i x) := h.upd

theorem Kept.instReset {i} (h : Kept s t) : Kept s (t.instReset i) :=
  .foldl (.foldl (.foldl (.foldl h.wf.wf.setInst fun _ _ hu => hu.wf) fun _ _ hu => hu.ctxDiscard) fun _ _ hu =>
      hu.channelFlush) fun _ _ hu => .ite hu hu.beginReset

theorem Kept.writeInstCtl {i w} (h : Kept s t) : Kept s (t.writeInstCtl i w) :=
  .ite (.ite h h.wf) (.ite (.setInst (.wf (.ite h h.wf))) (.instReset (.wf (.ite h h.wf))))

theorem Kept.writeMembers {n i w} (h : Kept s t) : Kept s (t.writeMembers n i w) := .ite h (.ite h.wf h.ww)

theorem Kept.enginesReset (h : Kept s t) : Kept s (t.enginesReset) :=
  .upd (.foldl (.foldl h fun _ _ hu => .foldl hu fun _ _ hv => hv.setReg) fun _ _ hu => .wf (.foldl (.foldl hu fun _ _ hv
      => hv.setReg) fun _ _ hv => hv.wf))

/-! ### Time base and line inputs and outputs -/

theorem Kept.setTb {x} (h : Kept s t) : Kept s (t.setTb x) := h.upd

theorem Kept.slewView (h : Kept s t) : Kept s (t.slewView) := h.ww

theorem Kept.timeMove {d} (h : Kept s t) : Kept s (t.timeMove d) := .ite h.ww.wf.wf.raise h.ww

theorem Kept.tick (h : Kept s t) : Kept s (t.tick) := by
  unfold State.tick
  extract_lets _ _ _ _ _ _ _ _ _ _ _ u1
  have h1 : Kept s u1 := .timeMove (.slewView (.ite h.setTb h.setTb.upd))
  exact .ite h1 h1.timeMove.wf

theorem Kept.writeTbStep {w} (h : Kept s t) : Kept s (t.writeTbStep w) := .ite h h.setTb

theorem Kept.writeTbSlew {w} (h : Kept s t) : Kept s (t.writeTbSlew w) := h.setTb.slewView

theorem Kept.writeTbCtl {w} (h : Kept s t) : Kept s (t.writeTbCtl w) := h.wf.wf.setTb

theorem Kept.setRing {r x} (h : Kept s t) : Kept s (t.setRing r x) := h.upd.wf

theorem Kept.record {r kind source encField at_ src edge time old} (h : Kept s t) :
    Kept s (t.record r kind source encField at_ src edge time old) :=
  .ite h (.ite h.setRing.incE.raise (.wf (.setRing (.ite h h.setTb))))

theorem Kept.writeLevCtl {r w} (h : Kept s t) : Kept s (t.writeLevCtl r w) :=
  .ite (.wf (.setRing (.wf (.ite h.wf.wf h)))) (.wf (.ite h.wf.wf h))

theorem Kept.writeLevDest {r w} (h : Kept s t) : Kept s (t.writeLevDest r w) := .ite h.ww h

theorem Kept.setPin {k x} (h : Kept s t) : Kept s (t.setPin k x) := h.upd

theorem Kept.encFilter {n a b z} (h : Kept s t) : Kept s (t.encFilter n a b z) := h.setPin.setPin.setPin

theorem Kept.encMove {n d} (h : Kept s t) : Kept s (t.encMove n d) := by
  unfold State.encMove
  extract_lets _ _ u1 _ _ _ u2
  have h1 : Kept s u1 := .wf (.ww (.ite h.wf (.ite h.wf h)))
  have h2 : Kept s u2 := .ww (.wf (.ite_snd h1 h1.free))
  exact .ite h2 h2.upd

theorem Kept.encCompare {n} (h : Kept s t) : Kept s (t.encCompare n) := .ite (.ite h.choice.record.wf h.choice.record.ww) h

theorem Kept.encSample {n a b a' b' cmp} (h : Kept s t) : Kept s (t.encSample n a b a' b' cmp) :=
  .ite h.incE.raise (.ite h (.ite h.encMove.encCompare h.encMove))

theorem Kept.encStep {s0 : State} {n cmp} (h : Kept s t) : Kept s (s0.encStep t n cmp) := h.encSample

theorem Kept.execEncoderIndex {n ab z} (h : Kept s t) : OutKept s (execEncoderIndex n ab z t) := by
  unfold Machine.execEncoderIndex
  extract_lets _ _ u1
  have h1 : Kept s u1 := h.encFilter.ww.wf.encStep
  exact .next (.ite h (.ite (.record (.ite h1.ww h1)) (.ite h1.ww h1)))

theorem Kept.writeEncCtl {n w acts} (h : Kept s t) : Kept s (t.writeEncCtl n w acts) := h.plainWrite

theorem Kept.pdEdge {n rising x} (h : Kept s t) : Kept s (t.pdEdge n rising x) :=
  .ite h.incE (.ite (.ite h.ww.incE.record h.ww.incE.record.upd) h)

theorem Kept.gpioEdge {p rising x} (h : Kept s t) : Kept s (t.gpioEdge p rising x) := .ite h.ww.record h.ww

theorem Kept.noteGpio {q} (h : Kept s t) : Kept s (t.noteGpio q) := .ite h.upd h

theorem Kept.setGpioOut {q v} (h : Kept s t) : Kept s (t.setGpioOut q v) := h.ww.noteGpio

theorem Kept.setGpioOe {q v} (h : Kept s t) : Kept s (t.setGpioOe q v) := h.ww.noteGpio

theorem Kept.writeGpioCfg {p w acts} (h : Kept s t) : Kept s (t.writeGpioCfg p w acts) := h.plainWrite

theorem Kept.setTile {n x} (h : Kept s t) : Kept s (t.setTile n x) := h.upd

theorem Kept.writeCtCtl {n w} (h : Kept s t) : Kept s (t.writeCtCtl n w) := by
  unfold State.writeCtCtl
  extract_lets _ _ u1
  have h1 : Kept s u1 := .ite (.ite h.wf h) (.wf (.ite h.wf h))
  exact .ite h1.wf.setTile (.ite h1 (.ite h1.wf.setTile h1.wf))

theorem Kept.writeCtSched {nm n w acts} (h : Kept s t) : Kept s (t.writeCtSched nm n w acts) := .ite h h.plainWrite

theorem Kept.noteTile {n} (h : Kept s t) : Kept s (t.noteTile n) := .ite h.setTile h

theorem Kept.dacDrive {n x} (h : Kept s t) : Kept s (t.dacDrive n x) := h.setTile.noteTile

theorem Kept.tileWord {n tag} (h : Kept s t) : Kept s (t.tileWord n tag) := .ite h.ww.setTile h.ww.setTile.incE.raise

theorem Kept.execConversionComplete {n code ovr} (h : Kept s t) : OutKept s (execConversionComplete n code ovr t) := by
  unfold Machine.execConversionComplete
  extract_lets _ _ _ u1
  have h1 : Kept s u1 := .ite h.wf.setTile.incE.raise h.wf.setTile
  exact .next (.ite h (.ite h1.tileWord (.ite h1.tileWord h1)))

/-! ### Caben: packets and replies -/

theorem Kept.setCab {c} (h : Kept s t) : Kept s (t.setCab c) := h.upd

theorem Kept.setCfg {c} (h : Kept s t) : Kept s (t.setCfg c) := h.upd

theorem Kept.udpSend {peer pkt} (h : Kept s t) : Kept s (t.udpSend peer pkt) :=
  .ite h.setCab (by split; exacts [h, .ite h.setCab.wf.raise h.setCab])

theorem Kept.saPump (h : Kept s t) : Kept s (t.saPump) := by
  unfold State.saPump
  split
  · exact h
  · exact .ite h.setCab.txWords h

theorem Kept.cabSend {tr peer pkt} (h : Kept s t) : Kept s (t.cabSend tr peer pkt) := by
  unfold State.cabSend
  split
  · exact h.setCab
  · split
    · exact .ite h.udpSend h
    · exact h
  · exact h.setCab.saPump
  · exact h

theorem Kept.cabKeep {tr tag pkt} (h : Kept s t) : Kept s (t.cabKeep tr tag pkt) := h.setCab

theorem Kept.cabAnswer {tr tag op peer status detail data} (h : Kept s t) :
    Kept s (t.cabAnswer tr tag op peer status detail data) := .ite h.cabSend.cabKeep.incE h.cabSend.cabKeep

theorem Kept.cabFinish {p status detail data} (h : Kept s t) : Kept s (t.cabFinish p status detail data) :=
  .ite h.setCab h.setCab.cabAnswer

theorem Kept.setPkt {p} (h : Kept s t) : Kept s (t.setPkt p) := h.setCab

theorem Kept.cabLoadEnd {cause} (h : Kept s t) : Kept s (t.cabLoadEnd cause) := by
  unfold State.cabLoadEnd
  split
  · exact h
  · exact .ite h.cabFinish h.cabFinish

theorem Kept.cabJobEnd {owner status detail} (h : Kept s t) : Kept s (t.cabJobEnd owner status detail) := by
  unfold State.cabJobEnd
  split
  · exact h
  · exact h.cabFinish

/-! ### Outputs -/

theorem Kept.noteOutputs (h : Kept s t) : Kept s (t.noteOutputs) :=
  .foldl (.noteGpio (.noteGpio (.foldl h fun _ _ hu => .foldl hu fun _ _ hv => hv.noteDio))) fun _ _ hu => hu.noteTile

theorem Kept.setOutEn {on} (h : Kept s t) : Kept s (t.setOutEn on) :=
  .ite (.noteOutputs (.wf (.ite h h.noteOutputs))) (.wf (.ite h h.noteOutputs))

/-! ### Joined devices and the gateway -/

theorem Kept.sysPush {l body} (h : Kept s t) : Kept s (t.sysPush l body) := .ite h.setSl h

theorem Kept.sysFront {l body} (h : Kept s t) : Kept s (t.sysFront l body) := .ite h.setSl h

theorem Kept.systemRow {l cell code act} (h : Kept s t) (hact : ∀ body u, Kept s u → Kept s (act body u)) :
    Kept s (systemRow l cell code t act) :=
  .ite h.cellArrive (.ite h (.ite h.cellArrive (.ite h.cellArrive.slProtocol (hact _ _ h.cellArrive))))

theorem Kept.writeRoute {k w} (h : Kept s t) : Kept s (t.writeRoute k w) := h.ww

theorem Kept.writeJdTimeCtl {w acts} (h : Kept s t) : Kept s (t.writeJdTimeCtl w acts) := h.plainWrite

theorem Kept.writeChFwd {c w acts} (h : Kept s t) : Kept s (t.writeChFwd c w acts) :=
  .ite h (.ite h.plainWrite.setFwd h.plainWrite)

theorem Kept.setGw {g} (h : Kept s t) : Kept s (t.setGw g) := h.upd

theorem Kept.setSlots {l cls kind n} (h : Kept s t) : Kept s (t.setSlots l cls kind n) := h.setGw

theorem Kept.gwFree {x} (h : Kept s t) : Kept s (t.gwFree x) := .ite h.sysPush h

theorem Kept.gwSend {l x} (h : Kept s t) : Kept s (t.gwSend l x) := .foldl h.setSlots fun _ _ hu => hu.sysPush

theorem Kept.unreachable {dev} (h : Kept s t) : Kept s (t.unreachable dev) := h.incE.raise

theorem Kept.gwAnswer {x status} (h : Kept s t) : Kept s (t.gwAnswer x status) := by
  unfold State.gwAnswer
  refine .ite h.gwFree ?_
  split
  · exact h.gwFree
  · exact .ite (.setGw (.ite h.gwFree.trnRecord.incE.trnRaise h.gwFree.trnRecord)) h.gwFree.dropWrite

theorem Kept.gwDeliver {x} (h : Kept s t) : Kept s (t.gwDeliver x) := by
  unfold State.gwDeliver
  extract_lets
  split
  · exact h.gwFree
  · exact h.gwFree.setGw.respond

theorem Kept.gwIssue {x u} (h : Kept s t) (he : t.gwIssue x = some u) : Kept s u := by
  unfold State.gwIssue at he
  dsimp only at he
  split at he
  · cases he; exact h.gwFree
  · split at he
    · obtain ⟨_, _, hu⟩ := Option.map_eq_some_iff.mp he
      cases hu; exact h.inject.upd.setGw.gwFree
    · cases he; exact h.inject.gwFree

theorem Kept.gwPass {x u} (h : Kept s t) (he : t.gwPass x = some u) : Kept s u := by
  unfold State.gwPass at he
  extract_lets dest l at he
  split at he
  · split at he
    · cases he; exact h.gwDeliver
    · exact h.gwIssue he
  · split at he
    · cases he; exact h.unreachable.gwAnswer
    · split at he
      · cases he; exact h.incE.raise.gwAnswer
      · split at he
        · cases he
        · split at he
          · cases he; exact h.incE.gwSend.gwFree
          · cases he; exact h.gwSend

theorem Kept.gwPump (h : Kept s t) : Kept s (t.gwPump) := .setGw (.foldl_snd h.setGw fun _ _ hu => .ite_snd hu (by
    split
    · exact hu
    · next heq => exact hu.gwPass heq))

theorem Kept.gwTake {x u} (h : Kept s t) (he : t.gwTake x = some u) : Kept s u := by
  unfold State.gwTake at he
  dsimp only at he
  split at he
  · cases he
  · split at he
    · cases he; exact .ite h.unreachable.setGw.reject h.unreachable.setGw.abortTxn
    · split at he
      · cases he
      · split at he
        · obtain ⟨_, _, hu⟩ := Option.map_eq_some_iff.mp he
          cases hu; exact h.setGw.gwSend.setGw
        · cases he; exact h.setGw.gwSend.creditBack

theorem Kept.execGatewayAccept (h : Kept s t) : OutKept s (execGatewayAccept t) := by
  unfold Machine.execGatewayAccept
  extract_lets pick
  cases hp : pick with
  | none => exact .next h
  | some u =>
    obtain ⟨k, -, hk⟩ := List.exists_of_findSome?_eq_some hp
    split at hk
    · cases hk
    · split at hk
      · cases hk
      · exact .next (h.gwTake hk)

theorem Kept.gwCell {l body resp} (h : Kept s t) : Kept s (t.gwCell l body resp) :=
  .ite (.ite h.setGw.gwFree h.setGw.setGw.gwPump) h.setGw

theorem Kept.execGwCredit {l cell} (h : Kept s t) : OutKept s (execGwCredit l cell t) :=
  .next (h.systemRow fun _ _ hu => .ite hu.slProtocol (.ite hu.slProtocol hu.setSlots.gwPump))

theorem Kept.gwResponse {rtag status ws} (h : Kept s t) : Kept s (t.gwResponse rtag status ws) := by
  unfold State.gwResponse
  split
  · exact h
  · exact h.setGw.gwPump

theorem Kept.execTimeResp {l cell} (h : Kept s t) : OutKept s (execTimeResp l cell t) := by
  unfold Machine.execTimeResp
  refine .next ?_
  exact h.systemRow fun _ _ hu => by
    split
    · exact hu
    · extract_lets _ _ _ _ _ _ _ _ u1
      have h1 : Kept s u1 := hu.choice.choice.ww.ww.upd
      exact .ite hu (.ite h1.wf.wf.raise (.ite h1.wf h1))

/-! ### Duplex pairs and racks -/

theorem Kept.setDup {d} (h : Kept s t) : Kept s (t.setDup d) := h.upd

theorem Kept.becomeActive {st} (h : Kept s t) : Kept s (t.becomeActive st) := h.wf.wf.wf.setDup

theorem Kept.loseActive (h : Kept s t) : Kept s (t.loseActive) := h.setOutEn.wf.wf.setDup

theorem Kept.dropHalf (h : Kept s t) : Kept s (t.dropHalf) := h.wf.setDup

theorem Kept.becomeStandby (h : Kept s t) : Kept s (t.becomeStandby) := h.wf.setDup

theorem Kept.yieldNow (h : Kept s t) : Kept s (t.yieldNow) := h.loseActive.dropHalf.wf.ww.setDup

theorem Kept.dualActive (h : Kept s t) : Kept s (t.dualActive) := .ite h.yieldNow.raise h

theorem Kept.elect {peerPrimary} (h : Kept s t) : Kept s (t.elect peerPrimary) :=
  .ite (.ite h.dualActive h.becomeStandby) (.ite h.wf (.ite h.becomeActive h.becomeStandby))

theorem Kept.linkIsUp {l peerPrimary} (h : Kept s t) : Kept s (t.linkIsUp l peerPrimary) :=
  .ite h.wf.wf.wf.wf.elect (.ite h.wf.wf.wf.upd h.wf.wf.wf)

theorem Kept.execHello {l cell rx} (h : Kept s t) : OutKept s (execHello l cell rx t) := by
  unfold Machine.execHello
  extract_lets _ _ _ _ u1
  have h1 : Kept s u1 := h.linkCtlFields.wf.wf.setSl
  refine .next ?_
  refine .ite h ?_
  refine .ite h ?_
  exact .ite h.incE.raise (.ite h1 (.ite h1 (.ite h1.linkDown.raise (.ite h1.linkDown.raise h1.linkIsUp))))

theorem Kept.execLinkCtl {l cell} (h : Kept s t) : OutKept s (execLinkCtl l cell t) := by
  unfold Machine.execLinkCtl
  extract_lets _ u1
  have h1 : Kept s u1 := h.cellArrive.linkCtlFields
  exact .next (.ite h.cellArrive (.ite h (.ite (.ite h1.wf.dualActive h1.wf) h1)))

theorem Kept.dupNotice {kind epoch} (h : Kept s t) : Kept s (t.dupNotice kind epoch) := h.post

theorem Kept.eventAll {p} (h : Kept s t) : Kept s (t.eventAll p) := .foldl h fun _ _ hu => .foldl hu fun _ _ hv => hv.setEvt

theorem Kept.execRackingCut (h : Kept s t) : OutKept s (execRackingCut t) :=
  .next (.ite h (.ite h.setDup.incE.raise (.ite h.setDup.eventAll.dupNotice h.setDup.eventAll)))

theorem Kept.sendRack {r off ws} (h : Kept s t) : Kept s (t.sendRack r off ws) := .setDup (.foldl h fun _ _ hu => hu.sysPush)

theorem Kept.rackStep {fuel} (h : Kept s t) : Kept s (t.rackStep fuel) := by
  induction fuel generalizing t with
  | zero => exact h
  | succ n ih =>
    unfold State.rackStep
    split
    · exact h.sysPush.wf.setDup
    · refine .ite (ih h.setDup) (.ite (ih h.sendRack.setDup) ?_)
      split
      · exact h
      · next heq => exact (h.request heq).setDup

theorem Kept.rackResponse {rtag status ws} (h : Kept s t) : Kept s (t.rackResponse rtag status ws) :=
  .ite (by split; exacts [h, h.sendRack.setDup.rackStep]) (by split; exacts [h, h.setDup])

theorem Kept.execRackCommit {l cell} (h : Kept s t) : OutKept s (execRackCommit l cell t) := by
  unfold Machine.execRackCommit
  refine .next ?_
  exact h.systemRow fun _ _ hu => .ite hu (.foldl hu.setDup fun _ _ hv => by
    split
    · exact hv
    · next heq => exact .setDup (hv.request heq))

theorem Kept.rackAck {epoch good} (h : Kept s t) : Kept s (t.rackAck epoch good) := h.sysPush

theorem Kept.execRackingCommitComplete (h : Kept s t) : OutKept s (execRackingCommitComplete t) := by
  unfold Machine.execRackingCommitComplete
  refine .next ?_
  split
  · exact h
  · exact .ite h (.ite h.wf.ww.ww.wf.incE.setDup.dropHalf.rackAck h.setDup.dropHalf.incE.raiseEv.dupNotice.rackAck)

theorem Kept.doYield (h : Kept s t) : Kept s (t.doYield) := .ite h.sysFront.wf.incE.yieldNow h

theorem Kept.takeover (h : Kept s t) : Kept s (t.takeover) := by
  unfold State.takeover
  extract_lets _ u1 u2 _ _ _ u3
  have h1 : Kept s u1 := h.dropHalf.becomeActive
  have h2 : Kept s u2 := .ite h1.setOutEn h1
  have h3 : Kept s u3 := .wf (.raise (.incE (.ww (.dupNotice (.eventAll (.ite h2 h2.ww))))))
  exact .ite h (.ite h3 h3.raise)

theorem Kept.execHeartbeat {l cell} (h : Kept s t) : OutKept s (execHeartbeat l cell t) := by
  unfold Machine.execHeartbeat
  refine .next ?_
  exact h.systemRow fun _ _ hu => .ite (.ite hu.wf.dualActive hu.wf) (.ite hu.wf.wf.setDup.takeover hu.wf.wf.setDup)

theorem Kept.writeDupCtl {w hwClear} (h : Kept s t) : Kept s (t.writeDupCtl w hwClear) := h.plainWrite

/-! ### Sequencer cores -/

theorem Kept.setCore {d c x} (h : Kept s t) : Kept s (t.setCore d c x) := h.upd

theorem Kept.setG {d c k w} (h : Kept s t) : Kept s (t.setG d c k w) := h.setReg

theorem Kept.setSr {d c k v} (h : Kept s t) : Kept s (t.setSr d c k v) := h.ww

theorem Kept.setSeqPc {d c pc} (h : Kept s t) : Kept s (t.setSeqPc d c pc) := h.wf.ww

theorem Kept.addCycles {d c n} (h : Kept s t) : Kept s (t.addCycles d c n) := h.setSr

theorem Kept.coreHalt {d c cause} (h : Kept s t) : Kept s (t.coreHalt d c cause) := h.wf.wf.wf.wf.setCore

theorem Kept.bpHalt {d c n} (h : Kept s t) : Kept s (t.bpHalt d c n) := h.wf.coreHalt

theorem Kept.boundary {d c} (h : Kept s t) : Kept s (t.boundary d c) := by
  unfold State.boundary
  extract_lets
  split
  · exact h.bpHalt
  · exact .ite h.coreHalt (.ite (by split; exacts [h.bpHalt, h.coreHalt]) (.ite h.coreHalt h.wf.setCore))

theorem Kept.seqDone {d c pc cycles} (h : Kept s t) : Kept s (t.seqDone d c pc cycles) := h.setSeqPc.addCycles.boundary

theorem Kept.seqEntry {d c v} (h : Kept s t) : Kept s (t.seqEntry d c v) := h.setSr.setSr.setSr.setSr.seqDone

theorem Kept.seqException {d c v} (h : Kept s t) : Kept s (t.seqException d c v) :=
  .ite h.raise.raise.coreHalt h.raise.seqEntry

theorem Kept.seqInterrupt {d c v} (h : Kept s t) : Kept s (t.seqInterrupt d c v) := h.setSr.seqEntry.setCore

theorem Kept.setPend {d c v} (h : Kept s t) : Kept s (t.setPend d c v) := .ite h.setSr.addCycles.wf h.setSr

theorem Kept.fetch {d c} (h : Kept s t) : Kept s (t.fetch d c) := h.readWord

theorem Kept.wsr {d c k v} (h : Kept s t) : Kept s (t.wsr d c k v) := by
  unfold State.wsr
  split
  · exact h.setSr
  · exact h.setSr
  · exact h.setSr
  · exact h.setSr.setCore
  · exact h.setSr.setCore
  · exact h.setSr
  · exact h.setSr
  · exact h

theorem Kept.setT {d c x} (h : Kept s t) : Kept s (t.setT d c x) := h.setSr

theorem Kept.alu {d c op rd r f} (h : Kept s t) : Kept s (t.alu d c op rd r f) :=
  .seqDone (.setSr (by split; exacts [h.setG, h]))

theorem Kept.load {d c op rd r} (h : Kept s t) : Kept s (t.load d c op rd r) := h.setG.seqDone

theorem Kept.block {d c w} (h : Kept s t) : Kept s (t.block d c w) := h.wf.setCore

theorem Kept.unblock {d c} (h : Kept s t) : Kept s (t.unblock d c) := h.incE.setCore.seqDone

theorem Kept.noteBp {d c kind addr} (h : Kept s t) : Kept s (t.noteBp d c kind addr) := h.setCore

theorem Kept.blocking {d c op rd addr ws} (h : Kept s t) : Kept s (t.blocking d c op rd addr ws) := by
  unfold State.blocking
  split
  · exact h
  · next heq => exact .block (.noteBp (h.request heq))

theorem Kept.stg {d c addr w} (h : Kept s t) : Kept s (t.stg d c addr w) := .ite h.noteBp.setCore.seqDone h.noteBp.block

theorem Kept.seqWait {d c} (h : Kept s t) : Kept s (t.seqWait d c) := .ite h.seqDone h.setSeqPc.addCycles.wf.setCore

theorem Kept.seqExec {d c w op} (h : Kept s t) : Kept s (t.seqExec d c w op) := by
  unfold State.seqExec
  extract_lets
  split
  · exact h.seqDone
  · exact h.alu
  · exact h.alu
  · exact h.alu
  · exact h.alu
  · exact h.alu
  · exact h.alu
  · exact h.alu
  · exact h.alu
  · exact h.alu
  · exact h.alu
  · exact h.alu
  · exact h.alu
  · exact h.alu
  · exact h.alu
  · exact h.alu
  · exact h.alu
  · exact h.alu
  · exact h.alu
  · exact h.alu
  · exact h.load
  · exact h.load
  · exact h.readWord.noteBp.setT.load
  · exact h.noteBp.storeWord.seqDone
  · exact h.blocking
  · exact h.stg
  · exact h.blocking
  · exact h.blocking
  · exact h.noteBp.narrowWord.seqDone
  · exact .ite h.seqDone h.block
  · exact h.load
  · exact h.setReg.seqDone
  · exact h.load
  · exact h.wsr.seqDone
  · exact h.seqDone
  · exact h.setG.seqDone
  · exact h.seqDone
  · exact h.seqDone
  · exact h.setSr.seqDone
  · exact h.seqWait
  · exact h.setSeqPc.addCycles.coreHalt
  · exact h.setSeqPc.addCycles.coreHalt

theorem Kept.seqRow {d c op} (h : Kept s t) : Kept s (t.seqRow d c op) := by
  unfold State.seqRow
  split
  · exact .ite (by split; exacts [h.bpHalt, h.fetch.seqExec]) h
  · exact h

theorem Kept.seqBad {d c f v} (h : Kept s t) : Kept s (t.seqBad d c f v) :=
  .ite (by split; exacts [h.bpHalt, h.fetch.seqException]) h

theorem Kept.writeDoorbell {d c v w} (h : Kept s t) : Kept s (t.writeDoorbell d c v w) :=
  .ite h.ww.setPend.wf.raise h.ww.setPend

theorem Kept.cyclesFromNow (h : Kept s t) : Kept s (t.cyclesFromNow) :=
  .foldl h fun _ _ hu => .foldl hu fun _ _ hv => hv.setCore

theorem Kept.resetReg {n d i j} (h : Kept s t) : Kept s (t.resetReg n d i j) := h.setReg

theorem Kept.coreClear {d c run} (h : Kept s t) : Kept s (t.coreClear d c run) := by
  unfold State.coreClear
  extract_lets _ _ _ _ _ _ _ u1
  have h1 : Kept s u1 := .setCore (.foldl (.foldl (.foldl (.foldl (.foldl (.foldl h fun _ _ hu => hu.resetReg) fun _ _ hu =>
      hu.resetReg) fun _ _ hu => hu.resetReg) fun _ _ hu => hu.resetReg) fun _ _ hu => hu.resetReg) fun _ _ hu =>
      hu.resetReg.resetReg)
  exact .ite h1.wf.wf h1

theorem Kept.coreResetNow {d c} (h : Kept s t) : Kept s (t.coreResetNow d c) := by
  unfold State.coreResetNow
  extract_lets
  split
  · exact h
  · exact .ite h.coreClear h
  · exact h

theorem Kept.coreReset {d c run} (h : Kept s t) : Kept s (t.coreReset d c run) := h.setCore.coreResetNow

theorem Kept.execStoreQueueIssue {d c} (h : Kept s t) : OutKept s (execStoreQueueIssue d c t) := by
  unfold Machine.execStoreQueueIssue
  refine .next ?_
  split
  · exact h
  · refine .ite h.post.setCore.coreResetNow ?_
    split
    · exact h.post.setCore.setCore.unblock
    · exact .ite h.post.setCore.unblock h.post.setCore
    · exact h.post.setCore

theorem Kept.coreResponse {d c rtag status ws} (h : Kept s t) : Kept s (t.coreResponse d c rtag status ws) := by
  unfold State.coreResponse
  extract_lets
  split
  · exact .ite h (.ite h.setCore.coreResetNow (.unblock (.setT (.setG (.ite h h.wf)))))
  · exact h

/-- The functions whose results the step matches on stand abstract in this proof: the kernel would evaluate them. -/
theorem Kept.seqStep {d c} (h : Kept s t) : Kept s (t.seqStep d c) := by
  obtain ⟨bit, hbit⟩ : ∃ f, f = @State.rb := ⟨_, rfl⟩
  obtain ⟨peek, hpeek⟩ : ∃ f, f = State.peekFetch := ⟨_, rfl⟩
  obtain ⟨step, hstep⟩ : ∃ f, f = State.seqStep := ⟨_, rfl⟩
  rw [← hstep]
  delta State.seqStep at hstep
  rw [hstep, ← hbit, ← hpeek]
  beta_reduce
  extract_lets n u0 _ u1 f u2
  have h1 : Kept s u1 := h.addCycles.wf.wf.setCore
  have h2 : Kept s u2 := h1.fetch
  clear_value f
  split
  · exact h1.seqInterrupt
  · split
    · exact h2.seqExec
    · exact h2.seqException
    · exact h2.seqException

theorem Kept.seqHaltReq {d c} (h : Kept s t) : Kept s (t.seqHaltReq d c) :=
  .ite (by split; exacts [h.bpHalt, h.coreHalt]) (.ite h.addCycles.coreHalt h.wf.setCore)

theorem Kept.seqFaultHalt {d c} (h : Kept s t) : Kept s (t.seqFaultHalt d c) :=
  .ite h (.ite h.wf.setCore (.ite h.addCycles.coreHalt h.coreHalt))

theorem Kept.coreStart {d c} (h : Kept s t) : Kept s (t.coreStart d c) := h.addCycles.wf.wf.setCore

theorem Kept.countHalted {d c} (h : Kept s t) : Kept s (t.countHalted d c) := h.addCycles.setCore

theorem Kept.writeSeqCtl {d c w hwHalt} (h : Kept s t) : Kept s (t.writeSeqCtl d c w hwHalt) := by
  unfold State.writeSeqCtl
  extract_lets _ _ u1
  have h1 : Kept s u1 := .wf (.ite h.countHalted.wf h)
  refine .ite h1.wf.coreReset ?_
  refine .ite h1 ?_
  exact .ite (.ite h1.coreStart (.ite h1.seqStep h1)) (.ite h1 (.ite h1.seqHaltReq (.ite h1 h1.wf.setCore)))

theorem Kept.seqCtlOut {d c w hwHalt} (h : Kept s t) : Kept s (seqCtlOut d c w hwHalt t) := .ite h.writeSeqCtl h.regRefuse

theorem Kept.memAddrStep {d c} (h : Kept s t) : Kept s (t.memAddrStep d c) := h.wf

theorem Kept.readMemData {d c} (h : Kept s t) : Kept s (t.readMemData d c).2 := .ite_snd h.wf h.readWord.wf.wf.ww.memAddrStep

theorem Kept.writeMemData {d c w} (h : Kept s t) : Kept s (t.writeMemData d c w) := .ite h h.storeWord.ww.memAddrStep

theorem Kept.writeSeqReg {n d c j w} (h : Kept s t) : Kept s (t.writeSeqReg n d c j w) :=
  .ite h (by split; exacts [h.setSeqPc, h.wsr, h.ww])

/-! ### Fault management -/

theorem Kept.setFm {f} (h : Kept s t) : Kept s (t.setFm f) := h.upd

theorem Kept.setFmSrc {n x} (h : Kept s t) : Kept s (t.setFmSrc n x) := h.setFm

theorem Kept.setFmWaiting {n l} (h : Kept s t) : Kept s (t.setFmWaiting n l) := h.setFm

theorem Kept.logRec {mk} (h : Kept s t) : Kept s (t.logRec mk).2 := by
  unfold State.logRec
  refine .ite_snd h.setFm ?_
  refine .ite_snd ?_ (.ite h.incE h.incE.raise)
  split
  · exact .ite h.incE h.incE.raise
  · exact .ite h.setFm.incE h.setFm.incE.raise

theorem Kept.forceTaken {e} (h : Kept s t) : Kept s (t.forceTaken e) := .ite h.wf h

theorem Kept.execFaultEvent {k} (h : Kept s t) : OutKept s (execFaultEvent k t) := by
  unfold Machine.execFaultEvent
  refine .next ?_
  split
  · exact h
  · refine .ite h.upd.incE.forceTaken ?_
    split
    · exact h.upd.incE.incE.forceTaken.upd
    · exact .ite h.upd.incE.setFmWaiting h.upd.incE.setFmSrc.forceTaken

theorem Kept.reactRetry {k die unit} (h : Kept s t) : Kept s (t.reactRetry k die unit) := by
  unfold State.reactRetry
  split
  · exact .ite h.retrain h
  · exact .ite h.wf h
  · exact .ite h.writeMacCtl h
  · exact .ite h.dramTrain h
  · exact .ite h.bringUp h
  · exact .ite h.writeTxOpen h
  · exact .ite h.wf h
  · exact h

theorem Kept.reactRetire {k die unit} (h : Kept s t) : Kept s (t.reactRetire k die unit) := by
  unfold State.reactRetire
  split
  · exact .ite h.wf.retire h
  · exact .ite h.retireLane.lanesGone h
  · exact .ite h.writeMacCtl h
  · exact .ite h.dramRetire h
  · exact .ite (.ite h.setFm h.setFm.linkDown) h
  · exact .ite h.channelFlush.wf.wf h
  · exact .ite h.wf h
  · exact h

theorem Kept.reactReset {k die unit root} (h : Kept s t) : Kept s (t.reactReset k die unit root) := by
  unfold State.reactReset
  split
  · exact .ite h.beginReset h
  · exact .ite h.seqFaultHalt h
  · exact h

theorem Kept.safeState (h : Kept s t) : Kept s (t.safeState) := h.setOutEn.setDup

theorem Kept.askReset {cause} (h : Kept s t) : Kept s (t.askReset cause) := .ite h h.upd

theorem Kept.react {n sev kind count e mask} (h : Kept s t) : Kept s (t.react n sev kind count e mask) := by
  unfold State.react
  extract_lets _ _ _ _ _ u1 _ _ u2 u3 u4 u5 u6
  have h1 : Kept s u1.2 := .ite_snd h.logRec h
  have h2 : Kept s u2.2 := .ite_snd h1.upd h1
  have h3 : Kept s u3 := .ite h2.post h2
  have h4 : Kept s u4 := .ite h3.safeState h3
  have h5 : Kept s u5 := .ite h4.reactRetry h4
  have h6 : Kept s u6 := .ite h5.reactRetire h5
  exact .ite h3.askReset (.ite h6.reactReset h6)

theorem Kept.classify {n e} (h : Kept s t) : Kept s (t.classify n e) :=
  .ite h.wf.wf.setFmSrc.wf.wf.react (.ite h.wf.wf.setFmSrc.wf.wf.reactRetry h.wf.wf.setFmSrc.wf.wf)

theorem Kept.execFaultClassify (h : Kept s t) : OutKept s (execFaultClassify t) := by
  unfold Machine.execFaultClassify
  refine .next ?_
  split
  · exact h
  · extract_lets
    split
    · exact h
    · exact .ite h.setFmWaiting.forceTaken.setFm.classify h.setFmWaiting.forceTaken.setFm

theorem Kept.fmClear {n} (h : Kept s t) : Kept s (t.fmClear n) := h.wf.wf.wf.wf

theorem Kept.forceEv {n} (h : Kept s t) : Kept s (t.forceEv n) := h.wf.raiseEv

theorem Kept.writeSrcCtl {n w busy} (h : Kept s t) : Kept s (t.writeSrcCtl n w busy) := by
  unfold State.writeSrcCtl
  extract_lets _ _ u1 u2
  have h1 : Kept s u1 := h.wf.wf.wf.wf.wf.wf
  have h2 : Kept s u2 := .ite h1.fmClear h1
  exact .ite h2.forceEv h2

theorem Kept.srcCtlOut {n w busy} (h : Kept s t) : Kept s (srcCtlOut n w busy t) := .ite h (.ite h.writeSrcCtl h.regRefuse)

theorem Kept.writeLogCtl {w} (h : Kept s t) : Kept s (t.writeLogCtl w) := .ite h.setFm h

theorem Kept.fmReset (h : Kept s t) : Kept s (t.fmReset) := .upd (.foldl h fun _ _ hu => hu.fmClear)

/-! ### Flash and its journal -/

theorem Kept.flashProgram {a bs} (h : Kept s t) : Kept s (t.flashProgram a bs) := h.setCfg

theorem Kept.flashErase {a} (h : Kept s t) : Kept s (t.flashErase a) := h.setCfg

theorem Kept.setErase {i n} (h : Kept s t) : Kept s (t.setErase i n) := .ite h.setCfg.wf h.setCfg

theorem Kept.retireFull {i} (h : Kept s t) : Kept s (t.retireFull i) := .ite h.wf.raise h

theorem Kept.journalPut {ty slot addr crc} (h : Kept s t) : Kept s (t.journalPut ty slot addr crc) := h.flashProgram.setCfg

theorem Kept.journalSector (h : Kept s t) : Kept s (t.journalSector) :=
  .foldl (.ite (.ite h.flashErase.setErase.retireFull h.flashErase) h) fun _ _ hu => hu.journalPut

theorem Kept.journal {ty addr crc} (h : Kept s t) : Kept s (t.journal ty addr crc) := by
  unfold State.journal
  extract_lets _ u1 u2
  have h1 : Kept s u1 := .ite h.setCfg h
  have h2 : Kept s u2 := .ite h1.journalSector h1
  exact .ite h1 (.ite h2.journalPut h2.free.journalPut)

theorem Kept.rebuildCounts (h : Kept s t) : Kept s (t.rebuildCounts) :=
  .foldl h fun _ _ hu => .ite hu.setErase (.ite (.ite hu.setErase hu) hu)

theorem Kept.eraseBegin {a} (h : Kept s t) : Kept s (t.eraseBegin a) := .ite h.journal.setErase h.journal

theorem Kept.journalResolve (h : Kept s t) : Kept s (t.journalResolve) := by
  unfold State.journalResolve
  split
  · exact h
  · refine .ite (.ite h.journal (.ite h.flashProgram.journal.raise (.ite h h.flashProgram.journal.raise))) ?_
    exact .ite h h.eraseBegin.flashErase.journal.retireFull

theorem Kept.softView (h : Kept s t) : Kept s (t.softView) := .ite h.wf h

theorem Kept.nvView (h : Kept s t) : Kept s (t.nvView) := h.wf

theorem Kept.addJob {ops owner} (h : Kept s t) : Kept s (t.addJob ops owner) := h.setCfg.nvView

theorem Kept.endJob {j status detail} (h : Kept s t) : Kept s (t.endJob j status detail) :=
  h.setCfg.nvView.softView.cabJobEnd

theorem Kept.refuseJob {j detail} (h : Kept s t) : Kept s (t.refuseJob j detail) := h.endJob.raise

theorem Kept.opBegin {j op} (h : Kept s t) : Kept s (t.opBegin j op) := h.setCfg.nvView

theorem Kept.opDone {a} (h : Kept s t) : Kept s (t.opDone a) := by
  unfold State.opDone
  extract_lets _ _ u1
  have h1 : Kept s u1 := h.journal.setCfg
  split
  · exact h1.nvView
  · exact .ite h1.setCfg.endJob h1.setCfg.nvView

theorem Kept.execFlashPageProgram (h : Kept s t) : OutKept s (execFlashPageProgram t) := by
  unfold Machine.execFlashPageProgram
  refine .next ?_
  split
  · exact h
  · split
    · exact .ite h (by split; exacts [h.refuseJob, h.journal.opBegin])
    · exact h

theorem Kept.programDone (h : Kept s t) : Kept s (t.programDone) := by
  unfold State.programDone
  split
  · exact h.flashProgram.wf.opDone
  · exact h

theorem Kept.execFlashSectorErase (h : Kept s t) : OutKept s (execFlashSectorErase t) := by
  unfold Machine.execFlashSectorErase
  refine .next ?_
  split
  · exact h
  · split
    · exact .ite h (by split; exacts [h.refuseJob, .ite h.refuseJob h.eraseBegin.opBegin])
    · exact h

theorem Kept.execFlashEraseComplete (h : Kept s t) : OutKept s (execFlashEraseComplete t) :=
  .next (by split; exacts [.ite h.flashErase.opDone h.flashErase.opDone.retireFull, h])

theorem Kept.opCut (h : Kept s t) : Kept s (t.opCut) := by
  unfold State.opCut
  extract_lets
  split
  · exact h
  · exact h.flashProgram.setCfg.upd
  · exact h.setCfg.upd

theorem Kept.readDirectory (h : Kept s t) : Kept s (t.readDirectory) := by
  unfold State.readDirectory
  extract_lets d
  clear_value d
  split
  · exact h.setCfg
  · exact h.setCfg

/-! ### Loading of images -/

theorem Kept.setCfgCell {a c} (h : Kept s t) : Kept s (t.setCfgCell a c) := h.setCfg

theorem Kept.writeFrame {d i f ws} (h : Kept s t) : Kept s (t.writeFrame d i f ws) :=
  .setCfgCell (.foldl h fun _ _ hu => hu.setCfgCell)

theorem Kept.setDioSafe {d i codes} (h : Kept s t) : Kept s (t.setDioSafe d i codes) := by
  unfold State.setDioSafe
  split
  · exact h
  · exact h.ww

theorem Kept.clearIsland {d i} (h : Kept s t) : Kept s (t.clearIsland d i) := h.setCfg.setIsland.initRegs.setDioSafe.wf.wf

theorem Kept.readGlobal {a} (h : Kept s t) : Kept s (t.readGlobal a).2 :=
  .ite_snd h (.ite_snd (.ite_snd (.pair h.dramReadWords) h) (.ite_snd (.pair h.readWord) h))

theorem Kept.readData {a n} (h : Kept s t) : Kept s (t.readData a n).2 := .foldl_snd h fun _ _ hu => by
    split
    · exact hu
    · extract_lets
      split <;> exact hu.readGlobal

theorem Kept.memBytes {a off n} (h : Kept s t) : Kept s (t.memBytes a off n).2 := h.readData

theorem Kept.imgBytes {l off n} (h : Kept s t) : Kept s (t.imgBytes l off n).2 :=
  .ite_snd h (.ite_snd h (.ite_snd h.memBytes h))

theorem Kept.controlFrame {d i ws} (h : Kept s t) : Kept s (t.controlFrame d i ws) := h.wf.wf.wf.wf.refloor.setDioSafe.setCfg

theorem Kept.writeRecord {f ws} (h : Kept s t) : Kept s (t.writeRecord f ws) := by
  unfold State.writeRecord
  split
  · exact h.writeFrame
  · exact h.controlFrame
  · exact .foldl h fun _ _ hu => .ite hu.storeWord hu
  · exact .foldl h fun _ _ hu => .ite hu.storeWord hu

theorem Kept.loadFailed {src cause seq} (h : Kept s t) : Kept s (t.loadFailed src cause seq) := h.wf.wf.wf.wf.wf.wf.raise

theorem Kept.holdIsland {d i live} (h : Kept s t) : Kept s (t.holdIsland d i live) :=
  h.noteDio.wf.resetChannels.openShadow.setIsland

theorem Kept.dioForget {d i} (h : Kept s t) : Kept s (t.dioForget d i) := .foldl h fun _ _ hu => .ite hu.setDio hu

theorem Kept.releaseIsland {d i} (h : Kept s t) : Kept s (t.releaseIsland d i) :=
  .ite h.setIsland.shadowEnded h.setIsland.shadowEnded.setIsland.initRegs.dioForget.wf.setCfg

theorem Kept.coresReset (h : Kept s t) : Kept s (t.coresReset) := .foldl h fun _ _ hu => hu.coreReset

theorem Kept.coresRun (h : Kept s t) : Kept s (t.coresRun) := .foldl h fun _ _ hu => .ite hu.coreStart hu

theorem Kept.undoLoad {l} (h : Kept s t) : Kept s (t.undoLoad l) :=
  .ite h (.foldl h fun _ _ hu => hu.clearIsland.releaseIsland)

theorem Kept.clearUnnamed {mask} (h : Kept s t) : Kept s (t.clearUnnamed mask) := .foldl h fun _ _ hu => hu.clearIsland

theorem Kept.bootTry {slots} (h : Kept s t) : Kept s (t.bootTry slots) := by
  induction slots generalizing t with
  | nil => exact h.setCfg.raise
  | cons i rest ih =>
    unfold State.bootTry
    have hload : Kept s ((t.wf F.CFG_LOAD_STAT_BUSY 1 0).wf F.CFG_LOAD_CTL_START 1 0) := h.wf.wf
    exact .ite (ih (.ite h.loadFailed.wf h.loadFailed))
      (.setCfg (.clearUnnamed (.coresReset (.foldl hload fun _ _ hu => hu.holdIsland))))

theorem Kept.failLoad {l cause} (h : Kept s t) : Kept s (t.failLoad l cause) := by
  unfold State.failLoad
  extract_lets _ _ u1
  have h1 : Kept s u1 := h.setCfg.undoLoad.loadFailed.cabLoadEnd
  exact .ite (.bootTry (.ite h1.wf h1)) h1

theorem Kept.installMap {isls es} (h : Kept s t) : Kept s (t.installMap isls es) := h.setCfg

theorem Kept.imageIn (h : Kept s t) : Kept s (t.imageIn) := h.upd.setCfg

theorem Kept.loadDone {l} (h : Kept s t) : Kept s (t.loadDone l) := by
  unfold State.loadDone
  extract_lets _ _ _ _ _ _ _ _ u1 u2 u3 _ _ u4 u5
  have h1 : Kept s u1 := h.imgBytes.installMap.setCfg
  have h2 : Kept s u2 := .ite h1 (.foldl h1 fun _ _ hu => hu.releaseIsland)
  have h3 : Kept s u3 := .ite h2 h2.coresRun
  have h4 : Kept s u4 := .wf (.wf (.wf (.wf (.wf (.ite h3.wf (.ite h3 h3.wf))))))
  have h5 : Kept s u5 := .ite h4.raise h4
  exact .cabLoadEnd (.ite h5 h5.imageIn)

theorem Kept.digestOk {l} (h : Kept s t) : Kept s (t.digestOk l).2 := h.imgBytes

theorem Kept.frameRecord {l} (h : Kept s t) : Kept s (t.frameRecord l) := by
  unfold State.frameRecord
  refine .ite h ?_
  extract_lets r u
  have hu : Kept s u := h.imgBytes
  split
  · exact .ite hu hu.failLoad
  · extract_lets c f isls u1 cores l1 u2 g
    have h2 : Kept s u2 := hu.writeRecord.setCfg
    refine .ite hu.failLoad ?_
    exact .ite h2 (.ite h2.failLoad (.ite h2 (.ite h2.loadDone (.ite h2.digestOk.loadDone h2.digestOk.failLoad))))

theorem Kept.startLoad (h : Kept s t) : Kept s (t.startLoad) := .ite h h.wf.wf.wf.setCfg

theorem Kept.writeLoadCtl {w} (h : Kept s t) : Kept s (t.writeLoadCtl w) := .ite h.wf.startLoad h.wf

theorem Kept.orderCheck {l n} (h : Kept s t) : Kept s (t.orderCheck l n).2 := by
  refine .foldl_snd h fun r k hu => .ite_snd hu ?_
  dsimp only
  split
  · exact hu.imgBytes
  · refine .ite_snd hu.imgBytes ?_
    split
    · exact hu.imgBytes
    · exact hu.imgBytes

theorem Kept.imageCheck {l} (h : Kept s t) : Kept s (t.imageCheck l).2 := by
  unfold State.imageCheck
  refine .ite_snd h ?_
  refine .ite_snd h ?_
  refine .ite_snd h ?_
  extract_lets
  split
  · exact h.imgBytes
  · extract_lets _ _ u1
    have h1 : Kept s u1.2 := h.imgBytes.imgBytes
    refine .ite_snd h.imgBytes ?_
    split
    · exact h1
    · exact .ite_snd h1 (by split; exacts [h1.orderCheck, .ite_snd h1.orderCheck h1.orderCheck])

theorem Kept.execImageCheckPass (h : Kept s t) : OutKept s (execImageCheckPass t) := by
  unfold Machine.execImageCheckPass
  refine .next ?_
  split
  · exact h
  · extract_lets _ _ _ u1
    have h1 : Kept s u1 := .foldl h.imageCheck fun _ _ hu => hu.holdIsland
    exact .ite h (.ite h.imageCheck.failLoad (.setCfg (.ite h1 h1.coresReset.clearUnnamed)))

theorem Kept.spgRecord {d kind i f w b} (h : Kept s t) : Kept s (t.spgRecord d kind i f w b) := .ite h h.ww

theorem Kept.spgSingle {d i f k w b} (h : Kept s t) : Kept s (t.spgSingle d i f k w b) :=
  .ite h.setCfgCell.incE.spgRecord.raise h.setCfgCell.incE.spgRecord

theorem Kept.spgMulti {d i f k} (h : Kept s t) : Kept s (t.spgMulti d i f k) :=
  .ite h.incE.spgRecord.raise.setCfg (.ite h.incE.spgRecord.raise.raise h.incE.spgRecord.raise)

theorem Kept.spgNext {d i f} (h : Kept s t) : Kept s (t.spgNext d i f) := .ite h.wf.wf (.ite h.wf.wf h.incE.wf.wf.wf.setCfg)

theorem Kept.spgFrame {d i f} (h : Kept s t) : Kept s (t.spgFrame d i f) := by
  unfold State.spgFrame
  extract_lets _ u1
  have h1 : Kept s u1 := .foldl_snd h fun _ _ hu => by split; exacts [hu, hu.spgSingle, hu]
  split
  · exact h1.spgMulti
  · exact .ite h1 h1.free.spgMulti

theorem Kept.execFrameRewrite (h : Kept s t) : OutKept s (execFrameRewrite t) := by
  unfold Machine.execFrameRewrite
  refine .next ?_
  split
  · exact h
  · refine .ite h ?_
    extract_lets _ u o l b l1 ok
    have hu : Kept s u := h.setCfg
    clear_value ok
    split
    · exact hu.writeFrame
    · exact .raise (.ite hu.wf hu)

/-! ### Caben operations -/

theorem Kept.cabFrameErr {tr} (h : Kept s t) : Kept s (t.cabFrameErr tr) := .raise (.incE (.ite h.setCab h))

theorem Kept.cabReceive {tr peer b} (h : Kept s t) : Kept s (t.cabReceive tr peer b) := by
  unfold State.cabReceive
  refine .ite h.cabFrameErr ?_
  refine .ite (.raise (.incE (.ite h.setCab h))) ?_
  refine .ite h.cabAnswer ?_
  exact .ite h.cabAnswer (by split; exacts [h.cabAnswer, .ite h.cabAnswer (.ite h.cabAnswer h.setCab)])

theorem Kept.spiMiso {miso} (h : Kept s t) : Kept s (t.spiMiso miso) := h.setCab

theorem Kept.udpSecure {peer b} (h : Kept s t) : Kept s (t.udpSecure peer b) := by
  unfold State.udpSecure
  extract_lets
  split
  · exact h.incE.raise
  · exact .ite h.incE.raise (.ite h.incE.raise (.ite h.setCab.cabFrameErr h.setCab.cabReceive))

theorem Kept.takeFrame {fuel ws ws' u} (h : Kept s t) (he : t.takeFrame fuel ws = some (ws', u)) : Kept s u := by
  induction fuel generalizing t ws with
  | zero => cases he
  | succ n ih =>
    unfold State.takeFrame at he
    split at he
    · cases he
    · next heq =>
      split at he
      · cases he; exact h.rxTakeOne heq
      · exact ih (h.rxTakeOne heq) he

theorem Kept.execCabenSaetteFrame (h : Kept s t) : OutKept s (execCabenSaetteFrame t) := by
  unfold Machine.execCabenSaetteFrame
  refine .next ?_
  refine .ite h.saPump ?_
  split
  · exact h.saPump
  · next heq => exact .cabReceive (.closeIfEmpty (.rxView (h.saPump.takeFrame heq)))

theorem Kept.openCh0 (h : Kept s t) : Kept s (t.openCh0) := by
  unfold State.openCh0
  extract_lets _ u1 _ u2
  have h1 : Kept s u1 := .ite h.wf.wf.wf.wf h
  have h2 : Kept s u2 := h1.enableHalf.enableHalf
  exact .ite h (.ite h1 (.ite h2.writeTxOpen h2))

theorem Kept.cabRow {op tr tag act} (h : Kept s t) (hact : ∀ p u, Kept s u → Kept s (act p u)) :
    Kept s (cabRow op tr tag t act) := by
  unfold Machine.cabRow
  split
  · exact hact _ _ h
  · exact h

theorem Kept.execRepeatReply {tr tag} (h : Kept s t) : OutKept s (execRepeatReply tr tag t) :=
  .next (h.cabRow fun _ _ hu => by split; exacts [hu.cabFinish, .ite hu.cabFinish hu.cabFinish])

theorem Kept.cabDrop {p} (h : Kept s t) : Kept s (t.cabDrop p) := .ite h (.ite h.setCfg.wf.wf (.ite h.setCfg.nvView h))

theorem Kept.cabCancel {p} (h : Kept s t) : Kept s (t.cabCancel p) := .ite h.setPkt h.cabDrop.cabFinish

theorem Kept.execAbort {tr tag} (h : Kept s t) : OutKept s (execAbort tr tag t) := by
  refine .next (h.cabRow fun p u hu => ?_)
  dsimp only
  split
  · exact .ite hu.cabFinish hu.cabFinish
  · exact .ite hu.cabCancel.cabFinish hu.cabFinish

theorem Kept.cabIssue {fuel tr tag} (h : Kept s t) : Kept s (t.cabIssue fuel tr tag) := by
  induction fuel generalizing t with
  | zero => exact h
  | succ n ih =>
    unfold State.cabIssue
    split
    · exact h
    · dsimp only
      refine .ite h (.ite ?_ (.ite h ?_))
      · split
        · exact h
        · next heq => exact ih (h.request heq).setPkt
      · split
        · exact h
        · next heq => exact ih (h.post.request heq).setPkt

theorem Kept.cabMemEnd {tr tag} (h : Kept s t) : Kept s (t.cabMemEnd tr tag) := by
  unfold State.cabMemEnd
  split
  · exact h
  · exact .ite h (.ite h.cabFinish (.ite h (.ite h.cabFinish h.cabFinish)))

theorem Kept.cabMem {op tr tag} (h : Kept s t) : Kept s (t.cabMem op tr tag) := by
  unfold State.cabMem
  split
  · exact h
  · exact .ite h h.setPkt.cabIssue.cabMemEnd

theorem Kept.cabAtomic {k tr tag} (h : Kept s t) : Kept s (t.cabAtomic k tr tag) := by
  unfold State.cabAtomic
  split
  · exact h
  · exact .ite h (by
    split
    · exact h
    · next heq => exact .setPkt (h.request heq))

theorem Kept.cabStreamNext {tr tag} (h : Kept s t) : Kept s (t.cabStreamNext tr tag) := by
  unfold State.cabStreamNext
  split
  · exact h
  · refine .ite h ?_
    refine .ite h.cabFinish ?_
    refine .ite (.ite h.cabFinish h.cabFinish) ?_
    split
    · exact h
    · next heq => exact .setPkt (h.request heq)

theorem Kept.execStreamRead {tr tag} (h : Kept s t) : OutKept s (execStreamRead tr tag t) := by
  unfold Machine.execStreamRead
  refine .next ?_
  split
  · exact h
  · exact .ite h (.ite h.cabStreamNext (.ite h (.ite h.cabFinish h.setPkt.cabStreamNext)))

theorem Kept.cabResponse {rtag status ws} (h : Kept s t) : Kept s (t.cabResponse rtag status ws) := by
  unfold State.cabResponse
  split
  · exact h
  · extract_lets
    split
    · exact .ite h.setPkt.cabFinish (.ite h.setPkt.cabFinish h.setPkt.cabFinish)
    · exact .ite (.ite h.cabFinish h.cabFinish) (.ite h.cabFinish h.setPkt.cabStreamNext)
    · exact h.setPkt.cabIssue.cabMemEnd

theorem Kept.streamRecords {fuel} (h : Kept s t) : Kept s (t.streamRecords fuel) := by
  induction fuel generalizing t with
  | zero => exact h
  | succ n ih =>
    unfold State.streamRecords
    split
    · exact h
    · exact .ite (ih h.frameRecord) h

theorem Kept.streamBegin (h : Kept s t) : Kept s (t.streamBegin) :=
  .setCfg (.wf (.wf (.coresReset (.foldl (by split; exacts [.ite h.undoLoad h, h]) fun _ _ hu =>
      hu.holdIsland.clearIsland))))

theorem Kept.streamChunk {bs} (h : Kept s t) : Kept s (t.streamChunk bs) := by
  unfold State.streamChunk
  split
  · exact h
  · extract_lets _ _ _ _ _ u1
    have h1 : Kept s u1 := h.setCfg.streamRecords
    refine .ite h.failLoad ?_
    split
    · exact h1
    · exact .ite h1 (.ite h1.failLoad (.ite h1.digestOk.loadDone h1.digestOk.failLoad))

theorem Kept.execStreamImage {tr tag} (h : Kept s t) : OutKept s (execStreamImage tr tag t) := by
  unfold Machine.execStreamImage
  refine .next ?_
  exact h.cabRow fun _ _ hu => .ite hu.cabFinish (.ite hu (.ite hu.cabFinish (.ite (.cabFinish (.streamChunk (.ite
      hu.streamBegin hu))) (.cabFinish (.streamChunk (.ite hu.streamBegin hu))))))

theorem Kept.storeCheck {slot addr n} (h : Kept s t) : Kept s (t.storeCheck slot addr n).2 := by
  unfold State.storeCheck
  extract_lets _ _ _ u1
  have h1 : Kept s u1.2 := .ite_snd h.imageCheck h
  exact .ite_snd h (.ite_snd h (.ite_snd h (.ite_snd h1 (by split <;> exact h1.memBytes))))

theorem Kept.execStore {tr tag} (h : Kept s t) : OutKept s (execStore tr tag t) := by
  unfold Machine.execStore
  refine .next ?_
  exact h.cabRow fun _ _ hu => .ite hu (.ite (.cabFinish (.ite hu.storeCheck.raise hu.storeCheck)) hu.storeCheck.setPkt.addJob)

theorem Kept.fwRuns {slot version} (h : Kept s t) : Kept s (t.fwRuns slot version) :=
  .upd (.ite h.wf.wf.setCab.raise h.wf.wf.setCab)

theorem Kept.execFwStart {tr tag} (h : Kept s t) : OutKept s (execFwStart tr tag t) := by
  unfold Machine.execFwStart
  refine .next ?_
  exact h.cabRow fun _ _ hu => by
    extract_lets
    split
    · exact .cabFinish (.ite_snd hu hu.memBytes)
    · refine .ite (.cabFinish (.ite_snd hu hu.memBytes)) ?_
      exact .ite (.cabFinish (.ite_snd hu hu.memBytes)) (.fwRuns (.cabFinish (.ite_snd hu hu.memBytes)))

theorem Kept.nvStart {p ty data} (h : Kept s t) : Kept s (t.nvStart p ty data) :=
  .ite h.cabFinish.raise (by split; exacts [h.cabFinish, h.setPkt.addJob.setCfg])

theorem Kept.execNvWrite {tr tag} (h : Kept s t) : OutKept s (execNvWrite tr tag t) := by
  unfold Machine.execNvWrite
  refine .next ?_
  exact h.cabRow fun _ _ hu => .ite hu (.ite (.ite hu.cabFinish (.ite hu.cabFinish (.ite hu.cabFinish (.ite hu.cabFinish
      hu.nvStart)))) hu.nvStart)

theorem Kept.fwRepair {e} (h : Kept s t) : Kept s (t.fwRepair e) :=
  .ite h (.ite h.raise (by split; exacts [h, h.addJob.setCfg]))

theorem Kept.execRepairAdd {tr x} (h : Kept s t) : OutKept s (execRepairAdd tr x t) := by
  unfold Machine.execRepairAdd
  refine .next ?_
  split
  · exact h.fwRepair
  · exact h.cabRow fun _ _ hu => .ite hu (.ite hu.cabFinish (.ite hu.cabFinish (.ite hu.cabFinish hu.nvStart)))

theorem Kept.free256 (h : Kept s t) : Kept s (t.free256).2 := .foldl_snd h fun _ _ hu => hu.free

theorem Kept.execFuseBlow {tr tag good} (h : Kept s t) : OutKept s (execFuseBlow tr tag good t) := by
  unfold Machine.execFuseBlow
  refine .next ?_
  exact h.cabRow fun _ _ hu => .ite hu.cabFinish (.ite hu.cabFinish (.ite hu.cabFinish (.ite hu.cabFinish (.ite
      hu.setCfg.cabFinish hu.free256.setCfg.raise.cabFinish))))

theorem Kept.execResetIsland {tr tag} (h : Kept s t) : OutKept s (execResetIsland tr tag t) := by
  unfold Machine.execResetIsland
  refine .next ?_
  split
  · exact h
  · refine .ite h ?_
    exact .ite (.ite h h.cabFinish) (.ite h.cabFinish (.ite h.cabFinish (.ite h.cabFinish h.setPkt.beginReset)))

theorem Kept.cabReset {p} (h : Kept s t) : Kept s (t.cabReset p) := h.cabFinish.upd

theorem Kept.execCabenTimeout {tr tag} (h : Kept s t) : OutKept s (execCabenTimeout tr tag t) :=
  .next (by split; exacts [h, .ite h (.raise (.incE (.cabFinish (.ite h.cabDrop h))))])

theorem Kept.udpClear (h : Kept s t) : Kept s (t.udpClear) := h.setCab.wf

theorem Kept.udpOff (h : Kept s t) : Kept s (t.udpOff) := h.setCab

theorem Kept.writeCaben {k w} (h : Kept s t) : Kept s (t.writeCaben k w) := by
  unfold State.writeCaben
  extract_lets _ _ _ _ u1
  have h1 : Kept s u1 := .wf (.ite h.wf.wf h.wf.wf.wf.wf.udpClear)
  exact .ite (.ite h (.ite h.wf.udpClear h.wf.udpClear)) (.ite h1.udpOff h1)

/-! ### Debug port -/

theorem Kept.setDbg {x} (h : Kept s t) : Kept s (t.setDbg x) := h.upd

theorem Kept.tapSelect {code} (h : Kept s t) : Kept s (t.tapSelect code) := h.setDbg

theorem Kept.tapTake {code} (h : Kept s t) : Kept s (t.tapTake code) := .ite h.tapSelect.raise h.tapSelect

theorem Kept.execDbgAccessRead {addr} (h : Kept s t) : OutKept s (execDbgAccessRead addr t) := by
  unfold Machine.execDbgAccessRead
  refine .next ?_
  exact .ite h (.ite h.setDbg (by
    split
    · next heq => exact .setDbg (h.request heq)
    · exact h.setDbg))

theorem Kept.debugResponse {rtag status ws} (h : Kept s t) : Kept s (t.debugResponse rtag status ws) :=
  .ite h (.ite h.setDbg h.setDbg)

theorem Kept.execMaltResponse {sig} (h : Kept s t) : OutKept s (execMaltResponse sig t) :=
  .next (.ite h.tapSelect (.ite h.tapSelect.setDbg (.ite h.tapSelect.setDbg h.tapSelect.setDbg.raise)))

/-! ### Power, reset and start-up -/

theorem Kept.setRst {r} (h : Kept s t) : Kept s (t.setRst r) := h.upd

/-- The power-on reset clears memory, which is then in its canonical form (R101). -/
theorem Kept.powerOn (h : Kept s t) : Kept s t.powerOn := by
  unfold State.powerOn
  extract_lets u r _ _ _ _ v
  have hv : Kept s v := ⟨h.opCut.pending, fun _ => rfl⟩
  exact hv.wf.wf

theorem Kept.setRail {n on} (h : Kept s t) : Kept s (t.setRail n on) := .ite h h.ww

theorem Kept.macLatReset (h : Kept s t) : Kept s (t.macLatReset) := .foldl h fun _ _ hu => hu.ww.ww

theorem Kept.joining (h : Kept s t) : Kept s (t.joining) := .ite h.wf h

theorem Kept.execPowerOnResetRelease {role boot devnum banks cool} (h : Kept s t) :
    OutKept s (execPowerOnResetRelease role boot devnum banks cool t) := by
  unfold Machine.execPowerOnResetRelease
  extract_lets _ _ _ _ _ _ u1 _ _ _ _ u2
  have h1 : Kept s u1 := h.wf.wf.wf.wf.ww.wf.wf.macLatReset
  have h2 : Kept s u2 := .joining (.setRst (.setCfg (.ite h1 (.foldl h1 fun _ _ hu => .foldl hu fun _ _ hv => hv.wf))))
  exact .next (.ite h (.ite h2.wf.raise h2))

theorem Kept.keepRegs (h : Kept s t) : Kept s (t.keepRegs) := h.upd.wf.wf.wf

theorem Kept.blocksReset {reload} (h : Kept s t) : Kept s (t.blocksReset reload) :=
  h.keepRegs.upd.cyclesFromNow.macLatReset.joining

theorem Kept.deviceReset {cause} (h : Kept s t) : Kept s (t.deviceReset cause) := by
  unfold State.deviceReset
  extract_lets _ _ u1 u2
  have h1 : Kept s u1 := h.safeState.wf.programDone.opCut
  have h2 : Kept s u2 := by
    unfold u2
    split
    · exact h1.undoLoad
    · exact h1
  exact h2.dramReset.dramReset.enginesReset.blocksReset.fmReset.setFm.wf.wf.wf.wf.wf.wf.incE.setRst

theorem Kept.writeRstCtl {w acts} (h : Kept s t) : Kept s (t.writeRstCtl w acts) :=
  .ite (.setRst (.ite h.plainWrite.askReset h.plainWrite)) (.ite h.plainWrite.askReset h.plainWrite)

theorem Kept.rstOut {off w act} (h : Kept s t) (hact : ∀ v, Kept s (act v)) : Kept s (rstOut off w t act) :=
  .ite (hact _) h.regRefuse

theorem Kept.execDeviceResetRelease (h : Kept s t) : OutKept s (execDeviceResetRelease t) := by
  unfold Machine.execDeviceResetRelease
  extract_lets _ _ _ _ _ u1
  have h1 : Kept s u1 := .wf (.setDup (.foldl h.setRst.cyclesFromNow fun _ _ hu => hu.resetIsland.setIsland))
  exact .next (.ite h (.ite h1 h1.coresRun))

theorem Kept.execBootRomStart {sfdp} (h : Kept s t) : OutKept s (execBootRomStart sfdp t) := by
  unfold Machine.execBootRomStart
  extract_lets _ _ _ _ _ u1
  have h1 : Kept s u1 := .ite h.setCfg.readDirectory h.setCfg.setCfg
  exact .next (.ite h (.ite h1.fwRuns (.ite h1.fwRuns h1.wf.wf.setCab.setRst)))

theorem Kept.applyRepair {e} (h : Kept s t) : Kept s (t.applyRepair e) := by
  unfold State.applyRepair
  extract_lets
  split
  exact .ite (.foldl h fun _ _ hu => hu.setCell) (.foldl h fun _ _ hu => hu.setCell)

theorem Kept.softRepair (h : Kept s t) : Kept s (t.softRepair) :=
  .softView (.wf (.foldl (.ite h.setCfg.raise h.setCfg) fun _ _ hu => .ite hu.applyRepair.setCfg.wf hu.wf.raiseEv))

theorem Kept.busWrite {code data} (h : Kept s t) : Kept s (t.busWrite code data) := h.setRst

theorem Kept.pmbError (h : Kept s t) : Kept s (t.pmbError) := h.incE.raise.busWrite

theorem Kept.pmbFail (h : Kept s t) : Kept s (t.pmbFail) := .ite h.pmbError.setRst h.pmbError.wf.setRst

theorem Kept.sendVout {mv} (h : Kept s t) : Kept s (t.sendVout mv) := h.wf.wf.setRst.busWrite

theorem Kept.writePmbCtl {w acts} (h : Kept s t) : Kept s (t.writePmbCtl w acts) :=
  .ite h.plainWrite.noteWant.setRst.sendVout h.plainWrite.noteWant

theorem Kept.nvSettings (h : Kept s t) : Kept s (t.nvSettings) := by
  unfold State.nvSettings
  split
  · exact h
  · exact h.wf.wf.ww

theorem Kept.firstVolt {vmode} (h : Kept s t) : Kept s (t.firstVolt vmode) := by
  unfold State.firstVolt
  refine .ite h ?_
  split
  · exact .ite h.setRst.busWrite.sendVout h.pmbFail.pmbFail.pmbFail.pmbFail
  · exact h.pmbFail.pmbFail.pmbFail.pmbFail

theorem Kept.openRoleLinks (h : Kept s t) : Kept s (t.openRoleLinks) := h.roleBringUp.roleBringUp.roleBringUp

theorem Kept.execFirmwareStart {vmode} (h : Kept s t) : OutKept s (execFirmwareStart vmode t) := by
  unfold Machine.execFirmwareStart
  extract_lets _ _ _ _ u1 _ _ _ u2
  have h1 : Kept s u1 := h.setCfg.rebuildCounts.journalResolve.nvSettings
  have h2 : Kept s u2 := .firstVolt (.setRst (.ite h1 h1.softRepair))
  refine .next ?_
  refine .ite h ?_
  refine .ite h.setCfg.rebuildCounts.journalResolve.openRoleLinks.openCh0.setRst ?_
  exact .ite h (.openCh0 (.openRoleLinks (.ite h2.bootTry h2)))

theorem Kept.execStartUpRelease (h : Kept s t) : OutKept s (execStartUpRelease t) := by
  unfold Machine.execStartUpRelease
  extract_lets _ u1 _ _ _ u2
  have h1 : Kept s u1 := .foldl h fun _ _ hu => hu.releaseIsland
  have h2 : Kept s u2 := .setRst (.wf (.ite h1 h1.setCfg.coresRun))
  exact .next (.ite h (.ite h2.setOutEn.wf.wf.setRst h2))

theorem Kept.jobsLost (h : Kept s t) : Kept s (t.jobsLost) :=
  .wf (.nvView (.wf (.setCfg (by split; exacts [h.flashProgram, h.flashErase, h]))))

theorem Kept.maltRestart (h : Kept s t) : Kept s (t.maltRestart) := h.jobsLost.setCab.upd.setReg.wf.wf.fmReset.setRst

theorem Kept.writeWdog {w} (h : Kept s t) : Kept s (t.writeWdog w) := .ite h.wf.wf.setRst h.wf.wf

theorem Kept.execThermalSensorRead {d ts} (h : Kept s t) : OutKept s (execThermalSensorRead d ts t) := by
  unfold Machine.execThermalSensorRead
  refine .next ?_
  split
  · exact h
  · extract_lets _ _ _ _ u1 u2 u3 u4
    have h1 : Kept s u1 := .ite h.wf.wf.refloorDie h.wf.wf
    have h2 : Kept s u2 := .ite h1.dramJunction h1
    have h3 : Kept s u3 := .ite h2.raise h2
    have h4 : Kept s u4 := .ite h3.raise h3
    exact .ite h (.setRst (.ite h4.raise h4))

theorem Kept.writeThermCtl {w} (h : Kept s t) : Kept s (t.writeThermCtl w) := .foldl h.wf fun _ _ hu => hu.refloorDie

theorem Kept.execOrderlyShutdown (h : Kept s t) : OutKept s (execOrderlyShutdown t) := by
  unfold Machine.execOrderlyShutdown
  refine .next ?_
  refine .ite h ?_
  exact .setRst (.wf (.wf (.foldl (.foldl h.safeState.programDone.dramPark.dramPark fun _ _ hu => hu.pstate) fun _ _ hu =>
      .foldl hu fun _ _ hv => .ite hv.setIxp.wf hv)))

/-! ### Roles of the head link -/

theorem Kept.holdEnd (h : Kept s t) : Kept s (t.holdEnd) := h.setOutEn.upd

theorem Kept.execHeadLinkSwitch {complete} (h : Kept s t) : OutKept s (execHeadLinkSwitch complete t) :=
  .next (.ite h (.ite (.ite h h.upd) (.ite (.raise (.ite h.upd h.upd)) (.ite h.upd (.ite h.upd h)))))

theorem Kept.roleLink {l was} (h : Kept s t) : Kept s (t.roleLink l was) :=
  .ite h.roleBringUp (.ite h.linkDown.releaseLanes.wf h)

theorem Kept.writeRoleCtl {w hwClear} (h : Kept s t) : Kept s (t.writeRoleCtl w hwClear) := by
  unfold State.writeRoleCtl
  extract_lets _ _ _ _ _ _ u1
  have h1 : Kept s u1 := .roleLink (.roleLink (.wf (.wf (.ite h.wf h.wf.wf))))
  exact .ite h1 h1.setOutEn

/-! ### Register space -/

theorem Kept.regRead {r die m} (h : Kept s t) : Kept s (t.regRead r die m).2 := by
  unfold State.regRead
  split
  · exact .pair h.tsRead
  · exact .pair h.readMemData
  · dsimp only
    split
    · exact h.upd
    · split
      · exact h
      · exact h.upd

theorem Kept.writeMin {r f lo w acts} (h : Kept s t) : Kept s (t.writeMin r f lo w acts) := h.plainWrite

theorem Kept.writePos {n w acts} (h : Kept s t) : Kept s (t.writePos n w acts) := .ite h.ww.wf (.ite h.ww.wf h.ww)

theorem Kept.regPut {r w acts} (h : Kept s t) : Kept s (t.regPut r w acts) := by
  unfold State.regPut
  extract_lets
  split
  · exact h.writeRoleCtl
  · exact .ite h h.plainWrite
  · exact h.writeClkCtl
  · exact h.writeIslRst
  · exact h.writeMin
  · exact .ite h.plainWrite h
  · exact h.writeLoadCtl
  · exact h.writeIxgCtl
  · exact h.writeMin
  · exact h.writeDramCtl
  · exact h.writeDramGeom
  · exact h.writeDramTim
  · exact h.writeDramTim
  · exact h.writeDramTim
  · exact h.writeRefCtl
  · exact h.writeDramTemp
  · exact h.writeRdCtl
  · exact h.writeTrainCtl
  · exact h.ww
  · exact h.writeKeyCtl
  · exact h.writeLaneCtl
  · exact h.writeLaneTx
  · exact h.writePrbs
  · exact h.writeMacCtl
  · exact h.writeSlCtl
  · exact h.ww
  · exact h.writeSkCtl
  · exact h.writeScCtl
  · exact h.writeScBuf
  · exact h.writeScNotice
  · exact h.writeTbCtl
  · exact h.writeTbStep
  · exact h.writeTbSlew
  · exact h.writeEncCtl
  · exact h.writePos
  · exact h.writeLevCtl
  · exact h.writeLevDest
  · exact h.writeCtCtl
  · exact h.writeCtSched
  · exact h.writeCtSched
  · exact h.writeCtSched
  · exact h.writeCtSched
  · exact h.writeCtSched
  · exact h.setGpioOut
  · exact h.setGpioOe
  · exact h.setGpioOut
  · exact h.setGpioOut
  · exact h.writeGpioCfg
  · exact h.writeCaben
  · exact h.writeCaben
  · exact h.writeCaben
  · exact h.writeSeqCtl
  · exact h.writeSeqReg
  · exact h.writeSeqReg
  · exact h.writeSeqReg
  · exact .ite h h.writeDoorbell
  · exact h.writeMemData
  · exact h.writeCtxCtl
  · exact h.writeDescBase
  · exact h.writeInstCtl
  · exact h.writeMembers
  · exact h.writeMembers
  · exact h.writeMembers
  · exact h.writeMembers
  · exact h.writeRoute
  · exact h.writeJdTimeCtl
  · exact h.writeChFwd
  · exact h.writeDupCtl
  · exact h.writeLogCtl
  · exact h.writeSrcCtl
  · exact h.writeRstCtl
  · exact h.writeWdog
  · exact h.writePmbCtl
  · exact h.writeThermCtl
  · exact h.plainWrite

theorem Kept.regWrite {r w acts} (h : Kept s t) : Kept s (t.regWrite r w acts) := h.regPut.w1sCleared

theorem Kept.regStore {d loc w narrow acts} (h : Kept s t) : Kept s (t.regStore d loc w narrow acts).2 := by
  unfold State.regStore
  split
  · exact h.regRefuse
  · split
    · exact h.regRefuse
    · exact h.regWrite

theorem Kept.regLoad {d loc die m} (h : Kept s t) : Kept s (t.regLoad d loc die m).2.2 := by
  unfold State.regLoad
  split
  · exact .triple h.regRefuse
  · exact .triple h.regRead

/-! ### The network -/

theorem Kept.netSlot (h : Kept s t) : Kept s (t.netSlot) := .ite h h.upd.upd

theorem Kept.netUntil {l fuel} (h : Kept s t) : Kept s (t.netUntil l fuel) := by
  induction fuel generalizing t with
  | zero => exact h
  | succ k ih => exact .ite (.ite h (ih h.netSlot)) h

/-! ### Transactions at their endpoints -/

theorem Kept.regWriteStep {d l x r k} (h : Kept s r.2) : Kept s (regWriteStep d l x r k).2 := h.regStore

theorem Kept.regWriteTxn {d x} (h : Kept s t) : Kept s (t.regWriteTxn d x) := by
  unfold State.regWriteTxn
  extract_lets u1
  have h1 : Kept s u1.2 := .foldl_snd h fun _ _ hu => hu.regWriteStep
  split
  · exact h1.creditBack
  · exact h1.dropWrite

theorem Kept.regReadStep {d l x r k} (h : Kept s r.2.2) : Kept s (regReadStep d l x r k).2.2 := h.regLoad

theorem Kept.regReadTxn {d x} (h : Kept s t) : Kept s (t.regReadTxn d x) := by
  unfold State.regReadTxn
  extract_lets u1
  have h1 : Kept s u1.2.2 := .foldl_snd_snd h fun _ _ hu => hu.regReadStep
  exact .ite h1.trnRecord.incE.trnRaise.respond h1.respond

theorem Kept.take {x f} (h : Kept s t) (hf : ∀ u, Kept s u → Kept s (f u)) : Kept s (t.take x f) := by
  unfold State.take
  split
  · exact h
  · next heq => exact hf _ (h.arrive heq)

theorem Kept.regTxn {d x} (h : Kept s t) : Kept s (t.regTxn d x) := by
  unfold State.regTxn
  refine .ite (h.take fun _ hu => .reject (.ite hu hu.regRefuse)) ?_
  refine .ite h ?_
  split
  · exact .ite h.claimArrive (.ite h.releaseAt (h.take fun _ hu => hu.regWriteTxn))
  · refine .ite h.macTxWindow ?_
    refine .ite h.macRxWindow ?_
    refine .ite h.scTxWindow ?_
    exact .ite h.scRxWindow (.ite (h.take fun _ hu => hu.regReadTxn) (h.take fun _ hu => hu.regWriteTxn))

theorem Kept.dramTxn {x} (h : Kept s t) : Kept s (t.dramTxn x) :=
  .ite (h.take fun _ hu => hu.reject) (h.take fun _ hu => hu.setDram)

theorem Kept.winTxn {d x} (h : Kept s t) : Kept s (t.winTxn d x) :=
  .ite (h.take fun _ hu => hu.reject) (h.take fun _ hu => hu.setWin)

theorem Kept.endpoint {d x} (h : Kept s t) : Kept s (t.endpoint d x) := by
  refine .ite (h.take fun _ hu => hu) (.ite (h.take fun _ hu => hu.bankPresent) ?_)
  exact .ite h.winTxn (.ite h.regTxn (.ite h.dramTxn (h.take fun _ hu => hu.reject)))

theorem Kept.txnMove {x} (h : Kept s t) : Kept s (t.txnMove x) := by
  unfold State.txnMove
  refine .ite h.netUntil ?_
  refine .ite (h.netUntil.take fun _ hu => hu.reject) ?_
  refine .ite (h.netUntil.take fun _ hu => hu.reject) ?_
  refine .ite (h.netUntil.take fun _ hu => hu.abortTxn) ?_
  exact .ite h.netUntil (.ite (h.netUntil.take fun _ hu => hu.setGw) h.netUntil.endpoint)

theorem Kept.islandResponse {d i p r} (h : Kept s t) : Kept s (t.islandResponse d i p r) := h.upd

theorem Kept.deliver {o r} (h : Kept s t) : Kept s (t.deliver o r) := by
  unfold State.deliver
  refine .ite ?_ (.ite h (.ite h.islandResponse.stopIssue (.ite h.coreResponse (.ite h.engineResponse h))))
  split
  · exact h.upd
  · exact h.cabResponse
  · exact h.debugResponse
  · exact h.gwResponse
  · exact h.rackResponse
  · exact .ite h.engineResponse h

theorem Kept.lateResponse {o} (h : Kept s t) : Kept s (t.lateResponse o) := .ite h.upd h.upd.trnRecord.incE

theorem Kept.response {r} (h : Kept s t) : Kept s (t.response r) := by
  unfold State.response
  refine .ite h.netUntil ?_
  extract_lets
  split
  · exact h.netUntil.upd
  · exact .ite h.netUntil.upd.upd.lateResponse (.ite h.netUntil.upd.upd.stopIssue h.netUntil.upd.upd.deliver)

theorem Kept.execRequestTimeout {d m tag} (h : Kept s t) : OutKept s (execRequestTimeout d m tag t) := by
  unfold Machine.execRequestTimeout
  refine .next ?_
  refine .ite h ?_
  split
  · exact h
  · exact .ite h (.ite h.upd.trnRecord.incE.trnRaise h.upd.trnRecord.incE.trnRaise.deliver)

/-! ### A tick of the fabric -/

theorem Kept.logicEdge {d i} (h : Kept s t) : Kept s (t.logicEdge d i) :=
  .evtRestart (.noteDio (.foldl h.setIsland fun _ _ hu => .ite hu.setDio hu))

theorem Kept.evtSample {d i} (h : Kept s t) : Kept s (t.evtSample d i) :=
  .foldl h fun _ _ hu => by split; exacts [hu.setEvt, hu]

theorem Kept.islandCycle {d i} (h : Kept s t) : Kept s (t.islandCycle d i) :=
  .ite h.slackAmple.evtSample.logicEdge h.slackAmple.evtSample

theorem Kept.dieCycle {d} (h : Kept s t) : Kept s (t.dieCycle d) := .wf (.foldl h.free fun _ _ hu => hu.setDio)

theorem Kept.fabricTick (h : Kept s t) : Kept s (t.fabricTick) := by
  unfold State.fabricTick
  extract_lets u1
  have h1 : Kept s u1 := .ite (.foldl h fun _ _ hu => .foldl hu.dieCycle fun _ _ hv => hv.islandCycle) h
  exact .ite h1 (.netSlot (.idleFlits (.foldl h1 fun _ _ hu => hu.dramCycle)))

/-! ## Every command -/

/-- Every command goes on, keeping the commands that wait and the canonical form of memory. -/
theorem Kept.exec (c : Instr) (h : Kept s t) : OutKept s (exec c t) := by
  cases c with
  | powerOnReset => exact .next (.ite h.powerOn.wf.setRail h.powerOn.wf)
  | powerOnResetRelease => exact h.execPowerOnResetRelease
  | bootRomStart => exact h.execBootRomStart
  | firmwareStart => exact h.execFirmwareStart
  | startUpRelease => exact h.execStartUpRelease
  | deviceReset => exact .next (by split; exacts [h, .ite h h.deviceReset])
  | sysResetNLow => exact .next h.askReset
  | devResetWrite => exact .next (h.rstOut fun _ => h.writeRstCtl)
  | deviceResetRelease => exact h.execDeviceResetRelease
  | fwRestart => exact .next (h.rstOut fun _ => h.writeRstCtl)
  | maltsterRestart => exact .next (.ite h h.maltRestart)
  | watchdogKick => exact .next (h.rstOut fun _ => h.writeWdog)
  | watchdogExpiry => exact .next (.ite h (.raise (.maltRestart (.setRst (.ite h.wf h)))))
  | supplyOutOfRange => exact .next h.setRail.raise
  | voutCommand => exact .next (.ite h (.ite (.ite h.setRst.sendVout h.setRst.sendVout.pmbFail) h))
  | readVout => exact .next (.ite h (.ite h.pmbFail (.ite h.wf.wf.setRst h.wf)))
  | voltageSettleTimeout => exact .next (.ite h (.ite h.pmbFail.sendVout h.pmbFail))
  | pmbusTelemetryPoll => exact .next (.ite h (.ite h.setRst h.pmbFail))
  | pmAlert => exact .next (.ite h (.ite h.setRst.pmbError h.pmbFail))
  | thermalSensorRead => exact h.execThermalSensorRead
  | orderlyShutdown => exact h.execOrderlyShutdown
  | thermalTrip => exact .next h.setRst.powerOn.wf
  | autoRestart => exact .next (by split; exacts [h, .ite h.askReset h])
  | headLinkLoss => exact .next (.ite h (.ite h.setOutEn.upd h.upd))
  | linkHoldExpiry => exact .next (by split; exacts [h, .ite h.upd (.ite h.holdEnd h)])
  | headLinkSwitch => exact h.execHeadLinkSwitch
  | markScheduleWord => exact .next (.ite h.dataArrive h)
  | roleLinkRetry => exact .next (.ite h.roleBringUp h)
  | outEnWrite => exact .next (.ite h.writeRoleCtl h.regRefuse)
  | registerWrite => exact .next (.ite h h.regStore)
  | islClkCtlWrite => exact .ite (.next h) (.ite (.next h.writeClkCtl) (.next h.regRefuse))
  | runningCodeStep => exact .next (.ite h.codeStep h)
  | slackCritical => exact .next (.ite h.slackCritical h)
  | slackLow => exact .next (.ite h.slackLow h)
  | stretchDecay => exact .next (.ite h h.stretchDecay)
  | breachReturnStart => exact .next (.ite h.wf.setIsland.breachEnd h)
  | vreqRise => exact .next (.ite h.setVreq h)
  | vreqFall => exact .next (.ite h.setVreq.wf h)
  | memoryIslandCritical => exact .next (.ite h.wf.wf.raise h)
  | islandOscillatorCheck => exact .next (.ite h.raise h)
  | channelWordSend => exact h.execChannelWordSend
  | channelWordArrive => exact .next (by split; exacts [h, h.setChan])
  | channelWordTake => exact .next (by split; exacts [h, .ite h (.ite h.setChan h.setChan.stopTake)])
  | channelAckArrive => exact .next (.ite h h.setChan)
  | channelStall => exact .next (.ite h.setChan.raise h)
  | eventRaise => exact .next (.ite h.setEvt h)
  | eventLap => exact .next (by split; exacts [h, .ite h.setEvt.wf.raise h])
  | fabIslRstWrite => exact .ite (.next h.writeIslRst) (.next h.regRefuse)
  | islandReset => exact .next (.ite h.beginReset h)
  | islandResetEnd => exact h.execIslandResetEnd
  | asyncResetAssert => exact .next h.setIsland
  | asyncResetRelease => exact .next (.ite h.setIsland h)
  | runSetAfterLoad => exact .next (.ite h.setIsland.setRun h)
  | bmPortAccess => exact h.execBmPortAccess
  | windowAccess => exact .next (.ite h (by split; exacts [h, .ite h.winEdge h]))
  | windowSteal => exact .next (.ite h (by split; exacts [h, .ite h.winEdge.stealBusy h]))
  | windowReadRepeat => exact .next (by split; exacts [h, .ite h (.ite h.winEdge.stealBusy h.winEdge)])
  | bankAccess => exact .next h.incE.bankCycle
  | bankStarvation => exact h.execBankStarvation
  | writeBack => exact h.execWriteBack
  | patrolRead => exact .next (.ite h.setBank h)
  | flipMaskArm => exact .ite (.next h.plainWrite) (.next h.regRefuse)
  | read => exact .next (.ite h.txnMove h)
  | write => exact .next (.ite h.txnMove h)
  | narrowWrite => exact .next (.ite h.txnMove h)
  | add => exact .next (.ite h.txnMove h)
  | swap => exact .next (.ite h.txnMove h)
  | readResp => exact .next (.ite h h.response)
  | atomicResp => exact .next (.ite h.response h)
  | streamCreditReturn => exact .next h.streamCredit
  | requestTimeout => exact h.execRequestTimeout
  | configLoadStart => exact .ite (.next h.writeLoadCtl) (.next h.regRefuse)
  | imageCheckPass => exact h.execImageCheckPass
  | frameRecord => exact .next (by split; exacts [h, h.frameRecord])
  | spargeFrameScrub => exact .next (.ite h (.ite h.incE.spgNext h.spgFrame.spgNext))
  | frameRewrite => exact h.execFrameRewrite
  | flashPageProgram => exact h.execFlashPageProgram
  | flashProgramComplete => exact .next h.programDone
  | flashSectorErase => exact h.execFlashSectorErase
  | flashEraseComplete => exact h.execFlashEraseComplete
  | controlFlit => exact .next (by split; exacts [h, .ite h (.ite h.setIxp.controlArrive h.setIxp.incE)])
  | sequencedFlit => exact h.execSequencedFlit
  | nakResend => exact .next (.ite h.sendNak h)
  | bundleTraining => exact h.execBundleTraining
  | trainingRetry => exact .next (.ite h.retrain h)
  | sidebandCap => exact h.execSidebandCap
  | sidebandMap => exact h.execSidebandMap
  | sidebandReady => exact h.execSidebandReady
  | sidebandSwap => exact .next (by split; exacts [h, .ite h.badSideband h.setIxp.wf])
  | sidebandRetrain => exact .next (.ite h (.ite h.badSideband h.retrain))
  | sidebandRetire => exact h.execSidebandRetire
  | ixgRetrainWrite => exact .next (.ite h.writeIxgCtl h.regRefuse)
  | ixgRetireWrite => exact .next (.ite h.writeIxgCtl h.regRefuse)
  | dramEnWrite => exact .next h.dramCtlOut
  | dramTrainingComplete => exact .next (.ite h (.ite h.setDram.wf (.ite h.setDram.raise.dramRetire h.setDram.raise)))
  | dramRetrainWrite => exact .next h.dramCtlOut
  | srReqWrite => exact .next h.dramCtlOut
  | selfRefreshEntry => exact .next (.ite h.setDram.wf h)
  | dramAccept => exact .next (by split; exacts [h, .ite h.setDram.dramAccept h])
  | dramReadComplete => exact h.execDramReadComplete
  | dramRefresh => exact h.execDramRefresh
  | victimRefresh => exact .next h.victimDone
  | disturbTableClear => exact .next (.ite h.setDram h)
  | dramPromotion => exact .next (by split; exacts [h, .ite h.setDram.incE h])
  | dramPatrolRead => exact .next (.ite h (.dramUnit (.ite h.setDram h.setDram.touch)))
  | backgroundFill => exact .next (.ite h (by split; exacts [h, .ite h h.fillUnit.wf]))
  | zqShortCalibration => exact .next h.setDram
  | periodicCentring => exact h.execPeriodicCentring
  | dramTemperatureRead => exact .next (.ite h.setDram.wf.wf h)
  | dramCaParityAlert => exact .next (.ite h.setDram.incE.raise.wf h.setDram.incE.raise)
  | dramKeyLoad => exact .next (.ite h.writeKeyCtl h.regRefuse)
  | dramFillStart => exact h.execDramFillStart
  | lanePstateRequest => exact .next h.pstateSoft
  | laneP0Reached => exact h.execLaneP0Reached
  | coefficientIncrement => exact .next h.coefficient
  | coefficientDecrement => exact .next h.coefficient
  | preset => exact .next (.ite h.setTaps h)
  | initialise => exact .next (.ite h.setTaps h)
  | laneTrainingTimeout => exact .next (.ite h.wf.raise h)
  | laneTrainingRestart => exact .next (.ite h.trainStart h)
  | laneLos => exact .next (.ite h.wf.wf.incE.raise h)
  | laneCdrUnlock => exact .next (.ite h.incE.raise h)
  | lanePllUnlock => exact .next h.pllLoss.lanesGone
  | laneRefclkLost => exact .next (.lanesGone (.foldl h fun _ _ hu => .ite hu.raise.pllLoss hu))
  | laneAdaptLimit => exact .next (.ite h (.ite (.raise (.ite h.wf h)) (.ite h.wf h)))
  | injSingle => exact .next h.prbsOut
  | injBurst => exact .next h.prbsOut
  | revive => exact .next (.ite h.writeLaneCtl.reviveEnd h.regRefuse)
  | macEnable => exact .next h.roleFirst.macCtlOut
  | macModeWrite => exact .next h.macCtlOut
  | macTxWindowWrite => exact .next (.ite h.macTxWindow h)
  | macTxFrame => exact .next (.ite h (.ite (.ite h.setMac.macSend h) h.setMac.incE))
  | macRxFrame => exact .next (.ite h.macHear h)
  | macRxWindowRead => exact .next (.ite h.macRxWindow h)
  | pauseFrame => exact .next (.ite (.ite h.macHear.wf h.macHear) h)
  | pauseExpiry => exact .next h.wf
  | macTsTimeRead => exact h.execMacTsTimeRead
  | saetteLinkEnable => exact .next (.ite h.roleFirst.roleBringUp h.roleFirst.slCtlOut)
  | linkBringupRetry => exact .next (.ite h.bringUp h)
  | hello => exact h.execHello
  | linkCtl => exact h.execLinkCtl
  | retrain => exact h.execRetrain
  | slRetrainWrite => exact .next h.slCtlOut
  | saetteLaneLost => exact .next h.laneLost
  | saetteLinkLost => exact .next h.linkLost
  | slotTransmit => exact h.execSlotTransmit
  | dataCell => exact .next h.dataArrive
  | gcmEnd => exact .next (.ite h.cellArrive (.ite h (.ite h.cellArrive.gcmEnd h.cellArrive)))
  | frameCheck => exact h.execFrameCheck
  | openCell => exact .next (h.channelRow fun _ hu => .ite hu.rxOpen hu.slProtocol)
  | openAck => exact h.execOpenAck
  | openRefuse => exact .next (h.channelRow fun _ hu => .ite hu.msg (.ite hu.slProtocol hu.openRefused))
  | closeCell => exact h.execClose
  | closeAck => exact .next (h.channelRow fun _ hu => .ite hu.msg (.ite hu.slProtocol hu.wf.wf))
  | credit => exact h.execCredit
  | keySwitch => exact .next (h.channelRow fun _ hu => .ite hu.fwdCell (.ite hu.slProtocol hu.wf.wf.setSc))
  | flush => exact h.execFlush
  | txOpen => exact .next h.scCtlOut
  | txClose => exact .next h.scCtlOut
  | closeCutTimeout => exact .next (.ite h (.ite h.setSc.frameCut h.setSc.msg.frameCut.txBoundary))
  | channelFlush => exact .next h.scCtlOut
  | keySwitchWrite => exact .next h.scCtlOut
  | channelEnableWrite => exact .next h.scCtlOut
  | saetteKeyLoad => exact .next (.ite h.writeSkCtl h.regRefuse)
  | scTxWindowWrite => exact .next (.ite h.scTxWindow h)
  | scRxWindowRead => exact .next (.ite h.scRxWindow h)
  | creditReturnTimer => exact .next (.ite h h.setSc.msg)
  | tbStep => exact .next (.ite h.writeTbStep h.regRefuse)
  | tbSlew => exact .next (.ite h.writeTbSlew h.regRefuse)
  | slewDivWrite => exact .next (.ite h.writeTbCtl h.regRefuse)
  | slewApply => exact .next (.ite h.tick h)
  | timeBaseWrap => exact .next (.ite h.tick h)
  | timeReplicaCheck => exact .next (.ite h (.ite h.incE h.incE.wf.raise))
  | timeBaseHoldover => exact .next (.ite h h.wf.raise)
  | holdoverExit => exact .next h.wf
  | encoderEdge => exact .next (.ite h h.encFilter.encStep)
  | encoderIndex => exact h.execEncoderIndex
  | productDetectEdge => exact .next (.ite h.setPin.pdEdge h.setPin)
  | pdHoldoffExpiry => exact .next h.upd
  | gpioInputEdge => exact .next (.ite h (.ite h.setPin.gpioEdge h.setPin))
  | eventRecordIssue => exact .next (by split; exacts [h, h.setRing.post])
  | eventRingEnable => exact .next (.ite h.writeLevCtl h.regRefuse)
  | converterEnable => exact .next (.ite h.writeCtCtl h.regRefuse)
  | converterTick => exact .next (.ite h (by split; exacts [h.setTile, h.dacDrive, h.dacDrive, h]))
  | dacPhaseEnd => exact .next (.ite h.setTile h)
  | conversionStart => exact .next (.ite h.setTile h)
  | conversionComplete => exact h.execConversionComplete
  | converterWordIssue => exact .next (by split; exacts [h, h.setTile.post])
  | gpioScheduledChange => exact .next (.ite h.wf.setGpioOut h)
  | ppsChange => exact .next (.ite h.setGpioOut h)
  | gpioSetWrite => exact .next (.ite h.setGpioOut h.regRefuse)
  | gpioClrWrite => exact .next (.ite h.setGpioOut h.regRefuse)
  | send => exact .next (.ite h.spiMiso.cabReceive h.spiMiso.cabFrameErr)
  | fetch => exact .next (.ite h.spiMiso.setCab h.spiMiso)
  | spiStatus => exact .next h.spiMiso
  | arpRequest => exact .next (.ite h.setCab h)
  | udpDatagram => exact .next (.ite h (.ite h.udpSecure h.cabReceive))
  | cabenSaetteFrame => exact h.execCabenSaetteFrame
  | echo => exact .next (h.cabRow fun _ _ hu => hu.cabFinish)
  | identify => exact .next (h.cabRow fun _ _ hu => hu.cabFinish)
  | repeatReply => exact h.execRepeatReply
  | abort => exact h.execAbort
  | cabenRead => exact .next h.cabMem
  | cabenWrite => exact .next h.cabMem
  | cabenAtomicAdd => exact .next h.cabAtomic
  | cabenAtomicSwap => exact .next h.cabAtomic
  | streamRead => exact h.execStreamRead
  | streamWrite => exact .next (by split; exacts [h, .ite h (.ite h.cabFinish h.txWords.cabFinish)])
  | load => exact .next (h.cabRow fun _ _ hu => .ite hu (.writeLoadCtl (.ite hu.setPkt.ww hu.setPkt)))
  | streamImage => exact h.execStreamImage
  | store => exact h.execStore
  | goldenUnlock => exact .next (h.cabRow fun _ _ hu => .ite hu.cabFinish (.ite hu.cabFinish hu.wf.cabFinish))
  | fwStart => exact h.execFwStart
  | nvRead => exact .next (h.cabRow fun _ _ hu => by split <;> exact hu.cabFinish)
  | nvWrite => exact h.execNvWrite
  | repairAdd => exact h.execRepairAdd
  | fuseBlow => exact h.execFuseBlow
  | resetIsland => exact h.execResetIsland
  | resetMaltster => exact .next (h.cabRow fun _ _ hu => .ite hu hu.cabReset.upd)
  | resetDevice => exact .next (h.cabRow fun _ _ hu => .ite hu hu.cabReset.askReset)
  | faultRead => exact .next (h.cabRow fun _ _ hu => .cabFinish (.ite hu.setFm hu))
  | cabenTimeout => exact h.execCabenTimeout
  | cabenCtlWrite => exact .next (.ite h (.ite h.writeCaben h.regRefuse))
  | seqNop => exact .next h.seqRow
  | seqAdd => exact .next h.seqRow
  | seqSub => exact .next h.seqRow
  | seqAnd => exact .next h.seqRow
  | seqOr => exact .next h.seqRow
  | seqXor => exact .next h.seqRow
  | seqShl => exact .next h.seqRow
  | seqShr => exact .next h.seqRow
  | seqSar => exact .next h.seqRow
  | seqMulu => exact .next h.seqRow
  | seqMuls => exact .next h.seqRow
  | seqCmp => exact .next h.seqRow
  | seqAddi => exact .next h.seqRow
  | seqCmpi => exact .next h.seqRow
  | seqAndi => exact .next h.seqRow
  | seqOri => exact .next h.seqRow
  | seqXori => exact .next h.seqRow
  | seqShli => exact .next h.seqRow
  | seqShri => exact .next h.seqRow
  | seqSari => exact .next h.seqRow
  | seqLdi => exact .next h.seqRow
  | seqLih => exact .next h.seqRow
  | seqLdl => exact .next h.seqRow
  | seqStl => exact .next h.seqRow
  | seqLdg => exact .next h.seqRow
  | seqStg => exact .next h.seqRow
  | storeQueueIssue => exact h.execStoreQueueIssue
  | seqAadd => exact .next h.seqRow
  | seqAswp => exact .next h.seqRow
  | seqStln => exact .next h.seqRow
  | seqSync => exact .next h.seqRow
  | seqMbr => exact .next h.seqRow
  | seqMbw => exact .next h.seqRow
  | seqRsr => exact .next h.seqRow
  | seqWsr => exact .next h.seqRow
  | seqB => exact .next h.seqRow
  | seqCall => exact .next h.seqRow
  | seqJr => exact .next h.seqRow
  | seqRet => exact .next h.seqRow
  | seqReti => exact .next h.seqRow
  | seqWait => exact .next h.seqRow
  | seqHalt => exact .next h.seqRow
  | seqBrk => exact .next h.seqRow
  | interruptEntry => exact .next (.ite (by split; exacts [h.seqInterrupt, h]) h)
  | seqTimer => exact .next (.ite h h.setCore.setPend)
  | seqTcmp => exact .next (.ite h.setCore.setPend h)
  | seqDoorbellWrite => exact .next (.ite h (.ite h.writeDoorbell h.regRefuse))
  | seqHaltRequest => exact .next h.seqCtlOut
  | seqResume => exact .next h.seqCtlOut
  | seqStep => exact .next h.seqCtlOut
  | seqCtlReset => exact .next h.seqCtlOut
  | seqMemDataRead => exact .next h.readMemData
  | seqMemDataWrite => exact .next (.ite h.writeMemData h.regRefuse)
  | tapReset => exact .next h.setDbg
  | idcode => exact .next h.tapSelect.setDbg
  | samplePreload => exact .next (.ite h.tapSelect.setDbg h.tapSelect)
  | extest => exact .next (.ite h.tapTake.setDbg h.tapTake)
  | clamp => exact .next h.tapTake
  | highz => exact .next h.tapTake
  | bypass => exact .next h.tapSelect
  | dbgAccess => exact .next h.tapSelect
  | dbgAccessRead => exact h.execDbgAccessRead
  | dbgAccessWrite => exact .next (.ite h (.ite h.setDbg h.post.setDbg))
  | dbgAccessCapture => exact .next (.ite h h.setDbg)
  | maltChallenge => exact .next (.ite h.tapSelect.setDbg h.tapSelect)
  | maltResponse => exact h.execMaltResponse
  | maltDbg => exact .next (.ite (.ite h.tapSelect.free.setDbg h.tapSelect) h.tapSelect)
  | descriptorFetch => exact .next (.ite h.descFetch h)
  | engineTurn => exact h.execEngineTurn
  | claim => exact .next (by split; exacts [h, .ite h.setLand.respond h])
  | release => exact .next (by split; exacts [.ite h.releaseAt h, h])
  | windowReread => exact .next (by split; exacts [.ite h.setCtx h, h])
  | instanceReset => exact .next (.ite h.writeInstCtl h.regRefuse)
  | instanceResetComplete => exact .next (.ite h (.ite h.wf.incE.ww.raise.instReset h.wf.incE.ww.raise.wf))
  | instMembershipWrite => exact .next (.ite h.writeMembers h.regRefuse)
  | gatewayAccept => exact h.execGatewayAccept
  | gwReq => exact .next (h.systemRow fun _ _ hu => hu.gwCell)
  | gwResp => exact .next (h.systemRow fun _ _ hu => hu.gwCell)
  | gwCredit => exact h.execGwCredit
  | timeSyncExchange => exact .next (by split; exacts [h, .ite h h.upd.sysPush])
  | timeReq => exact .next (h.systemRow fun _ _ hu => hu.sysPush)
  | timeResp => exact h.execTimeResp
  | joinTimeout => exact .next (by split; exacts [h, .ite h.becomeActive h])
  | rackingCut => exact h.execRackingCut
  | rackingCopyStart => exact .next (.ite h.wf.setDup.rackStep (.ite h.rackStep h))
  | rackData => exact .next (h.systemRow fun _ _ hu => .ite hu hu.setDup.wf.post)
  | rackCommit => exact h.execRackCommit
  | rackingCommitComplete => exact h.execRackingCommitComplete
  | rackAck => exact .next (h.systemRow fun _ _ hu => .ite hu hu.incE.setDup.doYield)
  | heartbeatSend => exact .next (.ite h.sysFront.setDup h)
  | heartbeat => exact h.execHeartbeat
  | heartbeatMiss => exact .next (.ite h (.ite h.wf.incE.setDup.takeover h.wf.incE.setDup))
  | handoverInLow => exact .next (.ite h.wf.takeover h.wf)
  | handoverInRise => exact .next (.ite h.wf.dualActive h.wf)
  | yieldWrite => exact .next (.ite h.writeDupCtl h.regRefuse)
  | faultEvent => exact h.execFaultEvent
  | faultClassify => exact h.execFaultClassify
  | faultWindowClose => exact .next (.ite h.wf.wf h)
  | quietPeriodExpiry => exact .next (.ite h (.incE (.fmClear (.ite h.logRec h))))
  | shadowEnd => exact .next (by split; exacts [h, .ite h (.foldl h.upd fun _ _ hu => .ite hu.logRec hu)])
  | force => exact .next h.srcCtlOut
  | clear => exact .next h.srcCtlOut
  | pop => exact .next (.ite h.writeLogCtl h.regRefuse)
  | timeClockTick => exact .next h.tick
  | seqIllegalInstruction => exact .next h.seqBad
  | seqFetchInvalid => exact .next h.seqBad
  | prbsCheckerLock => exact .next (.ite h h.lanePass)
  | prbsLockLost => exact .next (.ite h.lanePass h)
  | receiverReady => exact .next (.ite h (.ite (.wf (.setLane (.ite h.ww h))) (.setLane (.ite h.ww h))))
  | macBlockLock => exact .next (.ite h h.wf.wf.wf.wf)
  | laneSignalPresent => exact .next h.wf
  | supplyWithinRange => exact .next h.setRail
  | channel0OpenRetry => exact .next h.openCh0

end

/-- A step keeps the canonical form: of the empty queue it is a tick of the fabric, else the first command. -/
theorem step_wf {s t : State} (hwf : Memory.wf s.mem = true) (hstep : step s = .next t) : Memory.wf t.mem = true := by
  unfold step at hstep
  split at hstep
  · cases hstep
    exact (Kept.refl s).fabricTick.mem hwf
  · next c rest _ =>
    obtain ⟨u, hu, hkept⟩ := (Kept.refl { s with pending := rest }).exec c
    cases hu.symm.trans hstep
    exact hkept.mem hwf

/-- Settles O60: every function that changes the state keeps the canonical form, and a step is made of them. -/
theorem everyStepKeepsMemoryInItsForm : Obligations.EveryStepKeepsMemoryInItsForm :=
  fun _ _ hwf hstep => step_wf hwf hstep

end Sys2Proof.Machine
end

section
/-!
SUPPORT. Islands and crossings: proofs of the statements O7, O8, O9 and O10. The rules of the adaptive loop come first, then
those of resets, of RUN and of the logic edge.
-/
namespace Sys2Proof.Machine

/-! ## Fields and registers kept -/

theorem State.rf_lt (s : State) (f : Fld) (d i j : Nat) : s.rf f d i j < 2 ^ f.width := f.get_lt _

/-- A value that fits its field reads as it was written. -/
theorem State.rf_wf_fits (s : State) (f : Fld) (v d i j : Nat) (hok : f.ok = true) (hv : v < 2 ^ f.width) :
    (s.wf f v d i j).rf f d i j = v := by
  rw [State.rf_wf_same _ _ _ _ _ _ hok, Nat.mod_eq_of_lt hv]

theorem RegsKept.incE {s t : State} {rs : List Reg} (h : RegsKept s t rs) (f : Fld) (d i j n : Nat)
    (hf : (⟨f.reg, d, i, j⟩ : Reg) ∈ rs) : RegsKept s (t.incE f d i j n) rs := by
  intro q hq
  have hne : q ≠ ⟨f.reg, d, i, j⟩ := by rintro rfl; exact hq hf
  rw [State.reg_incE_ne _ _ _ _ _ _ _ hne]
  exact h q hq

theorem RegsKept.setIsland {s t : State} {rs : List Reg} (h : RegsKept s t rs) (d i : Nat) (x : Isl) :
    RegsKept s (t.setIsland d i x) rs := by
  intro q hq
  rw [State.setIsland_reg]
  exact h q hq

theorem RegsKept.raise {s t : State} {rs : List Reg} (h : RegsKept s t rs) (src : FaultSrc) (d u x : Nat) :
    RegsKept s (t.raise src d u x) rs := by
  intro q hq
  rw [State.raise_reg]
  exact h q hq

theorem RegsKept.trans {s t u : State} {rs : List Reg} (h : RegsKept s t rs) (h' : RegsKept t u rs) : RegsKept s u rs :=
  fun q hq => (h' q hq).trans (h q hq)

theorem RegsKept.mono {s t : State} {rs rs' : List Reg} (h : RegsKept s t rs) (hsub : ∀ q ∈ rs, q ∈ rs') : RegsKept s t rs' :=
  fun q hq => h q fun hmem => hq (hsub q hmem)

/-- An event raised joins the fault line. -/
theorem State.raise_line (s : State) (src : FaultSrc) (d u x : Nat) :
    (s.raise src d u x).faultLine = s.faultLine ++ [faultEv src d u x] := rfl

/-- A field written changes the register file only. -/
theorem State.wf_frame (s : State) (f : Fld) (v d i j : Nat) : ∃ m, s.wf f v d i j = { s with regs := m } := ⟨_, rfl⟩

/-! ## The limits of the adaptive loop -/

theorem State.sMax_congr {s t : State} {d i : Nat}
    (hrun : t.rf F.ISL_CLK_STAT_FREQ_RUN d i = s.rf F.ISL_CLK_STAT_FREQ_RUN d i)
    (hfloor : t.rf F.ISL_CLK_STAT_FLOOR_EFF d i = s.rf F.ISL_CLK_STAT_FLOOR_EFF d i)
    (hact : t.rf F.ISL_CLK_STAT_BREACH_ACTIVE d i = s.rf F.ISL_CLK_STAT_BREACH_ACTIVE d i)
    (hst : t.rf F.ISL_CLK_STAT_STRETCH d i = s.rf F.ISL_CLK_STAT_STRETCH d i) : t.sMax d i = s.sMax d i := by
  unfold State.sMax State.rb
  rw [hrun, hfloor, hact, hst]

theorem sMaxPlain_le (run floor : Nat) : sMaxPlain run floor ≤ 16 := by
  unfold sMaxPlain
  split
  · exact Nat.zero_le _
  · exact Nat.min_le_left _ _

/-- The stretch limit fits the field of the stretch. -/
theorem State.sMax_lt (s : State) (d i : Nat) : s.sMax d i < 2 ^ F.ISL_CLK_STAT_STRETCH.width := by
  have hplain := sMaxPlain_le (s.rf F.ISL_CLK_STAT_FREQ_RUN d i) (s.rf F.ISL_CLK_STAT_FLOOR_EFF d i)
  have hst := s.rf_lt F.ISL_CLK_STAT_STRETCH d i 0
  have hwidth : 16 < 2 ^ F.ISL_CLK_STAT_STRETCH.width := by decide
  unfold State.sMax
  dsimp only
  split
  · exact max_lt (hplain.trans_lt hwidth) hst
  · exact hplain.trans_lt hwidth

/-- A stretched cycle is no faster than its code. -/
theorem floorOf_le (c st : Nat) : floorOf c st ≤ c := by
  have hdiv : 64 * codeMhz c / (64 + st) ≤ codeMhz c :=
    Nat.div_le_of_le_mul (Nat.mul_le_mul_right _ (Nat.le_add_right _ _))
  unfold floorOf
  unfold codeMhz at hdiv ⊢
  omega

theorem State.effTarget_le (s : State) (d i : Nat) : s.effTarget d i ≤ s.rf F.ISL_CLK_CTL_TARGET d i := by
  unfold State.effTarget
  dsimp only
  split <;> simp

/-- The effective target does not depend on the clock status. -/
theorem State.effTarget_wf (s : State) (f : Fld) (v d i d' i' : Nat) (hok : f.ok = true) (hf : f.reg = .ISL_CLK_STAT) :
    (s.wf f v d' i').effTarget d i = s.effTarget d i := by
  have hreg : ∀ g : Fld, g.reg ≠ .ISL_CLK_STAT → f.apart g = true := by
    intro g hg
    unfold Fld.apart
    simp [hf, Ne.symm hg]
  unfold State.effTarget
  rw [State.rf_wf_apart _ _ F.ISL_CLK_CTL_TARGET _ _ _ _ _ _ _ hok (hreg _ (by decide)),
    State.rf_wf_apart _ _ F.FAB_ISL_LIMIT_LIMIT_CODE _ _ _ _ _ _ _ hok (hreg _ (by decide)),
    State.rf_wf_apart _ _ F.THERM_DIE_LEVEL _ _ _ _ _ _ _ hok (hreg _ (by decide)),
    State.rf_wf_apart _ _ F.THERM_CTL_THR_CODE _ _ _ _ _ _ _ hok (hreg _ (by decide))]

@[simp] theorem State.effTarget_setIsland (s : State) (d i d' i' : Nat) (x : Isl) :
    (s.setIsland d' i' x).effTarget d i = s.effTarget d i := rfl

/-! ## What every cycle of a class does -/

/-- The `n` cycles are counted if they are stretched, their class is shown, and the AMPLE cycles are counted anew (R113, R167,
R168). -/
def State.showSlack (s : State) (d i n c : Nat) : State :=
  ((s.countStretch d i n).wf F.ISL_CLK_STAT_SLACK c d i).setAmple d i 0

section
variable (s : State) (d i n c : Nat)

theorem State.countStretch_frame : ∃ m, s.countStretch d i n = { s with regs := m } := by
  unfold State.countStretch
  split
  · exact ⟨_, rfl⟩
  · exact s.incE_frame _ _ _ _ _

theorem State.rf_countStretch (g : Fld) (d' i' : Nat) (hg : g.reg ≠ .ISL_STRETCH_CNT) :
    (s.countStretch d i n).rf g d' i' = s.rf g d' i' := by
  unfold State.countStretch
  split
  · rfl
  · exact s.rf_incE_name _ g _ _ _ _ _ _ _ hg.symm

theorem State.countStretch_kept (rs : List Reg) (hcnt : ⟨.ISL_STRETCH_CNT, d, i, 0⟩ ∈ rs) :
    RegsKept s (s.countStretch d i n) rs := by
  unfold State.countStretch
  split
  · exact .refl s rs
  · exact (RegsKept.refl s rs).incE _ _ _ _ _ hcnt

theorem State.showSlack_frame :
    ∃ m, s.showSlack d i n c = { s with regs := m, isl := (s.setIsland d i { s.island d i with ample := 0 }).isl } := by
  obtain ⟨m, hm⟩ := s.countStretch_frame d i n
  obtain ⟨m', hm'⟩ := (s.countStretch d i n).wf_frame F.ISL_CLK_STAT_SLACK c d i 0
  unfold State.showSlack
  rw [hm', hm]
  exact ⟨m', rfl⟩

theorem State.showSlack_kept (rs : List Reg) (hstat : ⟨.ISL_CLK_STAT, d, i, 0⟩ ∈ rs) (hcnt : ⟨.ISL_STRETCH_CNT, d, i, 0⟩ ∈ rs) :
    RegsKept s (s.showSlack d i n c) rs := by
  unfold State.showSlack State.setAmple
  exact ((s.countStretch_kept d i n rs hcnt).wf _ _ _ _ _ hstat).setIsland _ _ _

theorem State.rf_showSlack (g : Fld) (d' i' : Nat) (hslack : F.ISL_CLK_STAT_SLACK.apart g = true)
    (hg : g.reg ≠ .ISL_STRETCH_CNT) : (s.showSlack d i n c).rf g d' i' = s.rf g d' i' := by
  unfold State.showSlack State.setAmple
  rw [State.setIsland_rf, State.rf_wf_apart _ _ _ _ _ _ _ _ _ _ rfl hslack, s.rf_countStretch _ _ _ _ _ _ hg]

theorem State.rf_showSlack_slack : (s.showSlack d i n c).rf F.ISL_CLK_STAT_SLACK d i = c % 4 := by
  unfold State.showSlack State.setAmple
  rw [State.setIsland_rf]
  exact State.rf_wf_same _ _ _ _ _ _ rfl

theorem State.sMax_showSlack : (s.showSlack d i n c).sMax d i = s.sMax d i :=
  State.sMax_congr (s.rf_showSlack _ _ _ _ _ _ _ rfl (by decide)) (s.rf_showSlack _ _ _ _ _ _ _ rfl (by decide))
    (s.rf_showSlack _ _ _ _ _ _ _ rfl (by decide)) (s.rf_showSlack _ _ _ _ _ _ _ rfl (by decide))

/-- A cycle of class `c` that moves the stretch to `v` changes the island's clock status and its counter only. -/
theorem State.showSlack_stretch (v : Nat) (hc : c < 4) (hv : v < 2 ^ F.ISL_CLK_STAT_STRETCH.width) (t : State)
    (ht : t = (s.showSlack d i n c).wf F.ISL_CLK_STAT_STRETCH v d i) :
    t.rf F.ISL_CLK_STAT_SLACK d i = c ∧ t.rf F.ISL_CLK_STAT_STRETCH d i = v ∧
      t.rf F.ISL_CLK_STAT_FREQ_RUN d i = s.rf F.ISL_CLK_STAT_FREQ_RUN d i ∧
      t = { s with regs := t.regs, isl := (s.setIsland d i { s.island d i with ample := 0 }).isl } ∧
      RegsKept s t [⟨.ISL_CLK_STAT, d, i, 0⟩, ⟨.ISL_STRETCH_CNT, d, i, 0⟩] := by
  subst ht
  refine ⟨?_, State.rf_wf_fits _ _ _ _ _ _ rfl hv, ?_, ?_,
    (s.showSlack_kept d i n c _ (.head _) (.tail _ (.head _))).wf F.ISL_CLK_STAT_STRETCH v d i 0 (.head _)⟩
  · rw [State.rf_wf_apart _ _ _ _ _ _ _ _ _ _ rfl rfl, s.rf_showSlack_slack, Nat.mod_eq_of_lt hc]
  · rw [State.rf_wf_apart _ _ _ _ _ _ _ _ _ _ rfl rfl, s.rf_showSlack _ _ _ _ _ _ _ rfl (by decide)]
  · obtain ⟨m, hm⟩ := s.showSlack_frame d i n c
    rw [hm]
    rfl

end

/-! ## LOW, CRITICAL and AMPLE cycles -/

section
variable (s : State) (d i : Nat)

theorem State.slackLow_eq : s.slackLow d i =
    (s.showSlack d i 1 1).wf F.ISL_CLK_STAT_STRETCH (min (s.rf F.ISL_CLK_STAT_STRETCH d i + 1) (s.sMax d i)) d i := by
  rw [← s.sMax_showSlack d i 1 1, ← s.rf_showSlack d i 1 1 F.ISL_CLK_STAT_STRETCH d i rfl (by decide)]
  rfl

theorem State.stretchDecay_eq : s.stretchDecay d i =
    (s.showSlack d i (256 - (s.island d i).ample) 0).wf F.ISL_CLK_STAT_STRETCH (s.rf F.ISL_CLK_STAT_STRETCH d i - 1) d i := by
  rw [← s.rf_showSlack d i (256 - (s.island d i).ample) 0 F.ISL_CLK_STAT_STRETCH d i rfl (by decide)]
  rfl

/-- The three things a CRITICAL cycle can do (R113, R116, R119). -/
theorem State.slackCritical_eq : s.slackCritical d i =
    if s.rf F.ISL_CLK_STAT_STRETCH d i = 16 ∧ s.rf F.ISL_CLK_STAT_FREQ_RUN d i = 0 then
      (s.showSlack d i 1 2).raise .islandSlackExhausted d i
    else if s.rf F.ISL_CLK_STAT_STRETCH d i ≠ s.sMax d i then
      (s.showSlack d i 1 2).wf F.ISL_CLK_STAT_STRETCH (s.sMax d i) d i
    else (s.showSlack d i 1 2).breachStep d i := by
  rw [← s.sMax_showSlack d i 1 2, ← s.rf_showSlack d i 1 2 F.ISL_CLK_STAT_STRETCH d i rfl (by decide),
    ← s.rf_showSlack d i 1 2 F.ISL_CLK_STAT_FREQ_RUN d i rfl (by decide)]
  rfl

end

/-! ## Breaches -/

/-- The first breach step below stretch 16: one more stretch, and the floor in force at the stretched frequency (R116). -/
def State.lowerFloor (s : State) (d i : Nat) : State :=
  (((s.wf F.ISL_CLK_STAT_STRETCH (s.rf F.ISL_CLK_STAT_STRETCH d i + 1) d i).wf F.ISL_CLK_STAT_FLOOR_EFF
    (floorOf (s.rf F.ISL_CLK_STAT_FREQ_RUN d i) (s.rf F.ISL_CLK_STAT_STRETCH d i + 1)) d i).wf
    F.ISL_CLK_STAT_BREACH_ACTIVE 1 d i).wf F.ISL_CLK_STAT_BREACH_STICKY 1 d i

section
variable (s : State) (d i : Nat)

theorem State.breachStep_first (hlim : s.sMax d i < 16) (hact : s.rf F.ISL_CLK_STAT_BREACH_ACTIVE d i = 0) :
    s.breachStep d i = (((s.lowerFloor d i).incE F.ISL_BREACH_CNT_COUNT d i).setIsland d i
      { s.island d i with returning := false }).raise .islandFloorBreach d i := by
  unfold State.breachStep
  rw [State.rb_of_rf_zero hact]
  dsimp only
  rw [if_pos hlim, if_pos Bool.not_false, State.wf_island, State.wf_island, State.wf_island, State.wf_island]
  rfl

theorem State.lowerFloor_spec (hlim : s.rf F.ISL_CLK_STAT_STRETCH d i < 16) :
    (s.lowerFloor d i).rf F.ISL_CLK_STAT_STRETCH d i = s.rf F.ISL_CLK_STAT_STRETCH d i + 1 ∧
      (s.lowerFloor d i).rf F.ISL_CLK_STAT_FLOOR_EFF d i =
        floorOf (s.rf F.ISL_CLK_STAT_FREQ_RUN d i) (s.rf F.ISL_CLK_STAT_STRETCH d i + 1) ∧
      (s.lowerFloor d i).rf F.ISL_CLK_STAT_BREACH_ACTIVE d i = 1 ∧ (s.lowerFloor d i).rf F.ISL_CLK_STAT_BREACH_STICKY d i = 1 := by
  have hst : s.rf F.ISL_CLK_STAT_STRETCH d i + 1 < 2 ^ F.ISL_CLK_STAT_STRETCH.width := by
    change _ < 32
    omega
  have hfloor := (floorOf_le (s.rf F.ISL_CLK_STAT_FREQ_RUN d i) (s.rf F.ISL_CLK_STAT_STRETCH d i + 1)).trans_lt
    (show s.rf F.ISL_CLK_STAT_FREQ_RUN d i < 2 ^ F.ISL_CLK_STAT_FLOOR_EFF.width from s.rf_lt F.ISL_CLK_STAT_FREQ_RUN d i 0)
  unfold State.lowerFloor
  refine ⟨?_, ?_, ?_, State.rf_wf_fits _ _ _ _ _ _ rfl (by decide)⟩
  · rw [State.rf_wf_apart _ _ _ _ _ _ _ _ _ _ rfl rfl, State.rf_wf_apart _ _ _ _ _ _ _ _ _ _ rfl rfl,
      State.rf_wf_apart _ _ _ _ _ _ _ _ _ _ rfl rfl, State.rf_wf_fits _ _ _ _ _ _ rfl hst]
  · rw [State.rf_wf_apart _ _ _ _ _ _ _ _ _ _ rfl rfl, State.rf_wf_apart _ _ _ _ _ _ _ _ _ _ rfl rfl,
      State.rf_wf_fits _ _ _ _ _ _ rfl hfloor]
  · rw [State.rf_wf_apart _ _ _ _ _ _ _ _ _ _ rfl rfl, State.rf_wf_fits _ _ _ _ _ _ rfl (by decide)]

/-- The first breach step below stretch 16, counted: what the clock status holds, and what is left alone. -/
theorem State.lowerFloor_counted (hlim : s.rf F.ISL_CLK_STAT_STRETCH d i < 16) (t : State)
    (ht : t = (s.lowerFloor d i).incE F.ISL_BREACH_CNT_COUNT d i) :
    t.rf F.ISL_CLK_STAT_STRETCH d i = s.rf F.ISL_CLK_STAT_STRETCH d i + 1 ∧
      t.rf F.ISL_CLK_STAT_FLOOR_EFF d i = floorOf (s.rf F.ISL_CLK_STAT_FREQ_RUN d i) (s.rf F.ISL_CLK_STAT_STRETCH d i + 1) ∧
      t.rf F.ISL_CLK_STAT_BREACH_ACTIVE d i = 1 ∧ t.rf F.ISL_CLK_STAT_BREACH_STICKY d i = 1 ∧
      OnlyRegs s t [⟨.ISL_CLK_STAT, d, i, 0⟩, ⟨.ISL_STRETCH_CNT, d, i, 0⟩, ⟨.ISL_BREACH_CNT, d, i, 0⟩] := by
  subst ht
  have hcnt : ∀ g : Fld, g.reg ≠ .ISL_BREACH_CNT →
      ((s.lowerFloor d i).incE F.ISL_BREACH_CNT_COUNT d i).rf g d i = (s.lowerFloor d i).rf g d i :=
    fun g hg => State.rf_incE_name _ _ g _ _ _ _ _ _ _ hg.symm
  have hmem : (⟨.ISL_CLK_STAT, d, i, 0⟩ : Reg) ∈
      [(⟨.ISL_CLK_STAT, d, i, 0⟩ : Reg), ⟨.ISL_STRETCH_CNT, d, i, 0⟩, ⟨.ISL_BREACH_CNT, d, i, 0⟩] := .head _
  rw [hcnt _ (by decide), hcnt _ (by decide), hcnt _ (by decide), hcnt _ (by decide)]
  obtain ⟨hst, hfloor, hact, hsticky⟩ := s.lowerFloor_spec d i hlim
  refine ⟨hst, hfloor, hact, hsticky, OnlyRegs.incE ?_ _ _ _ _ _ (.tail _ (.tail _ (.head _)))⟩
  exact ((((OnlyRegs.refl s _).wf _ _ _ _ _ hmem).wf _ _ _ _ _ hmem).wf _ _ _ _ _ hmem).wf _ _ _ _ _ hmem

/-- A CRITICAL cycle at the limit takes the first breach step (R116). -/
theorem State.slackCritical_breach (hst : s.rf F.ISL_CLK_STAT_STRETCH d i = s.sMax d i) (hlim : s.sMax d i < 16)
    (hact : s.rf F.ISL_CLK_STAT_BREACH_ACTIVE d i = 0) (t : State) (ht : t = s.slackCritical d i) :
    t.rf F.ISL_CLK_STAT_STRETCH d i = s.sMax d i + 1 ∧
      t.rf F.ISL_CLK_STAT_FLOOR_EFF d i = floorOf (s.rf F.ISL_CLK_STAT_FREQ_RUN d i) (s.sMax d i + 1) ∧
      t.rf F.ISL_CLK_STAT_BREACH_ACTIVE d i = 1 ∧ t.rf F.ISL_CLK_STAT_BREACH_STICKY d i = 1 ∧
      t.faultLine = s.faultLine ++ [faultEv .islandFloorBreach d i 0] ∧
      t = { s with regs := t.regs, isl := t.isl, faultLine := t.faultLine } ∧
      RegsKept s t [⟨.ISL_CLK_STAT, d, i, 0⟩, ⟨.ISL_STRETCH_CNT, d, i, 0⟩, ⟨.ISL_BREACH_CNT, d, i, 0⟩] := by
  have hkept := s.showSlack_kept d i 1 2 [⟨.ISL_CLK_STAT, d, i, 0⟩, ⟨.ISL_STRETCH_CNT, d, i, 0⟩, ⟨.ISL_BREACH_CNT, d, i, 0⟩]
    (.head _) (.tail _ (.head _))
  have hrun := s.rf_showSlack d i 1 2 F.ISL_CLK_STAT_FREQ_RUN d i rfl (by decide)
  have hst' := (s.rf_showSlack d i 1 2 F.ISL_CLK_STAT_STRETCH d i rfl (by decide)).trans hst
  have hact' := (s.rf_showSlack d i 1 2 F.ISL_CLK_STAT_BREACH_ACTIVE d i rfl (by decide)).trans hact
  have hlim' : (s.showSlack d i 1 2).sMax d i < 16 := (s.sMax_showSlack d i 1 2).trans_lt hlim
  obtain ⟨m, hm⟩ := s.showSlack_frame d i 1 2
  rw [s.slackCritical_eq, if_neg (by omega), if_neg (by omega), State.breachStep_first _ d i hlim' hact'] at ht
  generalize s.showSlack d i 1 2 = u at *
  obtain ⟨h1, h2, h3, h4, hframe, hkept'⟩ := u.lowerFloor_counted d i (hst'.trans_lt hlim) _ rfl
  generalize (u.lowerFloor d i).incE F.ISL_BREACH_CNT_COUNT d i = v at *
  rw [hst'] at h1 h2
  rw [hrun] at h2
  subst ht
  have hrf : ∀ g : Fld, ((v.setIsland d i { u.island d i with returning := false }).raise .islandFloorBreach d i).rf g d i = v.rf g d i :=
    fun g => by rw [State.raise_rf, State.setIsland_rf]
  refine ⟨(hrf _).trans h1, (hrf _).trans h2, (hrf _).trans h3, (hrf _).trans h4, ?_, ?_, ((hkept.trans hkept').setIsland d i _).raise _ _ _ _⟩
  · have hu : u.faultLine = s.faultLine := by rw [hm]
    have hv : v.faultLine = u.faultLine := by rw [hframe]
    rw [State.raise_line, State.setIsland_faultLine, hv, hu]
  · obtain ⟨r, rfl⟩ : ∃ r, v = { u with regs := r } := ⟨_, hframe⟩
    subst hm
    rfl

/-- A CRITICAL cycle below the limit moves the stretch there (R113). -/
theorem State.slackCritical_raises (hst : s.rf F.ISL_CLK_STAT_STRETCH d i ≠ s.sMax d i)
    (hleft : ¬ (s.rf F.ISL_CLK_STAT_STRETCH d i = 16 ∧ s.rf F.ISL_CLK_STAT_FREQ_RUN d i = 0)) :
    s.slackCritical d i = (s.showSlack d i 1 2).wf F.ISL_CLK_STAT_STRETCH (s.sMax d i) d i := by
  rw [s.slackCritical_eq, if_neg hleft, if_pos hst]

/-- A CRITICAL cycle with nothing left to lower raises island-slack-exhausted alone (R119, log 25). -/
theorem State.slackCritical_exhausted (hrun : s.rf F.ISL_CLK_STAT_FREQ_RUN d i = 0) (hst : s.rf F.ISL_CLK_STAT_STRETCH d i = 16)
    (t : State) (ht : t = s.slackCritical d i) :
    t.faultLine = s.faultLine ++ [faultEv .islandSlackExhausted d i 0] ∧
      t.rf F.ISL_CLK_STAT_FREQ_RUN d i = 0 ∧ t.rf F.ISL_CLK_STAT_STRETCH d i = 16 ∧
      t.rf F.ISL_CLK_STAT_FLOOR_EFF d i = s.rf F.ISL_CLK_STAT_FLOOR_EFF d i ∧
      t = { s with regs := t.regs, isl := (s.setIsland d i { s.island d i with ample := 0 }).isl, faultLine := t.faultLine } ∧
      RegsKept s t [⟨.ISL_CLK_STAT, d, i, 0⟩, ⟨.ISL_STRETCH_CNT, d, i, 0⟩] := by
  have hkept := s.showSlack_kept d i 1 2 [⟨.ISL_CLK_STAT, d, i, 0⟩, ⟨.ISL_STRETCH_CNT, d, i, 0⟩] (.head _) (.tail _ (.head _))
  have hrun' := (s.rf_showSlack d i 1 2 F.ISL_CLK_STAT_FREQ_RUN d i rfl (by decide)).trans hrun
  have hst' := (s.rf_showSlack d i 1 2 F.ISL_CLK_STAT_STRETCH d i rfl (by decide)).trans hst
  have hfloor := s.rf_showSlack d i 1 2 F.ISL_CLK_STAT_FLOOR_EFF d i rfl (by decide)
  obtain ⟨m, hm⟩ := s.showSlack_frame d i 1 2
  rw [s.slackCritical_eq, if_pos ⟨hst, hrun⟩] at ht
  generalize s.showSlack d i 1 2 = u at *
  have hline : u.faultLine = s.faultLine := by rw [hm]
  subst ht
  refine ⟨?_, (u.raise_rf ..).trans hrun', (u.raise_rf ..).trans hst', (u.raise_rf ..).trans hfloor, ?_, hkept.raise _ _ _ _⟩
  · rw [State.raise_line, hline]
  · subst hm
    rfl

end

/-! ## The running code -/

/-- The running code one step nearer to the effective target (R109). -/
def State.runStep (s : State) (d i : Nat) : State :=
  if s.effTarget d i < s.rf F.ISL_CLK_STAT_FREQ_RUN d i then s.wf F.ISL_CLK_STAT_FREQ_RUN (s.rf F.ISL_CLK_STAT_FREQ_RUN d i - 1) d i
  else if s.rf F.ISL_CLK_STAT_FREQ_RUN d i < s.effTarget d i then
    s.wf F.ISL_CLK_STAT_FREQ_RUN (s.rf F.ISL_CLK_STAT_FREQ_RUN d i + 1) d i
  else s

section
variable (s : State) (d i : Nat)

theorem State.rf_runStep_run : (s.runStep d i).rf F.ISL_CLK_STAT_FREQ_RUN d i =
    if s.effTarget d i < s.rf F.ISL_CLK_STAT_FREQ_RUN d i then s.rf F.ISL_CLK_STAT_FREQ_RUN d i - 1
    else if s.rf F.ISL_CLK_STAT_FREQ_RUN d i < s.effTarget d i then s.rf F.ISL_CLK_STAT_FREQ_RUN d i + 1
    else s.effTarget d i := by
  have hrun : s.rf F.ISL_CLK_STAT_FREQ_RUN d i < 2 ^ F.ISL_CLK_STAT_FREQ_RUN.width := s.rf_lt _ _ _ _
  have htgt : s.effTarget d i < 2 ^ F.ISL_CLK_STAT_FREQ_RUN.width :=
    (s.effTarget_le d i).trans_lt (s.rf_lt F.ISL_CLK_CTL_TARGET d i 0)
  unfold State.runStep
  split
  · exact State.rf_wf_fits _ _ _ _ _ _ rfl (by omega)
  · split
    · exact State.rf_wf_fits _ _ _ _ _ _ rfl (by omega)
    · omega

theorem State.rf_runStep_active : (s.runStep d i).rf F.ISL_CLK_STAT_BREACH_ACTIVE d i = s.rf F.ISL_CLK_STAT_BREACH_ACTIVE d i := by
  unfold State.runStep
  split
  · exact State.rf_wf_apart _ _ _ _ _ _ _ _ _ _ rfl rfl
  · split
    · exact State.rf_wf_apart _ _ _ _ _ _ _ _ _ _ rfl rfl
    · rfl

theorem State.runStep_only : OnlyRegs s (s.runStep d i) [⟨.ISL_CLK_STAT, d, i, 0⟩] := by
  have hstep : ∀ v, OnlyRegs s (s.wf F.ISL_CLK_STAT_FREQ_RUN v d i) [⟨.ISL_CLK_STAT, d, i, 0⟩] :=
    fun v => (OnlyRegs.refl s _).wf _ _ _ _ _ (.head _)
  unfold State.runStep
  split
  · exact hstep _
  · split
    · exact hstep _
    · exact .refl s _

theorem OnlyRegs.clampStretch {s t : State} {rs : List Reg} (h : OnlyRegs s t rs) (d i : Nat)
    (hmem : ⟨.ISL_CLK_STAT, d, i, 0⟩ ∈ rs) : OnlyRegs s (t.clampStretch d i) rs := by
  unfold State.clampStretch
  split
  · exact h.wf _ _ _ _ _ hmem
  · exact h

theorem State.rf_clampStretch (g : Fld) (d' i' : Nat) (hg : F.ISL_CLK_STAT_STRETCH.apart g = true) :
    (s.clampStretch d i).rf g d' i' = s.rf g d' i' := by
  unfold State.clampStretch
  split
  · exact State.rf_wf_apart _ _ _ _ _ _ _ _ _ _ rfl hg
  · rfl

/-- Outside a breach there is none to end. -/
theorem State.breachEnd_inactive (hact : s.rf F.ISL_CLK_STAT_BREACH_ACTIVE d i = 0) : s.breachEnd d i = s := by
  unfold State.breachEnd
  rw [State.rb_of_rf_zero hact]
  rfl

/-- Away from the target a breach goes on (R120). -/
theorem State.breachEnd_away (hrun : s.rf F.ISL_CLK_STAT_FREQ_RUN d i ≠ s.effTarget d i) : s.breachEnd d i = s := by
  unfold State.breachEnd
  rw [beq_false_of_ne hrun, Bool.and_false]
  rfl

/-- Outside a breach the running code takes its step, and the stretch follows its limit (R109, R111). -/
theorem State.codeStep_inactive (hact : s.rf F.ISL_CLK_STAT_BREACH_ACTIVE d i = 0) :
    s.codeStep d i = (s.runStep d i).clampStretch d i := by
  have hdef : s.codeStep d i = ((s.runStep d i).breachEnd d i).clampStretch d i := by
    unfold State.codeStep State.runStep
    rw [State.rb_of_rf_zero hact]
    simp only [Bool.not_false, Bool.true_or, and_true]
  rw [hdef, State.breachEnd_inactive _ _ _ ((s.rf_runStep_active d i).trans hact)]

/-- The return from a breach begins, away from the target (R120). -/
theorem execBreachReturnStart_away (hosc : s.oscRuns = true) (hact : s.rf F.ISL_CLK_STAT_BREACH_ACTIVE d i = 1)
    (hrun : s.rf F.ISL_CLK_STAT_FREQ_RUN d i ≠ s.effTarget d i) : execBreachReturnStart d i s =
      .next ((s.wf F.ISL_CLK_STAT_SLACK 0 d i).setIsland d i { s.island d i with returning := true }) := by
  have hout : ((s.wf F.ISL_CLK_STAT_SLACK 0 d i).setIsland d i { s.island d i with returning := true }).rf
      F.ISL_CLK_STAT_FREQ_RUN d i ≠
      ((s.wf F.ISL_CLK_STAT_SLACK 0 d i).setIsland d i { s.island d i with returning := true }).effTarget d i := by
    have htgt : ((s.wf F.ISL_CLK_STAT_SLACK 0 d i).setIsland d i { s.island d i with returning := true }).effTarget d i =
        s.effTarget d i := by rw [State.effTarget_setIsland, s.effTarget_wf _ _ _ _ _ _ rfl rfl]
    rw [State.setIsland_rf, State.rf_wf_apart _ _ _ _ _ _ _ _ _ _ rfl rfl, htgt]
    exact hrun
  unfold execBreachReturnStart
  rw [if_pos (by rw [hosc, State.rb_of_rf_one hact]; rfl), State.breachEnd_away _ _ _ hout]

theorem State.returning_spec (hact : s.rf F.ISL_CLK_STAT_BREACH_ACTIVE d i = 1) (t : State)
    (ht : t = (s.wf F.ISL_CLK_STAT_SLACK 0 d i).setIsland d i { s.island d i with returning := true }) :
    (t.island d i).returning = true ∧ t.rf F.ISL_CLK_STAT_BREACH_ACTIVE d i = 1 ∧
      t = { s with regs := t.regs, isl := t.isl } ∧ RegsKept s t [⟨.ISL_CLK_STAT, d, i, 0⟩] := by
  subst ht
  refine ⟨by rw [State.island_setIsland_same], ?_, ?_, ((RegsKept.refl s _).wf _ _ _ _ _ (.head _)).setIsland _ _ _⟩
  · rw [State.setIsland_rf, State.rf_wf_apart _ _ _ _ _ _ _ _ _ _ rfl rfl, hact]
  · obtain ⟨m, hm⟩ := s.wf_frame F.ISL_CLK_STAT_SLACK 0 d i 0
    rw [hm]
    rfl

end

/-! ## The voltage requested -/

section
variable (s : State) (d i v : Nat)

theorem State.wantMv_congr {s t : State} (hpart : t.part = s.part)
    (hreq : ∀ d i, t.rf F.ISL_CLK_STAT_VREQ d i = s.rf F.ISL_CLK_STAT_VREQ d i)
    (hguard : t.rf F.PMB_CTL_GUARD 0 = s.rf F.PMB_CTL_GUARD 0) : t.wantMv = s.wantMv := by
  unfold State.wantMv State.fabDies State.is20
  simp only [hpart, hreq, hguard]

theorem State.noteWant_frame : ∃ w, s.noteWant = { s with rst := { s.rst with want := w } } := by
  unfold State.noteWant
  split
  · exact ⟨s.rst.want, rfl⟩
  · exact ⟨(s.wantMv, s.now), rfl⟩

@[simp] theorem State.noteWant_reg (q : Reg) : s.noteWant.reg q = s.reg q := by
  obtain ⟨w, hw⟩ := s.noteWant_frame
  rw [hw]
  rfl

@[simp] theorem State.noteWant_rf (g : Fld) (d i j : Nat) : s.noteWant.rf g d i j = s.rf g d i j := by
  unfold State.rf
  rw [State.noteWant_reg]

theorem State.wantMv_noteWant : s.noteWant.wantMv = s.wantMv :=
  State.wantMv_congr (s.noteWant_rf _ _ _ _) (fun _ _ => s.noteWant_rf _ _ _ _) (s.noteWant_rf _ _ _ _)

/-- The voltage noted is the one wanted (R1056). -/
theorem State.noteWant_want : s.noteWant.rst.want.1 = s.noteWant.wantMv := by
  rw [State.wantMv_noteWant]
  unfold State.noteWant
  split
  · next h => exact h.symm
  · rfl

/-- VREQ replaced: the voltage wanted is noted, and only the clock status changes (R114, R1056). -/
theorem State.setVreq_spec (hv : v < 2 ^ F.ISL_CLK_STAT_VREQ.width) :
    (s.setVreq d i v).rf F.ISL_CLK_STAT_VREQ d i = v ∧ (s.setVreq d i v).rst.want.1 = (s.setVreq d i v).wantMv ∧
      (∃ m w, s.setVreq d i v = { s with regs := m, rst := { s.rst with want := w } }) ∧
      RegsKept s (s.setVreq d i v) [⟨.ISL_CLK_STAT, d, i, 0⟩] := by
  unfold State.setVreq
  refine ⟨?_, State.noteWant_want _, ?_, fun q hq => ?_⟩
  · rw [State.noteWant_rf, s.rf_wf_fits _ _ _ _ _ rfl hv]
  · obtain ⟨w, hw⟩ := (s.wf F.ISL_CLK_STAT_VREQ v d i).noteWant_frame
    obtain ⟨m, hm⟩ := s.wf_frame F.ISL_CLK_STAT_VREQ v d i 0
    rw [hw, hm]
    exact ⟨m, w, rfl⟩
  · rw [State.noteWant_reg]
    exact (RegsKept.refl s _).wf _ _ _ _ _ (.head _) q hq

/-- VREQ rises by one, to VCAP at most (R114). -/
theorem execVreqRise_spec (hosc : s.oscRuns = true) (hst : s.rf F.ISL_CLK_STAT_STRETCH d i ≠ 0)
    (hcap : s.rf F.ISL_CLK_STAT_VREQ d i < s.rf F.ISL_CLK_CTL_VCAP d i) :
    ∃ t, execVreqRise d i s = .next t ∧ t.rf F.ISL_CLK_STAT_VREQ d i = s.rf F.ISL_CLK_STAT_VREQ d i + 1 ∧
      t.rst.want.1 = t.wantMv ∧ t = { s with regs := t.regs, rst := { s.rst with want := t.rst.want } } ∧
      RegsKept s t [⟨.ISL_CLK_STAT, d, i, 0⟩] := by
  have hfits : s.rf F.ISL_CLK_STAT_VREQ d i + 1 < 2 ^ F.ISL_CLK_STAT_VREQ.width :=
    (Nat.succ_le_of_lt hcap).trans_lt (s.rf_lt F.ISL_CLK_CTL_VCAP d i 0)
  obtain ⟨hreq, hwant, ⟨m, w, hframe⟩, hkept⟩ := s.setVreq_spec d i _ hfits
  refine ⟨_, ?_, hreq, hwant, by rw [hframe], hkept⟩
  unfold execVreqRise
  rw [if_pos (by simp [hosc, hst, hcap])]

/-- VREQ falls by one (R114). -/
theorem execVreqFall_spec (hosc : s.oscRuns = true) (hst : s.rf F.ISL_CLK_STAT_STRETCH d i = 0)
    (hreq : s.rf F.ISL_CLK_STAT_VREQ d i ≠ 0) :
    ∃ t, execVreqFall d i s = .next t ∧ t.rf F.ISL_CLK_STAT_VREQ d i = s.rf F.ISL_CLK_STAT_VREQ d i - 1 ∧
      t.rst.want.1 = t.wantMv ∧ t = { s with regs := t.regs, rst := { s.rst with want := t.rst.want } } ∧
      RegsKept s t [⟨.ISL_CLK_STAT, d, i, 0⟩] := by
  have hfits : s.rf F.ISL_CLK_STAT_VREQ d i - 1 < 2 ^ F.ISL_CLK_STAT_VREQ.width :=
    (Nat.sub_le _ _).trans_lt (s.rf_lt F.ISL_CLK_STAT_VREQ d i 0)
  obtain ⟨hread, hwant, ⟨m, w, hframe⟩, hkept⟩ := s.setVreq_spec d i _ hfits
  refine ⟨(s.setVreq d i (s.rf F.ISL_CLK_STAT_VREQ d i - 1)).wf F.ISL_CLK_STAT_SLACK 0 d i, ?_, ?_, ?_, ?_,
    hkept.wf _ _ _ _ _ (.head _)⟩
  · unfold execVreqFall
    rw [if_pos (by simp [hosc, hst, Nat.pos_of_ne_zero hreq])]
  · rw [State.rf_wf_apart _ _ _ _ _ _ _ _ _ _ rfl rfl, hread]
  · rw [State.wf_rst, hwant]
    exact (State.wantMv_congr (State.rf_wf_apart _ _ _ _ _ _ _ _ _ _ rfl rfl)
      (fun _ _ => State.rf_wf_apart _ _ _ _ _ _ _ _ _ _ rfl rfl) (State.rf_wf_apart _ _ _ _ _ _ _ _ _ _ rfl rfl)).symm
  · generalize s.setVreq d i (s.rf F.ISL_CLK_STAT_VREQ d i - 1) = u at hframe ⊢
    obtain ⟨m', hm'⟩ := u.wf_frame F.ISL_CLK_STAT_SLACK 0 d i 0
    rw [hm', hframe]

end

/-! ## The oscillators -/

section
variable (s : State) (d i khz : Nat)

theorem execIslandOscillatorCheck_eq : execIslandOscillatorCheck d i khz s =
    .next (if s.oscRuns = true ∧ 3 * (64000 * codeMhz (s.rf F.ISL_CLK_STAT_FREQ_RUN d i)) <
      100 * (max (64000 * codeMhz (s.rf F.ISL_CLK_STAT_FREQ_RUN d i)) (khz * (64 + s.rf F.ISL_CLK_STAT_STRETCH d i)) -
        min (64000 * codeMhz (s.rf F.ISL_CLK_STAT_FREQ_RUN d i)) (khz * (64 + s.rf F.ISL_CLK_STAT_STRETCH d i)))
      then s.raise .islandOscillator d i else s) := by
  unfold execIslandOscillatorCheck
  simp only [Bool.and_eq_true, decide_eq_true_eq]

/-- An oscillator more than 3% too fast is reported (R161). -/
theorem execIslandOscillatorCheck_fast (hosc : s.oscRuns = true) (hst : s.rf F.ISL_CLK_STAT_STRETCH d i = 0)
    (hfast : 103000 * codeMhz (s.rf F.ISL_CLK_STAT_FREQ_RUN d i) < 100 * khz) :
    execIslandOscillatorCheck d i khz s = .next (s.raise .islandOscillator d i) := by
  rw [execIslandOscillatorCheck_eq, hst, if_pos ⟨hosc, by omega⟩]

/-- An oscillator within 3% is not (R161). -/
theorem execIslandOscillatorCheck_good (hst : s.rf F.ISL_CLK_STAT_STRETCH d i = 0)
    (hhigh : 100 * khz ≤ 103000 * codeMhz (s.rf F.ISL_CLK_STAT_FREQ_RUN d i))
    (hlow : 97000 * codeMhz (s.rf F.ISL_CLK_STAT_FREQ_RUN d i) ≤ 100 * khz) :
    execIslandOscillatorCheck d i khz s = .next s := by
  rw [execIslandOscillatorCheck_eq, hst, if_neg (fun h => absurd h.2 (by omega))]

/-- A CRITICAL cycle of the memory island (R140). -/
theorem execMemoryIslandCritical_spec (hosc : s.oscRuns = true) :
    ∃ t, execMemoryIslandCritical d s = .next t ∧ t.rf F.MISL_STAT_CRIT_STICKY d = 1 ∧ t.rf F.MISL_STAT_SLACK d = 2 ∧
      t.faultLine = s.faultLine ++ [faultEv .memoryIslandSlack d 0 0] ∧ OnlyRegsEv s t [⟨.MISL_STAT, d, 0, 0⟩] := by
  have honly := ((OnlyRegs.refl s [⟨.MISL_STAT, d, 0, 0⟩]).wf F.MISL_STAT_SLACK 2 d 0 0 (.head _)).wf
    F.MISL_STAT_CRIT_STICKY 1 d 0 0 (.head _)
  obtain ⟨hframe, hline⟩ := honly.raise .memoryIslandSlack d 0 0
  refine ⟨_, ?_, ?_, ?_, hline, hframe⟩
  · unfold execMemoryIslandCritical
    rw [if_pos hosc]
  · rw [State.raise_rf, State.rf_wf_fits _ _ _ _ _ _ rfl (by decide)]
  · rw [State.raise_rf, State.rf_wf_apart _ _ _ _ _ _ _ _ _ _ rfl rfl, State.rf_wf_fits _ _ _ _ _ _ rfl (by decide)]

end

/-! ## The adaptive loop: O7 and O8 -/

theorem execSlackCritical_eq (s : State) (d i : Nat) (hosc : s.oscRuns = true) :
    execSlackCritical d i s = .next (s.slackCritical d i) := by
  unfold execSlackCritical
  rw [if_pos hosc]

theorem execSlackLow_eq (s : State) (d i : Nat) (hosc : s.oscRuns = true) : execSlackLow d i s = .next (s.slackLow d i) := by
  unfold execSlackLow
  rw [if_pos hosc]

theorem execRunningCodeStep_eq (s : State) (d i : Nat) (hosc : s.oscRuns = true) :
    execRunningCodeStep d i s = .next (s.codeStep d i) := by
  unfold execRunningCodeStep
  rw [if_pos hosc]

theorem execStretchDecay_eq (s : State) (d i : Nat) (hosc : s.oscRuns = true) (hst : s.rf F.ISL_CLK_STAT_STRETCH d i ≠ 0) :
    execStretchDecay d i s = .next (s.stretchDecay d i) := by
  unfold execStretchDecay
  rw [if_neg (by simp [hosc, hst])]

/-- Settles O7: LOW, CRITICAL and AMPLE cycles by `showSlack_stretch`, the rest by the lemma on its command. -/
theorem adaptiveLoopStretches : Obligations.AdaptiveLoopStretches := by
  unfold Obligations.AdaptiveLoopStretches
  refine ⟨fun s d i hosc => ?_, fun s d i hosc hst hleft => ?_, fun s d i hosc hst hlim hact => ?_, fun s d i hosc hst => ?_,
    fun s d i hosc hact => ?_, fun s d i hosc hact hrun => ?_, fun s d i hosc hst hcap => execVreqRise_spec s d i hosc hst hcap,
    fun s d i hosc hst hreq => execVreqFall_spec s d i hosc hst hreq,
    fun s d i khz hosc hst hfast => execIslandOscillatorCheck_fast s d i khz hosc hst hfast,
    fun s d i khz hst hhigh hlow => execIslandOscillatorCheck_good s d i khz hst hhigh hlow⟩
  · exact ⟨_, execSlackLow_eq s d i hosc,
      s.showSlack_stretch d i 1 1 _ (by decide) ((Nat.min_le_right _ _).trans_lt (s.sMax_lt d i)) _ (s.slackLow_eq d i)⟩
  · exact ⟨_, execSlackCritical_eq s d i hosc,
      s.showSlack_stretch d i 1 2 _ (by decide) (s.sMax_lt d i) _ (s.slackCritical_raises d i hst hleft)⟩
  · exact ⟨_, execSlackCritical_eq s d i hosc, s.slackCritical_breach d i hst hlim hact _ rfl⟩
  · have hfits := (Nat.sub_le (s.rf F.ISL_CLK_STAT_STRETCH d i) 1).trans_lt (s.rf_lt F.ISL_CLK_STAT_STRETCH d i 0)
    obtain ⟨hslack, hstretch, -, hframe, hkept⟩ := s.showSlack_stretch d i _ 0 _ (by decide) hfits _ (s.stretchDecay_eq d i)
    exact ⟨_, execStretchDecay_eq s d i hosc hst, hstretch, hslack, hframe, hkept⟩
  · refine ⟨_, execRunningCodeStep_eq s d i hosc, ?_⟩
    rw [s.codeStep_inactive d i hact]
    exact ⟨(State.rf_clampStretch _ _ _ _ _ _ rfl).trans (s.rf_runStep_run d i), (s.runStep_only d i).clampStretch _ _ (.head _)⟩
  · exact ⟨_, execBreachReturnStart_away s d i hosc hact hrun, s.returning_spec d i hact _ rfl⟩

/-- Settles O8: at code 0 and stretch 16 a CRITICAL cycle has one case left, and the memory island has one. -/
theorem slackFaultsAreRaised : Obligations.SlackFaultsAreRaised := by
  unfold Obligations.SlackFaultsAreRaised
  refine ⟨fun s d i hosc hrun hst => ?_, fun s d hosc => execMemoryIslandCritical_spec s d hosc⟩
  exact ⟨_, execSlackCritical_eq s d i hosc, s.slackCritical_exhausted d i hrun hst _ rfl⟩

/-! ## Single bits -/

theorem bit_eq_testBit (w k : Nat) : bit w k = w.testBit k := by
  unfold bit
  rw [Nat.testBit_eq_decide_div_mod_eq]
  rfl

theorem b2n_bit (w k : Nat) : b2n (bit w k) = bits w k k := by
  have hmod : bits w k k = w / 2 ^ k % 2 := by
    unfold bits
    rw [Nat.add_sub_cancel_left, pow_one]
  rw [hmod]
  unfold bit b2n
  rcases Nat.mod_two_eq_zero_or_one (w / 2 ^ k) with h | h
  · rw [h]; rfl
  · rw [h]; rfl

/-- A bit that is 1 is 0 once its weight is taken away. -/
theorem bit_sub_two_pow {w k : Nat} (h : bit w k = true) : bit (w - 2 ^ k) k = false := by
  have hdiv : (w - 2 ^ k) / 2 ^ k = w / 2 ^ k - 1 := by
    have := Nat.sub_mul_div w (2 ^ k) 1
    rwa [Nat.mul_one] at this
  unfold bit at h ⊢
  rw [beq_iff_eq] at h
  rw [hdiv, beq_eq_false_iff_ne]
  omega

theorem bit_bitsOf (l : List Bool) (k : Nat) : bit (bitsOf l) k = l.getD k false := by
  induction l generalizing k with
  | nil => simp [bit, bitsOf]
  | cons b t ih =>
    cases k with
    | zero => cases b <;> simp [bit, bitsOf, b2n]
    | succ k =>
      have hhalf : bitsOf (b :: t) / 2 = bitsOf t := by
        have hb : b2n b < 2 := by cases b <;> decide
        change (b2n b + 2 * bitsOf t) / 2 = bitsOf t
        omega
      rw [List.getD_cons_succ, ← ih k]
      unfold bit
      rw [Nat.pow_succ', ← Nat.div_div_eq_div_mul, hhalf]

/-- A vector of bits has the bits it was made of. -/
theorem bit_bitsOf_range (f : Nat → Bool) {n k : Nat} (hk : k < n) : bit (bitsOf ((List.range n).map f)) k = f k := by
  rw [bit_bitsOf]
  simp [hk]

/-! ## Asynchronous resets -/

section
variable (s : State) (d i c : Nat)

theorem execAsyncResetAssert_spec :
    ∃ t, execAsyncResetAssert d i c s = .next t ∧ (t.island d i).ff = putCluster (s.island d i).ff (s.ffInit d i) c ∧
      (t.island d i).ar = (s.island d i).ar ||| 2 ^ c ∧ t = { s with isl := t.isl } := by
  unfold execAsyncResetAssert
  refine ⟨_, rfl, ?_, ?_, rfl⟩
  · rw [State.island_setIsland_same]
  · rw [State.island_setIsland_same]

theorem execAsyncResetRelease_spec (hrun : s.running d i = true) (har : bit (s.island d i).ar c = true) :
    ∃ t, execAsyncResetRelease d i c s = .next t ∧ bit (t.island d i).ar c = false ∧ (t.island d i).ff = (s.island d i).ff ∧
      t = { s with isl := t.isl } := by
  unfold execAsyncResetRelease
  dsimp only
  rw [hrun, har, if_pos (by rfl)]
  refine ⟨_, rfl, ?_, ?_, rfl⟩
  · rw [State.island_setIsland_same]
    exact bit_sub_two_pow har
  · rw [State.island_setIsland_same]

end

/-! ## Requests for island resets -/

/-- What a write of FAB_ISL_RST does for one island (R233, R391). -/
def State.requestReset (s : State) (d w i : Nat) : State :=
  if bit w i && !(s.island d i).held then s.wf F.FAB_ISL_RST_RST (s.rf F.FAB_ISL_RST_RST d ||| 2 ^ i) d else s

/-- Islands that are not held have their resets requested as written, one after the other (R233). -/
theorem State.requestResets (s : State) (d w n : Nat) (hheld : ∀ i, i < 16 → (s.island d i).held = false) (hn : n ≤ 16) (t : State)
    (ht : t = (List.range n).foldl (fun s i => s.requestReset d w i) s) :
    (∀ i, i < 16 → bit (t.rf F.FAB_ISL_RST_RST d) i = (bit (s.rf F.FAB_ISL_RST_RST d) i || (decide (i < n) && bit w i))) ∧
      OnlyRegs s t [⟨.FAB_ISL_RST, d, 0, 0⟩] := by
  induction n generalizing t with
  | zero =>
    rw [show t = s from ht]
    exact ⟨fun i _ => by simp, .refl s _⟩
  | succ n ih =>
    rw [List.range_succ, List.foldl_append] at ht
    obtain ⟨hbits, honly⟩ := ih (by omega) _ rfl
    generalize (List.range n).foldl (fun s i => s.requestReset d w i) s = u at *
    have hfree : (u.island d n).held = false := by
      obtain ⟨hframe, -⟩ := honly
      rw [hframe]
      exact hheld n (by omega)
    rw [List.foldl_cons, List.foldl_nil, State.requestReset, hfree, Bool.not_false, Bool.and_true] at ht
    subst ht
    split
    · next hbit =>
      refine ⟨fun i hi => ?_, honly.wf _ _ _ _ _ (.head _)⟩
      have hread := u.rf_wf_same F.FAB_ISL_RST_RST (u.rf F.FAB_ISL_RST_RST d ||| 2 ^ n) d 0 0 rfl
      rw [hread, bit_eq_testBit, show F.FAB_ISL_RST_RST.width = 16 from rfl, Nat.testBit_mod_two_pow, Nat.testBit_or,
        Nat.testBit_two_pow, ← bit_eq_testBit, hbits i hi]
      by_cases hin : i = n
      · subst hin; simp [hi, hbit]
      · have : n ≠ i := fun h => hin h.symm
        have hlt : (i < n + 1) = (i < n) := by simp; omega
        simp [hi, this, hlt]
    · next hbit =>
      refine ⟨fun i hi => ?_, honly⟩
      rw [hbits i hi]
      by_cases hin : i = n
      · subst hin; simp [hbit]
      · have hlt : (i < n + 1) = (i < n) := by simp; omega
        simp [hlt]

theorem execFabIslRstWrite_spec (s : State) (d : Nat) (w : TWord) (htag : w.tag.toNat < 2)
    (hheld : ∀ i, i < 16 → (s.island d i).held = false) :
    ∃ t, execFabIslRstWrite d w s = .next t ∧
      (∀ i, i < 16 → bit (t.rf F.FAB_ISL_RST_RST d) i = (bit (s.rf F.FAB_ISL_RST_RST d) i || bit w.data.toNat i)) ∧
      OnlyRegs s t [⟨.FAB_ISL_RST, d, 0, 0⟩] := by
  obtain ⟨hbits, honly⟩ := s.requestResets d w.data.toNat 16 hheld (by omega) (s.writeIslRst d w.data.toNat) rfl
  refine ⟨_, ?_, fun i hi => ?_, honly⟩
  · unfold execFabIslRstWrite
    rw [if_pos htag]
  · rw [hbits i hi, decide_eq_true hi, Bool.true_and]

/-! ## RUN and the front ends -/

section
variable (s : State) (d i : Nat)

/-- An edge of the logic clock restarts front ends of event crossings, and nothing else (R137). -/
theorem State.evtRestart_frame : ∃ e, s.evtRestart d i = { s with evts := e } := by
  refine foldl_keeps (fun t => ∃ e, t = { s with evts := e }) _ _ s ⟨s.evts, rfl⟩ fun u p hu => ?_
  obtain ⟨e, rfl⟩ := hu
  split
  · exact ⟨_, rfl⟩
  · exact ⟨e, rfl⟩

/-- An edge of the oscillator samples event crossings, and changes nothing else (R135). -/
theorem State.evtSample_frame : ∃ e, s.evtSample d i = { s with evts := e } := by
  refine foldl_keeps (fun t => ∃ e, t = { s with evts := e }) _ _ s ⟨s.evts, rfl⟩ fun u p hu => ?_
  obtain ⟨e, rfl⟩ := hu
  split
  · exact ⟨_, rfl⟩
  · exact ⟨e, rfl⟩

theorem State.restartIf_frame (c : Bool) : ∃ e, (if c then s.evtRestart d i else s) = { s with evts := e } := by
  cases c with
  | true => exact s.evtRestart_frame d i
  | false => exact ⟨s.evts, rfl⟩

/-- The DIO balls of an island that has RUN are driven again (R220). -/
def State.driveDio (s : State) (d i : Nat) (run : Bool) : State :=
  if run then s.setIsland d i { s.island d i with dioHold := false } else s

/-- RUN replaced: beside its field the hold of the DIO balls ends, and front ends restart (R137, R220). -/
theorem State.setRun_frame (run : Bool) :
    ∃ m e, s.setRun d i run = { s with regs := m, isl := (s.driveDio d i run).isl, evts := e } ∧
      m = (s.wf F.ISL_CLK_CTL_RUN (b2n run) d i).regs := by
  unfold State.setRun State.driveDio
  obtain ⟨m, hm⟩ := s.wf_frame F.ISL_CLK_CTL_RUN (b2n run) d i 0
  rw [hm]
  cases run with
  | true =>
    obtain ⟨e, he⟩ := State.restartIf_frame (({ s with regs := m } : State).setIsland d i { s.island d i with dioHold := false }) d i
      ((({ s with regs := m } : State).setIsland d i { s.island d i with dioHold := false }).running d i)
    exact ⟨m, e, he, rfl⟩
  | false =>
    obtain ⟨e, he⟩ := State.restartIf_frame { s with regs := m } d i (({ s with regs := m } : State).running d i)
    exact ⟨m, e, he, rfl⟩

theorem State.setRun_rf (run : Bool) (g : Fld) (d' i' : Nat) :
    (s.setRun d i run).rf g d' i' = (s.wf F.ISL_CLK_CTL_RUN (b2n run) d i).rf g d' i' := by
  obtain ⟨m, e, h, rfl⟩ := s.setRun_frame d i run
  rw [h]
  rfl

theorem State.setRun_kept (run : Bool) (rs : List Reg) (hmem : ⟨.ISL_CLK_CTL, d, i, 0⟩ ∈ rs) : RegsKept s (s.setRun d i run) rs := by
  obtain ⟨m, e, h, rfl⟩ := s.setRun_frame d i run
  intro q hq
  rw [h]
  exact (RegsKept.refl s rs).wf F.ISL_CLK_CTL_RUN (b2n run) d i 0 hmem q hq

theorem State.setRun_island (run : Bool) :
    (s.setRun d i run).island d i = { s.island d i with dioHold := !run && (s.island d i).dioHold } := by
  obtain ⟨m, e, h, -⟩ := s.setRun_frame d i run
  rw [h]
  change (s.driveDio d i run).island d i = _
  unfold State.driveDio
  cases run with
  | true => exact s.island_setIsland_same d i _
  | false => rfl

/-- RUN is set after a load once the running code is at or below LIMIT_CODE (R149, R221). -/
theorem execRunSetAfterLoad_spec (hwant : (s.island d i).runWanted = true)
    (hcode : s.rf F.ISL_CLK_STAT_FREQ_RUN d i ≤ s.rf F.FAB_ISL_LIMIT_LIMIT_CODE d i) :
    ∃ t, execRunSetAfterLoad d i s = .next t ∧ t.rf F.ISL_CLK_CTL_RUN d i = 1 ∧ (t.island d i).runWanted = false ∧
      t = { s with regs := t.regs, isl := t.isl, evts := t.evts } ∧ RegsKept s t [⟨.ISL_CLK_CTL, d, i, 0⟩] := by
  refine ⟨_, by unfold execRunSetAfterLoad; rw [if_pos (by simp [hwant, hcode])], ?_, ?_, ?_, ?_⟩
  · rw [State.setRun_rf, State.rf_wf_fits _ _ _ _ _ _ rfl (by decide)]
    rfl
  · rw [State.setRun_island, State.island_setIsland_same]
  · obtain ⟨m, e, h, -⟩ := (s.setIsland d i { s.island d i with runWanted := false }).setRun_frame d i true
    rw [h]
    rfl
  · exact ((RegsKept.refl s _).setIsland d i _).trans (State.setRun_kept _ d i true _ (.head _))

end

/-! ## The end of an island reset -/

section
variable (s : State) (d i : Nat)

/-- The shadow of an island closes, and its front ends restart if its clock runs (R137, R1010). -/
def State.resetOver (s : State) (d i : Nat) : State :=
  let u := (s.setIsland d i { s.island d i with underReset := false }).shadowEnded d i
  if u.running d i then u.evtRestart d i else u

theorem State.resetOver_frame : ∃ e sh, s.resetOver d i =
    { s with isl := (s.setIsland d i { s.island d i with underReset := false }).isl, evts := e, shadows := sh } := by
  have hshadow : ∀ u : State, ∃ sh, u.shadowEnded d i = { u with shadows := sh } := fun u => ⟨_, rfl⟩
  obtain ⟨sh, hsh⟩ := hshadow (s.setIsland d i { s.island d i with underReset := false })
  obtain ⟨e, he⟩ := State.restartIf_frame ((s.setIsland d i { s.island d i with underReset := false }).shadowEnded d i) d i
    (((s.setIsland d i { s.island d i with underReset := false }).shadowEnded d i).running d i)
  refine ⟨e, sh, he.trans ?_⟩
  rw [hsh]
  rfl

theorem execIslandResetEnd_spec (hosc : s.oscRuns = true) (hreset : (s.island d i).underReset = true) :
    ∃ t, execIslandResetEnd d i false s = .next t ∧ (t.island d i).underReset = false ∧ bit (t.rf F.FAB_ISL_RST_RST d) i = false ∧
      t = { s with regs := t.regs, isl := t.isl, evts := t.evts, shadows := t.shadows } ∧
      RegsKept s t [⟨.FAB_ISL_RST, d, 0, 0⟩] := by
  have hdef : execIslandResetEnd d i false s = .next (if bit ((s.resetOver d i).rf F.FAB_ISL_RST_RST d) i then
      (s.resetOver d i).wf F.FAB_ISL_RST_RST ((s.resetOver d i).rf F.FAB_ISL_RST_RST d - 2 ^ i) d else s.resetOver d i) := by
    unfold execIslandResetEnd
    rw [hosc, hreset]
    rfl
  obtain ⟨e, sh, hover⟩ := s.resetOver_frame d i
  have hisland : ((s.resetOver d i).island d i).underReset = false := by
    rw [hover]
    exact congrArg Isl.underReset (s.island_setIsland_same d i _)
  have hkept : RegsKept s (s.resetOver d i) [⟨.FAB_ISL_RST, d, 0, 0⟩] := by
    rw [hover]
    exact .refl s _
  rw [hdef]
  generalize s.resetOver d i = u at *
  split
  · next hbit =>
    have hfits : u.rf F.FAB_ISL_RST_RST d - 2 ^ i < 2 ^ F.FAB_ISL_RST_RST.width :=
      (Nat.sub_le _ _).trans_lt (u.rf_lt F.FAB_ISL_RST_RST d 0 0)
    refine ⟨_, rfl, ?_, ?_, ?_, hkept.wf _ _ _ _ _ (.head _)⟩
    · rw [State.wf_island, hisland]
    · rw [u.rf_wf_fits _ _ _ _ _ rfl hfits]
      exact bit_sub_two_pow hbit
    · obtain ⟨m, hm⟩ := u.wf_frame F.FAB_ISL_RST_RST (u.rf F.FAB_ISL_RST_RST d - 2 ^ i) d 0 0
      rw [hm, hover]
  · next hbit => exact ⟨u, rfl, hisland, Bool.eq_false_iff.mpr hbit, by rw [hover], hkept⟩

end

/-! ## A write of ISL_CLK_CTL -/

section
variable (s : State) (d i : Nat)

/-- The floor in force follows its rule, and the stretch its limit, in the clock status (R108, R111). -/
theorem State.refloor_only : OnlyRegs s (s.refloor d i) [⟨.ISL_CLK_STAT, d, i, 0⟩] := by
  unfold State.refloor
  split
  · exact .refl s _
  · exact ((OnlyRegs.refl s _).wf _ _ _ _ _ (.head _)).clampStretch _ _ (.head _)

theorem State.rf_refloor (g : Fld) (hfloor : F.ISL_CLK_STAT_FLOOR_EFF.apart g = true) (hst : F.ISL_CLK_STAT_STRETCH.apart g = true) :
    (s.refloor d i).rf g d i = s.rf g d i := by
  unfold State.refloor
  split
  · rfl
  · rw [State.rf_clampStretch _ _ _ _ _ _ hst, State.rf_wf_apart _ _ _ _ _ _ _ _ _ _ rfl hfloor]

/-- VREQ lowered to a new VCAP (R114). -/
def State.capVreq (s : State) (d i cap : Nat) : State := if cap < s.rf F.ISL_CLK_STAT_VREQ d i then s.setVreq d i cap else s

theorem State.rf_capVreq_vreq (cap : Nat) (hcap : cap < 2 ^ F.ISL_CLK_STAT_VREQ.width) :
    (s.capVreq d i cap).rf F.ISL_CLK_STAT_VREQ d i = min (s.rf F.ISL_CLK_STAT_VREQ d i) cap := by
  unfold State.capVreq
  split
  · obtain ⟨hread, -⟩ := s.setVreq_spec d i cap hcap
    rw [hread]
    omega
  · omega

theorem State.rf_capVreq (cap : Nat) (g : Fld) (hg : F.ISL_CLK_STAT_VREQ.apart g = true) :
    (s.capVreq d i cap).rf g d i = s.rf g d i := by
  unfold State.capVreq
  split
  · unfold State.setVreq
    rw [State.noteWant_rf, State.rf_wf_apart _ _ _ _ _ _ _ _ _ _ rfl hg]
  · rfl

theorem State.capVreq_frame (cap : Nat) (hcap : cap < 2 ^ F.ISL_CLK_STAT_VREQ.width) :
    (∃ m w, s.capVreq d i cap = { s with regs := m, rst := { s.rst with want := w } }) ∧
      RegsKept s (s.capVreq d i cap) [⟨.ISL_CLK_STAT, d, i, 0⟩] := by
  unfold State.capVreq
  split
  · obtain ⟨-, -, hframe, hkept⟩ := s.setVreq_spec d i cap hcap
    exact ⟨hframe, hkept⟩
  · exact ⟨⟨s.regs, s.rst.want, rfl⟩, .refl s _⟩

/-- TARGET, FLOOR and VCAP as a write stores them (R107, R114, R199). -/
def State.clkFields (s : State) (d i w : Nat) : State :=
  ((s.wf F.ISL_CLK_CTL_TARGET (min (s.codeLimit d i) (bits w 7 0)) d i).wf F.ISL_CLK_CTL_FLOOR
    (min (s.codeLimit d i) (bits w 15 8)) d i).wf F.ISL_CLK_CTL_VCAP (min 32 (bits w 25 20)) d i

theorem State.rf_clkFields (w : Nat) :
    (s.clkFields d i w).rf F.ISL_CLK_CTL_TARGET d i = min (s.codeLimit d i) (bits w 7 0) ∧
      (s.clkFields d i w).rf F.ISL_CLK_CTL_FLOOR d i = min (s.codeLimit d i) (bits w 15 8) ∧
      (s.clkFields d i w).rf F.ISL_CLK_CTL_VCAP d i = min 32 (bits w 25 20) := by
  have htarget : min (s.codeLimit d i) (bits w 7 0) < 2 ^ F.ISL_CLK_CTL_TARGET.width :=
    (Nat.min_le_right _ _).trans_lt (Nat.mod_lt _ (by decide))
  have hfloor : min (s.codeLimit d i) (bits w 15 8) < 2 ^ F.ISL_CLK_CTL_FLOOR.width :=
    (Nat.min_le_right _ _).trans_lt (Nat.mod_lt _ (by decide))
  have hcap : min 32 (bits w 25 20) < 2 ^ F.ISL_CLK_CTL_VCAP.width := (Nat.min_le_left _ _).trans_lt (by decide)
  unfold State.clkFields
  refine ⟨?_, ?_, State.rf_wf_fits _ _ _ _ _ _ rfl hcap⟩
  · rw [State.rf_wf_apart _ _ _ _ _ _ _ _ _ _ rfl rfl, State.rf_wf_apart _ _ _ _ _ _ _ _ _ _ rfl rfl,
      State.rf_wf_fits _ _ _ _ _ _ rfl htarget]
  · rw [State.rf_wf_apart _ _ _ _ _ _ _ _ _ _ rfl rfl, State.rf_wf_fits _ _ _ _ _ _ rfl hfloor]

theorem State.rf_clkFields_vreq (w : Nat) : (s.clkFields d i w).rf F.ISL_CLK_STAT_VREQ d i = s.rf F.ISL_CLK_STAT_VREQ d i := by
  unfold State.clkFields
  rw [State.rf_wf_apart _ _ _ _ _ _ _ _ _ _ rfl rfl, State.rf_wf_apart _ _ _ _ _ _ _ _ _ _ rfl rfl,
    State.rf_wf_apart _ _ _ _ _ _ _ _ _ _ rfl rfl]

theorem State.clkFields_only (w : Nat) : OnlyRegs s (s.clkFields d i w) [⟨.ISL_CLK_CTL, d, i, 0⟩, ⟨.ISL_CLK_STAT, d, i, 0⟩] := by
  unfold State.clkFields
  have hmem : (⟨.ISL_CLK_CTL, d, i, 0⟩ : Reg) ∈ [(⟨.ISL_CLK_CTL, d, i, 0⟩ : Reg), ⟨.ISL_CLK_STAT, d, i, 0⟩] := .head _
  exact (((OnlyRegs.refl s _).wf _ _ _ _ _ hmem).wf _ _ _ _ _ hmem).wf _ _ _ _ _ hmem

theorem State.writeClkCtl_eq (w : Nat) : s.writeClkCtl d i w =
    (((s.clkFields d i w).setRun d i (bit w 26)).capVreq d i (min 32 (bits w 25 20))).refloor d i := rfl

theorem vcap_fits (w : Nat) : min 32 (bits w 25 20) < 2 ^ F.ISL_CLK_STAT_VREQ.width := (Nat.min_le_left _ _).trans_lt (by decide)

/-- Fields of ISL_CLK_CTL read after a write as they were stored with RUN. -/
theorem State.rf_writeClkCtl (w : Nat) (g : Fld) (hg : g.reg = .ISL_CLK_CTL) :
    (s.writeClkCtl d i w).rf g d i = ((s.clkFields d i w).wf F.ISL_CLK_CTL_RUN (b2n (bit w 26)) d i).rf g d i := by
  have hapart : ∀ f : Fld, f.reg = .ISL_CLK_STAT → f.apart g = true := by
    intro f hf
    unfold Fld.apart
    rw [hf, hg]
    rfl
  rw [s.writeClkCtl_eq, State.rf_refloor _ _ _ _ (hapart _ rfl) (hapart _ rfl), State.rf_capVreq _ _ _ _ _ (hapart _ rfl),
    State.setRun_rf]

theorem State.rf_writeClkCtl_run (w : Nat) : (s.writeClkCtl d i w).rf F.ISL_CLK_CTL_RUN d i = bits w 26 26 := by
  have hfits : bits w 26 26 < 2 ^ F.ISL_CLK_CTL_RUN.width := Nat.mod_lt _ (by decide)
  rw [s.rf_writeClkCtl _ _ _ _ rfl, b2n_bit, State.rf_wf_fits _ _ _ _ _ _ rfl hfits]

theorem State.rf_writeClkCtl_vreq (w : Nat) :
    (s.writeClkCtl d i w).rf F.ISL_CLK_STAT_VREQ d i = min (s.rf F.ISL_CLK_STAT_VREQ d i) (min 32 (bits w 25 20)) := by
  rw [s.writeClkCtl_eq, State.rf_refloor _ _ _ _ rfl rfl, State.rf_capVreq_vreq _ _ _ _ (vcap_fits w), State.setRun_rf,
    State.rf_wf_apart _ _ _ _ _ _ _ _ _ _ rfl rfl, s.rf_clkFields_vreq]

theorem State.driveDio_isl {s t : State} (h : t.isl = s.isl) (d i : Nat) (run : Bool) :
    (t.driveDio d i run).isl = (s.driveDio d i run).isl := by
  unfold State.driveDio State.setIsland State.island
  cases run with
  | true => rw [if_pos rfl, if_pos rfl, h]
  | false => exact h

/-- What a write of ISL_CLK_CTL leaves alone. -/
theorem State.writeClkCtl_frame (w : Nat) :
    (∃ m e x, s.writeClkCtl d i w = { s with
      regs := m, isl := (s.driveDio d i (bit w 26)).isl, evts := e, rst := { s.rst with want := x } }) ∧
      RegsKept s (s.writeClkCtl d i w) [⟨.ISL_CLK_CTL, d, i, 0⟩, ⟨.ISL_CLK_STAT, d, i, 0⟩] := by
  have hstat : ∀ q ∈ [(⟨.ISL_CLK_STAT, d, i, 0⟩ : Reg)], q ∈ [(⟨.ISL_CLK_CTL, d, i, 0⟩ : Reg), ⟨.ISL_CLK_STAT, d, i, 0⟩] :=
    fun _ hq => .tail _ hq
  obtain ⟨hfields, hkept1⟩ := s.clkFields_only d i w
  have hkept2 := (s.clkFields d i w).setRun_kept d i (bit w 26) [⟨.ISL_CLK_CTL, d, i, 0⟩, ⟨.ISL_CLK_STAT, d, i, 0⟩] (.head _)
  obtain ⟨m2, e, hrun, -⟩ := (s.clkFields d i w).setRun_frame d i (bit w 26)
  rw [s.writeClkCtl_eq]
  generalize s.clkFields d i w = t1 at *
  generalize t1.setRun d i (bit w 26) = t2 at *
  obtain ⟨⟨m3, x, hcap⟩, hkept3⟩ := t2.capVreq_frame d i _ (vcap_fits w)
  generalize t2.capVreq d i (min 32 (bits w 25 20)) = t3 at *
  obtain ⟨hfloor, hkept4⟩ := t3.refloor_only d i
  refine ⟨⟨(t3.refloor d i).regs, e, x, ?_⟩, ((hkept1.trans hkept2).trans (hkept3.mono hstat)).trans (hkept4.mono hstat)⟩
  have hdrive := State.driveDio_isl (show t1.isl = s.isl by rw [hfields]) d i (bit w 26)
  generalize t3.refloor d i = t4 at *
  rw [hfloor, hcap, hrun, hdrive, hfields]

theorem State.driveDio_island (run : Bool) :
    (s.driveDio d i run).island d i = { s.island d i with dioHold := ((s.driveDio d i run).island d i).dioHold } := by
  unfold State.driveDio
  cases run with
  | true => exact (s.island_setIsland_same d i _).trans (by rw [if_pos rfl, State.island_setIsland_same])
  | false => rfl

theorem execIslClkCtlWrite_spec (w : TWord) (hosc : s.oscRuns = true) (htag : w.tag.toNat < 2) :
    ∃ t, execIslClkCtlWrite d i w [] s = .next t ∧
      t.rf F.ISL_CLK_CTL_TARGET d i = min (s.codeLimit d i) (bits w.data.toNat 7 0) ∧
      t.rf F.ISL_CLK_CTL_FLOOR d i = min (s.codeLimit d i) (bits w.data.toNat 15 8) ∧
      t.rf F.ISL_CLK_CTL_VCAP d i = min 32 (bits w.data.toNat 25 20) ∧ t.rf F.ISL_CLK_CTL_RUN d i = bits w.data.toNat 26 26 ∧
      t.rf F.ISL_CLK_STAT_VREQ d i = min (s.rf F.ISL_CLK_STAT_VREQ d i) (min 32 (bits w.data.toNat 25 20)) ∧
      t.island d i = { s.island d i with dioHold := (t.island d i).dioHold } ∧
      t = { s with regs := t.regs, isl := t.isl, evts := t.evts, rst := { s.rst with want := t.rst.want } } ∧
      RegsKept s t [⟨.ISL_CLK_CTL, d, i, 0⟩, ⟨.ISL_CLK_STAT, d, i, 0⟩] := by
  have hexec : execIslClkCtlWrite d i w [] s = .next (s.writeClkCtl d i w.data.toNat) := by
    unfold execIslClkCtlWrite
    rw [hosc, if_neg (by decide), if_pos htag, effWord_nil]
  obtain ⟨htarget, hfloor, hcap⟩ := s.rf_clkFields d i w.data.toNat
  obtain ⟨⟨m, e, x, hframe⟩, hkept⟩ := s.writeClkCtl_frame d i w.data.toNat
  refine ⟨_, hexec, ?_, ?_, ?_, s.rf_writeClkCtl_run d i _, s.rf_writeClkCtl_vreq d i _, ?_, by rw [hframe], hkept⟩
  · rw [s.rf_writeClkCtl _ _ _ _ rfl, State.rf_wf_apart _ _ _ _ _ _ _ _ _ _ rfl rfl, htarget]
  · rw [s.rf_writeClkCtl _ _ _ _ rfl, State.rf_wf_apart _ _ _ _ _ _ _ _ _ _ rfl rfl, hfloor]
  · rw [s.rf_writeClkCtl _ _ _ _ rfl, State.rf_wf_apart _ _ _ _ _ _ _ _ _ _ rfl rfl, hcap]
  · rw [hframe]
    exact s.driveDio_island d i _

end

/-! ## The beginning of an island reset -/

/-- What an island reset keeps once the island's own registers are at INIT: the islands, and the package's memory. -/
def IslandsKept (s t : State) : Prop := t.isl = s.isl ∧ t.mem = s.mem

section
variable {s t : State}

theorem IslandsKept.refl (s : State) : IslandsKept s s := ⟨rfl, rfl⟩

theorem IslandsKept.ite {c : Prop} {h : Decidable c} {u : State} (ht : IslandsKept s t) (hu : IslandsKept s u) :
    IslandsKept s (if c then t else u) := by
  split
  · exact ht
  · exact hu

theorem IslandsKept.foldl {B : Type} {f : State → B → State} {l : List B} (h : IslandsKept s t)
    (hf : ∀ u b, IslandsKept s u → IslandsKept s (f u b)) : IslandsKept s (l.foldl f t) :=
  foldl_keeps (IslandsKept s) f l t h hf

theorem IslandsKept.setChan (h : IslandsKept s t) (k : Nat) (c : Chan) : IslandsKept s (t.setChan k c) := h

theorem IslandsKept.incE (h : IslandsKept s t) (f : Fld) (d i j n : Nat) : IslandsKept s (t.incE f d i j n) := by
  obtain ⟨m, hm⟩ := t.incE_frame f d i j n
  rw [hm]
  exact h

theorem IslandsKept.dioInitAll (h : IslandsKept s t) (d i : Nat) : IslandsKept s (t.dioInitAll d i) :=
  .foldl h fun _ _ hu => .ite hu hu

theorem IslandsKept.flushIn (h : IslandsKept s t) (d i p : Nat) : IslandsKept s (t.flushIn d i p) := by
  unfold State.flushIn
  split
  · exact h
  · exact .ite (h.setChan _ _) ((h.setChan _ _).incE _ _ _ _ _)

theorem IslandsKept.setStops (h : IslandsKept s t) (part : SMap (List TWord)) (wait : SMap (List (Txn × Bool)))
    (out : SMap (List TWord)) : IslandsKept s { t with stopPart := part, stopWait := wait, stopOut := out } := h

theorem IslandsKept.issue (h : IslandsKept s t) (x : Txn) (outst : List Outst) (wait : SMap (List (Txn × Bool))) :
    IslandsKept s { t.inject x with outst := outst, stopWait := wait } := h

theorem IslandsKept.flushStop (h : IslandsKept s t) (d i p : Nat) : IslandsKept s (t.flushStop d i p) :=
  .ite ((h.setChan _ _).setStops _ _ _) (((h.setChan _ _).setStops _ _ _).incE _ _ _ _ _)

theorem IslandsKept.stopIssue (h : IslandsKept s t) (d i : Nat) : IslandsKept s (t.stopIssue d i) :=
  .foldl h fun _ _ hu => .ite hu (.ite hu (hu.issue _ _ _))

theorem IslandsKept.dropOffer (h : IslandsKept s t) (d i p : Nat) : IslandsKept s (t.dropOffer d i p) := h.setChan _ _

theorem IslandsKept.resetEvt (h : IslandsKept s t) (d i p : Nat) : IslandsKept s (t.resetEvt d i p) := h

theorem IslandsKept.setWait (h : IslandsKept s t) (wait : SMap (List (Txn × Bool))) :
    IslandsKept s { t with stopWait := wait } := h

theorem IslandsKept.setOutst (h : IslandsKept s t) (outst : List Outst) : IslandsKept s { t with outst := outst } := h

theorem IslandsKept.resetChannels (h : IslandsKept s t) (d i : Nat) : IslandsKept s (t.resetChannels d i) := by
  have hin := h.foldl (f := fun u p => u.flushIn d i p) (l := List.range 7) fun _ _ hu => hu.flushIn _ _ _
  have hout := hin.foldl (f := fun u p => u.dropOffer d i p) (l := List.range 4) fun _ _ hu => hu.dropOffer _ _ _
  have hevt := hout.foldl (f := fun u p => u.resetEvt d i p) (l := List.range 8) fun _ _ hu => hu.resetEvt _ _ _
  exact .stopIssue (.setOutst (.foldl (hevt.setWait _) fun _ _ hu => hu.flushStop _ _ _) _) d i

theorem IslandsKept.island (h : IslandsKept s t) (d i : Nat) : t.island d i = s.island d i := by
  unfold State.island
  rw [h.1]

theorem IslandsKept.setBm (h : IslandsKept s t) (d i m : Nat) (b : Bm) : IslandsKept s (t.setBm d i m b) := h

end

section
variable (s : State) (d i root : Nat)

theorem State.ffInit_setIsland (x : Isl) : (s.setIsland d i x).ffInit d i = s.ffInit d i := rfl

/-- The registers of an island at INIT, its slices at 0 (R217, R228, R229). -/
theorem State.initRegs_spec :
    (s.initRegs d i).island d i = { s.island d i with ff := s.ffInit d i, slices := [] } ∧ (s.initRegs d i).mem = s.mem := by
  unfold State.initRegs
  have hkept := (IslandsKept.refl (s.setIsland d i { s.island d i with ff := s.ffInit d i, slices := [] })).dioInitAll d i
  refine ⟨?_, hkept.2⟩
  rw [hkept.island, State.island_setIsland_same]

theorem State.resetIsland_kept :
    IslandsKept ((s.setIsland d i { s.island d i with underReset := true }).initRegs d i) (s.resetIsland d i) := by
  unfold State.resetIsland
  exact .resetChannels (.foldl (.refl _) fun _ _ hu => hu.setBm _ _ _ _) d i

/-- An island reset puts the island's registers at INIT and its slices at 0, and leaves its AR lines as they were (R157, R179, R217,
R229, log 168). -/
theorem State.resetIsland_spec :
    (s.resetIsland d i).island d i = { s.island d i with underReset := true, ff := s.ffInit d i, slices := [] } ∧
      (s.resetIsland d i).mem = s.mem := by
  have hkept := s.resetIsland_kept d i
  obtain ⟨hisland, hmem⟩ := (s.setIsland d i { s.island d i with underReset := true }).initRegs_spec d i
  refine ⟨?_, hkept.2.trans hmem⟩
  rw [hkept.island, hisland, State.island_setIsland_same, State.ffInit_setIsland]

/-- A shadow is open over an island whose reset has begun (R1010). -/
theorem State.openShadow_any : (s.openShadow d i root).shadows.any (fun x => x.die == d && x.island == i) = true := by
  unfold State.openShadow
  split
  · next h =>
    obtain ⟨x, hx, hdi⟩ := List.any_eq_true.mp h
    have hdi' := hdi
    rw [Bool.and_eq_true, beq_iff_eq, beq_iff_eq] at hdi'
    refine List.any_eq_true.mpr ⟨_, List.mem_map.mpr ⟨x, hx, rfl⟩, ?_⟩
    rw [if_pos hdi']
    exact hdi
  · simp

theorem State.openShadow_kept : IslandsKept s (s.openShadow d i root) := .ite (.refl s) (.refl s)

theorem execIslandReset_spec (hosc : s.oscRuns = true) (hask : bit (s.rf F.FAB_ISL_RST_RST d) i = true)
    (hfree : (s.island d i).underReset = false) :
    ∃ t, execIslandReset d i s = .next t ∧ (t.island d i).underReset = true ∧ (t.island d i).ff = s.ffInit d i ∧
      (t.island d i).ar = (s.island d i).ar ∧ (t.island d i).slices = [] ∧ t.mem = s.mem ∧
      t.shadows.any (fun x => x.die == d && x.island == i) = true := by
  have hexec : execIslandReset d i s = .next ((s.resetIsland d i).openShadow d i 0) := by
    unfold execIslandReset State.beginReset
    rw [if_pos (by rw [hosc, hask, hfree]; rfl)]
  obtain ⟨hisland, hmem⟩ := s.resetIsland_spec d i
  have hkept := (s.resetIsland d i).openShadow_kept d i 0
  have hread : ((s.resetIsland d i).openShadow d i 0).island d i =
      { s.island d i with underReset := true, ff := s.ffInit d i, slices := [] } :=
    (hkept.island d i).trans hisland
  refine ⟨_, hexec, ?_, ?_, ?_, ?_, hkept.2.trans hmem, State.openShadow_any _ _ _ _⟩
  · rw [hread]
  · rw [hread]
  · rw [hread]
  · rw [hread]

end

/-! ## An edge of the logic clock -/

theorem State.dioCell_setDio_ne (s : State) (d k k' : Nat) (x : Dio) (h : k' ≠ k) : (s.setDio d k x).dioCell d k' = s.dioCell d k' :=
  mget_mset_ne _ _ _ _ _ _ fun hkey => h (Nat.pair_eq_pair.mp hkey).2

/-- Values written under the keys below `n` read back. -/
theorem mget_foldl_mset_range {V : Type} [DecidableEq V] (f : Nat → V) (dflt : V) (m : SMap V) {n k : Nat} (hk : k < n) :
    mget ((List.range n).foldl (fun m k => mset m k (f k) dflt) m) k dflt = f k := by
  induction n with
  | zero => omega
  | succ n ih =>
    rw [List.range_succ, List.foldl_append, List.foldl_cons, List.foldl_nil]
    by_cases h : k = n
    · subst h
      exact mget_mset_same _ _ _ _
    · rw [mget_mset_ne _ _ _ _ _ _ h]
      exact ih (by omega)

/-- The DIO cells of an island below cell `n` replaced. -/
def State.captureDio (s : State) (d i n : Nat) (x : Nat → Dio) : State :=
  (List.range n).foldl (fun (s : State) k => if dioIsland k = i then s.setDio d k (x k) else s) s

section
variable (s : State) (d i : Nat)

theorem State.captureDio_succ (n : Nat) (x : Nat → Dio) : s.captureDio d i (n + 1) x =
    if dioIsland n = i then (s.captureDio d i n x).setDio d n (x n) else s.captureDio d i n x := by
  unfold State.captureDio
  rw [List.range_succ, List.foldl_append]
  rfl

theorem State.captureDio_frame (n : Nat) (x : Nat → Dio) : ∃ m, s.captureDio d i n x = { s with dio := m } := by
  induction n with
  | zero => exact ⟨s.dio, rfl⟩
  | succ n ih =>
    obtain ⟨m, hm⟩ := ih
    rw [State.captureDio_succ, hm]
    split
    · exact ⟨_, rfl⟩
    · exact ⟨m, rfl⟩

theorem State.dioCell_captureDio {n k : Nat} (x : Nat → Dio) (hk : k < n) (hisl : dioIsland k = i) :
    (s.captureDio d i n x).dioCell d k = x k := by
  induction n with
  | zero => omega
  | succ n ih =>
    rw [State.captureDio_succ]
    by_cases h : k = n
    · subst h
      rw [if_pos hisl, State.dioCell_setDio_same]
    · have hlow := ih (by omega)
      split
      · rw [State.dioCell_setDio_ne _ _ _ _ _ h, hlow]
      · exact hlow

/-- A driven cell notes its level, and keeps its registers (R1006). -/
theorem State.dioCell_noteDio (k : Nat) : ∃ v, (s.noteDio d i).dioCell d k = { s.dioCell d k with driven := v } := by
  refine foldl_keeps (fun t : State => ∃ v, t.dioCell d k = { s.dioCell d k with driven := v }) _ _ s ⟨_, rfl⟩ fun t k' ht => ?_
  obtain ⟨v, hv⟩ := ht
  dsimp only
  split
  · by_cases h : k = k'
    · subst h
      rw [State.dioCell_setDio_same, hv]
      exact ⟨_, rfl⟩
    · rw [State.dioCell_setDio_ne _ _ _ _ _ h]
      exact ⟨v, hv⟩
  · exact ⟨v, hv⟩

theorem State.noteDio_frame : ∃ m, s.noteDio d i = { s with dio := m } := by
  refine foldl_keeps (fun t => ∃ m, t = { s with dio := m }) _ _ s ⟨s.dio, rfl⟩ fun t k ht => ?_
  obtain ⟨m, rfl⟩ := ht
  split
  · exact ⟨_, rfl⟩
  · exact ⟨m, rfl⟩

theorem State.logicEdge_eq : s.logicEdge d i =
    (((s.setIsland d i { s.island d i with ff := s.ffsNext d i, slices := s.slicesNext d i }).captureDio d i 48
      fun k => ((List.range 48).map fun k => s.dioNext d k).getD k Dio.init).noteDio d i).evtRestart d i := rfl

theorem State.logicEdge_island :
    (s.logicEdge d i).island d i = { s.island d i with ff := s.ffsNext d i, slices := s.slicesNext d i } := by
  rw [s.logicEdge_eq]
  generalize (fun k => ((List.range 48).map fun k => s.dioNext d k).getD k Dio.init) = x
  obtain ⟨m, hm⟩ := (s.setIsland d i { s.island d i with ff := s.ffsNext d i, slices := s.slicesNext d i }).captureDio_frame d i 48 x
  rw [hm]
  generalize hu : s.setIsland d i { s.island d i with ff := s.ffsNext d i, slices := s.slicesNext d i } = u
  obtain ⟨m', hm'⟩ := State.noteDio_frame { u with dio := m } d i
  obtain ⟨e, he⟩ := State.evtRestart_frame { u with dio := m' } d i
  rw [hm', he]
  change u.island d i = _
  rw [← hu, State.island_setIsland_same]

/-- A flip-flop takes INIT under AR or SR, its D input with CE, and holds otherwise (R178, R179, Table 4-1). -/
theorem State.logicEdge_ff (k : Nat) (hk : k < 4096) : bit ((s.logicEdge d i).island d i).ff k =
    if bit (s.island d i).ar (k / 16) = true ∨ s.sinkVal d i (.sr k) = true then bit (s.ffInit d i) k
    else if s.sinkVal d i (.ce k) = true then s.ffD d i k else bit (s.island d i).ff k := by
  rw [s.logicEdge_island]
  unfold State.ffsNext
  rw [bit_bitsOf_range _ hk]
  unfold ffNext
  simp only [Bool.false_or, Bool.or_eq_true]

/-- A slice takes its edge, with PCIN from the slice below (R203, R205). -/
theorem State.logicEdge_slice (k : Nat) (hk : k < 16) : ((s.logicEdge d i).island d i).slice k =
    sliceEdge ((s.fabric d i).signed k) ((s.fabric d i).sat k) ((s.island d i).slice k) (s.sliceIn d i k) := by
  rw [s.logicEdge_island]
  exact mget_foldl_mset_range
    (fun k => sliceEdge ((s.fabric d i).signed k) ((s.fabric d i).sat k) ((s.island d i).slice k) (s.sliceIn d i k)) _ _ hk

/-- The registers of a DIO cell after an edge (R210, R213). -/
theorem State.logicEdge_dio (k : Nat) (hk : k < 48) (hisl : dioIsland k = i) :
    ∃ v, (s.logicEdge d i).dioCell d k = { s.dioNext d k with driven := v } := by
  rw [s.logicEdge_eq]
  generalize hx : (fun k => ((List.range 48).map fun k => s.dioNext d k).getD k Dio.init) = x
  generalize s.setIsland d i { s.island d i with ff := s.ffsNext d i, slices := s.slicesNext d i } = u
  have hcell := u.dioCell_captureDio d i x hk hisl
  have hxk : x k = s.dioNext d k := by
    rw [← hx]
    simp [hk]
  generalize u.captureDio d i 48 x = t at hcell ⊢
  obtain ⟨v, hv⟩ := t.dioCell_noteDio d i k
  obtain ⟨e, he⟩ := (t.noteDio d i).evtRestart_frame d i
  refine ⟨v, ?_⟩
  rw [he]
  change (t.noteDio d i).dioCell d k = _
  rw [hv, hcell, hxk]

end

/-! ## A cycle without a logic clock -/

section
variable (s : State) (d i : Nat)

/-- Nothing differs but an island's clock status, its counter of stretched cycles and its AMPLE count. -/
def OnlySlack (s t : State) (d i : Nat) : Prop :=
  (∃ m n, t = { s with regs := m, isl := (s.setIsland d i { s.island d i with ample := n }).isl }) ∧
    RegsKept s t [⟨.ISL_CLK_STAT, d, i, 0⟩, ⟨.ISL_STRETCH_CNT, d, i, 0⟩]

theorem OnlyRegs.setAmple {s t : State} {d i : Nat} (h : OnlyRegs s t [⟨.ISL_CLK_STAT, d, i, 0⟩, ⟨.ISL_STRETCH_CNT, d, i, 0⟩])
    (n : Nat) : OnlySlack s (t.setAmple d i n) d i := by
  obtain ⟨hframe, hkept⟩ := h
  obtain ⟨m, rfl⟩ : ∃ m, t = { s with regs := m } := ⟨_, hframe⟩
  exact ⟨⟨m, n, rfl⟩, hkept.setIsland d i _⟩

/-- An AMPLE cycle changes nothing else (R113, R168). -/
theorem State.slackAmple_only : OnlySlack s (s.slackAmple d i) d i := by
  unfold State.slackAmple
  dsimp only
  split
  · exact ((OnlyRegs.refl s _).wf F.ISL_CLK_STAT_SLACK 0 d i 0 (.head _)).setAmple 0
  · split
    · have hfits := (Nat.sub_le (s.rf F.ISL_CLK_STAT_STRETCH d i) 1).trans_lt (s.rf_lt F.ISL_CLK_STAT_STRETCH d i 0)
      obtain ⟨-, -, -, hframe, hkept⟩ := s.showSlack_stretch d i _ 0 _ (by decide) hfits _ (s.stretchDecay_eq d i)
      exact ⟨⟨_, 0, hframe⟩, hkept⟩
    · obtain ⟨m, hm⟩ := s.countStretch_frame d i 1
      have hcount : OnlyRegs s (s.countStretch d i 1) [⟨.ISL_CLK_STAT, d, i, 0⟩, ⟨.ISL_STRETCH_CNT, d, i, 0⟩] :=
        ⟨by rw [hm], s.countStretch_kept d i 1 _ (.tail _ (.head _))⟩
      exact (hcount.wf F.ISL_CLK_STAT_SLACK 0 d i 0 (.head _)).setAmple _

theorem State.running_congr {s t : State} {d i : Nat} (hrun : t.rb F.ISL_CLK_CTL_RUN d i = s.rb F.ISL_CLK_CTL_RUN d i)
    (hreset : (t.island d i).underReset = (s.island d i).underReset) (hheld : (t.island d i).held = (s.island d i).held)
    (hrst : t.rst = s.rst) : t.running d i = s.running d i := by
  unfold State.running State.gated
  rw [hrun, hreset, hheld, hrst]

/-- An island whose logic clock is stopped captures nothing (R221). -/
theorem State.islandCycle_stopped (hstop : s.running d i = false) :
    ((s.islandCycle d i).island d i).ff = (s.island d i).ff ∧ ((s.islandCycle d i).island d i).slices = (s.island d i).slices ∧
      (s.islandCycle d i).dio = s.dio := by
  obtain ⟨⟨m, n, hm⟩, hkept⟩ := s.slackAmple_only d i
  obtain ⟨e, he⟩ := (s.slackAmple d i).evtSample_frame d i
  have hisland : ((s.slackAmple d i).evtSample d i).island d i = { s.island d i with ample := n } := by
    rw [he, hm]
    exact s.island_setIsland_same d i _
  have hctl := hkept ⟨.ISL_CLK_CTL, d, i, 0⟩ (by simp)
  have hrun : ((s.slackAmple d i).evtSample d i).rb F.ISL_CLK_CTL_RUN d i = s.rb F.ISL_CLK_CTL_RUN d i := by
    rw [he]
    exact congrArg (fun w => F.ISL_CLK_CTL_RUN.get w == 1) hctl
  have hstill : ((s.slackAmple d i).evtSample d i).running d i = false :=
    (State.running_congr hrun (by rw [hisland]) (by rw [hisland]) (by rw [he, hm])).trans hstop
  have hcycle : s.islandCycle d i = (s.slackAmple d i).evtSample d i := by
    unfold State.islandCycle
    dsimp only
    rw [if_neg (by rw [hstill]; decide)]
  rw [hcycle, hisland]
  exact ⟨rfl, rfl, by rw [he, hm]⟩

end

/-- Settles O10: each clause by the lemma on its command, or on the part of the logic edge that it speaks of. -/
theorem islandsAreResetAndStarted : Obligations.IslandsAreResetAndStarted := by
  unfold Obligations.IslandsAreResetAndStarted
  refine ⟨fun s d i w hosc htag => execIslClkCtlWrite_spec s d i w hosc htag, fun s d i c => execAsyncResetAssert_spec s d i c,
    fun s d i c hrun har => execAsyncResetRelease_spec s d i c hrun har,
    fun s d w htag hheld => execFabIslRstWrite_spec s d w htag hheld,
    fun s d i hosc hask hfree => execIslandReset_spec s d i hosc hask hfree,
    fun s d i hosc _ hreset => execIslandResetEnd_spec s d i hosc hreset,
    fun s d i hwant hcode => execRunSetAfterLoad_spec s d i hwant hcode, fun s d i k hk => s.logicEdge_ff d i k hk,
    fun s d i k hk => ⟨s.logicEdge_slice d i k hk, rfl⟩, fun s d i k hk hisl => ?_, fun s d i hstop => s.islandCycle_stopped d i hstop⟩
  obtain ⟨v, hv⟩ := s.logicEdge_dio d i k hk hisl
  rw [hv, ← hisl]
  exact ⟨rfl, rfl, rfl, rfl⟩

/-! ## Event crossings: O9 -/

/-- An event crossing east out of island 5 whose count stands at 65,536, one more than its 16 bits hold; the island runs. -/
def countPastEnd : State := (State.reset.wf F.ISL_CLK_CTL_RUN 1 1 5).setEvt 1 5 1 ⟨65536, 0, 0, 0⟩

/-- A cycle without an event leaves the count of the crossing as it is. -/
theorem State.count_raise_none (s t : State) (d i p : Nat) (h : exec (.eventRaise d i p 0) s = .next t) :
    (t.evt d i p).count = (s.evt d i p).count := by
  change execEventRaise d i p 0 s = .next t at h
  unfold execEventRaise at h
  injection h with ht
  split at ht
  · rw [← ht, State.evt_setEvt_same]
    rfl
  · rw [← ht]

/-- Refutes O9: its clause on EVENT_RAISE ranges over every state, and asks neither that the count fits its 16 bits nor that there is
an event. A cycle of no events leaves the count of `countPastEnd` at 65,536, where the clause says that it becomes 0. -/
theorem not_channelsAndEventsCross : ¬ Obligations.ChannelsAndEventsCross := by
  unfold Obligations.ChannelsAndEventsCross
  rintro ⟨-, -, -, -, -, -, -, -, hraise, -⟩
  have hruns : countPastEnd.running 1 5 = true := by decide +kernel
  obtain ⟨t, ht, hcount, -⟩ := hraise countPastEnd 1 5 1 0 (by decide) (by decide) (by decide) hruns
  have hpast : (countPastEnd.evt 1 5 1).count = 65536 := by
    unfold countPastEnd
    rw [State.evt_setEvt_same]
  rw [State.count_raise_none _ _ _ _ _ ht, hpast] at hcount
  exact absurd hcount (by decide)

end Sys2Proof.Machine
end

section
/-!
SUPPORT. On-chip memory: proofs of the statements O11 to O15 and O20. The rules of stored words and of the records that faults
leave come first, then block memories and their windows, then scratchpad banks and the way to them.
-/
namespace Sys2Proof.Machine

/-! ## Stored words -/

theorem State.flipArmed_congr {s t : State} {d : Nat} (h : t.reg ⟨.PROT_FLIP_CTL, d, 0, 0⟩ = s.reg ⟨.PROT_FLIP_CTL, d, 0, 0⟩)
    (a : Arr) : t.flipArmed d a = s.flipArmed d a := by
  have hrf : ∀ f : Fld, f.reg = .PROT_FLIP_CTL → t.rf f d = s.rf f d := by
    intro f hf
    unfold State.rf
    rw [hf, h]
  unfold State.flipArmed State.rb
  rw [hrf _ rfl, hrf _ rfl, hrf _ rfl, hrf _ rfl]

section
variable (s : State) (d pa : Nat) (w : TWord)

/-- A write where the flip mask is not armed for the array stores the word and takes it off the write-back queue (R295, R303). -/
theorem State.storeWord_unarmed (h : s.flipArmed d (arrOf d pa) = false) :
    ∃ q, s.storeWord d pa w = { s.putWord d pa w with wb := q } := by
  unfold State.storeWord
  dsimp only
  split
  · have hqueue : (s.setWbq d (arrOf d pa) ((s.wbq d (arrOf d pa)).filter fun e => e.pa != pa)).flipArmed d (arrOf d pa) = false :=
      (State.flipArmed_congr rfl _).trans h
    rw [if_neg (by rw [hqueue]; decide)]
    exact ⟨_, rfl⟩
  · rw [if_neg (by rw [h]; decide)]
    exact ⟨_, rfl⟩

/-- Such a write stores the word with the check bits of its address, and no other word. -/
theorem State.storeWord_stores (h : s.flipArmed d (arrOf d pa) = false) :
    ∃ m q, s.storeWord d pa w = { s with mem := m, wb := q } ∧ State.cell { s with mem := m, wb := q } d pa = ⟨w, checkOf w pa⟩ ∧
      ∀ d' pa', memKey d' pa' ≠ memKey d pa → State.cell { s with mem := m, wb := q } d' pa' = s.cell d' pa' := by
  obtain ⟨q, hq⟩ := s.storeWord_unarmed d pa w h
  exact ⟨_, q, hq, s.cell_putWord_same d pa w, fun d' pa' hne => s.cell_putWord_ne d pa d' pa' w hne⟩

end

/-- An ADD of two data words stores their sum and answers the old word (R254, Table 5-4). -/
theorem State.atomicWord_add (s : State) (d pa : Nat) (old opd w : TWord) (hold : decodeCell (s.cell d pa) pa = .good old)
    (hsum : addWord old opd = some w) : s.atomicWord d pa false opd = (old, s.storeWord d pa w) := by
  unfold State.atomicWord
  simp [s.readWord_good d pa .atomic false old hold, hsum]

/-- A refused ADD answers the old word and is counted (R255). -/
theorem State.atomicWord_refused (s : State) (d pa : Nat) (old opd : TWord) (hold : decodeCell (s.cell d pa) pa = .good old)
    (hnone : addWord old opd = none) : s.atomicWord d pa false opd = (old, s.incE F.SP_ATOM_REFUSE_CNT_COUNT d) := by
  unfold State.atomicWord
  simp [s.readWord_good d pa .atomic false old hold, hnone]

theorem addWord_data (old opd : TWord) (hold : old.tag.toNat < 2) (hopd : opd.tag.toNat < 2) :
    addWord old opd = some ⟨old.data + opd.data, tagData⟩ := by
  have hne : ∀ t : Tag, t.toNat < 2 → t ≠ tagInvalid ∧ t ≠ tagRetracted := by decide
  obtain ⟨ho, ho'⟩ := hne _ hold
  obtain ⟨hp, hp'⟩ := hne _ hopd
  simp [addWord, ho, ho', hp, hp']

/-- Settles O15: a refused ADD is one count of SP_ATOM_REFUSE_CNT, which saturates. -/
theorem refusedAddsAreCounted : Obligations.RefusedAddsAreCounted := by
  unfold Obligations.RefusedAddsAreCounted
  intro s d pa old opd hold hnone
  rw [s.atomicWord_refused d pa old opd hold hnone]
  obtain ⟨hcount, hovf⟩ := s.incE_saturates F.SP_ATOM_REFUSE_CNT_COUNT d 0 0 1 rfl (by decide)
  refine ⟨rfl, fun d' pa' => ?_, fun hlt => hcount.trans (Nat.min_eq_right ?_),
    fun hmax => ⟨hcount.trans (Nat.min_eq_left ?_), hovf.trans (if_pos ?_)⟩, (OnlyRegs.refl s _).incE _ d 0 0 1 (List.mem_singleton.mpr rfl)⟩
  · unfold State.cell
    rw [State.incE_mem]
  · change s.rf F.SP_ATOM_REFUSE_CNT_COUNT d + 1 ≤ 65535
    omega
  · rw [hmax]; decide
  · rw [hmax]; decide

/-! ## Faults that are counted and recorded -/

theorem RegsKept.ww {s t : State} {rs : List Reg} (h : RegsKept s t rs) (n : RegName) (v d i j : Nat)
    (hf : (⟨n, d, i, j⟩ : Reg) ∈ rs) : RegsKept s (t.ww n v d i j) rs := by
  intro q hq
  have hne : q ≠ ⟨n, d, i, j⟩ := by rintro rfl; exact hq hf
  rw [State.reg_ww_ne _ _ _ _ _ _ _ hne]
  exact h q hq

/-- An event is counted, and recorded in a register while its VALID, bit 47, is 0. -/
def State.countRecord (s : State) (cnt : Fld) (last : RegName) (v d i j : Nat) : State :=
  let s := s.incE cnt d i j
  if s.rb ⟨last, 47, 47⟩ d i then s else s.ww last v d i

section
variable (s : State) (cnt : Fld) (last : RegName) (v d i j : Nat)

/-- Only the two registers change, and the first event is recorded. -/
theorem State.countRecord_spec (hname : cnt.reg ≠ last) :
    ∃ m, s.countRecord cnt last v d i j = { s with regs := m } ∧
      RegsKept s { s with regs := m } [⟨cnt.reg, d, i, j⟩, ⟨last, d, i, 0⟩] ∧
      (s.rf ⟨last, 47, 47⟩ d i = 0 → State.reg { s with regs := m } ⟨last, d, i, 0⟩ = BitVec.ofNat 48 v) := by
  obtain ⟨m, hm⟩ := s.incE_frame cnt d i j 1
  have hcnt : RegsKept s (s.incE cnt d i j) [⟨cnt.reg, d, i, j⟩, ⟨last, d, i, 0⟩] := (RegsKept.refl s _).incE _ _ _ _ _ (.head _)
  have hvalid : s.rf ⟨last, 47, 47⟩ d i = 0 → (s.incE cnt d i j).rb ⟨last, 47, 47⟩ d i = false := fun hv =>
    State.rb_of_rf_zero ((s.rf_incE_name cnt ⟨last, 47, 47⟩ d i j 1 d i 0 hname).trans hv)
  unfold State.countRecord
  rw [hm] at hcnt hvalid ⊢
  dsimp only
  split
  · next hset => exact ⟨m, rfl, hcnt, fun hv => by rw [hvalid hv] at hset; cases hset⟩
  · exact ⟨_, rfl, hcnt.ww _ _ _ _ _ (.tail _ (.head _)), fun _ => State.setReg_reg_same _ _ _⟩

end

/-- What BM_COLL_LAST records of two user writes of word `w` of a block memory (R284). -/
def collWord (m w : Nat) : Nat := 2 ^ 47 + 2 * 2 ^ 45 + m * 2 ^ 10 + w

/-- Two user writes of a word that collide are counted, recorded and raised (R265, R276, R284). -/
theorem State.collide_writes (s : State) (d i m w : Nat) :
    s.collide d i m 2 w false = (s.countRecord F.BM_WW_CNT_COUNT .BM_COLL_LAST (collWord m w) d i m).raise .blockMemoryWriteCollision d i
      ((s.countRecord F.BM_WW_CNT_COUNT .BM_COLL_LAST (collWord m w) d i m).rw .BM_COLL_LAST d i) := rfl

/-- What SP_STARVE_LAST records of a request of class `cls` at bank `b` (R291). -/
def starveWord (cls b : Nat) : Nat := 2 ^ 47 + (cls - 1) * 2 ^ 8 + b

/-- A starved request is counted, recorded and raised (R277, R291). -/
theorem State.starve_eq (s : State) (d b cls : Nat) :
    s.starve d b cls = (s.countRecord F.SP_STARVE_CNT_COUNT .SP_STARVE_LAST (starveWord cls b) d 0 0).raise
      .scratchpadBankStarvation d b
      ((s.countRecord F.SP_STARVE_CNT_COUNT .SP_STARVE_LAST (starveWord cls b) d 0 0).rw .SP_STARVE_LAST d) := rfl

/-! ## Block-memory ports: O11 -/

section
variable (s : State) (d i m : Nat)

/-- An access alone at a port, away from the other port's narrow writes, is performed. -/
theorem State.portMid_performs (p : Nat) (q : PortReq) (htaken : s.portTaken d i m p q = false) (hmid : q.mid = false) :
    s.portMid d i m p q = s.portPerform d i m p q := by
  have haccess : s.portAccess d i m p q = s.portPerform d i m p q := if_neg (by rw [htaken]; decide)
  unfold State.portMid
  dsimp only
  split
  · exact haccess
  · rw [hmid, Bool.not_false, Bool.true_or, if_pos rfl]
    exact haccess

/-- A port of aspect 48 selects the word of its address (Table 5-1). -/
theorem portWord_whole (addr : Nat) : portWord 48 addr = addr % 1024 := by
  unfold portWord
  rw [Nat.div_self (by decide), Nat.div_one]

theorem execBmPortAccess_a (q : PortReq) (hrun : s.running d i = true) :
    exec (.bmPortAccess d i m (some q) none) s = .next (s.portMid d i m 0 q) := by
  change execBmPortAccess d i m (some q) none s = _
  unfold execBmPortAccess
  rw [hrun, ite_self]
  rfl

/-- A read presents the selected lane and the tag of the word (R238, R239). -/
theorem State.portPerform_read (p : Nat) (q : PortReq) (w0 : TWord) (hread : q.we = false)
    (hgood : decodeCell (s.cell d (bmAddr i m (portWord (s.aspect d i m p) q.addr)))
      (bmAddr i m (portWord (s.aspect d i m p) q.addr)) = .good w0) :
    s.portPerform d i m p q = s.setPort d i m p
      ⟨BitVec.ofNat 48 (laneGet w0.data (s.aspect d i m p) (portLane (s.aspect d i m p) q.addr)), w0.tag, false⟩ none := by
  unfold State.portPerform
  simp [hread, s.readWord_good d _ .read true w0 hgood]

/-- A write of a whole word stores it and presents the old word (R240). -/
theorem State.portPerform_write (p : Nat) (q : PortReq) (w0 : TWord) (hwrite : q.we = true) (hasp : s.aspect d i m p = 48)
    (hgood : decodeCell (s.cell d (bmAddr i m (q.addr % 1024))) (bmAddr i m (q.addr % 1024)) = .good w0) :
    s.portPerform d i m p q =
      (s.storeWord d (bmAddr i m (q.addr % 1024)) ⟨q.wdata, q.wtag⟩).setPort d i m p ⟨w0.data, w0.tag, false⟩ none := by
  unfold State.portPerform
  simp [hwrite, hasp, portWord_whole, s.readWord_good d _ .read false w0 hgood]

/-- A port that presents BUSY changes its block memory only, beside the free values that it takes. -/
theorem State.portBusy_spec (p : Nat) : ∃ n o pend, s.portBusy d i m p = { s.setPort d i m p o pend with freeCtr := n } ∧ o.busy = true :=
  ⟨_, _, _, rfl, rfl⟩

/-- Two writes of one word: port A's is performed, port B presents BUSY, and they collide (R265, R266, Table 5-7). -/
theorem State.portPair_writes (qa qb : PortReq) (ha : qa.we = true) (hb : qb.we = true) (haspA : s.aspect d i m 0 = 48)
    (haspB : s.aspect d i m 1 = 48) (haddr : qa.addr % 1024 = qb.addr % 1024) (htakenA : s.portTaken d i m 0 qa = false)
    (htakenB : s.portTaken d i m 1 qb = false) :
    s.portPair d i m qa qb = ((s.portPerform d i m 0 qa).portBusy d i m 1).collide d i m 2 (qa.addr % 1024) false := by
  unfold State.portPair State.portAccess
  simp [ha, hb, haspA, haspB, portWord_whole, haddr, htakenA, htakenB]

theorem execBmPortAccess_ab (qa qb : PortReq) (hrun : s.running d i = true) (hwin : s.windowMode d i m = false) :
    exec (.bmPortAccess d i m (some qa) (some qb)) s = .next (s.portPair d i m qa qb) := by
  change execBmPortAccess d i m (some qa) (some qb) s = _
  unfold execBmPortAccess
  simp [hrun, hwin]

theorem State.bm_setPort_a (o : PortOut) (pend : Option (Nat × Cell)) :
    (s.setPort d i m 0 o pend).bm d i m = { s.bm d i m with a := o, pendA := pend } := State.bm_setBm_same ..

theorem State.bm_setPort_b (o : PortOut) (pend : Option (Nat × Cell)) :
    (s.setPort d i m 1 o pend).bm d i m = { s.bm d i m with b := o, pendB := pend, winB := false } := State.bm_setBm_same ..

end

/-- Port B presents BUSY at a collision of two user writes, which is counted, recorded and raised (R265, R266, R284). -/
theorem State.collide_busy (s : State) (d i m w : Nat) (hm : m < 24) (hw : w < 1024) (t : State)
    (ht : (s.portBusy d i m 1).collide d i m 2 w false = t) :
    (t.bm d i m).b.busy = true ∧ t.mem = s.mem ∧
      t.faultLine = s.faultLine ++ [faultEv .blockMemoryWriteCollision d i (t.rw .BM_COLL_LAST d i)] ∧
      (s.rf F.BM_COLL_LAST_VALID d i = 0 → t.rw .BM_COLL_LAST d i = collWord m w) ∧
      RegsKept s t [⟨.BM_WW_CNT, d, i, m⟩, ⟨.BM_COLL_LAST, d, i, 0⟩] := by
  obtain ⟨n, o, pend, hbusy, ho⟩ := s.portBusy_spec d i m 1
  rw [hbusy, State.collide_writes] at ht
  obtain ⟨regs, hrec, hkept, hfirst⟩ := State.countRecord_spec { s.setPort d i m 1 o pend with freeCtr := n }
    F.BM_WW_CNT_COUNT .BM_COLL_LAST (collWord m w) d i m (by decide)
  rw [hrec] at ht
  subst ht
  refine ⟨?_, rfl, rfl, fun hv => ?_, hkept⟩
  · change ((s.setPort d i m 1 o pend).bm d i m).b.busy = true
    rw [State.bm_setPort_b]
    exact ho
  · have hfits : collWord m w < 2 ^ 48 := by unfold collWord; omega
    exact (congrArg BitVec.toNat (hfirst hv)).trans (BitVec.toNat_ofNat ..|>.trans (Nat.mod_eq_of_lt hfits))

theorem State.cell_congr {s t : State} (h : t.mem = s.mem) (d pa : Nat) : t.cell d pa = s.cell d pa := by
  unfold State.cell
  rw [h]

/-- Settles O11: each access by the lemma on its port, and a write by the one on the word that it stores. -/
theorem blockMemoryPortsReadFirst : Obligations.BlockMemoryPortsReadFirst := by
  unfold Obligations.BlockMemoryPortsReadFirst
  refine ⟨fun s d i m q w0 hrun hread htaken hmid hgood => ?_, fun s d i m q w0 hrun hwrite hasp htaken hmid hflip hgood => ?_,
    fun s d i m qa qb w0 hm hrun hwin ha hb haspA haspB haddr htakenA htakenB hflip hgood => ?_⟩
  · refine ⟨_, execBmPortAccess_a s d i m q hrun, ?_⟩
    rw [s.portMid_performs d i m 0 q htaken hmid, s.portPerform_read d i m 0 q w0 hread hgood, State.bm_setPort_a]
    exact ⟨rfl, rfl, rfl⟩
  · obtain ⟨mem, wb, hstore, hcell, hother⟩ := s.storeWord_stores d _ ⟨q.wdata, q.wtag⟩ hflip
    refine ⟨_, execBmPortAccess_a s d i m q hrun, ?_⟩
    rw [s.portMid_performs d i m 0 q htaken hmid, s.portPerform_write d i m 0 q w0 hwrite hasp hgood, hstore, State.bm_setPort_a]
    exact ⟨rfl, hcell, hother, rfl⟩
  · obtain ⟨mem, wb, hstore, hcell, hother⟩ := s.storeWord_stores d _ ⟨qa.wdata, qa.wtag⟩ hflip
    refine ⟨_, execBmPortAccess_ab s d i m qa qb hrun hwin, ?_⟩
    rw [s.portPair_writes d i m qa qb ha hb haspA haspB haddr htakenA htakenB, s.portPerform_write d i m 0 qa w0 ha haspA hgood, hstore]
    obtain ⟨hbusy, hmem, hline, hfirst, hkept⟩ := State.collide_busy
      (State.setPort { s with mem := mem, wb := wb } d i m 0 ⟨w0.data, w0.tag, false⟩ none) d i m (qa.addr % 1024) hm
      (Nat.mod_lt _ (by decide)) _ rfl
    exact ⟨hbusy, (State.cell_congr hmem _ _).trans hcell,
      fun d' pa hne => (State.cell_congr hmem _ _).trans (hother d' pa hne), hline, hfirst, hkept⟩

/-! ## Windows: O12 -/

/-- A response leaves behind everything that is under way in the transport (R493). -/
theorem State.respond_responded {s u : State} {x : Txn} {status : Nat} {ws : List TWord} {atomic : Bool} (hresps : u.resps = s.resps)
    (hnet : u.net = s.net) (hatomic : (x.op == .add || x.op == .swap) = atomic) :
    Responded s (u.respond x status ws) ⟨atomic, x.srcDie, x.master, x.rtag, status, ws⟩ := by
  subst hatomic
  unfold Responded State.respond
  rw [hresps, hnet]
  exact ⟨rfl, rfl⟩

theorem State.creditBack_frame (s : State) (x : Txn) (n : Nat) : ∃ c, s.creditBack x n = { s with credits := c } := by
  unfold State.creditBack
  split
  · exact ⟨_, rfl⟩
  · exact ⟨s.credits, rfl⟩

section
variable (s : State) (d i m : Nat) (r : WinReq) (rest : List WinReq) (w : TWord)

/-- Port B serves the last word of a window read: the response leaves with every word read, and the access is gone (R244, R245). -/
def State.winAnswered : State :=
  (((s.setPendB d i m none).creditBack r.txn 1).setWin d i m rest).respond r.txn 0 (r.acc ++ [w])

theorem State.winAnswered_frame :
    ∃ b a n c, s.winAnswered d i m r rest w = { s with bms := b, resps := a, net := n, credits := c } := by
  obtain ⟨b, hb⟩ : ∃ b, s.setPendB d i m none = { s with bms := b } := ⟨_, rfl⟩
  obtain ⟨c, hc⟩ := State.creditBack_frame { s with bms := b } r.txn 1
  obtain ⟨b', hb'⟩ : ∃ b', State.setWin { s with bms := b, credits := c } d i m rest = { s with bms := b', credits := c } :=
    ⟨_, rfl⟩
  unfold State.winAnswered
  rw [hb, hc, hb']
  exact ⟨_, _, _, _, rfl⟩

theorem State.winAnswered_spec (hop : r.txn.op = .read) (t : State) (ht : s.winAnswered d i m r rest w = t) :
    Responded s t ⟨false, r.txn.srcDie, r.txn.master, r.txn.rtag, 0, r.acc ++ [w]⟩ ∧ (t.bm d i m).win = rest ∧
      t = { s with bms := t.bms, resps := t.resps, net := t.net, credits := t.credits } := by
  subst ht
  refine ⟨?_, ?_, ?_⟩
  · obtain ⟨c, hc⟩ := (s.setPendB d i m none).creditBack_frame r.txn 1
    unfold State.winAnswered
    rw [hc]
    exact State.respond_responded rfl rfl (by rw [hop]; rfl)
  · unfold State.winAnswered State.setWin
    rw [State.respond_bm, State.bm_setBm_same]
  · obtain ⟨b, a, n, c, hframe⟩ := s.winAnswered_frame d i m r rest w
    rw [hframe]

/-- The last word of a window read on a free edge of port B, with no access of port A beside it. -/
theorem State.winEdge_lastRead (bFirst : Bool) (hop : r.txn.op = .read) (hlast : r.done + 1 = r.txn.len)
    (hgood : decodeCell (s.cell d (addrLocal r.txn.addr + r.done)) (addrLocal r.txn.addr + r.done) = .good w) :
    s.winEdge d i m r rest none bFirst false = s.winAnswered d i m r rest w := by
  have hword : s.winWord d i m r.txn r.done = (w, s.setPendB d i m none) := by
    unfold State.winWord
    simp [hop, s.readWord_good d _ .read true w hgood]
  have haccess : s.winAccess d i m r rest none bFirst = s.winAnswered d i m r rest w := by
    unfold State.winAccess State.winDone State.winAnswered
    simp [hword, hop, hlast]
  unfold State.winEdge
  dsimp only
  split
  · exact (if_neg (by simp)).trans haccess
  · exact haccess

/-- User logic's access displaced: port B presents BUSY and keeps its narrow write, and the window accesses stay. -/
theorem State.displace_spec (p : Option (Nat × Cell)) :
    ∃ n bms, (s.portBusy d i m 1).setPendB d i m p = { s with freeCtr := n, bms := bms } ∧
    (State.bm { s with bms := bms } d i m).win = (s.bm d i m).win ∧ (State.bm { s with bms := bms } d i m).b.busy = true := by
  obtain ⟨n, o, pend, hbusy, ho⟩ := s.portBusy_spec d i m 1
  have hport := s.bm_setPort_b d i m o pend
  rw [hbusy]
  refine ⟨n, _, rfl, ?_⟩
  unfold State.bm
  rw [mget_mset_same]
  change ((s.setPort d i m 1 o pend).bm d i m).win = _ ∧ ((s.setPort d i m 1 o pend).bm d i m).b.busy = true
  rw [hport]
  exact ⟨rfl, ho⟩

/-- A stolen edge of port B: BUSY to user logic, and one count of BM_STEAL_CNT (R246). -/
theorem State.stealBusy_spec (t : State) (ht : s.stealBusy d i m = t) :
    t.resps = s.resps ∧ t.net = s.net ∧ t.mem = s.mem ∧ (t.bm d i m).win = (s.bm d i m).win ∧ (t.bm d i m).b.busy = true ∧
      (s.rf F.BM_STEAL_CNT_COUNT d i < 65535 → t.rf F.BM_STEAL_CNT_COUNT d i = s.rf F.BM_STEAL_CNT_COUNT d i + 1) ∧
      RegsKept s t [⟨.BM_STEAL_CNT, d, i, 0⟩] := by
  obtain ⟨n, bms, hdisplace, hwin, hbusy⟩ := s.displace_spec d i m (s.portPend d i m 1)
  have hsteal : s.stealBusy d i m = ({ s with freeCtr := n, bms := bms } : State).incE F.BM_STEAL_CNT_COUNT d i := by
    rw [← hdisplace]; rfl
  rw [hsteal] at ht
  have hkept : RegsKept s t [⟨.BM_STEAL_CNT, d, i, 0⟩] :=
    ht ▸ RegsKept.incE (t := { s with freeCtr := n, bms := bms }) (fun q _ => rfl) _ _ _ _ _ (.head _)
  have hcount : s.rf F.BM_STEAL_CNT_COUNT d i + 1 < 2 ^ 32 → t.rf F.BM_STEAL_CNT_COUNT d i = s.rf F.BM_STEAL_CNT_COUNT d i + 1 :=
    ht ▸ State.rf_incE_same { s with freeCtr := n, bms := bms } F.BM_STEAL_CNT_COUNT d i 0 1 rfl
  obtain ⟨regs, hinc⟩ := State.incE_frame { s with freeCtr := n, bms := bms } F.BM_STEAL_CNT_COUNT d i 0 1
  rw [hinc] at ht
  subst ht
  exact ⟨rfl, rfl, rfl, hwin, hbusy, fun hlt => hcount (by omega), hkept⟩

theorem execWindowAccess_first (hheld : (s.island d i).held = false) (hwin : (s.bm d i m).win = r :: rest) (hrep : r.repeats = 0) :
    exec (.windowAccess d i m none false false) s = .next (s.winEdge d i m r rest none (s.bEarlier d i m false) false) := by
  change execWindowAccess d i m none false false s = _
  unfold execWindowAccess
  simp [hheld, hwin, hrep]

theorem execWindowSteal_first (hheld : (s.island d i).held = false) (hmode : s.windowMode d i m = false) (hrun : s.running d i = true)
    (hwin : (s.bm d i m).win = r :: rest) (hrep : r.repeats = 0) :
    exec (.windowSteal d i m none false) s = .next ((s.winEdge d i m r rest none false false).stealBusy d i m) := by
  change execWindowSteal d i m none false s = _
  unfold execWindowSteal
  simp [hheld, hmode, hrun, hwin, hrep]

theorem execWindowReadRepeat_first (hheld : (s.island d i).held = false) (hwin : (s.bm d i m).win = r :: rest) (hrep : r.repeats ≠ 0) :
    exec (.windowReadRepeat d i m none false false false) s =
      .next (s.winEdge d i m r rest none (s.bEarlier d i m false) false) := by
  change execWindowReadRepeat d i m none false false false s = _
  unfold execWindowReadRepeat
  simp [hheld, hwin, hrep]

end

/-- Settles O12: at a free edge, in a steal cycle and in a repeat the last word of a read is served in the same way. -/
theorem windowAccessesAreServed : Obligations.WindowAccessesAreServed := by
  unfold Obligations.WindowAccessesAreServed
  refine ⟨fun s d i m r rest w hheld hwin hrep hop hlast hgood => ?_, fun s d i m r rest w hheld hmode hrun hwin hrep hop hlast hgood => ?_,
    fun s d i m r rest w hheld hwin hrep hop hlast hgood => ?_⟩
  · refine ⟨_, execWindowAccess_first s d i m r rest hheld hwin hrep, ?_⟩
    exact s.winAnswered_spec d i m r rest w hop _ (s.winEdge_lastRead d i m r rest w _ hop hlast hgood).symm
  · refine ⟨_, execWindowSteal_first s d i m r rest hheld hmode hrun hwin hrep, ?_⟩
    rw [s.winEdge_lastRead d i m r rest w _ hop hlast hgood]
    obtain ⟨⟨hresps, hnet⟩, hgone, hframe⟩ := s.winAnswered_spec d i m r rest w hop _ rfl
    obtain ⟨hresps', hnet', hmem, hwin', hbusy, hcount, hkept⟩ := (s.winAnswered d i m r rest w).stealBusy_spec d i m _ rfl
    have hmem0 : (s.winAnswered d i m r rest w).mem = s.mem := by rw [hframe]
    have hreg : ∀ q, (s.winAnswered d i m r rest w).reg q = s.reg q := fun q => by rw [hframe]; rfl
    refine ⟨⟨hresps'.trans hresps, hnet'.trans hnet⟩, hwin'.trans hgone, hbusy, ?_, hmem.trans hmem0,
      fun q hq => (hkept q hq).trans (hreg q)⟩
    have hsame : (s.winAnswered d i m r rest w).rf F.BM_STEAL_CNT_COUNT d i = s.rf F.BM_STEAL_CNT_COUNT d i :=
      congrArg F.BM_STEAL_CNT_COUNT.get (hreg _)
    rw [← hsame]
    exact hcount
  · refine ⟨_, execWindowReadRepeat_first s d i m r rest hheld hwin hrep, ?_⟩
    exact s.winAnswered_spec d i m r rest w hop _ (s.winEdge_lastRead d i m r rest w _ hop hlast hgood).symm

/-! ## The choice of a bank: O13 -/

theorem getElem?_findIdx {A : Type} (l : List A) (p : A → Bool) (h : l.findIdx p < l.length) :
    ∃ x, l[l.findIdx p]? = some x ∧ p x = true :=
  ⟨_, List.getElem?_eq_getElem h, List.findIdx_getElem⟩

/-- What a rotation serves is a request of the class. -/
theorem rotPick_some {reqs : List BankReq} {cls rot n j : Nat} (h : rotPick reqs cls rot n = some j) :
    ∃ r, reqs[j]? = some r ∧ r.cls = cls := by
  unfold rotPick at h
  obtain ⟨k, -, hk⟩ := List.exists_of_findSome?_eq_some h
  dsimp only at hk
  split at hk
  · next hlt =>
    obtain ⟨r, hr, hp⟩ := getElem?_findIdx _ _ hlt
    obtain rfl := Option.some.inj hk
    exact ⟨r, hr, by simp at hp; exact hp.1⟩
  · cases hk

/-- A rotation over all requesters of a class passes no request of it over. -/
theorem rotPick_none {reqs : List BankReq} {cls rot n : Nat} (h : rotPick reqs cls rot n = none) (r : BankReq) (hr : r ∈ reqs)
    (hwho : r.who < n) : r.cls ≠ cls := by
  rintro rfl
  unfold rotPick at h
  rw [List.findSome?_eq_none_iff] at h
  have hturn := h ((r.who + n - rot % n) % n) (List.mem_range.mpr (Nat.mod_lt _ (by omega)))
  have hrot : (rot + (r.who + n - rot % n) % n) % n = r.who := by
    have hlt : rot % n < n := Nat.mod_lt _ (by omega)
    have hdiv := Nat.mod_add_div rot n
    have hround : rot + (r.who + n - rot % n) = r.who + n * (rot / n + 1) := by rw [Nat.mul_add_one]; omega
    rw [Nat.add_mod_mod, hround, Nat.add_mul_mod_self_left, Nat.mod_eq_of_lt hwho]
  dsimp only at hturn
  rw [hrot, if_pos] at hturn
  · cases hturn
  · exact List.findIdx_lt_length_of_exists ⟨r, hr, by simp⟩

/-- The four cases of the choice (R251 to R253). -/
theorem Bank.pick_cases (x : Bank) (wb : Bool) :
    (∃ j r, x.pick wb = some (some j) ∧ x.reqs[j]? = some r ∧ r.cls = 1) ∨
    (rotPick x.reqs 1 x.rot1 4 = none ∧ wb = true ∧ x.pick wb = some none) ∨
    (rotPick x.reqs 1 x.rot1 4 = none ∧ wb = false ∧ ∃ j r, x.pick wb = some (some j) ∧ x.reqs[j]? = some r ∧ r.cls = 3) ∨
    (rotPick x.reqs 1 x.rot1 4 = none ∧ wb = false ∧ (∀ r ∈ x.reqs, r.cls ≠ 3) ∧ x.pick wb = (rotPick x.reqs 4 x.rot4 10).map some) := by
  unfold Bank.pick
  cases h1 : rotPick x.reqs 1 x.rot1 4 with
  | some j =>
    obtain ⟨r, hr, hcls⟩ := rotPick_some h1
    exact .inl ⟨j, r, rfl, hr, hcls⟩
  | none =>
    cases wb with
    | true => exact .inr (.inl ⟨rfl, rfl, rfl⟩)
    | false =>
      by_cases h3 : (x.reqs.findIdx fun r => r.cls == 3) < x.reqs.length
      · obtain ⟨r, hr, hcls⟩ := getElem?_findIdx _ _ h3
        exact .inr (.inr (.inl ⟨rfl, rfl, _, r, if_pos h3, hr, of_decide_eq_true hcls⟩))
      · refine .inr (.inr (.inr ⟨rfl, rfl, fun r hr hcls => h3 ?_, if_neg h3⟩))
        exact List.findIdx_lt_length_of_exists ⟨r, hr, beq_of_eq hcls⟩

/-- Settles O13: the request chosen is of the class that its case of the choice names, and the earlier cases have none. -/
theorem banksServeTheLowestClassFirst : Obligations.BanksServeTheLowestClassFirst := by
  unfold Obligations.BanksServeTheLowestClassFirst
  intro x wb hreqs
  have hno1 : rotPick x.reqs 1 x.rot1 4 = none → ∀ u ∈ x.reqs, u.cls ≠ 1 := fun hnone u hu hcls => by
    have hwho : u.who < 4 := by have := hreqs u hu; omega
    exact rotPick_none hnone u hu hwho hcls
  have hno4 : rotPick x.reqs 4 x.rot4 10 = none → ∀ u ∈ x.reqs, u.cls ≠ 4 := fun hnone u hu hcls => by
    have hwho : u.who < 10 := by have := hreqs u hu; omega
    exact rotPick_none hnone u hu hwho hcls
  obtain ⟨k, r, hpick, hk, hcls⟩ | ⟨hnone, rfl, hpick⟩ | ⟨hnone, rfl, k, r, hpick, hk, hcls⟩ | ⟨hnone, rfl, hno3, hpick⟩ :=
    x.pick_cases wb
  · rw [hpick]
    refine ⟨fun j u hj hu h3 => ?_, fun j u hj hu h4 => ?_, nofun, nofun, fun j hj => ?_⟩ <;> cases hj
    · rw [hk] at hu; cases hu; omega
    · rw [hk] at hu; cases hu; omega
    · exact (List.getElem?_eq_some_iff.mp hk).1
  · rw [hpick]
    exact ⟨nofun, nofun, fun _ => hno1 hnone, nofun, nofun⟩
  · rw [hpick]
    refine ⟨fun _ _ _ _ _ => ⟨rfl, hno1 hnone⟩, fun j u hj hu h4 => ?_, nofun, nofun, fun j hj => ?_⟩ <;> cases hj
    · rw [hk] at hu; cases hu; omega
    · exact (List.getElem?_eq_some_iff.mp hk).1
  · rw [hpick]
    cases hpick4 : rotPick x.reqs 4 x.rot4 10 with
    | none =>
      refine ⟨nofun, nofun, nofun, fun _ => ⟨rfl, List.eq_nil_iff_forall_not_mem.mpr fun u hu => ?_⟩, nofun⟩
      have hcls := hreqs u hu
      have h1 := hno1 hnone u hu
      have h3 := hno3 u hu
      have h4 := hno4 hpick4 u hu
      omega
    | some k =>
      obtain ⟨r, hk, hcls⟩ := rotPick_some hpick4
      have hall : ∀ u ∈ x.reqs, u.cls = 4 := fun u hu => by
        have hcls := hreqs u hu
        have h1 := hno1 hnone u hu
        have h3 := hno3 u hu
        omega
      refine ⟨fun j u hj hu h3 => ?_, fun _ _ _ _ _ => ⟨rfl, hall⟩, nofun, nofun, fun j hj => ?_⟩ <;> cases hj
      · rw [hk] at hu; cases hu; omega
      · exact (List.getElem?_eq_some_iff.mp hk).1

/-! ## The way to a bank: O20 -/

section
variable (s : State) (x : Txn)

theorem Net.underWay_idle (n : Net) (l : Freight) (hnet : n.pkts = []) : n.underWay l = false := by
  unfold Net.underWay
  rw [hnet]
  rfl

/-- With nothing under way in the transport no slot passes. -/
theorem State.netUntil_idle (l : Freight) (k : Nat) (hnet : s.net.pkts = []) : s.netUntil l k = s := by
  cases k with
  | zero => rfl
  | succ k =>
    unfold State.netUntil
    rw [s.net.underWay_idle l hnet]
    rfl

theorem State.arrive_idle (hnet : s.net.pkts = []) (hx : x ∈ s.inFlight) :
    s.arrive x = some { s with inFlight := s.inFlight.erase x } := by
  have hidle := s.net.underWay_idle (.req x) hnet
  have hleave : s.net.leave (.req x) = s.net := by
    unfold Net.leave
    rw [hnet, List.eraseP_nil, ← hnet]
  unfold State.arrive
  rw [if_pos (List.contains_iff_mem.mpr hx), hidle, hleave]
  rfl

/-- A well-formed transaction under way to a scratchpad word of its own die, alone in the network and held back by no other. -/
structure State.BankBound : Prop where
  powered : s.rst.por = false
  awake : s.rst.inReset = false
  idle : s.net.pkts = []
  formed : s.txnOk x = true
  die : s.hasDie x.srcDie = true
  range : x.addr % 64 + x.len ≤ 64
  device : addrDev x.addr = s.devNum
  own : addrDie x.addr = x.srcDie
  fabric : x.srcDie < 5
  free : s.txnHeld x = false
  bank : addrLocal x.addr < (if x.srcDie = 0 then 0x20000 else 0x80000)
  offered : x ∈ s.inFlight

/-- A transaction to a scratchpad of its own die is not held back on its way: it has none (Table 9-3). -/
theorem State.txnMove_toBank (h : s.BankBound x) :
    s.txnMove x = ({ s with inFlight := s.inFlight.erase x } : State).bankPresent x.srcDie (addrLocal x.addr / 0x8000) x := by
  obtain ⟨hpor, hrst, hnet, hok, hdie, hrange, hdev, hown, hlt, hheld, hbank, hx⟩ := h
  have hdest : s.destDie x = x.srcDie := by
    unfold State.destDie
    rw [if_pos hdev, hown]
  have hhops : s.hopsOf x.srcDie x.srcDie = [] := if_pos rfl
  have hpairs : s.pairsOf x.srcDie x.srcDie = [] := by
    unfold State.pairsOf
    rw [hhops]
    rfl
  have hidle := s.net.underWay_idle (.req x) hnet
  have hroom : s.offeredFull x = false := by
    unfold State.offeredFull
    rw [hdest, hhops]
    exact Bool.and_false _
  have hend : s.endpoint x.srcDie x =
      ({ s with inFlight := s.inFlight.erase x } : State).bankPresent x.srcDie (addrLocal x.addr / 0x8000) x := by
    have hguest : x.srcDie ≠ 5 := by omega
    unfold State.endpoint
    dsimp only
    rw [if_neg hguest, if_pos hbank]
    unfold State.take
    rw [s.arrive_idle x hnet hx]
  unfold State.txnMove
  rw [s.netUntil_idle _ _ hnet]
  have hfits : ¬ 64 < x.addr % 64 + x.len := by omega
  simp only [hpor, hrst, hok, hdest, hdie, hpairs, hidle, hheld, hroom, hdev, hfits, hend, List.any_nil, List.all_nil, Bool.or_self,
    Bool.not_true, Bool.false_eq_true, if_false, ne_eq, not_true_eq_false]

theorem State.bankPresent_spec (d b : Nat) :
    ((s.bankPresent d b x).bank d b).reqs =
        (s.bank d b).reqs ++ [⟨x, (bankClass d x).1, (bankClass d x).2, 0, [], false, false⟩] ∧
      ∃ m, s.bankPresent d b x = { s with banks := m } := by
  refine ⟨?_, _, rfl⟩
  unfold State.bankPresent
  dsimp only
  rw [State.bank_setBank_same]

/-- What O20 says of a transaction that is performed. -/
theorem State.txnMove_presents (h : s.BankBound x) (o : Out)
    (ho : o = .next (s.txnMove x)) :
    ∃ t, o = .next t ∧ t.inFlight = s.inFlight.erase x ∧
      (t.bank x.srcDie (addrLocal x.addr / 0x8000)).reqs = (s.bank x.srcDie (addrLocal x.addr / 0x8000)).reqs
        ++ [⟨x, (bankClass x.srcDie x).1, (bankClass x.srcDie x).2, 0, [], false, false⟩] ∧
      t = { s with inFlight := t.inFlight, banks := t.banks } := by
  obtain ⟨hreqs, m, hframe⟩ := State.bankPresent_spec { s with inFlight := s.inFlight.erase x } x x.srcDie (addrLocal x.addr / 0x8000)
  rw [← s.txnMove_toBank x h] at hreqs hframe
  exact ⟨_, ho, by rw [hframe], hreqs, by rw [hframe]⟩

end

/-- Settles O20: the five commands are `txnMove` on their own operation. -/
theorem transactionsReachTheirBank : Obligations.TransactionsReachTheirBank := by
  unfold Obligations.TransactionsReachTheirBank
  refine ⟨?_, ?_, ?_, ?_, ?_⟩
  all_goals
    intro s x hpor hrst hnet hok hop hdie hrange hdev hown hlt hheld hbank hx
    exact s.txnMove_presents x ⟨hpor, hrst, hnet, hok, hdie, hrange, hdev, hown, hlt, hheld, hbank, hx⟩ _ (congrArg _ (if_pos hop))

/-! ## The cycle of a bank -/

theorem RegsKept.incE_frame {s t : State} {rs : List Reg} (h : RegsKept s t rs) (f : Fld) (d i j n : Nat)
    (hf : (⟨f.reg, d, i, j⟩ : Reg) ∈ rs) : ∃ m, t.incE f d i j n = { t with regs := m } ∧ RegsKept s { t with regs := m } rs := by
  obtain ⟨m, hm⟩ := t.incE_frame f d i j n
  exact ⟨m, hm, hm ▸ h.incE f d i j n hf⟩

/-- A bank that has performed the last word of request `j`: the request is gone, and its class has rotated (R250 to R253). -/
def Bank.afterLast (x : Bank) (j : Nat) (r : BankReq) (second : Bool) : Bank :=
  { x with
    reqs := x.reqs.eraseIdx j
    second := second
    rot1 := if r.cls = 1 then (r.who + 1) % 4 else x.rot1
    rot4 := if r.cls = 4 then (r.who + 1) % 10 else x.rot4 }

section
variable (s : State) (d b j : Nat) (r : BankReq)

theorem State.creditBack_setBank (x : Txn) (y : Bank) :
    ∃ c m, (s.creditBack x 1).setBank d b y = { s with credits := c, banks := m } ∧ State.bank { s with banks := m } d b = y := by
  obtain ⟨c, hc⟩ := s.creditBack_frame x 1
  rw [hc]
  exact ⟨c, _, rfl, s.bank_setBank_same d b y⟩

section
variable (w : TWord) (second : Bool) (mem : SMap Cell) (wb : SMap (List WbEnt))
  (hword : s.bankWord d r = (w, second, { s with mem := mem, wb := wb }))
include hword

/-- A cycle with the last word of a request that answers: its response carries every word (R250, R292). -/
theorem State.bankServe_answers (hlast : r.txn.len ≤ r.done + 1) (hreq : isReq r.txn = true) (hpatrol : r.patrol = false) :
    ∃ m c banks, (s.bankServe d b j r).incE F.SP_BANK_USE_COUNT d b =
        State.respond { s with regs := m, mem := mem, wb := wb, credits := c, banks := banks } r.txn 0 (r.acc ++ [w]) ∧
      State.bank { s with banks := banks } d b = (s.bank d b).afterLast j r second ∧
      RegsKept s { s with regs := m } [⟨.SP_BANK_USE, d, b, 0⟩] := by
  obtain ⟨c, banks, hdone, hbank⟩ :=
    State.creditBack_setBank { s with mem := mem, wb := wb } d b r.txn ((s.bank d b).afterLast j r second)
  have hserve : s.bankServe d b j r =
      State.respond { s with mem := mem, wb := wb, credits := c, banks := banks } r.txn 0 (r.acc ++ [w]) := by
    rw [← hdone]
    unfold State.bankServe Bank.afterLast
    simp [hlast, hreq, hpatrol, hword]
  rw [hserve]
  obtain ⟨m, hm, hkept⟩ := RegsKept.incE_frame (s := s)
    (t := State.respond { s with mem := mem, wb := wb, credits := c, banks := banks } r.txn 0 (r.acc ++ [w]))
    (fun q _ => rfl) F.SP_BANK_USE_COUNT d b 0 1 (.head _)
  rw [hm]
  exact ⟨m, c, banks, rfl, hbank, hkept⟩

/-- A cycle with the last word of a write: nothing answers. -/
theorem State.bankServe_writes (hlast : r.txn.len ≤ r.done + 1) (hreq : isReq r.txn = false) :
    ∃ m c banks, (s.bankServe d b j r).incE F.SP_BANK_USE_COUNT d b =
        { s with regs := m, mem := mem, wb := wb, credits := c, banks := banks } ∧
      State.bank { s with banks := banks } d b = (s.bank d b).afterLast j r second ∧
      RegsKept s { s with regs := m } [⟨.SP_BANK_USE, d, b, 0⟩] := by
  obtain ⟨c, banks, hdone, hbank⟩ :=
    State.creditBack_setBank { s with mem := mem, wb := wb } d b r.txn ((s.bank d b).afterLast j r second)
  have hserve : s.bankServe d b j r = { s with mem := mem, wb := wb, credits := c, banks := banks } := by
    rw [← hdone]
    unfold State.bankServe Bank.afterLast
    simp [hlast, hreq, hword]
  rw [hserve]
  obtain ⟨m, hm, hkept⟩ := RegsKept.incE_frame (s := s) (t := { s with mem := mem, wb := wb, credits := c, banks := banks })
    (fun q _ => rfl) F.SP_BANK_USE_COUNT d b 0 1 (.head _)
  rw [hm]
  exact ⟨m, c, banks, rfl, hbank, hkept⟩

end

/-- A cycle in which a request is served: it is counted in SP_SAMPLE_CNT and SP_BANK_USE (R250, R292). -/
theorem execBankAccess_serves (n : Nat) (hsecond : (s.bank d b).second = false)
    (hpick : (s.bank d b).pick (!(s.wbq d (bankArr d b)).isEmpty) = some (some j)) (hr : (s.bank d b).reqs[j]? = some r) :
    ∃ m, RegsKept s { s with regs := m } [⟨.SP_SAMPLE_CNT, d, 0, 0⟩] ∧
      exec (.bankAccess d b n) s = .next ((State.bankServe { s with regs := m } d b j r).incE F.SP_BANK_USE_COUNT d b) := by
  obtain ⟨m, hm, hkept⟩ := (RegsKept.refl s [⟨.SP_SAMPLE_CNT, d, 0, 0⟩]).incE_frame F.SP_SAMPLE_CNT_COUNT d 0 0 n (.head _)
  refine ⟨m, hkept, ?_⟩
  change Host.Outcome.next ((s.incE F.SP_SAMPLE_CNT_COUNT d 0 0 n).bankCycle d b) = _
  rw [hm]
  have hbank : State.bank { s with regs := m } d b = s.bank d b := rfl
  have hqueue : State.wbq { s with regs := m } d (bankArr d b) = s.wbq d (bankArr d b) := rfl
  unfold State.bankCycle
  simp only [hbank, hqueue, hsecond, hpick, hr, Bool.false_eq_true, if_false]

/-- What a cycle counts: the two registers of the two counts (R292). -/
theorem RegsKept.bankCounts {s t u : State} {d b : Nat} (h : RegsKept s t [⟨.SP_SAMPLE_CNT, d, 0, 0⟩])
    (h' : RegsKept t u [⟨.SP_BANK_USE, d, b, 0⟩]) : RegsKept s u [⟨.SP_SAMPLE_CNT, d, 0, 0⟩, ⟨.SP_BANK_USE, d, b, 0⟩] :=
  (h.mono fun _ hq => List.mem_cons.mpr (.inl (List.mem_singleton.mp hq))).trans (h'.mono fun _ hq => .tail _ hq)

theorem State.flipArmed_kept {t : State} (hkept : RegsKept s t [⟨.SP_SAMPLE_CNT, d, 0, 0⟩]) (a : Arr) :
    t.flipArmed d a = s.flipArmed d a := State.flipArmed_congr (hkept _ (by simp)) a

section
variable (n : Nat) (hsecond : (s.bank d b).second = false)
  (hpick : (s.bank d b).pick (!(s.wbq d (bankArr d b)).isEmpty) = some (some j)) (hr : (s.bank d b).reqs[j]? = some r)
include hsecond hpick hr

/-- A bank that serves the last word of a READ (R250). -/
theorem execBankAccess_read (w : TWord) (hop : r.txn.op = .read) (hpatrol : r.patrol = false) (hlast : r.txn.len = r.done + 1)
    (hgood : decodeCell (s.cell d (addrLocal r.txn.addr + r.done)) (addrLocal r.txn.addr + r.done) = .good w) :
    ∃ t, exec (.bankAccess d b n) s = .next t ∧ Responded s t ⟨false, r.txn.srcDie, r.txn.master, r.txn.rtag, 0, r.acc ++ [w]⟩ ∧
      (t.bank d b).reqs = (s.bank d b).reqs.eraseIdx j ∧
      t = { s with regs := t.regs, banks := t.banks, resps := t.resps, net := t.net, credits := t.credits } ∧
      RegsKept s t [⟨.SP_SAMPLE_CNT, d, 0, 0⟩, ⟨.SP_BANK_USE, d, b, 0⟩] := by
  obtain ⟨m, hkept, hexec⟩ := execBankAccess_serves s d b j r n hsecond hpick hr
  have hword : State.bankWord { s with regs := m } d r = (w, false, { s with regs := m, mem := s.mem, wb := s.wb }) := by
    unfold State.bankWord
    simp [hop, hpatrol, State.readWord_good { s with regs := m } d _ .read true w hgood]
  obtain ⟨m', c, banks, hserve, hbank, hkept'⟩ := State.bankServe_answers { s with regs := m } d b j r w false s.mem s.wb hword hlast.le
    (by rw [isReq, hop]) hpatrol
  refine ⟨_, hexec, ?_⟩
  rw [hserve]
  exact ⟨State.respond_responded rfl rfl (by rw [hop]; rfl), congrArg Bank.reqs hbank, rfl, hkept.bankCounts hkept'⟩

/-- A bank that serves the last word of a WRITE (R250, R295). -/
theorem execBankAccess_write (hop : r.txn.op = .write) (hlast : r.txn.len = r.done + 1)
    (hflip : s.flipArmed d (arrOf d (addrLocal r.txn.addr + r.done)) = false) :
    ∃ t, exec (.bankAccess d b n) s = .next t ∧
      t.cell d (addrLocal r.txn.addr + r.done) = ⟨r.txn.words.getD r.done noWord,
        checkOf (r.txn.words.getD r.done noWord) (addrLocal r.txn.addr + r.done)⟩ ∧
      (∀ d' pa, memKey d' pa ≠ memKey d (addrLocal r.txn.addr + r.done) → t.cell d' pa = s.cell d' pa) ∧
      (t.bank d b).reqs = (s.bank d b).reqs.eraseIdx j ∧ t.resps = s.resps ∧
      RegsKept s t [⟨.SP_SAMPLE_CNT, d, 0, 0⟩, ⟨.SP_BANK_USE, d, b, 0⟩] := by
  obtain ⟨m, hkept, hexec⟩ := execBankAccess_serves s d b j r n hsecond hpick hr
  obtain ⟨mem, wb, hstore, hcell, hother⟩ := State.storeWord_stores { s with regs := m } d _ (r.txn.words.getD r.done noWord)
    ((s.flipArmed_kept d hkept _).trans hflip)
  have hword : State.bankWord { s with regs := m } d r = (noWord, false, { s with regs := m, mem := mem, wb := wb }) := by
    unfold State.bankWord
    simp only [hop]
    rw [hstore]
  obtain ⟨m', c, banks, hserve, hbank, hkept'⟩ := State.bankServe_writes { s with regs := m } d b j r noWord false mem wb hword hlast.le
    (by rw [isReq, hop])
  refine ⟨_, hexec, ?_⟩
  rw [hserve]
  exact ⟨hcell, hother, congrArg Bank.reqs hbank, rfl, hkept.bankCounts hkept'⟩

/-- A bank that performs an ADD of two data words (R254, Table 5-4). -/
theorem execBankAccess_add (old opd : TWord) (hop : r.txn.op = .add) (hpatrol : r.patrol = false) (hlen : r.txn.len = 1)
    (hdone : r.done = 0) (hwords : r.txn.words = [opd]) (hopd : opd.tag.toNat < 2) (hold : old.tag.toNat < 2)
    (hflip : s.flipArmed d (arrOf d (addrLocal r.txn.addr)) = false)
    (hgood : decodeCell (s.cell d (addrLocal r.txn.addr)) (addrLocal r.txn.addr) = .good old) :
    ∃ t, exec (.bankAccess d b n) s = .next t ∧ Responded s t ⟨true, r.txn.srcDie, r.txn.master, r.txn.rtag, 0, r.acc ++ [old]⟩ ∧
      (t.cell d (addrLocal r.txn.addr)).word = ⟨old.data + opd.data, tagData⟩ ∧ (t.bank d b).second = true ∧
      (∀ d' pa, memKey d' pa ≠ memKey d (addrLocal r.txn.addr) → t.cell d' pa = s.cell d' pa) := by
  obtain ⟨m, hkept, hexec⟩ := execBankAccess_serves s d b j r n hsecond hpick hr
  obtain ⟨mem, wb, hstore, hcell, hother⟩ := State.storeWord_stores { s with regs := m } d _ ⟨old.data + opd.data, tagData⟩
    ((s.flipArmed_kept d hkept _).trans hflip)
  have hword : State.bankWord { s with regs := m } d r = (old, true, { s with regs := m, mem := mem, wb := wb }) := by
    have hatomic := State.atomicWord_add { s with regs := m } d _ old opd _ hgood (addWord_data old opd hold hopd)
    unfold State.bankWord
    simp only [hop, hdone, hwords, Nat.add_zero, List.getD_cons_zero]
    rw [hatomic, hstore]
  obtain ⟨m', c, banks, hserve, hbank, -⟩ := State.bankServe_answers { s with regs := m } d b j r old true mem wb hword (by omega)
    (by rw [isReq, hop]) hpatrol
  refine ⟨_, hexec, ?_⟩
  rw [hserve]
  exact ⟨State.respond_responded rfl rfl (by rw [hop]; rfl), congrArg Cell.word hcell, congrArg Bank.second hbank, hother⟩

end

end

/-! ## Starvation, write-backs, patrol reads and the flip mask: O14 -/

/-- The fields of SP_STARVE_LAST of a request of class 3 or 4. -/
theorem starveWord_fields {cls b : Nat} (hcls : cls = 3 ∨ cls = 4) (hb : b < 16) {w : Word} (hw : w = BitVec.ofNat 48 (starveWord cls b)) :
    F.SP_STARVE_LAST_VALID.get w = 1 ∧ F.SP_STARVE_LAST_BANK.get w = b ∧ F.SP_STARVE_LAST_CLASS.get w = cls - 1 := by
  have hnat : w.toNat = starveWord cls b % 2 ^ 48 := by rw [hw, BitVec.toNat_ofNat]
  simp only [Fld.get, bits, F.SP_STARVE_LAST_VALID, F.SP_STARVE_LAST_BANK, F.SP_STARVE_LAST_CLASS, hnat, starveWord]
  omega

section
variable (s : State) (d b : Nat)

/-- A starved request is counted, recorded and raised (R277, R291). -/
theorem State.starve_spec (cls : Nat) (hcls : cls = 3 ∨ cls = 4) :
    ∃ m, s.starve d b cls = State.raise { s with regs := m } .scratchpadBankStarvation d b
        (State.rw { s with regs := m } .SP_STARVE_LAST d) ∧
      RegsKept s { s with regs := m } [⟨.SP_STARVE_CNT, d, 0, 0⟩, ⟨.SP_STARVE_LAST, d, 0, 0⟩] ∧
      (s.rf F.SP_STARVE_LAST_VALID d = 0 → b < 16 → State.rf { s with regs := m } F.SP_STARVE_LAST_VALID d = 1 ∧
        State.rf { s with regs := m } F.SP_STARVE_LAST_BANK d = b ∧ State.rf { s with regs := m } F.SP_STARVE_LAST_CLASS d = cls - 1) := by
  obtain ⟨m, hrec, hkept, hfirst⟩ := s.countRecord_spec F.SP_STARVE_CNT_COUNT .SP_STARVE_LAST (starveWord cls b) d 0 0 (by decide)
  have hstarve := s.starve_eq d b cls
  rw [hrec] at hstarve
  exact ⟨m, hstarve, hkept, fun hv hb => starveWord_fields hcls hb (hfirst hv)⟩

theorem execBankStarvation_request (k : Nat) (r : BankReq) (hen : s.rb F.SP_CTL_STARVE_EN d = true)
    (hr : (s.bank d b).reqs[k]? = some r) (hstarved : r.starved = false) (hpatrol : r.patrol = false) (hcls : r.cls = 3 ∨ r.cls = 4) :
    exec (.bankStarvation d b false k) s = .next
      ((s.setBank d b { s.bank d b with reqs := (s.bank d b).reqs.set k { r with starved := true } }).starve d b r.cls) := by
  have hne : r.cls ≠ 1 := by omega
  change execBankStarvation d b false k s = _
  unfold execBankStarvation
  simp [hen, hr, hstarved, hpatrol, hne]

/-- A waiting request that has been starved is marked, counted, recorded and raised (R277). -/
theorem execBankStarvation_spec (k : Nat) (r : BankReq) (hen : s.rb F.SP_CTL_STARVE_EN d = true)
    (hr : (s.bank d b).reqs[k]? = some r) (hstarved : r.starved = false) (hpatrol : r.patrol = false) (hcls : r.cls = 3 ∨ r.cls = 4) :
    ∃ t, exec (.bankStarvation d b false k) s = .next t ∧ (t.bank d b).reqs = (s.bank d b).reqs.set k { r with starved := true } ∧
      t.faultLine = s.faultLine ++ [faultEv .scratchpadBankStarvation d b (t.rw .SP_STARVE_LAST d)] ∧
      (s.rf F.SP_STARVE_LAST_VALID d = 0 → b < 16 → t.rf F.SP_STARVE_LAST_VALID d = 1 ∧ t.rf F.SP_STARVE_LAST_BANK d = b ∧
        t.rf F.SP_STARVE_LAST_CLASS d = r.cls - 1) ∧
      t = { s with regs := t.regs, banks := t.banks, faultLine := t.faultLine } ∧
      RegsKept s t [⟨.SP_STARVE_CNT, d, 0, 0⟩, ⟨.SP_STARVE_LAST, d, 0, 0⟩] := by
  have hexec := execBankStarvation_request s d b k r hen hr hstarved hpatrol hcls
  have hbank := s.bank_setBank_same d b { s.bank d b with reqs := (s.bank d b).reqs.set k { r with starved := true } }
  obtain ⟨m, hstarve, hkept, hfirst⟩ := State.starve_spec
    (s.setBank d b { s.bank d b with reqs := (s.bank d b).reqs.set k { r with starved := true } }) d b r.cls hcls
  rw [hstarve] at hexec
  exact ⟨_, hexec, congrArg Bank.reqs hbank, rfl, hfirst, rfl, hkept⟩

/-- The oldest write-back of a block memory stores the corrected word at a free edge of port B (R302). -/
theorem execWriteBack_bm (pa i m : Nat) (e : WbEnt) (q : List WbEnt) (harr : arrOf d pa = .bm i m) (hheld : (s.island d i).held = false)
    (hq : s.wbq d (.bm i m) = e :: q) :
    exec (.writeBack d ⟨pa, none, false, false⟩) s = .next ((s.putWord d e.pa e.word).setWbq d (.bm i m) q) := by
  change execWriteBack d ⟨pa, none, false, false⟩ s = _
  unfold execWriteBack
  simp [harr, hheld, hq, State.wbPort, State.wbHead]

/-- A patrol read joins the requests of its bank as one of class 4 (R309). -/
theorem execPatrolRead_spec (hen : s.rb F.PROT_CTL_PATROL_EN d (if d = 0 then 0 else 1) = true) :
    ∃ t, exec (.patrolRead d b) s = .next t ∧ (t.bank d b).patrol = ((s.bank d b).patrol + 1) % 0x8000 ∧
      (∃ r, (t.bank d b).reqs = (s.bank d b).reqs ++ [r] ∧ r.cls = 4 ∧ r.patrol = true ∧ r.txn.op = .read ∧
        r.txn.addr = b * 0x8000 + (s.bank d b).patrol ∧ r.txn.len = 1) ∧ t = { s with banks := t.banks } := by
  have hexec : exec (.patrolRead d b) s = .next _ := congrArg Host.Outcome.next (if_pos hen)
  refine ⟨_, hexec, ?_, ?_, rfl⟩
  · rw [State.bank_setBank_same]
  · rw [State.bank_setBank_same]
    exact ⟨_, rfl, rfl, rfl, rfl, rfl, rfl⟩

end

/-- Hardware actions that change no field, and overflow none, leave a write as it is. -/
theorem storeFields_idle (fds : List FieldDesc) (acts : List HwAct) (old : Word) (w : Nat)
    (hidle : ∀ fd ∈ fds, acts.foldl (writeFieldHw fd w) (writeField fd old w) = writeField fd old w ∧
      acts.any (hwOverflow fd (writeField fd old w)) = false) :
    storeFields fds acts old w = fds.foldl (storeField old w) old := by
  unfold storeFields storeField
  refine List.foldl_ext _ _ _ fun x fd hfd => ?_
  obtain ⟨hsame, hnone⟩ := hidle fd hfd
  dsimp only
  rw [hsame, hnone]
  rfl

theorem bits_of_bit {w k : Nat} (h : bit w k = true) : bits w k k = 1 := (b2n_bit w k).symm.trans (by rw [h]; rfl)

/-- A write of 1 to ARM sets it (R317). -/
theorem writeField_arm (old : Word) (w : Nat) (harm : bit w 47 = true) : writeField ⟨F.PROT_FLIP_CTL_ARM, .w1s, 0⟩ old w = 1 := by
  have hold : F.PROT_FLIP_CTL_ARM.get old < 2 := Fld.get_lt _ _
  change F.PROT_FLIP_CTL_ARM.get old ||| bits w 47 47 = 1
  rw [bits_of_bit harm]
  interval_cases F.PROT_FLIP_CTL_ARM.get old <;> rfl

/-- A field of PROT_FLIP_CTL is ARM, or hardware that clears ARM does not touch it. -/
theorem flipCtl_fields : ∀ fd ∈ (regDesc .PROT_FLIP_CTL 0).fields,
    fd = ⟨F.PROT_FLIP_CTL_ARM, .w1s, 0⟩ ∨ fd.acc = .rw ∧ fd.fld.within 47 47 = 0 := by decide

/-- A write of 1 to ARM wins over its clearing by hardware in the same cycle, which touches no other field (R317, Table 2-11). -/
theorem storeFields_flipCtl (old : Word) (w : Nat) (hwClear : Bool) (harm : bit w 47 = true) :
    storeFields (regDesc .PROT_FLIP_CTL 0).fields (if hwClear then [.clear 47 47] else []) old w =
      (regDesc .PROT_FLIP_CTL 0).fields.foldl (storeField old w) old := by
  refine storeFields_idle _ _ _ _ fun fd hfd => ?_
  cases hwClear with
  | false => exact ⟨rfl, rfl⟩
  | true =>
    refine ⟨?_, rfl⟩
    obtain rfl | ⟨hacc, hclear⟩ := flipCtl_fields fd hfd
    · rw [writeField_arm old w harm]
      change (1 - (1 &&& 1)) ||| (bits w 47 47 &&& 1) = 1
      rw [bits_of_bit harm]
      rfl
    · simp [writeFieldHw, HwAct.range, hclear, hacc]

/-- The fields of PROT_FLIP_CTL after a write that arms the mask (R317). -/
theorem State.plainWrite_flipCtl (s : State) (d w : Nat) (hwClear : Bool) (harm : bit w 47 = true) (fd : FieldDesc)
    (hfd : fd ∈ (regDesc .PROT_FLIP_CTL 0).fields) :
    fd.fld.get ((s.plainWrite ⟨.PROT_FLIP_CTL, d, 0, 0⟩ w (if hwClear then [.clear 47 47] else [])).reg ⟨.PROT_FLIP_CTL, d, 0, 0⟩) =
      writeField fd (s.reg ⟨.PROT_FLIP_CTL, d, 0, 0⟩) w := by
  unfold State.plainWrite
  rw [State.setReg_reg_same, storeFields_flipCtl _ _ _ harm]
  exact get_foldl_storeField _ _ _ _ (fieldsApart_plain .PROT_FLIP_CTL 0 (by decide)) fd hfd

theorem execFlipMaskArm_spec (s : State) (d : Nat) (w : TWord) (hwClear : Bool) (htag : w.tag.toNat < 2) (harm : bit w.data.toNat 47 = true) :
    ∃ t, exec (.flipMaskArm d w hwClear) s = .next t ∧ t.rf F.PROT_FLIP_CTL_ARM d = 1 ∧
      t.rf F.PROT_FLIP_CTL_TARGET d = bits w.data.toNat 46 44 ∧ t.rf F.PROT_FLIP_CTL_MASK_CHECK d = bits w.data.toNat 35 28 ∧
      OnlyRegs s t [⟨.PROT_FLIP_CTL, d, 0, 0⟩] := by
  have hfield := s.plainWrite_flipCtl d w.data.toNat hwClear harm
  refine ⟨_, if_pos htag, ?_, hfield ⟨F.PROT_FLIP_CTL_TARGET, .rw, 0⟩ (by decide),
    hfield ⟨F.PROT_FLIP_CTL_MASK_CHECK, .rw, 0⟩ (by decide),
    (OnlyRegs.refl s _).setReg _ _ (List.mem_singleton.mpr rfl)⟩
  exact (hfield ⟨F.PROT_FLIP_CTL_ARM, .w1s, 0⟩ (by decide)).trans (writeField_arm _ _ harm)

/-- Settles O14: each clause by the lemma on its command. -/
theorem banksPerformReadsWritesAndAtomics : Obligations.BanksPerformReadsWritesAndAtomics := by
  unfold Obligations.BanksPerformReadsWritesAndAtomics
  refine ⟨fun s d b j n r w hsecond hpick hr hop hpatrol hlast hgood =>
      execBankAccess_read s d b j r n hsecond hpick hr w hop hpatrol hlast hgood,
    fun s d b j n r hsecond hpick hr hop hlast hflip => execBankAccess_write s d b j r n hsecond hpick hr hop hlast hflip,
    fun s d b j n r old opd hsecond hpick hr hop hpatrol hlen hdone hwords hopd hold hflip hgood =>
      execBankAccess_add s d b j r n hsecond hpick hr old opd hop hpatrol hlen hdone hwords hopd hold hflip hgood,
    fun s d b k r hen hr hstarved hpatrol hcls => execBankStarvation_spec s d b k r hen hr hstarved hpatrol hcls,
    fun s d pa i m e q harr hheld hq => ?_, fun s d b hen => execPatrolRead_spec s d b hen,
    fun s d w hwClear htag harm => execFlipMaskArm_spec s d w hwClear htag harm⟩
  exact ⟨_, execWriteBack_bm s d pa i m e q harr hheld hq, s.cell_putWord_same d e.pa e.word, mget_mset_same _ _ _ _,
    fun d' pa' hne => s.cell_putWord_ne d e.pa d' pa' e.word hne, rfl⟩

end Sys2Proof.Machine
end

section
/-!
SUPPORT. Stored data protection: proof of the statement O16. First the write-back queue that a store leaves, then the check code: a
stored word as one number of 50 bits, and what one inverted bit of it does to the syndrome.
-/
namespace Sys2Proof.Machine

theorem State.wbq_congr {s t : State} (h : t.wb = s.wb) (d : Nat) (a : Arr) : t.wbq d a = s.wbq d a := by
  unfold State.wbq
  rw [h]

section
variable (s : State) (d d' pa : Nat) (a : Arr)

@[simp] theorem State.wbq_setWbq_same (q : List WbEnt) : (s.setWbq d a q).wbq d a = q := mget_mset_same _ _ _ _

@[simp] theorem State.wbq_setCell (c : Cell) : (s.setCell d pa c).wbq d' a = s.wbq d' a := State.wbq_congr (s.setCell_wb d pa c) d' a

@[simp] theorem State.wbq_putWord (w : TWord) : (s.putWord d pa w).wbq d' a = s.wbq d' a := State.wbq_congr (s.putWord_wb d pa w) d' a

@[simp] theorem State.wbq_wf (f : Fld) (v i j : Nat) : (s.wf f v d i j).wbq d' a = s.wbq d' a :=
  State.wbq_congr (s.wf_wb f v d i j) d' a

/-- A store cancels the queued write-backs of its word, and no other of its array's queue (R303). -/
theorem State.wbq_storeWord (w : TWord) :
    (s.storeWord d pa w).wbq d (arrOf d pa) = (s.wbq d (arrOf d pa)).filter fun e => e.pa != pa := by
  unfold State.storeWord
  dsimp only
  split
  case isTrue => split <;> simp
  case isFalse hnone =>
    have hsame : (s.wbq d (arrOf d pa)).filter (fun e => e.pa != pa) = s.wbq d (arrOf d pa) := by simpa using hnone
    rw [hsame]
    split <;> simp

end

/-- A word's 48 data bits and, above them, its tag, as one number: the order of the columns of Table 6-2. -/
def packWord (w : TWord) : Nat := w.data.toNat + w.tag.toNat * 2 ^ 48

theorem flipBit_eq (w : TWord) (k : Nat) : flipBit w k = ofWord50 (packWord w ^^^ 2 ^ k) := rfl

theorem checkOf_eq (w : TWord) (pa : Nat) : checkOf w pa = xorCols wordCols (packWord w) ^^^ xorCols addrCols pa := rfl

theorem packWord_lt (w : TWord) : packWord w < 2 ^ 50 := by
  have hdata := w.data.isLt
  have htag := w.tag.isLt
  unfold packWord
  omega

theorem packWord_ofWord50 {x : Nat} (h : x < 2 ^ 50) : packWord (ofWord50 x) = x := by
  simp only [packWord, ofWord50, BitVec.toNat_ofNat]
  omega

theorem ofWord50_packWord (w : TWord) : ofWord50 (packWord w) = w := by
  have hdata := w.data.isLt
  have htag := w.tag.isLt
  obtain ⟨data, tag⟩ := w
  simp only [ofWord50, packWord, TWord.mk.injEq, BitVec.toNat_eq, BitVec.toNat_ofNat]
  omega

section
variable (w : TWord) {k : Nat} (hk : k < 50)
include hk

theorem packWord_flipBit : packWord (flipBit w k) = packWord w ^^^ 2 ^ k :=
  packWord_ofWord50 (Nat.xor_lt_two_pow (packWord_lt w) (Nat.pow_lt_pow_right (by decide) hk))

/-- The same bit inverted twice is the word again. -/
theorem flipBit_flipBit : flipBit (flipBit w k) k = w := by
  rw [flipBit_eq (flipBit w k), packWord_flipBit w hk, Nat.xor_assoc, Nat.xor_self, Nat.xor_zero, ofWord50_packWord]

end

/-- One inverted bit changes the XOR of the columns by its own column (R294, R295). -/
theorem xorCols_flip (cols : List Nat) (x k : Nat) (hk : k < cols.length) :
    xorCols cols (x ^^^ 2 ^ k) = xorCols cols x ^^^ cols[k] := by
  induction cols generalizing x k with
  | nil => exact absurd hk (Nat.not_lt_zero k)
  | cons c cs ih =>
    unfold xorCols
    rw [Nat.xor_div_two]
    cases k with
    | zero =>
      have hlow : (x ^^^ 2 ^ 0) % 2 = 1 - x % 2 := by rw [Nat.xor_mod_two_eq]; omega
      rw [hlow]
      obtain hx | hx := Nat.mod_two_eq_zero_or_one x <;> simp [hx, Nat.xor_comm]
    | succ j =>
      have hlow : (x ^^^ 2 ^ (j + 1)) % 2 = x % 2 := by rw [Nat.xor_mod_two_eq]; omega
      have hhigh : 2 ^ (j + 1) / 2 = 2 ^ j := by omega
      rw [hlow, hhigh, ih (x / 2) j (Nat.lt_of_succ_lt_succ hk), Nat.xor_assoc]
      rfl

/-- In a list without repetition, a value's position is found. -/
theorem indexOf?_getElem {l : List Nat} (hl : l.Nodup) (k : Nat) (hk : k < l.length) : indexOf? l l[k] = some k := by
  induction l generalizing k with
  | nil => exact absurd hk (Nat.not_lt_zero k)
  | cons a t ih =>
    obtain ⟨hnotin, ht⟩ := List.nodup_cons.mp hl
    cases k with
    | zero => exact if_pos rfl
    | succ j =>
      have hj : j < t.length := Nat.lt_of_succ_lt_succ hk
      have hne : a ≠ t[j] := fun h => hnotin (h ▸ List.getElem_mem hj)
      simp [indexOf?, hne, ih ht j hj]

/-- No two data or tag bits share a column (Table 6-2). -/
theorem wordCols_nodup : wordCols.Nodup := by decide

/-- Each column is a byte of odd weight (Table 6-2). -/
theorem wordCols_odd : ∀ c ∈ wordCols, c < 256 ∧ popcount8 c % 2 = 1 := by decide

/-- A stored word with one bit inverted is read with that bit's column as its syndrome (R296). -/
theorem syndrome_flipBit (w : TWord) (pa k : Nat) (hk : k < wordCols.length) :
    (checkOf w pa ^^^ checkOf (flipBit w k) pa) % 256 = wordCols[k] := by
  have hxor : checkOf w pa ^^^ checkOf (flipBit w k) pa = wordCols[k] := by
    rw [checkOf_eq, checkOf_eq, packWord_flipBit w hk, xorCols_flip _ _ _ hk, Nat.xor_right_comm _ wordCols[k], ← Nat.xor_assoc,
      Nat.xor_self, Nat.zero_xor]
  obtain ⟨hbyte, -⟩ := wordCols_odd _ (List.getElem_mem hk)
  rw [hxor, Nat.mod_eq_of_lt hbyte]

/-- A cell whose syndrome is a column of odd weight is read with that column's bit inverted (Table 6-3). -/
theorem decodeCell_corrected {c : Cell} {pa k syn : Nat} (hsyn : (c.check ^^^ checkOf c.word pa) % 256 = syn)
    (hodd : popcount8 syn % 2 = 1) (hcol : indexOf? wordCols syn = some k) :
    decodeCell c pa = .corrected (flipBit c.word k) syn := by
  have hne : syn ≠ 0 := by rintro rfl; exact absurd hodd (by decide)
  simp [decodeCell, hsyn, hne, hodd, hcol]

/-- A single inverted data or tag bit is corrected, and its syndrome is its column (R296, Table 6-3). -/
theorem decodeCell_flipBit (w : TWord) (pa k : Nat) (hk : k < wordCols.length) :
    decodeCell ⟨flipBit w k, checkOf w pa⟩ pa = .corrected w wordCols[k] := by
  obtain ⟨-, hodd⟩ := wordCols_odd _ (List.getElem_mem hk)
  rw [decodeCell_corrected (syndrome_flipBit w pa k hk) hodd (indexOf?_getElem wordCols_nodup k hk)]
  exact congrArg (Dec.corrected · _) (flipBit_flipBit w hk)

/-- Settles O16: a stored word carries the check bits of its address, and a bit's column tells which bit was inverted. -/
theorem storedWordsReadBack : Obligations.StoredWordsReadBack := by
  unfold Obligations.StoredWordsReadBack
  refine ⟨fun s d pa w hflip => ?_, fun w pa k hk => ⟨_, decodeCell_flipBit w pa k hk⟩⟩
  obtain ⟨m, q, hstore, hcell, hother⟩ := s.storeWord_stores d pa w hflip
  refine ⟨?_, ?_, fun e he => ?_⟩
  · rw [hstore, hcell, decodeCell_checkOf]
  · rwa [hstore]
  · rw [s.wbq_storeWord d pa w] at he
    exact bne_iff_ne.mp (List.mem_filter.mp he).2

end Sys2Proof.Machine
end

section
/-!
SUPPORT. Configuration and scrubbing: proof of the statement O44.
-/
namespace Sys2Proof.Machine

/-! ## A rewrite that is given up -/

/-- Whether SPG_LAST of a die stands for a frame as one to be rewritten (R416). -/
def State.rewriteRecorded (s : State) (d i f : Nat) : Bool :=
  s.rb F.SPG_LAST_VALID d && s.rf F.SPG_LAST_KIND d = 2 && s.rf F.SPG_LAST_ISLAND d = i && s.rf F.SPG_LAST_FRAME d = f

/-- A frame whose slot no longer holds its image is given up, and its record in SPG_LAST then says so: KIND 3 (R386, R416). -/
theorem execFrameRewrite_givesUp {s : State} {d i f : Nat} {rest : List (Nat × Nat × Nat)} (hqueue : s.cfg.rewrites = (d, i, f) :: rest)
    (hidle : s.cfg.active = none) (hlost : s.canRewrite d i = false) (hrec : s.rewriteRecorded d i f = true) :
    ∃ t, execFrameRewrite s = .next t ∧ t.rf F.SPG_LAST_KIND d = 3 := by
  have hrun : ¬ s.cfg.active.isSome = true := by rw [hidle]; decide
  have hlost' : (s.setCfg { s.cfg with rewrites := rest }).canRewrite d i = false := hlost
  have hkind := (s.setCfg { s.cfg with rewrites := rest }).rf_wf_same F.SPG_LAST_KIND 3 d 0 0 rfl
  let u := (s.setCfg { s.cfg with rewrites := rest }).wf F.SPG_LAST_KIND 3 d
  refine ⟨u.raise .configFrameUnrecoverable d i (u.rw .SPG_LAST d), ?_, (State.raise_rf ..).trans hkind⟩
  unfold execFrameRewrite
  rw [hqueue]
  dsimp only
  rw [if_neg hrun, hlost', Bool.false_and, if_neg Bool.false_ne_true]
  exact congrArg (fun u : State => Host.Outcome.next (u.raise .configFrameUnrecoverable d i (u.rw .SPG_LAST d))) (if_pos hrec)

/-- Frame 5 of island 0 of die 1 waits to be rewritten and stands recorded as such; no flash slot holds its image any more. -/
def rewriteLost : State := (State.reset.setCfg { Cfg.init with rewrites := [(1, 0, 5)] }).spgRecord 1 2 0 5 3 63

/-- Refutes O44: its last clause says that a rewrite given up changes no register, and does not ask that SPG_LAST holds another
upset. In `rewriteLost` it holds that of the frame, whose KIND then goes from 2 to 3. -/
theorem not_configurationLoadsAndIsScrubbed : ¬ Obligations.ConfigurationLoadsAndIsScrubbed := by
  unfold Obligations.ConfigurationLoadsAndIsScrubbed
  rintro ⟨-, -, -, -, -, -, -, hgiveUp⟩
  have hlost : rewriteLost.canRewrite 1 0 = false := by decide +kernel
  have hrec : rewriteLost.rewriteRecorded 1 0 5 = true := by decide +kernel
  have hkind : rewriteLost.rf F.SPG_LAST_KIND 1 = 2 := by decide +kernel
  obtain ⟨t, ht, -, -, hframe⟩ := hgiveUp rewriteLost 1 0 5 [] rfl rfl hlost
  obtain ⟨u, hu, hnew⟩ := execFrameRewrite_givesUp rfl rfl hlost hrec
  obtain rfl : u = t := Host.Outcome.next.inj (hu.symm.trans ht)
  have hsame : u.rf F.SPG_LAST_KIND 1 = rewriteLost.rf F.SPG_LAST_KIND 1 := by rw [hframe]; rfl
  rw [hnew, hkind] at hsame
  exact absurd hsame (by decide)

end Sys2Proof.Machine
end

section
/-!
SUPPORT. Flash, NV store and fuses: proof of the statement O56.
-/
namespace Sys2Proof.Machine

/-! ## What is left alone -/

/-- A field of a register that is kept reads as before. -/
theorem RegsKept.rf {s t : State} {rs : List Reg} (h : RegsKept s t rs) (f : Fld) (d i j : Nat)
    (hf : (⟨f.reg, d, i, j⟩ : Reg) ∉ rs) : t.rf f d i j = s.rf f d i j := congrArg f.get (h _ hf)

theorem RegsKept.setCfg {s t : State} {rs : List Reg} (h : RegsKept s t rs) (c : Cfg) : RegsKept s (t.setCfg c) rs := h

/-- Nothing differs but the registers `rs` and what the configuration and the flash hold. -/
def OnlyRegsCfg (s t : State) (rs : List Reg) : Prop := t = { s with regs := t.regs, cfg := t.cfg } ∧ RegsKept s t rs

theorem OnlyRegsCfg.refl (s : State) (rs : List Reg) : OnlyRegsCfg s s rs := ⟨rfl, .refl s rs⟩

theorem OnlyRegsCfg.setCfg {s t : State} {rs : List Reg} (h : OnlyRegsCfg s t rs) (c : Cfg) : OnlyRegsCfg s (t.setCfg c) rs := by
  obtain ⟨hframe, hkept⟩ := h
  exact ⟨by rw [hframe]; rfl, hkept.setCfg c⟩

theorem OnlyRegsCfg.wf {s t : State} {rs : List Reg} (h : OnlyRegsCfg s t rs) (f : Fld) (v d i j : Nat)
    (hf : (⟨f.reg, d, i, j⟩ : Reg) ∈ rs) : OnlyRegsCfg s (t.wf f v d i j) rs := by
  obtain ⟨hframe, hkept⟩ := h
  exact ⟨by rw [hframe]; rfl, hkept.wf f v d i j hf⟩

theorem OnlyRegsCfg.trans {s t u : State} {rs : List Reg} (h : OnlyRegsCfg s t rs) (h' : OnlyRegsCfg t u rs) : OnlyRegsCfg s u rs := by
  obtain ⟨hframe, hkept⟩ := h
  obtain ⟨hframe', hkept'⟩ := h'
  refine ⟨?_, hkept.trans hkept'⟩
  rw [hframe', hframe]

theorem OnlyRegs.ofSetCfg {s t : State} {c : Cfg} {rs : List Reg} (h : OnlyRegs (s.setCfg c) t rs) : OnlyRegsCfg s t rs := by
  obtain ⟨hframe, hkept⟩ := h
  exact ⟨by rw [hframe]; rfl, hkept⟩

theorem OnlyRegsCfg.ofSetCfg {s t : State} {c : Cfg} {rs : List Reg} (h : OnlyRegsCfg (s.setCfg c) t rs) : OnlyRegsCfg s t rs := h

/-! ## Flash bytes -/

theorem State.flashByte_congr {s t : State} (h : t.cfg.flash = s.cfg.flash) (k : Nat) : t.flashByte k = s.flashByte k := by
  unfold State.flashByte
  rw [h]

theorem mget_filter_key {V : Type} (m : SMap V) (p : Nat → Bool) (k : Nat) (d : V) :
    mget (m.filter fun e => p e.1) k d = if p k = true then mget m k d else d := by
  induction m with
  | nil => simp [mget]
  | cons e t ih =>
    obtain ⟨a, v⟩ := e
    by_cases ha : a = k
    · subst ha
      cases hp : p a <;> simp [mget, hp, ih]
    · cases hp : p a <;> simp [mget, hp, ih, ha]

/-- Bytes are programmed one after the other. -/
theorem State.flashProgram_cons (s : State) (a b : Nat) (bs : List Nat) :
    s.flashProgram a (b :: bs) = (s.flashProgram a [b]).flashProgram (a + 1) bs := rfl

theorem State.flashByte_program_one (s : State) (a b k : Nat) :
    (s.flashProgram a [b]).flashByte k = if k = a then s.flashByte k &&& (b % 256) else s.flashByte k := by
  split
  · next h => rw [h]; exact mget_mset_same _ _ _ _
  · next h => exact mget_mset_ne _ _ _ _ _ _ h

/-- Programming clears bits of the bytes that it programs, and leaves the others alone (R364). -/
theorem State.flashByte_flashProgram (s : State) (a : Nat) (bs : List Nat) (k : Nat) :
    (s.flashProgram a bs).flashByte k =
      if a ≤ k ∧ k < a + bs.length then s.flashByte k &&& (bs.getD (k - a) 0 % 256) else s.flashByte k := by
  induction bs generalizing s a with
  | nil => rw [if_neg (by simp)]; rfl
  | cons b bs ih =>
    rw [s.flashProgram_cons, ih, s.flashByte_program_one]
    by_cases hka : k = a
    · subst hka; simp
    · by_cases hin : a + 1 ≤ k ∧ k < a + 1 + bs.length
      · have hsub : k - a = (k - (a + 1)) + 1 := by omega
        rw [if_pos hin, if_neg hka, if_pos (by simp; omega), hsub, List.getD_cons_succ]
      · rw [if_neg hin, if_neg hka, if_neg (by simp; omega)]

/-- Erasing sets every byte of the sector to 0xFF, and leaves the others alone (R364). -/
theorem State.flashByte_flashErase (s : State) (a k : Nat) :
    (s.flashErase a).flashByte k = if k / 4096 = a / 4096 then 0xFF else s.flashByte k := by
  have h : (s.flashErase a).flashByte k = _ := mget_filter_key s.cfg.flash (fun x => x / 4096 != a / 4096) k 0xFF
  rw [h]
  by_cases hk : k / 4096 = a / 4096
  · simp [hk]
  · simp [hk, State.flashByte]

/-! ## The journal -/

/-- The first 12 bytes of a journal record, and the record: with its own CRC (Table 7-8). -/
def journalHead (ty i a crc : Nat) : List Nat := [ty, i, 0, 0] ++ leBytes 4 a ++ leBytes 4 crc
def journalBytes (ty i a crc : Nat) : List Nat := journalHead ty i a crc ++ leBytes 4 (crc32c (journalHead ty i a crc))

theorem journalBytes_length (ty i a crc : Nat) : (journalBytes ty i a crc).length = 16 := by
  simp [journalBytes, journalHead, leBytes]

/-- The flash of `t` is that of `s` but for a journal record of TYPE `ty` at `J`. -/
def Recorded (s t : State) (J ty : Nat) : Prop :=
  t.flashByte J = s.flashByte J &&& ty ∧ ∀ k, (k < J ∨ J + 16 ≤ k) → t.flashByte k = s.flashByte k

theorem Recorded.congr {s t u : State} {J ty : Nat} (h : Recorded s t J ty) (hflash : u.cfg.flash = t.cfg.flash) : Recorded s u J ty := by
  obtain ⟨htype, hother⟩ := h
  exact ⟨(State.flashByte_congr hflash J).trans htype, fun k hk => (State.flashByte_congr hflash k).trans (hother k hk)⟩

theorem Recorded.ofFlash {s t u : State} {J ty : Nat} (h : Recorded u t J ty) (hflash : u.cfg.flash = s.cfg.flash) : Recorded s t J ty := by
  obtain ⟨htype, hother⟩ := h
  rw [State.flashByte_congr hflash] at htype
  exact ⟨htype, fun k hk => (hother k hk).trans (State.flashByte_congr hflash k)⟩

section
variable {s : State} {a : Nat} (ty crc : Nat) (hsector : s.cfg.jput % 4096 ≠ 0) (hroom : s.cfg.jput + 16 ≤ (s.slot 3).2)
  (hslot : s.slotOf a < 5)
include hsector hroom hslot

/-- Within a sector of the circle a record is put at its next place, and nothing is erased (R366). -/
theorem State.journal_inSector : s.journal ty a crc = s.journalPut ty (s.slotOf a) a crc := by
  have hput : s.cfg.jput ≠ 0 := fun h => hsector (by rw [h])
  have hwrap : ¬ (s.slot 3).2 ≤ s.cfg.jput := by omega
  unfold State.journal
  dsimp only
  rw [if_neg hwrap, if_neg (by simp [hput]), if_neg hsector, if_pos hslot]

theorem State.flashByte_journal (k : Nat) : (s.journal ty a crc).flashByte k =
    if (s.slot 3).1 + s.cfg.jput ≤ k ∧ k < (s.slot 3).1 + s.cfg.jput + 16 then
      s.flashByte k &&& ((journalBytes ty (s.slotOf a) a crc).getD (k - ((s.slot 3).1 + s.cfg.jput)) 0 % 256)
    else s.flashByte k := by
  have h := s.flashByte_flashProgram ((s.slot 3).1 + s.cfg.jput) (journalBytes ty (s.slotOf a) a crc) k
  rw [journalBytes_length] at h
  rw [s.journal_inSector ty crc hsector hroom hslot]
  exact h

/-- The first byte of a record is its TYPE. -/
theorem State.flashByte_journal_type (hty : ty < 256) : (s.journal ty a crc).flashByte ((s.slot 3).1 + s.cfg.jput) =
    s.flashByte ((s.slot 3).1 + s.cfg.jput) &&& ty := by
  rw [s.flashByte_journal ty crc hsector hroom hslot, if_pos (by omega), Nat.sub_self]
  exact congrArg (_ &&& ·) (Nat.mod_eq_of_lt hty)

theorem State.flashByte_journal_other (k : Nat) (hk : k < (s.slot 3).1 + s.cfg.jput ∨ (s.slot 3).1 + s.cfg.jput + 16 ≤ k) :
    (s.journal ty a crc).flashByte k = s.flashByte k := by
  rw [s.flashByte_journal ty crc hsector hroom hslot, if_neg (by omega)]

theorem State.journal_recorded (hty : ty < 256) : Recorded s (s.journal ty a crc) ((s.slot 3).1 + s.cfg.jput) ty :=
  ⟨s.flashByte_journal_type ty crc hsector hroom hslot hty, s.flashByte_journal_other ty crc hsector hroom hslot⟩

/-- A record changes the flash, and where the next one goes. -/
theorem State.journal_frame : ∃ m, s.journal ty a crc = s.setCfg { s.cfg with flash := m, jput := s.cfg.jput + 16 } :=
  ⟨_, s.journal_inSector ty crc hsector hroom hslot⟩

theorem State.journal_cfg : ∃ m, (s.journal ty a crc).cfg = { s.cfg with flash := m, jput := s.cfg.jput + 16 } := by
  obtain ⟨m, hm⟩ := s.journal_frame ty crc hsector hroom hslot
  exact ⟨m, by rw [hm]; rfl⟩

theorem State.journal_only (rs : List Reg) : OnlyRegsCfg s (s.journal ty a crc) rs := by
  obtain ⟨m, hm⟩ := s.journal_frame ty crc hsector hroom hslot
  rw [hm]
  exact (OnlyRegsCfg.refl s rs).setCfg _

end

/-! ## The work waiting and in progress -/

theorem State.rf_nvView_busy (s : State) :
    s.nvView.rf F.CFG_NV_STAT_NV_BUSY 0 = b2n (!s.cfg.jobs.isEmpty || s.cfg.active.isSome) := by
  unfold State.nvView
  rw [State.rf_wf_same _ _ _ _ _ _ rfl]
  cases (!s.cfg.jobs.isEmpty || s.cfg.active.isSome) <;> rfl

theorem OnlyRegsCfg.nvView {s t : State} {rs : List Reg} (h : OnlyRegsCfg s t rs) (hmem : ⟨.CFG_NV_STAT, 0, 0, 0⟩ ∈ rs) :
    OnlyRegsCfg s t.nvView rs := h.wf _ _ _ _ _ hmem

/-- An operation that begins is in progress, and its job has begun (R393). -/
theorem State.opBegin_spec {s : State} {j : NvJob} (hjobs : s.cfg.jobs = [j]) (op : FlashOp) :
    (s.opBegin j op).cfg = { s.cfg with active := some op, jobs := [{ j with begun := true }] } ∧
      (s.opBegin j op).rf F.CFG_NV_STAT_NV_BUSY 0 = 1 := by
  refine ⟨?_, State.rf_nvView_busy _⟩
  change ({ s.cfg with active := some op, jobs := { j with begun := true } :: s.cfg.jobs.drop 1 } : Cfg) = _
  rw [hjobs]
  rfl

theorem OnlyRegsCfg.opBegin {s t : State} {rs : List Reg} (h : OnlyRegsCfg s t rs) (hmem : ⟨.CFG_NV_STAT, 0, 0, 0⟩ ∈ rs) (j : NvJob)
    (op : FlashOp) : OnlyRegsCfg s (t.opBegin j op) rs := (h.setCfg _).nvView hmem

/-! ## The soft repair table -/

theorem State.softEntries_length_le (s : State) : s.softEntries.length ≤ 256 := by
  unfold State.softEntries
  split
  · exact Nat.zero_le _
  · refine (List.length_filter_le _ _).trans ?_
    rw [List.length_map, List.length_range]

/-- The soft repair table is read from the flash. -/
theorem State.softEntries_congr {s t : State} (h : t.cfg = s.cfg) : t.softEntries = s.softEntries := by
  unfold State.softEntries State.nvData State.nvRecord State.nvPages State.nvPage State.blocks State.flashBytes State.flashByte
    State.slot
  rw [h]

/-- The valid entries depend on the flash and on which dies the part has. -/
theorem State.softValid_congr {s t : State} (hcfg : t.cfg = s.cfg) (hpart : t.part = s.part) : t.softValid = s.softValid := by
  have hvalid : t.repairValid = s.repairValid := by
    funext e
    unfold State.repairValid State.repairOk State.fabDies State.is20
    rw [hpart]
  unfold State.softValid
  rw [hvalid, State.softEntries_congr hcfg]

/-- SOFT_USED shows the valid entries once the firmware has read the table (R339). -/
def State.softShown (s : State) : Prop := s.rf F.REPAIR_STAT_DONE 0 = 1 → s.rf F.REPAIR_STAT_SOFT_USED 0 = s.softValid.length

theorem State.softView_shown (s : State) : s.softView.softShown := by
  unfold State.softView
  split
  · intro _
    have hlen : s.softValid.length < 2 ^ F.REPAIR_STAT_SOFT_USED.width :=
      ((List.length_filter_le _ _).trans (State.softEntries_length_le s)).trans_lt (by decide)
    rw [State.rf_wf_fits _ _ _ _ _ _ rfl hlen]
    exact congrArg _ (State.softValid_congr (s.wf_cfg ..) (State.rf_wf_apart _ _ _ _ _ _ _ _ _ _ rfl rfl)).symm
  · next h => exact fun hdone => absurd (State.rb_of_rf_one hdone) h

theorem State.softView_cfg (s : State) : s.softView.cfg = s.cfg := by
  unfold State.softView
  split
  · rw [State.wf_cfg]
  · rfl

theorem State.softView_only (s : State) : OnlyRegs s s.softView [⟨.REPAIR_STAT, 0, 0, 0⟩] := by
  unfold State.softView
  split
  · exact (OnlyRegs.refl s _).wf _ _ _ _ _ (by simp [F.REPAIR_STAT_SOFT_USED])
  · exact .refl s _

/-! ## The end of the work -/

/-- No NV work waits or is in progress, and the registers show it (R339, R412). -/
structure NvIdle (t : State) : Prop where
  jobs : t.cfg.jobs = []
  active : t.cfg.active = none
  busy : t.rf F.CFG_NV_STAT_NV_BUSY 0 = 0
  shown : t.softShown

/-- The status registers that the end of NV work may change. -/
def nvStatRegs : List Reg := [⟨.CFG_NV_STAT, 0, 0, 0⟩, ⟨.REPAIR_STAT, 0, 0, 0⟩]

theorem State.nvSoftView_cfg (s : State) : s.nvView.softView.cfg = s.cfg := by
  rw [State.softView_cfg]
  exact State.wf_cfg ..

theorem State.nvSoftView_only (s : State) : OnlyRegs s s.nvView.softView nvStatRegs := by
  have hview : OnlyRegs s s.nvView nvStatRegs := (OnlyRegs.refl s _).wf _ _ _ _ _ (by simp [nvStatRegs, F.CFG_NV_STAT_NV_BUSY])
  unfold State.softView
  split
  · exact hview.wf _ _ _ _ _ (by simp [nvStatRegs, F.REPAIR_STAT_SOFT_USED])
  · exact hview

/-- A field of CFG_NV_STAT other than NV_BUSY does not follow the work. -/
theorem State.rf_nvSoftView (s : State) (f : Fld) (hbusy : F.CFG_NV_STAT_NV_BUSY.apart f = true) (hf : f.reg = .CFG_NV_STAT) :
    s.nvView.softView.rf f 0 = s.rf f 0 := by
  obtain ⟨-, hkept⟩ := s.nvView.softView_only
  rw [hkept.rf f 0 0 0 (by rw [hf]; simp)]
  exact State.rf_wf_apart _ _ _ _ _ _ _ _ _ _ rfl hbusy

theorem State.nvSoftView_idle {s : State} (hjobs : s.cfg.jobs = []) (hactive : s.cfg.active = none) : NvIdle s.nvView.softView := by
  have hcfg := s.nvSoftView_cfg
  obtain ⟨-, hkept⟩ := s.nvView.softView_only
  refine ⟨by rw [hcfg, hjobs], by rw [hcfg, hactive], ?_, s.nvView.softView_shown⟩
  rw [hkept.rf F.CFG_NV_STAT_NV_BUSY 0 0 0 (by simp [F.CFG_NV_STAT_NV_BUSY]), State.rf_nvView_busy, hjobs, hactive]
  rfl

theorem NvIdle.raise {t : State} (h : NvIdle t) (src : FaultSrc) (d u x : Nat) : NvIdle (t.raise src d u x) := by
  have hvalid : (t.raise src d u x).softValid = t.softValid := State.softValid_congr (State.raise_cfg ..) (State.raise_rf ..)
  obtain ⟨hjobs, hactive, hbusy, hshown⟩ := h
  refine ⟨by rwa [State.raise_cfg], by rwa [State.raise_cfg], by rwa [State.raise_rf], ?_⟩
  unfold State.softShown
  rwa [State.raise_rf, State.raise_rf, hvalid]

/-- The last job ends, no packet and no load waiting for it. -/
theorem State.endJob_last {s : State} {j : NvJob} (hjobs : s.cfg.jobs.drop 1 = []) (howner : j.owner = none) (hload : s.cfg.load = none)
    (status detail : Nat) : s.endJob j status detail = (s.setCfg { s.cfg with jobs := [] }).nvView.softView := by
  unfold State.endJob State.cabJobEnd
  simp only [howner, hload, hjobs, Option.map_none, Option.bind_none]

/-- An operation that is not allowed ends its job, which is refused and raised (R370, R371, R404). -/
theorem State.refuseJob_last {s : State} {j : NvJob} (hjobs : s.cfg.jobs = [j]) (hactive : s.cfg.active = none)
    (howner : j.owner = none) (hload : s.cfg.load = none) (detail : Nat) :
    NvIdle (s.refuseJob j detail) ∧ (s.refuseJob j detail).cfg = { s.cfg with jobs := [] } ∧
      (s.refuseJob j detail).faultLine = s.faultLine ++ [faultEv .nvWriteRefused 0 0 0] ∧
      OnlyRegsEv (s.setCfg { s.cfg with jobs := [] }) (s.refuseJob j detail) nvStatRegs := by
  have hidle : NvIdle (s.setCfg { s.cfg with jobs := [] }).nvView.softView := State.nvSoftView_idle rfl hactive
  obtain ⟨hev, hline⟩ := (s.setCfg { s.cfg with jobs := [] }).nvSoftView_only.raise .nvWriteRefused 0 0 0
  unfold State.refuseJob
  rw [State.endJob_last (by rw [hjobs]; rfl) howner hload]
  exact ⟨hidle.raise .., (State.raise_cfg ..).trans (State.nvSoftView_cfg _), hline, hev⟩

/-- The last operation of the last job is done: with its DONE record no work is left (R365). -/
theorem State.opDone_eq {s : State} {a : Nat} {j : NvJob} (hjobs : (s.journal 0x02 a 0).cfg.jobs = [j]) (hlast : j.ops.length ≤ 1)
    (howner : j.owner = none) (hload : (s.journal 0x02 a 0).cfg.load = none) :
    s.opDone a = ((s.journal 0x02 a 0).setCfg { (s.journal 0x02 a 0).cfg with active := none, jobs := [] }).nvView.softView := by
  unfold State.opDone
  generalize s.journal 0x02 a 0 = u at *
  dsimp only
  split
  · next hnone => exact absurd (hjobs.symm.trans hnone) (List.cons_ne_nil _ _)
  · next k rest hsome =>
    obtain ⟨rfl, rfl⟩ := List.cons.inj (hjobs.symm.trans hsome)
    rw [if_pos hlast]
    have hend := State.endJob_last (s := u.setCfg { u.cfg with active := none, jobs := [{ j with ops := j.ops.drop 1 }] })
      (j := j) rfl howner hload 0 0
    exact hend

section
variable {s : State} {a : Nat} {j : NvJob} (hjobs : s.cfg.jobs = [j]) (hlast : j.ops.length ≤ 1) (howner : j.owner = none)
  (hload : s.cfg.load = none) (hsector : s.cfg.jput % 4096 ≠ 0) (hroom : s.cfg.jput + 16 ≤ (s.slot 3).2) (hslot : s.slotOf a < 5)
include hjobs hlast howner hload hsector hroom hslot

theorem State.opDone_last : NvIdle (s.opDone a) ∧ Recorded s (s.opDone a) ((s.slot 3).1 + s.cfg.jput) 0x02 ∧
    (s.opDone a).cfg.erases = s.cfg.erases ∧
    (s.opDone a).rf F.CFG_NV_STAT_SHUTDOWN_DEFER 0 = s.rf F.CFG_NV_STAT_SHUTDOWN_DEFER 0 ∧ OnlyRegsCfg s (s.opDone a) nvStatRegs := by
  obtain ⟨m, hm⟩ := s.journal_cfg 0x02 0 hsector hroom hslot
  have honly := s.journal_only 0x02 0 hsector hroom hslot nvStatRegs
  have hrec := s.journal_recorded 0x02 0 hsector hroom hslot (by decide)
  rw [State.opDone_eq (by rw [hm]; exact hjobs) hlast howner (by rw [hm]; exact hload)]
  obtain ⟨-, hkept⟩ := s.journal_only 0x02 0 hsector hroom hslot []
  generalize s.journal 0x02 a 0 = u at *
  have hview := State.nvSoftView_only (u.setCfg { u.cfg with active := none, jobs := [] })
  refine ⟨State.nvSoftView_idle rfl rfl, hrec.congr ?_, ?_, ?_, honly.trans hview.ofSetCfg⟩
  · rw [State.nvSoftView_cfg]
    rfl
  · rw [State.nvSoftView_cfg]
    exact (congrArg Cfg.erases hm :)
  · rw [State.rf_nvSoftView _ _ rfl rfl, State.setCfg_rf]
    exact hkept.rf _ _ _ _ (List.not_mem_nil)

end

/-! ## Flash operations -/

section
variable {s : State} {a : Nat} {j : NvJob} {rest : List FlashOp} {pg : List Nat} (hjobs : s.cfg.jobs = [j])
  (hmay : s.nvMayBegin j = true)

include hmay in
/-- Work that may begin finds no operation in progress (R393). -/
theorem State.nvMayBegin_active : s.cfg.active = none := by
  unfold State.nvMayBegin at hmay
  simp only [Bool.and_eq_true, Option.isNone_iff_eq_none] at hmay
  obtain ⟨⟨⟨hactive, -⟩, -⟩, -⟩ := hmay
  exact hactive

include hjobs hmay

/-- A page program that may begin does so behind its INTENT record, or is refused (R365, R371). -/
theorem execFlashPageProgram_of_mayBegin (hops : j.ops = .program a pg :: rest) :
    (s.opRefused j a = none → execFlashPageProgram s = .next ((s.journal 0x01 a (crc32c pg)).opBegin j (.program a pg))) ∧
    (∀ d, s.opRefused j a = some d → execFlashPageProgram s = .next (s.refuseJob j d)) := by
  unfold execFlashPageProgram
  rw [hjobs]
  dsimp only
  rw [hops]
  dsimp only
  rw [if_neg (by rw [hmay]; decide)]
  exact ⟨fun hok => by rw [hok], fun d hno => by rw [hno]⟩

/-- A sector erase within the endurance limit that may begin does so, or is refused (R365, R370, R371). -/
theorem execFlashSectorErase_of_mayBegin (hops : j.ops = .erase a :: rest) :
    (s.opRefused j a = none → s.eraseOver a = false → execFlashSectorErase s = .next ((s.eraseBegin a).opBegin j (.erase a))) ∧
    (∀ d, s.opRefused j a = some d → execFlashSectorErase s = .next (s.refuseJob j d)) := by
  unfold execFlashSectorErase
  rw [hjobs]
  dsimp only
  rw [hops]
  dsimp only
  rw [if_neg (by rw [hmay]; decide)]
  exact ⟨fun hok hover => by rw [hok, hover]; rfl, fun d hno => by rw [hno]⟩

end

theorem execFlashProgramComplete_done {s : State} {a : Nat} {pg : List Nat} (hactive : s.cfg.active = some (.program a pg)) :
    execFlashProgramComplete s = .next (((s.flashProgram a pg).wf F.CFG_NV_STAT_SHUTDOWN_DEFER 0 0).opDone a) := by
  unfold execFlashProgramComplete State.programDone
  rw [hactive]

/-- A slot whose count is below or above the limit is not retired (R370). -/
theorem State.retireFull_not_full {s : State} {i : Nat} (h : s.eraseCnt i ≠ s.endurance) : s.retireFull i = s := by
  unfold State.retireFull
  rw [if_neg (by simp [h])]

theorem execFlashEraseComplete_last {s : State} {a : Nat} {j : NvJob} (hactive : s.cfg.active = some (.erase a))
    (hjobs : s.cfg.jobs = [j]) (hlast : j.ops.length ≤ 1) :
    execFlashEraseComplete s = .next (((s.flashErase a).opDone a).retireFull (s.slotOf a)) := by
  have hnone : j.ops.drop 1 = [] := List.drop_eq_nil_of_le hlast
  unfold execFlashEraseComplete
  rw [hactive]
  dsimp only
  rw [hjobs, List.head?_cons, Option.map_some, hnone]
  rfl

theorem State.setErase_cfg (s : State) (i n : Nat) : (s.setErase i n).cfg = { s.cfg with erases := mset s.cfg.erases i n 0 } := by
  unfold State.setErase
  dsimp only
  split
  · exact State.wf_cfg ..
  · rfl

theorem State.eraseCnt_setErase (s : State) (i n k : Nat) : (s.setErase i n).eraseCnt k = if k = i then n else s.eraseCnt k := by
  unfold State.eraseCnt
  rw [State.setErase_cfg]
  split
  · next h => rw [h]; exact mget_mset_same _ _ _ _
  · next h => exact mget_mset_ne _ _ _ _ _ _ h

theorem OnlyRegsCfg.setErase {s t : State} {rs : List Reg} {i n : Nat} (h : OnlyRegsCfg s t rs) (hmem : ⟨.CFG_ERASE_CNT, 0, i, 0⟩ ∈ rs) :
    OnlyRegsCfg s (t.setErase i n) rs := by
  unfold State.setErase
  dsimp only
  split
  · exact (h.setCfg _).wf _ _ _ _ _ hmem
  · exact h.setCfg _

/-! ### What they do to the flash -/

section
variable {s : State} {a : Nat} {j : NvJob} (hjobs : s.cfg.jobs = [j]) (hsector : s.cfg.jput % 4096 ≠ 0)
  (hroom : s.cfg.jput + 16 ≤ (s.slot 3).2) (hslot : s.slotOf a < 5)
include hjobs hsector hroom hslot

/-- A page program begins behind its INTENT record (R365). -/
theorem State.programBegin_spec (crc : Nat) (op : FlashOp) : ((s.journal 0x01 a crc).opBegin j op).cfg.active = some op ∧
    ((s.journal 0x01 a crc).opBegin j op).cfg.jobs = [{ j with begun := true }] ∧
    ((s.journal 0x01 a crc).opBegin j op).rf F.CFG_NV_STAT_NV_BUSY 0 = 1 ∧
    (∀ k, ((s.journal 0x01 a crc).opBegin j op).flashByte k = (s.journal 0x01 a crc).flashByte k) ∧
    ((s.journal 0x01 a crc).opBegin j op).cfg.jput = s.cfg.jput + 16 ∧
    OnlyRegsCfg s ((s.journal 0x01 a crc).opBegin j op) [⟨.CFG_NV_STAT, 0, 0, 0⟩] := by
  obtain ⟨m, hm⟩ := s.journal_cfg 0x01 crc hsector hroom hslot
  obtain ⟨hcfg, hbusy⟩ := State.opBegin_spec (s := s.journal 0x01 a crc) (by rw [hm]; exact hjobs) op
  exact ⟨by rw [hcfg], by rw [hcfg], hbusy, State.flashByte_congr (by rw [hcfg]), by rw [hcfg, hm],
    (s.journal_only 0x01 crc hsector hroom hslot _).opBegin (List.mem_singleton.mpr rfl) _ _⟩

/-- A sector erase begins behind its INTENT record; that of a slot's first sector counts (R365, R369). -/
theorem State.eraseBegin_spec : (s.eraseBegin a).cfg.jobs = [j] ∧
    (s.eraseBegin a).cfg.flash = (s.journal 0x03 a 0).cfg.flash ∧
    (s.eraseBegin a).eraseCnt (s.slotOf a) = s.eraseCnt (s.slotOf a) + (if a = (s.slot (s.slotOf a)).1 then 1 else 0) ∧
    (∀ k, k ≠ s.slotOf a → (s.eraseBegin a).eraseCnt k = s.eraseCnt k) ∧
    OnlyRegsCfg s (s.eraseBegin a) [⟨.CFG_NV_STAT, 0, 0, 0⟩, ⟨.CFG_ERASE_CNT, 0, s.slotOf a, 0⟩] := by
  obtain ⟨m, hm⟩ := s.journal_cfg 0x03 0 hsector hroom hslot
  have hslots : (s.journal 0x03 a 0).slot (s.slotOf a) = s.slot (s.slotOf a) := by unfold State.slot; rw [hm]
  have hcnt (k : Nat) : (s.journal 0x03 a 0).eraseCnt k = s.eraseCnt k := by unfold State.eraseCnt; rw [hm]
  have hframe := s.journal_only 0x03 0 hsector hroom hslot [⟨.CFG_NV_STAT, 0, 0, 0⟩, ⟨.CFG_ERASE_CNT, 0, s.slotOf a, 0⟩]
  have hjobs' : (s.journal 0x03 a 0).cfg.jobs = [j] := by rw [hm]; exact hjobs
  unfold State.eraseBegin
  dsimp only
  rw [hslots]
  by_cases hfirst : a = (s.slot (s.slotOf a)).1
  · rw [if_pos (by rw [← hfirst]; simp [hslot]), if_pos hfirst, State.setErase_cfg, State.eraseCnt_setErase, if_pos rfl, hcnt]
    refine ⟨hjobs', rfl, rfl, fun k hk => ?_, hframe.setErase (by simp)⟩
    rw [State.eraseCnt_setErase, if_neg hk, hcnt]
  · rw [if_neg (by simp [hfirst]), if_neg hfirst]
    exact ⟨hjobs', rfl, hcnt _, fun k _ => hcnt k, hframe⟩

end

/-! ## What a load or a STORE reads -/

/-- Reading the source of an image leaves the flash, the configuration and Caben as they were: it counts and raises what the
protected memories detect, and draws free values. -/
structure SourceRead (s t : State) : Prop where
  cfg : t.cfg = s.cfg
  cab : t.cab = s.cab

section
variable {s t : State}

theorem SourceRead.refl (s : State) : SourceRead s s := ⟨rfl, rfl⟩

theorem SourceRead.ite {c : Prop} {i : Decidable c} {u : State} (h : SourceRead s t) (g : SourceRead s u) :
    SourceRead s (if c then t else u) := by
  split
  · exact h
  · exact g

theorem SourceRead.ite_snd {A : Type} {c : Prop} {i : Decidable c} {a b : A × State} (h : SourceRead s a.2) (g : SourceRead s b.2) :
    SourceRead s (if c then a else b).2 := by
  split
  · exact h
  · exact g

theorem SourceRead.ite_snd_snd {A B : Type} {c : Prop} {i : Decidable c} {a b : A × B × State} (h : SourceRead s a.2.2)
    (g : SourceRead s b.2.2) : SourceRead s (if c then a else b).2.2 := by
  split
  · exact h
  · exact g

theorem SourceRead.foldl_snd {A B : Type} {f : A × State → B → A × State} {l : List B} {r : A × State} (h : SourceRead s r.2)
    (hf : ∀ r b, SourceRead s r.2 → SourceRead s (f r b).2) : SourceRead s (l.foldl f r).2 :=
  foldl_keeps (fun r => SourceRead s r.2) f l r h hf

theorem SourceRead.foldl_snd_snd {A B C : Type} {f : A × B × State → C → A × B × State} {l : List C} {r : A × B × State}
    (h : SourceRead s r.2.2) (hf : ∀ r b, SourceRead s r.2.2 → SourceRead s (f r b).2.2) : SourceRead s (l.foldl f r).2.2 :=
  foldl_keeps (fun r => SourceRead s r.2.2) f l r h hf

theorem SourceRead.wf {f v d i j} (h : SourceRead s t) : SourceRead s (t.wf f v d i j) := ⟨h.cfg, h.cab⟩

theorem SourceRead.ww {n v d i j} (h : SourceRead s t) : SourceRead s (t.ww n v d i j) := ⟨h.cfg, h.cab⟩

theorem SourceRead.incE {f d i j n} (h : SourceRead s t) : SourceRead s (t.incE f d i j n) := .ite h.wf.wf h.wf

theorem SourceRead.raise {src d u x} (h : SourceRead s t) : SourceRead s (t.raise src d u x) := ⟨h.cfg, h.cab⟩

theorem SourceRead.free (h : SourceRead s t) : SourceRead s t.free.2 := ⟨h.cfg, h.cab⟩

theorem SourceRead.freeWord (h : SourceRead s t) : SourceRead s t.freeWord.2 := h.free.free

theorem SourceRead.freeWords {n} (h : SourceRead s t) : SourceRead s (t.freeWords n).2 := by
  induction n with
  | zero => exact h
  | succ k ih => exact ih.freeWord

theorem SourceRead.setWbq {d a q} (h : SourceRead s t) : SourceRead s (t.setWbq d a q) := ⟨h.cfg, h.cab⟩

theorem SourceRead.detect {d pa src unc syn} (h : SourceRead s t) : SourceRead s (t.detect d pa src unc syn) :=
  .raise (.ite h.incE h.incE.ww)

theorem SourceRead.queueWb {d pa w} (h : SourceRead s t) : SourceRead s (t.queueWb d pa w) := .ite h (.ite h.setWbq h.incE)

theorem SourceRead.readWord {d pa src wb} (h : SourceRead s t) : SourceRead s (t.readWord d pa src wb).2.2 := by
  unfold State.readWord
  split
  · exact h
  · exact .ite h.detect.queueWb h.detect
  · exact h.detect

/-! ### DRAM -/

theorem SourceRead.dramDecode {c w cell src} (h : SourceRead s t) : SourceRead s (t.dramDecode c w cell src).2.2 := by
  unfold State.dramDecode
  dsimp only
  split
  · exact h
  · exact .ite h.detect.queueWb h.detect
  · exact h.detect

theorem SourceRead.dramUnit {c g lo hi cells key odd src} (h : SourceRead s t) :
    SourceRead s (t.dramUnit c g lo hi cells key odd src).2 := by
  unfold State.dramUnit
  extract_lets step r
  have hstep : ∀ r i, SourceRead s r.2.2 → SourceRead s (step r i).2.2 := by
    intro r i hr
    unfold step
    split
    · exact hr
    · exact .ite_snd_snd hr (.ite_snd_snd hr.dramDecode.freeWord hr.dramDecode)
  have hread : SourceRead s r.2.2 := .foldl_snd_snd h hstep
  clear_value r
  split
  · exact hread
  · exact .ite_snd hread (.ite_snd hread.freeWords hread)

theorem SourceRead.dramReadWords {c a src} (h : SourceRead s t) : SourceRead s (t.dramReadWords c a src).2 :=
  .foldl_snd h fun _ _ hu => hu.dramUnit

/-! ### Images -/

theorem SourceRead.pair {A : Type} {a : A} (h : SourceRead s t) : SourceRead s (a, t).2 := h

theorem SourceRead.readGlobal {a} (h : SourceRead s t) : SourceRead s (t.readGlobal a).2 :=
  .ite_snd h (.ite_snd (.ite_snd (.pair h.dramReadWords) h) (.ite_snd (.pair h.readWord) h))

theorem SourceRead.readData {a n} (h : SourceRead s t) : SourceRead s (t.readData a n).2 := .foldl_snd h fun _ _ hu => by
  split
  · exact hu
  · extract_lets
    split <;> exact hu.readGlobal

theorem SourceRead.memBytes {a off n} (h : SourceRead s t) : SourceRead s (t.memBytes a off n).2 := h.readData

theorem SourceRead.imgBytes {l off n} (h : SourceRead s t) : SourceRead s (t.imgBytes l off n).2 :=
  .ite_snd h (.ite_snd h (.ite_snd h.memBytes h))

theorem SourceRead.orderCheck {l n} (h : SourceRead s t) : SourceRead s (t.orderCheck l n).2 := by
  refine .foldl_snd h fun r k hu => .ite_snd hu ?_
  dsimp only
  split
  · exact hu.imgBytes
  · refine .ite_snd hu.imgBytes ?_
    split <;> exact hu.imgBytes

theorem SourceRead.imageCheck {l} (h : SourceRead s t) : SourceRead s (t.imageCheck l).2 := by
  unfold State.imageCheck
  refine .ite_snd h (.ite_snd h (.ite_snd h ?_))
  extract_lets
  split
  · exact h.imgBytes
  · extract_lets _ _ body
    have hbody : SourceRead s body.2 := h.imgBytes.imgBytes
    refine .ite_snd h.imgBytes ?_
    split
    · exact hbody
    · exact .ite_snd hbody (by split; exacts [hbody.orderCheck, .ite_snd hbody.orderCheck hbody.orderCheck])

theorem SourceRead.storeCheck {k addr n} (h : SourceRead s t) : SourceRead s (t.storeCheck k addr n).2 := by
  unfold State.storeCheck
  extract_lets i size img c r
  have hc : SourceRead s c.2 := .ite_snd (.pair h.imageCheck) h
  have hr : SourceRead s r.2 := hc.memBytes
  clear_value c r
  refine .ite_snd h (.ite_snd h (.ite_snd h (.ite_snd hc ?_)))
  split
  · exact hr
  · exact hr

end

/-! ## Work asked for -/

theorem State.addJob_cfg (s : State) (ops : List FlashOp) (owner : Option (Nat × Nat)) :
    (s.addJob ops owner).cfg = { s.cfg with jobs := s.cfg.jobs ++ [⟨ops, false, owner, s.cfg.load.isSome⟩] } := State.wf_cfg ..

theorem State.addJob_cab (s : State) (ops : List FlashOp) (owner : Option (Nat × Nat)) : (s.addJob ops owner).cab = s.cab := State.wf_cab ..

theorem State.setPkt_cfg (s : State) (p : CabPkt) : (s.setPkt p).cfg = s.cfg := rfl

theorem State.rf_addJob_busy (s : State) (ops : List FlashOp) (owner : Option (Nat × Nat)) :
    (s.addJob ops owner).rf F.CFG_NV_STAT_NV_BUSY 0 = 1 := by
  unfold State.addJob
  rw [State.rf_nvView_busy]
  have hsome : (s.cfg.jobs ++ [(⟨ops, false, owner, s.cfg.load.isSome⟩ : NvJob)]).isEmpty = false := by simp
  rw [show (s.setCfg { s.cfg with jobs := s.cfg.jobs ++ [⟨ops, false, owner, s.cfg.load.isSome⟩] }).cfg.jobs.isEmpty = false from hsome]
  rfl

/-- A packet that has not started is acted on. -/
theorem cabRow_new {op tr tag : Nat} {s : State} {p : CabPkt} (h : s.cabNew tr tag op = some p) (act : CabPkt → State → State) :
    cabRow op tr tag s act = act p s := by
  unfold cabRow
  rw [h]

/-- NV work that writes a record: its flash operations wait for `owner`, and the circle's next place moves on. -/
def State.queueRecord (s : State) (ops : List FlashOp) (q : Nat) (owner : Option (Nat × Nat)) : State :=
  (s.addJob ops owner).setCfg { (s.addJob ops owner).cfg with nvPut := q }

theorem State.queueRecord_spec {s : State} (hjobs : s.cfg.jobs = []) (hload : s.cfg.load = none) (ops : List FlashOp) (q : Nat)
    (owner : Option (Nat × Nat)) : (s.queueRecord ops q owner).cfg = { s.cfg with jobs := [⟨ops, false, owner, false⟩], nvPut := q } ∧
      (s.queueRecord ops q owner).rf F.CFG_NV_STAT_NV_BUSY 0 = 1 ∧ OnlyRegsCfg s (s.queueRecord ops q owner) [⟨.CFG_NV_STAT, 0, 0, 0⟩] := by
  refine ⟨?_, (State.setCfg_rf ..).trans (s.rf_addJob_busy ops owner), (((OnlyRegsCfg.refl s _).setCfg _).nvView (List.mem_singleton.mpr rfl)).setCfg _⟩
  change ({ (s.addJob ops owner).cfg with nvPut := q } : Cfg) = _
  rw [s.addJob_cfg, hjobs, hload]
  rfl

section
variable {s : State} (hstore : s.retired 4 = false) (hjournal : s.retired 3 = false)
include hstore hjournal

theorem State.nvStart_queues {ty q : Nat} {data : List Nat} {ops : List FlashOp} (hops : s.nvOps ty data = some (ops, q)) (p : CabPkt) :
    s.nvStart p ty data = (s.setPkt { p with started := true }).queueRecord ops q (some (p.tr, p.tag)) := by
  unfold State.nvStart
  rw [hstore, hjournal, hops]
  rfl

end

/-! ### STORE -/

section
variable {s : State} {tr tag : Nat} {p : CabPkt} (hp : s.cabNew tr tag 0x1A = some p) (hjobs : s.cfg.jobs = [])
  (hactive : s.cfg.active = none) (hload : s.cfg.load = none)
include hp hjobs hactive hload

/-- A slot closed by GOLDEN_OPEN refuses its STORE (R371). -/
theorem execStore_closed (hgolden : needsGolden (storeSlot (p.params.getD 0 0)) = true) (hclosed : s.goldenOpen = false) :
    execStore tr tag s = .next ((s.raise .nvWriteRefused 0 0).cabFinish p 7 9 []) := by
  have hcheck : s.storeCheck (p.params.getD 0 0) (parNat p.params 2 6) (parNat p.params 8 4) = ((7, 9, []), s) := by
    unfold State.storeCheck
    dsimp only
    rw [if_pos (by rw [hgolden, hclosed]; rfl)]
  unfold execStore
  rw [cabRow_new hp]
  dsimp only
  rw [if_neg (by simp [hjobs, hactive, hload]), hcheck]
  dsimp only
  rw [if_pos (by decide), if_pos rfl]

/-- A STORE whose checks pass queues its erases and programs (R364, R809). -/
theorem execStore_queued {b : List Nat} {r : (Nat × Nat × List Nat) × State}
    (hr : r = s.storeCheck (p.params.getD 0 0) (parNat p.params 2 6) (parNat p.params 8 4)) (hcheck : r.1 = (0, 0, b)) :
    execStore tr tag s = .next ((r.2.setPkt { p with started := true }).addJob
      (if p.params.getD 0 0 = 5 then storeOps 4096 4096 b ++ storeOps 0 4096 b
        else storeOps (r.2.slot (storeSlot (p.params.getD 0 0))).1 (r.2.slot (storeSlot (p.params.getD 0 0))).2 b) (some (tr, tag))) := by
  unfold execStore
  rw [cabRow_new hp]
  dsimp only
  rw [if_neg (by simp [hjobs, hactive, hload]), ← hr, hcheck]
  dsimp only
  rw [if_neg (by decide)]

/-- What a STORE whose checks pass has changed: the reads of its source leave the slots and the replies as they were. -/
theorem State.storeQueued_spec {b : List Nat} (hcheck : (s.storeCheck (p.params.getD 0 0) (parNat p.params 2 6) (parNat p.params 8 4)).1 = (0, 0, b)) :
    ∃ t, execStore tr tag s = .next t ∧
      t.cfg.jobs = [⟨if p.params.getD 0 0 = 5 then storeOps 4096 4096 b ++ storeOps 0 4096 b
        else storeOps (s.slot (storeSlot (p.params.getD 0 0))).1 (s.slot (storeSlot (p.params.getD 0 0))).2 b, false, some (tr, tag), false⟩] ∧
      t.rf F.CFG_NV_STAT_NV_BUSY 0 = 1 ∧ t.cfg.active = none ∧ t.cab.replies = s.cab.replies := by
  obtain ⟨hcfg, hcab⟩ : SourceRead s (s.storeCheck (p.params.getD 0 0) (parNat p.params 2 6) (parNat p.params 8 4)).2 :=
    (SourceRead.refl s).storeCheck
  have hslot (i : Nat) : (s.storeCheck (p.params.getD 0 0) (parNat p.params 2 6) (parNat p.params 8 4)).2.slot i = s.slot i := by
    unfold State.slot
    rw [hcfg]
  refine ⟨_, execStore_queued hp hjobs hactive hload rfl hcheck, ?_, State.rf_addJob_busy .., ?_, ?_⟩
  · rw [State.addJob_cfg, hslot]
    dsimp only
    rw [State.setPkt_cfg, hcfg, hjobs, hload]
    rfl
  · rw [State.addJob_cfg]
    exact (congrArg Cfg.active hcfg).trans hactive
  · rw [State.addJob_cab]
    exact (congrArg Cab.replies hcab :)

end

/-! ### NV_READ, NV_WRITE and REPAIR_ADD -/

section
variable {s : State} {tr tag : Nat} {p : CabPkt}

theorem execNvRead_new (hp : s.cabNew tr tag 0x20 = some p) :
    (s.nvBytes (p.params.getD 0 0) = none → execNvRead tr tag s = .next (s.cabFinish p 0x0B 1 [])) ∧
    (∀ b, s.nvBytes (p.params.getD 0 0) = some b →
      execNvRead tr tag s = .next (s.cabFinish p 0 0 ((b.drop (parNat p.params 2 2)).take (cabLimit tr - 2)))) := by
  unfold execNvRead
  rw [cabRow_new hp]
  refine ⟨fun h => ?_, fun b h => ?_⟩
  · rw [h]
  · rw [h]

variable (hjobs : s.cfg.jobs = []) (hactive : s.cfg.active = none)
include hjobs hactive

/-- An NV_WRITE of the limits names a grade of at most 31 (Table 14-10). -/
theorem execNvWrite_badGrade (hp : s.cabNew tr tag 0x21 = some p) (hkind : p.params.getD 0 0 = 1) (hbad : 31 < p.params.getD 2 0) :
    execNvWrite tr tag s = .next (s.cabFinish p 4 2 []) := by
  have hbad' : 31 < (p.params.drop 2).getD 0 0 := by simpa using hbad
  unfold execNvWrite
  rw [cabRow_new hp]
  dsimp only
  rw [if_neg (by simp [hjobs, hactive]), if_pos hkind, if_pos hbad']

/-- An NV_WRITE of limits that no slot has passed yet starts a record (R368, R813). -/
theorem execNvWrite_starts (hp : s.cabNew tr tag 0x21 = some p) (hkind : p.params.getD 0 0 = 1) (hgrade : p.params.getD 2 0 ≤ 31)
    (hmode : p.params.getD 3 0 ≤ 2) (hpos : 0 < parNat p.params 4 3) (htop : parNat p.params 4 3 ≤ 1048575)
    (hcnt : ∀ i, i < 5 → s.eraseCnt i ≤ parNat p.params 4 3) :
    execNvWrite tr tag s = .next (s.nvStart p 1 (p.params.drop 2)) := by
  have hgrade' : ¬ 31 < (p.params.drop 2).getD 0 0 := by simpa using hgrade
  have hmode' : ¬ 2 < (p.params.drop 2).getD 1 0 := by simpa using hmode
  have hlimit : leNat (((p.params.drop 2).drop 2).take 3) = parNat p.params 4 3 := by unfold parNat; rw [List.drop_drop]
  have hover : ¬ ((List.range 5).any fun i => decide (parNat p.params 4 3 < s.eraseCnt i)) = true := by
    simp only [List.any_eq_true, List.mem_range, decide_eq_true_eq, not_exists, not_and, not_lt]
    exact hcnt
  unfold execNvWrite
  rw [cabRow_new hp]
  dsimp only
  rw [if_neg (by simp [hjobs, hactive]), if_pos hkind, if_neg hgrade', if_neg hmode', hlimit,
    if_neg (by simp only [Bool.or_eq_true, decide_eq_true_eq]; omega), if_neg hover]

theorem execRepairAdd_badEntry (hp : s.cabNew tr tag 0x22 = some p) (hbad : s.repairOk (parNat p.params 0 6) = false) :
    execRepairAdd tr (.packet tag) s = .next (s.cabFinish p 4 0 []) := by
  unfold execRepairAdd
  dsimp only
  rw [cabRow_new hp, if_neg (by simp [hjobs, hactive]), if_pos (by rw [hbad]; rfl)]

theorem execRepairAdd_held (hp : s.cabNew tr tag 0x22 = some p) (hok : s.repairOk (parNat p.params 0 6) = true)
    (hheld : parNat p.params 0 6 ∈ s.softEntries) : execRepairAdd tr (.packet tag) s = .next (s.cabFinish p 0 1 []) := by
  unfold execRepairAdd
  dsimp only
  rw [cabRow_new hp, if_neg (by simp [hjobs, hactive]), if_neg (by rw [hok]; decide), if_pos (List.contains_iff_mem.mpr hheld)]

theorem execRepairAdd_starts (hp : s.cabNew tr tag 0x22 = some p) (hok : s.repairOk (parNat p.params 0 6) = true)
    (hnew : parNat p.params 0 6 ∉ s.softEntries) (hroom : s.softEntries.length < 256) :
    execRepairAdd tr (.packet tag) s = .next (s.nvStart p 2 (softRecord (s.softEntries ++ [parNat p.params 0 6]))) := by
  unfold execRepairAdd
  dsimp only
  rw [cabRow_new hp, if_neg (by simp [hjobs, hactive]), if_neg (by rw [hok]; decide),
    if_neg (fun h => hnew (List.contains_iff_mem.mp h)), if_neg (by omega)]

end

/-! ### Entries that the firmware adds -/

/-- An entry is added only to idle work, in a device that has started up, and where it stands for a recorded error (R315). -/
theorem State.fwRepair_unchanged {s : State} {e : Nat} (h : s.rst.phase < 4 ∨ s.repairValid e = false ∨ s.repairSeen e = false ∨
    e ∈ s.softEntries ∨ s.cfg.jobs ≠ []) : s.fwRepair e = s := by
  unfold State.fwRepair
  refine if_pos ?_
  simp only [Bool.or_eq_true, decide_eq_true_eq, Bool.not_eq_true', List.isEmpty_eq_false_iff, List.contains_iff_mem]
  tauto

theorem State.fwRepair_adds {s : State} {e : Nat} (hlow : 4 ≤ s.rst.phase) (hhigh : s.rst.phase ≤ 7) (hboot : s.bootSm = false)
    (hjobs : s.cfg.jobs = []) (hactive : s.cfg.active = none) (hvalid : s.repairValid e = true) (hseen : s.repairSeen e = true)
    (hnew : e ∉ s.softEntries) (hroom : s.softEntries.length < 256) (hstore : s.retired 4 = false) (hjournal : s.retired 3 = false) :
    (s.nvOps 2 (softRecord (s.softEntries ++ [e])) = none → s.fwRepair e = s) ∧
    (∀ ops q, s.nvOps 2 (softRecord (s.softEntries ++ [e])) = some (ops, q) → s.fwRepair e = s.queueRecord ops q none) := by
  have hlow' : ¬ s.rst.phase < 4 := by omega
  have hhigh' : ¬ 7 < s.rst.phase := by omega
  have hroom' : ¬ 256 ≤ s.softEntries.length := by omega
  unfold State.fwRepair
  dsimp only
  rw [if_neg (by simp [hlow', hhigh', hboot, hjobs, hactive, hvalid, hseen, hnew, hroom']), hstore, hjournal, if_neg (by decide)]
  refine ⟨fun h => ?_, fun ops q h => ?_⟩
  · rw [h]
  · rw [h]
    rfl

/-! ### FUSE_BLOW -/

section
variable {s : State} {tr tag : Nat} {p : CabPkt} (good : Bool) (hp : s.cabNew tr tag 0x23 = some p)
include hp

theorem execFuseBlow_transport (htr : tr ≠ 0) : execFuseBlow tr tag good s = .next (s.cabFinish p 7 3 []) := by
  unfold execFuseBlow
  rw [cabRow_new hp]
  dsimp only
  rw [if_pos htr]

variable (htr : tr = 0)
include htr

theorem execFuseBlow_twice (hblown : s.cfg.blown.blownBit (p.params.getD 0 0) = true) :
    execFuseBlow tr tag good s = .next (s.cabFinish p 7 6 []) := by
  unfold execFuseBlow
  rw [cabRow_new hp]
  dsimp only
  rw [if_neg (not_not.mpr htr), if_pos hblown]

variable (hnew : s.cfg.blown.blownBit (p.params.getD 0 0) = false)
include hnew

/-- SECURE_EN needs the key and its hash, and REVOKE_0 the second hash (Table 14-11). -/
theorem execFuseBlow_early (hearly : (p.params.getD 0 0 = 1 ∧ ¬ (s.cfg.blown.blownBit 2 = true ∧ s.cfg.blown.blownBit 3 = true)) ∨
    (p.params.getD 0 0 = 5 ∧ s.cfg.blown.blownBit 4 = false)) : execFuseBlow tr tag good s = .next (s.cabFinish p 7 7 []) := by
  unfold execFuseBlow
  rw [cabRow_new hp]
  dsimp only
  rw [if_neg (not_not.mpr htr), if_neg (by rw [hnew]; decide), if_pos]
  simpa only [Bool.or_eq_true, Bool.and_eq_true, decide_eq_true_eq, Bool.not_eq_true', ← Bool.not_eq_true] using hearly

variable (h1 : p.params.getD 0 0 = 1 → s.cfg.blown.blownBit 2 = true ∧ s.cfg.blown.blownBit 3 = true)
  (h5 : p.params.getD 0 0 = 5 → s.cfg.blown.blownBit 4 = true)
include h1 h5

theorem execFuseBlow_temperature (hdie : ∃ d, d ∈ s.senseDies ∧ (s.dieTemp d < 0 ∨ 85 < s.dieTemp d)) :
    execFuseBlow tr tag good s = .next (s.cabFinish p 7 8 []) := by
  unfold execFuseBlow
  rw [cabRow_new hp]
  dsimp only
  rw [if_neg (not_not.mpr htr), if_neg (by rw [hnew]; decide), if_neg, if_pos]
  · simpa only [List.any_eq_true, Bool.or_eq_true, decide_eq_true_eq] using hdie
  · simp only [Bool.or_eq_true, Bool.and_eq_true, decide_eq_true_eq, Bool.not_eq_true', ← Bool.not_eq_true]
    tauto

theorem execFuseBlow_blown (hdie : ∀ d, d ∈ s.senseDies → 0 ≤ s.dieTemp d ∧ s.dieTemp d ≤ 85) (hgood : good = true) :
    execFuseBlow tr tag good s = .next ((s.setCfg { s.cfg with blown := (s.cfg.blown.blow (p.params.getD 0 0)
      (if 2 ≤ p.params.getD 0 0 ∧ p.params.getD 0 0 ≤ 4 then beNat (p.params.drop 1) else 1)) }).cabFinish p 0 0 []) := by
  have hcool : ¬ (s.senseDies.any fun d => s.dieTemp d < 0 || 85 < s.dieTemp d) = true := by
    simp only [List.any_eq_true, Bool.or_eq_true, decide_eq_true_eq, not_exists, not_and, not_or, not_lt]
    exact hdie
  unfold execFuseBlow
  rw [cabRow_new hp]
  dsimp only
  rw [if_neg (not_not.mpr htr), if_neg (by rw [hnew]; decide), if_neg, if_neg hcool, if_pos hgood]
  · simp only [Bool.and_eq_true, decide_eq_true_eq]
  · simp only [Bool.or_eq_true, Bool.and_eq_true, decide_eq_true_eq, Bool.not_eq_true', ← Bool.not_eq_true]
    tauto

end

/-! ## The completion of flash operations -/

section
variable {s : State} {a : Nat} {j : NvJob} (hjobs : s.cfg.jobs = [j]) (hlast : j.ops.length ≤ 1) (howner : j.owner = none)
  (hload : s.cfg.load = none) (hsector : s.cfg.jput % 4096 ≠ 0) (hroom : s.cfg.jput + 16 ≤ (s.slot 3).2) (hslot : s.slotOf a < 5)
include hjobs hlast howner hload hsector hroom hslot

/-- A completed page program has cleared bits of its bytes, behind its DONE record (R364, R365). -/
theorem State.programDone_last (pg : List Nat) :
    NvIdle (((s.flashProgram a pg).wf F.CFG_NV_STAT_SHUTDOWN_DEFER 0 0).opDone a) ∧
    (((s.flashProgram a pg).wf F.CFG_NV_STAT_SHUTDOWN_DEFER 0 0).opDone a).rf F.CFG_NV_STAT_SHUTDOWN_DEFER 0 = 0 ∧
    Recorded (s.flashProgram a pg) (((s.flashProgram a pg).wf F.CFG_NV_STAT_SHUTDOWN_DEFER 0 0).opDone a) ((s.slot 3).1 + s.cfg.jput) 0x02 ∧
    OnlyRegsCfg s (((s.flashProgram a pg).wf F.CFG_NV_STAT_SHUTDOWN_DEFER 0 0).opDone a) nvStatRegs := by
  have hstart : OnlyRegsCfg s ((s.flashProgram a pg).wf F.CFG_NV_STAT_SHUTDOWN_DEFER 0 0) nvStatRegs :=
    ((OnlyRegsCfg.refl s _).setCfg _).wf _ _ _ _ _ (by simp [nvStatRegs, F.CFG_NV_STAT_SHUTDOWN_DEFER])
  have hcfg : ((s.flashProgram a pg).wf F.CFG_NV_STAT_SHUTDOWN_DEFER 0 0).cfg = (s.flashProgram a pg).cfg := State.wf_cfg ..
  have hdefer : ((s.flashProgram a pg).wf F.CFG_NV_STAT_SHUTDOWN_DEFER 0 0).rf F.CFG_NV_STAT_SHUTDOWN_DEFER 0 = 0 :=
    State.rf_wf_same _ _ _ _ _ _ rfl
  generalize (s.flashProgram a pg).wf F.CFG_NV_STAT_SHUTDOWN_DEFER 0 0 = u at *
  have hslots : u.slot = s.slot := by unfold State.slot; rw [hcfg]; rfl
  have hput : u.cfg.jput = s.cfg.jput := by rw [hcfg]; rfl
  obtain ⟨hidle, hrec, -, hdefer', honly⟩ := State.opDone_last (s := u) (a := a) (by rw [hcfg]; exact hjobs) hlast howner
    (by rw [hcfg]; exact hload) (by rwa [hput]) (by rwa [hput, hslots]) (by unfold State.slotOf; rwa [hslots])
  rw [hslots, hput] at hrec
  exact ⟨hidle, hdefer'.trans hdefer, hrec.ofFlash (by rw [hcfg]), hstart.trans honly⟩

/-- A completed sector erase has set the sector to 0xFF, behind its DONE record; a slot below its limit is not retired
(R364, R365, R370). -/
theorem State.eraseDone_last (hcnt : s.eraseCnt (s.slotOf a) ≠ s.endurance) :
    ((s.flashErase a).opDone a).retireFull (s.slotOf a) = (s.flashErase a).opDone a ∧ NvIdle ((s.flashErase a).opDone a) ∧
    Recorded (s.flashErase a) ((s.flashErase a).opDone a) ((s.slot 3).1 + s.cfg.jput) 0x02 ∧
    OnlyRegsCfg s ((s.flashErase a).opDone a) nvStatRegs := by
  obtain ⟨hidle, hrec, herases, -, honly⟩ := State.opDone_last (s := s.flashErase a) hjobs hlast howner hload hsector hroom hslot
  obtain ⟨hframe, hkept⟩ := honly
  have hlimit : ((s.flashErase a).opDone a).endurance = s.endurance := hkept.rf F.CFG_ENDURANCE_LIMIT 0 0 0 (by decide)
  refine ⟨State.retireFull_not_full ?_, hidle, hrec, hframe, hkept⟩
  unfold State.eraseCnt
  rw [herases, hlimit]
  exact hcnt

end

/-! ## The statement -/

theorem answer_unique {o : Out} {t u : State} (ht : o = .next t) (hu : o = .next u) : t = u :=
  Host.Outcome.next.inj (ht.symm.trans hu)

/-- Settles O56, clause by clause: the begin, refusal and completion of programs and erases, STORE, NV_READ, NV_WRITE, REPAIR_ADD,
FUSE_BLOW and the entries that the firmware adds. -/
theorem flashAndFusesChangeAsAllowed : Obligations.FlashAndFusesChangeAsAllowed := by
  unfold Obligations.FlashAndFusesChangeAsAllowed
  refine ⟨?_, ?_, ?_, ?_, ?_, ?_, ?_, ?_, ?_, ?_, ?_, ?_⟩
  · rintro s j a _ _ pg _ rest hjobs hops hmay hok hsector hroom rfl hslot rfl rfl
    obtain ⟨hactive, hjobs', hbusy, hbyte, hput, hframe, hkept⟩ :=
      s.programBegin_spec hjobs hsector hroom hslot (crc32c pg) (.program a pg)
    refine ⟨_, (execFlashPageProgram_of_mayBegin hjobs hmay hops).1 hok, hactive, hjobs', hbusy, fun k hk => ?_, fun k hk => ?_, hput, hframe, hkept⟩
    · rw [hbyte, s.flashByte_journal _ _ hsector hroom hslot, if_pos (by omega), Nat.add_sub_cancel_left]
      rfl
    · rw [hbyte, s.flashByte_journal_other _ _ hsector hroom hslot k hk]
  · intro s j a d pg rest hjobs hops hmay hno howner hload
    obtain ⟨hidle, hcfg, hline, hev⟩ := State.refuseJob_last hjobs (State.nvMayBegin_active hmay) howner hload d
    refine ⟨s.refuseJob j d, fun h => (execFlashPageProgram_of_mayBegin hjobs hmay h).2 d hno,
      fun h => (execFlashSectorErase_of_mayBegin hjobs hmay h).2 d hno, hcfg, hidle.busy, hline, hidle.shown, ?_⟩
    rw [hcfg]
    exact hev
  · rintro s j a _ pg hactive hjobs hlast howner hload hsector hroom hslot rfl hapart
    obtain ⟨hidle, hdefer, ⟨htype, hother⟩, hframe, hkept⟩ := State.programDone_last hjobs hlast howner hload hsector hroom hslot pg
    refine ⟨_, execFlashProgramComplete_done hactive, hidle.active, hidle.jobs, hidle.busy, hdefer, fun k hk => ?_, ?_, fun k hk hk' => ?_,
      hidle.shown, hframe, hkept⟩
    · rw [hother _ (by omega), s.flashByte_flashProgram, if_pos (by omega), Nat.add_sub_cancel_left]
    · rw [htype, s.flashByte_flashProgram, if_neg (by omega)]
    · rw [hother _ hk', s.flashByte_flashProgram, if_neg (by omega)]
  · rintro s j a _ _ rest hjobs hops hmay hok hover hsector hroom rfl hslot rfl
    obtain ⟨hjobs', hflash, hcnt, hcnt', honly⟩ := s.eraseBegin_spec hjobs hsector hroom hslot
    obtain ⟨hcfg, hbusy⟩ := State.opBegin_spec hjobs' (.erase a)
    obtain ⟨hframe, hkept⟩ := honly.opBegin (List.mem_cons_self ..) j (.erase a)
    obtain ⟨htype, hother⟩ := (s.journal_recorded 0x03 0 hsector hroom hslot (by decide)).congr
      (u := (s.eraseBegin a).opBegin j (.erase a)) (by rw [hcfg]; exact hflash)
    have herases (k : Nat) : ((s.eraseBegin a).opBegin j (.erase a)).eraseCnt k = (s.eraseBegin a).eraseCnt k := by
      unfold State.eraseCnt
      rw [hcfg]
    exact ⟨_, (execFlashSectorErase_of_mayBegin hjobs hmay hops).1 hok hover, by rw [hcfg], by rw [hcfg], hbusy, htype, hother,
      (herases _).trans hcnt, fun k hk => (herases k).trans (hcnt' k hk), hframe, hkept⟩
  · rintro s j a _ hactive hjobs hlast howner hload hsector hroom hslot rfl hapart hcnt
    obtain ⟨hfull, hidle, ⟨htype, hother⟩, hframe, hkept⟩ := State.eraseDone_last hjobs hlast howner hload hsector hroom hslot hcnt
    refine ⟨_, (execFlashEraseComplete_last hactive hjobs hlast).trans (congrArg _ hfull), hidle.active, hidle.jobs, hidle.busy,
      fun k hk => ?_, ?_, fun k hk hk' => ?_, hidle.shown, hframe, hkept⟩
    · rw [hother _ (by omega), s.flashByte_flashErase, if_pos hk]
    · rw [htype, s.flashByte_flashErase, if_neg (by omega)]
    · rw [hother _ hk', s.flashByte_flashErase, if_neg hk]
  · rintro s tr tag _ p hp hjobs hactive hload rfl - - -
    obtain ⟨t, ht, -⟩ := (Kept.refl s).exec (.store tr tag)
    refine ⟨t, ht, fun hgolden hclosed => answer_unique ht (execStore_closed hp hjobs hactive hload hgolden hclosed), fun b hcheck => ?_⟩
    obtain ⟨u, hu, hspec⟩ := State.storeQueued_spec hp hjobs hactive hload hcheck
    obtain rfl := answer_unique ht hu
    exact hspec
  · intro s tr tag p hp
    obtain ⟨hnone, hsome⟩ := execNvRead_new hp
    obtain ⟨t, ht, -⟩ := (Kept.refl s).exec (.nvRead tr tag)
    exact ⟨t, ht, fun h => answer_unique ht (hnone h), fun b h => answer_unique ht (hsome b h)⟩
  · intro s tr tag p hp hjobs hactive hkind
    obtain ⟨t, ht, -⟩ := (Kept.refl s).exec (.nvWrite tr tag)
    refine ⟨t, ht, fun hbad => answer_unique ht (execNvWrite_badGrade hjobs hactive hp hkind hbad),
      fun hgrade hmode hpos htop hcnt hstore hjournal hload ops q hops => ?_⟩
    have hstart := execNvWrite_starts hjobs hactive hp hkind hgrade hmode hpos htop hcnt
    rw [State.nvStart_queues hstore hjournal hops] at hstart
    obtain ⟨hcfg, hbusy, -⟩ := State.queueRecord_spec (s := s.setPkt { p with started := true }) hjobs hload ops q (some (p.tr, p.tag))
    obtain rfl := answer_unique ht hstart
    exact ⟨by rw [hcfg], by rw [hcfg], hbusy⟩
  · intro s tr tag p hp hjobs hactive
    obtain ⟨t, ht, -⟩ := (Kept.refl s).exec (.repairAdd tr (.packet tag))
    refine ⟨t, ht, fun hbad => answer_unique ht (execRepairAdd_badEntry hjobs hactive hp hbad),
      fun hok hheld => answer_unique ht (execRepairAdd_held hjobs hactive hp hok hheld),
      fun hok hnew hroom hstore hjournal hload ops q hops => ?_⟩
    have hstart := execRepairAdd_starts hjobs hactive hp hok hnew hroom
    rw [State.nvStart_queues hstore hjournal hops] at hstart
    obtain ⟨hcfg, hbusy, -⟩ := State.queueRecord_spec (s := s.setPkt { p with started := true }) hjobs hload ops q (some (p.tr, p.tag))
    obtain rfl := answer_unique ht hstart
    exact ⟨by rw [hcfg], hbusy⟩
  · rintro s tr tag _ good p hp rfl
    obtain ⟨t, ht, -⟩ := (Kept.refl s).exec (.fuseBlow tr tag good)
    exact ⟨t, ht, fun htr => answer_unique ht (execFuseBlow_transport good hp htr),
      fun htr hblown => answer_unique ht (execFuseBlow_twice good hp htr hblown),
      fun htr hnew hearly => answer_unique ht (execFuseBlow_early good hp htr hnew hearly),
      fun htr hnew h1 h5 => ⟨fun hdie => answer_unique ht (execFuseBlow_temperature good hp htr hnew h1 h5 hdie),
        fun hdie hgood => answer_unique ht (execFuseBlow_blown good hp htr hnew h1 h5 hdie hgood)⟩⟩
  · intro s tr e hlow hhigh hboot hjobs hactive hload hvalid hseen hnew hroom hstore hjournal
    obtain ⟨hfull, hadd⟩ := State.fwRepair_adds hlow hhigh hboot hjobs hactive hvalid hseen hnew hroom hstore hjournal
    cases hops : s.nvOps 2 (softRecord (s.softEntries ++ [e])) with
    | none => exact ⟨s, congrArg Host.Outcome.next (hfull hops), fun _ _ h => (Option.some_ne_none _ h.symm).elim, rfl, .refl s _⟩
    | some x =>
      obtain ⟨ops, q⟩ := x
      obtain ⟨hcfg, hbusy, hframe, hkept⟩ := State.queueRecord_spec hjobs hload ops q none
      refine ⟨_, congrArg Host.Outcome.next (hadd ops q hops), fun ops' q' h => ?_, hframe, hkept⟩
      obtain ⟨rfl, rfl⟩ := Prod.mk.inj (Option.some.inj h)
      exact ⟨hcfg, hbusy⟩
  · intro s tr e h
    exact congrArg Host.Outcome.next (State.fwRepair_unchanged h)

end Sys2Proof.Machine
end

section
/-!
SUPPORT. The flits of the Ixgal die link: proof of the statement O29. The rules of a port, of a retraining and of a control flit
come first, then those of a sequenced flit.
-/
namespace Sys2Proof.Machine

/-! ## Ports and their registers -/

theorem State.ixp_setIxp_ne {d p d' p' : Nat} (h : (d', p') ≠ (d, p)) (s : State) (x : IxPort) :
    (s.setIxp d p x).ixp d' p' = s.ixp d' p' :=
  mget_mset_ne _ _ _ _ _ _ fun hkey => h (Prod.mk.injEq .. ▸ Nat.pair_eq_pair.mp hkey)

/-- A port of another die is another port. -/
theorem port_ne {d e p q : Nat} (h : e ≠ d) : (e, q) ≠ (d, p) := fun heq => h (congrArg Prod.fst heq)

/-- Writing a field leaves the registers of another port alone. -/
theorem State.rf_wf_port {d p d' p' : Nat} (h : (d', p') ≠ (d, p)) (s : State) (f g : Fld) (v : Nat) :
    (s.wf f v d p).rf g d' p' = s.rf g d' p' :=
  State.rf_wf_index _ _ _ _ _ _ _ _ _ _ fun heq => h (by injection heq with h1 h2; injection h2 with h2 _; rw [h1, h2])

/-- The link has changed nothing but ports and the registers `rs`, and has raised the events `evs`. -/
def LinkStep (s t : State) (rs : List Reg) (evs : List FaultEv) : Prop :=
  t = { s with regs := t.regs, ix := t.ix, faultLine := s.faultLine ++ evs } ∧ RegsKept s t rs

section
variable {s t u : State} {rs : List Reg} {evs : List FaultEv}

theorem LinkStep.refl (s : State) (rs : List Reg) : LinkStep s s rs [] := ⟨by rw [List.append_nil], .refl s rs⟩

theorem LinkStep.setIxp (h : LinkStep s t rs evs) (d p : Nat) (x : IxPort) : LinkStep s (t.setIxp d p x) rs evs := by
  obtain ⟨hframe, hkept⟩ := h
  exact ⟨by rw [hframe]; rfl, hkept⟩

theorem LinkStep.wf (h : LinkStep s t rs evs) (f : Fld) (v d p : Nat) (hf : (⟨f.reg, d, p, 0⟩ : Reg) ∈ rs) :
    LinkStep s (t.wf f v d p) rs evs := by
  obtain ⟨hframe, hkept⟩ := h
  exact ⟨by rw [hframe]; rfl, hkept.wf f v d p 0 hf⟩

theorem LinkStep.ww (h : LinkStep s t rs evs) (n : RegName) (v d p : Nat) (hn : (⟨n, d, p, 0⟩ : Reg) ∈ rs) :
    LinkStep s (t.ww n v d p) rs evs := by
  obtain ⟨hframe, hkept⟩ := h
  exact ⟨by rw [hframe]; rfl, hkept.ww n v d p 0 hn⟩

theorem LinkStep.incE (h : LinkStep s t rs evs) (f : Fld) (d p : Nat) (hf : (⟨f.reg, d, p, 0⟩ : Reg) ∈ rs) :
    LinkStep s (t.incE f d p) rs evs := by
  rw [State.incE_spec]
  split
  · exact h.wf _ _ _ _ hf
  · exact (h.wf _ _ _ _ hf).wf ⟨f.reg, 47, 47⟩ 1 d p hf

theorem LinkStep.raise (h : LinkStep s t rs evs) (src : FaultSrc) (d u x : Nat) :
    LinkStep s (t.raise src d u x) rs (evs ++ [faultEv src d u x]) := by
  obtain ⟨hframe, hkept⟩ := h
  refine ⟨?_, hkept.raise src d u x⟩
  rw [← List.append_assoc, hframe]
  rfl

/-- The part decides which ports there are (Table 8-2). -/
theorem State.ixPeer_congr (h : t.part = s.part) (d p : Nat) : t.ixPeer d p = s.ixPeer d p := by
  unfold State.ixPeer State.hasDie State.nextDie State.prevDie State.is20 State.is40X
  rw [h]

theorem LinkStep.ixPeer (h : LinkStep s t rs evs) (hpart : (⟨.DEV_ROLE, 0, 0, 0⟩ : Reg) ∉ rs) (d p : Nat) : t.ixPeer d p = s.ixPeer d p :=
  State.ixPeer_congr (h.2.rf F.DEV_ROLE_PART_CODE 0 0 0 hpart) d p

theorem LinkStep.faultLine (h : LinkStep s t rs evs) : t.faultLine = s.faultLine ++ evs := by
  obtain ⟨hframe, -⟩ := h
  rw [hframe]

theorem LinkStep.frame (h : LinkStep s t rs evs) : t = { s with regs := t.regs, ix := t.ix, faultLine := t.faultLine } := by
  rw [h.faultLine]
  exact h.1

/-- With no event raised, ports and registers are all that differs. -/
theorem LinkStep.quiet (h : LinkStep s t rs []) : t = { s with regs := t.regs, ix := t.ix } := by
  obtain ⟨hframe, -⟩ := h
  rw [List.append_nil] at hframe
  exact hframe

end

@[simp] theorem State.ixPeer_setIxp (s : State) (d p : Nat) (x : IxPort) (d' p' : Nat) : (s.setIxp d p x).ixPeer d' p' = s.ixPeer d' p' := rfl

@[simp] theorem State.incE_ixp (s : State) (f : Fld) (d p d' p' : Nat) : (s.incE f d p).ixp d' p' = s.ixp d' p' := by
  obtain ⟨m, hm⟩ := s.incE_frame f d p 0 1
  rw [hm]
  rfl

/-! ## Retrainings -/

/-- What a retraining keeps of a port: sequence numbers, acknowledgements, credits and held flits (R451), and what it counts towards
its next control flit. -/
structure FlowKept (x y : IxPort) : Prop where
  rxNext : y.rxNext = x.rxNext
  ackNext : y.ackNext = x.ackNext
  cred : y.cred = x.cred
  replay : y.replay = x.replay
  unacked : y.unacked = x.unacked
  run : y.run = x.run

theorem FlowKept.refl (x : IxPort) : FlowKept x x := ⟨rfl, rfl, rfl, rfl, rfl, rfl⟩

theorem FlowKept.trans {x y z : IxPort} (h : FlowKept x y) (h' : FlowKept y z) : FlowKept x z :=
  ⟨h'.rxNext.trans h.rxNext, h'.ackNext.trans h.ackNext, h'.cred.trans h.cred, h'.replay.trans h.replay, h'.unacked.trans h.unacked,
    h'.run.trans h.run⟩

/-- A port replaced by one with the same flow keeps the flow of every port. -/
theorem State.setIxp_flowKept {s : State} {d p : Nat} {x : IxPort} (h : FlowKept (s.ixp d p) x) (d' p' : Nat) :
    FlowKept (s.ixp d' p') ((s.setIxp d p x).ixp d' p') := by
  by_cases heq : (d', p') = (d, p)
  · obtain ⟨rfl, rfl⟩ := Prod.mk.inj heq
    rw [State.ixp_setIxp_same]
    exact h
  · rw [State.ixp_setIxp_ne heq]
    exact .refl _

/-- A port as its bundle begins to train, from reset or not (R448, R451). -/
def IxPort.trainBegin (x : IxPort) (reset fast : Bool) : IxPort :=
  { x with fromReset := reset, trained := false, ready := false, capCount := 0, capDone := !reset && fast, naks := 0 }

theorem IxPort.trainBegin_flowKept (x : IxPort) (reset fast : Bool) : FlowKept x (x.trainBegin reset fast) :=
  ⟨rfl, rfl, rfl, rfl, rfl, rfl⟩

theorem IxPort.retrainAfter_flowKept (x : IxPort) : FlowKept x { x with retrainAfter := true } := ⟨rfl, rfl, rfl, rfl, rfl, rfl⟩

/-- One side of a bundle begins to train. -/
def State.trainBegin (s : State) (reset : Bool) (d p : Nat) : State :=
  (s.setIxp d p ((s.ixp d p).trainBegin reset (s.rb F.IXG_STAT_FAST d p))).wf F.IXG_STAT_STATE (if reset then 1 else 3) d p

/-- Whether a bundle trains from reset: it was neither active nor in a retraining (R469). -/
def State.trainsFromReset (s : State) (d p : Nat) : Bool := !(s.rf F.IXG_STAT_STATE d p == 2 || s.rf F.IXG_STAT_STATE d p == 3)

theorem State.retrain_absent {s : State} {d p : Nat} (h : s.ixPeer d p = none) : s.retrain d p = s := by
  unfold State.retrain
  rw [h]

theorem State.retrain_eq {s : State} {d p e q : Nat} (h : s.ixPeer d p = some (e, q)) :
    s.retrain d p = if (s.ixp d p).swap.isSome || (s.ixp e q).swap.isSome then s.setIxp d p { s.ixp d p with retrainAfter := true }
      else (s.trainBegin (s.trainsFromReset d p) d p).trainBegin (s.trainsFromReset d p) e q := by
  unfold State.retrain
  rw [h]
  rfl

section
variable (s : State) (reset : Bool) (d p : Nat)

theorem State.trainBegin_flowKept (d' p' : Nat) : FlowKept (s.ixp d' p') ((s.trainBegin reset d p).ixp d' p') := by
  unfold State.trainBegin
  rw [State.wf_ixp]
  exact State.setIxp_flowKept (IxPort.trainBegin_flowKept ..) d' p'

theorem State.trainBegin_ixp_ne {d' p' : Nat} (h : (d', p') ≠ (d, p)) : (s.trainBegin reset d p).ixp d' p' = s.ixp d' p' := by
  unfold State.trainBegin
  rw [State.wf_ixp, State.ixp_setIxp_ne h]

@[simp] theorem State.trainBegin_fromReset : ((s.trainBegin reset d p).ixp d p).fromReset = reset := by
  unfold State.trainBegin
  rw [State.wf_ixp, State.ixp_setIxp_same]
  rfl

@[simp] theorem State.trainBegin_state : (s.trainBegin reset d p).rf F.IXG_STAT_STATE d p = if reset then 1 else 3 := by
  unfold State.trainBegin
  rw [State.rf_wf_same _ _ _ _ _ _ rfl]
  cases reset <;> rfl

theorem State.trainBegin_rf_ne {d' p' : Nat} (h : (d', p') ≠ (d, p)) (g : Fld) : (s.trainBegin reset d p).rf g d' p' = s.rf g d' p' := by
  unfold State.trainBegin
  rw [State.rf_wf_port h]
  rfl

theorem State.trainBegin_rf_apart (g : Fld) (hg : F.IXG_STAT_STATE.apart g = true) (d' p' : Nat) :
    (s.trainBegin reset d p).rf g d' p' = s.rf g d' p' := by
  unfold State.trainBegin
  rw [State.rf_wf_apart _ _ _ _ _ _ _ _ _ _ rfl hg]
  rfl

variable {s} in
theorem LinkStep.trainBegin {u : State} {rs : List Reg} {evs : List FaultEv} (h : LinkStep u s rs evs)
    (hmem : (⟨.IXG_STAT, d, p, 0⟩ : Reg) ∈ rs) : LinkStep u (s.trainBegin reset d p) rs evs :=
  (h.setIxp _ _ _).wf F.IXG_STAT_STATE _ _ _ hmem

end

/-- Whether it starts or waits, a retraining keeps the flow of every port (R451). -/
theorem State.retrain_flowKept (s : State) (d p d' p' : Nat) : FlowKept (s.ixp d' p') ((s.retrain d p).ixp d' p') := by
  rcases hpeer : s.ixPeer d p with _ | ⟨e, q⟩
  · rw [State.retrain_absent hpeer]
    exact .refl _
  · rw [State.retrain_eq hpeer]
    split
    · exact State.setIxp_flowKept (IxPort.retrainAfter_flowKept _) d' p'
    · exact (State.trainBegin_flowKept ..).trans (State.trainBegin_flowKept ..)

/-- A retraining changes no field but STATE. -/
theorem State.retrain_rf_apart (s : State) (d p : Nat) (g : Fld) (hg : F.IXG_STAT_STATE.apart g = true) (d' p' : Nat) :
    (s.retrain d p).rf g d' p' = s.rf g d' p' := by
  rcases hpeer : s.ixPeer d p with _ | ⟨e, q⟩
  · rw [State.retrain_absent hpeer]
  · rw [State.retrain_eq hpeer]
    split
    · rfl
    · rw [State.trainBegin_rf_apart _ _ _ _ _ hg, State.trainBegin_rf_apart _ _ _ _ _ hg]

/-- A retraining of a bundle with no swap under way starts at both sides (R451, R469). -/
theorem State.retrain_starts {s : State} {d p e q : Nat} (hpeer : s.ixPeer d p = some (e, q)) (hne : e ≠ d)
    (hswap : (s.ixp d p).swap = none) (hswap' : (s.ixp e q).swap = none) {u : State} {rs : List Reg} {evs : List FaultEv}
    (hstep : LinkStep u s rs evs) (hmem : (⟨.IXG_STAT, d, p, 0⟩ : Reg) ∈ rs) (hmem' : (⟨.IXG_STAT, e, q, 0⟩ : Reg) ∈ rs) :
    (s.retrain d p).rf F.IXG_STAT_STATE d p = (if s.trainsFromReset d p then 1 else 3) ∧
      (s.retrain d p).rf F.IXG_STAT_STATE e q = (if s.trainsFromReset d p then 1 else 3) ∧
      ((s.retrain d p).ixp d p).fromReset = s.trainsFromReset d p ∧ LinkStep u (s.retrain d p) rs evs := by
  have hport := port_ne (p := q) (q := p) hne.symm
  have heq : s.retrain d p = (s.trainBegin (s.trainsFromReset d p) d p).trainBegin (s.trainsFromReset d p) e q := by
    rw [State.retrain_eq hpeer, hswap, hswap']
    rfl
  rw [heq, State.trainBegin_rf_ne _ _ _ _ hport, State.trainBegin_ixp_ne _ _ _ _ hport]
  exact ⟨State.trainBegin_state .., State.trainBegin_state .., State.trainBegin_fromReset ..,
    (hstep.trainBegin _ _ _ hmem).trainBegin _ _ _ hmem'⟩

theorem State.ixProtocol_flowKept (s : State) (d p d' p' : Nat) : FlowKept (s.ixp d' p') ((s.ixProtocol d p).ixp d' p') := by
  unfold State.ixProtocol
  rw [← State.raise_ixp s .ixgalProtocolError d p (s.rw .IXG_LOC_LAST d p)]
  exact State.retrain_flowKept ..

theorem State.ixProtocol_rf_apart (s : State) (d p : Nat) (g : Fld) (hg : F.IXG_STAT_STATE.apart g = true) (d' p' : Nat) :
    (s.ixProtocol d p).rf g d' p' = s.rf g d' p' := State.retrain_rf_apart _ d p g hg d' p'

/-! ## Control flits -/

/-- A port after the buffer sizes of an INIT: the first one sets sizes and credits (R431). -/
def IxPort.withInit (x : IxPort) (ini : Bool) (size : List Nat) : IxPort :=
  if ini && !x.initSeen then { x with initSeen := true, ceil := size, cred := size, lastCred := [0, 0, 0, 0] } else x

/-- What a control flit's CRED gives back, by virtual channel (R431). -/
def IxPort.returns (x : IxPort) (cred : List Nat) : List (Nat × Bool) :=
  (List.range 4).map fun v => credReturn (x.cred.getD v 0) (x.ceil.getD v 0) (x.lastCred.getD v 0) (cred.getD v 0)

/-- The flits a port still holds after ACK_SEQ (R438). -/
def IxPort.heldAfter (x : IxPort) (ack : Nat) : List Nat := dropAcked x.replay x.ackNext ((ack + 1 + 256 - x.ackNext) % 256)

/-- A port after a control flit without NAK (R430, R431, R438). -/
def IxPort.acked (x : IxPort) (ack : Nat) (ini : Bool) (cred size : List Nat) : IxPort :=
  { x.withInit ini size with
    ackNext := (ack + 1) % 256, replay := x.heldAfter ack, redo := min x.redo (x.heldAfter ack).length
    cred := ((x.withInit ini size).returns cred).map (·.1), lastCred := cred }

/-- The state with a control flit's ACK_SEQ and credits applied. -/
def State.applyControl (s : State) (d p ack : Nat) (ini : Bool) (cred size : List Nat) : State :=
  ((s.setIxp d p ((s.ixp d p).acked ack ini cred size)).wf F.IXG_STAT_PEER_ACK ack d p).wf F.IXG_STAT_HELD
    ((s.ixp d p).heldAfter ack).length d p

section
variable (x : IxPort) (ack : Nat) (ini : Bool) (cred size : List Nat)

theorem IxPort.withInit_redo : (x.withInit ini size).redo = x.redo := by
  unfold IxPort.withInit
  split <;> rfl

theorem IxPort.acked_unacked : (x.acked ack ini cred size).unacked = x.unacked := by
  unfold IxPort.acked IxPort.withInit
  split <;> rfl

theorem IxPort.acked_run : (x.acked ack ini cred size).run = x.run := by
  unfold IxPort.acked IxPort.withInit
  split <;> rfl

end

/-- A control flit that acknowledges what was sent is applied; a credit beyond the ceiling is a protocol error beside (R86, R430, R467). -/
theorem State.controlArrive_applied {s : State} {d p ack : Nat} {ini : Bool} {cred size : List Nat}
    (hsent : (ack + 1 + 256 - (s.ixp d p).ackNext) % 256 ≤ (s.rf F.IXG_STAT_NEXT_SEQ d p + 256 - (s.ixp d p).ackNext) % 256) :
    s.controlArrive d p ack false ini cred size =
      if (((s.ixp d p).withInit ini size).returns cred).all (·.2) then s.applyControl d p ack ini cred size
      else (s.applyControl d p ack ini cred size).ixProtocol d p := by
  unfold State.applyControl IxPort.acked
  rw [← IxPort.withInit_redo _ ini size]
  exact if_neg (Nat.not_lt.mpr hsent)

section
variable (s : State) (d p ack : Nat) (ini : Bool) (cred size : List Nat)

@[simp] theorem State.applyControl_ixp : (s.applyControl d p ack ini cred size).ixp d p = (s.ixp d p).acked ack ini cred size := by
  unfold State.applyControl
  rw [State.wf_ixp, State.wf_ixp, State.ixp_setIxp_same]

theorem State.applyControl_ixp_ne {d' p' : Nat} (h : (d', p') ≠ (d, p)) :
    (s.applyControl d p ack ini cred size).ixp d' p' = s.ixp d' p' := by
  unfold State.applyControl
  rw [State.wf_ixp, State.wf_ixp, State.ixp_setIxp_ne h]

@[simp] theorem State.applyControl_peerAck : (s.applyControl d p ack ini cred size).rf F.IXG_STAT_PEER_ACK d p = ack % 256 := by
  unfold State.applyControl
  rw [State.rf_wf_apart _ _ _ _ _ _ _ _ _ _ rfl rfl]
  exact State.rf_wf_same _ _ _ _ _ _ rfl

variable {s} in
theorem LinkStep.applyControl {u : State} {rs : List Reg} {evs : List FaultEv} (h : LinkStep u s rs evs)
    (hmem : (⟨.IXG_STAT, d, p, 0⟩ : Reg) ∈ rs) : LinkStep u (s.applyControl d p ack ini cred size) rs evs :=
  ((h.setIxp _ _ _).wf F.IXG_STAT_PEER_ACK _ _ _ hmem).wf F.IXG_STAT_HELD _ _ _ hmem

end

/-- Whatever its credits, a control flit that acknowledges what was sent frees the flits acknowledged (R430, R438). -/
theorem State.controlArrive_acks {s : State} {d p ack : Nat} {ini : Bool} {cred size : List Nat}
    (hsent : (ack + 1 + 256 - (s.ixp d p).ackNext) % 256 ≤ (s.rf F.IXG_STAT_NEXT_SEQ d p + 256 - (s.ixp d p).ackNext) % 256) :
    (s.controlArrive d p ack false ini cred size).rf F.IXG_STAT_PEER_ACK d p = ack % 256 ∧
      FlowKept ((s.ixp d p).acked ack ini cred size) ((s.controlArrive d p ack false ini cred size).ixp d p) ∧
      ∀ d' p', (d', p') ≠ (d, p) → FlowKept (s.ixp d' p') ((s.controlArrive d p ack false ini cred size).ixp d' p') := by
  rw [State.controlArrive_applied hsent]
  have hsame := s.applyControl_ixp d p ack ini cred size
  have hother : ∀ d' p', (d', p') ≠ (d, p) → (s.applyControl d p ack ini cred size).ixp d' p' = s.ixp d' p' :=
    fun d' p' => s.applyControl_ixp_ne d p ack ini cred size
  split
  · exact ⟨State.applyControl_peerAck .., hsame ▸ .refl _, fun d' p' hne => hother d' p' hne ▸ .refl _⟩
  · exact ⟨(State.ixProtocol_rf_apart _ _ _ _ rfl _ _).trans (State.applyControl_peerAck ..), hsame ▸ State.ixProtocol_flowKept ..,
      fun d' p' hne => hother d' p' hne ▸ State.ixProtocol_flowKept ..⟩

/-- CRED counts that have not moved give nothing back. -/
theorem credReturn_still {cred ceil : Nat} (h : cred ≤ ceil) : credReturn cred ceil 0 0 = (cred, true) := by
  simp [credReturn, h]

theorem IxPort.withInit_first {x : IxPort} (h : x.initSeen = false) (size : List Nat) :
    x.withInit true size = { x with initSeen := true, ceil := size, cred := size, lastCred := [0, 0, 0, 0] } := by
  unfold IxPort.withInit
  rw [h]
  rfl

/-- The first INIT, with no credits returned yet, makes the sizes the credits (R431). -/
theorem IxPort.returns_init {x : IxPort} (h : x.initSeen = false) (a b c r : Nat) :
    (x.withInit true [a, b, c, r]).returns [0, 0, 0, 0] = [(a, true), (b, true), (c, true), (r, true)] := by
  rw [IxPort.withInit_first h]
  simp [IxPort.returns, List.range_succ, credReturn_still]

/-- A port whose counts are below their limits owes no control flit (R424, R437). -/
theorem State.owedControl_none {s : State} {d p : Nat} (hrun : (s.ixp d p).run < 127) (hunacked : (s.ixp d p).unacked < 16) :
    s.owedControl d p = s := by
  unfold State.owedControl
  simp [Nat.not_le.mpr hrun, Nat.not_le.mpr hunacked]

/-! ## Sequenced flits -/

/-- A flit that is a whole transaction of its virtual channel, with a good CRC (R426, R432, R440). -/
structure SingleFlit (f : Nat) : Prop where
  good : flitGood f = true
  fmt : flitFmt f = 1
  count : flitCount (flitCmd f) = some 1
  op : opOnVc (bits (flitCmd f) 47 44) (flitVc f) = true

/-- A sender that holds nothing and may send `f` as its next new flit (R431, R435). -/
structure MaySend (s : State) (e q f : Nat) : Prop where
  die : e < 5
  active : s.rf F.IXG_STAT_STATE e q = 2
  replay : (s.ixp e q).replay = []
  folded : (s.ixp e q).folded = []
  seq : flitSeq f = s.rf F.IXG_STAT_NEXT_SEQ e q
  init : (s.ixp e q).initSeen = true
  redo : (s.ixp e q).redo = 0
  cred : 0 < (s.ixp e q).cred.getD (flitVc f) 0

/-- A receiver that expects `f`, with no transaction partly received and no error event open (R435). -/
structure Expects (s : State) (d p f : Nat) : Prop where
  seq : flitSeq f = (s.ixp d p).rxNext
  err : (s.ixp d p).err = none
  rxPart : (s.ixp d p).rxPart = []

/-- A sender's port after a new flit: the flit is held, and a credit of its virtual channel is used (R431, R438). -/
def IxPort.launch (x : IxPort) (f : Nat) : IxPort :=
  { x with replay := x.replay ++ [f], cred := x.cred.set (flitVc f) (x.cred.getD (flitVc f) 0 - 1), run := x.run + 1 }

/-- A sender's port after a flit of a replay (R439). -/
def IxPort.launchAgain (x : IxPort) : IxPort := { x with redo := x.redo - 1, run := x.run + 1 }

/-- A receiver's port with the error event of the flit `g` open and its first NAK sent (R436, R441). -/
def IxPort.firstNak (x : IxPort) (g : Nat) : IxPort := { x with err := some g, naks := 1, limited := false }

/-- The state after a new flit has left a port (R435). -/
def State.launch (s : State) (e q f : Nat) : State :=
  ((s.setIxp e q ((s.ixp e q).launch f)).wf F.IXG_STAT_NEXT_SEQ (s.rf F.IXG_STAT_NEXT_SEQ e q + 1) e q).wf F.IXG_STAT_HELD
    ((s.ixp e q).replay.length + 1) e q

/-- A receiver's port that has accepted the flit it expected (R435). -/
def IxPort.accept (x : IxPort) : IxPort :=
  { x with rxNext := (x.rxNext + 1) % 256, err := none, naks := 0, unacked := x.unacked + 1 }

/-- A receiver's port that has freed the buffer of a single flit (R431, R440). -/
def IxPort.freeOne (x : IxPort) (f : Nat) : IxPort :=
  { x with rxPart := [], freed := x.freed.set (flitVc f) ((x.freed.getD (flitVc f) 0 + 1) % 256) }

/-- The state after a port has accepted and delivered a single flit. -/
def State.received (s : State) (d p f : Nat) : State :=
  (s.setIxp d p (s.ixp d p).accept).setIxp d p ((s.ixp d p).accept.freeOne f)

section
variable (s : State) (e q f : Nat)

@[simp] theorem State.launch_ixp : (s.launch e q f).ixp e q = (s.ixp e q).launch f := by
  unfold State.launch
  rw [State.wf_ixp, State.wf_ixp, State.ixp_setIxp_same]

theorem State.launch_ixp_ne {d p : Nat} (h : (d, p) ≠ (e, q)) : (s.launch e q f).ixp d p = s.ixp d p := by
  unfold State.launch
  rw [State.wf_ixp, State.wf_ixp, State.ixp_setIxp_ne h]

@[simp] theorem State.launch_nextSeq :
    (s.launch e q f).rf F.IXG_STAT_NEXT_SEQ e q = (s.rf F.IXG_STAT_NEXT_SEQ e q + 1) % 256 := by
  unfold State.launch
  rw [State.rf_wf_apart _ _ _ _ _ _ _ _ _ _ rfl rfl]
  exact State.rf_wf_same _ _ _ _ _ _ rfl

@[simp] theorem State.launch_held :
    (s.launch e q f).rf F.IXG_STAT_HELD e q = ((s.ixp e q).replay.length + 1) % 128 := State.rf_wf_same _ _ _ _ _ _ rfl

@[simp] theorem State.launch_state (d p : Nat) : (s.launch e q f).rf F.IXG_STAT_STATE d p = s.rf F.IXG_STAT_STATE d p := by
  unfold State.launch
  rw [State.rf_wf_apart _ _ _ _ _ _ _ _ _ _ rfl rfl, State.rf_wf_apart _ _ _ _ _ _ _ _ _ _ rfl rfl]
  rfl

variable {s} in
theorem LinkStep.launch {u : State} {rs : List Reg} {evs : List FaultEv} (h : LinkStep u s rs evs)
    (hmem : (⟨.IXG_STAT, e, q, 0⟩ : Reg) ∈ rs) : LinkStep u (s.launch e q f) rs evs :=
  ((h.setIxp _ _ _).wf F.IXG_STAT_NEXT_SEQ _ _ _ hmem).wf F.IXG_STAT_HELD _ _ _ hmem

@[simp] theorem State.received_ixp : (s.received e q f).ixp e q = (s.ixp e q).accept.freeOne f := State.ixp_setIxp_same ..

theorem State.received_ixp_ne {d p : Nat} (h : (d, p) ≠ (e, q)) : (s.received e q f).ixp d p = s.ixp d p := by
  unfold State.received
  rw [State.ixp_setIxp_ne h, State.ixp_setIxp_ne h]

@[simp] theorem State.received_rf (g : Fld) (d p : Nat) : (s.received e q f).rf g d p = s.rf g d p := rfl

variable {s} in
theorem LinkStep.received {u : State} {rs : List Reg} {evs : List FaultEv} (h : LinkStep u s rs evs) :
    LinkStep u (s.received e q f) rs evs := (h.setIxp _ _ _).setIxp _ _ _

end

/-- A sender with nothing held launches a whole transaction of one flit. -/
theorem IxPort.mayLaunch_single {x : IxPort} {f : Nat} (hf : SingleFlit f) (hinit : x.initSeen = true) (hreplay : x.replay = [])
    (hcred : 0 < x.cred.getD (flitVc f) 0) : x.mayLaunch f = true := by
  have hopen : txOpen [] = false := rfl
  unfold IxPort.mayLaunch
  rw [hreplay, hopen, hf.good, hinit, hf.fmt, hf.op, hf.count, decide_eq_true hcred]
  rfl

theorem State.ixSends_active {s : State} {d p : Nat} (h : s.rf F.IXG_STAT_STATE d p = 2) : s.ixSends d p = true := by
  unfold State.ixSends
  rw [h]
  rfl

theorem State.flitLaunch_new {s : State} {e q f : Nat} (hf : SingleFlit f) (h : MaySend s e q f) :
    s.flitLaunch e q f = some (s.launch e q f) := by
  have hdie : e ≠ 5 := Nat.ne_of_lt h.die
  have hfolded : foldedAfter (s.ixp e q).folded f = some (s.ixp e q).folded := by rw [h.folded]; rfl
  unfold State.flitLaunch
  rw [if_neg hdie, State.ixSends_active h.active]
  dsimp only
  rw [Bool.not_true, if_neg Bool.false_ne_true, if_neg (h.redo ▸ Nat.lt_irrefl 0),
    if_pos ⟨h.seq, IxPort.mayLaunch_single hf h.init h.replay h.cred⟩, hfolded]
  rfl

/-- A flit of a replay leaves the port in order (R439). -/
theorem State.flitLaunch_again {s : State} {e q f : Nat} (hdie : e < 5) (hactive : s.rf F.IXG_STAT_STATE e q = 2)
    (hredo : 0 < (s.ixp e q).redo) (hreplay : (s.ixp e q).replay[(s.ixp e q).replay.length - (s.ixp e q).redo]? = some f) :
    s.flitLaunch e q f = some (s.setIxp e q (s.ixp e q).launchAgain) := by
  have hne : e ≠ 5 := Nat.ne_of_lt hdie
  unfold State.flitLaunch
  rw [if_neg hne, State.ixSends_active hactive]
  dsimp only
  rw [Bool.not_true, if_neg Bool.false_ne_true, if_pos hredo, if_pos hreplay]
  rfl

/-- A single flit is delivered and its buffer freed, where no guest die has sent it (R440). -/
theorem State.flitAccept_single {s : State} {d p e q f : Nat} (hf : SingleFlit f) (hpart : (s.ixp d p).rxPart = [])
    (hpeer : s.ixPeer d p = some (e, q)) (hdie : e < 5) : s.flitAccept d p f = s.setIxp d p ((s.ixp d p).freeOne f) := by
  unfold State.flitAccept
  simp only [hf.fmt, if_true, List.headD_cons, hf.count, hf.op, hpart, State.ixPeer_setIxp, hpeer]
  rw [if_neg (by decide), if_neg (by simp)]
  refine if_neg ?_
  split
  · next heq => cases heq; omega
  · exact Bool.false_ne_true

/-- An expected single flit is accepted (R435). -/
theorem State.flitReceive_single {s : State} {d p e q f : Nat} (hf : SingleFlit f) (h : Expects s d p f)
    (hpeer : s.ixPeer d p = some (e, q)) (hdie : e < 5) (again : Bool) : s.flitReceive d p f false again = s.received d p f := by
  have haccept : (s.setIxp d p (s.ixp d p).accept).flitAccept d p f = s.received d p f := by
    have hport := s.ixp_setIxp_same d p (s.ixp d p).accept
    rw [State.flitAccept_single (s := s.setIxp d p (s.ixp d p).accept) hf (by rw [hport]; exact h.rxPart) hpeer hdie, hport]
    rfl
  unfold State.flitReceive
  rw [hf.good]
  dsimp only
  rw [Bool.not_true, if_neg Bool.false_ne_true, if_neg (not_not.mpr h.seq), h.err, if_neg Bool.false_ne_true]
  exact haccept

/-- A NAK below REPLAY_LIMIT is counted (R436, R461). -/
theorem State.sendNak_below {s : State} {d p : Nat} (h : (s.ixp d p).naks + 1 < s.rf F.IXG_CTL_REPLAY_LIMIT d p) :
    s.sendNak d p = s.setIxp d p { s.ixp d p with naks := (s.ixp d p).naks + 1 } := if_neg (Nat.not_le.mpr h)

/-- A flit with a bad CRC is counted, raised, and opens an error event with its first NAK (R436, R441). -/
theorem State.flitReceive_bad {s : State} {d p g : Nat} (hbad : flitGood g = false) (herr : (s.ixp d p).err = none)
    (hlimit : 1 < s.rf F.IXG_CTL_REPLAY_LIMIT d p) (parity again : Bool) :
    ∃ x, s.flitReceive d p g parity again =
      (((s.incE F.IXG_CRC_CNT_COUNT d p).raise .ixgalCrcError d p (s.rw .IXG_LOC_LAST d p)).setIxp d p x).setIxp d p
        ((s.ixp d p).firstNak g) := by
  let x : IxPort := { s.ixp d p with err := some g, naks := 0, limited := false }
  have hnak : (((s.incE F.IXG_CRC_CNT_COUNT d p).raise .ixgalCrcError d p (s.rw .IXG_LOC_LAST d p)).setIxp d p x).sendNak d p =
      (((s.incE F.IXG_CRC_CNT_COUNT d p).raise .ixgalCrcError d p (s.rw .IXG_LOC_LAST d p)).setIxp d p x).setIxp d p ((s.ixp d p).firstNak g) := by
    rw [State.sendNak_below, State.ixp_setIxp_same]
    · rfl
    rw [State.ixp_setIxp_same, State.setIxp_rf, State.raise_rf, State.rf_incE_name _ _ _ _ _ _ _ _ _ _ (by decide)]
    exact hlimit
  refine ⟨x, Eq.trans ?_ hnak⟩
  unfold State.flitReceive
  rw [hbad]
  dsimp only
  rw [if_pos (Bool.not_false), herr]
  rfl

/-- IXPAR agrees with the beats it was made for (R422). -/
theorem parity_agrees (a b : Bool) : (bit (b2n a + 2 * b2n b) 0 != a || bit (b2n a + 2 * b2n b) 1 != b) = false := by
  cases a <;> cases b <;> rfl

theorem exec_sequencedFlit {s t : State} {d p e q sent : Nat} (hpeer : s.ixPeer d p = some (e, q))
    (hactive : s.rf F.IXG_STAT_STATE d p = 2) (hlaunch : s.flitLaunch e q sent = some t) (got par : Nat) :
    exec (.sequencedFlit d p sent got par) s =
      .next (((t.flitReceive d p got (bit par 0 != flitPar got 0 || bit par 1 != flitPar got 1)
        (e == 5 || decide (0 < (s.ixp e q).redo))).owedControl d p).owedControl e q) := by
  change execSequencedFlit d p sent got par s = _
  unfold execSequencedFlit
  rw [hpeer]
  dsimp only
  rw [if_neg (not_not.mpr hactive), hlaunch]

/-- A single flit in sequence: the sender holds it, the receiver accepts it, and both may then owe a control flit (R422, R435). -/
theorem exec_sequencedFlit_single {s : State} {d p e q f : Nat} (hf : SingleFlit f) (hpeer : s.ixPeer d p = some (e, q)) (hne : e ≠ d)
    (hactive : s.rf F.IXG_STAT_STATE d p = 2) (hsend : MaySend s e q f) (hexpect : Expects s d p f) :
    exec (.sequencedFlit d p f f (b2n (flitPar f 0) + 2 * b2n (flitPar f 1))) s =
      .next ((((s.launch e q f).received d p f).owedControl d p).owedControl e q) := by
  have hport := s.launch_ixp_ne e q f (port_ne (p := q) (q := p) hne.symm)
  have hexpect' : Expects (s.launch e q f) d p f := ⟨hport ▸ hexpect.seq, hport ▸ hexpect.err, hport ▸ hexpect.rxPart⟩
  have hpeer' : (s.launch e q f).ixPeer d p = some (e, q) :=
    (((LinkStep.refl s [⟨.IXG_STAT, e, q, 0⟩]).launch e q f (.head _)).ixPeer (by simp) d p).trans hpeer
  rw [exec_sequencedFlit hpeer hactive (State.flitLaunch_new hf hsend), parity_agrees, State.flitReceive_single hf hexpect' hpeer' hsend.die]

/-- After a single flit in sequence the receiver has accepted it and the sender holds it. -/
theorem State.received_launch_ixp {s : State} {d p e q f : Nat} (hne : e ≠ d) :
    ((s.launch e q f).received d p f).ixp d p = (s.ixp d p).accept.freeOne f ∧
      ((s.launch e q f).received d p f).ixp e q = (s.ixp e q).launch f := by
  constructor
  · rw [State.received_ixp, State.launch_ixp_ne _ _ _ _ (port_ne hne.symm)]
  · rw [State.received_ixp_ne _ _ _ _ (port_ne hne), State.launch_ixp]

/-- A control flit of the peer, with the sender's counts towards its next one settled (R430, R436). -/
theorem exec_controlFlit {s : State} {d p e q : Nat} (hpeer : s.ixPeer d p = some (e, q)) (hactive : s.rf F.IXG_STAT_STATE d p = 2)
    (good : Bool) (ack : Nat) (nak ini : Bool) (cred size : List Nat) :
    ∃ n, exec (.controlFlit d p good ack nak ini cred size) s =
      .next (if good then (s.setIxp e q { (s.ixp e q).controlSent with unacked := n }).controlArrive d p ack nak ini cred size
        else (s.setIxp e q { (s.ixp e q).controlSent with unacked := n }).incE F.IXG_CRC_CNT_COUNT d p) := by
  refine ⟨if good ∧ ack = ((s.ixp e q).rxNext + 255) % 256 then 0 else (s.ixp e q).unacked, ?_⟩
  change execControlFlit d p good ack nak ini cred size s = _
  unfold execControlFlit
  rw [hpeer]
  dsimp only
  rw [if_neg (not_not.mpr hactive)]

/-- A port whose control flit is due sends one to its peer (R424, R437). -/
theorem State.owedControl_due {s : State} {d p e q : Nat} (hpeer : s.ixPeer d p = some (e, q)) (hdie : e < 5)
    (hactive : s.rf F.IXG_STAT_STATE e q = 2) (hdue : 16 ≤ (s.ixp d p).unacked) :
    ∃ ini size, s.owedControl d p = (s.setIxp d p (s.ixp d p).controlSent).controlArrive e q (((s.ixp d p).rxNext + 255) % 256) false ini
      (s.ixp d p).freed size := by
  have howed : s.owedControl d p = s.sendControl d p := if_pos (by simp [hdue])
  have hne : e ≠ 5 := Nat.ne_of_lt hdie
  refine ⟨decide ((s.ixp d p).inits < 4), if (s.ixp d p).inits < 4 then ixBuffers else [0, 0, 0, 0], howed.trans ?_⟩
  unfold State.sendControl
  rw [hpeer]
  dsimp only
  rw [State.setIxp_rf, hactive, if_neg (by simp [hne])]

/-- The only held flit leaves the replay buffer with its acknowledgement (R438). -/
theorem dropAcked_single {f a : Nat} (hf : SingleFlit f) (ha : flitSeq f = a) : dropAcked [f] a 1 = [] := by
  have hzero : (flitSeq f + 256 - a) % 256 = 0 := by omega
  simp [dropAcked, List.splitBy, List.splitBy.loop, hf.count, hzero]

theorem flitSeq_lt (f : Nat) : flitSeq f < 256 := Nat.mod_lt _ (by decide)

/-- A single flit in sequence that brings no control flit on (R431, R435, R438). -/
theorem exec_sequencedFlit_accepted {s : State} {d p e q f : Nat} (hf : SingleFlit f) (hpeer : s.ixPeer d p = some (e, q)) (hne : e ≠ d)
    (hactive : s.rf F.IXG_STAT_STATE d p = 2) (hsend : MaySend s e q f) (hexpect : Expects s d p f) (hrun' : (s.ixp e q).run < 126)
    (hunacked' : (s.ixp e q).unacked < 16) (hrun : (s.ixp d p).run < 127) (hunacked : (s.ixp d p).unacked < 15) :
    exec (.sequencedFlit d p f f (b2n (flitPar f 0) + 2 * b2n (flitPar f 1))) s = .next ((s.launch e q f).received d p f) := by
  obtain ⟨hrecv, hsent⟩ := State.received_launch_ixp (s := s) (p := p) (q := q) (f := f) hne
  rw [exec_sequencedFlit_single hf hpeer hne hactive hsend hexpect,
    State.owedControl_none (d := d) (by rw [hrecv]; exact hrun) (by rw [hrecv]; exact Nat.succ_lt_succ hunacked),
    State.owedControl_none (d := e) (by rw [hsent]; exact Nat.succ_lt_succ hrun') (by rw [hsent]; exact hunacked')]

/-- The sixteenth flit accepted brings a control flit on, which frees the flit that the sender holds (R430, R437, R438). -/
theorem exec_sequencedFlit_sixteenth {s : State} {d p e q f : Nat} (hf : SingleFlit f) (hpeer : s.ixPeer d p = some (e, q)) (hne : e ≠ d)
    (hactive : s.rf F.IXG_STAT_STATE d p = 2) (hsend : MaySend s e q f) (hexpect : Expects s d p f)
    (hack : (s.ixp e q).ackNext = s.rf F.IXG_STAT_NEXT_SEQ e q) (hrun' : (s.ixp e q).run < 126) (hunacked' : (s.ixp e q).unacked < 16)
    (hunacked : (s.ixp d p).unacked = 15) :
    ∃ t, exec (.sequencedFlit d p f f (b2n (flitPar f 0) + 2 * b2n (flitPar f 1))) s = .next t ∧ (t.ixp d p).unacked = 0 ∧
      (t.ixp d p).run = 0 ∧ t.rf F.IXG_STAT_PEER_ACK e q = flitSeq f ∧ (t.ixp e q).ackNext = (flitSeq f + 1) % 256 ∧
      (t.ixp e q).replay = [] := by
  have hseq := flitSeq_lt f
  obtain ⟨hrecv, hsent⟩ := State.received_launch_ixp (s := s) (p := p) (q := q) (f := f) hne
  have hexec := exec_sequencedFlit_single hf hpeer hne hactive hsend hexpect
  have hstep : LinkStep s ((s.launch e q f).received d p f) [⟨.IXG_STAT, e, q, 0⟩] [] :=
    ((LinkStep.refl s _).launch e q f (.head _)).received d p f
  have hnext : ((s.launch e q f).received d p f).rf F.IXG_STAT_NEXT_SEQ e q = (flitSeq f + 1) % 256 := by
    rw [State.received_rf, State.launch_nextSeq, hsend.seq]
  have hstate : ((s.launch e q f).received d p f).rf F.IXG_STAT_STATE e q = 2 := by
    rw [State.received_rf, State.launch_state, hsend.active]
  generalize (s.launch e q f).received d p f = u at *
  obtain ⟨ini, size, howed⟩ := State.owedControl_due ((hstep.ixPeer (by simp) d p).trans hpeer) hsend.die hstate
    (by rw [hrecv]; exact Nat.succ_le_succ hunacked.ge)
  have hackSeq : ((u.ixp d p).rxNext + 255) % 256 = flitSeq f := by
    have haccept : (u.ixp d p).rxNext = ((s.ixp d p).rxNext + 1) % 256 := by rw [hrecv]; rfl
    have hexpected := hexpect.seq
    omega
  rw [hackSeq] at howed
  generalize hv : u.setIxp d p (u.ixp d p).controlSent = v at howed
  have hvself : v.ixp d p = (u.ixp d p).controlSent := by rw [← hv, State.ixp_setIxp_same]
  have hvpeer : v.ixp e q = (s.ixp e q).launch f := by rw [← hv, State.ixp_setIxp_ne (port_ne hne), hsent]
  have hvack : (v.ixp e q).ackNext = flitSeq f := by rw [hvpeer, hsend.seq]; exact hack
  have hvnext : v.rf F.IXG_STAT_NEXT_SEQ e q = (flitSeq f + 1) % 256 := by rw [← hv, State.setIxp_rf, hnext]
  obtain ⟨hpeerAck, hflow, hother⟩ := State.controlArrive_acks (s := v) (d := e) (p := q) (ack := flitSeq f) (ini := ini)
    (cred := (u.ixp d p).freed) (size := size) (by rw [hvack, hvnext]; omega)
  rw [← howed] at hpeerAck hflow hother
  have hself := hother d p (port_ne hne.symm)
  rw [hvself] at hself
  have hheld : (v.ixp e q).heldAfter (flitSeq f) = [] := by
    have hone : (flitSeq f + 1 + 256 - flitSeq f) % 256 = 1 := by omega
    have hreplay : (v.ixp e q).replay = [f] := by
      rw [hvpeer]
      change (s.ixp e q).replay ++ [f] = [f]
      rw [hsend.replay, List.nil_append]
    rw [IxPort.heldAfter, hreplay, hvack, hone, dropAcked_single hf rfl]
  refine ⟨u.owedControl d p, hexec.trans ?_, hself.unacked, hself.run, hpeerAck.trans (Nat.mod_eq_of_lt hseq), hflow.ackNext,
    hflow.replay.trans hheld⟩
  rw [State.owedControl_none (s := u.owedControl d p)]
  · rw [hflow.run, IxPort.acked_run, hvpeer]
    exact Nat.succ_lt_succ hrun'
  · rw [hflow.unacked, IxPort.acked_unacked, hvpeer]
    exact hunacked'

/-- A flit of a replay that arrives with a bad CRC (R436, R439, R441). -/
theorem exec_sequencedFlit_bad {s : State} {d p e q f g : Nat} (hpeer : s.ixPeer d p = some (e, q)) (hne : e ≠ d) (hdie : e < 5)
    (hactive : s.rf F.IXG_STAT_STATE d p = 2) (hactive' : s.rf F.IXG_STAT_STATE e q = 2) (hredo : 0 < (s.ixp e q).redo)
    (hheld : (s.ixp e q).replay[(s.ixp e q).replay.length - (s.ixp e q).redo]? = some f) (hbad : flitGood g = false)
    (herr : (s.ixp d p).err = none) (hlimit : 1 < s.rf F.IXG_CTL_REPLAY_LIMIT d p) (hrun' : (s.ixp e q).run < 126)
    (hunacked' : (s.ixp e q).unacked < 16) (hrun : (s.ixp d p).run < 127) (hunacked : (s.ixp d p).unacked < 16) :
    ∃ t, exec (.sequencedFlit d p f g 0) s = .next t ∧ t.ixp d p = (s.ixp d p).firstNak g ∧ t.ixp e q = (s.ixp e q).launchAgain ∧
      (s.rf F.IXG_CRC_CNT_COUNT d p < 2 ^ F.IXG_CRC_CNT_COUNT.width - 1 → t.rf F.IXG_CRC_CNT_COUNT d p = s.rf F.IXG_CRC_CNT_COUNT d p + 1) ∧
      LinkStep s t [⟨.IXG_CRC_CNT, d, p, 0⟩] [faultEv .ixgalCrcError d p (s.rw .IXG_LOC_LAST d p)] := by
  have hlaunch := State.flitLaunch_again hdie hactive' hredo hheld
  generalize hu : s.setIxp e q (s.ixp e q).launchAgain = u at hlaunch
  have hself : u.ixp d p = s.ixp d p := by rw [← hu, State.ixp_setIxp_ne (port_ne hne.symm)]
  have hsender : u.ixp e q = (s.ixp e q).launchAgain := by rw [← hu, State.ixp_setIxp_same]
  have hstep : LinkStep s u [⟨.IXG_CRC_CNT, d, p, 0⟩] [] := hu ▸ (LinkStep.refl s _).setIxp e q _
  have hreg (g : Fld) : u.rf g d p = s.rf g d p := by rw [← hu, State.setIxp_rf]
  have hloc : u.rw .IXG_LOC_LAST d p = s.rw .IXG_LOC_LAST d p := by rw [← hu, State.setIxp_rw]
  obtain ⟨x, hrecv⟩ := State.flitReceive_bad (s := u) (d := d) (p := p) hbad (by rw [hself, herr]) (by rw [hreg]; exact hlimit)
    (bit 0 0 != flitPar g 0 || bit 0 1 != flitPar g 1) (e == 5 || decide (0 < (s.ixp e q).redo))
  rw [hself, hloc] at hrecv
  have hexec := exec_sequencedFlit hpeer hactive hlaunch g 0
  rw [hrecv] at hexec
  have hall := (((hstep.incE F.IXG_CRC_CNT_COUNT d p (.head _)).raise .ixgalCrcError d p (s.rw .IXG_LOC_LAST d p)).setIxp d p x).setIxp d p
    ((s.ixp d p).firstNak g)
  generalize ht : (((u.incE F.IXG_CRC_CNT_COUNT d p).raise .ixgalCrcError d p (s.rw .IXG_LOC_LAST d p)).setIxp d p x).setIxp d p
    ((s.ixp d p).firstNak g) = t at hexec hall
  have hself' : t.ixp d p = (s.ixp d p).firstNak g := by rw [← ht, State.ixp_setIxp_same]
  have hsender' : t.ixp e q = (s.ixp e q).launchAgain := by
    rw [← ht, State.ixp_setIxp_ne (port_ne hne), State.ixp_setIxp_ne (port_ne hne), State.raise_ixp, State.incE_ixp, hsender]
  refine ⟨t, hexec.trans ?_, hself', hsender', fun hroom => ?_, hall⟩
  · rw [State.owedControl_none (d := d) (by rw [hself']; exact hrun) (by rw [hself']; exact hunacked),
      State.owedControl_none (d := e) (by rw [hsender']; exact Nat.succ_lt_succ hrun') (by rw [hsender']; exact hunacked')]
  · rw [← ht, State.setIxp_rf, State.setIxp_rf, State.raise_rf, State.rf_incE_same _ _ _ _ _ _ rfl, hreg]
    rw [hreg]
    exact Nat.add_lt_of_lt_sub hroom

/-- An INIT sets sizes and credits, and its ACK_SEQ frees held flits (R430, R431, R438). -/
theorem exec_controlFlit_init {s : State} {d p e q ack a b c r : Nat} (hpeer : s.ixPeer d p = some (e, q)) (hne : e ≠ d)
    (hactive : s.rf F.IXG_STAT_STATE d p = 2) (hinit : (s.ixp d p).initSeen = false)
    (hsent : (ack + 1 + 256 - (s.ixp d p).ackNext) % 256 ≤ (s.rf F.IXG_STAT_NEXT_SEQ d p + 256 - (s.ixp d p).ackNext) % 256) :
    ∃ t n, exec (.controlFlit d p true ack false true [0, 0, 0, 0] [a, b, c, r]) s = .next t ∧
      t.ixp d p = { (s.ixp d p).acked ack true [0, 0, 0, 0] [a, b, c, r] with cred := [a, b, c, r] } ∧
      t.ixp e q = { (s.ixp e q).controlSent with unacked := n } ∧ t.rf F.IXG_STAT_PEER_ACK d p = ack % 256 ∧
      LinkStep s t [⟨.IXG_STAT, d, p, 0⟩] [] := by
  obtain ⟨n, hexec⟩ := exec_controlFlit hpeer hactive true ack false true [0, 0, 0, 0] [a, b, c, r]
  have hstep := (LinkStep.refl s [⟨.IXG_STAT, d, p, 0⟩]).setIxp e q { (s.ixp e q).controlSent with unacked := n }
  have hself := State.ixp_setIxp_ne (port_ne (p := q) (q := p) hne.symm) s { (s.ixp e q).controlSent with unacked := n }
  have hpeerPort := s.ixp_setIxp_same e q { (s.ixp e q).controlSent with unacked := n }
  have hnext := s.setIxp_rf e q { (s.ixp e q).controlSent with unacked := n } F.IXG_STAT_NEXT_SEQ d p 0
  generalize s.setIxp e q { (s.ixp e q).controlSent with unacked := n } = u at hexec hstep hself hpeerPort hnext
  refine ⟨u.applyControl d p ack true [0, 0, 0, 0] [a, b, c, r], n, hexec.trans ?_, ?_, ?_, State.applyControl_peerAck ..,
    hstep.applyControl _ _ _ _ _ _ (.head _)⟩
  · rw [if_pos rfl, State.controlArrive_applied (by rw [hself, hnext]; exact hsent), hself, IxPort.returns_init hinit]
    rfl
  · rw [State.applyControl_ixp, hself]
    unfold IxPort.acked
    rw [IxPort.returns_init hinit]
    rfl
  · rw [State.applyControl_ixp_ne _ _ _ _ _ _ _ (port_ne hne), hpeerPort]

/-- Settles O29, clause by clause: a new flit accepted, a flit of a replay that arrives with a bad CRC, a repeated NAK, an INIT, the
sixteenth flit accepted with the control flit it brings on, and a control flit with a bad CRC. -/
theorem flitsAreAcceptedInSequence : Obligations.FlitsAreAcceptedInSequence := by
  unfold Obligations.FlitsAreAcceptedInSequence
  refine ⟨?_, ?_, ?_, ?_, ?_, ?_⟩
  · intro s d p e q f hpeer hne _ hdie hactive hactive' hreplay hfolded hseq hinit hredo hrun' hunacked' hrun hunacked hcred hgood hnext herr
      hpart hfmt hcount hop
    obtain ⟨hrecv, hsent⟩ := State.received_launch_ixp (s := s) (p := p) (q := q) (f := f) hne
    have hstep : LinkStep s ((s.launch e q f).received d p f) [⟨.IXG_STAT, e, q, 0⟩] [] :=
      ((LinkStep.refl s _).launch e q f (.head _)).received d p f
    refine ⟨_, exec_sequencedFlit_accepted ⟨hgood, hfmt, hcount, hop⟩ hpeer hne hactive
      ⟨hdie, hactive', hreplay, hfolded, hseq, hinit, hredo, hcred⟩ ⟨hnext, herr, hpart⟩ hrun' hunacked' hrun hunacked, ?_⟩
    rw [hrecv, hsent, State.received_rf, State.received_rf, State.launch_nextSeq, State.launch_held, hreplay]
    refine ⟨rfl, rfl, rfl, ?_, rfl, rfl, rfl, hstep.quiet, hstep.2⟩
    change (s.ixp e q).replay ++ [f] = [f]
    rw [hreplay, List.nil_append]
  · intro s d p e q f g hpeer hne hdie hactive hactive' hredo hheld hbad herr hlimit hrun' hunacked' hrun hunacked
    obtain ⟨t, hexec, hself, hsender, hcount, hstep⟩ :=
      exec_sequencedFlit_bad hpeer hne hdie hactive hactive' hredo hheld hbad herr hlimit hrun' hunacked' hrun hunacked
    refine ⟨t, hexec, ?_, ?_, ?_, hsender, hstep.faultLine, hcount, hstep.frame, hstep.2⟩
    all_goals rw [hself]; rfl
  · intro s d p f herr hactive hlimit
    change execNakResend d p s = _
    unfold execNakResend
    rw [herr, hactive, State.sendNak_below hlimit]
    rfl
  · intro s d p e q ack a b c r hpeer hne hactive hinit hsent
    obtain ⟨t, n, hexec, hself, hpeerPort, hack, hstep⟩ := exec_controlFlit_init (a := a) (b := b) (c := c) (r := r) hpeer hne hactive hinit hsent
    refine ⟨t, hexec, ?_, ?_, ?_, ?_, ?_, ?_, ?_, hack, hstep.quiet, hstep.2⟩
    · rw [hself, IxPort.acked, IxPort.withInit_first hinit]
    · rw [hpeerPort]; rfl
    · rw [hpeerPort]; rfl
    · rw [hself]
    · rw [hself, IxPort.acked, IxPort.withInit_first hinit]
    · rw [hself]; rfl
    · rw [hself]; rfl
  · intro s d p e q f hpeer hne _ hdie hactive hactive' hreplay hfolded hseq hinit hack hredo hrun' hunacked' hunacked hcred hgood hnext herr
      hpart hfmt hcount hop
    exact exec_sequencedFlit_sixteenth ⟨hgood, hfmt, hcount, hop⟩ hpeer hne hactive
      ⟨hdie, hactive', hreplay, hfolded, hseq, hinit, hredo, hcred⟩ ⟨hnext, herr, hpart⟩ hack hrun' hunacked' hunacked
  · intro s d p ack nak ini cred size hpeer hactive hroom
    obtain ⟨⟨e, q⟩, hpeer⟩ := Option.isSome_iff_exists.mp hpeer
    obtain ⟨n, hexec⟩ := exec_controlFlit hpeer hactive false ack nak ini cred size
    rw [if_neg Bool.false_ne_true] at hexec
    have hstep := ((LinkStep.refl s [⟨.IXG_CRC_CNT, d, p, 0⟩]).setIxp e q { (s.ixp e q).controlSent with unacked := n }).incE
      F.IXG_CRC_CNT_COUNT d p (.head _)
    have hcount := s.setIxp_rf e q { (s.ixp e q).controlSent with unacked := n } F.IXG_CRC_CNT_COUNT d p 0
    refine ⟨_, hexec, ?_, hstep.quiet, hstep.2⟩
    rw [State.rf_incE_same _ _ _ _ _ _ rfl, hcount]
    rw [hcount]
    exact Nat.add_lt_of_lt_sub hroom

end Sys2Proof.Machine
end

section
/-!
SUPPORT. Bundles of the Ixgal die link: proof of the statement O30. The rules of the rate, of training, of the end of a training
and of retirement come first.
-/
namespace Sys2Proof.Machine

/-! ## The rate -/

/-- A common rate fits RATE (R446). -/
theorem commonRate_lt (a b : Nat) : (commonRate a b).getD 0 < 4 := by
  cases h : commonRate a b with
  | none => decide
  | some r =>
    have hmem := List.mem_of_find?_eq_some h
    simp at hmem
    simp only [Option.getD_some]
    omega

/-- A port that has settled on the capability word `w` (R446). -/
def IxPort.settled (x : IxPort) (w : Nat) : IxPort := { x with capLast := w, capCount := x.capCount + 1, capDone := true }

/-- The state with a port's rate and fast retraining settled by the peer's capability word `w` (R446). -/
def State.settleRate (s : State) (d p w : Nat) : State :=
  ((((s.setIxp d p ((s.ixp d p).settled w)).ww .IXG_CAP_LOCAL (s.capLocal d p) d p).ww .IXG_CAP_PEER w d p).wf
    F.IXG_STAT_RATE ((commonRate (s.capLocal d p) w).getD 0) d p).wf F.IXG_STAT_FAST (b2n (bit (s.capLocal d p) 18 && bit w 18)) d p

/-- The third identical capability word of a training from reset settles the rate, where the words agree (R446). -/
theorem exec_sidebandCap_third {s : State} {d p e q w crc : Nat} (hpeer : s.ixPeer d p = some (e, q)) (hstate : s.rf F.IXG_STAT_STATE d p = 1)
    (hlast : (s.ixp d p).capLast = w) (hcount : 2 ≤ (s.ixp d p).capCount) (hreset : (s.ixp d p).fromReset = true)
    (hagree : capsAgree (s.capLocal d p) w = true) (hgood : sbGood 1 w crc = true) :
    exec (.sidebandCap d p w crc) s = .next (s.settleRate d p w) := by
  change execSidebandCap d p w crc s = _
  unfold execSidebandCap
  rw [hpeer, hgood]
  dsimp only
  rw [Bool.not_true, if_neg Bool.false_ne_true, if_neg (by rw [hstate]; decide), if_pos hlast, if_neg (by omega), if_neg (by simp [hreset]),
    if_pos hagree, hagree]
  rfl

section
variable (s : State) (d p w : Nat)

theorem State.settleRate_ixp : (s.settleRate d p w).ixp d p = (s.ixp d p).settled w := by
  unfold State.settleRate
  rw [State.wf_ixp, State.wf_ixp, State.ww_ixp, State.ww_ixp, State.ixp_setIxp_same]

theorem State.settleRate_capPeer : (s.settleRate d p w).rw .IXG_CAP_PEER d p = w % 2 ^ 48 := by
  unfold State.settleRate
  rw [State.rw_wf_name _ _ _ _ _ _ _ _ _ _ (by decide), State.rw_wf_name _ _ _ _ _ _ _ _ _ _ (by decide), State.rw_ww_same]

theorem State.settleRate_rate : (s.settleRate d p w).rf F.IXG_STAT_RATE d p = (commonRate (s.capLocal d p) w).getD 0 := by
  unfold State.settleRate
  rw [State.rf_wf_apart _ _ _ _ _ _ _ _ _ _ rfl rfl]
  exact State.rf_wf_fits _ _ _ _ _ _ rfl (commonRate_lt _ _)

theorem State.settleRate_state : (s.settleRate d p w).rf F.IXG_STAT_STATE d p = s.rf F.IXG_STAT_STATE d p := by
  unfold State.settleRate
  rw [State.rf_wf_apart _ _ _ _ _ _ _ _ _ _ rfl rfl, State.rf_wf_apart _ _ _ _ _ _ _ _ _ _ rfl rfl,
    State.rf_ww_name _ _ _ _ _ _ _ _ _ _ (by decide), State.rf_ww_name _ _ _ _ _ _ _ _ _ _ (by decide), State.setIxp_rf]

theorem State.settleRate_step :
    LinkStep s (s.settleRate d p w) [⟨.IXG_CAP_LOCAL, d, p, 0⟩, ⟨.IXG_CAP_PEER, d, p, 0⟩, ⟨.IXG_STAT, d, p, 0⟩] [] :=
  (((((LinkStep.refl s _).setIxp _ _ _).ww .IXG_CAP_LOCAL _ _ _ (.head _)).ww .IXG_CAP_PEER _ _ _ (.tail _ (.head _))).wf
    F.IXG_STAT_RATE _ _ _ (.tail _ (.tail _ (.head _)))).wf F.IXG_STAT_FAST _ _ _ (.tail _ (.tail _ (.head _)))

end

/-! ## The end of the training steps -/

/-- The registers that the end of a port's training steps writes (R448, R470, R473). -/
def trainRegs (d p : Nat) : List Reg :=
  [⟨.IXG_LANE_MAP, d, p, 0⟩, ⟨.IXG_STAT, d, p, 0⟩, ⟨.IXG_TEST_BAD_LO, d, p, 0⟩, ⟨.IXG_TEST_BAD_HI, d, p, 0⟩]

/-- What a training found, as the port's registers show it (R448, R470, R473). -/
def State.showTraining (s : State) (d p m clk lo hi : Nat) : State :=
  ((((s.ww .IXG_LANE_MAP m d p).wf F.IXG_STAT_SPARES_LEFT (sparesLeft m) d p).wf F.IXG_STAT_CLK_SPARE
    (b2n (clk == 1 || (s.ixp d p).fuseClk)) d p).ww .IXG_TEST_BAD_LO lo d p).ww .IXG_TEST_BAD_HI hi d p

/-- A trained port: from reset it starts with empty buffers (R448, R451). -/
def IxPort.trainedPort (x : IxPort) : IxPort :=
  if x.fromReset then
    { IxPort.init with fuse := x.fuse, fuseClk := x.fuseClk, dead := x.dead, capLast := x.capLast, capDone := true, trained := true }
  else { x with trained := true }

/-- SEQ starts at 0 after a training from reset (R448). -/
def State.restartSeq (s : State) (reset : Bool) (d p : Nat) : State :=
  if reset then ((s.wf F.IXG_STAT_NEXT_SEQ 0 d p).wf F.IXG_STAT_HELD 0 d p).wf F.IXG_STAT_PEER_ACK 0 d p else s

theorem State.trainSide_eq (s : State) (d p m : Nat) (bad : List Nat) (clk : Nat) :
    ∃ lo hi, s.trainSide d p m bad clk =
      ((s.showTraining d p m clk lo hi).setIxp d p (s.ixp d p).trainedPort).restartSeq (s.ixp d p).fromReset d p := by
  refine ⟨bad.foldl (fun a w => if w < 48 then a ||| 2 ^ w else a) 0,
    bad.foldl (fun a w => if 48 ≤ w then a ||| 2 ^ (w - 48) else a) 0 ||| (if clk = 1 then 2 ^ 22 else 0), ?_⟩
  unfold State.trainSide IxPort.trainedPort State.restartSeq
  dsimp only
  cases (s.ixp d p).fromReset <;> rfl

theorem IxPort.trainedPort_trained (x : IxPort) : x.trainedPort.trained = true := by
  unfold IxPort.trainedPort
  split <;> rfl

theorem State.restartSeq_ixp (s : State) (reset : Bool) (d p d' p' : Nat) : (s.restartSeq reset d p).ixp d' p' = s.ixp d' p' := by
  unfold State.restartSeq
  split
  · rw [State.wf_ixp, State.wf_ixp, State.wf_ixp]
  · rfl

theorem State.showTraining_ixp (s : State) (d p m clk lo hi d' p' : Nat) : (s.showTraining d p m clk lo hi).ixp d' p' = s.ixp d' p' := by
  unfold State.showTraining
  rw [State.ww_ixp, State.ww_ixp, State.wf_ixp, State.wf_ixp, State.ww_ixp]

/-- The start of SEQ leaves every register but IXG_STAT alone. -/
theorem State.restartSeq_rw (s : State) (reset : Bool) (d p : Nat) (n : RegName) (hn : RegName.IXG_STAT ≠ n) (d' p' : Nat) :
    (s.restartSeq reset d p).rw n d' p' = s.rw n d' p' := by
  cases reset with
  | false => rfl
  | true =>
    unfold State.restartSeq
    rw [if_pos rfl, State.rw_wf_name _ _ _ _ _ _ _ _ _ _ hn, State.rw_wf_name _ _ _ _ _ _ _ _ _ _ hn,
      State.rw_wf_name _ _ _ _ _ _ _ _ _ _ hn]

theorem State.restartSeq_sparesLeft (s : State) (reset : Bool) (d p d' p' : Nat) :
    (s.restartSeq reset d p).rf F.IXG_STAT_SPARES_LEFT d' p' = s.rf F.IXG_STAT_SPARES_LEFT d' p' := by
  cases reset with
  | false => rfl
  | true =>
    unfold State.restartSeq
    rw [if_pos rfl, State.rf_wf_apart _ _ _ _ _ _ _ _ _ _ rfl rfl, State.rf_wf_apart _ _ _ _ _ _ _ _ _ _ rfl rfl,
      State.rf_wf_apart _ _ _ _ _ _ _ _ _ _ rfl rfl]

section
variable (s : State) (d p m : Nat) (bad : List Nat) (clk : Nat)

theorem State.trainSide_trained : ((s.trainSide d p m bad clk).ixp d p).trained = true := by
  obtain ⟨lo, hi, heq⟩ := s.trainSide_eq d p m bad clk
  rw [heq, State.restartSeq_ixp, State.ixp_setIxp_same, IxPort.trainedPort_trained]

theorem State.trainSide_ixp_ne {d' p' : Nat} (h : (d', p') ≠ (d, p)) : (s.trainSide d p m bad clk).ixp d' p' = s.ixp d' p' := by
  obtain ⟨lo, hi, heq⟩ := s.trainSide_eq d p m bad clk
  rw [heq, State.restartSeq_ixp, State.ixp_setIxp_ne h, State.showTraining_ixp]

theorem State.trainSide_laneMap : (s.trainSide d p m bad clk).rw .IXG_LANE_MAP d p = m % 2 ^ 48 := by
  obtain ⟨lo, hi, heq⟩ := s.trainSide_eq d p m bad clk
  rw [heq, State.restartSeq_rw _ _ _ _ _ (by decide), State.setIxp_rw]
  unfold State.showTraining
  rw [State.rw_ww_name _ _ _ _ _ _ _ _ _ _ (by decide), State.rw_ww_name _ _ _ _ _ _ _ _ _ _ (by decide),
    State.rw_wf_name _ _ _ _ _ _ _ _ _ _ (by decide), State.rw_wf_name _ _ _ _ _ _ _ _ _ _ (by decide), State.rw_ww_same]

theorem State.trainSide_sparesLeft : (s.trainSide d p m bad clk).rf F.IXG_STAT_SPARES_LEFT d p = sparesLeft m % 8 := by
  obtain ⟨lo, hi, heq⟩ := s.trainSide_eq d p m bad clk
  rw [heq, State.restartSeq_sparesLeft, State.setIxp_rf]
  unfold State.showTraining
  rw [State.rf_ww_name _ _ _ _ _ _ _ _ _ _ (by decide), State.rf_ww_name _ _ _ _ _ _ _ _ _ _ (by decide),
    State.rf_wf_apart _ _ _ _ _ _ _ _ _ _ rfl rfl]
  exact State.rf_wf_same _ _ _ _ _ _ rfl

variable {s} in
theorem LinkStep.trainSide {u : State} {rs : List Reg} {evs : List FaultEv} (h : LinkStep u s rs evs) (hmem : trainRegs d p ⊆ rs) :
    LinkStep u (s.trainSide d p m bad clk) rs evs := by
  obtain ⟨lo, hi, heq⟩ := s.trainSide_eq d p m bad clk
  have hstat : (⟨.IXG_STAT, d, p, 0⟩ : Reg) ∈ rs := hmem (.tail _ (.head _))
  have hshow : LinkStep u (s.showTraining d p m clk lo hi) rs evs :=
    ((((h.ww .IXG_LANE_MAP _ _ _ (hmem (.head _))).wf F.IXG_STAT_SPARES_LEFT _ _ _ hstat).wf F.IXG_STAT_CLK_SPARE _ _ _ hstat).ww
      .IXG_TEST_BAD_LO _ _ _ (hmem (.tail _ (.tail _ (.head _))))).ww .IXG_TEST_BAD_HI _ _ _ (hmem (.tail _ (.tail _ (.tail _ (.head _)))))
  have hport := hshow.setIxp d p (s.ixp d p).trainedPort
  rw [heq]
  unfold State.restartSeq
  split
  · exact ((hport.wf F.IXG_STAT_NEXT_SEQ _ _ _ hstat).wf F.IXG_STAT_HELD _ _ _ hstat).wf F.IXG_STAT_PEER_ACK _ _ _ hstat
  · exact hport

end

/-- What was trained at one side stays as the other side is trained. -/
theorem State.trainSide_keeps {s : State} {d p e q : Nat} (hne : e ≠ d) (m : Nat) (bad : List Nat) (clk : Nat) :
    RegsKept s (s.trainSide e q m bad clk) (trainRegs e q) ∧ ∀ n : RegName, (⟨n, d, p, 0⟩ : Reg) ∉ trainRegs e q :=
  ⟨((LinkStep.refl s _).trainSide _ _ _ _ _ (List.Subset.refl _)).2, fun n => by simp [trainRegs, hne.symm]⟩

/-- A training with good clocks, enough capability words and enough spares trains both sides (R448). -/
theorem exec_bundleTraining_trained {s : State} {d p e q ma mb : Nat} {r : TrainResult} (hpeer : s.ixPeer d p = some (e, q))
    (hstate : s.rf F.IXG_STAT_STATE d p = 1) (htrained : (s.ixp d p).trained = false) (hswap : (s.ixp d p).swap = none)
    (hcap : (s.ixp d p).capDone = true) (hcap' : (s.ixp e q).capDone = true) (hma : s.trainedMap d p r.badA = some ma)
    (hmb : s.trainedMap e q r.badB = some mb) (hclkA : r.clkA ≠ 2) (hclkB : r.clkB ≠ 2) :
    exec (.bundleTraining d p r) s = .next ((s.trainSide d p ma r.badA r.clkA).trainSide e q mb r.badB r.clkB) := by
  change execBundleTraining d p r s = _
  unfold execBundleTraining
  rw [hpeer]
  dsimp only
  rw [if_neg (by rw [hstate]; decide), if_neg (by rw [htrained, hswap]; decide), if_neg (by simp [hclkA, hclkB]), hma, hmb]
  dsimp only
  rw [hcap, hcap', if_neg (by simp)]

/-! ## READY -/

/-- A port as its bundle becomes active: its held flits are sent again (R439, R451). -/
def IxPort.activated (x : IxPort) : IxPort := { x with trained := false, ready := false, fromReset := false }.resend

/-- One side of a bundle becomes active; a replay after a retraining is counted (R448, R451). -/
def State.goActive (s : State) (d p : Nat) : State :=
  ((((if (s.ixp d p).fromReset || (s.ixp d p).replay.isEmpty then s else s.incE F.IXG_REPLAY_CNT_COUNT d p).setIxp d p
    (s.ixp d p).activated).wf F.IXG_STAT_STATE 2 d p).wf F.IXG_CTL_RETRAIN 0 d p).wf F.IXG_CTL_EN 1 d p

section
variable (s : State) (d p : Nat)

theorem State.goActive_ixp : (s.goActive d p).ixp d p = (s.ixp d p).activated := by
  unfold State.goActive
  rw [State.wf_ixp, State.wf_ixp, State.wf_ixp, State.ixp_setIxp_same]

theorem State.goActive_ixp_ne {d' p' : Nat} (h : (d', p') ≠ (d, p)) : (s.goActive d p).ixp d' p' = s.ixp d' p' := by
  unfold State.goActive
  rw [State.wf_ixp, State.wf_ixp, State.wf_ixp, State.ixp_setIxp_ne h]
  split
  · rfl
  · rw [State.incE_ixp]

theorem State.goActive_state : (s.goActive d p).rf F.IXG_STAT_STATE d p = 2 := by
  unfold State.goActive
  rw [State.rf_wf_apart _ _ _ _ _ _ _ _ _ _ rfl rfl, State.rf_wf_apart _ _ _ _ _ _ _ _ _ _ rfl rfl]
  exact State.rf_wf_same _ _ _ _ _ _ rfl

theorem State.goActive_en : (s.goActive d p).rf F.IXG_CTL_EN d p = 1 := State.rf_wf_same _ _ _ _ _ _ rfl

/-- The registers that becoming active writes. -/
def activeRegs : List Reg := [⟨.IXG_STAT, d, p, 0⟩, ⟨.IXG_CTL, d, p, 0⟩, ⟨.IXG_REPLAY_CNT, d, p, 0⟩]

variable {s d p} in
theorem LinkStep.goActive {u : State} {rs : List Reg} {evs : List FaultEv} (h : LinkStep u s rs evs) (hmem : activeRegs d p ⊆ rs) :
    LinkStep u (s.goActive d p) rs evs := by
  have hstat : (⟨.IXG_STAT, d, p, 0⟩ : Reg) ∈ rs := hmem (.head _)
  have hctl : (⟨.IXG_CTL, d, p, 0⟩ : Reg) ∈ rs := hmem (.tail _ (.head _))
  have hcount : LinkStep u (if (s.ixp d p).fromReset || (s.ixp d p).replay.isEmpty then s else s.incE F.IXG_REPLAY_CNT_COUNT d p) rs evs := by
    split
    · exact h
    · exact h.incE F.IXG_REPLAY_CNT_COUNT d p (hmem (.tail _ (.tail _ (.head _))))
  exact (((hcount.setIxp d p _).wf F.IXG_STAT_STATE _ _ _ hstat).wf F.IXG_CTL_RETRAIN _ _ _ hctl).wf F.IXG_CTL_EN _ _ _ hctl

/-- Becoming active at one side leaves the other side's registers alone. -/
theorem State.goActive_rf_ne {d' p' : Nat} (h : (d', p') ≠ (d, p)) (g : Fld) : (s.goActive d p).rf g d' p' = s.rf g d' p' := by
  refine (((LinkStep.refl s _).goActive (List.Subset.refl _)).2).rf g d' p' 0 fun hmem => h ?_
  simp only [activeRegs, List.mem_cons, Reg.mk.injEq, List.not_mem_nil, or_false] at hmem
  rcases hmem with ⟨-, rfl, rfl, -⟩ | ⟨-, rfl, rfl, -⟩ | ⟨-, rfl, rfl, -⟩ <;> rfl

/-- No wire was located in the hold that ends (R462). -/
theorem State.countLater_none {s : State} {d p : Nat} (h : (s.ixp d p).later = []) :
    s.countLater d p = s.setIxp d p { s.ixp d p with later := [] } := by
  unfold State.countLater
  dsimp only
  rw [h]
  rfl

end

/-- Both sides of a bundle active, and the wires located in the hold counted (R462). -/
def State.bundleActive (s : State) (d p e q : Nat) : State :=
  ((((s.setIxp d p { s.ixp d p with ready := true }).goActive d p).goActive e q).countLater d p).countLater e q

/-- The pair of an active bundle is not lost. -/
def State.regainPair (s : State) (x : Nat × Nat) : State := { s with lostPairs := s.lostPairs.filter fun z => z != x }

section
variable (s : State) (x : Nat × Nat)

theorem State.regainPair_rf (f : Fld) (d p : Nat) : (s.regainPair x).rf f d p = s.rf f d p := rfl

theorem State.regainPair_ixp (d p : Nat) : (s.regainPair x).ixp d p = s.ixp d p := rfl

theorem State.regainPair_notMem : x ∉ (s.regainPair x).lostPairs := by simp [State.regainPair]

theorem LinkStep.regainPair {s t : State} {rs : List Reg} (h : LinkStep s t rs []) (x : Nat × Nat) : t.regainPair x =
    { s with regs := (t.regainPair x).regs, ix := (t.regainPair x).ix, lostPairs := (t.regainPair x).lostPairs } := by
  rw [h.quiet]
  rfl

end

/-- READY received at the second side ends a retraining: the bundle is active, and its pair is not lost (R448, R451). -/
theorem exec_sidebandReady_active {s : State} {d p e q crc : Nat} (hpeer : s.ixPeer d p = some (e, q)) (hne : e ≠ d)
    (hswap : (s.ixp d p).swap = none) (htrained : (s.ixp d p).trained = true) (hgood : sbGood 3 0 crc = true)
    (hready : (s.ixp e q).ready = true) (hreset : (s.ixp d p).fromReset = false) :
    exec (.sidebandReady d p crc) s = .next ((s.bundleActive d p e q).regainPair (pairOf d e)) := by
  have hready' : ((s.setIxp d p { s.ixp d p with ready := true }).ixp e q).ready = true := by
    rw [State.ixp_setIxp_ne (port_ne hne)]
    exact hready
  change execSidebandReady d p crc s = _
  unfold execSidebandReady
  rw [hpeer]
  refine congrArg Host.Outcome.next ((if_neg (by rw [hgood]; decide)).trans ?_)
  extract_lets x _ _ _ _ _ u one v w
  split
  · next heq => exact absurd (heq.symm.trans hswap) (Option.some_ne_none _)
  rw [if_neg (by rw [htrained]; decide), if_pos (by rw [hready']; rfl), if_neg (by rw [hreset]; exact Bool.false_ne_true)]
  have hone (t : State) (a b : Nat) : one t a b = t.goActive a b := rfl
  have hv : v = s.bundleActive d p e q := by
    unfold v
    rw [hone, hone]
    rfl
  unfold w
  rw [hv]
  rfl

/-- What holds once both sides are active. -/
theorem State.bundleActive_spec {s : State} {d p e q : Nat} (hne : e ≠ d) (hlater : (s.ixp d p).later = []) (hlater' : (s.ixp e q).later = []) :
    (s.bundleActive d p e q).rf F.IXG_STAT_STATE d p = 2 ∧ (s.bundleActive d p e q).rf F.IXG_STAT_STATE e q = 2 ∧
      (s.bundleActive d p e q).rf F.IXG_CTL_EN d p = 1 ∧ ((s.bundleActive d p e q).ixp d p).rxNext = (s.ixp d p).rxNext ∧
      ((s.bundleActive d p e q).ixp d p).replay = (s.ixp d p).replay ∧ ∃ rs, LinkStep s (s.bundleActive d p e q) rs [] := by
  have hport := port_ne (p := p) (q := q) hne
  have hport' := port_ne (p := q) (q := p) hne.symm
  have hstep := (((LinkStep.refl s (activeRegs d p ++ activeRegs e q)).setIxp d p { s.ixp d p with ready := true }).goActive (d := d) (p := p)
    (List.subset_append_left _ _)).goActive (d := e) (p := q) (List.subset_append_right _ _)
  unfold State.bundleActive
  have hself := s.ixp_setIxp_same d p { s.ixp d p with ready := true }
  have hpeer := State.ixp_setIxp_ne hport s { s.ixp d p with ready := true }
  generalize s.setIxp d p { s.ixp d p with ready := true } = u at *
  have hstate : ((u.goActive d p).goActive e q).rf F.IXG_STAT_STATE d p = 2 := by
    rw [State.goActive_rf_ne _ _ _ hport', State.goActive_state]
  have hen : ((u.goActive d p).goActive e q).rf F.IXG_CTL_EN d p = 1 := by rw [State.goActive_rf_ne _ _ _ hport', State.goActive_en]
  have hstate' := (u.goActive d p).goActive_state e q
  have hgoSelf : ((u.goActive d p).goActive e q).ixp d p = (u.ixp d p).activated := by
    rw [State.goActive_ixp_ne _ _ _ hport', State.goActive_ixp]
  have hgoPeer : ((u.goActive d p).goActive e q).ixp e q = (s.ixp e q).activated := by
    rw [State.goActive_ixp, State.goActive_ixp_ne _ _ _ hport, hpeer]
  generalize (u.goActive d p).goActive e q = v at *
  have hfirst := State.countLater_none (s := v) (d := d) (p := p) (by rw [hgoSelf, hself]; exact hlater)
  rw [hfirst, State.countLater_none (by rw [State.ixp_setIxp_ne hport, hgoPeer]; exact hlater')]
  refine ⟨?_, ?_, ?_, ?_, ?_, _, (hstep.setIxp d p _).setIxp e q _⟩
  · rw [State.setIxp_rf, State.setIxp_rf, hstate]
  · rw [State.setIxp_rf, State.setIxp_rf, hstate']
  · rw [State.setIxp_rf, State.setIxp_rf, hen]
  · rw [State.ixp_setIxp_ne hport', State.ixp_setIxp_same, hgoSelf, hself]
    rfl
  · rw [State.ixp_setIxp_ne hport', State.ixp_setIxp_same, hgoSelf, hself]
    rfl

/-! ## Writes of IXG_CTL -/

/-- The word that a write leaves in IXG_CTL, before the clamps (R472). -/
theorem State.rf_plainWrite_ixgCtl (s : State) (d p w : Nat) (fd : FieldDesc) (hfd : fd ∈ (regDesc .IXG_CTL 0).fields) :
    fd.fld.get ((s.plainWrite ⟨.IXG_CTL, d, p, 0⟩ w []).reg ⟨.IXG_CTL, d, p, 0⟩) = writeField fd (s.reg ⟨.IXG_CTL, d, p, 0⟩) w := by
  have hapart : fieldsApart (regDesc .IXG_CTL 0).fields := by
    unfold fieldsApart
    decide
  unfold State.plainWrite
  rw [State.setReg_reg_same, storeFields_nil]
  exact get_foldl_storeField _ _ _ _ hapart fd hfd

/-- A field of IXG_CTL that must not be 0 is 1 at least (R472). -/
def State.atLeastOne (s : State) (f : Fld) (d p : Nat) : State := if s.rf f d p = 0 then s.wf f 1 d p else s

/-- The fields of IXG_CTL stored with their clamps (R472). -/
def State.ixgCtlFields (s : State) (d p w : Nat) : State :=
  ((s.plainWrite ⟨.IXG_CTL, d, p, 0⟩ w []).atLeastOne F.IXG_CTL_REPLAY_LIMIT d p).atLeastOne F.IXG_CTL_LOC_THRESH d p

/-- A write of IXG_CTL stored; one that clears EN takes an active bundle down (R472). -/
def State.ixgCtlStored (s : State) (d p w : Nat) : State :=
  if bit (s.rw .IXG_CTL d p) 0 && !bit w 0 && (s.ixgCtlFields d p w).rf F.IXG_STAT_STATE d p = 2 then
    (s.ixgCtlFields d p w).wf F.IXG_STAT_STATE 0 d p
  else s.ixgCtlFields d p w

theorem State.writeIxgCtl_eq (s : State) (d p w : Nat) : s.writeIxgCtl d p w false =
    if bit w 17 then (s.ixgCtlStored d p w).retire d p else if bit w 16 then (s.ixgCtlStored d p w).retrain d p else s.ixgCtlStored d p w := rfl

theorem State.rf_atLeastOne_apart (s : State) (f g : Fld) (d p : Nat) (hok : f.ok = true) (h : f.apart g = true) :
    (s.atLeastOne f d p).rf g d p = s.rf g d p := by
  unfold State.atLeastOne
  split
  · exact State.rf_wf_apart _ _ _ _ _ _ _ _ _ _ hok h
  · rfl

theorem State.atLeastOne_ixp (s : State) (f : Fld) (d p d' p' : Nat) : (s.atLeastOne f d p).ixp d' p' = s.ixp d' p' := by
  unfold State.atLeastOne
  split
  · rw [State.wf_ixp]
  · rfl

theorem LinkStep.atLeastOne {s u : State} {rs : List Reg} {evs : List FaultEv} (h : LinkStep u s rs evs) (f : Fld) (d p : Nat)
    (hf : (⟨f.reg, d, p, 0⟩ : Reg) ∈ rs) : LinkStep u (s.atLeastOne f d p) rs evs := by
  unfold State.atLeastOne
  split
  · exact h.wf _ _ _ _ hf
  · exact h

section
variable (s : State) (d p w : Nat)

/-- A field of IXG_CTL without a clamp is stored by its access code. -/
theorem State.ixgCtlFields_rf (fd : FieldDesc) (hfd : fd ∈ (regDesc .IXG_CTL 0).fields) (hreg : fd.fld.reg = .IXG_CTL)
    (hlimit : F.IXG_CTL_REPLAY_LIMIT.apart fd.fld = true) (hthresh : F.IXG_CTL_LOC_THRESH.apart fd.fld = true) :
    (s.ixgCtlFields d p w).rf fd.fld d p = writeField fd (s.reg ⟨.IXG_CTL, d, p, 0⟩) w := by
  unfold State.ixgCtlFields
  rw [State.rf_atLeastOne_apart _ _ _ _ _ rfl hthresh, State.rf_atLeastOne_apart _ _ _ _ _ rfl hlimit, ← s.rf_plainWrite_ixgCtl d p w fd hfd]
  unfold State.rf
  rw [hreg]

theorem State.ixgCtlFields_en (h : bit w 0 = true) : (s.ixgCtlFields d p w).rf F.IXG_CTL_EN d p = 1 :=
  (s.ixgCtlFields_rf d p w ⟨F.IXG_CTL_EN, .rw, 1⟩ (by decide) rfl rfl rfl).trans (bits_of_bit h)

theorem State.ixgCtlFields_retrain (h : bit w 16 = true) : (s.ixgCtlFields d p w).rf F.IXG_CTL_RETRAIN d p = 1 := by
  have hold : F.IXG_CTL_RETRAIN.get (s.reg ⟨.IXG_CTL, d, p, 0⟩) < 2 := Fld.get_lt _ _
  refine (s.ixgCtlFields_rf d p w ⟨F.IXG_CTL_RETRAIN, .w1s, 0⟩ (by decide) rfl rfl rfl).trans ?_
  change F.IXG_CTL_RETRAIN.get (s.reg ⟨.IXG_CTL, d, p, 0⟩) ||| bits w 16 16 = 1
  rw [bits_of_bit h]
  interval_cases F.IXG_CTL_RETRAIN.get (s.reg ⟨.IXG_CTL, d, p, 0⟩) <;> rfl

theorem State.ixgCtlFields_ixp (d' p' : Nat) : (s.ixgCtlFields d p w).ixp d' p' = s.ixp d' p' := by
  unfold State.ixgCtlFields
  rw [State.atLeastOne_ixp, State.atLeastOne_ixp]
  unfold State.plainWrite
  rw [State.setReg_ixp]

theorem LinkStep.setReg {s t : State} {rs : List Reg} {evs : List FaultEv} (h : LinkStep s t rs evs) (r : Reg) (x : Word) (hr : r ∈ rs) :
    LinkStep s (t.setReg r x) rs evs := by
  obtain ⟨hframe, hkept⟩ := h
  refine ⟨by rw [hframe]; rfl, fun k hk => ?_⟩
  rw [State.setReg_reg_ne _ _ _ _ (by rintro rfl; exact hk hr)]
  exact hkept k hk

theorem State.ixgCtlFields_step {rs : List Reg} (hmem : (⟨.IXG_CTL, d, p, 0⟩ : Reg) ∈ rs) : LinkStep s (s.ixgCtlFields d p w) rs [] :=
  (((LinkStep.refl s rs).setReg _ _ hmem).atLeastOne F.IXG_CTL_REPLAY_LIMIT d p hmem).atLeastOne F.IXG_CTL_LOC_THRESH d p hmem

/-- A write that leaves EN set changes no more than the fields of IXG_CTL. -/
theorem State.ixgCtlStored_enabled (h : bit w 0 = true) : s.ixgCtlStored d p w = s.ixgCtlFields d p w := by
  unfold State.ixgCtlStored
  rw [if_neg (by simp [h])]

theorem State.ixgCtlStored_ixp (d' p' : Nat) : (s.ixgCtlStored d p w).ixp d' p' = s.ixp d' p' := by
  unfold State.ixgCtlStored
  split
  · rw [State.wf_ixp, State.ixgCtlFields_ixp]
  · exact s.ixgCtlFields_ixp ..

theorem State.ixgCtlStored_step {rs : List Reg} (hctl : (⟨.IXG_CTL, d, p, 0⟩ : Reg) ∈ rs) (hstat : (⟨.IXG_STAT, d, p, 0⟩ : Reg) ∈ rs) :
    LinkStep s (s.ixgCtlStored d p w) rs [] := by
  unfold State.ixgCtlStored
  split
  · exact (s.ixgCtlFields_step d p w hctl).wf F.IXG_STAT_STATE _ _ _ hstat
  · exact s.ixgCtlFields_step d p w hctl

theorem State.ixgCtlFields_state : (s.ixgCtlFields d p w).rf F.IXG_STAT_STATE d p = s.rf F.IXG_STAT_STATE d p :=
  (s.ixgCtlFields_step d p w (.head _)).2.rf F.IXG_STAT_STATE d p 0 (rs := [⟨.IXG_CTL, d, p, 0⟩]) (by simp [F.IXG_STAT_STATE])

/-- A write of IXG_CTL does not bring a bundle to the retired state by itself. -/
theorem State.ixgCtlStored_notRetired (h : s.rf F.IXG_STAT_STATE d p ≠ 4) : (s.ixgCtlStored d p w).rf F.IXG_STAT_STATE d p ≠ 4 := by
  unfold State.ixgCtlStored
  split
  · rw [State.rf_wf_same _ _ _ _ _ _ rfl]
    decide
  · rw [State.ixgCtlFields_state]
    exact h

end

/-! ## Retirement -/

/-- A retired port: partly received transactions are discarded (R456). -/
def IxPort.retired (x : IxPort) : IxPort := { x with rxPart := [], swap := none, retrainAfter := false, err := none }

/-- One side of a bundle retires (R456). -/
def State.retireSide (s : State) (d p : Nat) : State :=
  let t := ((s.wf F.IXG_CTL_EN 0 d p).wf F.IXG_CTL_RETRAIN 0 d p).wf F.IXG_STAT_STATE 4 d p
  t.setIxp d p (t.ixp d p).retired

section
variable (s : State) (d p : Nat)

theorem State.retireSide_replay : ((s.retireSide d p).ixp d p).replay = (s.ixp d p).replay := by
  unfold State.retireSide
  rw [State.ixp_setIxp_same, State.wf_ixp, State.wf_ixp, State.wf_ixp]
  rfl

theorem State.retireSide_ixp_ne {d' p' : Nat} (h : (d', p') ≠ (d, p)) : (s.retireSide d p).ixp d' p' = s.ixp d' p' := by
  unfold State.retireSide
  rw [State.ixp_setIxp_ne h, State.wf_ixp, State.wf_ixp, State.wf_ixp]

theorem State.retireSide_state : (s.retireSide d p).rf F.IXG_STAT_STATE d p = 4 := by
  unfold State.retireSide
  rw [State.setIxp_rf]
  exact State.rf_wf_same _ _ _ _ _ _ rfl

theorem State.retireSide_en : (s.retireSide d p).rf F.IXG_CTL_EN d p = 0 := by
  unfold State.retireSide
  rw [State.setIxp_rf, State.rf_wf_apart _ _ _ _ _ _ _ _ _ _ rfl rfl, State.rf_wf_apart _ _ _ _ _ _ _ _ _ _ rfl rfl]
  exact State.rf_wf_same _ _ _ _ _ _ rfl

theorem State.retireSide_rf_ne {d' p' : Nat} (h : (d', p') ≠ (d, p)) (g : Fld) : (s.retireSide d p).rf g d' p' = s.rf g d' p' := by
  unfold State.retireSide
  rw [State.setIxp_rf, State.rf_wf_port h, State.rf_wf_port h, State.rf_wf_port h]

variable {s d p} in
theorem LinkStep.retireSide {u : State} {rs : List Reg} {evs : List FaultEv} (h : LinkStep u s rs evs)
    (hctl : (⟨.IXG_CTL, d, p, 0⟩ : Reg) ∈ rs) (hstat : (⟨.IXG_STAT, d, p, 0⟩ : Reg) ∈ rs) : LinkStep u (s.retireSide d p) rs evs :=
  (((h.wf F.IXG_CTL_EN _ _ _ hctl).wf F.IXG_CTL_RETRAIN _ _ _ hctl).wf F.IXG_STAT_STATE _ _ _ hstat).setIxp _ _ _

end

/-- The registers of a bundle that its retirement writes. -/
def retireRegs (d p e q : Nat) : List Reg := [⟨.IXG_CTL, d, p, 0⟩, ⟨.IXG_CTL, e, q, 0⟩, ⟨.IXG_STAT, d, p, 0⟩, ⟨.IXG_STAT, e, q, 0⟩]

/-- Both sides of a bundle retired, and the event raised (R456). -/
def State.retireBoth (s : State) (d p e q : Nat) : State :=
  ((s.retireSide d p).retireSide e q).raise .ixgalBundleRetired d p (((s.retireSide d p).retireSide e q).rw .IXG_LOC_LAST d p)

/-- A retirement with a surviving bundle loses no pair (R456, R458). -/
theorem State.retire_survived {s : State} {d p e q : Nat} (hpeer : s.ixPeer d p = some (e, q)) (hstate : s.rf F.IXG_STAT_STATE d p ≠ 4)
    (hsurvivors : (s.retireBoth d p e q).survivors d p ≠ []) : s.retire d p = s.retireBoth d p e q := by
  unfold State.retire
  rw [hpeer]
  extract_lets one
  have hone (t : State) (a b : Nat) : one t a b = t.retireSide a b := rfl
  clear_value one
  dsimp only
  rw [if_neg hstate, hone, hone]
  exact if_neg hsurvivors

/-- The survivors of a bundle depend on the other ports of its die alone. -/
theorem State.survivors_congr {s t : State} {d p : Nat} (hpart : t.part = s.part)
    (hreg : ∀ r, r ≠ p → t.rf F.IXG_STAT_STATE d r = s.rf F.IXG_STAT_STATE d r ∧ t.rf F.IXG_CTL_EN d r = s.rf F.IXG_CTL_EN d r) :
    t.survivors d p = s.survivors d p := by
  have hpairs (e : Nat) : t.pairPorts d e = s.pairPorts d e := by
    unfold State.pairPorts
    simp only [State.ixPeer_congr hpart]
  unfold State.survivors
  rw [State.ixPeer_congr hpart]
  cases s.ixPeer d p with
  | none => rfl
  | some x =>
    dsimp only
    rw [hpairs]
    refine List.filter_congr fun r _ => ?_
    by_cases hr : r = p
    · simp [hr]
    · obtain ⟨hstate, hen⟩ := hreg r hr
      unfold State.rb
      rw [hstate, hen]

theorem LinkStep.survivors {s t : State} {d p e q : Nat} {evs : List FaultEv} (h : LinkStep s t (retireRegs d p e q) evs) (hne : e ≠ d) :
    t.survivors d p = s.survivors d p := by
  refine State.survivors_congr (h.2.rf F.DEV_ROLE_PART_CODE 0 0 0 (by simp [retireRegs, F.DEV_ROLE_PART_CODE])) fun r hr => ⟨?_, ?_⟩
  · exact h.2.rf _ _ _ _ (by simp [retireRegs, F.IXG_STAT_STATE, hr, hne.symm])
  · exact h.2.rf _ _ _ _ (by simp [retireRegs, F.IXG_CTL_EN, hr, hne.symm])

theorem LinkStep.retireBoth {s u : State} {d p e q : Nat} {evs : List FaultEv} (h : LinkStep u s (retireRegs d p e q) evs) :
    LinkStep u (s.retireBoth d p e q) (retireRegs d p e q) (evs ++ [faultEv .ixgalBundleRetired d p (u.rw .IXG_LOC_LAST d p)]) := by
  have hsides := (h.retireSide (d := d) (p := p) (.head _) (.tail _ (.tail _ (.head _)))).retireSide (d := e) (p := q) (.tail _ (.head _))
    (.tail _ (.tail _ (.tail _ (.head _))))
  have hloc : ((s.retireSide d p).retireSide e q).rw .IXG_LOC_LAST d p = u.rw .IXG_LOC_LAST d p :=
    congrArg BitVec.toNat (hsides.2 _ (by simp [retireRegs]))
  unfold State.retireBoth
  rw [hloc]
  exact hsides.raise _ _ _ _

/-- A write of RETIRE retires the bundle at once (R463). -/
theorem exec_ixgRetireWrite_retires {s : State} {d p e q : Nat} {w : TWord} (hpeer : s.ixPeer d p = some (e, q)) (hne : e ≠ d)
    (htag : w.tag.toNat < 2) (hretire : bit w.data.toNat 17 = true) (hsurvivors : s.survivors d p ≠ [])
    (hstate : s.rf F.IXG_STAT_STATE d p ≠ 4) :
    exec (.ixgRetireWrite d p w false) s = .next ((s.ixgCtlStored d p w.data.toNat).retireBoth d p e q) ∧
      LinkStep s ((s.ixgCtlStored d p w.data.toNat).retireBoth d p e q) (retireRegs d p e q)
        [faultEv .ixgalBundleRetired d p (s.rw .IXG_LOC_LAST d p)] := by
  have hstored : LinkStep s (s.ixgCtlStored d p w.data.toNat) (retireRegs d p e q) [] :=
    s.ixgCtlStored_step d p w.data.toNat (.head _) (.tail _ (.tail _ (.head _)))
  have hstep := hstored.retireBoth
  refine ⟨?_, hstep⟩
  change execIxgRetireWrite d p w false s = _
  unfold execIxgRetireWrite
  rw [if_pos htag, State.writeIxgCtl_eq, if_pos hretire,
    State.retire_survived ((hstored.ixPeer (by simp [retireRegs]) d p).trans hpeer) (s.ixgCtlStored_notRetired d p _ hstate)
      (by rw [hstep.survivors hne]; exact hsurvivors)]

/-! ## RETIRE received -/

/-- Port `r` gives up its flits: those held and those folded onto it. -/
def IxPort.emptied (x : IxPort) : IxPort := { x with replay := [], folded := [], redo := 0 }

/-- The transactions of port `r`, retired, folded onto port `p` (R457). -/
def State.foldOnto (s : State) (d p r : Nat) : State :=
  ((((s.setIxp d r (s.ixp d r).emptied).setIxp d p
    { (s.setIxp d r (s.ixp d r).emptied).ixp d p with
      folded := ((s.setIxp d r (s.ixp d r).emptied).ixp d p).folded ++ (s.ixp d r).folded ++ (s.ixp d r).replay }).wf
    F.IXG_STAT_HELD 0 d r).wf F.IXG_STAT_STATE 4 d r).wf F.IXG_CTL_RETIRE 0 d r

theorem exec_sidebandRetire_folds {s : State} {d p e q k r seq crc : Nat} (hpeer : s.ixPeer d p = some (e, q))
    (hfind : ((s.pairPorts d e).find? fun x => bundleIndex d x == k) = some r) (hgood : sbGood 6 (seq + 512 * k) crc = true) :
    exec (.sidebandRetire d p seq false k crc) s = .next (s.foldOnto d p r) := by
  have hbody : seq + 256 * b2n false + 512 * k = seq + 512 * k := by simp [b2n]
  change execSidebandRetire d p seq false k crc s = _
  unfold execSidebandRetire
  rw [hpeer]
  dsimp only
  rw [hbody, hgood, Bool.not_true, if_neg Bool.false_ne_true, hfind]
  rfl

theorem State.foldOnto_spec (s : State) {d p r : Nat} (hr : r ≠ p) :
    ((s.foldOnto d p r).ixp d r).replay = [] ∧ (s.foldOnto d p r).rf F.IXG_STAT_STATE d r = 4 ∧
      ((s.foldOnto d p r).ixp d p).folded = (s.ixp d p).folded ++ (s.ixp d r).folded ++ (s.ixp d r).replay ∧
      LinkStep s (s.foldOnto d p r) [⟨.IXG_STAT, d, r, 0⟩, ⟨.IXG_CTL, d, r, 0⟩] [] := by
  have hport : (d, r) ≠ (d, p) := fun heq => hr (congrArg Prod.snd heq)
  unfold State.foldOnto
  refine ⟨?_, ?_, ?_, ?_⟩
  · rw [State.wf_ixp, State.wf_ixp, State.wf_ixp, State.ixp_setIxp_ne hport, State.ixp_setIxp_same]
    rfl
  · rw [State.rf_wf_apart _ _ _ _ _ _ _ _ _ _ rfl rfl]
    exact State.rf_wf_same _ _ _ _ _ _ rfl
  · rw [State.wf_ixp, State.wf_ixp, State.wf_ixp, State.ixp_setIxp_same, State.ixp_setIxp_ne hport.symm]
  · exact (((((LinkStep.refl s _).setIxp _ _ _).setIxp _ _ _).wf F.IXG_STAT_HELD _ _ _ (.head _)).wf F.IXG_STAT_STATE _ _ _ (.head _)).wf
      F.IXG_CTL_RETIRE _ _ _ (.tail _ (.head _))

/-- A write of RETRAIN that leaves EN set starts a retraining (R451, R463). -/
theorem exec_ixgRetrainWrite_retrains {s : State} {d p : Nat} {w : TWord} (htag : w.tag.toNat < 2) (hretire : bit w.data.toNat 17 = false)
    (hretrain : bit w.data.toNat 16 = true) (hen : bit w.data.toNat 0 = true) :
    exec (.ixgRetrainWrite d p w false) s = .next ((s.ixgCtlFields d p w.data.toNat).retrain d p) := by
  change execIxgRetrainWrite d p w false s = _
  unfold execIxgRetrainWrite
  rw [if_pos htag, State.writeIxgCtl_eq, hretire, if_neg Bool.false_ne_true, if_pos hretrain, State.ixgCtlStored_enabled _ _ _ _ hen]

/-! ## The statement -/

/-- Settles O30, clause by clause: the third capability word, training, READY, MAP, SWAP, RETRAIN received, RETIRE received, the
training that is tried again, and the writes of RETRAIN and RETIRE. -/
theorem bundlesTrainSwapAndRetire : Obligations.BundlesTrainSwapAndRetire := by
  unfold Obligations.BundlesTrainSwapAndRetire
  refine ⟨?_, ?_, ?_, ?_, ?_, ?_, ?_, ?_, ?_, ?_⟩
  · intro s d p e q w crc hpeer hstate hlast hcount hreset hagree hgood
    have hstep := s.settleRate_step d p w
    refine ⟨_, exec_sidebandCap_third hpeer hstate hlast hcount hreset hagree hgood, ?_, s.settleRate_capPeer d p w, s.settleRate_rate d p w,
      s.settleRate_state d p w, hstep.quiet, hstep.2⟩
    rw [State.settleRate_ixp]
    rfl
  · intro s d p e q ma mb r hpeer hne hstate htrained hswap hcap hcap' hma hmb hclkA hclkB
    obtain ⟨hkept, hnot⟩ := State.trainSide_keeps (s := s.trainSide d p ma r.badA r.clkA) (p := p) (q := q) hne mb r.badB r.clkB
    have hstep := ((LinkStep.refl s (trainRegs d p ++ trainRegs e q)).trainSide d p ma r.badA r.clkA (List.subset_append_left _ _)).trainSide
      e q mb r.badB r.clkB (List.subset_append_right _ _)
    refine ⟨_, exec_bundleTraining_trained hpeer hstate htrained hswap hcap hcap' hma hmb hclkA hclkB, ?_, State.trainSide_trained .., ?_,
      State.trainSide_laneMap .., ?_, hstep.quiet⟩
    · rw [State.trainSide_ixp_ne _ _ _ _ _ _ (port_ne hne.symm), State.trainSide_trained]
    · exact (congrArg BitVec.toNat (hkept _ (hnot .IXG_LANE_MAP))).trans (State.trainSide_laneMap ..)
    · exact (hkept.rf F.IXG_STAT_SPARES_LEFT d p 0 (hnot .IXG_STAT)).trans (State.trainSide_sparesLeft ..)
  · intro s d p e q crc hpeer hne hswap htrained hgood hready hreset hlater hlater'
    obtain ⟨hstate, hstate', hen, hrx, hreplay, rs, hstep⟩ := State.bundleActive_spec (q := q) hne hlater hlater'
    refine ⟨_, exec_sidebandReady_active hpeer hne hswap htrained hgood hready hreset, ?_⟩
    rw [State.regainPair_rf, State.regainPair_rf, State.regainPair_rf, State.regainPair_ixp]
    exact ⟨hstate, hstate', hen, hrx, hreplay, State.regainPair_notMem _ _, hstep.regainPair _⟩
  · intro s d p e q body crc hpeer hne hswap hgood
    have hswap' : ((s.setIxp d p { s.ixp d p with txMap := bits body 36 0 }).ixp e q).swap = none := by
      rw [State.ixp_setIxp_ne (port_ne hne), hswap]
    change execSidebandMap d p body crc s = _
    unfold execSidebandMap
    rw [hpeer]
    dsimp only
    rw [hgood, Bool.not_true, if_neg Bool.false_ne_true, hswap']
  · intro s d p e q wire spare crc hpeer hgood
    have hstep := ((LinkStep.refl s [⟨.IXG_STAT, e, q, 0⟩]).setIxp e q { s.ixp e q with swap := some (wire, spare) }).wf
      F.IXG_STAT_STATE 3 e q (.head _)
    refine ⟨_, ?_, ?_, State.rf_wf_same _ F.IXG_STAT_STATE 3 e q 0 rfl, hstep.quiet, hstep.2⟩
    · change execSidebandSwap d p wire spare crc s = _
      unfold execSidebandSwap
      rw [hpeer]
      dsimp only
      rw [hgood, Bool.not_true, if_neg Bool.false_ne_true]
    · rw [State.wf_ixp, State.ixp_setIxp_same]
  · intro s d p e q crc hpeer hne hswap hswap' hstate hgood
    obtain ⟨hself, hpeerState, -, hstep⟩ := State.retrain_starts hpeer hne hswap hswap'
      (.refl s [⟨.IXG_STAT, d, p, 0⟩, ⟨.IXG_STAT, e, q, 0⟩]) (.head _) (.tail _ (.head _))
    have hflow := s.retrain_flowKept d p d p
    have hreset : s.trainsFromReset d p = false := by
      unfold State.trainsFromReset
      rw [hstate]
      rfl
    rw [hreset] at hself hpeerState
    refine ⟨s.retrain d p, ?_, hself, hpeerState, hflow.rxNext, hflow.replay, hflow.cred, hstep.quiet, hstep.2⟩
    change execSidebandRetrain d p crc s = _
    unfold execSidebandRetrain
    rw [hpeer, hgood]
    rfl
  · intro s d p e q k r seq crc hpeer hfind hr hgood
    obtain ⟨hreplay, hstate, hfolded, hstep⟩ := s.foldOnto_spec (d := d) hr
    exact ⟨_, exec_sidebandRetire_folds hpeer hfind hgood, hreplay, hstate, hfolded, hstep.quiet, hstep.2⟩
  · intro s d p e q hpeer hne hswap hswap' hstate hen
    obtain ⟨hself, hpeerState, hfrom, hstep⟩ := State.retrain_starts hpeer hne hswap hswap'
      (.refl s [⟨.IXG_STAT, d, p, 0⟩, ⟨.IXG_STAT, e, q, 0⟩]) (.head _) (.tail _ (.head _))
    have hreset : s.trainsFromReset d p = true := by
      unfold State.trainsFromReset
      rw [hstate]
      rfl
    rw [hreset] at hself hpeerState hfrom
    refine ⟨s.retrain d p, ?_, hself, hpeerState, hfrom, hstep.quiet, hstep.2⟩
    change execTrainingRetry d p s = _
    unfold execTrainingRetry
    rw [hpeer, hstate, State.rb_of_rf_one hen]
    rfl
  · intro s d p e q w hpeer hne hswap hswap' htag hretire hretrain hen hstate
    have hfields := s.ixgCtlFields_step d p w.data.toNat
      (rs := [⟨.IXG_CTL, d, p, 0⟩, ⟨.IXG_STAT, d, p, 0⟩, ⟨.IXG_STAT, e, q, 0⟩]) (.head _)
    obtain ⟨hself, hpeerState, -, hstep⟩ := State.retrain_starts ((hfields.ixPeer (by simp) d p).trans hpeer) hne
      (by rw [State.ixgCtlFields_ixp, hswap]) (by rw [State.ixgCtlFields_ixp, hswap']) hfields (.tail _ (.head _)) (.tail _ (.tail _ (.head _)))
    have hreset : (s.ixgCtlFields d p w.data.toNat).trainsFromReset d p = false := by
      unfold State.trainsFromReset
      rw [State.ixgCtlFields_state, hstate]
      rfl
    rw [hreset] at hself hpeerState
    refine ⟨_, exec_ixgRetrainWrite_retrains htag hretire hretrain hen, hself, hpeerState, ?_, ?_, hstep.quiet, hstep.2⟩
    · rw [State.retrain_rf_apart _ _ _ _ rfl, State.ixgCtlFields_retrain _ _ _ _ hretrain]
    · rw [State.retrain_rf_apart _ _ _ _ rfl, State.ixgCtlFields_en _ _ _ _ hen]
  · intro s d p e q w hpeer hne htag hretire hsurvivors hstate
    obtain ⟨hexec, hstep⟩ := exec_ixgRetireWrite_retires hpeer hne htag hretire hsurvivors hstate
    have hport := port_ne (p := q) (q := p) hne.symm
    refine ⟨_, hexec, ?_, ?_, ?_, ?_, ?_, hstep.faultLine, hstep.frame, hstep.2⟩
    all_goals unfold State.retireBoth
    · rw [State.raise_rf, State.retireSide_rf_ne _ _ _ hport, State.retireSide_state]
    · rw [State.raise_rf, State.retireSide_state]
    · rw [State.raise_rf, State.retireSide_rf_ne _ _ _ hport, State.retireSide_en]
    · rw [State.raise_rf, State.retireSide_en]
    · rw [State.raise_ixp, State.retireSide_ixp_ne _ _ _ hport, State.retireSide_replay, State.ixgCtlStored_ixp]

end Sys2Proof.Machine
end

section
/-!
SUPPORT. Transactions and responses of the transport: proofs of the statements O21 and O22. What an event of the transport leaves
in its registers comes first, then the way of a transaction that its source's own element handles.
-/
namespace Sys2Proof.Machine

/-! ## Events that are recorded and counted -/

/-- What TRN_ERR_LAST records of a transaction (R521, Table 9-12). -/
def trnErrWord (x : Txn) (c : TrnCause) : Nat :=
  2 ^ 47 + c.ctorIdx * 2 ^ 44 + b2n (!isReq x) * 2 ^ 43 + x.srcDie % 8 * 2 ^ 40 + x.master % 512 * 2 ^ 31 + vcNum x.vc * 2 ^ 29
    + x.rtag % 64 * 2 ^ 23

theorem trnErrWord_fields (x : Txn) (c : TrnCause) :
    bits (trnErrWord x c % 2 ^ 48) 47 47 = 1 ∧ bits (trnErrWord x c % 2 ^ 48) 46 44 = c.ctorIdx := by
  have hcause : c.ctorIdx < 8 := by cases c <;> decide
  have hwrite : b2n (!isReq x) < 2 := by cases isReq x <;> decide
  have hvc : vcNum x.vc < 4 := by cases x.vc <;> decide
  simp only [bits, trnErrWord]
  omega

/-- An event of the transport recorded on die `h` while VALID is 0, and counted there in the field `f` (R521). -/
def State.trnCount (s : State) (h : Nat) (x : Txn) (c : TrnCause) (f : Fld) : State := (s.trnRecord h x c).incE f h

section
variable (s : State) (h : Nat) (x : Txn) (c : TrnCause) (f : Fld)

theorem State.trnRecord_only : OnlyRegs s (s.trnRecord h x c) [⟨.TRN_ERR_LAST, h, 0, 0⟩, ⟨.TRN_ERR_ADDR, h, 0, 0⟩] := by
  unfold State.trnRecord
  split
  · exact .refl s _
  · exact ((OnlyRegs.refl s _).ww _ _ _ _ _ (.head _)).ww _ _ _ _ _ (.tail _ (.head _))

/-- The first event is recorded with its cause and its address (Table 9-12). -/
theorem State.trnRecord_first (hv : s.rf F.TRN_ERR_LAST_VALID h = 0) (haddr : x.addr < 2 ^ 48) :
    (s.trnRecord h x c).rf F.TRN_ERR_LAST_VALID h = 1 ∧ (s.trnRecord h x c).rf F.TRN_ERR_LAST_CAUSE h = c.ctorIdx ∧
      (s.trnRecord h x c).rw .TRN_ERR_ADDR h = x.addr := by
  have hrec : s.trnRecord h x c = (s.ww .TRN_ERR_LAST (trnErrWord x c) h).ww .TRN_ERR_ADDR x.addr h :=
    if_neg (by rw [State.rb_of_rf_zero hv]; decide)
  have hfld : ∀ g : Fld, g.reg = .TRN_ERR_LAST → (s.trnRecord h x c).rf g h = bits (trnErrWord x c % 2 ^ 48) g.hi g.lo := by
    intro g hg
    rw [hrec, State.rf_ww_name _ _ _ _ _ _ _ _ _ _ (by rw [hg]; decide), ← hg]
    exact s.rf_ww_same g _ h 0 0
  obtain ⟨hvalid, hcause⟩ := trnErrWord_fields x c
  refine ⟨(hfld _ rfl).trans hvalid, (hfld _ rfl).trans hcause, ?_⟩
  rw [hrec, State.rw_ww_same, Nat.mod_eq_of_lt haddr]

theorem State.trnCount_frame : ∃ m, s.trnCount h x c f = { s with regs := m } := by
  obtain ⟨hrec, -⟩ := s.trnRecord_only h x c
  obtain ⟨m, hm⟩ := (s.trnRecord h x c).incE_frame f h 0 0 1
  refine ⟨m, ?_⟩
  unfold State.trnCount
  rw [hm, hrec]

/-- A counter that is not at its end counts the event. -/
theorem State.trnCount_counts (hok : f.ok = true) (hlast : f.reg ≠ .TRN_ERR_LAST) (haddr : f.reg ≠ .TRN_ERR_ADDR)
    (hlt : s.rf f h + 1 < 2 ^ f.width) : (s.trnCount h x c f).rf f h = s.rf f h + 1 := by
  have hsame : (s.trnRecord h x c).rf f h = s.rf f h := (s.trnRecord_only h x c).2.rf f h 0 0 (by simp [hlast, haddr])
  rw [← hsame] at hlt ⊢
  exact State.rf_incE_same _ f h 0 0 1 hok hlt

/-- Counting an event leaves its record as it is. -/
theorem State.trnCount_first (hlast : f.reg ≠ .TRN_ERR_LAST) (haddr : f.reg ≠ .TRN_ERR_ADDR)
    (hv : s.rf F.TRN_ERR_LAST_VALID h = 0) (hx : x.addr < 2 ^ 48) :
    (s.trnCount h x c f).rf F.TRN_ERR_LAST_VALID h = 1 ∧ (s.trnCount h x c f).rf F.TRN_ERR_LAST_CAUSE h = c.ctorIdx ∧
      (s.trnCount h x c f).rw .TRN_ERR_ADDR h = x.addr := by
  have hreg : (s.trnCount h x c f).reg ⟨.TRN_ERR_ADDR, h, 0, 0⟩ = (s.trnRecord h x c).reg ⟨.TRN_ERR_ADDR, h, 0, 0⟩ :=
    State.reg_incE_ne _ _ _ _ _ _ _ fun e => haddr (congrArg Reg.name e).symm
  have hword : (s.trnCount h x c f).rw .TRN_ERR_ADDR h = (s.trnRecord h x c).rw .TRN_ERR_ADDR h := congrArg BitVec.toNat hreg
  rw [hword]
  unfold State.trnCount
  rw [State.rf_incE_name _ _ _ _ _ _ _ _ _ _ hlast, State.rf_incE_name _ _ _ _ _ _ _ _ _ _ hlast]
  exact s.trnRecord_first h x c hv hx

/-- A request that cannot be performed is recorded, counted in TRN_UNMAPPED_CNT, raised and answered without data (R500, R515). -/
theorem State.reject_request (status : Nat) (hreq : isReq x = true) :
    s.reject h x status c =
      ((s.trnCount h x c F.TRN_UNMAPPED_CNT_COUNT).trnRaise h x .transportUnmapped).respond x status (noWords x.len) := if_pos hreq

/-- A write that cannot be performed is recorded, counted in TRN_DROP_CNT and raised; its credits go back (R492, R501, R515). -/
theorem State.reject_write (status : Nat) (hwrite : isReq x = false) :
    s.reject h x status c =
      ((s.trnCount h x c F.TRN_DROP_CNT_COUNT).trnRaise h x .transportWriteDropped).creditBack x x.words.length :=
  if_neg (by rw [hwrite]; decide)

end

/-! ## Transactions across a 64-word boundary: O21 -/

section
variable {s : State} {x : Txn}

theorem isReq_read (hop : x.op = .read) : isReq x = true := by unfold isReq; rw [hop]

theorem isReq_write (hop : x.op = .write) : isReq x = false := by unfold isReq; rw [hop]

/-- The address and the words of a formed transaction (Table 8-8, Table 8-9). -/
theorem State.txnOk_fields (hok : s.txnOk x = true) : x.addr < 2 ^ 48 ∧ x.words.length = dataWords x.op x.len := by
  simp only [State.txnOk, Bool.and_eq_true, decide_eq_true_eq, beq_iff_eq] at hok
  obtain ⟨⟨⟨⟨⟨⟨-, hwords⟩, -⟩, -⟩, -⟩, haddr⟩, -⟩ := hok
  exact ⟨haddr, hwords⟩

/-- A write that nothing delays arrives, and leaves the transport if it was in it. -/
theorem State.arrive_write_idle (hnet : s.net.pkts = []) (hop : x.op = .write) :
    ∃ l, s.arrive x = some { s with inFlight := l } := by
  by_cases hx : x ∈ s.inFlight
  · exact ⟨_, s.arrive_idle x hnet hx⟩
  · refine ⟨s.inFlight, ?_⟩
    unfold State.arrive
    rw [if_neg (by simpa using hx), isReq_write hop]
    rfl

/-- A transaction that crosses a 64-word boundary goes no further than its source (R483, R502). -/
theorem State.txnMove_boundary (hpor : s.rst.por = false) (hrst : s.rst.inReset = false) (hnet : s.net.pkts = [])
    (hok : s.txnOk x = true) (hcross : 64 < x.addr % 64 + x.len) (hdie : x.srcDie < 5) :
    s.txnMove x = s.take x fun s => s.reject x.srcDie x 2 .boundary := by
  have hhome : homeDie x = x.srcDie := if_neg (by omega)
  unfold State.txnMove
  rw [s.netUntil_idle _ _ hnet]
  dsimp only
  rw [hpor, hrst, hok, if_neg (by decide), if_pos hcross, hhome]

theorem State.take_arrived {u : State} (harrive : s.arrive x = some u) (g : State → State) : s.take x g = g u := by
  unfold State.take
  rw [harrive]

/-- A read refused at its source: what it is answered, and what is recorded, counted and raised. -/
theorem State.refusedRead_spec (l : List Txn) (hop : x.op = .read) (haddr : x.addr < 2 ^ 48) :
    ∃ t : State, ({ s with inFlight := l } : State).reject x.srcDie x 2 .boundary = t ∧
      Responded s t ⟨false, x.srcDie, x.master, x.rtag, 2, List.replicate x.len noWord⟩ ∧ t.inFlight = l ∧ t.mem = s.mem ∧
      (s.rf F.TRN_UNMAPPED_CNT_COUNT x.srcDie < 65535 →
        t.rf F.TRN_UNMAPPED_CNT_COUNT x.srcDie = s.rf F.TRN_UNMAPPED_CNT_COUNT x.srcDie + 1) ∧
      (s.rf F.TRN_ERR_LAST_VALID x.srcDie = 0 → t.rf F.TRN_ERR_LAST_VALID x.srcDie = 1 ∧ t.rf F.TRN_ERR_LAST_CAUSE x.srcDie = 3 ∧
        t.rw .TRN_ERR_ADDR x.srcDie = x.addr) ∧
      ∃ e, t.faultLine = s.faultLine ++ [e] ∧ e.src = .transportUnmapped ∧ e.die = x.srcDie ∧ e.req = some (x.srcDie, x.master) := by
  let u : State := { s with inFlight := l }
  have hcounts := u.trnCount_counts x.srcDie x .boundary F.TRN_UNMAPPED_CNT_COUNT rfl (by decide) (by decide)
  have hfirst := u.trnCount_first x.srcDie x .boundary F.TRN_UNMAPPED_CNT_COUNT (by decide) (by decide)
  have hatomic : (x.op == .add || x.op == .swap) = false := by rw [hop]; rfl
  obtain ⟨m, hm⟩ := u.trnCount_frame x.srcDie x .boundary F.TRN_UNMAPPED_CNT_COUNT
  rw [hm] at hcounts hfirst
  refine ⟨_, u.reject_request _ _ _ 2 (isReq_read hop), ?_⟩
  unfold State.respond
  rw [hm, hatomic]
  refine ⟨⟨rfl, rfl⟩, rfl, rfl, fun hlt => hcounts ?_, fun hv => hfirst hv haddr, _, rfl, rfl, rfl, rfl⟩
  change s.rf F.TRN_UNMAPPED_CNT_COUNT x.srcDie + 1 < 2 ^ 32
  omega

/-- A write refused at its source: it is dropped, counted and raised, and its credits go back. -/
theorem State.refusedWrite_spec (l : List Txn) (hop : x.op = .write) (hwords : x.words.length = x.len) :
    ∃ t : State, ({ s with inFlight := l } : State).reject x.srcDie x 2 .boundary = t ∧ t.mem = s.mem ∧ t.resps = s.resps ∧
      (s.rf F.TRN_DROP_CNT_COUNT x.srcDie < 65535 → t.rf F.TRN_DROP_CNT_COUNT x.srcDie = s.rf F.TRN_DROP_CNT_COUNT x.srcDie + 1) ∧
      (x.vc = .streams → t.credits = s.credits ++ [(x, x.len)]) ∧
      ∃ e, t.faultLine = s.faultLine ++ [e] ∧ e.src = .transportWriteDropped ∧ e.die = x.srcDie := by
  let u : State := { s with inFlight := l }
  have hcounts := u.trnCount_counts x.srcDie x .boundary F.TRN_DROP_CNT_COUNT rfl (by decide) (by decide)
  have hlt : s.rf F.TRN_DROP_CNT_COUNT x.srcDie < 65535 → u.rf F.TRN_DROP_CNT_COUNT x.srcDie + 1 < 2 ^ 32 := fun h => by
    change s.rf F.TRN_DROP_CNT_COUNT x.srcDie + 1 < 2 ^ 32
    omega
  obtain ⟨m, hm⟩ := u.trnCount_frame x.srcDie x .boundary F.TRN_DROP_CNT_COUNT
  rw [hm] at hcounts
  refine ⟨_, u.reject_write _ _ _ 2 (isReq_write hop), ?_⟩
  unfold State.creditBack
  rw [hm, hwords]
  split
  · exact ⟨rfl, rfl, fun h => hcounts (hlt h), fun _ => rfl, _, rfl, rfl, rfl⟩
  · next hvc => exact ⟨rfl, rfl, fun h => hcounts (hlt h), fun h => absurd h hvc, _, rfl, rfl, rfl⟩

end

/-- Settles O21: both commands end at the source's own element, which answers the read and drops the write. -/
theorem unperformedTransactionsGetTheirOutcome : Obligations.UnperformedTransactionsGetTheirOutcome := by
  unfold Obligations.UnperformedTransactionsGetTheirOutcome
  refine ⟨fun s x hpor hrst hnet hok hop hx hcross hdie => ?_, fun s x hpor hrst hnet hok hop hcross hdie => ?_⟩
  · obtain ⟨haddr, -⟩ := State.txnOk_fields hok
    obtain ⟨t, ht, hspec⟩ := State.refusedRead_spec (s := s) (s.inFlight.erase x) hop haddr
    have hmove : s.txnMove x = t := by
      rw [State.txnMove_boundary hpor hrst hnet hok hcross hdie, State.take_arrived (s.arrive_idle x hnet hx), ht]
    exact ⟨t, congrArg Host.Outcome.next ((if_pos hop).trans hmove), hspec⟩
  · obtain ⟨-, hwords⟩ := State.txnOk_fields hok
    rw [hop] at hwords
    obtain ⟨l, hl⟩ := State.arrive_write_idle hnet hop
    obtain ⟨t, ht, hspec⟩ := State.refusedWrite_spec (s := s) l hop hwords
    have hmove : s.txnMove x = t := by
      rw [State.txnMove_boundary hpor hrst hnet hok hcross hdie, State.take_arrived hl, ht]
    exact ⟨t, congrArg Host.Outcome.next ((if_pos hop).trans hmove), hspec⟩

/-! ## Responses: O22 -/

theorem exec_readResp {r : Resp} (s : State) (hread : r.atomic = false) : exec (.readResp r) s = .next (s.response r) :=
  congrArg Host.Outcome.next (if_neg (by rw [hread]; decide))

/-- A READ of one word by the Maltster, under tag 5. -/
def maltsterRead : Txn := ⟨.read, 0, 0, 5, 5, 1, 48, 0, [], .requests, 0⟩

/-- The response to it. -/
def maltsterAnswer : Resp := ⟨false, 0, 0, 5, 0, [dataWord 9]⟩

/-- The Maltster awaits the response to `maltsterRead`, which the endpoint has just handed to the transport. -/
def answerUnderWay : State :=
  ({ State.reset with outst := [⟨maltsterRead, false, false⟩] } : State).respond maltsterRead 0 [dataWord 9]

/-- The response that has reached its master is gone from the transport (log 62). -/
theorem answerUnderWay_arrives : (answerUnderWay.response maltsterAnswer).net.pkts = [] := by decide +kernel

/-- Refutes O22: its clauses on responses say that the transport's packets stay as they are, and do not ask that the response is not
among them. In `answerUnderWay` it is, as every response is that an endpoint has handed over, and it leaves as it is delivered. -/
theorem not_responsesFreeTheirTags : ¬ Obligations.ResponsesFreeTheirTags := by
  unfold Obligations.ResponsesFreeTheirTags
  rintro ⟨hread, -⟩
  have hwaits : (answerUnderWay.outst.find? fun o => o.matches 0 0 5) = some ⟨maltsterRead, false, false⟩ := by decide +kernel
  have ht := hread answerUnderWay maltsterAnswer _ rfl rfl rfl (.head _) rfl rfl hwaits rfl rfl
  rw [exec_readResp _ rfl] at ht
  have hgone := answerUnderWay_arrives
  rw [Host.Outcome.next.inj ht] at hgone
  exact List.cons_ne_nil _ _ hgone

end Sys2Proof.Machine
end

section
/-!
SUPPORT. Sequencer cores: proof of the statement O24. An instruction that completes at an undisturbed boundary comes first, then one
that waits for a response.
-/
namespace Sys2Proof.Machine

/-! ## The instruction at PC -/

/-- Nothing stops a core at its next boundary: no breakpoint noted, no halt asked for, no step (R864 to R866). -/
structure Core.Undisturbed (x : Core) : Prop where
  bp : x.bp = none
  haltReq : x.haltReq = false
  haltFault : x.haltFault = false
  stepping : x.stepping = false

section
variable {s : State} {d c w : Nat} {op : SeqOp}

theorem State.seqAt_undisturbed (h : s.seqAt d c w op = true) : (s.core d c).Undisturbed := by
  simp only [State.seqAt, Bool.and_eq_true, Bool.not_eq_true', Option.isNone_iff_eq_none] at h
  obtain ⟨⟨⟨⟨⟨⟨⟨-, hbp⟩, hreq⟩, hfault⟩, hstep⟩, -⟩, -⟩, -⟩ := h
  exact ⟨hbp, hreq, hfault, hstep⟩

theorem State.seqAt_decode (h : s.seqAt d c w op = true) : seqDecode w = some op := by
  simp only [State.seqAt, Bool.and_eq_true, beq_iff_eq] at h
  obtain ⟨⟨-, hop⟩, -⟩ := h
  exact hop

theorem fetchedOf_dataWord (hw : w < 2 ^ 24) (hop : seqDecode w = some op) : fetchedOf (dataWord w) = .instr w op := by
  have hdata : (dataWord w).data.toNat = w := Nat.mod_eq_of_lt (by omega)
  have hhigh : bits w 47 24 = 0 := by unfold bits; omega
  unfold fetchedOf
  rw [hdata, hop, if_neg (by simp [dataWord]), if_neg (by simp [hhigh])]

/-- The core executes the instruction that it finds at PC (R845, R846). -/
theorem State.seqRow_at (h : s.seqAt d c w op = true) : s.seqRow d c op = s.seqExec d c w op := by
  have hop := State.seqAt_decode h
  simp only [State.seqAt, Bool.and_eq_true, Option.isNone_iff_eq_none, decide_eq_true_eq, beq_iff_eq] at h
  obtain ⟨⟨⟨⟨⟨⟨⟨⟨hready, hbp⟩, -⟩, -⟩, -⟩, -⟩, hw⟩, -⟩, hcell⟩ := h
  have hpeek : s.peekFetch d c = .instr w op := by
    unfold State.peekFetch
    dsimp only
    rw [hcell]
    exact fetchedOf_dataWord hw hop
  have hfetch : s.fetch d c = s := by
    unfold State.fetch
    rw [s.readWord_good _ _ _ _ _ hcell]
  unfold State.seqRow
  rw [hpeek]
  dsimp only
  rw [if_pos ⟨rfl, hready⟩, hbp, hfetch]

/-- The command of an instruction, where the core finds it. -/
theorem State.next_seqRow (h : s.seqAt d c w op = true) : (.next (s.seqRow d c op) : Out) = .next (s.seqExec d c w op) :=
  congrArg Host.Outcome.next (State.seqRow_at h)

end

/-! ## What changes in a core -/

/-- Nothing differs between two states but the registers `rs` and the cores' own state. -/
def OnlyCores (s t : State) (rs : List Reg) : Prop := t = { s with regs := t.regs, cores := t.cores } ∧ RegsKept s t rs

section
variable {s t : State} {rs : List Reg}

theorem OnlyCores.refl (s : State) (rs : List Reg) : OnlyCores s s rs := ⟨rfl, .refl s rs⟩

theorem OnlyCores.kept (h : OnlyCores s t rs) : RegsKept s t rs := h.2

theorem OnlyCores.setReg (h : OnlyCores s t rs) (r : Reg) (w : Word) (hr : r ∈ rs) : OnlyCores s (t.setReg r w) rs := by
  obtain ⟨hframe, hkept⟩ := h
  refine ⟨by rw [hframe]; rfl, fun q hq => ?_⟩
  have hne : q ≠ r := by rintro rfl; exact hq hr
  rw [State.setReg_reg_ne _ _ _ _ hne]
  exact hkept q hq

theorem OnlyCores.wf (h : OnlyCores s t rs) (f : Fld) (v d i j : Nat) (hr : (⟨f.reg, d, i, j⟩ : Reg) ∈ rs) :
    OnlyCores s (t.wf f v d i j) rs := h.setReg _ _ hr

theorem OnlyCores.ww (h : OnlyCores s t rs) (n : RegName) (v d i j : Nat) (hr : (⟨n, d, i, j⟩ : Reg) ∈ rs) :
    OnlyCores s (t.ww n v d i j) rs := h.setReg _ _ hr

theorem RegsKept.setCore (h : RegsKept s t rs) (d c : Nat) (x : Core) : RegsKept s (t.setCore d c x) rs := by
  intro q hq
  rw [State.setCore_reg]
  exact h q hq

theorem OnlyCores.setCore (h : OnlyCores s t rs) (d c : Nat) (x : Core) : OnlyCores s (t.setCore d c x) rs := by
  obtain ⟨hframe, hkept⟩ := h
  exact ⟨by rw [hframe]; rfl, hkept.setCore d c x⟩

theorem OnlyCores.mono {rs' : List Reg} (h : OnlyCores s t rs) (hsub : ∀ q ∈ rs, q ∈ rs') : OnlyCores s t rs' := by
  obtain ⟨hframe, hkept⟩ := h
  exact ⟨hframe, hkept.mono hsub⟩

theorem OnlyCores.trans {u : State} (h : OnlyCores s t rs) (h' : OnlyCores t u rs) : OnlyCores s u rs := by
  obtain ⟨hframe, hkept⟩ := h
  obtain ⟨hframe', hkept'⟩ := h'
  exact ⟨by rw [hframe', hframe], hkept.trans hkept'⟩

end

/-! ## The end of an instruction -/

section
variable {s u : State} {d c pc n : Nat} {rs : List Reg}

theorem SeqWent.of_kept {t : State} (h : SeqWent u t d c pc n) (hkept : RegsKept s u rs) (hcycle : (⟨.SEQ_SR, d, c, 4⟩ : Reg) ∉ rs) :
    SeqWent s t d c pc n := by
  have hsr : u.sr d c 4 = s.sr d c 4 := congrArg BitVec.toNat (hkept _ hcycle)
  unfold SeqWent at h ⊢
  rwa [hsr] at h

theorem SeqWent.setCore {t : State} (h : SeqWent s t d c pc n) (d' c' : Nat) (x : Core) : SeqWent s (t.setCore d' c' x) d c pc n := by
  unfold SeqWent State.seqPc State.sr State.seqState at h ⊢
  rwa [State.setCore_rf, State.setCore_rw, State.setCore_rf]

/-- The registers of a core that has gone on to `pc` after `n` cycles. -/
def State.wentOn (s : State) (d c pc n : Nat) : State :=
  ((s.setSeqPc d c (pc % 8192)).addCycles d c n).wf F.SEQ_STAT_STATE 1 d c

theorem State.seqWent_wentOn (s : State) (d c pc n : Nat) : SeqWent s (s.wentOn d c pc n) d c pc n := by
  have hsr : (s.setSeqPc d c (pc % 8192)).sr d c 4 = s.sr d c 4 :=
    (State.rw_ww_name _ _ _ _ _ _ _ _ _ _ (by decide)).trans (State.rw_wf_name _ _ _ _ _ _ _ _ _ _ (by decide))
  refine ⟨?_, ?_, State.rf_wf_same _ F.SEQ_STAT_STATE 1 d c 0 rfl⟩
  · have hpc := State.rf_wf_same s F.SEQ_STAT_PC (pc % 8192) d c 0 rfl
    unfold State.seqPc State.wentOn State.addCycles State.setSr State.setSeqPc
    rw [State.rf_wf_apart _ _ _ _ _ _ _ _ _ _ rfl rfl, State.rf_ww_name _ _ _ _ _ _ _ _ _ _ (by decide),
      State.rf_ww_name _ _ _ _ _ _ _ _ _ _ (by decide), hpc]
    exact Nat.mod_mod _ _
  · unfold State.sr at hsr ⊢
    unfold State.wentOn State.addCycles State.setSr State.sr
    rw [State.rw_wf_name _ _ _ _ _ _ _ _ _ _ (by decide), State.rw_ww_same, Nat.mod_mod, hsr]

theorem State.wentOn_only (s : State) (d c pc n : Nat) : OnlyCores s (s.wentOn d c pc n) (seqRegs d c) :=
  ((((OnlyCores.refl s _).wf _ _ _ _ _ (.head _)).ww _ _ _ _ _ (.tail _ (.head _))).ww _ _ _ _ _
    (.tail _ (.tail _ (.head _)))).wf _ _ _ _ _ (.head _)

/-- An undisturbed core goes on at its boundary. -/
theorem State.seqDone_undisturbed (hx : (s.core d c).Undisturbed) :
    s.seqDone d c pc n = (s.wentOn d c pc n).setCore d c { s.core d c with fresh := false } := by
  obtain ⟨hbp, hreq, hfault, hstep⟩ := hx
  have hcore : ((s.setSeqPc d c (pc % 8192)).addCycles d c n).core d c = s.core d c := rfl
  unfold State.seqDone State.boundary
  dsimp only
  rw [hcore, hbp, hreq, hfault, hstep]
  rfl

theorem State.core_seqDone (hx : (s.core d c).Undisturbed) : (s.seqDone d c pc n).core d c = { s.core d c with fresh := false } := by
  rw [State.seqDone_undisturbed hx, State.core_setCore_same]

/-- An instruction of an undisturbed core completes: PC and CYCLE go on, and nothing else changes. -/
theorem State.seqDone_completes (hx : (s.core d c).Undisturbed) :
    SeqWent s (s.seqDone d c pc n) d c pc n ∧ OnlyCores s (s.seqDone d c pc n) (seqRegs d c) := by
  rw [State.seqDone_undisturbed hx]
  exact ⟨(s.seqWent_wentOn d c pc n).setCore d c _, (s.wentOn_only d c pc n).setCore d c _⟩

/-- The same, after the instruction has changed the registers `rs`. -/
theorem State.seqDone_after (honly : OnlyCores s u rs) (hcycle : (⟨.SEQ_SR, d, c, 4⟩ : Reg) ∉ rs) (hx : (u.core d c).Undisturbed) :
    SeqWent s (u.seqDone d c pc n) d c pc n ∧ OnlyCores s (u.seqDone d c pc n) (rs ++ seqRegs d c) := by
  obtain ⟨hwent, hdone⟩ := State.seqDone_completes (pc := pc) (n := n) hx
  exact ⟨hwent.of_kept honly.kept hcycle,
    (honly.mono fun q hq => List.mem_append_left _ hq).trans (hdone.mono fun q hq => List.mem_append_right _ hq)⟩

/-- A register written by an instruction holds the word as it completes. -/
theorem State.setReg_completes (r : Reg) (v : Word) (hr : r ∉ seqRegs d c) (hx : (s.core d c).Undisturbed) :
    ((s.setReg r v).seqDone d c pc n).reg r = v ∧ SeqWent s ((s.setReg r v).seqDone d c pc n) d c pc n ∧
      OnlyCores s ((s.setReg r v).seqDone d c pc n) (r :: seqRegs d c) := by
  have hset : OnlyCores s (s.setReg r v) [r] := (OnlyCores.refl s _).setReg _ _ (.head _)
  have hcycle : (⟨.SEQ_SR, d, c, 4⟩ : Reg) ∉ [r] := by
    rw [List.mem_singleton]
    rintro rfl
    exact hr (.tail _ (.tail _ (.head _)))
  obtain ⟨-, hdone⟩ := State.seqDone_completes (s := s.setReg r v) (pc := pc) (n := n) hx
  exact ⟨(hdone.kept r hr).trans (State.setReg_reg_same s r v), State.seqDone_after hset hcycle hx⟩

/-- A register loaded without flags (R857). -/
theorem State.load_completes (op : SeqOp) (rd : Nat) (r : Word) (hx : (s.core d c).Undisturbed) :
    (s.load d c op rd r).g d c rd = r ∧ SeqWent s (s.load d c op rd r) d c (s.seqPc d c + 1) (op.cycles false) ∧
      OnlyCores s (s.load d c op rd r) (⟨.SEQ_G, d, c, rd⟩ :: seqRegs d c) :=
  State.setReg_completes _ r (by simp [seqRegs]) hx

/-- With no breakpoint that matches, noting one leaves the core undisturbed (R866). -/
theorem State.noteBp_undisturbed {kind addr : Nat} (hx : (s.core d c).Undisturbed) (hbp : s.bpMatch d c kind addr = none) :
    ((s.noteBp d c kind addr).core d c).Undisturbed := by
  obtain ⟨-, hreq, hfault, hstep⟩ := hx
  unfold State.noteBp
  rw [State.core_setCore_same]
  exact ⟨hbp, hreq, hfault, hstep⟩

/-- The T field replaced leaves the flags (Table 15-5). -/
theorem State.setT_status (s : State) (d c : Nat) (t : Tag) :
    tOf ((s.setT d c t).sr d c 0) = t.toNat ∧ flagsOf ((s.setT d c t).sr d c 0) = flagsOf (s.sr d c 0) := by
  have hlt : s.sr d c 0 < 2 ^ 48 := (s.reg ⟨.SEQ_SR, d, c, 0⟩).isLt
  have ht := t.isLt
  have hput : putT (s.sr d c 0) t.toNat < 2 ^ 48 := by unfold putT; omega
  have hsr : (s.setT d c t).sr d c 0 = putT (s.sr d c 0) t.toNat := (State.rw_ww_same ..).trans (Nat.mod_eq_of_lt hput)
  rw [hsr]
  refine ⟨?_, ?_⟩
  · simp only [tOf, bits, putT]; omega
  · have hbit : ∀ k, k < 4 → bit (putT (s.sr d c 0) t.toNat) k = bit (s.sr d c 0) k := by
      intro k hk
      have hval : putT (s.sr d c 0) t.toNat / 2 ^ k % 2 = s.sr d c 0 / 2 ^ k % 2 := by
        unfold putT
        interval_cases k <;> omega
      unfold bit
      rw [hval]
    simp [flagsOf, hbit]

end

/-! ## Loads and stores of the data memory -/

section
variable {s : State} {d c a n : Nat} (v : TWord)

/-- A narrow write of a good word stores the two words merged (R306). -/
theorem State.narrowWord_good {pa : Nat} {v : TWord} (hcell : decodeCell (s.cell d pa) pa = .good v) (lw lane : Nat) (w : TWord) :
    s.narrowWord d pa lw lane w = s.storeWord d pa (mergeLane v lw lane w) := by
  unfold State.narrowWord
  rw [s.readWord_good d pa .merge false v hcell]
  exact if_neg Bool.false_ne_true

/-- A loaded word goes to RD, its tag to T, and the flags stay (R847). -/
theorem State.ldl_completes (rd : Nat) (hx : (s.core d c).Undisturbed) (hbp : s.bpMatch d c 1 a = none) :
    ∃ t : State, ((s.noteBp d c 1 a).setT d c v.tag).load d c .ldl rd v.data = t ∧ t.g d c rd = v.data ∧ tOf (t.sr d c 0) = v.tag.toNat ∧
      flagsOf (t.sr d c 0) = flagsOf (s.sr d c 0) ∧ SeqWent s t d c (s.seqPc d c + 1) 2 ∧
      OnlyCores s t (⟨.SEQ_G, d, c, rd⟩ :: ⟨.SEQ_SR, d, c, 0⟩ :: seqRegs d c) := by
  let u : State := (s.noteBp d c 1 a).setT d c v.tag
  have hu : (u.core d c).Undisturbed := State.noteBp_undisturbed hx hbp
  have hset : OnlyCores s u [⟨.SEQ_SR, d, c, 0⟩] := ((OnlyCores.refl s _).setCore d c _).ww _ _ _ _ _ (.head _)
  obtain ⟨hg, hwent, hload⟩ := State.load_completes .ldl rd v.data hu
  obtain ⟨htag, hflags⟩ := (s.noteBp d c 1 a).setT_status d c v.tag
  have hsr : (u.load d c .ldl rd v.data).sr d c 0 = u.sr d c 0 := congrArg BitVec.toNat (hload.kept _ (by simp [seqRegs]))
  have hpc : u.seqPc d c = s.seqPc d c := hset.kept.rf F.SEQ_STAT_PC d c 0 (by simp [F.SEQ_STAT_PC])
  rw [hpc] at hwent
  refine ⟨_, rfl, hg, ?_, ?_, hwent.of_kept hset.kept (by simp), ?_⟩
  · rw [hsr]; exact htag
  · rw [hsr]; exact hflags
  · exact (hset.mono (by simp)).trans (hload.mono (by simp [seqRegs]))

/-- A word stored in the data memory changes no other word of the package (R847). -/
theorem State.store_completes (hx : (s.core d c).Undisturbed) (hbp : s.bpMatch d c 2 a = none)
    (hflip : s.flipArmed d (arrOf d (dmemAddr c a)) = false) :
    ∃ t : State, ((s.noteBp d c 2 a).storeWord d (dmemAddr c a) v).seqDone d c (s.seqPc d c + 1) n = t ∧
      (t.cell d (dmemAddr c a)).word = v ∧ (∀ d' pa, memKey d' pa ≠ memKey d (dmemAddr c a) → t.cell d' pa = s.cell d' pa) ∧
      SeqWent s t d c (s.seqPc d c + 1) n ∧ RegsKept s t (seqRegs d c) := by
  obtain ⟨m, q, hstore, hcell, hother⟩ := (s.noteBp d c 2 a).storeWord_stores d (dmemAddr c a) v hflip
  rw [hstore]
  let u : State := { s.noteBp d c 2 a with mem := m, wb := q }
  have hu : (u.core d c).Undisturbed := State.noteBp_undisturbed hx hbp
  have hkept : RegsKept s u [] := fun _ _ => rfl
  obtain ⟨hwent, hdone⟩ := State.seqDone_completes (pc := s.seqPc d c + 1) (n := n) hu
  obtain ⟨hframe, hdoneKept⟩ := hdone
  have hsame : ∀ d' pa, (u.seqDone d c (s.seqPc d c + 1) n).cell d' pa = u.cell d' pa := fun d' pa => by rw [hframe]; rfl
  refine ⟨_, rfl, ?_, fun d' pa hne => ?_, hwent.of_kept hkept (by simp), (hkept.mono (by simp)).trans hdoneKept⟩
  · rw [hsame, hcell]
  · rw [hsame, hother d' pa hne]
    rfl

end

/-! ## Global accesses -/

/-- A core has handed the request `x` to the transport under tag `k`, and waits for its response (R849, R851). -/
def Awaits (s t : State) (d c k rd : Nat) (x : Txn) : Prop :=
  Injected s t x ∧ t.tagHeld d (16 + c) k = true ∧ t.seqState d c = 3 ∧ (t.core d c).wait = .resp k rd ∧ t.seqPc d c = s.seqPc d c ∧
    t.mem = s.mem ∧ RegsKept s t [⟨.SEQ_STAT, d, c, 0⟩]

section
variable {s : State} {d c : Nat}

/-- A request handed to the transport holds its tag (R481). -/
theorem State.request_some {m sub k : Nat} (op : TxnOp) (addr len : Nat) (ws : List TWord) (hk : s.freeTag d m = some k) :
    s.request op d m sub addr len ws = some (k,
      { s.inject ⟨op, d, m, k, addr, len, 48, 0, ws, .requests, sub⟩ with
        outst := s.outst ++ [⟨⟨op, d, m, k, addr, len, 48, 0, ws, .requests, sub⟩, false, false⟩] }) := by
  unfold State.request
  rw [hk]
  rfl

theorem State.blocking_awaits {k : Nat} (op : TxnOp) (rd addr : Nat) (ws : List TWord) (hk : s.freeTag d (16 + c) = some k) :
    Awaits s (s.blocking d c op rd addr ws) d c k rd ⟨op, d, 16 + c, k, addr, 1, 48, 0, ws, .requests, 0⟩ := by
  let x : Txn := ⟨op, d, 16 + c, k, addr, 1, 48, 0, ws, .requests, 0⟩
  let u : State := State.noteBp { s.inject x with outst := s.outst ++ [⟨x, false, false⟩] } d c 3 addr
  have heq : s.blocking d c op rd addr ws = u.block d c (.resp k rd) := by
    unfold State.blocking
    rw [State.request_some op addr 1 ws hk]
  have hu : RegsKept s u [] := fun _ _ => rfl
  have hpc : (u.wf F.SEQ_STAT_STATE 3 d c).rf F.SEQ_STAT_PC d c = s.rf F.SEQ_STAT_PC d c :=
    (State.rf_wf_apart _ _ _ _ _ _ _ _ _ _ rfl rfl).trans (hu.rf _ _ _ _ (by simp))
  have hkept : RegsKept s (u.wf F.SEQ_STAT_STATE 3 d c) [⟨.SEQ_STAT, d, c, 0⟩] := (hu.mono (by simp)).wf _ _ _ _ _ (.head _)
  have htag : (s.outst ++ [(⟨x, false, false⟩ : Outst)]).any
      (fun o => o.txn.srcDie == d && o.txn.master == 16 + c && o.txn.rtag == k) = true := by simp [x]
  rw [heq]
  unfold State.block
  refine ⟨⟨rfl, rfl⟩, htag, ?_, ?_, ?_, ?_, hkept.setCore d c _⟩
  · unfold State.seqState
    rw [State.setCore_rf]
    exact State.rf_wf_same u F.SEQ_STAT_STATE 3 d c 0 rfl
  · rw [State.core_setCore_same]
  · unfold State.seqPc
    rw [State.setCore_rf, hpc]
  · rw [State.setCore_mem, State.wf_mem]
    rfl

/-- With room in the store queue STG puts its word there and goes on (R850). -/
theorem State.stg_completes {addr : Nat} (v : TWord) (hx : (s.core d c).Undisturbed) (hroom : (s.core d c).sq.length < 4)
    (hbp : s.bpMatch d c 3 addr = none) :
    ∃ t : State, s.stg d c addr v = t ∧ (t.core d c).sq = (s.core d c).sq ++ [(addr, v)] ∧ SeqWent s t d c (s.seqPc d c + 1) 1 ∧
      OnlyCores s t (seqRegs d c) := by
  have hnote := State.noteBp_undisturbed hx hbp
  have hsq : ((s.noteBp d c 3 addr).core d c).sq = (s.core d c).sq := by
    unfold State.noteBp
    rw [State.core_setCore_same]
  let y : Core := { (s.noteBp d c 3 addr).core d c with sq := (s.core d c).sq ++ [(addr, v)] }
  let u : State := (s.noteBp d c 3 addr).setCore d c y
  have hu : u.core d c = y := State.core_setCore_same ..
  have hux : (u.core d c).Undisturbed := by
    obtain ⟨hbp', hreq, hfault, hstep⟩ := hnote
    rw [hu]
    exact ⟨hbp', hreq, hfault, hstep⟩
  have honly : OnlyCores s u [] := ((OnlyCores.refl s _).setCore d c _).setCore d c _
  have heq : s.stg d c addr v = u.seqDone d c (s.seqPc d c + 1) 1 := by
    unfold State.stg
    dsimp only
    rw [hsq, if_pos hroom]
    rfl
  obtain ⟨hwent, hdone⟩ := State.seqDone_after (pc := s.seqPc d c + 1) (n := 1) honly (by simp) hux
  refine ⟨_, heq, ?_, hwent, hdone⟩
  rw [State.core_seqDone hux, hu]

/-- The oldest entry of a store queue leaves as a posted write (R850). -/
theorem exec_storeQueueIssue_posts {a : Nat} {w : TWord} {q : List (Nat × TWord)} (hsq : (s.core d c).sq = (a, w) :: q)
    (hidle : (s.core d c).wait = .idle) (hrun : (s.core d c).resetReq = none) :
    exec (.storeQueueIssue d c) s = .next ((s.post d (16 + c) a [w]).setCore d c { s.core d c with sq := q }) := by
  change execStoreQueueIssue d c s = _
  unfold execStoreQueueIssue
  dsimp only
  rw [hsq]
  dsimp only
  rw [hrun, hidle]
  rfl

end

/-! ## The statement -/

/-- RSR and WSR name a special register in the low four bits, and nothing above them (Table 15-3). -/
theorem seqDecode_special {w : Nat} {op : SeqOp} (h : seqDecode w = some op) (hop : op = .rsr ∨ op = .wsr) : fImm10 w = w % 16 := by
  have hzero : bits w 9 4 = 0 := by
    by_contra hne
    unfold seqDecode at h
    dsimp only at h
    rcases hop with rfl | rfl <;> split at h <;> simp [hne] at h
  simp only [bits, fImm10] at hzero ⊢
  omega

/-- The mailbox word that MBR and MBW name (Table 15-3). -/
theorem fImm10_mod_64 (w : Nat) : fImm10 w % 64 = w % 64 := by
  simp only [bits, fImm10]
  omega

/-- Settles O24: each instruction by the lemma on how it completes. -/
theorem coresLoadAndStore : Obligations.CoresLoadAndStore := by
  unfold Obligations.CoresLoadAndStore
  refine ⟨?ldl, ?stl, ?stln, ?ldg, ?aadd, ?aswp, ?stg, ?issue, ?sync, ?mbr, ?mbw, ?rsr, ?wsrEpc, ?wsrReadOnly⟩
  case ldl =>
    intro s d c w v hat hcell hbp
    obtain ⟨t, ht, hspec⟩ := State.ldl_completes v (fRd w) (State.seqAt_undisturbed hat) hbp
    refine ⟨t, (State.next_seqRow hat).trans (congrArg _ ?_), hspec⟩
    unfold State.seqExec
    dsimp only
    rw [s.readWord_good _ _ _ _ _ hcell, ht]
  case stl =>
    rintro s d c w _ hat rfl hbp hflip
    obtain ⟨t, ht, hspec⟩ := State.store_completes (n := 1) ⟨s.g d c (fRd w), BitVec.ofNat 2 (fTag w)⟩ (State.seqAt_undisturbed hat)
      hbp hflip
    exact ⟨t, (State.next_seqRow hat).trans (congrArg _ ht), hspec⟩
  case stln =>
    intro s d c w a v hat ha hcell hbp hflip
    obtain ⟨t, ht, hspec⟩ := State.store_completes (n := 2) (mergeLane v (stlnWidth w) (stlnLane w) ⟨s.g d c (fRb w), tagData⟩)
      (State.seqAt_undisturbed hat) hbp hflip
    have hnarrow := State.narrowWord_good (s := s.noteBp d c 2 a) hcell (stlnWidth w) (stlnLane w) ⟨s.g d c (fRb w), tagData⟩
    refine ⟨t, (State.next_seqRow hat).trans (congrArg _ ?_), hspec⟩
    unfold State.seqExec
    dsimp only
    rw [← ha, hnarrow, ht]
  case ldg =>
    intro s d c w k hat hk
    exact ⟨_, State.next_seqRow hat, State.blocking_awaits .read (fRd w) _ [] hk⟩
  case aadd =>
    intro s d c w k hat hk
    exact ⟨_, State.next_seqRow hat, State.blocking_awaits .add (fRd w) _ _ hk⟩
  case aswp =>
    intro s d c w k hat hk
    exact ⟨_, State.next_seqRow hat, State.blocking_awaits .swap (fRd w) _ _ hk⟩
  case stg =>
    intro s d c w hat hroom hbp
    obtain ⟨t, ht, hspec⟩ := State.stg_completes ⟨s.g d c (fRd w), BitVec.ofNat 2 (fTag w)⟩ (State.seqAt_undisturbed hat) hroom hbp
    exact ⟨t, (State.next_seqRow hat).trans (congrArg _ ht), hspec⟩
  case issue =>
    intro s d c a w q hsq hidle hrun
    refine ⟨_, exec_storeQueueIssue_posts hsq hidle hrun, ⟨rfl, rfl⟩, ?_, rfl⟩
    rw [State.core_setCore_same]
  case sync =>
    intro s d c w hat hsq
    have hdone : s.seqExec d c w .sync = s.seqDone d c (s.seqPc d c + 1) 1 := if_pos (by rw [hsq]; rfl)
    exact ⟨_, (State.next_seqRow hat).trans (congrArg _ hdone), State.seqDone_completes (State.seqAt_undisturbed hat)⟩
  case mbr =>
    intro s d c w hat
    rw [← fImm10_mod_64 w]
    exact ⟨_, State.next_seqRow hat, State.load_completes .mbr (fRd w) _ (State.seqAt_undisturbed hat)⟩
  case mbw =>
    intro s d c w hat
    rw [← fImm10_mod_64 w]
    exact ⟨_, State.next_seqRow hat, State.setReg_completes _ _ (by simp [seqRegs]) (State.seqAt_undisturbed hat)⟩
  case rsr =>
    intro s d c w hat
    rw [← seqDecode_special (State.seqAt_decode hat) (.inl rfl)]
    exact ⟨_, State.next_seqRow hat, State.load_completes .rsr (fRd w) _ (State.seqAt_undisturbed hat)⟩
  case wsrEpc =>
    intro s d c w hat hk
    have hstored : s.seqExec d c w .wsr = (s.setSr d c 1 ((s.g d c (fRd w)).toNat % 8192)).seqDone d c (s.seqPc d c + 1) 1 := by
      unfold State.seqExec
      dsimp only
      rw [seqDecode_special (State.seqAt_decode hat) (.inr rfl), hk]
      rfl
    obtain ⟨hreg, hspec⟩ := State.setReg_completes (pc := s.seqPc d c + 1) (n := 1) ⟨.SEQ_SR, d, c, 1⟩
      (BitVec.ofNat 48 ((s.g d c (fRd w)).toNat % 8192)) (by simp [seqRegs]) (State.seqAt_undisturbed hat)
    refine ⟨_, (State.next_seqRow hat).trans (congrArg _ hstored), ?_, hspec⟩
    refine (congrArg BitVec.toNat hreg).trans (Nat.mod_eq_of_lt ?_)
    omega
  case wsrReadOnly =>
    intro s d c w hat hk
    have hignored : s.seqExec d c w .wsr = s.seqDone d c (s.seqPc d c + 1) 1 := by
      unfold State.seqExec
      dsimp only
      rw [seqDecode_special (State.seqAt_decode hat) (.inr rfl)]
      rcases hk with hk | hk | hk | hk <;> rw [hk] <;> rfl
    exact ⟨_, (State.next_seqRow hat).trans (congrArg _ hignored), State.seqDone_completes (State.seqAt_undisturbed hat)⟩

end Sys2Proof.Machine
end

section
/-!
SUPPORT. Stream engines and landing buffers: proof of the statement O46.
-/
namespace Sys2Proof.Machine

/-! ## Releases -/

/-- A release that has not arrived at its claim window changes nothing yet (log 62). -/
theorem exec_release_not_arrived (s : State) (d : Nat) (q : Txn) (h : s.arrive q = none) : exec (.release d q) s = .next s := by
  have hrelease : ∀ b, s.releaseAt d b q = s := by
    intro b
    unfold State.releaseAt
    rw [h]
  change execRelease d q s = _
  unfold execRelease
  split
  · rw [hrelease, ite_self]
  · rfl

/-- Engine 0 of die 1 hands 64 words back to landing buffer 19 of its die: a posted write to the buffer's claim window (R911). -/
def release64 : Txn := ⟨.write, 1, 20, 0, 2 ^ 36 + 0x0F0324FF, 1, 48, 0, [dataWord 64], .posted, 0⟩

/-- The release has just been handed to the transport. -/
def releaseUnderWay : State := State.reset.inject release64

theorem releaseUnderWay_not_arrived : releaseUnderWay.arrive release64 = none := by decide +kernel

/-- Refutes O46: its clause on RELEASE does not ask that the write has arrived. In `releaseUnderWay` it is still in the transport and
stays there, where the clause says that it has left. -/
theorem not_enginesFetchMoveClaimAndComplete : ¬ Obligations.EnginesFetchMoveClaimAndComplete := by
  unfold Obligations.EnginesFetchMoveClaimAndComplete
  rintro ⟨-, -, -, -, -, -, -, -, hrelease, -⟩
  have hdie : releaseUnderWay.hasDie 1 = true := by decide +kernel
  have hat : releaseUnderWay.atDie 1 release64 = true := by decide +kernel
  have hclaim : claimOf 1 (addrLocal release64.addr) = some 19 := by decide
  obtain ⟨t, ht, hleft, -⟩ := hrelease releaseUnderWay 1 19 64 release64 (dataWord 64) hdie hat rfl rfl hclaim rfl (by decide) rfl
    (by decide)
  rw [exec_release_not_arrived _ _ _ releaseUnderWay_not_arrived] at ht
  obtain rfl := Host.Outcome.next.inj ht
  exact absurd hleft (by decide +kernel)

end Sys2Proof.Machine
end

section
/-!
SUPPORT. DRAM channels: the rules of a channel, and proof of the statement O33.
-/
namespace Sys2Proof.Machine

/-! ## Channels and their registers -/

theorem State.dram_setDram_ne {c k : Nat} (h : k ≠ c) (s : State) (x : Dram) : (s.setDram c x).dram k = s.dram k :=
  mget_mset_ne _ _ _ _ _ _ h

@[simp] theorem State.incE_dram (s : State) (f : Fld) (d i j n c : Nat) : (s.incE f d i j n).dram c = s.dram c := by
  obtain ⟨m, hm⟩ := s.incE_frame f d i j n
  rw [hm]
  rfl

/-- The channels have changed nothing but themselves and the registers `rs`, and have raised the events `evs`. -/
def DramStep (s t : State) (rs : List Reg) (evs : List FaultEv) : Prop :=
  t = { s with regs := t.regs, drams := t.drams, faultLine := s.faultLine ++ evs } ∧ RegsKept s t rs

section
variable {s t : State} {rs : List Reg} {evs : List FaultEv}

theorem DramStep.refl (s : State) (rs : List Reg) : DramStep s s rs [] := ⟨by rw [List.append_nil], .refl s rs⟩

theorem DramStep.setDram (h : DramStep s t rs evs) (c : Nat) (x : Dram) : DramStep s (t.setDram c x) rs evs := by
  obtain ⟨hframe, hkept⟩ := h
  exact ⟨by rw [hframe]; rfl, hkept⟩

theorem DramStep.wf (h : DramStep s t rs evs) (f : Fld) (v c : Nat) (hf : (⟨f.reg, 0, c, 0⟩ : Reg) ∈ rs) :
    DramStep s (t.wf f v 0 c) rs evs := by
  obtain ⟨hframe, hkept⟩ := h
  exact ⟨by rw [hframe]; rfl, hkept.wf f v 0 c 0 hf⟩

theorem DramStep.incE (h : DramStep s t rs evs) (f : Fld) (c : Nat) (hf : (⟨f.reg, 0, c, 0⟩ : Reg) ∈ rs) :
    DramStep s (t.incE f 0 c) rs evs := by
  rw [State.incE_spec]
  split
  · exact h.wf _ _ _ hf
  · exact (h.wf _ _ _ hf).wf ⟨f.reg, 47, 47⟩ 1 c hf

theorem DramStep.raise (h : DramStep s t rs evs) (src : FaultSrc) (d u x : Nat) :
    DramStep s (t.raise src d u x) rs (evs ++ [faultEv src d u x]) := by
  obtain ⟨hframe, hkept⟩ := h
  refine ⟨?_, hkept.raise src d u x⟩
  rw [← List.append_assoc, hframe]
  rfl

theorem DramStep.kept (h : DramStep s t rs evs) : RegsKept s t rs := h.2

theorem DramStep.faultLine (h : DramStep s t rs evs) : t.faultLine = s.faultLine ++ evs := by
  obtain ⟨hframe, -⟩ := h
  rw [hframe]

theorem DramStep.frame (h : DramStep s t rs evs) : t = { s with regs := t.regs, drams := t.drams, faultLine := t.faultLine } := by
  rw [h.faultLine]
  exact h.1

/-- With no event raised, channels and registers are all that differs. -/
theorem DramStep.quiet (h : DramStep s t rs []) : t = { s with regs := t.regs, drams := t.drams } := by
  obtain ⟨hframe, -⟩ := h
  rw [List.append_nil] at hframe
  exact hframe

end

/-- A counter of a channel below its largest value counts one (R82). -/
theorem State.rf_incE_one {s : State} {f : Fld} {c : Nat} (hlo : f.lo = 0) (hhi : f.hi = 31) (h : s.rf f 0 c < 2 ^ 32 - 1) :
    (s.incE f 0 c).rf f 0 c = s.rf f 0 c + 1 := by
  refine State.rf_incE_same s f 0 c 0 1 (by simp [Fld.ok, hlo, hhi]) ?_
  unfold Fld.width
  rw [hlo, hhi]
  omega

/-! ## Refreshes -/

theorem State.refEff_lt (s : State) (c : Nat) : s.refEff c < 4 := by
  have hmult : s.rf F.DRAM_REF_CTL_REF_MULT 0 c < 2 ^ 2 := s.rf_lt F.DRAM_REF_CTL_REF_MULT 0 c 0
  unfold State.refEff
  dsimp only
  split
  · decide
  · split
    · omega
    · exact hmult

/-- A refresh interval of a rank has passed: the effective multiplier is shown, and one more refresh is owed (R542, R546). -/
def State.refreshDue (s : State) (c r : Nat) : State :=
  (s.wf F.DRAM_STAT_REF_EFF (s.refEff c) 0 c).setDram c
    { s.dram c with owed := mset (s.dram c).owed r (mget (s.dram c).owed r 0 + 1) 0 }

section
variable (s : State) (c r : Nat)

theorem State.dram_refreshDue :
    (s.refreshDue c r).dram c = { s.dram c with owed := mset (s.dram c).owed r (mget (s.dram c).owed r 0 + 1) 0 } :=
  State.dram_setDram_same _ _ _

theorem State.rf_refreshDue : (s.refreshDue c r).rf F.DRAM_STAT_REF_EFF 0 c = s.refEff c := by
  unfold State.refreshDue
  rw [State.setDram_rf, State.rf_wf_fits _ _ _ _ _ _ rfl (s.refEff_lt c)]

theorem State.refreshDue_step : DramStep s (s.refreshDue c r) [⟨.DRAM_STAT, 0, c, 0⟩] [] :=
  ((DramStep.refl s _).wf F.DRAM_STAT_REF_EFF _ c (.head _)).setDram c _

theorem DramStep.refIssue {s t : State} {rs : List Reg} {evs : List FaultEv} (h : DramStep s t rs evs) (c r n : Nat) :
    DramStep s (t.refIssue c r n) rs evs := h.setDram c _

/-- `n` refreshes issued are counted, and owed no longer (R542, R551). -/
theorem State.refIssue_spec (n : Nat) : mget ((s.refIssue c r n).dram c).owed r 0 = mget (s.dram c).owed r 0 - n ∧
    mget ((s.refIssue c r n).dram c).refs r 0 = mget (s.dram c).refs r 0 + n ∧ ((s.refIssue c r n).dram c).acc = (s.dram c).acc := by
  unfold State.refIssue
  rw [State.dram_setDram_same]
  exact ⟨mget_mset_same _ _ _ _, mget_mset_same _ _ _ _, rfl⟩

theorem State.rf_refIssue (n : Nat) (g : Fld) (d i j : Nat) : (s.refIssue c r n).rf g d i j = s.rf g d i j :=
  State.setDram_rf _ _ _ _ _ _ _

variable {s c r}

/-- What becomes of the refreshes owed once an interval has passed (R543, R578). -/
theorem execDramRefresh_due (hstate : s.dramState c = 2 ∨ s.dramState c = 4) (hrank : r ≤ s.rf F.DRAM_GEOM_RANKS 0 c) :
    execDramRefresh c r s = .next (if (s.dram c).waiting = false then (s.refreshDue c r).refIssue c r (mget (s.dram c).owed r 0 + 1)
      else if mget (s.dram c).owed r 0 + 1 < s.rf F.DRAM_REF_CTL_POSTPONE 0 c then s.refreshDue c r
      else (s.refreshDue c r).refIssue c r 1) := by
  have hpost : (s.wf F.DRAM_STAT_REF_EFF (s.refEff c) 0 c).rf F.DRAM_REF_CTL_POSTPONE 0 c = s.rf F.DRAM_REF_CTL_POSTPONE 0 c :=
    State.rf_wf_apart _ _ _ _ _ _ _ _ _ _ rfl rfl
  have hskip : ¬ ((s.dramState c ≠ 2 && s.dramState c ≠ 4 || s.rf F.DRAM_GEOM_RANKS 0 c < r) = true) := by
    rcases hstate with h | h <;> simp [h, hrank]
  unfold execDramRefresh
  dsimp only
  rw [if_neg hskip]
  unfold State.refreshDue
  rw [hpost]
  cases (s.dram c).waiting <;> simp

/-- With nothing waiting every refresh owed is issued (R543). -/
theorem State.refresh_inGap (t : State) (ht : (s.refreshDue c r).refIssue c r (mget (s.dram c).owed r 0 + 1) = t) :
    mget (t.dram c).owed r 0 = 0 ∧ mget (t.dram c).refs r 0 = mget (s.dram c).refs r 0 + mget (s.dram c).owed r 0 + 1 ∧
      t.rf F.DRAM_STAT_REF_EFF 0 c = s.refEff c ∧ DramStep s t [⟨.DRAM_STAT, 0, c, 0⟩] [] := by
  obtain ⟨howed, hrefs, -⟩ := (s.refreshDue c r).refIssue_spec c r (mget (s.dram c).owed r 0 + 1)
  rw [s.dram_refreshDue c r] at howed hrefs
  subst ht
  refine ⟨?_, ?_, (State.rf_refIssue _ _ _ _ _ _ _ _).trans (s.rf_refreshDue c r), (s.refreshDue_step c r).refIssue c r _⟩
  · rw [howed, mget_mset_same, Nat.sub_self]
  · rw [hrefs, Nat.add_assoc]

/-- While transactions wait one more refresh is owed, up to the limit; at the limit one is issued (R543, R578). -/
theorem State.refresh_postponed (t : State) (ht : (if mget (s.dram c).owed r 0 + 1 < s.rf F.DRAM_REF_CTL_POSTPONE 0 c
      then s.refreshDue c r else (s.refreshDue c r).refIssue c r 1) = t) :
    (if mget (s.dram c).owed r 0 + 1 < s.rf F.DRAM_REF_CTL_POSTPONE 0 c then
        mget (t.dram c).owed r 0 = mget (s.dram c).owed r 0 + 1 ∧ mget (t.dram c).refs r 0 = mget (s.dram c).refs r 0
      else mget (t.dram c).owed r 0 = mget (s.dram c).owed r 0 ∧ mget (t.dram c).refs r 0 = mget (s.dram c).refs r 0 + 1) ∧
      (t.dram c).acc = (s.dram c).acc ∧ DramStep s t [⟨.DRAM_STAT, 0, c, 0⟩] [] := by
  subst ht
  split
  · rw [s.dram_refreshDue c r]
    exact ⟨⟨by rw [mget_mset_same], rfl⟩, rfl, s.refreshDue_step c r⟩
  · obtain ⟨howed, hrefs, hacc⟩ := (s.refreshDue c r).refIssue_spec c r 1
    rw [s.dram_refreshDue c r] at howed hrefs hacc
    refine ⟨⟨?_, hrefs⟩, hacc, (s.refreshDue_step c r).refIssue c r 1⟩
    rw [howed, mget_mset_same, Nat.add_sub_cancel]

/-! ## Victim refreshes and counted tables -/

/-- The oldest victim refresh of a rank is performed and counted: its bank's row is closed, and one held for room joins the queue
(R548, R552, R553). -/
theorem State.victimDone_spec {b row : Nat} {rest : List (Nat × Nat)} (hqueue : mget (s.dram c).victims r [] = (b, row) :: rest)
    (hlt : s.rf F.DRAM_VICTIM_CNT_COUNT 0 c < 2 ^ 32 - 1) (t : State) (ht : s.victimDone c r = t) :
    mget (t.dram c).victims r [] = rest ++ (mget (s.dram c).held r []).take 1 ∧
      mget (t.dram c).held r [] = (mget (s.dram c).held r []).drop 1 ∧ mget (t.dram c).rows (r * 64 + b) 0 = 0 ∧
      t.rf F.DRAM_VICTIM_CNT_COUNT 0 c = s.rf F.DRAM_VICTIM_CNT_COUNT 0 c + 1 ∧ DramStep s t [⟨.DRAM_VICTIM_CNT, 0, c, 0⟩] [] := by
  unfold State.victimDone at ht
  dsimp only at ht
  rw [hqueue] at ht
  dsimp only at ht
  subst ht
  rw [State.incE_dram, State.dram_setDram_same]
  exact ⟨by rw [mget_mset_same], by rw [mget_mset_same], by rw [mget_mset_same], State.rf_incE_one rfl rfl hlt,
    ((DramStep.refl s _).setDram c _).incE F.DRAM_VICTIM_CNT_COUNT c (.head _)⟩

/-- The counted tables of a rank are cleared, and those of the other rank kept (R551). -/
theorem exec_disturbTableClear_due (hdue : 8192 ≤ mget (s.dram c).refs r 0) :
    exec (.disturbTableClear c r) s = .next (s.setDram c { s.dram c with
      tables := (s.dram c).tables.filter fun e => e.1 / 2048 ≠ r
      refs := mset (s.dram c).refs r (mget (s.dram c).refs r 0 - 8192) 0 }) :=
  congrArg Host.Outcome.next (if_pos hdue)

theorem mget_tables_cleared (m : SMap (Nat × Nat)) (r k : Nat) :
    mget (m.filter fun e => e.1 / 2048 ≠ r) k (0, 0) = if k / 2048 = r then (0, 0) else mget m k (0, 0) := by
  refine (mget_filter_key m (fun x => decide (x / 2048 ≠ r)) k (0, 0)).trans ?_
  by_cases hk : k / 2048 = r <;> simp [hk]

/-! ## Temperature -/

/-- The range read is shown, and it sets the hot state: 0b10 enters it, 0b01 leaves it, and any other keeps it (R544, R545). -/
theorem exec_dramTemperatureRead_range (g : Nat) (hsrc : s.rf F.DRAM_TEMP_TEMP_SRC 0 c = 0) :
    exec (.dramTemperatureRead c g) s = .next (((s.setDram c { s.dram c with overTemp := false }).wf F.DRAM_TEMP_RANGE g 0 c).wf
      F.DRAM_STAT_HOT (b2n (g % 4 == 2 || g % 4 != 1 && s.rb F.DRAM_STAT_HOT 0 c)) 0 c) :=
  congrArg Host.Outcome.next (if_pos hsrc)

theorem State.b2n_rb (s : State) (f : Fld) (d i j : Nat) (hf : f.width = 1) : b2n (s.rb f d i j) = s.rf f d i j := by
  have hlt := s.rf_lt f d i j
  rw [hf] at hlt
  unfold State.rb
  obtain h | h : s.rf f d i j = 0 ∨ s.rf f d i j = 1 := by omega
  · rw [h]; rfl
  · rw [h]; rfl

theorem b2n_lt (b : Bool) : b2n b < 2 := by cases b <;> decide

theorem State.hot_after (g : Nat) : b2n (g % 4 == 2 || g % 4 != 1 && s.rb F.DRAM_STAT_HOT 0 c) =
    if g % 4 = 2 then 1 else if g % 4 = 1 then 0 else s.rf F.DRAM_STAT_HOT 0 c := by
  rw [← s.b2n_rb F.DRAM_STAT_HOT 0 c 0 rfl]
  by_cases hin : g % 4 = 2
  · simp [hin, b2n]
  · by_cases hout : g % 4 = 1
    · simp [hout, b2n]
    · have hnot : (g % 4 == 2 || g % 4 != 1 && s.rb F.DRAM_STAT_HOT 0 c) = s.rb F.DRAM_STAT_HOT 0 c := by
        rw [beq_false_of_ne hin, bne_iff_ne.mpr hout, Bool.false_or, Bool.true_and]
      rw [hnot, if_neg hin, if_neg hout]

end

/-- Settles O33: each command by the rule of what it does to its channel. -/
theorem dramRefreshesAndGuardsRows : Obligations.DramRefreshesAndGuardsRows := by
  unfold Obligations.DramRefreshesAndGuardsRows
  refine ⟨fun s c r hstate hrank hidle => ?gap, fun s c r hstate hrank hwait => ?postponed,
    fun s c r b row rest hqueue hlt => ?victim, fun s c r hdue => ?tables, fun s c => ?zq, fun s c g hsrc => ?range, fun s c g hsrc => ?otherSource⟩
  case gap =>
    obtain ⟨howed, hrefs, heff, hstep⟩ := State.refresh_inGap (s := s) (c := c) (r := r) _ rfl
    exact ⟨_, (execDramRefresh_due hstate hrank).trans (by rw [if_pos hidle]), howed, hrefs, heff, hstep.quiet, hstep.kept⟩
  case postponed =>
    obtain ⟨hcounts, hacc, hstep⟩ := State.refresh_postponed (s := s) (c := c) (r := r) _ rfl
    exact ⟨_, (execDramRefresh_due hstate hrank).trans (by rw [if_neg (by simp [hwait])]), hcounts, hacc, hstep.quiet, hstep.kept⟩
  case victim =>
    obtain ⟨hvictims, hheld, hrow, hcount, hstep⟩ := State.victimDone_spec hqueue hlt _ rfl
    exact ⟨_, rfl, hvictims, hheld, hrow, hcount, hstep.quiet, hstep.kept⟩
  case tables =>
    refine ⟨_, exec_disturbTableClear_due hdue, ?_⟩
    rw [State.dram_setDram_same]
    dsimp only
    exact ⟨fun k hk => (mget_tables_cleared _ r k).trans (if_pos hk), fun k hk => (mget_tables_cleared _ r k).trans (if_neg hk),
      by rw [mget_mset_same], rfl⟩
  case zq =>
    refine ⟨_, rfl, rfl, fun k => ?_⟩
    by_cases hk : k = c
    · rw [hk, State.dram_setDram_same]
    · exact State.dram_setDram_ne hk s _
  case range =>
    have hstep := (((DramStep.refl s [⟨.DRAM_TEMP, 0, c, 0⟩, ⟨.DRAM_STAT, 0, c, 0⟩]).setDram c { s.dram c with overTemp := false }).wf
      F.DRAM_TEMP_RANGE g c (.head _)).wf F.DRAM_STAT_HOT (b2n (g % 4 == 2 || g % 4 != 1 && s.rb F.DRAM_STAT_HOT 0 c)) c (.tail _ (.head _))
    refine ⟨_, exec_dramTemperatureRead_range g hsrc, ?_, ?_, hstep.quiet, hstep.kept⟩
    · rw [State.rf_wf_apart _ _ _ _ _ _ _ _ _ _ rfl rfl]
      exact State.rf_wf_same _ F.DRAM_TEMP_RANGE _ _ _ _ rfl
    · rw [State.rf_wf_fits _ F.DRAM_STAT_HOT _ _ _ _ rfl (b2n_lt _), State.hot_after]
  case otherSource => exact congrArg Host.Outcome.next (if_neg hsrc)

end Sys2Proof.Machine
end

section
/-!
SUPPORT. DRAM channels, training, self refresh and retirement: proof of the statement O32.
-/
namespace Sys2Proof.Machine

/-! ## The state of a channel -/

/-- A channel that the part has shows its state in DRAM_STAT (R587, Table 10-13). -/
theorem State.rf_of_dramState {s : State} {c n : Nat} (h : s.dramState c = n) (hn : n ≠ 6) : s.rf F.DRAM_STAT_STATE 0 c = n := by
  unfold State.dramState at h
  split at h
  · exact absurd h.symm hn
  · exact h

theorem State.dramState_congr {s t : State} {c : Nat} (hpart : t.part = s.part)
    (hstate : t.rf F.DRAM_STAT_STATE 0 c = s.rf F.DRAM_STAT_STATE 0 c) : t.dramState c = s.dramState c := by
  unfold State.dramState State.is20
  rw [hpart, hstate]

/-! ## Writes of DRAM_CTL -/

/-- Whether the timing fields are set does not depend on DRAM_CTL (R589). -/
theorem RegsKept.timingsSet {s t : State} {c : Nat} (h : RegsKept s t [⟨.DRAM_CTL, 0, c, 0⟩]) : t.timingsSet c = s.timingsSet c := by
  have hfld : ∀ f : Fld, f.reg ≠ .DRAM_CTL → t.rf f 0 c = s.rf f 0 c := fun f hf => h.rf f 0 c 0 (by simp [hf])
  unfold State.timingsSet
  rw [Bool.eq_iff_iff, List.all_eq_true, List.all_eq_true]
  refine forall₂_congr fun f hf => ?_
  rw [hfld f (by revert f; decide)]

section
variable {s : State} {c : Nat}

/-- A write with tag 0b00 or 0b01 and no hardware act in its cycle (R75). -/
theorem dramCtlOut_written {w : TWord} (htag : w.tag.toNat < 2) : dramCtlOut c w [] s = s.writeDramCtl c w.data.toNat false := by
  unfold dramCtlOut
  rw [if_pos htag, State.w1sCleared_nil, effWord_nil]
  rfl

variable (s c)

/-- RATE and SR_REQ stored in an off or retired channel (R592). -/
def State.storeRate (s : State) (c w : Nat) : State := (s.wf F.DRAM_CTL_RATE (min 6 (bits w 6 4)) 0 c).wf F.DRAM_CTL_SR_REQ (bits w 8 8) 0 c

variable (w : Nat)

theorem State.storeRate_only : OnlyRegs s (s.storeRate c w) [⟨.DRAM_CTL, 0, c, 0⟩] :=
  ((OnlyRegs.refl s _).wf F.DRAM_CTL_RATE _ _ _ _ (.head _)).wf F.DRAM_CTL_SR_REQ _ _ _ _ (.head _)

theorem State.rf_storeRate_en : (s.storeRate c w).rf F.DRAM_CTL_EN 0 c = s.rf F.DRAM_CTL_EN 0 c := by
  unfold State.storeRate
  rw [State.rf_wf_apart _ _ _ _ _ _ _ _ _ _ rfl rfl, State.rf_wf_apart _ _ _ _ _ _ _ _ _ _ rfl rfl]

theorem State.rf_storeRate_rate : (s.storeRate c w).rf F.DRAM_CTL_RATE 0 c = min 6 (bits w 6 4) := by
  unfold State.storeRate
  rw [State.rf_wf_apart _ _ _ _ _ _ _ _ _ _ rfl rfl]
  exact State.rf_wf_fits _ F.DRAM_CTL_RATE _ _ _ _ rfl ((Nat.min_le_left _ _).trans_lt (by decide))

variable {s c w}

/-- EN = 1 to an off or retired channel: RATE and SR_REQ are stored, and with every timing field set a training starts (R554, R589). -/
theorem State.writeDramCtl_off (hoff : s.dramState c = 0 ∨ s.dramState c = 5) (hen : s.rf F.DRAM_CTL_EN 0 c = 0) (hset : bit w 0 = true) :
    s.writeDramCtl c w false =
      if s.timingsSet c then ((s.storeRate c w).wf F.DRAM_CTL_EN 1 0 c).dramTrain c else s.storeRate c w := by
  have hen' : (s.storeRate c w).rb F.DRAM_CTL_EN 0 c = false := State.rb_of_rf_zero ((s.rf_storeRate_en c w).trans hen)
  have htim : (s.storeRate c w).timingsSet c = s.timingsSet c := (s.storeRate_only c w).2.timingsSet
  unfold State.storeRate at hen' htim ⊢
  unfold State.writeDramCtl
  rcases hoff with h | h <;> cases hall : s.timingsSet c <;> simp [h, hset, hen', htim, hall]

/-- A write that sets RETRAIN while the channel is open starts a centring (R583, R592). -/
theorem State.writeDramCtl_retrain (hopen : s.dramState c = 2) (hen : s.rf F.DRAM_CTL_EN 0 c = 1) (hset : bit w 0 = true)
    (hretrain : bit w 7 = true) : s.writeDramCtl c w false =
      ((s.wf F.DRAM_CTL_SR_REQ (bits w 8 8) 0 c).wf F.DRAM_CTL_RETRAIN 1 0 c).wf F.DRAM_STAT_STATE 4 0 c := by
  have hen' : (((s.wf F.DRAM_CTL_SR_REQ (bits w 8 8) 0 c).wf F.DRAM_CTL_RETRAIN 1 0 c).wf F.DRAM_STAT_STATE 4 0 c).rb F.DRAM_CTL_EN 0 c =
      true := by
    refine State.rb_of_rf_one ?_
    rw [State.rf_wf_apart _ _ _ _ _ _ _ _ _ _ rfl rfl, State.rf_wf_apart _ _ _ _ _ _ _ _ _ _ rfl rfl,
      State.rf_wf_apart _ _ _ _ _ _ _ _ _ _ rfl rfl, hen]
  unfold State.writeDramCtl
  simp [hopen, hset, hretrain, hen']

/-- SR_REQ stored in an open channel or one in self refresh, which SR_REQ = 0 ends (R583). -/
def State.storeSrReq (s : State) (c w : Nat) : State :=
  if s.dramState c = 3 && !bit w 8 then (s.wf F.DRAM_CTL_SR_REQ (bits w 8 8) 0 c).wf F.DRAM_STAT_STATE 2 0 c
  else s.wf F.DRAM_CTL_SR_REQ (bits w 8 8) 0 c

theorem State.storeSrReq_only : OnlyRegs s (s.storeSrReq c w) [⟨.DRAM_CTL, 0, c, 0⟩, ⟨.DRAM_STAT, 0, c, 0⟩] := by
  have hreq := (OnlyRegs.refl s [⟨.DRAM_CTL, 0, c, 0⟩, ⟨.DRAM_STAT, 0, c, 0⟩]).wf F.DRAM_CTL_SR_REQ (bits w 8 8) _ _ _ (.head _)
  unfold State.storeSrReq
  split
  · exact hreq.wf _ _ _ _ _ (.tail _ (.head _))
  · exact hreq

theorem State.rf_storeSrReq_req : (s.storeSrReq c w).rf F.DRAM_CTL_SR_REQ 0 c = bits w 8 8 := by
  have hstored : (s.wf F.DRAM_CTL_SR_REQ (bits w 8 8) 0 c).rf F.DRAM_CTL_SR_REQ 0 c = bits w 8 8 :=
    State.rf_wf_fits _ F.DRAM_CTL_SR_REQ _ _ _ _ rfl (Nat.mod_lt _ (by decide))
  unfold State.storeSrReq
  split
  · rw [State.rf_wf_apart _ _ _ _ _ _ _ _ _ _ rfl rfl, hstored]
  · exact hstored

theorem State.rf_storeSrReq_en : (s.storeSrReq c w).rf F.DRAM_CTL_EN 0 c = s.rf F.DRAM_CTL_EN 0 c := by
  unfold State.storeSrReq
  split
  · rw [State.rf_wf_apart _ _ _ _ _ _ _ _ _ _ rfl rfl, State.rf_wf_apart _ _ _ _ _ _ _ _ _ _ rfl rfl]
  · rw [State.rf_wf_apart _ _ _ _ _ _ _ _ _ _ rfl rfl]

/-- With SR_REQ = 0 the channel is open, and else it stays as it is (R583). -/
theorem State.rf_storeSrReq_state (hstate : s.dramState c = 2 ∨ s.dramState c = 3) :
    (s.storeSrReq c w).rf F.DRAM_STAT_STATE 0 c = if bit w 8 then s.dramState c else 2 := by
  have hshown : s.rf F.DRAM_STAT_STATE 0 c = s.dramState c := State.rf_of_dramState rfl (by omega)
  have hreq : (s.wf F.DRAM_CTL_SR_REQ (bits w 8 8) 0 c).rf F.DRAM_STAT_STATE 0 c = s.rf F.DRAM_STAT_STATE 0 c :=
    State.rf_wf_apart _ _ _ _ _ _ _ _ _ _ rfl rfl
  unfold State.storeSrReq
  split
  · next hleave =>
    simp only [Bool.and_eq_true, Bool.not_eq_true'] at hleave
    rw [State.rf_wf_fits _ _ _ _ _ _ rfl (by decide), hleave.2]
    rfl
  · next hstay =>
    rw [hreq, hshown]
    cases hbit : bit w 8
    · rcases hstate with h | h
      · exact h
      · exact absurd (by simp [h, hbit]) hstay
    · rfl

/-- A write that does not set RETRAIN leaves an open channel with SR_REQ stored (R583, R592). -/
theorem State.writeDramCtl_srReq (hstate : s.dramState c = 2 ∨ s.dramState c = 3) (hen : s.rf F.DRAM_CTL_EN 0 c = 1)
    (hset : bit w 0 = true) (hretrain : bit w 7 = false) : s.writeDramCtl c w false = s.storeSrReq c w := by
  have hen' : (s.storeSrReq c w).rb F.DRAM_CTL_EN 0 c = true := State.rb_of_rf_one (State.rf_storeSrReq_en.trans hen)
  have hstored : s.writeDramCtl c w false =
      if (s.storeSrReq c w).rb F.DRAM_CTL_EN 0 c || !(s.storeSrReq c w).timingsSet c then s.storeSrReq c w
      else ((s.storeSrReq c w).wf F.DRAM_CTL_EN 1 0 c).dramTrain c := by
    unfold State.writeDramCtl State.storeSrReq
    rcases hstate with h | h <;> simp [h, hset, hretrain]
  rw [hstored, hen', Bool.true_or, if_pos rfl]

/-! ## Trainings and retirement -/

variable (s c)

theorem DramStep.dramTrain {t : State} {rs : List Reg} (h : DramStep s t rs []) (hstat : (⟨.DRAM_STAT, 0, c, 0⟩ : Reg) ∈ rs) :
    DramStep s (t.dramTrain c) rs [] := (h.setDram c _).wf F.DRAM_STAT_STATE 1 c hstat

/-- A training has started: the channel is enabled, and its RATE is the one written (R554). -/
theorem State.trained_spec (w : Nat) (t : State) (ht : ((s.storeRate c w).wf F.DRAM_CTL_EN 1 0 c).dramTrain c = t) :
    t.rf F.DRAM_STAT_STATE 0 c = 1 ∧ t.rf F.DRAM_CTL_EN 0 c = 1 ∧ t.rf F.DRAM_CTL_RATE 0 c = min 6 (bits w 6 4) ∧
      DramStep s t [⟨.DRAM_CTL, 0, c, 0⟩, ⟨.DRAM_STAT, 0, c, 0⟩] [] := by
  subst ht
  have hstored : DramStep s (s.storeRate c w) [⟨.DRAM_CTL, 0, c, 0⟩, ⟨.DRAM_STAT, 0, c, 0⟩] [] :=
    ((DramStep.refl s _).wf F.DRAM_CTL_RATE _ _ (.head _)).wf F.DRAM_CTL_SR_REQ _ _ (.head _)
  refine ⟨State.rf_wf_same _ F.DRAM_STAT_STATE _ _ _ _ rfl, ?_, ?_, (hstored.wf F.DRAM_CTL_EN 1 c (.head _)).dramTrain s c (.tail _ (.head _))⟩
  · unfold State.dramTrain
    rw [State.rf_wf_apart _ _ _ _ _ _ _ _ _ _ rfl rfl, State.setDram_rf]
    exact State.rf_wf_same _ F.DRAM_CTL_EN _ _ _ _ rfl
  · unfold State.dramTrain
    rw [State.rf_wf_apart _ _ _ _ _ _ _ _ _ _ rfl rfl, State.setDram_rf, State.rf_wf_apart _ _ _ _ _ _ _ _ _ _ rfl rfl,
      s.rf_storeRate_rate c w]

/-- A channel with nothing accepted and nothing at its hub as its retirement leaves it (R586). -/
def State.retiredIdle (s : State) (c : Nat) : State :=
  ((((s.setDram c { s.dram c with acc := [], hub := [] }).wf F.DRAM_CTL_EN 0 0 c).wf F.DRAM_STAT_STATE 5 0 c).wf
    F.DRAM_CTL_RETRAIN 0 0 c).raise .dramChannelRetired 0 c

variable {s c}

theorem State.dramRetire_idle (hacc : (s.dram c).acc = []) (hhub : (s.dram c).hub = []) : s.dramRetire c = s.retiredIdle c := by
  unfold State.dramRetire
  dsimp only
  rw [hacc, hhub]
  rfl

theorem State.rf_retiredIdle_state : (s.retiredIdle c).rf F.DRAM_STAT_STATE 0 c = 5 := by
  unfold State.retiredIdle
  rw [State.raise_rf, State.rf_wf_apart _ _ _ _ _ _ _ _ _ _ rfl rfl]
  exact State.rf_wf_same _ F.DRAM_STAT_STATE _ _ _ _ rfl

theorem State.rf_retiredIdle_en : (s.retiredIdle c).rf F.DRAM_CTL_EN 0 c = 0 := by
  unfold State.retiredIdle
  rw [State.raise_rf, State.rf_wf_apart _ _ _ _ _ _ _ _ _ _ rfl rfl, State.rf_wf_apart _ _ _ _ _ _ _ _ _ _ rfl rfl]
  exact State.rf_wf_same _ F.DRAM_CTL_EN _ _ _ _ rfl

theorem DramStep.retiredIdle {t : State} {rs : List Reg} {evs : List FaultEv} (h : DramStep s t rs evs)
    (hctl : (⟨.DRAM_CTL, 0, c, 0⟩ : Reg) ∈ rs) (hstat : (⟨.DRAM_STAT, 0, c, 0⟩ : Reg) ∈ rs) :
    DramStep s (t.retiredIdle c) rs (evs ++ [faultEv .dramChannelRetired 0 c 0]) :=
  ((((h.setDram c _).wf F.DRAM_CTL_EN 0 c hctl).wf F.DRAM_STAT_STATE 5 c hstat).wf F.DRAM_CTL_RETRAIN 0 c hctl).raise _ _ _ _

variable (s c)

/-- A training has failed: the failure is counted and raised (R585). -/
def State.trainFailed (s : State) (c : Nat) : State :=
  (s.setDram c { s.dram c with trainFails := (s.dram c).trainFails + 1 }).raise .dramTrainFailed 0 c

variable {s c}

theorem exec_dramTrainingComplete_good (hstate : s.dramState c = 1) : exec (.dramTrainingComplete c true) s =
    .next ((s.setDram c { s.dram c with trainFails := 0, kept := false }).wf F.DRAM_STAT_STATE 2 0 c) := by
  change execDramTrainingComplete c true s = _
  unfold execDramTrainingComplete
  simp [hstate]

/-- The third training that fails retires the channel (R585). -/
theorem exec_dramTrainingComplete_failed (hstate : s.dramState c = 1) : exec (.dramTrainingComplete c false) s =
    .next (if 2 ≤ (s.dram c).trainFails then (s.trainFailed c).dramRetire c else s.trainFailed c) := by
  change execDramTrainingComplete c false s = _
  unfold execDramTrainingComplete State.trainFailed
  simp [hstate]

/-- The third failure of a channel with nothing to do (R585, R586). -/
theorem State.thirdTrainFailed_spec (hacc : (s.dram c).acc = []) (hhub : (s.dram c).hub = []) (t : State)
    (ht : (s.trainFailed c).dramRetire c = t) : t.rf F.DRAM_STAT_STATE 0 c = 5 ∧ t.rf F.DRAM_CTL_EN 0 c = 0 ∧
      DramStep s t [⟨.DRAM_CTL, 0, c, 0⟩, ⟨.DRAM_STAT, 0, c, 0⟩] [faultEv .dramTrainFailed 0 c 0, faultEv .dramChannelRetired 0 c 0] := by
  have hdram : (s.trainFailed c).dram c = { s.dram c with trainFails := (s.dram c).trainFails + 1 } := by
    unfold State.trainFailed
    rw [State.raise_dram, State.dram_setDram_same]
  rw [State.dramRetire_idle (by rw [hdram]; exact hacc) (by rw [hdram]; exact hhub)] at ht
  subst ht
  exact ⟨State.rf_retiredIdle_state, State.rf_retiredIdle_en,
    DramStep.retiredIdle (((DramStep.refl s _).setDram c _).raise .dramTrainFailed 0 c 0) (.head _) (.tail _ (.head _))⟩

/-! ## Self refresh -/

/-- With SR_REQ set and every accepted transaction completed the channel enters self refresh (R583). -/
theorem exec_selfRefreshEntry_idle (hstate : s.dramState c = 2) (hreq : s.rf F.DRAM_CTL_SR_REQ 0 c = 1) (hacc : (s.dram c).acc = []) :
    exec (.selfRefreshEntry c) s = .next ((s.setDram c { s.dram c with rows := [] }).wf F.DRAM_STAT_STATE 3 0 c) := by
  change execSelfRefreshEntry c s = _
  unfold execSelfRefreshEntry
  simp [hstate, State.rb_of_rf_one hreq, hacc]

theorem exec_selfRefreshEntry_busy (hacc : (s.dram c).acc ≠ []) : exec (.selfRefreshEntry c) s = .next s := by
  change execSelfRefreshEntry c s = _
  unfold execSelfRefreshEntry
  simp [hacc]

/-! ## Centrings -/

variable (s c)

/-- A centring is over, and counted: the channel is open (R556, R583). -/
def State.centred (s : State) (c : Nat) : State :=
  ((s.incE F.DRAM_RETRAIN_CNT_COUNT 0 c).wf F.DRAM_CTL_RETRAIN 0 0 c).wf F.DRAM_STAT_STATE 2 0 c

/-- The registers that a centring may change. -/
def centringRegs (c : Nat) : List Reg := [⟨.DRAM_CTL, 0, c, 0⟩, ⟨.DRAM_STAT, 0, c, 0⟩, ⟨.DRAM_RETRAIN_CNT, 0, c, 0⟩]

theorem State.centred_step : DramStep s (s.centred c) (centringRegs c) [] :=
  (((DramStep.refl s _).incE F.DRAM_RETRAIN_CNT_COUNT c (.tail _ (.tail _ (.head _)))).wf F.DRAM_CTL_RETRAIN 0 c (.head _)).wf
    F.DRAM_STAT_STATE 2 c (.tail _ (.head _))

theorem State.rf_centred_state : (s.centred c).rf F.DRAM_STAT_STATE 0 c = 2 := State.rf_wf_same _ F.DRAM_STAT_STATE _ _ _ _ rfl

theorem State.rf_centred_retrain : (s.centred c).rf F.DRAM_CTL_RETRAIN 0 c = 0 := by
  unfold State.centred
  rw [State.rf_wf_apart _ _ _ _ _ _ _ _ _ _ rfl rfl]
  exact State.rf_wf_same _ F.DRAM_CTL_RETRAIN _ _ _ _ rfl

theorem State.rf_centred_count (hlt : s.rf F.DRAM_RETRAIN_CNT_COUNT 0 c < 2 ^ 32 - 1) :
    (s.centred c).rf F.DRAM_RETRAIN_CNT_COUNT 0 c = s.rf F.DRAM_RETRAIN_CNT_COUNT 0 c + 1 := by
  unfold State.centred
  rw [State.rf_wf_apart _ _ _ _ _ _ _ _ _ _ rfl rfl, State.rf_wf_apart _ _ _ _ _ _ _ _ _ _ rfl rfl, State.rf_incE_one rfl rfl hlt]

/-- A centring has failed: the failure is counted and raised (R585). -/
def State.centringFailed (s : State) (c : Nat) : State :=
  ((s.centred c).setDram c { s.dram c with centreFails := (s.dram c).centreFails + 1 }).raise .dramTrainFailed 0 c

variable {s c}

theorem exec_periodicCentring_good (hstate : s.dramState c = 2 ∨ s.dramState c = 4) :
    exec (.periodicCentring c true) s = .next ((s.centred c).setDram c { s.dram c with centreFails := 0 }) := by
  change execPeriodicCentring c true s = _
  unfold execPeriodicCentring State.centred
  rcases hstate with h | h <;> simp [h]

/-- The second centring that fails running retires the channel (R585). -/
theorem exec_periodicCentring_failed (hstate : s.dramState c = 2 ∨ s.dramState c = 4) : exec (.periodicCentring c false) s =
    .next (if (s.dram c).centreFails = 0 then s.centringFailed c else (s.centringFailed c).dramRetire c) := by
  change execPeriodicCentring c false s = _
  unfold execPeriodicCentring State.centringFailed State.centred
  rcases hstate with h | h <;> by_cases hfirst : (s.dram c).centreFails = 0 <;> simp [h, hfirst, Nat.one_le_iff_ne_zero]

/-- A failed centring of a channel with nothing to do (R585, R586). -/
theorem State.centringFailed_spec (hacc : (s.dram c).acc = []) (hhub : (s.dram c).hub = []) (t : State)
    (ht : (if (s.dram c).centreFails = 0 then s.centringFailed c else (s.centringFailed c).dramRetire c) = t) :
    t.rf F.DRAM_STAT_STATE 0 c = (if (s.dram c).centreFails = 0 then 2 else 5) ∧
      DramStep s t (centringRegs c) (faultEv .dramTrainFailed 0 c 0 ::
        (if (s.dram c).centreFails = 0 then [] else [faultEv .dramChannelRetired 0 c 0])) := by
  have hdram : (s.centringFailed c).dram c = { s.dram c with centreFails := (s.dram c).centreFails + 1 } := by
    unfold State.centringFailed
    rw [State.raise_dram, State.dram_setDram_same]
  have hfailed : DramStep s (s.centringFailed c) (centringRegs c) [faultEv .dramTrainFailed 0 c 0] :=
    ((s.centred_step c).setDram c _).raise .dramTrainFailed 0 c 0
  subst ht
  split
  · refine ⟨?_, hfailed⟩
    unfold State.centringFailed
    rw [State.raise_rf, State.setDram_rf, s.rf_centred_state c]
  · rw [State.dramRetire_idle (by rw [hdram]; exact hacc) (by rw [hdram]; exact hhub)]
    exact ⟨State.rf_retiredIdle_state, hfailed.retiredIdle (.head _) (.tail _ (.head _))⟩

/-! ## Parity alerts -/

variable (s c)

/-- Parity alerts of a channel within the last 1 ms (R585). -/
def State.recentAlerts (s : State) (c : Nat) : List Nat := (s.dram c).alerts.filter fun x => s.now < x + 1000000

/-- A parity alert: every bank is precharged, and the alert counted and raised (R585). -/
def State.alerted (s : State) (c : Nat) : State :=
  ((s.setDram c { s.dram c with rows := [], alerts := if 3 ≤ (s.recentAlerts c).length then [] else s.recentAlerts c ++ [s.now] }).incE
    F.DRAM_ALERT_CNT_COUNT 0 c).raise .dramCaParity 0 c

/-- The registers that a parity alert may change. -/
def alertRegs (c : Nat) : List Reg := [⟨.DRAM_STAT, 0, c, 0⟩, ⟨.DRAM_ALERT_CNT, 0, c, 0⟩]

theorem State.alerted_step : DramStep s (s.alerted c) (alertRegs c) [faultEv .dramCaParity 0 c 0] :=
  (((DramStep.refl s _).setDram c _).incE F.DRAM_ALERT_CNT_COUNT c (.tail _ (.head _))).raise .dramCaParity 0 c 0

theorem State.dramState_alerted : (s.alerted c).dramState c = s.dramState c := by
  have hother : ∀ g : Fld, F.DRAM_ALERT_CNT_COUNT.reg ≠ g.reg → ∀ d i, (s.alerted c).rf g d i = s.rf g d i := by
    intro g hg d i
    unfold State.alerted
    rw [State.raise_rf, State.rf_incE_name _ _ _ _ _ _ _ _ _ _ hg, State.setDram_rf]
  exact State.dramState_congr (hother F.DEV_ROLE_PART_CODE (by decide) 0 0) (hother F.DRAM_STAT_STATE (by decide) 0 c)

theorem State.rf_alerted_count (hlt : s.rf F.DRAM_ALERT_CNT_COUNT 0 c < 2 ^ 32 - 1) :
    (s.alerted c).rf F.DRAM_ALERT_CNT_COUNT 0 c = s.rf F.DRAM_ALERT_CNT_COUNT 0 c + 1 := by
  unfold State.alerted
  rw [State.raise_rf, State.rf_incE_one rfl rfl (by rw [State.setDram_rf]; exact hlt), State.setDram_rf]

theorem State.rows_alerted : ((s.alerted c).dram c).rows = [] := by
  unfold State.alerted
  rw [State.raise_dram, State.incE_dram, State.dram_setDram_same]

variable {s c}

/-- The fourth alert within 1 ms starts a centring of the open channel (R585). -/
theorem exec_dramCaParityAlert_open (hstate : s.dramState c = 2) : exec (.dramCaParityAlert c) s =
    .next (if 3 ≤ (s.recentAlerts c).length then (s.alerted c).wf F.DRAM_STAT_STATE 4 0 c else s.alerted c) := by
  have hopen := (s.dramState_alerted c).trans hstate
  change execDramCaParityAlert c s = _
  unfold State.alerted State.recentAlerts at hopen ⊢
  unfold execDramCaParityAlert
  simp [hopen]

end

/-- Settles O32: each command by the rule of what it does to its channel. -/
theorem dramTrainsAndRetires : Obligations.DramTrainsAndRetires := by
  unfold Obligations.DramTrainsAndRetires
  refine ⟨fun s c w hoff hen htim htag hset => ?starts, fun s c w hoff hen htim htag hset => ?notStarted, fun s c good hstate hgood => ?opens,
    fun s c hstate hfails => ?fails, fun s c hstate hfails hacc hhub => ?retires, fun s c w hstate hen htag hset hretrain => ?recentres,
    fun s c w hstate hen htag hset hretrain => ?srReq, fun s c hstate hreq hacc => ?sleeps, fun s c _ hacc => exec_selfRefreshEntry_busy hacc,
    fun s c hstate hlt => ?centred, fun s c hstate hacc hhub => ?centringFails, fun s c hstate hlt => ?alert⟩
  case starts =>
    obtain ⟨hstate, hen', hrate, hstep⟩ := s.trained_spec c w.data.toNat _ rfl
    refine ⟨_, congrArg Host.Outcome.next ((dramCtlOut_written htag).trans ?_), hstate, hen', hrate, hstep.quiet, hstep.kept⟩
    rw [State.writeDramCtl_off hoff hen hset, htim, if_pos rfl]
  case notStarted =>
    refine ⟨_, congrArg Host.Outcome.next ((dramCtlOut_written htag).trans ?_), (s.rf_storeRate_en c w.data.toNat).trans hen, ?_,
      s.storeRate_only c w.data.toNat⟩
    · rw [State.writeDramCtl_off hoff hen hset, htim, if_neg (by decide)]
    · exact (s.storeRate_only c _).2.rf F.DRAM_STAT_STATE 0 c 0 (by simp [F.DRAM_STAT_STATE])
  case opens =>
    subst hgood
    have hstep := ((DramStep.refl s [⟨.DRAM_STAT, 0, c, 0⟩]).setDram c { s.dram c with trainFails := 0, kept := false }).wf
      F.DRAM_STAT_STATE 2 c (.head _)
    refine ⟨_, exec_dramTrainingComplete_good hstate, State.rf_wf_same _ F.DRAM_STAT_STATE _ _ _ _ rfl, ?_, hstep.quiet, hstep.kept⟩
    rw [State.wf_dram, State.dram_setDram_same]
  case fails =>
    rw [exec_dramTrainingComplete_failed hstate, if_neg (by omega)]
    rfl
  case retires =>
    obtain ⟨hretired, hen, hstep⟩ := State.thirdTrainFailed_spec hacc hhub _ rfl
    exact ⟨_, (exec_dramTrainingComplete_failed hstate).trans (by rw [if_pos hfails]), hretired, hen, hstep.faultLine, hstep.frame, hstep.kept⟩
  case recentres =>
    have honly := (((OnlyRegs.refl s [⟨.DRAM_CTL, 0, c, 0⟩, ⟨.DRAM_STAT, 0, c, 0⟩]).wf F.DRAM_CTL_SR_REQ (bits w.data.toNat 8 8) 0 c 0
      (.head _)).wf F.DRAM_CTL_RETRAIN 1 0 c 0 (.head _)).wf F.DRAM_STAT_STATE 4 0 c 0 (.tail _ (.head _))
    refine ⟨_, congrArg Host.Outcome.next ((dramCtlOut_written htag).trans (State.writeDramCtl_retrain hstate hen hset hretrain)),
      State.rf_wf_same _ F.DRAM_STAT_STATE _ _ _ _ rfl, ?_, ?_, ?_, honly⟩
    · rw [State.rf_wf_apart _ _ _ _ _ _ _ _ _ _ rfl rfl]
      exact State.rf_wf_same _ F.DRAM_CTL_RETRAIN _ _ _ _ rfl
    · rw [State.rf_wf_apart _ _ _ _ _ _ _ _ _ _ rfl rfl, State.rf_wf_apart _ _ _ _ _ _ _ _ _ _ rfl rfl,
        State.rf_wf_apart _ _ _ _ _ _ _ _ _ _ rfl rfl, hen]
    · rw [State.rf_wf_apart _ _ _ _ _ _ _ _ _ _ rfl rfl, State.rf_wf_apart _ _ _ _ _ _ _ _ _ _ rfl rfl,
        State.rf_wf_apart _ _ _ _ _ _ _ _ _ _ rfl rfl]
  case srReq =>
    exact ⟨_, congrArg Host.Outcome.next ((dramCtlOut_written htag).trans (State.writeDramCtl_srReq hstate hen hset hretrain)),
      State.rf_storeSrReq_req, State.rf_storeSrReq_state hstate, State.rf_storeSrReq_en.trans hen, State.storeSrReq_only⟩
  case sleeps =>
    have hstep := ((DramStep.refl s [⟨.DRAM_STAT, 0, c, 0⟩]).setDram c { s.dram c with rows := [] }).wf F.DRAM_STAT_STATE 3 c (.head _)
    refine ⟨_, exec_selfRefreshEntry_idle hstate hreq hacc, State.rf_wf_same _ F.DRAM_STAT_STATE _ _ _ _ rfl, ?_, ?_, hstep.quiet, hstep.kept⟩
    · rw [State.wf_dram, State.dram_setDram_same]
    · rw [State.wf_dram, State.dram_setDram_same]
  case centred =>
    have hstep := (s.centred_step c).setDram c { s.dram c with centreFails := 0 }
    refine ⟨_, exec_periodicCentring_good hstate, ?_, ?_, ?_, ?_, hstep.quiet, hstep.kept⟩
    · rw [State.setDram_rf, s.rf_centred_state c]
    · rw [State.setDram_rf, s.rf_centred_retrain c]
    · rw [State.setDram_rf, s.rf_centred_count c hlt]
    · rw [State.dram_setDram_same]
  case centringFails =>
    obtain ⟨hafter, hstep⟩ := State.centringFailed_spec hacc hhub _ rfl
    exact ⟨_, exec_periodicCentring_failed hstate, hafter, hstep.faultLine, hstep.frame, hstep.kept⟩
  case alert =>
    have hstep := s.alerted_step c
    refine ⟨_, exec_dramCaParityAlert_open hstate, ?_⟩
    change _ ∧ _ ∧ _ ∧ _ = (if 3 ≤ (s.recentAlerts c).length then 4 else 2) ∧ _
    split
    · have hstep' := hstep.wf F.DRAM_STAT_STATE 4 c (.head _)
      refine ⟨?_, hstep'.faultLine, ?_, State.rf_wf_same _ F.DRAM_STAT_STATE _ _ _ _ rfl, hstep'.frame, hstep'.kept⟩
      · rw [State.rf_wf_apart _ _ _ _ _ _ _ _ _ _ rfl rfl, s.rf_alerted_count c hlt]
      · rw [State.wf_dram, s.rows_alerted c]
    · exact ⟨s.rf_alerted_count c hlt, hstep.faultLine, s.rows_alerted c,
        State.rf_of_dramState ((s.dramState_alerted c).trans hstate) (by decide), hstep.frame, hstep.kept⟩

end Sys2Proof.Machine
end

section
/-!
SUPPORT. DRAM channels, acceptance and fill: proofs of the statements O31 and O34.
-/
namespace Sys2Proof.Machine

/-! ## A write that ends in an encrypted unit -/

theorem exec_dramAccept_first {s : State} {c : Nat} {x : Txn} (hhub : (s.dram c).hub[0]? = some x)
    (hfirst : orderedAt (s.dram c).hub 0 x = true) (hroom : s.dramRoom c x = true) :
    exec (.dramAccept c 0) s = .next ((s.setDram c { s.dram c with hub := (s.dram c).hub.eraseIdx 0 }).dramAccept c x) := by
  change execDramAccept c 0 s = _
  unfold execDramAccept
  simp [hhub, hfirst, hroom]

/-- A posted write by master 1 of die 1 to the last word of fill unit 0 of channel 0 and the first word of unit 1. -/
def unitCrossingWrite : Txn := ⟨.write, 1, 1, 0, 0x100000FFF, 2, 48, 0, [dataWord 7, dataWord 8], .posted, 0⟩

/-- Channel 0 is open and both units are filled. Region 0 encrypts unit 1 alone. `unitCrossingWrite` waits at the hub. -/
def secondUnitEncrypted : State :=
  ((((State.reset.wf F.DRAM_STAT_STATE 2 0 0).wf F.DRAM_REGION_EN 1 0 0 0).wf F.DRAM_REGION_BASE 1 0 0 0).wf
    F.DRAM_REGION_LIMIT 1 0 0 0).setDram 0 { Dram.init with hub := [unitCrossingWrite], filled := 3 }

/-- The write covers a part of the burst in unit 1, which is read for the merge and so stands twice in its bank's queue (R537, R569). -/
theorem secondUnitEncrypted_queued :
    (((secondUnitEncrypted.setDram 0
      { secondUnitEncrypted.dram 0 with hub := (secondUnitEncrypted.dram 0).hub.eraseIdx 0 }).dramAccept 0 unitCrossingWrite).dram 0).acc.map
        DramAcc.todo = [[(4088, 0), (4096, 0), (4096, 0)]] := by decide +kernel

/-- Refutes O31: its clause on writes asks that the first word be outside every encrypted region, and nothing in it keeps the others
out of one. `unitCrossingWrite` has its second word in such a region, and needs three bursts where the clause says two. (It crosses a
64-word boundary, so it would be refused at its source (R483, R502); the clause takes any write that waits at the hub.) -/
theorem not_dramPerformsAtAcceptance : ¬ Obligations.DramPerformsAtAcceptance := by
  unfold Obligations.DramPerformsAtAcceptance
  rintro ⟨-, hwrite, -⟩
  have hhub : (secondUnitEncrypted.dram 0).hub[0]? = some unitCrossingWrite := by decide +kernel
  have hfirst : orderedAt (secondUnitEncrypted.dram 0).hub 0 unitCrossingWrite = true := by decide +kernel
  have hroom : secondUnitEncrypted.dramRoom 0 unitCrossingWrite = true := by decide +kernel
  have hflip : secondUnitEncrypted.rb F.PROT_FLIP_CTL_ARM 0 = false := by decide +kernel
  have hplain : secondUnitEncrypted.dramKey 0 (addrLocal unitCrossingWrite.addr - dramBase 0) = none := by decide +kernel
  have hfilled : ∀ u, u ≤ 1 → secondUnitEncrypted.unitFilled 0 u = true := by decide +kernel
  obtain ⟨t, ht, -, hacc, -⟩ := hwrite secondUnitEncrypted 0 0 unitCrossingWrite hhub hfirst hroom rfl rfl hflip hplain
    fun u _ hu => hfilled u hu
  rw [exec_dramAccept_first hhub hfirst hroom] at ht
  obtain rfl := Host.Outcome.next.inj ht
  have hqueued := secondUnitEncrypted_queued
  rw [hacc] at hqueued
  exact absurd hqueued (by decide +kernel)

/-! ## A fill that waits -/

/-- The filler waits while an activate that it needs is held (R553). -/
theorem exec_backgroundFill_held {s : State} {c v : Nat} (hopen : s.dramState c = 2)
    (hnext : nextUnit (s.dram c).filled false (s.dramWords c / 4096 - s.rf F.DRAM_STAT_FILL_UNIT 0 c) (s.rf F.DRAM_STAT_FILL_UNIT 0 c) =
      some v) (hheld : ((s.fillBanks c v).any fun w => s.touchHeld c w) = true) : exec (.backgroundFill c) s = .next s := by
  change execBackgroundFill c s = _
  unfold execBackgroundFill
  dsimp only
  rw [if_neg (not_not.mpr hopen), hnext]
  dsimp only
  rw [if_pos hheld]

/-- Channel 0 is open and nothing is filled. The victim queue of rank 0 is full, and a victim refresh of its bank 0 is held for room,
and with it the activates of that bank. -/
def fillerHeld : State :=
  (State.reset.wf F.DRAM_STAT_STATE 2 0 0).setDram 0
    { Dram.init with victims := [(0, List.replicate 8 (1, 5))], held := [(0, [(0, 9)])] }

/-- Refutes O34: its clause on the filler does not ask that the banks of the unit may be activated. In `fillerHeld` the filler waits, and
unit 0 stays unfilled. -/
theorem not_dramFillsAndHoldsKeys : ¬ Obligations.DramFillsAndHoldsKeys := by
  unfold Obligations.DramFillsAndHoldsKeys
  rintro ⟨hfill, -⟩
  have hopen : fillerHeld.dramState 0 = 2 := by decide +kernel
  have hnext : nextUnit (fillerHeld.dram 0).filled false (fillerHeld.dramWords 0 / 4096 - fillerHeld.rf F.DRAM_STAT_FILL_UNIT 0 0)
      (fillerHeld.rf F.DRAM_STAT_FILL_UNIT 0 0) = some 0 := by decide +kernel
  have hplain : fillerHeld.dramKey 0 (0 * 4096) = none := by decide +kernel
  have hheld : ((fillerHeld.fillBanks 0 0).any fun w => fillerHeld.touchHeld 0 w) = true := by decide +kernel
  have hunfilled : fillerHeld.unitFilled 0 0 = false := by decide +kernel
  obtain ⟨t, ht, hfilled, -⟩ := hfill fillerHeld 0 0 hopen (by decide) hnext hplain
  rw [exec_backgroundFill_held hopen hnext hheld] at ht
  obtain rfl := Host.Outcome.next.inj ht
  rw [hunfilled] at hfilled
  cases hfilled

end Sys2Proof.Machine
end

section
/-!
SUPPORT. Serial lanes and MACs: proofs of the statements O35, O36 and O37. The power states of a lane come first, then clause 72
training.
-/
namespace Sys2Proof.Machine

/-! ## Lanes and their registers -/

/-- Nothing differs but lanes and the registers `rs`. -/
def LaneStep (s t : State) (rs : List Reg) : Prop := t = { s with regs := t.regs, lanes := t.lanes } ∧ RegsKept s t rs

section
variable {s t : State} {rs : List Reg}

theorem LaneStep.refl (s : State) (rs : List Reg) : LaneStep s s rs := ⟨rfl, .refl s rs⟩

theorem LaneStep.setLane (h : LaneStep s t rs) (n : Nat) (x : Lane) : LaneStep s (t.setLane n x) rs := by
  obtain ⟨hframe, hkept⟩ := h
  exact ⟨by rw [hframe]; rfl, hkept⟩

theorem LaneStep.wf (h : LaneStep s t rs) (f : Fld) (v n : Nat) (hf : (⟨f.reg, 0, n, 0⟩ : Reg) ∈ rs) : LaneStep s (t.wf f v 0 n) rs := by
  obtain ⟨hframe, hkept⟩ := h
  exact ⟨by rw [hframe]; rfl, hkept.wf f v 0 n 0 hf⟩

/-- Registers changed first, and then lanes too. -/
theorem LaneStep.ofOnlyRegs (h : OnlyRegs s t rs) : LaneStep s t rs := by
  obtain ⟨hframe, hkept⟩ := h
  exact ⟨by rw [hframe], hkept⟩

end

/-! ## Power states -/

section
variable (s : State) (n : Nat)

/-- A MAC that is told of its lane's leaving P0 keeps every field but LINK_UP (R621). -/
theorem State.rf_macLinkDown (g : Fld) (d i j : Nat) (hg : F.MAC_STAT_LINK_UP.apart g = true) :
    (s.macLinkDown n).rf g d i j = s.rf g d i j := by
  unfold State.macLinkDown
  split
  · exact State.rf_wf_apart _ _ _ _ _ _ _ _ _ _ rfl hg
  · rfl

theorem State.rf_macLinkDown_linkUp (howner : s.rf F.LANE_STAT_OWNER 0 n = 5) :
    (s.macLinkDown n).rf F.MAC_STAT_LINK_UP 0 (s.rf F.LANE_STAT_OWNER_INDEX 0 n) = 0 := by
  unfold State.macLinkDown
  rw [if_pos howner]
  exact State.rf_wf_same _ F.MAC_STAT_LINK_UP _ _ _ _ rfl

theorem OnlyRegs.macLinkDown {s t : State} {rs : List Reg} (h : OnlyRegs s t rs) (n : Nat)
    (hmem : (⟨.MAC_STAT, 0, t.rf F.LANE_STAT_OWNER_INDEX 0 n, 0⟩ : Reg) ∈ rs) : OnlyRegs s (t.macLinkDown n) rs := by
  unfold State.macLinkDown
  split
  · exact h.wf F.MAC_STAT_LINK_UP _ _ _ _ hmem
  · exact h

/-- Lane `n` as it enters P1 or P2: the CDR stops, in P2 the PLL too (R620). -/
def State.powerDown (s : State) (n req : Nat) : State :=
  let u := ((s.wf F.LANE_CTL_PSTATE_REQ req 0 n).wf F.LANE_STAT_PSTATE req 0 n).wf F.LANE_STAT_CDR_LOCK 0 0 n
  if req = 2 then u.wf F.LANE_STAT_PLL_LOCK 0 0 n else u

theorem State.rf_powerDown_apart (req : Nat) (g : Fld) (d i j : Nat) (hreq : F.LANE_CTL_PSTATE_REQ.apart g = true)
    (hst : F.LANE_STAT_PSTATE.apart g = true) (hcdr : F.LANE_STAT_CDR_LOCK.apart g = true)
    (hpll : F.LANE_STAT_PLL_LOCK.apart g = true) : (s.powerDown n req).rf g d i j = s.rf g d i j := by
  unfold State.powerDown
  dsimp only
  split
  · rw [State.rf_wf_apart _ _ _ _ _ _ _ _ _ _ rfl hpll, State.rf_wf_apart _ _ _ _ _ _ _ _ _ _ rfl hcdr,
      State.rf_wf_apart _ _ _ _ _ _ _ _ _ _ rfl hst, State.rf_wf_apart _ _ _ _ _ _ _ _ _ _ rfl hreq]
  · rw [State.rf_wf_apart _ _ _ _ _ _ _ _ _ _ rfl hcdr, State.rf_wf_apart _ _ _ _ _ _ _ _ _ _ rfl hst,
      State.rf_wf_apart _ _ _ _ _ _ _ _ _ _ rfl hreq]

theorem State.rf_powerDown (req : Nat) (hreq : req ≤ 2) :
    (s.powerDown n req).rf F.LANE_STAT_PSTATE 0 n = req ∧ (s.powerDown n req).rf F.LANE_CTL_PSTATE_REQ 0 n = req ∧
      (s.powerDown n req).rf F.LANE_STAT_CDR_LOCK 0 n = 0 ∧
      (s.powerDown n req).rf F.LANE_STAT_PLL_LOCK 0 n = if req = 2 then 0 else s.rf F.LANE_STAT_PLL_LOCK 0 n := by
  have hst : req < 2 ^ F.LANE_STAT_PSTATE.width := Nat.lt_of_le_of_lt hreq (by decide)
  have hctl : req < 2 ^ F.LANE_CTL_PSTATE_REQ.width := Nat.lt_of_le_of_lt hreq (by decide)
  unfold State.powerDown
  dsimp only
  split
  · simp (disch := decide) only [State.rf_wf_apart, State.rf_wf_same, Nat.mod_eq_of_lt hst, Nat.mod_eq_of_lt hctl, Nat.zero_mod, and_self]
  · simp (disch := decide) only [State.rf_wf_apart, State.rf_wf_same, Nat.mod_eq_of_lt hst, Nat.mod_eq_of_lt hctl, Nat.zero_mod, and_self]

theorem OnlyRegs.powerDown {s t : State} {rs : List Reg} (h : OnlyRegs s t rs) (n req : Nat) (hctl : (⟨.LANE_CTL, 0, n, 0⟩ : Reg) ∈ rs)
    (hstat : (⟨.LANE_STAT, 0, n, 0⟩ : Reg) ∈ rs) : OnlyRegs s (t.powerDown n req) rs := by
  have hstored := ((h.wf F.LANE_CTL_PSTATE_REQ req 0 n 0 hctl).wf F.LANE_STAT_PSTATE req 0 n 0 hstat).wf
    F.LANE_STAT_CDR_LOCK 0 0 n 0 hstat
  unfold State.powerDown
  dsimp only
  split
  · exact hstored.wf F.LANE_STAT_PLL_LOCK 0 0 n 0 hstat
  · exact hstored

variable {s n}

/-- In P0, P1 or P2 a request of P1 or P2 takes effect at once (R620, R621). -/
theorem State.pstate_powerDown {req : Nat} (hst : s.rf F.LANE_STAT_PSTATE 0 n ≤ 2) (hret : s.rf F.LANE_STAT_RETIRED 0 n = 0)
    (hreq : req ≠ 0) : s.pstate n req = (s.powerDown n req).macLinkDown n := by
  have hkept : (s.wf F.LANE_CTL_PSTATE_REQ req 0 n).rb F.LANE_STAT_RETIRED 0 n = false := by
    rw [State.rb_wf_apart _ _ _ _ _ _ _ _ _ _ rfl rfl]
    exact State.rb_of_rf_zero hret
  have hexit : ¬(s.rf F.LANE_STAT_PSTATE 0 n = 3 ∨ s.rf F.LANE_STAT_PSTATE 0 n = 4) := by omega
  unfold State.pstate State.powerDown
  simp [hkept, hexit, hreq]

/-- In P1 or P2 a request of P0 starts the exit (R620). -/
theorem State.pstate_exit (hst : s.rf F.LANE_STAT_PSTATE 0 n = 1 ∨ s.rf F.LANE_STAT_PSTATE 0 n = 2)
    (hret : s.rf F.LANE_STAT_RETIRED 0 n = 0) :
    s.pstate n 0 = (s.wf F.LANE_CTL_PSTATE_REQ 0 0 n).wf F.LANE_STAT_PSTATE (s.rf F.LANE_STAT_PSTATE 0 n + 2) 0 n := by
  have hkept : (s.wf F.LANE_CTL_PSTATE_REQ 0 0 n).rb F.LANE_STAT_RETIRED 0 n = false := by
    rw [State.rb_wf_apart _ _ _ _ _ _ _ _ _ _ rfl rfl]
    exact State.rb_of_rf_zero hret
  have hexit : ¬(s.rf F.LANE_STAT_PSTATE 0 n = 3 ∨ s.rf F.LANE_STAT_PSTATE 0 n = 4) := by omega
  have hdown : s.rf F.LANE_STAT_PSTATE 0 n ≠ 0 := by omega
  unfold State.pstate
  simp [hkept, hexit, hdown]

/-- A lane that no Saette link owns takes a request of software (R621, R653). -/
theorem exec_lanePstateRequest_free (hown : s.saetteOwned n = false) (req : Nat) :
    exec (.lanePstateRequest n req) s = .next (s.pstate n (min 2 req)) := by
  change Host.Outcome.next (s.pstateSoft n req) = _
  unfold State.pstateSoft
  rw [hown, if_neg (by decide)]

/-- A lane of a Saette link takes none (R621). -/
theorem exec_lanePstateRequest_saette (hown : s.saetteOwned n = true) (req : Nat) : exec (.lanePstateRequest n req) s = .next s := by
  change Host.Outcome.next (s.pstateSoft n req) = _
  unfold State.pstateSoft
  rw [hown, if_pos rfl]

/-- What a request of P1 or P2 leaves (R620, R621). -/
theorem State.pstate_powerDown_spec {r : Nat} (hst : s.rf F.LANE_STAT_PSTATE 0 n ≤ 2) (hret : s.rf F.LANE_STAT_RETIRED 0 n = 0)
    (hr : r ≠ 0) (t : State) (ht : s.pstate n (min 2 r) = t) :
    t.rf F.LANE_STAT_PSTATE 0 n = min 2 r ∧ t.rf F.LANE_CTL_PSTATE_REQ 0 n = min 2 r ∧ t.rf F.LANE_STAT_CDR_LOCK 0 n = 0 ∧
      t.rf F.LANE_STAT_PLL_LOCK 0 n = (if r = 1 then s.rf F.LANE_STAT_PLL_LOCK 0 n else 0) ∧
      (s.rf F.LANE_STAT_OWNER 0 n = 5 → t.rf F.MAC_STAT_LINK_UP 0 (s.rf F.LANE_STAT_OWNER_INDEX 0 n) = 0) ∧
      OnlyRegs s t [⟨.LANE_CTL, 0, n, 0⟩, ⟨.LANE_STAT, 0, n, 0⟩, ⟨.MAC_STAT, 0, s.rf F.LANE_STAT_OWNER_INDEX 0 n, 0⟩] := by
  obtain ⟨hnow, hreq, hcdr, hpll⟩ := s.rf_powerDown n (min 2 r) (Nat.min_le_left 2 r)
  have howner : (s.powerDown n (min 2 r)).rf F.LANE_STAT_OWNER 0 n = s.rf F.LANE_STAT_OWNER 0 n :=
    s.rf_powerDown_apart n _ _ 0 n 0 rfl rfl rfl rfl
  have hindex : (s.powerDown n (min 2 r)).rf F.LANE_STAT_OWNER_INDEX 0 n = s.rf F.LANE_STAT_OWNER_INDEX 0 n :=
    s.rf_powerDown_apart n _ _ 0 n 0 rfl rfl rfl rfl
  have hone : (if min 2 r = 2 then 0 else s.rf F.LANE_STAT_PLL_LOCK 0 n) = if r = 1 then s.rf F.LANE_STAT_PLL_LOCK 0 n else 0 := by
    split_ifs <;> omega
  rw [State.pstate_powerDown hst hret (by omega)] at ht
  subst ht
  refine ⟨(State.rf_macLinkDown _ _ _ _ _ _ rfl).trans hnow, (State.rf_macLinkDown _ _ _ _ _ _ rfl).trans hreq,
    (State.rf_macLinkDown _ _ _ _ _ _ rfl).trans hcdr, (State.rf_macLinkDown _ _ _ _ _ _ rfl).trans (hpll.trans hone), fun h => ?_,
    ((OnlyRegs.refl s _).powerDown n _ (.head _) (.tail _ (.head _))).macLinkDown n (by simp [hindex])⟩
  rw [← hindex]
  exact State.rf_macLinkDown_linkUp _ n (howner.trans h)

/-- What a request of P0 leaves (R620). -/
theorem State.pstate_exit_spec (hst : s.rf F.LANE_STAT_PSTATE 0 n = 1 ∨ s.rf F.LANE_STAT_PSTATE 0 n = 2)
    (hret : s.rf F.LANE_STAT_RETIRED 0 n = 0) (t : State) (ht : s.pstate n 0 = t) :
    t.rf F.LANE_STAT_PSTATE 0 n = s.rf F.LANE_STAT_PSTATE 0 n + 2 ∧ OnlyRegs s t [⟨.LANE_CTL, 0, n, 0⟩, ⟨.LANE_STAT, 0, n, 0⟩] := by
  have hfits : s.rf F.LANE_STAT_PSTATE 0 n + 2 < 2 ^ F.LANE_STAT_PSTATE.width := by
    change _ < 8
    omega
  rw [State.pstate_exit hst hret] at ht
  subst ht
  exact ⟨State.rf_wf_fits _ _ _ _ _ _ rfl hfits,
    ((OnlyRegs.refl s _).wf F.LANE_CTL_PSTATE_REQ _ _ _ _ (.head _)).wf F.LANE_STAT_PSTATE _ _ _ _ (.tail _ (.head _))⟩

end

/-! ## The end of an exit -/

section
variable (s : State) (n rx : Nat)

/-- The lane in P0, with both locks (R620). -/
def State.reachP0 (s : State) (n : Nat) : State :=
  ((s.wf F.LANE_STAT_PSTATE 0 0 n).wf F.LANE_STAT_PLL_LOCK 1 0 n).wf F.LANE_STAT_CDR_LOCK 1 0 n

theorem State.rf_reachP0 : (s.reachP0 n).rf F.LANE_STAT_PSTATE 0 n = 0 ∧ (s.reachP0 n).rf F.LANE_STAT_PLL_LOCK 0 n = 1 ∧
    (s.reachP0 n).rf F.LANE_STAT_CDR_LOCK 0 n = 1 := by
  unfold State.reachP0
  simp (disch := decide) only [State.rf_wf_apart, State.rf_wf_fits, and_self]

theorem State.reachP0_only (rs : List Reg) (hstat : (⟨.LANE_STAT, 0, n, 0⟩ : Reg) ∈ rs) : OnlyRegs s (s.reachP0 n) rs :=
  (((OnlyRegs.refl s rs).wf F.LANE_STAT_PSTATE 0 0 n 0 hstat).wf F.LANE_STAT_PLL_LOCK 1 0 n 0 hstat).wf F.LANE_STAT_CDR_LOCK 1 0 n 0 hstat

/-- The adaptive fields of LANE_RX that `rx` holds, in their places (R618). -/
def adaptWord (rx : Nat) : Nat := rx / 2 ^ 44 % 16 * 2 ^ 44 + rx % 2 ^ 30

/-- With ADAPT_EN set the receiver takes those fields (R618). -/
def State.adaptRx (s : State) (n rx : Nat) : State := if s.rb F.LANE_CTL_ADAPT_EN 0 n then s.ww .LANE_RX (adaptWord rx) 0 n else s

theorem State.rf_adaptRx_name (g : Fld) (d i j : Nat) (hg : .LANE_RX ≠ g.reg) : (s.adaptRx n rx).rf g d i j = s.rf g d i j := by
  unfold State.adaptRx
  split
  · exact State.rf_ww_name _ _ _ _ _ _ _ _ _ _ hg
  · rfl

theorem OnlyRegs.adaptRx {s t : State} {rs : List Reg} (h : OnlyRegs s t rs) (n rx : Nat) (hrx : (⟨.LANE_RX, 0, n, 0⟩ : Reg) ∈ rs) :
    OnlyRegs s (t.adaptRx n rx) rs := by
  unfold State.adaptRx
  split
  · exact h.ww _ _ _ _ _ hrx
  · exact h

theorem State.rf_adaptRx (hen : s.rf F.LANE_CTL_ADAPT_EN 0 n = 1) : (s.adaptRx n rx).rf F.LANE_RX_CTLE 0 n = bits rx 47 44 ∧
    (s.adaptRx n rx).rf F.LANE_RX_DFE_1 0 n = bits rx 5 0 ∧ (s.adaptRx n rx).rf F.LANE_RX_DFE_5 0 n = bits rx 29 24 := by
  have hword : s.adaptRx n rx = s.ww .LANE_RX (adaptWord rx) 0 n := if_pos (State.rb_of_rf_one hen)
  have hfld : ∀ f : Fld, f.reg = .LANE_RX →
      (s.adaptRx n rx).rf f 0 n = bits (adaptWord rx % 2 ^ 48) f.hi f.lo := by
    rintro f hf
    rw [hword, ← hf]
    exact s.rf_ww_same f _ 0 n 0
  rw [hfld _ rfl, hfld _ rfl, hfld _ rfl]
  simp only [adaptWord, bits, F.LANE_RX_CTLE, F.LANE_RX_DFE_1, F.LANE_RX_DFE_5]
  omega

theorem State.reg_adaptRx_off (hen : s.rf F.LANE_CTL_ADAPT_EN 0 n ≠ 1) (q : Reg) : (s.adaptRx n rx).reg q = s.reg q := by
  unfold State.adaptRx
  rw [if_neg (by simpa [State.rb] using hen)]

end

section
variable {s : State} {n rx : Nat}

@[simp] theorem State.reachP0_lane (k : Nat) : (s.reachP0 n).lane k = s.lane k := by
  unfold State.reachP0
  rw [State.wf_lane, State.wf_lane, State.wf_lane]

@[simp] theorem State.adaptRx_lane (k : Nat) : (s.adaptRx n rx).lane k = s.lane k := by
  unfold State.adaptRx
  split
  · exact State.ww_lane _ _ _ _ _ _ _
  · rfl

/-- The training that a link has asked for starts (R612). -/
def State.trainAsked (s : State) (n : Nat) : State :=
  if (s.lane n).toTrain then (s.setLane n { s.lane n with toTrain := false }).trainStart n else s

/-- A request made during the exit takes effect (R622). -/
def State.takeWanted (s : State) (n : Nat) : State :=
  match (s.lane n).want with
  | none => s
  | some r => (s.setLane n { s.lane n with want := none }).pstate n r

theorem State.takeWanted_none (hwant : (s.lane n).want = none) : s.takeWanted n = s := by
  unfold State.takeWanted
  rw [hwant]

/-- A training that starts leaves the request that waits at its lane. -/
theorem State.trainStart_want : ((s.trainStart n).lane n).want = (s.lane n).want := by
  unfold State.trainStart
  split
  · rw [State.lane_setLane_same]
  · rw [State.wf_lane]

theorem State.trainAsked_want : ((s.trainAsked n).lane n).want = (s.lane n).want := by
  unfold State.trainAsked
  split
  · rw [State.trainStart_want, State.lane_setLane_same]
  · rfl

theorem State.adaptRx_reachP0_lane : ((s.reachP0 n).adaptRx n rx).lane n = s.lane n :=
  (State.adaptRx_lane n).trans (State.reachP0_lane n)

/-- An exit that no request waits for ends in P0, and trains where the link has asked for it (R612, R618, R620). -/
theorem exec_laneP0Reached_exit (hst : s.rf F.LANE_STAT_PSTATE 0 n = 3 ∨ s.rf F.LANE_STAT_PSTATE 0 n = 4)
    (hwant : (s.lane n).want = none) :
    exec (.laneP0Reached n rx) s = .next (((s.reachP0 n).adaptRx n rx).trainAsked n) := by
  change execLaneP0Reached n rx s = _
  unfold execLaneP0Reached State.trainAsked
  rw [State.adaptRx_reachP0_lane]
  unfold State.adaptRx adaptWord State.reachP0
  -- By proofs and not by unfolding: the kernel cannot afford to evaluate the lane that the match looks at.
  cases hen : s.rb F.LANE_CTL_ADAPT_EN 0 n <;> cases hasked : (s.lane n).toTrain <;>
    · simp -implicitDefEqProofs (disch := decide) [State.rb_wf_apart, hen, hasked, hwant, State.trainStart_want]
      omega

/-- What an exit leaves when no training has been asked for. -/
theorem State.exit_spec (hasked : (s.lane n).toTrain = false) (t : State) (ht : ((s.reachP0 n).adaptRx n rx).trainAsked n = t) :
    t.rf F.LANE_STAT_PSTATE 0 n = 0 ∧ t.rf F.LANE_STAT_PLL_LOCK 0 n = 1 ∧ t.rf F.LANE_STAT_CDR_LOCK 0 n = 1 ∧
      (if s.rf F.LANE_CTL_ADAPT_EN 0 n = 1 then t.rf F.LANE_RX_CTLE 0 n = bits rx 47 44 ∧ t.rf F.LANE_RX_DFE_1 0 n = bits rx 5 0 ∧
        t.rf F.LANE_RX_DFE_5 0 n = bits rx 29 24 else t.reg ⟨.LANE_RX, 0, n, 0⟩ = s.reg ⟨.LANE_RX, 0, n, 0⟩) ∧
      OnlyRegs s t [⟨.LANE_STAT, 0, n, 0⟩, ⟨.LANE_RX, 0, n, 0⟩] := by
  obtain ⟨hnow, hpll, hcdr⟩ := s.rf_reachP0 n
  have honly := s.reachP0_only n [⟨.LANE_STAT, 0, n, 0⟩, ⟨.LANE_RX, 0, n, 0⟩] (.head _)
  have hen : (s.reachP0 n).rf F.LANE_CTL_ADAPT_EN 0 n = s.rf F.LANE_CTL_ADAPT_EN 0 n := honly.2.rf F.LANE_CTL_ADAPT_EN 0 n 0 (by simp [F.LANE_CTL_ADAPT_EN])
  have hrx : (s.reachP0 n).reg ⟨.LANE_RX, 0, n, 0⟩ = s.reg ⟨.LANE_RX, 0, n, 0⟩ :=
    (s.reachP0_only n [⟨.LANE_STAT, 0, n, 0⟩] (.head _)).2 _ (by simp)
  have hidle : ((s.reachP0 n).adaptRx n rx).trainAsked n = (s.reachP0 n).adaptRx n rx :=
    if_neg (by rw [State.adaptRx_reachP0_lane, hasked]; decide)
  rw [hidle] at ht
  subst ht
  refine ⟨(State.rf_adaptRx_name _ _ _ _ _ _ _ (by decide)).trans hnow, (State.rf_adaptRx_name _ _ _ _ _ _ _ (by decide)).trans hpll,
    (State.rf_adaptRx_name _ _ _ _ _ _ _ (by decide)).trans hcdr, ?_, honly.adaptRx n rx (.tail _ (.head _))⟩
  split
  · next h => exact State.rf_adaptRx _ n rx (hen.trans h)
  · next h => exact (State.reg_adaptRx_off _ n rx (by rwa [hen]) _).trans hrx

end

/-! ## Clause 72 training -/

/-- A lane whose training starts: nobody is ready, and no request has been answered (R612). -/
def Lane.startTraining (x : Lane) : Lane := { x with rxReady := false, peerReady := false, stat0 := 0, statM := 0, statP := 0 }

/-- The answer to the last request for a coefficient (R613). -/
def Lane.stat (x : Lane) (k : Nat) : Nat := if k = 0 then x.stat0 else if k = 1 then x.statM else x.statP

/-- A lane with that answer. -/
def Lane.setStat (x : Lane) (k v : Nat) : Lane :=
  if k = 0 then { x with stat0 := v } else if k = 1 then { x with statM := v } else { x with statP := v }

theorem Lane.stat_setStat (x : Lane) (k v : Nat) : (x.setStat k v).stat k = v := by
  unfold Lane.stat Lane.setStat
  split_ifs <;> rfl

section
variable {s : State} {n : Nat}

theorem State.training_of_rf (htrain : s.rf F.LANE_STAT_TRAIN_STATE 0 n = 1) : s.training n = true := by
  unfold State.training
  rw [htrain]
  rfl

/-- At 10.3125 Gb/s with TRAIN_EN set the training starts (R612). -/
theorem State.trainStart_runs (hen : s.rf F.LANE_CTL_TRAIN_EN 0 n = 1) (hrate : s.rf F.LANE_CTL_RATE 0 n = 2) :
    s.trainStart n = (s.wf F.LANE_STAT_TRAIN_STATE 1 0 n).setLane n (s.lane n).startTraining := by
  unfold State.trainStart
  rw [State.rb_of_rf_one hen, hrate, if_pos (by decide)]
  rfl

/-! ### Taps -/

theorem State.rf_setTaps {pre main post : Nat} (hpre : pre < 2 ^ F.LANE_TX_PRE.width) (hmain : main < 2 ^ F.LANE_TX_MAIN.width)
    (hpost : post < 2 ^ F.LANE_TX_POST.width) : (s.setTaps n pre main post).rf F.LANE_TX_PRE 0 n = pre ∧
      (s.setTaps n pre main post).rf F.LANE_TX_MAIN 0 n = main ∧ (s.setTaps n pre main post).rf F.LANE_TX_POST 0 n = post := by
  unfold State.setTaps
  simp (disch := decide) only [State.rf_wf_apart, State.rf_wf_same, Nat.mod_eq_of_lt hpre, Nat.mod_eq_of_lt hmain,
    Nat.mod_eq_of_lt hpost, and_self]

theorem OnlyRegs.setTaps {s t : State} {rs : List Reg} (h : OnlyRegs s t rs) (n pre main post : Nat)
    (htx : (⟨.LANE_TX, 0, n, 0⟩ : Reg) ∈ rs) : OnlyRegs s (t.setTaps n pre main post) rs :=
  ((h.wf F.LANE_TX_PRE pre 0 n 0 htx).wf F.LANE_TX_MAIN main 0 n 0 htx).wf F.LANE_TX_POST post 0 n 0 htx

theorem LaneStep.setTaps {s t : State} {rs : List Reg} (h : LaneStep s t rs) (n pre main post : Nat)
    (htx : (⟨.LANE_TX, 0, n, 0⟩ : Reg) ∈ rs) : LaneStep s (t.setTaps n pre main post) rs :=
  ((h.wf F.LANE_TX_PRE pre n htx).wf F.LANE_TX_MAIN main n htx).wf F.LANE_TX_POST post n htx

@[simp] theorem State.setTaps_lane (pre main post k : Nat) : (s.setTaps n pre main post).lane k = s.lane k := by
  unfold State.setTaps
  rw [State.wf_lane, State.wf_lane, State.wf_lane]

/-- Taps within their limits fit their fields (R611). -/
theorem tapsOk_fits {p m q : Int} (h : tapsOk p m q = true) : p.toNat < 64 ∧ m.toNat < 64 ∧ q.toNat < 64 := by
  simp only [tapsOk, Bool.and_eq_true, decide_eq_true_eq] at h
  omega

/-- A request for coefficient `k` is answered (R613). -/
def State.answer (s : State) (n k st : Nat) : State := s.setLane n ((s.lane n).setStat k st)

theorem State.lane_answer (k st : Nat) : (s.answer n k st).lane n = (s.lane n).setStat k st := State.lane_setLane_same _ _ _

/-- A lane in training takes the taps asked for if they meet the limits, and else answers maximum or minimum (R613, R614). -/
theorem State.coefficient_training (k : Nat) (up : Bool) {d p m q : Int} (htrain : s.rf F.LANE_STAT_TRAIN_STATE 0 n = 1)
    (hd : d = if up then 1 else -1)
    (hp : (s.rf F.LANE_TX_PRE 0 n : Int) - (if k = 1 then d else 0) = p)
    (hm : (s.rf F.LANE_TX_MAIN 0 n : Int) + (if k = 0 then d else 0) = m)
    (hq : (s.rf F.LANE_TX_POST 0 n : Int) - (if k = 2 then d else 0) = q) :
    s.coefficient n k up = if tapsOk p m q then (s.answer n k 1).setTaps n p.toNat m.toNat q.toNat
      else s.answer n k (if up then 3 else 2) := by
  subst hd
  have hasked : s.training n = true := State.training_of_rf htrain
  unfold State.coefficient State.setTaps State.answer Lane.setStat
  rw [hasked]
  dsimp only
  rw [hp, hm, hq]
  cases tapsOk p m q with
  | false => simp
  | true => simp

/-- What a request for a coefficient leaves. -/
theorem State.coefficient_spec {k pre main post : Nat} (up : Bool) {d p m q : Int} (htrain : s.rf F.LANE_STAT_TRAIN_STATE 0 n = 1)
    (hd : d = if up then 1 else -1)
    (hp : (s.rf F.LANE_TX_PRE 0 n : Int) - (if k = 1 then d else 0) = p)
    (hm : (s.rf F.LANE_TX_MAIN 0 n : Int) + (if k = 0 then d else 0) = m)
    (hq : (s.rf F.LANE_TX_POST 0 n : Int) - (if k = 2 then d else 0) = q)
    (hpre : p.toNat = pre) (hmain : m.toNat = main) (hpost : q.toNat = post) (t : State) (ht : s.coefficient n k up = t) :
    (if tapsOk p m q then t.rf F.LANE_TX_PRE 0 n = pre ∧ t.rf F.LANE_TX_MAIN 0 n = main ∧ t.rf F.LANE_TX_POST 0 n = post ∧
        (t.lane n).stat k = 1
      else t.reg ⟨.LANE_TX, 0, n, 0⟩ = s.reg ⟨.LANE_TX, 0, n, 0⟩ ∧ (t.lane n).stat k = if up then 3 else 2) ∧
      LaneStep s t [⟨.LANE_TX, 0, n, 0⟩] := by
  have hanswered : ∀ st, LaneStep s (s.answer n k st) [⟨.LANE_TX, 0, n, 0⟩] := fun _ => (LaneStep.refl s _).setLane n _
  rw [State.coefficient_training k up htrain hd hp hm hq] at ht
  subst hpre hmain hpost
  split at ht
  · next hok =>
    obtain ⟨hpfit, hmfit, hqfit⟩ := tapsOk_fits hok
    obtain ⟨hpre, hmain, hpost⟩ := (s.answer n k 1).rf_setTaps (n := n) hpfit hmfit hqfit
    subst ht
    rw [if_pos hok, State.setTaps_lane, State.lane_answer, Lane.stat_setStat]
    exact ⟨⟨hpre, hmain, hpost, rfl⟩, (hanswered 1).setTaps n _ _ _ (.head _)⟩
  · next hok =>
    subst ht
    rw [if_neg hok, State.lane_answer, Lane.stat_setStat]
    exact ⟨⟨State.setLane_reg _ _ _ _, rfl⟩, hanswered _⟩

theorem b2n_beq_cast (k j : Nat) : (b2n (k == j) : Int) = if k = j then 1 else 0 := by
  by_cases h : k = j
  · simp [b2n, h]
  · simp [b2n, h]

theorem exec_preset_training (htrain : s.rf F.LANE_STAT_TRAIN_STATE 0 n = 1) : exec (.preset n) s = .next (s.setTaps n 0 63 0) :=
  congrArg Host.Outcome.next (if_pos (State.training_of_rf htrain))

theorem exec_initialise_training (htrain : s.rf F.LANE_STAT_TRAIN_STATE 0 n = 1) : exec (.initialise n) s =
    .next (s.setTaps n (s.rf F.LANE_TX_INIT_PRE 0 n) (s.rf F.LANE_TX_INIT_MAIN 0 n) (s.rf F.LANE_TX_INIT_POST 0 n)) :=
  congrArg Host.Outcome.next (if_pos (State.training_of_rf htrain))

/-- Taps set at once, that fit their fields. -/
theorem State.setTaps_spec {pre main post : Nat} (hpre : pre < 2 ^ F.LANE_TX_PRE.width) (hmain : main < 2 ^ F.LANE_TX_MAIN.width)
    (hpost : post < 2 ^ F.LANE_TX_POST.width) (t : State) (ht : s.setTaps n pre main post = t) :
    t.rf F.LANE_TX_PRE 0 n = pre ∧ t.rf F.LANE_TX_MAIN 0 n = main ∧ t.rf F.LANE_TX_POST 0 n = post ∧
      OnlyRegs s t [⟨.LANE_TX, 0, n, 0⟩] := by
  obtain ⟨hpre, hmain, hpost⟩ := State.rf_setTaps (s := s) (n := n) hpre hmain hpost
  subst ht
  exact ⟨hpre, hmain, hpost, (OnlyRegs.refl s _).setTaps n _ _ _ (.head _)⟩

/-! ### The course of a training -/

theorem exec_laneTrainingTimeout_training (htrain : s.rf F.LANE_STAT_TRAIN_STATE 0 n = 1) :
    exec (.laneTrainingTimeout n) s = .next ((s.wf F.LANE_STAT_TRAIN_STATE 3 0 n).raise .laneTrainFailed 0 n) :=
  congrArg Host.Outcome.next (if_pos (State.training_of_rf htrain))

/-- What a training that starts leaves. -/
theorem State.trainStart_spec (hen : s.rf F.LANE_CTL_TRAIN_EN 0 n = 1) (hrate : s.rf F.LANE_CTL_RATE 0 n = 2) :
    (s.trainStart n).rf F.LANE_STAT_TRAIN_STATE 0 n = 1 ∧ (s.trainStart n).lane n = (s.lane n).startTraining ∧
      (∀ g : Fld, F.LANE_STAT_TRAIN_STATE.apart g = true → (s.trainStart n).rf g 0 n = s.rf g 0 n) ∧
      ∀ {u : State} {rs : List Reg}, LaneStep u s rs → ⟨.LANE_STAT, 0, n, 0⟩ ∈ rs → LaneStep u (s.trainStart n) rs := by
  rw [State.trainStart_runs hen hrate]
  refine ⟨?_, State.lane_setLane_same _ _ _, fun g hg => ?_, fun h hmem => (h.wf F.LANE_STAT_TRAIN_STATE 1 n hmem).setLane n _⟩
  · rw [State.setLane_rf]
    exact State.rf_wf_same _ F.LANE_STAT_TRAIN_STATE _ _ _ _ rfl
  · rw [State.setLane_rf]
    exact State.rf_wf_apart _ _ _ _ _ _ _ _ _ _ rfl hg

theorem exec_laneTrainingRestart_failed (hfailed : s.rf F.LANE_STAT_TRAIN_STATE 0 n = 3) (howner : s.rf F.LANE_STAT_OWNER 0 n ≠ 0) :
    exec (.laneTrainingRestart n) s = .next (s.trainStart n) := by
  change Host.Outcome.next (if _ then s.trainStart n else s) = _
  rw [if_pos (by simp [hfailed, howner])]

/-- What an exit leaves when training has been asked for (R612). -/
theorem State.exit_trains (hasked : (s.lane n).toTrain = true) (hen : s.rf F.LANE_CTL_TRAIN_EN 0 n = 1)
    (hrate : s.rf F.LANE_CTL_RATE 0 n = 2) (rx : Nat) (t : State) (ht : ((s.reachP0 n).adaptRx n rx).trainAsked n = t) :
    t.rf F.LANE_STAT_PSTATE 0 n = 0 ∧ t.rf F.LANE_STAT_TRAIN_STATE 0 n = 1 ∧ (t.lane n).toTrain = false ∧ (t.lane n).rxReady = false ∧
      (t.lane n).peerReady = false ∧ LaneStep s t [⟨.LANE_STAT, 0, n, 0⟩, ⟨.LANE_RX, 0, n, 0⟩] := by
  have honly := (s.reachP0_only n [⟨.LANE_STAT, 0, n, 0⟩, ⟨.LANE_RX, 0, n, 0⟩] (.head _)).adaptRx n rx (.tail _ (.head _))
  have hstep := (LaneStep.ofOnlyRegs honly).setLane n { s.lane n with toTrain := false }
  have hen' := (State.setLane_rf _ n { s.lane n with toTrain := false } _ _ _ _).trans
    ((honly.2.rf F.LANE_CTL_TRAIN_EN 0 n 0 (by simp [F.LANE_CTL_TRAIN_EN])).trans hen)
  have hrate' := (State.setLane_rf _ n { s.lane n with toTrain := false } _ _ _ _).trans
    ((honly.2.rf F.LANE_CTL_RATE 0 n 0 (by simp [F.LANE_CTL_RATE])).trans hrate)
  have hnow := (State.setLane_rf _ n { s.lane n with toTrain := false } _ _ _ _).trans
    ((State.rf_adaptRx_name _ n rx F.LANE_STAT_PSTATE 0 n 0 (by decide)).trans (s.rf_reachP0 n).1)
  have hstarts : ((s.reachP0 n).adaptRx n rx).trainAsked n =
      (((s.reachP0 n).adaptRx n rx).setLane n { s.lane n with toTrain := false }).trainStart n := by
    unfold State.trainAsked
    rw [State.adaptRx_reachP0_lane, if_pos hasked]
  rw [hstarts] at ht
  subst ht
  obtain ⟨hstate, hlane, hrest, hkept⟩ := State.trainStart_spec
    (s := ((s.reachP0 n).adaptRx n rx).setLane n { s.lane n with toTrain := false }) hen' hrate'
  rw [State.lane_setLane_same] at hlane
  rw [hlane]
  exact ⟨(hrest _ rfl).trans hnow, hstate, rfl, rfl, rfl, hkept hstep (.head _)⟩

/-- A lane of which one end has become ready (R615). -/
def Lane.declareReady (x : Lane) (peer : Bool) : Lane := if peer then { x with peerReady := true } else { x with rxReady := true }

/-- With the other end ready already the training completes (R616). -/
theorem exec_receiverReady_both {peer : Bool} (htrain : s.rf F.LANE_STAT_TRAIN_STATE 0 n = 1)
    (hother : (if peer then (s.lane n).rxReady else (s.lane n).peerReady) = true) (rx : Nat) :
    exec (.receiverReady n peer rx) s =
      .next (((if peer then s else s.adaptRx n rx).setLane n ((s.lane n).declareReady peer)).wf F.LANE_STAT_TRAIN_STATE 2 0 n) := by
  have hasked : s.training n = true := State.training_of_rf htrain
  change execReceiverReady n peer rx s = _
  unfold execReceiverReady State.adaptRx adaptWord Lane.declareReady
  cases peer with
  | false =>
    have hpeer : (s.lane n).peerReady = true := hother
    simp [hasked, hpeer]
  | true =>
    have hrx : (s.lane n).rxReady = true := hother
    simp [hasked, hrx]

/-- A lane of which both ends are ready. -/
theorem Lane.declareReady_both {x : Lane} {peer : Bool} (hother : (if peer then x.rxReady else x.peerReady) = true) :
    (x.declareReady peer).rxReady = true ∧ (x.declareReady peer).peerReady = true := by
  cases peer with
  | false => exact ⟨rfl, hother⟩
  | true => exact ⟨hother, rfl⟩

/-- What a training that completes leaves (R615, R616). -/
theorem State.trainingDone_spec {peer : Bool} (hother : (if peer then (s.lane n).rxReady else (s.lane n).peerReady) = true) (rx : Nat)
    (t : State)
    (ht : ((if peer then s else s.adaptRx n rx).setLane n ((s.lane n).declareReady peer)).wf F.LANE_STAT_TRAIN_STATE 2 0 n = t) :
    t.rf F.LANE_STAT_TRAIN_STATE 0 n = 2 ∧ (t.lane n).rxReady = true ∧ (t.lane n).peerReady = true ∧
      LaneStep s t [⟨.LANE_STAT, 0, n, 0⟩, ⟨.LANE_RX, 0, n, 0⟩] := by
  have hadapted : OnlyRegs s (if peer then s else s.adaptRx n rx) [⟨.LANE_STAT, 0, n, 0⟩, ⟨.LANE_RX, 0, n, 0⟩] := by
    split
    · exact .refl s _
    · exact (OnlyRegs.refl s _).adaptRx n rx (.tail _ (.head _))
  obtain ⟨hrx, hpeer⟩ := Lane.declareReady_both hother
  subst ht
  rw [State.wf_lane, State.lane_setLane_same]
  exact ⟨State.rf_wf_same _ F.LANE_STAT_TRAIN_STATE _ _ _ _ rfl, hrx, hpeer,
    ((LaneStep.ofOnlyRegs hadapted).setLane n _).wf F.LANE_STAT_TRAIN_STATE 2 n (.head _)⟩

end

/-- Settles O35: each clause by the lemma on its command. -/
theorem lanesChangePowerAndTrain : Obligations.LanesChangePowerAndTrain := by
  unfold Obligations.LanesChangePowerAndTrain
  refine ⟨fun s n r hst hret hown hr => ?_, fun s n hst hret hown => ?_, fun s n r hown => exec_lanePstateRequest_saette hown r,
    fun s n rx hst hwant hasked => ?_, fun s n k htrain hk => ?_, fun s n k htrain hk => ?_, fun s n htrain => ?_, fun s n htrain => ?_,
    fun s n htrain => ?_, fun s n hfailed howner hen hrate => ?_, fun s n rx p htrain hother => ?_,
    fun s n rx hst hwant hasked hen hrate => ?_⟩
  · exact ⟨_, exec_lanePstateRequest_free hown r, State.pstate_powerDown_spec hst hret hr _ rfl⟩
  · exact ⟨_, exec_lanePstateRequest_free hown 0, State.pstate_exit_spec hst hret _ rfl⟩
  · exact ⟨_, exec_laneP0Reached_exit hst hwant, State.exit_spec hasked _ rfl⟩
  · have hup : ∀ v j, ((v : Nat) : Int) - (if k = j then 1 else 0) = v - b2n (k == j) := fun v j => by rw [b2n_beq_cast]
    exact ⟨_, rfl, State.coefficient_spec (d := 1) true htrain rfl (hup _ 1) (by rw [b2n_beq_cast]) (hup _ 2) (Int.toNat_sub _ _)
      (by omega) (Int.toNat_sub _ _) _ rfl⟩
  · have hdown : ∀ v j, ((v : Nat) : Int) - (if k = j then -1 else 0) = v + b2n (k == j) := fun v j => by
      rw [b2n_beq_cast]
      split <;> omega
    have hmain : (s.rf F.LANE_TX_MAIN 0 n : Int) + (if k = 0 then -1 else 0) = s.rf F.LANE_TX_MAIN 0 n - b2n (k == 0) := by
      rw [b2n_beq_cast]
      split <;> omega
    exact ⟨_, rfl, State.coefficient_spec (d := -1) false htrain rfl (hdown _ 1) hmain (hdown _ 2) (by omega) (Int.toNat_sub _ _)
      (by omega) _ rfl⟩
  · exact ⟨_, exec_preset_training htrain, State.setTaps_spec (by decide) (by decide) (by decide) _ rfl⟩
  · exact ⟨_, exec_initialise_training htrain, State.setTaps_spec (s.rf_lt F.LANE_TX_INIT_PRE 0 n 0) (s.rf_lt F.LANE_TX_INIT_MAIN 0 n 0)
      (s.rf_lt F.LANE_TX_INIT_POST 0 n 0) _ rfl⟩
  · obtain ⟨hframe, hline⟩ := ((OnlyRegs.refl s [⟨.LANE_STAT, 0, n, 0⟩]).wf F.LANE_STAT_TRAIN_STATE 3 0 n 0 (.head _)).raise
      .laneTrainFailed 0 n 0
    exact ⟨_, exec_laneTrainingTimeout_training htrain,
      (State.raise_rf ..).trans (State.rf_wf_same _ F.LANE_STAT_TRAIN_STATE _ _ _ _ rfl), hline, hframe⟩
  · obtain ⟨hstate, hlane, -, hkept⟩ := State.trainStart_spec hen hrate
    exact ⟨_, exec_laneTrainingRestart_failed hfailed howner, hstate, by rw [hlane]; rfl, by rw [hlane]; rfl,
      hkept (.refl s _) (.head _)⟩
  · exact ⟨_, exec_receiverReady_both htrain hother rx, State.trainingDone_spec hother rx _ rfl⟩
  · exact ⟨_, exec_laneP0Reached_exit hst hwant, State.exit_trains hasked hen hrate rx _ rfl⟩

/-! ## A lost reference clock -/

/-- Link 3 is up on lanes 0 and 1, which run on REFCLK 0 and REFCLK 1. The PLL of lane 0 has failed to relock twice within the second. -/
def linkOnTwoRefclks : State :=
  (((((((((State.reset.wf F.LANE_STAT_OWNER 4 0 0).wf F.LANE_STAT_OWNER_INDEX 3 0 0).wf F.LANE_STAT_PSTATE 0 0 0).wf
    F.LANE_STAT_OWNER 4 0 1).wf F.LANE_STAT_OWNER_INDEX 3 0 1).wf F.LANE_STAT_PSTATE 0 0 1).wf F.LANE_CTL_REF_SEL 1 0 1).wf
    F.SL_STAT_STATE 2 0 3).setLane 0 { Lane.init with relocks := [0, 0] }).setSl 3 { Sl.init with good := 3, width := 1 }

/-- With REFCLK 0 lost lane 0 is retired, and the link notes that only its other lane is good (R648, R649, R711). -/
theorem linkOnTwoRefclks_narrower : ∃ t, exec (.laneRefclkLost 0) linkOnTwoRefclks = .next t ∧ (t.sl 3).good = 2 :=
  ⟨_, rfl, by decide +kernel⟩

/-- Refutes O36: its clause on a lost REFCLK lets only lanes, registers and events change, and does not ask that no Saette link owns a
lane that is retired by it. In `linkOnTwoRefclks` one does, and its record of good lanes changes. -/
theorem not_lanesReportLossesAndErrors : ¬ Obligations.LanesReportLossesAndErrors := by
  unfold Obligations.LanesReportLossesAndErrors
  rintro ⟨-, -, -, -, -, hrefclk, -⟩
  obtain ⟨t, ht, -, -, hframe⟩ := hrefclk linkOnTwoRefclks 0
  obtain ⟨u, hu, hgood⟩ := linkOnTwoRefclks_narrower
  obtain rfl := Host.Outcome.next.inj (ht.symm.trans hu)
  have hlinks : (t.sl 3).good = (linkOnTwoRefclks.sl 3).good := by
    rw [hframe]
    rfl
  rw [hgood] at hlinks
  exact absurd hlinks (by decide +kernel)

/-! ## A write of a transmit window -/

/-- A write that has not arrived at its window changes nothing yet (log 62). -/
theorem exec_macTxWindowWrite_not_arrived (s : State) (x : Txn) (h : s.arrive x = none) : exec (.macTxWindowWrite x) s = .next s := by
  have hwindow : s.macTxWindow x = s := by
    unfold State.macTxWindow
    rw [h]
    exact ite_self s
  change Host.Outcome.next (if _ then s.macTxWindow x else s) = _
  rw [hwindow, ite_self]

/-- A posted write of one word to the transmit window of MAC 3, by master 1 of die 1. -/
def macWindowWrite : Txn := ⟨.write, 1, 1, 0, 0x0F0380C0, 1, 48, 0, [dataWord 7], .posted, 0⟩

/-- The write has just been handed to the transport. -/
def macWriteUnderWay : State := State.reset.inject macWindowWrite

theorem macWriteUnderWay_not_arrived : macWriteUnderWay.arrive macWindowWrite = none := by decide +kernel

/-- Refutes O37: its clause on transmit windows does not ask that the write has arrived. In `macWriteUnderWay` it is still in the
transport, so that MAC_TX_WINDOW_WRITE stores no word, where the clause says that one joins the buffer. -/
theorem not_macsSendAndReceiveFrames : ¬ Obligations.MacsSendAndReceiveFrames := by
  unfold Obligations.MacsSendAndReceiveFrames
  rintro ⟨-, -, -, -, hwrite, -⟩
  have hdie : macWriteUnderWay.atDie 0 macWindowWrite = true := by decide +kernel
  have hroom : (macWriteUnderWay.mac 3).txBuf.length + macWindowWrite.words.length ≤ 4096 := by decide +kernel
  obtain ⟨t, ht, hbuf, -⟩ := hwrite macWriteUnderWay 3 macWindowWrite hdie rfl (by decide) (by decide) (by decide) rfl (by decide) hroom
  rw [exec_macTxWindowWrite_not_arrived _ _ macWriteUnderWay_not_arrived] at ht
  obtain rfl := Host.Outcome.next.inj ht
  exact absurd hbuf (by decide +kernel)

end Sys2Proof.Machine
end

section
/-!
SUPPORT. Saette channels: proof of the statement O39. What an operation leaves of a channel and of its registers comes first, then
cells that are taken, the channel messages, and the writes of SC_CTL. `simp` runs with `-implicitDefEqProofs` where a channel or a
field of an updated state is read: each rewriting then stays a step of the proof, and the kernel does not compare whole states.
-/
namespace Sys2Proof.Machine

/-! ## Channels and links -/

theorem State.sc_setSc_ne {c k : Nat} (h : k ≠ c) (s : State) (x : Sc) : (s.setSc c x).sc k = s.sc k := mget_mset_ne _ _ _ _ _ _ h

theorem State.sl_setSl_ne {l k : Nat} (h : k ≠ l) (s : State) (x : Sl) : (s.setSl l x).sl k = s.sl k := mget_mset_ne _ _ _ _ _ _ h

@[simp] theorem State.msg_sc_same (s : State) (c m n : Nat) :
    (s.msg c m n).sc c = { s.sc c with msgs := (s.sc c).msgs ++ [m * 2 ^ 196 + n % 2 ^ 196] } := State.sc_setSc_same _ _ _

@[simp] theorem State.msg_rf (s : State) (c m n : Nat) (g : Fld) (d i j : Nat) : (s.msg c m n).rf g d i j = s.rf g d i j := rfl

@[simp] theorem State.rxView_sc (s : State) (c k : Nat) : (s.rxView c).sc k = s.sc k := State.wf_sc _ _ _ _ _ _ _

/-- Nothing has changed but channel `c` and the registers `rs`, and the events `evs` have been raised (R677). -/
def ChannelStep (s t : State) (c : Nat) (rs : List Reg) (evs : List FaultEv) : Prop :=
  (∀ k, k ≠ c → t.sc k = s.sc k) ∧ t = { s with regs := t.regs, scs := t.scs, faultLine := s.faultLine ++ evs } ∧ RegsKept s t rs

section
variable {s t : State} {c : Nat} {rs : List Reg} {evs : List FaultEv}

theorem ChannelStep.refl (s : State) (c : Nat) (rs : List Reg) : ChannelStep s s c rs [] :=
  ⟨fun _ _ => rfl, by rw [List.append_nil], .refl s rs⟩

theorem ChannelStep.setSc (h : ChannelStep s t c rs evs) (x : Sc) : ChannelStep s (t.setSc c x) c rs evs := by
  obtain ⟨hother, hframe, hkept⟩ := h
  exact ⟨fun k hk => (State.sc_setSc_ne hk t x).trans (hother k hk), by rw [hframe]; rfl, hkept⟩

theorem ChannelStep.msg (h : ChannelStep s t c rs evs) (m n : Nat) : ChannelStep s (t.msg c m n) c rs evs := h.setSc _

theorem ChannelStep.wf (h : ChannelStep s t c rs evs) (f : Fld) (v : Nat) (hf : (⟨f.reg, 0, c, 0⟩ : Reg) ∈ rs) :
    ChannelStep s (t.wf f v 0 c) c rs evs := by
  obtain ⟨hother, hframe, hkept⟩ := h
  exact ⟨hother, by rw [hframe]; rfl, hkept.wf f v 0 c 0 hf⟩

theorem ChannelStep.incE (h : ChannelStep s t c rs evs) (f : Fld) (hf : (⟨f.reg, 0, c, 0⟩ : Reg) ∈ rs) :
    ChannelStep s (t.incE f 0 c) c rs evs := by
  rw [State.incE_spec]
  split
  · exact h.wf f _ hf
  · exact (h.wf f _ hf).wf ⟨f.reg, 47, 47⟩ 1 hf

theorem ChannelStep.raise (h : ChannelStep s t c rs evs) (src : FaultSrc) (d u x : Nat) :
    ChannelStep s (t.raise src d u x) c rs (evs ++ [faultEv src d u x]) := by
  obtain ⟨hother, hframe, hkept⟩ := h
  refine ⟨hother, ?_, hkept.raise src d u x⟩
  rw [← List.append_assoc, hframe]
  rfl

theorem ChannelStep.ite {u : State} {p : Prop} [Decidable p] (ht : ChannelStep s t c rs evs) (hu : ChannelStep s u c rs evs) :
    ChannelStep s (if p then t else u) c rs evs := by
  split
  · exact ht
  · exact hu

theorem ChannelStep.kept (h : ChannelStep s t c rs evs) : RegsKept s t rs := h.2.2

theorem ChannelStep.faultLine (h : ChannelStep s t c rs evs) : t.faultLine = s.faultLine ++ evs := by
  obtain ⟨-, hframe, -⟩ := h
  rw [hframe]

theorem ChannelStep.frame (h : ChannelStep s t c rs evs) : t = { s with regs := t.regs, scs := t.scs, faultLine := t.faultLine } := by
  rw [h.faultLine]
  exact h.2.1

/-- With no event raised, channels and registers are all that differs. -/
theorem ChannelStep.quiet (h : ChannelStep s t c rs []) : t = { s with regs := t.regs, scs := t.scs } := by
  obtain ⟨-, hframe, -⟩ := h
  rw [List.append_nil] at hframe
  exact hframe

end

/-! ## Cells taken -/

/-- Link `l` has taken its next cell (R675). -/
def State.tookCell (s : State) (l : Nat) : State :=
  s.setSl l { s.sl l with rxNext := ((s.sl l).rxNext + 1) % 4096, unacked := (s.sl l).unacked + 1, naks := 0, limited := false }

@[simp] theorem State.tookCell_rf (s : State) (l : Nat) (g : Fld) (d i j : Nat) : (s.tookCell l).rf g d i j = s.rf g d i j := rfl

@[simp] theorem State.tookCell_sc (s : State) (l k : Nat) : (s.tookCell l).sc k = s.sc k := rfl

@[simp] theorem State.tookCell_forwards (s : State) (l c : Nat) : (s.tookCell l).forwards c = s.forwards c := rfl

@[simp] theorem State.tookCell_fwdOut (s : State) (l c k : Nat) : (s.tookCell l).fwdOut c k = s.fwdOut c k := rfl

@[simp] theorem State.tookCell_openCause (s : State) (l c n : Nat) (b : Bool) : (s.tookCell l).openCause c n b = s.openCause c n b := rfl

@[simp] theorem State.tookCell_rxSize (s : State) (l c : Nat) : (s.tookCell l).rxSize c = s.rxSize c := rfl

/-- A channel message that is due is taken, and acts (R675). -/
theorem channelRow_due {s : State} {l x m : Nat} (hdue : s.cellDue l x = true) (hkind : cellKind x = .channelCtl) (hmsg : cellMsg x = m)
    (act : State → State) : channelRow l x m s act = act (s.tookCell l) := by
  unfold State.cellDue at hdue
  simp only [Bool.and_eq_true, beq_iff_eq] at hdue
  obtain ⟨⟨hup, hgood⟩, hseq⟩ := hdue
  have harrive : s.cellArrive l x = (true, s.tookCell l) := by
    unfold State.cellArrive State.tookCell
    simp [hup, hgood, hseq, hkind]
  unfold channelRow
  simp [harrive, hgood, hkind, hmsg]

/-- Beside the cell taken nothing changes but what the channel does with it. -/
theorem TookCell.of_step {s t : State} {l c : Nat} {rs : List Reg} (h : ChannelStep (s.tookCell l) t c rs []) : TookCell s t l c rs := by
  have hframe := h.quiet
  have hlink : ∀ k, t.sl k = (s.tookCell l).sl k := fun k => by rw [hframe]; rfl
  refine ⟨?_, fun k hk => ?_, h.1, ?_, h.kept⟩
  · rw [hlink, State.tookCell, State.sl_setSl_same]
  · rw [hlink, State.tookCell, State.sl_setSl_ne hk]
  · rw [hframe]; rfl

/-- Beside the cell taken nothing changes but registers, and the events raised. -/
theorem OnlyRegsEv.tookCell {s t : State} {l : Nat} {rs : List Reg} (h : OnlyRegsEv (s.tookCell l) t rs) :
    (t.sl l).rxNext = ((s.sl l).rxNext + 1) % 4096 ∧ t = { s with regs := t.regs, links := t.links, faultLine := t.faultLine } ∧
      RegsKept s t rs := by
  obtain ⟨hframe, hkept⟩ := h
  have hlink : t.sl l = (s.tookCell l).sl l := by rw [hframe]; rfl
  refine ⟨?_, ?_, hkept⟩
  · rw [hlink, State.tookCell, State.sl_setSl_same]
  · rw [hframe]; rfl

/-! ## Closing -/

/-- Nothing of a channel has changed but its messages and the credits that it owes. -/
def Sc.BuffersKept (x y : Sc) : Prop := ∃ ms o, y = { x with msgs := ms, owed := o }

theorem Sc.BuffersKept.refl (x : Sc) : x.BuffersKept x := ⟨_, _, rfl⟩

theorem Sc.BuffersKept.trans {x y z : Sc} (h : x.BuffersKept y) (h' : y.BuffersKept z) : x.BuffersKept z := by
  obtain ⟨_, _, rfl⟩ := h
  obtain ⟨_, _, rfl⟩ := h'
  exact ⟨_, _, rfl⟩

section
variable (s : State) (c : Nat)

/-! ### Credits owed -/

@[simp] theorem State.owe_rf (n : Nat) (g : Fld) (d i j : Nat) : (s.owe c n).rf g d i j = s.rf g d i j := by
  unfold State.owe
  dsimp only
  split
  · rfl
  · rfl

theorem State.owe_sc (n : Nat) : (s.sc c).BuffersKept ((s.owe c n).sc c) := by
  unfold State.owe
  dsimp only
  split
  · rw [State.msg_sc_same, State.sc_setSc_same]
    exact ⟨_, _, rfl⟩
  · rw [State.sc_setSc_same]
    exact ⟨_, _, rfl⟩

theorem ChannelStep.owe {s t : State} {c : Nat} {rs : List Reg} {evs : List FaultEv} (h : ChannelStep s t c rs evs) (n : Nat) :
    ChannelStep s (t.owe c n) c rs evs := .ite ((h.setSc _).msg _ _) (h.setSc _)

/-! ### The receive half -/

/-- A half that is not closing stays as it is. -/
theorem State.closeIfEmpty_open (h : s.rf F.SC_STAT_RX_STATE 0 c ≠ 2) : s.closeIfEmpty c = s := by
  unfold State.closeIfEmpty
  simp [h]

/-- A closing half that owes no credit closes if it holds no word, and answers CLOSE_ACK (R687). -/
theorem State.closeIfEmpty_closing (hstate : s.rf F.SC_STAT_RX_STATE 0 c = 2) (howed : (s.sc c).owed = 0) :
    s.closeIfEmpty c = if (s.sc c).rx = [] then (s.msg c 5 0).wf F.SC_STAT_RX_STATE 0 0 c else s := by
  unfold State.closeIfEmpty
  simp [hstate, howed]

theorem State.closeIfEmpty_sc : (s.sc c).BuffersKept ((s.closeIfEmpty c).sc c) := by
  unfold State.closeIfEmpty
  dsimp only
  split
  · rw [State.wf_sc, State.msg_sc_same]
    split
    · rw [State.msg_sc_same, State.sc_setSc_same]
      exact ⟨_, _, rfl⟩
    · exact ⟨_, _, rfl⟩
  · exact .refl _

theorem State.rf_closeIfEmpty (g : Fld) (hg : F.SC_STAT_RX_STATE.apart g = true) (d i j : Nat) :
    (s.closeIfEmpty c).rf g d i j = s.rf g d i j := by
  unfold State.closeIfEmpty
  dsimp only
  split
  · rw [State.rf_wf_apart _ _ _ _ _ _ _ _ _ _ rfl hg, State.msg_rf]
    split
    · rfl
    · rfl
  · rfl

theorem ChannelStep.closeIfEmpty {s t : State} {c : Nat} {rs : List Reg} {evs : List FaultEv} (h : ChannelStep s t c rs evs)
    (hf : (⟨.SC_STAT, 0, c, 0⟩ : Reg) ∈ rs) : ChannelStep s (t.closeIfEmpty c) c rs evs :=
  .ite (((ChannelStep.ite ((h.setSc _).msg _ _) h).msg _ _).wf F.SC_STAT_RX_STATE 0 hf) h

/-! ### The transmit half -/

/-- Without a close asked for nothing is sent. -/
theorem State.closeNow_none (h : s.rf F.SC_CTL_TX_CLOSE 0 c = 0) : s.closeNow c = s := by
  unfold State.closeNow
  simp [State.rb_of_rf_zero h]

/-- An open half of which a close is asked sends CLOSE once no frame is partly sent (R687). -/
theorem State.closeNow_asked (hclose : s.rf F.SC_CTL_TX_CLOSE 0 c = 1) (hstate : s.rf F.SC_STAT_TX_STATE 0 c = 2) :
    s.closeNow c = if (s.sc c).txWire = [] ∧ (s.sc c).gcmDue = none then (s.msg c 4 (s.sc c).txCtr).wf F.SC_STAT_TX_STATE 3 0 c
      else s := by
  unfold State.closeNow
  simp [State.rb_of_rf_one hclose, hstate]

theorem State.closeNow_sc : (s.sc c).BuffersKept ((s.closeNow c).sc c) := by
  unfold State.closeNow
  dsimp only
  split
  · rw [State.wf_sc, State.msg_sc_same]
    exact ⟨_, _, rfl⟩
  · exact .refl _

theorem State.rf_closeNow (g : Fld) (hg : F.SC_STAT_TX_STATE.apart g = true) (d i j : Nat) :
    (s.closeNow c).rf g d i j = s.rf g d i j := by
  unfold State.closeNow
  dsimp only
  split
  · rw [State.rf_wf_apart _ _ _ _ _ _ _ _ _ _ rfl hg, State.msg_rf]
  · rfl

theorem ChannelStep.closeNow {s t : State} {c : Nat} {rs : List Reg} {evs : List FaultEv} (h : ChannelStep s t c rs evs)
    (hf : (⟨.SC_STAT, 0, c, 0⟩ : Reg) ∈ rs) : ChannelStep s (t.closeNow c) c rs evs :=
  .ite ((h.msg _ _).wf F.SC_STAT_TX_STATE 3 hf) h

end

/-! ## Channel messages that are received -/

section
variable {s : State} {l x c : Nat}

theorem State.rxSize_lt (s : State) (c : Nat) : s.rxSize c < 2 ^ 196 := by
  have hsize : s.rf F.SC_BUF_RX_SIZE 0 c < 2 ^ 10 := s.rf_lt F.SC_BUF_RX_SIZE 0 c 0
  unfold State.rxSize
  omega

theorem State.openCause_lt (s : State) (c n : Nat) (b : Bool) : s.openCause c n b < 2 ^ 196 := by
  unfold State.openCause
  split_ifs <;> decide

/-! ### OPEN -/

/-- A receive half that opens, and answers OPEN_ACK with its size (R686). -/
def State.rxOpened (s : State) (c : Nat) : State :=
  (((s.setSc c { s.sc c with rx := [], ready := 0, frames := [], rxCtr := 0, owed := 0, rxPut := 0 }).wf
    F.SC_STAT_RX_STATE 1 0 c).rxView c).msg c 2 (s.rxSize c)

/-- An OPEN on the channel's own link is answered by what Table 12-5 makes of it. -/
theorem State.rxOpen_own (hchan : cellChannel x = c) (hfwd : s.forwards c = false) (hlink : s.rf F.SC_CTL_LINK 0 c = l) (hl : l ≠ 2) :
    s.rxOpen l x = if s.openCause c (bits (cellBody x) 16 0) (bit (cellBody x) 17) = 0 then s.rxOpened c
      else s.msg c 3 (s.openCause c (bits (cellBody x) 16 0) (bit (cellBody x) 17)) := by
  subst hchan
  unfold State.rxOpen
  simp only [hfwd, hlink, hl, Bool.false_and, ne_eq, not_true_eq_false, decide_false, Bool.or_self, if_false, Bool.false_eq_true,
    ite_not]
  rfl

theorem exec_openCell_own (hdue : s.cellDue l x = true) (hkind : cellKind x = .channelCtl) (hmsg : cellMsg x = 1)
    (hchan : cellChannel x = c) (hfwd : s.forwards c = false) (hlink : s.rf F.SC_CTL_LINK 0 c = l) (hl : l ≠ 2) :
    exec (.openCell l x) s =
      .next (if s.openCause c (bits (cellBody x) 16 0) (bit (cellBody x) 17) = 0 then (s.tookCell l).rxOpened c
        else (s.tookCell l).msg c 3 (s.openCause c (bits (cellBody x) 16 0) (bit (cellBody x) 17))) := by
  have hown := State.rxOpen_own hchan ((s.tookCell_forwards l c).trans hfwd) ((s.tookCell_rf l _ 0 c 0).trans hlink) hl
  rw [State.tookCell_openCause] at hown
  rw [← hown]
  exact congrArg Host.Outcome.next ((channelRow_due hdue hkind hmsg _).trans (if_pos hmsg))

/-- What an opened receive half holds. -/
theorem State.rxOpened_spec (s : State) (c : Nat) : (s.rxOpened c).rf F.SC_STAT_RX_STATE 0 c = 1 ∧
    (s.rxOpened c).rf F.SC_STAT_RX_LEVEL 0 c = 0 ∧
    (s.rxOpened c).sc c = { s.sc c with
      rx := [], ready := 0, frames := [], rxCtr := 0, owed := 0, rxPut := 0, msgs := (s.sc c).msgs ++ [2 * 2 ^ 196 + s.rxSize c] } ∧
    ChannelStep s (s.rxOpened c) c [⟨.SC_STAT, 0, c, 0⟩] [] := by
  refine ⟨?_, ?_, ?_, ((((ChannelStep.refl s c _).setSc _).wf F.SC_STAT_RX_STATE 1 (.head _)).wf F.SC_STAT_RX_LEVEL _
    (.head _)).msg _ _⟩
  · simp -implicitDefEqProofs (disch := decide) [State.rxOpened, State.rxView, State.rf_wf_apart, State.rf_wf_same]
  · simp -implicitDefEqProofs (disch := decide) [State.rxOpened, State.rxView, State.rf_wf_same]
  · unfold State.rxOpened State.rxView
    rw [State.msg_sc_same, Nat.mod_eq_of_lt (s.rxSize_lt c), State.wf_sc, State.wf_sc, State.sc_setSc_same]

/-! ### OPEN_ACK and OPEN_REFUSE -/

/-- A transmit half that opens with `n` credits (R686). -/
def State.txOpened (s : State) (c n : Nat) : State :=
  (((s.wf F.SC_STAT_TX_STATE 2 0 c).wf F.SC_STAT_TX_CREDIT n 0 c).wf F.SC_CTL_TX_OPEN 0 0 c).setSc c
    { s.sc c with ceil := n, txCtr := 0, txWire := [], gcmDue := none }

/-- What an opened transmit half holds. -/
theorem State.txOpened_spec (s : State) (c : Nat) {n : Nat} (hn : n < 2 ^ F.SC_STAT_TX_CREDIT.width) :
    (s.txOpened c n).rf F.SC_STAT_TX_STATE 0 c = 2 ∧ (s.txOpened c n).rf F.SC_STAT_TX_CREDIT 0 c = n ∧
      (s.txOpened c n).rf F.SC_CTL_TX_OPEN 0 c = 0 ∧
      (s.txOpened c n).sc c = { s.sc c with ceil := n, txCtr := 0, txWire := [], gcmDue := none } ∧
      ChannelStep s (s.txOpened c n) c [⟨.SC_CTL, 0, c, 0⟩, ⟨.SC_STAT, 0, c, 0⟩] [] := by
  refine ⟨?_, ?_, ?_, State.sc_setSc_same _ _ _, ((((ChannelStep.refl s c _).wf F.SC_STAT_TX_STATE 2 (.tail _ (.head _))).wf
    F.SC_STAT_TX_CREDIT n (.tail _ (.head _))).wf F.SC_CTL_TX_OPEN 0 (.head _)).setSc _⟩
  · simp -implicitDefEqProofs (disch := decide) [State.txOpened, State.rf_wf_apart, State.rf_wf_same, Fld.width, F.SC_STAT_TX_STATE]
  · simp -implicitDefEqProofs (disch := decide) [State.txOpened, State.rf_wf_apart, State.rf_wf_same, Nat.mod_eq_of_lt hn]
  · simp -implicitDefEqProofs (disch := decide) [State.txOpened, State.rf_wf_same]

/-- An OPEN_ACK for an opening half opens it; with no close asked for nothing more is done. -/
theorem exec_openAck_opening (hdue : s.cellDue l x = true) (hkind : cellKind x = .channelCtl) (hmsg : cellMsg x = 2)
    (hchan : cellChannel x = c) (hfwd : s.fwdOut c l = false) (hlink : s.rf F.SC_CTL_LINK 0 c = l)
    (hstate : s.rf F.SC_STAT_TX_STATE 0 c = 1) (hclose : s.rf F.SC_CTL_TX_CLOSE 0 c = 0) :
    exec (.openAck l x) s = .next ((s.tookCell l).txOpened c (bits (cellBody x) 18 0)) := by
  subst hchan
  have hnone : ((s.tookCell l).txOpened (cellChannel x) (bits (cellBody x) 18 0)).closeNow (cellChannel x) = _ :=
    State.closeNow_none _ _ (by simp -implicitDefEqProofs (disch := decide) [State.txOpened, State.rf_wf_apart, hclose])
  change Host.Outcome.next (channelRow l x 2 s _) = _
  rw [channelRow_due hdue hkind hmsg, ← hnone]
  simp -implicitDefEqProofs [hfwd, hlink, hstate, State.txOpened]

theorem exec_openRefuse_opening (hdue : s.cellDue l x = true) (hkind : cellKind x = .channelCtl) (hmsg : cellMsg x = 3)
    (hchan : cellChannel x = c) (hfwd : s.fwdOut c l = false) (hlink : s.rf F.SC_CTL_LINK 0 c = l)
    (hstate : s.rf F.SC_STAT_TX_STATE 0 c = 1) :
    exec (.openRefuse l x) s = .next ((s.tookCell l).openRefused c (bits (cellBody x) 3 0)) := by
  subst hchan
  change Host.Outcome.next (channelRow l x 3 s _) = _
  rw [channelRow_due hdue hkind hmsg]
  simp [hfwd, hlink, hstate]

/-- What a refusal leaves (R706). -/
theorem State.openRefused_spec (s : State) (c : Nat) {cause : Nat} (hcause : cause < 2 ^ F.SC_STAT_REFUSE_CAUSE.width) :
    (s.openRefused c cause).rf F.SC_STAT_TX_STATE 0 c = 0 ∧ (s.openRefused c cause).rf F.SC_STAT_REFUSE_CAUSE 0 c = cause ∧
      (s.openRefused c cause).faultLine = s.faultLine ++ [faultEv .saetteOpenRefused 0 c 0] ∧
      OnlyRegsEv s (s.openRefused c cause) [⟨.SC_CTL, 0, c, 0⟩, ⟨.SC_STAT, 0, c, 0⟩] := by
  have honly := ((((OnlyRegs.refl s [⟨.SC_CTL, 0, c, 0⟩, ⟨.SC_STAT, 0, c, 0⟩]).wf F.SC_STAT_TX_STATE 0 0 c 0 (.tail _ (.head _))).wf
    F.SC_STAT_REFUSE_CAUSE cause 0 c 0 (.tail _ (.head _))).wf F.SC_CTL_TX_OPEN 0 0 c 0 (.head _)).raise .saetteOpenRefused 0 c 0
  refine ⟨?_, ?_, honly.2, honly.1⟩
  · simp -implicitDefEqProofs (disch := decide) [State.openRefused, State.rf_wf_apart, State.rf_wf_same]
  · simp -implicitDefEqProofs (disch := decide) [State.openRefused, State.rf_wf_apart, State.rf_wf_same, Nat.mod_eq_of_lt hcause]

/-! ### CLOSE and CLOSE_ACK -/

/-- A CLOSE for an open half makes it close, at once if it holds no word. -/
theorem exec_closeCell_open (hdue : s.cellDue l x = true) (hkind : cellKind x = .channelCtl) (hmsg : cellMsg x = 4)
    (hchan : cellChannel x = c) (hfwd : s.forwards c = false) (hlink : s.rf F.SC_CTL_LINK 0 c = l)
    (hstate : s.rf F.SC_STAT_RX_STATE 0 c = 1) :
    exec (.closeCell l x) s = .next (((s.tookCell l).wf F.SC_STAT_RX_STATE 2 0 c).closeIfEmpty c) := by
  subst hchan
  change Host.Outcome.next (channelRow l x 4 s _) = _
  rw [channelRow_due hdue hkind hmsg]
  simp [hfwd, hlink, hstate]

/-- What a half that owes no credit holds when it has been told to close (R687). -/
theorem State.closing_spec (s : State) (c : Nat) (howed : (s.sc c).owed = 0) (t : State)
    (ht : (s.wf F.SC_STAT_RX_STATE 2 0 c).closeIfEmpty c = t) :
    (if (s.sc c).rx = [] then t.rf F.SC_STAT_RX_STATE 0 c = 0 ∧ t.sc c = { s.sc c with msgs := (s.sc c).msgs ++ [5 * 2 ^ 196] }
      else t.rf F.SC_STAT_RX_STATE 0 c = 2 ∧ t.sc c = s.sc c) ∧ ChannelStep s t c [⟨.SC_STAT, 0, c, 0⟩] [] := by
  have hclosing : (s.wf F.SC_STAT_RX_STATE 2 0 c).rf F.SC_STAT_RX_STATE 0 c = 2 := State.rf_wf_same _ F.SC_STAT_RX_STATE _ _ _ _ rfl
  have hstep : ChannelStep s t c [⟨.SC_STAT, 0, c, 0⟩] [] :=
    ht ▸ ((ChannelStep.refl s c _).wf F.SC_STAT_RX_STATE 2 (.head _)).closeIfEmpty (.head _)
  refine ⟨?_, hstep⟩
  rw [State.closeIfEmpty_closing _ _ hclosing (by rwa [State.wf_sc]), State.wf_sc] at ht
  subst ht
  split
  · exact ⟨State.rf_wf_same _ F.SC_STAT_RX_STATE _ _ _ _ rfl, by simp -implicitDefEqProofs⟩
  · exact ⟨hclosing, State.wf_sc _ _ _ _ _ _ _⟩

theorem exec_closeAck_closing (hdue : s.cellDue l x = true) (hkind : cellKind x = .channelCtl) (hmsg : cellMsg x = 5)
    (hchan : cellChannel x = c) (hfwd : s.fwdOut c l = false) (hlink : s.rf F.SC_CTL_LINK 0 c = l)
    (hstate : s.rf F.SC_STAT_TX_STATE 0 c = 3) :
    exec (.closeAck l x) s = .next (((s.tookCell l).wf F.SC_STAT_TX_STATE 0 0 c).wf F.SC_CTL_TX_CLOSE 0 0 c) := by
  subst hchan
  change Host.Outcome.next (channelRow l x 5 s _) = _
  rw [channelRow_due hdue hkind hmsg]
  simp [hfwd, hlink, hstate]

/-- What a transmit half holds once it is closed. -/
theorem State.closeAcked_spec (s : State) (c : Nat) (t : State) (ht : (s.wf F.SC_STAT_TX_STATE 0 0 c).wf F.SC_CTL_TX_CLOSE 0 0 c = t) :
    t.rf F.SC_STAT_TX_STATE 0 c = 0 ∧ t.rf F.SC_CTL_TX_CLOSE 0 c = 0 ∧ t.sc c = s.sc c ∧
      ChannelStep s t c [⟨.SC_CTL, 0, c, 0⟩, ⟨.SC_STAT, 0, c, 0⟩] [] := by
  subst ht
  refine ⟨?_, State.rf_wf_same _ F.SC_CTL_TX_CLOSE _ _ _ _ rfl, by rw [State.wf_sc, State.wf_sc],
    ((ChannelStep.refl s c _).wf F.SC_STAT_TX_STATE 0 (.tail _ (.head _))).wf F.SC_CTL_TX_CLOSE 0 (.head _)⟩
  simp -implicitDefEqProofs (disch := decide) [State.rf_wf_apart, State.rf_wf_same]

/-! ### FLUSH -/

/-- A FLUSH for an open half drops its partial frame. -/
theorem exec_flush_open (hdue : s.cellDue l x = true) (hkind : cellKind x = .channelCtl) (hmsg : cellMsg x = 8)
    (hchan : cellChannel x = c) (hfwd : s.forwards c = false) (hlink : s.rf F.SC_CTL_LINK 0 c = l)
    (hstate : s.rf F.SC_STAT_RX_STATE 0 c = 1) : exec (.flush l x) s = .next ((s.tookCell l).rxDropPartial c) := by
  subst hchan
  change Host.Outcome.next (channelRow l x 8 s _) = _
  rw [channelRow_due hdue hkind hmsg]
  simp [hfwd, hlink, hstate]

/-- A channel without the words of frame `f`, which was in progress: its counter is consumed (R704). -/
def Sc.dropFrame (x : Sc) (f : RxFrame) : Sc :=
  { x with
    rx := x.rx.filter fun e => e.2 ≠ f.id
    ready := x.ready - ((x.rx.take x.ready).filter fun e => e.2 = f.id).length
    rxCtr := (x.rxCtr + 1) % 2 ^ 64
    frames := x.frames.filter fun g => g.id ≠ f.id }

/-- A channel's partial frame dropped, and the credits of its `n` words owed. -/
def State.droppedFrame (s : State) (c : Nat) (f : RxFrame) (n : Nat) : State :=
  let t := s.setSc c ((s.sc c).dropFrame f)
  if n = 0 then t else t.owe c n

theorem State.rxDropPartial_partial {f : RxFrame} (hlast : (s.sc c).frames.getLast? = some f) (hpart : f.ended = false) :
    s.rxDropPartial c =
      ((s.droppedFrame c f ((s.sc c).rx.filter fun e => e.2 = f.id).length).rxView c).closeIfEmpty c := by
  unfold State.rxDropPartial State.droppedFrame Sc.dropFrame
  simp -implicitDefEqProofs [hlast, hpart]

theorem State.droppedFrame_rf (s : State) (c : Nat) (f : RxFrame) (n : Nat) (g : Fld) (d i j : Nat) :
    (s.droppedFrame c f n).rf g d i j = s.rf g d i j := by
  unfold State.droppedFrame
  dsimp only
  split
  · rfl
  · exact State.owe_rf _ _ _ _ _ _ _

theorem State.droppedFrame_sc (s : State) (c : Nat) (f : RxFrame) (n : Nat) :
    ((s.sc c).dropFrame f).BuffersKept ((s.droppedFrame c f n).sc c) := by
  have hset := State.sc_setSc_same s c ((s.sc c).dropFrame f)
  unfold State.droppedFrame
  dsimp only
  split
  · rw [hset]
    exact .refl _
  · have howe := State.owe_sc (s.setSc c ((s.sc c).dropFrame f)) c n
    rwa [hset] at howe

/-- What an open half holds once its partial frame has been dropped. -/
theorem State.rxDropPartial_spec {f : RxFrame} (hlast : (s.sc c).frames.getLast? = some f) (hpart : f.ended = false)
    (hstate : s.rf F.SC_STAT_RX_STATE 0 c = 1) : (s.rxDropPartial c).rf F.SC_STAT_RX_STATE 0 c = 1 ∧
      ((s.sc c).dropFrame f).BuffersKept ((s.rxDropPartial c).sc c) ∧
      ChannelStep s (s.rxDropPartial c) c [⟨.SC_STAT, 0, c, 0⟩] [] := by
  rw [State.rxDropPartial_partial hlast hpart]
  have hset := (ChannelStep.refl s c [⟨.SC_STAT, 0, c, 0⟩]).setSc ((s.sc c).dropFrame f)
  generalize ((s.sc c).rx.filter fun e => e.2 = f.id).length = n
  have hdropped : ChannelStep s (s.droppedFrame c f n) c [⟨.SC_STAT, 0, c, 0⟩] [] := .ite hset (hset.owe n)
  have hopen : ((s.droppedFrame c f n).rxView c).rf F.SC_STAT_RX_STATE 0 c = 1 := by
    unfold State.rxView
    rw [State.rf_wf_apart _ _ _ _ _ _ _ _ _ _ rfl rfl, State.droppedFrame_rf, hstate]
  rw [State.closeIfEmpty_open _ _ (by rw [hopen]; decide)]
  rw [State.rxView_sc]
  exact ⟨hopen, s.droppedFrame_sc c f n, hdropped.wf F.SC_STAT_RX_LEVEL _ (.head _)⟩

end

/-! ## Writes of SC_CTL -/

theorem bits_lt (w hi lo : Nat) : bits w hi lo < 2 ^ (hi + 1 - lo) := Nat.mod_lt _ (by positivity)

/-- What a write of SC_CTL with `n` in its bits 47 to 44 asks for beside the enables (R720). -/
def State.scCtlActs (s : State) (c n : Nat) : State :=
  let s := if bit n 3 then s.writeTxOpen c else s
  let s := if bit n 2 then s.writeTxClose c else s
  let s := if bit n 0 then s.writeKeySwitch c else s
  if bit n 1 then s.channelFlush c else s

theorem State.scCtlActs_none (s : State) (c : Nat) : s.scCtlActs c 0 = s := by
  simp -implicitDefEqProofs [State.scCtlActs, bit]

theorem State.scCtlActs_keySwitch (s : State) (c : Nat) : s.scCtlActs c 1 = s.writeKeySwitch c := by
  simp -implicitDefEqProofs [State.scCtlActs, bit]

theorem State.scCtlActs_flush (s : State) (c : Nat) : s.scCtlActs c 2 = s.channelFlush c := by
  simp -implicitDefEqProofs [State.scCtlActs, bit]

theorem State.scCtlActs_txClose (s : State) (c : Nat) : s.scCtlActs c 4 = s.writeTxClose c := by
  simp -implicitDefEqProofs [State.scCtlActs, bit]

theorem State.scCtlActs_txOpen (s : State) (c : Nat) : s.scCtlActs c 8 = s.writeTxOpen c := by
  simp -implicitDefEqProofs [State.scCtlActs, bit]

theorem bit_bits_47_44 (w : Nat) : bit (bits w 47 44) 3 = bit w 47 ∧ bit (bits w 47 44) 2 = bit w 46 ∧
    bit (bits w 47 44) 1 = bit w 45 ∧ bit (bits w 47 44) 0 = bit w 44 := by
  have hbit : ∀ k, k < 4 → bit (bits w 47 44) k = bit w (44 + k) := fun k hk => by
    rw [bit_eq_testBit, bit_eq_testBit, bits, Nat.testBit_mod_two_pow, Nat.testBit_div_two_pow, Nat.add_comm k]
    simp [hk]
  exact ⟨hbit 3 (by decide), hbit 2 (by decide), hbit 1 (by decide), hbit 0 (by decide)⟩

/-- A word that sets TX_EN and clears RX_EN. -/
theorem bits_1_0_two {w : Nat} (h : bits w 1 0 = 2) : bit w 1 = true ∧ bit w 0 = false := by
  have hlow : w % 4 = 2 := by simpa [bits] using h
  have h1 : w / 2 % 2 = 1 := by omega
  have h0 : w % 2 = 0 := by omega
  simp [bit, h1, h0]

/-- What a write of SC_CTL stores while both halves are closed and disabled (R708). -/
def State.scCtlFields (s : State) (c w : Nat) : State :=
  (((s.wf F.SC_CTL_MAX_FRAME (max 1 (min 65536 (bits w 34 18))) 0 c).wf F.SC_CTL_LINK (bits w 17 15) 0 c).wf
    F.SC_CTL_SPEC (bits w 14 14) 0 c).wf F.SC_CTL_SECURE (bits w 13 13) 0 c

section
variable {s : State} {c w : Nat}

/-- A write of SC_CTL: fields that only an idle channel takes, the enables, and what it asks for beside them. -/
theorem State.writeScCtl_eq (s : State) (c w : Nat) : s.writeScCtl c w =
    (((if s.scIdle c then s.scCtlFields c w else s).enableHalf c true (bit w 1)).enableHalf c false (bit w 0)).scCtlActs c
      (bits w 47 44) := by
  obtain ⟨h47, h46, h45, h44⟩ := bit_bits_47_44 w
  unfold State.scCtlActs
  rw [h47, h46, h45, h44]
  rfl

/-! ### Enables -/

theorem State.enableHalf_tx_same {v : Bool} (h : s.rb F.SC_CTL_TX_EN 0 c = v) : s.enableHalf c true v = s :=
  if_pos (by simpa using h)

theorem State.enableHalf_rx_same {v : Bool} (h : s.rb F.SC_CTL_RX_EN 0 c = v) : s.enableHalf c false v = s :=
  if_pos (by simpa using h)

theorem State.rb_of_b2n {f : Fld} {d i j : Nat} {v : Bool} (h : b2n v = s.rf f d i j) : s.rb f d i j = v := by
  unfold State.rb
  rw [← h]
  cases v <;> rfl

/-- A write that leaves both enables of an enabled transmit half as they are does only what it asks for beside them. -/
theorem scCtlOut_enabled {v : TWord} (htag : v.tag.toNat < 2) (htx : bit v.data.toNat 1 = true)
    (hrx : b2n (bit v.data.toNat 0) = s.rf F.SC_CTL_RX_EN 0 c) (hen : s.rf F.SC_CTL_TX_EN 0 c = 1) :
    scCtlOut c v s = s.scCtlActs c (bits v.data.toNat 47 44) := by
  have hbusy : s.scIdle c = false := by simp [State.scIdle, State.rb_of_rf_one hen]
  unfold scCtlOut
  rw [if_pos htag, State.writeScCtl_eq, hbusy, if_neg Bool.false_ne_true, htx,
    State.enableHalf_tx_same (State.rb_of_rf_one hen), State.enableHalf_rx_same (State.rb_of_b2n hrx)]

theorem State.rf_scCtlFields (s : State) (c w : Nat) :
    (s.scCtlFields c w).rf F.SC_CTL_MAX_FRAME 0 c = max 1 (min 65536 (bits w 34 18)) ∧
      (s.scCtlFields c w).rf F.SC_CTL_LINK 0 c = bits w 17 15 ∧ (s.scCtlFields c w).rf F.SC_CTL_SPEC 0 c = bits w 14 14 ∧
      (s.scCtlFields c w).rf F.SC_CTL_SECURE 0 c = bits w 13 13 := by
  have hmax : max 1 (min 65536 (bits w 34 18)) < 2 ^ F.SC_CTL_MAX_FRAME.width := by
    change _ < 2 ^ 17
    omega
  unfold State.scCtlFields
  simp (disch := decide) only [State.rf_wf_apart, State.rf_wf_same, Nat.mod_eq_of_lt hmax, true_and]
  exact ⟨Nat.mod_eq_of_lt (bits_lt _ _ _), Nat.mod_eq_of_lt (bits_lt _ _ _), Nat.mod_eq_of_lt (bits_lt _ _ _)⟩

/-- A field that shares no bit with those stored keeps its value. -/
theorem State.rf_scCtlFields_apart (s : State) (c w : Nat) (g : Fld) (d i j : Nat) (hmax : F.SC_CTL_MAX_FRAME.apart g = true)
    (hlink : F.SC_CTL_LINK.apart g = true) (hspec : F.SC_CTL_SPEC.apart g = true) (hsec : F.SC_CTL_SECURE.apart g = true) :
    (s.scCtlFields c w).rf g d i j = s.rf g d i j := by
  unfold State.scCtlFields
  rw [State.rf_wf_apart _ _ _ _ _ _ _ _ _ _ rfl hsec, State.rf_wf_apart _ _ _ _ _ _ _ _ _ _ rfl hspec,
    State.rf_wf_apart _ _ _ _ _ _ _ _ _ _ rfl hlink, State.rf_wf_apart _ _ _ _ _ _ _ _ _ _ rfl hmax]

@[simp] theorem State.scCtlFields_sc (s : State) (c w k : Nat) : (s.scCtlFields c w).sc k = s.sc k := by
  unfold State.scCtlFields
  rw [State.wf_sc, State.wf_sc, State.wf_sc, State.wf_sc]

theorem ChannelStep.scCtlFields {t : State} {rs : List Reg} {evs : List FaultEv} (h : ChannelStep s t c rs evs) (w : Nat)
    (hf : (⟨.SC_CTL, 0, c, 0⟩ : Reg) ∈ rs) : ChannelStep s (t.scCtlFields c w) c rs evs :=
  (((h.wf F.SC_CTL_MAX_FRAME _ hf).wf F.SC_CTL_LINK _ hf).wf F.SC_CTL_SPEC _ hf).wf F.SC_CTL_SECURE _ hf

/-- Whether a buffer is permitted does not depend on what is stored (R681). -/
theorem State.bufOk_scCtlFields (s : State) (c w d : Nat) (tx otherTx otherRx : Bool) :
    (s.scCtlFields c w).bufOk d tx otherTx otherRx = s.bufOk d tx otherTx otherRx := by
  unfold State.bufOk State.txBase State.txSize State.rxBase State.rxSize State.forwards State.rb
  simp (disch := decide) only [State.rf_scCtlFields_apart]

/-- Both enables of an idle channel are clear, and its halves are closed. -/
theorem State.scIdle_iff : s.scIdle c = true ↔ s.rf F.SC_STAT_TX_STATE 0 c = 0 ∧ s.rf F.SC_STAT_RX_STATE 0 c = 0 ∧
    s.rb F.SC_CTL_TX_EN 0 c = false ∧ s.rb F.SC_CTL_RX_EN 0 c = false := by
  simp [State.scIdle, and_assoc]

theorem State.rb_scCtlFields_en (s : State) (c w : Nat) : (s.scCtlFields c w).rb F.SC_CTL_TX_EN 0 c = s.rb F.SC_CTL_TX_EN 0 c ∧
    (s.scCtlFields c w).rb F.SC_CTL_RX_EN 0 c = s.rb F.SC_CTL_RX_EN 0 c := by
  unfold State.rb
  rw [State.rf_scCtlFields_apart _ _ _ _ _ _ _ rfl rfl rfl rfl, State.rf_scCtlFields_apart _ _ _ _ _ _ _ rfl rfl rfl rfl]
  exact ⟨rfl, rfl⟩

/-- The transmit half of an idle channel enabled, its buffer empty; with a buffer that is not permitted only BUF_ERR is set. -/
def State.enabledTx (s : State) (c w : Nat) : State :=
  if s.bufOk c true false false then
    ((s.scCtlFields c w).wf F.SC_CTL_TX_EN 1 0 c).setSc c { s.sc c with txHead := 0, txLen := 0, cut := false }
  else (s.scCtlFields c w).wf F.SC_STAT_BUF_ERR 1 0 c

/-- A transmit half that is off is enabled if its buffer is permitted (R681). -/
theorem State.enableHalf_tx_on (htx : s.rb F.SC_CTL_TX_EN 0 c = false) (hrx : s.rb F.SC_CTL_RX_EN 0 c = false) :
    s.enableHalf c true true =
      if s.bufOk c true false false then (s.wf F.SC_CTL_TX_EN 1 0 c).txEmpty c else s.wf F.SC_STAT_BUF_ERR 1 0 c := by
  unfold State.enableHalf
  cases hok : s.bufOk c true false false
  · simp [htx, hrx, hok]
  · simp [htx, hrx, hok, b2n]

theorem State.enableHalf_scCtlFields (hidle : s.scIdle c = true) : (s.scCtlFields c w).enableHalf c true true = s.enabledTx c w := by
  obtain ⟨hstate, -, htx, hrx⟩ := State.scIdle_iff.mp hidle
  obtain ⟨htx', hrx'⟩ := s.rb_scCtlFields_en c w
  have hclosed : ((s.scCtlFields c w).wf F.SC_CTL_TX_EN 1 0 c).rf F.SC_STAT_TX_STATE 0 c = 0 := by
    rw [State.rf_wf_apart _ _ _ _ _ _ _ _ _ _ rfl rfl, State.rf_scCtlFields_apart _ _ _ _ _ _ _ rfl rfl rfl rfl, hstate]
  rw [State.enableHalf_tx_on (htx'.trans htx) (hrx'.trans hrx), State.bufOk_scCtlFields, State.txEmpty, if_pos hclosed, State.wf_sc,
    State.scCtlFields_sc]
  rfl

/-- A write that enables the transmit half of an idle channel, and nothing else. -/
theorem scCtlOut_enableTx {v : TWord} (htag : v.tag.toNat < 2) (hacts : bits v.data.toNat 47 44 = 0) (hen : bits v.data.toNat 1 0 = 2)
    (hidle : s.scIdle c = true) : scCtlOut c v s = s.enabledTx c v.data.toNat := by
  obtain ⟨htx, hrx⟩ := bits_1_0_two hen
  have hoff : (s.enabledTx c v.data.toNat).rb F.SC_CTL_RX_EN 0 c = false := by
    obtain ⟨-, -, -, hrx⟩ := State.scIdle_iff.mp hidle
    obtain ⟨-, hrx'⟩ := s.rb_scCtlFields_en c v.data.toNat
    unfold State.enabledTx
    split
    · rw [State.setSc_rb, State.rb_wf_apart _ _ _ _ _ _ _ _ _ _ rfl rfl, hrx', hrx]
    · rw [State.rb_wf_apart _ _ _ _ _ _ _ _ _ _ rfl rfl, hrx', hrx]
  unfold scCtlOut
  rw [if_pos htag, State.writeScCtl_eq, if_pos hidle, htx, hrx, State.enableHalf_scCtlFields hidle, State.enableHalf_rx_same hoff,
    hacts, State.scCtlActs_none]

end

/-! ### What a write of SC_CTL leaves -/

/-- A bit that is not set is 0. -/
theorem State.rf_zero_of_rb {s : State} {f : Fld} {d i j : Nat} (hwidth : f.width = 1) (h : s.rb f d i j = false) : s.rf f d i j = 0 := by
  have hlt := s.rf_lt f d i j
  rw [hwidth] at hlt
  have hne : s.rf f d i j ≠ 1 := by simpa [State.rb] using h
  omega

section
variable (s : State) (c : Nat)

/-- What an enabled transmit half holds (R681, R708). -/
theorem State.enabledTx_permitted (w : Nat) (hrx : s.rf F.SC_CTL_RX_EN 0 c = 0) (hok : s.bufOk c true false false = true) :
    (s.enabledTx c w).rf F.SC_CTL_TX_EN 0 c = 1 ∧ (s.enabledTx c w).rf F.SC_CTL_RX_EN 0 c = 0 ∧
      (s.enabledTx c w).rf F.SC_CTL_MAX_FRAME 0 c = max 1 (min 65536 (bits w 34 18)) ∧
      (s.enabledTx c w).rf F.SC_CTL_LINK 0 c = bits w 17 15 ∧ (s.enabledTx c w).rf F.SC_CTL_SPEC 0 c = bits w 14 14 ∧
      (s.enabledTx c w).rf F.SC_CTL_SECURE 0 c = bits w 13 13 ∧ ((s.enabledTx c w).sc c).txLen = 0 ∧
      ChannelStep s (s.enabledTx c w) c [⟨.SC_CTL, 0, c, 0⟩] [] := by
  have heq : s.enabledTx c w = _ := if_pos hok
  have hkept : ∀ g : Fld, F.SC_CTL_TX_EN.apart g = true → (s.enabledTx c w).rf g 0 c = (s.scCtlFields c w).rf g 0 c := fun g hg => by
    rw [heq, State.setSc_rf, State.rf_wf_apart _ _ _ _ _ _ _ _ _ _ rfl hg]
  obtain ⟨hmax, hlink, hspec, hsec⟩ := s.rf_scCtlFields c w
  refine ⟨?_, (hkept _ rfl).trans ?_, (hkept _ rfl).trans hmax, (hkept _ rfl).trans hlink, (hkept _ rfl).trans hspec,
    (hkept _ rfl).trans hsec, ?_, ?_⟩
  · rw [heq, State.setSc_rf]
    exact State.rf_wf_same _ F.SC_CTL_TX_EN _ _ _ _ rfl
  · rw [State.rf_scCtlFields_apart _ _ _ _ _ _ _ rfl rfl rfl rfl, hrx]
  · rw [heq, State.sc_setSc_same]
  · rw [heq]
    exact (((ChannelStep.refl s c _).scCtlFields w (.head _)).wf F.SC_CTL_TX_EN 1 (.head _)).setSc _

/-- What a half whose buffer is not permitted holds (R681). -/
theorem State.enabledTx_refused (w : Nat) (htx : s.rf F.SC_CTL_TX_EN 0 c = 0) (hok : s.bufOk c true false false = false) :
    (s.enabledTx c w).rf F.SC_CTL_TX_EN 0 c = 0 ∧ (s.enabledTx c w).rf F.SC_STAT_BUF_ERR 0 c = 1 ∧
      OnlyRegs s (s.enabledTx c w) [⟨.SC_CTL, 0, c, 0⟩, ⟨.SC_STAT, 0, c, 0⟩] := by
  have heq : s.enabledTx c w = (s.scCtlFields c w).wf F.SC_STAT_BUF_ERR 1 0 c := if_neg (by rw [hok]; decide)
  have hctl : (⟨.SC_CTL, 0, c, 0⟩ : Reg) ∈ [(⟨.SC_CTL, 0, c, 0⟩ : Reg), ⟨.SC_STAT, 0, c, 0⟩] := .head _
  rw [heq]
  refine ⟨?_, State.rf_wf_same _ F.SC_STAT_BUF_ERR _ _ _ _ rfl, (((((OnlyRegs.refl s _).wf F.SC_CTL_MAX_FRAME _ _ _ _ hctl).wf
    F.SC_CTL_LINK _ _ _ _ hctl).wf F.SC_CTL_SPEC _ _ _ _ hctl).wf F.SC_CTL_SECURE _ _ _ _ hctl).wf F.SC_STAT_BUF_ERR _ _ _ _
    (.tail _ (.head _))⟩
  rw [State.rf_wf_apart _ _ _ _ _ _ _ _ _ _ rfl rfl, State.rf_scCtlFields_apart _ _ _ _ _ _ _ rfl rfl rfl rfl, htx]

/-! ### TX_OPEN -/

/-- A transmit half that is opening has sent OPEN with its frame limit (R686). -/
def State.txOpening : State :=
  (((s.wf F.SC_CTL_TX_OPEN 1 0 c).wf F.SC_STAT_TX_STATE 1 0 c).setSc c
    { s.sc c with txWire := [], cut := false, gcmDue := none, txCtr := 0, msgs := [] }).msg c 1
    (s.rf F.SC_CTL_MAX_FRAME 0 c + s.rf F.SC_CTL_SECURE 0 c * 2 ^ 17 + 2 ^ 18)

/-- TX_OPEN opens an enabled, closed half on a link that is up, with its key valid. -/
theorem State.writeTxOpen_opens (hen : s.rf F.SC_CTL_TX_EN 0 c = 1) (hstate : s.rf F.SC_STAT_TX_STATE 0 c = 0)
    (hup : s.linkUp (s.rf F.SC_CTL_LINK 0 c) = true) (hlink : s.rf F.SC_CTL_LINK 0 c ≠ 2)
    (hkey : s.rf F.SC_CTL_SECURE 0 c = 1 → s.rf F.SK_CTL_VALID 0 (s.rf F.SC_KEY_TX_SLOT 0 c) = 1) :
    s.writeTxOpen c = s.txOpening c := by
  have hvalid : (s.rb F.SC_CTL_SECURE 0 c && !s.rb F.SK_CTL_VALID 0 (s.rf F.SC_KEY_TX_SLOT 0 c)) = false := by
    simpa [State.rb] using hkey
  unfold State.writeTxOpen State.txOpening
  rw [if_neg (by rw [hstate]; decide), if_neg (by rw [hstate, State.rb_of_rf_one hen]; decide), if_neg (by simp [hup, hlink]),
    if_neg (by rw [hvalid]; decide)]
  simp -implicitDefEqProofs (disch := decide) only [State.setSc_rf, State.rf_wf_apart, State.wf_sc]

/-- TX_OPEN on a link that is not up is refused with cause 0x6. -/
theorem State.writeTxOpen_down (hen : s.rf F.SC_CTL_TX_EN 0 c = 1) (hstate : s.rf F.SC_STAT_TX_STATE 0 c = 0)
    (hdown : s.linkUp (s.rf F.SC_CTL_LINK 0 c) = false) : s.writeTxOpen c = s.openRefused c 6 := by
  unfold State.writeTxOpen
  rw [if_neg (by rw [hstate]; decide), if_neg (by rw [hstate, State.rb_of_rf_one hen]; decide), if_pos (by simp [hdown])]

/-- What an opening half holds. -/
theorem State.txOpening_spec : (s.txOpening c).rf F.SC_STAT_TX_STATE 0 c = 1 ∧ (s.txOpening c).rf F.SC_CTL_TX_OPEN 0 c = 1 ∧
    (s.txOpening c).sc c = { s.sc c with txWire := [], cut := false, gcmDue := none, txCtr := 0, msgs :=
      [2 ^ 196 + (s.rf F.SC_CTL_MAX_FRAME 0 c + s.rf F.SC_CTL_SECURE 0 c * 2 ^ 17 + 2 ^ 18)] } ∧
    ChannelStep s (s.txOpening c) c [⟨.SC_CTL, 0, c, 0⟩, ⟨.SC_STAT, 0, c, 0⟩] [] := by
  have hmax : s.rf F.SC_CTL_MAX_FRAME 0 c < 2 ^ 17 := s.rf_lt F.SC_CTL_MAX_FRAME 0 c 0
  have hsec : s.rf F.SC_CTL_SECURE 0 c < 2 ^ 1 := s.rf_lt F.SC_CTL_SECURE 0 c 0
  have hfits : s.rf F.SC_CTL_MAX_FRAME 0 c + s.rf F.SC_CTL_SECURE 0 c * 2 ^ 17 + 2 ^ 18 < 2 ^ 196 := by omega
  unfold State.txOpening
  refine ⟨?_, ?_, ?_, ((((ChannelStep.refl s c _).wf F.SC_CTL_TX_OPEN 1 (.head _)).wf F.SC_STAT_TX_STATE 1 (.tail _ (.head _))).setSc
    _).msg _ _⟩
  · rw [State.msg_rf, State.setSc_rf]
    exact State.rf_wf_same _ F.SC_STAT_TX_STATE _ _ _ _ rfl
  · rw [State.msg_rf, State.setSc_rf, State.rf_wf_apart _ _ _ _ _ _ _ _ _ _ rfl rfl]
    exact State.rf_wf_same _ F.SC_CTL_TX_OPEN _ _ _ _ rfl
  · rw [State.msg_sc_same, State.sc_setSc_same, Nat.mod_eq_of_lt hfits, Nat.one_mul, List.nil_append]

/-! ### TX_CLOSE -/

/-- What an open half holds of which a close has been asked (R687). -/
theorem State.writeTxClose_spec (hstate : s.rf F.SC_STAT_TX_STATE 0 c = 2) (t : State) (ht : s.writeTxClose c = t) :
    t.rf F.SC_CTL_TX_CLOSE 0 c = 1 ∧
      (if (s.sc c).txWire = [] ∧ (s.sc c).gcmDue = none then
        t.rf F.SC_STAT_TX_STATE 0 c = 3 ∧ (t.sc c).msgs = (s.sc c).msgs ++ [4 * 2 ^ 196 + (s.sc c).txCtr % 2 ^ 196]
      else t.rf F.SC_STAT_TX_STATE 0 c = 2 ∧ t.sc c = s.sc c) ∧
      ChannelStep s t c [⟨.SC_CTL, 0, c, 0⟩, ⟨.SC_STAT, 0, c, 0⟩] [] := by
  have hasked : (s.wf F.SC_CTL_TX_CLOSE 1 0 c).rf F.SC_CTL_TX_CLOSE 0 c = 1 := State.rf_wf_same _ F.SC_CTL_TX_CLOSE _ _ _ _ rfl
  have hopen : (s.wf F.SC_CTL_TX_CLOSE 1 0 c).rf F.SC_STAT_TX_STATE 0 c = 2 :=
    (State.rf_wf_apart _ _ _ _ _ _ _ _ _ _ rfl rfl).trans hstate
  have hclose : s.writeTxClose c = (s.wf F.SC_CTL_TX_CLOSE 1 0 c).closeNow c := if_pos (by rw [hstate]; decide)
  rw [hclose] at ht
  subst ht
  refine ⟨(State.rf_closeNow _ _ _ rfl _ _ _).trans hasked, ?_,
    ((ChannelStep.refl s c _).wf F.SC_CTL_TX_CLOSE 1 (.head _)).closeNow (.tail _ (.head _))⟩
  rw [State.closeNow_asked _ _ hasked hopen, State.wf_sc]
  split
  · rw [State.wf_sc, State.msg_sc_same, State.wf_sc]
    exact ⟨State.rf_wf_same _ F.SC_STAT_TX_STATE _ _ _ _ rfl, rfl⟩
  · exact ⟨hopen, State.wf_sc _ _ _ _ _ _ _⟩

/-! ### FLUSH -/

end

/-- A channel whose transmit half holds nothing (R704). -/
def Sc.txFlushed (x : Sc) : Sc := { x with txHead := 0, txLen := 0, cut := false, txWire := [] }

/-- A channel whose receive half holds no word, and waits for no frame of which the end is still to come (R704). -/
def Sc.rxFlushed (x : Sc) : Sc :=
  { x with rx := [], ready := 0, frames := (x.frames.filter fun f => f.gcm.isNone).map fun f => { f with void := true } }

theorem Sc.rxFlushed_void (x : Sc) : (x.rxFlushed.frames.all fun f => f.void) = true := by
  simp [Sc.rxFlushed]

section
variable (s : State) (c : Nat)

/-- Both halves of a channel emptied, and the credits of the words of its receive half owed if it is open. -/
def State.flushedHalves : State :=
  let t := (s.setSc c (s.sc c).txFlushed).setSc c (s.sc c).txFlushed.rxFlushed
  if (s.sc c).rx.length = 0 || s.rf F.SC_STAT_RX_STATE 0 c = 0 then t else t.owe c (s.sc c).rx.length

/-- A flush where no frame is partly sent. -/
theorem State.channelFlush_boundary (hwire : (s.sc c).txWire = []) :
    s.channelFlush c = ((((s.flushedHalves c).rxView c).closeIfEmpty c).wf F.SC_CTL_FLUSH 0 0 c).closeNow c := by
  unfold State.channelFlush State.flushedHalves
  simp -implicitDefEqProofs [hwire, Sc.txFlushed, Sc.rxFlushed]

theorem State.flushedHalves_sc : (s.sc c).txFlushed.rxFlushed.BuffersKept ((s.flushedHalves c).sc c) := by
  have hset := State.sc_setSc_same (s.setSc c (s.sc c).txFlushed) c (s.sc c).txFlushed.rxFlushed
  unfold State.flushedHalves
  dsimp only
  split
  · rw [hset]
    exact .refl _
  · have howe := State.owe_sc ((s.setSc c (s.sc c).txFlushed).setSc c (s.sc c).txFlushed.rxFlushed) c (s.sc c).rx.length
    rwa [hset] at howe

/-- What a channel holds once both halves have been flushed. -/
theorem State.channelFlush_spec (hwire : (s.sc c).txWire = []) (t : State) (ht : s.channelFlush c = t) :
    (s.sc c).txFlushed.rxFlushed.BuffersKept (t.sc c) ∧ t.rf F.SC_CTL_FLUSH 0 c = 0 ∧ t.rf F.SC_STAT_RX_LEVEL 0 c = 0 ∧
      ChannelStep s t c [⟨.SC_CTL, 0, c, 0⟩, ⟨.SC_STAT, 0, c, 0⟩] [] := by
  have hflushed := s.flushedHalves_sc c
  have hset : ChannelStep s _ c [⟨.SC_CTL, 0, c, 0⟩, ⟨.SC_STAT, 0, c, 0⟩] [] :=
    ((ChannelStep.refl s c _).setSc (s.sc c).txFlushed).setSc (s.sc c).txFlushed.rxFlushed
  have hstep : ChannelStep s (s.flushedHalves c) c [⟨.SC_CTL, 0, c, 0⟩, ⟨.SC_STAT, 0, c, 0⟩] [] := .ite hset (hset.owe _)
  rw [State.channelFlush_boundary s c hwire] at ht
  generalize s.flushedHalves c = u at *
  have hready : (u.sc c).ready = 0 := by
    obtain ⟨_, _, h⟩ := hflushed
    rw [h]
    rfl
  subst ht
  refine ⟨?_, ?_, ?_, (((hstep.wf F.SC_STAT_RX_LEVEL _ (.tail _ (.head _))).closeIfEmpty (.tail _ (.head _))).wf F.SC_CTL_FLUSH 0
    (.head _)).closeNow (.tail _ (.head _))⟩
  · have hclose := State.closeIfEmpty_sc (u.rxView c) c
    have hsend := State.closeNow_sc (((u.rxView c).closeIfEmpty c).wf F.SC_CTL_FLUSH 0 0 c) c
    rw [State.rxView_sc] at hclose
    rw [State.wf_sc] at hsend
    exact (hflushed.trans hclose).trans hsend
  · rw [State.rf_closeNow _ _ _ rfl]
    exact State.rf_wf_same _ F.SC_CTL_FLUSH _ _ _ _ rfl
  · rw [State.rf_closeNow _ _ _ rfl, State.rf_wf_apart _ _ _ _ _ _ _ _ _ _ rfl rfl, State.rf_closeIfEmpty _ _ _ rfl, State.rxView,
      State.rf_wf_same _ _ _ _ _ _ rfl, hready]
    rfl

/-! ### KEY_SWITCH -/

/-- A transmit half that has switched its key and sent KEY_SWITCH (R695). -/
def State.keySwitched : State :=
  (((((s.msg c 7 0).wf F.SC_KEY_TX_SLOT (s.rf F.SC_KEY_TX_NEXT_SLOT 0 c) 0 c).wf F.SC_TX_SALT_SALT
    (s.rf F.SC_TX_NEXT_SALT_SALT 0 c) 0 c).wf F.SC_CTL_KEY_SWITCH 0 0 c).setSc c
    { s.sc c with msgs := (s.sc c).msgs ++ [7 * 2 ^ 196], txCtr := 0 })

theorem State.rf_keySwitched : (s.keySwitched c).rf F.SC_KEY_TX_SLOT 0 c = s.rf F.SC_KEY_TX_NEXT_SLOT 0 c ∧
    (s.keySwitched c).rf F.SC_TX_SALT_SALT 0 c = s.rf F.SC_TX_NEXT_SALT_SALT 0 c ∧
    (s.keySwitched c).rf F.SC_CTL_KEY_SWITCH 0 c = 0 ∧
    (s.keySwitched c).rf F.SC_STAT_TX_STATE 0 c = s.rf F.SC_STAT_TX_STATE 0 c := by
  have hslot : s.rf F.SC_KEY_TX_NEXT_SLOT 0 c < 2 ^ F.SC_KEY_TX_SLOT.width := s.rf_lt F.SC_KEY_TX_NEXT_SLOT 0 c 0
  have hsalt : s.rf F.SC_TX_NEXT_SALT_SALT 0 c < 2 ^ F.SC_TX_SALT_SALT.width := s.rf_lt F.SC_TX_NEXT_SALT_SALT 0 c 0
  unfold State.keySwitched
  simp -implicitDefEqProofs (disch := decide) only [State.setSc_rf, State.msg_rf, State.rf_wf_apart, State.rf_wf_same,
    Nat.mod_eq_of_lt hslot, Nat.mod_eq_of_lt hsalt, Nat.zero_mod, and_self]

theorem State.keySwitchNow_eq : s.keySwitchNow c =
    if s.rf F.SC_STAT_TX_STATE 0 c = 4 then (s.keySwitched c).wf F.SC_STAT_TX_STATE 2 0 c else s.keySwitched c := by
  obtain ⟨-, -, -, hstate⟩ := s.rf_keySwitched c
  have hdef : s.keySwitchNow c =
      if (s.keySwitched c).rf F.SC_STAT_TX_STATE 0 c = 4 then (s.keySwitched c).wf F.SC_STAT_TX_STATE 2 0 c else s.keySwitched c := by
    unfold State.keySwitchNow State.keySwitched
    simp -implicitDefEqProofs (disch := decide) only [State.wf_sc, State.msg_sc_same, State.msg_rf, State.rf_wf_apart, Nat.zero_mod,
      Nat.add_zero]
  rw [hdef, hstate]

/-- A KEY_SWITCH written at a frame boundary acts at once, if the next slot is VALID (R695, R696). -/
theorem State.writeKeySwitch_now (hstate : s.rf F.SC_STAT_TX_STATE 0 c = 2 ∨ s.rf F.SC_STAT_TX_STATE 0 c = 4)
    (hvalid : s.rf F.SK_CTL_VALID 0 (s.rf F.SC_KEY_TX_NEXT_SLOT 0 c) = 1) (hbound : (s.sc c).boundary = true) :
    s.writeKeySwitch c = s.keySwitchNow c := by
  unfold State.writeKeySwitch
  rw [State.rb_of_rf_one hvalid, hbound]
  rcases hstate with h | h
  · simp [h]
  · simp [h]

/-- What a half holds that has switched its key; an exhausted half is open again (R710). -/
theorem State.keySwitchNow_spec (hstate : s.rf F.SC_STAT_TX_STATE 0 c = 2 ∨ s.rf F.SC_STAT_TX_STATE 0 c = 4) (t : State)
    (ht : s.keySwitchNow c = t) : t.rf F.SC_KEY_TX_SLOT 0 c = s.rf F.SC_KEY_TX_NEXT_SLOT 0 c ∧
      t.rf F.SC_TX_SALT_SALT 0 c = s.rf F.SC_TX_NEXT_SALT_SALT 0 c ∧ t.rf F.SC_STAT_TX_STATE 0 c = 2 ∧
      t.rf F.SC_CTL_KEY_SWITCH 0 c = 0 ∧ t.sc c = { s.sc c with txCtr := 0, msgs := (s.sc c).msgs ++ [7 * 2 ^ 196] } ∧
      ChannelStep s t c [⟨.SC_CTL, 0, c, 0⟩, ⟨.SC_STAT, 0, c, 0⟩, ⟨.SC_KEY, 0, c, 0⟩, ⟨.SC_TX_SALT, 0, c, 0⟩] [] := by
  obtain ⟨hslot, hsalt, hswitch, hkept⟩ := s.rf_keySwitched c
  have hsc : (s.keySwitched c).sc c = _ := State.sc_setSc_same _ _ _
  have hstep : ChannelStep s (s.keySwitched c) c [⟨.SC_CTL, 0, c, 0⟩, ⟨.SC_STAT, 0, c, 0⟩, ⟨.SC_KEY, 0, c, 0⟩,
      ⟨.SC_TX_SALT, 0, c, 0⟩] [] :=
    (((((ChannelStep.refl s c _).msg 7 0).wf F.SC_KEY_TX_SLOT _ (by simp [F.SC_KEY_TX_SLOT])).wf F.SC_TX_SALT_SALT _
      (by simp [F.SC_TX_SALT_SALT])).wf F.SC_CTL_KEY_SWITCH 0 (.head _)).setSc _
  rw [State.keySwitchNow_eq] at ht
  subst ht
  split
  · rw [State.rf_wf_apart _ _ _ _ _ _ _ _ _ _ rfl rfl, State.rf_wf_apart _ _ _ _ _ _ _ _ _ _ rfl rfl,
      State.rf_wf_apart _ _ F.SC_CTL_KEY_SWITCH _ _ _ _ _ _ _ rfl rfl, State.wf_sc]
    exact ⟨hslot, hsalt, State.rf_wf_same _ F.SC_STAT_TX_STATE _ _ _ _ rfl, hswitch, hsc,
      hstep.wf F.SC_STAT_TX_STATE 2 (.tail _ (.head _))⟩
  · next h => exact ⟨hslot, hsalt, hkept.trans (hstate.resolve_right h), hswitch, hsc, hstep⟩

/-! ## Closes that time out -/

theorem State.frameCut_sc (k : Nat) : (s.frameCut c).sc k = s.sc k := by
  obtain ⟨m, hm⟩ := s.incE_frame F.SC_CUT_CNT_COUNT 0 c 0 1
  unfold State.frameCut
  rw [State.raise_sc, hm]
  rfl

theorem State.rf_frameCut (g : Fld) (d i j : Nat) (hg : .SC_CUT_CNT ≠ g.reg) : (s.frameCut c).rf g d i j = s.rf g d i j := by
  unfold State.frameCut
  rw [State.raise_rf, State.rf_incE_name _ _ _ _ _ _ _ _ _ _ hg]

theorem State.rf_frameCut_count (hlt : s.rf F.SC_CUT_CNT_COUNT 0 c < 2 ^ 32 - 1) :
    (s.frameCut c).rf F.SC_CUT_CNT_COUNT 0 c = s.rf F.SC_CUT_CNT_COUNT 0 c + 1 := by
  unfold State.frameCut
  rw [State.raise_rf, State.rf_incE_one rfl rfl hlt]

theorem ChannelStep.frameCut {s t : State} {c : Nat} {rs : List Reg} {evs : List FaultEv} (h : ChannelStep s t c rs evs)
    (hf : (⟨.SC_CUT_CNT, 0, c, 0⟩ : Reg) ∈ rs) : ChannelStep s (t.frameCut c) c rs (evs ++ [faultEv .saetteFrameCut 0 c 0]) :=
  (h.incE F.SC_CUT_CNT_COUNT hf).raise _ _ _ _

/-- A close that times out marks the frame in progress, if a word of it is queued (R687, R709). -/
theorem exec_closeCutTimeout_queued (hclose : s.rf F.SC_CTL_TX_CLOSE 0 c = 1) (hstate : s.rf F.SC_STAT_TX_STATE 0 c = 2)
    (hwire : (s.sc c).txWire ≠ []) (hcut : (s.sc c).cut = false) (hlen : 0 < (s.sc c).txLen) :
    exec (.closeCutTimeout c) s = .next ((s.setSc c { s.sc c with cut := true }).frameCut c) := by
  change execCloseCutTimeout c s = _
  unfold execCloseCutTimeout
  simp [State.rb_of_rf_one hclose, hstate, hwire, hcut, hlen]

/-- A transmit half whose frame in progress has been ended by FLUSH (log 84). -/
def State.frameFlushed : State := ((s.setSc c { s.sc c with txWire := [] }).msg c 8 0).frameCut c

/-- A close that times out ends the frame in progress with FLUSH, if no word of it is queued. -/
theorem exec_closeCutTimeout_empty (hclose : s.rf F.SC_CTL_TX_CLOSE 0 c = 1) (hstate : s.rf F.SC_STAT_TX_STATE 0 c = 2)
    (hwire : (s.sc c).txWire ≠ []) (hcut : (s.sc c).cut = false) (hlen : (s.sc c).txLen = 0) :
    exec (.closeCutTimeout c) s = .next ((s.frameFlushed c).txBoundary c ((s.sc c).txCtr + 1)) := by
  change execCloseCutTimeout c s = _
  unfold execCloseCutTimeout State.frameFlushed
  simp [State.rb_of_rf_one hclose, hstate, hwire, hcut, hlen]

/-- A half that has ended its last frame, with no key switch pending and its counter not exhausted, sends CLOSE (R687). -/
theorem State.txBoundary_closes {ctr : Nat} (hclose : s.rf F.SC_CTL_TX_CLOSE 0 c = 1) (hstate : s.rf F.SC_STAT_TX_STATE 0 c = 2)
    (hwire : (s.sc c).txWire = []) (hgcm : (s.sc c).gcmDue = none) (hswitch : s.rf F.SC_CTL_KEY_SWITCH 0 c = 0)
    (hctr : ctr < 2 ^ 64 - 1) :
    s.txBoundary c ctr = ((s.setSc c { s.sc c with txCtr := ctr }).msg c 4 ctr).wf F.SC_STAT_TX_STATE 3 0 c := by
  have hmod : ctr % 2 ^ 64 = ctr := Nat.mod_eq_of_lt (by omega)
  unfold State.txBoundary
  dsimp only
  rw [hmod, State.setSc_rb, State.rb_of_rf_zero hswitch, if_neg Bool.false_ne_true, if_neg (by omega),
    State.closeNow_asked _ _ ((State.setSc_rf ..).trans hclose) ((State.setSc_rf ..).trans hstate), State.sc_setSc_same,
    if_pos ⟨hwire, hgcm⟩]

/-- What is left of a half whose frame in progress FLUSH has ended. -/
theorem State.closeCut_empty_spec (hclose : s.rf F.SC_CTL_TX_CLOSE 0 c = 1) (hstate : s.rf F.SC_STAT_TX_STATE 0 c = 2)
    (hgcm : (s.sc c).gcmDue = none) (hswitch : s.rf F.SC_CTL_KEY_SWITCH 0 c = 0) (hctr : (s.sc c).txCtr < 2 ^ 64 - 2)
    (hlt : s.rf F.SC_CUT_CNT_COUNT 0 c < 2 ^ 32 - 1) (t : State) (ht : (s.frameFlushed c).txBoundary c ((s.sc c).txCtr + 1) = t) :
    t.rf F.SC_STAT_TX_STATE 0 c = 3 ∧
      t.sc c = { s.sc c with txWire := [], txCtr := (s.sc c).txCtr + 1, msgs := (s.sc c).msgs ++
        [8 * 2 ^ 196, 4 * 2 ^ 196 + ((s.sc c).txCtr + 1)] } ∧
      t.rf F.SC_CUT_CNT_COUNT 0 c = s.rf F.SC_CUT_CNT_COUNT 0 c + 1 ∧
      ChannelStep s t c [⟨.SC_CUT_CNT, 0, c, 0⟩, ⟨.SC_STAT, 0, c, 0⟩] [faultEv .saetteFrameCut 0 c 0] := by
  have hsc : (s.frameFlushed c).sc c = { s.sc c with txWire := [], msgs := (s.sc c).msgs ++ [8 * 2 ^ 196] } := by
    unfold State.frameFlushed
    rw [State.frameCut_sc, State.msg_sc_same, State.sc_setSc_same, Nat.zero_mod, Nat.add_zero]
  have hkept : ∀ g : Fld, .SC_CUT_CNT ≠ g.reg → (s.frameFlushed c).rf g 0 c = s.rf g 0 c := fun g hg => by
    unfold State.frameFlushed
    rw [State.rf_frameCut _ _ _ _ _ _ hg, State.msg_rf, State.setSc_rf]
  have hcount : (s.frameFlushed c).rf F.SC_CUT_CNT_COUNT 0 c = s.rf F.SC_CUT_CNT_COUNT 0 c + 1 := State.rf_frameCut_count _ _ hlt
  have hstep : ChannelStep s (s.frameFlushed c) c [⟨.SC_CUT_CNT, 0, c, 0⟩, ⟨.SC_STAT, 0, c, 0⟩] [faultEv .saetteFrameCut 0 c 0] :=
    (((ChannelStep.refl s c _).setSc _).msg 8 0).frameCut (.head _)
  have hfits : (s.sc c).txCtr + 1 < 2 ^ 196 := by omega
  rw [State.txBoundary_closes _ _ ((hkept _ (by decide)).trans hclose) ((hkept _ (by decide)).trans hstate) (by rw [hsc])
    (by rw [hsc]; exact hgcm) ((hkept _ (by decide)).trans hswitch) (by omega), hsc] at ht
  subst ht
  refine ⟨State.rf_wf_same _ F.SC_STAT_TX_STATE _ _ _ _ rfl, ?_, ?_,
    ((hstep.setSc _).msg _ _).wf F.SC_STAT_TX_STATE 3 (.tail _ (.head _))⟩
  · rw [State.wf_sc, State.msg_sc_same, State.sc_setSc_same, Nat.mod_eq_of_lt hfits, List.append_assoc, List.singleton_append]
  · rw [State.rf_wf_apart _ _ _ _ _ _ _ _ _ _ rfl rfl, State.msg_rf, State.setSc_rf, hcount]

/-! ## Channel 0 -/

/-- Channel 0, enabled and not secure, opens on its link when that is up (R789). -/
theorem State.openCh0_opens (hboot : s.bootSm = false) (hon : s.rf F.CABEN_CTL_SAETTE_EN 0 = 1)
    (hstate : s.rf F.SC_STAT_TX_STATE 0 0 = 0) (hfwd : s.forwards 0 = false) (hfuse : s.cfg.fuses.secureEn = false)
    (htx : s.rf F.SC_CTL_TX_EN 0 0 = 1) (hrx : s.rf F.SC_CTL_RX_EN 0 0 = 1) (hsec : s.rf F.SC_CTL_SECURE 0 0 = 0)
    (hup : s.linkUp (s.rf F.SC_CTL_LINK 0 0) = true) (hlink : s.rf F.SC_CTL_LINK 0 0 ≠ 2) : s.openCh0 = s.txOpening 0 := by
  have hbusy : s.scIdle 0 = false := by simp [State.scIdle, State.rb_of_rf_one htx]
  rw [← s.writeTxOpen_opens 0 htx hstate hup hlink (fun h => absurd (hsec.symm.trans h) (by decide))]
  unfold State.openCh0
  rw [hboot, State.rb_of_rf_one hon, hstate, hfwd, hfuse, hbusy, if_neg (by decide)]
  dsimp only
  rw [if_neg Bool.false_ne_true, if_neg (by simp [b2n]), State.enableHalf_tx_same (State.rb_of_rf_one htx),
    State.enableHalf_rx_same (State.rb_of_rf_one hrx), if_pos hup]

end

/-- Settles O39, clause by clause: the enable stored and refused, TX_OPEN sent and refused, TX_CLOSE, then the messages OPEN accepted
and refused, OPEN_ACK, OPEN_REFUSE, CLOSE, CLOSE_ACK and FLUSH, the written FLUSH and KEY_SWITCH, the two ends of a close that times
out, and channel 0. -/
theorem saetteChannelsOpenAndClose : Obligations.SaetteChannelsOpenAndClose := by
  unfold Obligations.SaetteChannelsOpenAndClose
  refine ⟨fun s c w htag hacts hen hidle hok => ?_, fun s c w htag hacts hen hidle hok => ?_,
    fun s c w htag hacts htx hrx hen hstate hup hlink hkey => ?_, fun s c w htag hacts htx hrx hen hstate hdown => ?_,
    fun s c w htag hacts htx hrx hen hstate => ?_, fun s l x c hdue hkind hmsg hchan hfwd hlink hl hcause => ?_,
    fun s l x c hdue hkind hmsg hchan hfwd hlink hl hcause => ?_, fun s l x c hdue hkind hmsg hchan hfwd hlink hstate hclose => ?_,
    fun s l x c hdue hkind hmsg hchan hfwd hlink hstate => ?_, fun s l x c hdue hkind hmsg hchan hfwd hlink hstate howed => ?_,
    fun s l x c hdue hkind hmsg hchan hfwd hlink hstate => ?_,
    fun s l x c f hdue hkind hmsg hchan hfwd hlink hstate hlast hpart => ?_, fun s c w htag hacts htx hrx hen hwire => ?_,
    fun s c w htag hacts htx hrx hen hstate hvalid hbound => ?_, fun s c hclose hstate hwire hcut hlen hlt => ?_,
    fun s c hclose hstate hwire hcut hlen hgcm hswitch hctr hlt => ?_,
    fun s hboot hon hstate hfwd hfuse htx hrx hsec hup hlink => ?_⟩
  · obtain ⟨-, -, -, hrx⟩ := State.scIdle_iff.mp hidle
    obtain ⟨htx, hrx, hmax, hlink, hspec, hsec, hlen, hstep⟩ := s.enabledTx_permitted c w.data.toNat (State.rf_zero_of_rb rfl hrx) hok
    exact ⟨_, congrArg Host.Outcome.next (scCtlOut_enableTx htag hacts hen hidle), htx, hrx, hmax, hlink, hspec, hsec, hlen, hstep.1,
      hstep.quiet, hstep.kept⟩
  · obtain ⟨-, -, htx, -⟩ := State.scIdle_iff.mp hidle
    exact ⟨_, congrArg Host.Outcome.next (scCtlOut_enableTx htag hacts hen hidle),
      s.enabledTx_refused c w.data.toNat (State.rf_zero_of_rb rfl htx) hok⟩
  · have hwrite : scCtlOut c w s = s.txOpening c := by
      rw [scCtlOut_enabled htag htx hrx hen, hacts, State.scCtlActs_txOpen, State.writeTxOpen_opens s c hen hstate hup hlink hkey]
    obtain ⟨hopening, hasked, hsc, hstep⟩ := s.txOpening_spec c
    exact ⟨_, congrArg Host.Outcome.next hwrite, hopening, hasked, by rw [hsc], by rw [hsc], by rw [hsc],
      hstep.1, hstep.quiet, hstep.kept⟩
  · have hwrite : scCtlOut c w s = s.openRefused c 6 := by
      rw [scCtlOut_enabled htag htx hrx hen, hacts, State.scCtlActs_txOpen, State.writeTxOpen_down s c hen hstate hdown]
    exact ⟨_, congrArg Host.Outcome.next hwrite, s.openRefused_spec c (by decide)⟩
  · have hwrite : scCtlOut c w s = s.writeTxClose c := by
      rw [scCtlOut_enabled htag htx hrx hen, hacts, State.scCtlActs_txClose]
    obtain ⟨hasked, hsent, hstep⟩ := s.writeTxClose_spec c hstate _ rfl
    exact ⟨_, congrArg Host.Outcome.next hwrite, hasked, hsent, hstep.quiet, hstep.kept⟩
  · have hown := exec_openCell_own hdue hkind hmsg hchan hfwd hlink hl
    rw [if_pos hcause] at hown
    obtain ⟨hopen, hlevel, hsc, hstep⟩ := (s.tookCell l).rxOpened_spec c
    rw [State.tookCell_sc, State.tookCell_rxSize] at hsc
    exact ⟨_, hown, hopen, hlevel, by rw [hsc], by rw [hsc], by rw [hsc], .of_step hstep⟩
  · have hown := exec_openCell_own hdue hkind hmsg hchan hfwd hlink hl
    rw [if_neg hcause] at hown
    refine ⟨_, hown, ?_, .of_step ((ChannelStep.refl _ c _).msg _ _)⟩
    rw [State.msg_sc_same, Nat.mod_eq_of_lt (State.openCause_lt _ _ _ _), State.tookCell_sc]
  · obtain ⟨hopen, hcredit, hasked, hsc, hstep⟩ := (s.tookCell l).txOpened_spec c (bits_lt (cellBody x) 18 0)
    exact ⟨_, exec_openAck_opening hdue hkind hmsg hchan hfwd hlink hstate hclose, hopen, hcredit, hasked, by rw [hsc], by rw [hsc],
      .of_step hstep⟩
  · obtain ⟨hclosed, hcause, hline, hframe⟩ := (s.tookCell l).openRefused_spec c (bits_lt (cellBody x) 3 0)
    exact ⟨_, exec_openRefuse_opening hdue hkind hmsg hchan hfwd hlink hstate, hclosed, hcause, hline, hframe.tookCell⟩
  · obtain ⟨hclosing, hstep⟩ := (s.tookCell l).closing_spec c (by rwa [State.tookCell_sc]) _ rfl
    rw [State.tookCell_sc] at hclosing
    exact ⟨_, exec_closeCell_open hdue hkind hmsg hchan hfwd hlink hstate, hclosing, .of_step hstep⟩
  · obtain ⟨hclosed, hasked, hsc, hstep⟩ := (s.tookCell l).closeAcked_spec c _ rfl
    exact ⟨_, exec_closeAck_closing hdue hkind hmsg hchan hfwd hlink hstate, hclosed, hasked, hsc.trans (s.tookCell_sc l c),
      .of_step hstep⟩
  · obtain ⟨hopen, ⟨_, _, hsc⟩, hstep⟩ := State.rxDropPartial_spec (s := s.tookCell l) (by rwa [State.tookCell_sc]) hpart
      (by rwa [State.tookCell_rf])
    rw [State.tookCell_sc] at hsc
    exact ⟨_, exec_flush_open hdue hkind hmsg hchan hfwd hlink hstate, by rw [hsc, Sc.dropFrame], by rw [hsc, Sc.dropFrame],
      by rw [hsc, Sc.dropFrame], hopen, .of_step hstep⟩
  · have hwrite : scCtlOut c w s = s.channelFlush c := by rw [scCtlOut_enabled htag htx hrx hen, hacts, State.scCtlActs_flush]
    obtain ⟨⟨_, _, hsc⟩, hflush, hlevel, hstep⟩ := s.channelFlush_spec c hwire _ rfl
    exact ⟨_, congrArg Host.Outcome.next hwrite, by rw [hsc]; rfl, by rw [hsc]; rfl, by rw [hsc]; rfl, by rw [hsc]; rfl,
      by rw [hsc]; exact Sc.rxFlushed_void _, hflush, hlevel, hstep.1, hstep.quiet, hstep.kept⟩
  · have hwrite : scCtlOut c w s = s.keySwitchNow c := by
      rw [scCtlOut_enabled htag htx hrx hen, hacts, State.scCtlActs_keySwitch, State.writeKeySwitch_now s c hstate hvalid hbound]
    obtain ⟨hslot, hsalt, hopen, hswitch, hsc, hstep⟩ := s.keySwitchNow_spec c hstate _ rfl
    exact ⟨_, congrArg Host.Outcome.next hwrite, hslot, hsalt, hopen, hswitch, hsc, hstep.quiet, hstep.kept⟩
  · have hstep : ChannelStep s _ c [⟨.SC_CUT_CNT, 0, c, 0⟩] _ :=
      ((ChannelStep.refl s c _).setSc { s.sc c with cut := true }).frameCut (.head _)
    exact ⟨_, exec_closeCutTimeout_queued s c hclose hstate hwire hcut hlen, by rw [State.frameCut_sc, State.sc_setSc_same], hstep.1,
      State.rf_frameCut_count _ _ hlt, hstep.faultLine, hstep.frame, hstep.kept⟩
  · obtain ⟨hclosing, hsc, hcount, hstep⟩ := s.closeCut_empty_spec c hclose hstate hgcm hswitch hctr hlt _ rfl
    exact ⟨_, exec_closeCutTimeout_empty s c hclose hstate hwire hcut hlen, hclosing, hsc, hcount,
      hstep.faultLine, hstep.frame, hstep.kept⟩
  · obtain ⟨hopening, -, hsc, hstep⟩ := s.txOpening_spec 0
    have hopens := s.openCh0_opens hboot hon hstate hfwd hfuse htx hrx hsec hup hlink
    refine ⟨_, congrArg Host.Outcome.next hopens, hopening, ?_, hstep.quiet, hstep.kept⟩
    rw [hsc, hsec, Nat.zero_mul, Nat.add_zero]

end Sys2Proof.Machine
end

section
/-!
SUPPORT. Every command and every step: proofs of the statements O57 and O58, from the rule of what every command keeps.
-/
namespace Sys2Proof.Machine

/-- Settles O57: the two cases of `step`, and a tick keeps the empty queue. -/
theorem aStepPerformsTheCommandAtTheFront : Obligations.AStepPerformsTheCommandAtTheFront := by
  refine ⟨fun c s rest h => ?_, fun s h => ⟨s.fabricTick, ?_, rfl, (Kept.refl s).fabricTick.pending.trans h⟩⟩
  · unfold step
    rw [h]
  · unfold step
    rw [h]

/-- Settles O58: each command goes on and keeps the queue, as `Kept.exec` says. -/
theorem everyCommandIsPerformedAndLeavesTheQueue : Obligations.EveryCommandIsPerformedAndLeavesTheQueue := by
  intro c s
  obtain ⟨t, ht, hkept⟩ := (Kept.refl s).exec c
  exact ⟨t, ht, hkept.pending⟩

end Sys2Proof.Machine
end

section
/-!
SUPPORT. Sequencer cores: proofs of the statements O23 and O25 to O28. Arithmetic comes first, then branches and halts, exceptions
and interrupts, and last the writes of SEQ_CTL and SEQ_MEM_DATA.
-/
namespace Sys2Proof.Machine

/-! ## Flags -/

theorem b2n_lt_two (b : Bool) : b2n b < 2 := by cases b <;> decide

/-- STATUS with its flags replaced shows them, and keeps every other bit (Table 15-5). -/
theorem putFlags_spec {st : Nat} (hst : st < 2 ^ 48) (f : Flags) :
    putFlags st f < 2 ^ 48 ∧ flagsOf (putFlags st f) = f ∧ putFlags st f / 16 = st / 16 := by
  obtain ⟨z, n, c, v⟩ := f
  have hlow : putFlags st ⟨z, n, c, v⟩ % 16 = b2n v * 8 + b2n c * 4 + b2n n * 2 + b2n z := by
    have := b2n_lt_two z; have := b2n_lt_two n; have := b2n_lt_two c; have := b2n_lt_two v
    unfold putFlags
    dsimp only
    omega
  have hbit : ∀ k, k < 4 → bit (putFlags st ⟨z, n, c, v⟩) k = bit (b2n v * 8 + b2n c * 4 + b2n n * 2 + b2n z) k := by
    intro k hk
    rw [← hlow, bit_eq_testBit, bit_eq_testBit, show (16 : Nat) = 2 ^ 4 from rfl, Nat.testBit_mod_two_pow, decide_eq_true hk,
      Bool.true_and]
  refine ⟨?_, ?_, ?_⟩
  · have := b2n_lt_two z; have := b2n_lt_two n; have := b2n_lt_two c; have := b2n_lt_two v
    unfold putFlags
    dsimp only
    omega
  · unfold flagsOf
    rw [hbit 0 (by decide), hbit 1 (by decide), hbit 2 (by decide), hbit 3 (by decide)]
    cases z <;> cases n <;> cases c <;> cases v <;> rfl
  · have := b2n_lt_two z; have := b2n_lt_two n; have := b2n_lt_two c; have := b2n_lt_two v
    unfold putFlags
    dsimp only
    omega

/-! ## Arithmetic -/

section
variable {s : State} {d c : Nat}

theorem State.sr_lt (s : State) (d c k : Nat) : s.sr d c k < 2 ^ 48 := (s.reg ⟨.SEQ_SR, d, c, k⟩).isLt

/-- A comparison completes (R855). -/
theorem State.flags_complete {n : Nat} (f : Flags) (hx : (s.core d c).Undisturbed) :
    ∃ t : State, (s.setSr d c 0 (putFlags (s.sr d c 0) f)).seqDone d c (s.seqPc d c + 1) n = t ∧ flagsOf (t.sr d c 0) = f ∧
      t.sr d c 0 / 16 = s.sr d c 0 / 16 ∧ SeqWent s t d c (s.seqPc d c + 1) n ∧ OnlyCores s t (⟨.SEQ_SR, d, c, 0⟩ :: seqRegs d c) := by
  obtain ⟨hfits, hflags, hrest⟩ := putFlags_spec (s.sr_lt d c 0) f
  obtain ⟨hreg, hwent, honly⟩ := State.setReg_completes (pc := s.seqPc d c + 1) (n := n) ⟨.SEQ_SR, d, c, 0⟩
    (BitVec.ofNat 48 (putFlags (s.sr d c 0) f)) (by simp [seqRegs]) hx
  have hsr : ((s.setSr d c 0 (putFlags (s.sr d c 0) f)).seqDone d c (s.seqPc d c + 1) n).sr d c 0 = putFlags (s.sr d c 0) f :=
    (congrArg BitVec.toNat hreg).trans (Nat.mod_eq_of_lt hfits)
  exact ⟨_, rfl, by rw [hsr]; exact hflags, by rw [hsr]; exact hrest, hwent, honly⟩

/-- An arithmetic instruction completes: RD and the flags (R855). -/
theorem State.alu_completes (op : SeqOp) (rd : Nat) (r : Word) (f : Flags) (hx : (s.core d c).Undisturbed) :
    SeqAlu s (s.alu d c op (some rd) r f) d c rd r f (op.cycles false) := by
  have hset : OnlyCores s (s.setG d c rd r) [⟨.SEQ_G, d, c, rd⟩] := (OnlyCores.refl s _).setReg _ _ (.head _)
  have hsr : (s.setG d c rd r).sr d c 0 = s.sr d c 0 := congrArg BitVec.toNat (hset.kept _ (by simp))
  have hpc : (s.setG d c rd r).seqPc d c = s.seqPc d c := hset.kept.rf F.SEQ_STAT_PC d c 0 (by simp [F.SEQ_STAT_PC])
  obtain ⟨t, ht, hflags, hrest, hwent, honly⟩ := State.flags_complete (s := s.setG d c rd r) (n := op.cycles false) f hx
  have hg : t.g d c rd = r := (honly.kept _ (by simp [seqRegs])).trans (State.setReg_reg_same s _ r)
  rw [hsr] at hrest
  rw [hpc] at hwent
  have halu : s.alu d c op (some rd) r f = t := ht
  rw [halu]
  obtain ⟨hframe, hkept⟩ := (hset.mono (by simp)).trans (honly.mono (rs' := ⟨.SEQ_G, d, c, rd⟩ :: ⟨.SEQ_SR, d, c, 0⟩ :: seqRegs d c)
    (by simp [seqRegs]))
  exact ⟨hg, hflags, hrest, hwent.of_kept hset.kept (by simp), hframe, hkept⟩

/-- A comparison completes: the flags alone (R855). -/
theorem State.cmp_completes (op : SeqOp) (r : Word) (f : Flags) (hop : op.cycles false = 1) (hx : (s.core d c).Undisturbed) :
    SeqCmp s (s.alu d c op none r f) d c f := by
  obtain ⟨t, ht, hspec⟩ := State.flags_complete (n := op.cycles false) f hx
  rw [hop] at hspec
  have halu : s.alu d c op none r f = t := ht
  rw [halu]
  exact hspec

end

theorem fFunc_eq (w : Nat) : fFunc w = w % 64 := by
  simp only [fFunc, bits]
  omega

/-- Settles O23: an arithmetic instruction by `State.alu_completes`, a comparison by `State.cmp_completes`, a load of a constant by
`State.load_completes`. -/
theorem coresComputeAsTheTableSays : Obligations.CoresComputeAsTheTableSays := by
  unfold Obligations.CoresComputeAsTheTableSays
  have halu : ∀ {s : State} {d c w : Nat} {op : SeqOp} (r : Word) (f : Flags), s.seqAt d c w op = true →
      s.seqExec d c w op = s.alu d c op (some (fRd w)) r f →
      ∃ t, (.next (s.seqRow d c op) : Out) = .next t ∧ SeqAlu s t d c (fRd w) r f (op.cycles false) := fun r f hat hexec =>
    ⟨_, (State.next_seqRow hat).trans (congrArg _ hexec), State.alu_completes _ _ r f (State.seqAt_undisturbed hat)⟩
  have hcmp : ∀ {s : State} {d c w : Nat} {op : SeqOp} (f : Flags), s.seqAt d c w op = true → op.cycles false = 1 →
      s.seqExec d c w op = s.alu d c op none 0#48 f → ∃ t, (.next (s.seqRow d c op) : Out) = .next t ∧ SeqCmp s t d c f :=
    fun f hat hop hexec =>
      ⟨_, (State.next_seqRow hat).trans (congrArg _ hexec), State.cmp_completes _ _ f hop (State.seqAt_undisturbed hat)⟩
  refine ⟨?nop, fun s d c w h => halu _ _ h rfl, fun s d c w h => halu _ _ h rfl, fun s d c w h => halu _ _ h rfl,
    fun s d c w h => halu _ _ h rfl, fun s d c w h => halu _ _ h rfl, fun s d c w h => halu _ _ h rfl,
    fun s d c w h => halu _ _ h rfl, fun s d c w h => halu _ _ h rfl, fun s d c w h => halu _ _ h rfl,
    fun s d c w h => halu _ _ h rfl, fun s d c w h => hcmp _ h rfl rfl, fun s d c w h => halu _ _ h rfl,
    fun s d c w h => hcmp _ h rfl rfl, fun s d c w h => halu _ _ h rfl, fun s d c w h => halu _ _ h rfl,
    fun s d c w h => halu _ _ h rfl, ?shli, ?shri, ?sari, ?ldi, ?lih⟩
  case nop =>
    intro s d c w hat
    exact ⟨_, State.next_seqRow hat, State.seqDone_completes (State.seqAt_undisturbed hat)⟩
  case shli =>
    intro s d c w hat
    rw [← fFunc_eq w]
    exact halu _ _ hat rfl
  case shri =>
    intro s d c w hat
    rw [← fFunc_eq w]
    exact halu _ _ hat rfl
  case sari =>
    intro s d c w hat
    rw [← fFunc_eq w]
    exact halu _ _ hat rfl
  case ldi =>
    intro s d c w hat
    exact ⟨_, State.next_seqRow hat, State.load_completes .ldi (fRd w) _ (State.seqAt_undisturbed hat)⟩
  case lih =>
    intro s d c w hat
    exact ⟨_, State.next_seqRow hat, State.load_completes .lih (fRd w) _ (State.seqAt_undisturbed hat)⟩

/-! ## Branches, calls and returns -/

section
variable {s : State} {d c : Nat}

/-- PC is taken modulo the memory's words, however often (R845). -/
theorem SeqWent.mod {t : State} {pc n : Nat} (h : SeqWent s t d c (pc % 8192) n) : SeqWent s t d c pc n := by
  unfold SeqWent at h ⊢
  rwa [Nat.mod_mod] at h

theorem SeqWent.congr {t : State} {pc pc' n : Nat} (h : SeqWent s t d c pc n) (hpc : pc % 8192 = pc' % 8192) : SeqWent s t d c pc' n := by
  unfold SeqWent at h ⊢
  rwa [hpc] at h

/-- A core that has gone to its next word: PC there, and the cycle counted. -/
def State.pastWord (s : State) (d c : Nat) : State := (s.setSeqPc d c ((s.seqPc d c + 1) % 8192)).addCycles d c 1

theorem State.pastWord_only (s : State) (d c : Nat) : OnlyCores s (s.pastWord d c) (seqRegs d c) :=
  (((OnlyCores.refl s _).wf _ _ _ _ _ (.head _)).ww _ _ _ _ _ (.tail _ (.head _))).ww _ _ _ _ _ (.tail _ (.tail _ (.head _)))

theorem State.seqPc_pastWord (s : State) (d c : Nat) : (s.pastWord d c).seqPc d c = (s.seqPc d c + 1) % 8192 := by
  have hpc := State.rf_wf_same s F.SEQ_STAT_PC ((s.seqPc d c + 1) % 8192) d c 0 rfl
  unfold State.seqPc State.pastWord State.addCycles State.setSr State.setSeqPc
  rw [State.rf_ww_name _ _ _ _ _ _ _ _ _ _ (by decide), State.rf_ww_name _ _ _ _ _ _ _ _ _ _ (by decide)]
  exact hpc.trans (Nat.mod_mod _ _)

/-- A core that has halted (R864, R894). -/
def HaltedWith (t : State) (d c cause : Nat) : Prop :=
  t.seqState d c = 0 ∧ t.rf F.SEQ_STAT_HALT_CAUSE d c = cause ∧ t.rf F.SEQ_CTL_RUN d c = 0

/-- The registers that a halt writes. -/
def haltRegs (d c : Nat) : List Reg := [⟨.SEQ_STAT, d, c, 0⟩, ⟨.SEQ_CTL, d, c, 0⟩]

theorem State.coreHalt_spec (s : State) (d c : Nat) {cause : Nat} (hcause : cause < 16) :
    HaltedWith (s.coreHalt d c cause) d c cause ∧ (s.coreHalt d c cause).seqPc d c = s.seqPc d c ∧
      OnlyCores s (s.coreHalt d c cause) (haltRegs d c) := by
  refine ⟨⟨?_, ?_, ?_⟩, ?_, ?_⟩
  · unfold State.seqState State.coreHalt
    rw [State.setCore_rf]
    simp (disch := decide) only [State.rf_wf_apart, State.rf_wf_same]
    rfl
  · unfold State.coreHalt
    rw [State.setCore_rf]
    simp (disch := decide) only [State.rf_wf_apart, State.rf_wf_same]
    exact Nat.mod_eq_of_lt hcause
  · unfold State.coreHalt
    rw [State.setCore_rf]
    simp (disch := decide) only [State.rf_wf_apart, State.rf_wf_same]
    rfl
  · unfold State.seqPc State.coreHalt
    dsimp only
    rw [State.setCore_rf]
    simp (disch := decide) only [State.rf_wf_apart]
  · have hstat : (⟨.SEQ_STAT, d, c, 0⟩ : Reg) ∈ haltRegs d c := .head _
    have hctl : (⟨.SEQ_CTL, d, c, 0⟩ : Reg) ∈ haltRegs d c := .tail _ (.head _)
    exact (((((OnlyCores.refl s _).wf F.SEQ_STAT_STATE _ _ _ _ hstat).wf F.SEQ_STAT_HALT_CAUSE _ _ _ _ hstat).wf F.SEQ_CTL_RUN _ _ _ _
      hctl).wf F.SEQ_CTL_STEP _ _ _ _ hctl).setCore _ _ _

/-- HALT and BRK: the core halts past its word (Table 15-3). -/
theorem State.halt_completes (s : State) (d c : Nat) {cause : Nat} (hcause : cause < 16) :
    ∃ t : State, (s.pastWord d c).coreHalt d c cause = t ∧ t.seqState d c = 0 ∧ t.rf F.SEQ_STAT_HALT_CAUSE d c = cause ∧
      t.rf F.SEQ_CTL_RUN d c = 0 ∧ t.seqPc d c = (s.seqPc d c + 1) % 8192 ∧ OnlyCores s t (⟨.SEQ_CTL, d, c, 0⟩ :: seqRegs d c) := by
  obtain ⟨⟨hstate, hhalt, hrun⟩, hpc, honly⟩ := (s.pastWord d c).coreHalt_spec d c hcause
  exact ⟨_, rfl, hstate, hhalt, hrun, hpc.trans (s.seqPc_pastWord d c),
    ((s.pastWord_only d c).mono (by simp [seqRegs])).trans (honly.mono (by simp [haltRegs, seqRegs]))⟩

/-- WAIT without an enabled interrupt pending: the core sleeps past its word (R863). -/
theorem State.wait_sleeps (hx : (s.core d c).Undisturbed) (hvec : s.pendingVec d c = none) :
    ∃ t : State, s.seqWait d c = t ∧ t.seqState d c = 2 ∧ t.seqPc d c = (s.seqPc d c + 1) % 8192 ∧ OnlyCores s t (seqRegs d c) := by
  have hwait : s.seqWait d c = ((s.pastWord d c).wf F.SEQ_STAT_STATE 2 d c).setCore d c
      { (s.pastWord d c).core d c with since := (s.pastWord d c).now, fresh := false } := by
    unfold State.seqWait
    rw [hx.stepping, hvec]
    rfl
  rw [hwait]
  refine ⟨_, rfl, ?_, ?_, ((s.pastWord_only d c).wf _ _ _ _ _ (.head _)).setCore _ _ _⟩
  · unfold State.seqState
    rw [State.setCore_rf]
    exact State.rf_wf_same _ F.SEQ_STAT_STATE 2 d c 0 rfl
  · have hpc := s.seqPc_pastWord d c
    unfold State.seqPc at hpc ⊢
    rw [State.setCore_rf, State.rf_wf_apart _ _ _ _ _ _ _ _ _ _ rfl rfl, hpc]

end

/-- Settles O25: an instruction that goes on by `State.seqDone_completes`, WAIT by `State.wait_sleeps`, HALT and BRK by
`State.halt_completes`. -/
theorem coresBranchAndHalt : Obligations.CoresBranchAndHalt := by
  unfold Obligations.CoresBranchAndHalt
  refine ⟨?b, ?call, ?jr, ?ret, ?reti, ?wait, ?halt, ?brk⟩
  case b =>
    intro s d c w hat
    obtain ⟨hwent, honly⟩ := State.seqDone_completes (pc := if condHolds (fRd w) (flagsOf (s.sr d c 0)) (tOf (s.sr d c 0))
      then s.seqPc d c + (sext 14 (f14 w)).toNat % 8192 else s.seqPc d c + 1)
      (n := SeqOp.cycles .b (condHolds (fRd w) (flagsOf (s.sr d c 0)) (tOf (s.sr d c 0)))) (State.seqAt_undisturbed hat)
    refine ⟨_, State.next_seqRow hat, hwent.congr ?_, honly⟩
    split
    · omega
    · rfl
  case call =>
    intro s d c w hat
    obtain ⟨hreg, hwent, honly⟩ := State.setReg_completes (pc := fTarget w) (n := 2) ⟨.SEQ_G, d, c, 15⟩
      (BitVec.ofNat 48 ((s.seqPc d c + 1) % 8192)) (by simp [seqRegs]) (State.seqAt_undisturbed hat)
    refine ⟨_, State.next_seqRow hat, ?_, hwent.congr ?_, honly⟩
    · refine (congrArg BitVec.toNat hreg).trans (Nat.mod_eq_of_lt ?_)
      omega
    · simp only [fTarget, bits]
      omega
  case jr =>
    intro s d c w hat
    obtain ⟨hwent, honly⟩ := State.seqDone_completes (pc := (s.g d c (fRa w)).toNat % 8192) (n := 2) (State.seqAt_undisturbed hat)
    exact ⟨_, State.next_seqRow hat, hwent.mod, honly⟩
  case ret =>
    intro s d c w hat
    obtain ⟨hwent, honly⟩ := State.seqDone_completes (pc := (s.g d c 15).toNat % 8192) (n := 2) (State.seqAt_undisturbed hat)
    exact ⟨_, State.next_seqRow hat, hwent.mod, honly⟩
  case reti =>
    intro s d c w hat
    obtain ⟨hreg, hwent, honly⟩ := State.setReg_completes (pc := s.sr d c 1) (n := 3) ⟨.SEQ_SR, d, c, 0⟩
      (BitVec.ofNat 48 (s.sr d c 2)) (by simp [seqRegs]) (State.seqAt_undisturbed hat)
    exact ⟨_, State.next_seqRow hat, (congrArg BitVec.toNat hreg).trans (Nat.mod_eq_of_lt (s.sr_lt d c 2)), hwent, honly⟩
  case wait =>
    intro s d c w hat hvec
    obtain ⟨t, ht, hspec⟩ := State.wait_sleeps (State.seqAt_undisturbed hat) hvec
    exact ⟨t, (State.next_seqRow hat).trans (congrArg _ ht), hspec⟩
  case halt =>
    intro s d c w hat
    obtain ⟨t, ht, hspec⟩ := s.halt_completes d c (cause := 5) (by decide)
    exact ⟨t, (State.next_seqRow hat).trans (congrArg _ ht), hspec⟩
  case brk =>
    intro s d c w hat
    obtain ⟨t, ht, hspec⟩ := s.halt_completes d c (cause := 4) (by decide)
    exact ⟨t, (State.next_seqRow hat).trans (congrArg _ ht), hspec⟩

end Sys2Proof.Machine
end

section
/-!
SUPPORT. Sequencer cores: proofs of the statements O26 to O28. Entries of exceptions and interrupts come first, then the writes of
SEQ_CTL and of SEQ_MEM_DATA.
-/
namespace Sys2Proof.Machine

/-! ## Bits -/

/-- A bit that is 0 is 1 once its weight is added, and no other bit of the word is touched. -/
theorem bit_add_two_pow {w k : Nat} (h : bit w k = false) : bit (w + 2 ^ k) k = true := by
  rw [bit_eq_testBit] at h ⊢
  rw [Nat.add_comm, Nat.testBit_two_pow_add_eq, h]
  rfl

theorem add_two_pow_lt {w k n : Nat} (hw : w < 2 ^ n) (hk : k < n) (h : bit w k = false) : w + 2 ^ k < 2 ^ n := by
  have hsplit : w / 2 ^ k % 2 = 0 := by
    unfold bit at h
    rw [beq_eq_false_iff_ne] at h
    omega
  have hpow : 2 ^ n = 2 ^ k * (2 * 2 ^ (n - k - 1)) := by rw [← pow_succ', ← pow_add]; congr 1; omega
  have hdiv : w / 2 ^ k < 2 * 2 ^ (n - k - 1) := Nat.div_lt_of_lt_mul (hpow ▸ hw)
  have hlow := Nat.mod_lt w (Nat.two_pow_pos k)
  have hw' := Nat.div_add_mod w (2 ^ k)
  have hnext : w / 2 ^ k + 1 < 2 * 2 ^ (n - k - 1) := by omega
  have hmul : 2 ^ k * (w / 2 ^ k + 2) ≤ 2 ^ n := hpow ▸ Nat.mul_le_mul_left _ hnext
  rw [Nat.mul_add] at hmul
  omega

/-! ## Entry of a vector -/

section
variable {s : State} {d c v : Nat}

/-- The special registers as the entry of vector `v` leaves them (R861). -/
def State.enterRegs (s : State) (d c v : Nat) : State :=
  (((s.setSr d c 1 (s.seqPc d c)).setSr d c 2 (s.sr d c 0)).setSr d c 0 (s.sr d c 0 + 2 ^ 46)).setSr d c 3 v

/-- The special registers that an entry writes. -/
def entryRegs (d c : Nat) : List Reg := [0, 1, 2, 3].map fun k => (⟨.SEQ_SR, d, c, k⟩ : Reg)

theorem State.sr_setSr (s : State) (d c j v k : Nat) :
    (s.setSr d c j v).sr d c k = if k = j then v % 2 ^ 48 else s.sr d c k := by
  unfold State.sr State.setSr State.rw
  rw [State.reg_ww]
  by_cases h : k = j
  · rw [if_pos (by rw [h]), if_pos h, BitVec.toNat_ofNat]
  · rw [if_neg (by simpa using h), if_neg h]

theorem State.enterRegs_only (s : State) (d c v : Nat) : OnlyCores s (s.enterRegs d c v) (entryRegs d c) :=
  ((((OnlyCores.refl s _).ww _ _ _ _ _ (.tail _ (.head _))).ww _ _ _ _ _ (.tail _ (.tail _ (.head _)))).ww _ _ _ _ _ (.head _)).ww
    _ _ _ _ _ (.tail _ (.tail _ (.tail _ (.head _))))

theorem State.enterRegs_core (s : State) (d c v : Nat) : (s.enterRegs d c v).core d c = s.core d c := by
  unfold State.enterRegs State.setSr
  rw [State.ww_core, State.ww_core, State.ww_core, State.ww_core]

/-- Entry saves PC and STATUS, sets H and CAUSE, and goes to 8 x v (R861). -/
theorem State.seqEntry_spec (hx : (s.core d c).Undisturbed) (hlev : bit (s.sr d c 0) 46 = false) (hv : v < 2 ^ 48) :
    ∃ t : State, s.seqEntry d c v = t ∧ t.sr d c 1 = s.seqPc d c ∧ t.sr d c 2 = s.sr d c 0 ∧ t.sr d c 0 = s.sr d c 0 + 2 ^ 46 ∧
      t.sr d c 3 = v ∧ SeqWent s t d c (8 * v) 3 ∧ OnlyCores s t (entryRegs d c ++ seqRegs d c) := by
  have hdef : s.seqEntry d c v = (s.enterRegs d c v).seqDone d c (8 * v) 3 := by
    unfold State.seqEntry
    dsimp only
    rw [if_neg (by rw [hlev]; exact Bool.false_ne_true)]
    rfl
  have hpc : s.seqPc d c < 2 ^ 48 := (s.rf_lt F.SEQ_STAT_PC d c 0).trans (by decide)
  have hst := s.sr_lt d c 0
  have hH : s.sr d c 0 + 2 ^ 46 < 2 ^ 48 := add_two_pow_lt hst (by decide) hlev
  rw [← s.enterRegs_core d c v] at hx
  obtain ⟨hwent, honly⟩ := State.seqDone_after (pc := 8 * v) (n := 3) (s.enterRegs_only d c v) (by simp [entryRegs]) hx
  obtain ⟨-, hdone⟩ := State.seqDone_completes (pc := 8 * v) (n := 3) hx
  have hsr : ∀ k, k < 4 → ((s.enterRegs d c v).seqDone d c (8 * v) 3).sr d c k = (s.enterRegs d c v).sr d c k := fun k hk =>
    congrArg BitVec.toNat (hdone.kept _ (by simp [seqRegs]; omega))
  refine ⟨_, hdef, ?_, ?_, ?_, ?_, hwent, honly⟩
  all_goals
    rw [hsr _ (by decide)]
    unfold State.enterRegs
    simp only [State.sr_setSr]
  · simpa using Nat.mod_eq_of_lt hpc
  · simpa using Nat.mod_eq_of_lt hst
  · simpa using Nat.mod_eq_of_lt hH
  · simpa using Nat.mod_eq_of_lt hv

/-! ## Interrupts -/

theorem State.pendingVec_some (h : s.pendingVec d c = some v) : v < 32 ∧ bit (s.sr d c 9) v = true := by
  have hmem := List.mem_of_find?_eq_some h
  have hbit := List.find?_some h
  simp only [Bool.and_eq_true] at hbit
  exact ⟨List.mem_range.mp hmem, hbit.1.2⟩

/-- An interrupt is entered, and its vector pends no longer (R861). -/
theorem State.seqInterrupt_spec (hx : (s.core d c).Undisturbed) (hlev : bit (s.sr d c 0) 46 = false) (hvec : s.pendingVec d c = some v) :
    ∃ t : State, s.seqInterrupt d c v = t ∧ t.sr d c 1 = s.seqPc d c ∧ t.sr d c 2 = s.sr d c 0 ∧ t.sr d c 0 = s.sr d c 0 + 2 ^ 46 ∧
      t.sr d c 3 = v ∧ bit (t.sr d c 9) v = false ∧ SeqWent s t d c (8 * v) 3 ∧
      OnlyCores s t ([0, 1, 2, 3, 9].map (fun k => (⟨.SEQ_SR, d, c, k⟩ : Reg)) ++ seqRegs d c) := by
  obtain ⟨hv, hbit⟩ := State.pendingVec_some hvec
  let u : State := s.setSr d c 9 (s.sr d c 9 - 2 ^ v)
  have hu : OnlyCores s u [⟨.SEQ_SR, d, c, 9⟩] := (OnlyCores.refl s _).ww _ _ _ _ _ (.head _)
  have hsr : ∀ k, k ≠ 9 → u.sr d c k = s.sr d c k := fun k hk => (s.sr_setSr d c 9 _ k).trans (if_neg hk)
  have hpc : u.seqPc d c = s.seqPc d c := hu.kept.rf F.SEQ_STAT_PC d c 0 (by simp [F.SEQ_STAT_PC])
  have hstat := hsr 0 (by decide)
  obtain ⟨t, ht, hepc, hestat, hstatus, hcause, hwent, honly⟩ := State.seqEntry_spec (s := u) (d := d) (c := c) (v := v) hx
    (by rw [hstat]; exact hlev) (by omega)
  rw [hpc] at hepc
  rw [hstat] at hestat hstatus
  have hpend : t.sr d c 9 = s.sr d c 9 - 2 ^ v := by
    have hlt : s.sr d c 9 - 2 ^ v < 2 ^ 48 := (Nat.sub_le _ _).trans_lt (s.sr_lt d c 9)
    have hkept : t.sr d c 9 = u.sr d c 9 := congrArg BitVec.toNat (honly.kept _ (by simp [entryRegs, seqRegs]))
    rw [hkept]
    exact (s.sr_setSr d c 9 _ 9).trans ((if_pos rfl).trans (Nat.mod_eq_of_lt hlt))
  have hdef : s.seqInterrupt d c v = t.setCore d c { t.core d c with fresh := (s.core d c).fresh } := by
    unfold State.seqInterrupt
    dsimp only
    rw [if_pos hbit]
    exact congrArg (fun x : State => x.setCore d c { x.core d c with fresh := (s.core d c).fresh }) ht
  refine ⟨_, hdef, hepc, hestat, hstatus, hcause, ?_, (hwent.of_kept hu.kept (by simp)).setCore _ _ _, ?_⟩
  · refine Eq.trans (congrArg (fun x => bit x v) ?_) (bit_sub_two_pow hbit)
    exact hpend
  · exact ((hu.mono (by simp)).trans (honly.mono (by simp [entryRegs, seqRegs]))).setCore _ _ _

/-! ## Exceptions -/

/-- Nothing differs between two states but the registers `rs`, the cores' own state, and the events on their way to the fault
manager, which `evs` have joined. -/
def OnlyCoresEv (s t : State) (rs : List Reg) (evs : List FaultEv) : Prop :=
  t.faultLine = s.faultLine ++ evs ∧ t = { s with regs := t.regs, cores := t.cores, faultLine := t.faultLine } ∧ RegsKept s t rs

theorem OnlyCoresEv.of_raised {u t : State} {rs : List Reg} {evs : List FaultEv} (h : OnlyCores u t rs)
    (hu : u = { s with faultLine := s.faultLine ++ evs }) : OnlyCoresEv s t rs evs := by
  subst hu
  obtain ⟨hframe, hkept⟩ := h
  exact ⟨by rw [hframe], by rw [hframe], hkept⟩

theorem SeqWent.of_raised {t : State} {pc n : Nat} {evs : List FaultEv}
    (h : SeqWent { s with faultLine := s.faultLine ++ evs } t d c pc n) : SeqWent s t d c pc n := h

/-- The source of exception `v` (Table 15-6). -/
def exceptionSrc (v : Nat) : FaultSrc := if v = 0 then .seqIllegalInstruction else .seqFetchInvalid

/-- An exception with H = 0 raises its source and is entered (R854, R861). -/
theorem State.seqException_enters (hx : (s.core d c).Undisturbed) (hlev : bit (s.sr d c 0) 46 = false) (hv : v < 2 ^ 48) :
    ∃ t : State, s.seqException d c v = t ∧ t.sr d c 1 = s.seqPc d c ∧ t.sr d c 2 = s.sr d c 0 ∧ t.sr d c 0 = s.sr d c 0 + 2 ^ 46 ∧
      t.sr d c 3 = v ∧ SeqWent s t d c (8 * v) 3 ∧ OnlyCoresEv s t (entryRegs d c ++ seqRegs d c) [faultEv (exceptionSrc v) d c 0] := by
  obtain ⟨t, ht, hepc, hestat, hstatus, hcause, hwent, honly⟩ := State.seqEntry_spec (s := s.raise (exceptionSrc v) d c)
    (d := d) (c := c) (v := v) hx hlev hv
  have hdef : s.seqException d c v = (s.raise (exceptionSrc v) d c).seqEntry d c v := if_neg (Bool.eq_false_iff.mp hlev)
  exact ⟨t, hdef.trans ht, hepc, hestat, hstatus, hcause, hwent.of_raised, .of_raised honly rfl⟩

/-- An exception with H = 1 is a double fault: the core halts (R862). -/
theorem State.seqException_halts (hlev : bit (s.sr d c 0) 46 = true) :
    ∃ t : State, s.seqException d c v = t ∧ t.seqState d c = 0 ∧ t.rf F.SEQ_STAT_HALT_CAUSE d c = 6 ∧ t.seqPc d c = s.seqPc d c ∧
      OnlyCoresEv s t (haltRegs d c) [faultEv (exceptionSrc v) d c 0, faultEv .seqDoubleFault d c 0] := by
  let u : State := (s.raise (exceptionSrc v) d c).raise .seqDoubleFault d c
  obtain ⟨⟨hstate, hcause, -⟩, hpc, honly⟩ := u.coreHalt_spec d c (cause := 6) (by decide)
  have hdef : s.seqException d c v = u.coreHalt d c 6 := if_pos hlev
  have hu : u = { s with faultLine := s.faultLine ++ [faultEv (exceptionSrc v) d c 0, faultEv .seqDoubleFault d c 0] } := by
    rw [List.append_cons]
    rfl
  exact ⟨_, hdef, hstate, hcause, hpc, .of_raised honly hu⟩

/-! ## Words that are no instruction -/

theorem fetchedOf_illegal {w : TWord} (htag : w.tag = tagData) (h : w.data.toNat / 2 ^ 24 ≠ 0 ∨ seqDecode w.data.toNat = none) :
    fetchedOf w = .illegal := by
  have hlt := w.data.isLt
  have hbits : bits w.data.toNat 47 24 = w.data.toNat / 2 ^ 24 := by
    unfold bits
    exact Nat.mod_eq_of_lt (by omega)
  unfold fetchedOf
  rw [if_neg (not_not.mpr htag), hbits]
  by_cases hhigh : w.data.toNat / 2 ^ 24 ≠ 0
  · exact if_pos hhigh
  · rw [if_neg hhigh, h.resolve_left hhigh]

theorem fetchedOf_invalid {w : TWord} (htag : w.tag ≠ tagData) : fetchedOf w = .invalid := if_pos htag

/-- A core that finds a good word which it cannot execute takes the exception (R846, R854). -/
theorem State.seqBad_found {f : Fetched} {w : TWord} (hready : s.seqReady d c = true) (hbp : s.fetchBp d c = none)
    (hcell : decodeCell (s.cell d (imemAddr c (s.seqPc d c))) (imemAddr c (s.seqPc d c)) = .good w) (hf : fetchedOf w = f) :
    s.seqBad d c f v = s.seqException d c v := by
  have hpeek : s.peekFetch d c = f := by
    unfold State.peekFetch
    dsimp only
    rw [hcell]
    exact hf
  have hfetch : s.fetch d c = s := by
    unfold State.fetch
    rw [s.readWord_good _ _ _ _ _ hcell]
  unfold State.seqBad
  rw [if_pos ⟨hpeek, hready⟩, hbp, hfetch]

/-! ## Pending vectors -/

/-- PEND with vector `v` set. -/
def pended (p v : Nat) : Nat := if bit p v then p else p + 2 ^ v

theorem pended_spec {p v : Nat} (hp : p < 2 ^ 48) (hv : v < 48) : pended p v < 2 ^ 48 ∧ bit (pended p v) v = true := by
  unfold pended
  by_cases h : bit p v = true
  · rw [if_pos h]
    exact ⟨hp, h⟩
  · rw [if_neg h]
    rw [Bool.not_eq_true] at h
    exact ⟨add_two_pow_lt hp hv h, bit_add_two_pow h⟩

/-- A vector becomes pending at a core that runs (R859). -/
theorem State.setPend_running (hrun : s.seqState d c = 1) (hv : v < 48) :
    bit ((s.setPend d c v).sr d c 9) v = true ∧ (s.setPend d c v).core d c = s.core d c ∧
      OnlyRegs s (s.setPend d c v) [⟨.SEQ_SR, d, c, 9⟩] := by
  obtain ⟨hfits, hbit⟩ := pended_spec (s.sr_lt d c 9) hv
  have hstate : (s.setSr d c 9 (pended (s.sr d c 9) v)).seqState d c = 1 := (State.rf_ww_name _ _ _ _ _ _ _ _ _ _ (by decide)).trans hrun
  have hdef : s.setPend d c v = s.setSr d c 9 (pended (s.sr d c 9) v) := if_neg fun h => by
    have := h.1.symm.trans hstate
    omega
  rw [hdef, State.sr_setSr, if_pos rfl, Nat.mod_eq_of_lt hfits]
  exact ⟨hbit, rfl, (OnlyRegs.refl s _).ww _ _ _ _ _ (.head _)⟩

/-- A core's own state replaced, and then a vector pending. -/
theorem State.setCore_setPend (x : Core) (hrun : s.seqState d c = 1) (hv : v < 48) :
    ∃ t : State, (s.setCore d c x).setPend d c v = t ∧ bit (t.sr d c 9) v = true ∧ t.core d c = x ∧
      OnlyCores s t [⟨.SEQ_SR, d, c, 9⟩] := by
  have hrun' : (s.setCore d c x).seqState d c = 1 := (State.setCore_rf ..).trans hrun
  obtain ⟨hbit, hcore, hframe, hkept⟩ := State.setPend_running hrun' hv
  refine ⟨_, rfl, hbit, hcore.trans (State.core_setCore_same ..), ?_, ?_⟩
  · rw [hframe]
    rfl
  · exact ((RegsKept.refl s _).setCore d c x).trans hkept

/-- A doorbell written: its word is stored and its vector pends (R859). -/
theorem State.writeDoorbell_first (hrun : s.seqState d c = 1) (hv : v < 32) (hnew : bit (s.sr d c 9) v = false) (w : Word) :
    ∃ t : State, s.writeDoorbell d c v w.toNat = t ∧ t.reg ⟨.SEQ_DOORBELL, d, c, v⟩ = w ∧ bit (t.sr d c 9) v = true ∧
      OnlyRegs s t [⟨.SEQ_DOORBELL, d, c, v⟩, ⟨.SEQ_SR, d, c, 9⟩] := by
  let u : State := s.ww .SEQ_DOORBELL (w.toNat % 2 ^ 48) d c v
  have hrun' : u.seqState d c = 1 := (State.rf_ww_name _ _ _ _ _ _ _ _ _ _ (by decide)).trans hrun
  obtain ⟨hbit, -, hframe, hkept⟩ := State.setPend_running hrun' (show v < 48 by omega)
  obtain ⟨huframe, hukept⟩ : OnlyRegs s u [⟨.SEQ_DOORBELL, d, c, v⟩] := (OnlyRegs.refl s _).ww _ _ _ _ _ (.head _)
  have hdef : s.writeDoorbell d c v w.toNat = u.setPend d c v := if_neg (by rw [hnew]; decide)
  have hword : u.reg ⟨.SEQ_DOORBELL, d, c, v⟩ = w := by
    refine (State.setReg_reg_same ..).trans ?_
    rw [Nat.mod_eq_of_lt w.isLt, BitVec.ofNat_toNat, BitVec.setWidth_eq]
  refine ⟨_, hdef, (hkept _ (by simp)).trans hword, hbit, ?_, (hukept.mono (by simp)).trans (hkept.mono (by simp))⟩
  rw [hframe]
  rfl

end

theorem exec_interruptEntry_due {s : State} {d c v : Nat} (hrun : s.seqState d c = 1) (hreset : (s.core d c).resetReq = none)
    (hclk : s.gated = false) (hdue : s.intDue d c = some v) : exec (.interruptEntry d c) s = .next (s.seqInterrupt d c v) := by
  change execInterruptEntry d c s = _
  unfold execInterruptEntry
  rw [if_pos ⟨hrun, by rw [hreset]; rfl, hclk⟩, hdue]

theorem State.intDue_enabled {s : State} {d c : Nat} (hie : bit (s.sr d c 0) 47 = true) (hlev : bit (s.sr d c 0) 46 = false) :
    s.intDue d c = s.pendingVec d c := by
  unfold State.intDue
  rw [hie, hlev]
  rfl

/-- Settles O26: the interrupt by `State.seqInterrupt_spec`, exceptions by `State.seqException_enters`, timers and doorbells by
`State.setPend_running`. -/
theorem coresTakeInterruptsAndExceptions : Obligations.CoresTakeInterruptsAndExceptions := by
  unfold Obligations.CoresTakeInterruptsAndExceptions
  refine ⟨?interrupt, ?illegal, ?invalid, ?timer, ?tcmp, ?doorbell⟩
  case interrupt =>
    intro s d c v hrun hreset hclk hbp hreq hfault hstep hie hlev hvec
    obtain ⟨t, ht, hspec⟩ := State.seqInterrupt_spec ⟨hbp, hreq, hfault, hstep⟩ hlev hvec
    exact ⟨t, (exec_interruptEntry_due hrun hreset hclk ((State.intDue_enabled hie hlev).trans hvec)).trans (congrArg _ ht), hspec⟩
  case illegal =>
    intro s d c w hready hfbp hbp hreq hfault hstep hlev hcell htag hword
    obtain ⟨t, ht, hepc, hestat, hstatus, hcause, hwent, hspec⟩ :=
      State.seqException_enters (v := 0) ⟨hbp, hreq, hfault, hstep⟩ hlev (by decide)
    have hbad : s.seqBad d c .illegal 0 = t := (State.seqBad_found hready hfbp hcell (fetchedOf_illegal htag hword)).trans ht
    exact ⟨t, congrArg Host.Outcome.next hbad, hepc, hestat, hstatus, hcause, hwent, hspec⟩
  case invalid =>
    intro s d c w hready hfbp hbp hreq hfault hstep hlev hcell htag
    obtain ⟨t, ht, hepc, hestat, hstatus, hcause, hwent, hspec⟩ :=
      State.seqException_enters (v := 1) ⟨hbp, hreq, hfault, hstep⟩ hlev (by decide)
    have hbad : s.seqBad d c .invalid 1 = t := (State.seqBad_found hready hfbp hcell (fetchedOf_invalid htag)).trans ht
    exact ⟨t, congrArg Host.Outcome.next hbad, hepc, hestat, hstatus, hcause, hwent, hspec⟩
  case timer =>
    rintro s d c _ hset hclk hrun rfl hover
    obtain ⟨t, ht, hbit, hcore, hspec⟩ := State.setCore_setPend (v := 2)
      { s.core d c with timerAt := ((s.core d c).timerAt + s.sr d c 6) % 2 ^ 48 } hrun (by decide)
    refine ⟨t, congrArg Host.Outcome.next (Eq.trans (if_neg ?_) ht), hbit, by rw [hcore], hspec⟩
    simp only [hclk, Bool.or_false, Bool.or_eq_true, decide_eq_true_eq]
    omega
  case tcmp =>
    intro s d c harmed hclk hover hrun
    obtain ⟨t, ht, hbit, hcore, hspec⟩ := State.setCore_setPend (v := 3) { s.core d c with armed := false } hrun (by decide)
    refine ⟨t, congrArg Host.Outcome.next (Eq.trans (if_pos ?_) ht), hbit, by rw [hcore], hspec⟩
    simp only [harmed, hclk, Bool.not_false, Bool.and_true, Bool.true_and, decide_eq_true_eq]
    exact hover
  case doorbell =>
    intro s d c v w hlow hhigh htag hnew hrun
    obtain ⟨t, ht, hspec⟩ := State.writeDoorbell_first hrun hhigh hnew w.data
    refine ⟨t, congrArg Host.Outcome.next ?_, hspec⟩
    rw [if_neg (by omega), if_pos htag, ht]

/-- Settles O27: with H = 1 no interrupt is due, and an exception halts by `State.seqException_halts`. -/
theorem doubleFaultsHaltTheCore : Obligations.DoubleFaultsHaltTheCore := by
  unfold Obligations.DoubleFaultsHaltTheCore
  refine ⟨?entry, ?illegal, ?invalid⟩
  case entry =>
    intro s d c hlev
    have hdue : s.intDue d c = none := if_neg (by rw [hlev]; simp)
    change execInterruptEntry d c s = _
    unfold execInterruptEntry
    rw [hdue]
    exact congrArg Host.Outcome.next (ite_self s)
  case illegal =>
    intro s d c w hready hfbp hlev hcell htag hword
    obtain ⟨t, ht, hstate, hcause, hpc, hline, hspec⟩ := State.seqException_halts (v := 0) hlev
    have hbad : s.seqBad d c .illegal 0 = t := (State.seqBad_found hready hfbp hcell (fetchedOf_illegal htag hword)).trans ht
    exact ⟨t, congrArg Host.Outcome.next hbad, hstate, hcause, hline, hpc, hspec⟩
  case invalid =>
    intro s d c w hready hfbp hlev hcell htag
    obtain ⟨t, ht, hstate, hcause, hpc, hline, hspec⟩ := State.seqException_halts (v := 1) hlev
    have hbad : s.seqBad d c .invalid 1 = t := (State.seqBad_found hready hfbp hcell (fetchedOf_invalid htag)).trans ht
    exact ⟨t, congrArg Host.Outcome.next hbad, hstate, hcause, hline, hpc, hspec⟩

end Sys2Proof.Machine
end

section
/-!
SUPPORT. Sequencer cores: proof of the statement O28. Halts and steps come first, then resets, and last the accesses of a halted core's
memories.
-/
namespace Sys2Proof.Machine

theorem OnlyCores.cell {s t : State} {rs : List Reg} (h : OnlyCores s t rs) (d pa : Nat) : t.cell d pa = s.cell d pa := by
  obtain ⟨hframe, -⟩ := h
  rw [hframe]
  rfl

/-! ## Halting -/

section
variable {s t : State} {d c w : Nat}

/-- A core's next breakpoint is that of its breakpoint registers and its PC. -/
theorem State.fetchBp_kept (hkept : RegsKept s t [⟨.SEQ_CTL, d, c, 0⟩]) (hcore : t.core d c = s.core d c) :
    t.fetchBp d c = s.fetchBp d c := by
  have hen := fun n => hkept.rf F.SEQ_BP_CTL_EN d c n (by simp [F.SEQ_BP_CTL_EN])
  have hkind := fun n => hkept.rf F.SEQ_BP_CTL_KIND d c n (by simp [F.SEQ_BP_CTL_KIND])
  have haddr := fun n => hkept.rf F.SEQ_BP_CTL_ADDR d c n (by simp [F.SEQ_BP_CTL_ADDR])
  have hpc : t.seqPc d c = s.seqPc d c := hkept.rf F.SEQ_STAT_PC d c 0 (by simp [F.SEQ_STAT_PC])
  unfold State.fetchBp State.bpMatch State.rb
  simp only [hcore, hen, hkind, haddr, hpc, show (0 : Nat) ≠ 3 by decide, if_false]

/-- RUN = 0 halts a core that runs, at its boundary (R864). -/
theorem State.writeSeqCtl_halts (hreset : bit w 47 = false) (hrun : bit w 45 = false) (hstate : s.seqState d c = 1)
    (hreq : (s.core d c).resetReq = none) (hstep : (s.core d c).stepping = false) (hbp : s.fetchBp d c = none) :
    s.writeSeqCtl d c w false = (s.wf F.SEQ_CTL_STEP_IRQ (bits w 44 44) d c).coreHalt d c 1 := by
  let u : State := s.wf F.SEQ_CTL_STEP_IRQ (bits w 44 44) d c
  have hcore : u.core d c = s.core d c := State.wf_core ..
  have hu : RegsKept s u [⟨.SEQ_CTL, d, c, 0⟩] := (RegsKept.refl s _).wf F.SEQ_CTL_STEP_IRQ _ _ _ _ (.head _)
  have hustate : u.seqState d c = 1 := (hu.rf F.SEQ_STAT_STATE d c 0 (by simp [F.SEQ_STAT_STATE])).trans hstate
  have hhalt : u.seqHaltReq d c = u.coreHalt d c 1 := by
    unfold State.seqHaltReq
    rw [if_pos hustate, State.fetchBp_kept hu hcore, hbp]
  unfold State.writeSeqCtl
  dsimp only
  rw [hstate, show ((1 : Nat) == 0) = false from rfl]
  simp only [Bool.false_eq_true, if_false]
  rw [if_neg (Bool.eq_false_iff.mp hreset), hcore, hreq, hstep, hrun]
  simp only [Option.isSome_none, Bool.false_eq_true, if_false, Bool.not_false, if_true]
  exact hhalt

/-! ## Resuming and stepping -/

/-- What a write of SEQ_CTL stores of a halted core before it acts: the cycles up to now, FREQ and STEP_IRQ (R864, R891). -/
def State.ctlHalted (s : State) (d c w : Nat) : State :=
  ((s.countHalted d c).wf F.SEQ_CTL_FREQ (min 120 (bits w 7 0)) d c).wf F.SEQ_CTL_STEP_IRQ (bits w 44 44) d c

/-- The registers that the control of a halted core writes. -/
def ctlRegs (d c : Nat) : List Reg := [⟨.SEQ_STAT, d, c, 0⟩, ⟨.SEQ_CTL, d, c, 0⟩, ⟨.SEQ_SR, d, c, 4⟩]

theorem stat_mem_ctlRegs (d c : Nat) : (⟨.SEQ_STAT, d, c, 0⟩ : Reg) ∈ ctlRegs d c := .head _
theorem ctl_mem_ctlRegs (d c : Nat) : (⟨.SEQ_CTL, d, c, 0⟩ : Reg) ∈ ctlRegs d c := .tail _ (.head _)
theorem cycle_mem_ctlRegs (d c : Nat) : (⟨.SEQ_SR, d, c, 4⟩ : Reg) ∈ ctlRegs d c := .tail _ (.tail _ (.head _))

theorem State.ctlHalted_only (s : State) (d c w : Nat) : OnlyCores s (s.ctlHalted d c w) (ctlRegs d c) :=
  ((((OnlyCores.refl s _).ww .SEQ_SR _ _ _ _ (cycle_mem_ctlRegs d c)).setCore d c _).wf F.SEQ_CTL_FREQ _ _ _ _
    (ctl_mem_ctlRegs d c)).wf F.SEQ_CTL_STEP_IRQ _ _ _ _ (ctl_mem_ctlRegs d c)

theorem State.core_ctlHalted (s : State) (d c w : Nat) : (s.ctlHalted d c w).core d c = { s.core d c with since := s.now } := by
  unfold State.ctlHalted State.countHalted
  dsimp only
  rw [State.wf_core, State.wf_core, State.core_setCore_same]

theorem State.rf_ctlHalted (s : State) (d c w : Nat) (f : Fld) (hf : f.reg ≠ .SEQ_SR) (hfreq : F.SEQ_CTL_FREQ.apart f = true)
    (hirq : F.SEQ_CTL_STEP_IRQ.apart f = true) : (s.ctlHalted d c w).rf f d c = s.rf f d c := by
  unfold State.ctlHalted State.countHalted State.addCycles State.setSr
  dsimp only
  rw [State.rf_wf_apart _ _ _ _ _ _ _ _ _ _ rfl hirq, State.rf_wf_apart _ _ _ _ _ _ _ _ _ _ rfl hfreq, State.setCore_rf,
    State.rf_ww_name _ _ _ _ _ _ _ _ _ _ (Ne.symm hf)]

theorem State.rf_ctlHalted_freq (s : State) (d c w : Nat) : (s.ctlHalted d c w).rf F.SEQ_CTL_FREQ d c = min 120 (bits w 7 0) := by
  have hfits : min 120 (bits w 7 0) < 2 ^ F.SEQ_CTL_FREQ.width := (Nat.min_le_left _ _).trans_lt (by decide)
  unfold State.ctlHalted
  rw [State.rf_wf_apart _ _ _ _ _ _ _ _ _ _ rfl rfl, State.rf_wf_fits _ _ _ _ _ _ rfl hfits]

theorem State.rf_ctlHalted_stepIrq (s : State) (d c w : Nat) : (s.ctlHalted d c w).rf F.SEQ_CTL_STEP_IRQ d c = bits w 44 44 % 2 :=
  State.rf_wf_same _ F.SEQ_CTL_STEP_IRQ _ _ _ _ rfl

/-- A write of SEQ_CTL without RESET that finds the core halted resumes or steps it, or does neither (R864, R865). -/
theorem State.writeSeqCtl_halted (hstate : s.seqState d c = 0) (hreset : bit w 47 = false) (hreq : (s.core d c).resetReq = none) :
    s.writeSeqCtl d c w false = if bit w 45 then (s.ctlHalted d c w).coreStart d c
      else if bit w 46 then (s.ctlHalted d c w).seqStep d c else s.ctlHalted d c w := by
  have hcore : ((s.ctlHalted d c w).core d c).resetReq = none := by rw [State.core_ctlHalted, hreq]
  unfold State.writeSeqCtl
  dsimp only
  rw [hstate, show ((0 : Nat) == 0) = true from rfl]
  simp only [if_true]
  rw [← State.ctlHalted.eq_1 s d c w, if_neg (Bool.eq_false_iff.mp hreset), hcore]
  simp only [Option.isSome_none, Bool.false_eq_true, if_false, Bool.not_false, Bool.and_true]
  cases bit w 45
  · simp only [Bool.false_eq_true, if_false, Bool.not_false, Bool.and_true]
  · simp only [if_true]

/-- A core resumes (R864). -/
theorem State.coreStart_spec (s : State) (d c : Nat) : (s.coreStart d c).seqState d c = 1 ∧ (s.coreStart d c).rf F.SEQ_CTL_RUN d c = 1 ∧
    (s.coreStart d c).rf F.SEQ_CTL_FREQ d c = s.rf F.SEQ_CTL_FREQ d c ∧ (s.coreStart d c).seqPc d c = s.seqPc d c ∧
    OnlyCores s (s.coreStart d c) (ctlRegs d c) := by
  refine ⟨?_, ?_, ?_, ?_, ?_⟩
  · unfold State.seqState State.coreStart
    dsimp only
    rw [State.setCore_rf]
    exact State.rf_wf_same _ F.SEQ_STAT_STATE 1 d c 0 rfl
  · unfold State.coreStart
    dsimp only
    rw [State.setCore_rf, State.rf_wf_apart _ _ _ _ _ _ _ _ _ _ rfl rfl]
    exact State.rf_wf_same _ F.SEQ_CTL_RUN 1 d c 0 rfl
  · unfold State.coreStart State.addCycles State.setSr
    dsimp only
    rw [State.setCore_rf, State.rf_wf_apart _ _ _ _ _ _ _ _ _ _ rfl rfl, State.rf_wf_apart _ _ _ _ _ _ _ _ _ _ rfl rfl,
      State.rf_ww_name _ _ _ _ _ _ _ _ _ _ (by decide)]
  · unfold State.seqPc State.coreStart State.addCycles State.setSr
    dsimp only
    rw [State.setCore_rf, State.rf_wf_apart _ _ _ _ _ _ _ _ _ _ rfl rfl, State.rf_wf_apart _ _ _ _ _ _ _ _ _ _ rfl rfl,
      State.rf_ww_name _ _ _ _ _ _ _ _ _ _ (by decide)]
  · exact ((((OnlyCores.refl s _).ww .SEQ_SR _ _ _ _ (cycle_mem_ctlRegs d c)).wf F.SEQ_CTL_RUN _ _ _ _ (ctl_mem_ctlRegs d c)).wf
      F.SEQ_STAT_STATE _ _ _ _ (stat_mem_ctlRegs d c)).setCore d c _

/-- A core as it begins a step (R865). -/
def State.stepBegun (s : State) (d c : Nat) : State :=
  let u := ((s.addCycles d c (s.coreElapsed d c)).wf F.SEQ_STAT_STATE 1 d c).wf F.SEQ_CTL_STEP 1 d c
  u.setCore d c { u.core d c with stepping := true, fresh := true, bp := none }

theorem State.stepBegun_only (s : State) (d c : Nat) : OnlyCores s (s.stepBegun d c) (ctlRegs d c) :=
  ((((OnlyCores.refl s _).ww .SEQ_SR _ _ _ _ (cycle_mem_ctlRegs d c)).wf F.SEQ_STAT_STATE _ _ _ _ (stat_mem_ctlRegs d c)).wf
    F.SEQ_CTL_STEP _ _ _ _ (ctl_mem_ctlRegs d c)).setCore d c _

theorem State.core_stepBegun (s : State) (d c : Nat) :
    (s.stepBegun d c).core d c = { s.core d c with stepping := true, fresh := true, bp := none } := by
  unfold State.stepBegun State.addCycles State.setSr
  dsimp only
  rw [State.core_setCore_same, State.wf_core, State.wf_core, State.ww_core]

theorem State.rf_stepBegun (s : State) (d c : Nat) (f : Fld) (hf : f.reg ≠ .SEQ_SR) (hstate : F.SEQ_STAT_STATE.apart f = true)
    (hstep : F.SEQ_CTL_STEP.apart f = true) : (s.stepBegun d c).rf f d c = s.rf f d c := by
  unfold State.stepBegun State.addCycles State.setSr
  dsimp only
  rw [State.setCore_rf, State.rf_wf_apart _ _ _ _ _ _ _ _ _ _ rfl hstep, State.rf_wf_apart _ _ _ _ _ _ _ _ _ _ rfl hstate,
    State.rf_ww_name _ _ _ _ _ _ _ _ _ _ (Ne.symm hf)]

/-- A core that steps without STEP_IRQ executes the instruction that it finds at PC (R865). The functions whose results the
step matches on stand abstract in this proof: the kernel would evaluate them. -/
theorem State.seqStep_executes {op : SeqOp} {iw : Nat} (hirq : s.rf F.SEQ_CTL_STEP_IRQ d c = 0)
    (hpeek : (s.stepBegun d c).peekFetch d c = .instr iw op) (hfetch : (s.stepBegun d c).fetch d c = s.stepBegun d c) :
    s.seqStep d c = (s.stepBegun d c).seqExec d c iw op := by
  have hnone : (s.stepBegun d c).rb F.SEQ_CTL_STEP_IRQ d c = false :=
    State.rb_of_rf_zero ((s.rf_stepBegun d c F.SEQ_CTL_STEP_IRQ (by decide) rfl rfl).trans hirq)
  obtain ⟨bit, hbit⟩ : ∃ f, f = @State.rb := ⟨_, rfl⟩
  obtain ⟨peek, hpeeked⟩ : ∃ f, f = State.peekFetch := ⟨_, rfl⟩
  obtain ⟨fetch, hfetched⟩ : ∃ f, f = State.fetch := ⟨_, rfl⟩
  obtain ⟨step, hstep⟩ : ∃ f, f = State.seqStep := ⟨_, rfl⟩
  rw [← hbit] at hnone
  rw [← hpeeked] at hpeek
  rw [← hfetched] at hfetch
  rw [← hstep]
  delta State.seqStep at hstep
  rw [hstep, ← hbit, ← hpeeked, ← hfetched]
  beta_reduce
  extract_lets n u0 _ u1 f u2
  have hu1 : u1 = s.stepBegun d c := rfl
  have hf : f = .instr iw op := (congrArg (fun u => peek u d c) hu1).trans hpeek
  have hu2 : u2 = s.stepBegun d c := (congrArg (fun u => fetch u d c) hu1).trans hfetch
  clear_value u2 f u1
  subst hu1 hu2 hf
  rw [if_neg (by rw [hnone]; exact Bool.false_ne_true)]

/-- An instruction executed in a step halts the core (R865). -/
theorem State.seqDone_stepping {pc n : Nat} (hbp : (s.core d c).bp = none) (hreq : (s.core d c).haltReq = false)
    (hfault : (s.core d c).haltFault = false) (hstep : (s.core d c).stepping = true) :
    s.seqDone d c pc n = ((s.setSeqPc d c (pc % 8192)).addCycles d c n).coreHalt d c 2 := by
  have hcore : ((s.setSeqPc d c (pc % 8192)).addCycles d c n).core d c = s.core d c := by
    unfold State.addCycles State.setSr State.setSeqPc
    rw [State.ww_core, State.ww_core, State.wf_core]
  unfold State.seqDone State.boundary
  dsimp only
  rw [hcore, hbp, hreq, hfault, hstep]
  rfl

/-- An arithmetic instruction executed in a step: RD holds its result, PC has gone on, and the core is halted (R865). -/
theorem State.alu_stepping (op : SeqOp) (rd : Nat) (r : Word) (f : Flags) (hbp : (s.core d c).bp = none)
    (hreq : (s.core d c).haltReq = false) (hfault : (s.core d c).haltFault = false) (hstep : (s.core d c).stepping = true) :
    HaltedWith (s.alu d c op (some rd) r f) d c 2 ∧ (s.alu d c op (some rd) r f).seqPc d c = (s.seqPc d c + 1) % 8192 ∧
      (s.alu d c op (some rd) r f).g d c rd = r := by
  let u : State := (s.setG d c rd r).setSr d c 0 (putFlags ((s.setG d c rd r).sr d c 0) f)
  have hcore : u.core d c = s.core d c := by
    change ((s.setReg ⟨.SEQ_G, d, c, rd⟩ r).ww .SEQ_SR _ d c 0).core d c = _
    rw [State.ww_core, State.setReg_core]
  have hu : OnlyCores s u [⟨.SEQ_G, d, c, rd⟩, ⟨.SEQ_SR, d, c, 0⟩] :=
    ((OnlyCores.refl s _).setReg ⟨.SEQ_G, d, c, rd⟩ r (.head _)).ww .SEQ_SR _ _ _ _ (.tail _ (.head _))
  have hpc : (s.setG d c rd r).seqPc d c = s.seqPc d c := ((OnlyCores.refl s _).setReg ⟨.SEQ_G, d, c, rd⟩ r (.head _)).kept.rf
    (rs := [⟨.SEQ_G, d, c, rd⟩]) F.SEQ_STAT_PC d c 0 (by simp [F.SEQ_STAT_PC])
  have hg : u.g d c rd = r := (State.reg_ww_ne _ _ _ _ _ _ _ (by simp)).trans (State.setReg_reg_same s _ r)
  let p : State := (u.setSeqPc d c ((s.seqPc d c + 1) % 8192)).addCycles d c (op.cycles false)
  have hp : OnlyCores u p (seqRegs d c) := (((OnlyCores.refl u _).wf F.SEQ_STAT_PC _ _ _ _ (.head _)).ww .SEQ_PC _ _ _ _
    (.tail _ (.head _))).ww .SEQ_SR _ _ _ _ (.tail _ (.tail _ (.head _)))
  have hdef : s.alu d c op (some rd) r f = p.coreHalt d c 2 := by
    have halu : s.alu d c op (some rd) r f = u.seqDone d c (s.seqPc d c + 1) (op.cycles false) := by
      rw [← hpc]
      rfl
    rw [halu, State.seqDone_stepping (by rw [hcore]; exact hbp) (by rw [hcore]; exact hreq) (by rw [hcore]; exact hfault)
      (by rw [hcore]; exact hstep)]
  obtain ⟨hhalted, hppc, hhalt⟩ := p.coreHalt_spec d c (cause := 2) (by decide)
  rw [hdef]
  refine ⟨hhalted, hppc.trans ?_, (hhalt.kept _ (by simp [haltRegs])).trans ((hp.kept _ (by simp [seqRegs])).trans hg)⟩
  have hset := State.rf_wf_same u F.SEQ_STAT_PC ((s.seqPc d c + 1) % 8192) d c 0 rfl
  change (((u.wf F.SEQ_STAT_PC ((s.seqPc d c + 1) % 8192) d c).ww .SEQ_PC _ d c).ww .SEQ_SR _ d c 4).rf F.SEQ_STAT_PC d c = _
  rw [State.rf_ww_name _ _ _ _ _ _ _ _ _ _ (by decide), State.rf_ww_name _ _ _ _ _ _ _ _ _ _ (by decide), hset]
  exact Nat.mod_mod _ _

/-! ## Resets -/

theorem State.reg_resetReg (s : State) (n : RegName) (d i j : Nat) (q : Reg) :
    (s.resetReg n d i j).reg q = if q = ⟨n, d, i, j⟩ then resetWord n i else s.reg q := State.setReg_reg ..

/-- A row of registers reset. -/
theorem State.reg_resetRow (s : State) (n : RegName) (d i m k : Nat) (hk : k < m) :
    ((List.range m).foldl (fun (s : State) j => s.resetReg n d i j) s).reg ⟨n, d, i, k⟩ = resetWord n i := by
  induction m with
  | zero => omega
  | succ m ih =>
    rw [List.range_succ, List.foldl_append, List.foldl_cons, List.foldl_nil, State.reg_resetReg]
    by_cases h : k = m
    · rw [if_pos (by rw [h])]
    · rw [if_neg (by simpa using h)]
      exact ih (by omega)

/-- A row of registers of one name reset leaves those of other names alone. -/
theorem State.reg_resetRow_name (s : State) (n : RegName) (d i m : Nat) (q : Reg) (hq : q.name ≠ n) :
    ((List.range m).foldl (fun (s : State) j => s.resetReg n d i j) s).reg q = s.reg q :=
  foldl_same (fun s : State => s.reg q) _ _ _ fun s j => by
    rw [State.reg_resetReg, if_neg]
    rintro rfl
    exact hq rfl

/-- A list of registers reset. -/
theorem State.reg_resetList (s : State) (ns : List RegName) (n : RegName) (d i : Nat) (hn : n ∈ ns) :
    (ns.foldl (fun (s : State) n => s.resetReg n d i) s).reg ⟨n, d, i, 0⟩ = resetWord n i := by
  induction ns using List.reverseRecOn with
  | nil => exact absurd hn List.not_mem_nil
  | append_singleton ns m ih =>
    rw [List.foldl_append, List.foldl_cons, List.foldl_nil, State.reg_resetReg]
    by_cases h : n = m
    · rw [if_pos (by rw [h])]
      exact congrArg (resetWord · i) h.symm
    · rw [if_neg (by simpa using h)]
      exact ih (by simpa [h] using hn)

/-- The registers of a core back at their reset values (R889). -/
def State.coreRegsReset (s : State) (d c : Nat) : State :=
  let s : State := [RegName.SEQ_CTL, .SEQ_STAT, .SEQ_PC, .SEQ_MEM_ADDR, .SEQ_MEM_DATA, .SEQ_DB_OVR, .SEQ_WAIT_CNT].foldl
    (fun s n => s.resetReg n d c) s
  let s : State := (List.range 64).foldl (fun s j => s.resetReg .SEQ_MBOX d c j) s
  let s : State := (List.range 32).foldl (fun s j => s.resetReg .SEQ_DOORBELL d c j) s
  let s : State := (List.range 16).foldl (fun s j => s.resetReg .SEQ_G d c j) s
  let s : State := (List.range 11).foldl (fun s j => s.resetReg .SEQ_SR d c j) s
  (List.range 8).foldl (fun s j => (s.resetReg .SEQ_BP_CTL d c j).resetReg .SEQ_BP_ADDR d c j) s

/-- A row of breakpoints reset leaves the other registers alone. -/
theorem State.reg_resetBps (s : State) (d i m : Nat) (q : Reg) (hctl : q.name ≠ .SEQ_BP_CTL) (haddr : q.name ≠ .SEQ_BP_ADDR) :
    ((List.range m).foldl (fun (s : State) j => (s.resetReg .SEQ_BP_CTL d i j).resetReg .SEQ_BP_ADDR d i j) s).reg q = s.reg q :=
  foldl_same (fun s : State => s.reg q) _ _ _ fun s j => by
    rw [State.reg_resetReg, State.reg_resetReg, if_neg, if_neg]
    · rintro rfl
      exact hctl rfl
    · rintro rfl
      exact haddr rfl

theorem State.coreRegsReset_ctl (s : State) (d c : Nat) : (s.coreRegsReset d c).reg ⟨.SEQ_CTL, d, c, 0⟩ = resetWord .SEQ_CTL c := by
  unfold State.coreRegsReset
  dsimp only
  rw [State.reg_resetBps _ _ _ _ _ (by simp) (by simp), State.reg_resetRow_name _ _ _ _ _ _ (by simp),
    State.reg_resetRow_name _ _ _ _ _ _ (by simp), State.reg_resetRow_name _ _ _ _ _ _ (by simp),
    State.reg_resetRow_name _ _ _ _ _ _ (by simp)]
  exact s.reg_resetList _ .SEQ_CTL d c (by simp)

theorem State.coreRegsReset_stat (s : State) (d c : Nat) : (s.coreRegsReset d c).reg ⟨.SEQ_STAT, d, c, 0⟩ = resetWord .SEQ_STAT c := by
  unfold State.coreRegsReset
  dsimp only
  rw [State.reg_resetBps _ _ _ _ _ (by simp) (by simp), State.reg_resetRow_name _ _ _ _ _ _ (by simp),
    State.reg_resetRow_name _ _ _ _ _ _ (by simp), State.reg_resetRow_name _ _ _ _ _ _ (by simp),
    State.reg_resetRow_name _ _ _ _ _ _ (by simp)]
  exact s.reg_resetList _ .SEQ_STAT d c (by simp)

theorem State.coreRegsReset_g (s : State) (d c k : Nat) (hk : k < 16) : (s.coreRegsReset d c).g d c k = 0 := by
  unfold State.coreRegsReset State.g
  dsimp only
  rw [State.reg_resetBps _ _ _ _ _ (by simp) (by simp), State.reg_resetRow_name _ _ _ _ _ _ (by simp),
    State.reg_resetRow _ _ _ _ _ _ hk]
  rfl

theorem State.coreRegsReset_mem (s : State) (d c : Nat) : (s.coreRegsReset d c).mem = s.mem := by
  unfold State.coreRegsReset
  dsimp only
  refine foldl_keeps (fun t : State => t.mem = s.mem) _ _ _ ?_ fun _ _ h => h
  refine foldl_keeps (fun t : State => t.mem = s.mem) _ _ _ ?_ fun _ _ h => h
  refine foldl_keeps (fun t : State => t.mem = s.mem) _ _ _ ?_ fun _ _ h => h
  refine foldl_keeps (fun t : State => t.mem = s.mem) _ _ _ ?_ fun _ _ h => h
  refine foldl_keeps (fun t : State => t.mem = s.mem) _ _ _ ?_ fun _ _ h => h
  exact foldl_keeps (fun t : State => t.mem = s.mem) _ _ _ rfl fun _ _ h => h

theorem State.coreClear_eq (s : State) (d c : Nat) (run : Bool) : s.coreClear d c run = if run then
    (((s.coreRegsReset d c).setCore d c { Core.init with since := (s.coreRegsReset d c).now }).wf F.SEQ_CTL_RUN 1 d c).wf
      F.SEQ_STAT_STATE 1 d c
    else (s.coreRegsReset d c).setCore d c { Core.init with since := (s.coreRegsReset d c).now } := by
  unfold State.coreClear
  dsimp only
  rw [← State.coreRegsReset.eq_1 s d c]

/-- A core takes the state of R889: RUN as asked for, and the memories kept. -/
theorem State.coreClear_spec (s : State) (d c : Nat) (run : Bool) (hc : c < 4) :
    (s.coreClear d c run).rf F.SEQ_CTL_RUN d c = b2n run ∧ (s.coreClear d c run).seqState d c = b2n run ∧
      (s.coreClear d c run).seqPc d c = 0x100 ∧ (∀ k, k < 16 → (s.coreClear d c run).g d c k = 0) ∧ (s.coreClear d c run).mem = s.mem := by
  have hctl := s.coreRegsReset_ctl d c
  have hstat := s.coreRegsReset_stat d c
  have hg := s.coreRegsReset_g d c
  have hmem := s.coreRegsReset_mem d c
  have hdef := s.coreClear_eq d c run
  generalize s.coreRegsReset d c = r at hctl hstat hg hmem hdef
  have hrun : r.rf F.SEQ_CTL_RUN d c = 0 := (congrArg F.SEQ_CTL_RUN.get hctl).trans
    ((by decide : ∀ c < 4, F.SEQ_CTL_RUN.get (resetWord .SEQ_CTL c) = 0) c hc)
  have hstate : r.rf F.SEQ_STAT_STATE d c = 0 := (congrArg F.SEQ_STAT_STATE.get hstat).trans
    ((by decide : ∀ c < 4, F.SEQ_STAT_STATE.get (resetWord .SEQ_STAT c) = 0) c hc)
  have hpc : r.rf F.SEQ_STAT_PC d c = 0x100 := (congrArg F.SEQ_STAT_PC.get hstat).trans
    ((by decide : ∀ c < 4, F.SEQ_STAT_PC.get (resetWord .SEQ_STAT c) = 0x100) c hc)
  rw [hdef]
  unfold State.seqState State.seqPc
  cases run with
  | false =>
    rw [if_neg Bool.false_ne_true, State.setCore_rf, State.setCore_rf, State.setCore_rf]
    exact ⟨hrun, hstate, hpc, fun k hk => ((RegsKept.refl r []).setCore d c _ _ List.not_mem_nil).trans (hg k hk),
      (State.setCore_mem ..).trans hmem⟩
  | true =>
    rw [if_pos rfl]
    refine ⟨?_, State.rf_wf_same _ F.SEQ_STAT_STATE 1 d c 0 rfl, ?_, fun k hk => ?_, ?_⟩
    · rw [State.rf_wf_apart _ _ _ _ _ _ _ _ _ _ rfl rfl]
      exact State.rf_wf_same _ F.SEQ_CTL_RUN 1 d c 0 rfl
    · rw [State.rf_wf_apart _ _ _ _ _ _ _ _ _ _ rfl rfl, State.rf_wf_apart _ _ _ _ _ _ _ _ _ _ rfl rfl, State.setCore_rf, hpc]
    · exact ((((RegsKept.refl r [⟨.SEQ_CTL, d, c, 0⟩, ⟨.SEQ_STAT, d, c, 0⟩]).setCore d c _).wf F.SEQ_CTL_RUN _ _ _ _ (.head _)).wf
        F.SEQ_STAT_STATE _ _ _ _ (.tail _ (.head _)) _ (by simp)).trans (hg k hk)
    · rw [State.wf_mem, State.wf_mem, State.setCore_mem, hmem]

/-- What a write of SEQ_CTL stores of FREQ: the cycles up to now and FREQ where the core is halted (R891). -/
def State.ctlFreq (s : State) (d c w : Nat) : State :=
  if (s.seqState d c == 0) = true then (s.countHalted d c).wf F.SEQ_CTL_FREQ (min 120 (bits w 7 0)) d c else s

theorem State.ctlFreq_mem (s : State) (d c w : Nat) : (s.ctlFreq d c w).mem = s.mem := by
  unfold State.ctlFreq State.countHalted
  split <;> rfl

theorem State.ctlFreq_core (s : State) (d c w : Nat) :
    ((s.ctlFreq d c w).core d c).sq = (s.core d c).sq ∧ ((s.ctlFreq d c w).core d c).wait = (s.core d c).wait := by
  unfold State.ctlFreq State.countHalted
  split
  · dsimp only
    rw [State.wf_core, State.core_setCore_same]
    exact ⟨rfl, rfl⟩
  · exact ⟨rfl, rfl⟩

/-- A core with nothing under way is reset at once (R884). -/
theorem State.coreReset_idle {run : Bool} (hsq : (s.core d c).sq = []) (hwait : (s.core d c).wait = .idle) :
    s.coreReset d c run = (s.setCore d c { s.core d c with resetReq := some run, wait := .idle }).coreClear d c run := by
  unfold State.coreReset State.coreResetNow
  dsimp only
  rw [hwait, State.core_setCore_same]
  dsimp only
  rw [hsq, List.isEmpty_nil, if_pos rfl]

/-- RESET written to a core with nothing under way resets it at once (R884, R891). -/
theorem State.writeSeqCtl_resets (hreset : bit w 47 = true) (hsq : (s.core d c).sq = []) (hwait : (s.core d c).wait = .idle) :
    ∃ u : State, s.writeSeqCtl d c w false = u.coreClear d c (bit w 45) ∧ u.mem = s.mem := by
  obtain ⟨hsq', hwait'⟩ := s.ctlFreq_core d c w
  have hmem := s.ctlFreq_mem d c w
  have hwrite : s.writeSeqCtl d c w false =
      (((s.ctlFreq d c w).wf F.SEQ_CTL_STEP_IRQ (bits w 44 44) d c).wf F.SEQ_CTL_RESET 1 d c).coreReset d c (bit w 45) := by
    unfold State.writeSeqCtl
    dsimp only
    rw [if_pos hreset, Bool.not_false, Bool.and_true, ← State.ctlFreq.eq_1]
  generalize s.ctlFreq d c w = v at hsq' hwait' hmem hwrite
  rw [hwrite, State.coreReset_idle (by rw [State.wf_core, State.wf_core, hsq', hsq]) (by rw [State.wf_core, State.wf_core, hwait', hwait])]
  refine ⟨_, rfl, ?_⟩
  rw [State.setCore_mem, State.wf_mem, State.wf_mem, hmem]

/-! ## The memories of a halted core -/

/-- ADDR steps by one (R868). -/
theorem State.memAddrStep_spec (s : State) (d c : Nat) :
    (s.memAddrStep d c).rf F.SEQ_MEM_ADDR_ADDR d c =
      (s.rf F.SEQ_MEM_ADDR_ADDR d c + 1) % (if s.rb F.SEQ_MEM_ADDR_IMEM d c then 8192 else 4096) := by
  have hset : ∀ v, v < 8192 → (s.wf F.SEQ_MEM_ADDR_ADDR v d c).rf F.SEQ_MEM_ADDR_ADDR d c = v :=
    fun v hv => State.rf_wf_fits _ F.SEQ_MEM_ADDR_ADDR v d c 0 rfl hv
  unfold State.memAddrStep
  dsimp only
  split
  · exact hset _ (Nat.mod_lt _ (by decide))
  · exact hset _ ((Nat.mod_lt _ (by decide)).trans (by decide))

/-- A read of SEQ_MEM_DATA gives a halted core's word (R868). -/
theorem State.readMemData_good {v : TWord} (hstate : s.seqState d c = 0)
    (hcell : decodeCell (s.cell d (s.memAddr d c)) (s.memAddr d c) = .good v) :
    (s.readMemData d c).2 = ((((s.wf F.SEQ_MEM_ADDR_TAG v.tag.toNat d c).wf F.SEQ_MEM_ADDR_UE 0 d c).ww .SEQ_MEM_DATA
      v.data.toNat d c).memAddrStep d c) := by
  unfold State.readMemData
  dsimp only
  rw [if_neg (by simp [hstate]), s.readWord_good d _ .read true v hcell]
  rfl

/-- A write of SEQ_MEM_DATA stores a halted core's word (R868). -/
theorem State.writeMemData_stores (hstate : s.seqState d c = 0) (v : Word) :
    s.writeMemData d c v.toNat = ((s.storeWord d (s.memAddr d c) ⟨v, BitVec.ofNat 2 (s.rf F.SEQ_MEM_ADDR_TAG d c)⟩).ww .SEQ_MEM_DATA
      (v.toNat % 2 ^ 48) d c).memAddrStep d c := by
  unfold State.writeMemData
  rw [if_neg (by simp [hstate]), BitVec.ofNat_toNat, BitVec.setWidth_eq]

end

/-- Settles O28: halting by `State.writeSeqCtl_halts`, resuming by `State.coreStart_spec`, a step by `State.seqStep_executes`, a
reset by `State.coreClear_spec`. -/
theorem coresAreHaltedSteppedAndReset : Obligations.CoresAreHaltedSteppedAndReset := by
  unfold Obligations.CoresAreHaltedSteppedAndReset
  refine ⟨?halt, ?resume, ?step, ?reset, ?read, ?write⟩
  case halt =>
    intro s d c w htag hreset hrun hstate hreq hstep hbp
    let u : State := s.wf F.SEQ_CTL_STEP_IRQ (bits w.data.toNat 44 44) d c
    have hu : OnlyCores s u (haltRegs d c) := (OnlyCores.refl s _).wf F.SEQ_CTL_STEP_IRQ _ _ _ _ (.tail _ (.head _))
    have hpc : u.seqPc d c = s.seqPc d c := State.rf_wf_apart _ _ _ _ _ _ _ _ _ _ rfl rfl
    obtain ⟨⟨hhalted, hcause, hctl⟩, hpc', honly⟩ := u.coreHalt_spec d c (cause := 1) (by decide)
    have hall := hu.trans honly
    refine ⟨u.coreHalt d c 1, congrArg Host.Outcome.next ((if_pos htag).trans
      (State.writeSeqCtl_halts hreset hrun hstate hreq hstep hbp)), hhalted, hcause, hctl, hpc'.trans hpc, hall.1, hall.2⟩
  case resume =>
    intro s d c w htag hreset hrun hstate hreq
    obtain ⟨hstate', hrun', hfreq, hpc, honly⟩ := (s.ctlHalted d c w.data.toNat).coreStart_spec d c
    have hall := (s.ctlHalted_only d c w.data.toNat).trans honly
    refine ⟨_, congrArg Host.Outcome.next ((if_pos htag).trans ((State.writeSeqCtl_halted hstate hreset hreq).trans (if_pos hrun))),
      hstate', hrun', hfreq.trans ((State.rf_ctlHalted_freq ..).trans ?_),
      hpc.trans (State.rf_ctlHalted _ _ _ _ _ (by decide) rfl rfl), hall.1, hall.2⟩
    unfold bits
    simp
  case step =>
    intro s d c iw w htag hreset hstepbit hrun hirq hstate hreq hhalt hfault hiw hop hcell
    let u : State := s.ctlHalted d c w.data.toNat
    let y : State := u.stepBegun d c
    have hu : OnlyCores s u (ctlRegs d c) := s.ctlHalted_only d c w.data.toNat
    have hy : OnlyCores s y (ctlRegs d c) := hu.trans (u.stepBegun_only d c)
    have hpc : y.seqPc d c = s.seqPc d c := (u.rf_stepBegun d c F.SEQ_STAT_PC (by decide) rfl rfl).trans
      (State.rf_ctlHalted _ _ _ _ _ (by decide) rfl rfl)
    have hycell : decodeCell (y.cell d (imemAddr c (y.seqPc d c))) (imemAddr c (y.seqPc d c)) = .good (dataWord iw) := by
      rw [hpc, hy.cell]
      exact hcell
    have hpeek : y.peekFetch d c = .instr iw .add := by
      unfold State.peekFetch
      dsimp only
      rw [hycell]
      exact fetchedOf_dataWord hiw hop
    have hfetch : y.fetch d c = y := by
      unfold State.fetch
      rw [y.readWord_good _ _ _ _ _ hycell]
    have hnoirq : u.rf F.SEQ_CTL_STEP_IRQ d c = 0 := by
      refine (State.rf_ctlHalted_stepIrq ..).trans ?_
      rw [← b2n_bit, hirq]
      rfl
    have hcore : y.core d c = { s.core d c with since := s.now, stepping := true, fresh := true, bp := none } := by
      dsimp only [y]
      rw [State.core_stepBegun, State.core_ctlHalted]
    obtain ⟨⟨hstate', hcause, -⟩, hpc', hg⟩ := State.alu_stepping (s := y) (d := d) (c := c) .add (fRd iw)
      (y.g d c (fRa iw) + y.g d c (fRb iw)) (addFlags (y.g d c (fRa iw)) (y.g d c (fRb iw))) (by rw [hcore]) (by rw [hcore]; exact hhalt)
      (by rw [hcore]; exact hfault) (by rw [hcore])
    have hgs : ∀ k, y.g d c k = s.g d c k := fun k => hy.kept _ (by simp [ctlRegs])
    refine ⟨_, congrArg Host.Outcome.next ((if_pos htag).trans ((State.writeSeqCtl_halted hstate hreset hreq).trans
      ((if_neg (by simp [hrun])).trans ((if_pos hstepbit).trans (State.seqStep_executes hnoirq hpeek hfetch))))), hstate', hcause,
      hpc'.trans (by rw [hpc]), ?_⟩
    rw [← hgs, ← hgs]
    exact hg
  case reset =>
    intro s d c w htag hreset hsq hwait hc
    obtain ⟨u, hu, hmem⟩ := State.writeSeqCtl_resets hreset hsq hwait
    obtain ⟨hrun, hstate, hpc, hg, hmem'⟩ := u.coreClear_spec d c (bit w.data.toNat 45) hc
    rw [b2n_bit] at hrun hstate
    exact ⟨_, congrArg Host.Outcome.next ((if_pos htag).trans hu), hrun, hstate, hpc, hg, hmem'.trans hmem⟩
  case read =>
    intro s d c v hstate hcell
    let u : State := ((s.wf F.SEQ_MEM_ADDR_TAG v.tag.toNat d c).wf F.SEQ_MEM_ADDR_UE 0 d c).ww .SEQ_MEM_DATA v.data.toNat d c
    have hrf : ∀ f : Fld, F.SEQ_MEM_ADDR_TAG.apart f = true → F.SEQ_MEM_ADDR_UE.apart f = true → f.reg ≠ .SEQ_MEM_DATA →
        u.rf f d c = s.rf f d c := fun f htag hue hdata => by
      rw [State.rf_ww_name _ _ _ _ _ _ _ _ _ _ (Ne.symm hdata), State.rf_wf_apart _ _ _ _ _ _ _ _ _ _ rfl hue,
        State.rf_wf_apart _ _ _ _ _ _ _ _ _ _ rfl htag]
    have hdata : u.reg ⟨.SEQ_MEM_DATA, d, c, 0⟩ = v.data := by
      rw [State.reg_ww, if_pos rfl, BitVec.ofNat_toNat, BitVec.setWidth_eq]
    have htag : u.rf F.SEQ_MEM_ADDR_TAG d c = v.tag.toNat := by
      rw [State.rf_ww_name _ _ _ _ _ _ _ _ _ _ (by decide), State.rf_wf_apart _ _ _ _ _ _ _ _ _ _ rfl rfl]
      exact State.rf_wf_fits _ F.SEQ_MEM_ADDR_TAG _ _ _ _ rfl v.tag.isLt
    have hue : u.rf F.SEQ_MEM_ADDR_UE d c = 0 := by
      rw [State.rf_ww_name _ _ _ _ _ _ _ _ _ _ (by decide)]
      exact State.rf_wf_same _ F.SEQ_MEM_ADDR_UE 0 d c 0 rfl
    have hu : OnlyRegs s u [⟨.SEQ_MEM_DATA, d, c, 0⟩, ⟨.SEQ_MEM_ADDR, d, c, 0⟩] :=
      (((OnlyRegs.refl s _).wf F.SEQ_MEM_ADDR_TAG _ _ _ _ (.tail _ (.head _))).wf F.SEQ_MEM_ADDR_UE _ _ _ _ (.tail _ (.head _))).ww
        .SEQ_MEM_DATA _ _ _ _ (.head _)
    refine ⟨u.memAddrStep d c, congrArg Host.Outcome.next (State.readMemData_good hstate hcell),
      (State.reg_wf_ne _ F.SEQ_MEM_ADDR_ADDR _ _ _ _ _ (by simp [F.SEQ_MEM_ADDR_ADDR])).trans hdata,
      (State.rf_wf_apart _ F.SEQ_MEM_ADDR_ADDR _ _ _ _ _ _ _ _ rfl rfl).trans htag,
      (State.rf_wf_apart _ F.SEQ_MEM_ADDR_ADDR _ _ _ _ _ _ _ _ rfl rfl).trans hue, ?_,
      hu.wf F.SEQ_MEM_ADDR_ADDR _ _ _ _ (.tail _ (.head _))⟩
    rw [State.memAddrStep_spec]
    unfold State.rb
    rw [hrf F.SEQ_MEM_ADDR_ADDR rfl rfl (by decide), hrf F.SEQ_MEM_ADDR_IMEM rfl rfl (by decide)]
  case write =>
    intro s d c w htag hstate hflip
    obtain ⟨m, q, hstore, hcell, hother⟩ := s.storeWord_stores d (s.memAddr d c)
      ⟨w.data, BitVec.ofNat 2 (s.rf F.SEQ_MEM_ADDR_TAG d c)⟩ hflip
    have hwrite := State.writeMemData_stores (c := c) hstate w.data
    rw [hstore] at hwrite
    let u : State := State.ww { s with mem := m, wb := q } .SEQ_MEM_DATA (w.data.toNat % 2 ^ 48) d c
    have hkept : RegsKept s u [⟨.SEQ_MEM_DATA, d, c, 0⟩, ⟨.SEQ_MEM_ADDR, d, c, 0⟩] :=
      RegsKept.ww (t := { s with mem := m, wb := q }) (fun _ _ => rfl) .SEQ_MEM_DATA _ _ _ _ (.head _)
    have hcells : ∀ d' pa, (u.memAddrStep d c).cell d' pa = State.cell { s with mem := m, wb := q } d' pa :=
      fun d' pa => (State.wf_cell ..).trans (State.ww_cell ..)
    refine ⟨u.memAddrStep d c, congrArg Host.Outcome.next ((if_pos htag).trans hwrite), ?_, fun d' pa hne => ?_,
      hkept.wf F.SEQ_MEM_ADDR_ADDR _ _ _ _ (.tail _ (.head _))⟩
    · rw [hcells, hcell]
    · rw [hcells, hother d' pa hne]

end Sys2Proof.Machine
end

section
/-!
SUPPORT. The debug port: proof of the statement O45. An instruction is selected, or acts as BYPASS once DEBUG_CLOSE is blown.
-/
namespace Sys2Proof.Machine

section
variable {s : State}

/-- An instruction of an open debug port is selected (R870). -/
theorem State.tapSelect_open (h : s.cfg.fuses.debugClose = false) (code : Nat) :
    s.tapSelect code = s.setDbg { s.dbg with ir := code } := by
  unfold State.tapSelect
  rw [h]
  rfl

/-- With DEBUG_CLOSE in force every code but IDCODE acts as BYPASS (R876). -/
theorem State.tapSelect_closed (h : s.cfg.fuses.debugClose = true) {code : Nat} (hcode : code ≠ 0x01) :
    s.tapSelect code = s.setDbg { s.dbg with ir := 0xFF } := by
  unfold State.tapSelect
  rw [h, Bool.true_and, if_pos (bne_iff_ne.mpr hcode)]

/-- BYPASS and IDCODE are selected whatever the fuse (R870, R876). -/
theorem State.tapSelect_always {code : Nat} (hcode : code = 0xFF ∨ code = 0x01) : s.tapSelect code = s.setDbg { s.dbg with ir := code } := by
  unfold State.tapSelect
  rcases hcode with rfl | rfl
  · rw [ite_self]
  · rw [show ((0x01 : Nat) != 0x01) = false from rfl, Bool.and_false]
    rfl

/-- EXTEST, CLAMP and HIGHZ take the covered balls (R872). -/
theorem State.tapTake_open (h : s.cfg.fuses.debugClose = false) (code : Nat) :
    s.tapTake code = (s.setDbg { s.dbg with ir := code }).raise .debugBoundaryTest 0 0 := by
  unfold State.tapTake
  rw [State.tapSelect_open h]
  exact if_pos rfl

theorem State.tapTake_closed (h : s.cfg.fuses.debugClose = true) {code : Nat} (hcode : code ≠ 0x01) (hbypass : code ≠ 0xFF) :
    s.tapTake code = s.setDbg { s.dbg with ir := 0xFF } := by
  unfold State.tapTake
  rw [State.tapSelect_closed h hcode]
  exact if_neg (Ne.symm hbypass)

/-- The lowest read tag that a master does not hold is the next one used (R481). -/
theorem State.freeTag_least {d m k : Nat} (hk : k < 64) (hfree : s.tagHeld d m k = false) (hheld : ∀ j, j < k → s.tagHeld d m j = true) :
    s.freeTag d m = some k := by
  unfold State.freeTag
  refine List.find?_range_eq_some.mpr ⟨by rw [hfree]; rfl, List.mem_range.mpr hk, fun j hj => ?_⟩
  rw [hheld j hj]
  rfl

/-- A debug read is issued by master 2 of die 0, and is in progress (R873, R874). -/
theorem execDbgAccessRead_issues {tag : Nat} (a : Nat) (hir : s.dbg.ir = 0x20) (hbusy : s.dbg.busy = none) (htag : s.freeTag 0 2 = some tag) :
    execDbgAccessRead a s = .next { s with
      dbg := { s.dbg with busy := some tag, drop := false }
      inFlight := s.inFlight ++ [⟨.read, 0, 2, tag, a % 2 ^ 48, 1, 48, 0, [], .requests, 0⟩]
      net := s.net.enter (.req ⟨.read, 0, 2, tag, a % 2 ^ 48, 1, 48, 0, [], .requests, 0⟩)
      outst := s.outst ++ [⟨⟨.read, 0, 2, tag, a % 2 ^ 48, 1, 48, 0, [], .requests, 0⟩, false, false⟩] } := by
  unfold execDbgAccessRead
  rw [if_neg (not_not.mpr hir), hbusy, State.request_some .read _ _ _ htag]
  rfl

/-- A debug write is issued and done (R873, R874). -/
theorem execDbgAccessWrite_issues (a : Nat) (w : TWord) (hir : s.dbg.ir = 0x20) (hbusy : s.dbg.busy = none) :
    execDbgAccessWrite a w s = .next { s with
      dbg := { s.dbg with status := 0 }
      inFlight := s.inFlight ++ [⟨.write, 0, 2, 0, a % 2 ^ 48, 1, 48, 0, [w], .posted, 0⟩]
      net := s.net.enter (.req ⟨.write, 0, 2, 0, a % 2 ^ 48, 1, 48, 0, [w], .posted, 0⟩) } := by
  unfold execDbgAccessWrite
  rw [if_neg (not_not.mpr hir), hbusy]
  rfl

/-- An access while one is in progress is an overrun (R874). -/
theorem execDbgAccess_overrun (a : Nat) (w : TWord) (hir : s.dbg.ir = 0x20) (hbusy : s.dbg.busy.isSome = true) :
    execDbgAccessWrite a w s = .next (s.setDbg { s.dbg with overrun := true }) ∧
      execDbgAccessRead a s = .next (s.setDbg { s.dbg with overrun := true }) := by
  unfold execDbgAccessWrite execDbgAccessRead
  rw [if_neg (not_not.mpr hir), if_pos hbusy, if_neg (not_not.mpr hir), if_pos hbusy]
  exact ⟨rfl, rfl⟩

/-- The fields of the identification word (Table 15-8). -/
theorem State.idcode_fields (s : State) : s.idcode % 2 = 1 ∧ s.idcode / 2 % 2 ^ 11 = 0x2B1 ∧
    s.idcode / 2 ^ 12 = s.rf F.DEV_ROLE_GRADE_CODE 0 * 2 ^ 16 + 0xA7 * 2 ^ 8 + s.part := by
  unfold State.idcode
  generalize s.rf F.DEV_ROLE_GRADE_CODE 0 = g
  omega

/-- The fields of the access register (Table 15-9). -/
theorem accessWord_fields {st tag status : Nat} (data : Nat) (hst : st < 4) (htag : tag < 4) (hstatus : status < 2 ^ 48) :
    (data * 2 ^ 52 + status * 2 ^ 4 + tag * 2 ^ 2 + st) % 4 = st ∧ (data * 2 ^ 52 + status * 2 ^ 4 + tag * 2 ^ 2 + st) / 4 % 4 = tag ∧
      (data * 2 ^ 52 + status * 2 ^ 4 + tag * 2 ^ 2 + st) / 16 % 2 ^ 48 = status ∧
      (data * 2 ^ 52 + status * 2 ^ 4 + tag * 2 ^ 2 + st) / 2 ^ 52 = data := by omega

theorem Debug.state_lt (x : Debug) : x.state < 4 := by
  unfold Debug.state
  split_ifs <;> decide

/-- What a capture of DBG_ACCESS shows (Table 15-9). -/
theorem execDbgAccessCapture_selected (hir : s.dbg.ir = 0x20) :
    execDbgAccessCapture s = .next (s.setDbg { s.dbg with
      dr := s.dbg.data * 2 ^ 52 + s.dbg.status * 2 ^ 4 + s.dbg.tag * 2 ^ 2 + s.dbg.state, overrun := false }) := by
  unfold execDbgAccessCapture
  dsimp only
  rw [if_neg (not_not.mpr hir)]

/-- A token answered: an unlock, or a failure counted and raised (R875). -/
theorem execMaltResponse_open (g : Nat) (h : s.cfg.fuses.debugClose = false) (hfails : s.dbg.fails < 3) :
    execMaltResponse g s = .next (
      if sigGood s.dbg.key (sha256 (beBytes 16 s.dbg.challenge)) (g % 2 ^ 512) then
        s.setDbg { s.dbg.draw with ir := 0x31, unlocked := true }
      else (s.setDbg { s.dbg.draw with ir := 0x31, fails := s.dbg.fails + 1 }).raise .debugUnlockFailed 0 0) := by
  unfold execMaltResponse
  rw [State.tapSelect_open h]
  exact congrArg Host.Outcome.next ((if_neg (by simp [State.setDbg])).trans (if_neg (Nat.not_le.mpr hfails)))

/-- After three failures a response is refused (R875). -/
theorem execMaltResponse_refused (g : Nat) (h : s.cfg.fuses.debugClose = false) (hfails : 3 ≤ s.dbg.fails) :
    execMaltResponse g s = .next (s.setDbg { s.dbg.draw with ir := 0x31 }) := by
  unfold execMaltResponse
  rw [State.tapSelect_open h]
  exact congrArg Host.Outcome.next ((if_neg (by simp [State.setDbg])).trans (if_pos hfails))

/-- MALT_DBG of an unlocked port is selected; what it captures is open (R875, log 2). -/
theorem execMaltDbg_unlocked (hlocked : s.dbg.unlocked = true) (h : s.cfg.fuses.debugClose = false) :
    execMaltDbg s = .next { s with dbg := { s.dbg with ir := 0x32, dr := s.free.1 }, freeCtr := s.freeCtr + 1 } := by
  unfold execMaltDbg
  rw [if_pos hlocked, State.tapSelect_open h]
  exact congrArg Host.Outcome.next (if_pos rfl)

/-- With DEBUG_CLOSE in force nothing but the selection of BYPASS comes of an instruction (R876). -/
theorem debug_closed (a b g : Nat) (h : s.cfg.fuses.debugClose = true) :
    ∃ t, t = { s with dbg := { s.dbg with ir := 0xFF } } ∧ exec (.samplePreload a b) s = .next t ∧ exec (.extest a) s = .next t ∧
      exec .clamp s = .next t ∧ exec .highz s = .next t ∧ exec .bypass s = .next t ∧ exec .dbgAccess s = .next t ∧
      exec .maltChallenge s = .next t ∧ exec (.maltResponse g) s = .next t ∧ exec .maltDbg s = .next t := by
  have hsel : ∀ {code : Nat}, code ≠ 0x01 → s.tapSelect code = s.setDbg { s.dbg with ir := 0xFF } := State.tapSelect_closed h
  have htake : ∀ {code : Nat}, code ≠ 0x01 → code ≠ 0xFF → s.tapTake code = s.setDbg { s.dbg with ir := 0xFF } := State.tapTake_closed h
  have hir : ∀ {code : Nat}, code ≠ 0xFF → ¬(s.setDbg { s.dbg with ir := 0xFF }).dbg.ir = code := fun hne => Ne.symm hne
  have hpreload : execSamplePreload a b s = .next (s.setDbg { s.dbg with ir := 0xFF }) := by
    unfold execSamplePreload
    rw [hsel (by decide)]
    exact congrArg Host.Outcome.next (if_neg (hir (by decide)))
  have hextest : execExtest a s = .next (s.setDbg { s.dbg with ir := 0xFF }) := by
    unfold execExtest
    rw [htake (by decide) (by decide)]
    exact congrArg Host.Outcome.next (if_neg (hir (by decide)))
  have hchallenge : execMaltChallenge s = .next (s.setDbg { s.dbg with ir := 0xFF }) := by
    unfold execMaltChallenge
    rw [hsel (by decide)]
    exact congrArg Host.Outcome.next (if_neg (hir (by decide)))
  have hresponse : execMaltResponse g s = .next (s.setDbg { s.dbg with ir := 0xFF }) := by
    unfold execMaltResponse
    rw [hsel (by decide)]
    exact congrArg Host.Outcome.next (if_pos (hir (by decide)))
  have hdbg : execMaltDbg s = .next (s.setDbg { s.dbg with ir := 0xFF }) := by
    unfold execMaltDbg
    rw [hsel (by decide), hsel (by decide)]
    refine congrArg Host.Outcome.next ((if_congr Iff.rfl ?_ rfl).trans (ite_self _))
    exact if_neg (hir (by decide))
  exact ⟨_, rfl, hpreload, hextest, congrArg Host.Outcome.next (htake (by decide) (by decide)),
    congrArg Host.Outcome.next (htake (by decide) (by decide)), congrArg Host.Outcome.next (hsel (by decide)),
    congrArg Host.Outcome.next (hsel (by decide)), hchallenge, hresponse, hdbg⟩

end

/-- Settles O45: selection by `State.tapSelect_open` and `State.tapTake_open`, and with DEBUG_CLOSE in force by `debug_closed`. -/
theorem theDebugPortSelectsAndAccesses : Obligations.TheDebugPortSelectsAndAccesses := by
  unfold Obligations.TheDebugPortSelectsAndAccesses
  refine ⟨fun s => ⟨_, rfl, rfl⟩, ?idcode, ?preload, ?extest, ?clamp, ?highz, ?bypass, ?access, ?read, ?write, ?overrun, ?capture,
    ?challenge, ?response, ?refused, ?locked, ?unlocked, fun s a b g => debug_closed a b g⟩
  case idcode =>
    intro s
    obtain ⟨hone, hcode, hpart⟩ := s.idcode_fields
    refine ⟨s.setDbg { s.dbg with ir := 0x01, dr := s.idcode }, ?_, rfl, hone, hcode, hpart, rfl⟩
    change execIdcode s = _
    unfold execIdcode
    rw [State.tapSelect_always (.inr rfl)]
    rfl
  case preload =>
    intro s a b h
    refine ⟨_, ?_, rfl⟩
    change execSamplePreload a b s = _
    unfold execSamplePreload
    rw [State.tapSelect_open h]
    exact congrArg Host.Outcome.next (if_pos rfl)
  case extest =>
    intro s v h
    refine ⟨{ s with dbg := { s.dbg with ir := 0x03, boundary := v % 2 ^ (if s.is20 then 1124 else 1788) },
                     faultLine := s.faultLine ++ [faultEv .debugBoundaryTest 0 0 0] }, ?_, rfl, rfl, rfl⟩
    change execExtest v s = _
    unfold execExtest
    rw [State.tapTake_open h]
    exact congrArg Host.Outcome.next (if_pos rfl)
  case clamp => exact fun s h => ⟨_, congrArg Host.Outcome.next (State.tapTake_open h 0x04), rfl⟩
  case highz => exact fun s h => ⟨_, congrArg Host.Outcome.next (State.tapTake_open h 0x05), rfl⟩
  case bypass => exact fun s => ⟨_, congrArg Host.Outcome.next (State.tapSelect_always (.inl rfl)), rfl⟩
  case access => exact fun s h => ⟨_, congrArg Host.Outcome.next (State.tapSelect_open h 0x20), rfl⟩
  case read =>
    intro s a tag hir hbusy htag hfree hheld
    exact ⟨_, _, execDbgAccessRead_issues a hir hbusy (State.freeTag_least htag hfree hheld), rfl, rfl⟩
  case write => exact fun s a w hir hbusy => ⟨_, execDbgAccessWrite_issues a w hir hbusy, rfl⟩
  case overrun =>
    intro s a w hir hbusy
    obtain ⟨hwrite, hread⟩ := execDbgAccess_overrun a w hir hbusy
    exact ⟨_, hwrite, hread, rfl⟩
  case capture =>
    intro s hir hstatus htag
    obtain ⟨hlow, htags, hstatuses, hdata⟩ := accessWord_fields s.dbg.data s.dbg.state_lt htag hstatus
    refine ⟨_, execDbgAccessCapture_selected hir, hlow.trans ?_, htags, hstatuses, hdata, rfl⟩
    unfold Debug.state
    simp only [ite_not]
  case challenge =>
    intro s h
    refine ⟨_, _, ?_, rfl, rfl⟩
    change execMaltChallenge s = _
    unfold execMaltChallenge
    rw [State.tapSelect_open h]
    exact congrArg Host.Outcome.next (if_pos rfl)
  case response =>
    intro s g h hfails
    refine ⟨_, _, execMaltResponse_open g h hfails, rfl, ?_⟩
    split
    · next hgood => exact if_pos hgood
    · next hbad => exact if_neg hbad
  case refused => exact fun s g h hfails => ⟨_, execMaltResponse_refused g h hfails, rfl, rfl, rfl, rfl⟩
  case locked =>
    intro s h
    refine ⟨_, congrArg Host.Outcome.next ((if_neg (by rw [h]; decide)).trans (State.tapSelect_always (.inl rfl))), rfl⟩
  case unlocked =>
    intro s hlocked h
    exact ⟨_, execMaltDbg_unlocked hlocked h, rfl, rfl⟩

end Sys2Proof.Machine
end

section
/-!
SUPPORT. The fault manager: proof of the statement O48. An event taken off its way and counted; then one lemma for each place it can
go to.
-/
namespace Sys2Proof.Machine

section
variable {s t : State} {k n : Nat} {e g : FaultEv} {x : Shadow}

/-- The state with event `k` off its way and counted (R999). -/
def State.evCounted (s : State) (k n : Nat) : State := State.incE { s with faultLine := dropAt s.faultLine k } F.FM_SRC_CNT_COUNT 0 n

/-- An event as it reaches the fault manager: its arrival time and epoch, and its unit (R990, Table 18-1). -/
def State.arrived (s : State) (e : FaultEv) : FaultEv :=
  { e with time := s.now, epoch := s.rf F.TB_EPOCH_EPOCH 0 % 256, die := (normUnit e.src.num e.die e.unit).1
           unit := (normUnit e.src.num e.die e.unit).2 }

theorem State.forceTaken_unforced (h : e.forced = false) : s.forceTaken e = s := by
  unfold State.forceTaken
  rw [h]
  rfl

theorem State.evCounted_frame (s : State) (k n : Nat) :
    ∃ m, s.evCounted k n = { s with regs := m, faultLine := s.faultLine.eraseIdx k } := by
  obtain ⟨m, hm⟩ := State.incE_frame { s with faultLine := dropAt s.faultLine k } F.FM_SRC_CNT_COUNT 0 n 0 1
  refine ⟨m, hm.trans ?_⟩
  rw [List.eraseIdx_eq_take_drop_succ]
  rfl

theorem State.evCounted_kept (s : State) (k n : Nat) : RegsKept s (s.evCounted k n) [⟨.FM_SRC_CNT, 0, n, 0⟩] :=
  RegsKept.incE (t := { s with faultLine := dropAt s.faultLine k }) (fun _ _ => rfl) F.FM_SRC_CNT_COUNT _ _ _ _ (.head _)

theorem State.evCounted_count (k : Nat) (h : s.rf F.FM_SRC_CNT_COUNT 0 n < 2 ^ 32 - 1) :
    (s.evCounted k n).rf F.FM_SRC_CNT_COUNT 0 n = s.rf F.FM_SRC_CNT_COUNT 0 n + 1 :=
  State.rf_incE_one (s := { s with faultLine := dropAt s.faultLine k }) rfl rfl h

theorem State.evCounted_en (s : State) (k n : Nat) : (s.evCounted k n).rf F.FM_SRC_CTL_EN 0 n = s.rf F.FM_SRC_CTL_EN 0 n :=
  (s.evCounted_kept k n).rf F.FM_SRC_CTL_EN 0 n 0 (by simp [F.FM_SRC_CTL_EN])

/-- An event of a source that is not enabled is counted, and nothing else (R989). -/
theorem execFaultEvent_disabled (hk : s.faultLine[k]? = some e) (hforced : e.forced = false) (hen : s.rf F.FM_SRC_CTL_EN 0 e.src.num = 0) :
    execFaultEvent k s = .next (s.evCounted k e.src.num) := by
  have hoff : (!(s.evCounted k e.src.num).rb F.FM_SRC_CTL_EN 0 e.src.num) = true := by
    rw [State.rb_of_rf_zero ((s.evCounted_en k _).trans hen)]
    rfl
  unfold execFaultEvent
  rw [hk]
  exact congrArg Host.Outcome.next ((if_pos hoff).trans (State.forceTaken_unforced hforced))

/-- What becomes of a counted event of an enabled source (R1011, R1113, R990). -/
def State.evTaken (s : State) (n : Nat) (e : FaultEv) : State :=
  match s.shadowOf e with
  | some x =>
    let s := (s.incE F.FM_SHADOW_CNT_COUNT 0).forceTaken e
    { s with shadows := s.shadows.map fun y => if y.die = x.die ∧ y.island = x.island then y.add n e else y }
  | none =>
    if (s.fmWaiting n).length < 65535 then s.setFmWaiting n (s.fmWaiting n ++ [e])
    else (s.setFmSrc n { s.fmSrc n with merged := (s.fmSrc n).merged + 1 }).forceTaken e

theorem execFaultEvent_enabled (hk : s.faultLine[k]? = some e) (hen : s.rf F.FM_SRC_CTL_EN 0 e.src.num = 1) :
    execFaultEvent k s = .next ((s.evCounted k e.src.num).evTaken e.src.num (s.arrived e)) := by
  have hon : ¬(!(s.evCounted k e.src.num).rb F.FM_SRC_CTL_EN 0 e.src.num) = true := by
    rw [State.rb_of_rf_one ((s.evCounted_en k _).trans hen)]
    decide
  unfold execFaultEvent
  rw [hk]
  exact congrArg Host.Outcome.next (if_neg hon)

/-- Without a shadow an event borders none. -/
theorem State.shadowOf_none (h : s.shadows = []) (e : FaultEv) : s.shadowOf e = none := by
  unfold State.shadowOf
  rw [h]
  rfl

/-- Where there is room an event joins those of its source that wait (R990). -/
theorem State.evTaken_waits (hshadows : s.shadows = []) (hroom : (s.fmWaiting n).length < 65535) :
    s.evTaken n e = s.setFmWaiting n (s.fmWaiting n ++ [e]) := by
  unfold State.evTaken
  rw [State.shadowOf_none hshadows]
  exact if_pos hroom

/-- With 65,535 events waiting an event is merged (R990). -/
theorem State.evTaken_merges (hshadows : s.shadows = []) (hfull : 65535 ≤ (s.fmWaiting n).length) (hforced : e.forced = false) :
    s.evTaken n e = s.setFmSrc n { s.fmSrc n with merged := (s.fmSrc n).merged + 1 } := by
  unfold State.evTaken
  rw [State.shadowOf_none hshadows]
  exact (if_neg (Nat.not_lt.mpr hfull)).trans (State.forceTaken_unforced hforced)

/-- An event that borders the only shadow joins its sums (R1011, R1012). -/
theorem State.evTaken_shadowed (hshadows : s.shadows = [x]) (hborders : s.borders e x = true) (hsums : x.sums = [])
    (hforced : e.forced = false) :
    s.evTaken n e = { s.incE F.FM_SHADOW_CNT_COUNT 0 with shadows := [{ x with sums := [(n, 1, e)] }] } := by
  have hshadow : s.shadowOf e = some x := by
    unfold State.shadowOf
    rw [hshadows, List.filter_cons_of_pos hborders]
    rfl
  have hadd : x.add n e = { x with sums := [(n, 1, e)] } := by
    unfold Shadow.add
    rw [hsums]
    rfl
  have hkept : (s.incE F.FM_SHADOW_CNT_COUNT 0).shadows = [x] := by
    obtain ⟨m, hm⟩ := s.incE_frame F.FM_SHADOW_CNT_COUNT 0 0 0 1
    rw [hm]
    exact hshadows
  unfold State.evTaken
  rw [hshadow]
  dsimp only
  rw [State.forceTaken_unforced hforced, hkept, List.map_cons, List.map_nil, if_pos ⟨rfl, rfl⟩, hadd]

theorem State.setFmWaiting_waiting (s : State) (n m : Nat) (l : List FaultEv) :
    (s.setFmWaiting n l).fmWaiting m = if m = n then l else s.fmWaiting m := by
  unfold State.setFmWaiting State.fmWaiting State.setFm
  split
  · next h => rw [h, mget_mset_same]
  · next h => exact mget_mset_ne _ _ _ _ _ _ h

theorem State.setFmSrc_fmSrc (s : State) (n : Nat) (x : FmSrc) : (s.setFmSrc n x).fmSrc n = x := by
  unfold State.setFmSrc State.fmSrc State.setFm
  exact mget_mset_same ..

/-- Whether an event borders a shadow is a matter of the part and the memberships alone (Table 18-4). -/
theorem State.borders_kept {rs : List Reg} (hkept : RegsKept s t rs) (hrole : (⟨.DEV_ROLE, 0, 0, 0⟩ : Reg) ∉ rs)
    (hmem : ∀ i, (⟨.INST_ISL_LO, 0, i, 0⟩ : Reg) ∉ rs ∧ (⟨.INST_ISL_HI, 0, i, 0⟩ : Reg) ∉ rs ∧ (⟨.INST_CH_LO, 0, i, 0⟩ : Reg) ∉ rs ∧
      (⟨.INST_CH_HI, 0, i, 0⟩ : Reg) ∉ rs) (e : FaultEv) (x : Shadow) : t.borders e x = s.borders e x := by
  have hdies : t.hasDie = s.hasDie := by
    unfold State.hasDie State.is20 State.is40X State.part
    rw [hkept.rf F.DEV_ROLE_PART_CODE 0 0 0 hrole]
  have hislands : t.instIslands = s.instIslands := by
    funext i
    obtain ⟨hlo, hhi, -, -⟩ := hmem i
    unfold State.instIslands State.rw
    rw [hdies, hkept _ hlo, hkept.rf F.INST_ISL_HI_MEMBERS 0 i 0 hhi]
  have hchannels : t.instChannels = s.instChannels := by
    funext i
    obtain ⟨-, -, hlo, hhi⟩ := hmem i
    unfold State.instChannels State.rw
    rw [hkept _ hlo, hkept.rf F.INST_CH_HI_MEMBERS 0 i 0 hhi]
  unfold State.borders
  rw [hislands, hchannels]

end

/-- Settles O48: an event is counted by `State.evCounted`, and then goes where `State.evTaken` says. -/
theorem eventsAreCountedShadowedAndQueued : Obligations.EventsAreCountedShadowedAndQueued := by
  unfold Obligations.EventsAreCountedShadowedAndQueued
  refine ⟨?none, ?disabled, ?queued, ?shadowed, ?merged⟩
  case none =>
    intro s k hk
    refine ⟨s, ?_, rfl⟩
    change execFaultEvent k s = _
    unfold execFaultEvent
    rw [List.getElem?_eq_none hk]
  case disabled =>
    rintro s k _ e hk hforced rfl hen hcount
    obtain ⟨m, hm⟩ := s.evCounted_frame k e.src.num
    refine ⟨_, execFaultEvent_disabled hk hforced hen, by rw [hm], s.evCounted_count k hcount, ?_, s.evCounted_kept k _⟩
    rw [hm]
  case queued =>
    rintro s k _ e _ hk hforced rfl hen hcount hshadows hroom rfl
    obtain ⟨m, hm⟩ := s.evCounted_frame k e.src.num
    have hkept := s.evCounted_kept k e.src.num
    have hcnt := s.evCounted_count k hcount
    have hexec := execFaultEvent_enabled hk hen
    generalize s.evCounted k e.src.num = u at hm hkept hcnt hexec
    have hwaiting : u.fmWaiting = s.fmWaiting := by rw [hm]; rfl
    rw [State.evTaken_waits (by rw [hm]; exact hshadows) (by rw [hwaiting]; exact hroom)] at hexec
    refine ⟨_, hexec, by rw [hm]; rfl, hcnt, ?_, fun j hj => ?_, by rw [hm]; rfl, hkept⟩
    · rw [State.setFmWaiting_waiting, if_pos rfl, hwaiting]
      rfl
    · rw [State.setFmWaiting_waiting, if_neg hj, hwaiting]
  case shadowed =>
    rintro s k _ e _ x hk hforced rfl hen hcount hshadow rfl hshadows hborders hsums
    obtain ⟨m, hm⟩ := s.evCounted_frame k e.src.num
    have hkept := s.evCounted_kept k e.src.num
    have hcnt := s.evCounted_count k hcount
    have hexec := execFaultEvent_enabled hk hen
    generalize s.evCounted k e.src.num = u at hm hkept hcnt hexec
    have hborders' := (State.borders_kept hkept (by simp) (by simp) (s.arrived e) x).trans hborders
    rw [State.evTaken_shadowed (by rw [hm]; exact hshadows) hborders' hsums hforced] at hexec
    have hu : u.rf F.FM_SHADOW_CNT_COUNT 0 = s.rf F.FM_SHADOW_CNT_COUNT 0 := hkept.rf _ _ _ _ (by simp [F.FM_SHADOW_CNT_COUNT])
    have hshadowed : (u.incE F.FM_SHADOW_CNT_COUNT 0).rf F.FM_SHADOW_CNT_COUNT 0 = s.rf F.FM_SHADOW_CNT_COUNT 0 + 1 := by
      rw [State.rf_incE_one rfl rfl (by rw [hu]; exact hshadow), hu]
    have hsource : (u.incE F.FM_SHADOW_CNT_COUNT 0).rf F.FM_SRC_CNT_COUNT 0 e.src.num = s.rf F.FM_SRC_CNT_COUNT 0 e.src.num + 1 :=
      (State.rf_incE_name _ _ _ _ _ _ _ _ _ _ (by decide)).trans hcnt
    have hall : RegsKept s (u.incE F.FM_SHADOW_CNT_COUNT 0) [⟨.FM_SRC_CNT, 0, e.src.num, 0⟩, ⟨.FM_SHADOW_CNT, 0, 0, 0⟩] :=
      (hkept.mono (by simp)).incE F.FM_SHADOW_CNT_COUNT _ _ _ _ (.tail _ (.head _))
    obtain ⟨m', hm'⟩ := u.incE_frame F.FM_SHADOW_CNT_COUNT 0 0 0 1
    refine ⟨_, hexec, by rw [hm', hm], hsource, hshadowed, rfl, by rw [hm', hm], hall⟩
  case merged =>
    rintro s k _ e hk hforced rfl hen hshadows
    obtain ⟨m, hm⟩ := s.evCounted_frame k e.src.num
    have hkept := s.evCounted_kept k e.src.num
    have hexec := execFaultEvent_enabled hk hen
    generalize s.evCounted k e.src.num = u at hm hkept hexec
    have hwaiting : u.fmWaiting = s.fmWaiting := by rw [hm]; rfl
    have hsrc : u.fmSrc = s.fmSrc := by rw [hm]; rfl
    refine ⟨_, hexec, fun hfull => ?_⟩
    have hmerge := State.evTaken_merges (s := u) (n := e.src.num) (e := s.arrived e) (by rw [hm]; exact hshadows)
      (by rw [hwaiting]; exact hfull) hforced
    rw [hmerge]
    exact ⟨by rw [hm]; rfl, by rw [State.setFmSrc_fmSrc, hsrc], hkept⟩

end Sys2Proof.Machine
end

section
/-!
SUPPORT. The fault manager: proof of the statement O49. Records first, then classification in its two stages (the window, then the
severity), then what makes a source clear.
-/
namespace Sys2Proof.Machine

section
variable {s t u v : State} {n sev kind count : Nat} {e : FaultEv} {x : FmSrc}

/-! ## Records -/

/-- A record is written while the log has room (R1015). -/
theorem State.logRec_room (mk : Nat → FaultRec) (h : s.fm.log.length < 256) :
    s.logRec mk = (s.fm.seq, s.setFm { s.fm with log := s.fm.log ++ [mk s.fm.seq], seq := (s.fm.seq + 1) % 65536 }) := by
  unfold State.logRec
  dsimp only
  rw [if_pos h]

/-- The fields of a record's second word and of its fourth (Table 18-5). -/
theorem mkRec_fields (time n sev kind : Nat) (forced : Bool) (die unit root react detail count epoch seq : Nat) (hkind : kind < 4) :
    (mkRec time n sev kind forced die unit root react detail count epoch seq).w1 / 2 ^ 36 % 4 = kind ∧
    (mkRec time n sev kind forced die unit root react detail count epoch seq).w1 / 2 ^ 38 % 4 = sev % 4 ∧
    (mkRec time n sev kind forced die unit root react detail count epoch seq).w1 / 2 ^ 40 = n ∧
    (mkRec time n sev kind forced die unit root react detail count epoch seq).w1 / 2 ^ 8 % 256 = root % 256 ∧
    (mkRec time n sev kind forced die unit root react detail count epoch seq).w3 / 2 ^ 32 = min 65535 count := by
  have hforced := b2n_lt_two forced
  unfold mkRec
  dsimp only
  generalize b2n forced = f at hforced
  generalize min 65535 count = m
  omega

/-- The record of an entry of one event (Table 18-5). -/
theorem mkRec_entry (time sev die unit detail epoch seq : Nat) (hn : n < 256) (hsev : sev < 4) :
    mkRec time n sev 0 false die unit n 1 detail 1 epoch seq = ⟨time % 2 ^ 48,
      n * 2 ^ 40 + sev * 2 ^ 38 + die % 8 * 2 ^ 32 + unit % 65536 * 2 ^ 16 + n * 2 ^ 8 + 1, detail % 2 ^ 48,
      2 ^ 32 + epoch % 256 * 2 ^ 24 + seq % 65536⟩ := by
  unfold mkRec
  rw [Nat.mod_eq_of_lt hn, Nat.mod_eq_of_lt hsev]
  simp [b2n]

theorem OnlyRegs.mono {rs rs' : List Reg} (h : OnlyRegs s t rs) (hsub : ∀ q ∈ rs, q ∈ rs') : OnlyRegs s t rs' := by
  obtain ⟨hframe, hkept⟩ := h
  exact ⟨hframe, hkept.mono hsub⟩

theorem OnlyRegs.trans {rs : List Reg} (h : OnlyRegs s t rs) (h' : OnlyRegs t u rs) : OnlyRegs s u rs := by
  obtain ⟨hframe, hkept⟩ := h
  obtain ⟨hframe', hkept'⟩ := h'
  exact ⟨by rw [hframe', hframe], hkept.trans hkept'⟩

/-- What the record reaction alone leaves: the record, and after one of thermal-trip the trip latch cleared (R1003, R1063). -/
def State.recorded (s : State) (n : Nat) (r : FaultRec) : State :=
  { s with fm := { s.fm with log := s.fm.log ++ [r], seq := (s.fm.seq + 1) % 65536 }
           rst := if n = FaultSrc.thermalTrip.num then { s.rst with trip := false } else s.rst }

/-- Every unit kind supports the record reaction (Table 18-3). -/
theorem UnitKind.mask_odd (k : UnitKind) : 1 &&& k.mask = 1 := by cases k <;> rfl

/-- With REACT 1 a source is recorded, and nothing else (R1003). -/
theorem State.react_records (hlog : s.fm.log.length < 256) (hforced : e.forced = false) :
    s.react n sev kind count e 1 =
      s.recorded n (mkRec e.time n sev kind false e.die e.unit n 1 e.detail count e.epoch s.fm.seq) := by
  have h0 : bit 1 0 = true := rfl
  have hn : ∀ k, k ∈ [1, 2, 3, 4, 5, 6] → bit 1 k = false := by decide
  unfold State.react
  dsimp only
  rw [UnitKind.mask_odd, h0, hn 1 (by decide), hn 2 (by decide), hn 3 (by decide), hn 4 (by decide), hn 5 (by decide), hn 6 (by decide),
    State.logRec_room _ hlog, hforced]
  simp only [Bool.false_and, Bool.false_eq_true, if_false, if_true, Bool.true_and, decide_eq_true_eq]
  unfold State.recorded
  split <;> rfl

theorem State.recorded_waiting (s : State) (n m : Nat) (r : FaultRec) : (s.recorded n r).fmWaiting m = s.fmWaiting m := rfl

theorem State.recorded_fmSrc (s : State) (n m : Nat) (r : FaultRec) : (s.recorded n r).fmSrc m = s.fmSrc m := rfl

theorem State.recorded_rf (s : State) (n : Nat) (r : FaultRec) (f : Fld) (d i j : Nat) : (s.recorded n r).rf f d i j = s.rf f d i j := rfl

theorem RegsKept.recorded {rs : List Reg} (h : RegsKept s t rs) (n : Nat) (r : FaultRec) : RegsKept s (t.recorded n r) rs := h

/-! ## The next source in rotation -/

/-- The state with the next event of a source taken, and the rotation moved on to it (R994). -/
def State.served (s : State) (n : Nat) (rest : List FaultEv) : State :=
  (s.setFmWaiting n rest).setFm { (s.setFmWaiting n rest).fm with rot := n }

theorem State.served_waiting (s : State) (n m : Nat) (rest : List FaultEv) :
    (s.served n rest).fmWaiting m = if m = n then rest else s.fmWaiting m := State.setFmWaiting_waiting s n m rest

theorem State.served_fmSrc (s : State) (n m : Nat) (rest : List FaultEv) : (s.served n rest).fmSrc m = s.fmSrc m := rfl

theorem State.served_rf (s : State) (n : Nat) (rest : List FaultEv) (f : Fld) (d i j : Nat) : (s.served n rest).rf f d i j = s.rf f d i j := rfl

/-- The first source in rotation with an event waiting is served (R994). -/
theorem execFaultClassify_serves {k : Nat} {rest : List FaultEv} (hk : k < 116) (hn : n = (s.fm.rot + k) % 116 + 1)
    (hfirst : ∀ j, j < k → s.fmWaiting ((s.fm.rot + j) % 116 + 1) = []) (hwaiting : s.fmWaiting n = e :: rest)
    (hforced : e.forced = false) (hen : s.rf F.FM_SRC_CTL_EN 0 n = 1) :
    execFaultClassify s = .next ((s.served n rest).classify n e) := by
  have hfind : (List.range 116).find? (fun k => (s.fmWaiting ((s.fm.rot + k) % 116 + 1)) != []) = some k := by
    refine List.find?_range_eq_some.mpr ⟨?_, List.mem_range.mpr hk, fun j hj => ?_⟩
    · rw [← hn, hwaiting]
      rfl
    · rw [hfirst j hj]
      rfl
  have hon : (s.served n rest).rb F.FM_SRC_CTL_EN 0 n = true := State.rb_of_rf_one hen
  unfold execFaultClassify
  rw [hfind]
  dsimp only
  rw [← hn, hwaiting]
  dsimp only
  rw [State.forceTaken_unforced hforced]
  exact congrArg Host.Outcome.next (if_pos hon)

/-! ## The window -/

/-- What the window's fields are set to by an event (R995). -/
def State.winStored (s : State) (n : Nat) (isOpen : Bool) (count : Nat) : State :=
  (s.wf F.FM_SRC_STAT_WIN_OPEN (b2n isOpen) 0 n).wf F.FM_SRC_STAT_WIN_COUNT (if isOpen then count else 0) 0 n

/-- The severity stage of a classification, `x` being what the manager keeps of the source (R996, R1002). -/
def State.sorted (s : State) (n : Nat) (e : FaultEv) (x : FmSrc) (count : Nat) (promote : Bool) : State :=
  let f := faultSpec n
  let inFault := s.rb F.FM_SRC_STAT_IN_FAULT 0 n
  let old := s.rf F.FM_SRC_STAT_SEV 0 n
  let sev := if inFault then (if promote then max old 2 else old) else if promote then max f.base 2 else f.base
  let change := !inFault || decide (old < sev)
  let mask := if change then (if sev < 2 then s.rf F.FM_SRC_CTL_REACT_BASE 0 n else s.rf F.FM_SRC_CTL_REACT_SEV 0 n) else x.react
  let merged := x.merged
  let x := { x with react := mask, lastDie := e.die, lastUnit := e.unit, lastAt := e.time, merged := if change then 0 else merged }
  let s := ((s.setFmSrc n x).wf F.FM_SRC_STAT_IN_FAULT 1 0 n).wf F.FM_SRC_STAT_SEV sev 0 n
  if change then s.react n sev (if inFault then 1 else 0) (max 1 count + merged) e mask
  else if bit (mask &&& f.kind.mask) 2 then s.reactRetry f.kind e.die e.unit
  else s

/-- A source of base severity severe or permanent has no window (R995). -/
theorem State.classify_severe (hbase : 2 ≤ (faultSpec n).base) (hpromote : e.promote = false) :
    s.classify n e = (s.winStored n false 0).sorted n e (s.fmSrc n) 0 false := by
  have hwindows : decide ((faultSpec n).base < 2) = false := decide_eq_false (by omega)
  unfold State.classify State.sorted State.winStored
  dsimp only
  simp only [hwindows, hpromote, Bool.false_and, Bool.false_eq_true, if_false, Nat.lt_irrefl, decide_false, Bool.or_false, Bool.not_false,
    Bool.and_true]

/-- The first event of a source opens its window (R995). -/
theorem State.classify_opens (hbase : (faultSpec n).base < 2) (hpromote : e.promote = false) (hclosed : s.rf F.FM_SRC_STAT_WIN_OPEN 0 n = 0)
    (hn : 2 ≤ s.rf F.FM_SRC_CTL_N 0 n) :
    s.classify n e = (s.winStored n true 1).sorted n e
      { s.fmSrc n with winN := s.rf F.FM_SRC_CTL_N 0 n, winTexp := s.rf F.FM_SRC_CTL_TEXP 0 n, winAt := e.time } 1 false := by
  have hwindows : decide ((faultSpec n).base < 2) = true := decide_eq_true hbase
  have hnone : s.rb F.FM_SRC_STAT_WIN_OPEN 0 n = false := State.rb_of_rf_zero hclosed
  have hset : (s.rf F.FM_SRC_CTL_N 0 n != 0) = true := bne_iff_ne.mpr (by omega)
  have hpart : decide (s.rf F.FM_SRC_CTL_N 0 n ≤ 1) = false := decide_eq_false (by omega)
  unfold State.classify State.sorted State.winStored
  dsimp only
  simp only [hwindows, hnone, hset, hpart, hpromote, Bool.false_and, Bool.not_false, if_true, Nat.zero_lt_one, decide_true,
    Bool.or_false, Bool.and_true, Bool.and_false, Bool.false_eq_true, if_false]

/-- The event that fills a window closes it and promotes its source (R995, R996). -/
theorem State.classify_fills (hbase : (faultSpec n).base < 2) (hpromote : e.promote = false) (hopen : s.rf F.FM_SRC_STAT_WIN_OPEN 0 n = 1)
    (hlive : (e.time + 2 ^ 48 - (s.fmSrc n).winAt) % 2 ^ 48 < 2 ^ (s.fmSrc n).winTexp * 1000)
    (hfull : (s.fmSrc n).winN = s.rf F.FM_SRC_STAT_WIN_COUNT 0 n + 1) :
    s.classify n e = (s.winStored n false 0).sorted n e (s.fmSrc n) (s.rf F.FM_SRC_STAT_WIN_COUNT 0 n + 1) true := by
  have hwindows : decide ((faultSpec n).base < 2) = true := decide_eq_true hbase
  have hopened : s.rb F.FM_SRC_STAT_WIN_OPEN 0 n = true := State.rb_of_rf_one hopen
  have hinside : decide ((e.time + 2 ^ 48 - (s.fmSrc n).winAt) % 2 ^ 48 < 2 ^ (s.fmSrc n).winTexp * 1000) = true := decide_eq_true hlive
  have hlast : decide ((s.fmSrc n).winN ≤ s.rf F.FM_SRC_STAT_WIN_COUNT 0 n + 1) = true := decide_eq_true hfull.le
  unfold State.classify State.sorted State.winStored
  dsimp only
  simp only [hwindows, hopened, hinside, hpromote, Bool.true_and, Bool.not_true, Bool.and_false, Bool.false_and, Bool.false_eq_true, if_false,
    if_true, Nat.succ_pos, decide_true, hlast, Bool.or_false]

/-! ## The severity -/

/-- What a source in fault is left as (R1002). -/
def State.faultStored (s : State) (n : Nat) (x : FmSrc) (sev : Nat) : State :=
  ((s.setFmSrc n x).wf F.FM_SRC_STAT_IN_FAULT 1 0 n).wf F.FM_SRC_STAT_SEV sev 0 n

/-- A clear source enters fault at its base severity (R1002). -/
theorem State.sorted_enters {mask : Nat} (hin : s.rf F.FM_SRC_STAT_IN_FAULT 0 n = 0)
    (hmask : (if (faultSpec n).base < 2 then s.rf F.FM_SRC_CTL_REACT_BASE 0 n else s.rf F.FM_SRC_CTL_REACT_SEV 0 n) = mask) :
    s.sorted n e x count false = (s.faultStored n { x with react := mask, lastDie := e.die, lastUnit := e.unit, lastAt := e.time, merged := 0 }
      (faultSpec n).base).react n (faultSpec n).base 0 (max 1 count + x.merged) e mask := by
  have hclear : s.rb F.FM_SRC_STAT_IN_FAULT 0 n = false := State.rb_of_rf_zero hin
  unfold State.sorted State.faultStored
  dsimp only
  simp only [hclear, Bool.not_false, Bool.true_or, Bool.false_eq_true, if_false, if_true, hmask]

/-- A promoted source in fault below severe rises to severe (R996, R1002). -/
theorem State.sorted_rises (hin : s.rf F.FM_SRC_STAT_IN_FAULT 0 n = 1) (hlow : s.rf F.FM_SRC_STAT_SEV 0 n < 2) :
    s.sorted n e x count true = (s.faultStored n { x with react := s.rf F.FM_SRC_CTL_REACT_SEV 0 n, lastDie := e.die, lastUnit := e.unit, lastAt := e.time, merged := 0 }
      2).react n 2 1 (max 1 count + x.merged) e (s.rf F.FM_SRC_CTL_REACT_SEV 0 n) := by
  have hfault : s.rb F.FM_SRC_STAT_IN_FAULT 0 n = true := State.rb_of_rf_one hin
  have hmax : max (s.rf F.FM_SRC_STAT_SEV 0 n) 2 = 2 := by omega
  unfold State.sorted State.faultStored
  dsimp only
  simp only [hfault, hmax, hlow, Bool.not_true, Bool.false_or, decide_true, if_true, Nat.lt_irrefl, if_false]

theorem State.winStored_only (s : State) (n : Nat) (isOpen : Bool) (count : Nat) :
    OnlyRegs s (s.winStored n isOpen count) [⟨.FM_SRC_STAT, 0, n, 0⟩] :=
  ((OnlyRegs.refl s _).wf F.FM_SRC_STAT_WIN_OPEN _ _ _ _ (.head _)).wf F.FM_SRC_STAT_WIN_COUNT _ _ _ _ (.head _)

theorem State.winStored_rf (s : State) (n : Nat) (isOpen : Bool) (count : Nat) (f : Fld) (hopen : F.FM_SRC_STAT_WIN_OPEN.apart f = true)
    (hcount : F.FM_SRC_STAT_WIN_COUNT.apart f = true) (d i j : Nat) : (s.winStored n isOpen count).rf f d i j = s.rf f d i j := by
  unfold State.winStored
  rw [State.rf_wf_apart _ _ _ _ _ _ _ _ _ _ rfl hcount, State.rf_wf_apart _ _ _ _ _ _ _ _ _ _ rfl hopen]

theorem State.winStored_open (s : State) (n : Nat) (isOpen : Bool) (count : Nat) :
    (s.winStored n isOpen count).rf F.FM_SRC_STAT_WIN_OPEN 0 n = b2n isOpen := by
  unfold State.winStored
  rw [State.rf_wf_apart _ _ _ _ _ _ _ _ _ _ rfl rfl]
  exact State.rf_wf_fits _ F.FM_SRC_STAT_WIN_OPEN _ _ _ _ rfl (b2n_lt_two isOpen)

theorem State.winStored_count (s : State) (n : Nat) (isOpen : Bool) (hcount : (if isOpen then count else 0) < 256) :
    (s.winStored n isOpen count).rf F.FM_SRC_STAT_WIN_COUNT 0 n = if isOpen then count else 0 :=
  State.rf_wf_fits _ F.FM_SRC_STAT_WIN_COUNT _ _ _ _ rfl hcount

theorem State.faultStored_only (s : State) (n : Nat) (x : FmSrc) (sev : Nat) :
    OnlyRegs (s.setFmSrc n x) (s.faultStored n x sev) [⟨.FM_SRC_STAT, 0, n, 0⟩] :=
  ((OnlyRegs.refl _ _).wf F.FM_SRC_STAT_IN_FAULT _ _ _ _ (.head _)).wf F.FM_SRC_STAT_SEV _ _ _ _ (.head _)

theorem State.faultStored_rf (s : State) (n : Nat) (x : FmSrc) (sev : Nat) (f : Fld) (hin : F.FM_SRC_STAT_IN_FAULT.apart f = true)
    (hsev : F.FM_SRC_STAT_SEV.apart f = true) (d i j : Nat) : (s.faultStored n x sev).rf f d i j = s.rf f d i j := by
  unfold State.faultStored
  rw [State.rf_wf_apart _ _ _ _ _ _ _ _ _ _ rfl hsev, State.rf_wf_apart _ _ _ _ _ _ _ _ _ _ rfl hin]
  rfl

theorem State.faultStored_in (s : State) (n : Nat) (x : FmSrc) (sev : Nat) : (s.faultStored n x sev).rf F.FM_SRC_STAT_IN_FAULT 0 n = 1 := by
  unfold State.faultStored
  rw [State.rf_wf_apart _ _ _ _ _ _ _ _ _ _ rfl rfl]
  exact State.rf_wf_fits _ F.FM_SRC_STAT_IN_FAULT _ _ _ _ rfl (by decide)

theorem State.faultStored_sev (s : State) (n : Nat) (x : FmSrc) (hsev : sev < 4) :
    (s.faultStored n x sev).rf F.FM_SRC_STAT_SEV 0 n = sev :=
  State.rf_wf_fits _ F.FM_SRC_STAT_SEV _ _ _ _ rfl hsev

/-- What a source's record leaves: the log, and nothing else but the source's status. -/
theorem State.recorded_spec (hwin : OnlyRegs s u [⟨.FM_SRC_STAT, 0, n, 0⟩]) (hfault : OnlyRegs (u.setFmSrc n x) v [⟨.FM_SRC_STAT, 0, n, 0⟩])
    (r : FaultRec) :
    (v.recorded n r).fm.log = s.fm.log ++ [r] ∧ (v.recorded n r).fm.seq = (s.fm.seq + 1) % 65536 ∧ (v.recorded n r).fm.waiting = s.fm.waiting ∧
      (v.recorded n r).fm.rot = s.fm.rot ∧ (v.recorded n r).fmSrc n = x ∧
      v.recorded n r = { s with regs := (v.recorded n r).regs, fm := (v.recorded n r).fm, rst := (v.recorded n r).rst } ∧
      RegsKept s (v.recorded n r) [⟨.FM_SRC_STAT, 0, n, 0⟩] := by
  obtain ⟨hwin, hwinkept⟩ := hwin
  obtain ⟨hfault, hfaultkept⟩ := hfault
  have hfm : v.fm = (s.setFmSrc n x).fm := by
    rw [hfault, hwin]
    rfl
  have hrec : v.recorded n r = { s with
      regs := v.regs
      fm := { (s.setFmSrc n x).fm with log := s.fm.log ++ [r], seq := (s.fm.seq + 1) % 65536 }
      rst := if n = FaultSrc.thermalTrip.num then { s.rst with trip := false } else s.rst } := by
    unfold State.recorded
    rw [hfault, hwin]
    rfl
  have hkept : RegsKept s v [⟨.FM_SRC_STAT, 0, n, 0⟩] := hwinkept.trans hfaultkept
  refine ⟨by rw [hrec], by rw [hrec], by rw [hrec]; rfl, by rw [hrec]; rfl, ?_, by rw [hrec], hkept.recorded n r⟩
  rw [v.recorded_fmSrc]
  unfold State.fmSrc
  rw [hfm]
  exact State.setFmSrc_fmSrc s n x

/-- A source in fault and recorded. -/
def State.faulted (s : State) (n : Nat) (isOpen : Bool) (wc : Nat) (x : FmSrc) (sev : Nat) (r : FaultRec) : State :=
  ((s.winStored n isOpen wc).faultStored n x sev).recorded n r

theorem State.faulted_spec (s : State) (n : Nat) (isOpen : Bool) (wc : Nat) (x : FmSrc) (hsev : sev < 4)
    (hwc : (if isOpen then wc else 0) < 256) (r : FaultRec) :
    (s.faulted n isOpen wc x sev r).rf F.FM_SRC_STAT_IN_FAULT 0 n = 1 ∧ (s.faulted n isOpen wc x sev r).rf F.FM_SRC_STAT_SEV 0 n = sev ∧
      (s.faulted n isOpen wc x sev r).rf F.FM_SRC_STAT_WIN_OPEN 0 n = b2n isOpen ∧
      (s.faulted n isOpen wc x sev r).rf F.FM_SRC_STAT_WIN_COUNT 0 n = (if isOpen then wc else 0) := by
  unfold State.faulted
  refine ⟨?_, ?_, ?_, ?_⟩
  · rw [State.recorded_rf, State.faultStored_in]
  · rw [State.recorded_rf, State.faultStored_sev _ _ _ hsev]
  · rw [State.recorded_rf, State.faultStored_rf _ _ _ _ _ rfl rfl, State.winStored_open]
  · rw [State.recorded_rf, State.faultStored_rf _ _ _ _ _ rfl rfl, State.winStored_count _ _ _ hwc]

theorem State.faulted_left (s : State) (n : Nat) (isOpen : Bool) (wc : Nat) (x : FmSrc) (sev : Nat) (r : FaultRec) :
    (s.faulted n isOpen wc x sev r).fm.log = s.fm.log ++ [r] ∧ (s.faulted n isOpen wc x sev r).fm.seq = (s.fm.seq + 1) % 65536 ∧
      (s.faulted n isOpen wc x sev r).fm.waiting = s.fm.waiting ∧ (s.faulted n isOpen wc x sev r).fm.rot = s.fm.rot ∧
      (s.faulted n isOpen wc x sev r).fmSrc n = x ∧
      s.faulted n isOpen wc x sev r = { s with regs := (s.faulted n isOpen wc x sev r).regs, fm := (s.faulted n isOpen wc x sev r).fm, rst := (s.faulted n isOpen wc x sev r).rst } ∧
      RegsKept s (s.faulted n isOpen wc x sev r) [⟨.FM_SRC_STAT, 0, n, 0⟩] :=
  State.recorded_spec (s.winStored_only n isOpen wc) ((s.winStored n isOpen wc).faultStored_only n x sev) r

theorem State.fm_of_stored (hwin : OnlyRegs s u [⟨.FM_SRC_STAT, 0, n, 0⟩]) (hfault : OnlyRegs (u.setFmSrc n x) v [⟨.FM_SRC_STAT, 0, n, 0⟩]) :
    v.fm.log = s.fm.log ∧ v.fm.seq = s.fm.seq := by
  obtain ⟨hwin, -⟩ := hwin
  obtain ⟨hfault, -⟩ := hfault
  rw [hfault, hwin]
  exact ⟨rfl, rfl⟩

/-- A source put in fault whose one reaction is the record. -/
theorem State.faultStored_records (isOpen : Bool) (wc : Nat) (x : FmSrc) (sev : Nat) (hlog : s.fm.log.length < 256) (hforced : e.forced = false) :
    ((s.winStored n isOpen wc).faultStored n x sev).react n sev kind count e 1 =
      s.faulted n isOpen wc x sev (mkRec e.time n sev kind false e.die e.unit n 1 e.detail count e.epoch s.fm.seq) := by
  obtain ⟨hlogs, hseq⟩ := State.fm_of_stored (s.winStored_only n isOpen wc) ((s.winStored n isOpen wc).faultStored_only n x sev)
  rw [State.react_records (by rw [hlogs]; exact hlog) hforced, hseq, ← State.faulted.eq_1]

/-- An entry at severity severe or permanent (R994, R1002). -/
theorem State.classify_entersSevere (hbase : 2 ≤ (faultSpec n).base) (hpromote : e.promote = false) (hforced : e.forced = false)
    (hin : s.rf F.FM_SRC_STAT_IN_FAULT 0 n = 0) (hmask : s.rf F.FM_SRC_CTL_REACT_SEV 0 n = 1) (hlog : s.fm.log.length < 256) :
    ∃ x r, s.classify n e = s.faulted n false 0 x (faultSpec n).base r ∧
      r = mkRec e.time n (faultSpec n).base 0 false e.die e.unit n 1 e.detail (1 + (s.fmSrc n).merged) e.epoch s.fm.seq := by
  have hmask' : (if (faultSpec n).base < 2 then (s.winStored n false 0).rf F.FM_SRC_CTL_REACT_BASE 0 n
      else (s.winStored n false 0).rf F.FM_SRC_CTL_REACT_SEV 0 n) = 1 := by
    rw [if_neg (by omega), State.winStored_rf _ _ _ _ _ rfl rfl, hmask]
  rw [State.classify_severe hbase hpromote, State.sorted_enters (by rw [State.winStored_rf _ _ _ _ _ rfl rfl, hin]) hmask',
    State.faultStored_records _ _ _ _ hlog hforced]
  exact ⟨_, _, rfl, rfl⟩

/-- An entry below severe opens the source's window (R995, R1002). -/
theorem State.classify_entersOpen (hbase : (faultSpec n).base < 2) (hpromote : e.promote = false) (hforced : e.forced = false)
    (hin : s.rf F.FM_SRC_STAT_IN_FAULT 0 n = 0) (hclosed : s.rf F.FM_SRC_STAT_WIN_OPEN 0 n = 0) (hn : 2 ≤ s.rf F.FM_SRC_CTL_N 0 n)
    (hmask : s.rf F.FM_SRC_CTL_REACT_BASE 0 n = 1) (hlog : s.fm.log.length < 256) :
    ∃ x r, s.classify n e = s.faulted n true 1 x (faultSpec n).base r ∧ x.winAt = e.time ∧ x.winN = s.rf F.FM_SRC_CTL_N 0 n := by
  have hmask' : (if (faultSpec n).base < 2 then (s.winStored n true 1).rf F.FM_SRC_CTL_REACT_BASE 0 n
      else (s.winStored n true 1).rf F.FM_SRC_CTL_REACT_SEV 0 n) = 1 := by
    rw [if_pos hbase, State.winStored_rf _ _ _ _ _ rfl rfl, hmask]
  rw [State.classify_opens hbase hpromote hclosed hn, State.sorted_enters (by rw [State.winStored_rf _ _ _ _ _ rfl rfl, hin]) hmask',
    State.faultStored_records _ _ _ _ hlog hforced]
  exact ⟨_, _, rfl, rfl, rfl⟩

/-- The event that fills the window of a source in fault raises it to severe (R995, R996, R1002). -/
theorem State.classify_rises (hbase : (faultSpec n).base < 2) (hpromote : e.promote = false) (hforced : e.forced = false)
    (hin : s.rf F.FM_SRC_STAT_IN_FAULT 0 n = 1) (hsev : s.rf F.FM_SRC_STAT_SEV 0 n < 2) (hopen : s.rf F.FM_SRC_STAT_WIN_OPEN 0 n = 1)
    (hlive : (e.time + 2 ^ 48 - (s.fmSrc n).winAt) % 2 ^ 48 < 2 ^ (s.fmSrc n).winTexp * 1000)
    (hfull : (s.fmSrc n).winN = s.rf F.FM_SRC_STAT_WIN_COUNT 0 n + 1) (hmask : s.rf F.FM_SRC_CTL_REACT_SEV 0 n = 1)
    (hlog : s.fm.log.length < 256) :
    ∃ x r, s.classify n e = s.faulted n false 0 x 2 r ∧ r = mkRec e.time n 2 1 false e.die e.unit n 1 e.detail
      (s.rf F.FM_SRC_STAT_WIN_COUNT 0 n + 1 + (s.fmSrc n).merged) e.epoch s.fm.seq := by
  have hmask' : (s.winStored n false 0).rf F.FM_SRC_CTL_REACT_SEV 0 n = 1 := (State.winStored_rf _ _ _ _ _ rfl rfl _ _ _).trans hmask
  have hcount : max 1 (s.rf F.FM_SRC_STAT_WIN_COUNT 0 n + 1) = s.rf F.FM_SRC_STAT_WIN_COUNT 0 n + 1 := by omega
  rw [State.classify_fills hbase hpromote hopen hlive hfull, State.sorted_rises (by rw [State.winStored_rf _ _ _ _ _ rfl rfl, hin])
    (by rw [State.winStored_rf _ _ _ _ _ rfl rfl]; exact hsev), hmask', State.faultStored_records _ _ _ _ hlog hforced, hcount]
  exact ⟨_, _, rfl, rfl⟩

/-! ## Clear sources -/

theorem State.fmClear_only (s : State) (n : Nat) : OnlyRegs s (s.fmClear n) [⟨.FM_SRC_STAT, 0, n, 0⟩] :=
  ((((OnlyRegs.refl s _).wf F.FM_SRC_STAT_WIN_OPEN _ _ _ _ (.head _)).wf F.FM_SRC_STAT_WIN_COUNT _ _ _ _ (.head _)).wf
    F.FM_SRC_STAT_IN_FAULT _ _ _ _ (.head _)).wf F.FM_SRC_STAT_SEV _ _ _ _ (.head _)

/-- A clear source is out of fault, at its base severity, without a window (R997, R998). -/
theorem State.fmClear_spec (s : State) (n : Nat) :
    (s.fmClear n).rf F.FM_SRC_STAT_IN_FAULT 0 n = 0 ∧ (s.fmClear n).rf F.FM_SRC_STAT_SEV 0 n = (faultSpec n).base % 4 ∧
      (s.fmClear n).rf F.FM_SRC_STAT_WIN_OPEN 0 n = 0 := by
  unfold State.fmClear
  refine ⟨?_, State.rf_wf_same _ F.FM_SRC_STAT_SEV _ _ _ _ rfl, ?_⟩
  · rw [State.rf_wf_apart _ _ _ _ _ _ _ _ _ _ rfl rfl]
    exact State.rf_wf_fits _ F.FM_SRC_STAT_IN_FAULT _ _ _ _ rfl (by decide)
  · rw [State.rf_wf_apart _ _ _ _ _ _ _ _ _ _ rfl rfl, State.rf_wf_apart _ _ _ _ _ _ _ _ _ _ rfl rfl,
      State.rf_wf_apart _ _ _ _ _ _ _ _ _ _ rfl rfl]
    exact State.rf_wf_fits _ F.FM_SRC_STAT_WIN_OPEN _ _ _ _ rfl (by decide)

/-- Time that has passed since a time no later than now. -/
theorem elapsed_mod {now at_ : Nat} (hle : at_ ≤ now) (hlt : now - at_ < 2 ^ 48) : (now + 2 ^ 48 - at_) % 2 ^ 48 = now - at_ := by omega

/-- The fields of FM_SRC_CTL that a write stores (R1019, Table 18-8). -/
def State.srcCtlStored (s : State) (n w : Nat) : State :=
  let s := ((s.wf F.FM_SRC_CTL_EN (bits w 45 45) 0 n).wf F.FM_SRC_CTL_TEXP (min 26 (bits w 44 40)) 0 n).wf F.FM_SRC_CTL_N (bits w 39 32) 0 n
  let s := (s.wf F.FM_SRC_CTL_REACT_SEV (bits w 30 24) 0 n).wf F.FM_SRC_CTL_REACT_BASE (bits w 22 16) 0 n
  s.wf F.FM_SRC_CTL_QUIET_MS (max 1 (min 64000 (bits w 15 0))) 0 n

theorem State.srcCtlStored_only (s : State) (n w : Nat) : OnlyRegs s (s.srcCtlStored n w) [⟨.FM_SRC_CTL, 0, n, 0⟩] :=
  ((((((OnlyRegs.refl s _).wf F.FM_SRC_CTL_EN _ _ _ _ (.head _)).wf F.FM_SRC_CTL_TEXP _ _ _ _ (.head _)).wf F.FM_SRC_CTL_N _ _ _ _
    (.head _)).wf F.FM_SRC_CTL_REACT_SEV _ _ _ _ (.head _)).wf F.FM_SRC_CTL_REACT_BASE _ _ _ _ (.head _)).wf F.FM_SRC_CTL_QUIET_MS _ _ _ _
    (.head _)

theorem State.srcCtlStored_spec (s : State) (n w : Nat) :
    (s.srcCtlStored n w).rf F.FM_SRC_CTL_EN 0 n = w / 2 ^ 45 % 2 ∧ (s.srcCtlStored n w).rf F.FM_SRC_CTL_N 0 n = w / 2 ^ 32 % 256 ∧
      (s.srcCtlStored n w).rf F.FM_SRC_CTL_TEXP 0 n = min 26 (w / 2 ^ 40 % 32) ∧
      (s.srcCtlStored n w).rf F.FM_SRC_CTL_QUIET_MS 0 n = max 1 (min 64000 (w % 65536)) := by
  unfold State.srcCtlStored
  refine ⟨?_, ?_, ?_, ?_⟩
  · simp (disch := decide) only [State.rf_wf_apart]
    exact State.rf_wf_fits _ F.FM_SRC_CTL_EN _ _ _ _ rfl (bits_lt w 45 45)
  · simp (disch := decide) only [State.rf_wf_apart]
    exact State.rf_wf_fits _ F.FM_SRC_CTL_N _ _ _ _ rfl (bits_lt w 39 32)
  · simp (disch := decide) only [State.rf_wf_apart]
    rw [State.rf_wf_fits _ F.FM_SRC_CTL_TEXP _ _ _ _ rfl ((Nat.min_le_left _ _).trans_lt (by decide))]
    rfl
  · have hfits : max 1 (min 64000 (bits w 15 0)) < 2 ^ F.FM_SRC_CTL_QUIET_MS.width :=
      (max_le (by decide) (Nat.min_le_left _ _) : max 1 (min 64000 (bits w 15 0)) ≤ 64000).trans_lt (by decide)
    rw [State.rf_wf_fits _ F.FM_SRC_CTL_QUIET_MS _ _ _ _ rfl hfits]
    unfold bits
    simp

/-- A forced event is raised with the die and unit of FM_SRC_RECOV, and FORCE reads 1 (R1000). -/
theorem State.forceEv_spec (h : OnlyRegs s u [⟨.FM_SRC_CTL, 0, n, 0⟩]) :
    (u.forceEv n).rf F.FM_SRC_CTL_FORCE 0 n = 1 ∧
      (u.forceEv n).faultLine = s.faultLine ++ [{ faultEv (FaultSrc.ofNat (n - 1)) (u.rf F.FM_SRC_RECOV_FORCE_DIE 0 n)
        (u.rf F.FM_SRC_RECOV_FORCE_UNIT 0 n) 0 with forced := true }] ∧
      OnlyRegsEv s (u.forceEv n) [⟨.FM_SRC_CTL, 0, n, 0⟩] := by
  obtain ⟨hframe, hkept⟩ := h.wf F.FM_SRC_CTL_FORCE 1 0 n 0 (.head _)
  have hforce : (u.wf F.FM_SRC_CTL_FORCE 1 0 n).rf F.FM_SRC_CTL_FORCE 0 n = 1 :=
    State.rf_wf_fits _ F.FM_SRC_CTL_FORCE _ _ _ _ rfl (by decide)
  unfold State.forceEv
  dsimp only
  obtain ⟨v, hv⟩ : ∃ v, v = u.wf F.FM_SRC_CTL_FORCE 1 0 n := ⟨_, rfl⟩
  rw [← hv] at hframe hkept hforce ⊢
  refine ⟨hforce, ?_, ?_, hkept⟩
  · rw [hframe]
    rfl
  · rw [hframe]
    rfl

theorem srcCtlOut_data {w : TWord} (busy : Bool) (hlow : 1 ≤ n) (hhigh : n ≤ 116) (htag : w.tag.toNat < 2) :
    srcCtlOut n w busy s = s.writeSrcCtl n w.data.toNat busy := by
  have hsource : ¬((decide (n = 0) || decide (116 < n)) = true) := by simp only [Bool.or_eq_true, decide_eq_true_eq]; omega
  unfold srcCtlOut
  rw [if_neg hsource, if_pos htag]

/-- A source in fault becomes clear after its quiet period, with a recovery record (R997, R1014). -/
theorem execQuietPeriodExpiry_clears (hin : s.rf F.FM_SRC_STAT_IN_FAULT 0 n = 1) (hsev : s.rf F.FM_SRC_STAT_SEV 0 n ≠ 3)
    (hwaiting : s.fmWaiting n = []) (hat : (s.fmSrc n).lastAt ≤ s.now) (hlt : s.now - (s.fmSrc n).lastAt < 2 ^ 48)
    (hquiet : s.rf F.FM_SRC_CTL_QUIET_MS 0 n * 1000000 ≤ s.now - (s.fmSrc n).lastAt) (hreact : bit (s.fmSrc n).react 0 = true)
    (hlog : s.fm.log.length < 256) (hcount : s.rf F.FM_SRC_RECOV_COUNT 0 n < 2 ^ 16 - 1) :
    ∃ t r, exec (.quietPeriodExpiry n) s = .next t ∧ t.rf F.FM_SRC_STAT_IN_FAULT 0 n = 0 ∧ t.rf F.FM_SRC_STAT_SEV 0 n = (faultSpec n).base % 4 ∧
      t.rf F.FM_SRC_STAT_WIN_OPEN 0 n = 0 ∧ t.rf F.FM_SRC_RECOV_COUNT 0 n = s.rf F.FM_SRC_RECOV_COUNT 0 n + 1 ∧ t.fm.log = s.fm.log ++ [r] ∧
      r.w1 / 2 ^ 36 % 4 = 2 ∧ r.w0 = s.now % 2 ^ 48 ∧ t = { s with regs := t.regs, fm := t.fm } ∧
      RegsKept s t [⟨.FM_SRC_STAT, 0, n, 0⟩, ⟨.FM_SRC_RECOV, 0, n, 0⟩] := by
  let r : FaultRec := mkRec s.now n (s.rf F.FM_SRC_STAT_SEV 0 n) 2 false (s.fmSrc n).lastDie (s.fmSrc n).lastUnit n 0 0 0
    (s.rf F.TB_EPOCH_EPOCH 0) s.fm.seq
  let u : State := s.setFm { s.fm with log := s.fm.log ++ [r], seq := (s.fm.seq + 1) % 65536 }
  have hexec : exec (.quietPeriodExpiry n) s = .next ((u.fmClear n).incE F.FM_SRC_RECOV_COUNT 0 n) := by
    have hdue : ¬((!s.rb F.FM_SRC_STAT_IN_FAULT 0 n || decide (s.rf F.FM_SRC_STAT_SEV 0 n = 3) || decide (s.fmWaiting n ≠ []) ||
        decide ((s.now + 2 ^ 48 - (s.fmSrc n).lastAt) % 2 ^ 48 < s.rf F.FM_SRC_CTL_QUIET_MS 0 n * 1000000)) = true) := by
      rw [State.rb_of_rf_one hin, elapsed_mod hat hlt]
      simp [hsev, hwaiting, hquiet]
    change execQuietPeriodExpiry n s = _
    unfold execQuietPeriodExpiry
    dsimp only
    rw [if_neg hdue, if_pos hreact, State.logRec_room _ hlog]
  obtain ⟨hclear, hsevs, hopen⟩ := u.fmClear_spec n
  have hrf : ∀ f : Fld, f.reg ≠ .FM_SRC_RECOV → ((u.fmClear n).incE F.FM_SRC_RECOV_COUNT 0 n).rf f 0 n = (u.fmClear n).rf f 0 n :=
    fun f hf => State.rf_incE_name _ F.FM_SRC_RECOV_COUNT f _ _ _ _ _ _ _ (Ne.symm hf)
  obtain ⟨hkind, -⟩ := mkRec_fields s.now n (s.rf F.FM_SRC_STAT_SEV 0 n) 2 false (s.fmSrc n).lastDie (s.fmSrc n).lastUnit n 0 0 0
    (s.rf F.TB_EPOCH_EPOCH 0) s.fm.seq (by decide)
  have hrecov : (u.fmClear n).rf F.FM_SRC_RECOV_COUNT 0 n = s.rf F.FM_SRC_RECOV_COUNT 0 n :=
    RegsKept.rf (u.fmClear_only n).2 F.FM_SRC_RECOV_COUNT 0 n 0 (by simp [F.FM_SRC_RECOV_COUNT])
  have hincremented : ((u.fmClear n).incE F.FM_SRC_RECOV_COUNT 0 n).rf F.FM_SRC_RECOV_COUNT 0 n = s.rf F.FM_SRC_RECOV_COUNT 0 n + 1 := by
    rw [State.rf_incE_same _ F.FM_SRC_RECOV_COUNT _ _ _ _ rfl (by rw [hrecov]; exact Nat.lt_sub_iff_add_lt.mp hcount), hrecov]
  have honly : OnlyRegs u ((u.fmClear n).incE F.FM_SRC_RECOV_COUNT 0 n) [⟨.FM_SRC_STAT, 0, n, 0⟩, ⟨.FM_SRC_RECOV, 0, n, 0⟩] :=
    ((u.fmClear_only n).mono (by simp)).incE F.FM_SRC_RECOV_COUNT _ _ _ _ (.tail _ (.head _))
  obtain ⟨t, ht⟩ : ∃ t, t = (u.fmClear n).incE F.FM_SRC_RECOV_COUNT 0 n := ⟨_, rfl⟩
  rw [← ht] at hexec hrf hincremented honly
  obtain ⟨hframe, hkept⟩ := honly
  refine ⟨t, r, hexec, (hrf _ (by decide)).trans hclear, (hrf _ (by decide)).trans hsevs, (hrf _ (by decide)).trans hopen, hincremented, ?_,
    hkind, rfl, ?_, hkept⟩
  · rw [hframe]
    rfl
  · rw [hframe]
    rfl

/-- A shadow that ends leaves a summary record of each source shadowed in it (R1012). -/
theorem execShadowEnd_sums {sh : Shadow} {c : Nat} (hshadows : s.shadows = [sh]) (hended : sh.ended = true) (hat : sh.stop ≤ s.now)
    (hlt : s.now - sh.stop < 2 ^ 47) (hsums : sh.sums = [(n, c, e)]) (hen : s.rf F.FM_SRC_CTL_EN 0 n = 1)
    (hlog : s.fm.log.length < 256) (hroot : sh.root < 256) :
    ∃ t r, exec (.shadowEnd sh.die sh.island) s = .next t ∧ t.shadows = [] ∧ t.fm.log = s.fm.log ++ [r] ∧ r.w1 / 2 ^ 36 % 4 = 3 ∧
      r.w1 / 2 ^ 40 = n ∧ r.w1 / 2 ^ 8 % 256 = sh.root ∧ r.w3 / 2 ^ 32 = min 65535 c ∧ r.w0 = e.time % 2 ^ 48 ∧
      t = { s with shadows := [], fm := t.fm } := by
  let r : FaultRec := mkRec e.time n (s.rf F.FM_SRC_STAT_SEV 0 n) 3 e.forced e.die e.unit sh.root 1 e.detail c e.epoch s.fm.seq
  let u : State := { s with shadows := [] }
  have hfind : s.shadows.find? (fun y => y.die == sh.die && y.island == sh.island) = some sh := by
    rw [hshadows, List.find?_cons_of_pos (by simp)]
  have hgone : s.shadows.filter (fun y => !(y.die == sh.die && y.island == sh.island)) = [] := by
    rw [hshadows, List.filter_cons_of_neg (by simp)]
    rfl
  have hdue : ¬((!sh.ended || decide (2 ^ 47 ≤ (s.now + 2 ^ 48 - sh.stop) % 2 ^ 48)) = true) := by
    rw [hended, elapsed_mod hat (by omega)]
    simp only [Bool.not_true, Bool.false_or, decide_eq_true_eq]
    omega
  have hon : u.rb F.FM_SRC_CTL_EN 0 n = true := State.rb_of_rf_one hen
  have hexec : exec (.shadowEnd sh.die sh.island) s = .next (u.setFm { u.fm with log := u.fm.log ++ [r], seq := (u.fm.seq + 1) % 65536 }) := by
    change execShadowEnd sh.die sh.island s = _
    unfold execShadowEnd
    rw [hfind]
    dsimp only
    rw [if_neg hdue, hgone, hsums, List.foldl_cons, List.foldl_nil, if_pos hon, State.logRec_room (s := u) _ hlog]
    rfl
  obtain ⟨hkind, -, hsource, hroots, hcount⟩ := mkRec_fields e.time n (s.rf F.FM_SRC_STAT_SEV 0 n) 3 e.forced e.die e.unit sh.root 1 e.detail c
    e.epoch s.fm.seq (by decide)
  exact ⟨_, r, hexec, rfl, rfl, hkind, hsource, hroots.trans (Nat.mod_eq_of_lt hroot), hcount, rfl, rfl⟩

end

/-- Settles O49: classification by `State.classify_entersSevere`, `State.classify_entersOpen` and `State.classify_rises`; sources clear
by `State.fmClear_spec`. -/
theorem eventsAreClassifiedAndSourcesClear : Obligations.EventsAreClassifiedAndSourcesClear := by
  unfold Obligations.EventsAreClassifiedAndSourcesClear
  refine ⟨?idle, ?severe, ?opens, ?rises, ?close, ?quiet, ?stays, ?shadow, ?clear, ?force, ?pop⟩
  case idle =>
    intro s hnone
    refine ⟨s, ?_, rfl⟩
    have hfind : (List.range 116).find? (fun k => (s.fmWaiting ((s.fm.rot + k) % 116 + 1)) != []) = none := by
      refine List.find?_eq_none.mpr fun k _ => ?_
      rw [hnone _ (Nat.mod_lt _ (by decide))]
      decide
    change execFaultClassify s = _
    unfold execFaultClassify
    rw [hfind]
  case severe =>
    rintro s k n _ e rest hk hn hfirst hwaiting hforced hpromote rfl hbase hpermanent hen hin hmask hlog hmerged
    obtain ⟨x, r, hx, hr⟩ := State.classify_entersSevere (s := s.served n rest) hbase hpromote hforced hin hmask hlog
    obtain ⟨hfault, hsev, -, -⟩ := (s.served n rest).faulted_spec n false 0 x hpermanent (by decide) r
    obtain ⟨hlogs, hseq, hwait, hrot, -, hframe, hkept⟩ := (s.served n rest).faulted_left n false 0 x (faultSpec n).base r
    have hw : ∀ m, mget (s.served n rest).fm.waiting m [] = if m = n then rest else s.fmWaiting m := fun m => s.served_waiting n m rest
    have hexec := (execFaultClassify_serves hk hn hfirst hwaiting hforced hen).trans (congrArg _ hx)
    obtain ⟨t, ht⟩ : ∃ t, t = (s.served n rest).faulted n false 0 x (faultSpec n).base r := ⟨_, rfl⟩
    rw [← ht] at hfault hsev hlogs hseq hwait hrot hframe hkept hexec
    have hsame : (s.fmSrc n).merged = 0 := hmerged
    refine ⟨t, r, hexec, ?_, fun m hm => ?_, hrot, hfault, hsev, hlogs, hseq, ?_, ?_, ?_, hkept⟩
    · unfold State.fmWaiting
      rw [hwait, hw, if_pos rfl]
    · unfold State.fmWaiting
      rw [hwait, hw, if_neg hm]
      rfl
    · rw [hr, State.served_fmSrc, hmerged]
      exact mkRec_entry _ _ _ _ _ _ _ (by omega) hpermanent
    · rw [hframe]
      rfl
    · rw [hframe]
      rfl
  case opens =>
    intro s n e hn hwaiting hforced hpromote hbase hen hin hclosed hcount hmask hlog
    obtain ⟨x, r, hx, hat, hwinN⟩ := State.classify_entersOpen (s := s.served n []) hbase hpromote hforced hin hclosed hcount hmask hlog
    obtain ⟨hfault, hsev, hopen, hwc⟩ := (s.served n []).faulted_spec n true 1 x (show (faultSpec n).base < 4 by omega) (by decide) r
    obtain ⟨hlogs, -, -, -, hsrc, -, hkept⟩ := (s.served n []).faulted_left n true 1 x (faultSpec n).base r
    refine ⟨_, (execFaultClassify_serves (k := 0) (by decide) hn (fun j hj => absurd hj (Nat.not_lt_zero j)) hwaiting hforced hen).trans
      (congrArg _ hx), hfault, hsev, hopen, hwc, by rw [hsrc, hat], by rw [hsrc, hwinN]; rfl, ?_, hkept⟩
    rw [hlogs, List.length_append]
    rfl
  case rises =>
    rintro s n c e hn hwaiting hforced hpromote hbase hen hin hsev hopen rfl hfull hat htime hlive hmask hlog
    have hlive' : (e.time + 2 ^ 48 - (s.fmSrc n).winAt) % 2 ^ 48 < 2 ^ (s.fmSrc n).winTexp * 1000 := by
      rw [elapsed_mod hat (by omega)]
      exact hlive
    obtain ⟨x, r, hx, hr⟩ := State.classify_rises (s := s.served n []) hbase hpromote hforced hin (by rw [State.served_rf, hsev]; exact hbase) hopen
      hlive' hfull hmask hlog
    obtain ⟨-, hsev', hopen', hwc⟩ := (s.served n []).faulted_spec n false 0 x (show 2 < 4 by decide) (by decide) r
    obtain ⟨hlogs, -, -, -, -, -, hkept⟩ := (s.served n []).faulted_left n false 0 x 2 r
    obtain ⟨hkind, hsevs, hsource, -, hcount⟩ := mkRec_fields e.time n 2 1 false e.die e.unit n 1 e.detail
      (s.rf F.FM_SRC_STAT_WIN_COUNT 0 n + 1 + (s.fmSrc n).merged) e.epoch s.fm.seq (by decide)
    have hr' : r = mkRec e.time n 2 1 false e.die e.unit n 1 e.detail
      (s.rf F.FM_SRC_STAT_WIN_COUNT 0 n + 1 + (s.fmSrc n).merged) e.epoch s.fm.seq := hr
    rw [← hr'] at hkind hsevs hsource hcount
    exact ⟨_, r, (execFaultClassify_serves (k := 0) (by decide) hn (fun j hj => absurd hj (Nat.not_lt_zero j)) hwaiting hforced hen).trans
      (congrArg _ hx), hsev', hopen', hwc, hlogs, hkind, hsevs, hsource, hcount, hkept⟩
  case close =>
    intro s n hopen hat hlt hover
    have hdue : (s.rb F.FM_SRC_STAT_WIN_OPEN 0 n && decide (2 ^ (s.fmSrc n).winTexp * 1000 ≤ (s.now + 2 ^ 48 - (s.fmSrc n).winAt) % 2 ^ 48)) = true := by
      rw [State.rb_of_rf_one hopen, elapsed_mod hat hlt, Bool.true_and, decide_eq_true hover]
    refine ⟨_, congrArg Host.Outcome.next (if_pos hdue), ?_, ?_, ?_, ((OnlyRegs.refl s _).wf F.FM_SRC_STAT_WIN_OPEN _ _ _ _ (.head _)).wf
      F.FM_SRC_STAT_WIN_COUNT _ _ _ _ (.head _)⟩
    · rw [State.rf_wf_apart _ _ _ _ _ _ _ _ _ _ rfl rfl]
      exact State.rf_wf_fits _ F.FM_SRC_STAT_WIN_OPEN _ _ _ _ rfl (by decide)
    · exact State.rf_wf_fits _ F.FM_SRC_STAT_WIN_COUNT _ _ _ _ rfl (by decide)
    · rw [State.rf_wf_apart _ _ _ _ _ _ _ _ _ _ rfl rfl, State.rf_wf_apart _ _ _ _ _ _ _ _ _ _ rfl rfl]
  case quiet =>
    intro s n hin hsev hwaiting hat hlt hquiet hreact hlog hcount
    exact execQuietPeriodExpiry_clears hin hsev hwaiting hat hlt hquiet hreact hlog hcount
  case stays =>
    intro s n hstays
    refine ⟨s, congrArg Host.Outcome.next (if_pos ?_), rfl⟩
    simp only [Bool.or_eq_true, decide_eq_true_eq]
    rcases hstays with h | h
    · exact .inl (.inl (.inr h))
    · exact .inl (.inr h)
  case shadow =>
    intro s x n c e hshadows hended hat hlt hsums hen hlog hroot
    exact execShadowEnd_sums hshadows hended hat hlt hsums hen hlog hroot
  case clear =>
    intro s n w hlow hhigh htag hclear hforce
    let u : State := s.srcCtlStored n w.data.toNat
    obtain ⟨hen, hn, htexp, hquiet⟩ := s.srcCtlStored_spec n w.data.toNat
    obtain ⟨hin, hsev, hopen⟩ := u.fmClear_spec n
    have hwrite : s.writeSrcCtl n w.data.toNat false = u.fmClear n := by
      unfold State.writeSrcCtl
      dsimp only
      rw [hclear, hforce]
      rfl
    have hkept := u.fmClear_only n
    have hctl : ∀ f : Fld, f.reg = .FM_SRC_CTL → (u.fmClear n).rf f 0 n = u.rf f 0 n := fun f hf =>
      RegsKept.rf hkept.2 f 0 n 0 (by simp [hf])
    exact ⟨_, congrArg Host.Outcome.next ((srcCtlOut_data false hlow hhigh htag).trans hwrite), hin, hsev, hopen, (hctl _ rfl).trans hen,
      (hctl _ rfl).trans hn, (hctl _ rfl).trans htexp, (hctl _ rfl).trans hquiet,
      ((s.srcCtlStored_only n _).mono (by simp)).trans (hkept.mono (by simp))⟩
  case force =>
    intro s n w y hlow hhigh htag hclear hforce
    let u : State := s.srcCtlStored n w.data.toNat
    have hwrite : s.writeSrcCtl n w.data.toNat y = u.forceEv n := by
      unfold State.writeSrcCtl
      dsimp only
      rw [hclear, hforce]
      rfl
    have honly := s.srcCtlStored_only n w.data.toNat
    have hrecov : ∀ f : Fld, f.reg = .FM_SRC_RECOV → u.rf f 0 n = s.rf f 0 n := fun f hf => RegsKept.rf honly.2 f 0 n 0 (by simp [hf])
    obtain ⟨hforced, hline, hev⟩ := State.forceEv_spec (n := n) honly
    refine ⟨_, congrArg Host.Outcome.next ((srcCtlOut_data y hlow hhigh htag).trans hwrite), hforced, ?_, hev⟩
    rw [hline, hrecov _ rfl, hrecov _ rfl]
  case pop =>
    intro s w htag
    refine ⟨_, congrArg Host.Outcome.next (if_pos htag), ?_, ?_⟩
    · unfold State.writeLogCtl
      split
      · exact List.drop_one
      · rfl
    · unfold State.writeLogCtl
      split <;> rfl

end Sys2Proof.Machine
end

section
/-!
SUPPORT. Instances: proof of the statement O47. What the flush of a channel and the reset of an island leave of registers and stream
words comes first; then the steps of the reset of a coder.
-/
namespace Sys2Proof.Machine

/-! ## What a flush and an island reset leave alone -/

/-- The registers that the flush of a channel and the reset of an island write. -/
def flushNames : List RegName := [.SC_CTL, .SC_STAT, .SC_KEY, .SC_TX_SALT, .ISL_CH_DROP]

/-- The registers of other names than `ns` are as before. -/
def NamesKept (s t : State) (ns : List RegName) : Prop := ∀ q : Reg, q.name ∉ ns → t.reg q = s.reg q

/-- The registers of other names are as before, and so are the words in every channel's buffers. -/
def Aside (s t : State) : Prop :=
  NamesKept s t flushNames ∧ ∀ c, (t.sc c).txLen = (s.sc c).txLen ∧ (t.sc c).rx = (s.sc c).rx

section
variable {s t u : State}

theorem Aside.refl (s : State) : Aside s s := ⟨fun _ _ => rfl, fun _ => ⟨rfl, rfl⟩⟩

theorem Aside.trans (h : Aside s t) (h' : Aside t u) : Aside s u :=
  ⟨fun q hq => (h'.1 q hq).trans (h.1 q hq), fun c => ⟨(h'.2 c).1.trans (h.2 c).1, (h'.2 c).2.trans (h.2 c).2⟩⟩

theorem Aside.ite {c : Prop} {_ : Decidable c} (ht : Aside s t) (hu : Aside s u) : Aside s (if c then t else u) := by
  split
  · exact ht
  · exact hu

theorem Aside.foldl {B : Type} {f : State → B → State} {l : List B} (h : Aside s t) (hf : ∀ u b, Aside s u → Aside s (f u b)) :
    Aside s (l.foldl f t) := foldl_keeps (Aside s) f l t h hf

/-- A state that differs in neither registers nor channels. -/
theorem Aside.same (h : Aside s t) (hregs : u.regs = t.regs) (hscs : u.scs = t.scs) : Aside s u := by
  have hreg : ∀ q, u.reg q = t.reg q := fun q => by unfold State.reg; rw [hregs]
  have hsc : ∀ c, u.sc c = t.sc c := fun c => by unfold State.sc; rw [hscs]
  exact ⟨fun q hq => (hreg q).trans (h.1 q hq), fun c => by rw [hsc]; exact h.2 c⟩

theorem Aside.wf (h : Aside s t) (f : Fld) (v d i j : Nat) (hf : f.reg ∈ flushNames) : Aside s (t.wf f v d i j) := by
  refine ⟨fun q hq => ?_, fun c => by rw [State.wf_sc]; exact h.2 c⟩
  have hne : q ≠ ⟨f.reg, d, i, j⟩ := by rintro rfl; exact hq hf
  rw [State.reg_wf_ne _ _ _ _ _ _ _ hne]
  exact h.1 q hq

theorem Aside.incE (h : Aside s t) (f : Fld) (d i j n : Nat) (hf : f.reg ∈ flushNames) : Aside s (t.incE f d i j n) := by
  rw [State.incE_spec]
  exact .ite (h.wf _ _ _ _ _ hf) ((h.wf _ _ _ _ _ hf).wf _ _ _ _ _ hf)

theorem Aside.setSc (h : Aside s t) (c : Nat) (x : Sc) (hx : x.txLen = (t.sc c).txLen ∧ x.rx = (t.sc c).rx) : Aside s (t.setSc c x) := by
  refine ⟨fun q hq => (State.setSc_reg ..).trans (h.1 q hq), fun k => ?_⟩
  by_cases hk : k = c
  · rw [hk, State.sc_setSc_same, hx.1, hx.2]
    exact h.2 c
  · rw [State.sc_setSc_ne hk]
    exact h.2 k

theorem Aside.msg (h : Aside s t) (c m n : Nat) : Aside s (t.msg c m n) :=
  h.setSc c { t.sc c with msgs := (t.sc c).msgs ++ [m * 2 ^ 196 + n % 2 ^ 196] } ⟨rfl, rfl⟩

theorem Aside.setOwed (h : Aside s t) (c n : Nat) : Aside s (t.setSc c { t.sc c with owed := n }) :=
  h.setSc c { t.sc c with owed := n } ⟨rfl, rfl⟩

theorem Aside.setTxCtr (h : Aside s t) (c n : Nat) : Aside s (t.setSc c { t.sc c with txCtr := n }) :=
  h.setSc c { t.sc c with txCtr := n } ⟨rfl, rfl⟩

theorem Aside.raise (h : Aside s t) (src : FaultSrc) (d i x : Nat) : Aside s (t.raise src d i x) := h

/-! ### Channels -/

theorem Aside.owe (h : Aside s t) (c n : Nat) : Aside s (t.owe c n) :=
  .ite ((h.setOwed c 0).msg _ _ _) (h.setOwed c _)

theorem Aside.closeIfEmpty (h : Aside s t) (c : Nat) : Aside s (t.closeIfEmpty c) :=
  .ite (.wf (.msg (.ite ((h.setOwed c 0).msg _ _ _) h) _ _ _) F.SC_STAT_RX_STATE _ _ _ _ (by decide)) h

theorem Aside.closeNow (h : Aside s t) (c : Nat) : Aside s (t.closeNow c) :=
  .ite ((h.msg _ _ _).wf F.SC_STAT_TX_STATE _ _ _ _ (by decide)) h

theorem Aside.keySwitchNow (h : Aside s t) (c : Nat) : Aside s (t.keySwitchNow c) := by
  unfold State.keySwitchNow
  extract_lets u0 u1 u2 u3
  have h2 : Aside s u2 := .wf (.wf (.wf (h.msg c 7 0) F.SC_KEY_TX_SLOT _ _ _ _ (by decide)) F.SC_TX_SALT_SALT _ _ _ _ (by decide))
    F.SC_CTL_KEY_SWITCH _ _ _ _ (by decide)
  have h3 : Aside s (u2.setSc c { u2.sc c with txCtr := 0 }) := h2.setTxCtr c 0
  exact .ite (h3.wf F.SC_STAT_TX_STATE _ _ _ _ (by decide)) h3

theorem Aside.txBoundary (h : Aside s t) (c ctr : Nat) : Aside s (t.txBoundary c ctr) := by
  have h1 : Aside s (t.setSc c { t.sc c with txCtr := ctr % 2 ^ 64 }) := h.setTxCtr c _
  exact .ite ((h1.keySwitchNow c).closeNow c) (.ite ((h1.wf F.SC_STAT_TX_STATE _ _ _ _ (by decide)).raise _ _ _ _) (h1.closeNow c))

/-- The flush of a channel empties its buffers, and leaves those of the others and the other registers (R704). -/
theorem State.channelFlush_empties (s : State) (c : Nat) :
    (((s.channelFlush c).sc c).txLen = 0 ∧ ((s.channelFlush c).sc c).rx = []) ∧
      (∀ k, k ≠ c → ((s.channelFlush c).sc k).txLen = (s.sc k).txLen ∧ ((s.channelFlush c).sc k).rx = (s.sc k).rx) ∧
      NamesKept s (s.channelFlush c) flushNames := by
  unfold State.channelFlush
  extract_lets x partial_ u0 u1 y n u2 u3
  have h0 : (u0.sc c).txLen = 0 ∧ (∀ k, k ≠ c → u0.sc k = s.sc k) ∧ ∀ q, u0.reg q = s.reg q :=
    ⟨by rw [State.sc_setSc_same], fun k hk => State.sc_setSc_ne hk _ _, fun q => State.setSc_reg ..⟩
  have h1 : Aside u0 u1 := .ite ((Aside.refl u0).msg _ _ _ |>.txBoundary _ _) (.refl u0)
  have h2 : (u2.sc c).txLen = (u1.sc c).txLen ∧ (u2.sc c).rx = [] ∧ (∀ k, k ≠ c → u2.sc k = u1.sc k) ∧ ∀ q, u2.reg q = u1.reg q :=
    ⟨by rw [State.sc_setSc_same], by rw [State.sc_setSc_same], fun k hk => State.sc_setSc_ne hk _ _, fun q => State.setSc_reg ..⟩
  have h3 : Aside u2 u3 := .ite (.refl u2) ((Aside.refl u2).owe _ _)
  have h4 : Aside u2 ((((u3.rxView c).closeIfEmpty c).wf F.SC_CTL_FLUSH 0 0 c).closeNow c) :=
    (((h3.wf F.SC_STAT_RX_LEVEL _ _ _ _ (by decide)).closeIfEmpty c).wf F.SC_CTL_FLUSH _ _ _ _ (by decide)).closeNow c
  generalize (((u3.rxView c).closeIfEmpty c).wf F.SC_CTL_FLUSH 0 0 c).closeNow c = u4 at h4
  clear_value u3 u2 u1 u0
  refine ⟨⟨?_, ?_⟩, fun k hk => ?_, fun q hq => ?_⟩
  · rw [(h4.2 c).1, h2.1, (h1.2 c).1, h0.1]
  · rw [(h4.2 c).2, h2.2.1]
  · rw [(h4.2 k).1, (h4.2 k).2, h2.2.2.1 k hk, (h1.2 k).1, (h1.2 k).2, h0.2.1 k hk]
    exact ⟨rfl, rfl⟩
  · rw [h4.1 q hq, h2.2.2.2, h1.1 q hq, h0.2.2]

/-! ### Islands -/

theorem Aside.dioInitAll (h : Aside s t) (d i : Nat) : Aside s (t.dioInitAll d i) := .foldl h fun _ _ hu => .ite (hu.same rfl rfl) hu

theorem Aside.flushIn (h : Aside s t) (d i p : Nat) : Aside s (t.flushIn d i p) := by
  unfold State.flushIn
  split
  · exact h
  · refine .ite (h.same rfl rfl) (.incE ?_ F.ISL_CH_DROP_COUNT _ _ _ _ (by decide))
    exact h.same rfl rfl

theorem Aside.flushStop (h : Aside s t) (d i p : Nat) : Aside s (t.flushStop d i p) := by
  refine .ite (h.same rfl rfl) (.incE ?_ F.ISL_CH_DROP_COUNT _ _ _ _ (by decide))
  exact h.same rfl rfl

theorem Aside.stopIssue (h : Aside s t) (d i : Nat) : Aside s (t.stopIssue d i) :=
  .foldl h fun _ _ hu => .ite hu (.ite hu (hu.same rfl rfl))

theorem Aside.dropOffer (h : Aside s t) (d i p : Nat) : Aside s (t.dropOffer d i p) := h.same rfl rfl

theorem Aside.resetEvt (h : Aside s t) (d i p : Nat) : Aside s (t.resetEvt d i p) := h.same rfl rfl

theorem Aside.setBm (h : Aside s t) (d i m : Nat) (b : Bm) : Aside s (t.setBm d i m b) := h.same rfl rfl

theorem Aside.setIsland (h : Aside s t) (d i : Nat) (x : Isl) : Aside s (t.setIsland d i x) := h.same rfl rfl

theorem Aside.setWait (h : Aside s t) (wait : SMap (List (Txn × Bool))) : Aside s { t with stopWait := wait } := h.same rfl rfl

theorem Aside.setOutst (h : Aside s t) (outst : List Outst) : Aside s { t with outst := outst } := h.same rfl rfl

theorem Aside.openShadow (h : Aside s t) (d i root : Nat) : Aside s (t.openShadow d i root) := .ite (h.same rfl rfl) (h.same rfl rfl)

theorem Aside.resetChannels (h : Aside s t) (d i : Nat) : Aside s (t.resetChannels d i) := by
  have hin := h.foldl (f := fun u p => u.flushIn d i p) (l := List.range 7) fun _ _ hu => hu.flushIn _ _ _
  have hout := hin.foldl (f := fun u p => u.dropOffer d i p) (l := List.range 4) fun _ _ hu => hu.dropOffer _ _ _
  have hevt := hout.foldl (f := fun u p => u.resetEvt d i p) (l := List.range 8) fun _ _ hu => hu.resetEvt _ _ _
  exact .stopIssue (.setOutst (.foldl (hevt.setWait _) fun _ _ hu => hu.flushStop _ _ _) _) d i

theorem Aside.resetIsland (h : Aside s t) (d i : Nat) : Aside s (t.resetIsland d i) := by
  unfold State.resetIsland State.initRegs
  exact .resetChannels (.foldl (.dioInitAll (.setIsland (.setIsland h _ _ _) _ _ _) d i) fun _ _ hu => hu.setBm _ _ _ _) d i

theorem Aside.beginReset (h : Aside s t) (d i root : Nat) : Aside s (t.beginReset d i root) := (h.resetIsland d i).openShadow d i root

/-! ## Registers kept by name -/

variable {ns : List RegName} {d e x i : Nat}

theorem NamesKept.trans (h : NamesKept s t ns) (h' : NamesKept t u ns) : NamesKept s u ns := fun q hq => (h' q hq).trans (h q hq)

theorem NamesKept.mono {ns' : List RegName} (h : NamesKept s t ns) (hsub : ∀ n ∈ ns, n ∈ ns') : NamesKept s t ns' :=
  fun q hq => h q fun hmem => hq (hsub _ hmem)

theorem NamesKept.rf (h : NamesKept s t ns) (f : Fld) (d i j : Nat) (hf : f.reg ∉ ns) : t.rf f d i j = s.rf f d i j :=
  congrArg f.get (h _ hf)

theorem RegsKept.names {rs : List Reg} (h : RegsKept s t rs) (hsub : ∀ r ∈ rs, r.name ∈ ns) : NamesKept s t ns :=
  fun q hq => h q fun hmem => hq (hsub q hmem)

theorem NamesKept.foldl {B : Type} {f : State → B → State} {l : List B} (hf : ∀ u b, NamesKept u (f u b) ns) : NamesKept s (l.foldl f s) ns :=
  foldl_keeps (NamesKept s · ns) f l s (fun _ _ => rfl) fun u b hu => hu.trans (hf u b)

theorem State.fabDies_kept (h : NamesKept s t ns) (hrole : .DEV_ROLE ∉ ns) : t.fabDies = s.fabDies := by
  unfold State.fabDies State.is20 State.part
  rw [h.rf F.DEV_ROLE_PART_CODE 0 0 0 hrole]

theorem State.hasDie_kept (h : NamesKept s t ns) (hrole : .DEV_ROLE ∉ ns) : t.hasDie = s.hasDie := by
  unfold State.hasDie State.is20 State.is40X State.part
  rw [h.rf F.DEV_ROLE_PART_CODE 0 0 0 hrole]

theorem State.now_kept (h : NamesKept s t ns) (htime : .TB_TIME ∉ ns) : t.now = s.now := by
  unfold State.now State.rw
  rw [h _ htime]

theorem State.instCtxs_kept (h : NamesKept s t ns) (hrole : .DEV_ROLE ∉ ns) (hctl : .CTX_CTL ∉ ns) : t.instCtxs i = s.instCtxs i := by
  unfold State.instCtxs State.allCtxs State.ctxInst State.rb
  simp only [State.fabDies_kept h hrole, h.rf F.CTX_CTL_IN_INST _ _ _ hctl, h.rf F.CTX_CTL_INST _ _ _ hctl]

theorem State.instChannels_kept (h : NamesKept s t ns) (hlo : .INST_CH_LO ∉ ns) (hhi : .INST_CH_HI ∉ ns) :
    t.instChannels i = s.instChannels i := by
  unfold State.instChannels State.rw
  rw [h _ hlo, h.rf F.INST_CH_HI_MEMBERS 0 i 0 hhi]

theorem State.instIslands_kept (h : NamesKept s t ns) (hrole : .DEV_ROLE ∉ ns) (hlo : .INST_ISL_LO ∉ ns) (hhi : .INST_ISL_HI ∉ ns) :
    t.instIslands i = s.instIslands i := by
  unfold State.instIslands State.rw
  rw [State.hasDie_kept h hrole, h _ hlo, h.rf F.INST_ISL_HI_MEMBERS 0 i 0 hhi]

/-! ## The steps of the reset of a coder -/

/-- What a fold brings about for each element of its list, where no step undoes it. -/
theorem foldl_establishes {A B : Type} (P : B → A → Prop) (f : A → B → A) (hset : ∀ a b, P b (f a b))
    (hkeep : ∀ a b b', P b' a → P b' (f a b)) (l : List B) (a : A) : ∀ b ∈ l, P b (l.foldl f a) := by
  induction l generalizing a with
  | nil => exact fun b hb => absurd hb List.not_mem_nil
  | cons c l ih =>
    intro b hb
    rcases List.mem_cons.mp hb with rfl | hb
    · exact foldl_keeps (P b) f l (f a b) (hset a b) fun a c => hkeep a c b
    · exact ih (f a c) b hb

/-- Step 1: the epoch of the coder raised, BUSY set and the reads to be waited for noted (R917). -/
def State.instMarked (s : State) (i : Nat) : State :=
  let wait := (s.instCtxs i).flatMap fun c => (s.ctx c.1 c.2.1 c.2.2).reads.map fun r => (c.1, engMaster c.1 c.2.1, r.tag)
  let s := (s.wf F.INST_STAT_EPOCH ((s.rf F.INST_STAT_EPOCH 0 i + 1) % 256) 0 i).wf F.INST_STAT_BUSY 1 0 i
  s.setInst i ⟨wait, s.now, false⟩

/-- The epoch copied to every die (R917). -/
def State.epochsSet (s : State) (i ep : Nat) : State := (0 :: s.fabDies).foldl (fun s d => s.wf F.ENG_EPOCH_EPOCH ep d i) s

/-- Step 2: contexts stopped (R917). -/
def State.ctxsDiscarded (s : State) (cs : List (Nat × Nat × Nat)) : State := cs.foldl (fun s c => s.ctxDiscard c.1 c.2.1 c.2.2) s

/-- Step 3: channels flushed (R917). -/
def State.channelsFlushed (s : State) (i : Nat) : State := (s.instChannels i).foldl (fun s c => s.channelFlush c) s

/-- Step 4: islands reset (R917, R926). -/
def State.islandsReset (s : State) (i : Nat) : State :=
  (s.instIslands i).foldl (fun s e => if (s.island e.1 e.2).held then s else s.beginReset e.1 e.2 98) s

theorem State.instReset_eq (s : State) (i : Nat) : s.instReset i =
    ((((s.instMarked i).epochsSet i ((s.rf F.INST_STAT_EPOCH 0 i + 1) % 256)).ctxsDiscarded (s.instCtxs i)).channelsFlushed i).islandsReset i :=
  rfl

theorem RegsKept.setInst {rs : List Reg} (h : RegsKept s t rs) (i : Nat) (y : Inst) : RegsKept s (t.setInst i y) rs := h

theorem State.instMarked_kept (s : State) (i : Nat) : RegsKept s (s.instMarked i) [⟨.INST_STAT, 0, i, 0⟩] :=
  (((RegsKept.refl s _).wf F.INST_STAT_EPOCH _ _ _ _ (.head _)).wf F.INST_STAT_BUSY _ _ _ _ (.head _)).setInst i _

theorem State.instMarked_spec (s : State) (i : Nat) : (s.instMarked i).rf F.INST_STAT_BUSY 0 i = 1 ∧
    (s.instMarked i).rf F.INST_STAT_EPOCH 0 i = (s.rf F.INST_STAT_EPOCH 0 i + 1) % 256 := by
  unfold State.instMarked
  dsimp only
  refine ⟨?_, ?_⟩
  · rw [State.setInst_rf]
    exact State.rf_wf_fits _ F.INST_STAT_BUSY _ _ _ _ rfl (by decide)
  · rw [State.setInst_rf, State.rf_wf_apart _ F.INST_STAT_BUSY _ _ _ _ _ _ _ _ rfl rfl]
    exact State.rf_wf_fits _ F.INST_STAT_EPOCH _ _ _ _ rfl (Nat.mod_lt _ (by decide))

theorem State.epochsSet_names (s : State) (i ep : Nat) : NamesKept s (s.epochsSet i ep) [.ENG_EPOCH] :=
  .foldl fun u d => ((RegsKept.refl u [⟨.ENG_EPOCH, d, i, 0⟩]).wf F.ENG_EPOCH_EPOCH _ _ _ _ (.head _)).names (by simp)

theorem State.epochsSet_epoch {ep : Nat} (hep : ep < 256) (hd : d = 0 ∨ d ∈ s.fabDies) : (s.epochsSet i ep).rf F.ENG_EPOCH_EPOCH d i = ep := by
  have hset : ∀ (u : State) (d : Nat), (u.wf F.ENG_EPOCH_EPOCH ep d i).rf F.ENG_EPOCH_EPOCH d i = ep :=
    fun u d => State.rf_wf_fits _ F.ENG_EPOCH_EPOCH _ _ _ _ rfl hep
  refine foldl_establishes (fun d (u : State) => u.rf F.ENG_EPOCH_EPOCH d i = ep) _ hset (fun u b d hu => ?_) _ s d (List.mem_cons.mpr hd)
  by_cases h : d = b
  · rw [h]
    exact hset u b
  · rw [State.rf_wf_index _ _ _ _ _ _ _ _ _ _ (by simp [h])]
    exact hu

theorem State.handBack_regs (s : State) (d e n addr : Nat) : (s.handBack d e n addr).regs = s.regs := by
  unfold State.handBack
  split
  · rfl
  · rfl

theorem State.ctxDiscard_reg (s : State) (d e x : Nat) : ∃ u : State, u.regs = s.regs ∧ s.ctxDiscard d e x = u.wf F.CTX_CTL_RUN 0 d e x := by
  refine ⟨(s.handBack d e (s.ctx d e x).grant (s.claimAddr (s.ctx d e x))).setCtx d e x
    { Ctx.init with reads := orphans (s.ctx d e x).reads }, ?_, ?_⟩
  · rw [State.setCtx_regs, State.handBack_regs]
  · unfold State.ctxDiscard
    dsimp only

theorem State.ctxDiscard_names (s : State) (d e x : Nat) : NamesKept s (s.ctxDiscard d e x) [.CTX_CTL] := by
  obtain ⟨u, hregs, hu⟩ := s.ctxDiscard_reg d e x
  have hsame : RegsKept s u [⟨.CTX_CTL, d, e, x⟩] := fun q _ => by unfold State.reg; rw [hregs]
  rw [hu]
  exact (hsame.wf F.CTX_CTL_RUN _ _ _ _ (.head _)).names (by simp)

theorem State.ctxsDiscarded_names (s : State) (cs : List (Nat × Nat × Nat)) : NamesKept s (s.ctxsDiscarded cs) [.CTX_CTL] :=
  .foldl fun u c => u.ctxDiscard_names c.1 c.2.1 c.2.2

/-- A context has stopped. -/
def CtxStopped (c : Nat × Nat × Nat) (s : State) : Prop := s.rf F.CTX_CTL_RUN c.1 c.2.1 c.2.2 = 0

theorem State.ctxDiscard_stops (s : State) (c : Nat × Nat × Nat) : CtxStopped c (s.ctxDiscard c.1 c.2.1 c.2.2) := by
  obtain ⟨v, -, hv⟩ := s.ctxDiscard_reg c.1 c.2.1 c.2.2
  unfold CtxStopped
  rw [hv]
  exact State.rf_wf_fits _ F.CTX_CTL_RUN _ _ _ _ rfl (by decide)

theorem CtxStopped.ctxDiscard {c b : Nat × Nat × Nat} (h : CtxStopped c s) : CtxStopped c (s.ctxDiscard b.1 b.2.1 b.2.2) := by
  by_cases hb : c = b
  · rw [hb]
    exact s.ctxDiscard_stops b
  · obtain ⟨v, hregs, hv⟩ := s.ctxDiscard_reg b.1 b.2.1 b.2.2
    unfold CtxStopped State.rf State.reg at h
    unfold CtxStopped
    rw [hv, State.rf_wf_index _ _ _ _ _ _ _ _ _ _ hb]
    unfold State.rf State.reg
    rw [hregs, h]

/-- Every context discarded has stopped (R917). -/
theorem State.ctxsDiscarded_stopped {cs : List (Nat × Nat × Nat)} {c : Nat × Nat × Nat} (hc : c ∈ cs) :
    (s.ctxsDiscarded cs).rf F.CTX_CTL_RUN c.1 c.2.1 c.2.2 = 0 :=
  foldl_establishes CtxStopped (fun u c => u.ctxDiscard c.1 c.2.1 c.2.2) State.ctxDiscard_stops (fun _ _ _ hu => hu.ctxDiscard) cs s c hc

theorem State.channelsFlushed_names (s : State) (i : Nat) : NamesKept s (s.channelsFlushed i) flushNames := by
  refine .foldl fun u c => ?_
  obtain ⟨-, -, hnames⟩ := u.channelFlush_empties c
  exact hnames

/-- Every channel flushed is empty (R917, R704). -/
theorem State.channelsFlushed_empty {c : Nat} (hc : c ∈ s.instChannels i) :
    ((s.channelsFlushed i).sc c).txLen = 0 ∧ ((s.channelsFlushed i).sc c).rx = [] := by
  have hset : ∀ (u : State) (c : Nat), ((u.channelFlush c).sc c).txLen = 0 ∧ ((u.channelFlush c).sc c).rx = [] := fun u c =>
    (u.channelFlush_empties c).1
  refine foldl_establishes (fun c (u : State) => (u.sc c).txLen = 0 ∧ (u.sc c).rx = []) _ hset (fun u b c hu => ?_) _ s c hc
  by_cases h : c = b
  · rw [h]
    exact hset u b
  · obtain ⟨-, hother, -⟩ := u.channelFlush_empties b
    obtain ⟨hlen, hrx⟩ := hother c h
    rw [hlen, hrx]
    exact hu

theorem State.islandsReset_aside (s : State) (i : Nat) : Aside s (s.islandsReset i) :=
  .foldl (.refl s) fun _ _ hu => .ite hu (hu.beginReset _ _ _)

/-- The registers that the reset of a coder writes. -/
def instResetNames : List RegName := .INST_STAT :: .ENG_EPOCH :: .CTX_CTL :: flushNames

/-- The reset of a coder: the epoch raised everywhere, contexts stopped, channels emptied (R917, R918). -/
theorem State.instReset_spec (s : State) (i : Nat) : (s.instReset i).rf F.INST_STAT_BUSY 0 i = 1 ∧
    (s.instReset i).rf F.INST_STAT_EPOCH 0 i = (s.rf F.INST_STAT_EPOCH 0 i + 1) % 256 ∧
    (∀ d, (d = 0 ∨ d ∈ s.fabDies) → (s.instReset i).rf F.ENG_EPOCH_EPOCH d i = (s.rf F.INST_STAT_EPOCH 0 i + 1) % 256) ∧
    (∀ c, c ∈ s.instCtxs i → (s.instReset i).rf F.CTX_CTL_RUN c.1 c.2.1 c.2.2 = 0) ∧
    (∀ c, c ∈ s.instChannels i → ((s.instReset i).sc c).txLen = 0 ∧ ((s.instReset i).sc c).rx = []) ∧
    NamesKept s (s.instReset i) instResetNames := by
  rw [State.instReset_eq]
  obtain ⟨hbusy, hepoch⟩ := s.instMarked_spec i
  have hmark : NamesKept s (s.instMarked i) [.INST_STAT] := (s.instMarked_kept i).names (by simp)
  have hep : (s.rf F.INST_STAT_EPOCH 0 i + 1) % 256 < 256 := Nat.mod_lt _ (by decide)
  generalize (s.rf F.INST_STAT_EPOCH 0 i + 1) % 256 = ep at hepoch hep ⊢
  generalize s.instMarked i = u1 at hmark hbusy hepoch ⊢
  have hcopies := fun d (hd : d = 0 ∨ d ∈ s.fabDies) => State.epochsSet_epoch (s := u1) (i := i) hep
    (by rw [State.fabDies_kept hmark (by decide)]; exact hd)
  have hnames2 := u1.epochsSet_names i ep
  generalize u1.epochsSet i ep = u2 at hcopies hnames2 ⊢
  have hstopped := fun c hc => State.ctxsDiscarded_stopped (s := u2) (cs := s.instCtxs i) (c := c) hc
  have hnames3 := u2.ctxsDiscarded_names (s.instCtxs i)
  generalize u2.ctxsDiscarded (s.instCtxs i) = u3 at hstopped hnames3 ⊢
  have hnames : NamesKept s u3 instResetNames :=
    ((hmark.mono (by decide)).trans (hnames2.mono (by decide))).trans (hnames3.mono (by decide))
  have hempty := fun c (hc : c ∈ s.instChannels i) => State.channelsFlushed_empty (s := u3) (i := i)
    (by rw [State.instChannels_kept hnames (by decide) (by decide)]; exact hc)
  have hnames4 := u3.channelsFlushed_names i
  generalize u3.channelsFlushed i = u4 at hempty hnames4 ⊢
  obtain ⟨hnames5, hbuffers⟩ := u4.islandsReset_aside i
  generalize u4.islandsReset i = t at hnames5 hbuffers ⊢
  have hlast : NamesKept u3 t flushNames := hnames4.trans hnames5
  refine ⟨?_, ?_, fun d hd => ?_, fun c hc => ?_, fun c hc => ?_, hnames.trans (hlast.mono (by decide))⟩
  · rw [hlast.rf _ _ _ _ (by decide), hnames3.rf _ _ _ _ (by decide), hnames2.rf _ _ _ _ (by decide), hbusy]
  · rw [hlast.rf _ _ _ _ (by decide), hnames3.rf _ _ _ _ (by decide), hnames2.rf _ _ _ _ (by decide), hepoch]
  · rw [hlast.rf _ _ _ _ (by decide), hnames3.rf _ _ _ _ (by decide), hcopies d hd]
  · rw [hlast.rf _ _ _ _ (by decide), hstopped c hc]
  · rw [(hbuffers c).1, (hbuffers c).2]
    exact hempty c hc

theorem State.epochsSet_only (s : State) (i ep : Nat) :
    OnlyRegs s (s.epochsSet i ep) ((0 :: s.fabDies).map fun d => ⟨.ENG_EPOCH, d, i, 0⟩) :=
  List.foldlRecOn (motive := fun u => OnlyRegs s u ((0 :: s.fabDies).map fun d => ⟨.ENG_EPOCH, d, i, 0⟩)) _ _ (.refl s _)
    fun _ hu _ hd => hu.wf F.ENG_EPOCH_EPOCH _ _ _ _ (List.mem_map.mpr ⟨_, hd, rfl⟩)

theorem State.inst_setInst (s : State) (i : Nat) (y : Inst) : (s.setInst i y).inst i = y := mget_mset_same _ _ _ _

theorem State.instMarked_inst (hctxs : s.instCtxs i = []) : (s.instMarked i).inst i = ⟨[], s.now, false⟩ := by
  have hkept : RegsKept s ((s.wf F.INST_STAT_EPOCH ((s.rf F.INST_STAT_EPOCH 0 i + 1) % 256) 0 i).wf F.INST_STAT_BUSY 1 0 i)
      [⟨.INST_STAT, 0, i, 0⟩] := ((RegsKept.refl s _).wf F.INST_STAT_EPOCH _ _ _ _ (.head _)).wf F.INST_STAT_BUSY _ _ _ _ (.head _)
  unfold State.instMarked
  dsimp only
  rw [State.inst_setInst, hctxs, State.now_kept (hkept.names (ns := [.INST_STAT]) (by simp)) (by decide)]
  rfl

/-- Nothing differs between two states but the registers `rs` and the instances. -/
def OnlyInsts (s t : State) (rs : List Reg) : Prop := t = { s with regs := t.regs, insts := t.insts } ∧ RegsKept s t rs

theorem OnlyInsts.of_regs {rs : List Reg} (h : OnlyRegs s t rs) : OnlyInsts s t rs := by
  obtain ⟨hframe, hkept⟩ := h
  refine ⟨?_, hkept⟩
  rw [hframe]

theorem OnlyInsts.trans {rs : List Reg} (h : OnlyInsts s t rs) (h' : OnlyInsts t u rs) : OnlyInsts s u rs := by
  obtain ⟨hframe, hkept⟩ := h
  obtain ⟨hframe', hkept'⟩ := h'
  refine ⟨?_, hkept.trans hkept'⟩
  rw [hframe', hframe]

theorem OnlyInsts.mono {rs rs' : List Reg} (h : OnlyInsts s t rs) (hsub : ∀ q ∈ rs, q ∈ rs') : OnlyInsts s t rs' := by
  obtain ⟨hframe, hkept⟩ := h
  exact ⟨hframe, hkept.mono hsub⟩

theorem OnlyInsts.setInst {rs : List Reg} (h : OnlyInsts s t rs) (i : Nat) (y : Inst) : OnlyInsts s (t.setInst i y) rs := by
  obtain ⟨hframe, hkept⟩ := h
  refine ⟨?_, hkept⟩
  rw [hframe]
  rfl

theorem State.instMarked_only (s : State) (i : Nat) : OnlyInsts s (s.instMarked i) [⟨.INST_STAT, 0, i, 0⟩] :=
  .setInst (.of_regs (((OnlyRegs.refl s _).wf F.INST_STAT_EPOCH _ _ _ _ (.head _)).wf F.INST_STAT_BUSY _ _ _ _ (.head _))) i _

theorem State.epochsSet_inst (s : State) (i ep j : Nat) : (s.epochsSet i ep).inst j = s.inst j :=
  foldl_same (fun s : State => s.inst j) _ _ _ fun u d => by
    unfold State.inst
    rw [State.wf_insts]

/-- The registers that the reset of a coder without members writes. -/
def bareRegs (s : State) (i : Nat) : List Reg := ⟨.INST_STAT, 0, i, 0⟩ :: (0 :: s.fabDies).map fun d => ⟨.ENG_EPOCH, d, i, 0⟩

theorem State.marked_epochs_only (s : State) (i ep : Nat) : OnlyInsts s ((s.instMarked i).epochsSet i ep) (bareRegs s i) := by
  have hepochs := (s.instMarked i).epochsSet_only i ep
  rw [State.fabDies_kept ((s.instMarked_kept i).names (ns := [.INST_STAT]) (by simp)) (by decide)] at hepochs
  exact ((s.instMarked_only i).mono (by simp [bareRegs])).trans ((OnlyInsts.of_regs hepochs).mono fun _ hq => List.mem_cons_of_mem _ hq)

/-- A coder without contexts, channels and islands: only its own registers and the epoch copies change (R917). -/
theorem State.instReset_bare (hctxs : s.instCtxs i = []) (hchannels : s.instChannels i = []) (hislands : s.instIslands i = []) :
    (s.instReset i).inst i = ⟨[], s.now, false⟩ ∧ OnlyInsts s (s.instReset i) (bareRegs s i) := by
  let ep : Nat := (s.rf F.INST_STAT_EPOCH 0 i + 1) % 256
  have hnames : NamesKept s ((s.instMarked i).epochsSet i ep) [.INST_STAT, .ENG_EPOCH] :=
    (((s.instMarked_kept i).names (ns := [.INST_STAT]) (by simp)).mono (by simp)).trans (((s.instMarked i).epochsSet_names i ep).mono (by simp))
  have hreset : s.instReset i = (s.instMarked i).epochsSet i ep := by
    rw [State.instReset_eq, hctxs]
    unfold State.islandsReset State.channelsFlushed State.ctxsDiscarded
    rw [List.foldl_nil, State.instChannels_kept hnames (by decide) (by decide), hchannels, List.foldl_nil,
      State.instIslands_kept hnames (by decide) (by decide) (by decide), hislands, List.foldl_nil]
  rw [hreset, State.epochsSet_inst, State.instMarked_inst hctxs]
  exact ⟨rfl, s.marked_epochs_only i ep⟩

/-! ## Writes of INST_CTL -/

/-- A write of INST_CTL outside a reset stores WEIGHT, at least 1 (R924, R934). -/
theorem State.writeInstCtl_weight {w : Nat} (hbusy : s.rf F.INST_STAT_BUSY 0 i = 0) (hreset : bit w 47 = false) :
    s.writeInstCtl i w = s.wf F.INST_CTL_WEIGHT (max 1 (w % 16)) 0 i := by
  have hfree : s.rb F.INST_STAT_BUSY 0 i = false := State.rb_of_rf_zero hbusy
  unfold State.writeInstCtl
  dsimp only
  rw [hfree, hreset]
  unfold bits
  simp

/-- RESET written to a coder that is not busy resets it (R917). -/
theorem State.writeInstCtl_resets {w : Nat} (hbusy : s.rf F.INST_STAT_BUSY 0 i = 0) (hreset : bit w 47 = true) :
    s.writeInstCtl i w = ((s.wf F.INST_CTL_WEIGHT (max 1 (w % 16)) 0 i).wf F.INST_CTL_RESET 1 0 i).instReset i := by
  have hfree : s.rb F.INST_STAT_BUSY 0 i = false := State.rb_of_rf_zero hbusy
  unfold State.writeInstCtl
  dsimp only
  rw [hfree, hreset]
  unfold bits
  simp

/-- RESET written during a reset is noted (R924). -/
theorem State.writeInstCtl_noted {w : Nat} (hbusy : s.rf F.INST_STAT_BUSY 0 i = 1) (hreset : bit w 47 = true) :
    s.writeInstCtl i w = (s.wf F.INST_CTL_RESET 1 0 i).setInst i { s.inst i with again := true } := by
  have hfree : s.rb F.INST_STAT_BUSY 0 i = true := State.rb_of_rf_one hbusy
  have hinst : (s.wf F.INST_CTL_RESET 1 0 i).inst i = s.inst i := by unfold State.inst; rw [State.wf_insts]
  unfold State.writeInstCtl
  dsimp only
  rw [hfree, hreset, if_pos rfl, if_neg (by decide), if_pos rfl, hinst]

/-- A RESET noted changes nothing else (R924). -/
theorem State.writeInstCtl_again {w : Nat} (hbusy : s.rf F.INST_STAT_BUSY 0 i = 1) (hreset : bit w 47 = true) :
    (s.writeInstCtl i w).rf F.INST_CTL_RESET 0 i = 1 ∧ (s.writeInstCtl i w).rf F.INST_CTL_WEIGHT 0 i = s.rf F.INST_CTL_WEIGHT 0 i ∧
      (s.writeInstCtl i w).inst i = { s.inst i with again := true } ∧ OnlyInsts s (s.writeInstCtl i w) [⟨.INST_CTL, 0, i, 0⟩] := by
  rw [State.writeInstCtl_noted hbusy hreset]
  refine ⟨?_, ?_, State.inst_setInst .., .setInst (.of_regs ((OnlyRegs.refl s _).wf F.INST_CTL_RESET _ _ _ _ (.head _))) i _⟩
  · rw [State.setInst_rf]
    exact State.rf_wf_fits _ F.INST_CTL_RESET _ _ _ _ rfl (by decide)
  · rw [State.setInst_rf, State.rf_wf_apart _ _ _ _ _ _ _ _ _ _ rfl rfl]

/-- A reset of a coder without members (R917). -/
theorem State.writeInstCtl_bare {w : Nat} (hbusy : s.rf F.INST_STAT_BUSY 0 i = 0) (hreset : bit w 47 = true) (hctxs : s.instCtxs i = [])
    (hchannels : s.instChannels i = []) (hislands : s.instIslands i = []) :
    (s.writeInstCtl i w).inst i = ⟨[], s.now, false⟩ ∧ OnlyInsts s (s.writeInstCtl i w) (⟨.INST_CTL, 0, i, 0⟩ :: bareRegs s i) := by
  have honly := ((OnlyRegs.refl s [⟨.INST_CTL, 0, i, 0⟩]).wf F.INST_CTL_WEIGHT (max 1 (w % 16)) 0 i 0 (.head _)).wf
      F.INST_CTL_RESET 1 0 i 0 (.head _)
  rw [State.writeInstCtl_resets hbusy hreset]
  obtain ⟨u, hu⟩ : ∃ u, u = (s.wf F.INST_CTL_WEIGHT (max 1 (w % 16)) 0 i).wf F.INST_CTL_RESET 1 0 i := ⟨_, rfl⟩
  rw [← hu] at honly ⊢
  have hnames : NamesKept s u [.INST_CTL] := RegsKept.names honly.2 (by simp)
  obtain ⟨hinst, hbare⟩ := State.instReset_bare (s := u) (i := i)
    ((State.instCtxs_kept hnames (by decide) (by decide)).trans hctxs) ((State.instChannels_kept hnames (by decide) (by decide)).trans hchannels)
    ((State.instIslands_kept hnames (by decide) (by decide) (by decide)).trans hislands)
  unfold bareRegs at hbare ⊢
  rw [State.fabDies_kept hnames (by decide)] at hbare
  exact ⟨hinst.trans (by rw [State.now_kept hnames (by decide)]),
    ((OnlyInsts.of_regs honly).mono fun _ hq => List.mem_cons.mpr (.inl (List.mem_singleton.mp hq))).trans
      (hbare.mono fun _ hq => List.mem_cons_of_mem _ hq)⟩

theorem State.weight_fits (w : Nat) : max 1 (w % 16) < 2 ^ F.INST_CTL_WEIGHT.width :=
  (max_le (by decide) (Nat.le_of_lt_succ (Nat.mod_lt w (by decide))) : max 1 (w % 16) ≤ 15).trans_lt (by decide)

/-! ## Completion and memberships -/

/-- The coder's registers as its reset completes, before its event is raised (R917, R930). -/
def State.instCompleted (s : State) (i : Nat) : State :=
  State.ww ((s.wf F.INST_STAT_BUSY 0 0 i).incE F.INST_RESET_CNT_COUNT 0 i) .INST_RESET_NS
    ((((s.wf F.INST_STAT_BUSY 0 0 i).incE F.INST_RESET_CNT_COUNT 0 i).now + 2 ^ 48 - (s.inst i).began) % 2 ^ 48 % 2 ^ 32) 0 i

theorem State.instCompleted_only (s : State) (i : Nat) :
    OnlyRegs s (s.instCompleted i) [⟨.INST_STAT, 0, i, 0⟩, ⟨.INST_CTL, 0, i, 0⟩, ⟨.INST_RESET_CNT, 0, i, 0⟩, ⟨.INST_RESET_NS, 0, i, 0⟩] :=
  (((OnlyRegs.refl s _).wf F.INST_STAT_BUSY _ _ _ _ (.head _)).incE F.INST_RESET_CNT_COUNT _ _ _ _ (.tail _ (.tail _ (.head _)))).ww
    .INST_RESET_NS _ _ _ _ (.tail _ (.tail _ (.tail _ (.head _))))

theorem State.instCompleted_spec (hbegan : (s.inst i).began ≤ s.now) (hnow : s.now < 2 ^ 32)
    (hcount : s.rf F.INST_RESET_CNT_COUNT 0 i < 2 ^ 16 - 1) :
    (s.instCompleted i).rf F.INST_STAT_BUSY 0 i = 0 ∧
      (s.instCompleted i).rf F.INST_RESET_CNT_COUNT 0 i = s.rf F.INST_RESET_CNT_COUNT 0 i + 1 ∧
      (s.instCompleted i).rw .INST_RESET_NS 0 i = s.now - (s.inst i).began := by
  have hkept : RegsKept s ((s.wf F.INST_STAT_BUSY 0 0 i).incE F.INST_RESET_CNT_COUNT 0 i) [⟨.INST_STAT, 0, i, 0⟩, ⟨.INST_RESET_CNT, 0, i, 0⟩] :=
    ((RegsKept.refl s _).wf F.INST_STAT_BUSY _ _ _ _ (.head _)).incE F.INST_RESET_CNT_COUNT _ _ _ _ (.tail _ (.head _))
  have hcnt : (s.wf F.INST_STAT_BUSY 0 0 i).rf F.INST_RESET_CNT_COUNT 0 i = s.rf F.INST_RESET_CNT_COUNT 0 i :=
    State.rf_wf_apart _ _ _ _ _ _ _ _ _ _ rfl rfl
  unfold State.instCompleted
  rw [State.now_kept (hkept.names (ns := [.INST_STAT, .INST_RESET_CNT]) (by simp)) (by decide)]
  refine ⟨?_, ?_, ?_⟩
  · rw [State.rf_ww_name _ _ _ _ _ _ _ _ _ _ (by decide), State.rf_incE_name _ _ _ _ _ _ _ _ _ _ (by decide)]
    exact State.rf_wf_fits _ F.INST_STAT_BUSY _ _ _ _ rfl (by decide)
  · rw [State.rf_ww_name _ _ _ _ _ _ _ _ _ _ (by decide), State.rf_incE_same _ F.INST_RESET_CNT_COUNT _ _ _ _ rfl
      (by rw [hcnt]; exact Nat.lt_sub_iff_add_lt.mp hcount), hcnt]
  · rw [State.rw_ww_same]
    omega

/-- The reset's event raised, and RESET cleared (R931, R917). -/
theorem State.instFinished {rs : List Reg} (h : OnlyRegs s u rs) (hctl : (⟨.INST_CTL, 0, i, 0⟩ : Reg) ∈ rs) :
    ((u.raise .instanceReset 0 i).wf F.INST_CTL_RESET 0 0 i).rf F.INST_CTL_RESET 0 i = 0 ∧
      (∀ f : Fld, f.reg ≠ .INST_CTL → ((u.raise .instanceReset 0 i).wf F.INST_CTL_RESET 0 0 i).rf f 0 i = u.rf f 0 i) ∧
      ((u.raise .instanceReset 0 i).wf F.INST_CTL_RESET 0 0 i).rw .INST_RESET_NS 0 i = u.rw .INST_RESET_NS 0 i ∧
      ((u.raise .instanceReset 0 i).wf F.INST_CTL_RESET 0 0 i).faultLine = s.faultLine ++ [faultEv .instanceReset 0 i 0] ∧
      OnlyRegsEv s ((u.raise .instanceReset 0 i).wf F.INST_CTL_RESET 0 0 i) rs := by
  obtain ⟨⟨hframe, hkept⟩, hline⟩ := h.raise .instanceReset 0 i 0
  have hraised : ∀ f : Fld, (u.raise .instanceReset 0 i).rf f 0 i = u.rf f 0 i := fun _ => rfl
  have hns : (u.raise .instanceReset 0 i).rw .INST_RESET_NS 0 i = u.rw .INST_RESET_NS 0 i := rfl
  obtain ⟨v, hv⟩ : ∃ v, v = u.raise .instanceReset 0 i := ⟨_, rfl⟩
  rw [← hv] at hframe hkept hline hns ⊢
  simp only [← hv] at hraised
  obtain ⟨hwframe, hwkept⟩ := (OnlyRegs.refl v rs).wf F.INST_CTL_RESET 0 0 i 0 hctl
  refine ⟨State.rf_wf_fits _ F.INST_CTL_RESET _ _ _ _ rfl (by decide), fun f hf => ?_, ?_, ?_, ?_, hkept.trans hwkept⟩
  · exact ((RegsKept.refl v [⟨.INST_CTL, 0, i, 0⟩]).wf F.INST_CTL_RESET 0 0 i 0 (.head _) |>.rf f 0 i 0 (by simp [hf])).trans (hraised f)
  · rw [State.rw_wf_name _ _ _ _ _ _ _ _ _ _ (by decide), hns]
  · rw [hwframe, hline]
  · rw [hwframe, hframe]

/-- A reset of which every read is answered completes: counted, timed and raised (R917, R930, R931). -/
theorem execInstanceResetComplete_completes (hbusy : s.rf F.INST_STAT_BUSY 0 i = 1) (hwait : (s.inst i).wait = [])
    (hagain : (s.inst i).again = false) :
    execInstanceResetComplete i s = .next (((s.instCompleted i).raise .instanceReset 0 i).wf F.INST_CTL_RESET 0 0 i) := by
  have hdue : ¬((!s.rb F.INST_STAT_BUSY 0 i || !(s.inst i).wait.isEmpty) = true) := by
    rw [State.rb_of_rf_one hbusy, hwait]
    decide
  unfold execInstanceResetComplete State.instCompleted
  dsimp only
  rw [if_neg hdue, hagain, if_neg (by decide)]

/-- What is stored of a membership word (R898, R934). -/
theorem State.writeMembers_eq {k : Nat} (hbusy : s.rf F.INST_STAT_BUSY 0 i = 0) (hk : k < 4) (w : TWord) :
    s.writeMembers (memberReg k) i w.data.toNat =
      if (List.range 16).any (fun j => j != i && (s.rw (memberReg k) 0 j &&&
          (if k = 2 then w.data.toNat / 2 * 2 else if k = 0 then w.data.toNat else w.data.toNat % 65536)) != 0) = true
      then s.wf F.INST_STAT_ERR 1 0 i
      else s.ww (memberReg k) (if k = 2 then w.data.toNat / 2 * 2 else if k = 0 then w.data.toNat else w.data.toNat % 65536) 0 i := by
  have hfree : s.rb F.INST_STAT_BUSY 0 i = false := State.rb_of_rf_zero hbusy
  have hw : w.data.toNat % 2 ^ 48 = w.data.toNat := Nat.mod_eq_of_lt w.data.isLt
  unfold State.writeMembers
  rw [hfree]
  interval_cases k
  · simp only [memberReg, hw]
    rfl
  · rfl
  · simp only [memberReg, hw]
    rfl
  · rfl

theorem memberWord_lt (k : Nat) (w : TWord) :
    (if k = 2 then w.data.toNat / 2 * 2 else if k = 0 then w.data.toNat else w.data.toNat % 65536) < 2 ^ 48 := by
  have hw := w.data.isLt
  split_ifs <;> omega

end

/-- Settles O47: the reset by `State.instReset_spec`. -/
theorem instancesResetAndKeepTheirMembers : Obligations.InstancesResetAndKeepTheirMembers := by
  unfold Obligations.InstancesResetAndKeepTheirMembers
  refine ⟨?reset, ?bare, ?weight, ?again, ?complete, ?waits, ?stored, ?refused⟩
  case reset =>
    intro s i w htag hreset hbusy
    have hkept := ((RegsKept.refl s [⟨.INST_CTL, 0, i, 0⟩]).wf F.INST_CTL_WEIGHT (max 1 (w.data.toNat % 16)) 0 i 0 (.head _)).wf
      F.INST_CTL_RESET 1 0 i 0 (.head _)
    have hasked : ((s.wf F.INST_CTL_WEIGHT (max 1 (w.data.toNat % 16)) 0 i).wf F.INST_CTL_RESET 1 0 i).rf F.INST_CTL_RESET 0 i = 1 :=
      State.rf_wf_fits _ F.INST_CTL_RESET _ _ _ _ rfl (by decide)
    have hweight : ((s.wf F.INST_CTL_WEIGHT (max 1 (w.data.toNat % 16)) 0 i).wf F.INST_CTL_RESET 1 0 i).rf F.INST_CTL_WEIGHT 0 i =
        max 1 (w.data.toNat % 16) := by
      rw [State.rf_wf_apart _ _ _ _ _ _ _ _ _ _ rfl rfl]
      exact State.rf_wf_fits _ F.INST_CTL_WEIGHT _ _ _ _ rfl (State.weight_fits _)
    have hexec : exec (.instanceReset i w) s = .next (s.writeInstCtl i w.data.toNat) := congrArg Host.Outcome.next (if_pos htag)
    rw [State.writeInstCtl_resets hbusy hreset] at hexec
    generalize (s.wf F.INST_CTL_WEIGHT (max 1 (w.data.toNat % 16)) 0 i).wf F.INST_CTL_RESET 1 0 i = u at hkept hasked hweight hexec
    have hnames : NamesKept s u [.INST_CTL] := hkept.names (by simp)
    obtain ⟨hbusy', hepoch, hcopies, hstopped, hempty, hleft⟩ := u.instReset_spec i
    rw [hnames.rf _ _ _ _ (by decide)] at hepoch hcopies
    rw [State.fabDies_kept hnames (by decide)] at hcopies
    rw [State.instCtxs_kept hnames (by decide) (by decide)] at hstopped
    rw [State.instChannels_kept hnames (by decide) (by decide)] at hempty
    exact ⟨_, hexec, hbusy', (hleft.rf _ _ _ _ (by decide)).trans hasked, (hleft.rf _ _ _ _ (by decide)).trans hweight, hepoch, hcopies,
      hstopped, hempty⟩
  case bare =>
    intro s i w htag hreset hbusy hctxs hchannels hislands
    obtain ⟨hinst, hframe, hkept⟩ := State.writeInstCtl_bare hbusy hreset hctxs hchannels hislands
    exact ⟨_, congrArg Host.Outcome.next (if_pos htag), hinst, hframe, hkept⟩
  case weight =>
    intro s i w htag hreset hbusy
    exact ⟨_, congrArg Host.Outcome.next ((if_pos htag).trans (State.writeInstCtl_weight hbusy hreset)),
      State.rf_wf_fits _ F.INST_CTL_WEIGHT _ _ _ _ rfl (State.weight_fits _), State.rf_wf_apart _ _ _ _ _ _ _ _ _ _ rfl rfl,
      (OnlyRegs.refl s _).wf F.INST_CTL_WEIGHT _ _ _ _ (.head _)⟩
  case again =>
    intro s i w htag hreset hbusy
    obtain ⟨hasked, hweight, hinst, hframe, hkept⟩ := State.writeInstCtl_again (w := w.data.toNat) hbusy hreset
    exact ⟨_, congrArg Host.Outcome.next (if_pos htag), hasked, hweight, hinst, hframe, hkept⟩
  case complete =>
    intro s i hbusy hwait hagain hbegan hnow hcount
    obtain ⟨hbusy', hcount', hns⟩ := State.instCompleted_spec hbegan hnow hcount
    obtain ⟨hreset, hrf, hns', hline, hev⟩ := State.instFinished (s.instCompleted_only i) (.tail _ (.head _))
    exact ⟨_, execInstanceResetComplete_completes hbusy hwait hagain, (hrf _ (by decide)).trans hbusy', hreset, (hrf _ (by decide)).trans hcount',
      hns'.trans hns, hline, hev⟩
  case waits =>
    intro s i hwait
    refine ⟨s, congrArg Host.Outcome.next (if_pos ?_), rfl⟩
    rw [List.isEmpty_eq_false_iff.mpr hwait, Bool.not_false, Bool.or_true]
  case stored =>
    rintro s k i _ _ w htag hk hbusy rfl rfl hapart
    have hnone : ¬((List.range 16).any (fun j => j != i && (s.rw (memberReg k) 0 j &&&
        (if k = 2 then w.data.toNat / 2 * 2 else if k = 0 then w.data.toNat else w.data.toNat % 65536)) != 0) = true) := by
      rw [List.any_eq_true]
      rintro ⟨j, hj, h⟩
      simp only [Bool.and_eq_true, bne_iff_ne] at h
      exact h.2 (hapart j (List.mem_range.mp hj) h.1)
    exact ⟨_, congrArg Host.Outcome.next ((if_pos htag).trans ((State.writeMembers_eq hbusy hk w).trans (if_neg hnone))),
      (State.rw_ww_same ..).trans (Nat.mod_eq_of_lt (memberWord_lt k w)), (OnlyRegs.refl s _).ww _ _ _ _ _ (.head _)⟩
  case refused =>
    rintro s k i _ j _ w htag hk hbusy rfl rfl hj hne hclash
    have hany : (List.range 16).any (fun j => j != i && (s.rw (memberReg k) 0 j &&&
        (if k = 2 then w.data.toNat / 2 * 2 else if k = 0 then w.data.toNat else w.data.toNat % 65536)) != 0) = true :=
      List.any_eq_true.mpr ⟨j, List.mem_range.mpr hj, by simp only [Bool.and_eq_true, bne_iff_ne]; exact ⟨hne, hclash⟩⟩
    exact ⟨_, congrArg Host.Outcome.next ((if_pos htag).trans ((State.writeMembers_eq hbusy hk w).trans (if_pos hany))),
      State.rf_wf_fits _ F.INST_STAT_ERR _ _ _ _ rfl (by decide), (OnlyRegs.refl s _).wf F.INST_STAT_ERR _ _ _ _ (.head _)⟩

end Sys2Proof.Machine
end

section
/-!
SUPPORT. Joined devices: SYSTEM cells that are due, proof of the statement O51 and refutation of O50.
-/
namespace Sys2Proof.Machine

/-! ## The gateway of a head end -/

/-- A head end that follows link B, with link A up as well. -/
def twoLinkHeadEnd : State :=
  { ((State.reset.wf F.DEV_ROLE_ROLE 2 0).wf F.SL_STAT_STATE 2 0 0).wf F.SL_STAT_STATE 2 0 1 with follow := 2 }

/-- The words of a READ of one word at address 0x100 by master 1 of die 0. -/
def readWords : List TWord := [dataWord (2 ^ 32 + 2 ^ 20), dataWord 0x100]

/-- A whole GW_REQ from device 9 that carries this READ to `twoLinkHeadEnd`. -/
def readCell : Nat :=
  mkCell 0 3 0 0 false (2 ^ 196 + twoLinkHeadEnd.devNum % 512 * 2 ^ 179 + 9 * 2 ^ 170 + 3 * 2 ^ 162 + 2 * 2 ^ 160 + wordsBody readWords)

/-- The transaction of `readCell`. -/
def readTxn : Txn := ⟨.read, 0, 1, 0, 0x100, 1, 48, 0, [], .requests, 0⟩

/-- The request comes from the link that the head end does not follow: it is discarded (R25, log 164). -/
theorem twoLinkHeadEnd_discards : ∃ t, exec (.gwReq 0 readCell) twoLinkHeadEnd = .next t ∧ t.outst = [] := ⟨_, rfl, by decide +kernel⟩

/-- Refutes O50: its clause on a request for this device does not ask that a head end follows the link it came on. `twoLinkHeadEnd`
follows link B, and discards a READ that arrives on link A, where the clause says that it is issued. -/
theorem not_theGatewayCarriesTransactions : ¬ Obligations.TheGatewayCarriesTransactions := by
  unfold Obligations.TheGatewayCarriesTransactions
  rintro ⟨-, -, -, -, hreq, -⟩
  have hdue : twoLinkHeadEnd.cellDue 0 readCell = true := by decide +kernel
  have hkind : cellKind readCell = .system := by decide +kernel
  have hcode : cellBody readCell / 2 ^ 196 % 16 = 1 := by decide +kernel
  have hfirst : cellBody readCell / 2 ^ 163 % 2 = 1 := by decide +kernel
  have hlast : cellBody readCell / 2 ^ 162 % 2 = 1 := by decide +kernel
  have hdst : cellBody readCell / 2 ^ 179 % 512 = twoLinkHeadEnd.devNum % 512 := by decide +kernel
  have htxn : (⟨false, cellBody readCell / 2 ^ 188 % 256, cellBody readCell / 2 ^ 179 % 512, cellBody readCell / 2 ^ 170 % 512,
      cellBody readCell / 2 ^ 165 % 32, cellBody readCell / 2 ^ 164 % 2, 0,
      bodyWords (cellBody readCell / 2 ^ 160 % 4) (cellBody readCell)⟩ : GwItem).txn = some readTxn := by decide +kernel
  have htag : twoLinkHeadEnd.freeTag 0 8 = some 0 := by decide +kernel
  obtain ⟨t, u, ht, -, -, hissued, -⟩ := hreq twoLinkHeadEnd 0 readCell _ 0 _ _ readTxn hdue hkind (by decide) (by decide) rfl hcode
    hfirst hlast rfl rfl hdst rfl htxn rfl htag
  obtain ⟨v, hv, hnone⟩ := twoLinkHeadEnd_discards
  obtain rfl := Host.Outcome.next.inj (ht.symm.trans hv)
  rw [hnone] at hissued
  exact absurd hissued (by simp)

/-! ## SYSTEM cells -/

section
variable {s : State} {l x code : Nat}

/-- A SYSTEM cell that is due, and whose code its link may carry, is taken and acts (R675, R938). -/
theorem systemRow_due (hdue : s.cellDue l x = true) (hkind : cellKind x = .system) (hcode : cellBody x / 2 ^ 196 % 16 = code)
    (htwo : l = 2 → 3 < code) (hother : l ≠ 2 → code < 6) (act : Nat → State → State) :
    systemRow l x code s act = act (cellBody x) (s.tookCell l) := by
  unfold State.cellDue at hdue
  simp only [Bool.and_eq_true, beq_iff_eq] at hdue
  obtain ⟨⟨hup, hgood⟩, hseq⟩ := hdue
  have harrive : s.cellArrive l x = (true, s.tookCell l) := by
    unfold State.cellArrive State.tookCell
    simp [hup, hgood, hseq, hkind]
  have hsys : bits (cellBody x) 199 196 = code := hcode
  have hlink : ¬((l = 2 ∧ code ≤ 3) ∨ (l ≠ 2 ∧ 6 ≤ code)) := by omega
  unfold systemRow
  simp [harrive, hgood, hkind, hsys, hlink]

/-- A link whose cell is due is up. -/
theorem State.cellDue_up (hdue : s.cellDue l x = true) : s.linkUp l = true := by
  unfold State.cellDue at hdue
  simp only [Bool.and_eq_true] at hdue
  exact hdue.1.1

/-- What a SYSTEM cell body sent on an up link leaves. -/
theorem State.sysPush_up (hup : s.linkUp l = true) (body : Nat) :
    s.sysPush l body = s.setSl l { s.sl l with system := (s.sl l).system ++ [body] } := if_pos hup

/-- Beside a link that takes a cell the others stay as they are. -/
theorem State.tookCell_sl_ne {k : Nat} (h : k ≠ l) (s : State) : (s.tookCell l).sl k = s.sl k := State.sl_setSl_ne h _ _

theorem State.tookCell_sl_same (s : State) (l : Nat) : (s.tookCell l).sl l =
    { s.sl l with rxNext := ((s.sl l).rxNext + 1) % 4096, unacked := (s.sl l).unacked + 1, naks := 0, limited := false } :=
  State.sl_setSl_same _ _ _

/-! ## The exchange of times -/

/-- What the request of a time exchange leaves (R949). -/
def State.timeAsked (s : State) (l : Nat) : State :=
  ({ s with dup := { s.dup with syncSeq := (s.dup.syncSeq + 1) % 256, syncAt := s.now } } : State).setSl l
    { s.sl l with system := (s.sl l).system ++ [4 * 2 ^ 196 + s.dup.syncSeq * 2 ^ 188] }

theorem exec_timeSyncExchange_due (hlink : s.timeLink = some l) (hup : s.linkUp l = true)
    (hdue : 2 ^ s.rf F.JD_TIME_CTL_SYNC_EXP 0 * 1000000 ≤ (s.now + 2 ^ 48 - s.dup.syncAt) % 2 ^ 48) :
    exec .timeSyncExchange s = .next (s.timeAsked l) := by
  change execTimeSyncExchange s = _
  unfold execTimeSyncExchange
  simp only [hlink, hup, Bool.not_true, Bool.false_or, decide_eq_true_eq, Nat.not_lt.mpr hdue, if_false]
  exact congrArg Host.Outcome.next (if_pos hup)

/-- Before its period is over the follower does not ask. -/
theorem exec_timeSyncExchange_early (hearly : (s.now + 2 ^ 48 - s.dup.syncAt) % 2 ^ 48 < 1000000) :
    exec .timeSyncExchange s = .next s := by
  change execTimeSyncExchange s = _
  unfold execTimeSyncExchange
  cases s.timeLink with
  | none => rfl
  | some l =>
    have hperiod : (s.now + 2 ^ 48 - s.dup.syncAt) % 2 ^ 48 < 2 ^ s.rf F.JD_TIME_CTL_SYNC_EXP 0 * 1000000 :=
      lt_of_lt_of_le hearly (Nat.le_mul_of_pos_left _ (Nat.two_pow_pos _))
    exact congrArg Host.Outcome.next (if_pos (by rw [decide_eq_true hperiod, Bool.or_true]))

/-- The signed difference of times in the lower half of the range is their difference. -/
theorem timeDiff_low {a b : Nat} (ha : a < 2 ^ 47) (hb : b < 2 ^ 47) : timeDiff a b = (a : Int) - b := by
  unfold timeDiff
  dsimp only
  split_ifs <;> omega

/-- An even number is halved exactly, however an odd one is rounded. -/
theorem halfOf_even {x : Int} (h : x % 2 = 0) (up : Bool) : halfOf x up = x / 2 := by
  unfold halfOf
  rw [Int.fdiv_eq_ediv_of_nonneg _ (by decide), Int.fdiv_eq_ediv_of_nonneg _ (by decide)]
  cases up
  · rfl
  · simp only [if_true]
    omega

theorem sum_even {a z : Int} (h : (a - z) % 2 = 0) : (a + z) % 2 = 0 := by omega

theorem half_near {d : Int} (hlow : 0 ≤ d) (hhigh : d ≤ 40) : (d / 2).natAbs ≤ 20 := by omega

/-- What an exchange with link `l` leaves that gives offset `n` and delay `m`, and of which `k` offsets in a row were small (R950, R951). -/
def State.timeExchanged (s : State) (l n m k : Nat) : State :=
  let t := (s.choice.2.choice.2.ww .JD_TIME_OFS n 0).ww .JD_TIME_DLY m 0
  let t : State := { t with dup := { t.dup with syncs := mdel t.dup.syncs l, inLock := k } }
  if k = 16 then t.wf F.JD_TIME_STAT_LOCKED 1 0 else t

/-- An exchange whose offset is even, at least 0 and at most 20 ns, is over with exactly that offset and that delay. -/
theorem exec_timeResp_exchange {t1 : Nat} {a z : Int} (hdue : s.cellDue l x = true) (hkind : cellKind x = .system)
    (hcode : cellBody x / 2 ^ 196 % 16 = 5) (hsync : s.dup.syncs = [(l, (cellBody x / 2 ^ 188 % 256, t1))]) (hlink : s.timeLink = some l)
    (hout : timeDiff (bits (cellBody x) 163 116) t1 = a) (hback : timeDiff s.now (bits (cellBody x) 115 68) = z)
    (heven : (a - z) % 2 = 0) (hlow : 0 ≤ a - z) (hhigh : a - z ≤ 40) :
    exec (.timeResp l x) s = .next ((s.tookCell l).timeExchanged l ((a - z) / 2 % (2 ^ 48 : Int)).toNat ((a + z) / 2 % (2 ^ 48 : Int)).toNat
      (min 16 (s.dup.inLock + 1))) := by
  have hfind : ((s.tookCell l).dup.syncs.find? fun e => e.1 == l) = some (l, (cellBody x / 2 ^ 188 % 256, t1)) := by
    change (s.dup.syncs.find? fun e => e.1 == l) = _
    rw [hsync]
    simp
  have hseq : ¬((decide ((s.tookCell l).timeLink ≠ some l) || decide (cellBody x / 2 ^ 188 % 256 ≠ bits (cellBody x) 195 188)) = true) := by
    have hsame : (s.tookCell l).timeLink = some l := hlink
    rw [hsame]
    exact Bool.eq_false_iff.mp (Bool.or_eq_false_iff.mpr ⟨decide_eq_false (not_not.mpr rfl), decide_eq_false (not_not.mpr rfl)⟩)
  have hnow : timeDiff (s.tookCell l).now (bits (cellBody x) 115 68) = z := hback
  have hsmall := half_near hlow hhigh
  have hnear : ¬100 < ((a - z) / 2).natAbs := fun h => absurd (h.trans_le hsmall) (by decide)
  change execTimeResp l x s = _
  unfold execTimeResp
  rw [systemRow_due hdue hkind hcode (fun _ => by decide) (fun _ => by decide), hfind]
  dsimp only
  rw [if_neg hseq, hout, hnow, halfOf_even heven, halfOf_even (sum_even heven), if_neg hnear, if_pos hsmall]
  rfl

end

/-- What an exchange of times leaves. -/
theorem State.timeExchanged_spec (s : State) (l n m k : Nat) (hn : n < 2 ^ 48) (hm : m < 2 ^ 48) (t : State)
    (ht : s.timeExchanged l n m k = t) :
    t.rw .JD_TIME_OFS 0 = n ∧ t.rw .JD_TIME_DLY 0 = m ∧ t.dup = { s.dup with syncs := mdel s.dup.syncs l, inLock := k } ∧
      (k = 16 → t.rf F.JD_TIME_STAT_LOCKED 0 = 1) ∧ t = { s with regs := t.regs, dup := t.dup, freeCtr := t.freeCtr } ∧
      RegsKept s t [⟨.JD_TIME_OFS, 0, 0, 0⟩, ⟨.JD_TIME_DLY, 0, 0, 0⟩, ⟨.JD_TIME_STAT, 0, 0, 0⟩] := by
  have hofs : ((s.choice.2.choice.2.ww .JD_TIME_OFS n 0).ww .JD_TIME_DLY m 0).rw .JD_TIME_OFS 0 = n := by
    rw [State.rw_ww_name _ _ _ _ _ _ _ _ _ _ (by decide), State.rw_ww_same, Nat.mod_eq_of_lt hn]
  have hdly : ((s.choice.2.choice.2.ww .JD_TIME_OFS n 0).ww .JD_TIME_DLY m 0).rw .JD_TIME_DLY 0 = m := by
    rw [State.rw_ww_same, Nat.mod_eq_of_lt hm]
  have hkept := ((RegsKept.refl s [⟨.JD_TIME_OFS, 0, 0, 0⟩, ⟨.JD_TIME_DLY, 0, 0, 0⟩, ⟨.JD_TIME_STAT, 0, 0, 0⟩]).ww .JD_TIME_OFS n 0 0 0
    (.head _)).ww .JD_TIME_DLY m 0 0 0 (.tail _ (.head _))
  have hdup : ((s.choice.2.choice.2.ww .JD_TIME_OFS n 0).ww .JD_TIME_DLY m 0).dup = s.dup := by
    rw [State.ww_dup, State.ww_dup]
    rfl
  subst ht
  unfold State.timeExchanged
  dsimp only
  split
  · refine ⟨?_, ?_, ?_, fun _ => State.rf_wf_same _ F.JD_TIME_STAT_LOCKED _ _ _ _ rfl, rfl,
      RegsKept.wf hkept F.JD_TIME_STAT_LOCKED 1 0 0 0 (.tail _ (.tail _ (.head _)))⟩
    · exact (State.rw_wf_name _ _ _ _ _ _ _ _ _ _ (by decide)).trans hofs
    · exact (State.rw_wf_name _ _ _ _ _ _ _ _ _ _ (by decide)).trans hdly
    · rw [State.wf_dup]
      exact congrArg (fun x : Dup => { x with syncs := mdel x.syncs l, inLock := k }) hdup
  · refine ⟨hofs, hdly, ?_, fun h => absurd h ‹_›, rfl, hkept⟩
    exact congrArg (fun x : Dup => { x with syncs := mdel x.syncs l, inLock := k }) hdup

/-- Settles O51, from what each cell and the timer of the exchange leave. -/
theorem timeIsExchangedBetweenDevices : Obligations.TimeIsExchangedBetweenDevices := by
  unfold Obligations.TimeIsExchangedBetweenDevices
  refine ⟨?asks, ?early, ?request, ?response⟩
  case asks =>
    intro s l hlink hstate hat hnow hover
    have hup : s.linkUp l = true := beq_iff_eq.mpr hstate
    refine ⟨_, exec_timeSyncExchange_due hlink hup (by rwa [elapsed_mod hat (by omega)]), ?_, rfl,
      fun k hk => State.sl_setSl_ne hk _ _, rfl⟩
    rw [State.timeAsked, State.sl_setSl_same]
  case early =>
    intro s hat hearly
    exact ⟨s, exec_timeSyncExchange_early (by rwa [elapsed_mod hat (by omega)]), rfl⟩
  case request =>
    intro s l cell b hdue hkind hb hcode
    subst hb
    have hup : (s.tookCell l).linkUp l = true := State.cellDue_up (s := s) hdue
    refine ⟨_, congrArg Host.Outcome.next ((systemRow_due hdue hkind hcode (fun _ => by decide) (fun _ => by decide) _).trans (State.sysPush_up hup _)), ?_, ?_,
      fun k hk => ?_, rfl⟩
    · rw [State.sl_setSl_same, State.tookCell_sl_same]
      rfl
    · rw [State.sl_setSl_same, State.tookCell_sl_same]
    · rw [State.sl_setSl_ne hk, State.tookCell_sl_ne hk]
  case response =>
    intro s l cell b q t1 t2 t3 a z hdue hkind hb hcode hsync hlink hq ht2 ht3 ha hz h1 h2 h3 hnow heven hlow hhigh hsum
    subst hb hq ht2 ht3
    have hexec := exec_timeResp_exchange hdue hkind hcode hsync hlink ((timeDiff_low h2 h1).trans ha.symm) ((timeDiff_low hnow h3).trans hz.symm)
      heven hlow hhigh
    clear hcode h2 h3
    obtain ⟨t, ht⟩ : ∃ t, (s.tookCell l).timeExchanged l ((a - z) / 2 % (2 ^ 48 : Int)).toNat ((a + z) / 2 % (2 ^ 48 : Int)).toNat
      (min 16 (s.dup.inLock + 1)) = t := ⟨_, rfl⟩
    obtain ⟨hofs, hdly, hdup, hlock, hframe, hkept⟩ := State.timeExchanged_spec _ _ _ _ _ (by omega) (by omega) t ht
    have hlinks : ∀ k, t.sl k = (s.tookCell l).sl k := fun k => by rw [hframe]; rfl
    refine ⟨t, hexec.trans (congrArg Host.Outcome.next ht), ?_, ?_, ?_, ?_, fun hin => hlock (by omega), ?_,
      fun k hk => (hlinks k).trans (State.tookCell_sl_ne hk s), ?_, hkept⟩
    · rw [hofs]; omega
    · rw [hdly]; omega
    · rw [hdup]
      change mdel s.dup.syncs l = []
      rw [hsync]
      exact if_pos rfl
    · rw [hdup]
    · rw [hframe]; rfl
    · rw [hframe]; rfl

end Sys2Proof.Machine
end

section
/-!
SUPPORT. Resets, power and start-up: refutation of O5.
-/
namespace Sys2Proof.Machine

/-! ## A throttled die -/

/-- Island 0 of die 1 runs at code 100, which is also its floor. -/
def fastIsland : State :=
  ((State.reset.wf F.ISL_CLK_CTL_TARGET 100 1 0).wf F.ISL_CLK_CTL_FLOOR 100 1 0).wf F.ISL_CLK_STAT_FLOOR_EFF 100 1 0

/-- At 105 °C the die is throttled, and the floor in force follows (R1060). -/
theorem fastIsland_throttled : ∃ t, exec (.thermalSensorRead 1 [105]) fastIsland = .next t ∧ t.rf F.ISL_CLK_STAT_FLOOR_EFF 1 0 = 80 :=
  ⟨_, rfl, by decide +kernel⟩

/-- Refutes O5: its clause on sensor readings lets no register but THERM_DIE change. A reading that throttles die 1 of `fastIsland` lowers
the floor in force of its island 0. -/
theorem not_suppliesCoreVoltageAndTemperature : ¬ Obligations.SuppliesCoreVoltageAndTemperature := by
  unfold Obligations.SuppliesCoreVoltageAndTemperature
  rintro ⟨-, -, -, -, -, -, -, hread, -⟩
  obtain ⟨t, ht, -, -, -, -, hkept⟩ := hread fastIsland 1 105 [] (by decide +kernel)
  obtain ⟨u, hu, hfloor⟩ := fastIsland_throttled
  obtain rfl := Host.Outcome.next.inj (ht.symm.trans hu)
  have hsame : t.rf F.ISL_CLK_STAT_FLOOR_EFF 1 0 = fastIsland.rf F.ISL_CLK_STAT_FLOOR_EFF 1 0 := hkept.rf F.ISL_CLK_STAT_FLOOR_EFF 1 0 0 (by decide)
  rw [hfloor] at hsame
  exact absurd hsame (by decide +kernel)

end Sys2Proof.Machine
end

section
/-!
SUPPORT. Functions that leave the state of resets and power alone: those behind the start of the firmware, an island reset and a reply
of Caben. There is one rule per function, as for what every command keeps.
-/
namespace Sys2Proof.Machine

/-- From `s` to `t` the state of resets and power stays. -/
def RstKept (s t : State) : Prop := t.rst = s.rst

section
variable {s t : State}

theorem RstKept.refl (s : State) : RstKept s s := rfl

/-- An update of other parts. The fields stand one by one, for an application to find them by unification. -/
theorem RstKept.upd {a0 a1 a2 b0 b1 b2 b3 b4 b5 b6 b7 b8 b9 b10 b11 b12 b13 b14 b15 b16 b17 b18 b19 b20 b21 b22 b23 b24 b25 b26
    b27 b28 b29 b30 b31 b32 b33 b34 b35 b36 b37 b38 b39 b40 b41 b42 b43 b44 b45 b46 a3} (h : RstKept s t) :
    RstKept s ⟨a0, a1, a2, b0, b1, b2, b3, b4, b5, b6, b7, b8, b9, b10, b11, b12, b13, b14, b15, b16, b17, b18, b19, b20,
      b21, b22, b23, b24, b25, b26, b27, b28, b29, b30, b31, b32, b33, b34, b35, b36, b37, b38, b39, b40, b41, b42, b43,
      b44, b45, b46, t.rst, a3⟩ := h

theorem RstKept.setCell {die pa c} (h : RstKept s t) : RstKept s (t.setCell die pa c) := h.upd

theorem RstKept.ite {c : Prop} {i : Decidable c} {u : State} (h : RstKept s t) (g : RstKept s u) : RstKept s (if c then t else u) := by
  split
  · exact h
  · exact g

theorem RstKept.foldl {B : Type} {f : State → B → State} {l : List B} (h : RstKept s t) (hf : ∀ u b, RstKept s u → RstKept s (f u b)) :
    RstKept s (l.foldl f t) := foldl_keeps (RstKept s) f l t h hf

theorem RstKept.ite_snd {A : Type} {c : Prop} {i : Decidable c} {a b : A × State} (h : RstKept s a.2) (g : RstKept s b.2) :
    RstKept s (if c then a else b).2 := by
  split
  · exact h
  · exact g

theorem RstKept.foldl_snd {A B : Type} {f : A × State → B → A × State} {l : List B} {r : A × State} (h : RstKept s r.2)
    (hf : ∀ r b, RstKept s r.2 → RstKept s (f r b).2) : RstKept s (l.foldl f r).2 := foldl_keeps (fun r => RstKept s r.2) f l r h hf

theorem RstKept.setReg {r w} (h : RstKept s t) : RstKept s (t.setReg r w) := h.upd

theorem RstKept.wf {f v die i j} (h : RstKept s t) : RstKept s (t.wf f v die i j) := h.setReg

theorem RstKept.ww {n v die i j} (h : RstKept s t) : RstKept s (t.ww n v die i j) := h.setReg

theorem RstKept.incE {f die i j n} (h : RstKept s t) : RstKept s (t.incE f die i j n) := .ite h.wf.wf h.wf

theorem RstKept.free (h : RstKept s t) : RstKept s (t.free).2 := h.upd

theorem RstKept.raiseEv {e} (h : RstKept s t) : RstKept s (t.raiseEv e) := h.upd

theorem RstKept.raise {src die unit detail} (h : RstKept s t) : RstKept s (t.raise src die unit detail) := h.raiseEv

theorem RstKept.regRefuse {die cause isWrite loc} (h : RstKept s t) : RstKept s (t.regRefuse die cause isWrite loc) :=
  .ite (.ite h.incE h.ww) (.raise (.ite h.incE h.ww))

theorem RstKept.putWord {die pa w} (h : RstKept s t) : RstKept s (t.putWord die pa w) := h.setCell

theorem RstKept.setWbq {die a q} (h : RstKept s t) : RstKept s (t.setWbq die a q) := h.upd

theorem RstKept.storeWord {die pa w} (h : RstKept s t) : RstKept s (t.storeWord die pa w) :=
  .ite (.wf (.setCell (.ite h.setWbq h))) (.putWord (.ite h.setWbq h))

theorem RstKept.inject {x} (h : RstKept s t) : RstKept s (t.inject x) := h.upd

theorem RstKept.setIsland {d i x} (h : RstKept s t) : RstKept s (t.setIsland d i x) := h.upd

theorem RstKept.setEvt {d i p e} (h : RstKept s t) : RstKept s (t.setEvt d i p e) := h.upd

theorem RstKept.setChan {k c} (h : RstKept s t) : RstKept s (t.setChan k c) := h.upd

theorem RstKept.stopIssue {d i} (h : RstKept s t) : RstKept s (t.stopIssue d i) :=
  .foldl h fun _ _ hu => .ite hu (.ite hu hu.inject.upd)

theorem RstKept.setDio {d k x} (h : RstKept s t) : RstKept s (t.setDio d k x) := h.upd

theorem RstKept.dioInitAll {d i} (h : RstKept s t) : RstKept s (t.dioInitAll d i) := .foldl h fun _ _ hu => .ite hu.setDio hu

theorem RstKept.setBm {d i m b} (h : RstKept s t) : RstKept s (t.setBm d i m b) := h.upd

theorem RstKept.flushIn {d i p} (h : RstKept s t) : RstKept s (t.flushIn d i p) := by
  unfold State.flushIn
  split
  · exact h
  · exact .ite h.setChan h.setChan.incE

theorem RstKept.flushStop {d i p} (h : RstKept s t) : RstKept s (t.flushStop d i p) := .ite h.setChan.upd h.setChan.upd.incE

theorem RstKept.resetEvt {d i p} (h : RstKept s t) : RstKept s (t.resetEvt d i p) := h.setEvt

theorem RstKept.dropOffer {d i p} (h : RstKept s t) : RstKept s (t.dropOffer d i p) := h.setChan

theorem RstKept.resetChannels {d i} (h : RstKept s t) : RstKept s (t.resetChannels d i) :=
  .stopIssue (.upd (.foldl (.upd (.foldl (.foldl (.foldl h fun _ _ hu => hu.flushIn) fun _ _ hu => hu.dropOffer) fun _ _
      hu => hu.resetEvt)) fun _ _ hu => hu.flushStop))

theorem RstKept.initRegs {d i} (h : RstKept s t) : RstKept s (t.initRegs d i) := h.setIsland.dioInitAll

theorem RstKept.resetIsland {d i} (h : RstKept s t) : RstKept s (t.resetIsland d i) := by
  unfold State.resetIsland
  exact .resetChannels (.foldl h.setIsland.initRegs fun _ _ hu => hu.setBm)

theorem RstKept.setLane {n x} (h : RstKept s t) : RstKept s (t.setLane n x) := h.upd

theorem RstKept.macLinkDown {n} (h : RstKept s t) : RstKept s (t.macLinkDown n) := .ite h.wf h

theorem RstKept.pstate {n req} (h : RstKept s t) : RstKept s (t.pstate n req) :=
  .ite h.wf (.ite h.wf.setLane (.ite (.ite h.wf h.wf.wf) (.macLinkDown (.ite h.wf.wf.wf.wf h.wf.wf.wf))))

theorem RstKept.trainStart {n} (h : RstKept s t) : RstKept s (t.trainStart n) := .ite h.wf.setLane h.wf

theorem RstKept.bringLane {n} (h : RstKept s t) : RstKept s (t.bringLane n) := .ite h.pstate.trainStart h.pstate.wf.setLane

theorem RstKept.claimLane {n owner index rate} (h : RstKept s t) : RstKept s (t.claimLane n owner index rate).2 :=
  .ite_snd h h.wf.wf.wf.bringLane

theorem RstKept.releaseLane {n} (h : RstKept s t) : RstKept s (t.releaseLane n) := h.pstate.setLane.wf.wf.wf

theorem RstKept.setSl {l x} (h : RstKept s t) : RstKept s (t.setSl l x) := h.upd

theorem RstKept.setSc {c x} (h : RstKept s t) : RstKept s (t.setSc c x) := h.upd

theorem RstKept.releaseLanes {l} (h : RstKept s t) : RstKept s (t.releaseLanes l) := .foldl h fun _ _ hu => .ite hu.releaseLane hu

theorem RstKept.dropLanes {l} (h : RstKept s t) : RstKept s (t.dropLanes l) := .foldl h fun _ _ hu => .ite hu.releaseLane hu

theorem RstKept.claimLanes {l} (h : RstKept s t) : RstKept s (t.claimLanes l).2 := by
  unfold State.claimLanes
  refine .ite_snd h.dropLanes ?_
  extract_lets
  split
  · exact .foldl_snd h.dropLanes fun _ _ hu => .ite_snd hu hu.claimLane
  · exact h.dropLanes.releaseLanes.raise

theorem RstKept.bringUp {l} (h : RstKept s t) : RstKept s (t.bringUp l) := by
  unfold State.bringUp
  refine .ite h ?_
  refine .ite (.wf (.wf (.wf (.wf (.wf (.setSl (.foldl h.claimLanes fun _ _ hu => hu.bringLane))))))) ?_
  exact h.claimLanes.wf

theorem RstKept.msg {c msg fields} (h : RstKept s t) : RstKept s (t.msg c msg fields) := h.setSc

theorem RstKept.openRefused {c cause} (h : RstKept s t) : RstKept s (t.openRefused c cause) := h.wf.wf.wf.raise

theorem RstKept.txPut {c w} (h : RstKept s t) : RstKept s (t.txPut c w) := h.storeWord.setSc

theorem RstKept.txWords {c addr ws} (h : RstKept s t) : RstKept s (t.txWords c addr ws) := by
  unfold State.txWords
  extract_lets u1
  have h1 : RstKept s u1 := .foldl h fun _ _ hu => .ite hu hu.regRefuse
  exact .ite h1 (.ite (.foldl h1 fun _ _ hu => hu.txPut) (.ite h1.incE h1.incE.raise))

theorem RstKept.writeTxOpen {c} (h : RstKept s t) : RstKept s (t.writeTxOpen c) :=
  .ite h.wf.raise (.ite h (.ite h.openRefused (.ite h.openRefused h.wf.wf.setSc.msg)))

theorem RstKept.txEmpty {c} (h : RstKept s t) : RstKept s (t.txEmpty c) := .ite h.setSc h

theorem RstKept.enableHalf {c tx v} (h : RstKept s t) : RstKept s (t.enableHalf c tx v) := .ite h (.ite h.wf (.ite h.wf.txEmpty h.wf))

theorem RstKept.roleBringUp {l} (h : RstKept s t) : RstKept s (t.roleBringUp l) := .ite (.ite h.wf.bringUp h.wf) h

theorem RstKept.setCab {c} (h : RstKept s t) : RstKept s (t.setCab c) := h.upd

theorem RstKept.setCfg {c} (h : RstKept s t) : RstKept s (t.setCfg c) := h.upd

theorem RstKept.udpSend {peer pkt} (h : RstKept s t) : RstKept s (t.udpSend peer pkt) :=
  .ite h.setCab (by split; exacts [h, .ite h.setCab.wf.raise h.setCab])

theorem RstKept.saPump (h : RstKept s t) : RstKept s (t.saPump) := by
  unfold State.saPump
  split
  · exact h
  · exact .ite h.setCab.txWords h

theorem RstKept.cabSend {tr peer pkt} (h : RstKept s t) : RstKept s (t.cabSend tr peer pkt) := by
  unfold State.cabSend
  split
  · exact h.setCab
  · split
    · exact .ite h.udpSend h
    · exact h
  · exact h.setCab.saPump
  · exact h

theorem RstKept.cabKeep {tr tag pkt} (h : RstKept s t) : RstKept s (t.cabKeep tr tag pkt) := h.setCab

theorem RstKept.cabAnswer {tr tag op peer status detail data} (h : RstKept s t) :
    RstKept s (t.cabAnswer tr tag op peer status detail data) := .ite h.cabSend.cabKeep.incE h.cabSend.cabKeep

theorem RstKept.cabFinish {p status detail data} (h : RstKept s t) : RstKept s (t.cabFinish p status detail data) :=
  .ite h.setCab h.setCab.cabAnswer

theorem RstKept.flashProgram {a bs} (h : RstKept s t) : RstKept s (t.flashProgram a bs) := h.setCfg

theorem RstKept.flashErase {a} (h : RstKept s t) : RstKept s (t.flashErase a) := h.setCfg

theorem RstKept.setErase {i n} (h : RstKept s t) : RstKept s (t.setErase i n) := .ite h.setCfg.wf h.setCfg

theorem RstKept.retireFull {i} (h : RstKept s t) : RstKept s (t.retireFull i) := .ite h.wf.raise h

theorem RstKept.journalPut {ty slot addr crc} (h : RstKept s t) : RstKept s (t.journalPut ty slot addr crc) := h.flashProgram.setCfg

theorem RstKept.journalSector (h : RstKept s t) : RstKept s (t.journalSector) :=
  .foldl (.ite (.ite h.flashErase.setErase.retireFull h.flashErase) h) fun _ _ hu => hu.journalPut

theorem RstKept.journal {ty addr crc} (h : RstKept s t) : RstKept s (t.journal ty addr crc) := by
  unfold State.journal
  extract_lets _ u1 u2
  have h1 : RstKept s u1 := .ite h.setCfg h
  have h2 : RstKept s u2 := .ite h1.journalSector h1
  exact .ite h1 (.ite h2.journalPut h2.free.journalPut)

theorem RstKept.rebuildCounts (h : RstKept s t) : RstKept s (t.rebuildCounts) :=
  .foldl h fun _ _ hu => .ite hu.setErase (.ite (.ite hu.setErase hu) hu)

theorem RstKept.eraseBegin {a} (h : RstKept s t) : RstKept s (t.eraseBegin a) := .ite h.journal.setErase h.journal

theorem RstKept.journalResolve (h : RstKept s t) : RstKept s (t.journalResolve) := by
  unfold State.journalResolve
  split
  · exact h
  · refine .ite (.ite h.journal (.ite h.flashProgram.journal.raise (.ite h h.flashProgram.journal.raise))) ?_
    exact .ite h h.eraseBegin.flashErase.journal.retireFull

theorem RstKept.softView (h : RstKept s t) : RstKept s (t.softView) := .ite h.wf h

theorem RstKept.openCh0 (h : RstKept s t) : RstKept s (t.openCh0) := by
  unfold State.openCh0
  extract_lets _ u1 _ u2
  have h1 : RstKept s u1 := .ite h.wf.wf.wf.wf h
  have h2 : RstKept s u2 := h1.enableHalf.enableHalf
  exact .ite h (.ite h1 (.ite h2.writeTxOpen h2))

theorem RstKept.applyRepair {e} (h : RstKept s t) : RstKept s (t.applyRepair e) := by
  unfold State.applyRepair
  extract_lets
  split
  exact .ite (.foldl h fun _ _ hu => hu.setCell) (.foldl h fun _ _ hu => hu.setCell)

theorem RstKept.softRepair (h : RstKept s t) : RstKept s (t.softRepair) :=
  .softView (.wf (.foldl (.ite h.setCfg.raise h.setCfg) fun _ _ hu => .ite hu.applyRepair.setCfg.wf hu.wf.raiseEv))

theorem RstKept.nvSettings (h : RstKept s t) : RstKept s (t.nvSettings) := by
  unfold State.nvSettings
  split
  · exact h
  · exact h.wf.wf.ww

theorem RstKept.openRoleLinks (h : RstKept s t) : RstKept s (t.openRoleLinks) := h.roleBringUp.roleBringUp.roleBringUp

end

end Sys2Proof.Machine
end

section
/-!
SUPPORT. Resets: what they leave, and proofs of the statements O1 and O2.
-/
namespace Sys2Proof.Machine

/-! ## Registers of some names -/

/-- From `s` to `t` nothing changes but registers of the names `ns`. -/
def OnlyNames (s t : State) (ns : List RegName) : Prop := t = { s with regs := t.regs } ∧ NamesKept s t ns

section
variable {s t u : State} {ns : List RegName}

theorem OnlyNames.refl (s : State) (ns : List RegName) : OnlyNames s s ns := ⟨rfl, fun _ _ => rfl⟩

theorem OnlyNames.of_regs {rs : List Reg} (h : OnlyRegs s t rs) (hsub : ∀ r ∈ rs, r.name ∈ ns) : OnlyNames s t ns :=
  ⟨h.1, h.2.names hsub⟩

theorem OnlyNames.trans (h : OnlyNames s t ns) (h' : OnlyNames t u ns) : OnlyNames s u ns := by
  refine ⟨?_, h.2.trans h'.2⟩
  rw [h'.1, h.1]

theorem OnlyNames.mono {ns' : List RegName} (h : OnlyNames s t ns) (hsub : ∀ n ∈ ns, n ∈ ns') : OnlyNames s t ns' :=
  ⟨h.1, h.2.mono hsub⟩

theorem OnlyNames.wf (h : OnlyNames s t ns) (f : Fld) (v d i j : Nat) (hf : f.reg ∈ ns) : OnlyNames s (t.wf f v d i j) ns :=
  h.trans (.of_regs ((OnlyRegs.refl t [⟨f.reg, d, i, j⟩]).wf f v d i j (.head _)) (by simpa using hf))

theorem OnlyNames.ww (h : OnlyNames s t ns) (n : RegName) (v d i j : Nat) (hn : n ∈ ns) : OnlyNames s (t.ww n v d i j) ns :=
  h.trans (.of_regs ((OnlyRegs.refl t [⟨n, d, i, j⟩]).ww n v d i j (.head _)) (by simpa using hn))

theorem OnlyNames.incE (h : OnlyNames s t ns) (f : Fld) (d i j n : Nat) (hf : f.reg ∈ ns) : OnlyNames s (t.incE f d i j n) ns :=
  h.trans (.of_regs ((OnlyRegs.refl t [⟨f.reg, d, i, j⟩]).incE f d i j n (.head _)) (by simpa using hf))

theorem OnlyNames.ite {c : Prop} {_ : Decidable c} (ht : OnlyNames s t ns) (hu : OnlyNames s u ns) : OnlyNames s (if c then t else u) ns := by
  split
  · exact ht
  · exact hu

theorem OnlyNames.foldl {B : Type} {f : State → B → State} {l : List B} (h : OnlyNames s t ns)
    (hf : ∀ u b, OnlyNames s u ns → OnlyNames s (f u b) ns) : OnlyNames s (l.foldl f t) ns := foldl_keeps (OnlyNames s · ns) f l t h hf

theorem OnlyNames.rf (h : OnlyNames s t ns) (f : Fld) (d i j : Nat) (hf : f.reg ∉ ns) : t.rf f d i j = s.rf f d i j :=
  h.2.rf f d i j hf

end

/-! ## Requests -/

section
variable {s : State}

/-- What a request for a device reset leaves (R1037, R1065). -/
theorem State.askReset_free (hreset : s.rst.inReset = false) (hpor : s.rst.por = false) (c : Nat) :
    s.askReset c = { s with rst := { s.rst with devReq := some (min (s.rst.devReq.getD c) c) } } := by
  unfold State.askReset
  rw [hreset, hpor]
  cases hreq : s.rst.devReq with
  | none => simp
  | some d => simp

theorem rstCtl_apart : fieldsApart (regDesc .RST_CTL 0).fields := by
  unfold fieldsApart
  decide

/-- Each field of a register with no behaviour of its own is stored by its access code (R76). -/
theorem State.plainWrite_field (s : State) (r : Reg) (w : Nat) (hapart : fieldsApart (regDesc r.name r.i).fields) (fd : FieldDesc)
    (hfd : fd ∈ (regDesc r.name r.i).fields) : fd.fld.get ((s.plainWrite r w).reg r) = writeField fd (s.reg r) w := by
  unfold State.plainWrite
  rw [State.setReg_reg_same, storeFields_nil]
  exact get_foldl_storeField _ _ _ _ hapart fd hfd

/-- A bit with access code W1S takes what it is or what is written to it. -/
theorem writeField_w1s (f : Fld) (k : Nat) (hf : f.hi = k ∧ f.lo = k) (old : Word) (w : Nat) :
    writeField ⟨f, .w1s, 0⟩ old w = if bit w k = true then 1 else f.get old := by
  obtain ⟨hhi, hlo⟩ := hf
  have hold : f.get old < 2 := by
    have h := f.get_lt old
    rwa [Fld.width, hhi, hlo, Nat.add_sub_cancel_left] at h
  change f.get old ||| bits w f.hi f.lo = _
  rw [hhi, hlo, ← b2n_bit]
  cases bit w k with
  | true => interval_cases f.get old <;> rfl
  | false => exact Nat.or_zero _

theorem OnlyRegs.plainWrite (s : State) (r : Reg) (w : Nat) (acts : List HwAct) : OnlyRegs s (s.plainWrite r w acts) [r] :=
  (OnlyRegs.refl s _).setReg r _ (.head _)

/-- The fields of RST_CTL after a write (R1074). -/
theorem State.plainWrite_rstCtl (s : State) (w : Nat) :
    (s.plainWrite (reg0 .RST_CTL) w).rf F.RST_CTL_DEV_RESET 0 = (if bit w 47 = true then 1 else s.rf F.RST_CTL_DEV_RESET 0) ∧
    (s.plainWrite (reg0 .RST_CTL) w).rf F.RST_CTL_FW_RESTART 0 = (if bit w 46 = true then 1 else s.rf F.RST_CTL_FW_RESTART 0) ∧
    (s.plainWrite (reg0 .RST_CTL) w).rf F.RST_CTL_DEV_RELOAD 0 = bits w 45 45 ∧
    (s.plainWrite (reg0 .RST_CTL) w).rf F.RST_CTL_AUTO_RESTART 0 = bits w 44 44 := by
  have hfield := s.plainWrite_field (reg0 .RST_CTL) w rstCtl_apart
  exact ⟨(hfield ⟨F.RST_CTL_DEV_RESET, .w1s, 0⟩ (by decide)).trans (writeField_w1s _ 47 ⟨rfl, rfl⟩ _ _),
    (hfield ⟨F.RST_CTL_FW_RESTART, .w1s, 0⟩ (by decide)).trans (writeField_w1s _ 46 ⟨rfl, rfl⟩ _ _),
    hfield ⟨F.RST_CTL_DEV_RELOAD, .rw, 0⟩ (by decide), hfield ⟨F.RST_CTL_AUTO_RESTART, .rw, 0⟩ (by decide)⟩

/-- A write of RST_CTL that asks for a device reset only (R1037, R1074). -/
theorem State.writeRstCtl_device (hreset : s.rst.inReset = false) (hpor : s.rst.por = false) {w : Nat} (hdev : bit w 47 = true)
    (hfw : bit w 46 = false) (acts : List HwAct) : s.writeRstCtl w acts =
      { s.plainWrite (reg0 .RST_CTL) w acts with rst := { s.rst with devReq := some (min (s.rst.devReq.getD 5) 5) } } := by
  unfold State.writeRstCtl
  dsimp only
  rw [hfw, Bool.false_and, if_neg Bool.false_ne_true, if_pos hdev]
  exact State.askReset_free (s := s.plainWrite (reg0 .RST_CTL) w acts) hreset hpor 5

/-- A write of RST_CTL that asks for a Maltster restart only (R1041, R1074). -/
theorem State.writeRstCtl_firmware (hreset : s.rst.inReset = false) {w : Nat} (hdev : bit w 47 = false) (hfw : bit w 46 = true)
    (acts : List HwAct) : s.writeRstCtl w acts =
      { s.plainWrite (reg0 .RST_CTL) w acts with rst := { s.rst with fwReq := true, skip := false, expiries := [] } } := by
  have hrun : (bit w 46 && !(s.plainWrite (reg0 .RST_CTL) w acts).rst.inReset) = true := by
    rw [hfw]
    exact congrArg (!·) hreset
  unfold State.writeRstCtl
  dsimp only
  rw [hdev, if_neg Bool.false_ne_true]
  exact if_pos hrun

/-- A kick of the watchdog (R1048, R1076). -/
theorem State.writeWdog_kick {w : Nat} (hkick : bit w 47 = true) :
    (s.writeWdog w).rst = { s.rst with kickAt := s.now } ∧ (s.writeWdog w).rf F.WDOG_CTL_EN 0 = bits w 46 46 ∧
      (s.writeWdog w).rf F.WDOG_CTL_TIMEOUT_MS 0 = min 1000 (max 10 (bits w 15 0)) ∧
      s.writeWdog w = { s with regs := (s.writeWdog w).regs, rst := (s.writeWdog w).rst } ∧
      RegsKept s (s.writeWdog w) [reg0 .WDOG_CTL] := by
  obtain ⟨u, hu⟩ : ∃ u, u = (s.wf F.WDOG_CTL_EN (bits w 46 46) 0).wf F.WDOG_CTL_TIMEOUT_MS (min 1000 (max 10 (bits w 15 0))) 0 := ⟨_, rfl⟩
  have honly : OnlyRegs s u [reg0 .WDOG_CTL] := hu ▸ ((OnlyRegs.refl s _).wf F.WDOG_CTL_EN _ 0 0 0 (.head _)).wf F.WDOG_CTL_TIMEOUT_MS _ 0 0 0 (.head _)
  have hen : u.rf F.WDOG_CTL_EN 0 = bits w 46 46 := by
    rw [hu, State.rf_wf_apart _ _ _ _ _ _ _ _ _ _ rfl rfl]
    exact State.rf_wf_fits _ F.WDOG_CTL_EN _ _ _ _ rfl (bits_lt w 46 46)
  have hlimit : min 1000 (max 10 (bits w 15 0)) < 2 ^ F.WDOG_CTL_TIMEOUT_MS.width := (min_le_left _ _).trans_lt (by decide)
  have htime : u.rf F.WDOG_CTL_TIMEOUT_MS 0 = min 1000 (max 10 (bits w 15 0)) := by
    rw [hu]
    exact State.rf_wf_fits _ F.WDOG_CTL_TIMEOUT_MS _ _ _ _ rfl hlimit
  have hnow : u.now = s.now := State.now_kept (honly.2.names (ns := [.WDOG_CTL]) (by decide)) (by decide)
  have hrst : u.rst = s.rst := by rw [honly.1]
  have hwrite : s.writeWdog w = u.setRst { s.rst with kickAt := s.now } := by
    unfold State.writeWdog
    dsimp only
    rw [hkick, Bool.true_or, if_pos rfl, ← hu, hrst, hnow]
  rw [hwrite]
  exact ⟨rfl, hen, htime, by rw [honly.1]; rfl, honly.2⟩

end

/-! ## The device reset -/

theorem State.cyclesFromNow_frame (s : State) : ∃ m, s.cyclesFromNow = { s with cores := m } := by
  refine foldl_keeps (fun t : State => ∃ m, t = { s with cores := m }) _ _ s ⟨_, rfl⟩ fun t d ht => ?_
  refine foldl_keeps (fun t : State => ∃ m, t = { s with cores := m }) _ _ t ht fun u c hu => ?_
  obtain ⟨m, rfl⟩ := hu
  exact ⟨_, rfl⟩

/-- A core that is as new but for the time since which it counts cycles stays so. -/
theorem State.cyclesFromNow_core (s : State) (hnew : ∀ d c, s.core d c = { Core.init with since := (s.core d c).since }) (d c : Nat) :
    s.cyclesFromNow.core d c = { Core.init with since := (s.cyclesFromNow.core d c).since } := by
  revert d c
  refine foldl_keeps (fun t : State => ∀ d c, t.core d c = { Core.init with since := (t.core d c).since }) _ _ s hnew fun t e ht => ?_
  refine foldl_keeps (fun t : State => ∀ d c, t.core d c = { Core.init with since := (t.core d c).since }) _ _ t ht fun u k hu => ?_
  intro d c
  by_cases hkey : key2 d c = key2 e k
  · have hcore : (u.setCore e k { u.core e k with since := u.now }).core d c = { u.core e k with since := u.now } := by
      unfold State.core State.setCore
      rw [hkey]
      exact mget_mset_same _ _ _ _
    rw [hcore, hu e k]
  · have hcore : (u.setCore e k { u.core e k with since := u.now }).core d c = u.core d c := mget_mset_ne _ _ _ _ _ _ hkey
    rw [hcore]
    exact hu d c

theorem State.macLatReset_only (s : State) : OnlyNames s s.macLatReset [.MAC_LAT, .MAC_STATION] :=
  (OnlyNames.refl s _).foldl fun _ _ hu => (hu.ww .MAC_LAT _ _ _ _ (.head _)).ww .MAC_STATION _ _ _ _ (.tail _ (.head _))

theorem State.joining_only (s : State) : OnlyNames s s.joining [.DUP_STAT] :=
  .ite ((OnlyNames.refl s _).wf F.DUP_STAT_STATE _ _ _ _ (.head _)) (.refl s _)

/-- The fault manager cleared: its sources, and the shadows. -/
theorem State.fmReset_only (s : State) : ∃ u, OnlyNames s u [.FM_SRC_STAT] ∧ s.fmReset = { u with shadows := [] } :=
  ⟨_, (OnlyNames.refl s _).foldl fun u k hu => hu.trans (.of_regs (u.fmClear_only (k + 1)) (by simp)), rfl⟩

/-- What a device reset stops before its blocks are reset (R1039). -/
def State.stopped (s : State) : State :=
  let s := (s.safeState.wf F.DEV_ROLE_CTL_ACTIVE 0 0).programDone.opCut
  let s := match s.cfg.load with | some l => s.undoLoad l | none => s
  ((s.dramReset 0).dramReset 1).enginesReset

/-- The registers in which a device reset of cause `c` is noted, and its requests answered (R1039, R1065). -/
def State.resetFields (s : State) (c : Nat) : State :=
  let s := ((s.wf F.RST_STAT_STATE 2 0).wf F.RST_STAT_LINE_READY 0 0).wf F.RST_STAT_LAST_CAUSE c 0
  ((s.wf F.RST_STAT_FW_BROKEN 0 0).wf F.RST_CTL_DEV_RESET 0 0).wf F.RST_CTL_FW_RESTART 0 0

/-- Whether a device reset of cause `c` reloads the configuration (R1042). -/
def State.reloads (s : State) (c : Nat) : Bool := s.rb F.RST_CTL_DEV_RELOAD 0 || s.cfg.load.isSome || c == 6

/-- The state of resets and power after a device reset. -/
def Rst.afterReset (r : Rst) (reload : Bool) : Rst :=
  { r with
    devReq := none, fwReq := false, inReset := true, reload := reload, phase := 2, shutdown := false, hold := none, skip := false
    expiries := [], coolAt := none }

/-- The fault manager as a device reset clears it (R1039). -/
def State.fmCleared (s : State) : State :=
  let s := s.fmReset
  s.setFm { s.fm with shut := [] }

/-- A device reset noted and its requests answered (R1039, R1065). -/
def State.resetNoted (s : State) (c : Nat) (reload : Bool) : State :=
  let s := s.resetFields c
  (s.incE F.RST_CNT_COUNT 0).setRst (s.rst.afterReset reload)

theorem State.deviceReset_eq (s : State) (c : Nat) :
    s.deviceReset c = (s.stopped.blocksReset (s.reloads c)).fmCleared.resetNoted c (s.reloads c) := by
  unfold State.deviceReset State.fmCleared State.resetNoted State.resetFields State.stopped State.reloads Rst.afterReset
  rfl

/-- A register that a device reset does not keep has its reset value. -/
theorem State.reg_keepRegs (s : State) (q : Reg) (hq : q.name ∉ keptRegs) (hctl : q.name ≠ .TB_CTL) (hstat : q.name ≠ .TB_STAT) :
    s.keepRegs.reg q = resetWord q.name q.i := by
  have hname : keyName q.key = q.name.ctorIdx := by
    unfold keyName Reg.key key4
    rw [Nat.unpair_pair, Nat.unpair_pair]
  have hout : (keptRegs.map RegName.ctorIdx).contains (keyName q.key) = false := by
    rw [hname, Bool.eq_false_iff]
    intro hin
    obtain ⟨n, hn, hidx⟩ := List.mem_map.mp (List.contains_iff_mem.mp hin)
    exact hq (RegName.ctorIdx_inj hidx ▸ hn)
  have hset : OnlyNames { s with regs := s.regs.filter fun e => (keptRegs.map RegName.ctorIdx).contains (keyName e.1) } s.keepRegs
      [.TB_CTL, .TB_STAT] :=
    (((OnlyNames.refl _ _).wf F.TB_CTL_SLEW_DIV _ _ _ _ (by decide)).wf F.TB_STAT_HOLDOVER _ _ _ _ (by decide)).wf F.TB_STAT_REPLICA_OK _ _ _ _
      (by decide)
  rw [hset.2 q (by simp [hctl, hstat])]
  unfold State.reg
  exact (mget_filter_key s.regs (fun k => (keptRegs.map RegName.ctorIdx).contains (keyName k)) q.key _).trans (if_neg (Bool.eq_false_iff.mp hout))

/-- What the blocks that a device reset resets hold then. -/
theorem State.blocksReset_spec (s : State) (reload : Bool) (t : State) (ht : s.blocksReset reload = t) :
    t.inFlight = [] ∧ t.outst = [] ∧ t.resps = [] ∧ t.cab = Cab.init ∧ t.cfg.load = none ∧
      (∀ d c, t.core d c = { Core.init with since := (t.core d c).since }) ∧ ∀ d c, t.reg ⟨.SEQ_SR, d, c, 4⟩ = 0 := by
  obtain ⟨v, hblocks, hregs, hcores, hin, hout, hresp, hcab, hload⟩ : ∃ v : State, s.blocksReset reload = v.cyclesFromNow.macLatReset.joining ∧
      v.regs = s.keepRegs.regs ∧ v.cores = [] ∧ v.inFlight = [] ∧ v.outst = [] ∧ v.resps = [] ∧ v.cab = Cab.init ∧ v.cfg.load = none :=
    ⟨_, rfl, rfl, rfl, rfl, rfl, rfl, rfl, rfl⟩
  obtain ⟨m, hcycles⟩ := v.cyclesFromNow_frame
  have hnew := v.cyclesFromNow_core fun d c => by unfold State.core; rw [hcores]; rfl
  have honly : OnlyNames v.cyclesFromNow t [.MAC_LAT, .MAC_STATION, .DUP_STAT] := by
    rw [← ht, hblocks]
    exact (v.cyclesFromNow.macLatReset_only.mono (by decide)).trans (v.cyclesFromNow.macLatReset.joining_only.mono (by decide))
  have hframe : t = { v with cores := m, regs := t.regs } := by rw [honly.1, hcycles]
  have hcore : ∀ d c, t.core d c = v.cyclesFromNow.core d c := fun d c => by rw [honly.1]; rfl
  refine ⟨?_, ?_, ?_, ?_, ?_, fun d c => ?_, fun d c => ?_⟩
  · rw [hframe]; exact hin
  · rw [hframe]; exact hout
  · rw [hframe]; exact hresp
  · rw [hframe]; exact hcab
  · rw [hframe]; exact hload
  · rw [hcore]; exact hnew d c
  · have hzero : resetWord .SEQ_SR c = 0 := rfl
    have hkeep : v.cyclesFromNow.reg ⟨.SEQ_SR, d, c, 4⟩ = s.keepRegs.reg ⟨.SEQ_SR, d, c, 4⟩ := by
      rw [hcycles]
      unfold State.reg
      exact congrArg (mget · _ _) hregs
    rw [honly.2 _ (by simp), hkeep, s.reg_keepRegs _ (show RegName.SEQ_SR ∉ keptRegs by decide) (by simp) (by simp), hzero]

/-- What is noted of a device reset. -/
theorem State.resetFields_spec (s : State) {c : Nat} (hc : c < 16) (t : State) (ht : (s.resetFields c).incE F.RST_CNT_COUNT 0 = t) :
    t.rf F.RST_STAT_STATE 0 = 2 ∧ t.rf F.RST_STAT_LAST_CAUSE 0 = c ∧ t.rf F.RST_STAT_LINE_READY 0 = 0 ∧ t.rf F.RST_CTL_DEV_RESET 0 = 0 ∧
      t.rf F.RST_CTL_FW_RESTART 0 = 0 ∧ OnlyNames s t [.RST_STAT, .RST_CTL, .RST_CNT] := by
  have hcause : c < 2 ^ F.RST_STAT_LAST_CAUSE.width := hc
  have honly : OnlyNames s ((s.resetFields c).incE F.RST_CNT_COUNT 0) [.RST_STAT, .RST_CTL, .RST_CNT] :=
    (((((((OnlyNames.refl s _).wf F.RST_STAT_STATE _ _ _ _ (by decide)).wf F.RST_STAT_LINE_READY _ _ _ _ (by decide)).wf
      F.RST_STAT_LAST_CAUSE _ _ _ _ (by decide)).wf F.RST_STAT_FW_BROKEN _ _ _ _ (by decide)).wf F.RST_CTL_DEV_RESET _ _ _ _ (by decide)).wf
      F.RST_CTL_FW_RESTART _ _ _ _ (by decide)).incE F.RST_CNT_COUNT _ _ _ _ (by decide)
  have hcount : ∀ g : Fld, F.RST_CNT_COUNT.reg ≠ g.reg → t.rf g 0 = (s.resetFields c).rf g 0 := fun g hg =>
    ht ▸ State.rf_incE_name _ F.RST_CNT_COUNT g _ _ _ _ _ _ _ hg
  refine ⟨?_, ?_, ?_, ?_, ?_, ht ▸ honly⟩ <;> rw [hcount _ (by decide)] <;> unfold State.resetFields
  · simp -implicitDefEqProofs (disch := decide) [State.rf_wf_apart, State.rf_wf_same, Fld.width, F.RST_STAT_STATE]
  · simp -implicitDefEqProofs (disch := decide) only [State.rf_wf_apart]
    exact State.rf_wf_fits _ F.RST_STAT_LAST_CAUSE _ _ _ _ rfl hcause
  · simp -implicitDefEqProofs (disch := decide) [State.rf_wf_apart, State.rf_wf_same]
  · simp -implicitDefEqProofs (disch := decide) [State.rf_wf_apart, State.rf_wf_same]
  · exact State.rf_wf_fits _ F.RST_CTL_FW_RESTART _ _ _ _ rfl (by decide)

/-- The fault manager is cleared with the registers that show its sources; nothing else changes. -/
theorem State.fmCleared_frame (s : State) :
    ∃ sh f, s.fmCleared = { s with regs := s.fmCleared.regs, shadows := sh, fm := f } ∧ NamesKept s s.fmCleared [.FM_SRC_STAT] := by
  obtain ⟨u, hu, hfm⟩ := s.fmReset_only
  have hcleared : s.fmCleared = { u with shadows := [], fm := { u.fm with shut := [] } } := by
    unfold State.fmCleared
    rw [hfm]
    rfl
  rw [hcleared]
  refine ⟨[], { u.fm with shut := [] }, ?_, hu.2⟩
  rw [hu.1]

/-- What is noted of a device reset. -/
theorem State.resetNoted_spec (s : State) {c : Nat} (hc : c < 16) (reload : Bool) (t : State) (ht : s.resetNoted c reload = t) :
    (∃ r, t = { s with regs := t.regs, rst := Rst.afterReset r reload }) ∧ NamesKept s t [.RST_STAT, .RST_CTL, .RST_CNT] ∧
      t.rf F.RST_STAT_STATE 0 = 2 ∧ t.rf F.RST_STAT_LAST_CAUSE 0 = c ∧ t.rf F.RST_STAT_LINE_READY 0 = 0 ∧ t.rf F.RST_CTL_DEV_RESET 0 = 0 ∧
      t.rf F.RST_CTL_FW_RESTART 0 = 0 := by
  obtain ⟨x, hx⟩ : ∃ x, (s.resetFields c).incE F.RST_CNT_COUNT 0 = x := ⟨_, rfl⟩
  obtain ⟨hstate, hcause, hready, hdev, hfw, honly⟩ := State.resetFields_spec s hc x hx
  obtain ⟨r, hr⟩ : ∃ r, r = (s.resetFields c).rst := ⟨_, rfl⟩
  unfold State.resetNoted at ht
  dsimp only at ht
  rw [hx, ← hr] at ht
  subst ht
  exact ⟨⟨r, by rw [honly.1]; rfl⟩, honly.2, hstate, hcause, hready, hdev, hfw⟩

/-- What a device reset of cause `c` leaves (R1039, R1040, R1042, R1065). -/
theorem State.deviceReset_spec (s : State) {c : Nat} (hc : c < 16) (t : State) (ht : s.deviceReset c = t) :
    (∃ r : Rst, t.rst = r.afterReset (s.reloads c)) ∧ t.rf F.RST_STAT_STATE 0 = 2 ∧ t.rf F.RST_STAT_LAST_CAUSE 0 = c ∧
      t.rf F.RST_STAT_LINE_READY 0 = 0 ∧ t.rf F.RST_CTL_DEV_RESET 0 = 0 ∧ t.rf F.RST_CTL_FW_RESTART 0 = 0 ∧
      t.inFlight = [] ∧ t.outst = [] ∧ t.resps = [] ∧ t.cab = Cab.init ∧ t.cfg.load = none ∧
      (∀ d c, t.core d c = { Core.init with since := (t.core d c).since }) ∧ ∀ d c, t.rsr d c 4 = 0 := by
  rw [State.deviceReset_eq] at ht
  generalize s.reloads c = reload at ht ⊢
  obtain ⟨v, hv⟩ : ∃ v, s.stopped.blocksReset reload = v := ⟨_, rfl⟩
  obtain ⟨hin, hout, hresp, hcab, hload, hcores, hsr⟩ := State.blocksReset_spec _ _ v hv
  rw [hv] at ht
  obtain ⟨sh, f, hw, hwkept⟩ := v.fmCleared_frame
  obtain ⟨w, hwdef⟩ : ∃ w, v.fmCleared = w := ⟨_, rfl⟩
  rw [hwdef] at ht hw hwkept
  obtain ⟨⟨r, hnoted⟩, hkept, hstate, hcause, hready, hdev, hfw⟩ := w.resetNoted_spec hc reload t ht
  have hframe : t = { v with regs := t.regs, shadows := sh, fm := f, rst := r.afterReset reload } := by rw [hnoted, hw]
  have hrst : t.rst = r.afterReset reload := by rw [hframe]
  have hgated : t.gated = true := by
    unfold State.gated
    rw [hrst]
    simp [Rst.afterReset]
  refine ⟨⟨r, hrst⟩, hstate, hcause, hready, hdev, hfw, ?_, ?_, ?_, ?_, ?_, fun d c => ?_, fun d c => ?_⟩
  · rw [hframe]; exact hin
  · rw [hframe]; exact hout
  · rw [hframe]; exact hresp
  · rw [hframe]; exact hcab
  · rw [hframe]; exact hload
  · have hcore : t.core d c = v.core d c := by rw [hframe]; rfl
    rw [hcore]
    exact hcores d c
  · have hreg : t.reg ⟨.SEQ_SR, d, c, 4⟩ = 0 := (hkept _ (by simp)).trans ((hwkept _ (by simp)).trans (hsr d c))
    have hzero : t.sr d c 4 = 0 := congrArg BitVec.toNat hreg
    change (t.sr d c 4 + if t.seqState d c = 1 then 0 else t.coreElapsed d c) % 2 ^ 48 = 0
    unfold State.coreElapsed
    rw [hzero, hgated]
    simp

/-- A requested device reset is performed, outside a shutdown or with every die cool, and a Caben RESET once its reply has gone
(R1039, R1066, R816). -/
theorem exec_deviceReset {s : State} {c : Nat} (hreq : s.rst.devReq = some c) (hpor : s.rst.por = false) (hreset : s.rst.inReset = false)
    (hhold : c = 3 → s.holdOver = true) (hcool : s.rst.shutdown = false ∨ ∀ d, d ∈ s.senseDies → s.dieTemp d < 100) :
    exec .deviceReset s = .next (s.deviceReset c) := by
  have hover : (c == 3 && !s.holdOver) = false := by
    cases hc : c == 3 with
    | false => rfl
    | true => rw [hhold (by simpa using hc)]; rfl
  have hdies : (s.rst.shutdown && s.senseDies.any fun d => 100 ≤ s.dieTemp d) = false := by
    rcases hcool with hrun | hdie
    · rw [hrun]; rfl
    · have hany : (s.senseDies.any fun d => 100 ≤ s.dieTemp d) = false := by
        rw [List.any_eq_false]
        intro d hd
        simpa using hdie d hd
      rw [hany, Bool.and_false]
  have hbusy : ¬ (s.rst.por || s.rst.inReset || (c == 3 && !s.holdOver) || (s.rst.shutdown && s.senseDies.any fun d => 100 ≤ s.dieTemp d)) = true := by
    rw [hpor, hreset, hover, hdies]
    decide
  change execDeviceReset s = _
  unfold execDeviceReset
  rw [hreq]
  dsimp only
  rw [if_neg hbusy]

/-! ## The Maltster restart -/

/-- The work of the Maltster that a restart drops. -/
def State.maltStopped (s : State) : State :=
  let c := s.cab
  { s.setCab { Cab.init with txCtr := c.txCtr, rxCtr := c.rxCtr, ready := s.bootSm && c.ready } with
    mailbox := []
    outst := s.outst.map fun o => if o.txn.srcDie = 0 ∧ o.txn.master ≤ 1 then { o with discard := true } else o }

/-- The registers in which a Maltster restart is noted. -/
def State.maltFields (s : State) : State :=
  ((s.setReg (reg0 .WDOG_CTL) (resetWord .WDOG_CTL 0)).wf F.RST_STAT_LAST_CAUSE 7 0).wf F.RST_CTL_FW_RESTART 0 0

/-- The state of resets and power after a Maltster restart. -/
def Rst.afterRestart (r : Rst) : Rst := { r with fwReq := false, hold := none, phase := if r.phase < 4 then 2 else 8 }

theorem State.maltRestart_eq (s : State) :
    s.maltRestart = s.jobsLost.maltStopped.maltFields.fmReset.setRst s.jobsLost.maltStopped.maltFields.rst.afterRestart := by
  unfold State.maltRestart State.maltStopped State.maltFields Rst.afterRestart reg0
  rfl

theorem State.jobsLost_only (s : State) : OnlyRegsCfg s s.jobsLost [reg0 .CFG_NV_STAT] := by
  have hstart : OnlyRegsCfg s (match s.cfg.active with
      | some (.program a page) => s.flashProgram a page
      | some (.erase a) => s.flashErase a
      | none => s) [reg0 .CFG_NV_STAT] := by
    split
    · exact (OnlyRegsCfg.refl s _).setCfg _
    · exact (OnlyRegsCfg.refl s _).setCfg _
    · exact .refl s _
  unfold State.jobsLost
  exact ((((hstart.setCfg _).wf F.CFG_NV_STAT_SHUTDOWN_DEFER _ _ _ _ (.head _)).nvView (.head _)).wf F.CFG_NV_STAT_GOLDEN_OPEN _ _ _ _ (.head _))

theorem State.maltFields_spec (s t : State) (ht : s.maltFields = t) :
    t.rf F.RST_STAT_LAST_CAUSE 0 = 7 ∧ t.rf F.RST_CTL_FW_RESTART 0 = 0 ∧ OnlyNames s t [.WDOG_CTL, .RST_STAT, .RST_CTL] := by
  subst ht
  unfold State.maltFields
  refine ⟨?_, State.rf_wf_fits _ F.RST_CTL_FW_RESTART _ _ _ _ rfl (by decide), ?_⟩
  · rw [State.rf_wf_apart _ _ _ _ _ _ _ _ _ _ rfl rfl]
    exact State.rf_wf_fits _ F.RST_STAT_LAST_CAUSE _ _ _ _ rfl (by decide)
  · have hdog : OnlyRegs s (s.setReg (reg0 .WDOG_CTL) (resetWord .WDOG_CTL 0)) [reg0 .WDOG_CTL] := (OnlyRegs.refl s _).setReg _ _ (.head _)
    exact ((OnlyNames.of_regs hdog (by decide)).wf F.RST_STAT_LAST_CAUSE _ _ _ _ (by decide)).wf F.RST_CTL_FW_RESTART _ _ _ _ (by decide)

/-- What a Maltster restart leaves (R1029, R1041, R1042, R1076). -/
theorem State.maltRestart_spec (s t : State) (ht : s.maltRestart = t) :
    (∃ c b o sh f, t = { s with
        regs := t.regs, cfg := c, cab := b, mailbox := [], outst := o, shadows := sh, fm := f, rst := s.rst.afterRestart }) ∧
      t.rf F.RST_STAT_LAST_CAUSE 0 = 7 ∧ t.rf F.RST_CTL_FW_RESTART 0 = 0 := by
  have hjobs := s.jobsLost_only.1
  rw [State.maltRestart_eq] at ht
  obtain ⟨u, hu⟩ : ∃ u, s.jobsLost = u := ⟨_, rfl⟩
  rw [hu] at hjobs ht
  obtain ⟨b, hb⟩ : ∃ b, b = ({ Cab.init with txCtr := u.cab.txCtr, rxCtr := u.cab.rxCtr, ready := u.bootSm && u.cab.ready } : Cab) := ⟨_, rfl⟩
  obtain ⟨o, ho⟩ : ∃ o, o = u.outst.map fun o => if o.txn.srcDie = 0 ∧ o.txn.master ≤ 1 then { o with discard := true } else o := ⟨_, rfl⟩
  have hstop : u.maltStopped = { u with cab := b, mailbox := [], outst := o } := by rw [hb, ho]; rfl
  obtain ⟨v, hv⟩ : ∃ v, u.maltStopped.maltFields = v := ⟨_, rfl⟩
  obtain ⟨hcause, hreq, hfields⟩ := State.maltFields_spec _ v hv
  rw [hv] at ht
  obtain ⟨w, hw, hfm⟩ := v.fmReset_only
  have hvf := hfields.1
  rw [hstop, hjobs] at hvf
  have hrst : v.rst = s.rst := by rw [hvf]
  rw [hfm, hrst] at ht
  subst ht
  refine ⟨⟨u.cfg, b, o, [], s.fm, ?_⟩, (hw.rf F.RST_STAT_LAST_CAUSE 0 0 0 (by decide)).trans hcause,
    (hw.rf F.RST_CTL_FW_RESTART 0 0 0 (by decide)).trans hreq⟩
  rw [hw.1, hvf]
  rfl

theorem State.holdOver_congr {s t : State} (hhold : t.rst.hold = s.rst.hold) (hcab : t.cab = s.cab) (hnow : t.now = s.now) :
    t.holdOver = s.holdOver := by
  unfold State.holdOver State.ago
  rw [hhold, hcab, hnow]

/-- A requested Maltster restart is performed (R1041, R1067). -/
theorem exec_maltsterRestart {s : State} (hreq : s.rst.fwReq = true) (hpor : s.rst.por = false) (hreset : s.rst.inReset = false)
    (hdev : s.rst.devReq = none) (hover : s.holdOver = true) : exec .maltsterRestart s = .next s.maltRestart := by
  have hbusy : ¬ (!s.rst.fwReq || s.rst.por || s.rst.inReset || s.rst.devReq.isSome || !s.holdOver) = true := by
    rw [hreq, hpor, hreset, hdev, hover]
    decide
  change execMaltsterRestart s = _
  unfold execMaltsterRestart
  rw [if_neg hbusy]

/-! ## The statements O1 and O2 -/

/-- A write of a register of chapter 19 whose tag is 0b00 or 0b01 is performed (R75). -/
theorem rstOut_written (off : Nat) {w : TWord} (s : State) (act : Nat → State) (htag : w.tag.toNat < 2) :
    rstOut off w s act = act w.data.toNat := if_pos htag

theorem exec_devResetWrite {s : State} {w : TWord} {acts : List HwAct} (htag : w.tag.toNat < 2) :
    exec (.devResetWrite w acts) s = .next (s.writeRstCtl w.data.toNat acts) := congrArg Host.Outcome.next (rstOut_written 0 s _ htag)

theorem exec_fwRestart {s : State} {w : TWord} {acts : List HwAct} (htag : w.tag.toNat < 2) :
    exec (.fwRestart w acts) s = .next (s.writeRstCtl w.data.toNat acts) := congrArg Host.Outcome.next (rstOut_written 0 s _ htag)

theorem exec_watchdogKick {s : State} {w : TWord} (htag : w.tag.toNat < 2) :
    exec (.watchdogKick w) s = .next (s.writeWdog w.data.toNat) := congrArg Host.Outcome.next (rstOut_written 3 s _ htag)

theorem exec_sysResetNLow {s : State} (hreset : s.rst.inReset = false) (hpor : s.rst.por = false) :
    exec .sysResetNLow s = .next { s with rst := { s.rst with devReq := some (min (s.rst.devReq.getD 2) 2) } } :=
  congrArg Host.Outcome.next (State.askReset_free hreset hpor 2)

theorem exec_autoRestart {s : State} {t0 : Nat} (hreset : s.rst.inReset = false) (hpor : s.rst.por = false) (hcool : s.rst.coolAt = some t0)
    (hshut : s.rst.shutdown = true) (hauto : s.rb F.RST_CTL_AUTO_RESTART 0 = true) (hago : 1000000000 ≤ s.ago t0) :
    exec .autoRestart s = .next { s with rst := { s.rst with devReq := some (min (s.rst.devReq.getD 6) 6) } } := by
  have hdue : (s.rb F.RST_CTL_AUTO_RESTART 0 && s.rst.shutdown && 1000000000 ≤ s.ago t0) = true := by
    rw [hauto, hshut, Bool.true_and, Bool.true_and]
    exact decide_eq_true hago
  change execAutoRestart s = _
  unfold execAutoRestart
  rw [hcool]
  dsimp only
  rw [if_pos hdue, State.askReset_free hreset hpor]

/-- The state of resets and power is not in the register file. -/
theorem RegsKept.withRst {s t : State} {rs : List Reg} (h : RegsKept s t rs) (r : Rst) : RegsKept s { t with rst := r } rs := h

/-- Settles O1: each request by the lemma about its command, the fields of a written register by their access codes. -/
theorem resetRequestsAreRecorded : Obligations.ResetRequestsAreRecorded := by
  unfold Obligations.ResetRequestsAreRecorded
  refine ⟨fun s hreset hpor => exec_sysResetNLow hreset hpor,
    fun s t0 hreset hpor hcool hshut hauto hago => exec_autoRestart hreset hpor hcool hshut hauto hago, ?device, ?firmware, ?kick⟩
  case device =>
    intro s w hreset hpor htag hdev hfw
    have hwrite := State.writeRstCtl_device hreset hpor hdev hfw []
    obtain ⟨hfdev, hffw, hreload, hauto⟩ := s.plainWrite_rstCtl w.data.toNat
    obtain ⟨hframe, hkept⟩ := OnlyRegs.plainWrite s (reg0 .RST_CTL) w.data.toNat []
    rw [if_pos hdev] at hfdev
    rw [if_neg (by rw [hfw]; decide)] at hffw
    generalize s.plainWrite (reg0 .RST_CTL) w.data.toNat [] = p at hwrite hfdev hffw hreload hauto hframe hkept
    exact ⟨_, (exec_devResetWrite htag).trans (congrArg Host.Outcome.next hwrite), rfl, (State.setRst_rf ..).trans hfdev,
      (State.setRst_rf ..).trans hffw, (State.setRst_rf ..).trans hreload, (State.setRst_rf ..).trans hauto, by rw [hframe], hkept.withRst _⟩
  case firmware =>
    intro s w hreset htag hdev hfw
    have hwrite := State.writeRstCtl_firmware hreset hdev hfw []
    obtain ⟨hfdev, hffw, -, -⟩ := s.plainWrite_rstCtl w.data.toNat
    obtain ⟨hframe, hkept⟩ := OnlyRegs.plainWrite s (reg0 .RST_CTL) w.data.toNat []
    rw [if_neg (by rw [hdev]; decide)] at hfdev
    rw [if_pos hfw] at hffw
    generalize s.plainWrite (reg0 .RST_CTL) w.data.toNat [] = p at hwrite hfdev hffw hframe hkept
    exact ⟨_, (exec_fwRestart htag).trans (congrArg Host.Outcome.next hwrite), rfl, (State.setRst_rf ..).trans hffw,
      (State.setRst_rf ..).trans hfdev, by rw [hframe], hkept.withRst _⟩
  case kick =>
    intro s w htag hkick
    exact ⟨_, exec_watchdogKick htag, State.writeWdog_kick hkick⟩

/-- A reset that is asked for outside a shutdown and a reset is taken with its cause. -/
theorem exec_deviceReset_asked {s : State} {c : Nat} (hreq : s.rst.devReq = some c) (hpor : s.rst.por = false) (hreset : s.rst.inReset = false)
    (hc : c ≠ 3) (hlt : c < 16) (hcool : s.rst.shutdown = false ∨ ∀ d, d ∈ s.senseDies → s.dieTemp d < 100) :
    ∃ u r, exec .deviceReset s = .next u ∧ u.rst = Rst.afterReset r (s.reloads c) ∧ u.rf F.RST_STAT_STATE 0 = 2 ∧
      u.rf F.RST_STAT_LAST_CAUSE 0 = c ∧ u.rf F.RST_CTL_DEV_RESET 0 = 0 ∧ u.inFlight = [] ∧ u.outst = [] := by
  obtain ⟨⟨r, hr⟩, hstate, hcause, -, hdev, -, hin, hout, -⟩ := s.deviceReset_spec hlt _ rfl
  exact ⟨_, r, exec_deviceReset hreq hpor hreset (fun h => absurd h hc) hcool, hr, hstate, hcause, hdev, hin, hout⟩

/-- A refused write of a register of chapter 19 (R75, R95). -/
theorem rstOut_refused (off : Nat) {w : TWord} (s : State) (act : Nat → State) (htag : 2 ≤ w.tag.toNat) :
    rstOut off w s act = s.regRefuse 0 (w.tag.toNat - 2) true (0x0F000600 + off) := if_neg (Nat.not_lt.mpr htag)

/-- A watchdog that was restarted in the same moment does not expire (R1048). -/
theorem exec_watchdogExpiry_kicked {s : State} (hkick : s.rst.kickAt = s.now) (htime : 10 ≤ s.rf F.WDOG_CTL_TIMEOUT_MS 0) :
    exec .watchdogExpiry s = .next s := by
  have hago : s.ago s.rst.kickAt = 0 := by
    unfold State.ago
    rw [hkick, Nat.add_sub_cancel_left, Nat.mod_self]
  have hearly : s.ago s.rst.kickAt < s.rf F.WDOG_CTL_TIMEOUT_MS 0 * 1000000 := by
    rw [hago]
    omega
  change execWatchdogExpiry s = _
  unfold execWatchdogExpiry
  rw [if_pos (by rw [decide_eq_true hearly, Bool.or_true])]

/-- Settles O2: each request by the lemma about its command, the reset that follows by `exec_deviceReset_asked` or
`maltRestart_spec`. -/
theorem resetRequestsAreCarriedOut : Obligations.ResetRequestsAreCarriedOut := by
  unfold Obligations.ResetRequestsAreCarriedOut
  refine ⟨?pin, ?device, ?firmware, ?kick, ?auto, ?refused⟩
  case pin =>
    intro s hreset hpor
    refine ⟨_, exec_sysResetNLow hreset hpor, rfl, fun hreq hshut => ?_⟩
    have hask : some (min (s.rst.devReq.getD 2) 2) = some 2 := by rw [hreq]; rfl
    obtain ⟨u, r, hexec, hr, hstate, hcause, -, hin, hout⟩ := exec_deviceReset_asked
      (s := { s with rst := { s.rst with devReq := some (min (s.rst.devReq.getD 2) 2) } }) hask hpor hreset (by decide) (by decide) (.inl hshut)
    exact ⟨u, hexec, by rw [hr]; rfl, by rw [hr]; rfl, hstate, hcause, hin, hout⟩
  case device =>
    intro s w acts hreset hpor htag hdev hfw
    have hwrite := State.writeRstCtl_device hreset hpor hdev hfw acts
    obtain ⟨hframe, hkept⟩ := OnlyRegs.plainWrite s (reg0 .RST_CTL) w.data.toNat acts
    refine ⟨_, (exec_devResetWrite htag).trans (congrArg Host.Outcome.next hwrite), rfl, by rw [hframe], hkept.withRst _, fun hreq hshut => ?_⟩
    have hask : some (min (s.rst.devReq.getD 5) 5) = some 5 := by rw [hreq]; rfl
    obtain ⟨u, r, hexec, hr, hstate, hcause, hclear, hin, hout⟩ := exec_deviceReset_asked
      (s := { s.plainWrite (reg0 .RST_CTL) w.data.toNat acts with rst := { s.rst with devReq := some (min (s.rst.devReq.getD 5) 5) } })
      hask hpor hreset (by decide) (by decide) (.inl hshut)
    exact ⟨u, hexec, by rw [hr]; rfl, by rw [hr]; rfl, hstate, hcause, hclear, hin, hout⟩
  case firmware =>
    intro s w acts hreset htag hdev hfw
    have hwrite := State.writeRstCtl_firmware hreset hdev hfw acts
    obtain ⟨hframe, hkept⟩ := OnlyRegs.plainWrite s (reg0 .RST_CTL) w.data.toNat acts
    obtain ⟨p, hp⟩ : ∃ p, p = s.plainWrite (reg0 .RST_CTL) w.data.toNat acts := ⟨_, rfl⟩
    rw [← hp] at hwrite hframe hkept
    refine ⟨_, (exec_fwRestart htag).trans (congrArg Host.Outcome.next hwrite), rfl, by rw [hframe], hkept.withRst _, fun hpor hreq hover => ?_⟩
    obtain ⟨v, hv⟩ : ∃ v, v = { p with rst := { s.rst with fwReq := true, skip := false, expiries := [] } } := ⟨_, rfl⟩
    rw [← hv]
    have hvover : v.holdOver = s.holdOver := by
      rw [hv]
      exact State.holdOver_congr rfl (by rw [hframe]) (State.now_kept (hkept.names (ns := [.RST_CTL]) (by decide)) (by decide))
    have hvrst : v.rst = { s.rst with fwReq := true, skip := false, expiries := [] } := by rw [hv]
    obtain ⟨⟨c, b, o, sh, f, ht⟩, hcause, hclear⟩ := v.maltRestart_spec _ rfl
    refine ⟨_, exec_maltsterRestart (by rw [hvrst]) (by rw [hvrst]; exact hpor) (by rw [hvrst]; exact hreset) (by rw [hvrst]; exact hreq)
      (hvover.trans hover), ?_, ?_, hcause, hclear, ?_, ?_, ?_⟩
    · rw [ht, hv]; rfl
    · rw [ht, hv]; rfl
    all_goals rw [ht, hv, hframe]
  case kick =>
    intro s w htag hkick
    obtain ⟨hrst, hen, htime, hframe, hkept⟩ := State.writeWdog_kick (s := s) hkick
    refine ⟨_, exec_watchdogKick htag, hrst, hen, htime, hframe, hkept, exec_watchdogExpiry_kicked ?_ ?_⟩
    · have hnow : (s.writeWdog w.data.toNat).now = s.now := State.now_kept (hkept.names (ns := [.WDOG_CTL]) (by decide)) (by decide)
      rw [hrst, hnow]
    · rw [htime]
      omega
  case auto =>
    intro s t0 hreset hpor hcool hshut hauto hago
    refine ⟨_, exec_autoRestart hreset hpor hcool hshut hauto hago, rfl, fun hreq hdies => ?_⟩
    have hask : some (min (s.rst.devReq.getD 6) 6) = some 6 := by rw [hreq]; rfl
    obtain ⟨u, r, hexec, hr, hstate, hcause, -⟩ := exec_deviceReset_asked
      (s := { s with rst := { s.rst with devReq := some (min (s.rst.devReq.getD 6) 6) } }) hask hpor hreset (by decide) (by decide) (.inr hdies)
    exact ⟨u, hexec, by rw [hr]; rfl, by rw [hr]; exact Bool.or_true _, by rw [hr]; rfl, hstate, hcause⟩
  case refused =>
    intro s w acts htag hvalid
    have hlt := w.tag.isLt
    obtain ⟨-, hcause, -, haddr, hframe⟩ := (s.regRefuse_spec 0 (w.tag.toNat - 2) 0x0F000600 (by omega) (by decide)).1 hvalid
    obtain ⟨-, hcause', -, haddr', hframe'⟩ := (s.regRefuse_spec 0 (w.tag.toNat - 2) 0x0F000603 (by omega) (by decide)).1 hvalid
    exact ⟨_, _, congrArg Host.Outcome.next (rstOut_refused 0 s _ htag), congrArg Host.Outcome.next (rstOut_refused 3 s _ htag),
      congrArg Host.Outcome.next (rstOut_refused 0 s _ htag), hcause, haddr, hframe, hcause', haddr', hframe'⟩

end Sys2Proof.Machine
end

section
/-!
SUPPORT. Resets taken and released: proof of the statement O3.
-/
namespace Sys2Proof.Machine

/-! ## The power-on reset -/

/-- A flash operation cut off: the flash is left holding `fl`, and the free values up to the `n`-th are used. -/
def State.cutTo (s : State) (fl : SMap Nat) (n : Nat) : State := { s.setCfg { s.cfg with active := none, flash := fl } with freeCtr := n }

/-- A flash operation that is cut ends in the flash only (R394). -/
theorem State.opCut_cases (s : State) : s.opCut = s ∨ s.cfg.active ≠ none ∧ ∃ fl n, s.opCut = s.cutTo fl n := by
  unfold State.opCut
  cases hact : s.cfg.active with
  | none => exact .inl rfl
  | some op =>
    refine .inr ⟨by simp, ?_⟩
    cases op with
    | program a page => exact ⟨_, _, rfl⟩
    | erase a =>
      exact ⟨(List.range 4096).foldl (fun m k => mset m (a / 4096 * 4096 + k) ((Config.freeValue (s.freeCtr + k)).toNat % 256) 0xFF) s.cfg.flash,
        s.freeCtr + 4096, rfl⟩

/-- The state after a power-on reset that found no flash operation under way (R1037). -/
def State.asNew (s : State) : State :=
  let r := s.rst
  let t : State := { State.reset with
    pending := s.pending, freeCtr := s.freeCtr, macLatFuse := s.macLatFuse, ix := s.ixFresh
    cfg := { Cfg.init with
      flash := s.cfg.flash, blown := s.cfg.blown, fwKeyHash := s.cfg.fwKeyHash, fuseMap := s.cfg.fuseMap
      jput := s.cfg.jput, nvPut := s.cfg.nvPut }
    dbg := { Debug.init with uid := s.dbg.uid, key := s.dbg.key, draws := s.dbg.draws }
    rst := { Rst.init with
      por := true, trip := r.trip, partCode := r.partCode, gradeCode := r.gradeCode, integ := r.integ } }
  (t.wf F.DEV_ROLE_PART_CODE r.partCode 0).wf F.DEV_ROLE_GRADE_CODE r.gradeCode 0

theorem State.asNew_spec (s t : State) (ht : s.asNew = t) :
    t.rst.por = true ∧ t.rst.trip = s.rst.trip ∧ t.mem = [] ∧ t.inFlight = [] ∧ t.outst = [] ∧ t.faultLine = [] ∧ t.isl = [] ∧
      t.cfg.cmem = [] ∧ t.cfg.blown = s.cfg.blown ∧ t.cfg.flash = s.cfg.flash ∧ t.pending = s.pending := by
  subst ht
  exact ⟨rfl, rfl, rfl, rfl, rfl, rfl, rfl, rfl, rfl, rfl, rfl⟩

/-- What a power-on reset leaves (R1037, R1042). -/
theorem State.powerOn_spec (s t : State) (ht : s.powerOn = t) :
    t.rst.por = true ∧ t.rst.trip = s.rst.trip ∧ t.mem = [] ∧ t.inFlight = [] ∧ t.outst = [] ∧ t.faultLine = [] ∧ t.isl = [] ∧
      t.cfg.cmem = [] ∧ t.cfg.blown = s.cfg.blown ∧ (s.cfg.active = none → t.cfg.flash = s.cfg.flash) ∧ t.pending = s.pending := by
  have hnew : s.powerOn = s.opCut.asNew := rfl
  obtain ⟨u, hu⟩ : ∃ u, u = s.opCut := ⟨_, rfl⟩
  rw [hnew, ← hu] at ht
  obtain ⟨hpor, htrip, hmem, hin, hout, hline, hisl, hcmem, hblown, hflash, hpend⟩ := u.asNew_spec t ht
  have hkept : u.rst = s.rst ∧ u.cfg.blown = s.cfg.blown ∧ (s.cfg.active = none → u.cfg.flash = s.cfg.flash) ∧ u.pending = s.pending := by
    obtain hsame | ⟨hact, fl, n, hcut⟩ := s.opCut_cases
    · rw [hu, hsame]
      exact ⟨rfl, rfl, fun _ => rfl, rfl⟩
    · rw [hu, hcut]
      exact ⟨rfl, rfl, fun h => absurd h hact, rfl⟩
  obtain ⟨hrst, hub, huf, hup⟩ := hkept
  exact ⟨hpor, htrip.trans (by rw [hrst]), hmem, hin, hout, hline, hisl, hcmem, hblown.trans hub, fun h => hflash.trans (huf h), hpend.trans hup⟩

/-- What is left of a number without a bit that it has does not have the bit. -/
theorem bit_sub_pow {v n : Nat} (h : bit v n = true) : bit (v - 2 ^ n) n = false := by
  have hodd : v / 2 ^ n % 2 = 1 := by simpa [bit] using h
  have hle : 2 ^ n * 1 ≤ v := by
    rw [Nat.mul_one]
    by_contra hlt
    rw [Nat.div_eq_of_lt (Nat.lt_of_not_le hlt)] at hodd
    cases hodd
  have hdiv := Nat.sub_mul_div v (2 ^ n) 1
  rw [Nat.mul_one] at hdiv
  unfold bit
  rw [hdiv]
  simp only [beq_eq_false_iff_ne]
  omega

/-- A supply that fails clears its bit of SUP_STAT (R1033). -/
theorem State.setRail_cleared (s : State) {n : Nat} (hn : n < 48) :
    bit ((s.setRail n false).rw .SUP_STAT 0) n = false ∧ OnlyRegs s (s.setRail n false) [reg0 .SUP_STAT] := by
  unfold State.setRail
  dsimp only
  have hwide : decide (48 ≤ n) = false := decide_eq_false (by omega)
  rw [hwide, Bool.false_or]
  cases hbit : bit (s.rw .SUP_STAT 0) n with
  | false => exact ⟨hbit, .refl s _⟩
  | true =>
    refine ⟨?_, (OnlyRegs.refl s _).ww .SUP_STAT _ 0 0 0 (.head _)⟩
    have hlt : s.rw .SUP_STAT 0 < 2 ^ 48 := (s.reg (reg0 .SUP_STAT)).isLt
    rw [if_neg (by decide), if_neg (by decide), State.rw_ww_same, Nat.mod_eq_of_lt ((Nat.sub_le _ _).trans_lt hlt)]
    exact bit_sub_pow hbit

/-! ## The release of the power-on reset -/

/-- The straps are read into DEV_ROLE (R1038). -/
def State.strapsRead (s : State) (role boot devnum : Nat) : State :=
  ((s.wf F.DEV_ROLE_ROLE role 0).wf F.DEV_ROLE_BOOT boot 0).wf F.DEV_ROLE_DEVNUM_STRAP devnum 0

/-- What the release shows of supplies, replicas, repair, latencies and limits (R1027, R1106). -/
def State.partSensed (s : State) (nom rails : Nat) : State :=
  let s := (s.wf F.DIO_BANK_STAT_NOMINAL nom 0).ww .SUP_STAT rails 0
  let s := s.wf F.TB_STAT_REPLICA_OK (if s.is20 then 3 else 15) 0
  let s := (s.wf F.REPAIR_STAT_FUSE_APPLIED s.cfg.fuseMap.length 0).macLatReset
  if s.gradeLimit = 160 then s else s.fabDies.foldl (fun s d => (List.range 16).foldl (fun (s : State) i =>
    s.wf F.FAB_ISL_LIMIT_LIMIT_CODE s.gradeLimit d i) s) s

/-- Hardware start begins (R1051). -/
def State.hardwareStarts (s : State) : State :=
  let s := s.setCfg { s.cfg with fuses := s.cfg.blown }
  (s.setRst { s.rst with por := false, phase := 2, reload := true, since := s.now }).joining

/-- What the release shows of an earlier thermal trip (R1063). -/
def State.tripShown (s : State) : State := if s.rst.trip then (s.wf F.RST_STAT_TRIP_SEEN 1 0).raise .thermalTrip 0 0 else s

/-- The nominal that each bank of the part detects (R1027). -/
def State.bankNominals (s : State) (banks : Nat) : Nat :=
  (List.range 8).foldl (fun n b => n + (if s.hasBank b then banks / 4 ^ b % 4 else 0) * 4 ^ b) 0

/-- The supplies of the part (R1033). -/
def State.partRails (s : State) : Nat := 0x3F + (List.range 8).foldl (fun n b => n + b2n (s.hasBank b) * 2 ^ (8 + b)) 0

/-- A release that all banks and the temperature allow (R1038, R1063). -/
theorem exec_powerOnResetRelease {s : State} {banks : Nat} {cool : Bool} (role boot devnum : Nat) (hpor : s.rst.por = true)
    (htrip : s.rst.trip = true → cool = true) (hbanks : ∀ b, b < 8 → s.hasBank b = true → banks / 4 ^ b % 4 ≠ 0) :
    exec (.powerOnResetRelease role boot devnum banks cool) s =
      .next ((s.strapsRead role boot devnum).partSensed (s.bankNominals banks) s.partRails).hardwareStarts.tripShown := by
  have hheld : (s.rst.trip && !cool) = false := by
    cases ht : s.rst.trip with
    | false => rfl
    | true => rw [htrip ht]; rfl
  have hall : ((List.range 8).any fun b => s.hasBank b && banks / 4 ^ b % 4 == 0) = false := by
    rw [List.any_eq_false]
    intro b hb hmiss
    rw [Bool.and_eq_true, beq_iff_eq] at hmiss
    exact hbanks b (List.mem_range.mp hb) hmiss.1 hmiss.2
  have hfree : ¬ (!s.rst.por || (s.rst.trip && !cool) || (List.range 8).any fun b => s.hasBank b && banks / 4 ^ b % 4 == 0) = true := by
    rw [hpor, hheld, hall]
    decide
  exact congrArg Host.Outcome.next (if_neg hfree)

theorem State.strapsRead_spec (s t : State) (role boot devnum : Nat) (ht : s.strapsRead role boot devnum = t) :
    t.rf F.DEV_ROLE_ROLE 0 = role % 4 ∧ t.rf F.DEV_ROLE_BOOT 0 = boot % 8 ∧ t.rf F.DEV_ROLE_DEVNUM_STRAP 0 = devnum % 16 ∧
      OnlyNames s t [.DEV_ROLE] := by
  subst ht
  unfold State.strapsRead
  refine ⟨?_, ?_, State.rf_wf_same _ F.DEV_ROLE_DEVNUM_STRAP _ _ _ _ rfl, (((OnlyNames.refl s _).wf F.DEV_ROLE_ROLE _ _ _ _ (.head _)).wf
    F.DEV_ROLE_BOOT _ _ _ _ (.head _)).wf F.DEV_ROLE_DEVNUM_STRAP _ _ _ _ (.head _)⟩
  · rw [State.rf_wf_apart _ _ _ _ _ _ _ _ _ _ rfl rfl, State.rf_wf_apart _ _ _ _ _ _ _ _ _ _ rfl rfl]
    exact State.rf_wf_same _ F.DEV_ROLE_ROLE _ _ _ _ rfl
  · rw [State.rf_wf_apart _ _ _ _ _ _ _ _ _ _ rfl rfl]
    exact State.rf_wf_same _ F.DEV_ROLE_BOOT _ _ _ _ rfl

/-- The registers that show what the release finds of the part. -/
def sensedNames : List RegName := [.DIO_BANK_STAT, .SUP_STAT, .TB_STAT, .REPAIR_STAT, .MAC_LAT, .MAC_STATION, .FAB_ISL_LIMIT]

theorem State.partSensed_only (s : State) (nom rails : Nat) : OnlyNames s (s.partSensed nom rails) sensedNames := by
  obtain ⟨u, hu⟩ : ∃ u, u = (s.wf F.DIO_BANK_STAT_NOMINAL nom 0).ww .SUP_STAT rails 0 := ⟨_, rfl⟩
  have hrails : OnlyNames s u sensedNames := hu ▸ ((OnlyNames.refl s _).wf F.DIO_BANK_STAT_NOMINAL _ _ _ _ (by decide)).ww .SUP_STAT _ _ _ _ (by decide)
  obtain ⟨v, hv⟩ : ∃ v, v = u.wf F.TB_STAT_REPLICA_OK (if u.is20 then 3 else 15) 0 := ⟨_, rfl⟩
  have hrep : OnlyNames s v sensedNames := hv ▸ hrails.wf F.TB_STAT_REPLICA_OK _ _ _ _ (by decide)
  obtain ⟨x, hx⟩ : ∃ x, x = (v.wf F.REPAIR_STAT_FUSE_APPLIED v.cfg.fuseMap.length 0).macLatReset := ⟨_, rfl⟩
  have hlat : OnlyNames s x sensedNames :=
    hx ▸ (hrep.wf F.REPAIR_STAT_FUSE_APPLIED _ _ _ _ (by decide)).trans ((State.macLatReset_only _).mono (by decide))
  unfold State.partSensed
  dsimp only
  rw [← hu, ← hv, ← hx]
  refine .ite hlat (hlat.foldl fun y d hy => hy.foldl fun z i hz => hz.wf F.FAB_ISL_LIMIT_LIMIT_CODE _ _ _ _ (by decide))

theorem State.hardwareStarts_spec (s t : State) (ht : s.hardwareStarts = t) :
    t.rst = { s.rst with por := false, phase := 2, reload := true, since := s.now } ∧
      t = { s with regs := t.regs, cfg := { s.cfg with fuses := s.cfg.blown }, rst := t.rst } ∧ NamesKept s t [.DUP_STAT] := by
  obtain ⟨u, hu⟩ : ∃ u, u = (s.setCfg { s.cfg with fuses := s.cfg.blown }).setRst
    { s.rst with por := false, phase := 2, reload := true, since := s.now } := ⟨_, rfl⟩
  have hstart : s.hardwareStarts = u.joining := by rw [hu]; rfl
  obtain ⟨hframe, hkept⟩ := u.joining_only
  rw [← hstart, ht] at hframe hkept
  have hrst : t.rst = u.rst := by rw [hframe]
  refine ⟨by rw [hrst, hu]; rfl, ?_, fun q hq => (hkept q hq).trans (by rw [hu]; rfl)⟩
  rw [hrst, hframe, hu]
  rfl

theorem State.tripShown_run {s : State} (h : s.rst.trip = false) : s.tripShown = s := by
  unfold State.tripShown
  rw [h]
  rfl

theorem State.tripShown_trip {s : State} (h : s.rst.trip = true) (t : State) (ht : s.tripShown = t) :
    t.rf F.RST_STAT_TRIP_SEEN 0 = 1 ∧ t.faultLine = s.faultLine ++ [faultEv .thermalTrip 0 0 0] ∧ OnlyRegsEv s t [reg0 .RST_STAT] := by
  have htrip : s.tripShown = (s.wf F.RST_STAT_TRIP_SEEN 1 0).raise .thermalTrip 0 0 := by
    unfold State.tripShown
    rw [h]
    rfl
  obtain ⟨hframe, hline⟩ := ((OnlyRegs.refl s [reg0 .RST_STAT]).wf F.RST_STAT_TRIP_SEEN 1 0 0 0 (.head _)).raise .thermalTrip 0 0 0
  subst ht
  rw [htrip]
  exact ⟨(State.raise_rf ..).trans (State.rf_wf_fits _ F.RST_STAT_TRIP_SEEN _ _ _ _ rfl (by decide)), hline, hframe⟩

/-! ## The release of the device reset -/

/-- Every island takes an island reset of its own at the release of a device reset (R1040). -/
theorem State.islandsReleased_rst (s : State) (l : List (Nat × Nat)) : RstKept s (l.foldl (fun s e =>
    let t := s.resetIsland e.1 e.2
    t.setIsland e.1 e.2 { t.island e.1 e.2 with underReset := false }) s) :=
  (RstKept.refl s).foldl fun _ _ hu => hu.resetIsland.setIsland

/-- A device reset is released with a reload (R1040, R1066). -/
theorem exec_deviceResetRelease {s : State} (hreset : s.rst.inReset = true) (hrun : s.rst.shutdown = false) (hload : s.rst.reload = true) :
    ∃ t, exec .deviceResetRelease s = .next t ∧ t.rst = { s.rst with inReset := false, since := s.now } ∧ t.rf F.RST_STAT_STATE 0 = 0 := by
  obtain ⟨u, hu⟩ : ∃ u, u = (s.setRst { s.rst with inReset := false, since := s.now }).cyclesFromNow := ⟨_, rfl⟩
  have hur : u.rst = { s.rst with inReset := false, since := s.now } := by
    obtain ⟨m, hm⟩ := (s.setRst { s.rst with inReset := false, since := s.now }).cyclesFromNow_frame
    rw [hu, hm]
    rfl
  have hisl := u.islandsReleased_rst u.allIslands
  obtain ⟨v, hv⟩ : ∃ v, v = u.allIslands.foldl (fun s e =>
    let t := s.resetIsland e.1 e.2
    t.setIsland e.1 e.2 { t.island e.1 e.2 with underReset := false }) u := ⟨_, rfl⟩
  rw [← hv] at hisl
  obtain ⟨w, hw⟩ : ∃ w, w = (v.setDup { v.dup with loadAt := if v.imageLoaded then some v.now else none }).wf F.RST_STAT_STATE 0 0 := ⟨_, rfl⟩
  have hwr : w.rst = { s.rst with inReset := false, since := s.now } := by
    have hwv : w.rst = v.rst := by rw [hw, State.wf_rst, State.setDup_rst]
    exact hwv.trans (Eq.trans hisl hur)
  have hbusy : ¬ (!s.rst.inReset || s.rst.shutdown) = true := by rw [hreset, hrun]; decide
  refine ⟨w, ?_, hwr, ?_⟩
  · change execDeviceResetRelease s = _
    unfold execDeviceResetRelease
    dsimp only
    rw [if_neg hbusy, ← hu, ← hv, ← hw, if_pos (by rw [hwr]; exact hload)]
  · rw [hw]
    exact State.rf_wf_fits _ F.RST_STAT_STATE _ _ _ _ rfl (by decide)

/-! ## The statement O3 -/

theorem exec_powerOnReset_spec (s : State) {cause rail : Nat} (hc : cause ≤ 1) (hrail : rail < 48) :
    ∃ u t, s.powerOn = u ∧ exec (.powerOnReset cause rail) s = .next t ∧ OnlyNames u t [.RST_STAT, .SUP_STAT] ∧
      t.rf F.RST_STAT_LAST_CAUSE 0 = cause ∧ (cause = 0 → bit (t.rw .SUP_STAT 0) rail = false) := by
  obtain ⟨u, hu⟩ : ∃ u, s.powerOn = u := ⟨_, rfl⟩
  have hexec : exec (.powerOnReset cause rail) s =
      .next (if cause = 0 then (u.wf F.RST_STAT_LAST_CAUSE (min 1 cause) 0).setRail rail false else u.wf F.RST_STAT_LAST_CAUSE (min 1 cause) 0) := by
    rw [← hu]
    rfl
  have honly : OnlyNames u (u.wf F.RST_STAT_LAST_CAUSE (min 1 cause) 0) [.RST_STAT, .SUP_STAT] :=
    (OnlyNames.refl u _).wf F.RST_STAT_LAST_CAUSE _ _ _ _ (.head _)
  have hcause : (u.wf F.RST_STAT_LAST_CAUSE (min 1 cause) 0).rf F.RST_STAT_LAST_CAUSE 0 = cause := by
    rw [Nat.min_eq_right hc]
    exact State.rf_wf_fits _ F.RST_STAT_LAST_CAUSE _ _ _ _ rfl (hc.trans_lt (by decide))
  refine ⟨u, _, hu, hexec, ?_⟩
  split
  · obtain ⟨hbit, hset⟩ := (u.wf F.RST_STAT_LAST_CAUSE (min 1 cause) 0).setRail_cleared hrail
    exact ⟨honly.trans (.of_regs hset (by decide)), ((OnlyNames.of_regs hset (ns := [.SUP_STAT]) (by decide)).rf _ _ _ _ (by decide)).trans hcause,
      fun _ => hbit⟩
  · next hne => exact ⟨honly, hcause, fun h => absurd h hne⟩

/-- Settles O3: each reset by the lemma about what it leaves, each release by the lemma about its steps. -/
theorem resetsAreTakenAndReleased : Obligations.ResetsAreTakenAndReleased := by
  unfold Obligations.ResetsAreTakenAndReleased
  refine ⟨?por, ?trip, ?release, ?hot, ?device, ?deviceRelease, ?malt⟩
  case por =>
    intro s cause rail hc hrail
    obtain ⟨u, t, hu, hexec, ⟨hframe, -⟩, hcause, hbit⟩ := exec_powerOnReset_spec s hc hrail
    obtain ⟨hpor, htrip, hmem, hin, hout, hline, hisl, hcmem, hblown, hflash, hpend⟩ := s.powerOn_spec u hu
    refine ⟨t, hexec, ?_, ?_, hcause, hbit, ?_⟩
    · rw [hframe]; exact hpor
    · rw [hframe]; exact htrip
    · rw [hframe]
      exact ⟨hmem, hin, hout, hline, hisl, hcmem, hblown, hflash, hpend⟩
  case trip =>
    intro s
    obtain ⟨u, hu⟩ : ∃ u, (s.setRst { s.rst with trip := true }).powerOn = u := ⟨_, rfl⟩
    obtain ⟨hpor, htrip, hmem, hin, hout, -, -, -, hblown, -, hpend⟩ := State.powerOn_spec _ u hu
    obtain ⟨t, ht⟩ : ∃ t, t = u.wf F.RST_STAT_LAST_CAUSE 0 0 := ⟨_, rfl⟩
    have hcause : t.rf F.RST_STAT_LAST_CAUSE 0 = 0 := ht ▸ State.rf_wf_fits _ F.RST_STAT_LAST_CAUSE _ _ _ _ rfl (by decide)
    obtain ⟨hframe, -⟩ : OnlyNames u t [.RST_STAT] := ht ▸ (OnlyNames.refl u _).wf F.RST_STAT_LAST_CAUSE _ _ _ _ (.head _)
    have hexec : exec .thermalTrip s = .next t := by
      rw [ht, ← hu]
      rfl
    refine ⟨t, hexec, ?_⟩
    rw [hframe] at hcause ⊢
    exact ⟨hpor, htrip, hcause, hmem, hin, hout, hblown, hpend⟩
  case release =>
    intro s role boot devnum banks cool hpor htrip hbanks
    have hexec := exec_powerOnResetRelease role boot devnum hpor htrip hbanks
    obtain ⟨u, hu⟩ : ∃ u, s.strapsRead role boot devnum = u := ⟨_, rfl⟩
    obtain ⟨hrole, hboot, hdev, hstraps⟩ := s.strapsRead_spec u role boot devnum hu
    obtain ⟨v, hv⟩ : ∃ v, u.partSensed (s.bankNominals banks) s.partRails = v := ⟨_, rfl⟩
    have hsensed := u.partSensed_only (s.bankNominals banks) s.partRails
    obtain ⟨x, hx⟩ : ∃ x, v.hardwareStarts = x := ⟨_, rfl⟩
    obtain ⟨hrst, hframe, hkept⟩ := v.hardwareStarts_spec x hx
    rw [hu, hv, hx] at hexec
    rw [hv] at hsensed
    have hus : v.rst = s.rst := by rw [hsensed.1, hstraps.1]
    have hxf : ∀ f : Fld, f.reg ∉ [RegName.DUP_STAT] → f.reg ∉ sensedNames → x.rf f 0 = u.rf f 0 := fun f hd hs =>
      (hkept.rf f 0 0 0 hd).trans (hsensed.rf f 0 0 0 hs)
    have hxs : x = { s with regs := x.regs, cfg := { s.cfg with fuses := s.cfg.blown }, rst := x.rst } := by
      rw [hframe, hsensed.1, hstraps.1]
    have htr : x.rst.trip = s.rst.trip := by rw [hrst, hus]
    have hphase : x.rst.por = false ∧ x.rst.phase = 2 := by rw [hrst]; exact ⟨rfl, rfl⟩
    have hfields : x.rf F.DEV_ROLE_ROLE 0 = role % 4 ∧ x.rf F.DEV_ROLE_BOOT 0 = boot % 8 ∧ x.rf F.DEV_ROLE_DEVNUM_STRAP 0 = devnum % 16 :=
      ⟨(hxf _ (by decide) (by decide)).trans hrole, (hxf _ (by decide) (by decide)).trans hboot, (hxf _ (by decide) (by decide)).trans hdev⟩
    have hfuses : x.cfg.fuses = s.cfg.blown := by rw [hxs]
    have hline : x.faultLine = s.faultLine := by rw [hxs]
    obtain ⟨hpx, hphx⟩ := hphase
    obtain ⟨hrx, hbx, hdx⟩ := hfields
    cases htrip' : s.rst.trip with
    | false =>
      rw [State.tripShown_run (htr.trans htrip')] at hexec
      refine ⟨x, hexec, hpx, hphx, hrx, hbx, hdx, hfuses, fun _ => hline, nofun, ?_⟩
      rw [hline]
      exact hxs
    | true =>
      obtain ⟨y, hy⟩ : ∃ y, x.tripShown = y := ⟨_, rfl⟩
      obtain ⟨hseen, hev, hyf, hykept⟩ := State.tripShown_trip (htr.trans htrip') y hy
      have hnames : NamesKept x y [.RST_STAT] := hykept.names (by decide)
      have hys : y = { s with regs := y.regs, faultLine := y.faultLine, cfg := { s.cfg with fuses := s.cfg.blown }, rst := y.rst } := by
        rw [hyf, hxs]
      have hyr : y.rst = x.rst := by rw [hyf]
      rw [hy] at hexec
      refine ⟨y, hexec, by rw [hyr]; exact hpx, by rw [hyr]; exact hphx, (hnames.rf _ 0 0 0 (by decide)).trans hrx,
        (hnames.rf _ 0 0 0 (by decide)).trans hbx, (hnames.rf _ 0 0 0 (by decide)).trans hdx, ?_, nofun,
        fun _ => ⟨hseen, hev.trans (by rw [hline])⟩, hys⟩
      rw [hys]
  case hot =>
    intro s role boot devnum banks htrip
    change execPowerOnResetRelease role boot devnum banks false s = _
    unfold execPowerOnResetRelease
    dsimp only
    rw [if_pos (by rw [htrip]; simp)]
  case device =>
    intro s c hreq hc hpor hreset hrun hhold
    obtain ⟨t, ht⟩ : ∃ t, s.deviceReset c = t := ⟨_, rfl⟩
    obtain ⟨⟨r, hr⟩, hstate, hcause, hready, hdev, hfw, hin, hout, hresp, hcab, hload, hcore, hsr⟩ := s.deviceReset_spec hc t ht
    exact ⟨t, ht ▸ exec_deviceReset hreq hpor hreset hhold (.inl hrun), by rw [hr]; rfl, by rw [hr]; rfl, by rw [hr]; rfl, by rw [hr]; rfl, hstate,
      hcause, hready, hdev, hfw, hin, hout, hresp, hcab, hload, hcore, fun d c _ _ => hsr d c⟩
  case deviceRelease =>
    intro s hreset hrun hload
    exact exec_deviceResetRelease hreset hrun hload
  case malt =>
    intro s hreq hpor hreset hdev hover
    obtain ⟨t, hrestart⟩ : ∃ t, s.maltRestart = t := ⟨_, rfl⟩
    obtain ⟨⟨c, b, o, sh, f, ht⟩, hcause, hclear⟩ := s.maltRestart_spec t hrestart
    refine ⟨t, hrestart ▸ exec_maltsterRestart hreq hpor hreset hdev hover, ?_, ?_, hcause, hclear, ?_, ?_, ?_, ?_, ?_⟩
    · rw [ht]; rfl
    · rw [ht]; rfl
    all_goals rw [ht]

end Sys2Proof.Machine
end

section
/-!
SUPPORT. Start-up and the watchdog: proof of the statement O4.
-/
namespace Sys2Proof.Machine

/-! ## The boot ROM -/

/-- The read of the directory replaces what is known of the slots, and nothing else (R362). -/
theorem State.readDirectory_frame (s : State) :
    ∃ ok slots, s.readDirectory = s.setCfg { s.cfg with dirOk := ok, slots := slots } := by
  unfold State.readDirectory
  dsimp only
  split
  · exact ⟨_, _, rfl⟩
  · exact ⟨_, _, rfl⟩

/-- What a start of the firmware changes (R811, R836, R1047). -/
theorem State.fwRuns_frame (s t : State) {slot : Nat} (hslot : slot < 4) (version : Nat) (ht : s.fwRuns slot version = t) :
    t.rf F.CABEN_STAT_BOOT_SM 0 = 0 ∧ t.rf F.RST_STAT_FW_SLOT 0 = slot ∧ ∃ m l, t = { s with
      regs := m, cab := { s.cab with ready := true }, faultLine := l
      rst := { s.rst with fwVersion := version, phase := if s.rst.phase = 8 then 9 else 3, late := false, kickAt := s.now } } := by
  have hfit : slot < 2 ^ F.RST_STAT_FW_SLOT.width := hslot
  obtain ⟨u, hu⟩ : ∃ u, u = (s.wf F.CABEN_STAT_BOOT_SM 0 0).wf F.RST_STAT_FW_SLOT slot 0 := ⟨_, rfl⟩
  obtain ⟨hframe, hkept⟩ : OnlyNames s u [.CABEN_STAT, .RST_STAT] :=
    hu ▸ ((OnlyNames.refl s _).wf F.CABEN_STAT_BOOT_SM _ _ _ _ (by decide)).wf F.RST_STAT_FW_SLOT _ _ _ _ (by decide)
  have hsm : u.rf F.CABEN_STAT_BOOT_SM 0 = 0 := by
    rw [hu, State.rf_wf_apart _ _ _ _ _ _ _ _ _ _ rfl rfl]
    exact State.rf_wf_fits _ F.CABEN_STAT_BOOT_SM _ _ _ _ rfl (by decide)
  have hfw : u.rf F.RST_STAT_FW_SLOT 0 = slot := by
    rw [hu]
    exact State.rf_wf_fits _ F.RST_STAT_FW_SLOT _ _ _ _ rfl hfit
  have hnow : u.now = s.now := State.now_kept hkept (by decide)
  obtain ⟨v, hv⟩ : ∃ v, v = u.setCab { s.cab with ready := true } := ⟨_, rfl⟩
  have hvf : v = { s with regs := u.regs, cab := { s.cab with ready := true } } := by rw [hv, hframe]; rfl
  obtain ⟨w, hw⟩ : ∃ w, w = if v.rst.late then v.raise .maltsterWatchdog 0 0 (v.rw .RST_STAT 0) else v := ⟨_, rfl⟩
  have hwf : ∃ l, w = { v with faultLine := l } := by
    rw [hw]
    split
    · exact ⟨_, rfl⟩
    · exact ⟨_, rfl⟩
  obtain ⟨l, hwf⟩ := hwf
  have hrun : t = { w with rst := { w.rst with fwVersion := version, phase := if w.rst.phase = 8 then 9 else 3, late := false, kickAt := w.now } } := by
    rw [← ht, hw, hv, hu]
    rfl
  have htf : t = { s with
      regs := u.regs, cab := { s.cab with ready := true }, faultLine := l
      rst := { s.rst with fwVersion := version, phase := if s.rst.phase = 8 then 9 else 3, late := false, kickAt := u.now } } := by
    rw [hrun, hwf, hvf]
    rfl
  have hrf : ∀ f : Fld, t.rf f 0 = u.rf f 0 := fun f => by rw [htf]; rfl
  rw [hnow] at htf
  exact ⟨(hrf _).trans hsm, (hrf _).trans hfw, _, _, htf⟩

/-- What a start of the firmware from the boot ROM leaves (R1047). -/
theorem State.fwRuns_spec (s t : State) {slot : Nat} (hslot : slot < 4) (version : Nat) (hphase : s.rst.phase = 2) (ht : s.fwRuns slot version = t) :
    t.cfg = s.cfg ∧ t.cab.ready = true ∧ t.rf F.CABEN_STAT_BOOT_SM 0 = 0 ∧ t.rf F.RST_STAT_FW_SLOT 0 = slot ∧ t.rst.phase = 3 ∧
      t.rst.kickAt = s.now := by
  obtain ⟨hsm, hfw, m, l, hframe⟩ := s.fwRuns_frame t hslot version ht
  refine ⟨by rw [hframe], by rw [hframe], hsm, hfw, ?_, by rw [hframe]⟩
  rw [hframe]
  dsimp only
  rw [hphase]
  rfl

/-- The flash is looked for and its directory read (R360, R362). -/
def State.flashRead (s : State) (sfdp : Option Sfdp) : State :=
  let found := sfdp.isSome
  let f := sfdp.getD ⟨false, false, false, false⟩
  let s := s.setCfg { s.cfg with found := found, addr4 := f.addr4, readMode := flashMode f (s.rf F.DEV_ROLE_BOOT 0) }
  if found then s.readDirectory else s.setCfg { s.cfg with dirOk := false, slots := [] }

/-- The boot state machine begins to serve (R1049). -/
def State.bootSmServes (s : State) : State :=
  let s := ((s.wf F.RST_STAT_FW_SLOT 0 0).wf F.CABEN_STAT_BOOT_SM 1 0).setCab { s.cab with ready := true }
  s.setRst { s.rst with late := true }

/-- The firmware of the update slot or of the golden slot runs, or the boot state machine serves (R1046, R1047). -/
def State.firmwareChosen (s : State) (found : Bool) : State :=
  let broken := s.rb F.RST_STAT_FW_BROKEN 0
  let ver := fun i => leNat ((s.flashBytes ((s.slot i).1 + 8) 4))
  if found && !broken && !s.rst.skip && s.fwSlotOk 6 then s.fwRuns 2 (ver 6)
  else if found && !broken && s.fwSlotOk 5 then s.fwRuns 1 (ver 5)
  else s.bootSmServes

theorem exec_bootRomStart {s : State} (sfdp : Option Sfdp) (hpor : s.rst.por = false) (hreset : s.rst.inReset = false)
    (hrun : s.rst.shutdown = false) (hphase : s.rst.phase = 2) (hready : s.cab.ready = false) :
    exec (.bootRomStart sfdp) s = .next ((s.flashRead sfdp).firmwareChosen sfdp.isSome) := by
  have hfree : ¬ (s.rst.por || s.rst.inReset || s.rst.shutdown || (s.rst.phase ≠ 2 && s.rst.phase ≠ 8) || (s.bootSm && s.cab.ready)) = true := by
    rw [hpor, hreset, hrun, hphase, hready]
    simp
  exact congrArg Host.Outcome.next (if_neg hfree)

/-- The look for the flash is noted in the configuration, and nothing else changes. -/
theorem State.flashRead_spec (s : State) (sfdp : Option Sfdp) (t : State) (ht : s.flashRead sfdp = t) :
    t = { s with cfg := t.cfg } ∧ t.cfg.found = sfdp.isSome ∧
      ∀ f, sfdp = some f → t.cfg.addr4 = f.addr4 ∧ t.cfg.readMode = flashMode f (s.rf F.DEV_ROLE_BOOT 0) := by
  obtain ⟨f, hf⟩ : ∃ f, f = sfdp.getD ⟨false, false, false, false⟩ := ⟨_, rfl⟩
  obtain ⟨c, hc⟩ : ∃ c : Cfg, c = { s.cfg with found := sfdp.isSome, addr4 := f.addr4, readMode := flashMode f (s.rf F.DEV_ROLE_BOOT 0) } := ⟨_, rfl⟩
  obtain ⟨ok, slots, hread⟩ : ∃ ok slots, t = s.setCfg { c with dirOk := ok, slots := slots } := by
    unfold State.flashRead at ht
    dsimp only at ht
    rw [← hf, ← hc] at ht
    rw [← ht]
    split
    · exact (s.setCfg c).readDirectory_frame
    · exact ⟨_, _, rfl⟩
  have hcfg : t.cfg = { c with dirOk := ok, slots := slots } := by rw [hread]; rfl
  refine ⟨by rw [hcfg, hread]; rfl, by rw [hcfg, hc], fun g hg => ?_⟩
  have hgf : f = g := by rw [hf, hg]; rfl
  rw [hcfg, hc, hgf]
  exact ⟨rfl, rfl⟩

theorem State.bootSmServes_spec (s t : State) (ht : s.bootSmServes = t) :
    t.cfg = s.cfg ∧ t.cab.ready = true ∧ t.rf F.CABEN_STAT_BOOT_SM 0 = 1 ∧ t.rf F.RST_STAT_FW_SLOT 0 = 0 ∧ t.rst.phase = s.rst.phase := by
  obtain ⟨w, hw⟩ : ∃ w, w = (s.wf F.RST_STAT_FW_SLOT 0 0).wf F.CABEN_STAT_BOOT_SM 1 0 := ⟨_, rfl⟩
  obtain ⟨hframe, -⟩ : OnlyNames s w [.CABEN_STAT, .RST_STAT] :=
    hw ▸ ((OnlyNames.refl s _).wf F.RST_STAT_FW_SLOT _ _ _ _ (by decide)).wf F.CABEN_STAT_BOOT_SM _ _ _ _ (by decide)
  have hsm : w.rf F.CABEN_STAT_BOOT_SM 0 = 1 := by
    rw [hw]
    exact State.rf_wf_fits _ F.CABEN_STAT_BOOT_SM _ _ _ _ rfl (by decide)
  have hfw : w.rf F.RST_STAT_FW_SLOT 0 = 0 := by
    rw [hw, State.rf_wf_apart _ _ _ _ _ _ _ _ _ _ rfl rfl]
    exact State.rf_wf_fits _ F.RST_STAT_FW_SLOT _ _ _ _ rfl (by decide)
  have htf : t = { s with regs := w.regs, cab := { s.cab with ready := true }, rst := { s.rst with late := true } } := by
    rw [← ht]
    unfold State.bootSmServes
    dsimp only
    rw [← hw, hframe]
    rfl
  have hrf : ∀ f : Fld, t.rf f 0 = w.rf f 0 := fun f => by rw [htf]; rfl
  refine ⟨by rw [htf], by rw [htf], (hrf _).trans hsm, (hrf _).trans hfw, by rw [htf]⟩

/-- What a start of the boot ROM shows in `t` of the firmware that runs. -/
def BootRomDone (s : State) (sfdp : Option Sfdp) (t : State) : Prop :=
  t.cab.ready = true ∧ (sfdp = none → t.rf F.RST_STAT_FW_SLOT 0 = 0 ∧ t.rf F.CABEN_STAT_BOOT_SM 0 = 1 ∧ t.rst.phase = 2) ∧
    (t.rf F.CABEN_STAT_BOOT_SM 0 = 0 → t.rst.phase = 3 ∧ t.rst.kickAt = s.now ∧
      (t.rf F.RST_STAT_FW_SLOT 0 = 1 ∨ t.rf F.RST_STAT_FW_SLOT 0 = 2))

theorem State.fwRuns_done {s : State} (hphase : s.rst.phase = 2) {sfdp : Option Sfdp} (hsome : sfdp.isSome = true) {slot : Nat}
    (hslot : slot = 1 ∨ slot = 2) (version : Nat) :
    (s.fwRuns slot version).cfg = s.cfg ∧ BootRomDone s sfdp (s.fwRuns slot version) := by
  obtain ⟨t, ht⟩ : ∃ t, s.fwRuns slot version = t := ⟨_, rfl⟩
  obtain ⟨hcfg, hcab, -, hfw, h3, hkick⟩ := s.fwRuns_spec t (by omega) version hphase ht
  rw [ht]
  refine ⟨hcfg, hcab, fun hnone => ?_, fun _ => ⟨h3, hkick, by rw [hfw]; exact hslot⟩⟩
  rw [hnone] at hsome
  cases hsome

theorem State.firmwareChosen_spec {s : State} (hphase : s.rst.phase = 2) (sfdp : Option Sfdp) :
    (s.firmwareChosen sfdp.isSome).cfg = s.cfg ∧ BootRomDone s sfdp (s.firmwareChosen sfdp.isSome) := by
  unfold State.firmwareChosen
  dsimp only
  split
  · next hc =>
    simp only [Bool.and_eq_true] at hc
    exact State.fwRuns_done hphase hc.1.1.1 (.inr rfl) _
  split
  · next hc =>
    simp only [Bool.and_eq_true] at hc
    exact State.fwRuns_done hphase hc.1.1 (.inl rfl) _
  · obtain ⟨t, ht⟩ : ∃ t, s.bootSmServes = t := ⟨_, rfl⟩
    obtain ⟨hcfg, hcab, hsm, hfw, hp⟩ := s.bootSmServes_spec t ht
    rw [ht]
    exact ⟨hcfg, hcab, fun _ => ⟨hfw, hsm, hp.trans hphase⟩, fun h => absurd (hsm.symm.trans h) (by decide)⟩

/-! ## The firmware's start -/

theorem State.rst_setRst (s : State) (r : Rst) : (s.setRst r).rst = r := rfl

/-- From `s` to `t` the phase of start-up and the reload stay. -/
def PhaseKept (s t : State) : Prop := t.rst.phase = s.rst.phase ∧ t.rst.reload = s.rst.reload

section
variable {s t : State}

theorem PhaseKept.of_rst (h : RstKept s t) : PhaseKept s t := ⟨congrArg Rst.phase h, congrArg Rst.reload h⟩

theorem PhaseKept.trans {u : State} (h : PhaseKept s t) (h' : PhaseKept t u) : PhaseKept s u := ⟨h'.1.trans h.1, h'.2.trans h.2⟩

theorem State.busWrite_phase (s : State) (code data : Nat) : PhaseKept s (s.busWrite code data) := ⟨rfl, rfl⟩

theorem State.pmbError_phase (s : State) : PhaseKept s s.pmbError :=
  (PhaseKept.of_rst (RstKept.refl s).incE.raise).trans (State.busWrite_phase _ _ _)

theorem State.pmbFail_phase (s : State) : PhaseKept s s.pmbFail := by
  obtain ⟨u, hu⟩ : ∃ u, u = s.pmbError := ⟨_, rfl⟩
  have h : PhaseKept s u := hu ▸ s.pmbError_phase
  unfold State.pmbFail
  dsimp only
  rw [← hu]
  split
  · exact h
  · exact h.trans ⟨by rw [State.rst_setRst], by rw [State.rst_setRst]⟩

theorem State.sendVout_phase (s : State) (mv : Nat) : PhaseKept s (s.sendVout mv) := by
  obtain ⟨u, hu⟩ : ∃ u, u = (s.wf F.PMB_STAT_REQ_MV mv 0).wf F.PMB_STAT_SETTLED 0 0 := ⟨_, rfl⟩
  have h : PhaseKept s u := hu ▸ .of_rst (RstKept.refl s).wf.wf
  unfold State.sendVout
  dsimp only
  rw [← hu]
  exact h.trans ⟨rfl, rfl⟩

/-- The first request on the PMBus leaves the phase alone (R1054). -/
theorem State.firstVolt_phase (s : State) (vmode : Option Nat) : PhaseKept s (s.firstVolt vmode) := by
  have hfail : PhaseKept s s.pmbFail.pmbFail.pmbFail.pmbFail :=
    ((s.pmbFail_phase.trans (State.pmbFail_phase _)).trans (State.pmbFail_phase _)).trans (State.pmbFail_phase _)
  unfold State.firstVolt
  split
  · exact ⟨rfl, rfl⟩
  split
  · next m =>
    split
    · have hset : PhaseKept s ((s.setRst { s.rst with vmode := m % 256, tries := 0 }).busWrite 0x01 0x80) := ⟨rfl, rfl⟩
      exact hset.trans (State.sendVout_phase _ _)
    · exact hfail
  · exact hfail

end

/-- The firmware starts in phase 4 when no load is asked for (R1051). -/
theorem exec_firmwareStart {s : State} (vmode : Option Nat) (hpor : s.rst.por = false) (hreset : s.rst.inReset = false)
    (hrun : s.rst.shutdown = false) (hsm : s.bootSm = false) (hphase : s.rst.phase = 3) (hload : s.rst.reload = false) :
    ∃ t, exec (.firmwareStart vmode) s = .next t ∧ t.rst.phase = 4 := by
  have hfree : ¬ (s.rst.por || s.rst.inReset || s.rst.shutdown || s.bootSm) = true := by
    rw [hpor, hreset, hrun, hsm]
    decide
  obtain ⟨u, hu⟩ : ∃ u, u = ((s.setCfg { s.cfg with erases := [] }).rebuildCounts).journalResolve.nvSettings := ⟨_, rfl⟩
  have hur : RstKept s u := hu ▸ (RstKept.refl s).setCfg.rebuildCounts.journalResolve.nvSettings
  obtain ⟨v, hv⟩ : ∃ v, v = if u.rb F.REPAIR_STAT_DONE 0 then u else u.softRepair := ⟨_, rfl⟩
  have hvr : RstKept s v := hv ▸ .ite hur hur.softRepair
  obtain ⟨w, hw⟩ : ∃ w, w = (v.setRst { v.rst with phase := 4 }).firstVolt vmode := ⟨_, rfl⟩
  have hwp : w.rst.phase = 4 ∧ w.rst.reload = s.rst.reload := by
    obtain ⟨hp, hr⟩ := (v.setRst { v.rst with phase := 4 }).firstVolt_phase vmode
    rw [hw]
    exact ⟨hp, hr.trans (show v.rst.reload = s.rst.reload from congrArg Rst.reload hvr)⟩
  have hstays : (w.rst.reload && w.rf F.DEV_ROLE_BOOT 0 < 4) = false := by rw [hwp.2, hload]; rfl
  have hexec : exec (.firmwareStart vmode) s =
      .next (if (w.rst.reload && w.rf F.DEV_ROLE_BOOT 0 < 4) = true then w.bootTry w.bootSlots else w).openRoleLinks.openCh0 := by
    change execFirmwareStart vmode s = _
    unfold execFirmwareStart
    dsimp only
    rw [if_neg hfree, if_neg (by omega), if_neg (by omega), ← hu, ← hv, ← hw]
  rw [hstays, if_neg Bool.false_ne_true] at hexec
  exact ⟨_, hexec, (congrArg Rst.phase (RstKept.refl w).openRoleLinks.openCh0).trans hwp.1⟩

/-! ## The release of start-up -/

/-- The islands of a loaded image are released, and its cores run (R378, R890). -/
def State.imageReleased (s : State) : State :=
  let rel := s.cfg.release
  let s := rel.foldl (fun s e => s.releaseIsland e.1 e.2) s
  if rel.isEmpty then s else (s.setCfg { s.cfg with release := [] }).coresRun

/-- OUT_EN and LINE_READY are set once the condition of Table 1-1 holds (R1052). -/
def State.lineStarts (s : State) : State :=
  let s := (s.wf F.RST_STAT_STATE 1 0).setRst { s.rst with phase := 5 }
  if s.lineOk then
    let s := (s.setOutEn true).wf F.RST_STAT_LINE_READY 1 0
    (s.wf F.RST_STAT_START_US (s.ago s.rst.since / 1000) 0).setRst { s.rst with phase := 6 }
  else s

theorem State.imageReleased_none {s : State} (hrel : s.cfg.release = []) : s.imageReleased = s := by
  unfold State.imageReleased
  rw [hrel]
  rfl

/-- Start-up is released when the image is loaded, no island waits and the condition of Table 1-1 holds (R1051, R1052). -/
theorem exec_startUpRelease {s : State} (hgated : s.gated = false) (hphase : s.rst.phase = 4) (himage : s.imageLoaded = true)
    (hload : s.cfg.load = none) (hrel : s.cfg.release = []) (hline : s.lineOk = true) :
    ∃ t, exec .startUpRelease s = .next t ∧ t.rf F.DEV_ROLE_CTL_OUT_EN 0 = 1 ∧ t.rf F.RST_STAT_LINE_READY 0 = 1 ∧
      t.rf F.RST_STAT_STATE 0 = 1 ∧ t.rst = { s.rst with phase := 6 } ∧ RegsKept s t [reg0 .DEV_ROLE_CTL, reg0 .RST_STAT] := by
  have hfree : ¬ (s.gated || (s.rst.phase ≠ 4 && s.rst.phase ≠ 5) || !s.imageLoaded || s.cfg.load.isSome) = true := by
    rw [hgated, hphase, himage, hload]
    simp
  obtain ⟨u, hu⟩ : ∃ u, u = s.wf F.RST_STAT_STATE 1 0 := ⟨_, rfl⟩
  have honly : OnlyRegs s u [reg0 .RST_STAT] := hu ▸ (OnlyRegs.refl s _).wf F.RST_STAT_STATE _ _ _ _ (.head _)
  have hnames : NamesKept s u [.RST_STAT] := honly.2.names (by decide)
  have hstate : u.rf F.RST_STAT_STATE 0 = 1 := hu ▸ State.rf_wf_fits _ F.RST_STAT_STATE _ _ _ _ rfl (by decide)
  obtain ⟨v, hv⟩ : ∃ v, v = u.setRst { s.rst with phase := 5 } := ⟨_, rfl⟩
  have hvf : v = { s with regs := u.regs, rst := { s.rst with phase := 5 } } := by rw [hv, honly.1]; rfl
  have hvrf : ∀ (f : Fld) (d i j : Nat), v.rf f d i j = u.rf f d i j := fun f d i j => by rw [hv]; rfl
  have hvline : v.lineOk = true := (State.lineOk_congr (by rw [hvf]) ((hvrf ..).trans (hnames.rf _ _ _ _ (by decide)))
    ((hvrf ..).trans (hnames.rf _ _ _ _ (by decide))) fun l => (hvrf ..).trans (hnames.rf _ _ _ _ (by decide))).trans hline
  obtain ⟨d, l, hout⟩ := v.setOutEn_spec true
  obtain ⟨w, hw⟩ : ∃ w, w = v.wf F.DEV_ROLE_CTL_OUT_EN (b2n true) 0 := ⟨_, rfl⟩
  have hwonly : OnlyRegs v w [reg0 .DEV_ROLE_CTL] := hw ▸ (OnlyRegs.refl v _).wf F.DEV_ROLE_CTL_OUT_EN _ _ _ _ (.head _)
  have hwout : w.rf F.DEV_ROLE_CTL_OUT_EN 0 = 1 := hw ▸ State.rf_wf_fits _ F.DEV_ROLE_CTL_OUT_EN _ _ _ _ rfl (by decide)
  rw [← hw] at hout
  obtain ⟨x, hx⟩ : ∃ x, x = v.setOutEn true := ⟨_, rfl⟩
  rw [← hx] at hout
  have hxr : ∀ q, x.reg q = w.reg q := fun q => by rw [hout]; rfl
  obtain ⟨y, hy⟩ : ∃ y, y = x.wf F.RST_STAT_LINE_READY 1 0 := ⟨_, rfl⟩
  obtain ⟨z, hz⟩ : ∃ z, z = y.wf F.RST_STAT_START_US (y.ago y.rst.since / 1000) 0 := ⟨_, rfl⟩
  have hyonly : OnlyRegs x y [reg0 .RST_STAT] := hy ▸ (OnlyRegs.refl x _).wf F.RST_STAT_LINE_READY _ _ _ _ (.head _)
  have hzonly : OnlyRegs x z [reg0 .RST_STAT] := by
    rw [hz]
    exact hyonly.wf F.RST_STAT_START_US _ _ _ _ (.head _)
  have hyrst : y.rst = { s.rst with phase := 5 } := by rw [hyonly.1, hout, hwonly.1, hvf]
  have hvkept : RegsKept s v [reg0 .DEV_ROLE_CTL, reg0 .RST_STAT] := fun q hq => by
    have hvq : v.reg q = u.reg q := by rw [hv]; rfl
    rw [hvq]
    exact honly.2 q fun hmem => hq (.tail _ hmem)
  have hkept : RegsKept s z [reg0 .DEV_ROLE_CTL, reg0 .RST_STAT] := fun q hq => by
    rw [hzonly.2 q fun hmem => hq (.tail _ hmem), hxr, hwonly.2 q (by simp at hq ⊢; exact hq.1)]
    exact hvkept q hq
  have hready : z.rf F.RST_STAT_LINE_READY 0 = 1 := by
    rw [hz, State.rf_wf_apart _ _ _ _ _ _ _ _ _ _ rfl rfl, hy]
    exact State.rf_wf_fits _ F.RST_STAT_LINE_READY _ _ _ _ rfl (by decide)
  have hst : z.rf F.RST_STAT_STATE 0 = 1 := by
    have hxv : x.rf F.RST_STAT_STATE 0 = v.rf F.RST_STAT_STATE 0 := by
      unfold State.rf
      rw [hxr, hwonly.2 _ (by decide)]
    rw [hz, State.rf_wf_apart _ _ _ _ _ _ _ _ _ _ rfl rfl, hy, State.rf_wf_apart _ _ _ _ _ _ _ _ _ _ rfl rfl, hxv, hvrf, hstate]
  have hoe : z.rf F.DEV_ROLE_CTL_OUT_EN 0 = 1 := by
    have hzx : z.rf F.DEV_ROLE_CTL_OUT_EN 0 = w.rf F.DEV_ROLE_CTL_OUT_EN 0 := by
      unfold State.rf
      rw [hzonly.2 _ (by decide), hxr]
    rw [hzx, hwout]
  have hexec : exec .startUpRelease s = .next (z.setRst { y.rst with phase := 6 }) := by
    have hstep : exec .startUpRelease s = .next s.imageReleased.lineStarts := congrArg Host.Outcome.next (if_neg hfree)
    rw [hstep, State.imageReleased_none hrel]
    unfold State.lineStarts
    dsimp only
    rw [← hu, ← hv, if_pos hvline, ← hx, ← hy, ← hz]
  refine ⟨_, hexec, ?_, ?_, ?_, ?_, hkept.withRst _⟩
  · rw [State.setRst_rf, hoe]
  · rw [State.setRst_rf, hready]
  · rw [State.setRst_rf, hst]
  · rw [State.rst_setRst, hyrst]

/-! ## The watchdog -/

/-- The watchdog restarts the Maltster `TIMEOUT_MS` after the last kick (R1048, R1072). -/
theorem exec_watchdogExpiry {s : State} (hgated : s.gated = false) (hsm : s.bootSm = false) (h2 : s.rst.phase ≠ 2) (h8 : s.rst.phase ≠ 8)
    (hen : s.rb F.WDOG_CTL_EN 0 = true) (hago : s.rf F.WDOG_CTL_TIMEOUT_MS 0 * 1000000 ≤ s.ago s.rst.kickAt) :
    ∃ t, exec .watchdogExpiry s = .next t ∧ t.rf F.RST_STAT_LAST_CAUSE 0 = 7 ∧
      t.faultLine = s.faultLine ++ [faultEv .maltsterWatchdog 0 0 (t.rw .RST_STAT 0)] ∧
      t.rst.phase = (if s.rst.phase < 4 then 2 else 8) ∧ t.mem = s.mem := by
  have hfree : ¬ (s.gated || s.bootSm || s.rst.phase = 2 || s.rst.phase = 8 || !s.rb F.WDOG_CTL_EN 0
      || s.ago s.rst.kickAt < s.rf F.WDOG_CTL_TIMEOUT_MS 0 * 1000000) = true := by
    rw [hgated, hsm, hen, decide_eq_false h2, decide_eq_false h8, decide_eq_false (Nat.not_lt.mpr hago)]
    decide
  obtain ⟨xs, hxs⟩ : ∃ xs, xs = (s.rst.expiries.filter fun t => s.ago t ≤ 10000000000) ++ [s.now] := ⟨_, rfl⟩
  obtain ⟨u, hu⟩ : ∃ u, u = if (decide (3 ≤ xs.length) && s.rst.skip) then s.wf F.RST_STAT_FW_BROKEN 1 0 else s := ⟨_, rfl⟩
  obtain ⟨hframe, -⟩ : OnlyNames s u [.RST_STAT] := hu ▸ .ite ((OnlyNames.refl s _).wf F.RST_STAT_FW_BROKEN _ _ _ _ (.head _)) (.refl s _)
  obtain ⟨v, hv⟩ : ∃ v, v = u.setRst { u.rst with
    skip := u.rst.skip || decide (3 ≤ xs.length), expiries := if decide (3 ≤ xs.length) then [] else xs } := ⟨_, rfl⟩
  obtain ⟨w, hw⟩ : ∃ w, v.maltRestart = w := ⟨_, rfl⟩
  obtain ⟨⟨c, b, o, sh, f, hwf⟩, hcause, -⟩ := v.maltRestart_spec w hw
  have hvline : v.faultLine = s.faultLine := by rw [hv, hframe]; rfl
  have hvmem : v.mem = s.mem := by rw [hv, hframe]; rfl
  have hvphase : v.rst.phase = s.rst.phase := by rw [hv, hframe]; rfl
  have hline : w.faultLine = s.faultLine := by rw [hwf]; exact hvline
  have hmem : w.mem = s.mem := by rw [hwf]; exact hvmem
  have hphase : w.rst.phase = if s.rst.phase < 4 then 2 else 8 := by
    rw [hwf]
    change (if v.rst.phase < 4 then 2 else 8) = _
    rw [hvphase]
  have hexec : exec .watchdogExpiry s = .next (w.raise .maltsterWatchdog 0 0 (w.rw .RST_STAT 0)) := by
    change execWatchdogExpiry s = _
    unfold execWatchdogExpiry
    rw [if_neg hfree]
    dsimp only
    rw [← hxs, ← hu, ← hv, hw]
  exact ⟨_, hexec, hcause, congrArg (· ++ _) hline, hphase, hmem⟩

/-- Settles O4: each step of start-up by the lemma about its command. -/
theorem startUpGoesThroughItsPhases : Obligations.StartUpGoesThroughItsPhases := by
  unfold Obligations.StartUpGoesThroughItsPhases
  refine ⟨fun s sfdp hpor hreset hrun hphase hready => ?boot, fun s vmode hpor hreset hrun hsm hphase hload => ?start,
    fun s hgated hphase himage hload hrel hline => ?line, fun s hgated hsm h2 h8 hen hago => ?dog⟩
  case boot =>
    obtain ⟨u, hu⟩ : ∃ u, s.flashRead sfdp = u := ⟨_, rfl⟩
    obtain ⟨hframe, hfound, hread⟩ := s.flashRead_spec sfdp u hu
    have hphase' : u.rst.phase = 2 := by rw [hframe]; exact hphase
    have hnow : u.now = s.now := by rw [hframe]; rfl
    obtain ⟨hcfg, hready', hnone, hfw⟩ := State.firmwareChosen_spec hphase' sfdp
    have hexec := exec_bootRomStart sfdp hpor hreset hrun hphase hready
    rw [hu] at hexec
    rw [hnow] at hfw
    refine ⟨_, hexec, ?_, hready', ?_, hnone, hfw⟩
    · rw [hcfg, hfound]
    · rw [hcfg]
      exact hread
  case start => exact exec_firmwareStart vmode hpor hreset hrun hsm hphase hload
  case line => exact exec_startUpRelease hgated hphase himage hload hrel hline
  case dog => exact exec_watchdogExpiry hgated hsm h2 h8 hen hago

end Sys2Proof.Machine
end

section
/-!
SUPPORT. The time base: proof of the statement O41.
-/
namespace Sys2Proof.Machine

/-! ## Changes of registers and of the line I/O -/

/-- From `s` to `t` nothing changes but the registers `rs` and the state of the line I/O. -/
def OnlyRegsLio (s t : State) (rs : List Reg) : Prop := t = { s with regs := t.regs, lio := t.lio } ∧ RegsKept s t rs

section
variable {s t u : State} {rs : List Reg}

theorem OnlyRegsLio.refl (s : State) (rs : List Reg) : OnlyRegsLio s s rs := ⟨rfl, .refl s rs⟩

theorem OnlyRegsLio.of_regs (h : OnlyRegs s t rs) : OnlyRegsLio s t rs := by
  refine ⟨?_, h.2⟩
  have hlio : t.lio = s.lio := by rw [h.1]
  rw [hlio]
  exact h.1

theorem OnlyRegsLio.of_lio (s : State) (l : LineIo) (rs : List Reg) : OnlyRegsLio s { s with lio := l } rs := ⟨rfl, fun _ _ => rfl⟩

theorem OnlyRegsLio.trans (h : OnlyRegsLio s t rs) (h' : OnlyRegsLio t u rs) : OnlyRegsLio s u rs := by
  refine ⟨?_, fun q hq => (h'.2 q hq).trans (h.2 q hq)⟩
  rw [h'.1, h.1]

theorem OnlyRegsLio.mono {rs' : List Reg} (h : OnlyRegsLio s t rs) (hsub : ∀ q ∈ rs, q ∈ rs') : OnlyRegsLio s t rs' :=
  ⟨h.1, fun q hq => h.2 q fun hmem => hq (hsub q hmem)⟩

theorem OnlyRegsLio.setLio (h : OnlyRegsLio s t rs) (l : LineIo) : OnlyRegsLio s { t with lio := l } rs := h.trans (.of_lio t l rs)

theorem OnlyRegsLio.wf (h : OnlyRegsLio s t rs) (f : Fld) (v d i j : Nat) (hf : (⟨f.reg, d, i, j⟩ : Reg) ∈ rs) :
    OnlyRegsLio s (t.wf f v d i j) rs := h.trans (.of_regs ((OnlyRegs.refl t rs).wf f v d i j hf))

theorem OnlyRegsLio.ww (h : OnlyRegsLio s t rs) (n : RegName) (v d i j : Nat) (hn : (⟨n, d, i, j⟩ : Reg) ∈ rs) :
    OnlyRegsLio s (t.ww n v d i j) rs := h.trans (.of_regs ((OnlyRegs.refl t rs).ww n v d i j hn))

theorem OnlyRegsLio.incE (h : OnlyRegsLio s t rs) (f : Fld) (d i j n : Nat) (hf : (⟨f.reg, d, i, j⟩ : Reg) ∈ rs) :
    OnlyRegsLio s (t.incE f d i j n) rs := h.trans (.of_regs ((OnlyRegs.refl t rs).incE f d i j n hf))

theorem OnlyRegsLio.rf_name (h : OnlyRegsLio s t rs) (f : Fld) (d i j : Nat) (hf : ∀ q ∈ rs, q.name ≠ f.reg) : t.rf f d i j = s.rf f d i j := by
  unfold State.rf
  rw [h.2 _ fun hmem => hf _ hmem rfl]

theorem OnlyRegsLio.rw_name (h : OnlyRegsLio s t rs) (n : RegName) (d i j : Nat) (hn : ∀ q ∈ rs, q.name ≠ n) : t.rw n d i j = s.rw n d i j := by
  unfold State.rw
  rw [h.2 _ fun hmem => hn _ hmem rfl]

end

/-! ## A tick -/

/-- What the accumulator and TB_ADJ give in a tick: a carry or a borrow (R728). -/
def TimeBase.carry (x : TimeBase) (adj : Int) : Int := if 2 ^ 40 ≤ (x.acc : Int) + adj then 1 else if (x.acc : Int) + adj < 0 then -1 else 0

/-- Whether a ns of slew is due in a tick (R730). -/
def TimeBase.slewDue (x : TimeBase) (div : Nat) : Bool := x.due || (x.slew ≠ 0 && decide (div ≤ x.count + 1))

/-- The ns of slew of a tick (R730). -/
def TimeBase.slewNs (x : TimeBase) (adj : Int) (div : Nat) : Int :=
  if x.slewDue div then (if 0 < x.slew then 1 else if x.slew < 0 && x.carry adj ≠ -1 then -1 else 0) else 0

/-- The time base after a tick. -/
def TimeBase.ticked (x : TimeBase) (adj : Int) (div : Nat) : TimeBase :=
  { x with
    acc := (((x.acc : Int) + adj) % 2 ^ 40).toNat, step := 0, slew := x.slew - x.slewNs adj div
    count := if x.slew ≠ 0 && decide (div ≤ x.count + 1) then 0 else if x.slew = 0 then 0 else x.count + 1
    due := x.slewDue div && x.slewNs adj div == 0 && x.slew != 0
    marks := if x.step = 0 then x.marks else allSources }

/-- The changes under way of the input pins become older than the step (R758). -/
def State.pinsOld (s : State) : State :=
  { s with lio := { s.lio with pins := s.lio.pins.map fun e => (e.1, { e.2 with old := decide (0 < e.2.run) }) } }

/-- What a tick adds to TB_TIME beside a step (R727). -/
def State.tickNs (s : State) : Int :=
  1 + s.lio.tb.carry (signed32 (s.rf F.TB_ADJ_ADJ 0)) + s.lio.tb.slewNs (signed32 (s.rf F.TB_ADJ_ADJ 0)) (s.rf F.TB_CTL_SLEW_DIV 0)

/-- The state with the time base of the tick. -/
def State.tickBase (s : State) : State := s.setTb (s.lio.tb.ticked (signed32 (s.rf F.TB_ADJ_ADJ 0)) (s.rf F.TB_CTL_SLEW_DIV 0))

theorem State.tick_unstepped {s : State} (hstep : s.lio.tb.step = 0) : s.tick = s.tickBase.slewView.timeMove s.tickNs := by
  unfold State.tick State.tickBase State.tickNs TimeBase.ticked TimeBase.slewNs TimeBase.slewDue TimeBase.carry
  dsimp only
  rw [if_pos hstep, if_pos hstep]

theorem State.tick_stepped {s : State} (hstep : s.lio.tb.step ≠ 0) :
    s.tick = ((s.tickBase.pinsOld.slewView.timeMove s.tickNs).timeMove s.lio.tb.step).wf F.TB_STAT_STEPPED 1 0 := by
  unfold State.tick State.tickBase State.tickNs TimeBase.ticked TimeBase.slewNs TimeBase.slewDue TimeBase.carry State.pinsOld
  dsimp only
  rw [if_neg hstep, if_neg hstep]

/-- The registers of a tick. -/
def tickRegs : List Reg := [⟨.TB_TIME, 0, 0, 0⟩, ⟨.TB_SLEW_LEFT, 0, 0, 0⟩]

theorem State.slewView_only (s : State) : OnlyRegs s s.slewView [reg0 .TB_SLEW_LEFT] := (OnlyRegs.refl s _).ww _ _ _ _ _ (.head _)

/-- TB_TIME moves without a wrap (R726). -/
theorem State.timeMove_within {s : State} {d : Nat} (h : s.now + d < 2 ^ 48) :
    s.timeMove d = s.ww .TB_TIME (s.now + d) 0 := by
  have hval : (((s.now : Int) + d) % 2 ^ 48).toNat = s.now + d := by
    rw [Int.emod_eq_of_lt (by omega) (by omega)]
    omega
  have hin : ¬ ((s.now : Int) + d < 0 || 2 ^ 48 ≤ (s.now : Int) + d) = true := by
    simp only [Bool.or_eq_true, decide_eq_true_eq]
    omega
  unfold State.timeMove
  dsimp only
  rw [if_neg hin, hval]

theorem State.now_ww_time (s : State) {v : Nat} (h : v < 2 ^ 48) : (s.ww .TB_TIME v 0).now = v :=
  (State.rw_ww_same ..).trans (Nat.mod_eq_of_lt h)

theorem State.timeMove_within_only {s : State} {d : Nat} (h : s.now + d < 2 ^ 48) (t : State) (ht : s.timeMove d = t) :
    t.now = s.now + d ∧ OnlyRegs s t [reg0 .TB_TIME] := by
  rw [State.timeMove_within h] at ht
  subst ht
  exact ⟨s.now_ww_time h, (OnlyRegs.refl s _).ww .TB_TIME _ 0 0 0 (.head _)⟩

/-- A tick moves TB_TIME by what it adds (R727). -/
theorem State.tick_unstepped_spec {s : State} (hstep : s.lio.tb.step = 0) {d : Nat} (hns : s.tickNs = d) (hwrap : s.now + d < 2 ^ 48)
    (t : State) (ht : s.tick = t) :
    t.now = s.now + d ∧ t.lio.tb = s.lio.tb.ticked (signed32 (s.rf F.TB_ADJ_ADJ 0)) (s.rf F.TB_CTL_SLEW_DIV 0) ∧ OnlyRegsLio s t tickRegs := by
  rw [State.tick_unstepped hstep, hns] at ht
  obtain ⟨u, hu⟩ : ∃ u, u = s.tickBase.slewView := ⟨_, rfl⟩
  have honly : OnlyRegs s.tickBase u [reg0 .TB_SLEW_LEFT] := hu ▸ s.tickBase.slewView_only
  have hunow : u.now = s.now := State.now_kept (honly.2.names (ns := [.TB_SLEW_LEFT]) (by decide)) (by decide)
  rw [← hu] at ht
  obtain ⟨hnow, hmove⟩ := State.timeMove_within_only (hunow ▸ hwrap) t ht
  have htb : t.lio = s.tickBase.lio := by rw [hmove.1, honly.1]
  refine ⟨by rw [hnow, hunow], by rw [htb]; rfl, ?_⟩
  exact ((OnlyRegsLio.of_lio s s.tickBase.lio tickRegs).trans ((OnlyRegsLio.of_regs honly).mono (by decide))).trans
    ((OnlyRegsLio.of_regs hmove).mono (by decide))

/-- A tick with a step moves TB_TIME by the step too (R729). -/
theorem State.tick_stepped_spec {s : State} {p d : Nat} (hp : 0 < p) (hstep : s.lio.tb.step = (p : Int)) (hns : s.tickNs = d)
    (hwrap : s.now + d + p < 2 ^ 48) (t : State) (ht : s.tick = t) :
    t.now = s.now + d + p ∧ t.lio.tb = s.lio.tb.ticked (signed32 (s.rf F.TB_ADJ_ADJ 0)) (s.rf F.TB_CTL_SLEW_DIV 0) ∧
      t.rf F.TB_STAT_STEPPED 0 = 1 ∧ OnlyRegsLio s t (tickRegs ++ [⟨.TB_STAT, 0, 0, 0⟩]) := by
  have hne : s.lio.tb.step ≠ 0 := by omega
  rw [State.tick_stepped hne, hns, hstep] at ht
  obtain ⟨b, hb⟩ : ∃ b, b = s.tickBase.pinsOld := ⟨_, rfl⟩
  obtain ⟨u, hu⟩ : ∃ u, u = b.slewView := ⟨_, rfl⟩
  have honly : OnlyRegs b u [reg0 .TB_SLEW_LEFT] := hu ▸ b.slewView_only
  have hbs : OnlyRegsLio s b (tickRegs ++ [⟨.TB_STAT, 0, 0, 0⟩]) := hb ▸ (OnlyRegsLio.of_lio s s.tickBase.lio _).setLio _
  have hbnow : b.now = s.now := by rw [hb]; rfl
  have hunow : u.now = s.now := (State.now_kept (honly.2.names (ns := [.TB_SLEW_LEFT]) (by decide)) (by decide)).trans hbnow
  rw [← hb, ← hu] at ht
  obtain ⟨v, hv⟩ : ∃ v, u.timeMove d = v := ⟨_, rfl⟩
  obtain ⟨hvnow, hvmove⟩ := State.timeMove_within_only (d := d) (by rw [hunow]; omega) v hv
  obtain ⟨w, hw⟩ : ∃ w, v.timeMove p = w := ⟨_, rfl⟩
  obtain ⟨hwnow, hwmove⟩ := State.timeMove_within_only (d := p) (by rw [hvnow, hunow]; omega) w hw
  rw [hv, hw] at ht
  have hset : OnlyRegs w t [⟨.TB_STAT, 0, 0, 0⟩] := ht ▸ (OnlyRegs.refl w _).wf F.TB_STAT_STEPPED 1 0 0 0 (.head _)
  have htb : t.lio = b.lio := by rw [hset.1, hwmove.1, hvmove.1, honly.1]
  have hnow : t.now = w.now := State.now_kept (hset.2.names (ns := [.TB_STAT]) (by decide)) (by decide)
  refine ⟨by rw [hnow, hwnow, hvnow, hunow], by rw [htb, hb]; rfl, ht ▸ State.rf_wf_fits _ F.TB_STAT_STEPPED _ _ _ _ rfl (by decide), ?_⟩
  exact (((hbs.trans ((OnlyRegsLio.of_regs honly).mono (by decide))).trans ((OnlyRegsLio.of_regs hvmove).mono (by decide))).trans
    ((OnlyRegsLio.of_regs hwmove).mono (by decide))).trans ((OnlyRegsLio.of_regs hset).mono (by decide))

/-! ## What a tick adds -/

/-- A nonnegative adjustment gives a carry or nothing (R728). -/
theorem TimeBase.carry_nonneg (x : TimeBase) {v : Nat} (hv : v < 2 ^ 31) :
    x.carry (signed32 v) = ((if 2 ^ 40 ≤ x.acc + v then 1 else 0 : Nat) : Int) := by
  have hadj : signed32 v = (v : Int) := by
    unfold signed32
    rw [Nat.mod_eq_of_lt (by omega), if_pos hv]
  unfold TimeBase.carry
  rw [hadj]
  by_cases hc : 2 ^ 40 ≤ x.acc + v
  · rw [if_pos hc, if_pos (by omega)]
    rfl
  · rw [if_neg hc, if_neg (by omega), if_neg (by omega)]
    rfl

theorem TimeBase.slewNs_none {x : TimeBase} (hslew : x.slew = 0) (hdue : x.due = false) (adj : Int) (div : Nat) : x.slewNs adj div = 0 := by
  have hno : x.slewDue div = false := by
    unfold TimeBase.slewDue
    rw [hslew, hdue]
    rfl
  unfold TimeBase.slewNs
  rw [hno]
  rfl

theorem TimeBase.slewNs_up {x : TimeBase} {div : Nat} (hslew : 0 < x.slew) (hdiv : div ≤ x.count + 1) (adj : Int) : x.slewNs adj div = 1 := by
  have hdue : x.slewDue div = true := by
    unfold TimeBase.slewDue
    rw [decide_eq_true (show x.slew ≠ 0 by omega), decide_eq_true hdiv]
    exact Bool.or_true _
  unfold TimeBase.slewNs
  rw [hdue, if_pos rfl, if_pos hslew]

theorem State.tickNs_still {s : State} (hslew : s.lio.tb.slew = 0) (hdue : s.lio.tb.due = false) (hadj : s.rf F.TB_ADJ_ADJ 0 < 2 ^ 31) :
    s.tickNs = ((1 + if 2 ^ 40 ≤ s.lio.tb.acc + s.rf F.TB_ADJ_ADJ 0 then 1 else 0 : Nat) : Int) := by
  unfold State.tickNs
  rw [TimeBase.carry_nonneg _ hadj, TimeBase.slewNs_none hslew hdue]
  push_cast
  omega

/-- Without an adjustment, a tick adds 1 and the slew that is due. -/
theorem State.carry_none {s : State} (hadj : s.rf F.TB_ADJ_ADJ 0 = 0) (hacc : s.lio.tb.acc < 2 ^ 40) :
    s.lio.tb.carry (signed32 (s.rf F.TB_ADJ_ADJ 0)) = 0 := by
  rw [TimeBase.carry_nonneg _ (by rw [hadj]; decide), hadj, if_neg (by omega)]
  rfl

theorem State.tickNs_one {s : State} (hslew : s.lio.tb.slew = 0) (hdue : s.lio.tb.due = false) (hadj : s.rf F.TB_ADJ_ADJ 0 = 0)
    (hacc : s.lio.tb.acc < 2 ^ 40) : s.tickNs = ((1 : Nat) : Int) := by
  unfold State.tickNs
  rw [State.carry_none hadj hacc, TimeBase.slewNs_none hslew hdue]
  rfl

/-! ## A tick that wraps -/

/-- TB_TIME passes its upper end: TB_EPOCH goes on, and the event is raised (R726, R768). -/
theorem State.timeMove_wraps {s : State} (h : s.now = 2 ^ 48 - 1) (t : State) (ht : s.timeMove ((1 : Nat) : Int) = t) :
    t.now = 0 ∧ t.rf F.TB_EPOCH_EPOCH 0 = (s.rf F.TB_EPOCH_EPOCH 0 + 1) % 2 ^ 24 ∧ t.rf F.TB_STAT_WRAP 0 = 1 ∧
      t.faultLine = s.faultLine ++ [faultEv .timeBaseWrap 0 0 0] ∧
      OnlyRegsEv s t [⟨.TB_TIME, 0, 0, 0⟩, ⟨.TB_EPOCH, 0, 0, 0⟩, ⟨.TB_STAT, 0, 0, 0⟩] := by
  have hend : ¬ ((s.now : Int) + ((1 : Nat) : Int) < 0) := by omega
  have hout : ((s.now : Int) + ((1 : Nat) : Int) < 0 || 2 ^ 48 ≤ (s.now : Int) + ((1 : Nat) : Int)) = true := by
    simp only [Bool.or_eq_true, decide_eq_true_eq]
    omega
  have hzero : (((s.now : Int) + ((1 : Nat) : Int)) % 2 ^ 48).toNat = 0 := by
    rw [h]
    decide
  have hepoch : ((((s.rf F.TB_EPOCH_EPOCH 0 : Nat) : Int) + 1) % 2 ^ 24).toNat = (s.rf F.TB_EPOCH_EPOCH 0 + 1) % 2 ^ 24 := by omega
  obtain ⟨u, hu⟩ : ∃ u, u = ((s.ww .TB_TIME 0 0).wf F.TB_EPOCH_EPOCH ((s.rf F.TB_EPOCH_EPOCH 0 + 1) % 2 ^ 24) 0).wf F.TB_STAT_WRAP 1 0 := ⟨_, rfl⟩
  have hmove : t = u.raise .timeBaseWrap 0 0 := by
    rw [← ht]
    unfold State.timeMove
    dsimp only
    rw [if_pos hout, hzero, if_neg hend, hepoch, ← hu]
  have honly : OnlyRegs s u [⟨.TB_TIME, 0, 0, 0⟩, ⟨.TB_EPOCH, 0, 0, 0⟩, ⟨.TB_STAT, 0, 0, 0⟩] :=
    hu ▸ (((OnlyRegs.refl s _).ww .TB_TIME _ _ _ _ (by decide)).wf F.TB_EPOCH_EPOCH _ _ _ _ (by decide)).wf F.TB_STAT_WRAP _ _ _ _ (by decide)
  have hnow : u.now = 0 := by
    have hset : NamesKept (s.ww .TB_TIME 0 0) u [.TB_EPOCH, .TB_STAT] := by
      rw [hu]
      exact (((OnlyNames.refl _ _).wf F.TB_EPOCH_EPOCH _ _ _ _ (by decide)).wf F.TB_STAT_WRAP _ _ _ _ (by decide)).2
    exact (State.now_kept hset (by decide)).trans (s.now_ww_time (by decide))
  have hnext : u.rf F.TB_EPOCH_EPOCH 0 = (s.rf F.TB_EPOCH_EPOCH 0 + 1) % 2 ^ 24 := by
    rw [hu, State.rf_wf_apart _ _ _ _ _ _ _ _ _ _ rfl rfl]
    exact State.rf_wf_fits _ F.TB_EPOCH_EPOCH _ _ _ _ rfl (Nat.mod_lt _ (by decide))
  have hwrap : u.rf F.TB_STAT_WRAP 0 = 1 := hu ▸ State.rf_wf_fits _ F.TB_STAT_WRAP _ _ _ _ rfl (by decide)
  obtain ⟨hframe, hline⟩ := honly.raise .timeBaseWrap 0 0 0
  subst hmove
  exact ⟨hnow, (State.raise_rf ..).trans hnext, (State.raise_rf ..).trans hwrap, hline, hframe⟩

/-! ## Writes of the time base -/

/-- A word read as a signed number. -/
theorem signed48_word (w : Word) : signed48 w.toNat = w.toInt := by
  have hlt := w.isLt
  unfold signed48
  rw [Nat.mod_eq_of_lt hlt, BitVec.toInt_eq_toNat_cond]
  split
  · rw [if_pos (by omega)]
  · rw [if_neg (by omega)]
    rfl

/-- A signed number as the word that holds it. -/
theorem ofNat_toInt (w : Word) : BitVec.ofNat 48 (w.toInt % 2 ^ 48).toNat = w := by
  have hround : (w.toInt % 2 ^ 48).toNat = w.toNat := by
    have h := BitVec.toNat_ofInt (n := 48) w.toInt
    rw [BitVec.ofInt_toInt] at h
    push_cast at h
    exact h.symm
  rw [hround, BitVec.ofNat_toNat, BitVec.setWidth_eq]

theorem State.writeTbSlew_spec (s : State) (w : Word) (t : State) (ht : s.writeTbSlew w.toNat = t) :
    t.lio.tb.slew = w.toInt ∧ t.lio.tb.count = 0 ∧ t.lio.tb.due = false ∧ t.reg ⟨.TB_SLEW_LEFT, 0, 0, 0⟩ = w ∧
      OnlyRegsLio s t [⟨.TB_SLEW_LEFT, 0, 0, 0⟩] := by
  obtain ⟨b, hb⟩ : ∃ b, b = s.setTb { s.lio.tb with slew := w.toInt, count := 0, due := false } := ⟨_, rfl⟩
  have hwrite : t = b.slewView := by
    rw [← ht, hb, ← signed48_word]
    rfl
  have hslew : b.lio.tb.slew = w.toInt ∧ b.lio.tb.count = 0 ∧ b.lio.tb.due = false := by
    rw [hb]
    exact ⟨rfl, rfl, rfl⟩
  obtain ⟨hs, hc, hd⟩ := hslew
  have honly : OnlyRegs b t [⟨.TB_SLEW_LEFT, 0, 0, 0⟩] := hwrite ▸ b.slewView_only
  have hlio : t.lio = b.lio := by rw [honly.1]
  have hreg : t.reg ⟨.TB_SLEW_LEFT, 0, 0, 0⟩ = w := by
    rw [hwrite]
    unfold State.slewView State.ww
    rw [State.setReg_reg_same, hs, ofNat_toInt]
  have hbs : OnlyRegsLio s b [⟨.TB_SLEW_LEFT, 0, 0, 0⟩] := hb ▸ .of_lio s _ _
  exact ⟨by rw [hlio, hs], by rw [hlio, hc], by rw [hlio, hd], hreg, hbs.trans (.of_regs honly)⟩

theorem State.writeTbCtl_spec (s : State) (w : Nat) (t : State) (ht : s.writeTbCtl w = t) :
    t.rf F.TB_CTL_SLEW_DIV 0 = max 100 (bits w 15 0) ∧ t.rf F.TB_CTL_PPS_WIDTH 0 = bits w 31 16 ∧ t.lio.tb.count = 0 ∧
      t.lio.tb.slew = s.lio.tb.slew ∧ OnlyRegsLio s t [⟨.TB_CTL, 0, 0, 0⟩] := by
  have hpps : bits w 31 16 < 2 ^ 16 := bits_lt w 31 16
  have hdiv : bits w 15 0 < 2 ^ 16 := bits_lt w 15 0
  obtain ⟨u, hu⟩ : ∃ u, u = (s.wf F.TB_CTL_PPS_WIDTH (min 999999 (bits w 31 16)) 0).wf F.TB_CTL_SLEW_DIV (max 100 (bits w 15 0)) 0 := ⟨_, rfl⟩
  have honly : OnlyRegs s u [⟨.TB_CTL, 0, 0, 0⟩] :=
    hu ▸ ((OnlyRegs.refl s _).wf F.TB_CTL_PPS_WIDTH _ _ _ _ (.head _)).wf F.TB_CTL_SLEW_DIV _ _ _ _ (.head _)
  have hslew : max 100 (bits w 15 0) < 2 ^ F.TB_CTL_SLEW_DIV.width := max_lt (by decide) hdiv
  have hwidth : min 999999 (bits w 31 16) < 2 ^ F.TB_CTL_PPS_WIDTH.width := (min_le_right _ _).trans_lt (hpps.trans_le (by decide))
  have hlio : u.lio = s.lio := by rw [honly.1]
  have hwrite : t = u.setTb { s.lio.tb with count := 0 } := by
    rw [← ht]
    unfold State.writeTbCtl
    dsimp only
    rw [← hu, hlio]
  have hset : OnlyRegsLio s (u.setTb { s.lio.tb with count := 0 }) [⟨.TB_CTL, 0, 0, 0⟩] := (OnlyRegsLio.of_regs honly).setLio _
  subst hwrite
  refine ⟨(State.setTb_rf ..).trans ?_, (State.setTb_rf ..).trans ?_, rfl, rfl, hset⟩
  · rw [hu]
    exact State.rf_wf_fits _ F.TB_CTL_SLEW_DIV _ _ _ _ rfl hslew
  · rw [hu, State.rf_wf_apart _ _ _ _ _ _ _ _ _ _ rfl rfl, State.rf_wf_fits _ F.TB_CTL_PPS_WIDTH _ _ _ _ rfl hwidth]
    omega

/-! ## The statement O41 -/

/-- The tick that passes the upper end of TB_TIME. -/
theorem State.tick_wraps {s : State} (hstep : s.lio.tb.step = 0) (hns : s.tickNs = ((1 : Nat) : Int)) (hend : s.now = 2 ^ 48 - 1) (t : State)
    (ht : s.tick = t) :
    t.now = 0 ∧ t.rf F.TB_EPOCH_EPOCH 0 = (s.rf F.TB_EPOCH_EPOCH 0 + 1) % 2 ^ 24 ∧ t.rf F.TB_STAT_WRAP 0 = 1 ∧
      t.faultLine = s.faultLine ++ [faultEv .timeBaseWrap 0 0 0] ∧ t = { s with regs := t.regs, lio := t.lio, faultLine := t.faultLine } ∧
      RegsKept s t [⟨.TB_TIME, 0, 0, 0⟩, ⟨.TB_EPOCH, 0, 0, 0⟩, ⟨.TB_SLEW_LEFT, 0, 0, 0⟩, ⟨.TB_STAT, 0, 0, 0⟩] := by
  rw [State.tick_unstepped hstep, hns] at ht
  obtain ⟨u, hu⟩ : ∃ u, u = s.tickBase.slewView := ⟨_, rfl⟩
  rw [← hu] at ht
  have honly : OnlyRegs s.tickBase u [reg0 .TB_SLEW_LEFT] := hu ▸ s.tickBase.slewView_only
  have hsu : OnlyRegsLio s u [reg0 .TB_SLEW_LEFT] := (OnlyRegsLio.of_lio s s.tickBase.lio _).trans (.of_regs honly)
  have hunow : u.now = s.now := State.now_kept (hsu.2.names (ns := [.TB_SLEW_LEFT]) (by decide)) (by decide)
  obtain ⟨hnow, hepoch, hwrap, hline, hframe, hkept⟩ := State.timeMove_wraps (hunow.trans hend) t ht
  refine ⟨hnow, ?_, hwrap, ?_, ?_, fun q hq => ?_⟩
  · rw [hepoch, hsu.rf_name F.TB_EPOCH_EPOCH 0 0 0 (by decide)]
  · rw [hline, hsu.1]
  · have hlio : t.lio = u.lio := by rw [hframe]
    rw [hlio, hframe, hsu.1]
  · rw [hkept q (by simp at hq ⊢; exact ⟨hq.1, hq.2.1, hq.2.2.2⟩), hsu.2 q (by simp at hq ⊢; exact hq.2.2.1)]

theorem State.timeReplicaCheck_spec (s : State) (f off : Nat) (hroom : s.rf F.TB_REPLICA_CNT_COUNT 0 < 2 ^ 32 - 1) :
    ∃ t, exec (.timeReplicaCheck f off) s = .next t ∧
      t.rf F.TB_REPLICA_CNT_COUNT 0 = s.rf F.TB_REPLICA_CNT_COUNT 0 + (if 1 < off then 1 else 0) ∧
      t.rf F.TB_STAT_REPLICA_ERR 0 = (if 4 < off then 1 else s.rf F.TB_STAT_REPLICA_ERR 0) ∧
      t.faultLine = s.faultLine ++ (if 4 < off then [faultEv .timeReplicaError f 0 0] else []) ∧
      OnlyRegsEv s t [⟨.TB_REPLICA_CNT, 0, 0, 0⟩, ⟨.TB_STAT, 0, 0, 0⟩] := by
  obtain ⟨u, hu⟩ : ∃ u, u = s.incE F.TB_REPLICA_CNT_COUNT 0 := ⟨_, rfl⟩
  have honly : OnlyRegs s u [⟨.TB_REPLICA_CNT, 0, 0, 0⟩, ⟨.TB_STAT, 0, 0, 0⟩] := hu ▸ (OnlyRegs.refl s _).incE F.TB_REPLICA_CNT_COUNT _ _ _ _ (.head _)
  have hcnt : u.rf F.TB_REPLICA_CNT_COUNT 0 = s.rf F.TB_REPLICA_CNT_COUNT 0 + 1 := hu ▸ State.rf_incE_one rfl rfl hroom
  have herr : u.rf F.TB_STAT_REPLICA_ERR 0 = s.rf F.TB_STAT_REPLICA_ERR 0 := by
    rw [hu]
    exact State.rf_incE_name _ F.TB_REPLICA_CNT_COUNT F.TB_STAT_REPLICA_ERR _ _ _ _ _ _ _ (by decide)
  have hexec : exec (.timeReplicaCheck f off) s =
      .next (if off ≤ 1 then s else if off ≤ 4 then u else (u.wf F.TB_STAT_REPLICA_ERR 1 0).raise .timeReplicaError f 0) := by
    rw [hu]
    rfl
  rw [hexec]
  by_cases h1 : off ≤ 1
  · rw [if_pos h1, if_neg (show ¬ 1 < off by omega), if_neg (show ¬ 4 < off by omega), if_neg (show ¬ 4 < off by omega), List.append_nil]
    exact ⟨s, rfl, rfl, rfl, rfl, rfl, fun _ _ => rfl⟩
  rw [if_neg h1, if_pos (show 1 < off by omega)]
  by_cases h4 : off ≤ 4
  · rw [if_pos h4, if_neg (show ¬ 4 < off by omega), if_neg (show ¬ 4 < off by omega), List.append_nil]
    have hline : u.faultLine = s.faultLine := by rw [honly.1]
    refine ⟨u, rfl, hcnt, herr, hline, ?_, honly.2⟩
    rw [hline]
    exact honly.1
  · rw [if_neg h4, if_pos (show 4 < off by omega), if_pos (show 4 < off by omega)]
    obtain ⟨v, hv⟩ : ∃ v, v = u.wf F.TB_STAT_REPLICA_ERR 1 0 := ⟨_, rfl⟩
    have hvonly : OnlyRegs s v [⟨.TB_REPLICA_CNT, 0, 0, 0⟩, ⟨.TB_STAT, 0, 0, 0⟩] := hv ▸ honly.wf F.TB_STAT_REPLICA_ERR _ _ _ _ (by decide)
    have hverr : v.rf F.TB_STAT_REPLICA_ERR 0 = 1 := hv ▸ State.rf_wf_fits _ F.TB_STAT_REPLICA_ERR _ _ _ _ rfl (by decide)
    have hvcnt : v.rf F.TB_REPLICA_CNT_COUNT 0 = u.rf F.TB_REPLICA_CNT_COUNT 0 := by
      rw [hv]
      exact State.rf_wf_apart _ _ _ _ _ _ _ _ _ _ rfl rfl
    obtain ⟨hframe, hline⟩ := hvonly.raise .timeReplicaError f 0 0
    rw [← hv]
    exact ⟨_, rfl, (State.raise_rf ..).trans (hvcnt.trans hcnt), (State.raise_rf ..).trans hverr, hline, hframe⟩

/-- Settles O41: a tick by `tick_unstepped_spec`, `tick_stepped_spec` and `tick_wraps`, each other command by the lemma about it. -/
theorem theTimeBaseKeepsTime : Obligations.TheTimeBaseKeepsTime := by
  unfold Obligations.TheTimeBaseKeepsTime
  refine ⟨?tick, ?step, ?stepWrite, ?noStep, ?slewWrite, ?divWrite, ?slew, ?wrap, ?replica, ?holdover, ?exit⟩
  case tick =>
    intro s hstep hslew hdue hadj hacc hroom
    have hns := State.tickNs_still hslew hdue hadj
    obtain ⟨t, ht⟩ : ∃ t, s.tick = t := ⟨_, rfl⟩
    obtain ⟨hnow, htb, hframe, hkept⟩ := State.tick_unstepped_spec hstep hns (by split <;> omega) t ht
    refine ⟨t, congrArg Host.Outcome.next ht, by rw [hnow, Nat.add_assoc], ?_, ?_, hframe, hkept⟩
    · rw [htb]
      have hsigned : signed32 (s.rf F.TB_ADJ_ADJ 0) = ((s.rf F.TB_ADJ_ADJ 0 : Nat) : Int) := by
        unfold signed32
        rw [Nat.mod_eq_of_lt (by omega), if_pos hadj]
      unfold TimeBase.ticked
      dsimp only
      rw [hsigned]
      omega
    · rw [htb]
      exact if_pos hstep
  case step =>
    intro s d hstep hd hslew hdue hadj hacc hroom
    have hns := State.tickNs_one hslew hdue hadj hacc
    obtain ⟨t, ht⟩ : ∃ t, s.tick = t := ⟨_, rfl⟩
    obtain ⟨hnow, htb, hstepped, hframe, hkept⟩ := State.tick_stepped_spec hd hstep hns hroom t ht
    refine ⟨t, congrArg Host.Outcome.next ht, hnow, hstepped, by rw [htb]; rfl, ?_, hframe, hkept⟩
    rw [htb]
    exact if_neg (by omega)
  case stepWrite =>
    intro s w htag hne
    have hval : w.data.toInt ≠ 0 := fun h => hne (BitVec.eq_of_toInt_eq (h.trans BitVec.toInt_zero.symm))
    have hexec : exec (.tbStep w) s = .next (s.setTb { s.lio.tb with step := s.lio.tb.step + w.data.toInt }) := by
      refine congrArg Host.Outcome.next ((if_pos htag).trans ?_)
      unfold State.writeTbStep
      rw [signed48_word]
      exact if_neg hval
    exact ⟨_, hexec, rfl, rfl, rfl⟩
  case noStep =>
    intro s w htag hzero
    refine congrArg Host.Outcome.next ((if_pos htag).trans ?_)
    unfold State.writeTbStep
    rw [signed48_word, hzero]
    exact if_pos BitVec.toInt_zero
  case slewWrite =>
    intro s w htag
    obtain ⟨t, ht⟩ : ∃ t, s.writeTbSlew w.data.toNat = t := ⟨_, rfl⟩
    obtain ⟨hslew, hcount, hdue, hreg, hframe, hkept⟩ := s.writeTbSlew_spec w.data t ht
    exact ⟨t, congrArg Host.Outcome.next ((if_pos htag).trans ht), hslew, hcount, hdue, hreg, hframe, hkept⟩
  case divWrite =>
    intro s w htag
    obtain ⟨t, ht⟩ : ∃ t, s.writeTbCtl w.data.toNat = t := ⟨_, rfl⟩
    obtain ⟨hdiv, hpps, hcount, hslew, hframe, hkept⟩ := s.writeTbCtl_spec w.data.toNat t ht
    exact ⟨t, congrArg Host.Outcome.next ((if_pos htag).trans ht), hdiv, hpps, hcount, hslew, hframe, hkept⟩
  case slew =>
    intro s hslew hdiv hstep hadj hacc hroom
    have hns : s.tickNs = ((2 : Nat) : Int) := by
      unfold State.tickNs
      rw [State.carry_none hadj hacc, TimeBase.slewNs_up hslew hdiv]
      rfl
    have hdue : (decide (s.lio.tb.slew ≠ 0) && (s.lio.tb.due || decide (s.rf F.TB_CTL_SLEW_DIV 0 ≤ s.lio.tb.count + 1))) = true := by
      rw [decide_eq_true (show s.lio.tb.slew ≠ 0 by omega), decide_eq_true hdiv, Bool.or_true]
      rfl
    obtain ⟨t, ht⟩ : ∃ t, s.tick = t := ⟨_, rfl⟩
    obtain ⟨hnow, htb, hframe, hkept⟩ := State.tick_unstepped_spec hstep hns hroom t ht
    refine ⟨t, congrArg Host.Outcome.next ((if_pos hdue).trans ht), hnow, ?_, ?_, hframe, hkept⟩
    · rw [htb]
      exact congrArg (s.lio.tb.slew - ·) (TimeBase.slewNs_up hslew hdiv _)
    · rw [htb]
      refine if_pos ?_
      rw [decide_eq_true (show s.lio.tb.slew ≠ 0 by omega), decide_eq_true hdiv]
      rfl
  case wrap =>
    intro s hstep hslew hdue hadj hacc hend
    obtain ⟨t, ht⟩ : ∃ t, s.tick = t := ⟨_, rfl⟩
    obtain ⟨hnow, hspec⟩ := State.tick_wraps hstep (State.tickNs_one hslew hdue hadj hacc) hend t ht
    have hless : s.tick.now < s.now := by
      rw [ht, hnow, hend]
      decide
    exact ⟨t, congrArg Host.Outcome.next ((if_pos hless).trans ht), hnow, hspec⟩
  case replica => exact fun s f off hroom => s.timeReplicaCheck_spec f off hroom
  case holdover =>
    intro s hclear
    obtain ⟨u, hu⟩ : ∃ u, u = s.wf F.TB_STAT_HOLDOVER 1 0 := ⟨_, rfl⟩
    have honly : OnlyRegs s u [⟨.TB_STAT, 0, 0, 0⟩] := hu ▸ (OnlyRegs.refl s _).wf F.TB_STAT_HOLDOVER _ _ _ _ (.head _)
    have hset : u.rf F.TB_STAT_HOLDOVER 0 = 1 := hu ▸ State.rf_wf_fits _ F.TB_STAT_HOLDOVER _ _ _ _ rfl (by decide)
    have hnow : u.now = s.now := State.now_kept (honly.2.names (ns := [.TB_STAT]) (by decide)) (by decide)
    obtain ⟨hframe, hline⟩ := honly.raise .timeBaseHoldover 0 0 0
    have hexec : exec .timeBaseHoldover s = .next (u.raise .timeBaseHoldover 0 0) := by
      rw [hu]
      exact congrArg Host.Outcome.next (if_neg (by rw [State.rb_of_rf_zero hclear]; decide))
    exact ⟨_, hexec, (State.raise_rf ..).trans hset, hnow, hline, hframe⟩
  case exit =>
    intro s
    obtain ⟨u, hu⟩ : ∃ u, u = s.wf F.TB_STAT_HOLDOVER 0 0 := ⟨_, rfl⟩
    have honly : OnlyRegs s u [⟨.TB_STAT, 0, 0, 0⟩] := hu ▸ (OnlyRegs.refl s _).wf F.TB_STAT_HOLDOVER _ _ _ _ (.head _)
    have hset : u.rf F.TB_STAT_HOLDOVER 0 = 0 := hu ▸ State.rf_wf_fits _ F.TB_STAT_HOLDOVER _ _ _ _ rfl (by decide)
    exact ⟨u, by rw [hu]; rfl, hset, State.now_kept (honly.2.names (ns := [.TB_STAT]) (by decide)) (by decide), honly⟩

end Sys2Proof.Machine
end

section
/-!
SUPPORT. Line events and their records: proof of the statement O42.
-/
namespace Sys2Proof.Machine

/-! ## Event rings -/

/-- The last word of an event record (Table 13-1). -/
def recordWord (kind source encField : Nat) (edge mark : Bool) (epoch lost seq : Nat) : Nat :=
  kind * 2 ^ 44 + source % 16 * 2 ^ 40 + encField % 4 * 2 ^ 38 + b2n edge * 2 ^ 37 + b2n mark * 2 ^ 36 + epoch % 256 * 2 ^ 28
    + lost % 4096 * 2 ^ 16 + seq

theorem recordWord_fields {kind seq : Nat} (hkind : kind < 16) (hseq : seq < 65536) (source encField : Nat) (edge mark : Bool)
    (epoch lost : Nat) :
    bits (recordWord kind source encField edge mark epoch lost seq) 47 44 = kind ∧
      bits (recordWord kind source encField edge mark epoch lost seq) 43 40 = source % 16 ∧
      bit (recordWord kind source encField edge mark epoch lost seq) 37 = edge := by
  have hedge := b2n_lt_two edge
  have hmark := b2n_lt_two mark
  unfold recordWord bits bit
  refine ⟨by omega, by omega, ?_⟩
  have hx : (kind * 2 ^ 44 + source % 16 * 2 ^ 40 + encField % 4 * 2 ^ 38 + b2n edge * 2 ^ 37 + b2n mark * 2 ^ 36 + epoch % 256 * 2 ^ 28
    + lost % 4096 * 2 ^ 16 + seq) / 2 ^ 37 % 2 = b2n edge := by omega
  rw [hx]
  cases edge <;> rfl

/-- The registers of an event ring. -/
def ringRegs (r : Nat) : List Reg := [⟨.LEV_SEQ, 0, r, 0⟩, ⟨.LEV_CTL, 0, r, 0⟩]

/-- What a replaced event ring leaves (R764). -/
theorem State.setRing_spec (s : State) (r : Nat) (x : Ring) (t : State) (ht : s.setRing r x = t) :
    t.ring r = x ∧ t.rf F.LEV_CTL_BUSY 0 r = b2n !x.queue.isEmpty ∧ t.lio.pins = s.lio.pins ∧ t.lio.hold = s.lio.hold ∧
      OnlyRegsLio s t [⟨.LEV_CTL, 0, r, 0⟩] := by
  obtain ⟨u, hu⟩ : ∃ u : State, u = { s with lio := { s.lio with rings := mset s.lio.rings r x ⟨[], 0⟩ } } := ⟨_, rfl⟩
  have hset : t = u.wf F.LEV_CTL_BUSY (b2n !x.queue.isEmpty) 0 r := by rw [← ht, hu]; rfl
  have honly : OnlyRegs u t [⟨.LEV_CTL, 0, r, 0⟩] := hset ▸ (OnlyRegs.refl u _).wf F.LEV_CTL_BUSY _ 0 r 0 (.head _)
  have hlio : t.lio = { s.lio with rings := mset s.lio.rings r x ⟨[], 0⟩ } := by rw [honly.1, hu]
  have hsu : OnlyRegsLio s u [⟨.LEV_CTL, 0, r, 0⟩] := hu ▸ .of_lio s _ _
  refine ⟨?_, ?_, by rw [hlio], by rw [hlio], hsu.trans (.of_regs honly)⟩
  · unfold State.ring
    rw [hlio]
    exact mget_mset_same _ _ _ _
  · rw [hset]
    exact State.rf_wf_fits _ F.LEV_CTL_BUSY _ _ _ _ rfl (b2n_lt_two _)

/-- An event becomes the youngest record of its ring (R734, R736). -/
theorem State.record_spec {s : State} {r : Nat} (hen : s.rf F.LEV_CTL_EN 0 r = 1) (hroom : (s.ring r).queue.length < 16) {kind : Nat}
    (hkind : kind < 16) (source encField : Nat) (at_ : Nat × Nat) (src : Nat) (edge : Bool) (time : Nat) (old : Bool) (t : State)
    (ht : s.record r kind source encField at_ src edge time old = t) :
    (∃ e, (t.ring r).queue = (s.ring r).queue ++ [e] ∧ e.w0 = time ∧ e.w1 = at_.1 ∧ e.seq = s.rf F.LEV_SEQ_SEQ 0 r ∧
        bits e.w3 47 44 = kind ∧ bits e.w3 43 40 = source % 16 ∧ bit e.w3 37 = edge) ∧
      t.rf F.LEV_SEQ_SEQ 0 r = (s.rf F.LEV_SEQ_SEQ 0 r + 1) % 65536 ∧ t.rf F.LEV_CTL_BUSY 0 r = 1 ∧ t.lio.pins = s.lio.pins ∧
      t.lio.hold = s.lio.hold ∧ OnlyRegsLio s t (ringRegs r) := by
  have hon : s.rb F.LEV_CTL_EN 0 r = true := State.rb_of_rf_one hen
  have hseq : s.rf F.LEV_SEQ_SEQ 0 r < 65536 := F.LEV_SEQ_SEQ.get_lt _
  obtain ⟨e, he⟩ : ∃ e : EvRec, e = ⟨time, at_.1, at_.2,
    recordWord kind source encField edge (!old && s.lio.tb.marks.contains src) (s.epochAt time) (s.ring r).lost (s.rf F.LEV_SEQ_SEQ 0 r),
    s.rf F.LEV_SEQ_SEQ 0 r⟩ := ⟨_, rfl⟩
  obtain ⟨u, hu⟩ : ∃ u, u = if old then s else s.setTb { s.lio.tb with marks := s.lio.tb.marks.filter fun m => m ≠ src } := ⟨_, rfl⟩
  have hus : OnlyRegsLio s u (ringRegs r) ∧ u.lio.pins = s.lio.pins ∧ u.lio.hold = s.lio.hold := by
    rw [hu]
    split
    · exact ⟨.refl s _, rfl, rfl⟩
    · exact ⟨.of_lio s _ _, rfl, rfl⟩
  obtain ⟨husL, hupins, huhold⟩ := hus
  obtain ⟨v, hv⟩ : ∃ v, u.setRing r ⟨(s.ring r).queue ++ [e], 0⟩ = v := ⟨_, rfl⟩
  obtain ⟨hring, hbusy, hpins, hhold, hsetL⟩ := u.setRing_spec r _ v hv
  have hrec : t = v.wf F.LEV_SEQ_SEQ ((s.rf F.LEV_SEQ_SEQ 0 r + 1) % 65536) 0 r := by
    rw [← ht, ← hv, hu, he]
    unfold State.record recordWord
    dsimp only
    rw [hon, if_neg (by decide), if_neg (Nat.not_le.mpr hroom)]
  have honly : OnlyRegs v t [⟨.LEV_SEQ, 0, r, 0⟩] := hrec ▸ (OnlyRegs.refl v _).wf F.LEV_SEQ_SEQ _ 0 r 0 (.head _)
  have htv : OnlyRegsLio v t (ringRegs r) := (OnlyRegsLio.of_regs honly).mono (by simp [ringRegs])
  have hlio : t.lio = v.lio := by rw [honly.1]
  have hq : (t.ring r).queue = (s.ring r).queue ++ [e] := by
    unfold State.ring at hring ⊢
    rw [hlio, hring]
  obtain ⟨h47, h43, h37⟩ := recordWord_fields hkind hseq source encField edge (!old && s.lio.tb.marks.contains src) (s.epochAt time) (s.ring r).lost
  refine ⟨⟨e, hq, by rw [he], by rw [he], by rw [he], by rw [he]; exact h47, by rw [he]; exact h43, by rw [he]; exact h37⟩, ?_, ?_,
    by rw [hlio, hpins, hupins], by rw [hlio, hhold, huhold], (husL.trans (hsetL.mono (by simp [ringRegs]))).trans htv⟩
  · rw [hrec]
    exact State.rf_wf_fits _ F.LEV_SEQ_SEQ _ _ _ _ rfl (Nat.mod_lt _ (by decide))
  · have hkeep : t.rf F.LEV_CTL_BUSY 0 r = v.rf F.LEV_CTL_BUSY 0 r := (OnlyRegsLio.of_regs honly).rf_name _ 0 r 0 (by simp; decide)
    rw [hkeep, hbusy]
    simp [b2n]

/-! ## Input pins -/

theorem State.pin_setPin_ne (s : State) {k m : Nat} (x : PinFilter) (h : m ≠ k) : (s.setPin k x).pin m = s.pin m := mget_mset_ne _ _ _ _ _ _ h

/-- A sample that accepts the change of a pin leaves the pin at the new level (R739). -/
theorem PinFilter.sample_accepted {filt : Nat} {x : PinFilter} {level : Bool} (h : x.accepts filt level = true) (t : Nat)
    (seen : List (Nat × Nat)) : (x.sample filt level t seen).level = level := by
  unfold PinFilter.accepts at h
  rw [Bool.and_eq_true, bne_iff_ne, decide_eq_true_eq] at h
  obtain ⟨hne, hrun⟩ := h
  unfold PinFilter.sample
  rw [if_neg hne]
  by_cases hzero : x.run = 0
  · rw [if_pos hzero]
    dsimp only
    rw [if_pos hrun]
  · rw [if_neg hzero]
    dsimp only
    rw [if_pos hrun]

theorem PinFilter.sample_same (filt : Nat) (x : PinFilter) (t : Nat) (seen : List (Nat × Nat)) : (x.sample filt x.level t seen).level = x.level := by
  unfold PinFilter.sample
  rw [if_pos rfl]

/-- A sample of the other level goes on with a change: one more sample, or the new level (R739). -/
theorem PinFilter.sample_other (filt : Nat) {x : PinFilter} {level : Bool} (hne : level ≠ x.level) (t : Nat) (seen : List (Nat × Nat)) :
    (x.sample filt level t seen).level = (if filt ≤ x.run then level else x.level) ∧
      (x.sample filt level t seen).run = (if filt ≤ x.run then 0 else x.run + 1) := by
  unfold PinFilter.sample
  rw [if_neg hne]
  by_cases hzero : x.run = 0
  · rw [if_pos hzero]
    dsimp only
    split
    · exact ⟨rfl, rfl⟩
    · exact ⟨rfl, rfl⟩
  · rw [if_neg hzero]
    dsimp only
    split
    · exact ⟨rfl, rfl⟩
    · exact ⟨rfl, rfl⟩

/-- While a change is not accepted its samples are counted (R739). -/
theorem PinFilter.samples_waiting (x : PinFilter) (filt t : Nat) {level : Bool} (seen : List (Nat × Nat)) (hne : level ≠ x.level)
    (hrun : x.run = 0) (k : Nat) (hk : k ≤ filt) :
    ((List.range k).foldl (fun (y : PinFilter) _ => y.sample filt level t seen) x).level = x.level ∧
      ((List.range k).foldl (fun (y : PinFilter) _ => y.sample filt level t seen) x).run = k := by
  induction k with
  | zero => exact ⟨rfl, hrun⟩
  | succ k ih =>
    obtain ⟨hlevel, hcount⟩ := ih (by omega)
    rw [List.range_succ, List.foldl_append, List.foldl_cons, List.foldl_nil]
    generalize (List.range k).foldl (fun (y : PinFilter) _ => y.sample filt level t seen) x = y at hlevel hcount ⊢
    obtain ⟨hl, hr⟩ := PinFilter.sample_other filt (x := y) (hlevel ▸ hne) t seen
    rw [hl, hr, hcount, if_neg (by omega), if_neg (by omega)]
    exact ⟨hlevel, rfl⟩

/-- A change is accepted by its sample FILT + 1 (R739). -/
theorem PinFilter.samples_level (x : PinFilter) (filt k t : Nat) (level : Bool) (seen : List (Nat × Nat)) (hne : level ≠ x.level)
    (hrun : x.run = 0) (hk : k ≤ filt + 1) :
    ((List.range k).foldl (fun (y : PinFilter) _ => y.sample filt level t seen) x).level = if k = filt + 1 then level else x.level := by
  by_cases hlast : k = filt + 1
  · rw [if_pos hlast, hlast, List.range_succ, List.foldl_append, List.foldl_cons, List.foldl_nil]
    obtain ⟨hlevel, hcount⟩ := x.samples_waiting filt t seen hne hrun filt (le_refl _)
    generalize (List.range filt).foldl (fun (y : PinFilter) _ => y.sample filt level t seen) x = y at hlevel hcount ⊢
    rw [(PinFilter.sample_other filt (x := y) (hlevel ▸ hne) t seen).1, if_pos (by omega)]
  · rw [if_neg hlast]
    exact (x.samples_waiting filt t seen hne hrun k (by omega)).1

/-! ## Encoders -/

/-- What a sample of an encoder's pins leaves (R738, R739). -/
theorem State.encFilter_spec (s : State) (n : Nat) (a b z : Bool) (t : State) (ht : s.encFilter n a b z = t) :
    t.pin (encPin n 0) = (s.pin (encPin n 0)).sample (s.rf F.ENC_CTL_FILT 0 n) a s.now [] ∧
      t.pin (encPin n 1) = (s.pin (encPin n 1)).sample (s.rf F.ENC_CTL_FILT 0 n) b s.now [] ∧
      t.pin (encPin n 2) = (s.pin (encPin n 2)).sample (s.rf F.ENC_CTL_FILT 0 n) z s.now [] ∧
      ∃ p, t = { s with lio := { s.lio with pins := p } } := by
  have h01 : encPin n 0 ≠ encPin n 1 := by unfold encPin; omega
  have h02 : encPin n 0 ≠ encPin n 2 := by unfold encPin; omega
  have h12 : encPin n 1 ≠ encPin n 2 := by unfold encPin; omega
  unfold State.encFilter at ht
  dsimp only at ht
  subst ht
  refine ⟨?_, ?_, State.pin_setPin_same .., _, rfl⟩
  · rw [State.pin_setPin_ne _ _ h02, State.pin_setPin_ne _ _ h01, State.pin_setPin_same]
  · rw [State.pin_setPin_ne _ _ h12, State.pin_setPin_same]

/-- The registers of a counted edge. -/
def countRegs (n : Nat) : List Reg := [⟨.ENC_POS, 0, n, 0⟩, ⟨.ENC_STAT, 0, n, 0⟩, ⟨.ENC_GAP, 0, n, 0⟩, ⟨.ENC_EDGE_TIME, 0, n, 0⟩]

/-- The gap that a counted edge shows: the time since the last one, or a free value at the first (R741). -/
def State.edgeGap (s : State) (n : Nat) : Nat × State :=
  if s.lio.counted.contains n then (min ((s.now + 2 ^ 48 - s.rw .ENC_EDGE_TIME 0 n) % 2 ^ 48) (2 ^ 32 - 1), s) else s.free

/-- The edge time and gap of a counted edge (R741). -/
def State.edgeTimed (s : State) (n : Nat) : State :=
  let seen := s.lio.counted.contains n
  let r := s.edgeGap n
  let s := (r.2.wf F.ENC_GAP_GAP r.1 0 n).ww .ENC_EDGE_TIME s.now 0 n
  if seen then s else { s with lio := { s.lio with counted := s.lio.counted ++ [n] } }

/-- The position and direction of a counted edge upward that does not wrap. -/
def State.countedUp (s : State) (n : Nat) : State := (s.ww .ENC_POS (s.rw .ENC_POS 0 n + 1) 0 n).wf F.ENC_STAT_DIR 1 0 n

theorem State.encMove_up {s : State} {n : Nat} (hroom : s.rw .ENC_POS 0 n + 1 < 2 ^ 48) : s.encMove n 1 = (s.countedUp n).edgeTimed n := by
  have hval : (((s.rw .ENC_POS 0 n : Int) + 1) % 2 ^ 48).toNat = s.rw .ENC_POS 0 n + 1 := by omega
  have hup : ¬ 2 ^ 48 ≤ (s.rw .ENC_POS 0 n : Int) + 1 := by omega
  have hdown : ¬ (s.rw .ENC_POS 0 n : Int) + 1 < 0 := by omega
  unfold State.encMove State.countedUp State.edgeTimed State.edgeGap
  dsimp only
  rw [if_neg hup, if_neg hdown, hval]
  rfl

theorem State.countedUp_spec {s : State} {n : Nat} (hroom : s.rw .ENC_POS 0 n + 1 < 2 ^ 48) (t : State) (ht : s.countedUp n = t) :
    t.rw .ENC_POS 0 n = s.rw .ENC_POS 0 n + 1 ∧ t.rf F.ENC_STAT_DIR 0 n = 1 ∧
      OnlyRegs s t [⟨.ENC_POS, 0, n, 0⟩, ⟨.ENC_STAT, 0, n, 0⟩] := by
  unfold State.countedUp at ht
  subst ht
  refine ⟨?_, State.rf_wf_fits _ F.ENC_STAT_DIR _ _ _ _ rfl (by decide),
    ((OnlyRegs.refl s _).ww .ENC_POS _ 0 n 0 (.head _)).wf F.ENC_STAT_DIR _ 0 n 0 (.tail _ (.head _))⟩
  rw [State.rw_wf_name _ _ _ _ _ _ _ _ _ _ (by decide), State.rw_ww_same, Nat.mod_eq_of_lt hroom]

/-- The edge time and gap of a counted edge: what they change, and their values after an earlier edge (R741). -/
theorem State.edgeTimed_spec (s : State) (n : Nat) (t : State) (ht : s.edgeTimed n = t) :
    t.rw .ENC_EDGE_TIME 0 n = s.now ∧ RegsKept s t [⟨.ENC_GAP, 0, n, 0⟩, ⟨.ENC_EDGE_TIME, 0, n, 0⟩] ∧
      (∃ c l, t = { s with regs := t.regs, freeCtr := c, lio := { s.lio with counted := l } }) ∧
      (s.lio.counted.contains n = true → s.rw .ENC_EDGE_TIME 0 n ≤ s.now →
        t.rf F.ENC_GAP_GAP 0 n = min (s.now - s.rw .ENC_EDGE_TIME 0 n) (2 ^ 32 - 1) ∧ t = { s with regs := t.regs }) := by
  have hnow : s.now < 2 ^ 48 := (s.reg (reg0 .TB_TIME)).isLt
  obtain ⟨g, u, hgap, c, hu⟩ : ∃ g u, s.edgeGap n = (g, u) ∧ ∃ c, u = { s with freeCtr := c } := by
    unfold State.edgeGap
    split
    · exact ⟨_, _, rfl, s.freeCtr, rfl⟩
    · exact ⟨_, _, rfl, _, rfl⟩
  obtain ⟨v, hv⟩ : ∃ v, v = (u.wf F.ENC_GAP_GAP g 0 n).ww .ENC_EDGE_TIME s.now 0 n := ⟨_, rfl⟩
  have honly : OnlyRegs u v [⟨.ENC_GAP, 0, n, 0⟩, ⟨.ENC_EDGE_TIME, 0, n, 0⟩] :=
    hv ▸ ((OnlyRegs.refl u _).wf F.ENC_GAP_GAP _ 0 n 0 (.head _)).ww .ENC_EDGE_TIME _ 0 n 0 (.tail _ (.head _))
  have hreg : ∀ q, u.reg q = s.reg q := fun q => by rw [hu]; rfl
  have hkept : RegsKept s v [⟨.ENC_GAP, 0, n, 0⟩, ⟨.ENC_EDGE_TIME, 0, n, 0⟩] := fun q hq => (honly.2 q hq).trans (hreg q)
  have htime : v.rw .ENC_EDGE_TIME 0 n = s.now := by rw [hv, State.rw_ww_same, Nat.mod_eq_of_lt hnow]
  have hvgap : v.rf F.ENC_GAP_GAP 0 n = g % 2 ^ 32 := by
    rw [hv]
    exact (State.rf_ww_name _ _ F.ENC_GAP_GAP _ _ _ _ _ _ _ (by decide)).trans (State.rf_wf_same _ F.ENC_GAP_GAP _ _ _ _ rfl)
  have hstep : t = if s.lio.counted.contains n then v else { v with lio := { v.lio with counted := v.lio.counted ++ [n] } } := by
    rw [← ht, hv]
    unfold State.edgeTimed
    dsimp only
    rw [hgap]
  cases hseen : s.lio.counted.contains n with
  | true =>
    rw [hseen, if_pos rfl] at hstep
    subst hstep
    refine ⟨htime, hkept, ⟨c, s.lio.counted, by rw [honly.1, hu]⟩, fun _ hpast => ?_⟩
    have hg : s.edgeGap n = (min ((s.now + 2 ^ 48 - s.rw .ENC_EDGE_TIME 0 n) % 2 ^ 48) (2 ^ 32 - 1), s) := if_pos hseen
    rw [hgap, Prod.mk.injEq] at hg
    obtain ⟨hgv, hus⟩ := hg
    have hdiff : (s.now + 2 ^ 48 - s.rw .ENC_EDGE_TIME 0 n) % 2 ^ 48 = s.now - s.rw .ENC_EDGE_TIME 0 n := by omega
    refine ⟨?_, by rw [honly.1, hus]⟩
    rw [hvgap, hgv, hdiff]
    exact Nat.mod_eq_of_lt ((min_le_right _ _).trans_lt (by decide))
  | false =>
    rw [hseen, if_neg Bool.false_ne_true] at hstep
    have hregs : t.regs = v.regs := by rw [hstep]
    have htv : ∀ q, t.reg q = v.reg q := fun q => congrArg (mget · q.key _) hregs
    refine ⟨(congrArg BitVec.toNat (htv _)).trans htime, fun q hq => (htv q).trans (hkept q hq), ⟨c, v.lio.counted ++ [n], ?_⟩, fun h => by cases h⟩
    rw [hregs, hstep, honly.1, hu]

/-- What a counted edge upward leaves (R740, R741). -/
theorem State.encMove_up_spec {s : State} {n : Nat} (hroom : s.rw .ENC_POS 0 n + 1 < 2 ^ 48) (t : State) (ht : s.encMove n 1 = t) :
    t.rw .ENC_POS 0 n = s.rw .ENC_POS 0 n + 1 ∧ t.rf F.ENC_STAT_DIR 0 n = 1 ∧ t.rw .ENC_EDGE_TIME 0 n = s.now ∧
      RegsKept s t (countRegs n) ∧ (∃ c l, t = { s with regs := t.regs, freeCtr := c, lio := { s.lio with counted := l } }) ∧
      (s.lio.counted.contains n = true → s.rw .ENC_EDGE_TIME 0 n ≤ s.now →
        t.rf F.ENC_GAP_GAP 0 n = min (s.now - s.rw .ENC_EDGE_TIME 0 n) (2 ^ 32 - 1) ∧ t = { s with regs := t.regs }) := by
  obtain ⟨u, hu⟩ : ∃ u, s.countedUp n = u := ⟨_, rfl⟩
  obtain ⟨hpos, hdir, honly⟩ := State.countedUp_spec hroom u hu
  rw [State.encMove_up hroom, hu] at ht
  obtain ⟨htime, hkept, ⟨c, l, hframe⟩, hseen⟩ := u.edgeTimed_spec n t ht
  have hnow : u.now = s.now := State.now_kept (honly.2.names (ns := [.ENC_POS, .ENC_STAT]) (by simp)) (by decide)
  have hold : u.rw .ENC_EDGE_TIME 0 n = s.rw .ENC_EDGE_TIME 0 n := congrArg BitVec.toNat (honly.2 _ (by simp))
  have hlio : u.lio = s.lio := by rw [honly.1]
  refine ⟨?_, ?_, htime.trans hnow, fun q hq => ?_, ⟨c, l, ?_⟩, fun hin hpast => ?_⟩
  · exact (congrArg BitVec.toNat (hkept _ (by simp))).trans hpos
  · unfold State.rf at hdir ⊢
    rw [hkept _ (by simp [F.ENC_STAT_DIR]), hdir]
  · simp only [countRegs, List.mem_cons, not_or, List.not_mem_nil, not_false_eq_true, and_true] at hq
    obtain ⟨hp, hst, hg, he⟩ := hq
    rw [hkept q (by simp [hg, he]), honly.2 q (by simp [hp, hst])]
  · rw [hframe, honly.1]
  · obtain ⟨hgap, hregs⟩ := hseen (hlio ▸ hin) (by rw [hold, hnow]; exact hpast)
    refine ⟨by rw [hgap, hnow, hold], ?_⟩
    rw [hregs, honly.1]

/-- A sample with one count upward (R738). -/
theorem State.encSample_up {s : State} {n : Nat} {a b a' b' : Bool} (hcount : encCount (s.rf F.ENC_CTL_MODE 0 n) a b a' b' = 1)
    (hone : s.rf F.ENC_CTL_MODE 0 n = 4 ∨ a = a' ∨ b = b') (hinv : s.rf F.ENC_CTL_INVERT 0 n = 0) (cmp : Bool) :
    s.encSample n a b a' b' cmp = if cmp then (s.encMove n 1).encCompare n else s.encMove n 1 := by
  have herr : ¬ (decide (1 ≤ s.rf F.ENC_CTL_MODE 0 n) && decide (s.rf F.ENC_CTL_MODE 0 n ≤ 3) && decide (a ≠ a') && decide (b ≠ b')) = true := by
    simp only [Bool.and_eq_true, decide_eq_true_eq]
    rintro ⟨⟨⟨-, h3⟩, ha⟩, hb⟩
    rcases hone with hm | h | h
    · omega
    · exact ha h
    · exact hb h
  unfold State.encSample
  dsimp only
  rw [if_neg herr, hcount, State.rb_of_rf_zero hinv, if_neg Bool.false_ne_true, if_neg (by decide)]

/-- A sample in which both levels change is an error (R738). -/
theorem State.encSample_error {s : State} {n : Nat} {a b a' b' : Bool} (h1 : 1 ≤ s.rf F.ENC_CTL_MODE 0 n) (h3 : s.rf F.ENC_CTL_MODE 0 n ≤ 3)
    (ha : a ≠ a') (hb : b ≠ b') (cmp : Bool) :
    s.encSample n a b a' b' cmp = (s.incE F.ENC_ERR_CNT_COUNT 0 n).raise .encoderQuadratureError 0 n := by
  have herr : (decide (1 ≤ s.rf F.ENC_CTL_MODE 0 n) && decide (s.rf F.ENC_CTL_MODE 0 n ≤ 3) && decide (a ≠ a') && decide (b ≠ b')) = true := by
    simp only [Bool.and_eq_true, decide_eq_true_eq]
    exact ⟨⟨⟨h1, h3⟩, ha⟩, hb⟩
  exact if_pos herr

/-- A sample in which neither level changes counts nothing. -/
theorem State.encSample_still (s : State) (n : Nat) (a b cmp : Bool) : s.encSample n a b a b cmp = s := by
  have hzero : ∀ mode, encCount mode a b a b = 0 := fun mode => by
    unfold encCount
    cases a <;> split <;> simp
  have herr : ¬ (decide (1 ≤ s.rf F.ENC_CTL_MODE 0 n) && decide (s.rf F.ENC_CTL_MODE 0 n ≤ 3) && decide (a ≠ a) && decide (b ≠ b)) = true := by
    simp
  unfold State.encSample
  dsimp only
  rw [if_neg herr, hzero]
  split
  · exact if_pos (by decide)
  · exact if_pos rfl

/-- A compare that is not armed does nothing (R743). -/
theorem State.encCompare_off {s : State} {n : Nat} (h : s.rf F.ENC_CTL_CMP_ARM 0 n = 0) : s.encCompare n = s := by
  unfold State.encCompare
  rw [State.rb_of_rf_zero h]
  rfl

/-- An armed compare whose position is met queues a record and disarms where no step is set (R743). -/
theorem State.encCompare_spec {s : State} {n r : Nat} (harm : s.rf F.ENC_CTL_CMP_ARM 0 n = 1) (hpos : s.rw .ENC_POS 0 n = s.rw .ENC_CMP 0 n)
    (hring : s.rf F.ENC_CTL_RING 0 n = r) (hstep : s.rw .ENC_CMP_STEP 0 n = 0) (hen : s.rf F.LEV_CTL_EN 0 r = 1)
    (hroom : (s.ring r).queue.length < 16) (t : State) (ht : s.encCompare n = t) :
    t.rw .ENC_POS 0 n = s.rw .ENC_CMP 0 n ∧ t.rf F.ENC_CTL_CMP_ARM 0 n = 0 ∧
      (∃ e, (t.ring r).queue = (s.ring r).queue ++ [e] ∧ e.w0 = s.now ∧ e.w1 = s.rw .ENC_CMP 0 n ∧ e.seq = s.rf F.LEV_SEQ_SEQ 0 r) ∧
      t.rf F.LEV_SEQ_SEQ 0 r = (s.rf F.LEV_SEQ_SEQ 0 r + 1) % 65536 ∧ t.rf F.LEV_CTL_BUSY 0 r = 1 ∧ t.lio.pins = s.lio.pins := by
  have hmeet : (s.rb F.ENC_CTL_CMP_ARM 0 n && decide (s.rw .ENC_POS 0 n = s.rw .ENC_CMP 0 n)) = true := by
    rw [State.rb_of_rf_one harm, decide_eq_true hpos]
    rfl
  obtain ⟨b, u, hfree, hu⟩ : ∃ b u, s.choice = (b, u) ∧ u = { s with freeCtr := s.freeCtr + 1 } := ⟨_, _, rfl, rfl⟩
  have hreg : ∀ q, u.reg q = s.reg q := fun q => by rw [hu]; rfl
  have hrf : ∀ (f : Fld) (d i j : Nat), u.rf f d i j = s.rf f d i j := fun f d i j => congrArg f.get (hreg _)
  have hurw : ∀ (m : RegName) (d i j : Nat), u.rw m d i j = s.rw m d i j := fun m d i j => congrArg BitVec.toNat (hreg _)
  have hlio : u.lio = s.lio := by rw [hu]
  have huring : u.ring r = s.ring r := by unfold State.ring; rw [hlio]
  obtain ⟨v, hv⟩ : ∃ v, u.record r 3 n n (u.encAt n) (16 + n) b s.now false = v := ⟨_, rfl⟩
  obtain ⟨⟨e, hq, h0, h1, hs, -⟩, hseq, hbusy, hpins, -, honly⟩ :=
    State.record_spec (s := u) (r := r) ((hrf ..).trans hen) (huring ▸ hroom) (by decide) n n (u.encAt n) (16 + n) b s.now false v hv
  have hvname : ∀ (m : RegName) (d i j : Nat), m ≠ .LEV_SEQ → m ≠ .LEV_CTL → v.rw m d i j = s.rw m d i j := fun m d i j hsq hct =>
    (honly.rw_name m d i j (by simp [ringRegs, hsq.symm, hct.symm])).trans (hurw ..)
  have hset : t = v.wf F.ENC_CTL_CMP_ARM 0 0 n := by
    rw [← ht]
    unfold State.encCompare
    dsimp only
    rw [if_pos hmeet, hfree, hring]
    dsimp only
    rw [hv, hvname _ _ _ _ (by decide) (by decide), hstep]
    exact if_pos (by decide)
  have hlast : OnlyRegs v t [⟨.ENC_CTL, 0, n, 0⟩] := hset ▸ (OnlyRegs.refl v _).wf F.ENC_CTL_CMP_ARM _ 0 n 0 (.head _)
  have htlio : t.lio = v.lio := by rw [hlast.1]
  have hkeep : ∀ f : Fld, f.reg ≠ .ENC_CTL → t.rf f 0 r = v.rf f 0 r := fun f hf =>
    (OnlyRegsLio.of_regs hlast).rf_name f 0 r 0 (by simp [hf.symm])
  have hencat : (u.encAt n).1 = s.rw .ENC_CMP 0 n := (hurw ..).trans hpos
  refine ⟨?_, ?_, ⟨e, ?_, h0, h1.trans hencat, hs.trans (hrf ..)⟩, ?_, ?_, by rw [htlio, hpins, hlio]⟩
  · rw [(OnlyRegsLio.of_regs hlast).rw_name _ _ _ _ (by simp), hvname _ _ _ _ (by decide) (by decide), hpos]
  · rw [hset]
    exact State.rf_wf_fits _ F.ENC_CTL_CMP_ARM _ _ _ _ rfl (by decide)
  · have htring : t.ring r = v.ring r := by unfold State.ring; rw [htlio]
    rw [htring, hq, huring]
  · rw [hkeep _ (by decide), hseq, hrf]
  · rw [hkeep _ (by decide), hbusy]

/-! ## Encoder samples -/

/-- A sample of an encoder that accepts no rising edge of Z (R738). -/
theorem exec_encoderEdge {s : State} {n : Nat} {a b z : Bool} (hz : s.encIndexed n z = false) (t : State) (ht : s.encFilter n a b z = t) :
    exec (.encoderEdge n (a, b) z) s = .next (t.encSample n (s.pin (encPin n 0)).level (s.pin (encPin n 1)).level (t.pin (encPin n 0)).level
      (t.pin (encPin n 1)).level true) := by
  rw [← ht]
  exact congrArg Host.Outcome.next (if_neg (by rw [hz]; decide))

/-- A counted edge upward without a compare (R738, R740, R741). -/
theorem exec_encoderEdge_counts {s : State} {n : Nat} {a b z a' b' : Bool}
    (ha : a' = ((s.pin (encPin n 0)).sample (s.rf F.ENC_CTL_FILT 0 n) a s.now []).level)
    (hb : b' = ((s.pin (encPin n 1)).sample (s.rf F.ENC_CTL_FILT 0 n) b s.now []).level) (hz : s.encIndexed n z = false)
    (hinv : s.rf F.ENC_CTL_INVERT 0 n = 0)
    (hone : s.rf F.ENC_CTL_MODE 0 n = 4 ∨ (s.pin (encPin n 0)).level = a' ∨ (s.pin (encPin n 1)).level = b')
    (hcount : encCount (s.rf F.ENC_CTL_MODE 0 n) (s.pin (encPin n 0)).level (s.pin (encPin n 1)).level a' b' = 1) :
    ∃ t, (t.pin (encPin n 0)).level = a' ∧ (t.pin (encPin n 1)).level = b' ∧ (∃ p, t = { s with lio := { s.lio with pins := p } }) ∧
      exec (.encoderEdge n (a, b) z) s = .next ((t.encMove n 1).encCompare n) := by
  obtain ⟨t, ht⟩ : ∃ t, s.encFilter n a b z = t := ⟨_, rfl⟩
  obtain ⟨hpa, hpb, -, p, hframe⟩ := s.encFilter_spec n a b z t ht
  have hta : (t.pin (encPin n 0)).level = a' := by rw [hpa, ha]
  have htb : (t.pin (encPin n 1)).level = b' := by rw [hpb, hb]
  have hrf : ∀ (f : Fld) (d i j : Nat), t.rf f d i j = s.rf f d i j := fun f d i j => by rw [hframe]; rfl
  refine ⟨t, hta, htb, ⟨p, hframe⟩, ?_⟩
  rw [exec_encoderEdge hz t ht, hta, htb, State.encSample_up (by rw [hrf]; exact hcount) (by rw [hrf]; exact hone) (by rw [hrf]; exact hinv)]
  rfl

/-! ## Bits of a register -/

/-- A number with a bit more that it did not have: its other bits stay. -/
theorem bit_add_pow {x k : Nat} (h : bit x k = false) (j : Nat) : bit (x + 2 ^ k) j = if j = k then true else bit x j := by
  have heven : x / 2 ^ k % 2 = 0 := by
    have : ¬ x / 2 ^ k % 2 = 1 := by simpa [bit] using h
    omega
  rcases Nat.lt_trichotomy j k with hlt | heq | hgt
  · rw [if_neg (by omega), bit_eq_testBit, bit_eq_testBit, Nat.add_comm, Nat.testBit_two_pow_add_gt hlt]
  · subst heq
    rw [if_pos rfl, bit_eq_testBit, Nat.add_comm, Nat.testBit_two_pow_add_eq, ← bit_eq_testBit, h]
    rfl
  · obtain ⟨m, rfl⟩ : ∃ m, j = k + 1 + m := ⟨j - k - 1, by omega⟩
    have hsplit : ∀ y, y / 2 ^ (k + 1 + m) = y / 2 ^ k / 2 / 2 ^ m := fun y => by
      rw [Nat.div_div_eq_div_mul, Nat.div_div_eq_div_mul, pow_add, pow_succ, Nat.mul_assoc]
    have hadd : (x + 2 ^ k) / 2 ^ k = x / 2 ^ k + 1 := Nat.add_div_right x (by positivity)
    have hhalf : (x / 2 ^ k + 1) / 2 = x / 2 ^ k / 2 := by omega
    rw [if_neg (by omega)]
    unfold bit
    rw [hsplit, hsplit, hadd, hhalf]

/-- A number with one bit set to a value. -/
theorem bit_putBit (x k : Nat) (v : Bool) (j : Nat) : bit (putBit x k v) j = if j = k then v else bit x j := by
  unfold putBit
  by_cases hsame : bit x k = v
  · rw [if_pos hsame]
    by_cases hj : j = k
    · rw [if_pos hj, hj, hsame]
    · rw [if_neg hj]
  rw [if_neg hsame]
  cases v with
  | true => exact bit_add_pow (by simpa using hsame) j
  | false =>
    have hone : bit x k = true := by simpa using hsame
    have hle : 2 ^ k ≤ x := by
      by_contra hlt
      have hzero : bit x k = false := by
        unfold bit
        rw [Nat.div_eq_of_lt (Nat.lt_of_not_le hlt)]
        rfl
      rw [hzero] at hone
      cases hone
    have hback := bit_add_pow (bit_sub_pow hone) j
    rw [Nat.sub_add_cancel hle] at hback
    rw [if_neg Bool.false_ne_true]
    by_cases hj : j = k
    · rw [if_pos hj, hj]
      exact bit_sub_pow hone
    · rw [if_neg hj] at hback ⊢
      exact hback.symm

/-- A bit of a word. -/
theorem bit_mod_word (x j : Nat) : bit (x % 2 ^ 48) j = (decide (j < 48) && bit x j) := by
  rw [bit_eq_testBit, bit_eq_testBit, Nat.testBit_mod_two_pow]

theorem bit_of_wide {x j : Nat} (hx : x < 2 ^ 48) (hj : ¬ j < 48) : bit x j = false := by
  rw [← Nat.mod_eq_of_lt hx, bit_mod_word, decide_eq_false hj]
  rfl

/-- A register with one bit set to a value. -/
theorem State.bit_ww_putBit (s : State) (n : RegName) (d i j : Nat) {k : Nat} (hk : k < 48) (v : Bool) (m : Nat) :
    bit ((s.ww n (putBit (s.rw n d i j) k v) d i j).rw n d i j) m = if m = k then v else bit (s.rw n d i j) m := by
  rw [State.rw_ww_same, bit_mod_word, bit_putBit]
  by_cases hm : m < 48
  · rw [decide_eq_true hm, Bool.true_and]
  · have hlt : s.rw n d i j < 2 ^ 48 := (s.reg ⟨n, d, i, j⟩).isLt
    rw [decide_eq_false hm, if_neg (by omega), bit_of_wide hlt hm]
    rfl

/-! ## Product detect and GPIO inputs -/

/-- What a chosen edge of a product-detect input leaves outside a holdoff (R745, R746, R747). -/
theorem State.pdEdge_spec {s : State} {n r : Nat} {up : Bool} {x : PinFilter} (hcross : x.cross < 2 ^ 48) (hhold : s.lio.hold.contains n = false)
    (hedge : edgeChosen (s.rf F.PD_CTL_EDGE 0 n) up = true) (hring : s.rf F.PD_CTL_RING 0 n = r) (hen : s.rf F.LEV_CTL_EN 0 r = 1)
    (hroom : (s.ring r).queue.length < 16) (hcnt : s.rf F.PD_CNT_COUNT 0 n < 2 ^ 32 - 1) (hn : n < 16) (t : State) (ht : s.pdEdge n up x = t) :
    t.rw .PD_LAST 0 n = x.cross ∧ t.rf F.PD_CNT_COUNT 0 n = s.rf F.PD_CNT_COUNT 0 n + 1 ∧
      t.lio.hold = s.lio.hold ++ (if s.rf F.PD_CTL_HOLDOFF 0 n = 0 then [] else [n]) ∧ t.lio.pins = s.lio.pins ∧
      (∃ e, (t.ring r).queue = (s.ring r).queue ++ [e] ∧ e.w0 = x.cross ∧
        e.w1 = (x.seen.getD (s.rf F.PD_CTL_ENC 0 n) (s.encAt (s.rf F.PD_CTL_ENC 0 n))).1 ∧ bits e.w3 43 40 = n ∧ bit e.w3 37 = up) ∧
      OnlyRegsLio s t [⟨.PD_LAST, 0, n, 0⟩, ⟨.PD_CNT, 0, n, 0⟩, ⟨.LEV_SEQ, 0, r, 0⟩, ⟨.LEV_CTL, 0, r, 0⟩] := by
  obtain ⟨u, hu⟩ : ∃ u, u = (s.ww .PD_LAST x.cross 0 n).incE F.PD_CNT_COUNT 0 n := ⟨_, rfl⟩
  have honly : OnlyRegs s u [⟨.PD_LAST, 0, n, 0⟩, ⟨.PD_CNT, 0, n, 0⟩] :=
    hu ▸ ((OnlyRegs.refl s _).ww .PD_LAST _ 0 n 0 (.head _)).incE F.PD_CNT_COUNT 0 n 0 1 (.tail _ (.head _))
  have hnames : NamesKept s u [.PD_LAST, .PD_CNT] := honly.2.names (by simp)
  have hul : OnlyRegsLio s u [⟨.PD_LAST, 0, n, 0⟩, ⟨.PD_CNT, 0, n, 0⟩] := .of_regs honly
  have hlio : u.lio = s.lio := by rw [honly.1]
  have huring : u.ring r = s.ring r := by unfold State.ring; rw [hlio]
  have hulast : u.rw .PD_LAST 0 n = x.cross := by
    have hcnts : OnlyRegs (s.ww .PD_LAST x.cross 0 n) u [⟨.PD_CNT, 0, n, 0⟩] := hu ▸ (OnlyRegs.refl _ _).incE F.PD_CNT_COUNT 0 n 0 1 (.head _)
    rw [(OnlyRegsLio.of_regs hcnts).rw_name _ _ _ _ (by simp), State.rw_ww_same, Nat.mod_eq_of_lt hcross]
  have hucnt : u.rf F.PD_CNT_COUNT 0 n = s.rf F.PD_CNT_COUNT 0 n + 1 := by
    have hww : (s.ww .PD_LAST x.cross 0 n).rf F.PD_CNT_COUNT 0 n = s.rf F.PD_CNT_COUNT 0 n := State.rf_ww_name _ _ F.PD_CNT_COUNT _ _ _ _ _ _ _ (by decide)
    rw [hu, State.rf_incE_one rfl rfl (hww ▸ hcnt), hww]
  have hencat : ∀ k, u.encAt k = s.encAt k := fun k => by
    unfold State.encAt
    rw [hnames.rf _ _ _ _ (by decide), hul.rw_name _ _ _ _ (by simp)]
  obtain ⟨v, hv⟩ : ∃ v, u.record r 1 n (s.rf F.PD_CTL_ENC 0 n) (x.seen.getD (s.rf F.PD_CTL_ENC 0 n) (s.encAt (s.rf F.PD_CTL_ENC 0 n))) n up
    x.cross x.old = v := ⟨_, rfl⟩
  obtain ⟨⟨e, hq, h0, h1, -, -, h43, h37⟩, -, -, hpins, hvhold, hrec⟩ := State.record_spec (s := u) (r := r)
    ((hnames.rf _ _ _ _ (by decide)).trans hen) (huring ▸ hroom) (by decide) n (s.rf F.PD_CTL_ENC 0 n)
    (x.seen.getD (s.rf F.PD_CTL_ENC 0 n) (s.encAt (s.rf F.PD_CTL_ENC 0 n))) n up x.cross x.old v hv
  have hvrf : ∀ f : Fld, f.reg ≠ .LEV_SEQ → f.reg ≠ .LEV_CTL → ∀ i, v.rf f 0 i = u.rf f 0 i := fun f hs hc i =>
    hrec.rf_name f 0 i 0 (by simp [ringRegs, hs.symm, hc.symm])
  have hstep : t = if s.rf F.PD_CTL_HOLDOFF 0 n = 0 then v else { v with lio := { v.lio with hold := v.lio.hold ++ [n] } } := by
    rw [← ht]
    unfold State.pdEdge
    rw [hhold, if_neg Bool.false_ne_true, if_pos hedge]
    dsimp only
    rw [← hu, hnames.rf F.PD_CTL_RING _ _ _ (by decide), hring, hnames.rf F.PD_CTL_ENC _ _ _ (by decide), hencat,
      Nat.mod_eq_of_lt hcross, hv, hvrf F.PD_CTL_HOLDOFF (by decide) (by decide), hnames.rf F.PD_CTL_HOLDOFF _ _ _ (by decide)]
  have hvl : OnlyRegsLio s v [⟨.PD_LAST, 0, n, 0⟩, ⟨.PD_CNT, 0, n, 0⟩, ⟨.LEV_SEQ, 0, r, 0⟩, ⟨.LEV_CTL, 0, r, 0⟩] :=
    (hul.mono (by simp)).trans (hrec.mono (by simp [ringRegs]))
  have hregs : t.regs = v.regs ∧ t.lio.pins = v.lio.pins ∧ t.lio.rings = v.lio.rings ∧
      t.lio.hold = v.lio.hold ++ (if s.rf F.PD_CTL_HOLDOFF 0 n = 0 then [] else [n]) ∧
      OnlyRegsLio s t [⟨.PD_LAST, 0, n, 0⟩, ⟨.PD_CNT, 0, n, 0⟩, ⟨.LEV_SEQ, 0, r, 0⟩, ⟨.LEV_CTL, 0, r, 0⟩] := by
    rw [hstep]
    split
    · exact ⟨rfl, rfl, rfl, (List.append_nil _).symm, hvl⟩
    · exact ⟨rfl, rfl, rfl, rfl, hvl.setLio _⟩
  obtain ⟨hregs, htp, htr, hth, honlyt⟩ := hregs
  have htv : ∀ q, t.reg q = v.reg q := fun q => congrArg (mget · q.key _) hregs
  refine ⟨?_, ?_, by rw [hth, hvhold, hlio], by rw [htp, hpins, hlio], ⟨e, ?_, h0, h1, ?_, h37⟩, honlyt⟩
  · rw [← hulast, ← hrec.rw_name .PD_LAST 0 n 0 (by simp [ringRegs])]
    exact congrArg BitVec.toNat (htv _)
  · rw [← hucnt, ← hvrf F.PD_CNT_COUNT (by decide) (by decide)]
    exact congrArg F.PD_CNT_COUNT.get (htv _)
  · have htring : t.ring r = v.ring r := by unfold State.ring; rw [htr]
    rw [htring, hq, huring]
  · rw [h43, Nat.mod_eq_of_lt hn]

/-- What an edge of a GPIO input that its ring records leaves (R754, R755). -/
theorem State.gpioEdge_spec {s : State} {p r : Nat} {up : Bool} {x : PinFilter} (hcross : x.cross < 2 ^ 48)
    (hedge : edgeChosen (s.rf F.GPIO_CFG_EDGE 0 p) up = true) (hring : s.rf F.GPIO_CFG_RING 0 p = r)
    (hhi : s.rf F.LEV_CTL_EVT_GPIO_HI 0 r = if 48 ≤ p then 1 else 0) (hen : s.rf F.LEV_CTL_EN 0 r = 1)
    (hroom : (s.ring r).queue.length < 16) (t : State) (ht : s.gpioEdge p up x = t) :
    (∀ k, bit (t.rw .GPIO_IN 0 (p / 48)) k = if k = p % 48 then up else bit (s.rw .GPIO_IN 0 (p / 48)) k) ∧ t.lio.pins = s.lio.pins ∧
      (∃ e, (t.ring r).queue = (s.ring r).queue ++ [e] ∧ e.w0 = x.cross ∧ bits e.w3 47 44 = 4) ∧
      OnlyRegsLio s t [⟨.GPIO_IN, 0, p / 48, 0⟩, ⟨.LEV_SEQ, 0, r, 0⟩, ⟨.LEV_CTL, 0, r, 0⟩] := by
  obtain ⟨u, hu⟩ : ∃ u, u = s.ww .GPIO_IN (putBit (s.rw .GPIO_IN 0 (p / 48)) (p % 48) up) 0 (p / 48) := ⟨_, rfl⟩
  have honly : OnlyRegs s u [⟨.GPIO_IN, 0, p / 48, 0⟩] := hu ▸ (OnlyRegs.refl s _).ww .GPIO_IN _ 0 _ 0 (.head _)
  have hnames : NamesKept s u [.GPIO_IN] := honly.2.names (by simp)
  have hlio : u.lio = s.lio := by rw [honly.1]
  have huring : u.ring r = s.ring r := by unfold State.ring; rw [hlio]
  have hbits : ∀ k, bit (u.rw .GPIO_IN 0 (p / 48)) k = if k = p % 48 then up else bit (s.rw .GPIO_IN 0 (p / 48)) k := fun k => by
    rw [hu]
    exact s.bit_ww_putBit .GPIO_IN 0 (p / 48) 0 (Nat.mod_lt _ (by decide)) up k
  have hside : s.rb F.LEV_CTL_EVT_GPIO_HI 0 r = decide (48 ≤ p) := by
    by_cases hp : 48 ≤ p
    · rw [if_pos hp] at hhi
      rw [State.rb_of_rf_one hhi, decide_eq_true hp]
    · rw [if_neg hp] at hhi
      rw [State.rb_of_rf_zero hhi, decide_eq_false hp]
  have huside : u.rb F.LEV_CTL_EVT_GPIO_HI 0 r = decide (48 ≤ p) := by
    unfold State.rb at hside ⊢
    rw [hnames.rf _ _ _ _ (by decide), hside]
  have hchosen : (edgeChosen (u.rf F.GPIO_CFG_EDGE 0 p) up && u.rb F.LEV_CTL_EVT_GPIO_HI 0 r == decide (48 ≤ p)) = true := by
    rw [hnames.rf F.GPIO_CFG_EDGE _ _ _ (by decide), hedge, huside]
    exact beq_self_eq_true _
  have hrec : u.record r 4 (p % 48) (p % 48 / 16) (x.seen.getD (u.rf F.GPIO_CFG_ENC 0 p) (u.encAt (u.rf F.GPIO_CFG_ENC 0 p))) (20 + p) up
      x.cross x.old = t := by
    rw [← ht]
    unfold State.gpioEdge
    dsimp only
    rw [← hu, hnames.rf F.GPIO_CFG_RING _ _ _ (by decide), hring, if_pos hchosen, Nat.mod_eq_of_lt hcross]
  obtain ⟨⟨e, hq, h0, -, -, h47, -⟩, -, -, hpins, -, hlast⟩ := State.record_spec (s := u) (r := r)
    ((hnames.rf _ _ _ _ (by decide)).trans hen) (huring ▸ hroom) (by decide) _ _ _ _ _ _ _ t hrec
  refine ⟨fun k => ?_, by rw [hpins, hlio], ⟨e, by rw [hq, huring], h0, h47⟩,
    ((OnlyRegsLio.of_regs honly).mono (by simp)).trans (hlast.mono (by simp [ringRegs]))⟩
  rw [hlast.rw_name .GPIO_IN _ _ _ (by simp [ringRegs]), hbits]

/-! ## Commands about lines and rings -/

/-- A rising edge of Z with the other levels at rest (R742). -/
theorem exec_encoderIndex_spec {s : State} {n r : Nat} (hring : s.rf F.ENC_CTL_RING 0 n = r) (hzrec : s.rf F.ENC_CTL_Z_REC 0 n = 1)
    (hen : s.rf F.LEV_CTL_EN 0 r = 1) (hroom : (s.ring r).queue.length < 16) (hz : s.encIndexed n true = true) :
    ∃ t, exec (.encoderIndex n ((s.pin (encPin n 0)).level, (s.pin (encPin n 1)).level) true) s = .next t ∧
      t.rw .ENC_INDEX_POS 0 n = s.rw .ENC_POS 0 n ∧ t.rf F.ENC_STAT_Z_SEEN 0 n = 1 ∧
      t.rw .ENC_POS 0 n = (if s.rf F.ENC_CTL_Z_CLEAR 0 n = 1 then 0 else s.rw .ENC_POS 0 n) ∧ (t.pin (encPin n 2)).level = true ∧
      (∃ e, (t.ring r).queue = (s.ring r).queue ++ [e] ∧ e.w0 = s.now ∧ e.w1 = t.rw .ENC_POS 0 n ∧ bits e.w3 47 44 = 2) ∧
      OnlyRegsLio s t
        [⟨.ENC_POS, 0, n, 0⟩, ⟨.ENC_INDEX_POS, 0, n, 0⟩, ⟨.ENC_STAT, 0, n, 0⟩, ⟨.LEV_SEQ, 0, r, 0⟩, ⟨.LEV_CTL, 0, r, 0⟩] := by
  obtain ⟨u, hu⟩ : ∃ u, s.encFilter n (s.pin (encPin n 0)).level (s.pin (encPin n 1)).level true = u := ⟨_, rfl⟩
  obtain ⟨hpa, hpb, hpz, p, hframe⟩ := s.encFilter_spec n _ _ true u hu
  have hposlt : s.rw .ENC_POS 0 n < 2 ^ 48 := (s.reg ⟨.ENC_POS, 0, n, 0⟩).isLt
  have hureg : ∀ q, u.reg q = s.reg q := fun q => by rw [hframe]; rfl
  have huring : u.ring r = s.ring r := by rw [hframe]; rfl
  have husL : OnlyRegsLio s u [⟨.ENC_POS, 0, n, 0⟩, ⟨.ENC_INDEX_POS, 0, n, 0⟩, ⟨.ENC_STAT, 0, n, 0⟩] := by
    rw [hframe]
    exact .of_lio s _ _
  obtain ⟨v, hv⟩ : ∃ v, v = (u.ww .ENC_INDEX_POS (s.rw .ENC_POS 0 n) 0 n).wf F.ENC_STAT_Z_SEEN 1 0 n := ⟨_, rfl⟩
  have huv : OnlyRegs u v [⟨.ENC_POS, 0, n, 0⟩, ⟨.ENC_INDEX_POS, 0, n, 0⟩, ⟨.ENC_STAT, 0, n, 0⟩] :=
    hv ▸ ((OnlyRegs.refl u _).ww .ENC_INDEX_POS _ 0 n 0 (.tail _ (.head _))).wf F.ENC_STAT_Z_SEEN _ 0 n 0 (.tail _ (.tail _ (.head _)))
  have hvidx : v.rw .ENC_INDEX_POS 0 n = s.rw .ENC_POS 0 n := by
    rw [hv, State.rw_wf_name _ _ _ _ _ _ _ _ _ _ (by decide), State.rw_ww_same, Nat.mod_eq_of_lt hposlt]
  have hvseen : v.rf F.ENC_STAT_Z_SEEN 0 n = 1 := hv ▸ State.rf_wf_fits _ F.ENC_STAT_Z_SEEN _ _ _ _ rfl (by decide)
  have hvpos : v.rw .ENC_POS 0 n = s.rw .ENC_POS 0 n := by
    rw [hv, State.rw_wf_name _ _ _ _ _ _ _ _ _ _ (by decide), State.rw_ww_name _ _ _ _ _ _ _ _ _ _ (by decide)]
    exact congrArg BitVec.toNat (hureg _)
  have hvlio : v.lio = u.lio := by rw [huv.1]
  have hvpin : ∀ k, v.pin k = u.pin k := fun k => by unfold State.pin; rw [hvlio]
  have hstill : s.encStep v n (!s.rb F.ENC_CTL_Z_CLEAR 0 n) = v := by
    unfold State.encStep
    rw [hvpin, hvpin, hpa, hpb, PinFilter.sample_same, PinFilter.sample_same, State.encSample_still]
  obtain ⟨w, hw⟩ : ∃ w, w = if s.rb F.ENC_CTL_Z_CLEAR 0 n then v.ww .ENC_POS 0 0 n else v := ⟨_, rfl⟩
  have hvw : OnlyRegs v w [⟨.ENC_POS, 0, n, 0⟩] ∧ w.rw .ENC_POS 0 n = if s.rf F.ENC_CTL_Z_CLEAR 0 n = 1 then 0 else s.rw .ENC_POS 0 n := by
    by_cases hc : s.rf F.ENC_CTL_Z_CLEAR 0 n = 1
    · rw [if_pos hc, hw, State.rb_of_rf_one hc, if_pos rfl]
      exact ⟨(OnlyRegs.refl v _).ww .ENC_POS 0 0 n 0 (.head _), State.rw_ww_same ..⟩
    · have hc0 : s.rf F.ENC_CTL_Z_CLEAR 0 n = 0 := by
        have := F.ENC_CTL_Z_CLEAR.get_lt (s.reg ⟨.ENC_CTL, 0, n, 0⟩)
        have hlt : s.rf F.ENC_CTL_Z_CLEAR 0 n < 2 := this
        omega
      rw [if_neg hc, hw, State.rb_of_rf_zero hc0, if_neg Bool.false_ne_true]
      exact ⟨.refl v _, hvpos⟩
  obtain ⟨hvw, hwpos⟩ := hvw
  have hswL : OnlyRegsLio s w [⟨.ENC_POS, 0, n, 0⟩, ⟨.ENC_INDEX_POS, 0, n, 0⟩, ⟨.ENC_STAT, 0, n, 0⟩] :=
    (husL.trans (.of_regs huv)).trans ((OnlyRegsLio.of_regs hvw).mono (by simp))
  have hsw : NamesKept s w [.ENC_POS, .ENC_INDEX_POS, .ENC_STAT] := hswL.2.names (by simp)
  have hwlio : w.lio = u.lio := by rw [hvw.1]; exact hvlio
  have hwring : w.ring r = s.ring r := by rw [← huring]; unfold State.ring; rw [hwlio]
  have hwnow : w.now = s.now := State.now_kept hsw (by decide)
  obtain ⟨t, ht⟩ : ∃ t, w.record r 2 n n (w.encAt n) (16 + n) true w.now false = t := ⟨_, rfl⟩
  obtain ⟨⟨e, hq, h0, h1, -, h47, -⟩, -, -, hpins, -, hrec⟩ := State.record_spec (s := w) (r := r) ((hsw.rf _ _ _ _ (by decide)).trans hen)
    (hwring ▸ hroom) (by decide) n n (w.encAt n) (16 + n) true w.now false t ht
  have htpos : t.rw .ENC_POS 0 n = w.rw .ENC_POS 0 n := hrec.rw_name _ _ _ _ (by simp [ringRegs])
  have hexec : exec (.encoderIndex n ((s.pin (encPin n 0)).level, (s.pin (encPin n 1)).level) true) s = .next t := by
    have hrecs : w.rb F.ENC_CTL_Z_REC 0 n = true := State.rb_of_rf_one ((hsw.rf _ _ _ _ (by decide)).trans hzrec)
    change execEncoderIndex n ((s.pin (encPin n 0)).level, (s.pin (encPin n 1)).level) true s = _
    unfold execEncoderIndex
    dsimp only
    rw [hz, Bool.not_true, if_neg Bool.false_ne_true, hu, ← hv, hstill, ← hw, if_pos hrecs, hsw.rf F.ENC_CTL_RING _ _ _ (by decide), hring, ht]
  refine ⟨t, hexec, ?_, ?_, htpos.trans hwpos, ?_, ⟨e, by rw [hq, hwring], h0.trans hwnow, h1.trans htpos.symm, h47⟩,
    (hswL.mono (by simp)).trans (hrec.mono (by simp [ringRegs]))⟩
  · rw [hrec.rw_name _ _ _ _ (by simp [ringRegs]), (OnlyRegsLio.of_regs hvw).rw_name _ _ _ _ (by simp), hvidx]
  · rw [hrec.rf_name _ _ _ _ (by simp [ringRegs]; decide), (OnlyRegsLio.of_regs hvw).rf_name _ _ _ _ (by simp; decide), hvseen]
  · have htpin : t.pin (encPin n 2) = u.pin (encPin n 2) := by unfold State.pin; rw [hpins, hwlio]
    rw [htpin, hpz]
    unfold State.encIndexed at hz
    exact PinFilter.sample_accepted (by simpa using hz) _ _

/-- The oldest record of a ring leaves as one WRITE (R735, R736). -/
theorem exec_eventRecordIssue_spec {s : State} {r : Nat} {e : EvRec} {rest : List EvRec} (hq : (s.ring r).queue = e :: rest) :
    ∃ t, exec (.eventRecordIssue r) s = .next t ∧ (t.ring r).queue = rest ∧ t.rf F.LEV_CTL_BUSY 0 r = b2n !rest.isEmpty ∧
      Injected s t ⟨.write, 0, 10, 0, (s.rw .LEV_DEST 0 r + 4 * (e.seq % 2 ^ s.rf F.LEV_CTL_EXP 0 r)) % 2 ^ 48, 4, 48, 0,
        [dataWord e.w0, dataWord e.w1, dataWord e.w2, ⟨BitVec.ofNat 48 e.w3, tagEnd⟩], .posted, 0⟩ ∧
      t = { s with regs := t.regs, lio := t.lio, inFlight := t.inFlight, net := t.net } ∧ RegsKept s t [⟨.LEV_CTL, 0, r, 0⟩] := by
  obtain ⟨u, hu⟩ : ∃ u, s.setRing r { s.ring r with queue := rest } = u := ⟨_, rfl⟩
  obtain ⟨hring, hbusy, -, -, hframe, hkept⟩ := s.setRing_spec r _ u hu
  obtain ⟨x, hx⟩ : ∃ x : Txn, x = ⟨.write, 0, 10, 0, (s.rw .LEV_DEST 0 r + 4 * (e.seq % 2 ^ s.rf F.LEV_CTL_EXP 0 r)) % 2 ^ 48, 4, 48, 0,
    [dataWord e.w0, dataWord e.w1, dataWord e.w2, ⟨BitVec.ofNat 48 e.w3, tagEnd⟩], .posted, 0⟩ := ⟨_, rfl⟩
  have hin : u.inFlight = s.inFlight ∧ u.net = s.net := by rw [hframe]; exact ⟨rfl, rfl⟩
  obtain ⟨hfl, hnet⟩ := hin
  have hexec : exec (.eventRecordIssue r) s = .next (u.inject x) := by
    change execEventRecordIssue r s = _
    unfold execEventRecordIssue
    dsimp only
    rw [hq]
    dsimp only
    rw [hu, hx]
    rfl
  rw [← hx]
  refine ⟨_, hexec, congrArg Ring.queue hring, hbusy, ⟨congrArg (· ++ [x]) hfl, congrArg (Net.enter · (.req x)) hnet⟩, ?_, hkept⟩
  obtain ⟨l, n, hlast⟩ : ∃ l n, u.inject x = { u with inFlight := l, net := n } := ⟨_, _, rfl⟩
  rw [hlast, hframe]

/-- A ring that is enabled starts with SEQ 0 and nothing lost (R764). -/
theorem State.writeLevCtl_enable {s : State} {r w : Nat} (hbit : bit w 47 = true) (hoff : s.rf F.LEV_CTL_EN 0 r = 0)
    (hidle : (s.ring r).queue = []) (t : State) (ht : s.writeLevCtl r w = t) :
    t.rf F.LEV_CTL_EN 0 r = 1 ∧ t.rf F.LEV_SEQ_SEQ 0 r = 0 ∧ (t.ring r).lost = 0 ∧
      t.rf F.LEV_CTL_EXP 0 r = max 2 (min 12 (bits w 3 0)) ∧ OnlyRegsLio s t [⟨.LEV_CTL, 0, r, 0⟩, ⟨.LEV_SEQ, 0, r, 0⟩] := by
  have hfit : max 2 (min 12 (bits w 3 0)) < 2 ^ F.LEV_CTL_EXP.width := max_lt (by decide) ((min_le_left _ _).trans_lt (by decide))
  have hone : bits w 47 47 = 1 := bits_of_bit hbit
  obtain ⟨u, hu⟩ : ∃ u, u = ((s.wf F.LEV_CTL_EVT_GPIO_HI (bits w 46 46) 0 r).wf F.LEV_CTL_EXP (max 2 (min 12 (bits w 3 0))) 0 r).wf
    F.LEV_CTL_EN (bits w 47 47) 0 r := ⟨_, rfl⟩
  have honly : OnlyRegs s u [⟨.LEV_CTL, 0, r, 0⟩, ⟨.LEV_SEQ, 0, r, 0⟩] := hu ▸ (((OnlyRegs.refl s _).wf F.LEV_CTL_EVT_GPIO_HI _ 0 r 0
    (.head _)).wf F.LEV_CTL_EXP _ 0 r 0 (.head _)).wf F.LEV_CTL_EN _ 0 r 0 (.head _)
  have huen : u.rf F.LEV_CTL_EN 0 r = 1 := by
    rw [hu, hone]
    exact State.rf_wf_fits _ F.LEV_CTL_EN _ _ _ _ rfl (by decide)
  have huexp : u.rf F.LEV_CTL_EXP 0 r = max 2 (min 12 (bits w 3 0)) := by
    rw [hu, State.rf_wf_apart _ _ _ _ _ _ _ _ _ _ rfl rfl]
    exact State.rf_wf_fits _ F.LEV_CTL_EXP _ _ _ _ rfl hfit
  obtain ⟨v, hv⟩ : ∃ v, u.setRing r { u.ring r with lost := 0 } = v := ⟨_, rfl⟩
  have hvset : v = ({ u with lio := { u.lio with rings := mset u.lio.rings r { u.ring r with lost := 0 } ⟨[], 0⟩ } } : State).wf
    F.LEV_CTL_BUSY (b2n !(u.ring r).queue.isEmpty) 0 r := by rw [← hv]; rfl
  obtain ⟨hring, -, -, -, hvl⟩ := u.setRing_spec r _ v hv
  have hfree : (!s.rb F.LEV_CTL_EN 0 r && (s.ring r).queue.isEmpty) = true := by
    rw [State.rb_of_rf_zero hoff, hidle]
    rfl
  have hstart : (bit w 47 && !s.rb F.LEV_CTL_EN 0 r) = true := by
    rw [State.rb_of_rf_zero hoff, hbit]
    rfl
  have hstep : t = v.wf F.LEV_SEQ_SEQ 0 0 r := by
    rw [← ht]
    unfold State.writeLevCtl
    dsimp only
    rw [if_pos hfree, if_pos hstart, ← hu, hv]
  have hvt : OnlyRegs v t [⟨.LEV_SEQ, 0, r, 0⟩] := hstep ▸ (OnlyRegs.refl v _).wf F.LEV_SEQ_SEQ _ 0 r 0 (.head _)
  have hven : v.rf F.LEV_CTL_EN 0 r = u.rf F.LEV_CTL_EN 0 r ∧ v.rf F.LEV_CTL_EXP 0 r = u.rf F.LEV_CTL_EXP 0 r := by
    rw [hvset]
    exact ⟨State.rf_wf_apart _ _ _ _ _ _ _ _ _ _ rfl rfl, State.rf_wf_apart _ _ _ _ _ _ _ _ _ _ rfl rfl⟩
  have htlio : t.lio = v.lio := by rw [hvt.1]
  have htring : t.ring r = v.ring r := by unfold State.ring; rw [htlio]
  have hsu : OnlyRegsLio s u [⟨.LEV_CTL, 0, r, 0⟩, ⟨.LEV_SEQ, 0, r, 0⟩] := .of_regs honly
  refine ⟨?_, ?_, by rw [htring, hring], ?_, (hsu.trans (hvl.mono (by simp))).trans ((OnlyRegsLio.of_regs hvt).mono (by simp))⟩
  · rw [(OnlyRegsLio.of_regs hvt).rf_name _ _ _ _ (by simp; decide), hven.1, huen]
  · rw [hstep]
    exact State.rf_wf_fits _ F.LEV_SEQ_SEQ _ _ _ _ rfl (by decide)
  · rw [(OnlyRegsLio.of_regs hvt).rf_name _ _ _ _ (by simp; decide), hven.2, huexp]

/-! ## The statement O42 -/

/-- Settles O42: samples by `encMove_up_spec` and `encCompare_spec`, records by `record_spec`, pins by the lemmas about `sample`. -/
theorem lineEventsAreCountedAndRecorded : Obligations.LineEventsAreCountedAndRecorded := by
  unfold Obligations.LineEventsAreCountedAndRecorded
  refine ⟨?count, ?error, ?compare, ?index, ?product, ?held, ?expiry, ?gpio, fun x filt k t level seen hne hrun hk =>
    x.samples_level filt k t level seen hne hrun hk, fun s r e rest hq => exec_eventRecordIssue_spec hq, ?enable⟩
  case count =>
    intro s n a b z a' b' ha hb hz hinv harm hseen hone hcount hroom hpast
    obtain ⟨u, hua, hub, ⟨p, hframe⟩, hexec⟩ := exec_encoderEdge_counts ha hb hz hinv hone hcount
    have hureg : ∀ q, u.reg q = s.reg q := fun q => by rw [hframe]; rfl
    have hurw : ∀ m, u.rw m 0 n = s.rw m 0 n := fun m => congrArg BitVec.toNat (hureg _)
    have hunow : u.now = s.now := congrArg BitVec.toNat (hureg _)
    have hucounted : u.lio.counted.contains n = true := by rw [hframe]; exact hseen
    obtain ⟨t, ht⟩ : ∃ t, u.encMove n 1 = t := ⟨_, rfl⟩
    obtain ⟨hpos, hdir, htime, hkept, -, hgap⟩ := State.encMove_up_spec (by rw [hurw]; exact hroom) t ht
    obtain ⟨hgap, hregs⟩ := hgap hucounted (by rw [hurw, hunow]; exact hpast)
    have hoff : t.rf F.ENC_CTL_CMP_ARM 0 n = 0 := by
      unfold State.rf at harm ⊢
      rw [hkept _ (by simp [countRegs, F.ENC_CTL_CMP_ARM]), hureg, harm]
    have htlio : t.lio = u.lio := by rw [hregs]
    rw [ht, State.encCompare_off hoff] at hexec
    refine ⟨t, hexec, hpos.trans (by rw [hurw]), hdir, htime.trans hunow, ?_, ?_, ?_, ?_, fun q hq => (hkept q hq).trans (hureg q)⟩
    · rw [hgap, hunow, hurw]
    · rw [← hua]; unfold State.pin; rw [htlio]
    · rw [← hub]; unfold State.pin; rw [htlio]
    · rw [hregs, hframe]
  case error =>
    intro s n a b z a' b' ha hb hz h1 h3 hca hcb hroom
    obtain ⟨u, hu⟩ : ∃ u, s.encFilter n a b z = u := ⟨_, rfl⟩
    obtain ⟨hpa, hpb, -, p, hframe⟩ := s.encFilter_spec n a b z u hu
    have hureg : ∀ q, u.reg q = s.reg q := fun q => by rw [hframe]; rfl
    have hurf : ∀ f : Fld, u.rf f 0 n = s.rf f 0 n := fun f => congrArg f.get (hureg _)
    obtain ⟨v, hv⟩ : ∃ v, v = u.incE F.ENC_ERR_CNT_COUNT 0 n := ⟨_, rfl⟩
    have honly : OnlyRegs u v [⟨.ENC_ERR_CNT, 0, n, 0⟩] := hv ▸ (OnlyRegs.refl u _).incE F.ENC_ERR_CNT_COUNT 0 n 0 1 (.head _)
    have hexec := exec_encoderEdge hz u hu
    rw [hpa, hpb, ← ha, ← hb, State.encSample_error (by rw [hurf]; exact h1) (by rw [hurf]; exact h3) hca hcb, ← hv] at hexec
    obtain ⟨hev, hline⟩ := honly.raise .encoderQuadratureError 0 n 0
    have hvcnt : v.rf F.ENC_ERR_CNT_COUNT 0 n = s.rf F.ENC_ERR_CNT_COUNT 0 n + 1 := by
      have hlt : u.rf F.ENC_ERR_CNT_COUNT 0 n + 1 < 2 ^ F.ENC_ERR_CNT_COUNT.width := by
        rw [hurf]
        exact Nat.add_lt_of_lt_sub hroom
      rw [hv, State.rf_incE_same _ F.ENC_ERR_CNT_COUNT _ _ _ _ rfl hlt, hurf]
    refine ⟨_, hexec, ?_, (State.raise_rf ..).trans hvcnt, ?_, ?_, fun q hq => (honly.2 q hq).trans (hureg q)⟩
    · exact congrArg BitVec.toNat ((honly.2 _ (by simp)).trans (hureg _))
    · rw [hline, hframe]
    · rw [hev.1, hframe]
  case compare =>
    intro s n r a b z a' b' ha hb hz hinv harm hring hone hcount hroom hcmp hstep hen hqueue
    obtain ⟨u, hua, hub, ⟨p, hframe⟩, hexec⟩ := exec_encoderEdge_counts ha hb hz hinv hone hcount
    have hureg : ∀ q, u.reg q = s.reg q := fun q => by rw [hframe]; rfl
    obtain ⟨v, hv⟩ : ∃ v, u.encMove n 1 = v := ⟨_, rfl⟩
    have hupos : u.rw .ENC_POS 0 n = s.rw .ENC_POS 0 n := congrArg BitVec.toNat (hureg _)
    obtain ⟨hpos, -, -, hkept, ⟨c, l, hvframe⟩, -⟩ := State.encMove_up_spec (by rw [hupos]; exact hroom) v hv
    have hvreg : ∀ q, q ∉ countRegs n → v.reg q = s.reg q := fun q hq => (hkept q hq).trans (hureg q)
    have hvrf : ∀ (f : Fld) (i : Nat), (⟨f.reg, 0, i, 0⟩ : Reg) ∉ countRegs n → v.rf f 0 i = s.rf f 0 i := fun f i hf => congrArg f.get (hvreg _ hf)
    have hvrw : ∀ (m : RegName), (⟨m, 0, n, 0⟩ : Reg) ∉ countRegs n → v.rw m 0 n = s.rw m 0 n := fun m hm => congrArg BitVec.toNat (hvreg _ hm)
    have hvring : v.ring r = s.ring r := by rw [hvframe, hframe]; rfl
    have hvnow : v.now = s.now := congrArg BitVec.toNat (hvreg _ (by simp [countRegs]))
    have hvcmp : v.rw .ENC_CMP 0 n = s.rw .ENC_CMP 0 n := hvrw _ (by simp [countRegs])
    have hvseq : v.rf F.LEV_SEQ_SEQ 0 r = s.rf F.LEV_SEQ_SEQ 0 r := hvrf _ _ (by simp [countRegs, F.LEV_SEQ_SEQ])
    have hmeet : v.rw .ENC_POS 0 n = v.rw .ENC_CMP 0 n := by rw [hvcmp, hpos, hupos, hcmp]
    obtain ⟨t, ht⟩ : ∃ t, v.encCompare n = t := ⟨_, rfl⟩
    obtain ⟨htpos, hdis, ⟨e, hq, h0, h1, hs⟩, hseq, hbusy, -⟩ := State.encCompare_spec
      ((hvrf _ _ (by simp [countRegs, F.ENC_CTL_CMP_ARM])).trans harm) hmeet ((hvrf _ _ (by simp [countRegs, F.ENC_CTL_RING])).trans hring)
      ((hvrw _ (by simp [countRegs])).trans hstep) ((hvrf _ _ (by simp [countRegs, F.LEV_CTL_EN])).trans hen) (hvring ▸ hqueue) t ht
    rw [hv, ht] at hexec
    exact ⟨t, hexec, htpos.trans hvcmp, hdis, ⟨e, by rw [hq, hvring], h0.trans hvnow, h1.trans hvcmp, hs.trans hvseq⟩, by rw [hseq, hvseq], hbusy⟩
  case index =>
    intro s n r hring hzrec hen hroom hz
    obtain ⟨t, hexec, hidx, hseen, hpos, hpin, hrec, hframe, hkept⟩ := exec_encoderIndex_spec hring hzrec hen hroom hz
    exact ⟨t, hexec, hidx, hseen, hpos, hpin, hrec, hframe, hkept⟩
  case product =>
    intro s n r a up x haccept hx hcross hhold hedge hring hen hroom hcnt hn
    obtain ⟨u, hu⟩ : ∃ u, s.setPin n x = u := ⟨_, rfl⟩
    have hus : u = { s with lio := u.lio } := by rw [← hu]; rfl
    have hupin : u.pin n = x := by rw [← hu]; exact State.pin_setPin_same ..
    have hrings : u.lio.rings = s.lio.rings ∧ u.lio.hold = s.lio.hold := by rw [← hu]; exact ⟨rfl, rfl⟩
    obtain ⟨hrings, hholds⟩ := hrings
    have hureg : ∀ q, u.reg q = s.reg q := fun q => by rw [hus]; rfl
    have hurf : ∀ (f : Fld) (i : Nat), u.rf f 0 i = s.rf f 0 i := fun f i => congrArg f.get (hureg _)
    have huring : u.ring r = s.ring r := by unfold State.ring; rw [hrings]
    have huenc : ∀ k, u.encAt k = s.encAt k := fun k => by rw [hus]; rfl
    obtain ⟨t, ht⟩ : ∃ t, u.pdEdge n up x = t := ⟨_, rfl⟩
    obtain ⟨hlast, hcount, hth, hpins, ⟨e, hq, h0, h1, h43, h37⟩, hframe, hkept⟩ := State.pdEdge_spec hcross (by rw [hholds]; exact hhold)
      (by rw [hurf]; exact hedge) (by rw [hurf]; exact hring) (by rw [hurf]; exact hen) (huring ▸ hroom) (by rw [hurf]; exact hcnt) hn t ht
    have hexec : exec (.productDetectEdge n up a) s = .next t := by
      change execProductDetectEdge n up a s = _
      unfold execProductDetectEdge
      dsimp only
      rw [if_pos haccept, ← hx, hu, ht]
    refine ⟨t, hexec, hlast, by rw [hcount, hurf], by rw [hth, hholds, hurf], ?_, ⟨e, by rw [hq, huring], h0, ?_, h43, h37⟩, ?_,
      fun q hmem => (hkept q hmem).trans (hureg q)⟩
    · rw [← hupin]; unfold State.pin; rw [hpins]
    · rw [h1, hurf, huenc]
    · rw [hframe, hus]
  case held =>
    intro s n a up haccept hhold hcnt
    obtain ⟨x, hx⟩ : ∃ x, x = (s.pin n).sample (s.rf F.PD_CTL_FILT 0 n) up a ((List.range 4).map s.encAt) := ⟨_, rfl⟩
    obtain ⟨u, hu⟩ : ∃ u, s.setPin n x = u := ⟨_, rfl⟩
    have hus : OnlyRegsLio s u [⟨.PD_HOLD_CNT, 0, n, 0⟩] := by rw [← hu]; exact .of_lio s _ _
    have hlio : u.lio.rings = s.lio.rings ∧ u.lio.hold = s.lio.hold := by rw [← hu]; exact ⟨rfl, rfl⟩
    have hucnt : u.rf F.PD_HOLD_CNT_COUNT 0 n = s.rf F.PD_HOLD_CNT_COUNT 0 n := by rw [← hu]; rfl
    obtain ⟨t, ht⟩ : ∃ t, t = u.incE F.PD_HOLD_CNT_COUNT 0 n := ⟨_, rfl⟩
    have honly : OnlyRegs u t [⟨.PD_HOLD_CNT, 0, n, 0⟩] := ht ▸ (OnlyRegs.refl u _).incE F.PD_HOLD_CNT_COUNT 0 n 0 1 (.head _)
    have htlio : t.lio = u.lio := by rw [honly.1]
    have hexec : exec (.productDetectEdge n up a) s = .next t := by
      change execProductDetectEdge n up a s = _
      unfold execProductDetectEdge
      dsimp only
      rw [if_pos haccept, ← hx, hu, ht]
      exact congrArg Host.Outcome.next (if_pos (by rw [hlio.2]; exact hhold))
    obtain ⟨hframe, hkept⟩ := hus.trans (.of_regs honly)
    refine ⟨t, hexec, ?_, by rw [htlio, hlio.2], by rw [htlio, hlio.1], hframe, hkept⟩
    rw [ht, State.rf_incE_one rfl rfl (hucnt ▸ hcnt), hucnt]
  case expiry =>
    intro s n
    refine ⟨_, rfl, ?_, fun k hk => ?_, rfl⟩
    · simp
    · rw [Bool.eq_iff_iff]
      simp [hk]
  case gpio =>
    intro s p r a up x hp haccept hx hcross hedge hring hhi hen hroom
    obtain ⟨u, hu⟩ : ∃ u, s.setPin (16 + p) x = u := ⟨_, rfl⟩
    have hus : u = { s with lio := u.lio } := by rw [← hu]; rfl
    have hupin : u.pin (16 + p) = x := by rw [← hu]; exact State.pin_setPin_same ..
    have hrings : u.lio.rings = s.lio.rings := by rw [← hu]; rfl
    have hureg : ∀ q, u.reg q = s.reg q := fun q => by rw [hus]; rfl
    have hurf : ∀ (f : Fld) (i : Nat), u.rf f 0 i = s.rf f 0 i := fun f i => congrArg f.get (hureg _)
    have hurw : u.rw .GPIO_IN 0 (p / 48) = s.rw .GPIO_IN 0 (p / 48) := congrArg BitVec.toNat (hureg _)
    have huring : u.ring r = s.ring r := by unfold State.ring; rw [hrings]
    obtain ⟨t, ht⟩ : ∃ t, u.gpioEdge p up x = t := ⟨_, rfl⟩
    obtain ⟨hbits, hpins, ⟨e, hq, h0, h47⟩, hframe, hkept⟩ := State.gpioEdge_spec hcross (by rw [hurf]; exact hedge) (by rw [hurf]; exact hring)
      (by rw [hurf]; exact hhi) (by rw [hurf]; exact hen) (huring ▸ hroom) t ht
    have hexec : exec (.gpioInputEdge p up a) s = .next t := by
      change execGpioInputEdge p up a s = _
      unfold execGpioInputEdge
      dsimp only
      rw [if_neg (by omega), if_pos haccept, ← hx, hu, ht]
    refine ⟨t, hexec, ?_, ?_, fun k hk => ?_, ⟨e, by rw [hq, huring], h0, h47⟩, ?_, fun q hmem => (hkept q hmem).trans (hureg q)⟩
    · rw [hbits, if_pos rfl]
    · rw [← hupin]; unfold State.pin; rw [hpins]
    · rw [hbits, if_neg hk, hurw]
    · rw [hframe, hus]
  case enable =>
    intro s r w htag hbit hoff hidle
    obtain ⟨t, ht⟩ : ∃ t, s.writeLevCtl r w.data.toNat = t := ⟨_, rfl⟩
    obtain ⟨hen, hseq, hlost, hexp, hframe, hkept⟩ := State.writeLevCtl_enable hbit hoff hidle t ht
    exact ⟨t, congrArg Host.Outcome.next ((if_pos htag).trans ht), hen, hseq, hlost, hexp, hframe, hkept⟩

end Sys2Proof.Machine
end

section
/-!
SUPPORT. Outputs and converter tiles: proof of the statement O43.
-/
namespace Sys2Proof.Machine

/-! ## GPIO outputs -/

/-- A number without the bits that it shares with another. -/
theorem testBit_sub_and (a b k : Nat) : (a - (a &&& b)).testBit k = (a.testBit k && !b.testBit k) := by
  induction k generalizing a b with
  | zero =>
    have hle : a &&& b ≤ a := Nat.and_le_left
    have hlow := Nat.testBit_and a b 0
    generalize a &&& b = c at hle hlow ⊢
    rw [Bool.eq_iff_iff] at hlow ⊢
    simp only [Nat.testBit_zero, decide_eq_true_eq, Bool.and_eq_true, Bool.not_eq_true', decide_eq_false_iff_not] at hlow ⊢
    omega
  | succ k ih =>
    have hhalf : (a - (a &&& b)) / 2 = a / 2 - (a / 2 &&& b / 2) := by
      have hle : a &&& b ≤ a := Nat.and_le_left
      have hlow : (a &&& b) % 2 ≤ a % 2 := by
        have h0 := Nat.testBit_and a b 0
        simp only [Nat.testBit_zero] at h0
        by_contra hlt
        have h1 : (a &&& b) % 2 = 1 := by omega
        have h2 : a % 2 = 0 := by omega
        simp [h1, h2] at h0
      rw [← Nat.and_div_two]
      omega
    rw [Nat.testBit_succ, Nat.testBit_succ, Nat.testBit_succ, hhalf, ih]

theorem bit_or (a b k : Nat) : bit (a ||| b) k = (bit a k || bit b k) := by
  rw [bit_eq_testBit, bit_eq_testBit, bit_eq_testBit, Nat.testBit_or]

theorem bit_sub_and (a b k : Nat) : bit (a - (a &&& b)) k = (bit a k && !bit b k) := by
  rw [bit_eq_testBit, bit_eq_testBit, bit_eq_testBit, testBit_sub_and]

/-- What a replaced output register leaves (R754). -/
theorem State.setGpioOut_spec (s : State) (q v : Nat) (t : State) (ht : s.setGpioOut q v = t) :
    t.regs = (s.ww .GPIO_OUT v 0 q).regs ∧ OnlyRegsLio s t [⟨.GPIO_OUT, 0, q, 0⟩] := by
  obtain ⟨u, hu⟩ : ∃ u, u = s.ww .GPIO_OUT v 0 q := ⟨_, rfl⟩
  have honly : OnlyRegsLio s u [⟨.GPIO_OUT, 0, q, 0⟩] := hu ▸ (OnlyRegsLio.refl s _).ww .GPIO_OUT _ 0 q 0 (.head _)
  have hnote : ∃ l, t = { u with lio := l } := by
    rw [← ht]
    unfold State.setGpioOut
    rw [← hu]
    unfold State.noteGpio
    split
    · exact ⟨_, rfl⟩
    · exact ⟨u.lio, rfl⟩
  obtain ⟨l, hnote⟩ := hnote
  rw [← hu, hnote]
  exact ⟨rfl, honly.setLio l⟩

/-- The output register replaced by a word. -/
theorem State.setGpioOut_bits {s : State} {q v : Nat} (hv : v < 2 ^ 48) (t : State) (ht : s.setGpioOut q v = t) (k : Nat) :
    bit (t.rw .GPIO_OUT 0 q) k = bit v k := by
  obtain ⟨hregs, -⟩ := s.setGpioOut_spec q v t ht
  have hrw : t.rw .GPIO_OUT 0 q = (s.ww .GPIO_OUT v 0 q).rw .GPIO_OUT 0 q :=
    congrArg (fun m => (mget m (Reg.key ⟨.GPIO_OUT, 0, q, 0⟩) (resetWord .GPIO_OUT q)).toNat) hregs
  rw [hrw, State.rw_ww_same, Nat.mod_eq_of_lt hv]

theorem State.rw_word (s : State) (n : RegName) (d i j : Nat) : s.rw n d i j < 2 ^ 48 := (s.reg ⟨n, d, i, j⟩).isLt

/-- A bit of an output register is set to a value (R755). -/
theorem State.setGpioOut_putBit {s u : State} (hu : u.rw .GPIO_OUT 0 (q / 48) = s.rw .GPIO_OUT 0 (q / 48)) (v : Bool) (t : State)
    (ht : u.setGpioOut (q / 48) (putBit (s.rw .GPIO_OUT 0 (q / 48)) (q % 48) v) = t) (k : Nat) :
    bit (t.rw .GPIO_OUT 0 (q / 48)) k = if k = q % 48 then v else bit (s.rw .GPIO_OUT 0 (q / 48)) k := by
  rw [← hu] at ht ⊢
  obtain ⟨hregs, -⟩ := u.setGpioOut_spec _ _ t ht
  have hrw : t.rw .GPIO_OUT 0 (q / 48) = (u.ww .GPIO_OUT (putBit (u.rw .GPIO_OUT 0 (q / 48)) (q % 48) v) 0 (q / 48)).rw .GPIO_OUT 0 (q / 48) :=
    congrArg (fun m => (mget m (Reg.key ⟨.GPIO_OUT, 0, q / 48, 0⟩) (resetWord .GPIO_OUT (q / 48))).toNat) hregs
  rw [hrw]
  exact u.bit_ww_putBit .GPIO_OUT 0 (q / 48) 0 (Nat.mod_lt _ (by decide)) v k

/-! ## Converter tiles -/

theorem mins_mins {V : Type} (m : SMap V) (k : Nat) (v w : V) : mins (mins m k v) k w = mins m k w := by
  induction m with
  | nil => simp [mins]
  | cons e t ih =>
    obtain ⟨a, x⟩ := e
    by_cases hlt : k < a
    · simp [mins, hlt]
    by_cases heq : k = a
    · simp [mins, heq]
    · simp [mins, hlt, heq, ih]

/-- A tile replaced twice, not by the one of the reset. -/
theorem State.setTile_setTile (s : State) (n : Nat) {x y : Tile} (hx : x.code ≠ none) (hy : y.code ≠ none) :
    (s.setTile n x).setTile n y = s.setTile n y := by
  have hne : ∀ z : Tile, z.code ≠ none → z ≠ ⟨[], [], 0, 0, false, none, none⟩ := fun z hz h => hz (by rw [h])
  have hmap : mset (mset s.lio.tiles n x ⟨[], [], 0, 0, false, none, none⟩) n y ⟨[], [], 0, 0, false, none, none⟩ =
      mset s.lio.tiles n y ⟨[], [], 0, 0, false, none, none⟩ := by
    unfold mset
    rw [if_neg (hne x hx), if_neg (hne y hy), if_neg (hne y hy), mins_mins]
  unfold State.setTile
  dsimp only
  rw [hmap]

/-- A tick in turnaround mode drives the code, and notes it while OUT_EN is 1 (R749, R766). -/
theorem State.dacDrive_turnaround {s : State} {n : Nat} (hen : s.rf F.CT_CTL_EN 0 n = 1) (hmode : s.rf F.CT_CTL_MODE 0 n = 3) {x : Tile}
    (hphase : x.phase = 1) : s.dacDrive n x = s.setTile n { x with
      code := some (s.rf F.CT_DAC_VAL_VAL 0 n)
      drove := if s.rf F.DEV_ROLE_CTL_OUT_EN 0 = 1 then some (s.rf F.CT_DAC_VAL_VAL 0 n) else x.drove } := by
  obtain ⟨y, hy⟩ : ∃ y : Tile, y = { x with code := some (s.rf F.CT_DAC_VAL_VAL 0 n) } := ⟨_, rfl⟩
  obtain ⟨u, hu⟩ : ∃ u, u = s.setTile n y := ⟨_, rfl⟩
  have hureg : ∀ q, u.reg q = s.reg q := fun q => by rw [hu]; rfl
  have hurf : ∀ (f : Fld) (i : Nat), u.rf f 0 i = s.rf f 0 i := fun f i => congrArg f.get (hureg _)
  have htile : u.tile n = y := hu ▸ State.tile_setTile_same ..
  have hon : u.dacOn n = true := by
    unfold State.dacOn
    rw [htile, State.rb_of_rf_one ((hurf ..).trans hen), hurf, hmode, hy]
    simp [hphase]
  have hdrive : s.dacDrive n x = u.noteTile n := by rw [hu, hy]; rfl
  rw [hdrive]
  unfold State.noteTile
  have hbit : u.rf F.DEV_ROLE_CTL_OUT_EN 0 = 0 ∨ u.rf F.DEV_ROLE_CTL_OUT_EN 0 = 1 := by
    have hlt : u.rf F.DEV_ROLE_CTL_OUT_EN 0 < 2 := F.DEV_ROLE_CTL_OUT_EN.get_lt _
    omega
  rcases hbit with hz | ho
  · have hout : s.rf F.DEV_ROLE_CTL_OUT_EN 0 = 0 := by rw [← hurf]; exact hz
    rw [State.rb_of_rf_zero hz, Bool.false_and, if_neg Bool.false_ne_true, hout, if_neg (by decide), hu, hy]
  · have hout : s.rf F.DEV_ROLE_CTL_OUT_EN 0 = 1 := by rw [← hurf]; exact ho
    rw [State.rb_of_rf_one ho, hon, Bool.true_and, if_pos rfl, htile, hu, State.setTile_setTile _ _ (by simp [hy]) (by simp [hy]), hy, hout, if_pos rfl]

/-- The parts of the state that the check of a tile's timing reads. -/
theorem State.ctOk_congr {s t : State} {n : Nat} (h : ∀ f : Fld, f.reg ≠ .CT_CTL → ∀ i, t.rf f 0 i = s.rf f 0 i) (mode : Nat) :
    t.ctOk n mode = s.ctOk n mode := by
  unfold State.ctOk
  rw [h F.CT_PERIOD_NS (by decide), h F.CT_PHASE_DAC_NS (by decide), h F.CT_PHASE_SAMPLE_NS (by decide), h F.CT_PHASE_ADC_COUNT (by decide),
    h F.DIO_BANK_STAT_NOMINAL (by decide)]

/-- EN = 1 written to a tile that is off (R750, R763). -/
theorem State.writeCtCtl_enable {s : State} {n w : Nat} (hbit : bit w 47 = true) (hoff : s.rf F.CT_CTL_EN 0 n = 0) (t : State)
    (ht : s.writeCtCtl n w = t) :
    t.rf F.CT_CTL_MODE 0 n = bits w 1 0 ∧
      (if s.ctOk n (bits w 1 0) then t.rf F.CT_CTL_EN 0 n = 1 ∧ (t.tile n).phase = 0 ∧ (t.tile n).lanes = []
        else t.rf F.CT_CTL_EN 0 n = 0 ∧ t.rf F.CT_CTL_CFG_ERR 0 n = 1 ∧ t.lio = s.lio) ∧
      OnlyRegsLio s t [⟨.CT_CTL, 0, n, 0⟩] := by
  obtain ⟨u, hu⟩ : ∃ u, u = if bit w 46 then s.wf F.CT_CTL_CFG_ERR 0 0 n else s := ⟨_, rfl⟩
  have hus : OnlyRegs s u [⟨.CT_CTL, 0, n, 0⟩] ∧ u.rf F.CT_CTL_EN 0 n = 0 := by
    rw [hu]
    split
    · exact ⟨(OnlyRegs.refl s _).wf F.CT_CTL_CFG_ERR _ 0 n 0 (.head _), (State.rf_wf_apart _ _ _ _ _ _ _ _ _ _ rfl rfl).trans hoff⟩
    · exact ⟨.refl s _, hoff⟩
  obtain ⟨hus, huoff⟩ := hus
  obtain ⟨v, hv⟩ : ∃ v, v = u.wf F.CT_CTL_MODE (bits w 1 0) 0 n := ⟨_, rfl⟩
  have hvs : OnlyRegs s v [⟨.CT_CTL, 0, n, 0⟩] := hv ▸ hus.wf F.CT_CTL_MODE _ 0 n 0 (.head _)
  have hvmode : v.rf F.CT_CTL_MODE 0 n = bits w 1 0 := hv ▸ State.rf_wf_fits _ F.CT_CTL_MODE _ _ _ _ rfl (bits_lt w 1 0)
  have hvoff : v.rf F.CT_CTL_EN 0 n = 0 := by
    rw [hv]
    exact (State.rf_wf_apart _ _ _ _ _ _ _ _ _ _ rfl rfl).trans huoff
  have hvok : ∀ mode, v.ctOk n mode = s.ctOk n mode := State.ctOk_congr fun f hf i =>
    (OnlyRegsLio.of_regs hvs).rf_name f 0 i 0 (by simp [hf.symm])
  have hvlio : v.lio = s.lio := by rw [hvs.1]
  have hstep : t = if s.ctOk n (bits w 1 0) then
      (v.wf F.CT_CTL_EN 1 0 n).setTile n { v.tile n with lanes := [], phase := 0, begun := 0, busy := false, code := none }
      else v.wf F.CT_CTL_CFG_ERR 1 0 n := by
    rw [← ht]
    unfold State.writeCtCtl
    dsimp only
    rw [State.rb_of_rf_zero hoff, hbit, Bool.not_true, if_neg Bool.false_ne_true, if_neg Bool.false_ne_true, if_neg Bool.false_ne_true, ← hu,
      ← hv, hvmode, hvok]
  by_cases hok : s.ctOk n (bits w 1 0) = true
  · rw [if_pos hok] at hstep ⊢
    obtain ⟨y, hy⟩ : ∃ y, y = v.wf F.CT_CTL_EN 1 0 n := ⟨_, rfl⟩
    have hys : OnlyRegsLio s y [⟨.CT_CTL, 0, n, 0⟩] := .of_regs (hy ▸ hvs.wf F.CT_CTL_EN _ 0 n 0 (.head _))
    have hyen : y.rf F.CT_CTL_EN 0 n = 1 := hy ▸ State.rf_wf_fits _ F.CT_CTL_EN _ _ _ _ rfl (by decide)
    have hymode : y.rf F.CT_CTL_MODE 0 n = bits w 1 0 := by
      rw [hy]
      exact (State.rf_wf_apart _ _ _ _ _ _ _ _ _ _ rfl rfl).trans hvmode
    rw [← hy] at hstep
    subst hstep
    refine ⟨(State.setTile_rf ..).trans hymode, ⟨(State.setTile_rf ..).trans hyen, ?_, ?_⟩, hys.setLio _⟩
    · rw [State.tile_setTile_same]
    · rw [State.tile_setTile_same]
  · rw [if_neg hok] at hstep ⊢
    have hts : OnlyRegs s t [⟨.CT_CTL, 0, n, 0⟩] := hstep ▸ hvs.wf F.CT_CTL_CFG_ERR _ 0 n 0 (.head _)
    refine ⟨?_, ⟨?_, ?_, by rw [hts.1]⟩, .of_regs hts⟩
    · rw [hstep]
      exact (State.rf_wf_apart _ _ _ _ _ _ _ _ _ _ rfl rfl).trans hvmode
    · rw [hstep]
      exact (State.rf_wf_apart _ _ _ _ _ _ _ _ _ _ rfl rfl).trans hvoff
    · rw [hstep]
      exact State.rf_wf_fits _ F.CT_CTL_CFG_ERR _ _ _ _ rfl (by decide)

/-- A word of a tile joins its queue (R752, R753). -/
theorem State.tileWord_spec {s : State} {n : Nat} (tag : Tag) (hroom : (s.tile n).queue.length < 16) (hseq : s.rw .CT_WSEQ 0 n + 1 < 2 ^ 48)
    (t : State) (ht : s.tileWord n tag = t) :
    t.tile n = { s.tile n with lanes := [], queue := (s.tile n).queue ++ [(s.rw .CT_WSEQ 0 n, ⟨BitVec.ofNat 48 (laneWord (s.tile n).lanes), tag⟩)] } ∧
      t.rw .CT_WSEQ 0 n = s.rw .CT_WSEQ 0 n + 1 ∧ OnlyRegsLio s t [⟨.CT_WSEQ, 0, n, 0⟩] := by
  obtain ⟨u, hu⟩ : ∃ u, u = s.ww .CT_WSEQ (s.rw .CT_WSEQ 0 n + 1) 0 n := ⟨_, rfl⟩
  have hus : OnlyRegsLio s u [⟨.CT_WSEQ, 0, n, 0⟩] := hu ▸ (OnlyRegsLio.refl s _).ww .CT_WSEQ _ 0 n 0 (.head _)
  have huseq : u.rw .CT_WSEQ 0 n = s.rw .CT_WSEQ 0 n + 1 := by rw [hu, State.rw_ww_same, Nat.mod_eq_of_lt hseq]
  have hstep : t = u.setTile n { s.tile n with
      lanes := [], queue := (s.tile n).queue ++ [(s.rw .CT_WSEQ 0 n, ⟨BitVec.ofNat 48 (laneWord (s.tile n).lanes), tag⟩)] } := by
    rw [← ht]
    unfold State.tileWord
    dsimp only
    rw [if_pos hroom, ← hu]
  subst hstep
  exact ⟨State.tile_setTile_same .., (State.setTile_rw ..).trans huseq, hus.setLio _⟩

/-- A conversion is taken into the lanes of its tile (R751). -/
def State.laneTaken (s : State) (n lane : Nat) : State :=
  (s.wf F.CT_LAST_LANE lane 0 n).setTile n { s.tile n with busy := false, lanes := (s.tile n).lanes ++ [lane] }

theorem State.laneTaken_spec (s : State) (n : Nat) {lane : Nat} (hlane : lane < 2 ^ 16) (t : State) (ht : s.laneTaken n lane = t) :
    t.tile n = { s.tile n with busy := false, lanes := (s.tile n).lanes ++ [lane] } ∧ t.rf F.CT_LAST_LANE 0 n = lane ∧
      OnlyRegsLio s t [⟨.CT_LAST, 0, n, 0⟩] := by
  obtain ⟨u, hu⟩ : ∃ u, u = s.wf F.CT_LAST_LANE lane 0 n := ⟨_, rfl⟩
  have hus : OnlyRegsLio s u [⟨.CT_LAST, 0, n, 0⟩] := hu ▸ (OnlyRegsLio.refl s _).wf F.CT_LAST_LANE _ 0 n 0 (.head _)
  have hul : u.rf F.CT_LAST_LANE 0 n = lane := hu ▸ State.rf_wf_fits _ F.CT_LAST_LANE _ _ _ _ rfl hlane
  unfold State.laneTaken at ht
  rw [← hu] at ht
  subst ht
  exact ⟨State.tile_setTile_same .., (State.setTile_rf ..).trans hul, hus.setLio _⟩

/-! ## Outputs that OUT_EN turns off -/

/-- From `s` to `t` the outputs note their levels: registers and configuration stay, and of each tile its code and phase. -/
structure OutputsNoted (s t : State) : Prop where
  regs : t.regs = s.regs
  cfg : t.cfg = s.cfg
  code : ∀ m, (t.tile m).code = (s.tile m).code
  phase : ∀ m, (t.tile m).phase = (s.tile m).phase

section
variable {s t u : State}

theorem OutputsNoted.refl (s : State) : OutputsNoted s s := ⟨rfl, rfl, fun _ => rfl, fun _ => rfl⟩

theorem OutputsNoted.trans (h : OutputsNoted s t) (h' : OutputsNoted t u) : OutputsNoted s u :=
  ⟨h'.regs.trans h.regs, h'.cfg.trans h.cfg, fun m => (h'.code m).trans (h.code m), fun m => (h'.phase m).trans (h.phase m)⟩

theorem OutputsNoted.rf (h : OutputsNoted s t) (f : Fld) (d i j : Nat) : t.rf f d i j = s.rf f d i j :=
  congrArg (fun m => f.get (mget m (Reg.key ⟨f.reg, d, i, j⟩) (resetWord f.reg i))) h.regs

theorem State.noteDio_noted (s : State) (d i : Nat) : OutputsNoted s (s.noteDio d i) := by
  obtain ⟨m, hm⟩ := State.noteDio_frame (s := s) (d := d) (i := i)
  rw [hm]
  exact ⟨rfl, rfl, fun _ => rfl, fun _ => rfl⟩

theorem State.noteGpio_noted (s : State) (q : Nat) : OutputsNoted s (s.noteGpio q) := by
  unfold State.noteGpio
  split
  · exact ⟨rfl, rfl, fun _ => rfl, fun _ => rfl⟩
  · exact .refl s

/-- A tile other than the one replaced stays. -/
theorem State.tile_setTile_ne (s : State) {n m : Nat} (x : Tile) (h : m ≠ n) : (s.setTile n x).tile m = s.tile m := mget_mset_ne _ _ _ _ _ _ h

theorem State.noteTile_noted (s : State) (n : Nat) : OutputsNoted s (s.noteTile n) := by
  unfold State.noteTile
  split
  · have htile : ∀ m, ((s.setTile n { s.tile n with drove := (s.tile n).code }).tile m).code = (s.tile m).code ∧
        ((s.setTile n { s.tile n with drove := (s.tile n).code }).tile m).phase = (s.tile m).phase := fun m => by
      by_cases hm : m = n
      · rw [hm, State.tile_setTile_same]
        exact ⟨rfl, rfl⟩
      · rw [State.tile_setTile_ne _ _ hm]
        exact ⟨rfl, rfl⟩
    exact ⟨rfl, rfl, fun m => (htile m).1, fun m => (htile m).2⟩
  · exact .refl s

theorem OutputsNoted.dacOn (h : OutputsNoted s t) (n : Nat) : t.dacOn n = s.dacOn n := by
  unfold State.dacOn State.rb
  dsimp only
  rw [h.rf, h.rf, h.code, h.phase]

/-- What a tile that drives as a DAC notes stays noted. -/
theorem OutputsNoted.noteTile_drove (h : OutputsNoted s t) {n : Nat} (hdrove : (t.tile n).drove = (s.tile n).code) (m : Nat) :
    ((t.noteTile m).tile n).drove = (s.tile n).code := by
  unfold State.noteTile
  split
  · by_cases hm : n = m
    · rw [hm, State.tile_setTile_same]
      exact h.code m
    · rw [State.tile_setTile_ne _ _ hm]
      exact hdrove
  · exact hdrove

/-- Every tile that drives as a DAC notes its code while OUT_EN is 1 (R1006). -/
theorem State.noteTiles_drove {s : State} {n : Nat} (hout : s.rf F.DEV_ROLE_CTL_OUT_EN 0 = 1) (hon : s.dacOn n = true) (l : List Nat)
    (hmem : n ∈ l) (t : State) (h : OutputsNoted s t) :
    ((l.foldl (fun (s : State) m => s.noteTile m) t).tile n).drove = (s.tile n).code := by
  induction l generalizing t with
  | nil => cases hmem
  | cons c l ih =>
    have hnext : OutputsNoted s (t.noteTile c) := h.trans (t.noteTile_noted c)
    rcases List.mem_cons.mp hmem with rfl | hin
    · have hset : ((t.noteTile n).tile n).drove = (s.tile n).code := by
        unfold State.noteTile
        rw [State.rb_of_rf_one ((h.rf ..).trans hout), h.dacOn, hon, Bool.true_and, if_pos rfl, State.tile_setTile_same]
        exact h.code n
      have hall := foldl_keeps (fun u => OutputsNoted s u ∧ (u.tile n).drove = (s.tile n).code) (fun (s : State) m => s.noteTile m) l _
        ⟨hnext, hset⟩ fun u m hu => ⟨hu.1.trans (u.noteTile_noted m), hu.1.noteTile_drove hu.2 m⟩
      exact hall.2
    · exact ih hin _ hnext

/-- What the outputs note (R1006). -/
theorem State.noteOutputs_spec {s : State} {n : Nat} (hn : n < 8) (hout : s.rf F.DEV_ROLE_CTL_OUT_EN 0 = 1) (hon : s.dacOn n = true)
    (t : State) (ht : s.noteOutputs = t) : OutputsNoted s t ∧ (t.tile n).drove = (s.tile n).code := by
  obtain ⟨u, hu⟩ : ∃ u, u = s.fabDies.foldl (fun s d => dioIslands.foldl (fun s i => s.noteDio d i) s) s := ⟨_, rfl⟩
  have hdio : OutputsNoted s u := hu ▸ foldl_keeps (OutputsNoted s) _ _ s (.refl s) fun v _ hv =>
    foldl_keeps (OutputsNoted s) _ _ v hv fun w _ hw => hw.trans (w.noteDio_noted _ _)
  have hgpio : OutputsNoted s ((u.noteGpio 0).noteGpio 1) := (hdio.trans (u.noteGpio_noted 0)).trans (State.noteGpio_noted _ 1)
  have hstep : t = (List.range 8).foldl (fun (s : State) n => s.noteTile n) ((u.noteGpio 0).noteGpio 1) := by rw [← ht, hu]; rfl
  rw [hstep]
  exact ⟨foldl_keeps (OutputsNoted s) _ _ _ hgpio fun w m hw => hw.trans (w.noteTile_noted m),
    State.noteTiles_drove hout hon _ (List.mem_range.mpr hn) _ hgpio⟩

end

/-- A tile that drove as a DAC when OUT_EN was cleared holds its safe-state level (R766, R1006). -/
theorem State.tileBall_safe {s t : State} {n : Nat} (hnoted : OutputsNoted s t) (hdrove : (t.tile n).drove = (s.tile n).code)
    (hon : s.dacOn n = true) (hload : s.imageLoaded = true) (u : State) (hu : u = t.wf F.DEV_ROLE_CTL_OUT_EN 0 0) :
    u.tileBall n = if s.rf F.CT_SAFE_CODE 0 n = 1 then some 0 else if s.rf F.CT_SAFE_CODE 0 n = 2 then some (s.rf F.CT_SAFE_VAL 0 n)
      else if s.rf F.CT_SAFE_CODE 0 n = 3 then (s.tile n).code else none := by
  have honly : OnlyRegs t u [reg0 .DEV_ROLE_CTL] := hu ▸ (OnlyRegs.refl t _).wf F.DEV_ROLE_CTL_OUT_EN _ _ _ _ (.head _)
  have hrf : ∀ (f : Fld) (i : Nat), f.reg ≠ .DEV_ROLE_CTL → u.rf f 0 i = s.rf f 0 i := fun f i hf =>
    ((OnlyRegsLio.of_regs honly).rf_name f 0 i 0 (by simp [reg0, hf.symm])).trans (hnoted.rf ..)
  have htile : u.tile n = t.tile n := by unfold State.tile; rw [honly.1]
  have huon : u.dacOn n = true := by
    rw [← hon, ← hnoted.dacOn]
    unfold State.dacOn State.rb
    rw [htile, hrf _ _ (by decide), hrf _ _ (by decide), hnoted.rf, hnoted.rf]
  have hoff : u.rb F.DEV_ROLE_CTL_OUT_EN 0 = false := State.rb_of_rf_zero (hu ▸ State.rf_wf_fits _ F.DEV_ROLE_CTL_OUT_EN _ _ _ _ rfl (by decide))
  have huload : u.imageLoaded = true := by
    unfold State.imageLoaded at hload ⊢
    rw [honly.1, hnoted.cfg]
    exact hload
  have hlt : s.rf F.CT_SAFE_CODE 0 n < 4 := F.CT_SAFE_CODE.get_lt _
  unfold State.tileBall
  dsimp only
  rw [huon, hoff, huload, htile, hrf F.CT_SAFE_CODE n (by decide), hrf F.CT_SAFE_VAL n (by decide), hdrove]
  simp only [Bool.not_true, Bool.false_eq_true, if_false]
  interval_cases s.rf F.CT_SAFE_CODE 0 n <;> rfl

/-- A write of DEV_ROLE_CTL that clears OUT_EN (R38, R1006). -/
theorem State.writeRoleCtl_clears {s : State} {n w : Nat} (hn : n < 8) (hon : s.dacOn n = true) (hout : s.rf F.DEV_ROLE_CTL_OUT_EN 0 = 1)
    (hload : s.imageLoaded = true) (hbit : bit w 1 = false) (hb : bits w 3 3 = s.rf F.DEV_ROLE_CTL_HEAD_LINK_B_EN 0)
    (he : bits w 2 2 = s.rf F.DEV_ROLE_CTL_HEAD_LINK_EN 0) (t : State) (ht : s.writeRoleCtl w false = t) :
    t.rf F.DEV_ROLE_CTL_OUT_EN 0 = 0 ∧
      t.tileBall n = (if s.rf F.CT_SAFE_CODE 0 n = 1 then some 0 else if s.rf F.CT_SAFE_CODE 0 n = 2 then some (s.rf F.CT_SAFE_VAL 0 n)
        else if s.rf F.CT_SAFE_CODE 0 n = 3 then (s.tile n).code else none) := by
  obtain ⟨u, hu⟩ : ∃ u, u = s.roleCtlFields w := ⟨_, rfl⟩
  have hus : OnlyRegs s u [reg0 .DEV_ROLE_CTL] := hu ▸ s.roleCtlFields_only w
  have hrf : ∀ (f : Fld) (i : Nat), f.reg ≠ .DEV_ROLE_CTL → u.rf f 0 i = s.rf f 0 i := fun f i hf =>
    (OnlyRegsLio.of_regs hus).rf_name f 0 i 0 (by simp [reg0, hf.symm])
  have huout : u.rf F.DEV_ROLE_CTL_OUT_EN 0 = 1 := by
    rw [hu]
    exact (s.rf_roleCtlFields_apart w _ 0 0 0 rfl rfl rfl rfl).trans hout
  have htile : u.tile n = s.tile n := by unfold State.tile; rw [hus.1]
  have huon : u.dacOn n = true := by
    rw [← hon]
    unfold State.dacOn State.rb
    rw [htile, hrf _ _ (by decide), hrf _ _ (by decide)]
  have huload : u.imageLoaded = true := by
    unfold State.imageLoaded at hload ⊢
    rw [hus.1]
    exact hload
  have hclear : s.outEnOn w false = false := by
    unfold State.outEnOn
    rw [hbit]
    rfl
  have hwrite := s.writeRoleCtl_spec w false hb he
  rw [hclear, ← hu, State.rb_of_rf_one huout, if_neg Bool.false_ne_true] at hwrite
  obtain ⟨v, hv⟩ : ∃ v, u.noteOutputs = v := ⟨_, rfl⟩
  obtain ⟨hnoted, hdrove⟩ := State.noteOutputs_spec hn huout huon v hv
  have hstep : t = v.wf F.DEV_ROLE_CTL_OUT_EN 0 0 := by rw [← ht, hwrite, ← hv]; rfl
  refine ⟨hstep ▸ State.rf_wf_fits _ F.DEV_ROLE_CTL_OUT_EN _ _ _ _ rfl (by decide), ?_⟩
  rw [State.tileBall_safe hnoted hdrove huon huload t hstep, hrf _ _ (by decide), hrf _ _ (by decide), htile]

/-! ## The end of a conversion -/

theorem exec_conversionComplete {s : State} {n : Nat} (hbusy : (s.tile n).busy = true) (k : Nat) (ovr : Bool) :
    exec (.conversionComplete n k ovr) s = .next (
      let u := s.laneTaken n (0x8000 + b2n ovr * 0x4000 + k % 0x4000)
      let v := if ovr then (u.incE F.CT_OVR_CNT_COUNT 0 n).raise .converterOverRange 0 n else u
      if v.rf F.CT_CTL_MODE 0 n = 3 && (s.tile n).begun = v.rf F.CT_PHASE_ADC_COUNT 0 n then v.tileWord n tagEnd
      else if 3 ≤ (s.tile n).lanes.length + 1 then v.tileWord n tagData else v) :=
  congrArg Host.Outcome.next (if_neg (by rw [hbusy]; decide))

/-- The third lane of a word completes it (R751, R752). -/
theorem exec_conversionComplete_full {s : State} {n k : Nat} (hbusy : (s.tile n).busy = true) (hlanes : (s.tile n).lanes.length = 2)
    (hroom : (s.tile n).queue.length < 16)
    (hmore : ¬ (s.rf F.CT_CTL_MODE 0 n = 3 ∧ (s.tile n).begun = s.rf F.CT_PHASE_ADC_COUNT 0 n)) (hseq : s.rw .CT_WSEQ 0 n + 1 < 2 ^ 48) :
    ∃ t, exec (.conversionComplete n k false) s = .next t ∧ (t.tile n).lanes = [] ∧ (t.tile n).busy = false ∧
      (t.tile n).queue = (s.tile n).queue ++ [(s.rw .CT_WSEQ 0 n, dataWord (laneWord ((s.tile n).lanes ++ [0x8000 + k % 0x4000])))] ∧
      t.rw .CT_WSEQ 0 n = s.rw .CT_WSEQ 0 n + 1 ∧ t.rf F.CT_LAST_LANE 0 n = 0x8000 + k % 0x4000 ∧
      t = { s with regs := t.regs, lio := t.lio } ∧ RegsKept s t [⟨.CT_LAST, 0, n, 0⟩, ⟨.CT_WSEQ, 0, n, 0⟩] := by
  obtain ⟨u, hu⟩ : ∃ u, s.laneTaken n (0x8000 + k % 0x4000) = u := ⟨_, rfl⟩
  obtain ⟨htile, hlast, honly⟩ := s.laneTaken_spec n (by omega) u hu
  have hrf : ∀ f : Fld, f.reg ≠ .CT_LAST → u.rf f 0 n = s.rf f 0 n := fun f hf => honly.rf_name f 0 n 0 (by simp [hf.symm])
  have huseq : u.rw .CT_WSEQ 0 n = s.rw .CT_WSEQ 0 n := honly.rw_name _ 0 n 0 (by simp)
  obtain ⟨t, ht⟩ : ∃ t, u.tileWord n tagData = t := ⟨_, rfl⟩
  obtain ⟨httile, htseq, htonly⟩ := State.tileWord_spec tagData (by rw [htile]; exact hroom) (by rw [huseq]; exact hseq) t ht
  have hexec := exec_conversionComplete hbusy k false
  dsimp only [b2n] at hexec
  rw [if_neg Bool.false_ne_true, if_neg Bool.false_ne_true, Nat.zero_mul, Nat.add_zero, hu, hrf _ (by decide), hrf _ (by decide),
    if_neg (by simpa using hmore), if_pos (by omega), ht] at hexec
  obtain ⟨hframe, hkept⟩ := (honly.mono (rs' := [⟨.CT_LAST, 0, n, 0⟩, ⟨.CT_WSEQ, 0, n, 0⟩]) (by simp)).trans (htonly.mono (by simp))
  refine ⟨t, hexec, by rw [httile], by rw [httile, htile], ?_, by rw [htseq, huseq], ?_, hframe, hkept⟩
  · rw [httile, htile, huseq]
    rfl
  · rw [htonly.rf_name _ _ _ _ (by simp; decide), hlast]

/-- The last conversion of a turnaround period ends its word, and a clipped one is raised (R751, R752, R768). -/
theorem exec_conversionComplete_last {s : State} {n k : Nat} (hbusy : (s.tile n).busy = true) (hroom : (s.tile n).queue.length < 16)
    (hmode : s.rf F.CT_CTL_MODE 0 n = 3) (hlastc : (s.tile n).begun = s.rf F.CT_PHASE_ADC_COUNT 0 n) (hseq : s.rw .CT_WSEQ 0 n + 1 < 2 ^ 48) :
    ∃ t, exec (.conversionComplete n k true) s = .next t ∧ (t.tile n).lanes = [] ∧
      (t.tile n).queue = (s.tile n).queue ++
        [(s.rw .CT_WSEQ 0 n, ⟨BitVec.ofNat 48 (laneWord ((s.tile n).lanes ++ [0xC000 + k % 0x4000])), tagEnd⟩)] ∧
      t.faultLine = s.faultLine ++ [faultEv .converterOverRange 0 n 0] ∧
      RegsKept s t [⟨.CT_LAST, 0, n, 0⟩, ⟨.CT_WSEQ, 0, n, 0⟩, ⟨.CT_OVR_CNT, 0, n, 0⟩] := by
  obtain ⟨u, hu⟩ : ∃ u, s.laneTaken n (0xC000 + k % 0x4000) = u := ⟨_, rfl⟩
  obtain ⟨htile, -, honly⟩ := s.laneTaken_spec n (by omega) u hu
  obtain ⟨c, hc⟩ : ∃ c, c = u.incE F.CT_OVR_CNT_COUNT 0 n := ⟨_, rfl⟩
  have hconly : OnlyRegs u c [⟨.CT_OVR_CNT, 0, n, 0⟩] := hc ▸ (OnlyRegs.refl u _).incE F.CT_OVR_CNT_COUNT 0 n 0 1 (.head _)
  obtain ⟨v, hv⟩ : ∃ v, v = c.raise .converterOverRange 0 n := ⟨_, rfl⟩
  obtain ⟨hvframe, hvline⟩ := hconly.raise .converterOverRange 0 n 0
  rw [← hv] at hvframe hvline
  have hkept : RegsKept s v [⟨.CT_LAST, 0, n, 0⟩, ⟨.CT_OVR_CNT, 0, n, 0⟩] := fun q hq => by
    simp only [List.mem_cons, not_or, List.not_mem_nil, not_false_eq_true, and_true] at hq
    rw [hvframe.2 q (by simp [hq.2]), honly.2 q (by simp [hq.1])]
  have hrf : ∀ f : Fld, f.reg ≠ .CT_LAST → f.reg ≠ .CT_OVR_CNT → v.rf f 0 n = s.rf f 0 n := fun f hl ho =>
    congrArg f.get (hkept _ (by simp [hl, ho]))
  have hvseq : v.rw .CT_WSEQ 0 n = s.rw .CT_WSEQ 0 n := congrArg BitVec.toNat (hkept _ (by simp))
  have hvlio : v.lio = u.lio := by rw [hvframe.1]
  have hvtile : v.tile n = u.tile n := by unfold State.tile; rw [hvlio]
  obtain ⟨t, ht⟩ : ∃ t, v.tileWord n tagEnd = t := ⟨_, rfl⟩
  obtain ⟨httile, -, htonly⟩ := State.tileWord_spec tagEnd (by rw [hvtile, htile]; exact hroom) (by rw [hvseq]; exact hseq) t ht
  have hend : (decide (v.rf F.CT_CTL_MODE 0 n = 3) && decide ((s.tile n).begun = v.rf F.CT_PHASE_ADC_COUNT 0 n)) = true := by
    rw [hrf _ (by decide) (by decide), hrf _ (by decide) (by decide), hmode, hlastc]
    simp
  have hexec : exec (.conversionComplete n k true) s = .next t := by
    rw [exec_conversionComplete hbusy]
    have hlane : 0x8000 + b2n true * 0x4000 + k % 0x4000 = 0xC000 + k % 0x4000 := by
      have hone : b2n true = 1 := rfl
      rw [hone]
    dsimp only
    rw [hlane, hu, if_pos rfl, ← hc, ← hv, if_pos hend, ht]
  have huline : u.faultLine = s.faultLine := by rw [honly.1]
  have htline : t.faultLine = v.faultLine := by rw [htonly.1]
  refine ⟨t, hexec, by rw [httile], ?_, by rw [htline, hvline, huline], fun q hq => ?_⟩
  · rw [httile, hvtile, htile, hvseq]
  · simp only [List.mem_cons, not_or, List.not_mem_nil, not_false_eq_true, and_true] at hq
    rw [htonly.2 q (by simp [hq.2.1]), hkept q (by simp [hq.1, hq.2.2])]

/-- The oldest word of a tile is written to the sample ring (R752). -/
theorem exec_converterWordIssue {s : State} {n q : Nat} {w : TWord} {rest : List (Nat × TWord)} (hqueue : (s.tile n).queue = (q, w) :: rest) :
    exec (.converterWordIssue n) s = .next ((s.setTile n { s.tile n with queue := rest }).inject
      ⟨.write, 0, 10, 0, (s.rw .CT_RING_BASE 0 n + q % 2 ^ s.rf F.CT_RING_CTL_EXP 0 n) % 2 ^ 48, 1, 48, 0, [w], .posted, 0⟩) := by
  change execConverterWordIssue n s = _
  unfold execConverterWordIssue
  dsimp only
  rw [hqueue]
  rfl

/-! ## The statement O43 -/

/-- Settles O43: outputs by `setGpioOut_spec`, tiles by the lemma about each command, OUT_EN by `writeRoleCtl_clears`. -/
theorem outputsAndConvertersFollowTheirRegisters : Obligations.OutputsAndConvertersFollowTheirRegisters := by
  unfold Obligations.OutputsAndConvertersFollowTheirRegisters
  refine ⟨?set, ?clear, ?sched, ?pps, ?enable, ?adc, ?turn, ?phaseEnd, ?start, ?full, ?last, ?issue, ?outEn⟩
  case set =>
    intro s q w htag
    obtain ⟨t, ht⟩ : ∃ t, s.setGpioOut q (s.rw .GPIO_OUT 0 q ||| w.data.toNat) = t := ⟨_, rfl⟩
    obtain ⟨-, hframe, hkept⟩ := s.setGpioOut_spec q _ t ht
    have hlt : s.rw .GPIO_OUT 0 q ||| w.data.toNat < 2 ^ 48 := Nat.or_lt_two_pow (s.rw_word ..) w.data.isLt
    exact ⟨t, congrArg Host.Outcome.next ((if_pos htag).trans ht), fun k => (State.setGpioOut_bits hlt t ht k).trans (bit_or ..), hframe, hkept⟩
  case clear =>
    intro s q w htag
    obtain ⟨t, ht⟩ : ∃ t, s.setGpioOut q (s.rw .GPIO_OUT 0 q - (s.rw .GPIO_OUT 0 q &&& w.data.toNat)) = t := ⟨_, rfl⟩
    obtain ⟨-, hframe, hkept⟩ := s.setGpioOut_spec q _ t ht
    have hlt : s.rw .GPIO_OUT 0 q - (s.rw .GPIO_OUT 0 q &&& w.data.toNat) < 2 ^ 48 := (Nat.sub_le _ _).trans_lt (s.rw_word ..)
    exact ⟨t, congrArg Host.Outcome.next ((if_pos htag).trans ht), fun k => (State.setGpioOut_bits hlt t ht k).trans (bit_sub_and ..), hframe, hkept⟩
  case sched =>
    intro s p hp hfunc harm hpast hnear
    have hnow : s.now < 2 ^ 48 := s.rw_word ..
    have hdue : (decide (p < 96) && decide (s.rf F.GPIO_CFG_FUNC 0 p = 2) && s.rb F.GPIO_CFG_SCHED_ARM 0 p
        && decide ((s.now + 2 ^ 48 - s.rw .GPIO_SCHED_TIME 0 p) % 2 ^ 48 < 2 ^ 47)) = true := by
      have hage : (s.now + 2 ^ 48 - s.rw .GPIO_SCHED_TIME 0 p) % 2 ^ 48 < 2 ^ 47 := by omega
      rw [decide_eq_true hp, decide_eq_true hfunc, State.rb_of_rf_one harm, decide_eq_true hage]
      rfl
    obtain ⟨u, hu⟩ : ∃ u, u = s.wf F.GPIO_CFG_SCHED_ARM 0 0 p := ⟨_, rfl⟩
    have hus : OnlyRegsLio s u [⟨.GPIO_CFG, 0, p, 0⟩, ⟨.GPIO_OUT, 0, p / 48, 0⟩] :=
      hu ▸ (OnlyRegsLio.refl s _).wf F.GPIO_CFG_SCHED_ARM _ 0 p 0 (.head _)
    have huarm : u.rf F.GPIO_CFG_SCHED_ARM 0 p = 0 := hu ▸ State.rf_wf_fits _ F.GPIO_CFG_SCHED_ARM _ _ _ _ rfl (by decide)
    have huout : u.rw .GPIO_OUT 0 (p / 48) = s.rw .GPIO_OUT 0 (p / 48) := by
      rw [hu]
      exact State.rw_wf_name _ F.GPIO_CFG_SCHED_ARM _ _ _ _ _ _ _ _ (by decide)
    obtain ⟨t, ht⟩ : ∃ t, u.setGpioOut (p / 48) (putBit (s.rw .GPIO_OUT 0 (p / 48)) (p % 48) (s.rb F.GPIO_CFG_SCHED_VAL 0 p)) = t := ⟨_, rfl⟩
    have hbits := State.setGpioOut_putBit huout _ t ht
    obtain ⟨-, honly⟩ := u.setGpioOut_spec _ _ t ht
    obtain ⟨hframe, hkept⟩ := hus.trans (honly.mono (by simp))
    have hexec : exec (.gpioScheduledChange p) s = .next t := by
      rw [← ht, hu]
      exact congrArg Host.Outcome.next (if_pos hdue)
    refine ⟨t, hexec, ?_, ?_, fun k hk => ?_, hframe, hkept⟩
    · rw [honly.rf_name _ _ _ _ (by simp; decide), huarm]
    · rw [hbits, if_pos rfl]
      rfl
    · rw [hbits, if_neg hk]
  case pps =>
    intro s p hp hfunc
    have hdue : (decide (p < 96) && decide (s.rf F.GPIO_CFG_FUNC 0 p = 1)) = true := by
      rw [decide_eq_true hp, decide_eq_true hfunc]
      rfl
    obtain ⟨t, ht⟩ : ∃ t, s.setGpioOut (p / 48) (putBit (s.rw .GPIO_OUT 0 (p / 48)) (p % 48)
      (s.now % 1000000000 < s.rf F.TB_CTL_PPS_WIDTH 0 * 1000)) = t := ⟨_, rfl⟩
    have hbits := State.setGpioOut_putBit (rfl : s.rw .GPIO_OUT 0 (p / 48) = _) _ t ht
    obtain ⟨-, hframe, hkept⟩ := s.setGpioOut_spec _ _ t ht
    refine ⟨t, congrArg Host.Outcome.next ((if_pos hdue).trans ht), ?_, fun k hk => ?_, hframe, hkept⟩
    · rw [hbits, if_pos rfl]
    · rw [hbits, if_neg hk]
  case enable =>
    intro s n w htag hbit hoff
    obtain ⟨t, ht⟩ : ∃ t, s.writeCtCtl n w.data.toNat = t := ⟨_, rfl⟩
    obtain ⟨hmode, hen, hframe, hkept⟩ := State.writeCtCtl_enable hbit hoff t ht
    exact ⟨t, congrArg Host.Outcome.next ((if_pos htag).trans ht), hmode, hen, hframe, hkept⟩
  case adc =>
    intro s n hen hmode
    change execConverterTick n s = _
    unfold execConverterTick
    dsimp only
    rw [State.rb_of_rf_one hen, hmode]
    rfl
  case turn =>
    intro s n hen hmode
    have hexec : exec (.converterTick n) s = .next (s.dacDrive n { s.tile n with phase := 1, begun := 0, lanes := [] }) := by
      change execConverterTick n s = _
      unfold execConverterTick
      dsimp only
      rw [State.rb_of_rf_one hen, hmode]
      rfl
    rw [hexec, State.dacDrive_turnaround hen hmode rfl]
  case phaseEnd =>
    intro s n hen hphase
    refine congrArg Host.Outcome.next (if_pos ?_)
    rw [State.rb_of_rf_one hen, decide_eq_true hphase]
    rfl
  case start =>
    intro s n hen hmode hphase hidle hless
    refine congrArg Host.Outcome.next (if_pos ?_)
    rw [State.rb_of_rf_one hen, decide_eq_true hmode, decide_eq_true hphase, hidle, decide_eq_true hless]
    rfl
  case full => exact fun s n k hbusy hlanes hroom hmore hseq => exec_conversionComplete_full hbusy hlanes hroom hmore hseq
  case last => exact fun s n k hbusy hroom hmode hlast hseq => exec_conversionComplete_last hbusy hroom hmode hlast hseq
  case issue =>
    intro s n q w rest hqueue
    exact ⟨_, exec_converterWordIssue hqueue, congrArg Tile.queue (State.tile_setTile_same ..), ⟨rfl, rfl⟩, rfl⟩
  case outEn =>
    intro s n w hn hon hout hload htag hbit hb he
    obtain ⟨t, ht⟩ : ∃ t, s.writeRoleCtl w.data.toNat false = t := ⟨_, rfl⟩
    obtain ⟨hoff, hball⟩ := State.writeRoleCtl_clears hn hon hout hload hbit hb he t ht
    exact ⟨t, congrArg Host.Outcome.next ((if_pos htag).trans ht), hoff, hball⟩

end Sys2Proof.Machine
end

section
/-!
SUPPORT. Racking epochs of a duplex pair: proof of the statement O52.
-/
namespace Sys2Proof.Machine

/-! ## What the duplex pair changes -/

/-- Nothing differs but the registers `rs`, the duplex part and the Saette links. -/
def OnlyDuplex (s t : State) (rs : List Reg) : Prop := t = { s with regs := t.regs, dup := t.dup, links := t.links } ∧ RegsKept s t rs

section
variable {s t u : State} {rs : List Reg}

theorem OnlyDuplex.refl (s : State) (rs : List Reg) : OnlyDuplex s s rs := ⟨rfl, .refl s rs⟩

theorem OnlyDuplex.of_regs (h : OnlyRegs s t rs) : OnlyDuplex s t rs := ⟨by rw [h.1], h.2⟩

theorem OnlyDuplex.trans (h : OnlyDuplex s t rs) (h' : OnlyDuplex t u rs) : OnlyDuplex s u rs := by
  refine ⟨?_, h.2.trans h'.2⟩
  rw [h'.1, h.1]

theorem OnlyDuplex.mono {rs' : List Reg} (h : OnlyDuplex s t rs) (hsub : ∀ q ∈ rs, q ∈ rs') : OnlyDuplex s t rs' := ⟨h.1, h.2.mono hsub⟩

theorem OnlyDuplex.setDup (h : OnlyDuplex s t rs) (d : Dup) : OnlyDuplex s (t.setDup d) rs := h.trans ⟨rfl, .refl _ _⟩

theorem OnlyDuplex.setSl (h : OnlyDuplex s t rs) (l : Nat) (x : Sl) : OnlyDuplex s (t.setSl l x) rs := h.trans ⟨rfl, .refl _ _⟩

theorem OnlyDuplex.tookCell (s : State) (l : Nat) (rs : List Reg) : OnlyDuplex s (s.tookCell l) rs := ⟨rfl, .refl _ _⟩

theorem OnlyDuplex.wf (h : OnlyDuplex s t rs) (f : Fld) (v d i j : Nat) (hf : (⟨f.reg, d, i, j⟩ : Reg) ∈ rs) :
    OnlyDuplex s (t.wf f v d i j) rs := h.trans (.of_regs ((OnlyRegs.refl t rs).wf f v d i j hf))

theorem OnlyDuplex.ww (h : OnlyDuplex s t rs) (n : RegName) (v d i j : Nat) (hn : (⟨n, d, i, j⟩ : Reg) ∈ rs) :
    OnlyDuplex s (t.ww n v d i j) rs := h.trans (.of_regs ((OnlyRegs.refl t rs).ww n v d i j hn))

theorem OnlyDuplex.incE (h : OnlyDuplex s t rs) (f : Fld) (d i j n : Nat) (hf : (⟨f.reg, d, i, j⟩ : Reg) ∈ rs) :
    OnlyDuplex s (t.incE f d i j n) rs := h.trans (.of_regs ((OnlyRegs.refl t rs).incE f d i j n hf))

theorem OnlyDuplex.rf (h : OnlyDuplex s t rs) (f : Fld) (d i j : Nat) (hf : (⟨f.reg, d, i, j⟩ : Reg) ∉ rs) :
    t.rf f d i j = s.rf f d i j := by
  unfold State.rf
  rw [h.2 _ hf]

theorem OnlyDuplex.rw (h : OnlyDuplex s t rs) (n : RegName) (d i j : Nat) (hn : (⟨n, d, i, j⟩ : Reg) ∉ rs) :
    t.rw n d i j = s.rw n d i j := by
  unfold State.rw
  rw [h.2 _ hn]

theorem OnlyDuplex.linkUp (h : OnlyDuplex s t rs) (l : Nat) (hl : (⟨.SL_STAT, 0, l, 0⟩ : Reg) ∉ rs) : t.linkUp l = s.linkUp l :=
  congrArg (· == 2) (h.rf F.SL_STAT_STATE 0 l 0 hl)

end

/-- A counter that increments leaves the duplex part and the links. -/
theorem State.incE_dup (s : State) (f : Fld) (d i j n : Nat) : (s.incE f d i j n).dup = s.dup := by
  rw [((OnlyRegs.refl s [⟨f.reg, d, i, j⟩]).incE f d i j n (.head _)).1]

theorem State.incE_sl (s : State) (f : Fld) (d i j n l : Nat) : (s.incE f d i j n).sl l = s.sl l := by
  rw [((OnlyRegs.refl s [⟨f.reg, d, i, j⟩]).incE f d i j n (.head _)).1]
  rfl

/-! ## Events of the racking block -/

/-- A fold that changes a measure only at the item in turn leaves it at other items. -/
theorem foldl_apart {A B X : Type} (f : A → B → A) (g : A → B → X) (hne : ∀ a b c, c ≠ b → g (f a b) c = g a c) (l : List B) (a : A) (b : B)
    (hb : b ∉ l) : g (l.foldl f a) b = g a b := by
  induction l generalizing a with
  | nil => rfl
  | cons c rest ih =>
    obtain ⟨hbc, hout⟩ := not_or.mp (mt List.mem_cons.mpr hb)
    exact (ih (f a c) hout).trans (hne a c b hbc)

/-- Over distinct items it changes the measure once at each. -/
theorem foldl_once {A B X : Type} (f : A → B → A) (g : A → B → X) (φ : X → X) (hsame : ∀ a b, g (f a b) b = φ (g a b))
    (hne : ∀ a b c, c ≠ b → g (f a b) c = g a c) (l : List B) (hnodup : l.Nodup) (a : A) (b : B) (hb : b ∈ l) :
    g (l.foldl f a) b = φ (g a b) := by
  induction l generalizing a with
  | nil => cases hb
  | cons c rest ih =>
    obtain ⟨hout, hrest⟩ := List.nodup_cons.mp hnodup
    rcases List.mem_cons.mp hb with rfl | hin
    · exact (foldl_apart f g hne rest _ b hout).trans (hsame a b)
    · have hbc : b ≠ c := fun h => hout (h ▸ hin)
      exact (ih hrest _ hin).trans (congrArg φ (hne a c b hbc))

theorem key3_ne {d i p e j : Nat} (h : ¬(d = e ∧ i = j)) : key3 d i p ≠ key3 e j p := by
  intro hkey
  have hpair := Nat.pair_eq_pair.mp (Nat.pair_eq_pair.mp hkey).1
  exact h hpair

theorem State.evt_setEvt_ne (s : State) {d i e j : Nat} (p : Nat) (x : Evt) (h : ¬(d = e ∧ i = j)) :
    (s.setEvt e j p x).evt d i p = s.evt d i p := mget_mset_ne _ _ _ _ _ _ (key3_ne h)

/-- Island `i` of die `d` receives an event of the racking block at port `p` (R959, R968). -/
def State.eventTo (s : State) (d i p : Nat) : State :=
  s.setEvt d i p (({ s.evt d i p with front := if s.running d i then 0 else (s.evt d i p).front } : Evt).bump)

theorem State.eventTo_same (s : State) (d i p : Nat) : ((s.eventTo d i p).evt d i p).count = ((s.evt d i p).count + 1) % 65536 :=
  congrArg Evt.count (State.evt_setEvt_same s d i p _)

theorem State.eventTo_ne (s : State) {d i e j : Nat} (p : Nat) (h : ¬(d = e ∧ i = j)) : (s.eventTo e j p).evt d i p = s.evt d i p :=
  State.evt_setEvt_ne s p _ h

/-- Every island of a die receives the event. -/
theorem State.eventDie_count (s : State) (d p : Nat) {i : Nat} (hi : i < 16) :
    (((List.range 16).foldl (fun (s : State) i => s.eventTo d i p) s).evt d i p).count = ((s.evt d i p).count + 1) % 65536 :=
  foldl_once (fun (s : State) i => s.eventTo d i p) (fun s i => (s.evt d i p).count) (fun n => (n + 1) % 65536)
    (fun a i => a.eventTo_same d i p) (fun a _ _ hk => congrArg Evt.count (a.eventTo_ne p fun h => hk h.2)) _ List.nodup_range s i
    (List.mem_range.mpr hi)

theorem State.eventDie_ne (s : State) (p i : Nat) {d e : Nat} (h : e ≠ d) :
    ((List.range 16).foldl (fun (s : State) i => s.eventTo d i p) s).evt e i p = s.evt e i p :=
  foldl_keeps (fun t : State => t.evt e i p = s.evt e i p) _ _ s rfl fun t _ ht => (t.eventTo_ne p fun hc => h hc.1).trans ht

theorem State.fabDies_nodup (s : State) : s.fabDies.Nodup := by
  unfold State.fabDies
  split
  · decide
  · decide

/-- Every island of the fabric dies receives the event once; nothing else changes (R959, R968). -/
theorem State.eventAll_spec (s : State) (p : Nat) (t : State) (ht : s.eventAll p = t) :
    (∀ d i, d ∈ s.fabDies → i < 16 → (t.evt d i p).count = ((s.evt d i p).count + 1) % 65536) ∧ ∃ e, t = { s with evts := e } := by
  subst ht
  refine ⟨fun d i hd hi => ?_, ?_⟩
  · exact foldl_once (fun (s : State) d => (List.range 16).foldl (fun (s : State) i => s.eventTo d i p) s) (fun s d => (s.evt d i p).count)
      (fun n => (n + 1) % 65536) (fun a d => a.eventDie_count d p hi) (fun a d e he => congrArg Evt.count (a.eventDie_ne p i he)) _
      s.fabDies_nodup s d hd
  · refine foldl_keeps (fun t : State => ∃ e, t = { s with evts := e }) _ _ s ⟨_, rfl⟩ fun t d ht => ?_
    refine foldl_keeps (fun t : State => ∃ e, t = { s with evts := e }) _ _ t ht fun u i hu => ?_
    obtain ⟨e, rfl⟩ := hu
    exact ⟨_, rfl⟩

/-! ## Cuts -/

theorem ahead_of_later {a p : Nat} (hlater : a < p) (hp : p < 2 ^ 71) :
    (p + 2 ^ 72 - a) % 2 ^ 72 ≠ 0 ∧ ¬ 2 ^ 71 ≤ (p + 2 ^ 72 - a) % 2 ^ 72 := by omega

/-- What a member that takes the cut at `p` holds of it (R958). -/
def State.cutTaken (s : State) (p phase : Nat) : State :=
  s.setDup { s.dup with
    epoch := (s.dup.epoch + 1) % 2 ^ 32, lastCut := p, tCut := p, per := s.rf F.DUP_CTL_EPOCH 0, snap := s.rf F.DUP_CTL_SNAP_US 0
    regions := s.latchRegions ((s.dup.epoch + 1) % 2 ^ 32), phase := phase, todo := [], rtag := none }

section
variable {s : State} {p : Nat}

/-- The time has reached a later multiple of the period: the cut is due. -/
theorem rackingCut_due (hstate : 2 ≤ s.rf F.DUP_STAT_STATE 0) (hlater : s.dup.lastCut < p) (hp : p < 2 ^ 71) :
    ¬ (decide (s.rf F.DUP_STAT_STATE 0 < 2) || decide ((p + 2 ^ 72 - s.dup.lastCut) % 2 ^ 72 = 0) ||
      decide (2 ^ 71 ≤ (p + 2 ^ 72 - s.dup.lastCut) % 2 ^ 72)) = true := by
  obtain ⟨hne, hnear⟩ := ahead_of_later hlater hp
  have hrun : ¬ s.rf F.DUP_STAT_STATE 0 < 2 := Nat.not_lt.mpr hstate
  rw [decide_eq_false hne, decide_eq_false hnear, decide_eq_false hrun]
  decide

/-- An active member with an up link that is not copying takes the cut (R958, R959). -/
theorem exec_rackingCut_taken (hstate : 2 ≤ s.rf F.DUP_STAT_STATE 0) (hact : s.rf F.DEV_ROLE_CTL_ACTIVE 0 = 1)
    (hup : s.linkUp 2 = true) (hphase : s.dup.phase = 0) (hcut : s.cutPoint s.dup.per = p) (hlater : s.dup.lastCut < p) (hp : p < 2 ^ 71)
    (hnotice : s.rf F.DUP_CTL_CUT_NOTICE 0 = 0) : exec .rackingCut s = .next ((s.cutTaken p 1).eventAll 8) := by
  obtain ⟨t, ht⟩ : ∃ t, (s.cutTaken p 1).eventAll 8 = t := ⟨_, rfl⟩
  obtain ⟨e, hframe⟩ := (State.eventAll_spec _ 8 t ht).2
  have hquiet : t.rb F.DUP_CTL_CUT_NOTICE 0 = false := by
    rw [hframe]
    exact State.rb_of_rf_zero (s := s) hnotice
  have hidle : ¬ (s.rb F.DEV_ROLE_CTL_ACTIVE 0 && decide (s.dup.phase ≠ 0) && s.linkUp 2) = true := by
    rw [hphase, Bool.and_assoc]
    simp
  have hcopy : (s.rb F.DEV_ROLE_CTL_ACTIVE 0 && s.linkUp 2) = true := by rw [State.rb_of_rf_one hact, hup]; rfl
  change execRackingCut s = _
  unfold execRackingCut
  dsimp only
  rw [hcut, if_neg (rackingCut_due hstate hlater hp), if_neg hidle, hcopy, if_pos rfl]
  have hcopied := ht
  unfold State.cutTaken at hcopied
  rw [hcopied, hquiet, if_neg Bool.false_ne_true, ht]

/-- An active member that is still copying overruns (R965). -/
theorem exec_rackingCut_overrun (hstate : 2 ≤ s.rf F.DUP_STAT_STATE 0) (hact : s.rf F.DEV_ROLE_CTL_ACTIVE 0 = 1)
    (hup : s.linkUp 2 = true) (hphase : s.dup.phase ≠ 0) (hcut : s.cutPoint s.dup.per = p) (hlater : s.dup.lastCut < p) (hp : p < 2 ^ 71) :
    exec .rackingCut s = .next (((s.setDup { s.dup with lastCut := p }).incE F.DUP_OVERRUN_CNT_COUNT 0).raise .rackingEpochOverrun 0 0) := by
  have hbusy : (s.rb F.DEV_ROLE_CTL_ACTIVE 0 && decide (s.dup.phase ≠ 0) && s.linkUp 2) = true := by
    rw [State.rb_of_rf_one hact, hup, decide_eq_true hphase]
    rfl
  change execRackingCut s = _
  unfold execRackingCut
  dsimp only
  rw [hcut, if_neg (rackingCut_due hstate hlater hp), if_pos hbusy]

/-- Before the time has reached a later multiple nothing happens. -/
theorem exec_rackingCut_same (hcut : s.dup.lastCut = s.cutPoint s.dup.per) : exec .rackingCut s = .next s := by
  have hzero : (s.dup.lastCut + 2 ^ 72 - s.dup.lastCut) % 2 ^ 72 = 0 := by rw [Nat.add_sub_cancel_left, Nat.mod_self]
  change execRackingCut s = _
  unfold execRackingCut
  dsimp only
  rw [← hcut, hzero, decide_eq_true rfl, Bool.or_true, Bool.true_or, if_pos rfl]

end

/-! ## The copy -/

/-- The commit marker (R964). -/
def State.markerBody (s : State) : Nat :=
  8 * 2 ^ 196 + s.dup.epoch * 2 ^ 164 + s.dup.tCut % 2 ^ 48 * 2 ^ 116 + (s.dup.txCrc ^^^ 0xFFFFFFFF) * 2 ^ 84
    + s.dup.txWords % 2 ^ 24 * 2 ^ 60

/-- With nothing left to copy the commit marker is sent (R964). -/
theorem State.rackStep_done {s : State} (htodo : s.dup.todo = []) (n : Nat) : s.rackStep (n + 1) =
    ((s.sysPush 2 s.markerBody).wf F.DUP_STAT_COPYING 0 0).setDup { s.dup with phase := 0 } := by
  rw [State.rackStep, htodo]
  rfl

/-- What the start of the copy leaves (R960). -/
def State.copyStarted (s : State) : State :=
  (s.wf F.DUP_STAT_COPYING 1 0).setDup { s.dup with
    phase := 2, todo := s.dup.regions, off := 0, rtag := none, txCrc := 0xFFFFFFFF, txWords := 0 }

theorem State.dup_setDup (s : State) (d : Dup) : (s.setDup d).dup = d := rfl

theorem xor_eq_zero_of_eq {x y : Nat} (h : x = y) : x ^^^ y = 0 := h ▸ Nat.xor_self x

theorem add_zeros {x b c : Nat} (y z : Nat) (hb : b = 0) (hc : c = 0) : x + b * y + c * z = x := by rw [hb, hc]; simp

section
variable {s : State}

theorem exec_rackingCopyStart_start (hphase : s.dup.phase = 1)
    (hdue : s.dup.snap * 1000 ≤ (s.now + 2 ^ 48 - s.dup.tCut % 2 ^ 48) % 2 ^ 48) :
    exec .rackingCopyStart s = .next (s.copyStarted.rackStep 34) := by
  have hstart : (decide (s.dup.phase = 1) && decide (s.dup.snap * 1000 ≤ (s.now + 2 ^ 48 - s.dup.tCut % 2 ^ 48) % 2 ^ 48)) = true := by
    rw [decide_eq_true hphase, decide_eq_true hdue]
    rfl
  exact congrArg Host.Outcome.next (if_pos hstart)

theorem exec_rackingCopyStart_idle (hphase : s.dup.phase = 0) : exec .rackingCopyStart s = .next s := by
  change execRackingCopyStart s = _
  unfold execRackingCopyStart
  dsimp only
  rw [hphase]
  rfl

/-- The marker of an epoch without regions has CRC and word count 0. -/
theorem State.copyStarted_marker (hcut : s.dup.tCut < 2 ^ 48) :
    s.copyStarted.markerBody = 8 * 2 ^ 196 + s.dup.epoch * 2 ^ 164 + s.dup.tCut * 2 ^ 116 := by
  obtain ⟨d, hd⟩ : ∃ d : Dup, d = { s.dup with
    phase := 2, todo := s.dup.regions, off := 0, rtag := none, txCrc := 0xFFFFFFFF, txWords := 0 } := ⟨_, rfl⟩
  have hdup : s.copyStarted.dup = d := hd ▸ State.dup_setDup _ _
  have hepoch : d.epoch = s.dup.epoch := hd ▸ rfl
  have htime : d.tCut = s.dup.tCut := hd ▸ rfl
  have hcrc : d.txCrc = 0xFFFFFFFF := hd ▸ rfl
  have hwords : d.txWords = 0 := hd ▸ rfl
  unfold State.markerBody
  rw [hdup, hepoch, htime, Nat.mod_eq_of_lt hcut]
  exact add_zeros _ _ (xor_eq_zero_of_eq hcrc) (by rw [hwords, Nat.zero_mod])

/-- With no region enabled the copy is over at once (R961, R964). -/
theorem State.copyStarted_empty (hregions : s.dup.regions = []) (hup : s.linkUp 2 = true) (t : State) (ht : s.copyStarted.rackStep 34 = t) :
    (t.sl 2).system = (s.sl 2).system ++ [s.copyStarted.markerBody] ∧ t.dup.phase = 0 ∧ t.rf F.DUP_STAT_COPYING 0 = 0 ∧
      (∀ k, k ≠ 2 → t.sl k = s.sl k) ∧ OnlyDuplex s t [⟨.DUP_STAT, 0, 0, 0⟩] := by
  obtain ⟨u, hu⟩ : ∃ u, s.copyStarted = u := ⟨_, rfl⟩
  have hsu : OnlyDuplex s u [⟨.DUP_STAT, 0, 0, 0⟩] := hu ▸ ((OnlyDuplex.refl s _).wf F.DUP_STAT_COPYING _ _ _ _ (.head _)).setDup _
  have hsl : ∀ k, u.sl k = s.sl k := fun k => by rw [← hu]; exact (State.setDup_sl ..).trans (State.wf_sl ..)
  have htodo : u.dup.todo = [] := by rw [← hu]; exact hregions
  have huup : u.linkUp 2 = true := (hsu.linkUp 2 (by simp)).trans hup
  rw [hu] at ht ⊢
  obtain ⟨v, hv⟩ : ∃ v, u.sysPush 2 u.markerBody = v := ⟨_, rfl⟩
  rw [show 34 = 33 + 1 from rfl, State.rackStep_done htodo, hv] at ht
  have hvset : v = u.setSl 2 { u.sl 2 with system := (u.sl 2).system ++ [u.markerBody] } := hv ▸ State.sysPush_up huup _
  have hvl : ∀ k, t.sl k = v.sl k := fun k => by rw [← ht]; exact (State.setDup_sl ..).trans (State.wf_sl ..)
  subst ht
  refine ⟨?_, rfl, ?_, fun k hk => ?_, (((hvset ▸ hsu.setSl _ _).wf F.DUP_STAT_COPYING _ _ _ _ (.head _))).setDup _⟩
  · rw [hvl, hvset, State.sl_setSl_same, hsl]
  · exact (State.setDup_rf ..).trans (State.rf_wf_fits _ F.DUP_STAT_COPYING _ _ _ _ rfl (by decide))
  · rw [hvl, hvset, State.sl_setSl_ne hk, hsl]

end

/-! ## The receiving half -/

/-- The destination of words of region `r` in the half that COMMIT_HALF does not name (R963). -/
def State.rackDst (s : State) (r : Nat) : Nat :=
  if s.rf F.DUP_STAT_COMMIT_HALF 0 = 1 then s.rw .DUP_REG_DST_A 0 r else s.rw .DUP_REG_DST_B 0 r

/-- What words of region `r` for address `a` leave of the receiving half (R963). -/
def State.halfTook (s : State) (r a : Nat) (ws : List TWord) : State :=
  (s.setDup { s.dup with
    rxCrc := (ws.flatMap rackBytes).foldl crcByte (if s.dup.rxWords = 0 then 0xFFFFFFFF else s.dup.rxCrc)
    rxWords := s.dup.rxWords + ws.length
    rxLast := mins s.dup.rxLast r (a + ws.length - 1, ws.getLastD noWord) }).wf F.DUP_STAT_COPYING 1 0

section
variable {s : State} {cell : Nat}

theorem standby_not_other (hstate : s.rf F.DUP_STAT_STATE 0 = 3 ∨ s.rf F.DUP_STAT_STATE 0 = 4) :
    (decide (s.rf F.DUP_STAT_STATE 0 ≠ 3) && decide (s.rf F.DUP_STAT_STATE 0 ≠ 4)) = false := by
  rcases hstate with h | h
  · rw [h]; rfl
  · rw [h]; rfl

theorem exec_rackData_standby (hdue : s.cellDue 2 cell = true) (hkind : cellKind cell = .system) (hcode : cellBody cell / 2 ^ 196 % 16 = 7)
    (hwords : bodyWords (bits (cellBody cell) 161 160) (cellBody cell) ≠ [])
    (hstate : s.rf F.DUP_STAT_STATE 0 = 3 ∨ s.rf F.DUP_STAT_STATE 0 = 4) (hregions : s.dup.regions = []) (r a : Nat) (ws : List TWord)
    (hr : bits (cellBody cell) 195 191 = r) (hws : bodyWords (bits (cellBody cell) 161 160) (cellBody cell) = ws)
    (ha : (s.rackDst r + bits (cellBody cell) 190 167) % 2 ^ 48 = a) :
    exec (.rackData 2 cell) s = .next (((s.tookCell 2).halfTook r a ws).post 0 9 a ws) := by
  have hne : ws.isEmpty = false := by
    rw [hws] at hwords
    cases ws with
    | nil => exact absurd rfl hwords
    | cons w rest => rfl
  have hgo : ¬ ((decide (s.rf F.DUP_STAT_STATE 0 ≠ 3) && decide (s.rf F.DUP_STAT_STATE 0 ≠ 4)) || ws.isEmpty) = true := by
    rw [standby_not_other hstate, hne]
    decide
  obtain ⟨u, hu⟩ : ∃ u, s.tookCell 2 = u := ⟨_, rfl⟩
  have hureg : (u.dup.regions.find? fun x => x.num == r) = none := by
    have hnone : u.dup.regions = [] := by rw [← hu]; exact hregions
    rw [hnone]
    rfl
  have hst : u.rf F.DUP_STAT_STATE 0 = s.rf F.DUP_STAT_STATE 0 := by rw [← hu]; rfl
  have hdst : (if u.rb F.DUP_STAT_COMMIT_HALF 0 then u.rw .DUP_REG_DST_A 0 r else u.rw .DUP_REG_DST_B 0 r) = s.rackDst r := by
    have hone : u.rb F.DUP_STAT_COMMIT_HALF 0 = true ↔ s.rf F.DUP_STAT_COMMIT_HALF 0 = 1 := by
      have hrb : u.rb F.DUP_STAT_COMMIT_HALF 0 = s.rb F.DUP_STAT_COMMIT_HALF 0 := by rw [← hu]; rfl
      rw [hrb]
      unfold State.rb
      simp
    have hrw : ∀ n, u.rw n 0 r = s.rw n 0 r := fun n => by rw [← hu]; rfl
    unfold State.rackDst
    simp only [hone, hrw]
  change execRackData 2 cell s = _
  unfold execRackData
  rw [systemRow_due hdue hkind hcode (fun _ => by decide) (fun h => absurd rfl h), hu]
  dsimp only
  rw [hr, hws, hst, if_neg hgo, hureg]
  dsimp only
  rw [hdst, ha]
  rfl

end

/-- What received words leave of the receiving half (R963). -/
theorem State.halfTook_spec (s : State) (r a : Nat) (ws : List TWord) (t : State) (ht : s.halfTook r a ws = t) :
    t.dup.rxWords = s.dup.rxWords + ws.length ∧ t.rf F.DUP_STAT_COPYING 0 = 1 ∧
      t.rf F.DUP_STAT_COMMIT_HALF 0 = s.rf F.DUP_STAT_COMMIT_HALF 0 ∧ t.links = s.links ∧ OnlyDuplex s t [⟨.DUP_STAT, 0, 0, 0⟩] := by
  obtain ⟨d, hd, hwords⟩ : ∃ d : Dup, t = (s.setDup d).wf F.DUP_STAT_COPYING 1 0 ∧ d.rxWords = s.dup.rxWords + ws.length :=
    ⟨_, ht.symm, rfl⟩
  have hframe := ((OnlyDuplex.refl s [⟨.DUP_STAT, 0, 0, 0⟩]).setDup d).wf F.DUP_STAT_COPYING 1 0 0 0 (.head _)
  clear ht
  subst hd
  refine ⟨?_, State.rf_wf_fits _ F.DUP_STAT_COPYING _ _ _ _ rfl (by decide), ?_, ?_, hframe⟩
  · rw [State.wf_dup, State.dup_setDup, hwords]
  · rw [State.rf_wf_apart _ _ _ _ _ _ _ _ _ _ rfl rfl, State.setDup_rf]
  · rw [State.wf_links, State.setDup_links]

/-! ## The commit -/

section
variable {s : State} {cell : Nat}

theorem exec_rackCommit_standby (hdue : s.cellDue 2 cell = true) (hkind : cellKind cell = .system) (hcode : cellBody cell / 2 ^ 196 % 16 = 8)
    (hstate : s.rf F.DUP_STAT_STATE 0 = 3 ∨ s.rf F.DUP_STAT_STATE 0 = 4) (hlast : s.dup.rxLast = []) :
    exec (.rackCommit 2 cell) s = .next ((s.tookCell 2).setDup { s.dup with
      mark := some (bits (cellBody cell) 195 164, bits (cellBody cell) 163 116, bits (cellBody cell) 115 84, bits (cellBody cell) 83 60)
      backs := [], backBad := false }) := by
  obtain ⟨u, hu⟩ : ∃ u, s.tookCell 2 = u := ⟨_, rfl⟩
  have hst : u.rf F.DUP_STAT_STATE 0 = s.rf F.DUP_STAT_STATE 0 := by rw [← hu]; rfl
  have hdup : u.dup = s.dup := by rw [← hu]; rfl
  change execRackCommit 2 cell s = _
  unfold execRackCommit
  rw [systemRow_due hdue hkind hcode (fun _ => by decide) (fun h => absurd rfl h), hu]
  dsimp only
  rw [hst, standby_not_other hstate, if_neg Bool.false_ne_true, hdup]
  exact congrArg Host.Outcome.next (by dsimp only [State.setDup]; rw [hlast]; rfl)

/-- The receiving half committed (R964, R974). -/
def State.halfCommitted (s : State) (e c : Nat) : State :=
  let half := s.rf F.DUP_STAT_COMMIT_HALF 0
  let s := ((s.wf F.DUP_STAT_COMMIT_HALF (1 - half) 0).ww .DUP_EPOCH_NUM e 0).ww .DUP_CUT_TIME c 0
  let s := (s.wf F.DUP_STAT_STATE 3 0).incE F.DUP_EPOCH_CNT_COUNT 0
  (s.setDup { s.dup with committed := true, fails := 0 }).dropHalf

theorem exec_commitComplete_match {e c n : Nat} (hmark : s.dup.mark = some (e, c, s.dup.rxCrc ^^^ 0xFFFFFFFF, n)) (hwords : s.dup.rxWords = n)
    (hn : n < 2 ^ 24) (hpos : n ≠ 0) (hbacks : s.dup.backs = []) (hgood : s.dup.backBad = false) :
    exec .rackingCommitComplete s = .next ((s.halfCommitted e c).rackAck e true) := by
  have hcrc : (if s.dup.rxWords = 0 then 0xFFFFFFFF else s.dup.rxCrc) = s.dup.rxCrc := if_neg (hwords ▸ hpos)
  have hcount : s.dup.rxWords % 2 ^ 24 = n := by rw [hwords, Nat.mod_eq_of_lt hn]
  change execRackingCommitComplete s = _
  unfold execRackingCommitComplete
  dsimp only
  rw [hmark]
  dsimp only
  rw [hcrc, hcount, hbacks, hgood]
  simp only [decide_true, Bool.not_false, Bool.and_true, List.isEmpty_nil, Bool.not_true, Bool.and_false, Bool.false_eq_true, if_false, if_true]
  rfl

/-- What the commit of the receiving half leaves (R964, R974). -/
theorem State.halfCommitted_spec (s : State) {e c : Nat} (he : e < 2 ^ 32) (hc : c < 2 ^ 48) (hcnt : s.rf F.DUP_EPOCH_CNT_COUNT 0 < 2 ^ 32 - 1)
    (t : State) (ht : s.halfCommitted e c = t) :
    t.rf F.DUP_STAT_COMMIT_HALF 0 = 1 - s.rf F.DUP_STAT_COMMIT_HALF 0 ∧ t.rw .DUP_EPOCH_NUM 0 = e ∧ t.rw .DUP_CUT_TIME 0 = c ∧
      t.rf F.DUP_STAT_STATE 0 = 3 ∧ t.rf F.DUP_EPOCH_CNT_COUNT 0 = s.rf F.DUP_EPOCH_CNT_COUNT 0 + 1 ∧ t.dup.committed = true ∧
      t.dup.fails = 0 ∧ t.dup.mark = none ∧ t.links = s.links ∧
      OnlyDuplex s t [⟨.DUP_STAT, 0, 0, 0⟩, ⟨.DUP_EPOCH_NUM, 0, 0, 0⟩, ⟨.DUP_CUT_TIME, 0, 0, 0⟩, ⟨.DUP_EPOCH_CNT, 0, 0, 0⟩] := by
  have hhalf : s.rf F.DUP_STAT_COMMIT_HALF 0 < 2 := F.DUP_STAT_COMMIT_HALF.get_lt _
  obtain ⟨u, hu⟩ : ∃ u, u = (((s.wf F.DUP_STAT_COMMIT_HALF (1 - s.rf F.DUP_STAT_COMMIT_HALF 0) 0).ww .DUP_EPOCH_NUM e 0).ww .DUP_CUT_TIME c 0).wf
    F.DUP_STAT_STATE 3 0 := ⟨_, rfl⟩
  have hsu : OnlyRegs s u [⟨.DUP_STAT, 0, 0, 0⟩, ⟨.DUP_EPOCH_NUM, 0, 0, 0⟩, ⟨.DUP_CUT_TIME, 0, 0, 0⟩, ⟨.DUP_EPOCH_CNT, 0, 0, 0⟩] := by
    rw [hu]
    exact ((((OnlyRegs.refl s _).wf F.DUP_STAT_COMMIT_HALF _ _ _ _ (by decide)).ww .DUP_EPOCH_NUM _ _ _ _ (by decide)).ww .DUP_CUT_TIME _ _ _ _
      (by decide)).wf F.DUP_STAT_STATE _ _ _ _ (by decide)
  have huhalf : u.rf F.DUP_STAT_COMMIT_HALF 0 = 1 - s.rf F.DUP_STAT_COMMIT_HALF 0 := by
    rw [hu, State.rf_wf_apart _ _ _ _ _ _ _ _ _ _ rfl rfl, State.rf_ww_name _ _ _ _ _ _ _ _ _ _ (by decide),
      State.rf_ww_name _ _ _ _ _ _ _ _ _ _ (by decide)]
    exact State.rf_wf_fits _ F.DUP_STAT_COMMIT_HALF _ _ _ _ rfl (lt_of_le_of_lt (Nat.sub_le _ _) (by decide))
  have hunum : u.rw .DUP_EPOCH_NUM 0 = e := by
    rw [hu, State.rw_wf_name _ _ _ _ _ _ _ _ _ _ (by decide), State.rw_ww_name _ _ _ _ _ _ _ _ _ _ (by decide), State.rw_ww_same,
      Nat.mod_eq_of_lt (he.trans (by decide))]
  have hutime : u.rw .DUP_CUT_TIME 0 = c := by
    rw [hu, State.rw_wf_name _ _ _ _ _ _ _ _ _ _ (by decide), State.rw_ww_same, Nat.mod_eq_of_lt hc]
  have hustate : u.rf F.DUP_STAT_STATE 0 = 3 := hu ▸ State.rf_wf_fits _ F.DUP_STAT_STATE _ _ _ _ rfl (by decide)
  have hucnt : u.rf F.DUP_EPOCH_CNT_COUNT 0 = s.rf F.DUP_EPOCH_CNT_COUNT 0 := by
    rw [hu, State.rf_wf_apart _ _ _ _ _ _ _ _ _ _ rfl rfl, State.rf_ww_name _ _ _ _ _ _ _ _ _ _ (by decide),
      State.rf_ww_name _ _ _ _ _ _ _ _ _ _ (by decide), State.rf_wf_apart _ _ _ _ _ _ _ _ _ _ rfl rfl]
  obtain ⟨v, hv⟩ : ∃ v, v = u.incE F.DUP_EPOCH_CNT_COUNT 0 := ⟨_, rfl⟩
  have huv : OnlyRegs u v [⟨.DUP_EPOCH_CNT, 0, 0, 0⟩] := hv ▸ (OnlyRegs.refl u _).incE F.DUP_EPOCH_CNT_COUNT _ _ _ _ (.head _)
  have hvcnt : v.rf F.DUP_EPOCH_CNT_COUNT 0 = s.rf F.DUP_EPOCH_CNT_COUNT 0 + 1 := by
    rw [hv, State.rf_incE_one rfl rfl (hucnt ▸ hcnt), hucnt]
  obtain ⟨w, hw⟩ : ∃ w, w = v.setDup { v.dup with committed := true, fails := 0 } := ⟨_, rfl⟩
  have hstep : t = (w.wf F.DUP_STAT_COPYING 0 0).setDup { w.dup with
      rxCrc := 0xFFFFFFFF, rxWords := 0, rxLast := [], mark := none, backs := [], backBad := false } := by
    rw [← ht, hw, hv, hu]
    rfl
  have hwrf : ∀ f : Fld, w.rf f 0 = v.rf f 0 := fun f => hw ▸ State.setDup_rf ..
  have hdup : w.dup = { v.dup with committed := true, fails := 0 } := hw ▸ State.dup_setDup _ _
  have htdup : t.dup = { w.dup with rxCrc := 0xFFFFFFFF, rxWords := 0, rxLast := [], mark := none, backs := [], backBad := false } :=
    hstep ▸ State.dup_setDup _ _
  have hvlinks : v.links = s.links := by rw [huv.1, hsu.1]
  have hlinks : t.links = w.links := hstep ▸ (State.setDup_links ..).trans (State.wf_links ..)
  have hrest : OnlyDuplex w t [⟨.DUP_STAT, 0, 0, 0⟩] := hstep ▸ ((OnlyDuplex.refl w _).wf F.DUP_STAT_COPYING _ _ _ _ (.head _)).setDup _
  have hsv : OnlyDuplex s v [⟨.DUP_STAT, 0, 0, 0⟩, ⟨.DUP_EPOCH_NUM, 0, 0, 0⟩, ⟨.DUP_CUT_TIME, 0, 0, 0⟩, ⟨.DUP_EPOCH_CNT, 0, 0, 0⟩] :=
    .of_regs (hsu.trans (huv.mono (by decide)))
  have hsw : OnlyDuplex s w [⟨.DUP_STAT, 0, 0, 0⟩, ⟨.DUP_EPOCH_NUM, 0, 0, 0⟩, ⟨.DUP_CUT_TIME, 0, 0, 0⟩, ⟨.DUP_EPOCH_CNT, 0, 0, 0⟩] := hw ▸ hsv.setDup _
  have hapart : ∀ f : Fld, f.reg = .DUP_STAT → F.DUP_STAT_COPYING.apart f = true → t.rf f 0 = u.rf f 0 := fun f hf hap => by
    rw [hstep]
    refine ((State.setDup_rf ..).trans (State.rf_wf_apart _ _ _ _ _ _ _ _ _ _ rfl hap)).trans ((hwrf f).trans ?_)
    exact congrArg f.get (huv.2 _ (by simp [hf]))
  have hnum : ∀ n : RegName, n ≠ .DUP_STAT → n ≠ .DUP_EPOCH_CNT → t.rw n 0 = u.rw n 0 := fun n h h' => by
    have hwn : w.rw n 0 = v.rw n 0 := hw ▸ State.setDup_rw ..
    rw [hrest.rw n 0 0 0 (by simp [h]), hwn]
    exact congrArg BitVec.toNat (huv.2 _ (by simp [h']))
  refine ⟨(hapart F.DUP_STAT_COMMIT_HALF rfl rfl).trans huhalf, (hnum _ (by decide) (by decide)).trans hunum,
    (hnum _ (by decide) (by decide)).trans hutime, (hapart F.DUP_STAT_STATE rfl rfl).trans hustate, ?_, ?_, ?_, ?_, ?_,
    hsw.trans (hrest.mono (by decide))⟩
  · rw [hrest.rf F.DUP_EPOCH_CNT_COUNT 0 0 0 (by decide), hwrf, hvcnt]
  · rw [htdup, hdup]
  · rw [htdup, hdup]
  · rw [htdup]
  · rw [hlinks, ← hvlinks, hw]
    exact State.setDup_links ..

end

/-! ### A marker that does not match -/

section
variable {s : State}

/-- A failed commit, as far as its counter (R982). -/
def State.halfFailed (s : State) : State := ((s.setDup { s.dup with fails := s.dup.fails + 1 }).dropHalf).incE F.DUP_CRC_FAIL_CNT_COUNT 0

/-- The event of a failed commit; the third in a row is severe (R982). -/
def failedEv (fails : Nat) : FaultEv := { faultEv .rackingCommitFailed 0 0 0 with promote := decide (3 ≤ fails) }

theorem exec_commitComplete_fail {e c x n : Nat} (hmark : s.dup.mark = some (e, c, x, n))
    (hbad : n ≠ s.dup.rxWords % 2 ^ 24 ∨ s.dup.backBad = true) :
    exec .rackingCommitComplete s = .next (((s.halfFailed.raiseEv (failedEv s.halfFailed.dup.fails)).dupNotice 2 e).rackAck e false) := by
  have hno : ∀ b : Bool, (decide (n = s.dup.rxWords % 2 ^ 24) && b && !s.dup.backBad) = false := by
    intro b
    rcases hbad with hn | hback
    · rw [decide_eq_false hn]
      rfl
    · rw [hback, Bool.not_true, Bool.and_false]
  change execRackingCommitComplete s = _
  unfold execRackingCommitComplete
  dsimp only
  rw [hmark]
  dsimp only
  rw [hno, Bool.false_and, if_neg Bool.false_ne_true, if_neg Bool.false_ne_true]
  rfl

theorem State.halfFailed_spec (s : State) (hcnt : s.rf F.DUP_CRC_FAIL_CNT_COUNT 0 < 2 ^ 32 - 1) (t : State) (ht : s.halfFailed = t) :
    t.dup.fails = s.dup.fails + 1 ∧ t.dup.mark = none ∧ t.rf F.DUP_CRC_FAIL_CNT_COUNT 0 = s.rf F.DUP_CRC_FAIL_CNT_COUNT 0 + 1 ∧
      t.rf F.DUP_STAT_COMMIT_HALF 0 = s.rf F.DUP_STAT_COMMIT_HALF 0 ∧ t = { s with regs := t.regs, dup := t.dup } ∧
      RegsKept s t [⟨.DUP_STAT, 0, 0, 0⟩, ⟨.DUP_CRC_FAIL_CNT, 0, 0, 0⟩] := by
  obtain ⟨d, hd⟩ : ∃ d : Dup, d = { s.dup with
    fails := s.dup.fails + 1, rxCrc := 0xFFFFFFFF, rxWords := 0, rxLast := [], mark := none, backs := [], backBad := false } := ⟨_, rfl⟩
  obtain ⟨u, hu⟩ : ∃ u, u = s.wf F.DUP_STAT_COPYING 0 0 := ⟨_, rfl⟩
  have hsu : OnlyRegs s u [⟨.DUP_STAT, 0, 0, 0⟩] := hu ▸ (OnlyRegs.refl s _).wf F.DUP_STAT_COPYING _ _ _ _ (.head _)
  have hdrop : (s.setDup { s.dup with fails := s.dup.fails + 1 }).dropHalf = u.setDup d := by rw [hu, hd]; rfl
  have hstep : t = (u.setDup d).incE F.DUP_CRC_FAIL_CNT_COUNT 0 := by
    rw [← ht, ← hdrop]
    rfl
  have hut : OnlyRegs (u.setDup d) t [⟨.DUP_CRC_FAIL_CNT, 0, 0, 0⟩] := hstep ▸ (OnlyRegs.refl _ _).incE F.DUP_CRC_FAIL_CNT_COUNT _ _ _ _ (.head _)
  have hdup : t.dup = d := by rw [hut.1]; rfl
  have hcount : (u.setDup d).rf F.DUP_CRC_FAIL_CNT_COUNT 0 = s.rf F.DUP_CRC_FAIL_CNT_COUNT 0 :=
    (State.setDup_rf ..).trans (congrArg (Fld.get _) (hsu.2 _ (by decide)))
  refine ⟨by rw [hdup, hd], by rw [hdup, hd], ?_, ?_, ?_, fun q hq => ?_⟩
  · rw [hstep, State.rf_incE_one rfl rfl (hcount ▸ hcnt), hcount]
  · have hkeep : t.rf F.DUP_STAT_COMMIT_HALF 0 = (u.setDup d).rf F.DUP_STAT_COMMIT_HALF 0 := congrArg (Fld.get _) (hut.2 _ (by decide))
    rw [hkeep, State.setDup_rf, hu, State.rf_wf_apart _ _ _ _ _ _ _ _ _ _ rfl rfl]
  · rw [hut.1, hsu.1]
    rfl
  · have hout : q ∉ [(⟨.DUP_CRC_FAIL_CNT, 0, 0, 0⟩ : Reg)] := fun h => hq (.tail _ h)
    rw [hut.2 q hout, State.setDup_reg, hsu.2 q fun h => hq (List.mem_cons.mpr (.inl (List.mem_singleton.mp h)))]

/-- What a failed commit leaves once it is noticed and refused (R982, R983). -/
theorem State.failNoticed_spec {u : State} (hup : u.linkUp 2 = true) (ev : FaultEv) (e : Nat) (t : State)
    (ht : ((u.raiseEv ev).dupNotice 2 e).rackAck e false = t) :
    (t.sl 2).system = (u.sl 2).system ++ [9 * 2 ^ 196 + e * 2 ^ 164] ∧
      Injected u t ⟨.write, 0, 9, 0, u.rw .DUP_NOTICE_ADDR 0, 1, 48, 0, [dataWord (2 ^ 47 + e % 65536 * 2 ^ 30)], .posted, 0⟩ ∧
      t.faultLine = u.faultLine ++ [ev] ∧ t.regs = u.regs ∧ t.dup = u.dup ∧
      t = { u with links := t.links, faultLine := t.faultLine, inFlight := t.inFlight, net := t.net } := by
  obtain ⟨m, hm⟩ : ∃ m, m = 9 * 2 ^ 196 + e * 2 ^ 164 + b2n false * 2 ^ 163 := ⟨_, rfl⟩
  have hbody : m = 9 * 2 ^ 196 + e * 2 ^ 164 := by rw [hm, b2n, if_neg Bool.false_ne_true, Nat.zero_mul, Nat.add_zero]
  have hword : 2 * 2 ^ 46 + e % 65536 * 2 ^ 30 = 2 ^ 47 + e % 65536 * 2 ^ 30 := rfl
  obtain ⟨v, hv⟩ : ∃ v, v = (u.raiseEv ev).dupNotice 2 e := ⟨_, rfl⟩
  have hpost : v = (u.raiseEv ev).inject ⟨.write, 0, 9, 0, u.rw .DUP_NOTICE_ADDR 0, 1, 48, 0, [dataWord (2 ^ 47 + e % 65536 * 2 ^ 30)], .posted, 0⟩ := by
    rw [hv, ← hword]
    rfl
  have hvup : v.linkUp 2 = true := by rw [hpost]; exact hup
  have hvsl : v.sl 2 = u.sl 2 := by rw [hpost]; rfl
  have hstep : t = v.setSl 2 { u.sl 2 with system := (u.sl 2).system ++ [9 * 2 ^ 196 + e * 2 ^ 164] } := by
    rw [← ht, ← hv, ← hbody, hm, ← hvsl]
    exact State.sysPush_up hvup _
  clear hm hbody
  subst hstep hpost
  exact ⟨by rw [State.sl_setSl_same], ⟨rfl, rfl⟩, rfl, rfl, rfl, rfl⟩

end

/-! ## Yielding -/

/-- Between these fields of DUP_STAT others stay. -/
def StatKept (s t : State) : Prop :=
  ∀ f : Fld, f.reg = .DUP_STAT → F.DUP_STAT_COPYING.apart f = true → F.DUP_STAT_STATE.apart f = true → t.rf f 0 = s.rf f 0

theorem StatKept.trans {s t u : State} (h : StatKept s t) (h' : StatKept t u) : StatKept s u := fun f hf hc hs => (h' f hf hc hs).trans (h f hf hc hs)

/-- What a discarded receiving half leaves (R968). -/
theorem State.dropHalf_spec (s t : State) (ht : s.dropHalf = t) :
    t.dup = { s.dup with rxCrc := 0xFFFFFFFF, rxWords := 0, rxLast := [], mark := none, backs := [], backBad := false } ∧
      StatKept s t ∧ NamesKept s t [.DUP_STAT] ∧ t = { s with regs := t.regs, dup := t.dup } := by
  obtain ⟨u, hu⟩ : ∃ u, u = s.wf F.DUP_STAT_COPYING 0 0 := ⟨_, rfl⟩
  have hsu : OnlyNames s u [.DUP_STAT] := hu ▸ (OnlyNames.refl s _).wf F.DUP_STAT_COPYING _ _ _ _ (.head _)
  unfold State.dropHalf at ht
  rw [← hu] at ht
  subst ht
  refine ⟨State.dup_setDup _ _, fun f _ hc _ => ?_, fun q hq => (State.setDup_reg ..).trans (hsu.2 q hq), ?_⟩
  · rw [State.setDup_rf, hu, State.rf_wf_apart _ _ _ _ _ _ _ _ _ _ rfl hc]
  · rw [hsu.1]
    rfl

theorem OnlyNoted.reg {s t : State} (h : OnlyNoted s t) (q : Reg) : t.reg q = s.reg q := by
  obtain ⟨d, l, rfl⟩ := h
  rfl

theorem OnlyNoted.others {s t : State} (h : OnlyNoted s t) : t.links = s.links ∧ t.faultLine = s.faultLine ∧ t.dup = s.dup ∧ t.evts = s.evts := by
  obtain ⟨d, l, rfl⟩ := h
  exact ⟨rfl, rfl, rfl, rfl⟩

/-- What a member leaves that loses ACTIVE (R957). -/
theorem State.loseActive_spec (s t : State) (ht : s.loseActive = t) :
    t.rf F.DEV_ROLE_CTL_ACTIVE 0 = 0 ∧ t.dup.hoOut = false ∧ StatKept s t ∧ NamesKept s t [.DEV_ROLE_CTL, .DUP_STAT] ∧ t.links = s.links ∧
      t.faultLine = s.faultLine := by
  obtain ⟨u, hu⟩ : ∃ u, s.setOutEn false = u := ⟨_, rfl⟩
  have hout := s.setOutEn_spec false
  rw [hu] at hout
  have hsu : ∀ q : Reg, q.name ≠ .DEV_ROLE_CTL → u.reg q = s.reg q := fun q hq =>
    (hout.reg q).trans (State.reg_wf_ne _ _ _ _ _ _ _ (fun h => hq (by rw [h]; rfl)))
  have hul : u.links = s.links := hout.others.1.trans (State.wf_links ..)
  have huf : u.faultLine = s.faultLine := hout.others.2.1.trans (State.wf_faultLine ..)
  have huw : OnlyNames u (u.wf F.DEV_ROLE_CTL_ACTIVE 0 0) [.DEV_ROLE_CTL] := (OnlyNames.refl u _).wf F.DEV_ROLE_CTL_ACTIVE _ _ _ _ (.head _)
  unfold State.loseActive at ht
  rw [hu] at ht
  dsimp only at ht
  subst ht
  refine ⟨?_, congrArg Dup.hoOut (State.dup_setDup _ _), fun f hf hc _ => ?_, fun q hq => ?_, ?_, ?_⟩
  · rw [State.setDup_rf, State.rf_wf_apart _ _ _ _ _ _ _ _ _ _ rfl rfl]
    exact State.rf_wf_fits _ F.DEV_ROLE_CTL_ACTIVE _ _ _ _ rfl (by decide)
  · have hkeep : u.rf f 0 = s.rf f 0 := congrArg f.get (hsu _ (by simp [hf]))
    rw [State.setDup_rf, State.rf_wf_apart _ _ _ _ _ _ _ _ _ _ rfl hc, huw.rf f 0 0 0 (by rw [hf]; decide), hkeep]
  · rw [State.setDup_reg, State.reg_wf_ne _ _ _ _ _ _ _ (fun h => hq (by rw [h]; exact .tail _ (.head _))),
      huw.2 q (fun h => hq (List.mem_cons.mpr (.inl (List.mem_singleton.mp h)))), hsu q fun h => hq (h ▸ .head _)]
  · rw [State.setDup_links, State.wf_links, State.wf_links, hul]
  · rw [State.setDup_faultLine, State.wf_faultLine, State.wf_faultLine, huf]

/-- What a member that yields leaves (R976). -/
theorem State.yieldNow_spec (s t : State) (ht : s.yieldNow = t) :
    t.rf F.DEV_ROLE_CTL_ACTIVE 0 = 0 ∧ t.rf F.DUP_STAT_STATE 0 = 4 ∧ t.dup.hoOut = false ∧ t.dup.committed = false ∧ t.links = s.links ∧
      t.faultLine = s.faultLine ∧ NamesKept s t [.DEV_ROLE_CTL, .DUP_STAT, .DUP_EPOCH_NUM] ∧ StatKept s t := by
  obtain ⟨u, hu⟩ : ∃ u, s.loseActive = u := ⟨_, rfl⟩
  obtain ⟨hact, hho, hustat, hukept, hulinks, huline⟩ := s.loseActive_spec u hu
  obtain ⟨v, hv⟩ : ∃ v, u.dropHalf = v := ⟨_, rfl⟩
  obtain ⟨hvdup, hvstat, hvkept, hvframe⟩ := u.dropHalf_spec v hv
  have hvl : v.links = u.links ∧ v.faultLine = u.faultLine := by rw [hvframe]; exact ⟨rfl, rfl⟩
  have hstat : StatKept s v := hustat.trans hvstat
  have hkept : NamesKept s v [.DEV_ROLE_CTL, .DUP_STAT, .DUP_EPOCH_NUM] :=
    (hukept.mono (by decide)).trans (hvkept.mono (by decide))
  have hvact : v.rf F.DEV_ROLE_CTL_ACTIVE 0 = 0 := (hvkept.rf _ _ _ _ (by decide)).trans hact
  have hdup : v.dup.hoOut = false := by rw [hvdup]; exact hho
  unfold State.yieldNow at ht
  rw [hu, hv] at ht
  clear hvframe hvdup
  obtain ⟨w, hw⟩ : ∃ w, w = (v.wf F.DUP_STAT_STATE 4 0).ww .DUP_EPOCH_NUM 0 0 := ⟨_, rfl⟩
  have hvw : OnlyNames v w [.DUP_STAT, .DUP_EPOCH_NUM] :=
    hw ▸ ((OnlyNames.refl v _).wf F.DUP_STAT_STATE _ _ _ _ (by decide)).ww .DUP_EPOCH_NUM _ _ _ _ (by decide)
  have hwdup : w.dup.hoOut = false := by rw [hvw.1]; exact hdup
  dsimp only at ht
  rw [← hw] at ht
  subst ht
  refine ⟨?_, ?_, ?_, congrArg Dup.committed (State.dup_setDup _ _), ?_, ?_, fun q hq => ?_, fun f hf hc hs => ?_⟩
  · rw [State.setDup_rf, hvw.rf _ _ _ _ (by decide), hvact]
  · rw [State.setDup_rf, hw, State.rf_ww_name _ _ _ _ _ _ _ _ _ _ (by decide)]
    exact State.rf_wf_fits _ F.DUP_STAT_STATE _ _ _ _ rfl (by decide)
  · rw [State.dup_setDup]
    exact hwdup
  · rw [State.setDup_links, hw, State.ww_links, State.wf_links, hvl.1, hulinks]
  · rw [State.setDup_faultLine, hw, State.ww_faultLine, State.wf_faultLine, hvl.2, huline]
  · rw [State.setDup_reg, hvw.2 q (fun h => hq (.tail _ h)), hkept q hq]
  · rw [State.setDup_rf, hw, State.rf_ww_name _ _ _ _ _ _ _ _ _ _ (by rw [hf]; decide), State.rf_wf_apart _ _ _ _ _ _ _ _ _ _ rfl hs,
      hstat f hf hc hs]

/-- The heartbeat of an active member (R966). -/
theorem State.heartbeat_active {s : State} (hact : s.rf F.DEV_ROLE_CTL_ACTIVE 0 = 1) (y : Bool) :
    s.heartbeat y = 6 * 2 ^ 196 + s.dup.epoch * 2 ^ 164 + 2 ^ 115 + b2n y * 2 ^ 114 := by
  unfold State.heartbeat
  rw [hact, Nat.one_mul]

theorem State.sysFront_up {s : State} {l : Nat} (hup : s.linkUp l = true) (body : Nat) :
    s.sysFront l body = s.setSl l { s.sl l with system := body :: (s.sl l).system } := if_pos hup

/-- What a member leaves whose pending YIELD takes effect (R977). -/
theorem State.doYield_spec {s : State} (hyield : s.rf F.DUP_CTL_YIELD 0 = 1) (hact : s.rf F.DEV_ROLE_CTL_ACTIVE 0 = 1)
    (hup : s.linkUp 2 = true) (hcnt : s.rf F.DUP_YIELD_CNT_COUNT 0 < 2 ^ 32 - 1) (t : State) (ht : s.doYield = t) :
    t.rf F.DEV_ROLE_CTL_ACTIVE 0 = 0 ∧ t.rf F.DUP_CTL_YIELD 0 = 0 ∧ t.rf F.DUP_STAT_STATE 0 = 4 ∧
      t.rf F.DUP_YIELD_CNT_COUNT 0 = s.rf F.DUP_YIELD_CNT_COUNT 0 + 1 ∧ t.dup.hoOut = false ∧ t.dup.committed = false ∧
      (t.sl 2).system = (6 * 2 ^ 196 + s.dup.epoch * 2 ^ 164 + 2 ^ 115 + 2 ^ 114) :: (s.sl 2).system := by
  obtain ⟨m, hm, hbody⟩ : ∃ m, s.heartbeat true = m ∧ 6 * 2 ^ 196 + s.dup.epoch * 2 ^ 164 + 2 ^ 115 + 2 ^ 114 = m :=
    ⟨_, rfl, (State.heartbeat_active hact true).symm⟩
  obtain ⟨u, hu⟩ : ∃ u, u = s.setSl 2 { s.sl 2 with system := m :: (s.sl 2).system } := ⟨_, rfl⟩
  obtain ⟨v, hv⟩ : ∃ v, v = (u.wf F.DUP_CTL_YIELD 0 0).incE F.DUP_YIELD_CNT_COUNT 0 := ⟨_, rfl⟩
  have hgo : (s.rb F.DUP_CTL_YIELD 0 && s.rb F.DEV_ROLE_CTL_ACTIVE 0) = true := by
    rw [State.rb_of_rf_one hyield, State.rb_of_rf_one hact]
    rfl
  have hstep : v.yieldNow = t := by
    rw [← ht]
    unfold State.doYield
    rw [if_pos hgo, hm, State.sysFront_up hup, ← hu, ← hv]
  obtain ⟨hact', hstate, hho, hcom, hlinks, -, hkept, -⟩ := State.yieldNow_spec v t hstep
  have huv : OnlyRegs u v [⟨.DUP_CTL, 0, 0, 0⟩, ⟨.DUP_YIELD_CNT, 0, 0, 0⟩] :=
    hv ▸ ((OnlyRegs.refl u _).wf F.DUP_CTL_YIELD _ _ _ _ (.head _)).incE F.DUP_YIELD_CNT_COUNT _ _ _ _ (.tail _ (.head _))
  have hold : (u.wf F.DUP_CTL_YIELD 0 0).rf F.DUP_YIELD_CNT_COUNT 0 = s.rf F.DUP_YIELD_CNT_COUNT 0 := by
    rw [State.rf_wf_apart _ _ _ _ _ _ _ _ _ _ rfl rfl, hu, State.setSl_rf]
  refine ⟨hact', ?_, hstate, ?_, hho, hcom, ?_⟩
  · rw [hkept.rf _ _ _ _ (by decide), hv, State.rf_incE_name _ _ _ _ _ _ _ _ _ _ (by decide)]
    exact State.rf_wf_fits _ F.DUP_CTL_YIELD _ _ _ _ rfl (by decide)
  · rw [hkept.rf _ _ _ _ (by decide), hv, State.rf_incE_one rfl rfl (hold ▸ hcnt), hold]
  · have htv : t.sl 2 = v.sl 2 := by unfold State.sl; rw [hlinks]
    have hvu : v.sl 2 = u.sl 2 := by rw [huv.1]; rfl
    rw [htv, hvu, hu, State.sl_setSl_same, hbody]

theorem bit_of_mod {b k : Nat} (h : b / 2 ^ k % 2 = 1) : bit b k = true := beq_iff_eq.mpr h

/-- What a good acknowledgement leaves before a pending YIELD (R964). -/
def State.ackTaken (s : State) : State := ((s.tookCell 2).incE F.DUP_EPOCH_CNT_COUNT 0).setDup { s.dup with committed := true }

theorem State.ackTaken_spec (s t : State) (ht : s.ackTaken = t) :
    (s.rf F.DUP_EPOCH_CNT_COUNT 0 < 2 ^ 32 - 1 → t.rf F.DUP_EPOCH_CNT_COUNT 0 = s.rf F.DUP_EPOCH_CNT_COUNT 0 + 1) ∧
      t.dup = { s.dup with committed := true } ∧
      t.sl 2 = { s.sl 2 with rxNext := ((s.sl 2).rxNext + 1) % 4096, unacked := (s.sl 2).unacked + 1, naks := 0, limited := false } ∧
      OnlyDuplex s t [⟨.DUP_EPOCH_CNT, 0, 0, 0⟩] := by
  obtain ⟨u, hu⟩ : ∃ u, s.tookCell 2 = u := ⟨_, rfl⟩
  have hold : u.rf F.DUP_EPOCH_CNT_COUNT 0 = s.rf F.DUP_EPOCH_CNT_COUNT 0 := hu ▸ State.tookCell_rf ..
  have hsu : OnlyDuplex s u [⟨.DUP_EPOCH_CNT, 0, 0, 0⟩] := hu ▸ OnlyDuplex.tookCell s 2 _
  have hsl := hu ▸ State.tookCell_sl_same s 2
  unfold State.ackTaken at ht
  rw [hu] at ht
  subst ht
  refine ⟨fun hcnt => ?_, State.dup_setDup _ _, ?_, (hsu.incE F.DUP_EPOCH_CNT_COUNT 0 0 0 1 (.head _)).setDup _⟩
  · rw [State.setDup_rf, State.rf_incE_one rfl rfl (hold ▸ hcnt), hold]
  · rw [State.setDup_sl, State.incE_sl, hsl]

section
variable {s : State} {cell : Nat}

/-- A good acknowledgement commits the epoch at the active member (R964). -/
theorem exec_rackAck_active (hdue : s.cellDue 2 cell = true) (hkind : cellKind cell = .system) (hcode : cellBody cell / 2 ^ 196 % 16 = 9)
    (hgood : bit (cellBody cell) 163 = true) (hact : s.rf F.DEV_ROLE_CTL_ACTIVE 0 = 1) :
    exec (.rackAck 2 cell) s = .next
      ((((s.tookCell 2).incE F.DUP_EPOCH_CNT_COUNT 0).setDup { s.dup with committed := true }).doYield) := by
  obtain ⟨u, hu⟩ : ∃ u, s.tookCell 2 = u := ⟨_, rfl⟩
  have hactive : u.rb F.DEV_ROLE_CTL_ACTIVE 0 = true := by
    rw [← hu]
    exact State.rb_of_rf_one (s := s) hact
  have hdup : s.dup = u.dup := by rw [← hu]; rfl
  change execRackAck 2 cell s = _
  unfold execRackAck
  rw [systemRow_due hdue hkind hcode (fun _ => by decide) (fun h => absurd rfl h), hu, hdup]
  dsimp only
  rw [hactive, hgood, if_neg (by decide)]

/-- Without a pending YIELD a member does not yield. -/
theorem State.doYield_none (hyield : s.rf F.DUP_CTL_YIELD 0 = 0) : s.doYield = s := by
  unfold State.doYield
  rw [State.rb_of_rf_zero hyield, Bool.false_and]
  rfl

end

/-! ## The statement -/

/-- Settles O52, from what a cut, a copy, received words, a marker and an acknowledgement leave. -/
theorem epochsAreCutCopiedAndCommitted : Obligations.EpochsAreCutCopiedAndCommitted := by
  unfold Obligations.EpochsAreCutCopiedAndCommitted
  refine ⟨?cut, ?overrun, ?early, ?copy, ?idle, ?data, ?marker, ?commit, ?fail, ?ack, ?yields⟩
  case cut =>
    intro s p hstate hact hup hphase hp hlater hlt hnotice
    obtain ⟨t, ht⟩ : ∃ t, (s.cutTaken p 1).eventAll 8 = t := ⟨_, rfl⟩
    obtain ⟨hcounts, e, hframe⟩ := State.eventAll_spec _ 8 t ht
    have hexec := exec_rackingCut_taken (s := s) (by rw [hstate]) hact (beq_iff_eq.mpr hup) hphase hp.symm hlater hlt hnotice
    clear hp hlater hlt
    refine ⟨t, hexec.trans (congrArg Host.Outcome.next ht), ?_, hcounts, ?_, ?_⟩
    · rw [hframe]
      rfl
    · rw [hframe]
      rfl
    · rw [hframe]
      rfl
  case overrun =>
    intro s p hstate hact hup hphase hp hlater hlt hcnt
    have hexec := exec_rackingCut_overrun (s := s) hstate hact (beq_iff_eq.mpr hup) hphase hp.symm hlater hlt
    obtain ⟨u, hu⟩ : ∃ u, u = s.setDup { s.dup with lastCut := p } := ⟨_, rfl⟩
    obtain ⟨v, hv⟩ : ∃ v, v = u.incE F.DUP_OVERRUN_CNT_COUNT 0 := ⟨_, rfl⟩
    rw [← hu, ← hv] at hexec
    clear hp hlater hlt
    have hold : u.rf F.DUP_OVERRUN_CNT_COUNT 0 = s.rf F.DUP_OVERRUN_CNT_COUNT 0 := hu ▸ State.setDup_rf ..
    have huv : OnlyRegs u v [⟨.DUP_OVERRUN_CNT, 0, 0, 0⟩] := hv ▸ (OnlyRegs.refl u _).incE F.DUP_OVERRUN_CNT_COUNT _ _ _ _ (.head _)
    have hcount : v.rf F.DUP_OVERRUN_CNT_COUNT 0 = s.rf F.DUP_OVERRUN_CNT_COUNT 0 + 1 := by
      rw [hv, State.rf_incE_one rfl rfl (hold ▸ hcnt), hold]
    have hframe : v = { s with regs := v.regs, dup := { s.dup with lastCut := p } } := by
      rw [huv.1, hu]
      rfl
    have hline : v.faultLine = s.faultLine := by rw [hframe]
    refine ⟨_, hexec, (State.raise_rf ..).trans hcount, congrArg (· ++ [faultEv .rackingEpochOverrun 0 0 0]) hline, congrArg State.dup hframe, ?_,
      fun q hq => (huv.2 q hq).trans (hu ▸ State.setDup_reg ..)⟩
    obtain ⟨l, hlast⟩ : ∃ l, v.raise .rackingEpochOverrun 0 0 = { v with faultLine := l } := ⟨_, rfl⟩
    rw [hlast, hframe]
  case early => exact fun s hlast _ => ⟨s, exec_rackingCut_same hlast, rfl⟩
  case copy =>
    intro s hphase hcut hnow hdue hregions hup
    have hlt : s.dup.tCut < 2 ^ 48 := lt_of_le_of_lt hcut hnow
    have hover : s.dup.snap * 1000 ≤ (s.now + 2 ^ 48 - s.dup.tCut % 2 ^ 48) % 2 ^ 48 := by
      rwa [Nat.mod_eq_of_lt hlt, elapsed_mod hcut (lt_of_le_of_lt (Nat.sub_le _ _) hnow)]
    obtain ⟨t, ht⟩ : ∃ t, s.copyStarted.rackStep 34 = t := ⟨_, rfl⟩
    obtain ⟨hsys, hover', hcopying, hothers, hframe, hkept⟩ := State.copyStarted_empty hregions (beq_iff_eq.mpr hup) t ht
    exact ⟨t, _, (exec_rackingCopyStart_start hphase hover).trans (congrArg Host.Outcome.next ht), (State.copyStarted_marker hlt), hsys, hover', hcopying, hothers,
      hframe, hkept⟩
  case idle => exact fun s hphase => ⟨s, exec_rackingCopyStart_idle hphase, rfl⟩
  case data =>
    intro s cell b r a ws hdue hkind hb hcode hr hws hne hstate hregions ha
    subst hb
    have hexec := exec_rackData_standby hdue hkind hcode (hws ▸ hne) hstate hregions r a ws hr.symm hws.symm ha.symm
    obtain ⟨u, hu⟩ : ∃ u, (s.tookCell 2).halfTook r a ws = u := ⟨_, rfl⟩
    obtain ⟨hwords, hcopying, hhalf, hlinks, hsu⟩ := State.halfTook_spec _ r a ws u hu
    rw [hu] at hexec
    clear hcode hr ha hws hne
    have hsu' : OnlyDuplex s u [⟨.DUP_STAT, 0, 0, 0⟩] := (OnlyDuplex.tookCell s 2 _).trans hsu
    have hin : u.inFlight = s.inFlight ∧ u.net = s.net := by rw [hsu'.1]; exact ⟨rfl, rfl⟩
    have hsl : u.sl 2 = (s.tookCell 2).sl 2 := by unfold State.sl; rw [hlinks]
    refine ⟨_, hexec, ⟨congrArg (· ++ [_]) hin.1, congrArg (Net.enter · (.req _)) hin.2⟩, hwords, hcopying, hhalf, ?_, ?_, hsu'.2⟩
    · rw [State.post_sl, hsl, State.tookCell_sl_same]
    · obtain ⟨l, n, hlast⟩ : ∃ l n, u.post 0 9 a ws = { u with inFlight := l, net := n } := ⟨_, _, rfl⟩
      rw [hlast, hsu'.1]
  case marker =>
    intro s cell b hdue hkind hb hcode hstate hlast
    subst hb
    refine ⟨_, exec_rackCommit_standby hdue hkind hcode hstate hlast, rfl, ?_, rfl⟩
    rw [State.setDup_sl, State.tookCell_sl_same]
  case commit =>
    intro s e c n hmark hwords hn hpos hbacks hgood he hc hup hcnt
    obtain ⟨t, ht⟩ : ∃ t, s.halfCommitted e c = t := ⟨_, rfl⟩
    obtain ⟨hhalf, hnum, htime, hstate, hcount, hcom, hfails, hnone, hlinks, hst⟩ := State.halfCommitted_spec s he hc hcnt t ht
    have hexec := exec_commitComplete_match hmark hwords hn hpos hbacks hgood
    rw [ht] at hexec
    have htup : t.linkUp 2 = true := (hst.linkUp 2 (by decide)).trans (beq_iff_eq.mpr hup)
    have hsl : t.sl 2 = s.sl 2 := by unfold State.sl; rw [hlinks]
    have hbody : t.rackAck e true = t.setSl 2 { t.sl 2 with system := (t.sl 2).system ++ [9 * 2 ^ 196 + e * 2 ^ 164 + 2 ^ 163] } := by
      unfold State.rackAck
      rw [State.sysPush_up htup, b2n, if_pos rfl, Nat.one_mul]
    rw [hbody] at hexec
    clear hbody
    refine ⟨_, hexec, hhalf, hnum, htime, hstate, hcount, hcom, hfails, hnone, ?_, (hst.setSl _ _).1, (hst.setSl _ _).2⟩
    rw [State.sl_setSl_same, hsl]
  case fail =>
    intro s e c x n hmark hbad hup hcnt
    obtain ⟨u, hu⟩ : ∃ u, s.halfFailed = u := ⟨_, rfl⟩
    obtain ⟨hfails, hnone, hcount, hhalf, hframe, hkept⟩ := State.halfFailed_spec s hcnt u hu
    have huup : u.linkUp 2 = true := by
      refine Eq.trans (congrArg (fun w => F.SL_STAT_STATE.get w == 2) (hkept ⟨.SL_STAT, 0, 2, 0⟩ (by decide))) (beq_iff_eq.mpr hup)
    obtain ⟨t, ht⟩ : ∃ t, ((u.raiseEv (failedEv u.dup.fails)).dupNotice 2 e).rackAck e false = t := ⟨_, rfl⟩
    obtain ⟨hsys, hinj, hline, hregs, hdup, htframe⟩ := State.failNoticed_spec huup _ e t ht
    have hexec := exec_commitComplete_fail hmark hbad
    rw [hu, ht] at hexec
    have hsl : u.sl 2 = s.sl 2 := by rw [hframe]; rfl
    have hreg : ∀ q, t.reg q = u.reg q := fun q => by unfold State.reg; rw [hregs]
    have haddr : u.rw .DUP_NOTICE_ADDR 0 = s.rw .DUP_NOTICE_ADDR 0 := congrArg BitVec.toNat (hkept _ (by decide))
    have hbase : u.inFlight = s.inFlight ∧ u.net = s.net ∧ u.faultLine = s.faultLine := by rw [hframe]; exact ⟨rfl, rfl, rfl⟩
    obtain ⟨hfl, hnet, hev⟩ := hbase
    have hthird : decide (3 ≤ u.dup.fails) = decide (2 ≤ s.dup.fails) := by
      rw [hfails]
      exact decide_eq_decide.mpr (by omega)
    refine ⟨t, hexec, by rw [hdup, hfails], by rw [hdup, hnone], (congrArg (Fld.get _) (hreg _)).trans hcount, ?_,
      (congrArg (Fld.get _) (hreg _)).trans hhalf, by rw [hsys, hsl], ?_, ?_, fun q hq => (hreg q).trans (hkept q hq)⟩
    · rw [hline, hev]
      unfold failedEv
      rw [hthird]
    · unfold Injected at hinj ⊢
      rwa [haddr, hfl, hnet] at hinj
    · rw [htframe, hframe]
  case ack =>
    intro s cell b hdue hkind hb hcode hgood hact hyield hcnt
    subst hb
    have hexec := exec_rackAck_active hdue hkind hcode (bit_of_mod hgood) hact
    clear hcode hgood
    obtain ⟨w, hw⟩ : ∃ w, s.ackTaken = w := ⟨_, rfl⟩
    obtain ⟨hcount, hdup, hsl, hsw⟩ := State.ackTaken_spec s w hw
    rw [← State.ackTaken, hw, State.doYield_none ((hsw.rf F.DUP_CTL_YIELD 0 0 0 (by decide)).trans hyield)] at hexec
    exact ⟨w, hexec, hcount hcnt, hdup, congrArg Sl.rxNext hsl, hsw.1, hsw.2⟩
  case yields =>
    intro s cell b hdue hkind hb hcode hgood hact hyield hcnt
    subst hb
    have hexec := exec_rackAck_active hdue hkind hcode (bit_of_mod hgood) hact
    have hup : s.linkUp 2 = true := State.cellDue_up hdue
    clear hcode hgood
    obtain ⟨w, hw⟩ : ∃ w, s.ackTaken = w := ⟨_, rfl⟩
    obtain ⟨-, hdup, hsl, hsw⟩ := State.ackTaken_spec s w hw
    rw [← State.ackTaken, hw] at hexec
    obtain ⟨t, ht⟩ : ∃ t, w.doYield = t := ⟨_, rfl⟩
    have hcount : w.rf F.DUP_YIELD_CNT_COUNT 0 = s.rf F.DUP_YIELD_CNT_COUNT 0 := hsw.rf _ _ _ _ (by decide)
    obtain ⟨hact', hyield', hstate, hcnt', hho, hcom, hsys⟩ := State.doYield_spec ((hsw.rf F.DUP_CTL_YIELD 0 0 0 (by decide)).trans hyield)
      ((hsw.rf F.DEV_ROLE_CTL_ACTIVE 0 0 0 (by decide)).trans hact) ((hsw.linkUp 2 (by decide)).trans hup) (hcount ▸ hcnt) t ht
    have hepoch : w.dup.epoch = s.dup.epoch := by rw [hdup]
    have hsystem : (w.sl 2).system = (s.sl 2).system := by rw [hsl]
    exact ⟨t, hexec.trans (congrArg Host.Outcome.next ht), hact', hyield', hstate, hcnt'.trans (congrArg (· + 1) hcount), hho, hcom,
      by rw [hsys, hepoch, hsystem]⟩

end Sys2Proof.Machine
end

section
/-!
SUPPORT. Heartbeats and takeover of a duplex pair: proof of the statement O53.
-/
namespace Sys2Proof.Machine

/-! ## Becoming active -/

/-- What a member leaves that becomes active with STATE `st` (R954, R955, R968). -/
theorem State.becomeActive_spec (s : State) {st : Nat} (hst : st < 8) (t : State) (ht : s.becomeActive st = t) :
    t.rf F.DEV_ROLE_CTL_ACTIVE 0 = 1 ∧ t.rf F.DUP_STAT_STATE 0 = st ∧ t.dup.hoOut = true ∧ t.dup.committed = s.dup.committed ∧
      StatKept s t ∧ t = { s with regs := t.regs, dup := t.dup } ∧ RegsKept s t [⟨.DUP_STAT, 0, 0, 0⟩, ⟨.DEV_ROLE_CTL, 0, 0, 0⟩] := by
  obtain ⟨u, hu⟩ : ∃ u, u = (s.wf F.DUP_STAT_STATE st 0).wf F.DEV_ROLE_CTL_ACTIVE 1 0 := ⟨_, rfl⟩
  have hsu : OnlyRegs s u [⟨.DUP_STAT, 0, 0, 0⟩, ⟨.DEV_ROLE_CTL, 0, 0, 0⟩] :=
    hu ▸ ((OnlyRegs.refl s _).wf F.DUP_STAT_STATE _ _ _ _ (.head _)).wf F.DEV_ROLE_CTL_ACTIVE _ _ _ _ (.tail _ (.head _))
  have hstate : u.rf F.DUP_STAT_STATE 0 = st := by
    rw [hu, State.rf_wf_apart _ _ _ _ _ _ _ _ _ _ rfl rfl]
    exact State.rf_wf_fits _ F.DUP_STAT_STATE _ _ _ _ rfl hst
  have hact : u.rf F.DEV_ROLE_CTL_ACTIVE 0 = 1 := hu ▸ State.rf_wf_fits _ F.DEV_ROLE_CTL_ACTIVE _ _ _ _ rfl (by decide)
  have hstat : StatKept s u := fun f hf _ hs => by
    rw [hu, ((OnlyNames.refl (s.wf F.DUP_STAT_STATE st 0) [.DEV_ROLE_CTL]).wf F.DEV_ROLE_CTL_ACTIVE 1 0 0 0 (.head _)).rf f 0 0 0
      (by rw [hf]; decide), State.rf_wf_apart _ _ _ _ _ _ _ _ _ _ rfl hs]
  have hdup : u.dup.committed = s.dup.committed := by rw [hsu.1]
  obtain ⟨v, hv⟩ : ∃ v, v = u.wf F.DUP_STAT_COPYING 0 0 := ⟨_, rfl⟩
  have huv : OnlyRegs u v [⟨.DUP_STAT, 0, 0, 0⟩, ⟨.DEV_ROLE_CTL, 0, 0, 0⟩] := hv ▸ (OnlyRegs.refl u _).wf F.DUP_STAT_COPYING _ _ _ _ (.head _)
  obtain ⟨d, hstep, hho, hcom⟩ : ∃ d : Dup, t = v.setDup d ∧ d.hoOut = true ∧ d.committed = u.dup.committed := by
    unfold State.becomeActive at ht
    dsimp only at ht
    rw [← hu, ← hv] at ht
    exact ⟨_, ht.symm, rfl, rfl⟩
  clear ht
  subst hstep
  refine ⟨?_, ?_, hho, hcom.trans hdup, fun f hf hc hs => ?_, ?_, fun q hq => ?_⟩
  · rw [State.setDup_rf, hv, State.rf_wf_apart _ _ _ _ _ _ _ _ _ _ rfl rfl, hact]
  · rw [State.setDup_rf, hv, State.rf_wf_apart _ _ _ _ _ _ _ _ _ _ rfl rfl, hstate]
  · rw [State.setDup_rf, hv, State.rf_wf_apart _ _ _ _ _ _ _ _ _ _ rfl hc, hstat f hf hc hs]
  · rw [huv.1, hsu.1]
    rfl
  · rw [State.setDup_reg, huv.2 q hq, hsu.2 q hq]

/-! ## Takeover -/

/-- OUT_EN as a takeover sets it (R972). -/
def State.takeoverOut (s : State) : State := if s.rb F.DUP_CTL_AUTO_OUT 0 && s.lineOk then s.setOutEn true else s

theorem State.takeoverOut_spec (s t : State) (ht : s.takeoverOut = t) :
    t.rf F.DEV_ROLE_CTL_ACTIVE 0 = s.rf F.DEV_ROLE_CTL_ACTIVE 0 ∧ NamesKept s t [.DEV_ROLE_CTL] ∧ t.faultLine = s.faultLine ∧ t.dup = s.dup ∧
      t.evts = s.evts := by
  unfold State.takeoverOut at ht
  split at ht
  · have hout := s.setOutEn_spec true
    rw [ht] at hout
    obtain ⟨-, hline, hdup, hevts⟩ := hout.others
    refine ⟨?_, fun q hq => ?_, hline.trans (State.wf_faultLine ..), hdup.trans (State.wf_dup ..), hevts.trans (State.wf_evts ..)⟩
    · exact (congrArg (Fld.get _) (hout.reg _)).trans (State.rf_wf_apart s F.DEV_ROLE_CTL_OUT_EN F.DEV_ROLE_CTL_ACTIVE _ _ _ _ _ _ _ rfl rfl)
    · exact (hout.reg q).trans (State.reg_wf_ne _ _ _ _ _ _ _ fun h => hq (by rw [h]; exact .head _))
  · subst ht
    exact ⟨rfl, fun _ _ => rfl, rfl, rfl, rfl⟩

/-- The event, the notice, the time, the count and the fault of a takeover (R968, Table 17-4). -/
def State.takeoverNoted (s : State) : State :=
  let s := (if s.dup.committed then s else s.ww .DUP_EPOCH_NUM 0 0).eventAll 9
  let s := s.dupNotice 1 (s.rw .DUP_EPOCH_NUM 0)
  ((s.ww .DUP_TAKEOVER_TIME s.now 0).incE F.DUP_TAKEOVER_CNT_COUNT 0).raise .dupTakeover 0 0

/-- The end of a takeover: no heartbeat is missing, and a takeover without a committed epoch is raised (R968, R983). -/
def State.takeoverDone (s : State) : State :=
  let s := s.wf F.DUP_STAT_HB_MISSED 0 0
  if s.dup.committed then s else s.raise .dupNoCommit 0 0

theorem State.takeover_standby {s : State} (hstate : s.rf F.DUP_STAT_STATE 0 = 3 ∨ s.rf F.DUP_STAT_STATE 0 = 4) :
    s.takeover = (s.dropHalf.becomeActive 2).takeoverOut.takeoverNoted.takeoverDone := by
  unfold State.takeover
  dsimp only
  rw [standby_not_other hstate, if_neg Bool.false_ne_true]
  rfl

theorem State.takeoverNoted_spec (s t : State) (ht : s.takeoverNoted = t) :
    t.faultLine = s.faultLine ++ [faultEv .dupTakeover 0 0 0] ∧ t.rw .DUP_TAKEOVER_TIME 0 = s.now ∧
      (s.rf F.DUP_TAKEOVER_CNT_COUNT 0 < 2 ^ 32 - 1 → t.rf F.DUP_TAKEOVER_CNT_COUNT 0 = s.rf F.DUP_TAKEOVER_CNT_COUNT 0 + 1) ∧
      (s.dup.committed = false → t.rw .DUP_EPOCH_NUM 0 = 0) ∧ t.dup = s.dup ∧
      (∀ d i, d ∈ s.fabDies → i < 16 → (t.evt d i 9).count = ((s.evt d i 9).count + 1) % 65536) ∧
      NamesKept s t [.DUP_EPOCH_NUM, .DUP_TAKEOVER_TIME, .DUP_TAKEOVER_CNT] := by
  obtain ⟨u, hu⟩ : ∃ u, u = if s.dup.committed then s else s.ww .DUP_EPOCH_NUM 0 0 := ⟨_, rfl⟩
  have hsu : OnlyNames s u [.DUP_EPOCH_NUM] := hu ▸ .ite (.refl s _) ((OnlyNames.refl s _).ww .DUP_EPOCH_NUM _ _ _ _ (.head _))
  have hunum : s.dup.committed = false → u.rw .DUP_EPOCH_NUM 0 = 0 := fun hc => by
    rw [hu, hc, if_neg Bool.false_ne_true, State.rw_ww_same]
    rfl
  obtain ⟨v, hv⟩ : ∃ v, u.eventAll 9 = v := ⟨_, rfl⟩
  obtain ⟨hcounts, e, hve⟩ := u.eventAll_spec 9 v hv
  obtain ⟨w, hw⟩ : ∃ w, w = v.dupNotice 1 (v.rw .DUP_EPOCH_NUM 0) := ⟨_, rfl⟩
  have hvreg : ∀ q, v.reg q = u.reg q := fun q => by rw [hve]; rfl
  have hwreg : ∀ q, w.reg q = v.reg q := fun q => hw ▸ rfl
  have hwrest : w.evts = v.evts ∧ w.faultLine = v.faultLine ∧ w.dup = v.dup := hw ▸ ⟨rfl, rfl, rfl⟩
  obtain ⟨hwevts, hwline, hwdup⟩ := hwrest
  have hvrest : v.faultLine = u.faultLine ∧ v.dup = u.dup := by rw [hve]; exact ⟨rfl, rfl⟩
  obtain ⟨hvline, hvdup⟩ := hvrest
  have hurest : u.faultLine = s.faultLine ∧ u.dup = s.dup ∧ u.evts = s.evts := by rw [hsu.1]; exact ⟨rfl, rfl, rfl⟩
  obtain ⟨huline, hudup, huevts⟩ := hurest
  have hsw : NamesKept s w [.DUP_EPOCH_NUM] := fun q hq => (hwreg q).trans ((hvreg q).trans (hsu.2 q hq))
  have hnow : w.now = s.now := State.now_kept hsw (by decide)
  obtain ⟨x, hx⟩ : ∃ x, x = w.ww .DUP_TAKEOVER_TIME w.now 0 := ⟨_, rfl⟩
  have hold : x.rf F.DUP_TAKEOVER_CNT_COUNT 0 = s.rf F.DUP_TAKEOVER_CNT_COUNT 0 := by
    rw [hx, State.rf_ww_name _ _ _ _ _ _ _ _ _ _ (by decide), hsw.rf _ _ _ _ (by decide)]
  obtain ⟨y, hy⟩ : ∃ y, y = x.incE F.DUP_TAKEOVER_CNT_COUNT 0 := ⟨_, rfl⟩
  have hxy : OnlyNames x y [.DUP_TAKEOVER_CNT] := hy ▸ (OnlyNames.refl x _).incE F.DUP_TAKEOVER_CNT_COUNT _ _ _ _ (.head _)
  have hwx : OnlyNames w x [.DUP_TAKEOVER_TIME] := hx ▸ (OnlyNames.refl w _).ww .DUP_TAKEOVER_TIME _ _ _ _ (.head _)
  have hwy : OnlyNames w y [.DUP_TAKEOVER_TIME, .DUP_TAKEOVER_CNT] := (hwx.mono (by decide)).trans (hxy.mono (by decide))
  have htime : y.rw .DUP_TAKEOVER_TIME 0 = s.now := by
    have hkeep : y.rw .DUP_TAKEOVER_TIME 0 = x.rw .DUP_TAKEOVER_TIME 0 := congrArg BitVec.toNat (hxy.2 _ (by decide))
    have hlt : s.now < 2 ^ 48 := (s.reg (reg0 .TB_TIME)).isLt
    rw [hkeep, hx, State.rw_ww_same, hnow, Nat.mod_eq_of_lt hlt]
  have hstep : t = y.raise .dupTakeover 0 0 := by
    rw [← ht, hy, hx, hw, ← hv, hu]
    rfl
  have hyrest : y.faultLine = w.faultLine ∧ y.dup = w.dup ∧ y.evts = w.evts := by rw [hwy.1]; exact ⟨rfl, rfl, rfl⟩
  obtain ⟨hyline, hydup, hyevts⟩ := hyrest
  clear hwy
  subst hstep
  refine ⟨?_, htime, fun hcnt => ?_, fun hc => ?_, ?_, fun d i hd hi => ?_, fun q hq => ?_⟩
  · exact congrArg (· ++ [faultEv .dupTakeover 0 0 0]) (hyline.trans (hwline.trans (hvline.trans huline)))
  · rw [State.raise_rf, hy, State.rf_incE_one rfl rfl (hold ▸ hcnt), hold]
  · have hkeep : y.rw .DUP_EPOCH_NUM 0 = w.rw .DUP_EPOCH_NUM 0 := congrArg BitVec.toNat ((hxy.2 _ (by decide)).trans (hwx.2 _ (by decide)))
    have hwu : w.rw .DUP_EPOCH_NUM 0 = u.rw .DUP_EPOCH_NUM 0 := congrArg BitVec.toNat ((hwreg _).trans (hvreg _))
    rw [State.raise_rw, hkeep, hwu, hunum hc]
  · exact hydup.trans (hwdup.trans (hvdup.trans hudup))
  · have hdies : d ∈ u.fabDies := by rwa [State.fabDies_kept hsu.2 (by decide)]
    have hevt : ∀ k, (y.raise .dupTakeover 0 0).evt d k 9 = v.evt d k 9 := fun k => by
      rw [State.raise_evt]
      unfold State.evt
      rw [hyevts, hwevts]
    have hbase : u.evt d i 9 = s.evt d i 9 := by unfold State.evt; rw [huevts]
    rw [hevt, hcounts d i hdies hi, hbase]
  · have hqx : q.name ∉ [RegName.DUP_TAKEOVER_CNT] := fun h => hq (.tail _ (.tail _ h))
    have hqw : q.name ∉ [RegName.DUP_TAKEOVER_TIME] := fun h => hq (List.mem_cons.mpr (.inr (List.mem_cons.mpr (.inl (List.mem_singleton.mp h)))))
    have hqs : q.name ∉ [RegName.DUP_EPOCH_NUM] := fun h => hq (List.mem_cons.mpr (.inl (List.mem_singleton.mp h)))
    exact (State.raise_reg ..).trans ((hxy.2 q hqx).trans ((hwx.2 q hqw).trans (hsw q hqs)))

/-- What the end of a takeover leaves. -/
theorem State.takeoverDone_spec (s t : State) (ht : s.takeoverDone = t) :
    t.rf F.DUP_STAT_HB_MISSED 0 = 0 ∧ t.dup = s.dup ∧ t.evts = s.evts ∧ (∀ e ∈ s.faultLine, e ∈ t.faultLine) ∧
      (s.dup.committed = false → faultEv .dupNoCommit 0 0 0 ∈ t.faultLine) ∧ NamesKept s t [.DUP_STAT] ∧
      (∀ f : Fld, F.DUP_STAT_HB_MISSED.apart f = true → t.rf f 0 = s.rf f 0) := by
  obtain ⟨u, hu⟩ : ∃ u, u = s.wf F.DUP_STAT_HB_MISSED 0 0 := ⟨_, rfl⟩
  have hsu : OnlyNames s u [.DUP_STAT] := hu ▸ (OnlyNames.refl s _).wf F.DUP_STAT_HB_MISSED _ _ _ _ (.head _)
  have hrest : u.dup = s.dup ∧ u.evts = s.evts ∧ u.faultLine = s.faultLine := by rw [hsu.1]; exact ⟨rfl, rfl, rfl⟩
  obtain ⟨hdup, hevts, hline⟩ := hrest
  have hmiss : u.rf F.DUP_STAT_HB_MISSED 0 = 0 := hu ▸ State.rf_wf_fits _ F.DUP_STAT_HB_MISSED _ _ _ _ rfl (by decide)
  have hother : ∀ f : Fld, F.DUP_STAT_HB_MISSED.apart f = true → u.rf f 0 = s.rf f 0 := fun f hf =>
    hu ▸ State.rf_wf_apart _ _ _ _ _ _ _ _ _ _ rfl hf
  unfold State.takeoverDone at ht
  rw [← hu] at ht
  dsimp only at ht
  cases hc : u.dup.committed with
  | true =>
    rw [hc, if_pos rfl] at ht
    subst ht
    exact ⟨hmiss, hdup, hevts, fun e he => hline ▸ he, fun h => absurd (hc.symm.trans ((congrArg Dup.committed hdup).trans h)) (by decide), hsu.2, hother⟩
  | false =>
    rw [hc, if_neg Bool.false_ne_true] at ht
    subst ht
    refine ⟨hmiss, hdup, hevts, fun e he => List.mem_append.mpr (.inl (hline ▸ he)), fun _ => List.mem_append.mpr (.inr (.head _)), hsu.2, hother⟩

/-- What the takeover by a standby leaves (R968, R972, Table 17-4). -/
theorem State.takeover_spec {s : State} (hstate : s.rf F.DUP_STAT_STATE 0 = 3 ∨ s.rf F.DUP_STAT_STATE 0 = 4) (t : State)
    (ht : s.takeover = t) :
    t.rf F.DEV_ROLE_CTL_ACTIVE 0 = 1 ∧ t.rf F.DUP_STAT_STATE 0 = 2 ∧ t.rf F.DUP_STAT_HB_MISSED 0 = 0 ∧
      t.rf F.DUP_STAT_HO_IN 0 = s.rf F.DUP_STAT_HO_IN 0 ∧ t.rw .DUP_TAKEOVER_TIME 0 = s.now ∧
      (s.rf F.DUP_TAKEOVER_CNT_COUNT 0 < 2 ^ 32 - 1 → t.rf F.DUP_TAKEOVER_CNT_COUNT 0 = s.rf F.DUP_TAKEOVER_CNT_COUNT 0 + 1) ∧
      t.dup.hoOut = true ∧ t.dup.committed = s.dup.committed ∧ faultEv .dupTakeover 0 0 0 ∈ t.faultLine ∧
      (s.dup.committed = false → t.rw .DUP_EPOCH_NUM 0 = 0 ∧ faultEv .dupNoCommit 0 0 0 ∈ t.faultLine) ∧
      ∀ d i, d ∈ s.fabDies → i < 16 → (t.evt d i 9).count = ((s.evt d i 9).count + 1) % 65536 := by
  rw [State.takeover_standby hstate] at ht
  obtain ⟨u, hu⟩ : ∃ u, s.dropHalf = u := ⟨_, rfl⟩
  obtain ⟨hudup, hustat, hunames, huframe⟩ := s.dropHalf_spec u hu
  obtain ⟨v, hv⟩ : ∃ v, u.becomeActive 2 = v := ⟨_, rfl⟩
  obtain ⟨hact, hst, hho, hcom, hvstat, hvframe, hvregs⟩ := u.becomeActive_spec (by decide) v hv
  obtain ⟨w, hw⟩ : ∃ w, v.takeoverOut = w := ⟨_, rfl⟩
  obtain ⟨hwact, hwnames, hwline, hwdup, hwevts⟩ := v.takeoverOut_spec w hw
  obtain ⟨x, hx⟩ : ∃ x, w.takeoverNoted = x := ⟨_, rfl⟩
  obtain ⟨hxline, htime, hcount, hnum, hxdup, hxevts, hxnames⟩ := w.takeoverNoted_spec x hx
  rw [hu, hv, hw, hx] at ht
  obtain ⟨hmiss, htdup, htevts, htline, hnocommit, htnames, htother⟩ := x.takeoverDone_spec t ht
  have hsw : NamesKept s w [.DUP_STAT, .DEV_ROLE_CTL] :=
    ((hunames.mono (by decide)).trans (hvregs.names (ns := [.DUP_STAT, .DEV_ROLE_CTL]) (by decide))).trans (hwnames.mono (by decide))
  have hevts : w.evts = s.evts := by rw [hwevts, hvframe, huframe]
  have hcommitted : w.dup.committed = s.dup.committed := by rw [hwdup, hcom, hudup]
  have hin : x.rf F.DUP_STAT_HO_IN 0 = s.rf F.DUP_STAT_HO_IN 0 := by
    rw [hxnames.rf _ _ _ _ (by decide), hwnames.rf _ _ _ _ (by decide), hvstat _ rfl rfl rfl, hustat _ rfl rfl rfl]
  have hstate' : x.rf F.DUP_STAT_STATE 0 = 2 := by
    rw [hxnames.rf _ _ _ _ (by decide), hwnames.rf _ _ _ _ (by decide), hst]
  have hactive : x.rf F.DEV_ROLE_CTL_ACTIVE 0 = 1 := by rw [hxnames.rf _ _ _ _ (by decide), hwact, hact]
  have hcnt : w.rf F.DUP_TAKEOVER_CNT_COUNT 0 = s.rf F.DUP_TAKEOVER_CNT_COUNT 0 := hsw.rf _ _ _ _ (by decide)
  have htrw : ∀ n : RegName, n ≠ .DUP_STAT → t.rw n 0 = x.rw n 0 := fun n hn =>
    congrArg BitVec.toNat (htnames ⟨n, 0, 0, 0⟩ (by simpa using hn))
  refine ⟨(htother _ rfl).trans hactive, (htother _ rfl).trans hstate', hmiss, (htother _ rfl).trans hin, ?_, fun h => ?_, ?_, ?_, ?_,
    fun hc => ⟨?_, ?_⟩, fun d i hd hi => ?_⟩
  · rw [htrw _ (by decide), htime, State.now_kept hsw (by decide)]
  · rw [htnames.rf _ _ _ _ (by decide), hcount (hcnt ▸ h), hcnt]
  · rw [htdup, hxdup, hwdup, hho]
  · rw [htdup, hxdup, hcommitted]
  · exact htline _ (hxline ▸ List.mem_append.mpr (.inr (.head _)))
  · rw [htrw _ (by decide), hnum (hcommitted.trans hc)]
  · exact hnocommit (by rw [hxdup, hcommitted, hc])
  · have hdies : d ∈ w.fabDies := by rwa [State.fabDies_kept hsw (by decide)]
    have hevt : (t.evt d i 9) = x.evt d i 9 := by unfold State.evt; rw [htevts]
    have hbase : w.evt d i 9 = s.evt d i 9 := by unfold State.evt; rw [hevts]
    rw [hevt, hxevts d i hdies hi, hbase]

/-! ## Heartbeats -/

section
variable {s : State} {cell : Nat}

/-- What a heartbeat leaves at a member that is not active (R966). -/
def State.heartSeen (s : State) (epoch : Nat) : State :=
  ((s.wf F.DUP_STAT_PEER_ALIVE 1 0).wf F.DUP_STAT_HB_MISSED 0 0).setDup { s.dup with epoch := epoch, hbSeen := s.now }

theorem State.heartSeen_spec (s : State) (epoch : Nat) (t : State) (ht : s.heartSeen epoch = t) :
    t.rf F.DUP_STAT_HB_MISSED 0 = 0 ∧ t.rf F.DUP_STAT_PEER_ALIVE 0 = 1 ∧ t.rf F.DUP_STAT_STATE 0 = s.rf F.DUP_STAT_STATE 0 ∧
      t.dup = { s.dup with epoch := epoch, hbSeen := s.now } ∧ OnlyDuplex s t [⟨.DUP_STAT, 0, 0, 0⟩] := by
  have hframe := (((OnlyDuplex.refl s [⟨.DUP_STAT, 0, 0, 0⟩]).wf F.DUP_STAT_PEER_ALIVE 1 0 0 0 (.head _)).wf F.DUP_STAT_HB_MISSED 0 0 0 0
    (.head _)).setDup { s.dup with epoch := epoch, hbSeen := s.now }
  unfold State.heartSeen at ht
  subst ht
  refine ⟨?_, ?_, ?_, State.dup_setDup _ _, hframe⟩
  · exact (State.setDup_rf ..).trans (State.rf_wf_fits _ F.DUP_STAT_HB_MISSED _ _ _ _ rfl (by decide))
  · rw [State.setDup_rf, State.rf_wf_apart _ _ _ _ _ _ _ _ _ _ rfl rfl]
    exact State.rf_wf_fits _ F.DUP_STAT_PEER_ALIVE _ _ _ _ rfl (by decide)
  · rw [State.setDup_rf, State.rf_wf_apart _ _ _ _ _ _ _ _ _ _ rfl rfl, State.rf_wf_apart _ _ _ _ _ _ _ _ _ _ rfl rfl]

/-- A heartbeat at a member that is not active: seen, and followed by a takeover where the sender yields (R966, R968). -/
theorem exec_heartbeat_standby (hdue : s.cellDue 2 cell = true) (hkind : cellKind cell = .system) (hcode : cellBody cell / 2 ^ 196 % 16 = 6)
    (hact : s.rf F.DEV_ROLE_CTL_ACTIVE 0 = 0) : exec (.heartbeat 2 cell) s = .next (
      if bit (cellBody cell) 114 then ((s.tookCell 2).heartSeen (bits (cellBody cell) 195 164)).takeover
      else (s.tookCell 2).heartSeen (bits (cellBody cell) 195 164)) := by
  obtain ⟨u, hu⟩ : ∃ u, s.tookCell 2 = u := ⟨_, rfl⟩
  obtain ⟨v, hv⟩ : ∃ v, u.wf F.DUP_STAT_PEER_ALIVE 1 0 = v := ⟨_, rfl⟩
  have huact : u.rf F.DEV_ROLE_CTL_ACTIVE 0 = 0 := (hu ▸ State.tookCell_rf ..).trans hact
  have hidle : v.rb F.DEV_ROLE_CTL_ACTIVE 0 = false := State.rb_of_rf_zero (hv ▸ (State.rf_wf_apart _ _ _ _ _ _ _ _ _ _ rfl rfl).trans huact)
  have hkept : OnlyNames u v [.DUP_STAT] := hv ▸ (OnlyNames.refl u _).wf F.DUP_STAT_PEER_ALIVE _ _ _ _ (.head _)
  have hmissed : OnlyNames u (v.wf F.DUP_STAT_HB_MISSED 0 0) [.DUP_STAT] := hkept.wf F.DUP_STAT_HB_MISSED _ _ _ _ (.head _)
  have hdup : v.dup = u.dup := by rw [hkept.1]
  have hnow : v.now = u.now := State.now_kept hkept.2 (by decide)
  change execHeartbeat 2 cell s = _
  unfold execHeartbeat State.heartSeen
  rw [systemRow_due hdue hkind hcode (fun _ => by decide) (fun h => absurd rfl h), hu, hv]
  dsimp only
  rw [hidle, if_neg Bool.false_ne_true, hdup, hnow]

theorem exec_heartbeatSend_due (hrole : s.rf F.DEV_ROLE_ROLE 0 = 3) (hact : s.rf F.DEV_ROLE_CTL_ACTIVE 0 = 1) (hup : s.linkUp 2 = true)
    (hdue : 100000 ≤ (s.now + 2 ^ 48 - s.dup.hbSent) % 2 ^ 48) :
    exec .heartbeatSend s = .next ((s.setSl 2 { s.sl 2 with system := s.heartbeat false :: (s.sl 2).system }).setDup { s.dup with hbSent := s.now }) := by
  have hgo : (decide (s.rf F.DEV_ROLE_ROLE 0 = 3) && s.rb F.DEV_ROLE_CTL_ACTIVE 0 && s.linkUp 2 &&
      decide (100000 ≤ (s.now + 2 ^ 48 - s.dup.hbSent) % 2 ^ 48)) = true := by
    rw [decide_eq_true hrole, State.rb_of_rf_one hact, hup, decide_eq_true hdue]
    rfl
  change execHeartbeatSend s = _
  unfold execHeartbeatSend
  rw [if_pos hgo, State.sysFront_up hup]

theorem exec_heartbeatSend_early (hearly : (s.now + 2 ^ 48 - s.dup.hbSent) % 2 ^ 48 < 100000) : exec .heartbeatSend s = .next s := by
  change execHeartbeatSend s = _
  unfold execHeartbeatSend
  rw [decide_eq_false (Nat.not_le.mpr hearly), Bool.and_false, if_neg Bool.false_ne_true]

/-- What a missed heartbeat leaves; `n` are missing in a row (R966, R967). -/
def State.heartMissed (s : State) (n : Nat) : State :=
  let s := (s.wf F.DUP_STAT_HB_MISSED n 0).incE F.DUP_HB_MISS_CNT_COUNT 0
  s.setDup { s.dup with hbSeen := s.now, hoOut := false }

theorem State.heartMissed_spec (s : State) {n : Nat} (hn : n < 4) (t : State) (ht : s.heartMissed n = t) :
    t.rf F.DUP_STAT_HB_MISSED 0 = n ∧ t.rf F.DUP_STAT_STATE 0 = s.rf F.DUP_STAT_STATE 0 ∧
      (s.rf F.DUP_HB_MISS_CNT_COUNT 0 < 2 ^ 32 - 1 → t.rf F.DUP_HB_MISS_CNT_COUNT 0 = s.rf F.DUP_HB_MISS_CNT_COUNT 0 + 1) ∧
      t.dup = { s.dup with hbSeen := s.now, hoOut := false } ∧ t = { s with regs := t.regs, dup := t.dup } ∧
      RegsKept s t [⟨.DUP_STAT, 0, 0, 0⟩, ⟨.DUP_HB_MISS_CNT, 0, 0, 0⟩] := by
  obtain ⟨u, hu⟩ : ∃ u, u = s.wf F.DUP_STAT_HB_MISSED n 0 := ⟨_, rfl⟩
  have hsu : OnlyRegs s u [⟨.DUP_STAT, 0, 0, 0⟩, ⟨.DUP_HB_MISS_CNT, 0, 0, 0⟩] := hu ▸ (OnlyRegs.refl s _).wf F.DUP_STAT_HB_MISSED _ _ _ _ (.head _)
  have hmiss : u.rf F.DUP_STAT_HB_MISSED 0 = n := hu ▸ State.rf_wf_fits _ F.DUP_STAT_HB_MISSED _ _ _ _ rfl hn
  have hstate : u.rf F.DUP_STAT_STATE 0 = s.rf F.DUP_STAT_STATE 0 := hu ▸ State.rf_wf_apart _ _ _ _ _ _ _ _ _ _ rfl rfl
  have hold : u.rf F.DUP_HB_MISS_CNT_COUNT 0 = s.rf F.DUP_HB_MISS_CNT_COUNT 0 := hu ▸ State.rf_wf_apart _ _ _ _ _ _ _ _ _ _ rfl rfl
  obtain ⟨v, hv⟩ : ∃ v, v = u.incE F.DUP_HB_MISS_CNT_COUNT 0 := ⟨_, rfl⟩
  have huv : OnlyRegs u v [⟨.DUP_STAT, 0, 0, 0⟩, ⟨.DUP_HB_MISS_CNT, 0, 0, 0⟩] :=
    hv ▸ (OnlyRegs.refl u _).incE F.DUP_HB_MISS_CNT_COUNT _ _ _ _ (.tail _ (.head _))
  have hsv := hsu.trans huv
  have hdup : v.dup = s.dup := by rw [hsv.1]
  have hnow : v.now = s.now := State.now_kept (hsv.2.names (ns := [.DUP_STAT, .DUP_HB_MISS_CNT]) (by decide)) (by decide)
  unfold State.heartMissed at ht
  rw [← hu, ← hv] at ht
  dsimp only at ht
  rw [hdup, hnow] at ht
  subst ht
  refine ⟨?_, ?_, fun hcnt => ?_, State.dup_setDup _ _, ?_, fun q hq => (State.setDup_reg ..).trans (hsv.2 q hq)⟩
  · rw [State.setDup_rf, hv, State.rf_incE_name _ _ _ _ _ _ _ _ _ _ (by decide), hmiss]
  · rw [State.setDup_rf, hv, State.rf_incE_name _ _ _ _ _ _ _ _ _ _ (by decide), hstate]
  · rw [State.setDup_rf, hv, State.rf_incE_one rfl rfl (hold ▸ hcnt), hold]
  · rw [hsv.1]
    rfl

/-- A miss at a standby; the third in a row decides with HB_TAKEOVER = 1 (R966 to R968). -/
theorem exec_heartbeatMiss_standby (hstate : s.rf F.DUP_STAT_STATE 0 = 3 ∨ s.rf F.DUP_STAT_STATE 0 = 4)
    (hdue : 100000 ≤ (s.now + 2 ^ 48 - s.dup.hbSeen) % 2 ^ 48) (n : Nat) (hn : min 3 (s.rf F.DUP_STAT_HB_MISSED 0 + 1) = n) :
    exec .heartbeatMiss s = .next (
      if decide (n = 3) && (s.heartMissed n).rb F.DUP_CTL_HB_TAKEOVER 0 then (s.heartMissed n).takeover else s.heartMissed n) := by
  have hgo : ¬ ((decide (s.rf F.DUP_STAT_STATE 0 ≠ 3) && decide (s.rf F.DUP_STAT_STATE 0 ≠ 4)) ||
      decide ((s.now + 2 ^ 48 - s.dup.hbSeen) % 2 ^ 48 < 100000)) = true := by
    rw [standby_not_other hstate, decide_eq_false (Nat.not_lt.mpr hdue)]
    decide
  change execHeartbeatMiss s = _
  unfold execHeartbeatMiss State.heartMissed
  dsimp only
  rw [if_neg hgo, hn]

/-! ## The handover ball, and joining -/

/-- What a level of HANDOVER_IN leaves. -/
theorem State.hoIn_spec (s : State) {v : Nat} (hv : v < 2) (t : State) (ht : s.wf F.DUP_STAT_HO_IN v 0 = t) :
    t.rf F.DUP_STAT_HO_IN 0 = v ∧ t.rf F.DUP_STAT_STATE 0 = s.rf F.DUP_STAT_STATE 0 ∧ OnlyRegs s t [⟨.DUP_STAT, 0, 0, 0⟩] := by
  subst ht
  exact ⟨State.rf_wf_fits _ F.DUP_STAT_HO_IN _ _ _ _ rfl hv, State.rf_wf_apart _ _ _ _ _ _ _ _ _ _ rfl rfl,
    (OnlyRegs.refl s _).wf F.DUP_STAT_HO_IN _ _ _ _ (.head _)⟩

theorem OnlyRegs.rf_name {t : State} {rs : List Reg} (h : OnlyRegs s t rs) (f : Fld) (d i j : Nat) (hf : (⟨f.reg, d, i, j⟩ : Reg) ∉ rs) :
    t.rf f d i j = s.rf f d i j := congrArg f.get (h.2 _ hf)

/-- JOIN_S after the image load, without a racking link (R955). -/
theorem exec_joinTimeout_due {j : Nat} (hload : s.dup.loadAt = some j) (hstate : s.rf F.DUP_STAT_STATE 0 = 1) (hdown : s.rf F.SL_STAT_STATE 0 2 ≠ 2)
    (himage : s.imageLoaded = true) (hdue : s.rf F.DUP_CTL_JOIN_S 0 * 1000000000 ≤ (s.now + 2 ^ 48 - j) % 2 ^ 48)
    (hpin : s.rf F.DUP_CTL_PIN_EN 0 = 0) : exec .joinTimeout s = .next (s.becomeActive 5) := by
  have hlink : s.linkUp 2 = false := beq_eq_false_iff_ne.mpr hdown
  have hgo : (decide (s.rf F.DUP_STAT_STATE 0 = 1) && !s.linkUp 2 && s.imageLoaded &&
      decide (s.rf F.DUP_CTL_JOIN_S 0 * 1000000000 ≤ (s.now + 2 ^ 48 - j) % 2 ^ 48) &&
      !(s.rb F.DUP_CTL_PIN_EN 0 && s.rb F.DUP_STAT_HO_IN 0)) = true := by
    rw [decide_eq_true hstate, hlink, himage, decide_eq_true hdue, State.rb_of_rf_zero hpin]
    rfl
  change execJoinTimeout s = _
  unfold execJoinTimeout
  rw [hload]
  dsimp only
  rw [if_pos hgo]

end

/-! ## DUP_CTL -/

theorem dupCtl_apart : fieldsApart (regDesc .DUP_CTL 0).fields := by
  unfold fieldsApart
  decide

/-- The word that a write of `w` stores in DUP_CTL (R979, R987). -/
def dupCtlWord (w : Nat) : Nat :=
  w / 2 ^ 32 * 2 ^ 32 + max 1 (bits w 31 24) * 2 ^ 24 + max 1 (bits w 23 16) * 2 ^ 16 + min 10 (max 1 (w % 16))

theorem dupCtlWord_fields (w : Nat) :
    bits (dupCtlWord w) 31 24 = max 1 (w / 2 ^ 24 % 256) ∧ bits (dupCtlWord w) 23 16 = max 1 (w / 2 ^ 16 % 256) ∧
      bits (dupCtlWord w) 3 0 = min 10 (max 1 (w % 16)) ∧ bit (dupCtlWord w) 47 = bit w 47 := by
  have h24 : bits w 31 24 = w / 2 ^ 24 % 256 := rfl
  have h16 : bits w 23 16 = w / 2 ^ 16 % 256 := rfl
  have h47 : ∀ n : Nat, n / 2 ^ 47 = n / 2 ^ 32 / 2 ^ 15 := fun n => by rw [Nat.div_div_eq_div_mul, ← Nat.pow_add]
  have hhigh : dupCtlWord w / 2 ^ 32 = w / 2 ^ 32 := by
    unfold dupCtlWord
    rw [h24, h16]
    omega
  have hbit : bit (dupCtlWord w) 47 = bit w 47 := by
    unfold bit
    rw [h47, hhigh, ← h47]
  refine ⟨?_, ?_, ?_, hbit⟩ <;> unfold dupCtlWord <;> rw [h24, h16] <;> unfold bits <;> omega

theorem exec_yieldWrite_stored {s : State} {w : TWord} (htag : w.tag.toNat < 2) :
    exec (.yieldWrite w false) s = .next (s.plainWrite ⟨.DUP_CTL, 0, 0, 0⟩ (dupCtlWord w.data.toNat)) :=
  congrArg Host.Outcome.next (if_pos htag)

/-! ## The statement -/

/-- Settles O53, from what a heartbeat, a miss, a takeover and a yield leave. -/
theorem theStandbyWatchesAndTakesOver : Obligations.TheStandbyWatchesAndTakesOver := by
  unfold Obligations.TheStandbyWatchesAndTakesOver
  refine ⟨?sends, ?early, ?seen, ?yielded, ?miss, ?third, ?low, ?unused, ?rise, ?join, ?write⟩
  case sends =>
    intro s hrole hact hup hsent hnow hover
    have hbody : s.heartbeat false = 6 * 2 ^ 196 + s.dup.epoch * 2 ^ 164 + 2 ^ 115 := by
      rw [State.heartbeat_active hact, b2n, if_neg Bool.false_ne_true, Nat.zero_mul, Nat.add_zero]
    refine ⟨_, exec_heartbeatSend_due hrole hact (beq_iff_eq.mpr hup) (by rwa [elapsed_mod hsent (by omega)]), ?_, rfl, fun k hk => ?_, rfl⟩
    · rw [State.setDup_sl, State.sl_setSl_same, hbody]
    · rw [State.setDup_sl, State.sl_setSl_ne hk]
  case early =>
    intro s hsent hearly
    exact ⟨s, exec_heartbeatSend_early (by rwa [elapsed_mod hsent (by omega)]), rfl⟩
  case seen =>
    intro s cell b hdue hkind hb hcode hno hact
    subst hb
    have hexec := exec_heartbeat_standby hdue hkind hcode hact
    have hstay : bit (cellBody cell) 114 = false := beq_eq_false_iff_ne.mpr (by rw [hno]; decide)
    obtain ⟨t, ht⟩ : ∃ t, (s.tookCell 2).heartSeen (bits (cellBody cell) 195 164) = t := ⟨_, rfl⟩
    obtain ⟨hmiss, hpeer, hstate, hdup, hst⟩ := State.heartSeen_spec _ _ t ht
    rw [hstay, if_neg Bool.false_ne_true, ht] at hexec
    clear hcode hno ht
    have hframe : OnlyDuplex s t [⟨.DUP_STAT, 0, 0, 0⟩] := (OnlyDuplex.tookCell s 2 _).trans hst
    exact ⟨t, hexec, hmiss, hpeer, hstate, hdup, hframe.1, hframe.2⟩
  case yielded =>
    intro s cell b hdue hkind hb hcode hyes hact hstate
    subst hb
    have hexec := exec_heartbeat_standby hdue hkind hcode hact
    obtain ⟨u, hu⟩ : ∃ u, (s.tookCell 2).heartSeen (bits (cellBody cell) 195 164) = u := ⟨_, rfl⟩
    obtain ⟨-, -, hst, -, -⟩ := State.heartSeen_spec _ _ u hu
    rw [bit_of_mod hyes, if_pos rfl, hu] at hexec
    clear hcode hyes hu
    obtain ⟨t, ht⟩ : ∃ t, u.takeover = t := ⟨_, rfl⟩
    have hsame : u.rf F.DUP_STAT_STATE 0 = s.rf F.DUP_STAT_STATE 0 := hst.trans (State.tookCell_rf ..)
    obtain ⟨hact', hst', -, -, -, -, hho, -, hev, -⟩ := State.takeover_spec (s := u) (by rw [hsame]; exact hstate) t ht
    exact ⟨t, hexec.trans (congrArg Host.Outcome.next ht), hact', hst', hev, hho⟩
  case miss =>
    intro s hstate hseen hnow hover hfew hcnt
    have hexec := exec_heartbeatMiss_standby hstate (by rwa [elapsed_mod hseen (by omega)]) _ (min_eq_right (by omega))
    obtain ⟨t, ht⟩ : ∃ t, s.heartMissed (s.rf F.DUP_STAT_HB_MISSED 0 + 1) = t := ⟨_, rfl⟩
    obtain ⟨hmiss, -, hcount, hdup, hframe, hkept⟩ := s.heartMissed_spec (by omega) t ht
    have hno : ¬ (s.rf F.DUP_STAT_HB_MISSED 0 + 1 = 3) := by omega
    rw [decide_eq_false hno, Bool.false_and, if_neg Bool.false_ne_true, ht] at hexec
    exact ⟨t, hexec, hmiss, hcount hcnt, hdup, hframe, hkept⟩
  case third =>
    intro s hstate hseen hnow hover hmany hdecides hcnt
    have hexec := exec_heartbeatMiss_standby hstate (by rwa [elapsed_mod hseen (by omega)]) 3 (min_eq_left (by omega))
    obtain ⟨u, hu⟩ : ∃ u, s.heartMissed 3 = u := ⟨_, rfl⟩
    obtain ⟨-, hst, -, hdup, hframe, hkept⟩ := s.heartMissed_spec (by decide) u hu
    have hnames : NamesKept s u [.DUP_STAT, .DUP_HB_MISS_CNT] := hkept.names (by decide)
    have htake : u.rb F.DUP_CTL_HB_TAKEOVER 0 = true := State.rb_of_rf_one ((hnames.rf _ _ _ _ (by decide)).trans hdecides)
    rw [hu, htake, decide_eq_true rfl, Bool.true_and, if_pos rfl] at hexec
    obtain ⟨t, ht⟩ : ∃ t, u.takeover = t := ⟨_, rfl⟩
    obtain ⟨hact', hst', hmiss, -, htime, hcount, hho, hcom, hev, hnone, hevts⟩ := State.takeover_spec (s := u) (by rw [hst]; exact hstate) t ht
    have hold : u.rf F.DUP_TAKEOVER_CNT_COUNT 0 = s.rf F.DUP_TAKEOVER_CNT_COUNT 0 := hnames.rf _ _ _ _ (by decide)
    have hcommitted : u.dup.committed = s.dup.committed := by rw [hdup]
    refine ⟨t, hexec.trans (congrArg Host.Outcome.next ht), hact', hst', hmiss, ?_, ?_, hho, hcom.trans hcommitted, hev,
      fun hc => hnone (hcommitted.trans hc), fun d i hd hi => ?_⟩
    · rw [htime, State.now_kept hnames (by decide)]
    · rw [hcount (hold ▸ hcnt), hold]
    · have hdies : d ∈ u.fabDies := by rwa [State.fabDies_kept hnames (by decide)]
      have hbase : u.evt d i 9 = s.evt d i 9 := by
        rw [hframe]
        rfl
      rw [hevts d i hdies hi, hbase]
  case low =>
    intro s hstate hpin
    obtain ⟨u, hu⟩ : ∃ u, s.wf F.DUP_STAT_HO_IN 0 0 = u := ⟨_, rfl⟩
    obtain ⟨hin, hst, hsu⟩ := s.hoIn_spec (by decide) u hu
    obtain ⟨t, ht⟩ : ∃ t, u.takeover = t := ⟨_, rfl⟩
    obtain ⟨hact', hst', -, hkeep, -, -, -, -, hev, -⟩ := State.takeover_spec (s := u) (by rw [hst]; exact hstate) t ht
    have hexec : exec .handoverInLow s = .next t := by
      change execHandoverInLow s = _
      unfold execHandoverInLow
      dsimp only
      rw [hu, State.rb_of_rf_one ((hsu.rf_name F.DUP_CTL_PIN_EN 0 0 0 (by decide)).trans hpin), if_pos rfl, ht]
    exact ⟨t, hexec, hkeep.trans hin, hact', hst', hev⟩
  case unused =>
    intro s hpin
    obtain ⟨t, ht⟩ : ∃ t, s.wf F.DUP_STAT_HO_IN 0 0 = t := ⟨_, rfl⟩
    obtain ⟨u, hu⟩ : ∃ u, s.wf F.DUP_STAT_HO_IN 1 0 = u := ⟨_, rfl⟩
    obtain ⟨hlow, -, hst⟩ := s.hoIn_spec (by decide) t ht
    obtain ⟨hhigh, -, hsu⟩ := s.hoIn_spec (by decide) u hu
    have hexect : exec .handoverInLow s = .next t := by
      change execHandoverInLow s = _
      unfold execHandoverInLow
      dsimp only
      rw [ht, State.rb_of_rf_zero ((hst.rf_name F.DUP_CTL_PIN_EN 0 0 0 (by decide)).trans hpin), if_neg Bool.false_ne_true]
    have hexecu : exec .handoverInRise s = .next u := by
      change execHandoverInRise s = _
      unfold execHandoverInRise
      dsimp only
      rw [hu, State.rb_of_rf_zero ((hsu.rf_name F.DUP_CTL_PIN_EN 0 0 0 (by decide)).trans hpin), if_neg Bool.false_ne_true]
    exact ⟨t, u, hexect, hexecu, hlow, hhigh, hst, hsu⟩
  case rise =>
    intro s hpin hrole hact
    obtain ⟨u, hu⟩ : ∃ u, s.wf F.DUP_STAT_HO_IN 1 0 = u := ⟨_, rfl⟩
    obtain ⟨hin, -, hsu⟩ := s.hoIn_spec (by decide) u hu
    obtain ⟨t, ht⟩ : ∃ t, u.yieldNow = t := ⟨_, rfl⟩
    obtain ⟨hact', hst', hho, -, -, -, -, hstat⟩ := u.yieldNow_spec t ht
    have hboth : (decide (u.rf F.DEV_ROLE_ROLE 0 = 3) && u.rb F.DEV_ROLE_CTL_ACTIVE 0) = true := by
      rw [hsu.rf_name F.DEV_ROLE_ROLE 0 0 0 (by decide), decide_eq_true hrole,
        State.rb_of_rf_one ((hsu.rf_name F.DEV_ROLE_CTL_ACTIVE 0 0 0 (by decide)).trans hact)]
      rfl
    have hexec : exec .handoverInRise s = .next (t.raise .dupDualActive 0 0) := by
      change execHandoverInRise s = _
      unfold execHandoverInRise
      dsimp only
      rw [hu, State.rb_of_rf_one ((hsu.rf_name F.DUP_CTL_PIN_EN 0 0 0 (by decide)).trans hpin), if_pos rfl]
      unfold State.dualActive
      rw [if_pos hboth, ht]
    exact ⟨_, hexec, (hstat _ rfl rfl rfl).trans hin, hact', hst', hho, List.mem_append.mpr (.inr (.head _))⟩
  case join =>
    intro s j hload hstate hdown himage hpast hnow hdue hpin
    obtain ⟨t, ht⟩ : ∃ t, s.becomeActive 5 = t := ⟨_, rfl⟩
    obtain ⟨hact, hst, hho, -, -, hframe, hkept⟩ := s.becomeActive_spec (by decide) t ht
    exact ⟨t, (exec_joinTimeout_due hload hstate hdown himage (by rwa [elapsed_mod hpast (by omega)]) hpin).trans (congrArg Host.Outcome.next ht), hst, hact,
      hho, hframe, hkept⟩
  case write =>
    intro s w htag
    obtain ⟨hjoin, hsnap, hepoch, hyield⟩ := dupCtlWord_fields w.data.toNat
    have hfield := s.plainWrite_field ⟨.DUP_CTL, 0, 0, 0⟩ (dupCtlWord w.data.toNat) dupCtl_apart
    refine ⟨_, exec_yieldWrite_stored htag, (hfield ⟨F.DUP_CTL_JOIN_S, .rw, 10⟩ (by decide)).trans hjoin,
      (hfield ⟨F.DUP_CTL_SNAP_US, .rw, 10⟩ (by decide)).trans hsnap, (hfield ⟨F.DUP_CTL_EPOCH, .rw, 10⟩ (by decide)).trans hepoch, ?_,
      OnlyRegs.plainWrite ..⟩
    refine (hfield ⟨F.DUP_CTL_YIELD, .w1s, 0⟩ (by decide)).trans ((writeField_w1s _ 47 ⟨rfl, rfl⟩ _ _).trans ?_)
    have hold : s.rf F.DUP_CTL_YIELD 0 < 2 := F.DUP_CTL_YIELD.get_lt _
    change (if bit (dupCtlWord w.data.toNat) 47 = true then 1 else s.rf F.DUP_CTL_YIELD 0) = _
    rw [hyield]
    by_cases hset : w.data.toNat / 2 ^ 47 % 2 = 1
    · rw [if_pos (bit_of_mod hset)]
      omega
    · have hclear : bit w.data.toNat 47 = false := beq_eq_false_iff_ne.mpr hset
      rw [hclear, if_neg Bool.false_ne_true]
      omega

end Sys2Proof.Machine
end

section
/-!
SUPPORT. The packets and replies of Caben: proof of the statement O54.
-/
namespace Sys2Proof.Machine

/-! ## Packets received -/

section
variable {s : State} {tr : Nat} {peer : Option UdpPeer} {b : List Nat}

/-- The parameters of a packet (R791). -/
def packetParams (b : List Nat) : List Nat := (b.drop 6).take (leNat ((b.drop 4).take 2))

theorem State.cabOut_nil (hnone : ∀ p, p ∈ s.cab.pkts → p.tr ≠ tr) : s.cabOut tr = [] :=
  List.filter_eq_nil_iff.mpr fun p hp h => hnone p hp (beq_iff_eq.mp h)

/-- Bytes that are no packet are a framing error (R791). -/
theorem State.cabReceive_bad (hbad : isPacket tr b = false) : s.cabReceive tr peer b = s.cabFrameErr tr := by
  unfold State.cabReceive
  rw [hbad]
  rfl

/-- A packet of a transport that has none outstanding meets no reused tag and no full table. -/
theorem State.cabReceive_free (hpkt : isPacket tr b = true) (hnone : ∀ p, p ∈ s.cab.pkts → p.tr ≠ tr)
    (hone : b.getD 2 0 ≠ 0x19 ∨ ∀ p, p ∈ s.cab.pkts → p.op ≠ 0x19) :
    s.cabReceive tr peer b =
      if b.getD 1 0 ≠ 1 then s.cabAnswer tr (b.getD 3 0) (b.getD 2 0) peer 2 0 []
      else match opInfo (b.getD 2 0) with
        | none => s.cabAnswer tr (b.getD 3 0) (b.getD 2 0) peer 1 0 []
        | some (_, boot) =>
          if (s.bootSm && !boot) || (!s.bootSm && b.getD 2 0 = 0x1C) then s.cabAnswer tr (b.getD 3 0) (b.getD 2 0) peer 6 0 []
          else if (opCheck tr (b.getD 2 0) (packetParams b)).1 ≠ 0 then
            s.cabAnswer tr (b.getD 3 0) (b.getD 2 0) peer (opCheck tr (b.getD 2 0) (packetParams b)).1
              (opCheck tr (b.getD 2 0) (packetParams b)).2 []
          else s.setCab { s.cab with
            pkts := s.cab.pkts ++ [⟨tr, b.getD 3 0, b.getD 2 0, packetParams b, peer, false, false, false, s.now, 0, [], [], 0⟩] } := by
  have hroom : ¬ ((decide ((if s.bootSm then 1 else 16) ≤ ([] : List CabPkt).length)) ||
      (decide (b.getD 2 0 = 0x19) && s.cab.pkts.any fun p => p.op == 0x19)) = true := by
    have hlast : (decide (b.getD 2 0 = 0x19) && s.cab.pkts.any fun p => p.op == 0x19) = false := by
      rcases hone with hop | hany
      · rw [decide_eq_false hop, Bool.false_and]
      · have hno : (s.cab.pkts.any fun p => p.op == 0x19) = false :=
          List.any_eq_false.mpr fun p hp h => hany p hp (beq_iff_eq.mp h)
        rw [hno, Bool.and_false]
    rw [hlast, Bool.or_false, decide_eq_true_eq]
    split
    · exact Nat.not_succ_le_zero _
    · exact Nat.not_succ_le_zero _
  have hreuse : ¬ (([] : List CabPkt).any fun p => p.tag == b.getD 3 0) = true := Bool.false_ne_true
  unfold State.cabReceive packetParams
  dsimp only
  rw [hpkt, s.cabOut_nil hnone, if_neg (by decide), if_neg hreuse, if_neg hroom] <;> rfl

/-- A packet that passes every check is outstanding (R794 to R796). -/
theorem State.cabReceive_outstanding (hpkt : isPacket tr b = true) (hnone : ∀ p, p ∈ s.cab.pkts → p.tr ≠ tr) (hversion : b.getD 1 0 = 1)
    (hboot : s.bootSm = false) (hknown : (opInfo (b.getD 2 0)).isSome = true) (hstart : b.getD 2 0 ≠ 0x1C) (hstream : b.getD 2 0 ≠ 0x19)
    (hcheck : opCheck tr (b.getD 2 0) (packetParams b) = (0, 0)) :
    s.cabReceive tr peer b = s.setCab { s.cab with
      pkts := s.cab.pkts ++ [⟨tr, b.getD 3 0, b.getD 2 0, packetParams b, peer, false, false, false, s.now, 0, [], [], 0⟩] } := by
  obtain ⟨⟨lim, boot⟩, hinfo⟩ := Option.isSome_iff_exists.mp hknown
  have hserved : ¬ ((s.bootSm && !boot) || (!s.bootSm && decide (b.getD 2 0 = 0x1C))) = true := by
    rw [hboot, decide_eq_false hstart]
    simp
  rw [State.cabReceive_free hpkt hnone (.inl hstream), if_neg (not_not.mpr hversion), hinfo]
  dsimp only
  rw [if_neg hserved, hcheck, if_neg (not_not.mpr rfl)]

/-- A packet of another version is answered BAD_VERSION (Table 14-6). -/
theorem State.cabReceive_version (hpkt : isPacket tr b = true) (hnone : ∀ p, p ∈ s.cab.pkts → p.tr ≠ tr ∧ p.op ≠ 0x19)
    (hversion : b.getD 1 0 ≠ 1) : s.cabReceive tr peer b = s.cabAnswer tr (b.getD 3 0) (b.getD 2 0) peer 2 0 [] := by
  rw [State.cabReceive_free hpkt (fun p hp => (hnone p hp).1) (.inr fun p hp => (hnone p hp).2), if_pos hversion]

/-! ## Packets of a row -/

theorem State.cabPkt_some {tag : Nat} {p : CabPkt} (h : s.cabPkt tr tag = some p) : p.tr = tr ∧ p.tag = tag ∧ p ∈ s.cab.pkts := by
  obtain ⟨hp, hin⟩ : (p.tr == tr && p.tag == tag) = true ∧ p ∈ s.cab.pkts := 
    ⟨List.find?_some (p := fun q : CabPkt => q.tr == tr && q.tag == tag) h, List.mem_of_find?_eq_some h⟩
  obtain ⟨htr, htag⟩ := Bool.and_eq_true_iff.mp hp
  exact ⟨beq_iff_eq.mp htr, beq_iff_eq.mp htag, hin⟩

theorem State.cabNew_some {tag op : Nat} {p : CabPkt} (h : s.cabNew tr tag op = some p) :
    s.cabPkt tr tag = some p ∧ p.op = op ∧ p.started = false := by
  unfold State.cabNew at h
  split at h
  · next q hq =>
    split at h
    · next hnew =>
      obtain rfl := Option.some.inj h
      simpa [hq] using hnew
    · cases h
  · cases h

theorem State.cabNew_intro {tag op : Nat} {p : CabPkt} (h : s.cabPkt tr tag = some p) (hop : p.op = op) (hnew : p.started = false) :
    s.cabNew tr tag op = some p := by
  unfold State.cabNew
  rw [h]
  dsimp only
  rw [hop, hnew]
  simp

theorem cabRow_none {op tag : Nat} (h : s.cabPkt tr tag = none) (act : CabPkt → State → State) : cabRow op tr tag s act = s := by
  unfold cabRow State.cabNew
  rw [h]

end

/-! ## Replies -/

section
variable {s : State} {p : CabPkt} {status detail : Nat} {data : List Nat}

/-- The state without the packet that ends. -/
def State.pktEnded (s : State) (p : CabPkt) : State :=
  s.setCab { s.cab with pkts := s.cab.pkts.filter fun q => !(q.tr == p.tr && q.tag == p.tag) }

/-- A packet that is to get no reply only ends (R829). -/
theorem State.cabFinish_mute (hmute : p.mute = true) : s.cabFinish p status detail data = s.pktEnded p := by
  unfold State.cabFinish
  rw [hmute]
  rfl

/-- A packet ends with its reply, sent and kept (R792, R819, R823). -/
theorem State.cabFinish_reply (hmute : p.mute = false) (hstatus : status ≠ 5) : s.cabFinish p status detail data =
    ((s.pktEnded p).cabSend p.tr p.peer (cabPacket p.op p.tag status detail data)).cabKeep p.tr p.tag
      (cabPacket p.op p.tag status detail data) := by
  unfold State.cabFinish State.cabAnswer
  dsimp only
  rw [hmute, if_neg Bool.false_ne_true, if_neg hstatus]
  rfl

/-- The replies kept of a transport, with one more (R823). -/
theorem State.cabKeep_sixteen (hboot : s.bootSm = false) (tr tag : Nat) (pkt : List Nat) : s.cabKeep tr tag pkt =
    s.setCab { s.cab with kept := mset s.cab.kept tr (((tag, pkt) :: mget s.cab.kept tr []).take 16) [] } := by
  unfold State.cabKeep
  rw [hboot, if_neg Bool.false_ne_true]

/-- Keeping a reply changes nothing but the replies kept. -/
theorem State.cabKeep_frame (s : State) (tr tag : Nat) (pkt : List Nat) :
    ∃ k, s.cabKeep tr tag pkt = s.setCab { s.cab with kept := k } := ⟨_, rfl⟩

/-- A UDP reply of the plain transport (R784). -/
theorem State.cabSend_udp {a : UdpPeer} (hen : s.rf F.CABEN_CTL_UDP_EN 0 = 1) (hleft : s.rf F.CABEN_STAT_UDP_EXHAUSTED 0 = 0)
    (hplain : s.rf F.CABEN_CTL_UDP_SECURE 0 = 0) (pkt : List Nat) :
    s.cabSend 1 (some a) pkt = s.setCab { s.cab with udpOut := s.cab.udpOut ++ [(a, pkt)] } := by
  change (if s.rb F.CABEN_CTL_UDP_EN 0 && !s.rb F.CABEN_STAT_UDP_EXHAUSTED 0 then s.udpSend a pkt else s) = _
  rw [State.rb_of_rf_one hen, State.rb_of_rf_zero hleft, if_pos (by decide)]
  unfold State.udpSend
  rw [State.rb_of_rf_zero hplain, if_pos (by decide)]

/-- While channel 0 is not open its replies wait (R790). -/
theorem State.saPump_closed (hclosed : s.rf F.SC_STAT_TX_STATE 0 0 ≠ 2) : s.saPump = s := by
  unfold State.saPump
  split
  · rfl
  · dsimp only
    rw [decide_eq_false hclosed, Bool.false_and, if_neg Bool.false_ne_true]

theorem State.saPump_empty (hnone : s.cab.saOut = []) : s.saPump = s := by
  unfold State.saPump
  rw [hnone]

theorem State.cabSend_saette {peer : Option UdpPeer} (hclosed : s.rf F.SC_STAT_TX_STATE 0 0 ≠ 2) (pkt : List Nat) :
    s.cabSend 2 peer pkt = s.setCab { s.cab with saOut := s.cab.saOut ++ [pkt] } := by
  obtain ⟨u, hu⟩ : ∃ u, u = s.setCab { s.cab with saOut := s.cab.saOut ++ [pkt] } := ⟨_, rfl⟩
  have hsame : u.rf F.SC_STAT_TX_STATE 0 0 = s.rf F.SC_STAT_TX_STATE 0 0 := hu ▸ State.setCab_rf ..
  rw [← hu]
  have hsend : s.cabSend 2 peer pkt = u.saPump := hu ▸ rfl
  rw [hsend]
  exact State.saPump_closed (hsame ▸ hclosed)

/-- What a framing error leaves (R791). -/
theorem State.cabFrameErr_spi (s : State) (hcnt : s.rf F.CABEN_FRAME_ERR_CNT_COUNT 0 < 2 ^ 32 - 1) (t : State) (ht : s.cabFrameErr 0 = t) :
    t.cab = { s.cab with frameErr := true } ∧ t.rf F.CABEN_FRAME_ERR_CNT_COUNT 0 = s.rf F.CABEN_FRAME_ERR_CNT_COUNT 0 + 1 ∧
      t.faultLine = s.faultLine ++ [faultEv .cabenFramingError 0 0 0] ∧ t = { s with regs := t.regs, cab := t.cab, faultLine := t.faultLine } ∧
      RegsKept s t [⟨.CABEN_FRAME_ERR_CNT, 0, 0, 0⟩] := by
  obtain ⟨u, hu⟩ : ∃ u, u = s.setCab { s.cab with frameErr := true } := ⟨_, rfl⟩
  obtain ⟨v, hv⟩ : ∃ v, v = u.incE F.CABEN_FRAME_ERR_CNT_COUNT 0 := ⟨_, rfl⟩
  have hold : u.rf F.CABEN_FRAME_ERR_CNT_COUNT 0 = s.rf F.CABEN_FRAME_ERR_CNT_COUNT 0 := hu ▸ State.setCab_rf ..
  have huv : OnlyRegs u v [⟨.CABEN_FRAME_ERR_CNT, 0, 0, 0⟩] := hv ▸ (OnlyRegs.refl u _).incE F.CABEN_FRAME_ERR_CNT_COUNT _ _ _ _ (.head _)
  have hframe : v = { s with regs := v.regs, cab := { s.cab with frameErr := true } } := by
    rw [huv.1, hu]
    rfl
  have hline : v.faultLine = s.faultLine := by rw [hframe]
  have hstep : t = v.raise .cabenFramingError 0 0 := by
    rw [← ht, hv, hu]
    rfl
  subst hstep
  refine ⟨congrArg State.cab hframe, ?_, congrArg (· ++ [_]) hline, ?_, fun q hq => (huv.2 q hq).trans (hu ▸ State.setCab_reg ..)⟩
  · rw [State.raise_rf, hv, State.rf_incE_one rfl rfl (hold ▸ hcnt), hold]
  · obtain ⟨l, hlast⟩ : ∃ l, v.raise .cabenFramingError 0 0 = { v with faultLine := l } := ⟨_, rfl⟩
    rw [hlast, hframe]

end

/-! ## Frames of channel 0 -/

/-- The registers that taking words from a receive half may write. -/
def takeNames : List RegName := [.PROT_CE_CNT, .PROT_UE_CNT, .PROT_ERR_LAST, .PROT_WB_SKIP_CNT, .SC_STAT]

/-- Caben stays, and so do the registers of other names than `takeNames`. -/
def CabenKept (s t : State) : Prop := t.cab = s.cab ∧ NamesKept s t takeNames

section
variable {s t u : State}

theorem CabenKept.refl (s : State) : CabenKept s s := ⟨rfl, fun _ _ => rfl⟩

theorem CabenKept.trans (h : CabenKept s t) (g : CabenKept t u) : CabenKept s u := ⟨g.1.trans h.1, h.2.trans g.2⟩

theorem CabenKept.of_names (h : OnlyNames s t takeNames) : CabenKept s t := ⟨by rw [h.1], h.2⟩

theorem CabenKept.ite {c : Prop} {_ : Decidable c} (ht : CabenKept s t) (hu : CabenKept s u) : CabenKept s (if c then t else u) := by
  split
  · exact ht
  · exact hu

theorem State.raise_kept (s : State) (src : FaultSrc) (d u x : Nat) : CabenKept s (s.raise src d u x) := ⟨rfl, fun _ _ => rfl⟩

theorem State.detect_kept (s : State) (d pa : Nat) (src : ReadSrc) (unc : Bool) (syn : Nat) : CabenKept s (s.detect d pa src unc syn) := by
  have hcount : OnlyNames s (s.incE (if unc then F.PROT_UE_CNT_COUNT else F.PROT_CE_CNT_COUNT) d (arrOf d pa).group) takeNames :=
    (OnlyNames.refl s _).incE _ _ _ _ _ (by cases unc <;> decide)
  unfold State.detect
  dsimp only
  exact (CabenKept.of_names (.ite hcount (hcount.ww .PROT_ERR_LAST _ _ _ _ (by decide)))).trans (State.raise_kept ..)

theorem State.queueWb_kept (s : State) (d pa : Nat) (w : TWord) : CabenKept s (s.queueWb d pa w) :=
  .ite (.refl s) (.ite ⟨rfl, fun _ _ => rfl⟩ (.of_names ((OnlyNames.refl s _).incE F.PROT_WB_SKIP_CNT_COUNT _ _ _ _ (by decide))))

theorem State.readWord_kept (s : State) (d pa : Nat) (src : ReadSrc) (wb : Bool) : CabenKept s (s.readWord d pa src wb).2.2 := by
  unfold State.readWord
  split
  · exact .refl s
  · exact .ite ((s.detect_kept ..).trans (State.queueWb_kept ..)) (s.detect_kept ..)
  · exact s.detect_kept ..

theorem State.setSc_kept (s : State) (c : Nat) (x : Sc) : CabenKept s (s.setSc c x) := ⟨rfl, fun _ _ => rfl⟩

theorem State.owe_kept (s : State) (c n : Nat) : CabenKept s (s.owe c n) :=
  .ite ((s.setSc_kept c _).trans (State.setSc_kept _ c _)) (s.setSc_kept c _)

theorem State.rxTakeOne_kept {c : Nat} {w : TWord} {id : Nat} (h : s.rxTakeOne c = some (w, id, t)) : CabenKept s t := by
  unfold State.rxTakeOne at h
  dsimp only at h
  split at h
  · cases h
  · split at h
    · cases h
    · obtain ⟨-, -, rfl⟩ : _ ∧ _ ∧ _ := by simpa only [Option.some.injEq, Prod.mk.injEq] using h
      exact ((s.readWord_kept ..).trans (State.setSc_kept ..)).trans (State.owe_kept ..)

/-- Taking a frame leaves Caben alone. -/
theorem State.takeFrame_kept {fuel : Nat} {ws out : List TWord} (h : s.takeFrame fuel ws = some (out, t)) : CabenKept s t := by
  induction fuel generalizing s ws with
  | zero => cases h
  | succ n ih =>
    unfold State.takeFrame at h
    cases hone : s.rxTakeOne 0 with
    | none =>
      rw [hone] at h
      cases h
    | some r =>
      obtain ⟨w, id, u⟩ := r
      rw [hone] at h
      dsimp only at h
      have hsu := State.rxTakeOne_kept hone
      split at h
      · obtain ⟨-, rfl⟩ : _ ∧ _ := by simpa only [Option.some.injEq, Prod.mk.injEq] using h
        exact hsu
      · exact hsu.trans (ih h)

/-- What the level shown after a frame, and the answer of a closing half, leave alone. -/
theorem State.frameTaken_kept (s : State) : CabenKept s ((s.rxView 0).closeIfEmpty 0) ∧ ((s.rxView 0).closeIfEmpty 0).mem = s.mem := by
  have hview : CabenKept s (s.rxView 0) := .of_names ((OnlyNames.refl s _).wf F.SC_STAT_RX_LEVEL _ _ _ _ (by decide))
  have hmem : (s.rxView 0).mem = s.mem := State.wf_mem ..
  obtain ⟨v, hv⟩ : ∃ v, s.rxView 0 = v := ⟨_, rfl⟩
  rw [hv] at hview hmem ⊢
  obtain ⟨x, hx, hxmem⟩ : ∃ x, CabenKept v x ∧ x.mem = v.mem ∧
      v.closeIfEmpty 0 = if v.rf F.SC_STAT_RX_STATE 0 0 = 2 && (v.sc 0).rx.isEmpty then x.wf F.SC_STAT_RX_STATE 0 0 0 else v := by
    refine ⟨(if 0 < (v.sc 0).owed then (v.setSc 0 { v.sc 0 with owed := 0 }).msg 0 6 (v.sc 0).owed else v).msg 0 5 0, ?_, ?_, rfl⟩
    · exact (CabenKept.ite ((v.setSc_kept ..).trans (State.setSc_kept ..)) (.refl v)).trans (State.setSc_kept ..)
    · split
      · rfl
      · rfl
  rw [hxmem.2]
  split
  · exact ⟨(hview.trans hx).trans (.of_names ((OnlyNames.refl x _).wf F.SC_STAT_RX_STATE _ _ _ _ (by decide))),
      (State.wf_mem ..).trans (hxmem.1.trans hmem)⟩
  · exact ⟨hview, hmem⟩

end

/-! ## Transfers and datagrams -/

section
variable {s : State}

/-- What a fetch leaves clocks the oldest reply, and pads it (R780). -/
theorem fetch_whole {r : List Nat} {n : Nat} (h : r.length < n) :
    (0 :: r ++ List.replicate n 0).take n = 0 :: (r ++ List.replicate (n - 1 - r.length) 0) := by
  obtain ⟨m, rfl⟩ : ∃ m, n = m + 1 := ⟨n - 1, by omega⟩
  rw [List.cons_append, List.take_succ_cons, List.take_append, List.take_of_length_le (by omega), List.take_replicate, min_eq_left (by omega), Nat.add_sub_cancel]

theorem fetch_part {r : List Nat} {n : Nat} (h : n ≤ r.length) : (0 :: r ++ List.replicate n 0).take n = (0 :: r).take n :=
  List.take_append_of_le_length (by simp; omega)

theorem exec_fetch_whole {n : Nat} {r : List Nat} {rest : List (List Nat)} (hq : s.cab.replies = r :: rest) (hne : r ≠ [])
    (hlen : r.length < n) : exec (.fetch n) s = .next (s.setCab { s.cab with
      frameErr := false, miso := s.spiByte :: 0 :: (r ++ List.replicate (n - 1 - r.length) 0), replies := rest }) := by
  have hhead : s.cab.replies.headD [] = r := by rw [hq]; rfl
  have htail : s.cab.replies.drop 1 = rest := by rw [hq]; rfl
  have hgo : (!r.isEmpty && decide (1 + r.length ≤ n)) = true := by
    rw [decide_eq_true (by omega)]
    cases r with
    | nil => exact absurd rfl hne
    | cons a l => rfl
  change execFetch n s = _
  unfold execFetch
  dsimp only
  rw [hhead, if_pos hgo, fetch_whole hlen, ← htail]
  rfl

theorem exec_fetch_part {n : Nat} (hlen : n ≤ (s.cab.replies.headD []).length) : exec (.fetch n) s = .next (s.setCab { s.cab with
    frameErr := false, miso := s.spiByte :: (0 :: s.cab.replies.headD []).take n }) := by
  have hno : ¬ (!(s.cab.replies.headD []).isEmpty && decide (1 + (s.cab.replies.headD []).length ≤ n)) = true := by
    rw [decide_eq_false (by omega), Bool.and_false]
    exact Bool.false_ne_true
  change execFetch n s = _
  unfold execFetch
  dsimp only
  rw [if_neg hno, fetch_part hlen]
  rfl

/-- A datagram that Caben does not serve is dropped (R783). -/
theorem exec_udpDatagram_dropped {d : Datagram} (h : s.udpServed = false ∨ d.plain = false ∨ d.dstIp ≠ s.rf F.CABEN_IP_ADDR 0 ∨
    d.dstPort ≠ s.rf F.CABEN_CTL_UDP_PORT 0 ∨ 1472 < d.payload.length) : exec (.udpDatagram d) s = .next s := by
  refine congrArg Host.Outcome.next (if_pos ?_)
  simp only [Bool.or_eq_true, decide_eq_true_eq, Bool.not_eq_true']
  rcases h with h | h | h | h | h
  · exact .inl (.inl (.inl (.inl (.inl (.inl h)))))
  · exact .inl (.inl (.inl (.inl (.inl (.inr h)))))
  · exact .inl (.inl (.inl (.inr h)))
  · exact .inl (.inl (.inr h))
  · exact .inl (.inr h)

/-- A plain datagram for Caben is received as a packet (R783, R784). -/
theorem exec_udpDatagram_plain {d : Datagram} (hserved : s.udpServed = true) (hplain : d.plain = true)
    (hmac : d.dstMac = s.rf F.MAC_STATION_ADDR 0 0) (hip : d.dstIp = s.rf F.CABEN_IP_ADDR 0) (hport : d.dstPort = s.rf F.CABEN_CTL_UDP_PORT 0)
    (hlen : d.payload.length ≤ 1472) (hleft : s.rf F.CABEN_STAT_UDP_EXHAUSTED 0 = 0) (hopen : s.rf F.CABEN_CTL_UDP_SECURE 0 = 0)
    (hfuse : s.cfg.fuses.secureEn = false) :
    exec (.udpDatagram d) s = .next (s.cabReceive 1 (some ⟨d.srcMac, d.vlan, d.srcIp, d.srcPort⟩) d.payload) := by
  change execUdpDatagram d s = _
  unfold execUdpDatagram
  dsimp only
  rw [hserved, hplain, hfuse, State.rb_of_rf_zero hleft, State.rb_of_rf_zero hopen, decide_eq_false (not_not.mpr hmac),
    decide_eq_false (not_not.mpr hip), decide_eq_false (not_not.mpr hport), decide_eq_false (Nat.not_lt.mpr hlen)]
  rfl

/-- A frame of channel 0 is received as a packet (R790). -/
theorem exec_cabenSaetteFrame_taken {u : State} {ws : List TWord} (hnone : s.cab.saOut = []) (hen : s.rf F.CABEN_CTL_SAETTE_EN 0 = 1)
    (hboot : s.bootSm = false) (hready : s.cab.ready = true) (htake : s.takeFrame (s.sc 0).ready [] = some (ws, u)) :
    exec .cabenSaetteFrame s = .next (((u.rxView 0).closeIfEmpty 0).cabReceive 2 none (bytesOf ws (6 * ws.length))) := by
  change execCabenSaetteFrame s = _
  unfold execCabenSaetteFrame
  rw [State.saPump_empty hnone]
  dsimp only
  rw [hboot, hready, State.rb_of_rf_one hen, if_neg (by decide), htake]

theorem exec_cabenSaetteFrame_off (hnone : s.cab.saOut = []) (hen : s.rf F.CABEN_CTL_SAETTE_EN 0 = 0) :
    exec .cabenSaetteFrame s = .next s := by
  change execCabenSaetteFrame s = _
  unfold execCabenSaetteFrame
  rw [State.saPump_empty hnone]
  dsimp only
  rw [State.rb_of_rf_zero hen, Bool.not_false, Bool.or_true, if_pos rfl]

/-! ## Timeouts -/

theorem exec_cabenTimeout_early {tr tag lim : Nat} {b : Bool} {p : CabPkt} (hp : s.cabPkt tr tag = some p) (hinfo : opInfo p.op = some (lim, b))
    (hearly : (s.now + 2 ^ 48 - p.since) % 2 ^ 48 < lim) : exec (.cabenTimeout tr tag) s = .next s := by
  change execCabenTimeout tr tag s = _
  unfold execCabenTimeout
  rw [hp]
  dsimp only
  rw [hinfo]
  exact congrArg Host.Outcome.next (if_pos hearly)

theorem exec_cabenTimeout_late {tr tag lim : Nat} {b : Bool} {p : CabPkt} (hp : s.cabPkt tr tag = some p) (hnew : p.started = false)
    (hinfo : opInfo p.op = some (lim, b)) (hlate : ¬ (s.now + 2 ^ 48 - p.since) % 2 ^ 48 < lim) :
    exec (.cabenTimeout tr tag) s = .next (((s.cabFinish p 9 0 []).incE F.CABEN_TIMEOUT_CNT_COUNT 0).raise .cabenTimeout 0 0) := by
  have hcancels : s.cabCancels p = true := by
    unfold State.cabCancels
    rw [hnew]
    rfl
  have hdrop : s.cabDrop p = s := by
    unfold State.cabDrop
    rw [hnew]
    rfl
  change execCabenTimeout tr tag s = _
  unfold execCabenTimeout
  rw [hp]
  dsimp only
  rw [hinfo, hcancels, hdrop]
  exact congrArg Host.Outcome.next (if_neg hlate)

/-! ## CABEN_CTL -/

theorem State.udpClear_spec (s t : State) (ht : s.udpClear = t) :
    t.cab = { s.cab with txCtr := 0, rxCtr := 0 } ∧ t = { s with regs := t.regs, cab := t.cab } ∧ RegsKept s t [⟨.CABEN_STAT, 0, 0, 0⟩] := by
  obtain ⟨u, hu⟩ : ∃ u, u = s.setCab { s.cab with txCtr := 0, rxCtr := 0 } := ⟨_, rfl⟩
  have hut : OnlyRegs u t [⟨.CABEN_STAT, 0, 0, 0⟩] := by
    rw [← ht, hu]
    exact (OnlyRegs.refl _ _).wf F.CABEN_STAT_UDP_EXHAUSTED _ _ _ _ (.head _)
  have hframe : t = { s with regs := t.regs, cab := { s.cab with txCtr := 0, rxCtr := 0 } } := by
    rw [hut.1, hu]
    rfl
  have hcab := congrArg State.cab hframe
  exact ⟨hcab, by rw [hcab]; exact hframe, fun q hq => (hut.2 q hq).trans (hu ▸ State.setCab_reg ..)⟩

/-- A write of CABEN_CTL while UDP_EN is 0 stores every field (R787, R788). -/
theorem State.writeCaben_off {s : State} {w : Nat} (hen : s.rf F.CABEN_CTL_UDP_EN 0 = 0) (hfuse : s.cfg.fuses.secureEn = false) (t : State)
    (ht : s.writeCaben 0 w = t) :
    t.rf F.CABEN_CTL_UDP_PORT 0 = bits w 47 32 ∧ t.rf F.CABEN_CTL_UDP_EN 0 = bits w 1 1 ∧ t.rf F.CABEN_CTL_SAETTE_EN 0 = bits w 2 2 ∧
      t.rf F.CABEN_CTL_UDP_SECURE 0 = bits w 4 4 ∧ t.rf F.CABEN_CTL_UDP_KEY_SLOT 0 = bits w 12 8 ∧
      t.cab = { s.cab with txCtr := 0, rxCtr := 0 } ∧ t = { s with regs := t.regs, cab := t.cab } ∧
      RegsKept s t [⟨.CABEN_CTL, 0, 0, 0⟩, ⟨.CABEN_STAT, 0, 0, 0⟩] := by
  obtain ⟨u, hu⟩ : ∃ u, u = (((s.wf F.CABEN_CTL_UDP_PORT (bits w 47 32) 0).wf F.CABEN_CTL_SAETTE_EN (bits w 2 2) 0).wf
    F.CABEN_CTL_UDP_KEY_SLOT (bits w 12 8) 0).wf F.CABEN_CTL_UDP_SECURE (bits w 4 4) 0 := ⟨_, rfl⟩
  have hsu : OnlyRegs s u [⟨.CABEN_CTL, 0, 0, 0⟩] := by
    rw [hu]
    exact ((((OnlyRegs.refl s _).wf F.CABEN_CTL_UDP_PORT _ _ _ _ (.head _)).wf F.CABEN_CTL_SAETTE_EN _ _ _ _ (.head _)).wf
      F.CABEN_CTL_UDP_KEY_SLOT _ _ _ _ (.head _)).wf F.CABEN_CTL_UDP_SECURE _ _ _ _ (.head _)
  have hport : u.rf F.CABEN_CTL_UDP_PORT 0 = bits w 47 32 := by
    rw [hu, State.rf_wf_apart _ _ _ _ _ _ _ _ _ _ rfl rfl, State.rf_wf_apart _ _ _ _ _ _ _ _ _ _ rfl rfl,
      State.rf_wf_apart _ _ _ _ _ _ _ _ _ _ rfl rfl]
    exact State.rf_wf_fits _ F.CABEN_CTL_UDP_PORT _ _ _ _ rfl (bits_lt w 47 32)
  have hsaette : u.rf F.CABEN_CTL_SAETTE_EN 0 = bits w 2 2 := by
    rw [hu, State.rf_wf_apart _ _ _ _ _ _ _ _ _ _ rfl rfl, State.rf_wf_apart _ _ _ _ _ _ _ _ _ _ rfl rfl]
    exact State.rf_wf_fits _ F.CABEN_CTL_SAETTE_EN _ _ _ _ rfl (bits_lt w 2 2)
  have hslot : u.rf F.CABEN_CTL_UDP_KEY_SLOT 0 = bits w 12 8 := by
    rw [hu, State.rf_wf_apart _ _ _ _ _ _ _ _ _ _ rfl rfl]
    exact State.rf_wf_fits _ F.CABEN_CTL_UDP_KEY_SLOT _ _ _ _ rfl (bits_lt w 12 8)
  have hsecure : u.rf F.CABEN_CTL_UDP_SECURE 0 = bits w 4 4 := hu ▸ State.rf_wf_fits _ F.CABEN_CTL_UDP_SECURE _ _ _ _ rfl (bits_lt w 4 4)
  obtain ⟨v, hv⟩ : ∃ v, u.udpClear = v := ⟨_, rfl⟩
  obtain ⟨hcab, hframe, hkept⟩ := u.udpClear_spec v hv
  have hoff : s.rb F.CABEN_CTL_UDP_EN 0 = false := State.rb_of_rf_zero hen
  have hcfg : ((s.wf F.CABEN_CTL_UDP_PORT (bits w 47 32) 0).wf F.CABEN_CTL_SAETTE_EN (bits w 2 2) 0).cfg.fuses.secureEn = false := by
    rw [State.wf_cfg, State.wf_cfg, hfuse]
  have hstep : t = v.wf F.CABEN_CTL_UDP_EN (bits w 1 1) 0 := by
    rw [← ht]
    unfold State.writeCaben
    dsimp only
    rw [if_neg (by decide), hoff, if_neg Bool.false_ne_true, hcfg, if_neg Bool.false_ne_true, ← hu, hv, Bool.false_and,
      if_neg Bool.false_ne_true]
  have hvt : OnlyRegs v t [⟨.CABEN_CTL, 0, 0, 0⟩] := hstep ▸ (OnlyRegs.refl v _).wf F.CABEN_CTL_UDP_EN _ _ _ _ (.head _)
  have hvrf : ∀ f : Fld, f.reg = .CABEN_CTL → v.rf f 0 = u.rf f 0 := fun f hf => congrArg f.get (hkept _ (by simp [hf]))
  have htrf : ∀ f : Fld, f.reg = .CABEN_CTL → F.CABEN_CTL_UDP_EN.apart f = true → t.rf f 0 = u.rf f 0 := fun f hf hap => by
    rw [hstep, State.rf_wf_apart _ _ _ _ _ _ _ _ _ _ rfl hap, hvrf f hf]
  have hucab : u.cab = s.cab := by rw [hsu.1]
  have htcab : t.cab = v.cab := by rw [hvt.1]
  refine ⟨(htrf _ rfl rfl).trans hport, hstep ▸ State.rf_wf_fits _ F.CABEN_CTL_UDP_EN _ _ _ _ rfl (bits_lt w 1 1), (htrf _ rfl rfl).trans hsaette,
    (htrf _ rfl rfl).trans hsecure, (htrf _ rfl rfl).trans hslot, by rw [htcab, hcab, hucab], ?_, fun q hq => ?_⟩
  · rw [hvt.1, hframe, hsu.1]
  · obtain ⟨hctl, hstat⟩ : q ≠ ⟨.CABEN_CTL, 0, 0, 0⟩ ∧ q ≠ ⟨.CABEN_STAT, 0, 0, 0⟩ := by simpa using hq
    rw [hvt.2 q (by simpa using hctl), hkept q (by simpa using hstat), hsu.2 q (by simpa using hctl)]

end

/-! ## The statement -/

/-- Settles O54, packet by packet: what each transfer, datagram, frame and opcode leaves. -/
theorem cabenTakesPacketsAndReplies : Obligations.CabenTakesPacketsAndReplies := by
  unfold Obligations.CabenTakesPacketsAndReplies
  refine ⟨?send, ?refuse, ?version, ?fetchWhole, ?fetchPart, ?status, ?arp, ?dropped, ?datagram, ?off, ?frame, ?echoSpi, ?echoUdp,
    ?echoSaette, ?echoNone, ?identify, ?again, ?abort, ?abortGone, ?timeoutMute, ?timeout, ?ctl, ?keys⟩
  case send =>
    intro s bs ps op tag hroom hpkt hop htag hps hnone hversion hboot hknown hstart hstream hcheck
    subst hop htag hps
    obtain ⟨u, hu⟩ : ∃ u, s.spiMiso (s.spiByte :: List.replicate bs.length 0) = u := ⟨_, rfl⟩
    have hframe : u = { s with cab := { s.cab with frameErr := false, miso := s.spiByte :: List.replicate bs.length 0 } } := by
      rw [← hu]
      rfl
    have hstate : u.cab.pkts = s.cab.pkts ∧ u.bootSm = s.bootSm ∧ u.now = s.now := by rw [hframe]; exact ⟨rfl, rfl, rfl⟩
    obtain ⟨hpkts, hub, hnow⟩ := hstate
    have hrec := State.cabReceive_outstanding (s := u) (peer := none) hpkt (by rw [hpkts]; exact hnone) hversion (hub.trans hboot) hknown hstart
      hstream hcheck
    have hexec : exec (.send bs) s = .next (u.cabReceive 0 none bs) := by
      rw [← hu]
      exact congrArg Host.Outcome.next (if_pos hroom)
    rw [hrec, hnow] at hexec
    refine ⟨_, hexec, ?_, ?_⟩
    · rw [hframe]
      rfl
    · rw [hframe]
      rfl
  case refuse =>
    intro s bs hbad hcnt
    obtain ⟨u, hu⟩ : ∃ u, s.spiMiso (s.spiByte :: List.replicate bs.length 0) = u := ⟨_, rfl⟩
    have hframe : u = { s with cab := { s.cab with frameErr := false, miso := s.spiByte :: List.replicate bs.length 0 } } := by
      rw [← hu]
      rfl
    have hreg : ∀ q, u.reg q = s.reg q := fun q => by rw [hframe]; rfl
    have hcount : u.rf F.CABEN_FRAME_ERR_CNT_COUNT 0 = s.rf F.CABEN_FRAME_ERR_CNT_COUNT 0 := congrArg (Fld.get _) (hreg _)
    obtain ⟨t, ht⟩ : ∃ t, u.cabFrameErr 0 = t := ⟨_, rfl⟩
    obtain ⟨hcab, herr, hline, htframe, hkept⟩ := u.cabFrameErr_spi (hcount ▸ hcnt) t ht
    have hexec : exec (.send bs) s = .next t := by
      change Host.Outcome.next (if s.spiRoom then (s.spiMiso (s.spiByte :: List.replicate bs.length 0)).cabReceive 0 none bs
        else (s.spiMiso (s.spiByte :: List.replicate bs.length 0)).cabFrameErr 0) = _
      rw [hu]
      rcases hbad with hroom | hpkt
      · rw [hroom, if_neg Bool.false_ne_true, ht]
      · rw [State.cabReceive_bad hpkt, ht]
        split
        · rfl
        · rfl
    have huline : u.faultLine = s.faultLine := by rw [hframe]
    refine ⟨t, hexec, by rw [hcab, hframe], herr.trans (congrArg (· + 1) hcount), by rw [hline, huline], ?_, fun q hq => (hkept q hq).trans (hreg q)⟩
    rw [htframe, hframe]
  case version =>
    intro s bs hroom hpkt hnone hversion
    obtain ⟨u, hu⟩ : ∃ u, s.spiMiso (s.spiByte :: List.replicate bs.length 0) = u := ⟨_, rfl⟩
    have hframe : u = { s with cab := { s.cab with frameErr := false, miso := s.spiByte :: List.replicate bs.length 0 } } := by
      rw [← hu]
      rfl
    have hpkts : u.cab.pkts = s.cab.pkts := by rw [hframe]
    have hrec := State.cabReceive_version (s := u) (peer := none) hpkt (by rw [hpkts]; exact hnone) hversion
    have hexec : exec (.send bs) s = .next (u.cabReceive 0 none bs) := by
      rw [← hu]
      exact congrArg Host.Outcome.next (if_pos hroom)
    obtain ⟨k, hkeep⟩ := (u.setCab { u.cab with replies := u.cab.replies ++ [cabPacket (bs.getD 2 0) (bs.getD 3 0) 2 0 []] }).cabKeep_frame 0
      (bs.getD 3 0) (cabPacket (bs.getD 2 0) (bs.getD 3 0) 2 0 [])
    have hanswer : u.cabAnswer 0 (bs.getD 3 0) (bs.getD 2 0) none 2 0 [] = (u.setCab { u.cab with
        replies := u.cab.replies ++ [cabPacket (bs.getD 2 0) (bs.getD 3 0) 2 0 []] }).cabKeep 0 (bs.getD 3 0)
        (cabPacket (bs.getD 2 0) (bs.getD 3 0) 2 0 []) := rfl
    rw [hrec, hanswer, hkeep] at hexec
    refine ⟨_, hexec, ?_, ?_, ?_⟩
    · rw [hframe]
      rfl
    · rw [hframe]
      rfl
    · rw [hframe]
      rfl
  case fetchWhole => exact fun s n r rest hq hne hlen => ⟨_, exec_fetch_whole hq hne hlen, rfl, rfl⟩
  case fetchPart => exact fun s n hlen => ⟨_, exec_fetch_part hlen, rfl, rfl⟩
  case status => exact fun s n => ⟨_, rfl, rfl, rfl⟩
  case arp =>
    intro s m p i
    refine ⟨_, rfl, ?_⟩
    by_cases hserved : s.udpServed = true ∧ i = s.rf F.CABEN_IP_ADDR 0
    · have hgo : (s.udpServed && decide (i = s.rf F.CABEN_IP_ADDR 0)) = true := by
        rw [hserved.1, decide_eq_true hserved.2]
        rfl
      rw [if_pos hserved, if_pos hgo]
      exact ⟨rfl, rfl⟩
    · have hno : ¬ (s.udpServed && decide (i = s.rf F.CABEN_IP_ADDR 0)) = true := by simpa using hserved
      rw [if_neg hserved, if_neg hno, List.append_nil]
      exact ⟨rfl, rfl⟩
  case dropped => exact fun s d h => ⟨s, exec_udpDatagram_dropped h, rfl⟩
  case datagram =>
    intro s d ps op tag hserved hplain hmac hip hport hlen hleft hopen hfuse hpkt hop htag hps hnone hversion hknown hstart hstream hcheck
    subst hop htag hps
    have hboot : s.bootSm = false := by
      unfold State.udpServed at hserved
      simp only [Bool.and_eq_true, Bool.not_eq_true'] at hserved
      exact hserved.1.1.2
    have hrec := State.cabReceive_outstanding (s := s) (peer := some ⟨d.srcMac, d.vlan, d.srcIp, d.srcPort⟩) hpkt hnone hversion hboot hknown hstart
      hstream hcheck
    exact ⟨_, (exec_udpDatagram_plain hserved hplain hmac hip hport hlen hleft hopen hfuse).trans (congrArg Host.Outcome.next hrec), rfl⟩
  case off => exact fun s hnone hen => ⟨s, exec_cabenSaetteFrame_off hnone hen, rfl⟩
  case frame =>
    intro s u ws b ps op tag hout hen hboot hready htake hb hpkt hop htag hps hnone hversion hknown hstart hstream hcheck
    subst hb hop htag hps
    have hexec := exec_cabenSaetteFrame_taken hout hen hboot hready htake
    have hsu := State.takeFrame_kept htake
    obtain ⟨hview, hmem⟩ := u.frameTaken_kept
    obtain ⟨v, hv⟩ : ∃ v, (u.rxView 0).closeIfEmpty 0 = v := ⟨_, rfl⟩
    rw [hv] at hexec hview hmem
    obtain ⟨hcab, hnames⟩ := hsu.trans hview
    have hvboot : v.bootSm = false := by
      unfold State.bootSm State.rb at hboot ⊢
      rwa [hnames.rf _ _ _ _ (by decide)]
    have hnow : v.now = s.now := State.now_kept hnames (by decide)
    have hrec := State.cabReceive_outstanding (s := v) (peer := none) hpkt (by rw [hcab]; exact hnone) hversion hvboot hknown hstart hstream hcheck
    rw [hrec, hnow, hcab] at hexec
    exact ⟨_, hexec, rfl, hmem⟩
  case echoSpi =>
    intro s tag p hp hmute hboot
    obtain ⟨hpkt, hop, -⟩ := State.cabNew_some hp
    obtain ⟨htr, htag, -⟩ := State.cabPkt_some hpkt
    have hexec : exec (.echo 0 tag) s = .next (s.cabFinish p 0 0 p.params) := congrArg Host.Outcome.next (cabRow_new hp _)
    obtain ⟨u, hu⟩ : ∃ u, (s.pktEnded p).cabSend 0 p.peer (cabPacket 0 tag 0 0 p.params) = u := ⟨_, rfl⟩
    have hframe : u = { s with cab := { s.cab with
        pkts := s.cab.pkts.filter (fun q => !(q.tr == p.tr && q.tag == p.tag)), replies := s.cab.replies ++ [cabPacket 0 tag 0 0 p.params] } } := by
      rw [← hu]
      rfl
    have huboot : u.bootSm = false := by rw [hframe]; exact hboot
    rw [State.cabFinish_reply hmute (by decide), hop, htag, htr, hu, State.cabKeep_sixteen huboot] at hexec
    refine ⟨_, _, hexec, rfl, ?_, ?_⟩
    · rw [hframe, htr, htag]
      rfl
    · rw [hframe]
      rfl
  case echoUdp =>
    intro s tag p a hp hmute hpeer hen hleft hplain
    obtain ⟨hpkt, hop, -⟩ := State.cabNew_some hp
    obtain ⟨htr, htag, -⟩ := State.cabPkt_some hpkt
    have hexec : exec (.echo 1 tag) s = .next (s.cabFinish p 0 0 p.params) := congrArg Host.Outcome.next (cabRow_new hp _)
    have hsend := State.cabSend_udp (s := s.pktEnded p) (a := a) hen hleft hplain (cabPacket 0 tag 0 0 p.params)
    obtain ⟨u, hu⟩ : ∃ u, (s.pktEnded p).cabSend 1 (some a) (cabPacket 0 tag 0 0 p.params) = u := ⟨_, rfl⟩
    have hframe : u = { s with cab := { s.cab with
        pkts := s.cab.pkts.filter (fun q => !(q.tr == p.tr && q.tag == p.tag)), udpOut := s.cab.udpOut ++ [(a, cabPacket 0 tag 0 0 p.params)] } } := by
      rw [← hu, hsend]
      rfl
    obtain ⟨k, hkeep⟩ := u.cabKeep_frame 1 tag (cabPacket 0 tag 0 0 p.params)
    rw [State.cabFinish_reply hmute (by decide), hop, htag, htr, hpeer, hu, hkeep] at hexec
    refine ⟨_, hexec, ?_, ?_, ?_⟩
    · rw [hframe]
      rfl
    · rw [hframe, htr, htag]
      rfl
    · rw [hframe]
      rfl
  case echoSaette =>
    intro s tag p hp hmute hclosed
    obtain ⟨hpkt, hop, -⟩ := State.cabNew_some hp
    obtain ⟨htr, htag, -⟩ := State.cabPkt_some hpkt
    have hexec : exec (.echo 2 tag) s = .next (s.cabFinish p 0 0 p.params) := congrArg Host.Outcome.next (cabRow_new hp _)
    have hsend := State.cabSend_saette (s := s.pktEnded p) (peer := p.peer) hclosed (cabPacket 0 tag 0 0 p.params)
    obtain ⟨u, hu⟩ : ∃ u, (s.pktEnded p).cabSend 2 p.peer (cabPacket 0 tag 0 0 p.params) = u := ⟨_, rfl⟩
    have hframe : u = { s with cab := { s.cab with
        pkts := s.cab.pkts.filter (fun q => !(q.tr == p.tr && q.tag == p.tag)), saOut := s.cab.saOut ++ [cabPacket 0 tag 0 0 p.params] } } := by
      rw [← hu, hsend]
      rfl
    obtain ⟨k, hkeep⟩ := u.cabKeep_frame 2 tag (cabPacket 0 tag 0 0 p.params)
    rw [State.cabFinish_reply hmute (by decide), hop, htag, htr, hu, hkeep] at hexec
    refine ⟨_, hexec, ?_, ?_, ?_⟩
    · rw [hframe]
      rfl
    · rw [hframe, htr, htag]
      rfl
    · rw [hframe]
      rfl
  case echoNone => exact fun s tr tag h => ⟨s, congrArg Host.Outcome.next (cabRow_none h _), rfl⟩
  case identify => exact fun s tr tag p hp => ⟨_, congrArg Host.Outcome.next (cabRow_new hp _), rfl, rfl, rfl⟩
  case again =>
    intro s tr tag p hp
    refine ⟨_, congrArg Host.Outcome.next (cabRow_new hp _), fun k hk hfits => ?_, fun hnone => ?_⟩
    · rw [hk]
      exact if_neg (Nat.not_lt.mpr hfits)
    · rw [hnone]
  case abort =>
    intro s tr tag u p q hp hu hne hq hnew
    subst hu
    have hcancels : s.cabCancels q = true := by
      unfold State.cabCancels
      rw [hnew]
      rfl
    have hdata : q.cancelData = q.data := by
      unfold CabPkt.cancelData
      rw [hnew]
      split
      · next hwrite =>
        unfold CabPkt.data
        rw [hwrite]
        rfl
      · rfl
    have hcancel : s.cabCancel q = s.cabFinish q 0x0A 0 q.data := by
      unfold State.cabCancel State.cabDrop
      rw [hnew, hdata]
      rfl
    have hgo : (decide (p.params.getD 0 0 ≠ tag) && s.cabCancels q) = true := by
      rw [decide_eq_true hne, hcancels]
      rfl
    refine ⟨_, congrArg Host.Outcome.next (cabRow_new hp _), ?_⟩
    dsimp only
    rw [hq]
    dsimp only
    rw [if_pos hgo, hcancel]
  case abortGone =>
    intro s tr tag p hp hnone
    refine ⟨_, congrArg Host.Outcome.next (cabRow_new hp _), fun hkept => ?_, fun hkept => ?_⟩
    · dsimp only
      rw [hnone]
      exact if_pos hkept
    · dsimp only
      rw [hnone]
      exact if_neg (Bool.eq_false_iff.mp hkept)
  case timeoutMute =>
    intro s tr tag lim b p hp hnew hinfo hpast hover hlate hmute hcnt
    have hexec := exec_cabenTimeout_late hp hnew hinfo (by rw [elapsed_mod hpast hover]; exact Nat.not_lt.mpr hlate)
    obtain ⟨u, hu⟩ : ∃ u, s.pktEnded p = u := ⟨_, rfl⟩
    obtain ⟨v, hv⟩ : ∃ v, v = u.incE F.CABEN_TIMEOUT_CNT_COUNT 0 := ⟨_, rfl⟩
    rw [State.cabFinish_mute hmute, hu, ← hv] at hexec
    have huv : OnlyRegs u v [⟨.CABEN_TIMEOUT_CNT, 0, 0, 0⟩] := hv ▸ (OnlyRegs.refl u _).incE F.CABEN_TIMEOUT_CNT_COUNT _ _ _ _ (.head _)
    have hureg : ∀ q, u.reg q = s.reg q := fun q => hu ▸ State.setCab_reg ..
    have hold : u.rf F.CABEN_TIMEOUT_CNT_COUNT 0 = s.rf F.CABEN_TIMEOUT_CNT_COUNT 0 := congrArg (Fld.get _) (hureg _)
    have hframe : v = { s with regs := v.regs, cab := { s.cab with pkts := s.cab.pkts.filter fun q => !(q.tr == p.tr && q.tag == p.tag) } } := by
      rw [huv.1, ← hu]
      rfl
    have hline : v.faultLine = s.faultLine := by rw [hframe]
    refine ⟨_, hexec, congrArg State.cab hframe, ?_, congrArg (· ++ [_]) hline, ?_, fun q hq => (huv.2 q hq).trans (hureg q)⟩
    · rw [State.raise_rf, hv, State.rf_incE_one rfl rfl (hold ▸ hcnt), hold]
    · obtain ⟨l, hlast⟩ : ∃ l, v.raise .cabenTimeout 0 0 = { v with faultLine := l } := ⟨_, rfl⟩
      rw [hlast, hframe]
  case timeout =>
    intro s tr tag p hp hnew
    have hnow : s.now < 2 ^ 48 := (s.reg (reg0 .TB_TIME)).isLt
    obtain ⟨t, ht⟩ : ∃ t, exec (.cabenTimeout tr tag) s = .next t := ⟨_, rfl⟩
    refine ⟨t, ht, fun lim b hinfo hpast _ hlate => ?_, fun lim b hinfo hpast hearly => ?_⟩
    · refine Host.Outcome.next.inj (ht.symm.trans (exec_cabenTimeout_late hp hnew hinfo ?_))
      rw [elapsed_mod hpast (lt_of_le_of_lt (Nat.sub_le _ _) hnow)]
      exact Nat.not_lt.mpr hlate
    · refine Host.Outcome.next.inj (ht.symm.trans (exec_cabenTimeout_early hp hinfo ?_))
      rwa [elapsed_mod hpast (lt_of_le_of_lt (Nat.sub_le _ _) hnow)]
  case ctl =>
    intro s w htag hen hfuse
    obtain ⟨t, ht⟩ : ∃ t, s.writeCaben 0 w.data.toNat = t := ⟨_, rfl⟩
    obtain ⟨hport, hudp, hsaette, hsecure, hslot, hcab, hframe, hkept⟩ := State.writeCaben_off hen hfuse t ht
    have hexec : exec (.cabenCtlWrite 0 w) s = .next t := by
      rw [← ht]
      exact congrArg Host.Outcome.next (if_pos htag)
    exact ⟨t, hexec, hport, hudp, hsaette, hsecure, hslot, hcab, hframe, hkept⟩
  case keys =>
    intro s k w htag hk hen
    refine ⟨s, ?_, rfl⟩
    change execCabenCtlWrite k w s = _
    unfold execCabenCtlWrite State.writeCaben
    dsimp only
    rw [State.rb_of_rf_one hen, if_pos htag]
    rcases hk with rfl | rfl
    · rfl
    · rfl

end Sys2Proof.Machine
end

section
/-!
SUPPORT. Caben's accesses to memory and streams, its loads, starts and resets: proof of the statement O55.
-/
namespace Sys2Proof.Machine

/-! ## The first packet of a transport -/

section
variable {s : State} {tr tag : Nat} {p q : CabPkt} {rest : List CabPkt}

theorem State.cabPkt_head (hpkts : s.cab.pkts = p :: rest) (htr : p.tr = tr) (htag : p.tag = tag) : s.cabPkt tr tag = some p := by
  unfold State.cabPkt
  rw [hpkts, htr.symm, htag.symm]
  exact List.find?_cons_of_pos (by simp)

/-- The first packet replaced, where no other has its transport and tag. -/
theorem State.setPkt_head (hpkts : s.cab.pkts = p :: rest) (htr : p.tr = q.tr) (htag : p.tag = q.tag)
    (hrest : ∀ r, r ∈ rest → ¬(r.tr = q.tr ∧ r.tag = q.tag)) : s.setPkt q = s.setCab { s.cab with pkts := q :: rest } := by
  have hmap : (s.cab.pkts.map fun r => if r.tr = q.tr ∧ r.tag = q.tag then q else r) = q :: rest := by
    rw [hpkts, List.map_cons, if_pos ⟨htr, htag⟩]
    congr 1
    exact (List.map_congr_left fun r hr => if_neg (hrest r hr)).trans (List.map_id _)
  unfold State.setPkt
  rw [hmap]

/-- The first packet is behind no other (R820). -/
theorem State.cabBehind_head (hpkts : s.cab.pkts = p :: rest) : s.cabBehind p = false := by
  have hout : s.cabOut p.tr = p :: rest.filter fun r => r.tr == p.tr := by
    unfold State.cabOut
    rw [hpkts]
    exact List.filter_cons_of_pos (beq_self_eq_true _)
  have htake : ((s.cabOut p.tr).takeWhile fun r => r.tag != p.tag) = [] := by
    rw [hout]
    exact List.takeWhile_cons_of_neg (by simp)
  unfold State.cabBehind
  rw [htake]
  rfl

/-- A packet behind a serial one waits (R820). -/
theorem State.cabBehind_serial (hpkts : s.cab.pkts = [q, p]) (htr : q.tr = p.tr) (htag : q.tag ≠ p.tag) (hserial : serialOp q.op = true) :
    s.cabBehind p = true := by
  have hout : s.cabOut p.tr = [q, p] := by
    unfold State.cabOut
    rw [hpkts]
    simp [htr]
  have htake : ((s.cabOut p.tr).takeWhile fun r => r.tag != p.tag) = [q] := by
    rw [hout]
    simp [htag]
  unfold State.cabBehind
  rw [htake]
  simp [hserial]

/-- A packet put in its own place is found there. -/
theorem State.cabPkt_setPkt (hp : s.cabPkt tr tag = some p) : (s.setPkt p).cabPkt tr tag = some p := by
  obtain ⟨htr, htag, -⟩ := State.cabPkt_some hp
  subst htr htag
  change (s.cab.pkts.map fun r => if r.tr = p.tr ∧ r.tag = p.tag then p else r).find? (fun r => r.tr == p.tr && r.tag == p.tag) = some p
  change s.cab.pkts.find? (fun r => r.tr == p.tr && r.tag == p.tag) = some p at hp
  generalize s.cab.pkts = pkts at hp ⊢
  induction pkts with
  | nil => exact absurd hp nofun
  | cons r l ih =>
    rw [List.map_cons]
    by_cases hr : r.tr = p.tr ∧ r.tag = p.tag
    · rw [if_pos hr]
      exact List.find?_cons_of_pos (by simp)
    · have hno : ¬ (r.tr == p.tr && r.tag == p.tag) = true := by simpa using hr
      have hskip : ∀ m : List CabPkt, (r :: m).find? (fun x => x.tr == p.tr && x.tag == p.tag) = m.find? fun x => x.tr == p.tr && x.tag == p.tag :=
        fun m => List.find?_cons_of_neg hno
      rw [if_neg hr, hskip]
      exact ih ((hskip l).symm.trans hp)

/-- A packet that ends is gone however it stood. -/
theorem State.cabFinish_setPkt (s : State) (htr : q.tr = p.tr) (htag : q.tag = p.tag) (status detail : Nat) (data : List Nat) :
    (s.setPkt q).cabFinish p status detail data = s.cabFinish p status detail data := by
  have hgone : ((s.setPkt q).cab.pkts.filter fun r => !(r.tr == p.tr && r.tag == p.tag)) =
      s.cab.pkts.filter fun r => !(r.tr == p.tr && r.tag == p.tag) := by
    change ((s.cab.pkts.map fun r => if r.tr = q.tr ∧ r.tag = q.tag then q else r).filter _) = _
    induction s.cab.pkts with
    | nil => rfl
    | cons r l ih =>
      rw [List.map_cons]
      by_cases hr : r.tr = q.tr ∧ r.tag = q.tag
      · have hout : ¬ (!(r.tr == p.tr && r.tag == p.tag)) = true := by simp [hr.1, hr.2, htr, htag]
        have hqout : ¬ (!(q.tr == p.tr && q.tag == p.tag)) = true := by simp [htr, htag]
        rw [if_pos hr, List.filter_cons, List.filter_cons, if_neg hqout, if_neg hout, ih]
      · rw [if_neg hr, List.filter_cons, List.filter_cons, ih]
  have hended : (s.setPkt q).pktEnded p = s.pktEnded p := by
    unfold State.pktEnded
    rw [hgone]
    rfl
  unfold State.cabFinish
  exact congrArg (fun u : State => if p.mute then u else u.cabAnswer p.tr p.tag p.op p.peer status detail data) hended

end

/-! ## Accesses to memory -/

/-- A request of a master under read tag `x.rtag` (R481). -/
def State.issued (s : State) (x : Txn) : State := { s.inject x with outst := s.outst ++ [⟨x, false, false⟩] }

section
variable {s : State} {tr tag op g : Nat} {p : CabPkt}

/-- A READ or WRITE that is first in its turn starts (R820). -/
theorem State.cabMem_turn (hp : s.cabPkt tr tag = some p) (hop : p.op = op) (hturn : p.started = true ∨ s.cabBehind p = false) :
    s.cabMem op tr tag = ((s.setPkt { p with started := true }).cabIssue 600 tr tag).cabMemEnd tr tag := by
  have hgo : ¬ (decide (p.op ≠ op) || (!p.started && s.cabBehind p)) = true := by
    rw [decide_eq_false (not_not.mpr hop)]
    rcases hturn with h | h
    · rw [h, Bool.not_true, Bool.false_and]
      decide
    · rw [h, Bool.and_false]
      decide
  unfold State.cabMem
  rw [hp]
  exact if_neg hgo

/-- A packet that has asked for every word asks for no more. -/
theorem State.cabIssue_done (hp : s.cabPkt tr tag = some p) (hall : parNat p.params 6 2 ≤ p.next) (n : Nat) : s.cabIssue (n + 1) tr tag = s := by
  rw [State.cabIssue, hp]
  dsimp only
  rw [decide_eq_true hall, Bool.or_true, if_pos rfl]

/-- While a read is not answered a READ or WRITE does not end. -/
theorem State.cabMemEnd_waits (hp : s.cabPkt tr tag = some p) (hreads : p.reads ≠ []) : s.cabMemEnd tr tag = s := by
  have hwait : (!p.reads.isEmpty) = true := by
    cases h : p.reads with
    | nil => exact absurd h hreads
    | cons a l => rfl
  unfold State.cabMemEnd
  rw [hp]
  exact if_pos hwait

theorem block_whole {a c : Nat} (hfits : a % 64 + c ≤ 64) : min (64 - a % 64) (c - 0) = c := by omega

/-- The block of a READ that lies within 64 words is asked for at once (R799). -/
theorem State.cabIssue_read (hp : s.cabPkt tr tag = some p) (hop : p.op = 0x08) (hnext : p.next = 0) (hreads : p.reads = [])
    (hrun : p.cancelled = false) {a c : Nat} (ha : a = parNat p.params 0 6) (hc : c = parNat p.params 6 2) (hone : 1 ≤ c) (hfits : a % 64 + c ≤ 64)
    (hfree : s.freeTag 0 1 = some g) (n : Nat) : s.cabIssue (n + 1) tr tag =
      ((s.issued ⟨.read, 0, 1, g, a, c, 48, 0, [], .requests, 0⟩).setPkt { p with next := c, reads := [(g, 0, c)] }).cabIssue n tr tag := by
  have hgo : ¬ (p.cancelled || decide (c ≤ p.next)) = true := by
    rw [hrun, hnext, decide_eq_false (by omega)]
    decide
  rw [State.cabIssue, hp]
  dsimp only
  rw [← ha, ← hc, if_neg hgo, if_pos hop, hnext, Nat.add_zero, block_whole hfits, State.request_some .read a c [] hfree, hreads, Nat.zero_add]
  rfl

/-- The block of a WRITE that lies within 64 words is written at once, and its last word is read back (R799, R801). -/
theorem State.cabIssue_write (hp : s.cabPkt tr tag = some p) (hop : p.op = 0x09) (hnext : p.next = 0) (hreads : p.reads = [])
    (hrun : p.cancelled = false) {a c : Nat} (ha : a = parNat p.params 0 6) (hc : c = parNat p.params 6 2) (hone : 1 ≤ c) (hfits : a % 64 + c ≤ 64)
    (hfree : s.freeTag 0 1 = some g) (n : Nat) : s.cabIssue (n + 1) tr tag =
      (((s.inject ⟨.write, 0, 1, 0, a, c, 48, 0, (List.range c).map (fun k => parWord p.params 8 k), .posted, 0⟩).issued
        ⟨.read, 0, 1, g, a + (c - 1), 1, 48, 0, [], .requests, 0⟩).setPkt { p with next := c, reads := [(g, c - 1, 1)] }).cabIssue n tr tag := by
  have hgo : ¬ (p.cancelled || decide (c ≤ p.next)) = true := by
    rw [hrun, hnext, decide_eq_false (by omega)]
    decide
  have hwrite : ¬ p.op = 0x08 := by rw [hop]; decide
  have hwords : ((List.range c).map fun j => parWord p.params 8 (0 + j)) = (List.range c).map fun j => parWord p.params 8 j :=
    List.map_congr_left fun j _ => by rw [Nat.zero_add]
  obtain ⟨u, hu⟩ : ∃ u, u = s.post 0 1 a ((List.range c).map fun j => parWord p.params 8 j) := ⟨_, rfl⟩
  have hpost : u = s.inject ⟨.write, 0, 1, 0, a, c, 48, 0, (List.range c).map (fun k => parWord p.params 8 k), .posted, 0⟩ := by
    rw [hu]
    unfold State.post
    rw [List.length_map, List.length_range]
  have hufree : u.freeTag 0 1 = some g := by rw [hpost]; exact hfree
  rw [State.cabIssue, hp]
  dsimp only
  rw [← ha, ← hc, if_neg hgo, if_neg hwrite, hnext, Nat.add_zero, block_whole hfits, hwords, hfree, ← hu, Nat.add_sub_assoc hone,
    State.request_some .read _ _ [] hufree, hreads, Nat.zero_add, hpost]
  rfl

/-- The first packet of its transport starts its READ or WRITE. -/
theorem State.cabMem_head {rest : List CabPkt} (hpkts : s.cab.pkts = p :: rest) (htr : p.tr = tr) (htag : p.tag = tag) (hop : p.op = op)
    (hrest : ∀ r, r ∈ rest → ¬(r.tr = tr ∧ r.tag = tag)) : s.cabMem op tr tag =
      ((s.setCab { s.cab with pkts := { p with started := true } :: rest }).cabIssue 600 tr tag).cabMemEnd tr tag := by
  rw [State.cabMem_turn (State.cabPkt_head hpkts htr htag) hop (.inr (State.cabBehind_head hpkts)),
    State.setPkt_head (q := { p with started := true }) hpkts rfl rfl (by dsimp only; rw [htr, htag]; exact hrest)]

/-- Once every word is asked for and a read is not answered, only the packet has changed. -/
theorem State.cabMem_asked {q : CabPkt} {rest : List CabPkt} (hpkts : s.cab.pkts = q :: rest) (htr : p.tr = tr) (htag : p.tag = tag)
    (hsame : q.tr = p.tr ∧ q.tag = p.tag) (hrest : ∀ r, r ∈ rest → ¬(r.tr = tr ∧ r.tag = tag)) (hall : parNat p.params 6 2 ≤ p.next)
    (hreads : p.reads ≠ []) (n : Nat) : ((s.setPkt p).cabIssue (n + 1) tr tag).cabMemEnd tr tag = s.setCab { s.cab with pkts := p :: rest } := by
  have hset := State.setPkt_head (q := p) hpkts hsame.1 hsame.2 (by rw [htr, htag]; exact hrest)
  have hp : (s.setPkt p).cabPkt tr tag = some p := State.cabPkt_head (rest := rest) (by rw [hset]; rfl) htr htag
  rw [State.cabIssue_done hp hall, State.cabMemEnd_waits hp hreads, hset]

/-- A READ of a block within 64 words (R799). -/
theorem exec_cabenRead_starts {a c : Nat} {rest : List CabPkt} (hpkts : s.cab.pkts = p :: rest) (htr : p.tr = tr) (htag : p.tag = tag)
    (hop : p.op = 0x08) (hnext : p.next = 0) (hreads : p.reads = []) (hrun : p.cancelled = false) (ha : a = parNat p.params 0 6)
    (hc : c = parNat p.params 6 2) (hone : 1 ≤ c) (hfits : a % 64 + c ≤ 64) (hrest : ∀ r, r ∈ rest → ¬(r.tr = tr ∧ r.tag = tag))
    (hfree : s.freeTag 0 1 = some g) : exec (.cabenRead tr tag) s =
      .next ((s.issued ⟨.read, 0, 1, g, a, c, 48, 0, [], .requests, 0⟩).setCab
        { s.cab with pkts := { p with started := true, next := c, reads := [(g, 0, c)] } :: rest }) := by
  obtain ⟨q, hq⟩ : ∃ q : CabPkt, q = { p with started := true } := ⟨_, rfl⟩
  obtain ⟨u, hu⟩ : ∃ u, u = s.setCab { s.cab with pkts := q :: rest } := ⟨_, rfl⟩
  have hupkts : u.cab.pkts = q :: rest := by rw [hu]; rfl
  have hq' : u.cabPkt tr tag = some q := State.cabPkt_head hupkts (by rw [hq]; exact htr) (by rw [hq]; exact htag)
  have hufree : u.freeTag 0 1 = some g := by rw [hu]; exact hfree
  change Host.Outcome.next (s.cabMem 0x08 tr tag) = _
  rw [State.cabMem_head hpkts htr htag hop hrest, ← hq, ← hu, State.cabIssue_read hq' (by rw [hq]; exact hop) (by rw [hq]; exact hnext)
    (by rw [hq]; exact hreads) (by rw [hq]; exact hrun) (by rw [hq]; exact ha) (by rw [hq]; exact hc) hone hfits hufree 599,
    State.cabMem_asked (s := u.issued _) (p := { q with next := c, reads := [(g, 0, c)] }) hupkts (by rw [hq]; exact htr) (by rw [hq]; exact htag) ⟨rfl, rfl⟩ hrest (by rw [hq]; exact hc ▸ le_refl _)
      (List.cons_ne_nil _ _), hu, hq]
  rfl

/-- What a posted write, a request and a change of Caben's state leave. -/
theorem State.inject_issued (s : State) (x y : Txn) (c : Cab) : let t := ((s.inject x).issued y).setCab c
    t.inFlight = s.inFlight ++ [x, y] ∧ t.net = (s.net.enter (.req x)).enter (.req y) ∧ t.outst = s.outst ++ [⟨y, false, false⟩] ∧ t.cab = c ∧
      t = { s with inFlight := t.inFlight, net := t.net, outst := t.outst, cab := t.cab } :=
  ⟨List.append_assoc s.inFlight [x] [y], rfl, rfl, rfl, rfl⟩

/-- A WRITE of a block within 64 words, whose last word is read back (R799, R801). -/
theorem exec_cabenWrite_starts {a c : Nat} {rest : List CabPkt} (hpkts : s.cab.pkts = p :: rest) (htr : p.tr = tr) (htag : p.tag = tag)
    (hop : p.op = 0x09) (hnext : p.next = 0) (hreads : p.reads = []) (hrun : p.cancelled = false) (ha : a = parNat p.params 0 6)
    (hc : c = parNat p.params 6 2) (hone : 1 ≤ c) (hfits : a % 64 + c ≤ 64) (hrest : ∀ r, r ∈ rest → ¬(r.tr = tr ∧ r.tag = tag))
    (hfree : s.freeTag 0 1 = some g) : exec (.cabenWrite tr tag) s =
      .next (((s.inject ⟨.write, 0, 1, 0, a, c, 48, 0, (List.range c).map (fun k => parWord p.params 8 k), .posted, 0⟩).issued
        ⟨.read, 0, 1, g, a + (c - 1), 1, 48, 0, [], .requests, 0⟩).setCab
        { s.cab with pkts := { p with started := true, next := c, reads := [(g, c - 1, 1)] } :: rest }) := by
  obtain ⟨q, hq⟩ : ∃ q : CabPkt, q = { p with started := true } := ⟨_, rfl⟩
  obtain ⟨u, hu⟩ : ∃ u, u = s.setCab { s.cab with pkts := q :: rest } := ⟨_, rfl⟩
  have hupkts : u.cab.pkts = q :: rest := by rw [hu]; rfl
  have hq' : u.cabPkt tr tag = some q := State.cabPkt_head hupkts (by rw [hq]; exact htr) (by rw [hq]; exact htag)
  have hufree : u.freeTag 0 1 = some g := by rw [hu]; exact hfree
  change Host.Outcome.next (s.cabMem 0x09 tr tag) = _
  rw [State.cabMem_head hpkts htr htag hop hrest, ← hq, ← hu, State.cabIssue_write hq' (by rw [hq]; exact hop) (by rw [hq]; exact hnext)
    (by rw [hq]; exact hreads) (by rw [hq]; exact hrun) (by rw [hq]; exact ha) (by rw [hq]; exact hc) hone hfits hufree 599,
    State.cabMem_asked (s := (u.inject _).issued _) (p := { q with next := c, reads := [(g, c - 1, 1)] }) hupkts (by rw [hq]; exact htr) (by rw [hq]; exact htag) ⟨rfl, rfl⟩ hrest
      (by rw [hq]; exact hc ▸ le_refl _) (List.cons_ne_nil _ _), hu, hq]
  rfl

end

/-! ## Streams, loads and starts -/

section
variable {s : State} {tr tag g : Nat} {p : CabPkt}

theorem leBytes_two (n : Nat) : leBytes 2 n = [n % 256, n / 256 % 256] := by
  have hzero : n / 256 ^ 0 = n := by rw [Nat.pow_zero, Nat.div_one]
  change [n / 256 ^ 0 % 256, n / 256 ^ 1 % 256] = _
  rw [hzero, Nat.pow_one]

/-- The next word of a STREAM_READ is asked for (R803). -/
theorem State.cabStreamNext_asks (hp : s.cabPkt tr tag = some p) (hnext : p.next = 0) (hreads : p.reads = []) (hrun : p.cancelled = false)
    (hone : 1 ≤ parNat p.params 2 2) (hfree : s.freeTag 0 1 = some g) : s.cabStreamNext tr tag =
      (s.issued ⟨.read, 0, 1, g, s.glob 0 (0x0F049000 + p.params.getD 0 0 * 0x40), 1, 48, 0, [], .requests, 0⟩).setPkt
        { p with next := 1, reads := [(g, 0, 1)] } := by
  unfold State.cabStreamNext
  rw [hp]
  dsimp only
  rw [hreads, hrun, hnext, if_neg (by decide), if_neg (by decide), if_neg (Nat.not_le.mpr hone), State.request_some .read _ _ [] hfree]
  rfl

/-- A STREAM_READ in its turn is refused while its receive half is not enabled, and else asks for its first word (R803). -/
theorem exec_streamRead_turn (hp : s.cabPkt tr tag = some p) (hop : p.op = 0x10) (hnew : p.started = false) (hturn : s.cabBehind p = false) :
    exec (.streamRead tr tag) s = .next (if !s.rb F.SC_CTL_RX_EN 0 (p.params.getD 0 0) then s.cabFinish p 7 1 []
      else (s.setPkt { p with started := true }).cabStreamNext tr tag) := by
  change execStreamRead tr tag s = _
  unfold execStreamRead
  rw [hp]
  dsimp only
  rw [if_neg (not_not.mpr hop), hnew, hturn, if_neg Bool.false_ne_true, if_neg Bool.false_ne_true]

/-- A STREAM_READ asks for the first word of the receive window of an enabled half (R803). -/
theorem exec_streamRead_starts {rest : List CabPkt} (hpkts : s.cab.pkts = p :: rest) (htr : p.tr = tr) (htag : p.tag = tag) (hop : p.op = 0x10)
    (hnew : p.started = false) (hnext : p.next = 0) (hreads : p.reads = []) (hrun : p.cancelled = false) (hone : 1 ≤ parNat p.params 2 2)
    (hen : s.rf F.SC_CTL_RX_EN 0 (p.params.getD 0 0) = 1) (hrest : ∀ r, r ∈ rest → ¬(r.tr = tr ∧ r.tag = tag)) (hfree : s.freeTag 0 1 = some g) :
    exec (.streamRead tr tag) s =
      .next ((s.issued ⟨.read, 0, 1, g, s.glob 0 (0x0F049000 + p.params.getD 0 0 * 0x40), 1, 48, 0, [], .requests, 0⟩).setCab
        { s.cab with pkts := { p with started := true, next := 1, reads := [(g, 0, 1)] } :: rest }) := by
  obtain ⟨q, hq⟩ : ∃ q : CabPkt, q = { p with started := true } := ⟨_, rfl⟩
  obtain ⟨u, hu⟩ : ∃ u, u = s.setCab { s.cab with pkts := q :: rest } := ⟨_, rfl⟩
  have hstart : s.setPkt q = u := by
    rw [hu]
    exact State.setPkt_head hpkts (by rw [hq]) (by rw [hq]) (by rw [hq]; dsimp only; rw [htr, htag]; exact hrest)
  have hupkts : u.cab.pkts = q :: rest := by rw [hu]; rfl
  have hufree : u.freeTag 0 1 = some g := by rw [hu]; exact hfree
  have hutr : q.tr = tr ∧ q.tag = tag := by rw [hq]; exact ⟨htr, htag⟩
  have hasks := State.cabStreamNext_asks (State.cabPkt_head hupkts hutr.1 hutr.2) (by rw [hq]; exact hnext) (by rw [hq]; exact hreads)
    (by rw [hq]; exact hrun) (by rw [hq]; exact hone) hufree
  rw [exec_streamRead_turn (State.cabPkt_head hpkts htr htag) hop hnew (State.cabBehind_head hpkts), State.rb_of_rf_one hen, Bool.not_true,
    if_neg Bool.false_ne_true, ← hq, hstart, hasks,
    State.setPkt_head (s := u.issued _) (q := { q with next := 1, reads := [(g, 0, 1)] }) hupkts rfl rfl
      (by dsimp only; rw [hutr.1, hutr.2]; exact hrest), hu, hq]
  rfl

/-- A STREAM_WRITE in its turn (R805). -/
theorem exec_streamWrite_turn (hp : s.cabNew tr tag 0x11 = some p) (hturn : s.cabBehind p = false) {c n : Nat} (hc : c = p.params.getD 0 0)
    (hn : n = min (parNat p.params 2 2) (s.txSize c - (s.sc c).txLen)) :
    exec (.streamWrite tr tag) s = .next (if s.rf F.SC_STAT_TX_STATE 0 c ≠ 2 then s.cabFinish p 7 1 []
      else (s.txWords c (0x0F048000 + c * 0x40) ((List.range n).map fun k => parWord p.params 4 k)).cabFinish p 0 0 (leBytes 2 n)) := by
  change execStreamWrite tr tag s = _
  unfold execStreamWrite
  rw [hp]
  dsimp only
  rw [hturn, if_neg Bool.false_ne_true, ← hc, ← hn]

/-- An ATOMIC in its turn (R802). -/
theorem State.cabAtomic_turn {k : Nat} (hp : s.cabNew tr tag 0x0A = some p) (hk : p.params.getD 0 0 = k) (hturn : s.cabBehind p = false)
    (hfree : s.freeTag 0 1 = some g) : s.cabAtomic k tr tag =
      (s.issued ⟨if k = 0 then .add else .swap, 0, 1, g, parNat p.params 2 6, 1, 48, 0, [parWord p.params 8 0], .requests, 0⟩).setPkt
        { p with started := true, next := 1, reads := [(g, 0, 1)] } := by
  unfold State.cabAtomic
  rw [hp]
  dsimp only
  rw [decide_eq_false (not_not.mpr hk), hturn, Bool.or_self, if_neg Bool.false_ne_true, State.request_some _ _ _ _ hfree]
  rfl

/-- What a load from source `b` leaves as it starts (R377). -/
theorem State.writeLoadCtl_starts {b : Nat} (hload : s.cfg.load = none) (hb : b < 3) (t : State) (ht : s.writeLoadCtl (b + 8) = t) :
    (∃ l, t.cfg.load = some l ∧ l.src = b ∧ l.begun = false) ∧ t.rf F.CFG_LOAD_STAT_BUSY 0 = 1 ∧ t.rf F.CFG_LOAD_CTL_SOURCE 0 = b ∧
      t.cab = s.cab ∧ RegsKept s t [⟨.CFG_LOAD_CTL, 0, 0, 0⟩, ⟨.CFG_LOAD_STAT, 0, 0, 0⟩] := by
  have hstart : bit (b + 8) 3 = true := beq_iff_eq.mpr (by omega)
  have hcode : bits (b + 8) 2 0 = b := by
    unfold bits
    omega
  have hfit : b < 2 ^ F.CFG_LOAD_CTL_SOURCE.width := hb.trans (by decide)
  obtain ⟨u, hu⟩ : ∃ u, u = s.wf F.CFG_LOAD_CTL_SOURCE b 0 := ⟨_, rfl⟩
  have hsrc : u.rf F.CFG_LOAD_CTL_SOURCE 0 = b := hu ▸ State.rf_wf_fits _ F.CFG_LOAD_CTL_SOURCE _ _ _ _ rfl hfit
  have hsu : OnlyRegs s u [⟨.CFG_LOAD_CTL, 0, 0, 0⟩, ⟨.CFG_LOAD_STAT, 0, 0, 0⟩] := hu ▸ (OnlyRegs.refl s _).wf F.CFG_LOAD_CTL_SOURCE _ _ _ _ (.head _)
  have huload : u.cfg.load = none := by rw [hsu.1]; exact hload
  obtain ⟨v, hv⟩ : ∃ v, v = ((u.wf F.CFG_LOAD_CTL_START 1 0).wf F.CFG_LOAD_STAT_BUSY 1 0).wf F.CFG_LOAD_STAT_SOURCE b 0 := ⟨_, rfl⟩
  have huv : OnlyRegs u v [⟨.CFG_LOAD_CTL, 0, 0, 0⟩, ⟨.CFG_LOAD_STAT, 0, 0, 0⟩] := hv ▸ (((OnlyRegs.refl u _).wf F.CFG_LOAD_CTL_START _ _ _ _ (.head _)).wf
    F.CFG_LOAD_STAT_BUSY _ _ _ _ (.tail _ (.head _))).wf F.CFG_LOAD_STAT_SOURCE _ _ _ _ (.tail _ (.head _))
  have hbusy : v.rf F.CFG_LOAD_STAT_BUSY 0 = 1 := by
    rw [hv, State.rf_wf_apart _ _ _ _ _ _ _ _ _ _ rfl rfl]
    exact State.rf_wf_fits _ F.CFG_LOAD_STAT_BUSY _ _ _ _ rfl (by decide)
  have hsource : v.rf F.CFG_LOAD_CTL_SOURCE 0 = b := by
    rw [hv, State.rf_wf_apart _ _ _ _ _ _ _ _ _ _ rfl rfl, State.rf_wf_apart _ _ _ _ _ _ _ _ _ _ rfl rfl,
      State.rf_wf_apart _ _ _ _ _ _ _ _ _ _ rfl rfl, hsrc]
  have hnot : ¬ b = 3 := by omega
  obtain ⟨l, hlsrc, hlbegun, hstep⟩ : ∃ l : Load, l.src = b ∧ l.begun = false ∧ t = v.setCfg { v.cfg with load := some l } := by
    unfold State.writeLoadCtl at ht
    dsimp only at ht
    rw [hstart, if_pos rfl, hcode, ← hu] at ht
    unfold State.startLoad at ht
    dsimp only at ht
    rw [huload, hsrc, if_neg hnot, ← hv] at ht
    exact ⟨_, rfl, rfl, ht.symm⟩
  clear ht
  have hsv := hsu.trans huv
  subst hstep
  refine ⟨⟨l, rfl, hlsrc, hlbegun⟩, (State.setCfg_rf ..).trans hbusy, (State.setCfg_rf ..).trans hsource, ?_, fun q hq => (State.setCfg_reg ..).trans (hsv.2 q hq)⟩
  rw [State.setCfg_cab, hsv.1]

/-- A chunk that leaves the header of a host stream incomplete joins it (R807). -/
theorem State.streamChunk_joins {l : Load} {bs : List Nat} (hload : s.cfg.load = some l) (hcount : l.hdr.count = 0)
    (hshort : l.bytes.length + bs.length < 512) :
    s.streamChunk bs = s.setCfg { s.cfg with load := some { l with bytes := l.bytes ++ bs } } := by
  obtain ⟨x, hx⟩ : ∃ x : Load, x = { l with bytes := l.bytes ++ bs } := ⟨_, rfl⟩
  have hlen : ¬ 512 ≤ x.bytes.length := by
    rw [hx]
    dsimp only
    rw [List.length_append]
    omega
  obtain ⟨u, hu⟩ : ∃ u, u = s.setCfg { s.cfg with load := some x } := ⟨_, rfl⟩
  have huload : u.cfg.load = some x := by rw [hu]; rfl
  have hzero : x.hdr.count = 0 := by rw [hx]; exact hcount
  have hrecords : u.streamRecords (bs.length / 800 + 2) = u := by
    have hno : ¬ (decide (x.src = 3) && decide (x.next < x.hdr.count) && decide (512 + 800 * (x.next + 1) ≤ x.bytes.length)) = true := by
      rw [hzero, decide_eq_false (Nat.not_lt_zero _), Bool.and_false, Bool.false_and]
      exact Bool.false_ne_true
    rw [State.streamRecords, huload]
    exact if_neg hno
  have hshow : ¬ 512 ≤ (l.bytes ++ bs).length := by rw [hx] at hlen; exact hlen
  unfold State.streamChunk
  rw [hload]
  dsimp only
  rw [decide_eq_false hshow, Bool.and_false, if_neg Bool.false_ne_true, if_neg (not_not.mpr rfl), if_neg Bool.false_ne_true, ← hx, ← hu, hrecords,
    huload]
  rfl

end

/-- A packet behind a serial one, so that no opcode performed in order starts it (R820). -/
theorem exec_serial_behind {s : State} {tr tag : Nat} {p : CabPkt} (hp : s.cabPkt tr tag = some p) (hnew : p.started = false)
    (hbehind : s.cabBehind p = true) :
    exec (.cabenRead tr tag) s = .next s ∧ exec (.cabenWrite tr tag) s = .next s ∧ exec (.cabenAtomicAdd tr tag) s = .next s ∧
      exec (.cabenAtomicSwap tr tag) s = .next s ∧ exec (.streamRead tr tag) s = .next s ∧ exec (.streamWrite tr tag) s = .next s := by
  have hmem : ∀ op, s.cabMem op tr tag = s := fun op => by
    unfold State.cabMem
    rw [hp]
    dsimp only
    rw [hnew, hbehind]
    simp
  have hnewOp : ∀ op, s.cabNew tr tag op = none ∨ s.cabNew tr tag op = some p := fun op => by
    unfold State.cabNew
    rw [hp]
    dsimp only
    split
    · exact .inr rfl
    · exact .inl rfl
  have hatomic : ∀ k, s.cabAtomic k tr tag = s := fun k => by
    unfold State.cabAtomic
    rcases hnewOp 0x0A with h | h
    · rw [h]
    · rw [h]
      dsimp only
      rw [hbehind, Bool.or_true, if_pos rfl]
  refine ⟨congrArg _ (hmem _), congrArg _ (hmem _), congrArg _ (hatomic _), congrArg _ (hatomic _), ?_, ?_⟩
  · change execStreamRead tr tag s = _
    unfold execStreamRead
    rw [hp]
    dsimp only
    rw [hnew, hbehind]
    simp
  · change execStreamWrite tr tag s = _
    unfold execStreamWrite
    rcases hnewOp 0x11 with h | h
    · rw [h]
    · rw [h]
      dsimp only
      rw [hbehind, if_pos rfl]

/-! ## Starts, resets and the fault log -/

section
variable {s : State} {tr tag : Nat} {p : CabPkt}

/-- Whether the firmware slot of a start is empty (R1049). -/
def State.startEmpty (s : State) (k : Nat) : Bool :=
  !s.cfg.dirOk || decide ((s.slot (5 + k)).2 = 0) || decide (leNat (s.flashBytes (s.slot (5 + k)).1 4) = 0xFFFFFFFF)

/-- A start from a firmware slot (R811). -/
theorem exec_fwStart_slot {k : Nat} (hp : s.cabNew tr tag 0x1C = some p) (hk : p.params.getD 0 0 = k) (hlt : k < 2) :
    exec (.fwStart tr tag) s = .next (if s.startEmpty k then s.cabFinish p 0x0B 1 []
      else if !s.fwAccepted (s.fwBytes (5 + k)) then s.cabFinish p 0x0B 2 []
      else (s.cabFinish p 0 0 []).fwRuns (k + 1) (leNat (((s.fwBytes (5 + k)).drop 8).take 4))) := by
  refine congrArg Host.Outcome.next ((cabRow_new hp _).trans ?_)
  dsimp only
  rw [hk, if_pos hlt, decide_eq_true hlt, Bool.true_and]
  rfl

theorem State.startEmpty_of {k : Nat}
    (h : s.cfg.dirOk = false ∨ (s.slot (5 + k)).2 = 0 ∨ leNat (s.flashBytes (s.slot (5 + k)).1 4) = 0xFFFFFFFF) : s.startEmpty k = true := by
  unfold State.startEmpty
  rcases h with h | h | h
  · rw [h, Bool.not_false, Bool.true_or, Bool.true_or]
  · rw [decide_eq_true h, Bool.or_true, Bool.true_or]
  · rw [decide_eq_true h, Bool.or_true]

theorem State.startEmpty_not {k : Nat} (hdir : s.cfg.dirOk = true) (hsize : (s.slot (5 + k)).2 ≠ 0)
    (hmark : leNat (s.flashBytes (s.slot (5 + k)).1 4) ≠ 0xFFFFFFFF) : s.startEmpty k = false := by
  unfold State.startEmpty
  rw [hdir, decide_eq_false hsize, decide_eq_false hmark]
  rfl

/-- The reply to a packet of host SPI joins its replies (R792). -/
theorem State.cabFinish_spi (hmute : p.mute = false) (htr : p.tr = 0) {status : Nat} (hstatus : status ≠ 5) (detail : Nat) (data : List Nat) :
    (s.cabFinish p status detail data).cab.replies = s.cab.replies ++ [cabPacket p.op p.tag status detail data] := by
  obtain ⟨k, hk⟩ := State.cabKeep_frame ((s.pktEnded p).cabSend p.tr p.peer (cabPacket p.op p.tag status detail data)) p.tr p.tag
    (cabPacket p.op p.tag status detail data)
  rw [State.cabFinish_reply hmute hstatus, hk, htr]
  rfl

/-- RESET of an island (R816). -/
theorem exec_resetIsland_of (hp : s.cabPkt tr tag = some p) (hop : p.op = 0x28) (hkind : p.params.getD 0 0 = 0) {d i : Nat}
    (hd : d = p.params.getD 1 0) (hi : i = p.params.getD 2 0) : exec (.resetIsland tr tag) s = .next (
      if p.started then (if (s.island d i).underReset then s else s.cabFinish p 0 0 [])
      else if !s.fabDies.contains d then s.cabFinish p 4 1 []
      else if 15 < i then s.cabFinish p 4 2 []
      else if (s.island d i).held then s.cabFinish p 0 0 []
      else (s.setPkt { p with started := true }).beginReset d i 0) := by
  have hgo : ¬ (decide (p.op ≠ 0x28) || decide (p.params.getD 0 0 ≠ 0)) = true := by
    rw [decide_eq_false (not_not.mpr hop), decide_eq_false (not_not.mpr hkind)]
    exact Bool.false_ne_true
  change execResetIsland tr tag s = _
  unfold execResetIsland
  rw [hp]
  dsimp only
  rw [← hd, ← hi]
  exact congrArg Host.Outcome.next (if_neg hgo)

/-- RESET of the Maltster (R816). -/
theorem exec_resetMaltster_of (hp : s.cabNew tr tag 0x28 = some p) (hkind : p.params.getD 0 0 = 1) : exec (.resetMaltster tr tag) s =
    .next { s.cabReset p with rst := { (s.cabReset p).rst with fwReq := true, skip := false, expiries := [] } } :=
  congrArg Host.Outcome.next ((cabRow_new hp _).trans (if_neg (not_not.mpr hkind)))

/-- RESET of the device, with no reset asked for (R816, R1037). -/
theorem exec_resetDevice_of (hp : s.cabNew tr tag 0x28 = some p) (hkind : p.params.getD 0 0 = 2) (hreset : s.rst.inReset = false)
    (hpor : s.rst.por = false) (hnone : s.rst.devReq = none) : exec (.resetDevice tr tag) s =
    .next { s.cabReset p with rst := { (s.cabReset p).rst with devReq := some 3 } } := by
  obtain ⟨u, hu⟩ : ∃ u, u = s.cabReset p := ⟨_, rfl⟩
  have hkept : u.rst.inReset = false ∧ u.rst.por = false ∧ u.rst.devReq = none := by
    have hrst : (s.cabFinish p 0 0 []).rst = s.rst := (RstKept.refl s).cabFinish
    rw [hu]
    unfold State.cabReset
    dsimp only
    rw [hrst]
    exact ⟨hreset, hpor, hnone⟩
  obtain ⟨hureset, hupor, hunone⟩ := hkept
  have hexec : exec (.resetDevice tr tag) s = .next (u.askReset 3) :=
    hu ▸ congrArg Host.Outcome.next ((cabRow_new hp _).trans (if_neg (not_not.mpr hkind)))
  rw [hexec, State.askReset_free hureset hupor, hunone, ← hu]
  rfl

/-- The words of a fault record as FAULT_READ returns them (R817). -/
theorem exec_faultRead_of (hp : s.cabNew tr tag 0x29 = some p) {n : Nat} (hn : n = min (p.params.getD 0 0) s.fm.log.length) :
    exec (.faultRead tr tag) s = .next (
      let d := (s.fm.log.take n).flatMap fun r => wordData [dataWord r.w0, dataWord r.w1, dataWord r.w2, ⟨BitVec.ofNat 48 r.w3, tagEnd⟩]
      if p.params.getD 1 0 % 2 = 1 then (s.setFm { s.fm with log := s.fm.log.drop n }).cabFinish p 0 (min 255 (s.fm.log.length - n)) d
      else s.cabFinish p 0 (min 255 (s.fm.log.length - n)) d) := by
  have htake : s.fm.log.take (p.params.getD 0 0) = s.fm.log.take n := by
    rw [hn, List.take_eq_take_iff, Nat.min_assoc, Nat.min_self]
  have hlen : (s.fm.log.take n).length = n := by
    rw [List.length_take, hn]
    omega
  refine congrArg Host.Outcome.next ((cabRow_new hp _).trans ?_)
  dsimp only
  rw [htake, hlen]
  by_cases hodd : p.params.getD 1 0 % 2 = 1
  · have hbit : bit (p.params.getD 1 0) 0 = true := bit_of_mod (by rw [Nat.pow_zero, Nat.div_one]; exact hodd)
    rw [hbit, if_pos rfl, if_pos rfl, if_pos hodd]
    dsimp only [State.setFm]
    rw [List.length_drop]
  · have hbit : ¬ bit (p.params.getD 1 0) 0 = true := fun h => hodd (by
      have hmod : p.params.getD 1 0 / 2 ^ 0 % 2 = 1 := beq_iff_eq.mp h
      rwa [Nat.pow_zero, Nat.div_one] at hmod)
    rw [if_neg hbit, if_neg hbit, if_neg hodd]

/-- A READ with every word asked for and answered ends (R799, R800). -/
theorem exec_cabenRead_ends (hp : s.cabPkt tr tag = some p) (hop : p.op = 0x08) (hstarted : p.started = true) (hreads : p.reads = [])
    (hrun : p.cancelled = false) (hall : parNat p.params 6 2 ≤ p.next) : exec (.cabenRead tr tag) s =
      .next (s.cabFinish p (if p.status = 0 then 0 else 8) p.status (wordData (gotPrefix p.got 0 p.got.length))) := by
  obtain ⟨htr, htag, -⟩ := State.cabPkt_some hp
  have hsame : ({ p with started := true } : CabPkt) = p := by rw [← hstarted]
  obtain ⟨u, hu⟩ : ∃ u, s.setPkt p = u := ⟨_, rfl⟩
  have hup : u.cabPkt tr tag = some p := by
    rw [← hu]
    exact State.cabPkt_setPkt hp
  have hdata : p.data = wordData (gotPrefix p.got 0 p.got.length) := by
    unfold CabPkt.data
    rw [hop]
    rfl
  have hend : u.cabMemEnd tr tag = u.cabFinish p (if p.status = 0 then 0 else 8) p.status p.data := by
    unfold State.cabMemEnd
    rw [hup]
    dsimp only
    rw [hreads, hrun, if_neg (by decide), if_neg (by decide), if_neg (Nat.not_lt.mpr hall)]
    by_cases hz : p.status = 0
    · rw [if_neg (not_not.mpr hz), if_pos hz, hz]
    · rw [if_pos hz, if_neg hz]
  change Host.Outcome.next (s.cabMem 0x08 tr tag) = _
  rw [State.cabMem_turn hp hop (.inl hstarted), hsame, hu, State.cabIssue_done hup hall 599, hend, hdata, ← hu]
  exact congrArg Host.Outcome.next (s.cabFinish_setPkt rfl rfl _ _ _)

/-- LOAD starts the load from its source (R806). -/
theorem exec_load_starts {b : Nat} {rest : List CabPkt} (hpkts : s.cab.pkts = p :: rest) (htr : p.tr = tr) (htag : p.tag = tag) (hop : p.op = 0x18)
    (hnew : p.started = false) (hload : s.cfg.load = none) (hb : b = p.params.getD 0 0) (hlt : b < 3)
    (hrest : ∀ r, r ∈ rest → ¬(r.tr = tr ∧ r.tag = tag)) :
    ∃ t l, exec (.load tr tag) s = .next t ∧ t.cab = { s.cab with pkts := { p with started := true } :: rest } ∧ t.cfg.load = some l ∧
      l.src = b ∧ l.begun = false ∧ t.rf F.CFG_LOAD_STAT_BUSY 0 = 1 ∧ t.rf F.CFG_LOAD_CTL_SOURCE 0 = b ∧
      RegsKept s t [⟨.CFG_LOAD_CTL, 0, 0, 0⟩, ⟨.CFG_LOAD_STAT, 0, 0, 0⟩] := by
  have hp := State.cabNew_intro (State.cabPkt_head hpkts htr htag) hop hnew
  obtain ⟨u, hu⟩ : ∃ u, s.setPkt { p with started := true } = u := ⟨_, rfl⟩
  have hstart : u = s.setCab { s.cab with pkts := { p with started := true } :: rest } := by
    rw [← hu]
    exact State.setPkt_head hpkts rfl rfl (by dsimp only; rw [htr, htag]; exact hrest)
  have huload : u.cfg.load = none := by rw [hstart]; exact hload
  obtain ⟨t, ht⟩ : ∃ t, u.writeLoadCtl (b + 8) = t := ⟨_, rfl⟩
  obtain ⟨⟨l, hl, hsrc, hbegun⟩, hbusy, hsource, hcab, hkept⟩ := u.writeLoadCtl_starts huload hlt t ht
  have hfour : ¬ b = 4 := by omega
  have hexec : exec (.load tr tag) s = .next t := by
    refine congrArg Host.Outcome.next ((cabRow_new hp _).trans ?_)
    dsimp only
    rw [hload, ← hb, hu, if_neg (by decide), if_neg hfour, ht]
  refine ⟨t, l, hexec, by rw [hcab, hstart]; rfl, hl, hsrc, hbegun, hbusy, hsource, fun q hq => (hkept q hq).trans ?_⟩
  rw [hstart]
  exact State.setCab_reg ..

/-- A chunk at the end of a host stream joins it (R807). -/
theorem exec_streamImage_joins {l : Load} (hp : s.cabNew tr tag 0x19 = some p) (hlow : 4 ≤ s.rf F.DEV_ROLE_BOOT 0)
    (hhigh : s.rf F.DEV_ROLE_BOOT 0 ≤ 6) (hnot : s.imageLoaded = false) (hload : s.cfg.load = some l) (hsrc : l.src = 3) (hcount : l.hdr.count = 0)
    (hoff : parNat p.params 0 4 = l.bytes.length) (hpos : 0 < l.bytes.length) (hshort : l.bytes.length + (p.params.drop 4).length < 512) :
    exec (.streamImage tr tag) s =
      .next ((s.setCfg { s.cfg with load := some { l with bytes := l.bytes ++ p.params.drop 4 } }).cabFinish p 0 0 []) := by
  obtain ⟨u, hu⟩ : ∃ u, u = s.setCfg { s.cfg with load := some { l with bytes := l.bytes ++ p.params.drop 4 } } := ⟨_, rfl⟩
  have hjoin : s.streamChunk (p.params.drop 4) = u := hu ▸ State.streamChunk_joins hload hcount hshort
  have hgo : ¬ (!(decide (4 ≤ s.rf F.DEV_ROLE_BOOT 0) && decide (s.rf F.DEV_ROLE_BOOT 0 ≤ 6)) || s.imageLoaded) = true := by
    rw [decide_eq_true hlow, decide_eq_true hhigh, hnot]
    decide
  have hother : ¬ (l.src != 3) = true := by rw [hsrc]; decide
  have hplace : ¬ (decide (l.bytes.length ≠ 0) && decide (l.bytes.length ≠ l.bytes.length)) = true := by
    rw [decide_eq_false (not_not.mpr (rfl : l.bytes.length = l.bytes.length)), Bool.and_false]
    exact Bool.false_ne_true
  have hmore : ¬ l.bytes.length = 0 := by omega
  have hloading : (u.cfg.load.isSome || u.imageLoaded) = true := by rw [hu]; rfl
  rw [← hu]
  refine congrArg Host.Outcome.next ((cabRow_new hp _).trans ?_)
  dsimp only
  rw [if_neg hgo, hload]
  simp only [if_pos hsrc]
  rw [if_neg hother, hoff, if_neg hplace, if_neg hmore, hjoin, if_pos hloading]

/-- What a choice of three gives, case by case. -/
theorem ite_cases {α : Type} {c d : Prop} {_ : Decidable c} {_ : Decidable d} (x y z : α) :
    let t := if c then x else if d then y else z
    if c then t = x else if d then t = y else t = z := by
  dsimp only
  by_cases hc : c
  · rw [if_pos hc, if_pos hc]
  · by_cases hd : d
    · rw [if_neg hc, if_neg hc, if_pos hd, if_pos hd]
    · rw [if_neg hc, if_neg hc, if_neg hd, if_neg hd]

/-- GOLDEN_UNLOCK for the device's own number, over host SPI where the secure fuse is blown (R810). -/
theorem exec_goldenUnlock_of (hp : s.cabNew tr tag 0x1B = some p) : exec (.goldenUnlock tr tag) s =
    .next (if parNat p.params 4 2 ≠ s.devNum % 512 then s.cabFinish p 4 4 []
      else if s.cfg.fuses.secureEn = true ∧ tr ≠ 0 then s.cabFinish p 7 3 []
      else (s.wf F.CFG_NV_STAT_GOLDEN_OPEN 1 0).cabFinish p 0 0 []) := by
  refine congrArg Host.Outcome.next ((cabRow_new hp _).trans ?_)
  by_cases hnum : parNat p.params 4 2 ≠ s.devNum % 512
  · rw [if_pos hnum, if_pos hnum]
  · rw [if_neg hnum, if_neg hnum]
    by_cases hsec : s.cfg.fuses.secureEn = true ∧ tr ≠ 0
    · rw [if_pos hsec, if_pos (by rw [hsec.1, decide_eq_true hsec.2]; rfl)]
    · rw [if_neg hsec, if_neg (by simpa using hsec)]

/-- The firmware of a slot runs, with its packet answered on host SPI (R811, R1047). -/
theorem State.fwRuns_started (hmute : p.mute = false) (htr : p.tr = 0) {slot : Nat} (hslot : slot < 4) (version : Nat) (t : State)
    (ht : (s.cabFinish p 0 0 []).fwRuns slot version = t) :
    t.rf F.CABEN_STAT_BOOT_SM 0 = 0 ∧ t.rf F.RST_STAT_FW_SLOT 0 = slot ∧ t.cab.ready = true ∧ t.rst.fwVersion = version ∧
      t.cab.replies = s.cab.replies ++ [cabPacket p.op p.tag 0 0 []] := by
  obtain ⟨hsm, hcode, m, l, hframe⟩ := State.fwRuns_frame (s.cabFinish p 0 0 []) t hslot version ht
  refine ⟨hsm, hcode, ?_, ?_, ?_⟩
  · rw [hframe]
  · rw [hframe]
  · rw [hframe]
    exact State.cabFinish_spi hmute htr (by decide) 0 []

end

/-! ## The statement -/

/-- Settles O55, opcode by opcode, from what each start, each answer and each reset leaves. -/
theorem cabenAccessesMemoryStreamsAndResets : Obligations.CabenAccessesMemoryStreamsAndResets := by
  unfold Obligations.CabenAccessesMemoryStreamsAndResets
  refine ⟨?read, ?write, ?behind, ?readEnd, ?atomic, ?streamRead, ?streamRefused, ?streamWrite, ?load, ?imageRefused, ?chunk, ?golden, ?fwStart,
    ?island, ?maltster, ?device, ?faults⟩
  case read =>
    intro s tr tag a c g p rest hpkts htr htag hop hnew hnext hreads hrun ha hc hone hfits hrest hfree
    exact ⟨_, _, exec_cabenRead_starts hpkts htr htag hop hnext hreads hrun ha hc hone hfits hrest hfree, rfl, ⟨rfl, rfl⟩, rfl, rfl, rfl⟩
  case write =>
    intro s tr tag a c g p rest hpkts htr htag hop hnew hnext hreads hrun ha hc hone hfits hrest hfree
    exact ⟨_, _, _, exec_cabenWrite_starts hpkts htr htag hop hnext hreads hrun ha hc hone hfits hrest hfree, rfl, rfl, s.inject_issued _ _ _⟩
  case behind =>
    intro s tr tag p q hpkts hptr hqtr hptag hqtag hnew hserial _
    have hp : s.cabPkt tr tag = some p := by
      unfold State.cabPkt
      rw [hpkts]
      simp [hptr, hptag, hqtag]
    exact ⟨s, rfl, exec_serial_behind hp hnew (State.cabBehind_serial hpkts (hqtr.trans hptr.symm) (hptag ▸ hqtag) hserial)⟩
  case readEnd =>
    intro s tr tag p hp hop hstarted hreads hrun hall
    exact ⟨_, exec_cabenRead_ends hp hop hstarted hreads hrun hall, rfl⟩
  case atomic =>
    intro s k tr tag g p rest hpkts htr htag hop hnew hk hrest hfree
    have hp := State.cabNew_intro (State.cabPkt_head hpkts htr htag) hop hnew
    have hturn := State.cabAtomic_turn hp hk (State.cabBehind_head hpkts) hfree
    obtain ⟨x, hx⟩ : ∃ x : Txn, x = ⟨if k = 0 then .add else .swap, 0, 1, g, parNat p.params 2 6, 1, 48, 0, [parWord p.params 8 0], .requests, 0⟩ :=
      ⟨_, rfl⟩
    obtain ⟨u, hu⟩ : ∃ u : CabPkt, u = { p with started := true, next := 1, reads := [(g, 0, 1)] } := ⟨_, rfl⟩
    have hset : (s.issued x).setPkt u = (s.issued x).setCab { s.cab with pkts := u :: rest } :=
      State.setPkt_head (s := s.issued x) (p := p) hpkts (by rw [hu]) (by rw [hu]) (by rw [hu]; dsimp only; rw [htr, htag]; exact hrest)
    rw [← hx, ← hu, hset] at hturn
    refine ⟨_, x, u, hx, rfl, hu, fun hz => ?_, fun hz => ?_⟩
    · subst hz
      exact congrArg Host.Outcome.next hturn
    · subst hz
      exact congrArg Host.Outcome.next hturn
  case streamRead =>
    intro s tr tag g p rest hpkts htr htag hop hnew hnext hreads hrun hone hen hrest hfree
    exact ⟨_, _, exec_streamRead_starts hpkts htr htag hop hnew hnext hreads hrun hone hen hrest hfree, rfl, rfl⟩
  case streamRefused =>
    intro s tr tag p hpkts htr htag hnew
    have hp := State.cabPkt_head hpkts htr htag
    have hturn := State.cabBehind_head hpkts
    refine ⟨_, _, rfl, rfl, fun hop hoff => ?_, fun hop hclosed => ?_⟩
    · refine Host.Outcome.next.inj ((exec_streamRead_turn hp hop hnew hturn).trans ?_)
      rw [State.rb_of_rf_zero hoff]
      rfl
    · refine Host.Outcome.next.inj ((exec_streamWrite_turn (State.cabNew_intro hp hop hnew) hturn rfl rfl).trans ?_)
      rw [if_pos hclosed]
  case streamWrite =>
    intro s tr tag c n p hpkts htr htag hop hnew hc hopen hn
    have hexec := exec_streamWrite_turn (State.cabNew_intro (State.cabPkt_head hpkts htr htag) hop hnew) (State.cabBehind_head hpkts) hc hn
    rw [if_neg (not_not.mpr hopen), leBytes_two] at hexec
    exact ⟨_, hexec, rfl⟩
  case load =>
    intro s tr tag b p rest hpkts htr htag hop hnew hload hb hlt hrest
    exact exec_load_starts hpkts htr htag hop hnew hload hb hlt hrest
  case imageRefused =>
    intro s tr tag p hp hbad
    have hrefused : (!(decide (4 ≤ s.rf F.DEV_ROLE_BOOT 0) && decide (s.rf F.DEV_ROLE_BOOT 0 ≤ 6)) || s.imageLoaded) = true := by
      rcases hbad with h | h | h
      · rw [decide_eq_false (Nat.not_le.mpr h)]
        rfl
      · rw [decide_eq_false (Nat.not_le.mpr h), Bool.and_false]
        rfl
      · rw [h, Bool.or_true]
    exact ⟨_, congrArg Host.Outcome.next ((cabRow_new hp _).trans (if_pos hrefused)), rfl⟩
  case chunk =>
    intro s tr tag p l hp hlow hhigh hnot hload hsrc hcount hoff hpos hshort
    exact ⟨_, exec_streamImage_joins hp hlow hhigh hnot hload hsrc hcount hoff hpos hshort, rfl⟩
  case golden =>
    intro s tr tag p hp
    exact ⟨_, exec_goldenUnlock_of hp, ite_cases _ _ _⟩
  case fwStart =>
    intro s tr tag k p hp hk hlt hmute htr
    obtain ⟨hpkt, -, -⟩ := State.cabNew_some hp
    obtain ⟨hptr, -, -⟩ := State.cabPkt_some hpkt
    refine ⟨_, exec_fwStart_slot hp hk hlt, fun hempty => if_pos (State.startEmpty_of hempty), fun hdir hsize hmark => ?_⟩
    rw [State.startEmpty_not hdir hsize hmark, if_neg Bool.false_ne_true]
    generalize s.fwAccepted (s.fwBytes (5 + k)) = ok
    cases ok with
    | true => exact State.fwRuns_started hmute (hptr.trans htr) (by omega) _ _ rfl
    | false => rfl
  case island =>
    intro s tr tag d i p hp hop hkind hd hi
    refine ⟨_, exec_resetIsland_of hp hop hkind hd hi, fun hst hreset => ?_, fun hst hreset => ?_, fun hst hout => ?_, fun hst hin hbig => ?_,
      fun hst hin hsmall hheld => ?_⟩
    · rw [if_pos hst, if_pos hreset]
    · rw [if_pos hst, hreset, if_neg Bool.false_ne_true]
    · rw [hst, if_neg Bool.false_ne_true, if_pos (by simpa using hout)]
    · rw [hst, if_neg Bool.false_ne_true, if_neg (by simpa using hin), if_pos (show 15 < i from hbig)]
    · rw [hst, if_neg Bool.false_ne_true, if_neg (by simpa using hin), if_neg (by omega), hheld, if_neg Bool.false_ne_true]
  case maltster =>
    intro s tr tag p hp hkind
    exact ⟨_, _, exec_resetMaltster_of hp hkind, rfl, rfl⟩
  case device =>
    intro s tr tag p hp hkind hreset hpor hnone
    exact ⟨_, _, exec_resetDevice_of hp hkind hreset hpor hnone, rfl, rfl⟩
  case faults =>
    intro s tr tag n p hp hn
    refine ⟨_, _, exec_faultRead_of hp hn, rfl, fun heven => ?_, fun hodd => ?_⟩
    · exact if_neg (by omega)
    · exact if_pos hodd

end Sys2Proof.Machine
end
